-- ==== Sys2Proof/Word.lean ====
section
/-!
DEFINITION. The words of the module and their plainest arithmetic: bytes and words, the sparse table that holds
everything indexed, bit fields (R12) and the two byte orders (R13).
-/
namespace Sys2Proof

/-- A byte. -/
abbrev Byte := BitVec 8
/-- A 16-bit word. -/
abbrev U16 := BitVec 16
/-- A 32-bit word. -/
abbrev U32 := BitVec 32
/-- A 64-bit word. -/
abbrev U64 := BitVec 64

/-- A sparse array: the elements that differ from the array's default element, keys strictly rising. The functions
that read and write it stand in `Machine/Tab.lean`. -/
abbrev Tab (α : Type) := List (Nat × α)

/-- Bit `k` of the natural number `n` (R12: bit 0 is the least significant). -/
abbrev bit (n k : Nat) : Bool := n.testBit k

/-- Bits `[lo + w - 1 : lo]` of `n` (R12). -/
abbrev bits (n lo w : Nat) : Nat := (n >>> lo) % 2 ^ w

/-- `n` with bits `[lo + w - 1 : lo]` replaced by the low `w` bits of `v`. -/
abbrev setBits (n lo w v : Nat) : Nat :=
  n - (bits n lo w) * 2 ^ lo + (v % 2 ^ w) * 2 ^ lo

/-- 0 or 1. -/
abbrev b2n (b : Bool) : Nat := if b then 1 else 0

/-- The signed reading of the low `w` bits of `n` (R14: two's complement). -/
abbrev toSigned (w n : Nat) : Int :=
  if n % 2 ^ w < 2 ^ (w - 1) then (n % 2 ^ w : Nat) else (n % 2 ^ w : Nat) - (2 ^ w : Nat)

/-- The `w`-bit two's complement pattern of an integer (R14). -/
abbrev ofSigned (w : Nat) (i : Int) : Nat := (i % (2 ^ w : Nat)).toNat

/-- A counter of `w` bits that saturates at its top value. -/
abbrev satInc (w n : Nat) : Nat := if n + 1 < 2 ^ w then n + 1 else 2 ^ w - 1

/-- A counter of `w` bits that wraps. -/
abbrev wrapInc (w n : Nat) : Nat := (n + 1) % 2 ^ w

end Sys2Proof
end

