-- ==== Sys2Proof/Syntax.lean ====
section
/-!
DEFINITION. The commands the block takes from outside: every row of the opcode table as one constructor of `Instr`, with the
data that reach the module with it. Mailbox commands carry the datagram as it arrives; events of the plant, the partner
and the hardware carry what the module observes. Every command's first operand `dt` is the number of time-base ticks (R17)
that pass before it.
-/
namespace Sys2Proof

/-- The transport a request arrives on (R67): the plant network (both PRP LANs are one transport, R75) or the service
port. -/
inductive Via where
  | plant
  | service
deriving DecidableEq, Repr

/-- A UDP datagram to port 47210, or one IPv4 fragment of it (R67): `total` is the length of the whole UDP payload, `off`
the place of `data` in it. -/
structure Packet where
  via : Via
  addr : U32
  port : U16
  ident : U16
  off : Nat
  total : Nat
  data : List Byte
deriving DecidableEq, Repr

/-- A register write: by PARAM_WRITE from a host, or by a store to the trigger port from inside (R371). -/
inductive RegWrite where
  | host (p : Packet)
  | port (mask : Nat)
deriving DecidableEq, Repr

/-- The head of a lane frame as it arrives (R29, R258, R259): lane, good frame check, sync sequence number, sender slot and
protocol revision. -/
structure LaneHdr where
  lane : Nat
  good : Bool
  seq : Nat
  slot : Nat
  revision : Nat
deriving DecidableEq, Repr

/-- What the hardware finds in the self-test of M1 (R36, R541): the injection tests in the order they were made, with their retests
(pair, CPS as 10; bit k set for a lane that passed) (R299, R300); the steps of R46 that failed among 2 DRAM, 3 flash, 7 retained
restore and 8 hold-up measurement, with the resource of R313 or 0xFF; whether the image of FW-A and of FW-B passes its check
(R515); and the hold-up measured, binary32 ms (R527). -/
structure SelfTest where
  tests : List (Nat × U64)
  failed : List (Nat × Nat)
  images : List Bool
  holdup : Nat
deriving DecidableEq, Repr

/-- What a task's run hands to its close (R135, R140): the values of its analogue and binary output points in slice order, the
64-byte lines it wrote to its state area (line number, contents), and its run time in ticks. -/
structure CloseData where
  ap : List Nat
  bp : List Nat
  lines : List (Nat × List Byte)
  run : Nat
deriving DecidableEq, Repr

/-- An agreed input frame (R261). Auxiliary items: result records of 16 bytes and HART records of 64 bytes, each as the number
its little-endian image spells. -/
structure AgreedIn where
  task : Nat
  forces : Bool
  skip : Bool
  epoch : Nat
  osn : Nat
  stamp : Nat
  ap : List Nat
  bp : List Nat
  results : List Nat
  harts : List Nat
  digest : Nat
  pairWord : Nat
deriving DecidableEq, Repr

/-- A digest frame (R264): AO commands before share (binary32) by output, DO states by output. -/
structure DigestIn where
  task : Nat
  osn : Nat
  digest : Nat
  ao : List (Nat × Nat)
  dos : List (Nat × Bool)
deriving DecidableEq, Repr

/-- One member of a loop agreement frame (R208): record, raw measurement and setpoint as binary64, their validity, injection (the
generator and d, binary64) and tracking value (binary64), if any. -/
structure LoopIn where
  record : Nat
  meas : Nat
  sp : Nat
  valid : Bool
  inj : Option (Nat × Nat)
  track : Option Nat
  spValid : Bool
  stale : Bool
deriving DecidableEq, Repr

/-- A converter's conversion as its window ends (R365): the 24-bit code, and for the cold-junction sensor the temperature
(binary32 °C) and whether the sensor is open. -/
structure ConvIn where
  code : Nat
  celsius : Nat
  open_ : Bool
deriving DecidableEq, Repr

/-- What the excitation monitor saw in the half-period that ends (R379): drive current in µA, RTD compliance exceeded, sensed
voltage in per mille of the set level. -/
structure ExcIn where
  drive : Nat
  compliance : Bool
  sensed : Nat
deriving DecidableEq, Repr

/-- What a stage measures in an I/O bus frame (R393, R395): its current (mA), terminal voltage, supply voltage (V) and junction
temperature (°C), binary32 each. -/
structure StageIn where
  current : Nat
  terminal : Nat
  supply : Nat
  junction : Nat
deriving DecidableEq, Repr

/-- A HART frame as a modem hears it (R400–R406): free of checksum, parity and framing errors, HART command, response code and field
device status, the data bytes after them, and of a response to command 0 the universal revision and the unique identifier. -/
structure HartIn where
  good : Bool
  command : Nat
  rc : Nat
  ds : Nat
  data : List Byte
  rev : Nat
  ident : Nat
deriving DecidableEq, Repr

/-- An Announce as a PTP port receives it (R448, R454): the master's data set as one number that compares as IEEE 1588 compares it
(lower is better), grandmaster identity, steps removed, currentUtcOffset, and the IEEE 1588 state number that the best master
clock algorithm then gives the port. -/
structure AnnIn where
  prio : Nat
  gm : U64
  steps : Nat
  utc : Int
  state : Nat
deriving DecidableEq, Repr

/-- The input lines of a reference as sampled when an edge is taken in (R162–R164). -/
structure EdgeIn where
  /-- Levels: bit 0 PHnA, bit 1 PHnB, bit 2 PHnZ, bit 3 the AC sense input above 0 V. -/
  levels : Nat
  /-- Ticks for which these levels have held. -/
  held : Nat
  /-- The lowest voltage of the AC sense input since the previous zero-cross edge, binary32. -/
  low : Nat
deriving DecidableEq, Repr

/-- The memory areas of R22; an own fixed map's parts (R336) and the unit areas inside the firmware area count as areas. -/
inductive Area where
  | firmware | code | retained | image | slices | tables | converter | capture | working
  | laneBuffers | archiveStaging | networkBuffers | ownCode | ownConst | ownState
deriving DecidableEq, Repr

/-- An access to DRAM as it is checked (R336–R342): requester, context, task if a task's, area, byte address, length, kind
(0 read, 1 write, 2 execute), instruction address, and whether it goes through the image port. -/
structure Access where
  rq : Nat
  ctx : Nat
  task : Nat
  area : Area
  addr : Nat
  len : Nat
  kind : Nat
  iaddr : Nat
  port : Bool
deriving DecidableEq, Repr

/-- One loop record's state (R193, R195). M0. Values are binary64 but for the output. -/
structure LoopRec where
  e1 : Nat := 0
  e2 : Nat := 0
  e3 : Nat := 0
  u1 : Nat := 0
  u2 : Nat := 0
  u3 : Nat := 0
  /-- LastOutput, binary32 (R193): 0.0. -/
  out : Nat := 0
  /-- LastWriteTime, uint64 ns (R193): 0. -/
  outTime : Nat := 0
  /-- EvalCount, uint32, saturating (R193): 0. -/
  count : Nat := 0
  /-- FAULTED, INPUT_INVALID, TRACKING, SELECTED, LIMITED_HIGH, LIMITED_LOW, INJECTING, INIT_PENDING (R195): false. -/
  faulted : Bool := false
  invalid : Bool := false
  tracking : Bool := false
  selected : Bool := false
  limHigh : Bool := false
  limLow : Bool := false
  injecting : Bool := false
  init : Bool := false
  /-- UNBOUND (R195, R196): false. -/
  unbound : Bool := false
deriving DecidableEq, Repr

/-- The engine's state of one alarm entry (R223, R225). M0. -/
structure AlEnt where
  /-- State bits ACTIVE, UNACKED, SHELVED, SUPPRESSED, RAW, INVALID, LATCHED, FAULTED (R225): false. -/
  active : Bool := false
  unacked : Bool := false
  shelved : Bool := false
  suppressed : Bool := false
  raw : Bool := false
  invalid : Bool := false
  latched : Bool := false
  faulted : Bool := false
  /-- DelayCount, uint32 (R223): 0. -/
  delay : Nat := 0
  /-- RateBase, binary32 (R223): 0.0, and whether a base has been set since the rate base restarted (R228): false. -/
  rateBase : Nat := 0
  based : Bool := false
  /-- RatePhase, uint16 (R223): 0. -/
  ratePhase : Nat := 0
  /-- ShelveLeft, uint32 scans (R223): 0. -/
  shelveLeft : Nat := 0
  /-- LastValue, binary32 (R223): 0.0. -/
  lastValue : Nat := 0
  /-- LastChangeTime, uint64 ns (R223): 0. -/
  lastChange : Nat := 0
  /-- Scans since the scan that set UNACKED (R237): 0. -/
  unackScans : Nat := 0
  /-- Unshelved by command while ACTIVE: it annunciates anew in the next scan (R236): false. -/
  again : Bool := false
deriving DecidableEq, Repr

/-- The engine's state of one alarm group (R231). M0. -/
structure AlGrp where
  /-- ActiveCount, UnackedCount, MemberCount, uint16 each (R231): 0. -/
  active : Nat := 0
  unacked : Nat := 0
  members : Nat := 0
  /-- FirstEntry, uint16 (R231): none, which reads 0xFFFF. -/
  first : Option Nat := none
  /-- SUPPRESSED (R231): false. -/
  suppressed : Bool := false
  /-- FirstTime, uint64 ns (R231): 0. -/
  firstTime : Nat := 0
  /-- ReleaseLeft, uint16 scans (R231): 0. -/
  releaseLeft : Nat := 0
deriving DecidableEq, Repr

/-- The call ladder (R239–R245). M0. -/
structure Ladder where
  /-- LadderState [31:30] (R253): 0 IDLE. -/
  state : Nat := 0
  /-- LadderState [29:27], cause of the last stop (R253): 0. -/
  cause : Nat := 0
  /-- Present rung, 1–8; 0 while IDLE (R240): 0. -/
  rung : Nat := 0
  /-- RungLeft, 24 bits (R240): 0. -/
  left : Nat := 0
  /-- Scans since rung entry, for repeats and pulses (R239, R240): 0. -/
  scans : Nat := 0
  /-- LadderRunNumber, uint32 (R253): 0 on entry to M0. -/
  run : Nat := 0
  /-- LadderStartTime, uint64 ns (R253): 0. -/
  startTime : Nat := 0
  /-- LadderStarter, uint16 (R253): 0xFFFF. -/
  starter : Nat := 0xFFFF
  /-- CallMessageCount, uint32: Cmn of the last message (R242): 0. -/
  cmn : Nat := 0
  /-- An acknowledgement applied since the last scan: cause (1 LADDER_ACK, 2 network), CallCode, session (R240): none. -/
  acked : Option (Nat × Nat × Nat) := none
deriving DecidableEq, Repr

/-- An alarm agreement frame (R248): ScanNumber, S, the snapshot (unlisted points 0), edge flags, table digest, and the commands
to be applied after its release: command code, body, session. -/
structure AlarmIn where
  scan : Nat
  at_ : Nat
  ap : Tab Nat
  bp : Tab Nat
  edges : Nat
  digest : Nat
  cmds : List (Nat × List Byte × Nat)
deriving DecidableEq, Repr

/-- An alarm exchange frame (R249, R272): a signature of a scan, a borrow request for an entry, or the answer to one. -/
inductive ExchIn where
  | signature (scan : Nat) (sig : U64)
  | ask (entry : Nat)
  | answer (entry : Nat) (st : AlEnt)
deriving DecidableEq, Repr

/-- What the Curator measures at each 100 ms (R537, R538): PWR-A and PWR-B (V), input power (W), inlet and hottest die
temperature (°C), binary32 each. -/
structure DiagIn where
  pwrA : Nat
  pwrB : Nat
  power : Nat
  inlet : Nat
  die : Nat
deriving DecidableEq, Repr

/-- One item of a copy data frame (R275): a 64-byte line of a task's state area, a task's epoch and OSN, its previous edge states,
a force (kind, point, value), a constant patch (symbol, value), a live edit of a parameter or of a table entry, a loop
record's states, the LSN, an alarm entry's, a group's and the ladder's states, an AO command, a DO state. -/
inductive CopyItem where
  | line (task n : Nat) (bytes : List Byte)
  | stream (task epoch osn : Nat)
  | edges (task : Nat) (prev : List (Nat × Nat))
  | force (kind point value : Nat)
  | patch (sym value : Nat)
  | param (index value : Nat)
  | entry (table n value : Nat)
  | loop (r : Nat) (x : LoopRec)
  /-- LSN and the signature folded so far: the loop states are complete (R209). -/
  | lsn (n : Nat) (fold : U64)
  /-- The receiver's loop states (0) or alarm states (1) are wanted (R209, R249). -/
  | ask (what : Nat)
  /-- The alarm states begin: the sender's ScanNumber; what does not follow holds its reset state (R249). -/
  | alarms (scan : Nat)
  | alarm (n : Nat) (x : AlEnt)
  | group (g : Nat) (x : AlGrp)
  | ladder (x : Ladder)
  | ao (n value : Nat)
  | sw (m : Nat) (on : Bool)
deriving DecidableEq, Repr

/-- A switch-instant announcement (R39, R42, R268, R271, R276, R280). `what`: 0 change of both modules (arg: the receiver's mode),
1 the sender withdraws (arg: its mode), 2 join, 3 role swap (arg: cause), 4 end of a resynchronisation, 5 confirmation,
6 refusal, and from a STANDBY the requests 7 for its withdrawal (arg: its mode), 8 for a role swap (arg: cause), 9 for a change
of both modules (arg: the mode). `streams`: epoch and OSN of each task, from the module that becomes PRIMARY. -/
structure SwitchIn where
  what : Nat
  at_ : Nat
  arg : Nat
  streams : List (Nat × Nat)
deriving DecidableEq, Repr

/-- A pair-effective command on the lanes (R83). `stage`: 0 the PRIMARY announces it for boundary `at_`, 1 the STANDBY passes it to
the PRIMARY, 2 the PRIMARY's outcome (status code and Argument) for the request of that session and RequestCounter. -/
structure RelayIn where
  stage : Nat
  code : Nat
  at_ : Nat
  session : U32
  counter : Nat
  status : Nat
  arg : Nat
  body : List Byte
deriving DecidableEq, Repr

/-- A mailbox frame that crosses the lanes (R69): the mailbox and either a forwarded request with where it came from, or the
partner's response. `sid`, `nonce` and `begun` are what OPEN_SESSION and CAN_CANCEL take from the module's surroundings. -/
inductive ForwardIn where
  | request (box : Nat) (via : Via) (addr : U32) (port : U16) (bytes : List Byte) (sid : U32) (nonce : List Byte) (begun : Bool)
  | response (box : Nat) (bytes : List Byte)
deriving DecidableEq, Repr

/-- An accession frame (R260, R273): whether the sender asks to join, its mode, CarrierSlot, ProgramDigest, ConfigDigest, lowest and
highest sync-lane revision, FeatureLevel, OptionMask, SerialNumber, FirmwareRelease and FirmwareSchemaVersion. -/
structure AccessIn where
  asks : Bool
  mode : Nat
  slot : Nat
  prog : Nat
  cfg : Nat
  revMin : Nat
  revMax : Nat
  feature : Nat
  options : Nat
  serial : U64
  release : Nat
  schema : Nat
deriving DecidableEq, Repr

/-- A status frame (R260, R447, R538): mode, role, PairState, whether a configuration is loaded, own-check flag, the sender's supply
diagnostics, and its time base's offset from this module's in ns. -/
structure StatusIn where
  mode : Nat
  role : Nat
  pairState : Nat
  loaded : Bool
  flag : Bool
  diag : List Nat
  offset : Int
deriving DecidableEq, Repr

/-- The commands (spec/opcode_table.json), in the table's order. -/
inductive Instr where
  /-- Command that returns the module's identity without a session (R88). -/
  | identify (dt : Nat) (p : Packet)
  /-- Command that returns the accepted commands with their versions, levels and mode masks (R85). -/
  | commandsList (dt : Nat) (p : Packet)
  /-- Command that opens a session at an access level and derives the session key (R74). -/
  | openSession (dt : Nat) (p : Packet) (sid : U32) (nonce : List Byte)
  /-- Command that ends the issuing session (R75). -/
  | closeSession (dt : Nat) (p : Packet)
  /-- Command over SV that sets the key of one access level and raises EV015 (R546). -/
  | setKey (dt : Nat) (p : Packet)
  /-- Command that returns, per level, whether a key is set and its fingerprint (R72). -/
  | keyInfo (dt : Nat) (p : Packet)
  /-- Command that sets the session's notification route and event mask (R91). -/
  | subscribe (dt : Nat) (p : Packet)
  /-- Command that returns the stored completion for a Tag (R93). -/
  | completionRead (dt : Nat) (p : Packet)
  /-- Command that reads up to 256 parameters from one effective set (R89). -/
  | paramRead (dt : Nat) (p : Packet)
  /-- Command that writes up to 64 parameters all or nothing, including registers that have no row of their own (R89). -/
  | paramWrite (dt : Nat) (p : Packet)
  /-- Command that reads table entries in effect (R90). -/
  | tableRead (dt : Nat) (p : Packet)
  /-- Command that writes table entries all or nothing, as the owning chapter checks them (R90). -/
  | tableWrite (dt : Nat) (p : Packet)
  /-- Command that starts checking and committing the working image (R49). -/
  | commitConfig (dt : Nat) (p : Packet)
  /-- Completion of a commit: either the image is written, ConfigGeneration rises and EV006 occurs, or the first failure is reported (R49). -/
  | commitConfigDone (dt : Nat)
  /-- Command that replaces the working image with the committed image at the next I/O bus frame boundary (R50). -/
  | discardEdits (dt : Nat) (p : Packet)
  /-- Command that returns a 4 KiB block of a configuration image (R54). -/
  | configExport (dt : Nat) (p : Packet)
  /-- Command that takes a block of a configuration image and replaces the working image when the import is complete (R547). -/
  | configImport (dt : Nat) (p : Packet)
  /-- Command that requests a mode transition at a switch instant (R87). -/
  | setMode (dt : Nat) (p : Packet)
  /-- Command that departs or stops tasks, makes the final save and enters M0 (R55). -/
  | restart (dt : Nat) (p : Packet)
  /-- Command that exchanges PRIMARY and STANDBY at an announced switch instant (R280). -/
  | roleSwap (dt : Nat) (p : Packet)
  /-- Command that returns the latch, mask, routes, counter and time of events (R116). -/
  | eventRead (dt : Nat) (p : Packet)
  /-- Command that clears event latches (R117). -/
  | eventClear (dt : Nat) (p : Packet)
  /-- Command that writes a block of a program image into the inactive slot (R157). -/
  | programLoad (dt : Nat) (p : Packet)
  /-- Command that selects another program slot, with or without carry-over (R158). -/
  | programSwitch (dt : Nat) (p : Packet)
  /-- Start of the switch gap in M8: starts stop, symbols are copied and the new slot runs (R160). -/
  | programSwitchGap (dt : Nat)
  /-- Command that queues changes of CHANGEABLE symbols of one task (R154). -/
  | valueWrite (dt : Nat) (p : Packet)
  /-- Application of a pending VALUE_WRITE between two cycles of its task, with EV018 (R155). -/
  | valueWriteApply (dt : Nat) (task : Nat)
  /-- Command that adds or replaces forces in the force list (R152). -/
  | forceSet (dt : Nat) (p : Packet)
  /-- Command that removes forces from the force list and restores the underlying values (R152). -/
  | forceClear (dt : Nat) (p : Packet)
  /-- Command that makes a start of an event task with EventKind 2 fall due (R551). -/
  | taskTrigger (dt : Nat) (p : Packet)
  /-- Command that requests the split of a NonCritical core pair (R303). -/
  | split (dt : Nat) (p : Packet)
  /-- At the pair's drain instant, the halves restart, or the checker is loaded for a join (R303). -/
  | splitDrainInstant (dt : Nat) (pair : Nat)
  /-- No drain instant within 1 s: SPLIT or JOIN completes NOT_READY (R303). -/
  | splitDrainTimeout (dt : Nat) (pair : Nat)
  /-- Command that requests the join of a split pair (R304). -/
  | join (dt : Nat) (p : Packet)
  /-- The checker load completes, tasks are verified again and EV068 occurs (R304). -/
  | joinLoadDone (dt : Nat) (pair : Nat)
  /-- Command that attaches a debugger, breaking lockstep or opening the reading room (R305). -/
  | debugAttach (dt : Nat) (p : Packet)
  /-- Command that detaches the debugger and joins a BROKEN pair (R307). -/
  | debugDetach (dt : Nat) (p : Packet)
  /-- Debug action that reads the main-core registers (R306). -/
  | debugReadRegisters (dt : Nat) (p : Packet) (count : Nat)
  /-- Debug action that writes a register of a halted core (R306). -/
  | debugWriteRegister (dt : Nat) (p : Packet) (reg : Nat) (val : U64)
  /-- Debug action that reads up to 4 KiB through RQ17 (R306). -/
  | debugReadMemory (dt : Nat) (p : Packet) (area : Area) (task : Nat) (addr : Nat) (len : Nat)
  /-- Debug action that writes up to 64 B, applied between cycles while the module runs (R309). -/
  | debugWriteMemory (dt : Nat) (p : Packet) (area : Area) (task : Nat) (addr : Nat) (bytes : List Byte)
  /-- Debug action that sets or clears a breakpoint in M8 (R306). -/
  | debugBreakpoint (dt : Nat) (p : Packet) (addr : Nat) (on : Bool)
  /-- Debug action that halts the core in M8 (R306). -/
  | debugHalt (dt : Nat) (p : Packet)
  /-- Debug action that resumes a halted core in M8 (R306). -/
  | debugResume (dt : Nat) (p : Packet)
  /-- Debug action that single-steps a halted core in M8 (R306). -/
  | debugStep (dt : Nat) (p : Packet) (regs : List (Nat × U64))
  /-- Debug action that sets or clears a tracepoint (R306). -/
  | debugTracepoint (dt : Nat) (p : Packet) (addr : Nat) (on : Bool)
  /-- Command Op 1 that migrates a resource to a spare (R327). -/
  | annexMigrate (dt : Nat) (p : Packet)
  /-- Command Op 2 that rotates a converter now (R327). -/
  | annexRotate (dt : Nat) (p : Packet)
  /-- Command that returns Ledger records per resource (R328). -/
  | ledgerRead (dt : Nat) (p : Packet)
  /-- Command that acknowledges alarm entries, groups or all entries (R235). -/
  | alarmAck (dt : Nat) (p : Packet)
  /-- Command Op 1 that shelves alarm entries for a duration (R236). -/
  | alarmShelve (dt : Nat) (p : Packet)
  /-- Command Op 0 that unshelves alarm entries (R236). -/
  | alarmUnshelve (dt : Nat) (p : Packet)
  /-- Command that stops the call ladder at the next scan, or switches off halt calls in M11 (R245). -/
  | ladderAck (dt : Nat) (p : Packet)
  /-- Command that returns alarm journal entries (R252). -/
  | journalRead (dt : Nat) (p : Packet)
  /-- Command that returns Archive records, checking for wrap during the copy (R499). -/
  | archiveRead (dt : Nat) (p : Packet)
  /-- Command that returns trend records (R111). -/
  | trendRead (dt : Nat) (p : Packet)
  /-- Command that starts self-calibration of converters (R381). -/
  | aiCalibrate (dt : Nat) (p : Packet)
  /-- A converter's 420 ms calibration ends, storing factors or failing with EV133 (R380). -/
  | converterCalibrationDone (dt : Nat) (conv : Nat) (offsets : List Nat) (gains : List Nat)
  /-- AO_TRIM Op 1 holds the stage at 4 mA with factory trim (R398). -/
  | aoTrimHold4 (dt : Nat) (p : Packet)
  /-- AO_TRIM Op 2 holds the stage at 20 mA with factory trim (R398). -/
  | aoTrimHold20 (dt : Nat) (p : Packet)
  /-- AO_TRIM Op 3 records the current measured at the 4 mA point (R398). -/
  | aoTrimRecord4 (dt : Nat) (p : Packet)
  /-- AO_TRIM Op 4 records the current measured at the 20 mA point (R398). -/
  | aoTrimRecord20 (dt : Nat) (p : Packet)
  /-- AO_TRIM Op 5 computes and stores AoTrim and releases the stage (R398). -/
  | aoTrimStore (dt : Nat) (p : Packet)
  /-- AO_TRIM Op 0 releases the stage and discards the records (R398). -/
  | aoTrimRelease (dt : Nat) (p : Packet)
  /-- AO_TRIM Op 6 clears AoTrim (R398). -/
  | aoTrimClear (dt : Nat) (p : Packet)
  /-- Command that performs one HART transaction on the lead's modem (R409). -/
  | hartPass (dt : Nat) (p : Packet)
  /-- LOOP_INJECT Op 1 starts an injection generator on a record (R213). -/
  | loopInjectStart (dt : Nat) (p : Packet)
  /-- LOOP_INJECT Op 0 stops an injection generator (R213). -/
  | loopInjectStop (dt : Nat) (p : Packet)
  /-- LOOP_CAPTURE Op 0 clears and arms a capture (R216). -/
  | loopCaptureArm (dt : Nat) (p : Packet)
  /-- LOOP_CAPTURE Op 1 cancels a capture (R216). -/
  | loopCaptureCancel (dt : Nat) (p : Packet)
  /-- LOOP_CAPTURE Op 2 reads captured samples (R216). -/
  | loopCaptureRead (dt : Nat) (p : Packet)
  /-- Command that queues a host CAN frame in buffers 48 to 62 on the CAN lead (R466). -/
  | canSend (dt : Nat) (p : Packet)
  /-- Command that cancels a pending CAN_SEND frame (R466). -/
  | canCancel (dt : Nat) (p : Packet) (begun : Bool)
  /-- Command that starts bus-off recovery of a channel (R466). -/
  | canRecover (dt : Nat) (p : Packet)
  /-- PANEL_UPDATE Op 1 makes an update request in each named region (R482). -/
  | panelUpdate (dt : Nat) (p : Packet)
  /-- PANEL_UPDATE Op 2 makes a refresh request in each named region (R482). -/
  | panelRefresh (dt : Nat) (p : Packet)
  /-- Command that applies a pending time step up to MaxStep (R453). -/
  | timeAcceptStep (dt : Nat) (p : Packet)
  /-- UPDATE_BEGIN Op 1 checks a firmware header and starts receiving into a slot (R506). -/
  | updateBegin (dt : Nat) (p : Packet)
  /-- UPDATE_BEGIN Op 0 abandons a running update (R506). -/
  | updateAbandon (dt : Nat) (p : Packet)
  /-- Command that writes a block of a firmware image at the expected offset (R507). -/
  | updateBlock (dt : Nat) (p : Packet)
  /-- Command that starts the digest check of a received firmware slot (R509). -/
  | updateVerify (dt : Nat) (p : Packet)
  /-- The digest check ends, and the slot becomes VALID and staged, or INVALID (R509). -/
  | updateVerifyDone (dt : Nat) (slot : Nat)
  /-- 600 s without a block or verify abandons the update (R508). -/
  | updateIdleTimeout (dt : Nat) (slot : Nat)
  /-- Command that enters M9 at a switch instant to change firmware (R510). -/
  | activate (dt : Nat) (p : Packet)
  /-- A firmware reports ready, the module leaves M9 and ACTIVATE completes (R511). -/
  | firmwareReady (dt : Nat)
  /-- The new firmware fails its check or migration, and the previous firmware resumes (R511). -/
  | activationFailure (dt : Nat)
  /-- No firmware is ready 350 ms after S, and the module enters M10 (R511). -/
  | activationDeadline (dt : Nat)
  /-- Command that makes the inactive valid slot active and restarts (R514). -/
  | rollback (dt : Nat) (p : Packet)
  /-- Write of SeqGo, or a trigger-port store, that starts a converter's sequence (R371). -/
  | seqGo (dt : Nat) (w : RegWrite)
  /-- Write of GoAll that starts the masked converters at one modulator edge (R371). -/
  | goAll (dt : Nat) (w : RegWrite)
  /-- Write of SeqStop that ends a sequence at the next entry boundary (R371). -/
  | seqStop (dt : Nat) (w : RegWrite)
  /-- Write of SlotSwap that requests a swap of the slot tables (R354). -/
  | slotSwap (dt : Nat) (w : RegWrite)
  /-- At the frame boundary, the shadow table is checked and swapped in or refused (R354). -/
  | slotTableSwapApply (dt : Nat)
  /-- Write of DoFaultClear that clears LATCHED_OFF and retries the output (R421). -/
  | doFaultClear (dt : Nat) (w : RegWrite)
  /-- Write of the host freeze mask that stops grants to requesters (R350). -/
  | arbFreeze (dt : Nat) (w : RegWrite)
  /-- The partner has not answered a forwarded request within 10 ms, and NOT_READY is answered (R69). -/
  | forwardTimeout (dt : Nat) (mailbox : Nat)
  /-- A fragmented datagram is not complete within 100 ms and is discarded (R67). -/
  | reassemblyTimeout (dt : Nat)
  /-- A session ends after SessionIdle without a valid request (R75). -/
  | sessionIdleExpiry (dt : Nat) (session : U32)
  /-- The 60 s lockout of a source address ends (R76). -/
  | authLockoutEnd (dt : Nat) (via : Via) (addr : U32)
  /-- A 10 ms notification hold ends and the held occurrences are sent in one notification (R114). -/
  | notifyHoldEnd (dt : Nat) (session : U32) (ev : Nat)
  /-- A feed passes the start threshold: rails rise, reset releases and M0 runs (R541). -/
  | powerApplied (dt : Nat) (feeds : Nat) (ohms : U32)
  /-- Self-test in M1 ends and the module enters M2, M3, M10 or M11 (R36). -/
  | selftestComplete (dt : Nat) (r : SelfTest)
  /-- A pending mode change takes effect: overlays switch, tasks stop or start, and shares and roles change (R39). -/
  | switchInstant (dt : Nat)
  /-- In M3, the AO share and DO drive are re-evaluated from the partner's state at each frame boundary (R44). -/
  | m3ShareEvaluation (dt : Nat)
  /-- HoldLimit expires in M7, and the module enters M3 with EV013 (R45). -/
  | holdLimitExpiry (dt : Nat)
  /-- The Curator restarts with the watchdog in restart grace (R95). -/
  | curatorRestart (dt : Nat) (cause : Nat)
  /-- The Curator serves mailboxes again, re-sends responses and notifications, and raises EV016 (R95). -/
  | curatorRestartDone (dt : Nat)
  /-- The heartbeat watchdog expires, and the module removes itself from the plant and resets (R256). -/
  | watchdogExpiry (dt : Nat)
  /-- Both feeds are below 16.5 V for 100 µs: departure or stop, then final save (R61). -/
  | powerFailDetected (dt : Nat)
  /-- One feed drops, changing only the supply status (R527). -/
  | feedLoss (dt : Nat) (feed : Nat) (volt : Nat)
  /-- A feed returns during the final save, and the module restarts after the save (R544). -/
  | feedReturnDuringSave (dt : Nat) (feed : Nat)
  /-- Hold-up ends, during or after the save (R544). -/
  | holdupEnd (dt : Nat)
  /-- Every RetainSavePeriod, the dirtied granules and a complete-image marker are written (R61). -/
  | periodicRetainSave (dt : Nat)
  /-- A periodic save has not completed within RetainSavePeriod, and EV017 occurs (R46). -/
  | retainSaveTimeout (dt : Nat)
  /-- A task's start falls due: it is started or skipped, its OSN is consumed and an agreed input frame is frozen (R127). -/
  | taskDueStart (dt : Nat) (task : Nat)
  /-- In M7 or M9 solo, or in a switch gap, the last payload is repeated with a new OSN (R552). -/
  | repeatFrameSend (dt : Nat) (task : Nat)
  /-- The image port loads a task slice with the values stamped at or before t0 (R133). -/
  | sliceLoad (dt : Nat) (task : Nat)
  /-- A cycle ends: outputs are copied to the image, the log is committed and the digest is computed (R135). -/
  | taskClose (dt : Nat) (task : Nat) (c : CloseData)
  /-- Output frames and local outputs of an OSN are released once the release rule holds (R33). -/
  | cycleRelease (dt : Nat) (task : Nat) (osn : Nat)
  /-- The partner's digest is late by DigestWait, and the PRIMARY releases (R34). -/
  | digestWaitExpiry (dt : Nat) (task : Nat) (osn : Nat)
  /-- A task faults, the cycle is abandoned, EV019 occurs and the task may be stopped (R145). -/
  | taskFault (dt : Nat) (task : Nat) (cause : Nat) (addr : U64)
  /-- A core-pair comparator mismatch blocks outputs, resets the pair and abandons affected cycles (R294). -/
  | lockstepMismatch (dt : Nat) (unit : Nat) (kind : Nat) (lane : Nat) (running : Option Nat) (saving : Option Nat) (committed : Bool)
  /-- After the pair's reset, the abandoned cycle is run again from its checkpoint (R296). -/
  | recoveryRunStart (dt : Nat) (task : Nat)
  /-- A scheduled comparator injection test of a pair (R299). -/
  | injectionTest (dt : Nat) (pair : Nat) (passed : U64)
  /-- A retest 1 s after a failed injection test (R300). -/
  | injectionRetest (dt : Nat) (pair : Nat) (passed : U64)
  /-- A signature window of RQ13, RQ14 or RQ15 closes and the two signatures are compared (R297). -/
  | signatureWindowClose (dt : Nat) (unit : Nat) (count : Nat) (first : Nat) (sigA : U64) (sigB : U64)
  /-- The STANDBY receives an agreed input frame and loads the slice, or records a skip (R261). -/
  | agreedInputFrame (dt : Nat) (h : LaneHdr) (f : AgreedIn)
  /-- A partner digest frame arrives and is compared, or is mirrored to local outputs (R264). -/
  | digestFrame (dt : Nat) (h : LaneHdr) (f : DigestIn)
  /-- A withheld marker from the partner arrives and allows release (R260). -/
  | withheldMarker (dt : Nat) (h : LaneHdr) (task : Nat) (cause : Nat) (osn : Nat)
  /-- The STANDBY receives a loop agreement frame and evaluates the item on its values (R208). -/
  | loopAgreementFrame (dt : Nat) (h : LaneHdr) (lsn : Nat) (time : Nat) (members : List LoopIn) (mis : List (Nat × Nat))
  /-- A loop answer (borrow answer or resync echo) arrives and is written to the target (R272). -/
  | loopAnswerFrame (dt : Nat) (h : LaneHdr) (lsn : Nat) (record : Nat) (value : Nat) (states : List Nat)
  /-- The follower receives the alarm leader's snapshot, digest and commands (R248). -/
  | alarmAgreementFrame (dt : Nat) (h : LaneHdr) (f : AlarmIn) (mis : List (Nat × Nat))
  /-- The partner's AlarmSignature or borrow data arrives and is compared or installed (R249). -/
  | alarmExchangeFrame (dt : Nat) (h : LaneHdr) (f : ExchIn)
  /-- The STANDBY compares the partner's retained hash with its own (R266). -/
  | retainedHashFrame (dt : Nat) (h : LaneHdr) (task : Nat) (osn : Nat) (sum : U64)
  /-- The joining module takes a part of the copy set (R275). -/
  | copyDataFrame (dt : Nat) (h : LaneHdr) (items : List CopyItem)
  /-- A switch-instant announcement from the partner is confirmed or refused (R39). -/
  | switchAnnouncement (dt : Nat) (h : LaneHdr) (a : SwitchIn)
  /-- The partner announces its departure at F, and the receiver takes the lead (R278). -/
  | departureNotice (dt : Nat) (h : LaneHdr) (f : Nat)
  /-- A pair-effective command relayed over the lanes is checked by the PRIMARY or scheduled (R83). -/
  | commandRelay (dt : Nat) (h : LaneHdr) (c : RelayIn)
  /-- Both modules apply a pair-effective command at the application boundary (R83). -/
  | pairCommandApply (dt : Nat)
  /-- A void notice leads the STANDBY to withhold and resynchronise the affected tasks (R297). -/
  | voidNotice (dt : Nat) (h : LaneHdr) (first : Nat) (count : Nat)
  /-- Station states from the lead are applied at one frame boundary (R444). -/
  | stationStateAnnouncement (dt : Nat) (h : LaneHdr) (at_ : Nat) (slot : Nat) (st : Nat) (rev : Nat) (period : Nat)
  /-- The lead announces the instant F of a time correction (R451). -/
  | timeCorrectionAnnouncement (dt : Nat) (h : LaneHdr) (f : Nat) (c : Int) (cause : Nat)
  /-- The panel owner announces an update start, and the other module tracks it (R483). -/
  | panelStartAnnouncement (dt : Nat) (h : LaneHdr) (region : Nat) (band : Nat) (start : Nat) (picture : Nat) (refresh : Bool)
  /-- A forwarded mailbox request or response crosses the lanes (R69). -/
  | mailboxForwardFrame (dt : Nat) (h : LaneHdr) (x : ForwardIn)
  /-- Accession items are compared, and the join proceeds or is refused (R273). -/
  | accessionFrame (dt : Nat) (h : LaneHdr) (a : AccessIn)
  /-- A partner status frame updates the partner state and the lane-following time (R260). -/
  | statusFrame (dt : Nat) (h : LaneHdr) (x : StatusIn)
  /-- A lane has no good frame for 100 µs or loses block lock, and EV033 occurs (R258). -/
  | syncLaneDown (dt : Nat) (lane : Nat) (cause : Nat)
  /-- A lane is up again after 1 ms of good frames (R258). -/
  | syncLaneUp (dt : Nat) (lane : Nat)
  /-- The partner's heartbeat has not toggled for 300 µs, and EV035 occurs (R257). -/
  | partnerHeartbeatLost (dt : Nat)
  /-- Three toggles make the partner's heartbeat present again (R257). -/
  | partnerHeartbeatPresent (dt : Nat)
  /-- Slot A recognises the isolating pattern and prepares to lead at F1 (R279). -/
  | isolatingPatternSeen (dt : Nat)
  /-- At F1 slot B isolates as ISOLATED_STANDBY and slot A raises its shares (R279). -/
  | isolationF1 (dt : Nat)
  /-- At F the departing module drops its outputs and the partner enters M6 at full share (R278). -/
  | departureF (dt : Nat)
  /-- The base pass ends, EV038 occurs and the join switch instant is chosen (R275). -/
  | copyComplete (dt : Nat)
  /-- The copy is not complete after 60 s, and the join fails (R275). -/
  | copyTimeout (dt : Nat)
  /-- SoakElapsed reaches PreferredSoak, and a takeback role swap is requested (R281). -/
  | soakExpiry (dt : Nat)
  /-- A 10 ms scan: snapshot, evaluation, group and ladder steps, and release at S plus 3 ms (R220). -/
  | alarmScan (dt : Nat) (mis : List (Nat × Nat))
  /-- DelayCount exceeds OnDelay and the entry becomes ACTIVE and annunciates (R229). -/
  | onDelayExpiry (dt : Nat) (entry : Nat)
  /-- DelayCount exceeds OffDelay and the entry returns or latches (R229). -/
  | offDelayExpiry (dt : Nat) (entry : Nat)
  /-- RatePhase reaches RateWindow, and the rate is computed and RAW evaluated (R228). -/
  | rateWindowEnd (dt : Nat) (entry : Nat)
  /-- ShelveLeft reaches 0, unshelving the entry with EV249 (R236). -/
  | shelveExpiry (dt : Nat) (entry : Nat)
  /-- ReleaseLeft reaches 0 and a group's suppression ends (R232). -/
  | releaseDelayExpiry (dt : Nat) (group : Nat)
  /-- RungLeft reaches 0 and the ladder advances to the next enabled rung (R240). -/
  | rungTimeExpiry (dt : Nat)
  /-- Every RepeatPeriod the rung's messages are queued again (R240). -/
  | rungRepeat (dt : Nat)
  /-- An entry's UNACKED time reaches a multiple of UnackReminder, and EV244 occurs (R237). -/
  | unackReminder (dt : Nat) (entry : Nat)
  /-- The alarm agreement frame is not complete by S plus 400 µs, and the follower resynchronises (R249). -/
  | alarmFrameLate (dt : Nat)
  /-- Follower results are missing at S plus 2.95 ms, and the FAULTED entry keeps its state (R272). -/
  | alarmBorrowTimeout (dt : Nat) (entry : Nat)
  /-- A network acknowledgement message is received and accepted or refused (R243). -/
  | callAckMessage (dt : Nat) (p : Packet)
  /-- Staged journal entries are written to both journal copies (R251). -/
  | journalFlashWrite (dt : Nat) (n : Nat)
  /-- A loop record trigger arrives and queues, merges or is ignored (R202). -/
  | loopTrigger (dt : Nat) (record : Nat)
  /-- A queued loop item is gathered, evaluated, release-checked and written (R198). -/
  | loopEvaluation (dt : Nat) (record : Nat) (mis : List (Nat × Nat))
  /-- At an LSN that is a multiple of 4,096 the loop signatures are exchanged and compared (R209). -/
  | loopSignatureExchange (dt : Nat) (sig : U64)
  /-- No borrow answer arrives within 20 µs, and R204 applies (R272). -/
  | loopBorrowTimeout (dt : Nat)
  /-- τ reaches InjDuration, and the generator clears Active (R212). -/
  | injectionEnd (dt : Nat) (gen : Nat)
  /-- A migration freezes, reroutes, bumps the epoch and releases (R318). -/
  | migrationStart (dt : Nat) (kind : Nat) (tests : List (Nat × U64))
  /-- The copy into D9 ends, and the lane multiplexer switches (R321). -/
  | dramCopyComplete (dt : Nat)
  /-- A worn block's valid pages are copied, and the block is remapped and retired (R322). -/
  | flashBlockCopyDone (dt : Nat) (block : Nat) (target : Nat)
  /-- A late result with the old epoch is discarded and counted (R319). -/
  | spoilArrival (dt : Nat) (kind : Nat) (resource : Nat) (epoch : Nat)
  /-- Every RecalPeriod divided by 8, the rotation of the next converter begins (R323). -/
  | recalRotationStart (dt : Nat)
  /-- The stand-in has calibrated and begins shadowing (R323). -/
  | standinCalibrationDone (dt : Nat) (offsets : List Nat) (gains : List Nat)
  /-- After one shadow pass, results switch between converter and stand-in (R323). -/
  | shadowPassDone (dt : Nat)
  /-- A corrected or uncorrectable DRAM error is counted, or is a proven fault (R315). -/
  | dramEccError (dt : Nat) (device : Nat) (corrected : Bool) (named : Bool) (task : Option Nat)
  /-- A flash program or erase fails, which is a proven block fault (R315). -/
  | flashProgramFailure (dt : Nat) (block : Nat) (erase : Bool)
  /-- The active reference stops or drifts, and the next oscillator is switched in (R325). -/
  | oscillatorFault (dt : Nat) (osc : Nat) (stopped : Bool) (error : Nat) (spareError : Nat)
  /-- A scheduled test of an Annex spare (R314). -/
  | spareSelfTest (dt : Nat) (resource : Nat) (pass : Bool)
  /-- The Curator writes the Ledger every 60 s (R315). -/
  | ledgerWrite (dt : Nat)
  /-- An access is refused by the region check, and the outcome depends on the requester (R337). -/
  | regionFault (dt : Nat) (a : Access)
  /-- An access is refused by the colour tag check, precisely or imprecisely (R342). -/
  | colourViolation (dt : Nat) (a : Access)
  /-- A multiple match or parity error refuses the access and reloads the context's regions (R339). -/
  | regionOverlap (dt : Nat) (ctx : Nat) (regions : List Nat) (parity : Bool) (a : Access)
  /-- A Curator write to a sealed region entry is ignored, with EV099 (R344). -/
  | sealedAccess (dt : Nat) (ctx : Nat) (region : Nat) (value : Nat)
  /-- A waiting eligible requester is granted the interconnect (R349). -/
  | arbitrationGrant (dt : Nat) (waiting : Nat) (moved : Nat)
  /-- A 100 µs budget frame begins and all beat counts return to 0 (R348). -/
  | budgetFrameStart (dt : Nat) (moved : Nat)
  /-- A holder reaches its budget, its transfer is suspended, and EV110 occurs (R348). -/
  | budgetCutoff (dt : Nat) (rq : Nat)
  /-- A converter result is written to the direct word, buffer and image points (R365). -/
  | converterResult (dt : Nat) (conv : Nat) (c : ConvIn)
  /-- At a swap instant, excitation polarity reverses and blanking begins (R361). -/
  | excitationSwap (dt : Nat) (channel : Nat) (e : ExcIn)
  /-- The 1 ms common-mode measurement can set or clear the common-mode fault (R378). -/
  | cmMeasurement (dt : Nat) (channel : Nat) (mv : Int)
  /-- Each second, the STANDBY compares the means of its own and the agreed channel values (R384). -/
  | driftComparison (dt : Nat) (channel : Nat)
  /-- A stage measures current and terminal voltage per frame and sets its supply (R393). -/
  | stageMeasurement (dt : Nat) (stage : Nat) (m : StageIn)
  /-- A stage condition has held for AoDebounce, and OPEN, COMPLIANCE or READBACK_FAULT changes (R395). -/
  | aoDebounceExpiry (dt : Nat) (stage : Nat)
  /-- The stage supply is off its setpoint for 10 ms, which is a proven fault (R395). -/
  | stageSupplyFault (dt : Nat) (stage : Nat)
  /-- The stage junction reaches 150 °C, or falls below 140 °C (R395). -/
  | stageThermalLimit (dt : Nat) (stage : Nat) (junction : Nat)
  /-- A poll entry falls due and a transaction starts or is skipped (R404). -/
  | hartPollDue (dt : Nat) (modem : Nat)
  /-- A HART response is received and stored, or fails as an attempt (R404). -/
  | hartResponse (dt : Nat) (modem : Nat) (r : HartIn)
  /-- No response start within 33 character times: a retry or TIMEOUT follows (R404). -/
  | hartResponseTimeout (dt : Nat) (modem : Nat)
  /-- A burst-mode frame is recorded and opens a 75 ms request window (R405). -/
  | hartBurstFrame (dt : Nat) (modem : Nat) (r : HartIn)
  /-- Every 10 s an unresponsive modem repeats command 0 (R402). -/
  | hartIdentifyRetry (dt : Nat) (modem : Nat)
  /-- The filter counter reaches its threshold, and the edge is confirmed, stamped and published (R412). -/
  | diEdgeConfirmed (dt : Nat) (input : Nat) (raw : Bool)
  /-- A whole second with few edges clears CHATTER (R417). -/
  | chatterSecondEnd (dt : Nat)
  /-- The open-contact current stays out of range for WireBreakDelay, and WIRE_BREAK changes (R415). -/
  | wireBreakTimeout (dt : Nat) (input : Nat) (ua : Nat)
  /-- VS1 or VS2 is below 15 V for 10 ms, and its group shows SUPPLY_LOST (R416). -/
  | sensorSupplyLost (dt : Nat) (group : Nat) (volt : Nat)
  /-- VS1 or VS2 is above 16 V for 10 ms (R416). -/
  | sensorSupplyRecovered (dt : Nat) (group : Nat) (volt : Nat)
  /-- The current limit holds for 1 ms and the switch turns off (R421). -/
  | doOvercurrent (dt : Nat) (output : Nat)
  /-- The switch junction reaches 170 °C and the switch turns off (R421). -/
  | doThermalShutdown (dt : Nat) (output : Nat)
  /-- After DoRetryDelay the switch retries, and may latch off (R421). -/
  | doRetry (dt : Nat) (output : Nat) (junction : Nat)
  /-- An output on without fault for 1 s resets its retry count (R421). -/
  | doFaultFreeSecond (dt : Nat) (output : Nat)
  /-- The readback differs from the expected state for slew time plus ReadbackDelay (R423). -/
  | doReadbackMismatch (dt : Nat) (output : Nat) (level : Bool)
  /-- FLD1 or FLD2 is below 16 V for 2 ms, with EV183 (R424). -/
  | fieldSupplyLost (dt : Nat) (feed : Nat) (volt : Nat)
  /-- FLD1 or FLD2 is above 17 V for 10 ms (R424). -/
  | fieldSupplyRestored (dt : Nat) (feed : Nat) (volt : Nat)
  /-- A call line trips or mismatches, with EV184 (R427). -/
  | callOutputFault (dt : Nat) (line : Nat) (cause : Nat) (level : Bool)
  /-- A faulted call line retries every 1 s (R427). -/
  | callRetry (dt : Nat) (line : Nat) (junction : Nat)
  /-- A confirmed rising ACK edge raises EV185 and enters the next snapshot (R428). -/
  | ackEdge (dt : Nat) (input : Nat)
  /-- A confirmed reference edge resets the phase base and velocity (R163). -/
  | phaseEdge (dt : Nat) (ref : Nat) (e : EdgeIn)
  /-- No edge for dp divided by VelMin unlocks the reference with cause 1 (R171). -/
  | phaseUnlockTimeout (dt : Nat) (ref : Nat)
  /-- The phase crosses an armed entry, which fires its action (R178). -/
  | catalogueEntryFire (dt : Nat) (entry : Nat)
  /-- A deferred entry fires in a later tick (R182). -/
  | catalogueDeferredFire (dt : Nat)
  /-- A plant port's link goes down, with EV192 (R432). -/
  | pnLinkDown (dt : Nat) (port : Nat)
  /-- No valid frame on one LAN for 1 s, with EV193 (R433). -/
  | prpLanDown (dt : Nat) (lan : Nat)
  /-- The SV link changes, with EV203 (R432). -/
  | servicePortLink (dt : Nat) (up : Bool)
  /-- Every 60 s an interface re-checks its address (R434). -/
  | arpAnnounce (dt : Nat) (ifc : Nat)
  /-- Another host answers for the address, the interface goes silent, and EV202 occurs (R434). -/
  | duplicateAddress (dt : Nat) (ifc : Nat) (mac : U64)
  /-- The conflict has been absent for 10 s and the interface resumes (R434). -/
  | addressConflictClear (dt : Nat) (ifc : Nat)
  /-- A remote I/O input frame is accepted into the image or discarded (R441). -/
  | inputFrame (dt : Nat) (src : U32) (lan : Nat) (dup : Bool) (bytes : List Byte)
  /-- A station's accession answer leads to accept or refuse (R442). -/
  | stationAnswer (dt : Nat) (src : U32) (bytes : List Byte)
  /-- Every AccessionRetry, the accession request is repeated (R442). -/
  | accessionRetry (dt : Nat) (slot : Nat)
  /-- No frame from a station for InTimeout: it is lost and accession restarts (R443). -/
  | stationTimeout (dt : Nat) (slot : Nat)
  /-- A PTP Sync updates the servo and may ask for a correction (R450). -/
  | ptpSync (dt : Nat) (port : Nat) (offset : Int)
  /-- An Announce runs the best master clock algorithm and may change the grandmaster (R448). -/
  | ptpAnnounce (dt : Nat) (port : Nat) (a : AnnIn)
  /-- No Sync or Announce within the receipt timeout, and the state becomes HOLDOVER (R449). -/
  | ptpTimeout (dt : Nat) (port : Nat)
  /-- At F the whole part of a correction steps the time base and a slew begins (R451). -/
  | timeCorrectionApply (dt : Nat)
  /-- The residue has been absorbed and the slew ends (R451). -/
  | slewEnd (dt : Nat)
  /-- A CAN frame is filtered, stamped and written to the image, or dropped (R467). -/
  | canFrameReceived (dt : Nat) (channel : Nat) (id : Nat) (data : List Byte)
  /-- A pending frame is transmitted, and its CAN_SEND completes (R463). -/
  | canFrameSent (dt : Nat) (channel : Nat) (buffer : Nat) (sof : Nat)
  /-- A bus error moves the error counters (R462). -/
  | canBusError (dt : Nat) (channel : Nat) (tec : Nat) (rec_ : Nat) (code : Nat)
  /-- 128 recessive sequences are seen and the channel is error active, with EV212 (R462). -/
  | canRecoveryDone (dt : Nat) (channel : Nat)
  /-- A pending frame is aborted after TxTimeout (R463). -/
  | canTxTimeout (dt : Nat) (channel : Nat) (buffer : Nat)
  /-- At a 20 ms panel frame boundary, wanted pictures are formed and requests start (R478). -/
  | panelFrame (dt : Nat)
  /-- An update's last frame ends, the shown picture changes and wear is counted (R479). -/
  | panelUpdateEnd (dt : Nat) (region : Nat)
  /-- Each second the panel temperature is read and the band may change (R474). -/
  | panelTemperatureRead (dt : Nat)
  /-- A blink half starts and changes the wanted picture (R477). -/
  | blinkHalf (dt : Nat)
  /-- A rail is outside its window for 2 ms: updates are abandoned and lines float (R480). -/
  | panelRailFault (dt : Nat) (rail : Nat) (volt : Nat)
  /-- A rail is inside its window for 100 ms and queued requests resume (R480). -/
  | panelRailGood (dt : Nat) (rail : Nat) (volt : Nat)
  /-- Staged records whose window is released are written to flash (R498). -/
  | archiveFlashWrite (dt : Nat) (n : Nat)
  /-- At a multiple of Period, a trend channel is sampled and possibly written (R109). -/
  | trendSample (dt : Nat) (channel : Nat)
  /-- At an I/O bus frame boundary, pending committed and discarded changes take effect and automatic mode transitions switch (R51). -/
  | ioBusFrameBoundary (dt : Nat) (readback : Nat)
  /-- A plant port's link comes up after negotiation, which sets PortStatus and starts the ARP probes of R434 (R432). -/
  | pnLinkUp (dt : Nat) (port : Nat) (speed : Nat) (fibre : Bool)
  /-- A lost feed returns above the start threshold while the other feed still supplies the module, which changes SupplyStatus, the diagnostic points and the PWR LED (R527). -/
  | feedRestored (dt : Nat) (feed : Nat)
  /-- The hold-up bank finishes charging after start and HoldupReady is set (R527). -/
  | holdupBankCharged (dt : Nat)
  /-- At every whole multiple of 100 ms the Curator diagnostic points (feeds, HoldupLow, OverTemperature, voltages, temperatures, power) are updated and stamped (R538). -/
  | curatorDiagnosticUpdate (dt : Nat) (d : DiagIn)
  /-- 60 s after the partner refused a takeback, the named module requests the role swap again (R281). -/
  | takebackRetry (dt : Nat)
  /-- At the start of each DramCeWindow the per-device corrected-error counts restart at 0 (R315). -/
  | dramCeWindowRestart (dt : Nat)
  /-- An hour ends in which a stage junction stayed above 125 °C for over 30 min, so StageHotHours rises and may cross HotHoursLimit (R315). -/
  | stageHotHour (dt : Nat) (stage : Nat)
  /-- In a time-base tick without an edge, a locked reference's projected phase reaches the clamp, passes ZeroOffset (RevCount) or moves a synthetic reference (R172). -/
  | phaseExtrapolation (dt : Nat) (ref : Nat)
  /-- At each Tick multiple the input filter counter of a DI or ACK input moves by one within 0 to Ceiling without reaching a switching level (R412). -/
  | diFilterSample (dt : Nat) (input : Nat) (raw : Bool)
  /-- A raw DI or ACK level changes, and its time, less 3 µs, is recorded as a candidate edge stamp (R413). -/
  | diRawTransition (dt : Nat) (input : Nat) (level : Bool)
  /-- READBACK_FAULT of a DO clears after readback and expected state have agreed for ReadbackDelay (R423). -/
  | doReadbackFaultClear (dt : Nat) (output : Nat) (level : Bool)
  /-- A PTP Delay_Resp or Pdelay response arrives and updates PtpPathDelay for the servo (R448). -/
  | ptpDelayResponse (dt : Nat) (port : Nat) (delay : U32)
deriving DecidableEq, Repr

end Sys2Proof
end

