-- ==== Sys2Proof/WellFormed.lean ====
section
/-!
DEFINITION. Well-formed commands: every operand that numbers a unit of the module names one that exists. A packet is any
packet: what it holds is checked by the mailbox service, as the spec says.
-/
namespace Sys2Proof

/-- A lane frame came over one of the two sync lanes (R29). -/
def LaneHdr.wf (h : LaneHdr) : Bool := decide (h.lane < 2)

/-- An access names a requester, a context, a kind, a length and, where its requester has one, a task, record or entry that exist
(R336, R347, R348). -/
def Access.wf (a : Access) : Bool :=
  decide (a.rq ≤ 17 ∧ a.ctx ≤ 23 ∧ a.kind ≤ 2 ∧ 0 < a.len ∧ a.len ≤ 4096) &&
  (if a.ctx < 16 || a.area == .ownState || a.area == .slices then decide (a.task ≤ 31)
   else if a.rq = 11 then decide (a.task ≤ 2047)
   else if a.rq = 12 then decide (a.task ≤ 16383)
   else true)

/-- An exchange frame names an alarm entry that exists (R223). -/
def ExchIn.wf : ExchIn → Bool
  | .signature _ _ => true
  | .ask n => decide (n < 16384)
  | .answer n _ => decide (n < 16384)

/-- A register is written by a host: only SeqGo and GoAll have a trigger port (R292, R371). -/
def RegWrite.fromHost : RegWrite → Bool
  | .host _ => true
  | .port _ => false

/-- The operands of a command name what exists. -/
def Instr.wf : Instr → Bool
  | .identify _ _ => true
  | .commandsList _ _ => true
  | .openSession _ _ _ _ => true
  | .closeSession _ _ => true
  | .setKey _ _ => true
  | .keyInfo _ _ => true
  | .subscribe _ _ => true
  | .completionRead _ _ => true
  | .paramRead _ _ => true
  | .paramWrite _ _ => true
  | .tableRead _ _ => true
  | .tableWrite _ _ => true
  | .commitConfig _ _ => true
  | .commitConfigDone _ => true
  | .discardEdits _ _ => true
  | .configExport _ _ => true
  | .configImport _ _ => true
  | .setMode _ _ => true
  | .restart _ _ => true
  | .roleSwap _ _ => true
  | .eventRead _ _ => true
  | .eventClear _ _ => true
  | .programLoad _ _ => true
  | .programSwitch _ _ => true
  | .programSwitchGap _ => true
  | .valueWrite _ _ => true
  | .valueWriteApply _ n => decide (n < 32)
  | .forceSet _ _ => true
  | .forceClear _ _ => true
  | .taskTrigger _ _ => true
  | .split _ _ => true
  | .splitDrainInstant _ p => decide (p < 10)
  | .splitDrainTimeout _ p => decide (p < 10)
  | .join _ _ => true
  | .joinLoadDone _ p => decide (p < 10)
  | .debugAttach _ _ => true
  | .debugDetach _ _ => true
  | .debugReadRegisters _ _ _ => true
  | .debugWriteRegister _ _ _ _ => true
  | .debugReadMemory _ _ _ _ _ _ => true
  | .debugWriteMemory _ _ _ _ _ _ => true
  | .debugBreakpoint _ _ _ _ => true
  | .debugHalt _ _ => true
  | .debugResume _ _ => true
  | .debugStep _ _ _ => true
  | .debugTracepoint _ _ _ _ => true
  | .annexMigrate _ _ => true
  | .annexRotate _ _ => true
  | .ledgerRead _ _ => true
  | .alarmAck _ _ => true
  | .alarmShelve _ _ => true
  | .alarmUnshelve _ _ => true
  | .ladderAck _ _ => true
  | .journalRead _ _ => true
  | .archiveRead _ _ => true
  | .trendRead _ _ => true
  | .aiCalibrate _ _ => true
  | .converterCalibrationDone _ p _ _ => decide (p < 10)
  | .aoTrimHold4 _ _ => true
  | .aoTrimHold20 _ _ => true
  | .aoTrimRecord4 _ _ => true
  | .aoTrimRecord20 _ _ => true
  | .aoTrimStore _ _ => true
  | .aoTrimRelease _ _ => true
  | .aoTrimClear _ _ => true
  | .hartPass _ _ => true
  | .loopInjectStart _ _ => true
  | .loopInjectStop _ _ => true
  | .loopCaptureArm _ _ => true
  | .loopCaptureCancel _ _ => true
  | .loopCaptureRead _ _ => true
  | .canSend _ _ => true
  | .canCancel _ _ _ => true
  | .canRecover _ _ => true
  | .panelUpdate _ _ => true
  | .panelRefresh _ _ => true
  | .timeAcceptStep _ _ => true
  | .updateBegin _ _ => true
  | .updateAbandon _ _ => true
  | .updateBlock _ _ => true
  | .updateVerify _ _ => true
  | .updateVerifyDone _ k => decide (k < 2)
  | .updateIdleTimeout _ k => decide (k < 2)
  | .activate _ _ => true
  | .firmwareReady _ => true
  | .activationFailure _ => true
  | .activationDeadline _ => true
  | .rollback _ _ => true
  | .seqGo _ _ => true
  | .goAll _ _ => true
  | .seqStop _ w => w.fromHost
  | .slotSwap _ w => w.fromHost
  | .slotTableSwapApply _ => true
  | .doFaultClear _ w => w.fromHost
  | .arbFreeze _ w => w.fromHost
  | .forwardTimeout _ box => decide (box < 16)
  | .reassemblyTimeout _ => true
  | .sessionIdleExpiry _ _ => true
  | .authLockoutEnd _ _ _ => true
  | .notifyHoldEnd _ _ _ => true
  | .powerApplied _ _ _ => true
  | .selftestComplete _ _ => true
  | .switchInstant _ => true
  | .m3ShareEvaluation _ => true
  | .holdLimitExpiry _ => true
  | .curatorRestart _ _ => true
  | .curatorRestartDone _ => true
  | .watchdogExpiry _ => true
  | .powerFailDetected _ => true
  | .feedLoss _ feed _ => decide (feed < 2)
  | .feedReturnDuringSave _ feed => decide (feed < 2)
  | .holdupEnd _ => true
  | .periodicRetainSave _ => true
  | .retainSaveTimeout _ => true
  | .taskDueStart _ n => decide (n < 32)
  | .repeatFrameSend _ n => decide (n < 32)
  | .sliceLoad _ n => decide (n < 32)
  | .taskClose _ n _ => decide (n < 32)
  | .cycleRelease _ n _ => decide (n < 32)
  | .digestWaitExpiry _ n _ => decide (n < 32)
  | .taskFault _ n _ _ => decide (n < 32)
  | .lockstepMismatch _ p kind lane _ _ _ => decide (p < 11 ∧ lane < 64 ∧ kind < 3)
  | .recoveryRunStart _ n => decide (n < 32)
  | .injectionTest _ p _ => decide (p < 11)
  | .injectionRetest _ p _ => decide (p < 11)
  | .signatureWindowClose _ u _ _ _ _ => decide (13 ≤ u ∧ u ≤ 15)
  | .agreedInputFrame _ h f => h.wf && decide (f.task < 32)
  | .digestFrame _ h f => h.wf && decide (f.task < 32)
  | .withheldMarker _ h task _ _ => h.wf && decide (task < 32)
  | .loopAgreementFrame _ h _ _ _ _ => h.wf
  | .loopAnswerFrame _ h _ r _ _ => h.wf && decide (r < 2048)
  | .alarmAgreementFrame _ h _ _ => h.wf
  | .alarmExchangeFrame _ h x => h.wf && x.wf
  | .retainedHashFrame _ h task _ _ => h.wf && decide (task < 32)
  | .copyDataFrame _ h _ => h.wf
  | .switchAnnouncement _ h _ => h.wf
  | .departureNotice _ h _ => h.wf
  | .commandRelay _ h _ => h.wf
  | .pairCommandApply _ => true
  | .voidNotice _ h _ _ => h.wf
  | .stationStateAnnouncement _ h _ slot _ _ _ => h.wf && decide (slot < 250)
  | .timeCorrectionAnnouncement _ h _ _ _ => h.wf
  | .panelStartAnnouncement _ h r _ _ _ _ => h.wf && decide (r < 8)
  | .mailboxForwardFrame _ h _ => h.wf
  | .accessionFrame _ h _ => h.wf
  | .statusFrame _ h _ => h.wf
  | .syncLaneDown _ l _ => decide (l < 2)
  | .syncLaneUp _ l => decide (l < 2)
  | .partnerHeartbeatLost _ => true
  | .partnerHeartbeatPresent _ => true
  | .isolatingPatternSeen _ => true
  | .isolationF1 _ => true
  | .departureF _ => true
  | .copyComplete _ => true
  | .copyTimeout _ => true
  | .soakExpiry _ => true
  | .alarmScan _ _ => true
  | .onDelayExpiry _ n => decide (n < 16384)
  | .offDelayExpiry _ n => decide (n < 16384)
  | .rateWindowEnd _ n => decide (n < 16384)
  | .shelveExpiry _ n => decide (n < 16384)
  | .releaseDelayExpiry _ g => decide (g < 512)
  | .rungTimeExpiry _ => true
  | .rungRepeat _ => true
  | .unackReminder _ n => decide (n < 16384)
  | .alarmFrameLate _ => true
  | .alarmBorrowTimeout _ n => decide (n < 16384)
  | .callAckMessage _ _ => true
  | .journalFlashWrite _ _ => true
  | .loopTrigger _ r => decide (r < 2048)
  | .loopEvaluation _ r _ => decide (r < 2048)
  | .loopSignatureExchange _ _ => true
  | .loopBorrowTimeout _ => true
  | .injectionEnd _ g => decide (g < 4)
  | .migrationStart _ k _ => decide (1 ≤ k ∧ k ≤ 6)
  | .dramCopyComplete _ => true
  | .flashBlockCopyDone _ b target => decide (b < 12288 ∧ target < 16384)
  | .spoilArrival _ k r _ => decide (1 ≤ k ∧ k ≤ 6 ∧ r < 52)
  | .recalRotationStart _ => true
  | .standinCalibrationDone _ _ _ => true
  | .shadowPassDone _ => true
  | .dramEccError _ d _ _ _ => decide (d < 10)
  | .flashProgramFailure _ b _ => decide (b < 16384)
  | .oscillatorFault _ o _ _ _ => decide (o < 3)
  | .spareSelfTest _ r _ => r == 19 || r == 47 || r == 48 || r == 51
  | .ledgerWrite _ => true
  | .regionFault _ a => a.wf
  | .colourViolation _ a => a.wf
  | .regionOverlap _ ctx regions _ a => a.wf && a.ctx == ctx && regions.all (fun r => decide (r ≤ 63))
  | .sealedAccess _ ctx region _ => decide (ctx ≤ 23 ∧ region ≤ 63)
  | .arbitrationGrant _ waiting _ => decide (waiting < 2 ^ 18)
  | .budgetFrameStart _ _ => true
  | .budgetCutoff _ q => decide (q ≤ 17)
  | .converterResult _ c _ => decide (c < 8)
  | .excitationSwap _ n _ => decide (n < 32)
  | .cmMeasurement _ n _ => decide (n < 32)
  | .driftComparison _ n => decide (n < 32)
  | .stageMeasurement _ st _ => decide (st < 18)
  | .aoDebounceExpiry _ st => decide (st < 18)
  | .stageSupplyFault _ st => decide (st < 18)
  | .stageThermalLimit _ st _ => decide (st < 18)
  | .hartPollDue _ m => decide (m < 48)
  | .hartResponse _ m _ => decide (m < 48)
  | .hartResponseTimeout _ m => decide (m < 48)
  | .hartBurstFrame _ m _ => decide (m < 48)
  | .hartIdentifyRetry _ m => decide (m < 48)
  | .diEdgeConfirmed _ n _ => decide (n < 36)
  | .chatterSecondEnd _ => true
  | .wireBreakTimeout _ n _ => decide (n < 32)
  | .sensorSupplyLost _ g _ => decide (g < 2)
  | .sensorSupplyRecovered _ g _ => decide (g < 2)
  | .doOvercurrent _ m => decide (m < 32)
  | .doThermalShutdown _ m => decide (m < 32)
  | .doRetry _ m _ => decide (m < 32)
  | .doFaultFreeSecond _ m => decide (m < 32)
  | .doReadbackMismatch _ m _ => decide (m < 32)
  | .fieldSupplyLost _ k _ => decide (k < 2)
  | .fieldSupplyRestored _ k _ => decide (k < 2)
  | .callOutputFault _ c cause _ => decide (c < 2 ∧ 1 ≤ cause ∧ cause ≤ 3)
  | .callRetry _ c _ => decide (c < 2)
  | .ackEdge _ k => decide (k < 4)
  | .phaseEdge _ n _ => decide (n < 4)
  | .phaseUnlockTimeout _ n => decide (n < 4)
  | .catalogueEntryFire _ k => decide (k < 1024)
  | .catalogueDeferredFire _ => true
  | .pnLinkDown _ p => decide (p < 2)
  | .prpLanDown _ lan => decide (lan < 2)
  | .servicePortLink _ _ => true
  | .arpAnnounce _ ifc => decide (ifc < 3)
  | .duplicateAddress _ ifc _ => decide (ifc < 3)
  | .addressConflictClear _ ifc => decide (ifc < 3)
  | .inputFrame _ _ lan _ _ => decide (lan < 2)
  | .stationAnswer _ _ _ => true
  | .accessionRetry _ k => decide (k < 250)
  | .stationTimeout _ k => decide (k < 250)
  | .ptpSync _ p _ => decide (p < 2)
  | .ptpAnnounce _ p _ => decide (p < 2)
  | .ptpTimeout _ p => decide (p < 2)
  | .timeCorrectionApply _ => true
  | .slewEnd _ => true
  | .canFrameReceived _ c _ _ => decide (c < 4)
  | .canFrameSent _ c b _ => decide (c < 4 ∧ b < 64)
  | .canBusError _ c _ _ _ => decide (c < 4)
  | .canRecoveryDone _ c => decide (c < 4)
  | .canTxTimeout _ c b => decide (c < 4 ∧ b < 64)
  | .panelFrame _ => true
  | .panelUpdateEnd _ r => decide (r < 8)
  | .panelTemperatureRead _ => true
  | .blinkHalf _ => true
  | .panelRailFault _ k _ => decide (k < 2)
  | .panelRailGood _ k _ => decide (k < 2)
  | .archiveFlashWrite _ _ => true
  | .trendSample _ c => decide (c < 256)
  | .ioBusFrameBoundary _ _ => true
  | .pnLinkUp _ p speed _ => decide (p < 2 ∧ 1 ≤ speed ∧ speed ≤ 2)
  | .feedRestored _ feed => decide (feed < 2)
  | .holdupBankCharged _ => true
  | .curatorDiagnosticUpdate _ _ => true
  | .takebackRetry _ => true
  | .dramCeWindowRestart _ => true
  | .stageHotHour _ st => decide (st < 18)
  | .phaseExtrapolation _ n => decide (n < 4)
  | .diFilterSample _ n _ => decide (n < 36)
  | .diRawTransition _ n _ => decide (n < 36)
  | .doReadbackFaultClear _ m _ => decide (m < 32)
  | .ptpDelayResponse _ p _ => decide (p < 2)

end Sys2Proof
end

