-- ==== Sys2Proof/Machine/Tab.lean ====
section
/-!
DEFINITION. Reading and writing the sparse arrays of the state (`Tab`). An array is kept in one canonical form (keys
strictly rising, no element equal to the default), so equal arrays are equal data.
-/
namespace Sys2Proof

/-- Element `k` of an array whose unlisted elements are `d`. -/
def tget {α : Type} : Tab α → Nat → α → α
  | [], _, d => d
  | (i, a) :: t, k, d => if k = i then a else tget t k d

/-- The array without element `k`. -/
def tdel {α : Type} : Tab α → Nat → Tab α
  | [], _ => []
  | (i, a) :: t, k => if k = i then tdel t k else (i, a) :: tdel t k

/-- The array with `v` put at `k`, in key order. -/
def tput {α : Type} : Tab α → Nat → α → Tab α
  | [], k, v => [(k, v)]
  | (i, a) :: t, k, v =>
    if k < i then (k, v) :: (i, a) :: t
    else if k = i then (k, v) :: t
    else (i, a) :: tput t k v

/-- The array with element `k` set to `v`, `d` being the default: setting the default removes the element. -/
def tset {α : Type} [DecidableEq α] (t : Tab α) (k : Nat) (d v : α) : Tab α :=
  if v = d then tdel t k else tput t k v

/-- The array with element `k` changed by `f`. -/
def tmod {α : Type} [DecidableEq α] (t : Tab α) (k : Nat) (d : α) (f : α → α) : Tab α :=
  tset t k d (f (tget t k d))

/-- Every key of `t` is above `lo`, and the keys rise strictly. -/
def trising {α : Type} : Option Nat → Tab α → Bool
  | _, [] => true
  | none, (i, _) :: t => trising (some i) t
  | some l, (i, _) :: t => decide (l < i) && trising (some i) t

/-- The canonical form: keys strictly rising, no element equal to the default. -/
def twf {α : Type} [DecidableEq α] (d : α) (t : Tab α) : Bool :=
  trising none t && t.all (fun p => decide (p.2 ≠ d))

/-- `n` bytes of `v`, most significant first (R13: protocol headers and fields on any wire). -/
def beBytes (n v : Nat) : List Byte :=
  (List.range n).map (fun i => BitVec.ofNat 8 (v >>> (8 * (n - 1 - i))))

/-- `n` bytes of `v`, least significant first (R13: table entries, records and memory layouts). -/
def leBytes (n v : Nat) : List Byte :=
  (List.range n).map (fun i => BitVec.ofNat 8 (v >>> (8 * i)))

/-- The number big-endian bytes spell. -/
def beNat (l : List Byte) : Nat := l.foldl (fun a b => a * 256 + b.toNat) 0

/-- The number little-endian bytes spell. -/
def leNat (l : List Byte) : Nat := l.foldr (fun b a => b.toNat + 256 * a) 0

/-- `len` bytes at `off`, short where the list ends. -/
def slice (l : List Byte) (off len : Nat) : List Byte := (l.drop off).take len

/-- The big-endian field of `len` bytes at `off` of a frame or body (R13). -/
def beAt (l : List Byte) (off len : Nat) : Nat := beNat (slice l off len)

/-- The little-endian field of `len` bytes at `off` of a memory image (R13). -/
def leAt (l : List Byte) (off len : Nat) : Nat := leNat (slice l off len)

/-- The first `n` bytes of `l`, filled up with zeros. -/
def padTo (n : Nat) (l : List Byte) : List Byte := l.take n ++ List.replicate (n - l.length) 0#8

/-- Are all bytes of `l` zero? (A reserved field of a frame or body, R16.) -/
def allZero (l : List Byte) : Bool := l.all (· == 0#8)

/-- Cut `l` into `n` pieces of `k` bytes. -/
def chunks (k : Nat) : Nat → List Byte → List (List Byte)
  | 0, _ => []
  | n + 1, l => l.take k :: chunks k n (l.drop k)

/-- Put a number into a rising list, once. -/
def insNat (k : Nat) : List Nat → List Nat
  | [] => [k]
  | a :: t => if k < a then k :: a :: t else if k = a then a :: t else a :: insNat k t

/-- The numbers of a list, rising, each once. -/
def insSort (l : List Nat) : List Nat := l.foldl (fun a k => insNat k a) []

/-- The position of the first element that satisfies `p`. -/
def firstIdx {α : Type} (p : α → Bool) : List α → Option Nat
  | [] => none
  | a :: t => if p a then some 0 else (firstIdx p t).map (· + 1)

/-- Field of `w` bits whose lowest bit is bit `b` of the byte at `off`, in the little-endian memory image `e` of a table
entry (R13, R90). -/
def fld (e off b w : Nat) : Nat := bits e (8 * off + b) w

/-- The memory image `e` with such a field set to `v`. -/
def setFld (e off b w v : Nat) : Nat := setBits e (8 * off + b) w v

end Sys2Proof
end

