-- ==== Sys2Proof/Machine/Hash.lean ====
section
/-!
DEFINITION. The digests the spec names: SHA-256, HMAC-SHA-256 (R70, R74) and the CRC-32 of remote I/O messages.
-/
namespace Sys2Proof

/-- The first 64 primes: 2 is the least, 311 the greatest, and a number below 18² is prime where no prime below 18 divides it. -/
def shaPrimes : List Nat :=
  (List.range' 2 310).filter (fun n => [2, 3, 5, 7, 11, 13, 17].contains n || Nat.gcd n 510510 == 1)

/-- The greatest number below 2^37 whose `d`-th power is at most `n`, found bit by bit from the top. -/
def shaRoot (d n : Nat) : Nat :=
  (List.range 37).foldr (fun k r => if (r + 2 ^ k) ^ d ≤ n then r + 2 ^ k else r) 0

/-- The first 32 bits of the fractional part of the `d`-th root of a prime. -/
def shaWord (d p : Nat) : U32 := BitVec.ofNat 32 (shaRoot d (p * 2 ^ (32 * d)))

/-- The round constants of SHA-256: the cube roots of the first 64 primes. -/
def shaK : List U32 := shaPrimes.map (shaWord 3)

/-- The eight working words of SHA-256. -/
structure ShaRegs where
  a : U32
  b : U32
  c : U32
  d : U32
  e : U32
  f : U32
  g : U32
  h : U32
deriving DecidableEq, Repr

/-- The initial hash value of SHA-256: the square roots of the first eight primes. -/
def shaInit : ShaRegs :=
  let w := fun i => shaWord 2 (shaPrimes.getD i 0)
  { a := w 0, b := w 1, c := w 2, d := w 3, e := w 4, f := w 5, g := w 6, h := w 7 }

/-- One round of SHA-256 with round constant `k` and schedule word `w`. -/
def shaRound (r : ShaRegs) (k w : U32) : ShaRegs :=
  let s1 := r.e.rotateRight 6 ^^^ r.e.rotateRight 11 ^^^ r.e.rotateRight 25
  let ch := (r.e &&& r.f) ^^^ (~~~r.e &&& r.g)
  let t1 := r.h + s1 + ch + k + w
  let s0 := r.a.rotateRight 2 ^^^ r.a.rotateRight 13 ^^^ r.a.rotateRight 22
  let mj := (r.a &&& r.b) ^^^ (r.a &&& r.c) ^^^ (r.b &&& r.c)
  { a := t1 + (s0 + mj), b := r.a, c := r.b, d := r.c, e := r.d + t1, f := r.e, g := r.f, h := r.g }

/-- The next schedule word from the last sixteen, oldest first. -/
def shaNext (w : List U32) : U32 :=
  let x := w.getD 1 0
  let y := w.getD 14 0
  (y.rotateRight 17 ^^^ y.rotateRight 19 ^^^ (y >>> 10)) + w.getD 9 0 +
  (x.rotateRight 7 ^^^ x.rotateRight 18 ^^^ (x >>> 3)) + w.getD 0 0

/-- The rounds for the round constants `ks`, the schedule's last sixteen words being `w`. -/
def shaRounds : List U32 → List U32 → ShaRegs → ShaRegs
  | [], _, r => r
  | k :: ks, w, r => shaRounds ks (w.drop 1 ++ [shaNext w]) (shaRound r k (w.getD 0 0))

/-- One 64-byte block. -/
def shaBlock (r : ShaRegs) (blk : List Byte) : ShaRegs :=
  let q := shaRounds shaK ((chunks 4 16 blk).map (fun c => BitVec.ofNat 32 (beNat c))) r
  { a := r.a + q.a, b := r.b + q.b, c := r.c + q.c, d := r.d + q.d,
    e := r.e + q.e, f := r.f + q.f, g := r.g + q.g, h := r.h + q.h }

/-- SHA-256 of a byte string, 32 bytes. -/
def sha256 (m : List Byte) : List Byte :=
  let z := (119 - m.length % 64) % 64
  let p := m ++ [0x80#8] ++ List.replicate z 0#8 ++ beBytes 8 (8 * m.length)
  let r := (chunks 64 (p.length / 64) p).foldl shaBlock shaInit
  ([r.a, r.b, r.c, r.d, r.e, r.f, r.g, r.h].map (fun w => beBytes 4 w.toNat)).flatten

/-- HMAC-SHA-256 (R70). -/
def hmac (key msg : List Byte) : List Byte :=
  let k := padTo 64 (if key.length > 64 then sha256 key else key)
  sha256 (k.map (· ^^^ 0x5c#8) ++ sha256 (k.map (· ^^^ 0x36#8) ++ msg))

/-- A reflected CRC of `w` bits with polynomial `poly`, one bit. -/
def crcBit (poly c : Nat) : Nat := if c % 2 = 1 then (c / 2) ^^^ poly else c / 2

/-- A reflected CRC, one byte. -/
def crcByte (poly c : Nat) (b : Byte) : Nat :=
  (List.range 8).foldl (fun x _ => crcBit poly x) (c ^^^ b.toNat)

/-- CRC-32 of IEEE 802.3. -/
def crc32 (m : List Byte) : Nat :=
  (m.foldl (crcByte 0xEDB88320) 0xFFFFFFFF) ^^^ 0xFFFFFFFF

/-- CRC-64 (reflected ECMA-182 polynomial). -/
def crc64 (m : List Byte) : Nat :=
  (m.foldl (crcByte 0xC96C5795D7870F42) 0xFFFFFFFFFFFFFFFF) ^^^ 0xFFFFFFFFFFFFFFFF

end Sys2Proof
end

