-- ==== Sys2Proof/Config.lean ====
section
/-!
DEFINITION. What an implementation fixes and what the spec leaves open. The opaque constants are free values: nothing can
prove what they are, so a statement that holds here holds for every value of them.
-/
namespace Sys2Proof.Config

/-- Number of time-base ticks in one second (R17: 8 ns each). -/
abbrev ticksPerSecond : Nat := 125000000
/-- Ticks in a millisecond. -/
abbrev ticksPerMs : Nat := 125000
/-- Ticks in a microsecond. -/
abbrev ticksPerUs : Nat := 125
/-- Length of an I/O bus frame in ns (R27). -/
abbrev frameNs : Nat := 250000
/-- Length of an alarm scan in ns (R17). -/
abbrev scanNs : Nat := 10000000
/-- Length of a budget frame in ns (R17). -/
abbrev budgetNs : Nat := 100000

/-- A value the spec leaves open, by the number of such values taken so far (log 8). -/
opaque freeValue : Nat → Nat

/-- What the task table of a program says of a task, and the contents of the retain map: the spec gives neither layout (R120,
R132, R137, R140; log 9). Answers, for the bytes of the image and a task: inputs AP, inputs BP, outputs AP, outputs BP, edge
list, [state bytes, retained bytes, context], direct results (16 × converter + entry), record blocks (converter, N, …),
HART records (256 × modem + entry), CAN transmit objects (R465, each as the number its 16 bytes spell). -/
opaque taskTable : List (BitVec 8) → Nat → List (List Nat)

/-- The initial contents of a task's state area in a program image, by byte (R148; log 9). -/
opaque taskInit : List (BitVec 8) → Nat → Nat → BitVec 8

/-- The first position at which the code of a program image imports a service outside the agreed set, or references another
task's retained symbol (R123): the code's format is not in the spec (log 9). -/
opaque codeCheck : List (BitVec 8) → Option Nat

/-- π, sine, natural logarithm and power in binary64, of which the sines of R212 are made: the spec gives the real-valued formulas and
not how these functions round (log 10). -/
opaque pi : Nat
opaque sin : Nat → Nat
opaque ln : Nat → Nat
opaque pow : Nat → Nat → Nat

/-- One step of the loop signature (R209): signature so far, record, written value, six states (log 11). -/
opaque loopFold : BitVec 64 → Nat → Nat → List Nat → BitVec 64

/-- The alarm signature (R249), over the words of the states it folds (log 11). -/
opaque alarmFold : List Nat → BitVec 64

/-- How long the evaluation of a scan at a tick takes, in ns: its clock is spread, and the spec bounds it only (R17, R220; log 130). -/
opaque alarmScanTime : Nat → BitVec 32

/-- The signature of a firmware header verifies under the key of a KeyId (R504, R505): the public keys stand in the boot ROM
and the spec does not give them (log 14). Header bytes 0x00–0x7F, KeyId, signature. -/
opaque fwSigOk : List (BitVec 8) → Nat → List (BitVec 8) → Bool

end Sys2Proof.Config
end

