-- ==== Sys2Proof/Machine/State.lean ====
section
/-!
DEFINITION. The state of one module (the block of this model): every register, table, queue, counter, buffer and latch the
spec gives it, as plain data, and the queue of waiting commands. Each field's docstring gives its width, the rule that
names it and its reset value; `M0` marks what an entry into M0 clears, `kept` what survives it. Times in ns are values
of the time base (R445); deadlines in ticks count the 8 ns ticks that pass (R445: durations never follow a change of the
value).
-/
namespace Sys2Proof.Machine

/-- Why a step stops. -/
inductive Fault where
  /-- A datagram whose Command field is another row's code was offered under this row. Raised by the mailbox commands.
  Safe: the datagram belongs to the other row. -/
  | otherCommand
deriving DecidableEq, Repr

/-- Why a command has no meaning here. -/
inductive Refusal where
  /-- The arm of `exec` for this row has no meaning yet. -/
  | notModelled (mnemonic : String)
deriving DecidableEq, Repr

/-- The twelve modes (R35). -/
inductive Mode where
  | m0 | m1 | m2 | m3 | m4 | m5 | m6 | m7 | m8 | m9 | m10 | m11
deriving DecidableEq, Repr

/-- The roles (R35, R45). -/
inductive Role where
  | none | primary | standby | isolated | solo
deriving DecidableEq, Repr

/-- Identity and inventory, page 0x00 (R4–R9, R105). All of it is kept over M0. -/
structure Ident where
  /-- VariantCode, uint16 (R4, R105): 10, 40, 70 or 90; the reference configuration is the -90 (R8). -/
  variant : Nat := 90
  /-- SerialNumber, uint64 (R105): factory value, DESIGN CHOICE 1 (log 2). -/
  serial : U64 := 1
  /-- HardwareRevision, uint16 (R105): factory value, DESIGN CHOICE 0x0100 (log 2). -/
  hwRev : U16 := 0x0100
  /-- ManufactureTime, uint64 ns (R105): factory value, DESIGN CHOICE 0 (log 2). -/
  madeAt : U64 := 0
  /-- BaseMac, uint64 (R105): factory value, DESIGN CHOICE 0 (log 2). -/
  baseMac : U64 := 0
  /-- FirmwareRelease, uint16 (R9): 0x0302. -/
  fwRelease : U16 := 0x0302
  /-- OperatingSeconds, uint64 (R105): 0, never reset. -/
  opSeconds : Nat := 0
  /-- Ticks within the present operating second (R105); the model's own: 0. -/
  opTicks : Nat := 0
  /-- PowerCycleCount, uint32 (R105): 0, never reset. -/
  powerCycles : U32 := 0
deriving DecidableEq, Repr

/-- A correction of the time base that is decided and waits for its boundary F (R451). -/
structure Correction where
  /-- C, ns, signed. -/
  c : Int
  /-- F, ns. -/
  f : Nat
  /-- Cause of EV197 (R457). -/
  cause : Nat
  /-- The asynchronous operation it completes, if a TIME_ACCEPT_STEP asked for it (R453). -/
  op : Option Nat
deriving DecidableEq, Repr

/-- The time base, the PTP servo and their parameters (R445–R455). M0. -/
structure Clk where
  /-- Time-base value, 48-bit seconds and 32-bit nanoseconds, as ns since the PTP epoch (R445): 0 where no power record is
  held (R446), DESIGN CHOICE (log 3). -/
  tb : Nat := 0
  /-- Fractional part of the nanosecond, 2^-32 ns (R445): 0. -/
  frac : Nat := 0
  /-- Ticks that have passed (R445: durations are counted in ticks that pass); the model's own: 0. -/
  ticks : Nat := 0
  /-- Frequency correction of the servo per tick, 2^-32 ns, signed, within 1,000 ppm (R446): 0, so TimeIncrement reads
  0x8_0000_0000. -/
  adj : Int := 0
  /-- Residue still to be slewed, 2^-32 ns, signed (R451): 0. -/
  slewRem : Int := 0
  /-- A slew is in progress (R451): false. -/
  slewing : Bool := false
  /-- TimeState, uint8 (R449, R455): 0 UNSET. -/
  state : Nat := 0
  /-- PendingStep, int64 ns (R455): 0. -/
  pendingStep : Int := 0
  /-- StepCount, uint32 (R455): 0. -/
  stepCount : U32 := 0
  /-- LastStepTime, uint64 ns (R455): 0. -/
  lastStep : Nat := 0
  /-- The correction decided and waiting for F (R451): none. -/
  corr : Option Correction := none
  /-- Consecutive Syncs with an offset below 1 µs (R449): 0. -/
  runLock : Nat := 0
  /-- Consecutive Syncs with an offset above 10 µs (R449): 0. -/
  runLoss : Nat := 0
  /-- Consecutive Syncs with an offset above 20 µs (R450): 0. -/
  runAsk : Nat := 0
  /-- PtpOffset, int64 ns (R454): 0. -/
  offset : Int := 0
  /-- PtpPathDelay, uint32 ns (R454): 0. -/
  pathDelay : U32 := 0
  /-- GrandmasterId, uint64 (R454): 0. -/
  gmId : U64 := 0
  /-- PtpPortState, one IEEE 1588 state number per port (R454): 0. -/
  portState : Tab Nat := []
  /-- StepsRemoved, uint16 (R454): 0. -/
  stepsRemoved : U16 := 0
  /-- UtcOffset, int16 s (R454): 37. -/
  utcOffset : Int := 37
  /-- ServoPort, uint8 (R454): 0. -/
  servoPort : Nat := 0
  /-- LanePeerOffset, int32 ns (R454): 0. -/
  lanePeerOffset : Int := 0
  /-- The best master each port has announced: port to (priority vector, identity, steps removed) (R448): none. -/
  masters : Tab (Nat × Nat × Nat) := []
  /-- Tick of the last Sync or Announce at each plant port (R449): none. -/
  lastPtp : Tab Nat := []
  /-- TimeState has been UNSET and no correction has been applied nor lock reached since (R449, R450; log 19): true. -/
  fresh : Bool := true
  /-- Tick of the last step of the value; the model's own: none. -/
  stepTick : Option Nat := none
  /-- SpreadDepth in the running clocks, read on entry to M0 (R24, R26): 1. -/
  spread : Nat := 1
deriving DecidableEq, Repr

/-- Why a mode change happens, Detail of EV000 (R46). -/
inductive ChangeCause where
  | command | automatic
deriving DecidableEq, Repr

/-- A mode change that waits for its switch instant (R39). -/
structure ModeChange where
  /-- Mode to be entered. -/
  target : Mode
  /-- Role to be entered. -/
  role : Role
  /-- Switch instant, ns on the time base. -/
  at_ : Nat
  /-- Scope PAIR (R87). -/
  pair : Bool
  /-- The asynchronous operation to complete, if a command of this module asked for it. -/
  op : Option Nat
  /-- The partner has confirmed the announcement, or none was needed (R39). -/
  confirmed : Bool
  /-- Cause of EV002 at the instant (R46: 1 role swap, 2 takeback, 3 own-check flag, 6 join, 7 mode change). -/
  cause : Nat
  /-- A command asked for it, here or on the partner; none did where it is automatic (R36, R46). -/
  command : Bool
  /-- This module withdraws: its partner stays in a run mode (R42). -/
  withdraws : Bool
  /-- This module joins: it takes outputs, epochs and OSNs from the copy (R275, R276). -/
  joins : Bool
  /-- Epoch and OSN of each task as the module that becomes PRIMARY has sent them (R268); none: its own. -/
  streams : List (Nat × Nat)
  /-- A STANDBY has asked for the change and awaits the instant that the PRIMARY chooses (R39, R280); `at_` then only names the
  request. -/
  asked : Bool := false
deriving DecidableEq, Repr

/-- An automatic transition that waits for the first I/O bus frame boundary after its cause (R40): mode, role, cause of EV002 and
that boundary. -/
structure AutoChange where
  mode : Mode
  role : Role
  cause : Nat
  at_ : Nat
deriving DecidableEq, Repr

/-- The AO share and DO drive of M3 that hold from an agreed I/O bus frame boundary on, and the mode the partner then has (R44). -/
structure M3Next where
  at_ : Nat
  share : Nat
  drive : Bool
  partner : Mode
deriving DecidableEq, Repr

/-- Modes and roles (R35–R45). M0. -/
structure ModeUnit where
  /-- Mode, uint8 (R45): 0 M0. -/
  mode : Mode := .m0
  /-- Role, uint8 (R45): 0 NONE. -/
  role : Role := .none
  /-- PreviousMode, uint8 (R45): 0. -/
  prev : Mode := .m0
  /-- ModeChangeCount, uint32 (R45): 0. -/
  changes : U32 := 0
  /-- ModeEntryTime, uint64 ns (R45): 0. -/
  entryTime : Nat := 0
  /-- Tick of the last switch instant; the model's own: 0. -/
  entryTick : Nat := 0
  /-- The commanded or announced change that is pending (R39, R41): none. -/
  pending : Option ModeChange := none
  /-- An automatic transition that waits for the next I/O bus frame boundary (R40): none. -/
  auto : Option AutoChange := none
  /-- The share change of M3 agreed with the partner (R44): none. -/
  m3next : Option M3Next := none
  /-- RecoveryCause, uint16 (R45): 0. -/
  recoveryCause : Nat := 0
  /-- HaltCause, uint16 (R45): 0. -/
  haltCause : Nat := 0
  /-- Resource named by EV008 (R46): 0xFF. -/
  haltResource : Nat := 0xFF
  /-- The module was SOLO when it entered M7 (R36): false. -/
  soloBeforeHold : Bool := false
  /-- Mode left on entry into M9 and its role (R36, R511): none. -/
  leftForUpdate : Option (Mode × Role) := none
  /-- The module entered M3 from M9 after an activation within a pair (R36): false. -/
  rejoin : Bool := false
  /-- A join has been requested (R36, R38: M5 after accession and copy) by the operation given: none. -/
  joinOp : Option Nat := none
  /-- CuratorRestartCount, uint32 (R45): 0. -/
  curatorRestarts : U32 := 0
  /-- Ticks of the Curator restarts of the last 600 s (R36): empty. -/
  restartTicks : List Nat := []
  /-- The self-test of this power-up has ended, and with it the one run request of StartMode has been made (R45, R549): false. -/
  startDone : Bool := false
  /-- CarrierSlot, uint8: 0 slot A, 1 slot B, 0xFF floating (R28, R104); read from SLOT_ID in M0: DESIGN CHOICE 0xFF before
  it is read (log 4). -/
  slot : Nat := 0xFF
deriving DecidableEq, Repr

/-- A configuration image (R53): the values that differ from their defaults, the other slot's values of the P parameters
(R102) and the table entries that differ from their reset value, each entry as its little-endian memory image. -/
structure Image where
  /-- Raw value by parameter index, for this module's slot. -/
  params : Tab Nat := []
  /-- Raw value by parameter index of the P parameters of the other slot. -/
  other : Tab Nat := []
  /-- Entry image by 2^20 × table + entry number. -/
  tables : Tab Nat := []
  /-- SchemaVersion of the image (R53, R63). -/
  schema : Nat := 9
  /-- WrittenVariant of the image (R53): that of the import it came from, 0 for one made on the module. -/
  variant : Nat := 0
deriving DecidableEq, Repr

/-- An image being imported (R54, R547). -/
structure Import where
  next : Nat
  total : Nat
  bytes : List Byte
deriving DecidableEq, Repr

/-- The configuration store and the effective set (R47–R54, R58, R64, R550). Kept over M0, but for the working image and
what is loaded. -/
structure Cfg where
  /-- Committed image (R47), kept: none at delivery. -/
  committed : Option Image := none
  /-- ConfigGeneration written with the committed image, uint32 (R45), kept: 0. -/
  generation : U32 := 0
  /-- Kept older-schema image (R64), kept: none. -/
  older : Option Image := none
  /-- Working image (R47): defaults. -/
  working : Image := {}
  /-- Base image in effect: committed values and the live edits that have taken effect (R48, R51): defaults. -/
  base : Image := {}
  /-- A configuration is loaded (R35, R550): false. -/
  loaded : Bool := false
  /-- ConfigState, uint8 (R45): 0 NONE. -/
  state : Nat := 0
  /-- MigratedFromSchema, uint16 (R45): 0. -/
  migratedFrom : Nat := 0
  /-- MigrationDropCount, uint32 (R45): 0. -/
  dropCount : Nat := 0
  /-- A committed change that takes effect at the next I/O bus frame boundary (R51): false. -/
  applyCommitted : Bool := false
  /-- A discard that takes effect at the next I/O bus frame boundary (R50): false. -/
  applyDiscard : Bool := false
  /-- Live edits of tables, written and not yet at their application boundary (R48): (2^20 × table + entry, image). -/
  liveTables : List (Nat × Nat) := []
  /-- The running COMMIT_CONFIG: its operation, if a command of this module asked for it, and the tick it began (R49): none. -/
  commit : Option (Option Nat × Nat) := none
  /-- Images fixed for export: session, image number, bytes (R54): empty. -/
  exports : List (U32 × Nat × List Byte) := []
  /-- The import in progress (R54, R547): none. -/
  importing : Option Import := none
  /-- OverlaySkipCount as found at the last load, by mode (R45, R57): 0. -/
  skipped : Tab Nat := []
deriving DecidableEq, Repr

/-- A notification route (R91). -/
structure Route where
  port : Nat
  completions : Bool
  /-- EventMask, 256 bits, bit k for EVk. -/
  events : Nat
deriving DecidableEq, Repr

/-- A session (R74, R75, R91–R93). -/
structure Session where
  /-- Session identifier, uint32. -/
  id : U32
  /-- Level, 0–3 (R72). -/
  level : Nat
  /-- Transport it is bound to (R75). -/
  via : Via
  /-- Source IPv4 address it is bound to (R75). -/
  addr : U32
  /-- Session key, 32 bytes (R74). -/
  key : List Byte
  /-- Opened with the all-zero key while the SERVICE key is unset (R73). -/
  unsetKey : Bool
  /-- RequestCounter of the last accepted request; none before the first (R75). -/
  counter : Option Nat
  /-- Tick of the last valid request (R75). -/
  lastTick : Nat
  /-- Notification route (R91): none before SUBSCRIBE. -/
  route : Option Route
  /-- Notification sequence number last used (R92). -/
  seq : Nat
  /-- The last 64 completions, oldest first: Tag, the operation's number and notification body (R93). -/
  done : List (Nat × Nat × List Byte)
  /-- Notifications waiting to be sent (status, tag, body), oldest first, at most 256 (R93). -/
  waiting : List (Nat × Nat × List Byte)
  /-- Its level key has changed while a request of it was executing: it closes with that response (R95). -/
  closing : Bool := false
deriving DecidableEq, Repr

/-- A request that has been forwarded to the partner and waits for its answer (R69). -/
structure Forward where
  via : Via
  addr : U32
  port : U16
  /-- Session and RequestCounter of the request (R94). -/
  session : U32
  counter : Nat
  /-- Header of the request, for the NOT_READY answer. -/
  header : List Byte
  /-- Tick it was forwarded. -/
  since : Nat
deriving DecidableEq, Repr

/-- One mailbox: header latch, request buffer, what occupies it, and the last response sent, as the response buffer holds it (R66,
R94). -/
structure Box where
  /-- The 48-byte header of the last request taken (R66): empty. -/
  header : List Byte := []
  /-- The request buffer: its body, at most 4 KiB (R66): empty. -/
  request : List Byte := []
  /-- Where its response goes: transport, address, port and Target: none. -/
  requester : Option (Via × U32 × U16 × Nat) := none
  /-- The forwarded request that occupies it. -/
  fwd : Option Forward := none
  /-- Session, RequestCounter, header and body of the last response (R94). -/
  last : Option (U32 × Nat × List Byte) := none
deriving DecidableEq, Repr

/-- A running asynchronous operation (R81). -/
structure AsyncOp where
  /-- The model's own number for it. -/
  id : Nat
  session : U32
  tag : Nat
  code : Nat
  counter : Nat
deriving DecidableEq, Repr

/-- A partly received datagram (R67). -/
structure Reassembly where
  via : Via
  addr : U32
  port : U16
  ident : U16
  total : Nat
  since : Nat
  parts : List (Nat × List Byte)
deriving DecidableEq, Repr

/-- A pair-effective command that is announced and waits for its application boundary (R83). -/
structure PairCmd where
  code : Nat
  body : List Byte
  /-- Application boundary, ns on the time base. -/
  at_ : Nat
  /-- Operation of this module it completes, if its request came to this module. -/
  op : Option Nat
  /-- Session the request named (for the Archive records that name it). -/
  session : U32
  /-- RequestCounter of the request (R261, auxiliary item 3). -/
  counter : Nat := 0
deriving DecidableEq, Repr

/-- A pair-effective command a STANDBY has passed to the PRIMARY and whose outcome it awaits (R83). -/
structure Relay where
  code : Nat
  via : Via
  addr : U32
  port : U16
  header : List Byte
  session : U32
  counter : Nat
  op : Nat
deriving DecidableEq, Repr

/-- The Curator's mailbox service (R66–R96). M0, but for the keys. -/
structure Mbx where
  /-- MB00–MB15 (R66): free, no stored response. -/
  boxes : Tab Box := []
  /-- Open sessions, at most 32 (R75): none. -/
  sessions : List Session := []
  /-- Running asynchronous operations, at most 8 (R81): none. -/
  async : List AsyncOp := []
  /-- Number of the next operation; the model's own: 0. -/
  nextOp : Nat := 0
  /-- Level keys 0–3, 32 bytes each (R72, R73), kept: unset at delivery. -/
  keys : Tab (List Byte) := []
  /-- Partly received datagrams (R67): none. -/
  reasm : List Reassembly := []
  /-- Frames discarded by R76 in the last 10 s: transport, address, tick (R76): none. -/
  fails : List (Via × U32 × Nat) := []
  /-- Sources being ignored: transport, address, tick of the end (R76): none. -/
  locks : List (Via × U32 × Nat) := []
  /-- Cause and tick of the Curator restart in progress (R95): none. -/
  restarting : Option (Nat × Nat) := none
  /-- Event counters as they stood when the restart began (R95, R496): none. -/
  restartMark : List (Nat × Nat) := []
  /-- Pair-effective commands announced and waiting for their boundary (R83): none. -/
  scheduled : List PairCmd := []
  /-- Pair-effective commands passed to the PRIMARY (R83): none. -/
  relays : List Relay := []
  /-- The journal (R95): per session, RequestCounter and outcome (a status code) of its last executed request: empty. -/
  journal : List (U32 × Nat × Nat) := []
  /-- FrameErrorCount, uint32 (R96): 0. -/
  frameErr : U32 := 0
  /-- AuthFailCount, uint32 (R96): 0. -/
  authFail : U32 := 0
  /-- AuthLockoutCount, uint32 (R96): 0. -/
  lockouts : U32 := 0
  /-- NotifyQueueDrops, uint32 (R96): 0. -/
  queueDrops : U32 := 0
  /-- PartnerForwardCount, uint32 (R96): 0. -/
  forwards : U32 := 0
  /-- LastRefusedCommand, uint16 (R96): 0. -/
  lastRefused : Nat := 0
  /-- StatusCount, uint32 per status code (R96): 0. -/
  status : Tab Nat := []
deriving DecidableEq, Repr

/-- One event source EVk (R112). -/
structure EventSrc where
  /-- Latch bit: 0. -/
  latch : Bool := false
  /-- Occurrence counter, uint32, saturating: 0. -/
  count : Nat := 0
  /-- Time of the last occurrence, ns: 0. -/
  time : Nat := 0
  /-- The Detail of the last occurrence (R92), as fields of (bytes, value): empty. -/
  detail : List (Nat × Nat) := []
deriving DecidableEq, Repr

/-- A hold of one event for one session (R114). -/
structure Hold where
  session : U32
  ev : Nat
  /-- Tick at which the hold ends. -/
  ends : Nat
  /-- An occurrence fell in the hold. -/
  again : Bool
deriving DecidableEq, Repr

/-- Event latches, counters and times, and the notification holds (R112–R114). M0. -/
structure Events where
  /-- EV000–EV255 (R112). -/
  src : Tab EventSrc := []
  /-- Running holds (R114): none. -/
  holds : List Hold := []
deriving DecidableEq, Repr

/-- A record of the trend store (R110). -/
structure TrendRec where
  time : Nat
  channel : Nat
  first : Bool
  value : Nat
deriving DecidableEq, Repr

/-- The trend store (R108–R111). The records and their number are kept; the rest M0. -/
structure Trend where
  /-- Surviving records, oldest first (R110), kept: none. -/
  recs : List TrendRec := []
  /-- TrendRecordsWritten, uint64 (R111), kept: 0. -/
  written : Nat := 0
  /-- Last written value per channel; none before the first sample after entry into M3 or an entry change (R109): none. -/
  last : Tab (Option Nat) := []
deriving DecidableEq, Repr

/-- One Archive record as held on flash or in the stage (R491). -/
structure ArchRec where
  seq : Nat
  time : Nat
  opSeconds : Nat
  cycles : Nat
  cls : Nat
  kind : Nat
  source : Nat
  mode : Nat
  role : Nat
  /-- Byte 0x022: LATE, TIME_UNSET, REBUILT, CONTINUED, HEAD, MANDATORY. -/
  flags : Nat
  dropped : Nat
  session : Nat
  release : Nat
  part : Nat
  parts : Nat
  detail : List Byte
  /-- Snapshot entries: index, length, status, value (R494). -/
  snapshot : List (Nat × Nat × Nat × Nat)
deriving DecidableEq, Repr

/-- The record of sequence 1, written at the end of factory test (R488); what R488 does not give of it is a DESIGN CHOICE (log 5): an
internal record with no detail. -/
def archFactory : ArchRec := {
  seq := 1, time := 0, opSeconds := 0, cycles := 0, cls := 0, kind := 5, source := 0, mode := 0, role := 0, flags := 3,
  dropped := 0, session := 0, release := 0x0302, part := 0, parts := 1, detail := [], snapshot := [] }

/-- The Archive (R488–R502). Kept over M0, but for the stage and the counters since power-up. -/
structure Archive where
  /-- ArchiveNext, uint64 (R502), kept: 2 after the factory record, sequence 1 (R488). -/
  next : Nat := 2
  /-- ArchiveFlashed, uint64 (R502), kept: 1 (R488). -/
  flashed : Nat := 1
  /-- Tail slots, by slot number (R489), kept: the factory record, whose fields beyond R488 are a DESIGN CHOICE (log 5). -/
  tail : Tab (Option ArchRec) := [(0, some archFactory)]
  /-- Head slots, by slot number (R489), kept. -/
  head : Tab (Option ArchRec) := [(0, some archFactory)]
  /-- Staged records, oldest first, at most 4,096 (R493): none. -/
  stage : List ArchRec := []
  /-- Triggers held for a mandatory place, at most 256, as records that have no number yet (R493): none. -/
  held : List ArchRec := []
  /-- Records lost whose number a Source 3 record is to give (R493, R497), kept: 0. -/
  lostPending : Nat := 0
  /-- Tick of the last kind 1 record of a class (R495): none. -/
  lastRouted : Tab (Option Nat) := []
  /-- Kind 1 records not written since the last record of the class, uint32 (R491): 0. -/
  dropped : Tab Nat := []
  /-- ArchiveTailWraps, uint32 (R502), kept: 0. -/
  wraps : Nat := 0
  /-- ArchiveTailCapacity, uint32 (R502), kept: 1,048,576. -/
  capacity : Nat := 1048576
  /-- ArchiveHeadLost, uint32 (R502), kept: 0. -/
  headLost : Nat := 0
  /-- ArchiveRateDrops, uint32 (R502): 0. -/
  rateDrops : Nat := 0
  /-- ArchiveLostCount, uint32 (R502), kept: 0. -/
  lostCount : Nat := 0
  /-- ArchiveRebuildCount, uint32 (R502): 0. -/
  rebuilds : Nat := 0
  /-- LastPowerDownTime, uint64 ns (R502), kept: 0. -/
  lastDown : Nat := 0
  /-- HaltCause of the previous life (R497), kept: 0. -/
  prevHalt : Nat := 0
deriving DecidableEq, Repr

/-- An image point: its value and the stamp of the last write (R133). -/
structure Point where
  /-- Value: 32 bits for an analogue point, 0 or 1 for a binary point (R121). -/
  val : Nat := 0
  /-- Stamp of that value, ns. -/
  at_ : Nat := 0
  /-- The value before it, for a slice load whose t0 lies before the stamp (R133). -/
  old : Nat := 0
deriving DecidableEq, Repr

/-- The process image (R22, R121). M0. -/
structure PImage where
  /-- AP00000–AP24575, 32 bits each (R121): 0. -/
  ap : Tab Point := []
  /-- BP00000–BP65535, 1 bit each (R121): 0. -/
  bp : Tab Point := []
deriving DecidableEq, Repr

/-- One symbol of a program (R122). -/
structure Sym where
  hash : Nat
  offset : Nat
  size : Nat
  type : Nat
  task : Nat
  /-- Byte 0x0C: bit 2 CHANGEABLE, bit 1 CONSTANT, bit 0 RETAINED. -/
  flags : Nat
deriving DecidableEq, Repr

/-- One entry of the point map (R121). -/
structure PointDecl where
  binary : Bool
  real : Bool
  point : Nat
  kind : Nat
  producer : Nat
deriving DecidableEq, Repr

/-- What the task table of a program says of one task (R120, R132, R137, R140). -/
structure TaskDecl where
  inAp : List Nat := []
  inBp : List Nat := []
  outAp : List Nat := []
  outBp : List Nat := []
  /-- Edge list. -/
  edges : List Nat := []
  /-- Bytes of the state area, its retained part first, and of the retained part. -/
  stateSize : Nat := 0
  retainSize : Nat := 0
  /-- Initial contents of the state area. -/
  init : List Byte := []
  /-- Direct results the task reads: 16 × converter + entry (R376). -/
  results : List Nat := []
  /-- Record blocks: converter and number of records N (R375). -/
  blocks : List (Nat × Nat) := []
  /-- HART records: 256 × modem + entry (R407). -/
  harts : List Nat := []
  /-- Context of the task (R332). -/
  ctx : Nat := 0
  /-- CAN transmit objects, each as the number its 16-byte image spells (R465). -/
  txs : List Nat := []
deriving DecidableEq, Repr

/-- A program as the module runs it. -/
structure Program where
  points : List PointDecl := []
  syms : List Sym := []
  tasks : Tab TaskDecl := []
  digest : U64 := 0
deriving DecidableEq, Repr

/-- A program slot, PG-A or PG-B (R23, R120, R157). Kept over M0. -/
structure ProgSlot where
  /-- The bytes written since offset 0: empty at delivery. -/
  bytes : List Byte := []
  /-- ImageLength bytes are in (R157). -/
  complete : Bool := false
  /-- Constant patches: symbol and value, at most 4,096 (R156). -/
  patches : List (Nat × Nat) := []
deriving DecidableEq, Repr

/-- A cycle of a task, from its due start to its close (R30, R141). -/
structure Cycle where
  t0 : Nat
  osn : Nat
  stamp : Nat
  /-- Frozen or agreed slice values, in slice order. -/
  ap : List Nat
  bp : List Nat
  /-- The slice has been loaded (R133). -/
  loaded : Bool
  /-- The force list applies to the cycle (R150, R261 FORCES). -/
  forces : Bool
  /-- A recovery run (R146). -/
  recovery : Bool
  /-- The outputs are discarded at close: a mode change ended the cycle (R41). -/
  discard : Bool
  /-- Tick of the due start. -/
  since : Nat
  /-- The PairWord of its agreed input frame (R261), which the service of R262 returns. -/
  pairWord : Nat := 0
deriving DecidableEq, Repr

/-- What a cycle hands to the release rule (R33): its outputs and digest. -/
structure Held where
  osn : Nat
  stamp : Nat
  ap : List (Nat × Nat)
  bp : List (Nat × Nat)
  digest : Nat
  /-- Tick at which the own digest was ready (R34). -/
  ready : Nat
  /-- CAN frames of the cycle: transmit object and data bytes (R465). -/
  tx : List (Nat × List Byte)
deriving DecidableEq, Repr

/-- A digest the partner sent (R264). -/
structure PeerDigest where
  osn : Nat
  digest : Nat
  /-- AO commands before share, by stage, and DO states, by output. -/
  ao : List (Nat × Nat)
  dos : List (Nat × Bool)
deriving DecidableEq, Repr

/-- A pending VALUE_WRITE (R154): symbol, length, value of each entry; the operation it completes. -/
structure ValueWrite where
  entries : List (Nat × Nat × Nat)
  op : Option Nat
  session : U32
  body : List Byte
  /-- Its first cycle has a t0 at or after this time, ns (R83): 0 outside a pair. -/
  at_ : Nat
deriving DecidableEq, Repr

/-- The payload a task last released (R43, R552): cycle stamp and one payload per station slot. -/
structure Payload where
  stamp : Nat
  frames : List (Nat × List Byte)
deriving DecidableEq, Repr

/-- One task (R124–R155). M0, but for the epoch. -/
structure Task where
  /-- The open cycle: none. -/
  cyc : Option Cycle := none
  /-- Last OSN consumed, uint32 (R129): 0. -/
  osn : Nat := 0
  /-- PlacementEpoch of the output stream, uint8 (R267, R268), kept: 0. -/
  epoch : Nat := 0
  /-- Due starts that events have set: their t0 (R127): none. -/
  due : List Nat := []
  /-- Tick or boundary at which a TASK_TRIGGER's start falls due, with the operations it completes (R551): none. -/
  trigger : Option (Nat × List Nat) := none
  /-- Previous edge states; none before the first cycle (R137, R138): none. -/
  prev : Tab (Option Nat) := []
  /-- The abandoned cycle, to be run again (R146): none. -/
  abandoned : Option Cycle := none
  /-- Starts held during a recovery run, at most two (R146): none. -/
  heldStarts : List Cycle := []
  /-- Closed cycles that wait for release (R33): none. -/
  waiting : List Held := []
  /-- Partner digests that have arrived (R264): none. -/
  peers : List PeerDigest := []
  /-- OSNs for which the partner has sent a withheld marker (R34): none. -/
  markers : List Nat := []
  /-- OSNs this module has withheld and whose digest of the partner it mirrors (R265): none. -/
  withheld : List Nat := []
  /-- Tick of the last due start, so that a grid instant starts the task once: none. -/
  startTick : Option Nat := none
  /-- STANDBY: CycleStamp of the last agreed input frame: 0. -/
  lastStamp : Nat := 0
  /-- STANDBY: OSN and t0 of the due start whose agreed frame is awaited (R34, R277): none. -/
  awaited : Option (Nat × Nat) := none
  /-- OSNs skipped for a late agreement, within the last 64 (R34, R139): none. -/
  lateOsns : List Nat := []
  /-- SkipCount and executed cycles, uint32 each (R124): 0. -/
  skips : Nat := 0
  executed : Nat := 0
  /-- Last and longest run, ticks, uint32 each (R124): 0. -/
  lastRun : Nat := 0
  longestRun : Nat := 0
  /-- Faulted executed cycles in a row (R145): 0. -/
  faults : Nat := 0
  /-- TaskStoppedMap bit (R126): false. -/
  stopped : Bool := false
  /-- TaskRecoveringMap bit (R126): false. -/
  recovering : Bool := false
  /-- State area, by byte offset (R140): 0. Its retained part is kept through the saves. -/
  area : Tab Byte := []
  /-- Pending VALUE_WRITEs, at most 8 (R154): none. -/
  writes : List ValueWrite := []
  /-- Last released payload since entry into a run mode (R552): none. -/
  payload : Option Payload := none
  /-- Sum of the retained lines (R266): 0. -/
  hash : U64 := 0
  /-- OSN and sum of the last exchange, this module's own and the partner's (R266): none. -/
  ownSum : Option (Nat × U64) := none
  peerSum : Option (Nat × U64) := none
  /-- SyncSeq of the last agreed input frame taken (R297); the model's own: none. -/
  frameSeq : Option Nat := none
  /-- Catch-up has been lost and the recovery run is still open: further starts are skipped (R146 step 4): false. -/
  lost : Bool := false
  /-- Pair-effective commands applied since the last start, which its agreed input frame carries: code, session, RequestCounter and
  body (R83, R261): none. -/
  cmds : List (Nat × Nat × Nat × List Byte) := []
deriving DecidableEq, Repr

/-- A PROGRAM_SWITCH that is running (R158–R160): slot, cold or not, operation, boundary of its start, and the tick at
which the gap began and the one at which the copy of step 3 began. -/
structure ProgSwitch where
  slot : Nat
  cold : Bool
  op : Option Nat
  at_ : Nat
  since : Option Nat
  copying : Option Nat := none
deriving DecidableEq, Repr

/-- One entry of the force list (R151). -/
structure Force where
  kind : Nat := 0
  point : Nat := 0
  value : Nat := 0
  setTime : Nat := 0
  /-- Once the force is in effect: the last value the point's producer delivered, with its stamp (R150). -/
  under : Option Point := none
  /-- Cleared, and in effect until the next slice load or close (R150): false. -/
  ending : Bool := false
deriving DecidableEq, Repr

/-- Programs, tasks and forces (R120–R160). M0, but for the slots and the counters since manufacture. -/
structure Tasks where
  /-- PG-A, PG-B (R157), kept. -/
  slotA : ProgSlot := {}
  slotB : ProgSlot := {}
  /-- Slot PROGRAM_SWITCH has selected (R105 ActiveProgramSlot), kept: 0xFF. -/
  active : Nat := 0xFF
  /-- The running program (R123): empty. -/
  prog : Program := {}
  /-- PROGRAM_LOAD in progress: next offset (R157): none. -/
  loadNext : Option Nat := none
  /-- T00–T31. -/
  task : Tab Task := []
  /-- The running PROGRAM_SWITCH (R158): none. -/
  switch : Option ProgSwitch := none
  /-- Force list, by force slot, at most 1,024 (R151): empty. -/
  forces : Tab Force := []
  /-- ForceApplied (R126): false. -/
  applied : Bool := false
  /-- FORCES of the last agreed input frame (R150): false. -/
  peerForces : Bool := false
  /-- LastTaskFault, uint32 (R126): 0. -/
  lastFault : Nat := 0
  /-- ProgramSwitchCount, uint32, since manufacture (R126), kept: 0. -/
  switches : U32 := 0
  /-- OnlineChangeCount, uint32, since manufacture (R126), kept: 0. -/
  changes : Nat := 0
  /-- CheckpointRestartCount, uint32 (R126): 0. -/
  restarts : U32 := 0
  /-- CarryOverDropCount, uint32 (R126): 0. -/
  dropped : Nat := 0
  /-- LastSwitchGap, uint32 µs (R126): 0. -/
  gap : Nat := 0
deriving DecidableEq, Repr

/-- Retained data across power loss (R61, R62). Kept over M0. -/
structure Retain where
  /-- The last complete save: PTP time, whether it is a final save, and the retained part of each task: none. -/
  save : Option (Nat × Bool × Tab (List Byte)) := none
  /-- Granules (4 KiB) dirtied since the last periodic save: task × 2^16 + granule: empty. -/
  dirty : List Nat := []
  /-- A final save is skipped, as found at the power-fail detection (R61): false. -/
  skip : Bool := false
  /-- A final save is under way, with the retained parts as they stood when it began (R62): none. -/
  begun : Option (Tab (List Byte)) := none
  /-- EV017 has told of a periodic save that is late, at this tick (R46): none. -/
  saving : Option Nat := none
  /-- Tick of the last complete periodic save, for RetainSaveAge (R45): 0. -/
  lastTick : Nat := 0
deriving DecidableEq, Repr

/-- One reference of the phase unit (R162–R177). M0. Times are ticks. -/
structure PhRef where
  /-- RefStatus State (R169): 0 DISABLED, 1 SEARCHING, 2 CONFIRMING, 3 LOCKED. -/
  state : Nat := 0
  /-- Reverse: present direction (R169): false. -/
  reverse : Bool := false
  /-- Clamped (R169): false. -/
  clamped : Bool := false
  /-- Extrapolating (R169): false. -/
  extrap : Bool := false
  /-- LastUnlockCause (R169): 0. -/
  cause : Nat := 0
  /-- PhaseWord (R167): 0. -/
  phi : Nat := 0
  /-- The same as a distance from the base, in words, not wrapped (R172): 0. -/
  dphi : Int := 0
  /-- Velocity, signed 32.32 phase words per tick (R166): 0. -/
  v : Int := 0
  /-- Acceleration, 2^-96 phase words per tick squared (R172: exact to 2^-32 word): 0. -/
  a : Int := 0
  /-- base_t, base_p and the signed distance from base_p to next_p (R172): 0. -/
  baseT : Nat := 0
  baseP : Nat := 0
  nextD : Int := 0
  /-- Raw time of the previous edge (te_prev): none. -/
  tePrev : Option Nat := none
  /-- The previous interval between edges, ticks (R170): none. -/
  prevInt : Option Nat := none
  /-- c or k: transition count since Z, or tooth position (R165): 0. -/
  k : Nat := 0
  /-- same (R172): edges in the present direction since a reversal: 0. -/
  same : Nat := 0
  /-- Confirmations so far (R170): 0. -/
  conf : Nat := 0
  /-- Transitions since the last Z, or ordinary edges since the last gap edge (R170): 0. -/
  ords : Nat := 0
  /-- RevCount, int32 (R167): 0. -/
  revs : Int := 0
  /-- LastEdgeTime, uint64 ns (R167): 0. -/
  lastEdge : Nat := 0
  /-- LockedTotal, UnlockTotal, uint32 (R167): 0. -/
  locks : U32 := 0
  unlocks : U32 := 0
  /-- MaxEdgeJump, uint32 phase words (R167): 0. -/
  maxJump : Nat := 0
  /-- MaxClampTicks, uint32 (R167): 0. -/
  maxClamp : Nat := 0
  /-- Tick since which the phase is held at the clamp (R173): none. -/
  clampFrom : Option Nat := none
  /-- Tick of the last unlock (R187): 0. -/
  unlockTick : Nat := 0
  /-- Tick of the last lock (R178: no entry fires in the lock tick): none. -/
  lockTick : Option Nat := none
  /-- Kind 2 on an AI channel: the last converter result, binary32 and stamp (R164): none. -/
  sample : Option (Nat × Nat) := none
  /-- The filtered levels of PHnA, PHnB, PHnZ and of the AC sense input (R163), bits 0–3: DESIGN CHOICE 0 (log 158). -/
  lines : Nat := 0
  /-- Raw time of the last edge of PHnB that counts for the direction (R176): none. -/
  lastB : Option Nat := none
deriving DecidableEq, Repr

/-- A catalogue entry in deferral (R182): entry number, the version that fires, the tick and time it fell due. -/
structure Deferred where
  entry : Nat
  image : Nat
  tick : Nat
  time : Nat
deriving DecidableEq, Repr

/-- The phase unit and the catalogue (R162–R192). M0. -/
structure Phase where
  /-- PH0–PH3. -/
  ref : Tab PhRef := []
  /-- Entries that are disarmed (R179): none. -/
  disarmed : Tab Bool := []
  /-- FireCount, uint32, saturating, per entry (R180): 0. -/
  fires : Tab Nat := []
  /-- MaxDefer, uint16 ticks, per entry (R180): 0. -/
  defers : Tab Nat := []
  /-- Entries in deferral, in the order they are to fire (R182): none. -/
  deferred : List Deferred := []
  /-- The last tick in which entries fired, and how many (R182): 0. -/
  firedTick : Nat := 0
  firedNow : Nat := 0
  /-- The last tick in which EV051 occurred (R182); the model's own: none. -/
  toldTick : Option Nat := none
  /-- CatalogueFireCount, uint64 (R191): 0. -/
  fireCount : U64 := 0
  /-- CatalogueDeferCount, uint32 (R191): 0. -/
  deferCount : U32 := 0
  /-- CatalogueMaxDefer, uint16 (R191): 0. -/
  maxDefer : Nat := 0
deriving DecidableEq, Repr

/-- A queued loop item (R203): its number (a record, or a group's lowest enabled member), trigger tick and instant. -/
structure LoopItem where
  record : Nat
  tick : Nat
  time : Nat
  /-- Entries that were rewritten while it was queued: it runs under the old version (R197). -/
  old : Tab Nat := []
deriving DecidableEq, Repr

/-- An injection generator (R211–R213). M0. -/
structure Inject where
  /-- Active (R211): false. -/
  active : Bool := false
  /-- InjStartTime, uint64 ns; 0 before the first evaluation that adds d. -/
  start : Nat := 0
  /-- The start has been made by an evaluation. -/
  begun : Bool := false
  /-- InjValue, binary32: 0.0. -/
  value : Nat := 0
  /-- PRBS register and evaluations left of the present bit (R212): 0. -/
  prbs : Nat := 0
  hold : Nat := 0
  /-- The LOOP_INJECT start that it completes (R213): none. -/
  op : Option Nat := none
deriving DecidableEq, Repr

/-- A capture (R214–R216). M0. -/
structure Capture where
  /-- Armed, Full (R214): false. -/
  armed : Bool := false
  full : Bool := false
  /-- Storing has begun (R215): false. -/
  begun : Bool := false
  /-- Released evaluations until the next is stored: 0. -/
  skip : Nat := 0
  /-- CapCount, uint32: 0. -/
  count : Nat := 0
  /-- CapStartTime, uint64 ns: 0. -/
  start : Nat := 0
  /-- Samples, by number: two binary64 values. -/
  samples : Tab (Nat × Nat) := []
  /-- The LOOP_CAPTURE arm that it completes: none. -/
  op : Option Nat := none
deriving DecidableEq, Repr

/-- The loop engine (R193–R218). M0. -/
structure Loop where
  /-- Records 0–2,047. -/
  rec_ : Tab LoopRec := []
  /-- Queue, in order of trigger tick and record (R203): empty. -/
  queue : List LoopItem := []
  /-- Generators 0–3. -/
  inj : Tab Inject := []
  /-- Captures 0–3. -/
  cap : Tab Capture := []
  /-- Borrow requests whose answers are awaited: LSN, record, tick (R272): none. -/
  borrow : List (Nat × Nat × Nat) := []
  /-- On a STANDBY: the loop states differ and the PRIMARY's are awaited (R209, R270): false. -/
  behind : Bool := false
  /-- On a STANDBY: its own triggers, and the agreement frames it has evaluated, for their comparison (R208); the model's own: 0. -/
  ownTriggers : U32 := 0
  agreedItems : U32 := 0
  /-- SyncSeq of the last loop agreement frame taken (R297); the model's own: none. -/
  frameSeq : Option Nat := none
  /-- LoopEvalCount, uint64 (R217): 0. -/
  evals : U64 := 0
  /-- QueueDepthMax, uint16: 0. -/
  depthMax : Nat := 0
  /-- MergedTriggerCount, LoopMismatchCount, LoopFaultedCount, InvalidInputCount, TrackingCount, NumericCount,
  StrayTriggerCount, uint32 each (R217): 0. -/
  merged : U32 := 0
  mismatches : U32 := 0
  faulteds : U32 := 0
  invalids : U32 := 0
  trackings : U32 := 0
  numerics : U32 := 0
  strays : U32 := 0
  /-- MaxLatency, uint32 ns (R217): 0. -/
  maxLatency : Nat := 0
  /-- LSN of the last item numbered (R208): 0. -/
  lsn : U32 := 0
  /-- LoopLsn, uint32, LSN of the last released evaluation (R217): 0. -/
  released : U32 := 0
  /-- On a STANDBY: items whose agreement frame came before their own trigger (R208, R210); the model's own: none. -/
  early : List Nat := []
  /-- The signature being folded (R209): 0. -/
  fold : U64 := 0
  /-- LoopSignature (R217): 0, and the LSN of the last exchange. -/
  signature : U64 := 0
  exchanged : U32 := 0
deriving DecidableEq, Repr

/-- One journal entry (R250); SequenceEcho equals Sequence in an entry that is not torn. -/
structure JourRec where
  seq : Nat
  time : Nat
  kind : Nat
  cls : Nat := 0
  entry : Nat := 0
  group : Nat := 0
  message : Nat := 0
  value : Nat := 0
  limit : Nat := 0
  /-- AckKind, and AckNumber or 0 (R250). -/
  ackKind : Nat := 0
  ackNum : Nat := 0
  shelved : Bool := false
  callCode : Nat := 0
  session : Nat := 0
  scan : Nat := 0
  detail : Nat := 0
deriving DecidableEq, Repr

/-- An alarm command or write that waits for its release (R222, R248): command code, body, operation, session, and the time
before whose 500 µs it is not applied; accepted by this module or announced by the leader. -/
structure AlWait where
  code : Nat
  body : List Byte
  op : Option Nat
  session : U32
  at_ : Nat
deriving DecidableEq, Repr

/-- A snapshot (R221, R248): ScanNumber, S, the points (unlisted: 0), the edge flags of ACK0–ACK3. -/
structure AlSnap where
  scan : Nat
  at_ : Nat
  ap : Tab Nat
  bp : Tab Nat
  edges : Nat
deriving DecidableEq, Repr

/-- The entry pass of a scan: newly annunciated entries, entries whose shelving expired, entries that remind, journal entries
so far, groups whose SUPPRESSED changed, FAULTED entries whose borrowed results the leader awaits, and the units whose evaluators differ
in this scan (R220, R230, R272). -/
structure AlPass where
  snap : AlSnap
  news : List Nat
  expired : List Nat
  reminds : List Nat
  jour : List JourRec
  changed : List (Nat × Bool)
  await : List Nat
  mis : List (Nat × Nat)
deriving DecidableEq, Repr

/-- The alarm engine (R219–R254). M0, but for the journal. -/
structure Alarm where
  /-- Entries 0–16,383. -/
  ent : Tab AlEnt := []
  /-- Groups 0–511. -/
  grp : Tab AlGrp := []
  /-- The ladder. -/
  lad : Ladder := {}
  /-- ClassActive and ClassUnacked of classes 1–4, uint16 (R234): 0. -/
  clsActive : List Nat := [0, 0, 0, 0]
  clsUnacked : List Nat := [0, 0, 0, 0]
  /-- ScanNumber, uint64 (R253): 0. -/
  scan : Nat := 0
  /-- S of the last scan; the model's own: none. -/
  last : Option Nat := none
  /-- Edge flags of ACK0–ACK3 since the last snapshot (R221): 0. -/
  edges : Nat := 0
  /-- ScanTimeMax, uint32 ns (R220): 0. -/
  scanMax : Nat := 0
  /-- AlarmMismatchCount, uint32 (R253): 0. -/
  mismatches : U32 := 0
  /-- AlarmSignature, uint64 (R249): 0. -/
  signature : U64 := 0
  /-- AlarmFollowState, uint8 (R253): 0 alone. -/
  follow : Nat := 0
  /-- InvalidEntryCount, uint16 (R253): 0. -/
  invalids : Nat := 0
  /-- CallAckRefused, uint32 (R253): 0. -/
  ackRefused : U32 := 0
  /-- LadderNoRungCount, uint32 (R253): 0. -/
  noRung : U32 := 0
  /-- Commands that wait for a release (R248): none. -/
  waiting : List AlWait := []
  /-- SyncSeq of the last agreement frame of the leader, by which a void notice names it (R297); the model's own: none. -/
  frameSeq : Option Nat := none
  /-- A scan whose entry pass is done and which awaits borrowed results before its release, with its tick (R272): none. -/
  half : Option (AlPass × Nat) := none
  /-- The follower takes the states from the leader and keeps its ladder outputs off (R249): false. -/
  behind : Bool := false
  /-- JournalSequence: Sequence of the next entry, uint64 (R253), kept: 0 at delivery. -/
  jnext : Nat := 0
  /-- The ring of staged entries, oldest first, at most 65,536 (R251), M0: empty. -/
  ring : List JourRec := []
  /-- EV250 has occurred and the backlog has not fallen back (R251): false. -/
  jbehind : Bool := false
  /-- Entries on flash, by their place in the circular partition of 16,777,216 (R23, R251), kept: none. -/
  flash : Tab (Option JourRec) := []
  /-- Number of entries ever written to flash, which gives the write position (R251), kept: 0. -/
  flashed : Nat := 0
  /-- JournalLostCount, uint32 (R253): 0, and the number a kind 21 entry is to report (R251): 0. -/
  lost : U32 := 0
  lostPending : Nat := 0
deriving DecidableEq, Repr

/-- One sync lane (R258, R289). -/
structure Lane where
  /-- LaneStatus bit 31: false. -/
  up : Bool := false
  /-- LaneStatus bit 30, block lock: false. -/
  lock : Bool := false
  /-- LaneGoodFrames, uint64: 0. -/
  good : Nat := 0
  /-- LaneCheckErrors, uint32: 0. -/
  errors : U32 := 0
  /-- LaneDownCount, uint32: 0. -/
  downs : U32 := 0
  /-- LaneDownTime, uint64 ns: 0. -/
  downTime : Nat := 0
  /-- Tick of the last frame with a good check (R258); the model's own: 0. -/
  lastGood : Nat := 0
deriving DecidableEq, Repr

/-- What the last status and accession frames told of the partner (R260, R273, R288). -/
structure Partner where
  /-- Mode and role it last reported; none while nothing has been heard. -/
  mode : Option Mode := none
  role : Role := .none
  /-- Its PairState word. -/
  pairState : Nat := 0
  /-- A configuration is loaded on it, so that its alarm engine scans from M2 to M10 (R219, R247). -/
  loaded : Bool := false
  /-- Its own-check flag (PairState bit 23). -/
  flag : Bool := false
  /-- PartnerSerial, uint64: 0. -/
  serial : U64 := 0
  /-- PartnerFirmwareRelease, uint16: 0. -/
  release : Nat := 0
  /-- Its FirmwareSchemaVersion (R274): 0 while unknown. -/
  schema : Nat := 0
  /-- Its supply diagnostics, producers 0–3 and 16–20 of R538, from its status frames: none. -/
  diag : List Nat := []
deriving DecidableEq, Repr

/-- The module's own heartbeat line (R256, R279). -/
inductive Heartbeat where
  | steady | toggling | isolating
deriving DecidableEq, Repr

/-- A departure under way (R278): the boundary F, whether this module leaves, and what follows. -/
structure Departure where
  at_ : Nat
  leaving : Bool
  /-- What the leaving module does after F: 0 final save (power fail), 1 restart, 2 halt. -/
  after : Nat
deriving DecidableEq, Repr

/-- A task-state or join copy under way (R275): tick it began, whether this module takes it, bytes taken or sent. -/
structure Copy where
  since : Nat
  taking : Bool
  bytes : Nat
deriving DecidableEq, Repr

/-- The pair (R255–R289). M0, but for the counters since manufacture. -/
structure Pair where
  /-- PairState bit 31, partner heartbeat present (R257): false. -/
  heartbeat : Bool := false
  /-- Tick and time of the last toggle seen (R257): 0. -/
  lastToggle : Nat := 0
  /-- PairState bit 30, isolating pattern seen (R279): false. -/
  isolSeen : Bool := false
  /-- SL0, SL1 (R258). -/
  sl0 : Lane := {}
  sl1 : Lane := {}
  /-- SyncSeq of the next frame sent, uint32 (R259): 0. -/
  seqOut : U32 := 0
  /-- Last SyncSeq accepted of the partner (R29): none. -/
  seqIn : Option U32 := none
  /-- PairState bit 27, synchronised: false. -/
  sync : Bool := false
  /-- PairState bit 26, joining: false. -/
  joining : Bool := false
  /-- PairState bit 25, resynchronising: false. -/
  resync : Bool := false
  /-- The switch instant at which the resynchronisation ends (R271): none. -/
  resumeAt : Option Nat := none
  /-- AO commands (0) and DO states (1) of the copy set by number, which a joining module takes as its own at the join (R275): none. -/
  takenOut : List (Nat × Nat × Nat) := []
  /-- PairState bit 24, own-check flag (R272): false. -/
  flag : Bool := false
  /-- PairState bit 22, lone AO (R273): false. -/
  loneAo : Bool := false
  /-- The partner as last heard. -/
  partner : Partner := {}
  /-- The partner has been declared gone (R277): false. -/
  gone : Bool := false
  /-- PairFeatureLevel, uint16 (R288): 0. -/
  feature : Nat := 0
  /-- PairSyncRevision, uint16 (R288): 0. -/
  revision : Nat := 0
  /-- PairOptionMask, uint32 (R288): 0. -/
  options : Nat := 0
  /-- OwnFlagCause, uint16 (R288): 0. -/
  flagCause : Nat := 0
  /-- SoakElapsed, uint32 s (R281): 0, with the tick from which it counts. -/
  soakFrom : Option Nat := none
  /-- Tick before which no takeback is requested again (R281): none. -/
  takebackAfter : Option Nat := none
  /-- A role swap that is announced or asked for: its cause (R280: 1 command, 2 takeback, 3 flag): none. -/
  swap : Option Nat := none
  /-- LastCopyTime, uint32 ms (R288): 0. -/
  lastCopy : Nat := 0
  /-- Ticks of the divergences inside DivergenceWindow (R271): none. -/
  divTicks : List Nat := []
  /-- DivergenceCount, uint32: 0. -/
  divergences : U32 := 0
  /-- ResyncCount, uint32: 0. -/
  resyncs : U32 := 0
  /-- LateDigestCount, uint32: 0. -/
  lateDigests : U32 := 0
  /-- PartnerGoneCount, uint32, since manufacture, kept: 0. -/
  goneCount : U32 := 0
  /-- RoleSwapCount, uint32, since manufacture, kept: 0. -/
  swaps : U32 := 0
  /-- MirrorCount, uint32: 0. -/
  mirrors : U32 := 0
  /-- AccessionRefuseCause, uint8 (R288): 0. -/
  refuseCause : Nat := 0
  /-- Own heartbeat line (R256): steady until the Curator feeds the watchdog. -/
  line : Heartbeat := .steady
  /-- A departure under way (R278): none. -/
  departure : Option Departure := none
  /-- An isolation under way: F0 (R279): none. -/
  isolation : Option Nat := none
  /-- A copy under way (R275): none. -/
  copy : Option Copy := none
deriving DecidableEq, Repr

/-- Why a core pair is being drained (R303, R304, R307, R320). -/
inductive DrainKind where
  | split | join | attach | detach | migrate
deriving DecidableEq, Repr

/-- A drain of a core pair under way: its kind, the tick it began, the operation it completes, and the tick of the load once
the drain instant has come (R303, R304). -/
structure Drain where
  kind : DrainKind
  since : Nat
  op : Option Nat
  loading : Option Nat
deriving DecidableEq, Repr

/-- One core pair: CP0–CP9, and CPS as 10 (R291–R311). The Ledger's part is kept. -/
structure CorePair where
  /-- PairStatus State while split, broken or in the reading room (R311): 0. Entry into M0 joins every pair (R303). -/
  room : Nat := 0
  /-- Tick of the mismatch whose reset runs (R294): none. -/
  reset : Option Nat := none
  /-- The pair is FAILED (R300, R301), kept: false. -/
  failed : Bool := false
  /-- MismatchCount, uint32 (R310), kept: 0. -/
  mismatches : U32 := 0
  /-- OperatingSeconds of the mismatches of the last 24 h (R301), kept: none. -/
  history : List Nat := []
  /-- LastMismatchTime, uint64 ns (R310), kept: 0. -/
  lastTime : Nat := 0
  /-- MismatchDetail, uint32 (R310): 0. -/
  detail : Nat := 0
  /-- InjectionResult, uint64 (R310): 0. -/
  result : U64 := 0
  /-- InjectionFailCount, uint16 (R310): 0. -/
  fails : Nat := 0
  /-- Tick of the last failed test, for the retest 1 s later (R300): none. -/
  failedAt : Option Nat := none
  /-- OperatingSeconds of the last injection test (R299): 0. -/
  tested : Nat := 0
  /-- A drain under way (R303, R304): none. -/
  drain : Option Drain := none
  /-- Tick at which the injection test that occupies the pair for 10 µs began (R298): none. -/
  testAt : Option Nat := none
deriving DecidableEq, Repr

/-- The attached debugger (R305–R308). -/
structure Debugger where
  pair : Nat
  session : U32
  /-- Attach kind: 1 broken lockstep, 2 reading room. -/
  kind : Nat
  /-- The core is halted by the debugger. -/
  halted : Bool
  breakpoints : List Nat
  tracepoints : List Nat
  /-- Replay buffer: the tick of the last action and the actions taken in that tick (R308). -/
  lastTick : Nat
  actions : Nat
deriving DecidableEq, Repr

/-- The signature window of a privileged unit that closed last, RQ13–RQ15 (R297): its transfers, the tick of its close, and for RQ15 the
sequence number of the first record of the open window. -/
structure SigWindow where
  count : Nat := 0
  closed : Option Nat := none
  firstSeq : Nat := 0
deriving DecidableEq, Repr

/-- A debugger's memory write to a task's state area that waits for the gap between two cycles (R309). -/
structure DebugWrite where
  task : Nat
  addr : Nat
  bytes : List Byte
deriving DecidableEq, Repr

/-- Lockstep pairs, privileged units and the debugger (R291–R311). M0, but for what the Ledger keeps. -/
structure Lockstep where
  /-- CP0–CP9 and CPS (10). -/
  pair : Tab CorePair := []
  /-- Registers of a halted core that the debugger has written: 2^16 × pair + register (R306): none. -/
  regs : Tab U64 := []
  /-- DRAM outside the areas the model holds elsewhere, by byte address; a byte nothing has written reads 0 (log 7). -/
  dram : Tab Byte := []
  /-- The attached debugger (R305): none. -/
  debugger : Option Debugger := none
  /-- Debug writes that wait (R309): none. -/
  writes : List DebugWrite := []
  /-- Signature windows of RQ13, RQ14, RQ15, by requester. -/
  window : Tab SigWindow := []
deriving DecidableEq, Repr

/-- A migration that runs or waits (R318): kind, resource, spare (none while it waits), cause (1 limit, 2 proven fault, 3
command), the operation it completes, the tick of step 1, and whether it may start (a drained pair, R320). -/
structure Migration where
  kind : Nat
  resource : Nat
  spare : Option Nat
  cause : Nat
  op : Option Nat
  start : Nat
  ready : Bool
deriving DecidableEq, Repr

/-- The stages of a recalibration rotation (R323). -/
inductive RotStep where
  | standinCal | shadow | recal | returning
deriving DecidableEq, Repr

/-- A rotation under way (R323): converter, stand-in, step, tick the step began, operation, and whether it is to become
permanent. -/
structure Rotation where
  conv : Nat
  standin : Nat
  step : RotStep
  since : Nat
  op : Option Nat
  permanent : Bool
deriving DecidableEq, Repr

/-- The last migration step 4 of a kind (R319): resource, spare, old epoch, tick, and whether EV083 has occurred for it. -/
structure LastStep where
  resource : Nat
  oldEpoch : Nat
  tick : Nat
  told : Bool
deriving DecidableEq, Repr

/-- The Ledger's account of one resource (R315, R328). -/
structure ResCount where
  /-- State (R328), where it differs from the delivery state of R313: none. -/
  state : Option Nat := none
  /-- Spoil, uint32: 0. -/
  spoil : Nat := 0
  /-- Wear and Wear2 of the kinds that have no counter elsewhere: kind 4 rotations, kind 6 error in ppb, signed: 0. -/
  wear : Int := 0
  wear2 : Nat := 0
  /-- StandsFor: 0xFF. -/
  standsFor : Option Nat := none
  /-- LastStep, uint64 ns: 0. -/
  lastStep : Nat := 0
deriving DecidableEq, Repr

/-- The Annex and the Ledger (R313–R330). Kept over M0. -/
structure Annex where
  /-- Resources 0–51 (R313). -/
  res : Tab ResCount := []
  /-- Placement epoch per kind 1–6, uint8 (R318): 0. -/
  epoch : Tab Nat := []
  /-- Spoil per kind, 24 bits, saturating (R329): 0. -/
  spoil : Tab Nat := []
  /-- PairRemap (R320): nibble n is n. -/
  pairRemap : List Nat := [0, 1, 2, 3, 4, 5, 6, 7, 8, 9]
  /-- StageRemap: stage that ST16, ST17 stands for (R329): none. -/
  stageRemap : Tab (Option Nat) := []
  /-- ConverterRemap: converter CV8, CV9 stands for, and whether permanently (R329): none. -/
  convRemap : Tab (Option (Nat × Bool)) := []
  /-- DramSpareMap: device that D9 replaces (R329): none. -/
  dramSpare : Option Nat := none
  /-- DramCorrected, uint32 per device in the present window (R315): 0. -/
  dramCe : Tab Nat := []
  /-- Corrected errors per device since manufacture (R328 Wear): 0. -/
  dramCeAll : Tab Nat := []
  /-- OperatingSeconds at the start of the present DramCeWindow (R315): 0. -/
  ceWindow : Nat := 0
  /-- DramUncorrectable, uint32 (R329): 0. -/
  dramUe : Nat := 0
  /-- ConverterDrift, binary32 ppm (R329): 0.0. -/
  drift : Tab Nat := []
  /-- RecalNext (R329): 0, and OperatingSeconds of the last rotation start (R323): 0. -/
  recalNext : Nat := 0
  recalAt : Nat := 0
  /-- StageHotHours, uint32 (R329): 0. -/
  hotHours : Tab Nat := []
  /-- StageThermalEvents, uint32 (R329): 0. -/
  thermals : Tab Nat := []
  /-- Program/erase cycles per flash block (R315): 0. -/
  flashPe : Tab Nat := []
  /-- FlashRetiredBlocks, uint32 (R329): 0. -/
  retired : Nat := 0
  /-- FlashReserveFree, uint32 (R329): 4,096. -/
  reserve : Nat := 4096
  /-- Blocks of the Archive partition's own spare area still free (R322): 480, its 1 GiB less 32 MiB and 512 MiB (R23). -/
  archSpare : Nat := 480
  /-- Blocks of the trend store given up (R326): 0. -/
  trendLost : Nat := 0
  /-- Block map: logical block to physical block where they differ (R322): none. -/
  blockMap : Tab Nat := []
  /-- OperatingSeconds of loop and alarm engine mismatches of the last 24 h (R315): none. -/
  loopMis : List Nat := []
  alarmMis : List Nat := []
  /-- MigrationCount, uint32 (R329): 0. -/
  count : U32 := 0
  /-- ActiveReference (R329): 0 OSC0 after every power-up (R25). -/
  activeRef : Nat := 0
  /-- OscError, binary32 ppm (R329): 0.0. -/
  oscErr : Tab Nat := []
  /-- Kinds whose EV084 has occurred (R326): none. -/
  exhausted : List Nat := []
  /-- Kinds whose limit EV080 has been raised and not yet served: resources (R316): none. -/
  crossed : List Nat := []
  /-- Running migrations (R318): none. -/
  running : List Migration := []
  /-- Migrations that wait (R318): none. -/
  waiting : List Migration := []
  /-- The rotation under way (R323): none. -/
  rotation : Option Rotation := none
  /-- Last step 4 per kind (R319): none. -/
  last : Tab (Option LastStep) := []
  /-- OperatingSeconds of the last daily test per spare (R314): 0. -/
  sparedAt : Tab Nat := []
  /-- Tick of the last Ledger write (R315): 0. -/
  writtenAt : Nat := 0
deriving DecidableEq, Repr

/-- Regions, colours, budgets and slot tables (R331–R355). M0. -/
structure Prot where
  /-- Region entries as loaded (R335), by 64 × context + region: none. -/
  regions : Tab Nat := []
  /-- ColourKeys per context as loaded (R346): the defaults. -/
  keys : Tab Nat := []
  /-- FaultCount per region entry (R333), since the last load: 0. -/
  faults : Tab Nat := []
  /-- RegionFaultCount and ColourFaultCount per context, uint16, saturating (R346): 0. -/
  ctxRegion : Tab Nat := []
  ctxColour : Tab Nat := []
  /-- RegionReloadCount, uint32 (R355): 0. -/
  reloads : U32 := 0
  /-- Budgets in force since the last frame boundary, by physical requester (R349, R351); none before the first. -/
  budgets : Option (List Nat) := none
  /-- Beats moved in the present frame, by physical requester (R348): 0. -/
  beats : Tab Nat := []
  /-- BeatsLastFrame, uint32 (R351): 0. -/
  last : Tab Nat := []
  /-- CutoffCount, uint32 (R351): 0. -/
  cutoffs : Tab Nat := []
  /-- Requester that holds the grant (R348): none. -/
  holder : Option Nat := none
  /-- Freezes of running migrations, one bit per requester (R350): 0. -/
  freezes : Nat := 0
  /-- ArbFreezeEffective as last reported, for EV111 (R350): 0. -/
  frozen : Nat := 0
  /-- A swap is pending, with the operation it completes nowhere: SlotSwapState 1 (R354): false. -/
  swap : Bool := false
  /-- SlotSwapState 2: the last swap was refused (R355): false. -/
  refused : Bool := false
  /-- SlotSwapCount, uint32 (R355): 0. -/
  swaps : U32 := 0
deriving DecidableEq, Repr

/-- A result record (R372). -/
structure AiRec where
  value : Nat := 0
  flags : Nat := 0
  conv : Nat := 0
  entry : Nat := 0
  seq : Nat := 0
  stamp : Nat := 0
deriving DecidableEq, Repr

/-- A visit of a running sequence (R365–R369): the entry, the half it is in, the next result, and the channel settings under
which it runs. -/
structure Visit where
  entry : Nat
  /-- 0: the positive (or only) half; 1: the negative half of a paired entry. -/
  half : Nat
  idx : Nat
  /-- Range and ExcLevel in effect for the visit: [30:28] and [27:26] of ChannelConfig. -/
  settings : Nat
  /-- The first result of the visit carries RANGE_NEW. -/
  fresh : Bool
  /-- Results of the positive half: value and stamp (R368). -/
  halves : List (Nat × Nat × Nat)
deriving DecidableEq, Repr

/-- One logical converter's sequence, CV0–CV7 (R365–R376). M0. -/
structure Conv where
  /-- The sequence runs (R370): false. -/
  running : Bool := false
  /-- SeqControl and the eight SeqEntries of the pass (R370: a written value takes effect at the next pass start): 0. -/
  control : Nat := 0
  entries : List Nat := []
  /-- The visit under way: none. -/
  visit : Option Visit := none
  /-- A stop is asked for (R371): false. -/
  stop : Bool := false
  /-- SeqCount: pass number modulo 256 (R372): 0. -/
  pass : Nat := 0
  /-- BufferWriteIndex (R375): 0. -/
  index : Nat := 0
  /-- Records written in the present DMA window (R297): none. -/
  window : List AiRec := []
  /-- The converter's own FIFO, at most 64 (R375): none. -/
  fifo : List AiRec := []
  /-- Circular buffer, by record index (R375): empty. -/
  buffer : Tab AiRec := []
  /-- ResultCount, uint64 (R370): 0. -/
  results : U64 := 0
  /-- BlankDiscards, uint32 (R370): 0. -/
  discards : U32 := 0
  /-- Direct result words, by entry; VALID 0 until the first result (R376). -/
  direct : Tab AiRec := []
  /-- Result number per entry (R376): 0. -/
  number : Tab Nat := []
  /-- Settings of the entry's last result, or 32 where it was skipped since for a disabled channel (R369): none. -/
  last : Tab (Option Nat) := []
  /-- Channels of the converter carry no results: it failed and no spare is left (R326): false. -/
  dead : Bool := false
deriving DecidableEq, Repr

/-- One physical converter's calibration, CV0–CV9 (R380–R382). -/
structure ConvCal where
  /-- Tick at which its calibration began (R380): none. -/
  running : Option Nat := none
  /-- Calibrated since M0 (R374 UNCAL): false. -/
  done : Bool := false
  /-- CalState failed mask bit (R382): false. -/
  failed : Bool := false
  /-- Factors of the last successful calibration: offset in µV and gain, binary32, by gain code; none: the factory factors,
  offset 0.0 and gain 1.0 (R373). -/
  offset : Tab Nat := []
  gain : Tab (Option Nat) := []
  /-- It is to calibrate in turn within an AI_CALIBRATE in M8 (R381): false. -/
  queued : Bool := false
  /-- The sequence is to restart with AutoStart when the calibration completes (R371): false. -/
  restart : Bool := false
deriving DecidableEq, Repr

/-- One analogue channel, AI00–AI31 (R357–R364, R377–R379). M0. -/
structure AiChan where
  /-- ChannelConfig in effect for the excitation: HalfPeriod, Blanking, Range, ExcLevel (R363): none before the first load. -/
  exc : Option Nat := none
  /-- This module drives the excitation (R359): false. -/
  drives : Bool := false
  /-- The module knows who owns the excitation: the channel's owner has been taken over at a swap instant (R285): slot. -/
  owner : Nat := 0xFF
  /-- Range and ExcLevel in effect for conversion, [30:26] of ChannelConfig, from the last visit (R359, R369): none before one. -/
  inUse : Option Nat := none
  /-- Results whose window starts before this time carry SETTLING (R385), ns: 0. -/
  settle : Nat := 0
  /-- Common-mode measurements in a row out, and in (R378): 0. -/
  cmOut : Nat := 0
  cmIn : Nat := 0
  /-- CM fault present (R359): false. -/
  cmFault : Bool := false
  /-- Half-periods in a row with an excitation condition (R379): 0. -/
  excRun : Nat := 0
  /-- Excitation fault present (R359): false. -/
  excFault : Bool := false
  /-- Results in a row below 0.5 mA (R379): 0. -/
  openRun : Nat := 0
  /-- Conditions present for onset: OVER, UNDER, OPEN (R379): false. -/
  ovr : Bool := false
  under : Bool := false
  open_ : Bool := false
  /-- Flags and Value of the last result (R359): 0. -/
  flags : Nat := 0
  value : Nat := 0
  /-- Sums (binary64) and numbers of the own and agreed values of the present second (R384): 0. -/
  ownSum : Nat := 0
  ownN : Nat := 0
  agrSum : Nat := 0
  agrN : Nat := 0
  /-- Seconds in a row above PairTolerance (R384): 0. -/
  driftRun : Nat := 0
deriving DecidableEq, Repr

/-- Analogue inputs (R357–R386). M0, but for the factors. -/
structure Ai where
  /-- CV0–CV7 as sequences. -/
  conv : Tab Conv := []
  /-- CV0–CV9 as hardware. -/
  cal : Tab ConvCal := []
  /-- AI00–AI31. -/
  chan : Tab AiChan := []
  /-- Read marks (R376): 1024 × reader + 16 × converter + entry, readers 0–31 tasks, 32 + r loop records: 0. -/
  marks : Tab Nat := []
  /-- CjTemperature, binary32 °C (R382): 0.0. -/
  cj : Nat := 0
  /-- Cold-junction fault present (R379): false. -/
  cjFault : Bool := false
  /-- The AI_CALIBRATE under way: its operation (R381): none. -/
  calOp : Option (Option Nat) := none
  /-- CalState [31:30] (R382): 0 never. -/
  calState : Nat := 0
  /-- Whether this module excites in M3 after M1, M2 or M10 (R43); none: the owner at the entry keeps it: none. -/
  m3exc : Option Bool := none
  /-- The calibration at the first entry into M3 after M1 has been made (R381): false. -/
  firstCal : Bool := false
deriving DecidableEq, Repr

/-- One loop output channel with the stage that serves it (R387–R398). M0, but for the trim. -/
structure AoChan where
  /-- The last valid command, binary32 mA (R387), before the clamp of R389: 0.0. -/
  cmd : Nat := 0
  /-- The command is one that is not clamped: a fallback (R389), or the command in force taken from the partner (R275): true. -/
  held : Bool := true
  /-- The last command was NaN or infinite, or its task is stopped (R389): false. -/
  bad : Bool := false
  /-- AoReadback, binary32 mA (R390): 0.0. -/
  readback : Nat := 0
  /-- AoTerminal, binary32 V (R390): 0.0. -/
  terminal : Nat := 0
  /-- Stage supply, binary32 V (R392, R393): 0.0. -/
  supply : Nat := 0
  /-- Supply setpoint, binary32 V (R393): 0.0. -/
  setpoint : Nat := 0
  /-- OPEN, COMPLIANCE, THERMAL, SUPPLY_FAULT, READBACK_FAULT (R392): false. -/
  open_ : Bool := false
  compliance : Bool := false
  thermal : Bool := false
  supplyFault : Bool := false
  readbackFault : Bool := false
  /-- Tick since which the opposite of each debounced condition has held: OPEN, COMPLIANCE, READBACK_FAULT (R395): none. -/
  since : Tab (Option Nat) := []
  /-- AO_TRIM holds the stage: the operation (1 at 4 mA, 2 at 20 mA) (R398): none. -/
  trimOp : Option Nat := none
  /-- Recorded currents m4 and m20, binary32 (R398): none. -/
  m4 : Option Nat := none
  m20 : Option Nat := none
  /-- AoTrim, uint64: gain b and offset a (R390), kept in the module's own store: gain 1.0, offset 0.0. -/
  trim : Nat := 0x3F80000000000000
  /-- A stage of the channel has been proven faulty without a spare: it stays at 0 mA (R397): false. -/
  dead : Bool := false
deriving DecidableEq, Repr

/-- A HART response record (R406). -/
structure HartRec where
  command : Nat := 0
  valid : Bool := false
  timeout : Bool := false
  burst : Bool := false
  trunc : Bool := false
  count : Nat := 0
  rc : Nat := 0
  ds : Nat := 0
  number : Nat := 0
  stamp : Nat := 0
  data : List Byte := []
deriving DecidableEq, Repr

/-- A HART transaction under way (R404): entry (0–15 poll, 0xFE unused, 0xFF HART_PASS, 0x100 identification), command,
request data, attempt, tick of the last request byte. -/
structure HartTx where
  entry : Nat
  command : Nat
  data : List Byte
  attempt : Nat
  sent : Nat
deriving DecidableEq, Repr

/-- One HART modem (R400–R409). M0. -/
structure Modem where
  /-- HartStatus State (R401): 0 off. -/
  state : Nat := 0
  /-- Burst frames seen (R401): false. -/
  burst : Bool := false
  /-- Universal revision of the device (R401): 0. -/
  rev : Nat := 0
  /-- Last response code and field device status (R401): 0. -/
  rc : Nat := 0
  ds : Nat := 0
  /-- Unique identifier learnt (R402): none. -/
  ident : Option Nat := none
  /-- Transaction under way (R404): none. -/
  tx : Option HartTx := none
  /-- Pending HART_PASS: command, data, operation (R409): none. -/
  pass : Option (Nat × List Byte × Option Nat) := none
  /-- Due poll entries that wait (R404): none. -/
  due : List Nat := []
  /-- Records by entry (R406): no result yet. -/
  recs : Tab HartRec := []
  /-- Tick of the last command 0 (R402): 0. -/
  identTick : Nat := 0
  /-- Tick of the end of the last burst frame (R405): none. -/
  burstEnd : Option Nat := none
deriving DecidableEq, Repr

/-- Loop outputs and HART (R387–R411). -/
structure Ao where
  /-- AO00–AO15. -/
  chan : Tab AoChan := []
  /-- AO share in M3, % (R44, R388): 0 before it is evaluated. -/
  m3share : Nat := 0
  /-- Shares are raised to 100 % until the run modes are left, by partner loss or split link (R277, R279, R388): false. -/
  raised : Bool := false
  /-- A departing or isolated module has dropped its outputs (R278, R279): false. -/
  dropped : Bool := false
  /-- Modems 0–47 (R400). -/
  modem : Tab Modem := []
  /-- Read marks of the tasks (R407): 2^16 × task + 256 × modem + entry: 0. -/
  marks : Tab Nat := []
  /-- HartTransactions, uint64 (R410): 0. -/
  transactions : Nat := 0
  /-- HartTimeouts, HartCommErrors, HartBurstFrames, HartPollSkips, uint32 (R410): 0. -/
  timeouts : U32 := 0
  commErrors : U32 := 0
  burstFrames : U32 := 0
  pollSkips : U32 := 0
  /-- StageTemperatureMax, binary32 °C (R410): 0.0. -/
  tempMax : Nat := 0
deriving DecidableEq, Repr

/-- One filtered input: DI00–DI31, and ACK0–ACK3 as 32–35 (R412–R419, R428). M0. -/
structure Input where
  /-- Filter counter c, 0 to Ceiling (R412): 0. -/
  c : Nat := 0
  /-- STATE: filtered state (R419): false. -/
  state : Bool := false
  /-- RAW: level at the last sample (R419): false. -/
  raw : Bool := false
  /-- Present raw level, and the time of its last change less 3 µs (R413): false, 0. -/
  level : Bool := false
  turned : Nat := 0
  /-- Candidate stamp of an edge to low (0) and to high (1): the earliest change to that level since which the other level never
  lasted Threshold × Tick (R413): none. -/
  cand : Tab (Option Nat) := []
  /-- Tick of the last sample; the model's own: none. -/
  sampled : Option Nat := none
  /-- WIRE_BREAK, CHATTER (R419): false. -/
  wireBreak : Bool := false
  chatter : Bool := false
  /-- Confirmed edges since M0, wrapping at 32 bits (R414): 0. For ACK inputs AckEdgeCount, rising edges (R429). -/
  edges : U32 := 0
  /-- Edges confirmed in the present whole second (R417): 0. -/
  second : Nat := 0
  /-- DiLastEdge, uint64 ns (R418): 0. -/
  lastEdge : Nat := 0
deriving DecidableEq, Repr

/-- One protected switch: DO00–DO31, and CALL0, CALL1 as 32, 33 (R420–R427). M0. -/
structure Switch where
  /-- Command of its source: image point, catalogue, or ladder (R420): false. -/
  cmd : Bool := false
  /-- The command in force is the fallback taken at entry into a run mode from M3 (R420): false. -/
  atFallback : Bool := false
  /-- OVERCURRENT, THERMAL, LATCHED_OFF, READBACK_FAULT (R426): false. -/
  overcur : Bool := false
  thermal : Bool := false
  latched : Bool := false
  readbackFault : Bool := false
  /-- READBACK (R426): false. -/
  readback : Bool := false
  /-- Retries, 0–15 (R426): 0. -/
  retries : Nat := 0
  /-- Tick of the protective turn-off a retry waits from (R421): none. -/
  retryFrom : Option Nat := none
  /-- The switch is on as a retry that has not yet stood (R421): false. -/
  retrying : Bool := false
  /-- Tick at which it was last switched on (R421: 1 s without fault): 0. -/
  onAt : Nat := 0
  /-- Partner's DoState of its last digest frame (R423): false. -/
  peer : Bool := false
deriving DecidableEq, Repr

/-- Digital inputs, outputs, call and acknowledge block (R412–R431). -/
structure Dio where
  /-- DI00–DI31 and ACK0–ACK3 (32–35). -/
  inp : Tab Input := []
  /-- DO00–DO31 and CALL0, CALL1 (32, 33). -/
  sw : Tab Switch := []
  /-- SUPPLY_LOST of what FLD1, FLD2, VS1, VS2 feed (R416, R424): false. -/
  lost : List Bool := [false, false, false, false]
  /-- FieldStatus [3:0] (R430): FLD1, FLD2, VS1, VS2 present: false. -/
  there : List Bool := [false, false, false, false]
  /-- Fld1Voltage, Fld2Voltage, Vs1Voltage, Vs2Voltage, binary32 V (R430): 0.0. -/
  volts : List Nat := [0, 0, 0, 0]
  /-- CallOnSeconds of CALL0 and CALL1, uint32 s, since manufacture (R429), kept: 0, with the ticks of the present second. -/
  callOn : List (Nat × Nat) := [(0, 0), (0, 0)]
  /-- CallFaultCount of CALL0 and CALL1, uint32 (R429): 0. -/
  callFaults : List Nat := [0, 0]
  /-- In M3 the module drives its DO fallbacks (R44): false before it is evaluated. -/
  m3drive : Bool := false
deriving DecidableEq, Repr

/-- One interface: PN-A 0, PN-B 1, SV 2 (R432–R437). M0. -/
structure Port where
  /-- PortStatus [31], link up: false. -/
  link : Bool := false
  /-- PortStatus [30:29], speed: 0. -/
  speed : Nat := 0
  /-- PortStatus [28], 1000BASE-X: false. -/
  fibre : Bool := false
  /-- PortStatus [27], LAN up (R433): false. -/
  lanUp : Bool := false
  /-- PortStatus [26], address conflict (R434): false, and the tick since which it has been absent. -/
  conflict : Bool := false
  conflictAt : Nat := 0
  /-- RxFrames, TxFrames, uint64 (R436): 0. -/
  rx : U64 := 0
  tx : U64 := 0
  /-- RxErrors, PrpDiscards, LinkDownCount, uint32 (R436): 0. -/
  rxErr : U32 := 0
  discards : U32 := 0
  downs : U32 := 0
  /-- Tick of the last address check (R434): none. -/
  checked : Option Nat := none
deriving DecidableEq, Repr

/-- One station slot (R438–R444). M0. -/
structure Station where
  /-- State (R438): 0. -/
  state : Nat := 0
  /-- AgreedRevision, AgreedPeriod (R438): 0. -/
  revision : Nat := 0
  period : Nat := 0
  /-- slot.last: InputSeq of the last accepted frame (R441): none. -/
  last : Option Nat := none
  /-- Tick and stamp of the last accepted frame: 0. -/
  lastTick : Nat := 0
  /-- Its last frame showed healthy (R441): false. -/
  healthy : Bool := false
  /-- Tick of the last accession request (R442): none. -/
  asked : Option Nat := none
  /-- The answer to that request has been taken. -/
  answered : Bool := false
  /-- Whole second of the last EV201 (R441): none. -/
  lateAt : Option Nat := none
deriving DecidableEq, Repr

/-- The plant network and remote I/O (R432–R444, R456). M0. -/
structure Net where
  port : Tab Port := []
  /-- Station slots 0–249. -/
  station : Tab Station := []
  /-- Announced station states that wait for their frame boundary: boundary, slot, state, revision, period (R444): none. -/
  announced : List (Nat × Nat × Nat × Nat × Nat) := []
  /-- InputFramesAccepted, uint64 (R456): 0. -/
  accepted : U64 := 0
  /-- InputFramesDiscarded, uint32 (R456): 0. -/
  discarded : U32 := 0
  /-- Input frames lost on a LAN by a refused DMA access (R337), per LAN: 0. -/
  dmaLost : Tab Nat := []
deriving DecidableEq, Repr

/-- A frame in a CAN transmit buffer (R463). -/
structure CanBuf where
  /-- Identifier word: [31] IDE, [28:0] identifier. -/
  id : Nat
  /-- Bit 2 BRS, bit 1 FDF, bit 0 IDE (R465). -/
  flags : Nat
  data : List Byte
  /-- Tick at which it became pending. -/
  since : Nat
  /-- CAN_SEND operation, with its session and Tag (R466). -/
  op : Option (Nat × U32 × Nat)
  /-- A newer frame that waits until this transmission completes or fails (R465). -/
  next : Option (Nat × Nat × List Byte)
deriving DecidableEq, Repr

/-- One CAN channel (R458–R469). M0, but for BusOffCount. -/
structure CanCh where
  /-- CanControl, NominalTiming, DataTiming, TdcConfig and TxTimeout in effect since the last switch instant that took them
  over (R464); none before the first: the channel is disabled. -/
  cfg : Option (Nat × Nat × Nat × Nat × Nat) := none
  /-- TEC and REC, 8 bits each as reported (R464): 0. -/
  tec : Nat := 0
  rec_ : Nat := 0
  /-- Last error code of ISO 11898-1 (R464): 0. -/
  lastErr : Nat := 0
  /-- Tick of bus-off (R462): none. -/
  busOff : Option Nat := none
  /-- CAN_RECOVER has been taken and the wait runs (R462): false. -/
  recovering : Bool := false
  /-- The channel is in restricted operation, for EV213: cause 1 or 2 (R469): none. -/
  restricted : Option Nat := none
  /-- Transmit buffers 0–63 (R463): empty. -/
  buf : Tab (Option CanBuf) := []
  /-- Frames ahead of the image port, at most 64: filter, points' values, length, valid stamp (R467): none. -/
  queue : List (Nat × List Byte × Nat) := []
  /-- RxFrames, TxFrames, uint64 (R464): 0. -/
  rx : U64 := 0
  tx : U64 := 0
  /-- RxUnmatched, RxOverflowCount, TxFailCount, TxReplacedCount, uint32 (R464): 0. -/
  unmatched : U32 := 0
  overflow : U32 := 0
  fails : U32 := 0
  replaced : U32 := 0
  /-- BusOffCount, uint32, since manufacture (R464), kept: 0. -/
  offs : U32 := 0
deriving DecidableEq, Repr

/-- The CAN unit (R458–R469). -/
structure Can where
  /-- CAN0–CAN3. -/
  ch : Tab CanCh := []
  /-- HitCount per filter entry, uint32, saturating (R468): 0. -/
  hits : Tab Nat := []
  /-- Frame count per filter entry, 24 bits, wrapping (R468): 0. -/
  frames : Tab Nat := []
deriving DecidableEq, Repr

/-- A request of a panel region (R478): wanted picture of the region's segments, refresh flag, the PANEL_UPDATE operations it
carries. -/
structure PnlReq where
  picture : Nat
  refresh : Bool
  host : List Nat
deriving DecidableEq, Repr

/-- A running update of a region (R479). -/
structure PnlRun where
  band : Nat
  /-- Number of its first panel frame. -/
  start : Nat
  frames : Nat
  picture : Nat
  refresh : Bool
  host : List Nat
  /-- Segments it drives, with the common and the waveform entry copied at the start, and whether the entry's states differ
  (R473, R484). -/
  segs : List (Nat × Nat × Nat × Bool)
  /-- Segments of the region it covers. -/
  mask : Nat
deriving DecidableEq, Repr

/-- One region (R478, R485). M0. -/
structure PnlRegion where
  run : Option PnlRun := none
  queued : Option PnlReq := none
  /-- RegionUpdates, RegionSuperseded, uint32 (R485): 0. -/
  updates : U32 := 0
  superseded : U32 := 0
  /-- RegionLastDone, uint64 ns (R485): 0. -/
  lastDone : Nat := 0
deriving DecidableEq, Repr

/-- The annunciator panel drive (R470–R487). M0, but for the wear. -/
structure Panel where
  /-- SegShown, bit s (R486): 0. -/
  shown : Nat := 0
  /-- SegUnknown, bit s (R478, R486): all ones. -/
  unknown : Nat := 2 ^ 128 - 1
  /-- Regions 0–7. -/
  region : Tab PnlRegion := []
  /-- PanelBand, uint8 (R474): none before the first valid T, which reads PanelDefaultBand. -/
  band : Option Nat := none
  /-- PanelTemperature, binary32 °C (R486): 0.0. -/
  temp : Nat := 0
  /-- VPNL+ good, VPNL− good (RailStatus [31:30], R486): false. -/
  good : List Bool := [false, false]
  /-- Rail voltages in units of 0.125 V (RailStatus [15:0], R486): 0. -/
  volts : List Nat := [0, 0]
  /-- Running PANEL_UPDATEs: operation, regions asked, regions still to end, Tag, band (R482): none. -/
  ops : List (Nat × Nat × Nat × Nat) := []
  /-- UseCount per waveform entry, uint32, saturating (R472): 0. -/
  uses : Tab Nat := []
  /-- Transitions per segment since manufacture (R484), kept: 0. -/
  wear : Tab Nat := []
  /-- Segments whose EV228 has occurred (R484), kept: 0. -/
  worn : Nat := 0
  /-- Whole second of the last temperature reading (R474); the model's own: none. -/
  tempAt : Option Nat := none
  /-- Number of the last panel frame served; the model's own: none. -/
  frame : Option Nat := none
  /-- Picture this module was sending when it last held the panel: the owner flag of the last frame: false. -/
  owner : Bool := false
deriving DecidableEq, Repr

/-- The header of the firmware image at delivery: release 3.2 as R9, R45, R105 and R273 give it; the rest is a DESIGN CHOICE
(log 14). -/
def fwDelivered : List Byte := [
  0x49, 0x53, 0x46, 0x57, 0x01, 0x00, 0x00, 0x01, 0x48, 0x1C, 0x00, 0x00, 0x02, 0x00, 0x00, 0x00,
  0x02, 0x03, 0x09, 0x00, 0x0C, 0x00, 0x03, 0x05, 0x00, 0x10, 0x00, 0x00, 0x00, 0x00, 0x00, 0x00] ++
  List.replicate 224 0#8

/-- A firmware slot (R504–R517). Kept over M0. -/
structure FwSlot where
  /-- FwSlotState [31:28] (R517), ACTIVE apart: 0 EMPTY, 1 RECEIVING, 2 RECEIVED, 3 VERIFYING, 4 VALID, 5 INVALID. -/
  state : Nat := 0
  /-- The 256 header bytes (R504). -/
  header : List Byte := []
  /-- The body bytes written so far, from offset 0x100 (R507). -/
  body : List Byte := []
  /-- Offset and contents of the last accepted block (R507): none. -/
  lastBlock : Option (Nat × List Byte) := none
  /-- Session that owns the running update (R506): none while no update runs. -/
  owner : Option U32 := none
  /-- Tick of the last accepted UPDATE_BEGIN, UPDATE_BLOCK or UPDATE_VERIFY (R508). -/
  lastTick : Nat := 0
  /-- A verify under way: operation and tick (R509): none. -/
  verify : Option (Option Nat × Nat) := none
deriving DecidableEq, Repr

/-- An activation under way (R510, R511): slot, operation, tick of the switch instant (none before it), whether the failure has
been reported, and whether the module was in a pair. -/
structure Activation where
  slot : Nat
  op : Option Nat
  since : Option Nat
  failed : Bool
deriving DecidableEq, Repr

/-- Firmware slots, update and activation (R504–R518). Kept over M0, but for the running update and activation. -/
structure Firmware where
  /-- FW-A; the image at delivery and its header are a DESIGN CHOICE (log 14). -/
  slotA : FwSlot := { state := 4, header := fwDelivered }
  /-- FW-B, empty at delivery (log 14). -/
  slotB : FwSlot := {}
  /-- ActiveFirmwareSlot, uint8 (R105), kept: DESIGN CHOICE 0 at delivery (log 14). -/
  active : Nat := 0
  /-- UpdateRefuseCause, uint8 (R517): 0. -/
  refuse : Nat := 0
  /-- The activation under way (R510): none. -/
  act : Option Activation := none
  /-- ActivationCount, uint32, since manufacture (R517), kept: 0. -/
  activations : U32 := 0
  /-- LastActivationHold, uint32 µs (R517): 0. -/
  hold : Nat := 0
  /-- LastActivationResult, uint8 (R517): 0. -/
  result : Nat := 0
  /-- RollbackCount, uint32, since manufacture (R517), kept: 0. -/
  rollbacks : U32 := 0
  /-- BootFallbackCount, uint32, since manufacture (R517), kept: 0. -/
  fallbacks : U32 := 0
  /-- A ROLLBACK has restarted the module: EV237 outcome 4 is to occur in M1 (R514), kept: false. -/
  rolled : Bool := false
  /-- Updates that a power loss abandoned, per slot: EV234 cause 5 is to occur in M1 (R508), kept: none. -/
  lostUpdates : List (Nat × Nat) := []
deriving DecidableEq, Repr

/-- The supply (R527, R537, R543) and the final save (R61). M0, but for the peak. -/
structure Supply where
  /-- PwrAPresent, PwrBPresent (SupplyStatus [31:30], R537): false. -/
  present : List Bool := [false, false]
  /-- PowerFail (SupplyStatus [29]): false. -/
  powerFail : Bool := false
  /-- HoldupReady (SupplyStatus [28]): false. -/
  holdupReady : Bool := false
  /-- PwrAVoltage, PwrBVoltage, binary32 V (R537): 0.0. -/
  volts : List Nat := [0, 0]
  /-- InputPower, binary32 W (R537): 0.0. -/
  power : Nat := 0
  /-- InletTemperature, DieTemperatureMax, binary32 °C (R537): 0.0. -/
  inlet : Nat := 0
  die : Nat := 0
  /-- InletTemperaturePeak, binary32 °C, since manufacture (R537), kept: 0.0. -/
  peak : Nat := 0
  /-- HoldupTime, binary32 ms (R537): 0.0. -/
  holdup : Nat := 0
  /-- HoldupTime has been measured (R527), without which HoldupLow reads 0 (R537): false. -/
  measured : Bool := false
  /-- The final save under way: tick it began, and why (0 power failure, 1 restart) (R61, R543): none. -/
  saving : Option (Nat × Nat) := none
  /-- A feed has returned while the final save runs (R544): false. -/
  back : Bool := false
  /-- The module is in reset until power returns: reset held after the final save (R543), kept: false. -/
  held : Bool := false
deriving DecidableEq, Repr

/-- What a step sends out of the module. -/
inductive Emission where
  /-- A UDP datagram of the mailbox service: transport, source port, destination address and port, payload (R68, R92). -/
  | mailbox (via : Via) (src : Nat) (addr : U32) (port : Nat) (bytes : List Byte)
  /-- A frame on both sync lanes (R29, R259): common header, body and CRC-32. -/
  | lane (frame : List Byte)
  /-- A UDP datagram on the plant network: source port, destination address and port, payload (R435). -/
  | plant (src : Nat) (addr : Nat) (port : Nat) (bytes : List Byte)
  /-- A CAN frame as it has been sent: channel, identifier word, flags (bit 2 BRS, bit 1 FDF, bit 0 IDE), data bytes (R463, R465). -/
  | can (channel : Nat) (id : Nat) (flags : Nat) (bytes : List Byte)
  /-- A HART request: modem, frame (R404). -/
  | hart (modem : Nat) (bytes : List Byte)
  /-- An address check on an interface: 0 probe, 1 announcement (R434). -/
  | arp (ifc : Nat) (announce : Bool) (addr : Nat)
  /-- A PRP supervision frame on a LAN (R433). -/
  | supervision (lan : Nat)
deriving DecidableEq, Repr

/-- The module. -/
structure State where
  /-- Identity (R105). -/
  ident : Ident := {}
  /-- Time base and PTP (R445–R455). -/
  clk : Clk := {}
  /-- Modes and roles (R35–R45). -/
  mu : ModeUnit := {}
  /-- Configuration store and effective set (R47–R64). -/
  cfg : Cfg := {}
  /-- Mailboxes, sessions, operations (R66–R96). -/
  mbx : Mbx := {}
  /-- Events (R112–R115). -/
  ev : Events := {}
  /-- Trend store (R108–R111). -/
  trend : Trend := {}
  /-- Archive (R488–R502). -/
  arch : Archive := {}
  /-- Process image (R121). -/
  pts : PImage := {}
  /-- The pair (R255–R289). -/
  pair : Pair := {}
  /-- Programs, tasks, forces (R120–R160). -/
  tk : Tasks := {}
  /-- Retained data (R61, R62). -/
  ret : Retain := {}
  /-- Phase unit and catalogue (R162–R192). -/
  ph : Phase := {}
  /-- Loop engine (R193–R218). -/
  loop : Loop := {}
  /-- Alarm engine, ladder and journal (R219–R254). -/
  al : Alarm := {}
  /-- Lockstep pairs and debugger (R291–R312). -/
  lk : Lockstep := {}
  /-- Annex and Ledger (R313–R330). -/
  annex : Annex := {}
  /-- Regions, colours, budgets, slot tables (R331–R356). -/
  prot : Prot := {}
  /-- Analogue inputs (R357–R386). -/
  ai : Ai := {}
  /-- Loop outputs and HART (R387–R411). -/
  ao : Ao := {}
  /-- Digital inputs, outputs, call and acknowledge block (R412–R431). -/
  dio : Dio := {}
  /-- Plant network and remote I/O (R432–R456). -/
  net : Net := {}
  /-- CAN FD channels (R458–R469). -/
  can : Can := {}
  /-- Annunciator panel drive (R470–R487). -/
  pnl : Panel := {}
  /-- Firmware slots and update (R504–R518). -/
  fw : Firmware := {}
  /-- Supply (R527, R537, R543). -/
  sup : Supply := {}
  /-- Number of free values taken so far: each unstated value is the opaque function of Config at this counter (log 8). The
  model's own: DESIGN CHOICE 0. -/
  free : Nat := 0
  /-- What the last step sent. The model's own: it is emptied when the next command's time passes. -/
  out : List Emission := []
  /-- The commands that are waiting, first in, first out. The model's own. -/
  pending : List Instr := []
deriving DecidableEq, Repr

/-- The module right after reset: in M0, nothing configured, no command waiting. -/
def State.reset : State := {}

end Sys2Proof.Machine
end

