-- ==== Sys2Proof/Machine/Float.lean ====
section
/-!
DEFINITION. IEEE 754 binary32 and binary64 arithmetic (R14), rounding to nearest, ties to even. A finite value is read
as a sign, a mantissa and a power of two; sums and products are formed exactly and rounded once.
-/
namespace Sys2Proof

/-- A floating-point format: bits of the stored mantissa, bits of the exponent. -/
structure Fmt where
  mb : Nat
  eb : Nat
deriving DecidableEq, Repr

/-- binary32 -/
def fmt32 : Fmt := { mb := 23, eb := 8 }
/-- binary64 -/
def fmt64 : Fmt := { mb := 52, eb := 11 }

/-- The exponent of the last mantissa bit of the smallest values of a format. -/
def Fmt.emin (f : Fmt) : Int := 2 - 2 ^ (f.eb - 1) - f.mb

/-- A value read out of a format: `fin neg m e` is m · 2^e. -/
inductive Fv where
  | nan
  | inf (neg : Bool)
  | fin (neg : Bool) (m : Nat) (e : Int)
deriving DecidableEq, Repr

/-- The value of a bit pattern. -/
def fread (f : Fmt) (n : Nat) : Fv :=
  let neg := bit n (f.mb + f.eb)
  let x := bits n f.mb f.eb
  let m := bits n 0 f.mb
  if x = 2 ^ f.eb - 1 then (if m = 0 then .inf neg else .nan)
  else if x = 0 then .fin neg m f.emin
  else .fin neg (m + 2 ^ f.mb) (f.emin + x - 1)

/-- The sign bit of a format. -/
def fsign (f : Fmt) (neg : Bool) : Nat := b2n neg * 2 ^ (f.mb + f.eb)

/-- The pattern of an infinity. -/
def finf (f : Fmt) (neg : Bool) : Nat := fsign f neg + (2 ^ f.eb - 1) * 2 ^ f.mb

/-- The pattern of the quiet NaN that operations give. -/
def fnan (f : Fmt) : Nat := (2 ^ f.eb - 1) * 2 ^ f.mb + 2 ^ (f.mb - 1)

/-- The nearest pattern to m · 2^e, or to a value slightly above it where `sticky` is set; ties to even. -/
def fround (f : Fmt) (neg : Bool) (m : Nat) (e : Int) (sticky : Bool) : Nat :=
  if m = 0 then fsign f neg
  else
    let q := max (e + (m.log2 + 1 : Nat) - (f.mb + 1 : Nat)) f.emin
    let mant :=
      if q ≤ e then m <<< (e - q).toNat
      else
        let sh := (q - e).toNat
        let lo := m % 2 ^ sh
        let hi := m >>> sh
        let half := 2 ^ (sh - 1)
        if lo > half || (lo = half && (sticky || hi % 2 = 1)) then hi + 1 else hi
    let q' := if mant = 2 ^ (f.mb + 1) then q + 1 else q
    let m' := if mant = 2 ^ (f.mb + 1) then mant / 2 else mant
    let x := (q' - f.emin).toNat
    if x + 1 > 2 ^ f.eb - 2 then finf f neg else fsign f neg + (x * 2 ^ f.mb + m')

/-- The pattern of a value in a format. -/
def fwrite (f : Fmt) : Fv → Nat
  | .nan => fnan f
  | .inf n => finf f n
  | .fin n m e => fround f n m e false

/-- The negative of a pattern. -/
def fneg (f : Fmt) (a : Nat) : Nat := a ^^^ 2 ^ (f.mb + f.eb)

/-- The magnitude of a pattern. -/
def fabs (f : Fmt) (a : Nat) : Nat := a % 2 ^ (f.mb + f.eb)

/-- The sum of two patterns. -/
def fadd (f : Fmt) (a b : Nat) : Nat :=
  match fread f a, fread f b with
  | .nan, _ => fnan f
  | _, .nan => fnan f
  | .inf x, .inf y => if x = y then finf f x else fnan f
  | .inf x, _ => finf f x
  | _, .inf y => finf f y
  | .fin n1 m1 e1, .fin n2 m2 e2 =>
    let e := min e1 e2
    let x : Int := (m1 <<< (e1 - e).toNat : Nat)
    let y : Int := (m2 <<< (e2 - e).toNat : Nat)
    let z : Int := (if n1 then -x else x) + (if n2 then -y else y)
    if z = 0 then fsign f (n1 && n2) else fround f (z < 0) z.natAbs e false

/-- The difference of two patterns. -/
def fsub (f : Fmt) (a b : Nat) : Nat := fadd f a (fneg f b)

/-- The product of two patterns. -/
def fmul (f : Fmt) (a b : Nat) : Nat :=
  match fread f a, fread f b with
  | .nan, _ => fnan f
  | _, .nan => fnan f
  | .inf x, .inf y => finf f (x != y)
  | .inf x, .fin y m _ => if m = 0 then fnan f else finf f (x != y)
  | .fin x m _, .inf y => if m = 0 then fnan f else finf f (x != y)
  | .fin n1 m1 e1, .fin n2 m2 e2 => fround f (n1 != n2) (m1 * m2) (e1 + e2) false

/-- The quotient of two patterns. -/
def fdiv (f : Fmt) (a b : Nat) : Nat :=
  match fread f a, fread f b with
  | .nan, _ => fnan f
  | _, .nan => fnan f
  | .inf _, .inf _ => fnan f
  | .inf x, .fin y _ _ => finf f (x != y)
  | .fin x _ _, .inf y => fsign f (x != y)
  | .fin n1 m1 e1, .fin n2 m2 e2 =>
    if m2 = 0 then (if m1 = 0 then fnan f else finf f (n1 != n2))
    else
      let k := 2 * f.mb + 8 + m2.log2
      let q := (m1 <<< k) / m2
      fround f (n1 != n2) q (e1 - e2 - k) (q * m2 ≠ m1 <<< k)

/-- Is the pattern a NaN? -/
def fisNan (f : Fmt) (a : Nat) : Bool := fread f a == .nan

/-- Is the pattern finite? (R99: a parameter value that is not finite answers RANGE.) -/
def fisFin (f : Fmt) (a : Nat) : Bool := bits a f.mb f.eb != 2 ^ f.eb - 1

/-- The place of a pattern that is no NaN in the order of the values. -/
def fkey (f : Fmt) (a : Nat) : Int :=
  if bit a (f.mb + f.eb) then -(fabs f a : Nat) else (fabs f a : Nat)

/-- `a < b`; false where either is a NaN. -/
def flt (f : Fmt) (a b : Nat) : Bool := !fisNan f a && !fisNan f b && decide (fkey f a < fkey f b)

/-- `a ≤ b`; false where either is a NaN. -/
def fle (f : Fmt) (a b : Nat) : Bool := !fisNan f a && !fisNan f b && decide (fkey f a ≤ fkey f b)

/-- `a = b` as values; false where either is a NaN. -/
def feqv (f : Fmt) (a b : Nat) : Bool := fle f a b && fle f b a

/-- The pattern nearest to the rational number n / d. -/
def ofRatio (f : Fmt) (n : Int) (d : Nat) : Nat :=
  let k := 2 * f.mb + 8 + d.log2
  let q := (n.natAbs <<< k) / d
  fround f (n < 0) q (-(k : Nat)) (q * d ≠ n.natAbs <<< k)

/-- The pattern nearest to an integer. -/
def ofInt (f : Fmt) (n : Int) : Nat := fround f (n < 0) n.natAbs 0 false

/-- A binary32 pattern as the binary64 of equal value. -/
def f32to64 (a : Nat) : Nat := fwrite fmt64 (fread fmt32 a)

/-- A binary64 pattern rounded to binary32. -/
def f64to32 (a : Nat) : Nat := fwrite fmt32 (fread fmt64 a)

/-- The integer nearest below or at the value in magnitude (rounding toward zero); 0 for a value that is not finite. -/
def ftrunc (f : Fmt) (a : Nat) : Int :=
  match fread f a with
  | .fin n m e =>
    let v : Nat := if 0 ≤ e then m <<< e.toNat else m >>> (-e).toNat
    if n then -(v : Int) else v
  | _ => 0

/-- The integer nearest to the value, ties to even; 0 for a value that is not finite. -/
def fnearest (f : Fmt) (a : Nat) : Int :=
  match fread f a with
  | .fin n m e =>
    let v : Nat :=
      if 0 ≤ e then m <<< e.toNat
      else
        let sh := (-e).toNat
        let lo := m % 2 ^ sh
        let hi := m >>> sh
        let half := 2 ^ (sh - 1)
        if lo > half || (lo = half && hi % 2 = 1) then hi + 1 else hi
    if n then -(v : Int) else v
  | _ => 0

/-- The value as a fraction: numerator and denominator; 0 for a value that is not finite. -/
def fratio (f : Fmt) (a : Nat) : Int × Nat :=
  match fread f a with
  | .fin n m e =>
    let num : Nat := if 0 ≤ e then m <<< e.toNat else m
    let den : Nat := if 0 ≤ e then 1 else 2 ^ (-e).toNat
    (if n then -(num : Int) else num, den)
  | _ => (0, 1)

/-- The larger of two patterns (the first where they are equal). -/
def fmax (f : Fmt) (a b : Nat) : Nat := if flt f a b then b else a

/-- The smaller of two patterns (the first where they are equal). -/
def fmin (f : Fmt) (a b : Nat) : Nat := if flt f b a then b else a

end Sys2Proof
end

