-- ==== Sys2Proof/Machine/Params.lean ====
section
/-!
DEFINITION. The parameters of the module as the spec's tables give them (R98–R105 and the parameter tables of every
chapter): index, type, access, marks, default, range and owning unit, and the checks a value passes.
-/
namespace Sys2Proof.Machine

/-- The option units (R4). -/
inductive OptUnit where
  | ai | ao | dio | phs | pnl | dbg
deriving DecidableEq, Repr

/-- The parameter types (R99). -/
inductive PType where
  | u8 | i8 | u16 | i16 | u32 | i32 | u64 | i64 | f32 | f64
deriving DecidableEq, Repr

/-- Access to a parameter (R15, R100). -/
inductive Acc where
  | ro | rw | w1s
deriving DecidableEq, Repr

/-- The marks of R100: base-only, live, OPERATE, SERVICE, per slot. -/
structure Marks where
  b : Bool
  l : Bool
  o : Bool
  x : Bool
  p : Bool
deriving DecidableEq, Repr

/-- The values a parameter takes: any; a range; a range of multiples; a range or one value more; one of three; a binary32
range; a layout of fields (reserved mask, then lowest bit, width, least and greatest value of each checked field). -/
inductive Chk where
  | any
  | rng (lo hi : Nat)
  | mul (lo hi m : Nat)
  | rngOr (lo hi other : Nat)
  | oneOf (a b c : Nat)
  | frng (lo hi : Nat)
  | flds (resv : Nat) (fs : List (Nat × Nat × Nat × Nat))
deriving DecidableEq, Repr

/-- One row of the parameter tables: base index, stride, number of elements (R101), type, access, marks, default, the unit it
belongs to, and its values. -/
structure ParamDef where
  base : Nat
  stride : Nat
  count : Nat
  ty : PType
  acc : Acc
  marks : Marks
  dflt : Nat
  unit : Option OptUnit
  chk : Chk
deriving DecidableEq, Repr

/-- Bytes of a type (R99). -/
def PType.size : PType → Nat
  | .u8 => 1 | .i8 => 1 | .u16 => 2 | .i16 => 2 | .u32 => 4 | .i32 => 4 | .f32 => 4
  | .u64 => 8 | .i64 => 8 | .f64 => 8

/-- The status codes of R78. -/
inductive Status where
  | ok | accepted | busy | stateRefused | badCommand | badParameter | range | accessDenied
  | sealed_ | notPresent | sequence | imageRefused | superseded | notReady | partnerRefused | internal
deriving DecidableEq, Repr

/-- The code of a status (R78). -/
def Status.code : Status → Nat
  | .ok => 0x00 | .accepted => 0x01 | .busy => 0x02 | .stateRefused => 0x03 | .badCommand => 0x04
  | .badParameter => 0x05 | .range => 0x06 | .accessDenied => 0x07 | .sealed_ => 0x08 | .notPresent => 0x09
  | .sequence => 0x0A | .imageRefused => 0x0B | .superseded => 0x0C | .notReady => 0x0D
  | .partnerRefused => 0x0E | .internal => 0x0F

/-- The status of a code (R78); one that R78 does not list is taken as INTERNAL. -/
def Status.ofCode (c : Nat) : Status :=
  ([.ok, .accepted, .busy, .stateRefused, .badCommand, .badParameter, .range, .accessDenied, .sealed_, .notPresent, .sequence,
    .imageRefused, .superseded, .notReady, .partnerRefused] : List Status).getD c .internal

/-- Page 0x00: VariantCode, OptionMask, FirmwareRelease, SerialNumber, HardwareRevision, ManufactureTime, OperatingSeconds, PowerCycleCount, ActiveFirmwareSlot, ActiveProgramSlot, ParameterTotal, MailboxProtocol, SyncProtocolRevision, FeatureLevel, BaseMac, PageParameterCount. -/
def paramPage00 : List ParamDef := [
  ⟨0x0000, 1, 1, .u16, .ro, ⟨false, false, false, false, false⟩, 0x0, none, .any⟩,
  ⟨0x0001, 1, 1, .u32, .ro, ⟨false, false, false, false, false⟩, 0x0, none, .any⟩,
  ⟨0x0002, 1, 1, .u16, .ro, ⟨false, false, false, false, false⟩, 0x0, none, .any⟩,
  ⟨0x0003, 1, 1, .u64, .ro, ⟨false, false, false, false, false⟩, 0x0, none, .any⟩,
  ⟨0x0004, 1, 1, .u16, .ro, ⟨false, false, false, false, false⟩, 0x0, none, .any⟩,
  ⟨0x0005, 1, 1, .u64, .ro, ⟨false, false, false, false, false⟩, 0x0, none, .any⟩,
  ⟨0x0006, 1, 1, .u64, .ro, ⟨false, false, false, false, false⟩, 0x0, none, .any⟩,
  ⟨0x0007, 1, 1, .u32, .ro, ⟨false, false, false, false, false⟩, 0x0, none, .any⟩,
  ⟨0x0008, 1, 1, .u8, .ro, ⟨false, false, false, false, false⟩, 0x0, none, .any⟩,
  ⟨0x0009, 1, 1, .u8, .ro, ⟨false, false, false, false, false⟩, 0x0, none, .any⟩,
  ⟨0x000a, 1, 1, .u16, .ro, ⟨false, false, false, false, false⟩, 0x0, none, .any⟩,
  ⟨0x000b, 1, 1, .u8, .ro, ⟨false, false, false, false, false⟩, 0x0, none, .any⟩,
  ⟨0x000c, 1, 1, .u16, .ro, ⟨false, false, false, false, false⟩, 0x0, none, .any⟩,
  ⟨0x000d, 1, 1, .u16, .ro, ⟨false, false, false, false, false⟩, 0x0, none, .any⟩,
  ⟨0x000e, 1, 1, .u64, .ro, ⟨false, false, false, false, false⟩, 0x0, none, .any⟩,
  ⟨0x0010, 1, 16, .u16, .ro, ⟨false, false, false, false, false⟩, 0x0, none, .any⟩]

/-- Page 0x01: Mode, Role, PreviousMode, ModeChangeCount, ModeEntryTime, StartMode, ForceInRun, HoldLimit, HaltCall, ModeSwitchLead, RetainSavePeriod, RetainSaveAge, ConfigState, ConfigGeneration, ConfigDigest, SchemaVersion, FirmwareSchemaVersion, MigratedFromSchema, MigrationDropCount, RecoveryCause, HaltCause, CuratorRestartCount, SupplyStatus, PwrAVoltage. -/
def paramPage01a : List ParamDef := [
  ⟨0x0100, 1, 1, .u8, .ro, ⟨false, false, false, false, false⟩, 0x0, none, .any⟩,
  ⟨0x0101, 1, 1, .u8, .ro, ⟨false, false, false, false, false⟩, 0x0, none, .any⟩,
  ⟨0x0102, 1, 1, .u8, .ro, ⟨false, false, false, false, false⟩, 0x0, none, .any⟩,
  ⟨0x0103, 1, 1, .u32, .ro, ⟨false, false, false, false, false⟩, 0x0, none, .any⟩,
  ⟨0x0104, 1, 1, .u64, .ro, ⟨false, false, false, false, false⟩, 0x0, none, .any⟩,
  ⟨0x0105, 1, 1, .u8, .rw, ⟨true, false, false, false, false⟩, 0x0, none, .rng 0 1⟩,
  ⟨0x0106, 1, 1, .u8, .rw, ⟨false, false, false, false, false⟩, 0x0, none, .rng 0 1⟩,
  ⟨0x0107, 1, 1, .u32, .rw, ⟨false, false, false, false, false⟩, 0x0, none, .rng 0 86400⟩,
  ⟨0x0108, 1, 1, .u8, .rw, ⟨true, false, false, false, false⟩, 0x3, none, .flds 0xfc []⟩,
  ⟨0x0109, 1, 1, .u32, .rw, ⟨true, false, false, false, false⟩, 0x3e8, none, .rng 250 100000⟩,
  ⟨0x010a, 1, 1, .u32, .rw, ⟨true, false, false, false, false⟩, 0x2710, none, .rng 100 600000⟩,
  ⟨0x010b, 1, 1, .u32, .ro, ⟨false, false, false, false, false⟩, 0x0, none, .any⟩,
  ⟨0x010c, 1, 1, .u8, .ro, ⟨false, false, false, false, false⟩, 0x0, none, .any⟩,
  ⟨0x010d, 1, 1, .u32, .ro, ⟨false, false, false, false, false⟩, 0x0, none, .any⟩,
  ⟨0x010e, 1, 1, .u64, .ro, ⟨false, false, false, false, false⟩, 0x0, none, .any⟩,
  ⟨0x010f, 1, 1, .u16, .ro, ⟨false, false, false, false, false⟩, 0x0, none, .any⟩,
  ⟨0x0110, 1, 1, .u16, .ro, ⟨false, false, false, false, false⟩, 0x0, none, .any⟩,
  ⟨0x0111, 1, 1, .u16, .ro, ⟨false, false, false, false, false⟩, 0x0, none, .any⟩,
  ⟨0x0112, 1, 1, .u32, .ro, ⟨false, false, false, false, false⟩, 0x0, none, .any⟩,
  ⟨0x0113, 1, 1, .u16, .ro, ⟨false, false, false, false, false⟩, 0x0, none, .any⟩,
  ⟨0x0114, 1, 1, .u16, .ro, ⟨false, false, false, false, false⟩, 0x0, none, .any⟩,
  ⟨0x0115, 1, 1, .u32, .ro, ⟨false, false, false, false, false⟩, 0x0, none, .any⟩,
  ⟨0x0116, 1, 1, .u32, .ro, ⟨false, false, false, false, false⟩, 0x0, none, .any⟩,
  ⟨0x0117, 1, 1, .f32, .ro, ⟨false, false, false, false, false⟩, 0x0, none, .any⟩]

/-- Page 0x01: PwrBVoltage, InputPower, InletTemperature, DieTemperatureMax, InletTemperaturePeak, HoldupTime, OverlayLength, OverlaySkipCount, FrameErrorCount, AuthFailCount, AuthLockoutCount, SessionCount, SessionIdle, MailboxPlantEnable, ServiceRemote, NotifyQueueDrops, PartnerForwardCount, LastRefusedCommand, KeyState, StatusCount, EventMask, EventNotify, EventArchive. -/
def paramPage01b : List ParamDef := [
  ⟨0x0118, 1, 1, .f32, .ro, ⟨false, false, false, false, false⟩, 0x0, none, .any⟩,
  ⟨0x0119, 1, 1, .f32, .ro, ⟨false, false, false, false, false⟩, 0x0, none, .any⟩,
  ⟨0x011a, 1, 1, .f32, .ro, ⟨false, false, false, false, false⟩, 0x0, none, .any⟩,
  ⟨0x011b, 1, 1, .f32, .ro, ⟨false, false, false, false, false⟩, 0x0, none, .any⟩,
  ⟨0x011c, 1, 1, .f32, .ro, ⟨false, false, false, false, false⟩, 0x0, none, .any⟩,
  ⟨0x011d, 1, 1, .f32, .ro, ⟨false, false, false, false, false⟩, 0x0, none, .any⟩,
  ⟨0x0120, 1, 12, .u16, .ro, ⟨false, false, false, false, false⟩, 0x0, none, .any⟩,
  ⟨0x0130, 1, 12, .u16, .ro, ⟨false, false, false, false, false⟩, 0x0, none, .any⟩,
  ⟨0x0140, 1, 1, .u32, .ro, ⟨false, false, false, false, false⟩, 0x0, none, .any⟩,
  ⟨0x0141, 1, 1, .u32, .ro, ⟨false, false, false, false, false⟩, 0x0, none, .any⟩,
  ⟨0x0142, 1, 1, .u32, .ro, ⟨false, false, false, false, false⟩, 0x0, none, .any⟩,
  ⟨0x0143, 1, 1, .u8, .ro, ⟨false, false, false, false, false⟩, 0x0, none, .any⟩,
  ⟨0x0144, 1, 1, .u32, .rw, ⟨true, false, false, true, false⟩, 0x258, none, .rng 10 86400⟩,
  ⟨0x0145, 1, 1, .u8, .rw, ⟨true, false, false, true, false⟩, 0x1, none, .rng 0 1⟩,
  ⟨0x0146, 1, 1, .u8, .rw, ⟨true, false, false, true, false⟩, 0x0, none, .rng 0 1⟩,
  ⟨0x0147, 1, 1, .u32, .ro, ⟨false, false, false, false, false⟩, 0x0, none, .any⟩,
  ⟨0x0148, 1, 1, .u32, .ro, ⟨false, false, false, false, false⟩, 0x0, none, .any⟩,
  ⟨0x0149, 1, 1, .u16, .ro, ⟨false, false, false, false, false⟩, 0x0, none, .any⟩,
  ⟨0x014a, 1, 1, .u8, .ro, ⟨false, false, false, false, false⟩, 0x0, none, .any⟩,
  ⟨0x0150, 1, 16, .u32, .ro, ⟨false, false, false, false, false⟩, 0x0, none, .any⟩,
  ⟨0x0160, 1, 8, .u32, .rw, ⟨false, true, false, false, false⟩, 0x0, none, .any⟩,
  ⟨0x0168, 1, 8, .u32, .rw, ⟨false, true, false, false, false⟩, 0xffffffff, none, .any⟩,
  ⟨0x0170, 1, 8, .u32, .rw, ⟨false, true, false, false, false⟩, 0xffffffff, none, .any⟩]

/-- Page 0x01. -/
def paramPage01 : List ParamDef := paramPage01a ++ paramPage01b

/-- Page 0x02: CarrierSlot, PreferredPrimary, DigestWait, PairState, PreferredSoak, SoakElapsed, CopyRate, LastCopyTime, DivergenceLimit, DivergenceWindow, DivergenceCount, ResyncCount, LateDigestCount, PartnerGoneCount, PairFeatureLevel, PairSyncRevision, PairOptionMask, PartnerSerial, PartnerFirmwareRelease, OwnFlagCause, RoleSwapCount, MirrorCount, AccessionRefuseCause, LaneStatus. -/
def paramPage02a : List ParamDef := [
  ⟨0x0200, 1, 1, .u8, .ro, ⟨false, false, false, false, false⟩, 0x0, none, .any⟩,
  ⟨0x0201, 1, 1, .u8, .rw, ⟨true, false, false, false, false⟩, 0xff, none, .oneOf 0 1 255⟩,
  ⟨0x0202, 1, 1, .u32, .rw, ⟨false, false, false, false, false⟩, 0x64, none, .rng 10 2000⟩,
  ⟨0x0203, 1, 1, .u32, .ro, ⟨false, false, false, false, false⟩, 0x0, none, .any⟩,
  ⟨0x0204, 1, 1, .u32, .rw, ⟨true, false, false, false, false⟩, 0x15180, none, .rng 3600 2592000⟩,
  ⟨0x0205, 1, 1, .u32, .ro, ⟨false, false, false, false, false⟩, 0x0, none, .any⟩,
  ⟨0x0206, 1, 1, .u32, .rw, ⟨true, false, false, false, false⟩, 0x28, none, .rng 3 400⟩,
  ⟨0x0207, 1, 1, .u32, .ro, ⟨false, false, false, false, false⟩, 0x0, none, .any⟩,
  ⟨0x0208, 1, 1, .u8, .rw, ⟨true, false, false, false, false⟩, 0x3, none, .rng 1 16⟩,
  ⟨0x0209, 1, 1, .u32, .rw, ⟨true, false, false, false, false⟩, 0xe10, none, .rng 60 86400⟩,
  ⟨0x020a, 1, 1, .u32, .ro, ⟨false, false, false, false, false⟩, 0x0, none, .any⟩,
  ⟨0x020b, 1, 1, .u32, .ro, ⟨false, false, false, false, false⟩, 0x0, none, .any⟩,
  ⟨0x020c, 1, 1, .u32, .ro, ⟨false, false, false, false, false⟩, 0x0, none, .any⟩,
  ⟨0x020d, 1, 1, .u32, .ro, ⟨false, false, false, false, false⟩, 0x0, none, .any⟩,
  ⟨0x020e, 1, 1, .u16, .ro, ⟨false, false, false, false, false⟩, 0x0, none, .any⟩,
  ⟨0x020f, 1, 1, .u16, .ro, ⟨false, false, false, false, false⟩, 0x0, none, .any⟩,
  ⟨0x0210, 1, 1, .u32, .ro, ⟨false, false, false, false, false⟩, 0x0, none, .any⟩,
  ⟨0x0211, 1, 1, .u64, .ro, ⟨false, false, false, false, false⟩, 0x0, none, .any⟩,
  ⟨0x0212, 1, 1, .u16, .ro, ⟨false, false, false, false, false⟩, 0x0, none, .any⟩,
  ⟨0x0213, 1, 1, .u16, .ro, ⟨false, false, false, false, false⟩, 0x0, none, .any⟩,
  ⟨0x0214, 1, 1, .u32, .ro, ⟨false, false, false, false, false⟩, 0x0, none, .any⟩,
  ⟨0x0215, 1, 1, .u32, .ro, ⟨false, false, false, false, false⟩, 0x0, none, .any⟩,
  ⟨0x0216, 1, 1, .u8, .ro, ⟨false, false, false, false, false⟩, 0x0, none, .any⟩,
  ⟨0x0240, 32, 2, .u32, .ro, ⟨false, false, false, false, false⟩, 0x0, none, .any⟩]

/-- Page 0x02: LaneGoodFrames, LaneCheckErrors, LaneDownCount, LaneDownTime. -/
def paramPage02b : List ParamDef := [
  ⟨0x0241, 32, 2, .u64, .ro, ⟨false, false, false, false, false⟩, 0x0, none, .any⟩,
  ⟨0x0242, 32, 2, .u32, .ro, ⟨false, false, false, false, false⟩, 0x0, none, .any⟩,
  ⟨0x0243, 32, 2, .u32, .ro, ⟨false, false, false, false, false⟩, 0x0, none, .any⟩,
  ⟨0x0244, 32, 2, .u64, .ro, ⟨false, false, false, false, false⟩, 0x0, none, .any⟩]

/-- Page 0x02. -/
def paramPage02 : List ParamDef := paramPage02a ++ paramPage02b

/-- Page 0x03: TaskControl, Period, Offset, SubstitutePeriod, TaskCounts, TaskTimes, TaskRunningMap, TaskUnverifiedMap, TaskRecoveringMap, TaskStoppedMap, TaskFaultLimit, LastTaskFault, ForceCount, ForceApplied, ProgramDigest, ProgramSwitchCount, OnlineChangeCount, CheckpointRestartCount, CarryOverDropCount, LastSwitchGap, ConstantPatchCount. -/
def paramPage03 : List ParamDef := [
  ⟨0x0300, 6, 32, .u32, .rw, ⟨false, false, false, false, false⟩, 0x0, none, .flds 0x600c00f0 [(20, 4, 0, 9), (16, 2, 0, 2), (12, 2, 0, 1), (10, 2, 0, 2)]⟩,
  ⟨0x0301, 6, 32, .u32, .rw, ⟨false, false, false, false, false⟩, 0x2710, none, .mul 250 10000000 250⟩,
  ⟨0x0302, 6, 32, .u32, .rw, ⟨false, false, false, false, false⟩, 0x0, none, .any⟩,
  ⟨0x0303, 6, 32, .u32, .rw, ⟨false, false, false, false, false⟩, 0x2710, none, .mul 250 10000000 250⟩,
  ⟨0x0304, 6, 32, .u64, .ro, ⟨false, false, false, false, false⟩, 0x0, none, .any⟩,
  ⟨0x0305, 6, 32, .u64, .ro, ⟨false, false, false, false, false⟩, 0x0, none, .any⟩,
  ⟨0x03c0, 1, 1, .u32, .ro, ⟨false, false, false, false, false⟩, 0x0, none, .any⟩,
  ⟨0x03c1, 1, 1, .u32, .ro, ⟨false, false, false, false, false⟩, 0x0, none, .any⟩,
  ⟨0x03c2, 1, 1, .u32, .ro, ⟨false, false, false, false, false⟩, 0x0, none, .any⟩,
  ⟨0x03c3, 1, 1, .u32, .ro, ⟨false, false, false, false, false⟩, 0x0, none, .any⟩,
  ⟨0x03c4, 1, 1, .u8, .rw, ⟨false, false, false, false, false⟩, 0x3, none, .any⟩,
  ⟨0x03c5, 1, 1, .u32, .ro, ⟨false, false, false, false, false⟩, 0x0, none, .any⟩,
  ⟨0x03c6, 1, 1, .u16, .ro, ⟨false, false, false, false, false⟩, 0x0, none, .any⟩,
  ⟨0x03c7, 1, 1, .u8, .ro, ⟨false, false, false, false, false⟩, 0x0, none, .any⟩,
  ⟨0x03c8, 1, 2, .u64, .ro, ⟨false, false, false, false, false⟩, 0x0, none, .any⟩,
  ⟨0x03ca, 1, 1, .u32, .ro, ⟨false, false, false, false, false⟩, 0x0, none, .any⟩,
  ⟨0x03cb, 1, 1, .u32, .ro, ⟨false, false, false, false, false⟩, 0x0, none, .any⟩,
  ⟨0x03cc, 1, 1, .u32, .ro, ⟨false, false, false, false, false⟩, 0x0, none, .any⟩,
  ⟨0x03cd, 1, 1, .u32, .ro, ⟨false, false, false, false, false⟩, 0x0, none, .any⟩,
  ⟨0x03ce, 1, 1, .u32, .ro, ⟨false, false, false, false, false⟩, 0x0, none, .any⟩,
  ⟨0x03cf, 1, 1, .u16, .ro, ⟨false, false, false, false, false⟩, 0x0, none, .any⟩]

/-- Page 0x04: RefControl, Resolution, ZeroOffset, VelMin, VelMax, GapRatio, LockCount, RearmWindow, SyntheticRate, FilterTicks, MainsSource, DoOnUnlock, RefStatus, PhaseWord, Speed, RevCount, LastEdgeTime, LockedTotal, UnlockTotal, MaxEdgeJump, MaxClampTicks, CatalogueEnable, AcSenseHysteresis, CatalogueFireCount. -/
def paramPage04a : List ParamDef := [
  ⟨0x0400, 32, 4, .u32, .rw, ⟨false, false, false, false, false⟩, 0x400000, (some .phs), .flds 0xc01ffff [(28, 3, 0, 3), (17, 2, 0, 2)]⟩,
  ⟨0x0401, 32, 4, .u32, .rw, ⟨false, false, false, false, false⟩, 0x40, (some .phs), .any⟩,
  ⟨0x0402, 32, 4, .u32, .rw, ⟨false, false, false, false, false⟩, 0x0, (some .phs), .any⟩,
  ⟨0x0403, 32, 4, .f32, .rw, ⟨false, false, false, false, false⟩, 0x3dcccccd, (some .phs), .any⟩,
  ⟨0x0404, 32, 4, .f32, .rw, ⟨false, false, false, false, false⟩, 0x42c80000, (some .phs), .any⟩,
  ⟨0x0405, 32, 4, .f32, .rw, ⟨false, false, false, false, false⟩, 0x3fc00000, (some .phs), .any⟩,
  ⟨0x0406, 32, 4, .u8, .rw, ⟨false, false, false, false, false⟩, 0x2, (some .phs), .rng 1 16⟩,
  ⟨0x0407, 32, 4, .u32, .rw, ⟨false, false, false, false, false⟩, 0x400000, (some .phs), .rng 4096 1073741824⟩,
  ⟨0x0408, 32, 4, .u64, .rw, ⟨false, false, false, false, false⟩, 0x0, (some .phs), .rng 0 14757395258967641⟩,
  ⟨0x0409, 32, 4, .u8, .rw, ⟨false, false, false, false, false⟩, 0x4, (some .phs), .any⟩,
  ⟨0x040a, 32, 4, .u8, .rw, ⟨false, false, false, false, false⟩, 0xff, (some .phs), .rngOr 0 31 255⟩,
  ⟨0x040b, 32, 4, .u8, .rw, ⟨false, true, false, false, false⟩, 0x0, (some .phs), .rng 0 1⟩,
  ⟨0x040c, 32, 4, .u32, .ro, ⟨false, false, false, false, false⟩, 0x0, (some .phs), .any⟩,
  ⟨0x040d, 32, 4, .u32, .ro, ⟨false, false, false, false, false⟩, 0x0, (some .phs), .any⟩,
  ⟨0x040e, 32, 4, .f32, .ro, ⟨false, false, false, false, false⟩, 0x0, (some .phs), .any⟩,
  ⟨0x040f, 32, 4, .i32, .ro, ⟨false, false, false, false, false⟩, 0x0, (some .phs), .any⟩,
  ⟨0x0410, 32, 4, .u64, .ro, ⟨false, false, false, false, false⟩, 0x0, (some .phs), .any⟩,
  ⟨0x0411, 32, 4, .u32, .ro, ⟨false, false, false, false, false⟩, 0x0, (some .phs), .any⟩,
  ⟨0x0412, 32, 4, .u32, .ro, ⟨false, false, false, false, false⟩, 0x0, (some .phs), .any⟩,
  ⟨0x0413, 32, 4, .u32, .ro, ⟨false, false, false, false, false⟩, 0x0, (some .phs), .any⟩,
  ⟨0x0414, 32, 4, .u32, .ro, ⟨false, false, false, false, false⟩, 0x0, (some .phs), .any⟩,
  ⟨0x0480, 1, 1, .u8, .rw, ⟨false, true, false, false, false⟩, 0x1, (some .phs), .rng 0 1⟩,
  ⟨0x0481, 1, 1, .f32, .rw, ⟨false, false, false, false, false⟩, 0x3f000000, (some .phs), .frng 1028443341 1084227584⟩,
  ⟨0x0482, 1, 1, .u64, .ro, ⟨false, false, false, false, false⟩, 0x0, (some .phs), .any⟩]

/-- Page 0x04: CatalogueDeferCount, CatalogueMaxDefer. -/
def paramPage04b : List ParamDef := [
  ⟨0x0483, 1, 1, .u32, .ro, ⟨false, false, false, false, false⟩, 0x0, (some .phs), .any⟩,
  ⟨0x0484, 1, 1, .u16, .ro, ⟨false, false, false, false, false⟩, 0x0, (some .phs), .any⟩]

/-- Page 0x04. -/
def paramPage04 : List ParamDef := paramPage04a ++ paramPage04b

/-- Page 0x05: CapControl, CapLength, CapDecimate, CapCount, CapStartTime, InjControl, InjAmplitude, InjFreqStart, InjFreqEnd, InjDuration, PrbsHold, PrbsSeed, InjStartTime, InjValue, LoopEnable, LoopEvalCount, QueueDepthMax, MergedTriggerCount, MaxLatency, LoopMismatchCount, LoopFaultedCount, InvalidInputCount, TrackingCount, NumericCount. -/
def paramPage05a : List ParamDef := [
  ⟨0x0500, 16, 4, .u32, .rw, ⟨false, true, false, false, false⟩, 0x0, none, .flds 0xfff800 [(27, 3, 0, 4)]⟩,
  ⟨0x0501, 16, 4, .u32, .rw, ⟨false, true, false, false, false⟩, 0x10000, none, .rng 1 65536⟩,
  ⟨0x0502, 16, 4, .u16, .rw, ⟨false, true, false, false, false⟩, 0x1, none, .rng 1 1024⟩,
  ⟨0x0503, 16, 4, .u32, .ro, ⟨false, false, false, false, false⟩, 0x0, none, .any⟩,
  ⟨0x0504, 16, 4, .u64, .ro, ⟨false, false, false, false, false⟩, 0x0, none, .any⟩,
  ⟨0x0540, 16, 4, .u32, .rw, ⟨false, true, false, false, false⟩, 0x0, none, .flds 0xffff800 []⟩,
  ⟨0x0541, 16, 4, .f32, .rw, ⟨false, true, false, false, false⟩, 0x0, none, .frng 0 1148846080⟩,
  ⟨0x0542, 16, 4, .f32, .rw, ⟨false, true, false, false, false⟩, 0x3f800000, none, .frng 981668463 1148846080⟩,
  ⟨0x0543, 16, 4, .f32, .rw, ⟨false, true, false, false, false⟩, 0x41200000, none, .frng 981668463 1148846080⟩,
  ⟨0x0544, 16, 4, .u32, .rw, ⟨false, true, false, false, false⟩, 0x2710, none, .rng 10 3600000⟩,
  ⟨0x0545, 16, 4, .u16, .rw, ⟨false, true, false, false, false⟩, 0x1, none, .rng 1 1024⟩,
  ⟨0x0546, 16, 4, .u16, .rw, ⟨false, true, false, false, false⟩, 0x1, none, .rng 1 32767⟩,
  ⟨0x0547, 16, 4, .u64, .ro, ⟨false, false, false, false, false⟩, 0x0, none, .any⟩,
  ⟨0x0548, 16, 4, .f32, .ro, ⟨false, false, false, false, false⟩, 0x0, none, .any⟩,
  ⟨0x0580, 1, 1, .u8, .rw, ⟨false, true, false, false, false⟩, 0x1, none, .rng 0 1⟩,
  ⟨0x0581, 1, 1, .u64, .ro, ⟨false, false, false, false, false⟩, 0x0, none, .any⟩,
  ⟨0x0582, 1, 1, .u16, .ro, ⟨false, false, false, false, false⟩, 0x0, none, .any⟩,
  ⟨0x0583, 1, 1, .u32, .ro, ⟨false, false, false, false, false⟩, 0x0, none, .any⟩,
  ⟨0x0584, 1, 1, .u32, .ro, ⟨false, false, false, false, false⟩, 0x0, none, .any⟩,
  ⟨0x0585, 1, 1, .u32, .ro, ⟨false, false, false, false, false⟩, 0x0, none, .any⟩,
  ⟨0x0586, 1, 1, .u32, .ro, ⟨false, false, false, false, false⟩, 0x0, none, .any⟩,
  ⟨0x0587, 1, 1, .u32, .ro, ⟨false, false, false, false, false⟩, 0x0, none, .any⟩,
  ⟨0x0588, 1, 1, .u32, .ro, ⟨false, false, false, false, false⟩, 0x0, none, .any⟩,
  ⟨0x0589, 1, 1, .u32, .ro, ⟨false, false, false, false, false⟩, 0x0, none, .any⟩]

/-- Page 0x05: StrayTriggerCount, LoopLsn, LoopSignature. -/
def paramPage05b : List ParamDef := [
  ⟨0x058a, 1, 1, .u32, .ro, ⟨false, false, false, false, false⟩, 0x0, none, .any⟩,
  ⟨0x058b, 1, 1, .u32, .ro, ⟨false, false, false, false, false⟩, 0x0, none, .any⟩,
  ⟨0x058c, 1, 1, .u64, .ro, ⟨false, false, false, false, false⟩, 0x0, none, .any⟩]

/-- Page 0x05. -/
def paramPage05 : List ParamDef := paramPage05a ++ paramPage05b

/-- Page 0x06: RungControl, RungTime, RungDoMask, NetTarget, NetPort, CanChannel, CanId, RepeatPeriod, CallCode, ClassControl, StartRung, MaxShelve, ClassActive, ClassUnacked, AckMask, UnackReminder, LadderControllerId, LadderState, LadderRunNumber, LadderStartTime, LadderStarter, CallMessageCount, CallAckRefused, LadderNoRungCount. -/
def paramPage06a : List ParamDef := [
  ⟨0x0600, 16, 8, .u32, .rw, ⟨false, true, true, false, false⟩, 0x0, none, .flds 0x7ffffff []⟩,
  ⟨0x0601, 16, 8, .u32, .rw, ⟨false, true, true, false, false⟩, 0x12c, none, .rng 10 3600⟩,
  ⟨0x0602, 16, 8, .u32, .rw, ⟨false, true, true, false, false⟩, 0x0, none, .any⟩,
  ⟨0x0603, 16, 8, .u32, .rw, ⟨false, true, true, false, false⟩, 0x0, none, .any⟩,
  ⟨0x0604, 16, 8, .u16, .rw, ⟨false, true, true, false, false⟩, 0xb86b, none, .rng 1 65535⟩,
  ⟨0x0605, 16, 8, .u8, .rw, ⟨false, true, true, false, false⟩, 0xff, none, .rngOr 0 3 255⟩,
  ⟨0x0606, 16, 8, .u32, .rw, ⟨false, true, true, false, false⟩, 0x0, none, .flds 0x60000000 []⟩,
  ⟨0x0607, 16, 8, .u32, .rw, ⟨false, true, true, false, false⟩, 0x3c, none, .rngOr 10 600 0⟩,
  ⟨0x0608, 16, 8, .u16, .rw, ⟨false, true, true, false, false⟩, 0x0, none, .any⟩,
  ⟨0x0680, 8, 4, .u32, .rw, ⟨false, true, false, false, false⟩, 0x80000000, none, .flds 0x7fffffff []⟩,
  ⟨0x0681, 8, 4, .u8, .rw, ⟨false, true, false, false, false⟩, 0x1, none, .rng 1 8⟩,
  ⟨0x0682, 8, 4, .u32, .rw, ⟨false, true, false, false, false⟩, 0xe10, none, .rng 0 86400⟩,
  ⟨0x0683, 8, 4, .u16, .ro, ⟨false, false, false, false, false⟩, 0x0, none, .any⟩,
  ⟨0x0684, 8, 4, .u16, .ro, ⟨false, false, false, false, false⟩, 0x0, none, .any⟩,
  ⟨0x06a0, 1, 1, .u8, .rw, ⟨false, true, false, false, false⟩, 0xf, none, .flds 0xf0 []⟩,
  ⟨0x06a1, 1, 1, .u32, .rw, ⟨false, true, false, false, false⟩, 0x0, none, .rng 0 86400⟩,
  ⟨0x06a2, 1, 1, .u16, .rw, ⟨false, true, false, false, false⟩, 0x0, none, .any⟩,
  ⟨0x06a3, 1, 1, .u32, .ro, ⟨false, false, false, false, false⟩, 0x0, none, .any⟩,
  ⟨0x06a4, 1, 1, .u32, .ro, ⟨false, false, false, false, false⟩, 0x0, none, .any⟩,
  ⟨0x06a5, 1, 1, .u64, .ro, ⟨false, false, false, false, false⟩, 0x0, none, .any⟩,
  ⟨0x06a6, 1, 1, .u16, .ro, ⟨false, false, false, false, false⟩, 0x0, none, .any⟩,
  ⟨0x06a7, 1, 1, .u32, .ro, ⟨false, false, false, false, false⟩, 0x0, none, .any⟩,
  ⟨0x06a8, 1, 1, .u32, .ro, ⟨false, false, false, false, false⟩, 0x0, none, .any⟩,
  ⟨0x06a9, 1, 1, .u32, .ro, ⟨false, false, false, false, false⟩, 0x0, none, .any⟩]

/-- Page 0x06: ScanNumber, ScanTimeMax, AlarmMismatchCount, AlarmSignature, AlarmFollowState, InvalidEntryCount, JournalSequence, JournalOldest, JournalBacklog, JournalLostCount. -/
def paramPage06b : List ParamDef := [
  ⟨0x06aa, 1, 1, .u64, .ro, ⟨false, false, false, false, false⟩, 0x0, none, .any⟩,
  ⟨0x06ab, 1, 1, .u32, .ro, ⟨false, false, false, false, false⟩, 0x0, none, .any⟩,
  ⟨0x06ac, 1, 1, .u32, .ro, ⟨false, false, false, false, false⟩, 0x0, none, .any⟩,
  ⟨0x06ad, 1, 1, .u64, .ro, ⟨false, false, false, false, false⟩, 0x0, none, .any⟩,
  ⟨0x06ae, 1, 1, .u8, .ro, ⟨false, false, false, false, false⟩, 0x0, none, .any⟩,
  ⟨0x06af, 1, 1, .u16, .ro, ⟨false, false, false, false, false⟩, 0x0, none, .any⟩,
  ⟨0x06b0, 1, 1, .u64, .ro, ⟨false, false, false, false, false⟩, 0x0, none, .any⟩,
  ⟨0x06b1, 1, 1, .u64, .ro, ⟨false, false, false, false, false⟩, 0x0, none, .any⟩,
  ⟨0x06b2, 1, 1, .u32, .ro, ⟨false, false, false, false, false⟩, 0x0, none, .any⟩,
  ⟨0x06b3, 1, 1, .u32, .ro, ⟨false, false, false, false, false⟩, 0x0, none, .any⟩]

/-- Page 0x06. -/
def paramPage06 : List ParamDef := paramPage06a ++ paramPage06b

/-- Page 0x07: PairControl, SplitHalfMask, PairStatus, MismatchCount, LastMismatchTime, MismatchDetail, InjectionResult, InjectionFailCount, AutoMigrate, FlashPeLimit, DramCeLimit, DramCeWindow, DriftLimit, RecalPeriod, HotHoursLimit, ThermalEventLimit, EngineMismatchLimit, DramCorrected, DramUncorrectable, ConverterDrift, RecalNext, StageHotHours, StageThermalEvents, FlashPeMax. -/
def paramPage07a : List ParamDef := [
  ⟨0x0700, 8, 11, .u32, .rw, ⟨true, false, false, false, false⟩, 0x0, none, .flds 0x7fffffff []⟩,
  ⟨0x0701, 8, 11, .u32, .rw, ⟨false, false, false, false, false⟩, 0x0, none, .any⟩,
  ⟨0x0702, 8, 11, .u32, .ro, ⟨false, false, false, false, false⟩, 0x0, none, .any⟩,
  ⟨0x0703, 8, 11, .u32, .ro, ⟨false, false, false, false, false⟩, 0x0, none, .any⟩,
  ⟨0x0704, 8, 11, .u64, .ro, ⟨false, false, false, false, false⟩, 0x0, none, .any⟩,
  ⟨0x0705, 8, 11, .u32, .ro, ⟨false, false, false, false, false⟩, 0x0, none, .any⟩,
  ⟨0x0706, 8, 11, .u64, .ro, ⟨false, false, false, false, false⟩, 0x0, none, .any⟩,
  ⟨0x0707, 8, 11, .u16, .ro, ⟨false, false, false, false, false⟩, 0x0, none, .any⟩,
  ⟨0x0760, 1, 1, .u8, .rw, ⟨false, true, false, false, false⟩, 0x1, none, .rng 0 1⟩,
  ⟨0x0761, 1, 1, .u32, .rw, ⟨false, true, false, false, false⟩, 0x13880, none, .rng 10000 95000⟩,
  ⟨0x0762, 1, 1, .u32, .rw, ⟨false, true, false, false, false⟩, 0x3e8, none, .rng 10 100000⟩,
  ⟨0x0763, 1, 1, .u32, .rw, ⟨false, true, false, false, false⟩, 0x15180, none, .rng 3600 2592000⟩,
  ⟨0x0764, 1, 1, .f32, .rw, ⟨false, true, false, false, false⟩, 0x43960000, none, .frng 1112014848 1167867904⟩,
  ⟨0x0765, 1, 1, .u32, .rw, ⟨false, true, false, false, false⟩, 0x93a80, none, .rngOr 3600 31536000 0⟩,
  ⟨0x0766, 1, 1, .u32, .rw, ⟨false, true, false, false, false⟩, 0xc350, none, .rng 1000 262800⟩,
  ⟨0x0767, 1, 1, .u32, .rw, ⟨false, true, false, false, false⟩, 0x2710, none, .rng 100 1000000⟩,
  ⟨0x0768, 1, 1, .u16, .rw, ⟨false, true, false, false, false⟩, 0x10, none, .rng 1 1000⟩,
  ⟨0x0770, 1, 10, .u32, .ro, ⟨false, false, false, false, false⟩, 0x0, none, .any⟩,
  ⟨0x077a, 1, 1, .u32, .ro, ⟨false, false, false, false, false⟩, 0x0, none, .any⟩,
  ⟨0x0780, 1, 10, .f32, .ro, ⟨false, false, false, false, false⟩, 0x0, (some .ai), .any⟩,
  ⟨0x078a, 1, 1, .u8, .ro, ⟨false, false, false, false, false⟩, 0x0, (some .ai), .any⟩,
  ⟨0x0790, 1, 18, .u32, .ro, ⟨false, false, false, false, false⟩, 0x0, (some .ao), .any⟩,
  ⟨0x07a2, 1, 18, .u32, .ro, ⟨false, false, false, false, false⟩, 0x0, (some .ao), .any⟩,
  ⟨0x07b4, 1, 1, .u32, .ro, ⟨false, false, false, false, false⟩, 0x0, none, .any⟩]

/-- Page 0x07: FlashPeMean, FlashRetiredBlocks, EngineMismatch24, AnnexInventory, FlashReserveFree, KindEpochSpoil, MigrationCount, PairRemap, StageRemap, ConverterRemap, DramSpareMap, SpreadDepth, ActiveReference, OscError, OscErrorLimit. -/
def paramPage07b : List ParamDef := [
  ⟨0x07b5, 1, 1, .u32, .ro, ⟨false, false, false, false, false⟩, 0x0, none, .any⟩,
  ⟨0x07b6, 1, 1, .u32, .ro, ⟨false, false, false, false, false⟩, 0x0, none, .any⟩,
  ⟨0x07b7, 1, 1, .u32, .ro, ⟨false, false, false, false, false⟩, 0x0, none, .any⟩,
  ⟨0x07c0, 1, 1, .u32, .ro, ⟨false, false, false, false, false⟩, 0x0, none, .any⟩,
  ⟨0x07c1, 1, 1, .u32, .ro, ⟨false, false, false, false, false⟩, 0x0, none, .any⟩,
  ⟨0x07c2, 1, 6, .u32, .ro, ⟨false, false, false, false, false⟩, 0x0, none, .any⟩,
  ⟨0x07c8, 1, 1, .u32, .ro, ⟨false, false, false, false, false⟩, 0x0, none, .any⟩,
  ⟨0x07c9, 1, 1, .u64, .ro, ⟨false, false, false, false, false⟩, 0x0, none, .any⟩,
  ⟨0x07ca, 1, 1, .u16, .ro, ⟨false, false, false, false, false⟩, 0x0, (some .ao), .any⟩,
  ⟨0x07cb, 1, 1, .u16, .ro, ⟨false, false, false, false, false⟩, 0x0, (some .ai), .any⟩,
  ⟨0x07cc, 1, 1, .u8, .ro, ⟨false, false, false, false, false⟩, 0x0, none, .any⟩,
  ⟨0x07f0, 1, 1, .u8, .rw, ⟨true, false, false, false, false⟩, 0x1, none, .rng 0 1⟩,
  ⟨0x07f1, 1, 1, .u8, .ro, ⟨false, false, false, false, false⟩, 0x0, none, .any⟩,
  ⟨0x07f2, 1, 3, .f32, .ro, ⟨false, false, false, false, false⟩, 0x0, none, .any⟩,
  ⟨0x07f5, 1, 1, .f32, .rw, ⟨true, false, false, false, false⟩, 0x41c80000, none, .frng 1073741824 1128792064⟩]

/-- Page 0x07. -/
def paramPage07 : List ParamDef := paramPage07a ++ paramPage07b

/-- Page 0x08: ColourKeys, HomeColour, ContextState, ContextFaults, Budget, ArbPriority, BeatsLastFrame, CutoffCount, ArbFreeze, ArbFreezeEffective, SlotSwap, SlotSwapState, SlotSwapCount, BudgetTotal, WorkBase, WorkLimit, RegionReloadCount. -/
def paramPage08 : List ParamDef := [
  ⟨0x0800, 4, 24, .u16, .rw, ⟨false, false, false, false, false⟩, 0x2, none, .any⟩,
  ⟨0x0801, 4, 24, .u8, .rw, ⟨false, false, false, false, false⟩, 0x1, none, .rng 1 13⟩,
  ⟨0x0802, 4, 24, .u32, .ro, ⟨false, false, false, false, false⟩, 0x0, none, .any⟩,
  ⟨0x0803, 4, 24, .u32, .ro, ⟨false, false, false, false, false⟩, 0x0, none, .any⟩,
  ⟨0x0860, 4, 18, .u32, .rw, ⟨false, true, false, false, false⟩, 0x7d0, none, .any⟩,
  ⟨0x0861, 4, 18, .u8, .rw, ⟨false, true, false, false, false⟩, 0x5, none, .rng 0 15⟩,
  ⟨0x0862, 4, 18, .u32, .ro, ⟨false, false, false, false, false⟩, 0x0, none, .any⟩,
  ⟨0x0863, 4, 18, .u32, .ro, ⟨false, false, false, false, false⟩, 0x0, none, .any⟩,
  ⟨0x08b0, 1, 1, .u32, .rw, ⟨false, true, false, false, false⟩, 0x0, none, .flds 0xfffc0000 [(10, 1, 0, 0)]⟩,
  ⟨0x08b1, 1, 1, .u32, .ro, ⟨false, false, false, false, false⟩, 0x0, none, .any⟩,
  ⟨0x08b2, 1, 1, .u8, .w1s, ⟨false, true, false, false, false⟩, 0x0, none, .flds 0xfe []⟩,
  ⟨0x08b3, 1, 1, .u8, .ro, ⟨false, false, false, false, false⟩, 0x0, none, .any⟩,
  ⟨0x08b4, 1, 1, .u32, .ro, ⟨false, false, false, false, false⟩, 0x0, none, .any⟩,
  ⟨0x08b5, 1, 1, .u32, .ro, ⟨false, false, false, false, false⟩, 0x0, none, .any⟩,
  ⟨0x08b6, 1, 1, .u32, .ro, ⟨false, false, false, false, false⟩, 0x0, none, .any⟩,
  ⟨0x08b7, 1, 1, .u32, .ro, ⟨false, false, false, false, false⟩, 0x0, none, .any⟩,
  ⟨0x08b8, 1, 1, .u32, .ro, ⟨false, false, false, false, false⟩, 0x0, none, .any⟩]

/-- Page 0x09: ChannelConfig, CmWindow, ChannelStatus, ChannelValue, SeqControl, SeqEntries, ConverterStatus, ResultCount, BlankDiscards, SeqGo, GoAll, SeqStop, CalSelect, CalOffset, CalGain, CalState, CjTemperature. -/
def paramPage09 : List ParamDef := [
  ⟨0x0900, 4, 32, .u32, .rw, ⟨false, true, false, false, false⟩, 0x140000, (some .ai), .flds 0x30000ff [(28, 3, 0, 5), (26, 2, 0, 1), (16, 8, 4, 200)]⟩,
  ⟨0x0901, 4, 32, .u32, .rw, ⟨false, true, false, false, false⟩, 0xce320000, (some .ai), .any⟩,
  ⟨0x0902, 4, 32, .u32, .ro, ⟨false, false, false, false, false⟩, 0x0, (some .ai), .any⟩,
  ⟨0x0903, 4, 32, .f32, .ro, ⟨false, false, false, false, false⟩, 0x0, (some .ai), .any⟩,
  ⟨0x0980, 12, 10, .u32, .rw, ⟨false, false, false, false, false⟩, 0x0, (some .ai), .flds 0x20fffff0 [(24, 5, 0, 16), (0, 4, 0, 12)]⟩,
  ⟨0x0981, 12, 10, .u64, .rw, ⟨false, false, false, false, false⟩, 0x0, (some .ai), .flds 0x1fff00001fff [(29, 3, 0, 6), (61, 3, 0, 6)]⟩,
  ⟨0x0982, 12, 10, .u64, .rw, ⟨false, false, false, false, false⟩, 0x0, (some .ai), .flds 0x1fff00001fff [(29, 3, 0, 6), (61, 3, 0, 6)]⟩,
  ⟨0x0983, 12, 10, .u64, .rw, ⟨false, false, false, false, false⟩, 0x0, (some .ai), .flds 0x1fff00001fff [(29, 3, 0, 6), (61, 3, 0, 6)]⟩,
  ⟨0x0984, 12, 10, .u64, .rw, ⟨false, false, false, false, false⟩, 0x0, (some .ai), .flds 0x1fff00001fff [(29, 3, 0, 6), (61, 3, 0, 6)]⟩,
  ⟨0x0985, 12, 10, .u64, .rw, ⟨false, false, false, false, false⟩, 0x0, (some .ai), .flds 0x1fff00001fff [(29, 3, 0, 6), (61, 3, 0, 6)]⟩,
  ⟨0x0986, 12, 10, .u64, .rw, ⟨false, false, false, false, false⟩, 0x0, (some .ai), .flds 0x1fff00001fff [(29, 3, 0, 6), (61, 3, 0, 6)]⟩,
  ⟨0x0987, 12, 10, .u64, .rw, ⟨false, false, false, false, false⟩, 0x0, (some .ai), .flds 0x1fff00001fff [(29, 3, 0, 6), (61, 3, 0, 6)]⟩,
  ⟨0x0988, 12, 10, .u64, .rw, ⟨false, false, false, false, false⟩, 0x0, (some .ai), .flds 0x1fff00001fff [(29, 3, 0, 6), (61, 3, 0, 6)]⟩,
  ⟨0x0989, 12, 10, .u32, .ro, ⟨false, false, false, false, false⟩, 0x0, (some .ai), .any⟩,
  ⟨0x098a, 12, 10, .u64, .ro, ⟨false, false, false, false, false⟩, 0x0, (some .ai), .any⟩,
  ⟨0x098b, 12, 10, .u32, .ro, ⟨false, false, false, false, false⟩, 0x0, (some .ai), .any⟩,
  ⟨0x09f8, 1, 1, .u16, .w1s, ⟨false, true, false, false, false⟩, 0x0, (some .ai), .flds 0xff00 []⟩,
  ⟨0x09f9, 1, 1, .u16, .w1s, ⟨false, true, false, false, false⟩, 0x0, (some .ai), .flds 0xff00 []⟩,
  ⟨0x09fa, 1, 1, .u16, .w1s, ⟨false, true, false, false, false⟩, 0x0, (some .ai), .flds 0xff00 []⟩,
  ⟨0x09fb, 1, 1, .u16, .rw, ⟨false, true, true, false, false⟩, 0x0, (some .ai), .flds 0x0 [(8, 8, 0, 9), (0, 8, 0, 7)]⟩,
  ⟨0x09fc, 1, 1, .f32, .ro, ⟨false, false, false, false, false⟩, 0x0, (some .ai), .any⟩,
  ⟨0x09fd, 1, 1, .f32, .ro, ⟨false, false, false, false, false⟩, 0x0, (some .ai), .any⟩,
  ⟨0x09fe, 1, 1, .u32, .ro, ⟨false, false, false, false, false⟩, 0x0, (some .ai), .any⟩,
  ⟨0x09ff, 1, 1, .f32, .ro, ⟨false, false, false, false, false⟩, 0x0, (some .ai), .any⟩]

/-- Page 0x0A: AoShare, AoFallback, AoConfig, AoTrim, AoCommand, AoReadback, AoStatus, AoTerminal, HartConfig, AI, HartStatus, AI, HartConfig, AO, HartStatus, AO, AoDebounce, HartRetries, HartPreambles, HartTransactions, HartTimeouts, HartCommErrors, HartBurstFrames, HartPollSkips, StageTemperatureMax. -/
def paramPage0A : List ParamDef := [
  ⟨0x0a00, 8, 16, .u8, .rw, ⟨false, false, false, false, false⟩, 0x32, (some .ao), .rng 0 100⟩,
  ⟨0x0a01, 8, 16, .f32, .rw, ⟨false, true, false, false, false⟩, 0x40800000, (some .ao), .frng 0 1103101952⟩,
  ⟨0x0a02, 8, 16, .u32, .rw, ⟨false, true, false, false, false⟩, 0x0, (some .ao), .flds 0xfff0000 []⟩,
  ⟨0x0a03, 8, 16, .u64, .ro, ⟨false, false, false, false, false⟩, 0x0, (some .ao), .any⟩,
  ⟨0x0a04, 8, 16, .f32, .ro, ⟨false, false, false, false, false⟩, 0x0, (some .ao), .any⟩,
  ⟨0x0a05, 8, 16, .f32, .ro, ⟨false, false, false, false, false⟩, 0x0, (some .ao), .any⟩,
  ⟨0x0a06, 8, 16, .u32, .ro, ⟨false, false, false, false, false⟩, 0x0, (some .ao), .any⟩,
  ⟨0x0a07, 8, 16, .f32, .ro, ⟨false, false, false, false, false⟩, 0x0, (some .ao), .any⟩,
  ⟨0x0a80, 2, 32, .u32, .rw, ⟨false, true, false, false, false⟩, 0x0, (some .ai), .flds 0xffffff []⟩,
  ⟨0x0a81, 2, 32, .u32, .ro, ⟨false, false, false, false, false⟩, 0x0, (some .ai), .any⟩,
  ⟨0x0ac0, 2, 16, .u32, .rw, ⟨false, true, false, false, false⟩, 0x0, (some .ao), .flds 0xffffff []⟩,
  ⟨0x0ac1, 2, 16, .u32, .ro, ⟨false, false, false, false, false⟩, 0x0, (some .ao), .any⟩,
  ⟨0x0ae0, 1, 1, .u32, .rw, ⟨false, false, false, false, false⟩, 0x32, (some .ao), .rng 10 1000⟩,
  ⟨0x0ae1, 1, 1, .u8, .rw, ⟨false, false, false, false, false⟩, 0x2, (some .ai), .rng 0 3⟩,
  ⟨0x0ae2, 1, 1, .u8, .rw, ⟨false, false, false, false, false⟩, 0x5, (some .ai), .rng 5 20⟩,
  ⟨0x0ae3, 1, 1, .u64, .ro, ⟨false, false, false, false, false⟩, 0x0, (some .ai), .any⟩,
  ⟨0x0ae4, 1, 1, .u32, .ro, ⟨false, false, false, false, false⟩, 0x0, (some .ai), .any⟩,
  ⟨0x0ae5, 1, 1, .u32, .ro, ⟨false, false, false, false, false⟩, 0x0, (some .ai), .any⟩,
  ⟨0x0ae6, 1, 1, .u32, .ro, ⟨false, false, false, false, false⟩, 0x0, (some .ai), .any⟩,
  ⟨0x0ae7, 1, 1, .u32, .ro, ⟨false, false, false, false, false⟩, 0x0, (some .ai), .any⟩,
  ⟨0x0ae8, 1, 1, .f32, .ro, ⟨false, false, false, false, false⟩, 0x0, (some .ao), .any⟩]

/-- Page 0x0B: DiConfig, DiStatus, DiLastEdge, DoFallback, DoConfig, DoStatus, CallStatus, CallOnSeconds, CallFaultCount, AckConfig, AckStatus, AckLastEdge, AckEdgeCount, Fld1Voltage, Fld2Voltage, FieldStatus, DoRetryDelay, ReadbackDelay, WireBreakDelay, ChatterLimit, DoFaultClear, Vs1Voltage, Vs2Voltage. -/
def paramPage0B : List ParamDef := [
  ⟨0x0b00, 3, 32, .u32, .rw, ⟨false, true, false, false, false⟩, 0x1e1e0a, (some .dio), .flds 0x7f000000 [(0, 8, 1, 255), (16, 8, 1, 255)]⟩,
  ⟨0x0b01, 3, 32, .u32, .ro, ⟨false, false, false, false, false⟩, 0x0, (some .dio), .any⟩,
  ⟨0x0b02, 3, 32, .u64, .ro, ⟨false, false, false, false, false⟩, 0x0, (some .dio), .any⟩,
  ⟨0x0b60, 3, 32, .u8, .rw, ⟨false, true, false, false, false⟩, 0x0, (some .dio), .rng 0 1⟩,
  ⟨0x0b61, 3, 32, .u32, .rw, ⟨false, true, false, false, false⟩, 0x0, (some .dio), .flds 0x7f0000 [(29, 2, 0, 2), (27, 2, 0, 2)]⟩,
  ⟨0x0b62, 3, 32, .u32, .ro, ⟨false, false, false, false, false⟩, 0x0, (some .dio), .any⟩,
  ⟨0x0bc0, 4, 2, .u32, .ro, ⟨false, false, false, false, false⟩, 0x0, none, .any⟩,
  ⟨0x0bc1, 4, 2, .u32, .ro, ⟨false, false, false, false, false⟩, 0x0, none, .any⟩,
  ⟨0x0bc2, 4, 2, .u32, .ro, ⟨false, false, false, false, false⟩, 0x0, none, .any⟩,
  ⟨0x0bc8, 4, 4, .u32, .rw, ⟨false, true, false, false, false⟩, 0xa0a64, none, .flds 0x7f000000 [(0, 8, 1, 255), (16, 8, 1, 255)]⟩,
  ⟨0x0bc9, 4, 4, .u32, .ro, ⟨false, false, false, false, false⟩, 0x0, none, .any⟩,
  ⟨0x0bca, 4, 4, .u64, .ro, ⟨false, false, false, false, false⟩, 0x0, none, .any⟩,
  ⟨0x0bcb, 4, 4, .u32, .ro, ⟨false, false, false, false, false⟩, 0x0, none, .any⟩,
  ⟨0x0be0, 1, 1, .f32, .ro, ⟨false, false, false, false, false⟩, 0x0, (some .dio), .any⟩,
  ⟨0x0be1, 1, 1, .f32, .ro, ⟨false, false, false, false, false⟩, 0x0, (some .dio), .any⟩,
  ⟨0x0be2, 1, 1, .u8, .ro, ⟨false, false, false, false, false⟩, 0x0, (some .dio), .any⟩,
  ⟨0x0be3, 1, 1, .u32, .rw, ⟨false, true, false, false, false⟩, 0x3e8, (some .dio), .rng 10 60000⟩,
  ⟨0x0be4, 1, 1, .u32, .rw, ⟨false, true, false, false, false⟩, 0x5, (some .dio), .rng 1 1000⟩,
  ⟨0x0be5, 1, 1, .u32, .rw, ⟨false, true, false, false, false⟩, 0x64, (some .dio), .rng 10 10000⟩,
  ⟨0x0be6, 1, 1, .u16, .rw, ⟨false, true, false, false, false⟩, 0x64, (some .dio), .rng 2 10000⟩,
  ⟨0x0be7, 1, 1, .u32, .w1s, ⟨false, true, true, false, false⟩, 0x0, (some .dio), .any⟩,
  ⟨0x0be8, 1, 1, .f32, .ro, ⟨false, false, false, false, false⟩, 0x0, (some .dio), .any⟩,
  ⟨0x0be9, 1, 1, .f32, .ro, ⟨false, false, false, false, false⟩, 0x0, (some .dio), .any⟩]

/-- Page 0x0C: PortConfig, IpAddress, Netmask, Gateway, PortStatus, RxFrames, TxFrames, RxErrors, PrpDiscards, LinkDownCount, SvConfig, SvAddress, SvNetmask, SvStatus, PtpConfig, PtpIntervals, PtpOffset, PtpPathDelay, GrandmasterId, PtpPortState, StepsRemoved, UtcOffset, ServoPort, LanePeerOffset. -/
def paramPage0Ca : List ParamDef := [
  ⟨0x0c00, 32, 2, .u32, .rw, ⟨true, false, false, false, true⟩, 0x80000000, none, .flds 0x7ff8000 [(28, 2, 0, 2), (0, 12, 0, 4094)]⟩,
  ⟨0x0c01, 32, 2, .u32, .rw, ⟨true, false, false, false, true⟩, 0x0, none, .any⟩,
  ⟨0x0c02, 32, 2, .u32, .rw, ⟨true, false, false, false, true⟩, 0xffffff00, none, .any⟩,
  ⟨0x0c03, 32, 2, .u32, .rw, ⟨true, false, false, false, true⟩, 0x0, none, .any⟩,
  ⟨0x0c04, 32, 2, .u32, .ro, ⟨false, false, false, false, false⟩, 0x0, none, .any⟩,
  ⟨0x0c05, 32, 2, .u64, .ro, ⟨false, false, false, false, false⟩, 0x0, none, .any⟩,
  ⟨0x0c06, 32, 2, .u64, .ro, ⟨false, false, false, false, false⟩, 0x0, none, .any⟩,
  ⟨0x0c07, 32, 2, .u32, .ro, ⟨false, false, false, false, false⟩, 0x0, none, .any⟩,
  ⟨0x0c08, 32, 2, .u32, .ro, ⟨false, false, false, false, false⟩, 0x0, none, .any⟩,
  ⟨0x0c09, 32, 2, .u32, .ro, ⟨false, false, false, false, false⟩, 0x0, none, .any⟩,
  ⟨0x0c40, 1, 1, .u32, .rw, ⟨true, false, false, false, true⟩, 0x80000000, none, .flds 0x7fffffff []⟩,
  ⟨0x0c41, 1, 1, .u32, .rw, ⟨true, false, false, false, true⟩, 0xc0a8fe0a, none, .any⟩,
  ⟨0x0c42, 1, 1, .u32, .rw, ⟨true, false, false, false, true⟩, 0xffffff00, none, .any⟩,
  ⟨0x0c43, 1, 1, .u32, .ro, ⟨false, false, false, false, false⟩, 0x0, none, .any⟩,
  ⟨0x0c60, 1, 1, .u32, .rw, ⟨false, false, false, false, false⟩, 0x80008080, none, .flds 0xf000000 [(29, 2, 0, 1), (16, 8, 0, 127)]⟩,
  ⟨0x0c61, 1, 1, .u32, .rw, ⟨false, false, false, false, false⟩, 0x10003, none, .any⟩,
  ⟨0x0c62, 1, 1, .i64, .ro, ⟨false, false, false, false, false⟩, 0x0, none, .any⟩,
  ⟨0x0c63, 1, 1, .u32, .ro, ⟨false, false, false, false, false⟩, 0x0, none, .any⟩,
  ⟨0x0c64, 1, 1, .u64, .ro, ⟨false, false, false, false, false⟩, 0x0, none, .any⟩,
  ⟨0x0c65, 1, 1, .u16, .ro, ⟨false, false, false, false, false⟩, 0x0, none, .any⟩,
  ⟨0x0c66, 1, 1, .u16, .ro, ⟨false, false, false, false, false⟩, 0x0, none, .any⟩,
  ⟨0x0c67, 1, 1, .i16, .ro, ⟨false, false, false, false, false⟩, 0x0, none, .any⟩,
  ⟨0x0c68, 1, 1, .u8, .ro, ⟨false, false, false, false, false⟩, 0x0, none, .any⟩,
  ⟨0x0c69, 1, 1, .i32, .ro, ⟨false, false, false, false, false⟩, 0x0, none, .any⟩]

/-- Page 0x0C: JumpLimit, TimeNow, TimeIncrement, TimeState, PendingStep, SlewRemaining, StepCount, LastStepTime, IoMulticastGroup, AccessionRetry, InMaxAge, RioRevisions, StationsOnline, InputFramesAccepted, InputFramesDiscarded. -/
def paramPage0Cb : List ParamDef := [
  ⟨0x0ca0, 1, 1, .u32, .rw, ⟨false, true, false, false, false⟩, 0x3e8, none, .rng 1 1000000⟩,
  ⟨0x0ca1, 1, 1, .u64, .ro, ⟨false, false, false, false, false⟩, 0x0, none, .any⟩,
  ⟨0x0ca2, 1, 1, .u64, .ro, ⟨false, false, false, false, false⟩, 0x0, none, .any⟩,
  ⟨0x0ca3, 1, 1, .u8, .ro, ⟨false, false, false, false, false⟩, 0x0, none, .any⟩,
  ⟨0x0ca4, 1, 1, .i64, .ro, ⟨false, false, false, false, false⟩, 0x0, none, .any⟩,
  ⟨0x0ca5, 1, 1, .i32, .ro, ⟨false, false, false, false, false⟩, 0x0, none, .any⟩,
  ⟨0x0ca6, 1, 1, .u32, .ro, ⟨false, false, false, false, false⟩, 0x0, none, .any⟩,
  ⟨0x0ca7, 1, 1, .u64, .ro, ⟨false, false, false, false, false⟩, 0x0, none, .any⟩,
  ⟨0x0cc0, 1, 1, .u32, .rw, ⟨false, false, false, false, false⟩, 0xef2a0001, none, .rng 4009754624 4026531839⟩,
  ⟨0x0cc1, 1, 1, .u32, .rw, ⟨false, false, false, false, false⟩, 0x3e8, none, .rng 100 60000⟩,
  ⟨0x0cc2, 1, 1, .u32, .rw, ⟨false, false, false, false, false⟩, 0x7d0, none, .rng 100 1000000⟩,
  ⟨0x0cc3, 1, 1, .u16, .ro, ⟨false, false, false, false, false⟩, 0x0, none, .any⟩,
  ⟨0x0cc4, 1, 1, .u16, .ro, ⟨false, false, false, false, false⟩, 0x0, none, .any⟩,
  ⟨0x0cc5, 1, 1, .u64, .ro, ⟨false, false, false, false, false⟩, 0x0, none, .any⟩,
  ⟨0x0cc6, 1, 1, .u32, .ro, ⟨false, false, false, false, false⟩, 0x0, none, .any⟩]

/-- Page 0x0C. -/
def paramPage0C : List ParamDef := paramPage0Ca ++ paramPage0Cb

/-- Page 0x0D: CanControl, NominalTiming, DataTiming, TdcConfig, TxTimeout, CanStatus, NominalRate, DataRate, CanRxFrames, CanTxFrames, RxUnmatched, RxOverflowCount, TxFailCount, BusOffCount, TxReplacedCount, PendingMask. -/
def paramPage0D : List ParamDef := [
  ⟨0x0d00, 32, 4, .u32, .rw, ⟨false, false, false, false, false⟩, 0x0, none, .flds 0x1fffffff []⟩,
  ⟨0x0d01, 32, 4, .u32, .rw, ⟨false, false, false, false, false⟩, 0x2631919, none, .flds 0x0 [(24, 8, 1, 32), (16, 8, 2, 255), (8, 8, 1, 128)]⟩,
  ⟨0x0d02, 32, 4, .u32, .rw, ⟨false, false, false, false, false⟩, 0x1270a0a, none, .flds 0x0 [(24, 8, 1, 32), (16, 8, 1, 63), (8, 8, 1, 32)]⟩,
  ⟨0x0d03, 32, 4, .u32, .rw, ⟨false, false, false, false, false⟩, 0x80280000, none, .flds 0x7f00ffff [(16, 8, 0, 127)]⟩,
  ⟨0x0d04, 32, 4, .u32, .rw, ⟨false, false, false, false, false⟩, 0x3e8, none, .rng 10 60000⟩,
  ⟨0x0d05, 32, 4, .u32, .ro, ⟨false, false, false, false, false⟩, 0x0, none, .any⟩,
  ⟨0x0d06, 32, 4, .u32, .ro, ⟨false, false, false, false, false⟩, 0x0, none, .any⟩,
  ⟨0x0d07, 32, 4, .u32, .ro, ⟨false, false, false, false, false⟩, 0x0, none, .any⟩,
  ⟨0x0d08, 32, 4, .u64, .ro, ⟨false, false, false, false, false⟩, 0x0, none, .any⟩,
  ⟨0x0d09, 32, 4, .u64, .ro, ⟨false, false, false, false, false⟩, 0x0, none, .any⟩,
  ⟨0x0d0a, 32, 4, .u32, .ro, ⟨false, false, false, false, false⟩, 0x0, none, .any⟩,
  ⟨0x0d0b, 32, 4, .u32, .ro, ⟨false, false, false, false, false⟩, 0x0, none, .any⟩,
  ⟨0x0d0c, 32, 4, .u32, .ro, ⟨false, false, false, false, false⟩, 0x0, none, .any⟩,
  ⟨0x0d0d, 32, 4, .u32, .ro, ⟨false, false, false, false, false⟩, 0x0, none, .any⟩,
  ⟨0x0d0e, 32, 4, .u32, .ro, ⟨false, false, false, false, false⟩, 0x0, none, .any⟩,
  ⟨0x0d0f, 32, 4, .u64, .ro, ⟨false, false, false, false, false⟩, 0x0, none, .any⟩]

/-- Page 0x0E: SegConfig, RegionControl, RegionStatus, RegionUpdates, RegionSuperseded, RegionLastDone, PanelEnable, PanelTempPoint, BandLowest, BandWidth, BandHysteresis, PanelDefaultBand, PanelBand, PanelTemperature, PanelBlinkEnable, BlinkHalf, RailStatus, SegShown, SegUnknown, PanelWearLimit, PanelWearSelect, PanelWearCount, PanelWearMax. -/
def paramPage0E : List ParamDef := [
  ⟨0x0e00, 1, 128, .u64, .rw, ⟨false, true, false, false, false⟩, 0x0, (some .pnl), .flds 0x3fffff00000000 [(56, 2, 0, 2), (54, 2, 0, 1)]⟩,
  ⟨0x0e80, 8, 8, .u32, .rw, ⟨false, true, false, false, false⟩, 0x80000000, (some .pnl), .flds 0x7fffffff []⟩,
  ⟨0x0e81, 8, 8, .u32, .ro, ⟨false, false, false, false, false⟩, 0x0, (some .pnl), .any⟩,
  ⟨0x0e82, 8, 8, .u32, .ro, ⟨false, false, false, false, false⟩, 0x0, (some .pnl), .any⟩,
  ⟨0x0e83, 8, 8, .u32, .ro, ⟨false, false, false, false, false⟩, 0x0, (some .pnl), .any⟩,
  ⟨0x0e84, 8, 8, .u64, .ro, ⟨false, false, false, false, false⟩, 0x0, (some .pnl), .any⟩,
  ⟨0x0ec0, 1, 1, .u8, .rw, ⟨false, true, false, false, false⟩, 0x0, (some .pnl), .rng 0 1⟩,
  ⟨0x0ec1, 1, 1, .u16, .rw, ⟨false, true, false, false, false⟩, 0xffff, (some .pnl), .rngOr 0 24575 65535⟩,
  ⟨0x0ec2, 1, 1, .f32, .rw, ⟨false, true, false, false, false⟩, 0xc1a00000, (some .pnl), .frng 3262119936 1114636288⟩,
  ⟨0x0ec3, 1, 1, .f32, .rw, ⟨false, true, false, false, false⟩, 0x40a00000, (some .pnl), .frng 1065353216 1101004800⟩,
  ⟨0x0ec4, 1, 1, .f32, .rw, ⟨false, true, false, false, false⟩, 0x3f800000, (some .pnl), .frng 0 1101004800⟩,
  ⟨0x0ec5, 1, 1, .u8, .rw, ⟨false, true, false, false, false⟩, 0x8, (some .pnl), .rng 0 15⟩,
  ⟨0x0ec6, 1, 1, .u8, .ro, ⟨false, false, false, false, false⟩, 0x0, (some .pnl), .any⟩,
  ⟨0x0ec7, 1, 1, .f32, .ro, ⟨false, false, false, false, false⟩, 0x0, (some .pnl), .any⟩,
  ⟨0x0ec8, 1, 1, .u8, .rw, ⟨false, true, false, false, false⟩, 0x1, (some .pnl), .rng 0 1⟩,
  ⟨0x0ec9, 1, 1, .u16, .rw, ⟨false, true, false, false, false⟩, 0x1f4, (some .pnl), .mul 100 5000 20⟩,
  ⟨0x0eca, 1, 1, .u32, .ro, ⟨false, false, false, false, false⟩, 0x0, (some .pnl), .any⟩,
  ⟨0x0ecb, 1, 4, .u32, .ro, ⟨false, false, false, false, false⟩, 0x0, (some .pnl), .any⟩,
  ⟨0x0ecf, 1, 4, .u32, .ro, ⟨false, false, false, false, false⟩, 0x0, (some .pnl), .any⟩,
  ⟨0x0ed3, 1, 1, .u32, .rw, ⟨false, true, false, false, false⟩, 0x989680, (some .pnl), .rng 100000 100000000⟩,
  ⟨0x0ed4, 1, 1, .u8, .rw, ⟨false, true, true, false, false⟩, 0x0, (some .pnl), .rng 0 127⟩,
  ⟨0x0ed5, 1, 1, .u64, .ro, ⟨false, false, false, false, false⟩, 0x0, (some .pnl), .any⟩,
  ⟨0x0ed6, 1, 1, .u64, .ro, ⟨false, false, false, false, false⟩, 0x0, (some .pnl), .any⟩]

/-- Page 0x0F: FwSlotState, FwSlotInfo, FwSlotDigest, UpdateSlot, UpdateNextOffset, UpdateSession, UpdateRefuseCause, ActivationCount, LastActivationHold, LastActivationResult, RollbackCount, BootFallbackCount, ArchiveNext, ArchiveFlashed, ArchiveOldest, ArchiveHeadUsed, ArchiveTailWraps, ArchiveTailCapacity, ArchiveHeadLost, ArchiveStageDepth, ArchiveRateDrops, ArchiveLostCount, ArchiveRebuildCount, LastPowerDownTime. -/
def paramPage0Fa : List ParamDef := [
  ⟨0x0f00, 1, 2, .u32, .ro, ⟨false, false, false, false, false⟩, 0x0, none, .any⟩,
  ⟨0x0f02, 1, 2, .u64, .ro, ⟨false, false, false, false, false⟩, 0x0, none, .any⟩,
  ⟨0x0f04, 1, 2, .u64, .ro, ⟨false, false, false, false, false⟩, 0x0, none, .any⟩,
  ⟨0x0f06, 1, 1, .u8, .ro, ⟨false, false, false, false, false⟩, 0x0, none, .any⟩,
  ⟨0x0f07, 1, 1, .u32, .ro, ⟨false, false, false, false, false⟩, 0x0, none, .any⟩,
  ⟨0x0f08, 1, 1, .u32, .ro, ⟨false, false, false, false, false⟩, 0x0, none, .any⟩,
  ⟨0x0f09, 1, 1, .u8, .ro, ⟨false, false, false, false, false⟩, 0x0, none, .any⟩,
  ⟨0x0f0a, 1, 1, .u32, .ro, ⟨false, false, false, false, false⟩, 0x0, none, .any⟩,
  ⟨0x0f0b, 1, 1, .u32, .ro, ⟨false, false, false, false, false⟩, 0x0, none, .any⟩,
  ⟨0x0f0c, 1, 1, .u8, .ro, ⟨false, false, false, false, false⟩, 0x0, none, .any⟩,
  ⟨0x0f0d, 1, 1, .u32, .ro, ⟨false, false, false, false, false⟩, 0x0, none, .any⟩,
  ⟨0x0f0e, 1, 1, .u32, .ro, ⟨false, false, false, false, false⟩, 0x0, none, .any⟩,
  ⟨0x0f40, 1, 1, .u64, .ro, ⟨false, false, false, false, false⟩, 0x0, none, .any⟩,
  ⟨0x0f41, 1, 1, .u64, .ro, ⟨false, false, false, false, false⟩, 0x0, none, .any⟩,
  ⟨0x0f42, 1, 1, .u64, .ro, ⟨false, false, false, false, false⟩, 0x0, none, .any⟩,
  ⟨0x0f43, 1, 1, .u32, .ro, ⟨false, false, false, false, false⟩, 0x0, none, .any⟩,
  ⟨0x0f44, 1, 1, .u32, .ro, ⟨false, false, false, false, false⟩, 0x0, none, .any⟩,
  ⟨0x0f45, 1, 1, .u32, .ro, ⟨false, false, false, false, false⟩, 0x0, none, .any⟩,
  ⟨0x0f46, 1, 1, .u32, .ro, ⟨false, false, false, false, false⟩, 0x0, none, .any⟩,
  ⟨0x0f47, 1, 1, .u16, .ro, ⟨false, false, false, false, false⟩, 0x0, none, .any⟩,
  ⟨0x0f48, 1, 1, .u32, .ro, ⟨false, false, false, false, false⟩, 0x0, none, .any⟩,
  ⟨0x0f49, 1, 1, .u32, .ro, ⟨false, false, false, false, false⟩, 0x0, none, .any⟩,
  ⟨0x0f4a, 1, 1, .u32, .ro, ⟨false, false, false, false, false⟩, 0x0, none, .any⟩,
  ⟨0x0f4b, 1, 1, .u64, .ro, ⟨false, false, false, false, false⟩, 0x0, none, .any⟩]

/-- Page 0x0F: TrendEnable, TrendRecordsWritten, TrendOldestTime, EventClass. -/
def paramPage0Fb : List ParamDef := [
  ⟨0x0f60, 1, 1, .u8, .rw, ⟨false, true, false, false, false⟩, 0x0, none, .rng 0 1⟩,
  ⟨0x0f61, 1, 1, .u64, .ro, ⟨false, false, false, false, false⟩, 0x0, none, .any⟩,
  ⟨0x0f62, 1, 1, .u64, .ro, ⟨false, false, false, false, false⟩, 0x0, none, .any⟩,
  ⟨0x0f80, 1, 64, .u32, .rw, ⟨false, true, false, false, false⟩, 0x0, none, .flds 0xc0c0c0c0 []⟩]

/-- Page 0x0F. -/
def paramPage0F : List ParamDef := paramPage0Fa ++ paramPage0Fb
/-- The parameters of one page (R98). -/
def pageParams : Nat → List ParamDef
  | 0x00 => paramPage00 | 0x01 => paramPage01 | 0x02 => paramPage02 | 0x03 => paramPage03
  | 0x04 => paramPage04 | 0x05 => paramPage05 | 0x06 => paramPage06 | 0x07 => paramPage07
  | 0x08 => paramPage08 | 0x09 => paramPage09 | 0x0A => paramPage0A | 0x0B => paramPage0B
  | 0x0C => paramPage0C | 0x0D => paramPage0D | 0x0E => paramPage0E | 0x0F => paramPage0F
  | _ => []

/-- Does the row define index `i` (R101)? -/
def ParamDef.covers (d : ParamDef) (i : Nat) : Bool :=
  d.base ≤ i && (i - d.base) % d.stride == 0 && (i - d.base) / d.stride < d.count

/-- The row of index `i` (R98: none for an index that no table defines). -/
def paramDef (i : Nat) : Option ParamDef := (pageParams (i / 256)).find? (·.covers i)

/-- The element of an array block that index `i` of row `d` belongs to (R101). -/
def ParamDef.elem (d : ParamDef) (i : Nat) : Nat := (i - d.base) / d.stride

/-- The unit a whole block of the page map belongs to (R101, R103): every index in it answers NOT_PRESENT while the unit is
absent. -/
def blockUnit (i : Nat) : Option OptUnit :=
  if 0x0400 ≤ i ∧ i ≤ 0x04BF then some .phs
  else if 0x0900 ≤ i ∧ i ≤ 0x09FF then some .ai
  else if 0x0A00 ≤ i ∧ i ≤ 0x0A7F then some .ao
  else if 0x0A80 ≤ i ∧ i ≤ 0x0ABF then some .ai
  else if 0x0AC0 ≤ i ∧ i ≤ 0x0ADF then some .ao
  else if 0x0B00 ≤ i ∧ i ≤ 0x0BBF then some .dio
  else if 0x0BE0 ≤ i ∧ i ≤ 0x0BFF then some .dio
  else if 0x0E00 ≤ i ∧ i ≤ 0x0EDF then some .pnl
  else (paramDef i).bind (·.unit)

/-- The option units of a variant (R4). -/
def hasUnit (variant : Nat) : OptUnit → Bool
  | .ai => variant == 40 || variant == 70 || variant == 90
  | .ao => variant == 70 || variant == 90
  | .dio => variant == 40 || variant == 70 || variant == 90
  | .phs => variant == 70 || variant == 90
  | .pnl => variant == 40 || variant == 90
  | .dbg => variant == 90

/-- OptionMask of a variant (R6). -/
def optionMask (variant : Nat) : Nat :=
  b2n (hasUnit variant .ai) + 2 * b2n (hasUnit variant .ao) + 4 * b2n (hasUnit variant .dio) +
  8 * b2n (hasUnit variant .phs) + 16 * b2n (hasUnit variant .pnl) + 32 * b2n (hasUnit variant .dbg)

/-- Default budget of a requester (R351). -/
def budgetDefault (q : Nat) : Nat :=
  if q < 8 then 2000 else if q < 10 then 0 else
  [2000, 1500, 2500, 6000, 1000, 500, 2000, 500].getD (q - 10) 0

/-- Default priority of a requester (R351). -/
def priorityDefault (q : Nat) : Nat :=
  if q < 10 then 5 else [3, 2, 1, 0, 4, 7, 6, 15].getD (q - 10) 15

/-- Default trigger class of an event: the position of its group in the event map (R115, R119). -/
def eventClassDefault (k : Nat) : Nat :=
  if k < 160 then k / 32 else if k < 176 then 5 else if k < 192 then 6 else if k < 208 then 7
  else if k < 224 then 8 else if k < 232 then 9 else if k < 240 then 10 else 11

/-- The default of parameter `i` in carrier slot `slot` (the parameter tables; where a row gives one default per element, that
one). -/
def paramDefault (slot i : Nat) : Nat :=
  match paramDef i with
  | none => 0
  | some d =>
    let n := d.elem i
    if d.base = 0x0C00 then (if n = 0 then 0xC0000000 else 0x80000000)
    else if d.base = 0x0C41 then (if slot = 1 then 0xC0A8FE0B else 0xC0A8FE0A)
    else if d.base = 0x0680 then (if n = 3 then 0 else 0x80000000)
    else if d.base = 0x0860 then budgetDefault n
    else if d.base = 0x0861 then priorityDefault n
    else if d.base = 0x0F80 then
      (List.range 4).foldr (fun j a => eventClassDefault (4 * n + j) * 2 ^ (8 * j) + a) 0
    else d.dflt

/-- The bits of a parameter that no write may set: reserved bits (R16). -/
def Chk.reserved : Chk → Nat
  | .flds r _ => r
  | _ => 0

/-- The value checks of one parameter on its own (R16, R99). -/
def ParamDef.inRange (d : ParamDef) (v : Nat) : Bool :=
  match d.chk with
  | .any => d.ty != .f32 || fisFin fmt32 v
  | .rng lo hi => decide (lo ≤ v ∧ v ≤ hi)
  | .mul lo hi m => decide (lo ≤ v ∧ v ≤ hi ∧ v % m = 0)
  | .rngOr lo hi o => decide ((lo ≤ v ∧ v ≤ hi) ∨ v = o)
  | .oneOf a b c => decide (v = a ∨ v = b ∨ v = c)
  | .frng lo hi => fisFin fmt32 v && fle fmt32 lo v && fle fmt32 v hi
  | .flds _ fs => fs.all (fun (lo, w, mn, mx) => decide (mn ≤ bits v lo w ∧ bits v lo w ≤ mx))

end Sys2Proof.Machine
end

