-- ==== Sys2Proof/Machine/Tables.lean ====
section
/-!
DEFINITION. The tables of TABLE_READ and TABLE_WRITE (R106): their sizes, the units they belong to, the reset value of an
entry and the fields a write does not change.
-/
namespace Sys2Proof.Machine

/-- One row of R106. -/
structure TableDef where
  id : Nat
  entries : Nat
  size : Nat
  live : Bool
deriving DecidableEq, Repr

/-- The tables (R106). The force list takes no write (R107); of the slot tables the shadow half is live. -/
def tableDefs : List TableDef := [
  ⟨0x0001, 16384, 64, true⟩, ⟨0x0002, 512, 32, true⟩, ⟨0x0003, 2048, 128, true⟩, ⟨0x0004, 1024, 16, true⟩,
  ⟨0x0005, 1536, 16, false⟩, ⟨0x0006, 256, 8, true⟩, ⟨0x0007, 64, 32, true⟩, ⟨0x0008, 3072, 16, false⟩,
  ⟨0x0009, 64, 72, true⟩, ⟨0x000A, 1024, 16, false⟩, ⟨0x000B, 250, 32, false⟩, ⟨0x000C, 768, 16, true⟩,
  ⟨0x000D, 512, 16, false⟩, ⟨0x000E, 256, 16, true⟩]

/-- The row of a table identifier. -/
def tableDef (t : Nat) : Option TableDef := tableDefs.find? (·.id == t)

/-- The key of an entry in an image. -/
def tkey (t n : Nat) : Nat := t * 2 ^ 20 + n

/-- The unit a table entry belongs to (R107): the catalogue to PHS, the waveforms to PNL, a HART poll-list entry to the unit
of its modem. -/
def tableUnit (t n : Nat) : Option OptUnit :=
  if t = 0x0004 then some .phs
  else if t = 0x0007 then some .pnl
  else if t = 0x000C then (if n / 16 < 32 then some .ai else some .ao)
  else none

/-- An entry image with fields (byte offset, bytes, value). -/
def mkEntry (fs : List (Nat × Nat × Nat)) : Nat :=
  fs.foldl (fun e (off, _, v) => e + v * 2 ^ (8 * off)) 0

/-- The default slot table (R353): unit and first slot, ascending; a slot's entry is Unit in byte 0 and Sub in byte 1 (R352). -/
def defaultSlot (k : Nat) : Nat :=
  if k < 8 then 1 + 256 * k
  else if k < 12 then 2 + 256 * (k - 8)
  else if k < 44 then 3 + 256 * (k - 12)
  else if k < 68 then 4 + 256 * (k - 44)
  else if k < 84 then 5 + 256 * (k - 68)
  else if k < 92 then 6 + 256 * (k - 84)
  else if k < 100 then 7 + 256 * (k - 92)
  else 0

/-- The reset value of an entry (the layout tables of the owning chapters). -/
def resetEntry (t n : Nat) : Nat :=
  if t = 0x0001 then mkEntry [(0x1C, 4, 100)]
  else if t = 0x0002 then mkEntry [(0x0C, 2, 0xFFFF)]
  else if t = 0x0003 then mkEntry [(0x06, 2, 0xFFFF), (0x34, 4, 0x3F800000)]
  else if t = 0x0005 then mkEntry [(0x0A, 1, 16)]
  else if t = 0x0006 then defaultSlot (n % 128)
  else if t = 0x000C then mkEntry [(0x04, 4, 1000)]
  else if t = 0x0009 then mkEntry [(2, 2, 100)]
  else if t = 0x000B then mkEntry [(0x18, 2, 4), (0x1A, 2, 20)]
  else if t = 0x000E then mkEntry [(8, 4, 1000)]
  else 0

end Sys2Proof.Machine
end

