-- ==== Sys2Proof/Machine/Eff.lean ====
section
/-!
DEFINITION. Reading the state: modes and roles as numbers, time, and the effective set of parameters and tables (R48, R51,
R58, R550).
-/
namespace Sys2Proof.Machine

/-- The mode number n of Mn (R35). -/
def Mode.num : Mode → Nat
  | .m0 => 0 | .m1 => 1 | .m2 => 2 | .m3 => 3 | .m4 => 4 | .m5 => 5
  | .m6 => 6 | .m7 => 7 | .m8 => 8 | .m9 => 9 | .m10 => 10 | .m11 => 11

/-- The mode of a number. -/
def Mode.ofNum : Nat → Mode
  | 0 => .m0 | 1 => .m1 | 2 => .m2 | 3 => .m3 | 4 => .m4 | 5 => .m5
  | 6 => .m6 | 7 => .m7 | 8 => .m8 | 9 => .m9 | 10 => .m10 | _ => .m11

/-- The encoding of the parameter Role (R45). -/
def Role.num : Role → Nat
  | .none => 0 | .primary => 1 | .standby => 2 | .isolated => 3 | .solo => 4

/-- The role of a number. -/
def Role.ofNum : Nat → Role
  | 1 => .primary | 2 => .standby | 3 => .isolated | 4 => .solo | _ => .none

/-- The run modes (R35). -/
def Mode.isRun : Mode → Bool
  | .m4 => true | .m5 => true | .m6 => true | .m8 => true | _ => false

/-- The present mode. -/
def State.mode (s : State) : Mode := s.mu.mode
/-- The present role. -/
def State.role (s : State) : Role := s.mu.role
/-- The time-base value in ns (R445). -/
def State.now (s : State) : Nat := s.clk.tb
/-- Ticks that have passed (R445). -/
def State.tick (s : State) : Nat := s.clk.ticks
/-- Is an option unit present (R4)? -/
def State.has (s : State) (u : OptUnit) : Bool := hasUnit s.ident.variant u

/-- Is the unit of parameter index `i` absent (R7, R101)? -/
def State.absentIdx (s : State) (i : Nat) : Bool :=
  match blockUnit i with
  | none => false
  | some u => !s.has u

/-- The value of TimeIncrement, 2^-32 ns (R446): 8 ns, the servo's correction, and ±500 ppm while a slew is in progress
(R451). -/
def slewStep : Nat := 17179869

/-- The slew part of the increment. -/
def Clk.slewNow (c : Clk) : Int :=
  if c.slewing && decide (c.slewRem ≠ 0) then (if c.slewRem < 0 then -(slewStep : Int) else slewStep) else 0

/-- TimeIncrement (R446, R455). -/
def Clk.increment (c : Clk) : Nat := (8 * 2 ^ 32 + c.adj + c.slewNow).toNat

/-- Has the time-base value passed a whole multiple of `p` ns in this tick (R445)? -/
def State.onGrid (s : State) (p : Nat) : Bool :=
  p != 0 && decide ((s.clk.tb * 2 ^ 32 + s.clk.frac) % (p * 2 ^ 32) < s.clk.increment)

/-- The instant of the grid of `p` ns at or before now. -/
def State.gridInstant (s : State) (p : Nat) : Nat := s.clk.tb / p * p

/-- The first I/O bus frame boundary at or after `t` (R27). -/
def frameAtOrAfter (t : Nat) : Nat := (t + Config.frameNs - 1) / Config.frameNs * Config.frameNs

/-- The first I/O bus frame boundary after `t`. -/
def frameAfter (t : Nat) : Nat := (t / Config.frameNs + 1) * Config.frameNs

/-- Is this the tick of an I/O bus frame boundary (R27)? -/
def State.atFrame (s : State) : Bool := s.onGrid Config.frameNs

/-- Have `d` ticks passed since tick `t`? -/
def State.since (s : State) (t d : Nat) : Bool := decide (t + d ≤ s.clk.ticks)

/-- Element `k` of a sparse array whose default the key decides. -/
def tlook {α : Type} : Tab α → Nat → Option α
  | [], _ => none
  | (i, a) :: t, k => if k = i then some a else tlook t k

/-- Parameter `i` of an image, for the module's own slot. -/
def Image.param (img : Image) (slot i : Nat) : Nat := (tlook img.params i).getD (paramDefault slot i)

/-- The image with parameter `i` set. -/
def Image.setParam (img : Image) (slot i v : Nat) : Image :=
  { img with params := if v = paramDefault slot i then tdel img.params i else tput img.params i v }

/-- Entry `n` of table `t` of an image. -/
def Image.entry (img : Image) (t n : Nat) : Nat := (tlook img.tables (tkey t n)).getD (resetEntry t n)

/-- The image with entry `n` of table `t` set. -/
def Image.setEntry (img : Image) (t n v : Nat) : Image :=
  { img with tables :=
      if v = resetEntry t n then tdel img.tables (tkey t n) else tput img.tables (tkey t n) v }

/-- The entries of table `t` that differ from their reset value, as (number, image). -/
def Image.listed (img : Image) (t : Nat) : List (Nat × Nat) :=
  img.tables.filterMap (fun (k, v) => if k / 2 ^ 20 = t then some (k % 2 ^ 20, v) else none)

/-- The overlay entries of mode m that set a value: (entry number, index, length, value) (R56). -/
def Image.overlay (img : Image) (m : Nat) : List (Nat × Nat × Nat × Nat) :=
  (img.listed 0x0008).filterMap (fun (n, e) =>
    if n / 256 = m ∧ fld e 2 0 8 ≠ 0 then some (n, fld e 0 0 16, fld e 2 0 8, fld e 8 0 64) else none)

/-- The value the overlay of mode m gives parameter `i`, if it names it (R58). -/
def Image.overlayOf (img : Image) (m i : Nat) : Option Nat :=
  ((img.overlay m).find? (fun (_, j, _, _) => j == i)).map (fun (_, _, _, v) => v)

/-- The effective value of parameter `i` in mode m on an image: the overlay's where it names the parameter, the base value
otherwise (R58). -/
def Image.effective (img : Image) (slot m i : Nat) : Nat :=
  (img.overlayOf m i).getD (img.param slot i)

/-- The effective value of a configurable parameter (R48, R51, R58); its default while no configuration is loaded (R550). -/
def State.eff (s : State) (i : Nat) : Nat :=
  if s.cfg.loaded then s.cfg.base.effective s.mu.slot s.mode.num i else paramDefault s.mu.slot i

/-- The entry in effect of a table (R48, R51); its reset value while no configuration is loaded (R550). -/
def State.entry (s : State) (t n : Nat) : Nat :=
  if s.cfg.loaded then s.cfg.base.entry t n else resetEntry t n

/-- The entries in effect of a table that differ from their reset value. -/
def State.entries (s : State) (t : Nat) : List (Nat × Nat) :=
  if s.cfg.loaded then s.cfg.base.listed t else []

/-- The effective value of a binary32 parameter as binary64. -/
def State.effF (s : State) (i : Nat) : Nat := f32to64 (s.eff i)

end Sys2Proof.Machine
end

