-- ==== Sys2Proof/Machine/View.lean ====
section
/-!
DEFINITION. Readings of the state that several chapters and the read-only parameters share: tasks and pairs, outputs and shares,
resources, converters, who leads, the panel and the budgets. None of them changes anything.
-/
namespace Sys2Proof.Machine

/-- One task. -/
def State.task (s : State) (n : Nat) : Task := tget s.tk.task n {}

/-- TaskControl of a task (R125). -/
def State.taskCtl (s : State) (n : Nat) : Nat := s.eff (0x0300 + 6 * n)

/-- Enable (R125). -/
def State.taskOn (s : State) (n : Nat) : Bool := bit (s.taskCtl n) 31

/-- The force slot that holds a point (R151). -/
def State.forceSlot (s : State) (kind p : Nat) : Option Nat :=
  (s.tk.forces.find? (fun (_, f) => f.kind == kind && f.point == p)).map Prod.fst

/-- ForceCount (R126): the entries of the force list that have not been cleared. -/
def State.forceCount (s : State) : Nat := (s.tk.forces.filter (fun x => !x.2.ending)).length

/-- The point the running program declares for a producer (R121). -/
def Program.pointOf (p : Program) (kind producer : Nat) (binary : Bool) : Option Nat :=
  (p.points.find? (fun d => d.kind == kind && d.producer == producer && d.binary == binary)).map (·.point)

/-- The module is the lead: PRIMARY or SOLO (R255). -/
def State.lead (s : State) : Bool := s.role == .primary || s.role == .solo || (s.role == .standby && s.pair.gone)

/-- The open cycle of a task. -/
def State.cyc (s : State) (n : Nat) : Option Cycle := (s.task n).cyc

/-- CadenceKind (R125). -/
def State.cadence (s : State) (n : Nat) : Nat := bits (s.taskCtl n) 16 2

/-- The physical pair that runs a task (R125, R320). -/
def State.taskPair (s : State) (n : Nat) : Nat :=
  let p := bits (s.taskCtl n) 20 4
  s.annex.pairRemap.getD p p

/-- One core pair. -/
def State.corePair (s : State) (p : Nat) : CorePair := tget s.lk.pair p {}

/-- The task runs on a split or a broken pair (R126, R303, R307). -/
def State.unverified (s : State) (n : Nat) : Bool :=
  let r := (s.corePair (s.taskPair n)).room
  s.taskOn n && (r == 2 || r == 3)

/-- ColourKeys of a context as loaded (R335, R346). -/
def State.ctxKeys (s : State) (c : Nat) : Nat := (tlook s.prot.keys c).getD (s.eff (0x0800 + 4 * c))

/-- Is at least one sync lane up (R258)? -/
def State.laneUp (s : State) : Bool := s.pair.sl0.up || s.pair.sl1.up

/-- A decimal constant as binary32. -/
def f32 (n : Int) (d : Nat) : Nat := ofRatio fmt32 n d

/-- A decimal constant as binary64. -/
def f64 (n : Int) (d : Nat) : Nat := ofRatio fmt64 n d

/-- One loop output. -/
def State.aoChan (s : State) (n : Nat) : AoChan := tget s.ao.chan n {}

/-- AoConfig (R391). -/
def State.aoConfig (s : State) (n : Nat) : Nat := s.eff (0x0A02 + 8 * n)

/-- Enable (R391). -/
def State.aoOn (s : State) (n : Nat) : Bool := s.has .ao && bit (s.aoConfig n) 31

/-- A command clamped to the range of R389. -/
def aoClamp (ne43 : Bool) (v : Nat) : Nat :=
  let lo := if ne43 then f32 38 10 else 0
  let hi := if ne43 then f32 205 10 else f32 24 1
  if flt fmt32 v lo then lo else if flt fmt32 hi v then hi else v

/-- FAULT_LEVEL: with Ne43 1 a Source 0 command that is no number or whose task is stopped (R389). -/
def State.aoFaulted (s : State) (n : Nat) : Bool :=
  (s.aoChan n).bad && bit (s.aoConfig n) 29 && !bit (s.aoConfig n) 30 && s.mode != .m3

/-- The command in effect after R389 (R43, R387): in M3 the effective fallback, elsewhere the last command within its range, or the fault
level. -/
def State.aoCommand (s : State) (n : Nat) : Nat :=
  let c := s.aoConfig n
  if s.mode = .m3 then s.eff (0x0A01 + 8 * n)
  else if s.aoFaulted n then (if bit c 28 then f32 21 1 else f32 36 10)
  else if (s.aoChan n).held then (s.aoChan n).cmd
  else aoClamp (bit c 29) (s.aoChan n).cmd

/-- AoShare in effect (R390). -/
def State.aoShare (s : State) (n : Nat) : Nat := s.eff (0x0A00 + 8 * n)

/-- S, the share in use (R388). -/
def State.shareInUse (s : State) (n : Nat) : Nat :=
  match s.mode with
  | .m3 => s.ao.m3share
  | .m4 | .m5 =>
    if s.ao.dropped || s.role == .isolated then 0
    else if s.ao.raised || s.pair.loneAo then 100 else s.aoShare n
  | .m6 | .m8 => if s.ao.dropped then 0 else if s.ao.raised then 100 else s.aoShare n
  | .m7 | .m9 => if s.role == .solo && !s.ao.dropped then s.aoShare n else 0
  | _ => 0

/-- One input: DI00–DI31, ACK0–ACK3 as 32–35. -/
def State.din (s : State) (n : Nat) : Input := tget s.dio.inp n {}

/-- One switch: DO00–DO31, CALL0 and CALL1 as 32, 33. -/
def State.sw (s : State) (m : Nat) : Switch := tget s.dio.sw m {}

/-- DoConfig (R426). -/
def State.doConfig (s : State) (m : Nat) : Nat := s.eff (0x0B61 + 3 * m)

/-- Enable (R426). -/
def State.doOn (s : State) (m : Nat) : Bool := s.has .dio && bit (s.doConfig m) 31

/-- Source (R420). -/
def State.doSource (s : State) (m : Nat) : Nat := bits (s.doConfig m) 29 2

/-- DoFallback in effect (R425). -/
def State.doFallback (s : State) (m : Nat) : Bool := s.eff (0x0B60 + 3 * m) == 1

/-- The ladder drives the call lines and the outputs of Source 2 (R43): in M2 and M10 where a configuration is loaded, and from
M3 to M9. -/
def State.ladderDrives (s : State) : Bool :=
  match s.mode with
  | .m0 | .m1 | .m11 => false
  | .m2 | .m10 => s.cfg.loaded
  | _ => true

/-- A forced point of a DO that the catalogue drives (R185). -/
def State.doForced (s : State) (m : Nat) : Option Bool :=
  match s.tk.prog.pointOf 6 (0x0200 + m) true with
  | none => none
  | some p =>
    match s.forceSlot 2 p with
    | none => none
    | some k =>
      let f := tget s.tk.forces k {}
      if f.under.isSome then some (f.value != 0) else none

/-- The own command of an output in the present mode (R43, R44, R420). A departing module's alarm engine stops at F, so its
Source 2 outputs go off too (R278); a withdrawn one's follow the ladder (R42). -/
def State.doCommand (s : State) (m : Nat) : Bool :=
  if !s.doOn m then false
  else if s.doSource m = 2 then s.ladderDrives && (s.sw m).cmd && !s.ao.dropped
  else
    let src := if s.doSource m = 1 then (s.doForced m).getD (s.sw m).cmd else (s.sw m).cmd
    match s.mode with
    | .m3 => s.dio.m3drive && s.doFallback m
    | .m4 | .m5 => !s.ao.dropped && s.role != .isolated && src
    | .m6 | .m8 => !s.ao.dropped && src
    | .m7 | .m9 => s.role == .solo && !s.ao.dropped && src
    | _ => false

/-- The command of a call line (R43, R241): the ladder's, or in M11 that of HaltCall, which LADDER_ACK releases (R245; the
switch's `cmd` then holds the state). -/
def State.callCommand (s : State) (c : Nat) : Bool :=
  if s.mode = .m11 then (s.sw (32 + c)).cmd else s.ladderDrives && (s.sw (32 + c)).cmd

/-- The own command of a switch. -/
def State.swCommand (s : State) (m : Nat) : Bool := if m < 32 then s.doCommand m else s.callCommand (m - 32)

/-- The kind of a resource (R313). -/
def resKind (r : Nat) : Nat :=
  if r < 10 then 1 else if r < 20 then 2 else if r = 20 then 3 else if r < 31 then 4 else if r < 49 then 5 else 6

/-- The option unit a resource belongs to (R313). -/
def resUnit (r : Nat) : Option OptUnit := match resKind r with | 4 => some .ai | 5 => some .ao | _ => none

/-- The spares at delivery (R313). -/
def isSpare (r : Nat) : Bool := [8, 9, 19, 29, 30, 47, 48, 51].contains r

/-- The state of a resource (R328): 0 IN_SERVICE, 1 ANNEX, 2 STANDING_IN, 3 FAILED, 4 ABSENT. -/
def State.resState (s : State) (r : Nat) : Nat :=
  if (match resUnit r with | some u => !s.has u | none => false) then 4
  else (tget s.annex.res r {}).state.getD (if isSpare r then 1 else 0)

/-- A physical pair serves tasks (R320): in service, or standing in. -/
def State.pairServes (s : State) (p : Nat) : Bool := s.resState p == 0 || s.resState p == 2

/-- A pair's reset runs (R294: 6 µs). -/
def State.resetting (s : State) (p : Nat) : Bool :=
  match (s.corePair p).reset with
  | some t => !s.since t (6 * Config.ticksPerUs)
  | none => false

/-- An injection test occupies the pair (R298: 10 µs). -/
def State.testing (s : State) (p : Nat) : Bool :=
  match (s.corePair p).testAt with
  | some t => !s.since t (10 * Config.ticksPerUs)
  | none => false

/-- The pair runs no task: its reset runs, and its outputs are blocked (R294), or its injection test (R298). -/
def State.blocked (s : State) (p : Nat) : Bool := s.resetting p || s.testing p

/-- PairStatus State (R311). -/
def State.pairState (s : State) (p : Nat) : Nat :=
  let c := s.corePair p
  if c.failed || (p < 10 && s.resState p == 3) then 6
  else if c.room != 0 then c.room
  else if s.resetting p then 5
  else if s.testing p then 7
  else if p < 10 && s.resState p == 1 then 1
  else 0

/-- The mismatches of a pair in the last 24 h of operating seconds (R301). -/
def State.recent (s : State) (p : Nat) : List Nat :=
  (s.corePair p).history.filter (fun t => decide (s.ident.opSeconds < t + 86400))

/-- One sequence. -/
def State.conv (s : State) (c : Nat) : Conv := tget s.ai.conv c {}

/-- One converter's calibration. -/
def State.cal (s : State) (c : Nat) : ConvCal := tget s.ai.cal c {}

/-- One channel. -/
def State.aiChan (s : State) (n : Nat) : AiChan := tget s.ai.chan n {}

/-- ChannelConfig (R360). -/
def State.aiConfig (s : State) (n : Nat) : Nat := s.eff (0x0900 + 4 * n)

/-- Range code of a ChannelConfig. -/
def aiRange (c : Nat) : Nat := bits c 28 3

/-- The channel is excited (R361). -/
def aiExcited (c : Nat) : Bool := aiRange c == 4 || aiRange c == 5

/-- The physical converter that serves CVc: a stand-in, or itself (R323, R329). -/
def State.physConv (s : State) (c : Nat) : Nat :=
  match [8, 9].find? (fun p => match tget s.annex.convRemap p none with
    | some (n, _) => n == c
    | none => false) with
  | some p => p
  | none => c

/-- This module is to drive the excitation of a channel (R43, R285, R364). -/
def State.excWanted (s : State) (n : Nat) : Bool :=
  s.has .ai && bit (s.aiConfig n) 31 && aiExcited (s.aiConfig n) && !s.ao.dropped &&
  (match s.mode with
    | .m4 | .m5 => s.role == .primary
    | .m6 | .m8 => s.role != .isolated
    | .m7 | .m9 => s.role == .solo
    | .m3 => s.ai.m3exc.getD (s.aiChan n).drives
    | _ => false)

/-- The alarm engine scans (R219). -/
def State.scans (s : State) : Bool :=
  s.cfg.loaded && (match s.mode with | .m0 | .m1 | .m11 => false | _ => true)

/-- The partner's engine scans, as its status frames tell (R247). -/
def State.partnerScans (s : State) : Bool :=
  s.laneUp && s.pair.partner.loaded &&
    (match s.pair.partner.mode with | none | some .m0 | some .m1 | some .m11 => false | _ => true)

/-- The partner leads in a run mode, or holds or updates as SOLO (R247, R255). -/
def State.partnerLeads (s : State) : Bool :=
  s.laneUp && (s.pair.partner.role == .primary || s.pair.partner.role == .solo)

/-- This module is the alarm leader (R247). A module that neither hears nor sees a partner leads; with the partner's heartbeat
but no lane, slot A does (log 15). -/
def State.alarmLeader (s : State) : Bool :=
  if !s.scans then false
  else if s.lead then true
  else if s.role == .standby || s.role == .isolated || s.partnerLeads then false
  else if s.laneUp then s.mu.slot == 0 || !s.partnerScans
  else s.mu.slot == 0 || !s.pair.heartbeat

/-- This module is the CAN lead (R460). -/
def State.canLead (s : State) : Bool := if s.mode.isRun then s.lead else s.alarmLeader

/-- One channel. -/
def State.canCh (s : State) (c : Nat) : CanCh := tget s.can.ch c {}

/-- CanControl in effect (R464). -/
def CanCh.control (k : CanCh) : Nat := match k.cfg with | some (a, _) => a | none => 0

/-- The module's CAN transceivers are out of standby (R460). -/
def State.canOn (s : State) (c : Nat) : Bool :=
  bit (s.canCh c).control 31 && (match s.mode with | .m0 | .m1 | .m11 => false | _ => true)

/-- Why an enabled channel is restricted (R459, R469): 1 its bit, 2 not the lead. -/
def State.canRestriction (s : State) (c : Nat) : Option Nat :=
  if !s.canOn c then none
  else if bit (s.canCh c).control 29 then some 1
  else if !s.canLead then some 2 else none

/-- The pending buffers of a channel. -/
def State.canPending (s : State) (c : Nat) : List Nat := (s.canCh c).buf.map Prod.fst

/-- One region. -/
def State.region (s : State) (r : Nat) : PnlRegion := tget s.pnl.region r {}

/-- PanelBand (R474, R486). -/
def State.panelBand (s : State) : Nat := s.pnl.band.getD (s.eff 0x0EC5)

/-- The panel owner (R470): the CAN lead, from M2 to M10. -/
def State.panelOwner (s : State) : Bool :=
  s.has .pnl && s.canLead && (match s.mode with | .m0 | .m1 | .m11 => false | _ => true)

/-- The owner drives its lines (R470). -/
def State.panelDrives (s : State) : Bool := s.panelOwner && s.eff 0x0EC0 == 1 && !s.sup.powerFail

/-- The element of the requester block that applies to a physical requester: for a pair, the logical pair that PairRemap maps to
it (R351). -/
def State.rqElem (s : State) (q : Nat) : Nat :=
  if q < 10 then (firstIdx (· == q) s.annex.pairRemap).getD q else q

/-- The effective budget of a physical requester (R351). -/
def State.budgetOf (s : State) (q : Nat) : Nat :=
  if q < 10 && !s.pairServes q then 0 else s.eff (0x0860 + 4 * s.rqElem q)

/-- BudgetTotal (R355). -/
def State.budgetTotal (s : State) : Nat := (List.range 18).foldl (fun a q => a + s.budgetOf q) 0

/-- ArbFreezeEffective (R350). -/
def State.frozenMask (s : State) : Nat := s.eff 0x08B0 ||| s.prot.freezes

/-- Speed in rev/s of a velocity, binary32 (R166). -/
def speedOf (v : Int) : Nat := ofRatio fmt32 (v * 125000000) (2 ^ 64)

/-- One reference. -/
def State.phRef (s : State) (n : Nat) : PhRef := tget s.ph.ref n {}

/-- The surviving entries, oldest first: flash from the write position on, then the ring. -/
def State.journalAll (s : State) : List JourRec :=
  let pos := s.al.flashed % 16777216
  let f := if s.al.flashed ≤ 16777216 then s.al.flash else
    s.al.flash.filter (fun x => decide (pos ≤ x.1)) ++ s.al.flash.filter (fun x => decide (x.1 < pos))
  f.filterMap (fun (_, r) => r) ++ s.al.ring

/-- JournalOldest (R253): the oldest surviving entry's Sequence. -/
def State.journalOldest (s : State) : Nat := (s.journalAll.head?.map (·.seq)).getD s.al.jnext

end Sys2Proof.Machine
end

