-- ==== Sys2Proof/Machine/PhaseAt.lean ====
section
/-!
DEFINITION. The phase of a reference at a tick (R165, R167, R172, R173, R175), and the sequence entries whose latency it takes in
(R365, R366). Times are ticks.
-/
namespace Sys2Proof.Machine

/-- Entry `j` of a converter's sequence as configured (R366, R370). -/
def State.seqEntry (s : State) (c j : Nat) : Nat :=
  bits (s.eff (0x0981 + 12 * c + j / 2)) (32 * (j % 2)) 32
/-- Input, gain code, OSR, phase and count of a sequence entry (R366). -/
def seqInput (e : Nat) : Nat := bits e 29 3
def seqGain (e : Nat) : Nat := bits e 26 3
def seqOsr (e : Nat) : Nat := 32 * 2 ^ bits e 23 3
def seqPhase (e : Nat) : Nat := bits e 21 2
def seqCount (e : Nat) : Nat := bits e 13 8

/-- One full revolution in phase words (R165). -/
abbrev fullTurn : Int := 4294967296

/-- A parameter of the reference block (R167). -/
def State.refPar (s : State) (n k : Nat) : Nat := s.eff (0x0400 + 32 * n + k)
/-- Kind of a reference (R168). -/
def State.refKind (s : State) (n : Nat) : Nat := bits (s.refPar n 0) 28 3
/-- MissingTeeth (R168). -/
def State.refMissing (s : State) (n : Nat) : Nat := bits (s.refPar n 0) 22 2
/-- Resolution, at least 1 (R167). -/
def State.refRes (s : State) (n : Nat) : Nat := max 1 (s.refPar n 1)

/-- Direction as a sign. -/
def PhRef.dir (r : PhRef) : Int := if r.reverse then -1 else 1

/-- The latency, in ticks, of the sequence entry that samples a channel (R175, R365). -/
def State.aiLatency (s : State) (ch : Nat) : Nat :=
  let c := ch / 4
  let n := bits (s.eff (0x0980 + 12 * c)) 24 5
  match ((List.range n).map (s.seqEntry c)).find? (fun e => seqInput e == ch % 4) with
  | some e => (2 * seqOsr e * 1000000 / 8192 + 10000) / 8
  | none => 0

/-- The distance to the clamp (R172, R173, R175). -/
def State.clampAt (s : State) (n : Nat) (r : PhRef) : Int :=
  let late := if s.refKind n = 2 ∧ s.refPar n 0x0A ≠ 0xFF then
      Int.fdiv (r.v * s.aiLatency (s.refPar n 0x0A)) 4294967296 else 0
  r.nextD + late - r.dir

/-- The projected distance from the base at tick `t` (R172), and whether it is clamped (R173). -/
def State.project (s : State) (n : Nat) (r : PhRef) (t : Nat) : Int × Bool :=
  if s.refKind n = 3 then
    let w : Int := (s.refPar n 8 : Int) * (s.now / 8 : Nat) / 4294967296
    (w, false)
  else
    let d : Int := (t : Int) - r.baseT
    let x := Int.fdiv (r.v * d * 18446744073709551616 * 2 + r.a * d * d) (2 * 79228162514264337593543950336)
    let lim := s.clampAt n r
    let y := if r.dir * lim < r.dir * x then lim else x
    (if r.dir * y < r.dir * r.dphi then r.dphi else y, decide (r.dir * lim ≤ r.dir * x))

/-- The phase word at tick `t` without firing anything (R167 PhaseWord). -/
def State.phaseAt (s : State) (n t : Nat) : Nat :=
  let r := s.phRef n
  if r.state = 3 then (((r.baseP : Int) + (s.project n r t).1) % fullTurn).toNat else r.phi

end Sys2Proof.Machine
end

