-- ==== Sys2Proof/Machine/Serial.lean ====
section
/-!
DEFINITION. The configuration image as bytes (R53): what COMMIT_CONFIG writes and CONFIG_EXPORT returns, and its digest. The
module lists the parameters that differ from their defaults and, of each table, the entries up to the last that differs from
its reset value (log 21).
-/
namespace Sys2Proof.Machine

/-- A parameter record (R53). -/
def paramRecord (i v : Nat) (slotB : Bool) : List Byte :=
  let n := match paramDef i with | some d => d.ty.size | none => 8
  leBytes 2 i ++ leBytes 1 n ++ leBytes 1 (b2n slotB) ++ leBytes 8 v

/-- Is a parameter held per slot (R102)? -/
def paramP (i : Nat) : Bool := match paramDef i with | some d => d.marks.p | none => false

/-- The records of an image, ascending by index, slot A before slot B; the module's own slot is `slot`. -/
def Image.records (img : Image) (slot : Nat) : List (List Byte) :=
  let keys := insSort (img.params.map Prod.fst ++ img.other.map Prod.fst)
  (keys.map (fun i =>
    let own := (tlook img.params i).toList
    let oth := if paramP i then (tlook img.other i).toList else []
    if slot = 1 ∧ paramP i = true then oth.map (paramRecord i · false) ++ own.map (paramRecord i · true)
    else own.map (paramRecord i · false) ++ oth.map (paramRecord i · true))).flatten

/-- The bytes of one table section: its entries from 0 to the last listed one. -/
def Image.section_ (img : Image) (t size : Nat) : Nat × List Byte :=
  let n := (img.listed t).foldl (fun a x => max a (x.1 + 1)) 0
  (n, ((List.range n).map (fun k => leBytes size (img.entry t k))).flatten)

/-- Sections as (kind, table, count, bytes): parameters first, then each table that lists something. -/
def Image.sections (img : Image) (slot : Nat) : List (Nat × Nat × Nat × List Byte) :=
  let rs := img.records slot
  (1, 0, rs.length, rs.flatten) :: tableDefs.filterMap (fun d =>
    let (n, b) := img.section_ d.id d.size
    if n = 0 ∨ d.id = 0x000A then none else some (2, d.id, n, b))

/-- The 128-byte header (R53) with a digest and a generation. -/
def imageHeader (schema len sections gen variant : Nat) (digest : List Byte) : List Byte :=
  [0x49#8, 0x53#8, 0x43#8, 0x46#8] ++ leBytes 2 1 ++ leBytes 2 schema ++ leBytes 4 len ++ leBytes 2 sections ++ leBytes 2 0 ++
  digest ++ leBytes 4 gen ++ leBytes 2 variant ++ leBytes 2 0 ++ leBytes 4 128 ++ List.replicate 68 0#8

/-- The whole image with a digest, a generation and a variant. -/
def Image.bytesWith (img : Image) (slot gen variant : Nat) (digest : List Byte) : List Byte :=
  let ss := img.sections slot
  let start := 128 + 16 * ss.length
  let (dir, body) := ss.foldl (fun (d, b) (k, t, n, x) =>
    (d ++ leBytes 2 k ++ leBytes 2 t ++ leBytes 4 (start + b.length) ++ leBytes 4 x.length ++ leBytes 4 n, b ++ x))
    (([] : List Byte), ([] : List Byte))
  let rest := dir ++ body
  let rest := rest ++ List.replicate (128 - rest.length) 0#8
  imageHeader img.schema (128 + rest.length) ss.length gen variant digest ++ rest

/-- ImageDigest: SHA-256 with the digest and the generation at 0 (R53). -/
def Image.digest (img : Image) (slot variant : Nat) : List Byte := sha256 (img.bytesWith slot 0 variant (List.replicate 32 0#8))

/-- The image as exported (R54), with ConfigGeneration and WrittenVariant of the exporting module. -/
def Image.bytes (img : Image) (slot gen variant : Nat) : List Byte := img.bytesWith slot gen variant (img.digest slot variant)

/-- ConfigDigest of the committed image (R45) under the WrittenVariant that the image holds, so that two modules of different variants that
commit the same image agree (R53, log 21); 0 with none. -/
def State.configDigest (s : State) : Nat :=
  match s.cfg.committed with
  | some i => beNat ((i.digest s.mu.slot i.variant).take 8)
  | none => 0

/-- The header of a firmware slot (R504), 0 FW-A. -/
def State.fwSlot (s : State) (k : Nat) : FwSlot := if k = 0 then s.fw.slotA else s.fw.slotB
/-- The header of the running firmware. -/
def State.fwHeader (s : State) : List Byte := (s.fwSlot s.fw.active).header
/-- FirmwareSchemaVersion (R45). -/
def State.fwSchema (s : State) : Nat := leAt s.fwHeader 0x12 2
/-- FeatureLevel (R105). -/
def State.feature (s : State) : Nat := leAt s.fwHeader 0x14 2
/-- Highest and lowest sync-lane revision spoken (R105, R273). -/
def State.syncMax (s : State) : Nat := leAt s.fwHeader 0x17 1
def State.syncMin (s : State) : Nat := leAt s.fwHeader 0x16 1

/-- A program slot, 0 PG-A. -/
def State.progSlot (s : State) (k : Nat) : ProgSlot := if k = 0 then s.tk.slotA else s.tk.slotB
/-- ProgramDigest of a slot (R120, R126, R157): 0 while its image is not complete. The first 8 of the digest's bytes are read most significant
first (DESIGN CHOICE, log 157). -/
def ProgSlot.digest (p : ProgSlot) : Nat := if p.complete then beAt p.bytes 0x10 8 else 0

end Sys2Proof.Machine
end

