-- ==== Sys2Proof/Machine/RoParams.lean ====
section
/-!
DEFINITION. The read-only parameters: each is read from the state that its owning chapter keeps (R15, R105 and the
parameter tables of the chapters).
-/
namespace Sys2Proof.Machine

/-- A word built of fields (lowest bit, value). -/
def word (fs : List (Nat × Nat)) : Nat := fs.foldl (fun a (lo, v) => a + v * 2 ^ lo) 0

/-- The parameters of page `p` that this variant has, each element counted (R105). -/
def State.pageCount (s : State) (p : Nat) : Nat :=
  (pageParams p).foldl (fun a d =>
    a + ((List.range d.count).filter (fun n => !s.absentIdx (d.base + n * d.stride))).length) 0

/-- ConfigState, schema of the configuration in use (R45, R550): that of the committed image, or of the firmware. -/
def State.schemaInUse (s : State) : Nat :=
  match s.cfg.committed with
  | some i => if s.cfg.loaded then s.fwSchema else i.schema
  | none => if s.cfg.loaded then s.fwSchema else 0

/-- Page 0x00 (R105). -/
def State.ro00 (s : State) (i : Nat) : Nat :=
  match i with
  | 0x00 => s.ident.variant
  | 0x01 => optionMask s.ident.variant
  | 0x02 => s.ident.fwRelease.toNat
  | 0x03 => s.ident.serial.toNat
  | 0x04 => s.ident.hwRev.toNat
  | 0x05 => s.ident.madeAt.toNat
  | 0x06 => s.ident.opSeconds
  | 0x07 => s.ident.powerCycles.toNat
  | 0x08 => s.fw.active
  | 0x09 => s.tk.active
  | 0x0A => (List.range 16).foldl (fun a p => a + s.pageCount p) 0
  | 0x0B => 1
  | 0x0C => s.syncMax
  | 0x0D => s.feature
  | 0x0E => s.ident.baseMac.toNat
  | _ => s.pageCount (i - 0x10)

/-- OverTemperature (R536, R537): inlet above +105 °C, or a die at 125 °C or above. -/
def State.overTemp (s : State) : Bool :=
  flt fmt32 (f32 105 1) s.sup.inlet || fle fmt32 (f32 125 1) s.sup.die
/-- HoldupLow (R537): the HoldupTime measured is below 7.0 ms. -/
def State.holdupLow (s : State) : Bool := s.sup.measured && flt fmt32 s.sup.holdup (f32 7 1)

/-- KeyState (R96). -/
def State.keyState (s : State) : Nat := (List.range 4).foldl (fun a l => a + b2n (tlook s.mbx.keys l).isSome * 2 ^ l) 0

/-- Page 0x01 (R45, R96, R537). -/
def State.ro01 (s : State) (i : Nat) : Nat :=
  match i with
  | 0x00 => s.mode.num
  | 0x01 => s.role.num
  | 0x02 => s.mu.prev.num
  | 0x03 => s.mu.changes.toNat
  | 0x04 => s.mu.entryTime
  | 0x0B => (s.tick - s.ret.lastTick) / Config.ticksPerMs
  | 0x0C => s.cfg.state
  | 0x0D => s.cfg.generation.toNat
  | 0x0E => s.configDigest
  | 0x0F => s.schemaInUse
  | 0x10 => s.fwSchema
  | 0x11 => s.cfg.migratedFrom
  | 0x12 => s.cfg.dropCount
  | 0x13 => s.mu.recoveryCause
  | 0x14 => s.mu.haltCause
  | 0x15 => s.mu.curatorRestarts.toNat
  | 0x16 => word [(31, b2n (s.sup.present.getD 0 false)), (30, b2n (s.sup.present.getD 1 false)), (29, b2n s.sup.powerFail),
      (28, b2n s.sup.holdupReady), (27, b2n s.holdupLow), (26, b2n s.overTemp)]
  | 0x17 => s.sup.volts.getD 0 0
  | 0x18 => s.sup.volts.getD 1 0
  | 0x19 => s.sup.power
  | 0x1A => s.sup.inlet
  | 0x1B => s.sup.die
  | 0x1C => s.sup.peak
  | 0x1D => s.sup.holdup
  | 0x40 => s.mbx.frameErr.toNat
  | 0x41 => s.mbx.authFail.toNat
  | 0x42 => s.mbx.lockouts.toNat
  | 0x43 => s.mbx.sessions.length
  | 0x47 => s.mbx.queueDrops.toNat
  | 0x48 => s.mbx.forwards.toNat
  | 0x49 => s.mbx.lastRefused
  | 0x4A => s.keyState
  | _ =>
    if i < 0x2C then (if s.cfg.loaded then (s.cfg.base.overlay (i - 0x20)).length else 0)
    else if i < 0x3C then tget s.cfg.skipped (i - 0x30) 0
    else tget s.mbx.status (i - 0x50) 0

/-- PairState (R288). -/
def State.pairWord (s : State) : Nat :=
  word [(31, b2n s.pair.heartbeat), (30, b2n s.pair.isolSeen), (29, b2n s.pair.sl0.up), (28, b2n s.pair.sl1.up),
    (27, b2n s.pair.sync), (26, b2n s.pair.joining), (25, b2n s.pair.resync), (24, b2n s.pair.flag),
    (23, b2n s.pair.partner.flag), (22, b2n s.pair.loneAo)]

/-- Page 0x02 (R288, R289). -/
def State.ro02 (s : State) (i : Nat) : Nat :=
  let p := s.pair
  let lane := fun (l : Lane) (f : Nat) => match f with
    | 0 => word [(31, b2n l.up), (30, b2n l.lock)]
    | 1 => l.good
    | 2 => l.errors.toNat
    | 3 => l.downs.toNat
    | _ => l.downTime
  match i with
  | 0x00 => s.mu.slot
  | 0x03 => s.pairWord
  | 0x05 => match p.soakFrom with | some t => (s.tick - t) / Config.ticksPerSecond | none => 0
  | 0x07 => p.lastCopy
  | 0x0A => p.divergences.toNat
  | 0x0B => p.resyncs.toNat
  | 0x0C => p.lateDigests.toNat
  | 0x0D => p.goneCount.toNat
  | 0x0E => p.feature
  | 0x0F => p.revision
  | 0x10 => p.options
  | 0x11 => p.partner.serial.toNat
  | 0x12 => p.partner.release
  | 0x13 => p.flagCause
  | 0x14 => p.swaps.toNat
  | 0x15 => p.mirrors.toNat
  | 0x16 => p.refuseCause
  | _ => if i < 0x60 then lane p.sl0 (i - 0x40) else lane p.sl1 (i - 0x60)

/-- A map with one bit per task. -/
def taskMap (f : Nat → Bool) : Nat := (List.range 32).foldl (fun a n => a + b2n (f n) * 2 ^ n) 0

/-- Page 0x03 (R124, R126). -/
def State.ro03 (s : State) (i : Nat) : Nat :=
  if i < 0xC0 then
    let k := s.task (i / 6)
    if i % 6 = 4 then k.executed * 4294967296 + k.skips else k.longestRun * 4294967296 + k.lastRun
  else match i with
  | 0xC0 => taskMap (fun n => (s.cyc n).isSome)
  | 0xC1 => taskMap s.unverified
  | 0xC2 => taskMap (fun n => (s.task n).recovering)
  | 0xC3 => taskMap (fun n => (s.task n).stopped)
  | 0xC5 => s.tk.lastFault
  | 0xC6 => s.forceCount
  | 0xC7 => b2n s.tk.applied
  | 0xC8 => s.tk.slotA.digest
  | 0xC9 => s.tk.slotB.digest
  | 0xCA => s.tk.switches.toNat
  | 0xCB => s.tk.changes
  | 0xCC => s.tk.restarts.toNat
  | 0xCD => s.tk.dropped
  | 0xCE => s.tk.gap
  | _ => if s.tk.active = 0xFF then 0 else (s.progSlot s.tk.active).patches.length

/-- Page 0x04 (R167, R169, R191). -/
def State.ro04 (s : State) (i : Nat) : Nat :=
  if i < 0x80 then
    let r := s.phRef (i / 32)
    match i % 32 with
    | 0x0C => word [(31, b2n (r.state == 3)), (30, b2n r.reverse), (29, b2n r.clamped), (28, b2n r.extrap), (24, r.state),
        (16, r.cause)]
    | 0x0D => s.phaseAt (i / 32) s.tick
    | 0x0E => speedOf r.v
    | 0x0F => ofSigned 32 r.revs
    | 0x10 => r.lastEdge
    | 0x11 => r.locks.toNat
    | 0x12 => r.unlocks.toNat
    | 0x13 => r.maxJump
    | _ => r.maxClamp
  else match i with
  | 0x82 => s.ph.fireCount.toNat
  | 0x83 => s.ph.deferCount.toNat
  | _ => s.ph.maxDefer

/-- Page 0x05 (R211, R214, R217). CapControl and InjControl are configurable but for their status bits. -/
def State.ro05 (s : State) (i : Nat) : Nat :=
  if i < 0x40 then
    let c := tget s.loop.cap (i / 16) {}
    if i % 16 = 3 then c.count else c.start
  else if i < 0x80 then
    let g := tget s.loop.inj ((i - 0x40) / 16) {}
    if i % 16 = 7 then g.start else g.value
  else match i with
  | 0x81 => s.loop.evals.toNat
  | 0x82 => s.loop.depthMax
  | 0x83 => s.loop.merged.toNat
  | 0x84 => s.loop.maxLatency
  | 0x85 => s.loop.mismatches.toNat
  | 0x86 => s.loop.faulteds.toNat
  | 0x87 => s.loop.invalids.toNat
  | 0x88 => s.loop.trackings.toNat
  | 0x89 => s.loop.numerics.toNat
  | 0x8A => s.loop.strays.toNat
  | 0x8B => s.loop.released.toNat
  | _ => s.loop.signature.toNat

/-- Page 0x06 (R234, R253). -/
def State.ro06 (s : State) (i : Nat) : Nat :=
  let a := s.al
  let l := a.lad
  if i < 0xA0 then
    let c := (i - 0x80) / 8
    if i % 8 = 3 then a.clsActive.getD c 0 else a.clsUnacked.getD c 0
  else match i with
  | 0xA3 => word [(30, l.state), (27, l.cause), (24, l.rung - 1), (0, l.left)]
  | 0xA4 => l.run
  | 0xA5 => l.startTime
  | 0xA6 => l.starter
  | 0xA7 => l.cmn
  | 0xA8 => a.ackRefused.toNat
  | 0xA9 => a.noRung.toNat
  | 0xAA => a.scan
  | 0xAB => a.scanMax
  | 0xAC => a.mismatches.toNat
  | 0xAD => a.signature.toNat
  | 0xAE => a.follow
  | 0xAF => a.invalids
  | 0xB0 => a.jnext
  | 0xB1 => s.journalOldest
  | 0xB2 => a.ring.length
  | _ => a.lost.toNat

/-- Mismatches of the last 24 h of operating seconds (R315). -/
def State.last24 (s : State) (l : List Nat) : Nat := (l.filter (fun t => decide (s.ident.opSeconds < t + 86400))).length

/-- Page 0x07 (R310, R311, R329). -/
def State.ro07 (s : State) (i : Nat) : Nat :=
  let x := s.annex
  if i < 0x58 then
    let p := i / 8
    let c := s.corePair p
    match i % 8 with
    | 2 => word [(28, s.pairState p), (16, (s.recent p).length)]
    | 3 => c.mismatches.toNat
    | 4 => c.lastTime
    | 5 => c.detail
    | 6 => c.result.toNat
    | _ => c.fails
  else if i < 0x7A then tget x.dramCe (i - 0x70) 0
  else if i = 0x7A then x.dramUe
  else if i < 0x8A then tget x.drift (i - 0x80) 0
  else if i = 0x8A then x.recalNext
  else if i < 0xA2 then tget x.hotHours (i - 0x90) 0
  else if i < 0xB4 then tget x.thermals (i - 0xA2) 0
  else match i with
  | 0xB4 => x.flashPe.foldl (fun a p => max a p.2) 0
  | 0xB5 => x.flashPe.foldl (fun a p => a + p.2) 0 / 16384
  | 0xB6 => x.retired
  | 0xB7 => word [(16, min 65535 (s.last24 x.alarmMis)), (0, min 65535 (s.last24 x.loopMis))]
  | 0xC0 => (List.range 10).foldl (fun a n => a + b2n (s.resState n == 1) * 2 ^ n)
      (word [(21, b2n (s.resState 51 == 1)), (20, b2n (s.resState 48 == 1)), (19, b2n (s.resState 47 == 1)),
        (18, b2n (s.resState 30 == 1)), (17, b2n (s.resState 29 == 1)), (16, b2n (s.resState 19 == 1))])
  | 0xC1 => x.reserve
  | 0xC8 => x.count.toNat
  | 0xC9 => (x.pairRemap.zipIdx).foldl (fun a (p, n) => a + p * 16 ^ n) 0
  | 0xCA => [(16, 0), (17, 8)].foldl (fun a (st, lo) => match tget x.stageRemap st none with
      | some n => a + (128 + n) * 2 ^ lo | none => a) 0
  | 0xCB => [(8, 0), (9, 8)].foldl (fun a (c, lo) => match tget x.convRemap c none with
      | some (n, perm) => a + ((if perm then 128 else 64) + n) * 2 ^ lo | none => a) 0
  | 0xCC => match x.dramSpare with | some d => 128 + d | none => 0
  | 0xF1 => x.activeRef
  | _ =>
    if i < 0xC8 then
      let k := i - 0xC1
      tget x.epoch k 0 * 16777216 + tget x.spoil k 0
    else tget x.oscErr (i - 0xF2) 0

/-- Page 0x08 (R346, R351, R355). -/
def State.ro08 (s : State) (i : Nat) : Nat :=
  if i < 0x60 then
    let c := i / 4
    if i % 4 = 2 then
      let ts := (List.range 32).filter (fun n => s.taskOn n && (tget s.tk.prog.tasks n {}).ctx == c)
      word [(31, b2n (decide (c < 16) && bit (s.ctxKeys c) 14 && ts.any s.unverified)), (30, b2n (decide (16 ≤ c))),
        (24, min 63 ((List.range 64).filter (fun r => bit (fld (tget s.prot.regions (64 * c + r) 0) 8 0 32) 31)).length)]
    else tget s.prot.ctxRegion c 0 * 65536 + tget s.prot.ctxColour c 0
  else if i < 0xA8 then
    let q := (i - 0x60) / 4
    if i % 4 = 2 then tget s.prot.last q 0 else tget s.prot.cutoffs q 0
  else match i with
  | 0xB1 => s.frozenMask
  | 0xB2 => b2n s.prot.swap
  | 0xB3 => if s.prot.swap then 1 else if s.prot.refused then 2 else 0
  | 0xB4 => s.prot.swaps.toNat
  | 0xB5 => s.budgetTotal
  | 0xB6 => 0x00056600
  | 0xB7 => 0x001FFFFF
  | _ => s.prot.reloads.toNat

/-- ConverterStatus (R370). -/
def State.convStatus (s : State) (c : Nat) : Nat :=
  let other := if c < 8 then (let p := s.physConv c; if p = c then 15 else p)
    else match tget s.annex.convRemap c none with | some (n, _) => n | none => 15
  let shadow : Bool := match s.annex.rotation with
    | some o => (o.step == .shadow && o.standin == c) || (o.step == .returning && o.conv == c)
    | none => false
  let st := if s.resState (21 + c) = 3 then 4 else if (s.cal c).running.isSome then 2 else if shadow then 5
    else if 8 ≤ c ∧ other ≠ 15 then 3 else if decide (c < 8) && (s.conv c).running then 1 else 0
  word [(28, st), (24, other), (0, (s.conv c).index)]

/-- Page 0x09 (R359, R370, R382). -/
def State.ro09 (s : State) (i : Nat) : Nat :=
  if i < 0x80 then
    let n := i / 4
    let c := s.aiChan n
    if i % 4 = 2 then
      word [(31, b2n (bit (s.aiConfig n) 31)), (28, bits (c.inUse.getD (bits (s.aiConfig n) 26 5)) 2 3), (27, b2n c.drives), (26, b2n c.cmFault),
        (25, b2n c.excFault), (0, c.flags)]
    else c.value
  else if i < 0xF8 then
    let c := (i - 0x80) / 12
    match (i - 0x80) % 12 with
    | 9 => s.convStatus c
    | 10 => (s.conv c).results.toNat
    | _ => (s.conv c).discards.toNat
  else
    let k := s.cal (s.eff 0x09FB / 256)
    let g := s.eff 0x09FB % 256
    match i with
    | 0xF8 => (List.range 8).foldl (fun a c => a + b2n (s.conv c).running * 2 ^ c) 0
    | 0xFC => tget k.offset g 0
    | 0xFD => (tget k.gain g none).getD 0x3F800000
    | 0xFE => (List.range 10).foldl (fun a c => a + b2n (s.cal c).done * 2 ^ c + b2n (s.cal c).failed * 2 ^ (16 + c))
        (s.ai.calState * 2 ^ 30)
    | 0xFF => s.ai.cj
    | _ => 0

/-- HartStatus of a modem (R401). -/
def State.hartWord (s : State) (m : Nat) : Nat :=
  let k := tget s.ao.modem m {}
  word [(29, k.state), (28, b2n k.burst), (16, k.rev), (8, k.rc), (0, k.ds)]

/-- A voltage, binary32, in units of 0.125 V and 8 bits. -/
def eighths (v : Nat) : Nat := (min 255 (max 0 (fnearest fmt32 (fmul fmt32 v (f32 8 1))))).toNat

/-- Page 0x0A (R390, R392, R401, R410). -/
def State.ro0A (s : State) (i : Nat) : Nat :=
  if i < 0x80 then
    let n := i / 8
    let c := s.aoChan n
    match i % 8 with
    | 3 => c.trim
    | 4 => s.aoCommand n
    | 5 => c.readback
    | 6 => word [(31, b2n c.open_), (30, b2n c.compliance), (29, b2n c.thermal), (28, b2n c.supplyFault),
        (27, b2n c.readbackFault), (26, b2n (s.aoFaulted n)), (25, b2n c.trimOp.isSome),
        (24, b2n ([16, 17].any (fun st => tget s.annex.stageRemap st none == some n))), (16, eighths c.supply),
        (0, s.shareInUse n)]
    | _ => c.terminal
  else if i < 0xC0 then s.hartWord ((i - 0x80) / 2)
  else if i < 0xE0 then s.hartWord (32 + (i - 0xC0) / 2)
  else match i with
  | 0xE3 => s.ao.transactions
  | 0xE4 => s.ao.timeouts.toNat
  | 0xE5 => s.ao.commErrors.toNat
  | 0xE6 => s.ao.burstFrames.toNat
  | 0xE7 => s.ao.pollSkips.toNat
  | _ => s.ao.tempMax

/-- DiStatus (R419), with the supply that R416 names for the input. -/
def State.diStatus (s : State) (n : Nat) : Nat :=
  let d := s.din n
  let lost := if n < 16 then s.dio.lost.getD 2 false else if n < 32 then s.dio.lost.getD 3 false else false
  word [(31, b2n d.state), (30, b2n d.raw), (29, b2n d.wireBreak), (28, b2n lost), (27, b2n d.chatter), (0, d.c)]

/-- DoStatus (R426); CallStatus for 32 and 33 (R429). -/
def State.doStatus (s : State) (m : Nat) : Nat :=
  let w := s.sw m
  let base := [(31, b2n (s.swCommand m)), (30, b2n w.readback), (29, b2n w.overcur), (28, b2n w.thermal),
    (26, b2n w.readbackFault)]
  if m < 32 then
    word (base ++ [(27, b2n w.latched), (25, b2n (s.dio.lost.getD (if m < 16 then 0 else 1) false)), (8, w.retries)])
  else word base

/-- Page 0x0B (R418, R425, R429, R430). -/
def State.ro0B (s : State) (i : Nat) : Nat :=
  if i < 0x60 then (if i % 3 = 1 then s.diStatus (i / 3) else (s.din (i / 3)).lastEdge)
  else if i < 0xC0 then s.doStatus ((i - 0x60) / 3)
  else if i < 0xC8 then
    let c := (i - 0xC0) / 4
    match i % 4 with
    | 0 => s.doStatus (32 + c)
    | 1 => (s.dio.callOn.getD c (0, 0)).1
    | _ => s.dio.callFaults.getD c 0
  else if i < 0xD8 then
    let k := 32 + (i - 0xC8) / 4
    match i % 4 with
    | 1 => s.diStatus k
    | 2 => (s.din k).lastEdge
    | _ => (s.din k).edges.toNat
  else match i with
  | 0xE0 => s.dio.volts.getD 0 0
  | 0xE1 => s.dio.volts.getD 1 0
  | 0xE2 => (List.range 4).foldl (fun a k => a + b2n (s.dio.there.getD k false) * 2 ^ k) 0
  | 0xE8 => s.dio.volts.getD 2 0
  | 0xE9 => s.dio.volts.getD 3 0
  | _ => 0

/-- Page 0x0C (R436, R437, R454–R456). -/
def State.ro0C (s : State) (i : Nat) : Nat :=
  let port := fun p => tget s.net.port p ({} : Port)
  if i < 0x40 then
    let p := port (i / 32)
    match i % 32 with
    | 4 => word [(31, b2n p.link), (29, p.speed), (28, b2n p.fibre), (27, b2n p.lanUp), (26, b2n p.conflict)]
    | 5 => p.rx.toNat
    | 6 => p.tx.toNat
    | 7 => p.rxErr.toNat
    | 8 => p.discards.toNat
    | _ => p.downs.toNat
  else match i with
  | 0x43 => word [(31, b2n (port 2).link), (26, b2n (port 2).conflict)]
  | 0x62 => ofSigned 64 s.clk.offset
  | 0x63 => s.clk.pathDelay.toNat
  | 0x64 => s.clk.gmId.toNat
  | 0x65 => tget s.clk.portState 0 0 * 256 + tget s.clk.portState 1 0
  | 0x66 => s.clk.stepsRemoved.toNat
  | 0x67 => ofSigned 16 s.clk.utcOffset
  | 0x68 => s.clk.servoPort
  | 0x69 => ofSigned 32 s.clk.lanePeerOffset
  | 0xA1 => s.now
  | 0xA2 => s.clk.increment
  | 0xA3 => s.clk.state
  | 0xA4 => ofSigned 64 s.clk.pendingStep
  | 0xA5 => ofSigned 32 (s.clk.slewRem / 4294967296)
  | 0xA6 => s.clk.stepCount.toNat
  | 0xA7 => s.clk.lastStep
  | 0xC3 => 6
  | 0xC4 => (s.net.station.filter (fun x => x.2.state == 2)).length
  | 0xC5 => s.net.accepted.toNat
  | _ => s.net.discarded.toNat

/-- A bit rate from a timing word (R458): 125 MHz ÷ (Prescaler × (1 + Seg1 + Seg2)). -/
def canRate (timing : Nat) : Nat :=
  let d := (bits timing 24 8) * (1 + bits timing 16 8 + bits timing 8 8)
  if d = 0 then 0 else 125000000 / d

/-- Page 0x0D (R464). -/
def State.ro0D (s : State) (i : Nat) : Nat :=
  let c := i / 32
  let k := s.canCh c
  match i % 32 with
  | 5 =>
    let st := if !s.canOn c then 3 else if k.busOff.isSome then 2 else if 128 ≤ k.tec ∨ 128 ≤ k.rec_ then 1 else 0
    let r := s.canRestriction c
    word [(30, st), (29, b2n r.isSome), (28, b2n (r == some 2)), (25, k.lastErr), (16, min 255 k.rec_), (8, min 255 k.tec)]
  | 6 => canRate (match k.cfg with | some (_, a, _) => a | none => s.eff (0x0D01 + 32 * c))
  | 7 => canRate (match k.cfg with | some (_, _, a, _) => a | none => s.eff (0x0D02 + 32 * c))
  | 8 => k.rx.toNat
  | 9 => k.tx.toNat
  | 0xA => k.unmatched.toNat
  | 0xB => k.overflow.toNat
  | 0xC => k.fails.toNat
  | 0xD => k.offs.toNat
  | 0xE => k.replaced.toNat
  | _ => (s.canPending c).foldl (fun a b => a + 2 ^ b) 0

/-- Page 0x0E (R484–R486). -/
def State.ro0E (s : State) (i : Nat) : Nat :=
  let p := s.pnl
  if i < 0xC0 then
    let r := (i - 0x80) / 8
    let x := s.region r
    match i % 8 with
    | 1 =>
      let q := x.queued
      let st := if q.isSome && !(p.good.all id) && x.run.isNone then 3
        else if x.run.isNone then 0 else if q.isSome then 2 else 1
      let (band, frame, n) := match x.run with
        | some u => (u.band, (p.frame.getD u.start) - u.start, u.frames)
        | none => (0, 0, 0)
      word [(30, st), (29, b2n (match q with | some y => !y.host.isEmpty | none => false)),
        (28, b2n (match q with | some y => y.refresh | none => false)), (24, band), (16, min 255 frame), (8, n)]
    | 2 => x.updates.toNat
    | 3 => x.superseded.toNat
    | _ => x.lastDone
  else match i with
  | 0xC6 => s.panelBand
  | 0xC7 => p.temp
  | 0xCA => word [(31, b2n (p.good.getD 0 false)), (30, b2n (p.good.getD 1 false)), (8, p.volts.getD 0 0 % 256),
      (0, p.volts.getD 1 0 % 256)]
  | 0xD5 => tget p.wear (s.eff 0x0ED4) 0
  | 0xD6 =>
    let (k, n) := p.wear.foldl (fun (k, n) (j, v) => if n < v then (j, v) else (k, n)) (0, 0)
    k * 2 ^ 56 + n
  | _ => if i < 0xCF then bits p.shown (32 * (i - 0xCB)) 32 else bits p.unknown (32 * (i - 0xCF)) 32

/-- FwSlotState of a slot (R517). -/
def State.fwState (s : State) (k : Nat) : Nat :=
  let x := s.fwSlot k
  if k = s.fw.active ∧ x.state = 4 then 6 else x.state

/-- The slot of the running update (R517): the lower one where both slots are being updated. -/
def State.updateSlot (s : State) : Option Nat := [0, 1].find? (fun k => (s.fwSlot k).owner.isSome)

/-- ArchiveOldest: the oldest surviving tail record (R489, R490). -/
def State.archOldest (s : State) : Nat := max 1 (s.arch.next - s.arch.capacity)

/-- Page 0x0F (R502, R517, R111). -/
def State.ro0F (s : State) (i : Nat) : Nat :=
  let a := s.arch
  let ok := fun k => decide (s.fwState k = 4 ∨ s.fwState k = 6)
  let h := fun k => (s.fwSlot k).header
  match i with
  | 0x00 => s.fwState 0 * 2 ^ 28
  | 0x01 => s.fwState 1 * 2 ^ 28
  | 0x06 => s.updateSlot.getD 0xFF
  | 0x07 => match s.updateSlot with | some k => 256 + (s.fwSlot k).body.length | none => 0
  | 0x08 => match s.updateSlot with | some k => ((s.fwSlot k).owner.getD 0).toNat | none => 0
  | 0x09 => s.fw.refuse
  | 0x0A => s.fw.activations.toNat
  | 0x0B => s.fw.hold
  | 0x0C => s.fw.result
  | 0x0D => s.fw.rollbacks.toNat
  | 0x0E => s.fw.fallbacks.toNat
  | 0x40 => a.next
  | 0x41 => a.flashed
  | 0x42 => s.archOldest
  | 0x43 => a.head.length
  | 0x44 => a.wraps
  | 0x45 => a.capacity
  | 0x46 => a.headLost
  | 0x47 => a.stage.length
  | 0x48 => a.rateDrops
  | 0x49 => a.lostCount
  | 0x4A => a.rebuilds
  | 0x4B => a.lastDown
  | 0x61 => s.trend.written
  | 0x62 => match s.trend.recs with | r :: _ => r.time | [] => 0
  | _ =>
    if i < 4 then
      let x := h (i - 2)
      if ok (i - 2) then word [(48, leAt x 0x10 2), (32, leAt x 0x12 2), (16, leAt x 0x14 2), (8, leAt x 0x17 1), (0, leAt x 0x16 1)]
      else 0
    else if ok (i - 4) then beAt (h (i - 4)) 0x20 8 else 0

/-- The value of a read-only parameter. -/
def State.roParam (s : State) (i : Nat) : Nat :=
  let k := i % 256
  match i / 256 with
  | 0x0 => s.ro00 k
  | 0x1 => s.ro01 k
  | 0x2 => s.ro02 k
  | 0x3 => s.ro03 k
  | 0x4 => s.ro04 k
  | 0x5 => s.ro05 k
  | 0x6 => s.ro06 k
  | 0x7 => s.ro07 k
  | 0x8 => s.ro08 k
  | 0x9 => s.ro09 k
  | 0xA => s.ro0A k
  | 0xB => s.ro0B k
  | 0xC => s.ro0C k
  | 0xD => s.ro0D k
  | 0xE => s.ro0E k
  | _ => s.ro0F k

/-- The value PARAM_READ gives for a defined parameter (R89): a read-only or write-1 register from its unit's state, a configurable
one from the effective set, with the read-only fields that some configurable words hold (TaskControl's Pair reads the
physical pair, R320; CapControl's and InjControl's status bits, R211, R214; the fixed context values of R341; the CPS
element of R310). -/
def State.paramValue (s : State) (d : ParamDef) (i : Nat) : Nat :=
  match d.acc with
  | .rw =>
    let v := s.eff i
    if d.base = 0x0300 then setBits v 20 4 (s.taskPair (d.elem i))
    else if d.base = 0x0500 then
      let c := tget s.loop.cap (d.elem i) {}
      v % 2 ^ 30 + word [(31, b2n c.armed), (30, b2n c.full)]
    else if d.base = 0x0540 then v % 2 ^ 31 + b2n (tget s.loop.inj (d.elem i) {}).active * 2 ^ 31
    else if d.base = 0x0800 ∧ 16 ≤ d.elem i then
      let c := d.elem i
      if c = 16 ∨ c = 19 then 0x7FFF else if c = 23 then 0x8000 else 1
    else if d.base = 0x0801 ∧ 16 ≤ d.elem i then 0
    else v
  | _ => s.roParam i

end Sys2Proof.Machine
end

