-- ==== Sys2Proof/Machine/Ops.lean ====
section
/-!
DEFINITION. The named operations over the state that every chapter uses: time passing, sending, the Archive's stage,
notifications, event occurrences, asynchronous operations and image points.
-/
namespace Sys2Proof.Machine

/-! ## Time -/

/-- The time base after `n` ticks (R445, R446, R451): each tick adds 8 ns, the servo's correction and, while a slew is in
progress, up to 500 ppm of what remains of it. -/
def Clk.advance (c : Clk) (n : Nat) : Clk :=
  let part : Int :=
    if c.slewing then
      (if c.slewRem < 0 then -(min (n * slewStep) c.slewRem.natAbs : Nat) else (min (n * slewStep) c.slewRem.natAbs : Nat))
    else 0
  let total := ((c.tb * 2 ^ 32 + c.frac : Nat) + n * (8 * 2 ^ 32 + c.adj) + part).toNat
  { c with
    tb := total / 2 ^ 32
    frac := total % 2 ^ 32
    ticks := c.ticks + n
    slewRem := c.slewRem - part }

/-- `dt` ticks pass before a command: the time base and the operating time move on (R105, R445), and what the step before
sent is gone. -/
def State.elapse (s : State) (dt : Nat) : State :=
  let t := s.ident.opTicks + dt
  { s with
    clk := s.clk.advance dt
    ident := { s.ident with
      opTicks := t % Config.ticksPerSecond
      opSeconds := s.ident.opSeconds + t / Config.ticksPerSecond }
    out := [] }

/-- Send something. -/
def State.emit (s : State) (e : Emission) : State := { s with out := s.out ++ [e] }

/-- Body of a sync-lane frame, big-endian (R13), from its fields in the order the spec lists them and what follows them: the layouts
of R260 (withheld marker), R261 (agreed input) and R264 (digest); a frame whose layout the spec does not give carries each field as
8 bytes (DESIGN CHOICE, log 120). -/
def laneBody (kind : Nat) (fields : List Nat) (bytes : List Byte) : List Byte :=
  match kind, fields with
  | 0x01, [task, flags, epoch, osn, stamp, aps, bps, digest, pairWord] =>
    beBytes 1 task ++ beBytes 1 flags ++ beBytes 1 epoch ++ beBytes 1 0 ++ beBytes 4 osn ++ beBytes 8 stamp ++ beBytes 2 aps ++
      beBytes 2 bps ++ beBytes 4 (bytes.length - 4 * aps - (bps + 7) / 8) ++ beBytes 8 digest ++ beBytes 4 pairWord ++
      beBytes 12 0 ++ bytes
  | 0x02, task :: osn :: digest :: aoMask :: doMask :: doState :: ao =>
    beBytes 1 task ++ beBytes 3 0 ++ beBytes 4 osn ++ beBytes 8 digest ++ beBytes 2 aoMask ++ beBytes 2 0 ++ beBytes 4 doMask ++
      beBytes 4 doState ++ (ao.map (beBytes 4)).flatten
  | 0x03, [task, cause, osn] => beBytes 1 task ++ beBytes 1 cause ++ beBytes 2 0 ++ beBytes 4 osn
  | _, l => (l.map (beBytes 8)).flatten ++ bytes

/-- A sync-lane frame (R259): common header, body and the CRC-32 of both. -/
def laneFrame (slot revision : Nat) (seq : U32) (kind : Nat) (body : List Byte) : List Byte :=
  let f := beBytes 1 kind ++ beBytes 1 (slot % 2) ++ beBytes 2 revision ++ beBytes 4 seq.toNat ++ beBytes 4 body.length ++
    beBytes 4 0 ++ body
  f ++ beBytes 4 (crc32 f)

/-- The frame that this module's next `lane` sends. -/
def State.frameOf (s : State) (kind : Nat) (fields : List Nat) (bytes : List Byte := []) : List Byte :=
  laneFrame s.mu.slot s.pair.revision s.pair.seqOut kind (laneBody kind fields bytes)

/-- Send a frame on both sync lanes (R29), under the next SyncSeq (R259). A module that does not know its slot sends nothing
(R28). -/
def State.lane (s : State) (kind : Nat) (fields : List Nat) (bytes : List Byte := []) : State :=
  if s.mu.slot = 0xFF then s
  else ({ s with pair := { s.pair with seqOut := s.pair.seqOut + 1 } }).emit (.lane (s.frameOf kind fields bytes))

/-! ## Image points (R121, R133) -/

/-- The value of an analogue point. -/
def State.ap (s : State) (n : Nat) : Nat := (tget s.pts.ap n {}).val
/-- The value of a binary point. -/
def State.bp (s : State) (n : Nat) : Nat := (tget s.pts.bp n {}).val

/-- A point after a write of `v` stamped `t`: a slice load whose t0 lies before the stamp takes the value before (R133). -/
def Point.write (p : Point) (v t : Nat) : Point :=
  { val := v, at_ := t, old := if p.at_ < t then p.val else p.old }

/-- The value of a point stamped at or before `t` (R133). -/
def Point.atTime (p : Point) (t : Nat) : Nat := if p.at_ ≤ t then p.val else p.old

/-- Write an analogue point, stamped `t`. -/
def State.setAp (s : State) (n v t : Nat) : State :=
  { s with pts := { s.pts with ap := tmod s.pts.ap n {} (·.write (v % 2 ^ 32) t) } }
/-- Write a binary point, stamped `t`. -/
def State.setBp (s : State) (n : Nat) (v : Bool) (t : Nat) : State :=
  { s with pts := { s.pts with bp := tmod s.pts.bp n {} (·.write (b2n v) t) } }

/-! ## Mailbox frames (R70) -/

/-- The 32 header bytes in front of the Hmac (R70). -/
def frameHead (target box tag code ver flags status mode role len : Nat) (session arg counter : Nat) : List Byte :=
  beBytes 1 1 ++ beBytes 1 (target * 128 + box) ++ beBytes 2 tag ++ beBytes 2 code ++ beBytes 1 ver ++
  beBytes 1 flags ++ beBytes 1 status ++ beBytes 1 mode ++ beBytes 1 role ++ beBytes 1 0 ++ beBytes 2 len ++
  beBytes 2 0 ++ beBytes 4 session ++ beBytes 4 arg ++ beBytes 4 counter ++ beBytes 4 0

/-- Header and body with the Hmac of a key in place; no key gives an all-zero Hmac (R69, R88). -/
def sealFrame (key : Option (List Byte)) (head body : List Byte) : List Byte :=
  let mac := match key with
    | some k => (hmac k (head ++ body)).take 16
    | none => List.replicate 16 0#8
  head ++ mac ++ body

/-- Fields of a Detail as big-endian bytes (R13), padded to 16. -/
def detailBe (d : List (Nat × Nat)) : List Byte := padTo 16 (d.map (fun (n, v) => beBytes n v)).flatten
/-- Fields of a Detail as little-endian bytes (R13), padded to 16. -/
def detailLe (d : List (Nat × Nat)) : List Byte := padTo 16 (d.map (fun (n, v) => leBytes n v)).flatten

/-- Count a status in StatusCount (R79, R96). -/
def State.countStatus (s : State) (c : Nat) : State :=
  { s with mbx := { s.mbx with status := tmod s.mbx.status c 0 (wrapInc 32) } }

/-- Change one session. -/
def State.modSession (s : State) (id : U32) (f : Session → Session) : State :=
  { s with mbx := { s.mbx with sessions := s.mbx.sessions.map (fun x => if x.id = id then f x else x) } }

/-- The open session of an identifier. -/
def State.session (s : State) (id : U32) : Option Session := s.mbx.sessions.find? (·.id == id)

/-- The notification datagram of a session (R92). -/
def notifyFrame (x : Session) (mode role status tag : Nat) (body : List Byte) : List Byte :=
  sealFrame (some x.key)
    (frameHead 0 0 tag 0x00F0 1 4 status mode role body.length x.id.toNat (x.seq + 1) 0) body

/-- A restart has been accepted, and its ACCEPTED was the last frame the mailboxes send (R55). -/
def State.goingDown (s : State) : Bool :=
  (match s.mu.auto with | some a => a.mode == .m0 | none => false) ||
    (match s.pair.departure with | some d => d.leaving && d.after == 1 | none => false)

/-- Send a notification to a session's route, from port 47211 (R92): none once a restart has been accepted (R55), and on the plant network
none while the slot is unknown (R28). While the Curator restarts it waits, and of more than 256 waiting the oldest is dropped (R93,
R95). -/
def State.notify (s : State) (id : U32) (status tag : Nat) (body : List Byte) : State :=
  match s.session id with
  | none => s
  | some x =>
    match x.route with
    | none => s
    | some r =>
      if s.goingDown || (x.via == .plant && s.mu.slot == 0xFF) then s
      else if s.mbx.restarting.isSome then
        let full := 256 ≤ x.waiting.length
        let s := s.modSession id (fun x =>
          { x with waiting := (if full then x.waiting.drop 1 else x.waiting) ++ [(status, tag, body)] })
        if full then { s with mbx := { s.mbx with queueDrops := s.mbx.queueDrops + 1 } } else s
      else
        let f := notifyFrame x s.mode.num s.role.num status tag body
        (s.modSession id (fun x => { x with seq := x.seq + 1 })).emit (.mailbox x.via 47211 x.addr r.port f)

/-- Body of an event notification (R92). -/
def eventBody (k : Nat) (e : EventSrc) : List Byte :=
  beBytes 1 2 ++ beBytes 1 0 ++ beBytes 2 k ++ beBytes 4 e.count ++ beBytes 8 e.time ++ detailBe e.detail

/-! ## The Archive's stage (R491–R497) -/

/-- The snapshot of a trigger class (R494). -/
def State.snapshot (s : State) (cls : Nat) : List (Nat × Nat × Nat × Nat) :=
  let e := s.entry 0x0009 cls
  (List.range (min 32 (fld e 0 0 8))).map (fun k =>
    let i := fld e (8 + 2 * k) 0 16
    match paramDef i with
    | none => (i, 0, 0x09, 0)
    | some d => if s.absentIdx i then (i, 0, 0x09, 0) else (i, d.ty.size, 0, s.paramValue d i))

/-- The record of a trigger as the trigger finds the module (R491, R494), but for its number, HEAD and Dropped. -/
def State.archRec (s : State) (cls kind source session : Nat) (flags part parts : Nat)
    (detail : List Byte) (time : Nat) (snap : Bool) : ArchRec := {
  seq := 0, time := time, opSeconds := s.ident.opSeconds, cycles := s.ident.powerCycles.toNat, cls := cls,
  kind := kind, source := source, mode := s.mode.num, role := s.role.num,
  flags := flags + (if s.clk.state = 0 then 16 else 0) + (if kind = 1 then 0 else 1),
  dropped := 0, session := session, release := s.ident.fwRelease.toNat,
  part := part, parts := parts, detail := padTo 64 detail,
  snapshot := if snap then s.snapshot cls else [] }

/-- Append a record to the stage under the next sequence number (R488, R491). -/
def State.stagePut (s : State) (r : ArchRec) : State :=
  let seq := s.arch.next
  let r := { r with
    seq := seq, flags := r.flags + (if seq ≤ 65536 then 2 else 0), dropped := tget s.arch.dropped r.cls 0 }
  { s with arch := { s.arch with
      next := seq + 1, stage := s.arch.stage ++ [r], dropped := tdel s.arch.dropped r.cls } }

/-- Stage the record of a trigger (R488, R491). -/
def State.stageRec (s : State) (cls kind source session : Nat) (flags part parts : Nat)
    (detail : List Byte) (time : Nat) (snap : Bool) : State :=
  s.stagePut (s.archRec cls kind source session flags part parts detail time snap)

/-- A mandatory trigger (R493): staged where a place is free, else held by the Curator, else lost and counted. -/
def State.archMandatory (s : State) (cls kind source session : Nat) (detail : List Byte) (flags : Nat := 0) : State :=
  if s.arch.stage.length < 4096 then s.stageRec cls kind source session flags 0 1 detail s.now true
  else if s.arch.held.length < 256 then
    { s with arch := { s.arch with held := s.arch.held ++ [s.archRec cls kind source session flags 0 1 detail s.now true] } }
  else
    { s with arch := { s.arch with
        lostCount := wrapInc 32 s.arch.lostCount, lostPending := s.arch.lostPending + 1 } }

/-- A routed event (R495): written within its class's rate and while at most 3,584 places are taken. -/
def State.archRouted (s : State) (cls k : Nat) (detail : List Byte) (flags : Nat) (time : Nat) : State :=
  let gap := fld (s.entry 0x0009 cls) 2 0 16 * Config.ticksPerMs
  let free := match tget s.arch.lastRouted cls none with
    | none => true
    | some t => s.since t gap
  if free && decide (s.arch.stage.length ≤ 3584) then
    let s := s.stageRec cls 1 k 0 flags 0 1 detail time true
    { s with arch := { s.arch with lastRouted := tset s.arch.lastRouted cls none (some s.tick) } }
  else
    { s with arch := { s.arch with
        rateDrops := wrapInc 32 s.arch.rateDrops, dropped := tmod s.arch.dropped cls 0 (satInc 32) } }

/-- The parts of a command record: 64 bytes of body each (R491). -/
def State.archParts (s : State) (cls kind source session : Nat) (body : List Byte) : Nat → Nat → State
  | 0, _ => s
  | n + 1, k =>
    let parts := max 1 ((body.length + 63) / 64)
    let s := s.stageRec cls kind source session (if k = 0 then 0 else 4) k parts (slice body (64 * k) 64) s.now (k == 0)
    s.archParts cls kind source session body n (k + 1)

/-- The Archive record of a command (R492 kind 3): its request body, continued in up to 15 further records (R491). -/
def State.archCommand (s : State) (cls code session : Nat) (body : List Byte) : State :=
  s.archParts cls 3 code session body (min 16 (max 1 ((body.length + 63) / 64))) 0

/-- Has a command record a mandatory place (R493)? -/
def State.archFree (s : State) (body : List Byte) : Bool :=
  decide (s.arch.stage.length + min 16 (max 1 ((body.length + 63) / 64)) ≤ 4096)

/-! ## Event occurrences (R112–R114) -/

/-- The unit an event belongs to (R7, R119): that of its group; EV166–EV168 belong to the HART modems and EV184, EV185 to the
call and acknowledge block, which every variant has (R5). -/
def State.eventPresent (s : State) (k : Nat) : Bool :=
  if 48 ≤ k ∧ k ≤ 52 then s.has .phs
  else if 128 ≤ k ∧ k ≤ 159 then s.has .ai
  else if 166 ≤ k ∧ k ≤ 168 then s.has .ai || s.has .ao
  else if 160 ≤ k ∧ k ≤ 175 then s.has .ao
  else if 176 ≤ k ∧ k ≤ 183 then s.has .dio
  else if 224 ≤ k ∧ k ≤ 231 then s.has .pnl
  else true

/-- Bit k of a 256-bit set kept in eight parameters from `base` (R115). -/
def State.eventBit (s : State) (base k : Nat) : Bool := bit (s.eff (base + k / 32)) (k % 32)

/-- The trigger class of an event (R115). -/
def State.eventClass (s : State) (k : Nat) : Nat := bits (s.eff (0x0F80 + k / 4)) (8 * (k % 4)) 6

/-- One event notification to one session, or its being held (R114). -/
def State.eventToSession (s : State) (k : Nat) (id : U32) : State :=
  if s.ev.holds.any (fun h => h.session == id && h.ev == k) then
    { s with ev := { s.ev with holds := s.ev.holds.map (fun h =>
        if h.session = id ∧ h.ev = k then { h with again := true } else h) } }
  else
    let s := s.notify id 0 0 (eventBody k (tget s.ev.src k {}))
    { s with ev := { s.ev with holds := s.ev.holds ++ [⟨id, k, s.tick + 10 * Config.ticksPerMs, false⟩] } }

/-- The notifications of an occurrence (R114). -/
def State.eventNotify (s : State) (k : Nat) : State :=
  s.mbx.sessions.foldl (fun s x =>
    match x.route with
    | some r => if bit r.events k then s.eventToSession k x.id else s
    | none => s) s

/-- An occurrence of EVk (R113): counter and time always; latch, notifications and Archive record where it is not masked.
`mand` marks an occurrence for which a chapter requires an Archive record (R492 kind 2). While the Curator restarts only
the hardware part happens (R95, R496). -/
def State.raiseWith (s : State) (k : Nat) (d : List (Nat × Nat)) (mand : Bool) (session : Nat) : State :=
  if !s.eventPresent k then s
  else
    let s := { s with ev := { s.ev with
      src := tmod s.ev.src k {} (fun e => { e with count := satInc 32 e.count, time := s.now, detail := d }) } }
    let e := tget s.ev.src k {}
    let det := detailLe d ++ leBytes 4 e.count
    let masked := s.eventBit 0x0160 k
    let s := if masked then s else
      { s with ev := { s.ev with src := tmod s.ev.src k {} (fun e => { e with latch := true }) } }
    if s.mbx.restarting.isSome then s
    else
      let s := if !masked && s.eventBit 0x0168 k then s.eventNotify k else s
      if mand then s.archMandatory (s.eventClass k) 2 k session det
      else if !masked && s.eventBit 0x0170 k then s.archRouted (s.eventClass k) k det 0 s.now
      else s

/-- An occurrence of EVk with its Detail. -/
def State.raise (s : State) (k : Nat) (d : List (Nat × Nat) := []) : State := s.raiseWith k d false 0

/-- An occurrence of EVk for which a chapter requires an Archive record. -/
def State.raiseMand (s : State) (k : Nat) (d : List (Nat × Nat) := []) : State := s.raiseWith k d true 0

/-! ## Asynchronous operations (R80–R82, R92, R93) -/

/-- The place of a session's stored completions after one more (R93: the last 64). -/
def storeDone (l : List (Nat × Nat × List Byte)) (x : Nat × Nat × List Byte) : List (Nat × Nat × List Byte) :=
  (l ++ [x]).drop (l.length + 1 - 64)

/-- The operation `id` ends with a status and a command-specific result: the completion is stored, notified where the session
asked for completions, and counted; where the session has ended it goes to the Archive (R92, R93, R96, R492 kind 5). -/
def State.complete (s : State) (id : Nat) (st : Status) (result : List Byte := []) : State :=
  match s.mbx.async.find? (·.id == id) with
  | none => s
  | some o =>
    let s := { s with mbx := { s.mbx with async := s.mbx.async.filter (·.id != id) } }
    let s := s.countStatus st.code
    let body := beBytes 1 1 ++ beBytes 1 0 ++ beBytes 2 o.code ++ beBytes 1 s.mode.num ++ beBytes 1 s.role.num ++
      beBytes 2 0 ++ result
    match s.session o.session with
    | none =>
      s.archMandatory 0 5 2 o.session.toNat (leBytes 2 o.code ++ leBytes 2 o.tag ++ leBytes 4 o.counter ++ body)
    | some x =>
      let s := s.modSession o.session (fun x => { x with done := storeDone x.done (o.tag, o.id, body) })
      match x.route with
      | some r => if r.completions then s.notify o.session st.code o.tag body else s
      | none => s

/-- The same for an operation that may be none. -/
def State.completeOpt (s : State) (id : Option Nat) (st : Status) (result : List Byte := []) : State :=
  match id with
  | none => s
  | some i => s.complete i st result

/-- The outcome of an event at resource `k` of `n` that finds the module in `s` and would leave it in `t`: a resource that the module
does not have has no events, so only the time has passed (DESIGN CHOICE, log 149). -/
def atRes (k n : Nat) (s t : State) : Host.Outcome State Fault Refusal := .next (if k < n then t else s)

/-- Is an operation of a command code running? -/
def State.running (s : State) (code : Nat) : Bool := s.mbx.async.any (·.code == code)

end Sys2Proof.Machine
end

