-- ==== Sys2Proof/Machine/Image.lean ====
section
/-!
DEFINITION. The process image: producers' updates, the force list over them, binary edges that start tasks, and the points
a unit publishes (R121, R127, R133, R150–R153).
-/
namespace Sys2Proof.Machine

/-- Change one task. -/
def State.modTask (s : State) (n : Nat) (f : Task → Task) : State :=
  { s with tk := { s.tk with task := tmod s.tk.task n {} f } }

/-- What the running program says of a task. -/
def State.decl (s : State) (n : Nat) : TaskDecl := tget s.tk.prog.tasks n {}

/-- The module decides the due starts of its tasks: in a run mode as lead, or isolated on its own inputs (R128, R255, R279), from
its partner's departure notice or loss on (R277, R278), and not from its own departure notice on (R278). -/
def State.decidesStarts (s : State) : Bool :=
  s.mode.isRun && !s.sup.powerFail && (s.role != .standby || s.pair.gone || s.pair.departure.isSome) &&
    !(match s.pair.departure with | some d => d.leaving | none => false)

/-- An event sets a due start of a task at time `t`; several of one tick make one (R127). A synchronised STANDBY keeps it too, for the
start whose agreed frame it awaits (R34, R277). -/
def State.setDue (s : State) (n t : Nat) : State :=
  if (s.decidesStarts || (s.mode.isRun && s.role == .standby && s.pair.sync)) && s.taskOn n && !(s.task n).due.contains t then
    s.modTask n (fun k => { k with due := k.due ++ [t] })
  else s

/-- The tasks of CadenceKind 2 and EventKind 0 that a change of binary point `p` from `a` to `b` starts (R127). -/
def State.edgeStarts (s : State) (p : Nat) (a b : Bool) (t : Nat) : State :=
  (List.range 32).foldl (fun s n =>
    let c := s.taskCtl n
    let edge := bits c 8 2
    if bits c 16 2 = 2 ∧ bits c 10 2 = 0 ∧ s.eff (0x0302 + 6 * n) % 65536 = p ∧
        ((!a && b && bit edge 0) || (a && !b && bit edge 1)) = true then s.setDue n t
    else s) s

/-- The force list is applied in this mode (R150): in M5 by the mark of the last agreed input frame, and while a cycle so marked is
open. -/
def State.forceMode (s : State) : Bool :=
  match s.mode with
  | .m8 => true
  | .m4 | .m6 => s.eff 0x0106 == 1
  | .m5 => s.tk.peerForces || (List.range 32).any (fun n => match (s.task n).cyc with | some c => c.forces | none => false)
  | _ => false

/-- Change one force slot. -/
def State.modForce (s : State) (k : Nat) (f : Force → Force) : State :=
  { s with tk := { s.tk with forces := tmod s.tk.forces k {} f } }

/-- A write of a binary point, with the starts its edge gives in the tick of the update (R127). -/
def State.putBp (s : State) (p : Nat) (v : Bool) (t : Nat) : State :=
  let a := decide (s.bp p ≠ 0)
  let s := s.setBp p v t
  if a = v then s else s.edgeStarts p a v s.now

/-- A producer's update of an analogue point, stamped `t`: a forced point keeps its forced value, and the update is kept
underneath (R150). -/
def State.produceAp (s : State) (p v t : Nat) : State :=
  match s.forceSlot 1 p with
  | some k =>
    match (tget s.tk.forces k {}).under with
    | some u => s.modForce k (fun f => { f with under := some (u.write (v % 2 ^ 32) t) })
    | none => s.setAp p v t
  | none => s.setAp p v t

/-- A producer's update of a binary point, stamped `t` (R150). -/
def State.produceBp (s : State) (p : Nat) (v : Bool) (t : Nat) : State :=
  match s.forceSlot 2 p with
  | some k =>
    match (tget s.tk.forces k {}).under with
    | some u => s.modForce k (fun f => { f with under := some (u.write (b2n v) t) })
    | none => s.putBp p v t
  | none => s.putBp p v t

/-- A force is in effect: the image takes its value, and keeps the producer's underneath (R150). -/
def State.installForce (s : State) (k : Nat) : State :=
  let f := tget s.tk.forces k {}
  if f.kind = 0 ∨ f.ending then s
  else
    let u := if f.kind = 1 then tget s.pts.ap f.point {} else tget s.pts.bp f.point {}
    let s := if f.under.isSome then s else s.modForce k (fun f => { f with under := some u })
    if f.under.isSome ∧ u.val = f.value then s
    else if f.kind = 1 then s.setAp f.point f.value s.now
    else s.putBp f.point (f.value != 0) s.now

/-- A force ends: the image takes the producer's value, stamped with this instant (R150). -/
def State.liftForce (s : State) (k : Nat) : State :=
  let f := tget s.tk.forces k {}
  match f.under with
  | none => s
  | some u =>
    let s := s.modForce k (fun f => { f with under := none })
    if f.kind = 1 then s.setAp f.point u.val s.now else s.putBp f.point (u.val != 0) s.now

/-- An entry leaves the list. -/
def State.dropForce (s : State) (k : Nat) : State :=
  let s := s.liftForce k
  { s with tk := { s.tk with forces := tdel s.tk.forces k } }

/-- The entries that have been cleared end (R150). -/
def State.endForces (s : State) : State :=
  ((s.tk.forces.filter (fun x => x.2.ending)).map Prod.fst).foldl State.dropForce s

/-- At a slice load or close, cleared forces end and the forces that are applied come into effect (R150). -/
def State.installForces (s : State) : State :=
  let s := s.endForces
  if s.tk.applied then (s.tk.forces.map Prod.fst).foldl State.installForce s else s

/-- The forces that a cycle is under come into effect at its load and close: on a STANDBY exactly where its agreed input frame carries
the mark (R150). -/
def State.installFor (s : State) (c : Cycle) : State :=
  if s.role == .standby && !c.forces then s.endForces else s.installForces

/-- The list begins or ceases to be applied (R150, R153): EV012 when it begins with entries in it, every underlying value back
when it ceases. -/
def State.refreshForces (s : State) : State :=
  let on := s.forceMode && s.forceCount != 0
  if on && !s.tk.applied then
    ({ s with tk := { s.tk with applied := true } }).raise 12 [(2, s.forceCount)]
  else if !on && s.tk.applied then
    let s := if s.forceMode then s else ((s.tk.forces.map Prod.fst).foldl State.liftForce s).endForces
    { s with tk := { s.tk with applied := false } }
  else s

/-- The declaration of a point (R121). -/
def Program.declOf (p : Program) (binary : Bool) (n : Nat) : Option PointDecl :=
  p.points.find? (fun d => d.binary == binary && d.point == n)

/-- A unit publishes an analogue value (R121). -/
def State.publishAp (s : State) (kind producer v t : Nat) : State :=
  match s.tk.prog.pointOf kind producer false with
  | some p => s.produceAp p v t
  | none => s

/-- A unit publishes a binary value (R121). -/
def State.publishBp (s : State) (kind producer : Nat) (v : Bool) (t : Nat) : State :=
  match s.tk.prog.pointOf kind producer true with
  | some p => s.produceBp p v t
  | none => s

/-- The next free value, and the state that has taken it (log 8). -/
def State.takeFree (s : State) : Nat × State := (Config.freeValue s.free, { s with free := s.free + 1 })

/-- A synchronised pair (R288 PairState bit 27). -/
def State.synced (s : State) : Bool := s.pair.sync

end Sys2Proof.Machine
end

