-- ==== Sys2Proof/Machine/Outputs.lean ====
section
/-!
DEFINITION. The local outputs: loop commands, shares and stage targets (R387–R389, R42–R44, R277–R279), digital output
commands and pins (R420, R421), and the call lines (R427).
-/
namespace Sys2Proof.Machine

/-! ## Loop outputs -/

/-- Change one loop output. -/
def State.modAo (s : State) (n : Nat) (f : AoChan → AoChan) : State :=
  { s with ao := { s.ao with chan := tmod s.ao.chan n {} f } }
/-- Source 1, the loop engine (R387). -/
def State.aoByLoop (s : State) (n : Nat) : Bool := bit (s.aoConfig n) 30

/-- The stage target in mA, binary64 (R388): 0 mA where the stage is not enabled or is out of service; 4 or 20 mA while
AO_TRIM holds it (R398). -/
def State.aoTarget (s : State) (n : Nat) : Nat :=
  let c := s.aoChan n
  if !s.aoOn n || c.dead then 0
  else match c.trimOp with
    | some 1 => f64 4 1
    | some 2 => f64 20 1
    | _ => fdiv fmt64 (fmul fmt64 (f32to64 (s.aoCommand n)) (ofInt fmt64 (s.shareInUse n))) (f64 100 1)

/-- The stage setpoint: the user trim a + b × I on the target (R398); factory trim only while AO_TRIM holds the stage. -/
def State.aoSetpoint (s : State) (n : Nat) : Nat :=
  let c := s.aoChan n
  if c.trimOp.isSome || s.aoTarget n = 0 then s.aoTarget n
  else fadd fmt64 (f32to64 (c.trim % 2 ^ 32)) (fmul fmt64 (f32to64 (c.trim / 2 ^ 32)) (s.aoTarget n))

/-- The producing task of an output's command is stopped, or its command is no number (R389). -/
def State.aoFault (s : State) (n : Nat) : State := s.modAo n (fun a => { a with bad := true, held := false })

/-- A new command for an output, binary32 (R387, R389). -/
def State.setAoCmd (s : State) (n v : Nat) : State :=
  if fisFin fmt32 v then s.modAo n (fun a => { a with cmd := v, bad := false, held := false }) else s.aoFault n

/-- The task that commands a loop output: the producer of its CmdPoint (R387). -/
def State.aoTask (s : State) (n : Nat) : Option Nat :=
  if s.aoOn n && !s.aoByLoop n then
    match s.tk.prog.declOf false (s.aoConfig n % 65536) with
    | some d => if d.kind = 1 then some d.producer else none
    | none => none
  else none

/-- The loop outputs that a task commands (R264 AoMask). -/
def State.taskAos (s : State) (t : Nat) : List Nat := (List.range 16).filter (fun n => s.aoTask n == some t)

/-- S of the stages that carry a share rises to 100 % (R277, R279, R388), with EV165 once. -/
def State.raiseShares (s : State) (cause : Nat) : State :=
  if s.ao.raised || !s.has .ao then s
  else
    let mask := (List.range 16).foldl (fun a n => if s.aoOn n then a + 2 ^ n else a) 0
    ({ s with ao := { s.ao with raised := true } }).raise 165 [(2, mask), (1, cause)]

/-! ## Digital outputs and call lines -/

/-- Change one input. -/
def State.modIn (s : State) (n : Nat) (f : Input → Input) : State :=
  { s with dio := { s.dio with inp := tmod s.dio.inp n {} f } }
/-- Change one switch. -/
def State.modSw (s : State) (m : Nat) (f : Switch → Switch) : State :=
  { s with dio := { s.dio with sw := tmod s.dio.sw m {} f } }
/-- The switch is on: commanded, not latched off and not turned off by its protection (R421). -/
def State.swOn (s : State) (m : Nat) : Bool :=
  s.swCommand m && !(s.sw m).latched && (s.sw m).retryFrom.isNone

/-- A new command for a switch. A command that goes off drops a pending retry and keeps the count; one that comes on is a new attempt, whose
fault flags are gone until it trips (R421, log 18). -/
def State.setSw (s : State) (m : Nat) (v : Bool) : State :=
  s.modSw m (fun w =>
    let new := v && !w.cmd && !w.latched
    { w with
      cmd := v, atFallback := false, retryFrom := if v then w.retryFrom else none,
      overcur := w.overcur && !new, thermal := w.thermal && !new,
      retrying := v && w.retrying, onAt := if v && !w.cmd then s.tick else w.onAt })

/-- The task that drives a digital output: the producer of its CmdPoint (R420). -/
def State.doTask (s : State) (m : Nat) : Option Nat :=
  if s.doOn m && s.doSource m == 0 then
    match s.tk.prog.declOf true (s.doConfig m % 65536) with
    | some d => if d.kind = 1 then some d.producer else none
    | none => none
  else none

/-- The outputs that a task drives (R264 DoMask). -/
def State.taskDos (s : State) (t : Nat) : List Nat := (List.range 32).filter (fun m => s.doTask m == some t)

/-- The expected load state (R423): with a synchronised partner, the OR of the two commands. -/
def State.doExpected (s : State) (m : Nat) : Bool :=
  s.swOn m || (s.pair.sync && (s.sw m).peer)

/-- Is the field supply of an output lost (R424)? FLD1 feeds DO00–DO15 and AO00–AO07, FLD2 the others. -/
def State.supplyLost (s : State) (k : Nat) : Bool := s.dio.lost.getD k false

/-- The local outputs take the AO commands and DO states of a cycle: at its release (R387, R420), or mirrored (R265). -/
def State.driveOutputs (s : State) (ao : List (Nat × Nat)) (dos : List (Nat × Bool)) : State :=
  let s := ao.foldl (fun s (n, v) => s.setAoCmd n v) s
  dos.foldl (fun s (m, v) => s.setSw m v) s

/-- On entry into a run mode from M3 every enabled output starts from its fallback (R387, R420). -/
def State.outputsToFallback (s : State) : State :=
  let s := (List.range 16).foldl (fun s n =>
    if s.aoOn n then s.modAo n (fun a => { a with cmd := s.eff (0x0A01 + 8 * n), bad := false, held := true }) else s) s
  (List.range 32).foldl (fun s m =>
    if s.doOn m && s.doSource m != 2 then
      s.modSw m (fun w => { w with cmd := s.doFallback m, atFallback := true, retryFrom := none })
    else s) s

end Sys2Proof.Machine
end

