-- ==== Sys2Proof/Machine/PairOps.lean ====
section
/-!
DEFINITION. What every chapter may do to the pair: withheld markers, divergence, the own-check flag, automatic mode changes and
halts (R34, R36, R40, R41, R270–R272, R278, R281).
-/
namespace Sys2Proof.Machine

/-- Change the pair's state. -/
def State.modPair (s : State) (f : Pair → Pair) : State := { s with pair := f s.pair }

/-- The module has a partner whose digests it awaits (R33): it is in the pair, synchronised. -/
def State.awaitsPartner (s : State) : Bool :=
  s.pair.sync && (s.role == .primary || s.role == .standby)

/-- An announcement frame (type 0x0A): what it announces and its values. Kinds of the model: 1 switch instant, 2 departure
notice, 3 pair-effective command, 4 relayed command, 5 void notice, 6 station state, 7 time correction, 8 panel start. -/
def State.announce (s : State) (what : Nat) (vals : List Nat) : State := s.lane 0x0A (what :: vals)

/-- The local outputs follow a partner's digest for a cycle this module withholds (R265). -/
def State.mirror (s : State) (d : PeerDigest) : State :=
  let s := s.driveOutputs d.ao d.dos
  s.modPair (fun p => { p with mirrors := p.mirrors + 1 })

/-- A withheld marker (R34, R260 type 0x03): the module does not release the OSN and mirrors the partner's digest, at once where it
has already arrived (R265). -/
def State.withhold (s : State) (n cause osn : Nat) : State :=
  let come := (s.task n).peers.find? (·.osn == osn)
  let s := s.modTask n (fun k => { k with
    withheld := if come.isSome then k.withheld else (k.withheld ++ [osn]).drop (k.withheld.length + 1 - 64)
    peers := k.peers.filter (fun x => x.osn != osn)
    waiting := k.waiting.filter (fun h => h.osn != osn) })
  let s := if s.awaitsPartner then s.lane 0x03 [n, cause, osn] else s
  match come with
  | some d => s.mirror d
  | none => s

/-- SoakElapsed starts afresh while the module is a synchronised STANDBY named by PreferredPrimary, and stands at 0 otherwise
(R281). -/
def State.resetSoak (s : State) : State :=
  s.modPair (fun p => { p with soakFrom :=
    if s.role == .standby && p.sync && s.eff 0x0201 == s.mu.slot then some s.tick else none })

/-- An automatic transition waits for the first I/O bus frame boundary after its cause (R40); an earlier one stands, but M11 goes
before all (R41), and nothing before a restart (R55). -/
def State.auto (s : State) (m : Mode) (r : Role) (cause : Nat) : State :=
  let put : State := { s with mu := { s.mu with auto := some ⟨m, r, cause, frameAfter s.now⟩ } }
  match s.mu.auto with
  | some a => if m = .m11 ∧ a.mode ≠ .m11 ∧ a.mode ≠ .m0 then put else s
  | none => put

/-- A copy or a join ends without success (R273, R275, R276): the operation completes, and a module that asked from M7 goes to M3. -/
def State.joinFails (s : State) (st : Status) (cause : Nat) (leave : Bool) : State :=
  let op := s.mu.joinOp
  let s : State := { s with mu := { s.mu with joinOp := none, rejoin := false } }
  let s := s.modPair (fun p => { p with
    joining := false, copy := none, refuseCause := if cause = 0 then p.refuseCause else cause })
  let s := if leave && (s.mode == .m7 || s.role == .isolated) then s.auto .m3 .none 7 else s
  s.completeOpt op st

/-- A mode change other than the join ends a join under way: its command completes with SUPERSEDED (R41, R82). -/
def State.dropJoin (s : State) : State :=
  if s.mu.joinOp.isSome || s.pair.joining then s.joinFails .superseded 0 false else s

/-- A departure begins (R278): the notice names F, the first frame boundary at least 100 µs later. -/
def State.depart (s : State) (after : Nat) : State :=
  let f := frameAtOrAfter (s.now + 100000)
  let s := s.modPair (fun p => { p with departure := some ⟨f, true, after⟩ })
  s.announce 2 [f]

/-- The partner runs and a lane is up, so the module departs rather than disappearing (R278). -/
def State.canDepart (s : State) : Bool :=
  (s.role == .primary || s.role == .standby) && s.mode.isRun && (s.pair.sl0.up || s.pair.sl1.up) && !s.pair.gone

/-- A cause for M11 (R36, R41): HaltCause is stored, a pending change and a join under way are superseded, and the module departs
first where it runs in a pair (R278, R326). -/
def State.halt (s : State) (cause resource : Nat) : State :=
  if s.mode = .m11 ∨ s.mu.haltCause ≠ 0 then s
  else
    let s := { s with mu := { s.mu with haltCause := cause, haltResource := resource } }
    let s := match s.mu.pending with
      | some c => ({ s with mu := { s.mu with pending := none } }).completeOpt c.op .superseded
      | none => s
    let s := s.dropJoin
    if s.canDepart then s.depart 2 else s.auto .m11 .none 7

/-- A record as the copy set carries it is taken; the counters and flags stay this module's own (R209). -/
def recTake (r x : LoopRec) : LoopRec :=
  { r with e1 := x.e1, e2 := x.e2, e3 := x.e3, u1 := x.u1, u2 := x.u2, u3 := x.u3, out := x.out, init := x.init }

/-- What the copy set replaces goes to its reset state before the copy arrives, as the set lists only what differs from that (R275): the
state areas, previous edge states, force list, constant patches and loop states. -/
def State.takeFresh (s : State) : State :=
  let s := (List.range 32).foldl (fun s n => State.modTask s n (fun k => { k with area := [], prev := [] })) s
  let clear := fun (p : ProgSlot) => { p with patches := [] }
  { s with
    loop := { s.loop with rec_ := s.loop.rec_.map (fun (r, x) => (r, recTake x {})) }
    pair := { s.pair with takenOut := [] }
    tk := { s.tk with
      forces := []
      slotA := if s.tk.active = 0 then clear s.tk.slotA else s.tk.slotA
      slotB := if s.tk.active = 1 then clear s.tk.slotB else s.tk.slotB } }

/-- A task-state resynchronisation begins on the STANDBY (R271): it stops sending and takes the copy set. -/
def State.resync (s : State) : State :=
  if s.pair.resync then s
  else
    let s := s.modPair (fun p => { p with
      resync := true, copy := some ⟨s.tick, true, 0⟩, resyncs := p.resyncs + 1 })
    let s := (List.range 32).foldl (fun s n =>
      (s.task n).waiting.foldl (fun s h => s.withhold n 3 h.osn) s) s
    s.takeFresh.resetSoak

/-- The module withdraws of itself (R42, R271): the partner is told the switch instant; a pending change is superseded. -/
def State.withdraw (s : State) (m : Mode) (f : Nat) : State :=
  let op := s.mu.pending.bind (·.op)
  let c : ModeChange := {
    target := m, role := .none, at_ := f, pair := true, op := none, confirmed := true, cause := 7, command := false
    withdraws := true, joins := false, streams := [] }
  let s := { s with mu := { s.mu with pending := some c } }
  (s.announce 1 [1, f, m.num]).completeOpt op .superseded

/-- The STANDBY diverges (R270): EV040, and a resynchronisation, of the task states or of the loop or alarm states alone (which R209 and
R249 carry out), or at DivergenceLimit within DivergenceWindow a withdrawal to
M3 (R271). Causes are the rows of R270 from 1: digest, late agreements, retained hash, catch-up, loop, alarm. -/
def State.diverge (s : State) (cause task osn : Nat) : State :=
  if s.role ≠ .standby then s
  else
    let w := s.eff 0x0209 * Config.ticksPerSecond
    let recent := s.pair.divTicks.filter (fun t => decide (s.tick < t + w)) ++ [s.tick]
    let lim := decide (s.eff 0x0208 ≤ recent.length)
    let s := s.modPair (fun p => { p with divTicks := recent, divergences := p.divergences + 1 })
    let s := s.raise 40 [(1, cause), (1, task), (4, osn), (1, b2n lim)]
    let s := s.resetSoak
    if lim then s.withdraw .m3 (frameAfter s.now)
    else if cause ≤ 4 then s.resync
    else s.modPair (fun p => { p with resyncs := p.resyncs + 1 })

/-- The module raises its own-check flag (R272): a flagged STANDBY resynchronises; a flagged PRIMARY asks for a role swap at the next
I/O bus frame boundary at which its partner can take over. -/
def State.raiseFlag (s : State) (cause : Nat) : State :=
  let s := { s with pair := { s.pair with
    flag := true, flagCause := s.pair.flagCause ||| 2 ^ cause } }
  let s := s.resetSoak
  if s.role = .standby then s.resync else s

/-- A Curator restart begins (R20, R95, R256): mailboxes fall silent, the watchdog goes into restart grace, and the event counters
are marked. Causes of EV016. -/
def State.curatorRestart (s : State) (cause : Nat) : State :=
  if s.mbx.restarting.isSome || s.mode == .m0 then s
  else { s with mbx := { s.mbx with
    restarting := some (cause, s.tick), restartMark := s.ev.src.map (fun (k, e) => (k, e.count)) } }

/-- A flagged PRIMARY withholds its cycles while its partner can take over (R272). -/
def State.withholdsForFlag (s : State) : Bool :=
  s.pair.flag && s.role == .primary && s.pair.sync && !s.pair.partner.flag

end Sys2Proof.Machine
end

