-- ==== Sys2Proof/Machine/AnnexOps.lean ====
section
/-!
DEFINITION. Resources, their states and kinds (R313), limits and proven faults (R315, R316), waiting migrations (R318) and an
empty Annex (R326).
-/
namespace Sys2Proof.Machine

/-- Change the account of a resource. -/
def State.modRes (s : State) (r : Nat) (f : ResCount → ResCount) : State :=
  { s with annex := { s.annex with res := tmod s.annex.res r {} f } }
/-- Set the state of a resource. -/
def State.setRes (s : State) (r v : Nat) : State := s.modRes r (fun c => { c with state := some v })

/-- The resources of a kind in the Annex, ascending. -/
def State.spares (s : State) (k : Nat) : List Nat :=
  (List.range 52).filter (fun r => resKind r == k && s.resState r == 1)

/-- The spares that can take over from a resource: those of its kind in the Annex. Of the DRAM devices only D9 is wired to take another's
lanes (R321, R329), and a converter or stage that once served a channel can only take its own work back, since the crosspoints belong to
the spares (R313, R324, R329). -/
def State.candidates (s : State) (r : Nat) : List Nat :=
  (s.spares (resKind r)).filter (fun q =>
    match resKind r with
    | 2 => q == 19
    | 4 => isSpare q || (tget s.annex.res r {}).standsFor == some q
    | 5 => isSpare q || (tget s.annex.res r {}).standsFor == some q
    | _ => true)

/-- The converter whose channels a converter serves (R323, R329). -/
def State.convServed (s : State) (c : Nat) : Nat :=
  if 8 ≤ c then ((tget s.annex.convRemap c none).map Prod.fst).getD c else c

/-- The output that a stage serves, if any (R313, R329). -/
def State.stageOutput (s : State) (st : Nat) : Option Nat :=
  if 16 ≤ st then tget s.annex.stageRemap st none
  else if [16, 17].any (fun p => tget s.annex.stageRemap p none == some st) then none else some st

/-- EV084, once for a kind (R326). -/
def State.exhaust (s : State) (k : Nat) : State :=
  if s.annex.exhausted.contains k || !(s.spares k).isEmpty then s
  else ({ s with annex := { s.annex with exhausted := s.annex.exhausted ++ [k] } }).raise 84 [(1, k)]

/-- A spare fails its test (R314): it is FAILED and leaves the Annex. -/
def State.spareFails (s : State) (r : Nat) : State := (s.setRes r 3).exhaust (resKind r)

/-- The converter stops giving results (R326): its direct results stay VALID 0. -/
def State.convDead (s : State) (c : Nat) : State :=
  { s with ai := { s.ai with conv := tmod s.ai.conv c {} (fun k => { k with
    dead := true, running := false, visit := none, direct := [] }) } }

/-- A proven fault of a resource that no spare of its kind can replace (R326). Core pairs and flash blocks: see their own
operations. -/
def State.faultNoSpare (s : State) (r : Nat) : State :=
  match resKind r with
  | 2 => s.halt 3 r
  | 4 => s.convDead (s.convServed (r - 21))
  | 5 => { s with ao := { s.ao with chan := tmod s.ao.chan ((s.stageOutput (r - 31)).getD (r - 31)) {} (fun a => { a with dead := true }) } }
  | 6 => s.halt 2 r
  | _ => s

/-- A migration is asked for (R316, R318): it waits for its start, unless one of that resource already runs or waits. -/
def State.askMigration (s : State) (r cause : Nat) (op : Option Nat) (ready : Bool) : State :=
  if s.annex.running.any (·.resource == r) || s.annex.waiting.any (·.resource == r) then s
  else
    { s with annex := { s.annex with
      waiting := s.annex.waiting ++ [⟨resKind r, r, none, cause, op, s.tick, ready⟩] } }

/-- A proven fault (R315, R316): its migration starts at once where a spare stands by. A converter in rotation is replaced for
good at the end of its rotation (R323). -/
def State.provenFault (s : State) (r : Nat) : State :=
  let s := s.exhaust (resKind r)
  match s.annex.rotation with
  | some o =>
    if resKind r = 4 ∧ r = 21 + o.conv then { s with annex := { s.annex with rotation := some { o with permanent := true } } }
    else if (s.candidates r).isEmpty then s.faultNoSpare r else s.askMigration r 2 none true
  | none => if (s.candidates r).isEmpty then s.faultNoSpare r else s.askMigration r 2 none true

/-- A count has crossed its limit (R315, R316): EV080, and with AutoMigrate the migration. Counters: 1 corrected errors,
2 program/erase cycles, 3 drift, 4 hot hours, 5 thermal events, 6 oscillator error, 7 engine mismatches. -/
def State.limitCrossed (s : State) (r counter value limit : Nat) : State :=
  if s.annex.crossed.contains (256 * counter + r) then s
  else
    let s := { s with annex := { s.annex with crossed := s.annex.crossed ++ [256 * counter + r] } }
    let s := s.raiseMand 80 [(1, r), (1, counter), (4, value), (4, limit)]
    if counter = 7 then s
    else if (match s.annex.rotation with | some o => r == 21 + o.conv | none => false) then
      { s with annex := { s.annex with rotation := s.annex.rotation.map (fun o => { o with permanent := true }) } }
    else if s.eff 0x0760 ≠ 1 then s
    else
      let s := s.exhaust (resKind r)
      if (s.candidates r).isEmpty then s else s.askMigration r 1 none true

/-- The mismatches of the loop engine (52) or the alarm engine (53) in the last 24 h are held against their limit (R315): the
engines have no resource number in R313. -/
def State.engineLimit (s : State) (r : Nat) : State :=
  let hist := if r = 52 then s.annex.loopMis else s.annex.alarmMis
  let n := (hist.filter (fun t => decide (s.ident.opSeconds < t + 86400))).length
  if s.eff 0x0768 ≤ n then s.limitCrossed r 7 n (s.eff 0x0768)
  else { s with annex := { s.annex with crossed := s.annex.crossed.filter (· != 256 * 7 + r) } }

/-- The placement epoch of a kind rises (R318 step 3). -/
def State.bumpEpoch (s : State) (k : Nat) : State :=
  { s with annex := { s.annex with epoch := tmod s.annex.epoch k 0 (fun e => (e + 1) % 256) } }

/-- EV081 at step 1 (R318). -/
def State.migBegin (s : State) (r spare cause : Nat) : State := s.raiseMand 81 [(1, r), (1, spare), (1, cause)]

/-- The freeze of step 1 on the requesters of a mask, which ends with step 4 in this same step: EV111 where the effective mask
gains a bit (R318, R350). -/
def State.freezePulse (s : State) (mask : Nat) : State :=
  let eff := s.eff 0x08B0 ||| s.prot.freezes
  if mask &&& eff = mask then s else s.raise 111 [(4, mask ||| eff), (1, 2)]

/-- Steps 3 and 4 (R318): the epoch, EV082, the step's time, the count, and the completion of a command. -/
def State.migEnd (s : State) (r spare : Nat) (start : Nat) (op : Option Nat) : State :=
  let k := resKind r
  let old := tget s.annex.epoch k 0
  let s := s.bumpEpoch k
  let s := s.modRes r (fun c => { c with lastStep := s.now })
  let s := s.modRes spare (fun c => { c with lastStep := s.now, standsFor := some r })
  let s := { s with annex := { s.annex with
    count := s.annex.count + 1, last := tset s.annex.last k none (some ⟨r, old, s.tick, false⟩)
    running := s.annex.running.filter (·.resource != r), waiting := s.annex.waiting.filter (·.resource != r) } }
  let s := s.raiseMand 82 [(1, r), (1, spare), (1, tget s.annex.epoch k 0), (8, (s.tick - start) * 8)]
  s.completeOpt op .ok

end Sys2Proof.Machine
end

