-- ==== Sys2Proof/Machine/LoopQueue.lean ====
section
/-!
DEFINITION. Triggers of loop records and their queue (R202, R203).
-/
namespace Sys2Proof.Machine

/-- Change one loop record's state. -/
def State.modRec (s : State) (r : Nat) (f : LoopRec → LoopRec) : State :=
  { s with loop := { s.loop with rec_ := tmod s.loop.rec_ r {} f } }
/-- One loop record's state. -/
def State.lrec (s : State) (r : Nat) : LoopRec := tget s.loop.rec_ r {}
/-- The entry of a loop record (R193). -/
def State.loopEntry (s : State) (r : Nat) : Nat := s.entry 0x0003 r
/-- Control of a loop record (R194). -/
def State.loopCtl (s : State) (r : Nat) : Nat := fld (s.loopEntry r) 0 0 32

/-- The enabled members of a selector group, ascending (R206). -/
def State.groupMembers (s : State) (g : Nat) : List Nat :=
  ((s.entries 0x0003).filter (fun (_, e) => bit e 31 && bit e 19 && fld e 0x0A 0 8 == g)).map Prod.fst

/-- With a program active, an entry's source is not in the triggering task's slice, or its AP target is not declared for `owner`
(R195, R196). -/
def State.bindFails (s : State) (e owner : Nat) : Bool :=
  let c := fld e 0 0 32
  let slice := fun p =>
    let d := s.decl (bits c 23 5)
    d.inAp.contains p || d.outAp.contains p
  s.tk.active != 0xFF &&
    ((!bit c 21 && !s.tk.prog.points.any (fun d =>
        d.kind == 4 && d.producer == owner && !d.binary && d.point == fld e 8 0 16)) ||
     (bits c 28 2 == 0 && ((!bit c 22 && !slice (fld e 4 0 16)) ||
       (fld e 6 0 16 != 0xFFFF && !slice (fld e 6 0 16)))))

/-- The records of the item a record belongs to: itself, or the enabled members of its group (R203). -/
def State.itemMembers (s : State) (r : Nat) : List Nat :=
  if bit (s.loopCtl r) 19 then s.groupMembers (fld (s.loopEntry r) 0x0A 0 8) else [r]

/-- The item number of a record: the lowest enabled member of its group, or itself (R203). -/
def State.itemOf (s : State) (r : Nat) : Nat := (s.itemMembers r).headD r

/-- UNBOUND of a record is judged anew (R195, R196). -/
def State.bindLoop (s : State) (r : Nat) : State :=
  let e := s.loopEntry r
  s.modRec r (fun x => { x with unbound := bit e 31 && s.bindFails e (s.itemOf r) })

/-- A program has become active (R196): a record whose target or sources do not meet it shows UNBOUND, until a TABLE_WRITE makes it
valid; one that was UNBOUND stays so. -/
def State.bindLoops (s : State) : State :=
  (s.entries 0x0003).foldl (fun s (r, e) =>
    if bit e 31 && s.bindFails e (s.itemOf r) then s.modRec r (fun x => { x with unbound := true }) else s) s

/-- Insert an item in order of trigger tick, then record number (R203). -/
def queueInsert (x : LoopItem) : List LoopItem → List LoopItem
  | [] => [x]
  | y :: t =>
    if y.tick < x.tick ∨ (y.tick = x.tick ∧ y.record < x.record) then y :: queueInsert x t else x :: y :: t

/-- Records are evaluated in this mode (R201). -/
def State.loopsRun (s : State) : Bool := s.mode.isRun && s.eff 0x0580 == 1

/-- A trigger of record `r` over path `path` (0 task close, 1 catalogue, 2 sequence completion), at time `t` (R202, R203). On a
STANDBY it evaluates nothing and is counted: the item waits for its agreement frame, and is evaluated at promotion if that is still
outstanding (R208, R210). -/
def State.loopTrigger (s : State) (r path t : Nat) : State :=
  if !s.loopsRun || !bit (s.loopCtl r) 31 then s
  else if bits (s.loopCtl r) 28 2 ≠ path then
    { s with loop := { s.loop with strays := s.loop.strays + 1 } }
  else
    let k := s.itemOf r
    let s := if s.role == .standby then { s with loop := { s.loop with ownTriggers := s.loop.ownTriggers + 1 } } else s
    if s.role == .standby && s.loop.early.contains k then
      { s with loop := { s.loop with early := s.loop.early.erase k } }
    else
    if s.loop.queue.any (·.record == k) then
      { s with loop := { s.loop with merged := s.loop.merged + 1 } }
    else
      let q := queueInsert ⟨k, s.tick, t, []⟩ s.loop.queue
      { s with loop := { s.loop with queue := q, depthMax := max s.loop.depthMax (min 65535 q.length) } }

/-- The records whose Trigger is the close of task `n` (0) or a sequence completion of converter `n` (2): one trigger for a
record or a group (R202). -/
def State.loopTriggers (s : State) (path n t : Nat) : State :=
  let rs := (s.entries 0x0003).filter (fun (_, e) =>
    bit e 31 && bits e 28 2 == path && bits e 23 5 == n)
  let items := (rs.map (fun (r, _) => s.itemOf r)).eraseDups
  items.foldl (fun s r => s.loopTrigger r path t) s

end Sys2Proof.Machine
end

