-- ==== Sys2Proof/Machine/AiOps.lean ====
section
/-!
DEFINITION. The converters' sequences: starting, stopping, passes and visits (R365–R371), excitation grids and ownership
(R361–R364, R285, R43), and the DMA window (R375).
-/
namespace Sys2Proof.Machine

/-- Change one sequence. -/
def State.modConv (s : State) (c : Nat) (f : Conv → Conv) : State :=
  { s with ai := { s.ai with conv := tmod s.ai.conv c {} f } }
/-- Change one converter's calibration. -/
def State.modCal (s : State) (c : Nat) (f : ConvCal → ConvCal) : State :=
  { s with ai := { s.ai with cal := tmod s.ai.cal c {} f } }
/-- Change one channel. -/
def State.modAi (s : State) (n : Nat) (f : AiChan → AiChan) : State :=
  { s with ai := { s.ai with chan := tmod s.ai.chan n {} f } }
/-- Sequences run in this mode (R371). -/
def State.seqMode (s : State) : Bool :=
  match s.mode with
  | .m3 | .m4 | .m5 | .m6 | .m7 | .m8 | .m9 => true
  | _ => false

/-- The channel an entry of CVc names, if it names one (R357). -/
def seqChannel (c e : Nat) : Option Nat := if seqInput e < 4 then some (4 * c + seqInput e) else none

/-- The entry converts: its channel is enabled, or it names none (R360). -/
def State.seqLive (s : State) (c e : Nat) : Bool :=
  match seqChannel c e with
  | some n => bit (s.aiConfig n) 31
  | none => true

/-- The settings under which a visit runs: [30:26] of ChannelConfig (R369). -/
def State.seqSettings (s : State) (c e : Nat) : Nat :=
  match seqChannel c e with
  | some n => bits (s.aiConfig n) 26 5
  | none => 0

/-- The visit of the first live entry at or after `j` (R369); `fuel` bounds the entries left. -/
def State.nextVisit (s : State) (c : Nat) : Nat → Nat → Option Visit
  | 0, _ => none
  | fuel + 1, j =>
    let k := s.conv c
    if bits k.control 24 5 ≤ j then none
    else
      let e := k.entries.getD j 0
      if s.seqLive c e then
        let set := s.seqSettings c e
        some ⟨j, 0, 0, set, (match tget k.last j none with | some o => o != set | none => false), []⟩
      else s.nextVisit c fuel (j + 1)

/-- The settings of the visit that begins are in effect for its channel, and entries of disabled channels are passed over (R360, R369). -/
def State.visitBegun (s : State) (c : Nat) : State :=
  let s := s.modConv c (fun k => { k with last := k.last.map (fun (j, o) =>
    (j, if s.seqLive c (k.entries.getD j 0) then o else o.map (fun _ => 32))) })
  match (s.conv c).visit with
  | none => s
  | some v =>
    match seqChannel c ((s.conv c).entries.getD v.entry 0) with
    | some n => s.modAi n (fun a => { a with inUse := some v.settings })
    | none => s

/-- A pass begins (R370): the written control and entries are taken over. -/
def State.beginPass (s : State) (c : Nat) : State :=
  let s := s.modConv c (fun k => { k with
    running := true, control := s.eff (0x0980 + 12 * c), entries := (List.range 16).map (s.seqEntry c),
    pass := (k.pass + 1) % 256, visit := none
    index := k.index % (256 * 2 ^ min 12 (s.eff (0x0980 + 12 * c) % 16)) })
  (s.modConv c (fun k => { k with visit := s.nextVisit c 16 0 })).visitBegun c

/-- The converter is busy for a start (R371): 1 running, 2 calibrating. -/
def State.convBusy (s : State) (c : Nat) : Option Nat :=
  if (s.conv c).running then some 1 else if (s.cal (s.physConv c)).running.isSome then some 2 else none

/-- The converter can start: present, not without results, and a sequence is set (R370, R371, R326). -/
def State.convUsable (s : State) (c : Nat) : Bool :=
  s.has .ai && c < 8 && !(s.conv c).dead && bits (s.eff (0x0980 + 12 * c)) 24 5 != 0 && s.seqMode

/-- CVc starts its sequence by SeqGo (R371). -/
def State.seqGo1 (s : State) (c : Nat) : State :=
  if !s.seqMode || !s.has .ai then s
  else match s.convBusy c with
    | some st => s.raise 135 [(1, c), (1, 1), (1, st)]
    | none => if s.convUsable c then s.beginPass c else s

/-- A write to SeqGo (R371). -/
def State.seqGo (s : State) (mask : Nat) : State :=
  ((List.range 8).filter (fun c => bit mask c)).foldl State.seqGo1 s

/-- A write to GoAll (R371): no converter starts where a masked one is busy. -/
def State.goAll (s : State) (mask : Nat) : State :=
  if !s.seqMode || !s.has .ai then s
  else
    let cs := (List.range 8).filter (fun c => bit mask c)
    let busy := cs.filter (fun c => (s.convBusy c).isSome)
    if busy.isEmpty then cs.foldl (fun s c => if s.convUsable c then s.beginPass c else s) s
    else busy.foldl (fun s c => s.raise 135 [(1, c), (1, 2), (1, (s.convBusy c).getD 0)]) s

/-- A write to SeqStop (R371): the sequence ends at the next entry boundary. -/
def State.seqStop (s : State) (mask : Nat) : State :=
  ((List.range 8).filter (fun c => bit mask c)).foldl (fun s c =>
    s.modConv c (fun k => if k.visit.isSome then { k with stop := k.running } else { k with running := false })) s

/-- Sequences with AutoStart and Continuous start (R371). -/
def State.autoStart (s : State) (c : Nat) : State :=
  let ctl := s.eff (0x0980 + 12 * c)
  if bit ctl 31 && bit ctl 30 && (s.convBusy c).isNone && s.convUsable c then s.beginPass c else s

/-- A running sequence whose entries were all of disabled channels looks for a live one (R360). -/
def State.seqKick (s : State) : State :=
  (List.range 8).foldl (fun s c =>
    if (s.conv c).running && (s.conv c).visit.isNone then s.beginPass c else s) s

/-! ## Excitation -/

/-- HalfPeriod in effect, ns (R361, R363). -/
def State.halfNs (s : State) (n : Nat) : Nat := bits ((s.aiChan n).exc.getD (s.aiConfig n)) 16 8 * 250000
/-- Blanking in effect, ns (R361, R363). -/
def State.blankNs (s : State) (n : Nat) : Nat := bits ((s.aiChan n).exc.getD (s.aiConfig n)) 8 8 * 10000

/-- The slot that owns the excitation of a channel, as this module knows it (R285): 0xFF for none. -/
def State.excOwner (s : State) (n : Nat) : Nat :=
  if s.excWanted n then s.mu.slot
  else if s.mode == .m5 || (s.laneUp && (s.pair.partner.role == .primary || s.pair.partner.role == .solo)) then
    1 - s.mu.slot % 2
  else 0xFF

/-- The lead is taken outside a role swap (R385): results are SETTLING until each channel's first swap instant and blanking. -/
def State.excLead (s : State) : State :=
  (List.range 32).foldl (fun s n =>
    if bit (s.aiConfig n) 31 && aiExcited (s.aiConfig n) && !(s.aiChan n).drives then
      let h := s.halfNs n
      s.modAi n (fun a => { a with settle := (s.now / h + 1) * h + s.blankNs n })
    else s) s

/-- Every excitation output goes high-impedance (R43, R278). -/
def State.excOff (s : State) : State :=
  (List.range 32).foldl (fun s n => if (s.aiChan n).drives then s.modAi n (fun a => { a with drives := false }) else s) s

/-! ## The DMA window -/

/-- Where Budget, ArbPriority and freeze of a requester stand (R348, R350): it is held off: frozen, or its budget is used up. -/
def State.rqHeld (s : State) (q : Nat) : Bool :=
  bit (s.eff 0x08B0 ||| s.prot.freezes) q ||
    (match s.prot.budgets with
      | some l => decide (l.getD q 0 ≤ tget s.prot.beats q 0)
      | none => false)

/-- The records of a converter's window become visible when the DMA's signature window is released (R297, R375). -/
def State.releaseWindow (s : State) (c : Nat) : State :=
  let k := s.conv c
  let cap := 256 * 2 ^ min 12 (k.control % 16)
  k.window.foldl (fun s r => s.modConv c (fun k => { k with
    buffer := tset k.buffer k.index {} r, index := (k.index + 1) % cap })) (s.modConv c (fun k => { k with window := [] }))

end Sys2Proof.Machine
end

