-- ==== Sys2Proof/Machine/Operands.lean ====
section
/-!
DEFINITION. The operand forms of the mailbox commands: the frame header (R70), datagrams and their fragments (R67), and the
table of commands (R84).
-/
namespace Sys2Proof.Machine

/-- A request as its frame gives it (R70), with where it came from. -/
structure Req where
  via : Via
  addr : U32
  port : U16
  target : Nat
  box : Nat
  tag : Nat
  code : Nat
  ver : Nat
  retry : Bool
  session : U32
  arg : Nat
  counter : Nat
  /-- Header bytes 0x00–0x1F. -/
  head : List Byte
  mac : List Byte
  body : List Byte
deriving DecidableEq, Repr

/-- Is a frame to be discarded silently (R71)? -/
def badFrame (d : List Byte) : Bool :=
  decide (d.length < 48) || beAt d 0x0C 2 != d.length - 48 || beAt d 0 1 != 1 ||
  beAt d 1 1 / 16 % 8 != 0 || beAt d 7 1 / 2 != 0 || beAt d 0x0B 1 != 0 || beAt d 0x0E 2 != 0 ||
  beAt d 0x1C 4 != 0

/-- The request a good frame holds (R70). -/
def parseReq (via : Via) (addr : U32) (port : U16) (d : List Byte) : Req :=
  { via := via, addr := addr, port := port,
    target := beAt d 1 1 / 128, box := beAt d 1 1 % 16, tag := beAt d 2 2, code := beAt d 4 2, ver := beAt d 6 1,
    retry := beAt d 7 1 % 2 == 1, session := BitVec.ofNat 32 (beAt d 0x10 4), arg := beAt d 0x14 4,
    counter := beAt d 0x18 4, head := d.take 32, mac := slice d 0x20 16, body := d.drop 48 }

/-- One row of the command table (R84): code, level (none: no session needed), mode mask (bit n for Mn). -/
structure CmdRow where
  code : Nat
  level : Option Nat
  modes : Nat
deriving DecidableEq, Repr

/-- The commands of release 3.2 (R84), in ascending code order: VIEW 0, OPERATE 1, ENGINEER 2, SERVICE 3. -/
def cmdTable : List CmdRow := [
  ⟨0x0001, none, 0xFFE⟩, ⟨0x0002, some 0, 0xFFE⟩, ⟨0x0010, none, 0xFFE⟩, ⟨0x0011, some 0, 0xFFE⟩,
  ⟨0x0012, some 3, 0xC0E⟩, ⟨0x0013, some 3, 0xFFE⟩, ⟨0x0014, some 0, 0xFFE⟩, ⟨0x0015, some 0, 0xFFE⟩,
  ⟨0x0020, some 0, 0xFFE⟩, ⟨0x0021, some 1, 0x7FC⟩, ⟨0x0022, some 0, 0xFFC⟩, ⟨0x0023, some 2, 0x7FC⟩,
  ⟨0x0024, some 2, 0x5FC⟩, ⟨0x0025, some 2, 0x5FC⟩, ⟨0x0026, some 2, 0xFFC⟩, ⟨0x0027, some 2, 0x404⟩,
  ⟨0x0030, some 1, 0x7FC⟩, ⟨0x0031, some 3, 0xFFE⟩, ⟨0x0032, some 2, 0x030⟩, ⟨0x0033, some 0, 0xFFE⟩,
  ⟨0x0034, some 1, 0xFFE⟩] ++ [
  ⟨0x0040, some 2, 0x50C⟩, ⟨0x0041, some 2, 0x50C⟩, ⟨0x0042, some 2, 0x170⟩, ⟨0x0043, some 2, 0x170⟩,
  ⟨0x0044, some 2, 0x1F8⟩, ⟨0x0045, some 1, 0x170⟩, ⟨0x0050, some 2, 0x1F0⟩, ⟨0x0051, some 2, 0x1F8⟩,
  ⟨0x0052, some 2, 0x5FC⟩, ⟨0x0053, some 2, 0x7FC⟩, ⟨0x0054, some 3, 0x1F8⟩, ⟨0x0055, some 0, 0xFFE⟩,
  ⟨0x0060, some 1, 0x7FC⟩, ⟨0x0061, some 1, 0x1F8⟩, ⟨0x0062, some 1, 0xFFC⟩, ⟨0x0063, some 0, 0xFFE⟩,
  ⟨0x0064, some 0, 0xFFE⟩, ⟨0x0065, some 0, 0xFFC⟩] ++ [
  ⟨0x0070, some 2, 0x50C⟩, ⟨0x0071, some 2, 0x100⟩, ⟨0x0072, some 1, 0x178⟩, ⟨0x0073, some 2, 0x150⟩,
  ⟨0x0074, some 2, 0x1F8⟩, ⟨0x0075, some 1, 0x1F8⟩, ⟨0x0076, some 1, 0x1F8⟩, ⟨0x0077, some 2, 0x7FC⟩,
  ⟨0x0078, some 1, 0x1F8⟩, ⟨0x0080, some 2, 0x7FC⟩, ⟨0x0090, some 2, 0x5FC⟩, ⟨0x0091, some 2, 0x5FC⟩,
  ⟨0x0092, some 2, 0x5FC⟩, ⟨0x0093, some 2, 0x178⟩, ⟨0x0094, some 2, 0x408⟩]

/-- The row of a command code. -/
def cmdRow (code : Nat) : Option CmdRow := cmdTable.find? (·.code == code)

/-- The fragments of a datagram put together, where they cover it (R67). -/
def joinParts (total : Nat) (parts : List (Nat × List Byte)) : Option (List Byte) :=
  let buf := parts.foldl (fun (b : List Byte) (o, d) => if b.length = o then b ++ d else b) []
  if buf.length = total then some buf else none

/-- Parts in order of their offset. -/
def insertPart (x : Nat × List Byte) : List (Nat × List Byte) → List (Nat × List Byte)
  | [] => [x]
  | y :: t => if x.1 < y.1 then x :: y :: t else if x.1 = y.1 then x :: t else y :: insertPart x t

/-- Does a partly received datagram belong to a packet? -/
def Reassembly.matches_ (a : Reassembly) (p : Packet) : Bool :=
  a.via == p.via && a.addr == p.addr && a.port == p.port && a.ident == p.ident && a.total == p.total

/-- Take in a packet: a whole datagram, the datagram its last fragment completes, or nothing yet (R67: up to 4,144 bytes of
UDP payload; a longer datagram is not reassembled). -/
def State.assemble (s : State) (p : Packet) : State × Option (List Byte) :=
  if p.off = 0 ∧ p.data.length = p.total then (s, some p.data)
  else if 4144 < p.total ∨ p.total < p.off + p.data.length then (s, none)
  else
    let old := (s.mbx.reasm.find? (·.matches_ p)).getD ⟨p.via, p.addr, p.port, p.ident, p.total, s.tick, []⟩
    let parts := insertPart (p.off, p.data) old.parts
    let rest := s.mbx.reasm.filter (fun a => !a.matches_ p)
    match joinParts p.total parts with
    | some d => ({ s with mbx := { s.mbx with reasm := rest } }, some d)
    | none => ({ s with mbx := { s.mbx with reasm := rest ++ [{ old with parts := parts }] } }, none)

end Sys2Proof.Machine
end

