-- ==== Sys2Proof/Machine/Mailbox.lean ====
section
/-!
DEFINITION. The mailbox service: discarding, forwarding, authentication, retransmissions and the order of checks (R66–R83,
R94). A command of the table is a `Cmd`: its checks step by step and what it does.
-/
namespace Sys2Proof.Machine

/-- The Argument of a refusal that names no entry (R70). -/
abbrev noPos : Nat := 0xFFFFFFFF

/-- What a command answers: a status, the Argument of the response, a body, and the state it leaves. -/
structure Rep where
  status : Status
  arg : Nat
  body : List Byte
  /-- The Session of the response where it is not the request's (R74). -/
  session : Option U32
  st : State
  /-- What follows the response: the work of an asynchronous command. -/
  after : State → State
  /-- The response is held: it is sent later (R551). -/
  hold : Bool

/-- A refusal (R79: the state is dropped by the service; `after` holds what a refusal itself does). -/
def refuse (st : Status) (pos : Nat) (s : State) : Rep := ⟨st, pos, [], none, s, id, false⟩

/-- An OK with a body. -/
def okRep (s : State) (body : List Byte := []) (arg : Nat := 0) : Rep := ⟨.ok, arg, body, none, s, id, false⟩

/-- One command of R84 as the service runs it. Each check answers the position of the first entry that fails it. -/
structure Cmd where
  code : Nat
  /-- Step 4 beyond the level: transport not allowed (R75). -/
  barred : Req → State → Bool
  /-- Step 5: an absent unit (R7). -/
  absent : Req → State → Option Nat
  /-- Step 6: the body is malformed. -/
  malformed : Req → State → Option Nat
  /-- Between steps 6 and 7: a session below the level the body needs, or a write to a read-only parameter. -/
  denied : Req → State → Nat → Option Nat
  /-- Step 7 beyond the mode mask. -/
  unready : Req → State → Option Nat
  /-- Step 8. -/
  value : Req → State → Option (Status × Nat)
  /-- Step 9: a resource conflict. -/
  busy : Req → State → Bool
  /-- Completes by notification (R81). -/
  async : Req → State → Bool
  /-- Pair-effective in M4 and M5 (R83). -/
  pair : Req → State → Bool
  /-- What the PRIMARY does at acceptance of a pair-effective command, given the operation it completes, and the Argument it
  answers; none: it schedules it for the application boundary. -/
  accept : Option (Req → Nat → State → Nat × State)
  /-- The effect on one module, given the operation it completes, the request's body and session. -/
  apply : Option Nat → List Byte → U32 → State → State
  /-- The command outside a pair agreement. -/
  run : Req → State → Rep

/-- A command with no further checks. -/
def Cmd.plain (code : Nat) (run : Req → State → Rep) : Cmd :=
  { code := code, barred := fun _ _ => false, absent := fun _ _ => none, malformed := fun _ _ => none,
    denied := fun _ _ _ => none, unready := fun _ _ => none, value := fun _ _ => none, busy := fun _ _ => false,
    async := fun _ _ => false, pair := fun _ _ => false, accept := none, apply := fun _ _ _ s => s, run := run }

/-- Start an asynchronous operation for a request (R81): its number and the state. -/
def State.startOp (s : State) (r : Req) : Nat × State :=
  (s.mbx.nextOp,
   { s with mbx := { s.mbx with
      nextOp := s.mbx.nextOp + 1
      async := s.mbx.async ++ [⟨s.mbx.nextOp, r.session, r.tag, r.code, r.counter⟩] } })

/-- An asynchronous command carried out at once after its ACCEPTED (R81). -/
def runAsync (apply : Option Nat → List Byte → U32 → State → State) (r : Req) (s : State) (arg : Nat := 0) : Rep :=
  let (op, s) := s.startOp r
  ⟨.accepted, arg, [], none, s, apply (some op) r.body r.session, false⟩

/-- An effect that ends with a status and a result, completing its operation. -/
def completing (f : List Byte → U32 → State → State × Status × List Byte)
    (op : Option Nat) (body : List Byte) (sid : U32) (s : State) : State :=
  let (s, st, res) := f body sid s
  s.completeOpt op st res

/-- The journal entry of an executed request (R95): session, RequestCounter, outcome. The newest entry of each session stands. -/
def State.journalled (s : State) (r : Req) (st : Status) : State :=
  { s with mbx := { s.mbx with journal := s.mbx.journal.filter (·.1 != r.session) ++ [(r.session, r.counter, st.code)] } }

/-- A response leaves: to the requester, or over the lanes to the module that forwarded the request (R68, R69). While the Curator
restarts nothing leaves (R95). -/
def State.reply (s : State) (r : Req) (f : List Byte) : State :=
  if s.mbx.restarting.isSome then s
  else if r.target = 1 then s.lane 0x0B [r.box, 1] f else s.emit (.mailbox r.via 47210 r.addr r.port.toNat f)

/-- Send a response (R68, R70) and keep it with the mailbox (R94). -/
def State.respond (s : State) (r : Req) (key : Option (List Byte)) (session : U32) (st : Status) (arg : Nat)
    (body : List Byte) : State :=
  let f := sealFrame key
    (frameHead 0 r.box r.tag r.code r.ver 2 st.code s.mode.num s.role.num body.length session.toNat arg r.counter) body
  let s := s.countStatus st.code
  let s := if st = .stateRefused then { s with mbx := { s.mbx with lastRefused := r.code } } else s
  let s := { s with mbx := { s.mbx with
    boxes := tmod s.mbx.boxes r.box {} (fun b => { b with last := some (r.session, r.counter, f) }) } }
  s.reply r f

/-- A frame is discarded by R76: counted, EV014, and after 16 of them within 10 s from one source that source is ignored
for 60 s. -/
def State.authFail (s : State) (r : Req) : State :=
  let s := { s with mbx := { s.mbx with authFail := s.mbx.authFail + 1 } }
  let s := s.raise 14 [(1, if r.via = .plant then 0 else 1), (4, r.addr.toNat), (4, r.session.toNat)]
  let recent := s.mbx.fails.filter (fun (_, _, t) => decide (s.tick < t + 10 * Config.ticksPerSecond)) ++
    [(r.via, r.addr, s.tick)]
  let mine := recent.filter (fun (v, a, _) => v == r.via && a == r.addr)
  if 16 ≤ mine.length then
    { s with mbx := { s.mbx with
      fails := recent.filter (fun (v, a, _) => !(v == r.via && a == r.addr))
      lockouts := s.mbx.lockouts + 1
      locks := s.mbx.locks ++ [(r.via, r.addr, s.tick + 60 * Config.ticksPerSecond)] } }
  else { s with mbx := { s.mbx with fails := recent } }

/-- The key a level may be opened with (R73): its own, or the all-zero key over SV while the SERVICE key is unset. -/
def State.openKey (s : State) (level : Nat) (via : Via) : Option (List Byte) :=
  match tlook s.mbx.keys level with
  | some k => some k
  | none => if level = 3 ∧ via = .service then some (List.replicate 32 0#8) else none

/-- Pass a request with Target 1 to the partner (R69). The BUSY of an occupied mailbox is sent as the NOT_READY of R69 is, with Session 0
and an all-zero HMAC, since this module has not checked the request (DESIGN CHOICE, log 151). -/
def State.forward (s : State) (q : Req) (d : List Byte) : State :=
  let r := { q with target := 0 }
  let box := tget s.mbx.boxes r.box {}
  match box.fwd with
  | some f =>
    if r.retry && f.session == r.session && f.counter == r.counter then s
    else s.respond r none 0 .busy noPos []
  | none =>
    if s.mbx.relays.any (fun x => beAt x.header 1 1 % 16 == r.box) then s.respond r none 0 .busy noPos []
    else if !s.laneUp then s.respond r none 0 .notReady noPos []
    else
      let s := { s with mbx := { s.mbx with
        forwards := s.mbx.forwards + 1
        boxes := tset s.mbx.boxes r.box {} { box with
          header := r.head ++ r.mac
          request := r.body
          fwd := some ⟨r.via, r.addr, r.port, r.session, r.counter, r.head, s.tick⟩ } } }
      s.lane 0x0B [r.box, 0] d

/-- The fields of a pair-effective command's announcement (R83, announcement type 0x0A). -/
def pairFields (code at_ session counter : Nat) : List Nat := [3, code, at_, session, counter]

/-- The PRIMARY schedules a pair-effective command for the application boundary and announces it (R83). -/
def State.schedulePair (s : State) (r : Req) (op : Nat) : State :=
  let b := frameAtOrAfter (s.now + 500000)
  let s := { s with mbx := { s.mbx with
    scheduled := s.mbx.scheduled ++ [(⟨r.code, r.body, b, some op, r.session, r.counter⟩ : PairCmd)] } }
  s.lane 0x0A (pairFields r.code b r.session.toNat r.counter) r.body

/-- The STANDBY passes a pair-effective command to the PRIMARY (R83). -/
def State.relayPair (s : State) (r : Req) : State :=
  let s := { s with mbx := { s.mbx with
    relays := s.mbx.relays ++ [(⟨r.code, r.via, r.addr, r.port, r.head, r.session, r.counter, s.mbx.nextOp⟩ : Relay)]
    nextOp := s.mbx.nextOp + 1 } }
  s.lane 0x0A [4, r.code, 0, r.session.toNat, r.counter] r.body

/-- Is a command taken to the pair (R83)? -/
def Cmd.isPair (c : Cmd) (r : Req) (s : State) : Bool := (s.mode == .m4 || s.mode == .m5) && c.pair r s

/-- Steps 5 to 9 of R77 under this module's mode, role and effective parameters, for a session of level `lvl`: the first
failing status, if any. -/
def Cmd.check (c : Cmd) (r : Req) (s : State) (lvl modes : Nat) : Option (Status × Nat) :=
  match c.absent r s with
  | some k => some (.notPresent, k)
  | none =>
  match c.malformed r s with
  | some k => some (.badParameter, k)
  | none =>
  match c.denied r s lvl with
  | some k => some (.accessDenied, k)
  | none =>
  if !bit modes s.mode.num || (c.isPair r s && s.role == .isolated) then some (.stateRefused, noPos) else
  match c.unready r s with
  | some k => some (.stateRefused, k)
  | none =>
  match c.value r s with
  | some x => some x
  | none =>
  if (c.async r s || c.isPair r s) && decide (8 ≤ s.mbx.async.length)
  then some (.busy, noPos)
  else if c.busy r s then some (.busy, noPos) else none

/-- Carry out a checked command: on the PRIMARY of a pair by acceptance, elsewhere at once. -/
def Cmd.carry (c : Cmd) (r : Req) (s : State) : Rep :=
  if c.isPair r s then
    let (op, s) := s.startOp r
    match c.accept with
    | some f =>
      let (arg, s) := f r op s
      ⟨.accepted, arg, [], none, s, id, false⟩
    | none => ⟨.accepted, 0, [], none, s.schedulePair r op, id, false⟩
  else c.run r s

/-- The mailbox takes a request: its header into the latch, its body into the request buffer (R66). -/
def State.latch (s : State) (r : Req) : State :=
  { s with mbx := { s.mbx with boxes := tmod s.mbx.boxes r.box {} (fun b => { b with
      header := r.head ++ r.mac
      request := r.body
      requester := some (r.via, r.addr, r.port, r.target) }) } }

/-- An alarm command or write accepted in a pair (R222, R248): it is applied immediately after the first release, at S + 3.0 ms, that
lies at least 500 µs ahead. Where that release is the running scan's, whose agreement frame has left, it is announced as R83 announces;
otherwise it waits for the next scan, whose frame carries it. -/
def State.alWaits (s : State) (code : Nat) (body : List Byte) (op : Option Nat) (session : U32) (counter : Nat) : State :=
  let later := { s with al := { s.al with waiting := s.al.waiting ++ [(⟨code, body, op, session, s.now⟩ : AlWait)] } }
  match s.al.last with
  | some t =>
    if s.now ≤ t + 2500000 then
      ({ s with mbx := { s.mbx with
          scheduled := s.mbx.scheduled ++ [(⟨code, body, t + 3000000, op, session, counter⟩ : PairCmd)] } }).lane 0x0A
        (pairFields code (t + 3000000) session.toNat counter) body
    else later
  | none => later

/-- The mailbox waits for a forwarded or relayed request (R66, R69, R83). -/
def State.occupied (s : State) (box : Nat) : Bool :=
  (tget s.mbx.boxes box {}).fwd.isSome || s.mbx.relays.any (fun x => beAt x.header 1 1 % 16 == box)

/-- Steps 2 to 9 of R77 and the answer. A refusal changes nothing but the counters of R79. On the STANDBY a pair-effective command
passes steps 5, 6 and the level check here and the others on the PRIMARY (R83); that no sync lane is up, and this module's own limit of
8 operations (R81; the relayed requests counted), is found before it is passed on (DESIGN CHOICE, log 150). -/
def State.serveReq (s : State) (c : Cmd) (r : Req) (key : Option (List Byte)) (sid : U32) (lvl : Nat) (unset : Bool) :
    State :=
  let no := fun (st : Status) (k : Nat) => s.respond r key sid st k []
  if s.occupied r.box then no .busy noPos
  else
  let s := s.latch r
  let no := fun (st : Status) (k : Nat) => s.respond r key sid st k []
  match cmdRow r.code with
  | none => no .badCommand noPos
  | some row =>
    if r.ver ≠ 1 then no .badCommand noPos
    else if (match row.level with | some l => decide (lvl < l) | none => false) || (r.via == .plant && r.box == 15) ||
        (unset && !([0x0002, 0x0013, 0x0012, 0x0011].contains r.code)) || c.barred r s then
      no .accessDenied noPos
    else if c.isPair r s && s.role == .standby then
      match c.absent r s with
      | some k => no .notPresent k
      | none =>
      match c.malformed r s with
      | some k => no .badParameter k
      | none =>
      match c.denied r s lvl with
      | some k => no .accessDenied k
      | none =>
      if !s.laneUp then no .notReady noPos
      else if 8 ≤ s.mbx.async.length + s.mbx.relays.length then no .busy noPos
      else s.relayPair r
    else
      match c.check r s lvl row.modes with
      | some (st, k) => no st k
      | none =>
        let rep := c.carry r s
        if rep.hold then rep.st
        else if rep.status = .ok ∨ rep.status = .accepted then
          rep.after ((rep.st.respond r key (rep.session.getD sid) rep.status rep.arg rep.body).journalled r rep.status)
        else rep.after (no rep.status rep.arg)

/-- A request of an open session: R76, R75, the retransmission rule of R94, then R77. -/
def State.sessionReq (s : State) (c : Cmd) (r : Req) : State :=
  match s.session r.session with
  | none => s.authFail r
  | some x =>
    if x.via ≠ r.via ∨ x.addr ≠ r.addr ∨ (hmac x.key (r.head ++ r.body)).take 16 ≠ r.mac then s.authFail r
    else
      let bad := match x.counter with
        | none => r.counter != 1
        | some k => decide (r.counter < k) || (r.counter == k && !r.retry)
      if bad then s.authFail r
      else
        let again := r.retry && x.counter == some r.counter
        let s := s.modSession x.id (fun x => { x with counter := some r.counter, lastTick := s.tick })
        let box := tget s.mbx.boxes r.box {}
        let executing := s.mbx.relays.any (fun y => y.session == r.session && y.counter == r.counter)
        match again, box.last with
        | true, some (sid, k, f) =>
          if sid = r.session ∧ k = r.counter then s.reply r f
          else if executing then s
          else s.serveReq c r (some x.key) x.id x.level x.unsetKey
        | true, none => if executing then s else s.serveReq c r (some x.key) x.id x.level x.unsetKey
        | false, _ => s.serveReq c r (some x.key) x.id x.level x.unsetKey

/-- A good frame is served by this module (R71, R73, R74, R76). -/
def State.serveFrame (s : State) (c : Cmd) (r : Req) : State :=
  if r.code = 0x0001 then s.serveReq c r none 0 0 false
  else if r.code = 0x0010 then
    match s.openKey (beAt r.body 0 1) r.via with
    | none => s.authFail r
    | some k =>
      if r.session ≠ 0 ∨ (hmac k (r.head ++ r.body)).take 16 ≠ r.mac then s.authFail r
      else s.serveReq c r (some k) 0 0 false
  else s.sessionReq c r

/-- The mailbox service is silent: in M0, while a firmware activation runs, while the Curator restarts, and once a restart has been
accepted (R55, R84, R95, R511). -/
def State.mailboxSilent (s : State) : Bool := s.mode == .m0 || s.mode == .m9 || s.mbx.restarting.isSome || s.goingDown

/-- A source is ignored after failed authentications (R76). -/
def State.lockedOut (s : State) (via : Via) (addr : U32) : Bool :=
  s.mbx.locks.any (fun (v, a, t) => v == via && a == addr && decide (s.tick < t))

/-- A datagram to port 47210 (R68, R69, R71, R88). A module that does not know its slot is silent on the plant network (R28). -/
def State.receive (s : State) (c : Cmd) (via : Via) (addr : U32) (port : U16) (d : List Byte) : State :=
  if s.mailboxSilent || (via == .plant && s.mu.slot == 0xFF) then s
  else if (via == .plant && s.eff 0x0145 == 0) then
    { s with mbx := { s.mbx with frameErr := s.mbx.frameErr + 1 } }
  else if s.lockedOut via addr then s
  else if badFrame d then { s with mbx := { s.mbx with frameErr := s.mbx.frameErr + 1 } }
  else
    let r := parseReq via addr port d
    if r.target = 1 then s.forward r d else s.serveFrame c r

/-- A mailbox command's row: time passes, the packet is taken in, and a whole datagram is served. A datagram of another row's
command is not this row's. -/
def execMail (c : Cmd) (isMine : List Byte → Bool) (dt : Nat) (p : Packet) (s : State) :
    Host.Outcome State Fault Refusal :=
  match (s.elapse dt).assemble p with
  | (s, none) => .next s
  | (s, some d) =>
    if isMine d || (cmdRow (beAt d 4 2)).isNone then .next (s.receive c p.via p.addr p.port d)
    else .fault .otherCommand

/-- The datagram's command is `code`, or the frame is too short to hold one. -/
def codeIs (code : Nat) (d : List Byte) : Bool := decide (d.length < 48) || beAt d 4 2 == code

end Sys2Proof.Machine
end

