-- ==== Sys2Proof/Machine/Phase.lean ====
section
/-!
DEFINITION. The phase unit and the catalogue (R162–R192): edges, lock and unlock, extrapolation, entries that fire and are
deferred, phase-bound tasks, and the unit's points. Times are ticks.
-/
namespace Sys2Proof.Machine

/-- Change one reference. -/
def State.modRef (s : State) (n : Nat) (f : PhRef → PhRef) : State :=
  { s with ph := { s.ph with ref := tmod s.ph.ref n {} f } }
/-- The unit tracks in this mode (R170, R186). -/
def State.tracks (s : State) (n : Nat) : Bool :=
  s.has .phs && s.cfg.loaded && bit (s.refPar n 0) 31 && (match s.mode with | .m0 | .m1 | .m11 => false | _ => true)

/-- The phase of an edge at count or tooth position `k` (R165). -/
def State.edgePhase (s : State) (n k : Nat) : Nat :=
  if s.refKind n = 2 then s.refPar n 2
  else (k * 4294967296 / s.refRes n + s.refPar n 2) % 4294967296

/-- The signed step from phase `a` to phase `b` in a direction; a whole turn where they are equal (R172). -/
def phaseStep (reverse : Bool) (a b : Nat) : Int :=
  let d := ((if reverse then (a : Int) - b else (b : Int) - a) % fullTurn)
  let d := if d = 0 then fullTurn else d
  if reverse then -d else d

/-- The position after `k` in a direction (R172, R173, R177): a tooth wheel skips its gap. -/
def State.nextPos (s : State) (n k : Nat) (reverse : Bool) : Nat :=
  let res := s.refRes n
  if s.refKind n = 1 then
    let last := res - s.refMissing n - 1
    if reverse then (if k = 0 then last else k - 1) else (if last ≤ k then 0 else k + 1)
  else if s.refKind n = 0 then (if reverse then (k + res - 1) % res else (k + 1) % res)
  else 0

/-- The step from position `k` to the next one, in phase words (R171 dp, R172 next_p). -/
def State.nextStep (s : State) (n k : Nat) (reverse : Bool) : Int :=
  phaseStep reverse (s.edgePhase n k) (s.edgePhase n (s.nextPos n k reverse))

/-- The speed |dp| / dt lies above a limit in rev/s (binary32) (R170, R171). -/
def fasterThan (dp : Int) (dt lim : Nat) : Bool :=
  let (a, b) := fratio fmt64 (f32to64 lim)
  decide (a * dt * fullTurn < (dp.natAbs : Int) * 125000000 * b)
/-- The speed lies below a limit. -/
def slowerThan (dp : Int) (dt lim : Nat) : Bool :=
  let (a, b) := fratio fmt64 (f32to64 lim)
  decide ((dp.natAbs : Int) * 125000000 * b < a * dt * fullTurn)

/-! ## The unit's points -/

/-- The points of a reference (R184), stamped now. -/
def State.phasePublish (s : State) (n : Nat) : State :=
  let r := s.phRef n
  let s := s.publishAp 6 (16 * n) (s.phaseAt n s.tick) s.now
  let s := s.publishAp 6 (16 * n + 1) (speedOf r.v) s.now
  let s := s.publishAp 6 (16 * n + 2) (ofSigned 32 r.revs) s.now
  let s := s.publishBp 6 (16 * n + 3) (r.state == 3) s.now
  s.publishBp 6 (16 * n + 4) r.reverse s.now

/-! ## The catalogue -/

/-- A catalogue entry (R180). -/
def State.catEntry (s : State) (k : Nat) : Nat := s.entry 0x0004 k
/-- Enable, Ref, Direction of an entry image. -/
def catOn (e : Nat) : Bool := bit (fld e 5 0 8) 0
def catRef (e : Nat) : Nat := bits (fld e 5 0 8) 6 2
def catDir (e : Nat) : Nat := bits (fld e 5 0 8) 4 2

/-- Entries of a reference that are in use. -/
def State.catOf (s : State) (n : Nat) : List (Nat × Nat) :=
  (s.entries 0x0004).filter (fun (_, e) => catOn e && catRef e == n)

/-- The circular distance between two phase words. -/
def circDist (a b : Nat) : Nat := min ((a + 4294967296 - b) % 4294967296) ((b + 4294967296 - a) % 4294967296)

/-- Entries near the phase are disarmed (R179): at the lock tick, on entry into a run mode, or one entry at its new version. -/
def State.disarmNear (s : State) (n : Nat) : State :=
  (s.catOf n).foldl (fun s (k, e) =>
    if circDist (s.phaseAt n s.tick) (fld e 0 0 32) ≤ s.refPar n 7 then
      { s with ph := { s.ph with disarmed := tset s.ph.disarmed k false true } } else s) s

/-- A catalogue entry was written (R183): its counts restart, and it is disarmed near its phase. -/
def State.catWritten (s : State) (k : Nat) : State :=
  let s := { s with ph := { s.ph with
    fires := tdel s.ph.fires k, defers := tdel s.ph.defers k, disarmed := tdel s.ph.disarmed k } }
  let e := s.catEntry k
  let n := catRef e
  if catOn e && (s.phRef n).state == 3 && circDist (s.phaseAt n s.tick) (fld e 0 0 32) ≤ s.refPar n 7 then
    { s with ph := { s.ph with disarmed := tset s.ph.disarmed k false true } } else s

/-- The filtered states of DI00–DI31 as a word (R181). -/
def State.diWord (s : State) : Nat := (List.range 32).foldl (fun a n => a + b2n (s.din n).state * 2 ^ n) 0

/-- A DO that the catalogue drives is set or cleared (R181, R184, R185). Where its point is forced the pin follows the forced value, and
after the force the point's own one. -/
def State.catDo (s : State) (m : Nat) (v : Bool) : State :=
  let s := if s.doSource m != 1 then s else s.setSw m v
  s.publishBp 6 (0x0200 + m) v s.now

/-- The effect of entry `k`, version `e`, that fell due at time `due` (R181, R182). -/
def State.catAct (s : State) (k e due : Nat) : State :=
  let arg := fld e 6 0 16
  match fld e 4 0 8 with
  | 1 =>
    let m := arg % 256
    if ((List.range 8).filter (fun c => bit m c)).length = 1 then s.seqGo m else s.goAll m
  | 2 => if s.tk.prog.pointOf 6 (0x0100 + k) false == some arg then s.produceAp arg s.diWord s.now else s
  | 3 => if arg < 32 then s.catDo arg true else s
  | 4 => if arg < 32 then s.catDo arg false else s
  | 5 => if arg < 32 then (s.phasePublish (catRef e)).setDue arg s.now else s
  | 6 => (s.produceAp arg (due / 4294967296) s.now).produceAp (arg + 1) (due % 4294967296) s.now
  | 7 => if arg < 2048 then s.loopTrigger arg 1 s.now else s
  | _ => s

/-- One entry fires (R180, R182, R191). -/
def State.catFire (s : State) (d : Deferred) : State :=
  let late := s.tick - d.tick
  let s := { s with ph := { s.ph with
    fires := tmod s.ph.fires d.entry 0 (satInc 32), fireCount := s.ph.fireCount + 1
    defers := tmod s.ph.defers d.entry 0 (fun x => max x (min late 65535))
    maxDefer := max s.ph.maxDefer (min late 65535), firedNow := s.ph.firedNow + 1 } }
  s.catAct d.entry d.image d.time

/-- Entries may fire (R186, R191). -/
def State.catRuns (s : State) : Bool := s.mode.isRun && s.eff 0x0480 == 1 && s.has .phs

/-- Entries fall due in this tick behind those in deferral; at most 8 fire in a tick (R178, R182). Where no entry may fire, those
in deferral are dropped (R186, log 27). A firing counts as deferred once, and EV051 occurs once in a tick. -/
def State.catRun (s : State) (due : List (Nat × Nat)) : State :=
  if !s.catRuns then { s with ph := { s.ph with deferred := [] } }
  else
  let s := if s.ph.firedTick = s.tick then s else { s with ph := { s.ph with firedTick := s.tick, firedNow := 0 } }
  let all := s.ph.deferred ++ due.map (fun (k, e) => (⟨k, e, s.tick, s.now⟩ : Deferred))
  let n := 8 - s.ph.firedNow
  let rest := all.drop n
  let s := (all.take n).foldl State.catFire { s with ph := { s.ph with deferred := rest } }
  match rest with
  | [] => s
  | d :: _ =>
    let told := s.ph.toldTick == some s.tick
    let s := { s with ph := { s.ph with
      deferCount := s.ph.deferCount + BitVec.ofNat 32 (min due.length rest.length), toldTick := some s.tick } }
    if told then s else s.raise 51 [(2, all.length), (2, rest.length), (2, d.entry)]

/-! ## Movement -/

/-- X is passed when the phase moves `m` words from `phi` in a direction (R178). -/
def passes (reverse : Bool) (phi m x : Nat) : Bool :=
  let f := ((if reverse then (phi : Int) - x else (x : Int) - phi) % fullTurn).toNat
  decide ((if f = 0 then 4294967296 else f) ≤ m)

/-- A disarmed entry is armed on the way (R179): the distance reaches RearmWindow before X. -/
def rearms (reverse : Bool) (phi m x w : Nat) : Bool :=
  let f := ((if reverse then (phi : Int) - x else (x : Int) - phi) % fullTurn)
  decide ((w : Int) ≤ f ∧ f - m ≤ fullTurn - w)

/-- Tasks bound to a reference, with a PhaseMode (R125, R187). -/
def State.boundTasks (s : State) (n : Nat) (pm : Option Nat) : List Nat :=
  (List.range 32).filter (fun t =>
    let c := s.taskCtl t
    bit c 31 && bits c 16 2 == 1 && bits c 14 2 == n && (match pm with | some m => bits c 12 2 == m | none => true))

/-- How long the phase has been held at the clamp, in ticks (R167, R173). -/
def PhRef.heldFor (r : PhRef) (tick : Nat) : Nat := min (tick - r.clampFrom.getD tick) 4294967295

/-- The phase of a LOCKED reference moves to distance `y` from its base (R172, R174, R178, R188): RevCount, starts, and the entries
that fall due. `jump`: the forward correction of an edge (R174). -/
def State.phaseMove (s : State) (n : Nat) (y : Int) (clamped : Bool) (jump : Nat) : List (Nat × Nat) × State :=
  let r := s.phRef n
  let m := (r.dir * (y - r.dphi)).toNat
  let lockTick := r.lockTick == some s.tick
  let zeroOff := s.refPar n 2
  let turn := passes r.reverse r.phi m zeroOff
  let due := if lockTick || !s.catRuns then [] else
    (s.catOf n).filter (fun (k, e) =>
      let x := fld e 0 0 32
      let armed := !tget s.ph.disarmed k false || rearms r.reverse r.phi m x (s.refPar n 7)
      passes r.reverse r.phi m x && armed && (catDir e == 2 || (catDir e == 1) == r.reverse))
  let phi' := (((r.baseP : Int) + y) % fullTurn).toNat
  let dis := (s.catOf n).foldl (fun d (k, e) =>
    let x := fld e 0 0 32
    if due.any (·.1 == k) then tset d k false true
    else if tget d k false && (rearms r.reverse r.phi m x (s.refPar n 7) || decide (s.refPar n 7 ≤ circDist phi' x)) then
      tset d k false false
    else d) s.ph.disarmed
  let s := { s with ph := { s.ph with disarmed := dis } }
  let s := s.modRef n (fun r => { r with
    dphi := y, phi := phi', clamped := clamped
    clampFrom := if clamped then r.clampFrom.orElse (fun _ => some s.tick) else none
    maxClamp := max r.maxClamp (r.heldFor s.tick), maxJump := max r.maxJump (min jump 4294967295)
    revs := if turn && !lockTick then r.revs + r.dir else r.revs })
  let ld := bits (s.refPar n 0) 17 2
  let starts := turn && !lockTick && (ld == 2 || (ld == 1) == r.reverse)
  let bound := if starts then s.boundTasks n (some 0) else []
  let s := if bound.isEmpty then s else bound.foldl (fun s t => s.setDue t s.now) (s.phasePublish n)
  (due, s)

/-- Every LOCKED reference is brought to this tick (R172), except those in `done`; the entries due in it, by index, fire. -/
def State.phaseUpdate (s : State) (first : List (Nat × Nat)) (done : List Nat) : State :=
  let (due, s) := (List.range 4).foldl (fun (d, s) n =>
    if (State.phRef s n).state = 3 && State.tracks s n && !done.contains n then
      let (y, c) := State.project s n (State.phRef s n) (State.tick s)
      let (e, s) := State.phaseMove s n y c 0
      (d ++ e, s)
    else (d, s)) (first, s)
  let ks := insSort (due.map Prod.fst)
  let due := ks.filterMap (fun k => due.find? (·.1 == k))
  if due.isEmpty && s.ph.deferred.isEmpty then s else s.catRun due

/-! ## Lock and unlock -/

/-- Unlock at phase `phi` (R171, R187): the phase word holds, DOs of the entries go off unless DoOnUnlock is 1, bound tasks enter
substitution. -/
def State.phaseUnlockAt (s : State) (n cause phi : Nat) : State :=
  let r := s.phRef n
  if r.state ≠ 3 then s.modRef n (fun r => { r with state := 1, conf := 0, ords := 0 })
  else
    let v := speedOf r.v
    let s := s.modRef n (fun r => { r with
      state := 1, phi := phi, v := 0, a := 0, extrap := false, clamped := false, clampFrom := none,
      maxClamp := max r.maxClamp (r.heldFor s.tick), cause := cause,
      conf := 0, ords := 0, unlocks := r.unlocks + 1, unlockTick := s.tick, lockTick := none })
    let s := { s with ph := { s.ph with
      deferred := s.ph.deferred.filter (fun d => catRef d.image != n) } }
    let s := s.raise 50 [(1, n), (1, cause), (4, phi), (4, v)]
    let s := if s.refPar n 0x0B = 1 then s else
      let dos := (s.catOf n).filterMap (fun (_, e) =>
        if fld e 4 0 8 = 3 ∨ fld e 4 0 8 = 4 then some (fld e 6 0 16) else none)
      dos.eraseDups.foldl (fun s m => if m < 32 then s.catDo m false else s) s
    let s := s.publishBp 6 (16 * n + 3) false s.now
    let b := s.boundTasks n none
    if b.isEmpty then s else s.raise 52 [(1, n), (1, 1), (4, b.foldl (fun a t => a + 2 ^ t) 0)]

/-- Unlock at the present phase (R171). -/
def State.phaseUnlock (s : State) (n cause : Nat) : State := s.phaseUnlockAt n cause (s.phaseAt n s.tick)

/-- The lock tick (R170, R179, R187): base at the confirming edge. -/
def State.phaseLock (s : State) (n te pe : Nat) (nextD : Int) : State :=
  let s := s.modRef n (fun r => { r with
    state := 3, baseT := te, baseP := pe, nextD := nextD, dphi := 0, a := 0, extrap := true, same := 1, revs := 0
    locks := r.locks + 1, lockTick := some s.tick, maxJump := 0, maxClamp := 0, clamped := false, clampFrom := none })
  let (y, c) := s.project n (s.phRef n) s.tick
  let s := s.modRef n (fun r => { r with
    dphi := y, phi := (((pe : Int) + y) % fullTurn).toNat, clamped := c })
  let s := s.disarmNear n
  let s := s.raise 48 [(1, n), (1, s.refKind n), (4, speedOf (s.phRef n).v), (4, (s.phRef n).phi)]
  let s := s.publishBp 6 (16 * n + 3) true s.now
  let b := s.boundTasks n none
  if b.isEmpty then s else s.raise 52 [(1, n), (1, 0), (4, b.foldl (fun a t => a + 2 ^ t) 0)]

/-- A reference starts over (R167, R170): SEARCHING where it is enabled, LOCKED at once for kind 3. A LOCKED one unlocks at the phase
`held`. -/
def State.phaseRestart (s : State) (n held : Nat) : State :=
  let s := if (s.phRef n).state = 3 then s.phaseUnlockAt n 6 held else s
  let s := s.modRef n (fun r => { r with
    state := if s.tracks n then 1 else 0, tePrev := none, prevInt := none, conf := 0, ords := 0, k := 0, reverse := false
    sample := none, lastB := none })
  if s.tracks n ∧ s.refKind n = 3 then
    (s.modRef n (fun r => { r with v := s.refPar n 8 })).phaseLock n s.tick (s.refPar n 2) 0
  else s

/-- A new configuration or mode takes effect (R167, R170, R171): references whose parameters changed start over, and `all` of them on
entry into M2 and where tracking begins. What they hold is the phase under the state `was` before. -/
def State.phaseReconfig (s was : State) (all : Bool) : State :=
  (List.range 4).foldl (fun s n =>
    let ks := [0, 1, 2, 3, 4, 5, 6, 8, 9, 10]
    if all || ks.any (fun k => was.refPar n k != State.refPar s n k) then State.phaseRestart s n (was.phaseAt n was.tick) else s) s

/-! ## Edges -/

/-- The gap test (R170): the interval is at least GapRatio times the previous one. -/
def State.gapTest (s : State) (n dt : Nat) (prev : Option Nat) : Bool :=
  match prev with
  | none => false
  | some p =>
    let (a, b) := fratio fmt64 (f32to64 (s.refPar n 5))
    decide (a * p ≤ (dt : Int) * b)

/-- The speed of an interval lies between VelMin and VelMax (R170). -/
def State.speedOk (s : State) (n : Nat) (dp : Int) (dt : Nat) : Bool :=
  !fasterThan dp dt (s.refPar n 4) && !slowerThan dp dt (s.refPar n 3)

/-- An edge of a reference that is not LOCKED (R170): intervals, confirmations and the lock. -/
def State.edgeSearch (s : State) (n te : Nat) (rev : Bool) : State :=
  let r := s.phRef n
  let dt := match r.tePrev with | some p => te - p | none => 0
  let kind := s.refKind n
  let gap := kind == 1 && s.gapTest n dt r.prevInt
  let k := if kind = 2 then 0 else if gap then (if rev then s.refRes n - s.refMissing n - 1 else 0) else s.nextPos n r.k rev
  let dp := if kind = 2 then fullTurn else if gap then
      phaseStep rev (s.edgePhase n (s.nextPos n k (!rev))) (s.edgePhase n k) else s.nextStep n r.k rev
  let ok := dt != 0 && s.speedOk n dp dt
  let v := if dt = 0 then 0 else Int.fdiv (dp * 4294967296) dt
  let s := s.modRef n (fun r => { r with
    tePrev := some te, prevInt := if dt = 0 then none else some dt, k := k, reverse := rev, v := v, a := 0, ords := r.ords + 1 })
  let back := fun (s : State) => s.modRef n (fun r => { r with state := 1, conf := 0, ords := 0 })
  let lock := fun (s : State) => s.phaseLock n te (s.edgePhase n k) (s.nextStep n k rev)
  let need := max 1 (s.refPar n 6)
  if kind = 1 then
    if r.state = 1 then
      if gap && ok then
        let s := s.modRef n (fun r => { r with state := 2, conf := 1, ords := 0 })
        if need = 1 then lock s else s
      else s
    else if rev != r.reverse then back s
    else if gap then
      if !ok || r.ords != s.refRes n - s.refMissing n - 1 then back s
      else
        let s := s.modRef n (fun r => { r with conf := r.conf + 1, ords := 0 })
        if need ≤ r.conf + 1 then lock s else s
    else if s.refRes n - s.refMissing n - 1 < r.ords + 1 then back s else s
  else if kind = 2 then
    if r.state = 1 then s.modRef n (fun r => { r with state := 2, conf := 0 })
    else if !ok then back s
    else
      let s := s.modRef n (fun r => { r with conf := r.conf + 1 })
      if need ≤ r.conf + 1 then lock s else s
  else if r.state = 2 && rev != r.reverse then back s
  else s

/-- A distance in phase words taken within half a turn. -/
def nearTurn (d : Int) : Int := (d + 2147483648) % fullTurn - 2147483648

/-- A Z pulse (R162, R170, R171): it marks count 0. -/
def State.edgeZ (s : State) (n te : Nat) : State :=
  let r := s.phRef n
  let res := s.refRes n
  if r.state = 3 then
    if circDist' r.k res ≤ 1 then s.modRef n (fun r => { r with
      k := 0, ords := 0
      nextD := if r.k = 0 then r.nextD else nearTurn ((s.edgePhase n (s.nextPos n 0 r.reverse) : Int) - r.baseP) })
    else s.phaseUnlock n 5
  else
    let near := decide (res ≤ r.ords + 1 ∧ r.ords ≤ res + 1)
    let dt := r.prevInt.getD 0
    let ok := dt != 0 && s.speedOk n (s.nextStep n 0 r.reverse) dt
    let need := max 1 (s.refPar n 6)
    let lock := fun (s : State) => s.phaseLock n te (s.edgePhase n 0) (s.nextStep n 0 r.reverse)
    let s := s.modRef n (fun r => { r with k := 0, ords := 0 })
    if r.state = 1 then
      let s := s.modRef n (fun r => { r with state := 2, conf := 1 })
      if need = 1 then (if ok then lock s else s.modRef n (fun r => { r with state := 1, conf := 0 })) else s
    else if near && ok then
      let s := s.modRef n (fun r => { r with conf := r.conf + 1 })
      if need ≤ r.conf + 1 then lock s else s
    else s.modRef n (fun r => { r with state := 1, conf := 0 })
where
  /-- How far a count lies from 0 on a circle of `res`. -/
  circDist' (k res : Nat) : Nat := min (k % res) (res - k % res)

/-- An edge of a LOCKED reference is taken in at this tick (R172): unlock causes, base, velocity, reversal, movement. -/
def State.edgeLocked (s : State) (n te : Nat) (rev : Bool) : State :=
  let r := s.phRef n
  let dt := te - r.tePrev.getD r.baseT
  let kind := s.refKind n
  let turned := rev != r.reverse
  let k := s.nextPos n r.k rev
  let gapHere := kind == 1 && s.nextStep n r.k rev != s.nextStep n 1 false && decide (2 < s.refRes n) &&
    (if rev then r.k == 0 else r.k == s.refRes n - s.refMissing n - 1)
  let gap := kind == 1 && s.gapTest n dt r.prevInt
  let pe := s.edgePhase n k
  let dp := s.nextStep n r.k rev
  -- the next interval counts from this edge, whatever it does
  let off := fun c => (s.phaseUnlock n c).modRef n (fun r => { r with tePrev := some te, prevInt := if dt = 0 then none else some dt })
  if !turned && gapHere && !gap then off 3
  else if !turned && !gapHere && gap then off 4
  else if !turned && dt != 0 && fasterThan dp dt (s.refPar n 4) then off 2
  else
    let vNew := if dt = 0 then r.v else Int.fdiv (dp * 4294967296) dt
    let same := if turned then 0 else r.same + 1
    let a := if turned || !bit (s.refPar n 0) 21 || same < 2 || dt = 0 then 0
      else Int.fdiv ((vNew - r.v) * 18446744073709551616) dt
    -- the base moves by one step, but for what a Z pulse has corrected
    let shift := dp + nearTurn ((pe : Int) - r.baseP - dp)
    let ahead := (s.project n r s.tick).1 - shift
    let old := r.dphi - shift
    let s := s.modRef n (fun r => { r with
      reverse := rev, v := if turned then 0 else vNew, a := a, same := same, extrap := !turned
      baseT := te, baseP := pe, tePrev := some te, prevInt := some dt, k := k, ords := r.ords + 1
      nextD := s.nextStep n k rev, dphi := old })
    let (y, c) := if turned then ((0 : Int), false) else s.project n (s.phRef n) s.tick
    let (due, s) := s.phaseMove n y c (if turned then 0 else (r.dir * (y - ahead)).toNat)
    let s := if turned then
        (s.raise 49 [(1, n), (1, b2n rev), (4, pe), (4, ofSigned 32 (s.phRef n).revs)]).publishBp 6 (16 * n + 4) rev s.now
      else s
    s.phaseUpdate due [n]

/-- An edge with raw time `te` is taken in (R163, R172). -/
def State.phaseEdge (s : State) (n te : Nat) (rev : Bool) : State :=
  let s := s.modRef n (fun r => { r with lastEdge := s.now - (s.tick - te) * 8 })
  if (s.phRef n).state = 3 then s.edgeLocked n te rev else s.edgeSearch n te rev

/-- A converter result of a channel that serves a mains reference (R164): a crossing between two results is interpolated. -/
def State.phaseSample (s : State) (ch value stamp : Nat) : State :=
  (List.range 4).foldl (fun s n =>
    if s.tracks n && s.refKind n == 2 && s.refPar n 0x0A == ch then
      let r := s.phRef n
      let s := s.modRef n (fun r => { r with sample := some (value, stamp) })
      match r.sample with
      | none => s
      | some (v0, t0) =>
        if flt fmt32 v0 0 && fle fmt32 0 value && decide (t0 < stamp) then
          let (a0, b0) := fratio fmt64 (f32to64 v0)
          let (a1, b1) := fratio fmt64 (f32to64 value)
          -- fraction of the interval at which the line through both results crosses 0
          let num := (-a0) * b1 * ((stamp - t0 : Nat) : Int)
          let den := a1 * b0 - a0 * b1
          let x := t0 + (Int.fdiv num den).toNat
          s.phaseEdge n (s.tick - (s.now - x) / 8) false
        else s
    else s) s

/-! ## Rows -/

/-- The direction of a quadrature transition (R176): forward in the order in which PHnA leads PHnB (log 156). -/
def quadReverse (old new : Nat) : Bool :=
  if bit old 0 != bit new 0 then bit new 0 == bit new 1 else bit new 0 != bit new 1

/-- The direction of a tooth with DirPickup (R176): forward where the edge of PHnB followed the previous edge of PHnA by less than half of
the interval that ends now (log 156). -/
def toothReverse (r : PhRef) (te : Nat) : Bool :=
  match r.tePrev, r.lastB with
  | some p, some b => !(decide (p ≤ b) && decide (2 * (b - p) < te - p))
  | some _, none => true
  | none, _ => false

/-- What confirmed levels of a reference's lines mean (R162, R163, R164, R171, R176): `old` gives the levels before, `te` is the raw time. -/
def State.phaseLines (s : State) (n old : Nat) (e : EdgeIn) (te : Nat) : State :=
  let ctl := s.refPar n 0
  let turned := fun k => bit old k != bit e.levels k
  match s.refKind n with
  | 0 =>
    let s := if turned 0 && turned 1 then s.phaseUnlock n 7
      else if turned 0 || turned 1 then s.phaseEdge n te (quadReverse old e.levels != bit ctl 25) else s
    if turned 2 && bit e.levels 2 != bit ctl 20 then s.edgeZ n te else s
  | 1 =>
    let edge := fun k => turned k && bit e.levels k != bit ctl 19
    let s := if edge 0 then s.phaseEdge n te (bit ctl 24 && (toothReverse (s.phRef n) te != bit ctl 25)) else s
    if edge 1 then s.modRef n (fun r => { r with lastB := some te }) else s
  | 2 =>
    if s.refPar n 0x0A = 0xFF && turned 3 && bit e.levels 3 && flt fmt32 e.low (fneg fmt32 (s.eff 0x0481)) then s.phaseEdge n te false
    else s
  | _ => s

/-- PHASE_EDGE: new levels of the reference's lines (R162, R163, R164). The glitch filter confirms them once they have held for FilterTicks
ticks, and the tracker takes them in 2 ticks later under their raw time; shorter ones are rejected. -/
def execPhaseEdge (dt n : Nat) (e : EdgeIn) (s : State) : Host.Outcome State Fault Refusal :=
  let s := s.elapse dt
  if 4 ≤ n ∨ s.mode = .m0 ∨ e.held < s.refPar n 9 + 2 then .next s
  else
    let old := (s.phRef n).lines
    let s := s.modRef n (fun r => { r with lines := e.levels % 16 })
    .next (if s.tracks n then s.phaseLines n old e (s.tick - e.held) else s)

/-- PHASE_UNLOCK_TIMEOUT: no edge for dp / VelMin after the last one (R171 cause 1). -/
def execPhaseUnlockTimeout (dt n : Nat) (s : State) : Host.Outcome State Fault Refusal :=
  let s := s.elapse dt
  let r := s.phRef n
  if 4 ≤ n then .next s
  else if r.state ≠ 3 ∨ s.refKind n = 3 ∨ fasterThan (s.nextStep n r.k r.reverse) (s.tick - r.baseT) (s.refPar n 3) then .next s
  else .next (s.phaseUnlock n 1)

/-- PHASE_EXTRAPOLATION: the references are brought to this tick (R172). -/
def execPhaseExtrapolation (dt n : Nat) (s : State) : Host.Outcome State Fault Refusal :=
  let s := s.elapse dt
  if 4 ≤ n then .next s
  else .next (if s.tracks n && (s.phRef n).state == 3 then s.phaseUpdate [] [] else s)

/-- CATALOGUE_ENTRY_FIRE: the tick in which an entry is crossed (R178). -/
def execCatalogueEntryFire (dt k : Nat) (s : State) : Host.Outcome State Fault Refusal :=
  let s := s.elapse dt
  if 1024 ≤ k then .next s
  else
    let e := s.catEntry k
    let n := catRef e
    let r := s.phRef n
    if !catOn e || r.state != 3 || !s.tracks n || !s.catRuns then .next s
    else
      let (y, _) := s.project n r s.tick
      .next (if passes r.reverse r.phi (r.dir * (y - r.dphi)).toNat (fld e 0 0 32) then s.phaseUpdate [] [] else s)

/-- CATALOGUE_DEFERRED_FIRE: entries in deferral fire in a later tick (R182). -/
def execCatalogueDeferredFire (dt : Nat) (s : State) : Host.Outcome State Fault Refusal :=
  let s := s.elapse dt
  .next (if s.ph.deferred.isEmpty || s.ph.firedTick == s.tick then s else s.phaseUpdate [] [])

end Sys2Proof.Machine
end

