-- ==== Sys2Proof/Machine/Analog.lean ====
section
/-!
DEFINITION. Analogue inputs: results and their publication (R362, R365–R377), sensor faults (R378, R379), excitation swaps
(R361, R363, R385), calibration and rotation (R317, R323, R380, R381) and pair comparison (R384).
-/
namespace Sys2Proof.Machine

/-! ## Results -/

/-- Output period of an oversampling ratio in ns (R365: OSR ÷ 8.192 MHz). -/
def osrNs (osr : Nat) : Nat := osr * 1000000000 / 8192000

/-- Full scale of a range at gain 1 in the range's unit, as a fraction (R357): V, V, mA, mV, mV/V, Ω. -/
def fullScale (range : Nat) : Nat × Nat :=
  match range with
  | 0 => (10, 1) | 1 => (5, 2) | 2 => (25, 1) | 3 => (2500, 1) | 4 => (1000, 1) | _ => (4000, 1)

/-- The value of a converter code (R373): (code − offset factor) × gain factor × LSB, as a fraction. The offset factor is µV at
the converter input, whose full scale is 2.5 V ÷ g (R358, R382). -/
def codeValue (code : Int) (offset gain : Nat) (range gainCode : Nat) : Int × Nat :=
  let (on, od) := fratio fmt32 offset
  let (gn, gd) := fratio fmt32 gain
  let (fn, fd) := fullScale range
  let g : Nat := 2 ^ gainCode
  let n : Int := code * 2500000 * od - on * g * 8388608
  (n * gn * fn, 8388608 * 2500000 * od * gd * fd * g)

/-- The factors in use of a physical converter at a gain (R373). -/
def State.factors (s : State) (p gainCode : Nat) : Nat × Nat :=
  let k := s.cal p
  (tget k.offset gainCode 0, (tget k.gain gainCode none).getD (f32 1 1))

/-- The flags of R374 that a fault-free result has clear (R377, R384): UNCAL, SETTLING, OVER, UNDER, CM_FAULT, EXC_FAULT, OPEN. -/
def faultFlags : Nat := 0x2FC0

/-- The onset events of a channel's result (R379). -/
def State.aiOnset (s : State) (n range gainCode value flags : Nat) : State :=
  let a := s.aiChan n
  let ovr_ := bit flags 10 || (range == 3 && bit flags 6)
  let under := bit flags 9
  let run := if range = 2 ∧ bit flags 6 then a.openRun + 1 else 0
  let s := s.modAi n (fun a => { a with ovr := ovr_, under := under, open_ := bit flags 6, openRun := min 8 run })
  let s := if ovr_ && !a.ovr then s.raise 128 [(1, n), (1, range), (1, gainCode), (4, value)] else s
  let s := if under && !a.under then s.raise 129 [(1, n), (1, range), (1, gainCode), (4, value)] else s
  if run = 8 ∧ a.openRun = 7 then s.raise 139 [(1, n), (4, value)] else s

/-- The converter result DMA takes a record (R375): while RQ14 is held off it stays in the converter's FIFO of 64, beyond which
it is lost. -/
def State.dmaRecord (s : State) (c : Nat) (r : AiRec) : State :=
  if s.rqHeld 14 then
    if (s.conv c).fifo.length < 64 then s.modConv c (fun k => { k with fifo := k.fifo ++ [r] })
    else s.raise 134 [(1, c), (4, 1)]
  else s.modConv c (fun k => { k with window := k.window ++ k.fifo ++ [r], fifo := [] })

/-- FIFOs drain when RQ14 is no longer held off (R375). -/
def State.drainFifos (s : State) : State :=
  if s.rqHeld 14 then s
  else (List.range 8).foldl (fun s c =>
    if (s.conv c).fifo.isEmpty then s
    else s.modConv c (fun k => { k with window := k.window ++ k.fifo, fifo := [] })) s

/-- Add to a running sum of binary64 values. -/
def sum64 (a v : Nat) : Nat := fadd fmt64 a (f32to64 v)

/-- A result is written (R372–R377): direct word, result number, buffer, image points, what follows it on the phase unit and the
pair comparison. -/
def State.publishResult (s : State) (c : Nat) (v : Visit) (value flags stamp : Nat) : State :=
  let e := (s.conv c).entries.getD v.entry 0
  let ch := seqChannel c e
  let r : AiRec := { value := value, flags := flags, conv := c, entry := v.entry, seq := (s.conv c).pass, stamp := stamp }
  let s := s.modConv c (fun k => { k with
    results := k.results + 1, direct := tset k.direct v.entry {} r,
    number := tmod k.number v.entry 0 (wrapInc 32), last := tset k.last v.entry none (some v.settings) })
  let s := s.dmaRecord c r
  match ch with
  | none =>
    if seqInput e = 4 then
      let out := flt fmt32 value (f32 (-50) 1) || flt fmt32 (f32 130 1) value || bit flags 10 || bit flags 9
      let s := if out && !s.ai.cjFault then s.raise 136 [(4, value), (1, c)] else s
      let s := { s with ai := { s.ai with cj := value, cjFault := out } }
      s.publishAp 3 0x0140 value stamp
    else
      let want := if seqInput e = 5 then f64 2 1 else 0
      let dev := fmul fmt64 (fabs fmt64 (fsub fmt64 (f32to64 value) want)) (f64 400000 1)
      if flt fmt64 (s.effF 0x0764) dev then
        s.raise 138 [(1, c), (1, 0), (4, f64to32 dev)] else s
  | some n =>
    let range := bits v.settings 2 3
    let s := s.modAi n (fun a => { a with
      flags := flags, value := value,
      ownSum := if flags &&& faultFlags = 0 then sum64 a.ownSum value else a.ownSum,
      ownN := if flags &&& faultFlags = 0 then a.ownN + 1 else a.ownN })
    let s := s.aiOnset n range (seqGain e) value flags
    let s := s.publishAp 3 (0x0100 + n) value stamp
    let s := s.publishBp 3 (0x0120 + n) (flags &&& faultFlags == 0) stamp
    s.phaseSample n value stamp

/-- A sequence completion (R371): the records and tasks it triggers (R127, R202). -/
def State.seqComplete (s : State) (c : Nat) : State :=
  let s := s.loopTriggers 2 c s.now
  (List.range 32).foldl (fun s n =>
    let t := s.taskCtl n
    if bits t 16 2 = 2 ∧ bits t 10 2 = 1 ∧ bits t 0 4 = c then s.setDue n s.now else s) s

/-- A converter begins its calibration (R380). -/
def State.calStart (s : State) (p : Nat) : State := s.modCal p (fun k => { k with running := some s.tick, queued := false })

/-- The sequence that physical converter `p` serves, if it serves one (R323, R329). -/
def State.servedBy (s : State) (p : Nat) : Option Nat := (List.range 8).find? (fun c => s.physConv c == p)

/-- The spare of a rotation of CVn: CV8 and CV9 by turns, or the one that stands by (R323). -/
def State.standinFor (s : State) (n : Nat) : Option Nat :=
  let want := 29 + n % 2
  let sp := s.spares 4
  if sp.contains want then some (want - 21) else (sp.head?).map (· - 21)

/-- A rotation begins: the stand-in calibrates itself (R323). -/
def State.rotStart (s : State) (n standin : Nat) (op : Option Nat) : State :=
  ({ s with annex := { s.annex with
      rotation := some ⟨n, standin, .standinCal, s.tick, op, false⟩ } }).calStart standin

/-- A converter that is to calibrate does so where no sequence is in a visit on it; else its sequence stops at the next entry
boundary (R381). -/
def State.calBegin (s : State) (p : Nat) : State :=
  match s.servedBy p with
  | some c =>
    if (s.conv c).visit.isSome then s.modConv c (fun k => { k with stop := true })
    else (s.modConv c (fun k => { k with running := false, stop := false })).calStart p
  | none => s.calStart p

/-- The calibrations that wait start: in M8 one at a time, each covered by a stand-in where one is usable; elsewhere every
converter whose sequence has come to its entry boundary (R381). None while a rotation runs (R323). When none waits and none
runs, the AI_CALIBRATE ends. -/
def State.calNext (s : State) : State :=
  match s.ai.calOp with
  | none => s
  | some op =>
    if s.annex.rotation.isSome then s
    else
      let queue := (List.range 10).filter (fun p => (s.cal p).queued)
      let busy := (List.range 10).any (fun p => (s.cal p).running.isSome)
      if queue.isEmpty then
        if busy then s
        else
          let failed := (List.range 10).foldl (fun a p => a + b2n (s.cal p).failed * 2 ^ p) 0
          let done := (List.range 10).foldl (fun a p => a + b2n (s.cal p).done * 2 ^ p) 0
          let st := if failed = 0 then 2 else 3
          let s := { s with ai := { s.ai with calOp := none, calState := st } }
          let s := s.raise 132 [(2, done), (2, failed)]
          s.completeOpt op .ok (beBytes 4 (st * 1073741824 + failed * 65536 + done))
      else if s.mode = .m8 then
        if busy then s
        else
          let p := queue.headD 0
          match if p < 8 then s.standinFor p else none with
          | some q => (s.modCal p (fun k => { k with queued := false })).rotStart p q none
          | none => s.calBegin p
      else queue.foldl State.calBegin s

/-- A converter ends a visit (R369): a stop, a calibration that waits, or a mode without sequences takes effect at the boundary;
else the next entry begins, or the pass has ended. -/
def State.endVisit (s : State) (c entry : Nat) (wrote : Bool) : State :=
  let next := s.nextVisit c 16 (entry + 1)
  let s := s.modConv c (fun k => { k with visit := none })
  let s := if next.isNone && wrote then s.seqComplete c else s
  if (s.conv c).stop || !s.seqMode then
    (s.modConv c (fun k => { k with running := false, stop := false })).calNext
  else
    match next with
    | some v => (s.modConv c (fun k => { k with visit := some v })).visitBegun c
    | none => if bit (s.conv c).control 31 then s.beginPass c else s.modConv c (fun k => { k with running := false })

/-- The visit goes on with its next result, or its half or the whole of it ends (R365, R368). -/
def State.nextResult (s : State) (c : Nat) (v : Visit) (wrote : Bool) : State :=
  let e := (s.conv c).entries.getD v.entry 0
  if v.idx < seqCount e then s.modConv c (fun k => { k with visit := some { v with idx := v.idx + 1 } })
  else if seqPhase e = 3 ∧ v.half = 0 then s.modConv c (fun k => { k with visit := some { v with idx := 0, half := 1 } })
  else s.endVisit c v.entry wrote

/-- The flags of a result (R374). -/
def State.resultFlags (s : State) (c : Nat) (v : Visit) (e range : Nat) (code : Int) (value32 start len pol : Nat)
    (cjOut : Bool) : Nat :=
  let p := s.physConv c
  let ch := seqChannel c e
  let a := match ch with | some n => s.aiChan n | none => {}
  let i20 := ch.isSome && range == 2
  let ovr_ := code == 8388607 || (i20 && flt fmt32 (f32 21 1) value32) ||
    (ch.isNone && cjOut)
  let under := code == -8388608 || (i20 && flt fmt32 value32 (f32 36 10)) ||
    (ch.isNone && seqInput e == 4 && !cjOut && flt fmt32 value32 (f32 (-50) 1))
  let ovr_ := ovr_ || (ch.isNone && seqInput e == 4 && flt fmt32 (f32 130 1) value32)
  let opn := (i20 && flt fmt32 value32 (f32 5 10)) || (ch.isSome && range == 3 && ovr_)
  0x8000 + b2n (!(s.cal p).done) * 0x2000 + b2n (v.fresh && v.idx == 0) * 0x1000 +
    b2n (a.settle != 0 && decide (start < a.settle + len)) * 0x0800 + b2n ovr_ * 0x0400 + b2n under * 0x0200 +
    b2n (a.cmFault && ch.isSome) * 0x0100 + b2n (a.excFault && ch.isSome && 4 ≤ range) * 0x0080 + b2n opn * 0x0040 +
    pol * 16 + b2n (decide (8 ≤ p)) * 8 + b2n (v.idx == 0) * 4

/-- A conversion ends and is written 10 µs after its window (R362, R365, R368, R373). -/
def State.convResult (s : State) (c : Nat) (x : ConvIn) : State :=
  match (s.conv c).visit with
  | none => s
  | some v =>
    let e := (s.conv c).entries.getD v.entry 0
    let per := osrNs (seqOsr e)
    let stamp := s.now - 10000 - 2 * per
    let start := stamp - 2 * per
    let end_ := stamp + 2 * per
    let ch := seqChannel c e
    let range := if ch.isSome then bits v.settings 2 3 else 1
    let n := ch.getD 0
    let exc := seqPhase e != 0
    let half := max 1 (s.halfNs n)
    let want := if seqPhase e = 2 ∨ (seqPhase e = 3 ∧ v.half = 1) then 1 else 0
    let stepped := match s.clk.stepTick with
      | some k => decide (k + 1250 ≤ s.tick ∧ s.tick < k + 1250 + per / 2)
      | none => false
    if stepped || (exc && (start % half < s.blankNs n || start / half != (end_ - 1) / half)) then
      let s := s.modConv c (fun k => { k with discards := k.discards + 1 })
      if !exc || s.now / half % 2 == want then s
      else if seqPhase e = 3 ∧ v.half = 0 then
        s.modConv c (fun k => { k with visit := some { v with idx := 0, half := 1 } })
      else s.endVisit c v.entry false
    else if exc && start / half % 2 != want then s
    else
      let code := toSigned 24 x.code
      let (off, gain) := s.factors (s.physConv c) (seqGain e)
      let q := codeValue code off gain range (seqGain e)
      let value := if seqInput e = 4 then x.celsius else ofRatio fmt32 q.1 q.2
      let pol := if !exc then 0 else if seqPhase e = 3 then 3 else want + 1
      let flags := s.resultFlags c v e range code value start (4 * per) pol x.open_
      if seqPhase e = 3 then
        let value64 := ofRatio fmt64 q.1 q.2
        if v.half = 0 then
          s.nextResult c { v with halves := v.halves ++ [(value64, stamp, flags)] } false
        else
          match v.halves[v.idx]? with
          | none => s.nextResult c v false
          | some (p, ps, pf) =>
            let m := fdiv fmt64 (fsub fmt64 p value64) (f64 2 1)
            (s.publishResult c v (f64to32 m) (pf ||| flags) ((ps + stamp) / 2)).nextResult c v true
      else (s.publishResult c v value flags stamp).nextResult c v true

/-- CONVERTER_RESULT. -/
def execConverterResult (dt c : Nat) (x : ConvIn) (s : State) : Host.Outcome State Fault Refusal :=
  let s := s.elapse dt
  if 8 ≤ c then .next s
  else if !s.has .ai || !(s.conv c).running || (s.conv c).dead then .next s
  else .next (s.convResult c x)

/-! ## Excitation and its monitor -/

/-- The condition the half-period that ends showed (R379): 1 overcurrent, 2 open, 3 compliance, 4 low sensed voltage. -/
def State.excCondition (s : State) (n : Nat) (x : ExcIn) : Option Nat :=
  let range := aiRange (s.aiConfig n)
  if (s.aiChan n).drives then
    if range = 4 then (if 40000 < x.drive then some 1 else if x.drive < 50 then some 2 else none)
    else if x.compliance then some 3 else none
  else if (s.aiChan n).owner ≠ 0xFF ∧ x.sensed < 100 then some 4
  else none

/-- A swap instant of a channel (R361, R363, R379, R285, R385). -/
def State.excSwap (s : State) (n : Nat) (x : ExcIn) : State :=
  let a := s.aiChan n
  let s := match s.excCondition n x with
    | none => s.modAi n (fun a => { a with excRun := 0, excFault := false })
    | some cause =>
      let s := s.modAi n (fun a => { a with excRun := min 2 (a.excRun + 1), excFault := decide (1 ≤ a.excRun) })
      if a.excRun = 1 ∧ !a.excFault then s.raise 130 [(1, n), (1, cause), (1, b2n a.drives)] else s
  -- a written Range, ExcLevel or Blanking takes effect here; HalfPeriod where the two grids meet
  let cfg := s.aiConfig n
  let old := a.exc.getD cfg
  let newHalf := bits cfg 16 8 * 250000
  let half := if newHalf ≠ 0 ∧ s.gridInstant newHalf = s.gridInstant Config.frameNs then bits cfg 16 8 else bits old 16 8
  let s := s.modAi n (fun a => { a with exc := some (setBits cfg 16 8 half) })
  let mine := s.excWanted n
  let owner := s.excOwner n
  let s := s.modAi n (fun a => { a with
    drives := mine, owner := owner,
    settle := if mine && !a.drives then s.gridInstant Config.frameNs + s.blankNs n else a.settle })
  if owner ≠ a.owner ∧ owner ≠ 0xFF ∧ a.owner ≠ 0xFF then
    s.raise 137 [(1, n), (1, owner), (8, s.gridInstant Config.frameNs)]
  else s

/-- EXCITATION_SWAP. -/
def execExcitationSwap (dt n : Nat) (x : ExcIn) (s : State) : Host.Outcome State Fault Refusal :=
  let s := s.elapse dt
  if 32 ≤ n then .next s
  else if !s.has .ai || !((bit (s.aiConfig n) 31 && aiExcited (s.aiConfig n)) || (s.aiChan n).drives) || !s.onGrid (s.halfNs n) then
    .next s
  else .next (s.excSwap n x)

/-- CM_MEASUREMENT: the mean of a channel's terminals against analogue ground, mV (R378). -/
def execCmMeasurement (dt n : Nat) (mv : Int) (s : State) : Host.Outcome State Fault Refusal :=
  let s := s.elapse dt
  if 32 ≤ n then .next s
  else if !s.has .ai then .next s
  else
    let w := s.eff (0x0901 + 4 * n)
    let lo := toSigned 8 (bits w 24 8) * 100
    let hi := toSigned 8 (bits w 16 8) * 100
    let out := decide (mv < lo) || decide (hi < mv)
    let a := s.aiChan n
    let cmOut := if out then min 4 (a.cmOut + 1) else 0
    let cmIn := if out then 0 else min 4 (a.cmIn + 1)
    let fault := if cmOut = 4 then true else if cmIn = 4 then false else a.cmFault
    let s := s.modAi n (fun a => { a with cmOut := cmOut, cmIn := cmIn, cmFault := fault })
    .next (if fault && !a.cmFault then s.raise 131 [(1, n), (4, ofSigned 32 mv), (2, bits w 16 16)] else s)

/-! ## Pair comparison -/

/-- The results of an agreed input frame enter the comparison of R384. -/
def State.agreedResults (s : State) (rs : List Nat) : State :=
  rs.foldl (fun s r =>
    let conv := bits r 52 4
    let entry := bits r 48 4
    let fl := bits r 32 16
    if conv < 8 ∧ bit fl 15 ∧ !bit fl 14 ∧ fl &&& faultFlags = 0 then
      match seqChannel conv (s.seqEntry conv entry) with
      | some n => s.modAi n (fun a => { a with agrSum := sum64 a.agrSum (r % 2 ^ 32), agrN := a.agrN + 1 })
      | none => s
    else s) s

/-- DRIFT_COMPARISON: the means of a whole second (R384). -/
def execDriftComparison (dt n : Nat) (s : State) : Host.Outcome State Fault Refusal :=
  let s := s.elapse dt
  if 32 ≤ n then .next s
  else if !s.has .ai || !s.onGrid 1000000000 then .next s
  else
    let a := s.aiChan n
    let tol := bits (s.eff (0x0901 + 4 * n)) 0 16
    let s := s.modAi n (fun a => { a with ownSum := 0, ownN := 0, agrSum := 0, agrN := 0 })
    if s.role ≠ .standby ∨ tol = 0 ∨ a.ownN = 0 ∨ a.agrN = 0 then .next s
    else
      let fs := fullScale (aiRange (s.aiConfig n))
      let d := fabs fmt64 (fsub fmt64 (fdiv fmt64 a.ownSum (ofInt fmt64 a.ownN)) (fdiv fmt64 a.agrSum (ofInt fmt64 a.agrN)))
      let ppm := fdiv fmt64 (fmul fmt64 d (f64 1000000 1)) (f64 fs.1 fs.2)
      let ovr_ := flt fmt64 (ofInt fmt64 tol) ppm
      let s := s.modAi n (fun a => { a with driftRun := if ovr_ then min 11 (a.driftRun + 1) else 0 })
      .next (if ovr_ && a.driftRun == 9 then s.raise 138 [(1, n), (1, 1), (4, f64to32 ppm)] else s)

/-! ## Calibration and rotation -/

/-- The drift of a set of factors in ppm, binary64 (R317), against the factory factors 0 µV and 1.0: the larger of the two, at the
gain with the largest. -/
def driftOf (offsets gains : List Nat) : Nat :=
  (List.range 8).foldl (fun m g =>
    let dg := fmul fmt64 (fabs fmt64 (fsub fmt64 (f32to64 (gains.getD g 0)) (f64 1 1))) (f64 1000000 1)
    let d0 := fdiv fmt64 (fmul fmt64 (fabs fmt64 (f32to64 (offsets.getD g 0))) (ofInt fmt64 (2 ^ g))) (f64 25 10)
    fmax fmt64 m (fmax fmt64 dg d0)) 0

/-- The first gain at which a calibration fails (R380): an offset above 1 % of full scale or a gain factor outside 0.98–1.02. -/
def calFails (offsets gains : List Nat) : Option Nat :=
  (List.range 8).find? (fun g =>
    let o := fabs fmt32 (offsets.getD g 0)
    let k := gains.getD g 0
    !(fle fmt32 o (ofRatio fmt32 25000 (2 ^ g))) || !(fle fmt32 (f32 98 100) k && fle fmt32 k (f32 102 100)))

/-- The calibration of a physical converter ends (R380, R317): the new factors are stored, or it has failed and keeps its previous
ones. Answers whether it failed. -/
def State.calEnd (s : State) (p : Nat) (offsets gains : List Nat) : Bool × State :=
  let s := s.modCal p (fun k => { k with running := none })
  match calFails offsets gains with
  | some g =>
    let s := s.modCal p (fun k => { k with failed := true })
    (true, s.raise 133 [(1, p), (1, g), (4, offsets.getD g 0), (4, gains.getD g 0)])
  | none =>
    let s := s.modCal p (fun k => { k with
      done := true, failed := false
      offset := (List.range 8).foldl (fun t g => tset t g 0 (offsets.getD g 0)) []
      gain := (List.range 8).foldl (fun t g => tset t g none (some (gains.getD g 0))) [] })
    (false, { s with annex := { s.annex with drift := tset s.annex.drift p 0 (f64to32 (driftOf offsets gains)) } })

/-- Is a converter's drift above DriftLimit (R315)? -/
def State.drifts (s : State) (p : Nat) : Bool := flt fmt32 (s.eff 0x0764) (tget s.annex.drift p 0)

/-- The drift is held against its limit (R315, R316). -/
def State.driftLimit (s : State) (p : Nat) : State :=
  if s.drifts p then s.limitCrossed (21 + p) 3 (tget s.annex.drift p 0) (s.eff 0x0764)
  else { s with annex := { s.annex with crossed := s.annex.crossed.filter (· != 256 * 3 + 21 + p) } }

/-- The rotation ends (R323 step 4): EV088 (outcome 1 returned, 2 replaced for good, 3 abandoned), and what waited goes on. -/
def State.rotEnd (s : State) (o : Rotation) (outcome : Nat) : State :=
  let s := { s with annex := { s.annex with rotation := none } }
  let s := s.modRes (21 + o.conv) (fun c => { c with wear := c.wear + 1 })
  let s := s.raise 88 [(1, o.conv), (1, o.standin), (4, tget s.annex.drift o.conv 0), (1, outcome)]
  let s := s.completeOpt o.op (if outcome = 3 then .notReady else .ok)
  s.calNext

/-- The rotated converter is FAILED and the stand-in stays (R323 step 4). -/
def State.rotKeep (s : State) (o : Rotation) : State :=
  let s := (s.setRes (21 + o.conv) 3).setRes (21 + o.standin) 2
  let s := { s with annex := { s.annex with
    convRemap := tset s.annex.convRemap o.standin none (some (o.conv, true)) } }
  (s.exhaust 4).rotEnd o 2

/-- CONVERTER_CALIBRATION_DONE: 420 ms have passed (R380, R381, R323 step 3). -/
def execConverterCalibrationDone (dt p : Nat) (offsets gains : List Nat) (s : State) : Host.Outcome State Fault Refusal :=
  let s := s.elapse dt
  if 10 ≤ p then .next s
  else
    match (s.cal p).running with
    | none => .next s
    | some t =>
      if !s.since t (420 * Config.ticksPerMs) then .next s
      else
        match s.annex.rotation with
        | some o =>
          if o.conv = p ∧ o.step = .recal then
            let (failed, s) := s.calEnd p offsets gains
            let s := if failed then s.provenFault (21 + p) else s.driftLimit p
            let perm := (match s.annex.rotation with | some o => o.permanent | none => false)
            .next (if failed || perm || s.drifts p then s.rotKeep o
              else { s with annex := { s.annex with rotation := some { o with step := .returning, since := s.tick } } })
          else if o.standin = p then .next s
          else
            let (failed, s) := s.calEnd p offsets gains
            let s := if failed then s.provenFault (21 + p) else s.driftLimit p
            .next ((match s.servedBy p with | some c => s.autoStart c | none => s).calNext)
        | none =>
          let (failed, s) := s.calEnd p offsets gains
          let s := if failed then s.provenFault (21 + p) else s.driftLimit p
          .next ((match s.servedBy p with | some c => s.autoStart c | none => s).calNext)

/-- STANDIN_CALIBRATION_DONE: the stand-in has calibrated itself and shadows (R323 step 1); if it fails it is FAILED and the
rotation is abandoned before its switch (R314). -/
def execStandinCalibrationDone (dt : Nat) (offsets gains : List Nat) (s : State) : Host.Outcome State Fault Refusal :=
  let s := s.elapse dt
  match s.annex.rotation with
  | none => .next s
  | some o =>
    if o.step ≠ .standinCal ∨ !s.since o.since (420 * Config.ticksPerMs) then .next s
    else
      let (failed, s) := s.calEnd o.standin offsets gains
      if failed then .next ((s.spareFails (21 + o.standin)).rotEnd o 3)
      else .next { s with annex := { s.annex with rotation := some { o with step := .shadow, since := s.tick } } }

/-- SHADOW_PASS_DONE: a full sequence pass in parallel has ended (R323): the stand-in takes over and CVn calibrates itself, or CVn
switches back, each by the four steps of R318. -/
def execShadowPassDone (dt : Nat) (s : State) : Host.Outcome State Fault Refusal :=
  let s := s.elapse dt
  match s.annex.rotation with
  | none => .next s
  | some o =>
    match o.step with
    | .shadow =>
      let s := s.migBegin (21 + o.conv) (21 + o.standin) 3
      let s := { s with annex := { s.annex with
        convRemap := tset s.annex.convRemap o.standin none (some (o.conv, false))
        rotation := some { o with step := .recal, since := s.tick } } }
      let s := (s.setRes (21 + o.standin) 2).migEnd (21 + o.conv) (21 + o.standin) s.tick none
      .next (s.calStart o.conv)
    | .returning =>
      if o.permanent then .next (s.rotKeep o)
      else
        let s := s.migBegin (21 + o.standin) (21 + o.conv) 3
        let s := { s with annex := { s.annex with convRemap := tset s.annex.convRemap o.standin none none } }
        let s := s.setRes (21 + o.standin) 1
        let s := s.migEnd (21 + o.standin) (21 + o.conv) s.tick none
        let s := (s.modRes (21 + o.standin) (fun c => { c with standsFor := none })).modRes (21 + o.conv)
          (fun c => { c with standsFor := none })
        .next (s.rotEnd o 1)
    | _ => .next s

/-- The stand-in of a rotation fails (R323): before the switch the rotation is abandoned. While it stands in, CVn takes its channels back at
once; a calibration of CVn is abandoned with its previous factors, and its results carry SETTLING for one filter length. -/
def State.standinFault (s : State) (o : Rotation) : State :=
  let s := if o.step = .recal ∨ o.step = .returning then
      let s := s.modCal o.conv (fun k => { k with running := none })
      let s := { s with annex := { s.annex with convRemap := tset s.annex.convRemap o.standin none none } }
      (List.range 4).foldl (fun s i => s.modAi (4 * o.conv + i) (fun a => { a with settle := s.now })) s
    else s.modCal o.standin (fun k => { k with running := none })
  (s.spareFails (21 + o.standin)).rotEnd o 3

/-- The converters of a mask calibrate (R380, R381): those present and not FAILED. -/
def State.calibrate (s : State) (mask : Nat) (op : Option Nat) : State :=
  let m := if mask = 0 then 1023 else mask
  let ps := (List.range 10).filter (fun p => bit m p && s.resState (21 + p) != 4 && s.resState (21 + p) != 3)
  let s := { s with ai := { s.ai with calOp := some op, calState := 1 } }
  (ps.foldl (fun s p => s.modCal p (fun k => { k with queued := true, failed := false })) s).calNext

/-- AI_CALIBRATE (R381). -/
def aiCalibrateCmd : Cmd := { Cmd.plain 0x0070 (fun r s =>
    runAsync (fun op b _ s => s.calibrate (beAt b 0 2) op) r s) with
  absent := fun _ s => if s.has .ai then none else some noPos
  malformed := fun r _ => if r.body.length ≠ 4 ∨ beAt r.body 2 2 ≠ 0 then some noPos else none
  value := fun r _ => if 1024 ≤ beAt r.body 0 2 then some (.range, noPos) else none
  busy := fun _ s => s.ai.calOp.isSome || (List.range 10).any (fun p => (s.cal p).running.isSome && s.annex.rotation.isNone)
  async := fun _ _ => true }

/-- AI_CALIBRATE. -/
def execAiCalibrate (dt : Nat) (p : Packet) (s : State) : Host.Outcome State Fault Refusal :=
  execMail aiCalibrateCmd (codeIs 0x0070) dt p s

end Sys2Proof.Machine
end

