-- ==== Sys2Proof/Machine/Frames.lean ====
section
/-!
DEFINITION. Output frames to the remote I/O stations (R267, R440) and the records that travel in an agreed input frame (R372,
R375, R376, R406, R407).
-/
namespace Sys2Proof.Machine

/-- Change one interface. -/
def State.modPort (s : State) (p : Nat) (f : Port → Port) : State :=
  { s with net := { s.net with port := tmod s.net.port p {} f } }
/-- One interface: PN-A 0, PN-B 1, SV 2. -/
def State.port (s : State) (p : Nat) : Port := tget s.net.port p {}
/-- PrpEnable (R433). -/
def State.prp (s : State) : Bool := bit (s.eff 0x0C00) 30
/-- The IPv4 address of an interface: with PRP both plant ports hold element 0's (R433, R437). -/
def State.ifcAddr (s : State) (p : Nat) : Nat :=
  if p = 2 then s.eff 0x0C41 else if s.prp then s.eff 0x0C01 else s.eff (0x0C01 + 32 * p)
/-- The interface is enabled (R436, R437). -/
def State.ifcOn (s : State) (p : Nat) : Bool := if p = 2 then bit (s.eff 0x0C40) 31 else bit (s.eff (0x0C00 + 32 * p)) 31
/-- The interface may send (R28, R434, R436). -/
def State.ifcSends (s : State) (p : Nat) : Bool :=
  s.ifcOn p && (s.port p).link && !(s.port p).conflict && s.ifcAddr p != 0 && s.mu.slot != 0xFF

/-- A PRP supervision frame on each LAN, every 2 s (R433). -/
def State.sendSupervision (s : State) : State :=
  if s.prp && s.onGrid 2000000000 then
    ([0, 1].filter s.ifcSends).foldl (fun s p => (s.modPort p (fun q => { q with tx := q.tx + 1 })).emit (.supervision p)) s
  else s

/-- Send a datagram on the plant network from port `src`: on every plant interface that may send, counted in TxFrames (R433, R435,
R436). -/
def State.plantSend (s : State) (src addr port : Nat) (b : List Byte) : State :=
  let ps := [0, 1].filter s.ifcSends
  if ps.isEmpty then s
  else (ps.foldl (fun s p => s.modPort p (fun q => { q with tx := q.tx + 1 })) s).emit (.plant src addr port b)

/-- Bits packed most significant first and padded to a whole byte (R261, R440). -/
def packBits : Nat → List Bool → List Byte
  | 0, _ => []
  | n + 1, l =>
    BitVec.ofNat 8 ((List.range 8).foldl (fun a i => a * 2 + b2n (l.getD i false)) 0) :: packBits n (l.drop 8)

/-- Binary values packed into ⌈n ÷ 8⌉ bytes. -/
def packBp (l : List Bool) : List Byte := packBits ((l.length + 7) / 8) l

/-- The payload of an output frame (R440): the output points' values, those of the cycle where it produced them. -/
def State.stationPayload (s : State) (e : Nat) (ap bp : List (Nat × Nat)) : List Byte :=
  let a := (List.range (fld e 0x12 0 16)).map (fun i =>
    let p := fld e 0x10 0 16 + i
    beBytes 4 ((ap.find? (·.1 == p)).elim (s.ap p) Prod.snd))
  let b := (List.range (fld e 0x16 0 16)).map (fun i =>
    let p := fld e 0x14 0 16 + i
    (bp.find? (·.1 == p)).elim (s.bp p) Prod.snd != 0)
  a.flatten ++ packBp b

/-- One output frame (R267). -/
def State.outputFrame (s : State) (rep : Bool) (station task epoch osn stamp : Nat) (pl : List Byte) : List Byte :=
  beBytes 1 1 ++ beBytes 1 (4 * b2n rep + 2 * b2n (s.role == .solo) + s.mu.slot % 2) ++ beBytes 2 station ++
  beBytes 1 task ++ beBytes 1 epoch ++ beBytes 2 pl.length ++ beBytes 4 osn ++ beBytes 4 0 ++ beBytes 8 stamp ++ pl

/-- The enabled stations with an output stream that a task serves (R438). -/
def State.stationsOf (s : State) (task : Nat) : List (Nat × Nat) :=
  (s.entries 0x000B).filter (fun (_, e) =>
    bit (fld e 2 0 8) 7 && fld e 3 0 8 == task && (fld e 0x12 0 16 != 0 || fld e 0x16 0 16 != 0))

/-- Send the payloads of a task to its stations under an OSN (R267, R268). -/
def State.sendPayload (s : State) (rep : Bool) (task osn : Nat) (p : Payload) : State :=
  p.frames.foldl (fun s (slot, pl) =>
    let e := s.entry 0x000B slot
    s.plantSend 47220 (fld e 4 0 32) 47220
      (s.outputFrame rep (fld e 0 0 16) task (s.task task).epoch osn p.stamp pl)) s

/-- A result record as the number its 16-byte image spells (R372). -/
def AiRec.image (r : AiRec) : Nat :=
  r.value + r.flags * 2 ^ 32 + (r.conv * 16 + r.entry) * 2 ^ 48 + r.seq % 256 * 2 ^ 56 + r.stamp * 2 ^ 64

/-- A direct result as a reader receives it: STALE where it has received this result before, and its read mark moved (R376).
Readers: tasks 0–31, loop records from 32 on. -/
def State.readDirect (s : State) (reader conv entry : Nat) : AiRec × State :=
  let c := tget s.ai.conv conv {}
  let r := tget c.direct entry {}
  let k := 1024 * reader + 16 * conv + entry
  let n := tget c.number entry 0
  let r := if n != 0 && tget s.ai.marks k 0 == n then { r with flags := r.flags ||| 2 ^ 14 } else r
  (r, { s with ai := { s.ai with marks := tset s.ai.marks k 0 n } })

/-- A HART response record as the number its 64-byte image spells (R406). -/
def HartRec.image (r : HartRec) (modem entry : Nat) (stale : Bool) : Nat :=
  modem + entry * 2 ^ 8 + r.command * 2 ^ 16 +
  (b2n r.valid * 2 ^ 15 + b2n stale * 2 ^ 14 + b2n r.timeout * 2 ^ 13 + b2n r.burst * 2 ^ 12 + b2n r.trunc * 2 ^ 11) * 2 ^ 32 +
  r.count * 2 ^ 48 + r.rc * 2 ^ 64 + r.ds * 2 ^ 72 + r.number * 2 ^ 96 + r.stamp * 2 ^ 128 + leNat (padTo 40 r.data) * 2 ^ 192

/-- A HART record as a task receives it (R407). -/
def State.readHart (s : State) (task modem entry : Nat) : Nat × State :=
  let r := tget (tget s.ao.modem modem {}).recs entry {}
  let k := 65536 * task + 256 * modem + entry
  let stale := r.number != 0 && tget s.ao.marks k 0 == r.number
  (r.image modem entry stale, { s with ao := { s.ao with marks := tset s.ao.marks k 0 r.number } })

/-- The last `n` records of a converter's buffer that are visible (R375). -/
def State.bufferTail (s : State) (conv n : Nat) : List Nat :=
  let c := tget s.ai.conv conv {}
  let cap := 256 * 2 ^ min 12 (c.control % 16)
  ((List.range n).reverse.map (fun i => tget c.buffer ((c.index + cap - 1 - i) % cap) {})).filterMap (fun r =>
    if bit r.flags 15 then some r.image else none)

end Sys2Proof.Machine
end

