-- ==== Sys2Proof/Machine/CanOps.lean ====
section
/-!
DEFINITION. Who leads: the alarm leader (R247) and the CAN lead (R460), which also holds the panel (R470); CAN buffers, loading
them and clearing them (R461–R465), and the image update of a received frame (R467, R468).
-/
namespace Sys2Proof.Machine

/-- Change one channel. -/
def State.modCan (s : State) (c : Nat) (f : CanCh → CanCh) : State :=
  { s with can := { s.can with ch := tmod s.can.ch c {} f } }
/-- TxTimeout in effect, ms (R464). -/
def CanCh.timeout (k : CanCh) : Nat := match k.cfg with | some (_, _, _, _, t) => t | none => 1000

/-- The channel is active (R459, R460, R462). -/
def State.canActive (s : State) (c : Nat) : Bool :=
  s.canOn c && (s.canRestriction c).isNone && (s.canCh c).busOff.isNone

/-- The completion result of a CAN_SEND (R466). -/
def canResult (cause sof : Nat) : List Byte := beBytes 1 cause ++ beBytes 3 0 ++ beBytes 8 sof

/-- A buffer gives up its frame: its CAN_SEND completes with a status and cause; a frame that waits takes its place where the
transmission had begun (R462–R466). -/
def State.canDrop (s : State) (c b : Nat) (st : Status) (cause sof : Nat) (keepNext : Bool) : State :=
  match tget (s.canCh c).buf b none with
  | none => s
  | some k =>
    let nx : Option CanBuf := match keepNext, k.next with
      | true, some (id, fl, d) => some ⟨id, fl, d, s.tick, none, none⟩
      | _, _ => none
    let s := s.modCan c (fun h => { h with buf := tset h.buf b none nx })
    s.completeOpt (k.op.map Prod.fst) st (canResult cause sof)

/-- Which buffer's transmission has begun at this tick, if any: nothing in the module's commands shows the SOF bit, so this is
a free value (R463, log 8). -/
def State.canBegun (s : State) (c : Nat) : Option Nat × State :=
  let (v, s) := s.takeFree
  let b := v % 65
  (if (tget (s.canCh c).buf b none).isSome then some b else none, s)

/-- A frame enters a buffer of an active channel (R465): it replaces one whose transmission has not begun, and waits behind one
that is being sent. -/
def State.canLoad (s : State) (c b id flags : Nat) (data : List Byte) (op : Option (Nat × U32 × Nat)) : State :=
  if !s.canActive c then s
  else
    let new : CanBuf := ⟨id, flags, data, s.tick, op, none⟩
    match tget (s.canCh c).buf b none with
    | none => s.modCan c (fun h => { h with buf := tset h.buf b none (some new) })
    | some old =>
      let (begun, s) := s.canBegun c
      if begun = some b then
        s.modCan c (fun h => { h with buf := tset h.buf b none (some { old with next := some (id, flags, data) }) })
      else
        s.modCan c (fun h => { h with buf := tset h.buf b none (some new), replaced := h.replaced + 1 })

/-- The CAN frames a cycle hands on: transmit objects of the task whose TriggerBp is 1, with their data bytes (R465). -/
def State.canFrames (s : State) (n : Nat) (c : Cycle) (ap bp : List (Nat × Nat)) : List (Nat × List Byte) :=
  let d := s.decl n
  d.txs.filterMap (fun o =>
    let len := fld o 3 0 8
    let trig := fld o 0x0A 0 16
    let on := trig = 0xFFFF ∨ (match bp.find? (·.1 == trig) with
      | some (_, v) => v
      | none => match firstIdx (· == trig) d.inBp with | some i => c.bp.getD i 0 | none => 0) ≠ 0
    if on then
      some (o, (((List.range ((len + 3) / 4)).map (fun i =>
        beBytes 4 ((ap.find? (·.1 == fld o 8 0 16 + i)).elim 0 Prod.snd))).flatten).take len)
    else none)

/-- The transmit objects of a released cycle are loaded, on the CAN lead only (R465). -/
def State.canRelease (s : State) (tx : List (Nat × List Byte)) : State :=
  if s.canLead then
    tx.foldl (fun s (o, d) =>
      s.canLoad (fld o 0 0 8) (fld o 1 0 8) (fld o 4 0 29 + (fld o 2 0 1) * 2147483648) (fld o 2 0 3) d none) s
  else s

/-- Every pending buffer of a channel that has lost the lead is cleared, and counted in TxFailCount, but for a frame that is being sent
(R461, R464). -/
def State.canYield (s : State) (c : Nat) : State :=
  let (begun, s) := s.canBegun c
  (s.canPending c).foldl (fun s b =>
    if begun = some b then
      s.modCan c (fun h => { h with buf := tmod h.buf b none (fun k => k.map (fun k => { k with next := none })) })
    else (s.modCan c (fun h => { h with fails := h.fails + 1 })).canDrop c b .superseded 0 0 false) s

/-- The operating states follow mode, role and settings (R460, R461, R469): EV213 on each entry into restricted operation. -/
def State.canRefresh (s : State) : State :=
  (List.range 4).foldl (fun s c =>
    let was := (s.canCh c).restricted
    let now := s.canRestriction c
    if was = now then s
    else
      let s := s.modCan c (fun h => { h with restricted := now })
      match now with
      | none => s
      | some k =>
        let s := if was.isNone then s.canYield c else s
        s.raise 213 [(1, c), (1, k)]) s

/-- The channels take their parameters over at a switch instant into M3 or a run mode, and at the load of M1 (R464). -/
def State.canTake (s : State) : State :=
  (List.range 4).foldl (fun s c =>
    let b := 0x0D00 + 32 * c
    s.modCan c (fun h => { h with
      cfg := some (s.eff b, s.eff (b + 1), s.eff (b + 2), s.eff (b + 3), s.eff (b + 4)) })) s

/-- Does a frame with identifier word `id` match a filter entry (R468)? -/
def canMatch (e id : Nat) : Bool :=
  bit (fld e 8 0 8) 7 && (fld e 0 0 29 &&& fld e 4 0 29 == id % 2 ^ 29 &&& fld e 4 0 29) &&
    (!bit e 63 || bit e 31 == bit id 31)

/-- The first filter that takes a frame (R467). -/
def State.canFilter (s : State) (c id : Nat) : Option Nat :=
  (List.range 128).find? (fun k => canMatch (s.entry 0x000D (128 * c + k)) id)

/-- The points of a frame enter the image in one update, stamped with the valid stamp (R468). -/
def State.canPublish (s : State) (f : Nat) (data : List Byte) (stamp : Nat) : State :=
  let e := s.entry 0x000D f
  let base := fld e 0x0A 0 16
  let n := fld e 9 0 8
  let ours := fun p => match s.tk.prog.declOf false p with
    | some d => d.kind == 3 && d.producer == 0x0400 + f
    | none => false
  let cnt := (tget s.can.frames f 0 + 1) % 16777216
  let s := { s with can := { s.can with frames := tset s.can.frames f 0 cnt } }
  let vals := (List.range n).map (fun i => beNat (padTo 4 (slice data (4 * i) 4))) ++ [data.length * 16777216 + cnt]
  (vals.zipIdx).foldl (fun s (v, i) => if ours (base + i) then s.produceAp (base + i) v stamp else s) s

/-- The image port takes the received frames of the channels (R467): in their I/O bus slots, here at a frame boundary. -/
def State.canDrain (s : State) : State :=
  (List.range 4).foldl (fun s c =>
    let q := (s.canCh c).queue
    let s := s.modCan c (fun h => { h with queue := [] })
    q.foldl (fun s (f, d, t) => s.canPublish f d t) s) s

end Sys2Proof.Machine
end

