-- ==== Sys2Proof/Machine/Tasks.lean ====
section
/-!
DEFINITION. Cyclic tasks: due starts, agreed inputs, slice load, close, release, faults, held starts and repeats (R30–R34,
R127–R149, R260–R268, R552), and the changes applied between cycles (R155, R309).
-/
namespace Sys2Proof.Machine

/-! ## Placement -/

/-- Change one core pair. -/
def State.modCore (s : State) (p : Nat) (f : CorePair → CorePair) : State :=
  { s with lk := { s.lk with pair := tmod s.lk.pair p {} f } }

/-! ## Due starts -/

/-- A grid instant of `period` plus `offset` falls in this tick (R127, R445): that instant. -/
def State.gridHit (s : State) (period offset : Nat) : Option Nat :=
  let x := s.clk.tb * 2 ^ 32 + s.clk.frac
  if period = 0 ∨ s.clk.tb < offset then none
  else if (x - offset * 2 ^ 32) % (period * 2 ^ 32) < s.clk.increment then
    some ((s.clk.tb - offset) / period * period + offset)
  else none

/-- A change of the mode is due and not yet made (R40, R41): no task starts a cycle under the old mode. The start stays due. -/
def State.changeDue (s : State) : Bool :=
  (match s.mu.pending with | some c => !c.asked && decide (c.at_ ≤ s.now) | none => false) ||
    (match s.mu.auto with | some a => decide (a.at_ ≤ s.now) | none => false)

/-- State of the reference a phase-bound task follows (R187). -/
def State.taskRef (s : State) (n : Nat) : PhRef := tget s.ph.ref (bits (s.taskCtl n) 14 2) {}

/-- A task's start falls due in this tick, with its t0 (R127). A pair that is not in service runs no application code (R19). -/
def State.dueNow (s : State) (n : Nat) : Option Nat :=
  let k := s.task n
  if !s.taskOn n || k.startTick == some s.tick || s.changeDue || !s.pairServes (s.taskPair n) then none
  else
    match s.cadence n with
    | 0 => s.gridHit (s.eff (0x0301 + 6 * n) * 1000) (s.eff (0x0302 + 6 * n) * 1000)
    | 1 =>
      if (s.taskRef n).state = 3 then k.due.head?
      else if (s.taskRef n).unlockTick < s.tick ∨ (s.taskRef n).unlocks = 0 then
        s.gridHit (s.eff (0x0303 + 6 * n) * 1000) 0
      else none
    | _ =>
      match k.trigger with
      | some (t, _) => if t ≤ s.now then some t else k.due.head?
      | none => k.due.head?

/-- A start is skipped: SkipCount, and EV010 where it is an overrun (R139, R146). -/
def State.skipStart (s : State) (n osn : Nat) (told : Bool) : State :=
  let s := s.modTask n (fun k => { k with skips := satInc 32 k.skips })
  if told then s.raise 10 [(1, n), (4, osn), (4, (s.task n).skips)] else s

/-- The PairWord of an agreed input frame (R261): SOLO, lead slot, SYNCHRONISED. -/
def State.agreedPairWord (s : State) : Nat :=
  4 * b2n (s.role == .solo) + 2 * (s.mu.slot % 2) + b2n (s.pair.sync && s.role == .primary)

/-- TimeInCycle, the service of R262: the CycleStamp plus 0.625 ns for each instruction retired in the cycle, in whole ns (rounded
down, DESIGN CHOICE, log 155). CycleStamp and PairWord, the other services, are fields of the cycle. -/
def Cycle.timeInCycle (c : Cycle) (retired : Nat) : Nat := c.stamp + retired * 5 / 8

/-- One item of an agreed input frame's auxiliary section (R261): kind 1 a direct converter result, 2 a HART response, 3 a command. -/
def auxItem (kind : Nat) (data : List Byte) : List Byte := beBytes 2 kind ++ beBytes 2 data.length ++ data

/-- The data of a command item: code, session, RequestCounter and body; the spec gives no layout (DESIGN CHOICE, log 120). -/
def cmdItem (x : Nat × Nat × Nat × List Byte) : List Byte :=
  auxItem 3 (beBytes 2 x.1 ++ beBytes 4 x.2.1 ++ beBytes 4 x.2.2.1 ++ x.2.2.2)

/-- The agreed input frame of a start at t0, or its skip notice (R128, R261); only a PRIMARY with a partner sends it. -/
def State.agree (s : State) (n osn t0 : Nat) (c : Option Cycle) (results harts : List Nat) : State :=
  if s.role = .primary then
    let cmds := (s.task n).cmds
    let flags := 4 * b2n s.tk.applied + 2 * b2n (!cmds.isEmpty && c.isSome) + b2n c.isNone
    let ends := [s.tk.prog.digest.toNat, s.agreedPairWord]
    match c with
    | some c =>
      (s.modTask n (fun k => { k with cmds := [] })).lane 0x01
        ([n, flags, (s.task n).epoch, osn, c.stamp, c.ap.length, c.bp.length] ++ ends)
        ((c.ap.map (beBytes 4)).flatten ++ packBp (c.bp.map (· != 0)) ++
          (results.map (fun r => auxItem 1 (leBytes 16 r))).flatten ++ (harts.map (fun r => auxItem 2 (leBytes 64 r))).flatten ++
          (cmds.map cmdItem).flatten)
    | none => s.lane 0x01 ([n, flags, (s.task n).epoch, osn, t0, 0, 0] ++ ends)
  else s

/-- The frozen slice of a start (R30, R133): the latest values stamped at or before t0, forces in effect. -/
def State.freeze (s : State) (n t0 osn : Nat) : Cycle :=
  let d := s.decl n
  { t0 := t0, osn := osn, stamp := t0,
    ap := d.inAp.map (fun p => (tget s.pts.ap p {}).atTime t0),
    bp := d.inBp.map (fun p => (tget s.pts.bp p {}).atTime t0),
    loaded := false, forces := s.tk.applied, recovery := false, discard := false, since := s.tick
    pairWord := s.agreedPairWord }

/-- The direct results, record blocks and HART records a start takes (R261, R375, R376, R407). -/
def State.takeAux (s : State) (n : Nat) : List Nat × List Nat × State :=
  let d := s.decl n
  let (rs, s) := d.results.foldl (fun (l, s) x =>
    let (r, s) := State.readDirect s n (x / 16) (x % 16)
    (l ++ [r.image], s)) (([] : List Nat), s)
  let rs := rs ++ (d.blocks.map (fun (c, k) => s.bufferTail c k)).flatten
  let (hs, s) := d.harts.foldl (fun (l, s) x =>
    let (r, s) := State.readHart s n (x / 256) (x % 256)
    (l ++ [r], s)) (([] : List Nat), s)
  (rs, hs, s)

/-- Starts that fall due now are held, not skipped: a recovery is under way and catch-up is not lost (R146), or the task's pair restarts
or loads (R303, R304). -/
def State.holdsStarts (s : State) (n : Nat) : Bool :=
  let k := s.task n
  (!k.lost && (k.abandoned.isSome || (match k.cyc with | some c => c.recovery | none => false))) ||
    (match (s.corePair (s.taskPair n)).drain with | some d => d.loading.isSome | none => false)

/-- A cycle of the task's own is open: it runs, or awaits its recovery run (R139, R146). -/
def State.cycOpen (s : State) (n : Nat) : Bool := (s.cyc n).isSome || (s.task n).abandoned.isSome

/-- LastTaskFault (R126): task, cause. -/
def State.noteFault (s : State) (n cause : Nat) : State :=
  { s with tk := { s.tk with lastFault := n * 16777216 + cause * 65536 } }

/-- Catch-up is lost (R146 step 4, R147): the held starts and this one are skipped, EV019 cause 4. -/
def State.loseCatchUp (s : State) (n osn : Nat) : State :=
  let s := (s.task n).heldStarts.foldl (fun s c => (s.skipStart n c.osn true).withhold n 5 c.osn) s
  let s := s.modTask n (fun k => { k with heldStarts := [], lost := k.recovering })
  let s := s.raise 19 [(1, n), (1, 4), (4, osn), (8, 0)]
  let s := s.noteFault n 4
  let s := (s.skipStart n osn true).withhold n 5 osn
  if s.role = .primary then s.raiseFlag 2
  else if s.role = .standby then s.diverge 4 n osn else s

/-- Task cycles no longer start: power fails (R61), or the module departs (R278). -/
def State.startsNoMore (s : State) : Bool :=
  s.sup.powerFail || (match s.pair.departure with | some d => d.leaving | none => false)

/-- A cycle opens, or is held for after the recovery (R129, R139, R146). -/
def State.openCycle (s : State) (n : Nat) (c : Cycle) : State :=
  if s.startsNoMore then s
  else if s.holdsStarts n then
    if (s.task n).heldStarts.length < 2 then s.modTask n (fun k => { k with heldStarts := k.heldStarts ++ [c] })
    else s.loseCatchUp n c.osn
  else s.modTask n (fun k => { k with cyc := some c })

/-- A switch gap is open: starts of the old program are not taken (R160). -/
def State.inGap (s : State) : Bool := match s.tk.switch with | some w => w.since.isSome | none => false

/-- Step 3 of a program switch has begun: it completes before a mode change (R160). -/
def State.copying (s : State) : Bool := match s.tk.switch with | some w => w.copying.isSome | none => false

/-- A due start on a module that decides its own starts (R127–R129, R139, R145, R146, R160). -/
def State.leadStart (s : State) (n t0 : Nat) : State :=
  let osn := wrapInc 32 (s.task n).osn
  let op := (s.task n).trigger
  let s := s.modTask n (fun k => { k with
    osn := osn, startTick := some s.tick, due := k.due.drop 1, trigger := none, awaited := none })
  let s := match op with
    | some (_, ids) => ids.foldl (fun (s : State) id => s.complete id .ok (beBytes 4 osn)) s
    | none => s
  if s.inGap then
    let s := s.skipStart n osn false
    match (s.task n).payload with
    | some p => s.sendPayload true n osn p
    | none => s
  else if (s.task n).stopped then (s.skipStart n osn false).agree n osn t0 none [] []
  else if s.cycOpen n && !s.holdsStarts n then (s.skipStart n osn true).agree n osn t0 none [] []
  else if s.holdsStarts n && decide (2 ≤ (s.task n).heldStarts.length) then
    (s.loseCatchUp n osn).agree n osn t0 none [] []
  else
    let s := s.installForces
    let c := s.freeze n t0 osn
    let (rs, hs, s) := s.takeAux n
    (s.agree n osn t0 (some c) rs hs).openCycle n c

/-- A start whose agreed frame has not come in time is skipped (R34): a withheld marker and EV041; three in 64 cycles are
divergence. -/
def State.lateStart (s : State) (n osn : Nat) : State :=
  let s := s.modTask n (fun k => { k with
    osn := osn, awaited := none, skips := satInc 32 k.skips,
    lateOsns := (k.lateOsns.filter (fun o => decide ((osn + 2 ^ 32 - o) % 2 ^ 32 < 64))) ++ [osn] })
  let s := (s.withhold n 4 osn).raise 41 [(1, n), (4, osn)]
  if 3 ≤ (s.task n).lateOsns.length then
    (s.modTask n (fun k => { k with lateOsns := [] })).diverge 2 n osn
  else s

/-- A STANDBY's own due instant (R34): a start whose agreed frame has not come by the next one is late. A trigger of an event task that
this module sees itself only names the start to await: the PRIMARY decides whether it is one (R128). -/
def State.standbyDue (s : State) (n t0 : Nat) : State :=
  let s := s.modTask n (fun k => { k with startTick := some s.tick, due := k.due.drop 1 })
  let s := match (s.task n).awaited with
    | none => s
    | some (osn, _) => if s.cadence n ≤ 1 then s.lateStart n osn else s
  if (s.task n).lastStamp ≥ t0 then s
  else s.modTask n (fun k => { k with awaited := some (wrapInc 32 k.osn, t0) })

/-- A task's start falls due (R127): nothing where none does in this tick. -/
def State.dueStart (s : State) (n : Nat) : State :=
  match s.dueNow n with
  | none => s
  | some t0 =>
    if !s.mode.isRun then s.modTask n (fun k => { k with due := [], trigger := none })
    else if s.decidesStarts then s.leadStart n t0
    else if s.role = .standby ∧ s.pair.sync then s.standbyDue n t0
    else s

/-- The STANDBY takes an agreed input frame, and so does a module that has just taken over for the start it still awaits (R32, R34, R128, R136, R139, R150, R261, R271). -/
def State.standbyFrame (s : State) (f : AgreedIn) : State :=
  let n := f.task
  let k := s.task n
  if (s.role ≠ .standby ∧ k.awaited.map Prod.fst ≠ some f.osn) ∨ !s.mode.isRun then s
  else
    let ahead := (f.osn + 2 ^ 32 - k.osn) % 2 ^ 32
    -- a start that R34 has skipped, or a repeated one, is not run later
    if (ahead = 0 ∨ 2 ^ 31 ≤ ahead) ∧ k.lastStamp ≠ 0 then s
    else
      -- the starts between, whose frames have not come, are late
      let s := if k.lastStamp = 0 ∨ s.pair.resync then s
        else (List.range (min (ahead - 1) 64)).foldl (fun s i => s.lateStart n ((k.osn + 1 + i) % 2 ^ 32)) s
      let s := s.modTask n (fun k => { k with
        osn := f.osn, epoch := f.epoch, lastStamp := f.stamp,
        awaited := if k.awaited.map Prod.fst = some f.osn then none else k.awaited })
      let s := ({ s with tk := { s.tk with peerForces := f.forces } }).refreshForces
      if s.pair.resync then s.withhold n 3 f.osn
      else if f.digest ≠ s.tk.prog.digest.toNat then s.withhold n 3 f.osn
      else if f.skip then s.skipStart n f.osn (!k.stopped)
      else
        let c : Cycle := {
          t0 := f.stamp, osn := f.osn, stamp := f.stamp, ap := f.ap, bp := f.bp,
          loaded := false, forces := f.forces, recovery := false, discard := false, since := s.tick, pairWord := f.pairWord }
        if k.stopped then s.withhold n 5 f.osn
        else if s.cycOpen n && !s.holdsStarts n then
          let s := (s.skipStart n f.osn true).withhold n 5 f.osn
          let s := s.modTask n (fun k => { k with
            lateOsns := (k.lateOsns.filter (fun o => decide ((f.osn + 2 ^ 32 - o) % 2 ^ 32 < 64))) ++ [f.osn] })
          if 3 ≤ (s.task n).lateOsns.length then
            (s.modTask n (fun k => { k with lateOsns := [] })).diverge 2 n f.osn
          else s
        else s.openCycle n c

/-! ## The state area -/

/-- The 64 bytes of line `l` of a task's state area. -/
def State.areaLine (s : State) (n l : Nat) : List Byte :=
  (List.range 64).map (fun i => tget (s.task n).area (64 * l + i) 0#8)

/-- What one retained line adds to the sum of R266. -/
def lineSum (l : Nat) (b : List Byte) : U64 := BitVec.ofNat 64 (beNat ((sha256 (leBytes 4 (64 * l) ++ b)).take 8))

/-- The sum over every line of the retained part (R266), built by a full read. -/
def State.hashArea (s : State) (n : Nat) : U64 :=
  (List.range (((s.decl n).retainSize + 63) / 64)).foldl (fun a l => a + lineSum l (s.areaLine n l)) 0

/-- Bytes of a task's state area set. -/
def areaPut (a : Tab Byte) (off : Nat) : List Byte → Tab Byte
  | [] => a
  | b :: t => areaPut (tset a off 0#8 b) (off + 1) t

/-- Write bytes to a task's state area: the granules of its retained part are dirtied (R61) and its sum follows (R266). -/
def State.writeArea (s : State) (n off : Nat) (b : List Byte) : State :=
  let lines := (List.range ((off % 64 + b.length + 63) / 64)).map (fun i => off / 64 + i)
  let kept := lines.filter (fun l => decide (64 * l < (s.decl n).retainSize))
  let before := kept.foldl (fun a l => a + lineSum l (s.areaLine n l)) (0 : U64)
  let s := s.modTask n (fun k => { k with area := areaPut k.area off b })
  let after := kept.foldl (fun a l => a + lineSum l (s.areaLine n l)) (0 : U64)
  let s := s.modTask n (fun k => { k with hash := k.hash - before + after })
  let gs := (kept.map (fun l => n * 2 ^ 16 + l / 64)).eraseDups
  { s with ret := { s.ret with dirty := s.ret.dirty ++ gs.filter (fun g => !s.ret.dirty.contains g) } }

/-- The value of a symbol in its task's state area, or its constant patch (R122, R156). -/
def State.patchSlot (s : State) (f : ProgSlot → ProgSlot) : State :=
  if s.tk.active = 0 then { s with tk := { s.tk with slotA := f s.tk.slotA } }
  else if s.tk.active = 1 then { s with tk := { s.tk with slotB := f s.tk.slotB } }
  else s

/-- One entry of a VALUE_WRITE applied (R155, R156). -/
def State.applyValue (s : State) (n sym len v : Nat) : State :=
  match s.tk.prog.syms[sym]? with
  | none => s
  | some y =>
    if bit y.flags 1 then
      s.patchSlot (fun p => { p with patches := (p.patches.filter (fun q => q.1 != sym)) ++ [(sym, v)] })
    else s.writeArea n y.offset (if y.type = 12 then beBytes len v else leBytes len v)

/-- The OSN of the first cycle that runs with values applied now (R155). -/
def State.nextOsn (s : State) (n : Nat) : Nat :=
  match s.cyc n with
  | some c => if c.loaded then wrapInc 32 (s.task n).osn else c.osn
  | none => wrapInc 32 (s.task n).osn

/-- A pending VALUE_WRITE may be applied now: the task's next cycle, which is open and not yet loaded or is still to come, is one
its boundary admits (R83, R155). A STANDBY waits for the slice load, so that both modules choose the same cycle. -/
def State.writeReady (s : State) (n : Nat) (w : ValueWrite) : Bool :=
  match s.cyc n with
  | some c => !c.loaded && decide (w.at_ ≤ c.t0)
  | none => s.role != .standby

/-- The pending VALUE_WRITEs and debug writes of a task are applied, between a close and the next slice load (R155, R309). While an
abandoned cycle awaits its recovery run the committed state area is its checkpoint and stays (R141). -/
def State.applyWrites (s : State) (n : Nat) : State :=
  if (match s.cyc n with | some c => c.loaded | none => false) || (s.task n).abandoned.isSome then s
  else
    let osn := s.nextOsn n
    let (ws, rest) := (s.task n).writes.partition (s.writeReady n)
    let s := s.modTask n (fun k => { k with writes := rest })
    let s := ws.foldl (fun s w =>
      let s := w.entries.foldl (fun s (y, l, v) => s.applyValue n y l v) s
      let s := { s with tk := { s.tk with changes := s.tk.changes + w.entries.length } }
      let s := s.raise 18 [(1, n), (4, osn), (2, w.entries.length)]
      let s := s.archCommand 0 0x0042 w.session.toNat w.body
      s.completeOpt w.op .ok (beBytes 4 osn)) s
    let ds := s.lk.writes.filter (fun w => w.task == n)
    let s := { s with lk := { s.lk with writes := s.lk.writes.filter (fun w => w.task != n) } }
    ds.foldl (fun s w => s.writeArea n w.addr w.bytes) s

/-! ## Load, close and release -/

/-- Priority (R125). -/
def State.priority (s : State) (n : Nat) : Nat := bits (s.taskCtl n) 24 5

/-- Task `m` goes before task `n` on a pair (R130): the lower Priority number, then the earlier t0, then the lower task number. -/
def State.goesBefore (s : State) (m n : Nat) : Bool :=
  let t := fun k => match s.cyc k with | some c => c.t0 | none => 0
  let a := s.priority m
  let b := s.priority n
  decide (a < b ∨ (a = b ∧ (t m < t n ∨ (t m = t n ∧ m < n))))

/-- The task has been released to its pair: its cycle is open and its slice is loaded (R131). -/
def State.released (s : State) (n : Nat) : Bool := match s.cyc n with | some c => c.loaded | none => false

/-- The task its pair runs (R130): no released task of the pair goes before it, and the pair is not blocked (R294, R298). Every other
released task of the pair is preempted, or waits. -/
def State.runsNow (s : State) (n : Nat) : Bool :=
  s.released n && !s.blocked (s.taskPair n) &&
    (List.range 32).all (fun m => m == n || !(s.released m && s.taskPair m == s.taskPair n && s.goesBefore m n))

/-- The image port serves the task's slice load next (R134): of the loads that wait, the one of the earliest start, and of those of one
tick the lowest Priority number and then the lowest task number, over all pairs; a blocked pair asks for none (R294). -/
def State.loadsNext (s : State) (n : Nat) : Bool :=
  let waits := fun m => match s.cyc m with
    | some c => if c.loaded || s.blocked (s.taskPair m) then none else some c.since
    | none => none
  match waits n with
  | none => false
  | some t => (List.range 32).all (fun m =>
    match waits m with
    | some u => m == n || !decide (u < t ∨ (u = t ∧ (s.priority m < s.priority n ∨ (s.priority m = s.priority n ∧ m < n))))
    | none => true)

/-- The previous states of edge points that have none take the slice values of the cycle: the first cycle sees no edge (R138). -/
def State.firstEdges (s : State) (n : Nat) (c : Cycle) : State :=
  let d := s.decl n
  d.edges.foldl (fun s p =>
    match firstIdx (· == p) d.inBp, tget (s.task n).prev p none with
    | some i, none => s.modTask n (fun k => { k with prev := tset k.prev p none (some (c.bp.getD i 0)) })
    | _, _ => s) s

/-- The slice of the open cycle is loaded (R133): what waited for the gap between two cycles is applied first, and the forces
that are applied come into effect (R150, R155). -/
def State.sliceLoad (s : State) (n : Nat) : State :=
  match s.cyc n with
  | none => s
  | some c =>
    if c.loaded then s
    else
      let s := ((s.applyWrites n).installFor c).firstEdges n c
      s.modTask n (fun k => { k with cyc := some { c with loaded := true } })

/-- After a cycle has gone: the next held start opens (R146), with the values it froze. -/
def State.nextHeld (s : State) (n : Nat) : State :=
  match (s.task n).heldStarts with
  | [] => s
  | c :: t => s.modTask n (fun k => { k with cyc := some c, heldStarts := t })

/-- The output points of the cycle enter the image, stamped with the end of the copy (R133, R135, R343). A safety-coloured
point of an unverified task is not copied, with EV100 each. -/
def State.copyOut (s : State) (n : Nat) (ap bp : List Nat) : State :=
  let d := s.decl n
  let keys := s.ctxKeys d.ctx
  if bit keys 14 && s.unverified n then
    (d.outAp ++ d.outBp).foldl (fun s p =>
      let s := { s with prot := { s.prot with ctxColour := tmod s.prot.ctxColour d.ctx 0 (satInc 16) } }
      s.raise 100 [(1, s.taskPair n), (4, p), (1, 14), (2, keys - 2 ^ 14), (1, 0), (5, 0)]) s
  else
    let s := (d.outAp.zip ap).foldl (fun s (p, v) => s.produceAp p v s.now) s
    (d.outBp.zip bp).foldl (fun s (p, v) => s.produceBp p (v != 0) s.now) s

/-- The previous states take the slice values of the cycle (R137, R138). -/
def State.storeEdges (s : State) (n : Nat) (c : Cycle) : State :=
  let d := s.decl n
  d.edges.foldl (fun s p =>
    match firstIdx (· == p) d.inBp with
    | some i => s.modTask n (fun k => { k with prev := tset k.prev p none (some (c.bp.getD i 0)) })
    | none => s) s

/-- The AO commands before share of a cycle, by output (R263). -/
def State.cycleAos (s : State) (n : Nat) (ap : List (Nat × Nat)) : List (Nat × Nat) :=
  (s.taskAos n).filterMap (fun a =>
    (ap.find? (·.1 == s.aoConfig a % 65536)).map (fun (_, v) => (a, v)))

/-- The DO states of a cycle, by output (R263). -/
def State.cycleDos (s : State) (n : Nat) (bp : List (Nat × Nat)) : List (Nat × Bool) :=
  (s.taskDos n).filterMap (fun m =>
    (bp.find? (·.1 == s.doConfig m % 65536)).map (fun (_, v) => (m, v != 0)))

/-- The output digest of a cycle (R263), over big-endian fields (log 12). -/
def outputDigest (n osn : Nat) (ap bp : List (Nat × Nat)) (ao : List (Nat × Nat)) (dos : List (Nat × Bool)) : Nat :=
  beNat ((sha256 (beBytes 1 n ++ beBytes 4 osn ++ (ap.map (fun (_, v) => beBytes 4 v)).flatten ++
    packBp (bp.map (fun (_, v) => v != 0)) ++ (ao.map (fun (_, v) => beBytes 4 v)).flatten ++
    packBp (dos.map Prod.snd))).take 8)

/-- The digest frame of a cycle (R264). -/
def State.sendDigest (s : State) (n osn digest : Nat) (ao : List (Nat × Nat)) (dos : List (Nat × Bool)) : State :=
  if s.awaitsPartner then
    s.lane 0x02 ([n, osn, digest, ao.foldl (fun a x => a + 2 ^ x.1) 0, dos.foldl (fun a x => a + 2 ^ x.1) 0,
      dos.foldl (fun a x => a + b2n x.2 * 2 ^ x.1) 0] ++ ao.map Prod.snd)
  else s

/-- The STANDBY's digest differs from the PRIMARY's (R34, R270): it withholds the cycle and diverges. -/
def State.digestDiffers (s : State) (n osn : Nat) : State := (s.withhold n 3 osn).diverge 1 n osn

/-- A cycle is abandoned (R142): its log is discarded, its outputs are never released, and a withheld marker goes out. -/
def State.abandon (s : State) (n cause : Nat) : State :=
  match s.cyc n with
  | none => s
  | some c =>
    let s := s.modTask n (fun k => { k with cyc := none })
    if c.discard || c.recovery then s else s.withhold n cause c.osn

/-- A task fault (R145): the cycle is abandoned and EV019 occurs; at TaskFaultLimit in a row the task is stopped. -/
def State.taskFault (s : State) (n cause iaddr : Nat) : State :=
  match s.cyc n with
  | none => s
  | some c =>
    let s := s.abandon n 1
    let s := s.raise 19 [(1, n), (1, cause), (4, c.osn), (8, iaddr)]
    let s := s.noteFault n cause
    let s := s.modTask n (fun k => { k with
      faults := k.faults + 1, executed := satInc 32 k.executed, lost := if c.recovery then false else k.lost
      recovering := k.recovering && !k.heldStarts.isEmpty })
    let lim := s.eff 0x03C4
    if lim ≠ 0 ∧ lim ≤ (s.task n).faults ∧ !(s.task n).stopped then
      let s := s.modTask n (fun k => { k with stopped := true, heldStarts := [] })
      let s := s.raise 19 [(1, n), (1, 5), (4, c.osn), (8, 0)]
      let s := s.noteFault n 5
      (s.taskAos n).foldl State.aoFault s
    else s.nextHeld n

/-- What the release rule needs of a closed cycle: outputs, digest and its place among the waiting (R33, R135). A flagged PRIMARY and a
resynchronising STANDBY withhold it (R271, R272). -/
def State.handOver (s : State) (n : Nat) (c : Cycle) : State :=
  let d := s.decl n
  let ap := d.outAp.map (fun p => (p, s.ap p))
  let bp := d.outBp.map (fun p => (p, s.bp p))
  let ao := s.cycleAos n ap
  let dos := s.cycleDos n bp
  let dig := outputDigest n c.osn ap bp ao dos
  if s.withholdsForFlag then s.withhold n 2 c.osn
  else if s.pair.resync && s.role == .standby then s.withhold n 3 c.osn
  else
    let h : Held := ⟨c.osn, c.stamp, ap, bp, dig, s.tick, s.canFrames n c ap bp⟩
    let s := s.modTask n (fun k => { k with waiting := k.waiting ++ [h] })
    let s := s.sendDigest n c.osn dig ao dos
    match (s.task n).peers.find? (·.osn == c.osn) with
    | some p => if p.digest ≠ dig ∧ s.role = .standby then s.digestDiffers n c.osn else s
    | none => s

/-- The STANDBY compares the two sums of an exchange (R266): a difference is EV042 and a divergence. -/
def State.compareSums (s : State) (n : Nat) : State :=
  match (s.task n).ownSum, (s.task n).peerSum with
  | some (a, x), some (b, y) =>
    if a = b ∧ x ≠ y ∧ s.role = .standby ∧ s.awaitsPartner ∧ !s.pair.resync then
      (s.raise 42 [(1, n), (4, a), (8, x.toNat), (8, y.toNat)]).diverge 3 n a
    else s
  | _, _ => s

/-- The retained sum is sent after every cycle whose OSN is a multiple of 64 (R266). -/
def State.sendHash (s : State) (n osn : Nat) : State :=
  if osn % 64 = 0 && s.awaitsPartner then
    ((s.modTask n (fun k => { k with ownSum := some (osn, k.hash) })).lane 0x08 [n, osn, (s.task n).hash.toNat]).compareSums n
  else s

/-- This module sends the copy set, or has sent it and awaits the switch instant (R275, R276). -/
def State.forwards (s : State) : Bool :=
  match s.pair.copy with
  | some k => !k.taking
  | none => s.mode.isRun && (s.pair.joining || (s.pair.resumeAt.isSome && !s.pair.resync))

/-- The lines of a close, and the edge states that it leaves, are forwarded to a joining or resynchronising partner (R275). -/
def State.forwardLines (s : State) (n : Nat) (ls : List (Nat × List Byte)) : State :=
  if s.forwards then
    let s := ls.foldl (fun s (l, b) => s.lane 0x09 [n, l] b) s
    s.lane 0x09 ([0xA3, n] ++ ((s.task n).prev.map (fun (p, v) => [p, v.getD 0])).flatten)
  else s

/-- A cycle closes (R135, R137, R140, R146): its log is committed; its outputs enter the image and are handed to the release
rule, unless it is a recovery run or a mode change has ended it (R41). -/
def State.closeCycle (s : State) (n : Nat) (d : CloseData) : State :=
  match s.cyc n with
  | none => s
  | some c =>
    if !c.loaded then s
    else if 4096 < d.lines.length then s.taskFault n 3 0
    else
      let s := d.lines.foldl (fun s (l, b) => s.writeArea n (64 * l) (padTo 64 b)) s
      let s := (s.storeEdges n c).forwardLines n d.lines
      let s := s.modTask n (fun k => { k with
        cyc := none, executed := satInc 32 k.executed, lastRun := d.run, longestRun := max k.longestRun d.run,
        faults := 0, lost := if c.recovery then false else k.lost, recovering := k.recovering && !k.heldStarts.isEmpty })
      if c.recovery || c.discard then (s.sendHash n c.osn).nextHeld n
      else
        let s := (s.installFor c).copyOut n d.ap d.bp
        let s := s.handOver n c
        let s := s.sendHash n c.osn
        ((s.loopTriggers 0 n s.now).nextHeld n).refreshForces

/-- The release rule holds for a closed cycle (R33, R34): the partner's digest has arrived (on a STANDBY, equal), or its
withheld marker has, or there is no partner whose digest the module awaits. -/
def State.releasable (s : State) (n : Nat) (h : Held) : Bool :=
  !s.awaitsPartner ||
  (s.task n).markers.contains h.osn ||
  (match (s.task n).peers.find? (·.osn == h.osn) with
    | some p => s.role == .primary || p.digest == h.digest
    | none => false)

/-- A cycle is released (R33): local outputs first, then the output frames; what was sent is kept for repeats (R552). An
ISOLATED_STANDBY sends nothing and drives nothing (R255). -/
def State.release (s : State) (n : Nat) (h : Held) : State :=
  let s := s.modTask n (fun k => { k with
    waiting := k.waiting.filter (fun x => x.osn != h.osn),
    peers := k.peers.filter (fun x => x.osn != h.osn),
    markers := k.markers.filter (· != h.osn) })
  if s.role = .isolated then s
  else
    let s := s.driveOutputs (s.cycleAos n h.ap) (s.cycleDos n h.bp)
    let p : Payload := ⟨h.stamp, (s.stationsOf n).map (fun (k, e) => (k, s.stationPayload e h.ap h.bp))⟩
    ((s.sendPayload false n h.osn p).canRelease h.tx).modTask n (fun k => { k with payload := some p })

/-- Release a waiting cycle where the rule allows it. -/
def State.tryRelease (s : State) (n osn : Nat) : State :=
  match (s.task n).waiting.find? (·.osn == osn) with
  | none => s
  | some h => if s.releasable n h then s.release n h else s

/-- Every waiting cycle is released at once: the partner is gone, or isolates itself (R34, R277, R279). -/
def State.releaseAll (s : State) : State :=
  (List.range 32).foldl (fun s n => (s.task n).waiting.foldl (fun s h => s.release n h) s) s

/-- The number of cycles that wait for release. -/
def State.heldCount (s : State) : Nat := (List.range 32).foldl (fun a n => a + (s.task n).waiting.length) 0

/-! ## Repeats -/

/-- The grid instant of a repeat (R552). -/
def State.repeatDue (s : State) (n : Nat) : Option Nat :=
  match s.cadence n with
  | 0 => s.gridHit (s.eff (0x0301 + 6 * n) * 1000) (s.eff (0x0302 + 6 * n) * 1000)
  | 1 => s.gridHit (s.eff (0x0303 + 6 * n) * 1000) 0
  | _ => s.gridHit (s.eff (0x0301 + 6 * n) * 1000) 0

/-- A repeat of the last released payload in M7 or M9 solo (R43, R552): a new OSN, REPEAT, the original cycle stamp; in M9 for
at most 350 ms. -/
def State.repeatFrame (s : State) (n : Nat) : State :=
  let solo := s.role == .solo && (s.mode == .m7 || (s.mode == .m9 && !s.since s.mu.entryTick (350 * Config.ticksPerMs)))
  match s.repeatDue n, (s.task n).payload with
  | some _, some p =>
    if solo && s.taskOn n && (s.task n).startTick != some s.tick then
      let osn := wrapInc 32 (s.task n).osn
      (s.modTask n (fun k => { k with osn := osn, startTick := some s.tick })).sendPayload true n osn p
    else s
  | _, _ => s

end Sys2Proof.Machine
end

