-- ==== Sys2Proof/Machine/Lockstep.lean ====
section
/-!
DEFINITION. Core pairs in lockstep: mismatches and recovery runs (R291–R296), units compared by signature (R297), injection tests
(R298–R300), retirement (R301), splitting, joining and attaching a debugger (R302–R308).
-/
namespace Sys2Proof.Machine

/-! ## Pairs -/

/-- The tasks placed on a physical pair (R125, R320). -/
def State.pairTasks (s : State) (p : Nat) : List Nat :=
  (List.range 32).filter (fun n => s.taskOn n && s.taskPair n == p)

/-- No task of the pair has an open cycle or a held start (R303). -/
def State.pairIdle (s : State) (p : Nat) : Bool :=
  (s.pairTasks p).all (fun n => (s.cyc n).isNone && (s.task n).heldStarts.isEmpty && (s.task n).abandoned.isNone)

/-- The pair is reset or under test, recovers, holds starts or is being drained (R302: BUSY). -/
def State.pairBusy (s : State) (p : Nat) : Bool :=
  s.blocked p || (s.corePair p).drain.isSome ||
    (s.pairTasks p).any (fun n => (s.task n).abandoned.isSome || !(s.task n).heldStarts.isEmpty ||
      (match s.cyc n with | some c => c.recovery | none => false))

/-- SPLIT, JOIN and DEBUG_ATTACH do not act on a pair in the Annex or FAILED (R302, R307, R308). -/
def State.pairAway (s : State) (p : Nat) : Bool := s.resState p == 1 || s.pairState p == 6

/-! ## Retirement (R301, R320, R326) -/

/-- The load of a pair: the sum of longest run ÷ period over its tasks, as a fraction (R326). -/
def State.pairLoad (s : State) (p : Nat) : Nat × Nat :=
  (s.pairTasks p).foldl (fun (a, b) n =>
    let per := max 1 (s.eff (0x0301 + 6 * n + (if s.cadence n = 1 then 2 else 0)))
    (a * per + (s.task n).longestRun * b, b * per)) (0, 1)

/-- The slice limits of R132 hold for the tasks of `p` together with those of `q` (R123, R326). -/
def State.sliceFits (s : State) (p q : Nat) : Bool :=
  let ds := (s.pairTasks p ++ s.pairTasks q).map s.decl
  decide (ds.foldl (fun a d => a + d.inAp.length + d.outAp.length) 0 ≤ 8192) &&
    decide (ds.foldl (fun a d => a + d.inBp.length + d.outBp.length) 0 ≤ 32768)

/-- The in-service pair that can take the tasks of `p` with the lowest load, lowest number on a tie (R326). -/
def State.lightest (s : State) (p : Nat) : Option Nat :=
  ((List.range 10).filter (fun q => q != p && s.pairServes q && s.sliceFits p q)).foldl (fun m q =>
    match m with
    | none => some q
    | some k =>
      let (a, b) := s.pairLoad q
      let (c, d) := s.pairLoad k
      if a * d < c * b then some q else some k) none

/-- The tasks of a pair move to another in the effective set (R125, R326): the placements then name the logical pair of `q`. -/
def State.moveTasks (s : State) (p q : Nat) : State :=
  let l := (firstIdx (· == q) s.annex.pairRemap).getD q
  (s.pairTasks p).foldl (fun s n =>
    let i := 0x0300 + 6 * n
    { s with cfg := { s.cfg with
        base := s.cfg.base.setParam s.mu.slot i (setBits (s.cfg.base.param s.mu.slot i) 20 4 l) } }) s

/-- A pair is retired (R301): cause 1 mismatches, 2 injection. Its tasks go to an Annex pair, or with none left to the lightest
pair in service, or the module halts (R326). -/
def State.retire (s : State) (p cause : Nat) : State :=
  let s := (s.modCore p (fun c => { c with failed := true })).setRes p 3
  let s := s.raiseMand 65 [(1, p), (1, cause)]
  if (s.spares 1).isEmpty then
    let s := s.exhaust 1
    match s.lightest p with
    | some q => s.moveTasks p q
    | none => s.halt 5 p
  else s.provenFault p

/-! ## Mismatch and recovery (R294–R296) -/

/-- A cycle is abandoned by a mismatch and will be run again (R142, R146). -/
def State.abandonForRecovery (s : State) (n : Nat) : State :=
  match s.cyc n with
  | none => s
  | some c =>
    (s.abandon n 1).modTask n (fun k => { k with
      abandoned := some { c with recovery := true, loaded := false }, recovering := true })

/-- A mismatch of a pair (R294, R295): the tasks whose cycles are affected. SoakElapsed counts afresh (R281). -/
def State.mismatch (s : State) (p kind lane : Nat) (hit : List Nat) : State :=
  let first := hit.headD 0xFF
  let osn := match s.cyc first with | some c => c.osn | none => 0
  let s := s.modCore p (fun c => { c with
    reset := some s.tick, mismatches := c.mismatches + 1, history := s.recent p ++ [s.ident.opSeconds],
    testAt := none, lastTime := s.now, detail := lane % 64 * 67108864 + kind % 4 * 16777216 + first % 256 * 65536 })
  let s := (s.raiseMand 64 [(1, p), (1, kind), (1, lane), (1, first), (4, osn)]).resetSoak
  let s := hit.foldl State.abandonForRecovery s
  if p < 10 && decide (3 ≤ (s.recent p).length) && !(s.corePair p).failed then s.retire p 1 else s

/-- LOCKSTEP_MISMATCH of CP0–CP9 or CPS (10) (R294, R295): the task the pair runs, the task whose context it is saving, and whether
the closing task's log has been committed. A split or broken pair compares nothing (R303, R307). -/
def execLockstepMismatch (dt p kind lane : Nat) (running saving : Option Nat) (committed : Bool) (s : State) :
    Host.Outcome State Fault Refusal :=
  let s := s.elapse dt
  if 11 ≤ p ∨ 64 ≤ lane ∨ 3 ≤ kind then .next s
  else if s.mode == .m0 then .next s
  else if p = 10 then .next ((s.mismatch 10 kind lane []).curatorRestart 1)
  else if (s.corePair p).room == 2 || (s.corePair p).room == 3 then .next s
  else
    let onPair := fun n => s.taskPair n == p && (s.cyc n).isSome
    let hit := if committed then [] else (running.toList ++ saving.toList).filter onPair
    .next (s.mismatch p kind lane hit)

/-- RECOVERY_RUN_START (R146, R294, R296): after the pair's reset the same cycle runs again; of two tasks the lower Priority number goes
first (R294). -/
def execRecoveryRunStart (dt n : Nat) (s : State) : Host.Outcome State Fault Refusal :=
  let s := s.elapse dt
  if 32 ≤ n then .next s
  else
    match (s.task n).abandoned with
    | none => .next s
    | some c =>
      let p := s.taskPair n
      let ahead := (s.pairTasks p).any (fun m => m != n && (s.task m).abandoned.isSome &&
        (let a := bits (s.taskCtl m) 24 5
         let b := bits (s.taskCtl n) 24 5
         decide (a < b ∨ (a = b ∧ m < n))))
      if ahead || s.blocked p then .next s
      else
        let s := s.modTask n (fun k => { k with abandoned := none, cyc := some { c with loaded := true } })
        let s := { s with tk := { s.tk with restarts := s.tk.restarts + 1 } }
        .next (s.raise 72 [(1, p), (1, n), (4, c.osn), (1, (s.task n).heldStarts.length)])

/-! ## Injection tests (R298–R300) -/

/-- An injection test and its result, bit k for a lane that passed (R298–R300): the pair runs no task for the 10 µs it takes. -/
def State.injected (s : State) (p : Nat) (passed : U64) : State :=
  let ok := passed == BitVec.allOnes 64
  let s := s.modCore p (fun c => { c with
    testAt := some s.tick, result := passed, tested := s.ident.opSeconds, fails := if ok then 0 else min 65535 (c.fails + 1),
    failedAt := if ok then none else some s.tick })
  if ok then s
  else
    let s := s.raise 66 [(1, p), (8, (~~~ passed).toNat)]
    if (s.corePair p).fails < 3 then s
    else
      let s := s.modCore p (fun c => { c with failedAt := none })
      if p = 10 then s.halt 1 0xFF
      else if (s.corePair p).failed then s
      else if s.resState p = 1 then (s.modCore p (fun c => { c with failed := true })).spareFails p
      else if s.mode = .m1 then
        let s := (s.modCore p (fun c => { c with failed := true })).setRes p 3
        s.provenFault p
      else s.retire p 2

/-- A start of the task falls due within the next 20 µs (R299): on its grid, or by a trigger that is already there. -/
def State.dueSoon (s : State) (n : Nat) : Bool :=
  let k := s.task n
  let grid := fun (period offset : Nat) => period != 0 && decide ((s.now + 20000 - offset) % period ≤ 20000)
  s.mode.isRun && s.taskOn n && (!k.due.isEmpty ||
    (match k.trigger with | some (t, _) => decide (t ≤ s.now + 20000) | none => false) ||
    (match s.cadence n with
      | 0 => grid (s.eff (0x0301 + 6 * n) * 1000) (s.eff (0x0302 + 6 * n) * 1000)
      | 1 => (s.taskRef n).state != 3 && grid (s.eff (0x0303 + 6 * n) * 1000) 0
      | _ => false))

/-- INJECTION_TEST (R299): in M1, every 60 s in the Annex, every 24 h of operating seconds in service, never of a split pair. -/
def execInjectionTest (dt p : Nat) (passed : U64) (s : State) : Host.Outcome State Fault Refusal :=
  let s := s.elapse dt
  if 11 ≤ p then .next s
  else
    let c := s.corePair p
    let gap := if p < 10 && s.resState p == 1 then 60 else 86400
    let due := s.mode == .m1 || decide (c.tested + gap ≤ s.ident.opSeconds)
    if s.mode == .m0 || s.mode == .m11 || c.failed || c.room == 2 || !due ||
        (p < 10 && (!s.pairIdle p || (s.pairTasks p).any s.dueSoon)) then .next s
    else .next (s.injected p passed)

/-- INJECTION_RETEST, 1 s after a failed test, once the pair is idle (R298, R300). -/
def execInjectionRetest (dt p : Nat) (passed : U64) (s : State) : Host.Outcome State Fault Refusal :=
  let s := s.elapse dt
  if 11 ≤ p then .next s
  else
    match (s.corePair p).failedAt with
    | some t =>
      .next (if s.since t Config.ticksPerSecond && (10 ≤ p || s.pairIdle p) then s.injected p passed else s)
    | none => .next s

/-! ## Units compared by signature (R297) -/

/-- A frame's SyncSeq lies in a window's range (R297). -/
def seqIn (first count : Nat) (q : Option Nat) : Bool :=
  match q with
  | some q => decide ((q + 2 ^ 32 - first % 2 ^ 32) % 2 ^ 32 < count)
  | none => false

/-- On the STANDBY, the tasks whose agreed frames lie in a void range withhold their open cycles with cause 1 and the module
resynchronises (R297). -/
def State.voidFrames (s : State) (first count : Nat) : State :=
  if s.role ≠ .standby then s
  else
    let ns := (List.range 32).filter (fun n => (s.cyc n).isSome && seqIn first count (s.task n).frameSeq)
    if ns.isEmpty then s
    else (ns.foldl (fun s n => s.abandon n 1) s).resync

/-- REBUILT in byte 0x022 of an Archive record (R491). -/
def rebuiltFlag : Nat := 8

/-! ## Splitting and joining (R302–R304) -/

/-- A body of a pair and three reserved bytes is malformed (R302, R305). -/
def pairBodyBad (r : Req) : Option Nat :=
  if r.body.length ≠ 4 ∨ beAt r.body 1 3 ≠ 0 then some noPos else none

/-- The pair's drain begins (R303). -/
def State.drainPair (s : State) (p : Nat) (k : DrainKind) (op : Option Nat) : State :=
  s.modCore p (fun c => { c with drain := some ⟨k, s.tick, op, none⟩ })

/-- SPLIT (R302, R303). -/
def splitCmd : Cmd := { Cmd.plain 0x0050 (fun r s =>
    runAsync (fun op b _ s => s.drainPair (beAt b 0 1) .split op) r s) with
  malformed := fun r _ => pairBodyBad r
  unready := fun r s =>
    let p := beAt r.body 0 1
    if p < 10 ∧ (s.pairAway p ∨ (s.corePair p).room = 2 ∨ (s.corePair p).room = 3 ∨ !bit (s.eff (0x0700 + 8 * p)) 31) then some noPos
    else none
  value := fun r _ => if 9 < beAt r.body 0 1 then some (.range, noPos) else none
  busy := fun r s => s.pairBusy (beAt r.body 0 1)
  async := fun _ _ => true }

/-- JOIN (R302, R304). -/
def joinCmd : Cmd := { Cmd.plain 0x0051 (fun r s =>
    runAsync (fun op b _ s => s.drainPair (beAt b 0 1) .join op) r s) with
  malformed := fun r _ => pairBodyBad r
  unready := fun r s =>
    let p := beAt r.body 0 1
    if p < 10 ∧ (s.pairAway p ∨ (s.corePair p).room ≠ 2) then some noPos else none
  value := fun r _ => if 9 < beAt r.body 0 1 then some (.range, noPos) else none
  busy := fun r s => s.pairBusy (beAt r.body 0 1)
  async := fun _ _ => true }

/-- SPLIT. -/
def execSplit (dt : Nat) (p : Packet) (s : State) : Host.Outcome State Fault Refusal :=
  execMail splitCmd (codeIs 0x0050) dt p s
/-- JOIN. -/
def execJoin (dt : Nat) (p : Packet) (s : State) : Host.Outcome State Fault Refusal :=
  execMail joinCmd (codeIs 0x0051) dt p s

/-- The room of a pair that is joined (R304, R308): a debugger's reading room stays open. -/
def State.joinedRoom (s : State) (p : Nat) : Nat :=
  match s.lk.debugger with | some g => if g.kind = 2 ∧ g.pair = p then 4 else 0 | none => 0

/-- What a drain instant brings (R303, R304, R307, R320). Both halves of a split pair restart, within 6 µs. -/
def State.drained (s : State) (p : Nat) (d : Drain) : State :=
  match d.kind with
  | .split =>
    let s := s.modCore p (fun c => { c with drain := none, room := 2, reset := some s.tick })
    let s := s.raise 67 [(1, p), (4, s.eff (0x0701 + 8 * p))]
    s.completeOpt d.op .ok
  | .join => s.modCore p (fun c => { c with drain := some { d with loading := some s.tick } })
  | .detach => s.modCore p (fun c => { c with drain := some { d with loading := some s.tick } })
  | .attach =>
    let s := s.modCore p (fun c => { c with drain := none, room := 3 })
    let sid := match s.lk.debugger with | some g => g.session.toNat | none => 0
    s.raiseMand 70 [(1, p), (4, sid), (1, 1)]
  | .migrate =>
    let s := s.modCore p (fun c => { c with drain := none })
    { s with annex := { s.annex with
      waiting := s.annex.waiting.map (fun m => if m.resource = p then { m with ready := true } else m) } }

/-- SPLIT_DRAIN_INSTANT: no task of the pair has an open cycle or a held start; in M3 it is the next I/O bus frame boundary
(R303, R304). -/
def execSplitDrainInstant (dt p : Nat) (s : State) : Host.Outcome State Fault Refusal :=
  let s := s.elapse dt
  if 10 ≤ p then .next s
  else
    match (s.corePair p).drain with
    | none => .next s
    | some d =>
      if d.loading.isSome || !s.pairIdle p || (s.mode == .m3 && !s.atFrame) then .next s
      else .next (s.drained p d)

/-- SPLIT_DRAIN_TIMEOUT: no drain instant within 1 s (R303, R320). A detached pair goes on waiting. -/
def execSplitDrainTimeout (dt p : Nat) (s : State) : Host.Outcome State Fault Refusal :=
  let s := s.elapse dt
  if 10 ≤ p then .next s
  else
    match (s.corePair p).drain with
    | none => .next s
    | some d =>
      if d.loading.isSome || !s.since d.since Config.ticksPerSecond || d.kind == .detach then .next s
      else
        let s := s.modCore p (fun c => { c with drain := none })
        let s := if d.kind = .attach then { s with lk := { s.lk with debugger := none } } else s
        let s := if d.kind = .migrate then
            { s with annex := { s.annex with waiting := s.annex.waiting.filter (fun m => m.resource != p) } } else s
        .next (s.completeOpt d.op .notReady)

/-- JOIN_LOAD_DONE: the checker has been loaded, 40 µs (R304); held starts then run. -/
def execJoinLoadDone (dt p : Nat) (s : State) : Host.Outcome State Fault Refusal :=
  let s := s.elapse dt
  if 10 ≤ p then .next s
  else
    match (s.corePair p).drain with
    | none => .next s
    | some d =>
      match d.loading with
      | none => .next s
      | some t =>
        if !s.since t (40 * Config.ticksPerUs) then .next s
        else
          let s := s.modCore p (fun c => { c with drain := none, room := s.joinedRoom p })
          let s := s.raise 68 [(1, p), (8, (s.tick - t) * 8)]
          let s := s.completeOpt d.op .ok
          .next ((s.pairTasks p).foldl (fun s n => if (s.cyc n).isNone then s.nextHeld n else s) s)

/-! ## Attaching and detaching (R305, R307, R308) -/

/-- The debugger leaves (R307): a broken pair joins at its next drain instant; from the reading room nothing is to be joined. -/
def State.detach (s : State) : State :=
  match s.lk.debugger with
  | none => s
  | some g =>
    let s := { s with lk := { s.lk with debugger := none } }
    if g.kind = 2 then s.modCore g.pair (fun c => { c with room := if c.room = 4 then 0 else c.room })
    else s.drainPair g.pair .detach none

/-- The partner is declared gone while a pair is BROKEN (R307): the debugger is detached at once. -/
def State.forcedDetach (s : State) : State :=
  match s.lk.debugger with
  | some g =>
    if g.kind = 1 then (s.detach).raiseMand 70 [(1, g.pair), (4, g.session.toNat), (1, 0)] else s
  | none => s

/-- DEBUG_ATTACH (R305, R307, R308). -/
def debugAttachCmd : Cmd := { Cmd.plain 0x0052 (fun r s =>
    let p := beAt r.body 0 1
    let kind := if s.has .dbg then 2 else 1
    let s := { s with lk := { s.lk with
      debugger := some ⟨p, r.session, kind, false, [], [], s.tick, 0⟩ } }
    let s := if kind = 2 then s.modCore p (fun c => { c with room := 4 }) else s.drainPair p .attach none
    okRep s [] kind) with
  malformed := fun r _ => pairBodyBad r
  unready := fun r s =>
    let p := beAt r.body 0 1
    if !s.has .dbg && (s.mode == .m4 || s.mode == .m6 || p == 10) then some noPos
    else if p < 10 ∧ (s.pairAway p ∨ (s.corePair p).room = 2) then some noPos else none
  value := fun r _ => if 9 < beAt r.body 0 1 then some (.range, noPos) else none
  busy := fun r s => s.lk.debugger.isSome || (s.corePair (beAt r.body 0 1)).drain.isSome }

/-- DEBUG_DETACH (R305, R307): with an Archive record. -/
def debugDetachCmd : Cmd := { Cmd.plain 0x0053 (fun r s =>
    okRep ((s.archMandatory 0 3 0x0053 r.session.toNat []).detach)) with
  malformed := fun r _ => if r.body.isEmpty then none else some noPos
  unready := fun _ s => if s.lk.debugger.isSome then none else some noPos
  busy := fun _ s => !s.archFree [] }

/-- DEBUG_ATTACH. -/
def execDebugAttach (dt : Nat) (p : Packet) (s : State) : Host.Outcome State Fault Refusal :=
  execMail debugAttachCmd (codeIs 0x0052) dt p s
/-- DEBUG_DETACH. -/
def execDebugDetach (dt : Nat) (p : Packet) (s : State) : Host.Outcome State Fault Refusal :=
  execMail debugDetachCmd (codeIs 0x0053) dt p s

end Sys2Proof.Machine
end

