-- ==== Sys2Proof/Machine/Annex.lean ====
section
/-!
DEFINITION. The Annex and the Ledger: migrations kind by kind (R318–R325), spoil (R319), an empty Annex (R326), the Ledger's counts
and limits (R314–R317) and its commands (R327, R328).
-/
namespace Sys2Proof.Machine

/-- Change the Ledger. -/
def State.modAnnex (s : State) (f : Annex → Annex) : State := { s with annex := f s.annex }

/-- What becomes of a replaced resource (R313): FAILED after a fault or a crossed limit, back to the Annex after a command. -/
def State.retireRes (s : State) (r cause : Nat) : State :=
  (s.setRes r (if cause = 3 && s.resState r != 3 then 1 else 3)).modRes r (fun c => { c with standsFor := none })

/-! ## Core pairs (R320) -/

/-- A permutation with the entries that name `a` and `b` exchanged. -/
def swapNames (a b : Nat) (l : List Nat) : List Nat := l.map (fun x => if x = a then b else if x = b then a else x)

/-- The candidates are tested in ascending order until one passes (R320): that one, if any. -/
def State.testCandidates (s : State) (tests : List (Nat × U64)) : List Nat → Option Nat × State
  | [] => (none, s)
  | q :: t =>
    let lanes := (tlook tests q).getD (BitVec.allOnes 64)
    let s := s.injected q lanes
    if lanes = BitVec.allOnes 64 then (some q, s) else s.testCandidates tests t

/-- A pair's migration (R320): with no candidate that passes it goes as with an empty Annex (R326), or a command ends NOT_READY. -/
def State.migratePair (s : State) (m : Migration) (tests : List (Nat × U64)) : State :=
  let drop := fun (s : State) => s.modAnnex (fun a => { a with waiting := a.waiting.filter (·.resource != m.resource) })
  match s.testCandidates tests (s.candidates m.resource) with
  | (none, s) =>
    let s := drop s
    match m.op with
    | some id => s.complete id .notReady
    | none =>
      let s := s.exhaust 1
      match s.lightest m.resource with
      | some q => s.moveTasks m.resource q
      | none => s.halt 5 m.resource
  | (some q, s) =>
    let s := (s.migBegin m.resource q m.cause).freezePulse (2 ^ m.resource)
    let s := s.modAnnex (fun a => { a with pairRemap := swapNames m.resource q a.pairRemap })
    let s := (s.retireRes m.resource m.cause).setRes q 2
    let s := s.modCore q (fun c => { c with history := [] })
    (s.migEnd m.resource q s.tick m.op).exhaust 1

/-! ## Converters, stages, oscillators -/

/-- A converter's permanent migration (R318, R323): the stand-in takes its channels, or it takes its own back. -/
def State.migrateConv (s : State) (m : Migration) : State :=
  match (s.candidates m.resource).head? with
  | none => (s.modAnnex (fun a => { a with waiting := a.waiting.filter (·.resource != m.resource) })).completeOpt m.op .notReady
  | some q =>
    let s := s.migBegin m.resource q m.cause
    let served := ((tget s.annex.convRemap (m.resource - 21) none).map Prod.fst).getD (m.resource - 21)
    let remap := if isSpare q then tset s.annex.convRemap (q - 21) none (some (served, true)) else s.annex.convRemap
    let s := s.modAnnex (fun a => { a with convRemap := tset remap (m.resource - 21) none none })
    let s := (s.retireRes m.resource m.cause).setRes q (if isSpare q then 2 else 0)
    let s := s.migEnd m.resource q s.tick m.op
    (if isSpare q = true then s else s.modRes q (fun c => { c with standsFor := none })).exhaust 4

/-- A stage's migration at an I/O bus frame boundary (R324): the spare takes command and share, the old stage goes to 0 mA. -/
def State.migrateStage (s : State) (m : Migration) : State :=
  match (s.candidates m.resource).head? with
  | none => (s.modAnnex (fun a => { a with waiting := a.waiting.filter (·.resource != m.resource) })).completeOpt m.op .notReady
  | some q =>
    let st := m.resource - 31
    let out := (s.stageOutput st).getD (st % 16)
    let s := s.migBegin m.resource q m.cause
    let t := tset s.annex.stageRemap st none none
    let remap := if isSpare q then tset t (q - 31) none (some out) else t
    let s := s.modAnnex (fun a => { a with stageRemap := remap })
    let s := s.modAo out (fun a => { a with
      dead := false, open_ := false, compliance := false, thermal := false, supplyFault := false, readbackFault := false,
      since := [] })
    let s := (s.retireRes m.resource m.cause).setRes q (if isSpare q then 2 else 0)
    let s := s.migEnd m.resource q s.tick m.op
    (if isSpare q = true then s else s.modRes q (fun c => { c with standsFor := none })).exhaust 5

/-- The next usable reference in the order OSC0, OSC1, MEMS (R325). -/
def State.nextRef (s : State) (out : Nat) : Option Nat :=
  ([0, 1, 2].filter (fun i => i != out && s.resState (49 + i) != 3)).head?

/-- What stands in for an oscillator (R325): for the active reference the next usable one, for another the MEMS oscillator. -/
def State.oscStandIn (s : State) (out : Nat) : Option Nat :=
  if s.annex.activeRef = out then s.nextRef out
  else if out ≠ 2 ∧ s.resState 51 = 1 then some 2 else s.nextRef out

/-- A reference oscillator is replaced (R325): the multiplexer moves to the next usable one, and the spare stands in. -/
def State.migrateOsc (s : State) (m : Migration) : State :=
  let out := m.resource - 49
  match s.oscStandIn out with
  | none => s.halt 2 m.resource
  | some i =>
    let s := s.migBegin m.resource (49 + i) m.cause
    let wasActive := s.annex.activeRef == out
    let s := if s.resState 51 = 1 && out != 2 && i == 2 then s.setRes 51 2 else s
    let s := s.retireRes m.resource m.cause
    let s := if wasActive then
        (s.modAnnex (fun a => { a with activeRef := i })).raise 85 [(1, out), (1, i), (4, tget s.annex.oscErr out 0)]
      else s
    (s.migEnd m.resource (49 + i) s.tick m.op).exhaust 6

/-! ## Starting a migration (R318) -/

/-- MIGRATION_START: the first migration of a kind that waits begins; `tests` gives the lanes that pass of each pair tested (R320).
Device copies and block copies go on until DRAM_COPY_COMPLETE and FLASH_BLOCK_COPY_DONE; a stage switches at an I/O bus frame
boundary (R324). -/
def execMigrationStart (dt k : Nat) (tests : List (Nat × U64)) (s : State) : Host.Outcome State Fault Refusal :=
  let s := s.elapse dt
  if k = 0 ∨ 6 < k then .next s
  else
    match s.annex.waiting.find? (fun m => m.kind == k && m.ready) with
    | none => .next s
    | some m =>
      let blocked := s.mode == .m0 || s.mode == .m11 || s.annex.running.any (·.kind == k) ||
        (k == 1 && s.resetting m.resource) || (k == 4 && s.annex.rotation.isSome) || (k == 5 && !s.atFrame)
      if blocked then .next s
      else
        match k with
        | 1 => .next (s.migratePair m tests)
        | 2 => .next (s.modAnnex (fun a => { a with
            waiting := a.waiting.filter (·.resource != m.resource),
            running := a.running ++ [{ m with spare := some 19, start := s.tick }] }))
        | 3 =>
          let s := s.migBegin 20 20 m.cause
          .next (s.modAnnex (fun a => { a with
            waiting := a.waiting.filter (·.resource != 20), running := a.running ++ [{ m with spare := some 20, start := s.tick }] }))
        | 4 => .next (s.migrateConv m)
        | 5 => .next (s.migrateStage m)
        | _ => .next (s.migrateOsc m)

/-- DRAM_COPY_COMPLETE: 8 GiB at 1 GB/s have been copied, 8.6 s; the lanes switch (R321). -/
def execDramCopyComplete (dt : Nat) (s : State) : Host.Outcome State Fault Refusal :=
  let s := s.elapse dt
  match s.annex.running.find? (·.kind == 2) with
  | none => .next s
  | some m =>
    if !s.since m.start (8600 * Config.ticksPerMs) then .next s
    else
      let s := (s.migBegin m.resource 19 m.cause).freezePulse 0x3FFFF
      let s := s.modAnnex (fun a => { a with dramSpare := some (m.resource - 10) })
      let s := s.raise 86 [(1, m.resource - 10)]
      let s := (s.setRes m.resource (if m.cause = 3 then 1 else 3)).setRes 19 2
      .next ((s.migEnd m.resource 19 m.start m.op).exhaust 2)

/-! ## Flash (R322, R326, R490) -/

/-- The partition of a logical block of 1 MiB (R23, in the table's order): 0 FW-A, 1 FW-B, 2 PG-A, 3 PG-B, 4 configuration store,
5 Archive, 6 journal, 7 trend store; 8 the reserve. -/
def flashPart (b : Nat) : Nat :=
  if b < 256 then 0 else if b < 512 then 1 else if b < 1024 then 2 else if b < 1536 then 3 else if b < 1600 then 4
  else if b < 2624 then 5 else if b < 4672 then 6 else if b < 12288 then 7 else 8

/-- Records the trend store can hold (R110, R326). -/
def State.trendCap (s : State) : Nat := (6592 - s.annex.trendLost) * 65536

/-- Take a replacement block (R322, R326): the Archive's own spare area first for an Archive block, then the reserve, then the trend
store's record area. Answers whether there was one. -/
def State.takeBlock (s : State) (b : Nat) : Bool × State :=
  if flashPart b = 5 ∧ 0 < s.annex.archSpare then
    (true, s.modAnnex (fun a => { a with archSpare := a.archSpare - 1 }))
  else if 0 < s.annex.reserve then
    let s := s.modAnnex (fun a => { a with reserve := a.reserve - 1 })
    (true, if s.annex.reserve = 0 ∧ !s.annex.exhausted.contains 3 then
        (s.modAnnex (fun a => { a with exhausted := a.exhausted ++ [3] })).raise 84 [(1, 3)] else s)
  else if s.annex.trendLost < 6592 then
    let s := s.modAnnex (fun a => { a with trendLost := a.trendLost + 1 })
    (true, { s with trend := { s.trend with recs := s.trend.recs.drop (s.trend.recs.length - s.trendCap) } })
  else (false, s)

/-- A block has failed and no replacement is left (R326, R490). -/
def State.blockLost (s : State) (b : Nat) : State :=
  match flashPart b with
  | 0 => if s.fw.active = 0 then s.halt 5 20 else { s with fw := { s.fw with slotA := { s.fw.slotA with state := 5 } } }
  | 1 => if s.fw.active = 1 then s.halt 5 20 else { s with fw := { s.fw with slotB := { s.fw.slotB with state := 5 } } }
  | 2 => if s.tk.active = 0 then s.halt 5 20 else { s with tk := { s.tk with slotA := { s.tk.slotA with complete := false } } }
  | 3 => if s.tk.active = 1 then s.halt 5 20 else { s with tk := { s.tk with slotB := { s.tk.slotB with complete := false } } }
  | 4 => s.halt 5 20
  | 5 =>
    if b < 1632 then { s with arch := { s.arch with headLost := s.arch.headLost + 2048 } }
    else if b < 2144 then { s with arch := { s.arch with capacity := s.arch.capacity - 2048 } } else s
  | 7 => if b < 5696 then s.halt 5 20 else s
  | _ => s

/-- A block of the save log, the first 1,024 MiB of the trend store partition (R23, R61). -/
def saveLogBlock (b : Nat) : Bool := decide (4672 ≤ b ∧ b < 5696)

/-- FLASH_PROGRAM_FAILURE: a block fails to program or erase (R315), a proven fault. In the save log it is a failed write of the log: EV017
with cause 2 (R46). -/
def execFlashProgramFailure (dt b : Nat) (erase : Bool) (s : State) : Host.Outcome State Fault Refusal :=
  let s := s.elapse dt
  if 16384 ≤ b then .next s
  else
    let s := if erase then s.modAnnex (fun a => { a with flashPe := tmod a.flashPe b 0 (satInc 32) }) else s
    let s := if saveLogBlock b && !erase then
        s.raise 17 [(1, 2), (4, 4096 * s.ret.dirty.length), (4, (s.tick - s.ret.lastTick) / Config.ticksPerMs)] else s
    let pe := tget s.annex.flashPe b 0
    let s := if erase ∧ s.eff 0x0761 ≤ pe then s.limitCrossed 20 2 pe (s.eff 0x0761) else s
    let some_ := (flashPart b == 5 && s.annex.archSpare != 0) || s.annex.reserve != 0 || decide (s.annex.trendLost < 6592)
    .next (if some_ then s.askMigration 20 2 none true else s.blockLost b)

/-- FLASH_BLOCK_COPY_DONE: the valid pages of a block stand in a free one; the block is remapped and retired (R322). -/
def execFlashBlockCopyDone (dt b target : Nat) (s : State) : Host.Outcome State Fault Refusal :=
  let s := s.elapse dt
  if 12288 ≤ b ∨ 16384 ≤ target then .next s
  else
    match s.annex.running.find? (·.kind == 3) with
    | none => .next s
    | some m =>
      match s.takeBlock b with
      | (false, s) =>
        let s := s.modAnnex (fun a => { a with running := a.running.filter (·.kind != 3) })
        .next (if m.cause = 1 then s else s.blockLost b)
      | (true, s) =>
        let pe := tget s.annex.flashPe b 0
        let s := s.modAnnex (fun a => { a with
          blockMap := tset a.blockMap b b target, retired := a.retired + 1, flashPe := tset a.flashPe b 0 0 })
        let s := s.raise 87 [(1, flashPart b), (4, b), (4, pe), (1, m.cause)]
        .next (s.migEnd 20 20 m.start m.op)

/-! ## Spoil (R319) -/

/-- The window after step 4 in which results of the old resource can arrive, in ticks (R319). -/
def spoilWindow (k : Nat) : Nat :=
  match k with | 1 => 12500 | 3 => 18750 | 4 => 12500 | 5 => 31250 | _ => 0

/-- SPOIL_ARRIVAL: a result with the old epoch is discarded and counted; EV083 at the first of a migration (R319). -/
def execSpoilArrival (dt k r epoch : Nat) (s : State) : Host.Outcome State Fault Refusal :=
  let s := s.elapse dt
  if k = 0 ∨ 6 < k ∨ 52 ≤ r then .next s
  else
    match tget s.annex.last k none with
    | none => .next s
    | some l =>
      if l.resource ≠ r ∨ l.oldEpoch ≠ epoch ∨ l.tick + spoilWindow k < s.tick ∨ spoilWindow k = 0 then .next s
      else
        let s := s.modRes r (fun c => { c with spoil := satInc 32 c.spoil })
        let s := s.modAnnex (fun a => { a with
          spoil := tmod a.spoil k 0 (satInc 24), last := tset a.last k none (some { l with told := true }) })
        .next (if l.told then s else s.raise 83 [(1, r), (1, epoch), (8, (s.tick - l.tick) * 8)])

/-! ## Counts (R314–R316) -/

/-- RECAL_ROTATION_START: one converter every RecalPeriod ÷ 8, in ascending order, while a stand-in is left (R323, R326). -/
def execRecalRotationStart (dt : Nat) (s : State) : Host.Outcome State Fault Refusal :=
  let s := s.elapse dt
  let per := s.eff 0x0765
  let n := s.annex.recalNext % 8
  let idle := s.annex.rotation.isNone && s.ai.calOp.isNone && !s.annex.running.any (·.kind == 4)
  if !s.has .ai || per == 0 || s.mode == .m0 || s.mode == .m1 || s.mode == .m11 || !idle ||
      decide (s.ident.opSeconds < s.annex.recalAt + per / 8) then .next s
  else
    let s := s.modAnnex (fun a => { a with recalNext := (n + 1) % 8, recalAt := s.ident.opSeconds })
    match s.standinFor n with
    | some q => if s.resState (21 + n) = 0 ∧ s.physConv n = n then .next (s.rotStart n q none) else .next s
    | none => .next s

/-- DRAM_ECC_ERROR (R315, R316, R321, R326, R272): a corrected error counts; an uncorrectable one whose syndrome names the device is
a proven fault, halts the module once the spare is in use, and in a task's state area raises the own-check flag. -/
def execDramEccError (dt d : Nat) (corrected named : Bool) (task : Option Nat) (s : State) :
    Host.Outcome State Fault Refusal :=
  let s := s.elapse dt
  if 10 ≤ d then .next s
  else if corrected then
    let s := s.modAnnex (fun a => { a with
      dramCe := tmod a.dramCe d 0 (satInc 32), dramCeAll := tmod a.dramCeAll d 0 (· + 1) })
    let n := tget s.annex.dramCe d 0
    .next (if s.eff 0x0762 < n then s.limitCrossed (10 + d) 1 n (s.eff 0x0762) else s)
  else
    let s := s.modAnnex (fun a => { a with dramUe := satInc 32 a.dramUe })
    let s := s.modRes (10 + d) (fun c => { c with wear2 := c.wear2 + b2n named })
    let s := if task.isSome then s.raiseFlag 3 else s
    .next (if s.annex.dramSpare.isSome then s.halt 3 (10 + d) else if named then s.provenFault (10 + d) else s)

/-- DRAM_CE_WINDOW_RESTART: the counts restart at the start of each DramCeWindow (R315). -/
def execDramCeWindowRestart (dt : Nat) (s : State) : Host.Outcome State Fault Refusal :=
  let s := s.elapse dt
  if s.ident.opSeconds < s.annex.ceWindow + s.eff 0x0763 then .next s
  else .next (s.modAnnex (fun a => { a with
    dramCe := [], ceWindow := s.ident.opSeconds, crossed := a.crossed.filter (fun x => x / 256 != 1) }))

/-- STAGE_HOT_HOUR: an hour in which a stage's junction stayed above 125 °C for more than 30 min (R315). -/
def execStageHotHour (dt st : Nat) (s : State) : Host.Outcome State Fault Refusal :=
  let s := s.elapse dt
  if 18 ≤ st then .next s
  else if !s.has .ao then .next s
  else
    let s := s.modAnnex (fun a => { a with hotHours := tmod a.hotHours st 0 (satInc 32) })
    let n := tget s.annex.hotHours st 0
    .next (if s.eff 0x0766 ≤ n then s.limitCrossed (31 + st) 4 n (s.eff 0x0766) else s)

/-- OSCILLATOR_FAULT (R315, R325): no edge for 200 ns is a proven fault; an error above OscErrorLimit counts while PTP is locked, and
otherwise only where the other two agree within 2 ppm. Errors are binary32 ppm: of the oscillator, and between the other two. -/
def execOscillatorFault (dt o : Nat) (stopped : Bool) (err spareErr : Nat) (s : State) : Host.Outcome State Fault Refusal :=
  let s := s.elapse dt
  if 3 ≤ o then .next s
  else if s.resState (49 + o) = 3 then .next s
  else if stopped then
    if s.resState (49 + o) = 1 then .next (s.spareFails (49 + o))
    else if (s.nextRef o).isNone then .next ((s.setRes (49 + o) 3).halt 2 (49 + o))
    else .next (s.migrateOsc ⟨6, 49 + o, none, 2, none, s.tick, true⟩)
  else
    let s := s.modAnnex (fun a => { a with oscErr := tset a.oscErr o 0 err })
    let far := flt fmt32 (s.eff 0x07F5) (fabs fmt32 err)
    let judged := s.clk.state == 2 || (s.annex.activeRef == o && fle fmt32 (fabs fmt32 spareErr) (f32 2 1))
    if far && judged && s.resState (49 + o) != 1 then .next (s.limitCrossed (49 + o) 6 err (s.eff 0x07F5)) else .next s

/-- SPARE_SELF_TEST of a spare in the Annex, once in 24 h of operating seconds (R19, R314), or the failure of the stand-in of a rotation
(R323). -/
def execSpareSelfTest (dt r : Nat) (pass : Bool) (s : State) : Host.Outcome State Fault Refusal :=
  let s := s.elapse dt
  match s.annex.rotation.filter (fun o => r == 21 + o.standin) with
  | some o => .next (if pass then s else s.standinFault o)
  | none =>
    if 52 ≤ r ∨ !(([19, 47, 48, 51] : List Nat).contains r) then .next s
    else if s.resState r ≠ 1 ∨ s.mode = .m0 ∨ s.ident.opSeconds < tget s.annex.sparedAt r 0 + 86400 then .next s
    else
      let s := s.modAnnex (fun a => { a with sparedAt := tset a.sparedAt r 0 s.ident.opSeconds })
      .next (if pass then s else s.spareFails r)

/-- LEDGER_WRITE, every 60 s (R315). -/
def execLedgerWrite (dt : Nat) (s : State) : Host.Outcome State Fault Refusal :=
  let s := s.elapse dt
  if s.since s.annex.writtenAt (60 * Config.ticksPerSecond) then .next (s.modAnnex (fun a => { a with writtenAt := s.tick }))
  else .next s

/-! ## Commands (R327, R328) -/

/-- ANNEX_MIGRATE, Op 1 and Op 2 (R327). -/
def annexCmd : Cmd := { Cmd.plain 0x0054 (fun r s =>
    runAsync (fun op b _ s =>
      let k := beAt b 0 1
      if beAt b 1 1 = 2 then
        match s.standinFor (k - 21) with
        | some q => s.rotStart (k - 21) q op
        | none => s.completeOpt op .notReady
      else if resKind k = 1 then (s.askMigration k 3 op false).drainPair k .migrate none
      else s.askMigration k 3 op true) r s) with
  absent := fun r s => if beAt r.body 0 1 ≤ 51 ∧ s.resState (beAt r.body 0 1) = 4 then some noPos else none
  malformed := fun r _ => if r.body.length ≠ 4 ∨ beAt r.body 2 2 ≠ 0 then some noPos else none
  unready := fun r s =>
    let k := beAt r.body 0 1
    if k ≤ 51 ∧ k ≠ 20 ∧ (beAt r.body 1 1 = 1 ∧ ((s.candidates k).isEmpty ∨ (resKind k = 1 ∧ (s.corePair k).room ≠ 0)) ∨
        beAt r.body 1 1 = 2 ∧ 21 ≤ k ∧ k ≤ 28 ∧ (s.spares 4).isEmpty) then some noPos else none
  value := fun r s =>
    let k := beAt r.body 0 1
    let op := beAt r.body 1 1
    if 51 < k ∨ op = 0 ∨ 2 < op then some (.range, noPos)
    else if op = 1 ∧ (s.resState k = 1 ∨ s.resState k = 3 ∨ k = 20 ∨ k = 18 ∨ (k = 19 ∧ s.annex.dramSpare.isSome)) then
      some (.badParameter, noPos)
    else if op = 2 ∧ (k < 21 ∨ 28 < k ∨ s.resState k ≠ 0) then some (.badParameter, noPos) else none
  busy := fun r s =>
    let k := resKind (beAt r.body 0 1)
    s.annex.running.any (·.kind == k) || s.annex.waiting.any (·.kind == k) || (k == 4 && s.annex.rotation.isSome)
  async := fun _ _ => true }

/-- ANNEX_MIGRATE. -/
def execAnnexMigrate (dt : Nat) (p : Packet) (s : State) : Host.Outcome State Fault Refusal :=
  execMail annexCmd (fun d => codeIs 0x0054 d && beAt d 49 1 != 2) dt p s
/-- ANNEX_MIGRATE with Op 2. -/
def execAnnexRotate (dt : Nat) (p : Packet) (s : State) : Host.Outcome State Fault Refusal :=
  execMail annexCmd (fun d => codeIs 0x0054 d && beAt d 49 1 == 2) dt p s

/-- A binary32 ppm value in ppb, rounded toward zero (R328). -/
def ppb (v : Nat) : Int := ftrunc fmt64 (fmul fmt64 (f32to64 v) (f64 1000 1))

/-- Wear and Wear2 of a resource (R328). -/
def State.wear (s : State) (r : Nat) : Int × Nat :=
  match resKind r with
  | 1 => ((s.corePair r).mismatches.toNat, 0)
  | 2 => ((tget s.annex.dramCeAll (r - 10) 0 : Nat), (tget s.annex.res r {}).wear2)
  | 3 => (s.annex.flashPe.foldl (fun m (_, v) => max m v) 0, s.annex.retired)
  | 4 => (ppb (tget s.annex.drift (r - 21) 0), (tget s.annex.res r {}).wear.toNat)
  | 5 => ((tget s.annex.hotHours (r - 31) 0 : Nat), tget s.annex.thermals (r - 31) 0)
  | _ => (ppb (tget s.annex.oscErr (r - 49) 0), 0)

/-- A record of LEDGER_READ (R328). -/
def State.ledgerRec (s : State) (r : Nat) : List Byte :=
  if s.resState r = 4 then leBytes 1 r ++ leBytes 1 (resKind r) ++ leBytes 1 4 ++ List.replicate 29 0#8
  else
    let c := tget s.annex.res r {}
    let (w, w2) := s.wear r
    leBytes 1 r ++ leBytes 1 (resKind r) ++ leBytes 1 (s.resState r) ++ leBytes 1 (tget s.annex.epoch (resKind r) 0) ++
    leBytes 4 c.spoil ++ leBytes 8 (ofSigned 64 w) ++ leBytes 4 w2 ++ leBytes 1 (c.standsFor.getD 0xFF) ++
    List.replicate 3 0#8 ++ leBytes 8 c.lastStep

/-- LEDGER_READ (R328). -/
def ledgerReadCmd : Cmd := { Cmd.plain 0x0055 (fun r s =>
    let first := beAt r.body 0 2
    let n := beAt r.body 2 2
    okRep s (beBytes 2 n ++ beBytes 2 0 ++ ((List.range n).map (fun i => s.ledgerRec (first + i))).flatten)) with
  malformed := fun r _ => if r.body.length ≠ 4 then some noPos else none
  value := fun r _ =>
    let first := beAt r.body 0 2
    let n := beAt r.body 2 2
    if 51 < first ∨ n = 0 ∨ 52 < n ∨ 52 < first + n then some (.range, noPos) else none }

/-- LEDGER_READ. -/
def execLedgerRead (dt : Nat) (p : Packet) (s : State) : Host.Outcome State Fault Refusal :=
  execMail ledgerReadCmd (codeIs 0x0055) dt p s

end Sys2Proof.Machine
end

