-- ==== Sys2Proof/Machine/AlarmOps.lean ====
section
/-!
DEFINITION. The alarm engine: the journal (R250, R251), evaluation of entries and groups (R228–R232), classes (R237), the call
ladder (R240–R244) and the release (R220, R238, R241).
-/
namespace Sys2Proof.Machine

/-! ## State and journal -/

/-- Change one entry's state. -/
def State.modAl (s : State) (n : Nat) (f : AlEnt → AlEnt) : State :=
  { s with al := { s.al with ent := tmod s.al.ent n {} f } }
/-- One entry's state. -/
def State.alEnt (s : State) (n : Nat) : AlEnt := tget s.al.ent n {}
/-- Change one group's state. -/
def State.modGrp (s : State) (g : Nat) (f : AlGrp → AlGrp) : State :=
  { s with al := { s.al with grp := tmod s.al.grp g {} f } }
/-- Change the ladder. -/
def State.modLad (s : State) (f : Ladder → Ladder) : State := { s with al := { s.al with lad := f s.al.lad } }
/-- Control of an entry image (R224). -/
def alCtl (e : Nat) : Nat := fld e 0 0 32
/-- Enable (R224). -/
def alOn (e : Nat) : Bool := bit (alCtl e) 31
/-- Type (R224). -/
def alType (e : Nat) : Nat := bits (alCtl e) 27 4
/-- Class − 1 (R224). -/
def alClass (e : Nat) : Nat := bits (alCtl e) 25 2
/-- Group (R223). -/
def alGroup (e : Nat) : Nat := fld e 0x18 0 16

/-- The enabled entries, ascending. -/
def State.alEntries (s : State) : List (Nat × Nat) := (s.entries 0x0001).filter (fun (_, e) => alOn e)

/-- Put an entry into the journal's ring (R250, R251): a full ring loses it, and the first entry after that tells how many. -/
def State.journal (s : State) (r : JourRec) : State :=
  if 65536 ≤ s.al.ring.length then
    { s with al := { s.al with lost := s.al.lost + 1, lostPending := s.al.lostPending + 1 } }
  else
    let (s, r) :=
      if s.al.lostPending = 0 ∨ 65535 ≤ s.al.ring.length then (s, r)
      else
        let k : JourRec := { seq := s.al.jnext, time := r.time, kind := 21, scan := r.scan, detail := s.al.lostPending }
        ({ s with al := { s.al with jnext := s.al.jnext + 1, ring := s.al.ring ++ [k], lostPending := 0 } }, r)
    { s with al := { s.al with jnext := s.al.jnext + 1, ring := s.al.ring ++ [{ r with seq := s.al.jnext }] } }

/-- A journal entry about an alarm entry (R250). -/
def State.jEntry (s : State) (kind n time scan : Nat) (st : AlEnt) : JourRec :=
  let e := s.entry 0x0001 n
  { seq := 0, time := time, kind := kind, cls := alClass e + 1, entry := n, group := alGroup e,
    message := fld e 0x1E 0 16, value := st.lastValue, limit := fld e 8 0 32, scan := scan }

/-- A journal entry about the ladder (R250). -/
def State.jLadder (s : State) (kind time scan rung : Nat) : JourRec :=
  let l := s.al.lad
  let e := s.entry 0x0001 l.starter
  { seq := 0, time := time, kind := kind, entry := l.starter, group := if l.starter = 0xFFFF then 0 else alGroup e,
    message := if l.starter = 0xFFFF then 0 else fld e 0x1E 0 16, scan := scan, detail := l.run + rung * 4294967296 }

/-- EV250 when the backlog passes 32,768 (R251). -/
def State.jBacklog (s : State) : State :=
  let over_ := decide (32768 < s.al.ring.length)
  if over_ && !s.al.jbehind then
    ({ s with al := { s.al with jbehind := true } }).raise 250 [(4, s.al.ring.length)]
  else if !over_ then { s with al := { s.al with jbehind := false } } else s

/-! ## Conditions -/

/-- The snapshot of scan instant `t` (R221). -/
def State.snap (s : State) (t scan : Nat) : AlSnap :=
  { scan := scan, at_ := t,
    ap := s.pts.ap.map (fun (k, p) => (k, p.atTime t)), bp := s.pts.bp.map (fun (k, p) => (k, p.atTime t)),
    edges := s.al.edges }

/-- An analogue point in binary64 (R228): none where it is undeclared, NaN or infinite (R229). -/
def State.alAp (s : State) (q : AlSnap) (real : Bool) (p : Nat) : Option Nat :=
  let v := tget q.ap p 0
  if (s.tk.prog.declOf false p).isNone then none
  else if real then (if fisFin fmt32 v then some (f32to64 v) else none)
  else some (ofInt fmt64 (toSigned 32 v))

/-- A binary point of the snapshot. -/
def alBp (q : AlSnap) (p : Nat) : Bool := tget q.bp p 0 != 0

/-- A suppression condition (R224, R231): of kind `k` naming `x`, groups as of the previous scan. -/
def alSupp (q : AlSnap) (prev : Tab AlGrp) (k x : Nat) : Bool :=
  match k with
  | 1 => (tget prev x {}).active != 0
  | 2 => alBp q x
  | 3 => !alBp q x
  | _ => false

/-- RAW after an evaluation between two bounds (R228): 1 above `hi`, 0 below `lo`, else unchanged. -/
def alAbove (raw : Bool) (v hi lo : Nat) : Bool :=
  if flt fmt64 hi v then true else if flt fmt64 v lo then false else raw
/-- The same for a condition below a limit. -/
def alBelow (raw : Bool) (v lo hi : Nat) : Bool :=
  if flt fmt64 v lo then true else if flt fmt64 hi v then false else raw

/-- One rate evaluation (R228), v in binary64. -/
def alRate (e v : Nat) (st : AlEnt) : AlEnt :=
  let n := fld e 0x1C 0 16
  let lim := f32to64 (fld e 8 0 32)
  let db := f32to64 (fld e 0x0C 0 32)
  if !st.based then { st with based := true, rateBase := f64to32 v, ratePhase := 0 }
  else if st.ratePhase + 1 < n then { st with ratePhase := st.ratePhase + 1 }
  else
    let rate := fdiv fmt64 (fsub fmt64 v (f32to64 st.rateBase)) (fdiv fmt64 (ofInt fmt64 n) (ofInt fmt64 100))
    let raw := if alType e = 5 then alAbove st.raw rate lim (fsub fmt64 lim db)
      else alBelow st.raw rate (fneg fmt64 lim) (fadd fmt64 (fneg fmt64 lim) db)
    { st with raw := raw, rateBase := f64to32 v, ratePhase := 0, lastValue := f64to32 rate }

/-- RAW, INVALID and LastValue of an entry in a scan (R228, R229). -/
def State.alRaw (s : State) (q : AlSnap) (e : Nat) (st : AlEnt) : AlEnt :=
  let src := fld e 4 0 16
  let lim := f32to64 (fld e 8 0 32)
  let db := f32to64 (fld e 0x0C 0 32)
  let real := bit (alCtl e) 24
  if alType e = 8 then
    if (s.tk.prog.declOf true src).isNone then { st with invalid := true }
    else
      let v := alBp q src
      { st with invalid := false, raw := v == bit (alCtl e) 23, lastValue := if v then ofInt fmt32 1 else 0 }
  else
    match s.alAp q real src, (if alType e = 7 then s.alAp q real (fld e 6 0 16) else some 0) with
    | some v, some r =>
      let st := { st with invalid := false }
      match alType e with
      | 1 | 2 => { st with raw := alAbove st.raw v lim (fsub fmt64 lim db), lastValue := f64to32 v }
      | 3 | 4 => { st with raw := alBelow st.raw v lim (fadd fmt64 lim db), lastValue := f64to32 v }
      | 5 | 6 => alRate e v st
      | 7 => { st with raw := alAbove st.raw (fabs fmt64 (fsub fmt64 v r)) lim (fsub fmt64 lim db),
                       lastValue := f64to32 v }
      | _ => st
    | _, _ => { st with invalid := true, based := false, ratePhase := 0 }

/-- The steps of R229 after RAW: the state, the journal kinds with their SHELVED flag, and whether the entry annunciates. -/
def alSteps (e : Nat) (supp : Bool) (was : Bool) (st : AlEnt) : AlEnt × List (Nat × Bool) × Bool :=
  let j0 : List (Nat × Bool) := if st.invalid && !was then [(8, false)] else if !st.invalid && was then [(9, false)] else []
  if supp then
    ({ st with suppressed := true, active := false, unacked := false, latched := false, delay := 0, again := false },
      j0 ++ (if st.suppressed then [] else [(6, false)]), false)
  else
    let j0 := j0 ++ (if st.suppressed then [(7, false)] else [])
    let st := { st with suppressed := false }
    if st.invalid then (st, j0, false)
    else if !st.active then
      let d := if st.raw then st.delay + 1 else 0
      if fld e 0x10 0 32 < d then
        ({ st with active := true, delay := 0, unacked := st.unacked || !st.shelved,
                   unackScans := if st.shelved then st.unackScans else 0 },
          j0 ++ [(1, st.shelved)], !st.shelved)
      else ({ st with delay := d }, j0, false)
    else if st.raw then ({ st with delay := 0, latched := false }, j0, false)
    else if !st.latched then
      let d := st.delay + 1
      if fld e 0x14 0 32 < d then
        if bit (alCtl e) 20 && st.unacked then ({ st with delay := 0, latched := true }, j0 ++ [(2, false)], false)
        else ({ st with delay := 0, active := false }, j0 ++ [(2, false)], false)
      else ({ st with delay := d }, j0, false)
    else (st, j0, false)

/-- What one entry's evaluation in a scan gives. -/
structure AlOut where
  st : AlEnt
  jour : List (Nat × Bool)
  news : Bool
  expired : Bool
  remind : Bool
deriving DecidableEq, Repr

/-- One entry in one scan (R229, R236, R237): the shelve timer first, then the evaluation. -/
def State.alEval (s : State) (q : AlSnap) (prev : Tab AlGrp) (e : Nat) (st : AlEnt) : AlOut :=
  let exp := st.shelved && st.shelveLeft == 1
  let st1 := if st.shelved then { st with shelveLeft := st.shelveLeft - 1 } else st
  let st1 := if exp then
      { st1 with shelved := false, unacked := st1.unacked || st1.active,
                 unackScans := if st1.active then 0 else st1.unackScans }
    else st1
  let anew := (exp && st.active) || st.again
  let st1 := { st1 with again := false, unackScans := if st.unacked && st1.unacked then st1.unackScans + 1 else st1.unackScans }
  let was := st1.invalid
  let st2 := s.alRaw q e st1
  let supp := alSupp q prev (bits (alCtl e) 21 2) (fld e 0x1A 0 16) || (tget s.al.grp (alGroup e) {}).suppressed
  let (st3, j, news) := alSteps e supp was st2
  let anew := anew && !st3.suppressed && !st3.shelved
  let diff := st3.active != st.active || st3.unacked != st.unacked || st3.shelved != st.shelved ||
    st3.suppressed != st.suppressed
  let rem := s.eff 0x06A1 * 100
  { st := { st3 with faulted := false, lastChange := if diff then q.at_ else st3.lastChange },
    jour := (if exp then [(5, false)] else []) ++ j, news := news || anew, expired := exp,
    remind := st3.unacked && rem != 0 && st3.unackScans != 0 && st3.unackScans % rem == 0 }

/-! ## A scan -/

/-- The number of failing tries that the two evaluators' comparison shows for a unit (R230): entries 0–16,383, group g as
0x4000 + g, classes 0x4200, ladder 0x4201, and the suppression of group g 0x4400 + g. -/
def alTries (mis : List (Nat × Nat)) (n : Nat) : Nat := ((mis.find? (·.1 == n)).map Prod.snd).getD 0

/-- EV251, at most once in a scan (R230, R254): for the first unit that differs. -/
def State.alTellMismatch (s : State) (n : Nat) (bad : Bool) : State :=
  let e := tget s.ev.src 251 {}
  if e.count ≠ 0 ∧ e.time = s.now then s else s.raise 251 [(2, n), (1, b2n bad)]

/-- A mismatch (R230): counted, EV251; a second failure, or one beyond 1,024 retries, answers that the unit keeps its state. -/
def State.alMismatch (s : State) (mis : List (Nat × Nat)) (n : Nat) : Bool × State :=
  let t := alTries mis n
  if t = 0 then (false, s)
  else
    let late := decide (1024 ≤ (mis.takeWhile (·.1 != n)).length)
    let bad := decide (2 ≤ t) || late
    let s := { s with
      al := { s.al with mismatches := s.al.mismatches + 1 }
      annex := { s.annex with alarmMis := s.annex.alarmMis ++ [s.ident.opSeconds] } }
    (bad, (s.alTellMismatch n bad).engineLimit 53)

/-- The groups that are in use: named by an entry, configured or holding a state. -/
def State.alGroups (s : State) : List Nat :=
  insSort ((s.entries 0x0002).map Prod.fst ++ s.alEntries.map (fun x => alGroup x.2) ++ s.al.grp.map Prod.fst)

/-- The first pass (R232): suppression of every group. Its comparison is that of the group (R230), as unit 0x4400 + g. -/
def State.alSuppress (s : State) (q : AlSnap) (mis : List (Nat × Nat)) : List (Nat × Bool) × State :=
  let prev := s.al.grp
  s.alGroups.foldl (fun (ch, s) g =>
    let (bad, s) := State.alMismatch s mis (0x4400 + g)
    if bad then (ch, s.raiseFlag 1)
    else
      let e := s.entry 0x0002 g
      let st := tget prev g {}
      let c := alSupp q prev (fld e 0 30 2) (fld e 4 0 16)
      let (on, left) := if c then (true, fld e 6 0 16) else if 0 < st.releaseLeft then (true, st.releaseLeft - 1) else (false, 0)
      (if on != st.suppressed then ch ++ [(g, on)] else ch,
        s.modGrp g (fun x => { x with suppressed := on, releaseLeft := left }))) (([] : List (Nat × Bool)), s)

/-- One entry's place in a pass (R220, R229, R230). -/
def State.alEntry (s : State) (mis : List (Nat × Nat)) (prev : Tab AlGrp) (p : AlPass) (n e : Nat) : AlPass × State :=
  let (bad, s) := s.alMismatch mis n
  if bad then
    ({ p with await := p.await ++ [n] }, (s.modAl n (fun st => { st with faulted := true })))
  else
    let o := s.alEval p.snap prev e (s.alEnt n)
    ({ p with
        news := if o.news then p.news ++ [n] else p.news,
        expired := if o.expired then p.expired ++ [n] else p.expired,
        reminds := if o.remind then p.reminds ++ [n] else p.reminds,
        jour := p.jour ++ o.jour.map (fun (k, sh) =>
          { s.jEntry k n p.snap.at_ p.snap.scan o.st with shelved := sh }) },
      s.modAl n (fun _ => o.st))

/-- The entry pass of a scan (R220): suppression, then every enabled entry. A FAULTED entry raises the own-check flag (R230,
R272). -/
def State.alPass (s : State) (q : AlSnap) (mis : List (Nat × Nat)) : AlPass × State :=
  let prev := s.al.grp
  let (ch, s) := s.alSuppress q mis
  let p : AlPass := ⟨q, [], [], [], [], ch, [], mis⟩
  let (p, s) := s.alEntries.foldl (fun (p, s) (n, e) => State.alEntry s mis prev p n e) (p, s)
  (p, if p.await.isEmpty then s else s.raiseFlag 1)

/-- The aggregation pass (R232) of one group. -/
def State.alAggregate (s : State) (mis : List (Nat × Nat)) (p : AlPass) (g : Nat) : State :=
  let (bad, s) := s.alMismatch mis (0x4000 + g)
  if bad then s.raiseFlag 1
  else
    let ms := s.alEntries.filter (fun (_, e) => alGroup e == g)
    let act := (ms.filter (fun (n, _) => let t := s.alEnt n; t.active && !t.shelved && !t.suppressed)).length
    let un := (ms.filter (fun (n, _) => (s.alEnt n).unacked)).length
    let st := tget s.al.grp g {}
    let rises := st.active == 0 && act != 0
    let first := if act = 0 then none
      else if rises then p.news.find? (fun n => ms.any (fun (m, _) => m == n)) else st.first
    s.modGrp g (fun x => { x with
      active := act, unacked := un, members := ms.length, first := first,
      firstTime := if rises then p.snap.at_ else x.firstTime })

/-- Class counts (R234). -/
def State.alClasses (s : State) : State :=
  let cnt := fun (f : AlEnt → Bool) c => (s.alEntries.filter (fun (n, e) => alClass e == c && f (s.alEnt n))).length
  { s with al := { s.al with
    clsActive := (List.range 4).map (cnt (fun t => t.active && !t.shelved && !t.suppressed)),
    clsUnacked := (List.range 4).map (cnt (fun t => t.unacked)),
    invalids := (s.alEntries.filter (fun (n, _) => (s.alEnt n).invalid)).length } }

/-! ## The ladder -/

/-- RungControl and the other parameters of rung r = 1–8 (R239). -/
def State.rung (s : State) (r k : Nat) : Nat := s.eff (0x0600 + 16 * (r - 1) + k)
/-- The enabled rungs, ascending. -/
def State.rungsOn (s : State) : List Nat := ((List.range 8).map (· + 1)).filter (fun r => bit (s.rung r 0) 31)
/-- The first enabled rung at or above `r`, else the highest enabled one (R240). -/
def State.rungFor (s : State) (r : Nat) : Option Nat :=
  ((s.rungsOn).find? (fun x => decide (r ≤ x))).orElse (fun _ => s.rungsOn.getLast?)
/-- LadderStart of a class (R234). -/
def State.ladderClass (s : State) (c : Nat) : Bool := bit (s.eff (0x0680 + 8 * c)) 31

/-- The ladder's outputs and messages stay off on this module (R247, R249). -/
def State.ladderMuted (s : State) : Bool :=
  s.al.behind || s.al.follow == 3 || s.al.follow == 4 ||
    (s.mu.slot == 1 && ((s.pair.heartbeat && !s.laneUp) || s.role == .isolated))

/-- The outputs a rung set drives (R239, R241): bit 0–31 the DOs, 32 and 33 the call lines. -/
def State.rungOut (s : State) (r : Nat) : Nat :=
  s.rung r 2 + b2n (bit (s.rung r 0) 30) * 4294967296 + b2n (bit (s.rung r 0) 29) * 8589934592

/-- What the ladder drives at a release (R241): the present rung, with KeepLower every lower enabled rung; pulsed outputs in
their on phase. -/
def State.ladderOut (s : State) : Nat :=
  let l := s.al.lad
  if l.state = 0 ∨ s.ladderMuted then 0
  else
    let rs := l.rung :: (if bit (s.rung l.rung 0) 27 then s.rungsOn.filter (fun r => decide (r < l.rung)) else [])
    let on := l.scans % 100 < 50
    rs.foldl (fun a r => if bit (s.rung r 0) 28 && !on then a else a ||| s.rungOut r) 0

/-- The 32 bytes of a call message before its Hmac (R242). -/
def State.callHead (s : State) (rung cmn : Nat) : List Byte :=
  let l := s.al.lad
  beBytes 4 0x4953434C ++ beBytes 1 1 ++ beBytes 1 rung ++ beBytes 2 (s.rung rung 8) ++ beBytes 2 (s.eff 0x06A2) ++
  beBytes 2 l.starter ++ beBytes 2 (if l.starter = 0xFFFF then 0 else fld (s.entry 0x0001 l.starter) 0x1E 0 16) ++
  beBytes 1 s.mu.slot ++ beBytes 1 0 ++ beBytes 4 l.run ++ beBytes 4 cmn ++ beBytes 8 l.startTime

/-- The rung's network message (R242): numbered always, sent where the OPERATE key is set and this module may. -/
def State.callNet (s : State) (r : Nat) : State :=
  if s.rung r 3 = 0 then s
  else
    let s := s.modLad (fun l => { l with cmn := wrapInc 32 l.cmn })
    match tlook s.mbx.keys 1 with
    | none => s
    | some k =>
      if s.ladderMuted then s
      else
        let h := s.callHead r s.al.lad.cmn
        s.plantSend 47211 (s.rung r 3) (s.rung r 4) (h ++ (hmac k h).take 16)

/-- The rung's CAN message (R244): only the alarm leader sends it, through buffer 63. -/
def State.callCan (s : State) (r : Nat) : State :=
  let c := s.rung r 5
  if 4 ≤ c then s
  else
    let s := s.modLad (fun l => { l with cmn := wrapInc 32 l.cmn })
    if s.ladderMuted || !s.alarmLeader then s
    else
      let l := s.al.lad
      let id := s.rung r 6
      let d := beBytes 1 r ++ beBytes 1 0 ++ beBytes 2 (s.rung r 8) ++ beBytes 4 l.run ++ beBytes 4 l.cmn ++
        beBytes 2 l.starter ++ beBytes 2 (if l.starter = 0xFFFF then 0 else fld (s.entry 0x0001 l.starter) 0x1E 0 16)
      s.canLoad c 63 id (6 + b2n (bit id 31)) d none

/-- The messages of a rung (R240). -/
def State.callMessages (s : State) (r : Nat) : State := (s.callNet r).callCan r

/-- Entering a rung (R240 step 4). -/
def State.enterRung (s : State) (q : AlSnap) (r : Nat) : State :=
  let top := s.rungsOn.getLast? == some r
  let s := s.modLad (fun l => { l with
    rung := r, state := if top then 2 else 1, left := s.rung r 1 * 100, scans := 0 })
  let s := s.journal { s.jLadder 17 q.at_ q.scan r with callCode := s.rung r 8 }
  let s := s.callMessages r
  if top then s.raise 248 [(4, s.al.lad.run), (1, r)] else s

/-- The ladder ends (R240 step 1). -/
def State.ladderStop (s : State) (q : AlSnap) (cause num code session : Nat) : State :=
  let r := s.al.lad.rung
  let j := s.jLadder (if cause = 4 then 19 else 18) q.at_ q.scan r
  let s := s.journal { j with
    ackKind := if cause = 4 then 0 else if cause = 1 then 1 else if cause = 2 then 3 else 2,
    ackNum := num, callCode := code, session := session }
  let s := s.modLad (fun l => { l with state := 0, cause := cause, rung := 0, left := 0, scans := 0, acked := none })
  s.raise 247 [(4, s.al.lad.run), (1, cause), (2, if cause = 3 then num else code)]

/-- Acknowledgement of a running ladder (R240 step 1). -/
def State.ladderAckStep (s : State) (q : AlSnap) : State :=
  let l := s.al.lad
  if l.state = 0 then s.modLad (fun l => { l with acked := none })
  else
    match l.acked with
    | some (c, code, sid) => s.ladderStop q c 0 code sid
    | none =>
      match (List.range 4).find? (fun k => bit q.edges k && bit (s.eff 0x06A0) k) with
      | some k => s.ladderStop q 3 k 0 0
      | none =>
        if s.alEntries.any (fun (n, e) => s.ladderClass (alClass e) && (s.alEnt n).unacked) then s
        else s.ladderStop q 4 0 0 0

/-- Start, escalation and repeat (R240 steps 2, 3 and 5), given the newly annunciated entries. `ran`: it was running before. -/
def State.ladderRunStep (s : State) (q : AlSnap) (news : List Nat) (ran : Bool) : State :=
  let callers := news.filter (fun n =>
    let e := s.entry 0x0001 n
    !bit (alCtl e) 19 && s.ladderClass (alClass e))
  let want := callers.foldl (fun a n => max a (s.eff (0x0681 + 8 * alClass (s.entry 0x0001 n)))) 0
  let l := s.al.lad
  if l.state = 0 then
    match callers with
    | [] => s
    | n :: _ =>
      match s.rungFor want with
      | none => { s with al := { s.al with noRung := s.al.noRung + 1 } }
      | some r =>
        let s := s.modLad (fun l => { l with
          run := wrapInc 32 l.run, startTime := q.at_, starter := n, cmn := 0, acked := none })
        let s := s.journal (s.jLadder 16 q.at_ q.scan r)
        let s := s.raise 245 [(4, s.al.lad.run), (1, r), (2, n)]
        s.enterRung q r
  else
    let left := if l.state = 1 && ran then l.left - 1 else l.left
    let next := s.rungsOn.find? (fun r => decide (l.rung < r))
    let t0 := if l.state = 1 ∧ left = 0 then next.getD l.rung else l.rung
    let t1 := if callers.isEmpty then t0 else match s.rungFor want with | some r => max t0 r | none => t0
    if t1 ≠ l.rung then
      let s := (s.enterRung q t1)
      s.raise 246 [(4, s.al.lad.run), (1, l.rung), (1, t1)]
    else
      let s := s.modLad (fun l => { l with left := left, scans := l.scans + 1 })
      let p := s.rung l.rung 7 * 100
      if p ≠ 0 ∧ s.al.lad.scans % p = 0 then s.callMessages l.rung else s

/-! ## The release -/

/-- The value of an engine point (R238): a binary one as 0 or 1. -/
def State.alPoint (s : State) (p : Nat) : Option (Bool × Nat) :=
  if p < 0x4000 then
    let t := s.alEnt p
    some (true, b2n (t.active && !t.shelved && !t.suppressed))
  else if p < 0x4200 then some (true, b2n ((tget s.al.grp (p - 0x4000) {}).active != 0))
  else if p < 0x4400 then some (true, b2n ((tget s.al.grp (p - 0x4200) {}).unacked != 0))
  else if p < 0x4420 then some (true, b2n (bit s.ladderOut (p - 0x4400)))
  else if p = 0x4420 then some (true, b2n (s.al.lad.state == 1))
  else if p = 0x4421 then some (false, s.al.lad.rung)
  else if 0x4600 ≤ p ∧ p < 0x4800 then some (true, b2n (tget s.al.grp (p - 0x4600) {}).suppressed)
  else none

/-- The engine writes its image points, stamped `t` (R220, R238). -/
def State.alPublish (s : State) (t : Nat) : State :=
  (s.tk.prog.points.filter (·.kind == 5)).foldl (fun s d =>
    match s.alPoint d.producer with
    | some (true, v) => if d.binary then s.produceBp d.point (v != 0) t else s
    | some (false, v) => if d.binary then s else s.produceAp d.point v t
    | none => s) s

/-- The call lines and ladder DOs take the ladder's outputs (R241, R420). -/
def State.ladderDrive (s : State) : State :=
  let o := s.ladderOut
  let s := (List.range 32).foldl (fun s m => if s.doSource m = 2 && s.doOn m then s.setSw m (bit o m) else s) s
  (s.setSw 32 (bit o 32)).setSw 33 (bit o 33)

/-- The events of a scan (R237, R254). -/
def State.alEvents (s : State) (p : AlPass) : State :=
  let s := (List.range 4).foldl (fun s c =>
    match p.news.filter (fun n => alClass (s.entry 0x0001 n) == c) with
    | [] => s
    | n :: t => s.raise (240 + c) [(2, t.length + 1), (2, n), (8, p.snap.scan)]) s
  let s := match p.reminds with
    | [] => s
    | n :: t => s.raise 244 [(2, n), (2, t.length + 1), (8, p.snap.scan)]
  let s := match p.expired with
    | [] => s
    | n :: t => s.raise 249 [(2, n), (2, t.length + 1)]
  match p.changed with
  | [] => s
  | (g, on) :: t => s.raise 252 [(2, g), (1, b2n on), (2, t.length + 1)]

/-- What the signature folds (R249): entries, groups and the ladder. -/
def State.alSigWords (s : State) : List Nat :=
  (s.al.ent.map (fun (n, t) =>
    [n, b2n t.active + 2 * b2n t.unacked + 4 * b2n t.shelved + 8 * b2n t.suppressed + 16 * b2n t.raw + 32 * b2n t.invalid +
      64 * b2n t.latched + 128 * b2n t.faulted, t.delay, t.rateBase, t.ratePhase, t.shelveLeft])).flatten ++
  (s.al.grp.map (fun (g, t) =>
    [g, t.active, t.unacked, t.members, t.first.getD 0xFFFF, b2n t.suppressed, t.firstTime, t.releaseLeft])).flatten ++
  [s.al.lad.state, s.al.lad.cause, s.al.lad.rung, s.al.lad.left, s.al.lad.run, s.al.lad.startTime, s.al.lad.starter,
    s.al.lad.cmn]

/-- A partner's engine scans beside this one, over a lane (R247). -/
def State.alPaired (s : State) : Bool := s.laneUp && s.partnerScans && s.role != .isolated

/-- From the aggregation to the release (R220): groups, classes, ladder, journal, events, points, outputs, and the signature, which a
follower that stands aside does not exchange (R249). -/
def State.alRelease (s : State) (p : AlPass) : State :=
  let s := s.alGroups.foldl (fun s g => s.alAggregate p.mis p g) s
  let (bad, s) := s.alMismatch p.mis 0x4200
  let s := if bad then s.raiseFlag 1 else s.alClasses
  let s := p.jour.foldl State.journal s
  let (bad, s) := s.alMismatch p.mis 0x4201
  let ran := s.al.lad.state == 1
  let s := if bad then s.raiseFlag 1 else (s.ladderAckStep p.snap).ladderRunStep p.snap p.news ran
  let s := s.alEvents p
  let s := (s.alPublish (p.snap.at_ + 3000000)).ladderDrive
  let s := s.jBacklog
  let s := { s with al := { s.al with signature := Config.alarmFold s.alSigWords, half := none } }
  if s.alPaired && s.al.follow != 3 then s.lane 0x07 [0, p.snap.scan, s.al.signature.toNat] else s

/-- A scan with a given snapshot (R220): the entry pass, and the release unless borrowed results are awaited (R272). -/
def State.alScan (s : State) (q : AlSnap) (mis : List (Nat × Nat)) (follow : Nat) : State :=
  let s := { s with al := { s.al with
    scan := q.scan, last := some q.at_, edges := 0, follow := follow,
    scanMax := max s.al.scanMax (Config.alarmScanTime s.tick).toNat } }
  let (p, s) := s.alPass q mis
  if p.await.isEmpty || follow != 1 then s.alRelease { p with await := [] }
  else
    let s := p.await.foldl (fun s n => s.lane 0x07 [1, n]) s
    { s with al := { s.al with half := some (p, s.tick) } }

/-! ## Acknowledgement, shelving and writes -/

/-- The instant of an application (R222): now, or the release where it lies ahead. -/
def State.alTime (s : State) : Nat := match s.al.last with | some t => max s.now (t + 3000000) | none => s.now

/-- Acknowledge one entry (R235): 1 if it was UNACKED. -/
def State.alAck1 (s : State) (session : Nat) (n : Nat) : Nat × State :=
  let t := s.alEnt n
  if !t.unacked then (0, s)
  else
    let s := s.modAl n (fun t => { t with
      unacked := false, active := t.active && !t.latched, latched := false, lastChange := s.alTime, again := false })
    (1, s.journal { s.jEntry 3 n s.alTime s.al.scan (s.alEnt n) with ackKind := 1, session := session })

/-- Acknowledge entries: how many were UNACKED. -/
def State.alAck (s : State) (session : Nat) (l : List Nat) : Nat × State :=
  l.foldl (fun (k, s) n =>
    let (j, s) := State.alAck1 s session n
    (k + j, s)) (0, s)

/-- Shelve an entry for `d` seconds (R236). -/
def State.alShelve (s : State) (session d n : Nat) : State :=
  let s := s.modAl n (fun t => { t with
    shelved := true, shelveLeft := d * 100, unacked := false, again := false,
    lastChange := if t.shelved && !t.unacked then t.lastChange else s.alTime })
  s.journal { s.jEntry 4 n s.alTime s.al.scan (s.alEnt n) with ackKind := 1, session := session, detail := d }

/-- Unshelve an entry (R236): an ACTIVE one annunciates anew. -/
def State.alUnshelve (s : State) (session n : Nat) : State :=
  let t := s.alEnt n
  if !t.shelved then s
  else
    let s := s.modAl n (fun t => { t with
      shelved := false, shelveLeft := 0, lastChange := s.alTime, unacked := t.active && !t.suppressed,
      unackScans := 0, again := t.active && !t.suppressed })
    s.journal { s.jEntry 5 n s.alTime s.al.scan (s.alEnt n) with ackKind := 1, session := session }

/-- What a written entry does to its state (R227). -/
def State.alWritten (s : State) (n old new : Nat) : State :=
  let s := if alOn old && !alOn new then
      let t := s.alEnt n
      let s := if t.active then s.journal (s.jEntry 10 n s.alTime s.al.scan t) else s
      s.modAl n (fun t => { t with
        active := false, unacked := false, shelved := false, suppressed := false, raw := false, invalid := false,
        latched := false, faulted := false, delay := 0, shelveLeft := 0, again := false, unackScans := 0,
        lastChange := if t.active || t.unacked || t.shelved || t.suppressed then s.alTime else t.lastChange })
    else if !alOn old && alOn new then
      s.modAl n (fun t => { lastValue := t.lastValue, lastChange := t.lastChange })
    else s
  if alType old ≠ alType new ∨ fld old 4 0 32 ≠ fld new 4 0 32 ∨ fld old 0x1C 0 16 ≠ fld new 0x1C 0 16 then
    s.modAl n (fun t => { t with based := false, ratePhase := 0 })
  else s

/-- The entries that differ between two configurations take R227's effects. -/
def State.alReconcile (s : State) (old new : Nat → Nat) (keys : List Nat) : State :=
  keys.foldl (fun s n => if old n = new n then s else s.alWritten n (old n) (new n)) s

/-- A LADDER_ACK or network acknowledgement is applied (R240, R243): the next scan stops the ladder. A second one before it
has no further effect. -/
def State.ladderAck (s : State) (cause code session : Nat) : State :=
  if s.al.lad.state = 0 then s else s.modLad (fun l => { l with acked := l.acked.orElse (fun _ => some (cause, code, session)) })

/-- The digest of the alarm settings in an agreement frame (R248), over a listing of what differs from the reset values
(log 16). -/
def State.alarmDigest (s : State) : Nat :=
  let ts := (s.entries 0x0001).map (fun (n, e) => beBytes 2 n ++ leBytes 32 e) ++
    (s.entries 0x0002).map (fun (n, e) => beBytes 2 n ++ leBytes 8 e)
  let ps := (List.range 96).map (fun i =>
    match paramDef (0x0680 + i) with
    | some d => if d.acc = .rw then beBytes 8 (s.eff (0x0680 + i)) else []
    | none => [])
  beNat ((sha256 (ts.flatten ++ ps.flatten)).take 8)

end Sys2Proof.Machine
end

