-- ==== Sys2Proof/Machine/Alarm.lean ====
section
/-!
DEFINITION. The alarm engine's scans in and out of a pair (R219–R221, R247–R249, R272) and the commands of alarms, ladder and
journal (R235, R236, R243, R245, R252).
-/
namespace Sys2Proof.Machine

/-! ## Scans -/

/-- The module evaluates on its own snapshot (R247, R248): it leads, or it hears no scanning partner over a lane. -/
def State.alOwn (s : State) : Bool := s.alarmLeader || !s.alPaired

/-- The agreement frame of a scan (R248): the snapshot's points that are not 0, and the commands to be applied after its
release. -/
def State.alFrame (s : State) (q : AlSnap) : State :=
  let due := s.al.waiting.filter (fun w => decide (w.at_ ≤ q.at_))
  s.lane 0x06 ([q.scan, q.at_, q.edges, s.alarmDigest, q.ap.length, q.bp.length, due.length] ++
    (q.ap.map (fun (k, v) => [k, v])).flatten ++ (q.bp.map (fun (k, v) => [k, v])).flatten ++
    (due.map (fun w => [w.code, w.session.toNat, w.body.length])).flatten) (due.map (·.body)).flatten

/-- A scan on the own snapshot (R219, R220, R248): once per scan instant. -/
def State.alarmScan (s : State) (mis : List (Nat × Nat)) : State :=
  let t := s.gridInstant Config.scanNs
  if !s.scans || !s.onGrid Config.scanNs || !s.alOwn || s.al.last == some t || s.al.half.isSome then s
  else
    let q := s.snap t (s.al.scan + 1)
    let paired := s.alPaired && s.alarmLeader
    let s := if paired then s.alFrame q else s
    s.alScan q mis (if paired then 1 else 0)

/-- The states follow the leader's from now on: ladder outputs off, AlarmFollowState 4 (R249). -/
def State.alBehind (s : State) : State :=
  ({ s with al := { s.al with behind := true, follow := 4 } }).ladderDrive

/-- The states of R249 as numbers, for a copy to the partner. -/
def State.alCopyOut (s : State) : State := s.lane 0x09 ([0xA1, s.al.scan] ++ s.alSigWords)

/-- The follower asks the leader for its states (R249), at each scan until it has taken them. -/
def State.alAsk (s : State) : State := s.lane 0x09 [0xB0, 1]

/-- The follower evaluates on the leader's frame (R248, R249). A differing table digest makes it stand aside; equal digests after
that make it take the leader's states. -/
def State.alarmFollow (s : State) (f : AlarmIn) (mis : List (Nat × Nat)) : State :=
  if !s.scans || s.alOwn || s.al.last == some f.at_ then s
  else
    let q : AlSnap := ⟨f.scan, f.at_, f.ap, f.bp, f.edges⟩
    let same := f.digest == s.alarmDigest
    let was := s.al.follow
    let fs := if !same then 3 else if s.al.behind || was == 3 then 4 else 2
    let s := { s with al := { s.al with behind := s.al.behind || !same } }
    let s := s.alScan q mis fs
    if fs = 4 then s.alAsk else s

/-- A follower whose frame has not arrived by S + 400 µs (R249). -/
def State.alarmLate (s : State) : State :=
  let t := s.gridInstant Config.scanNs
  if !s.scans || s.alOwn || s.al.last == some t || decide (s.now < t + 400000) then s
  else ({ s with al := { s.al with last := some t, edges := 0 } }).alBehind

/-- A signature of the partner (R249): on the follower a difference is a divergence; the leader then sends its states. -/
def State.alSigIn (s : State) (scan : Nat) (sig : U64) : State :=
  if scan ≠ s.al.scan ∨ sig = s.al.signature then s
  else if s.al.follow = 1 then s.alCopyOut
  else if s.al.follow = 2 then
    (if s.role = .standby then s.diverge 6 0 scan else s.raise 40 [(1, 6), (1, 0), (4, scan), (1, 0)]).alBehind
  else s

/-- The follower answers a borrow request with its own results for the entry (R272). -/
def State.alAnswer (s : State) (n : Nat) : State :=
  let t := s.alEnt n
  if s.al.follow = 2 then
    s.lane 0x07 [2, n, b2n t.active, b2n t.unacked, b2n t.shelved, b2n t.suppressed, b2n t.raw, b2n t.invalid, b2n t.latched,
      t.delay, t.rateBase, t.ratePhase, t.shelveLeft, t.lastValue]
  else s

/-- The leader installs borrowed results before its release (R272): their journal kinds follow from what changed. -/
def State.alBorrowed (s : State) (n : Nat) (t : AlEnt) : State :=
  match s.al.half with
  | none => s
  | some (p, tk) =>
    if !p.await.contains n then s
    else
      let old := s.alEnt n
      let q := p.snap
      let kinds := (if !old.suppressed && t.suppressed then [6] else if old.suppressed && !t.suppressed then [7] else []) ++
        (if !old.invalid && t.invalid then [8] else if old.invalid && !t.invalid then [9] else []) ++
        (if !old.active && t.active then [1] else []) ++
        (if old.active && (!t.active || (!old.latched && t.latched)) && !t.suppressed then [2] else [])
      let diff := old.active != t.active || old.unacked != t.unacked || old.shelved != t.shelved || old.suppressed != t.suppressed
      let s := s.modAl n (fun _ => { t with faulted := false, lastChange := if diff then q.at_ else old.lastChange })
      let p := { p with
        await := p.await.filter (· != n),
        news := if !old.unacked && t.unacked then insNat n p.news else p.news,
        jour := p.jour ++ kinds.map (fun k => { s.jEntry k n q.at_ q.scan t with shelved := k == 1 && t.shelved }) }
      let s := { s with al := { s.al with half := some (p, tk) } }
      if p.await.isEmpty then s.alRelease p else s

/-- No borrowed results by S + 2.95 ms: R230 stands, and the scan is released (R272). -/
def State.alBorrowLate (s : State) (n : Nat) : State :=
  match s.al.half with
  | none => s
  | some (p, tk) =>
    if !p.await.contains n || !s.since tk 368750 then s
    else s.alRelease { p with await := [] }

/-- The commands that are applied at a release and that its agreement frame carried (R248): accepted by the scan instant S. -/
def State.alDue (s : State) : List AlWait × State :=
  match s.al.last, s.al.half with
  | some t, none =>
    let (due, rest) := s.al.waiting.partition (fun w => decide (w.at_ ≤ t))
    (due, { s with al := { s.al with waiting := rest } })
  | _, _ => ([], s)

/-- The LadderRunNumber of M1: that of the newest journal entry of kinds 16–19 (R246). -/
def State.ladderRestore (s : State) : State :=
  let l := s.al.flash.filterMap (fun (_, r) => r)
  match (l.filter (fun r => decide (16 ≤ r.kind ∧ r.kind ≤ 19))).foldl
      (fun (a : Option JourRec) r => match a with | some b => if b.seq < r.seq then some r else a | none => some r) none with
  | some r => s.modLad (fun l => { l with run := r.detail % 4294967296 })
  | none => s

/-! ## Journal on flash -/

/-- Write `n` staged entries to the journal partition (R251): at its end the position returns to the start, EV233. -/
def State.journalWrite : State → Nat → State
  | s, 0 => s
  | s, n + 1 =>
    match s.al.ring with
    | [] => s
    | r :: t =>
      let pos := s.al.flashed % 16777216
      let s := { s with al := { s.al with
        ring := t, flash := tset s.al.flash pos none (some r), flashed := s.al.flashed + 1 } }
      let s := if s.al.flashed % 16777216 = 0 then
          s.raise 233 [(8, ((tget s.al.flash 0 none).map (·.seq)).getD 0), (8, ((tget s.al.flash 0 none).map (·.seq)).getD 0),
            (4, s.al.flashed / 16777216)]
        else s
      s.jBacklog.journalWrite n

/-- A journal entry's 64-byte image (R250). -/
def JourRec.image (r : JourRec) : List Byte :=
  leBytes 8 r.seq ++ leBytes 8 r.time ++ leBytes 1 r.kind ++ leBytes 1 r.cls ++ leBytes 2 r.entry ++ leBytes 2 r.group ++
  leBytes 2 r.message ++ leBytes 4 r.value ++ leBytes 4 r.limit ++ leBytes 1 (r.ackKind * 16 + r.ackNum) ++
  leBytes 1 (b2n r.shelved) ++ leBytes 2 r.callCode ++ leBytes 4 r.session ++ leBytes 8 r.scan ++ leBytes 8 r.detail ++
  leBytes 8 r.seq

/-! ## Commands -/

/-- Does the command apply to the pair (R83)? -/
def alwaysPair : Req → State → Bool := fun _ _ => true

/-- An alarm command accepted in a pair waits for its release (R248). -/
def alAccept : Option (Req → Nat → State → Nat × State) :=
  some (fun r op s =>
    (0, s.alWaits r.code r.body (some op) r.session r.counter))

/-- The `n` numbers of 16 bits from offset `off` of a body. -/
def nums (b : List Byte) (off n : Nat) : List Nat := (List.range n).map (fun i => beAt b (off + 2 * i) 2)

/-- The entries an ALARM_ACK names (R235). -/
def State.ackEntries (s : State) (b : List Byte) : List Nat :=
  match beAt b 0 1 with
  | 0 => nums b 4 (beAt b 2 2)
  | 1 => (s.alEntries.filter (fun (_, e) => (nums b 4 (beAt b 2 2)).contains (alGroup e))).map Prod.fst
  | _ => s.alEntries.map Prod.fst

/-- ALARM_ACK (R235). -/
def alarmAckCmd : Cmd := { Cmd.plain 0x0060 (fun r s =>
    let (k, s) := s.alAck r.session.toNat (s.ackEntries r.body)
    okRep s (beBytes 4 k) k) with
  malformed := fun r _ =>
    if r.body.length < 4 ∨ r.body.length ≠ 4 + 2 * beAt r.body 2 2 ∨ beAt r.body 1 1 ≠ 0 then some noPos else none
  value := fun r _ =>
    let sc := beAt r.body 0 1
    let n := beAt r.body 2 2
    if 2 < sc ∨ (sc = 2 ∧ n ≠ 0) ∨ (sc < 2 ∧ (n = 0 ∨ 1024 < n)) then some (.range, noPos)
    else (firstIdx (fun x => decide ((if sc = 0 then 16383 else 511) < x)) (nums r.body 4 n)).map (fun k => (Status.range, k))
  pair := alwaysPair
  accept := alAccept
  apply := completing (fun b sid s =>
    let (k, s) := s.alAck sid.toNat (s.ackEntries b)
    (s, .ok, beBytes 4 k)) }

/-- The effect of an ALARM_SHELVE (R236). -/
def State.alShelveAll (s : State) (b : List Byte) (session : Nat) : State :=
  (nums b 8 (beAt b 2 2)).foldl (fun s n =>
    if beAt b 0 1 = 1 then s.alShelve session (beAt b 4 4) n else s.alUnshelve session n) s

/-- ALARM_SHELVE with Op 1 or 0 (R236). -/
def alarmShelveCmd : Cmd := { Cmd.plain 0x0061 (fun r s => okRep (s.alShelveAll r.body r.session.toNat)) with
  malformed := fun r _ =>
    if r.body.length < 8 ∨ r.body.length ≠ 8 + 2 * beAt r.body 2 2 ∨ beAt r.body 1 1 ≠ 0 then some noPos else none
  value := fun r s =>
    let op := beAt r.body 0 1
    let n := beAt r.body 2 2
    let d := beAt r.body 4 4
    if 1 < op ∨ n = 0 ∨ 1024 < n then some (.range, noPos)
    else
      let bad := fun x => x ≤ 16383 && !alOn (s.entry 0x0001 x)
      let long := fun x => 16383 < x || op == 1 && (d == 0 || decide (s.eff (0x0682 + 8 * alClass (s.entry 0x0001 x)) < d))
      let l := nums r.body 8 n
      (firstIdx (fun x => bad x || long x) l).map (fun k =>
        (if bad (l.getD k 0) then Status.badParameter else Status.range, k))
  pair := alwaysPair
  accept := alAccept
  apply := completing (fun b sid s => (s.alShelveAll b sid.toNat, .ok, [])) }

/-- LADDER_ACK outside M11, and its release of the call lines in M11 (R245). -/
def State.ladderAckCmd (s : State) (b : List Byte) (session : Nat) : State :=
  if s.mode = .m11 then (s.setSw 32 false).setSw 33 false
  else s.ladderAck 1 (beAt b 4 2) session

/-- LADDER_ACK (R245). -/
def ladderAckCmd : Cmd := { Cmd.plain 0x0062 (fun r s => okRep (s.ladderAckCmd r.body r.session.toNat)) with
  malformed := fun r _ => if r.body.length ≠ 8 ∨ beAt r.body 6 2 ≠ 0 then some noPos else none
  unready := fun r s =>
    let n := beAt r.body 0 4
    if s.mode ≠ .m11 ∧ (s.al.lad.state = 0 ∨ (n ≠ 0 ∧ n ≠ s.al.lad.run)) then some noPos else none
  pair := alwaysPair
  accept := alAccept
  apply := completing (fun b sid s => (s.ladderAckCmd b sid.toNat, .ok, [])) }

/-- JOURNAL_READ (R252). -/
def journalReadCmd : Cmd := { Cmd.plain 0x0063 (fun r s =>
    let from_ := beAt r.body 0 8
    let l := (s.journalAll.filter (fun x => decide (from_ ≤ x.seq))).take (beAt r.body 8 2)
    okRep s (beBytes 2 l.length ++ beBytes 2 (b2n (decide (from_ < s.journalOldest))) ++ beBytes 4 0 ++
      beBytes 8 s.journalOldest ++ (l.map JourRec.image).flatten)) with
  malformed := fun r _ => if r.body.length ≠ 12 ∨ beAt r.body 10 2 ≠ 0 then some noPos else none
  value := fun r _ => if beAt r.body 8 2 = 0 ∨ 63 < beAt r.body 8 2 then some (.range, noPos) else none }

/-- ALARM_ACK. -/
def execAlarmAck (dt : Nat) (p : Packet) (s : State) : Host.Outcome State Fault Refusal :=
  execMail alarmAckCmd (codeIs 0x0060) dt p s
/-- The datagram's command is `code`, and the first byte of its body satisfies `f`. -/
def codeOp (code : Nat) (f : Nat → Bool) (d : List Byte) : Bool := codeIs code d && f (beAt d 48 1)
/-- ALARM_SHELVE with Op 1 (or an Op it refuses). -/
def execAlarmShelve (dt : Nat) (p : Packet) (s : State) : Host.Outcome State Fault Refusal :=
  execMail alarmShelveCmd (codeOp 0x0061 (· != 0)) dt p s
/-- ALARM_SHELVE with Op 0. -/
def execAlarmUnshelve (dt : Nat) (p : Packet) (s : State) : Host.Outcome State Fault Refusal :=
  execMail alarmShelveCmd (codeOp 0x0061 (· == 0)) dt p s
/-- LADDER_ACK. -/
def execLadderAck (dt : Nat) (p : Packet) (s : State) : Host.Outcome State Fault Refusal :=
  execMail ladderAckCmd (codeIs 0x0062) dt p s
/-- JOURNAL_READ. -/
def execJournalRead (dt : Nat) (p : Packet) (s : State) : Host.Outcome State Fault Refusal :=
  execMail journalReadCmd (codeIs 0x0063) dt p s

/-- An acknowledgement message is good (R243). -/
def State.callAckGood (s : State) (p : Packet) : Bool :=
  let d := p.data
  (match tlook s.mbx.keys 1 with
    | some k => (hmac k (d.take 32)).take 16 == slice d 32 16
    | none => false) &&
  d.length == 48 && p.off == 0 && p.total == 48 && beAt d 0 4 == 0x4953434C && beAt d 4 1 == 2 &&
  beAt d 8 2 == s.eff 0x06A2 && beAt d 0x10 4 == s.al.lad.run && s.al.lad.state != 0

/-- CALL_ACK_MESSAGE (R243): outside a pair it acts at once; the leader of a pair applies it at a release (R248), and a follower
passes it on. -/
def execCallAckMessage (dt : Nat) (p : Packet) (s : State) : Host.Outcome State Fault Refusal :=
  let s := s.elapse dt
  if s.mode == .m0 then .next s
  else if !s.callAckGood p then .next { s with al := { s.al with ackRefused := s.al.ackRefused + 1 } }
  else
    let code := beAt p.data 6 2
    if s.mode = .m4 ∨ s.mode = .m5 then
      if s.alarmLeader then
        .next (s.alWaits 0xFFFF (beBytes 2 code) none 0 0)
      else .next (s.lane 0x0A [4, 0xFFFF, 0, 0, 0] (beBytes 2 code))
    else .next (s.ladderAck 2 code 0)

/-- JOURNAL_FLASH_WRITE: the engine has written `n` staged entries (R251). -/
def execJournalFlashWrite (dt n : Nat) (s : State) : Host.Outcome State Fault Refusal :=
  .next ((s.elapse dt).journalWrite (min n 65536))

end Sys2Proof.Machine
end

