-- ==== Sys2Proof/Machine/Loop.lean ====
section
/-!
DEFINITION. The loop engine: gathering, evaluation, selection, tracking and writing (R197–R210), injection (R211–R213) and capture
(R214–R216).
-/
namespace Sys2Proof.Machine

/-! ## Records -/

/-- The entry of a record under which an item runs (R197). -/
def State.entryFor (s : State) (it : LoopItem) (r : Nat) : Nat := (tlook it.old r).getD (s.loopEntry r)

/-- The value of an analogue point as binary64, by its declared type, and whether it is finite (R121, R198, R200). -/
def State.apReal (s : State) (p : Nat) : Nat × Bool :=
  match s.tk.prog.declOf false p with
  | some d => if d.real then (f32to64 (s.ap p), fisFin fmt32 (s.ap p)) else (ofInt fmt64 (toSigned 32 (s.ap p)), true)
  | none => (f32to64 (s.ap p), fisFin fmt32 (s.ap p))

/-- UNBOUND (R195, R196); with no program active nothing is bound to one. -/
def State.unbound (s : State) (r : Nat) : Bool := s.tk.active != 0xFF && (s.lrec r).unbound

/-- The members of an item under the version of the records it was queued with (R197, R206): the record, or the enabled members of its
group, ascending, without those that are UNBOUND. -/
def State.membersOf (s : State) (it : LoopItem) : List Nat :=
  let e := s.entryFor it it.record
  let all := (s.entries 0x0003).map Prod.fst ++ (it.old.map Prod.fst).filter (fun r => (tlook (s.entries 0x0003) r).isNone)
  let mates := if !bit e 19 then [it.record]
    else (all.filter (fun r =>
      let x := s.entryFor it r
      bit x 31 && bit x 19 && fld x 0x0A 0 8 == fld e 0x0A 0 8)).mergeSort (fun a b => decide (a ≤ b))
  mates.filter (fun r => bit (s.entryFor it r) 31 &&
    !(match tlook it.old r with | some x => s.bindFails x it.record | none => s.unbound r))

/-- A written record takes effect (R197): INIT_PENDING where Enable rises or Order changes; a queued item keeps the old version. UNBOUND
is judged anew for the record and for the group it is in (R196). -/
def State.loopWritten (s : State) (n old new : Nat) : State :=
  let s := { s with loop := { s.loop with queue := s.loop.queue.map (fun it =>
    if (tlook it.old n).isSome then it else { it with old := tput it.old n old }) } }
  let s := (n :: (s.itemMembers n).filter (· != n)).foldl State.bindLoop s
  if (bit new 31 && !bit old 31) || (bit new 30 != bit old 30) then s.modRec n (fun r => { r with init := true }) else s

/-- Every enabled record initialises on entry into a run mode from M3 (R199). -/
def State.loopsInit (s : State) : State :=
  (s.entries 0x0003).foldl (fun s (n, e) => if bit e 31 then s.modRec n (fun r => { r with init := true }) else s) s

/-- At a switch instant out of a run mode the queue is dropped (R201). -/
def State.loopsStop (s : State) : State := { s with loop := { s.loop with queue := [], early := [], borrow := [] } }

/-! ## Injection (R211–R213) -/

/-- One generator. -/
def State.injector (s : State) (g : Nat) : Inject := tget s.loop.inj g {}
/-- Change one generator. -/
def State.modInj (s : State) (g : Nat) (f : Inject → Inject) : State :=
  { s with loop := { s.loop with inj := tmod s.loop.inj g {} f } }
/-- Parameter `k` of generator `g` (R211). -/
def State.injPar (s : State) (g k : Nat) : Nat := s.eff (0x0540 + 16 * g + k)
/-- The record a generator names. -/
def State.injRec (s : State) (g : Nat) : Nat := bits (s.injPar g 0) 0 11

/-- A generator ends: Active and INJECTING are cleared (R212, R213). -/
def State.injStop (s : State) (g : Nat) : State :=
  if (s.injector g).active then
    let op := (s.injector g).op
    let s := s.modInj g (fun x => { x with active := false, begun := false, op := none })
    let s := s.modRec (s.injRec g) (fun r => { r with injecting := false })
    s.completeOpt op .superseded
  else s

/-- Every generator ends: at a role change and at an instant into a mode other than M4, M6 and M8 (R213). -/
def State.injStopAll (s : State) : State := [0, 1, 2, 3].foldl State.injStop s

/-- The next state of the PRBS register: x^15 + x^14 + 1 (R212). -/
def prbsNext (r : Nat) : Nat := (2 * r) % 32768 + b2n (bit r 14 != bit r 13)

/-- d of a swept (2) or fixed (3) sine at τ ns, as R212 writes it, in binary64 from left to right; the trigonometric and exponential
functions are free values (log 10). -/
def sineD (kind a f0 f1 ms tau : Nat) : Nat :=
  let mul := fmul fmt64
  let twoPi := mul (f64 2 1) Config.pi
  let secs := fdiv fmt64 (ofInt fmt64 (tau : Int)) (f64 1000000000 1)
  if kind = 3 then mul a (Config.sin (mul (mul twoPi f0) secs))
  else
    let d := fdiv fmt64 (ofInt fmt64 (ms : Int)) (f64 1000 1)
    let r := fdiv fmt64 f1 f0
    let grow := fsub fmt64 (Config.pow r (fdiv fmt64 secs d)) (f64 1 1)
    mul a (Config.sin (fdiv fmt64 (mul (mul (mul twoPi f0) d) grow) (Config.ln r)))

/-- d of a generator at trigger instant `t` (R212), and the state; none where it is not active on the record or has reached its
end. -/
def State.inject (s : State) (r t : Nat) : Option (Nat × Nat) × State :=
  match [0, 1, 2, 3].find? (fun g => (s.injector g).active && s.injRec g == r) with
  | none => (none, s)
  | some g =>
    let x := s.injector g
    let start := if x.begun then x.start else t
    let tau := t - start
    if s.injPar g 4 * 1000000 ≤ tau then (none, s.injStop g)
    else
      let a := f32to64 (s.injPar g 1)
      let kind := bits (s.injPar g 0) 29 2
      let reg := if x.begun then x.prbs else s.injPar g 6
      let d := match kind with
        | 0 => a
        | 1 => if bit reg 14 then a else fneg fmt64 a
        | _ => sineD kind a (f32to64 (s.injPar g 2)) (f32to64 (s.injPar g 3)) (s.injPar g 4) tau
      let hold := (if x.begun then x.hold else 0) + 1
      let adv := decide (s.injPar g 5 ≤ hold)
      let s := s.modInj g (fun x => { x with
        begun := true, start := start, value := f64to32 d, op := none
        prbs := if adv then prbsNext reg else reg, hold := if adv then 0 else hold })
      let s := s.modRec r (fun y => { y with injecting := true })
      (some (g, d), if x.begun then s else s.completeOpt x.op .ok (beBytes 8 start))

/-- d is added at the output (R211 At). -/
def State.injOut (s : State) (x : LoopIn) : Bool :=
  match x.inj with | some (g, _) => bit (s.injPar g 0) 28 | none => false
/-- d of a member, 0.0 with no injection. -/
def injD (x : LoopIn) : Nat := match x.inj with | some (_, d) => d | none => 0

/-! ## Gathering (R198, R200, R207) -/

/-- The tracking value of a record whose target is an AO stage (R207). -/
def State.tracking (s : State) (e : Nat) : Option Nat :=
  let n := fld e 8 0 16
  let c := s.aoChan n
  if bit e 21 && (c.compliance || c.thermal) && !c.open_ && s.aoShare n != 0 then
    some (fdiv fmt64 (fmul fmt64 (f32to64 c.readback) (f64 100 1)) (ofInt fmt64 (s.aoShare n)))
  else none

/-- The input values of a member are valid and not STALE (R200). -/
def inputsOk (x : LoopIn) : Bool := x.valid && x.spValid && !x.stale

/-- The inputs of a member, read now (R198, R200). The generator of a held member does not advance; its d counts in R206. -/
def State.gather (s : State) (it : LoopItem) (r : Nat) : LoopIn × State :=
  let e := s.entryFor it r
  let (m, mok, old, s) :=
    if bit e 22 then
      let (x, s) := s.readDirect (32 + r) (fld e 4 8 8) (fld e 4 0 8)
      (f32to64 x.value, bit x.flags 15 && x.flags &&& 0x0E00 == 0, bit x.flags 14, s)
    else
      let (v, ok) := s.apReal (fld e 4 0 16)
      (v, ok, false, s)
  let (sp, sok) := if fld e 6 0 16 = 0xFFFF then (f32to64 (fld e 0x0C 0 32), true) else s.apReal (fld e 6 0 16)
  let (inj, s) :=
    if mok && sok && !old then s.inject r it.time
    else if [0, 1, 2, 3].any (fun g => (s.injector g).active && (s.injector g).begun && s.injRec g == r) then
      ((s.inject r it.time).1, s)
    else (none, s)
  (⟨r, m, sp, mok, inj, s.tracking e, sok, old⟩, s)

/-! ## Evaluation (R198) -/

/-- An evaluated member: its states, its clamped output, and what a capture stores of it. -/
structure LoopEval where
  record : Nat
  st : LoopRec
  out : Nat
  dOut : Nat
  track : Option Nat
  m : Nat
  sp : Nat
  e : Nat
  d : Nat
  gen : Option Nat
deriving DecidableEq, Repr

/-- The compensator of R198 on gathered inputs; `present` is the present command of the target. None where uc is NaN. -/
def evalRec (en present : Nat) (r : LoopRec) (x : LoopIn) (atOut : Bool) : Option LoopEval :=
  let co := fun off => f32to64 (fld en off 0 32)
  let mul := fmul fmt64
  let m := fadd fmt64 (mul (co 0x34) x.meas) (co 0x38)
  let sp := if atOut then x.sp else (if x.inj.isSome then fadd fmt64 x.sp (injD x) else x.sp)
  let dOut := if atOut then (injD x) else 0
  let e := if bit en 20 then fsub fmt64 m sp else fsub fmt64 sp m
  let u0 := fsub fmt64 present dOut
  let r := if r.init then { r with e1 := e, e2 := e, e3 := e, u1 := u0, u2 := u0, u3 := u0, init := false } else r
  let third := bit en 30
  let uc := fadd fmt64 (fadd fmt64 (mul (co 0x10) e) (mul (co 0x14) r.e1)) (mul (co 0x18) r.e2)
  let uc := fadd fmt64 uc (if third then mul (co 0x1C) r.e3 else 0)
  let uc := fsub fmt64 (fsub fmt64 uc (mul (co 0x20) r.u1)) (mul (co 0x24) r.u2)
  let uc := fsub fmt64 uc (if third then mul (co 0x28) r.u3 else 0)
  if fisNan fmt64 uc then none
  else
    let raw := fadd fmt64 uc dOut
    let out := fmin fmt64 (fmax fmt64 raw (co 0x2C)) (co 0x30)
    some {
      record := x.record, out := out, dOut := dOut, track := x.track, m := m, sp := sp, e := e, d := (injD x),
      gen := x.inj.map Prod.fst,
      st := { r with
        e3 := r.e2, e2 := r.e1, e1 := e, u3 := r.u2, u2 := r.u1, u1 := fsub fmt64 out dOut,
        invalid := false, faulted := false, tracking := x.track.isSome, injecting := x.inj.isSome,
        limHigh := flt fmt64 (co 0x30) raw, limLow := flt fmt64 raw (co 0x2C) } }

/-- The present command of a record's target (R199). A STANDBY takes its own: the agreement frame of R208 carries none, and both modules
write the same commands (DEDUCED, log 159). -/
def State.present (s : State) (e : Nat) : Nat :=
  if bit e 21 then f32to64 (s.aoCommand (fld e 8 0 16)) else (s.apReal (fld e 8 0 16)).1

/-- A mismatch of the two evaluators (R204): EV064 names the loop engine as unit 11. -/
def State.loopMismatch (s : State) : State :=
  let s := { s with
    loop := { s.loop with mismatches := s.loop.mismatches + 1 }
    annex := { s.annex with loopMis := s.annex.loopMis ++ [s.ident.opSeconds] } }
  (s.raiseMand 64 [(1, 11), (1, 0), (1, 0), (1, 0xFF), (4, 0)]).engineLimit 52

/-- A record goes FAULTED (R204): it holds its output; the module's own checks are flagged, and a PRIMARY with a synchronised partner
asks to borrow (R272). -/
def State.recFaulted (s : State) (r : Nat) : State :=
  let s := s.modRec r (fun x => { x with faulted := true, invalid := false, tracking := false })
  let s := { s with loop := { s.loop with faulteds := s.loop.faulteds + 1 } }
  let s := if s.role == .primary && s.pair.sync then
      ({ s with loop := { s.loop with borrow := s.loop.borrow ++ [(s.loop.lsn.toNat, r, s.tick)] } }).lane 0x04 [1, s.loop.lsn.toNat, r]
    else s
  s.raiseFlag 0

/-- A member of an item is evaluated (R198, R200, R204); `tries` failing release checks come first. -/
def State.evalMember (s : State) (it : LoopItem) (x : LoopIn) (tries : Nat) : Option LoopEval × State :=
  if !inputsOk x then
    let s := s.modRec x.record (fun r => { r with invalid := true })
    (none, { s with loop := { s.loop with invalids := s.loop.invalids + 1 } })
  else
    let s := if 1 ≤ tries then s.loopMismatch else s
    let s := if 2 ≤ tries then s.loopMismatch else s
    if 2 ≤ tries then (none, s.recFaulted x.record)
    else
      let en := s.entryFor it x.record
      match evalRec en (s.present en) (s.lrec x.record) x (s.injOut x) with
      | none =>
        let s := s.modRec x.record (fun r => { r with init := true, invalid := false, tracking := false })
        (none, { s with loop := { s.loop with numerics := s.loop.numerics + 1 } })
      | some v => (some v, s)

/-- The lowest clamped output; of equal ones the lower record number (R206). -/
def lowest : List LoopEval → Option LoopEval
  | [] => none
  | v :: t =>
    match lowest t with
    | none => some v
    | some w => if flt fmt64 w.out v.out then some w else some v

/-- The six states of a record, for the signature and the answers (R209, R260). -/
def recSix (r : LoopRec) : List Nat := [r.e1, r.e2, r.e3, r.u1, r.u2, r.u3]

/-- What the copy set carries of a record (R209, R275): its states, LastOutput and INIT_PENDING. -/
def recFields (r : LoopRec) : List Nat := recSix r ++ [r.out, b2n r.init]

/-- The loop part of the copy set: every record, then the LSN and the signature folded so far (R209, R275). -/
def State.sendLoops (s : State) : State :=
  let s := s.loop.rec_.foldl (fun s (r, x) => s.lane 0x09 ([0xA8, r] ++ recFields x)) s
  s.lane 0x09 [0xA9, s.loop.lsn.toNat, s.loop.fold.toNat]

/-- The STANDBY's loop states differ from the PRIMARY's (R209, R270, R297): it asks for them. -/
def State.loopsBehind (s : State) : State :=
  ({ s with loop := { s.loop with behind := true } }).lane 0x09 [0xB0, 0]

/-- The selected output is written to the target (R198): an AO stage whose commands come from the engine, or an AP. -/
def State.loopWrite (s : State) (en v32 : Nat) : State :=
  let t := fld en 8 0 16
  if bit en 21 then (if s.aoOn t && s.aoByLoop t then s.setAoCmd t v32 else s)
  else s.produceAp t v32 s.now

/-! ## Capture (R214–R216) -/

/-- One capture. -/
def State.capture (s : State) (c : Nat) : Capture := tget s.loop.cap c {}
/-- Change one capture. -/
def State.modCap (s : State) (c : Nat) (f : Capture → Capture) : State :=
  { s with loop := { s.loop with cap := tmod s.loop.cap c {} f } }

/-- A capture sees a released evaluation (R215). -/
def State.capStore (s : State) (c : Nat) (v : LoopEval) (v32 t : Nat) : State :=
  let k := s.capture c
  let ctl := s.eff (0x0500 + 16 * c)
  if !k.armed || bits ctl 0 11 != v.record then s
  else
    let begun := k.begun || !bit ctl 26 || v.gen == some (bits ctl 24 2)
    if !begun then s
    else if 0 < k.skip then s.modCap c (fun k => { k with skip := k.skip - 1 })
    else
      let start := if k.count = 0 then t else k.start
      let out := f32to64 v32
      let pair := match bits ctl 27 3 with
        | 0 => (v.m, out) | 1 => (v.sp, v.m) | 2 => (v.e, out) | 3 => (v.d, out)
        | _ => (ofInt fmt64 (t - start : Nat), out)
      let len := s.eff (0x0501 + 16 * c)
      let done := decide (len ≤ k.count + 1)
      let s := s.modCap c (fun k => { k with
        begun := true, skip := s.eff (0x0502 + 16 * c) - 1, start := start, count := k.count + 1,
        samples := tset k.samples k.count (0, 0) pair, armed := !done, full := done, op := if done then none else k.op })
      if done then s.completeOpt k.op .ok (beBytes 4 (k.count + 1) ++ beBytes 4 0 ++ beBytes 8 start) else s

/-! ## Items (R203, R206–R210) -/

/-- The evaluated members of an item are released (R204, R206, R207): one write, the states of every member, and what the
signature, the counters and the captures take of them. -/
def State.releaseItem (s : State) (it : LoopItem) (xs : List LoopIn) (vs : List LoopEval) : State :=
  match lowest vs with
  | none => s
  | some w =>
    let en := s.entryFor it w.record
    let group := bit en 19
    let v32 := f64to32 w.out
    let echo := s.role == .standby && s.pair.resync
    let s := if echo then s else s.loopWrite en v32
    let base := w.track.getD w.out
    -- SELECTED is the winner's alone; held members of a group take the delivered output in U1 only
    let mates := (s.entries 0x0003).filterMap (fun (r, _) =>
      let e := s.entryFor it r
      if bit e 19 && fld e 0x0A 0 8 == fld en 0x0A 0 8 then some r else none)
    let s := if !group then s else mates.foldl (fun s r => s.modRec r (fun x => { x with selected := false })) s
    let s := if !group then s else xs.foldl (fun s x =>
      if inputsOk x then s
      else s.modRec x.record (fun r => { r with u1 := fsub fmt64 base (if s.injOut x then (injD x) else 0) })) s
    let s := vs.foldl (fun s v =>
      let win := v.record == w.record
      s.modRec v.record (fun r =>
        { v.st with
          u1 := if group || v.track.isSome then fsub fmt64 (if group then base else v.track.getD v.out) v.dOut else v.st.u1
          out := if win then v32 else r.out, outTime := if win then s.now else r.outTime
          count := satInc 32 r.count, selected := group && win })) s
    let s := vs.foldl (fun s v =>
      let fold := Config.loopFold s.loop.fold v.record v32 (recSix (s.lrec v.record))
      { s with loop := { s.loop with
        evals := s.loop.evals + 1, fold := fold
        trackings := if v.track.isSome then s.loop.trackings + 1 else s.loop.trackings } }) s
    let s := { s with loop := { s.loop with
      released := s.loop.lsn, maxLatency := max s.loop.maxLatency (min (2 ^ 32 - 1) ((s.tick - it.tick) * 8)) } }
    let s := vs.foldl (fun s v => [0, 1, 2, 3].foldl (fun s c => s.capStore c v v32 it.time) s) s
    -- while a partner takes the copy, changed states follow it (R209, R275)
    let s := match s.pair.copy with
      | some c => if c.taking then s
        else vs.foldl (fun s v => s.lane 0x09 ([0xA8, v.record] ++ recFields (s.lrec v.record))) s
      | none => s
    -- the PRIMARY echoes each released evaluation while its partner resynchronises (R271)
    if s.role == .primary && bit s.pair.partner.pairState 25 then
      vs.foldl (fun s v => s.lane 0x05 ([0, s.loop.lsn.toNat, v.record, v32] ++ (recSix (s.lrec v.record)))) s
    else s

/-- The signature is exchanged after each LSN that is a multiple of 4,096 (R209). -/
def State.exchangeLoop (s : State) : State :=
  if s.loop.lsn.toNat % 4096 = 0 then
    let sig := s.loop.fold
    let s := { s with loop := { s.loop with signature := sig, fold := 0, exchanged := s.loop.lsn } }
    if s.awaitsPartner then s.lane 0x05 [1, s.loop.lsn.toNat, sig.toNat] else s
  else s

/-- The number of failing release checks of a record in this item (R204). -/
def loopTries (mis : List (Nat × Nat)) (r : Nat) : Nat := ((mis.find? (·.1 == r)).map Prod.snd).getD 0

/-- The members evaluated on given inputs, in ascending record number (R206). -/
def State.evalItem (s : State) (it : LoopItem) (xs : List LoopIn) (mis : List (Nat × Nat)) : State :=
  let (vs, s) := xs.foldl (fun (vs, s) x =>
    match State.evalMember s it x (loopTries mis x.record) with
    | (some v, s) => (vs ++ [v], s)
    | (none, s) => (vs, s)) (([] : List LoopEval), s)
  (s.releaseItem it xs vs).exchangeLoop

/-- The item at the front of the queue runs (R203): on a PRIMARY its inputs go out as a loop agreement frame first (R208). -/
def State.runItem (s : State) (it : LoopItem) (mis : List (Nat × Nat)) : State :=
  let s := { s with loop := { s.loop with queue := s.loop.queue.drop 1, lsn := s.loop.lsn + 1 } }
  let (xs, s) := (s.membersOf it).foldl (fun (xs, s) r =>
    let (x, s) := State.gather s it r
    (xs ++ [x], s)) (([] : List LoopIn), s)
  let s := if s.role == .primary && s.laneUp then
      s.lane 0x04 ([0, s.loop.lsn.toNat, it.time] ++ (xs.map (fun x =>
        [x.record, x.meas, x.sp, b2n x.valid + 2 * b2n x.spValid + 4 * b2n x.stale, b2n x.inj.isSome, (x.inj.map Prod.fst).getD 0, (injD x), b2n x.track.isSome,
          x.track.getD 0])).flatten)
    else s
  s.evalItem it xs mis

/-- LOOP_EVALUATION: the item at the front of the queue is `r` and starts (R201, R203, R204); `mis` gives the failing release checks
by record. -/
def execLoopEvaluation (dt r : Nat) (mis : List (Nat × Nat)) (s : State) : Host.Outcome State Fault Refusal :=
  let s := s.elapse dt
  if 2048 ≤ r then .next s
  else
    match s.loop.queue with
    | [] => .next s
    | it :: _ =>
      if it.record ≠ r ∨ s.role = .standby then .next s
      else if !s.loopsRun then .next { s with loop := { s.loop with queue := s.loop.queue.drop 1 } }
      else .next (s.runItem it mis)

/-- LOOP_TRIGGER: catalogue action 7, or a task's store to the trigger port, names a record (R202, R292). -/
def execLoopTrigger (dt r : Nat) (s : State) : Host.Outcome State Fault Refusal :=
  let s := s.elapse dt
  atRes r 2048 s (s.loopTrigger r 1 s.now)

/-- LOOP_SIGNATURE_EXCHANGE: the partner's signature for the last exchange (R209, R270). -/
def execLoopSignatureExchange (dt : Nat) (sig : U64) (s : State) : Host.Outcome State Fault Refusal :=
  let s := s.elapse dt
  if s.role = .standby ∧ sig ≠ s.loop.signature ∧ s.pair.sync ∧ !s.pair.resync then
    .next (s.diverge 5 0xFF s.loop.exchanged.toNat).loopsBehind
  else .next s

/-- LOOP_BORROW_TIMEOUT: no answer within 20 µs (R272): each request that is so old is given up. -/
def execLoopBorrowTimeout (dt : Nat) (s : State) : Host.Outcome State Fault Refusal :=
  let s := s.elapse dt
  .next { s with loop := { s.loop with borrow := s.loop.borrow.filter (fun (_, _, t) => !s.since t (20 * Config.ticksPerUs)) } }

/-- INJECTION_END: τ has reached D (R212). -/
def execInjectionEnd (dt g : Nat) (s : State) : Host.Outcome State Fault Refusal :=
  let s := s.elapse dt
  let x := s.injector g
  atRes g 4 s (if x.active && x.begun && decide (x.start + s.injPar g 4 * 1000000 ≤ s.now) then s.injStop g else s)

/-- The STANDBY's part of a loop agreement frame (R208, R272): it evaluates the item on the values the frame carries; a frame that
names the LSN it has evaluated last is a borrow request, which it answers; an earlier LSN is not evaluated again. -/
def State.loopFrame (s : State) (lsn time : Nat) (members : List LoopIn) (mis : List (Nat × Nat)) : State :=
  if s.role ≠ .standby ∨ !s.loopsRun then s
  else if lsn = s.loop.lsn.toNat then
    members.foldl (fun (s : State) x =>
      let r := s.lrec x.record
      s.lane 0x05 ([0, lsn, x.record, r.out] ++ recSix r)) s
  else if 2 ^ 31 ≤ (lsn + 2 ^ 32 - s.loop.lsn.toNat) % 2 ^ 32 then s
  else
    let k := match members.head? with | some x => s.itemOf x.record | none => 0
    let queued := s.loop.queue.find? (·.record == k)
    let it : LoopItem := queued.getD ⟨k, s.tick, time, []⟩
    let s := { s with loop := { s.loop with
      agreedItems := s.loop.agreedItems + 1, lsn := BitVec.ofNat 32 lsn, queue := s.loop.queue.filter (·.record != k),
      early := if queued.isSome then s.loop.early else s.loop.early ++ [k] } }
    s.evalItem { it with tick := s.tick - (s.now - time) / 8, time := time } members mis

/-- What a loop answer frame does (R260, R271, R272): the PRIMARY takes a borrowed result; a resynchronising STANDBY writes the
PRIMARY's values in place of its own. -/
def State.loopAnswer (s : State) (lsn r v : Nat) (six : List Nat) : State :=
  let en := s.loopEntry r
  if s.role = .primary then
    if !s.loop.borrow.any (fun (l, k, _) => l == lsn && k == r) then s
    else
      let s := { s with loop := { s.loop with borrow := s.loop.borrow.filter (fun (l, k, _) => !(l == lsn && k == r)) } }
      let s := s.modRec r (fun x => { x with
        e1 := six.getD 0 0, e2 := six.getD 1 0, e3 := six.getD 2 0, u1 := six.getD 3 0, u2 := six.getD 4 0, u3 := six.getD 5 0,
        out := v, outTime := s.now })
      s.loopWrite en v
  else if s.role = .standby ∧ s.pair.resync then s.loopWrite en v
  else s

/-! ## Commands (R213, R216) -/

/-- LOOP_INJECT takes effect (R213). -/
def injectRun (op : Option Nat) (b : List Byte) (_ : U32) (s : State) : State :=
  let g := beAt b 0 1
  if beAt b 1 1 = 0 then (s.injStop g).completeOpt op .ok
  else
    let r := s.injRec g
    let other := [0, 1, 2, 3].any (fun h => h != g && (s.injector h).active && s.injRec h == r)
    if !bit (s.loopCtl r) 31 || other then s.completeOpt op .badParameter
    else s.modInj g (fun _ => { active := true, op := op })

/-- LOOP_INJECT (R213). -/
def loopInjectCmd : Cmd := { Cmd.plain 0x0073 (fun r s => runAsync injectRun r s) with
  malformed := fun r _ => if r.body.length ≠ 4 ∨ beAt r.body 2 2 ≠ 0 then some noPos else none
  value := fun r _ => if 3 < beAt r.body 0 1 ∨ 1 < beAt r.body 1 1 then some (.range, noPos) else none
  busy := fun r s => beAt r.body 1 1 == 1 && (s.injector (beAt r.body 0 1)).active
  async := fun _ _ => true }

/-- LOOP_CAPTURE takes effect (R216). -/
def captureRun (op : Option Nat) (b : List Byte) (_ : U32) (s : State) : State :=
  let c := beAt b 0 1
  let k := s.capture c
  match beAt b 1 1 with
  | 0 => s.modCap c (fun _ => { armed := true, op := op })
  | 1 =>
    let s := (s.modCap c (fun k => { k with armed := false, op := none })).completeOpt k.op .superseded
    s.completeOpt op .ok
  | _ =>
    let n := beAt b 2 2
    let first := beAt b 4 4
    if k.count < first + n then s.completeOpt op .range
    else s.completeOpt op .ok (beBytes 1 c ++ beBytes 1 (b2n k.full + 2 * b2n k.armed) ++ beBytes 2 n ++ beBytes 4 first ++
      ((List.range n).map (fun i =>
        let (x, y) := tget k.samples (first + i) (0, 0)
        leBytes 8 x ++ leBytes 8 y)).flatten)

/-- LOOP_CAPTURE (R216). -/
def loopCaptureCmd : Cmd := { Cmd.plain 0x0074 (fun r s => runAsync captureRun r s) with
  malformed := fun r _ =>
    if r.body.length ≠ 8 ∨ (beAt r.body 1 1 < 2 ∧ (beAt r.body 2 2 ≠ 0 ∨ beAt r.body 4 4 ≠ 0)) then some noPos else none
  value := fun r _ =>
    let n := beAt r.body 2 2
    if 3 < beAt r.body 0 1 ∨ 2 < beAt r.body 1 1 ∨ (beAt r.body 1 1 = 2 ∧ (n = 0 ∨ 254 < n)) then some (.range, noPos) else none
  busy := fun r s => beAt r.body 1 1 == 0 && (s.capture (beAt r.body 0 1)).armed
  async := fun _ _ => true }

/-- The Op of LOOP_INJECT or LOOP_CAPTURE, at byte 1 of the body. -/
def loopOp (code : Nat) (f : Nat → Bool) (d : List Byte) : Bool := codeIs code d && f (beAt d 49 1)

/-- LOOP_INJECT with Op 1 (or one it refuses). -/
def execLoopInjectStart (dt : Nat) (p : Packet) (s : State) : Host.Outcome State Fault Refusal :=
  execMail loopInjectCmd (loopOp 0x0073 (· != 0)) dt p s
/-- LOOP_INJECT with Op 0. -/
def execLoopInjectStop (dt : Nat) (p : Packet) (s : State) : Host.Outcome State Fault Refusal :=
  execMail loopInjectCmd (loopOp 0x0073 (· == 0)) dt p s
/-- LOOP_CAPTURE with Op 0. -/
def execLoopCaptureArm (dt : Nat) (p : Packet) (s : State) : Host.Outcome State Fault Refusal :=
  execMail loopCaptureCmd (loopOp 0x0074 (· == 0)) dt p s
/-- LOOP_CAPTURE with Op 1. -/
def execLoopCaptureCancel (dt : Nat) (p : Packet) (s : State) : Host.Outcome State Fault Refusal :=
  execMail loopCaptureCmd (loopOp 0x0074 (· == 1)) dt p s
/-- LOOP_CAPTURE with Op 2 (or one it refuses). -/
def execLoopCaptureRead (dt : Nat) (p : Packet) (s : State) : Host.Outcome State Fault Refusal :=
  execMail loopCaptureCmd (loopOp 0x0074 (fun o => decide (2 ≤ o))) dt p s

end Sys2Proof.Machine
end

