-- ==== Sys2Proof/Machine/Protect.lean ====
section
/-!
DEFINITION. Regions and colours of memory accesses and what a refusal does (R331–R345), budgets and the arbiter (R347–R351), the
swap of the I/O bus slot table (R352–R354), and the debugger's actions (R305–R309).
-/
namespace Sys2Proof.Machine

/-! ## Regions -/

/-- WorkBase and WorkLimit (R355). -/
abbrev workBase : Nat := 0x00056600
abbrev workLimit : Nat := 0x001FFFFF

/-- Fields of a region entry (R333). -/
def regBase (e : Nat) : Nat := fld e 0 0 32
def regLimit (e : Nat) : Nat := fld e 4 0 32
def regValid (e : Nat) : Bool := bit (fld e 8 0 32) 31
def regSealed (e : Nat) : Bool := bit (fld e 8 0 32) 30
def regColour (e : Nat) : Nat := bits (fld e 8 0 32) 20 4
def regBuffered (e : Nat) : Bool := bit (fld e 8 0 32) 26
/-- The entry permits a read, a write or an execution (kinds 0, 1, 2). -/
def regPermits (e kind : Nat) : Bool := bit (fld e 8 0 32) (29 - min kind 2)
/-- A valid entry covers granule `g`. -/
def regCovers (e g : Nat) : Bool := regValid e && decide (regBase e ≤ g ∧ g ≤ regLimit e)

/-- Region units, tags and keys are loaded from the committed image (R335, R346); FaultCount restarts. -/
def State.loadRegions (s : State) : State :=
  { s with prot := { s.prot with
    regions := s.entries 0x0005
    keys := ((List.range 16).map (fun c => (c, s.eff (0x0800 + 4 * c)))).filter (fun (_, k) => k != 0)
    faults := [] } }

/-- The loaded regions of a context that cover a granule. -/
def State.regionsAt (s : State) (ctx g : Nat) : List (Nat × Nat) :=
  s.prot.regions.filter (fun (k, e) => k / 64 == ctx && regCovers e g)

/-- The default map of a privileged context permits the access (R336). -/
def defaultMap (ctx : Nat) (a : Area) (kind : Nat) : Bool :=
  match ctx with
  | 16 => true
  | 17 => kind != 2 && (a == .tables || a == .capture)
  | 18 => kind != 2 && a == .tables
  | 19 => kind != 2 && (a == .retained || a == .slices || a == .ownState || a == .tables || a == .working || a == .laneBuffers)
  | 20 => kind == 1 && a == .converter
  | 21 => kind != 2 && a == .archiveStaging
  | 22 => kind != 2 && a == .networkBuffers
  | 23 => kind != 2 &&
      !(a == .firmware || a == .laneBuffers || a == .archiveStaging || a == .networkBuffers)
  | _ => false

/-- The fixed map of a task permits the access (R336); none where it does not match. -/
def fixedMap (a : Area) (kind : Nat) : Option Bool :=
  match a with
  | .ownCode => some (kind != 1)
  | .ownConst => some (kind == 0)
  | .ownState => some (kind != 2)
  | _ => none

/-- The outcome of the region check of one granule (R336, R339): permitted; no match; the matching entry forbids it; or several
match. The region that matched, if one did. -/
inductive RegCheck where
  | ok (region : Option Nat)
  | noMatch
  | denied (region : Option Nat)
  | overlap
deriving DecidableEq, Repr

/-- The region check of granule `g` of an access (R336). -/
def State.regCheck (s : State) (a : Access) (g : Nat) : RegCheck :=
  let work := decide (workBase ≤ g ∧ g ≤ workLimit)
  let rs := if work then s.regionsAt a.ctx g else []
  match rs with
  | _ :: _ :: _ => .overlap
  | [(k, e)] =>
    if a.ctx < 16 ∧ !work ∧ (fixedMap a.area a.kind).isSome then .overlap
    else if regPermits e a.kind then .ok (some k) else .denied (some k)
  | [] =>
    if a.ctx < 16 then
      match (if work then none else fixedMap a.area a.kind) with
      | some true => .ok none
      | some false => .denied none
      | none => .noMatch
    else if defaultMap a.ctx (if work then .working else a.area) a.kind then .ok none else .noMatch

/-- The granules an access touches (R338). -/
def accGranules (a : Access) : List Nat :=
  let f := a.addr / 4096
  let l := (a.addr + (a.len - 1)) / 4096
  (List.range (l + 1 - f)).map (f + ·)

/-! ## Colours -/

/-- The tag of a granule (R340); none for the areas to which the spec gives no colour. -/
def State.tagOf (s : State) (a : Access) (g : Nat) : Option Nat :=
  if workBase ≤ g ∧ g ≤ workLimit then
    some (((s.prot.regions.find? (fun (_, e) => regCovers e g)).map (fun (_, e) => regColour e)).getD 0)
  else match a.area with
    | .ownCode | .ownConst | .code | .retained => none
    | .ownState | .slices => some (s.eff (0x0801 + 4 * (s.decl a.task).ctx))
    | _ => some 0

/-- The keys of a requester's context (R341, R343). -/
def State.keysOf (s : State) (a : Access) : Nat :=
  if a.ctx < 16 then (if s.unverified a.task then setBits (s.ctxKeys a.ctx) 14 1 0 else s.ctxKeys a.ctx)
  else if a.ctx = 16 ∨ a.ctx = 19 then 0x7FFF
  else if a.ctx = 23 then 0xFFFF
  else 1

/-- The first granule of an access whose tag the keys do not admit, with the tag (R342). -/
def State.colourRefused (s : State) (a : Access) : Option (Nat × Nat) :=
  ((accGranules a).filterMap (fun g => match s.tagOf a g with
    | some t => if bit (s.keysOf a) t then none else some (g, t)
    | none => none)).head?

/-! ## Refusals -/

/-- On the STANDBY, loop and alarm agreement frames in a void range lead to the resynchronisations of R209 and R249 (R297). -/
def State.voidEngines (s : State) (first count : Nat) : State :=
  if s.role ≠ .standby then s
  else
    let s := if seqIn first count s.loop.frameSeq then s.loopsBehind else s
    if seqIn first count s.al.frameSeq then s.alBehind else s

/-- A signature mismatch of RQ13, RQ14 or RQ15 (R297): its window is discarded, voided or rebuilt. `first` is the window's first
SyncSeq or record sequence. -/
def State.sigMismatch (s : State) (u count first : Nat) : State :=
  let s := s.raiseMand 69 [(1, u), (4, count), (8, first)]
  if u = 13 then
    ((s.announce 5 [first, count]).voidFrames first count).voidEngines first count
  else if u = 14 then
    (List.range 8).foldl (fun s c => s.modConv c (fun k => { k with window := [] })) s
  else
    let from_ := (tget s.lk.window 15 {}).firstSeq
    { s with arch := { s.arch with
      rebuilds := wrapInc 32 s.arch.rebuilds
      stage := s.arch.stage.map (fun r => if from_ ≤ r.seq then { r with flags := r.flags ||| rebuiltFlag } else r) } }

/-- What a refusal does to its requester (R337). For RQ11 and RQ12 the access names the record or entry in `task`, for RQ16 the
LAN. -/
def State.refuseAccess (s : State) (a : Access) : State :=
  if a.ctx < 16 then s.taskFault a.task 1 a.iaddr
  else match a.rq with
    | 10 => s.curatorRestart 2
    | 11 =>
      let s := ((s.loopMismatch).loopMismatch).recFaulted a.task
      { s with loop := { s.loop with queue := s.loop.queue.filter (fun q => q.record != s.itemOf a.task) } }
    | 12 =>
      let (_, s) := s.alMismatch [(a.task, 1)] a.task
      let (_, s) := s.alMismatch [(a.task, 2)] a.task
      (s.modAl a.task (fun t => { t with faulted := true })).raiseFlag 1
    | 13 =>
      let first := (tget s.lk.window 13 {}).firstSeq
      s.sigMismatch 13 (s.pair.seqOut.toNat - first) first
    | 14 => s.sigMismatch 14 0 0
    | 15 =>
      let first := (tget s.lk.window 15 {}).firstSeq
      s.sigMismatch 15 (s.arch.next - first) first
    | 16 =>
      if a.kind = 1 then { s with net := { s.net with dmaLost := tmod s.net.dmaLost (a.task % 2) 0 (· + 1) } } else s
    | _ => s

/-- EV096 of a refused access: for task code, and for the Curator with its Archive record (R337, R356). -/
def State.regionEvent (s : State) (a : Access) (kind : Nat) : State :=
  let d := [(1, a.rq), (1, a.ctx), (5, a.addr), (8, if a.ctx < 16 then a.iaddr else 0), (1, kind)]
  if a.ctx < 16 then s.raise 96 d
  else if a.rq = 10 then s.raiseMand 96 d
  else s

/-- An access is refused by the region check (R337, R338): counted per context and per region that matched. -/
def State.regionRefused (s : State) (a : Access) : State :=
  let cs := (accGranules a).map (s.regCheck a)
  let bad := cs.filter (fun c => match c with | .ok _ => false | _ => true)
  match bad with
  | [] => s
  | c :: _ =>
    if bad.contains .overlap then s
    else
      let kind := match c with | .denied _ => 2 | _ => 1
      let s := { s with prot := { s.prot with
        ctxRegion := tmod s.prot.ctxRegion a.ctx 0 (satInc 16)
        faults := match c with
          | .denied (some k) => tmod s.prot.faults k 0 (satInc 32)
          | _ => s.prot.faults } }
      let s := if bad.length < cs.length then s.raise 98 [(1, a.rq), (8, a.addr), (4, a.len)] else s
      (s.regionEvent a kind).refuseAccess a

/-- An operand that names no requester, context or task. -/
def accBad (a : Access) : Bool :=
  decide (17 < a.rq ∨ 23 < a.ctx ∨ 2 < a.kind ∨ a.len = 0 ∨ 4096 < a.len) ||
  (if a.ctx < 16 || a.area == .ownState || a.area == .slices then decide (31 < a.task)
   else if a.rq = 11 then decide (2047 < a.task)
   else if a.rq = 12 then decide (16383 < a.task)
   else false)

/-- REGION_FAULT: an access reaches the region check (R336–R338). -/
def execRegionFault (dt : Nat) (a : Access) (s : State) : Host.Outcome State Fault Refusal :=
  if (accBad a) then .next (s.elapse dt) else .next ((s.elapse dt).regionRefused a)

/-- The region of a refused store is Buffered, or the image port makes it (R342). -/
def State.imprecise (s : State) (a : Access) : Bool :=
  a.kind == 1 && (a.port || ((accGranules a).any (fun g => (s.regionsAt a.ctx g).any (fun (_, e) => regBuffered e))))

/-- COLOUR_VIOLATION: an access that the regions admit reaches the colour check (R338, R341, R342). -/
def execColourViolation (dt : Nat) (a : Access) (s : State) : Host.Outcome State Fault Refusal :=
  let s := s.elapse dt
  if (accBad a) then .next s
  else if ((accGranules a).map (s.regCheck a)).any (fun c => match c with | .ok _ => false | _ => true) then .next s
  else
    match s.colourRefused a with
    | none => .next s
    | some (g, t) =>
      let part := (accGranules a).length != 1 && (accGranules a).any (fun g => match s.tagOf a g with
        | some t => bit (s.keysOf a) t
        | none => true)
      let imp := s.imprecise a
      let ev := fun (s : State) => s.raise 100 [(1, a.rq), (4, g), (1, t), (2, s.keysOf a),
        (1, b2n (!imp) + 2 * b2n part), (5, if imp then 0 else a.iaddr)]
      if imp then
        .next (ev { s with prot := { s.prot with ctxColour := tmod s.prot.ctxColour a.ctx 0 (satInc 16) } })
      else .next ((ev s).refuseAccess a)

/-- REGION_OVERLAP: a corrupted region register (R339): the access is refused, and the context's regions are loaded anew. -/
def execRegionOverlap (dt ctx : Nat) (regions : List Nat) (parity : Bool) (a : Access) (s : State) :
    Host.Outcome State Fault Refusal :=
  let s := s.elapse dt
  if (accBad a) || a.ctx != ctx || regions.any (fun r => decide (63 < r)) then .next s
  else if !parity && decide (regions.length < 2) then .next s
  else
    let s := s.raise 97 [(1, ctx), (8, regions.foldl (fun m r => m ||| 2 ^ r) 0), (1, b2n parity)]
    let s := (s.regionEvent a 1).refuseAccess a
    let own := (s.entries 0x0005).filter (fun (k, _) => k / 64 == ctx)
    .next { s with prot := { s.prot with
      regions := own.foldl (fun t (k, e) => tput t k e) (s.prot.regions.filter (fun (k, _) => k / 64 != ctx))
      reloads := s.prot.reloads + 1 } }

/-- SEALED_ACCESS: the Curator writes a sealed entry's register (R344): ignored. Context 16 holds the firmware's own sealed
regions. -/
def execSealedAccess (dt ctx region v : Nat) (s : State) : Host.Outcome State Fault Refusal :=
  let s := s.elapse dt
  if 23 < ctx ∨ 63 < region then .next s
  else if ctx = 16 || (match tlook s.prot.regions (64 * ctx + region) with
      | some e => regValid e && regSealed e
      | none => false) then
    .next (s.raiseMand 99 [(1, ctx), (1, region), (4, v)])
  else .next s

/-! ## Budgets (R347–R351) -/

/-- The budget in force in the present frame (R349). -/
def State.budgetNow (s : State) (q : Nat) : Nat :=
  match s.prot.budgets with
  | some l => l.getD q 0
  | none => s.budgetOf q

/-- A requester that is idle on this module makes no request (R21): RQ14 without AI, RQ17 with no debugger attached. -/
def State.rqIdle (s : State) (q : Nat) : Bool := (q == 14 && !s.has .ai) || (q == 17 && s.lk.debugger.isNone)

/-- A requester is eligible (R349). -/
def State.eligible (s : State) (q : Nat) : Bool :=
  decide (tget s.prot.beats q 0 < s.budgetNow q) && !bit s.frozenMask q && !s.rqIdle q

/-- The eligible requester of a mask with the lowest ArbPriority, the lowest number on a tie (R349). -/
def State.arbWinner (s : State) (waiting : Nat) : Option Nat :=
  ((List.range 18).filter (fun q => bit waiting q && s.eligible q)).foldl (fun (m : Option Nat) q =>
    match m with
    | none => some q
    | some k => if s.eff (0x0861 + 4 * s.rqElem q) < s.eff (0x0861 + 4 * s.rqElem k) then some q else some k) none

/-- Beats that the holder has moved since they were last counted (R348). -/
def State.moveBeats (s : State) (n : Nat) : State :=
  match s.prot.holder with
  | some q => { s with prot := { s.prot with beats := tmod s.prot.beats q 0 (· + n) } }
  | none => s

/-- ARBITRATION_GRANT: the holder, if any, has dropped its request after `moved` beats, and the arbiter grants to one of the
waiting requesters (R348, R349). -/
def execArbitrationGrant (dt waiting moved : Nat) (s : State) : Host.Outcome State Fault Refusal :=
  let s := (s.elapse dt).moveBeats moved
  .next { s with prot := { s.prot with holder := s.arbWinner waiting } }

/-- BUDGET_CUTOFF: the holder's count has reached its budget while it still requests (R348). -/
def execBudgetCutoff (dt q : Nat) (s : State) : Host.Outcome State Fault Refusal :=
  let s := s.elapse dt
  if 17 < q then .next s
  else if s.prot.holder ≠ some q then .next s
  else
    let s := { s with prot := { s.prot with
      holder := none, beats := tset s.prot.beats q 0 (s.budgetNow q), cutoffs := tmod s.prot.cutoffs q 0 (wrapInc 32) } }
    .next (s.raise 110 [(1, q), (8, s.gridInstant Config.budgetNs), (4, s.budgetNow q)])

/-- BUDGET_FRAME_START: every count returns to 0, a holder keeps its grant, and written budgets take effect (R347–R349). -/
def execBudgetFrameStart (dt moved : Nat) (s : State) : Host.Outcome State Fault Refusal :=
  let s := s.elapse dt
  if !s.onGrid Config.budgetNs then .next s
  else
    let s := s.moveBeats moved
    .next ({ s with prot := { s.prot with
      last := s.prot.beats, beats := [], budgets := some ((List.range 18).map s.budgetOf) } }).drainFifos

/-! ## The slot table (R352–R354) -/

/-- Minimum slots of the units 1–7 (R353), and the option unit each belongs to. -/
def slotMinima : List (Nat × Nat × Option OptUnit) :=
  [(1, 8, none), (2, 4, none), (3, 32, some .ai), (4, 24, some .ao), (5, 16, some .dio), (6, 8, some .phs), (7, 8, some .pnl)]

/-- The first present unit that owns too few slots, or lacks a Sub value, of 128 slot entries: unit, slots owned, minimum
(R353). -/
def State.slotFault (s : State) (slots : List Nat) : Option (Nat × Nat × Nat) :=
  (slotMinima.filterMap (fun (u, m, opt) =>
    let subs := (slots.filter (fun e => e % 256 == u)).map (fun e => e / 256 % 256)
    let here := match opt with | some x => s.has x | none => true
    if here && (decide (subs.length < m) || (List.range m).any (fun k => !subs.contains k)) then
      some (u, min 255 subs.length, m)
    else none)).head?

/-- The 128 entries of the shadow table. -/
def State.shadowSlots (s : State) : List Nat := (List.range 128).map (fun k => s.entry 0x0006 (128 + k))

/-- SLOT_TABLE_SWAP_APPLY: at the first I/O bus frame boundary after the request (R354). -/
def execSlotTableSwapApply (dt : Nat) (s : State) : Host.Outcome State Fault Refusal :=
  let s := s.elapse dt
  if !s.prot.swap || !s.atFrame then .next s
  else
    match s.slotFault s.shadowSlots with
    | some (u, n, m) =>
      .next (({ s with prot := { s.prot with swap := false, refused := true } }).raise 113 [(1, u), (1, n), (1, m)])
    | none =>
      let sh := s.shadowSlots
      let put := fun (img : Image) => (sh.zipIdx).foldl (fun (img : Image) (e, k) => (img.setEntry 6 k e).setEntry 6 (128 + k) e) img
      let s := { s with
        cfg := { s.cfg with base := put s.cfg.base, working := put s.cfg.working, state := 2 }
        prot := { s.prot with swap := false, refused := false, swaps := s.prot.swaps + 1 } }
      .next (s.raise 112 [(8, s.gridInstant Config.frameNs), (4, s.prot.swaps.toNat)])

/-! ## Debug actions (R305–R309, R345) -/

/-- The answer to a debug action: a frame as in R70. -/
def State.debugAnswer (s : State) (r : Req) (key : List Byte) (st : Status) (body : List Byte) : State :=
  let f := sealFrame (some key)
    (frameHead 0 0 r.tag r.code r.ver 2 st.code s.mode.num s.role.num body.length r.session.toNat 0 r.counter) body
  s.emit (.mailbox r.via 47230 r.addr r.port.toNat f)

/-- Archive record and event of an action in the reading room (R308). -/
def State.readingRoom (s : State) (g : Debugger) (code addr : Nat) (record : Bool) (vals : List Byte) : State :=
  if g.kind ≠ 2 then s
  else
    let (n, s) := s.takeFree
    let s := s.raise 71 [(1, g.pair), (2, code), (5, addr), (8, n % 2 ^ 64)]
    let now := if g.lastTick = s.tick then g.actions + 1 else 1
    let s := { s with lk := { s.lk with debugger := some { g with lastTick := s.tick, actions := now } } }
    if record then
      s.archMandatory 2 3 code g.session.toNat (leBytes 1 g.pair ++ leBytes 8 addr ++ vals)
    else s

/-- The replay buffer of the reading room is full (R308). -/
def State.replayFull (s : State) (g : Debugger) : Bool := g.kind == 2 && g.lastTick == s.tick && decide (256 ≤ g.actions)

/-- A debug action's row: the frame on port 47230 over SV is authenticated as a session's requests are, and the action runs where
its conditions hold. `allowed` answers a refusal; `act` the answer's status and body. -/
def execDebug (code dt : Nat) (p : Packet) (allowed : Debugger → State → Option Status)
    (act : Debugger → State → Status × List Byte × State) (s : State) : Host.Outcome State Fault Refusal :=
  match (s.elapse dt).assemble p with
  | (s, none) => .next s
  | (s, some d) =>
    if codeIs code d = false then .fault .otherCommand
    else if p.via == .plant || s.mode == .m0 || s.mbx.restarting.isSome then .next s
    else if badFrame d then .next { s with mbx := { s.mbx with frameErr := s.mbx.frameErr + 1 } }
    else
      let r := parseReq p.via p.addr p.port d
      match s.session r.session with
      | none => .next (s.authFail r)
      | some x =>
        if x.via ≠ r.via ∨ x.addr ≠ r.addr ∨ (hmac x.key (r.head ++ r.body)).take 16 ≠ r.mac ∨
            (match x.counter with | none => r.counter != 1 | some k => decide (r.counter ≤ k)) = true then .next (s.authFail r)
        else
          let s := s.modSession x.id (fun x => { x with counter := some r.counter, lastTick := s.tick })
          match s.lk.debugger with
          | none => .next (s.debugAnswer r x.key .stateRefused [])
          | some g =>
            if g.session ≠ x.id then .next (s.debugAnswer r x.key .accessDenied [])
            else if s.replayFull g then .next (s.debugAnswer r x.key .busy [])
            else
              match allowed g s with
              | some st => .next (s.debugAnswer r x.key st [])
              | none =>
                let (st, body, s) := act g s
                .next (s.debugAnswer r x.key st body)

/-- `n` free bytes (log 8). -/
def State.freeBytes (s : State) : Nat → List Byte × State
  | 0 => ([], s)
  | n + 1 =>
    let (v, s) := s.takeFree
    let (l, s) := s.freeBytes n
    (BitVec.ofNat 8 v :: l, s)

/-- Bytes of DRAM as the debug master reads them: a task's state area, and what a debugger has written elsewhere; every other byte is
a free value, since its contents are not the block's to know (log 7). -/
def State.dramRead (s : State) (a : Area) (task addr : Nat) : Nat → List Byte × State
  | 0 => ([], s)
  | n + 1 =>
    let (b, s) :=
      if a = .ownState then (tget (s.task task).area addr 0#8, s)
      else match tlook s.lk.dram addr with
        | some b => (b, s)
        | none =>
          let (v, s) := s.takeFree
          (BitVec.ofNat 8 v, s)
    let (l, s) := s.dramRead a task (addr + 1) n
    (b :: l, s)

/-- The area belongs to the firmware (R22). -/
def areaFirmware (a : Area) : Bool :=
  a == .firmware || a == .laneBuffers || a == .archiveStaging || a == .networkBuffers

/-- A debug access touches a sealed granule (R345). -/
def State.touchesSeal (s : State) (a : Area) (addr len : Nat) : Bool :=
  a == .working && (s.prot.regions.any (fun (_, e) => regValid e && regSealed e &&
    decide (addr / 4096 ≤ regLimit e ∧ regBase e ≤ (addr + (len - 1)) / 4096)))

/-- EV101 with its Archive record (R345). -/
def State.sealedDebug (s : State) (g : Debugger) (addr len : Nat) : State :=
  s.raiseWith 101 [(1, g.pair), (4, g.session.toNat), (8, addr), (2, len)] true g.session.toNat

/-- The refusal of a memory action (R306, R337). -/
def memRefused (a : Area) (task len lim : Nat) : Option Status :=
  if len = 0 ∨ lim < len ∨ (a = .ownState ∧ 31 < task) then some .range
  else if areaFirmware a then some .accessDenied else none

/-- DEBUG_READ_REGISTERS (R306): registers of a halted core stand as they are; those of a running core are free values. -/
def execDebugReadRegisters (dt : Nat) (p : Packet) (count : Nat) (s : State) : Host.Outcome State Fault Refusal :=
  execDebug 0x0001 dt p (fun _ _ => none) (fun g s =>
    let (l, s) := (List.range (min count 64)).foldl (fun (l, s) k =>
      let key := g.pair * 65536 + k
      match tlook s.lk.regs key with
      | some v => (l ++ beBytes 8 v.toNat, s)
      | none =>
        let (v, s) := State.takeFree s
        let v : U64 := BitVec.ofNat 64 v
        let s := if g.halted then { s with lk := { s.lk with regs := tput s.lk.regs key v } } else s
        (l ++ beBytes 8 v.toNat, s)) (([] : List Byte), s)
    (.ok, l, s.readingRoom g 1 0 false [])) s

/-- DEBUG_WRITE_REGISTER (R306): while the core is halted by the debugger. -/
def execDebugWriteRegister (dt : Nat) (p : Packet) (reg : Nat) (v : U64) (s : State) : Host.Outcome State Fault Refusal :=
  execDebug 0x0002 dt p (fun g _ => if !g.halted then some .stateRefused else if 65535 < reg then some .range else none)
    (fun g s =>
      let s := { s with lk := { s.lk with regs := tput s.lk.regs (g.pair * 65536 + reg) v } }
      (.ok, [], s.readingRoom g 2 reg true (leBytes 8 v.toNat))) s

/-- DEBUG_READ_MEMORY, up to 4 KiB (R306, R337, R345). -/
def execDebugReadMemory (dt : Nat) (p : Packet) (a : Area) (task addr len : Nat) (s : State) :
    Host.Outcome State Fault Refusal :=
  execDebug 0x0003 dt p (fun _ _ => memRefused a task len 4096) (fun g s =>
    if s.touchesSeal a addr len then (.sealed_, List.replicate len 0#8, s.sealedDebug g addr len)
    else
      let (l, s) := s.dramRead a task addr len
      (.ok, l, s.readingRoom g 3 addr false [])) s

/-- DEBUG_WRITE_MEMORY, up to 64 B (R306, R309, R345): in M4–M6 a write to a task's state area waits for the gap between two of its
cycles. -/
def execDebugWriteMemory (dt : Nat) (p : Packet) (a : Area) (task addr : Nat) (bytes : List Byte) (s : State) :
    Host.Outcome State Fault Refusal :=
  execDebug 0x0004 dt p (fun _ _ => memRefused a task bytes.length 64) (fun g s =>
    if s.touchesSeal a addr bytes.length then (.sealed_, [], s.sealedDebug g addr bytes.length)
    else
      let s :=
        if a = .ownState then
          if s.mode == .m4 || s.mode == .m5 || s.mode == .m6 then
            { s with lk := { s.lk with writes := s.lk.writes ++ [⟨task, addr, bytes⟩] } }
          else s.writeArea task addr bytes
        else
          { s with lk := { s.lk with
            dram := (bytes.zipIdx).foldl (fun t (b, i) => tput t (addr + i) b) s.lk.dram } }
      (.ok, [], s.readingRoom g 4 addr true bytes)) s

/-- M8 only (R306). -/
def inSim (_ : Debugger) (s : State) : Option Status := if s.mode = .m8 then none else some .stateRefused

/-- DEBUG_BREAKPOINT (R306). -/
def execDebugBreakpoint (dt : Nat) (p : Packet) (addr : Nat) (on : Bool) (s : State) : Host.Outcome State Fault Refusal :=
  execDebug 0x0005 dt p inSim (fun g s =>
    let l := g.breakpoints.filter (· != addr)
    let g := { g with breakpoints := if on then l ++ [addr] else l }
    (.ok, [], ({ s with lk := { s.lk with debugger := some g } }).readingRoom g 5 addr false [])) s

/-- The debugger halts or frees its core (R306). -/
def State.debugHalt (s : State) (g : Debugger) (on : Bool) (regs : Tab U64) : State :=
  { s with lk := { s.lk with debugger := some { g with halted := on }, regs := regs } }

/-- DEBUG_HALT (R306). -/
def execDebugHalt (dt : Nat) (p : Packet) (s : State) : Host.Outcome State Fault Refusal :=
  execDebug 0x0006 dt p inSim (fun g s =>
    (.ok, [], (s.debugHalt g true s.lk.regs).readingRoom { g with halted := true } 6 0 true [])) s

/-- DEBUG_RESUME (R306): the core's registers go on changing. -/
def execDebugResume (dt : Nat) (p : Packet) (s : State) : Host.Outcome State Fault Refusal :=
  execDebug 0x0006 dt p inSim (fun g s =>
    (.ok, [], (s.debugHalt g false []).readingRoom { g with halted := false } 6 0 false [])) s

/-- DEBUG_STEP (R306): one instruction; the registers it leaves come with the command. -/
def execDebugStep (dt : Nat) (p : Packet) (regs : List (Nat × U64)) (s : State) : Host.Outcome State Fault Refusal :=
  execDebug 0x0006 dt p inSim (fun g s =>
    let rs := regs.foldl (fun t (k, v) => tput t (g.pair * 65536 + k % 65536) v) s.lk.regs
    (.ok, [], (s.debugHalt g true rs).readingRoom { g with halted := true } 6 0 true [])) s

/-- DEBUG_TRACEPOINT (R306). -/
def execDebugTracepoint (dt : Nat) (p : Packet) (addr : Nat) (on : Bool) (s : State) : Host.Outcome State Fault Refusal :=
  execDebug 0x0007 dt p (fun _ _ => none) (fun g s =>
    let l := g.tracepoints.filter (· != addr)
    let g := { g with tracepoints := if on then l ++ [addr] else l }
    (.ok, [], ({ s with lk := { s.lk with debugger := some g } }).readingRoom g 7 addr false [])) s

end Sys2Proof.Machine
end

