-- ==== Sys2Proof/Machine/Ao.lean ====
section
/-!
DEFINITION. Loop output stages: measurement, adaptive supply, supervision and user trim (R390–R399), and the HART modems
(R400–R409).
-/
namespace Sys2Proof.Machine

/-! ## Stages -/

/-- The field supply of an output is lost (R395, R416): FLD1 feeds ST00–ST07, FLD2 the others. -/
def State.aoUnfed (s : State) (n : Nat) : Bool := s.supplyLost (if n < 8 then 0 else 1)

/-- Milliamperes or volts as binary64. -/
def milli (n : Nat) : Nat := f64 n 1000

/-- The supply setpoint of a stage, binary32 V (R393): the node voltage predicted for the total command plus 1.5 V, within 6.0 to
28.0 V. Where the estimate of R has no value (no current is sourced), the setpoint is a free value within those limits. -/
def State.supplySetpoint (s : State) (n : Nat) (readback terminal : Nat) : Nat × State :=
  let i := fdiv fmt64 (fmul fmt64 (f32to64 readback) (f64 100 1)) (ofInt fmt64 (s.shareInUse n))
  let r := fdiv fmt64 (f32to64 terminal) i
  let cmd := if (s.aoChan n).trimOp.isSome then s.aoTarget n else f32to64 (s.aoCommand n)
  let v := f64to32 (fadd fmt64 (fmul fmt64 r cmd) (milli 1500))
  let clamp := fun x => fmin fmt32 (fmax fmt32 x (f32 6 1)) (f32 28 1)
  if fisNan fmt32 v then
    let (x, s) := s.takeFree
    (clamp (x % 2 ^ 32), s)
  else (clamp v, s)

/-- How far two binary64 values lie apart. -/
def fdist (a b : Nat) : Nat := fabs fmt64 (fsub fmt64 a b)

/-- The judgement of a condition of R395 on the present measurements: 0 OPEN, 1 COMPLIANCE, 2 READBACK_FAULT, 3 SUPPLY_FAULT; whether
it differs from the flag now set. -/
def State.aoJudge (s : State) (n k : Nat) : Bool :=
  let c := s.aoChan n
  let t := s.aoTarget n
  let rb := f32to64 c.readback
  let full := fle fmt32 (f32 28 1) c.supply
  if s.shareInUse n = 0 ∨ s.aoUnfed n = true then false
  else
    match k with
    | 0 => if flt fmt64 t (f64 1 1) then false
      else if c.open_ then fle fmt64 (milli 500) rb
      else full && flt fmt64 rb (milli 500)
    | 1 => if c.compliance then fle fmt64 (fdist rb t) (milli 200)
      else full && flt fmt64 (milli 200) (fsub fmt64 t rb) && !c.open_
    | 2 => !c.readbackFault && flt fmt64 (milli 300) (fdist rb t) && !full && !c.open_ && !c.thermal
    | _ => !c.supplyFault && s.dio.there.getD (if n < 8 then 0 else 1) false &&
        flt fmt64 (f64 1 1) (fdist (f32to64 c.supply) (f32to64 c.setpoint))

/-- The conditions that are judged now start or go on waiting; the others start afresh (R395). -/
def State.aoWatch (s : State) (n : Nat) : State :=
  [0, 1, 2, 3].foldl (fun s k =>
    let on := s.aoJudge n k
    s.modAo n (fun c => { c with
      since := tset c.since k none (if on then some ((tget c.since k none).getD s.tick) else none) })) s

/-- STAGE_MEASUREMENT: a stage measures its current and its terminal voltage, and sets its supply (R393, R395). A stage that serves
no output measures nothing that is kept. -/
def execStageMeasurement (dt st : Nat) (m : StageIn) (s : State) : Host.Outcome State Fault Refusal :=
  let s := s.elapse dt
  if 18 ≤ st then .next s
  else if !s.has .ao || s.mode == .m0 then .next s
  else
    let s := { s with ao := { s.ao with tempMax := fmax fmt32 s.ao.tempMax m.junction } }
    match s.stageOutput st with
    | none => .next s
    | some n =>
      let (sp, s) := s.supplySetpoint n m.current m.terminal
      let s := s.modAo n (fun c => { c with
        readback := m.current, terminal := m.terminal, supply := m.supply, setpoint := sp })
      .next (s.aoWatch n)

/-- The physical stage that serves an output (R313, R324). -/
def State.stageOf (s : State) (n : Nat) : Nat :=
  ((List.range 18).find? (fun p => s.stageOutput p == some n)).getD n

/-- A value of R411's Details: binary64 given as binary32. -/
def State.aoTarget32 (s : State) (n : Nat) : Nat := f64to32 (s.aoTarget n)

/-- A condition of R395 changes: its flag, and at onset its event; READBACK_FAULT is a proven fault (R397). -/
def State.aoChange (s : State) (n k : Nat) : State :=
  let c := s.aoChan n
  let s := s.modAo n (fun c => { c with since := tset c.since k none none })
  match k with
  | 0 =>
    let s := s.modAo n (fun c => { c with open_ := !c.open_ })
    if c.open_ then s else s.raise 160 [(1, n), (4, s.aoTarget32 n), (4, c.readback)]
  | 1 =>
    let s := s.modAo n (fun c => { c with compliance := !c.compliance })
    if c.compliance then s else s.raise 161 [(1, n), (4, s.aoTarget32 n), (4, c.readback), (4, c.terminal)]
  | _ =>
    let s := s.modAo n (fun c => { c with readbackFault := true })
    let s := s.raise 164 [(1, n), (4, s.aoTarget32 n), (4, c.readback)]
    s.provenFault (31 + s.stageOf n)

/-- AO_DEBOUNCE_EXPIRY: a condition has held for AoDebounce (R395). -/
def execAoDebounceExpiry (dt st : Nat) (s : State) : Host.Outcome State Fault Refusal :=
  let s := s.elapse dt
  if 18 ≤ st then .next s
  else
    match s.stageOutput st with
    | none => .next s
    | some n =>
      .next ([0, 1, 2].foldl (fun s k =>
        match tget (s.aoChan n).since k none with
        | some t => if s.since t (s.eff 0x0AE0 * Config.ticksPerMs) && s.aoJudge n k then s.aoChange n k else s
        | none => s) s)

/-- STAGE_SUPPLY_FAULT: the supply has been off its setpoint for 10 ms, a proven fault (R395, R397). -/
def execStageSupplyFault (dt st : Nat) (s : State) : Host.Outcome State Fault Refusal :=
  let s := s.elapse dt
  if 18 ≤ st then .next s
  else
    match s.stageOutput st with
    | none => .next s
    | some n =>
      match tget (s.aoChan n).since 3 none with
      | some t =>
        if s.since t (10 * Config.ticksPerMs) && s.aoJudge n 3 then
          let c := s.aoChan n
          let s := s.modAo n (fun c => { c with supplyFault := true, since := tset c.since 3 none none })
          let s := s.raise 163 [(1, n), (4, c.setpoint), (4, c.supply)]
          .next (s.provenFault (31 + st))
        else .next s
      | none => .next s

/-- STAGE_THERMAL_LIMIT: the junction reaches 150 °C or falls below 140 °C (R395); onsets are counted against ThermalEventLimit
(R315). -/
def execStageThermalLimit (dt st j : Nat) (s : State) : Host.Outcome State Fault Refusal :=
  let s := s.elapse dt
  if 18 ≤ st then .next s
  else
    match s.stageOutput st with
    | none => .next s
    | some n =>
      let c := s.aoChan n
      let s := { s with ao := { s.ao with tempMax := fmax fmt32 s.ao.tempMax j } }
      if c.thermal then
        .next (if flt fmt32 j (f32 140 1) then s.modAo n (fun c => { c with thermal := false }) else s)
      else if fle fmt32 (f32 150 1) j then
        let s := s.modAo n (fun c => { c with thermal := true })
        let s := s.raise 162 [(1, n), (4, j)]
        let s := { s with annex := { s.annex with thermals := tmod s.annex.thermals st 0 (satInc 32) } }
        let k := tget s.annex.thermals st 0
        .next (if s.eff 0x0767 ≤ k then s.limitCrossed (31 + st) 5 k (s.eff 0x0767) else s)
      else .next s

/-- The stages' image points at an I/O bus frame boundary (R399). -/
def State.aoPublish (s : State) (t : Nat) : State :=
  if !s.has .ao then s
  else (List.range 16).foldl (fun s n =>
    let c := s.aoChan n
    let total := if s.shareInUse n = 0 then 0
      else f64to32 (fdiv fmt64 (fmul fmt64 (f32to64 c.readback) (f64 100 1)) (ofInt fmt64 (s.shareInUse n)))
    let fine := !(c.open_ || c.compliance || c.thermal || c.supplyFault || c.readbackFault || s.aoFaulted n)
    (s.publishAp 3 (0x0200 + n) total t).publishBp 3 (0x0220 + n) fine t) s

/-! ## User trim (R398) -/

/-- The stage is released without change and any records are discarded (R398 Op 0). -/
def State.trimRelease (s : State) (n : Nat) : State :=
  s.modAo n (fun c => { c with trimOp := none, m4 := none, m20 := none })

/-- Leaving M8 releases every stage (R398). -/
def State.trimReleaseAll (s : State) : State := (List.range 16).foldl State.trimRelease s

/-- The gain and offset of Op 5 (R398), as AoTrim holds them (R390). -/
def trimOf (m4 m20 : Nat) : Nat :=
  let b := fdiv fmt64 (f64 16 1) (fsub fmt64 (f32to64 m20) (f32to64 m4))
  let a := fsub fmt64 (f64 4 1) (fmul fmt64 b (f32to64 m4))
  f64to32 b * 2 ^ 32 + f64to32 a

/-- What AO_TRIM does with a checked body (R398). -/
def State.aoTrim (s : State) (session : Nat) (b : List Byte) : State :=
  let n := beAt b 0 1
  let v := beAt b 4 4
  match beAt b 1 1 with
  | 1 => s.modAo n (fun c => { c with trimOp := some 1 })
  | 2 => s.modAo n (fun c => { c with trimOp := some 2 })
  | 3 => s.modAo n (fun c => { c with m4 := some v })
  | 4 => s.modAo n (fun c => { c with m20 := some v })
  | 5 =>
    match (s.aoChan n).m4, (s.aoChan n).m20 with
    | some x, some y =>
      let s := s.modAo n (fun c => { c with trim := trimOf x y, trimOp := none, m4 := none, m20 := none })
      s.archCommand 5 0x0071 session b
    | _, _ => s
  | 6 => (s.modAo n (fun c => { c with trim := 0x3F80000000000000 })).archCommand 5 0x0071 session b
  | _ => s.trimRelease n

/-- AO_TRIM (R398). -/
def aoTrimCmd : Cmd := { Cmd.plain 0x0071 (fun r s => okRep (s.aoTrim r.session.toNat r.body)) with
  absent := fun _ s => if s.has .ao then none else some noPos
  malformed := fun r _ => if r.body.length ≠ 8 ∨ beAt r.body 2 2 ≠ 0 then some noPos else none
  unready := fun r s =>
    let n := beAt r.body 0 1
    if n < 16 ∧ s.shareInUse n ≠ 100 then some noPos else none
  value := fun r s =>
    let n := beAt r.body 0 1
    let v := beAt r.body 4 4
    let c := s.aoChan n
    let out := fun lo hi => !(fle fmt32 lo v && fle fmt32 v hi)
    if 15 < n ∨ 6 < beAt r.body 1 1 then some (.range, noPos)
    else match beAt r.body 1 1 with
      | 3 => if c.trimOp ≠ some 1 then some (.sequence, noPos)
        else if out (f32 35 10) (f32 45 10) then some (.range, noPos) else none
      | 4 => if c.trimOp ≠ some 2 then some (.sequence, noPos)
        else if out (f32 195 10) (f32 205 10) then some (.range, noPos) else none
      | 5 => if c.m4.isNone || c.m20.isNone then some (.sequence, noPos) else none
      | _ => none
  busy := fun r s =>
    (List.range 16).any (fun m => m != beAt r.body 0 1 && (s.aoChan m).trimOp.isSome) ||
      ((beAt r.body 1 1 == 5 || beAt r.body 1 1 == 6) && !s.archFree r.body) }

/-- One row of AO_TRIM: the datagrams of its Op. -/
def execTrim (mine : Nat → Bool) (dt : Nat) (p : Packet) (s : State) : Host.Outcome State Fault Refusal :=
  execMail aoTrimCmd (fun d => codeIs 0x0071 d && mine (beAt d 49 1)) dt p s

/-- AO_TRIM Op 1. -/
def execAoTrimHold4 (dt : Nat) (p : Packet) (s : State) : Host.Outcome State Fault Refusal := execTrim (· == 1) dt p s
/-- AO_TRIM Op 2. -/
def execAoTrimHold20 (dt : Nat) (p : Packet) (s : State) : Host.Outcome State Fault Refusal := execTrim (· == 2) dt p s
/-- AO_TRIM Op 3. -/
def execAoTrimRecord4 (dt : Nat) (p : Packet) (s : State) : Host.Outcome State Fault Refusal := execTrim (· == 3) dt p s
/-- AO_TRIM Op 4. -/
def execAoTrimRecord20 (dt : Nat) (p : Packet) (s : State) : Host.Outcome State Fault Refusal := execTrim (· == 4) dt p s
/-- AO_TRIM Op 5. -/
def execAoTrimStore (dt : Nat) (p : Packet) (s : State) : Host.Outcome State Fault Refusal := execTrim (· == 5) dt p s
/-- AO_TRIM Op 0, or an Op it refuses. -/
def execAoTrimRelease (dt : Nat) (p : Packet) (s : State) : Host.Outcome State Fault Refusal :=
  execTrim (fun k => k == 0 || decide (6 < k)) dt p s
/-- AO_TRIM Op 6. -/
def execAoTrimClear (dt : Nat) (p : Packet) (s : State) : Host.Outcome State Fault Refusal := execTrim (· == 6) dt p s

/-! ## HART modems -/

/-- Change one modem. -/
def State.modModem (s : State) (m : Nat) (f : Modem → Modem) : State :=
  { s with ao := { s.ao with modem := tmod s.ao.modem m {} f } }
/-- One modem. -/
def State.modem (s : State) (m : Nat) : Modem := tget s.ao.modem m {}
/-- HartConfig (R401). -/
def State.hartConfig (s : State) (m : Nat) : Nat := s.eff (0x0A80 + 2 * m)
/-- The modem's unit is present (R5). -/
def State.hartHere (s : State) (m : Nat) : Bool := if m < 32 then s.has .ai else s.has .ao
/-- The modem is enabled. -/
def State.hartOn (s : State) (m : Nat) : Bool := s.hartHere m && bit (s.hartConfig m) 31

/-- This module is the primary master: its poll lists run (R408). -/
def State.hartMaster (s : State) : Bool :=
  match s.mode with
  | .m4 | .m5 | .m6 => s.lead
  | .m8 => s.role != .isolated
  | .m3 => s.ai.m3exc.getD false
  | _ => false

/-- The module hears a partner that is the primary master (R286, R408): its modems follow the transactions on the line. -/
def State.hartListens (s : State) : Bool := !s.hartMaster && s.partnerLeads && (s.mode.isRun || s.mode == .m3)

/-- The modem may put its signal on the loop (R400). -/
def State.hartCoupled (s : State) (m : Nat) : Bool :=
  if m < 32 then aiRange (s.aiConfig m) == 2 else fle fmt64 (milli 3500) (s.aoTarget (m - 32))

/-- Checksum of a HART frame: the exclusive or of its bytes (PRESUMED, log 17). -/
def hartCheck (b : List Byte) : Byte := b.foldl (· ^^^ ·) 0#8

/-- A HART request without its preambles (R402–R404; frame layout PRESUMED, log 17): a short frame to the poll address before
identification, then long frames; a command above 255 goes through command 31. -/
def hartFrame (ident : Option Nat) (pollAddr command : Nat) (data : List Byte) : List Byte :=
  let addr := match ident with
    | some u => beBytes 5 (u % 2 ^ 38 + 2 ^ 39)
    | none => beBytes 1 (128 + pollAddr)
  let d := if 255 < command then beBytes 2 command ++ data else data
  let f := beBytes 1 (if ident.isSome then 0x82 else 0x02) ++ addr ++ beBytes 1 (if 255 < command then 31 else command) ++
    beBytes 1 d.length ++ d
  f ++ [hartCheck f]

/-- Ticks that `n` characters take at 1,200 bit/s and 11 bits (R400). -/
def hartChars (n : Nat) : Nat := (n * 3437500 + 2) / 3

/-- A request may start now (R405): with BurstListen only in the 75 ms after a burst frame. -/
def State.hartWindow (s : State) (m : Nat) : Bool :=
  !bit (s.hartConfig m) 30 ||
    (match (s.modem m).burstEnd with
      | some t => decide (s.tick < t + 75 * Config.ticksPerMs)
      | none => false)

/-- The modem's transaction makes its attempt: preambles and request are sent by the primary master (R404); where no request may
start yet, it waits (`sent` 0). -/
def State.hartAttempt (s : State) (m : Nat) (x : HartTx) : State :=
  if !s.hartWindow m then s.modModem m (fun h => { h with tx := some { x with sent := 0 } })
  else
    let n := s.eff 0x0AE2
    let ident := if x.entry = 0x100 then none else (s.modem m).ident
    let f := List.replicate n 255#8 ++ hartFrame ident (bits (s.hartConfig m) 24 6) x.command x.data
    let s := s.modModem m (fun h => { h with tx := some { x with sent := s.tick + hartChars f.length } })
    if s.hartMaster && s.hartCoupled m then s.emit (.hart m f) else s

/-- The modem takes up its next work (R404): a pending HART_PASS, then due poll entries in ascending order. -/
def State.hartNext (s : State) (m : Nat) : State :=
  let h := s.modem m
  if h.tx.isSome || h.state != 2 || !(s.hartMaster || s.hartListens) then s
  else match h.pass with
    | some (c, d, _) => s.hartAttempt m ⟨0xFF, c, d, 0, 0⟩
    | none =>
      match h.due with
      | [] => s
      | k :: t =>
        let s := s.modModem m (fun h => { h with due := t })
        let e := s.entry 0x000C (16 * m + k)
        if bit (fld e 0 0 8) 7 ∧ (fld e 2 0 16 < 256 ∨ h.rev = 7) then
          s.hartAttempt m ⟨k, fld e 2 0 16, (leBytes 8 (fld e 8 0 64)).take (fld e 1 0 8), 0, 0⟩
        else s

/-- The modem identifies its device with command 0 (R402). -/
def State.hartIdentify (s : State) (m : Nat) : State :=
  (s.modModem m (fun h => { h with state := 1, identTick := s.tick })).hartAttempt m ⟨0x100, 0, [], 0, 0⟩

/-- Modems follow HartConfig at an I/O bus frame boundary (R59, R402): enabled ones that are off begin to identify, disabled ones go
off. -/
def State.hartRefresh (s : State) : State :=
  (List.range 48).foldl (fun s m =>
    let h := s.modem m
    if s.hartOn m then
      if h.state = 0 ∧ (s.hartMaster || s.hartListens) = true then s.hartIdentify m else s
    else if h.state = 0 then s
    else
      let op := h.pass.bind (fun x => x.2.2)
      (s.modModem m (fun h => { h with state := 0, tx := none, pass := none, due := [] })).completeOpt op .notReady) s

/-- HART_POLL_DUE: entries fall due at the whole multiples of their Period (R404, R408). -/
def execHartPollDue (dt m : Nat) (s : State) : Host.Outcome State Fault Refusal :=
  let s := s.elapse dt
  if 48 ≤ m then .next s
  else if !s.hartOn m || (s.modem m).state != 2 || !(s.hartMaster || s.hartListens) then .next s
  else
    let now := (List.range 16).filter (fun k =>
      let e := s.entry 0x000C (16 * m + k)
      bit (fld e 0 0 8) 7 && s.onGrid (fld e 4 0 32 * 1000000))
    let s := now.foldl (fun s k =>
      if (s.modem m).due.contains k then
        if s.hartMaster then { s with ao := { s.ao with pollSkips := s.ao.pollSkips + 1 } } else s
      else s.modModem m (fun h => { h with due := insNat k h.due })) s
    .next (s.hartNext m)

/-- A HART record after a completion (R406). -/
def HartRec.done (r : HartRec) (x : HartIn) (command stamp : Nat) (burst : Bool) : HartRec :=
  { command := command, valid := true, timeout := false, burst := burst, trunc := decide (40 < x.data.length),
    count := (x.data.length + 2) % 256, rc := x.rc, ds := x.ds, number := (r.number + 1) % 2 ^ 32, stamp := stamp,
    data := x.data.take 40 }

/-- Change the record of an entry. -/
def State.modHartRec (s : State) (m k : Nat) (f : HartRec → HartRec) : State :=
  s.modModem m (fun h => { h with recs := tmod h.recs k {} f })

/-- A transaction has ended (R404, R406, R409): it is counted by the primary master, a HART_PASS completes, and the next work is
taken up. -/
def State.hartDone (s : State) (m : Nat) (x : HartTx) (data : List Byte) : State :=
  let s := if s.hartMaster then { s with ao := { s.ao with transactions := (s.ao.transactions + 1) % 2 ^ 64 } } else s
  let op := (s.modem m).pass.bind (fun p => p.2.2)
  let s := s.modModem m (fun h => { h with tx := none, pass := if x.entry = 0xFF then none else h.pass })
  let s := if x.entry = 0xFF then
      let r := tget (s.modem m).recs 0xFF {}
      s.completeOpt op .ok (leBytes 64 (r.image m 0xFF false) ++ data.take 255)
    else s
  s.hartNext m

/-- An attempt has failed (R404): it is repeated up to HartRetries times, then the transaction completes with TIMEOUT, or the
device is not there (R402). -/
def State.hartFail (s : State) (m : Nat) (x : HartTx) : State :=
  if x.attempt < s.eff 0x0AE1 then s.hartAttempt m { x with attempt := x.attempt + 1 }
  else
    let s := if s.hartMaster then { s with ao := { s.ao with timeouts := s.ao.timeouts + 1 } } else s
    if x.entry = 0x100 then
      let s := s.modModem m (fun h => { h with tx := none, state := 3, identTick := s.tick })
      s.raise 166 [(1, m), (2, x.command)]
    else
      let s := s.modHartRec m x.entry (fun r => { r with
        command := x.command, timeout := true, number := (r.number + 1) % 2 ^ 32 })
      s.hartDone m x []

/-- The response to command 0 (R402). -/
def State.hartIdentified (s : State) (m : Nat) (x : HartIn) : State :=
  let h := s.modem m
  if x.rev < 5 ∨ 7 < x.rev then
    let s := s.modModem m (fun h => { h with tx := none, state := 4, rev := x.rev % 256 })
    s.raise 168 [(1, m), (1, 2), (5, h.ident.getD 0), (5, x.ident)]
  else
    let s := s.modModem m (fun h => { h with tx := none, state := 2, rev := x.rev, ident := some x.ident })
    let s := match h.ident with
      | some u => if u = x.ident then s else s.raise 168 [(1, m), (1, 1), (5, u), (5, x.ident)]
      | none => s
    s.hartNext m

/-- The field device status of a response or burst frame (R402): EV167 when bit 7, 6 or 4 rises. -/
def State.hartStatus (s : State) (m : Nat) (x : HartIn) : State :=
  let old := (s.modem m).ds
  let s := s.modModem m (fun h => { h with rc := x.rc, ds := x.ds })
  if [7, 6, 4].any (fun k => bit x.ds k && !bit old k) then s.raise 167 [(1, m), (1, x.ds), (2, x.command)] else s

/-- HART_RESPONSE: the answer to the request under way (R404, R406); a frame with an error fails the attempt. -/
def execHartResponse (dt m : Nat) (x : HartIn) (s : State) : Host.Outcome State Fault Refusal :=
  let s := s.elapse dt
  if 48 ≤ m then .next s
  else
    match (s.modem m).tx with
    | none => .next s
    | some t =>
      if t.sent = 0 ∨ s.tick < t.sent then .next s
      else if !x.good then
        let s := if s.hartMaster then { s with ao := { s.ao with commErrors := s.ao.commErrors + 1 } } else s
        .next (s.hartFail m t)
      else if x.command ≠ t.command then .next s
      else
        let s := s.hartStatus m x
        if t.entry = 0x100 then .next (s.hartIdentified m x)
        else
          let now := s.now
          .next ((s.modHartRec m t.entry (fun r => r.done x t.command now false)).hartDone m t x.data)

/-- HART_RESPONSE_TIMEOUT: no response start within 33 character times, 302.5 ms (R404). -/
def execHartResponseTimeout (dt m : Nat) (s : State) : Host.Outcome State Fault Refusal :=
  let s := s.elapse dt
  if 48 ≤ m then .next s
  else
    match (s.modem m).tx with
    | none => .next s
    | some t => if t.sent ≠ 0 ∧ s.since t.sent 37812500 = true then .next (s.hartFail m t) else .next s

/-- HART_BURST_FRAME (R405): recorded with BurstListen 1, and opening the window for a request; else ignored. -/
def execHartBurstFrame (dt m : Nat) (x : HartIn) (s : State) : Host.Outcome State Fault Refusal :=
  let s := s.elapse dt
  if 48 ≤ m then .next s
  else if !s.hartOn m || !bit (s.hartConfig m) 30 || !x.good then .next s
  else
    let now := s.now
    let tick := s.tick
    let s := { s with ao := { s.ao with burstFrames := s.ao.burstFrames + 1 } }
    let s := s.hartStatus m x
    let s := (s.modHartRec m 0xFE (fun r => r.done x x.command now true)).modModem m (fun h => { h with
      burst := true, burstEnd := some tick })
    match (s.modem m).tx with
    | some t => .next (if t.sent = 0 then s.hartAttempt m t else s)
    | none => .next (s.hartNext m)

/-- HART_IDENTIFY_RETRY: every 10 s a modem without a response repeats command 0 (R402). -/
def execHartIdentifyRetry (dt m : Nat) (s : State) : Host.Outcome State Fault Refusal :=
  let s := s.elapse dt
  if 48 ≤ m then .next s
  else if s.hartOn m && (s.modem m).state == 3 && (s.hartMaster || s.hartListens) &&
      s.since (s.modem m).identTick (10 * Config.ticksPerSecond) then .next (s.hartIdentify m)
  else .next s

/-- The lead passes (R408): a HART_PASS that runs is superseded; a request whose last byte had not left is sent again by the new
lead as a new attempt that does not count. `gain`: this module becomes the primary master. -/
def State.hartHandover (s : State) (gain : Bool) : State :=
  (List.range 48).foldl (fun s m =>
    let h := s.modem m
    let op := h.pass.bind (fun p => p.2.2)
    let drop := match h.tx with | some t => t.entry == 0xFF | none => false
    let s := if h.pass.isSome then
        (s.modModem m (fun h => { h with pass := none, tx := if drop then none else h.tx })).completeOpt op .superseded
      else s
    match (s.modem m).tx with
    | some t => if gain && decide (s.tick < t.sent ∨ t.sent = 0) then s.hartAttempt m t else s
    | none => s) s

/-- A HART_PASS is taken up (R409). -/
def hartPassApply (op : Option Nat) (b : List Byte) (_ : U32) (s : State) : State :=
  let m := beAt b 0 1
  if (s.modem m).pass.isSome || (s.modem m).state != 2 then s.completeOpt op .notReady
  else (s.modModem m (fun h => { h with pass := some (beAt b 2 2, slice b 4 (beAt b 1 1), op) })).hartNext m

/-- HART_PASS (R409, R83). -/
def hartPassCmd : Cmd := { Cmd.plain 0x0072 (fun r s => runAsync hartPassApply r s) with
  absent := fun r s => if beAt r.body 0 1 < 48 ∧ s.hartHere (beAt r.body 0 1) = false then some noPos else none
  malformed := fun r _ => if r.body.length < 4 ∨ r.body.length ≠ 4 + beAt r.body 1 1 then some noPos else none
  value := fun r s =>
    if 47 < beAt r.body 0 1 ∨ 200 < beAt r.body 1 1 then some (.range, noPos)
    else if (s.modem (beAt r.body 0 1)).state ≠ 2 then some (.notReady, noPos) else none
  busy := fun r s => (s.modem (beAt r.body 0 1)).pass.isSome
  async := fun _ _ => true
  pair := alwaysPair
  apply := hartPassApply }

/-- HART_PASS. -/
def execHartPass (dt : Nat) (p : Packet) (s : State) : Host.Outcome State Fault Refusal :=
  execMail hartPassCmd (codeIs 0x0072) dt p s

end Sys2Proof.Machine
end

