-- ==== Sys2Proof/Machine/Can.lean ====
section
/-!
DEFINITION. The CAN FD channels' commands: frames received and sent, errors, bus-off and recovery, timeouts, and CAN_SEND,
CAN_CANCEL and CAN_RECOVER (R458–R469).
-/
namespace Sys2Proof.Machine

/-- A valid frame ends on channel `c` (R467). -/
def State.canReceive (s : State) (c id : Nat) (data : List Byte) : State :=
  if !s.canOn c then s
  else
    let s := s.modCan c (fun h => { h with
      rx := h.rx + 1, rec_ := if (s.canActive c) then (if 127 < h.rec_ then 127 else h.rec_ - 1) else h.rec_ })
    match s.canFilter c id with
    | none => s.modCan c (fun h => { h with unmatched := h.unmatched + 1 })
    | some k =>
      let f := 128 * c + k
      let s := { s with can := { s.can with hits := tmod s.can.hits f 0 (satInc 32) } }
      if !bit (fld (s.entry 0x000D f) 8 0 8) 6 then s
      else if 64 ≤ (s.canCh c).queue.length then
        (s.modCan c (fun h => { h with overflow := h.overflow + 1 })).raise 210 [(1, c), (1, k), (4, 1)]
      else s.modCan c (fun h => { h with queue := h.queue ++ [(f, data.take 64, s.now)] })

/-- CAN_FRAME_RECEIVED (R467, R468). -/
def execCanFrameReceived (dt c id : Nat) (data : List Byte) (s : State) : Host.Outcome State Fault Refusal :=
  atRes c 4 (s.elapse dt) ((s.elapse dt).canReceive c id data)

/-- CAN_FRAME_SENT (R463, R466): the frame has gone out on the bus. -/
def execCanFrameSent (dt c b sof : Nat) (s : State) : Host.Outcome State Fault Refusal :=
  let s := s.elapse dt
  if 4 ≤ c ∨ 64 ≤ b then .next s
  else match tget (s.canCh c).buf b none with
    | none => .next s
    | some k =>
      if (s.canCh c).busOff.isSome then .next s
      else
        let s := s.modCan c (fun h => { h with tx := h.tx + 1, tec := h.tec - 1 })
        .next ((s.emit (.can c k.id k.flags k.data)).canDrop c b .ok 0 sof true)

/-- Bus-off (R462): every pending buffer is cleared, EV209 and EV211 occur. -/
def State.canBusOff (s : State) (c : Nat) : State :=
  let n := (s.canPending c).length
  let s := s.modCan c (fun h => { h with
    busOff := some s.tick, recovering := false, offs := h.offs + 1, fails := h.fails + BitVec.ofNat 32 n })
  let s := s.raise 209 [(1, c), (1, (s.canCh c).lastErr)]
  let s := (s.canPending c).foldl (fun s b => s.canDrop c b .notReady 2 0 false) s
  s.raise 211 [(1, c), (1, 0xFF), (1, 2), (1, n)]

/-- CAN_BUS_ERROR: the error counters after an error, as ISO 11898-1 moves them (R462). A channel that is not active changes no
counter. -/
def execCanBusError (dt c tec rec_ code : Nat) (s : State) : Host.Outcome State Fault Refusal :=
  let s := s.elapse dt
  if 4 ≤ c then .next s
  else if !s.canActive c then .next s
  else
    let h := s.canCh c
    let was := decide (128 ≤ h.tec ∨ 128 ≤ h.rec_)
    let s := s.modCan c (fun h => { h with tec := min 255 tec, rec_ := min 255 rec_, lastErr := code % 8 })
    let s := if !was && decide (128 ≤ tec ∨ 128 ≤ rec_) then
        s.raise 208 [(1, c), (1, min 255 tec), (1, min 255 rec_), (1, code % 8)] else s
    .next (if 255 < tec then s.canBusOff c else s)

/-- CAN_RECOVERY_DONE: the wait of 128 × 11 recessive bits has ended (R462). -/
def execCanRecoveryDone (dt c : Nat) (s : State) : Host.Outcome State Fault Refusal :=
  let s := s.elapse dt
  if 4 ≤ c then .next s
  else match (s.canCh c).busOff with
    | none => .next s
    | some t =>
      if !(s.canCh c).recovering then .next s
      else
        let s := s.modCan c (fun h => { h with busOff := none, recovering := false, tec := 0, rec_ := 0 })
        .next (s.raise 212 [(1, c), (4, (s.tick - t) / Config.ticksPerMs)])

/-- CAN_TX_TIMEOUT (R463). -/
def execCanTxTimeout (dt c b : Nat) (s : State) : Host.Outcome State Fault Refusal :=
  let s := s.elapse dt
  if 4 ≤ c ∨ 64 ≤ b then .next s
  else match tget (s.canCh c).buf b none with
    | none => .next s
    | some k =>
      if !s.since k.since ((s.canCh c).timeout * Config.ticksPerMs) then .next s
      else
        let s := s.modCan c (fun h => { h with fails := h.fails + 1 })
        .next ((s.canDrop c b .notReady 1 0 true).raise 211 [(1, c), (1, b), (1, 1), (1, 1)])

/-- The valid data lengths (R465). -/
def canLength (fd : Bool) (n : Nat) : Bool := decide (n ≤ 8) || (fd && [12, 16, 20, 24, 32, 48, 64].contains n)

/-- A free buffer for a CAN_SEND: 48–62, none of those that a scheduled CAN_SEND holds (R463, R466). -/
def State.canFreeBuf (s : State) (c : Nat) : Option Nat :=
  ((List.range 15).map (· + 48)).find? (fun b =>
    (tget (s.canCh c).buf b none).isNone &&
      !s.mbx.scheduled.any (fun p => p.code == 0x0075 && beAt p.body 0 1 == c && beNat (p.body.drop (p.body.length - 1)) == b))

/-- A CAN_SEND is carried out by the CAN lead (R466); its body is followed by the buffer that was chosen. -/
def canSendApply (op : Option Nat) (body : List Byte) (sid : U32) (s : State) : State :=
  let c := beAt body 0 1
  let b := beNat (body.drop (body.length - 1))
  let len := beAt body 2 1
  if !s.canLead then s.completeOpt op .ok (canResult 0 0)
  else if (s.canCh c).busOff.isSome then s.completeOpt op .notReady (canResult 2 0)
  else
    let tag := match s.mbx.async.find? (fun o => some o.id == op) with | some o => o.tag | none => 0
    s.canLoad c b (beAt body 4 4) (beAt body 1 1) (slice body 8 len) (op.map (fun i => (i, sid, tag)))

/-- CAN_SEND (R466). -/
def canSendCmd : Cmd := { Cmd.plain 0x0075 (fun r s =>
    let b := (s.canFreeBuf (beAt r.body 0 1)).getD 48
    let (op, s) := s.startOp r
    ⟨.accepted, b, [], none, s, canSendApply (some op) (r.body ++ beBytes 1 b) r.session, false⟩) with
  malformed := fun r s =>
    let c := beAt r.body 0 1
    if r.body.length < 8 ∨ r.body.length ≠ 8 + beAt r.body 2 1 ∨ beAt r.body 1 1 / 8 ≠ 0 ∨ beAt r.body 3 1 ≠ 0 then some noPos
    else if bit (beAt r.body 1 1) 1 ∧ c < 4 ∧ !bit (s.canCh c).control 30 then some noPos else none
  unready := fun r s =>
    let c := beAt r.body 0 1
    if c < 4 ∧ (!s.canOn c ∨ (s.canRestriction c).isSome) then some noPos else none
  value := fun r s =>
    let c := beAt r.body 0 1
    let fl := beAt r.body 1 1
    let id := beAt r.body 4 4
    if 4 ≤ c ∨ !canLength (bit fl 1) (beAt r.body 2 1) ∨ (if bit fl 0 then 0x1FFFFFFF else 0x7FF) < id then some (.range, noPos)
    else if (s.canCh c).busOff.isSome then some (.notReady, noPos) else none
  busy := fun r s => (s.canFreeBuf (beAt r.body 0 1)).isNone
  async := fun _ _ => true
  pair := fun _ _ => true
  accept := some (fun r op s =>
    let b := (s.canFreeBuf (beAt r.body 0 1)).getD 48
    let at_ := frameAtOrAfter (s.now + 500000)
    let s := { s with mbx := { s.mbx with
      scheduled := s.mbx.scheduled ++ [(⟨r.code, r.body ++ beBytes 1 b, at_, some op, r.session, r.counter⟩ : PairCmd)] } }
    (b, s.lane 0x0A (pairFields r.code at_ r.session.toNat r.counter) r.body))
  apply := canSendApply }

/-- CAN_SEND. -/
def execCanSend (dt : Nat) (p : Packet) (s : State) : Host.Outcome State Fault Refusal :=
  execMail canSendCmd (codeIs 0x0075) dt p s

/-- CAN_CANCEL (R466): `begun`, whether the frame's SOF bit has been driven at the tick the request reaches the controller. -/
def canCancelCmd (begun : Bool) : Cmd := { Cmd.plain 0x0076 (fun r s =>
    let tag := beAt r.body 0 2
    let hit := (List.range 4).findSome? (fun c =>
      ((s.canCh c).buf.find? (fun (_, k) => match k with
        | some k => (match k.op with | some (_, sid, t) => sid == r.session && t == tag | none => false)
        | none => false)).map (fun (b, _) => (c, b)))
    match hit with
    | none => okRep s [] 2
    | some (c, b) =>
      if begun then okRep s [] 1
      else ⟨.ok, 0, [], none, s, fun s => s.canDrop c b .superseded 0 0 true, false⟩) with
  malformed := fun r _ => if r.body.length ≠ 4 ∨ beAt r.body 2 2 ≠ 0 then some noPos else none
  unready := fun _ s => if s.canLead then none else some noPos }

/-- CAN_CANCEL. -/
def execCanCancel (dt : Nat) (p : Packet) (begun : Bool) (s : State) : Host.Outcome State Fault Refusal :=
  execMail (canCancelCmd begun) (codeIs 0x0076) dt p s

/-- CAN_RECOVER (R466). -/
def canRecoverCmd : Cmd := { Cmd.plain 0x0077 (fun r s =>
    okRep (s.modCan (beAt r.body 0 1) (fun h => { h with recovering := true }))) with
  malformed := fun r _ => if r.body.length ≠ 4 ∨ beAt r.body 1 3 ≠ 0 then some noPos else none
  unready := fun r s =>
    let c := beAt r.body 0 1
    if c < 4 ∧ (s.canCh c).busOff.isNone then some noPos else none
  value := fun r _ => if 4 ≤ beAt r.body 0 1 then some (.range, noPos) else none }

/-- CAN_RECOVER. -/
def execCanRecover (dt : Nat) (p : Packet) (s : State) : Host.Outcome State Fault Refusal :=
  execMail canRecoverCmd (codeIs 0x0077) dt p s

end Sys2Proof.Machine
end

