-- ==== Sys2Proof/Machine/Digital.lean ====
section
/-!
DEFINITION. Digital inputs, digital outputs, the call lines and the acknowledge inputs (R412–R431).
-/
namespace Sys2Proof.Machine

/-! ## Input filters (R412–R414) -/

/-- DiConfig of DI00–DI31, AckConfig of ACK0–ACK3 as 32–35 (R418, R429). -/
def State.inConfig (s : State) (n : Nat) : Nat := if n < 32 then s.eff (0x0B00 + 3 * n) else s.eff (0x0BC8 + 4 * (n - 32))
/-- Tick in ns, Threshold and Ceiling (R419). -/
def inTick (c : Nat) : Nat := bits c 0 8 * 10000
def inThreshold (c : Nat) : Nat := bits c 8 8
def inCeiling (c : Nat) : Nat := bits c 16 8
/-- The input exists (R5): DIs belong to DIO, ACK inputs are always there. -/
def State.inHere (s : State) (n : Nat) : Bool := decide (32 ≤ n) || s.has .dio

/-- DI_RAW_TRANSITION: a raw level changes (R413): its time, less 3 µs at 1 µs resolution, is a candidate stamp, unless the other
level has lasted less than Threshold × Tick and an earlier candidate stands. -/
def execDiRawTransition (dt n : Nat) (level : Bool) (s : State) : Host.Outcome State Fault Refusal :=
  let s := s.elapse dt
  if 36 ≤ n then .next s
  else if !s.inHere n || s.mode == .m0 || (s.din n).level == level then .next s
  else
    let c := s.inConfig n
    let t := s.now / 1000 * 1000 - 3000
    .next (s.modIn n (fun i =>
      let keep := decide (t < i.turned + inThreshold c * inTick c)
      let old := tget i.cand (b2n level) none
      { i with
        level := level, turned := t,
        cand := tset i.cand (b2n level) none (if keep && old.isSome then old else some t) }))

/-- The health point of a DI (R414). -/
def State.inHealth (s : State) (n : Nat) : State :=
  let i := s.din n
  s.publishBp 3 (0x0320 + n) (!(i.wireBreak || i.chatter || s.supplyLost (if n < 16 then 2 else 3))) s.now

/-- The confirmation of an edge (R413, R414, R417, R428). -/
def State.inConfirm (s : State) (n : Nat) (v : Bool) : State :=
  let stamp := (tget (s.din n).cand (b2n v) none).getD (s.din n).turned
  let s := s.modIn n (fun i => { i with state := v })
  if 32 ≤ n then
    let s := s.publishBp 3 (0x03A0 + (n - 32)) v s.now
    if v then
      let s := s.modIn n (fun i => { i with edges := i.edges + 1, lastEdge := stamp })
      let s := { s with al := { s.al with edges := s.al.edges ||| 2 ^ (n - 32) } }
      s.raise 185 [(1, n - 32), (8, stamp)]
    else s
  else
    let s := s.modIn n (fun i => { i with second := i.second + 1 })
    let i := s.din n
    let s := if !i.chatter && decide (s.eff 0x0BE6 < i.second) then
        ((s.modIn n (fun i => { i with chatter := true })).raise 176 [(1, n), (4, i.second)]).inHealth n
      else s
    let s := if (s.din n).chatter then s
      else
        let s := s.modIn n (fun i => { i with edges := i.edges + 1, lastEdge := stamp })
        let s := s.publishAp 3 (0x0340 + n) (s.din n).edges.toNat s.now
        (s.publishAp 3 (0x0360 + 2 * n) (stamp / 2 ^ 32) s.now).publishAp 3 (0x0361 + 2 * n) (stamp % 2 ^ 32) s.now
    (s.publishBp 3 (0x0300 + n) v s.now).inHealth n

/-- What one sample does to counter and state (R412). -/
def inStep (c cfg : Nat) (state raw : Bool) : Nat × Bool :=
  let top := inCeiling cfg
  let c := min c top
  let c := if raw then min top (c + 1) else c - 1
  let v := if raw && decide (inThreshold cfg = c) && !state then true
    else if !raw && decide (c + inThreshold cfg = top) && state then false else state
  (c, v)

/-- A sample of an input at a whole multiple of its Tick (R412): `confirm` says whether it is to be one that confirms an edge. -/
def State.inSample (s : State) (n : Nat) (raw confirm : Bool) : State :=
  let cfg := s.inConfig n
  let i := s.din n
  if !s.inHere n || s.mode == .m0 || !s.onGrid (inTick cfg) || i.sampled == some s.tick then s
  else
    let (c, v) := inStep i.c cfg i.state raw
    if (v != i.state) != confirm then s
    else
      let s := s.modIn n (fun i => { i with c := c, raw := raw, sampled := some s.tick })
      if confirm then s.inConfirm n v else s

/-- DI_FILTER_SAMPLE: the counter moves without reaching a switching level (R412). -/
def execDiFilterSample (dt n : Nat) (raw : Bool) (s : State) : Host.Outcome State Fault Refusal :=
  if 36 ≤ n then .next (s.elapse dt) else .next ((s.elapse dt).inSample n raw false)

/-- DI_EDGE_CONFIRMED: the sample at which the counter reaches its switching level (R412–R414). -/
def execDiEdgeConfirmed (dt n : Nat) (raw : Bool) (s : State) : Host.Outcome State Fault Refusal :=
  if 36 ≤ n then .next (s.elapse dt) else .next ((s.elapse dt).inSample n raw true)

/-- ACK_EDGE: the sample that confirms a rising edge of an acknowledge input (R428). -/
def execAckEdge (dt k : Nat) (s : State) : Host.Outcome State Fault Refusal :=
  if 4 ≤ k then .next (s.elapse dt) else .next ((s.elapse dt).inSample (32 + k) true true)

/-- CHATTER_SECOND_END: at a whole second CHATTER clears where at most ChatterLimit edges were confirmed in it (R417). -/
def execChatterSecondEnd (dt : Nat) (s : State) : Host.Outcome State Fault Refusal :=
  let s := s.elapse dt
  if !s.onGrid 1000000000 then .next s
  else .next ((List.range 32).foldl (fun s n =>
    let i := s.din n
    let clear := i.chatter && decide (i.second ≤ s.eff 0x0BE6)
    let s := s.modIn n (fun i => { i with second := 0, chatter := i.chatter && !clear })
    if clear then s.inHealth n else s) s)

/-- WIRE_BREAK_TIMEOUT: the current of an open contact, in µA, has stayed on the other side of 0.3 mA for WireBreakDelay (R415). -/
def execWireBreakTimeout (dt n ua : Nat) (s : State) : Host.Outcome State Fault Refusal :=
  let s := s.elapse dt
  if 32 ≤ n then .next s
  else if !s.has .dio || s.mode == .m0 || !bit (s.inConfig n) 31 || (s.din n).state ||
      s.supplyLost (if n < 16 then 2 else 3) then .next s
  else
    let low := decide (ua < 300)
    if low == (s.din n).wireBreak then .next s
    else
      let s := s.modIn n (fun i => { i with wireBreak := low })
      let s := if low then s.raise 178 [(1, n), (4, ua)] else s
      .next (s.inHealth n)

/-! ## Sensed supplies (R416, R424) -/

/-- A sensed supply changes: FLD1 0, FLD2 1, VS1 2, VS2 3, with its voltage (binary32). -/
def State.setSupply (s : State) (k : Nat) (lost : Bool) (volt : Nat) : State :=
  { s with dio := { s.dio with lost := s.dio.lost.set k lost, there := s.dio.there.set k (!lost), volts := s.dio.volts.set k volt } }

/-- The health points of a sensor supply's group. -/
def State.groupHealth (s : State) (g : Nat) : State :=
  if s.has .dio then ((List.range 16).map (16 * g + ·)).foldl State.inHealth s else s

/-- SENSOR_SUPPLY_LOST: VS1 (0) or VS2 (1) below 15.0 V for 10 ms (R416). -/
def execSensorSupplyLost (dt g volt : Nat) (s : State) : Host.Outcome State Fault Refusal :=
  let s := s.elapse dt
  if 2 ≤ g then .next s
  else if s.mode == .m0 || !flt fmt32 volt (f32 15 1) then .next s
  else
    let was := s.supplyLost (2 + g)
    let s := s.setSupply (2 + g) true volt
    if was then .next s else .next ((s.raise 177 [(1, g + 1), (4, volt)]).groupHealth g)

/-- SENSOR_SUPPLY_RECOVERED: above 16.0 V for 10 ms (R416). -/
def execSensorSupplyRecovered (dt g volt : Nat) (s : State) : Host.Outcome State Fault Refusal :=
  let s := s.elapse dt
  if 2 ≤ g then .next s
  else if s.mode == .m0 || !flt fmt32 (f32 16 1) volt then .next s
  else .next ((s.setSupply (2 + g) false volt).groupHealth g)

/-- FIELD_SUPPLY_LOST: FLD1 (0) or FLD2 (1) below 16.0 V for 2 ms (R424). -/
def execFieldSupplyLost (dt k volt : Nat) (s : State) : Host.Outcome State Fault Refusal :=
  let s := s.elapse dt
  if 2 ≤ k then .next s
  else if s.mode == .m0 || !flt fmt32 volt (f32 16 1) then .next s
  else
    let was := s.supplyLost k
    let s := s.setSupply k true volt
    if was then .next s else .next (s.raise 183 [(1, k + 1), (4, volt)])

/-- FIELD_SUPPLY_RESTORED: above 17.0 V for 10 ms (R424). -/
def execFieldSupplyRestored (dt k volt : Nat) (s : State) : Host.Outcome State Fault Refusal :=
  let s := s.elapse dt
  if 2 ≤ k then .next s
  else if s.mode == .m0 || !flt fmt32 (f32 17 1) volt then .next s
  else .next (s.setSupply k false volt)

/-! ## Outputs (R420–R424) -/

/-- The field supply of a switch is lost; the call lines do not depend on it (R424, R427). -/
def State.swUnfed (s : State) (m : Nat) : Bool := decide (m < 32) && s.supplyLost (if m < 16 then 0 else 1)

/-- A protective turn-off of an output (R421): a retry that failed counts, and RetryCount failures, or a RetryCount of 0, latch it
off. `cause`: 1 overcurrent, 2 thermal. -/
def State.doTrip (s : State) (m cause : Nat) : State :=
  let w := s.sw m
  let n := if w.retrying then min 15 (w.retries + 1) else w.retries
  let lim := bits (s.doConfig m) 23 4
  let latch := lim == 0 || (w.retrying && decide (lim ≤ n))
  let num := if w.retrying then n else 0
  let s := s.modSw m (fun w => { w with
    overcur := w.overcur || cause == 1, thermal := w.thermal || cause == 2, retries := n, retrying := false,
    latched := latch, retryFrom := if latch then none else some s.tick })
  let s := s.raise (178 + cause) [(1, m), (1, num)]
  if latch then s.raise 182 [(1, m), (1, cause)] else s

/-- DO_OVERCURRENT: the current limit has held for 1 ms (R421). -/
def execDoOvercurrent (dt m : Nat) (s : State) : Host.Outcome State Fault Refusal :=
  let s := s.elapse dt
  if 32 ≤ m then .next s
  else if s.swOn m && !s.swUnfed m then .next (s.doTrip m 1) else .next s

/-- DO_THERMAL_SHUTDOWN: the junction has reached 170 °C (R421). -/
def execDoThermalShutdown (dt m : Nat) (s : State) : Host.Outcome State Fault Refusal :=
  let s := s.elapse dt
  if 32 ≤ m then .next s
  else if s.swOn m && !s.swUnfed m then .next (s.doTrip m 2) else .next s

/-- The switch is on again (R421, R427): its fault flags are gone until it trips again (log 18). -/
def State.swRetry (s : State) (m : Nat) : State :=
  s.modSw m (fun w => { w with overcur := false, thermal := false, retryFrom := none, retrying := true, onAt := s.tick })

/-- A retry is due: the delay has passed, and after a thermal shutdown the junction is below 150 °C (R421). -/
def State.retryDue (s : State) (m delay junction : Nat) : Bool :=
  let w := s.sw m
  (match w.retryFrom with | some t => s.since t delay | none => false) &&
    (!w.thermal || flt fmt32 junction (f32 150 1)) && s.swCommand m && !s.swUnfed m

/-- DO_RETRY: after DoRetryDelay the switch tries again (R421). -/
def execDoRetry (dt m junction : Nat) (s : State) : Host.Outcome State Fault Refusal :=
  let s := s.elapse dt
  if 32 ≤ m then .next s
  else if s.retryDue m (s.eff 0x0BE3 * Config.ticksPerMs) junction then .next (s.swRetry m) else .next s

/-- DO_FAULT_FREE_SECOND: an output on without fault for 1 s has its retry count reset (R421). -/
def execDoFaultFreeSecond (dt m : Nat) (s : State) : Host.Outcome State Fault Refusal :=
  let s := s.elapse dt
  if 32 ≤ m then .next s
  else if s.swOn m && s.since (s.sw m).onAt Config.ticksPerSecond then
    .next (s.modSw m (fun w => { w with retries := 0, retrying := false }))
  else .next s

/-- A write to DoFaultClear (R421): latched outputs of the mask are released, and one that is commanded on tries at once, as its
first retry. -/
def State.doFaultClear (s : State) (mask : Nat) : State :=
  (List.range 32).foldl (fun s m =>
    if bit mask m && (s.sw m).latched then
      let s := s.modSw m (fun w => { w with latched := false, retries := 0 })
      if s.swCommand m then s.swRetry m else s
    else s) s

/-- Judging of a readback is suspended (R423). -/
def State.rbSuspended (s : State) (m : Nat) : Bool :=
  let w := s.sw m
  s.swUnfed m || w.overcur || w.thermal || w.latched

/-- DO_READBACK_MISMATCH: the readback, now `level`, has differed from the expected state for the slew time plus ReadbackDelay
(R423). -/
def execDoReadbackMismatch (dt m : Nat) (level : Bool) (s : State) : Host.Outcome State Fault Refusal :=
  let s := s.elapse dt
  if 32 ≤ m then .next s
  else if !s.has .dio || s.mode == .m0 then .next s
  else
    let s := s.modSw m (fun w => { w with readback := level })
    if s.rbSuspended m || (s.sw m).readbackFault || level == s.doExpected m then .next s
    else
      .next ((s.modSw m (fun w => { w with readbackFault := true })).raise 181
        [(1, m), (1, b2n (s.doCommand m)), (1, b2n (s.sw m).peer), (1, b2n level)])

/-- DO_READBACK_FAULT_CLEAR: readback and expected state have agreed for ReadbackDelay (R423). -/
def execDoReadbackFaultClear (dt m : Nat) (level : Bool) (s : State) : Host.Outcome State Fault Refusal :=
  let s := s.elapse dt
  if 32 ≤ m then .next s
  else if !s.has .dio || s.mode == .m0 then .next s
  else
    let s := s.modSw m (fun w => { w with readback := level })
    if s.rbSuspended m || level != s.doExpected m then .next s
    else .next (s.modSw m (fun w => { w with readbackFault := false }))

/-! ## Call lines (R427) -/

/-- CALL_OUTPUT_FAULT: a call line trips (1 overcurrent, 2 thermal) or its readback differs (3) (R427). -/
def execCallOutputFault (dt c cause : Nat) (level : Bool) (s : State) : Host.Outcome State Fault Refusal :=
  let s := s.elapse dt
  if 2 ≤ c ∨ cause = 0 ∨ 3 < cause then .next s
  else
    let m := 32 + c
    let s := s.modSw m (fun w => { w with readback := level })
    let hit := if cause = 3 then !s.rbSuspended m && !(s.sw m).readbackFault && level != s.doExpected m else s.swOn m
    if !hit || s.mode == .m0 then .next s
    else
      let s := s.modSw m (fun w =>
        if cause = 3 then { w with readbackFault := true }
        else { w with
          overcur := w.overcur || cause == 1, thermal := w.thermal || cause == 2, retryFrom := some s.tick })
      let s := { s with dio := { s.dio with callFaults := s.dio.callFaults.set c (wrapInc 32 (s.dio.callFaults.getD c 0)) } }
      .next (s.raise 184 [(1, c), (1, cause)])

/-- CALL_RETRY: every 1 s a faulted call line tries again, without limit (R427); a readback that agrees again is no fault. -/
def execCallRetry (dt c junction : Nat) (s : State) : Host.Outcome State Fault Refusal :=
  let s := s.elapse dt
  if 2 ≤ c then .next s
  else
    let m := 32 + c
    let s := if (s.sw m).readbackFault && (s.sw m).readback == s.doExpected m then
        s.modSw m (fun w => { w with readbackFault := false })
      else s
    if s.retryDue m Config.ticksPerSecond junction then
      .next ((s.swRetry m).modSw m (fun w => { w with retrying := false }))
    else .next s

/-! ## At an I/O bus frame boundary -/

/-- The readbacks as they stand at a frame boundary (bit m for DOm, bits 32 and 33 for the call lines) are published, and the time
of a call line that is on is counted (R414, R429). -/
def State.dioFrame (s : State) (rb t : Nat) : State :=
  let s := (List.range 34).foldl (fun s m =>
    if m < 32 ∧ s.has .dio = false then s
    else
      let v := bit rb m
      (s.modSw m (fun w => { w with readback := v })).publishBp 3 (if m < 32 then 0x03B0 + m else 0x03D0 + (m - 32)) v t) s
  (List.range 2).foldl (fun s c =>
    if s.swOn (32 + c) then
      let (sec, tk) := s.dio.callOn.getD c (0, 0)
      let tk := tk + 31250
      let n := ((sec + tk / Config.ticksPerSecond) % 2 ^ 32, tk % Config.ticksPerSecond)
      { s with dio := { s.dio with callOn := s.dio.callOn.set c n } }
    else s) s

end Sys2Proof.Machine
end

