-- ==== Sys2Proof/Machine/Panel.lean ====
section
/-!
DEFINITION. The annunciator panel drive (R470–R487): what each segment should show, regions and their updates, blink, rails,
bands, wear and PANEL_UPDATE.
-/
namespace Sys2Proof.Machine

/-- Change the panel's state. -/
def State.modPnl (s : State) (f : Panel → Panel) : State := { s with pnl := f s.pnl }
/-- Change one region. -/
def State.modRegion (s : State) (r : Nat) (f : PnlRegion → PnlRegion) : State :=
  s.modPnl (fun p => { p with region := tmod p.region r {} f })
/-- SegConfig (R475). -/
def State.segCfg (s : State) (k : Nat) : Nat := s.eff (0x0E00 + k)
/-- A segment is driven: Enable, and SEG127 always (R475, R476). -/
def State.segOn (s : State) (k : Nat) : Bool := bit (s.segCfg k) 63 || k == 127
/-- The enabled segments of a region. -/
def State.regionSegs (s : State) (r : Nat) : List Nat :=
  (List.range 128).filter (fun k => s.segOn k && bits (s.segCfg k) 60 3 == r)

/-- The blink phase at `t` is an off half (R477). -/
def State.blinkOff (s : State) (t : Nat) : Bool :=
  s.eff 0x0EC8 == 1 && (t / (s.eff 0x0EC9 * 1000000)) % 2 == 1

/-- The wanted state of a segment at a frame boundary `t` (R476): dark is true. -/
def State.segWanted (s : State) (t k : Nat) : Bool :=
  if k = 127 then s.forceCount != 0
  else
    let c := s.segCfg k
    let pt := fun p => (tget s.pts.bp p {}).atTime t != 0
    let base := match bits c 56 2 with | 1 => true | 2 => false | _ => pt (c % 65536)
    let blinks := bits c 54 2 == 1 && pt (c % 65536) && pt (bits c 16 16)
    base && !(blinks && s.blinkOff t)

/-- The wanted picture of a region at `t`. -/
def State.wanted (s : State) (t r : Nat) : Nat :=
  (s.regionSegs r).foldl (fun a k => if s.segWanted t k then a + 2 ^ k else a) 0

/-- The segments as a mask. -/
def segMask (l : List Nat) : Nat := l.foldl (fun a k => a + 2 ^ k) 0

/-! ## Temperature -/

/-- The panel temperature T, binary32 (R474): none where it is not valid. -/
def State.panelT (s : State) : Option Nat :=
  let p := s.eff 0x0EC1
  if p = 0xFFFF then (if s.has .ai && !s.ai.cjFault && fisFin fmt32 s.ai.cj then some s.ai.cj else none)
  else
    let v := s.ap p
    if fisFin fmt32 v then some v else none

/-- The raw band of T (R474). -/
def State.rawBand (s : State) (t : Nat) : Nat :=
  let x := fdiv fmt64 (fsub fmt64 (f32to64 t) (s.effF 0x0EC2)) (s.effF 0x0EC3)
  let (n, d) := fratio fmt64 x
  (max 0 (min 15 (Int.fdiv n (d : Int)))).toNat

/-- The temperature is read at a whole second (R474). -/
def State.panelTemp (s : State) : State :=
  let sec := s.now / 1000000000
  if !s.has .pnl || !s.onGrid 1000000000 || s.pnl.tempAt == some sec then s
  else
    let s := s.modPnl (fun p => { p with tempAt := some sec })
    match s.panelT with
    | none => s
    | some t =>
      let b := s.panelBand
      let lo := fadd fmt64 (s.effF 0x0EC2) (fmul fmt64 (ofInt fmt64 b) (s.effF 0x0EC3))
      let hi := fadd fmt64 lo (s.effF 0x0EC3)
      let v := f32to64 t
      let out := flt fmt64 v (fsub fmt64 lo (s.effF 0x0EC4)) || flt fmt64 (fadd fmt64 hi (s.effF 0x0EC4)) v
      let nb := if out then s.rawBand t else b
      let s := s.modPnl (fun p => { p with temp := t, band := some nb })
      if nb = b then s else s.raise 227 [(1, b), (1, nb), (4, t)]

/-! ## Requests -/

/-- A PANEL_UPDATE whose request is replaced completes with SUPERSEDED (R478, R482). -/
def State.panelSuperseded (s : State) (r op : Nat) : State :=
  match s.pnl.ops.find? (·.1 == op) with
  | none => s
  | some (_, _, _, tag) =>
    let s := s.modPnl (fun p => { p with ops := p.ops.filter (·.1 != op) })
    (s.complete op .superseded).raise 226 [(1, r), (2, tag)]

/-- A request enters a region (R478): it replaces the queued one and takes the union of the refresh flags. -/
def State.panelRequest (s : State) (r picture : Nat) (refresh : Bool) (host : List Nat) : State :=
  match (s.region r).queued with
  | none => s.modRegion r (fun g => { g with queued := some ⟨picture, refresh, host⟩ })
  | some q =>
    let s := s.modRegion r (fun g => { g with
      queued := some ⟨picture, refresh || q.refresh, host⟩, superseded := g.superseded + 1 })
    q.host.foldl (fun s op => s.panelSuperseded r op) s

/-- The automatic request of a region at a frame boundary `t` (R478). -/
def State.panelAuto (s : State) (t r : Nat) : State :=
  if !bit (s.eff (0x0E80 + 8 * r)) 31 then s
  else
    let segs := s.regionSegs r
    let m := segMask segs
    let w := s.wanted t r
    let g := s.region r
    let cmp := match g.queued, g.run with
      | some q, _ => q.picture
      | none, some u => u.picture
      | none, none => s.pnl.shown &&& m
    let unk := g.queued.isNone && g.run.isNone && (s.pnl.unknown &&& m) != 0
    if (w &&& m) != (cmp &&& m) || unk then s.panelRequest r w false [] else s

/-! ## Updates -/

/-- The entry an update takes for a segment (R478, R479, R472): its number. -/
def waveEntry (band : Nat) (old new : Bool) : Nat := 4 * band + 2 * b2n old + b2n new

/-- What an update does with the segments of its region in a band (R479): driven segments with entry number, entry image and
whether its states differ; the picture it will show; the segments whose change is refused, with the entry. -/
def State.panelPlan (s : State) (r band picture : Nat) (refresh : Bool) :
    List (Nat × Nat × Nat × Bool) × Nat × List (Nat × Nat) :=
  (s.regionSegs r).foldl (fun (l, pic, no) k =>
    let new := bit picture k
    let old := if refresh || bit s.pnl.unknown k then !new else bit s.pnl.shown k
    let n := waveEntry band old new
    let e := s.entry 0x0007 n
    if fld e 0x10 0 8 = 0 then
      if old = new then (l, if new then pic + 2 ^ k else pic, no)
      else (l, if bit s.pnl.shown k then pic + 2 ^ k else pic, no ++ [(k, n)])
    else (l ++ [(k, n, e, old != new)], if new then pic + 2 ^ k else pic, no)) (([] : List (Nat × Nat × Nat × Bool)), 0, ([] : List (Nat × Nat)))

/-- An update ends (R479, R482, R484): the shown picture takes its picture, wear is counted, PANEL_UPDATEs complete. -/
def State.panelEnd (s : State) (t r : Nat) (u : PnlRun) : State :=
  let driven := segMask (u.segs.map Prod.fst)
  let s := s.modPnl (fun p => { p with
    shown := (p.shown - (p.shown &&& u.mask)) + (u.picture &&& u.mask), unknown := p.unknown - (p.unknown &&& driven) })
  let s := s.modRegion r (fun g => { g with run := none, updates := g.updates + 1, lastDone := t })
  let s := u.segs.foldl (fun s (k, _, _, diff) =>
    if !diff then s
    else
      let s := s.modPnl (fun p => { p with wear := tmod p.wear k 0 (· + 1) })
      if s.eff 0x0ED3 ≤ tget s.pnl.wear k 0 ∧ !bit s.pnl.worn k then
        (s.modPnl (fun p => { p with worn := p.worn + 2 ^ k })).raise 228 [(1, k), (8, tget s.pnl.wear k 0)]
      else s) s
  u.host.foldl (fun s op =>
    match s.pnl.ops.find? (·.1 == op) with
    | none => s
    | some (_, mask, left, tag) =>
      let left := left - (left &&& 2 ^ r)
      if left = 0 then
        let s := s.modPnl (fun p => { p with ops := p.ops.filter (·.1 != op) })
        (s.complete op .ok (beBytes 1 u.band ++ beBytes 3 0 ++ beBytes 8 t)).raise 225 [(1, mask), (1, u.band), (8, t)]
      else s.modPnl (fun p => { p with ops := (p.ops.filter (·.1 != op)) ++ [(op, mask, left, tag)] })) s

/-- An update begins at boundary `t`, frame `f` (R479, R483): the owner announces it; one of no frames ends at once. -/
def State.panelStart (s : State) (t f r band picture : Nat) (refresh : Bool) (host : List Nat) (mine : Bool) : State :=
  let (segs, pic, no) := s.panelPlan r band picture refresh
  let frames := segs.foldl (fun a (_, _, e, _) => max a (fld e 0x10 0 8)) 0
  let u : PnlRun := ⟨band, f, frames, pic, refresh, host, segs.map (fun (k, _, e, d) => (k, bits (s.segCfg k) 58 2, e, d)),
    segMask (s.regionSegs r)⟩
  let s := s.modRegion r (fun g => { g with run := some u, queued := none })
  let s := ((segs.map (fun (_, n, _, _) => n)).eraseDups).foldl (fun s n =>
    s.modPnl (fun p => { p with uses := tmod p.uses n 0 (satInc 32) })) s
  let s := if mine && s.pair.sync then s.announce 8 [r, band, f, picture, b2n refresh] else s
  let s := no.foldl (fun s (_, n) => s.raise 229 [(1, r), (1, band), (1, n), (2, fld (s.entry 0x0007 n) 0x12 0 16)]) s
  if frames = 0 then s.panelEnd t r u else s

/-- The region's queued request starts where it may (R478, R480). -/
def State.panelTryStart (s : State) (t f r : Nat) : State :=
  let g := s.region r
  match g.run, g.queued with
  | none, some q =>
    if s.panelDrives && s.pnl.good == [true, true] then s.panelStart t f r s.panelBand q.picture q.refresh q.host true else s
  | _, _ => s

/-- One region at a panel frame boundary: an update that is over ends, automatic requests are made, and what may start starts
(R476–R479). -/
def State.panelRegion (s : State) (t f r : Nat) : State :=
  let s := match (s.region r).run with
    | some u => if u.start + u.frames ≤ f then s.panelEnd t r u else s
    | none => s
  let s := if s.panelOwner || s.pair.sync then s.panelAuto t r else s
  s.panelTryStart t f r

/-- A panel frame boundary (R471): a whole multiple of 20 ms, served once. The temperature comes first (R474). -/
def State.panelFrame (s : State) : State :=
  let f := s.now / 20000000
  let live := match s.mode with | .m0 | .m1 | .m11 => false | _ => true
  if !s.has .pnl || !live || !s.onGrid 20000000 || s.pnl.frame == some f then s
  else
    let s := (s.panelTemp).modPnl (fun p => { p with frame := some f, owner := s.panelOwner })
    (List.range 8).foldl (fun s r => s.panelRegion (f * 20000000) f r) s

/-- Every running update is abandoned (R480, R483): the segments being driven become UNKNOWN; a PANEL_UPDATE stays with a request
made anew. Answers how many there were. -/
def State.panelAbandon (s : State) : Nat × State :=
  (List.range 8).foldl (fun (n, s) r =>
    match (s.region r).run with
    | none => (n, s)
    | some u =>
      let driven := segMask (u.segs.map Prod.fst)
      let s := s.modPnl (fun p => { p with unknown := p.unknown ||| driven })
      let s := s.modRegion r (fun g => { g with
        run := none
        queued := if u.host.isEmpty then g.queued else match g.queued with
          | some q => some { q with host := u.host ++ q.host }
          | none => some ⟨u.picture, u.refresh, u.host⟩ })
      (n + 1, s)) (0, s)

/-- The other module has begun an update (R483). -/
def State.panelTrack (s : State) (r band start picture : Nat) (refresh : Bool) : State :=
  if !s.has .pnl || s.panelOwner || 8 ≤ r then s
  else
    let host := match (s.region r).queued with | some q => q.host | none => []
    s.panelStart (start * 20000000) start r band picture refresh host false

/-! ## Rows -/

/-- PANEL_FRAME (R471, R476–R479). -/
def execPanelFrame (dt : Nat) (s : State) : Host.Outcome State Fault Refusal := .next (s.elapse dt).panelFrame

/-- PANEL_UPDATE_END: the panel frame at which a region's update ends (R479). -/
def execPanelUpdateEnd (dt r : Nat) (s : State) : Host.Outcome State Fault Refusal :=
  let s := s.elapse dt
  if 8 ≤ r then .next s
  else match (s.region r).run with
    | some u => .next (if u.start + u.frames ≤ s.now / 20000000 then s.panelFrame else s)
    | none => .next s

/-- PANEL_TEMPERATURE_READ (R474). -/
def execPanelTemperatureRead (dt : Nat) (s : State) : Host.Outcome State Fault Refusal :=
  let s := s.elapse dt
  .next (if s.mode = .m0 then s else s.panelTemp)

/-- BLINK_HALF: the panel frame at which a blink half begins (R477). -/
def execBlinkHalf (dt : Nat) (s : State) : Host.Outcome State Fault Refusal :=
  let s := s.elapse dt
  .next (if s.eff 0x0EC8 == 1 && s.onGrid (s.eff 0x0EC9 * 1000000) then s.panelFrame else s)

/-- The voltage of a rail, in units of 0.125 V, lies inside its window (R480). -/
def railIn (v : Nat) : Bool := decide (108 ≤ v ∧ v ≤ 132)

/-- PANEL_RAIL_FAULT: a rail has stayed outside its window for 2 ms (R480). -/
def execPanelRailFault (dt k v : Nat) (s : State) : Host.Outcome State Fault Refusal :=
  let s := s.elapse dt
  if 2 ≤ k then .next s
  else if !s.has .pnl || railIn v || !(s.pnl.good.getD k false) then .next s
  else
    let s := s.modPnl (fun p => { p with good := p.good.set k false, volts := p.volts.set k (min 255 v) })
    let (n, s) := s.panelAbandon
    .next (s.raise 224 [(1, k), (1, min 255 v), (1, n)])

/-- PANEL_RAIL_GOOD: a rail has stayed inside its window for 100 ms (R480). -/
def execPanelRailGood (dt k v : Nat) (s : State) : Host.Outcome State Fault Refusal :=
  let s := s.elapse dt
  if 2 ≤ k then .next s
  else if !s.has .pnl || !railIn v then .next s
  else .next (s.modPnl (fun p => { p with good := p.good.set k true, volts := p.volts.set k v }))

/-- A PANEL_UPDATE takes effect (R482): one request in each named region. -/
def panelUpdateApply (op : Option Nat) (b : List Byte) (_ : U32) (s : State) : State :=
  let m := beAt b 0 1
  let rs := (List.range 8).filter (fun r => bit m r)
  match op with
  | none => rs.foldl (fun s r => s.panelRequest r (s.wanted s.now r) (beAt b 1 1 == 2) []) s
  | some id =>
    let tag := match s.mbx.async.find? (fun o => o.id == id) with | some o => o.tag | none => 0
    let s := s.modPnl (fun p => { p with ops := p.ops ++ [(id, m, m, tag)] })
    rs.foldl (fun s r => s.panelRequest r (s.wanted s.now r) (beAt b 1 1 == 2) [id]) s

/-- PANEL_UPDATE (R482). -/
def panelUpdateCmd : Cmd := { Cmd.plain 0x0078 (fun r s => runAsync panelUpdateApply r s) with
  absent := fun _ s => if s.has .pnl then none else some noPos
  malformed := fun r _ => if r.body.length ≠ 4 ∨ beAt r.body 2 2 ≠ 0 then some noPos else none
  unready := fun _ s => if s.mode = .m4 ∨ s.mode = .m5 ∨ s.panelOwner then none else some noPos
  value := fun r s =>
    let m := beAt r.body 0 1
    let op := beAt r.body 1 1
    if m = 0 ∨ op = 0 ∨ 2 < op then some (.range, noPos)
    else if (List.range 8).any (fun r => bit m r && (s.regionSegs r).isEmpty) then some (.badParameter, noPos)
    else if s.pnl.good ≠ [true, true] then some (.notReady, noPos) else none
  async := fun _ _ => true
  pair := alwaysPair
  apply := panelUpdateApply }

/-- PANEL_UPDATE. -/
def execPanelUpdate (dt : Nat) (p : Packet) (s : State) : Host.Outcome State Fault Refusal :=
  execMail panelUpdateCmd (fun d => codeIs 0x0078 d && beAt d 49 1 != 2) dt p s
/-- PANEL_UPDATE with Op 2, refresh. -/
def execPanelRefresh (dt : Nat) (p : Packet) (s : State) : Host.Outcome State Fault Refusal :=
  execMail panelUpdateCmd (fun d => codeIs 0x0078 d && beAt d 49 1 == 2) dt p s

end Sys2Proof.Machine
end

