-- ==== Sys2Proof/Machine/ImageCheck.lean ====
section
/-!
DEFINITION. The checks a parameter value, a table entry and a whole configuration image pass (R49, R57, R77, R107, R124, R125,
R167, R181, R196, R226, R231, R239, R334, R346, R347, R351, R352, R366, R367, R387, R391, R400, R403, R419, R420, R426, R436,
R439, R464, R468, R473, R501).
-/
namespace Sys2Proof.Machine

/-- A failure: status, table (0 for a parameter), parameter index, table entry (R52). -/
abbrev Fail := Status × Nat × Nat × Nat

/-- The first failure of a list of checks. -/
def firstFail {α : Type} : List (Unit → Option α) → Option α
  | [] => none
  | f :: t => match f () with
    | some a => some a
    | none => firstFail t

/-- A check: a condition and the status it refuses with. -/
def bad (c : Bool) (st : Status) : Unit → Option Status := fun _ => if c then some st else none

/-! ## Parameters -/

/-- A value of a parameter needs a unit the module does not have (R125, R239, R420). -/
def State.valueAbsent (s : State) (i v : Nat) : Bool :=
  if 0x0300 ≤ i ∧ i < 0x03C0 ∧ (i - 0x0300) % 6 = 0 then
    (bits v 16 2 == 1 && !s.has .phs) || (bits v 16 2 == 2 && bits v 10 2 == 1 && !s.has .ai)
  else if 0x0600 ≤ i ∧ i < 0x0680 ∧ (i - 0x0600) % 16 = 2 then v != 0 && !s.has .dio
  else if 0x0B61 ≤ i ∧ i ≤ 0x0BBF ∧ (i - 0x0B61) % 3 = 0 then bits v 29 2 == 1 && !s.has .phs
  else false

/-- The running program declares a point with a producer (R121). -/
def Program.declares (p : Program) (binary : Bool) (n kind producer : Nat) : Bool :=
  match p.declOf binary n with
  | some d => d.kind == kind && d.producer == producer
  | none => false

/-- Is a point declared at all? -/
def Program.has (p : Program) (binary : Bool) (n : Nat) : Bool := (p.declOf binary n).isSome

/-- A binary32 greater than or equal to, as exact numbers: `a × k ≤ b`. -/
def fmulLe (a k b : Nat) : Bool :=
  let (n, d) := fratio fmt32 a
  decide (n * k ≤ b * d)

/-- The gains a range allows (R357). -/
def gainOk (range gain : Nat) : Bool :=
  match range with
  | 0 => gain ≤ 4
  | 2 => gain == 0
  | 3 => 5 ≤ gain
  | _ => true

/-- One sequence entry of CVc against the channel settings (R366, R367). -/
def seqEntryBad (g : Nat → Nat) (c e : Nat) : Option Status :=
  if 4 ≤ seqInput e then (if seqPhase e ≠ 0 then some .badParameter else none)
  else
    let cfg := g (0x0900 + 4 * (4 * c + seqInput e))
    let osr := seqOsr e
    -- P and the window of 4 P, in 1/8.192 ns units so that no rounding enters: times 8,192,000 per second
    let fits := bits cfg 8 8 * 10000 * 8192 + (seqCount e + 4) * osr * 1000000 ≤ (bits cfg 16 8 * 250000 - 1000) * 8192
    firstFail [
      bad (!gainOk (aiRange cfg) (seqGain e)) .range,
      bad (aiExcited cfg && seqPhase e == 0) .badParameter,
      bad (!aiExcited cfg && seqPhase e != 0) .badParameter,
      bad (aiExcited cfg && !decide fits) .badParameter]

/-- Entries j of CVc that are in use, of a set of parameters. -/
def seqUsed (g : Nat → Nat) (c : Nat) : List Nat := List.range (min 16 (bits (g (0x0980 + 12 * c)) 24 5))

/-- Entry j of CVc in a set of parameters (R365). -/
def seqAt (g : Nat → Nat) (c j : Nat) : Nat := bits (g (0x0981 + 12 * c + j / 2)) (32 * (j % 2)) 32

/-- The entries of a converter that use a channel pass their checks (R367). -/
def seqChannelBad (g : Nat → Nat) (n : Nat) : Option Status :=
  (((seqUsed g (n / 4)).filter (fun j => seqInput (seqAt g (n / 4) j) == n % 4)).filterMap
    (fun j => seqEntryBad g (n / 4) (seqAt g (n / 4) j))).head?

/-- A contiguous mask from /8 to /30 (R436). -/
def maskOk (m : Nat) : Bool := (List.range 23).any (fun k => m == (2 ^ 32 - 2 ^ (24 - k)))

/-- The budget range of a requester (R351). -/
def budgetOk (q v : Nat) : Bool :=
  if q < 10 then v == 0 || decide (200 ≤ v ∧ v ≤ 20000)
  else
    let (lo, hi) := [(1000, 8000), (1000, 8000), (2500, 8000), (4000, 12000), (500, 8000), (250, 4000), (1000, 8000),
      (0, 4000)].getD (q - 10) (0, 0)
    decide (lo ≤ v ∧ v ≤ hi)

/-- The sum of the budgets of a set of parameters: of the pairs, those of logical pairs whose pair serves (R347, R351). -/
def State.budgetSum (s : State) (g : Nat → Nat) : Nat :=
  (List.range 18).foldl (fun a q =>
    if q < 10 && !s.pairServes (s.annex.pairRemap.getD q q) then a else a + g (0x0860 + 4 * q)) 0

/-- The checks of parameter `i` against the others of its set `g`, at write (R77 step 8) and at COMMIT_CONFIG. -/
def State.paramCross (s : State) (prog : Option Program) (g : Nat → Nat) (i : Nat) : Option Status :=
  let v := g i
  if 0x0300 ≤ i ∧ i < 0x03C0 ∧ (i - 0x0300) % 6 = 0 then
    firstFail [bad (bits v 16 2 == 2 && bits v 10 2 == 0 && bits v 8 2 == 0) .range, bad (decide (8 ≤ bits v 0 4)) .range]
  else if 0x0400 ≤ i ∧ i < 0x0480 then
    let b := i - i % 32
    let kind := bits (g b) 28 3
    let res := g (b + 1)
    match i % 32 with
    | 0 => bad (kind == 1 && !(bits v 22 2 == 1 || bits v 22 2 == 2)) .range ()
    | 1 => firstFail [bad (kind == 0 && !(decide (4 ≤ v ∧ v ≤ 1048576 ∧ v % 4 = 0))) .range,
        bad (kind == 1 && !(decide (8 ≤ v ∧ v ≤ 1024))) .range]
    | 3 => firstFail [bad (flt fmt32 v (f32 1 1000) || flt fmt32 (g (b + 4)) v) .range,
        bad (kind == 2 && flt fmt32 v (f32 45 1)) .range]
    | 4 => firstFail [bad (!flt fmt32 (g (b + 3)) v) .range, bad (kind == 2 && flt fmt32 (f32 65 1) v) .range,
        bad (decide (kind < 2) && !fmulLe v res 25000000) .range]
    | 5 => bad (kind == 1 && (flt fmt32 v (f32 12 10) || flt fmt32 (f32 (2 * bits (g b) 22 2 + 1) 2) v)) .range ()
    | _ => none
  else if 0x0540 ≤ i ∧ i < 0x0580 ∧ i % 16 = 3 then
    bad (bits (g (i - 3)) 29 2 == 2 && !flt fmt32 (g (i - 1)) v) .range ()
  else if 0x0600 ≤ i ∧ i < 0x0680 then
    match i % 16 with
    | 2 => match prog with
      | some p => bad ((List.range 32).any (fun m => bit v m &&
          !(p.points.any (fun d => d.binary && d.kind == 5 && d.producer == 0x4400 + m)))) .badParameter ()
      | none => none
    | 6 => bad (!bit v 31 && decide (0x7FF < v % 2 ^ 29)) .range ()
    | _ => none
  else if 0x0800 ≤ i ∧ i < 0x0840 then
    match i % 4 with
    | 0 => bad (bit v 0 || bit v 15) .range ()
    | 1 => bad (!bit (g (i - 1)) v) .badParameter ()
    | _ => none
  else if 0x0860 ≤ i ∧ i < 0x08A8 ∧ i % 4 = 0 then
    firstFail [bad (!budgetOk ((i - 0x0860) / 4) v) .range, bad (decide (36000 < s.budgetSum g)) .range]
  else if 0x0900 ≤ i ∧ i < 0x0980 then
    match i % 4 with
    | 0 => firstFail [bad (!aiExcited v && bits v 26 2 != 0) .badParameter,
        bad (decide (bits v 16 8 * 25 ≤ bits v 8 8)) .range,
        fun _ => seqChannelBad g ((i - 0x0900) / 4)]
    | 1 =>
      let lo := toSigned 8 (v / 2 ^ 24)
      let hi := toSigned 8 (v / 2 ^ 16)
      bad (!(decide (-120 ≤ lo ∧ lo < hi ∧ hi ≤ 120))) .range ()
    | _ => none
  else if 0x0980 ≤ i ∧ i < 0x09E0 then
    let c := (i - 0x0980) / 12
    let k := (i - 0x0980) % 12
    let js := (seqUsed g c).filter (fun j => k == 0 || j / 2 == k - 1)
    if k ≤ 8 then ((js.filterMap (fun j => seqEntryBad g c (seqAt g c j)))).head? else none
  else if 0x0A02 ≤ i ∧ i < 0x0A80 ∧ i % 8 = 2 then
    firstFail [bad (!bit v 30 && decide (24575 < v % 65536)) .range, bad (bit v 30 && v % 65536 != 0) .badParameter]
  else if (0x0B00 ≤ i ∧ i < 0x0B60 ∧ (i - 0x0B00) % 3 = 0) ∨ (0x0BC8 ≤ i ∧ i < 0x0BD8 ∧ i % 4 = 0) then
    bad (decide (2 * bits v 8 8 ≤ bits v 16 8 ∨ bits v 16 8 < bits v 8 8)) .range ()
  else if 0x0B61 ≤ i ∧ i < 0x0BC0 ∧ (i - 0x0B61) % 3 = 0 then
    bad (bits v 29 2 != 0 && v % 65536 != 0) .badParameter ()
  else if i = 0x0C20 then bad (bit v 30) .badParameter ()
  else if i = 0x0C02 ∨ i = 0x0C22 ∨ i = 0x0C42 then bad (!maskOk v) .badParameter ()
  else if i = 0x0C03 ∨ i = 0x0C23 then
    bad (v != 0 && (v &&& g (i - 1)) != (g (i - 2) &&& g (i - 1))) .range ()
  else if i = 0x0C61 then
    let sync := toSigned 8 (v / 2 ^ 24)
    let ann := toSigned 8 (v / 2 ^ 16)
    let dly := toSigned 8 (v / 2 ^ 8)
    bad (!(decide (-4 ≤ sync ∧ sync ≤ 1 ∧ 0 ≤ ann ∧ ann ≤ 3 ∧ -4 ≤ dly ∧ dly ≤ 5 ∧ 2 ≤ v % 256 ∧ v % 256 ≤ 10))) .range ()
  else if 0x0D00 ≤ i ∧ i < 0x0D80 ∧ (i % 32 = 1 ∨ i % 32 = 2) then
    bad (!(decide (1 ≤ v % 256 ∧ v % 256 ≤ bits v 8 8))) .range ()
  else if i = 0x0EC4 then bad (!flt fmt32 v (g 0x0EC3)) .range ()
  else none

/-- The parameters whose ranges depend on parameter `i`. -/
def related (i : Nat) : List Nat :=
  if 0x0400 ≤ i ∧ i < 0x0480 then [0, 1, 3, 4, 5].map (fun k => i - i % 32 + k)
  else if 0x0540 ≤ i ∧ i < 0x0580 then [i - i % 16 + 3]
  else if 0x0800 ≤ i ∧ i < 0x0840 then [i - i % 4, i - i % 4 + 1]
  else if 0x0C00 ≤ i ∧ i < 0x0C40 then [i - i % 32 + 3]
  else if i = 0x0EC3 then [0x0EC4]
  else [i]

/-- The checks of one value on its own: reserved bits BAD_PARAMETER, outside its range RANGE (R16, R77, R99). -/
def ParamDef.alone (d : ParamDef) (v : Nat) : Option Status :=
  firstFail [bad (v &&& d.chk.reserved != 0) .badParameter, bad (!d.inRange v) .range]

/-! ## Table entries -/

/-- The parameter indices a snapshot list names (R501). -/
def snapIndices (e : Nat) : List Nat := (List.range (min 32 (fld e 0 0 8))).map (fun k => fld e (8 + 2 * k) 0 16)

/-- An entry needs a unit the module does not have (R77 step 5; R107, R108, R181, R196, R501). -/
def State.entryAbsent (s : State) (t n e : Nat) : Bool :=
  (match tableUnit t n with | some u => !s.has u | none => false) ||
  (match t with
    | 0x0003 => ((bit e 22 || bits e 28 2 == 2) && !s.has .ai) || (bit e 21 && !s.has .ao)
    | 0x0004 =>
      let a := fld e 4 0 8
      (a == 1 && !s.has .ai) || (2 ≤ a && a ≤ 4 && !s.has .dio)
    | 0x0009 => (snapIndices e).any s.absentIdx
    | 0x000E => fld e 0 0 8 == 3 && s.absentIdx (fld e 4 0 16)
    | _ => false)

/-- Reserved bits of an entry: byte offset, lowest bit, width (the layout tables). -/
def entryReserved : Nat → List (Nat × Nat × Nat)
  | 0x0001 => [(0, 0, 19)]
  | 0x0002 => [(0, 0, 30), (0x0E, 3, 5), (0x0F, 0, 8), (0x1C, 0, 32)]
  | 0x0003 => [(0, 0, 19), (0x0B, 0, 8)]
  | 0x0004 => [(5, 1, 3), (0x0E, 0, 16)]
  | 0x0005 => [(8, 24, 2), (8, 0, 20)]
  | 0x0006 => [(2, 0, 16), (4, 0, 32)]
  | 0x0007 => [(0x11, 0, 8), (0x18, 0, 64)]
  | 0x0008 => [(3, 1, 7), (4, 0, 32)]
  | 0x0009 => [(1, 0, 8), (4, 0, 32)]
  | 0x000B => [(2, 0, 7)]
  | 0x000C => [(0, 0, 7)]
  | 0x000D => [(0, 29, 2), (4, 29, 2), (8, 0, 6)]
  | 0x000E => [(2, 0, 16)]
  | _ => []

/-- An entry sets a reserved bit or names an index that is not defined (R77 step 6). -/
def entryMalformed (t e : Nat) : Bool :=
  (entryReserved t).any (fun (off, b, w) => fld e off b w != 0) ||
  (match t with
    | 0x0009 => (snapIndices e).any (fun i => (paramDef i).isNone)
    | 0x000E => fld e 0 0 8 == 3 && (fld e 6 0 16 != 0 || (paramDef (fld e 4 0 16)).isNone)
    | _ => false)

/-- Read-only fields of an entry: byte offset, bytes. A TABLE_WRITE does not change them. -/
def entryRo : Nat → List (Nat × Nat)
  | 0x0001 => [(0x20, 32)]
  | 0x0002 => [(0x08, 24)]
  | 0x0003 => [(0x3C, 68)]
  | 0x0004 => [(0x08, 8)]
  | 0x0005 => [(0x0C, 4)]
  | 0x0007 => [(0x14, 4)]
  | 0x0008 => [(0x03, 1)]
  | 0x000B => [(0x1C, 4)]
  | 0x000D => [(0x0C, 4)]
  | _ => []

/-- The entry as the configuration keeps it: its read-only fields at their reset value. -/
def keepEntry (t n e : Nat) : Nat :=
  (entryRo t).foldl (fun e (off, k) => setFld e off 0 (8 * k) (fld (resetEntry t n) off 0 (8 * k))) e

/-- A binary32 that is not finite. -/
def notFin (v : Nat) : Bool := !fisFin fmt32 v

/-- R226. -/
def alarmEntryBad (prog : Option Program) (e : Nat) : Option Status :=
  let ty := alType e
  let lim := fld e 8 0 32
  let dead := fld e 0x0C 0 32
  let supp := bits e 21 2
  firstFail [
    bad ((ty == 0 && alOn e) || decide (9 ≤ ty)) .range,
    bad (notFin lim || notFin dead || flt fmt32 dead 0) .range,
    bad (decide (5 ≤ ty ∧ ty ≤ 7) && flt fmt32 lim 0) .range,
    bad (decide (360000 < fld e 0x10 0 32 ∨ 360000 < fld e 0x14 0 32 ∨ 511 < alGroup e) ||
      (decide (ty = 5 ∨ ty = 6) && decide (fld e 0x1C 0 16 = 0 ∨ 6000 < fld e 0x1C 0 16))) .range,
    bad ((ty != 8 && decide (24575 < fld e 4 0 16)) || (ty == 7 && decide (24575 < fld e 6 0 16)) ||
      (supp == 1 && decide (511 < fld e 0x1A 0 16))) .range,
    bad (supp == 1 && fld e 0x1A 0 16 == alGroup e) .badParameter,
    fun _ => match prog with
      | none => none
      | some p =>
        if !alOn e then none
        else firstFail [
          bad (!p.has (ty == 8) (fld e 4 0 16)) .badParameter,
          bad (ty == 7 && !p.has false (fld e 6 0 16)) .badParameter,
          bad (decide (2 ≤ supp) && !p.has true (fld e 0x1A 0 16)) .badParameter,
          bad (ty != 8 && (match p.declOf false (fld e 4 0 16) with | some d => d.real != bit e 24 | none => false))
            .badParameter] ]

/-- R231. -/
def groupEntryBad (prog : Option Program) (n e : Nat) : Option Status :=
  let k := bits e 30 2
  firstFail [
    bad (k == 1 && fld e 4 0 16 == n) .badParameter,
    bad (decide (60000 < fld e 6 0 16) || (k == 1 && decide (511 < fld e 4 0 16))) .range,
    fun _ => match prog with
      | some p => bad (decide (2 ≤ k) && !p.has true (fld e 4 0 16)) .badParameter ()
      | none => none ]

/-- The enabled loop records of an image. -/
def Image.loops (img : Image) : List (Nat × Nat) := (img.listed 0x0003).filter (fun (_, e) => bit e 31)

/-- R196, and R387 for the stage a record targets. -/
def loopEntryBad (prog : Option Program) (g : Nat → Nat) (img : Image) (n e : Nat) : Option Status :=
  let trig := bits e 28 2
  let src := bits e 23 5
  let target := fld e 8 0 16
  let nums := (List.range 11).map (fun k => fld e (0x0C + 4 * k) 0 32)
  let on := bit e 31
  let group := fld e 0x0A 0 8
  let mates := img.loops.filter (fun (_, x) => bit x 19 && fld x 0x0A 0 8 == group)
  firstFail [
    bad (trig == 3 || (trig == 1 && src != 0) || (trig == 2 && decide (7 < src)) || (bit e 21 && decide (15 < target)) ||
      (bit e 22 && (decide (7 < fld e 5 0 8) || decide (15 < fld e 4 0 8)))) .range,
    bad (nums.any notFin || notFin (fld e 0x38 0 32)) .range,
    bad (flt fmt32 (fld e 0x30 0 32) (fld e 0x2C 0 32)) .range,
    bad (bit e 21 && (flt fmt32 (fld e 0x2C 0 32) 0 || flt fmt32 (f32 24 1) (fld e 0x30 0 32))) .range,
    bad (!bit e 30 && (fld e 0x1C 0 31 != 0 || fld e 0x28 0 31 != 0)) .badParameter,
    bad (on && img.loops.any (fun (m, x) => m != n && bit x 21 == bit e 21 && fld x 8 0 16 == target &&
      !(bit x 19 && bit e 19 && fld x 0x0A 0 8 == group))) .badParameter,
    bad (on && bit e 19 && decide (8 < mates.length)) .range,
    bad (on && bit e 19 && mates.any (fun (_, x) => bits x 28 2 != trig || bits x 23 5 != src || bit x 21 != bit e 21 ||
      fld x 8 0 16 != target)) .badParameter,
    bad (bit e 21 && !bit (g (0x0A02 + 8 * target)) 30) .badParameter,
    fun _ => match prog with
      | none => none
      | some p =>
        let owner := if bit e 19 && on then (mates.map Prod.fst).foldl min n else n
        let task := tget p.tasks src {}
        let slice := task.inAp ++ task.outAp
        firstFail [
          bad (on && !bit e 21 && !p.declares false target 4 owner) .badParameter,
          -- a member that leaves its group makes another the lowest
          bad (!on && bit e 19 && mates.any (fun (_, x) =>
            !bit x 21 && !p.declares false (fld x 8 0 16) 4 ((mates.map Prod.fst).foldl min 0xFFFF))) .badParameter,
          bad (on && trig == 0 && ((!bit e 22 && !slice.contains (fld e 4 0 16)) ||
            (fld e 6 0 16 != 0xFFFF && !slice.contains (fld e 6 0 16)))) .badParameter ] ]

/-- R181 and R420. -/
def catEntryBad (prog : Program) (g : Nat → Nat) (n e : Nat) : Option Status :=
  let a := fld e 4 0 8
  let arg := fld e 6 0 16
  let task := g (0x0300 + 6 * arg)
  firstFail [
    bad (decide (7 < a) || fld e 5 4 2 == 3) .range,
    bad (a == 5 && decide (arg ≤ 31) && !(bits task 16 2 == 1 && bits task 12 2 == 1 && bits task 14 2 == fld e 5 6 2))
      .badParameter,
    bad ((a == 1 && decide (255 < arg)) || (a == 2 && decide (24575 < arg)) || ((a == 3 || a == 4 || a == 5) && decide (31 < arg)) ||
      (a == 6 && (arg % 2 == 1 || decide (24574 < arg))) || (a == 7 && decide (2047 < arg))) .range,
    bad (a == 2 && !prog.declares false arg 6 (0x0100 + n)) .badParameter,
    bad (a == 6 && !(prog.declares false arg 6 (0x0100 + n) && prog.declares false (arg + 1) 6 (0x0100 + n))) .badParameter,
    bad ((a == 3 || a == 4) && (prog.pointOf 6 (0x0200 + arg) true).isNone) .badParameter,
    bad ((a == 3 || a == 4) && fld e 5 0 1 == 1 && bits (g (0x0B61 + 3 * arg)) 29 2 != 1) .badParameter ]

/-- Two granule ranges meet. -/
def regionsMeet (a b : Nat) : Bool := regValid a && regValid b && decide (regBase a ≤ regLimit b ∧ regBase b ≤ regLimit a)

/-- R334, but for the sealed entries and the privileged contexts. -/
def regionEntryBad (img : Image) (n e : Nat) : Option Status :=
  let rs := (img.listed 0x0005).filter (fun (m, x) => m != n && regValid x)
  firstFail [
    bad (regValid e && (decide (regBase e < workBase) || decide (workLimit < regLimit e) || decide (regLimit e < regBase e) ||
      decide (regLimit e < workBase) || decide (workLimit < regBase e))) .range,
    bad (regColour e == 0 || regColour e == 15) .range,
    bad (regPermits e 1 && regPermits e 2) .badParameter,
    bad (rs.any (fun (m, x) => m / 64 == n / 64 && decide (m < n) && regionsMeet e x)) .badParameter,
    bad (rs.any (fun (m, x) => m / 64 != n / 64 && regionsMeet e x && regColour x != regColour e)) .badParameter ]

/-- R352: Sub must be 0 for an idle slot. -/
def slotEntryBad (e : Nat) : Option Status :=
  let u := fld e 0 0 8
  let least := [1, 8, 4, 32, 24, 16, 8, 8].getD u 0
  firstFail [bad (decide (7 < u)) .range, bad (u == 0 && fld e 1 0 8 != 0) .badParameter, bad (decide (least ≤ fld e 1 0 8)) .range]

/-- R473. -/
def waveEntryBad (e : Nat) : Option Status :=
  let n := fld e 0x10 0 8
  let lv := fun f => bits e (2 * f) 2
  let count := fun v => ((List.range 64).filter (fun f => lv f == v)).length
  firstFail [
    bad ((List.range 64).any (fun f => lv f == 3) || decide (64 < n)) .range,
    bad ((List.range 64).any (fun f => decide (n ≤ f) && lv f != 0)) .badParameter,
    bad (count 1 != count 2) .badParameter ]

/-- R56: the length of an overlay value, and its upper bytes, which must be 0. -/
def overlayEntryBad (e : Nat) : Option Status :=
  firstFail [
    bad (!([0, 1, 2, 4, 8].contains (fld e 2 0 8))) .range,
    bad (decide (2 ^ (8 * fld e 2 0 8) ≤ fld e 8 0 64)) .badParameter]

/-- R501. -/
def snapEntryBad (e : Nat) : Option Status :=
  firstFail [
    bad (decide (32 < fld e 0 0 8) || decide (60000 < fld e 2 0 16)) .range,
    bad ((List.range 32).any (fun k => decide (fld e 0 0 8 ≤ k) && fld e (8 + 2 * k) 0 16 != 0)) .badParameter ]

/-- R439. -/
def stationEntryBad (prog : Option Program) (img : Image) (n e : Nat) : Option Status :=
  let f := fun o => fld e o 0 16
  let on := fld e 2 7 1 == 1
  let size := fun a b => f a * 4 + (f b + 7) / 8
  let past := fun base count top => f count != 0 && decide (top < f base + f count - 1)
  let outs := decide (f 0x12 ≠ 0 ∨ f 0x16 ≠ 0)
  firstFail [
    bad (on && (f 0 == 0 || f 0 == 65535)) .range,
    bad (past 8 0x0A 24575 || past 0x0C 0x0E 65535 || past 0x10 0x12 24575 || past 0x14 0x16 65535) .range,
    bad (f 0x18 == 0 || decide (4000 < f 0x18) || f 0x1A == 0 || decide (10000 < f 0x1A) || decide (31 < fld e 3 0 8)) .range,
    bad (decide (1440 < size 0x0A 0x0E) || decide (1440 < size 0x12 0x16)) .range,
    bad (decide (4 * f 0x1A < 3 * f 0x18)) .range,
    bad (on && (img.listed 0x000B).any (fun (m, x) => m != n && fld x 2 7 1 == 1 &&
      (fld x 0 0 16 == f 0 || fld x 4 0 32 == fld e 4 0 32))) .badParameter,
    fun _ => match prog with
      | none => none
      | some p => bad (on &&
          ((List.range (f 0x0A)).any (fun i => !p.declares false (f 8 + i) 2 n) ||
           (List.range (f 0x0E)).any (fun i => !p.declares true (f 0x0C + i) 2 n) ||
           (outs && (List.range (f 0x12)).any (fun i => !p.declares false (f 0x10 + i) 1 (fld e 3 0 8))) ||
           (outs && (List.range (f 0x16)).any (fun i => !p.declares true (f 0x14 + i) 1 (fld e 3 0 8))))) .badParameter () ]

/-- R403. -/
def pollEntryBad (e : Nat) : Option Status :=
  let per := fld e 4 0 32
  firstFail [
    bad (decide (8 < fld e 1 0 8) || decide (per < 500 ∨ 3600000 < per ∨ per % 100 ≠ 0)) .range,
    bad (fld e 0 7 1 == 1 && fld e 2 0 16 == 0) .badParameter ]

/-- R468. -/
def filterEntryBad (prog : Option Program) (n e : Nat) : Option Status :=
  let k := fld e 9 0 8
  let b := fld e 0x0A 0 16
  firstFail [
    bad (decide (16 < k) || decide (24575 < b + k)) .range,
    fun _ => match prog with
      | none => none
      | some p => bad (fld e 8 7 1 == 1 && fld e 8 6 1 == 1 &&
          (List.range (k + 1)).any (fun i => !p.declares false (b + i) 3 (0x0400 + n))) .badParameter () ]

/-- R108. -/
def trendEntryBad (e : Nat) : Option Status :=
  let k := fld e 0 0 8
  let src := fld e 4 0 32
  let per := fld e 8 0 32
  let dead := fld e 0x0C 0 32
  firstFail [
    bad (decide (3 < k) || decide (1 < fld e 1 0 8) || (k == 1 && decide (24575 < src)) || (k == 2 && decide (65535 < src))) .range,
    bad (k == 3 && (match paramDef (src % 65536) with | some d => decide (4 < d.ty.size) | none => true)) .badParameter,
    bad (decide (per < 10 ∨ 3600000 < per ∨ per % 10 ≠ 0) || notFin dead || flt fmt32 dead 0) .range ]

/-- The value checks of an entry in an image that holds it (R77 step 8), `g` its base parameters. -/
def State.entryBad (s : State) (prog : Option Program) (img : Image) (t n e : Nat) : Option Status :=
  let g := img.param s.mu.slot
  match t with
  | 0x0001 => alarmEntryBad prog e
  | 0x0002 => groupEntryBad prog n e
  | 0x0003 => loopEntryBad prog g img n e
  | 0x0004 => catEntryBad (prog.getD {}) g n e
  | 0x0005 => regionEntryBad img n e
  | 0x0006 => slotEntryBad e
  | 0x0007 => waveEntryBad e
  | 0x0008 => overlayEntryBad e
  | 0x0009 => snapEntryBad e
  | 0x000B => stationEntryBad prog img n e
  | 0x000C => pollEntryBad e
  | 0x000D => filterEntryBad prog n e
  | 0x000E => trendEntryBad e
  | _ => none

/-! ## A whole image (R49, R57) -/

/-- The parameters of an image pass: those it lists and those whose range depends on them. A parameter of an absent unit is kept
and not checked (R8). -/
def State.checkParams (s : State) (prog : Option Program) (img : Image) : Option Fail :=
  let g := img.param s.mu.slot
  let keys := insSort ((img.params.map Prod.fst).flatMap (fun i => i :: related i))
  ((keys.map (fun i =>
    match paramDef i with
    | none => some (Status.badParameter, 0, i, 0)
    | some d =>
      if s.absentIdx i then none
      else
        let v := g i
        (firstFail [
          bad (d.acc != .rw || decide (2 ^ (8 * d.ty.size) ≤ v)) .badParameter,
          bad (s.valueAbsent i v) .notPresent,
          fun _ => d.alone v,
          bad (i == 0x0106 && v != 0) .range,
          fun _ => s.paramCross prog g i]).map (fun st => (st, 0, i, 0)))).filterMap id).head?

/-- The offsets of the tasks (R124). -/
def checkOffsets (g : Nat → Nat) : Option Fail :=
  ((List.range 32).filterMap (fun n =>
    let c := g (0x0300 + 6 * n)
    let o := g (0x0302 + 6 * n)
    let wrong := match bits c 16 2 with
      | 0 => o % 250 != 0 || decide (g (0x0301 + 6 * n) ≤ o)
      | 2 => if bits c 10 2 = 0 then decide (65536 ≤ o) else o != 0
      | _ => o != 0
    if wrong then some (Status.range, 0, 0x0302 + 6 * n, 0) else none)).head?

/-- The table entries of an image pass. -/
def State.checkTables (s : State) (prog : Option Program) (img : Image) : Option Fail :=
  (img.tables.filterMap (fun (k, e) =>
    let t := k / 2 ^ 20
    let n := k % 2 ^ 20
    match tableDef t with
    | none => some (Status.badParameter, t, 0, 0)
    | some d =>
      if (match tableUnit t n with | some u => !s.has u | none => false) then none
      else if t = 0x0009 ∨ t = 0x000E then
        if s.entryAbsent t n e then none
        else (firstFail [bad (entryMalformed t e) .badParameter, fun _ => s.entryBad prog img t n e]).map (fun st => (st, t, 0, n))
      else
        (firstFail [
          bad (decide (d.entries ≤ n)) .range,
          bad (s.entryAbsent t n e) .notPresent,
          bad (entryMalformed t e) .badParameter,
          bad (t == 0x0005 && decide (16 ≤ n / 64)) .accessDenied,
          -- the overlays of an image are checked by R57
          fun _ => if t = 0x0008 then none else s.entryBad prog img t n e,
          bad (t == 0x0005 && regValid e && !bit (img.param s.mu.slot (0x0800 + 4 * (n / 64))) (regColour e)) .badParameter]).map
          (fun st => (st, t, 0, n)))).head?

/-- The overlays of an image pass (R57). -/
def State.checkOverlays (s : State) (prog : Option Program) (img : Image) : Option Fail :=
  ((List.range 12).flatMap (fun m =>
    let l := img.overlay m
    let g := img.effective s.mu.slot m
    l.filterMap (fun (n, i, len, v) =>
      let first := match l.find? (fun (_, j, _, _) => j == i) with | some (k, _) => k == n | none => true
      (match paramDef i with
        | none => some Status.badParameter
        | some d => firstFail [
            bad (m == 0 || m == 1 || d.acc != Acc.rw || d.marks.b || i == 0x07F0 || !first || len != d.ty.size) .badParameter,
            bad (i == 0x0106 && m != 4 && m != 6) .badParameter,
            fun _ => if s.absentIdx i then none
              else firstFail [
                bad (decide (2 ^ (8 * len) ≤ v)) .badParameter,
                bad (s.valueAbsent i v) .notPresent,
                fun _ => d.alone v,
                fun _ => s.paramCross prog g i]]).map (fun st => (st, 0x0008, i, n))))).head?

/-- The share check (R49): modes ascending, then stages. -/
def State.checkShares (s : State) (img : Image) : Option Fail :=
  if !s.has .ao then none
  else
    ((List.range 6).flatMap (fun k =>
      let m := k + 4
      let want := if m ≤ 5 then 50 else 100
      (List.range 16).filterMap (fun a =>
        let i := 0x0A00 + 8 * a
        if img.effective s.mu.slot m i = want then none
        else
          let entry := match (img.overlay m).find? (fun (_, j, _, _) => j == i) with
            | some (n, _) => n
            | none => 256 * m
          some (Status.badParameter, 0x0008, i, entry)))).head?

/-- The program's declaration of a command point (R387, R420): produced by a task, binary32 for a loop output. -/
def Program.taskPoint (p : Program) (binary : Bool) (n : Nat) : Bool :=
  match p.declOf binary n with
  | some d => d.kind == 1 && (binary || d.real)
  | none => false

/-- The checks across units: outputs and their commanders, the ladder's rungs, HART conditions, split pairs (R302, R387, R400,
R420, R464). -/
def State.checkAcross (s : State) (prog : Option Program) (img : Image) : Option Fail :=
  let g := img.param s.mu.slot
  let rungs := List.range 8
  let cats := img.listed 0x0004
  let task := fun n => bits (g (0x0300 + 6 * n)) 20 4
  let aos := if s.has .ao then (List.range 16).filterMap (fun a =>
      let c := g (0x0A02 + 8 * a)
      let fine := !bit c 31 || (if bit c 30 then img.loops.any (fun (_, x) => bit x 21 && fld x 8 0 16 == a)
        else match prog with | some p => p.taskPoint false (c % 65536) | none => true)
      if fine then none else some (Status.badParameter, 0, 0x0A02 + 8 * a, 0)) else []
  let dos := if s.has .dio then (List.range 32).filterMap (fun m =>
      let c := g (0x0B61 + 3 * m)
      let cat := s.has .phs && cats.any (fun (_, e) =>
        fld e 5 0 1 == 1 && (fld e 4 0 8 == 3 || fld e 4 0 8 == 4) && fld e 6 0 16 == m)
      let rung := rungs.any (fun r => bit (g (0x0602 + 16 * r)) m)
      let fine := (!bit c 31 || bits c 29 2 != 0 || (match prog with | some p => p.taskPoint true (c % 65536) | none => true)) &&
        (!cat || bits c 29 2 == 1) && (!rung || bits c 29 2 == 2)
      if fine then none else some (Status.badParameter, 0, 0x0B61 + 3 * m, 0)) else []
  let cans := rungs.filterMap (fun r =>
      let c := g (0x0605 + 16 * r)
      if c ≤ 3 ∧ bits (g (0x0D00 + 32 * c)) 30 2 ≠ 3 then some (Status.badParameter, 0, 0x0605 + 16 * r, 0) else none)
  let harts := (List.range 48).filterMap (fun m =>
      if m < 32 ∧ !s.absentIdx (0x0A80 + 2 * m) ∧ bit (g (0x0A80 + 2 * m)) 31 ∧ aiRange (g (0x0900 + 4 * m)) ≠ 2 then
        some (Status.badParameter, 0, 0x0A80 + 2 * m, 0)
      else if 32 ≤ m ∧ !s.absentIdx (0x0A80 + 2 * m) ∧ bit (g (0x0A80 + 2 * m)) 31 ∧ !bit (g (0x0A02 + 8 * (m - 32))) 31 then
        some (Status.badParameter, 0, 0x0A80 + 2 * m, 0)
      else none)
  let mains := if s.has .phs then (List.range 4).filterMap (fun n =>
      let c := g (0x0400 + 32 * n)
      let a := g (0x040A + 32 * n)
      let sampled := (seqUsed g (a / 4)).any (fun j =>
        seqInput (seqAt g (a / 4) j) == a % 4 && decide (2000 * seqOsr (seqAt g (a / 4) j) ≤ 8192000))
      if bit c 31 ∧ bits c 28 3 = 2 ∧ a < 32 ∧ !sampled then some (Status.badParameter, 0, 0x040A + 32 * n, 0) else none) else []
  let pairs := (List.range 10).filterMap (fun p =>
      let keyed : Bool := match prog with
        | some q => (List.range 32).any (fun n => bit (g (0x0300 + 6 * n)) 31 && task n == p &&
            bit (g (0x0800 + 4 * (tget q.tasks n {}).ctx)) 14)
        | none => false
      if bit (g (0x0700 + 8 * p)) 31 ∧ keyed then some (Status.badParameter, 0, 0x0700 + 8 * p, 0) else none)
  let slots := match s.slotFault ((List.range 128).map (fun k => img.entry 0x0006 k)) with
    | some _ => [(Status.badParameter, 0x0006, 0, 0)]
    | none => []
  (aos ++ dos ++ cans ++ harts ++ mains ++ pairs ++ slots).head?

/-- COMMIT_CONFIG's checks of an image (R49), also those of a load (R36, R64): parameters, tables, overlays, shares, then what
crosses units. -/
def State.checkImage (s : State) (prog : Option Program) (img : Image) : Option Fail :=
  firstFail [
    fun _ => s.checkParams prog img,
    fun _ => checkOffsets (img.param s.mu.slot),
    fun _ => s.checkTables prog img,
    fun _ => s.checkOverlays prog img,
    fun _ => s.checkShares img,
    fun _ => (List.range 12).findSome? (fun m =>
      if 36000 < s.budgetSum (img.effective s.mu.slot m) then some (Status.range, 0, 0x0860, 0) else none),
    fun _ => s.checkAcross prog img]

/-- The program the checks refer to: the running one, while a program slot is active (R196, R226). -/
def State.activeProg (s : State) : Option Program := if s.tk.active = 0xFF then none else some s.tk.prog

/-! ## Images of an older schema (R63, R64) -/

/-- Migration: entries whose index or table the present schema does not have are dropped and counted. -/
def Image.migrate (img : Image) (schema : Nat) : Image × Nat :=
  let ok := fun i => match paramDef i with | some d => decide (d.acc = Acc.rw) | none => false
  let ps := img.params.filter (fun (i, _) => ok i)
  let os := img.other.filter (fun (i, _) => ok i)
  let ts := img.tables.filter (fun (k, _) => match tableDef (k / 2 ^ 20) with | some d => decide (k % 2 ^ 20 < d.entries) | none => false)
  ({ params := ps, other := os, tables := ts, schema := schema, variant := img.variant },
   (img.params.length - ps.length) + (img.other.length - os.length) + (img.tables.length - ts.length))

/-! ## An image as bytes (R53, R54) -/

/-- Is the header of an image refused at CONFIG_IMPORT (R54)? -/
def headerRefused (schema : Nat) (b : List Byte) : Bool :=
  b.length < 128 || slice b 0 4 != [0x49#8, 0x53#8, 0x43#8, 0x46#8] || leAt b 4 2 != 1 || decide (schema < leAt b 6 2) ||
  decide (leAt b 8 4 < 256) || decide (16777216 < leAt b 8 4) || leAt b 0x0E 2 != 0 || leAt b 0x36 2 != 0 ||
  !allZero (slice b 0x3C 68)

/-- ImageDigest of a whole image's bytes (R53): that field and ConfigGeneration are taken as 0. -/
def imageDigestOk (b : List Byte) : Bool :=
  sha256 (b.take 0x10 ++ List.replicate 36 0#8 ++ b.drop 0x34) == slice b 0x10 32

/-- The records of a parameter section, for the module's slot; a value lies in the low Length bytes. -/
def parseParams (slot : Nat) : Nat → List Byte → Image → Image
  | 0, _, img => img
  | n + 1, b, img =>
    let i := leAt b 0 2
    let v := leAt b 4 (min 8 (leAt b 2 1))
    let slotB := leAt b 3 1 % 2 == 1
    let mine := !paramP i || (slotB == (slot == 1))
    let img := if mine then
        { img with params := if (paramDef i).isSome && v == paramDefault slot i then tdel img.params i else tput img.params i v }
      else { img with other := if v == paramDefault (1 - slot) i then tdel img.other i else tput img.other i v }
    parseParams slot n (b.drop 12) img

/-- The entries of a table section. -/
def parseTable (t size : Nat) : Nat → Nat → List Byte → Image → Image
  | 0, _, _, img => img
  | k + 1, n, b, img =>
    parseTable t size k (n + 1) (b.drop size) (img.setEntry t n (keepEntry t n (leNat (b.take size))))

/-- The configuration an image's bytes hold: of each section the Count records or entries that lie within its Length. Sections of an unknown kind or table hold nothing this firmware knows. -/
def parseImage (slot : Nat) (b : List Byte) : Image :=
  let dir := leAt b 0x38 4
  (List.range (min 64 (leAt b 0x0C 2))).foldl (fun img k =>
    let d := slice b (dir + 16 * k) 16
    let body := slice b (leAt d 4 4) (leAt d 8 4)
    let count := leAt d 12 4
    if leAt d 0 2 = 1 then parseParams slot (min count (body.length / 12)) body img
    else match tableDef (leAt d 2 2) with
      | some t => if leAt d 0 2 = 2 ∧ t.id ≠ 0x000A then parseTable t.id t.size (min count (body.length / t.size)) 0 body img else img
      | none => img) { schema := leAt b 6 2, variant := leAt b 0x34 2 }

end Sys2Proof.Machine
end

