-- ==== Sys2Proof/Machine/Network.lean ====
section
/-!
DEFINITION. The plant ports and their addresses (R432–R437) and the remote I/O stations (R438–R444).
-/
namespace Sys2Proof.Machine

/-! ## Ports -/

/-- An address check begins (R434): the interface sends ARP probes. -/
def State.arpProbe (s : State) (p : Nat) : State :=
  let tick := s.tick
  if s.ifcOn p && (s.port p).link && s.ifcAddr p != 0 then
    (s.modPort p (fun q => { q with checked := some tick })).emit (.arp p false (s.ifcAddr p))
  else s

/-- PN_LINK_UP: a plant port's link is up after negotiation (R432, R434). Speed: 1 100 Mbit/s, 2 1000 Mbit/s. -/
def execPnLinkUp (dt p speed : Nat) (fibre : Bool) (s : State) : Host.Outcome State Fault Refusal :=
  let s := s.elapse dt
  if 2 ≤ p ∨ speed = 0 ∨ 2 < speed then .next s
  else if s.mode == .m0 || !s.ifcOn p || (s.port p).link then .next s
  else .next ((s.modPort p (fun q => { q with link := true, speed := speed, fibre := fibre, lanUp := s.prp })).arpProbe p)

/-- PN_LINK_DOWN (R432). -/
def execPnLinkDown (dt p : Nat) (s : State) : Host.Outcome State Fault Refusal :=
  let s := s.elapse dt
  if 2 ≤ p then .next s
  else if !(s.port p).link then .next s
  else
    let s := s.modPort p (fun q => { q with
      link := false, speed := 0, fibre := false, lanUp := false, conflict := false, downs := q.downs + 1 })
    .next (s.raise 192 [(1, p), (4, (s.port p).downs.toNat)])

/-- SERVICE_PORT_LINK (R432, R437). -/
def execServicePortLink (dt : Nat) (up : Bool) (s : State) : Host.Outcome State Fault Refusal :=
  let s := s.elapse dt
  if s.mode == .m0 || !s.ifcOn 2 || (s.port 2).link == up then .next s
  else
    let s := (s.modPort 2 (fun q => { q with link := up, conflict := up && q.conflict })).raise 203 [(1, b2n up)]
    .next (if up then s.arpProbe 2 else s)

/-- PRP_LAN_DOWN: no valid frame with a trailer for 1 s while frames have arrived on the other LAN (R433). -/
def execPrpLanDown (dt lan : Nat) (s : State) : Host.Outcome State Fault Refusal :=
  let s := s.elapse dt
  if 2 ≤ lan then .next s
  else if !s.prp || !(s.port lan).lanUp then .next s
  else .next ((s.modPort lan (fun q => { q with lanUp := false })).raise 193 [(1, lan)])

/-- ARP_ANNOUNCE: the check is repeated every 60 s; in conflict only further probes are sent (R434). -/
def execArpAnnounce (dt ifc : Nat) (s : State) : Host.Outcome State Fault Refusal :=
  let s := s.elapse dt
  if 3 ≤ ifc then .next s
  else
    let due := match (s.port ifc).checked with
      | some t => s.since t (60 * Config.ticksPerSecond)
      | none => true
    if !due || !s.ifcOn ifc || !(s.port ifc).link || s.ifcAddr ifc == 0 then .next s
    else
      let tick := s.tick
      .next ((s.modPort ifc (fun q => { q with checked := some tick })).emit
        (.arp ifc (!(s.port ifc).conflict) (s.ifcAddr ifc)))

/-- DUPLICATE_ADDRESS: another host answers for the address (R434). -/
def execDuplicateAddress (dt ifc : Nat) (mac : U64) (s : State) : Host.Outcome State Fault Refusal :=
  let s := s.elapse dt
  if 3 ≤ ifc then .next s
  else if !s.ifcOn ifc || !(s.port ifc).link then .next s
  else
    let was := (s.port ifc).conflict
    let tick := s.tick
    let s := s.modPort ifc (fun q => { q with conflict := true, conflictAt := tick })
    .next (if was then s else s.raise 202 [(1, ifc), (4, s.ifcAddr ifc), (6, mac.toNat)])

/-- ADDRESS_CONFLICT_CLEAR: the conflict has been absent for 10 s (R434). -/
def execAddressConflictClear (dt ifc : Nat) (s : State) : Host.Outcome State Fault Refusal :=
  let s := s.elapse dt
  if 3 ≤ ifc then .next s
  else if (s.port ifc).conflict && s.since (s.port ifc).conflictAt (10 * Config.ticksPerSecond) then
    .next (s.modPort ifc (fun q => { q with conflict := false }))
  else .next s

/-! ## Stations -/

/-- Change one station slot. -/
def State.modStation (s : State) (k : Nat) (f : Station → Station) : State :=
  { s with net := { s.net with station := tmod s.net.station k {} f } }
/-- One station slot. -/
def State.station (s : State) (k : Nat) : Station := tget s.net.station k {}
/-- The entry of a station slot (R438). -/
def State.stEntry (s : State) (k : Nat) : Nat := s.entry 0x000B k
/-- Enable. -/
def stOn (e : Nat) : Bool := bit (fld e 2 0 8) 7
/-- The enabled station slots. -/
def State.stEnabled (s : State) : List (Nat × Nat) := (s.entries 0x000B).filter (fun (_, e) => stOn e)

/-- The partner takes part in the stations' states (R444). -/
def State.stPaired (s : State) : Bool := s.laneUp && s.pair.partner.mode.isSome

/-- A station's state, revision and period are set (R438, R442–R444); for State 4 the revision operand carries the cause. EV198,
EV199, EV200, and the health point. -/
def State.stSet (s : State) (k st rev per : Nat) : State :=
  let tick := s.tick
  let last := (s.station k).last
  let s := s.modStation k (fun x => { x with
    state := st, revision := if st = 2 then rev else 0, period := if st = 2 then per else 0,
    last := if st = 2 then none else x.last, lastTick := if st = 2 then tick else x.lastTick,
    healthy := false })
  match st with
  | 2 => s.raise 199 [(1, k), (1, rev), (2, per)]
  | 3 => (s.raise 198 [(1, k), (2, fld (s.stEntry k) 0 0 16), (4, last.getD 0)]).publishBp 2 (0x0100 + k) false s.now
  | 4 => (s.raise 200 [(1, k), (1, rev)]).publishBp 2 (0x0100 + k) false s.now
  | _ => s.publishBp 2 (0x0100 + k) false s.now

/-- The lead announces a station's state for a frame boundary, or sets it at once where it has no partner (R444; the boundary's
distance is a DESIGN CHOICE, log 20). -/
def State.stTell (s : State) (k st rev per : Nat) : State :=
  if s.stPaired then
    let f := frameAfter s.now
    let s := { s with net := { s.net with announced := s.net.announced ++ [(f, k, st, rev, per)] } }
    s.announce 6 [f, k, st, rev, per]
  else s.stSet k st rev per

/-- The 8-byte header of an accession frame and its body (R442). -/
def accFrame (ty station : Nat) (body : List Byte) : List Byte :=
  beBytes 1 ty ++ beBytes 1 0 ++ beBytes 2 station ++ beBytes 2 body.length ++ beBytes 2 0 ++ body

/-- The four counts of a station entry, as in accession frames (R442). -/
def stCounts (e : Nat) : List Byte :=
  beBytes 2 (fld e 0x0A 0 16) ++ beBytes 2 (fld e 0x0E 0 16) ++ beBytes 2 (fld e 0x12 0 16) ++ beBytes 2 (fld e 0x16 0 16)

/-- The accession request (R442); State becomes 1. -/
def State.stAsk (s : State) (k : Nat) : State :=
  let e := s.stEntry k
  let tick := s.tick
  let s := if (s.station k).state = 1 then s else s.stTell k 1 0 0
  let s := s.modStation k (fun x => { x with asked := some tick, answered := false })
  s.plantSend 47220 (fld e 4 0 32) 47220
    (accFrame 0x21 (fld e 0 0 16) (beBytes 2 6 ++ beBytes 2 (fld e 0x18 0 16) ++ stCounts e))

/-- Stations follow a configuration that takes effect (R442, R51): those that become enabled or whose settings of accession change
are asked by the lead; disabled ones go to State 0. `old` gives the entries before. -/
def State.stationsRefresh (s : State) (old : Nat → Nat) : State :=
  (List.range 250).foldl (fun s k =>
    let a := old k
    let b := s.stEntry k
    let key := fun (e : Nat) => [fld e 0 0 16, fld e 4 0 32, fld e 0x0A 0 16, fld e 0x0E 0 16, fld e 0x12 0 16, fld e 0x16 0 16,
      fld e 0x18 0 16, fld e 0x1A 0 16]
    if !stOn b then
      if (s.station k).state = 0 then s else (s.modStation k (fun _ => {})).publishBp 2 (0x0100 + k) false s.now
    else if (!stOn a || key a != key b || (s.station k).state == 0) && s.scans then
      if s.canLead then s.stAsk k else s.stSet k 1 0 0
    else s) s

/-- Announced states that are due at this frame boundary are applied (R444); a lead asks a lost station at once (R443). -/
def State.stApply (s : State) : State :=
  let (due, rest) := s.net.announced.partition (fun (f, _) => decide (f ≤ s.now))
  let s := { s with net := { s.net with announced := rest } }
  due.foldl (fun s (_, k, st, rev, per) =>
    if !stOn (s.stEntry k) then s
    else
      let s := s.stSet k st rev per
      if st = 3 ∧ s.canLead = true then s.stAsk k else s) s

/-- ACCESSION_RETRY: AccessionRetry after the previous request it is repeated (R442). -/
def execAccessionRetry (dt k : Nat) (s : State) : Host.Outcome State Fault Refusal :=
  let s := s.elapse dt
  if 250 ≤ k then .next s
  else
    let x := s.station k
    let due := match x.asked with
      | some t => s.since t (s.eff 0x0CC1 * Config.ticksPerMs)
      | none => true
    if s.scans && s.canLead && stOn (s.stEntry k) && (x.state == 1 || x.state == 3 || x.state == 4) && due then
      .next (s.stAsk k)
    else .next s

/-- STATION_TIMEOUT: no frame accepted for InTimeout, as the lead judges (R443). -/
def execStationTimeout (dt k : Nat) (s : State) : Host.Outcome State Fault Refusal :=
  let s := s.elapse dt
  if 250 ≤ k then .next s
  else
    let x := s.station k
    if s.canLead && x.state == 2 && !s.net.announced.any (fun (_, n, st, _) => n == k && st == 3) &&
        s.since x.lastTick (fld (s.stEntry k) 0x1A 0 16 * Config.ticksPerMs) then
      let s := s.stTell k 3 0 0
      .next (if (s.station k).state = 3 then s.stAsk k else s)
    else .next s

/-- The first failing cause of an accession answer (R442), with the revision and the period it settles. -/
def stSettle (e supported minPer : Nat) (counts : List Byte) : Nat × Nat × Nat :=
  let rev := if bit supported 2 then 2 else if bit supported 1 then 1 else 0
  let per := max (fld e 0x18 0 16) minPer
  let cause := if rev = 0 then 1 else if counts ≠ stCounts e then 2
    else if fld e 0x1A 0 16 * 4 < per * 3 then 3 else 0
  (cause, rev, per)

/-- STATION_ANSWER: an answer within 100 ms of its request (R442). -/
def execStationAnswer (dt : Nat) (src : U32) (b : List Byte) (s : State) : Host.Outcome State Fault Refusal :=
  let s := s.elapse dt
  match s.stEnabled.find? (fun (_, e) => fld e 0 0 16 == beAt b 2 2 && fld e 4 0 32 == src.toNat) with
  | none => .next s
  | some (k, e) =>
    let x := s.station k
    let fresh := match x.asked with
      | some t => decide (s.tick ≤ t + 100 * Config.ticksPerMs) && !x.answered
      | none => false
    if b.length ≠ 28 ∨ beAt b 0 1 ≠ 0x22 ∨ fresh = false ∨ s.canLead = false ∨ s.mode = .m0 then .next s
    else
      let s := s.modStation k (fun x => { x with answered := true })
      let (cause, rev, per) := stSettle e (beAt b 8 2) (beAt b 10 2) (slice b 12 8)
      if cause = 0 then
        let mine := s.ifcAddr 0
        let other := if s.stPaired then (tlook s.cfg.base.other 0x0C01).getD (paramDefault (1 - s.mu.slot % 2) 0x0C01) else 0
        let (a, c) := if s.mu.slot = 1 then (other, mine) else (mine, other)
        let s := s.plantSend 47220 src.toNat 47220 (accFrame 0x23 (fld e 0 0 16)
          (beBytes 1 rev ++ beBytes 1 0 ++ beBytes 2 per ++ beBytes 4 (s.eff 0x0CC0) ++ beBytes 4 a ++ beBytes 4 c))
        .next (s.stTell k 2 rev per)
      else
        let s := s.plantSend 47220 src.toNat 47220 (accFrame 0x24 (fld e 0 0 16) (beBytes 1 cause ++ beBytes 3 0))
        .next (s.stTell k 4 cause 0)

/-! ## Input frames (R440, R441) -/

/-- Payload bytes of a station's input frame (R440). -/
def stInLength (e : Nat) : Nat := 4 * fld e 0x0A 0 16 + (fld e 0x0E 0 16 + 7) / 8

/-- The points of an accepted input frame (R440, R441). -/
def State.stPoints (s : State) (k e : Nat) (b : List Byte) (healthy : Bool) : State :=
  let n := fld e 0x0A 0 16
  let now := s.now
  let s := (List.range n).foldl (fun s i => s.produceAp (fld e 8 0 16 + i) (beAt b (24 + 4 * i) 4) now) s
  let s := (List.range (fld e 0x0E 0 16)).foldl (fun s i =>
    s.produceBp (fld e 0x0C 0 16 + i) (bit (beAt b (24 + 4 * n + i / 8) 1) (7 - i % 8)) now) s
  s.publishBp 2 (0x0100 + k) healthy now

/-- INPUT_FRAME: a frame on a plant port; `dup` marks a second PRP copy (R433, R441). -/
def execInputFrame (dt : Nat) (src : U32) (lan : Nat) (dup : Bool) (b : List Byte) (s : State) :
    Host.Outcome State Fault Refusal :=
  let s := s.elapse dt
  if 2 ≤ lan then .next s
  else if s.mode == .m0 || !s.ifcOn lan || !(s.port lan).link then .next s
  else
    let s := s.modPort lan (fun q => { q with rx := q.rx + 1, lanUp := q.lanUp || s.prp })
    if dup && s.prp then .next (s.modPort (1 - lan) (fun q => { q with discards := q.discards + 1 }))
    else
      let drop := { s with net := { s.net with discarded := s.net.discarded + 1 } }
      match s.stEnabled.find? (fun (_, e) => fld e 0 0 16 == beAt b 2 2) with
      | none => .next drop
      | some (k, e) =>
        let x := s.station k
        let len := stInLength e
        let seq := beAt b 8 4
        let timeout := fld e 0x1A 0 16 * Config.ticksPerMs
        let newer := match x.last with
          | none => true
          | some l => decide (x.lastTick + timeout < s.tick) ||
              (let d := (seq + 2 ^ 32 - l) % 2 ^ 32
               decide (1 ≤ d ∧ d < 2 ^ 31))
        if beAt b 0 1 ≠ 0x11 ∨ fld e 4 0 32 ≠ src.toNat ∨ x.state ≠ 2 ∨ beAt b 1 1 ≠ x.revision ∨ beAt b 4 2 ≠ len ∨
            b.length ≠ 24 + len ∨ newer = false then .next drop
        else
          let ok := bit (beAt b 12 4) 31
          let tick := s.tick
          let s := s.modStation k (fun x => { x with last := some seq, lastTick := tick, healthy := ok })
          let s := { s with net := { s.net with accepted := s.net.accepted + 1 } }
          let s := s.stPoints k e b ok
          let age := s.now - beAt b 16 8
          let sec := s.now / 1000000000
          if x.revision = 2 ∧ s.eff 0x0CC2 * 1000 < age ∧ x.lateAt ≠ some sec then
            .next ((s.modStation k (fun x => { x with lateAt := some sec })).raise 201 [(1, k), (4, age / 1000)])
          else .next s

end Sys2Proof.Machine
end

