-- ==== Sys2Proof/Machine/Session.lean ====
section
/-!
DEFINITION. Identification, sessions, keys, subscriptions, completions and events (R72–R76, R85, R88, R91–R94, R112–R117,
R546), and what runs out with time in the mailbox service (R67, R69, R75, R76, R114).
-/
namespace Sys2Proof.Machine

/-- No body is allowed. -/
def noBody : Req → State → Option Nat := fun r _ => if r.body.isEmpty then none else some noPos

/-! ## Ends of sessions -/

/-- A firmware update is abandoned (R508): its slot becomes INVALID, EV234 with the cause. The Detail's refused offset has no value
the spec gives for an abandonment (a free value, log 8). -/
def State.abandonUpdate (s : State) (k cause : Nat) : State :=
  let x := s.fwSlot k
  if x.owner.isNone then s
  else
    let (v, s) := s.takeFree
    let y : FwSlot := { x with state := 5, owner := none, lastBlock := none }
    let s := if k = 0 then { s with fw := { s.fw with slotA := y } } else { s with fw := { s.fw with slotB := y } }
    s.raise 234 [(1, k), (1, cause), (4, v % 4294967296), (4, 256 + x.body.length)]

/-- A session ends (R75): its holds go, its running update is abandoned (R508), and its asynchronous operations go on (R93). -/
def State.endSession (s : State) (id : U32) : State :=
  let s := { s with
    mbx := { s.mbx with sessions := s.mbx.sessions.filter (·.id != id) }
    ev := { s.ev with holds := s.ev.holds.filter (·.session != id) }
    cfg := { s.cfg with
      exports := s.cfg.exports.filter (·.1 != id) } }
  [0, 1].foldl (fun s k => if (s.fwSlot k).owner = some id then s.abandonUpdate k 3 else s) s

/-! ## Commands without keys -/

/-- IDENTIFY (R88). -/
def identifyCmd : Cmd := { Cmd.plain 0x0001 (fun _ s =>
    okRep s (beBytes 2 s.ident.variant ++ beBytes 2 0 ++ beBytes 4 (optionMask s.ident.variant) ++
      beBytes 8 s.ident.serial.toNat ++ beBytes 2 s.ident.fwRelease.toNat ++ beBytes 2 s.ident.hwRev.toNat ++
      beBytes 2 s.schemaInUse ++ beBytes 2 s.fwSchema ++ beBytes 2 s.feature ++ beBytes 2 s.syncMax ++
      beBytes 1 s.mu.slot ++ beBytes 1 s.keyState ++ beBytes 1 1 ++ beBytes 1 0 ++ beBytes 8 s.ident.baseMac.toNat)) with
  malformed := noBody }

/-- COMMANDS_LIST (R85). -/
def commandsListCmd : Cmd := { Cmd.plain 0x0002 (fun _ s =>
    okRep s (beBytes 2 cmdTable.length ++ beBytes 2 0 ++
      (cmdTable.map (fun c => beBytes 2 c.code ++ beBytes 1 1 ++ beBytes 1 1 ++ beBytes 1 (c.level.getD 0xFF) ++
        beBytes 1 0 ++ beBytes 2 c.modes)).flatten)) with
  malformed := noBody }

/-! ## Sessions -/

/-- The session identifier issued (R74): the one the module's random source offers, or the next that is neither 0 nor open. -/
def State.freshId (s : State) (sid : U32) : Nat → U32
  | 0 => sid
  | n + 1 => if sid = 0 ∨ (s.session sid).isSome then s.freshId (sid + 1) n else sid

/-- The session key of R74. -/
def sessionKey (key host mine : List Byte) (sid : U32) : List Byte :=
  hmac key ([0x49#8, 0x53#8, 0x50#8, 0x41#8, 0x4C#8, 0x4F#8, 0x2D#8, 0x53#8, 0x45#8, 0x53#8, 0x53#8, 0x49#8, 0x4F#8, 0x4E#8] ++
    host ++ mine ++ beBytes 4 sid.toNat)

/-- OPEN_SESSION (R73–R75), with what the module's random source gives: a session identifier and a nonce. -/
def openSessionCmd (sid : U32) (nonce : List Byte) : Cmd := { Cmd.plain 0x0010 (fun r s =>
    let level := beAt r.body 0 1
    let key := (s.openKey level r.via).getD []
    let id := s.freshId sid 64
    let mine := padTo 16 nonce
    let x : Session := {
      id := id, level := level, via := r.via, addr := r.addr, key := sessionKey key (slice r.body 4 16) mine id,
      unsetKey := (tlook s.mbx.keys level).isNone, counter := none, lastTick := s.tick, route := none, seq := 0, done := [],
      waiting := [] }
    { okRep { s with mbx := { s.mbx with sessions := s.mbx.sessions ++ [x] } }
        (mine ++ beBytes 4 (s.eff 0x0144)) with session := some id }) with
  barred := fun r s => beAt r.body 0 1 == 3 && r.via == .plant && s.eff 0x0146 != 1
  malformed := fun r _ => if r.body.length ≠ 20 ∨ beAt r.body 1 3 ≠ 0 then some noPos else none
  busy := fun _ s => decide (32 ≤ s.mbx.sessions.length) }

/-- CLOSE_SESSION (R75): the response goes out under the session's key, then the session ends. -/
def closeSessionCmd : Cmd := { Cmd.plain 0x0011 (fun r s => { okRep s with after := fun s => s.endSession r.session }) with
  malformed := noBody }

/-- The first 4 bytes of the SHA-256 of a key (R72). -/
def fingerprint (k : List Byte) : Nat := beNat ((sha256 k).take 4)

/-- A session ends now, or with the response of the request it has executing (R95). -/
def State.endOrClose (s : State) (id : U32) : State :=
  if s.mbx.relays.any (·.session == id) then s.modSession id (fun x => { x with closing := true }) else s.endSession id

/-- SET_KEY (R75, R95, R546): the sessions of that level end, but for the issuing session when the SERVICE key changes. -/
def setKeyCmd : Cmd := { Cmd.plain 0x0012 (fun r s =>
    let level := beAt r.body 0 1
    let key := slice r.body 4 32
    let s := { s with mbx := { s.mbx with keys := tput s.mbx.keys level key } }
    let s := s.raise 15 [(1, level), (4, fingerprint key)]
    { okRep s with after := fun s =>
        (s.mbx.sessions.filter (fun x => x.level == level && x.id != r.session)).foldl (fun s x => s.endOrClose x.id) s }) with
  barred := fun r _ => r.via != .service
  malformed := fun r _ => if r.body.length ≠ 36 ∨ beAt r.body 1 3 ≠ 0 then some noPos else none
  value := fun r _ =>
    if 3 < beAt r.body 0 1 then some (.range, noPos)
    else if allZero (slice r.body 4 32) then some (.badParameter, noPos) else none }

/-- KEY_INFO (R72): per level, whether the key is set and its fingerprint (0 where it is not), in 8 bytes each; the spec gives no
layout (log 22). -/
def keyInfoCmd : Cmd := { Cmd.plain 0x0013 (fun _ s =>
    okRep s (((List.range 4).map (fun l => match tlook s.mbx.keys l with
      | some k => beBytes 1 1 ++ beBytes 3 0 ++ beBytes 4 (fingerprint k)
      | none => beBytes 8 0)).flatten)) with
  malformed := noBody }

/-- SUBSCRIBE (R91, R114). A Completions field above 1 answers RANGE (DESIGN CHOICE, log 152). -/
def subscribeCmd : Cmd := { Cmd.plain 0x0014 (fun r s =>
    let port := beAt r.body 0 2
    let s := s.modSession r.session (fun x => { x with
      route := some ⟨if port = 0 then 47211 else port, beAt r.body 2 1 == 1, leNat (slice r.body 4 32)⟩ })
    okRep { s with ev := { s.ev with holds := s.ev.holds.filter (·.session != r.session) } }) with
  malformed := fun r _ => if r.body.length ≠ 36 ∨ beAt r.body 3 1 ≠ 0 then some noPos else none
  value := fun r _ => if 1 < beAt r.body 2 1 then some (.range, noPos) else none }

/-- The most recent completion of a Tag that a session stores (R93). -/
def Session.lastDone (x : Session) (tag : Nat) : Option (Nat × List Byte) :=
  ((x.done.filter (·.1 == tag)).foldl (fun (m : Option (Nat × List Byte)) (_, id, b) =>
    match m with
    | some (k, _) => if k < id then some (id, b) else m
    | none => some (id, b)) none)

/-- COMPLETION_READ (R93): of several operations under one Tag, the most recent. -/
def completionReadCmd : Cmd := { Cmd.plain 0x0015 (fun r s =>
    let tag := beAt r.body 0 2
    let run := (s.mbx.async.filter (fun o => o.session == r.session && o.tag == tag)).foldl (fun a o => max a (o.id + 1)) 0
    match (s.session r.session).bind (·.lastDone tag) with
    | some (id, b) => if id + 1 < run then refuse .notReady noPos s else okRep s b
    | none => if run ≠ 0 then refuse .notReady noPos s else refuse .badParameter noPos s) with
  malformed := fun r _ => if r.body.length ≠ 4 ∨ beAt r.body 2 2 ≠ 0 then some noPos else none }

/-! ## Events -/

/-- EVENT_READ (R116). -/
def eventReadCmd : Cmd := { Cmd.plain 0x0033 (fun r s =>
    let first := beAt r.body 0 2
    let n := beAt r.body 2 2
    okRep s (beBytes 2 n ++ beBytes 2 0 ++ ((List.range n).map (fun j =>
      let k := first + j
      let e := tget s.ev.src k {}
      beBytes 2 k ++ beBytes 1 (b2n e.latch + 2 * b2n (s.eventBit 0x0160 k) + 4 * b2n (s.eventBit 0x0168 k) +
        8 * b2n (s.eventBit 0x0170 k)) ++ beBytes 1 (s.eventClass k) ++ beBytes 4 e.count ++ beBytes 8 e.time)).flatten)) with
  malformed := fun r _ => if r.body.length ≠ 4 then some noPos else none
  value := fun r _ =>
    let n := beAt r.body 2 2
    if n = 0 ∨ 128 < n ∨ 256 < beAt r.body 0 2 + n then some (.range, noPos) else none }

/-- EVENT_CLEAR (R117): an event that occurs in the tick of the clear is set after it. -/
def eventClearCmd : Cmd := { Cmd.plain 0x0034 (fun r s =>
    let m := leNat r.body
    let src := (s.ev.src.map Prod.fst).foldl (fun t k =>
      if bit m k then tmod t k {} (fun e => { e with latch := e.latch && e.time == s.now }) else t) s.ev.src
    okRep { s with ev := { s.ev with src := src } }) with
  malformed := fun r _ => if r.body.length ≠ 32 then some noPos else none }

/-! ## Rows -/

/-- IDENTIFY. -/
def execIdentify (dt : Nat) (p : Packet) (s : State) : Host.Outcome State Fault Refusal :=
  execMail identifyCmd (codeIs 0x0001) dt p s
/-- COMMANDS_LIST. -/
def execCommandsList (dt : Nat) (p : Packet) (s : State) : Host.Outcome State Fault Refusal :=
  execMail commandsListCmd (codeIs 0x0002) dt p s
/-- OPEN_SESSION. -/
def execOpenSession (dt : Nat) (p : Packet) (sid : U32) (nonce : List Byte) (s : State) : Host.Outcome State Fault Refusal :=
  execMail (openSessionCmd sid nonce) (codeIs 0x0010) dt p s
/-- CLOSE_SESSION. -/
def execCloseSession (dt : Nat) (p : Packet) (s : State) : Host.Outcome State Fault Refusal :=
  execMail closeSessionCmd (codeIs 0x0011) dt p s
/-- SET_KEY. -/
def execSetKey (dt : Nat) (p : Packet) (s : State) : Host.Outcome State Fault Refusal :=
  execMail setKeyCmd (codeIs 0x0012) dt p s
/-- KEY_INFO. -/
def execKeyInfo (dt : Nat) (p : Packet) (s : State) : Host.Outcome State Fault Refusal :=
  execMail keyInfoCmd (codeIs 0x0013) dt p s
/-- SUBSCRIBE. -/
def execSubscribe (dt : Nat) (p : Packet) (s : State) : Host.Outcome State Fault Refusal :=
  execMail subscribeCmd (codeIs 0x0014) dt p s
/-- COMPLETION_READ. -/
def execCompletionRead (dt : Nat) (p : Packet) (s : State) : Host.Outcome State Fault Refusal :=
  execMail completionReadCmd (codeIs 0x0015) dt p s
/-- EVENT_READ. -/
def execEventRead (dt : Nat) (p : Packet) (s : State) : Host.Outcome State Fault Refusal :=
  execMail eventReadCmd (codeIs 0x0033) dt p s
/-- EVENT_CLEAR. -/
def execEventClear (dt : Nat) (p : Packet) (s : State) : Host.Outcome State Fault Refusal :=
  execMail eventClearCmd (codeIs 0x0034) dt p s

/-- FORWARD_TIMEOUT: the partner has not answered a forwarded request within 10 ms (R69): NOT_READY with Session 0. A relayed
pair-effective command whose outcome no longer comes ends likewise (R83). -/
def execForwardTimeout (dt box : Nat) (s : State) : Host.Outcome State Fault Refusal :=
  let s := s.elapse dt
  if 16 ≤ box then .next s
  else
    match (tget s.mbx.boxes box {}).fwd with
    | none => .next s
    | some f =>
      if !s.since f.since (10 * Config.ticksPerMs) then .next s
      else
        let r := { parseReq f.via f.addr f.port f.header with session := f.session, target := 0 }
        let s := { s with mbx := { s.mbx with boxes := tmod s.mbx.boxes box {} (fun b => { b with fwd := none }) } }
        .next (s.respond r none 0 .notReady noPos [])

/-- REASSEMBLY_TIMEOUT: fragments of an incomplete datagram are dropped after 100 ms (R67). -/
def execReassemblyTimeout (dt : Nat) (s : State) : Host.Outcome State Fault Refusal :=
  let s := s.elapse dt
  .next { s with mbx := { s.mbx with
    reasm := s.mbx.reasm.filter (fun a => !s.since a.since (100 * Config.ticksPerMs)) } }

/-- SESSION_IDLE_EXPIRY: SessionIdle seconds without a valid request (R75). -/
def execSessionIdleExpiry (dt : Nat) (id : U32) (s : State) : Host.Outcome State Fault Refusal :=
  let s := s.elapse dt
  match s.session id with
  | none => .next s
  | some x => .next (if s.since x.lastTick (s.eff 0x0144 * Config.ticksPerSecond) then s.endSession id else s)

/-- AUTH_LOCKOUT_END: a source is heard again after 60 s (R76). -/
def execAuthLockoutEnd (dt : Nat) (via : Via) (addr : U32) (s : State) : Host.Outcome State Fault Refusal :=
  let s := s.elapse dt
  .next { s with mbx := { s.mbx with
    locks := s.mbx.locks.filter (fun (v, a, t) => !(v == via && a == addr && decide (t ≤ s.tick))) } }

/-- NOTIFY_HOLD_END: 10 ms of a hold are over (R114). -/
def execNotifyHoldEnd (dt : Nat) (id : U32) (k : Nat) (s : State) : Host.Outcome State Fault Refusal :=
  let s := s.elapse dt
  match s.ev.holds.find? (fun h => h.session == id && h.ev == k) with
  | none => .next s
  | some h =>
    if s.tick < h.ends then .next s
    else
      let s := { s with ev := { s.ev with holds := s.ev.holds.filter (fun h => !(h.session == id && h.ev == k)) } }
      .next (if h.again && (match (s.session id).bind (·.route) with | some r => bit r.events k | none => false) then
        s.eventToSession k id else s)

end Sys2Proof.Machine
end

