-- ==== Sys2Proof/Machine/ConfigCmds.lean ====
section
/-!
DEFINITION. Parameter and table access and the configuration store: PARAM_READ, PARAM_WRITE, TABLE_READ, TABLE_WRITE,
COMMIT_CONFIG, DISCARD_EDITS, CONFIG_EXPORT, CONFIG_IMPORT (R47–R54, R89, R90, R98–R102, R106, R107, R274, R547, R550).
-/
namespace Sys2Proof.Machine

/-! ## What a change of the configuration does -/

/-- Edits change the working image and set ConfigState to EDITED (R47). -/
def State.edit (s : State) (f : Image → Image) : State :=
  { s with cfg := { s.cfg with working := f s.cfg.working, state := 2 } }

/-- EV111 where the effective freeze mask has gained a bit by the host's mask (R350). -/
def State.freezeTold (s : State) (old : Nat) : State :=
  let m := s.frozenMask
  if m &&& old = m then s else s.raise 111 [(4, m), (1, 1)]

/-- A write to a write-1 register (R350, R354, R371, R422). SlotSwap is a request; a second one has no further effect. -/
def State.strobe (s : State) (i v : Nat) : State :=
  if i = 0x09F8 then s.seqGo v
  else if i = 0x09F9 then s.goAll v
  else if i = 0x09FA then s.seqStop v
  else if i = 0x08B2 then (if bit v 0 then { s with prot := { s.prot with swap := true } } else s)
  else if i = 0x0BE7 then s.doFaultClear v
  else s

/-- A value comes into effect in the base at once (R48, R59). Nothing is in effect while no configuration is loaded (R550). -/
def State.setBase (s : State) (i v : Nat) : State :=
  if !s.cfg.loaded then s
  else
    let old := s.frozenMask
    let s := { s with cfg := { s.cfg with base := s.cfg.base.setParam s.mu.slot i v } }
    s.freezeTold old

/-- Does a row of the parameter tables carry mark L? -/
def paramLive (i : Nat) : Bool := match paramDef i with | some d => d.marks.l | none => false

/-- One entry of a PARAM_WRITE (R47, R48). -/
def State.writeParam (s : State) (i v : Nat) : State :=
  match paramDef i with
  | none => s
  | some d =>
    if d.acc = .w1s then s.strobe i v
    else
      let s := s.edit (fun g => g.setParam s.mu.slot i v)
      if d.marks.l then s.setBase i v else s

/-- A table entry comes into effect, with what its unit does at that instant (R109, R183, R197, R227). -/
def State.setBaseEntry (s : State) (t n new : Nat) : State :=
  if !s.cfg.loaded then s
  else
    let old := s.entry t n
    let s := { s with cfg := { s.cfg with base := s.cfg.base.setEntry t n new } }
    if t = 0x0001 then s.alWritten n old new
    else if t = 0x0003 then s.loopWritten n old new
    else if t = 0x0004 then s.catWritten n
    else if t = 0x000E then { s with trend := { s.trend with last := tdel s.trend.last n } }
    else s

/-- Is a table live (R106)? Of the slot tables the shadow half is. -/
def tableLive (t : Nat) : Bool := match tableDef t with | some d => d.live | none => false

/-- The live table edits that wait for the I/O bus frame boundary come into effect (R183, R197, R403, R473, R501). -/
def State.applyLive (s : State) : State :=
  let l := s.cfg.liveTables
  l.foldl (fun s (k, v) => s.setBaseEntry (k / 2 ^ 20) (k % 2 ^ 20) v) { s with cfg := { s.cfg with liveTables := [] } }

/-- The overlay entries of an image that name a parameter of an absent unit, by mode (R56, R57). -/
def State.skippedOverlays (s : State) (img : Image) : Tab Nat :=
  (List.range 12).foldl (fun t m =>
    tset t m 0 (((img.overlay m).filter (fun (_, i, _, _) => s.absentIdx i)).length)) []

/-- EV004 at a load that skips an overlay entry (R46). -/
def State.tellSkipped (s : State) : State :=
  if s.cfg.skipped.isEmpty then s
  else s.raise 4 [(2, s.cfg.skipped.foldl (fun a x => a + 2 ^ x.1) 0), (2, s.cfg.skipped.foldl (fun a x => a + x.2) 0)]

/-- A new base replaces the one in effect (R50, R51): every unit takes what changed. -/
def State.loadBase (s : State) (img : Image) : State :=
  let was := s
  let live := s.cfg.loaded
  let frozen := s.frozenMask
  let keys := ((was.cfg.base.tables.map Prod.fst) ++ (img.tables.map Prod.fst)).eraseDups
  let s := { s with cfg := { s.cfg with
    base := img, loaded := true, liveTables := [], skipped := s.skippedOverlays img } }
  let s := s.tellSkipped
  let s := keys.foldl (fun s k =>
    let t := k / 2 ^ 20
    let n := k % 2 ^ 20
    let old := was.entry t n
    let new := s.entry t n
    if old = new ∧ live = true then s
    else if t = 0x0001 then s.alWritten n old new
    else if t = 0x0003 then s.loopWritten n old new
    else if t = 0x0004 then s.catWritten n
    else if t = 0x000E then { s with trend := { s.trend with last := tdel s.trend.last n } }
    else s) s
  let s := s.phaseReconfig was false
  let s := [0, 1, 2].foldl (fun s p => if was.ifcAddr p = s.ifcAddr p then s else s.arpProbe p) s
  let s := s.stationsRefresh (was.entry 0x000B)
  s.freezeTold frozen

/-- The committed image as this firmware uses it: migrated where it is of an older schema, none where it is of a newer one
(R63, R64, R550). -/
def State.restored (s : State) : Option Image :=
  match s.cfg.committed with
  | none => none
  | some i =>
    if s.fwSchema < i.schema then none
    else if i.schema = s.fwSchema then some i
    else some (i.migrate s.fwSchema).1

/-- A committed change takes effect at the boundary (R51); live edits made since the commit stay in effect (R48). -/
def State.applyCommit (s : State) : State :=
  match s.cfg.committed with
  | none => { s with cfg := { s.cfg with applyCommitted := false } }
  | some c =>
    let w := s.cfg.working
    let ps := (c.params.filter (fun x => !paramLive x.1)) ++ (w.params.filter (fun x => paramLive x.1))
    let ts := (c.tables.filter (fun x => !tableLive (x.1 / 2 ^ 20))) ++ (w.tables.filter (fun x => tableLive (x.1 / 2 ^ 20)))
    let img : Image := {
      params := ps.foldl (fun t (i, v) => tput t i v) []
      other := c.other
      tables := ts.foldl (fun t (i, v) => tput t i v) []
      schema := c.schema }
    ({ s with cfg := { s.cfg with applyCommitted := false } }).loadBase img

/-- DISCARD_EDITS takes effect at the boundary (R50, R550). -/
def State.applyDiscard (s : State) : State :=
  let img := s.restored.getD { schema := s.fwSchema }
  let st := match s.cfg.committed with
    | none => 0
    | some i => if i.schema < s.fwSchema then 3 else 1
  let s := { s with cfg := { s.cfg with applyDiscard := false, working := img, state := st, liveTables := [] } }
  if s.cfg.loaded then s.loadBase img else s

/-- The modules of the pair run different FirmwareSchemaVersion values (R274). -/
def State.schemasDiffer (s : State) : Bool :=
  s.laneUp && s.pair.partner.schema != 0 && s.pair.partner.schema != s.fwSchema

/-! ## PARAM_READ and PARAM_WRITE -/

/-- PARAM_READ (R89): all values from one effective set. -/
def paramReadCmd : Cmd := { Cmd.plain 0x0020 (fun r s =>
    let n := beAt r.body 0 2
    okRep s (beBytes 2 n ++ beBytes 2 0 ++ ((nums r.body 4 n).map (fun i =>
      match paramDef i with
      | some d => beBytes 2 i ++ beBytes 1 d.ty.size ++ beBytes 1 0 ++ beBytes 8 (s.paramValue d i)
      | none => [])).flatten)) with
  absent := fun r s => firstIdx s.absentIdx (nums r.body 4 (min 256 (beAt r.body 0 2)))
  malformed := fun r _ =>
    if r.body.length ≠ 4 + 2 * beAt r.body 0 2 ∨ beAt r.body 2 2 ≠ 0 then some noPos
    else firstIdx (fun i => (paramDef i).isNone) (nums r.body 4 (min 256 (beAt r.body 0 2)))
  value := fun r _ => if beAt r.body 0 2 = 0 ∨ 256 < beAt r.body 0 2 then some (.range, noPos) else none }

/-- One entry of a PARAM_WRITE body: index, length, reserved byte, value. -/
abbrev PwEntry := Nat × Nat × Nat × Nat

/-- The entries of a PARAM_WRITE body. -/
def pwEntries (b : List Byte) : List PwEntry :=
  (List.range (min 346 (beAt b 0 2))).map (fun k =>
    (beAt b (4 + 12 * k) 2, beAt b (6 + 12 * k) 1, beAt b (7 + 12 * k) 1, beAt b (8 + 12 * k) 8))

/-- An entry is malformed (R77 step 6, R89, R98, R99). -/
def pwMalformed (es : List PwEntry) (k : Nat) (e : PwEntry) : Bool :=
  let (i, len, res, v) := e
  match paramDef i with
  | none => true
  | some d => res != 0 || len != d.ty.size || decide (2 ^ (8 * d.ty.size) ≤ v) || v &&& d.chk.reserved != 0 ||
      (es.take k).any (fun x => x.1 == i)

/-- The place of the first entry with a property that may depend on its place. -/
def pwFirst (f : Nat → PwEntry → Bool) (es : List PwEntry) : Option Nat :=
  firstIdx (fun (k, e) => f k e) ((es.zipIdx).map (fun (e, k) => (k, e)))

/-- The level an entry needs (R77, R100). -/
def pwLevel (d : ParamDef) : Nat := if d.marks.o then 1 else if d.marks.x then 3 else 2

/-- An entry that is refused with ACCESS_DENIED: read-only (R15, R78), read-only fields of a word (R211, R214), the fixed values
of contexts 16–23 (R346), the sequences of the stand-ins (R370) and CPS's control (R310). -/
def pwDenied (lvl : Nat) (e : PwEntry) : Bool :=
  let (i, _, _, v) := e
  match paramDef i with
  | none => false
  | some d =>
    d.acc == .ro || decide (lvl < pwLevel d) ||
    (d.base == 0x0540 && bit v 31) || (d.base == 0x0500 && (bit v 31 || bit v 30)) ||
    (decide (0x0840 ≤ i ∧ i < 0x0860) && decide (i % 4 < 2)) ||
    (decide (0x09E0 ≤ i ∧ i < 0x09F8)) || (decide (0x0750 ≤ i ∧ i < 0x0758))

/-- The edit is permitted in the present mode (R47) and state (R274, R351). -/
def State.pwState (s : State) (e : PwEntry) : Bool :=
  let (i, _, _, v) := e
  (match s.mode with
    | .m2 | .m10 => true
    | .m3 => !(decide (0x0300 ≤ i ∧ i < 0x03C0) && (i - 0x0300) % 6 == 0 &&
        bits v 20 4 != bits (s.cfg.working.param s.mu.slot i) 20 4)
    | .m4 | .m5 | .m6 | .m7 | .m8 => paramLive i
    | _ => false) &&
  !((s.mode == .m4 || s.mode == .m5) && s.schemasDiffer) &&
  !(decide (0x0860 ≤ i ∧ i < 0x0888) && i % 4 == 0 && v != 0 && !s.pairServes (s.annex.pairRemap.getD ((i - 0x0860) / 4) 0))

/-- The set of parameters as it would stand after a PARAM_WRITE. -/
def State.pwAfter (s : State) (es : List PwEntry) (img : Image) : Image :=
  es.foldl (fun g (i, _, _, v) =>
    match paramDef i with
    | some d => if d.acc = .rw then g.setParam s.mu.slot i v else g
    | none => g) img

/-- The value checks of one entry (R77 step 8). -/
def State.pwValue (s : State) (es : List PwEntry) (e : PwEntry) : Option Status :=
  let (i, _, _, v) := e
  let g := (s.pwAfter es s.cfg.working).param s.mu.slot
  match paramDef i with
  | none => none
  | some d => firstFail [
      bad (i == 0x0106 && v != 0) .range,
      fun _ => d.alone v,
      bad (i == 0x08B0 && bit v 10) .range,
      fun _ => ((related i).filterMap (s.paramCross s.activeProg g)).head?,
      bad (decide (0x0860 ≤ i ∧ i < 0x08A8) && i % 4 == 0 && s.cfg.loaded &&
        decide (36000 < s.budgetSum ((s.pwAfter es s.cfg.base).effective s.mu.slot s.mode.num))) .range]

/-- The element of an Active generator or an Armed capture is written (R211, R214). -/
def State.pwBusy (s : State) (e : PwEntry) : Bool :=
  (decide (0x0540 ≤ e.1 ∧ e.1 < 0x0580) && (s.injector ((e.1 - 0x0540) / 16)).active) ||
  (decide (0x0500 ≤ e.1 ∧ e.1 < 0x0540) && (s.capture ((e.1 - 0x0500) / 16)).armed)

/-- All entries of a PARAM_WRITE applied. -/
def State.writeParams (s : State) (b : List Byte) : State :=
  (pwEntries b).foldl (fun s (i, _, _, v) => s.writeParam i v) s

/-- PARAM_WRITE on one module, completing its operation. -/
def paramWriteApply (op : Option Nat) (b : List Byte) (_ : U32) (s : State) : State := (s.writeParams b).completeOpt op .ok

/-- PARAM_WRITE (R89): all or nothing. A write of live parameters is pair-effective in M4 and M5 (R83); one that holds a parameter
of page 0x06 waits for the gap of the alarm scan (R222, R248). -/
def paramWriteCmd : Cmd := { Cmd.plain 0x0021 (fun r s => okRep (s.writeParams r.body)) with
  absent := fun r s => firstIdx (fun (e : PwEntry) => s.absentIdx e.1 || s.valueAbsent e.1 e.2.2.2) (pwEntries r.body)
  malformed := fun r _ =>
    if r.body.length ≠ 4 + 12 * beAt r.body 0 2 ∨ beAt r.body 2 2 ≠ 0 then some noPos
    else pwFirst (pwMalformed (pwEntries r.body)) (pwEntries r.body)
  denied := fun r _ lvl => firstIdx (pwDenied lvl) (pwEntries r.body)
  unready := fun r s => firstIdx (fun e => !s.pwState e) (pwEntries r.body)
  value := fun r s =>
    if beAt r.body 0 2 = 0 ∨ 64 < beAt r.body 0 2 then some (.range, noPos)
    else (((pwEntries r.body).zipIdx).filterMap (fun (e, k) =>
      (s.pwValue (pwEntries r.body) e).map (fun st => (st, k)))).head?
  busy := fun r s => (pwEntries r.body).any s.pwBusy
  pair := fun r _ => !(pwEntries r.body).isEmpty && (pwEntries r.body).all (fun e => paramLive e.1)
  accept := some (fun r op s =>
    if (pwEntries r.body).any (fun e => e.1 / 256 == 6) then
      (0, s.alWaits r.code r.body (some op) r.session r.counter)
    else (0, s.schedulePair r op))
  apply := paramWriteApply }

/-! ## TABLE_READ and TABLE_WRITE -/

/-- The State word of an alarm entry (R225). -/
def alWord (t : AlEnt) : Nat :=
  word [(31, b2n t.active), (30, b2n t.unacked), (29, b2n t.shelved), (28, b2n t.suppressed), (27, b2n t.raw),
    (26, b2n t.invalid), (25, b2n t.latched), (24, b2n t.faulted)]

/-- The Status word of a loop record (R195). -/
def State.loopStatus (s : State) (n : Nat) : Nat :=
  let r := s.lrec n
  word [(31, b2n r.faulted), (30, b2n (s.unbound n)), (29, b2n r.invalid), (28, b2n r.tracking), (27, b2n r.selected),
    (26, b2n r.limHigh), (25, b2n r.limLow), (24, b2n r.injecting), (23, b2n r.init)]

/-- An entry with fields (byte offset, bits, value) put in. -/
def withFields (e : Nat) (fs : List (Nat × Nat × Nat)) : Nat := fs.foldl (fun e (off, w, v) => setFld e off 0 w v) e

/-- An entry as TABLE_READ returns it: in effect, with its read-only fields as the unit holds them (R90). -/
def State.readEntry (s : State) (t n : Nat) : Nat :=
  let e := s.entry t n
  match t with
  | 0x0001 =>
    let a := s.alEnt n
    withFields e [(0x20, 32, alWord a), (0x24, 32, a.delay), (0x28, 32, a.rateBase), (0x2C, 16, a.ratePhase),
      (0x30, 32, a.shelveLeft), (0x34, 32, a.lastValue), (0x38, 64, a.lastChange)]
  | 0x0002 =>
    let g := tget s.al.grp n {}
    withFields e [(0x08, 16, g.active), (0x0A, 16, g.unacked), (0x0C, 16, g.first.getD 0xFFFF),
      (0x0E, 8, 4 * b2n g.suppressed + 2 * b2n (decide (0 < g.unacked)) + b2n (decide (0 < g.active))), (0x10, 64, g.firstTime),
      (0x18, 16, g.releaseLeft), (0x1A, 16, g.members)]
  | 0x0003 =>
    let r := s.lrec n
    withFields e [(0x3C, 32, r.count), (0x40, 64, r.e1), (0x48, 64, r.e2), (0x50, 64, r.e3), (0x58, 64, r.u1), (0x60, 64, r.u2),
      (0x68, 64, r.u3), (0x70, 32, r.out), (0x74, 32, s.loopStatus n), (0x78, 64, r.outTime)]
  | 0x0004 => withFields e [(0x08, 32, tget s.ph.fires n 0), (0x0C, 16, tget s.ph.defers n 0)]
  | 0x0005 => withFields e [(0x0C, 32, tget s.prot.faults n 0)]
  | 0x0007 => withFields e [(0x14, 32, tget s.pnl.uses n 0)]
  | 0x0008 => withFields e [(0x03, 8, b2n (fld e 2 0 8 != 0 && s.absentIdx (fld e 0 0 16)))]
  | 0x000A =>
    let g := tget s.tk.forces n {}
    let f : Force := if g.ending then {} else g
    mkEntry [(0, 1, f.kind), (1, 1, b2n (s.tk.applied && f.kind != 0)), (2, 2, f.point), (4, 4, f.value), (8, 8, f.setTime)]
  | 0x000B =>
    let k := s.station n
    withFields e [(0x1C, 8, k.revision), (0x1D, 8, k.state), (0x1E, 16, k.period)]
  | 0x000D => withFields e [(0x0C, 32, tget s.can.hits n 0)]
  | _ => e

/-- Table, Count and FirstEntry of a request (R90). -/
def tbHead (b : List Byte) : Nat × Nat × Nat := (beAt b 0 2, beAt b 2 2, beAt b 4 4)

/-- A table or an addressed entry belongs to an absent unit (R107): the place of the entry. -/
def State.tbAbsent (s : State) (b : List Byte) : Option Nat :=
  let (t, n, k) := tbHead b
  firstIdx (fun j => match tableUnit t (k + j) with | some u => !s.has u | none => false) (List.range (max 1 (min 4096 n)))

/-- Count and FirstEntry outside the table, or more bytes than `lim` (R90, R107). -/
def tbRange (b : List Byte) (lim : Nat) : Bool :=
  let (t, n, k) := tbHead b
  match tableDef t with
  | some d => n == 0 || decide (d.entries < k + n) || decide (lim < n * d.size)
  | none => true

/-- TABLE_READ (R90). -/
def tableReadCmd : Cmd := { Cmd.plain 0x0022 (fun r s =>
    let (t, n, k) := tbHead r.body
    let size := match tableDef t with | some d => d.size | none => 0
    okRep s (((List.range n).map (fun j => leBytes size (s.readEntry t (k + j)))).flatten)) with
  absent := fun r s => s.tbAbsent r.body
  malformed := fun r _ => if r.body.length ≠ 8 ∨ (tableDef (beAt r.body 0 2)).isNone then some noPos else none
  value := fun r _ => if tbRange r.body 4096 then some (.range, noPos) else none }

/-- The entries a TABLE_WRITE carries: number and image. -/
def twEntries (b : List Byte) : List (Nat × Nat) :=
  let (t, n, k) := tbHead b
  let size := match tableDef t with | some d => d.size | none => 0
  if size = 0 then [] else (List.range (min (b.length / size) n)).map (fun j => (k + j, leAt b (8 + size * j) size))

/-- The image as it would stand after a TABLE_WRITE. -/
def twAfter (img : Image) (t : Nat) (es : List (Nat × Nat)) : Image :=
  es.foldl (fun g (n, e) => g.setEntry t n (keepEntry t n e)) img

/-- An entry is Sealed in the committed image, or was when the regions were loaded (R334, R344). -/
def State.regionSealed (s : State) (n : Nat) : Bool :=
  regSealed (tget s.prot.regions n 0) || (match s.cfg.committed with | some c => regSealed (c.entry 0x0005 n) | none => false)

/-- The edit of a table is permitted in the present mode (R47, R274). -/
def State.twState (s : State) (t : Nat) : Bool :=
  (match s.mode with
    | .m2 | .m10 => true
    | .m3 => t != 0x0005
    | .m4 | .m5 | .m6 | .m7 | .m8 => tableLive t
    | _ => false) &&
  !((s.mode == .m4 || s.mode == .m5) && s.schemasDiffer)

/-- The value checks of one entry. -/
def State.twValue (s : State) (img : Image) (t n e : Nat) : Option Status :=
  firstFail [
    bad (t == 0x0005 && s.regionSealed n) .sealed_,
    fun _ => s.entryBad s.activeProg img t n e]

/-- A TABLE_WRITE applied: the working image, and of a live table the base, at once for the alarm tables (R222) and where the
boundary has come (`now`), else at the next I/O bus frame boundary. -/
def State.writeTable (s : State) (b : List Byte) (now : Bool) : State :=
  let (t, _, _) := tbHead b
  let es := (twEntries b).map (fun (n, e) => (n, keepEntry t n e))
  let s := s.edit (fun g => es.foldl (fun g (n, e) => g.setEntry t n e) g)
  if !tableLive t || !s.cfg.loaded then s
  else if now || t == 0x0001 || t == 0x0002 then es.foldl (fun s (n, e) => s.setBaseEntry t n e) s
  else { s with cfg := { s.cfg with liveTables := s.cfg.liveTables ++ es.map (fun (n, e) => (tkey t n, e)) } }

/-- TABLE_WRITE on one module at its boundary, completing its operation. -/
def tableWriteApply (op : Option Nat) (b : List Byte) (_ : U32) (s : State) : State :=
  (s.writeTable b true).completeOpt op .ok

/-- TABLE_WRITE (R90, R107). -/
def tableWriteCmd : Cmd := { Cmd.plain 0x0023 (fun r s => okRep (s.writeTable r.body false)) with
  absent := fun r s =>
    match s.tbAbsent r.body with
    | some k => some k
    | none => firstIdx (fun (n, e) => s.entryAbsent (beAt r.body 0 2) n e) (twEntries r.body)
  malformed := fun r _ =>
    match tableDef (beAt r.body 0 2) with
    | none => some noPos
    | some d =>
      if r.body.length ≠ 8 + beAt r.body 2 2 * d.size then some noPos
      else firstIdx (fun (_, e) => entryMalformed d.id e) (twEntries r.body)
  denied := fun r _ _ =>
    let (t, n, k) := tbHead r.body
    if t = 0x000A then some 0
    else if t = 0x0006 then firstIdx (fun j => decide (k + j < 128)) (List.range n)
    else if t = 0x0005 then firstIdx (fun j => decide (1024 ≤ k + j)) (List.range n)
    else none
  unready := fun r s => if s.twState (beAt r.body 0 2) then none else some 0
  value := fun r s =>
    let (t, _, _) := tbHead r.body
    let img := twAfter s.cfg.working t (twEntries r.body)
    if tbRange r.body 4088 then some (.range, noPos)
    else (((twEntries r.body).zipIdx).filterMap (fun ((n, e), k) => (s.twValue img t n e).map (fun st => (st, k)))).head?
  busy := fun r s => beAt r.body 0 2 == 0x0006 && s.prot.swap
  pair := fun r _ => tableLive (beAt r.body 0 2)
  accept := some (fun r op s =>
    if beAt r.body 0 2 ≤ 2 then
      (0, s.alWaits r.code r.body (some op) r.session r.counter)
    else (0, s.schedulePair r op))
  apply := tableWriteApply }

/-! ## COMMIT_CONFIG and DISCARD_EDITS -/

/-- COMMIT_CONFIG begins (R49): its checks end with COMMIT_CONFIG_DONE. -/
def commitApply (op : Option Nat) (_ : List Byte) (_ : U32) (s : State) : State :=
  { s with cfg := { s.cfg with commit := some (op, s.tick) } }

/-- COMMIT_CONFIG (R49, R52, R274). -/
def commitConfigCmd : Cmd := { Cmd.plain 0x0024 (fun r s => runAsync commitApply r s) with
  malformed := noBody
  unready := fun _ s => if s.schemasDiffer then some noPos else none
  busy := fun _ s => s.cfg.commit.isSome || s.running 0x0024
  async := fun _ _ => true
  pair := alwaysPair
  apply := commitApply }

/-- The whole working image is committed (R49): it becomes the committed image, any older copy goes, EV006. -/
def State.commitDone (s : State) (op : Option Nat) : State :=
  match s.checkImage s.activeProg s.cfg.working with
  | some (st, t, i, e) => s.completeOpt op st (beBytes 2 t ++ beBytes 2 i ++ beBytes 4 e)
  | none =>
    let img := { s.cfg.working with schema := s.fwSchema }
    let s := { s with cfg := { s.cfg with
      committed := some img, working := img, generation := s.cfg.generation + 1, older := none, migratedFrom := 0,
      dropCount := 0, state := 1, applyCommitted := true } }
    let s := s.raise 6 [(4, s.cfg.generation.toNat), (8, s.configDigest)]
    s.completeOpt op .ok (beBytes 4 s.cfg.generation.toNat ++ beBytes 4 0 ++ beBytes 8 s.configDigest)

/-- DISCARD_EDITS waits for its boundary (R50). -/
def State.askDiscard (s : State) : State := { s with cfg := { s.cfg with applyDiscard := true } }

/-- DISCARD_EDITS at the application boundary of a pair. -/
def discardApply (op : Option Nat) (_ : List Byte) (_ : U32) (s : State) : State := s.applyDiscard.completeOpt op .ok

/-- DISCARD_EDITS (R50, R52, R274). -/
def discardEditsCmd : Cmd := { Cmd.plain 0x0025 (fun _ s => okRep s.askDiscard) with
  malformed := noBody
  unready := fun _ s => if s.schemasDiffer then some noPos else none
  busy := fun _ s => s.cfg.commit.isSome
  pair := alwaysPair
  apply := discardApply }

/-! ## CONFIG_EXPORT and CONFIG_IMPORT -/

/-- The bytes of image 0, 1 or 2 (R54): committed, working, the kept older copy. -/
def State.imageBytes (s : State) (k : Nat) : Option (List Byte) :=
  let out := fun (i : Image) => i.bytes s.mu.slot s.cfg.generation.toNat s.ident.variant
  match k with
  | 0 => s.cfg.committed.map out
  | 1 => some (out s.cfg.working)
  | _ => s.cfg.older.map out

/-- The export a session has begun of an image. -/
def State.exportOf (s : State) (sid : U32) (k : Nat) : Option (List Byte) :=
  (s.cfg.exports.find? (fun x => x.1 == sid && x.2.1 == k)).map (fun x => x.2.2)

/-- CONFIG_EXPORT (R54). Image 0 while nothing is committed answers NOT_READY as image 2 does (log 23). -/
def configExportCmd : Cmd := { Cmd.plain 0x0026 (fun r s =>
    let k := beAt r.body 0 1
    if r.arg = 0 then
      match s.imageBytes k with
      | none => refuse .notReady noPos s
      | some b => okRep { s with cfg := { s.cfg with
          exports := s.cfg.exports.filter (fun x => x.1 != r.session) ++ [(r.session, k, b)] } } (b.take 4096)
    else
      match s.exportOf r.session k with
      | none => refuse .sequence noPos s
      | some b => okRep s (slice b r.arg 4096)) with
  malformed := fun r _ => if r.body.length ≠ 4 ∨ beAt r.body 1 3 ≠ 0 then some noPos else none
  value := fun r s =>
    let k := beAt r.body 0 1
    if 2 < k then some (.range, noPos)
    else if r.arg % 4096 ≠ 0 then some (.badParameter, noPos)
    else match s.exportOf r.session k with
      | some b => if r.arg ≠ 0 ∧ b.length ≤ r.arg then some (.range, noPos) else none
      | none => none }

/-- The completed import becomes the working image (R54, R547): EDITED, an older schema migrated. -/
def State.importDone (s : State) (b : List Byte) : State :=
  let img := parseImage s.mu.slot b
  let img := if img.schema < s.fwSchema then (img.migrate s.fwSchema).1 else img
  { s with cfg := { s.cfg with working := img, state := 2, importing := none } }

/-- CONFIG_IMPORT (R54, R547). -/
def configImportCmd : Cmd := { Cmd.plain 0x0027 (fun r s =>
    let start := r.arg = 0
    let x : Import := if start then ⟨0, leAt r.body 8 4, []⟩ else s.cfg.importing.getD ⟨0, 0, []⟩
    if start ∧ headerRefused s.fwSchema r.body = true then refuse .imageRefused noPos s
    else if !start ∧ (s.cfg.importing.isNone ∨ x.next ≠ r.arg) then refuse .sequence noPos s
    else if x.total < r.arg + r.body.length then refuse .range noPos s
    else
      let b := x.bytes ++ r.body
      if b.length < x.total then okRep { s with cfg := { s.cfg with importing := some ⟨b.length, x.total, b⟩ } }
      else if !imageDigestOk b then refuse .imageRefused noPos s
      else okRep (s.importDone b)) with
  malformed := fun r _ => if r.body.isEmpty ∨ 4096 < r.body.length then some noPos else none }

/-! ## Rows -/

/-- PARAM_READ. -/
def execParamRead (dt : Nat) (p : Packet) (s : State) : Host.Outcome State Fault Refusal :=
  execMail paramReadCmd (codeIs 0x0020) dt p s
/-- PARAM_WRITE. -/
def execParamWrite (dt : Nat) (p : Packet) (s : State) : Host.Outcome State Fault Refusal :=
  execMail paramWriteCmd (codeIs 0x0021) dt p s
/-- TABLE_READ. -/
def execTableRead (dt : Nat) (p : Packet) (s : State) : Host.Outcome State Fault Refusal :=
  execMail tableReadCmd (codeIs 0x0022) dt p s
/-- TABLE_WRITE. -/
def execTableWrite (dt : Nat) (p : Packet) (s : State) : Host.Outcome State Fault Refusal :=
  execMail tableWriteCmd (codeIs 0x0023) dt p s
/-- COMMIT_CONFIG. -/
def execCommitConfig (dt : Nat) (p : Packet) (s : State) : Host.Outcome State Fault Refusal :=
  execMail commitConfigCmd (codeIs 0x0024) dt p s
/-- COMMIT_CONFIG_DONE: the running commit ends (R49). -/
def execCommitConfigDone (dt : Nat) (s : State) : Host.Outcome State Fault Refusal :=
  let s := s.elapse dt
  match s.cfg.commit with
  | none => .next s
  | some (op, _) => .next (({ s with cfg := { s.cfg with commit := none } }).commitDone op)
/-- DISCARD_EDITS. -/
def execDiscardEdits (dt : Nat) (p : Packet) (s : State) : Host.Outcome State Fault Refusal :=
  execMail discardEditsCmd (codeIs 0x0025) dt p s
/-- CONFIG_EXPORT. -/
def execConfigExport (dt : Nat) (p : Packet) (s : State) : Host.Outcome State Fault Refusal :=
  execMail configExportCmd (codeIs 0x0026) dt p s
/-- CONFIG_IMPORT. -/
def execConfigImport (dt : Nat) (p : Packet) (s : State) : Host.Outcome State Fault Refusal :=
  execMail configImportCmd (codeIs 0x0027) dt p s

/-- A register written by the row's own packet: a PARAM_WRITE that names it. -/
def writesReg (i : Nat) (d : List Byte) : Bool :=
  codeIs 0x0021 d && (pwEntries (d.drop 48)).any (fun e => e.1 == i)

/-- A register row (R371): by PARAM_WRITE from a host, or, for SeqGo and GoAll, through the trigger port from inside (R292). -/
def execReg (i : Nat) (ported : Bool) (dt : Nat) (w : RegWrite) (s : State) : Host.Outcome State Fault Refusal :=
  match w with
  | .host p => execMail paramWriteCmd (writesReg i) dt p s
  | .port mask => if ported then .next ((s.elapse dt).strobe i mask) else .next (s.elapse dt)

/-- SEQ_GO (R371). -/
def execSeqGo (dt : Nat) (w : RegWrite) (s : State) : Host.Outcome State Fault Refusal := execReg 0x09F8 true dt w s
/-- GO_ALL (R371). -/
def execGoAll (dt : Nat) (w : RegWrite) (s : State) : Host.Outcome State Fault Refusal := execReg 0x09F9 true dt w s
/-- SEQ_STOP (R371). -/
def execSeqStop (dt : Nat) (w : RegWrite) (s : State) : Host.Outcome State Fault Refusal := execReg 0x09FA false dt w s
/-- SLOT_SWAP (R354). -/
def execSlotSwap (dt : Nat) (w : RegWrite) (s : State) : Host.Outcome State Fault Refusal := execReg 0x08B2 false dt w s
/-- DO_FAULT_CLEAR (R422). -/
def execDoFaultClear (dt : Nat) (w : RegWrite) (s : State) : Host.Outcome State Fault Refusal := execReg 0x0BE7 false dt w s
/-- ARB_FREEZE (R350). -/
def execArbFreeze (dt : Nat) (w : RegWrite) (s : State) : Host.Outcome State Fault Refusal := execReg 0x08B0 false dt w s

end Sys2Proof.Machine
end

