-- ==== Sys2Proof/Machine/Program.lean ====
section
/-!
DEFINITION. Programs: images and their check (R120–R123), loading and switching (R157–R160), values and forces changed in service
(R150–R156), and triggered starts (R551).
-/
namespace Sys2Proof.Machine

/-! ## Program images -/

/-- A section of a program image: its entries of `k` bytes, from one offset of the header to the next section (the header gives no
lengths; log 24). -/
def progSection (b : List Byte) (from_ to_ k : Nat) : List (List Byte) :=
  let n := (min to_ b.length - from_) / k
  chunks k n (slice b from_ (k * n))

/-- The entry of the point map (R121). -/
def pointDecl (e : List Byte) : PointDecl :=
  { binary := bit (leAt e 0 4) 31, real := bit (leAt e 0 4) 30, point := leAt e 0 2, kind := leAt e 4 1, producer := leAt e 6 2 }

/-- The entry of the symbol table (R122). -/
def symDecl (e : List Byte) : Sym :=
  { hash := leAt e 0 4, offset := leAt e 4 4, size := leAt e 8 2, type := leAt e 0x0A 1, task := leAt e 0x0B 1, flags := leAt e 0x0C 1 }

/-- What the task table says of a task (log 9). -/
def taskDecl (b : List Byte) (n : Nat) : TaskDecl :=
  let l := fun k => (Config.taskTable b n).getD k []
  let size := (l 5).getD 0 0
  let blocks := (List.range ((l 7).length / 2)).map (fun i => ((l 7).getD (2 * i) 0, (l 7).getD (2 * i + 1) 0))
  { inAp := l 0, inBp := l 1, outAp := l 2, outBp := l 3, edges := l 4, stateSize := size, retainSize := (l 5).getD 1 0,
    init := (List.range size).map (Config.taskInit b n), results := l 6, blocks := blocks, harts := l 8, ctx := (l 5).getD 2 0,
    txs := l 9 }

/-- The program an image holds. -/
def parseProgram (b : List Byte) : Program :=
  { points := (progSection b (leAt b 0x38 4) (leAt b 0x3C 4) 8).map pointDecl
    syms := (progSection b (leAt b 0x40 4) (leAt b 0x44 4) 16).map symDecl
    tasks := (List.range (leAt b 0x0C 1)).map (fun n => (n, taskDecl b n))
    digest := BitVec.ofNat 64 (beAt b 0x10 8) }

/-- The unit whose absence forbids a producer (R123). -/
def producerUnit (d : PointDecl) : Option OptUnit :=
  if d.kind = 6 then some .phs
  else if d.kind ≠ 3 then none
  else if d.producer < 0x0100 then none
  else if d.producer < 0x0200 then some .ai
  else if d.producer < 0x0300 then some .ao
  else if d.producer < 0x03A0 ∨ (0x03B0 ≤ d.producer ∧ d.producer < 0x03D0) then some .dio
  else none

/-- The tasks of a program that are placed on a logical pair (R123, R125), enabled or not. -/
def State.placed (s : State) (p : Program) (pair : Nat) : List TaskDecl :=
  p.tasks.filterMap (fun (n, d) => if bits (s.taskCtl n) 20 4 == pair then some d else none)

/-- A point of the phase unit that the catalogue writes has an enabled entry that writes it (R184). -/
def State.catWrites (s : State) (d : PointDecl) : Bool :=
  let writes := fun (e a : Nat) => bit (fld e 5 0 8) 0 && fld e 4 0 8 == a
  if d.kind ≠ 6 ∨ d.producer < 0x0100 then true
  else if d.binary then
    (s.entries 0x0004).any (fun (_, e) => (writes e 3 || writes e 4) && 0x0200 + fld e 6 0 16 == d.producer)
  else
    let e := s.entry 0x0004 (d.producer - 0x0100)
    (writes e 2 && fld e 6 0 16 == d.point) || (writes e 6 && (fld e 6 0 16 == d.point || fld e 6 0 16 + 1 == d.point))

/-- The check of a program image (R123, R184): status and position of the first failure. -/
def State.progRefused (s : State) (b : List Byte) : Option (Status × Nat) :=
  let p := parseProgram b
  let digest := sha256 (b.take 0x10 ++ List.replicate 32 0#8 ++ b.drop 0x30)
  let at_ := fun (o : Option Nat) => o.map (fun k => (Status.badParameter, k))
  let whole := fun (c : Bool) (st : Status) => fun (_ : Unit) => if c then some (st, noPos) else none
  firstFail [
    whole (slice b 0 4 != [0x49#8, 0x53#8, 0x50#8, 0x47#8] || leAt b 4 2 != 1 || digest != slice b 0x10 32 ||
      decide (s.feature < leAt b 6 2)) .imageRefused,
    fun _ => at_ (firstIdx (fun (k, (d : PointDecl)) =>
      (p.points.take k).any (fun x => x.binary == d.binary && x.point == d.point) ||
      (match producerUnit d with | some u => !s.has u | none => false) || !s.catWrites d) (p.points.zipIdx.map (fun (d, k) => (k, d)))),
    fun _ => at_ (firstIdx (fun (n, (d : TaskDecl)) =>
      d.outAp.any (fun x => !p.declares false x 1 n) || d.outBp.any (fun x => !p.declares true x 1 n)) p.tasks),
    fun _ => at_ (firstIdx (fun (n, (_ : TaskDecl)) =>
      !s.pairServes (s.annex.pairRemap.getD (bits (s.taskCtl n) 20 4) 10)) p.tasks),
    fun _ => at_ (firstIdx (fun (c : Nat) =>
      let ds := s.placed p c
      decide (8192 < ds.foldl (fun a d => a + d.inAp.length + d.outAp.length) 0) ||
      decide (32768 < ds.foldl (fun a d => a + d.inBp.length + d.outBp.length) 0)) (List.range 10)),
    fun _ => at_ (Config.codeCheck b),
    whole (decide (leAt b 8 4 < 256 ∨ 536870912 < leAt b 8 4) || decide (leAt b 0x0C 1 < 1 ∨ 32 < leAt b 0x0C 1) ||
      decide (268435456 < leAt b 0x50 4) || decide (67108864 < leAt b 0x58 4)) .range]

/-- Change a program slot, 0 PG-A. -/
def State.modProg (s : State) (k : Nat) (f : ProgSlot → ProgSlot) : State :=
  if k = 0 then { s with tk := { s.tk with slotA := f s.tk.slotA } } else { s with tk := { s.tk with slotB := f s.tk.slotB } }

/-! ## PROGRAM_LOAD (R157) -/

/-- The slot PROGRAM_LOAD writes: the one that is not running, or PG-A. -/
def State.loadSlot (s : State) : Nat := if s.tk.active = 0 then 1 else 0

/-- PROGRAM_LOAD. A pending PROGRAM_SWITCH keeps the slots busy (log 24). -/
def programLoadCmd : Cmd := { Cmd.plain 0x0040 (fun r s =>
    let k := s.loadSlot
    let start := r.arg = 0
    let b := (if start then [] else (s.progSlot k).bytes) ++ r.body
    if !start ∧ s.tk.loadNext ≠ some r.arg then refuse .sequence noPos s
    else if 128 ≤ b.length ∧ leAt b 8 4 < b.length then refuse .range noPos s
    else
      let s := s.modProg k (fun p => { p with
        bytes := b, complete := decide (128 ≤ b.length) && leAt b 8 4 == b.length,
        patches := if start then [] else p.patches })
      okRep { s with tk := { s.tk with loadNext := some b.length } }) with
  malformed := fun r _ => if r.body.isEmpty ∨ 4096 < r.body.length then some noPos else none
  busy := fun _ s => s.tk.switch.isSome }

/-! ## PROGRAM_SWITCH (R158–R160) -/

/-- The bytes of a symbol in its task's state area. -/
def State.symBytes (s : State) (y : Sym) : List Byte :=
  (List.range y.size).map (fun i => tget (s.task y.task).area (y.offset + i) 0#8)

/-- The carry-over map of an image: old and new symbol. -/
def carryMap (b : List Byte) : List (Nat × Nat) :=
  if leAt b 0x48 4 = 0 then []
  else (progSection b (leAt b 0x48 4) (leAt b 0x4C 4) 8).map (fun e => (leAt e 0 4, leAt e 4 4))

/-- The first entry of the map that fails R159. -/
def carryBad (old new : Program) (m : List (Nat × Nat)) : Option Nat :=
  firstIdx (fun (k, (a, c)) =>
    (m.take k).any (fun x => x.2 == c) ||
    (match old.syms[a]?, new.syms[c]? with
      | some x, some y => !(bit x.flags 0 && bit y.flags 0 && x.hash == y.hash && x.type == y.type && x.size == y.size)
      | _, _ => true)) (m.zipIdx.map (fun (x, k) => (k, x)))

/-- Why a switch to a slot fails (R123, R159). -/
def State.switchRefused (s : State) (w : ProgSwitch) : Option (Status × Nat) :=
  let b := (s.progSlot w.slot).bytes
  firstFail [
    fun _ => s.progRefused b,
    fun _ => if w.cold then none
      else if s.tk.active = 0xFF ∨ beAt b 0x30 8 ≠ s.tk.prog.digest.toNat then some (Status.badParameter, noPos)
      else (carryBad s.tk.prog (parseProgram b) (carryMap b)).map (fun k => (Status.badParameter, k))]

/-- The initial state area of a task. -/
def TaskDecl.area (d : TaskDecl) : Tab Byte := areaPut [] 0 d.init

/-- A program starts in a slot: areas at their initial values, previous states as R138 gives, points it does not declare at 0
(R121, R138, R160). The force list stands, also for a point that the new program does not declare (DESIGN CHOICE, log 153). -/
def State.startProgram (s : State) (slot : Nat) (p : Program) : State :=
  let s := { s with
    tk := { s.tk with prog := p, active := slot }
    pts := { ap := s.pts.ap.filter (fun x => p.has false x.1), bp := s.pts.bp.filter (fun x => p.has true x.1) } }
  let s := s.bindLoops
  (List.range 32).foldl (fun s n =>
    let s := s.modTask n (fun k => { k with area := (s.decl n).area, prev := [], writes := [], abandoned := none, heldStarts := [] })
    let h := s.hashArea n
    s.modTask n (fun k => { k with hash := h })) s

/-- The mapped bytes of a switch (R160). -/
def State.mappedBytes (s : State) (w : ProgSwitch) : Nat :=
  if w.cold then 0
  else (carryMap (s.progSlot w.slot).bytes).foldl (fun a (i, _) => a + (match s.tk.prog.syms[i]? with | some y => y.size | none => 0)) 0

/-- The new slot runs (R159, R160 step 3), and a load into the other slot begins afresh (R157). -/
def State.switchDone (s : State) (w : ProgSwitch) (gap : Nat) : State :=
  let b := (s.progSlot w.slot).bytes
  let old := s.tk.prog
  let new := parseProgram b
  let m := if w.cold then [] else carryMap b
  let vals := m.filterMap (fun (a, c) =>
    match old.syms[a]?, new.syms[c]? with
    | some x, some y => some (y, s.symBytes x)
    | _, _ => none)
  let dropped := ((old.syms.zipIdx).filter (fun (y, i) => bit y.flags 0 && !(m.any (fun x => x.1 == i)))).length
  let s := s.startProgram w.slot new
  let s := vals.foldl (fun s (y, v) => s.writeArea y.task y.offset v) s
  let s := { s with tk := { s.tk with
    switch := none, loadNext := none, dropped := dropped, switches := s.tk.switches + 1,
    gap := if s.mode = Mode.m8 then gap else s.tk.gap } }
  let s := s.raise 11 [(1, w.slot), (8, new.digest.toNat), (1, b2n w.cold), (4, dropped)]
  s.completeOpt w.op .ok

/-- The switch fails: the status and position of the failure, and nothing changes (R123, R159). -/
def State.switchFails (s : State) (w : ProgSwitch) (st : Status) (k : Nat) : State :=
  ({ s with tk := { s.tk with switch := none } }).completeOpt w.op st (beBytes 4 k)

/-- In M2, M3 and M10 the switch completes at the boundary (R158). -/
def State.switchAtFrame (s : State) : State :=
  match s.tk.switch with
  | none => s
  | some w =>
    if s.now < w.at_ ∨ s.mode.isRun then s
    else match s.switchRefused w with
      | some (st, k) => s.switchFails w st k
      | none => s.switchDone w 0

/-- PROGRAM_SWITCH_GAP (R160): at its boundary the gap begins; once no cycle is open step 3 begins, and when the mapped bytes are
copied the new slot runs. -/
def execProgramSwitchGap (dt : Nat) (s : State) : Host.Outcome State Fault Refusal :=
  let s := s.elapse dt
  match s.tk.switch with
  | none => .next s
  | some w =>
    if s.mode ≠ .m8 ∨ s.now < w.at_ then .next s
    else
      match w.since with
      | none =>
        match s.switchRefused w with
        | some (st, k) => .next (s.switchFails w st k)
        | none => .next { s with tk := { s.tk with switch := some { w with since := some s.tick } } }
      | some t =>
        if (List.range 32).any (fun n => (s.cyc n).isSome) then .next s
        else
          let c := w.copying.getD s.tick
          -- 4 GB/s: 32 bytes in a tick
          if s.since c (s.mappedBytes w / 32) then .next (s.switchDone w ((s.tick - t) / Config.ticksPerUs))
          else .next { s with tk := { s.tk with switch := some { w with copying := some c } } }

/-- A VALUE_WRITE waits for its task or its boundary. -/
def State.valuePending (s : State) : Bool :=
  (List.range 32).any (fun n => !(s.task n).writes.isEmpty) || s.mbx.scheduled.any (fun c => c.code == 0x0042)

/-- PROGRAM_SWITCH (R158). -/
def programSwitchCmd : Cmd := { Cmd.plain 0x0041 (fun r s =>
    let (op, s) := s.startOp r
    let f := if s.mode = .m8 then frameAtOrAfter (s.now + s.eff 0x0109 * 1000) else frameAfter s.now
    { okRep { s with tk := { s.tk with switch := some ⟨beAt r.body 0 1, beAt r.body 1 1 == 1, some op, f, none, none⟩ } } with
      status := .accepted }) with
  malformed := fun r _ => if r.body.length ≠ 4 ∨ beAt r.body 2 2 ≠ 0 then some noPos else none
  unready := fun r s =>
    let k := beAt r.body 0 1
    if k = s.tk.active ∨ (k ≤ 1 ∧ !(s.progSlot k).complete) then some noPos else none
  value := fun r _ => if 1 < beAt r.body 0 1 ∨ 1 < beAt r.body 1 1 then some (.range, noPos) else none
  busy := fun _ s => s.tk.switch.isSome || s.valuePending
  async := fun _ _ => true }

/-! ## VALUE_WRITE (R154–R156) -/

/-- The entries of a VALUE_WRITE: symbol, length, value. -/
def vwEntries (b : List Byte) : List (Nat × Nat × Nat) :=
  (List.range (min 256 (beAt b 4 2))).map (fun k => (beAt b (8 + 16 * k) 4, beAt b (12 + 16 * k) 1, beAt b (16 + 16 * k) 8))

/-- A value outside its type's range, or a REAL that is not finite (R154). -/
def typeRange (type v : Nat) : Bool :=
  match type with
  | 1 => decide (1 < v)
  | 10 => !fisFin fmt32 v
  | 11 => !fisFin fmt64 v
  | _ => false

/-- The value checks of one entry (R154). -/
def State.vwBad (s : State) (task : Nat) (e : Nat × Nat × Nat) : Option Status :=
  match s.tk.prog.syms[e.1]? with
  | none => some .badParameter
  | some y => firstFail [
      bad (!bit y.flags 2 || y.task != task || e.2.1 != y.size || decide (8 < e.2.1)) .badParameter,
      bad (decide (2 ^ (8 * e.2.1) ≤ e.2.2) || typeRange y.type e.2.2) .range]

/-- A VALUE_WRITE begins to wait for the gap between two cycles of its task. -/
def State.queueValues (s : State) (op : Option Nat) (b : List Byte) (sid : U32) (at_ : Nat) : State :=
  s.modTask (beAt b 0 1) (fun k => { k with writes := k.writes ++ [⟨vwEntries b, op, sid, b, at_⟩] })

/-- VALUE_WRITE at the application boundary of a pair (R83). -/
def valueWriteApply (op : Option Nat) (b : List Byte) (sid : U32) (s : State) : State := s.queueValues op b sid s.now

/-- The constant patches that a VALUE_WRITE and those already pending would add do not fit (R156). -/
def State.patchesFull (s : State) (b : List Byte) : Bool :=
  let held := if s.tk.active = 0xFF then [] else (s.progSlot s.tk.active).patches
  let waiting := ((List.range 32).map (fun n => (((s.task n).writes.map (·.entries)).flatten).map (·.1))).flatten ++
    ((s.mbx.scheduled.filter (·.code == 0x0042)).map (fun c => (vwEntries c.body).map (·.1))).flatten
  let new := (((vwEntries b).map (·.1)) ++ waiting).filter (fun y =>
    (match s.tk.prog.syms[y]? with | some y => bit y.flags 1 | none => false) && !held.any (fun q => q.1 == y))
  decide (4096 < held.length + new.eraseDups.length)

/-- VALUE_WRITE. -/
def valueWriteCmd : Cmd := { Cmd.plain 0x0042 (fun r s => runAsync (fun op b sid s => s.queueValues op b sid 0) r s) with
  malformed := fun r s =>
    let n := beAt r.body 4 2
    if r.body.length ≠ 8 + 16 * n ∨ beAt r.body 1 3 ≠ 0 ∨ beAt r.body 6 2 ≠ 0 then some noPos
    else firstIdx (fun k => beAt r.body (13 + 16 * k) 3 != 0 || (s.tk.prog.syms[beAt r.body (8 + 16 * k) 4]?).isNone)
      (List.range (min 256 n))
  value := fun r s =>
    let n := beAt r.body 4 2
    if n = 0 ∨ 32 < n ∨ 31 < beAt r.body 0 1 then some (.range, noPos)
    else (((vwEntries r.body).zipIdx).filterMap (fun (e, k) => (s.vwBad (beAt r.body 0 1) e).map (fun st => (st, k)))).head?
  busy := fun r s =>
    decide (8 ≤ (s.task (beAt r.body 0 1)).writes.length +
      (s.mbx.scheduled.filter (fun c => c.code == 0x0042 && beAt c.body 0 1 == beAt r.body 0 1)).length) ||
    s.tk.switch.isSome || s.patchesFull r.body || !s.archFree r.body
  async := fun _ _ => true
  pair := alwaysPair
  apply := valueWriteApply }

/-! ## Forces (R150–R153) -/

/-- The entries of a FORCE_SET: kind, point, value. -/
def forceEntries (b : List Byte) : List (Nat × Nat × Nat) :=
  (List.range (min 512 (beAt b 0 2))).map (fun k => (beAt b (4 + 8 * k) 1, beAt b (6 + 8 * k) 2, beAt b (8 + 8 * k) 4))

/-- The entries of a FORCE_CLEAR: kind and point. -/
def clearEntries (b : List Byte) : List (Nat × Nat) :=
  (List.range (min 1024 (beAt b 0 2))).map (fun k => (beAt b (4 + 4 * k) 1, beAt b (6 + 4 * k) 2))

/-- The lowest unused force slot. -/
def State.freeForce (s : State) : Nat :=
  ((List.range 1024).find? (fun k => (tget s.tk.forces k {}).kind == 0)).getD 1024

/-- One force added, or replaced in place (R152). -/
def State.addForce (s : State) (kind point value : Nat) : State :=
  let k := (s.forceSlot kind point).getD s.freeForce
  s.modForce k (fun f => { f with kind := kind, point := point, value := value, setTime := s.now, ending := false })

/-- FORCE_SET applied on one module, with its Archive record (R152). -/
def State.forceSet (s : State) (b : List Byte) (sid : U32) : State :=
  let s := (forceEntries b).foldl (fun s (k, p, v) => s.addForce k p v) s
  (s.refreshForces).archCommand 0 0x0043 sid.toNat b

/-- FORCE_SET at the application boundary of a pair. -/
def forceSetApply (op : Option Nat) (b : List Byte) (sid : U32) (s : State) : State := (s.forceSet b sid).completeOpt op .ok

/-- The declaration and value checks of one force (R152). -/
def State.forceBad (s : State) (e : Nat × Nat × Nat) : Option Status :=
  let (kind, p, v) := e
  let d := if kind = 1 then s.tk.prog.declOf false p else if kind = 2 then s.tk.prog.declOf true p else none
  firstFail [
    bad (kind == 2 && decide (1 < v)) .range,
    bad (kind == 1 && (match d with | some x => x.real && !fisFin fmt32 v | none => false)) .range,
    bad d.isNone .badParameter]

/-- FORCE_SET. -/
def forceSetCmd : Cmd := { Cmd.plain 0x0043 (fun r s => okRep (s.forceSet r.body r.session)) with
  malformed := fun r _ =>
    if r.body.length ≠ 4 + 8 * beAt r.body 0 2 ∨ beAt r.body 2 2 ≠ 0 then some noPos
    else firstIdx (fun k => beAt r.body (5 + 8 * k) 1 != 0) (List.range (min 512 (beAt r.body 0 2)))
  unready := fun _ s => if s.mode != .m8 && s.eff 0x0106 != 1 then some noPos else none
  value := fun r s =>
    if beAt r.body 0 2 = 0 ∨ 64 < beAt r.body 0 2 then some (.range, noPos)
    else (((forceEntries r.body).zipIdx).filterMap (fun (e, k) => (s.forceBad e).map (fun st => (st, k)))).head?
  busy := fun r s =>
    let new := (((forceEntries r.body).map (fun (k, p, _) => (k, p))).eraseDups).filter (fun (k, p) => (s.forceSlot k p).isNone)
    decide (1024 < s.tk.forces.length + new.length) || !s.archFree r.body
  pair := alwaysPair
  apply := forceSetApply }

/-- The slots a FORCE_CLEAR removes (R152: Count 0 clears the whole list). -/
def State.clearSlots (s : State) (b : List Byte) : List Nat :=
  (s.tk.forces.filter (fun (_, f) => !f.ending &&
    (beAt b 0 2 == 0 || (clearEntries b).any (fun (k, p) => k == f.kind && p == f.point)))).map Prod.fst

/-- FORCE_CLEAR: the entries end at the next slice load or close, or with `now` at once (R150, R152). -/
def State.forceClear (s : State) (b : List Byte) (sid : U32) (now : Bool) : State :=
  let ks := s.clearSlots b
  let s := if now || !s.tk.applied then ks.foldl State.dropForce s
    else ks.foldl (fun s k => s.modForce k (fun f => { f with ending := true })) s
  s.refreshForces.archCommand 0 0x0044 sid.toNat b

/-- FORCE_CLEAR at the application boundary of a pair. -/
def forceClearApply (op : Option Nat) (b : List Byte) (sid : U32) (s : State) : State := (s.forceClear b sid true).completeOpt op .ok

/-- FORCE_CLEAR. -/
def forceClearCmd : Cmd := { Cmd.plain 0x0044 (fun r s =>
    okRep (s.forceClear r.body r.session false) [] (s.clearSlots r.body).length) with
  malformed := fun r _ =>
    if r.body.length ≠ 4 + 4 * beAt r.body 0 2 ∨ beAt r.body 2 2 ≠ 0 then some noPos
    else firstIdx (fun k => beAt r.body (5 + 4 * k) 1 != 0) (List.range (min 1024 (beAt r.body 0 2)))
  value := fun r _ => if 64 < beAt r.body 0 2 then some (.range, noPos) else none
  busy := fun r s => !s.archFree r.body
  pair := alwaysPair
  apply := forceClearApply }

/-! ## TASK_TRIGGER (R551) -/

/-- A triggered start falls due at `t`; a trigger that meets one before it makes one start with it (R127). -/
def State.trigger (s : State) (n t : Nat) (op : Option Nat) : State :=
  s.modTask n (fun k => { k with trigger := some (match k.trigger with
    | some (t', l) => (min t t', l ++ op.toList)
    | none => (t, op.toList)) })

/-- TASK_TRIGGER at the application boundary of a pair: the start falls due there. -/
def taskTriggerApply (op : Option Nat) (b : List Byte) (_ : U32) (s : State) : State := s.trigger (beAt b 0 1) s.now op

/-- CadenceKind and EventKind 2 (R551). -/
def State.triggered (s : State) (n : Nat) : Bool := s.cadence n == 2 && bits (s.taskCtl n) 10 2 == 2

/-- TASK_TRIGGER (R551). A task of the right kinds that is not enabled has no starts: STATE_REFUSED (log 25). Outside a pair the response is held until the start
has fallen due; a second trigger before that joins the first, and both name its OSN. -/
def taskTriggerCmd : Cmd := { Cmd.plain 0x0045 (fun r s =>
    let id := s.mbx.nextOp
    let s := { s with mbx := { s.mbx with nextOp := id + 1, relays := s.mbx.relays ++
      [(⟨r.code, r.via, r.addr, r.port, r.head, r.session, r.counter, id⟩ : Relay)] } }
    { okRep (s.trigger (beAt r.body 0 1) (frameAfter s.now) (some id)) with hold := true }) with
  malformed := fun r _ => if r.body.length ≠ 4 ∨ beAt r.body 1 3 ≠ 0 then some noPos else none
  unready := fun r s =>
    let n := beAt r.body 0 1
    if n < 32 ∧ s.triggered n ∧ !s.taskOn n then some noPos else none
  value := fun r s =>
    let n := beAt r.body 0 1
    if 31 < n then some (.range, noPos) else if !s.triggered n then some (.badParameter, noPos) else none
  pair := alwaysPair
  apply := taskTriggerApply }

/-- The request a waiting answer belongs to. -/
def Relay.req (x : Relay) : Req := { parseReq x.via x.addr x.port x.header with session := x.session, counter := x.counter }

/-- Answer a request whose response has been held or relayed (R83, R551), journalled where it has been executed; a session whose level
key has changed meanwhile closes with it (R95). -/
def State.answerRelay (s : State) (x : Relay) (st : Status) (arg : Nat) (body : List Byte) : State :=
  let s := { s with mbx := { s.mbx with relays := s.mbx.relays.filter (fun y => y != x) } }
  let s := s.respond x.req ((s.session x.session).map (·.key)) x.session st arg body
  let s := if st = .ok ∨ st = .accepted then s.journalled x.req st else s
  if (match s.session x.session with | some y => y.closing && !s.mbx.relays.any (·.session == x.session) | none => false) then
    s.endSession x.session else s

/-- The held responses of a trigger: OK with the OSN of its start, or STATE_REFUSED where the mode has dropped it. -/
def State.answerTriggers (s : State) (id : Nat) (osn : Option Nat) : State :=
  (s.mbx.relays.filter (fun x => x.op == id)).foldl (fun s x =>
    match osn with
    | some k => s.answerRelay x .ok k []
    | none => s.answerRelay x .stateRefused noPos []) s

/-- TASK_DUE_START (R127, R551). -/
def State.taskDue (s : State) (n : Nat) : State :=
  let before := (s.task n).trigger
  let s := s.dueStart n
  match before, (s.task n).trigger with
  | some (_, ids), none =>
    ids.foldl (fun s id => s.answerTriggers id (if s.mode.isRun then some (s.task n).osn else none)) s
  | _, _ => s

/-! ## Rows -/

/-- PROGRAM_LOAD. -/
def execProgramLoad (dt : Nat) (p : Packet) (s : State) : Host.Outcome State Fault Refusal :=
  execMail programLoadCmd (codeIs 0x0040) dt p s
/-- PROGRAM_SWITCH. -/
def execProgramSwitch (dt : Nat) (p : Packet) (s : State) : Host.Outcome State Fault Refusal :=
  execMail programSwitchCmd (codeIs 0x0041) dt p s
/-- VALUE_WRITE. -/
def execValueWrite (dt : Nat) (p : Packet) (s : State) : Host.Outcome State Fault Refusal :=
  execMail valueWriteCmd (codeIs 0x0042) dt p s
/-- VALUE_WRITE_APPLY (R155, R309). -/
def execValueWriteApply (dt n : Nat) (s : State) : Host.Outcome State Fault Refusal := atRes n 32 (s.elapse dt) ((s.elapse dt).applyWrites n)
/-- FORCE_SET. -/
def execForceSet (dt : Nat) (p : Packet) (s : State) : Host.Outcome State Fault Refusal :=
  execMail forceSetCmd (codeIs 0x0043) dt p s
/-- FORCE_CLEAR. -/
def execForceClear (dt : Nat) (p : Packet) (s : State) : Host.Outcome State Fault Refusal :=
  execMail forceClearCmd (codeIs 0x0044) dt p s
/-- TASK_TRIGGER. -/
def execTaskTrigger (dt : Nat) (p : Packet) (s : State) : Host.Outcome State Fault Refusal :=
  execMail taskTriggerCmd (codeIs 0x0045) dt p s

end Sys2Proof.Machine
end

