-- ==== Sys2Proof/Machine/PowerOps.lean ====
section
/-!
DEFINITION. What a restart and a loss of power do: the Archive's flash (R489, R498), the final save (R61, R251, R497) and entry into
M0, which keeps what flash and the Ledger hold (R35, R36, R112, R246, R303).
-/
namespace Sys2Proof.Machine

/-! ## The Archive on flash (R489) -/

/-- A record goes to its tail slot, and to its head slot while the head lasts (R489); EV232 when the position returns to slot 0. -/
def State.archPut (s : State) (r : ArchRec) : State :=
  let k := (r.seq - 1) % 1048576
  let s := { s with arch := { s.arch with
    tail := tset s.arch.tail k none (some r)
    head := if r.seq ≤ 65536 then tset s.arch.head (r.seq - 1) none (some r) else s.arch.head
    flashed := r.seq
    wraps := if k = 0 ∧ r.seq ≠ 1 then wrapInc 32 s.arch.wraps else s.arch.wraps } }
  if k = 0 ∧ r.seq ≠ 1 then s.raise 232 [(8, r.seq), (4, s.arch.wraps)] else s

/-! ## The final save (R55, R61, R497) -/

/-- The retained part of each task that the program declares, over what the last save held of other tasks (R62). -/
def State.retainedParts (s : State) : Tab (List Byte) :=
  let old := match s.ret.save with | some (_, _, t) => t | none => []
  (List.range 32).foldl (fun t n =>
    let k := (s.decl n).retainSize
    if k = 0 then t else tset t n [] ((List.range k).map (fun i => tget (s.task n).area i 0#8))) old

/-- A save of the retained data is complete (R61, R62). -/
def State.saveRetained (s : State) (final : Bool) : State :=
  { s with ret := { s.ret with
    save := some (s.now, final, s.retainedParts), dirty := [], lastTick := if final then s.ret.lastTick else s.tick } }

/-- The granules dirtied since the last periodic save exceed 4 MiB (R61). -/
def State.saveTooBig (s : State) : Bool := decide (1024 < s.ret.dirty.length)

/-- The Archive's part of a final save (R497): the power-down record and the first 256 staged records reach flash; the rest is lost
and its number told after the next power-up. -/
def State.archFinal (s : State) : State :=
  let before := s.arch.stage
  let s := s.stageRec 0 4 2 0 0 0 1 [] s.now true
  let lost := (before.length - 256) + s.arch.held.length
  let write := before.take 256 ++ s.arch.stage.drop before.length
  let s := { s with arch := { s.arch with
    stage := [], held := [], lastDown := s.now
    lostCount := (s.arch.lostCount + lost) % 2 ^ 32, lostPending := s.arch.lostPending + lost } }
  write.foldl State.archPut s

/-- The final save begins (R61, R62): it takes the retained variables as they stand now, unless it is skipped. -/
def State.beginSave (s : State) : State :=
  { s with
    ret := { s.ret with begun := if s.ret.skip then none else some s.retainedParts }
    sup := { s.sup with saving := some (s.tick, 0) } }

/-- The final save (R55, R61, R251): retained data, journal, power-down record. At a loss of power (`limited`) it holds what stood at its
beginning, is skipped where the detection has found more than 4 MiB, and 4,096 journal entries are written. In M0 and M1 no save is made
(R544). -/
def State.finalSave (s : State) (limited : Bool) : State :=
  if s.mode = .m0 ∨ s.mode = .m1 then s
  else
    let s := if limited && s.ret.skip then s
      else match s.ret.begun with
        | some parts => { s with ret := { s.ret with save := some (s.now, true, parts), dirty := [], begun := none } }
        | none => s.saveRetained true
    (s.journalWrite (if limited then 4096 else s.al.ring.length)).archFinal

/-! ## Entry into M0 -/

/-- The firmware slots as power or a reset leaves them: an update that was running is lost (R508). -/
def FwSlot.powerLost (x : FwSlot) : FwSlot :=
  if x.owner.isSome then { x with state := 5, owner := none, lastBlock := none, verify := none } else x

/-- The updates that were running, by slot and next offset. -/
def State.lostUpdates (s : State) : List (Nat × Nat) :=
  [0, 1].filterMap (fun k => if (s.fwSlot k).owner.isSome then some (k, 256 + (s.fwSlot k).body.length) else none)

/-- The Ledger and what flash holds of the core pairs pass M0; running migrations do not, and OSC0 is the active reference (R25,
R313). -/
def Annex.atM0 (a : Annex) : Annex := { a with running := [], waiting := [], rotation := none, activeRef := 0, last := [] }

/-- What the Ledger keeps of a core pair (R301, R310). -/
def CorePair.atM0 (c : CorePair) : CorePair := {
  failed := c.failed, mismatches := c.mismatches, history := c.history, lastTime := c.lastTime, tested := c.tested }

/-- Entry into M0: the module is as at reset, but for what is kept. Staged Archive records and journal entries that no save has
written are lost and counted. -/
def State.enterM0 (s : State) : State :=
  let lost := s.arch.stage.length + s.arch.held.length
  { ident := s.ident
    clk := { ticks := s.clk.ticks }
    mu := {}
    cfg := {
      committed := s.cfg.committed, generation := s.cfg.generation, older := s.cfg.older
      migratedFrom := s.cfg.migratedFrom, dropCount := s.cfg.dropCount
      working := { schema := s.fwSchema }, base := { schema := s.fwSchema } }
    mbx := { keys := s.mbx.keys }
    trend := { recs := s.trend.recs, written := s.trend.written }
    arch := { s.arch with
      stage := [], held := [], lastRouted := [], dropped := [], rateDrops := 0, rebuilds := 0
      lostCount := (s.arch.lostCount + lost) % 2 ^ 32, lostPending := s.arch.lostPending + lost, prevHalt := s.mu.haltCause }
    pair := { goneCount := s.pair.goneCount, swaps := s.pair.swaps }
    tk := {
      slotA := s.tk.slotA, slotB := s.tk.slotB, active := s.tk.active, switches := s.tk.switches, changes := s.tk.changes
      task := (List.range 32).foldl (fun t n => tset t n {} ({ epoch := (s.task n).epoch } : Task)) [] }
    ret := { save := s.ret.save, lastTick := s.ret.lastTick }
    al := {
      jnext := s.al.jnext, flash := s.al.flash, flashed := s.al.flashed
      lost := BitVec.ofNat 32 s.al.ring.length, lostPending := s.al.ring.length }
    lk := { pair := (List.range 11).foldl (fun t p => tset t p {} (s.corePair p).atM0) [] }
    annex := s.annex.atM0
    ai := { cal := s.ai.cal.map (fun (c, k) => (c, ({ offset := k.offset, gain := k.gain } : ConvCal))) }
    ao := { chan := (List.range 16).foldl (fun t n => tset t n {} ({ trim := (s.aoChan n).trim } : AoChan)) [] }
    dio := { callOn := s.dio.callOn }
    can := { ch := (List.range 4).foldl (fun t c => tset t c {} ({ offs := (s.canCh c).offs } : CanCh)) [] }
    pnl := { wear := s.pnl.wear, worn := s.pnl.worn }
    fw := { s.fw with
      slotA := s.fw.slotA.powerLost, slotB := s.fw.slotB.powerLost, refuse := 0, act := none, hold := 0, result := 0
      lostUpdates := s.fw.lostUpdates ++ s.lostUpdates }
    sup := { present := s.sup.present, peak := s.sup.peak }
    free := s.free
    out := s.out
    pending := s.pending }

/-- A restart (R55): its sessions end, the final save is made, which the supply holds through, and the module enters M0. -/
def State.restartNow (s : State) : State :=
  (((s.mbx.sessions.map (·.id)).foldl State.endSession s).finalSave false).enterM0

end Sys2Proof.Machine
end

