-- ==== Sys2Proof/Machine/Time.lean ====
section
/-!
DEFINITION. The time base, PTP and corrections of the time (R445–R457).
-/
namespace Sys2Proof.Machine

/-- Change the time base's state. -/
def State.modClk (s : State) (f : Clk → Clk) : State := { s with clk := f s.clk }

/-- This module disciplines its time base to its partner's (R447). -/
def State.timeFollows (s : State) : Bool := !s.canLead && s.laneUp && (s.partnerLeads || s.partnerScans)

/-- The servo's new frequency correction (R446): the spec gives its bounds and not its law, so it is a free value within ±1,000 ppm
(log 8). -/
def State.servo (s : State) : State :=
  let (v, s) := s.takeFree
  s.modClk (fun c => { c with adj := ((v % 68719477 : Nat) : Int) - 34359738 })

/-- W: C rounded to the nearest multiple of 500 µs, ties toward zero (R451). -/
def wholePart (c : Int) : Int :=
  let n : Nat := (c.natAbs + 249999) / 500000
  if c < 0 then -(500000 * n : Nat) else (500000 * n : Nat)

/-- A correction is decided (R450, R451): for the first I/O bus frame boundary at least 1 ms later, announced to the partner. -/
def State.decideCorrection (s : State) (c : Int) (cause : Nat) (op : Option Nat) : State :=
  let f := frameAtOrAfter (s.now + 1000000)
  let s := s.modClk (fun k => { k with corr := some ⟨c, f, cause, op⟩ })
  if s.laneUp then s.announce 7 [f, ofSigned 64 c, cause] else s

/-- The servo asks for a correction (R450). -/
def State.askCorrection (s : State) (c : Int) : State :=
  let lim := s.eff 0x0CA0 * 1000
  if s.clk.corr.isSome then s
  else if s.clk.fresh then s.decideCorrection c 2 none
  else if c.natAbs ≤ lim then s.decideCorrection c 1 none
  else
    (s.modClk (fun k => { k with state := 4, pendingStep := c })).raise 196 [(8, ofSigned 64 c), (4, s.eff 0x0CA0)]

/-- PTP lock is lost (R449): HOLDOVER, the pending step is cleared, a slew ends. -/
def State.ptpLost (s : State) (cause : Nat) : State :=
  let was := s.clk.state
  let s := s.modClk (fun k => { k with
    state := 1, pendingStep := 0, slewing := false, slewRem := 0, runLock := 0, runLoss := 0 })
  if was = 3 then s.raise 195 [(8, ofSigned 64 s.clk.offset), (1, cause)] else s

/-- A Sync at the servo's port on a module that disciplines itself to PTP (R449, R450). -/
def State.servoSync (s : State) (offset : Int) : State :=
  let a := offset.natAbs
  let s := s.modClk (fun k => { k with
    runLock := if a < 1000 then k.runLock + 1 else 0, runLoss := if 10000 < a then k.runLoss + 1 else 0,
    runAsk := if 20000 < a then k.runAsk + 1 else 0 })
  let s := if s.clk.state = 0 ∨ s.clk.state = 1 ∨ s.clk.state = 5 ∨ s.clk.state = 6 then
      s.modClk (fun k => { k with state := 2, runLock := b2n (decide (a < 1000)) }) else s
  let s := if s.clk.state = 2 ∧ 16 ≤ s.clk.runLock then s.modClk (fun k => { k with state := 3, fresh := false }) else s
  let s := if s.clk.state = 3 ∧ 4 ≤ s.clk.runLoss then s.ptpLost 1 else s
  if s.clk.state = 4 then
    let s := s.modClk (fun k => { k with pendingStep := -offset })
    if a ≤ s.eff 0x0CA0 * 1000 ∧ s.clk.corr = none then s.decideCorrection (-offset) 1 none else s
  else if 4 ≤ s.clk.runAsk then (s.modClk (fun k => { k with runAsk := 0 })).askCorrection (-offset)
  else s.servo

/-- PTP is enabled and the port serves it (R436, R454). -/
def State.ptpOn (s : State) (p : Nat) : Bool :=
  bit (s.eff 0x0C60) 31 && s.ifcOn p && (s.port p).link && s.mode != .m0

/-- PTP_SYNC at a port: its offset, module − master, in ns (R448–R450). -/
def execPtpSync (dt p : Nat) (offset : Int) (s : State) : Host.Outcome State Fault Refusal :=
  let s := s.elapse dt
  if 2 ≤ p then .next s
  else if !s.ptpOn p then .next s
  else
    let s := s.modClk (fun k => { k with lastPtp := tset k.lastPtp p 0 s.tick })
    if s.clk.servoPort != p then .next s
    else
      let s := s.modClk (fun k => { k with offset := offset })
      .next (if s.timeFollows then s else s.servoSync offset)

/-- The port whose master is better, PN-A on a tie (R448). -/
def State.bestPort (s : State) : Option Nat :=
  match tlook s.clk.masters 0, tlook s.clk.masters 1 with
  | some (a, _, _), some (b, _, _) => if b < a then some 1 else some 0
  | some _, none => some 0
  | none, some _ => some 1
  | none, none => none

/-- The servo's port follows the masters (R448, R454): EV194 at a change of grandmaster identity. -/
def State.choosePort (s : State) : State :=
  match s.bestPort with
  | none => s.modClk (fun k => { k with servoPort := 0xFF })
  | some p =>
    let (_, gm, steps) := (tlook s.clk.masters p).getD (0, 0, 0)
    let old := s.clk.gmId
    let s := s.modClk (fun k => { k with servoPort := p, gmId := BitVec.ofNat 64 gm, stepsRemoved := BitVec.ofNat 16 steps })
    if old.toNat = gm then s else s.raise 194 [(8, old.toNat), (8, gm), (1, p)]

/-- PTP_ANNOUNCE (R448): `state` is the port's state after the best master clock algorithm; 6 makes the lead with GmCapable the
grandmaster, where no other port is a slave. -/
def execPtpAnnounce (dt p : Nat) (a : AnnIn) (s : State) : Host.Outcome State Fault Refusal :=
  let s := s.elapse dt
  if 2 ≤ p then .next s
  else if !s.ptpOn p then .next s
  else
    let master := a.state == 6 && bit (s.eff 0x0C60) 28 && s.canLead
    let s := s.modClk (fun k => { k with
      portState := tset k.portState p 0 (a.state % 256), utcOffset := a.utc,
      masters := if master then tdel k.masters p else tput k.masters p (a.prio, a.gm.toNat, a.steps) })
    let s := s.choosePort
    let s := s.modClk (fun k => { k with lastPtp := tset k.lastPtp p 0 s.tick })
    .next (if master && s.bestPort.isNone then s.modClk (fun k => { k with state := 6 })
      else if s.clk.state = 6 then s.modClk (fun k => { k with state := 1 }) else s)

/-- The announce receipt timeout in ticks (R448, R454): so many announce intervals. -/
def State.annTimeout (s : State) : Nat :=
  if bits (s.eff 0x0C60) 29 2 = 1 then 3 * Config.ticksPerSecond
  else bits (s.eff 0x0C61) 0 8 * (Config.ticksPerSecond * 2 ^ bits (s.eff 0x0C61) 16 8)

/-- PTP_TIMEOUT: no Sync or Announce at a port within the announce receipt timeout (R449): its master is gone, and lock is lost where none is
left at the other port. -/
def execPtpTimeout (dt p : Nat) (s : State) : Host.Outcome State Fault Refusal :=
  let s := s.elapse dt
  if 2 ≤ p then .next s
  else if (tlook s.clk.masters p).isNone || !s.since (tget s.clk.lastPtp p 0) s.annTimeout then .next s
  else
    let s := (s.modClk (fun k => { k with masters := tdel k.masters p })).choosePort
    .next (if s.bestPort.isNone && (s.clk.state == 3 || s.clk.state == 4) then s.ptpLost 2 else s)

/-- PTP_DELAY_RESPONSE (R448, R454). -/
def execPtpDelayResponse (dt p : Nat) (delay : U32) (s : State) : Host.Outcome State Fault Refusal :=
  let s := s.elapse dt
  if 2 ≤ p then .next s
  else if s.ptpOn p && s.clk.servoPort == p then .next (s.modClk (fun k => { k with pathDelay := delay })) else .next s

/-- SLEW_END: the residue has been absorbed (R451). -/
def execSlewEnd (dt : Nat) (s : State) : Host.Outcome State Fault Refusal :=
  let s := s.elapse dt
  .next (if s.clk.slewing && s.clk.slewRem == 0 then s.modClk (fun k => { k with slewing := false }) else s)

/-- The due starts of CadenceKind 0 that a forward step leaves out consume their OSNs (R452). -/
def State.skipSteps (s : State) (from_ : Nat) (w : Nat) : State :=
  (List.range 32).foldl (fun s n =>
    if s.taskOn n && s.cadence n == 0 && s.decidesStarts then
      let per := s.eff (0x0301 + 6 * n) * 1000
      let off := s.eff (0x0302 + 6 * n) * 1000
      let upto := fun (t : Nat) => if per = 0 ∨ t < off then 0 else (t - off) / per + 1
      let k := upto (from_ + w - 1) - upto from_
      s.modTask n (fun x => { x with osn := (x.osn + k) % 2 ^ 32, skips := min (2 ^ 32 - 1) (x.skips + k) })
    else s) s

/-- A correction is carried out at F (R451, R452). -/
def State.applyCorrection (s : State) (c : Correction) : State :=
  let w := wholePart c.c
  let r := c.c - w
  let f := s.gridInstant Config.frameNs
  let s := if 0 < w then s.skipSteps f w.toNat else s
  let s := s.modClk (fun k => { k with
    tb := ((k.tb : Int) + w).toNat, slewRem := r * 4294967296, slewing := decide (r ≠ 0), corr := none,
    stepCount := k.stepCount + 1, lastStep := f, fresh := false, stepTick := if w = 0 then k.stepTick else some k.ticks,
    state := if k.state = 4 ∨ k.state = 0 then 2 else k.state, pendingStep := 0, runAsk := 0 })
  let s := if w = 0 then s
    else
      let s := { s with al := { s.al with last := none } }
      let s := (List.range 32).foldl (fun s n =>
        if (s.task n).lastStamp = 0 then s else s.modTask n (fun x => { x with lastStamp := 1 })) s
      s.phaseUpdate [] []
  let s := s.raise 197 [(8, ofSigned 64 c.c), (8, ofSigned 64 w), (8, f), (1, c.cause)]
  s.completeOpt c.op .ok (beBytes 8 (ofSigned 64 c.c) ++ beBytes 8 f)

/-- TIME_CORRECTION_APPLY: the boundary F has come (R451). -/
def execTimeCorrectionApply (dt : Nat) (s : State) : Host.Outcome State Fault Refusal :=
  let s := s.elapse dt
  match s.clk.corr with
  | none => .next s
  | some c => if s.atFrame && decide (c.f ≤ s.now) then .next (s.applyCorrection c) else .next s

/-- TIME_ACCEPT_STEP takes the pending step (R453). -/
def State.acceptStep (s : State) (op : Option Nat) (session : Nat) (body : List Byte) : State :=
  (s.archCommand 0 0x0080 session body).decideCorrection s.clk.pendingStep 3 op

/-- TIME_ACCEPT_STEP (R453, R83, R84): outside M4 and M5 its answer holds C and F at once. -/
def timeAcceptCmd : Cmd := { Cmd.plain 0x0080 (fun r s =>
    let c := s.clk.pendingStep
    let s := s.acceptStep none r.session.toNat r.body
    okRep s (beBytes 8 (ofSigned 64 c) ++ beBytes 8 ((s.clk.corr.map (·.f)).getD 0))) with
  malformed := fun r _ => if r.body.length ≠ 8 then some noPos else none
  unready := fun _ s => if s.clk.state ≠ 4 ∨ s.clk.corr ≠ none then some noPos else none
  value := fun r s => if beAt r.body 0 8 < s.clk.pendingStep.natAbs then some (.range, noPos) else none
  busy := fun r s => !s.archFree r.body
  pair := alwaysPair
  accept := some (fun r op s => (0, s.acceptStep (some op) r.session.toNat r.body)) }

/-- TIME_ACCEPT_STEP. -/
def execTimeAcceptStep (dt : Nat) (p : Packet) (s : State) : Host.Outcome State Fault Refusal :=
  execMail timeAcceptCmd (codeIs 0x0080) dt p s

end Sys2Proof.Machine
end

