-- ==== Sys2Proof/Machine/Modes.lean ====
section
/-!
DEFINITION. Modes and switch instants: what entering a mode does (R35–R44, R82, R148, R149, R199, R268, R280), SET_MODE and its checks
(R36–R41, R87), ROLE_SWAP (R280), the output shares of M3 (R44) and the I/O bus frame boundary (R27, R40, R50, R51).
-/
namespace Sys2Proof.Machine

/-- Change the mode unit. -/
def State.modMu (s : State) (f : ModeUnit → ModeUnit) : State := { s with mu := f s.mu }

/-! ## The partner's situation -/

/-- The partner is in one of the given modes, as it last reported. -/
def State.partnerIn (s : State) (p : Mode → Bool) : Bool := match s.pair.partner.mode with | some m => p m | none => false

/-- Neither heartbeat nor sync lane (R38, R44). -/
def State.partnerAbsent (s : State) : Bool := !s.pair.heartbeat && !s.laneUp

/-- The partner is in a run mode (R36). -/
def State.partnerRuns (s : State) : Bool := !s.partnerAbsent && s.partnerIn Mode.isRun

/-- The partner is in M4, M5 or M6, so that a join can be made (R36, R38, R273). -/
def State.joinable (s : State) : Bool :=
  s.laneUp && s.partnerIn (fun m => m == Mode.m4 || m == Mode.m5 || m == Mode.m6)

/-- A pair is BROKEN (R307). -/
def State.broken (s : State) : Bool := (List.range 10).any (fun p => (s.corePair p).room == 3)

/-- The module runs in a pair whose partner it can reach (R42). -/
def State.paired (s : State) : Bool :=
  (s.mode == .m4 || s.mode == .m5) && (s.role == .primary || s.role == .standby) && s.laneUp && !s.pair.gone

/-! ## M3 (R44) -/

/-- AO share and DO drive of M3 beside a partner in a mode (R44). -/
def m3Beside (m : Mode) : Nat × Bool :=
  match m with
  | .m3 => (50, true)
  | .m4 | .m5 | .m6 | .m7 | .m8 | .m9 => (0, false)
  | .m0 | .m1 | .m2 | .m10 | .m11 => (100, true)

/-- AO share and DO drive of M3 by the partner's state (R44). Without a lane the partner's state cannot be known, and so it is with a
lane on which it has not reported yet: slot A's rule decides. -/
def State.m3Rule (s : State) : Nat × Bool :=
  if s.partnerAbsent then (100, true)
  else match s.laneUp, s.pair.partner.mode with
    | true, some m => m3Beside m
    | _, _ => if s.mu.slot = 0 then (100, true) else (0, false)

/-- The share and drive of M3 in use. -/
def State.m3Now (s : State) : Nat × Bool := (s.ao.m3share, s.dio.m3drive)

/-- The share and drive of M3 change. -/
def State.m3Set (s : State) (x : Nat × Bool) : State :=
  { s with ao := { s.ao with m3share := x.1 }, dio := { s.dio with m3drive := x.2 } }

/-- The instant from which a commanded change of mode, or of the shares of M3, holds (R39). -/
def State.leadInstant (s : State) : Nat := frameAtOrAfter (s.now + s.eff 0x0109 * 1000)

/-- The partner is told that this module is in mode `m` from the frame boundary `f` on, with its new share (R44). -/
def State.m3Tell (s : State) (f : Nat) (m : Mode) (share : Nat) : State := s.announce 1 [11, f, m.num, share]

/-- An agreed share change takes effect at its boundary (R44); from then on the partner is in the mode it has told. -/
def State.m3Apply (s : State) : State :=
  match s.mu.m3next with
  | none => s
  | some x =>
    if s.mode ≠ .m3 then s.modMu (fun u => { u with m3next := none })
    else if s.now < x.at_ then s
    else ((s.modMu (fun u => { u with m3next := none })).modPair (fun p => { p with
      partner := { p.partner with mode := some x.partner } })).m3Set (x.share, x.drive)

/-- The share and drive of M3 are evaluated again (R44): over a lane a change waits for a frame boundary that both modules know;
without one it is made at once. -/
def State.m3Eval (s : State) : State :=
  let s := s.m3Apply
  let x := s.m3Rule
  if s.mode ≠ .m3 ∨ x = s.m3Now ∨ s.mu.m3next.isSome then s
  else match s.laneUp, s.pair.partner.mode with
    | true, some m =>
      let f := s.leadInstant
      (s.modMu (fun u => { u with m3next := some ⟨f, x.1, x.2, m⟩ })).m3Tell f .m3 x.1
    | _, _ => s.m3Set x

/-- The partner will be in mode `m` from `f` on (R44): a module in M3 takes its own share for that boundary, the later one where two
are told, and answers with it. -/
def State.m3Told (s : State) (f : Nat) (m : Mode) : State :=
  let x := m3Beside m
  let at_ := match s.mu.m3next with | some y => max f y.at_ | none => f
  let next : M3Next := ⟨at_, x.1, x.2, m⟩
  if s.mode ≠ .m3 ∨ s.mu.m3next = some next ∨ (s.mu.m3next.isNone && x = s.m3Now) then s
  else (s.modMu (fun u => { u with m3next := some next })).m3Tell at_ .m3 x.1

/-! ## What a change ends -/

/-- R82: what a running operation of a command leaves behind when it is stopped. -/
def State.stopWork (s : State) (o : AsyncOp) : State :=
  let mine := fun (x : Option Nat) => x == some o.id
  match o.code with
  | 0x0024 => if (match s.cfg.commit with | some (x, _) => mine x | none => false) then
      { s with cfg := { s.cfg with commit := none } } else s
  | 0x0041 => { s with tk := { s.tk with switch := none } }
  | 0x0042 => (List.range 32).foldl (fun s n =>
      s.modTask n (fun k => { k with writes := k.writes.filter (fun w => !mine w.op) })) s
  | 0x0045 => (List.range 32).foldl (fun s n =>
      s.modTask n (fun k => { k with trigger := match k.trigger with
        | some (t, l) => if l.contains o.id then none else some (t, l)
        | none => none })) s
  | 0x0050 | 0x0051 => (List.range 11).foldl (fun s p =>
      match (s.corePair p).drain with
      | some d => if mine d.op then s.modCore p (fun c => { c with drain := none }) else s
      | none => s) s
  | 0x0054 => { s with annex := { s.annex with
      running := s.annex.running.filter (fun m => !mine m.op), waiting := s.annex.waiting.filter (fun m => !mine m.op)
      rotation := match s.annex.rotation with | some r => if mine r.op then none else some r | none => none } }
  | 0x0070 => { s with ai := { s.ai with
      calOp := none, cal := s.ai.cal.map (fun (p, k) => (p, { k with queued := false, running := none })) } }
  | 0x0072 => (List.range 48).foldl (fun s m =>
      let h := s.modem m
      if mine (h.pass.bind (fun p => p.2.2)) then
        s.modModem m (fun h => { h with
          pass := none, tx := match h.tx with | some t => if t.entry = 0xFF then none else some t | none => none })
      else s) s
  | 0x0074 => [0, 1, 2, 3].foldl (fun s c =>
      if mine (tget s.loop.cap c {}).op then s.modCap c (fun k => { k with armed := false, op := none }) else s) s
  | 0x0075 => (List.range 4).foldl (fun s c =>
      { s with can := { s.can with ch := tmod s.can.ch c {} (fun h => { h with
          buf := h.buf.filter (fun (_, b) => match b with
            | some k => (k.op.map Prod.fst) != some o.id
            | none => false) }) } }) s
  | 0x0060 | 0x0061 | 0x0062 => { s with al := { s.al with waiting := s.al.waiting.filter (fun w => !mine w.op) } }
  | 0x0078 => s.modPnl (fun p => { p with ops := p.ops.filter (·.1 != o.id) })
  | 0x0080 => s.modClk (fun c => { c with corr := c.corr.map (fun k => if mine k.op then { k with op := none } else k) })
  | 0x0092 => [0, 1].foldl (fun s k =>
      let x := s.fwSlot k
      if (match x.verify with | some (op, _) => mine op | none => false) then
        let y : FwSlot := { x with state := 2, verify := none }
        if k = 0 then { s with fw := { s.fw with slotA := y } } else { s with fw := { s.fw with slotB := y } }
      else s) s
  | _ => s

/-- At a switch instant every asynchronous operation whose command the new mode does not allow is stopped and completes with
SUPERSEDED (R82), and so is a PROGRAM_SWITCH whose step 3 has not begun when M8 is left (R160); its announced pair-effective command is dropped. -/
def State.supersede (s : State) (m : Mode) : State :=
  let bad := fun (code : Nat) => (code == 0x0041 && s.mode == .m8 && m != .m8) ||
    (match cmdRow code with | some r => !bit r.modes m.num | none => false)
  let ops := s.mbx.async.filter (fun o => bad o.code && !([0x0030, 0x0032, 0x0093].contains o.code))
  let s := ops.foldl (fun s o => (s.stopWork o).complete o.id .superseded) s
  { s with mbx := { s.mbx with scheduled := s.mbx.scheduled.filter (fun c => !bad c.code) } }

/-- A task's cycles at an instant that ends running: no start is remembered, an open cycle completes with its outputs discarded, and
what waits for release is dropped; a cycle that awaits its recovery run has it still, with its outputs discarded (R41, R42, R127, R149,
R295). -/
def State.stopTasks (s : State) : State :=
  (List.range 32).foldl (fun s n =>
    let held := match (s.task n).trigger with | some (_, l) => l | none => []
    let s := held.foldl (fun s id => s.answerTriggers id none) s
    s.modTask n (fun k => { k with
      cyc := k.cyc.map (fun c => { c with discard := true }), due := [], trigger := none
      abandoned := k.abandoned.map (fun c => { c with discard := true })
      heldStarts := [], waiting := [], peers := [], markers := [], withheld := [], awaited := none, lateOsns := [] })) s

/-! ## What a change begins -/

/-- The state area on entry into a run mode from M3: retained part kept, the rest at its initial values (R148). -/
def freshArea (d : TaskDecl) (area : Tab Byte) : Tab Byte :=
  area.filter (fun (i, _) => decide (i < d.retainSize)) ++ d.area.filter (fun (i, _) => decide (d.retainSize ≤ i))

/-- Epoch and OSN with which each task enters a run mode from M3 (R268). -/
def State.ownStreams (s : State) : List (Nat × Nat) := (List.range 32).map (fun n => (((s.task n).epoch + 1) % 256, 0))

/-- Every task on entry into a run mode from M3 (R124, R129, R138, R148, R268). -/
def State.startTasks (s : State) (streams : List (Nat × Nat)) : State :=
  let l := if streams.isEmpty then s.ownStreams else streams
  (List.range 32).foldl (fun s n =>
    let (e, o) := l.getD n (0, 0)
    let s := s.modTask n (fun k => ({ epoch := e, osn := o, area := freshArea (s.decl n) k.area, writes := k.writes } : Task))
    if (s.decl n).retainSize = 0 then s else s.modTask n (fun k => { k with hash := s.hashArea n })) s

/-- Every task of a module that joins: its area, previous states, epoch and OSN are those of the copy (R268, R275). -/
def State.joinTasks (s : State) : State :=
  (List.range 32).foldl (fun s n =>
    let s := s.modTask n (fun k => ({ epoch := k.epoch, osn := k.osn, area := k.area, prev := k.prev } : Task))
    if (s.decl n).retainSize = 0 then s else s.modTask n (fun k => { k with hash := s.hashArea n })) s

/-- Entry into M3 (R43, R44, R109, R371, R381, R421): `old`, whether the module led, and whether the partner knows the instant: beside
a partner in M3 that does not, the shares wait for the boundary that both agree. -/
def State.enterStop (s : State) (old : Mode) (led known : Bool) : State :=
  let fromIdle := old == .m1 || old == .m2 || old == .m10
  let s := { s with
    trend := { s.trend with last := [] }
    ai := { s.ai with m3exc := some (if fromIdle then s.mu.slot == 0 else led) } }
  let s := s.doFaultClear 0xFFFFFFFF
  let s := if known || !(s.laneUp && s.partnerIn (· == .m3)) then s.m3Set s.m3Rule else (s.m3Set (0, false)).m3Eval
  if !fromIdle then s
  else
    let s := s.loadRegions
    let s := (List.range 8).foldl State.autoStart s
    if s.ai.firstCal || !s.has .ai then s
    else ({ s with ai := { s.ai with firstCal := true } }).calibrate 0 none

/-- Entry into M2, M10 or M11: every sequence stops at its next entry boundary, no excitation (R43, R371). -/
def State.enterIdle (s : State) : State :=
  let s := (s.seqStop 0xFF).excOff
  match s.mode with
  | .m10 => s
  | .m11 => [0, 1].foldl (fun s c =>
      s.modSw (32 + c) (fun w => { w with cmd := bit (s.eff 0x0108) c, onAt := s.tick })) s
  | _ => s

/-- The lead passes, as R286 and the units' chapters give: HART transactions (R408), running panel updates (R483), excitation
(R285, R385). Causes are those of EV002. -/
def State.passLead (s : State) (led mastered owned : Bool) (cause : Nat) : State :=
  let s := if mastered != s.hartMaster then s.hartHandover s.hartMaster else s
  let s := if !owned && s.panelOwner && (cause == 4 || cause == 5) then s.panelAbandon.2 else s
  if !led && s.lead && !([1, 2, 3, 6].contains cause) then s.excLead else s

/-- Entry into M10 or M11 is told (R46). -/
def State.tellMode (s : State) (old : Mode) : State :=
  match s.mode with
  | .m10 => s.raise 7 [(2, s.mu.recoveryCause), (1, old.num)]
  | .m11 => s.raiseMand 8 [(2, s.mu.haltCause), (1, s.mu.haltResource), (1, old.num)]
  | _ => s

/-- A change that is pending can still be made from the present mode (R36). -/
def State.mayGo (s : State) (c : ModeChange) : Bool :=
  let m := s.mode
  let t := c.target
  if c.cause ≤ 3 then (m == .m4 || m == .m5) && (s.role == .primary || s.role == .standby)
  else if c.cause = 6 then c.joins || m == .m6 || m == .m4
  else if c.op.isNone && t == .m6 && !c.joins && c.pair then m == .m4 || m == .m5
  else match m with
    | .m2 => t == .m3 || t == .m10
    | .m3 => t == .m2 || t.isRun || t == .m9 || t == .m10
    | .m4 | .m5 => t == .m3 || t == .m7 || t == .m9 || t == .m10
    | .m6 => t == .m3 || t == .m7 || t == .m8 || t == .m9 || t == .m10
    | .m7 => t == .m3 || t == .m5 || t == .m6 || t == .m8 || t == .m10
    | .m8 => t == .m3 || t == .m6 || t == .m7 || t == .m9 || t == .m10
    | .m9 => t == .m10
    | .m10 => t == .m2 || t == .m3
    | _ => false

/-- A pending change is given up, with a status: a firmware activation that waits for it ends too. -/
def State.giveUp (s : State) (st : Status) : State :=
  match s.mu.pending with
  | none => s
  | some c =>
    let s := (s.modMu (fun u => { u with pending := none })).modPair (fun p => { p with swap := none })
    let s := if c.target = .m9 then { s with fw := { s.fw with act := none } } else s
    s.completeOpt c.op st

/-- After a change of the mode a pending change is judged again (R36, R41): one whose target is reached completes with OK, and one that
the new mode does not allow with SUPERSEDED (DESIGN CHOICE, log 154). -/
def State.judgePending (s : State) : State :=
  match s.mu.pending with
  | none => s
  | some c =>
    if c.cause = 7 ∧ c.target = s.mode ∧ c.target ≠ .m9 then s.giveUp .ok
    else if s.mayGo c then s else s.giveUp .superseded

/-- Task cycles and outputs start afresh on entry into a run mode from none (R148, R199, R282). -/
def State.runAfresh (s : State) (streams : List (Nat × Nat)) : State :=
  let s : State := { s with ao := { s.ao with raised := false, dropped := false } }
  ((s.startTasks streams).outputsToFallback).loopsInit

/-- The run modes have been left: shares are no longer raised (R388). -/
def State.shareSettles (s : State) : State := { s with ao := { s.ao with raised := false } }

/-- The mode and role change at a switch instant (R39–R44, R58, R148, R149, R199, R213, R246, R268, R464). `command`, `cause`,
`joins` and `streams` are those of a `ModeChange`. -/
def State.enterMode (s : State) (m : Mode) (r : Role) (command : Bool) (cause : Nat) (joins : Bool)
    (streams : List (Nat × Nat)) : State :=
  let old := s.mode
  let oldRole := s.role
  let led := s.lead
  let mastered := s.hartMaster
  let owned := s.panelOwner
  let frozen := s.frozenMask
  let was := s
  let s := if r != oldRole || !(m == .m4 || m == .m6 || m == .m8) then s.injStopAll else s
  let s := if old.isRun && !m.isRun then (s.stopTasks).loopsStop else s
  let s := if old = .m8 ∧ m ≠ .m8 then s.trimReleaseAll else s
  let s := s.supersede m
  let s := s.modMu (fun u => { u with
    m3next := none, mode := m, role := r, prev := old, changes := u.changes + 1, entryTime := s.now, entryTick := s.tick
    soloBeforeHold := if m = .m7 then oldRole == .solo else u.soloBeforeHold })
  let s := if joins || cause == 6 then s else s.dropJoin
  let s := if m = .m3 then s else s.modMu (fun u => { u with rejoin := false })
  let s := if m = .m4 ∨ m = .m5 then s else s.modPair (fun p => { p with
    sync := false, joining := false, resync := false, resumeAt := none
    flag := false, swap := none, isolation := none, copy := if m = .m6 then p.copy else none })
  let s := if m.isRun && !joins && !old.isRun && old != .m7 && old != .m9 then
      s.runAfresh streams
    else if joins then s.joinTasks
    else s
  let s := if m.isRun || old == .m0 then s else s.shareSettles
  let s := if m.isRun then (List.range 4).foldl State.disarmNear s else s
  let s := if m = .m3 ∨ m.isRun then s.canTake else s
  let s := if m = .m3 then s.enterStop old led command else if m = .m2 ∨ m = .m10 ∨ m = .m11 then s.enterIdle else s
  let s := if m = .m7 ∨ m = .m9 then (if r = .solo then s else s.excOff) else s
  let s := (s.phaseReconfig was (m == .m2 || old == .m1 || old == .m0)).freezeTold frozen
  let s := (s.passLead led mastered owned cause).canRefresh
  let s := s.refreshForces.resetSoak
  let s := if m.isRun && !s.awaitsPartner then s.releaseAll else s
  let s := s.raise 0 [(1, old.num), (1, m.num), (1, r.num), (1, if command then 1 else 2), (8, s.now)]
  let s := if r = oldRole then s else s.raise 2 [(1, oldRole.num), (1, r.num), (1, cause)]
  (s.tellMode old).judgePending

/-- A module whose role alone changes (R46, R279): EV002. -/
def State.enterRole (s : State) (r : Role) (cause : Nat) : State :=
  let oldRole := s.role
  let led := s.lead
  let mastered := s.hartMaster
  let owned := s.panelOwner
  let s := s.injStopAll.modMu (fun u => { u with role := r })
  let s := (s.passLead led mastered owned cause).canRefresh.resetSoak
  s.raise 2 [(1, oldRole.num), (1, r.num), (1, cause)]

/-- The pair is synchronised from here on: the joining module takes the AO commands and DO states of the copy set (R275), EV037 and EV032
at a join (R276); an isolated module's heartbeat is back to the normal
pattern (R279). -/
def State.synchronise (s : State) : State :=
  let s := s.modPair (fun p => { p with
    sync := true, joining := false, copy := none, gone := false, flag := false, isolation := none
    line := if p.line = .isolating then .toggling else p.line })
  let s := { s with ao := { s.ao with raised := false, dropped := false } }
  let s := s.pair.takenOut.foldl (fun s (k, n, v) =>
    if k = 0 then State.modAo s n (fun a => { a with cmd := v, bad := false, held := true })
    else State.modSw s n (fun w => { w with cmd := v != 0, atFallback := false })) s
  let s := s.modPair (fun p => { p with takenOut := [] })
  let s := s.raise 37 [(8, s.pair.partner.serial.toNat), (1, s.role.num)]
  (s.raise 32 [(8, s.pair.partner.serial.toNat), (2, s.pair.feature)]).resetSoak

/-- PRIMARY and STANDBY exchange their roles (R280): EV039, RoleSwapCount. A swap for the own-check flag makes the new STANDBY
resynchronise (R272). -/
def State.swapRoles (s : State) (c : ModeChange) : State :=
  let s := s.enterMode c.target c.role c.command c.cause false []
  let s := s.modPair (fun p => { p with
    swaps := p.swaps + 1, swap := none
    partner := { p.partner with
      mode := some (if c.role = .primary then .m5 else .m4), role := if c.role = .primary then .standby else .primary } })
  let s := s.raise 39 [(1, c.cause), (1, s.role.num)]
  let s := s.completeOpt c.op .ok (beBytes 1 c.role.num)
  if s.role = .standby ∧ s.pair.flag then s.resync else s

/-- The partner's mode and role after a change that both modules make (R38, R39). -/
def State.partnerEnters (s : State) (c : ModeChange) : State :=
  let (m, r) : Mode × Role := match c.target, c.role with
    | .m4, _ => (.m5, .standby)
    | .m5, _ => (.m4, .primary)
    | m, r => (m, r)
  s.modPair (fun p => { p with partner := { p.partner with mode := some m, role := r } })

/-- The role a change of this module alone ends in (R35, R36, R43). -/
def State.roleIn (s : State) (m : Mode) : Role :=
  match m with
  | .m6 | .m8 => .solo
  | .m7 | .m9 => if s.role = .solo then .solo else .none
  | _ => .none

/-- A pending change takes effect at its switch instant (R39–R42, R276, R280). A survivor makes its own part of an entry of both
modules, and then goes on alone (R41, R277). -/
def State.switchTo (s : State) (c : ModeChange) : State :=
  let s := s.modMu (fun u => { u with pending := none })
  if c.cause ≤ 3 then s.swapRoles c
  else
    let c := if c.target = .m7 ∨ c.target = .m9 then { c with role := s.roleIn c.target } else c
    let alone := s.pair.gone
    let s := if c.pair && !c.withdraws && c.cause = 7 && c.target ≠ .m6 && !alone then s.partnerEnters c else s
    let s := if c.target = .m10 ∧ c.op.isSome then s.modMu (fun u => { u with recoveryCause := 6 }) else s
    let s := if c.target = .m9 then s.modMu (fun u => { u with leftForUpdate := some (u.mode, u.role) }) else s
    let s := s.enterMode c.target c.role c.command c.cause c.joins c.streams
    let s := if c.cause = 6 then s.synchronise
      else if c.pair && (c.target = .m4 || c.target = .m5) then
        if alone then s.auto .m6 .solo 4 else (s.modPair (fun p => { p with sync := true, gone := false })).resetSoak
      else s
    let s := if c.joins then s.modMu (fun u => { u with joinOp := none }) else s
    if c.target = .m9 then { s with fw := { s.fw with act := s.fw.act.map (fun a => { a with since := some s.tick }) } }
    else s.completeOpt c.op .ok

/-! ## Proposals -/

/-- ModeSwitchLead in ns (R45). -/
def State.switchLead (s : State) : Nat := s.eff 0x0109 * 1000

/-- A change of this module that is commanded (R39): at its instant, announced where it concerns the partner. A STANDBY asks the
PRIMARY, which chooses the instant of a withdrawal and of a change of both modules. A change into or out of M3 beside a partner in M3
tells it the instant of the new shares (R44). -/
def State.propose (s : State) (m : Mode) (scopePair : Bool) (op : Option Nat) : State :=
  let f := frameAtOrAfter (s.now + s.switchLead)
  let withdraws := s.paired && !m.isRun && !scopePair
  let both := scopePair && s.laneUp && s.pair.partner.mode.isSome
  let c : ModeChange := {
    target := m, role := s.roleIn m, at_ := f, pair := withdraws || both, op := op, confirmed := !(withdraws || both)
    cause := 7, command := true, withdraws := withdraws, joins := false, streams := []
    asked := (withdraws || both) && s.role == .standby }
  let s := s.modMu (fun u => { u with pending := some c })
  if withdraws then s.announce 1 [if s.role = .standby then 7 else 1, f, m.num]
  else if both then s.announce 1 [if s.role = .standby then 9 else 0, f, m.num]
  else if s.laneUp && s.partnerIn (· == .m3) && (s.mode == .m3 || m == .m3) then s.m3Tell f m (if m = .m3 then 50 else 0)
  else s

/-- The module that becomes PRIMARY in a pair entry: PreferredPrimary, or slot A (R38). -/
def State.primarySlot (s : State) : Nat := if s.eff 0x0201 ≤ 1 then s.eff 0x0201 else 0

/-- Epochs and OSNs as an announcement carries them (R268). -/
def streamFields (l : List (Nat × Nat)) : List Nat := (l.map (fun (e, o) => [e, o])).flatten

/-- The accession frame of this module (R260, R273): whether it asks, and the items compared. -/
def State.sendAccession (s : State) (asks : Bool) : State :=
  s.lane 0x0C [b2n asks, s.mode.num, s.mu.slot, s.tk.prog.digest.toNat, s.configDigest, s.syncMin, s.syncMax, s.feature,
    optionMask s.ident.variant, s.ident.serial.toNat, s.ident.fwRelease.toNat, s.fwSchema]

/-- A join is asked for (R38, R273). -/
def State.askJoin (s : State) (op : Option Nat) : State :=
  let s := s.modMu (fun u => { u with joinOp := op })
  (s.modPair (fun p => { p with joining := true })).sendAccession true

/-- A request to run (R38). -/
def State.askRun (s : State) (scopePair : Bool) (op : Option Nat) : State :=
  if s.partnerAbsent then
    let c : ModeChange := {
      target := .m6, role := .solo, at_ := frameAtOrAfter (s.now + s.switchLead), pair := false, op := op, confirmed := true
      cause := 7, command := op.isSome, withdraws := false, joins := false, streams := [] }
    s.modMu (fun u => { u with pending := some c })
  else if s.joinable then s.askJoin op
  else if scopePair then
    let f := frameAtOrAfter (s.now + s.switchLead)
    let mine := s.primarySlot == s.mu.slot
    let c : ModeChange := {
      target := if mine then .m4 else .m5, role := if mine then .primary else .standby, at_ := f, pair := true, op := op
      confirmed := false, cause := 7, command := true, withdraws := false, joins := false
      streams := if mine then s.ownStreams else [] }
    (s.modMu (fun u => { u with pending := some c })).announce 1
      ([0, f, if mine then 5 else 4] ++ streamFields c.streams)
  else s

/-- The run request is refused (R36, R38, R307). -/
def State.runRefused (s : State) (scopePair : Bool) : Bool :=
  s.tk.active == 0xFF ||
  (if s.partnerAbsent then s.broken
   else if s.joinable then false
   else if s.laneUp && s.partnerIn (· == Mode.m3) then
     !scopePair || (s.broken && s.primarySlot == s.mu.slot)
   else true)

/-! ## SET_MODE (R87) -/

/-- The selected program passes its check, or none is selected (R36). -/
def State.programOk (s : State) : Bool :=
  s.tk.active == 0xFF || (s.progRefused (s.progSlot s.tk.active).bytes).isNone

/-- The transition is not in the table of R36, or its condition does not hold (R37). -/
def State.modeRefused (s : State) (m : Mode) (scopePair : Bool) : Bool :=
  let fixed := s.cfg.state == 1 || s.cfg.state == 3
  if m = .m10 then s.mode == .m10
  else match s.mode with
    | .m2 => m != .m3 || !fixed
    | .m3 => match m with
      | .m2 => false
      | .m4 | .m5 | .m6 => s.runRefused scopePair
      | .m8 => s.partnerRuns
      | _ => true
    | .m4 | .m5 => m != .m3 && m != .m7
    | .m6 => !(m == .m3 || m == .m7 || (m == .m8 && !s.partnerRuns))
    | .m7 => match m with
      | .m3 => false
      | .m6 => !s.mu.soloBeforeHold || s.broken
      | .m8 => !s.mu.soloBeforeHold || s.partnerRuns
      | .m5 => !s.joinable
      | _ => true
    | .m8 => !(m == .m3 || m == .m7 || (m == .m6 && !s.broken))
    | .m10 => !(m == .m2 || (m == .m3 && fixed && s.cfg.loaded && s.programOk))
    | _ => true

/-- The lowest level R36 gives for the transition; 0 for one that R36 does not hold (R77). -/
def State.modeLevel (s : State) (m : Mode) : Nat :=
  match s.mode, m with
  | .m3, .m4 | .m3, .m5 | .m3, .m6 => 1
  | .m4, .m3 | .m5, .m3 | .m6, .m3 | .m7, .m3 | .m8, .m3 => 1
  | .m2, .m3 | .m3, .m2 | .m10, .m2 | .m10, .m3 => 2
  | .m3, .m8 | .m6, .m8 | .m8, .m6 | .m7, .m6 | .m7, .m8 | .m7, .m5 => 2
  | .m4, .m7 | .m5, .m7 | .m6, .m7 | .m8, .m7 => 2
  | .m0, .m10 | .m1, .m10 | .m10, .m10 | .m11, .m10 => 0
  | _, .m10 => 3
  | _, _ => 0

/-- Target of a SET_MODE, where it is one of those a SET_MODE may name (R87). -/
def modeTarget (b : List Byte) : Option Mode :=
  let t := beAt b 0 1
  if [2, 3, 4, 5, 6, 7, 8, 10].contains t ∧ beAt b 1 1 ≤ 1 then some (Mode.ofNum t) else none

/-- What an accepted SET_MODE asks for (R36, R38, R87). -/
def State.setMode (s : State) (m : Mode) (scopePair : Bool) (op : Option Nat) : State :=
  match s.mode, m with
  | .m3, .m4 | .m3, .m5 | .m3, .m6 => s.askRun scopePair op
  | .m7, .m5 => s.askJoin op
  | _, _ => s.propose m scopePair op

/-- SET_MODE (R36–R41, R87). To the present mode it answers OK and is no operation (R37). BUSY answers any change that is pending, also
one that no command has asked for, and a join under way (DESIGN CHOICE, log 145). -/
def setModeCmd : Cmd := { Cmd.plain 0x0030 (fun r s =>
    match modeTarget r.body with
    | none => refuse .range noPos s
    | some m =>
      if m = s.mode then okRep s
      else runAsync (fun op b _ s => s.setMode m (beAt b 1 1 == 1) op) r s) with
  malformed := fun r _ => if r.body.length ≠ 4 ∨ beAt r.body 2 2 ≠ 0 then some noPos else none
  denied := fun r s lvl =>
    match modeTarget r.body with
    | some m => if m ≠ s.mode ∧ lvl < s.modeLevel m then some noPos else none
    | none => none
  unready := fun r s =>
    match modeTarget r.body with
    | some m => if m ≠ s.mode ∧ s.modeRefused m (beAt r.body 1 1 == 1) then some noPos else none
    | none => none
  value := fun r s =>
    match modeTarget r.body with
    | none => some (.range, noPos)
    | some m =>
      if beAt r.body 1 1 = 1 ∧ [Mode.m7, .m8, .m10].contains m ∧ m ≠ s.mode then some (.badParameter, noPos) else none
  busy := fun _ s => s.mu.pending.isSome || s.mu.joinOp.isSome
  async := fun r s => modeTarget r.body != some s.mode }

/-- SET_MODE. -/
def execSetMode (dt : Nat) (p : Packet) (s : State) : Host.Outcome State Fault Refusal := execMail setModeCmd (codeIs 0x0030) dt p s

/-! ## ROLE_SWAP (R280, R281) -/

/-- A role swap can be made (R280, R307). -/
def State.swapReady (s : State) : Bool :=
  (s.mode == .m4 || s.mode == .m5) && (s.role == .primary || s.role == .standby) && s.pair.sync && s.laneUp &&
  s.partnerIn (fun m => m == Mode.m4 || m == Mode.m5) && !s.pair.joining && !s.pair.resync &&
  !bit s.pair.partner.pairState 26 && !bit s.pair.partner.pairState 25

/-- A swap is asked for (R280): the PRIMARY chooses and announces the instant, the STANDBY asks for it. -/
def State.askSwap (s : State) (cause : Nat) (op : Option Nat) : State :=
  let f := frameAtOrAfter (s.now + s.switchLead)
  let up := s.role == .standby
  let c : ModeChange := {
    target := if up then .m4 else .m5, role := if up then .primary else .standby, at_ := f, pair := true, op := op
    confirmed := false, cause := cause, command := cause == 1, withdraws := false, joins := false, streams := [], asked := up }
  let s := (s.modMu (fun u => { u with pending := some c })).modPair (fun p => { p with swap := some cause })
  s.announce 1 [if up then 8 else 3, f, cause]

/-- ROLE_SWAP (R280). -/
def roleSwapCmd : Cmd := { Cmd.plain 0x0032 (fun r s => runAsync (fun op _ _ s => s.askSwap 1 op) r s) with
  malformed := noBody
  unready := fun _ s => if s.swapReady && !s.broken then none else some noPos
  busy := fun _ s => s.mu.pending.isSome
  async := fun _ _ => true }

/-- ROLE_SWAP. -/
def execRoleSwap (dt : Nat) (p : Packet) (s : State) : Host.Outcome State Fault Refusal := execMail roleSwapCmd (codeIs 0x0032) dt p s

/-! ## The instants -/

/-- The changes of the configuration that wait for an I/O bus frame boundary (R48, R50, R51); ForceInRun may begin or end the
application of the force list (R150, R153). -/
def State.applyConfig (s : State) : State :=
  let s := if s.cfg.applyDiscard then s.applyDiscard else s
  let s := if s.cfg.applyCommitted then s.applyCommit else s
  s.applyLive.refreshForces

/-- A resynchronisation ends at its switch instant (R266, R271, R272): the STANDBY runs and sends again, its sums are built anew, and
its own-check flag clears. -/
def State.resumeNow (s : State) : State :=
  match s.pair.resumeAt with
  | none => s
  | some t =>
    if s.now < t ∨ s.role ≠ .standby then s
    else
      let s := s.modPair (fun p => { p with resync := false, resumeAt := none, copy := none, flag := false })
      let s := (List.range 32).foldl (fun s n =>
        if (s.decl n).retainSize = 0 then s else s.modTask n (fun k => { k with hash := s.hashArea n })) s
      s.resetSoak

/-- The partner has refused a change, or has not confirmed it by its instant (R39): neither module changes; a takeback is asked for
again 60 s later (R281), and a joining partner is let go. -/
def State.switchRefuses (s : State) (c : ModeChange) : State :=
  let s := (s.modMu (fun u => { u with pending := none })).modPair (fun p => { p with
    swap := none
    takebackAfter := if c.cause = 2 then some (s.tick + 60 * Config.ticksPerSecond) else p.takebackAfter
    joining := if c.cause = 6 then false else p.joining })
  s.completeOpt c.op .partnerRefused

/-- SWITCH_INSTANT (R39–R42, R82): while step 3 of a program switch runs the change follows one frame boundary later (R160); a change
that the partner has not confirmed is not made (R39). -/
def State.switchInstant (s : State) : State :=
  match s.mu.pending with
  | none => s
  | some c =>
    if s.now < c.at_ || c.asked then s
    else if s.copying then s.modMu (fun u => { u with pending := some { c with at_ := frameAfter s.now } })
    else if !c.confirmed then s.switchRefuses c
    else s.applyConfig.switchTo c

/-- SWITCH_INSTANT. -/
def execSwitchInstant (dt : Nat) (s : State) : Host.Outcome State Fault Refusal :=
  .next (s.elapse dt).resumeNow.switchInstant

/-- M3_SHARE_EVALUATION, at an I/O bus frame boundary (R44). -/
def execM3ShareEvaluation (dt : Nat) (s : State) : Host.Outcome State Fault Refusal :=
  let s := s.elapse dt
  .next (if s.atFrame then s.m3Eval else s)

/-- StartMode 1: the run request made on the entry into M3 from M1 (R36, R45); a refused one leaves the module in M3. -/
def State.startMode (s : State) : State :=
  if s.eff 0x0105 = 1 ∧ s.runRefused false = false then s.askRun false none else s

/-- An automatic transition at its frame boundary (R40), or the restart that no departure precedes (R55). Step 3 of a program switch
completes first (R160). -/
def State.autoSwitch (s : State) : State :=
  match s.mu.auto with
  | none => s
  | some a =>
    if s.now < a.at_ then s
    else if s.copying && a.mode != .m0 then s
    else
      let s := s.modMu (fun u => { u with auto := none })
      if a.mode = .m0 then s.restartNow
      else if s.mode = a.mode ∧ s.role = a.role then s
      else
        let old := s.mode
        let s := s.enterMode a.mode a.role false a.cause false []
        if old = .m1 ∧ a.mode = .m3 then s.startMode else s

/-- HOLD_LIMIT_EXPIRY (R36, R45): in M7, HoldLimit seconds after its switch instant: EV013, and M3 at the next frame boundary. -/
def execHoldLimitExpiry (dt : Nat) (s : State) : Host.Outcome State Fault Refusal :=
  let s := s.elapse dt
  let lim := s.eff 0x0107
  if s.mode ≠ .m7 ∨ lim = 0 ∨ !s.since s.mu.entryTick (lim * Config.ticksPerSecond) ∨ s.mu.auto.isSome then .next s
  else .next ((s.raise 13 [(4, lim)]).auto .m3 .none 7)

/-! ## The I/O bus frame boundary -/

/-- A flagged PRIMARY swaps roles at the first possible switch instant (R272), asking again after a refusal. -/
def State.flagSwap (s : State) : State :=
  if s.pair.flag && s.pair.swap.isNone && s.mu.pending.isNone && s.role == .primary && s.swapReady && !s.pair.partner.flag then s.askSwap 3 none else s

/-- The heartbeat line takes the isolating pattern at F0 (R279); SoakElapsed stands still while a pair is BROKEN (R307). -/
def State.pairFrame (s : State) : State :=
  let s := match s.pair.isolation with
    | some f0 => if f0 ≤ s.now ∧ s.mu.slot = 1 then s.modPair (fun p => { p with line := .isolating }) else s
    | none => s
  if s.broken then
    s.modPair (fun p => { p with soakFrom := p.soakFrom.map (· + Config.frameNs / 8) })
  else s

/-- The status frame (R258, R260): mode, role, PairState and own-check flag. Of the frames that go out every 20 µs the model sends the
one of each I/O bus frame boundary (log 127). -/
def State.sendStatus (s : State) : State :=
  if s.mode = .m0 then s else s.lane 0x0D [s.mode.num, s.role.num, s.pairWord, b2n s.pair.flag]

/-- IO_BUS_FRAME_BOUNDARY (R27, R40, R51): changes of the configuration, automatic transitions, then the units whose boundary it is.
`rb` gives the levels read back from the switches. -/
def State.frameBoundary (s : State) (rb : Nat) : State :=
  let s := s.applyConfig.autoSwitch
  if s.mode = .m0 then s
  else
  let s := s.pairFrame.flagSwap.sendStatus.sendSupervision
  let s := s.switchAtFrame
  let s := s.stApply.hartRefresh.seqKick.drainFifos
  let s := (s.aoPublish (s.gridInstant Config.frameNs)).dioFrame rb s.now
  let s := (List.range 4).foldl State.phasePublish s
  s.canDrain

/-- IO_BUS_FRAME_BOUNDARY. -/
def execIoBusFrameBoundary (dt rb : Nat) (s : State) : Host.Outcome State Fault Refusal :=
  let s := s.elapse dt
  .next (if s.atFrame && s.mode != .m0 then s.frameBoundary rb else s)

end Sys2Proof.Machine
end

