-- ==== Sys2Proof/Machine/Pair.lean ====
section
/-!
DEFINITION. The pair: lanes and heartbeat (R29, R256–R258), what arrives over the lanes (R260–R266, R275, R297), pair-effective commands
(R83), accession and copy (R273–R276), losing the partner, departure and split link (R277–R279), takeback (R281).
-/
namespace Sys2Proof.Machine

/-! ## Lanes -/

/-- Change one lane. -/
def State.modLane (s : State) (l : Nat) (f : Lane → Lane) : State :=
  s.modPair (fun p => if l = 0 then { p with sl0 := f p.sl0 } else { p with sl1 := f p.sl1 })

/-- One lane. -/
def State.laneOf (s : State) (l : Nat) : Lane := if l = 0 then s.pair.sl0 else s.pair.sl1

/-- A frame arrives on a lane (R29, R258, R259): counted; taken if its check is good and its SyncSeq is new. In M0 nothing is
received. -/
def State.laneIn (s : State) (h : LaneHdr) : Bool × State :=
  if s.mode = .m0 then (false, s)
  else if !h.good then (false, s.modLane h.lane (fun l => { l with errors := l.errors + 1 }))
  else
    let s := s.modLane h.lane (fun l => { l with good := l.good + 1, lastGood := s.tick })
    let seq : U32 := BitVec.ofNat 32 h.seq
    let new := match s.pair.seqIn with
      | none => true
      | some q => seq ≠ q && decide ((seq - q).toNat < 2 ^ 31)
    if new then (true, s.modPair (fun p => { p with seqIn := some seq })) else (false, s)

/-- The row of a lane frame: time passes, the frame is received, and a new one has its effect. -/
def execLane (dt : Nat) (h : LaneHdr) (f : State → State) (s : State) : Host.Outcome State Fault Refusal :=
  let s := s.elapse dt
  if 2 ≤ h.lane then .next s
  else
    let (new, s) := s.laneIn h
    .next (if new then f s else s)

/-! ## Losing the partner (R277–R279) -/

/-- A start whose agreed frame has not come runs on the module's own slice frozen at that t0 (R277, R279). -/
def State.runAwaited (s : State) : State :=
  (List.range 32).foldl (fun s n =>
    match (s.task n).awaited with
    | some (_, t0) => s.leadStart n t0
    | none => s) s

/-- The partner is declared gone: neither its heartbeat nor a lane is left (R277, R41, R307). The lead passes at once (R286). -/
def State.declareGone (s : State) : State :=
  if s.pair.gone || !s.partnerAbsent || s.pair.partner.mode.isNone then s
  else
    let held := s.heldCount
    let role := s.pair.partner.role.num
    let led := s.lead
    let mastered := s.hartMaster
    let owned := s.panelOwner
    let s := s.modPair (fun p => { p with gone := true, sync := false, isolSeen := false, goneCount := p.goneCount + 1 })
    let s := s.raise 36 [(1, role), (4, held)]
    let s := if s.pair.joining then (s.modPair (fun p => { p with copy := none })).joinFails .superseded 0 false else s
    let s := match s.mu.pending with
      | some c =>
        if c.cause ≤ 3 || c.cause == 6 || c.withdraws || (c.pair && s.mode.isRun && !c.target.isRun) then s.giveUp .superseded
        else s.modMu (fun u => { u with pending := some { c with
          confirmed := true, asked := false, at_ := if c.asked then s.leadInstant else c.at_ } })
      | none => s
    let s := s.forcedDetach
    if s.mode == .m4 || s.mode == .m5 then
      let s := s.modPair (fun p => { p with resync := false, copy := none, departure := none })
      let s := (s.passLead led mastered owned 4).canRefresh
      let s := (s.raiseShares 1).releaseAll.runAwaited
      s.auto .m6 .solo 4
    else s

/-- Both lanes are down: a pair-effective command passed to the PRIMARY answers NOT_READY (R83). A TASK_TRIGGER's held response waits
for its start. -/
def State.relaysLost (s : State) : State :=
  (s.mbx.relays.filter (fun x => x.code != 0x0045)).foldl (fun s x =>
    s.answerRelay x .notReady noPos []) s

/-- SYNC_LANE_DOWN: 100 µs without a good frame (cause 1), or block lock lost for 10 µs (2) (R258, R277, R279). -/
def execSyncLaneDown (dt l cause : Nat) (s : State) : Host.Outcome State Fault Refusal :=
  let s := s.elapse dt
  if 2 ≤ l then .next s
  else if !(s.laneOf l).up || (cause == 1 && !s.since (s.laneOf l).lastGood (100 * Config.ticksPerUs)) then .next s
  else
    let s := s.modLane l (fun x => { x with up := false, lock := x.lock && cause != 2, downs := x.downs + 1, downTime := s.now })
    let s := s.raise 33 [(1, l), (1, cause)]
    if s.laneUp then .next s
    else
      let s := s.raise 34 [(1, b2n s.pair.heartbeat)]
      let s := s.modPair (fun p => { p with seqIn := none })
      let s := s.canRefresh.relaysLost
      if !s.pair.heartbeat then .next s.declareGone
      else if s.mu.slot = 1 ∧ (s.mode = .m4 ∨ s.mode = .m5) ∧ (s.role = .primary ∨ s.role = .standby) ∧ s.pair.isolation.isNone then
        .next (s.modPair (fun p => { p with isolation := some (frameAfter s.now) }))
      else .next s

/-- SYNC_LANE_UP: 1 ms of good frames (R258). -/
def execSyncLaneUp (dt l : Nat) (s : State) : Host.Outcome State Fault Refusal :=
  let s := s.elapse dt
  if 2 ≤ l then .next s
  else if s.mode = .m0 then .next s
  else .next ((s.modLane l (fun x => { x with up := true, lock := true, lastGood := s.tick })).modPair (fun p => { p with gone := false })).canRefresh

/-- PARTNER_HEARTBEAT_LOST: no toggle for 300 µs (R257, R277). -/
def execPartnerHeartbeatLost (dt : Nat) (s : State) : Host.Outcome State Fault Refusal :=
  let s := s.elapse dt
  if !s.pair.heartbeat then .next s
  else
    let t := s.now - 300000
    let s := s.modPair (fun p => { p with heartbeat := false, isolSeen := false, lastToggle := t })
    let s := (s.raise 35 [(8, t)]).canRefresh
    .next s.declareGone

/-- PARTNER_HEARTBEAT_PRESENT: three toggles (R257). -/
def execPartnerHeartbeatPresent (dt : Nat) (s : State) : Host.Outcome State Fault Refusal :=
  let s := s.elapse dt
  if s.mode = .m0 then .next s
  else .next (s.modPair (fun p => { p with heartbeat := true, gone := false, lastToggle := s.now })).canRefresh

/-- ISOLATING_PATTERN_SEEN (R257, R279): slot A takes F0 as the frame boundary at which the first short interval began. -/
def execIsolatingPatternSeen (dt : Nat) (s : State) : Host.Outcome State Fault Refusal :=
  let s := s.elapse dt
  if s.mode = .m0 then .next s
  else
    let s := s.modPair (fun p => { p with heartbeat := true, isolSeen := true })
    if s.mu.slot = 0 ∧ (s.mode = .m4 ∨ s.mode = .m5) ∧ (s.role = .primary ∨ s.role = .standby) ∧ s.pair.isolation.isNone then
      .next (s.modPair (fun p => { p with isolation := some (s.gridInstant Config.frameNs) }))
    else .next s

/-- ISOLATION_F1: 250 µs after F0 (R279). Slot B drives nothing and executes on its own inputs; slot A raises its shares, releases what
it holds, awaits no digest any more and leads. -/
def State.isolationF1 (s : State) (f1 : Nat) : State :=
  let s := s.modPair (fun p => { p with isolation := none, sync := false, swap := none })
  let s := match s.mu.pending with
    | some c => if c.pair then s.giveUp .partnerRefused else s
    | none => s
  if s.mu.slot = 1 then
    let s := s.modPair (fun p => { p with line := .isolating, resync := false, copy := none })
    let s := if s.mode = .m5 then s.enterRole .isolated 5 else s.enterMode .m5 .isolated false 5 false []
    let s := s.modPair (fun p => { p with sync := false })
    (s.releaseAll.runAwaited.excOff).raise 43 [(8, f1)]
  else
    let s := (s.raiseShares 2).releaseAll
    if s.role = .standby then (s.enterMode .m4 .primary false 5 false []).runAwaited else s

/-- ISOLATION_F1. -/
def execIsolationF1 (dt : Nat) (s : State) : Host.Outcome State Fault Refusal :=
  let s := s.elapse dt
  match s.pair.isolation with
  | none => .next s
  | some f0 => if s.now < f0 + 250000 then .next s else .next (s.isolationF1 (f0 + 250000))

/-- DEPARTURE_F: the boundary of a departure notice (R278). The departing module's outputs, Source 2 included, go off and it goes on
with its save, restart or halt; the partner enters M6. -/
def State.departureF (s : State) (d : Departure) : State :=
  let s := s.modPair (fun p => { p with departure := none })
  if d.leaving then
    let s := s.modPair (fun p => { p with departure := some d })
    if s.ao.dropped then s
    else
      let s := ({ s with ao := { s.ao with dropped := true } }).stopTasks.loopsStop
      let s := (s.modPair (fun p => { p with sync := false })).excOff
      let s := if s.role = .none then s else s.enterRole .none 7
      match d.after with
      | 2 => s.auto .m11 .none 7
      | 1 => s.restartNow
      | _ => if s.sup.back then (s.finalSave true).enterM0 else s.beginSave
  else
    (s.modPair (fun p => { p with sync := false })).enterMode .m6 .solo false 7 false []

/-- DEPARTURE_F. -/
def execDepartureF (dt : Nat) (s : State) : Host.Outcome State Fault Refusal :=
  let s := s.elapse dt
  match s.pair.departure with
  | none => .next s
  | some d => if s.now < d.at_ then .next s else .next (s.departureF d)

/-- DEPARTURE_NOTICE: the partner departs at F, and this module leads from its first due start on (R278). -/
def execDepartureNotice (dt : Nat) (h : LaneHdr) (f : Nat) (s : State) : Host.Outcome State Fault Refusal :=
  execLane dt h (fun s =>
    if (s.mode = .m4 ∨ s.mode = .m5) ∧ s.pair.departure.isNone then s.modPair (fun p => { p with departure := some ⟨f, false, 0⟩ }) else s) s

/-! ## Task frames (R260–R266) -/

/-- AGREED_INPUT_FRAME (R30–R34, R261): the STANDBY takes the slice or the skip, the agreed results for its drift checks (R384), and
completes the triggers whose start it is (R551). -/
def execAgreedInputFrame (dt : Nat) (h : LaneHdr) (f : AgreedIn) (s : State) : Host.Outcome State Fault Refusal :=
  execLane dt h (fun s =>
    let takes := s.role == .standby || ((s.task f.task).awaited.map Prod.fst == some f.osn)
    if 32 ≤ f.task || !takes || decide (s.role = .standby ∧ f.stamp < s.mu.entryTime) then s
    else
      let s := s.modTask f.task (fun k => { k with frameSeq := some h.seq })
      let s := (s.standbyFrame f).agreedResults f.results
      match (s.task f.task).trigger with
      | some (t, ids) =>
        if t ≤ f.stamp then
          let s := s.modTask f.task (fun k => { k with trigger := none })
          ids.foldl (fun (s : State) id => s.complete id .ok (beBytes 4 f.osn)) s
        else s
      | none => s) s

/-- A partner's digest (R34, R264, R265, R271): compared with the waiting cycle, mirrored where this module withholds it, or kept. -/
def State.digestIn (s : State) (f : DigestIn) : State :=
  let n := f.task
  let d : PeerDigest := ⟨f.osn, f.digest, f.ao, f.dos⟩
  let s := f.dos.foldl (fun s (m, v) => s.modSw m (fun w => { w with peer := v })) s
  if !s.awaitsPartner then s
  else
    let k := s.task n
    if k.withheld.contains f.osn then
      (s.modTask n (fun k => { k with withheld := k.withheld.filter (· != f.osn) })).mirror d
    else
      let s := s.modTask n (fun k => { k with
        peers := ((k.peers.filter (fun x => x.osn != f.osn)) ++ [d]).drop (k.peers.length + 1 - 64) })
      match k.waiting.find? (·.osn == f.osn) with
      | none => s
      | some w =>
        if w.digest ≠ f.digest ∧ s.role = .standby then s.digestDiffers n f.osn
        else s.tryRelease n f.osn

/-- DIGEST_FRAME. -/
def execDigestFrame (dt : Nat) (h : LaneHdr) (f : DigestIn) (s : State) : Host.Outcome State Fault Refusal :=
  execLane dt h (fun s => if f.task < 32 then s.digestIn f else s) s

/-- WITHHELD_MARKER (R33, R34, R260). -/
def execWithheldMarker (dt : Nat) (h : LaneHdr) (task _cause osn : Nat) (s : State) : Host.Outcome State Fault Refusal :=
  execLane dt h (fun s =>
    if 32 ≤ task || !s.awaitsPartner then s
    else (s.modTask task (fun k => { k with markers := (k.markers ++ [osn]).drop (k.markers.length + 1 - 64) })).tryRelease task osn) s

/-- RETAINED_HASH_FRAME (R266). -/
def execRetainedHashFrame (dt : Nat) (h : LaneHdr) (task osn : Nat) (sum : U64) (s : State) : Host.Outcome State Fault Refusal :=
  execLane dt h (fun s => if 32 ≤ task then s else (s.modTask task (fun k => { k with peerSum := some (osn, sum) })).compareSums task) s

/-- LOOP_AGREEMENT_FRAME (R208, R272). -/
def execLoopAgreementFrame (dt : Nat) (h : LaneHdr) (lsn time : Nat) (ms : List LoopIn) (mis : List (Nat × Nat)) (s : State) :
    Host.Outcome State Fault Refusal :=
  execLane dt h (fun s => ({ s with loop := { s.loop with frameSeq := some h.seq } }).loopFrame lsn time ms mis) s

/-- LOOP_ANSWER_FRAME (R260, R271, R272). -/
def execLoopAnswerFrame (dt : Nat) (h : LaneHdr) (lsn r v : Nat) (six : List Nat) (s : State) : Host.Outcome State Fault Refusal :=
  execLane dt h (fun s => if 2048 ≤ r then s else s.loopAnswer lsn r v six) s

/-! ## Units compared by signature (R297) -/

/-- The first SyncSeq or record sequence of the window that opens now (R297): the next to be used. -/
def State.windowStart (s : State) (u : Nat) : Nat := if u = 13 then s.pair.seqOut.toNat else if u = 15 then s.arch.next else 0

/-- After a mismatch of RQ13 its next window opens; RQ15 stages the same records again (R297). -/
def State.nextWindow (s : State) (u : Nat) : State :=
  if u = 13 then { s with lk := { s.lk with window := tmod s.lk.window 13 {} (fun w => { w with firstSeq := s.windowStart 13 }) } } else s

/-- SIGNATURE_WINDOW_CLOSE of RQ13, RQ14 or RQ15 (R297), after 1,024 transfers or 100 µs from the window's first: a match lets the
window's transfers take effect. -/
def execSignatureWindowClose (dt u count first : Nat) (a b : U64) (s : State) : Host.Outcome State Fault Refusal :=
  let s := s.elapse dt
  let w := tget s.lk.window u {}
  let ends := decide (count = 1024) || (decide (count < 1024) &&
    (match w.closed with | some t => s.since t (100 * Config.ticksPerUs) | none => true))
  if u < 13 ∨ 15 < u ∨ !ends then .next s
  else
    let close := fun (s : State) (k : Nat) =>
      ({ s with lk := { s.lk with window := tset s.lk.window u {} { count := count, closed := some s.tick, firstSeq := k } } } : State)
    if a = b then
      let s := close s (s.windowStart u)
      .next (if u = 14 then (List.range 8).foldl State.releaseWindow s else s)
    else .next (((close s w.firstSeq).sigMismatch u count first).nextWindow u)

/-- VOID_NOTICE (R297): the tasks whose agreed input frame fell in the named SyncSeq range withhold their open cycle and
resynchronise. -/
def execVoidNotice (dt : Nat) (h : LaneHdr) (first count : Nat) (s : State) : Host.Outcome State Fault Refusal :=
  execLane dt h (fun s => (s.voidFrames first count).voidEngines first count) s

/-! ## Other units' frames -/

/-- STATION_STATE_ANNOUNCEMENT (R444): applied at its frame boundary. -/
def execStationStateAnnouncement (dt : Nat) (h : LaneHdr) (f slot st rev per : Nat) (s : State) : Host.Outcome State Fault Refusal :=
  execLane dt h (fun s =>
    if 250 ≤ slot || s.canLead then s else { s with net := { s.net with announced := s.net.announced ++ [(f, slot, st, rev, per)] } }) s

/-- TIME_CORRECTION_ANNOUNCEMENT (R451). -/
def execTimeCorrectionAnnouncement (dt : Nat) (h : LaneHdr) (f : Nat) (c : Int) (cause : Nat) (s : State) :
    Host.Outcome State Fault Refusal :=
  execLane dt h (fun s => if s.canLead then s else s.modClk (fun k => { k with corr := some ⟨c, f, cause, none⟩ })) s

/-- PANEL_START_ANNOUNCEMENT (R483). -/
def execPanelStartAnnouncement (dt : Nat) (h : LaneHdr) (r band start picture : Nat) (refresh : Bool) (s : State) :
    Host.Outcome State Fault Refusal :=
  execLane dt h (fun s => if 8 ≤ r then s else s.panelTrack r band start picture refresh) s

/-! ## Switch instants (R39, R42, R268, R276, R280) -/

/-- An announcement is confirmed, by a module that becomes PRIMARY with its epochs and OSNs (R39, R268). -/
def State.confirm (s : State) (at_ : Nat) (l : List (Nat × Nat)) : State := s.announce 1 ([5, at_, 0] ++ streamFields l)
/-- An announcement is refused (R39). -/
def State.refuseSwitch (s : State) (at_ : Nat) : State := s.announce 1 [6, at_, 0]

/-- This module can make its part of a change of both modules (R36, R39). -/
def State.canFollow (s : State) (m : Mode) : Bool :=
  match m with
  | .m4 | .m5 => s.mode == .m3 && s.tk.active != 0xFF && !(s.broken && m == .m4)
  | .m3 => s.mode == .m4 || s.mode == .m5 || (s.mode == .m2 && (s.cfg.state == 1 || s.cfg.state == 3)) ||
      (s.mode == .m10 && !s.modeRefused .m3 true)
  | .m2 => s.mode == .m3 || s.mode == .m10
  | _ => false

/-- The PRIMARY chooses the instant of a change that the STANDBY has asked for under the number `asked`, and announces it (R39, R280):
its own part waits for the STANDBY's confirmation. -/
def State.grant (s : State) (asked : Nat) (c : ModeChange) : State :=
  let f := s.leadInstant
  (s.modMu (fun u => { u with pending := some { c with at_ := f, confirmed := false } })).announce 1 [10, f, asked]

/-- A switch-instant announcement of the partner (R39). Kinds: 0 change of both modules, 1 withdrawal, 2 join, 3 role swap, 4 end of a
resynchronisation, 5 confirmed, 6 refused, 7, 8 and 9 what a STANDBY asks for (withdrawal, swap, change of both), 10 the instant the
PRIMARY has chosen for it, 11 the instant of a share change in M3 (R44). Where two changes of both modules cross, that of slot A stands. -/
def State.switchFrame (s : State) (a : SwitchIn) : State :=
  let put := fun (s : State) (c : ModeChange) => s.modMu (fun u => { u with pending := some c })
  let change : ModeChange := {
    target := Mode.ofNum a.arg, role := .none, at_ := a.at_, pair := true, op := none, confirmed := true, cause := 7, command := true
    withdraws := false, joins := false, streams := [] }
  match a.what with
  | 0 | 9 =>
    let m := Mode.ofNum a.arg
    let crossing := match s.mu.pending with | some c => c.pair && !c.confirmed && c.cause == 7 && !c.withdraws | none => false
    if crossing && s.mu.slot == 0 then s
    else
      let op := if crossing then s.mu.pending.bind (·.op) else none
      let s := if crossing then (s.modMu (fun u => { u with pending := none })).completeOpt op .superseded else s
      if s.mu.pending.isSome || s.mu.joinOp.isSome || !s.canFollow m then s.refuseSwitch a.at_
      else
        if a.what = 9 then s.grant a.at_ change
        else
        let mine := m == .m4
        let c : ModeChange := { change with
          role := if m = .m4 then .primary else if m = .m5 then .standby else .none
          streams := if mine then s.ownStreams else a.streams }
        (put s c).confirm a.at_ (if mine then c.streams else [])
  | 1 =>
    if s.mode ≠ .m4 ∧ s.mode ≠ .m5 then s.confirm a.at_ []
    else if s.mu.pending.isSome then s.refuseSwitch a.at_
    else (put s { change with target := .m6, role := .solo, command := false }).confirm a.at_ []
  | 7 =>
    if s.mu.pending.isSome || s.role != .primary then s.refuseSwitch a.at_
    else s.grant a.at_ { change with target := .m6, role := .solo, command := false }
  | 2 =>
    if s.mu.pending.isSome && s.pair.joining then (s.refuseSwitch a.at_).joinFails .superseded 0 true
    else if !s.pair.joining then s.refuseSwitch a.at_
    else
      (put s { change with
        target := .m5, role := .standby, op := s.mu.joinOp, cause := 6, command := s.mu.joinOp.isSome, joins := true }).confirm a.at_ []
  | 3 =>
    if s.mu.pending.isSome || s.broken || !s.swapReady || s.role != .standby then s.refuseSwitch a.at_
    else (put s { change with target := .m4, role := .primary, cause := a.arg, command := a.arg == 1 }).confirm a.at_ []
  | 4 => if s.pair.resync then s.modPair (fun p => { p with resumeAt := some a.at_ }) else s
  | 5 =>
    match s.mu.pending with
    | some c =>
      if c.at_ ≠ a.at_ ∨ c.asked then s
      else put s { c with
        confirmed := c.target != .m5 || c.cause != 7 || !c.streams.isEmpty || !a.streams.isEmpty
        streams := if a.streams.isEmpty then c.streams else a.streams }
    | none => s
  | 6 =>
    match s.mu.pending with
    | some c =>
      if c.at_ ≠ a.at_ then s
      else
        let s := if c.target = .m9 then { s with fw := { s.fw with act := none } } else s
        s.switchRefuses c
    | none => s
  | 8 =>
    if s.mu.pending.isSome || s.broken || !s.swapReady || s.role != .primary then s.refuseSwitch a.at_
    else (s.modPair (fun p => { p with swap := some a.arg })).grant a.at_
      { change with target := .m5, role := .standby, cause := a.arg, command := a.arg == 1 }
  | 10 =>
    match s.mu.pending with
    | some c =>
      if !c.asked || c.at_ ≠ a.arg then s.refuseSwitch a.at_
      else (put s { c with asked := false, confirmed := true, at_ := a.at_ }).confirm a.at_ []
    | none => s.refuseSwitch a.at_
  | 11 => s.m3Told a.at_ (Mode.ofNum a.arg)
  | _ => s

/-- SWITCH_ANNOUNCEMENT. -/
def execSwitchAnnouncement (dt : Nat) (h : LaneHdr) (a : SwitchIn) (s : State) : Host.Outcome State Fault Refusal :=
  execLane dt h (fun s => s.switchFrame a) s

/-! ## Pair-effective commands (R83) -/

/-- The pair-effective commands of R83, by code. -/
def pairCmd (code : Nat) : Option Cmd :=
  [paramWriteCmd, tableWriteCmd, commitConfigCmd, discardEditsCmd, valueWriteCmd, forceSetCmd, forceClearCmd, taskTriggerCmd,
    alarmAckCmd, alarmShelveCmd, ladderAckCmd, hartPassCmd, canSendCmd, panelUpdateCmd, timeAcceptCmd].find? (·.code == code)

/-- The request a relayed command stands for. -/
def relayReq (c : RelayIn) : Req := {
  via := .plant, addr := 0, port := 0, target := 0, box := 0, tag := 0, code := c.code, ver := 1, retry := false
  session := c.session, arg := 0, counter := c.counter, head := [], mac := [], body := c.body }

/-- This module can make an announced command's effect (R83): its body, mode and values pass this module's own checks. -/
def State.canApply (s : State) (c : RelayIn) : Bool :=
  c.code == 0xFFFF ||
  match pairCmd c.code, cmdRow c.code with
  | some k, some row =>
    let r := relayReq c
    (k.absent r s).isNone && (k.malformed r s).isNone && bit row.modes s.mode.num && (k.unready r s).isNone && (k.value r s).isNone
  | _, _ => false

/-- The announcement of a scheduled command reaches the STANDBY: it waits for the boundary, and a request that came to this module is
now accepted; a command that this module cannot apply it refuses (R83). -/
def State.relayScheduled (s : State) (c : RelayIn) : State :=
  if !s.canApply c then
    let s := s.announce 4 [c.code, 3, Status.partnerRefused.code, c.session.toNat, c.counter, noPos]
    match s.mbx.relays.find? (fun x => x.session == c.session && x.counter == c.counter && x.code == c.code) with
    | some x =>
      let (op, s) := s.startOp x.req
      (s.answerRelay x .accepted 0 []).complete op .partnerRefused
    | none => s
  else
  match s.mbx.relays.find? (fun x => x.session == c.session && x.counter == c.counter && x.code == c.code) with
  | some x =>
    let (op, s) := s.startOp x.req
    let s := { s with mbx := { s.mbx with scheduled := s.mbx.scheduled ++ [(⟨c.code, c.body, c.at_, some op, c.session, c.counter⟩ : PairCmd)] } }
    s.answerRelay x .accepted 0 []
  | none => { s with mbx := { s.mbx with scheduled := s.mbx.scheduled ++ [(⟨c.code, c.body, c.at_, none, c.session, c.counter⟩ : PairCmd)] } }

/-- The PRIMARY's outcome for a relayed command, told to the STANDBY. -/
def State.relayOutcome (s : State) (c : RelayIn) (st : Status) (arg : Nat) : State :=
  s.announce 4 [c.code, 2, st.code, c.session.toNat, c.counter, arg]

/-- The PRIMARY checks a relayed command under its own mode, role and effective parameters, and schedules it (R83). The network
acknowledgement of a call, under code 0xFFFF, is taken up as R243 gives. -/
def State.relayRequest (s : State) (c : RelayIn) : State :=
  if c.code = 0xFFFF then
    if s.alarmLeader then
      s.alWaits 0xFFFF c.body none 0 0
    else s
  else
    match pairCmd c.code, cmdRow c.code with
    | some k, some row =>
      let r := relayReq c
      if s.role ≠ .primary then s.relayOutcome c .partnerRefused noPos
      else match k.check r s 3 row.modes with
        | some (st, p) => s.relayOutcome c st p
        | none =>
          match k.accept with
          | some f =>
            let (arg, s) := f r s.mbx.nextOp { s with mbx := { s.mbx with nextOp := s.mbx.nextOp + 1 } }
            s.relayOutcome c .accepted arg
          | none =>
            let b := frameAtOrAfter (s.now + 500000)
            let s := { s with mbx := { s.mbx with scheduled := s.mbx.scheduled ++ [(⟨c.code, c.body, b, none, c.session, c.counter⟩ : PairCmd)] } }
            s.lane 0x0A (pairFields c.code b c.session.toNat c.counter) c.body
    | _, _ => s

/-- The PRIMARY's outcome reaches the STANDBY, which returns it to its host (R83). An accepted alarm command or time step waits for its
application under an operation of this module. -/
def State.relayAnswer (s : State) (c : RelayIn) : State :=
  match s.mbx.relays.find? (fun x => x.session == c.session && x.counter == c.counter && x.code == c.code) with
  | none => s
  | some x =>
    let st := Status.ofCode c.status
    if st = .accepted then
      let (op, s) := s.startOp x.req
      let s := if c.code = 0x0080 then s.modClk (fun k => { k with corr := k.corr.map (fun y => { y with op := some op }) })
        else { s with al := { s.al with waiting := s.al.waiting ++ [(⟨c.code, c.body, some op, c.session, s.now⟩ : AlWait)] } }
      s.answerRelay x .accepted c.arg []
    else s.answerRelay x st c.arg []

/-- The STANDBY has refused an announced command (R83): it is not applied here either, and its operation completes with
PARTNER_REFUSED. -/
def State.relayRefused (s : State) (c : RelayIn) : State :=
  let (gone, rest) := s.mbx.scheduled.partition (fun x => x.code == c.code && x.session == c.session && x.counter == c.counter)
  gone.foldl (fun s x => s.completeOpt x.op .partnerRefused) { s with mbx := { s.mbx with scheduled := rest } }

/-- COMMAND_RELAY (R83). -/
def execCommandRelay (dt : Nat) (h : LaneHdr) (c : RelayIn) (s : State) : Host.Outcome State Fault Refusal :=
  execLane dt h (fun s =>
    match c.stage with
    | 0 => s.relayScheduled c
    | 1 => s.relayRequest c
    | 3 => s.relayRefused c
    | _ => s.relayAnswer c) s

/-- A command whose effect acts at a task's cycle goes into the agreed input frame of the next start (R83, R261): a VALUE_WRITE or
TASK_TRIGGER of its task, a FORCE_SET or FORCE_CLEAR of every task. -/
def State.carryCmd (s : State) (c : PairCmd) : State :=
  let add := fun (s : State) (n : Nat) => s.modTask n (fun k => { k with cmds := k.cmds ++ [(c.code, c.session.toNat, c.counter, c.body)] })
  match c.code with
  | 0x0042 | 0x0045 => add s (beAt c.body 0 1)
  | 0x0043 | 0x0044 => ((List.range 32).filter s.taskOn).foldl add s
  | _ => s

/-- One alarm command or write is applied (R222, R248); code 0xFFFF is a network acknowledgement (R243). -/
def State.alApply (s : State) (code : Nat) (op : Option Nat) (body : List Byte) (session : U32) : State :=
  if code = 0xFFFF then s.ladderAck 2 (beAt body 0 2) 0
  else match pairCmd code with
    | some c => c.apply op body session s
    | none => s

/-- PAIR_COMMAND_APPLY: at the application boundary (R83). -/
def State.applyScheduled (s : State) : State :=
  let (due, rest) := s.mbx.scheduled.partition (fun c => decide (c.at_ ≤ s.now))
  let s := { s with mbx := { s.mbx with scheduled := rest } }
  due.foldl (fun (s : State) c => (s.alApply c.code c.op c.body c.session).carryCmd c) s

/-- PAIR_COMMAND_APPLY. -/
def execPairCommandApply (dt : Nat) (s : State) : Host.Outcome State Fault Refusal :=
  .next (s.elapse dt).applyScheduled

/-! ## Accession and copy (R273–R276) -/

/-- The configuration enables something of a unit: AI and PHS are the units that cannot be lone (R273). -/
def State.unitUsed (s : State) (u : OptUnit) : Bool :=
  match u with
  | .ai => (List.range 32).any (fun n => bit (s.eff (0x0900 + 4 * n)) 31)
  | .phs => (List.range 4).any (fun n => bit (s.eff (0x0400 + 32 * n)) 31)
  | _ => false

/-- The first rule of accession that is not met, on this module beside the partner's items (R273): its cause. -/
def State.accessionCause (s : State) (a : AccessIn) (runner : Mode) : Nat :=
  let mine := optionMask s.ident.variant
  let differs := fun (k : Nat) => bit mine k != bit a.options k
  if runner ≠ .m4 ∧ runner ≠ .m5 ∧ runner ≠ .m6 then 7
  else if a.slot = s.mu.slot then 3
  else if a.prog ≠ s.tk.prog.digest.toNat then 1
  else if a.cfg ≠ s.configDigest then 2
  else if min a.revMax s.syncMax < max a.revMin s.syncMin then 4
  else if (differs 0 && s.unitUsed .ai) || (differs 3 && s.unitUsed .phs) then 5
  else 0

/-- What a pair agrees on at accession (R273, R288), with EV045 for what is reduced here: the unit's bit number of OptionMask, or
0xFF for the FeatureLevel. -/
def State.agreeFeatures (s : State) (a : AccessIn) : State :=
  let mine := optionMask s.ident.variant
  let mask := mine &&& a.options
  let s := s.modPair (fun p => { p with
    feature := min s.feature a.feature, revision := min s.syncMax a.revMax, options := mask
    loneAo := bit mine 1 && !bit a.options 1 })
  let s := if a.feature < s.feature then s.raise 45 [(1, 0xFF), (4, mask)] else s
  [0, 1, 2, 3, 4, 5].foldl (fun s k => if bit mine k && !bit a.options k then s.raise 45 [(1, k), (4, mask)] else s) s

/-- The numbers of an alarm entry's states for a copy frame. -/
def alNums (t : AlEnt) : List Nat :=
  [b2n t.active, b2n t.unacked, b2n t.shelved, b2n t.suppressed, b2n t.raw, b2n t.invalid, b2n t.latched, t.delay, t.rateBase,
    t.ratePhase, t.shelveLeft, t.lastValue]

/-- The base pass of the copy set (R275), as the running module sends it: the state areas first, the rest where they have gone. -/
def State.sendCopySet (s : State) : State :=
  (List.range 32).foldl (fun s n =>
    let ls := ((s.task n).area.map (fun x => x.1 / 64)).eraseDups
    ls.foldl (fun s l => s.lane 0x09 [n, l] (s.areaLine n l)) s) s

/-- The end of the base pass (R275): epochs, OSNs and edge states, forces, patches, live edits, loop and alarm states, and every AO
command and DO state. -/
def State.sendCopyRest (s : State) : State :=
  let s := (List.range 32).foldl (fun s n =>
    let k := s.task n
    let s := s.lane 0x09 [0xA2, n, k.epoch, k.osn]
    s.lane 0x09 ([0xA3, n] ++ (k.prev.map (fun (p, v) => [p, v.getD 0])).flatten)) s
  let s := s.tk.forces.foldl (fun s (_, f) => s.lane 0x09 [0xA4, f.kind, f.point, f.value]) s
  let s := (s.progSlot s.tk.active).patches.foldl (fun s (y, v) => s.lane 0x09 [0xA5, y, v]) s
  let com := s.cfg.committed.getD {}
  let s := ((s.cfg.base.params.map Prod.fst) ++ (com.params.map Prod.fst)).eraseDups.foldl (fun s i =>
    let v := s.cfg.base.param s.mu.slot i
    if com.param s.mu.slot i = v then s else s.lane 0x09 [0xA6, i, v]) s
  let s := ((s.cfg.base.tables.map Prod.fst) ++ (com.tables.map Prod.fst)).eraseDups.foldl (fun s k =>
    let v := s.cfg.base.entry (k / 2 ^ 20) (k % 2 ^ 20)
    if com.entry (k / 2 ^ 20) (k % 2 ^ 20) = v then s else s.lane 0x09 [0xA7, k / 2 ^ 20, k % 2 ^ 20, v]) s
  let s := s.sendLoops
  let s := s.al.ent.foldl (fun s (n, t) => s.lane 0x09 ([0xAC, n] ++ alNums t)) s
  let s := s.alCopyOut
  let s := (List.range 16).foldl (fun s n => State.lane s 0x09 [0xAA, n, s.aoCommand n]) s
  (List.range 32).foldl (fun s m => s.lane 0x09 [0xAB, m, b2n (tget s.dio.sw m {}).cmd]) s

/-- This module takes the copy set until it runs (again) beside its partner (R271, R275, R276). -/
def State.takesCopy (s : State) : Bool :=
  (match s.pair.copy with | some c => c.taking | none => false) || (s.pair.joining && !s.mode.isRun) || s.pair.resync

/-- Bytes of the copy set (R275): the state areas, which are all but a trifle of it. -/
def State.copyBytes (s : State) : Nat := (List.range 32).foldl (fun a n => a + (s.decl n).stateSize) 0

/-- ACCESSION_FRAME (R273): the running module answers with its own items; both compare. Where every rule is met the copy begins. -/
def State.accession (s : State) (a : AccessIn) : State :=
  let s := s.modPair (fun p => { p with partner := { p.partner with serial := a.serial, release := a.release, schema := a.schema } })
  if a.asks then
    let s := s.sendAccession false
    let cause := s.accessionCause a s.mode
    if cause ≠ 0 ∨ s.pair.joining then s.modPair (fun p => { p with refuseCause := if cause = 0 then p.refuseCause else cause })
    else
      let s := s.agreeFeatures a
      let s := s.modPair (fun p => { p with joining := true, refuseCause := 0, copy := some ⟨s.tick, false, s.copyBytes⟩ })
      s.sendCopySet
  else if !s.pair.joining || s.pair.copy.isSome then s
  else
    let cause := s.accessionCause a (Mode.ofNum a.mode)
    if cause ≠ 0 then s.joinFails .partnerRefused cause true
    else
      let s := s.agreeFeatures a
      let s := if s.timeFollows then s.modClk (fun k => { k with tb := ((k.tb : Int) + k.lanePeerOffset).toNat, state := 5 }) else s
      -- the sender lists the live edits against the committed configuration, so an own edit goes first
      let s := match s.cfg.committed with
        | some i => if s.cfg.base = i then s else s.loadBase i
        | none => s
      s.takeFresh.modPair (fun p => { p with refuseCause := 0, copy := some ⟨s.tick, true, 0⟩ })

/-- ACCESSION_FRAME. -/
def execAccessionFrame (dt : Nat) (h : LaneHdr) (a : AccessIn) (s : State) : Host.Outcome State Fault Refusal :=
  execLane dt h (fun s => s.accession a) s

/-- One item of the copy set is taken (R275). -/
def State.takeItem (s : State) (x : CopyItem) : State :=
  match x with
  | .line n l b => if n < 32 then s.writeArea n (64 * l) (padTo 64 b) else s
  | .stream n e o => if n < 32 then s.modTask n (fun k => { k with epoch := e % 256, osn := o % 2 ^ 32 }) else s
  | .edges n l => if n < 32 then
      s.modTask n (fun k => { k with prev := l.foldl (fun t (p, v) => tset t p none (some v)) [] }) else s
  | .force k p v => s.addForce k p v
  | .patch y v => s.patchSlot (fun p => { p with patches := (p.patches.filter (fun q => q.1 != y)) ++ [(y, v)] })
  | .param i v =>
    let s := { s with cfg := { s.cfg with working := s.cfg.working.setParam s.mu.slot i v, state := 2 } }
    s.setBase i v
  | .entry t n v =>
    let s := { s with cfg := { s.cfg with working := s.cfg.working.setEntry t n v, state := 2 } }
    s.setBaseEntry t n v
  | .loop r x => s.modRec r (fun y => recTake y x)
  | .lsn n fold => { s with loop := { s.loop with lsn := BitVec.ofNat 32 n, fold := fold, behind := false } }
  | .ask what =>
    if what = 0 ∧ s.role = .primary then s.sendLoops
    else if what = 1 ∧ s.al.follow = 1 then s.alCopyOut else s
  | .alarms n => { s with al := { s.al with scan := n, ent := [], grp := [] } }
  | .alarm n x => s.modAl n (fun _ => x)
  | .group g x => s.modGrp g (fun _ => x)
  | .ladder x =>
    -- a kind 20 entry stands for the journal entries that were missed (R249)
    let missed := s.al.behind || s.pair.joining
    let s := { s with al := { s.al with lad := x, behind := false, follow := if s.al.follow = 4 then 2 else s.al.follow } }
    if missed then s.journal { seq := 0, time := s.alTime, kind := 20, scan := s.al.scan } else s
  | .ao n v =>
    if s.pair.joining then s.modPair (fun p => { p with takenOut := p.takenOut ++ [(0, n, v)] })
    else s.modAo n (fun a => { a with cmd := v, bad := false, held := true })
  | .sw m v =>
    if s.pair.joining then s.modPair (fun p => { p with takenOut := p.takenOut ++ [(1, m, b2n v)] })
    else s.modSw m (fun w => { w with cmd := v, atFallback := false })

/-- The bytes an item counts in the copy set. -/
def itemBytes (x : CopyItem) : Nat :=
  match x with
  | .line _ _ b => b.length
  | _ => 0

/-- COPY_DATA_FRAME (R209, R249, R275): the copy set, or the alarm or loop states alone. -/
def execCopyDataFrame (dt : Nat) (h : LaneHdr) (l : List CopyItem) (s : State) : Host.Outcome State Fault Refusal :=
  execLane dt h (fun s =>
    if s.takesCopy then
      let s := l.foldl State.takeItem s
      s.modPair (fun p => { p with copy := p.copy.map (fun c => { c with bytes := l.foldl (fun a x => a + itemBytes x) c.bytes }) })
    else
      l.foldl (fun s x => match x with
        | .alarms _ | .alarm _ _ | .group _ _ | .ladder _ => if s.al.behind then s.takeItem x else s
        | .loop _ _ | .lsn _ _ => if s.loop.behind then s.takeItem x else s
        | .ask _ => s.takeItem x
        | _ => s) s) s

/-- COPY_COMPLETE: the base pass ends (R275, R276): EV038, and the running module chooses and announces the switch instant: of the join,
or of the end of a resynchronisation (R271). -/
def State.copyComplete (s : State) (c : Copy) : State :=
  let ms := (s.tick - c.since) / Config.ticksPerMs
  let s := s.modPair (fun p => { p with lastCopy := ms })
  let s := s.raise 38 [(8, c.bytes), (4, ms)]
  if c.taking then s.modPair (fun p => { p with copy := none })
  else
    let f := frameAtOrAfter (s.now + s.switchLead)
    let s := s.sendCopyRest.modPair (fun p => { p with copy := none })
    if s.pair.joining then
      let m : ModeChange := {
        target := .m4, role := .primary, at_ := f, pair := true, op := none, confirmed := false, cause := 6, command := false
        withdraws := false, joins := false, streams := [] }
      (s.modMu (fun u => { u with pending := some m })).announce 1 [2, f, 0]
    else (s.modPair (fun p => { p with resumeAt := some f })).announce 1 [4, f, 0]

/-- COPY_COMPLETE. -/
def execCopyComplete (dt : Nat) (s : State) : Host.Outcome State Fault Refusal :=
  let s := s.elapse dt
  match s.pair.copy with
  | none => .next s
  | some c => .next (s.copyComplete c)

/-- COPY_TIMEOUT: 60 s after the copy of a join began (R275). -/
def execCopyTimeout (dt : Nat) (s : State) : Host.Outcome State Fault Refusal :=
  let s := s.elapse dt
  match s.pair.copy with
  | none => .next s
  | some c =>
    if !s.pair.joining || !s.since c.since (60 * Config.ticksPerSecond) then .next s
    else if c.taking then .next (s.joinFails .notReady 6 true)
    else .next (s.modPair (fun p => { p with joining := false, copy := none }))

/-! ## Status (R260) -/

/-- A module that is to rejoin asks as soon as a running partner answers on a lane: after an activation in a pair (R36), and after an
isolation (R279). -/
def State.rejoinNow (s : State) : State :=
  if !s.pair.joining && s.joinable && s.mu.joinOp.isNone && s.mu.pending.isNone &&
      ((s.mu.rejoin && s.mode == .m3) || s.role == .isolated) then s.askJoin none
  else s

/-- The partner asks for a resynchronisation of its own, shown by its PairState (R271): the PRIMARY sends the copy set. -/
def State.serveResync (s : State) : State :=
  if s.role == .primary && s.pair.sync && bit s.pair.partner.pairState 25 && s.pair.copy.isNone && s.pair.resumeAt.isNone then
    (s.modPair (fun p => { p with copy := some ⟨s.tick, false, s.copyBytes⟩ })).sendCopySet
  else s

/-- STATUS_FRAME (R260, R447, R538): the partner's mode, role and state; a module that does not lead follows the lead's time. -/
def State.statusIn (s : State) (x : StatusIn) : State :=
  let s := s.modPair (fun p => { p with
    gone := false
    partner := { p.partner with
      mode := some (Mode.ofNum x.mode), role := Role.ofNum x.role, pairState := x.pairState, loaded := x.loaded, flag := x.flag
      diag := x.diag } })
  let s := s.modClk (fun k => { k with lanePeerOffset := x.offset })
  let s := if s.timeFollows then (s.modClk (fun k => { k with state := 5 })).servo else s
  let s := if s.role == .primary && !bit x.pairState 25 then s.modPair (fun p => { p with resumeAt := none }) else s
  s.canRefresh.rejoinNow.serveResync

/-- STATUS_FRAME. -/
def execStatusFrame (dt : Nat) (h : LaneHdr) (x : StatusIn) (s : State) : Host.Outcome State Fault Refusal :=
  execLane dt h (fun s => s.statusIn x) s

/-! ## Takeback (R281) -/

/-- The named module requests its takeback where its soak is complete and a swap can be made (R281, R307). -/
def State.takeback (s : State) : State :=
  let soaked := match s.pair.soakFrom with
    | some t => s.since t (s.eff 0x0204 * Config.ticksPerSecond)
    | none => false
  let waits := match s.pair.takebackAfter with | some t => decide (s.tick < t) | none => false
  if soaked && !waits && s.role == .standby && s.eff 0x0201 == s.mu.slot && s.swapReady && !s.broken && s.mu.pending.isNone then
    (s.modPair (fun p => { p with takebackAfter := none })).askSwap 2 none
  else s

/-- SOAK_EXPIRY: SoakElapsed has reached PreferredSoak, or stands above it and the conditions of a swap hold again. -/
def execSoakExpiry (dt : Nat) (s : State) : Host.Outcome State Fault Refusal :=
  .next (s.elapse dt).takeback

/-- TAKEBACK_RETRY: 60 s after a refusal. -/
def execTakebackRetry (dt : Nat) (s : State) : Host.Outcome State Fault Refusal :=
  let s := s.elapse dt
  match s.pair.takebackAfter with
  | some t => .next (if t ≤ s.tick then s.takeback else s)
  | none => .next s

end Sys2Proof.Machine
end

