-- ==== Sys2Proof/Machine/Supply.lean ====
section
/-!
DEFINITION. Power, self-test and restart: M0 and M1 (R28, R36, R61–R64, R246, R354, R497, R515, R522, R527, R541, R549, R550), the supply
and its diagnostics (R527, R537, R538, R543, R544), the retained saves (R46, R61), RESTART (R55) and the watchdog (R256).
-/
namespace Sys2Proof.Machine

/-- Change the supply. -/
def State.modSup (s : State) (f : Supply → Supply) : State := { s with sup := f s.sup }

/-! ## M0 (R28, R446, R522, R541) -/

/-- The carrier slot of a strap resistance in Ω (R522): 0 slot A, 1 slot B, 0xFF floating. -/
def slotOf (ohms : Nat) : Nat := if ohms < 2000 then 0 else if 5000 ≤ ohms ∧ ohms ≤ 20000 then 1 else 0xFF

/-- The Archive record on flash in the tail slot of a sequence number (R489). -/
def State.tailRec (s : State) (seq : Nat) : Option ArchRec :=
  match tget s.arch.tail ((seq - 1) % 1048576) none with
  | some r => if r.seq = seq then some r else none
  | none => none

/-- The time base starts from the last power-down record, or without one at the end of the previous life from the greatest time
among the last 64 records on flash (R446, R497). -/
def State.startTime (s : State) : Nat :=
  match s.tailRec s.arch.flashed with
  | some r =>
    if r.kind = 4 ∧ r.source = 2 then r.time
    else (List.range 64).foldl (fun t k =>
      match s.tailRec (s.arch.flashed - k) with
      | some r => if k < s.arch.flashed then max t r.time else t
      | none => t) 0
  | none => 0

/-- SpreadDepth as the committed configuration holds it, read on entry to M0 (R26). -/
def State.spreadDepth (s : State) : Nat :=
  match s.restored with
  | some i => i.param s.mu.slot 0x07F0
  | none => paramDefault s.mu.slot 0x07F0

/-- M0 runs once the reset is released (R36, R541), and M1 begins: the strap is read, EV001 where it floats (R28), and the heartbeat
toggles once the slot is known (R256, R522). -/
def State.runM0 (s : State) (feeds ohms : Nat) : State :=
  let s := { s with
    ident := { s.ident with powerCycles := s.ident.powerCycles + 1 }
    clk := { s.clk with tb := s.startTime, frac := 0, spread := s.spreadDepth }
    mu := { s.mu with slot := slotOf ohms }
    sup := { s.sup with present := [bit feeds 0, bit feeds 1], powerFail := false, held := false } }
  let s := if s.mu.slot = 0xFF then s.raise 1 [(4, ohms)] else s.modPair (fun p => { p with line := .toggling })
  s.enterMode .m1 .none false 7 false []

/-- POWER_APPLIED (R541): the reset is released with at least one feed present. It is the only way out of M0; after RESTART, a
watchdog's reset or a feed's return it tells the release of that reset. -/
def execPowerApplied (dt feeds : Nat) (ohms : U32) (s : State) : Host.Outcome State Fault Refusal :=
  let s := s.elapse dt
  .next (if s.mode ≠ .m0 ∨ feeds % 4 = 0 then s else s.runM0 feeds ohms.toNat)

/-! ## M1 -/

/-- EV003 (R46); the spec gives no step-specific codes, so the code is a free value (log 8). -/
def State.stepFailed (s : State) (step res : Nat) : State :=
  let (v, s) := s.takeFree
  s.raise 3 [(1, step), (1, res), (4, v % 2 ^ 32)]

/-- The injection tests of M1 (R299, R300), and the replacement of a pair found FAILED (R320). -/
def State.testPairs (s : State) (tests : List (Nat × U64)) : State :=
  let s := (List.range 11).foldl (fun (s : State) p =>
    let l := (tests.find? (·.1 == p)).elim (BitVec.allOnes 64) Prod.snd
    let s := s.injected p l
    if l = BitVec.allOnes 64 then s else s.stepFailed 1 (if p < 10 then p else 0xFF)) s
  (s.annex.waiting.filter (fun m => m.kind == 1)).foldl (fun s m => s.migratePair m tests.reverse) s

/-- FirmwareRelease follows the active slot's header (R105, R504). -/
def State.runFirmware (s : State) (k : Nat) : State :=
  let s := { s with fw := { s.fw with active := k } }
  { s with ident := { s.ident with fwRelease := BitVec.ofNat 16 (leAt s.fwHeader 0x10 2) } }

/-- Version of a firmware slot's image (R504). -/
def State.fwVersion (s : State) (k : Nat) : Nat := leAt (s.fwSlot k).header 0x10 2

/-- The firmware check of M1 (R515): the active slot, else the other where it is VALID and passes, else M11 with HaltCause 4. -/
def State.firmwareCheck (s : State) (images : List Bool) : State :=
  let k := s.fw.active
  let other := 1 - k
  let s := s.runFirmware k
  if images.getD k false then s
  else
    let s := s.stepFailed 4 0xFF
    if images.getD other false && (s.fwSlot other).state == 4 then
      let s := s.runFirmware other
      { s with fw := { s.fw with fallbacks := s.fw.fallbacks + 1 } }
    else s.halt 4 0xFF

/-- What M1 tells of the life before (R508, R514): updates lost with power, and a ROLLBACK. -/
def State.tellUpdates (s : State) : State :=
  let s := s.fw.lostUpdates.foldl (fun (s : State) (k, next) =>
    let (v, s) := s.takeFree
    s.raise 234 [(1, k), (1, 5), (4, v % 2 ^ 32), (4, next)]) s
  let s := { s with fw := { s.fw with lostUpdates := [] } }
  if s.fw.rolled then
    ({ s with fw := { s.fw with rolled := false, result := 4, rollbacks := s.fw.rollbacks + 1 } }).raise 237
      [(1, s.fw.active), (1, 4), (2, s.fwVersion s.fw.active)]
  else s

/-- The configuration is loaded (R51, R354): the slot table the image holds becomes the active one and is copied into the shadow. -/
def State.loadConfig (s : State) (img : Image) (st : Nat) : State :=
  let img := (List.range 128).foldl (fun (g : Image) k => g.setEntry 0x0006 (128 + k) (g.entry 0x0006 k)) img
  ({ s with cfg := { s.cfg with working := img, state := st } }).loadBase img

/-- The program of the selected slot, as far as its image is in. -/
def State.selected (s : State) : Option Program :=
  if s.tk.active = 0xFF then none else some (parseProgram (s.progSlot s.tk.active).bytes)

/-- The configuration of M1 (R36, R63, R64, R550): RecoveryCause 0 where it is loaded or none exists. -/
def State.configCheck (s : State) : Nat × State :=
  match s.cfg.committed with
  | none => (0, { s with cfg := { s.cfg with state := 0 } })
  | some i =>
    if s.fwSchema < i.schema then
      (1, (({ s with cfg := { s.cfg with state := 1, working := { schema := s.fwSchema } } }) : State).stepFailed 6 0xFF)
    else if i.schema = s.fwSchema then
      match s.checkImage s.selected i with
      | none => (0, s.loadConfig i 1)
      | some _ => (1, (({ s with cfg := { s.cfg with state := 1, working := i } }) : State).stepFailed 6 0xFF)
    else
      let (img, drops) := i.migrate s.fwSchema
      let s := { s with cfg := { s.cfg with older := some i, migratedFrom := i.schema, dropCount := drops } }
      let s := s.raise 5 [(2, i.schema), (2, s.fwSchema), (4, drops)]
      match s.checkImage s.selected img with
      | none => (0, s.loadConfig img 3)
      | some _ => (3, (({ s with cfg := { s.cfg with state := 3, working := img } }) : State).stepFailed 6 0xFF)

/-- The retained image of the newest complete save (R62), EV009 where that save is periodic (R46). With a running program each task takes
as much as it declares; without one the image stands as saved. -/
def State.restoreRetained (s : State) (declared : Bool) : State :=
  match s.ret.save with
  | none => s
  | some (t, final, parts) =>
    let s := (List.range 32).foldl (fun (s : State) n =>
      let b := tget parts n []
      let k := if declared then (s.decl n).retainSize else b.length
      if k = 0 then s
      else
        let s := s.writeArea n 0 (b.take k)
        s.modTask n (fun k => { k with hash := s.hashArea n })) s
    let s := { s with ret := { s.ret with dirty := [] } }
    if final then s else s.raise 9 [(8, t), (4, (s.now - t) / 1000000)]

/-- The selected program of M1 (R123): RecoveryCause 2 where its check fails; none selected passes. The retained image is rebuilt in
every case (R62). -/
def State.programCheck (s : State) : Nat × State :=
  match s.selected with
  | none => (0, s.restoreRetained false)
  | some p =>
    if (s.progRefused (s.progSlot s.tk.active).bytes).isSome then (2, (s.stepFailed 5 0xFF).restoreRetained false)
    else (0, (s.startProgram s.tk.active p).restoreRetained true)

/-- The power-up record (R497), and the record that tells how many records were lost. -/
def State.archPowerUp (s : State) : State :=
  let d := leBytes 8 s.startTime ++ leBytes 2 s.ident.hwRev.toNat ++ leBytes 1 s.fw.active ++ leBytes 2 s.arch.prevHalt
  let s := s.archMandatory 0 4 1 0 d
  if s.arch.lostPending = 0 then s
  else
    let n := s.arch.lostPending
    ({ s with arch := { s.arch with lostPending := 0 } }).archMandatory 0 4 3 0 (leBytes 4 n)


/-- M1 ends (R36), with the transition at the next I/O bus frame boundary (R40). A cause for M11 goes before all; a module that does
not know its slot stays (R28). -/
def State.leaveM1 (s : State) : State :=
  if s.mu.haltCause ≠ 0 then s.auto .m11 .none 7
  else if s.mu.slot = 0xFF then s
  else
    let (c, s) := s.configCheck
    let (d, s) := s.programCheck
    let cause := if c = 0 then d else c
    if cause ≠ 0 then (s.modMu (fun u => { u with recoveryCause := cause })).auto .m10 .none 7
    else if s.cfg.committed.isNone then s.auto .m2 .none 7
    else s.auto .m3 .none 7

/-- SELFTEST_COMPLETE (R36, R541). -/
def execSelftestComplete (dt : Nat) (r : SelfTest) (s : State) : Host.Outcome State Fault Refusal :=
  let s := s.elapse dt
  if s.mode ≠ .m1 ∨ s.mu.startDone then .next s
  else
    let s := (s.modMu (fun u => { u with startDone := true })).modSup (fun p => { p with holdup := r.holdup, measured := true })
    let s := (s.archPowerUp.testPairs r.tests).firmwareCheck r.images
    let s := r.failed.foldl (fun (s : State) (k, res) => s.stepFailed k res) s
    .next s.tellUpdates.ladderRestore.leaveM1

/-! ## Feeds (R527, R543, R544) -/

/-- The other feed. -/
def otherFeed (feed : Nat) : Nat := 1 - feed

/-- FEED_LOSS: one feed drops; only SupplyStatus, the diagnostic points and the PWR LED follow (R527). -/
def execFeedLoss (dt feed volt : Nat) (s : State) : Host.Outcome State Fault Refusal :=
  let s := s.elapse dt
  if 2 ≤ feed then .next s
  else .next (s.modSup (fun p => { p with present := p.present.set feed false, volts := p.volts.set feed volt }))

/-- FEED_RESTORED: a feed returns while the other supplies the module (R527). -/
def execFeedRestored (dt feed : Nat) (s : State) : Host.Outcome State Fault Refusal :=
  let s := s.elapse dt
  if 2 ≤ feed then .next s
  else if s.sup.powerFail || !s.sup.present.getD (otherFeed feed) false then .next s
  else .next (s.modSup (fun p => { p with present := p.present.set feed true }))

/-- HOLDUP_BANK_CHARGED (R527, R541). -/
def execHoldupBankCharged (dt : Nat) (s : State) : Host.Outcome State Fault Refusal :=
  let s := s.elapse dt
  .next (if s.mode = .m0 ∨ s.sup.powerFail then s else s.modSup (fun p => { p with holdupReady := true }))

/-- POWER_FAIL_DETECTED (R61, R278, R543, R544): no task cycle starts, the panel lines go high-impedance (R470); a module in a pair
departs first, any other begins its final save, with EV017 where that is skipped (R46). In M1 no save is made. -/
def State.powerFails (s : State) : State :=
  let s := s.modSup (fun p => { p with present := [false, false], powerFail := true })
  if s.mode = .m1 then s
  else
    let s := s.panelAbandon.2
    let s := if s.saveTooBig then
        ({ s with ret := { s.ret with skip := true } }).raise 17
          [(1, 3), (4, 4096 * s.ret.dirty.length), (4, (s.tick - s.ret.lastTick) / Config.ticksPerMs)]
      else s
    match s.pair.departure with
    | some d =>
      if d.leaving && decide (s.now < d.at_) then s.modPair (fun p => { p with departure := some { d with after := 0 } })
      else s.beginSave
    | none =>
      if s.canDepart then s.depart 0 else s.beginSave

/-- POWER_FAIL_DETECTED. -/
def execPowerFailDetected (dt : Nat) (s : State) : Host.Outcome State Fault Refusal :=
  let s := s.elapse dt
  .next (if s.mode = .m0 ∨ s.sup.powerFail then s else s.powerFails)

/-- FEED_RETURN_DURING_SAVE (R544): the save completes, and the module restarts through M0; before F of a departure (R278) the
return is remembered until then. -/
def execFeedReturnDuringSave (dt feed : Nat) (s : State) : Host.Outcome State Fault Refusal :=
  let s := s.elapse dt
  if 2 ≤ feed then .next s
  else if !s.sup.powerFail then .next s
  else if s.sup.saving.isNone && s.mode != .m1 then .next (s.modSup (fun p => { p with back := true }))
  else
    let s := (s.finalSave true).enterM0
    .next (s.modSup (fun p => { p with present := ([false, false] : List Bool).set feed true }))

/-- HOLDUP_END (R543, R544): 6 ms after its start the final save is complete (R527); before that it is not, and what it would have
written is lost. The module is without power. -/
def execHoldupEnd (dt : Nat) (s : State) : Host.Outcome State Fault Refusal :=
  let s := s.elapse dt
  if !s.sup.powerFail then .next s
  else
    let saved := match s.sup.saving with
      | some (t, _) => s.since t (6 * Config.ticksPerMs)
      | none => false
    let s := if saved then s.finalSave true else s
    .next (s.enterM0.modSup (fun p => { p with present := [false, false], held := true }))

/-! ## Diagnostics (R537, R538) -/

/-- The nine diagnostic values, producers 0–3 and 16–20. -/
def State.diagValues (s : State) : List Nat := [
  b2n (s.sup.present.getD 0 false), b2n (s.sup.present.getD 1 false), b2n s.holdupLow, b2n s.overTemp,
  s.sup.volts.getD 0 0, s.sup.volts.getD 1 0, s.sup.inlet, s.sup.die, s.sup.power]

/-- One set of diagnostic points from producer `base` on, stamped `t`. -/
def State.diagPoints (s : State) (base : Nat) (v : List Nat) (t : Nat) : State :=
  let s := [0, 1, 2, 3].foldl (fun (s : State) d => s.publishBp 7 (base + d) (v.getD d 0 != 0) t) s
  [0, 1, 2, 3, 4].foldl (fun (s : State) d => s.publishAp 7 (base + 16 + d) (v.getD (4 + d) 0) t) s

/-- CURATOR_DIAGNOSTIC_UPDATE, at every whole multiple of 100 ms (R537, R538). -/
def execCuratorDiagnosticUpdate (dt : Nat) (d : DiagIn) (s : State) : Host.Outcome State Fault Refusal :=
  let s := s.elapse dt
  if s.mode = .m0 ∨ !s.onGrid 100000000 then .next s
  else
    let s := s.modSup (fun p => { p with
      volts := [d.pwrA, d.pwrB], power := d.power, inlet := d.inlet, die := d.die, peak := fmax fmt32 p.peak d.inlet })
    let t := s.gridInstant 100000000
    let s := s.diagPoints 0 s.diagValues t
    .next (s.diagPoints 32 (if s.laneUp then s.pair.partner.diag else []) t)

/-! ## Retained saves (R46, R61) -/

/-- RetainSavePeriod in ticks. -/
def State.savePeriod (s : State) : Nat := s.eff 0x010A * Config.ticksPerMs

/-- Periodic saves are made in every mode that holds a retained image. -/
def State.savesRetained (s : State) : Bool := s.mode != .m0 && s.mode != .m1 && s.mode != .m11 && !s.sup.powerFail

/-- PERIODIC_RETAIN_SAVE: RetainSavePeriod after the last one, the granules dirtied since and the complete-image marker stand in the
log (R61). -/
def execPeriodicRetainSave (dt : Nat) (s : State) : Host.Outcome State Fault Refusal :=
  let s := s.elapse dt
  if !s.savesRetained || !s.since s.ret.lastTick s.savePeriod then .next s
  else
    let s := s.saveRetained false
    .next { s with ret := { s.ret with saving := none } }

/-- RETAIN_SAVE_TIMEOUT: a periodic save has not completed within RetainSavePeriod of its start: EV017 cause 1 (R46), once per
period. -/
def execRetainSaveTimeout (dt : Nat) (s : State) : Host.Outcome State Fault Refusal :=
  let s := s.elapse dt
  let from_ := max (s.ret.lastTick + s.savePeriod) (s.ret.saving.getD 0)
  if !s.savesRetained || !s.since from_ s.savePeriod then .next s
  else
    let s := s.raise 17 [(1, 1), (4, 4096 * s.ret.dirty.length), (4, (s.tick - s.ret.lastTick) / Config.ticksPerMs)]
    .next { s with ret := { s.ret with saving := some s.tick } }

/-! ## RESTART (R55) and the watchdog (R256) -/

/-- A commanded restart (R55): the module departs where its partner runs and a lane is up, else the next I/O bus frame boundary is the
end of this life. -/
def State.restart (s : State) : State :=
  if s.canDepart && s.pair.departure.isNone then s.depart 1
  else { s with mu := { s.mu with auto := some ⟨.m0, .none, 7, frameAfter s.now⟩ } }

/-- RESTART (R55). -/
def restartCmd : Cmd := { Cmd.plain 0x0031 (fun _ s => { okRep s with status := .accepted, after := State.restart }) with
  malformed := fun r s =>
    if r.body.length ≠ 4 ∨ beAt r.body 0 4 ≠ s.ident.serial.toNat % 2 ^ 32 then some noPos else none }

/-- RESTART. -/
def execRestart (dt : Nat) (p : Packet) (s : State) : Host.Outcome State Fault Refusal := execMail restartCmd (codeIs 0x0031) dt p s

/-- WATCHDOG_EXPIRY (R256): 2 ms without a feed outside grace, or 1.5 s of grace; the module removes itself from the plant and
resets into M0 without a save. -/
def execWatchdogExpiry (dt : Nat) (s : State) : Host.Outcome State Fault Refusal :=
  let s := s.elapse dt
  let grace := match s.mbx.restarting with
    | some (_, t) => !s.since t (1500 * Config.ticksPerMs)
    | none => false
  .next (if s.mode = .m0 ∨ grace = true then s else s.enterM0)

end Sys2Proof.Machine
end

