-- ==== Sys2Proof/Machine/Firmware.lean ====
section
/-!
DEFINITION. Firmware update: the image header (R504, R505), receiving and verifying an image (R506–R509), activation (R510–R513) and
rollback (R514).
-/
namespace Sys2Proof.Machine

/-- Change a firmware slot, 0 FW-A. -/
def State.modFw (s : State) (k : Nat) (f : FwSlot → FwSlot) : State :=
  if k = 0 then { s with fw := { s.fw with slotA := f s.fw.slotA } } else { s with fw := { s.fw with slotB := f s.fw.slotB } }

/-- ImageLength of a header (R504). -/
def fwLength (h : List Byte) : Nat := leAt h 0x18 4

/-- MinFeatureLevel of a program slot (R120): 0 while its header is not in. -/
def ProgSlot.minFeature (p : ProgSlot) : Nat := if p.bytes.length < 128 then 0 else leAt p.bytes 6 2

/-- The first check of a firmware header that fails (R505). -/
def State.fwHeaderCause (s : State) (h : List Byte) : Option Nat :=
  [(1, slice h 0 4 != [0x49#8, 0x53#8, 0x46#8, 0x57#8] || leAt h 4 2 != 1 || leAt h 6 2 != 256 || leAt h 0x1E 2 != 0 ||
      !allZero (slice h 0x40 64) || !allZero (slice h 0xC0 64)),
    (2, leAt h 8 4 != 7240),
    (3, !bit (leAt h 0x0C 4) (s.ident.hwRev.toNat / 256)),
    (4, decide (fwLength h < 4096 ∨ 268435456 < fwLength h)),
    (5, decide (leAt h 0x12 2 < s.schemaInUse)),
    (6, decide (3 < leAt h 0x1C 2)),
    (7, !Config.fwSigOk (h.take 128) (leAt h 0x1C 2) (slice h 0x80 64)),
    (8, decide (leAt h 0x14 2 < s.tk.slotA.minFeature ∨ leAt h 0x14 2 < s.tk.slotB.minFeature))].findSome?
    (fun (c, failed) => if failed then some c else none)

/-! ## Receiving an image (R506–R508) -/

/-- A body of UPDATE_BEGIN is malformed: Op 1 carries the header, any other Op nothing after the reserved field. -/
def updateBodyBad (b : List Byte) : Bool :=
  decide (b.length < 4) || beAt b 2 2 != 0 || b.length != (if beAt b 1 1 = 1 then 260 else 4)

/-- UPDATE_BEGIN, Op 1 and Op 0 (R506). -/
def updateBeginCmd : Cmd := { Cmd.plain 0x0090 (fun r s =>
    let k := beAt r.body 0 1
    if beAt r.body 1 1 = 0 then okRep (s.abandonUpdate k 2)
    else
      let h := r.body.drop 4
      match s.fwHeaderCause h with
      | some c => { refuse .imageRefused noPos s with after := fun s => { s with fw := { s.fw with refuse := c } } }
      | none => okRep (s.modFw k (fun _ => { state := 1, header := h, owner := some r.session, lastTick := s.tick }))) with
  malformed := fun r _ => if updateBodyBad r.body then some noPos else none
  unready := fun r s =>
    let k := beAt r.body 0 1
    if 2 ≤ k then none
    else if beAt r.body 1 1 = 1 then (if k = s.fw.active then some noPos else none)
    else if beAt r.body 1 1 = 0 then (if (s.fwSlot k).owner = some r.session then none else some noPos)
    else none
  value := fun r _ => if 2 ≤ beAt r.body 0 1 ∨ 2 ≤ beAt r.body 1 1 then some (.range, noPos) else none
  busy := fun r s => beAt r.body 1 1 == 1 && (s.fwSlot (beAt r.body 0 1)).owner.isSome }

/-- The slot whose update a session runs (R506). -/
def State.updateOf (s : State) (sid : U32) : Option Nat := [0, 1].find? (fun k => (s.fwSlot k).owner == some sid)

/-- UpdateNextOffset of a slot (R507). -/
def FwSlot.next (x : FwSlot) : Nat := 256 + x.body.length

/-- UPDATE_BLOCK (R507). -/
def updateBlockCmd : Cmd := { Cmd.plain 0x0091 (fun r s =>
    match s.updateOf r.session with
    | none => refuse .stateRefused noPos s
    | some k =>
      let x := s.fwSlot k
      let fits := decide (r.arg + r.body.length ≤ fwLength x.header)
      if r.arg = x.next ∧ fits = true then
        okRep (s.modFw k (fun x => { x with
          body := x.body ++ r.body, lastBlock := some (r.arg, r.body), lastTick := s.tick
          state := if r.arg + r.body.length = fwLength x.header then 2 else x.state }))
      else if x.lastBlock = some (r.arg, r.body) then okRep (s.modFw k (fun x => { x with lastTick := s.tick }))
      else if !fits then refuse .range noPos s
      else { refuse .sequence noPos s with after := fun s => s.raise 234 [(1, k), (1, 1), (4, r.arg), (4, x.next)] }) with
  malformed := fun r _ => if r.body.isEmpty ∨ 4096 < r.body.length then some noPos else none
  unready := fun r s => if (s.updateOf r.session).isNone then some noPos else none }

/-- A verify begins (R509). -/
def updateVerifyApply (op : Option Nat) (b : List Byte) (_ : U32) (s : State) : State :=
  s.modFw (beAt b 0 1) (fun x => { x with state := 3, verify := some (op, s.tick), lastTick := s.tick })

/-- A body of Slot and three reserved bytes. -/
def slotBodyBad (r : Req) (_ : State) : Option Nat := if r.body.length ≠ 4 ∨ beAt r.body 1 3 ≠ 0 then some noPos else none

/-- UPDATE_VERIFY (R509). -/
def updateVerifyCmd : Cmd := { Cmd.plain 0x0092 (fun r s => runAsync updateVerifyApply r s) with
  malformed := slotBodyBad
  unready := fun r s =>
    let k := beAt r.body 0 1
    if decide (k < 2) && (s.fwSlot k).state == 2 && (s.fwSlot k).owner == some r.session then none else some noPos
  async := fun _ _ => true }

/-- The digest check ends (R509). -/
def State.verifyDone (s : State) (k : Nat) (op : Option Nat) : State :=
  let x := s.fwSlot k
  let ok := sha256 x.body == slice x.header 0x20 32
  let s := s.modFw k (fun x => { x with state := if ok then 4 else 5, owner := none, lastBlock := none, verify := none })
  if ok then
    (s.raise 235 [(1, k), (2, leAt x.header 0x10 2), (2, leAt x.header 0x12 2)]).completeOpt op .ok
  else ({ s with fw := { s.fw with refuse := 9 } }).completeOpt op .imageRefused

/-! ## Activation (R510–R513) -/

/-- An activation is under way in M9: it and the tick of its switch instant. -/
def State.activating (s : State) : Option (Activation × Nat) :=
  match s.mode, s.fw.act with
  | .m9, some a => a.since.map (fun t => (a, t))
  | _, _ => none

/-- An accepted ACTIVATE (R510): M9 at a switch instant, in a pair by withdrawal (R42). -/
def activateApply (op : Option Nat) (b : List Byte) (_ : U32) (s : State) : State :=
  ({ s with fw := { s.fw with act := some ⟨beAt b 0 1, op, none, false⟩ } }).propose .m9 false op

/-- ACTIVATE (R510). -/
def activateCmd : Cmd := { Cmd.plain 0x0093 (fun r s =>
    let h := (s.fwSlot (beAt r.body 0 1)).header
    if s.tk.active ≠ 0xFF ∧ leAt h 0x14 2 < (s.progSlot s.tk.active).minFeature then refuse .imageRefused noPos s
    else runAsync activateApply r s) with
  malformed := slotBodyBad
  unready := fun r s =>
    let k := beAt r.body 0 1
    if ((s.mode == .m4 || s.mode == .m5) && !s.pair.sync) ||
      (decide (k < 2) && (k == s.fw.active || (s.fwSlot k).state != 4)) then some noPos else none
  value := fun r _ => if 2 ≤ beAt r.body 0 1 then some (.range, noPos) else none
  busy := fun r s => s.mu.pending.isSome || s.mu.joinOp.isSome || (s.fwSlot (beAt r.body 0 1)).owner.isSome
  async := fun _ _ => true }

/-- Time in µs from the switch instant S to the frame boundary at which M9 is left (R511). -/
def State.holdTime (s : State) : Nat := (frameAtOrAfter s.now - s.mu.entryTime) / 1000 % 2 ^ 32

/-- The result of a completed ACTIVATE (R513). -/
def State.activationResult (s : State) (hold : Nat) : List Byte :=
  beBytes 2 s.ident.fwRelease.toNat ++ beBytes 1 s.fw.active ++ beBytes 1 0 ++ beBytes 4 hold

/-- M9 is left (R511): a solo module goes back to the mode it left, one that was in a pair to M3, from which it rejoins. -/
def State.leaveM9 (s : State) : State :=
  match s.mu.leftForUpdate with
  | some (.m4, _) | some (.m5, _) => (s.modMu (fun u => { u with rejoin := true, leftForUpdate := none })).auto .m3 .none 7
  | some (m, r) => (s.modMu (fun u => { u with leftForUpdate := none })).auto m r 7
  | none => s.auto .m3 .none 7

/-- The configuration under the new firmware (R63, R512): 0 as it is, 1 migrated where the firmware writes a newer schema, 2 not loaded where
the image's schema is newer than the firmware's; none where the migration fails its check. -/
def State.activateConfig (s : State) : Option (Nat × State) :=
  match s.cfg.committed with
  | none => some (0, s)
  | some i =>
    if s.fwSchema < i.schema then
      some (2, { s with cfg := { s.cfg with working := { schema := s.fwSchema }, base := { schema := s.fwSchema }, loaded := false } })
    else if i.schema = s.fwSchema then some (0, s)
    else
      let (img, drops) := i.migrate s.fwSchema
      if (s.checkImage s.activeProg img).isSome then none
      else
        let s := { s with cfg := { s.cfg with
          older := some i, migratedFrom := i.schema, dropCount := drops, working := img, state := 3 } }
        some (1, (s.raise 5 [(2, i.schema), (2, s.fwSchema), (4, drops)]).loadBase img)

/-- The new firmware reports ready (R511–R513): it becomes the active one; a migration that fails is an activation failure. A firmware that
finds a newer schema than its own goes to M10 with RecoveryCause 1 (R63). -/
def State.newFirmwareReady (s : State) (a : Activation) : State :=
  match (s.runFirmware a.slot).activateConfig with
  | none => { s with fw := { s.fw with act := some { a with failed := true } } }
  | some (how, s) =>
    let hold := s.holdTime
    let s := { s with fw := { s.fw with act := none, activations := s.fw.activations + 1, hold := hold, result := 1 } }
    let s := s.raise 236 [(1, a.slot), (2, s.fwVersion a.slot), (4, hold), (1, b2n (how == 1))]
    let s := s.completeOpt a.op .ok (s.activationResult hold)
    if how = 2 then (s.modMu (fun u => { u with recoveryCause := 1, leftForUpdate := none })).auto .m10 .none 7
    else s.leaveM9

/-- The previous firmware has resumed and reports ready (R511, R513). -/
def State.oldFirmwareReady (s : State) (a : Activation) : State :=
  let hold := s.holdTime
  let s := { s with fw := { s.fw with act := none, rollbacks := s.fw.rollbacks + 1, hold := hold, result := 2 } }
  let s := s.raise 237 [(1, s.fw.active), (1, 2), (2, s.fwVersion s.fw.active)]
  (s.completeOpt a.op .imageRefused (s.activationResult hold)).leaveM9

/-- The deadline passes with no firmware ready: M10 with RecoveryCause 5 (R36, R511, R513). -/
def State.activationLate (s : State) (a : Activation) : State :=
  let hold := s.holdTime
  let s := { s with fw := { s.fw with act := none, hold := hold, result := 3 } }
  let s := (s.modMu (fun u => { u with recoveryCause := 5, leftForUpdate := none })).completeOpt a.op .internal (s.activationResult hold)
  s.auto .m10 .none 7

/-! ## Rollback (R514) -/

/-- ROLLBACK: the other slot becomes active in flash, and the module restarts. -/
def State.rollback (s : State) : State :=
  ({ s with fw := { s.fw with active := 1 - s.fw.active, rolled := true } }).restart

/-- ROLLBACK (R514): ACCEPTED, and no completion. -/
def rollbackCmd : Cmd := { Cmd.plain 0x0094 (fun _ s => { okRep s with status := .accepted, after := State.rollback }) with
  malformed := noBody
  unready := fun _ s => if (s.fwSlot (1 - s.fw.active)).state = 4 then none else some noPos }

/-! ## Rows -/

/-- UPDATE_BEGIN with an Op other than 0. -/
def execUpdateBegin (dt : Nat) (p : Packet) (s : State) : Host.Outcome State Fault Refusal :=
  execMail updateBeginCmd (fun d => codeIs 0x0090 d && (decide (d.length < 50) || beAt d 49 1 != 0)) dt p s

/-- UPDATE_BEGIN with Op 0. -/
def execUpdateAbandon (dt : Nat) (p : Packet) (s : State) : Host.Outcome State Fault Refusal :=
  execMail updateBeginCmd (fun d => codeIs 0x0090 d && (decide (d.length < 50) || beAt d 49 1 == 0)) dt p s

/-- UPDATE_BLOCK. -/
def execUpdateBlock (dt : Nat) (p : Packet) (s : State) : Host.Outcome State Fault Refusal :=
  execMail updateBlockCmd (codeIs 0x0091) dt p s

/-- UPDATE_VERIFY. -/
def execUpdateVerify (dt : Nat) (p : Packet) (s : State) : Host.Outcome State Fault Refusal :=
  execMail updateVerifyCmd (codeIs 0x0092) dt p s

/-- UPDATE_VERIFY_DONE: the digest check of a slot ends (R509). -/
def execUpdateVerifyDone (dt k : Nat) (s : State) : Host.Outcome State Fault Refusal :=
  let s := s.elapse dt
  if 2 ≤ k then .next s
  else
    match (s.fwSlot k).verify with
    | none => .next s
    | some (op, _) => .next (s.verifyDone k op)

/-- UPDATE_IDLE_TIMEOUT: 600 s without an accepted block or verify (R508). -/
def execUpdateIdleTimeout (dt k : Nat) (s : State) : Host.Outcome State Fault Refusal :=
  let s := s.elapse dt
  if 2 ≤ k then .next s
  else if (s.fwSlot k).owner.isNone || (s.fwSlot k).verify.isSome ||
      !s.since (s.fwSlot k).lastTick (600 * Config.ticksPerSecond) then .next s
  else .next (s.abandonUpdate k 4)

/-- ACTIVATE. -/
def execActivate (dt : Nat) (p : Packet) (s : State) : Host.Outcome State Fault Refusal :=
  execMail activateCmd (codeIs 0x0093) dt p s

/-- FIRMWARE_READY: the new firmware, or after a failure the previous one, reports ready (R511). -/
def execFirmwareReady (dt : Nat) (s : State) : Host.Outcome State Fault Refusal :=
  let s := s.elapse dt
  match s.activating with
  | none => .next s
  | some (a, _) => .next (if a.failed then s.oldFirmwareReady a else s.newFirmwareReady a)

/-- ACTIVATION_FAILURE: the new firmware fails its check or migration (R511). -/
def execActivationFailure (dt : Nat) (s : State) : Host.Outcome State Fault Refusal :=
  let s := s.elapse dt
  match s.activating with
  | none => .next s
  | some (a, _) => .next { s with fw := { s.fw with act := some { a with failed := true } } }

/-- ACTIVATION_DEADLINE: 350 ms after S no firmware is ready (R511). -/
def execActivationDeadline (dt : Nat) (s : State) : Host.Outcome State Fault Refusal :=
  let s := s.elapse dt
  match s.activating with
  | none => .next s
  | some (a, t) => .next (if s.since t (350 * Config.ticksPerMs) then s.activationLate a else s)

/-- ROLLBACK. -/
def execRollback (dt : Nat) (p : Packet) (s : State) : Host.Outcome State Fault Refusal :=
  execMail rollbackCmd (codeIs 0x0094) dt p s

end Sys2Proof.Machine
end

