-- ==== Sys2Proof/Machine/ArchiveTrend.lean ====
section
/-!
DEFINITION. The Archive's flash and its reading (R491, R493, R497–R500), the trend store (R108–R111) and Curator restarts (R36, R95–R97,
R114, R496).
-/
namespace Sys2Proof.Machine

/-! ## The Archive (R491, R498–R500) -/

/-- The first 0x1F0 bytes of a record's image (R491). -/
def ArchRec.front (r : ArchRec) : List Byte :=
  leBytes 8 r.seq ++ leBytes 8 r.time ++ leBytes 8 r.opSeconds ++ leBytes 4 r.cycles ++ leBytes 1 r.cls ++ leBytes 1 r.kind ++
  leBytes 2 r.source ++ leBytes 1 r.mode ++ leBytes 1 r.role ++ leBytes 1 r.flags ++ leBytes 1 r.snapshot.length ++
  leBytes 4 r.dropped ++ leBytes 4 r.session ++ leBytes 2 r.release ++ leBytes 1 r.part ++ leBytes 1 r.parts ++
  padTo 64 r.detail ++
  padTo 384 (r.snapshot.map (fun (i, n, st, v) => leBytes 2 i ++ leBytes 1 n ++ leBytes 1 st ++ leBytes 8 v)).flatten

/-- A record's 512-byte image (R491). -/
def ArchRec.image (r : ArchRec) : List Byte := r.front ++ leBytes 4 (crc32 r.front) ++ leBytes 4 0 ++ leBytes 8 r.seq

/-- The record of a sequence number as a read finds it (R489, R499): in the head up to 65,536, else in the tail while it survives. -/
def State.archFind (s : State) (seq : Nat) : Option ArchRec :=
  let head := if seq ≤ 65536 then tget s.arch.head (seq - 1) none else none
  match head with
  | some r => some r
  | none => if s.archOldest ≤ seq then s.tailRec seq else none

/-- What an ARCHIVE_READ has collected: records, GAP, SKIPPED, and the next number. -/
structure ArchScan where
  recs : List ArchRec
  gap : Bool
  skipped : Bool
  next : Nat
deriving DecidableEq, Repr

/-- Collect up to `want` records (R499): past the head the read goes on at the oldest tail record; a number whose record is torn or
lost is passed over. -/
def State.archScan (s : State) (want : Nat) : Nat → ArchScan → ArchScan
  | 0, a => a
  | n + 1, a =>
    if want ≤ a.recs.length ∨ s.arch.flashed < a.next then a
    else if 65536 < a.next ∧ a.next < s.archOldest then s.archScan want n { a with gap := true, next := s.archOldest }
    else
      match s.archFind a.next with
      | some r => s.archScan want n { a with recs := a.recs ++ [r], next := a.next + 1 }
      | none => s.archScan want n { a with skipped := true, next := a.next + 1 }

/-- ARCHIVE_READ (R499). -/
def archiveReadCmd : Cmd := { Cmd.plain 0x0064 (fun r s =>
    let from_ := beAt r.body 0 8
    let a := s.archScan (beAt r.body 8 2) (s.arch.flashed + 2 - from_) ⟨[], false, false, from_⟩
    let flags := b2n a.gap + 2 * b2n (decide (s.arch.flashed < a.next)) + 4 * b2n a.skipped
    okRep s (beBytes 2 a.recs.length ++ beBytes 2 flags ++ beBytes 4 0 ++ beBytes 8 s.archOldest ++
      (a.recs.map ArchRec.image).flatten)) with
  malformed := fun r _ => if r.body.length ≠ 12 ∨ beAt r.body 10 2 ≠ 0 then some noPos else none
  value := fun r _ =>
    if beAt r.body 0 8 = 0 ∨ beAt r.body 8 2 = 0 ∨ 7 < beAt r.body 8 2 then some (.range, noPos) else none }

/-- ARCHIVE_READ. -/
def execArchiveRead (dt : Nat) (p : Packet) (s : State) : Host.Outcome State Fault Refusal :=
  execMail archiveReadCmd (codeIs 0x0064) dt p s

/-- The triggers the Curator holds are staged as places free (R493). -/
def State.archUnhold (s : State) : State :=
  s.arch.held.foldl (fun (s : State) h =>
    if s.arch.stage.length < 4096 then
      ({ s with arch := { s.arch with held := s.arch.held.drop 1 } }).stagePut h
    else s) s

/-- The record that tells how many were lost, once staging succeeds again (R493). -/
def State.archTellLost (s : State) : State :=
  if s.arch.lostPending = 0 ∨ 4096 ≤ s.arch.stage.length then s
  else
    let n := s.arch.lostPending
    ({ s with arch := { s.arch with lostPending := 0 } }).archMandatory 0 4 3 0 (leBytes 4 n)

/-- Up to `n` staged records whose signature window has been released are written, in sequence order (R297, R498). -/
def State.archFlush (s : State) : Nat → State
  | 0 => s
  | n + 1 =>
    match s.arch.stage with
    | [] => s
    | r :: t =>
      if (tget s.lk.window 15 {}).firstSeq ≤ r.seq then s
      else (({ s with arch := { s.arch with stage := t } }).archPut r).archFlush n

/-- ARCHIVE_FLASH_WRITE: the writer has put `n` records on flash (R498). -/
def execArchiveFlashWrite (dt n : Nat) (s : State) : Host.Outcome State Fault Refusal :=
  let s := s.elapse dt
  .next (if s.mode = .m0 then s else (s.archFlush n).archUnhold.archTellLost)

/-! ## The trend store (R108–R111) -/

/-- A sample of a trend channel's source (R108, R109) and its value as binary64, for the deadband. -/
def State.trendValue (s : State) (e : Nat) : Nat × Nat :=
  let src := fld e 4 0 32
  match fld e 0 0 8 with
  | 1 =>
    let v := s.ap src
    (v, if (match s.tk.prog.declOf false src with | some d => d.real | none => false) then f32to64 v
      else ofInt fmt64 (BitVec.ofNat 32 v).toInt)
  | 2 => (s.bp src, ofInt fmt64 (s.bp src))
  | _ =>
    match paramDef src with
    | none => (0, 0)
    | some d =>
      let v := s.paramValue d src
      (v, match d.ty with
        | .f32 => f32to64 v
        | .i8 => ofInt fmt64 (BitVec.ofNat 8 v).toInt
        | .i16 => ofInt fmt64 (BitVec.ofNat 16 v).toInt
        | .i32 => ofInt fmt64 (BitVec.ofNat 32 v).toInt
        | _ => ofInt fmt64 v)

/-- A record joins the circular store (R110); EV238 when the position returns to the start. -/
def State.trendPut (s : State) (r : TrendRec) : State :=
  let cap := s.trendCap
  let recs := s.trend.recs ++ [r]
  let s := { s with trend := { s.trend with recs := recs.drop (recs.length - cap), written := s.trend.written + 1 } }
  if cap ≠ 0 ∧ s.trend.written % cap = 0 then
    s.raise 238 [(8, s.trend.written), (8, (s.trend.recs.head?.map (·.time)).getD 0)]
  else s

/-- The module samples trends: M3–M9 with TrendEnable 1 (R109). -/
def State.trending (s : State) : Bool :=
  s.eff 0x0F60 == 1 && (match s.mode with | .m0 | .m1 | .m2 | .m10 | .m11 => false | _ => true)

/-- A channel is sampled (R109): every sample in RecordMode 0, a change beyond Deadband in RecordMode 1, and always the first. -/
def State.trendSample (s : State) (c : Nat) : State :=
  let e := s.entry 0x000E c
  let (v, x) := s.trendValue e
  let last := tget s.trend.last c none
  let write := match last with
    | none => true
    | some y => fld e 1 0 8 == 0 || flt fmt64 (f32to64 (fld e 0x0C 0 32)) (fabs fmt64 (fsub fmt64 x y))
  if !write then s
  else
    let s := s.trendPut ⟨s.gridInstant (fld e 8 0 32 * 1000000), c, last.isNone, v % 2 ^ 32⟩
    { s with trend := { s.trend with last := tset s.trend.last c none (some x) } }

/-- TREND_SAMPLE, at a whole multiple of the channel's Period (R109). -/
def execTrendSample (dt c : Nat) (s : State) : Host.Outcome State Fault Refusal :=
  let s := s.elapse dt
  let e := s.entry 0x000E c
  if 256 ≤ c then .next s
  else if !s.trending || fld e 0 0 8 == 0 || !s.onGrid (fld e 8 0 32 * 1000000) then .next s
  else .next (s.trendSample c)

/-- A trend record's 16-byte image (R110). -/
def TrendRec.image (r : TrendRec) : List Byte :=
  leBytes 8 r.time ++ leBytes 1 r.channel ++ leBytes 1 (b2n r.first) ++ leBytes 2 0 ++ leBytes 4 r.value

/-- TREND_READ (R111). -/
def trendReadCmd : Cmd := { Cmd.plain 0x0065 (fun r s =>
    let c := beAt r.body 0 2
    let from_ := beAt r.body 4 8
    let oldest := (s.trend.recs.head?.map (·.time)).getD 0
    let l := (s.trend.recs.filter (fun x => (c == 0xFFFF || x.channel == c) && decide (from_ ≤ x.time))).take (beAt r.body 12 2)
    okRep s (beBytes 2 l.length ++ beBytes 2 (b2n (decide (from_ < oldest))) ++ beBytes 4 0 ++ beBytes 8 oldest ++
      (l.map TrendRec.image).flatten)) with
  malformed := fun r _ => if r.body.length ≠ 14 ∨ beAt r.body 2 2 ≠ 0 then some noPos else none
  value := fun r _ =>
    if (256 ≤ beAt r.body 0 2 ∧ beAt r.body 0 2 ≠ 0xFFFF) ∨ beAt r.body 12 2 = 0 ∨ 255 < beAt r.body 12 2 then
      some (.range, noPos) else none }

/-- TREND_READ. -/
def execTrendRead (dt : Nat) (p : Packet) (s : State) : Host.Outcome State Fault Refusal :=
  execMail trendReadCmd (codeIs 0x0065) dt p s

/-! ## Curator restarts (R36, R95–R97, R496) -/

/-- An internal fault prevented the execution of requests (R78): those that are executing answer INTERNAL, and the Archive gets the
kind 5 record (R492); where none is executing the record names session 0. -/
def State.internalFault (s : State) : State :=
  if s.mbx.restarting.isSome || s.mode == .m0 then s
  else if s.mbx.relays.isEmpty then s.archMandatory 0 5 1 0 []
  else s.mbx.relays.foldl (fun (s : State) x =>
    (s.archMandatory 0 5 1 x.session.toNat (leBytes 2 x.code)).answerRelay x .internal noPos []) s

/-- CURATOR_RESTART: the Curator restarts, by a cause of EV016 (R95, R97), of which 4 is an INTERNAL status (R78); the watchdog goes
into grace (R256). -/
def execCuratorRestart (dt cause : Nat) (s : State) : Host.Outcome State Fault Refusal :=
  let s := s.elapse dt
  .next ((if cause = 4 then s.internalFault else s).curatorRestart cause)

/-- Events for which a chapter requires a record (R492). -/
def mandatoryEvents : List Nat := [8, 64, 65, 69, 70, 80, 81, 82, 99, 101]

/-- The late record of an event that occurred during the restart (R496). -/
def State.lateRecord (s : State) (k : Nat) : State :=
  let e := tget s.ev.src k {}
  let det := detailLe e.detail ++ leBytes 4 e.count
  if mandatoryEvents.contains k then
    if s.arch.stage.length < 4096 then s.stageRec (s.eventClass k) 2 k 0 32 0 1 det e.time true
    else s.archMandatory (s.eventClass k) 2 k 0 det 32
  else if !s.eventBit 0x0160 k && s.eventBit 0x0170 k then s.archRouted (s.eventClass k) k det 32 e.time
  else s

/-- The notifications of an event whose counter rose (R95, R114). -/
def State.lateNotify (s : State) (k : Nat) : State :=
  if !s.eventBit 0x0160 k && s.eventBit 0x0168 k then s.eventNotify k else s

/-- The waiting completion notifications of a session are sent, oldest first (R93, R95). -/
def State.sendWaiting (s : State) (id : U32) : State :=
  match s.session id with
  | none => s
  | some x =>
    let s := s.modSession id (fun y => { y with waiting := [] })
    x.waiting.foldl (fun s (st, tag, body) => s.notify id st tag body) s

/-- Three Curator restarts within 600 s in M2–M9 lead to M10 (R36), in a pair by withdrawal (R42). -/
def State.countRestart (s : State) : State :=
  let recent := s.mu.restartTicks.filter (fun t => decide (s.tick < t + 600 * Config.ticksPerSecond)) ++ [s.tick]
  let s := s.modMu (fun u => { u with restartTicks := recent })
  let bad := decide (3 ≤ recent.length) && (match s.mode with | .m0 | .m1 | .m10 | .m11 => false | _ => true)
  if !bad then s
  else
    let s := s.modMu (fun u => { u with restartTicks := [], recoveryCause := 4 })
    if s.paired then s.withdraw .m10 (frameAfter s.now) else s.auto .m10 .none 7

/-- After a restart the response of every request whose effect is journalled is sent again (R95), as the mailbox holds it (R94). -/
def State.resend (s : State) : State :=
  s.mbx.boxes.foldl (fun s (b, x) =>
    match x.last, x.requester with
    | some (sid, k, f), some (via, addr, port, target) =>
      if s.mbx.journal.any (fun (i, j, _) => i == sid && j == k) then
        if target = 1 then s.lane 0x0B [b, 1] f else s.emit (.mailbox via 47210 addr port.toNat f)
      else s
    | _, _ => s) s

/-- The Curator serves mailboxes again (R95, R97, R496). -/
def State.curatorDone (s : State) (cause since : Nat) : State :=
  let rose := (s.ev.src.filter (fun (k, e) =>
    decide (((s.mbx.restartMark.find? (·.1 == k)).map Prod.snd).getD 0 < e.count))).map Prod.fst
  let s := { s with mbx := { s.mbx with restarting := none, restartMark := [] } }
  let s := s.resend
  let s := s.modMu (fun u => { u with curatorRestarts := u.curatorRestarts + 1 })
  let s := (s.mbx.sessions.map (·.id)).foldl State.sendWaiting s
  let s := rose.foldl State.lateNotify s
  let s := rose.foldl State.lateRecord s
  let s := s.raise 16 [(1, cause), (4, (s.tick - since) / Config.ticksPerMs), (4, s.mu.curatorRestarts.toNat)]
  s.countRestart

/-- CURATOR_RESTART_DONE. -/
def execCuratorRestartDone (dt : Nat) (s : State) : Host.Outcome State Fault Refusal :=
  let s := s.elapse dt
  match s.mbx.restarting with
  | none => .next s
  | some (cause, t) => .next (s.curatorDone cause t)

end Sys2Proof.Machine
end

