-- ==== Sys2Proof/Machine/TaskRows.lean ====
section
/-!
DEFINITION. The rows of the cyclic tasks (R33, R34, R127, R133, R135, R145, R552).
-/
namespace Sys2Proof.Machine

/-- The debugger has halted the pair a task runs on (R306): the cycle does not end. -/
def State.halted (s : State) (n : Nat) : Bool :=
  match s.lk.debugger with | some g => g.halted && g.pair == s.taskPair n | none => false

/-- The partner's digest of a waiting cycle is late by DigestWait (R34): a PRIMARY counts it, tells EV044 and releases. -/
def State.digestLate (s : State) (n osn : Nat) : State :=
  match (s.task n).waiting.find? (·.osn == osn) with
  | none => s
  | some h =>
    if s.role = .primary ∧ s.awaitsPartner ∧ !s.releasable n h ∧ s.since h.ready (s.eff 0x0202 * Config.ticksPerUs) then
      ((s.modPair (fun p => { p with lateDigests := p.lateDigests + 1 })).raise 44 [(1, n), (4, osn)]).release n h
    else s

/-- TASK_DUE_START (R127–R129, R139, R146, R160, R551): a start falls due in this tick, or none does. -/
def execTaskDueStart (dt n : Nat) (s : State) : Host.Outcome State Fault Refusal := atRes n 32 (s.elapse dt) ((s.elapse dt).taskDue n)

/-- REPEAT_FRAME_SEND (R43, R552). -/
def execRepeatFrameSend (dt n : Nat) (s : State) : Host.Outcome State Fault Refusal :=
  atRes n 32 (s.elapse dt) ((s.elapse dt).repeatFrame n)

/-- SLICE_LOAD (R133): of the loads that wait, the one whose turn it is (R134). -/
def execSliceLoad (dt n : Nat) (s : State) : Host.Outcome State Fault Refusal :=
  let s := s.elapse dt
  atRes n 32 s (if s.loadsNext n then s.sliceLoad n else s)

/-- TASK_CLOSE (R135): the cycle of a task that its pair does not run does not end (R130), nor does that of a halted pair (R306). -/
def execTaskClose (dt n : Nat) (d : CloseData) (s : State) : Host.Outcome State Fault Refusal :=
  let s := s.elapse dt
  atRes n 32 s (if s.halted n || !s.runsNow n then s else s.closeCycle n d)

/-- CYCLE_RELEASE (R33). -/
def execCycleRelease (dt n osn : Nat) (s : State) : Host.Outcome State Fault Refusal :=
  atRes n 32 (s.elapse dt) ((s.elapse dt).tryRelease n osn)

/-- DIGEST_WAIT_EXPIRY (R34). -/
def execDigestWaitExpiry (dt n osn : Nat) (s : State) : Host.Outcome State Fault Refusal :=
  atRes n 32 (s.elapse dt) ((s.elapse dt).digestLate n osn)

/-- TASK_FAULT with cause 1, 2 or 3 (R145), in the task that its pair runs (R130): the other causes follow from catch-up (R146) and from TaskFaultLimit. -/
def execTaskFault (dt n cause : Nat) (addr : U64) (s : State) : Host.Outcome State Fault Refusal :=
  let s := s.elapse dt
  atRes n 32 s (if !s.runsNow n then s
    else if cause = 1 ∨ cause = 2 then s.taskFault n cause addr.toNat else if cause = 3 then s.taskFault n 3 0 else s)

end Sys2Proof.Machine
end

