-- ==== Sys2Proof/Machine/AlarmRows.lean ====
section
/-!
DEFINITION. The rows of the alarm engine's scans (R219–R221, R228–R240, R247–R249, R272). What expires in a scan expires as part of
it: the row of an expiry is the scan in which the named thing expires.
-/
namespace Sys2Proof.Machine

/-! ## What is applied after a release -/

/-- The module whose engine evaluates by itself applies what its agreement frame carried (R248). -/
def State.alApplyDue (s : State) : State :=
  let (due, s) := s.alDue
  due.foldl (fun (s : State) w => s.alApply w.code w.op w.body w.session) s

/-- The follower applies the leader's commands (R248): one that waits here for its completion completes. -/
def State.alApplyFrame (s : State) (cmds : List (Nat × List Byte × Nat)) : State :=
  cmds.foldl (fun (s : State) (code, body, sid) =>
    let session : U32 := BitVec.ofNat 32 sid
    let own := s.al.waiting.find? (fun w => w.code == code && w.body == body && w.session == session)
    let s : State := match own with
      | some w => { s with al := { s.al with waiting := s.al.waiting.erase w } }
      | none => s
    s.alApply code (own.bind (·.op)) body session) s

/-! ## Scans -/

/-- A scan on the own snapshot, and what is applied after its release (R220, R248). Nothing where no scan falls due. -/
def State.ownScan (s : State) (mis : List (Nat × Nat)) : State :=
  let t := s.alarmScan mis
  if t.al.last = s.al.last then s else t.alApplyDue

/-- The scan that falls due now, if `f` finds in it, given the states before and after its evaluation, what the row names. -/
def State.scanIf (s : State) (f : State → State → Bool) : State :=
  let t := s.alarmScan []
  if t.al.last = s.al.last then s else if f s t then t.alApplyDue else s

/-- ALARM_SCAN (R220). `mis`: the units whose two evaluators differ, and in how many tries (R230). -/
def execAlarmScan (dt : Nat) (mis : List (Nat × Nat)) (s : State) : Host.Outcome State Fault Refusal :=
  .next ((s.elapse dt).ownScan mis)

/-- ALARM_AGREEMENT_FRAME (R248): the follower evaluates on the leader's snapshot and then applies its commands. -/
def execAlarmAgreementFrame (dt : Nat) (h : LaneHdr) (f : AlarmIn) (mis : List (Nat × Nat)) (s : State) :
    Host.Outcome State Fault Refusal :=
  execLane dt h (fun s =>
    if !s.scans || s.alOwn then s
    else (({ s with al := { s.al with frameSeq := some h.seq } }).alarmFollow f mis).alApplyFrame f.cmds) s

/-- The entry an exchange frame names. -/
def exchEntry : ExchIn → Nat
  | .signature _ _ => 0
  | .ask n => n
  | .answer n _ => n

/-- ALARM_EXCHANGE_FRAME (R249, R272). -/
def execAlarmExchangeFrame (dt : Nat) (h : LaneHdr) (x : ExchIn) (s : State) : Host.Outcome State Fault Refusal :=
  execLane dt h (fun s =>
    if 16384 ≤ exchEntry x then s
    else match x with
    | .signature k sig => s.alSigIn k sig
    | .ask n => s.alAnswer n
    | .answer n st => if s.al.half.isSome then (s.alBorrowed n st).alApplyDue else s) s

/-- ON_DELAY_EXPIRY (R229): the scan in which the entry becomes ACTIVE. -/
def execOnDelayExpiry (dt n : Nat) (s : State) : Host.Outcome State Fault Refusal :=
  atRes n 16384 (s.elapse dt) ((s.elapse dt).scanIf (fun s t => !(s.alEnt n).active && (t.alEnt n).active))

/-- OFF_DELAY_EXPIRY (R229): the scan in which the entry returns or latches; a suppressed entry does neither. -/
def execOffDelayExpiry (dt n : Nat) (s : State) : Host.Outcome State Fault Refusal :=
  atRes n 16384 (s.elapse dt) ((s.elapse dt).scanIf (fun s t =>
    (s.alEnt n).active && !(t.alEnt n).suppressed &&
      (!(t.alEnt n).active || (!(s.alEnt n).latched && (t.alEnt n).latched))))

/-- RATE_WINDOW_END (R228): the scan in which RatePhase reaches RateWindow. -/
def execRateWindowEnd (dt n : Nat) (s : State) : Host.Outcome State Fault Refusal :=
  atRes n 16384 (s.elapse dt) ((s.elapse dt).scanIf (fun s t =>
    let e := s.entry 0x0001 n
    alOn e && (alType e == 5 || alType e == 6) && (s.alEnt n).based && !(t.alEnt n).invalid &&
      decide (fld e 0x1C 0 16 ≤ (s.alEnt n).ratePhase + 1)))

/-- SHELVE_EXPIRY (R236): the scan in which ShelveLeft reaches 0. -/
def execShelveExpiry (dt n : Nat) (s : State) : Host.Outcome State Fault Refusal :=
  atRes n 16384 (s.elapse dt) ((s.elapse dt).scanIf (fun s t => (s.alEnt n).shelved && !(t.alEnt n).shelved))

/-- RELEASE_DELAY_EXPIRY (R232): the scan in which a group's suppression ends. -/
def execReleaseDelayExpiry (dt g : Nat) (s : State) : Host.Outcome State Fault Refusal :=
  atRes g 512 (s.elapse dt) ((s.elapse dt).scanIf (fun s t =>
    (tget s.al.grp g {}).suppressed && !(tget t.al.grp g {}).suppressed))

/-- RUNG_TIME_EXPIRY (R240 step 3): the scan in which RungLeft reaches 0 and the ladder advances. -/
def execRungTimeExpiry (dt : Nat) (s : State) : Host.Outcome State Fault Refusal :=
  .next ((s.elapse dt).scanIf (fun s t =>
    s.al.lad.state == 1 && decide (s.al.lad.left ≤ 1) && t.al.lad.state != 0 && t.al.lad.run == s.al.lad.run &&
      t.al.lad.rung != s.al.lad.rung))

/-- RUNG_REPEAT (R240 step 5): the scan in which RepeatPeriod is over. -/
def execRungRepeat (dt : Nat) (s : State) : Host.Outcome State Fault Refusal :=
  .next ((s.elapse dt).scanIf (fun s t =>
    let p := s.rung s.al.lad.rung 7 * 100
    s.al.lad.state != 0 && t.al.lad.run == s.al.lad.run && t.al.lad.rung == s.al.lad.rung && p != 0 &&
      t.al.lad.scans == s.al.lad.scans + 1 && t.al.lad.scans % p == 0))

/-- UNACK_REMINDER (R237): the scan in which the entry's UNACKED time reaches a multiple of UnackReminder. -/
def execUnackReminder (dt n : Nat) (s : State) : Host.Outcome State Fault Refusal :=
  atRes n 16384 (s.elapse dt) ((s.elapse dt).scanIf (fun s t =>
    let k := s.eff 0x06A1 * 100
    (t.alEnt n).unacked && k != 0 && (t.alEnt n).unackScans != 0 && (t.alEnt n).unackScans % k == 0))

/-- ALARM_FRAME_LATE (R249). -/
def execAlarmFrameLate (dt : Nat) (s : State) : Host.Outcome State Fault Refusal := .next (s.elapse dt).alarmLate

/-- ALARM_BORROW_TIMEOUT (R272). -/
def execAlarmBorrowTimeout (dt n : Nat) (s : State) : Host.Outcome State Fault Refusal :=
  let s := s.elapse dt
  let t := s.alBorrowLate n
  atRes n 16384 s (if s.al.half.isSome && t.al.half.isNone then t.alApplyDue else t)

end Sys2Proof.Machine
end

