-- ==== Sys2Proof/Machine/Forward.lean ====
section
/-!
DEFINITION. Mailbox requests forwarded to the partner and their responses (R69).
-/
namespace Sys2Proof.Machine

/-- The command of a code (R84), with what OPEN_SESSION and CAN_CANCEL take from the module's surroundings. -/
def anyCmd (sid : U32) (nonce : List Byte) (begun : Bool) (code : Nat) : Option Cmd :=
  ([identifyCmd, commandsListCmd, openSessionCmd sid nonce, closeSessionCmd, setKeyCmd, keyInfoCmd, subscribeCmd, completionReadCmd,
    paramReadCmd, paramWriteCmd, tableReadCmd, tableWriteCmd, commitConfigCmd, discardEditsCmd, configExportCmd, configImportCmd] ++
   [setModeCmd, restartCmd, roleSwapCmd, eventReadCmd, eventClearCmd, programLoadCmd, programSwitchCmd, valueWriteCmd, forceSetCmd,
    forceClearCmd, taskTriggerCmd, splitCmd, joinCmd, debugAttachCmd, debugDetachCmd, annexCmd, ledgerReadCmd] ++
   [alarmAckCmd, alarmShelveCmd, ladderAckCmd, journalReadCmd, archiveReadCmd, trendReadCmd, aiCalibrateCmd, aoTrimCmd, hartPassCmd,
    loopInjectCmd, loopCaptureCmd, canSendCmd, canCancelCmd begun, canRecoverCmd, panelUpdateCmd, timeAcceptCmd] ++
   [updateBeginCmd, updateBlockCmd, updateVerifyCmd, activateCmd, rollbackCmd]).find? (·.code == code)

/-- A forwarded request reaches this module (R69): it is checked and answered here, under this module's sessions, mode and role, and
the response goes back over the lanes. -/
def State.forwarded (s : State) (via : Via) (addr : U32) (port : U16) (d : List Byte) (sid : U32) (nonce : List Byte)
    (begun : Bool) : State :=
  if s.mailboxSilent || s.lockedOut via addr then s
  else if badFrame d then { s with mbx := { s.mbx with frameErr := s.mbx.frameErr + 1 } }
  else
    let r := { parseReq via addr port d with target := 1 }
    s.serveFrame ((anyCmd sid nonce begun r.code).getD identifyCmd) r

/-- The partner's response reaches the module that forwarded the request (R69): it is returned unchanged, and the mailbox is free. A
response that no longer has a waiting request is dropped, and nothing leaves while the Curator restarts (R95). -/
def State.forwardAnswer (s : State) (box : Nat) (d : List Byte) : State :=
  match (tget s.mbx.boxes box {}).fwd with
  | none => s
  | some f =>
    if beAt d 0x18 4 ≠ f.counter then s
    else
      let s := { s with mbx := { s.mbx with boxes := tmod s.mbx.boxes box {} (fun b => { b with fwd := none }) } }
      if s.mbx.restarting.isSome then s else s.emit (.mailbox f.via 47210 f.addr f.port.toNat d)

/-- MAILBOX_FORWARD_FRAME (R69). -/
def execMailboxForwardFrame (dt : Nat) (h : LaneHdr) (x : ForwardIn) (s : State) : Host.Outcome State Fault Refusal :=
  execLane dt h (fun s =>
    match x with
    | .request _ via addr port d sid nonce begun => s.forwarded via addr port d sid nonce begun
    | .response box d => s.forwardAnswer box d) s

end Sys2Proof.Machine
end

