-- ==== Sys2Proof/Machine/Flags.lean ====
section
/-!
DEFINITION. What the block shows of its state without being asked: the status LEDs of the front panel (R153, R524). The flags
that a row computes stand with that row's family.
-/
namespace Sys2Proof.Machine

/-- What a LED shows. -/
inductive Light where
  | off | lamp | green | amber | red | greenFlash | amberFlash | redFlash | greenFast | redFast | greenShort
deriving DecidableEq, Repr

/-- PWR, ROLE, RUN, FORCE, FAULT, SYNC (R153, R524); 200 ms of lamp test after the reset. -/
def State.leds (s : State) : List Light :=
  if s.mode = .m0 then List.replicate 6 .off
  else if s.mode = .m1 ∧ s.since s.mu.entryTick (200 * Config.ticksPerMs) = false then List.replicate 6 .lamp
  else
    let feeds := (s.sup.present.filter id).length
    let pwr : Light := if feeds = 2 then .green else if feeds = 1 then .greenFlash else .off
    let role : Light := match s.role with
      | .primary | .solo => .green | .standby => .amber | .isolated => .amberFlash | .none => .off
    let run : Light := match s.mode with
      | .m4 | .m5 | .m6 => .green | .m8 => .greenFlash | .m7 | .m9 => .greenFast | .m3 => .amber | .m2 => .amberFlash | _ => .off
    let force : Light := if s.tk.applied then .amber else if s.forceCount ≠ 0 then .amberFlash else .off
    let fault : Light := if s.mode = .m11 then .red else if s.mode = .m10 then .redFlash
      else if (tget s.ev.src 1 {}).latch then .redFast else .off
    let lanes := b2n s.pair.sl0.up + b2n s.pair.sl1.up
    let sync : Light :=
      if lanes = 0 then (if s.pair.heartbeat then .amberFlash else .off)
      else if lanes = 1 then .amber
      else if s.pair.joining || s.pair.resync then .greenFlash
      else if s.pair.sync then .green
      else .greenShort
    [pwr, role, run, force, fault, sync]

/-! ## Panel lines (R470, R471) -/

/-- What a panel line carries: nothing (high-impedance), GND, VPNL+ or VPNL−. -/
inductive PanelLine where
  | hiZ | gnd | plus | minus
deriving DecidableEq, Repr

/-- The unit drives its lines now (R470, R480, R483). -/
def State.panelLive (s : State) : Bool := s.panelDrives && s.pnl.owner && s.pnl.good == [true, true]

/-- The commons COM0–COM3 (R470). -/
def State.comLine (s : State) : PanelLine := if s.panelLive then .gnd else .hiZ

/-- Frame `f` of a waveform entry carries a level in [0, 18) ms on COM0 and COM2 in even frames and on COM1 and COM3 in odd ones, else in
[2, 20) ms (R471). -/
def levelTime (com f ms : Nat) : Bool := if com % 2 = f % 2 then decide (ms < 18) else decide (2 ≤ ms)

/-- The line of a segment (R470–R472, R479): the level of its entry's frame in the running update, and GND else. -/
def State.segLine (s : State) (k : Nat) : PanelLine :=
  if !s.panelLive then .hiZ
  else
    match (List.range 8).findSome? (fun r => (s.region r).run.bind (fun u =>
      (u.segs.find? (·.1 == k)).map (fun x => (u.start, x.2.1, x.2.2.1)))) with
    | none => .gnd
    | some (start, com, e) =>
      let f := s.now / 20000000
      if fld e 0x10 0 8 ≤ f - start ∨ !levelTime com f (s.now / 1000000 % 20) then .gnd
      else match bits e (2 * (f - start)) 2 with | 1 => .plus | 2 => .minus | _ => .gnd

end Sys2Proof.Machine
end

