-- ==== Sys2Proof/Machine/Dispatch.lean ====
section
/-!
DEFINITION. The effect of each command (one arm per row of the table).
-/
namespace Sys2Proof.Machine

/-- What a command does to everything but the queue. -/
def exec (i : Instr) (s : State) : Host.Outcome State Fault Refusal :=
  match i with
  | .identify dt p => Sys2Proof.Machine.execIdentify dt p s
  | .commandsList dt p => Sys2Proof.Machine.execCommandsList dt p s
  | .openSession dt p sid nonce => Sys2Proof.Machine.execOpenSession dt p sid nonce s
  | .closeSession dt p => Sys2Proof.Machine.execCloseSession dt p s
  | .setKey dt p => Sys2Proof.Machine.execSetKey dt p s
  | .keyInfo dt p => Sys2Proof.Machine.execKeyInfo dt p s
  | .subscribe dt p => Sys2Proof.Machine.execSubscribe dt p s
  | .completionRead dt p => Sys2Proof.Machine.execCompletionRead dt p s
  | .paramRead dt p => Sys2Proof.Machine.execParamRead dt p s
  | .paramWrite dt p => Sys2Proof.Machine.execParamWrite dt p s
  | .tableRead dt p => Sys2Proof.Machine.execTableRead dt p s
  | .tableWrite dt p => Sys2Proof.Machine.execTableWrite dt p s
  | .commitConfig dt p => Sys2Proof.Machine.execCommitConfig dt p s
  | .commitConfigDone dt => Sys2Proof.Machine.execCommitConfigDone dt s
  | .discardEdits dt p => Sys2Proof.Machine.execDiscardEdits dt p s
  | .configExport dt p => Sys2Proof.Machine.execConfigExport dt p s
  | .configImport dt p => Sys2Proof.Machine.execConfigImport dt p s
  | .setMode dt p => Sys2Proof.Machine.execSetMode dt p s
  | .restart dt p => Sys2Proof.Machine.execRestart dt p s
  | .roleSwap dt p => Sys2Proof.Machine.execRoleSwap dt p s
  | .eventRead dt p => Sys2Proof.Machine.execEventRead dt p s
  | .eventClear dt p => Sys2Proof.Machine.execEventClear dt p s
  | .programLoad dt p => Sys2Proof.Machine.execProgramLoad dt p s
  | .programSwitch dt p => Sys2Proof.Machine.execProgramSwitch dt p s
  | .programSwitchGap dt => Sys2Proof.Machine.execProgramSwitchGap dt s
  | .valueWrite dt p => Sys2Proof.Machine.execValueWrite dt p s
  | .valueWriteApply dt task => Sys2Proof.Machine.execValueWriteApply dt task s
  | .forceSet dt p => Sys2Proof.Machine.execForceSet dt p s
  | .forceClear dt p => Sys2Proof.Machine.execForceClear dt p s
  | .taskTrigger dt p => Sys2Proof.Machine.execTaskTrigger dt p s
  | .split dt p => Sys2Proof.Machine.execSplit dt p s
  | .splitDrainInstant dt pair => Sys2Proof.Machine.execSplitDrainInstant dt pair s
  | .splitDrainTimeout dt pair => Sys2Proof.Machine.execSplitDrainTimeout dt pair s
  | .join dt p => Sys2Proof.Machine.execJoin dt p s
  | .joinLoadDone dt pair => Sys2Proof.Machine.execJoinLoadDone dt pair s
  | .debugAttach dt p => Sys2Proof.Machine.execDebugAttach dt p s
  | .debugDetach dt p => Sys2Proof.Machine.execDebugDetach dt p s
  | .debugReadRegisters dt p count => Sys2Proof.Machine.execDebugReadRegisters dt p count s
  | .debugWriteRegister dt p reg val => Sys2Proof.Machine.execDebugWriteRegister dt p reg val s
  | .debugReadMemory dt p area task addr len => Sys2Proof.Machine.execDebugReadMemory dt p area task addr len s
  | .debugWriteMemory dt p area task addr bytes => Sys2Proof.Machine.execDebugWriteMemory dt p area task addr bytes s
  | .debugBreakpoint dt p addr on => Sys2Proof.Machine.execDebugBreakpoint dt p addr on s
  | .debugHalt dt p => Sys2Proof.Machine.execDebugHalt dt p s
  | .debugResume dt p => Sys2Proof.Machine.execDebugResume dt p s
  | .debugStep dt p regs => Sys2Proof.Machine.execDebugStep dt p regs s
  | .debugTracepoint dt p addr on => Sys2Proof.Machine.execDebugTracepoint dt p addr on s
  | .annexMigrate dt p => Sys2Proof.Machine.execAnnexMigrate dt p s
  | .annexRotate dt p => Sys2Proof.Machine.execAnnexRotate dt p s
  | .ledgerRead dt p => Sys2Proof.Machine.execLedgerRead dt p s
  | .alarmAck dt p => Sys2Proof.Machine.execAlarmAck dt p s
  | .alarmShelve dt p => Sys2Proof.Machine.execAlarmShelve dt p s
  | .alarmUnshelve dt p => Sys2Proof.Machine.execAlarmUnshelve dt p s
  | .ladderAck dt p => Sys2Proof.Machine.execLadderAck dt p s
  | .journalRead dt p => Sys2Proof.Machine.execJournalRead dt p s
  | .archiveRead dt p => Sys2Proof.Machine.execArchiveRead dt p s
  | .trendRead dt p => Sys2Proof.Machine.execTrendRead dt p s
  | .aiCalibrate dt p => Sys2Proof.Machine.execAiCalibrate dt p s
  | .converterCalibrationDone dt conv offsets gains => Sys2Proof.Machine.execConverterCalibrationDone dt conv offsets gains s
  | .aoTrimHold4 dt p => Sys2Proof.Machine.execAoTrimHold4 dt p s
  | .aoTrimHold20 dt p => Sys2Proof.Machine.execAoTrimHold20 dt p s
  | .aoTrimRecord4 dt p => Sys2Proof.Machine.execAoTrimRecord4 dt p s
  | .aoTrimRecord20 dt p => Sys2Proof.Machine.execAoTrimRecord20 dt p s
  | .aoTrimStore dt p => Sys2Proof.Machine.execAoTrimStore dt p s
  | .aoTrimRelease dt p => Sys2Proof.Machine.execAoTrimRelease dt p s
  | .aoTrimClear dt p => Sys2Proof.Machine.execAoTrimClear dt p s
  | .hartPass dt p => Sys2Proof.Machine.execHartPass dt p s
  | .loopInjectStart dt p => Sys2Proof.Machine.execLoopInjectStart dt p s
  | .loopInjectStop dt p => Sys2Proof.Machine.execLoopInjectStop dt p s
  | .loopCaptureArm dt p => Sys2Proof.Machine.execLoopCaptureArm dt p s
  | .loopCaptureCancel dt p => Sys2Proof.Machine.execLoopCaptureCancel dt p s
  | .loopCaptureRead dt p => Sys2Proof.Machine.execLoopCaptureRead dt p s
  | .canSend dt p => Sys2Proof.Machine.execCanSend dt p s
  | .canCancel dt p begun => Sys2Proof.Machine.execCanCancel dt p begun s
  | .canRecover dt p => Sys2Proof.Machine.execCanRecover dt p s
  | .panelUpdate dt p => Sys2Proof.Machine.execPanelUpdate dt p s
  | .panelRefresh dt p => Sys2Proof.Machine.execPanelRefresh dt p s
  | .timeAcceptStep dt p => Sys2Proof.Machine.execTimeAcceptStep dt p s
  | .updateBegin dt p => Sys2Proof.Machine.execUpdateBegin dt p s
  | .updateAbandon dt p => Sys2Proof.Machine.execUpdateAbandon dt p s
  | .updateBlock dt p => Sys2Proof.Machine.execUpdateBlock dt p s
  | .updateVerify dt p => Sys2Proof.Machine.execUpdateVerify dt p s
  | .updateVerifyDone dt slot => Sys2Proof.Machine.execUpdateVerifyDone dt slot s
  | .updateIdleTimeout dt slot => Sys2Proof.Machine.execUpdateIdleTimeout dt slot s
  | .activate dt p => Sys2Proof.Machine.execActivate dt p s
  | .firmwareReady dt => Sys2Proof.Machine.execFirmwareReady dt s
  | .activationFailure dt => Sys2Proof.Machine.execActivationFailure dt s
  | .activationDeadline dt => Sys2Proof.Machine.execActivationDeadline dt s
  | .rollback dt p => Sys2Proof.Machine.execRollback dt p s
  | .seqGo dt w => Sys2Proof.Machine.execSeqGo dt w s
  | .goAll dt w => Sys2Proof.Machine.execGoAll dt w s
  | .seqStop dt w => Sys2Proof.Machine.execSeqStop dt w s
  | .slotSwap dt w => Sys2Proof.Machine.execSlotSwap dt w s
  | .slotTableSwapApply dt => Sys2Proof.Machine.execSlotTableSwapApply dt s
  | .doFaultClear dt w => Sys2Proof.Machine.execDoFaultClear dt w s
  | .arbFreeze dt w => Sys2Proof.Machine.execArbFreeze dt w s
  | .forwardTimeout dt mailbox => Sys2Proof.Machine.execForwardTimeout dt mailbox s
  | .reassemblyTimeout dt => Sys2Proof.Machine.execReassemblyTimeout dt s
  | .sessionIdleExpiry dt session => Sys2Proof.Machine.execSessionIdleExpiry dt session s
  | .authLockoutEnd dt via addr => Sys2Proof.Machine.execAuthLockoutEnd dt via addr s
  | .notifyHoldEnd dt session ev => Sys2Proof.Machine.execNotifyHoldEnd dt session ev s
  | .powerApplied dt feeds ohms => Sys2Proof.Machine.execPowerApplied dt feeds ohms s
  | .selftestComplete dt r => Sys2Proof.Machine.execSelftestComplete dt r s
  | .switchInstant dt => Sys2Proof.Machine.execSwitchInstant dt s
  | .m3ShareEvaluation dt => Sys2Proof.Machine.execM3ShareEvaluation dt s
  | .holdLimitExpiry dt => Sys2Proof.Machine.execHoldLimitExpiry dt s
  | .curatorRestart dt cause => Sys2Proof.Machine.execCuratorRestart dt cause s
  | .curatorRestartDone dt => Sys2Proof.Machine.execCuratorRestartDone dt s
  | .watchdogExpiry dt => Sys2Proof.Machine.execWatchdogExpiry dt s
  | .powerFailDetected dt => Sys2Proof.Machine.execPowerFailDetected dt s
  | .feedLoss dt feed volt => Sys2Proof.Machine.execFeedLoss dt feed volt s
  | .feedReturnDuringSave dt feed => Sys2Proof.Machine.execFeedReturnDuringSave dt feed s
  | .holdupEnd dt => Sys2Proof.Machine.execHoldupEnd dt s
  | .periodicRetainSave dt => Sys2Proof.Machine.execPeriodicRetainSave dt s
  | .retainSaveTimeout dt => Sys2Proof.Machine.execRetainSaveTimeout dt s
  | .taskDueStart dt task => Sys2Proof.Machine.execTaskDueStart dt task s
  | .repeatFrameSend dt task => Sys2Proof.Machine.execRepeatFrameSend dt task s
  | .sliceLoad dt task => Sys2Proof.Machine.execSliceLoad dt task s
  | .taskClose dt task c => Sys2Proof.Machine.execTaskClose dt task c s
  | .cycleRelease dt task osn => Sys2Proof.Machine.execCycleRelease dt task osn s
  | .digestWaitExpiry dt task osn => Sys2Proof.Machine.execDigestWaitExpiry dt task osn s
  | .taskFault dt task cause addr => Sys2Proof.Machine.execTaskFault dt task cause addr s
  | .lockstepMismatch dt unit kind lane running saving committed => Sys2Proof.Machine.execLockstepMismatch dt unit kind lane running saving committed s
  | .recoveryRunStart dt task => Sys2Proof.Machine.execRecoveryRunStart dt task s
  | .injectionTest dt pair passed => Sys2Proof.Machine.execInjectionTest dt pair passed s
  | .injectionRetest dt pair passed => Sys2Proof.Machine.execInjectionRetest dt pair passed s
  | .signatureWindowClose dt unit count first sigA sigB => Sys2Proof.Machine.execSignatureWindowClose dt unit count first sigA sigB s
  | .agreedInputFrame dt h f => Sys2Proof.Machine.execAgreedInputFrame dt h f s
  | .digestFrame dt h f => Sys2Proof.Machine.execDigestFrame dt h f s
  | .withheldMarker dt h task cause osn => Sys2Proof.Machine.execWithheldMarker dt h task cause osn s
  | .loopAgreementFrame dt h lsn time members mis => Sys2Proof.Machine.execLoopAgreementFrame dt h lsn time members mis s
  | .loopAnswerFrame dt h lsn record value states => Sys2Proof.Machine.execLoopAnswerFrame dt h lsn record value states s
  | .alarmAgreementFrame dt h f mis => Sys2Proof.Machine.execAlarmAgreementFrame dt h f mis s
  | .alarmExchangeFrame dt h f => Sys2Proof.Machine.execAlarmExchangeFrame dt h f s
  | .retainedHashFrame dt h task osn sum => Sys2Proof.Machine.execRetainedHashFrame dt h task osn sum s
  | .copyDataFrame dt h items => Sys2Proof.Machine.execCopyDataFrame dt h items s
  | .switchAnnouncement dt h a => Sys2Proof.Machine.execSwitchAnnouncement dt h a s
  | .departureNotice dt h f => Sys2Proof.Machine.execDepartureNotice dt h f s
  | .commandRelay dt h c => Sys2Proof.Machine.execCommandRelay dt h c s
  | .pairCommandApply dt => Sys2Proof.Machine.execPairCommandApply dt s
  | .voidNotice dt h first count => Sys2Proof.Machine.execVoidNotice dt h first count s
  | .stationStateAnnouncement dt h at_ slot st rev period => Sys2Proof.Machine.execStationStateAnnouncement dt h at_ slot st rev period s
  | .timeCorrectionAnnouncement dt h f c cause => Sys2Proof.Machine.execTimeCorrectionAnnouncement dt h f c cause s
  | .panelStartAnnouncement dt h region band start picture refresh => Sys2Proof.Machine.execPanelStartAnnouncement dt h region band start picture refresh s
  | .mailboxForwardFrame dt h x => Sys2Proof.Machine.execMailboxForwardFrame dt h x s
  | .accessionFrame dt h a => Sys2Proof.Machine.execAccessionFrame dt h a s
  | .statusFrame dt h x => Sys2Proof.Machine.execStatusFrame dt h x s
  | .syncLaneDown dt lane cause => Sys2Proof.Machine.execSyncLaneDown dt lane cause s
  | .syncLaneUp dt lane => Sys2Proof.Machine.execSyncLaneUp dt lane s
  | .partnerHeartbeatLost dt => Sys2Proof.Machine.execPartnerHeartbeatLost dt s
  | .partnerHeartbeatPresent dt => Sys2Proof.Machine.execPartnerHeartbeatPresent dt s
  | .isolatingPatternSeen dt => Sys2Proof.Machine.execIsolatingPatternSeen dt s
  | .isolationF1 dt => Sys2Proof.Machine.execIsolationF1 dt s
  | .departureF dt => Sys2Proof.Machine.execDepartureF dt s
  | .copyComplete dt => Sys2Proof.Machine.execCopyComplete dt s
  | .copyTimeout dt => Sys2Proof.Machine.execCopyTimeout dt s
  | .soakExpiry dt => Sys2Proof.Machine.execSoakExpiry dt s
  | .alarmScan dt mis => Sys2Proof.Machine.execAlarmScan dt mis s
  | .onDelayExpiry dt entry => Sys2Proof.Machine.execOnDelayExpiry dt entry s
  | .offDelayExpiry dt entry => Sys2Proof.Machine.execOffDelayExpiry dt entry s
  | .rateWindowEnd dt entry => Sys2Proof.Machine.execRateWindowEnd dt entry s
  | .shelveExpiry dt entry => Sys2Proof.Machine.execShelveExpiry dt entry s
  | .releaseDelayExpiry dt group => Sys2Proof.Machine.execReleaseDelayExpiry dt group s
  | .rungTimeExpiry dt => Sys2Proof.Machine.execRungTimeExpiry dt s
  | .rungRepeat dt => Sys2Proof.Machine.execRungRepeat dt s
  | .unackReminder dt entry => Sys2Proof.Machine.execUnackReminder dt entry s
  | .alarmFrameLate dt => Sys2Proof.Machine.execAlarmFrameLate dt s
  | .alarmBorrowTimeout dt entry => Sys2Proof.Machine.execAlarmBorrowTimeout dt entry s
  | .callAckMessage dt p => Sys2Proof.Machine.execCallAckMessage dt p s
  | .journalFlashWrite dt n => Sys2Proof.Machine.execJournalFlashWrite dt n s
  | .loopTrigger dt record => Sys2Proof.Machine.execLoopTrigger dt record s
  | .loopEvaluation dt record mis => Sys2Proof.Machine.execLoopEvaluation dt record mis s
  | .loopSignatureExchange dt sig => Sys2Proof.Machine.execLoopSignatureExchange dt sig s
  | .loopBorrowTimeout dt => Sys2Proof.Machine.execLoopBorrowTimeout dt s
  | .injectionEnd dt gen => Sys2Proof.Machine.execInjectionEnd dt gen s
  | .migrationStart dt kind tests => Sys2Proof.Machine.execMigrationStart dt kind tests s
  | .dramCopyComplete dt => Sys2Proof.Machine.execDramCopyComplete dt s
  | .flashBlockCopyDone dt block target => Sys2Proof.Machine.execFlashBlockCopyDone dt block target s
  | .spoilArrival dt kind resource epoch => Sys2Proof.Machine.execSpoilArrival dt kind resource epoch s
  | .recalRotationStart dt => Sys2Proof.Machine.execRecalRotationStart dt s
  | .standinCalibrationDone dt offsets gains => Sys2Proof.Machine.execStandinCalibrationDone dt offsets gains s
  | .shadowPassDone dt => Sys2Proof.Machine.execShadowPassDone dt s
  | .dramEccError dt device corrected named task => Sys2Proof.Machine.execDramEccError dt device corrected named task s
  | .flashProgramFailure dt block erase => Sys2Proof.Machine.execFlashProgramFailure dt block erase s
  | .oscillatorFault dt osc stopped error spareError => Sys2Proof.Machine.execOscillatorFault dt osc stopped error spareError s
  | .spareSelfTest dt resource pass => Sys2Proof.Machine.execSpareSelfTest dt resource pass s
  | .ledgerWrite dt => Sys2Proof.Machine.execLedgerWrite dt s
  | .regionFault dt a => Sys2Proof.Machine.execRegionFault dt a s
  | .colourViolation dt a => Sys2Proof.Machine.execColourViolation dt a s
  | .regionOverlap dt ctx regions parity a => Sys2Proof.Machine.execRegionOverlap dt ctx regions parity a s
  | .sealedAccess dt ctx region value => Sys2Proof.Machine.execSealedAccess dt ctx region value s
  | .arbitrationGrant dt waiting moved => Sys2Proof.Machine.execArbitrationGrant dt waiting moved s
  | .budgetFrameStart dt moved => Sys2Proof.Machine.execBudgetFrameStart dt moved s
  | .budgetCutoff dt rq => Sys2Proof.Machine.execBudgetCutoff dt rq s
  | .converterResult dt conv c => Sys2Proof.Machine.execConverterResult dt conv c s
  | .excitationSwap dt channel e => Sys2Proof.Machine.execExcitationSwap dt channel e s
  | .cmMeasurement dt channel mv => Sys2Proof.Machine.execCmMeasurement dt channel mv s
  | .driftComparison dt channel => Sys2Proof.Machine.execDriftComparison dt channel s
  | .stageMeasurement dt stage m => Sys2Proof.Machine.execStageMeasurement dt stage m s
  | .aoDebounceExpiry dt stage => Sys2Proof.Machine.execAoDebounceExpiry dt stage s
  | .stageSupplyFault dt stage => Sys2Proof.Machine.execStageSupplyFault dt stage s
  | .stageThermalLimit dt stage junction => Sys2Proof.Machine.execStageThermalLimit dt stage junction s
  | .hartPollDue dt modem => Sys2Proof.Machine.execHartPollDue dt modem s
  | .hartResponse dt modem r => Sys2Proof.Machine.execHartResponse dt modem r s
  | .hartResponseTimeout dt modem => Sys2Proof.Machine.execHartResponseTimeout dt modem s
  | .hartBurstFrame dt modem r => Sys2Proof.Machine.execHartBurstFrame dt modem r s
  | .hartIdentifyRetry dt modem => Sys2Proof.Machine.execHartIdentifyRetry dt modem s
  | .diEdgeConfirmed dt input raw => Sys2Proof.Machine.execDiEdgeConfirmed dt input raw s
  | .chatterSecondEnd dt => Sys2Proof.Machine.execChatterSecondEnd dt s
  | .wireBreakTimeout dt input ua => Sys2Proof.Machine.execWireBreakTimeout dt input ua s
  | .sensorSupplyLost dt group volt => Sys2Proof.Machine.execSensorSupplyLost dt group volt s
  | .sensorSupplyRecovered dt group volt => Sys2Proof.Machine.execSensorSupplyRecovered dt group volt s
  | .doOvercurrent dt output => Sys2Proof.Machine.execDoOvercurrent dt output s
  | .doThermalShutdown dt output => Sys2Proof.Machine.execDoThermalShutdown dt output s
  | .doRetry dt output junction => Sys2Proof.Machine.execDoRetry dt output junction s
  | .doFaultFreeSecond dt output => Sys2Proof.Machine.execDoFaultFreeSecond dt output s
  | .doReadbackMismatch dt output level => Sys2Proof.Machine.execDoReadbackMismatch dt output level s
  | .fieldSupplyLost dt feed volt => Sys2Proof.Machine.execFieldSupplyLost dt feed volt s
  | .fieldSupplyRestored dt feed volt => Sys2Proof.Machine.execFieldSupplyRestored dt feed volt s
  | .callOutputFault dt line cause level => Sys2Proof.Machine.execCallOutputFault dt line cause level s
  | .callRetry dt line junction => Sys2Proof.Machine.execCallRetry dt line junction s
  | .ackEdge dt input => Sys2Proof.Machine.execAckEdge dt input s
  | .phaseEdge dt ref e => Sys2Proof.Machine.execPhaseEdge dt ref e s
  | .phaseUnlockTimeout dt ref => Sys2Proof.Machine.execPhaseUnlockTimeout dt ref s
  | .catalogueEntryFire dt entry => Sys2Proof.Machine.execCatalogueEntryFire dt entry s
  | .catalogueDeferredFire dt => Sys2Proof.Machine.execCatalogueDeferredFire dt s
  | .pnLinkDown dt port => Sys2Proof.Machine.execPnLinkDown dt port s
  | .prpLanDown dt lan => Sys2Proof.Machine.execPrpLanDown dt lan s
  | .servicePortLink dt up => Sys2Proof.Machine.execServicePortLink dt up s
  | .arpAnnounce dt ifc => Sys2Proof.Machine.execArpAnnounce dt ifc s
  | .duplicateAddress dt ifc mac => Sys2Proof.Machine.execDuplicateAddress dt ifc mac s
  | .addressConflictClear dt ifc => Sys2Proof.Machine.execAddressConflictClear dt ifc s
  | .inputFrame dt src lan dup bytes => Sys2Proof.Machine.execInputFrame dt src lan dup bytes s
  | .stationAnswer dt src bytes => Sys2Proof.Machine.execStationAnswer dt src bytes s
  | .accessionRetry dt slot => Sys2Proof.Machine.execAccessionRetry dt slot s
  | .stationTimeout dt slot => Sys2Proof.Machine.execStationTimeout dt slot s
  | .ptpSync dt port offset => Sys2Proof.Machine.execPtpSync dt port offset s
  | .ptpAnnounce dt port a => Sys2Proof.Machine.execPtpAnnounce dt port a s
  | .ptpTimeout dt port => Sys2Proof.Machine.execPtpTimeout dt port s
  | .timeCorrectionApply dt => Sys2Proof.Machine.execTimeCorrectionApply dt s
  | .slewEnd dt => Sys2Proof.Machine.execSlewEnd dt s
  | .canFrameReceived dt channel id data => Sys2Proof.Machine.execCanFrameReceived dt channel id data s
  | .canFrameSent dt channel buffer sof => Sys2Proof.Machine.execCanFrameSent dt channel buffer sof s
  | .canBusError dt channel tec rec_ code => Sys2Proof.Machine.execCanBusError dt channel tec rec_ code s
  | .canRecoveryDone dt channel => Sys2Proof.Machine.execCanRecoveryDone dt channel s
  | .canTxTimeout dt channel buffer => Sys2Proof.Machine.execCanTxTimeout dt channel buffer s
  | .panelFrame dt => Sys2Proof.Machine.execPanelFrame dt s
  | .panelUpdateEnd dt region => Sys2Proof.Machine.execPanelUpdateEnd dt region s
  | .panelTemperatureRead dt => Sys2Proof.Machine.execPanelTemperatureRead dt s
  | .blinkHalf dt => Sys2Proof.Machine.execBlinkHalf dt s
  | .panelRailFault dt rail volt => Sys2Proof.Machine.execPanelRailFault dt rail volt s
  | .panelRailGood dt rail volt => Sys2Proof.Machine.execPanelRailGood dt rail volt s
  | .archiveFlashWrite dt n => Sys2Proof.Machine.execArchiveFlashWrite dt n s
  | .trendSample dt channel => Sys2Proof.Machine.execTrendSample dt channel s
  | .ioBusFrameBoundary dt readback => Sys2Proof.Machine.execIoBusFrameBoundary dt readback s
  | .pnLinkUp dt port speed fibre => Sys2Proof.Machine.execPnLinkUp dt port speed fibre s
  | .feedRestored dt feed => Sys2Proof.Machine.execFeedRestored dt feed s
  | .holdupBankCharged dt => Sys2Proof.Machine.execHoldupBankCharged dt s
  | .curatorDiagnosticUpdate dt d => Sys2Proof.Machine.execCuratorDiagnosticUpdate dt d s
  | .takebackRetry dt => Sys2Proof.Machine.execTakebackRetry dt s
  | .dramCeWindowRestart dt => Sys2Proof.Machine.execDramCeWindowRestart dt s
  | .stageHotHour dt stage => Sys2Proof.Machine.execStageHotHour dt stage s
  | .phaseExtrapolation dt ref => Sys2Proof.Machine.execPhaseExtrapolation dt ref s
  | .diFilterSample dt input raw => Sys2Proof.Machine.execDiFilterSample dt input raw s
  | .diRawTransition dt input level => Sys2Proof.Machine.execDiRawTransition dt input level s
  | .doReadbackFaultClear dt output level => Sys2Proof.Machine.execDoReadbackFaultClear dt output level s
  | .ptpDelayResponse dt port delay => Sys2Proof.Machine.execPtpDelayResponse dt port delay s

end Sys2Proof.Machine
end

