-- ==== Sys2Proof/Safety.lean ====
section
/-!
DEFINITION. The terms in which claims about a run are stated: what a command may change, the invariant of the module, when a
request is accepted, and what an answer and an event occurrence are.
-/
namespace Sys2Proof.Machine

/-! ## What a command may change -/

/-- The parts of the state a command may change. -/
inductive Part where
  /-- PowerCycleCount (R105). -/
  | cycles
  /-- FirmwareRelease (R9). -/
  | release
  /-- The time base and the PTP servo (R445–R455), beyond the ticks that pass. -/
  | clk
  /-- Modes and roles (R35–R45). -/
  | mu
  /-- The configuration store (R47, R64). -/
  | store
  /-- The working image (R47). -/
  | working
  /-- The set in effect and what is about to change it (R48–R51, R58). -/
  | effect
  /-- Exports and the import under way (R54). -/
  | transfer
  /-- The level keys (R72). -/
  | keys
  /-- Running asynchronous operations (R81). -/
  | ops
  /-- Pair-effective commands that wait for their boundary or outcome (R83). -/
  | agreed
  /-- The trend store (R108–R111). -/
  | trend
  /-- What the Archive holds on flash (R489, R502). -/
  | archive
  /-- The process image (R121). -/
  | pts
  /-- The pair (R255–R289), but for the SyncSeq of the next frame sent. -/
  | pair
  /-- Program slots, the running program and a switch (R122, R157–R160). -/
  | program
  /-- The force list (R150, R151). -/
  | forces
  /-- The tasks (R124–R155). -/
  | tasks
  /-- Retained data (R61). -/
  | ret
  /-- Phase unit and catalogue (R162–R192). -/
  | ph
  /-- Loop engine (R193–R218). -/
  | loop
  /-- Alarm engine and ladder (R219–R249). -/
  | alarm
  /-- The alarm journal (R250–R253). -/
  | journal
  /-- Core pairs, the debugger and the signature windows (R291–R311). -/
  | lockstep
  /-- Memory and registers as the debugger sees them (R306, R309). -/
  | dram
  /-- The Annex and the Ledger (R313–R330). -/
  | annex
  /-- Regions, colours, budgets, slot tables (R331–R356). -/
  | prot
  /-- Analogue inputs (R357–R386). -/
  | ai
  /-- Loop outputs and HART (R387–R411). -/
  | ao
  /-- Digital inputs, outputs, call and acknowledge block (R412–R431). -/
  | dio
  /-- Plant network and stations (R432–R444). -/
  | net
  /-- CAN channels (R458–R469). -/
  | can
  /-- The panel drive (R470–R487). -/
  | pnl
  /-- Firmware slots (R504–R518). -/
  | fw
  /-- The supply (R527, R537, R543). -/
  | sup
deriving DecidableEq, Repr

/-- A part reads the same in two states. -/
def Part.same (s t : State) : Part → Prop
  | .cycles => t.ident.powerCycles = s.ident.powerCycles
  | .release => t.ident.fwRelease = s.ident.fwRelease
  | .clk => t.clk = s.clk
  | .mu => t.mu = s.mu
  | .store => t.cfg.committed = s.cfg.committed ∧ t.cfg.generation = s.cfg.generation ∧ t.cfg.older = s.cfg.older
  | .working => t.cfg.working = s.cfg.working
  | .effect =>
    t.cfg.base = s.cfg.base ∧ t.cfg.loaded = s.cfg.loaded ∧ t.cfg.state = s.cfg.state ∧
    t.cfg.migratedFrom = s.cfg.migratedFrom ∧ t.cfg.dropCount = s.cfg.dropCount ∧ t.cfg.applyCommitted = s.cfg.applyCommitted ∧
    t.cfg.applyDiscard = s.cfg.applyDiscard ∧ t.cfg.liveTables = s.cfg.liveTables ∧ t.cfg.commit = s.cfg.commit ∧
    t.cfg.skipped = s.cfg.skipped
  | .transfer => t.cfg.exports = s.cfg.exports ∧ t.cfg.importing = s.cfg.importing
  | .keys => t.mbx.keys = s.mbx.keys
  | .ops => t.mbx.async = s.mbx.async ∧ t.mbx.nextOp = s.mbx.nextOp
  | .agreed => t.mbx.scheduled = s.mbx.scheduled ∧ t.mbx.relays = s.mbx.relays
  | .trend => t.trend = s.trend
  | .archive =>
    t.arch.tail = s.arch.tail ∧ t.arch.head = s.arch.head ∧ t.arch.flashed = s.arch.flashed ∧
    t.arch.wraps = s.arch.wraps ∧ t.arch.capacity = s.arch.capacity ∧ t.arch.headLost = s.arch.headLost ∧
    t.arch.rebuilds = s.arch.rebuilds ∧ t.arch.lastDown = s.arch.lastDown ∧ t.arch.prevHalt = s.arch.prevHalt
  | .pts => t.pts = s.pts
  | .pair => t.pair = { s.pair with seqOut := t.pair.seqOut }
  | .program =>
    t.tk.slotA = s.tk.slotA ∧ t.tk.slotB = s.tk.slotB ∧ t.tk.active = s.tk.active ∧
    t.tk.prog = s.tk.prog ∧ t.tk.loadNext = s.tk.loadNext ∧ t.tk.switch = s.tk.switch ∧
    t.tk.switches = s.tk.switches ∧ t.tk.changes = s.tk.changes
  | .forces => t.tk.forces = s.tk.forces ∧ t.tk.applied = s.tk.applied ∧ t.tk.peerForces = s.tk.peerForces
  | .tasks =>
    t.tk.task = s.tk.task ∧ t.tk.lastFault = s.tk.lastFault ∧ t.tk.restarts = s.tk.restarts ∧
    t.tk.dropped = s.tk.dropped ∧ t.tk.gap = s.tk.gap
  | .ret => t.ret = s.ret
  | .ph => t.ph = s.ph
  | .loop => t.loop = s.loop
  | .alarm =>
    t.al.ent = s.al.ent ∧ t.al.grp = s.al.grp ∧ t.al.lad = s.al.lad ∧
    t.al.clsActive = s.al.clsActive ∧ t.al.clsUnacked = s.al.clsUnacked ∧ t.al.scan = s.al.scan ∧
    t.al.last = s.al.last ∧ t.al.edges = s.al.edges ∧ t.al.scanMax = s.al.scanMax ∧
    t.al.mismatches = s.al.mismatches ∧ t.al.signature = s.al.signature ∧ t.al.follow = s.al.follow ∧
    t.al.invalids = s.al.invalids ∧ t.al.ackRefused = s.al.ackRefused ∧ t.al.noRung = s.al.noRung ∧
    t.al.waiting = s.al.waiting ∧ t.al.frameSeq = s.al.frameSeq ∧ t.al.half = s.al.half ∧
    t.al.behind = s.al.behind
  | .journal =>
    t.al.jnext = s.al.jnext ∧ t.al.ring = s.al.ring ∧ t.al.jbehind = s.al.jbehind ∧
    t.al.flash = s.al.flash ∧ t.al.flashed = s.al.flashed ∧ t.al.lost = s.al.lost ∧
    t.al.lostPending = s.al.lostPending
  | .lockstep => t.lk.pair = s.lk.pair ∧ t.lk.debugger = s.lk.debugger ∧ t.lk.window = s.lk.window
  | .dram => t.lk.dram = s.lk.dram ∧ t.lk.regs = s.lk.regs ∧ t.lk.writes = s.lk.writes
  | .annex => t.annex = s.annex
  | .prot => t.prot = s.prot
  | .ai => t.ai = s.ai
  | .ao => t.ao = s.ao
  | .dio => t.dio = s.dio
  | .net => t.net = s.net
  | .can => t.can = s.can
  | .pnl => t.pnl = s.pnl
  | .fw => t.fw = s.fw
  | .sup => t.sup = s.sup

/-- The ticks that pass before a command. -/
def ticksOf : Instr → Nat
  | .identify dt _ => dt
  | .commandsList dt _ => dt
  | .openSession dt _ _ _ => dt
  | .closeSession dt _ => dt
  | .setKey dt _ => dt
  | .keyInfo dt _ => dt
  | .subscribe dt _ => dt
  | .completionRead dt _ => dt
  | .paramRead dt _ => dt
  | .paramWrite dt _ => dt
  | .tableRead dt _ => dt
  | .tableWrite dt _ => dt
  | .commitConfig dt _ => dt
  | .commitConfigDone dt => dt
  | .discardEdits dt _ => dt
  | .configExport dt _ => dt
  | .configImport dt _ => dt
  | .setMode dt _ => dt
  | .restart dt _ => dt
  | .roleSwap dt _ => dt
  | .eventRead dt _ => dt
  | .eventClear dt _ => dt
  | .programLoad dt _ => dt
  | .programSwitch dt _ => dt
  | .programSwitchGap dt => dt
  | .valueWrite dt _ => dt
  | .valueWriteApply dt _ => dt
  | .forceSet dt _ => dt
  | .forceClear dt _ => dt
  | .taskTrigger dt _ => dt
  | .split dt _ => dt
  | .splitDrainInstant dt _ => dt
  | .splitDrainTimeout dt _ => dt
  | .join dt _ => dt
  | .joinLoadDone dt _ => dt
  | .debugAttach dt _ => dt
  | .debugDetach dt _ => dt
  | .debugReadRegisters dt _ _ => dt
  | .debugWriteRegister dt _ _ _ => dt
  | .debugReadMemory dt _ _ _ _ _ => dt
  | .debugWriteMemory dt _ _ _ _ _ => dt
  | .debugBreakpoint dt _ _ _ => dt
  | .debugHalt dt _ => dt
  | .debugResume dt _ => dt
  | .debugStep dt _ _ => dt
  | .debugTracepoint dt _ _ _ => dt
  | .annexMigrate dt _ => dt
  | .annexRotate dt _ => dt
  | .ledgerRead dt _ => dt
  | .alarmAck dt _ => dt
  | .alarmShelve dt _ => dt
  | .alarmUnshelve dt _ => dt
  | .ladderAck dt _ => dt
  | .journalRead dt _ => dt
  | .archiveRead dt _ => dt
  | .trendRead dt _ => dt
  | .aiCalibrate dt _ => dt
  | .converterCalibrationDone dt _ _ _ => dt
  | .aoTrimHold4 dt _ => dt
  | .aoTrimHold20 dt _ => dt
  | .aoTrimRecord4 dt _ => dt
  | .aoTrimRecord20 dt _ => dt
  | .aoTrimStore dt _ => dt
  | .aoTrimRelease dt _ => dt
  | .aoTrimClear dt _ => dt
  | .hartPass dt _ => dt
  | .loopInjectStart dt _ => dt
  | .loopInjectStop dt _ => dt
  | .loopCaptureArm dt _ => dt
  | .loopCaptureCancel dt _ => dt
  | .loopCaptureRead dt _ => dt
  | .canSend dt _ => dt
  | .canCancel dt _ _ => dt
  | .canRecover dt _ => dt
  | .panelUpdate dt _ => dt
  | .panelRefresh dt _ => dt
  | .timeAcceptStep dt _ => dt
  | .updateBegin dt _ => dt
  | .updateAbandon dt _ => dt
  | .updateBlock dt _ => dt
  | .updateVerify dt _ => dt
  | .updateVerifyDone dt _ => dt
  | .updateIdleTimeout dt _ => dt
  | .activate dt _ => dt
  | .firmwareReady dt => dt
  | .activationFailure dt => dt
  | .activationDeadline dt => dt
  | .rollback dt _ => dt
  | .seqGo dt _ => dt
  | .goAll dt _ => dt
  | .seqStop dt _ => dt
  | .slotSwap dt _ => dt
  | .slotTableSwapApply dt => dt
  | .doFaultClear dt _ => dt
  | .arbFreeze dt _ => dt
  | .forwardTimeout dt _ => dt
  | .reassemblyTimeout dt => dt
  | .sessionIdleExpiry dt _ => dt
  | .authLockoutEnd dt _ _ => dt
  | .notifyHoldEnd dt _ _ => dt
  | .powerApplied dt _ _ => dt
  | .selftestComplete dt _ => dt
  | .switchInstant dt => dt
  | .m3ShareEvaluation dt => dt
  | .holdLimitExpiry dt => dt
  | .curatorRestart dt _ => dt
  | .curatorRestartDone dt => dt
  | .watchdogExpiry dt => dt
  | .powerFailDetected dt => dt
  | .feedLoss dt _ _ => dt
  | .feedReturnDuringSave dt _ => dt
  | .holdupEnd dt => dt
  | .periodicRetainSave dt => dt
  | .retainSaveTimeout dt => dt
  | .taskDueStart dt _ => dt
  | .repeatFrameSend dt _ => dt
  | .sliceLoad dt _ => dt
  | .taskClose dt _ _ => dt
  | .cycleRelease dt _ _ => dt
  | .digestWaitExpiry dt _ _ => dt
  | .taskFault dt _ _ _ => dt
  | .lockstepMismatch dt _ _ _ _ _ _ => dt
  | .recoveryRunStart dt _ => dt
  | .injectionTest dt _ _ => dt
  | .injectionRetest dt _ _ => dt
  | .signatureWindowClose dt _ _ _ _ _ => dt
  | .agreedInputFrame dt _ _ => dt
  | .digestFrame dt _ _ => dt
  | .withheldMarker dt _ _ _ _ => dt
  | .loopAgreementFrame dt _ _ _ _ _ => dt
  | .loopAnswerFrame dt _ _ _ _ _ => dt
  | .alarmAgreementFrame dt _ _ _ => dt
  | .alarmExchangeFrame dt _ _ => dt
  | .retainedHashFrame dt _ _ _ _ => dt
  | .copyDataFrame dt _ _ => dt
  | .switchAnnouncement dt _ _ => dt
  | .departureNotice dt _ _ => dt
  | .commandRelay dt _ _ => dt
  | .pairCommandApply dt => dt
  | .voidNotice dt _ _ _ => dt
  | .stationStateAnnouncement dt _ _ _ _ _ _ => dt
  | .timeCorrectionAnnouncement dt _ _ _ _ => dt
  | .panelStartAnnouncement dt _ _ _ _ _ _ => dt
  | .mailboxForwardFrame dt _ _ => dt
  | .accessionFrame dt _ _ => dt
  | .statusFrame dt _ _ => dt
  | .syncLaneDown dt _ _ => dt
  | .syncLaneUp dt _ => dt
  | .partnerHeartbeatLost dt => dt
  | .partnerHeartbeatPresent dt => dt
  | .isolatingPatternSeen dt => dt
  | .isolationF1 dt => dt
  | .departureF dt => dt
  | .copyComplete dt => dt
  | .copyTimeout dt => dt
  | .soakExpiry dt => dt
  | .alarmScan dt _ => dt
  | .onDelayExpiry dt _ => dt
  | .offDelayExpiry dt _ => dt
  | .rateWindowEnd dt _ => dt
  | .shelveExpiry dt _ => dt
  | .releaseDelayExpiry dt _ => dt
  | .rungTimeExpiry dt => dt
  | .rungRepeat dt => dt
  | .unackReminder dt _ => dt
  | .alarmFrameLate dt => dt
  | .alarmBorrowTimeout dt _ => dt
  | .callAckMessage dt _ => dt
  | .journalFlashWrite dt _ => dt
  | .loopTrigger dt _ => dt
  | .loopEvaluation dt _ _ => dt
  | .loopSignatureExchange dt _ => dt
  | .loopBorrowTimeout dt => dt
  | .injectionEnd dt _ => dt
  | .migrationStart dt _ _ => dt
  | .dramCopyComplete dt => dt
  | .flashBlockCopyDone dt _ _ => dt
  | .spoilArrival dt _ _ _ => dt
  | .recalRotationStart dt => dt
  | .standinCalibrationDone dt _ _ => dt
  | .shadowPassDone dt => dt
  | .dramEccError dt _ _ _ _ => dt
  | .flashProgramFailure dt _ _ => dt
  | .oscillatorFault dt _ _ _ _ => dt
  | .spareSelfTest dt _ _ => dt
  | .ledgerWrite dt => dt
  | .regionFault dt _ => dt
  | .colourViolation dt _ => dt
  | .regionOverlap dt _ _ _ _ => dt
  | .sealedAccess dt _ _ _ => dt
  | .arbitrationGrant dt _ _ => dt
  | .budgetFrameStart dt _ => dt
  | .budgetCutoff dt _ => dt
  | .converterResult dt _ _ => dt
  | .excitationSwap dt _ _ => dt
  | .cmMeasurement dt _ _ => dt
  | .driftComparison dt _ => dt
  | .stageMeasurement dt _ _ => dt
  | .aoDebounceExpiry dt _ => dt
  | .stageSupplyFault dt _ => dt
  | .stageThermalLimit dt _ _ => dt
  | .hartPollDue dt _ => dt
  | .hartResponse dt _ _ => dt
  | .hartResponseTimeout dt _ => dt
  | .hartBurstFrame dt _ _ => dt
  | .hartIdentifyRetry dt _ => dt
  | .diEdgeConfirmed dt _ _ => dt
  | .chatterSecondEnd dt => dt
  | .wireBreakTimeout dt _ _ => dt
  | .sensorSupplyLost dt _ _ => dt
  | .sensorSupplyRecovered dt _ _ => dt
  | .doOvercurrent dt _ => dt
  | .doThermalShutdown dt _ => dt
  | .doRetry dt _ _ => dt
  | .doFaultFreeSecond dt _ => dt
  | .doReadbackMismatch dt _ _ => dt
  | .fieldSupplyLost dt _ _ => dt
  | .fieldSupplyRestored dt _ _ => dt
  | .callOutputFault dt _ _ _ => dt
  | .callRetry dt _ _ => dt
  | .ackEdge dt _ => dt
  | .phaseEdge dt _ _ => dt
  | .phaseUnlockTimeout dt _ => dt
  | .catalogueEntryFire dt _ => dt
  | .catalogueDeferredFire dt => dt
  | .pnLinkDown dt _ => dt
  | .prpLanDown dt _ => dt
  | .servicePortLink dt _ => dt
  | .arpAnnounce dt _ => dt
  | .duplicateAddress dt _ _ => dt
  | .addressConflictClear dt _ => dt
  | .inputFrame dt _ _ _ _ => dt
  | .stationAnswer dt _ _ => dt
  | .accessionRetry dt _ => dt
  | .stationTimeout dt _ => dt
  | .ptpSync dt _ _ => dt
  | .ptpAnnounce dt _ _ => dt
  | .ptpTimeout dt _ => dt
  | .timeCorrectionApply dt => dt
  | .slewEnd dt => dt
  | .canFrameReceived dt _ _ _ => dt
  | .canFrameSent dt _ _ _ => dt
  | .canBusError dt _ _ _ _ => dt
  | .canRecoveryDone dt _ => dt
  | .canTxTimeout dt _ _ => dt
  | .panelFrame dt => dt
  | .panelUpdateEnd dt _ => dt
  | .panelTemperatureRead dt => dt
  | .blinkHalf dt => dt
  | .panelRailFault dt _ _ => dt
  | .panelRailGood dt _ _ => dt
  | .archiveFlashWrite dt _ => dt
  | .trendSample dt _ => dt
  | .ioBusFrameBoundary dt _ => dt
  | .pnLinkUp dt _ _ _ => dt
  | .feedRestored dt _ => dt
  | .holdupBankCharged dt => dt
  | .curatorDiagnosticUpdate dt _ => dt
  | .takebackRetry dt => dt
  | .dramCeWindowRestart dt => dt
  | .stageHotHour dt _ => dt
  | .phaseExtrapolation dt _ => dt
  | .diFilterSample dt _ _ => dt
  | .diRawTransition dt _ _ => dt
  | .doReadbackFaultClear dt _ _ => dt
  | .ptpDelayResponse dt _ _ => dt

/-- What a command may change beyond what every command may: the time that passes (R445, R105), the event sources, sessions, mailboxes
and counters of the mailbox service, the Archive's stage, the SyncSeq of the next frame sent, the number of free values taken, and
what is sent. -/
def footprint : Instr → List Part
  | .identify _ _ => [.ops, .agreed]
  | .commandsList _ _ => [.ops, .agreed]
  | .openSession _ _ _ _ => [.ops, .agreed]
  | .closeSession _ _ => [.transfer, .ops, .agreed, .fw]
  | .setKey _ _ => [.transfer, .keys, .ops, .agreed, .fw]
  | .keyInfo _ _ => [.ops, .agreed]
  | .subscribe _ _ => [.ops, .agreed]
  | .completionRead _ _ => [.ops, .agreed]
  | .paramRead _ _ => [.ops, .agreed]
  | .paramWrite _ _ => [.working, .effect, .ops, .agreed, .alarm, .prot, .ai, .dio]
  | .tableRead _ _ => [.ops, .agreed]
  | .tableWrite _ _ => [.working, .effect, .ops, .agreed, .trend, .ph, .loop, .alarm, .journal]
  | .commitConfig _ _ => [.effect, .ops, .agreed]
  | .commitConfigDone _ => [.store, .working, .effect, .ops]
  | .discardEdits _ _ =>
    [.working, .effect, .ops, .agreed, .trend, .pts, .forces, .tasks, .ph, .loop, .alarm, .journal, .dio,
     .net]
  | .configExport _ _ => [.transfer, .ops, .agreed]
  | .configImport _ _ => [.working, .effect, .transfer, .ops, .agreed]
  | .setMode _ _ => [.mu, .ops, .agreed, .pair]
  | .restart _ _ => [.mu, .ops, .agreed, .pair]
  | .roleSwap _ _ => [.mu, .ops, .agreed, .pair]
  | .eventRead _ _ => [.ops, .agreed]
  | .eventClear _ _ => [.ops, .agreed]
  | .programLoad _ _ => [.ops, .agreed, .program]
  | .programSwitch _ _ => [.ops, .agreed, .program]
  | .programSwitchGap _ => [.ops, .pts, .program, .tasks, .ret, .loop]
  | .valueWrite _ _ => [.ops, .agreed, .tasks]
  | .valueWriteApply _ _ => [.ops, .program, .tasks, .ret, .dram]
  | .forceSet _ _ => [.ops, .agreed, .pts, .forces, .tasks]
  | .forceClear _ _ => [.ops, .agreed, .pts, .forces, .tasks]
  | .taskTrigger _ _ => [.ops, .agreed, .tasks]
  | .split _ _ => [.ops, .agreed, .lockstep]
  | .splitDrainInstant _ _ => [.ops, .lockstep, .annex]
  | .splitDrainTimeout _ _ => [.ops, .lockstep, .annex]
  | .join _ _ => [.ops, .agreed, .lockstep]
  | .joinLoadDone _ _ => [.ops, .tasks, .lockstep]
  | .debugAttach _ _ => [.ops, .agreed, .lockstep]
  | .debugDetach _ _ => [.ops, .agreed, .lockstep]
  | .debugReadRegisters _ _ _ => [.lockstep, .dram]
  | .debugWriteRegister _ _ _ _ => [.lockstep, .dram]
  | .debugReadMemory _ _ _ _ _ _ => [.lockstep]
  | .debugWriteMemory _ _ _ _ _ _ => [.tasks, .ret, .lockstep, .dram]
  | .debugBreakpoint _ _ _ _ => [.lockstep]
  | .debugHalt _ _ => [.lockstep, .dram]
  | .debugResume _ _ => [.lockstep, .dram]
  | .debugStep _ _ _ => [.lockstep, .dram]
  | .debugTracepoint _ _ _ _ => [.lockstep]
  | .annexMigrate _ _ => [.ops, .agreed, .lockstep, .annex, .ai]
  | .annexRotate _ _ => [.ops, .agreed, .lockstep, .annex, .ai]
  | .ledgerRead _ _ => [.ops, .agreed]
  | .alarmAck _ _ => [.ops, .agreed, .alarm, .journal]
  | .alarmShelve _ _ => [.ops, .agreed, .alarm, .journal]
  | .alarmUnshelve _ _ => [.ops, .agreed, .alarm, .journal]
  | .ladderAck _ _ => [.ops, .agreed, .alarm, .dio]
  | .journalRead _ _ => [.ops, .agreed]
  | .archiveRead _ _ => [.ops, .agreed]
  | .trendRead _ _ => [.ops, .agreed]
  | .aiCalibrate _ _ => [.ops, .agreed, .annex, .ai]
  | .converterCalibrationDone _ _ _ _ => [.mu, .ops, .pair, .annex, .ai, .ao]
  | .aoTrimHold4 _ _ => [.ops, .agreed, .ao]
  | .aoTrimHold20 _ _ => [.ops, .agreed, .ao]
  | .aoTrimRecord4 _ _ => [.ops, .agreed, .ao]
  | .aoTrimRecord20 _ _ => [.ops, .agreed, .ao]
  | .aoTrimStore _ _ => [.ops, .agreed, .ao]
  | .aoTrimRelease _ _ => [.ops, .agreed, .ao]
  | .aoTrimClear _ _ => [.ops, .agreed, .ao]
  | .hartPass _ _ => [.ops, .agreed, .ao]
  | .loopInjectStart _ _ => [.ops, .agreed, .loop]
  | .loopInjectStop _ _ => [.ops, .agreed, .loop]
  | .loopCaptureArm _ _ => [.ops, .agreed, .loop]
  | .loopCaptureCancel _ _ => [.ops, .agreed, .loop]
  | .loopCaptureRead _ _ => [.ops, .agreed, .loop]
  | .canSend _ _ => [.ops, .agreed, .can]
  | .canCancel _ _ _ => [.ops, .agreed, .can]
  | .canRecover _ _ => [.ops, .agreed, .can]
  | .panelUpdate _ _ => [.ops, .agreed, .pnl]
  | .panelRefresh _ _ => [.ops, .agreed, .pnl]
  | .timeAcceptStep _ _ => [.clk, .ops, .agreed]
  | .updateBegin _ _ => [.ops, .agreed, .fw]
  | .updateAbandon _ _ => [.ops, .agreed, .fw]
  | .updateBlock _ _ => [.ops, .agreed, .fw]
  | .updateVerify _ _ => [.ops, .agreed, .fw]
  | .updateVerifyDone _ _ => [.ops, .fw]
  | .updateIdleTimeout _ _ => [.fw]
  | .activate _ _ => [.mu, .ops, .agreed, .fw]
  | .firmwareReady _ =>
    [.release, .mu, .store, .working, .effect, .ops, .trend, .pts, .forces, .tasks, .ph, .loop, .alarm,
     .journal, .dio, .net, .fw]
  | .activationFailure _ => [.fw]
  | .activationDeadline _ => [.mu, .ops, .fw]
  | .rollback _ _ => [.mu, .ops, .agreed, .pair, .fw]
  | .seqGo _ _ => [.working, .effect, .ops, .agreed, .alarm, .prot, .ai, .dio]
  | .goAll _ _ => [.working, .effect, .ops, .agreed, .alarm, .prot, .ai, .dio]
  | .seqStop _ _ => [.working, .effect, .ops, .agreed, .alarm, .prot, .ai, .dio]
  | .slotSwap _ _ => [.working, .effect, .ops, .agreed, .alarm, .prot, .ai, .dio]
  | .slotTableSwapApply _ => [.working, .effect, .prot]
  | .doFaultClear _ _ => [.working, .effect, .ops, .agreed, .alarm, .prot, .ai, .dio]
  | .arbFreeze _ _ => [.working, .effect, .ops, .agreed, .alarm, .prot, .ai, .dio]
  | .forwardTimeout _ _ => []
  | .reassemblyTimeout _ => []
  | .sessionIdleExpiry _ _ => [.transfer, .fw]
  | .authLockoutEnd _ _ _ => []
  | .notifyHoldEnd _ _ _ => []
  | .powerApplied _ _ _ =>
    [.cycles, .clk, .mu, .effect, .transfer, .ops, .agreed, .trend, .pts, .pair, .program, .forces, .tasks,
     .ph, .loop, .alarm, .lockstep, .annex, .prot, .ai, .ao, .dio, .net, .can, .pnl, .fw, .sup]
  | .selftestComplete _ _ =>
    [.release, .mu, .store, .working, .effect, .ops, .trend, .pts, .pair, .program, .forces, .tasks, .ret,
     .ph, .loop, .alarm, .journal, .lockstep, .annex, .ai, .ao, .dio, .net, .fw, .sup]
  | .switchInstant _ =>
    [.clk, .mu, .working, .effect, .transfer, .ops, .agreed, .trend, .pts, .pair, .program, .forces, .tasks,
     .ph, .loop, .alarm, .journal, .lockstep, .annex, .prot, .ai, .ao, .dio, .net, .can, .pnl, .fw]
  | .m3ShareEvaluation _ => [.mu, .pair, .ao, .dio]
  | .holdLimitExpiry _ => [.mu]
  | .curatorRestart _ _ => [.transfer, .agreed, .fw]
  | .curatorRestartDone _ => [.mu, .ops]
  | .watchdogExpiry _ =>
    [.clk, .mu, .working, .effect, .transfer, .ops, .agreed, .trend, .archive, .pts, .pair, .program, .forces,
     .tasks, .ret, .ph, .loop, .alarm, .journal, .lockstep, .dram, .annex, .prot, .ai, .ao, .dio, .net, .can,
     .pnl, .fw, .sup]
  | .powerFailDetected _ => [.pair, .ret, .pnl, .sup]
  | .feedLoss _ _ _ => [.sup]
  | .feedReturnDuringSave _ _ =>
    [.clk, .mu, .working, .effect, .transfer, .ops, .agreed, .trend, .archive, .pts, .pair, .program, .forces,
     .tasks, .ret, .ph, .loop, .alarm, .journal, .lockstep, .dram, .annex, .prot, .ai, .ao, .dio, .net, .can,
     .pnl, .fw, .sup]
  | .holdupEnd _ =>
    [.clk, .mu, .working, .effect, .transfer, .ops, .agreed, .trend, .archive, .pts, .pair, .program, .forces,
     .tasks, .ret, .ph, .loop, .alarm, .journal, .lockstep, .dram, .annex, .prot, .ai, .ao, .dio, .net, .can,
     .pnl, .fw, .sup]
  | .periodicRetainSave _ => [.ret]
  | .retainSaveTimeout _ => [.ret]
  | .taskDueStart _ _ => [.mu, .transfer, .ops, .agreed, .pts, .pair, .program, .forces, .tasks, .loop, .ai, .ao, .dio, .net, .fw]
  | .repeatFrameSend _ _ => [.tasks, .net]
  | .sliceLoad _ _ => [.ops, .pts, .program, .forces, .tasks, .ret, .dram]
  | .taskClose _ _ _ => [.mu, .ops, .pts, .pair, .program, .forces, .tasks, .ret, .loop, .prot, .ao, .dio]
  | .cycleRelease _ _ _ => [.tasks, .ao, .dio, .net, .can]
  | .digestWaitExpiry _ _ _ => [.pair, .tasks, .ao, .dio, .net, .can]
  | .taskFault _ _ _ _ => [.pair, .tasks, .ao, .dio]
  | .lockstepMismatch _ _ _ _ _ _ _ => [.mu, .effect, .ops, .pair, .tasks, .lockstep, .annex, .ai, .ao, .dio]
  | .recoveryRunStart _ _ => [.tasks]
  | .injectionTest _ _ _ => [.mu, .effect, .ops, .pair, .lockstep, .annex, .ai, .ao]
  | .injectionRetest _ _ _ => [.mu, .effect, .ops, .pair, .lockstep, .annex, .ai, .ao]
  | .signatureWindowClose _ _ _ _ _ _ => [.archive, .pair, .program, .forces, .tasks, .loop, .alarm, .lockstep, .ai, .ao, .dio]
  | .agreedInputFrame _ _ _ => [.mu, .ops, .pts, .pair, .program, .forces, .tasks, .loop, .ai, .ao, .dio]
  | .digestFrame _ _ _ => [.mu, .ops, .pair, .program, .forces, .tasks, .loop, .ao, .dio, .net, .can]
  | .withheldMarker _ _ _ _ _ => [.pair, .tasks, .ao, .dio, .net, .can]
  | .loopAgreementFrame _ _ _ _ _ _ => [.ops, .pts, .pair, .program, .forces, .tasks, .loop, .annex, .ao, .dio]
  | .loopAnswerFrame _ _ _ _ _ _ => [.pts, .pair, .forces, .loop, .ao]
  | .alarmAgreementFrame _ _ _ _ =>
    [.clk, .working, .effect, .ops, .agreed, .trend, .pts, .pair, .program, .forces, .tasks, .ph, .loop,
     .alarm, .journal, .annex, .prot, .ai, .ao, .dio, .net, .can, .pnl]
  | .alarmExchangeFrame _ _ _ =>
    [.clk, .mu, .working, .effect, .ops, .agreed, .trend, .pts, .pair, .program, .forces, .tasks, .ph, .loop,
     .alarm, .journal, .annex, .prot, .ai, .ao, .dio, .net, .can, .pnl]
  | .retainedHashFrame _ _ _ _ _ => [.mu, .ops, .pair, .program, .forces, .tasks, .loop, .ao, .dio]
  | .copyDataFrame _ _ _ =>
    [.working, .effect, .trend, .pair, .program, .forces, .tasks, .ret, .ph, .loop, .alarm, .journal, .ao,
     .dio]
  | .switchAnnouncement _ _ _ => [.mu, .ops, .pair, .fw]
  | .departureNotice _ _ _ => [.pair]
  | .commandRelay _ _ _ =>
    [.clk, .working, .effect, .transfer, .ops, .agreed, .trend, .pts, .pair, .forces, .tasks, .ph, .loop,
     .alarm, .journal, .prot, .ai, .ao, .dio, .net, .can, .pnl, .fw]
  | .pairCommandApply _ =>
    [.clk, .working, .effect, .ops, .agreed, .trend, .pts, .forces, .tasks, .ph, .loop, .alarm, .journal,
     .prot, .ai, .ao, .dio, .net, .can, .pnl]
  | .voidNotice _ _ _ _ => [.pair, .program, .forces, .tasks, .loop, .alarm, .ao, .dio]
  | .stationStateAnnouncement _ _ _ _ _ _ _ => [.pair, .net]
  | .timeCorrectionAnnouncement _ _ _ _ _ => [.clk, .pair]
  | .panelStartAnnouncement _ _ _ _ _ _ _ => [.ops, .pair, .pnl]
  | .mailboxForwardFrame _ _ _ =>
    [.clk, .mu, .working, .effect, .transfer, .keys, .ops, .agreed, .trend, .pts, .pair, .program, .forces,
     .tasks, .ph, .loop, .alarm, .journal, .lockstep, .annex, .prot, .ai, .ao, .dio, .net, .can, .pnl, .fw]
  | .accessionFrame _ _ _ =>
    [.clk, .mu, .effect, .ops, .trend, .pts, .pair, .program, .forces, .tasks, .ph, .loop, .alarm, .journal,
     .dio, .net]
  | .statusFrame _ _ _ => [.clk, .mu, .ops, .pair, .can]
  | .syncLaneDown _ _ _ =>
    [.mu, .transfer, .ops, .agreed, .pts, .pair, .program, .forces, .tasks, .loop, .lockstep, .ai, .ao, .dio,
     .net, .can, .pnl, .fw]
  | .syncLaneUp _ _ => [.ops, .pair, .can]
  | .partnerHeartbeatLost _ =>
    [.mu, .ops, .pts, .pair, .program, .forces, .tasks, .loop, .lockstep, .ai, .ao, .dio, .net, .can, .pnl,
     .fw]
  | .partnerHeartbeatPresent _ => [.ops, .pair, .can]
  | .isolatingPatternSeen _ => [.pair]
  | .isolationF1 _ =>
    [.clk, .mu, .effect, .transfer, .ops, .agreed, .trend, .pts, .pair, .program, .forces, .tasks, .ph, .loop,
     .alarm, .lockstep, .annex, .prot, .ai, .ao, .dio, .net, .can, .pnl, .fw]
  | .departureF _ =>
    [.clk, .mu, .working, .effect, .transfer, .ops, .agreed, .trend, .archive, .pts, .pair, .program, .forces,
     .tasks, .ret, .ph, .loop, .alarm, .journal, .lockstep, .dram, .annex, .prot, .ai, .ao, .dio, .net, .can,
     .pnl, .fw, .sup]
  | .copyComplete _ => [.mu, .pair]
  | .copyTimeout _ => [.mu, .ops, .pair]
  | .soakExpiry _ => [.mu, .pair]
  | .alarmScan _ _ =>
    [.clk, .working, .effect, .ops, .agreed, .trend, .pts, .pair, .program, .forces, .tasks, .ph, .loop,
     .alarm, .journal, .annex, .prot, .ai, .ao, .dio, .net, .can, .pnl]
  | .onDelayExpiry _ _ =>
    [.clk, .working, .effect, .ops, .agreed, .trend, .pts, .pair, .program, .forces, .tasks, .ph, .loop,
     .alarm, .journal, .annex, .prot, .ai, .ao, .dio, .net, .can, .pnl]
  | .offDelayExpiry _ _ =>
    [.clk, .working, .effect, .ops, .agreed, .trend, .pts, .pair, .program, .forces, .tasks, .ph, .loop,
     .alarm, .journal, .annex, .prot, .ai, .ao, .dio, .net, .can, .pnl]
  | .rateWindowEnd _ _ =>
    [.clk, .working, .effect, .ops, .agreed, .trend, .pts, .pair, .program, .forces, .tasks, .ph, .loop,
     .alarm, .journal, .annex, .prot, .ai, .ao, .dio, .net, .can, .pnl]
  | .shelveExpiry _ _ =>
    [.clk, .working, .effect, .ops, .agreed, .trend, .pts, .pair, .program, .forces, .tasks, .ph, .loop,
     .alarm, .journal, .annex, .prot, .ai, .ao, .dio, .net, .can, .pnl]
  | .releaseDelayExpiry _ _ =>
    [.clk, .working, .effect, .ops, .agreed, .trend, .pts, .pair, .program, .forces, .tasks, .ph, .loop,
     .alarm, .journal, .annex, .prot, .ai, .ao, .dio, .net, .can, .pnl]
  | .rungTimeExpiry _ =>
    [.clk, .working, .effect, .ops, .agreed, .trend, .pts, .pair, .program, .forces, .tasks, .ph, .loop,
     .alarm, .journal, .annex, .prot, .ai, .ao, .dio, .net, .can, .pnl]
  | .rungRepeat _ =>
    [.clk, .working, .effect, .ops, .agreed, .trend, .pts, .pair, .program, .forces, .tasks, .ph, .loop,
     .alarm, .journal, .annex, .prot, .ai, .ao, .dio, .net, .can, .pnl]
  | .unackReminder _ _ =>
    [.clk, .working, .effect, .ops, .agreed, .trend, .pts, .pair, .program, .forces, .tasks, .ph, .loop,
     .alarm, .journal, .annex, .prot, .ai, .ao, .dio, .net, .can, .pnl]
  | .alarmFrameLate _ => [.alarm, .dio]
  | .alarmBorrowTimeout _ _ =>
    [.clk, .working, .effect, .ops, .agreed, .trend, .pts, .pair, .program, .forces, .tasks, .ph, .loop,
     .alarm, .journal, .annex, .prot, .ai, .ao, .dio, .net, .can, .pnl]
  | .callAckMessage _ _ => [.agreed, .alarm]
  | .journalFlashWrite _ _ => [.journal]
  | .loopTrigger _ _ => [.loop]
  | .loopEvaluation _ _ _ => [.ops, .pts, .pair, .program, .forces, .tasks, .loop, .annex, .ai, .ao, .dio]
  | .loopSignatureExchange _ _ => [.mu, .ops, .pair, .program, .forces, .tasks, .loop, .ao, .dio]
  | .loopBorrowTimeout _ => [.loop]
  | .injectionEnd _ _ => [.ops, .loop]
  | .migrationStart _ _ _ => [.mu, .effect, .ops, .pair, .lockstep, .annex, .ai, .ao]
  | .dramCopyComplete _ => [.ops, .annex]
  | .flashBlockCopyDone _ _ _ => [.mu, .ops, .trend, .archive, .pair, .program, .annex, .fw]
  | .spoilArrival _ _ _ _ => [.annex]
  | .recalRotationStart _ => [.annex, .ai]
  | .standinCalibrationDone _ _ _ => [.ops, .annex, .ai]
  | .shadowPassDone _ => [.ops, .annex, .ai]
  | .dramEccError _ _ _ _ _ => [.mu, .ops, .pair, .program, .forces, .tasks, .loop, .annex, .ai, .ao, .dio]
  | .flashProgramFailure _ _ _ => [.mu, .ops, .archive, .pair, .program, .annex, .fw]
  | .oscillatorFault _ _ _ _ _ => [.mu, .ops, .pair, .annex]
  | .spareSelfTest _ _ _ => [.ops, .annex, .ai]
  | .ledgerWrite _ => [.annex]
  | .regionFault _ _ => [.archive, .pair, .program, .forces, .tasks, .loop, .alarm, .annex, .prot, .ai, .ao, .dio, .net]
  | .colourViolation _ _ => [.archive, .pair, .program, .forces, .tasks, .loop, .alarm, .annex, .prot, .ai, .ao, .dio, .net]
  | .regionOverlap _ _ _ _ _ => [.archive, .pair, .program, .forces, .tasks, .loop, .alarm, .annex, .prot, .ai, .ao, .dio, .net]
  | .sealedAccess _ _ _ _ => []
  | .arbitrationGrant _ _ _ => [.prot]
  | .budgetFrameStart _ _ => [.prot, .ai]
  | .budgetCutoff _ _ => [.prot]
  | .converterResult _ _ _ => [.ops, .pts, .forces, .tasks, .ph, .loop, .annex, .ai, .dio]
  | .excitationSwap _ _ _ => [.ai]
  | .cmMeasurement _ _ _ => [.ai]
  | .driftComparison _ _ => [.ai]
  | .stageMeasurement _ _ _ => [.ao]
  | .aoDebounceExpiry _ _ => [.mu, .ops, .pair, .annex, .ai, .ao]
  | .stageSupplyFault _ _ => [.mu, .ops, .pair, .annex, .ai, .ao]
  | .stageThermalLimit _ _ _ => [.annex, .ao]
  | .hartPollDue _ _ => [.ao]
  | .hartResponse _ _ _ => [.ops, .ao]
  | .hartResponseTimeout _ _ => [.ops, .ao]
  | .hartBurstFrame _ _ _ => [.ao]
  | .hartIdentifyRetry _ _ => [.ao]
  | .diEdgeConfirmed _ _ _ => [.pts, .forces, .tasks, .alarm, .dio]
  | .chatterSecondEnd _ => [.pts, .forces, .tasks, .dio]
  | .wireBreakTimeout _ _ _ => [.pts, .forces, .tasks, .dio]
  | .sensorSupplyLost _ _ _ => [.pts, .forces, .tasks, .dio]
  | .sensorSupplyRecovered _ _ _ => [.pts, .forces, .tasks, .dio]
  | .doOvercurrent _ _ => [.dio]
  | .doThermalShutdown _ _ => [.dio]
  | .doRetry _ _ _ => [.dio]
  | .doFaultFreeSecond _ _ => [.dio]
  | .doReadbackMismatch _ _ _ => [.dio]
  | .fieldSupplyLost _ _ _ => [.dio]
  | .fieldSupplyRestored _ _ _ => [.dio]
  | .callOutputFault _ _ _ _ => [.dio]
  | .callRetry _ _ _ => [.dio]
  | .ackEdge _ _ => [.pts, .forces, .tasks, .alarm, .dio]
  | .phaseEdge _ _ _ => [.pts, .forces, .tasks, .ph, .loop, .ai, .dio]
  | .phaseUnlockTimeout _ _ => [.pts, .forces, .tasks, .ph, .dio]
  | .catalogueEntryFire _ _ => [.pts, .forces, .tasks, .ph, .loop, .ai, .dio]
  | .catalogueDeferredFire _ => [.pts, .forces, .tasks, .ph, .loop, .ai, .dio]
  | .pnLinkDown _ _ => [.net]
  | .prpLanDown _ _ => [.net]
  | .servicePortLink _ _ => [.net]
  | .arpAnnounce _ _ => [.net]
  | .duplicateAddress _ _ _ => [.net]
  | .addressConflictClear _ _ => [.net]
  | .inputFrame _ _ _ _ _ => [.pts, .forces, .tasks, .net]
  | .stationAnswer _ _ _ => [.pts, .forces, .tasks, .net]
  | .accessionRetry _ _ => [.pts, .forces, .tasks, .net]
  | .stationTimeout _ _ => [.pts, .forces, .tasks, .net]
  | .ptpSync _ _ _ => [.clk]
  | .ptpAnnounce _ _ _ => [.clk]
  | .ptpTimeout _ _ => [.clk]
  | .timeCorrectionApply _ => [.clk, .ops, .pts, .forces, .tasks, .ph, .loop, .alarm, .ai, .dio]
  | .slewEnd _ => [.clk]
  | .canFrameReceived _ _ _ _ => [.can]
  | .canFrameSent _ _ _ _ => [.ops, .can]
  | .canBusError _ _ _ _ _ => [.ops, .can]
  | .canRecoveryDone _ _ => [.can]
  | .canTxTimeout _ _ _ => [.ops, .can]
  | .panelFrame _ => [.ops, .pnl]
  | .panelUpdateEnd _ _ => [.ops, .pnl]
  | .panelTemperatureRead _ => [.pnl]
  | .blinkHalf _ => [.ops, .pnl]
  | .panelRailFault _ _ _ => [.pnl]
  | .panelRailGood _ _ _ => [.pnl]
  | .archiveFlashWrite _ _ => [.archive]
  | .trendSample _ _ => [.trend]
  | .ioBusFrameBoundary _ _ =>
    [.clk, .mu, .working, .effect, .transfer, .ops, .agreed, .trend, .archive, .pts, .pair, .program, .forces,
     .tasks, .ret, .ph, .loop, .alarm, .journal, .lockstep, .dram, .annex, .prot, .ai, .ao, .dio, .net, .can,
     .pnl, .fw, .sup]
  | .pnLinkUp _ _ _ _ => [.net]
  | .feedRestored _ _ => [.sup]
  | .holdupBankCharged _ => [.sup]
  | .curatorDiagnosticUpdate _ _ => [.pts, .forces, .tasks, .sup]
  | .takebackRetry _ => [.mu, .pair]
  | .dramCeWindowRestart _ => [.annex]
  | .stageHotHour _ _ => [.annex]
  | .phaseExtrapolation _ _ => [.pts, .forces, .tasks, .ph, .loop, .ai, .dio]
  | .diFilterSample _ _ _ => [.pts, .forces, .tasks, .alarm, .dio]
  | .diRawTransition _ _ _ => [.dio]
  | .doReadbackFaultClear _ _ _ => [.dio]
  | .ptpDelayResponse _ _ _ => [.clk]


/-! ## The invariant -/

/-- The canonical form of the memory the debugger has written (R306): addresses strictly rising. A byte nothing has written is not
listed, and no byte value stands for that. -/
def Memory.wf (m : Tab Byte) : Bool := trising none m

/-- What every step keeps: the commands that wait are well-formed, less than a second is counted beyond OperatingSeconds (R105), and
the key store (R72) and the written memory (R306) are in canonical form. -/
def State.Inv (s : State) : Prop :=
  (∀ c ∈ s.pending, c.wf = true) ∧ s.ident.opTicks < Config.ticksPerSecond ∧ trising none s.mbx.keys = true ∧
    Memory.wf s.lk.dram = true

/-! ## Requests -/

/-- The request in a whole datagram. -/
def reqOf (p : Packet) : Req := parseReq p.via p.addr p.port p.data

/-- A datagram is whole and reaches the checks of its session (R28, R67, R68, R71, R76, R84): the service answers in this state, the port
is enabled, the source is not ignored, the frame is good, and it is for this module. -/
structure Heard (e : State) (p : Packet) : Prop where
  whole : p.off = 0 ∧ p.data.length = p.total
  awake : e.mailboxSilent = false
  slotted : (p.via == .plant && e.mu.slot == 0xFF) = false
  enabled : (p.via == .plant && e.eff 0x0145 == 0) = false
  unlocked : e.lockedOut p.via p.addr = false
  good : badFrame p.data = false
  here : (reqOf p).target ≠ 1

/-- A request of the open session `x` with a counter not yet used (R75, R76, R94). -/
structure InSession (e : State) (p : Packet) (x : Session) : Prop extends Heard e p where
  coded : (reqOf p).code ≠ 0x0001 ∧ (reqOf p).code ≠ 0x0010
  open_ : e.session (reqOf p).session = some x
  bound : x.via = p.via ∧ x.addr = p.addr
  mac : (hmac x.key ((reqOf p).head ++ (reqOf p).body)).take 16 = (reqOf p).mac
  fresh : match x.counter with
    | none => (reqOf p).counter = 1
    | some k => k < (reqOf p).counter

/-- The session has taken note of the request (R75). -/
def State.noted (e : State) (p : Packet) (x : Session) : State :=
  e.modSession x.id (fun y => { y with counter := some (reqOf p).counter, lastTick := e.tick })

/-- Steps 2 to 9 of R77 let a request pass in a state `u`, for a session of level `lvl`; `unset` where it was opened with the
all-zero key; and the command is not one that is taken to the pair (R83). The mailbox has taken the request in when they are made
(R66). -/
structure Passes (c : Cmd) (r : Req) (u : State) (lvl : Nat) (unset : Bool) : Prop where
  free : u.occupied r.box = false
  row : ∃ row, cmdRow r.code = some row ∧ (∀ l, row.level = some l → l ≤ lvl) ∧ c.check r (u.latch r) lvl row.modes = none
  version : r.ver = 1
  place : (r.via == .plant && r.box == 15) = false
  keyed : unset = true → [0x0002, 0x0013, 0x0012, 0x0011].contains r.code = true
  unbarred : c.barred r (u.latch r) = false
  alone : c.isPair r (u.latch r) = false

/-- A request of session `x` for the command `c` is accepted. -/
structure Accepted (c : Cmd) (e : State) (p : Packet) (x : Session) : Prop extends InSession e p x where
  code : (reqOf p).code = c.code
  passes : Passes c (reqOf p) (e.noted p x) x.level x.unsetKey

/-- A register write that PARAM_WRITE is to make, accepted with this one entry (R89): value `v` to the element `i`. -/
def Writes (e : State) (p : Packet) (x : Session) (i v : Nat) : Prop :=
  Accepted paramWriteCmd e p x ∧ ∃ a b, pwEntries (reqOf p).body = [(i, a, b, v)]

/-- The response datagram to a request (R68, R70). -/
def response (r : Req) (key : Option (List Byte)) (session : U32) (st : Status) (arg : Nat) (m : Mode) (ro : Role)
    (body : List Byte) : Emission :=
  .mailbox r.via 47210 r.addr r.port.toNat (sealFrame key
    (frameHead 0 r.box r.tag r.code r.ver 2 st.code m.num ro.num body.length session.toNat arg r.counter) body)

/-! ## Rows of one shape -/

/-- The rows of the mailbox service (R66, R84), each with the ticks that pass and the datagram. -/
def mailOf : Instr → Option (Nat × Packet)
  | .identify dt p => some (dt, p)
  | .commandsList dt p => some (dt, p)
  | .openSession dt p _ _ => some (dt, p)
  | .closeSession dt p => some (dt, p)
  | .setKey dt p => some (dt, p)
  | .keyInfo dt p => some (dt, p)
  | .subscribe dt p => some (dt, p)
  | .completionRead dt p => some (dt, p)
  | .paramRead dt p => some (dt, p)
  | .paramWrite dt p => some (dt, p)
  | .tableRead dt p => some (dt, p)
  | .tableWrite dt p => some (dt, p)
  | .commitConfig dt p => some (dt, p)
  | .discardEdits dt p => some (dt, p)
  | .configExport dt p => some (dt, p)
  | .configImport dt p => some (dt, p)
  | .setMode dt p => some (dt, p)
  | .restart dt p => some (dt, p)
  | .roleSwap dt p => some (dt, p)
  | .eventRead dt p => some (dt, p)
  | .eventClear dt p => some (dt, p)
  | .programLoad dt p => some (dt, p)
  | .programSwitch dt p => some (dt, p)
  | .valueWrite dt p => some (dt, p)
  | .forceSet dt p => some (dt, p)
  | .forceClear dt p => some (dt, p)
  | .taskTrigger dt p => some (dt, p)
  | .split dt p => some (dt, p)
  | .join dt p => some (dt, p)
  | .debugAttach dt p => some (dt, p)
  | .debugDetach dt p => some (dt, p)
  | .annexMigrate dt p => some (dt, p)
  | .annexRotate dt p => some (dt, p)
  | .ledgerRead dt p => some (dt, p)
  | .alarmAck dt p => some (dt, p)
  | .alarmShelve dt p => some (dt, p)
  | .alarmUnshelve dt p => some (dt, p)
  | .ladderAck dt p => some (dt, p)
  | .journalRead dt p => some (dt, p)
  | .archiveRead dt p => some (dt, p)
  | .trendRead dt p => some (dt, p)
  | .aiCalibrate dt p => some (dt, p)
  | .aoTrimHold4 dt p => some (dt, p)
  | .aoTrimHold20 dt p => some (dt, p)
  | .aoTrimRecord4 dt p => some (dt, p)
  | .aoTrimRecord20 dt p => some (dt, p)
  | .aoTrimStore dt p => some (dt, p)
  | .aoTrimRelease dt p => some (dt, p)
  | .aoTrimClear dt p => some (dt, p)
  | .hartPass dt p => some (dt, p)
  | .loopInjectStart dt p => some (dt, p)
  | .loopInjectStop dt p => some (dt, p)
  | .loopCaptureArm dt p => some (dt, p)
  | .loopCaptureCancel dt p => some (dt, p)
  | .loopCaptureRead dt p => some (dt, p)
  | .canSend dt p => some (dt, p)
  | .canCancel dt p _ => some (dt, p)
  | .canRecover dt p => some (dt, p)
  | .panelUpdate dt p => some (dt, p)
  | .panelRefresh dt p => some (dt, p)
  | .timeAcceptStep dt p => some (dt, p)
  | .updateBegin dt p => some (dt, p)
  | .updateAbandon dt p => some (dt, p)
  | .updateBlock dt p => some (dt, p)
  | .updateVerify dt p => some (dt, p)
  | .activate dt p => some (dt, p)
  | .rollback dt p => some (dt, p)
  | _ => none

/-- The rows of frames that arrive over a sync lane (R260), each with the ticks that pass and the frame header. -/
def laneRow : Instr → Option (Nat × LaneHdr)
  | .agreedInputFrame dt h _ => some (dt, h)
  | .digestFrame dt h _ => some (dt, h)
  | .withheldMarker dt h _ _ _ => some (dt, h)
  | .loopAgreementFrame dt h _ _ _ _ => some (dt, h)
  | .loopAnswerFrame dt h _ _ _ _ => some (dt, h)
  | .alarmAgreementFrame dt h _ _ => some (dt, h)
  | .alarmExchangeFrame dt h _ => some (dt, h)
  | .retainedHashFrame dt h _ _ _ => some (dt, h)
  | .copyDataFrame dt h _ => some (dt, h)
  | .switchAnnouncement dt h _ => some (dt, h)
  | .departureNotice dt h _ => some (dt, h)
  | .commandRelay dt h _ => some (dt, h)
  | .voidNotice dt h _ _ => some (dt, h)
  | .stationStateAnnouncement dt h _ _ _ _ _ => some (dt, h)
  | .timeCorrectionAnnouncement dt h _ _ _ => some (dt, h)
  | .panelStartAnnouncement dt h _ _ _ _ _ => some (dt, h)
  | .mailboxForwardFrame dt h _ => some (dt, h)
  | .accessionFrame dt h _ => some (dt, h)
  | .statusFrame dt h _ => some (dt, h)
  | _ => none

/-- A request has been refused with a status (R77, R79): its response is all that is sent, StatusCount of that status and, for
STATE_REFUSED, LastRefusedCommand follow it, and everything else of the module beside the sessions' and mailboxes' own records reads as
before. -/
structure Refused (e t : State) (p : Packet) (key : Option (List Byte)) (id : U32) (st : Status) (arg : Nat) : Prop where
  answer : t.out = [response (reqOf p) key id st arg e.mode e.role []]
  counted : t.mbx.status = tmod e.mbx.status st.code 0 (wrapInc 32)
  named : t.mbx.lastRefused = if st = .stateRefused then (reqOf p).code else e.mbx.lastRefused
  counters : t.mbx.frameErr = e.mbx.frameErr ∧ t.mbx.authFail = e.mbx.authFail ∧ t.mbx.lockouts = e.mbx.lockouts ∧
    t.mbx.queueDrops = e.mbx.queueDrops ∧ t.mbx.forwards = e.mbx.forwards
  still : (∀ x, Part.same e t x) ∧ t.ev = e.ev ∧ t.arch = e.arch ∧ t.pending = e.pending ∧ t.free = e.free ∧
    t.mbx.reasm = e.mbx.reasm ∧ t.mbx.locks = e.mbx.locks ∧ t.mbx.fails = e.mbx.fails
  sessions : ∀ k, t.session k = none ↔ e.session k = none

/-- Mailbox MBn is free for a request of this module's own (R66, R69, R83). -/
def State.boxFree (e : State) (n : Nat) : Bool := !e.occupied n

/-- The response of session `x` to the request in `p` is the only thing a step sends. -/
def Answers (t : State) (p : Packet) (x : Session) (m : Mode) (ro : Role) (st : Status) (arg : Nat) (body : List Byte) : Prop :=
  t.out = [response (reqOf p) (some x.key) x.id st arg m ro body]

/-- The response of session `x` to the request in `p` is among what a step sends. -/
def Responds (t : State) (p : Packet) (x : Session) (m : Mode) (ro : Role) (st : Status) (arg : Nat) (body : List Byte) : Prop :=
  response (reqOf p) (some x.key) x.id st arg m ro body ∈ t.out

/-- A debug action of the attached debugger's own session reaches its conditions (R305, R306, R308): a whole good frame over SV,
authenticated with a counter not yet used, while the module serves the debug port and the replay buffer has room. -/
structure DebugHeard (code : Nat) (e : State) (p : Packet) (x : Session) (g : Debugger) : Prop where
  whole : p.off = 0 ∧ p.data.length = p.total
  service : p.via = .service
  awake : e.mode ≠ .m0 ∧ e.mbx.restarting = none
  good : badFrame p.data = false
  code : (reqOf p).code = code
  open_ : e.session (reqOf p).session = some x
  bound : x.via = p.via ∧ x.addr = p.addr
  mac : (hmac x.key ((reqOf p).head ++ (reqOf p).body)).take 16 = (reqOf p).mac
  fresh : match x.counter with
    | none => (reqOf p).counter = 1
    | some k => k < (reqOf p).counter
  attached : e.lk.debugger = some g
  mine : g.session = x.id
  room : e.replayFull g = false

/-- The answer to a debug action is among what a step sends (R306). -/
def DebugAnswers (t : State) (p : Packet) (x : Session) (m : Mode) (ro : Role) (st : Status) (body : List Byte) : Prop :=
  (.mailbox (reqOf p).via 47230 (reqOf p).addr (reqOf p).port.toNat (sealFrame (some x.key)
    (frameHead 0 0 (reqOf p).tag (reqOf p).code (reqOf p).ver 2 st.code m.num ro.num body.length (reqOf p).session.toNat 0
      (reqOf p).counter) body) : Emission) ∈ t.out

/-! ## Lane frames -/

/-- A lane frame that is taken (R29, R258, R259): it comes in on a lane outside M0, its check is good, and its SyncSeq is new. -/
structure Taken (e : State) (h : LaneHdr) : Prop where
  lane : h.lane < 2
  awake : e.mode ≠ .m0
  good : h.good = true
  new : ∀ q, e.pair.seqIn = some q →
    (BitVec.ofNat 32 h.seq : U32) ≠ q ∧ ((BitVec.ofNat 32 h.seq : U32) - q).toNat < 2 ^ 31

/-! ## Alarm scans -/

/-- A scan on the module's own snapshot falls due now (R219, R247, R248), and no accepted alarm command waits for it. -/
structure ScanDue (e : State) : Prop where
  scans : e.scans = true
  grid : e.onGrid Config.scanNs = true
  own : e.alOwn = true
  new : e.al.last ≠ some (e.gridInstant Config.scanNs)
  whole : e.al.half = none
  none_waits : e.al.waiting = []

/-- The snapshot of the scan that falls due now (R221). -/
def State.scanSnap (e : State) : AlSnap := e.snap (e.gridInstant Config.scanNs) (e.al.scan + 1)

/-- What a scan on the snapshot `q` finds for entry `n` of image `w` (R228, R229, R236): groups as of the previous scan, their
suppression as of this one (R232). -/
def State.scanOut (e : State) (q : AlSnap) (n w : Nat) : AlOut := (e.alSuppress q []).2.alEval q e.al.grp w (e.alEnt n)

/-- The ladder runs on, unacknowledged (R240): no acknowledgement waits, no edge is set, and entry `n`, of a class that starts the
ladder, is UNACKED after this scan and not newly annunciated in it. -/
structure LadderRuns (e : State) (n w : Nat) : Prop where
  runs : e.al.lad.state ≠ 0
  unacked : e.al.lad.acked = none ∧ e.al.edges = 0
  calls : e.ladderClass (alClass w) = true
  stays : (e.scanOut e.scanSnap n w).st.unacked = true ∧ (e.scanOut e.scanSnap n w).news = false

/-! ## Events -/

/-- EVk occurs between two states (R112, R113): where its unit is present, its counter counts, saturating, and its time and Detail are
those of this occurrence. -/
def Occurs (e t : State) (k : Nat) (d : List (Nat × Nat)) : Prop :=
  e.eventPresent k = true →
    (tget t.ev.src k {}).count = satInc 32 (tget e.ev.src k {}).count ∧ (tget t.ev.src k {}).time = e.now ∧
      (tget t.ev.src k {}).detail = d

end Sys2Proof.Machine
end

