-- ==== Sys2Proof/Certificates/Slice0/Obligations.lean ====
section
/-!
DEFINITION. The statements about the model. A statement that says a command completes gives, for each row it covers, when the
row's own effect takes place and what the state holds after it; `s.elapse dt` is the state once the row's ticks have passed, and the
request of a mailbox row is `reqOf p`.
-/
section
open Sys2Proof Sys2Proof.Machine

/-- A step takes the command at the front of the queue: it is that command's meaning on the state with the rest of the queue. -/
def Obligations.StepTakesTheFrontCommand : Prop :=
  ∀ (c : Instr) (rest : List Instr) (s : State), s.pending = c :: rest → step s = exec c { s with pending := rest }

/-- With no command waiting the block idles for one tick of its clock (the model's choice, log 1): the time base and the operating time
move on, what was sent is gone, and nothing else changes. -/
def Obligations.AnEmptyQueueIdles : Prop :=
  ∀ (s : State), s.pending = [] → ∃ t, step s = .next t ∧ t.clk = s.clk.advance 1 ∧ t.out = [] ∧
    t.ident.opSeconds * Config.ticksPerSecond + t.ident.opTicks =
      s.ident.opSeconds * Config.ticksPerSecond + s.ident.opTicks + 1 ∧
    t = { s with clk := t.clk, ident := { s.ident with opSeconds := t.ident.opSeconds, opTicks := t.ident.opTicks }, out := [] }

/-- At every tick the time base adds TimeIncrement (R445): 8 ns and the servo's adjustment, and while a slew is in progress up to
500 ppm of 8 ns of what remains of it (R446, R451), which is no longer to be slewed; the fraction of the nanosecond is kept. -/
def Obligations.TimePasses : Prop :=
  (∀ (n : Nat) (s : State), s.clk.slewing = false → -(8 * 2 ^ 32 : Int) ≤ s.clk.adj →
    (((s.elapse n).clk.tb * 2 ^ 32 + (s.elapse n).clk.frac : Nat) : Int) =
        (s.clk.tb * 2 ^ 32 + s.clk.frac : Nat) + n * (8 * 2 ^ 32 + s.clk.adj) ∧
      (s.elapse n).clk.frac < 2 ^ 32 ∧ (s.elapse n).tick = s.tick + n ∧ (s.elapse n).clk.slewRem = s.clk.slewRem) ∧
  (∀ (n : Nat) (s : State), s.clk.slewing = true → -(8 * 2 ^ 32 : Int) ≤ s.clk.adj → ((n * slewStep : Nat) : Int) ≤ s.clk.slewRem →
    (((s.elapse n).clk.tb * 2 ^ 32 + (s.elapse n).clk.frac : Nat) : Int) =
        (s.clk.tb * 2 ^ 32 + s.clk.frac : Nat) + n * (8 * 2 ^ 32 + s.clk.adj + slewStep) ∧
      (s.elapse n).clk.slewRem = s.clk.slewRem - (n * slewStep : Nat)) ∧
  (∀ (n : Nat) (s : State), s.clk.slewing = true → -(8 * 2 ^ 32 : Int) + slewStep ≤ s.clk.adj →
    s.clk.slewRem ≤ -((n * slewStep : Nat) : Int) →
    (((s.elapse n).clk.tb * 2 ^ 32 + (s.elapse n).clk.frac : Nat) : Int) =
        (s.clk.tb * 2 ^ 32 + s.clk.frac : Nat) + n * (8 * 2 ^ 32 + s.clk.adj - slewStep) ∧
      (s.elapse n).clk.slewRem = s.clk.slewRem + (n * slewStep : Nat))

/-- What reset leaves, where the spec gives the value: the module is in M0 with role NONE (R35, R45), no key is set (R73), no session is
open, no command waits, no configuration is committed, and every read-only parameter for which a parameter table gives a default reads
it, but for ConverterStatus and CanStatus, whose fields read what their meaning says of a module in M0 (log 28). -/
def Obligations.ResetValues : Prop :=
  State.reset.mode = .m0 ∧ State.reset.role = .none ∧ State.reset.mbx.keys = [] ∧ State.reset.mbx.sessions = [] ∧
    State.reset.mbx.async = [] ∧ State.reset.pending = [] ∧ State.reset.cfg.committed = none ∧
  (∀ i ∈ ([0x0006, 0x0007, 0x0100, 0x0101, 0x0102, 0x0103, 0x0104, 0x010C, 0x010D, 0x010E, 0x0111, 0x0112, 0x0113, 0x0114,
      0x0115, 0x0116, 0x0117, 0x0118, 0x0119, 0x011A, 0x011B, 0x011C, 0x011D, 0x0120, 0x0130, 0x0140, 0x0141, 0x0142,
      0x0143, 0x0147, 0x0148, 0x0149, 0x014A, 0x0150, 0x0203, 0x0205, 0x0207, 0x020A, 0x020B, 0x020C, 0x020D, 0x020E,
      0x020F, 0x0210, 0x0211, 0x0212, 0x0213, 0x0214, 0x0215, 0x0216, 0x0240, 0x0241, 0x0242, 0x0243, 0x0244, 0x0304,
      0x0305, 0x03C0, 0x03C1, 0x03C2, 0x03C3, 0x03C5, 0x03C6, 0x03C7] ++
     [0x03C8, 0x03CA, 0x03CB, 0x03CC, 0x03CD, 0x03CE, 0x03CF, 0x040C, 0x040D, 0x040E, 0x040F, 0x0410, 0x0411, 0x0412,
      0x0413, 0x0414, 0x0482, 0x0483, 0x0484, 0x0503, 0x0504, 0x0547, 0x0548, 0x0581, 0x0582, 0x0583, 0x0584, 0x0585,
      0x0586, 0x0587, 0x0588, 0x0589, 0x058A, 0x058B, 0x058C, 0x0683, 0x0684, 0x06A3, 0x06A4, 0x06A5, 0x06A7, 0x06A8,
      0x06A9, 0x06AA, 0x06AB, 0x06AC, 0x06AD, 0x06AE, 0x06AF, 0x06B0, 0x06B1, 0x06B2, 0x06B3, 0x0703, 0x0704, 0x0705,
      0x0706, 0x0707, 0x0770, 0x077A, 0x0780, 0x078A, 0x0790, 0x07A2] ++
     [0x07B4, 0x07B5, 0x07B6, 0x07B7, 0x07C2, 0x07C8, 0x07CA, 0x07CB, 0x07CC, 0x07F1, 0x07F2, 0x0802, 0x0803, 0x0862,
      0x0863, 0x08B1, 0x08B3, 0x08B4, 0x08B8, 0x0902, 0x0903, 0x098A, 0x098B, 0x09FC, 0x09FE, 0x09FF, 0x0A04, 0x0A05,
      0x0A06, 0x0A07, 0x0A81, 0x0AE3, 0x0AE4, 0x0AE5, 0x0AE6, 0x0AE7, 0x0AE8, 0x0B01, 0x0B02, 0x0B62, 0x0BC0, 0x0BC1,
      0x0BC2, 0x0BC9, 0x0BCA, 0x0BCB, 0x0BE0, 0x0BE1, 0x0BE2, 0x0BE8, 0x0BE9, 0x0C04, 0x0C05, 0x0C06, 0x0C07, 0x0C08,
      0x0C09, 0x0C43, 0x0C62, 0x0C63, 0x0C64, 0x0C65, 0x0C66, 0x0C68] ++
     [0x0C69, 0x0CA3, 0x0CA4, 0x0CA5, 0x0CA6, 0x0CA7, 0x0CC4, 0x0CC5, 0x0CC6, 0x0D08, 0x0D09, 0x0D0A, 0x0D0B, 0x0D0C,
      0x0D0D, 0x0D0E, 0x0D0F, 0x0E81, 0x0E82, 0x0E83, 0x0E84, 0x0EC7, 0x0ECA, 0x0ECB, 0x0ED5, 0x0ED6, 0x0F07, 0x0F08,
      0x0F09, 0x0F0A, 0x0F0B, 0x0F0C, 0x0F0D, 0x0F0E, 0x0F46, 0x0F47, 0x0F48, 0x0F49, 0x0F4A, 0x0F4B, 0x0F61, 0x0F62] : List Nat),
    ∃ d, paramDef i = some d ∧ d.acc = .ro ∧ State.reset.paramValue d i = 0) ∧
  (∀ x ∈ ([(0x0002, 0x302), (0x0009, 0xFF), (0x000B, 0x1), (0x000C, 0x5), (0x000D, 0xC), (0x0110, 0x9),
      (0x06A6, 0xFFFF), (0x07C0, 0x3F0300), (0x07C1, 0x1000), (0x07C9, 0x9876543210), (0x08B5, 0x7D00), (0x08B6, 0x56600),
      (0x08B7, 0x1FFFFF), (0x0A03, 0x3F80000000000000), (0x0C67, 0x25), (0x0CA2, 0x800000000), (0x0CC3, 0x6), (0x0D06, 0x7A120),
      (0x0D07, 0x2625A0), (0x0EC6, 0x8), (0x0ECF, 0xFFFFFFFF), (0x0F06, 0xFF), (0x0F45, 0x100000)] : List (Nat × Nat)),
    ∃ d, paramDef x.1 = some d ∧ d.acc = .ro ∧ State.reset.paramValue d x.1 = x.2)

/-- The state after reset meets the invariant. -/
def Obligations.ResetMeetsTheInvariant : Prop := State.reset.Inv

/-- Every step keeps the invariant: what waits is well-formed, less than a second is counted beyond OperatingSeconds (R105), and the key
store (R72) and the memory that the debugger has written (R306) stay in canonical form. -/
def Obligations.StepsKeepTheInvariant : Prop := ∀ (s t : State), s.Inv → step s = .next t → t.Inv

/-- A command that completes leaves every part of the module outside its footprint as the passing of its ticks leaves it, and leaves the
queue alone. -/
def Obligations.CommandsKeepTheirFootprint : Prop :=
  ∀ (c : Instr) (s t : State), exec c s = .next t →
    (∀ p, p ∉ footprint c → p.same (s.elapse (ticksOf c)) t) ∧ t.pending = s.pending

/-- No command changes the module's variant, serial number, hardware revision, time of manufacture or MAC address, and OperatingSeconds
counts every second of the ticks that pass and nothing else (R105). -/
def Obligations.IdentityAndOperatingTime : Prop :=
  ∀ (c : Instr) (s t : State), exec c s = .next t →
    t.ident.variant = s.ident.variant ∧ t.ident.serial = s.ident.serial ∧ t.ident.hwRev = s.ident.hwRev ∧
    t.ident.madeAt = s.ident.madeAt ∧ t.ident.baseMac = s.ident.baseMac ∧
    t.ident.opSeconds * Config.ticksPerSecond + t.ident.opTicks =
      s.ident.opSeconds * Config.ticksPerSecond + s.ident.opTicks + ticksOf c

/-- A well-formed command always completes, but for a datagram that holds a command of another row; and no command is refused. -/
def Obligations.WellFormedCommandsComplete : Prop :=
  (∀ (c : Instr) (s : State), c.wf = true → (∃ t, exec c s = .next t) ∨ exec c s = .fault .otherCommand) ∧
  (∀ (c : Instr) (s : State) (r : Refusal), exec c s ≠ .refused r)

/-- Rows on sessions and keys complete: COMMANDS_LIST answers the table of R84 in the layout of R85, OPEN_SESSION opens a session
of the requested level (R73, R74), CLOSE_SESSION ends it (R75), SET_KEY stores the key and ends the other sessions of its level, one whose request is executing with that
request's response (R75, R95), KEY_INFO answers the state of the four
keys (R72), SUBSCRIBE sets the session's route (R91), COMPLETION_READ answers the latest stored completion (R93). The layout of
KEY_INFO's body is the model's (log 22). -/
def Obligations.SessionRowsComplete : Prop :=
  (∀ (dt : Nat) (p : Packet) (s : State), Heard (s.elapse dt) p → (reqOf p).code = 0x0001 →
    Passes identifyCmd (reqOf p) (s.elapse dt) 0 false →
    ∃ t, exec (.identify dt p) s = .next t ∧
      t.out = [response (reqOf p) none 0 .ok 0 s.mode s.role
        (beBytes 2 s.ident.variant ++ beBytes 2 0 ++ beBytes 4 (optionMask s.ident.variant) ++ beBytes 8 s.ident.serial.toNat ++
          beBytes 2 s.ident.fwRelease.toNat ++ beBytes 2 s.ident.hwRev.toNat ++ beBytes 2 s.schemaInUse ++ beBytes 2 s.fwSchema ++
          beBytes 2 s.feature ++ beBytes 2 s.syncMax ++ beBytes 1 s.mu.slot ++ beBytes 1 s.keyState ++ beBytes 1 1 ++
          beBytes 1 0 ++ beBytes 8 s.ident.baseMac.toNat)]) ∧
  (∀ (dt : Nat) (p : Packet) (x : Session) (s : State), Accepted commandsListCmd (s.elapse dt) p x →
    ∃ t, exec (.commandsList dt p) s = .next t ∧
      Answers t p x s.mode s.role .ok 0 (beBytes 2 cmdTable.length ++ beBytes 2 0 ++
        (cmdTable.map (fun c => beBytes 2 c.code ++ beBytes 1 1 ++ beBytes 1 1 ++ beBytes 1 (c.level.getD 0xFF) ++
          beBytes 1 0 ++ beBytes 2 c.modes)).flatten)) ∧
  (∀ (dt : Nat) (p : Packet) (sid : U32) (nonce key : List Byte) (s : State), Heard (s.elapse dt) p →
    (reqOf p).code = 0x0010 → (reqOf p).session = 0 → s.openKey (beAt (reqOf p).body 0 1) p.via = some key →
    (hmac key ((reqOf p).head ++ (reqOf p).body)).take 16 = (reqOf p).mac →
    Passes (openSessionCmd sid nonce) (reqOf p) (s.elapse dt) 0 false → sid ≠ 0 → s.session sid = none →
    ∃ t y, exec (.openSession dt p sid nonce) s = .next t ∧ t.session sid = some y ∧ y.id = sid ∧
      y.level = beAt (reqOf p).body 0 1 ∧ y.via = p.via ∧ y.addr = p.addr ∧
      y.key = sessionKey key (slice (reqOf p).body 4 16) (padTo 16 nonce) sid ∧
      y.unsetKey = (tlook s.mbx.keys y.level).isNone ∧ y.counter = none ∧ y.route = none ∧
      (∀ k, k ≠ sid → t.session k = s.session k) ∧
      t.out = [response (reqOf p) (some key) sid .ok 0 s.mode s.role (padTo 16 nonce ++ beBytes 4 (s.eff 0x0144))]) ∧
  (∀ (dt : Nat) (p : Packet) (x : Session) (s : State), Accepted closeSessionCmd (s.elapse dt) p x →
    ∃ t, exec (.closeSession dt p) s = .next t ∧ t.session x.id = none) ∧
  (∀ (dt : Nat) (p : Packet) (x : Session) (s : State), Accepted setKeyCmd (s.elapse dt) p x →
    ∃ t, exec (.setKey dt p) s = .next t ∧
      t.mbx.keys = tput s.mbx.keys (beAt (reqOf p).body 0 1) (slice (reqOf p).body 4 32) ∧
      ∀ k y, t.session k = some y → y.level = beAt (reqOf p).body 0 1 → k = x.id ∨
        (y.closing = true ∧ s.mbx.relays.any (fun z => z.session == k) = true)) ∧
  (∀ (dt : Nat) (p : Packet) (x : Session) (s : State), Accepted keyInfoCmd (s.elapse dt) p x →
    ∃ t, exec (.keyInfo dt p) s = .next t ∧
      Answers t p x s.mode s.role .ok 0 (((List.range 4).map (fun l => match tlook s.mbx.keys l with
        | some k => beBytes 1 1 ++ beBytes 3 0 ++ beBytes 4 (fingerprint k)
        | none => beBytes 8 0)).flatten)) ∧
  (∀ (dt : Nat) (p : Packet) (x : Session) (s : State), Accepted subscribeCmd (s.elapse dt) p x →
    ∃ t y, exec (.subscribe dt p) s = .next t ∧ t.session x.id = some y ∧
      y.route = some ⟨if beAt (reqOf p).body 0 2 = 0 then 47211 else beAt (reqOf p).body 0 2, beAt (reqOf p).body 2 1 == 1,
        leNat (slice (reqOf p).body 4 32)⟩ ∧
      Answers t p x s.mode s.role .ok 0 []) ∧
  (∀ (dt : Nat) (p : Packet) (x : Session) (id : Nat) (b : List Byte) (s : State),
    Accepted completionReadCmd (s.elapse dt) p x → x.lastDone (beAt (reqOf p).body 0 2) = some (id, b) →
    (∀ o ∈ s.mbx.async, o.session = x.id → o.tag = beAt (reqOf p).body 0 2 → o.id ≤ id) →
    ∃ t, exec (.completionRead dt p) s = .next t ∧ Answers t p x s.mode s.role .ok 0 b)

/-- Rows on parameters, tables and events complete: PARAM_READ answers the effective values (R89), PARAM_WRITE edits the working
image and, for a live parameter, the base (R47, R48, R89), TABLE_READ answers the entries in effect (R90), TABLE_WRITE edits the
working image, leaves the base where the table is not live, and lets a live entry wait for its boundary, but for the alarm tables,
whose entries come into effect at once (R48, R90, R222), EVENT_READ answers the events' state (R116), and EVENT_CLEAR clears the
latches named and no other, but for that of an event of this very instant, which is set after the clear (R117). -/
def Obligations.ParameterRowsComplete : Prop :=
  (∀ (dt : Nat) (p : Packet) (x : Session) (s : State), Accepted paramReadCmd (s.elapse dt) p x →
    ∃ t, exec (.paramRead dt p) s = .next t ∧
      Answers t p x s.mode s.role .ok 0 (beBytes 2 (beAt (reqOf p).body 0 2) ++ beBytes 2 0 ++
        ((nums (reqOf p).body 4 (beAt (reqOf p).body 0 2)).map (fun i => match paramDef i with
          | some d => beBytes 2 i ++ beBytes 1 d.ty.size ++ beBytes 1 0 ++
              beBytes 8 (((s.elapse dt).noted p x).paramValue d i)
          | none => [])).flatten)) ∧
  (∀ (dt : Nat) (p : Packet) (x : Session) (s : State), Accepted paramWriteCmd (s.elapse dt) p x →
    (∀ e ∈ pwEntries (reqOf p).body, ∃ d, paramDef e.1 = some d ∧ d.acc = .rw) →
    ∃ t, exec (.paramWrite dt p) s = .next t ∧
      t.cfg.working = s.pwAfter (pwEntries (reqOf p).body) s.cfg.working ∧ t.cfg.state = 2 ∧
      t.cfg.base = (if s.cfg.loaded then s.pwAfter ((pwEntries (reqOf p).body).filter (fun e => paramLive e.1)) s.cfg.base
        else s.cfg.base) ∧
      Responds t p x s.mode s.role .ok 0 []) ∧
  (∀ (dt : Nat) (p : Packet) (x : Session) (d : TableDef) (s : State), Accepted tableReadCmd (s.elapse dt) p x →
    tableDef (tbHead (reqOf p).body).1 = some d →
    ∃ t, exec (.tableRead dt p) s = .next t ∧
      Answers t p x s.mode s.role .ok 0 (((List.range (tbHead (reqOf p).body).2.1).map (fun j =>
        leBytes d.size (((s.elapse dt).noted p x).readEntry d.id ((tbHead (reqOf p).body).2.2 + j)))).flatten)) ∧
  (∀ (dt : Nat) (p : Packet) (x : Session) (d : TableDef) (s : State), Accepted tableWriteCmd (s.elapse dt) p x →
    tableDef (tbHead (reqOf p).body).1 = some d →
    ∃ t, exec (.tableWrite dt p) s = .next t ∧
      t.cfg.working = twAfter s.cfg.working d.id (twEntries (reqOf p).body) ∧ t.cfg.state = 2 ∧
      (d.live = false ∨ s.cfg.loaded = false → t.cfg.base = s.cfg.base ∧ t.cfg.liveTables = s.cfg.liveTables) ∧
      (d.live = true → s.cfg.loaded = true → d.id ≠ 0x0001 → d.id ≠ 0x0002 → t.cfg.base = s.cfg.base ∧
        t.cfg.liveTables = s.cfg.liveTables ++
          (twEntries (reqOf p).body).map (fun x => (tkey d.id x.1, keepEntry d.id x.1 x.2))) ∧
      (d.live = true → s.cfg.loaded = true → d.id = 0x0001 ∨ d.id = 0x0002 →
        t.cfg.base = twAfter s.cfg.base d.id (twEntries (reqOf p).body)) ∧
      Responds t p x s.mode s.role .ok 0 []) ∧
  (∀ (dt : Nat) (p : Packet) (x : Session) (s : State), Accepted eventReadCmd (s.elapse dt) p x →
    ∃ t, exec (.eventRead dt p) s = .next t ∧
      Answers t p x s.mode s.role .ok 0 (beBytes 2 (beAt (reqOf p).body 2 2) ++ beBytes 2 0 ++
        ((List.range (beAt (reqOf p).body 2 2)).map (fun j =>
          let k := beAt (reqOf p).body 0 2 + j
          let v := tget s.ev.src k {}
          beBytes 2 k ++ beBytes 1 (b2n v.latch + 2 * b2n (s.eventBit 0x0160 k) + 4 * b2n (s.eventBit 0x0168 k) +
            8 * b2n (s.eventBit 0x0170 k)) ++ beBytes 1 (s.eventClass k) ++ beBytes 4 v.count ++ beBytes 8 v.time)).flatten)) ∧
  (∀ (dt : Nat) (p : Packet) (x : Session) (s : State), Accepted eventClearCmd (s.elapse dt) p x →
    ∃ t, exec (.eventClear dt p) s = .next t ∧
      (∀ k, tget t.ev.src k {} = if bit (leNat (reqOf p).body) k then
          { tget s.ev.src k {} with latch := (tget s.ev.src k {}).latch && (tget s.ev.src k {}).time == (s.elapse dt).now }
        else tget s.ev.src k {}) ∧
      Answers t p x s.mode s.role .ok 0 [])

/-- Rows of the configuration store complete: COMMIT_CONFIG begins a commit (R49), COMMIT_CONFIG_DONE commits the whole working image
with EV006 where it passes the checks and changes neither image where it does not (R49, R52), DISCARD_EDITS asks for its boundary
(R50), CONFIG_EXPORT answers the image's bytes (R54), and CONFIG_IMPORT takes in blocks in order and puts the whole in the working
image (R54, R547). -/
def Obligations.ConfigurationRowsComplete : Prop :=
  (∀ (dt : Nat) (p : Packet) (x : Session) (s : State), Accepted commitConfigCmd (s.elapse dt) p x →
    ∃ t, exec (.commitConfig dt p) s = .next t ∧
      t.cfg = { s.cfg with commit := some (some s.mbx.nextOp, (s.elapse dt).tick) } ∧
      t.mbx.async = s.mbx.async ++ [⟨s.mbx.nextOp, x.id, (reqOf p).tag, 0x0024, (reqOf p).counter⟩] ∧
      Answers t p x s.mode s.role .accepted 0 []) ∧
  (∀ (dt k : Nat) (op : Option Nat) (s : State), s.cfg.commit = some (op, k) →
    s.checkImage s.activeProg s.cfg.working = none →
    ∃ t, exec (.commitConfigDone dt) s = .next t ∧ t.cfg = { s.cfg with
        commit := none, committed := some { s.cfg.working with schema := s.fwSchema },
        working := { s.cfg.working with schema := s.fwSchema }, generation := s.cfg.generation + 1, older := none,
        migratedFrom := 0, dropCount := 0, state := 1, applyCommitted := true } ∧
      Occurs (s.elapse dt) t 6 [(4, t.cfg.generation.toNat), (8, t.configDigest)]) ∧
  (∀ (dt k : Nat) (op : Option Nat) (s : State), s.cfg.commit = some (op, k) →
    s.checkImage s.activeProg s.cfg.working ≠ none →
    ∃ t, exec (.commitConfigDone dt) s = .next t ∧ t.cfg = { s.cfg with commit := none }) ∧
  (∀ (dt : Nat) (p : Packet) (x : Session) (s : State), Accepted discardEditsCmd (s.elapse dt) p x →
    ∃ t, exec (.discardEdits dt p) s = .next t ∧ t.cfg = { s.cfg with applyDiscard := true } ∧
      Answers t p x s.mode s.role .ok 0 []) ∧
  (∀ (dt : Nat) (p : Packet) (x : Session) (b : List Byte) (s : State), Accepted configExportCmd (s.elapse dt) p x →
    (reqOf p).arg = 0 → s.imageBytes (beAt (reqOf p).body 0 1) = some b →
    ∃ t, exec (.configExport dt p) s = .next t ∧ t.exportOf x.id (beAt (reqOf p).body 0 1) = some b ∧
      Answers t p x s.mode s.role .ok 0 (b.take 4096)) ∧
  (∀ (dt : Nat) (p : Packet) (x : Session) (b : List Byte) (s : State), Accepted configExportCmd (s.elapse dt) p x →
    (reqOf p).arg ≠ 0 → s.exportOf x.id (beAt (reqOf p).body 0 1) = some b →
    ∃ t, exec (.configExport dt p) s = .next t ∧ t.cfg = s.cfg ∧
      Answers t p x s.mode s.role .ok 0 (slice b (reqOf p).arg 4096)) ∧
  (∀ (dt : Nat) (p : Packet) (x : Session) (s : State), Accepted configImportCmd (s.elapse dt) p x →
    (reqOf p).arg = 0 → headerRefused s.fwSchema (reqOf p).body = false →
    (reqOf p).body.length < leAt (reqOf p).body 8 4 →
    ∃ t, exec (.configImport dt p) s = .next t ∧
      t.cfg = { s.cfg with importing := some ⟨(reqOf p).body.length, leAt (reqOf p).body 8 4, (reqOf p).body⟩ } ∧
      Answers t p x s.mode s.role .ok 0 []) ∧
  (∀ (dt : Nat) (p : Packet) (x : Session) (y : Import) (img : Image) (s : State), Accepted configImportCmd (s.elapse dt) p x →
    (reqOf p).arg ≠ 0 → s.cfg.importing = some y → y.next = (reqOf p).arg → y.bytes.length = y.next →
    y.total = y.next + (reqOf p).body.length → imageDigestOk (y.bytes ++ (reqOf p).body) = true →
    img = parseImage s.mu.slot (y.bytes ++ (reqOf p).body) →
    ∃ t, exec (.configImport dt p) s = .next t ∧
      t.cfg = { s.cfg with
        working := if img.schema < s.fwSchema then (img.migrate s.fwSchema).1 else img, state := 2, importing := none } ∧
      Answers t p x s.mode s.role .ok 0 [])

/-- Rows on modes complete: SET_MODE to the present mode answers OK and changes nothing (R37), to another it leaves a change pending
or a join requested (R38, R39), ROLE_SWAP leaves a swap pending at an instant ModeSwitchLead ahead (R280), a switch instant that is
due makes a confirmed change (R39, R41), moves it behind step 3 of a program switch by a frame boundary (R160), and drops an
unconfirmed one (R39), an automatic transition takes place at its frame boundary (R40), M3's share follows the partner's state at once
or, where a lane is up, at an instant that both modules know (R44), and HoldLimit ends M7 (R36, R45). -/
def Obligations.ModeRowsComplete : Prop :=
  (∀ (dt : Nat) (p : Packet) (x : Session) (s : State), Accepted setModeCmd (s.elapse dt) p x →
    modeTarget (reqOf p).body = some s.mode →
    ∃ t, exec (.setMode dt p) s = .next t ∧ t.mu = s.mu ∧ t.pair = s.pair ∧ t.cfg = s.cfg ∧ t.tk = s.tk ∧
      Answers t p x s.mode s.role .ok 0 []) ∧
  (∀ (dt : Nat) (p : Packet) (x : Session) (m : Mode) (s : State), Accepted setModeCmd (s.elapse dt) p x →
    modeTarget (reqOf p).body = some m → m ≠ s.mode →
    ((s.mode = .m3 ∧ (m = .m4 ∨ m = .m5 ∨ m = .m6)) ∨ (s.mode = .m7 ∧ m = .m5)) → s.joinable = true → s.partnerAbsent = false →
    ∃ t, exec (.setMode dt p) s = .next t ∧ t.mu = { s.mu with joinOp := some s.mbx.nextOp } ∧ t.pair.joining = true) ∧
  (∀ (dt : Nat) (p : Packet) (x : Session) (m : Mode) (s : State), Accepted setModeCmd (s.elapse dt) p x →
    modeTarget (reqOf p).body = some m → m ≠ s.mode →
    ¬ (s.mode = .m3 ∧ (m = .m4 ∨ m = .m5 ∨ m = .m6)) → ¬ (s.mode = .m7 ∧ m = .m5) →
    ∃ t c, exec (.setMode dt p) s = .next t ∧ t.mu = { s.mu with pending := some c } ∧ c.target = m ∧
      c.role = s.roleIn m ∧ c.at_ = frameAtOrAfter ((s.elapse dt).now + s.eff 0x0109 * 1000) ∧ c.op = some s.mbx.nextOp ∧
      c.command = true ∧ c.confirmed = !c.pair ∧ c.withdraws = (s.paired && !m.isRun && beAt (reqOf p).body 1 1 != 1)) ∧
  (∀ (dt : Nat) (p : Packet) (x : Session) (m : Mode) (s : State), Accepted setModeCmd (s.elapse dt) p x →
    modeTarget (reqOf p).body = some m → s.mode = .m3 → (m = .m4 ∨ m = .m5 ∨ m = .m6) → s.partnerAbsent = true →
    ∃ t c, exec (.setMode dt p) s = .next t ∧ t.mu = { s.mu with pending := some c } ∧ c.target = .m6 ∧ c.role = .solo ∧
      c.at_ = frameAtOrAfter ((s.elapse dt).now + s.eff 0x0109 * 1000) ∧ c.op = some s.mbx.nextOp ∧ c.confirmed = true) ∧
  (∀ (dt : Nat) (p : Packet) (x : Session) (s : State), Accepted roleSwapCmd (s.elapse dt) p x →
    ∃ t c, exec (.roleSwap dt p) s = .next t ∧ t.mu = { s.mu with pending := some c } ∧
      c.target = (if s.role = .standby then .m4 else .m5) ∧ c.role = (if s.role = .standby then .primary else .standby) ∧
      c.at_ = frameAtOrAfter ((s.elapse dt).now + s.eff 0x0109 * 1000) ∧ c.cause = 1 ∧ c.op = some s.mbx.nextOp ∧
      t.pair.swap = some 1) ∧
  (∀ (dt : Nat) (c : ModeChange) (s : State), s.mu.pending = some c → c.at_ ≤ (s.elapse dt).now → c.asked = false →
    s.copying = false → c.confirmed = true →
    ∃ t, exec (.switchInstant dt) s = .next t ∧ t.mode = c.target ∧
      t.role = (if 3 < c.cause ∧ (c.target = .m7 ∨ c.target = .m9) then s.roleIn c.target else c.role) ∧ t.mu.pending = none ∧
      t.mu.prev = s.mode ∧ t.mu.changes = s.mu.changes + 1) ∧
  (∀ (dt : Nat) (c : ModeChange) (s : State), s.mu.pending = some c → c.at_ ≤ (s.elapse dt).now → c.asked = false →
    s.copying = false → c.confirmed = false →
    ∃ t, exec (.switchInstant dt) s = .next t ∧ t.mu = { s.mu with pending := none } ∧ t.pair.swap = none) ∧
  (∀ (dt : Nat) (c : ModeChange) (s : State), s.mu.pending = some c → c.at_ ≤ (s.elapse dt).now → c.asked = false →
    s.copying = true →
    ∃ t, exec (.switchInstant dt) s = .next t ∧
      t.mu = { s.mu with pending := some { c with at_ := frameAfter (s.elapse dt).now } }) ∧
  (∀ (dt rb : Nat) (a : AutoChange) (s : State), (s.elapse dt).atFrame = true → s.mode ≠ .m0 → s.mu.auto = some a →
    a.at_ ≤ (s.elapse dt).now → a.mode ≠ .m0 → s.copying = false → ¬ (s.mode = a.mode ∧ s.role = a.role) →
    ∃ t, exec (.ioBusFrameBoundary dt rb) s = .next t ∧ t.mode = a.mode ∧ t.role = a.role) ∧
  (∀ (dt : Nat) (s : State), (s.elapse dt).atFrame = true → s.mode = .m3 → s.mu.m3next = none →
    s.laneUp = false ∨ s.pair.partner.mode = none →
    ∃ t, exec (.m3ShareEvaluation dt) s = .next t ∧ t.ao.m3share = s.m3Rule.1 ∧ t.dio.m3drive = s.m3Rule.2) ∧
  (∀ (dt : Nat) (m : Mode) (s : State), (s.elapse dt).atFrame = true → s.mode = .m3 → s.mu.m3next = none →
    s.laneUp = true → s.pair.partner.mode = some m → s.m3Rule ≠ s.m3Now →
    ∃ t, exec (.m3ShareEvaluation dt) s = .next t ∧ t.ao = s.ao ∧ t.dio = s.dio ∧
      t.mu.m3next = some ⟨frameAtOrAfter ((s.elapse dt).now + s.eff 0x0109 * 1000), s.m3Rule.1, s.m3Rule.2, m⟩) ∧
  (∀ (dt : Nat) (x : M3Next) (s : State), (s.elapse dt).atFrame = true → s.mode = .m3 → s.mu.m3next = some x →
    x.at_ ≤ (s.elapse dt).now → s.laneUp = true →
    ∃ t, exec (.m3ShareEvaluation dt) s = .next t ∧ t.ao.m3share = x.share ∧ t.dio.m3drive = x.drive) ∧
  (∀ (dt : Nat) (s : State), s.mode = .m7 → s.eff 0x0107 ≠ 0 →
    (s.elapse dt).since s.mu.entryTick (s.eff 0x0107 * Config.ticksPerSecond) = true → s.mu.auto = none →
    ∃ t, exec (.holdLimitExpiry dt) s = .next t ∧ t.mu = { s.mu with auto := some ⟨.m3, .none, 7, frameAfter (s.elapse dt).now⟩ } ∧
      Occurs (s.elapse dt) t 13 [(4, s.eff 0x0107)])

/-- Rows of power, restart and the Curator complete: power counts a cycle, reads the strap and begins M1 (R36, R522, R541); the
self-test ends for M11 where no firmware slot passes (R515), else stays in M1 where the strap floats (R28), else ends for M10 with a
configuration of a newer schema (R63) and for M2 where none is committed (R36), each entered at the next frame boundary (R40); a restart that no departure precedes waits for the
next frame boundary (R55); the watchdog and the end of hold-up lead to M0, which keeps the keys, the committed configuration and the
Ledger's and flash's contents (R35, R36, R256, R543), the hold-up's end with the final save as it began (R61, R62) where that had 6 ms (R527, R544). -/
def Obligations.PowerRowsComplete : Prop :=
  (∀ (dt feeds : Nat) (ohms : U32) (s : State), s.mode = .m0 → feeds % 4 ≠ 0 →
    ∃ t, exec (.powerApplied dt feeds ohms) s = .next t ∧ t.mode = .m1 ∧ t.role = .none ∧ t.mu.slot = slotOf ohms.toNat ∧
      t.ident.powerCycles = s.ident.powerCycles + 1 ∧ t.sup.present = [bit feeds 0, bit feeds 1] ∧ t.sup.powerFail = false ∧
      (t.mu.slot ≠ 0xFF → t.pair.line = .toggling)) ∧
  (∀ (dt : Nat) (r : SelfTest) (s : State), s.mode = .m1 → s.mu.startDone = false → s.mu.haltCause = 0 → r.tests = [] →
    (∀ m ∈ s.annex.waiting, m.kind ≠ 1) → r.images.getD s.fw.active false = false → r.images.getD (1 - s.fw.active) false = false →
    s.mu.auto = none →
    ∃ t, exec (.selftestComplete dt r) s = .next t ∧ t.mode = .m1 ∧
      t.mu.auto = some ⟨.m11, .none, 7, frameAfter (s.elapse dt).now⟩ ∧ t.mu.haltCause = 4) ∧
  (∀ (dt : Nat) (r : SelfTest) (s : State), s.mode = .m1 → s.mu.startDone = false → s.mu.haltCause = 0 → r.tests = [] →
    (∀ m ∈ s.annex.waiting, m.kind ≠ 1) → r.images.getD s.fw.active false = true → s.mu.slot = 0xFF →
    ∃ t, exec (.selftestComplete dt r) s = .next t ∧ t.mu = { s.mu with startDone := true } ∧ t.cfg = s.cfg) ∧
  (∀ (dt : Nat) (r : SelfTest) (i : Image) (s : State), s.mode = .m1 → s.mu.startDone = false → s.mu.haltCause = 0 →
    r.tests = [] → (∀ m ∈ s.annex.waiting, m.kind ≠ 1) → r.images.getD s.fw.active false = true → s.mu.slot ≠ 0xFF →
    s.cfg.committed = some i → s.fwSchema < i.schema → s.mu.auto = none →
    ∃ t, exec (.selftestComplete dt r) s = .next t ∧ t.mode = .m1 ∧
      t.mu.auto = some ⟨.m10, .none, 7, frameAfter (s.elapse dt).now⟩ ∧ t.mu.recoveryCause = 1) ∧
  (∀ (dt : Nat) (r : SelfTest) (s : State), s.mode = .m1 → s.mu.startDone = false → s.mu.haltCause = 0 →
    r.tests = [] → (∀ m ∈ s.annex.waiting, m.kind ≠ 1) → r.images.getD s.fw.active false = true → s.mu.slot ≠ 0xFF →
    s.cfg.committed = none → s.tk.active = 0xFF → s.mu.auto = none →
    ∃ t, exec (.selftestComplete dt r) s = .next t ∧ t.mode = .m1 ∧
      t.mu.auto = some ⟨.m2, .none, 7, frameAfter (s.elapse dt).now⟩ ∧ t.cfg.state = 0 ∧
      t.sup.holdup = r.holdup ∧ t.ident.fwRelease = BitVec.ofNat 16 (leAt s.fwHeader 0x10 2)) ∧
  (∀ (dt : Nat) (p : Packet) (x : Session) (s : State), Accepted restartCmd (s.elapse dt) p x → s.canDepart = false →
    ∃ t, exec (.restart dt p) s = .next t ∧ t.mu = { s.mu with auto := some ⟨.m0, .none, 7, frameAfter (s.elapse dt).now⟩ } ∧
      Answers t p x s.mode s.role .accepted 0 []) ∧
  (∀ (dt : Nat) (p : Packet) (x : Session) (s : State), Accepted restartCmd (s.elapse dt) p x → s.canDepart = true →
    s.pair.departure = none →
    ∃ t d, exec (.restart dt p) s = .next t ∧ t.pair.departure = some d ∧ d.leaving = true ∧ d.after = 1 ∧
      d.at_ = frameAtOrAfter ((s.elapse dt).now + 100000) ∧ t.mu = s.mu) ∧
  (∀ (dt cause : Nat) (s : State), s.mbx.restarting = none → s.mode ≠ .m0 →
    ∃ t, exec (.curatorRestart dt cause) s = .next t ∧ t.mbx.restarting = some (cause, (s.elapse dt).tick)) ∧
  (∀ (dt cause k : Nat) (s : State), s.mbx.restarting = some (cause, k) →
    ∃ t, exec (.curatorRestartDone dt) s = .next t ∧ t.mbx.restarting = none ∧
      t.mu.curatorRestarts = s.mu.curatorRestarts + 1) ∧
  (∀ (dt : Nat) (s : State), s.mode ≠ .m0 →
    (∀ c k, s.mbx.restarting = some (c, k) → (s.elapse dt).since k (1500 * Config.ticksPerMs) = true) →
    ∃ t, exec (.watchdogExpiry dt) s = .next t ∧ t.mode = .m0 ∧ t.role = .none ∧ t.mbx.sessions = [] ∧ t.mbx.keys = s.mbx.keys ∧
      t.cfg.committed = s.cfg.committed ∧ t.cfg.generation = s.cfg.generation ∧ t.ret.save = s.ret.save ∧
      t.ident = (s.elapse dt).ident ∧ t.tk.slotA = s.tk.slotA ∧ t.tk.slotB = s.tk.slotB) ∧
  (∀ (dt : Nat) (s : State), s.mode ≠ .m0 → s.sup.powerFail = false →
    ∃ t, exec (.powerFailDetected dt) s = .next t ∧ t.sup.powerFail = true ∧ t.sup.present = [false, false] ∧ t.mu = s.mu ∧
      (s.mode ≠ .m1 → s.canDepart = false → s.pair.departure = none → t.sup.saving = some ((s.elapse dt).tick, 0) ∧
        t.ret.begun = if s.ret.skip || s.saveTooBig then none else some s.retainedParts)) ∧
  (∀ (dt feed : Nat) (l : Tab (List Byte)) (s : State), s.sup.powerFail = true → s.sup.saving ≠ none → s.mode ≠ .m0 →
    s.mode ≠ .m1 → s.ret.skip = false → s.ret.begun = some l → feed < 2 →
    ∃ t, exec (.feedReturnDuringSave dt feed) s = .next t ∧ t.mode = .m0 ∧
      t.ret.save = some ((s.elapse dt).now, true, l) ∧
      t.sup.present = [decide (feed = 0), decide (feed = 1)]) ∧
  (∀ (dt k why : Nat) (l : Tab (List Byte)) (s : State), s.sup.powerFail = true → s.sup.saving = some (k, why) → s.mode ≠ .m0 →
    s.mode ≠ .m1 → s.ret.begun = some l →
    ∃ t, exec (.holdupEnd dt) s = .next t ∧ t.mode = .m0 ∧ t.sup.held = true ∧
      t.ret.save = (if (s.elapse dt).since k (6 * Config.ticksPerMs) && !s.ret.skip then some ((s.elapse dt).now, true, l)
        else s.ret.save)) ∧
  (∀ (dt feed volt : Nat) (s : State), feed < 2 →
    ∃ t, exec (.feedLoss dt feed volt) s = .next t ∧ t.sup = { s.sup with
      present := s.sup.present.set feed false, volts := s.sup.volts.set feed volt }) ∧
  (∀ (dt feed : Nat) (s : State), feed < 2 → s.sup.powerFail = false → s.sup.present.getD (1 - feed) false = true →
    ∃ t, exec (.feedRestored dt feed) s = .next t ∧ t.sup = { s.sup with present := s.sup.present.set feed true }) ∧
  (∀ (dt : Nat) (s : State), s.mode ≠ .m0 → s.sup.powerFail = false →
    ∃ t, exec (.holdupBankCharged dt) s = .next t ∧ t.sup = { s.sup with holdupReady := true }) ∧
  (∀ (dt : Nat) (d : DiagIn) (s : State), s.mode ≠ .m0 → (s.elapse dt).onGrid 100000000 = true →
    ∃ t, exec (.curatorDiagnosticUpdate dt d) s = .next t ∧ t.sup.volts = [d.pwrA, d.pwrB] ∧ t.sup.power = d.power ∧
      t.sup.inlet = d.inlet ∧ t.sup.die = d.die ∧ t.sup.peak = fmax fmt32 s.sup.peak d.inlet) ∧
  (∀ (dt : Nat) (s : State), s.savesRetained = true → (s.elapse dt).since s.ret.lastTick s.savePeriod = true →
    ∃ t, exec (.periodicRetainSave dt) s = .next t ∧ t.ret = { s.ret with
      save := some ((s.elapse dt).now, false, s.retainedParts), dirty := [], lastTick := (s.elapse dt).tick, saving := none }) ∧
  (∀ (dt : Nat) (s : State), s.savesRetained = true →
    (s.elapse dt).since (max (s.ret.lastTick + s.savePeriod) (s.ret.saving.getD 0)) s.savePeriod = true →
    ∃ t, exec (.retainSaveTimeout dt) s = .next t ∧ t.ret = { s.ret with saving := some (s.elapse dt).tick } ∧
      Occurs (s.elapse dt) t 17 [(1, 1), (4, 4096 * s.ret.dirty.length),
        (4, ((s.elapse dt).tick - s.ret.lastTick) / Config.ticksPerMs)])

/-- Rows on programs, values and forces complete: PROGRAM_LOAD appends its block to the slot that is not running (R157),
PROGRAM_SWITCH leaves the switch pending for its boundary (R158), in M8 the switch gap begins, the mapped bytes are copied once no cycle
is open, and the gap ends with the new program running (R159, R160), VALUE_WRITE queues its values for its task (R154) and
VALUE_WRITE_APPLY applies those whose cycle has come (R155, R156), FORCE_SET enters a force (R150, R152), FORCE_CLEAR ends the
forces it names (R150, R152), and TASK_TRIGGER sets a start, its response held (R551). -/
def Obligations.ProgramRowsComplete : Prop :=
  (∀ (dt : Nat) (p : Packet) (x : Session) (b : List Byte) (s : State), Accepted programLoadCmd (s.elapse dt) p x →
    ((reqOf p).arg = 0 ∧ b = (reqOf p).body) ∨
      ((reqOf p).arg ≠ 0 ∧ s.tk.loadNext = some (reqOf p).arg ∧ b = (s.progSlot s.loadSlot).bytes ++ (reqOf p).body) →
    ¬ (128 ≤ b.length ∧ leAt b 8 4 < b.length) →
    ∃ t, exec (.programLoad dt p) s = .next t ∧ (t.progSlot s.loadSlot).bytes = b ∧ t.tk.loadNext = some b.length ∧
      (t.progSlot s.loadSlot).complete = (decide (128 ≤ b.length) && leAt b 8 4 == b.length) ∧
      t.progSlot (1 - s.loadSlot) = s.progSlot (1 - s.loadSlot) ∧ Answers t p x s.mode s.role .ok 0 []) ∧
  (∀ (dt : Nat) (p : Packet) (x : Session) (s : State), Accepted programSwitchCmd (s.elapse dt) p x →
    ∃ t, exec (.programSwitch dt p) s = .next t ∧
      t.tk = { s.tk with switch := some ⟨beAt (reqOf p).body 0 1, beAt (reqOf p).body 1 1 == 1, some s.mbx.nextOp,
        if s.mode = .m8 then frameAtOrAfter ((s.elapse dt).now + s.eff 0x0109 * 1000) else frameAfter (s.elapse dt).now, none, none⟩ } ∧
      Answers t p x s.mode s.role .accepted 0 []) ∧
  (∀ (dt : Nat) (w : ProgSwitch) (s : State), s.tk.switch = some w → w.since = none → s.mode = .m8 →
    w.at_ ≤ (s.elapse dt).now → s.switchRefused w = none →
    ∃ t, exec (.programSwitchGap dt) s = .next t ∧ t.tk = { s.tk with switch := some { w with since := some (s.elapse dt).tick } }) ∧
  (∀ (dt : Nat) (w : ProgSwitch) (st : Status) (k : Nat) (s : State), s.tk.switch = some w → w.since = none → s.mode = .m8 →
    w.at_ ≤ (s.elapse dt).now → s.switchRefused w = some (st, k) →
    ∃ t, exec (.programSwitchGap dt) s = .next t ∧ t.tk = { s.tk with switch := none } ∧
      ∀ op, w.op = some op → t.mbx.async.find? (·.id == op) = none) ∧
  (∀ (dt since : Nat) (w : ProgSwitch) (s : State), s.tk.switch = some w → w.since = some since → s.mode = .m8 →
    w.at_ ≤ (s.elapse dt).now → (∀ n < 32, s.cyc n = none) →
    (s.elapse dt).since (w.copying.getD (s.elapse dt).tick) (s.mappedBytes w / 32) = false →
    ∃ t, exec (.programSwitchGap dt) s = .next t ∧
      t.tk = { s.tk with switch := some { w with copying := some (w.copying.getD (s.elapse dt).tick) } }) ∧
  (∀ (dt since : Nat) (w : ProgSwitch) (s : State), s.tk.switch = some w → w.since = some since → s.mode = .m8 →
    w.at_ ≤ (s.elapse dt).now → (∀ n < 32, s.cyc n = none) →
    (s.elapse dt).since (w.copying.getD (s.elapse dt).tick) (s.mappedBytes w / 32) = true →
    ∃ t, exec (.programSwitchGap dt) s = .next t ∧ t.tk.switch = none ∧ t.tk.active = w.slot ∧ t.tk.loadNext = none ∧
      t.tk.prog = parseProgram (s.progSlot w.slot).bytes ∧ t.tk.switches = s.tk.switches + 1 ∧
      t.tk.gap = ((s.elapse dt).tick - since) / Config.ticksPerUs) ∧
  (∀ (dt : Nat) (p : Packet) (x : Session) (s : State), Accepted valueWriteCmd (s.elapse dt) p x →
    ∃ t, exec (.valueWrite dt p) s = .next t ∧
      t.task (beAt (reqOf p).body 0 1) = { s.task (beAt (reqOf p).body 0 1) with
        writes := (s.task (beAt (reqOf p).body 0 1)).writes ++
          [⟨vwEntries (reqOf p).body, some s.mbx.nextOp, x.id, (reqOf p).body, 0⟩] } ∧
      (∀ n, n ≠ beAt (reqOf p).body 0 1 → t.task n = s.task n) ∧ Answers t p x s.mode s.role .accepted 0 []) ∧
  (∀ (dt n y len v : Nat) (q : Sym) (w : ValueWrite) (s : State), n < 32 → s.cyc n = none → s.role ≠ .standby →
    (s.task n).abandoned = none → (s.task n).writes = [w] → w.entries = [(y, len, v)] → s.tk.prog.syms[y]? = some q → s.lk.writes = [] →
    ∃ t, exec (.valueWriteApply dt n) s = .next t ∧ (t.task n).writes = [] ∧ t.tk.changes = s.tk.changes + 1 ∧
      (bit q.flags 1 = false →
        (t.task n).area = areaPut (s.task n).area q.offset (if q.type = 12 then beBytes len v else leBytes len v)) ∧
      (bit q.flags 1 = true → s.tk.active ≤ 1 →
        (t.task n).area = (s.task n).area ∧ (y, v) ∈ (t.progSlot s.tk.active).patches) ∧
      Occurs (s.elapse dt) t 18 [(1, n), (4, wrapInc 32 (s.task n).osn), (2, 1)]) ∧
  (∀ (dt kind point v : Nat) (p : Packet) (x : Session) (s : State), Accepted forceSetCmd (s.elapse dt) p x →
    forceEntries (reqOf p).body = [(kind, point, v)] →
    ∃ t f, exec (.forceSet dt p) s = .next t ∧
      tget t.tk.forces ((s.forceSlot kind point).getD s.freeForce) {} = f ∧ f.kind = kind ∧ f.point = point ∧ f.value = v ∧
      f.setTime = (s.elapse dt).now ∧ f.ending = false ∧ Responds t p x s.mode s.role .ok 0 []) ∧
  (∀ (dt : Nat) (p : Packet) (x : Session) (s : State), Accepted forceClearCmd (s.elapse dt) p x →
    ∃ t, exec (.forceClear dt p) s = .next t ∧
      (∀ k ∈ s.clearSlots (reqOf p).body,
        (tget t.tk.forces k {}).ending = true ∨ (tget t.tk.forces k {}).kind = 0) ∧
      Responds t p x s.mode s.role .ok (s.clearSlots (reqOf p).body).length []) ∧
  (∀ (dt : Nat) (p : Packet) (x : Session) (s : State), Accepted taskTriggerCmd (s.elapse dt) p x →
    ∃ t l due, exec (.taskTrigger dt p) s = .next t ∧ (t.task (beAt (reqOf p).body 0 1)).trigger = some (due, l) ∧
      due ≤ frameAfter (s.elapse dt).now ∧ s.mbx.nextOp ∈ l ∧ t.out = [] ∧
      (∀ n, n ≠ beAt (reqOf p).body 0 1 → t.task n = s.task n))

/-- Rows on task cycles complete. Where the module decides its starts, a due start takes the next OSN (R129): it opens a cycle on
values frozen at t0 (R133), or is skipped and counted while one is open (R139). The slice load whose turn it is (R134) marks the cycle loaded (R133); a
close of the task that its pair runs (R130) commits the log and counts the cycle, and the next held start opens (R135, R140, R146); a release drives the cycle's digital
outputs and drops it from those that wait (R33, R420); a digest that is late by DigestWait is counted and its cycle released (R34); a
fault abandons the cycle with EV019 (R142, R145); a recovery run reopens the abandoned cycle (R146); and a repeat takes a new OSN
(R552). -/
def Obligations.TaskRowsComplete : Prop :=
  (∀ (dt n t0 : Nat) (s : State), n < 32 → (s.elapse dt).dueNow n = some t0 → s.mode.isRun = true → s.decidesStarts = true →
    ∃ t, exec (.taskDueStart dt n) s = .next t ∧ (t.task n).osn = wrapInc 32 (s.task n).osn ∧
      (s.inGap = false → (s.task n).stopped = false → s.cycOpen n = false → s.holdsStarts n = false → s.startsNoMore = false →
        ∃ c, t.cyc n = some c ∧ c.osn = wrapInc 32 (s.task n).osn ∧ c.t0 = t0 ∧ c.stamp = t0 ∧ c.loaded = false ∧
          c.recovery = false) ∧
      (s.inGap = false → (s.task n).stopped = false → s.cycOpen n = true → s.holdsStarts n = false →
        (t.task n).skips = satInc 32 (s.task n).skips ∧ t.cyc n = s.cyc n)) ∧
  (∀ (dt n : Nat) (c : Cycle) (s : State), n < 32 → s.cyc n = some c → (s.elapse dt).loadsNext n = true →
    ∃ t, exec (.sliceLoad dt n) s = .next t ∧ t.cyc n = some { c with loaded := true }) ∧
  (∀ (dt n : Nat) (d : CloseData) (c : Cycle) (s : State), n < 32 → s.halted n = false → s.cyc n = some c → (s.elapse dt).runsNow n = true →
    d.lines.length ≤ 4096 →
    ∃ t, exec (.taskClose dt n d) s = .next t ∧ t.cyc n = (s.task n).heldStarts.head? ∧
      (t.task n).executed = satInc 32 (s.task n).executed ∧ (t.task n).lastRun = d.run ∧
      (t.task n).longestRun = max (s.task n).longestRun d.run ∧ (t.task n).faults = 0 ∧
      (t.pair.resync = s.pair.resync → (t.task n).area = d.lines.foldl (fun a x => areaPut a (64 * x.1) (padTo 64 x.2)) (s.task n).area)) ∧
  (∀ (dt n osn : Nat) (h : Held) (s : State), n < 32 → (s.task n).waiting.find? (·.osn == osn) = some h →
    s.releasable n h = true →
    ∃ t, exec (.cycleRelease dt n osn) s = .next t ∧
      (t.task n).waiting = (s.task n).waiting.filter (fun y => y.osn != osn) ∧
      (s.role ≠ .isolated → (∀ x ∈ s.cycleDos n h.bp, (t.sw x.1).cmd = x.2) ∧ (t.task n).payload.isSome = true)) ∧
  (∀ (dt n osn : Nat) (h : Held) (s : State), n < 32 → (s.task n).waiting.find? (·.osn == osn) = some h → s.role = .primary →
    s.awaitsPartner = true → s.releasable n h = false →
    (s.elapse dt).since h.ready (s.eff 0x0202 * Config.ticksPerUs) = true →
    ∃ t, exec (.digestWaitExpiry dt n osn) s = .next t ∧ t.pair.lateDigests = s.pair.lateDigests + 1 ∧
      (t.task n).waiting = (s.task n).waiting.filter (fun y => y.osn != osn) ∧
      (∀ x ∈ s.cycleDos n h.bp, (t.sw x.1).cmd = x.2)) ∧
  (∀ (dt n cause : Nat) (addr : U64) (c : Cycle) (s : State), n < 32 → cause = 1 ∨ cause = 2 ∨ cause = 3 → s.cyc n = some c →
    (s.elapse dt).runsNow n = true → s.eff 0x03C4 = 0 ∨ (s.task n).faults + 1 < s.eff 0x03C4 →
    ∃ t, exec (.taskFault dt n cause addr) s = .next t ∧ t.cyc n = (s.task n).heldStarts.head? ∧
      (t.task n).faults = (s.task n).faults + 1 ∧ (t.task n).executed = satInc 32 (s.task n).executed ∧
      (t.task n).area = (s.task n).area ∧ (t.task n).prev = (s.task n).prev ∧
      t.tk.lastFault = n * 16777216 + cause * 65536 ∧
      Occurs (s.elapse dt) t 19 [(1, n), (1, cause), (4, c.osn), (8, if cause = 3 then 0 else addr.toNat)]) ∧
  (∀ (dt n cause : Nat) (addr : U64) (c : Cycle) (s : State), n < 32 → cause = 1 ∨ cause = 2 ∨ cause = 3 → s.cyc n = some c →
    (s.elapse dt).runsNow n = true → s.eff 0x03C4 ≠ 0 → s.eff 0x03C4 ≤ (s.task n).faults + 1 → (s.task n).stopped = false →
    ∃ t, exec (.taskFault dt n cause addr) s = .next t ∧ t.cyc n = none ∧ (t.task n).stopped = true ∧
      (t.task n).heldStarts = [] ∧ t.tk.lastFault = n * 16777216 + 5 * 65536) ∧
  (∀ (dt n : Nat) (c : Cycle) (s : State), n < 32 → (s.task n).abandoned = some c →
    (s.pairTasks (s.taskPair n)).all (fun m => m == n || (s.task m).abandoned.isNone) = true →
    (s.elapse dt).blocked (s.taskPair n) = false →
    ∃ t, exec (.recoveryRunStart dt n) s = .next t ∧ t.cyc n = some { c with loaded := true } ∧ (t.task n).abandoned = none ∧
      t.tk.restarts = s.tk.restarts + 1 ∧
      Occurs (s.elapse dt) t 72 [(1, s.taskPair n), (1, n), (4, c.osn), (1, (s.task n).heldStarts.length)]) ∧
  (∀ (dt n at_ : Nat) (y : Payload) (s : State), n < 32 → (s.elapse dt).repeatDue n = some at_ → (s.task n).payload = some y →
    s.role = .solo → s.mode = .m7 → s.taskOn n = true → (s.task n).startTick ≠ some (s.elapse dt).tick →
    ∃ t, exec (.repeatFrameSend dt n) s = .next t ∧ (t.task n).osn = wrapInc 32 (s.task n).osn ∧
      (t.task n).startTick = some (s.elapse dt).tick ∧ (t.task n).payload = some y)

/-- Rows on core pairs complete: SPLIT and JOIN begin a drain (R302–R304), which at its instant splits the pair with EV067, loads the
checker, breaks the pair for a debugger, or frees a pair for migration (R303, R304, R307, R320), and after 1 s is given up (R303); the
loaded checker joins the pair with EV068 (R304); a mismatch resets the pair and abandons the cycles it ran, to be run again (R294,
R295), and of CPS restarts the Curator (R295); injection tests leave their result (R298–R300); and a signature window that
ends, at 1,024 transfers or 100 µs, raises EV069 where the two signatures differ (R297). -/
def Obligations.CorePairRowsComplete : Prop :=
  (∀ (dt : Nat) (p : Packet) (x : Session) (s : State), Accepted splitCmd (s.elapse dt) p x →
    ∃ t, exec (.split dt p) s = .next t ∧
      t.corePair (beAt (reqOf p).body 0 1) = { s.corePair (beAt (reqOf p).body 0 1) with
        drain := some ⟨.split, (s.elapse dt).tick, some s.mbx.nextOp, none⟩ } ∧
      (∀ k, k ≠ beAt (reqOf p).body 0 1 → t.corePair k = s.corePair k) ∧ Answers t p x s.mode s.role .accepted 0 []) ∧
  (∀ (dt : Nat) (p : Packet) (x : Session) (s : State), Accepted joinCmd (s.elapse dt) p x →
    ∃ t, exec (.join dt p) s = .next t ∧
      t.corePair (beAt (reqOf p).body 0 1) = { s.corePair (beAt (reqOf p).body 0 1) with
        drain := some ⟨.join, (s.elapse dt).tick, some s.mbx.nextOp, none⟩ } ∧
      (∀ k, k ≠ beAt (reqOf p).body 0 1 → t.corePair k = s.corePair k) ∧ Answers t p x s.mode s.role .accepted 0 []) ∧
  (∀ (dt p : Nat) (d : Drain) (s : State), p < 10 → (s.corePair p).drain = some d → d.loading = none → s.pairIdle p = true →
    s.mode ≠ .m3 ∨ (s.elapse dt).atFrame = true →
    ∃ t, exec (.splitDrainInstant dt p) s = .next t ∧
      (d.kind = .split → t.corePair p = { s.corePair p with drain := none, room := 2, reset := some (s.elapse dt).tick } ∧
        Occurs (s.elapse dt) t 67 [(1, p), (4, s.eff (0x0701 + 8 * p))]) ∧
      (d.kind = .join ∨ d.kind = .detach →
        t.corePair p = { s.corePair p with drain := some { d with loading := some (s.elapse dt).tick } }) ∧
      (d.kind = .attach → t.corePair p = { s.corePair p with drain := none, room := 3 } ∧
        ∀ g, s.lk.debugger = some g → Occurs (s.elapse dt) t 70 [(1, p), (4, g.session.toNat), (1, 1)]) ∧
      (d.kind = .migrate → t.corePair p = { s.corePair p with drain := none } ∧
        t.annex.waiting = s.annex.waiting.map (fun m => if m.resource = p then { m with ready := true } else m)) ∧
      (∀ k, k ≠ p → t.corePair k = s.corePair k)) ∧
  (∀ (dt p : Nat) (d : Drain) (s : State), p < 10 → (s.corePair p).drain = some d → d.loading = none → d.kind ≠ .detach →
    (s.elapse dt).since d.since Config.ticksPerSecond = true →
    ∃ t, exec (.splitDrainTimeout dt p) s = .next t ∧ t.corePair p = { s.corePair p with drain := none } ∧
      (d.kind = .attach → t.lk.debugger = none) ∧
      (d.kind = .migrate → t.annex.waiting = s.annex.waiting.filter (fun m => m.resource != p)) ∧
      ∀ op, d.op = some op → t.mbx.async.find? (·.id == op) = none) ∧
  (∀ (dt p since : Nat) (d : Drain) (s : State), p < 10 → (s.corePair p).drain = some d → d.loading = some since →
    (s.elapse dt).since since (40 * Config.ticksPerUs) = true →
    ∃ t, exec (.joinLoadDone dt p) s = .next t ∧ t.corePair p = { s.corePair p with drain := none, room := s.joinedRoom p } ∧
      Occurs (s.elapse dt) t 68 [(1, p), (8, ((s.elapse dt).tick - since) * 8)] ∧
      ∀ n ∈ s.pairTasks p, s.cyc n = none → t.cyc n = (s.task n).heldStarts.head?) ∧
  (∀ (dt p kind lane : Nat) (running saving : Option Nat) (committed : Bool) (s : State), p < 10 → lane < 64 → kind < 3 →
    s.mode ≠ .m0 → (s.corePair p).room ≠ 2 → (s.corePair p).room ≠ 3 →
    ∃ t, exec (.lockstepMismatch dt p kind lane running saving committed) s = .next t ∧
      (t.corePair p).reset = some (s.elapse dt).tick ∧ (t.corePair p).mismatches = (s.corePair p).mismatches + 1 ∧
      (t.corePair p).lastTime = (s.elapse dt).now ∧
      (∀ n c, committed = false → running = some n ∨ saving = some n → s.taskPair n = p → s.cyc n = some c →
        t.cyc n = none ∧ (t.task n).abandoned = some { c with recovery := true, loaded := false } ∧
        (t.task n).recovering = true) ∧
      (committed = true → t.tk.task = s.tk.task)) ∧
  (∀ (dt kind lane : Nat) (running saving : Option Nat) (committed : Bool) (s : State), lane < 64 → kind < 3 →
    s.mode ≠ .m0 → s.mbx.restarting = none →
    ∃ t, exec (.lockstepMismatch dt 10 kind lane running saving committed) s = .next t ∧
      t.mbx.restarting = some (1, (s.elapse dt).tick) ∧ (t.corePair 10).mismatches = (s.corePair 10).mismatches + 1) ∧
  (∀ (dt p : Nat) (passed : U64) (s : State), p < 11 → s.mode ≠ .m0 → s.mode ≠ .m11 → (s.corePair p).failed = false →
    (s.corePair p).room ≠ 2 → (p < 10 → s.pairIdle p = true ∧ (s.pairTasks p).any (s.elapse dt).dueSoon = false) →
    s.mode = .m1 ∨ (s.corePair p).tested + (if p < 10 ∧ s.resState p = 1 then 60 else 86400) ≤ (s.elapse dt).ident.opSeconds →
    ∃ t, exec (.injectionTest dt p passed) s = .next t ∧ (t.corePair p).result = passed ∧
      (t.corePair p).tested = (s.elapse dt).ident.opSeconds ∧
      (passed = BitVec.allOnes 64 → (t.corePair p).fails = 0 ∧ (t.corePair p).failedAt = none) ∧
      (passed ≠ BitVec.allOnes 64 → (t.corePair p).fails = min 65535 ((s.corePair p).fails + 1) ∧
        ((s.corePair p).fails < 2 → (t.corePair p).failedAt = some (s.elapse dt).tick ∧
          Occurs (s.elapse dt) t 66 [(1, p), (8, (~~~ passed).toNat)]))) ∧
  (∀ (dt p k : Nat) (passed : U64) (s : State), p < 11 → (s.corePair p).failedAt = some k →
    (s.elapse dt).since k Config.ticksPerSecond = true →
    (p < 10 → s.pairIdle p = true) →
    ∃ t, exec (.injectionRetest dt p passed) s = .next t ∧ (t.corePair p).result = passed ∧
      (passed = BitVec.allOnes 64 → (t.corePair p).fails = 0 ∧ (t.corePair p).failedAt = none) ∧
      (passed ≠ BitVec.allOnes 64 → (t.corePair p).fails = min 65535 ((s.corePair p).fails + 1))) ∧
  (∀ (dt u count first : Nat) (a b : U64) (s : State), 13 ≤ u → u ≤ 15 → a ≠ b →
    count = 1024 ∨ (count < 1024 ∧ ∀ k, (tget s.lk.window u {}).closed = some k → (s.elapse dt).since k (100 * Config.ticksPerUs) = true) →
    ∃ t, exec (.signatureWindowClose dt u count first a b) s = .next t ∧
      Occurs (s.elapse dt) t 69 [(1, u), (4, count), (8, first)] ∧
      (u = 14 → ∀ c < 8, (tget t.ai.conv c {}).window = []) ∧
      (u = 15 → t.arch.rebuilds = wrapInc 32 s.arch.rebuilds)) ∧
  (∀ (dt count first : Nat) (a : U64) (s : State),
    count = 1024 ∨ (count < 1024 ∧ ∀ k, (tget s.lk.window 15 {}).closed = some k → (s.elapse dt).since k (100 * Config.ticksPerUs) = true) →
    ∃ t, exec (.signatureWindowClose dt 15 count first a a) s = .next t ∧
      (tget t.lk.window 15 {}).firstSeq = s.arch.next ∧ t.arch = s.arch)

/-- Rows of the debugger complete: DEBUG_ATTACH attaches, in the reading room where the variant has one and else at the pair's drain
(R305, R307, R308), DEBUG_DETACH detaches (R305), and the debug actions read and write registers and memory and set break- and
tracepoints as R306, R309 and R345 give. Registers of a running core and bytes whose layout the spec does not give read as free values
(log 8): nothing is said of them. -/
def Obligations.DebugRowsComplete : Prop :=
  (∀ (dt : Nat) (p : Packet) (x : Session) (s : State), Accepted debugAttachCmd (s.elapse dt) p x →
    ∃ t, exec (.debugAttach dt p) s = .next t ∧
      t.lk.debugger = some ⟨beAt (reqOf p).body 0 1, x.id, if s.has .dbg then 2 else 1, false, [], [], (s.elapse dt).tick, 0⟩ ∧
      (s.has .dbg = true → (t.corePair (beAt (reqOf p).body 0 1)).room = 4) ∧
      (s.has .dbg = false → (t.corePair (beAt (reqOf p).body 0 1)).drain = some ⟨.attach, (s.elapse dt).tick, none, none⟩) ∧
      Answers t p x s.mode s.role .ok (if s.has .dbg then 2 else 1) []) ∧
  (∀ (dt : Nat) (p : Packet) (x : Session) (g : Debugger) (s : State), Accepted debugDetachCmd (s.elapse dt) p x →
    s.lk.debugger = some g →
    ∃ t, exec (.debugDetach dt p) s = .next t ∧ t.lk.debugger = none ∧
      (g.kind = 2 → (t.corePair g.pair).room = if (s.corePair g.pair).room = 4 then 0 else (s.corePair g.pair).room) ∧
      (g.kind ≠ 2 → (t.corePair g.pair).drain = some ⟨.detach, (s.elapse dt).tick, none, none⟩) ∧
      Answers t p x s.mode s.role .ok 0 []) ∧
  (∀ (dt count : Nat) (p : Packet) (x : Session) (g : Debugger) (s : State), DebugHeard 0x0001 (s.elapse dt) p x g →
    ∃ t b, exec (.debugReadRegisters dt p count) s = .next t ∧ DebugAnswers t p x s.mode s.role .ok b ∧
      b.length = 8 * min count 64 ∧
      ∀ k < min count 64, ∀ v, tlook s.lk.regs (g.pair * 65536 + k) = some v → slice b (8 * k) 8 = beBytes 8 v.toNat) ∧
  (∀ (dt reg : Nat) (v : U64) (p : Packet) (x : Session) (g : Debugger) (s : State), DebugHeard 0x0002 (s.elapse dt) p x g →
    g.halted = true → reg ≤ 65535 →
    ∃ t, exec (.debugWriteRegister dt p reg v) s = .next t ∧ t.lk.regs = tput s.lk.regs (g.pair * 65536 + reg) v ∧
      DebugAnswers t p x s.mode s.role .ok []) ∧
  (∀ (dt task addr len : Nat) (a : Area) (p : Packet) (x : Session) (g : Debugger) (s : State),
    DebugHeard 0x0003 (s.elapse dt) p x g → memRefused a task len 4096 = none → s.touchesSeal a addr len = false →
    ∃ t b, exec (.debugReadMemory dt p a task addr len) s = .next t ∧ DebugAnswers t p x s.mode s.role .ok b ∧
      b.length = len ∧
      (a = .ownState → ∀ i < len, b.getD i 0 = tget (s.task task).area (addr + i) 0) ∧
      (a ≠ .ownState → ∀ i < len, ∀ v, tlook s.lk.dram (addr + i) = some v → b.getD i 0 = v)) ∧
  (∀ (dt task addr len : Nat) (a : Area) (p : Packet) (x : Session) (g : Debugger) (s : State),
    DebugHeard 0x0003 (s.elapse dt) p x g → memRefused a task len 4096 = none → s.touchesSeal a addr len = true →
    ∃ t, exec (.debugReadMemory dt p a task addr len) s = .next t ∧
      DebugAnswers t p x s.mode s.role .sealed_ (List.replicate len 0) ∧
      Occurs (s.elapse dt) t 101 [(1, g.pair), (4, g.session.toNat), (8, addr), (2, len)]) ∧
  (∀ (dt task addr : Nat) (bytes : List Byte) (a : Area) (p : Packet) (x : Session) (g : Debugger) (s : State),
    DebugHeard 0x0004 (s.elapse dt) p x g → memRefused a task bytes.length 64 = none → s.touchesSeal a addr bytes.length = false →
    ∃ t, exec (.debugWriteMemory dt p a task addr bytes) s = .next t ∧ DebugAnswers t p x s.mode s.role .ok [] ∧
      (a = .ownState → s.mode = .m4 ∨ s.mode = .m5 ∨ s.mode = .m6 →
        t.lk.writes = s.lk.writes ++ [⟨task, addr, bytes⟩] ∧ t.tk = s.tk) ∧
      (a = .ownState → s.mode ≠ .m4 → s.mode ≠ .m5 → s.mode ≠ .m6 →
        (t.task task).area = areaPut (s.task task).area addr bytes) ∧
      (a ≠ .ownState → (∀ i < bytes.length, tlook t.lk.dram (addr + i) = some (bytes.getD i 0)) ∧
        ∀ j, j < addr ∨ addr + bytes.length ≤ j → tlook t.lk.dram j = tlook s.lk.dram j)) ∧
  (∀ (dt addr : Nat) (on : Bool) (p : Packet) (x : Session) (g : Debugger) (s : State), DebugHeard 0x0005 (s.elapse dt) p x g →
    s.mode = .m8 →
    ∃ t y, exec (.debugBreakpoint dt p addr on) s = .next t ∧ t.lk.debugger = some y ∧
      y.breakpoints = g.breakpoints.filter (· != addr) ++ (if on then [addr] else []) ∧
      DebugAnswers t p x s.mode s.role .ok []) ∧
  (∀ (dt : Nat) (p : Packet) (x : Session) (g : Debugger) (s : State), DebugHeard 0x0006 (s.elapse dt) p x g → s.mode = .m8 →
    ∃ t y, exec (.debugHalt dt p) s = .next t ∧ t.lk.debugger = some y ∧ y.halted = true ∧ t.lk.regs = s.lk.regs ∧
      DebugAnswers t p x s.mode s.role .ok []) ∧
  (∀ (dt : Nat) (p : Packet) (x : Session) (g : Debugger) (s : State), DebugHeard 0x0006 (s.elapse dt) p x g → s.mode = .m8 →
    ∃ t y, exec (.debugResume dt p) s = .next t ∧ t.lk.debugger = some y ∧ y.halted = false ∧
      DebugAnswers t p x s.mode s.role .ok []) ∧
  (∀ (dt : Nat) (regs : List (Nat × U64)) (p : Packet) (x : Session) (g : Debugger) (s : State),
    DebugHeard 0x0006 (s.elapse dt) p x g → s.mode = .m8 →
    ∃ t y, exec (.debugStep dt p regs) s = .next t ∧ t.lk.debugger = some y ∧ y.halted = true ∧
      t.lk.regs = regs.foldl (fun l r => tput l (g.pair * 65536 + r.1 % 65536) r.2) s.lk.regs ∧
      DebugAnswers t p x s.mode s.role .ok []) ∧
  (∀ (dt addr : Nat) (on : Bool) (p : Packet) (x : Session) (g : Debugger) (s : State), DebugHeard 0x0007 (s.elapse dt) p x g →
    ∃ t y, exec (.debugTracepoint dt p addr on) s = .next t ∧ t.lk.debugger = some y ∧
      y.tracepoints = g.tracepoints.filter (· != addr) ++ (if on then [addr] else []) ∧
      DebugAnswers t p x s.mode s.role .ok [])

/-- Rows of the frames that pass between the modules' tasks complete: an agreed input frame opens the STANDBY's cycle on its slice, or
counts the skip it tells (R30, R31, R128, R261); an equal digest, or any on the PRIMARY, and a withheld marker release the waiting cycle
(R33, R34, R264); an unequal one makes the STANDBY diverge, take the PRIMARY's outputs and withhold its own (R265, R270); unequal
retained sums raise EV042 (R266); and a void notice abandons the STANDBY's open cycles whose frame it names, and resynchronises (R297). -/
def Obligations.TaskFrameRowsComplete : Prop :=
  (∀ (dt : Nat) (h : LaneHdr) (f : AgreedIn) (s e : State), s.elapse dt = e → Taken e h → f.task < 32 →
    e.role = .standby → e.mode = .m5 → e.mu.entryTime ≤ f.stamp → e.pair.resync = false →
    (e.task f.task).lastStamp = 0 ∨ (f.osn + 2 ^ 32 - (e.task f.task).osn) % 2 ^ 32 = 1 →
    f.digest = e.tk.prog.digest.toNat → (e.task f.task).stopped = false → e.cycOpen f.task = false → e.holdsStarts f.task = false →
    e.startsNoMore = false → (e.task f.task).trigger = none →
    ∃ t, exec (.agreedInputFrame dt h f) s = .next t ∧
      (t.task f.task).osn = f.osn ∧ (t.task f.task).epoch = f.epoch ∧ (t.task f.task).lastStamp = f.stamp ∧
      (f.skip = false → t.cyc f.task = some ⟨f.stamp, f.osn, f.stamp, f.ap, f.bp, false, f.forces, false, false, e.tick,
          f.pairWord⟩ ∧
        (t.task f.task).skips = (e.task f.task).skips) ∧
      (f.skip = true → t.cyc f.task = none ∧ (t.task f.task).skips = satInc 32 (e.task f.task).skips ∧
        Occurs e t 10 [(1, f.task), (4, f.osn), (4, satInc 32 (e.task f.task).skips)]) ∧
      (∀ n, n ≠ f.task → t.task n = { e.task n with due := (t.task n).due })) ∧
  (∀ (dt : Nat) (h : LaneHdr) (f : AgreedIn) (s e : State), s.elapse dt = e → Taken e h → f.task < 32 →
    e.role = .standby → e.mode = .m5 → e.mu.entryTime ≤ f.stamp → e.pair.resync = false → (e.task f.task).lastStamp ≠ 0 →
    (f.osn + 2 ^ 32 - (e.task f.task).osn) % 2 ^ 32 = 2 → (e.task f.task).lateOsns = [] →
    ∃ t, exec (.agreedInputFrame dt h f) s = .next t ∧ (t.task f.task).osn = f.osn ∧
      Occurs e t 41 [(1, f.task), (4, ((e.task f.task).osn + 1) % 2 ^ 32)]) ∧
  (∀ (dt : Nat) (h : LaneHdr) (f : DigestIn) (w : Held) (s e : State), s.elapse dt = e → Taken e h → f.task < 32 →
    e.awaitsPartner = true → f.osn ∉ (e.task f.task).withheld → (e.task f.task).peers.find? (·.osn == f.osn) = none →
    (e.task f.task).waiting.find? (·.osn == f.osn) = some w → e.role = .primary ∨ w.digest = f.digest →
    ∃ t, exec (.digestFrame dt h f) s = .next t ∧
      (t.task f.task).waiting = (e.task f.task).waiting.filter (fun x => x.osn != f.osn) ∧
      (t.task f.task).payload.map (·.stamp) = some w.stamp ∧ t.pair.divergences = e.pair.divergences ∧
      (∀ n, n ≠ f.task → t.task n = e.task n)) ∧
  (∀ (dt : Nat) (h : LaneHdr) (f : DigestIn) (w : Held) (s e : State), s.elapse dt = e → Taken e h → f.task < 32 →
    e.awaitsPartner = true → f.osn ∉ (e.task f.task).withheld → (e.task f.task).peers.find? (·.osn == f.osn) = none →
    (e.task f.task).waiting.find? (·.osn == f.osn) = some w → e.role = .standby → w.digest ≠ f.digest →
    ∃ t, exec (.digestFrame dt h f) s = .next t ∧ t.pair.divergences = e.pair.divergences + 1 ∧
      e.pair.mirrors < t.pair.mirrors ∧ (∀ x ∈ (t.task f.task).waiting, x.osn ≠ f.osn) ∧
      ∃ last, Occurs e t 40 [(1, 1), (1, f.task), (4, f.osn), (1, last)]) ∧
  (∀ (dt n cause osn : Nat) (h : LaneHdr) (w : Held) (s e : State), s.elapse dt = e → Taken e h → n < 32 →
    e.awaitsPartner = true → (e.task n).waiting.find? (·.osn == osn) = some w →
    ∃ t, exec (.withheldMarker dt h n cause osn) s = .next t ∧
      (t.task n).waiting = (e.task n).waiting.filter (fun x => x.osn != osn) ∧
      (t.task n).payload.map (·.stamp) = some w.stamp ∧ (∀ m, m ≠ n → t.task m = e.task m)) ∧
  (∀ (dt n osn : Nat) (sum own : U64) (h : LaneHdr) (s e : State), s.elapse dt = e → Taken e h → n < 32 →
    (e.task n).ownSum = some (osn, own) →
    ∃ t, exec (.retainedHashFrame dt h n osn sum) s = .next t ∧ (t.task n).peerSum = some (osn, sum) ∧
      (own = sum → t.pair.divergences = e.pair.divergences) ∧
      (own ≠ sum → e.role = .standby → e.pair.sync = true → e.pair.resync = false →
        t.pair.divergences = e.pair.divergences + 1 ∧
        Occurs e t 42 [(1, n), (4, osn), (8, own.toNat), (8, sum.toNat)])) ∧
  (∀ (dt first count n q : Nat) (c : Cycle) (h : LaneHdr) (s e : State), s.elapse dt = e → Taken e h → e.role = .standby →
    n < 32 → e.cyc n = some c → (e.task n).frameSeq = some q → (q + 2 ^ 32 - first % 2 ^ 32) % 2 ^ 32 < count →
    ∃ t, exec (.voidNotice dt h first count) s = .next t ∧ t.cyc n = none ∧ t.pair.resync = true ∧
      ∀ m, e.cyc m = none → t.cyc m = none)

/-- Rows of the pair's other frames complete: copy data is taken, item by item (R275); a switch announcement this module can follow is
confirmed and waits for its instant, a refusal drops the change, and the end of a resynchronisation is noted (R39, R271); a departure
notice names its boundary (R278); pair-effective commands are scheduled, refused or answered as R83 gives, and applied at their boundary
(R83); a station's state, a time correction and the start of a picture are followed (R444, R451, R483); a forwarded response goes back to
its host and frees its mailbox (R69); an accession frame is met with the copy where every rule is met, and with the cause where one is not
(R273); and a status frame gives the partner's mode, role and flag (R260). -/
def Obligations.PairFrameRowsComplete : Prop :=
  (∀ (dt n l ep o : Nat) (b : List Byte) (r : LoopRec) (c : Copy) (h : LaneHdr) (s e : State), s.elapse dt = e → Taken e h →
    n < 32 → e.pair.copy = some c → c.taking = true →
    (∃ t, exec (.copyDataFrame dt h [.line n l b]) s = .next t ∧
      (t.task n).area = areaPut (e.task n).area (64 * l) (padTo 64 b) ∧ (∀ m, m ≠ n → t.task m = e.task m) ∧
      t.pair.copy = some { c with bytes := c.bytes + b.length }) ∧
    (∃ t, exec (.copyDataFrame dt h [.stream n ep o]) s = .next t ∧ (t.task n).epoch = ep % 256 ∧
      (t.task n).osn = o % 2 ^ 32 ∧ t.pair.copy = some c) ∧
    (∃ t, exec (.copyDataFrame dt h [.loop n r]) s = .next t ∧ tget t.loop.rec_ n {} = recTake (tget e.loop.rec_ n {}) r ∧
      ∀ m, m ≠ n → tget t.loop.rec_ m {} = tget e.loop.rec_ m {})) ∧
  (∀ (dt : Nat) (a : SwitchIn) (h : LaneHdr) (s e : State), s.elapse dt = e → Taken e h → e.mu.slot ≠ 0xFF → a.what = 0 →
    e.mu.pending = none → e.mu.joinOp = none → e.canFollow (Mode.ofNum a.arg) = true →
    ∃ t c l, exec (.switchAnnouncement dt h a) s = .next t ∧ t.mu.pending = some c ∧ c.target = Mode.ofNum a.arg ∧
      c.at_ = a.at_ ∧ c.pair = true ∧ c.confirmed = true ∧ (.lane (e.frameOf 0x0A ([1, 5, a.at_, 0] ++ l)) : Emission) ∈ t.out) ∧
  (∀ (dt : Nat) (a : SwitchIn) (c : ModeChange) (h : LaneHdr) (s e : State), s.elapse dt = e → Taken e h → a.what = 6 →
    e.mu.pending = some c → c.at_ = a.at_ →
    ∃ t, exec (.switchAnnouncement dt h a) s = .next t ∧ t.mu.pending = none ∧ t.pair.swap = none ∧ t.mu.mode = e.mu.mode ∧
      ∀ op, c.op = some op → t.mbx.async.find? (·.id == op) = none) ∧
  (∀ (dt : Nat) (a : SwitchIn) (h : LaneHdr) (s e : State), s.elapse dt = e → Taken e h → a.what = 4 → e.pair.resync = true →
    ∃ t, exec (.switchAnnouncement dt h a) s = .next t ∧ t.pair.resumeAt = some a.at_) ∧
  (∀ (dt f : Nat) (h : LaneHdr) (s e : State), s.elapse dt = e → Taken e h → e.mode = .m4 ∨ e.mode = .m5 →
    e.pair.departure = none →
    ∃ t, exec (.departureNotice dt h f) s = .next t ∧ t.pair.departure = some ⟨f, false, 0⟩) ∧
  (∀ (dt : Nat) (c : RelayIn) (h : LaneHdr) (s e : State), s.elapse dt = e → Taken e h → c.stage = 0 → e.mbx.relays = [] →
    ∃ t, exec (.commandRelay dt h c) s = .next t ∧
      (e.canApply c = true → t.mbx.scheduled = e.mbx.scheduled ++ [⟨c.code, c.body, c.at_, none, c.session, c.counter⟩]) ∧
      (e.canApply c = false → e.mu.slot ≠ 0xFF → t.mbx = e.mbx ∧ (.lane (e.frameOf 0x0A
        [4, c.code, 3, Status.partnerRefused.code, c.session.toNat, c.counter, noPos]) : Emission) ∈ t.out)) ∧
  (∀ (dt : Nat) (c : RelayIn) (k : Cmd) (h : LaneHdr) (s e : State), s.elapse dt = e → Taken e h → c.stage = 1 →
    pairCmd c.code = some k → e.role ≠ .primary → e.mu.slot ≠ 0xFF →
    ∃ t, exec (.commandRelay dt h c) s = .next t ∧ t.mbx = e.mbx ∧
      (.lane (e.frameOf 0x0A [4, c.code, 2, Status.partnerRefused.code, c.session.toNat, c.counter, noPos]) : Emission) ∈ t.out) ∧
  (∀ (dt : Nat) (c : RelayIn) (x : Relay) (h : LaneHdr) (s e : State), s.elapse dt = e → Taken e h → c.stage = 2 →
    e.mbx.relays.find? (fun x => x.session == c.session && x.counter == c.counter && x.code == c.code) = some x →
    Status.ofCode c.status ≠ .accepted → x.req.target = 0 → e.mbx.restarting = none →
    ∃ t, exec (.commandRelay dt h c) s = .next t ∧ t.mbx.relays = e.mbx.relays.filter (fun y => y != x) ∧
      response x.req ((e.session x.session).map (·.key)) x.session (Status.ofCode c.status) c.arg e.mode e.role [] ∈ t.out) ∧
  (∀ (dt : Nat) (c : PairCmd) (l : List PairCmd) (s e : State), s.elapse dt = e → e.mbx.scheduled = c :: l → c.at_ ≤ e.now →
    (∀ d ∈ l, e.now < d.at_) → c.code = 0x0042 →
    ∃ t, exec (.pairCommandApply dt) s = .next t ∧ t.mbx.scheduled = l ∧
      (t.task (beAt c.body 0 1)).writes =
        (e.task (beAt c.body 0 1)).writes ++ [⟨vwEntries c.body, c.op, c.session, c.body, e.now⟩]) ∧
  (∀ (dt f slot st rev per : Nat) (h : LaneHdr) (s e : State), s.elapse dt = e → Taken e h → slot < 250 → e.canLead = false →
    ∃ t, exec (.stationStateAnnouncement dt h f slot st rev per) s = .next t ∧
      t.net = { e.net with announced := e.net.announced ++ [(f, slot, st, rev, per)] }) ∧
  (∀ (dt f cause : Nat) (c : Int) (h : LaneHdr) (s e : State), s.elapse dt = e → Taken e h → e.canLead = false →
    ∃ t, exec (.timeCorrectionAnnouncement dt h f c cause) s = .next t ∧ t.clk = { e.clk with corr := some ⟨c, f, cause, none⟩ }) ∧
  (∀ (dt r band start pic : Nat) (refresh : Bool) (h : LaneHdr) (s e : State), s.elapse dt = e → Taken e h → r < 8 →
    e.has .pnl = true → e.panelOwner = false →
    ∃ t, exec (.panelStartAnnouncement dt h r band start pic refresh) s = .next t ∧ (t.region r).queued = none ∧
      ∀ k, k ≠ r → t.region k = e.region k) ∧
  (∀ (dt box : Nat) (f : Forward) (d : List Byte) (h : LaneHdr) (s e : State), s.elapse dt = e → Taken e h →
    (tget e.mbx.boxes box {}).fwd = some f → beAt d 0x18 4 = f.counter → e.mbx.restarting = none →
    ∃ t, exec (.mailboxForwardFrame dt h (.response box d)) s = .next t ∧ (tget t.mbx.boxes box {}).fwd = none ∧
      t.out = [.mailbox f.via 47210 f.addr f.port.toNat d]) ∧
  (∀ (dt : Nat) (a : AccessIn) (h : LaneHdr) (s e : State), s.elapse dt = e → Taken e h → a.asks = true →
    e.pair.joining = false →
    ∃ t, exec (.accessionFrame dt h a) s = .next t ∧
      (e.accessionCause a e.mode = 0 → t.pair.joining = true ∧ t.pair.refuseCause = 0 ∧
        t.pair.copy = some ⟨e.tick, false, e.copyBytes⟩ ∧ t.pair.revision = min e.syncMax a.revMax) ∧
      (e.accessionCause a e.mode ≠ 0 → t.pair.joining = false ∧ t.pair.refuseCause = e.accessionCause a e.mode)) ∧
  (∀ (dt : Nat) (x : StatusIn) (h : LaneHdr) (s e : State), s.elapse dt = e → Taken e h →
    ∃ t, exec (.statusFrame dt h x) s = .next t ∧ t.pair.gone = false ∧ t.pair.partner.mode = some (Mode.ofNum x.mode) ∧
      t.pair.partner.role = Role.ofNum x.role ∧ t.pair.partner.loaded = x.loaded ∧ t.pair.partner.flag = x.flag ∧
      t.clk.lanePeerOffset = x.offset)

/-- Rows on the lanes and the heartbeat complete, and with them the changes a lost or departing partner brings: a lane falls with EV033,
and the last one with EV034 (R258, R277); it returns (R258); a lost heartbeat gives EV035, and with no lane left the module goes on alone
in M6 (R257, R277); the isolating pattern and F1 isolate slot B, and slot A leads (R257, R279); at F of a departure the partner goes on in
M6 and the departing module drops its outputs (R278); the copy ends with EV038 and the announcement of its instant (R275, R276), or is given
up after 60 s (R275); and a completed soak asks for the takeback, anew 60 s after a refusal (R281). -/
def Obligations.PairLossRowsComplete : Prop :=
  (∀ (dt l cause : Nat) (s e : State), s.elapse dt = e → l < 2 → (e.laneOf l).up = true →
    (cause = 1 ∧ e.since (e.laneOf l).lastGood (100 * Config.ticksPerUs) = true) ∨ cause = 2 →
    ∃ t, exec (.syncLaneDown dt l cause) s = .next t ∧ (t.laneOf l).up = false ∧
      (t.laneOf l).downs = (e.laneOf l).downs + 1 ∧ (t.laneOf l).downTime = e.now ∧ t.laneOf (1 - l) = e.laneOf (1 - l) ∧
      Occurs e t 33 [(1, l), (1, cause)] ∧
      ((e.laneOf (1 - l)).up = false → Occurs e t 34 [(1, b2n e.pair.heartbeat)] ∧ t.pair.seqIn = none) ∧
      ((e.laneOf (1 - l)).up = false → e.pair.heartbeat = true → e.mu.slot = 1 → e.mode = .m4 ∨ e.mode = .m5 →
        e.role = .primary ∨ e.role = .standby → e.pair.isolation = none → t.pair.isolation = some (frameAfter e.now))) ∧
  (∀ (dt l : Nat) (s e : State), s.elapse dt = e → l < 2 → e.mode ≠ .m0 →
    ∃ t, exec (.syncLaneUp dt l) s = .next t ∧ (t.laneOf l).up = true ∧ (t.laneOf l).lock = true ∧ t.pair.gone = false ∧
      t.laneOf (1 - l) = e.laneOf (1 - l)) ∧
  (∀ (dt : Nat) (s e : State), s.elapse dt = e → e.pair.heartbeat = true →
    ∃ t, exec (.partnerHeartbeatLost dt) s = .next t ∧ t.pair.heartbeat = false ∧ t.pair.lastToggle = e.now - 300000 ∧
      Occurs e t 35 [(8, e.now - 300000)] ∧
      (e.laneUp = false → e.pair.gone = false → e.pair.partner.mode ≠ none → e.mode = .m4 ∨ e.mode = .m5 → e.mu.auto = none →
        t.pair.gone = true ∧ t.pair.sync = false ∧ t.pair.goneCount = e.pair.goneCount + 1 ∧
        t.mu.auto = some ⟨.m6, .solo, 4, frameAfter e.now⟩)) ∧
  (∀ (dt : Nat) (s e : State), s.elapse dt = e → e.mode ≠ .m0 →
    ∃ t, exec (.partnerHeartbeatPresent dt) s = .next t ∧ t.pair.heartbeat = true ∧ t.pair.gone = false ∧
      t.pair.lastToggle = e.now) ∧
  (∀ (dt : Nat) (s e : State), s.elapse dt = e → e.mode ≠ .m0 →
    ∃ t, exec (.isolatingPatternSeen dt) s = .next t ∧ t.pair.heartbeat = true ∧ t.pair.isolSeen = true ∧
      (e.mu.slot = 0 → e.mode = .m4 ∨ e.mode = .m5 → e.role = .primary ∨ e.role = .standby → e.pair.isolation = none →
        t.pair.isolation = some (e.gridInstant Config.frameNs))) ∧
  (∀ (dt f0 : Nat) (s e : State), s.elapse dt = e → e.pair.isolation = some f0 → f0 + 250000 ≤ e.now →
    ∃ t, exec (.isolationF1 dt) s = .next t ∧ t.pair.isolation = none ∧ t.pair.sync = false ∧
      (e.mu.slot = 1 → t.mode = .m5 ∧ t.role = .isolated ∧ Occurs e t 43 [(8, f0 + 250000)]) ∧
      (e.mu.slot = 0 → e.role = .standby → t.mode = .m4 ∧ t.role = .primary) ∧
      (e.mu.slot = 0 → e.role = .primary → t.mode = e.mode ∧ t.role = .primary)) ∧
  (∀ (dt : Nat) (d : Departure) (s e : State), s.elapse dt = e → e.pair.departure = some d → d.at_ ≤ e.now →
    ∃ t, exec (.departureF dt) s = .next t ∧
      (d.leaving = false → t.mode = .m6 ∧ t.role = .solo ∧ t.pair.sync = false) ∧
      (d.leaving = true → d.after = 2 → e.ao.dropped = false → e.mu.auto = none → t.ao.dropped = true ∧ t.role = .none ∧
        t.mode = e.mode ∧ t.mu.auto = some ⟨.m11, .none, 7, frameAfter e.now⟩)) ∧
  (∀ (dt : Nat) (c : Copy) (s e : State), s.elapse dt = e → e.pair.copy = some c →
    ∃ t, exec (.copyComplete dt) s = .next t ∧ t.pair.copy = none ∧
      t.pair.lastCopy = (e.tick - c.since) / Config.ticksPerMs ∧
      Occurs e t 38 [(8, c.bytes), (4, (e.tick - c.since) / Config.ticksPerMs)] ∧
      (c.taking = false → e.pair.joining = true → ∃ m, t.mu.pending = some m ∧ m.target = .m4 ∧ m.role = .primary ∧
        m.at_ = frameAtOrAfter (e.now + e.switchLead) ∧ m.confirmed = false) ∧
      (c.taking = false → e.pair.joining = false → t.pair.resumeAt = some (frameAtOrAfter (e.now + e.switchLead)))) ∧
  (∀ (dt : Nat) (c : Copy) (s e : State), s.elapse dt = e → e.pair.copy = some c → e.pair.joining = true →
    e.since c.since (60 * Config.ticksPerSecond) = true →
    ∃ t, exec (.copyTimeout dt) s = .next t ∧ t.pair.joining = false ∧ t.pair.copy = none ∧
      (c.taking = true → t.pair.refuseCause = 6 ∧ (e.mode = .m7 → e.mu.auto = none → t.mu.auto = some ⟨.m3, .none, 7, frameAfter e.now⟩))) ∧
  (∀ (dt k : Nat) (s e : State), s.elapse dt = e → e.pair.soakFrom = some k →
    e.since k (e.eff 0x0204 * Config.ticksPerSecond) = true → e.pair.takebackAfter = none → e.role = .standby →
    e.eff 0x0201 = e.mu.slot → e.swapReady = true → e.broken = false → e.mu.pending = none →
    ∃ t c, exec (.soakExpiry dt) s = .next t ∧ t.mu.pending = some c ∧ c.target = .m4 ∧ c.role = .primary ∧ c.cause = 2 ∧
      c.asked = true ∧ t.pair.swap = some 2) ∧
  (∀ (dt k after : Nat) (s e : State), s.elapse dt = e → e.pair.soakFrom = some k →
    e.since k (e.eff 0x0204 * Config.ticksPerSecond) = true → e.pair.takebackAfter = some after → after ≤ e.tick →
    e.role = .standby → e.eff 0x0201 = e.mu.slot → e.swapReady = true → e.broken = false → e.mu.pending = none →
    ∃ t c, exec (.takebackRetry dt) s = .next t ∧ t.mu.pending = some c ∧ c.target = .m4 ∧ c.role = .primary ∧ c.cause = 2 ∧
      c.asked = true ∧ t.pair.swap = some 2 ∧ t.pair.takebackAfter = none)

/-- Rows of commands on alarms, the ladder and the journal complete: ALARM_ACK clears UNACKED of the entries it names and of no other
(R235), ALARM_SHELVE shelves and unshelves (R236), LADDER_ACK leaves its acknowledgement for the next scan (R240, R245), JOURNAL_READ
answers the entries from FromSequence on (R252), an acknowledgement message acknowledges the ladder, waits for a release in a pair, or is
counted as refused (R243, R248), and the flash engine takes journal entries from the ring in order (R251). -/
def Obligations.AlarmCommandRowsComplete : Prop :=
  (∀ (dt : Nat) (p : Packet) (x : Session) (s e : State), s.elapse dt = e → Accepted alarmAckCmd e p x →
    ∃ t k, exec (.alarmAck dt p) s = .next t ∧ (∀ n ∈ e.ackEntries (reqOf p).body, (t.alEnt n).unacked = false) ∧
      (∀ n, n ∉ e.ackEntries (reqOf p).body → t.alEnt n = e.alEnt n) ∧
      Answers t p x e.mode e.role .ok k (beBytes 4 k)) ∧
  (∀ (dt : Nat) (p : Packet) (x : Session) (s e : State), s.elapse dt = e → Accepted alarmShelveCmd e p x →
    beAt (reqOf p).body 0 1 = 1 →
    ∃ t, exec (.alarmShelve dt p) s = .next t ∧
      (∀ n ∈ nums (reqOf p).body 8 (beAt (reqOf p).body 2 2), (t.alEnt n).shelved = true ∧ (t.alEnt n).unacked = false ∧
        (t.alEnt n).shelveLeft = beAt (reqOf p).body 4 4 * 100) ∧
      (∀ n, n ∉ nums (reqOf p).body 8 (beAt (reqOf p).body 2 2) → t.alEnt n = e.alEnt n) ∧
      Answers t p x e.mode e.role .ok 0 []) ∧
  (∀ (dt : Nat) (p : Packet) (x : Session) (s e : State), s.elapse dt = e → Accepted alarmShelveCmd e p x →
    beAt (reqOf p).body 0 1 = 0 →
    ∃ t, exec (.alarmUnshelve dt p) s = .next t ∧
      (∀ n ∈ nums (reqOf p).body 8 (beAt (reqOf p).body 2 2), (t.alEnt n).shelved = false ∧
        (t.alEnt n).active = (e.alEnt n).active) ∧
      (∀ n, n ∉ nums (reqOf p).body 8 (beAt (reqOf p).body 2 2) → t.alEnt n = e.alEnt n) ∧
      Answers t p x e.mode e.role .ok 0 []) ∧
  (∀ (dt : Nat) (p : Packet) (x : Session) (s e : State), s.elapse dt = e → Accepted ladderAckCmd e p x → e.mode ≠ .m11 →
    ∃ t, exec (.ladderAck dt p) s = .next t ∧
      t.al.lad = { e.al.lad with acked := e.al.lad.acked.orElse (fun _ => some (1, beAt (reqOf p).body 4 2, (reqOf p).session.toNat)) } ∧
      Answers t p x e.mode e.role .ok 0 []) ∧
  (∀ (dt : Nat) (p : Packet) (x : Session) (s e : State), s.elapse dt = e → Accepted journalReadCmd e p x →
    ∃ t l, exec (.journalRead dt p) s = .next t ∧
      l = (e.journalAll.filter (fun x => decide (beAt (reqOf p).body 0 8 ≤ x.seq))).take (beAt (reqOf p).body 8 2) ∧
      Answers t p x e.mode e.role .ok 0 (beBytes 2 l.length ++
        beBytes 2 (b2n (decide (beAt (reqOf p).body 0 8 < e.journalOldest))) ++ beBytes 4 0 ++ beBytes 8 e.journalOldest ++
        (l.map JourRec.image).flatten)) ∧
  (∀ (dt : Nat) (p : Packet) (s e : State), s.elapse dt = e → e.mode ≠ .m0 →
    ∃ t, exec (.callAckMessage dt p) s = .next t ∧
      (e.callAckGood p = false → t.al = { e.al with ackRefused := e.al.ackRefused + 1 }) ∧
      (e.callAckGood p = true → e.mode ≠ .m4 → e.mode ≠ .m5 →
        t.al.lad = { e.al.lad with acked := e.al.lad.acked.orElse (fun _ => some (2, beAt p.data 6 2, 0)) }) ∧
      (e.callAckGood p = true → e.mode = .m4 ∨ e.mode = .m5 → e.alarmLeader = true →
        (∀ k, e.al.last = some k → k + 2500000 < e.now) →
        t.al.waiting = e.al.waiting ++ [⟨0xFFFF, beBytes 2 (beAt p.data 6 2), none, 0, e.now⟩]) ∧
      (e.callAckGood p = true → e.mode = .m4 ∨ e.mode = .m5 → e.alarmLeader = true →
        ∀ k, e.al.last = some k → e.now ≤ k + 2500000 →
        t.mbx.scheduled = e.mbx.scheduled ++ [⟨0xFFFF, beBytes 2 (beAt p.data 6 2), k + 3000000, none, 0, 0⟩])) ∧
  (∀ (dt : Nat) (r : JourRec) (l : List JourRec) (s e : State), s.elapse dt = e → e.al.ring = r :: l →
    ∃ t, exec (.journalFlashWrite dt 1) s = .next t ∧ t.al.ring = l ∧ t.al.flashed = e.al.flashed + 1 ∧
      tget t.al.flash (e.al.flashed % 16777216) none = some r)

/-- Rows of alarm scans complete. A scan due on the module's own snapshot gives the entry what R228 and R229 give it (R219–R221); the
rows of an on-delay, an off-delay, a rate window, a shelve time and a reminder are the scans in which they run out (log 26), and of a
group's release delay and of the ladder's rung time and repeat likewise (R228, R229, R232, R236, R237, R240). A follower evaluates on its
leader's snapshot while the digests agree (R248, R249), falls behind on a differing digest or signature and on a late frame (R249), and
borrowed results are installed, or given up, before the release (R272). -/
def Obligations.AlarmScanRowsComplete : Prop :=
  (∀ (dt n w : Nat) (s e : State), s.elapse dt = e → ScanDue e → e.alEntries = [(n, w)] →
    ∃ t, exec (.alarmScan dt []) s = .next t ∧ t.al.scan = e.al.scan + 1 ∧
      t.al.last = some (e.gridInstant Config.scanNs) ∧ t.al.half = none ∧ t.alEnt n = (e.scanOut e.scanSnap n w).st) ∧
  (∀ (dt n w : Nat) (s e : State), s.elapse dt = e → ScanDue e → n < 16384 → e.alEntries = [(n, w)] →
    (e.alEnt n).active = false → (e.scanOut e.scanSnap n w).st.active = true →
    ∃ t, exec (.onDelayExpiry dt n) s = .next t ∧ t.al.scan = e.al.scan + 1 ∧ t.alEnt n = (e.scanOut e.scanSnap n w).st) ∧
  (∀ (dt n w : Nat) (s e : State), s.elapse dt = e → ScanDue e → n < 16384 → e.alEntries = [(n, w)] →
    (e.alEnt n).active = true → (e.scanOut e.scanSnap n w).st.suppressed = false →
    (e.scanOut e.scanSnap n w).st.active = false ∨
      ((e.alEnt n).latched = false ∧ (e.scanOut e.scanSnap n w).st.latched = true) →
    ∃ t, exec (.offDelayExpiry dt n) s = .next t ∧ t.al.scan = e.al.scan + 1 ∧ t.alEnt n = (e.scanOut e.scanSnap n w).st) ∧
  (∀ (dt n w : Nat) (s e : State), s.elapse dt = e → ScanDue e → n < 16384 → e.alEntries = [(n, w)] → e.entry 0x0001 n = w →
    alType w = 5 ∨ alType w = 6 → (e.alEnt n).based = true → (e.scanOut e.scanSnap n w).st.invalid = false →
    fld w 0x1C 0 16 ≤ (e.alEnt n).ratePhase + 1 →
    ∃ t, exec (.rateWindowEnd dt n) s = .next t ∧ t.al.scan = e.al.scan + 1 ∧ (t.alEnt n).ratePhase = 0 ∧
      t.alEnt n = (e.scanOut e.scanSnap n w).st) ∧
  (∀ (dt n w : Nat) (s e : State), s.elapse dt = e → ScanDue e → n < 16384 → e.alEntries = [(n, w)] →
    (e.alEnt n).shelved = true → (e.alEnt n).shelveLeft = 1 →
    ∃ t, exec (.shelveExpiry dt n) s = .next t ∧ t.al.scan = e.al.scan + 1 ∧ (t.alEnt n).shelved = false ∧
      Occurs e t 249 [(2, n), (2, 1)]) ∧
  (∀ (dt n w : Nat) (s e : State), s.elapse dt = e → ScanDue e → n < 16384 → e.alEntries = [(n, w)] →
    (e.scanOut e.scanSnap n w).remind = true →
    ∃ t, exec (.unackReminder dt n) s = .next t ∧ t.al.scan = e.al.scan + 1 ∧
      Occurs e t 244 [(2, n), (2, 1), (8, e.al.scan + 1)]) ∧
  (∀ (dt g : Nat) (s e : State), s.elapse dt = e → ScanDue e → g < 512 → g ∈ e.alGroups →
    (tget e.al.grp g {}).suppressed = true → (tget e.al.grp g {}).releaseLeft = 0 →
    alSupp e.scanSnap e.al.grp (fld (e.entry 0x0002 g) 0 30 2) (fld (e.entry 0x0002 g) 4 0 16) = false →
    ∃ t, exec (.releaseDelayExpiry dt g) s = .next t ∧ t.al.scan = e.al.scan + 1 ∧
      (tget t.al.grp g {}).suppressed = false) ∧
  (∀ (dt n w r : Nat) (s e : State), s.elapse dt = e → ScanDue e → e.alEntries = [(n, w)] → LadderRuns e n w →
    e.al.lad.state = 1 → e.al.lad.left ≤ 1 → e.rungsOn.find? (fun k => decide (e.al.lad.rung < k)) = some r →
    ∃ t, exec (.rungTimeExpiry dt) s = .next t ∧ t.al.lad.rung = r ∧ t.al.lad.scans = 0 ∧
      t.al.lad.state = (if e.rungsOn.getLast? = some r then 2 else 1) ∧
      Occurs e t 246 [(4, e.al.lad.run), (1, e.al.lad.rung), (1, r)]) ∧
  (∀ (dt n w : Nat) (s e : State), s.elapse dt = e → ScanDue e → e.alEntries = [(n, w)] → LadderRuns e n w →
    e.al.lad.state = 2 → e.rung e.al.lad.rung 7 ≠ 0 → (e.al.lad.scans + 1) % (e.rung e.al.lad.rung 7 * 100) = 0 →
    ∃ t, exec (.rungRepeat dt) s = .next t ∧ t.al.lad.scans = e.al.lad.scans + 1 ∧ t.al.lad.rung = e.al.lad.rung ∧
      (e.rung e.al.lad.rung 3 ≠ 0 → 4 ≤ e.rung e.al.lad.rung 5 → t.al.lad.cmn = wrapInc 32 e.al.lad.cmn)) ∧
  (∀ (dt n w : Nat) (h : LaneHdr) (f : AlarmIn) (s e : State), s.elapse dt = e → Taken e h → e.scans = true →
    e.alOwn = false → e.al.last ≠ some f.at_ → f.cmds = [] → e.alEntries = [(n, w)] →
    ∃ t, exec (.alarmAgreementFrame dt h f []) s = .next t ∧ t.al.scan = f.scan ∧ t.al.last = some f.at_ ∧
      t.alEnt n = (e.scanOut ⟨f.scan, f.at_, f.ap, f.bp, f.edges⟩ n w).st ∧
      (f.digest ≠ e.alarmDigest → t.al.follow = 3 ∧ t.al.behind = true) ∧
      (f.digest = e.alarmDigest → e.al.behind = false → e.al.follow ≠ 3 → t.al.follow = 2 ∧ t.al.behind = false)) ∧
  (∀ (dt : Nat) (h : LaneHdr) (sig : U64) (s e : State), s.elapse dt = e → Taken e h →
    ∃ t, exec (.alarmExchangeFrame dt h (.signature e.al.scan sig)) s = .next t ∧
      (sig = e.al.signature → t.al = e.al) ∧
      (sig ≠ e.al.signature → e.al.follow = 2 → t.al.behind = true ∧ t.al.follow = 4 ∧
        (e.role = .standby → t.pair.divergences = e.pair.divergences + 1))) ∧
  (∀ (dt n tk : Nat) (h : LaneHdr) (st : AlEnt) (q : AlPass) (s e : State), s.elapse dt = e → Taken e h → n < 16384 →
    e.al.half = some (q, tk) → q.await = [n] → e.al.waiting = [] →
    ∃ t, exec (.alarmExchangeFrame dt h (.answer n st)) s = .next t ∧ t.al.half = none ∧
      t.alEnt n = { st with faulted := false, lastChange := if st.active = (e.alEnt n).active ∧ st.unacked = (e.alEnt n).unacked ∧
        st.shelved = (e.alEnt n).shelved ∧ st.suppressed = (e.alEnt n).suppressed then (e.alEnt n).lastChange else q.snap.at_ }) ∧
  (∀ (dt : Nat) (s e : State), s.elapse dt = e → e.scans = true → e.alOwn = false →
    e.al.last ≠ some (e.gridInstant Config.scanNs) → e.gridInstant Config.scanNs + 400000 ≤ e.now →
    ∃ t, exec (.alarmFrameLate dt) s = .next t ∧ t.al.last = some (e.gridInstant Config.scanNs) ∧ t.al.behind = true ∧
      t.al.follow = 4) ∧
  (∀ (dt n tk : Nat) (q : AlPass) (s e : State), s.elapse dt = e → n < 16384 → e.al.half = some (q, tk) → n ∈ q.await →
    e.since tk 368750 = true → e.al.waiting = [] →
    ∃ t, exec (.alarmBorrowTimeout dt n) s = .next t ∧ t.al.half = none ∧ t.al.ent = e.al.ent)

/-- Rows of the loop engine complete. A trigger on the record's path queues its item, any other counts as a stray (R202, R203); the item at
the front is evaluated by the compensator of R198 and written with its state (R198, R203, R206); on the STANDBY it is evaluated on the
agreement frame's values, and a frame of the present LSN is answered (R208, R272); a borrowed answer is installed (R272); a differing
signature is a divergence with EV040 (R209, R270); a borrow and an injection end at their times (R212, R272). -/
def Obligations.LoopRowsComplete : Prop :=
  (∀ (dt r : Nat) (s e : State), s.elapse dt = e → r < 2048 → e.loopsRun = true → bit (e.loopCtl r) 31 = true →
    ∃ t, exec (.loopTrigger dt r) s = .next t ∧
      (bits (e.loopCtl r) 28 2 ≠ 1 → t.loop = { e.loop with strays := e.loop.strays + 1 }) ∧
      (bits (e.loopCtl r) 28 2 = 1 → e.role ≠ .standby → e.loop.queue.any (·.record == e.itemOf r) = false →
        t.loop.queue = queueInsert ⟨e.itemOf r, e.tick, e.now, []⟩ e.loop.queue) ∧
      (bits (e.loopCtl r) 28 2 = 1 → e.role ≠ .standby → e.loop.queue.any (·.record == e.itemOf r) = true →
        t.loop = { e.loop with merged := e.loop.merged + 1 })) ∧
  (∀ (dt r : Nat) (it : LoopItem) (l : List LoopItem) (s e : State), s.elapse dt = e → r < 2048 → e.loop.queue = it :: l →
    it.record = r → e.role ≠ .standby →
    ∃ t, exec (.loopEvaluation dt r []) s = .next t ∧
      (e.loopsRun = false → t.loop = { e.loop with queue := l }) ∧
      (e.loopsRun = true → t.loop.queue = l ∧ t.loop.lsn = e.loop.lsn + 1)) ∧
  (∀ (dt r : Nat) (it : LoopItem) (l : List LoopItem) (v : LoopEval) (s e : State), s.elapse dt = e → r < 2048 →
    e.loop.queue = it :: l → it.record = r → e.role ≠ .standby → e.loopsRun = true → e.membersOf it = [r] →
    bit (e.entryFor it r) 19 = false → bit (e.entryFor it r) 22 = false → (∀ g < 4, (e.injector g).active = false) →
    inputsOk (e.gather it r).1 = true →
    evalRec (e.entryFor it r) (e.present (e.entryFor it r)) (e.lrec r) (e.gather it r).1 false = some v →
    ∃ t, exec (.loopEvaluation dt r []) s = .next t ∧
      t.lrec r = { v.st with
        u1 := if v.track.isSome then fsub fmt64 (v.track.getD v.out) v.dOut else v.st.u1
        out := f64to32 v.out, outTime := e.now, count := satInc 32 (e.lrec r).count, selected := false } ∧
      (∀ k, k ≠ r → t.lrec k = e.lrec k)) ∧
  (∀ (dt lsn time : Nat) (x : LoopIn) (l : List LoopIn) (h : LaneHdr) (s e : State), s.elapse dt = e → Taken e h →
    e.role = .standby → e.loopsRun = true → e.mu.slot ≠ 0xFF →
    ∃ t, exec (.loopAgreementFrame dt h lsn time (x :: l) []) s = .next t ∧
      (lsn = e.loop.lsn.toNat → t.loop = { e.loop with frameSeq := some h.seq } ∧
        (l = [] → t.out =
          [.lane (e.frameOf 0x05 ([0, lsn, x.record, (e.lrec x.record).out] ++ recSix (e.lrec x.record)))])) ∧
      (lsn ≠ e.loop.lsn.toNat → (lsn + 2 ^ 32 - e.loop.lsn.toNat) % 2 ^ 32 < 2 ^ 31 → t.loop.lsn = BitVec.ofNat 32 lsn ∧
        t.loop.queue = e.loop.queue.filter (·.record != e.itemOf x.record) ∧
        (l = [] → x.valid = false → t.lrec x.record = { e.lrec x.record with invalid := true } ∧
          t.loop.invalids = e.loop.invalids + 1))) ∧
  (∀ (dt lsn r v k a b c d f g : Nat) (h : LaneHdr) (s e : State), s.elapse dt = e → Taken e h → r < 2048 →
    e.role = .primary → (lsn, r, k) ∈ e.loop.borrow →
    ∃ t, exec (.loopAnswerFrame dt h lsn r v [a, b, c, d, f, g]) s = .next t ∧
      t.loop.borrow = e.loop.borrow.filter (fun y => !(y.1 == lsn && y.2.1 == r)) ∧
      t.lrec r = { e.lrec r with
        e1 := a, e2 := b, e3 := c, u1 := d, u2 := f, u3 := g, out := v, outTime := e.now }) ∧
  (∀ (dt : Nat) (sig : U64) (s e : State), s.elapse dt = e →
    ∃ t, exec (.loopSignatureExchange dt sig) s = .next t ∧ (sig = e.loop.signature → t = e) ∧
      (e.role = .standby → sig ≠ e.loop.signature → e.pair.sync = true → e.pair.resync = false →
        t.pair.divergences = e.pair.divergences + 1 ∧
        ∃ last, Occurs e t 40 [(1, 5), (1, 0xFF), (4, e.loop.exchanged.toNat), (1, last)])) ∧
  (∀ (dt : Nat) (s e : State), s.elapse dt = e →
    ∃ t, exec (.loopBorrowTimeout dt) s = .next t ∧
      t.loop = { e.loop with borrow := e.loop.borrow.filter (fun y => !e.since y.2.2 (20 * Config.ticksPerUs)) }) ∧
  (∀ (dt g : Nat) (s e : State), s.elapse dt = e → g < 4 → (e.injector g).active = true → (e.injector g).begun = true →
    (e.injector g).start + e.injPar g 4 * 1000000 ≤ e.now →
    ∃ t, exec (.injectionEnd dt g) s = .next t ∧ (t.injector g).active = false ∧
      (t.lrec (e.injRec g)).injecting = false ∧ ∀ k, k ≠ g → t.injector k = e.injector k)

/-- Rows of commands on loops complete: LOOP_INJECT starts a generator whose record is enabled and has no other, and ends one (R213);
LOOP_CAPTURE arms, cancels and reads a capture, whose samples are the command's completion (R214, R216). -/
def Obligations.LoopCommandRowsComplete : Prop :=
  (∀ (dt g : Nat) (p : Packet) (x : Session) (s e : State), s.elapse dt = e → Accepted loopInjectCmd e p x →
    beAt (reqOf p).body 0 1 = g → beAt (reqOf p).body 1 1 = 1 → bit (e.loopCtl (e.injRec g)) 31 = true →
    (∀ k < 4, k ≠ g → (e.injector k).active = true → e.injRec k ≠ e.injRec g) →
    ∃ t, exec (.loopInjectStart dt p) s = .next t ∧ t.injector g = { active := true, op := some e.mbx.nextOp } ∧
      (∀ k, k ≠ g → t.injector k = e.injector k) ∧ Answers t p x e.mode e.role .accepted 0 []) ∧
  (∀ (dt g : Nat) (p : Packet) (x : Session) (s e : State), s.elapse dt = e → Accepted loopInjectCmd e p x →
    beAt (reqOf p).body 0 1 = g → beAt (reqOf p).body 1 1 = 0 →
    ∃ t, exec (.loopInjectStop dt p) s = .next t ∧ (t.injector g).active = false ∧
      (∀ k, k ≠ g → t.injector k = e.injector k) ∧ Responds t p x e.mode e.role .accepted 0 []) ∧
  (∀ (dt c : Nat) (p : Packet) (x : Session) (s e : State), s.elapse dt = e → Accepted loopCaptureCmd e p x →
    beAt (reqOf p).body 0 1 = c → beAt (reqOf p).body 1 1 = 0 →
    ∃ t, exec (.loopCaptureArm dt p) s = .next t ∧ t.capture c = { armed := true, op := some e.mbx.nextOp } ∧
      (∀ k, k ≠ c → t.capture k = e.capture k) ∧ Answers t p x e.mode e.role .accepted 0 []) ∧
  (∀ (dt c : Nat) (p : Packet) (x : Session) (s e : State), s.elapse dt = e → Accepted loopCaptureCmd e p x →
    beAt (reqOf p).body 0 1 = c → beAt (reqOf p).body 1 1 = 1 →
    ∃ t, exec (.loopCaptureCancel dt p) s = .next t ∧
      t.capture c = { e.capture c with armed := false, op := none } ∧
      (∀ k, k ≠ c → t.capture k = e.capture k) ∧ Responds t p x e.mode e.role .accepted 0 []) ∧
  (∀ (dt c : Nat) (p : Packet) (x : Session) (s e : State), s.elapse dt = e → Accepted loopCaptureCmd e p x →
    beAt (reqOf p).body 0 1 = c → beAt (reqOf p).body 1 1 = 2 →
    beAt (reqOf p).body 4 4 + beAt (reqOf p).body 2 2 ≤ (e.capture c).count →
    (e.mbx.async.find? (·.id == e.mbx.nextOp)) = none →
    ∃ t y, exec (.loopCaptureRead dt p) s = .next t ∧ (∀ k, t.capture k = e.capture k) ∧
      Responds t p x e.mode e.role .accepted 0 [] ∧ t.session x.id = some y ∧
      ((reqOf p).tag, e.mbx.nextOp,
        beBytes 1 1 ++ beBytes 1 0 ++ beBytes 2 0x0074 ++ beBytes 1 e.mode.num ++ beBytes 1 e.role.num ++ beBytes 2 0 ++
        (beBytes 1 c ++ beBytes 1 (b2n (e.capture c).full + 2 * b2n (e.capture c).armed) ++
          beBytes 2 (beAt (reqOf p).body 2 2) ++ beBytes 4 (beAt (reqOf p).body 4 4) ++
          ((List.range (beAt (reqOf p).body 2 2)).map (fun i =>
            leBytes 8 (tget (e.capture c).samples (beAt (reqOf p).body 4 4 + i) (0, 0)).1 ++
            leBytes 8 (tget (e.capture c).samples (beAt (reqOf p).body 4 4 + i) (0, 0)).2)).flatten)) ∈ y.done)

/-- Rows of the Archive and of the trend store complete: ARCHIVE_READ and TREND_READ answer the records from a number or a time on (R111,
R499); the flash writer takes the staged records in order (R498, R500); and a sample due is recorded, the first of a channel always and
with RecordMode 1 only beyond Deadband (R109, R110). -/
def Obligations.StoreRowsComplete : Prop :=
  (∀ (dt : Nat) (p : Packet) (x : Session) (s e : State), s.elapse dt = e → Accepted archiveReadCmd e p x →
    ∃ t a, exec (.archiveRead dt p) s = .next t ∧
      a = e.archScan (beAt (reqOf p).body 8 2) (e.arch.flashed + 2 - beAt (reqOf p).body 0 8)
        ⟨[], false, false, beAt (reqOf p).body 0 8⟩ ∧
      Answers t p x e.mode e.role .ok 0 (beBytes 2 a.recs.length ++
        beBytes 2 (b2n a.gap + 2 * b2n (decide (e.arch.flashed < a.next)) + 4 * b2n a.skipped) ++ beBytes 4 0 ++
        beBytes 8 e.archOldest ++ (a.recs.map ArchRec.image).flatten)) ∧
  (∀ (dt : Nat) (p : Packet) (x : Session) (s e : State), s.elapse dt = e → Accepted trendReadCmd e p x →
    ∃ t l, exec (.trendRead dt p) s = .next t ∧
      l = (e.trend.recs.filter (fun y => (beAt (reqOf p).body 0 2 == 0xFFFF || y.channel == beAt (reqOf p).body 0 2) &&
        decide (beAt (reqOf p).body 4 8 ≤ y.time))).take (beAt (reqOf p).body 12 2) ∧
      Answers t p x e.mode e.role .ok 0 (beBytes 2 l.length ++
        beBytes 2 (b2n (decide (beAt (reqOf p).body 4 8 < (e.trend.recs.head?.map (·.time)).getD 0))) ++ beBytes 4 0 ++
        beBytes 8 ((e.trend.recs.head?.map (·.time)).getD 0) ++ (l.map TrendRec.image).flatten)) ∧
  (∀ (dt : Nat) (r : ArchRec) (l : List ArchRec) (s e : State), s.elapse dt = e → e.mode ≠ .m0 → e.arch.stage = r :: l →
    e.arch.held = [] → e.arch.lostPending = 0 → r.seq < (tget e.lk.window 15 {}).firstSeq →
    (r.seq - 1) % 1048576 ≠ 0 ∨ r.seq = 1 →
    ∃ t, exec (.archiveFlashWrite dt 1) s = .next t ∧ t.arch.stage = l ∧ t.arch.flashed = r.seq ∧
      tget t.arch.tail ((r.seq - 1) % 1048576) none = some r ∧
      (r.seq ≤ 65536 → tget t.arch.head (r.seq - 1) none = some r)) ∧
  (∀ (dt c : Nat) (s e : State), s.elapse dt = e → c < 256 → e.trending = true → fld (e.entry 0x000E c) 0 0 8 ≠ 0 →
    e.onGrid (fld (e.entry 0x000E c) 8 0 32 * 1000000) = true →
    ∃ t, exec (.trendSample dt c) s = .next t ∧
      (tget e.trend.last c none = none ∨ fld (e.entry 0x000E c) 1 0 8 = 0 →
        t.trend.written = e.trend.written + 1 ∧
        t.trend.recs = (e.trend.recs ++ [(⟨e.gridInstant (fld (e.entry 0x000E c) 8 0 32 * 1000000), c,
          (tget e.trend.last c none).isNone, (e.trendValue (e.entry 0x000E c)).1 % 2 ^ 32⟩ : TrendRec)]).drop
            (e.trend.recs.length + 1 - e.trendCap)) ∧
      (∀ y, tget e.trend.last c none = some y → fld (e.entry 0x000E c) 1 0 8 ≠ 0 →
        flt fmt64 (f32to64 (fld (e.entry 0x000E c) 0x0C 0 32))
          (fabs fmt64 (fsub fmt64 (e.trendValue (e.entry 0x000E c)).2 y)) = false → t = e))

/-- The commands on the Annex complete: ANNEX_MIGRATE with Op 1 asks for the migration of its resource, draining a core pair first (R320,
R327), with Op 2 begins the rotation of its converter with the stand-in's calibration (R323, R327), and LEDGER_READ answers the records of
the resources it names (R328). -/
def Obligations.AnnexCommandRowsComplete : Prop :=
  (∀ (dt k : Nat) (p : Packet) (x : Session) (s e : State), s.elapse dt = e → Accepted annexCmd e p x →
    beAt (reqOf p).body 0 1 = k → beAt (reqOf p).body 1 1 = 1 →
    (∀ m ∈ e.annex.running ++ e.annex.waiting, m.resource ≠ k) →
    ∃ t, exec (.annexMigrate dt p) s = .next t ∧
      t.annex.waiting = e.annex.waiting ++
        [(⟨resKind k, k, none, 3, some e.mbx.nextOp, e.tick, decide (resKind k ≠ 1)⟩ : Migration)] ∧
      (resKind k = 1 → (t.corePair k).drain = some ⟨.migrate, e.tick, none, none⟩) ∧
      Answers t p x e.mode e.role .accepted 0 []) ∧
  (∀ (dt k q : Nat) (p : Packet) (x : Session) (s e : State), s.elapse dt = e → Accepted annexCmd e p x →
    beAt (reqOf p).body 0 1 = k → beAt (reqOf p).body 1 1 = 2 → e.standinFor (k - 21) = some q →
    ∃ t, exec (.annexRotate dt p) s = .next t ∧
      t.annex.rotation = some ⟨k - 21, q, .standinCal, e.tick, some e.mbx.nextOp, false⟩ ∧
      (t.cal q).running = some e.tick ∧ Answers t p x e.mode e.role .accepted 0 []) ∧
  (∀ (dt : Nat) (p : Packet) (x : Session) (s e : State), s.elapse dt = e → Accepted ledgerReadCmd e p x →
    ∃ t, exec (.ledgerRead dt p) s = .next t ∧
      Answers t p x e.mode e.role .ok 0 (beBytes 2 (beAt (reqOf p).body 2 2) ++ beBytes 2 0 ++
        ((List.range (beAt (reqOf p).body 2 2)).map (fun i => e.ledgerRec (beAt (reqOf p).body 0 2 + i))).flatten))

/-- The rows of migrations under way complete: a core pair's, a converter's or a stage's migration that starts raises EV081, hands the work
to its first candidate (of pairs the first that passes its test), raises the kind's epoch by 1 modulo 256 and ends with EV082 (R318, R320);
a DRAM device's and a flash block's begin their copy (R321, R322), which ends with the spare in the device's place and EV086 (R321), or with
the block remapped and EV087 (R322); and a result that arrives in its window with the old epoch is counted as spoil, with EV083 at the first
of a migration (R319). -/
def Obligations.MigrationRowsComplete : Prop :=
  (∀ (dt q : Nat) (l : List Nat) (m : Migration) (tests : List (Nat × U64)) (s e : State), s.elapse dt = e →
    e.annex.waiting.find? (fun m => m.kind == 1 && m.ready) = some m → resKind m.resource = 1 → e.mode ≠ .m0 → e.mode ≠ .m11 →
    e.annex.running.any (·.kind == 1) = false → e.resetting m.resource = false → e.candidates m.resource = q :: l →
    (tlook tests q).getD (BitVec.allOnes 64) = BitVec.allOnes 64 →
    ∃ t, exec (.migrationStart dt 1 tests) s = .next t ∧
      t.annex.pairRemap = swapNames m.resource q e.annex.pairRemap ∧ (tget t.annex.res q {}).state = some 2 ∧
      (∀ y ∈ t.annex.waiting, y.resource ≠ m.resource) ∧ t.annex.count = e.annex.count + 1 ∧
      tget t.annex.epoch 1 0 = (tget e.annex.epoch 1 0 + 1) % 256 ∧
      Occurs e t 81 [(1, m.resource), (1, q), (1, m.cause)] ∧
      Occurs e t 82 [(1, m.resource), (1, q), (1, (tget e.annex.epoch 1 0 + 1) % 256), (8, 0)]) ∧
  (∀ (dt k q : Nat) (l : List Nat) (m : Migration) (s e : State), s.elapse dt = e → k = 4 ∨ k = 5 →
    e.annex.waiting.find? (fun m => m.kind == k && m.ready) = some m → resKind m.resource = k → e.mode ≠ .m0 → e.mode ≠ .m11 →
    e.annex.running.any (·.kind == k) = false → (k = 4 → e.annex.rotation = none) → (k = 5 → e.atFrame = true) →
    e.candidates m.resource = q :: l →
    ∃ t, exec (.migrationStart dt k []) s = .next t ∧ (∀ y ∈ t.annex.waiting, y.resource ≠ m.resource) ∧
      t.annex.count = e.annex.count + 1 ∧ tget t.annex.epoch k 0 = (tget e.annex.epoch k 0 + 1) % 256 ∧
      Occurs e t 81 [(1, m.resource), (1, q), (1, m.cause)] ∧
      Occurs e t 82 [(1, m.resource), (1, q), (1, (tget e.annex.epoch k 0 + 1) % 256), (8, 0)]) ∧
  (∀ (dt k : Nat) (m : Migration) (s e : State), s.elapse dt = e → k = 2 ∨ k = 3 →
    e.annex.waiting.find? (fun m => m.kind == k && m.ready) = some m → (k = 3 → m.resource = 20) → e.mode ≠ .m0 →
    e.mode ≠ .m11 → e.annex.running.any (·.kind == k) = false →
    ∃ t, exec (.migrationStart dt k []) s = .next t ∧
      t.annex.waiting = e.annex.waiting.filter (·.resource != m.resource) ∧
      t.annex.running = e.annex.running ++ [{ m with spare := some (if k = 2 then 19 else 20), start := e.tick }]) ∧
  (∀ (dt : Nat) (m : Migration) (s e : State), s.elapse dt = e → e.annex.running.find? (·.kind == 2) = some m →
    e.since m.start (8600 * Config.ticksPerMs) = true →
    ∃ t, exec (.dramCopyComplete dt) s = .next t ∧ t.annex.dramSpare = some (m.resource - 10) ∧
      t.annex.running = e.annex.running.filter (·.resource != m.resource) ∧ t.annex.count = e.annex.count + 1 ∧
      Occurs e t 86 [(1, m.resource - 10)]) ∧
  (∀ (dt b target : Nat) (m : Migration) (s e : State), s.elapse dt = e → b < 12288 → target < 16384 →
    e.annex.running.find? (·.kind == 3) = some m → flashPart b ≠ 5 → 0 < e.annex.reserve →
    ∃ t, exec (.flashBlockCopyDone dt b target) s = .next t ∧ t.annex.reserve = e.annex.reserve - 1 ∧
      tget t.annex.blockMap b b = target ∧ t.annex.retired = e.annex.retired + 1 ∧ t.annex.count = e.annex.count + 1 ∧
      Occurs e t 87 [(1, flashPart b), (4, b), (4, tget e.annex.flashPe b 0), (1, m.cause)]) ∧
  (∀ (dt k r epoch : Nat) (l : LastStep) (s e : State), s.elapse dt = e → 1 ≤ k → k ≤ 6 → r < 52 →
    tget e.annex.last k none = some l → l.resource = r → l.oldEpoch = epoch → spoilWindow k ≠ 0 →
    e.tick ≤ l.tick + spoilWindow k →
    ∃ t, exec (.spoilArrival dt k r epoch) s = .next t ∧
      (tget t.annex.res r {}).spoil = satInc 32 (tget e.annex.res r {}).spoil ∧
      (l.told = false → Occurs e t 83 [(1, r), (1, epoch), (8, (e.tick - l.tick) * 8)]))

/-- Rows of the converters' rotation and of the Ledger's counts complete: a rotation begins with the stand-in's calibration and goes on by
its shadow pass, the recalibration and the return (R323); corrected and uncorrectable errors, block failures, oscillator faults, hot
hours and the spares' tests are counted and answered as R314, R315 and R325 give. -/
def Obligations.LedgerRowsComplete : Prop :=
  (∀ (dt q : Nat) (s e : State), s.elapse dt = e → e.has .ai = true → e.eff 0x0765 ≠ 0 → e.mode ≠ .m0 → e.mode ≠ .m1 →
    e.mode ≠ .m11 → e.annex.rotation = none → e.ai.calOp = none → e.annex.running.any (·.kind == 4) = false →
    e.annex.recalAt + e.eff 0x0765 / 8 ≤ e.ident.opSeconds → e.standinFor (e.annex.recalNext % 8) = some q →
    e.resState (21 + e.annex.recalNext % 8) = 0 → e.physConv (e.annex.recalNext % 8) = e.annex.recalNext % 8 →
    ∃ t, exec (.recalRotationStart dt) s = .next t ∧
      t.annex.rotation = some ⟨e.annex.recalNext % 8, q, .standinCal, e.tick, none, false⟩ ∧
      t.annex.recalNext = (e.annex.recalNext % 8 + 1) % 8 ∧ t.annex.recalAt = e.ident.opSeconds) ∧
  (∀ (dt : Nat) (o : Rotation) (offs gains : List Nat) (s e : State), s.elapse dt = e → e.annex.rotation = some o →
    o.step = .standinCal → e.since o.since (420 * Config.ticksPerMs) = true → calFails offs gains = none →
    ∃ t, exec (.standinCalibrationDone dt offs gains) s = .next t ∧ (t.cal o.standin).running = none ∧
      (t.cal o.standin).done = true ∧ t.annex.rotation = some { o with step := .shadow, since := e.tick }) ∧
  (∀ (dt : Nat) (o : Rotation) (s e : State), s.elapse dt = e → e.annex.rotation = some o → o.step = .shadow →
    ∃ t, exec (.shadowPassDone dt) s = .next t ∧ t.annex.rotation = some { o with step := .recal, since := e.tick } ∧
      tget t.annex.convRemap o.standin none = some (o.conv, false) ∧ (t.cal o.conv).running = some e.tick) ∧
  (∀ (dt : Nat) (o : Rotation) (s e : State), s.elapse dt = e → e.annex.rotation = some o → o.step = .returning →
    o.permanent = false → e.ai.calOp = none →
    ∃ t, exec (.shadowPassDone dt) s = .next t ∧ t.annex.rotation = none ∧ tget t.annex.convRemap o.standin none = none ∧
      Occurs e t 88 [(1, o.conv), (1, o.standin), (4, tget e.annex.drift o.conv 0), (1, 1)]) ∧
  (∀ (dt d : Nat) (named : Bool) (task : Option Nat) (s e : State), s.elapse dt = e → d < 10 →
    (∃ t, exec (.dramEccError dt d true named task) s = .next t ∧
      tget t.annex.dramCe d 0 = satInc 32 (tget e.annex.dramCe d 0)) ∧
    (∃ t, exec (.dramEccError dt d false named task) s = .next t ∧ t.annex.dramUe = satInc 32 e.annex.dramUe ∧
      (task ≠ none → t.pair.flag = true) ∧
      (e.annex.dramSpare ≠ none → e.mode ≠ .m11 → e.mu.haltCause = 0 →
        t.mu.haltCause = 3 ∧ t.mu.haltResource = 10 + d))) ∧
  (∀ (dt b : Nat) (erase : Bool) (s e : State), s.elapse dt = e → b < 16384 →
    ∃ t, exec (.flashProgramFailure dt b erase) s = .next t ∧
      tget t.annex.flashPe b 0 = (if erase then satInc 32 (tget e.annex.flashPe b 0) else tget e.annex.flashPe b 0) ∧
      (e.annex.reserve ≠ 0 → ∃ m ∈ t.annex.running ++ t.annex.waiting, m.resource = 20)) ∧
  (∀ (dt o i err spareErr : Nat) (s e : State), s.elapse dt = e → o < 3 → e.resState (49 + o) = 0 ∨ e.resState (49 + o) = 2 →
    e.nextRef o = some i → e.annex.activeRef = o →
    ∃ t, exec (.oscillatorFault dt o true err spareErr) s = .next t ∧ t.annex.activeRef = i ∧
      Occurs e t 85 [(1, o), (1, i), (4, tget e.annex.oscErr o 0)]) ∧
  (∀ (dt o err spareErr : Nat) (s e : State), s.elapse dt = e → o < 3 → e.resState (49 + o) ≠ 3 →
    ∃ t, exec (.oscillatorFault dt o false err spareErr) s = .next t ∧ tget t.annex.oscErr o 0 = err) ∧
  (∀ (dt r : Nat) (pass : Bool) (s e : State), s.elapse dt = e → r = 19 ∨ r = 47 ∨ r = 48 ∨ r = 51 → e.resState r = 1 →
    (∀ o, e.annex.rotation = some o → r ≠ 21 + o.standin) → e.mode ≠ .m0 → tget e.annex.sparedAt r 0 + 86400 ≤ e.ident.opSeconds →
    ∃ t, exec (.spareSelfTest dt r pass) s = .next t ∧ tget t.annex.sparedAt r 0 = e.ident.opSeconds ∧
      (tget t.annex.res r {}).state = (if pass then (tget e.annex.res r {}).state else some 3)) ∧
  (∀ (dt : Nat) (s e : State), s.elapse dt = e → e.since e.annex.writtenAt (60 * Config.ticksPerSecond) = true →
    ∃ t, exec (.ledgerWrite dt) s = .next t ∧ t.annex.writtenAt = e.tick) ∧
  (∀ (dt : Nat) (s e : State), s.elapse dt = e → e.annex.ceWindow + e.eff 0x0763 ≤ e.ident.opSeconds →
    ∃ t, exec (.dramCeWindowRestart dt) s = .next t ∧ t.annex.dramCe = [] ∧ t.annex.ceWindow = e.ident.opSeconds) ∧
  (∀ (dt st : Nat) (s e : State), s.elapse dt = e → st < 18 → e.has .ao = true →
    ∃ t, exec (.stageHotHour dt st) s = .next t ∧
      tget t.annex.hotHours st 0 = satInc 32 (tget e.annex.hotHours st 0))

/-- Rows of register writes that act, and of a requested slot table, complete: SeqGo, GoAll and SeqStop start and stop sequences, from a
host and from the trigger port (R371), a bit of ArbControl asks for the swap (R354), DoFaultClear releases latched outputs (R421),
ArbFreeze is a live parameter (R350), and the swap takes place at its boundary with EV112, or is refused with EV113 (R353, R354). -/
def Obligations.RegisterRowsComplete : Prop :=
  (∀ (dt mask : Nat) (w : RegWrite) (s e : State), s.elapse dt = e → e.has .ai = true → e.seqMode = true →
    w = .port mask ∨ (∃ p x, w = .host p ∧ Writes e p x 0x09F8 mask) →
    ∃ t, exec (.seqGo dt w) s = .next t ∧ ∀ c < 8,
      (bit mask c = false ∨ e.convBusy c ≠ none ∨ e.convUsable c = false → t.conv c = e.conv c) ∧
      (bit mask c = true → e.convBusy c = none → e.convUsable c = true →
        (t.conv c).running = true ∧ (t.conv c).pass = ((e.conv c).pass + 1) % 256 ∧
        (t.conv c).control = e.eff (0x0980 + 12 * c))) ∧
  (∀ (dt mask : Nat) (w : RegWrite) (s e : State), s.elapse dt = e → e.has .ai = true → e.seqMode = true →
    w = .port mask ∨ (∃ p x, w = .host p ∧ Writes e p x 0x09F9 mask) →
    ∃ t, exec (.goAll dt w) s = .next t ∧
      ((∃ c < 8, bit mask c = true ∧ e.convBusy c ≠ none) → ∀ c, t.conv c = e.conv c) ∧
      ((∀ c < 8, bit mask c = true → e.convBusy c = none) → ∀ c < 8, bit mask c = true → e.convUsable c = true →
        (t.conv c).running = true ∧ (t.conv c).pass = ((e.conv c).pass + 1) % 256)) ∧
  (∀ (dt mask : Nat) (p : Packet) (x : Session) (s e : State), s.elapse dt = e → Writes e p x 0x09FA mask →
    ∃ t, exec (.seqStop dt (.host p)) s = .next t ∧ Responds t p x e.mode e.role .ok 0 [] ∧ ∀ c < 8,
      (bit mask c = false → t.conv c = e.conv c) ∧
      (bit mask c = true → (e.conv c).visit = none → t.conv c = { e.conv c with running := false }) ∧
      (bit mask c = true → (e.conv c).visit ≠ none → t.conv c = { e.conv c with stop := (e.conv c).running })) ∧
  (∀ (dt v : Nat) (p : Packet) (x : Session) (s e : State), s.elapse dt = e → Writes e p x 0x08B2 v → bit v 0 = true →
    ∃ t, exec (.slotSwap dt (.host p)) s = .next t ∧ t.prot = { e.prot with swap := true } ∧
      Responds t p x e.mode e.role .ok 0 []) ∧
  (∀ (dt mask : Nat) (p : Packet) (x : Session) (s e : State), s.elapse dt = e → Writes e p x 0x0BE7 mask →
    ∃ t, exec (.doFaultClear dt (.host p)) s = .next t ∧ Responds t p x e.mode e.role .ok 0 [] ∧ ∀ m < 32,
      (bit mask m = false ∨ (e.sw m).latched = false → t.sw m = e.sw m) ∧
      (bit mask m = true → (e.sw m).latched = true → (t.sw m).latched = false ∧ (t.sw m).retries = 0)) ∧
  (∀ (dt v : Nat) (p : Packet) (x : Session) (s e : State), s.elapse dt = e → Writes e p x 0x08B0 v →
    ∃ t, exec (.arbFreeze dt (.host p)) s = .next t ∧ Responds t p x e.mode e.role .ok 0 [] ∧
      t.cfg.working = e.cfg.working.setParam e.mu.slot 0x08B0 v ∧
      t.cfg.base = (if e.cfg.loaded then e.cfg.base.setParam e.mu.slot 0x08B0 v else e.cfg.base)) ∧
  (∀ (dt u n m : Nat) (s e : State), s.elapse dt = e → e.prot.swap = true → e.atFrame = true →
    e.slotFault e.shadowSlots = some (u, n, m) →
    ∃ t, exec (.slotTableSwapApply dt) s = .next t ∧ t.prot = { e.prot with swap := false, refused := true } ∧
      t.cfg = e.cfg ∧ Occurs e t 113 [(1, u), (1, n), (1, m)]) ∧
  (∀ (dt : Nat) (s e : State), s.elapse dt = e → e.prot.swap = true → e.atFrame = true → e.slotFault e.shadowSlots = none →
    ∃ t, exec (.slotTableSwapApply dt) s = .next t ∧
      t.prot = { e.prot with swap := false, refused := false, swaps := e.prot.swaps + 1 } ∧
      (e.cfg.loaded = true → ∀ k < 128, t.cfg.base.entry 6 k = e.entry 0x0006 (128 + k)) ∧
      Occurs e t 112 [(8, e.gridInstant Config.frameNs), (4, (e.prot.swaps + 1).toNat)])

/-- Rows of regions, colours and the arbiter complete: a permitted access passes and a refused one is counted and told by EV096 (R336,
R337), a colour refusal by EV100 (R341, R342), a corrupted region by EV097 with the regions loaded anew (R339), and a write to a sealed
one by EV099, ignored (R344); the arbiter grants to the eligible requester of the lowest ArbPriority (R349), cuts off one whose budget is
used up with EV110 (R348), and starts a budget frame anew (R347–R349). -/
def Obligations.ArbiterRowsComplete : Prop :=
  (∀ (dt : Nat) (a : Access) (s e : State), s.elapse dt = e → accBad a = false →
    ∃ t, exec (.regionFault dt a) s = .next t ∧
      ((∀ g ∈ accGranules a, ∃ k, e.regCheck a g = .ok k) → t = e) ∧
      (∀ g, accGranules a = [g] → e.regCheck a g = .noMatch → a.ctx < 16 →
        tget t.prot.ctxRegion a.ctx 0 = satInc 16 (tget e.prot.ctxRegion a.ctx 0) ∧
        Occurs e t 96 [(1, a.rq), (1, a.ctx), (5, a.addr), (8, a.iaddr), (1, 1)]) ∧
      (∀ g k, accGranules a = [g] → e.regCheck a g = .denied (some k) → a.ctx < 16 →
        tget t.prot.ctxRegion a.ctx 0 = satInc 16 (tget e.prot.ctxRegion a.ctx 0) ∧
        tget t.prot.faults k 0 = satInc 32 (tget e.prot.faults k 0) ∧
        Occurs e t 96 [(1, a.rq), (1, a.ctx), (5, a.addr), (8, a.iaddr), (1, 2)])) ∧
  (∀ (dt : Nat) (a : Access) (s e : State), s.elapse dt = e → accBad a = false →
    (∀ g ∈ accGranules a, ∃ k, e.regCheck a g = .ok k) →
    ∃ t, exec (.colourViolation dt a) s = .next t ∧ (e.colourRefused a = none → t = e) ∧
      (∀ g tag, e.colourRefused a = some (g, tag) → accGranules a = [g] →
        (e.imprecise a = true → tget t.prot.ctxColour a.ctx 0 = satInc 16 (tget e.prot.ctxColour a.ctx 0) ∧
          t.tk = e.tk ∧ Occurs e t 100 [(1, a.rq), (4, g), (1, tag), (2, e.keysOf a), (1, 0), (5, 0)]) ∧
        (e.imprecise a = false → a.ctx < 16 →
          Occurs e t 100 [(1, a.rq), (4, g), (1, tag), (2, e.keysOf a), (1, 1), (5, a.iaddr)]))) ∧
  (∀ (dt : Nat) (rs : List Nat) (parity : Bool) (a : Access) (s e : State), s.elapse dt = e → accBad a = false →
    (∀ r ∈ rs, r ≤ 63) → parity = true ∨ 2 ≤ rs.length →
    ∃ t, exec (.regionOverlap dt a.ctx rs parity a) s = .next t ∧ t.prot.reloads = e.prot.reloads + 1 ∧
      Occurs e t 97 [(1, a.ctx), (8, rs.foldl (fun m r => m ||| 2 ^ r) 0), (1, b2n parity)]) ∧
  (∀ (dt ctx region v : Nat) (s e : State), s.elapse dt = e → ctx ≤ 23 → region ≤ 63 →
    ∃ t, exec (.sealedAccess dt ctx region v) s = .next t ∧ t.prot = e.prot ∧
      (ctx = 16 ∨ (∃ w, tlook e.prot.regions (64 * ctx + region) = some w ∧ regValid w = true ∧ regSealed w = true) →
        Occurs e t 99 [(1, ctx), (1, region), (4, v)])) ∧
  (∀ (dt waiting moved : Nat) (s e : State), s.elapse dt = e → waiting < 2 ^ 18 →
    ∃ t, exec (.arbitrationGrant dt waiting moved) s = .next t ∧
      (e.prot.holder = none → t.prot = { e.prot with holder := e.arbWinner waiting }) ∧
      (∀ q, e.prot.holder = some q → tget t.prot.beats q 0 = tget e.prot.beats q 0 + moved)) ∧
  (∀ (dt q : Nat) (s e : State), s.elapse dt = e → q ≤ 17 → e.prot.holder = some q →
    ∃ t, exec (.budgetCutoff dt q) s = .next t ∧ t.prot.holder = none ∧ tget t.prot.beats q 0 = e.budgetNow q ∧
      tget t.prot.cutoffs q 0 = wrapInc 32 (tget e.prot.cutoffs q 0) ∧
      Occurs e t 110 [(1, q), (8, e.gridInstant Config.budgetNs), (4, e.budgetNow q)]) ∧
  (∀ (dt moved : Nat) (s e : State), s.elapse dt = e → e.onGrid Config.budgetNs = true →
    ∃ t, exec (.budgetFrameStart dt moved) s = .next t ∧ t.prot.beats = [] ∧ t.prot.holder = e.prot.holder ∧
      t.prot.last = (e.moveBeats moved).prot.beats ∧ t.prot.budgets = some ((List.range 18).map e.budgetOf))

/-- Rows of the analogue inputs complete: a conversion without excitation is written as its channel's value, flags and stamp (R362,
R365, R372–R374); an excitation swap takes the owner of R285 and judges the half-period that ended, with EV130 (R361, R379); four
common-mode measurements out of the window are a fault with EV131, and four within it end it (R378); a second's drift comparison starts
anew (R384); AI_CALIBRATE calibrates the converters named (R380, R381), and a calibration ends with its factors, or with EV133 (R380). -/
def Obligations.AnalogRowsComplete : Prop :=
  (∀ (dt c w n value stamp : Nat) (x : ConvIn) (v : Visit) (q : Int × Nat) (s e : State), s.elapse dt = e → c < 8 →
    e.has .ai = true → (e.conv c).running = true → (e.conv c).dead = false → (e.conv c).visit = some v →
    (e.conv c).entries.getD v.entry 0 = w → seqPhase w = 0 → seqChannel c w = some n → e.clk.stepTick = none →
    q = codeValue (toSigned 24 x.code) (e.factors (e.physConv c) (seqGain w)).1 (e.factors (e.physConv c) (seqGain w)).2
      (bits v.settings 2 3) (seqGain w) →
    value = ofRatio fmt32 q.1 q.2 → stamp = e.now - 10000 - 2 * osrNs (seqOsr w) →
    ∃ t f, exec (.converterResult dt c x) s = .next t ∧
      f = e.resultFlags c v w (bits v.settings 2 3) (toSigned 24 x.code) value (stamp - 2 * osrNs (seqOsr w))
        (4 * osrNs (seqOsr w)) 0 x.open_ ∧
      tget (t.conv c).direct v.entry {} = { value := value, flags := f, conv := c, entry := v.entry, seq := (e.conv c).pass, stamp := stamp } ∧
      (t.conv c).results = (e.conv c).results + 1 ∧ (t.aiChan n).value = value ∧ (t.aiChan n).flags = f) ∧
  (∀ (dt n : Nat) (x : ExcIn) (s e : State), s.elapse dt = e → n < 32 → e.has .ai = true → bit (e.aiConfig n) 31 = true →
    aiExcited (e.aiConfig n) = true → e.onGrid (e.halfNs n) = true →
    ∃ t, exec (.excitationSwap dt n x) s = .next t ∧ (t.aiChan n).drives = e.excWanted n ∧ (t.aiChan n).owner = e.excOwner n ∧
      (e.excCondition n x = none → (t.aiChan n).excFault = false) ∧
      (∀ cause, e.excCondition n x = some cause → (t.aiChan n).excFault = decide (1 ≤ (e.aiChan n).excRun) ∧
        ((e.aiChan n).excRun = 1 → (e.aiChan n).excFault = false →
          Occurs e t 130 [(1, n), (1, cause), (1, b2n (e.aiChan n).drives)])) ∧
      (∀ k, k ≠ n → t.aiChan k = e.aiChan k)) ∧
  (∀ (dt n w : Nat) (mv : Int) (s e : State), s.elapse dt = e → n < 32 → e.has .ai = true → e.eff (0x0901 + 4 * n) = w →
    ∃ t, exec (.cmMeasurement dt n mv) s = .next t ∧
      (mv < toSigned 8 (bits w 24 8) * 100 ∨ toSigned 8 (bits w 16 8) * 100 < mv → (e.aiChan n).cmOut = 3 →
        (t.aiChan n).cmFault = true ∧
        ((e.aiChan n).cmFault = false → Occurs e t 131 [(1, n), (4, ofSigned 32 mv), (2, bits w 16 16)])) ∧
      (toSigned 8 (bits w 24 8) * 100 ≤ mv → mv ≤ toSigned 8 (bits w 16 8) * 100 → (e.aiChan n).cmIn = 3 →
        (t.aiChan n).cmFault = false)) ∧
  (∀ (dt n : Nat) (s e : State), s.elapse dt = e → n < 32 → e.has .ai = true → e.onGrid 1000000000 = true →
    ∃ t, exec (.driftComparison dt n) s = .next t ∧ (t.aiChan n).ownSum = 0 ∧ (t.aiChan n).ownN = 0 ∧
      (t.aiChan n).agrSum = 0 ∧ (t.aiChan n).agrN = 0 ∧ (e.role ≠ .standby → (t.aiChan n).driftRun = (e.aiChan n).driftRun)) ∧
  (∀ (dt q : Nat) (p : Packet) (x : Session) (s e : State), s.elapse dt = e → Accepted aiCalibrateCmd e p x → e.mode ≠ .m8 →
    e.annex.rotation = none → (∀ c < 8, (e.conv c).visit = none) → beAt (reqOf p).body 0 2 ≠ 0 → q < 10 →
    bit (beAt (reqOf p).body 0 2) q = true → e.resState (21 + q) ≠ 3 → e.resState (21 + q) ≠ 4 →
    ∃ t, exec (.aiCalibrate dt p) s = .next t ∧ (t.cal q).running = some e.tick ∧ t.ai.calState = 1 ∧
      t.ai.calOp = some (some e.mbx.nextOp) ∧ Answers t p x e.mode e.role .accepted 0 []) ∧
  (∀ (dt p k : Nat) (offs gains : List Nat) (s e : State), s.elapse dt = e → p < 10 → (e.cal p).running = some k →
    e.since k (420 * Config.ticksPerMs) = true → e.annex.rotation = none → e.ai.calOp = none →
    ∃ t, exec (.converterCalibrationDone dt p offs gains) s = .next t ∧ (t.cal p).running = none ∧
      (calFails offs gains = none → (t.cal p).done = true ∧ (t.cal p).failed = false ∧
        ∀ g < 8, tget (t.cal p).offset g 0 = offs.getD g 0 ∧ tget (t.cal p).gain g none = some (gains.getD g 0)) ∧
      (∀ g, calFails offs gains = some g → (t.cal p).done = (e.cal p).done ∧ (t.cal p).failed = true ∧
        (t.cal p).offset = (e.cal p).offset ∧ (t.cal p).gain = (e.cal p).gain ∧
        Occurs e t 133 [(1, p), (1, g), (4, offs.getD g 0), (4, gains.getD g 0)]))

/-- Rows of the digital inputs complete: a raw transition leaves its candidate stamp (R413), a sample moves the counter and at a switching
level confirms the edge with its stamp and count (R412–R414), of an acknowledge input with EV185 (R428), a whole second clears CHATTER
where it may (R417), and a broken wire and a lost sensor or field supply are told by their events (R415, R416, R424). -/
def Obligations.DigitalInputRowsComplete : Prop :=
  (∀ (dt n : Nat) (level : Bool) (s e : State), s.elapse dt = e → n < 36 → e.inHere n = true → e.mode ≠ .m0 →
    (e.din n).level ≠ level →
    ∃ t, exec (.diRawTransition dt n level) s = .next t ∧ (t.din n).level = level ∧
      (t.din n).turned = e.now / 1000 * 1000 - 3000 ∧ (∀ k, k ≠ n → t.din k = e.din k) ∧
      ((e.din n).turned + inThreshold (e.inConfig n) * inTick (e.inConfig n) ≤ e.now / 1000 * 1000 - 3000 →
        tget (t.din n).cand (b2n level) none = some (e.now / 1000 * 1000 - 3000))) ∧
  (∀ (dt n c : Nat) (raw : Bool) (s e : State), s.elapse dt = e → n < 36 → e.inHere n = true → e.mode ≠ .m0 →
    e.onGrid (inTick (e.inConfig n)) = true → (e.din n).sampled ≠ some e.tick →
    inStep (e.din n).c (e.inConfig n) (e.din n).state raw = (c, (e.din n).state) →
    ∃ t, exec (.diFilterSample dt n raw) s = .next t ∧
      t.din n = { e.din n with c := c, raw := raw, sampled := some e.tick } ∧ ∀ k, k ≠ n → t.din k = e.din k) ∧
  (∀ (dt n c : Nat) (raw : Bool) (s e : State), s.elapse dt = e → n < 32 → e.inHere n = true → e.mode ≠ .m0 →
    e.onGrid (inTick (e.inConfig n)) = true → (e.din n).sampled ≠ some e.tick →
    inStep (e.din n).c (e.inConfig n) (e.din n).state raw = (c, !(e.din n).state) →
    ∃ t, exec (.diEdgeConfirmed dt n raw) s = .next t ∧ (t.din n).state = !(e.din n).state ∧ (t.din n).c = c ∧
      (t.din n).second = (e.din n).second + 1 ∧
      ((e.din n).chatter = false → (e.din n).second + 1 ≤ e.eff 0x0BE6 → (t.din n).edges = (e.din n).edges + 1 ∧
        (t.din n).lastEdge = (tget (e.din n).cand (b2n !(e.din n).state) none).getD (e.din n).turned) ∧
      ((e.din n).chatter = false → e.eff 0x0BE6 < (e.din n).second + 1 → (t.din n).chatter = true ∧
        (t.din n).edges = (e.din n).edges ∧ Occurs e t 176 [(1, n), (4, (e.din n).second + 1)])) ∧
  (∀ (dt k c : Nat) (s e : State), s.elapse dt = e → k < 4 → e.mode ≠ .m0 → e.onGrid (inTick (e.inConfig (32 + k))) = true →
    (e.din (32 + k)).sampled ≠ some e.tick → (e.din (32 + k)).state = false →
    inStep (e.din (32 + k)).c (e.inConfig (32 + k)) false true = (c, true) →
    ∃ t, exec (.ackEdge dt k) s = .next t ∧ (t.din (32 + k)).state = true ∧
      (t.din (32 + k)).edges = (e.din (32 + k)).edges + 1 ∧ t.al.edges = e.al.edges ||| 2 ^ k ∧
      Occurs e t 185 [(1, k), (8, (tget (e.din (32 + k)).cand 1 none).getD (e.din (32 + k)).turned)]) ∧
  (∀ (dt : Nat) (s e : State), s.elapse dt = e → e.onGrid 1000000000 = true →
    ∃ t, exec (.chatterSecondEnd dt) s = .next t ∧ ∀ n < 32, (t.din n).second = 0 ∧
      (t.din n).chatter = ((e.din n).chatter && decide (e.eff 0x0BE6 < (e.din n).second))) ∧
  (∀ (dt n ua : Nat) (s e : State), s.elapse dt = e → n < 32 → e.has .dio = true → e.mode ≠ .m0 →
    bit (e.inConfig n) 31 = true → (e.din n).state = false → e.supplyLost (if n < 16 then 2 else 3) = false →
    decide (ua < 300) ≠ (e.din n).wireBreak →
    ∃ t, exec (.wireBreakTimeout dt n ua) s = .next t ∧ (t.din n).wireBreak = decide (ua < 300) ∧
      (ua < 300 → Occurs e t 178 [(1, n), (4, ua)])) ∧
  (∀ (dt g v : Nat) (s e : State), s.elapse dt = e → g < 2 → e.mode ≠ .m0 → flt fmt32 v (f32 15 1) = true →
    ∃ t, exec (.sensorSupplyLost dt g v) s = .next t ∧ t.dio.lost = e.dio.lost.set (2 + g) true ∧
      t.dio.there = e.dio.there.set (2 + g) false ∧
      t.dio.volts = e.dio.volts.set (2 + g) v ∧ (e.supplyLost (2 + g) = false → Occurs e t 177 [(1, g + 1), (4, v)])) ∧
  (∀ (dt g v : Nat) (s e : State), s.elapse dt = e → g < 2 → e.mode ≠ .m0 → flt fmt32 (f32 16 1) v = true →
    ∃ t, exec (.sensorSupplyRecovered dt g v) s = .next t ∧ t.dio.lost = e.dio.lost.set (2 + g) false ∧
      t.dio.there = e.dio.there.set (2 + g) true ∧
      t.dio.volts = e.dio.volts.set (2 + g) v) ∧
  (∀ (dt k v : Nat) (s e : State), s.elapse dt = e → k < 2 → e.mode ≠ .m0 → flt fmt32 v (f32 16 1) = true →
    ∃ t, exec (.fieldSupplyLost dt k v) s = .next t ∧ t.dio = { e.dio with
        lost := e.dio.lost.set k true, there := e.dio.there.set k false, volts := e.dio.volts.set k v } ∧
      (e.supplyLost k = false → Occurs e t 183 [(1, k + 1), (4, v)])) ∧
  (∀ (dt k v : Nat) (s e : State), s.elapse dt = e → k < 2 → e.mode ≠ .m0 → flt fmt32 (f32 17 1) v = true →
    ∃ t, exec (.fieldSupplyRestored dt k v) s = .next t ∧ t.dio = { e.dio with
        lost := e.dio.lost.set k false, there := e.dio.there.set k true, volts := e.dio.volts.set k v })

/-- Rows of the digital outputs and call lines complete: a protective turn-off counts and latches with its events (R421), a retry turns
the switch on again and a second without fault resets the count (R421), a readback that differs is a fault with EV181 until it agrees
(R423), and a call line's fault counts with EV184 and is retried every second (R427). -/
def Obligations.DigitalOutputRowsComplete : Prop :=
  (∀ (dt m : Nat) (s e : State), s.elapse dt = e → m < 32 → e.swOn m = true → e.swUnfed m = false →
    (e.sw m).retrying = false → bits (e.doConfig m) 23 4 ≠ 0 →
    (∃ t, exec (.doOvercurrent dt m) s = .next t ∧ (t.sw m).overcur = true ∧ (t.sw m).latched = false ∧
      (t.sw m).retryFrom = some e.tick ∧ Occurs e t 179 [(1, m), (1, 0)] ∧ ∀ k, k ≠ m → t.sw k = e.sw k) ∧
    (∃ t, exec (.doThermalShutdown dt m) s = .next t ∧ (t.sw m).thermal = true ∧ (t.sw m).latched = false ∧
      (t.sw m).retryFrom = some e.tick ∧ Occurs e t 180 [(1, m), (1, 0)] ∧ ∀ k, k ≠ m → t.sw k = e.sw k)) ∧
  (∀ (dt m : Nat) (s e : State), s.elapse dt = e → m < 32 → e.swOn m = true → e.swUnfed m = false →
    bits (e.doConfig m) 23 4 = 0 ∨
      ((e.sw m).retrying = true ∧ bits (e.doConfig m) 23 4 ≤ min 15 ((e.sw m).retries + 1)) →
    (∃ t, exec (.doOvercurrent dt m) s = .next t ∧ (t.sw m).latched = true ∧ (t.sw m).retryFrom = none ∧
      Occurs e t 182 [(1, m), (1, 1)]) ∧
    (∃ t, exec (.doThermalShutdown dt m) s = .next t ∧ (t.sw m).latched = true ∧ (t.sw m).retryFrom = none ∧
      Occurs e t 182 [(1, m), (1, 2)])) ∧
  (∀ (dt m junction : Nat) (s e : State), s.elapse dt = e → m < 32 →
    e.retryDue m (e.eff 0x0BE3 * Config.ticksPerMs) junction = true →
    ∃ t, exec (.doRetry dt m junction) s = .next t ∧
      t.sw m = { e.sw m with overcur := false, thermal := false, retryFrom := none, retrying := true, onAt := e.tick } ∧
      ∀ k, k ≠ m → t.sw k = e.sw k) ∧
  (∀ (dt m : Nat) (s e : State), s.elapse dt = e → m < 32 → e.swOn m = true →
    e.since (e.sw m).onAt Config.ticksPerSecond = true →
    ∃ t, exec (.doFaultFreeSecond dt m) s = .next t ∧ t.sw m = { e.sw m with retries := 0, retrying := false } ∧
      ∀ k, k ≠ m → t.sw k = e.sw k) ∧
  (∀ (dt m : Nat) (level : Bool) (s e : State), s.elapse dt = e → m < 32 → e.has .dio = true → e.mode ≠ .m0 →
    e.rbSuspended m = false →
    (level ≠ e.doExpected m → (e.sw m).readbackFault = false →
      ∃ t, exec (.doReadbackMismatch dt m level) s = .next t ∧
        t.sw m = { e.sw m with readback := level, readbackFault := true } ∧
        Occurs e t 181 [(1, m), (1, b2n (e.doCommand m)), (1, b2n (e.sw m).peer), (1, b2n level)]) ∧
    (level = e.doExpected m →
      ∃ t, exec (.doReadbackFaultClear dt m level) s = .next t ∧
        t.sw m = { e.sw m with readback := level, readbackFault := false } ∧ ∀ k, k ≠ m → t.sw k = e.sw k)) ∧
  (∀ (dt c cause : Nat) (level : Bool) (s e : State), s.elapse dt = e → c < 2 → e.mode ≠ .m0 →
    (cause = 1 ∨ cause = 2) ∧ e.swOn (32 + c) = true ∨
      cause = 3 ∧ e.rbSuspended (32 + c) = false ∧ (e.sw (32 + c)).readbackFault = false ∧ level ≠ e.doExpected (32 + c) →
    ∃ t, exec (.callOutputFault dt c cause level) s = .next t ∧ Occurs e t 184 [(1, c), (1, cause)] ∧
      t.dio.callFaults = e.dio.callFaults.set c (wrapInc 32 (e.dio.callFaults.getD c 0)) ∧
      (cause = 3 → (t.sw (32 + c)).readbackFault = true) ∧ (cause ≠ 3 → (t.sw (32 + c)).retryFrom = some e.tick)) ∧
  (∀ (dt c junction : Nat) (s e : State), s.elapse dt = e → c < 2 →
    e.retryDue (32 + c) Config.ticksPerSecond junction = true →
    ∃ t, exec (.callRetry dt c junction) s = .next t ∧ (t.sw (32 + c)).retryFrom = none ∧ (t.sw (32 + c)).overcur = false ∧
      (t.sw (32 + c)).thermal = false ∧ (t.sw (32 + c)).onAt = e.tick)

/-- Rows of the loop output stages complete: a measurement is kept and sets the supply (R393, R395), a condition that has held for
AoDebounce changes its flag with its event (R395), and supply faults and thermal limits are flagged with theirs (R395). AO_TRIM's seven
operations hold, record, store, clear and release (R398). -/
def Obligations.LoopOutputRowsComplete : Prop :=
  (∀ (dt st n : Nat) (m : StageIn) (s e : State), s.elapse dt = e → st < 18 → e.has .ao = true → e.mode ≠ .m0 →
    e.stageOutput st = some n →
    ∃ t, exec (.stageMeasurement dt st m) s = .next t ∧ (t.aoChan n).readback = m.current ∧
      (t.aoChan n).terminal = m.terminal ∧ (t.aoChan n).supply = m.supply ∧ (∀ k, k ≠ n → t.aoChan k = e.aoChan k) ∧
      t.ao.tempMax = fmax fmt32 e.ao.tempMax m.junction ∧
      ∀ r v, r = fdiv fmt64 (f32to64 m.terminal)
          (fdiv fmt64 (fmul fmt64 (f32to64 m.current) (f64 100 1)) (ofInt fmt64 (e.shareInUse n))) →
        v = f64to32 (fadd fmt64 (fmul fmt64 r (f32to64 (e.aoCommand n))) (f64 1500 1000)) →
        (e.aoChan n).trimOp = none → fisNan fmt32 v = false →
        (t.aoChan n).setpoint = fmin fmt32 (fmax fmt32 v (f32 6 1)) (f32 28 1)) ∧
  (∀ (dt st n k since : Nat) (s e : State), s.elapse dt = e → st < 18 → e.stageOutput st = some n → k < 3 →
    tget (e.aoChan n).since k none = some since → e.since since (e.eff 0x0AE0 * Config.ticksPerMs) = true →
    e.aoJudge n k = true → (∀ j < 3, j ≠ k → tget (e.aoChan n).since j none = none) →
    ∃ t, exec (.aoDebounceExpiry dt st) s = .next t ∧
      (k = 0 → (t.aoChan n).open_ = !(e.aoChan n).open_ ∧ ((e.aoChan n).open_ = false →
        Occurs e t 160 [(1, n), (4, f64to32 (e.aoTarget n)), (4, (e.aoChan n).readback)])) ∧
      (k = 1 → (t.aoChan n).compliance = !(e.aoChan n).compliance ∧ ((e.aoChan n).compliance = false →
        Occurs e t 161 [(1, n), (4, f64to32 (e.aoTarget n)), (4, (e.aoChan n).readback), (4, (e.aoChan n).terminal)])) ∧
      (k = 2 → (t.aoChan n).readbackFault = true ∧
        Occurs e t 164 [(1, n), (4, f64to32 (e.aoTarget n)), (4, (e.aoChan n).readback)])) ∧
  (∀ (dt st n since : Nat) (s e : State), s.elapse dt = e → st < 18 → e.stageOutput st = some n →
    tget (e.aoChan n).since 3 none = some since → e.since since (10 * Config.ticksPerMs) = true → e.aoJudge n 3 = true →
    ∃ t, exec (.stageSupplyFault dt st) s = .next t ∧ (t.aoChan n).supplyFault = true ∧
      Occurs e t 163 [(1, n), (4, (e.aoChan n).setpoint), (4, (e.aoChan n).supply)]) ∧
  (∀ (dt st n j : Nat) (s e : State), s.elapse dt = e → st < 18 → e.stageOutput st = some n →
    ((e.aoChan n).thermal = false → fle fmt32 (f32 150 1) j = true →
      ∃ t, exec (.stageThermalLimit dt st j) s = .next t ∧ (t.aoChan n).thermal = true ∧ Occurs e t 162 [(1, n), (4, j)] ∧
        tget t.annex.thermals st 0 = satInc 32 (tget e.annex.thermals st 0)) ∧
    ((e.aoChan n).thermal = true → flt fmt32 j (f32 140 1) = true →
      ∃ t, exec (.stageThermalLimit dt st j) s = .next t ∧ (t.aoChan n).thermal = false ∧ t.ev = e.ev)) ∧
  (∀ (dt n : Nat) (p : Packet) (x : Session) (s e : State), s.elapse dt = e → Accepted aoTrimCmd e p x →
    beAt (reqOf p).body 0 1 = n →
    (beAt (reqOf p).body 1 1 = 1 → ∃ t, exec (.aoTrimHold4 dt p) s = .next t ∧
      t.aoChan n = { e.aoChan n with trimOp := some 1 } ∧ (∀ k, k ≠ n → t.aoChan k = e.aoChan k) ∧
      Answers t p x e.mode e.role .ok 0 []) ∧
    (beAt (reqOf p).body 1 1 = 2 → ∃ t, exec (.aoTrimHold20 dt p) s = .next t ∧
      t.aoChan n = { e.aoChan n with trimOp := some 2 } ∧ (∀ k, k ≠ n → t.aoChan k = e.aoChan k) ∧
      Answers t p x e.mode e.role .ok 0 []) ∧
    (beAt (reqOf p).body 1 1 = 3 → ∃ t, exec (.aoTrimRecord4 dt p) s = .next t ∧
      t.aoChan n = { e.aoChan n with m4 := some (beAt (reqOf p).body 4 4) } ∧ (∀ k, k ≠ n → t.aoChan k = e.aoChan k) ∧
      Answers t p x e.mode e.role .ok 0 []) ∧
    (beAt (reqOf p).body 1 1 = 4 → ∃ t, exec (.aoTrimRecord20 dt p) s = .next t ∧
      t.aoChan n = { e.aoChan n with m20 := some (beAt (reqOf p).body 4 4) } ∧ (∀ k, k ≠ n → t.aoChan k = e.aoChan k) ∧
      Answers t p x e.mode e.role .ok 0 []) ∧
    (beAt (reqOf p).body 1 1 = 5 → ∃ t u v b, exec (.aoTrimStore dt p) s = .next t ∧ (e.aoChan n).m4 = some u ∧
      (e.aoChan n).m20 = some v ∧ b = fdiv fmt64 (f64 16 1) (fsub fmt64 (f32to64 v) (f32to64 u)) ∧
      t.aoChan n = { e.aoChan n with
        trim := f64to32 b * 2 ^ 32 + f64to32 (fsub fmt64 (f64 4 1) (fmul fmt64 b (f32to64 u)))
        trimOp := none, m4 := none, m20 := none } ∧ (∀ k, k ≠ n → t.aoChan k = e.aoChan k) ∧
      Answers t p x e.mode e.role .ok 0 []) ∧
    (beAt (reqOf p).body 1 1 = 6 → ∃ t, exec (.aoTrimClear dt p) s = .next t ∧
      t.aoChan n = { e.aoChan n with trim := f32 1 1 * 2 ^ 32 } ∧ (∀ k, k ≠ n → t.aoChan k = e.aoChan k) ∧
      Answers t p x e.mode e.role .ok 0 []) ∧
    (beAt (reqOf p).body 1 1 = 0 → ∃ t, exec (.aoTrimRelease dt p) s = .next t ∧
      t.aoChan n = { e.aoChan n with trimOp := none, m4 := none, m20 := none } ∧ (∀ k, k ≠ n → t.aoChan k = e.aoChan k) ∧
      Answers t p x e.mode e.role .ok 0 []))

/-- Rows of the HART modems complete: HART_PASS is taken up (R409), due entries wait or start their transaction (R404), a response is
recorded and an identification learnt (R402, R406), a failed attempt is repeated and then a TIMEOUT or EV166 (R402, R404), a burst frame
is recorded (R405), and identification is tried again every 10 s (R402). -/
def Obligations.HartRowsComplete : Prop :=
  (∀ (dt : Nat) (p : Packet) (x : Session) (s e : State), s.elapse dt = e → Accepted hartPassCmd e p x →
    ∃ t, exec (.hartPass dt p) s = .next t ∧ (t.modem (beAt (reqOf p).body 0 1)).pass =
        some (beAt (reqOf p).body 2 2, slice (reqOf p).body 4 (beAt (reqOf p).body 1 1), some e.mbx.nextOp) ∧
      Responds t p x e.mode e.role .accepted 0 []) ∧
  (∀ (dt m k : Nat) (s e : State), s.elapse dt = e → m < 48 → e.hartOn m = true → (e.modem m).state = 2 →
    e.hartMaster = true → k < 16 → bit (fld (e.entry 0x000C (16 * m + k)) 0 0 8) 7 = true →
    e.onGrid (fld (e.entry 0x000C (16 * m + k)) 4 0 32 * 1000000) = true →
    ((e.modem m).tx ≠ none → ∃ t, exec (.hartPollDue dt m) s = .next t ∧ k ∈ (t.modem m).due ∧
      (t.modem m).tx = (e.modem m).tx) ∧
    ((e.modem m).tx = none → (e.modem m).pass = none → (e.modem m).due = [] →
      fld (e.entry 0x000C (16 * m + k)) 2 0 16 < 256 →
      (∀ j < k, (bit (fld (e.entry 0x000C (16 * m + j)) 0 0 8) 7 &&
        e.onGrid (fld (e.entry 0x000C (16 * m + j)) 4 0 32 * 1000000)) = false) →
      ∃ t y, exec (.hartPollDue dt m) s = .next t ∧ (t.modem m).tx = some y ∧ y.entry = k ∧ y.attempt = 0 ∧
        y.command = fld (e.entry 0x000C (16 * m + k)) 2 0 16 ∧
        y.data = (leBytes 8 (fld (e.entry 0x000C (16 * m + k)) 8 0 64)).take (fld (e.entry 0x000C (16 * m + k)) 1 0 8))) ∧
  (∀ (dt m : Nat) (y : HartTx) (r : HartIn) (s e : State), s.elapse dt = e → m < 48 → (e.modem m).tx = some y →
    y.sent ≠ 0 → y.sent ≤ e.tick → r.good = true → r.command = y.command →
    (y.entry < 16 → ∃ t, exec (.hartResponse dt m r) s = .next t ∧ tget (t.modem m).recs y.entry {} =
      { command := y.command, valid := true, timeout := false, burst := false, trunc := decide (40 < r.data.length),
        count := (r.data.length + 2) % 256, rc := r.rc, ds := r.ds,
        number := ((tget (e.modem m).recs y.entry {}).number + 1) % 2 ^ 32, stamp := e.now, data := r.data.take 40 }) ∧
    (y.entry = 0x100 → 5 ≤ r.rev → r.rev ≤ 7 →
      ∃ t, exec (.hartResponse dt m r) s = .next t ∧ (t.modem m).state = 2 ∧ (t.modem m).ident = some r.ident ∧
        (t.modem m).rev = r.rev)) ∧
  (∀ (dt m : Nat) (y : HartTx) (s e : State), s.elapse dt = e → m < 48 → (e.modem m).tx = some y →
    y.sent ≠ 0 → e.since y.sent 37812500 = true →
    (y.attempt < e.eff 0x0AE1 → ∃ t z, exec (.hartResponseTimeout dt m) s = .next t ∧ (t.modem m).tx = some z ∧
      z.entry = y.entry ∧ z.command = y.command ∧ z.data = y.data ∧ z.attempt = y.attempt + 1) ∧
    (e.eff 0x0AE1 ≤ y.attempt → y.entry = 0x100 → ∃ t, exec (.hartResponseTimeout dt m) s = .next t ∧
      (t.modem m).state = 3 ∧ (t.modem m).tx = none ∧ Occurs e t 166 [(1, m), (2, y.command)]) ∧
    (e.eff 0x0AE1 ≤ y.attempt → y.entry < 16 → ∃ t, exec (.hartResponseTimeout dt m) s = .next t ∧
      tget (t.modem m).recs y.entry {} = { tget (e.modem m).recs y.entry {} with
        command := y.command, timeout := true, number := ((tget (e.modem m).recs y.entry {}).number + 1) % 2 ^ 32 })) ∧
  (∀ (dt m : Nat) (r : HartIn) (s e : State), s.elapse dt = e → m < 48 → e.hartOn m = true →
    bit (e.hartConfig m) 30 = true → r.good = true →
    ∃ t, exec (.hartBurstFrame dt m r) s = .next t ∧ (t.modem m).burst = true ∧ (t.modem m).burstEnd = some e.tick ∧
      t.ao.burstFrames = e.ao.burstFrames + 1 ∧ tget (t.modem m).recs 0xFE {} =
        { command := r.command, valid := true, timeout := false, burst := true, trunc := decide (40 < r.data.length),
          count := (r.data.length + 2) % 256, rc := r.rc, ds := r.ds,
          number := ((tget (e.modem m).recs 0xFE {}).number + 1) % 2 ^ 32, stamp := e.now, data := r.data.take 40 }) ∧
  (∀ (dt m : Nat) (s e : State), s.elapse dt = e → m < 48 → e.hartOn m = true → (e.modem m).state = 3 →
    e.hartMaster = true → e.since (e.modem m).identTick (10 * Config.ticksPerSecond) = true →
    ∃ t z, exec (.hartIdentifyRetry dt m) s = .next t ∧ (t.modem m).state = 1 ∧ (t.modem m).identTick = e.tick ∧
      (t.modem m).tx = some z ∧ z.entry = 0x100 ∧ z.command = 0 ∧ z.attempt = 0)

/-- PHASE_EDGE completes for every kind of reference and input (R162–R165, R170–R172): levels that have not held for FilterTicks and
2 ticks change nothing; a transition of one line of a LOCKED encoder that keeps its direction moves base, position and velocity, one of a
SEARCHING encoder only its position; an edge of Z as ZPolarity asks corrects the count, unlocks with cause 5 or, at the last confirmation,
locks with EV048; transitions of both lines unlock with cause 7 and EV050; a tooth outside the gap leaves a searching wheel SEARCHING, and
a mains crossing below the hysteresis confirms and locks. -/
def Obligations.PhaseEdgeRowsComplete : Prop :=
  (∀ (dt n : Nat) (x : EdgeIn) (s e : State), s.elapse dt = e → n < 4 → x.held < e.refPar n 9 + 2 →
    exec (.phaseEdge dt n x) s = .next e) ∧
  (∀ (dt n te k d : Nat) (x : EdgeIn) (s e : State), s.elapse dt = e → n < 4 → e.tracks n = true → e.refKind n = 0 →
    e.refPar n 9 + 2 ≤ x.held → te = e.tick - x.held →
    (bit (e.phRef n).lines 0 != bit x.levels 0) = !(bit (e.phRef n).lines 1 != bit x.levels 1) →
    bit (e.phRef n).lines 2 = bit x.levels 2 →
    (quadReverse (e.phRef n).lines x.levels != bit (e.refPar n 0) 25) = (e.phRef n).reverse →
    k = e.nextPos n (e.phRef n).k (e.phRef n).reverse →
    ((e.phRef n).state = 3 → d = te - (e.phRef n).tePrev.getD (e.phRef n).baseT → d ≠ 0 →
      fasterThan (e.nextStep n (e.phRef n).k (e.phRef n).reverse) d (e.refPar n 4) = false →
      ∃ t, exec (.phaseEdge dt n x) s = .next t ∧ (t.phRef n).state = 3 ∧ (t.phRef n).k = k ∧
        (t.phRef n).baseT = te ∧ (t.phRef n).baseP = e.edgePhase n k ∧ (t.phRef n).tePrev = some te ∧
        (t.phRef n).v = Int.fdiv (e.nextStep n (e.phRef n).k (e.phRef n).reverse * 4294967296) d ∧
        (t.phRef n).lines = x.levels % 16 ∧ (t.phRef n).lastEdge = e.now - (e.tick - te) * 8) ∧
    ((e.phRef n).state = 1 → ∃ t, exec (.phaseEdge dt n x) s = .next t ∧ (t.phRef n).state = 1 ∧
      (t.phRef n).k = k ∧ (t.phRef n).tePrev = some te ∧ (t.phRef n).ords = (e.phRef n).ords + 1 ∧
      (t.phRef n).lines = x.levels % 16 ∧ t.ev = e.ev)) ∧
  (∀ (dt n te : Nat) (x : EdgeIn) (s e : State), s.elapse dt = e → n < 4 → e.tracks n = true → e.refKind n = 0 →
    e.refPar n 9 + 2 ≤ x.held → te = e.tick - x.held →
    bit (e.phRef n).lines 0 = bit x.levels 0 → bit (e.phRef n).lines 1 = bit x.levels 1 →
    bit (e.phRef n).lines 2 = bit (e.refPar n 0) 20 → bit x.levels 2 = !bit (e.refPar n 0) 20 →
    ((e.phRef n).state = 3 → (e.phRef n).k % e.refRes n ≤ 1 ∨ e.refRes n - (e.phRef n).k % e.refRes n ≤ 1 →
      ∃ t, exec (.phaseEdge dt n x) s = .next t ∧ t.phRef n = { e.phRef n with
        lines := x.levels % 16, k := 0, ords := 0,
        nextD := if (e.phRef n).k = 0 then (e.phRef n).nextD
          else nearTurn ((e.edgePhase n (e.nextPos n 0 (e.phRef n).reverse) : Int) - (e.phRef n).baseP) }) ∧
    ((e.phRef n).state = 3 → 2 ≤ (e.phRef n).k % e.refRes n → 2 ≤ e.refRes n - (e.phRef n).k % e.refRes n →
      ∃ t, exec (.phaseEdge dt n x) s = .next t ∧ (t.phRef n).state = 1 ∧ (t.phRef n).cause = 5 ∧
        Occurs e t 50 [(1, n), (1, 5), (4, e.phaseAt n e.tick), (4, speedOf (e.phRef n).v)]) ∧
    ((e.phRef n).state = 1 → e.refPar n 6 ≤ 1 → (e.phRef n).prevInt.getD 0 ≠ 0 →
      e.speedOk n (e.nextStep n 0 (e.phRef n).reverse) ((e.phRef n).prevInt.getD 0) = true →
      ∃ t, exec (.phaseEdge dt n x) s = .next t ∧ (t.phRef n).state = 3 ∧ (t.phRef n).k = 0 ∧
        (t.phRef n).baseT = te ∧ (t.phRef n).baseP = e.edgePhase n 0 ∧
        (t.phRef n).locks = (e.phRef n).locks + 1 ∧ (t.phRef n).revs = 0 ∧
        Occurs e t 48 [(1, n), (1, 0), (4, speedOf (e.phRef n).v), (4, (t.phRef n).phi)])) ∧
  (∀ (dt n : Nat) (x : EdgeIn) (s e : State), s.elapse dt = e → n < 4 → e.tracks n = true → e.refKind n = 0 →
    (e.phRef n).state = 3 → e.refPar n 9 + 2 ≤ x.held →
    (bit (e.phRef n).lines 0 != bit x.levels 0) = true → (bit (e.phRef n).lines 1 != bit x.levels 1) = true →
    bit (e.phRef n).lines 2 = bit x.levels 2 →
    ∃ t, exec (.phaseEdge dt n x) s = .next t ∧ (t.phRef n).state = 1 ∧ (t.phRef n).cause = 7 ∧ (t.phRef n).v = 0 ∧
      (t.phRef n).phi = e.phaseAt n e.tick ∧ (t.phRef n).unlocks = (e.phRef n).unlocks + 1 ∧
      Occurs e t 50 [(1, n), (1, 7), (4, e.phaseAt n e.tick), (4, speedOf (e.phRef n).v)]) ∧
  (∀ (dt n d te : Nat) (x : EdgeIn) (s e : State), s.elapse dt = e → n < 4 → e.tracks n = true → e.refKind n = 1 →
    e.refPar n 9 + 2 ≤ x.held → te = e.tick - x.held →
    bit (e.phRef n).lines 0 = bit (e.refPar n 0) 19 → bit x.levels 0 = !bit (e.refPar n 0) 19 →
    d = te - (e.phRef n).tePrev.getD te → (e.phRef n).state = 1 → e.gapTest n d (e.phRef n).prevInt = false →
    ∃ t, exec (.phaseEdge dt n x) s = .next t ∧ (t.phRef n).state = 1 ∧ (t.phRef n).tePrev = some te ∧
      (t.phRef n).lastEdge = e.now - (e.tick - te) * 8 ∧ t.ev = e.ev) ∧
  (∀ (dt n te b : Nat) (x : EdgeIn) (s e : State), s.elapse dt = e → n < 4 → e.tracks n = true → e.refKind n = 2 →
    e.refPar n 0x0A = 0xFF → e.refPar n 9 + 2 ≤ x.held → te = e.tick - x.held →
    bit (e.phRef n).lines 3 = false → bit x.levels 3 = true → flt fmt32 x.low (fneg fmt32 (e.eff 0x0481)) = true →
    ((e.phRef n).state = 1 → ∃ t, exec (.phaseEdge dt n x) s = .next t ∧ (t.phRef n).state = 2 ∧
      (t.phRef n).conf = 0 ∧ (t.phRef n).tePrev = some te) ∧
    ((e.phRef n).state = 2 → (e.phRef n).tePrev = some b → te - b ≠ 0 → e.speedOk n fullTurn (te - b) = true →
      e.refPar n 6 ≤ (e.phRef n).conf + 1 →
      ∃ t, exec (.phaseEdge dt n x) s = .next t ∧ (t.phRef n).state = 3 ∧ (t.phRef n).baseT = te ∧
        (t.phRef n).baseP = e.refPar n 2 ∧ (t.phRef n).v = Int.fdiv (fullTurn * 4294967296) (te - b : Nat) ∧
        Occurs e t 48 [(1, n), (1, 2), (4, speedOf (t.phRef n).v), (4, (t.phRef n).phi)]))

/-- The phase unit's rows in time complete: a reference without edges unlocks with cause 1 and EV050 (R171), extrapolation brings a
LOCKED reference to the projected phase of this tick (R172, R173), and entries that are crossed and entries in deferral fire, at most
eight in a tick and those in deferral first (R178, R179, R182, R191). -/
def Obligations.PhaseTimeRowsComplete : Prop :=
  (∀ (dt n : Nat) (s e : State), s.elapse dt = e → n < 4 → (e.phRef n).state = 3 → e.refKind n ≠ 3 →
    fasterThan (e.nextStep n (e.phRef n).k (e.phRef n).reverse) (e.tick - (e.phRef n).baseT) (e.refPar n 3) = false →
    ∃ t, exec (.phaseUnlockTimeout dt n) s = .next t ∧ (t.phRef n).state = 1 ∧ (t.phRef n).cause = 1 ∧ (t.phRef n).v = 0 ∧
      (t.phRef n).phi = e.phaseAt n e.tick ∧ (t.phRef n).unlocks = (e.phRef n).unlocks + 1 ∧
      Occurs e t 50 [(1, n), (1, 1), (4, e.phaseAt n e.tick), (4, speedOf (e.phRef n).v)]) ∧
  (∀ (dt n : Nat) (s e : State), s.elapse dt = e → n < 4 → e.tracks n = true → (e.phRef n).state = 3 →
    ∃ t, exec (.phaseExtrapolation dt n) s = .next t ∧ (t.phRef n).state = 3 ∧
      (t.phRef n).dphi = (e.project n (e.phRef n) e.tick).1 ∧ (t.phRef n).clamped = (e.project n (e.phRef n) e.tick).2 ∧
      (t.phRef n).phi = ((((e.phRef n).baseP : Int) + (e.project n (e.phRef n) e.tick).1) % fullTurn).toNat) ∧
  (∀ (dt k n m : Nat) (y : Int) (s e : State), s.elapse dt = e → k < 1024 → (k, e.catEntry k) ∈ e.entries 0x0004 →
    (∀ v, (k, v) ∈ e.entries 0x0004 → v = e.catEntry k) →
    catOn (e.catEntry k) = true → catRef (e.catEntry k) = n → (e.phRef n).state = 3 → e.tracks n = true →
    e.catRuns = true → (e.phRef n).lockTick ≠ some e.tick → y = (e.project n (e.phRef n) e.tick).1 →
    m = ((e.phRef n).dir * (y - (e.phRef n).dphi)).toNat →
    passes (e.phRef n).reverse (e.phRef n).phi m (fld (e.catEntry k) 0 0 32) = true →
    tget e.ph.disarmed k false = false → catDir (e.catEntry k) = 2 → e.ph.deferred = [] → e.ph.firedTick ≠ e.tick →
    ∃ (t : State) (due : List Deferred), exec (.catalogueEntryFire dt k) s = .next t ∧ k ∈ due.map Deferred.entry ∧ (∀ d ∈ due, d.tick = e.tick) ∧
      t.ph.deferred = due.drop 8 ∧ t.ph.fireCount = e.ph.fireCount + BitVec.ofNat 64 (min 8 due.length) ∧
      tget t.ph.disarmed k false = true) ∧
  (∀ (dt : Nat) (s e : State), s.elapse dt = e → e.catRuns = true → e.ph.deferred ≠ [] → e.ph.firedTick ≠ e.tick →
    ∃ (t : State) (new : List Deferred), exec (.catalogueDeferredFire dt) s = .next t ∧ (∀ d ∈ new, d.tick = e.tick) ∧
      t.ph.deferred = (e.ph.deferred ++ new).drop 8 ∧
      t.ph.fireCount = e.ph.fireCount + BitVec.ofNat 64 (min 8 (e.ph.deferred.length + new.length)))

/-- Rows of the plant network complete: link changes are shown and told (R432, R437), a silent LAN is EV193 (R433), addresses are
checked, conflicts told and cleared (R434), an input frame is accepted or discarded (R441), and stations are asked, answered and lost
(R442–R444). -/
def Obligations.NetworkRowsComplete : Prop :=
  (∀ (dt p speed : Nat) (fibre : Bool) (s e : State), s.elapse dt = e → p < 2 → 1 ≤ speed → speed ≤ 2 → e.mode ≠ .m0 →
    e.ifcOn p = true → (e.port p).link = false →
    ∃ t, exec (.pnLinkUp dt p speed fibre) s = .next t ∧ (t.port p).link = true ∧ (t.port p).speed = speed ∧
      (t.port p).fibre = fibre ∧ (e.ifcAddr p ≠ 0 → t.out = [.arp p false (e.ifcAddr p)])) ∧
  (∀ (dt p : Nat) (s e : State), s.elapse dt = e → p < 2 → (e.port p).link = true →
    ∃ t, exec (.pnLinkDown dt p) s = .next t ∧ (t.port p).link = false ∧ (t.port p).speed = 0 ∧
      (t.port p).downs = (e.port p).downs + 1 ∧ Occurs e t 192 [(1, p), (4, ((e.port p).downs + 1).toNat)]) ∧
  (∀ (dt : Nat) (up : Bool) (s e : State), s.elapse dt = e → e.mode ≠ .m0 → e.ifcOn 2 = true → (e.port 2).link ≠ up →
    ∃ t, exec (.servicePortLink dt up) s = .next t ∧ (t.port 2).link = up ∧ Occurs e t 203 [(1, b2n up)]) ∧
  (∀ (dt lan : Nat) (s e : State), s.elapse dt = e → lan < 2 → e.prp = true → (e.port lan).lanUp = true →
    ∃ t, exec (.prpLanDown dt lan) s = .next t ∧ (t.port lan).lanUp = false ∧ Occurs e t 193 [(1, lan)]) ∧
  (∀ (dt ifc : Nat) (s e : State), s.elapse dt = e → ifc < 3 → e.ifcOn ifc = true → (e.port ifc).link = true →
    e.ifcAddr ifc ≠ 0 → (∀ k, (e.port ifc).checked = some k → e.since k (60 * Config.ticksPerSecond) = true) →
    ∃ t, exec (.arpAnnounce dt ifc) s = .next t ∧ (t.port ifc).checked = some e.tick ∧
      t.out = [.arp ifc (!(e.port ifc).conflict) (e.ifcAddr ifc)]) ∧
  (∀ (dt ifc : Nat) (mac : U64) (s e : State), s.elapse dt = e → ifc < 3 → e.ifcOn ifc = true → (e.port ifc).link = true →
    ∃ t, exec (.duplicateAddress dt ifc mac) s = .next t ∧ (t.port ifc).conflict = true ∧
      (t.port ifc).conflictAt = e.tick ∧ ((e.port ifc).conflict = false →
        Occurs e t 202 [(1, ifc), (4, e.ifcAddr ifc), (6, mac.toNat)])) ∧
  (∀ (dt ifc : Nat) (s e : State), s.elapse dt = e → ifc < 3 → (e.port ifc).conflict = true →
    e.since (e.port ifc).conflictAt (10 * Config.ticksPerSecond) = true →
    ∃ t, exec (.addressConflictClear dt ifc) s = .next t ∧ t.port ifc = { e.port ifc with conflict := false }) ∧
  (∀ (dt lan k x : Nat) (src : U32) (b : List Byte) (s e : State), s.elapse dt = e → lan < 2 → e.mode ≠ .m0 →
    e.ifcOn lan = true → (e.port lan).link = true → e.stEnabled.find? (fun (_, y) => fld y 0 0 16 == beAt b 2 2) = some (k, x) →
    (beAt b 0 1 = 0x11 → fld x 4 0 32 = src.toNat → (e.station k).state = 2 → beAt b 1 1 = (e.station k).revision →
      beAt b 4 2 = stInLength x → b.length = 24 + stInLength x → (e.station k).last = none →
      ∃ t, exec (.inputFrame dt src lan false b) s = .next t ∧ t.net.accepted = e.net.accepted + 1 ∧
        t.net.discarded = e.net.discarded ∧ (t.station k).last = some (beAt b 8 4) ∧ (t.station k).lastTick = e.tick ∧
        (t.station k).healthy = bit (beAt b 12 4) 31 ∧
        ∀ i < fld x 0x0A 0 16, e.forceSlot 1 (fld x 8 0 16 + i) = none →
          t.ap (fld x 8 0 16 + i) = beAt b (24 + 4 * i) 4) ∧
    (beAt b 1 1 ≠ (e.station k).revision →
      ∃ t, exec (.inputFrame dt src lan false b) s = .next t ∧ t.net.discarded = e.net.discarded + 1 ∧
        t.net.accepted = e.net.accepted ∧ t.net.station = e.net.station ∧ t.pts = e.pts)) ∧
  (∀ (dt lan : Nat) (src : U32) (b : List Byte) (s e : State), s.elapse dt = e → lan < 2 → e.mode ≠ .m0 →
    e.ifcOn lan = true → (e.port lan).link = true → e.prp = true →
    ∃ t, exec (.inputFrame dt src lan true b) s = .next t ∧ (t.port (1 - lan)).discards = (e.port (1 - lan)).discards + 1 ∧
      t.net.accepted = e.net.accepted ∧ t.net.discarded = e.net.discarded) ∧
  (∀ (dt k x ask : Nat) (src : U32) (b : List Byte) (s e : State), s.elapse dt = e →
    e.stEnabled.find? (fun (_, y) => fld y 0 0 16 == beAt b 2 2 && fld y 4 0 32 == src.toNat) = some (k, x) →
    b.length = 28 → beAt b 0 1 = 0x22 → (e.station k).asked = some ask → e.tick ≤ ask + 100 * Config.ticksPerMs →
    (e.station k).answered = false → e.canLead = true → e.mode ≠ .m0 → e.stPaired = false →
    (bit (beAt b 8 2) 2 = true → slice b 12 8 = stCounts x →
      max (fld x 0x18 0 16) (beAt b 10 2) * 3 ≤ fld x 0x1A 0 16 * 4 →
      ∃ t, exec (.stationAnswer dt src b) s = .next t ∧ (t.station k).state = 2 ∧ (t.station k).revision = 2 ∧
        (t.station k).period = max (fld x 0x18 0 16) (beAt b 10 2) ∧ (t.station k).answered = true ∧
        Occurs e t 199 [(1, k), (1, 2), (2, max (fld x 0x18 0 16) (beAt b 10 2))]) ∧
    (bit (beAt b 8 2) 2 = false → bit (beAt b 8 2) 1 = false →
      ∃ t, exec (.stationAnswer dt src b) s = .next t ∧ (t.station k).state = 4 ∧ Occurs e t 200 [(1, k), (1, 1)])) ∧
  (∀ (dt k : Nat) (s e : State), s.elapse dt = e → k < 250 → e.scans = true → e.canLead = true →
    stOn (e.stEntry k) = true → (e.station k).state = 1 ∨ (e.station k).state = 3 ∨ (e.station k).state = 4 →
    (∀ a, (e.station k).asked = some a → e.since a (e.eff 0x0CC1 * Config.ticksPerMs) = true) →
    ∃ t, exec (.accessionRetry dt k) s = .next t ∧ (t.station k).asked = some e.tick ∧
      (e.stPaired = false ∨ (e.station k).state = 1 → (t.station k).state = 1) ∧
      (e.stPaired = true → (e.station k).state ≠ 1 →
        t.net.announced = e.net.announced ++ [(frameAfter e.now, k, 1, 0, 0)]) ∧
      (t.station k).answered = false ∧ (e.ifcSends 0 = true →
        .plant 47220 (fld (e.stEntry k) 4 0 32) 47220 (accFrame 0x21 (fld (e.stEntry k) 0 0 16)
          (beBytes 2 6 ++ beBytes 2 (fld (e.stEntry k) 0x18 0 16) ++ stCounts (e.stEntry k))) ∈ t.out)) ∧
  (∀ (dt k : Nat) (s e : State), s.elapse dt = e → k < 250 → e.canLead = true → (e.station k).state = 2 →
    (∀ a ∈ e.net.announced, ¬ (a.2.1 = k ∧ a.2.2.1 = 3)) →
    e.since (e.station k).lastTick (fld (e.stEntry k) 0x1A 0 16 * Config.ticksPerMs) = true →
    (e.stPaired = false → ∃ t, exec (.stationTimeout dt k) s = .next t ∧ (t.station k).state = 1 ∧
      (t.station k).asked = some e.tick ∧
      Occurs e t 198 [(1, k), (2, fld (e.stEntry k) 0 0 16), (4, (e.station k).last.getD 0)]) ∧
    (e.stPaired = true → ∃ t, exec (.stationTimeout dt k) s = .next t ∧ (t.station k).state = 2 ∧
      t.net.announced = e.net.announced ++ [(frameAfter e.now, k, 3, 0, 0)]))

/-- Rows of the time base complete: a Sync gives the offset and moves lock, holdover and corrections (R449, R450), an Announce chooses
the grandmaster with EV194 and silence loses it (R448, R449), a delay response and the end of a slew are taken over (R448, R451), a
correction is carried out at its boundary with EV197 (R451), and TIME_ACCEPT_STEP decides the pending step and answers C and F, or
ACCEPTED on the PRIMARY of a pair (R83, R453). The servo's law
between its bounds is not stated by the spec (R446, log 8). -/
def Obligations.TimeRowsComplete : Prop :=
  (∀ (dt p : Nat) (offset : Int) (s e : State), s.elapse dt = e → p < 2 → e.ptpOn p = true → e.clk.servoPort = p →
    (e.timeFollows = true → ∃ t, exec (.ptpSync dt p offset) s = .next t ∧
      t.clk = { e.clk with offset := offset, lastPtp := tset e.clk.lastPtp p 0 e.tick }) ∧
    (e.timeFollows = false → e.clk.state = 2 → e.clk.runLock = 15 → offset.natAbs < 1000 →
      ∃ t, exec (.ptpSync dt p offset) s = .next t ∧ t.clk.offset = offset ∧ t.clk.state = 3 ∧ t.clk.runLock = 16 ∧
        t.clk.fresh = false ∧ -34359738 ≤ t.clk.adj ∧ t.clk.adj ≤ 34359738) ∧
    (e.timeFollows = false → e.clk.state = 3 → e.clk.runLoss = 3 → 10000 < offset.natAbs → offset.natAbs ≤ 20000 →
      ∃ t, exec (.ptpSync dt p offset) s = .next t ∧ t.clk.state = 1 ∧ t.clk.pendingStep = 0 ∧
        Occurs e t 195 [(8, ofSigned 64 offset), (1, 1)]) ∧
    (e.timeFollows = false → e.clk.state = 2 → e.clk.runAsk = 3 → 20000 < offset.natAbs → e.clk.corr = none →
      e.clk.fresh = false → offset.natAbs ≤ e.eff 0x0CA0 * 1000 →
      ∃ t, exec (.ptpSync dt p offset) s = .next t ∧
        t.clk.corr = some ⟨-offset, frameAtOrAfter (e.now + 1000000), 1, none⟩) ∧
    (e.timeFollows = false → e.clk.state = 2 → e.clk.runAsk = 3 → 20000 < offset.natAbs → e.clk.corr = none →
      e.clk.fresh = false → e.eff 0x0CA0 * 1000 < offset.natAbs →
      ∃ t, exec (.ptpSync dt p offset) s = .next t ∧ t.clk.corr = none ∧ t.clk.state = 4 ∧ t.clk.pendingStep = -offset ∧
        Occurs e t 196 [(8, ofSigned 64 (-offset)), (4, e.eff 0x0CA0)])) ∧
  (∀ (dt p : Nat) (a : AnnIn) (s e : State), s.elapse dt = e → p < 2 → e.ptpOn p = true → a.state ≠ 6 →
    tlook e.clk.masters (1 - p) = none →
    ∃ t, exec (.ptpAnnounce dt p a) s = .next t ∧ t.clk.servoPort = p ∧ t.clk.gmId = a.gm ∧ t.clk.utcOffset = a.utc ∧
      t.clk.stepsRemoved = BitVec.ofNat 16 a.steps ∧ t.clk.lastPtp = tset e.clk.lastPtp p 0 e.tick ∧
      (e.clk.gmId ≠ a.gm → Occurs e t 194 [(8, e.clk.gmId.toNat), (8, a.gm.toNat), (1, p)])) ∧
  (∀ (dt p : Nat) (m : Nat × Nat × Nat) (s e : State), s.elapse dt = e → p < 2 →
    tlook e.clk.masters p = some m → tlook e.clk.masters (1 - p) = none → e.since (tget e.clk.lastPtp p 0) e.annTimeout = true →
    ∃ t, exec (.ptpTimeout dt p) s = .next t ∧ t.clk.servoPort = 0xFF ∧
      (e.clk.state = 3 → t.clk.state = 1 ∧ Occurs e t 195 [(8, ofSigned 64 e.clk.offset), (1, 2)])) ∧
  (∀ (dt p : Nat) (delay : U32) (s e : State), s.elapse dt = e → p < 2 → e.ptpOn p = true → e.clk.servoPort = p →
    ∃ t, exec (.ptpDelayResponse dt p delay) s = .next t ∧ t.clk = { e.clk with pathDelay := delay }) ∧
  (∀ (dt : Nat) (s e : State), s.elapse dt = e → e.clk.slewing = true → e.clk.slewRem = 0 →
    ∃ t, exec (.slewEnd dt) s = .next t ∧ t.clk = { e.clk with slewing := false }) ∧
  (∀ (dt : Nat) (c : Correction) (w : Int) (s e : State), s.elapse dt = e → e.clk.corr = some c → e.atFrame = true →
    c.f ≤ e.now → w = wholePart c.c →
    ∃ t, exec (.timeCorrectionApply dt) s = .next t ∧ t.clk.tb = ((e.clk.tb : Int) + w).toNat ∧ t.clk.corr = none ∧
      t.clk.slewRem = (c.c - w) * 2 ^ 32 ∧ t.clk.slewing = decide (c.c ≠ w) ∧ t.clk.stepCount = e.clk.stepCount + 1 ∧
      t.clk.lastStep = e.gridInstant Config.frameNs ∧
      (tget t.ev.src 197 {}).count = satInc 32 (tget e.ev.src 197 {}).count ∧
      (tget t.ev.src 197 {}).detail =
        [(8, ofSigned 64 c.c), (8, ofSigned 64 w), (8, e.gridInstant Config.frameNs), (1, c.cause)]) ∧
  (∀ (dt : Nat) (p : Packet) (x : Session) (s e : State), s.elapse dt = e → Accepted timeAcceptCmd e p x →
    ∃ t, exec (.timeAcceptStep dt p) s = .next t ∧
      t.clk.corr = some ⟨e.clk.pendingStep, frameAtOrAfter (e.now + 1000000), 3, none⟩ ∧
      Responds t p x e.mode e.role .ok 0
        (beBytes 8 (ofSigned 64 e.clk.pendingStep) ++ beBytes 8 (frameAtOrAfter (e.now + 1000000)))) ∧
  (∀ (dt : Nat) (p : Packet) (x : Session) (row : CmdRow) (s e : State), s.elapse dt = e → InSession e p x →
    (reqOf p).code = 0x0080 → e.boxFree (reqOf p).box = true → (reqOf p).ver = 1 → (p.via = .plant → (reqOf p).box ≠ 15) →
    x.unsetKey = false → cmdRow 0x0080 = some row → (∀ l, row.level = some l → l ≤ x.level) →
    (e.mode = .m4 ∨ e.mode = .m5) → e.role = .primary →
    timeAcceptCmd.check (reqOf p) ((e.noted p x).latch (reqOf p)) x.level row.modes = none →
    ∃ t, exec (.timeAcceptStep dt p) s = .next t ∧
      t.clk.corr = some ⟨e.clk.pendingStep, frameAtOrAfter (e.now + 1000000), 3, some e.mbx.nextOp⟩ ∧
      Responds t p x e.mode e.role .accepted 0 [])

/-- Rows of the CAN channels complete: a received frame is counted, filtered and queued, or lost with EV210 (R467, R468), a frame that
was sent frees its buffer (R463), errors move the counters with EV208 and lead to bus-off with EV209 and EV211 (R462), recovery and
timeouts end with EV212 and EV211 (R462, R463), and CAN_SEND, CAN_CANCEL and CAN_RECOVER load, clear and start (R466). -/
def Obligations.CanRowsComplete : Prop :=
  (∀ (dt c id : Nat) (data : List Byte) (s e : State), s.elapse dt = e → c < 4 → e.canOn c = true →
    (e.canFilter c id = none → ∃ t, exec (.canFrameReceived dt c id data) s = .next t ∧
      (t.canCh c).rx = (e.canCh c).rx + 1 ∧ (t.canCh c).unmatched = (e.canCh c).unmatched + 1 ∧
      (t.canCh c).queue = (e.canCh c).queue) ∧
    (∀ k, e.canFilter c id = some k → bit (fld (e.entry 0x000D (128 * c + k)) 8 0 8) 6 = true →
      ((e.canCh c).queue.length < 64 → ∃ t, exec (.canFrameReceived dt c id data) s = .next t ∧
        (t.canCh c).rx = (e.canCh c).rx + 1 ∧
        (t.canCh c).queue = (e.canCh c).queue ++ [(128 * c + k, data.take 64, e.now)] ∧
        tget t.can.hits (128 * c + k) 0 = satInc 32 (tget e.can.hits (128 * c + k) 0)) ∧
      (64 ≤ (e.canCh c).queue.length → ∃ t, exec (.canFrameReceived dt c id data) s = .next t ∧
        (t.canCh c).overflow = (e.canCh c).overflow + 1 ∧ (t.canCh c).queue = (e.canCh c).queue ∧
        Occurs e t 210 [(1, c), (1, k), (4, 1)]))) ∧
  (∀ (dt c b sof : Nat) (k : CanBuf) (s e : State), s.elapse dt = e → c < 4 → b < 64 → (e.canCh c).busOff = none →
    tget (e.canCh c).buf b none = some k →
    ∃ t, exec (.canFrameSent dt c b sof) s = .next t ∧ .can c k.id k.flags k.data ∈ t.out ∧ (t.canCh c).tx = (e.canCh c).tx + 1 ∧
      (t.canCh c).tec = (e.canCh c).tec - 1 ∧ (∀ j, j ≠ b → tget (t.canCh c).buf j none = tget (e.canCh c).buf j none) ∧
      (k.next = none → tget (t.canCh c).buf b none = none) ∧
      (∀ i f d, k.next = some (i, f, d) → tget (t.canCh c).buf b none = some ⟨i, f, d, e.tick, none, none⟩)) ∧
  (∀ (dt c tec rec_ code : Nat) (s e : State), s.elapse dt = e → c < 4 → e.canActive c = true →
    (tec ≤ 255 → ∃ t, exec (.canBusError dt c tec rec_ code) s = .next t ∧ (t.canCh c).tec = tec ∧
      (t.canCh c).rec_ = min 255 rec_ ∧ (t.canCh c).lastErr = code % 8 ∧ (t.canCh c).busOff = none ∧
      ((e.canCh c).tec < 128 → (e.canCh c).rec_ < 128 → 128 ≤ tec ∨ 128 ≤ rec_ →
        Occurs e t 208 [(1, c), (1, tec), (1, min 255 rec_), (1, code % 8)])) ∧
    (255 < tec → ∃ t, exec (.canBusError dt c tec rec_ code) s = .next t ∧ (t.canCh c).busOff = some e.tick ∧
      (t.canCh c).offs = (e.canCh c).offs + 1 ∧ (∀ b, tget (t.canCh c).buf b none = none) ∧
      Occurs e t 209 [(1, c), (1, code % 8)] ∧ Occurs e t 211 [(1, c), (1, 0xFF), (1, 2), (1, (e.canPending c).length)])) ∧
  (∀ (dt c k : Nat) (s e : State), s.elapse dt = e → c < 4 → (e.canCh c).busOff = some k → (e.canCh c).recovering = true →
    ∃ t, exec (.canRecoveryDone dt c) s = .next t ∧
      t.canCh c = { e.canCh c with busOff := none, recovering := false, tec := 0, rec_ := 0 } ∧
      Occurs e t 212 [(1, c), (4, (e.tick - k) / Config.ticksPerMs)]) ∧
  (∀ (dt c b : Nat) (k : CanBuf) (s e : State), s.elapse dt = e → c < 4 → b < 64 → tget (e.canCh c).buf b none = some k →
    k.next = none → e.since k.since ((e.canCh c).timeout * Config.ticksPerMs) = true →
    ∃ t, exec (.canTxTimeout dt c b) s = .next t ∧ tget (t.canCh c).buf b none = none ∧
      (t.canCh c).fails = (e.canCh c).fails + 1 ∧ Occurs e t 211 [(1, c), (1, b), (1, 1), (1, 1)]) ∧
  (∀ (dt c b : Nat) (p : Packet) (x : Session) (s e : State), s.elapse dt = e → Accepted canSendCmd e p x →
    c = beAt (reqOf p).body 0 1 → e.canFreeBuf c = some b →
    ∃ t k, exec (.canSend dt p) s = .next t ∧ tget (t.canCh c).buf b none = some k ∧ k.id = beAt (reqOf p).body 4 4 ∧
      k.flags = beAt (reqOf p).body 1 1 ∧ k.data = slice (reqOf p).body 8 (beAt (reqOf p).body 2 1) ∧ k.since = e.tick ∧
      k.op.map Prod.fst = some e.mbx.nextOp ∧ Responds t p x e.mode e.role .accepted b []) ∧
  (∀ (dt : Nat) (p : Packet) (begun : Bool) (x : Session) (s e : State), s.elapse dt = e →
    Accepted (canCancelCmd begun) e p x →
    ((∀ c < 4, ∀ b k i, (b, some k) ∈ (e.canCh c).buf → k.op ≠ some (i, (reqOf p).session, beAt (reqOf p).body 0 2)) →
      ∃ t, exec (.canCancel dt p begun) s = .next t ∧ t.can = e.can ∧ Answers t p x e.mode e.role .ok 2 []) ∧
    (∀ c b k i, c < 4 → (b, some k) ∈ (e.canCh c).buf → tget (e.canCh c).buf b none = some k →
      k.op = some (i, (reqOf p).session, beAt (reqOf p).body 0 2) → k.next = none →
      (∀ c' < 4, ∀ b' k' i', (b', some k') ∈ (e.canCh c').buf →
        k'.op = some (i', (reqOf p).session, beAt (reqOf p).body 0 2) → c' = c ∧ b' = b) →
      (begun = true → ∃ t, exec (.canCancel dt p begun) s = .next t ∧ t.can = e.can ∧
        Answers t p x e.mode e.role .ok 1 []) ∧
      (begun = false → ∃ t, exec (.canCancel dt p begun) s = .next t ∧ tget (t.canCh c).buf b none = none ∧
        Responds t p x e.mode e.role .ok 0 []))) ∧
  (∀ (dt c : Nat) (p : Packet) (x : Session) (s e : State), s.elapse dt = e → Accepted canRecoverCmd e p x →
    c = beAt (reqOf p).body 0 1 →
    ∃ t, exec (.canRecover dt p) s = .next t ∧ t.canCh c = { e.canCh c with recovering := true } ∧
      Answers t p x e.mode e.role .ok 0 [])

/-- Rows of the annunciator panel complete: a panel frame is served and what may start starts (R471, R478, R479), an update ends with
the picture, its counts and its time (R479), a blink half is a panel frame (R477), the temperature moves the band past its hysteresis
with EV227 (R474), a rail that fails abandons every update with EV224 and one that is good is shown (R480), and PANEL_UPDATE makes
requests (R482). -/
def Obligations.PanelRowsComplete : Prop :=
  (∀ (dt f : Nat) (s e : State), s.elapse dt = e → e.has .pnl = true → e.mode ≠ .m0 → e.mode ≠ .m1 → e.mode ≠ .m11 →
    e.onGrid 20000000 = true → f = e.now / 20000000 → e.pnl.frame ≠ some f →
    (∃ t, exec (.panelFrame dt) s = .next t ∧ t.pnl.frame = some f ∧ t.pnl.owner = e.panelOwner) ∧
    (e.eff 0x0EC8 = 1 → e.onGrid (e.eff 0x0EC9 * 1000000) = true →
      ∃ t, exec (.blinkHalf dt) s = .next t ∧ t.pnl.frame = some f ∧ t.pnl.owner = e.panelOwner)) ∧
  (∀ (dt r f : Nat) (s e : State), s.elapse dt = e → r < 8 → e.has .pnl = true → e.mode ≠ .m0 → e.mode ≠ .m1 → e.mode ≠ .m11 →
    e.onGrid 20000000 = true → f = e.now / 20000000 → e.pnl.frame ≠ some f → bit (e.eff (0x0E80 + 8 * r)) 31 = false →
    (∀ q, (e.region r).run = none → (e.region r).queued = some q → e.panelDrives = true → e.pnl.good = [true, true] →
      ∃ t, exec (.panelFrame dt) s = .next t ∧ (t.region r).queued = none ∧
        ((∃ u, (t.region r).run = some u ∧ u.start = f ∧ u.refresh = q.refresh ∧ u.host = q.host) ∨
          ((t.region r).updates = (e.region r).updates + 1 ∧ (t.region r).lastDone = f * 20000000))) ∧
    (∀ u, (e.region r).run = some u → u.start + u.frames ≤ f → (e.region r).queued = none →
      ∃ t, exec (.panelUpdateEnd dt r) s = .next t ∧ (t.region r).run = none ∧
        (t.region r).updates = (e.region r).updates + 1 ∧ (t.region r).lastDone = f * 20000000)) ∧
  (∀ (dt v lo hi : Nat) (s e : State), s.elapse dt = e → e.has .pnl = true → e.mode ≠ .m0 → e.onGrid 1000000000 = true →
    e.pnl.tempAt ≠ some (e.now / 1000000000) → e.panelT = some v →
    lo = fadd fmt64 (e.effF 0x0EC2) (fmul fmt64 (ofInt fmt64 e.panelBand) (e.effF 0x0EC3)) →
    hi = fadd fmt64 lo (e.effF 0x0EC3) →
    (flt fmt64 (f32to64 v) (fsub fmt64 lo (e.effF 0x0EC4)) = false →
      flt fmt64 (fadd fmt64 hi (e.effF 0x0EC4)) (f32to64 v) = false →
      ∃ t, exec (.panelTemperatureRead dt) s = .next t ∧ t.pnl.temp = v ∧ t.pnl.band = some e.panelBand ∧ t.ev = e.ev) ∧
    (flt fmt64 (f32to64 v) (fsub fmt64 lo (e.effF 0x0EC4)) = true ∨
      flt fmt64 (fadd fmt64 hi (e.effF 0x0EC4)) (f32to64 v) = true →
      ∃ t, exec (.panelTemperatureRead dt) s = .next t ∧ t.pnl.temp = v ∧ t.pnl.band = some (e.rawBand v) ∧
        (e.rawBand v ≠ e.panelBand → Occurs e t 227 [(1, e.panelBand), (1, e.rawBand v), (4, v)]))) ∧
  (∀ (dt k v : Nat) (s e : State), s.elapse dt = e → k < 2 → e.has .pnl = true → v < 108 ∨ 132 < v →
    e.pnl.good.getD k false = true →
    ∃ t, exec (.panelRailFault dt k v) s = .next t ∧ t.pnl.good = e.pnl.good.set k false ∧
      (∀ r < 8, (t.region r).run = none) ∧
      Occurs e t 224 [(1, k), (1, min 255 v), (1, ((List.range 8).filter (fun r => (e.region r).run.isSome)).length)]) ∧
  (∀ (dt k v : Nat) (s e : State), s.elapse dt = e → k < 2 → e.has .pnl = true → 108 ≤ v → v ≤ 132 →
    ∃ t, exec (.panelRailGood dt k v) s = .next t ∧
      t.pnl = { e.pnl with good := e.pnl.good.set k true, volts := e.pnl.volts.set k v }) ∧
  (∀ (dt r : Nat) (p : Packet) (x : Session) (s e : State), s.elapse dt = e → Accepted panelUpdateCmd e p x → r < 8 →
    bit (beAt (reqOf p).body 0 1) r = true → (e.region r).queued = none →
    (beAt (reqOf p).body 1 1 = 1 → ∃ t, exec (.panelUpdate dt p) s = .next t ∧
      (t.region r).queued = some ⟨e.wanted e.now r, false, [e.mbx.nextOp]⟩ ∧ Responds t p x e.mode e.role .accepted 0 []) ∧
    (beAt (reqOf p).body 1 1 = 2 → ∃ t, exec (.panelRefresh dt p) s = .next t ∧
      (t.region r).queued = some ⟨e.wanted e.now r, true, [e.mbx.nextOp]⟩ ∧ Responds t p x e.mode e.role .accepted 0 []))

/-- Rows of the firmware update complete: UPDATE_BEGIN opens a slot or refuses a header by its cause (R505, R506), blocks append
(R507), a verify starts and ends VALID with EV235 or INVALID (R509), an update is abandoned by command or after 600 s with EV234 (R508),
ACTIVATE leaves the change to M9 pending (R510), M9 ends with the new firmware and EV236, the old one and EV237, or at the deadline with
RecoveryCause 5 (R511–R513), and ROLLBACK makes the other slot active and restarts (R514). The offset in EV234 at an abandonment is not
stated by the spec (log 8). -/
def Obligations.FirmwareRowsComplete : Prop :=
  (∀ (dt k : Nat) (p : Packet) (x : Session) (s e : State), s.elapse dt = e → Accepted updateBeginCmd e p x →
    k = beAt (reqOf p).body 0 1 →
    (beAt (reqOf p).body 1 1 = 1 → e.fwHeaderCause ((reqOf p).body.drop 4) = none →
      ∃ t, exec (.updateBegin dt p) s = .next t ∧ t.fwSlot k =
          ⟨1, (reqOf p).body.drop 4, [], none, some (reqOf p).session, e.tick, none⟩ ∧
        t.fwSlot (1 - k) = e.fwSlot (1 - k) ∧ Answers t p x e.mode e.role .ok 0 []) ∧
    (∀ c, beAt (reqOf p).body 1 1 = 1 → e.fwHeaderCause ((reqOf p).body.drop 4) = some c →
      ∃ t, exec (.updateBegin dt p) s = .next t ∧ t.fw = { e.fw with refuse := c }) ∧
    (beAt (reqOf p).body 1 1 = 0 → ∃ t v, exec (.updateAbandon dt p) s = .next t ∧ (t.fwSlot k).state = 5 ∧
      (t.fwSlot k).owner = none ∧ Occurs e t 234 [(1, k), (1, 2), (4, v), (4, 256 + (e.fwSlot k).body.length)] ∧
      Responds t p x e.mode e.role .ok 0 [])) ∧
  (∀ (dt k : Nat) (p : Packet) (x : Session) (s e : State), s.elapse dt = e → Accepted updateBlockCmd e p x →
    e.updateOf (reqOf p).session = some k → (reqOf p).arg = 256 + (e.fwSlot k).body.length →
    (reqOf p).arg + (reqOf p).body.length ≤ fwLength (e.fwSlot k).header →
    ∃ t, exec (.updateBlock dt p) s = .next t ∧ (t.fwSlot k).body = (e.fwSlot k).body ++ (reqOf p).body ∧
      (t.fwSlot k).lastTick = e.tick ∧
      (t.fwSlot k).state = (if (reqOf p).arg + (reqOf p).body.length = fwLength (e.fwSlot k).header then 2
        else (e.fwSlot k).state) ∧ Answers t p x e.mode e.role .ok 0 []) ∧
  (∀ (dt k : Nat) (p : Packet) (x : Session) (s e : State), s.elapse dt = e → Accepted updateVerifyCmd e p x →
    k = beAt (reqOf p).body 0 1 →
    ∃ t, exec (.updateVerify dt p) s = .next t ∧
      t.fwSlot k = { e.fwSlot k with state := 3, verify := some (some e.mbx.nextOp, e.tick), lastTick := e.tick } ∧
      Responds t p x e.mode e.role .accepted 0 []) ∧
  (∀ (dt k b : Nat) (op : Option Nat) (s e : State), s.elapse dt = e → k < 2 → (e.fwSlot k).verify = some (op, b) →
    (sha256 (e.fwSlot k).body = slice (e.fwSlot k).header 0x20 32 →
      ∃ t, exec (.updateVerifyDone dt k) s = .next t ∧ (t.fwSlot k).state = 4 ∧ (t.fwSlot k).owner = none ∧
        Occurs e t 235 [(1, k), (2, leAt (e.fwSlot k).header 0x10 2), (2, leAt (e.fwSlot k).header 0x12 2)]) ∧
    (sha256 (e.fwSlot k).body ≠ slice (e.fwSlot k).header 0x20 32 →
      ∃ t, exec (.updateVerifyDone dt k) s = .next t ∧ (t.fwSlot k).state = 5 ∧ t.fw.refuse = 9)) ∧
  (∀ (dt k : Nat) (s e : State), s.elapse dt = e → k < 2 → (e.fwSlot k).owner ≠ none → (e.fwSlot k).verify = none →
    e.since (e.fwSlot k).lastTick (600 * Config.ticksPerSecond) = true →
    ∃ t v, exec (.updateIdleTimeout dt k) s = .next t ∧ (t.fwSlot k).state = 5 ∧ (t.fwSlot k).owner = none ∧
      Occurs e t 234 [(1, k), (1, 4), (4, v), (4, 256 + (e.fwSlot k).body.length)]) ∧
  (∀ (dt k : Nat) (p : Packet) (x : Session) (s e : State), s.elapse dt = e → Accepted activateCmd e p x →
    k = beAt (reqOf p).body 0 1 →
    e.tk.active = 0xFF ∨ (e.progSlot e.tk.active).minFeature ≤ leAt (e.fwSlot k).header 0x14 2 →
    ∃ t c, exec (.activate dt p) s = .next t ∧ t.fw.act = some ⟨k, some e.mbx.nextOp, none, false⟩ ∧
      t.mu.pending = some c ∧ c.target = .m9 ∧ c.op = some e.mbx.nextOp ∧
      c.at_ = frameAtOrAfter (e.now + e.eff 0x0109 * 1000) ∧ Responds t p x e.mode e.role .accepted 0 []) ∧
  (∀ (dt b : Nat) (a : Activation) (s e : State), s.elapse dt = e → e.mode = .m9 → e.fw.act = some a → a.since = some b →
    (a.failed = false → (∀ i, e.cfg.committed = some i → (e.runFirmware a.slot).fwSchema ≤ i.schema) →
      ∃ t, exec (.firmwareReady dt) s = .next t ∧ t.fw.act = none ∧ t.fw.active = a.slot ∧ t.fw.result = 1 ∧
        t.fw.activations = e.fw.activations + 1 ∧
        Occurs e t 236 [(1, a.slot), (2, leAt (e.fwSlot a.slot).header 0x10 2), (4, e.holdTime), (1, 0)]) ∧
    (a.failed = true → ∃ t, exec (.firmwareReady dt) s = .next t ∧ t.fw.act = none ∧ t.fw.active = e.fw.active ∧
      t.fw.result = 2 ∧ t.fw.rollbacks = e.fw.rollbacks + 1 ∧
      Occurs e t 237 [(1, e.fw.active), (1, 2), (2, leAt (e.fwSlot e.fw.active).header 0x10 2)]) ∧
    (∃ t, exec (.activationFailure dt) s = .next t ∧ t.fw = { e.fw with act := some { a with failed := true } }) ∧
    (e.since b (350 * Config.ticksPerMs) = true → ∃ t, exec (.activationDeadline dt) s = .next t ∧ t.fw.act = none ∧
      t.fw.result = 3 ∧ t.mu.recoveryCause = 5 ∧ (e.mu.auto = none → t.mu.auto = some ⟨.m10, .none, 7, frameAfter e.now⟩))) ∧
  (∀ (dt : Nat) (p : Packet) (x : Session) (s e : State), s.elapse dt = e → Accepted rollbackCmd e p x →
    ∃ t, exec (.rollback dt p) s = .next t ∧ t.fw.active = 1 - e.fw.active ∧ t.fw.rolled = true ∧
      (e.canDepart = false → t.mu.auto = some ⟨.m0, .none, 7, frameAfter e.now⟩) ∧ Responds t p x e.mode e.role .accepted 0 [])

/-- The mailbox service's rows in time complete: a forwarded request that is not answered in 10 ms is answered NOT_READY with Session 0
(R69), fragments older than 100 ms are dropped (R67), an idle session ends (R75), a lockout ends after 60 s (R76), and a hold of
notifications ends or begins anew (R114). -/
def Obligations.MailboxTimerRowsComplete : Prop :=
  (∀ (dt box : Nat) (f : Forward) (s e : State), s.elapse dt = e → box < 16 → (tget e.mbx.boxes box {}).fwd = some f →
    e.since f.since (10 * Config.ticksPerMs) = true → e.mbx.restarting = none →
    ∃ t, exec (.forwardTimeout dt box) s = .next t ∧
      t.out = [response { parseReq f.via f.addr f.port f.header with session := f.session, target := 0 } none 0 .notReady noPos
        e.mode e.role []]) ∧
  (∀ (dt : Nat) (s e : State), s.elapse dt = e →
    ∃ t, exec (.reassemblyTimeout dt) s = .next t ∧ ∀ a, a ∈ t.mbx.reasm ↔
      a ∈ e.mbx.reasm ∧ e.since a.since (100 * Config.ticksPerMs) = false) ∧
  (∀ (dt : Nat) (id : U32) (x : Session) (s e : State), s.elapse dt = e → e.session id = some x →
    e.since x.lastTick (e.eff 0x0144 * Config.ticksPerSecond) = true →
    ∃ t, exec (.sessionIdleExpiry dt id) s = .next t ∧ t.session id = none ∧
      ∀ k, k ≠ id → (t.session k = none ↔ e.session k = none)) ∧
  (∀ (dt : Nat) (via : Via) (addr : U32) (s e : State), s.elapse dt = e →
    ∃ t, exec (.authLockoutEnd dt via addr) s = .next t ∧ (∀ k, (via, addr, k) ∈ t.mbx.locks → e.tick < k) ∧
      ∀ v a k, ¬ (v = via ∧ a = addr) → ((v, a, k) ∈ t.mbx.locks ↔ (v, a, k) ∈ e.mbx.locks)) ∧
  (∀ (dt k : Nat) (id : U32) (h : Hold) (s e : State), s.elapse dt = e →
    e.ev.holds.find? (fun h => h.session == id && h.ev == k) = some h → h.ends ≤ e.tick →
    (h.again = false → ∃ t, exec (.notifyHoldEnd dt id k) s = .next t ∧
      t.ev.holds = e.ev.holds.filter (fun h => !(h.session == id && h.ev == k)) ∧ t.out = []) ∧
    (∀ x r, h.again = true → e.session id = some x → x.route = some r → bit r.events k = true →
      ∃ t, exec (.notifyHoldEnd dt id k) s = .next t ∧
        ⟨id, k, e.tick + 10 * Config.ticksPerMs, false⟩ ∈ t.ev.holds))

/-- An I/O bus frame boundary completes: with no change of mode and no new configuration waiting the module stays in its mode, takes
over the levels read back from its switches (R423) and hands the received CAN frames to the image (R467); an automatic transition that
waits is made (R40). -/
def Obligations.FrameBoundaryRowCompletes : Prop :=
  (∀ (dt rb : Nat) (s e : State), s.elapse dt = e → e.atFrame = true → e.mode ≠ .m0 → e.mu.auto = none →
    e.cfg.applyDiscard = false → e.cfg.applyCommitted = false → e.tk.switch = none →
    ∃ t, exec (.ioBusFrameBoundary dt rb) s = .next t ∧ t.mode = e.mode ∧ t.role = e.role ∧
      (∀ m < 34, (m < 32 → e.has .dio = true) → (t.sw m).readback = bit rb m) ∧
      (∀ c < 4, (t.canCh c).queue = [])) ∧
  (∀ (dt rb cause f : Nat) (m : Mode) (r : Role) (s e : State), s.elapse dt = e → e.atFrame = true → e.mode ≠ .m0 →
    e.mu.auto = some ⟨m, r, cause, f⟩ → f ≤ e.now → e.copying = false → m ≠ .m0 → e.cfg.applyDiscard = false → e.cfg.applyCommitted = false →
    ∃ t, exec (.ioBusFrameBoundary dt rb) s = .next t ∧ t.mode = m ∧ t.role = r)

/-- A datagram with a defect of R71 (too short, a wrong Length or ProtocolVersion, a header reserved field or RESPONSE or NOTIFY set) is
discarded silently: the row that takes it counts it in FrameErrorCount and does nothing else, and IDENTIFY's row takes one that is shorter
than a header. -/
def Obligations.BadMailboxFramesAreCounted : Prop :=
  (∀ (i : Instr) (dt : Nat) (p : Packet) (s e t : State), mailOf i = some (dt, p) → s.elapse dt = e →
    (p.off = 0 ∧ p.data.length = p.total) → e.mailboxSilent = false → (p.via = .service ∨ e.eff 0x0145 ≠ 0) →
    (p.via = .plant → e.mu.slot ≠ 0xFF) → e.lockedOut p.via p.addr = false →
    (p.data.length < 48 ∨ beAt p.data 0x0C 2 ≠ p.data.length - 48 ∨ beAt p.data 0 1 ≠ 1 ∨ beAt p.data 1 1 / 16 % 8 ≠ 0 ∨
      bit (beAt p.data 7 1) 1 = true ∨ bit (beAt p.data 7 1) 2 = true ∨ beAt p.data 7 1 / 8 ≠ 0 ∨ beAt p.data 0x0B 1 ≠ 0 ∨
      beAt p.data 0x0E 2 ≠ 0 ∨ beAt p.data 0x1C 4 ≠ 0) →
    exec i s = .next t → t = { e with mbx := { e.mbx with frameErr := e.mbx.frameErr + 1 } }) ∧
  (∀ (dt : Nat) (p : Packet) (s e : State), s.elapse dt = e → (p.off = 0 ∧ p.data.length = p.total) → e.mailboxSilent = false →
    (p.via = .service ∨ e.eff 0x0145 ≠ 0) → (p.via = .plant → e.mu.slot ≠ 0xFF) →
    e.lockedOut p.via p.addr = false → p.data.length < 48 →
    exec (.identify dt p) s = .next { e with mbx := { e.mbx with frameErr := e.mbx.frameErr + 1 } })

/-- A frame that fails authentication (R76) is discarded silently: AuthFailCount counts, EV014 occurs, no response is sent, no mailbox
and no other part of the module changes. The sixteenth of one source within 10 s makes the module ignore that source on that transport
for 60 s and counts in AuthLockoutCount; fewer do not. A datagram of an ignored source changes nothing. -/
def Obligations.UnauthenticatedFramesAreCounted : Prop :=
  (∀ (i : Instr) (dt : Nat) (p : Packet) (s e t : State), mailOf i = some (dt, p) → s.elapse dt = e → Heard e p →
    (reqOf p).code ≠ 0x0001 → (reqOf p).code ≠ 0x0010 →
    (e.session (reqOf p).session = none ∨ ∃ x, e.session (reqOf p).session = some x ∧
      (x.via ≠ p.via ∨ x.addr ≠ p.addr ∨ (hmac x.key ((reqOf p).head ++ (reqOf p).body)).take 16 ≠ (reqOf p).mac ∨
        (∃ k, x.counter = some k ∧ (reqOf p).counter < k) ∨ (x.counter = some (reqOf p).counter ∧ (reqOf p).retry = false) ∨
        (x.counter = none ∧ (reqOf p).counter ≠ 1))) →
    exec i s = .next t →
    t.mbx.authFail = e.mbx.authFail + 1 ∧
    Occurs e t 14 [(1, if p.via = .plant then 0 else 1), (4, p.addr.toNat), (4, (reqOf p).session.toNat)] ∧
    t.mbx.boxes = e.mbx.boxes ∧ t.mbx.status = e.mbx.status ∧ (∀ q, Part.same e t q) ∧
    ((∀ x ∈ e.mbx.sessions, x.route = none) → t.out = []) ∧
    (15 ≤ (e.mbx.fails.filter (fun f => f.1 == p.via && f.2.1 == p.addr &&
        decide (e.tick < f.2.2 + 10 * Config.ticksPerSecond))).length →
      t.mbx.lockouts = e.mbx.lockouts + 1 ∧ (p.via, p.addr, e.tick + 60 * Config.ticksPerSecond) ∈ t.mbx.locks) ∧
    ((e.mbx.fails.filter (fun f => f.2.1 == p.addr && decide (e.tick < f.2.2 + 10 * Config.ticksPerSecond))).length < 15 →
      t.mbx.lockouts = e.mbx.lockouts ∧ t.mbx.locks = e.mbx.locks)) ∧
  (∀ (i : Instr) (dt b : Nat) (p : Packet) (s e t : State), mailOf i = some (dt, p) → s.elapse dt = e →
    (p.off = 0 ∧ p.data.length = p.total) → (p.via = .service ∨ e.eff 0x0145 ≠ 0) → (p.via, p.addr, b) ∈ e.mbx.locks →
    e.tick < b → exec i s = .next t → t = e)

/-- At delivery no key is set. A level whose key is not set cannot be opened, but for a SERVICE session over SV with the all-zero key
while the SERVICE key is unset; and in such a session every command other than IDENTIFY, COMMANDS_LIST, KEY_INFO, SET_KEY and
CLOSE_SESSION answers ACCESS_DENIED (R73; that the mailbox is free and the command known come before, R77). -/
def Obligations.KeysOpenSessions : Prop :=
  State.reset.mbx.keys = [] ∧
  (∀ (dt : Nat) (p : Packet) (sid : U32) (nonce : List Byte) (s e t : State), s.elapse dt = e → Heard e p →
    (reqOf p).code = 0x0010 → tlook e.mbx.keys (beAt (reqOf p).body 0 1) = none →
    (beAt (reqOf p).body 0 1 ≠ 3 ∨ p.via ≠ .service) → exec (.openSession dt p sid nonce) s = .next t →
    ∀ k, t.session k = none ↔ e.session k = none) ∧
  (∀ (dt : Nat) (p : Packet) (sid : U32) (nonce : List Byte) (s e : State), s.elapse dt = e → Heard e p →
    (reqOf p).code = 0x0010 → (reqOf p).session = 0 → tlook e.mbx.keys 3 = none → beAt (reqOf p).body 0 1 = 3 → p.via = .service →
    (hmac (List.replicate 32 0#8) ((reqOf p).head ++ (reqOf p).body)).take 16 = (reqOf p).mac →
    Passes (openSessionCmd sid nonce) (reqOf p) e 0 false → sid ≠ 0 → e.session sid = none →
    ∃ t y, exec (.openSession dt p sid nonce) s = .next t ∧ t.session sid = some y ∧ y.level = 3 ∧ y.unsetKey = true) ∧
  (∀ (i : Instr) (dt : Nat) (p : Packet) (x : Session) (s e t : State), mailOf i = some (dt, p) → s.elapse dt = e →
    InSession e p x → x.unsetKey = true → e.boxFree (reqOf p).box = true → (cmdRow (reqOf p).code).isSome = true →
    (reqOf p).ver = 1 → (reqOf p).code ∉ [0x0001, 0x0002, 0x0013, 0x0012, 0x0011] → exec i s = .next t →
    Refused e t p (some x.key) x.id .accessDenied noPos)

/-- A request for MB15 that arrives on the plant network answers ACCESS_DENIED, once the mailbox is free and the command known (R68, R77);
with MailboxPlantEnable = 0 a datagram on the plant network only counts in FrameErrorCount (R68). -/
def Obligations.MailboxAddressing : Prop :=
  (∀ (i : Instr) (dt : Nat) (p : Packet) (x : Session) (s e t : State), mailOf i = some (dt, p) → s.elapse dt = e →
    InSession e p x → p.via = .plant → (reqOf p).box = 15 → e.boxFree 15 = true → (cmdRow (reqOf p).code).isSome = true →
    (reqOf p).ver = 1 → exec i s = .next t → Refused e t p (some x.key) x.id .accessDenied noPos) ∧
  (∀ (i : Instr) (dt : Nat) (p : Packet) (s e t : State), mailOf i = some (dt, p) → s.elapse dt = e →
    (p.off = 0 ∧ p.data.length = p.total) → e.mailboxSilent = false → p.via = .plant → e.mu.slot ≠ 0xFF →
    e.eff 0x0145 = 0 → exec i s = .next t →
    t = { e with mbx := { e.mbx with frameErr := e.mbx.frameErr + 1 } })

/-- A retransmission (R94): where the mailbox's stored response belongs to the request it is sent again and nothing is executed; where
the request is still being relayed to the PRIMARY (R83) it is discarded. -/
def Obligations.RetransmissionRepeatsTheResponse : Prop :=
  ∀ (i : Instr) (dt k : Nat) (p : Packet) (x : Session) (s e t : State), mailOf i = some (dt, p) → s.elapse dt = e →
    Heard e p → (reqOf p).code ≠ 0x0001 → (reqOf p).code ≠ 0x0010 → e.session (reqOf p).session = some x →
    x.via = p.via → x.addr = p.addr → (hmac x.key ((reqOf p).head ++ (reqOf p).body)).take 16 = (reqOf p).mac →
    x.counter = some k → (reqOf p).counter = k → (reqOf p).retry = true → exec i s = .next t →
    (∀ f, (tget e.mbx.boxes (reqOf p).box {}).last = some ((reqOf p).session, k, f) →
      t = { e.noted p x with out := [.mailbox p.via 47210 p.addr p.port.toNat f] }) ∧
    ((∀ q c f, (tget e.mbx.boxes (reqOf p).box {}).last = some (q, c, f) → ¬ (q = (reqOf p).session ∧ c = k)) →
      e.mbx.relays.any (fun y => y.session == (reqOf p).session && y.counter == k) = true → t = e.noted p x)

/-- The order of checks (R77) and what a refusal changes (R79): an authenticated request to an occupied mailbox answers BUSY, one with an
unknown code or CommandVersion BAD_COMMAND, one whose session is below the command's level ACCESS_DENIED, and ROLE_SWAP outside M4 and M5
STATE_REFUSED; beside the response and the counters of R79 nothing of the module changes. -/
def Obligations.RefusedRequestsChangeNothing : Prop :=
  (∀ (i : Instr) (dt : Nat) (p : Packet) (x : Session) (s e t : State), mailOf i = some (dt, p) → s.elapse dt = e →
    InSession e p x → exec i s = .next t →
    (e.boxFree (reqOf p).box = false → Refused e t p (some x.key) x.id .busy noPos) ∧
    (e.boxFree (reqOf p).box = true → cmdRow (reqOf p).code = none → Refused e t p (some x.key) x.id .badCommand noPos) ∧
    (e.boxFree (reqOf p).box = true → (reqOf p).ver ≠ 1 → Refused e t p (some x.key) x.id .badCommand noPos) ∧
    (∀ r l, e.boxFree (reqOf p).box = true → (reqOf p).ver = 1 → cmdRow (reqOf p).code = some r → r.level = some l →
      x.level < l → Refused e t p (some x.key) x.id .accessDenied noPos)) ∧
  (∀ (dt : Nat) (p : Packet) (x : Session) (s e : State), s.elapse dt = e → InSession e p x →
    e.boxFree (reqOf p).box = true → (reqOf p).code = 0x0032 → (reqOf p).ver = 1 → (p.via = .plant → (reqOf p).box ≠ 15) →
    2 ≤ x.level → x.unsetKey = false → (reqOf p).body = [] → e.mode ≠ .m4 → e.mode ≠ .m5 →
    ∃ t, exec (.roleSwap dt p) s = .next t ∧ Refused e t p (some x.key) x.id .stateRefused noPos)

/-- A request with Target = 1 is forwarded without a check of its Hmac (R69): it occupies the mailbox of its number, goes out unchanged
over the sync lanes and counts in PartnerForwardCount; with no lane up it answers NOT_READY with Session 0 and an all-zero Hmac. -/
def Obligations.ForwardedRequests : Prop :=
  ∀ (i : Instr) (dt : Nat) (p : Packet) (s e t : State), mailOf i = some (dt, p) → s.elapse dt = e →
    (p.off = 0 ∧ p.data.length = p.total) → e.mailboxSilent = false → (p.via = .service ∨ e.eff 0x0145 ≠ 0) →
    (p.via = .plant → e.mu.slot ≠ 0xFF) → e.lockedOut p.via p.addr = false → badFrame p.data = false → (reqOf p).target = 1 → e.boxFree (reqOf p).box = true →
    exec i s = .next t →
    (e.laneUp = true → e.mu.slot ≠ 0xFF → t.mbx.forwards = e.mbx.forwards + 1 ∧
      (tget t.mbx.boxes (reqOf p).box {}).fwd =
        some ⟨p.via, p.addr, p.port, (reqOf p).session, (reqOf p).counter, p.data.take 32, e.tick⟩ ∧
      (tget t.mbx.boxes (reqOf p).box {}).header = (reqOf p).head ++ (reqOf p).mac ∧
      (tget t.mbx.boxes (reqOf p).box {}).request = (reqOf p).body ∧
      t.out = [.lane (e.frameOf 0x0B [(reqOf p).box, 0] p.data)] ∧ ∀ q, Part.same e t q) ∧
    (e.laneUp = false → t.out = [response { reqOf p with target := 0 } none 0 .notReady noPos e.mode e.role []] ∧
      t.mbx.forwards = e.mbx.forwards ∧ (tget t.mbx.boxes (reqOf p).box {}).fwd = none ∧ ∀ q, Part.same e t q)

/-- Pair-effective commands (R83): the PRIMARY answers ACCEPTED, schedules the command for the first I/O bus frame boundary at least
500 µs on and announces that boundary, and changes nothing else yet; the STANDBY passes the command to the PRIMARY and answers later, or
answers NOT_READY with no lane up; a module of role ISOLATED_STANDBY answers STATE_REFUSED. The layout of the two lane frames is the
model's. -/
def Obligations.PairEffectiveCommandsAreScheduled : Prop :=
  ∀ (dt b : Nat) (p : Packet) (x : Session) (row : CmdRow) (i : Instr) (c : Cmd) (s e u : State),
    (i, c) ∈ ([(.hartPass dt p, hartPassCmd), (.panelUpdate dt p, panelUpdateCmd), (.commitConfig dt p, commitConfigCmd),
      (.discardEdits dt p, discardEditsCmd), (.forceSet dt p, forceSetCmd), (.forceClear dt p, forceClearCmd),
      (.taskTrigger dt p, taskTriggerCmd)] : List (Instr × Cmd)) →
    s.elapse dt = e → InSession e p x → (reqOf p).code = c.code → e.boxFree (reqOf p).box = true → (reqOf p).ver = 1 →
    (p.via = .plant → (reqOf p).box ≠ 15) → x.unsetKey = false → cmdRow c.code = some row → (∀ l, row.level = some l → l ≤ x.level) →
    (e.mode = .m4 ∨ e.mode = .m5) → e.mu.slot ≠ 0xFF → b = frameAtOrAfter (e.now + 500000) →
    u = (e.noted p x).latch (reqOf p) →
    (e.role = .primary → c.check (reqOf p) u x.level row.modes = none →
      ∃ t, exec i s = .next t ∧
        t.mbx.scheduled = e.mbx.scheduled ++ [⟨c.code, (reqOf p).body, b, some e.mbx.nextOp, (reqOf p).session, (reqOf p).counter⟩] ∧
        t.out = [.lane (e.frameOf 0x0A [3, c.code, b, (reqOf p).session.toNat, (reqOf p).counter] (reqOf p).body),
          response (reqOf p) (some x.key) x.id .accepted 0 e.mode e.role []] ∧
        ∀ q, q ≠ .ops → q ≠ .agreed → Part.same e t q) ∧
    (e.role = .standby → c.absent (reqOf p) u = none → c.malformed (reqOf p) u = none →
      c.denied (reqOf p) u x.level = none → e.mbx.async.length + e.mbx.relays.length < 8 → e.laneUp = true →
      ∃ t, exec i s = .next t ∧
        t.mbx.relays = e.mbx.relays ++ [⟨c.code, p.via, p.addr, p.port, (reqOf p).head, (reqOf p).session, (reqOf p).counter,
          e.mbx.nextOp⟩] ∧
        t.out = [.lane (e.frameOf 0x0A [4, c.code, 0, (reqOf p).session.toNat, (reqOf p).counter] (reqOf p).body)] ∧
        ∀ q, q ≠ .ops → q ≠ .agreed → Part.same e t q) ∧
    (e.role = .standby → c.absent (reqOf p) u = none → c.malformed (reqOf p) u = none →
      c.denied (reqOf p) u x.level = none → e.laneUp = false →
      ∃ t, exec i s = .next t ∧ Refused e t p (some x.key) x.id .notReady noPos) ∧
    (e.role = .isolated → c.absent (reqOf p) u = none → c.malformed (reqOf p) u = none →
      c.denied (reqOf p) u x.level = none →
      ∃ t, exec i s = .next t ∧ Refused e t p (some x.key) x.id .stateRefused noPos)

/-- A lane frame whose check fails only counts as an error of its lane, and one whose SyncSeq is not new, the second copy of a frame,
only counts as a good frame of its lane (R29, R258, R259); this holds of every type of frame (R260). -/
def Obligations.BadAndRepeatedLaneFrames : Prop :=
  ∀ (i : Instr) (dt : Nat) (h : LaneHdr) (s e : State), laneRow i = some (dt, h) → s.elapse dt = e → i.wf = true →
    e.mode ≠ .m0 →
    (h.good = false → exec i s = .next (e.modLane h.lane (fun l => { l with errors := l.errors + 1 }))) ∧
    (h.good = true → e.pair.seqIn = some (BitVec.ofNat 32 h.seq) →
      exec i s = .next (e.modLane h.lane (fun l => { l with good := l.good + 1, lastGood := e.tick })))

/-- The firmware slot of a power-up (R515): the active slot where its image passes; the other, counted in BootFallbackCount, where it is
VALID and passes; else M11 at the next I/O bus frame boundary (R40), with HaltCause 4 where the self-test found no other cause. -/
def Obligations.FirmwareSlotChosenAtSelfTest : Prop :=
  ∀ (dt : Nat) (r : SelfTest) (s e : State), s.elapse dt = e → e.mode = .m1 → e.mu.startDone = false → e.fw.active < 2 →
    (r.images.getD e.fw.active false = true →
      ∃ t, exec (.selftestComplete dt r) s = .next t ∧ t.fw.active = e.fw.active ∧ t.fw.fallbacks = e.fw.fallbacks) ∧
    (r.images.getD e.fw.active false = false → r.images.getD (1 - e.fw.active) false = true →
      (e.fwSlot (1 - e.fw.active)).state = 4 →
      ∃ t, exec (.selftestComplete dt r) s = .next t ∧ t.fw.active = 1 - e.fw.active ∧ t.fw.fallbacks = e.fw.fallbacks + 1) ∧
    (r.images.getD e.fw.active false = false →
      (r.images.getD (1 - e.fw.active) false = false ∨ (e.fwSlot (1 - e.fw.active)).state ≠ 4) →
      ∃ t, exec (.selftestComplete dt r) s = .next t ∧ (e.mu.auto = none → t.mu.auto = some ⟨.m11, .none, 7, frameAfter e.now⟩) ∧ t.fw.active = e.fw.active ∧
        t.fw.fallbacks = e.fw.fallbacks ∧
        (r.tests = [] → (∀ m ∈ e.annex.waiting, m.kind ≠ 1) → e.mu.haltCause = 0 → t.mu.haltCause = 4))

/-- EVENT_CLEAR (R117) clears the latch of every event whose bit is set and that has not occurred in the tick of the clear, answers OK, and leaves the counters, times and Details of all
events, the latches of the others and the event masks unchanged; bits of events that have never occurred have no effect; and an event
that is not masked and occurs in that tick or later, such as EV203 at a change of the service port's link, has its latch set. -/
def Obligations.EventClear : Prop :=
  (∀ (dt : Nat) (p : Packet) (x : Session) (s e : State), s.elapse dt = e → Accepted eventClearCmd e p x →
    ∃ t, exec (.eventClear dt p) s = .next t ∧ Answers t p x e.mode e.role .ok 0 [] ∧
      (∀ k, tget t.ev.src k {} = { tget e.ev.src k {} with
        latch := (tget e.ev.src k {}).latch && (!bit (leNat (reqOf p).body) k || (tget e.ev.src k {}).time == e.now) }) ∧
      t.ev.holds = e.ev.holds ∧ t.arch = e.arch ∧ ∀ q, Part.same e t q) ∧
  (∀ (dt : Nat) (up : Bool) (s e : State), s.elapse dt = e → e.mode ≠ .m0 → e.ifcOn 2 = true → (e.port 2).link = !up →
    e.eventBit 0x0160 203 = false →
    ∃ t, exec (.servicePortLink dt up) s = .next t ∧ (tget t.ev.src 203 {}).latch = true) ∧
  (∀ (k : Nat) (d : List (Nat × Nat)) (u : State), u.eventPresent k = true → u.eventBit 0x0160 k = false →
    (tget (u.raise k d).ev.src k {}).latch = true)

/-- SET_KEY (R546) answers OK and raises EV015, answers BAD_PARAMETER for a key of all zeros and changes nothing, and a session opened
under R73 keeps the limits of R73 after it has set the SERVICE key. -/
def Obligations.SetKey : Prop :=
  (∀ (dt : Nat) (p : Packet) (x : Session) (s e : State), s.elapse dt = e → Accepted setKeyCmd e p x →
    ∃ t, exec (.setKey dt p) s = .next t ∧ Responds t p x e.mode e.role .ok 0 [] ∧
      Occurs e t 15 [(1, beAt (reqOf p).body 0 1), (4, fingerprint (slice (reqOf p).body 4 32))] ∧
      tlook t.mbx.keys (beAt (reqOf p).body 0 1) = some (slice (reqOf p).body 4 32) ∧
      ∃ y, t.session x.id = some y ∧ y.unsetKey = x.unsetKey ∧ y.level = x.level ∧ y.key = x.key) ∧
  (∀ (dt : Nat) (p : Packet) (x : Session) (s e : State), s.elapse dt = e → InSession e p x → (reqOf p).code = 0x0012 →
    e.boxFree (reqOf p).box = true → (reqOf p).ver = 1 → p.via = .service → 3 ≤ x.level → (reqOf p).body.length = 36 →
    beAt (reqOf p).body 1 3 = 0 → beAt (reqOf p).body 0 1 ≤ 3 → allZero (slice (reqOf p).body 4 32) = true →
    bit 0xC0E e.mode.num = true →
    ∃ t, exec (.setKey dt p) s = .next t ∧ Refused e t p (some x.key) x.id .badParameter noPos)

/-- SET_MODE outside the table of transitions (R36, R37): whatever the level of the session, it answers STATE_REFUSED and changes nothing
else; with the present mode as its target it answers OK and changes nothing. -/
def Obligations.SetModeOutsideTheTable : Prop :=
  ∀ (dt : Nat) (p : Packet) (x : Session) (m : Mode) (s e : State), s.elapse dt = e → InSession e p x →
    (reqOf p).code = 0x0030 → e.boxFree (reqOf p).box = true → (reqOf p).ver = 1 → (p.via = .plant → (reqOf p).box ≠ 15) →
    1 ≤ x.level → x.unsetKey = false → (reqOf p).body.length = 4 → beAt (reqOf p).body 2 2 = 0 →
    modeTarget (reqOf p).body = some m → e.mode ∈ [Mode.m2, .m3, .m4, .m5, .m6, .m7, .m8, .m10] →
    (m ≠ e.mode → (e.mode, m) ∉ ([(.m2, .m3), (.m3, .m2), (.m3, .m4), (.m3, .m5), (.m3, .m6), (.m3, .m8), (.m6, .m8), (.m8, .m6),
        (.m4, .m7), (.m5, .m7), (.m6, .m7), (.m8, .m7), (.m7, .m6), (.m7, .m8), (.m7, .m5), (.m4, .m3), (.m5, .m3), (.m6, .m3),
        (.m7, .m3), (.m8, .m3), (.m10, .m2), (.m10, .m3)] : List (Mode × Mode)) → m ≠ .m10 →
      ∃ t, exec (.setMode dt p) s = .next t ∧ Refused e t p (some x.key) x.id .stateRefused noPos) ∧
    (m = e.mode → e.mu.pending = none → e.mu.joinOp = none →
      ∃ t, exec (.setMode dt p) s = .next t ∧ Answers t p x e.mode e.role .ok 0 [] ∧ ∀ q, Part.same e t q)

/-- Catalogue entries fire only in M4, M5, M6 and M8 (R186): in any other mode no row of the phase unit counts a firing, and entries in
deferral fire no more. -/
def Obligations.NoEntryFiresOutsideRunModes : Prop :=
  ∀ (dt n : Nat) (y : EdgeIn) (s e t : State), s.elapse dt = e → e.mode ∉ [Mode.m4, .m5, .m6, .m8] →
    (exec (.phaseEdge dt n y) s = .next t ∨ exec (.phaseUnlockTimeout dt n) s = .next t ∨
      exec (.phaseExtrapolation dt n) s = .next t ∨ exec (.catalogueEntryFire dt n) s = .next t ∨
      exec (.catalogueDeferredFire dt) s = .next t) →
    t.ph.fireCount = e.ph.fireCount ∧ t.ph.fires = e.ph.fires

end
end

