-- ==== Sys2Proof/Laws/Tab.lean ====
section
/-!
SUPPORT. Reading and writing the sparse arrays: read after write, other keys untouched, and the canonical form kept.
-/
namespace Sys2Proof

variable {α : Type}

@[simp] theorem tget_nil (k : Nat) (d : α) : tget [] k d = d := rfl

theorem tget_tput_self (t : Tab α) (k : Nat) (d v : α) : tget (tput t k v) k d = v := by
  induction t with
  | nil => simp [tput, tget]
  | cons p t ih =>
    obtain ⟨i, a⟩ := p
    simp only [tput]
    split
    · simp [tget]
    · split
      · simp [tget]
      · rename_i h1 h2
        simpa [tget, h2] using ih

theorem tget_tput_ne (t : Tab α) {j k : Nat} (h : j ≠ k) (d v : α) : tget (tput t k v) j d = tget t j d := by
  induction t with
  | nil => simp [tput, tget, h]
  | cons p t ih =>
    obtain ⟨i, a⟩ := p
    simp only [tput]
    split
    · simp [tget, h]
    · split
      · rename_i h2
        subst h2
        simp [tget, h]
      · simp [tget, ih]

theorem tget_tdel_self (t : Tab α) (k : Nat) (d : α) : tget (tdel t k) k d = d := by
  induction t with
  | nil => rfl
  | cons p t ih =>
    obtain ⟨i, a⟩ := p
    simp only [tdel]
    split
    · exact ih
    · rename_i h
      simpa [tget, h] using ih

theorem tget_tdel_ne (t : Tab α) {j k : Nat} (h : j ≠ k) (d : α) : tget (tdel t k) j d = tget t j d := by
  induction t with
  | nil => rfl
  | cons p t ih =>
    obtain ⟨i, a⟩ := p
    simp only [tdel]
    split
    · rename_i h2
      subst h2
      simpa [tget, h] using ih
    · simp [tget, ih]

/-- Reading the element just written gives the value written. -/
@[simp] theorem tget_tset_self [DecidableEq α] (t : Tab α) (k : Nat) (d v : α) : tget (tset t k d v) k d = v := by
  unfold tset
  split
  · rename_i h
    rw [h, tget_tdel_self]
  · exact tget_tput_self t k d v

/-- Writing one element leaves every other as it was. -/
theorem tget_tset_ne [DecidableEq α] (t : Tab α) {j k : Nat} (h : j ≠ k) (d v d' : α) :
    tget (tset t k d v) j d' = tget t j d' := by
  unfold tset
  split
  · exact tget_tdel_ne t h d'
  · exact tget_tput_ne t h d' v

@[simp] theorem tget_tmod_self [DecidableEq α] (t : Tab α) (k : Nat) (d : α) (f : α → α) :
    tget (tmod t k d f) k d = f (tget t k d) := tget_tset_self t k d _

theorem tget_tmod_ne [DecidableEq α] (t : Tab α) {j k : Nat} (h : j ≠ k) (d d' : α) (f : α → α) :
    tget (tmod t k d f) j d' = tget t j d' := tget_tset_ne t h d _ d'

/-- One element after a change of one: the changed value at its key, the old one elsewhere. -/
theorem tget_tmod [DecidableEq α] (t : Tab α) (j k : Nat) (d : α) (f : α → α) :
    tget (tmod t k d f) j d = if j = k then f (tget t k d) else tget t j d := by
  split
  · rename_i h
    rw [h, tget_tmod_self]
  · rename_i h
    exact tget_tmod_ne t h d d f

theorem tdel_tdel (t : Tab α) (k : Nat) : tdel (tdel t k) k = tdel t k := by
  induction t with
  | nil => rfl
  | cons p t ih =>
    obtain ⟨i, a⟩ := p
    by_cases h : k = i
    · simp only [tdel, h, if_true] at ih ⊢
      exact ih
    · simp only [tdel, h, if_false, ih]

theorem tdel_tput (t : Tab α) (k : Nat) (v : α) : tdel (tput t k v) k = tdel t k := by
  induction t with
  | nil => simp [tput, tdel]
  | cons p t ih =>
    obtain ⟨i, a⟩ := p
    simp only [tput]
    split
    · simp [tdel]
    · split
      · rename_i h
        subst h
        simp [tdel]
      · rename_i h
        simp [tdel, h, ih]

theorem tput_tput (t : Tab α) (k : Nat) (v w : α) : tput (tput t k v) k w = tput t k w := by
  induction t with
  | nil => simp [tput]
  | cons p t ih =>
    obtain ⟨i, a⟩ := p
    by_cases h1 : k < i
    · simp [tput, h1]
    · by_cases h2 : k = i
      · subst h2
        simp [tput]
      · simp [tput, h1, h2, ih]

/-! ## The canonical form -/

theorem trising_weaken {l l' : Nat} {t : Tab α} (h : l' ≤ l) (ht : trising (some l) t = true) :
    trising (some l') t = true := by
  cases t with
  | nil => rfl
  | cons p t =>
    obtain ⟨i, a⟩ := p
    simp only [trising, Bool.and_eq_true, decide_eq_true_eq] at ht ⊢
    exact ⟨by omega, ht.2⟩

theorem trising_tdel {t : Tab α} (k : Nat) : ∀ {l : Nat}, trising (some l) t = true → trising (some l) (tdel t k) = true := by
  induction t with
  | nil => intro l h; exact h
  | cons p t ih =>
    obtain ⟨i, a⟩ := p
    intro l h
    simp only [trising, Bool.and_eq_true, decide_eq_true_eq] at h
    simp only [tdel]
    split
    · exact ih (trising_weaken (Nat.le_of_lt h.1) h.2)
    · simp only [trising, Bool.and_eq_true, decide_eq_true_eq]
      exact ⟨h.1, ih h.2⟩

theorem trising_tput {t : Tab α} (k : Nat) (v : α) :
    ∀ {l : Nat}, l < k → trising (some l) t = true → trising (some l) (tput t k v) = true := by
  induction t with
  | nil => intro l hl _; simp [tput, trising, hl]
  | cons p t ih =>
    obtain ⟨i, a⟩ := p
    intro l hl h
    simp only [trising, Bool.and_eq_true, decide_eq_true_eq] at h
    simp only [tput]
    split
    · rename_i h1
      simp only [trising, Bool.and_eq_true, decide_eq_true_eq]
      exact ⟨hl, h1, h.2⟩
    · split
      · rename_i h2
        subst h2
        simp only [trising, Bool.and_eq_true, decide_eq_true_eq]
        exact ⟨hl, h.2⟩
      · simp only [trising, Bool.and_eq_true, decide_eq_true_eq]
        exact ⟨h.1, ih (by omega) h.2⟩

theorem trising_none {t : Tab α} : trising none t = true ↔ t = [] ∨ ∃ i a r, t = (i, a) :: r ∧ trising (some i) r = true := by
  cases t with
  | nil => simp [trising]
  | cons p t =>
    obtain ⟨i, a⟩ := p
    simp [trising]

theorem rising_tdel {t : Tab α} (k : Nat) (h : trising none t = true) : trising none (tdel t k) = true := by
  cases t with
  | nil => rfl
  | cons p t =>
    obtain ⟨i, a⟩ := p
    simp only [trising] at h
    simp only [tdel]
    split
    · have := trising_tdel k h
      cases hr : tdel t k with
      | nil => rfl
      | cons q r =>
        obtain ⟨j, b⟩ := q
        rw [hr] at this
        simp only [trising, Bool.and_eq_true] at this ⊢
        exact this.2
    · simp only [trising]
      exact trising_tdel k h

theorem rising_tput {t : Tab α} (k : Nat) (v : α) (h : trising none t = true) : trising none (tput t k v) = true := by
  cases t with
  | nil => rfl
  | cons p t =>
    obtain ⟨i, a⟩ := p
    simp only [trising] at h
    simp only [tput]
    split
    · rename_i h1
      simp [trising, h1, h]
    · split
      · rename_i h2
        subst h2
        simpa [trising] using h
      · simp only [trising]
        exact trising_tput k v (by omega) h

theorem all_tdel {p : Nat × α → Bool} {t : Tab α} (k : Nat) (h : t.all p = true) : (tdel t k).all p = true := by
  induction t with
  | nil => rfl
  | cons q t ih =>
    obtain ⟨i, a⟩ := q
    simp only [List.all_cons, Bool.and_eq_true] at h
    simp only [tdel]
    split
    · exact ih h.2
    · simp [h.1, ih h.2]

theorem all_tput {p : Nat × α → Bool} {t : Tab α} (k : Nat) (v : α) (hv : p (k, v) = true) (h : t.all p = true) :
    (tput t k v).all p = true := by
  induction t with
  | nil => simp [tput, hv]
  | cons q t ih =>
    obtain ⟨i, a⟩ := q
    simp only [List.all_cons, Bool.and_eq_true] at h
    simp only [tput]
    split
    · simp [hv, h.1, h.2]
    · split
      · simp [hv, h.2]
      · simp [h.1, ih h.2]

/-- Every write keeps the canonical form: keys strictly rising, no element equal to the default. -/
theorem twf_tset [DecidableEq α] {d : α} {t : Tab α} (k : Nat) (v : α) (h : twf d t = true) : twf d (tset t k d v) = true := by
  unfold twf at *
  simp only [Bool.and_eq_true] at *
  unfold tset
  split
  · exact ⟨rising_tdel k h.1, all_tdel k h.2⟩
  · rename_i hv
    exact ⟨rising_tput k v h.1, all_tput k v (by simpa using hv) h.2⟩

theorem twf_tmod [DecidableEq α] {d : α} {t : Tab α} (k : Nat) (f : α → α) (h : twf d t = true) :
    twf d (tmod t k d f) = true := twf_tset k _ h

end Sys2Proof
end

