-- ==== Sys2Proof/Laws/State.lean ====
section
/-!
SUPPORT. Reading the state after each named update: one lemma per part and update, so that no later proof unfolds a record update.
-/
namespace Sys2Proof.Machine


/-! ### modMu -/

@[simp] theorem modMu_ident (s : State) (f : ModeUnit → ModeUnit) : (s.modMu f).ident = s.ident := rfl
@[simp] theorem modMu_clk (s : State) (f : ModeUnit → ModeUnit) : (s.modMu f).clk = s.clk := rfl
@[simp] theorem modMu_cfg (s : State) (f : ModeUnit → ModeUnit) : (s.modMu f).cfg = s.cfg := rfl
@[simp] theorem modMu_mbx (s : State) (f : ModeUnit → ModeUnit) : (s.modMu f).mbx = s.mbx := rfl
@[simp] theorem modMu_ev (s : State) (f : ModeUnit → ModeUnit) : (s.modMu f).ev = s.ev := rfl
@[simp] theorem modMu_trend (s : State) (f : ModeUnit → ModeUnit) : (s.modMu f).trend = s.trend := rfl
@[simp] theorem modMu_arch (s : State) (f : ModeUnit → ModeUnit) : (s.modMu f).arch = s.arch := rfl
@[simp] theorem modMu_pts (s : State) (f : ModeUnit → ModeUnit) : (s.modMu f).pts = s.pts := rfl
@[simp] theorem modMu_pair (s : State) (f : ModeUnit → ModeUnit) : (s.modMu f).pair = s.pair := rfl
@[simp] theorem modMu_tk (s : State) (f : ModeUnit → ModeUnit) : (s.modMu f).tk = s.tk := rfl
@[simp] theorem modMu_ret (s : State) (f : ModeUnit → ModeUnit) : (s.modMu f).ret = s.ret := rfl
@[simp] theorem modMu_ph (s : State) (f : ModeUnit → ModeUnit) : (s.modMu f).ph = s.ph := rfl
@[simp] theorem modMu_loop (s : State) (f : ModeUnit → ModeUnit) : (s.modMu f).loop = s.loop := rfl
@[simp] theorem modMu_al (s : State) (f : ModeUnit → ModeUnit) : (s.modMu f).al = s.al := rfl
@[simp] theorem modMu_lk (s : State) (f : ModeUnit → ModeUnit) : (s.modMu f).lk = s.lk := rfl
@[simp] theorem modMu_annex (s : State) (f : ModeUnit → ModeUnit) : (s.modMu f).annex = s.annex := rfl
@[simp] theorem modMu_prot (s : State) (f : ModeUnit → ModeUnit) : (s.modMu f).prot = s.prot := rfl
@[simp] theorem modMu_ai (s : State) (f : ModeUnit → ModeUnit) : (s.modMu f).ai = s.ai := rfl
@[simp] theorem modMu_ao (s : State) (f : ModeUnit → ModeUnit) : (s.modMu f).ao = s.ao := rfl
@[simp] theorem modMu_dio (s : State) (f : ModeUnit → ModeUnit) : (s.modMu f).dio = s.dio := rfl
@[simp] theorem modMu_net (s : State) (f : ModeUnit → ModeUnit) : (s.modMu f).net = s.net := rfl
@[simp] theorem modMu_can (s : State) (f : ModeUnit → ModeUnit) : (s.modMu f).can = s.can := rfl
@[simp] theorem modMu_pnl (s : State) (f : ModeUnit → ModeUnit) : (s.modMu f).pnl = s.pnl := rfl
@[simp] theorem modMu_fw (s : State) (f : ModeUnit → ModeUnit) : (s.modMu f).fw = s.fw := rfl
@[simp] theorem modMu_sup (s : State) (f : ModeUnit → ModeUnit) : (s.modMu f).sup = s.sup := rfl
@[simp] theorem modMu_free (s : State) (f : ModeUnit → ModeUnit) : (s.modMu f).free = s.free := rfl
@[simp] theorem modMu_out (s : State) (f : ModeUnit → ModeUnit) : (s.modMu f).out = s.out := rfl
@[simp] theorem modMu_pending (s : State) (f : ModeUnit → ModeUnit) : (s.modMu f).pending = s.pending := rfl
@[simp] theorem modMu_now (s : State) (f : ModeUnit → ModeUnit) : (s.modMu f).now = s.now := rfl
@[simp] theorem modMu_tick (s : State) (f : ModeUnit → ModeUnit) : (s.modMu f).tick = s.tick := rfl
@[simp] theorem modMu_entry (s : State) (f : ModeUnit → ModeUnit) (i j : Nat) : (s.modMu f).entry i j = s.entry i j := rfl
@[simp] theorem modMu_has (s : State) (f : ModeUnit → ModeUnit) (u : OptUnit) : (s.modMu f).has u = s.has u := rfl
@[simp] theorem modMu_mu (s : State) (f : ModeUnit → ModeUnit) : (s.modMu f).mu = f s.mu := rfl

/-! ### modPair -/

@[simp] theorem modPair_ident (s : State) (f : Pair → Pair) : (s.modPair f).ident = s.ident := rfl
@[simp] theorem modPair_clk (s : State) (f : Pair → Pair) : (s.modPair f).clk = s.clk := rfl
@[simp] theorem modPair_mu (s : State) (f : Pair → Pair) : (s.modPair f).mu = s.mu := rfl
@[simp] theorem modPair_cfg (s : State) (f : Pair → Pair) : (s.modPair f).cfg = s.cfg := rfl
@[simp] theorem modPair_mbx (s : State) (f : Pair → Pair) : (s.modPair f).mbx = s.mbx := rfl
@[simp] theorem modPair_ev (s : State) (f : Pair → Pair) : (s.modPair f).ev = s.ev := rfl
@[simp] theorem modPair_trend (s : State) (f : Pair → Pair) : (s.modPair f).trend = s.trend := rfl
@[simp] theorem modPair_arch (s : State) (f : Pair → Pair) : (s.modPair f).arch = s.arch := rfl
@[simp] theorem modPair_pts (s : State) (f : Pair → Pair) : (s.modPair f).pts = s.pts := rfl
@[simp] theorem modPair_tk (s : State) (f : Pair → Pair) : (s.modPair f).tk = s.tk := rfl
@[simp] theorem modPair_ret (s : State) (f : Pair → Pair) : (s.modPair f).ret = s.ret := rfl
@[simp] theorem modPair_ph (s : State) (f : Pair → Pair) : (s.modPair f).ph = s.ph := rfl
@[simp] theorem modPair_loop (s : State) (f : Pair → Pair) : (s.modPair f).loop = s.loop := rfl
@[simp] theorem modPair_al (s : State) (f : Pair → Pair) : (s.modPair f).al = s.al := rfl
@[simp] theorem modPair_lk (s : State) (f : Pair → Pair) : (s.modPair f).lk = s.lk := rfl
@[simp] theorem modPair_annex (s : State) (f : Pair → Pair) : (s.modPair f).annex = s.annex := rfl
@[simp] theorem modPair_prot (s : State) (f : Pair → Pair) : (s.modPair f).prot = s.prot := rfl
@[simp] theorem modPair_ai (s : State) (f : Pair → Pair) : (s.modPair f).ai = s.ai := rfl
@[simp] theorem modPair_ao (s : State) (f : Pair → Pair) : (s.modPair f).ao = s.ao := rfl
@[simp] theorem modPair_dio (s : State) (f : Pair → Pair) : (s.modPair f).dio = s.dio := rfl
@[simp] theorem modPair_net (s : State) (f : Pair → Pair) : (s.modPair f).net = s.net := rfl
@[simp] theorem modPair_can (s : State) (f : Pair → Pair) : (s.modPair f).can = s.can := rfl
@[simp] theorem modPair_pnl (s : State) (f : Pair → Pair) : (s.modPair f).pnl = s.pnl := rfl
@[simp] theorem modPair_fw (s : State) (f : Pair → Pair) : (s.modPair f).fw = s.fw := rfl
@[simp] theorem modPair_sup (s : State) (f : Pair → Pair) : (s.modPair f).sup = s.sup := rfl
@[simp] theorem modPair_free (s : State) (f : Pair → Pair) : (s.modPair f).free = s.free := rfl
@[simp] theorem modPair_out (s : State) (f : Pair → Pair) : (s.modPair f).out = s.out := rfl
@[simp] theorem modPair_pending (s : State) (f : Pair → Pair) : (s.modPair f).pending = s.pending := rfl
@[simp] theorem modPair_mode (s : State) (f : Pair → Pair) : (s.modPair f).mode = s.mode := rfl
@[simp] theorem modPair_role (s : State) (f : Pair → Pair) : (s.modPair f).role = s.role := rfl
@[simp] theorem modPair_now (s : State) (f : Pair → Pair) : (s.modPair f).now = s.now := rfl
@[simp] theorem modPair_tick (s : State) (f : Pair → Pair) : (s.modPair f).tick = s.tick := rfl
@[simp] theorem modPair_eff (s : State) (f : Pair → Pair) (i : Nat) : (s.modPair f).eff i = s.eff i := rfl
@[simp] theorem modPair_entry (s : State) (f : Pair → Pair) (i j : Nat) : (s.modPair f).entry i j = s.entry i j := rfl
@[simp] theorem modPair_has (s : State) (f : Pair → Pair) (u : OptUnit) : (s.modPair f).has u = s.has u := rfl
@[simp] theorem modPair_pair (s : State) (f : Pair → Pair) : (s.modPair f).pair = f s.pair := rfl

/-! ### modAnnex -/

@[simp] theorem modAnnex_ident (s : State) (f : Annex → Annex) : (s.modAnnex f).ident = s.ident := rfl
@[simp] theorem modAnnex_clk (s : State) (f : Annex → Annex) : (s.modAnnex f).clk = s.clk := rfl
@[simp] theorem modAnnex_mu (s : State) (f : Annex → Annex) : (s.modAnnex f).mu = s.mu := rfl
@[simp] theorem modAnnex_cfg (s : State) (f : Annex → Annex) : (s.modAnnex f).cfg = s.cfg := rfl
@[simp] theorem modAnnex_mbx (s : State) (f : Annex → Annex) : (s.modAnnex f).mbx = s.mbx := rfl
@[simp] theorem modAnnex_ev (s : State) (f : Annex → Annex) : (s.modAnnex f).ev = s.ev := rfl
@[simp] theorem modAnnex_trend (s : State) (f : Annex → Annex) : (s.modAnnex f).trend = s.trend := rfl
@[simp] theorem modAnnex_arch (s : State) (f : Annex → Annex) : (s.modAnnex f).arch = s.arch := rfl
@[simp] theorem modAnnex_pts (s : State) (f : Annex → Annex) : (s.modAnnex f).pts = s.pts := rfl
@[simp] theorem modAnnex_pair (s : State) (f : Annex → Annex) : (s.modAnnex f).pair = s.pair := rfl
@[simp] theorem modAnnex_tk (s : State) (f : Annex → Annex) : (s.modAnnex f).tk = s.tk := rfl
@[simp] theorem modAnnex_ret (s : State) (f : Annex → Annex) : (s.modAnnex f).ret = s.ret := rfl
@[simp] theorem modAnnex_ph (s : State) (f : Annex → Annex) : (s.modAnnex f).ph = s.ph := rfl
@[simp] theorem modAnnex_loop (s : State) (f : Annex → Annex) : (s.modAnnex f).loop = s.loop := rfl
@[simp] theorem modAnnex_al (s : State) (f : Annex → Annex) : (s.modAnnex f).al = s.al := rfl
@[simp] theorem modAnnex_lk (s : State) (f : Annex → Annex) : (s.modAnnex f).lk = s.lk := rfl
@[simp] theorem modAnnex_prot (s : State) (f : Annex → Annex) : (s.modAnnex f).prot = s.prot := rfl
@[simp] theorem modAnnex_ai (s : State) (f : Annex → Annex) : (s.modAnnex f).ai = s.ai := rfl
@[simp] theorem modAnnex_ao (s : State) (f : Annex → Annex) : (s.modAnnex f).ao = s.ao := rfl
@[simp] theorem modAnnex_dio (s : State) (f : Annex → Annex) : (s.modAnnex f).dio = s.dio := rfl
@[simp] theorem modAnnex_net (s : State) (f : Annex → Annex) : (s.modAnnex f).net = s.net := rfl
@[simp] theorem modAnnex_can (s : State) (f : Annex → Annex) : (s.modAnnex f).can = s.can := rfl
@[simp] theorem modAnnex_pnl (s : State) (f : Annex → Annex) : (s.modAnnex f).pnl = s.pnl := rfl
@[simp] theorem modAnnex_fw (s : State) (f : Annex → Annex) : (s.modAnnex f).fw = s.fw := rfl
@[simp] theorem modAnnex_sup (s : State) (f : Annex → Annex) : (s.modAnnex f).sup = s.sup := rfl
@[simp] theorem modAnnex_free (s : State) (f : Annex → Annex) : (s.modAnnex f).free = s.free := rfl
@[simp] theorem modAnnex_out (s : State) (f : Annex → Annex) : (s.modAnnex f).out = s.out := rfl
@[simp] theorem modAnnex_pending (s : State) (f : Annex → Annex) : (s.modAnnex f).pending = s.pending := rfl
@[simp] theorem modAnnex_mode (s : State) (f : Annex → Annex) : (s.modAnnex f).mode = s.mode := rfl
@[simp] theorem modAnnex_role (s : State) (f : Annex → Annex) : (s.modAnnex f).role = s.role := rfl
@[simp] theorem modAnnex_now (s : State) (f : Annex → Annex) : (s.modAnnex f).now = s.now := rfl
@[simp] theorem modAnnex_tick (s : State) (f : Annex → Annex) : (s.modAnnex f).tick = s.tick := rfl
@[simp] theorem modAnnex_eff (s : State) (f : Annex → Annex) (i : Nat) : (s.modAnnex f).eff i = s.eff i := rfl
@[simp] theorem modAnnex_entry (s : State) (f : Annex → Annex) (i j : Nat) : (s.modAnnex f).entry i j = s.entry i j := rfl
@[simp] theorem modAnnex_has (s : State) (f : Annex → Annex) (u : OptUnit) : (s.modAnnex f).has u = s.has u := rfl
@[simp] theorem modAnnex_annex (s : State) (f : Annex → Annex) : (s.modAnnex f).annex = f s.annex := rfl

/-! ### modSup -/

@[simp] theorem modSup_ident (s : State) (f : Supply → Supply) : (s.modSup f).ident = s.ident := rfl
@[simp] theorem modSup_clk (s : State) (f : Supply → Supply) : (s.modSup f).clk = s.clk := rfl
@[simp] theorem modSup_mu (s : State) (f : Supply → Supply) : (s.modSup f).mu = s.mu := rfl
@[simp] theorem modSup_cfg (s : State) (f : Supply → Supply) : (s.modSup f).cfg = s.cfg := rfl
@[simp] theorem modSup_mbx (s : State) (f : Supply → Supply) : (s.modSup f).mbx = s.mbx := rfl
@[simp] theorem modSup_ev (s : State) (f : Supply → Supply) : (s.modSup f).ev = s.ev := rfl
@[simp] theorem modSup_trend (s : State) (f : Supply → Supply) : (s.modSup f).trend = s.trend := rfl
@[simp] theorem modSup_arch (s : State) (f : Supply → Supply) : (s.modSup f).arch = s.arch := rfl
@[simp] theorem modSup_pts (s : State) (f : Supply → Supply) : (s.modSup f).pts = s.pts := rfl
@[simp] theorem modSup_pair (s : State) (f : Supply → Supply) : (s.modSup f).pair = s.pair := rfl
@[simp] theorem modSup_tk (s : State) (f : Supply → Supply) : (s.modSup f).tk = s.tk := rfl
@[simp] theorem modSup_ret (s : State) (f : Supply → Supply) : (s.modSup f).ret = s.ret := rfl
@[simp] theorem modSup_ph (s : State) (f : Supply → Supply) : (s.modSup f).ph = s.ph := rfl
@[simp] theorem modSup_loop (s : State) (f : Supply → Supply) : (s.modSup f).loop = s.loop := rfl
@[simp] theorem modSup_al (s : State) (f : Supply → Supply) : (s.modSup f).al = s.al := rfl
@[simp] theorem modSup_lk (s : State) (f : Supply → Supply) : (s.modSup f).lk = s.lk := rfl
@[simp] theorem modSup_annex (s : State) (f : Supply → Supply) : (s.modSup f).annex = s.annex := rfl
@[simp] theorem modSup_prot (s : State) (f : Supply → Supply) : (s.modSup f).prot = s.prot := rfl
@[simp] theorem modSup_ai (s : State) (f : Supply → Supply) : (s.modSup f).ai = s.ai := rfl
@[simp] theorem modSup_ao (s : State) (f : Supply → Supply) : (s.modSup f).ao = s.ao := rfl
@[simp] theorem modSup_dio (s : State) (f : Supply → Supply) : (s.modSup f).dio = s.dio := rfl
@[simp] theorem modSup_net (s : State) (f : Supply → Supply) : (s.modSup f).net = s.net := rfl
@[simp] theorem modSup_can (s : State) (f : Supply → Supply) : (s.modSup f).can = s.can := rfl
@[simp] theorem modSup_pnl (s : State) (f : Supply → Supply) : (s.modSup f).pnl = s.pnl := rfl
@[simp] theorem modSup_fw (s : State) (f : Supply → Supply) : (s.modSup f).fw = s.fw := rfl
@[simp] theorem modSup_free (s : State) (f : Supply → Supply) : (s.modSup f).free = s.free := rfl
@[simp] theorem modSup_out (s : State) (f : Supply → Supply) : (s.modSup f).out = s.out := rfl
@[simp] theorem modSup_pending (s : State) (f : Supply → Supply) : (s.modSup f).pending = s.pending := rfl
@[simp] theorem modSup_mode (s : State) (f : Supply → Supply) : (s.modSup f).mode = s.mode := rfl
@[simp] theorem modSup_role (s : State) (f : Supply → Supply) : (s.modSup f).role = s.role := rfl
@[simp] theorem modSup_now (s : State) (f : Supply → Supply) : (s.modSup f).now = s.now := rfl
@[simp] theorem modSup_tick (s : State) (f : Supply → Supply) : (s.modSup f).tick = s.tick := rfl
@[simp] theorem modSup_eff (s : State) (f : Supply → Supply) (i : Nat) : (s.modSup f).eff i = s.eff i := rfl
@[simp] theorem modSup_entry (s : State) (f : Supply → Supply) (i j : Nat) : (s.modSup f).entry i j = s.entry i j := rfl
@[simp] theorem modSup_has (s : State) (f : Supply → Supply) (u : OptUnit) : (s.modSup f).has u = s.has u := rfl
@[simp] theorem modSup_sup (s : State) (f : Supply → Supply) : (s.modSup f).sup = f s.sup := rfl

/-! ### modClk -/

@[simp] theorem modClk_ident (s : State) (f : Clk → Clk) : (s.modClk f).ident = s.ident := rfl
@[simp] theorem modClk_mu (s : State) (f : Clk → Clk) : (s.modClk f).mu = s.mu := rfl
@[simp] theorem modClk_cfg (s : State) (f : Clk → Clk) : (s.modClk f).cfg = s.cfg := rfl
@[simp] theorem modClk_mbx (s : State) (f : Clk → Clk) : (s.modClk f).mbx = s.mbx := rfl
@[simp] theorem modClk_ev (s : State) (f : Clk → Clk) : (s.modClk f).ev = s.ev := rfl
@[simp] theorem modClk_trend (s : State) (f : Clk → Clk) : (s.modClk f).trend = s.trend := rfl
@[simp] theorem modClk_arch (s : State) (f : Clk → Clk) : (s.modClk f).arch = s.arch := rfl
@[simp] theorem modClk_pts (s : State) (f : Clk → Clk) : (s.modClk f).pts = s.pts := rfl
@[simp] theorem modClk_pair (s : State) (f : Clk → Clk) : (s.modClk f).pair = s.pair := rfl
@[simp] theorem modClk_tk (s : State) (f : Clk → Clk) : (s.modClk f).tk = s.tk := rfl
@[simp] theorem modClk_ret (s : State) (f : Clk → Clk) : (s.modClk f).ret = s.ret := rfl
@[simp] theorem modClk_ph (s : State) (f : Clk → Clk) : (s.modClk f).ph = s.ph := rfl
@[simp] theorem modClk_loop (s : State) (f : Clk → Clk) : (s.modClk f).loop = s.loop := rfl
@[simp] theorem modClk_al (s : State) (f : Clk → Clk) : (s.modClk f).al = s.al := rfl
@[simp] theorem modClk_lk (s : State) (f : Clk → Clk) : (s.modClk f).lk = s.lk := rfl
@[simp] theorem modClk_annex (s : State) (f : Clk → Clk) : (s.modClk f).annex = s.annex := rfl
@[simp] theorem modClk_prot (s : State) (f : Clk → Clk) : (s.modClk f).prot = s.prot := rfl
@[simp] theorem modClk_ai (s : State) (f : Clk → Clk) : (s.modClk f).ai = s.ai := rfl
@[simp] theorem modClk_ao (s : State) (f : Clk → Clk) : (s.modClk f).ao = s.ao := rfl
@[simp] theorem modClk_dio (s : State) (f : Clk → Clk) : (s.modClk f).dio = s.dio := rfl
@[simp] theorem modClk_net (s : State) (f : Clk → Clk) : (s.modClk f).net = s.net := rfl
@[simp] theorem modClk_can (s : State) (f : Clk → Clk) : (s.modClk f).can = s.can := rfl
@[simp] theorem modClk_pnl (s : State) (f : Clk → Clk) : (s.modClk f).pnl = s.pnl := rfl
@[simp] theorem modClk_fw (s : State) (f : Clk → Clk) : (s.modClk f).fw = s.fw := rfl
@[simp] theorem modClk_sup (s : State) (f : Clk → Clk) : (s.modClk f).sup = s.sup := rfl
@[simp] theorem modClk_free (s : State) (f : Clk → Clk) : (s.modClk f).free = s.free := rfl
@[simp] theorem modClk_out (s : State) (f : Clk → Clk) : (s.modClk f).out = s.out := rfl
@[simp] theorem modClk_pending (s : State) (f : Clk → Clk) : (s.modClk f).pending = s.pending := rfl
@[simp] theorem modClk_mode (s : State) (f : Clk → Clk) : (s.modClk f).mode = s.mode := rfl
@[simp] theorem modClk_role (s : State) (f : Clk → Clk) : (s.modClk f).role = s.role := rfl
@[simp] theorem modClk_eff (s : State) (f : Clk → Clk) (i : Nat) : (s.modClk f).eff i = s.eff i := rfl
@[simp] theorem modClk_entry (s : State) (f : Clk → Clk) (i j : Nat) : (s.modClk f).entry i j = s.entry i j := rfl
@[simp] theorem modClk_has (s : State) (f : Clk → Clk) (u : OptUnit) : (s.modClk f).has u = s.has u := rfl
@[simp] theorem modClk_clk (s : State) (f : Clk → Clk) : (s.modClk f).clk = f s.clk := rfl

/-! ### modPnl -/

@[simp] theorem modPnl_ident (s : State) (f : Panel → Panel) : (s.modPnl f).ident = s.ident := rfl
@[simp] theorem modPnl_clk (s : State) (f : Panel → Panel) : (s.modPnl f).clk = s.clk := rfl
@[simp] theorem modPnl_mu (s : State) (f : Panel → Panel) : (s.modPnl f).mu = s.mu := rfl
@[simp] theorem modPnl_cfg (s : State) (f : Panel → Panel) : (s.modPnl f).cfg = s.cfg := rfl
@[simp] theorem modPnl_mbx (s : State) (f : Panel → Panel) : (s.modPnl f).mbx = s.mbx := rfl
@[simp] theorem modPnl_ev (s : State) (f : Panel → Panel) : (s.modPnl f).ev = s.ev := rfl
@[simp] theorem modPnl_trend (s : State) (f : Panel → Panel) : (s.modPnl f).trend = s.trend := rfl
@[simp] theorem modPnl_arch (s : State) (f : Panel → Panel) : (s.modPnl f).arch = s.arch := rfl
@[simp] theorem modPnl_pts (s : State) (f : Panel → Panel) : (s.modPnl f).pts = s.pts := rfl
@[simp] theorem modPnl_pair (s : State) (f : Panel → Panel) : (s.modPnl f).pair = s.pair := rfl
@[simp] theorem modPnl_tk (s : State) (f : Panel → Panel) : (s.modPnl f).tk = s.tk := rfl
@[simp] theorem modPnl_ret (s : State) (f : Panel → Panel) : (s.modPnl f).ret = s.ret := rfl
@[simp] theorem modPnl_ph (s : State) (f : Panel → Panel) : (s.modPnl f).ph = s.ph := rfl
@[simp] theorem modPnl_loop (s : State) (f : Panel → Panel) : (s.modPnl f).loop = s.loop := rfl
@[simp] theorem modPnl_al (s : State) (f : Panel → Panel) : (s.modPnl f).al = s.al := rfl
@[simp] theorem modPnl_lk (s : State) (f : Panel → Panel) : (s.modPnl f).lk = s.lk := rfl
@[simp] theorem modPnl_annex (s : State) (f : Panel → Panel) : (s.modPnl f).annex = s.annex := rfl
@[simp] theorem modPnl_prot (s : State) (f : Panel → Panel) : (s.modPnl f).prot = s.prot := rfl
@[simp] theorem modPnl_ai (s : State) (f : Panel → Panel) : (s.modPnl f).ai = s.ai := rfl
@[simp] theorem modPnl_ao (s : State) (f : Panel → Panel) : (s.modPnl f).ao = s.ao := rfl
@[simp] theorem modPnl_dio (s : State) (f : Panel → Panel) : (s.modPnl f).dio = s.dio := rfl
@[simp] theorem modPnl_net (s : State) (f : Panel → Panel) : (s.modPnl f).net = s.net := rfl
@[simp] theorem modPnl_can (s : State) (f : Panel → Panel) : (s.modPnl f).can = s.can := rfl
@[simp] theorem modPnl_fw (s : State) (f : Panel → Panel) : (s.modPnl f).fw = s.fw := rfl
@[simp] theorem modPnl_sup (s : State) (f : Panel → Panel) : (s.modPnl f).sup = s.sup := rfl
@[simp] theorem modPnl_free (s : State) (f : Panel → Panel) : (s.modPnl f).free = s.free := rfl
@[simp] theorem modPnl_out (s : State) (f : Panel → Panel) : (s.modPnl f).out = s.out := rfl
@[simp] theorem modPnl_pending (s : State) (f : Panel → Panel) : (s.modPnl f).pending = s.pending := rfl
@[simp] theorem modPnl_mode (s : State) (f : Panel → Panel) : (s.modPnl f).mode = s.mode := rfl
@[simp] theorem modPnl_role (s : State) (f : Panel → Panel) : (s.modPnl f).role = s.role := rfl
@[simp] theorem modPnl_now (s : State) (f : Panel → Panel) : (s.modPnl f).now = s.now := rfl
@[simp] theorem modPnl_tick (s : State) (f : Panel → Panel) : (s.modPnl f).tick = s.tick := rfl
@[simp] theorem modPnl_eff (s : State) (f : Panel → Panel) (i : Nat) : (s.modPnl f).eff i = s.eff i := rfl
@[simp] theorem modPnl_entry (s : State) (f : Panel → Panel) (i j : Nat) : (s.modPnl f).entry i j = s.entry i j := rfl
@[simp] theorem modPnl_has (s : State) (f : Panel → Panel) (u : OptUnit) : (s.modPnl f).has u = s.has u := rfl
@[simp] theorem modPnl_pnl (s : State) (f : Panel → Panel) : (s.modPnl f).pnl = f s.pnl := rfl

/-! ### modLad -/

@[simp] theorem modLad_ident (s : State) (f : Ladder → Ladder) : (s.modLad f).ident = s.ident := rfl
@[simp] theorem modLad_clk (s : State) (f : Ladder → Ladder) : (s.modLad f).clk = s.clk := rfl
@[simp] theorem modLad_mu (s : State) (f : Ladder → Ladder) : (s.modLad f).mu = s.mu := rfl
@[simp] theorem modLad_cfg (s : State) (f : Ladder → Ladder) : (s.modLad f).cfg = s.cfg := rfl
@[simp] theorem modLad_mbx (s : State) (f : Ladder → Ladder) : (s.modLad f).mbx = s.mbx := rfl
@[simp] theorem modLad_ev (s : State) (f : Ladder → Ladder) : (s.modLad f).ev = s.ev := rfl
@[simp] theorem modLad_trend (s : State) (f : Ladder → Ladder) : (s.modLad f).trend = s.trend := rfl
@[simp] theorem modLad_arch (s : State) (f : Ladder → Ladder) : (s.modLad f).arch = s.arch := rfl
@[simp] theorem modLad_pts (s : State) (f : Ladder → Ladder) : (s.modLad f).pts = s.pts := rfl
@[simp] theorem modLad_pair (s : State) (f : Ladder → Ladder) : (s.modLad f).pair = s.pair := rfl
@[simp] theorem modLad_tk (s : State) (f : Ladder → Ladder) : (s.modLad f).tk = s.tk := rfl
@[simp] theorem modLad_ret (s : State) (f : Ladder → Ladder) : (s.modLad f).ret = s.ret := rfl
@[simp] theorem modLad_ph (s : State) (f : Ladder → Ladder) : (s.modLad f).ph = s.ph := rfl
@[simp] theorem modLad_loop (s : State) (f : Ladder → Ladder) : (s.modLad f).loop = s.loop := rfl
@[simp] theorem modLad_lk (s : State) (f : Ladder → Ladder) : (s.modLad f).lk = s.lk := rfl
@[simp] theorem modLad_annex (s : State) (f : Ladder → Ladder) : (s.modLad f).annex = s.annex := rfl
@[simp] theorem modLad_prot (s : State) (f : Ladder → Ladder) : (s.modLad f).prot = s.prot := rfl
@[simp] theorem modLad_ai (s : State) (f : Ladder → Ladder) : (s.modLad f).ai = s.ai := rfl
@[simp] theorem modLad_ao (s : State) (f : Ladder → Ladder) : (s.modLad f).ao = s.ao := rfl
@[simp] theorem modLad_dio (s : State) (f : Ladder → Ladder) : (s.modLad f).dio = s.dio := rfl
@[simp] theorem modLad_net (s : State) (f : Ladder → Ladder) : (s.modLad f).net = s.net := rfl
@[simp] theorem modLad_can (s : State) (f : Ladder → Ladder) : (s.modLad f).can = s.can := rfl
@[simp] theorem modLad_pnl (s : State) (f : Ladder → Ladder) : (s.modLad f).pnl = s.pnl := rfl
@[simp] theorem modLad_fw (s : State) (f : Ladder → Ladder) : (s.modLad f).fw = s.fw := rfl
@[simp] theorem modLad_sup (s : State) (f : Ladder → Ladder) : (s.modLad f).sup = s.sup := rfl
@[simp] theorem modLad_free (s : State) (f : Ladder → Ladder) : (s.modLad f).free = s.free := rfl
@[simp] theorem modLad_out (s : State) (f : Ladder → Ladder) : (s.modLad f).out = s.out := rfl
@[simp] theorem modLad_pending (s : State) (f : Ladder → Ladder) : (s.modLad f).pending = s.pending := rfl
@[simp] theorem modLad_mode (s : State) (f : Ladder → Ladder) : (s.modLad f).mode = s.mode := rfl
@[simp] theorem modLad_role (s : State) (f : Ladder → Ladder) : (s.modLad f).role = s.role := rfl
@[simp] theorem modLad_now (s : State) (f : Ladder → Ladder) : (s.modLad f).now = s.now := rfl
@[simp] theorem modLad_tick (s : State) (f : Ladder → Ladder) : (s.modLad f).tick = s.tick := rfl
@[simp] theorem modLad_eff (s : State) (f : Ladder → Ladder) (i : Nat) : (s.modLad f).eff i = s.eff i := rfl
@[simp] theorem modLad_entry (s : State) (f : Ladder → Ladder) (i j : Nat) : (s.modLad f).entry i j = s.entry i j := rfl
@[simp] theorem modLad_has (s : State) (f : Ladder → Ladder) (u : OptUnit) : (s.modLad f).has u = s.has u := rfl

/-! ### modTask -/

@[simp] theorem modTask_ident (s : State) (n : Nat) (f : Task → Task) : (s.modTask n f).ident = s.ident := rfl
@[simp] theorem modTask_clk (s : State) (n : Nat) (f : Task → Task) : (s.modTask n f).clk = s.clk := rfl
@[simp] theorem modTask_mu (s : State) (n : Nat) (f : Task → Task) : (s.modTask n f).mu = s.mu := rfl
@[simp] theorem modTask_cfg (s : State) (n : Nat) (f : Task → Task) : (s.modTask n f).cfg = s.cfg := rfl
@[simp] theorem modTask_mbx (s : State) (n : Nat) (f : Task → Task) : (s.modTask n f).mbx = s.mbx := rfl
@[simp] theorem modTask_ev (s : State) (n : Nat) (f : Task → Task) : (s.modTask n f).ev = s.ev := rfl
@[simp] theorem modTask_trend (s : State) (n : Nat) (f : Task → Task) : (s.modTask n f).trend = s.trend := rfl
@[simp] theorem modTask_arch (s : State) (n : Nat) (f : Task → Task) : (s.modTask n f).arch = s.arch := rfl
@[simp] theorem modTask_pts (s : State) (n : Nat) (f : Task → Task) : (s.modTask n f).pts = s.pts := rfl
@[simp] theorem modTask_pair (s : State) (n : Nat) (f : Task → Task) : (s.modTask n f).pair = s.pair := rfl
@[simp] theorem modTask_ret (s : State) (n : Nat) (f : Task → Task) : (s.modTask n f).ret = s.ret := rfl
@[simp] theorem modTask_ph (s : State) (n : Nat) (f : Task → Task) : (s.modTask n f).ph = s.ph := rfl
@[simp] theorem modTask_loop (s : State) (n : Nat) (f : Task → Task) : (s.modTask n f).loop = s.loop := rfl
@[simp] theorem modTask_al (s : State) (n : Nat) (f : Task → Task) : (s.modTask n f).al = s.al := rfl
@[simp] theorem modTask_lk (s : State) (n : Nat) (f : Task → Task) : (s.modTask n f).lk = s.lk := rfl
@[simp] theorem modTask_annex (s : State) (n : Nat) (f : Task → Task) : (s.modTask n f).annex = s.annex := rfl
@[simp] theorem modTask_prot (s : State) (n : Nat) (f : Task → Task) : (s.modTask n f).prot = s.prot := rfl
@[simp] theorem modTask_ai (s : State) (n : Nat) (f : Task → Task) : (s.modTask n f).ai = s.ai := rfl
@[simp] theorem modTask_ao (s : State) (n : Nat) (f : Task → Task) : (s.modTask n f).ao = s.ao := rfl
@[simp] theorem modTask_dio (s : State) (n : Nat) (f : Task → Task) : (s.modTask n f).dio = s.dio := rfl
@[simp] theorem modTask_net (s : State) (n : Nat) (f : Task → Task) : (s.modTask n f).net = s.net := rfl
@[simp] theorem modTask_can (s : State) (n : Nat) (f : Task → Task) : (s.modTask n f).can = s.can := rfl
@[simp] theorem modTask_pnl (s : State) (n : Nat) (f : Task → Task) : (s.modTask n f).pnl = s.pnl := rfl
@[simp] theorem modTask_fw (s : State) (n : Nat) (f : Task → Task) : (s.modTask n f).fw = s.fw := rfl
@[simp] theorem modTask_sup (s : State) (n : Nat) (f : Task → Task) : (s.modTask n f).sup = s.sup := rfl
@[simp] theorem modTask_free (s : State) (n : Nat) (f : Task → Task) : (s.modTask n f).free = s.free := rfl
@[simp] theorem modTask_out (s : State) (n : Nat) (f : Task → Task) : (s.modTask n f).out = s.out := rfl
@[simp] theorem modTask_pending (s : State) (n : Nat) (f : Task → Task) : (s.modTask n f).pending = s.pending := rfl
@[simp] theorem modTask_mode (s : State) (n : Nat) (f : Task → Task) : (s.modTask n f).mode = s.mode := rfl
@[simp] theorem modTask_role (s : State) (n : Nat) (f : Task → Task) : (s.modTask n f).role = s.role := rfl
@[simp] theorem modTask_now (s : State) (n : Nat) (f : Task → Task) : (s.modTask n f).now = s.now := rfl
@[simp] theorem modTask_tick (s : State) (n : Nat) (f : Task → Task) : (s.modTask n f).tick = s.tick := rfl
@[simp] theorem modTask_eff (s : State) (n : Nat) (f : Task → Task) (i : Nat) : (s.modTask n f).eff i = s.eff i := rfl
@[simp] theorem modTask_entry (s : State) (n : Nat) (f : Task → Task) (i j : Nat) : (s.modTask n f).entry i j = s.entry i j := rfl
@[simp] theorem modTask_has (s : State) (n : Nat) (f : Task → Task) (u : OptUnit) : (s.modTask n f).has u = s.has u := rfl
@[simp] theorem modTask_task_self (s : State) (n : Nat) (f : Task → Task) : (s.modTask n f).task n = f (s.task n) := tget_tmod_self _ _ _ _
theorem modTask_task_ne (s : State) (n : Nat) (f : Task → Task) {k : Nat} (h : k ≠ n) : (s.modTask n f).task k = s.task k :=
  tget_tmod_ne _ h _ _ _

/-! ### modForce -/

@[simp] theorem modForce_ident (s : State) (n : Nat) (f : Force → Force) : (s.modForce n f).ident = s.ident := rfl
@[simp] theorem modForce_clk (s : State) (n : Nat) (f : Force → Force) : (s.modForce n f).clk = s.clk := rfl
@[simp] theorem modForce_mu (s : State) (n : Nat) (f : Force → Force) : (s.modForce n f).mu = s.mu := rfl
@[simp] theorem modForce_cfg (s : State) (n : Nat) (f : Force → Force) : (s.modForce n f).cfg = s.cfg := rfl
@[simp] theorem modForce_mbx (s : State) (n : Nat) (f : Force → Force) : (s.modForce n f).mbx = s.mbx := rfl
@[simp] theorem modForce_ev (s : State) (n : Nat) (f : Force → Force) : (s.modForce n f).ev = s.ev := rfl
@[simp] theorem modForce_trend (s : State) (n : Nat) (f : Force → Force) : (s.modForce n f).trend = s.trend := rfl
@[simp] theorem modForce_arch (s : State) (n : Nat) (f : Force → Force) : (s.modForce n f).arch = s.arch := rfl
@[simp] theorem modForce_pts (s : State) (n : Nat) (f : Force → Force) : (s.modForce n f).pts = s.pts := rfl
@[simp] theorem modForce_pair (s : State) (n : Nat) (f : Force → Force) : (s.modForce n f).pair = s.pair := rfl
@[simp] theorem modForce_ret (s : State) (n : Nat) (f : Force → Force) : (s.modForce n f).ret = s.ret := rfl
@[simp] theorem modForce_ph (s : State) (n : Nat) (f : Force → Force) : (s.modForce n f).ph = s.ph := rfl
@[simp] theorem modForce_loop (s : State) (n : Nat) (f : Force → Force) : (s.modForce n f).loop = s.loop := rfl
@[simp] theorem modForce_al (s : State) (n : Nat) (f : Force → Force) : (s.modForce n f).al = s.al := rfl
@[simp] theorem modForce_lk (s : State) (n : Nat) (f : Force → Force) : (s.modForce n f).lk = s.lk := rfl
@[simp] theorem modForce_annex (s : State) (n : Nat) (f : Force → Force) : (s.modForce n f).annex = s.annex := rfl
@[simp] theorem modForce_prot (s : State) (n : Nat) (f : Force → Force) : (s.modForce n f).prot = s.prot := rfl
@[simp] theorem modForce_ai (s : State) (n : Nat) (f : Force → Force) : (s.modForce n f).ai = s.ai := rfl
@[simp] theorem modForce_ao (s : State) (n : Nat) (f : Force → Force) : (s.modForce n f).ao = s.ao := rfl
@[simp] theorem modForce_dio (s : State) (n : Nat) (f : Force → Force) : (s.modForce n f).dio = s.dio := rfl
@[simp] theorem modForce_net (s : State) (n : Nat) (f : Force → Force) : (s.modForce n f).net = s.net := rfl
@[simp] theorem modForce_can (s : State) (n : Nat) (f : Force → Force) : (s.modForce n f).can = s.can := rfl
@[simp] theorem modForce_pnl (s : State) (n : Nat) (f : Force → Force) : (s.modForce n f).pnl = s.pnl := rfl
@[simp] theorem modForce_fw (s : State) (n : Nat) (f : Force → Force) : (s.modForce n f).fw = s.fw := rfl
@[simp] theorem modForce_sup (s : State) (n : Nat) (f : Force → Force) : (s.modForce n f).sup = s.sup := rfl
@[simp] theorem modForce_free (s : State) (n : Nat) (f : Force → Force) : (s.modForce n f).free = s.free := rfl
@[simp] theorem modForce_out (s : State) (n : Nat) (f : Force → Force) : (s.modForce n f).out = s.out := rfl
@[simp] theorem modForce_pending (s : State) (n : Nat) (f : Force → Force) : (s.modForce n f).pending = s.pending := rfl
@[simp] theorem modForce_mode (s : State) (n : Nat) (f : Force → Force) : (s.modForce n f).mode = s.mode := rfl
@[simp] theorem modForce_role (s : State) (n : Nat) (f : Force → Force) : (s.modForce n f).role = s.role := rfl
@[simp] theorem modForce_now (s : State) (n : Nat) (f : Force → Force) : (s.modForce n f).now = s.now := rfl
@[simp] theorem modForce_tick (s : State) (n : Nat) (f : Force → Force) : (s.modForce n f).tick = s.tick := rfl
@[simp] theorem modForce_eff (s : State) (n : Nat) (f : Force → Force) (i : Nat) : (s.modForce n f).eff i = s.eff i := rfl
@[simp] theorem modForce_entry (s : State) (n : Nat) (f : Force → Force) (i j : Nat) : (s.modForce n f).entry i j = s.entry i j := rfl
@[simp] theorem modForce_has (s : State) (n : Nat) (f : Force → Force) (u : OptUnit) : (s.modForce n f).has u = s.has u := rfl

/-! ### modConv -/

@[simp] theorem modConv_ident (s : State) (n : Nat) (f : Conv → Conv) : (s.modConv n f).ident = s.ident := rfl
@[simp] theorem modConv_clk (s : State) (n : Nat) (f : Conv → Conv) : (s.modConv n f).clk = s.clk := rfl
@[simp] theorem modConv_mu (s : State) (n : Nat) (f : Conv → Conv) : (s.modConv n f).mu = s.mu := rfl
@[simp] theorem modConv_cfg (s : State) (n : Nat) (f : Conv → Conv) : (s.modConv n f).cfg = s.cfg := rfl
@[simp] theorem modConv_mbx (s : State) (n : Nat) (f : Conv → Conv) : (s.modConv n f).mbx = s.mbx := rfl
@[simp] theorem modConv_ev (s : State) (n : Nat) (f : Conv → Conv) : (s.modConv n f).ev = s.ev := rfl
@[simp] theorem modConv_trend (s : State) (n : Nat) (f : Conv → Conv) : (s.modConv n f).trend = s.trend := rfl
@[simp] theorem modConv_arch (s : State) (n : Nat) (f : Conv → Conv) : (s.modConv n f).arch = s.arch := rfl
@[simp] theorem modConv_pts (s : State) (n : Nat) (f : Conv → Conv) : (s.modConv n f).pts = s.pts := rfl
@[simp] theorem modConv_pair (s : State) (n : Nat) (f : Conv → Conv) : (s.modConv n f).pair = s.pair := rfl
@[simp] theorem modConv_tk (s : State) (n : Nat) (f : Conv → Conv) : (s.modConv n f).tk = s.tk := rfl
@[simp] theorem modConv_ret (s : State) (n : Nat) (f : Conv → Conv) : (s.modConv n f).ret = s.ret := rfl
@[simp] theorem modConv_ph (s : State) (n : Nat) (f : Conv → Conv) : (s.modConv n f).ph = s.ph := rfl
@[simp] theorem modConv_loop (s : State) (n : Nat) (f : Conv → Conv) : (s.modConv n f).loop = s.loop := rfl
@[simp] theorem modConv_al (s : State) (n : Nat) (f : Conv → Conv) : (s.modConv n f).al = s.al := rfl
@[simp] theorem modConv_lk (s : State) (n : Nat) (f : Conv → Conv) : (s.modConv n f).lk = s.lk := rfl
@[simp] theorem modConv_annex (s : State) (n : Nat) (f : Conv → Conv) : (s.modConv n f).annex = s.annex := rfl
@[simp] theorem modConv_prot (s : State) (n : Nat) (f : Conv → Conv) : (s.modConv n f).prot = s.prot := rfl
@[simp] theorem modConv_ao (s : State) (n : Nat) (f : Conv → Conv) : (s.modConv n f).ao = s.ao := rfl
@[simp] theorem modConv_dio (s : State) (n : Nat) (f : Conv → Conv) : (s.modConv n f).dio = s.dio := rfl
@[simp] theorem modConv_net (s : State) (n : Nat) (f : Conv → Conv) : (s.modConv n f).net = s.net := rfl
@[simp] theorem modConv_can (s : State) (n : Nat) (f : Conv → Conv) : (s.modConv n f).can = s.can := rfl
@[simp] theorem modConv_pnl (s : State) (n : Nat) (f : Conv → Conv) : (s.modConv n f).pnl = s.pnl := rfl
@[simp] theorem modConv_fw (s : State) (n : Nat) (f : Conv → Conv) : (s.modConv n f).fw = s.fw := rfl
@[simp] theorem modConv_sup (s : State) (n : Nat) (f : Conv → Conv) : (s.modConv n f).sup = s.sup := rfl
@[simp] theorem modConv_free (s : State) (n : Nat) (f : Conv → Conv) : (s.modConv n f).free = s.free := rfl
@[simp] theorem modConv_out (s : State) (n : Nat) (f : Conv → Conv) : (s.modConv n f).out = s.out := rfl
@[simp] theorem modConv_pending (s : State) (n : Nat) (f : Conv → Conv) : (s.modConv n f).pending = s.pending := rfl
@[simp] theorem modConv_mode (s : State) (n : Nat) (f : Conv → Conv) : (s.modConv n f).mode = s.mode := rfl
@[simp] theorem modConv_role (s : State) (n : Nat) (f : Conv → Conv) : (s.modConv n f).role = s.role := rfl
@[simp] theorem modConv_now (s : State) (n : Nat) (f : Conv → Conv) : (s.modConv n f).now = s.now := rfl
@[simp] theorem modConv_tick (s : State) (n : Nat) (f : Conv → Conv) : (s.modConv n f).tick = s.tick := rfl
@[simp] theorem modConv_eff (s : State) (n : Nat) (f : Conv → Conv) (i : Nat) : (s.modConv n f).eff i = s.eff i := rfl
@[simp] theorem modConv_entry (s : State) (n : Nat) (f : Conv → Conv) (i j : Nat) : (s.modConv n f).entry i j = s.entry i j := rfl
@[simp] theorem modConv_has (s : State) (n : Nat) (f : Conv → Conv) (u : OptUnit) : (s.modConv n f).has u = s.has u := rfl
@[simp] theorem modConv_conv_self (s : State) (n : Nat) (f : Conv → Conv) : (s.modConv n f).conv n = f (s.conv n) := tget_tmod_self _ _ _ _
theorem modConv_conv_ne (s : State) (n : Nat) (f : Conv → Conv) {k : Nat} (h : k ≠ n) : (s.modConv n f).conv k = s.conv k :=
  tget_tmod_ne _ h _ _ _

/-! ### modCal -/

@[simp] theorem modCal_ident (s : State) (n : Nat) (f : ConvCal → ConvCal) : (s.modCal n f).ident = s.ident := rfl
@[simp] theorem modCal_clk (s : State) (n : Nat) (f : ConvCal → ConvCal) : (s.modCal n f).clk = s.clk := rfl
@[simp] theorem modCal_mu (s : State) (n : Nat) (f : ConvCal → ConvCal) : (s.modCal n f).mu = s.mu := rfl
@[simp] theorem modCal_cfg (s : State) (n : Nat) (f : ConvCal → ConvCal) : (s.modCal n f).cfg = s.cfg := rfl
@[simp] theorem modCal_mbx (s : State) (n : Nat) (f : ConvCal → ConvCal) : (s.modCal n f).mbx = s.mbx := rfl
@[simp] theorem modCal_ev (s : State) (n : Nat) (f : ConvCal → ConvCal) : (s.modCal n f).ev = s.ev := rfl
@[simp] theorem modCal_trend (s : State) (n : Nat) (f : ConvCal → ConvCal) : (s.modCal n f).trend = s.trend := rfl
@[simp] theorem modCal_arch (s : State) (n : Nat) (f : ConvCal → ConvCal) : (s.modCal n f).arch = s.arch := rfl
@[simp] theorem modCal_pts (s : State) (n : Nat) (f : ConvCal → ConvCal) : (s.modCal n f).pts = s.pts := rfl
@[simp] theorem modCal_pair (s : State) (n : Nat) (f : ConvCal → ConvCal) : (s.modCal n f).pair = s.pair := rfl
@[simp] theorem modCal_tk (s : State) (n : Nat) (f : ConvCal → ConvCal) : (s.modCal n f).tk = s.tk := rfl
@[simp] theorem modCal_ret (s : State) (n : Nat) (f : ConvCal → ConvCal) : (s.modCal n f).ret = s.ret := rfl
@[simp] theorem modCal_ph (s : State) (n : Nat) (f : ConvCal → ConvCal) : (s.modCal n f).ph = s.ph := rfl
@[simp] theorem modCal_loop (s : State) (n : Nat) (f : ConvCal → ConvCal) : (s.modCal n f).loop = s.loop := rfl
@[simp] theorem modCal_al (s : State) (n : Nat) (f : ConvCal → ConvCal) : (s.modCal n f).al = s.al := rfl
@[simp] theorem modCal_lk (s : State) (n : Nat) (f : ConvCal → ConvCal) : (s.modCal n f).lk = s.lk := rfl
@[simp] theorem modCal_annex (s : State) (n : Nat) (f : ConvCal → ConvCal) : (s.modCal n f).annex = s.annex := rfl
@[simp] theorem modCal_prot (s : State) (n : Nat) (f : ConvCal → ConvCal) : (s.modCal n f).prot = s.prot := rfl
@[simp] theorem modCal_ao (s : State) (n : Nat) (f : ConvCal → ConvCal) : (s.modCal n f).ao = s.ao := rfl
@[simp] theorem modCal_dio (s : State) (n : Nat) (f : ConvCal → ConvCal) : (s.modCal n f).dio = s.dio := rfl
@[simp] theorem modCal_net (s : State) (n : Nat) (f : ConvCal → ConvCal) : (s.modCal n f).net = s.net := rfl
@[simp] theorem modCal_can (s : State) (n : Nat) (f : ConvCal → ConvCal) : (s.modCal n f).can = s.can := rfl
@[simp] theorem modCal_pnl (s : State) (n : Nat) (f : ConvCal → ConvCal) : (s.modCal n f).pnl = s.pnl := rfl
@[simp] theorem modCal_fw (s : State) (n : Nat) (f : ConvCal → ConvCal) : (s.modCal n f).fw = s.fw := rfl
@[simp] theorem modCal_sup (s : State) (n : Nat) (f : ConvCal → ConvCal) : (s.modCal n f).sup = s.sup := rfl
@[simp] theorem modCal_free (s : State) (n : Nat) (f : ConvCal → ConvCal) : (s.modCal n f).free = s.free := rfl
@[simp] theorem modCal_out (s : State) (n : Nat) (f : ConvCal → ConvCal) : (s.modCal n f).out = s.out := rfl
@[simp] theorem modCal_pending (s : State) (n : Nat) (f : ConvCal → ConvCal) : (s.modCal n f).pending = s.pending := rfl
@[simp] theorem modCal_mode (s : State) (n : Nat) (f : ConvCal → ConvCal) : (s.modCal n f).mode = s.mode := rfl
@[simp] theorem modCal_role (s : State) (n : Nat) (f : ConvCal → ConvCal) : (s.modCal n f).role = s.role := rfl
@[simp] theorem modCal_now (s : State) (n : Nat) (f : ConvCal → ConvCal) : (s.modCal n f).now = s.now := rfl
@[simp] theorem modCal_tick (s : State) (n : Nat) (f : ConvCal → ConvCal) : (s.modCal n f).tick = s.tick := rfl
@[simp] theorem modCal_eff (s : State) (n : Nat) (f : ConvCal → ConvCal) (i : Nat) : (s.modCal n f).eff i = s.eff i := rfl
@[simp] theorem modCal_entry (s : State) (n : Nat) (f : ConvCal → ConvCal) (i j : Nat) : (s.modCal n f).entry i j = s.entry i j := rfl
@[simp] theorem modCal_has (s : State) (n : Nat) (f : ConvCal → ConvCal) (u : OptUnit) : (s.modCal n f).has u = s.has u := rfl
@[simp] theorem modCal_cal_self (s : State) (n : Nat) (f : ConvCal → ConvCal) : (s.modCal n f).cal n = f (s.cal n) := tget_tmod_self _ _ _ _
theorem modCal_cal_ne (s : State) (n : Nat) (f : ConvCal → ConvCal) {k : Nat} (h : k ≠ n) : (s.modCal n f).cal k = s.cal k :=
  tget_tmod_ne _ h _ _ _

/-! ### modAi -/

@[simp] theorem modAi_ident (s : State) (n : Nat) (f : AiChan → AiChan) : (s.modAi n f).ident = s.ident := rfl
@[simp] theorem modAi_clk (s : State) (n : Nat) (f : AiChan → AiChan) : (s.modAi n f).clk = s.clk := rfl
@[simp] theorem modAi_mu (s : State) (n : Nat) (f : AiChan → AiChan) : (s.modAi n f).mu = s.mu := rfl
@[simp] theorem modAi_cfg (s : State) (n : Nat) (f : AiChan → AiChan) : (s.modAi n f).cfg = s.cfg := rfl
@[simp] theorem modAi_mbx (s : State) (n : Nat) (f : AiChan → AiChan) : (s.modAi n f).mbx = s.mbx := rfl
@[simp] theorem modAi_ev (s : State) (n : Nat) (f : AiChan → AiChan) : (s.modAi n f).ev = s.ev := rfl
@[simp] theorem modAi_trend (s : State) (n : Nat) (f : AiChan → AiChan) : (s.modAi n f).trend = s.trend := rfl
@[simp] theorem modAi_arch (s : State) (n : Nat) (f : AiChan → AiChan) : (s.modAi n f).arch = s.arch := rfl
@[simp] theorem modAi_pts (s : State) (n : Nat) (f : AiChan → AiChan) : (s.modAi n f).pts = s.pts := rfl
@[simp] theorem modAi_pair (s : State) (n : Nat) (f : AiChan → AiChan) : (s.modAi n f).pair = s.pair := rfl
@[simp] theorem modAi_tk (s : State) (n : Nat) (f : AiChan → AiChan) : (s.modAi n f).tk = s.tk := rfl
@[simp] theorem modAi_ret (s : State) (n : Nat) (f : AiChan → AiChan) : (s.modAi n f).ret = s.ret := rfl
@[simp] theorem modAi_ph (s : State) (n : Nat) (f : AiChan → AiChan) : (s.modAi n f).ph = s.ph := rfl
@[simp] theorem modAi_loop (s : State) (n : Nat) (f : AiChan → AiChan) : (s.modAi n f).loop = s.loop := rfl
@[simp] theorem modAi_al (s : State) (n : Nat) (f : AiChan → AiChan) : (s.modAi n f).al = s.al := rfl
@[simp] theorem modAi_lk (s : State) (n : Nat) (f : AiChan → AiChan) : (s.modAi n f).lk = s.lk := rfl
@[simp] theorem modAi_annex (s : State) (n : Nat) (f : AiChan → AiChan) : (s.modAi n f).annex = s.annex := rfl
@[simp] theorem modAi_prot (s : State) (n : Nat) (f : AiChan → AiChan) : (s.modAi n f).prot = s.prot := rfl
@[simp] theorem modAi_ao (s : State) (n : Nat) (f : AiChan → AiChan) : (s.modAi n f).ao = s.ao := rfl
@[simp] theorem modAi_dio (s : State) (n : Nat) (f : AiChan → AiChan) : (s.modAi n f).dio = s.dio := rfl
@[simp] theorem modAi_net (s : State) (n : Nat) (f : AiChan → AiChan) : (s.modAi n f).net = s.net := rfl
@[simp] theorem modAi_can (s : State) (n : Nat) (f : AiChan → AiChan) : (s.modAi n f).can = s.can := rfl
@[simp] theorem modAi_pnl (s : State) (n : Nat) (f : AiChan → AiChan) : (s.modAi n f).pnl = s.pnl := rfl
@[simp] theorem modAi_fw (s : State) (n : Nat) (f : AiChan → AiChan) : (s.modAi n f).fw = s.fw := rfl
@[simp] theorem modAi_sup (s : State) (n : Nat) (f : AiChan → AiChan) : (s.modAi n f).sup = s.sup := rfl
@[simp] theorem modAi_free (s : State) (n : Nat) (f : AiChan → AiChan) : (s.modAi n f).free = s.free := rfl
@[simp] theorem modAi_out (s : State) (n : Nat) (f : AiChan → AiChan) : (s.modAi n f).out = s.out := rfl
@[simp] theorem modAi_pending (s : State) (n : Nat) (f : AiChan → AiChan) : (s.modAi n f).pending = s.pending := rfl
@[simp] theorem modAi_mode (s : State) (n : Nat) (f : AiChan → AiChan) : (s.modAi n f).mode = s.mode := rfl
@[simp] theorem modAi_role (s : State) (n : Nat) (f : AiChan → AiChan) : (s.modAi n f).role = s.role := rfl
@[simp] theorem modAi_now (s : State) (n : Nat) (f : AiChan → AiChan) : (s.modAi n f).now = s.now := rfl
@[simp] theorem modAi_tick (s : State) (n : Nat) (f : AiChan → AiChan) : (s.modAi n f).tick = s.tick := rfl
@[simp] theorem modAi_eff (s : State) (n : Nat) (f : AiChan → AiChan) (i : Nat) : (s.modAi n f).eff i = s.eff i := rfl
@[simp] theorem modAi_entry (s : State) (n : Nat) (f : AiChan → AiChan) (i j : Nat) : (s.modAi n f).entry i j = s.entry i j := rfl
@[simp] theorem modAi_has (s : State) (n : Nat) (f : AiChan → AiChan) (u : OptUnit) : (s.modAi n f).has u = s.has u := rfl
@[simp] theorem modAi_aiChan_self (s : State) (n : Nat) (f : AiChan → AiChan) : (s.modAi n f).aiChan n = f (s.aiChan n) := tget_tmod_self _ _ _ _
theorem modAi_aiChan_ne (s : State) (n : Nat) (f : AiChan → AiChan) {k : Nat} (h : k ≠ n) : (s.modAi n f).aiChan k = s.aiChan k :=
  tget_tmod_ne _ h _ _ _

/-! ### modAl -/

@[simp] theorem modAl_ident (s : State) (n : Nat) (f : AlEnt → AlEnt) : (s.modAl n f).ident = s.ident := rfl
@[simp] theorem modAl_clk (s : State) (n : Nat) (f : AlEnt → AlEnt) : (s.modAl n f).clk = s.clk := rfl
@[simp] theorem modAl_mu (s : State) (n : Nat) (f : AlEnt → AlEnt) : (s.modAl n f).mu = s.mu := rfl
@[simp] theorem modAl_cfg (s : State) (n : Nat) (f : AlEnt → AlEnt) : (s.modAl n f).cfg = s.cfg := rfl
@[simp] theorem modAl_mbx (s : State) (n : Nat) (f : AlEnt → AlEnt) : (s.modAl n f).mbx = s.mbx := rfl
@[simp] theorem modAl_ev (s : State) (n : Nat) (f : AlEnt → AlEnt) : (s.modAl n f).ev = s.ev := rfl
@[simp] theorem modAl_trend (s : State) (n : Nat) (f : AlEnt → AlEnt) : (s.modAl n f).trend = s.trend := rfl
@[simp] theorem modAl_arch (s : State) (n : Nat) (f : AlEnt → AlEnt) : (s.modAl n f).arch = s.arch := rfl
@[simp] theorem modAl_pts (s : State) (n : Nat) (f : AlEnt → AlEnt) : (s.modAl n f).pts = s.pts := rfl
@[simp] theorem modAl_pair (s : State) (n : Nat) (f : AlEnt → AlEnt) : (s.modAl n f).pair = s.pair := rfl
@[simp] theorem modAl_tk (s : State) (n : Nat) (f : AlEnt → AlEnt) : (s.modAl n f).tk = s.tk := rfl
@[simp] theorem modAl_ret (s : State) (n : Nat) (f : AlEnt → AlEnt) : (s.modAl n f).ret = s.ret := rfl
@[simp] theorem modAl_ph (s : State) (n : Nat) (f : AlEnt → AlEnt) : (s.modAl n f).ph = s.ph := rfl
@[simp] theorem modAl_loop (s : State) (n : Nat) (f : AlEnt → AlEnt) : (s.modAl n f).loop = s.loop := rfl
@[simp] theorem modAl_lk (s : State) (n : Nat) (f : AlEnt → AlEnt) : (s.modAl n f).lk = s.lk := rfl
@[simp] theorem modAl_annex (s : State) (n : Nat) (f : AlEnt → AlEnt) : (s.modAl n f).annex = s.annex := rfl
@[simp] theorem modAl_prot (s : State) (n : Nat) (f : AlEnt → AlEnt) : (s.modAl n f).prot = s.prot := rfl
@[simp] theorem modAl_ai (s : State) (n : Nat) (f : AlEnt → AlEnt) : (s.modAl n f).ai = s.ai := rfl
@[simp] theorem modAl_ao (s : State) (n : Nat) (f : AlEnt → AlEnt) : (s.modAl n f).ao = s.ao := rfl
@[simp] theorem modAl_dio (s : State) (n : Nat) (f : AlEnt → AlEnt) : (s.modAl n f).dio = s.dio := rfl
@[simp] theorem modAl_net (s : State) (n : Nat) (f : AlEnt → AlEnt) : (s.modAl n f).net = s.net := rfl
@[simp] theorem modAl_can (s : State) (n : Nat) (f : AlEnt → AlEnt) : (s.modAl n f).can = s.can := rfl
@[simp] theorem modAl_pnl (s : State) (n : Nat) (f : AlEnt → AlEnt) : (s.modAl n f).pnl = s.pnl := rfl
@[simp] theorem modAl_fw (s : State) (n : Nat) (f : AlEnt → AlEnt) : (s.modAl n f).fw = s.fw := rfl
@[simp] theorem modAl_sup (s : State) (n : Nat) (f : AlEnt → AlEnt) : (s.modAl n f).sup = s.sup := rfl
@[simp] theorem modAl_free (s : State) (n : Nat) (f : AlEnt → AlEnt) : (s.modAl n f).free = s.free := rfl
@[simp] theorem modAl_out (s : State) (n : Nat) (f : AlEnt → AlEnt) : (s.modAl n f).out = s.out := rfl
@[simp] theorem modAl_pending (s : State) (n : Nat) (f : AlEnt → AlEnt) : (s.modAl n f).pending = s.pending := rfl
@[simp] theorem modAl_mode (s : State) (n : Nat) (f : AlEnt → AlEnt) : (s.modAl n f).mode = s.mode := rfl
@[simp] theorem modAl_role (s : State) (n : Nat) (f : AlEnt → AlEnt) : (s.modAl n f).role = s.role := rfl
@[simp] theorem modAl_now (s : State) (n : Nat) (f : AlEnt → AlEnt) : (s.modAl n f).now = s.now := rfl
@[simp] theorem modAl_tick (s : State) (n : Nat) (f : AlEnt → AlEnt) : (s.modAl n f).tick = s.tick := rfl
@[simp] theorem modAl_eff (s : State) (n : Nat) (f : AlEnt → AlEnt) (i : Nat) : (s.modAl n f).eff i = s.eff i := rfl
@[simp] theorem modAl_entry (s : State) (n : Nat) (f : AlEnt → AlEnt) (i j : Nat) : (s.modAl n f).entry i j = s.entry i j := rfl
@[simp] theorem modAl_has (s : State) (n : Nat) (f : AlEnt → AlEnt) (u : OptUnit) : (s.modAl n f).has u = s.has u := rfl
@[simp] theorem modAl_alEnt_self (s : State) (n : Nat) (f : AlEnt → AlEnt) : (s.modAl n f).alEnt n = f (s.alEnt n) := tget_tmod_self _ _ _ _
theorem modAl_alEnt_ne (s : State) (n : Nat) (f : AlEnt → AlEnt) {k : Nat} (h : k ≠ n) : (s.modAl n f).alEnt k = s.alEnt k :=
  tget_tmod_ne _ h _ _ _

/-! ### modGrp -/

@[simp] theorem modGrp_ident (s : State) (n : Nat) (f : AlGrp → AlGrp) : (s.modGrp n f).ident = s.ident := rfl
@[simp] theorem modGrp_clk (s : State) (n : Nat) (f : AlGrp → AlGrp) : (s.modGrp n f).clk = s.clk := rfl
@[simp] theorem modGrp_mu (s : State) (n : Nat) (f : AlGrp → AlGrp) : (s.modGrp n f).mu = s.mu := rfl
@[simp] theorem modGrp_cfg (s : State) (n : Nat) (f : AlGrp → AlGrp) : (s.modGrp n f).cfg = s.cfg := rfl
@[simp] theorem modGrp_mbx (s : State) (n : Nat) (f : AlGrp → AlGrp) : (s.modGrp n f).mbx = s.mbx := rfl
@[simp] theorem modGrp_ev (s : State) (n : Nat) (f : AlGrp → AlGrp) : (s.modGrp n f).ev = s.ev := rfl
@[simp] theorem modGrp_trend (s : State) (n : Nat) (f : AlGrp → AlGrp) : (s.modGrp n f).trend = s.trend := rfl
@[simp] theorem modGrp_arch (s : State) (n : Nat) (f : AlGrp → AlGrp) : (s.modGrp n f).arch = s.arch := rfl
@[simp] theorem modGrp_pts (s : State) (n : Nat) (f : AlGrp → AlGrp) : (s.modGrp n f).pts = s.pts := rfl
@[simp] theorem modGrp_pair (s : State) (n : Nat) (f : AlGrp → AlGrp) : (s.modGrp n f).pair = s.pair := rfl
@[simp] theorem modGrp_tk (s : State) (n : Nat) (f : AlGrp → AlGrp) : (s.modGrp n f).tk = s.tk := rfl
@[simp] theorem modGrp_ret (s : State) (n : Nat) (f : AlGrp → AlGrp) : (s.modGrp n f).ret = s.ret := rfl
@[simp] theorem modGrp_ph (s : State) (n : Nat) (f : AlGrp → AlGrp) : (s.modGrp n f).ph = s.ph := rfl
@[simp] theorem modGrp_loop (s : State) (n : Nat) (f : AlGrp → AlGrp) : (s.modGrp n f).loop = s.loop := rfl
@[simp] theorem modGrp_lk (s : State) (n : Nat) (f : AlGrp → AlGrp) : (s.modGrp n f).lk = s.lk := rfl
@[simp] theorem modGrp_annex (s : State) (n : Nat) (f : AlGrp → AlGrp) : (s.modGrp n f).annex = s.annex := rfl
@[simp] theorem modGrp_prot (s : State) (n : Nat) (f : AlGrp → AlGrp) : (s.modGrp n f).prot = s.prot := rfl
@[simp] theorem modGrp_ai (s : State) (n : Nat) (f : AlGrp → AlGrp) : (s.modGrp n f).ai = s.ai := rfl
@[simp] theorem modGrp_ao (s : State) (n : Nat) (f : AlGrp → AlGrp) : (s.modGrp n f).ao = s.ao := rfl
@[simp] theorem modGrp_dio (s : State) (n : Nat) (f : AlGrp → AlGrp) : (s.modGrp n f).dio = s.dio := rfl
@[simp] theorem modGrp_net (s : State) (n : Nat) (f : AlGrp → AlGrp) : (s.modGrp n f).net = s.net := rfl
@[simp] theorem modGrp_can (s : State) (n : Nat) (f : AlGrp → AlGrp) : (s.modGrp n f).can = s.can := rfl
@[simp] theorem modGrp_pnl (s : State) (n : Nat) (f : AlGrp → AlGrp) : (s.modGrp n f).pnl = s.pnl := rfl
@[simp] theorem modGrp_fw (s : State) (n : Nat) (f : AlGrp → AlGrp) : (s.modGrp n f).fw = s.fw := rfl
@[simp] theorem modGrp_sup (s : State) (n : Nat) (f : AlGrp → AlGrp) : (s.modGrp n f).sup = s.sup := rfl
@[simp] theorem modGrp_free (s : State) (n : Nat) (f : AlGrp → AlGrp) : (s.modGrp n f).free = s.free := rfl
@[simp] theorem modGrp_out (s : State) (n : Nat) (f : AlGrp → AlGrp) : (s.modGrp n f).out = s.out := rfl
@[simp] theorem modGrp_pending (s : State) (n : Nat) (f : AlGrp → AlGrp) : (s.modGrp n f).pending = s.pending := rfl
@[simp] theorem modGrp_mode (s : State) (n : Nat) (f : AlGrp → AlGrp) : (s.modGrp n f).mode = s.mode := rfl
@[simp] theorem modGrp_role (s : State) (n : Nat) (f : AlGrp → AlGrp) : (s.modGrp n f).role = s.role := rfl
@[simp] theorem modGrp_now (s : State) (n : Nat) (f : AlGrp → AlGrp) : (s.modGrp n f).now = s.now := rfl
@[simp] theorem modGrp_tick (s : State) (n : Nat) (f : AlGrp → AlGrp) : (s.modGrp n f).tick = s.tick := rfl
@[simp] theorem modGrp_eff (s : State) (n : Nat) (f : AlGrp → AlGrp) (i : Nat) : (s.modGrp n f).eff i = s.eff i := rfl
@[simp] theorem modGrp_entry (s : State) (n : Nat) (f : AlGrp → AlGrp) (i j : Nat) : (s.modGrp n f).entry i j = s.entry i j := rfl
@[simp] theorem modGrp_has (s : State) (n : Nat) (f : AlGrp → AlGrp) (u : OptUnit) : (s.modGrp n f).has u = s.has u := rfl

/-! ### modRes -/

@[simp] theorem modRes_ident (s : State) (n : Nat) (f : ResCount → ResCount) : (s.modRes n f).ident = s.ident := rfl
@[simp] theorem modRes_clk (s : State) (n : Nat) (f : ResCount → ResCount) : (s.modRes n f).clk = s.clk := rfl
@[simp] theorem modRes_mu (s : State) (n : Nat) (f : ResCount → ResCount) : (s.modRes n f).mu = s.mu := rfl
@[simp] theorem modRes_cfg (s : State) (n : Nat) (f : ResCount → ResCount) : (s.modRes n f).cfg = s.cfg := rfl
@[simp] theorem modRes_mbx (s : State) (n : Nat) (f : ResCount → ResCount) : (s.modRes n f).mbx = s.mbx := rfl
@[simp] theorem modRes_ev (s : State) (n : Nat) (f : ResCount → ResCount) : (s.modRes n f).ev = s.ev := rfl
@[simp] theorem modRes_trend (s : State) (n : Nat) (f : ResCount → ResCount) : (s.modRes n f).trend = s.trend := rfl
@[simp] theorem modRes_arch (s : State) (n : Nat) (f : ResCount → ResCount) : (s.modRes n f).arch = s.arch := rfl
@[simp] theorem modRes_pts (s : State) (n : Nat) (f : ResCount → ResCount) : (s.modRes n f).pts = s.pts := rfl
@[simp] theorem modRes_pair (s : State) (n : Nat) (f : ResCount → ResCount) : (s.modRes n f).pair = s.pair := rfl
@[simp] theorem modRes_tk (s : State) (n : Nat) (f : ResCount → ResCount) : (s.modRes n f).tk = s.tk := rfl
@[simp] theorem modRes_ret (s : State) (n : Nat) (f : ResCount → ResCount) : (s.modRes n f).ret = s.ret := rfl
@[simp] theorem modRes_ph (s : State) (n : Nat) (f : ResCount → ResCount) : (s.modRes n f).ph = s.ph := rfl
@[simp] theorem modRes_loop (s : State) (n : Nat) (f : ResCount → ResCount) : (s.modRes n f).loop = s.loop := rfl
@[simp] theorem modRes_al (s : State) (n : Nat) (f : ResCount → ResCount) : (s.modRes n f).al = s.al := rfl
@[simp] theorem modRes_lk (s : State) (n : Nat) (f : ResCount → ResCount) : (s.modRes n f).lk = s.lk := rfl
@[simp] theorem modRes_prot (s : State) (n : Nat) (f : ResCount → ResCount) : (s.modRes n f).prot = s.prot := rfl
@[simp] theorem modRes_ai (s : State) (n : Nat) (f : ResCount → ResCount) : (s.modRes n f).ai = s.ai := rfl
@[simp] theorem modRes_ao (s : State) (n : Nat) (f : ResCount → ResCount) : (s.modRes n f).ao = s.ao := rfl
@[simp] theorem modRes_dio (s : State) (n : Nat) (f : ResCount → ResCount) : (s.modRes n f).dio = s.dio := rfl
@[simp] theorem modRes_net (s : State) (n : Nat) (f : ResCount → ResCount) : (s.modRes n f).net = s.net := rfl
@[simp] theorem modRes_can (s : State) (n : Nat) (f : ResCount → ResCount) : (s.modRes n f).can = s.can := rfl
@[simp] theorem modRes_pnl (s : State) (n : Nat) (f : ResCount → ResCount) : (s.modRes n f).pnl = s.pnl := rfl
@[simp] theorem modRes_fw (s : State) (n : Nat) (f : ResCount → ResCount) : (s.modRes n f).fw = s.fw := rfl
@[simp] theorem modRes_sup (s : State) (n : Nat) (f : ResCount → ResCount) : (s.modRes n f).sup = s.sup := rfl
@[simp] theorem modRes_free (s : State) (n : Nat) (f : ResCount → ResCount) : (s.modRes n f).free = s.free := rfl
@[simp] theorem modRes_out (s : State) (n : Nat) (f : ResCount → ResCount) : (s.modRes n f).out = s.out := rfl
@[simp] theorem modRes_pending (s : State) (n : Nat) (f : ResCount → ResCount) : (s.modRes n f).pending = s.pending := rfl
@[simp] theorem modRes_mode (s : State) (n : Nat) (f : ResCount → ResCount) : (s.modRes n f).mode = s.mode := rfl
@[simp] theorem modRes_role (s : State) (n : Nat) (f : ResCount → ResCount) : (s.modRes n f).role = s.role := rfl
@[simp] theorem modRes_now (s : State) (n : Nat) (f : ResCount → ResCount) : (s.modRes n f).now = s.now := rfl
@[simp] theorem modRes_tick (s : State) (n : Nat) (f : ResCount → ResCount) : (s.modRes n f).tick = s.tick := rfl
@[simp] theorem modRes_eff (s : State) (n : Nat) (f : ResCount → ResCount) (i : Nat) : (s.modRes n f).eff i = s.eff i := rfl
@[simp] theorem modRes_entry (s : State) (n : Nat) (f : ResCount → ResCount) (i j : Nat) : (s.modRes n f).entry i j = s.entry i j := rfl
@[simp] theorem modRes_has (s : State) (n : Nat) (f : ResCount → ResCount) (u : OptUnit) : (s.modRes n f).has u = s.has u := rfl

/-! ### modModem -/

@[simp] theorem modModem_ident (s : State) (n : Nat) (f : Modem → Modem) : (s.modModem n f).ident = s.ident := rfl
@[simp] theorem modModem_clk (s : State) (n : Nat) (f : Modem → Modem) : (s.modModem n f).clk = s.clk := rfl
@[simp] theorem modModem_mu (s : State) (n : Nat) (f : Modem → Modem) : (s.modModem n f).mu = s.mu := rfl
@[simp] theorem modModem_cfg (s : State) (n : Nat) (f : Modem → Modem) : (s.modModem n f).cfg = s.cfg := rfl
@[simp] theorem modModem_mbx (s : State) (n : Nat) (f : Modem → Modem) : (s.modModem n f).mbx = s.mbx := rfl
@[simp] theorem modModem_ev (s : State) (n : Nat) (f : Modem → Modem) : (s.modModem n f).ev = s.ev := rfl
@[simp] theorem modModem_trend (s : State) (n : Nat) (f : Modem → Modem) : (s.modModem n f).trend = s.trend := rfl
@[simp] theorem modModem_arch (s : State) (n : Nat) (f : Modem → Modem) : (s.modModem n f).arch = s.arch := rfl
@[simp] theorem modModem_pts (s : State) (n : Nat) (f : Modem → Modem) : (s.modModem n f).pts = s.pts := rfl
@[simp] theorem modModem_pair (s : State) (n : Nat) (f : Modem → Modem) : (s.modModem n f).pair = s.pair := rfl
@[simp] theorem modModem_tk (s : State) (n : Nat) (f : Modem → Modem) : (s.modModem n f).tk = s.tk := rfl
@[simp] theorem modModem_ret (s : State) (n : Nat) (f : Modem → Modem) : (s.modModem n f).ret = s.ret := rfl
@[simp] theorem modModem_ph (s : State) (n : Nat) (f : Modem → Modem) : (s.modModem n f).ph = s.ph := rfl
@[simp] theorem modModem_loop (s : State) (n : Nat) (f : Modem → Modem) : (s.modModem n f).loop = s.loop := rfl
@[simp] theorem modModem_al (s : State) (n : Nat) (f : Modem → Modem) : (s.modModem n f).al = s.al := rfl
@[simp] theorem modModem_lk (s : State) (n : Nat) (f : Modem → Modem) : (s.modModem n f).lk = s.lk := rfl
@[simp] theorem modModem_annex (s : State) (n : Nat) (f : Modem → Modem) : (s.modModem n f).annex = s.annex := rfl
@[simp] theorem modModem_prot (s : State) (n : Nat) (f : Modem → Modem) : (s.modModem n f).prot = s.prot := rfl
@[simp] theorem modModem_ai (s : State) (n : Nat) (f : Modem → Modem) : (s.modModem n f).ai = s.ai := rfl
@[simp] theorem modModem_dio (s : State) (n : Nat) (f : Modem → Modem) : (s.modModem n f).dio = s.dio := rfl
@[simp] theorem modModem_net (s : State) (n : Nat) (f : Modem → Modem) : (s.modModem n f).net = s.net := rfl
@[simp] theorem modModem_can (s : State) (n : Nat) (f : Modem → Modem) : (s.modModem n f).can = s.can := rfl
@[simp] theorem modModem_pnl (s : State) (n : Nat) (f : Modem → Modem) : (s.modModem n f).pnl = s.pnl := rfl
@[simp] theorem modModem_fw (s : State) (n : Nat) (f : Modem → Modem) : (s.modModem n f).fw = s.fw := rfl
@[simp] theorem modModem_sup (s : State) (n : Nat) (f : Modem → Modem) : (s.modModem n f).sup = s.sup := rfl
@[simp] theorem modModem_free (s : State) (n : Nat) (f : Modem → Modem) : (s.modModem n f).free = s.free := rfl
@[simp] theorem modModem_out (s : State) (n : Nat) (f : Modem → Modem) : (s.modModem n f).out = s.out := rfl
@[simp] theorem modModem_pending (s : State) (n : Nat) (f : Modem → Modem) : (s.modModem n f).pending = s.pending := rfl
@[simp] theorem modModem_mode (s : State) (n : Nat) (f : Modem → Modem) : (s.modModem n f).mode = s.mode := rfl
@[simp] theorem modModem_role (s : State) (n : Nat) (f : Modem → Modem) : (s.modModem n f).role = s.role := rfl
@[simp] theorem modModem_now (s : State) (n : Nat) (f : Modem → Modem) : (s.modModem n f).now = s.now := rfl
@[simp] theorem modModem_tick (s : State) (n : Nat) (f : Modem → Modem) : (s.modModem n f).tick = s.tick := rfl
@[simp] theorem modModem_eff (s : State) (n : Nat) (f : Modem → Modem) (i : Nat) : (s.modModem n f).eff i = s.eff i := rfl
@[simp] theorem modModem_entry (s : State) (n : Nat) (f : Modem → Modem) (i j : Nat) : (s.modModem n f).entry i j = s.entry i j := rfl
@[simp] theorem modModem_has (s : State) (n : Nat) (f : Modem → Modem) (u : OptUnit) : (s.modModem n f).has u = s.has u := rfl
@[simp] theorem modModem_modem_self (s : State) (n : Nat) (f : Modem → Modem) : (s.modModem n f).modem n = f (s.modem n) := tget_tmod_self _ _ _ _
theorem modModem_modem_ne (s : State) (n : Nat) (f : Modem → Modem) {k : Nat} (h : k ≠ n) : (s.modModem n f).modem k = s.modem k :=
  tget_tmod_ne _ h _ _ _

/-! ### modAo -/

@[simp] theorem modAo_ident (s : State) (n : Nat) (f : AoChan → AoChan) : (s.modAo n f).ident = s.ident := rfl
@[simp] theorem modAo_clk (s : State) (n : Nat) (f : AoChan → AoChan) : (s.modAo n f).clk = s.clk := rfl
@[simp] theorem modAo_mu (s : State) (n : Nat) (f : AoChan → AoChan) : (s.modAo n f).mu = s.mu := rfl
@[simp] theorem modAo_cfg (s : State) (n : Nat) (f : AoChan → AoChan) : (s.modAo n f).cfg = s.cfg := rfl
@[simp] theorem modAo_mbx (s : State) (n : Nat) (f : AoChan → AoChan) : (s.modAo n f).mbx = s.mbx := rfl
@[simp] theorem modAo_ev (s : State) (n : Nat) (f : AoChan → AoChan) : (s.modAo n f).ev = s.ev := rfl
@[simp] theorem modAo_trend (s : State) (n : Nat) (f : AoChan → AoChan) : (s.modAo n f).trend = s.trend := rfl
@[simp] theorem modAo_arch (s : State) (n : Nat) (f : AoChan → AoChan) : (s.modAo n f).arch = s.arch := rfl
@[simp] theorem modAo_pts (s : State) (n : Nat) (f : AoChan → AoChan) : (s.modAo n f).pts = s.pts := rfl
@[simp] theorem modAo_pair (s : State) (n : Nat) (f : AoChan → AoChan) : (s.modAo n f).pair = s.pair := rfl
@[simp] theorem modAo_tk (s : State) (n : Nat) (f : AoChan → AoChan) : (s.modAo n f).tk = s.tk := rfl
@[simp] theorem modAo_ret (s : State) (n : Nat) (f : AoChan → AoChan) : (s.modAo n f).ret = s.ret := rfl
@[simp] theorem modAo_ph (s : State) (n : Nat) (f : AoChan → AoChan) : (s.modAo n f).ph = s.ph := rfl
@[simp] theorem modAo_loop (s : State) (n : Nat) (f : AoChan → AoChan) : (s.modAo n f).loop = s.loop := rfl
@[simp] theorem modAo_al (s : State) (n : Nat) (f : AoChan → AoChan) : (s.modAo n f).al = s.al := rfl
@[simp] theorem modAo_lk (s : State) (n : Nat) (f : AoChan → AoChan) : (s.modAo n f).lk = s.lk := rfl
@[simp] theorem modAo_annex (s : State) (n : Nat) (f : AoChan → AoChan) : (s.modAo n f).annex = s.annex := rfl
@[simp] theorem modAo_prot (s : State) (n : Nat) (f : AoChan → AoChan) : (s.modAo n f).prot = s.prot := rfl
@[simp] theorem modAo_ai (s : State) (n : Nat) (f : AoChan → AoChan) : (s.modAo n f).ai = s.ai := rfl
@[simp] theorem modAo_dio (s : State) (n : Nat) (f : AoChan → AoChan) : (s.modAo n f).dio = s.dio := rfl
@[simp] theorem modAo_net (s : State) (n : Nat) (f : AoChan → AoChan) : (s.modAo n f).net = s.net := rfl
@[simp] theorem modAo_can (s : State) (n : Nat) (f : AoChan → AoChan) : (s.modAo n f).can = s.can := rfl
@[simp] theorem modAo_pnl (s : State) (n : Nat) (f : AoChan → AoChan) : (s.modAo n f).pnl = s.pnl := rfl
@[simp] theorem modAo_fw (s : State) (n : Nat) (f : AoChan → AoChan) : (s.modAo n f).fw = s.fw := rfl
@[simp] theorem modAo_sup (s : State) (n : Nat) (f : AoChan → AoChan) : (s.modAo n f).sup = s.sup := rfl
@[simp] theorem modAo_free (s : State) (n : Nat) (f : AoChan → AoChan) : (s.modAo n f).free = s.free := rfl
@[simp] theorem modAo_out (s : State) (n : Nat) (f : AoChan → AoChan) : (s.modAo n f).out = s.out := rfl
@[simp] theorem modAo_pending (s : State) (n : Nat) (f : AoChan → AoChan) : (s.modAo n f).pending = s.pending := rfl
@[simp] theorem modAo_mode (s : State) (n : Nat) (f : AoChan → AoChan) : (s.modAo n f).mode = s.mode := rfl
@[simp] theorem modAo_role (s : State) (n : Nat) (f : AoChan → AoChan) : (s.modAo n f).role = s.role := rfl
@[simp] theorem modAo_now (s : State) (n : Nat) (f : AoChan → AoChan) : (s.modAo n f).now = s.now := rfl
@[simp] theorem modAo_tick (s : State) (n : Nat) (f : AoChan → AoChan) : (s.modAo n f).tick = s.tick := rfl
@[simp] theorem modAo_eff (s : State) (n : Nat) (f : AoChan → AoChan) (i : Nat) : (s.modAo n f).eff i = s.eff i := rfl
@[simp] theorem modAo_entry (s : State) (n : Nat) (f : AoChan → AoChan) (i j : Nat) : (s.modAo n f).entry i j = s.entry i j := rfl
@[simp] theorem modAo_has (s : State) (n : Nat) (f : AoChan → AoChan) (u : OptUnit) : (s.modAo n f).has u = s.has u := rfl
@[simp] theorem modAo_aoChan_self (s : State) (n : Nat) (f : AoChan → AoChan) : (s.modAo n f).aoChan n = f (s.aoChan n) := tget_tmod_self _ _ _ _
theorem modAo_aoChan_ne (s : State) (n : Nat) (f : AoChan → AoChan) {k : Nat} (h : k ≠ n) : (s.modAo n f).aoChan k = s.aoChan k :=
  tget_tmod_ne _ h _ _ _

/-! ### modCan -/

@[simp] theorem modCan_ident (s : State) (n : Nat) (f : CanCh → CanCh) : (s.modCan n f).ident = s.ident := rfl
@[simp] theorem modCan_clk (s : State) (n : Nat) (f : CanCh → CanCh) : (s.modCan n f).clk = s.clk := rfl
@[simp] theorem modCan_mu (s : State) (n : Nat) (f : CanCh → CanCh) : (s.modCan n f).mu = s.mu := rfl
@[simp] theorem modCan_cfg (s : State) (n : Nat) (f : CanCh → CanCh) : (s.modCan n f).cfg = s.cfg := rfl
@[simp] theorem modCan_mbx (s : State) (n : Nat) (f : CanCh → CanCh) : (s.modCan n f).mbx = s.mbx := rfl
@[simp] theorem modCan_ev (s : State) (n : Nat) (f : CanCh → CanCh) : (s.modCan n f).ev = s.ev := rfl
@[simp] theorem modCan_trend (s : State) (n : Nat) (f : CanCh → CanCh) : (s.modCan n f).trend = s.trend := rfl
@[simp] theorem modCan_arch (s : State) (n : Nat) (f : CanCh → CanCh) : (s.modCan n f).arch = s.arch := rfl
@[simp] theorem modCan_pts (s : State) (n : Nat) (f : CanCh → CanCh) : (s.modCan n f).pts = s.pts := rfl
@[simp] theorem modCan_pair (s : State) (n : Nat) (f : CanCh → CanCh) : (s.modCan n f).pair = s.pair := rfl
@[simp] theorem modCan_tk (s : State) (n : Nat) (f : CanCh → CanCh) : (s.modCan n f).tk = s.tk := rfl
@[simp] theorem modCan_ret (s : State) (n : Nat) (f : CanCh → CanCh) : (s.modCan n f).ret = s.ret := rfl
@[simp] theorem modCan_ph (s : State) (n : Nat) (f : CanCh → CanCh) : (s.modCan n f).ph = s.ph := rfl
@[simp] theorem modCan_loop (s : State) (n : Nat) (f : CanCh → CanCh) : (s.modCan n f).loop = s.loop := rfl
@[simp] theorem modCan_al (s : State) (n : Nat) (f : CanCh → CanCh) : (s.modCan n f).al = s.al := rfl
@[simp] theorem modCan_lk (s : State) (n : Nat) (f : CanCh → CanCh) : (s.modCan n f).lk = s.lk := rfl
@[simp] theorem modCan_annex (s : State) (n : Nat) (f : CanCh → CanCh) : (s.modCan n f).annex = s.annex := rfl
@[simp] theorem modCan_prot (s : State) (n : Nat) (f : CanCh → CanCh) : (s.modCan n f).prot = s.prot := rfl
@[simp] theorem modCan_ai (s : State) (n : Nat) (f : CanCh → CanCh) : (s.modCan n f).ai = s.ai := rfl
@[simp] theorem modCan_ao (s : State) (n : Nat) (f : CanCh → CanCh) : (s.modCan n f).ao = s.ao := rfl
@[simp] theorem modCan_dio (s : State) (n : Nat) (f : CanCh → CanCh) : (s.modCan n f).dio = s.dio := rfl
@[simp] theorem modCan_net (s : State) (n : Nat) (f : CanCh → CanCh) : (s.modCan n f).net = s.net := rfl
@[simp] theorem modCan_pnl (s : State) (n : Nat) (f : CanCh → CanCh) : (s.modCan n f).pnl = s.pnl := rfl
@[simp] theorem modCan_fw (s : State) (n : Nat) (f : CanCh → CanCh) : (s.modCan n f).fw = s.fw := rfl
@[simp] theorem modCan_sup (s : State) (n : Nat) (f : CanCh → CanCh) : (s.modCan n f).sup = s.sup := rfl
@[simp] theorem modCan_free (s : State) (n : Nat) (f : CanCh → CanCh) : (s.modCan n f).free = s.free := rfl
@[simp] theorem modCan_out (s : State) (n : Nat) (f : CanCh → CanCh) : (s.modCan n f).out = s.out := rfl
@[simp] theorem modCan_pending (s : State) (n : Nat) (f : CanCh → CanCh) : (s.modCan n f).pending = s.pending := rfl
@[simp] theorem modCan_mode (s : State) (n : Nat) (f : CanCh → CanCh) : (s.modCan n f).mode = s.mode := rfl
@[simp] theorem modCan_role (s : State) (n : Nat) (f : CanCh → CanCh) : (s.modCan n f).role = s.role := rfl
@[simp] theorem modCan_now (s : State) (n : Nat) (f : CanCh → CanCh) : (s.modCan n f).now = s.now := rfl
@[simp] theorem modCan_tick (s : State) (n : Nat) (f : CanCh → CanCh) : (s.modCan n f).tick = s.tick := rfl
@[simp] theorem modCan_eff (s : State) (n : Nat) (f : CanCh → CanCh) (i : Nat) : (s.modCan n f).eff i = s.eff i := rfl
@[simp] theorem modCan_entry (s : State) (n : Nat) (f : CanCh → CanCh) (i j : Nat) : (s.modCan n f).entry i j = s.entry i j := rfl
@[simp] theorem modCan_has (s : State) (n : Nat) (f : CanCh → CanCh) (u : OptUnit) : (s.modCan n f).has u = s.has u := rfl
@[simp] theorem modCan_canCh_self (s : State) (n : Nat) (f : CanCh → CanCh) : (s.modCan n f).canCh n = f (s.canCh n) := tget_tmod_self _ _ _ _
theorem modCan_canCh_ne (s : State) (n : Nat) (f : CanCh → CanCh) {k : Nat} (h : k ≠ n) : (s.modCan n f).canCh k = s.canCh k :=
  tget_tmod_ne _ h _ _ _

/-! ### modPort -/

@[simp] theorem modPort_ident (s : State) (n : Nat) (f : Port → Port) : (s.modPort n f).ident = s.ident := rfl
@[simp] theorem modPort_clk (s : State) (n : Nat) (f : Port → Port) : (s.modPort n f).clk = s.clk := rfl
@[simp] theorem modPort_mu (s : State) (n : Nat) (f : Port → Port) : (s.modPort n f).mu = s.mu := rfl
@[simp] theorem modPort_cfg (s : State) (n : Nat) (f : Port → Port) : (s.modPort n f).cfg = s.cfg := rfl
@[simp] theorem modPort_mbx (s : State) (n : Nat) (f : Port → Port) : (s.modPort n f).mbx = s.mbx := rfl
@[simp] theorem modPort_ev (s : State) (n : Nat) (f : Port → Port) : (s.modPort n f).ev = s.ev := rfl
@[simp] theorem modPort_trend (s : State) (n : Nat) (f : Port → Port) : (s.modPort n f).trend = s.trend := rfl
@[simp] theorem modPort_arch (s : State) (n : Nat) (f : Port → Port) : (s.modPort n f).arch = s.arch := rfl
@[simp] theorem modPort_pts (s : State) (n : Nat) (f : Port → Port) : (s.modPort n f).pts = s.pts := rfl
@[simp] theorem modPort_pair (s : State) (n : Nat) (f : Port → Port) : (s.modPort n f).pair = s.pair := rfl
@[simp] theorem modPort_tk (s : State) (n : Nat) (f : Port → Port) : (s.modPort n f).tk = s.tk := rfl
@[simp] theorem modPort_ret (s : State) (n : Nat) (f : Port → Port) : (s.modPort n f).ret = s.ret := rfl
@[simp] theorem modPort_ph (s : State) (n : Nat) (f : Port → Port) : (s.modPort n f).ph = s.ph := rfl
@[simp] theorem modPort_loop (s : State) (n : Nat) (f : Port → Port) : (s.modPort n f).loop = s.loop := rfl
@[simp] theorem modPort_al (s : State) (n : Nat) (f : Port → Port) : (s.modPort n f).al = s.al := rfl
@[simp] theorem modPort_lk (s : State) (n : Nat) (f : Port → Port) : (s.modPort n f).lk = s.lk := rfl
@[simp] theorem modPort_annex (s : State) (n : Nat) (f : Port → Port) : (s.modPort n f).annex = s.annex := rfl
@[simp] theorem modPort_prot (s : State) (n : Nat) (f : Port → Port) : (s.modPort n f).prot = s.prot := rfl
@[simp] theorem modPort_ai (s : State) (n : Nat) (f : Port → Port) : (s.modPort n f).ai = s.ai := rfl
@[simp] theorem modPort_ao (s : State) (n : Nat) (f : Port → Port) : (s.modPort n f).ao = s.ao := rfl
@[simp] theorem modPort_dio (s : State) (n : Nat) (f : Port → Port) : (s.modPort n f).dio = s.dio := rfl
@[simp] theorem modPort_can (s : State) (n : Nat) (f : Port → Port) : (s.modPort n f).can = s.can := rfl
@[simp] theorem modPort_pnl (s : State) (n : Nat) (f : Port → Port) : (s.modPort n f).pnl = s.pnl := rfl
@[simp] theorem modPort_fw (s : State) (n : Nat) (f : Port → Port) : (s.modPort n f).fw = s.fw := rfl
@[simp] theorem modPort_sup (s : State) (n : Nat) (f : Port → Port) : (s.modPort n f).sup = s.sup := rfl
@[simp] theorem modPort_free (s : State) (n : Nat) (f : Port → Port) : (s.modPort n f).free = s.free := rfl
@[simp] theorem modPort_out (s : State) (n : Nat) (f : Port → Port) : (s.modPort n f).out = s.out := rfl
@[simp] theorem modPort_pending (s : State) (n : Nat) (f : Port → Port) : (s.modPort n f).pending = s.pending := rfl
@[simp] theorem modPort_mode (s : State) (n : Nat) (f : Port → Port) : (s.modPort n f).mode = s.mode := rfl
@[simp] theorem modPort_role (s : State) (n : Nat) (f : Port → Port) : (s.modPort n f).role = s.role := rfl
@[simp] theorem modPort_now (s : State) (n : Nat) (f : Port → Port) : (s.modPort n f).now = s.now := rfl
@[simp] theorem modPort_tick (s : State) (n : Nat) (f : Port → Port) : (s.modPort n f).tick = s.tick := rfl
@[simp] theorem modPort_eff (s : State) (n : Nat) (f : Port → Port) (i : Nat) : (s.modPort n f).eff i = s.eff i := rfl
@[simp] theorem modPort_entry (s : State) (n : Nat) (f : Port → Port) (i j : Nat) : (s.modPort n f).entry i j = s.entry i j := rfl
@[simp] theorem modPort_has (s : State) (n : Nat) (f : Port → Port) (u : OptUnit) : (s.modPort n f).has u = s.has u := rfl
@[simp] theorem modPort_port_self (s : State) (n : Nat) (f : Port → Port) : (s.modPort n f).port n = f (s.port n) := tget_tmod_self _ _ _ _
theorem modPort_port_ne (s : State) (n : Nat) (f : Port → Port) {k : Nat} (h : k ≠ n) : (s.modPort n f).port k = s.port k :=
  tget_tmod_ne _ h _ _ _

/-! ### modStation -/

@[simp] theorem modStation_ident (s : State) (n : Nat) (f : Station → Station) : (s.modStation n f).ident = s.ident := rfl
@[simp] theorem modStation_clk (s : State) (n : Nat) (f : Station → Station) : (s.modStation n f).clk = s.clk := rfl
@[simp] theorem modStation_mu (s : State) (n : Nat) (f : Station → Station) : (s.modStation n f).mu = s.mu := rfl
@[simp] theorem modStation_cfg (s : State) (n : Nat) (f : Station → Station) : (s.modStation n f).cfg = s.cfg := rfl
@[simp] theorem modStation_mbx (s : State) (n : Nat) (f : Station → Station) : (s.modStation n f).mbx = s.mbx := rfl
@[simp] theorem modStation_ev (s : State) (n : Nat) (f : Station → Station) : (s.modStation n f).ev = s.ev := rfl
@[simp] theorem modStation_trend (s : State) (n : Nat) (f : Station → Station) : (s.modStation n f).trend = s.trend := rfl
@[simp] theorem modStation_arch (s : State) (n : Nat) (f : Station → Station) : (s.modStation n f).arch = s.arch := rfl
@[simp] theorem modStation_pts (s : State) (n : Nat) (f : Station → Station) : (s.modStation n f).pts = s.pts := rfl
@[simp] theorem modStation_pair (s : State) (n : Nat) (f : Station → Station) : (s.modStation n f).pair = s.pair := rfl
@[simp] theorem modStation_tk (s : State) (n : Nat) (f : Station → Station) : (s.modStation n f).tk = s.tk := rfl
@[simp] theorem modStation_ret (s : State) (n : Nat) (f : Station → Station) : (s.modStation n f).ret = s.ret := rfl
@[simp] theorem modStation_ph (s : State) (n : Nat) (f : Station → Station) : (s.modStation n f).ph = s.ph := rfl
@[simp] theorem modStation_loop (s : State) (n : Nat) (f : Station → Station) : (s.modStation n f).loop = s.loop := rfl
@[simp] theorem modStation_al (s : State) (n : Nat) (f : Station → Station) : (s.modStation n f).al = s.al := rfl
@[simp] theorem modStation_lk (s : State) (n : Nat) (f : Station → Station) : (s.modStation n f).lk = s.lk := rfl
@[simp] theorem modStation_annex (s : State) (n : Nat) (f : Station → Station) : (s.modStation n f).annex = s.annex := rfl
@[simp] theorem modStation_prot (s : State) (n : Nat) (f : Station → Station) : (s.modStation n f).prot = s.prot := rfl
@[simp] theorem modStation_ai (s : State) (n : Nat) (f : Station → Station) : (s.modStation n f).ai = s.ai := rfl
@[simp] theorem modStation_ao (s : State) (n : Nat) (f : Station → Station) : (s.modStation n f).ao = s.ao := rfl
@[simp] theorem modStation_dio (s : State) (n : Nat) (f : Station → Station) : (s.modStation n f).dio = s.dio := rfl
@[simp] theorem modStation_can (s : State) (n : Nat) (f : Station → Station) : (s.modStation n f).can = s.can := rfl
@[simp] theorem modStation_pnl (s : State) (n : Nat) (f : Station → Station) : (s.modStation n f).pnl = s.pnl := rfl
@[simp] theorem modStation_fw (s : State) (n : Nat) (f : Station → Station) : (s.modStation n f).fw = s.fw := rfl
@[simp] theorem modStation_sup (s : State) (n : Nat) (f : Station → Station) : (s.modStation n f).sup = s.sup := rfl
@[simp] theorem modStation_free (s : State) (n : Nat) (f : Station → Station) : (s.modStation n f).free = s.free := rfl
@[simp] theorem modStation_out (s : State) (n : Nat) (f : Station → Station) : (s.modStation n f).out = s.out := rfl
@[simp] theorem modStation_pending (s : State) (n : Nat) (f : Station → Station) : (s.modStation n f).pending = s.pending := rfl
@[simp] theorem modStation_mode (s : State) (n : Nat) (f : Station → Station) : (s.modStation n f).mode = s.mode := rfl
@[simp] theorem modStation_role (s : State) (n : Nat) (f : Station → Station) : (s.modStation n f).role = s.role := rfl
@[simp] theorem modStation_now (s : State) (n : Nat) (f : Station → Station) : (s.modStation n f).now = s.now := rfl
@[simp] theorem modStation_tick (s : State) (n : Nat) (f : Station → Station) : (s.modStation n f).tick = s.tick := rfl
@[simp] theorem modStation_eff (s : State) (n : Nat) (f : Station → Station) (i : Nat) : (s.modStation n f).eff i = s.eff i := rfl
@[simp] theorem modStation_entry (s : State) (n : Nat) (f : Station → Station) (i j : Nat) : (s.modStation n f).entry i j = s.entry i j := rfl
@[simp] theorem modStation_has (s : State) (n : Nat) (f : Station → Station) (u : OptUnit) : (s.modStation n f).has u = s.has u := rfl
@[simp] theorem modStation_station_self (s : State) (n : Nat) (f : Station → Station) : (s.modStation n f).station n = f (s.station n) := tget_tmod_self _ _ _ _
theorem modStation_station_ne (s : State) (n : Nat) (f : Station → Station) {k : Nat} (h : k ≠ n) : (s.modStation n f).station k = s.station k :=
  tget_tmod_ne _ h _ _ _

/-! ### modInj -/

@[simp] theorem modInj_ident (s : State) (n : Nat) (f : Inject → Inject) : (s.modInj n f).ident = s.ident := rfl
@[simp] theorem modInj_clk (s : State) (n : Nat) (f : Inject → Inject) : (s.modInj n f).clk = s.clk := rfl
@[simp] theorem modInj_mu (s : State) (n : Nat) (f : Inject → Inject) : (s.modInj n f).mu = s.mu := rfl
@[simp] theorem modInj_cfg (s : State) (n : Nat) (f : Inject → Inject) : (s.modInj n f).cfg = s.cfg := rfl
@[simp] theorem modInj_mbx (s : State) (n : Nat) (f : Inject → Inject) : (s.modInj n f).mbx = s.mbx := rfl
@[simp] theorem modInj_ev (s : State) (n : Nat) (f : Inject → Inject) : (s.modInj n f).ev = s.ev := rfl
@[simp] theorem modInj_trend (s : State) (n : Nat) (f : Inject → Inject) : (s.modInj n f).trend = s.trend := rfl
@[simp] theorem modInj_arch (s : State) (n : Nat) (f : Inject → Inject) : (s.modInj n f).arch = s.arch := rfl
@[simp] theorem modInj_pts (s : State) (n : Nat) (f : Inject → Inject) : (s.modInj n f).pts = s.pts := rfl
@[simp] theorem modInj_pair (s : State) (n : Nat) (f : Inject → Inject) : (s.modInj n f).pair = s.pair := rfl
@[simp] theorem modInj_tk (s : State) (n : Nat) (f : Inject → Inject) : (s.modInj n f).tk = s.tk := rfl
@[simp] theorem modInj_ret (s : State) (n : Nat) (f : Inject → Inject) : (s.modInj n f).ret = s.ret := rfl
@[simp] theorem modInj_ph (s : State) (n : Nat) (f : Inject → Inject) : (s.modInj n f).ph = s.ph := rfl
@[simp] theorem modInj_al (s : State) (n : Nat) (f : Inject → Inject) : (s.modInj n f).al = s.al := rfl
@[simp] theorem modInj_lk (s : State) (n : Nat) (f : Inject → Inject) : (s.modInj n f).lk = s.lk := rfl
@[simp] theorem modInj_annex (s : State) (n : Nat) (f : Inject → Inject) : (s.modInj n f).annex = s.annex := rfl
@[simp] theorem modInj_prot (s : State) (n : Nat) (f : Inject → Inject) : (s.modInj n f).prot = s.prot := rfl
@[simp] theorem modInj_ai (s : State) (n : Nat) (f : Inject → Inject) : (s.modInj n f).ai = s.ai := rfl
@[simp] theorem modInj_ao (s : State) (n : Nat) (f : Inject → Inject) : (s.modInj n f).ao = s.ao := rfl
@[simp] theorem modInj_dio (s : State) (n : Nat) (f : Inject → Inject) : (s.modInj n f).dio = s.dio := rfl
@[simp] theorem modInj_net (s : State) (n : Nat) (f : Inject → Inject) : (s.modInj n f).net = s.net := rfl
@[simp] theorem modInj_can (s : State) (n : Nat) (f : Inject → Inject) : (s.modInj n f).can = s.can := rfl
@[simp] theorem modInj_pnl (s : State) (n : Nat) (f : Inject → Inject) : (s.modInj n f).pnl = s.pnl := rfl
@[simp] theorem modInj_fw (s : State) (n : Nat) (f : Inject → Inject) : (s.modInj n f).fw = s.fw := rfl
@[simp] theorem modInj_sup (s : State) (n : Nat) (f : Inject → Inject) : (s.modInj n f).sup = s.sup := rfl
@[simp] theorem modInj_free (s : State) (n : Nat) (f : Inject → Inject) : (s.modInj n f).free = s.free := rfl
@[simp] theorem modInj_out (s : State) (n : Nat) (f : Inject → Inject) : (s.modInj n f).out = s.out := rfl
@[simp] theorem modInj_pending (s : State) (n : Nat) (f : Inject → Inject) : (s.modInj n f).pending = s.pending := rfl
@[simp] theorem modInj_mode (s : State) (n : Nat) (f : Inject → Inject) : (s.modInj n f).mode = s.mode := rfl
@[simp] theorem modInj_role (s : State) (n : Nat) (f : Inject → Inject) : (s.modInj n f).role = s.role := rfl
@[simp] theorem modInj_now (s : State) (n : Nat) (f : Inject → Inject) : (s.modInj n f).now = s.now := rfl
@[simp] theorem modInj_tick (s : State) (n : Nat) (f : Inject → Inject) : (s.modInj n f).tick = s.tick := rfl
@[simp] theorem modInj_eff (s : State) (n : Nat) (f : Inject → Inject) (i : Nat) : (s.modInj n f).eff i = s.eff i := rfl
@[simp] theorem modInj_entry (s : State) (n : Nat) (f : Inject → Inject) (i j : Nat) : (s.modInj n f).entry i j = s.entry i j := rfl
@[simp] theorem modInj_has (s : State) (n : Nat) (f : Inject → Inject) (u : OptUnit) : (s.modInj n f).has u = s.has u := rfl
@[simp] theorem modInj_injector_self (s : State) (n : Nat) (f : Inject → Inject) : (s.modInj n f).injector n = f (s.injector n) := tget_tmod_self _ _ _ _
theorem modInj_injector_ne (s : State) (n : Nat) (f : Inject → Inject) {k : Nat} (h : k ≠ n) : (s.modInj n f).injector k = s.injector k :=
  tget_tmod_ne _ h _ _ _

/-! ### modCap -/

@[simp] theorem modCap_ident (s : State) (n : Nat) (f : Capture → Capture) : (s.modCap n f).ident = s.ident := rfl
@[simp] theorem modCap_clk (s : State) (n : Nat) (f : Capture → Capture) : (s.modCap n f).clk = s.clk := rfl
@[simp] theorem modCap_mu (s : State) (n : Nat) (f : Capture → Capture) : (s.modCap n f).mu = s.mu := rfl
@[simp] theorem modCap_cfg (s : State) (n : Nat) (f : Capture → Capture) : (s.modCap n f).cfg = s.cfg := rfl
@[simp] theorem modCap_mbx (s : State) (n : Nat) (f : Capture → Capture) : (s.modCap n f).mbx = s.mbx := rfl
@[simp] theorem modCap_ev (s : State) (n : Nat) (f : Capture → Capture) : (s.modCap n f).ev = s.ev := rfl
@[simp] theorem modCap_trend (s : State) (n : Nat) (f : Capture → Capture) : (s.modCap n f).trend = s.trend := rfl
@[simp] theorem modCap_arch (s : State) (n : Nat) (f : Capture → Capture) : (s.modCap n f).arch = s.arch := rfl
@[simp] theorem modCap_pts (s : State) (n : Nat) (f : Capture → Capture) : (s.modCap n f).pts = s.pts := rfl
@[simp] theorem modCap_pair (s : State) (n : Nat) (f : Capture → Capture) : (s.modCap n f).pair = s.pair := rfl
@[simp] theorem modCap_tk (s : State) (n : Nat) (f : Capture → Capture) : (s.modCap n f).tk = s.tk := rfl
@[simp] theorem modCap_ret (s : State) (n : Nat) (f : Capture → Capture) : (s.modCap n f).ret = s.ret := rfl
@[simp] theorem modCap_ph (s : State) (n : Nat) (f : Capture → Capture) : (s.modCap n f).ph = s.ph := rfl
@[simp] theorem modCap_al (s : State) (n : Nat) (f : Capture → Capture) : (s.modCap n f).al = s.al := rfl
@[simp] theorem modCap_lk (s : State) (n : Nat) (f : Capture → Capture) : (s.modCap n f).lk = s.lk := rfl
@[simp] theorem modCap_annex (s : State) (n : Nat) (f : Capture → Capture) : (s.modCap n f).annex = s.annex := rfl
@[simp] theorem modCap_prot (s : State) (n : Nat) (f : Capture → Capture) : (s.modCap n f).prot = s.prot := rfl
@[simp] theorem modCap_ai (s : State) (n : Nat) (f : Capture → Capture) : (s.modCap n f).ai = s.ai := rfl
@[simp] theorem modCap_ao (s : State) (n : Nat) (f : Capture → Capture) : (s.modCap n f).ao = s.ao := rfl
@[simp] theorem modCap_dio (s : State) (n : Nat) (f : Capture → Capture) : (s.modCap n f).dio = s.dio := rfl
@[simp] theorem modCap_net (s : State) (n : Nat) (f : Capture → Capture) : (s.modCap n f).net = s.net := rfl
@[simp] theorem modCap_can (s : State) (n : Nat) (f : Capture → Capture) : (s.modCap n f).can = s.can := rfl
@[simp] theorem modCap_pnl (s : State) (n : Nat) (f : Capture → Capture) : (s.modCap n f).pnl = s.pnl := rfl
@[simp] theorem modCap_fw (s : State) (n : Nat) (f : Capture → Capture) : (s.modCap n f).fw = s.fw := rfl
@[simp] theorem modCap_sup (s : State) (n : Nat) (f : Capture → Capture) : (s.modCap n f).sup = s.sup := rfl
@[simp] theorem modCap_free (s : State) (n : Nat) (f : Capture → Capture) : (s.modCap n f).free = s.free := rfl
@[simp] theorem modCap_out (s : State) (n : Nat) (f : Capture → Capture) : (s.modCap n f).out = s.out := rfl
@[simp] theorem modCap_pending (s : State) (n : Nat) (f : Capture → Capture) : (s.modCap n f).pending = s.pending := rfl
@[simp] theorem modCap_mode (s : State) (n : Nat) (f : Capture → Capture) : (s.modCap n f).mode = s.mode := rfl
@[simp] theorem modCap_role (s : State) (n : Nat) (f : Capture → Capture) : (s.modCap n f).role = s.role := rfl
@[simp] theorem modCap_now (s : State) (n : Nat) (f : Capture → Capture) : (s.modCap n f).now = s.now := rfl
@[simp] theorem modCap_tick (s : State) (n : Nat) (f : Capture → Capture) : (s.modCap n f).tick = s.tick := rfl
@[simp] theorem modCap_eff (s : State) (n : Nat) (f : Capture → Capture) (i : Nat) : (s.modCap n f).eff i = s.eff i := rfl
@[simp] theorem modCap_entry (s : State) (n : Nat) (f : Capture → Capture) (i j : Nat) : (s.modCap n f).entry i j = s.entry i j := rfl
@[simp] theorem modCap_has (s : State) (n : Nat) (f : Capture → Capture) (u : OptUnit) : (s.modCap n f).has u = s.has u := rfl
@[simp] theorem modCap_capture_self (s : State) (n : Nat) (f : Capture → Capture) : (s.modCap n f).capture n = f (s.capture n) := tget_tmod_self _ _ _ _
theorem modCap_capture_ne (s : State) (n : Nat) (f : Capture → Capture) {k : Nat} (h : k ≠ n) : (s.modCap n f).capture k = s.capture k :=
  tget_tmod_ne _ h _ _ _

/-! ### modRec -/

@[simp] theorem modRec_ident (s : State) (n : Nat) (f : LoopRec → LoopRec) : (s.modRec n f).ident = s.ident := rfl
@[simp] theorem modRec_clk (s : State) (n : Nat) (f : LoopRec → LoopRec) : (s.modRec n f).clk = s.clk := rfl
@[simp] theorem modRec_mu (s : State) (n : Nat) (f : LoopRec → LoopRec) : (s.modRec n f).mu = s.mu := rfl
@[simp] theorem modRec_cfg (s : State) (n : Nat) (f : LoopRec → LoopRec) : (s.modRec n f).cfg = s.cfg := rfl
@[simp] theorem modRec_mbx (s : State) (n : Nat) (f : LoopRec → LoopRec) : (s.modRec n f).mbx = s.mbx := rfl
@[simp] theorem modRec_ev (s : State) (n : Nat) (f : LoopRec → LoopRec) : (s.modRec n f).ev = s.ev := rfl
@[simp] theorem modRec_trend (s : State) (n : Nat) (f : LoopRec → LoopRec) : (s.modRec n f).trend = s.trend := rfl
@[simp] theorem modRec_arch (s : State) (n : Nat) (f : LoopRec → LoopRec) : (s.modRec n f).arch = s.arch := rfl
@[simp] theorem modRec_pts (s : State) (n : Nat) (f : LoopRec → LoopRec) : (s.modRec n f).pts = s.pts := rfl
@[simp] theorem modRec_pair (s : State) (n : Nat) (f : LoopRec → LoopRec) : (s.modRec n f).pair = s.pair := rfl
@[simp] theorem modRec_tk (s : State) (n : Nat) (f : LoopRec → LoopRec) : (s.modRec n f).tk = s.tk := rfl
@[simp] theorem modRec_ret (s : State) (n : Nat) (f : LoopRec → LoopRec) : (s.modRec n f).ret = s.ret := rfl
@[simp] theorem modRec_ph (s : State) (n : Nat) (f : LoopRec → LoopRec) : (s.modRec n f).ph = s.ph := rfl
@[simp] theorem modRec_al (s : State) (n : Nat) (f : LoopRec → LoopRec) : (s.modRec n f).al = s.al := rfl
@[simp] theorem modRec_lk (s : State) (n : Nat) (f : LoopRec → LoopRec) : (s.modRec n f).lk = s.lk := rfl
@[simp] theorem modRec_annex (s : State) (n : Nat) (f : LoopRec → LoopRec) : (s.modRec n f).annex = s.annex := rfl
@[simp] theorem modRec_prot (s : State) (n : Nat) (f : LoopRec → LoopRec) : (s.modRec n f).prot = s.prot := rfl
@[simp] theorem modRec_ai (s : State) (n : Nat) (f : LoopRec → LoopRec) : (s.modRec n f).ai = s.ai := rfl
@[simp] theorem modRec_ao (s : State) (n : Nat) (f : LoopRec → LoopRec) : (s.modRec n f).ao = s.ao := rfl
@[simp] theorem modRec_dio (s : State) (n : Nat) (f : LoopRec → LoopRec) : (s.modRec n f).dio = s.dio := rfl
@[simp] theorem modRec_net (s : State) (n : Nat) (f : LoopRec → LoopRec) : (s.modRec n f).net = s.net := rfl
@[simp] theorem modRec_can (s : State) (n : Nat) (f : LoopRec → LoopRec) : (s.modRec n f).can = s.can := rfl
@[simp] theorem modRec_pnl (s : State) (n : Nat) (f : LoopRec → LoopRec) : (s.modRec n f).pnl = s.pnl := rfl
@[simp] theorem modRec_fw (s : State) (n : Nat) (f : LoopRec → LoopRec) : (s.modRec n f).fw = s.fw := rfl
@[simp] theorem modRec_sup (s : State) (n : Nat) (f : LoopRec → LoopRec) : (s.modRec n f).sup = s.sup := rfl
@[simp] theorem modRec_free (s : State) (n : Nat) (f : LoopRec → LoopRec) : (s.modRec n f).free = s.free := rfl
@[simp] theorem modRec_out (s : State) (n : Nat) (f : LoopRec → LoopRec) : (s.modRec n f).out = s.out := rfl
@[simp] theorem modRec_pending (s : State) (n : Nat) (f : LoopRec → LoopRec) : (s.modRec n f).pending = s.pending := rfl
@[simp] theorem modRec_mode (s : State) (n : Nat) (f : LoopRec → LoopRec) : (s.modRec n f).mode = s.mode := rfl
@[simp] theorem modRec_role (s : State) (n : Nat) (f : LoopRec → LoopRec) : (s.modRec n f).role = s.role := rfl
@[simp] theorem modRec_now (s : State) (n : Nat) (f : LoopRec → LoopRec) : (s.modRec n f).now = s.now := rfl
@[simp] theorem modRec_tick (s : State) (n : Nat) (f : LoopRec → LoopRec) : (s.modRec n f).tick = s.tick := rfl
@[simp] theorem modRec_eff (s : State) (n : Nat) (f : LoopRec → LoopRec) (i : Nat) : (s.modRec n f).eff i = s.eff i := rfl
@[simp] theorem modRec_entry (s : State) (n : Nat) (f : LoopRec → LoopRec) (i j : Nat) : (s.modRec n f).entry i j = s.entry i j := rfl
@[simp] theorem modRec_has (s : State) (n : Nat) (f : LoopRec → LoopRec) (u : OptUnit) : (s.modRec n f).has u = s.has u := rfl
@[simp] theorem modRec_lrec_self (s : State) (n : Nat) (f : LoopRec → LoopRec) : (s.modRec n f).lrec n = f (s.lrec n) := tget_tmod_self _ _ _ _
theorem modRec_lrec_ne (s : State) (n : Nat) (f : LoopRec → LoopRec) {k : Nat} (h : k ≠ n) : (s.modRec n f).lrec k = s.lrec k :=
  tget_tmod_ne _ h _ _ _

/-! ### modIn -/

@[simp] theorem modIn_ident (s : State) (n : Nat) (f : Input → Input) : (s.modIn n f).ident = s.ident := rfl
@[simp] theorem modIn_clk (s : State) (n : Nat) (f : Input → Input) : (s.modIn n f).clk = s.clk := rfl
@[simp] theorem modIn_mu (s : State) (n : Nat) (f : Input → Input) : (s.modIn n f).mu = s.mu := rfl
@[simp] theorem modIn_cfg (s : State) (n : Nat) (f : Input → Input) : (s.modIn n f).cfg = s.cfg := rfl
@[simp] theorem modIn_mbx (s : State) (n : Nat) (f : Input → Input) : (s.modIn n f).mbx = s.mbx := rfl
@[simp] theorem modIn_ev (s : State) (n : Nat) (f : Input → Input) : (s.modIn n f).ev = s.ev := rfl
@[simp] theorem modIn_trend (s : State) (n : Nat) (f : Input → Input) : (s.modIn n f).trend = s.trend := rfl
@[simp] theorem modIn_arch (s : State) (n : Nat) (f : Input → Input) : (s.modIn n f).arch = s.arch := rfl
@[simp] theorem modIn_pts (s : State) (n : Nat) (f : Input → Input) : (s.modIn n f).pts = s.pts := rfl
@[simp] theorem modIn_pair (s : State) (n : Nat) (f : Input → Input) : (s.modIn n f).pair = s.pair := rfl
@[simp] theorem modIn_tk (s : State) (n : Nat) (f : Input → Input) : (s.modIn n f).tk = s.tk := rfl
@[simp] theorem modIn_ret (s : State) (n : Nat) (f : Input → Input) : (s.modIn n f).ret = s.ret := rfl
@[simp] theorem modIn_ph (s : State) (n : Nat) (f : Input → Input) : (s.modIn n f).ph = s.ph := rfl
@[simp] theorem modIn_loop (s : State) (n : Nat) (f : Input → Input) : (s.modIn n f).loop = s.loop := rfl
@[simp] theorem modIn_al (s : State) (n : Nat) (f : Input → Input) : (s.modIn n f).al = s.al := rfl
@[simp] theorem modIn_lk (s : State) (n : Nat) (f : Input → Input) : (s.modIn n f).lk = s.lk := rfl
@[simp] theorem modIn_annex (s : State) (n : Nat) (f : Input → Input) : (s.modIn n f).annex = s.annex := rfl
@[simp] theorem modIn_prot (s : State) (n : Nat) (f : Input → Input) : (s.modIn n f).prot = s.prot := rfl
@[simp] theorem modIn_ai (s : State) (n : Nat) (f : Input → Input) : (s.modIn n f).ai = s.ai := rfl
@[simp] theorem modIn_ao (s : State) (n : Nat) (f : Input → Input) : (s.modIn n f).ao = s.ao := rfl
@[simp] theorem modIn_net (s : State) (n : Nat) (f : Input → Input) : (s.modIn n f).net = s.net := rfl
@[simp] theorem modIn_can (s : State) (n : Nat) (f : Input → Input) : (s.modIn n f).can = s.can := rfl
@[simp] theorem modIn_pnl (s : State) (n : Nat) (f : Input → Input) : (s.modIn n f).pnl = s.pnl := rfl
@[simp] theorem modIn_fw (s : State) (n : Nat) (f : Input → Input) : (s.modIn n f).fw = s.fw := rfl
@[simp] theorem modIn_sup (s : State) (n : Nat) (f : Input → Input) : (s.modIn n f).sup = s.sup := rfl
@[simp] theorem modIn_free (s : State) (n : Nat) (f : Input → Input) : (s.modIn n f).free = s.free := rfl
@[simp] theorem modIn_out (s : State) (n : Nat) (f : Input → Input) : (s.modIn n f).out = s.out := rfl
@[simp] theorem modIn_pending (s : State) (n : Nat) (f : Input → Input) : (s.modIn n f).pending = s.pending := rfl
@[simp] theorem modIn_mode (s : State) (n : Nat) (f : Input → Input) : (s.modIn n f).mode = s.mode := rfl
@[simp] theorem modIn_role (s : State) (n : Nat) (f : Input → Input) : (s.modIn n f).role = s.role := rfl
@[simp] theorem modIn_now (s : State) (n : Nat) (f : Input → Input) : (s.modIn n f).now = s.now := rfl
@[simp] theorem modIn_tick (s : State) (n : Nat) (f : Input → Input) : (s.modIn n f).tick = s.tick := rfl
@[simp] theorem modIn_eff (s : State) (n : Nat) (f : Input → Input) (i : Nat) : (s.modIn n f).eff i = s.eff i := rfl
@[simp] theorem modIn_entry (s : State) (n : Nat) (f : Input → Input) (i j : Nat) : (s.modIn n f).entry i j = s.entry i j := rfl
@[simp] theorem modIn_has (s : State) (n : Nat) (f : Input → Input) (u : OptUnit) : (s.modIn n f).has u = s.has u := rfl
@[simp] theorem modIn_din_self (s : State) (n : Nat) (f : Input → Input) : (s.modIn n f).din n = f (s.din n) := tget_tmod_self _ _ _ _
theorem modIn_din_ne (s : State) (n : Nat) (f : Input → Input) {k : Nat} (h : k ≠ n) : (s.modIn n f).din k = s.din k :=
  tget_tmod_ne _ h _ _ _

/-! ### modSw -/

@[simp] theorem modSw_ident (s : State) (n : Nat) (f : Switch → Switch) : (s.modSw n f).ident = s.ident := rfl
@[simp] theorem modSw_clk (s : State) (n : Nat) (f : Switch → Switch) : (s.modSw n f).clk = s.clk := rfl
@[simp] theorem modSw_mu (s : State) (n : Nat) (f : Switch → Switch) : (s.modSw n f).mu = s.mu := rfl
@[simp] theorem modSw_cfg (s : State) (n : Nat) (f : Switch → Switch) : (s.modSw n f).cfg = s.cfg := rfl
@[simp] theorem modSw_mbx (s : State) (n : Nat) (f : Switch → Switch) : (s.modSw n f).mbx = s.mbx := rfl
@[simp] theorem modSw_ev (s : State) (n : Nat) (f : Switch → Switch) : (s.modSw n f).ev = s.ev := rfl
@[simp] theorem modSw_trend (s : State) (n : Nat) (f : Switch → Switch) : (s.modSw n f).trend = s.trend := rfl
@[simp] theorem modSw_arch (s : State) (n : Nat) (f : Switch → Switch) : (s.modSw n f).arch = s.arch := rfl
@[simp] theorem modSw_pts (s : State) (n : Nat) (f : Switch → Switch) : (s.modSw n f).pts = s.pts := rfl
@[simp] theorem modSw_pair (s : State) (n : Nat) (f : Switch → Switch) : (s.modSw n f).pair = s.pair := rfl
@[simp] theorem modSw_tk (s : State) (n : Nat) (f : Switch → Switch) : (s.modSw n f).tk = s.tk := rfl
@[simp] theorem modSw_ret (s : State) (n : Nat) (f : Switch → Switch) : (s.modSw n f).ret = s.ret := rfl
@[simp] theorem modSw_ph (s : State) (n : Nat) (f : Switch → Switch) : (s.modSw n f).ph = s.ph := rfl
@[simp] theorem modSw_loop (s : State) (n : Nat) (f : Switch → Switch) : (s.modSw n f).loop = s.loop := rfl
@[simp] theorem modSw_al (s : State) (n : Nat) (f : Switch → Switch) : (s.modSw n f).al = s.al := rfl
@[simp] theorem modSw_lk (s : State) (n : Nat) (f : Switch → Switch) : (s.modSw n f).lk = s.lk := rfl
@[simp] theorem modSw_annex (s : State) (n : Nat) (f : Switch → Switch) : (s.modSw n f).annex = s.annex := rfl
@[simp] theorem modSw_prot (s : State) (n : Nat) (f : Switch → Switch) : (s.modSw n f).prot = s.prot := rfl
@[simp] theorem modSw_ai (s : State) (n : Nat) (f : Switch → Switch) : (s.modSw n f).ai = s.ai := rfl
@[simp] theorem modSw_ao (s : State) (n : Nat) (f : Switch → Switch) : (s.modSw n f).ao = s.ao := rfl
@[simp] theorem modSw_net (s : State) (n : Nat) (f : Switch → Switch) : (s.modSw n f).net = s.net := rfl
@[simp] theorem modSw_can (s : State) (n : Nat) (f : Switch → Switch) : (s.modSw n f).can = s.can := rfl
@[simp] theorem modSw_pnl (s : State) (n : Nat) (f : Switch → Switch) : (s.modSw n f).pnl = s.pnl := rfl
@[simp] theorem modSw_fw (s : State) (n : Nat) (f : Switch → Switch) : (s.modSw n f).fw = s.fw := rfl
@[simp] theorem modSw_sup (s : State) (n : Nat) (f : Switch → Switch) : (s.modSw n f).sup = s.sup := rfl
@[simp] theorem modSw_free (s : State) (n : Nat) (f : Switch → Switch) : (s.modSw n f).free = s.free := rfl
@[simp] theorem modSw_out (s : State) (n : Nat) (f : Switch → Switch) : (s.modSw n f).out = s.out := rfl
@[simp] theorem modSw_pending (s : State) (n : Nat) (f : Switch → Switch) : (s.modSw n f).pending = s.pending := rfl
@[simp] theorem modSw_mode (s : State) (n : Nat) (f : Switch → Switch) : (s.modSw n f).mode = s.mode := rfl
@[simp] theorem modSw_role (s : State) (n : Nat) (f : Switch → Switch) : (s.modSw n f).role = s.role := rfl
@[simp] theorem modSw_now (s : State) (n : Nat) (f : Switch → Switch) : (s.modSw n f).now = s.now := rfl
@[simp] theorem modSw_tick (s : State) (n : Nat) (f : Switch → Switch) : (s.modSw n f).tick = s.tick := rfl
@[simp] theorem modSw_eff (s : State) (n : Nat) (f : Switch → Switch) (i : Nat) : (s.modSw n f).eff i = s.eff i := rfl
@[simp] theorem modSw_entry (s : State) (n : Nat) (f : Switch → Switch) (i j : Nat) : (s.modSw n f).entry i j = s.entry i j := rfl
@[simp] theorem modSw_has (s : State) (n : Nat) (f : Switch → Switch) (u : OptUnit) : (s.modSw n f).has u = s.has u := rfl
@[simp] theorem modSw_sw_self (s : State) (n : Nat) (f : Switch → Switch) : (s.modSw n f).sw n = f (s.sw n) := tget_tmod_self _ _ _ _
theorem modSw_sw_ne (s : State) (n : Nat) (f : Switch → Switch) {k : Nat} (h : k ≠ n) : (s.modSw n f).sw k = s.sw k :=
  tget_tmod_ne _ h _ _ _

/-! ### modCore -/

@[simp] theorem modCore_ident (s : State) (n : Nat) (f : CorePair → CorePair) : (s.modCore n f).ident = s.ident := rfl
@[simp] theorem modCore_clk (s : State) (n : Nat) (f : CorePair → CorePair) : (s.modCore n f).clk = s.clk := rfl
@[simp] theorem modCore_mu (s : State) (n : Nat) (f : CorePair → CorePair) : (s.modCore n f).mu = s.mu := rfl
@[simp] theorem modCore_cfg (s : State) (n : Nat) (f : CorePair → CorePair) : (s.modCore n f).cfg = s.cfg := rfl
@[simp] theorem modCore_mbx (s : State) (n : Nat) (f : CorePair → CorePair) : (s.modCore n f).mbx = s.mbx := rfl
@[simp] theorem modCore_ev (s : State) (n : Nat) (f : CorePair → CorePair) : (s.modCore n f).ev = s.ev := rfl
@[simp] theorem modCore_trend (s : State) (n : Nat) (f : CorePair → CorePair) : (s.modCore n f).trend = s.trend := rfl
@[simp] theorem modCore_arch (s : State) (n : Nat) (f : CorePair → CorePair) : (s.modCore n f).arch = s.arch := rfl
@[simp] theorem modCore_pts (s : State) (n : Nat) (f : CorePair → CorePair) : (s.modCore n f).pts = s.pts := rfl
@[simp] theorem modCore_pair (s : State) (n : Nat) (f : CorePair → CorePair) : (s.modCore n f).pair = s.pair := rfl
@[simp] theorem modCore_tk (s : State) (n : Nat) (f : CorePair → CorePair) : (s.modCore n f).tk = s.tk := rfl
@[simp] theorem modCore_ret (s : State) (n : Nat) (f : CorePair → CorePair) : (s.modCore n f).ret = s.ret := rfl
@[simp] theorem modCore_ph (s : State) (n : Nat) (f : CorePair → CorePair) : (s.modCore n f).ph = s.ph := rfl
@[simp] theorem modCore_loop (s : State) (n : Nat) (f : CorePair → CorePair) : (s.modCore n f).loop = s.loop := rfl
@[simp] theorem modCore_al (s : State) (n : Nat) (f : CorePair → CorePair) : (s.modCore n f).al = s.al := rfl
@[simp] theorem modCore_annex (s : State) (n : Nat) (f : CorePair → CorePair) : (s.modCore n f).annex = s.annex := rfl
@[simp] theorem modCore_prot (s : State) (n : Nat) (f : CorePair → CorePair) : (s.modCore n f).prot = s.prot := rfl
@[simp] theorem modCore_ai (s : State) (n : Nat) (f : CorePair → CorePair) : (s.modCore n f).ai = s.ai := rfl
@[simp] theorem modCore_ao (s : State) (n : Nat) (f : CorePair → CorePair) : (s.modCore n f).ao = s.ao := rfl
@[simp] theorem modCore_dio (s : State) (n : Nat) (f : CorePair → CorePair) : (s.modCore n f).dio = s.dio := rfl
@[simp] theorem modCore_net (s : State) (n : Nat) (f : CorePair → CorePair) : (s.modCore n f).net = s.net := rfl
@[simp] theorem modCore_can (s : State) (n : Nat) (f : CorePair → CorePair) : (s.modCore n f).can = s.can := rfl
@[simp] theorem modCore_pnl (s : State) (n : Nat) (f : CorePair → CorePair) : (s.modCore n f).pnl = s.pnl := rfl
@[simp] theorem modCore_fw (s : State) (n : Nat) (f : CorePair → CorePair) : (s.modCore n f).fw = s.fw := rfl
@[simp] theorem modCore_sup (s : State) (n : Nat) (f : CorePair → CorePair) : (s.modCore n f).sup = s.sup := rfl
@[simp] theorem modCore_free (s : State) (n : Nat) (f : CorePair → CorePair) : (s.modCore n f).free = s.free := rfl
@[simp] theorem modCore_out (s : State) (n : Nat) (f : CorePair → CorePair) : (s.modCore n f).out = s.out := rfl
@[simp] theorem modCore_pending (s : State) (n : Nat) (f : CorePair → CorePair) : (s.modCore n f).pending = s.pending := rfl
@[simp] theorem modCore_mode (s : State) (n : Nat) (f : CorePair → CorePair) : (s.modCore n f).mode = s.mode := rfl
@[simp] theorem modCore_role (s : State) (n : Nat) (f : CorePair → CorePair) : (s.modCore n f).role = s.role := rfl
@[simp] theorem modCore_now (s : State) (n : Nat) (f : CorePair → CorePair) : (s.modCore n f).now = s.now := rfl
@[simp] theorem modCore_tick (s : State) (n : Nat) (f : CorePair → CorePair) : (s.modCore n f).tick = s.tick := rfl
@[simp] theorem modCore_eff (s : State) (n : Nat) (f : CorePair → CorePair) (i : Nat) : (s.modCore n f).eff i = s.eff i := rfl
@[simp] theorem modCore_entry (s : State) (n : Nat) (f : CorePair → CorePair) (i j : Nat) : (s.modCore n f).entry i j = s.entry i j := rfl
@[simp] theorem modCore_has (s : State) (n : Nat) (f : CorePair → CorePair) (u : OptUnit) : (s.modCore n f).has u = s.has u := rfl
@[simp] theorem modCore_corePair_self (s : State) (n : Nat) (f : CorePair → CorePair) : (s.modCore n f).corePair n = f (s.corePair n) := tget_tmod_self _ _ _ _
theorem modCore_corePair_ne (s : State) (n : Nat) (f : CorePair → CorePair) {k : Nat} (h : k ≠ n) : (s.modCore n f).corePair k = s.corePair k :=
  tget_tmod_ne _ h _ _ _

/-! ### modRegion -/

@[simp] theorem modRegion_ident (s : State) (n : Nat) (f : PnlRegion → PnlRegion) : (s.modRegion n f).ident = s.ident := rfl
@[simp] theorem modRegion_clk (s : State) (n : Nat) (f : PnlRegion → PnlRegion) : (s.modRegion n f).clk = s.clk := rfl
@[simp] theorem modRegion_mu (s : State) (n : Nat) (f : PnlRegion → PnlRegion) : (s.modRegion n f).mu = s.mu := rfl
@[simp] theorem modRegion_cfg (s : State) (n : Nat) (f : PnlRegion → PnlRegion) : (s.modRegion n f).cfg = s.cfg := rfl
@[simp] theorem modRegion_mbx (s : State) (n : Nat) (f : PnlRegion → PnlRegion) : (s.modRegion n f).mbx = s.mbx := rfl
@[simp] theorem modRegion_ev (s : State) (n : Nat) (f : PnlRegion → PnlRegion) : (s.modRegion n f).ev = s.ev := rfl
@[simp] theorem modRegion_trend (s : State) (n : Nat) (f : PnlRegion → PnlRegion) : (s.modRegion n f).trend = s.trend := rfl
@[simp] theorem modRegion_arch (s : State) (n : Nat) (f : PnlRegion → PnlRegion) : (s.modRegion n f).arch = s.arch := rfl
@[simp] theorem modRegion_pts (s : State) (n : Nat) (f : PnlRegion → PnlRegion) : (s.modRegion n f).pts = s.pts := rfl
@[simp] theorem modRegion_pair (s : State) (n : Nat) (f : PnlRegion → PnlRegion) : (s.modRegion n f).pair = s.pair := rfl
@[simp] theorem modRegion_tk (s : State) (n : Nat) (f : PnlRegion → PnlRegion) : (s.modRegion n f).tk = s.tk := rfl
@[simp] theorem modRegion_ret (s : State) (n : Nat) (f : PnlRegion → PnlRegion) : (s.modRegion n f).ret = s.ret := rfl
@[simp] theorem modRegion_ph (s : State) (n : Nat) (f : PnlRegion → PnlRegion) : (s.modRegion n f).ph = s.ph := rfl
@[simp] theorem modRegion_loop (s : State) (n : Nat) (f : PnlRegion → PnlRegion) : (s.modRegion n f).loop = s.loop := rfl
@[simp] theorem modRegion_al (s : State) (n : Nat) (f : PnlRegion → PnlRegion) : (s.modRegion n f).al = s.al := rfl
@[simp] theorem modRegion_lk (s : State) (n : Nat) (f : PnlRegion → PnlRegion) : (s.modRegion n f).lk = s.lk := rfl
@[simp] theorem modRegion_annex (s : State) (n : Nat) (f : PnlRegion → PnlRegion) : (s.modRegion n f).annex = s.annex := rfl
@[simp] theorem modRegion_prot (s : State) (n : Nat) (f : PnlRegion → PnlRegion) : (s.modRegion n f).prot = s.prot := rfl
@[simp] theorem modRegion_ai (s : State) (n : Nat) (f : PnlRegion → PnlRegion) : (s.modRegion n f).ai = s.ai := rfl
@[simp] theorem modRegion_ao (s : State) (n : Nat) (f : PnlRegion → PnlRegion) : (s.modRegion n f).ao = s.ao := rfl
@[simp] theorem modRegion_dio (s : State) (n : Nat) (f : PnlRegion → PnlRegion) : (s.modRegion n f).dio = s.dio := rfl
@[simp] theorem modRegion_net (s : State) (n : Nat) (f : PnlRegion → PnlRegion) : (s.modRegion n f).net = s.net := rfl
@[simp] theorem modRegion_can (s : State) (n : Nat) (f : PnlRegion → PnlRegion) : (s.modRegion n f).can = s.can := rfl
@[simp] theorem modRegion_fw (s : State) (n : Nat) (f : PnlRegion → PnlRegion) : (s.modRegion n f).fw = s.fw := rfl
@[simp] theorem modRegion_sup (s : State) (n : Nat) (f : PnlRegion → PnlRegion) : (s.modRegion n f).sup = s.sup := rfl
@[simp] theorem modRegion_free (s : State) (n : Nat) (f : PnlRegion → PnlRegion) : (s.modRegion n f).free = s.free := rfl
@[simp] theorem modRegion_out (s : State) (n : Nat) (f : PnlRegion → PnlRegion) : (s.modRegion n f).out = s.out := rfl
@[simp] theorem modRegion_pending (s : State) (n : Nat) (f : PnlRegion → PnlRegion) : (s.modRegion n f).pending = s.pending := rfl
@[simp] theorem modRegion_mode (s : State) (n : Nat) (f : PnlRegion → PnlRegion) : (s.modRegion n f).mode = s.mode := rfl
@[simp] theorem modRegion_role (s : State) (n : Nat) (f : PnlRegion → PnlRegion) : (s.modRegion n f).role = s.role := rfl
@[simp] theorem modRegion_now (s : State) (n : Nat) (f : PnlRegion → PnlRegion) : (s.modRegion n f).now = s.now := rfl
@[simp] theorem modRegion_tick (s : State) (n : Nat) (f : PnlRegion → PnlRegion) : (s.modRegion n f).tick = s.tick := rfl
@[simp] theorem modRegion_eff (s : State) (n : Nat) (f : PnlRegion → PnlRegion) (i : Nat) : (s.modRegion n f).eff i = s.eff i := rfl
@[simp] theorem modRegion_entry (s : State) (n : Nat) (f : PnlRegion → PnlRegion) (i j : Nat) : (s.modRegion n f).entry i j = s.entry i j := rfl
@[simp] theorem modRegion_has (s : State) (n : Nat) (f : PnlRegion → PnlRegion) (u : OptUnit) : (s.modRegion n f).has u = s.has u := rfl
@[simp] theorem modRegion_region_self (s : State) (n : Nat) (f : PnlRegion → PnlRegion) : (s.modRegion n f).region n = f (s.region n) := tget_tmod_self _ _ _ _
theorem modRegion_region_ne (s : State) (n : Nat) (f : PnlRegion → PnlRegion) {k : Nat} (h : k ≠ n) : (s.modRegion n f).region k = s.region k :=
  tget_tmod_ne _ h _ _ _

/-! ### modRef -/

@[simp] theorem modRef_ident (s : State) (n : Nat) (f : PhRef → PhRef) : (s.modRef n f).ident = s.ident := rfl
@[simp] theorem modRef_clk (s : State) (n : Nat) (f : PhRef → PhRef) : (s.modRef n f).clk = s.clk := rfl
@[simp] theorem modRef_mu (s : State) (n : Nat) (f : PhRef → PhRef) : (s.modRef n f).mu = s.mu := rfl
@[simp] theorem modRef_cfg (s : State) (n : Nat) (f : PhRef → PhRef) : (s.modRef n f).cfg = s.cfg := rfl
@[simp] theorem modRef_mbx (s : State) (n : Nat) (f : PhRef → PhRef) : (s.modRef n f).mbx = s.mbx := rfl
@[simp] theorem modRef_ev (s : State) (n : Nat) (f : PhRef → PhRef) : (s.modRef n f).ev = s.ev := rfl
@[simp] theorem modRef_trend (s : State) (n : Nat) (f : PhRef → PhRef) : (s.modRef n f).trend = s.trend := rfl
@[simp] theorem modRef_arch (s : State) (n : Nat) (f : PhRef → PhRef) : (s.modRef n f).arch = s.arch := rfl
@[simp] theorem modRef_pts (s : State) (n : Nat) (f : PhRef → PhRef) : (s.modRef n f).pts = s.pts := rfl
@[simp] theorem modRef_pair (s : State) (n : Nat) (f : PhRef → PhRef) : (s.modRef n f).pair = s.pair := rfl
@[simp] theorem modRef_tk (s : State) (n : Nat) (f : PhRef → PhRef) : (s.modRef n f).tk = s.tk := rfl
@[simp] theorem modRef_ret (s : State) (n : Nat) (f : PhRef → PhRef) : (s.modRef n f).ret = s.ret := rfl
@[simp] theorem modRef_loop (s : State) (n : Nat) (f : PhRef → PhRef) : (s.modRef n f).loop = s.loop := rfl
@[simp] theorem modRef_al (s : State) (n : Nat) (f : PhRef → PhRef) : (s.modRef n f).al = s.al := rfl
@[simp] theorem modRef_lk (s : State) (n : Nat) (f : PhRef → PhRef) : (s.modRef n f).lk = s.lk := rfl
@[simp] theorem modRef_annex (s : State) (n : Nat) (f : PhRef → PhRef) : (s.modRef n f).annex = s.annex := rfl
@[simp] theorem modRef_prot (s : State) (n : Nat) (f : PhRef → PhRef) : (s.modRef n f).prot = s.prot := rfl
@[simp] theorem modRef_ai (s : State) (n : Nat) (f : PhRef → PhRef) : (s.modRef n f).ai = s.ai := rfl
@[simp] theorem modRef_ao (s : State) (n : Nat) (f : PhRef → PhRef) : (s.modRef n f).ao = s.ao := rfl
@[simp] theorem modRef_dio (s : State) (n : Nat) (f : PhRef → PhRef) : (s.modRef n f).dio = s.dio := rfl
@[simp] theorem modRef_net (s : State) (n : Nat) (f : PhRef → PhRef) : (s.modRef n f).net = s.net := rfl
@[simp] theorem modRef_can (s : State) (n : Nat) (f : PhRef → PhRef) : (s.modRef n f).can = s.can := rfl
@[simp] theorem modRef_pnl (s : State) (n : Nat) (f : PhRef → PhRef) : (s.modRef n f).pnl = s.pnl := rfl
@[simp] theorem modRef_fw (s : State) (n : Nat) (f : PhRef → PhRef) : (s.modRef n f).fw = s.fw := rfl
@[simp] theorem modRef_sup (s : State) (n : Nat) (f : PhRef → PhRef) : (s.modRef n f).sup = s.sup := rfl
@[simp] theorem modRef_free (s : State) (n : Nat) (f : PhRef → PhRef) : (s.modRef n f).free = s.free := rfl
@[simp] theorem modRef_out (s : State) (n : Nat) (f : PhRef → PhRef) : (s.modRef n f).out = s.out := rfl
@[simp] theorem modRef_pending (s : State) (n : Nat) (f : PhRef → PhRef) : (s.modRef n f).pending = s.pending := rfl
@[simp] theorem modRef_mode (s : State) (n : Nat) (f : PhRef → PhRef) : (s.modRef n f).mode = s.mode := rfl
@[simp] theorem modRef_role (s : State) (n : Nat) (f : PhRef → PhRef) : (s.modRef n f).role = s.role := rfl
@[simp] theorem modRef_now (s : State) (n : Nat) (f : PhRef → PhRef) : (s.modRef n f).now = s.now := rfl
@[simp] theorem modRef_tick (s : State) (n : Nat) (f : PhRef → PhRef) : (s.modRef n f).tick = s.tick := rfl
@[simp] theorem modRef_eff (s : State) (n : Nat) (f : PhRef → PhRef) (i : Nat) : (s.modRef n f).eff i = s.eff i := rfl
@[simp] theorem modRef_entry (s : State) (n : Nat) (f : PhRef → PhRef) (i j : Nat) : (s.modRef n f).entry i j = s.entry i j := rfl
@[simp] theorem modRef_has (s : State) (n : Nat) (f : PhRef → PhRef) (u : OptUnit) : (s.modRef n f).has u = s.has u := rfl
@[simp] theorem modRef_phRef_self (s : State) (n : Nat) (f : PhRef → PhRef) : (s.modRef n f).phRef n = f (s.phRef n) := tget_tmod_self _ _ _ _
theorem modRef_phRef_ne (s : State) (n : Nat) (f : PhRef → PhRef) {k : Nat} (h : k ≠ n) : (s.modRef n f).phRef k = s.phRef k :=
  tget_tmod_ne _ h _ _ _

/-! ### modLane -/

@[simp] theorem modLane_ident (s : State) (n : Nat) (f : Lane → Lane) : (s.modLane n f).ident = s.ident := rfl
@[simp] theorem modLane_clk (s : State) (n : Nat) (f : Lane → Lane) : (s.modLane n f).clk = s.clk := rfl
@[simp] theorem modLane_mu (s : State) (n : Nat) (f : Lane → Lane) : (s.modLane n f).mu = s.mu := rfl
@[simp] theorem modLane_cfg (s : State) (n : Nat) (f : Lane → Lane) : (s.modLane n f).cfg = s.cfg := rfl
@[simp] theorem modLane_mbx (s : State) (n : Nat) (f : Lane → Lane) : (s.modLane n f).mbx = s.mbx := rfl
@[simp] theorem modLane_ev (s : State) (n : Nat) (f : Lane → Lane) : (s.modLane n f).ev = s.ev := rfl
@[simp] theorem modLane_trend (s : State) (n : Nat) (f : Lane → Lane) : (s.modLane n f).trend = s.trend := rfl
@[simp] theorem modLane_arch (s : State) (n : Nat) (f : Lane → Lane) : (s.modLane n f).arch = s.arch := rfl
@[simp] theorem modLane_pts (s : State) (n : Nat) (f : Lane → Lane) : (s.modLane n f).pts = s.pts := rfl
@[simp] theorem modLane_tk (s : State) (n : Nat) (f : Lane → Lane) : (s.modLane n f).tk = s.tk := rfl
@[simp] theorem modLane_ret (s : State) (n : Nat) (f : Lane → Lane) : (s.modLane n f).ret = s.ret := rfl
@[simp] theorem modLane_ph (s : State) (n : Nat) (f : Lane → Lane) : (s.modLane n f).ph = s.ph := rfl
@[simp] theorem modLane_loop (s : State) (n : Nat) (f : Lane → Lane) : (s.modLane n f).loop = s.loop := rfl
@[simp] theorem modLane_al (s : State) (n : Nat) (f : Lane → Lane) : (s.modLane n f).al = s.al := rfl
@[simp] theorem modLane_lk (s : State) (n : Nat) (f : Lane → Lane) : (s.modLane n f).lk = s.lk := rfl
@[simp] theorem modLane_annex (s : State) (n : Nat) (f : Lane → Lane) : (s.modLane n f).annex = s.annex := rfl
@[simp] theorem modLane_prot (s : State) (n : Nat) (f : Lane → Lane) : (s.modLane n f).prot = s.prot := rfl
@[simp] theorem modLane_ai (s : State) (n : Nat) (f : Lane → Lane) : (s.modLane n f).ai = s.ai := rfl
@[simp] theorem modLane_ao (s : State) (n : Nat) (f : Lane → Lane) : (s.modLane n f).ao = s.ao := rfl
@[simp] theorem modLane_dio (s : State) (n : Nat) (f : Lane → Lane) : (s.modLane n f).dio = s.dio := rfl
@[simp] theorem modLane_net (s : State) (n : Nat) (f : Lane → Lane) : (s.modLane n f).net = s.net := rfl
@[simp] theorem modLane_can (s : State) (n : Nat) (f : Lane → Lane) : (s.modLane n f).can = s.can := rfl
@[simp] theorem modLane_pnl (s : State) (n : Nat) (f : Lane → Lane) : (s.modLane n f).pnl = s.pnl := rfl
@[simp] theorem modLane_fw (s : State) (n : Nat) (f : Lane → Lane) : (s.modLane n f).fw = s.fw := rfl
@[simp] theorem modLane_sup (s : State) (n : Nat) (f : Lane → Lane) : (s.modLane n f).sup = s.sup := rfl
@[simp] theorem modLane_free (s : State) (n : Nat) (f : Lane → Lane) : (s.modLane n f).free = s.free := rfl
@[simp] theorem modLane_out (s : State) (n : Nat) (f : Lane → Lane) : (s.modLane n f).out = s.out := rfl
@[simp] theorem modLane_pending (s : State) (n : Nat) (f : Lane → Lane) : (s.modLane n f).pending = s.pending := rfl
@[simp] theorem modLane_mode (s : State) (n : Nat) (f : Lane → Lane) : (s.modLane n f).mode = s.mode := rfl
@[simp] theorem modLane_role (s : State) (n : Nat) (f : Lane → Lane) : (s.modLane n f).role = s.role := rfl
@[simp] theorem modLane_now (s : State) (n : Nat) (f : Lane → Lane) : (s.modLane n f).now = s.now := rfl
@[simp] theorem modLane_tick (s : State) (n : Nat) (f : Lane → Lane) : (s.modLane n f).tick = s.tick := rfl
@[simp] theorem modLane_eff (s : State) (n : Nat) (f : Lane → Lane) (i : Nat) : (s.modLane n f).eff i = s.eff i := rfl
@[simp] theorem modLane_entry (s : State) (n : Nat) (f : Lane → Lane) (i j : Nat) : (s.modLane n f).entry i j = s.entry i j := rfl
@[simp] theorem modLane_has (s : State) (n : Nat) (f : Lane → Lane) (u : OptUnit) : (s.modLane n f).has u = s.has u := rfl

/-! ### modSession -/

@[simp] theorem modSession_ident (s : State) (n : U32) (f : Session → Session) : (s.modSession n f).ident = s.ident := rfl
@[simp] theorem modSession_clk (s : State) (n : U32) (f : Session → Session) : (s.modSession n f).clk = s.clk := rfl
@[simp] theorem modSession_mu (s : State) (n : U32) (f : Session → Session) : (s.modSession n f).mu = s.mu := rfl
@[simp] theorem modSession_cfg (s : State) (n : U32) (f : Session → Session) : (s.modSession n f).cfg = s.cfg := rfl
@[simp] theorem modSession_ev (s : State) (n : U32) (f : Session → Session) : (s.modSession n f).ev = s.ev := rfl
@[simp] theorem modSession_trend (s : State) (n : U32) (f : Session → Session) : (s.modSession n f).trend = s.trend := rfl
@[simp] theorem modSession_arch (s : State) (n : U32) (f : Session → Session) : (s.modSession n f).arch = s.arch := rfl
@[simp] theorem modSession_pts (s : State) (n : U32) (f : Session → Session) : (s.modSession n f).pts = s.pts := rfl
@[simp] theorem modSession_pair (s : State) (n : U32) (f : Session → Session) : (s.modSession n f).pair = s.pair := rfl
@[simp] theorem modSession_tk (s : State) (n : U32) (f : Session → Session) : (s.modSession n f).tk = s.tk := rfl
@[simp] theorem modSession_ret (s : State) (n : U32) (f : Session → Session) : (s.modSession n f).ret = s.ret := rfl
@[simp] theorem modSession_ph (s : State) (n : U32) (f : Session → Session) : (s.modSession n f).ph = s.ph := rfl
@[simp] theorem modSession_loop (s : State) (n : U32) (f : Session → Session) : (s.modSession n f).loop = s.loop := rfl
@[simp] theorem modSession_al (s : State) (n : U32) (f : Session → Session) : (s.modSession n f).al = s.al := rfl
@[simp] theorem modSession_lk (s : State) (n : U32) (f : Session → Session) : (s.modSession n f).lk = s.lk := rfl
@[simp] theorem modSession_annex (s : State) (n : U32) (f : Session → Session) : (s.modSession n f).annex = s.annex := rfl
@[simp] theorem modSession_prot (s : State) (n : U32) (f : Session → Session) : (s.modSession n f).prot = s.prot := rfl
@[simp] theorem modSession_ai (s : State) (n : U32) (f : Session → Session) : (s.modSession n f).ai = s.ai := rfl
@[simp] theorem modSession_ao (s : State) (n : U32) (f : Session → Session) : (s.modSession n f).ao = s.ao := rfl
@[simp] theorem modSession_dio (s : State) (n : U32) (f : Session → Session) : (s.modSession n f).dio = s.dio := rfl
@[simp] theorem modSession_net (s : State) (n : U32) (f : Session → Session) : (s.modSession n f).net = s.net := rfl
@[simp] theorem modSession_can (s : State) (n : U32) (f : Session → Session) : (s.modSession n f).can = s.can := rfl
@[simp] theorem modSession_pnl (s : State) (n : U32) (f : Session → Session) : (s.modSession n f).pnl = s.pnl := rfl
@[simp] theorem modSession_fw (s : State) (n : U32) (f : Session → Session) : (s.modSession n f).fw = s.fw := rfl
@[simp] theorem modSession_sup (s : State) (n : U32) (f : Session → Session) : (s.modSession n f).sup = s.sup := rfl
@[simp] theorem modSession_free (s : State) (n : U32) (f : Session → Session) : (s.modSession n f).free = s.free := rfl
@[simp] theorem modSession_out (s : State) (n : U32) (f : Session → Session) : (s.modSession n f).out = s.out := rfl
@[simp] theorem modSession_pending (s : State) (n : U32) (f : Session → Session) : (s.modSession n f).pending = s.pending := rfl
@[simp] theorem modSession_mode (s : State) (n : U32) (f : Session → Session) : (s.modSession n f).mode = s.mode := rfl
@[simp] theorem modSession_role (s : State) (n : U32) (f : Session → Session) : (s.modSession n f).role = s.role := rfl
@[simp] theorem modSession_now (s : State) (n : U32) (f : Session → Session) : (s.modSession n f).now = s.now := rfl
@[simp] theorem modSession_tick (s : State) (n : U32) (f : Session → Session) : (s.modSession n f).tick = s.tick := rfl
@[simp] theorem modSession_eff (s : State) (n : U32) (f : Session → Session) (i : Nat) : (s.modSession n f).eff i = s.eff i := rfl
@[simp] theorem modSession_entry (s : State) (n : U32) (f : Session → Session) (i j : Nat) : (s.modSession n f).entry i j = s.entry i j := rfl
@[simp] theorem modSession_has (s : State) (n : U32) (f : Session → Session) (u : OptUnit) : (s.modSession n f).has u = s.has u := rfl

/-! ### setSupply -/

@[simp] theorem setSupply_ident (s : State) (n : Nat) (l : Bool) (v : Nat) : (s.setSupply n l v).ident = s.ident := rfl
@[simp] theorem setSupply_clk (s : State) (n : Nat) (l : Bool) (v : Nat) : (s.setSupply n l v).clk = s.clk := rfl
@[simp] theorem setSupply_mu (s : State) (n : Nat) (l : Bool) (v : Nat) : (s.setSupply n l v).mu = s.mu := rfl
@[simp] theorem setSupply_cfg (s : State) (n : Nat) (l : Bool) (v : Nat) : (s.setSupply n l v).cfg = s.cfg := rfl
@[simp] theorem setSupply_mbx (s : State) (n : Nat) (l : Bool) (v : Nat) : (s.setSupply n l v).mbx = s.mbx := rfl
@[simp] theorem setSupply_ev (s : State) (n : Nat) (l : Bool) (v : Nat) : (s.setSupply n l v).ev = s.ev := rfl
@[simp] theorem setSupply_trend (s : State) (n : Nat) (l : Bool) (v : Nat) : (s.setSupply n l v).trend = s.trend := rfl
@[simp] theorem setSupply_arch (s : State) (n : Nat) (l : Bool) (v : Nat) : (s.setSupply n l v).arch = s.arch := rfl
@[simp] theorem setSupply_pts (s : State) (n : Nat) (l : Bool) (v : Nat) : (s.setSupply n l v).pts = s.pts := rfl
@[simp] theorem setSupply_pair (s : State) (n : Nat) (l : Bool) (v : Nat) : (s.setSupply n l v).pair = s.pair := rfl
@[simp] theorem setSupply_tk (s : State) (n : Nat) (l : Bool) (v : Nat) : (s.setSupply n l v).tk = s.tk := rfl
@[simp] theorem setSupply_ret (s : State) (n : Nat) (l : Bool) (v : Nat) : (s.setSupply n l v).ret = s.ret := rfl
@[simp] theorem setSupply_ph (s : State) (n : Nat) (l : Bool) (v : Nat) : (s.setSupply n l v).ph = s.ph := rfl
@[simp] theorem setSupply_loop (s : State) (n : Nat) (l : Bool) (v : Nat) : (s.setSupply n l v).loop = s.loop := rfl
@[simp] theorem setSupply_al (s : State) (n : Nat) (l : Bool) (v : Nat) : (s.setSupply n l v).al = s.al := rfl
@[simp] theorem setSupply_lk (s : State) (n : Nat) (l : Bool) (v : Nat) : (s.setSupply n l v).lk = s.lk := rfl
@[simp] theorem setSupply_annex (s : State) (n : Nat) (l : Bool) (v : Nat) : (s.setSupply n l v).annex = s.annex := rfl
@[simp] theorem setSupply_prot (s : State) (n : Nat) (l : Bool) (v : Nat) : (s.setSupply n l v).prot = s.prot := rfl
@[simp] theorem setSupply_ai (s : State) (n : Nat) (l : Bool) (v : Nat) : (s.setSupply n l v).ai = s.ai := rfl
@[simp] theorem setSupply_ao (s : State) (n : Nat) (l : Bool) (v : Nat) : (s.setSupply n l v).ao = s.ao := rfl
@[simp] theorem setSupply_net (s : State) (n : Nat) (l : Bool) (v : Nat) : (s.setSupply n l v).net = s.net := rfl
@[simp] theorem setSupply_can (s : State) (n : Nat) (l : Bool) (v : Nat) : (s.setSupply n l v).can = s.can := rfl
@[simp] theorem setSupply_pnl (s : State) (n : Nat) (l : Bool) (v : Nat) : (s.setSupply n l v).pnl = s.pnl := rfl
@[simp] theorem setSupply_fw (s : State) (n : Nat) (l : Bool) (v : Nat) : (s.setSupply n l v).fw = s.fw := rfl
@[simp] theorem setSupply_sup (s : State) (n : Nat) (l : Bool) (v : Nat) : (s.setSupply n l v).sup = s.sup := rfl
@[simp] theorem setSupply_free (s : State) (n : Nat) (l : Bool) (v : Nat) : (s.setSupply n l v).free = s.free := rfl
@[simp] theorem setSupply_out (s : State) (n : Nat) (l : Bool) (v : Nat) : (s.setSupply n l v).out = s.out := rfl
@[simp] theorem setSupply_pending (s : State) (n : Nat) (l : Bool) (v : Nat) : (s.setSupply n l v).pending = s.pending := rfl
@[simp] theorem setSupply_mode (s : State) (n : Nat) (l : Bool) (v : Nat) : (s.setSupply n l v).mode = s.mode := rfl
@[simp] theorem setSupply_role (s : State) (n : Nat) (l : Bool) (v : Nat) : (s.setSupply n l v).role = s.role := rfl
@[simp] theorem setSupply_now (s : State) (n : Nat) (l : Bool) (v : Nat) : (s.setSupply n l v).now = s.now := rfl
@[simp] theorem setSupply_tick (s : State) (n : Nat) (l : Bool) (v : Nat) : (s.setSupply n l v).tick = s.tick := rfl
@[simp] theorem setSupply_eff (s : State) (n : Nat) (l : Bool) (v : Nat) (i : Nat) : (s.setSupply n l v).eff i = s.eff i := rfl
@[simp] theorem setSupply_entry (s : State) (n : Nat) (l : Bool) (v : Nat) (i j : Nat) : (s.setSupply n l v).entry i j = s.entry i j := rfl
@[simp] theorem setSupply_has (s : State) (n : Nat) (l : Bool) (v : Nat) (u : OptUnit) : (s.setSupply n l v).has u = s.has u := rfl

/-! ### emit -/

@[simp] theorem emit_ident (s : State) (x : Emission) : (s.emit x).ident = s.ident := rfl
@[simp] theorem emit_clk (s : State) (x : Emission) : (s.emit x).clk = s.clk := rfl
@[simp] theorem emit_mu (s : State) (x : Emission) : (s.emit x).mu = s.mu := rfl
@[simp] theorem emit_cfg (s : State) (x : Emission) : (s.emit x).cfg = s.cfg := rfl
@[simp] theorem emit_mbx (s : State) (x : Emission) : (s.emit x).mbx = s.mbx := rfl
@[simp] theorem emit_ev (s : State) (x : Emission) : (s.emit x).ev = s.ev := rfl
@[simp] theorem emit_trend (s : State) (x : Emission) : (s.emit x).trend = s.trend := rfl
@[simp] theorem emit_arch (s : State) (x : Emission) : (s.emit x).arch = s.arch := rfl
@[simp] theorem emit_pts (s : State) (x : Emission) : (s.emit x).pts = s.pts := rfl
@[simp] theorem emit_pair (s : State) (x : Emission) : (s.emit x).pair = s.pair := rfl
@[simp] theorem emit_tk (s : State) (x : Emission) : (s.emit x).tk = s.tk := rfl
@[simp] theorem emit_ret (s : State) (x : Emission) : (s.emit x).ret = s.ret := rfl
@[simp] theorem emit_ph (s : State) (x : Emission) : (s.emit x).ph = s.ph := rfl
@[simp] theorem emit_loop (s : State) (x : Emission) : (s.emit x).loop = s.loop := rfl
@[simp] theorem emit_al (s : State) (x : Emission) : (s.emit x).al = s.al := rfl
@[simp] theorem emit_lk (s : State) (x : Emission) : (s.emit x).lk = s.lk := rfl
@[simp] theorem emit_annex (s : State) (x : Emission) : (s.emit x).annex = s.annex := rfl
@[simp] theorem emit_prot (s : State) (x : Emission) : (s.emit x).prot = s.prot := rfl
@[simp] theorem emit_ai (s : State) (x : Emission) : (s.emit x).ai = s.ai := rfl
@[simp] theorem emit_ao (s : State) (x : Emission) : (s.emit x).ao = s.ao := rfl
@[simp] theorem emit_dio (s : State) (x : Emission) : (s.emit x).dio = s.dio := rfl
@[simp] theorem emit_net (s : State) (x : Emission) : (s.emit x).net = s.net := rfl
@[simp] theorem emit_can (s : State) (x : Emission) : (s.emit x).can = s.can := rfl
@[simp] theorem emit_pnl (s : State) (x : Emission) : (s.emit x).pnl = s.pnl := rfl
@[simp] theorem emit_fw (s : State) (x : Emission) : (s.emit x).fw = s.fw := rfl
@[simp] theorem emit_sup (s : State) (x : Emission) : (s.emit x).sup = s.sup := rfl
@[simp] theorem emit_free (s : State) (x : Emission) : (s.emit x).free = s.free := rfl
@[simp] theorem emit_pending (s : State) (x : Emission) : (s.emit x).pending = s.pending := rfl
@[simp] theorem emit_mode (s : State) (x : Emission) : (s.emit x).mode = s.mode := rfl
@[simp] theorem emit_role (s : State) (x : Emission) : (s.emit x).role = s.role := rfl
@[simp] theorem emit_now (s : State) (x : Emission) : (s.emit x).now = s.now := rfl
@[simp] theorem emit_tick (s : State) (x : Emission) : (s.emit x).tick = s.tick := rfl
@[simp] theorem emit_eff (s : State) (x : Emission) (i : Nat) : (s.emit x).eff i = s.eff i := rfl
@[simp] theorem emit_entry (s : State) (x : Emission) (i j : Nat) : (s.emit x).entry i j = s.entry i j := rfl
@[simp] theorem emit_has (s : State) (x : Emission) (u : OptUnit) : (s.emit x).has u = s.has u := rfl

/-! ### setAp -/

@[simp] theorem setAp_ident (s : State) (n v t : Nat) : (s.setAp n v t).ident = s.ident := rfl
@[simp] theorem setAp_clk (s : State) (n v t : Nat) : (s.setAp n v t).clk = s.clk := rfl
@[simp] theorem setAp_mu (s : State) (n v t : Nat) : (s.setAp n v t).mu = s.mu := rfl
@[simp] theorem setAp_cfg (s : State) (n v t : Nat) : (s.setAp n v t).cfg = s.cfg := rfl
@[simp] theorem setAp_mbx (s : State) (n v t : Nat) : (s.setAp n v t).mbx = s.mbx := rfl
@[simp] theorem setAp_ev (s : State) (n v t : Nat) : (s.setAp n v t).ev = s.ev := rfl
@[simp] theorem setAp_trend (s : State) (n v t : Nat) : (s.setAp n v t).trend = s.trend := rfl
@[simp] theorem setAp_arch (s : State) (n v t : Nat) : (s.setAp n v t).arch = s.arch := rfl
@[simp] theorem setAp_pair (s : State) (n v t : Nat) : (s.setAp n v t).pair = s.pair := rfl
@[simp] theorem setAp_tk (s : State) (n v t : Nat) : (s.setAp n v t).tk = s.tk := rfl
@[simp] theorem setAp_ret (s : State) (n v t : Nat) : (s.setAp n v t).ret = s.ret := rfl
@[simp] theorem setAp_ph (s : State) (n v t : Nat) : (s.setAp n v t).ph = s.ph := rfl
@[simp] theorem setAp_loop (s : State) (n v t : Nat) : (s.setAp n v t).loop = s.loop := rfl
@[simp] theorem setAp_al (s : State) (n v t : Nat) : (s.setAp n v t).al = s.al := rfl
@[simp] theorem setAp_lk (s : State) (n v t : Nat) : (s.setAp n v t).lk = s.lk := rfl
@[simp] theorem setAp_annex (s : State) (n v t : Nat) : (s.setAp n v t).annex = s.annex := rfl
@[simp] theorem setAp_prot (s : State) (n v t : Nat) : (s.setAp n v t).prot = s.prot := rfl
@[simp] theorem setAp_ai (s : State) (n v t : Nat) : (s.setAp n v t).ai = s.ai := rfl
@[simp] theorem setAp_ao (s : State) (n v t : Nat) : (s.setAp n v t).ao = s.ao := rfl
@[simp] theorem setAp_dio (s : State) (n v t : Nat) : (s.setAp n v t).dio = s.dio := rfl
@[simp] theorem setAp_net (s : State) (n v t : Nat) : (s.setAp n v t).net = s.net := rfl
@[simp] theorem setAp_can (s : State) (n v t : Nat) : (s.setAp n v t).can = s.can := rfl
@[simp] theorem setAp_pnl (s : State) (n v t : Nat) : (s.setAp n v t).pnl = s.pnl := rfl
@[simp] theorem setAp_fw (s : State) (n v t : Nat) : (s.setAp n v t).fw = s.fw := rfl
@[simp] theorem setAp_sup (s : State) (n v t : Nat) : (s.setAp n v t).sup = s.sup := rfl
@[simp] theorem setAp_free (s : State) (n v t : Nat) : (s.setAp n v t).free = s.free := rfl
@[simp] theorem setAp_out (s : State) (n v t : Nat) : (s.setAp n v t).out = s.out := rfl
@[simp] theorem setAp_pending (s : State) (n v t : Nat) : (s.setAp n v t).pending = s.pending := rfl
@[simp] theorem setAp_mode (s : State) (n v t : Nat) : (s.setAp n v t).mode = s.mode := rfl
@[simp] theorem setAp_role (s : State) (n v t : Nat) : (s.setAp n v t).role = s.role := rfl
@[simp] theorem setAp_now (s : State) (n v t : Nat) : (s.setAp n v t).now = s.now := rfl
@[simp] theorem setAp_tick (s : State) (n v t : Nat) : (s.setAp n v t).tick = s.tick := rfl
@[simp] theorem setAp_eff (s : State) (n v t : Nat) (i : Nat) : (s.setAp n v t).eff i = s.eff i := rfl
@[simp] theorem setAp_entry (s : State) (n v t : Nat) (i j : Nat) : (s.setAp n v t).entry i j = s.entry i j := rfl
@[simp] theorem setAp_has (s : State) (n v t : Nat) (u : OptUnit) : (s.setAp n v t).has u = s.has u := rfl

/-! ### setBp -/

@[simp] theorem setBp_ident (s : State) (n : Nat) (v : Bool) (t : Nat) : (s.setBp n v t).ident = s.ident := rfl
@[simp] theorem setBp_clk (s : State) (n : Nat) (v : Bool) (t : Nat) : (s.setBp n v t).clk = s.clk := rfl
@[simp] theorem setBp_mu (s : State) (n : Nat) (v : Bool) (t : Nat) : (s.setBp n v t).mu = s.mu := rfl
@[simp] theorem setBp_cfg (s : State) (n : Nat) (v : Bool) (t : Nat) : (s.setBp n v t).cfg = s.cfg := rfl
@[simp] theorem setBp_mbx (s : State) (n : Nat) (v : Bool) (t : Nat) : (s.setBp n v t).mbx = s.mbx := rfl
@[simp] theorem setBp_ev (s : State) (n : Nat) (v : Bool) (t : Nat) : (s.setBp n v t).ev = s.ev := rfl
@[simp] theorem setBp_trend (s : State) (n : Nat) (v : Bool) (t : Nat) : (s.setBp n v t).trend = s.trend := rfl
@[simp] theorem setBp_arch (s : State) (n : Nat) (v : Bool) (t : Nat) : (s.setBp n v t).arch = s.arch := rfl
@[simp] theorem setBp_pair (s : State) (n : Nat) (v : Bool) (t : Nat) : (s.setBp n v t).pair = s.pair := rfl
@[simp] theorem setBp_tk (s : State) (n : Nat) (v : Bool) (t : Nat) : (s.setBp n v t).tk = s.tk := rfl
@[simp] theorem setBp_ret (s : State) (n : Nat) (v : Bool) (t : Nat) : (s.setBp n v t).ret = s.ret := rfl
@[simp] theorem setBp_ph (s : State) (n : Nat) (v : Bool) (t : Nat) : (s.setBp n v t).ph = s.ph := rfl
@[simp] theorem setBp_loop (s : State) (n : Nat) (v : Bool) (t : Nat) : (s.setBp n v t).loop = s.loop := rfl
@[simp] theorem setBp_al (s : State) (n : Nat) (v : Bool) (t : Nat) : (s.setBp n v t).al = s.al := rfl
@[simp] theorem setBp_lk (s : State) (n : Nat) (v : Bool) (t : Nat) : (s.setBp n v t).lk = s.lk := rfl
@[simp] theorem setBp_annex (s : State) (n : Nat) (v : Bool) (t : Nat) : (s.setBp n v t).annex = s.annex := rfl
@[simp] theorem setBp_prot (s : State) (n : Nat) (v : Bool) (t : Nat) : (s.setBp n v t).prot = s.prot := rfl
@[simp] theorem setBp_ai (s : State) (n : Nat) (v : Bool) (t : Nat) : (s.setBp n v t).ai = s.ai := rfl
@[simp] theorem setBp_ao (s : State) (n : Nat) (v : Bool) (t : Nat) : (s.setBp n v t).ao = s.ao := rfl
@[simp] theorem setBp_dio (s : State) (n : Nat) (v : Bool) (t : Nat) : (s.setBp n v t).dio = s.dio := rfl
@[simp] theorem setBp_net (s : State) (n : Nat) (v : Bool) (t : Nat) : (s.setBp n v t).net = s.net := rfl
@[simp] theorem setBp_can (s : State) (n : Nat) (v : Bool) (t : Nat) : (s.setBp n v t).can = s.can := rfl
@[simp] theorem setBp_pnl (s : State) (n : Nat) (v : Bool) (t : Nat) : (s.setBp n v t).pnl = s.pnl := rfl
@[simp] theorem setBp_fw (s : State) (n : Nat) (v : Bool) (t : Nat) : (s.setBp n v t).fw = s.fw := rfl
@[simp] theorem setBp_sup (s : State) (n : Nat) (v : Bool) (t : Nat) : (s.setBp n v t).sup = s.sup := rfl
@[simp] theorem setBp_free (s : State) (n : Nat) (v : Bool) (t : Nat) : (s.setBp n v t).free = s.free := rfl
@[simp] theorem setBp_out (s : State) (n : Nat) (v : Bool) (t : Nat) : (s.setBp n v t).out = s.out := rfl
@[simp] theorem setBp_pending (s : State) (n : Nat) (v : Bool) (t : Nat) : (s.setBp n v t).pending = s.pending := rfl
@[simp] theorem setBp_mode (s : State) (n : Nat) (v : Bool) (t : Nat) : (s.setBp n v t).mode = s.mode := rfl
@[simp] theorem setBp_role (s : State) (n : Nat) (v : Bool) (t : Nat) : (s.setBp n v t).role = s.role := rfl
@[simp] theorem setBp_now (s : State) (n : Nat) (v : Bool) (t : Nat) : (s.setBp n v t).now = s.now := rfl
@[simp] theorem setBp_tick (s : State) (n : Nat) (v : Bool) (t : Nat) : (s.setBp n v t).tick = s.tick := rfl
@[simp] theorem setBp_eff (s : State) (n : Nat) (v : Bool) (t : Nat) (i : Nat) : (s.setBp n v t).eff i = s.eff i := rfl
@[simp] theorem setBp_entry (s : State) (n : Nat) (v : Bool) (t : Nat) (i j : Nat) : (s.setBp n v t).entry i j = s.entry i j := rfl
@[simp] theorem setBp_has (s : State) (n : Nat) (v : Bool) (t : Nat) (u : OptUnit) : (s.setBp n v t).has u = s.has u := rfl

@[simp] theorem emit_out (s : State) (x : Emission) : (s.emit x).out = s.out ++ [x] := rfl

/-! ### Time -/


@[simp] theorem elapse_mu (s : State) (dt : Nat) : (s.elapse dt).mu = s.mu := rfl
@[simp] theorem elapse_cfg (s : State) (dt : Nat) : (s.elapse dt).cfg = s.cfg := rfl
@[simp] theorem elapse_mbx (s : State) (dt : Nat) : (s.elapse dt).mbx = s.mbx := rfl
@[simp] theorem elapse_ev (s : State) (dt : Nat) : (s.elapse dt).ev = s.ev := rfl
@[simp] theorem elapse_trend (s : State) (dt : Nat) : (s.elapse dt).trend = s.trend := rfl
@[simp] theorem elapse_arch (s : State) (dt : Nat) : (s.elapse dt).arch = s.arch := rfl
@[simp] theorem elapse_pts (s : State) (dt : Nat) : (s.elapse dt).pts = s.pts := rfl
@[simp] theorem elapse_pair (s : State) (dt : Nat) : (s.elapse dt).pair = s.pair := rfl
@[simp] theorem elapse_tk (s : State) (dt : Nat) : (s.elapse dt).tk = s.tk := rfl
@[simp] theorem elapse_ret (s : State) (dt : Nat) : (s.elapse dt).ret = s.ret := rfl
@[simp] theorem elapse_ph (s : State) (dt : Nat) : (s.elapse dt).ph = s.ph := rfl
@[simp] theorem elapse_loop (s : State) (dt : Nat) : (s.elapse dt).loop = s.loop := rfl
@[simp] theorem elapse_al (s : State) (dt : Nat) : (s.elapse dt).al = s.al := rfl
@[simp] theorem elapse_lk (s : State) (dt : Nat) : (s.elapse dt).lk = s.lk := rfl
@[simp] theorem elapse_annex (s : State) (dt : Nat) : (s.elapse dt).annex = s.annex := rfl
@[simp] theorem elapse_prot (s : State) (dt : Nat) : (s.elapse dt).prot = s.prot := rfl
@[simp] theorem elapse_ai (s : State) (dt : Nat) : (s.elapse dt).ai = s.ai := rfl
@[simp] theorem elapse_ao (s : State) (dt : Nat) : (s.elapse dt).ao = s.ao := rfl
@[simp] theorem elapse_dio (s : State) (dt : Nat) : (s.elapse dt).dio = s.dio := rfl
@[simp] theorem elapse_net (s : State) (dt : Nat) : (s.elapse dt).net = s.net := rfl
@[simp] theorem elapse_can (s : State) (dt : Nat) : (s.elapse dt).can = s.can := rfl
@[simp] theorem elapse_pnl (s : State) (dt : Nat) : (s.elapse dt).pnl = s.pnl := rfl
@[simp] theorem elapse_fw (s : State) (dt : Nat) : (s.elapse dt).fw = s.fw := rfl
@[simp] theorem elapse_sup (s : State) (dt : Nat) : (s.elapse dt).sup = s.sup := rfl
@[simp] theorem elapse_free (s : State) (dt : Nat) : (s.elapse dt).free = s.free := rfl
@[simp] theorem elapse_pending (s : State) (dt : Nat) : (s.elapse dt).pending = s.pending := rfl
@[simp] theorem elapse_out (s : State) (dt : Nat) : (s.elapse dt).out = [] := rfl
@[simp] theorem elapse_variant (s : State) (dt : Nat) : (s.elapse dt).ident.variant = s.ident.variant := rfl
@[simp] theorem elapse_tick (s : State) (dt : Nat) : (s.elapse dt).tick = s.tick + dt := rfl
@[simp] theorem elapse_mode (s : State) (dt : Nat) : (s.elapse dt).mode = s.mode := rfl
@[simp] theorem elapse_role (s : State) (dt : Nat) : (s.elapse dt).role = s.role := rfl
@[simp] theorem elapse_eff (s : State) (dt i : Nat) : (s.elapse dt).eff i = s.eff i := rfl
@[simp] theorem elapse_entry (s : State) (dt i j : Nat) : (s.elapse dt).entry i j = s.entry i j := rfl

end Sys2Proof.Machine
end

