-- ==== Sys2Proof/Laws/Quiet.lean ====
section
/-!
SUPPORT. Event occurrences, notifications, completions and Archive triggers touch only event sources, the mailbox service, the Archive's
stage and what is sent: every other part of the state reads the same after them.
-/
namespace Sys2Proof.Machine

/-- The state without event sources, mailbox service, Archive and what is sent. -/
def State.body (s : State) : State := { s with ev := {}, mbx := {}, arch := {}, out := [], free := 0 }

theorem foldl_body {α : Type} {l : List α} {f : State → α → State} {s : State}
    (hf : ∀ t a, (f t a).body = t.body) : (l.foldl f s).body = s.body := by
  induction l generalizing s with
  | nil => rfl
  | cons a t ih => exact (ih (s := f s a)).trans (hf s a)

theorem emit_body (s : State) (e : Emission) : (s.emit e).body = s.body := rfl
theorem countStatus_body (s : State) (c : Nat) : (s.countStatus c).body = s.body := rfl
theorem modSession_body (s : State) (i : U32) (f : Session → Session) : (s.modSession i f).body = s.body := rfl
theorem body_mk (a b c d e f g h i j k l m n o p q r t u v w x y z a1 b1 c1 d1) :
    State.body ⟨a, b, c, d, e, f, g, h, i, j, k, l, m, n, o, p, q, r, t, u, v, w, x, y, z, a1, b1, c1, d1⟩ =
      ⟨a, b, c, d, {}, {}, g, {}, i, j, k, l, m, n, o, p, q, r, t, u, v, w, x, y, z, a1, 0, [], d1⟩ := rfl
theorem body_fold (s : State) : (⟨s.ident, s.clk, s.mu, s.cfg, {}, {}, s.trend, {}, s.pts, s.pair, s.tk, s.ret, s.ph, s.loop, s.al,
    s.lk, s.annex, s.prot, s.ai, s.ao, s.dio, s.net, s.can, s.pnl, s.fw, s.sup, 0, [], s.pending⟩ : State) = s.body := rfl

theorem notify_body (s : State) (id : U32) (a b : Nat) (l : List Byte) : (s.notify id a b l).body = s.body := by
  unfold State.notify
  split
  · rfl
  · split
    · rfl
    · split
      · rfl
      · split
        · extract_lets full t
          split <;> rfl
        · rfl

theorem stageRec_body (s : State) (a b c d e f g : Nat) (l : List Byte) (h : Nat) (i : Bool) :
    (s.stageRec a b c d e f g l h i).body = s.body := rfl

theorem archMandatory_body (s : State) (a b c d : Nat) (l : List Byte) (f : Nat) :
    (s.archMandatory a b c d l f).body = s.body := by
  unfold State.archMandatory
  split
  · exact stageRec_body _ _ _ _ _ _ _ _ _ _ _
  · split <;> rfl

theorem archRouted_body (s : State) (a b : Nat) (l : List Byte) (f g : Nat) : (s.archRouted a b l f g).body = s.body := by
  unfold State.archRouted
  extract_lets gap free t
  split <;> rfl

theorem archParts_body (s : State) (a b c d : Nat) (l : List Byte) (n k : Nat) :
    (s.archParts a b c d l n k).body = s.body := by
  induction n generalizing s k with
  | zero => rfl
  | succ n ih =>
    unfold State.archParts
    exact (ih _ _).trans (stageRec_body _ _ _ _ _ _ _ _ _ _ _)

theorem archCommand_body (s : State) (a b c : Nat) (l : List Byte) : (s.archCommand a b c l).body = s.body :=
  archParts_body _ _ _ _ _ _ _ _

theorem eventToSession_body (s : State) (k : Nat) (id : U32) : (s.eventToSession k id).body = s.body := by
  unfold State.eventToSession
  split
  · rfl
  · exact (show _ = (s.notify id 0 0 (eventBody k (tget s.ev.src k {}))).body from rfl).trans (notify_body _ _ _ _ _)

theorem eventNotify_body (s : State) (k : Nat) : (s.eventNotify k).body = s.body := by
  unfold State.eventNotify
  refine foldl_body (fun t a => ?_)
  split
  · split
    · exact eventToSession_body _ _ _
    · rfl
  · rfl

theorem raiseWith_body (s : State) (k : Nat) (d : List (Nat × Nat)) (m : Bool) (x : Nat) :
    (s.raiseWith k d m x).body = s.body := by
  unfold State.raiseWith
  split
  · rfl
  · extract_lets src s1 e det masked src2 s2 s3
    have h2 : s2.body = s.body := by
      simp only [s2]
      split <;> rfl
    split
    · exact h2
    · have h3 : s3.body = s.body := by
        simp only [s3]
        split
        · exact (eventNotify_body _ _).trans h2
        · exact h2
      split
      · exact (archMandatory_body _ _ _ _ _ _ _).trans h3
      · split
        · exact (archRouted_body _ _ _ _ _ _).trans h3
        · exact h3

theorem raise_body (s : State) (k : Nat) (d : List (Nat × Nat)) : (s.raise k d).body = s.body := raiseWith_body _ _ _ _ _
theorem raiseMand_body (s : State) (k : Nat) (d : List (Nat × Nat)) : (s.raiseMand k d).body = s.body :=
  raiseWith_body _ _ _ _ _

theorem complete_body (s : State) (id : Nat) (st : Status) (b : List Byte) : (s.complete id st b).body = s.body := by
  unfold State.complete
  split
  · rfl
  · extract_lets s1 s2 body s3
    split
    · exact (archMandatory_body _ _ _ _ _ _ _).trans rfl
    · split
      · split
        · exact (notify_body _ _ _ _ _).trans rfl
        · rfl
      · rfl

theorem completeOpt_body (s : State) (id : Option Nat) (st : Status) (b : List Byte) :
    (s.completeOpt id st b).body = s.body := by
  unfold State.completeOpt
  split
  · rfl
  · exact complete_body _ _ _ _


/-! ### raise -/

@[simp] theorem raise_ident (s : State) (k : Nat) (d : List (Nat × Nat)) : (s.raise k d).ident = s.ident :=
  (congrArg State.ident (raise_body s k d) :)
@[simp] theorem raise_clk (s : State) (k : Nat) (d : List (Nat × Nat)) : (s.raise k d).clk = s.clk :=
  (congrArg State.clk (raise_body s k d) :)
@[simp] theorem raise_mu (s : State) (k : Nat) (d : List (Nat × Nat)) : (s.raise k d).mu = s.mu :=
  (congrArg State.mu (raise_body s k d) :)
@[simp] theorem raise_cfg (s : State) (k : Nat) (d : List (Nat × Nat)) : (s.raise k d).cfg = s.cfg :=
  (congrArg State.cfg (raise_body s k d) :)
@[simp] theorem raise_trend (s : State) (k : Nat) (d : List (Nat × Nat)) : (s.raise k d).trend = s.trend :=
  (congrArg State.trend (raise_body s k d) :)
@[simp] theorem raise_pts (s : State) (k : Nat) (d : List (Nat × Nat)) : (s.raise k d).pts = s.pts :=
  (congrArg State.pts (raise_body s k d) :)
@[simp] theorem raise_pair (s : State) (k : Nat) (d : List (Nat × Nat)) : (s.raise k d).pair = s.pair :=
  (congrArg State.pair (raise_body s k d) :)
@[simp] theorem raise_tk (s : State) (k : Nat) (d : List (Nat × Nat)) : (s.raise k d).tk = s.tk :=
  (congrArg State.tk (raise_body s k d) :)
@[simp] theorem raise_ret (s : State) (k : Nat) (d : List (Nat × Nat)) : (s.raise k d).ret = s.ret :=
  (congrArg State.ret (raise_body s k d) :)
@[simp] theorem raise_ph (s : State) (k : Nat) (d : List (Nat × Nat)) : (s.raise k d).ph = s.ph :=
  (congrArg State.ph (raise_body s k d) :)
@[simp] theorem raise_loop (s : State) (k : Nat) (d : List (Nat × Nat)) : (s.raise k d).loop = s.loop :=
  (congrArg State.loop (raise_body s k d) :)
@[simp] theorem raise_al (s : State) (k : Nat) (d : List (Nat × Nat)) : (s.raise k d).al = s.al :=
  (congrArg State.al (raise_body s k d) :)
@[simp] theorem raise_lk (s : State) (k : Nat) (d : List (Nat × Nat)) : (s.raise k d).lk = s.lk :=
  (congrArg State.lk (raise_body s k d) :)
@[simp] theorem raise_annex (s : State) (k : Nat) (d : List (Nat × Nat)) : (s.raise k d).annex = s.annex :=
  (congrArg State.annex (raise_body s k d) :)
@[simp] theorem raise_prot (s : State) (k : Nat) (d : List (Nat × Nat)) : (s.raise k d).prot = s.prot :=
  (congrArg State.prot (raise_body s k d) :)
@[simp] theorem raise_ai (s : State) (k : Nat) (d : List (Nat × Nat)) : (s.raise k d).ai = s.ai :=
  (congrArg State.ai (raise_body s k d) :)
@[simp] theorem raise_ao (s : State) (k : Nat) (d : List (Nat × Nat)) : (s.raise k d).ao = s.ao :=
  (congrArg State.ao (raise_body s k d) :)
@[simp] theorem raise_dio (s : State) (k : Nat) (d : List (Nat × Nat)) : (s.raise k d).dio = s.dio :=
  (congrArg State.dio (raise_body s k d) :)
@[simp] theorem raise_net (s : State) (k : Nat) (d : List (Nat × Nat)) : (s.raise k d).net = s.net :=
  (congrArg State.net (raise_body s k d) :)
@[simp] theorem raise_can (s : State) (k : Nat) (d : List (Nat × Nat)) : (s.raise k d).can = s.can :=
  (congrArg State.can (raise_body s k d) :)
@[simp] theorem raise_pnl (s : State) (k : Nat) (d : List (Nat × Nat)) : (s.raise k d).pnl = s.pnl :=
  (congrArg State.pnl (raise_body s k d) :)
@[simp] theorem raise_fw (s : State) (k : Nat) (d : List (Nat × Nat)) : (s.raise k d).fw = s.fw :=
  (congrArg State.fw (raise_body s k d) :)
@[simp] theorem raise_sup (s : State) (k : Nat) (d : List (Nat × Nat)) : (s.raise k d).sup = s.sup :=
  (congrArg State.sup (raise_body s k d) :)
@[simp] theorem raise_pending (s : State) (k : Nat) (d : List (Nat × Nat)) : (s.raise k d).pending = s.pending :=
  (congrArg State.pending (raise_body s k d) :)
@[simp] theorem raise_mode (s : State) (k : Nat) (d : List (Nat × Nat)) : (s.raise k d).mode = s.mode :=
  (congrArg (fun t => State.mode t) (raise_body s k d) :)
@[simp] theorem raise_role (s : State) (k : Nat) (d : List (Nat × Nat)) : (s.raise k d).role = s.role :=
  (congrArg (fun t => State.role t) (raise_body s k d) :)
@[simp] theorem raise_now (s : State) (k : Nat) (d : List (Nat × Nat)) : (s.raise k d).now = s.now :=
  (congrArg (fun t => State.now t) (raise_body s k d) :)
@[simp] theorem raise_tick (s : State) (k : Nat) (d : List (Nat × Nat)) : (s.raise k d).tick = s.tick :=
  (congrArg (fun t => State.tick t) (raise_body s k d) :)
@[simp] theorem raise_eff (s : State) (k : Nat) (d : List (Nat × Nat)) (i_ : Nat) : (s.raise k d).eff i_ = s.eff i_ :=
  (congrArg (fun t => State.eff t i_) (raise_body s k d) :)
@[simp] theorem raise_entry (s : State) (k : Nat) (d : List (Nat × Nat)) (i_ j_ : Nat) : (s.raise k d).entry i_ j_ = s.entry i_ j_ :=
  (congrArg (fun t => State.entry t i_ j_) (raise_body s k d) :)
@[simp] theorem raise_has (s : State) (k : Nat) (d : List (Nat × Nat)) (u_ : OptUnit) : (s.raise k d).has u_ = s.has u_ :=
  (congrArg (fun t => State.has t u_) (raise_body s k d) :)
@[simp] theorem raise_eventPresent (s : State) (k : Nat) (d : List (Nat × Nat)) (i_ : Nat) : (s.raise k d).eventPresent i_ = s.eventPresent i_ :=
  (congrArg (fun t => State.eventPresent t i_) (raise_body s k d) :)
@[simp] theorem raise_eventBit (s : State) (k : Nat) (d : List (Nat × Nat)) (i_ j_ : Nat) : (s.raise k d).eventBit i_ j_ = s.eventBit i_ j_ :=
  (congrArg (fun t => State.eventBit t i_ j_) (raise_body s k d) :)

/-! ### raiseMand -/

@[simp] theorem raiseMand_ident (s : State) (k : Nat) (d : List (Nat × Nat)) : (s.raiseMand k d).ident = s.ident :=
  (congrArg State.ident (raiseMand_body s k d) :)
@[simp] theorem raiseMand_clk (s : State) (k : Nat) (d : List (Nat × Nat)) : (s.raiseMand k d).clk = s.clk :=
  (congrArg State.clk (raiseMand_body s k d) :)
@[simp] theorem raiseMand_mu (s : State) (k : Nat) (d : List (Nat × Nat)) : (s.raiseMand k d).mu = s.mu :=
  (congrArg State.mu (raiseMand_body s k d) :)
@[simp] theorem raiseMand_cfg (s : State) (k : Nat) (d : List (Nat × Nat)) : (s.raiseMand k d).cfg = s.cfg :=
  (congrArg State.cfg (raiseMand_body s k d) :)
@[simp] theorem raiseMand_trend (s : State) (k : Nat) (d : List (Nat × Nat)) : (s.raiseMand k d).trend = s.trend :=
  (congrArg State.trend (raiseMand_body s k d) :)
@[simp] theorem raiseMand_pts (s : State) (k : Nat) (d : List (Nat × Nat)) : (s.raiseMand k d).pts = s.pts :=
  (congrArg State.pts (raiseMand_body s k d) :)
@[simp] theorem raiseMand_pair (s : State) (k : Nat) (d : List (Nat × Nat)) : (s.raiseMand k d).pair = s.pair :=
  (congrArg State.pair (raiseMand_body s k d) :)
@[simp] theorem raiseMand_tk (s : State) (k : Nat) (d : List (Nat × Nat)) : (s.raiseMand k d).tk = s.tk :=
  (congrArg State.tk (raiseMand_body s k d) :)
@[simp] theorem raiseMand_ret (s : State) (k : Nat) (d : List (Nat × Nat)) : (s.raiseMand k d).ret = s.ret :=
  (congrArg State.ret (raiseMand_body s k d) :)
@[simp] theorem raiseMand_ph (s : State) (k : Nat) (d : List (Nat × Nat)) : (s.raiseMand k d).ph = s.ph :=
  (congrArg State.ph (raiseMand_body s k d) :)
@[simp] theorem raiseMand_loop (s : State) (k : Nat) (d : List (Nat × Nat)) : (s.raiseMand k d).loop = s.loop :=
  (congrArg State.loop (raiseMand_body s k d) :)
@[simp] theorem raiseMand_al (s : State) (k : Nat) (d : List (Nat × Nat)) : (s.raiseMand k d).al = s.al :=
  (congrArg State.al (raiseMand_body s k d) :)
@[simp] theorem raiseMand_lk (s : State) (k : Nat) (d : List (Nat × Nat)) : (s.raiseMand k d).lk = s.lk :=
  (congrArg State.lk (raiseMand_body s k d) :)
@[simp] theorem raiseMand_annex (s : State) (k : Nat) (d : List (Nat × Nat)) : (s.raiseMand k d).annex = s.annex :=
  (congrArg State.annex (raiseMand_body s k d) :)
@[simp] theorem raiseMand_prot (s : State) (k : Nat) (d : List (Nat × Nat)) : (s.raiseMand k d).prot = s.prot :=
  (congrArg State.prot (raiseMand_body s k d) :)
@[simp] theorem raiseMand_ai (s : State) (k : Nat) (d : List (Nat × Nat)) : (s.raiseMand k d).ai = s.ai :=
  (congrArg State.ai (raiseMand_body s k d) :)
@[simp] theorem raiseMand_ao (s : State) (k : Nat) (d : List (Nat × Nat)) : (s.raiseMand k d).ao = s.ao :=
  (congrArg State.ao (raiseMand_body s k d) :)
@[simp] theorem raiseMand_dio (s : State) (k : Nat) (d : List (Nat × Nat)) : (s.raiseMand k d).dio = s.dio :=
  (congrArg State.dio (raiseMand_body s k d) :)
@[simp] theorem raiseMand_net (s : State) (k : Nat) (d : List (Nat × Nat)) : (s.raiseMand k d).net = s.net :=
  (congrArg State.net (raiseMand_body s k d) :)
@[simp] theorem raiseMand_can (s : State) (k : Nat) (d : List (Nat × Nat)) : (s.raiseMand k d).can = s.can :=
  (congrArg State.can (raiseMand_body s k d) :)
@[simp] theorem raiseMand_pnl (s : State) (k : Nat) (d : List (Nat × Nat)) : (s.raiseMand k d).pnl = s.pnl :=
  (congrArg State.pnl (raiseMand_body s k d) :)
@[simp] theorem raiseMand_fw (s : State) (k : Nat) (d : List (Nat × Nat)) : (s.raiseMand k d).fw = s.fw :=
  (congrArg State.fw (raiseMand_body s k d) :)
@[simp] theorem raiseMand_sup (s : State) (k : Nat) (d : List (Nat × Nat)) : (s.raiseMand k d).sup = s.sup :=
  (congrArg State.sup (raiseMand_body s k d) :)
@[simp] theorem raiseMand_pending (s : State) (k : Nat) (d : List (Nat × Nat)) : (s.raiseMand k d).pending = s.pending :=
  (congrArg State.pending (raiseMand_body s k d) :)
@[simp] theorem raiseMand_mode (s : State) (k : Nat) (d : List (Nat × Nat)) : (s.raiseMand k d).mode = s.mode :=
  (congrArg (fun t => State.mode t) (raiseMand_body s k d) :)
@[simp] theorem raiseMand_role (s : State) (k : Nat) (d : List (Nat × Nat)) : (s.raiseMand k d).role = s.role :=
  (congrArg (fun t => State.role t) (raiseMand_body s k d) :)
@[simp] theorem raiseMand_now (s : State) (k : Nat) (d : List (Nat × Nat)) : (s.raiseMand k d).now = s.now :=
  (congrArg (fun t => State.now t) (raiseMand_body s k d) :)
@[simp] theorem raiseMand_tick (s : State) (k : Nat) (d : List (Nat × Nat)) : (s.raiseMand k d).tick = s.tick :=
  (congrArg (fun t => State.tick t) (raiseMand_body s k d) :)
@[simp] theorem raiseMand_eff (s : State) (k : Nat) (d : List (Nat × Nat)) (i_ : Nat) : (s.raiseMand k d).eff i_ = s.eff i_ :=
  (congrArg (fun t => State.eff t i_) (raiseMand_body s k d) :)
@[simp] theorem raiseMand_entry (s : State) (k : Nat) (d : List (Nat × Nat)) (i_ j_ : Nat) : (s.raiseMand k d).entry i_ j_ = s.entry i_ j_ :=
  (congrArg (fun t => State.entry t i_ j_) (raiseMand_body s k d) :)
@[simp] theorem raiseMand_has (s : State) (k : Nat) (d : List (Nat × Nat)) (u_ : OptUnit) : (s.raiseMand k d).has u_ = s.has u_ :=
  (congrArg (fun t => State.has t u_) (raiseMand_body s k d) :)
@[simp] theorem raiseMand_eventPresent (s : State) (k : Nat) (d : List (Nat × Nat)) (i_ : Nat) : (s.raiseMand k d).eventPresent i_ = s.eventPresent i_ :=
  (congrArg (fun t => State.eventPresent t i_) (raiseMand_body s k d) :)
@[simp] theorem raiseMand_eventBit (s : State) (k : Nat) (d : List (Nat × Nat)) (i_ j_ : Nat) : (s.raiseMand k d).eventBit i_ j_ = s.eventBit i_ j_ :=
  (congrArg (fun t => State.eventBit t i_ j_) (raiseMand_body s k d) :)

/-! ### raiseWith -/

@[simp] theorem raiseWith_ident (s : State) (k : Nat) (d : List (Nat × Nat)) (m : Bool) (x : Nat) : (s.raiseWith k d m x).ident = s.ident :=
  (congrArg State.ident (raiseWith_body s k d m x) :)
@[simp] theorem raiseWith_clk (s : State) (k : Nat) (d : List (Nat × Nat)) (m : Bool) (x : Nat) : (s.raiseWith k d m x).clk = s.clk :=
  (congrArg State.clk (raiseWith_body s k d m x) :)
@[simp] theorem raiseWith_mu (s : State) (k : Nat) (d : List (Nat × Nat)) (m : Bool) (x : Nat) : (s.raiseWith k d m x).mu = s.mu :=
  (congrArg State.mu (raiseWith_body s k d m x) :)
@[simp] theorem raiseWith_cfg (s : State) (k : Nat) (d : List (Nat × Nat)) (m : Bool) (x : Nat) : (s.raiseWith k d m x).cfg = s.cfg :=
  (congrArg State.cfg (raiseWith_body s k d m x) :)
@[simp] theorem raiseWith_trend (s : State) (k : Nat) (d : List (Nat × Nat)) (m : Bool) (x : Nat) : (s.raiseWith k d m x).trend = s.trend :=
  (congrArg State.trend (raiseWith_body s k d m x) :)
@[simp] theorem raiseWith_pts (s : State) (k : Nat) (d : List (Nat × Nat)) (m : Bool) (x : Nat) : (s.raiseWith k d m x).pts = s.pts :=
  (congrArg State.pts (raiseWith_body s k d m x) :)
@[simp] theorem raiseWith_pair (s : State) (k : Nat) (d : List (Nat × Nat)) (m : Bool) (x : Nat) : (s.raiseWith k d m x).pair = s.pair :=
  (congrArg State.pair (raiseWith_body s k d m x) :)
@[simp] theorem raiseWith_tk (s : State) (k : Nat) (d : List (Nat × Nat)) (m : Bool) (x : Nat) : (s.raiseWith k d m x).tk = s.tk :=
  (congrArg State.tk (raiseWith_body s k d m x) :)
@[simp] theorem raiseWith_ret (s : State) (k : Nat) (d : List (Nat × Nat)) (m : Bool) (x : Nat) : (s.raiseWith k d m x).ret = s.ret :=
  (congrArg State.ret (raiseWith_body s k d m x) :)
@[simp] theorem raiseWith_ph (s : State) (k : Nat) (d : List (Nat × Nat)) (m : Bool) (x : Nat) : (s.raiseWith k d m x).ph = s.ph :=
  (congrArg State.ph (raiseWith_body s k d m x) :)
@[simp] theorem raiseWith_loop (s : State) (k : Nat) (d : List (Nat × Nat)) (m : Bool) (x : Nat) : (s.raiseWith k d m x).loop = s.loop :=
  (congrArg State.loop (raiseWith_body s k d m x) :)
@[simp] theorem raiseWith_al (s : State) (k : Nat) (d : List (Nat × Nat)) (m : Bool) (x : Nat) : (s.raiseWith k d m x).al = s.al :=
  (congrArg State.al (raiseWith_body s k d m x) :)
@[simp] theorem raiseWith_lk (s : State) (k : Nat) (d : List (Nat × Nat)) (m : Bool) (x : Nat) : (s.raiseWith k d m x).lk = s.lk :=
  (congrArg State.lk (raiseWith_body s k d m x) :)
@[simp] theorem raiseWith_annex (s : State) (k : Nat) (d : List (Nat × Nat)) (m : Bool) (x : Nat) : (s.raiseWith k d m x).annex = s.annex :=
  (congrArg State.annex (raiseWith_body s k d m x) :)
@[simp] theorem raiseWith_prot (s : State) (k : Nat) (d : List (Nat × Nat)) (m : Bool) (x : Nat) : (s.raiseWith k d m x).prot = s.prot :=
  (congrArg State.prot (raiseWith_body s k d m x) :)
@[simp] theorem raiseWith_ai (s : State) (k : Nat) (d : List (Nat × Nat)) (m : Bool) (x : Nat) : (s.raiseWith k d m x).ai = s.ai :=
  (congrArg State.ai (raiseWith_body s k d m x) :)
@[simp] theorem raiseWith_ao (s : State) (k : Nat) (d : List (Nat × Nat)) (m : Bool) (x : Nat) : (s.raiseWith k d m x).ao = s.ao :=
  (congrArg State.ao (raiseWith_body s k d m x) :)
@[simp] theorem raiseWith_dio (s : State) (k : Nat) (d : List (Nat × Nat)) (m : Bool) (x : Nat) : (s.raiseWith k d m x).dio = s.dio :=
  (congrArg State.dio (raiseWith_body s k d m x) :)
@[simp] theorem raiseWith_net (s : State) (k : Nat) (d : List (Nat × Nat)) (m : Bool) (x : Nat) : (s.raiseWith k d m x).net = s.net :=
  (congrArg State.net (raiseWith_body s k d m x) :)
@[simp] theorem raiseWith_can (s : State) (k : Nat) (d : List (Nat × Nat)) (m : Bool) (x : Nat) : (s.raiseWith k d m x).can = s.can :=
  (congrArg State.can (raiseWith_body s k d m x) :)
@[simp] theorem raiseWith_pnl (s : State) (k : Nat) (d : List (Nat × Nat)) (m : Bool) (x : Nat) : (s.raiseWith k d m x).pnl = s.pnl :=
  (congrArg State.pnl (raiseWith_body s k d m x) :)
@[simp] theorem raiseWith_fw (s : State) (k : Nat) (d : List (Nat × Nat)) (m : Bool) (x : Nat) : (s.raiseWith k d m x).fw = s.fw :=
  (congrArg State.fw (raiseWith_body s k d m x) :)
@[simp] theorem raiseWith_sup (s : State) (k : Nat) (d : List (Nat × Nat)) (m : Bool) (x : Nat) : (s.raiseWith k d m x).sup = s.sup :=
  (congrArg State.sup (raiseWith_body s k d m x) :)
@[simp] theorem raiseWith_pending (s : State) (k : Nat) (d : List (Nat × Nat)) (m : Bool) (x : Nat) : (s.raiseWith k d m x).pending = s.pending :=
  (congrArg State.pending (raiseWith_body s k d m x) :)
@[simp] theorem raiseWith_mode (s : State) (k : Nat) (d : List (Nat × Nat)) (m : Bool) (x : Nat) : (s.raiseWith k d m x).mode = s.mode :=
  (congrArg (fun t => State.mode t) (raiseWith_body s k d m x) :)
@[simp] theorem raiseWith_role (s : State) (k : Nat) (d : List (Nat × Nat)) (m : Bool) (x : Nat) : (s.raiseWith k d m x).role = s.role :=
  (congrArg (fun t => State.role t) (raiseWith_body s k d m x) :)
@[simp] theorem raiseWith_now (s : State) (k : Nat) (d : List (Nat × Nat)) (m : Bool) (x : Nat) : (s.raiseWith k d m x).now = s.now :=
  (congrArg (fun t => State.now t) (raiseWith_body s k d m x) :)
@[simp] theorem raiseWith_tick (s : State) (k : Nat) (d : List (Nat × Nat)) (m : Bool) (x : Nat) : (s.raiseWith k d m x).tick = s.tick :=
  (congrArg (fun t => State.tick t) (raiseWith_body s k d m x) :)
@[simp] theorem raiseWith_eff (s : State) (k : Nat) (d : List (Nat × Nat)) (m : Bool) (x : Nat) (i_ : Nat) : (s.raiseWith k d m x).eff i_ = s.eff i_ :=
  (congrArg (fun t => State.eff t i_) (raiseWith_body s k d m x) :)
@[simp] theorem raiseWith_entry (s : State) (k : Nat) (d : List (Nat × Nat)) (m : Bool) (x : Nat) (i_ j_ : Nat) : (s.raiseWith k d m x).entry i_ j_ = s.entry i_ j_ :=
  (congrArg (fun t => State.entry t i_ j_) (raiseWith_body s k d m x) :)
@[simp] theorem raiseWith_has (s : State) (k : Nat) (d : List (Nat × Nat)) (m : Bool) (x : Nat) (u_ : OptUnit) : (s.raiseWith k d m x).has u_ = s.has u_ :=
  (congrArg (fun t => State.has t u_) (raiseWith_body s k d m x) :)
@[simp] theorem raiseWith_eventPresent (s : State) (k : Nat) (d : List (Nat × Nat)) (m : Bool) (x : Nat) (i_ : Nat) : (s.raiseWith k d m x).eventPresent i_ = s.eventPresent i_ :=
  (congrArg (fun t => State.eventPresent t i_) (raiseWith_body s k d m x) :)
@[simp] theorem raiseWith_eventBit (s : State) (k : Nat) (d : List (Nat × Nat)) (m : Bool) (x : Nat) (i_ j_ : Nat) : (s.raiseWith k d m x).eventBit i_ j_ = s.eventBit i_ j_ :=
  (congrArg (fun t => State.eventBit t i_ j_) (raiseWith_body s k d m x) :)

/-! ### complete -/

@[simp] theorem complete_ident (s : State) (x : Nat) (st : Status) (b : List Byte) : (s.complete x st b).ident = s.ident :=
  (congrArg State.ident (complete_body s x st b) :)
@[simp] theorem complete_clk (s : State) (x : Nat) (st : Status) (b : List Byte) : (s.complete x st b).clk = s.clk :=
  (congrArg State.clk (complete_body s x st b) :)
@[simp] theorem complete_mu (s : State) (x : Nat) (st : Status) (b : List Byte) : (s.complete x st b).mu = s.mu :=
  (congrArg State.mu (complete_body s x st b) :)
@[simp] theorem complete_cfg (s : State) (x : Nat) (st : Status) (b : List Byte) : (s.complete x st b).cfg = s.cfg :=
  (congrArg State.cfg (complete_body s x st b) :)
@[simp] theorem complete_trend (s : State) (x : Nat) (st : Status) (b : List Byte) : (s.complete x st b).trend = s.trend :=
  (congrArg State.trend (complete_body s x st b) :)
@[simp] theorem complete_pts (s : State) (x : Nat) (st : Status) (b : List Byte) : (s.complete x st b).pts = s.pts :=
  (congrArg State.pts (complete_body s x st b) :)
@[simp] theorem complete_pair (s : State) (x : Nat) (st : Status) (b : List Byte) : (s.complete x st b).pair = s.pair :=
  (congrArg State.pair (complete_body s x st b) :)
@[simp] theorem complete_tk (s : State) (x : Nat) (st : Status) (b : List Byte) : (s.complete x st b).tk = s.tk :=
  (congrArg State.tk (complete_body s x st b) :)
@[simp] theorem complete_ret (s : State) (x : Nat) (st : Status) (b : List Byte) : (s.complete x st b).ret = s.ret :=
  (congrArg State.ret (complete_body s x st b) :)
@[simp] theorem complete_ph (s : State) (x : Nat) (st : Status) (b : List Byte) : (s.complete x st b).ph = s.ph :=
  (congrArg State.ph (complete_body s x st b) :)
@[simp] theorem complete_loop (s : State) (x : Nat) (st : Status) (b : List Byte) : (s.complete x st b).loop = s.loop :=
  (congrArg State.loop (complete_body s x st b) :)
@[simp] theorem complete_al (s : State) (x : Nat) (st : Status) (b : List Byte) : (s.complete x st b).al = s.al :=
  (congrArg State.al (complete_body s x st b) :)
@[simp] theorem complete_lk (s : State) (x : Nat) (st : Status) (b : List Byte) : (s.complete x st b).lk = s.lk :=
  (congrArg State.lk (complete_body s x st b) :)
@[simp] theorem complete_annex (s : State) (x : Nat) (st : Status) (b : List Byte) : (s.complete x st b).annex = s.annex :=
  (congrArg State.annex (complete_body s x st b) :)
@[simp] theorem complete_prot (s : State) (x : Nat) (st : Status) (b : List Byte) : (s.complete x st b).prot = s.prot :=
  (congrArg State.prot (complete_body s x st b) :)
@[simp] theorem complete_ai (s : State) (x : Nat) (st : Status) (b : List Byte) : (s.complete x st b).ai = s.ai :=
  (congrArg State.ai (complete_body s x st b) :)
@[simp] theorem complete_ao (s : State) (x : Nat) (st : Status) (b : List Byte) : (s.complete x st b).ao = s.ao :=
  (congrArg State.ao (complete_body s x st b) :)
@[simp] theorem complete_dio (s : State) (x : Nat) (st : Status) (b : List Byte) : (s.complete x st b).dio = s.dio :=
  (congrArg State.dio (complete_body s x st b) :)
@[simp] theorem complete_net (s : State) (x : Nat) (st : Status) (b : List Byte) : (s.complete x st b).net = s.net :=
  (congrArg State.net (complete_body s x st b) :)
@[simp] theorem complete_can (s : State) (x : Nat) (st : Status) (b : List Byte) : (s.complete x st b).can = s.can :=
  (congrArg State.can (complete_body s x st b) :)
@[simp] theorem complete_pnl (s : State) (x : Nat) (st : Status) (b : List Byte) : (s.complete x st b).pnl = s.pnl :=
  (congrArg State.pnl (complete_body s x st b) :)
@[simp] theorem complete_fw (s : State) (x : Nat) (st : Status) (b : List Byte) : (s.complete x st b).fw = s.fw :=
  (congrArg State.fw (complete_body s x st b) :)
@[simp] theorem complete_sup (s : State) (x : Nat) (st : Status) (b : List Byte) : (s.complete x st b).sup = s.sup :=
  (congrArg State.sup (complete_body s x st b) :)
@[simp] theorem complete_pending (s : State) (x : Nat) (st : Status) (b : List Byte) : (s.complete x st b).pending = s.pending :=
  (congrArg State.pending (complete_body s x st b) :)
@[simp] theorem complete_mode (s : State) (x : Nat) (st : Status) (b : List Byte) : (s.complete x st b).mode = s.mode :=
  (congrArg (fun t => State.mode t) (complete_body s x st b) :)
@[simp] theorem complete_role (s : State) (x : Nat) (st : Status) (b : List Byte) : (s.complete x st b).role = s.role :=
  (congrArg (fun t => State.role t) (complete_body s x st b) :)
@[simp] theorem complete_now (s : State) (x : Nat) (st : Status) (b : List Byte) : (s.complete x st b).now = s.now :=
  (congrArg (fun t => State.now t) (complete_body s x st b) :)
@[simp] theorem complete_tick (s : State) (x : Nat) (st : Status) (b : List Byte) : (s.complete x st b).tick = s.tick :=
  (congrArg (fun t => State.tick t) (complete_body s x st b) :)
@[simp] theorem complete_eff (s : State) (x : Nat) (st : Status) (b : List Byte) (i_ : Nat) : (s.complete x st b).eff i_ = s.eff i_ :=
  (congrArg (fun t => State.eff t i_) (complete_body s x st b) :)
@[simp] theorem complete_entry (s : State) (x : Nat) (st : Status) (b : List Byte) (i_ j_ : Nat) : (s.complete x st b).entry i_ j_ = s.entry i_ j_ :=
  (congrArg (fun t => State.entry t i_ j_) (complete_body s x st b) :)
@[simp] theorem complete_has (s : State) (x : Nat) (st : Status) (b : List Byte) (u_ : OptUnit) : (s.complete x st b).has u_ = s.has u_ :=
  (congrArg (fun t => State.has t u_) (complete_body s x st b) :)
@[simp] theorem complete_eventPresent (s : State) (x : Nat) (st : Status) (b : List Byte) (i_ : Nat) : (s.complete x st b).eventPresent i_ = s.eventPresent i_ :=
  (congrArg (fun t => State.eventPresent t i_) (complete_body s x st b) :)
@[simp] theorem complete_eventBit (s : State) (x : Nat) (st : Status) (b : List Byte) (i_ j_ : Nat) : (s.complete x st b).eventBit i_ j_ = s.eventBit i_ j_ :=
  (congrArg (fun t => State.eventBit t i_ j_) (complete_body s x st b) :)

/-! ### completeOpt -/

@[simp] theorem completeOpt_ident (s : State) (x : Option Nat) (st : Status) (b : List Byte) : (s.completeOpt x st b).ident = s.ident :=
  (congrArg State.ident (completeOpt_body s x st b) :)
@[simp] theorem completeOpt_clk (s : State) (x : Option Nat) (st : Status) (b : List Byte) : (s.completeOpt x st b).clk = s.clk :=
  (congrArg State.clk (completeOpt_body s x st b) :)
@[simp] theorem completeOpt_mu (s : State) (x : Option Nat) (st : Status) (b : List Byte) : (s.completeOpt x st b).mu = s.mu :=
  (congrArg State.mu (completeOpt_body s x st b) :)
@[simp] theorem completeOpt_cfg (s : State) (x : Option Nat) (st : Status) (b : List Byte) : (s.completeOpt x st b).cfg = s.cfg :=
  (congrArg State.cfg (completeOpt_body s x st b) :)
@[simp] theorem completeOpt_trend (s : State) (x : Option Nat) (st : Status) (b : List Byte) : (s.completeOpt x st b).trend = s.trend :=
  (congrArg State.trend (completeOpt_body s x st b) :)
@[simp] theorem completeOpt_pts (s : State) (x : Option Nat) (st : Status) (b : List Byte) : (s.completeOpt x st b).pts = s.pts :=
  (congrArg State.pts (completeOpt_body s x st b) :)
@[simp] theorem completeOpt_pair (s : State) (x : Option Nat) (st : Status) (b : List Byte) : (s.completeOpt x st b).pair = s.pair :=
  (congrArg State.pair (completeOpt_body s x st b) :)
@[simp] theorem completeOpt_tk (s : State) (x : Option Nat) (st : Status) (b : List Byte) : (s.completeOpt x st b).tk = s.tk :=
  (congrArg State.tk (completeOpt_body s x st b) :)
@[simp] theorem completeOpt_ret (s : State) (x : Option Nat) (st : Status) (b : List Byte) : (s.completeOpt x st b).ret = s.ret :=
  (congrArg State.ret (completeOpt_body s x st b) :)
@[simp] theorem completeOpt_ph (s : State) (x : Option Nat) (st : Status) (b : List Byte) : (s.completeOpt x st b).ph = s.ph :=
  (congrArg State.ph (completeOpt_body s x st b) :)
@[simp] theorem completeOpt_loop (s : State) (x : Option Nat) (st : Status) (b : List Byte) : (s.completeOpt x st b).loop = s.loop :=
  (congrArg State.loop (completeOpt_body s x st b) :)
@[simp] theorem completeOpt_al (s : State) (x : Option Nat) (st : Status) (b : List Byte) : (s.completeOpt x st b).al = s.al :=
  (congrArg State.al (completeOpt_body s x st b) :)
@[simp] theorem completeOpt_lk (s : State) (x : Option Nat) (st : Status) (b : List Byte) : (s.completeOpt x st b).lk = s.lk :=
  (congrArg State.lk (completeOpt_body s x st b) :)
@[simp] theorem completeOpt_annex (s : State) (x : Option Nat) (st : Status) (b : List Byte) : (s.completeOpt x st b).annex = s.annex :=
  (congrArg State.annex (completeOpt_body s x st b) :)
@[simp] theorem completeOpt_prot (s : State) (x : Option Nat) (st : Status) (b : List Byte) : (s.completeOpt x st b).prot = s.prot :=
  (congrArg State.prot (completeOpt_body s x st b) :)
@[simp] theorem completeOpt_ai (s : State) (x : Option Nat) (st : Status) (b : List Byte) : (s.completeOpt x st b).ai = s.ai :=
  (congrArg State.ai (completeOpt_body s x st b) :)
@[simp] theorem completeOpt_ao (s : State) (x : Option Nat) (st : Status) (b : List Byte) : (s.completeOpt x st b).ao = s.ao :=
  (congrArg State.ao (completeOpt_body s x st b) :)
@[simp] theorem completeOpt_dio (s : State) (x : Option Nat) (st : Status) (b : List Byte) : (s.completeOpt x st b).dio = s.dio :=
  (congrArg State.dio (completeOpt_body s x st b) :)
@[simp] theorem completeOpt_net (s : State) (x : Option Nat) (st : Status) (b : List Byte) : (s.completeOpt x st b).net = s.net :=
  (congrArg State.net (completeOpt_body s x st b) :)
@[simp] theorem completeOpt_can (s : State) (x : Option Nat) (st : Status) (b : List Byte) : (s.completeOpt x st b).can = s.can :=
  (congrArg State.can (completeOpt_body s x st b) :)
@[simp] theorem completeOpt_pnl (s : State) (x : Option Nat) (st : Status) (b : List Byte) : (s.completeOpt x st b).pnl = s.pnl :=
  (congrArg State.pnl (completeOpt_body s x st b) :)
@[simp] theorem completeOpt_fw (s : State) (x : Option Nat) (st : Status) (b : List Byte) : (s.completeOpt x st b).fw = s.fw :=
  (congrArg State.fw (completeOpt_body s x st b) :)
@[simp] theorem completeOpt_sup (s : State) (x : Option Nat) (st : Status) (b : List Byte) : (s.completeOpt x st b).sup = s.sup :=
  (congrArg State.sup (completeOpt_body s x st b) :)
@[simp] theorem completeOpt_pending (s : State) (x : Option Nat) (st : Status) (b : List Byte) : (s.completeOpt x st b).pending = s.pending :=
  (congrArg State.pending (completeOpt_body s x st b) :)
@[simp] theorem completeOpt_mode (s : State) (x : Option Nat) (st : Status) (b : List Byte) : (s.completeOpt x st b).mode = s.mode :=
  (congrArg (fun t => State.mode t) (completeOpt_body s x st b) :)
@[simp] theorem completeOpt_role (s : State) (x : Option Nat) (st : Status) (b : List Byte) : (s.completeOpt x st b).role = s.role :=
  (congrArg (fun t => State.role t) (completeOpt_body s x st b) :)
@[simp] theorem completeOpt_now (s : State) (x : Option Nat) (st : Status) (b : List Byte) : (s.completeOpt x st b).now = s.now :=
  (congrArg (fun t => State.now t) (completeOpt_body s x st b) :)
@[simp] theorem completeOpt_tick (s : State) (x : Option Nat) (st : Status) (b : List Byte) : (s.completeOpt x st b).tick = s.tick :=
  (congrArg (fun t => State.tick t) (completeOpt_body s x st b) :)
@[simp] theorem completeOpt_eff (s : State) (x : Option Nat) (st : Status) (b : List Byte) (i_ : Nat) : (s.completeOpt x st b).eff i_ = s.eff i_ :=
  (congrArg (fun t => State.eff t i_) (completeOpt_body s x st b) :)
@[simp] theorem completeOpt_entry (s : State) (x : Option Nat) (st : Status) (b : List Byte) (i_ j_ : Nat) : (s.completeOpt x st b).entry i_ j_ = s.entry i_ j_ :=
  (congrArg (fun t => State.entry t i_ j_) (completeOpt_body s x st b) :)
@[simp] theorem completeOpt_has (s : State) (x : Option Nat) (st : Status) (b : List Byte) (u_ : OptUnit) : (s.completeOpt x st b).has u_ = s.has u_ :=
  (congrArg (fun t => State.has t u_) (completeOpt_body s x st b) :)
@[simp] theorem completeOpt_eventPresent (s : State) (x : Option Nat) (st : Status) (b : List Byte) (i_ : Nat) : (s.completeOpt x st b).eventPresent i_ = s.eventPresent i_ :=
  (congrArg (fun t => State.eventPresent t i_) (completeOpt_body s x st b) :)
@[simp] theorem completeOpt_eventBit (s : State) (x : Option Nat) (st : Status) (b : List Byte) (i_ j_ : Nat) : (s.completeOpt x st b).eventBit i_ j_ = s.eventBit i_ j_ :=
  (congrArg (fun t => State.eventBit t i_ j_) (completeOpt_body s x st b) :)

/-! ### notify -/

@[simp] theorem notify_ident (s : State) (x : U32) (a b : Nat) (l : List Byte) : (s.notify x a b l).ident = s.ident :=
  (congrArg State.ident (notify_body s x a b l) :)
@[simp] theorem notify_clk (s : State) (x : U32) (a b : Nat) (l : List Byte) : (s.notify x a b l).clk = s.clk :=
  (congrArg State.clk (notify_body s x a b l) :)
@[simp] theorem notify_mu (s : State) (x : U32) (a b : Nat) (l : List Byte) : (s.notify x a b l).mu = s.mu :=
  (congrArg State.mu (notify_body s x a b l) :)
@[simp] theorem notify_cfg (s : State) (x : U32) (a b : Nat) (l : List Byte) : (s.notify x a b l).cfg = s.cfg :=
  (congrArg State.cfg (notify_body s x a b l) :)
@[simp] theorem notify_trend (s : State) (x : U32) (a b : Nat) (l : List Byte) : (s.notify x a b l).trend = s.trend :=
  (congrArg State.trend (notify_body s x a b l) :)
@[simp] theorem notify_pts (s : State) (x : U32) (a b : Nat) (l : List Byte) : (s.notify x a b l).pts = s.pts :=
  (congrArg State.pts (notify_body s x a b l) :)
@[simp] theorem notify_pair (s : State) (x : U32) (a b : Nat) (l : List Byte) : (s.notify x a b l).pair = s.pair :=
  (congrArg State.pair (notify_body s x a b l) :)
@[simp] theorem notify_tk (s : State) (x : U32) (a b : Nat) (l : List Byte) : (s.notify x a b l).tk = s.tk :=
  (congrArg State.tk (notify_body s x a b l) :)
@[simp] theorem notify_ret (s : State) (x : U32) (a b : Nat) (l : List Byte) : (s.notify x a b l).ret = s.ret :=
  (congrArg State.ret (notify_body s x a b l) :)
@[simp] theorem notify_ph (s : State) (x : U32) (a b : Nat) (l : List Byte) : (s.notify x a b l).ph = s.ph :=
  (congrArg State.ph (notify_body s x a b l) :)
@[simp] theorem notify_loop (s : State) (x : U32) (a b : Nat) (l : List Byte) : (s.notify x a b l).loop = s.loop :=
  (congrArg State.loop (notify_body s x a b l) :)
@[simp] theorem notify_al (s : State) (x : U32) (a b : Nat) (l : List Byte) : (s.notify x a b l).al = s.al :=
  (congrArg State.al (notify_body s x a b l) :)
@[simp] theorem notify_lk (s : State) (x : U32) (a b : Nat) (l : List Byte) : (s.notify x a b l).lk = s.lk :=
  (congrArg State.lk (notify_body s x a b l) :)
@[simp] theorem notify_annex (s : State) (x : U32) (a b : Nat) (l : List Byte) : (s.notify x a b l).annex = s.annex :=
  (congrArg State.annex (notify_body s x a b l) :)
@[simp] theorem notify_prot (s : State) (x : U32) (a b : Nat) (l : List Byte) : (s.notify x a b l).prot = s.prot :=
  (congrArg State.prot (notify_body s x a b l) :)
@[simp] theorem notify_ai (s : State) (x : U32) (a b : Nat) (l : List Byte) : (s.notify x a b l).ai = s.ai :=
  (congrArg State.ai (notify_body s x a b l) :)
@[simp] theorem notify_ao (s : State) (x : U32) (a b : Nat) (l : List Byte) : (s.notify x a b l).ao = s.ao :=
  (congrArg State.ao (notify_body s x a b l) :)
@[simp] theorem notify_dio (s : State) (x : U32) (a b : Nat) (l : List Byte) : (s.notify x a b l).dio = s.dio :=
  (congrArg State.dio (notify_body s x a b l) :)
@[simp] theorem notify_net (s : State) (x : U32) (a b : Nat) (l : List Byte) : (s.notify x a b l).net = s.net :=
  (congrArg State.net (notify_body s x a b l) :)
@[simp] theorem notify_can (s : State) (x : U32) (a b : Nat) (l : List Byte) : (s.notify x a b l).can = s.can :=
  (congrArg State.can (notify_body s x a b l) :)
@[simp] theorem notify_pnl (s : State) (x : U32) (a b : Nat) (l : List Byte) : (s.notify x a b l).pnl = s.pnl :=
  (congrArg State.pnl (notify_body s x a b l) :)
@[simp] theorem notify_fw (s : State) (x : U32) (a b : Nat) (l : List Byte) : (s.notify x a b l).fw = s.fw :=
  (congrArg State.fw (notify_body s x a b l) :)
@[simp] theorem notify_sup (s : State) (x : U32) (a b : Nat) (l : List Byte) : (s.notify x a b l).sup = s.sup :=
  (congrArg State.sup (notify_body s x a b l) :)
@[simp] theorem notify_pending (s : State) (x : U32) (a b : Nat) (l : List Byte) : (s.notify x a b l).pending = s.pending :=
  (congrArg State.pending (notify_body s x a b l) :)
@[simp] theorem notify_mode (s : State) (x : U32) (a b : Nat) (l : List Byte) : (s.notify x a b l).mode = s.mode :=
  (congrArg (fun t => State.mode t) (notify_body s x a b l) :)
@[simp] theorem notify_role (s : State) (x : U32) (a b : Nat) (l : List Byte) : (s.notify x a b l).role = s.role :=
  (congrArg (fun t => State.role t) (notify_body s x a b l) :)
@[simp] theorem notify_now (s : State) (x : U32) (a b : Nat) (l : List Byte) : (s.notify x a b l).now = s.now :=
  (congrArg (fun t => State.now t) (notify_body s x a b l) :)
@[simp] theorem notify_tick (s : State) (x : U32) (a b : Nat) (l : List Byte) : (s.notify x a b l).tick = s.tick :=
  (congrArg (fun t => State.tick t) (notify_body s x a b l) :)
@[simp] theorem notify_eff (s : State) (x : U32) (a b : Nat) (l : List Byte) (i_ : Nat) : (s.notify x a b l).eff i_ = s.eff i_ :=
  (congrArg (fun t => State.eff t i_) (notify_body s x a b l) :)
@[simp] theorem notify_entry (s : State) (x : U32) (a b : Nat) (l : List Byte) (i_ j_ : Nat) : (s.notify x a b l).entry i_ j_ = s.entry i_ j_ :=
  (congrArg (fun t => State.entry t i_ j_) (notify_body s x a b l) :)
@[simp] theorem notify_has (s : State) (x : U32) (a b : Nat) (l : List Byte) (u_ : OptUnit) : (s.notify x a b l).has u_ = s.has u_ :=
  (congrArg (fun t => State.has t u_) (notify_body s x a b l) :)
@[simp] theorem notify_eventPresent (s : State) (x : U32) (a b : Nat) (l : List Byte) (i_ : Nat) : (s.notify x a b l).eventPresent i_ = s.eventPresent i_ :=
  (congrArg (fun t => State.eventPresent t i_) (notify_body s x a b l) :)
@[simp] theorem notify_eventBit (s : State) (x : U32) (a b : Nat) (l : List Byte) (i_ j_ : Nat) : (s.notify x a b l).eventBit i_ j_ = s.eventBit i_ j_ :=
  (congrArg (fun t => State.eventBit t i_ j_) (notify_body s x a b l) :)

/-! ### archMandatory -/

@[simp] theorem archMandatory_ident (s : State) (a b c x : Nat) (l : List Byte) (f : Nat) : (s.archMandatory a b c x l f).ident = s.ident :=
  (congrArg State.ident (archMandatory_body s a b c x l f) :)
@[simp] theorem archMandatory_clk (s : State) (a b c x : Nat) (l : List Byte) (f : Nat) : (s.archMandatory a b c x l f).clk = s.clk :=
  (congrArg State.clk (archMandatory_body s a b c x l f) :)
@[simp] theorem archMandatory_mu (s : State) (a b c x : Nat) (l : List Byte) (f : Nat) : (s.archMandatory a b c x l f).mu = s.mu :=
  (congrArg State.mu (archMandatory_body s a b c x l f) :)
@[simp] theorem archMandatory_cfg (s : State) (a b c x : Nat) (l : List Byte) (f : Nat) : (s.archMandatory a b c x l f).cfg = s.cfg :=
  (congrArg State.cfg (archMandatory_body s a b c x l f) :)
@[simp] theorem archMandatory_trend (s : State) (a b c x : Nat) (l : List Byte) (f : Nat) : (s.archMandatory a b c x l f).trend = s.trend :=
  (congrArg State.trend (archMandatory_body s a b c x l f) :)
@[simp] theorem archMandatory_pts (s : State) (a b c x : Nat) (l : List Byte) (f : Nat) : (s.archMandatory a b c x l f).pts = s.pts :=
  (congrArg State.pts (archMandatory_body s a b c x l f) :)
@[simp] theorem archMandatory_pair (s : State) (a b c x : Nat) (l : List Byte) (f : Nat) : (s.archMandatory a b c x l f).pair = s.pair :=
  (congrArg State.pair (archMandatory_body s a b c x l f) :)
@[simp] theorem archMandatory_tk (s : State) (a b c x : Nat) (l : List Byte) (f : Nat) : (s.archMandatory a b c x l f).tk = s.tk :=
  (congrArg State.tk (archMandatory_body s a b c x l f) :)
@[simp] theorem archMandatory_ret (s : State) (a b c x : Nat) (l : List Byte) (f : Nat) : (s.archMandatory a b c x l f).ret = s.ret :=
  (congrArg State.ret (archMandatory_body s a b c x l f) :)
@[simp] theorem archMandatory_ph (s : State) (a b c x : Nat) (l : List Byte) (f : Nat) : (s.archMandatory a b c x l f).ph = s.ph :=
  (congrArg State.ph (archMandatory_body s a b c x l f) :)
@[simp] theorem archMandatory_loop (s : State) (a b c x : Nat) (l : List Byte) (f : Nat) : (s.archMandatory a b c x l f).loop = s.loop :=
  (congrArg State.loop (archMandatory_body s a b c x l f) :)
@[simp] theorem archMandatory_al (s : State) (a b c x : Nat) (l : List Byte) (f : Nat) : (s.archMandatory a b c x l f).al = s.al :=
  (congrArg State.al (archMandatory_body s a b c x l f) :)
@[simp] theorem archMandatory_lk (s : State) (a b c x : Nat) (l : List Byte) (f : Nat) : (s.archMandatory a b c x l f).lk = s.lk :=
  (congrArg State.lk (archMandatory_body s a b c x l f) :)
@[simp] theorem archMandatory_annex (s : State) (a b c x : Nat) (l : List Byte) (f : Nat) : (s.archMandatory a b c x l f).annex = s.annex :=
  (congrArg State.annex (archMandatory_body s a b c x l f) :)
@[simp] theorem archMandatory_prot (s : State) (a b c x : Nat) (l : List Byte) (f : Nat) : (s.archMandatory a b c x l f).prot = s.prot :=
  (congrArg State.prot (archMandatory_body s a b c x l f) :)
@[simp] theorem archMandatory_ai (s : State) (a b c x : Nat) (l : List Byte) (f : Nat) : (s.archMandatory a b c x l f).ai = s.ai :=
  (congrArg State.ai (archMandatory_body s a b c x l f) :)
@[simp] theorem archMandatory_ao (s : State) (a b c x : Nat) (l : List Byte) (f : Nat) : (s.archMandatory a b c x l f).ao = s.ao :=
  (congrArg State.ao (archMandatory_body s a b c x l f) :)
@[simp] theorem archMandatory_dio (s : State) (a b c x : Nat) (l : List Byte) (f : Nat) : (s.archMandatory a b c x l f).dio = s.dio :=
  (congrArg State.dio (archMandatory_body s a b c x l f) :)
@[simp] theorem archMandatory_net (s : State) (a b c x : Nat) (l : List Byte) (f : Nat) : (s.archMandatory a b c x l f).net = s.net :=
  (congrArg State.net (archMandatory_body s a b c x l f) :)
@[simp] theorem archMandatory_can (s : State) (a b c x : Nat) (l : List Byte) (f : Nat) : (s.archMandatory a b c x l f).can = s.can :=
  (congrArg State.can (archMandatory_body s a b c x l f) :)
@[simp] theorem archMandatory_pnl (s : State) (a b c x : Nat) (l : List Byte) (f : Nat) : (s.archMandatory a b c x l f).pnl = s.pnl :=
  (congrArg State.pnl (archMandatory_body s a b c x l f) :)
@[simp] theorem archMandatory_fw (s : State) (a b c x : Nat) (l : List Byte) (f : Nat) : (s.archMandatory a b c x l f).fw = s.fw :=
  (congrArg State.fw (archMandatory_body s a b c x l f) :)
@[simp] theorem archMandatory_sup (s : State) (a b c x : Nat) (l : List Byte) (f : Nat) : (s.archMandatory a b c x l f).sup = s.sup :=
  (congrArg State.sup (archMandatory_body s a b c x l f) :)
@[simp] theorem archMandatory_pending (s : State) (a b c x : Nat) (l : List Byte) (f : Nat) : (s.archMandatory a b c x l f).pending = s.pending :=
  (congrArg State.pending (archMandatory_body s a b c x l f) :)
@[simp] theorem archMandatory_mode (s : State) (a b c x : Nat) (l : List Byte) (f : Nat) : (s.archMandatory a b c x l f).mode = s.mode :=
  (congrArg (fun t => State.mode t) (archMandatory_body s a b c x l f) :)
@[simp] theorem archMandatory_role (s : State) (a b c x : Nat) (l : List Byte) (f : Nat) : (s.archMandatory a b c x l f).role = s.role :=
  (congrArg (fun t => State.role t) (archMandatory_body s a b c x l f) :)
@[simp] theorem archMandatory_now (s : State) (a b c x : Nat) (l : List Byte) (f : Nat) : (s.archMandatory a b c x l f).now = s.now :=
  (congrArg (fun t => State.now t) (archMandatory_body s a b c x l f) :)
@[simp] theorem archMandatory_tick (s : State) (a b c x : Nat) (l : List Byte) (f : Nat) : (s.archMandatory a b c x l f).tick = s.tick :=
  (congrArg (fun t => State.tick t) (archMandatory_body s a b c x l f) :)
@[simp] theorem archMandatory_eff (s : State) (a b c x : Nat) (l : List Byte) (f : Nat) (i_ : Nat) : (s.archMandatory a b c x l f).eff i_ = s.eff i_ :=
  (congrArg (fun t => State.eff t i_) (archMandatory_body s a b c x l f) :)
@[simp] theorem archMandatory_entry (s : State) (a b c x : Nat) (l : List Byte) (f : Nat) (i_ j_ : Nat) : (s.archMandatory a b c x l f).entry i_ j_ = s.entry i_ j_ :=
  (congrArg (fun t => State.entry t i_ j_) (archMandatory_body s a b c x l f) :)
@[simp] theorem archMandatory_has (s : State) (a b c x : Nat) (l : List Byte) (f : Nat) (u_ : OptUnit) : (s.archMandatory a b c x l f).has u_ = s.has u_ :=
  (congrArg (fun t => State.has t u_) (archMandatory_body s a b c x l f) :)
@[simp] theorem archMandatory_eventPresent (s : State) (a b c x : Nat) (l : List Byte) (f : Nat) (i_ : Nat) : (s.archMandatory a b c x l f).eventPresent i_ = s.eventPresent i_ :=
  (congrArg (fun t => State.eventPresent t i_) (archMandatory_body s a b c x l f) :)
@[simp] theorem archMandatory_eventBit (s : State) (a b c x : Nat) (l : List Byte) (f : Nat) (i_ j_ : Nat) : (s.archMandatory a b c x l f).eventBit i_ j_ = s.eventBit i_ j_ :=
  (congrArg (fun t => State.eventBit t i_ j_) (archMandatory_body s a b c x l f) :)

/-! ### archCommand -/

@[simp] theorem archCommand_ident (s : State) (a b c : Nat) (l : List Byte) : (s.archCommand a b c l).ident = s.ident :=
  (congrArg State.ident (archCommand_body s a b c l) :)
@[simp] theorem archCommand_clk (s : State) (a b c : Nat) (l : List Byte) : (s.archCommand a b c l).clk = s.clk :=
  (congrArg State.clk (archCommand_body s a b c l) :)
@[simp] theorem archCommand_mu (s : State) (a b c : Nat) (l : List Byte) : (s.archCommand a b c l).mu = s.mu :=
  (congrArg State.mu (archCommand_body s a b c l) :)
@[simp] theorem archCommand_cfg (s : State) (a b c : Nat) (l : List Byte) : (s.archCommand a b c l).cfg = s.cfg :=
  (congrArg State.cfg (archCommand_body s a b c l) :)
@[simp] theorem archCommand_trend (s : State) (a b c : Nat) (l : List Byte) : (s.archCommand a b c l).trend = s.trend :=
  (congrArg State.trend (archCommand_body s a b c l) :)
@[simp] theorem archCommand_pts (s : State) (a b c : Nat) (l : List Byte) : (s.archCommand a b c l).pts = s.pts :=
  (congrArg State.pts (archCommand_body s a b c l) :)
@[simp] theorem archCommand_pair (s : State) (a b c : Nat) (l : List Byte) : (s.archCommand a b c l).pair = s.pair :=
  (congrArg State.pair (archCommand_body s a b c l) :)
@[simp] theorem archCommand_tk (s : State) (a b c : Nat) (l : List Byte) : (s.archCommand a b c l).tk = s.tk :=
  (congrArg State.tk (archCommand_body s a b c l) :)
@[simp] theorem archCommand_ret (s : State) (a b c : Nat) (l : List Byte) : (s.archCommand a b c l).ret = s.ret :=
  (congrArg State.ret (archCommand_body s a b c l) :)
@[simp] theorem archCommand_ph (s : State) (a b c : Nat) (l : List Byte) : (s.archCommand a b c l).ph = s.ph :=
  (congrArg State.ph (archCommand_body s a b c l) :)
@[simp] theorem archCommand_loop (s : State) (a b c : Nat) (l : List Byte) : (s.archCommand a b c l).loop = s.loop :=
  (congrArg State.loop (archCommand_body s a b c l) :)
@[simp] theorem archCommand_al (s : State) (a b c : Nat) (l : List Byte) : (s.archCommand a b c l).al = s.al :=
  (congrArg State.al (archCommand_body s a b c l) :)
@[simp] theorem archCommand_lk (s : State) (a b c : Nat) (l : List Byte) : (s.archCommand a b c l).lk = s.lk :=
  (congrArg State.lk (archCommand_body s a b c l) :)
@[simp] theorem archCommand_annex (s : State) (a b c : Nat) (l : List Byte) : (s.archCommand a b c l).annex = s.annex :=
  (congrArg State.annex (archCommand_body s a b c l) :)
@[simp] theorem archCommand_prot (s : State) (a b c : Nat) (l : List Byte) : (s.archCommand a b c l).prot = s.prot :=
  (congrArg State.prot (archCommand_body s a b c l) :)
@[simp] theorem archCommand_ai (s : State) (a b c : Nat) (l : List Byte) : (s.archCommand a b c l).ai = s.ai :=
  (congrArg State.ai (archCommand_body s a b c l) :)
@[simp] theorem archCommand_ao (s : State) (a b c : Nat) (l : List Byte) : (s.archCommand a b c l).ao = s.ao :=
  (congrArg State.ao (archCommand_body s a b c l) :)
@[simp] theorem archCommand_dio (s : State) (a b c : Nat) (l : List Byte) : (s.archCommand a b c l).dio = s.dio :=
  (congrArg State.dio (archCommand_body s a b c l) :)
@[simp] theorem archCommand_net (s : State) (a b c : Nat) (l : List Byte) : (s.archCommand a b c l).net = s.net :=
  (congrArg State.net (archCommand_body s a b c l) :)
@[simp] theorem archCommand_can (s : State) (a b c : Nat) (l : List Byte) : (s.archCommand a b c l).can = s.can :=
  (congrArg State.can (archCommand_body s a b c l) :)
@[simp] theorem archCommand_pnl (s : State) (a b c : Nat) (l : List Byte) : (s.archCommand a b c l).pnl = s.pnl :=
  (congrArg State.pnl (archCommand_body s a b c l) :)
@[simp] theorem archCommand_fw (s : State) (a b c : Nat) (l : List Byte) : (s.archCommand a b c l).fw = s.fw :=
  (congrArg State.fw (archCommand_body s a b c l) :)
@[simp] theorem archCommand_sup (s : State) (a b c : Nat) (l : List Byte) : (s.archCommand a b c l).sup = s.sup :=
  (congrArg State.sup (archCommand_body s a b c l) :)
@[simp] theorem archCommand_pending (s : State) (a b c : Nat) (l : List Byte) : (s.archCommand a b c l).pending = s.pending :=
  (congrArg State.pending (archCommand_body s a b c l) :)
@[simp] theorem archCommand_mode (s : State) (a b c : Nat) (l : List Byte) : (s.archCommand a b c l).mode = s.mode :=
  (congrArg (fun t => State.mode t) (archCommand_body s a b c l) :)
@[simp] theorem archCommand_role (s : State) (a b c : Nat) (l : List Byte) : (s.archCommand a b c l).role = s.role :=
  (congrArg (fun t => State.role t) (archCommand_body s a b c l) :)
@[simp] theorem archCommand_now (s : State) (a b c : Nat) (l : List Byte) : (s.archCommand a b c l).now = s.now :=
  (congrArg (fun t => State.now t) (archCommand_body s a b c l) :)
@[simp] theorem archCommand_tick (s : State) (a b c : Nat) (l : List Byte) : (s.archCommand a b c l).tick = s.tick :=
  (congrArg (fun t => State.tick t) (archCommand_body s a b c l) :)
@[simp] theorem archCommand_eff (s : State) (a b c : Nat) (l : List Byte) (i_ : Nat) : (s.archCommand a b c l).eff i_ = s.eff i_ :=
  (congrArg (fun t => State.eff t i_) (archCommand_body s a b c l) :)
@[simp] theorem archCommand_entry (s : State) (a b c : Nat) (l : List Byte) (i_ j_ : Nat) : (s.archCommand a b c l).entry i_ j_ = s.entry i_ j_ :=
  (congrArg (fun t => State.entry t i_ j_) (archCommand_body s a b c l) :)
@[simp] theorem archCommand_has (s : State) (a b c : Nat) (l : List Byte) (u_ : OptUnit) : (s.archCommand a b c l).has u_ = s.has u_ :=
  (congrArg (fun t => State.has t u_) (archCommand_body s a b c l) :)
@[simp] theorem archCommand_eventPresent (s : State) (a b c : Nat) (l : List Byte) (i_ : Nat) : (s.archCommand a b c l).eventPresent i_ = s.eventPresent i_ :=
  (congrArg (fun t => State.eventPresent t i_) (archCommand_body s a b c l) :)
@[simp] theorem archCommand_eventBit (s : State) (a b c : Nat) (l : List Byte) (i_ j_ : Nat) : (s.archCommand a b c l).eventBit i_ j_ = s.eventBit i_ j_ :=
  (congrArg (fun t => State.eventBit t i_ j_) (archCommand_body s a b c l) :)

/-! ### countStatus -/

@[simp] theorem countStatus_ident (s : State) (c : Nat) : (s.countStatus c).ident = s.ident := rfl
@[simp] theorem countStatus_clk (s : State) (c : Nat) : (s.countStatus c).clk = s.clk := rfl
@[simp] theorem countStatus_mu (s : State) (c : Nat) : (s.countStatus c).mu = s.mu := rfl
@[simp] theorem countStatus_cfg (s : State) (c : Nat) : (s.countStatus c).cfg = s.cfg := rfl
@[simp] theorem countStatus_trend (s : State) (c : Nat) : (s.countStatus c).trend = s.trend := rfl
@[simp] theorem countStatus_pts (s : State) (c : Nat) : (s.countStatus c).pts = s.pts := rfl
@[simp] theorem countStatus_pair (s : State) (c : Nat) : (s.countStatus c).pair = s.pair := rfl
@[simp] theorem countStatus_tk (s : State) (c : Nat) : (s.countStatus c).tk = s.tk := rfl
@[simp] theorem countStatus_ret (s : State) (c : Nat) : (s.countStatus c).ret = s.ret := rfl
@[simp] theorem countStatus_ph (s : State) (c : Nat) : (s.countStatus c).ph = s.ph := rfl
@[simp] theorem countStatus_loop (s : State) (c : Nat) : (s.countStatus c).loop = s.loop := rfl
@[simp] theorem countStatus_al (s : State) (c : Nat) : (s.countStatus c).al = s.al := rfl
@[simp] theorem countStatus_lk (s : State) (c : Nat) : (s.countStatus c).lk = s.lk := rfl
@[simp] theorem countStatus_annex (s : State) (c : Nat) : (s.countStatus c).annex = s.annex := rfl
@[simp] theorem countStatus_prot (s : State) (c : Nat) : (s.countStatus c).prot = s.prot := rfl
@[simp] theorem countStatus_ai (s : State) (c : Nat) : (s.countStatus c).ai = s.ai := rfl
@[simp] theorem countStatus_ao (s : State) (c : Nat) : (s.countStatus c).ao = s.ao := rfl
@[simp] theorem countStatus_dio (s : State) (c : Nat) : (s.countStatus c).dio = s.dio := rfl
@[simp] theorem countStatus_net (s : State) (c : Nat) : (s.countStatus c).net = s.net := rfl
@[simp] theorem countStatus_can (s : State) (c : Nat) : (s.countStatus c).can = s.can := rfl
@[simp] theorem countStatus_pnl (s : State) (c : Nat) : (s.countStatus c).pnl = s.pnl := rfl
@[simp] theorem countStatus_fw (s : State) (c : Nat) : (s.countStatus c).fw = s.fw := rfl
@[simp] theorem countStatus_sup (s : State) (c : Nat) : (s.countStatus c).sup = s.sup := rfl
@[simp] theorem countStatus_pending (s : State) (c : Nat) : (s.countStatus c).pending = s.pending := rfl
@[simp] theorem countStatus_mode (s : State) (c : Nat) : (s.countStatus c).mode = s.mode :=
  (congrArg (fun t => State.mode t) (countStatus_body s c) :)
@[simp] theorem countStatus_role (s : State) (c : Nat) : (s.countStatus c).role = s.role :=
  (congrArg (fun t => State.role t) (countStatus_body s c) :)
@[simp] theorem countStatus_now (s : State) (c : Nat) : (s.countStatus c).now = s.now :=
  (congrArg (fun t => State.now t) (countStatus_body s c) :)
@[simp] theorem countStatus_tick (s : State) (c : Nat) : (s.countStatus c).tick = s.tick :=
  (congrArg (fun t => State.tick t) (countStatus_body s c) :)
@[simp] theorem countStatus_eff (s : State) (c : Nat) (i_ : Nat) : (s.countStatus c).eff i_ = s.eff i_ :=
  (congrArg (fun t => State.eff t i_) (countStatus_body s c) :)
@[simp] theorem countStatus_entry (s : State) (c : Nat) (i_ j_ : Nat) : (s.countStatus c).entry i_ j_ = s.entry i_ j_ :=
  (congrArg (fun t => State.entry t i_ j_) (countStatus_body s c) :)
@[simp] theorem countStatus_has (s : State) (c : Nat) (u_ : OptUnit) : (s.countStatus c).has u_ = s.has u_ :=
  (congrArg (fun t => State.has t u_) (countStatus_body s c) :)
@[simp] theorem countStatus_eventPresent (s : State) (c : Nat) (i_ : Nat) : (s.countStatus c).eventPresent i_ = s.eventPresent i_ :=
  (congrArg (fun t => State.eventPresent t i_) (countStatus_body s c) :)
@[simp] theorem countStatus_eventBit (s : State) (c : Nat) (i_ j_ : Nat) : (s.countStatus c).eventBit i_ j_ = s.eventBit i_ j_ :=
  (congrArg (fun t => State.eventBit t i_ j_) (countStatus_body s c) :)

/-! ### Event sources -/

theorem notify_src (s : State) (id : U32) (a b : Nat) (l : List Byte) : (s.notify id a b l).ev.src = s.ev.src := by
  unfold State.notify
  split
  · rfl
  · split
    · rfl
    · split
      · rfl
      · split
        · extract_lets full t
          split <;> rfl
        · rfl

theorem archMandatory_ev (s : State) (a b c d : Nat) (l : List Byte) (f : Nat) : (s.archMandatory a b c d l f).ev = s.ev := by
  unfold State.archMandatory
  split
  · rfl
  · split <;> rfl

theorem archRouted_ev (s : State) (a b : Nat) (l : List Byte) (f g : Nat) : (s.archRouted a b l f g).ev = s.ev := by
  unfold State.archRouted
  extract_lets gap free t
  split <;> rfl

theorem eventToSession_src (s : State) (k : Nat) (id : U32) : (s.eventToSession k id).ev.src = s.ev.src := by
  unfold State.eventToSession
  split
  · rfl
  · exact notify_src _ _ _ _ _

theorem eventNotify_src (s : State) (k : Nat) : (s.eventNotify k).ev.src = s.ev.src := by
  unfold State.eventNotify
  have h : ∀ (l : List Session) (t : State), (l.foldl (fun (s : State) (x : Session) =>
      match x.route with
      | some r => if bit r.events k then s.eventToSession k x.id else s
      | none => s) t).ev.src = t.ev.src := by
    intro l
    induction l with
    | nil => intro t; rfl
    | cons a l ih =>
      intro t
      simp only [List.foldl_cons]
      rw [ih]
      split
      · split
        · exact eventToSession_src _ _ _
        · rfl
      · rfl
  exact h _ _

theorem satInc_ne_zero (w n : Nat) (hw : 0 < w) : satInc w n ≠ 0 := by
  unfold satInc
  have : 1 < 2 ^ w := Nat.one_lt_two_pow (by omega)
  split <;> omega

/-- The sources after an occurrence: the one that occurs counts, takes the time and the Detail, and latches where it is not masked. -/
theorem raiseWith_src (s : State) (k : Nat) (d : List (Nat × Nat)) (m : Bool) (x : Nat) :
    (s.raiseWith k d m x).ev.src =
      if s.eventPresent k then
        tmod s.ev.src k {} (fun e => { latch := e.latch || !s.eventBit 0x0160 k, count := satInc 32 e.count, time := s.now, detail := d })
      else s.ev.src := by
  unfold State.raiseWith
  split
  · rename_i h
    simp only [Bool.not_eq_eq_eq_not, Bool.not_true] at h
    simp [h]
  · rename_i h
    simp only [Bool.not_eq_true', Bool.not_eq_false] at h
    rw [if_pos h]
    extract_lets src s1 e det masked src2 s2 s3
    have hm : masked = s.eventBit 0x0160 k := rfl
    have h2 : s2.ev.src = tmod s.ev.src k {} (fun e => { latch := e.latch || !s.eventBit 0x0160 k, count := satInc 32 e.count, time := s.now, detail := d }) := by
      simp only [s2]
      rw [hm]
      cases hb : s.eventBit 0x0160 k
      · simp only [Bool.false_eq_true, if_false, s1, tmod, tget_tset_self, Bool.not_false, Bool.or_true]
        unfold tset
        rw [if_neg (by simp [satInc_ne_zero]), if_neg (by simp [satInc_ne_zero])]
        exact tput_tput _ _ _ _
      · simp only [if_true, s1, Bool.not_true, Bool.or_false]
    split
    · exact h2
    · have h3 : s3.ev.src = s2.ev.src := by
        simp only [s3]
        split
        · exact eventNotify_src _ _
        · rfl
      split
      · rw [archMandatory_ev, h3, h2]
      · split
        · rw [archRouted_ev, h3, h2]
        · rw [h3, h2]

theorem raise_src (s : State) (k : Nat) (d : List (Nat × Nat)) :
    (s.raise k d).ev.src =
      if s.eventPresent k then
        tmod s.ev.src k {} (fun e => { latch := e.latch || !s.eventBit 0x0160 k, count := satInc 32 e.count, time := s.now, detail := d })
      else s.ev.src := raiseWith_src _ _ _ _ _

theorem raiseMand_src (s : State) (k : Nat) (d : List (Nat × Nat)) :
    (s.raiseMand k d).ev.src =
      if s.eventPresent k then
        tmod s.ev.src k {} (fun e => { latch := e.latch || !s.eventBit 0x0160 k, count := satInc 32 e.count, time := s.now, detail := d })
      else s.ev.src := raiseWith_src _ _ _ _ _

theorem complete_ev (s : State) (id : Nat) (st : Status) (b : List Byte) : (s.complete id st b).ev.src = s.ev.src := by
  unfold State.complete
  split
  · rfl
  · extract_lets s1 s2 body s3
    split
    · rw [archMandatory_ev]
      rfl
    · split
      · split
        · rw [notify_src]
          rfl
        · rfl
      · rfl

theorem completeOpt_ev (s : State) (id : Option Nat) (st : Status) (b : List Byte) : (s.completeOpt id st b).ev.src = s.ev.src := by
  unfold State.completeOpt
  split
  · rfl
  · exact complete_ev _ _ _ _

/-! ### Sessions -/

/-- A session without what notifications and completions change in it. -/
def Session.base (x : Session) : Session := { x with seq := 0, done := [], waiting := [] }

/-- The open sessions without what notifications and completions change in them. -/
def State.opened (s : State) : List Session := s.mbx.sessions.map Session.base

theorem modSession_opened (s : State) (i : U32) {f : Session → Session} (hf : ∀ x, (f x).base = x.base) :
    (s.modSession i f).opened = s.opened := by
  unfold State.opened State.modSession
  simp only [List.map_map]
  refine List.map_congr_left (fun x _ => ?_)
  simp only [Function.comp]
  split
  · exact hf x
  · rfl

theorem find_map_base (l : List Session) (i : U32) :
    (l.find? (·.id == i)).map Session.base = (l.map Session.base).find? (·.id == i) := by
  induction l with
  | nil => rfl
  | cons x l ih =>
    have hx : x.base.id = x.id := rfl
    simp only [List.find?_cons, List.map_cons, hx]
    cases x.id == i <;> simp [ih]

theorem session_opened (s : State) (i : U32) : (s.session i).map Session.base = s.opened.find? (·.id == i) :=
  find_map_base _ _

/-- What stays of an open session. -/
theorem session_keep {s t : State} {i : U32} {x : Session} (h : t.opened = s.opened) (hx : s.session i = some x) :
    ∃ y, t.session i = some y ∧ y.base = x.base := by
  have := session_opened t i
  rw [h, ← session_opened s i, hx] at this
  cases hy : t.session i with
  | none => rw [hy] at this; cases this
  | some y => rw [hy] at this; exact ⟨y, rfl, Option.some.inj this⟩

theorem session_none {s : State} {i : U32} : s.session i = none ↔ ∀ y ∈ s.opened, y.id ≠ i := by
  unfold State.session State.opened
  simp only [List.find?_eq_none, List.mem_map, beq_iff_eq, forall_exists_index, and_imp, forall_apply_eq_imp_iff₂]
  rfl

theorem notify_opened (s : State) (id : U32) (a b : Nat) (l : List Byte) : (s.notify id a b l).opened = s.opened := by
  unfold State.notify
  split
  · rfl
  · split
    · rfl
    · split
      · rfl
      · split
        · extract_lets full t
          split
          · exact (show _ = t.opened from rfl).trans (modSession_opened _ _ (fun _ => rfl))
          · exact modSession_opened _ _ (fun _ => rfl)
        · exact (show _ = (s.modSession id _).opened from rfl).trans (modSession_opened _ _ (fun _ => rfl))

theorem archMandatory_mbx (s : State) (a b c d : Nat) (l : List Byte) (f : Nat) : (s.archMandatory a b c d l f).mbx = s.mbx := by
  unfold State.archMandatory
  split
  · rfl
  · split <;> rfl

theorem archRouted_mbx (s : State) (a b : Nat) (l : List Byte) (f g : Nat) : (s.archRouted a b l f g).mbx = s.mbx := by
  unfold State.archRouted
  extract_lets gap free t
  split <;> rfl

theorem archMandatory_out (s : State) (a b c d : Nat) (l : List Byte) (f : Nat) : (s.archMandatory a b c d l f).out = s.out := by
  unfold State.archMandatory
  split
  · rfl
  · split <;> rfl

theorem foldl_opened {α : Type} {l : List α} {f : State → α → State} {s : State}
    (hf : ∀ t a, (f t a).opened = t.opened) : (l.foldl f s).opened = s.opened := by
  induction l generalizing s with
  | nil => rfl
  | cons a t ih => exact (ih (s := f s a)).trans (hf s a)

theorem eventToSession_opened (s : State) (k : Nat) (id : U32) : (s.eventToSession k id).opened = s.opened := by
  unfold State.eventToSession
  split
  · rfl
  · exact notify_opened _ _ _ _ _

theorem eventNotify_opened (s : State) (k : Nat) : (s.eventNotify k).opened = s.opened := by
  unfold State.eventNotify
  refine foldl_opened (fun t a => ?_)
  split
  · split
    · exact eventToSession_opened _ _ _
    · rfl
  · rfl

theorem raiseWith_opened (s : State) (k : Nat) (d : List (Nat × Nat)) (m : Bool) (x : Nat) : (s.raiseWith k d m x).opened = s.opened := by
  unfold State.raiseWith
  split
  · rfl
  · extract_lets src s1 e det masked src2 s2 s3
    have h2 : s2.opened = s.opened := by
      simp only [s2]
      split <;> rfl
    split
    · exact h2
    · have h3 : s3.opened = s.opened := by
        simp only [s3]
        split
        · exact (eventNotify_opened _ _).trans h2
        · exact h2
      split
      · exact (show _ = s3.opened by unfold State.opened; rw [archMandatory_mbx]).trans h3
      · split
        · exact (show _ = s3.opened by unfold State.opened; rw [archRouted_mbx]).trans h3
        · exact h3

theorem raise_opened (s : State) (k : Nat) (d : List (Nat × Nat)) : (s.raise k d).opened = s.opened := raiseWith_opened _ _ _ _ _

/-! ### What is sent -/

theorem notify_out (s : State) (id : U32) (a b : Nat) (l : List Byte) : s.out <+: (s.notify id a b l).out := by
  unfold State.notify
  split
  · exact List.prefix_rfl
  · split
    · exact List.prefix_rfl
    · split
      · exact List.prefix_rfl
      · split
        · extract_lets full t
          split <;> exact List.prefix_rfl
        · exact List.prefix_append _ _

theorem foldl_out {α : Type} {l : List α} {f : State → α → State} {s : State}
    (hf : ∀ t a, t.out <+: (f t a).out) : s.out <+: (l.foldl f s).out := by
  induction l generalizing s with
  | nil => exact List.prefix_rfl
  | cons a t ih => exact (hf s a).trans (ih (s := f s a))

theorem eventToSession_out (s : State) (k : Nat) (id : U32) : s.out <+: (s.eventToSession k id).out := by
  unfold State.eventToSession
  split
  · exact List.prefix_rfl
  · exact notify_out _ _ _ _ _

theorem eventNotify_out (s : State) (k : Nat) : s.out <+: (s.eventNotify k).out := by
  unfold State.eventNotify
  refine foldl_out (fun t a => ?_)
  split
  · split
    · exact eventToSession_out _ _ _
    · exact List.prefix_rfl
  · exact List.prefix_rfl

theorem archRouted_out (s : State) (a b : Nat) (l : List Byte) (f g : Nat) : (s.archRouted a b l f g).out = s.out := by
  unfold State.archRouted
  extract_lets gap free t
  split <;> rfl

theorem raiseWith_out (s : State) (k : Nat) (d : List (Nat × Nat)) (m : Bool) (x : Nat) : s.out <+: (s.raiseWith k d m x).out := by
  unfold State.raiseWith
  split
  · exact List.prefix_rfl
  · extract_lets src s1 e det masked src2 s2 s3
    have h2 : s2.out = s.out := by
      simp only [s2]
      split <;> rfl
    split
    · rw [h2]
    · have h3 : s.out <+: s3.out := by
        simp only [s3]
        split
        · exact h2 ▸ eventNotify_out _ _
        · rw [h2]
      split
      · rw [archMandatory_out]; exact h3
      · split
        · rw [archRouted_out]; exact h3
        · exact h3

theorem raise_out (s : State) (k : Nat) (d : List (Nat × Nat)) : s.out <+: (s.raise k d).out := raiseWith_out _ _ _ _ _
theorem raiseMand_out (s : State) (k : Nat) (d : List (Nat × Nat)) : s.out <+: (s.raiseMand k d).out := raiseWith_out _ _ _ _ _

theorem complete_out (s : State) (i : Nat) (st : Status) (l : List Byte) : s.out <+: (s.complete i st l).out := by
  unfold State.complete
  split
  · exact List.prefix_rfl
  · extract_lets src s1 s2 body s3
    split
    · rw [archMandatory_out]; exact List.prefix_rfl
    · split
      · split
        · exact (show s.out <+: s3.out from List.prefix_rfl).trans (notify_out _ _ _ _ _)
        · exact List.prefix_rfl
      · exact List.prefix_rfl

theorem completeOpt_out (s : State) (i : Option Nat) (st : Status) (l : List Byte) : s.out <+: (s.completeOpt i st l).out := by
  unfold State.completeOpt
  split
  · exact List.prefix_rfl
  · exact complete_out _ _ _ _

theorem complete_opened (s : State) (i : Nat) (st : Status) (l : List Byte) : (s.complete i st l).opened = s.opened := by
  unfold State.complete
  split
  · rfl
  · extract_lets src s1 s2 body s3
    split
    · unfold State.opened; rw [archMandatory_mbx]; rfl
    · have h3 : s3.opened = s.opened := modSession_opened _ _ (fun _ => rfl)
      split
      · split
        · exact (notify_opened _ _ _ _ _).trans h3
        · exact h3
      · exact h3

theorem completeOpt_opened (s : State) (i : Option Nat) (st : Status) (l : List Byte) :
    (s.completeOpt i st l).opened = s.opened := by
  unfold State.completeOpt
  split
  · rfl
  · exact complete_opened _ _ _ _

end Sys2Proof.Machine
end

