-- ==== Sys2Proof/Laws/Events.lean ====
section
/-!
SUPPORT. An event raised is an occurrence (R112, R113).
-/
namespace Sys2Proof.Machine

/-- An event raised in a state that agrees with `e` on what the occurrence records occurs, whatever follows that leaves the event
sources alone. -/
theorem occurs_raiseWith {e t u : State} {k : Nat} {d : List (Nat × Nat)} {m : Bool} {x : Nat}
    (h : t.ev.src = (u.raiseWith k d m x).ev.src) (hp : u.eventPresent k = e.eventPresent k)
    (hs : tget u.ev.src k {} = tget e.ev.src k {}) (ht : u.now = e.now) : Occurs e t k d := by
  intro hk
  rw [h, raiseWith_src, hp, if_pos hk]
  simp only [tmod, tget_tset_self, hs, ht]
  exact ⟨trivial, trivial, trivial⟩

theorem occurs_raise {e t u : State} {k : Nat} {d : List (Nat × Nat)} (h : t.ev.src = (u.raise k d).ev.src)
    (hp : u.eventPresent k = e.eventPresent k) (hs : tget u.ev.src k {} = tget e.ev.src k {}) (ht : u.now = e.now) :
    Occurs e t k d := occurs_raiseWith h hp hs ht

theorem occurs_raiseMand {e t u : State} {k : Nat} {d : List (Nat × Nat)} (h : t.ev.src = (u.raiseMand k d).ev.src)
    (hp : u.eventPresent k = e.eventPresent k) (hs : tget u.ev.src k {} = tget e.ev.src k {}) (ht : u.now = e.now) :
    Occurs e t k d := occurs_raiseWith h hp hs ht

/-- The sources of other events stay as they were. -/
theorem raise_src_ne {u : State} {k j : Nat} (d : List (Nat × Nat)) (h : j ≠ k) :
    tget (u.raise k d).ev.src j {} = tget u.ev.src j {} := by
  rw [State.raise, raiseWith_src]
  split
  · exact tget_tset_ne _ h _ _ _
  · rfl

theorem raiseMand_src_ne {u : State} {k j : Nat} (d : List (Nat × Nat)) (h : j ≠ k) :
    tget (u.raiseMand k d).ev.src j {} = tget u.ev.src j {} := by
  rw [State.raiseMand, raiseWith_src]
  split
  · exact tget_tset_ne _ h _ _ _
  · rfl

end Sys2Proof.Machine
end

