-- ==== Sys2Proof/Laws/Frame.lean ====
section
/-!
SUPPORT. What each function of the machine can change: one lemma per function says that everything outside its footprint stays as it
is. A footprint is a set of parts of the state (`Part`), given as the bits of a number; `State.view hid` is the state with the parts
in `m` hidden (and without what any command may touch: event sources, sessions, the Archive's stage, what is sent).
-/
namespace Sys2Proof.Machine

/-- The set of parts `a` lies in the set `hid`. -/
def Sub (a hid : Nat) : Prop := a &&& hid = a

theorem Sub.of {a b hid : Nat} (h : Sub b hid) (hab : a &&& b = a) : Sub a hid := by
  unfold Sub at *
  rw [← hab, Nat.land_assoc, h]

/-- A part of the state, hidden where it belongs to the set `hid`. -/
def hide {α : Type} (hid k : Nat) (x : α) : Option α := if hid.testBit k then none else some x

theorem hide_on {α : Type} {hid k : Nat} {x y : α} (h : Sub (1 <<< k) hid) : hide hid k x = hide hid k y := by
  have hb : hid.testBit k = true := by
    have h1 : ((1 <<< k) &&& hid).testBit k = (1 <<< k).testBit k := by rw [h]
    simpa using h1
  unfold hide
  rw [if_pos hb, if_pos hb]

theorem hide_off {α : Type} {hid k : Nat} {x y : α} (hb : hid.testBit k = false) (h : hide hid k x = hide hid k y) : x = y := by
  unfold hide at h
  simpa [hb] using h

/-- A state with the parts in a set hidden. -/
structure View where
  name : Nat × U64 × U16 × U64 × U64 × Nat × Nat
  pending : List Instr
  cycles : Option (U32)
  release : Option (U16)
  clk : Option (Clk)
  mu : Option (ModeUnit)
  store : Option ((Option Image) × U32 × (Option Image))
  working : Option (Image)
  effect : Option (Image × Bool × Nat × Nat × Nat × Bool × Bool × (List (Nat × Nat)) × (Option (Option Nat × Nat)) × (Tab Nat))
  transfer : Option ((List (U32 × Nat × List Byte)) × (Option Import))
  keys : Option ((Tab (List Byte)))
  ops : Option ((List AsyncOp) × Nat)
  agreed : Option ((List PairCmd) × (List Relay))
  trend : Option (Trend)
  archive : Option ((Tab (Option ArchRec)) × (Tab (Option ArchRec)) × Nat × Nat × Nat × Nat × Nat × Nat × Nat)
  pts : Option (PImage)
  pair : Option (Bool × Nat × Bool × Lane × Lane × (Option U32) × Bool × Bool × Bool × (Option Nat) × (List (Nat × Nat × Nat)) × Bool × Bool × Partner × Bool × Nat × Nat × Nat × Nat × (Option Nat) × (Option Nat) × (Option Nat) × Nat × (List Nat) × U32 × U32 × U32 × U32 × U32 × U32 × Nat × Heartbeat × (Option Departure) × (Option Nat) × (Option Copy))
  program : Option (ProgSlot × ProgSlot × Nat × Program × (Option Nat) × (Option ProgSwitch) × U32 × Nat)
  forces : Option ((Tab Force) × Bool × Bool)
  tasks : Option ((Tab Task) × Nat × U32 × Nat × Nat)
  ret : Option (Retain)
  ph : Option (Phase)
  loop : Option (Loop)
  alarm : Option ((Tab AlEnt) × (Tab AlGrp) × Ladder × (List Nat) × (List Nat) × Nat × (Option Nat) × Nat × Nat × U32 × U64 × Nat × Nat × U32 × U32 × (List AlWait) × (Option Nat) × (Option (AlPass × Nat)) × Bool)
  journal : Option (Nat × (List JourRec) × Bool × (Tab (Option JourRec)) × Nat × U32 × Nat)
  lockstep : Option ((Tab CorePair) × (Option Debugger) × (Tab SigWindow))
  dram : Option ((Tab Byte) × (Tab U64) × (List DebugWrite))
  annex : Option (Annex)
  prot : Option (Prot)
  ai : Option (Ai)
  ao : Option (Ao)
  dio : Option (Dio)
  net : Option (Net)
  can : Option (Can)
  pnl : Option (Panel)
  fw : Option (Firmware)
  sup : Option (Supply)

/-- The state with the parts in `hid` hidden. -/
def State.view (hid : Nat) (s : State) : View := {
  name := (s.ident.variant, s.ident.serial, s.ident.hwRev, s.ident.madeAt, s.ident.baseMac, s.ident.opSeconds, s.ident.opTicks)
  pending := s.pending
  cycles := hide hid 0 s.ident.powerCycles
  release := hide hid 1 s.ident.fwRelease
  clk := hide hid 2 s.clk
  mu := hide hid 3 s.mu
  store := hide hid 4 (s.cfg.committed, s.cfg.generation, s.cfg.older)
  working := hide hid 5 s.cfg.working
  effect := hide hid 6 (s.cfg.base, s.cfg.loaded, s.cfg.state, s.cfg.migratedFrom, s.cfg.dropCount, s.cfg.applyCommitted, s.cfg.applyDiscard, s.cfg.liveTables, s.cfg.commit, s.cfg.skipped)
  transfer := hide hid 7 (s.cfg.exports, s.cfg.importing)
  keys := hide hid 8 s.mbx.keys
  ops := hide hid 9 (s.mbx.async, s.mbx.nextOp)
  agreed := hide hid 10 (s.mbx.scheduled, s.mbx.relays)
  trend := hide hid 11 s.trend
  archive := hide hid 12 (s.arch.tail, s.arch.head, s.arch.flashed, s.arch.wraps, s.arch.capacity, s.arch.headLost, s.arch.rebuilds, s.arch.lastDown, s.arch.prevHalt)
  pts := hide hid 13 s.pts
  pair := hide hid 14 (s.pair.heartbeat, s.pair.lastToggle, s.pair.isolSeen, s.pair.sl0, s.pair.sl1, s.pair.seqIn, s.pair.sync, s.pair.joining, s.pair.resync, s.pair.resumeAt, s.pair.takenOut, s.pair.flag, s.pair.loneAo, s.pair.partner, s.pair.gone, s.pair.feature, s.pair.revision, s.pair.options, s.pair.flagCause, s.pair.soakFrom, s.pair.takebackAfter, s.pair.swap, s.pair.lastCopy, s.pair.divTicks, s.pair.divergences, s.pair.resyncs, s.pair.lateDigests, s.pair.goneCount, s.pair.swaps, s.pair.mirrors, s.pair.refuseCause, s.pair.line, s.pair.departure, s.pair.isolation, s.pair.copy)
  program := hide hid 15 (s.tk.slotA, s.tk.slotB, s.tk.active, s.tk.prog, s.tk.loadNext, s.tk.switch, s.tk.switches, s.tk.changes)
  forces := hide hid 16 (s.tk.forces, s.tk.applied, s.tk.peerForces)
  tasks := hide hid 17 (s.tk.task, s.tk.lastFault, s.tk.restarts, s.tk.dropped, s.tk.gap)
  ret := hide hid 18 s.ret
  ph := hide hid 19 s.ph
  loop := hide hid 20 s.loop
  alarm := hide hid 21 (s.al.ent, s.al.grp, s.al.lad, s.al.clsActive, s.al.clsUnacked, s.al.scan, s.al.last, s.al.edges, s.al.scanMax, s.al.mismatches, s.al.signature, s.al.follow, s.al.invalids, s.al.ackRefused, s.al.noRung, s.al.waiting, s.al.frameSeq, s.al.half, s.al.behind)
  journal := hide hid 22 (s.al.jnext, s.al.ring, s.al.jbehind, s.al.flash, s.al.flashed, s.al.lost, s.al.lostPending)
  lockstep := hide hid 23 (s.lk.pair, s.lk.debugger, s.lk.window)
  dram := hide hid 24 (s.lk.dram, s.lk.regs, s.lk.writes)
  annex := hide hid 25 s.annex
  prot := hide hid 26 s.prot
  ai := hide hid 27 s.ai
  ao := hide hid 28 s.ao
  dio := hide hid 29 s.dio
  net := hide hid 30 s.net
  can := hide hid 31 s.can
  pnl := hide hid 32 s.pnl
  fw := hide hid 33 s.fw
  sup := hide hid 34 s.sup }

theorem view_of {hid : Nat} {s t : State}
    (hn : (t.ident.variant, t.ident.serial, t.ident.hwRev, t.ident.madeAt, t.ident.baseMac, t.ident.opSeconds, t.ident.opTicks) = (s.ident.variant, s.ident.serial, s.ident.hwRev, s.ident.madeAt, s.ident.baseMac, s.ident.opSeconds, s.ident.opTicks))
    (hp : t.pending = s.pending)
    (h0 : hide hid 0 t.ident.powerCycles = hide hid 0 s.ident.powerCycles)
    (h1 : hide hid 1 t.ident.fwRelease = hide hid 1 s.ident.fwRelease)
    (h2 : hide hid 2 t.clk = hide hid 2 s.clk)
    (h3 : hide hid 3 t.mu = hide hid 3 s.mu)
    (h4 : hide hid 4 (t.cfg.committed, t.cfg.generation, t.cfg.older) = hide hid 4 (s.cfg.committed, s.cfg.generation, s.cfg.older))
    (h5 : hide hid 5 t.cfg.working = hide hid 5 s.cfg.working)
    (h6 : hide hid 6 (t.cfg.base, t.cfg.loaded, t.cfg.state, t.cfg.migratedFrom, t.cfg.dropCount, t.cfg.applyCommitted, t.cfg.applyDiscard, t.cfg.liveTables, t.cfg.commit, t.cfg.skipped) = hide hid 6 (s.cfg.base, s.cfg.loaded, s.cfg.state, s.cfg.migratedFrom, s.cfg.dropCount, s.cfg.applyCommitted, s.cfg.applyDiscard, s.cfg.liveTables, s.cfg.commit, s.cfg.skipped))
    (h7 : hide hid 7 (t.cfg.exports, t.cfg.importing) = hide hid 7 (s.cfg.exports, s.cfg.importing))
    (h8 : hide hid 8 t.mbx.keys = hide hid 8 s.mbx.keys)
    (h9 : hide hid 9 (t.mbx.async, t.mbx.nextOp) = hide hid 9 (s.mbx.async, s.mbx.nextOp))
    (h10 : hide hid 10 (t.mbx.scheduled, t.mbx.relays) = hide hid 10 (s.mbx.scheduled, s.mbx.relays))
    (h11 : hide hid 11 t.trend = hide hid 11 s.trend)
    (h12 : hide hid 12 (t.arch.tail, t.arch.head, t.arch.flashed, t.arch.wraps, t.arch.capacity, t.arch.headLost, t.arch.rebuilds, t.arch.lastDown, t.arch.prevHalt) = hide hid 12 (s.arch.tail, s.arch.head, s.arch.flashed, s.arch.wraps, s.arch.capacity, s.arch.headLost, s.arch.rebuilds, s.arch.lastDown, s.arch.prevHalt))
    (h13 : hide hid 13 t.pts = hide hid 13 s.pts)
    (h14 : hide hid 14 (t.pair.heartbeat, t.pair.lastToggle, t.pair.isolSeen, t.pair.sl0, t.pair.sl1, t.pair.seqIn, t.pair.sync, t.pair.joining, t.pair.resync, t.pair.resumeAt, t.pair.takenOut, t.pair.flag, t.pair.loneAo, t.pair.partner, t.pair.gone, t.pair.feature, t.pair.revision, t.pair.options, t.pair.flagCause, t.pair.soakFrom, t.pair.takebackAfter, t.pair.swap, t.pair.lastCopy, t.pair.divTicks, t.pair.divergences, t.pair.resyncs, t.pair.lateDigests, t.pair.goneCount, t.pair.swaps, t.pair.mirrors, t.pair.refuseCause, t.pair.line, t.pair.departure, t.pair.isolation, t.pair.copy) = hide hid 14 (s.pair.heartbeat, s.pair.lastToggle, s.pair.isolSeen, s.pair.sl0, s.pair.sl1, s.pair.seqIn, s.pair.sync, s.pair.joining, s.pair.resync, s.pair.resumeAt, s.pair.takenOut, s.pair.flag, s.pair.loneAo, s.pair.partner, s.pair.gone, s.pair.feature, s.pair.revision, s.pair.options, s.pair.flagCause, s.pair.soakFrom, s.pair.takebackAfter, s.pair.swap, s.pair.lastCopy, s.pair.divTicks, s.pair.divergences, s.pair.resyncs, s.pair.lateDigests, s.pair.goneCount, s.pair.swaps, s.pair.mirrors, s.pair.refuseCause, s.pair.line, s.pair.departure, s.pair.isolation, s.pair.copy))
    (h15 : hide hid 15 (t.tk.slotA, t.tk.slotB, t.tk.active, t.tk.prog, t.tk.loadNext, t.tk.switch, t.tk.switches, t.tk.changes) = hide hid 15 (s.tk.slotA, s.tk.slotB, s.tk.active, s.tk.prog, s.tk.loadNext, s.tk.switch, s.tk.switches, s.tk.changes))
    (h16 : hide hid 16 (t.tk.forces, t.tk.applied, t.tk.peerForces) = hide hid 16 (s.tk.forces, s.tk.applied, s.tk.peerForces))
    (h17 : hide hid 17 (t.tk.task, t.tk.lastFault, t.tk.restarts, t.tk.dropped, t.tk.gap) = hide hid 17 (s.tk.task, s.tk.lastFault, s.tk.restarts, s.tk.dropped, s.tk.gap))
    (h18 : hide hid 18 t.ret = hide hid 18 s.ret)
    (h19 : hide hid 19 t.ph = hide hid 19 s.ph)
    (h20 : hide hid 20 t.loop = hide hid 20 s.loop)
    (h21 : hide hid 21 (t.al.ent, t.al.grp, t.al.lad, t.al.clsActive, t.al.clsUnacked, t.al.scan, t.al.last, t.al.edges, t.al.scanMax, t.al.mismatches, t.al.signature, t.al.follow, t.al.invalids, t.al.ackRefused, t.al.noRung, t.al.waiting, t.al.frameSeq, t.al.half, t.al.behind) = hide hid 21 (s.al.ent, s.al.grp, s.al.lad, s.al.clsActive, s.al.clsUnacked, s.al.scan, s.al.last, s.al.edges, s.al.scanMax, s.al.mismatches, s.al.signature, s.al.follow, s.al.invalids, s.al.ackRefused, s.al.noRung, s.al.waiting, s.al.frameSeq, s.al.half, s.al.behind))
    (h22 : hide hid 22 (t.al.jnext, t.al.ring, t.al.jbehind, t.al.flash, t.al.flashed, t.al.lost, t.al.lostPending) = hide hid 22 (s.al.jnext, s.al.ring, s.al.jbehind, s.al.flash, s.al.flashed, s.al.lost, s.al.lostPending))
    (h23 : hide hid 23 (t.lk.pair, t.lk.debugger, t.lk.window) = hide hid 23 (s.lk.pair, s.lk.debugger, s.lk.window))
    (h24 : hide hid 24 (t.lk.dram, t.lk.regs, t.lk.writes) = hide hid 24 (s.lk.dram, s.lk.regs, s.lk.writes))
    (h25 : hide hid 25 t.annex = hide hid 25 s.annex)
    (h26 : hide hid 26 t.prot = hide hid 26 s.prot)
    (h27 : hide hid 27 t.ai = hide hid 27 s.ai)
    (h28 : hide hid 28 t.ao = hide hid 28 s.ao)
    (h29 : hide hid 29 t.dio = hide hid 29 s.dio)
    (h30 : hide hid 30 t.net = hide hid 30 s.net)
    (h31 : hide hid 31 t.can = hide hid 31 s.can)
    (h32 : hide hid 32 t.pnl = hide hid 32 s.pnl)
    (h33 : hide hid 33 t.fw = hide hid 33 s.fw)
    (h34 : hide hid 34 t.sup = hide hid 34 s.sup) :
    t.view hid = s.view hid := by
  unfold State.view
  rw [hn, hp, h0, h1, h2, h3, h4, h5, h6, h7, h8, h9, h10, h11, h12, h13, h14, h15, h16, h17, h18, h19, h20, h21, h22, h23, h24, h25, h26, h27, h28, h29, h30, h31, h32, h33, h34]

/-- A record update that touches only hidden parts keeps the view. -/
theorem view_lit {hid : Nat} {t : State} {xident xclk xmu xcfg xmbx xev xtrend xarch xpts xpair xtk xret xph xloop xal xlk xannex xprot xai xao xdio xnet xcan xpnl xfw xsup xfree xout}
    (hn : (Ident.variant xident, Ident.serial xident, Ident.hwRev xident, Ident.madeAt xident, Ident.baseMac xident, Ident.opSeconds xident, Ident.opTicks xident) = (t.ident.variant, t.ident.serial, t.ident.hwRev, t.ident.madeAt, t.ident.baseMac, t.ident.opSeconds, t.ident.opTicks))
    (h0 : hide hid 0 (Ident.powerCycles xident) = hide hid 0 t.ident.powerCycles)
    (h1 : hide hid 1 (Ident.fwRelease xident) = hide hid 1 t.ident.fwRelease)
    (h2 : hide hid 2 xclk = hide hid 2 t.clk)
    (h3 : hide hid 3 xmu = hide hid 3 t.mu)
    (h4 : hide hid 4 (Cfg.committed xcfg, Cfg.generation xcfg, Cfg.older xcfg) = hide hid 4 (t.cfg.committed, t.cfg.generation, t.cfg.older))
    (h5 : hide hid 5 (Cfg.working xcfg) = hide hid 5 t.cfg.working)
    (h6 : hide hid 6 (Cfg.base xcfg, Cfg.loaded xcfg, Cfg.state xcfg, Cfg.migratedFrom xcfg, Cfg.dropCount xcfg, Cfg.applyCommitted xcfg, Cfg.applyDiscard xcfg, Cfg.liveTables xcfg, Cfg.commit xcfg, Cfg.skipped xcfg) = hide hid 6 (t.cfg.base, t.cfg.loaded, t.cfg.state, t.cfg.migratedFrom, t.cfg.dropCount, t.cfg.applyCommitted, t.cfg.applyDiscard, t.cfg.liveTables, t.cfg.commit, t.cfg.skipped))
    (h7 : hide hid 7 (Cfg.exports xcfg, Cfg.importing xcfg) = hide hid 7 (t.cfg.exports, t.cfg.importing))
    (h8 : hide hid 8 (Mbx.keys xmbx) = hide hid 8 t.mbx.keys)
    (h9 : hide hid 9 (Mbx.async xmbx, Mbx.nextOp xmbx) = hide hid 9 (t.mbx.async, t.mbx.nextOp))
    (h10 : hide hid 10 (Mbx.scheduled xmbx, Mbx.relays xmbx) = hide hid 10 (t.mbx.scheduled, t.mbx.relays))
    (h11 : hide hid 11 xtrend = hide hid 11 t.trend)
    (h12 : hide hid 12 (Archive.tail xarch, Archive.head xarch, Archive.flashed xarch, Archive.wraps xarch, Archive.capacity xarch, Archive.headLost xarch, Archive.rebuilds xarch, Archive.lastDown xarch, Archive.prevHalt xarch) = hide hid 12 (t.arch.tail, t.arch.head, t.arch.flashed, t.arch.wraps, t.arch.capacity, t.arch.headLost, t.arch.rebuilds, t.arch.lastDown, t.arch.prevHalt))
    (h13 : hide hid 13 xpts = hide hid 13 t.pts)
    (h14 : hide hid 14 (Pair.heartbeat xpair, Pair.lastToggle xpair, Pair.isolSeen xpair, Pair.sl0 xpair, Pair.sl1 xpair, Pair.seqIn xpair, Pair.sync xpair, Pair.joining xpair, Pair.resync xpair, Pair.resumeAt xpair, Pair.takenOut xpair, Pair.flag xpair, Pair.loneAo xpair, Pair.partner xpair, Pair.gone xpair, Pair.feature xpair, Pair.revision xpair, Pair.options xpair, Pair.flagCause xpair, Pair.soakFrom xpair, Pair.takebackAfter xpair, Pair.swap xpair, Pair.lastCopy xpair, Pair.divTicks xpair, Pair.divergences xpair, Pair.resyncs xpair, Pair.lateDigests xpair, Pair.goneCount xpair, Pair.swaps xpair, Pair.mirrors xpair, Pair.refuseCause xpair, Pair.line xpair, Pair.departure xpair, Pair.isolation xpair, Pair.copy xpair) = hide hid 14 (t.pair.heartbeat, t.pair.lastToggle, t.pair.isolSeen, t.pair.sl0, t.pair.sl1, t.pair.seqIn, t.pair.sync, t.pair.joining, t.pair.resync, t.pair.resumeAt, t.pair.takenOut, t.pair.flag, t.pair.loneAo, t.pair.partner, t.pair.gone, t.pair.feature, t.pair.revision, t.pair.options, t.pair.flagCause, t.pair.soakFrom, t.pair.takebackAfter, t.pair.swap, t.pair.lastCopy, t.pair.divTicks, t.pair.divergences, t.pair.resyncs, t.pair.lateDigests, t.pair.goneCount, t.pair.swaps, t.pair.mirrors, t.pair.refuseCause, t.pair.line, t.pair.departure, t.pair.isolation, t.pair.copy))
    (h15 : hide hid 15 (Tasks.slotA xtk, Tasks.slotB xtk, Tasks.active xtk, Tasks.prog xtk, Tasks.loadNext xtk, Tasks.switch xtk, Tasks.switches xtk, Tasks.changes xtk) = hide hid 15 (t.tk.slotA, t.tk.slotB, t.tk.active, t.tk.prog, t.tk.loadNext, t.tk.switch, t.tk.switches, t.tk.changes))
    (h16 : hide hid 16 (Tasks.forces xtk, Tasks.applied xtk, Tasks.peerForces xtk) = hide hid 16 (t.tk.forces, t.tk.applied, t.tk.peerForces))
    (h17 : hide hid 17 (Tasks.task xtk, Tasks.lastFault xtk, Tasks.restarts xtk, Tasks.dropped xtk, Tasks.gap xtk) = hide hid 17 (t.tk.task, t.tk.lastFault, t.tk.restarts, t.tk.dropped, t.tk.gap))
    (h18 : hide hid 18 xret = hide hid 18 t.ret)
    (h19 : hide hid 19 xph = hide hid 19 t.ph)
    (h20 : hide hid 20 xloop = hide hid 20 t.loop)
    (h21 : hide hid 21 (Alarm.ent xal, Alarm.grp xal, Alarm.lad xal, Alarm.clsActive xal, Alarm.clsUnacked xal, Alarm.scan xal, Alarm.last xal, Alarm.edges xal, Alarm.scanMax xal, Alarm.mismatches xal, Alarm.signature xal, Alarm.follow xal, Alarm.invalids xal, Alarm.ackRefused xal, Alarm.noRung xal, Alarm.waiting xal, Alarm.frameSeq xal, Alarm.half xal, Alarm.behind xal) = hide hid 21 (t.al.ent, t.al.grp, t.al.lad, t.al.clsActive, t.al.clsUnacked, t.al.scan, t.al.last, t.al.edges, t.al.scanMax, t.al.mismatches, t.al.signature, t.al.follow, t.al.invalids, t.al.ackRefused, t.al.noRung, t.al.waiting, t.al.frameSeq, t.al.half, t.al.behind))
    (h22 : hide hid 22 (Alarm.jnext xal, Alarm.ring xal, Alarm.jbehind xal, Alarm.flash xal, Alarm.flashed xal, Alarm.lost xal, Alarm.lostPending xal) = hide hid 22 (t.al.jnext, t.al.ring, t.al.jbehind, t.al.flash, t.al.flashed, t.al.lost, t.al.lostPending))
    (h23 : hide hid 23 (Lockstep.pair xlk, Lockstep.debugger xlk, Lockstep.window xlk) = hide hid 23 (t.lk.pair, t.lk.debugger, t.lk.window))
    (h24 : hide hid 24 (Lockstep.dram xlk, Lockstep.regs xlk, Lockstep.writes xlk) = hide hid 24 (t.lk.dram, t.lk.regs, t.lk.writes))
    (h25 : hide hid 25 xannex = hide hid 25 t.annex)
    (h26 : hide hid 26 xprot = hide hid 26 t.prot)
    (h27 : hide hid 27 xai = hide hid 27 t.ai)
    (h28 : hide hid 28 xao = hide hid 28 t.ao)
    (h29 : hide hid 29 xdio = hide hid 29 t.dio)
    (h30 : hide hid 30 xnet = hide hid 30 t.net)
    (h31 : hide hid 31 xcan = hide hid 31 t.can)
    (h32 : hide hid 32 xpnl = hide hid 32 t.pnl)
    (h33 : hide hid 33 xfw = hide hid 33 t.fw)
    (h34 : hide hid 34 xsup = hide hid 34 t.sup) :
    State.view hid (State.mk xident xclk xmu xcfg xmbx xev xtrend xarch xpts xpair xtk xret xph xloop xal xlk xannex xprot xai xao xdio xnet xcan xpnl xfw xsup xfree xout t.pending) = t.view hid :=
  view_of hn rfl h0 h1 h2 h3 h4 h5 h6 h7 h8 h9 h10 h11 h12 h13 h14 h15 h16 h17 h18 h19 h20 h21 h22 h23 h24 h25 h26 h27 h28 h29 h30 h31 h32 h33 h34

set_option linter.unusedSimpArgs false
set_option linter.unreachableTactic false
set_option linter.unusedTactic false
set_option linter.unusedVariables false

variable {hid : Nat}

theorem foldl_keep {α : Type} {l : List α} {f : State → α → State} {s : State} {V : View}
    (hf : ∀ t a, (f t a).view hid = t.view hid) (h : s.view hid = V) : (l.foldl f s).view hid = V := by
  induction l generalizing s with
  | nil => exact h
  | cons a t ih => exact ih ((hf s a).trans h)

theorem foldl_keep2 {α β : Type} {l : List α} {f : β × State → α → β × State} {b : β × State} {V : View}
    (hf : ∀ t a, (f t a).2.view hid = t.2.view hid) (h : b.2.view hid = V) : (l.foldl f b).2.view hid = V := by
  induction l generalizing b with
  | nil => exact h
  | cons a t ih => exact ih ((hf b a).trans h)

theorem ite_view {c : Prop} [Decidable c] {a b : State} {V : View} (ha : a.view hid = V) (hb : b.view hid = V) :
    (if c then a else b).view hid = V := by
  split
  · exact ha
  · exact hb
theorem emit_view (s : State) (e : Emission) : (State.emit s e).view hid = s.view hid := by
  unfold State.emit
  repeat' (first | assumption | intro _ | simp (disch := first | exact hide_on (Sub.of (by assumption) (by decide)) | with_reducible rfl | exact Sub.of (by assumption) (by decide) | assumption) only [view_lit, apply_ite (State.view hid), ite_self] | split | with_reducible rfl)

theorem lane_view (s : State) (kind : ℕ) (fields : List ℕ) (bytes : optParam (List Byte) []) : (State.lane s kind fields bytes).view hid = s.view hid := by
  unfold State.lane
  repeat' (first | assumption | intro _ | simp (disch := first | exact hide_on (Sub.of (by assumption) (by decide)) | with_reducible rfl | exact Sub.of (by assumption) (by decide) | assumption) only [emit_view, view_lit, apply_ite (State.view hid), ite_self] | split | with_reducible rfl)

theorem setAp_view (s : State) (n : ℕ) (v : ℕ) (t : ℕ) (hm : Sub 0x2000 hid) : (State.setAp s n v t).view hid = s.view hid := by
  unfold State.setAp
  repeat' (first | assumption | intro _ | simp (disch := first | exact hide_on (Sub.of (by assumption) (by decide)) | with_reducible rfl | exact Sub.of (by assumption) (by decide) | assumption) only [view_lit, apply_ite (State.view hid), ite_self] | split | with_reducible rfl)

theorem setBp_view (s : State) (n : ℕ) (v : Bool) (t : ℕ) (hm : Sub 0x2000 hid) : (State.setBp s n v t).view hid = s.view hid := by
  unfold State.setBp
  repeat' (first | assumption | intro _ | simp (disch := first | exact hide_on (Sub.of (by assumption) (by decide)) | with_reducible rfl | exact Sub.of (by assumption) (by decide) | assumption) only [view_lit, apply_ite (State.view hid), ite_self] | split | with_reducible rfl)

theorem countStatus_view (s : State) (c : ℕ) : (State.countStatus s c).view hid = s.view hid := by
  unfold State.countStatus
  repeat' (first | assumption | intro _ | simp (disch := first | exact hide_on (Sub.of (by assumption) (by decide)) | with_reducible rfl | exact Sub.of (by assumption) (by decide) | assumption) only [view_lit, apply_ite (State.view hid), ite_self] | split | with_reducible rfl)

theorem modSession_view (s : State) (id : U32) (f : Session → Session) : (State.modSession s id f).view hid = s.view hid := by
  unfold State.modSession
  repeat' (first | assumption | intro _ | simp (disch := first | exact hide_on (Sub.of (by assumption) (by decide)) | with_reducible rfl | exact Sub.of (by assumption) (by decide) | assumption) only [view_lit, apply_ite (State.view hid), ite_self] | split | with_reducible rfl)

theorem notify_view (s : State) (id : U32) (status : ℕ) (tag : ℕ) (body : List Byte) : (State.notify s id status tag body).view hid = s.view hid := by
  unfold State.notify
  repeat' (first | assumption | intro _ | simp (disch := first | exact hide_on (Sub.of (by assumption) (by decide)) | with_reducible rfl | exact Sub.of (by assumption) (by decide) | assumption) only [emit_view, modSession_view, view_lit, apply_ite (State.view hid), ite_self] | split | with_reducible rfl)

theorem stagePut_view (s : State) (r : ArchRec) : (State.stagePut s r).view hid = s.view hid := by
  unfold State.stagePut
  repeat' (first | assumption | intro _ | simp (disch := first | exact hide_on (Sub.of (by assumption) (by decide)) | with_reducible rfl | exact Sub.of (by assumption) (by decide) | assumption) only [view_lit, apply_ite (State.view hid), ite_self] | split | with_reducible rfl)

theorem stageRec_view (s : State) (cls : ℕ) (kind : ℕ) (source : ℕ) (session : ℕ) (flags : ℕ) (part : ℕ) (parts : ℕ) (detail : List Byte) (time : ℕ) (snap : Bool) : (State.stageRec s cls kind source session flags part parts detail time snap).view hid = s.view hid := by
  unfold State.stageRec
  repeat' (first | assumption | intro _ | simp (disch := first | exact hide_on (Sub.of (by assumption) (by decide)) | with_reducible rfl | exact Sub.of (by assumption) (by decide) | assumption) only [stagePut_view, view_lit, apply_ite (State.view hid), ite_self] | split | with_reducible rfl)

theorem archMandatory_view (s : State) (cls : ℕ) (kind : ℕ) (source : ℕ) (session : ℕ) (detail : List Byte) (flags : optParam ℕ 0) : (State.archMandatory s cls kind source session detail flags).view hid = s.view hid := by
  unfold State.archMandatory
  repeat' (first | assumption | intro _ | simp (disch := first | exact hide_on (Sub.of (by assumption) (by decide)) | with_reducible rfl | exact Sub.of (by assumption) (by decide) | assumption) only [stageRec_view, view_lit, apply_ite (State.view hid), ite_self] | split | with_reducible rfl)

theorem archRouted_view (s : State) (cls : ℕ) (k : ℕ) (detail : List Byte) (flags : ℕ) (time : ℕ) : (State.archRouted s cls k detail flags time).view hid = s.view hid := by
  unfold State.archRouted
  repeat' (first | assumption | intro _ | simp (disch := first | exact hide_on (Sub.of (by assumption) (by decide)) | with_reducible rfl | exact Sub.of (by assumption) (by decide) | assumption) only [stageRec_view, view_lit, apply_ite (State.view hid), ite_self] | split | with_reducible rfl)

theorem archParts_view (s : State) (cls : ℕ) (kind : ℕ) (source : ℕ) (session : ℕ) (body : List Byte) (x6 : ℕ) (x7 : ℕ) : (State.archParts s cls kind source session body x6 x7).view hid = s.view hid := by
  induction x6 generalizing s x7 with
  | zero => rfl
  | succ n ih =>
    unfold State.archParts
    repeat' (first | assumption | intro _ | simp (disch := first | exact hide_on (Sub.of (by assumption) (by decide)) | with_reducible rfl | exact Sub.of (by assumption) (by decide) | assumption) only [ih, stageRec_view, view_lit, apply_ite (State.view hid), ite_self] | split | with_reducible rfl)

theorem archCommand_view (s : State) (cls : ℕ) (code : ℕ) (session : ℕ) (body : List Byte) : (State.archCommand s cls code session body).view hid = s.view hid := by
  unfold State.archCommand
  repeat' (first | assumption | intro _ | simp (disch := first | exact hide_on (Sub.of (by assumption) (by decide)) | with_reducible rfl | exact Sub.of (by assumption) (by decide) | assumption) only [archParts_view, view_lit, apply_ite (State.view hid), ite_self] | split | with_reducible rfl)

theorem eventToSession_view (s : State) (k : ℕ) (id : U32) : (State.eventToSession s k id).view hid = s.view hid := by
  unfold State.eventToSession
  repeat' (first | assumption | intro _ | simp (disch := first | exact hide_on (Sub.of (by assumption) (by decide)) | with_reducible rfl | exact Sub.of (by assumption) (by decide) | assumption) only [notify_view, view_lit, apply_ite (State.view hid), ite_self] | split | with_reducible rfl)

theorem eventNotify_view (s : State) (k : ℕ) : (State.eventNotify s k).view hid = s.view hid := by
  unfold State.eventNotify
  repeat' (first | assumption | intro _ | simp (disch := first | exact hide_on (Sub.of (by assumption) (by decide)) | with_reducible rfl | exact Sub.of (by assumption) (by decide) | assumption) only [eventToSession_view, view_lit, apply_ite (State.view hid), ite_self] | with_reducible apply foldl_keep | with_reducible apply foldl_keep2 | split | with_reducible rfl)

theorem raiseWith_view (s : State) (k : ℕ) (d : List (ℕ × ℕ)) (mand : Bool) (session : ℕ) : (State.raiseWith s k d mand session).view hid = s.view hid := by
  unfold State.raiseWith
  repeat' (first | assumption | intro _ | simp (disch := first | exact hide_on (Sub.of (by assumption) (by decide)) | with_reducible rfl | exact Sub.of (by assumption) (by decide) | assumption) only [archMandatory_view, archRouted_view, eventNotify_view, view_lit, apply_ite (State.view hid), ite_self] | split | with_reducible rfl)

theorem raise_view (s : State) (k : ℕ) (d : optParam (List (ℕ × ℕ)) []) : (State.raise s k d).view hid = s.view hid := by
  unfold State.raise
  repeat' (first | assumption | intro _ | simp (disch := first | exact hide_on (Sub.of (by assumption) (by decide)) | with_reducible rfl | exact Sub.of (by assumption) (by decide) | assumption) only [raiseWith_view, view_lit, apply_ite (State.view hid), ite_self] | split | with_reducible rfl)

theorem raiseMand_view (s : State) (k : ℕ) (d : optParam (List (ℕ × ℕ)) []) : (State.raiseMand s k d).view hid = s.view hid := by
  unfold State.raiseMand
  repeat' (first | assumption | intro _ | simp (disch := first | exact hide_on (Sub.of (by assumption) (by decide)) | with_reducible rfl | exact Sub.of (by assumption) (by decide) | assumption) only [raiseWith_view, view_lit, apply_ite (State.view hid), ite_self] | split | with_reducible rfl)

theorem complete_view (s : State) (id : ℕ) (st : Status) (result : optParam (List Byte) []) (hm : Sub 0x200 hid) : (State.complete s id st result).view hid = s.view hid := by
  unfold State.complete
  repeat' (first | assumption | intro _ | simp (disch := first | exact hide_on (Sub.of (by assumption) (by decide)) | with_reducible rfl | exact Sub.of (by assumption) (by decide) | assumption) only [countStatus_view, modSession_view, notify_view, archMandatory_view, view_lit, apply_ite (State.view hid), ite_self] | split | with_reducible rfl)

theorem completeOpt_view (s : State) (id : Option ℕ) (st : Status) (result : optParam (List Byte) []) (hm : Sub 0x200 hid) : (State.completeOpt s id st result).view hid = s.view hid := by
  unfold State.completeOpt
  repeat' (first | assumption | intro _ | simp (disch := first | exact hide_on (Sub.of (by assumption) (by decide)) | with_reducible rfl | exact Sub.of (by assumption) (by decide) | assumption) only [complete_view, view_lit, apply_ite (State.view hid), ite_self] | split | with_reducible rfl)

theorem modTask_view (s : State) (n : ℕ) (f : Task → Task) (hm : Sub 0x20000 hid) : (State.modTask s n f).view hid = s.view hid := by
  unfold State.modTask
  repeat' (first | assumption | intro _ | simp (disch := first | exact hide_on (Sub.of (by assumption) (by decide)) | with_reducible rfl | exact Sub.of (by assumption) (by decide) | assumption) only [view_lit, apply_ite (State.view hid), ite_self] | split | with_reducible rfl)

theorem setDue_view (s : State) (n : ℕ) (t : ℕ) (hm : Sub 0x20000 hid) : (State.setDue s n t).view hid = s.view hid := by
  unfold State.setDue
  repeat' (first | assumption | intro _ | simp (disch := first | exact hide_on (Sub.of (by assumption) (by decide)) | with_reducible rfl | exact Sub.of (by assumption) (by decide) | assumption) only [modTask_view, view_lit, apply_ite (State.view hid), ite_self] | split | with_reducible rfl)

theorem edgeStarts_view (s : State) (p : ℕ) (a : Bool) (b : Bool) (t : ℕ) (hm : Sub 0x20000 hid) : (State.edgeStarts s p a b t).view hid = s.view hid := by
  unfold State.edgeStarts
  repeat' (first | assumption | intro _ | simp (disch := first | exact hide_on (Sub.of (by assumption) (by decide)) | with_reducible rfl | exact Sub.of (by assumption) (by decide) | assumption) only [setDue_view, view_lit, apply_ite (State.view hid), ite_self] | with_reducible apply foldl_keep | with_reducible apply foldl_keep2 | split | with_reducible rfl)

theorem modForce_view (s : State) (k : ℕ) (f : Force → Force) (hm : Sub 0x10000 hid) : (State.modForce s k f).view hid = s.view hid := by
  unfold State.modForce
  repeat' (first | assumption | intro _ | simp (disch := first | exact hide_on (Sub.of (by assumption) (by decide)) | with_reducible rfl | exact Sub.of (by assumption) (by decide) | assumption) only [view_lit, apply_ite (State.view hid), ite_self] | split | with_reducible rfl)

theorem putBp_view (s : State) (p : ℕ) (v : Bool) (t : ℕ) (hm : Sub 0x22000 hid) : (State.putBp s p v t).view hid = s.view hid := by
  unfold State.putBp
  repeat' (first | assumption | intro _ | simp (disch := first | exact hide_on (Sub.of (by assumption) (by decide)) | with_reducible rfl | exact Sub.of (by assumption) (by decide) | assumption) only [setBp_view, edgeStarts_view, view_lit, apply_ite (State.view hid), ite_self] | split | with_reducible rfl)

theorem produceAp_view (s : State) (p : ℕ) (v : ℕ) (t : ℕ) (hm : Sub 0x12000 hid) : (State.produceAp s p v t).view hid = s.view hid := by
  unfold State.produceAp
  repeat' (first | assumption | intro _ | simp (disch := first | exact hide_on (Sub.of (by assumption) (by decide)) | with_reducible rfl | exact Sub.of (by assumption) (by decide) | assumption) only [setAp_view, modForce_view, view_lit, apply_ite (State.view hid), ite_self] | split | with_reducible rfl)

theorem produceBp_view (s : State) (p : ℕ) (v : Bool) (t : ℕ) (hm : Sub 0x32000 hid) : (State.produceBp s p v t).view hid = s.view hid := by
  unfold State.produceBp
  repeat' (first | assumption | intro _ | simp (disch := first | exact hide_on (Sub.of (by assumption) (by decide)) | with_reducible rfl | exact Sub.of (by assumption) (by decide) | assumption) only [modForce_view, putBp_view, view_lit, apply_ite (State.view hid), ite_self] | split | with_reducible rfl)

theorem installForce_view (s : State) (k : ℕ) (hm : Sub 0x32000 hid) : (State.installForce s k).view hid = s.view hid := by
  unfold State.installForce
  repeat' (first | assumption | intro _ | simp (disch := first | exact hide_on (Sub.of (by assumption) (by decide)) | with_reducible rfl | exact Sub.of (by assumption) (by decide) | assumption) only [setAp_view, modForce_view, putBp_view, view_lit, apply_ite (State.view hid), ite_self] | split | with_reducible rfl)

theorem liftForce_view (s : State) (k : ℕ) (hm : Sub 0x32000 hid) : (State.liftForce s k).view hid = s.view hid := by
  unfold State.liftForce
  repeat' (first | assumption | intro _ | simp (disch := first | exact hide_on (Sub.of (by assumption) (by decide)) | with_reducible rfl | exact Sub.of (by assumption) (by decide) | assumption) only [setAp_view, modForce_view, putBp_view, view_lit, apply_ite (State.view hid), ite_self] | split | with_reducible rfl)

theorem dropForce_view (s : State) (k : ℕ) (hm : Sub 0x32000 hid) : (State.dropForce s k).view hid = s.view hid := by
  unfold State.dropForce
  repeat' (first | assumption | intro _ | simp (disch := first | exact hide_on (Sub.of (by assumption) (by decide)) | with_reducible rfl | exact Sub.of (by assumption) (by decide) | assumption) only [liftForce_view, view_lit, apply_ite (State.view hid), ite_self] | split | with_reducible rfl)

theorem endForces_view (s : State) (hm : Sub 0x32000 hid) : (State.endForces s).view hid = s.view hid := by
  unfold State.endForces
  repeat' (first | assumption | intro _ | simp (disch := first | exact hide_on (Sub.of (by assumption) (by decide)) | with_reducible rfl | exact Sub.of (by assumption) (by decide) | assumption) only [dropForce_view, view_lit, apply_ite (State.view hid), ite_self] | with_reducible apply foldl_keep | with_reducible apply foldl_keep2 | split | with_reducible rfl)

theorem installForces_view (s : State) (hm : Sub 0x32000 hid) : (State.installForces s).view hid = s.view hid := by
  unfold State.installForces
  repeat' (first | assumption | intro _ | simp (disch := first | exact hide_on (Sub.of (by assumption) (by decide)) | with_reducible rfl | exact Sub.of (by assumption) (by decide) | assumption) only [installForce_view, endForces_view, view_lit, apply_ite (State.view hid), ite_self] | with_reducible apply foldl_keep | with_reducible apply foldl_keep2 | split | with_reducible rfl)

theorem installFor_view (s : State) (c : Cycle) (hm : Sub 0x32000 hid) : (State.installFor s c).view hid = s.view hid := by
  unfold State.installFor
  repeat' (first | assumption | intro _ | simp (disch := first | exact hide_on (Sub.of (by assumption) (by decide)) | with_reducible rfl | exact Sub.of (by assumption) (by decide) | assumption) only [endForces_view, installForces_view, view_lit, apply_ite (State.view hid), ite_self] | split | with_reducible rfl)

theorem refreshForces_view (s : State) (hm : Sub 0x32000 hid) : (State.refreshForces s).view hid = s.view hid := by
  unfold State.refreshForces
  repeat' (first | assumption | intro _ | simp (disch := first | exact hide_on (Sub.of (by assumption) (by decide)) | with_reducible rfl | exact Sub.of (by assumption) (by decide) | assumption) only [raise_view, liftForce_view, endForces_view, view_lit, apply_ite (State.view hid), ite_self] | with_reducible apply foldl_keep | with_reducible apply foldl_keep2 | split | with_reducible rfl)

theorem publishAp_view (s : State) (kind : ℕ) (producer : ℕ) (v : ℕ) (t : ℕ) (hm : Sub 0x12000 hid) : (State.publishAp s kind producer v t).view hid = s.view hid := by
  unfold State.publishAp
  repeat' (first | assumption | intro _ | simp (disch := first | exact hide_on (Sub.of (by assumption) (by decide)) | with_reducible rfl | exact Sub.of (by assumption) (by decide) | assumption) only [produceAp_view, view_lit, apply_ite (State.view hid), ite_self] | split | with_reducible rfl)

theorem publishBp_view (s : State) (kind : ℕ) (producer : ℕ) (v : Bool) (t : ℕ) (hm : Sub 0x32000 hid) : (State.publishBp s kind producer v t).view hid = s.view hid := by
  unfold State.publishBp
  repeat' (first | assumption | intro _ | simp (disch := first | exact hide_on (Sub.of (by assumption) (by decide)) | with_reducible rfl | exact Sub.of (by assumption) (by decide) | assumption) only [produceBp_view, view_lit, apply_ite (State.view hid), ite_self] | split | with_reducible rfl)

theorem takeFree_view (s : State) : (State.takeFree s).2.view hid = s.view hid := by
  unfold State.takeFree
  repeat' (first | assumption | intro _ | simp (disch := first | exact hide_on (Sub.of (by assumption) (by decide)) | with_reducible rfl | exact Sub.of (by assumption) (by decide) | assumption) only [view_lit, apply_ite (State.view hid), ite_self] | split | with_reducible rfl)
theorem takeFree_view' {s : State} {aa : _} {tt : State}  (h : (State.takeFree s) = (aa, tt)) : tt.view hid = s.view hid := by
  have := takeFree_view (hid := hid) s
  rwa [h] at this

theorem modAo_view (s : State) (n : ℕ) (f : AoChan → AoChan) (hm : Sub 0x10000000 hid) : (State.modAo s n f).view hid = s.view hid := by
  unfold State.modAo
  repeat' (first | assumption | intro _ | simp (disch := first | exact hide_on (Sub.of (by assumption) (by decide)) | with_reducible rfl | exact Sub.of (by assumption) (by decide) | assumption) only [view_lit, apply_ite (State.view hid), ite_self] | split | with_reducible rfl)

theorem aoFault_view (s : State) (n : ℕ) (hm : Sub 0x10000000 hid) : (State.aoFault s n).view hid = s.view hid := by
  unfold State.aoFault
  repeat' (first | assumption | intro _ | simp (disch := first | exact hide_on (Sub.of (by assumption) (by decide)) | with_reducible rfl | exact Sub.of (by assumption) (by decide) | assumption) only [modAo_view, view_lit, apply_ite (State.view hid), ite_self] | split | with_reducible rfl)

theorem setAoCmd_view (s : State) (n : ℕ) (v : ℕ) (hm : Sub 0x10000000 hid) : (State.setAoCmd s n v).view hid = s.view hid := by
  unfold State.setAoCmd
  repeat' (first | assumption | intro _ | simp (disch := first | exact hide_on (Sub.of (by assumption) (by decide)) | with_reducible rfl | exact Sub.of (by assumption) (by decide) | assumption) only [modAo_view, aoFault_view, view_lit, apply_ite (State.view hid), ite_self] | split | with_reducible rfl)

theorem raiseShares_view (s : State) (cause : ℕ) (hm : Sub 0x10000000 hid) : (State.raiseShares s cause).view hid = s.view hid := by
  unfold State.raiseShares
  repeat' (first | assumption | intro _ | simp (disch := first | exact hide_on (Sub.of (by assumption) (by decide)) | with_reducible rfl | exact Sub.of (by assumption) (by decide) | assumption) only [raise_view, view_lit, apply_ite (State.view hid), ite_self] | with_reducible apply foldl_keep | with_reducible apply foldl_keep2 | split | with_reducible rfl)

theorem modIn_view (s : State) (n : ℕ) (f : Input → Input) (hm : Sub 0x20000000 hid) : (State.modIn s n f).view hid = s.view hid := by
  unfold State.modIn
  repeat' (first | assumption | intro _ | simp (disch := first | exact hide_on (Sub.of (by assumption) (by decide)) | with_reducible rfl | exact Sub.of (by assumption) (by decide) | assumption) only [view_lit, apply_ite (State.view hid), ite_self] | split | with_reducible rfl)

theorem modSw_view (s : State) (m : ℕ) (f : Switch → Switch) (hm : Sub 0x20000000 hid) : (State.modSw s m f).view hid = s.view hid := by
  unfold State.modSw
  repeat' (first | assumption | intro _ | simp (disch := first | exact hide_on (Sub.of (by assumption) (by decide)) | with_reducible rfl | exact Sub.of (by assumption) (by decide) | assumption) only [view_lit, apply_ite (State.view hid), ite_self] | split | with_reducible rfl)

theorem setSw_view (s : State) (m : ℕ) (v : Bool) (hm : Sub 0x20000000 hid) : (State.setSw s m v).view hid = s.view hid := by
  unfold State.setSw
  repeat' (first | assumption | intro _ | simp (disch := first | exact hide_on (Sub.of (by assumption) (by decide)) | with_reducible rfl | exact Sub.of (by assumption) (by decide) | assumption) only [modSw_view, view_lit, apply_ite (State.view hid), ite_self] | split | with_reducible rfl)

theorem driveOutputs_view (s : State) (ao : List (ℕ × ℕ)) (dos : List (ℕ × Bool)) (hm : Sub 0x30000000 hid) : (State.driveOutputs s ao dos).view hid = s.view hid := by
  unfold State.driveOutputs
  repeat' (first | assumption | intro _ | simp (disch := first | exact hide_on (Sub.of (by assumption) (by decide)) | with_reducible rfl | exact Sub.of (by assumption) (by decide) | assumption) only [setAoCmd_view, setSw_view, view_lit, apply_ite (State.view hid), ite_self] | with_reducible apply foldl_keep | with_reducible apply foldl_keep2 | split | with_reducible rfl)

theorem outputsToFallback_view (s : State) (hm : Sub 0x30000000 hid) : (State.outputsToFallback s).view hid = s.view hid := by
  unfold State.outputsToFallback
  repeat' (first | assumption | intro _ | simp (disch := first | exact hide_on (Sub.of (by assumption) (by decide)) | with_reducible rfl | exact Sub.of (by assumption) (by decide) | assumption) only [modAo_view, modSw_view, view_lit, apply_ite (State.view hid), ite_self] | with_reducible apply foldl_keep | with_reducible apply foldl_keep2 | split | with_reducible rfl)

theorem modPair_view (s : State) (f : Pair → Pair) (hm : Sub 0x4000 hid) : (State.modPair s f).view hid = s.view hid := by
  unfold State.modPair
  repeat' (first | assumption | intro _ | simp (disch := first | exact hide_on (Sub.of (by assumption) (by decide)) | with_reducible rfl | exact Sub.of (by assumption) (by decide) | assumption) only [view_lit, apply_ite (State.view hid), ite_self] | split | with_reducible rfl)

theorem announce_view (s : State) (what : ℕ) (vals : List ℕ) : (State.announce s what vals).view hid = s.view hid := by
  unfold State.announce
  repeat' (first | assumption | intro _ | simp (disch := first | exact hide_on (Sub.of (by assumption) (by decide)) | with_reducible rfl | exact Sub.of (by assumption) (by decide) | assumption) only [lane_view, view_lit, apply_ite (State.view hid), ite_self] | split | with_reducible rfl)

theorem mirror_view (s : State) (d : PeerDigest) (hm : Sub 0x30004000 hid) : (State.mirror s d).view hid = s.view hid := by
  unfold State.mirror
  repeat' (first | assumption | intro _ | simp (disch := first | exact hide_on (Sub.of (by assumption) (by decide)) | with_reducible rfl | exact Sub.of (by assumption) (by decide) | assumption) only [driveOutputs_view, modPair_view, view_lit, apply_ite (State.view hid), ite_self] | split | with_reducible rfl)

theorem withhold_view (s : State) (n : ℕ) (cause : ℕ) (osn : ℕ) (hm : Sub 0x30024000 hid) : (State.withhold s n cause osn).view hid = s.view hid := by
  unfold State.withhold
  repeat' (first | assumption | intro _ | simp (disch := first | exact hide_on (Sub.of (by assumption) (by decide)) | with_reducible rfl | exact Sub.of (by assumption) (by decide) | assumption) only [lane_view, modTask_view, mirror_view, view_lit, apply_ite (State.view hid), ite_self] | split | with_reducible rfl)

theorem resetSoak_view (s : State) (hm : Sub 0x4000 hid) : (State.resetSoak s).view hid = s.view hid := by
  unfold State.resetSoak
  repeat' (first | assumption | intro _ | simp (disch := first | exact hide_on (Sub.of (by assumption) (by decide)) | with_reducible rfl | exact Sub.of (by assumption) (by decide) | assumption) only [modPair_view, view_lit, apply_ite (State.view hid), ite_self] | split | with_reducible rfl)

theorem auto_view (s : State) (m : Mode) (r : Role) (cause : ℕ) (hm : Sub 0x8 hid) : (State.auto s m r cause).view hid = s.view hid := by
  unfold State.auto
  repeat' (first | assumption | intro _ | simp (disch := first | exact hide_on (Sub.of (by assumption) (by decide)) | with_reducible rfl | exact Sub.of (by assumption) (by decide) | assumption) only [view_lit, apply_ite (State.view hid), ite_self] | split | with_reducible rfl)

theorem joinFails_view (s : State) (st : Status) (cause : ℕ) (leave : Bool) (hm : Sub 0x4208 hid) : (State.joinFails s st cause leave).view hid = s.view hid := by
  unfold State.joinFails
  repeat' (first | assumption | intro _ | simp (disch := first | exact hide_on (Sub.of (by assumption) (by decide)) | with_reducible rfl | exact Sub.of (by assumption) (by decide) | assumption) only [completeOpt_view, modPair_view, auto_view, view_lit, apply_ite (State.view hid), ite_self] | split | with_reducible rfl)

theorem dropJoin_view (s : State) (hm : Sub 0x4208 hid) : (State.dropJoin s).view hid = s.view hid := by
  unfold State.dropJoin
  repeat' (first | assumption | intro _ | simp (disch := first | exact hide_on (Sub.of (by assumption) (by decide)) | with_reducible rfl | exact Sub.of (by assumption) (by decide) | assumption) only [joinFails_view, view_lit, apply_ite (State.view hid), ite_self] | split | with_reducible rfl)

theorem depart_view (s : State) (after : ℕ) (hm : Sub 0x4000 hid) : (State.depart s after).view hid = s.view hid := by
  unfold State.depart
  repeat' (first | assumption | intro _ | simp (disch := first | exact hide_on (Sub.of (by assumption) (by decide)) | with_reducible rfl | exact Sub.of (by assumption) (by decide) | assumption) only [modPair_view, announce_view, view_lit, apply_ite (State.view hid), ite_self] | split | with_reducible rfl)

theorem halt_view (s : State) (cause : ℕ) (resource : ℕ) (hm : Sub 0x4208 hid) : (State.halt s cause resource).view hid = s.view hid := by
  unfold State.halt
  repeat' (first | assumption | intro _ | simp (disch := first | exact hide_on (Sub.of (by assumption) (by decide)) | with_reducible rfl | exact Sub.of (by assumption) (by decide) | assumption) only [completeOpt_view, auto_view, dropJoin_view, depart_view, view_lit, apply_ite (State.view hid), ite_self] | split | with_reducible rfl)

theorem takeFresh_view (s : State) (hm : Sub 0x13c000 hid) : (State.takeFresh s).view hid = s.view hid := by
  unfold State.takeFresh
  repeat' (first | assumption | intro _ | simp (disch := first | exact hide_on (Sub.of (by assumption) (by decide)) | with_reducible rfl | exact Sub.of (by assumption) (by decide) | assumption) only [modTask_view, view_lit, apply_ite (State.view hid), ite_self] | with_reducible apply foldl_keep | with_reducible apply foldl_keep2 | split | with_reducible rfl)

theorem resync_view (s : State) (hm : Sub 0x3013c000 hid) : (State.resync s).view hid = s.view hid := by
  unfold State.resync
  repeat' (first | assumption | intro _ | simp (disch := first | exact hide_on (Sub.of (by assumption) (by decide)) | with_reducible rfl | exact Sub.of (by assumption) (by decide) | assumption) only [modPair_view, withhold_view, resetSoak_view, takeFresh_view, view_lit, apply_ite (State.view hid), ite_self] | with_reducible apply foldl_keep | with_reducible apply foldl_keep2 | split | with_reducible rfl)

theorem withdraw_view (s : State) (m : Mode) (f : ℕ) (hm : Sub 0x208 hid) : (State.withdraw s m f).view hid = s.view hid := by
  unfold State.withdraw
  repeat' (first | assumption | intro _ | simp (disch := first | exact hide_on (Sub.of (by assumption) (by decide)) | with_reducible rfl | exact Sub.of (by assumption) (by decide) | assumption) only [completeOpt_view, announce_view, view_lit, apply_ite (State.view hid), ite_self] | split | with_reducible rfl)

theorem diverge_view (s : State) (cause : ℕ) (task : ℕ) (osn : ℕ) (hm : Sub 0x3013c208 hid) : (State.diverge s cause task osn).view hid = s.view hid := by
  unfold State.diverge
  repeat' (first | assumption | intro _ | simp (disch := first | exact hide_on (Sub.of (by assumption) (by decide)) | with_reducible rfl | exact Sub.of (by assumption) (by decide) | assumption) only [raise_view, modPair_view, resetSoak_view, resync_view, withdraw_view, view_lit, apply_ite (State.view hid), ite_self] | split | with_reducible rfl)

theorem raiseFlag_view (s : State) (cause : ℕ) (hm : Sub 0x3013c000 hid) : (State.raiseFlag s cause).view hid = s.view hid := by
  unfold State.raiseFlag
  repeat' (first | assumption | intro _ | simp (disch := first | exact hide_on (Sub.of (by assumption) (by decide)) | with_reducible rfl | exact Sub.of (by assumption) (by decide) | assumption) only [resetSoak_view, resync_view, view_lit, apply_ite (State.view hid), ite_self] | split | with_reducible rfl)

theorem curatorRestart_view (s : State) (cause : ℕ) : (State.curatorRestart s cause).view hid = s.view hid := by
  unfold State.curatorRestart
  repeat' (first | assumption | intro _ | simp (disch := first | exact hide_on (Sub.of (by assumption) (by decide)) | with_reducible rfl | exact Sub.of (by assumption) (by decide) | assumption) only [view_lit, apply_ite (State.view hid), ite_self] | split | with_reducible rfl)

theorem modRec_view (s : State) (r : ℕ) (f : LoopRec → LoopRec) (hm : Sub 0x100000 hid) : (State.modRec s r f).view hid = s.view hid := by
  unfold State.modRec
  repeat' (first | assumption | intro _ | simp (disch := first | exact hide_on (Sub.of (by assumption) (by decide)) | with_reducible rfl | exact Sub.of (by assumption) (by decide) | assumption) only [view_lit, apply_ite (State.view hid), ite_self] | split | with_reducible rfl)

theorem bindLoop_view (s : State) (r : ℕ) (hm : Sub 0x100000 hid) : (State.bindLoop s r).view hid = s.view hid := by
  unfold State.bindLoop
  repeat' (first | assumption | intro _ | simp (disch := first | exact hide_on (Sub.of (by assumption) (by decide)) | with_reducible rfl | exact Sub.of (by assumption) (by decide) | assumption) only [modRec_view, view_lit, apply_ite (State.view hid), ite_self] | split | with_reducible rfl)

theorem bindLoops_view (s : State) (hm : Sub 0x100000 hid) : (State.bindLoops s).view hid = s.view hid := by
  unfold State.bindLoops
  repeat' (first | assumption | intro _ | simp (disch := first | exact hide_on (Sub.of (by assumption) (by decide)) | with_reducible rfl | exact Sub.of (by assumption) (by decide) | assumption) only [modRec_view, view_lit, apply_ite (State.view hid), ite_self] | with_reducible apply foldl_keep | with_reducible apply foldl_keep2 | split | with_reducible rfl)

theorem loopTrigger_view (s : State) (r : ℕ) (path : ℕ) (t : ℕ) (hm : Sub 0x100000 hid) : (State.loopTrigger s r path t).view hid = s.view hid := by
  unfold State.loopTrigger
  repeat' (first | assumption | intro _ | simp (disch := first | exact hide_on (Sub.of (by assumption) (by decide)) | with_reducible rfl | exact Sub.of (by assumption) (by decide) | assumption) only [view_lit, apply_ite (State.view hid), ite_self] | split | with_reducible rfl)

theorem loopTriggers_view (s : State) (path : ℕ) (n : ℕ) (t : ℕ) (hm : Sub 0x100000 hid) : (State.loopTriggers s path n t).view hid = s.view hid := by
  unfold State.loopTriggers
  repeat' (first | assumption | intro _ | simp (disch := first | exact hide_on (Sub.of (by assumption) (by decide)) | with_reducible rfl | exact Sub.of (by assumption) (by decide) | assumption) only [loopTrigger_view, view_lit, apply_ite (State.view hid), ite_self] | with_reducible apply foldl_keep | with_reducible apply foldl_keep2 | split | with_reducible rfl)

theorem modRes_view (s : State) (r : ℕ) (f : ResCount → ResCount) (hm : Sub 0x2000000 hid) : (State.modRes s r f).view hid = s.view hid := by
  unfold State.modRes
  repeat' (first | assumption | intro _ | simp (disch := first | exact hide_on (Sub.of (by assumption) (by decide)) | with_reducible rfl | exact Sub.of (by assumption) (by decide) | assumption) only [view_lit, apply_ite (State.view hid), ite_self] | split | with_reducible rfl)

theorem setRes_view (s : State) (r : ℕ) (v : ℕ) (hm : Sub 0x2000000 hid) : (State.setRes s r v).view hid = s.view hid := by
  unfold State.setRes
  repeat' (first | assumption | intro _ | simp (disch := first | exact hide_on (Sub.of (by assumption) (by decide)) | with_reducible rfl | exact Sub.of (by assumption) (by decide) | assumption) only [modRes_view, view_lit, apply_ite (State.view hid), ite_self] | split | with_reducible rfl)

theorem exhaust_view (s : State) (k : ℕ) (hm : Sub 0x2000000 hid) : (State.exhaust s k).view hid = s.view hid := by
  unfold State.exhaust
  repeat' (first | assumption | intro _ | simp (disch := first | exact hide_on (Sub.of (by assumption) (by decide)) | with_reducible rfl | exact Sub.of (by assumption) (by decide) | assumption) only [raise_view, view_lit, apply_ite (State.view hid), ite_self] | split | with_reducible rfl)

theorem spareFails_view (s : State) (r : ℕ) (hm : Sub 0x2000000 hid) : (State.spareFails s r).view hid = s.view hid := by
  unfold State.spareFails
  repeat' (first | assumption | intro _ | simp (disch := first | exact hide_on (Sub.of (by assumption) (by decide)) | with_reducible rfl | exact Sub.of (by assumption) (by decide) | assumption) only [setRes_view, exhaust_view, view_lit, apply_ite (State.view hid), ite_self] | split | with_reducible rfl)

theorem convDead_view (s : State) (c : ℕ) (hm : Sub 0x8000000 hid) : (State.convDead s c).view hid = s.view hid := by
  unfold State.convDead
  repeat' (first | assumption | intro _ | simp (disch := first | exact hide_on (Sub.of (by assumption) (by decide)) | with_reducible rfl | exact Sub.of (by assumption) (by decide) | assumption) only [view_lit, apply_ite (State.view hid), ite_self] | split | with_reducible rfl)

theorem faultNoSpare_view (s : State) (r : ℕ) (hm : Sub 0x18004208 hid) : (State.faultNoSpare s r).view hid = s.view hid := by
  unfold State.faultNoSpare
  repeat' (first | assumption | intro _ | simp (disch := first | exact hide_on (Sub.of (by assumption) (by decide)) | with_reducible rfl | exact Sub.of (by assumption) (by decide) | assumption) only [halt_view, convDead_view, view_lit, apply_ite (State.view hid), ite_self] | split | with_reducible rfl)

theorem askMigration_view (s : State) (r : ℕ) (cause : ℕ) (op : Option ℕ) (ready : Bool) (hm : Sub 0x2000000 hid) : (State.askMigration s r cause op ready).view hid = s.view hid := by
  unfold State.askMigration
  repeat' (first | assumption | intro _ | simp (disch := first | exact hide_on (Sub.of (by assumption) (by decide)) | with_reducible rfl | exact Sub.of (by assumption) (by decide) | assumption) only [view_lit, apply_ite (State.view hid), ite_self] | split | with_reducible rfl)

theorem provenFault_view (s : State) (r : ℕ) (hm : Sub 0x1a004208 hid) : (State.provenFault s r).view hid = s.view hid := by
  unfold State.provenFault
  repeat' (first | assumption | intro _ | simp (disch := first | exact hide_on (Sub.of (by assumption) (by decide)) | with_reducible rfl | exact Sub.of (by assumption) (by decide) | assumption) only [exhaust_view, faultNoSpare_view, askMigration_view, view_lit, apply_ite (State.view hid), ite_self] | split | with_reducible rfl)

theorem limitCrossed_view (s : State) (r : ℕ) (counter : ℕ) (value : ℕ) (limit : ℕ) (hm : Sub 0x2000000 hid) : (State.limitCrossed s r counter value limit).view hid = s.view hid := by
  unfold State.limitCrossed
  repeat' (first | assumption | intro _ | simp (disch := first | exact hide_on (Sub.of (by assumption) (by decide)) | with_reducible rfl | exact Sub.of (by assumption) (by decide) | assumption) only [raiseMand_view, exhaust_view, askMigration_view, view_lit, apply_ite (State.view hid), ite_self] | split | with_reducible rfl)

theorem engineLimit_view (s : State) (r : ℕ) (hm : Sub 0x2000000 hid) : (State.engineLimit s r).view hid = s.view hid := by
  unfold State.engineLimit
  repeat' (first | assumption | intro _ | simp (disch := first | exact hide_on (Sub.of (by assumption) (by decide)) | with_reducible rfl | exact Sub.of (by assumption) (by decide) | assumption) only [limitCrossed_view, view_lit, apply_ite (State.view hid), ite_self] | split | with_reducible rfl)

theorem bumpEpoch_view (s : State) (k : ℕ) (hm : Sub 0x2000000 hid) : (State.bumpEpoch s k).view hid = s.view hid := by
  unfold State.bumpEpoch
  repeat' (first | assumption | intro _ | simp (disch := first | exact hide_on (Sub.of (by assumption) (by decide)) | with_reducible rfl | exact Sub.of (by assumption) (by decide) | assumption) only [view_lit, apply_ite (State.view hid), ite_self] | split | with_reducible rfl)

theorem migBegin_view (s : State) (r : ℕ) (spare : ℕ) (cause : ℕ) : (State.migBegin s r spare cause).view hid = s.view hid := by
  unfold State.migBegin
  repeat' (first | assumption | intro _ | simp (disch := first | exact hide_on (Sub.of (by assumption) (by decide)) | with_reducible rfl | exact Sub.of (by assumption) (by decide) | assumption) only [raiseMand_view, view_lit, apply_ite (State.view hid), ite_self] | split | with_reducible rfl)

theorem freezePulse_view (s : State) (mask : ℕ) : (State.freezePulse s mask).view hid = s.view hid := by
  unfold State.freezePulse
  repeat' (first | assumption | intro _ | simp (disch := first | exact hide_on (Sub.of (by assumption) (by decide)) | with_reducible rfl | exact Sub.of (by assumption) (by decide) | assumption) only [raise_view, view_lit, apply_ite (State.view hid), ite_self] | split | with_reducible rfl)

theorem migEnd_view (s : State) (r : ℕ) (spare : ℕ) (start : ℕ) (op : Option ℕ) (hm : Sub 0x2000200 hid) : (State.migEnd s r spare start op).view hid = s.view hid := by
  unfold State.migEnd
  repeat' (first | assumption | intro _ | simp (disch := first | exact hide_on (Sub.of (by assumption) (by decide)) | with_reducible rfl | exact Sub.of (by assumption) (by decide) | assumption) only [raiseMand_view, completeOpt_view, modRes_view, bumpEpoch_view, view_lit, apply_ite (State.view hid), ite_self] | split | with_reducible rfl)

theorem modConv_view (s : State) (c : ℕ) (f : Conv → Conv) (hm : Sub 0x8000000 hid) : (State.modConv s c f).view hid = s.view hid := by
  unfold State.modConv
  repeat' (first | assumption | intro _ | simp (disch := first | exact hide_on (Sub.of (by assumption) (by decide)) | with_reducible rfl | exact Sub.of (by assumption) (by decide) | assumption) only [view_lit, apply_ite (State.view hid), ite_self] | split | with_reducible rfl)

theorem modCal_view (s : State) (c : ℕ) (f : ConvCal → ConvCal) (hm : Sub 0x8000000 hid) : (State.modCal s c f).view hid = s.view hid := by
  unfold State.modCal
  repeat' (first | assumption | intro _ | simp (disch := first | exact hide_on (Sub.of (by assumption) (by decide)) | with_reducible rfl | exact Sub.of (by assumption) (by decide) | assumption) only [view_lit, apply_ite (State.view hid), ite_self] | split | with_reducible rfl)

theorem modAi_view (s : State) (n : ℕ) (f : AiChan → AiChan) (hm : Sub 0x8000000 hid) : (State.modAi s n f).view hid = s.view hid := by
  unfold State.modAi
  repeat' (first | assumption | intro _ | simp (disch := first | exact hide_on (Sub.of (by assumption) (by decide)) | with_reducible rfl | exact Sub.of (by assumption) (by decide) | assumption) only [view_lit, apply_ite (State.view hid), ite_self] | split | with_reducible rfl)

theorem visitBegun_view (s : State) (c : ℕ) (hm : Sub 0x8000000 hid) : (State.visitBegun s c).view hid = s.view hid := by
  unfold State.visitBegun
  repeat' (first | assumption | intro _ | simp (disch := first | exact hide_on (Sub.of (by assumption) (by decide)) | with_reducible rfl | exact Sub.of (by assumption) (by decide) | assumption) only [modConv_view, modAi_view, view_lit, apply_ite (State.view hid), ite_self] | split | with_reducible rfl)

theorem beginPass_view (s : State) (c : ℕ) (hm : Sub 0x8000000 hid) : (State.beginPass s c).view hid = s.view hid := by
  unfold State.beginPass
  repeat' (first | assumption | intro _ | simp (disch := first | exact hide_on (Sub.of (by assumption) (by decide)) | with_reducible rfl | exact Sub.of (by assumption) (by decide) | assumption) only [modConv_view, visitBegun_view, view_lit, apply_ite (State.view hid), ite_self] | split | with_reducible rfl)

theorem seqGo1_view (s : State) (c : ℕ) (hm : Sub 0x8000000 hid) : (State.seqGo1 s c).view hid = s.view hid := by
  unfold State.seqGo1
  repeat' (first | assumption | intro _ | simp (disch := first | exact hide_on (Sub.of (by assumption) (by decide)) | with_reducible rfl | exact Sub.of (by assumption) (by decide) | assumption) only [raise_view, beginPass_view, view_lit, apply_ite (State.view hid), ite_self] | split | with_reducible rfl)

theorem seqGo_view (s : State) (mask : ℕ) (hm : Sub 0x8000000 hid) : (State.seqGo s mask).view hid = s.view hid := by
  unfold State.seqGo
  repeat' (first | assumption | intro _ | simp (disch := first | exact hide_on (Sub.of (by assumption) (by decide)) | with_reducible rfl | exact Sub.of (by assumption) (by decide) | assumption) only [seqGo1_view, view_lit, apply_ite (State.view hid), ite_self] | with_reducible apply foldl_keep | with_reducible apply foldl_keep2 | split | with_reducible rfl)

theorem goAll_view (s : State) (mask : ℕ) (hm : Sub 0x8000000 hid) : (State.goAll s mask).view hid = s.view hid := by
  unfold State.goAll
  repeat' (first | assumption | intro _ | simp (disch := first | exact hide_on (Sub.of (by assumption) (by decide)) | with_reducible rfl | exact Sub.of (by assumption) (by decide) | assumption) only [raise_view, beginPass_view, view_lit, apply_ite (State.view hid), ite_self] | with_reducible apply foldl_keep | with_reducible apply foldl_keep2 | split | with_reducible rfl)

theorem seqStop_view (s : State) (mask : ℕ) (hm : Sub 0x8000000 hid) : (State.seqStop s mask).view hid = s.view hid := by
  unfold State.seqStop
  repeat' (first | assumption | intro _ | simp (disch := first | exact hide_on (Sub.of (by assumption) (by decide)) | with_reducible rfl | exact Sub.of (by assumption) (by decide) | assumption) only [modConv_view, view_lit, apply_ite (State.view hid), ite_self] | with_reducible apply foldl_keep | with_reducible apply foldl_keep2 | split | with_reducible rfl)

theorem autoStart_view (s : State) (c : ℕ) (hm : Sub 0x8000000 hid) : (State.autoStart s c).view hid = s.view hid := by
  unfold State.autoStart
  repeat' (first | assumption | intro _ | simp (disch := first | exact hide_on (Sub.of (by assumption) (by decide)) | with_reducible rfl | exact Sub.of (by assumption) (by decide) | assumption) only [beginPass_view, view_lit, apply_ite (State.view hid), ite_self] | split | with_reducible rfl)

theorem seqKick_view (s : State) (hm : Sub 0x8000000 hid) : (State.seqKick s).view hid = s.view hid := by
  unfold State.seqKick
  repeat' (first | assumption | intro _ | simp (disch := first | exact hide_on (Sub.of (by assumption) (by decide)) | with_reducible rfl | exact Sub.of (by assumption) (by decide) | assumption) only [beginPass_view, view_lit, apply_ite (State.view hid), ite_self] | with_reducible apply foldl_keep | with_reducible apply foldl_keep2 | split | with_reducible rfl)

theorem excLead_view (s : State) (hm : Sub 0x8000000 hid) : (State.excLead s).view hid = s.view hid := by
  unfold State.excLead
  repeat' (first | assumption | intro _ | simp (disch := first | exact hide_on (Sub.of (by assumption) (by decide)) | with_reducible rfl | exact Sub.of (by assumption) (by decide) | assumption) only [modAi_view, view_lit, apply_ite (State.view hid), ite_self] | with_reducible apply foldl_keep | with_reducible apply foldl_keep2 | split | with_reducible rfl)

theorem excOff_view (s : State) (hm : Sub 0x8000000 hid) : (State.excOff s).view hid = s.view hid := by
  unfold State.excOff
  repeat' (first | assumption | intro _ | simp (disch := first | exact hide_on (Sub.of (by assumption) (by decide)) | with_reducible rfl | exact Sub.of (by assumption) (by decide) | assumption) only [modAi_view, view_lit, apply_ite (State.view hid), ite_self] | with_reducible apply foldl_keep | with_reducible apply foldl_keep2 | split | with_reducible rfl)

theorem releaseWindow_view (s : State) (c : ℕ) (hm : Sub 0x8000000 hid) : (State.releaseWindow s c).view hid = s.view hid := by
  unfold State.releaseWindow
  repeat' (first | assumption | intro _ | simp (disch := first | exact hide_on (Sub.of (by assumption) (by decide)) | with_reducible rfl | exact Sub.of (by assumption) (by decide) | assumption) only [modConv_view, view_lit, apply_ite (State.view hid), ite_self] | with_reducible apply foldl_keep | with_reducible apply foldl_keep2 | split | with_reducible rfl)

theorem modRef_view (s : State) (n : ℕ) (f : PhRef → PhRef) (hm : Sub 0x80000 hid) : (State.modRef s n f).view hid = s.view hid := by
  unfold State.modRef
  repeat' (first | assumption | intro _ | simp (disch := first | exact hide_on (Sub.of (by assumption) (by decide)) | with_reducible rfl | exact Sub.of (by assumption) (by decide) | assumption) only [view_lit, apply_ite (State.view hid), ite_self] | split | with_reducible rfl)

theorem phasePublish_view (s : State) (n : ℕ) (hm : Sub 0x32000 hid) : (State.phasePublish s n).view hid = s.view hid := by
  unfold State.phasePublish
  repeat' (first | assumption | intro _ | simp (disch := first | exact hide_on (Sub.of (by assumption) (by decide)) | with_reducible rfl | exact Sub.of (by assumption) (by decide) | assumption) only [publishAp_view, publishBp_view, view_lit, apply_ite (State.view hid), ite_self] | split | with_reducible rfl)

theorem disarmNear_view (s : State) (n : ℕ) (hm : Sub 0x80000 hid) : (State.disarmNear s n).view hid = s.view hid := by
  unfold State.disarmNear
  repeat' (first | assumption | intro _ | simp (disch := first | exact hide_on (Sub.of (by assumption) (by decide)) | with_reducible rfl | exact Sub.of (by assumption) (by decide) | assumption) only [view_lit, apply_ite (State.view hid), ite_self] | with_reducible apply foldl_keep | with_reducible apply foldl_keep2 | split | with_reducible rfl)

theorem catWritten_view (s : State) (k : ℕ) (hm : Sub 0x80000 hid) : (State.catWritten s k).view hid = s.view hid := by
  unfold State.catWritten
  repeat' (first | assumption | intro _ | simp (disch := first | exact hide_on (Sub.of (by assumption) (by decide)) | with_reducible rfl | exact Sub.of (by assumption) (by decide) | assumption) only [view_lit, apply_ite (State.view hid), ite_self] | split | with_reducible rfl)

theorem catDo_view (s : State) (m : ℕ) (v : Bool) (hm : Sub 0x20032000 hid) : (State.catDo s m v).view hid = s.view hid := by
  unfold State.catDo
  repeat' (first | assumption | intro _ | simp (disch := first | exact hide_on (Sub.of (by assumption) (by decide)) | with_reducible rfl | exact Sub.of (by assumption) (by decide) | assumption) only [publishBp_view, setSw_view, view_lit, apply_ite (State.view hid), ite_self] | split | with_reducible rfl)

theorem catAct_view (s : State) (k : ℕ) (e : ℕ) (due : ℕ) (hm : Sub 0x28132000 hid) : (State.catAct s k e due).view hid = s.view hid := by
  unfold State.catAct
  repeat' (first | assumption | intro _ | simp (disch := first | exact hide_on (Sub.of (by assumption) (by decide)) | with_reducible rfl | exact Sub.of (by assumption) (by decide) | assumption) only [setDue_view, produceAp_view, loopTrigger_view, seqGo_view, goAll_view, phasePublish_view, catDo_view, view_lit, apply_ite (State.view hid), ite_self] | split | with_reducible rfl)

theorem catFire_view (s : State) (d : Deferred) (hm : Sub 0x281b2000 hid) : (State.catFire s d).view hid = s.view hid := by
  unfold State.catFire
  repeat' (first | assumption | intro _ | simp (disch := first | exact hide_on (Sub.of (by assumption) (by decide)) | with_reducible rfl | exact Sub.of (by assumption) (by decide) | assumption) only [catAct_view, view_lit, apply_ite (State.view hid), ite_self] | split | with_reducible rfl)

theorem catRun_view (s : State) (due : List (ℕ × ℕ)) (hm : Sub 0x281b2000 hid) : (State.catRun s due).view hid = s.view hid := by
  unfold State.catRun
  repeat' (first | assumption | intro _ | simp (disch := first | exact hide_on (Sub.of (by assumption) (by decide)) | with_reducible rfl | exact Sub.of (by assumption) (by decide) | assumption) only [raise_view, catFire_view, view_lit, apply_ite (State.view hid), ite_self] | with_reducible apply foldl_keep | with_reducible apply foldl_keep2 | split | with_reducible rfl)

theorem phaseMove_view (s : State) (n : ℕ) (y : ℤ) (clamped : Bool) (jump : ℕ) (hm : Sub 0xb2000 hid) : (State.phaseMove s n y clamped jump).2.view hid = s.view hid := by
  unfold State.phaseMove
  extract_lets r m lockTick zeroOff turn due phi dis src s1 s2 ld starts bound s3
  have h1 : s1.view hid = s.view hid := by simp (disch := first | exact hide_on (Sub.of (by assumption) (by decide)) | with_reducible rfl | exact Sub.of (by assumption) (by decide) | assumption) only [s1, view_lit]
  have h2 : s2.view hid = s.view hid := (modRef_view _ _ _ (Sub.of hm (by decide))).trans h1
  exact ite_view h2 (foldl_keep (fun t a => setDue_view _ _ _ (Sub.of hm (by decide))) ((phasePublish_view _ _ (Sub.of hm (by decide))).trans h2))

theorem phaseMove_view' {s : State} {n : ℕ} {y : ℤ} {clamped : Bool} {jump : ℕ} {aa : _} {tt : State} (hm : Sub 0xb2000 hid) (h : State.phaseMove s n y clamped jump = (aa, tt)) : tt.view hid = s.view hid := by
  have := phaseMove_view (hid := hid) s n y clamped jump hm
  rwa [h] at this

theorem phaseUpdate_view (s : State) (first : List (ℕ × ℕ)) (done : List ℕ) (hm : Sub 0x281b2000 hid) : (State.phaseUpdate s first done).view hid = s.view hid := by
  unfold State.phaseUpdate
  repeat' (first | assumption | intro _ | refine (phaseMove_view' (Sub.of (by assumption) (by decide)) (by assumption)).trans ?_ | simp (disch := first | exact hide_on (Sub.of (by assumption) (by decide)) | with_reducible rfl | exact Sub.of (by assumption) (by decide) | assumption) only [catRun_view, phaseMove_view, view_lit, apply_ite (State.view hid), ite_self] | with_reducible apply foldl_keep | with_reducible apply foldl_keep2 | split | with_reducible rfl)

theorem phaseUnlockAt_view (s : State) (n : ℕ) (cause : ℕ) (phi : ℕ) (hm : Sub 0x200b2000 hid) : (State.phaseUnlockAt s n cause phi).view hid = s.view hid := by
  unfold State.phaseUnlockAt
  repeat' (first | assumption | intro _ | simp (disch := first | exact hide_on (Sub.of (by assumption) (by decide)) | with_reducible rfl | exact Sub.of (by assumption) (by decide) | assumption) only [raise_view, publishBp_view, modRef_view, catDo_view, view_lit, apply_ite (State.view hid), ite_self] | with_reducible apply foldl_keep | with_reducible apply foldl_keep2 | split | with_reducible rfl)

theorem phaseUnlock_view (s : State) (n : ℕ) (cause : ℕ) (hm : Sub 0x200b2000 hid) : (State.phaseUnlock s n cause).view hid = s.view hid := by
  unfold State.phaseUnlock
  repeat' (first | assumption | intro _ | simp (disch := first | exact hide_on (Sub.of (by assumption) (by decide)) | with_reducible rfl | exact Sub.of (by assumption) (by decide) | assumption) only [phaseUnlockAt_view, view_lit, apply_ite (State.view hid), ite_self] | split | with_reducible rfl)

theorem phaseLock_view (s : State) (n : ℕ) (te : ℕ) (pe : ℕ) (nextD : ℤ) (hm : Sub 0xb2000 hid) : (State.phaseLock s n te pe nextD).view hid = s.view hid := by
  unfold State.phaseLock
  repeat' (first | assumption | intro _ | simp (disch := first | exact hide_on (Sub.of (by assumption) (by decide)) | with_reducible rfl | exact Sub.of (by assumption) (by decide) | assumption) only [raise_view, publishBp_view, modRef_view, disarmNear_view, view_lit, apply_ite (State.view hid), ite_self] | with_reducible apply foldl_keep | with_reducible apply foldl_keep2 | split | with_reducible rfl)

theorem phaseRestart_view (s : State) (n : ℕ) (held : ℕ) (hm : Sub 0x200b2000 hid) : (State.phaseRestart s n held).view hid = s.view hid := by
  unfold State.phaseRestart
  repeat' (first | assumption | intro _ | simp (disch := first | exact hide_on (Sub.of (by assumption) (by decide)) | with_reducible rfl | exact Sub.of (by assumption) (by decide) | assumption) only [modRef_view, phaseUnlockAt_view, phaseLock_view, view_lit, apply_ite (State.view hid), ite_self] | split | with_reducible rfl)

theorem phaseReconfig_view (s : State) (was : State) (all : Bool) (hm : Sub 0x200b2000 hid) : (State.phaseReconfig s was all).view hid = s.view hid := by
  unfold State.phaseReconfig
  repeat' (first | assumption | intro _ | simp (disch := first | exact hide_on (Sub.of (by assumption) (by decide)) | with_reducible rfl | exact Sub.of (by assumption) (by decide) | assumption) only [phaseRestart_view, view_lit, apply_ite (State.view hid), ite_self] | with_reducible apply foldl_keep | with_reducible apply foldl_keep2 | split | with_reducible rfl)

theorem edgeSearch_view (s : State) (n : ℕ) (te : ℕ) (rev : Bool) (hm : Sub 0xb2000 hid) : (State.edgeSearch s n te rev).view hid = s.view hid := by
  unfold State.edgeSearch
  extract_lets r dt kind gap k dp ok v s1 back lock need s2 s3 s4
  have h1 : s1.view hid = s.view hid := modRef_view _ _ _ (Sub.of hm (by decide))
  have hb : ∀ t : State, (back t).view hid = t.view hid := fun t => modRef_view _ _ _ (Sub.of hm (by decide))
  have hl : ∀ t : State, (lock t).view hid = t.view hid := fun t => phaseLock_view _ _ _ _ _ (Sub.of hm (by decide))
  have h2 : s2.view hid = s.view hid := (modRef_view _ _ _ (Sub.of hm (by decide))).trans h1
  have h3 : s3.view hid = s.view hid := (modRef_view _ _ _ (Sub.of hm (by decide))).trans h1
  have h4 : s4.view hid = s.view hid := (modRef_view _ _ _ (Sub.of hm (by decide))).trans h1
  exact ite_view
    (ite_view (ite_view (ite_view ((hl _).trans h2) h2) h1)
      (ite_view ((hb _).trans h1)
        (ite_view (ite_view ((hb _).trans h1) (ite_view ((hl _).trans h3) h3)) (ite_view ((hb _).trans h1) h1))))
    (ite_view
      (ite_view ((modRef_view _ _ _ (Sub.of hm (by decide))).trans h1)
        (ite_view ((hb _).trans h1) (ite_view ((hl _).trans h4) h4)))
      (ite_view ((hb _).trans h1) h1))

theorem edgeZ_view (s : State) (n : ℕ) (te : ℕ) (hm : Sub 0x200b2000 hid) : (State.edgeZ s n te).view hid = s.view hid := by
  unfold State.edgeZ
  repeat' (first | assumption | intro _ | simp (disch := first | exact hide_on (Sub.of (by assumption) (by decide)) | with_reducible rfl | exact Sub.of (by assumption) (by decide) | assumption) only [modRef_view, phaseUnlock_view, phaseLock_view, view_lit, apply_ite (State.view hid), ite_self] | split | with_reducible rfl)

theorem edgeLocked_view (s : State) (n : ℕ) (te : ℕ) (rev : Bool) (hm : Sub 0x281b2000 hid) : (State.edgeLocked s n te rev).view hid = s.view hid := by
  unfold State.edgeLocked
  extract_lets r dt kind turned k gapHere gap pe dp off vNew same a shift ahead old s1
  have ho : ∀ c, (off c).view hid = s.view hid := fun c =>
    (modRef_view _ _ _ (Sub.of hm (by decide))).trans (phaseUnlock_view _ _ _ (Sub.of hm (by decide)))
  have h1 : s1.view hid = s.view hid := modRef_view _ _ _ (Sub.of hm (by decide))
  refine ite_view (ho _) (ite_view (ho _) (ite_view (ho _) ?_))
  split
  split
  rename_i heq
  have h2 := (phaseMove_view' (Sub.of hm (by decide)) heq).trans h1
  refine (phaseUpdate_view _ _ _ (Sub.of hm (by decide))).trans (ite_view ?_ h2)
  exact (publishBp_view _ _ _ _ _ (Sub.of hm (by decide))).trans ((raise_view _ _ _).trans h2)

theorem phaseEdge_view (s : State) (n : ℕ) (te : ℕ) (rev : Bool) (hm : Sub 0x281b2000 hid) : (State.phaseEdge s n te rev).view hid = s.view hid := by
  unfold State.phaseEdge
  repeat' (first | assumption | intro _ | simp (disch := first | exact hide_on (Sub.of (by assumption) (by decide)) | with_reducible rfl | exact Sub.of (by assumption) (by decide) | assumption) only [modRef_view, edgeSearch_view, edgeLocked_view, view_lit, apply_ite (State.view hid), ite_self] | split | with_reducible rfl)

theorem phaseSample_view (s : State) (ch : ℕ) (value : ℕ) (stamp : ℕ) (hm : Sub 0x281b2000 hid) : (State.phaseSample s ch value stamp).view hid = s.view hid := by
  unfold State.phaseSample
  repeat' (first | assumption | intro _ | simp (disch := first | exact hide_on (Sub.of (by assumption) (by decide)) | with_reducible rfl | exact Sub.of (by assumption) (by decide) | assumption) only [modRef_view, phaseEdge_view, view_lit, apply_ite (State.view hid), ite_self] | with_reducible apply foldl_keep | with_reducible apply foldl_keep2 | split | with_reducible rfl)

theorem phaseLines_view (s : State) (n : ℕ) (old : ℕ) (e : EdgeIn) (te : ℕ) (hm : Sub 0x281b2000 hid) : (State.phaseLines s n old e te).view hid = s.view hid := by
  unfold State.phaseLines
  repeat' (first | assumption | intro _ | simp (disch := first | exact hide_on (Sub.of (by assumption) (by decide)) | with_reducible rfl | exact Sub.of (by assumption) (by decide) | assumption) only [modRef_view, phaseUnlock_view, edgeZ_view, phaseEdge_view, view_lit, apply_ite (State.view hid), ite_self] | split | with_reducible rfl)

theorem modPort_view (s : State) (p : ℕ) (f : Port → Port) (hm : Sub 0x40000000 hid) : (State.modPort s p f).view hid = s.view hid := by
  unfold State.modPort
  repeat' (first | assumption | intro _ | simp (disch := first | exact hide_on (Sub.of (by assumption) (by decide)) | with_reducible rfl | exact Sub.of (by assumption) (by decide) | assumption) only [view_lit, apply_ite (State.view hid), ite_self] | split | with_reducible rfl)

theorem sendSupervision_view (s : State) (hm : Sub 0x40000000 hid) : (State.sendSupervision s).view hid = s.view hid := by
  unfold State.sendSupervision
  repeat' (first | assumption | intro _ | simp (disch := first | exact hide_on (Sub.of (by assumption) (by decide)) | with_reducible rfl | exact Sub.of (by assumption) (by decide) | assumption) only [emit_view, modPort_view, view_lit, apply_ite (State.view hid), ite_self] | with_reducible apply foldl_keep | with_reducible apply foldl_keep2 | split | with_reducible rfl)

theorem plantSend_view (s : State) (src : ℕ) (addr : ℕ) (port : ℕ) (b : List Byte) (hm : Sub 0x40000000 hid) : (State.plantSend s src addr port b).view hid = s.view hid := by
  unfold State.plantSend
  repeat' (first | assumption | intro _ | simp (disch := first | exact hide_on (Sub.of (by assumption) (by decide)) | with_reducible rfl | exact Sub.of (by assumption) (by decide) | assumption) only [emit_view, modPort_view, view_lit, apply_ite (State.view hid), ite_self] | with_reducible apply foldl_keep | with_reducible apply foldl_keep2 | split | with_reducible rfl)

theorem sendPayload_view (s : State) (rep : Bool) (task : ℕ) (osn : ℕ) (p : Payload) (hm : Sub 0x40000000 hid) : (State.sendPayload s rep task osn p).view hid = s.view hid := by
  unfold State.sendPayload
  repeat' (first | assumption | intro _ | simp (disch := first | exact hide_on (Sub.of (by assumption) (by decide)) | with_reducible rfl | exact Sub.of (by assumption) (by decide) | assumption) only [plantSend_view, view_lit, apply_ite (State.view hid), ite_self] | with_reducible apply foldl_keep | with_reducible apply foldl_keep2 | split | with_reducible rfl)

theorem readDirect_view (s : State) (reader : ℕ) (conv : ℕ) (entry : ℕ) (hm : Sub 0x8000000 hid) : (State.readDirect s reader conv entry).2.view hid = s.view hid := by
  unfold State.readDirect
  repeat' (first | assumption | intro _ | simp (disch := first | exact hide_on (Sub.of (by assumption) (by decide)) | with_reducible rfl | exact Sub.of (by assumption) (by decide) | assumption) only [view_lit, apply_ite (State.view hid), ite_self] | split | with_reducible rfl)
theorem readDirect_view' {s : State} {reader : ℕ} {conv : ℕ} {entry : ℕ} {aa : _} {tt : State} (hm : Sub 0x8000000 hid) (h : (State.readDirect s reader conv entry) = (aa, tt)) : tt.view hid = s.view hid := by
  have := readDirect_view (hid := hid) s reader conv entry hm
  rwa [h] at this

theorem readHart_view (s : State) (task : ℕ) (modem : ℕ) (entry : ℕ) (hm : Sub 0x10000000 hid) : (State.readHart s task modem entry).2.view hid = s.view hid := by
  unfold State.readHart
  repeat' (first | assumption | intro _ | simp (disch := first | exact hide_on (Sub.of (by assumption) (by decide)) | with_reducible rfl | exact Sub.of (by assumption) (by decide) | assumption) only [view_lit, apply_ite (State.view hid), ite_self] | split | with_reducible rfl)
theorem readHart_view' {s : State} {task : ℕ} {modem : ℕ} {entry : ℕ} {aa : _} {tt : State} (hm : Sub 0x10000000 hid) (h : (State.readHart s task modem entry) = (aa, tt)) : tt.view hid = s.view hid := by
  have := readHart_view (hid := hid) s task modem entry hm
  rwa [h] at this

theorem modCan_view (s : State) (c : ℕ) (f : CanCh → CanCh) (hm : Sub 0x80000000 hid) : (State.modCan s c f).view hid = s.view hid := by
  unfold State.modCan
  repeat' (first | assumption | intro _ | simp (disch := first | exact hide_on (Sub.of (by assumption) (by decide)) | with_reducible rfl | exact Sub.of (by assumption) (by decide) | assumption) only [view_lit, apply_ite (State.view hid), ite_self] | split | with_reducible rfl)

theorem canDrop_view (s : State) (c : ℕ) (b : ℕ) (st : Status) (cause : ℕ) (sof : ℕ) (keepNext : Bool) (hm : Sub 0x80000200 hid) : (State.canDrop s c b st cause sof keepNext).view hid = s.view hid := by
  unfold State.canDrop
  repeat' (first | assumption | intro _ | simp (disch := first | exact hide_on (Sub.of (by assumption) (by decide)) | with_reducible rfl | exact Sub.of (by assumption) (by decide) | assumption) only [completeOpt_view, modCan_view, view_lit, apply_ite (State.view hid), ite_self] | split | with_reducible rfl)

theorem canBegun_view (s : State) (c : ℕ) : (State.canBegun s c).2.view hid = s.view hid := by
  unfold State.canBegun
  repeat' (first | assumption | intro _ | refine (takeFree_view' (by assumption)).trans ?_ | simp (disch := first | exact hide_on (Sub.of (by assumption) (by decide)) | with_reducible rfl | exact Sub.of (by assumption) (by decide) | assumption) only [takeFree_view, view_lit, apply_ite (State.view hid), ite_self] | split | with_reducible rfl)
theorem canBegun_view' {s : State} {c : ℕ} {aa : _} {tt : State}  (h : (State.canBegun s c) = (aa, tt)) : tt.view hid = s.view hid := by
  have := canBegun_view (hid := hid) s c
  rwa [h] at this

theorem canLoad_view (s : State) (c : ℕ) (b : ℕ) (id : ℕ) (flags : ℕ) (data : List Byte) (op : Option (ℕ × U32 × ℕ)) (hm : Sub 0x80000000 hid) : (State.canLoad s c b id flags data op).view hid = s.view hid := by
  unfold State.canLoad
  repeat' (first | assumption | intro _ | refine (canBegun_view' (by assumption)).trans ?_ | simp (disch := first | exact hide_on (Sub.of (by assumption) (by decide)) | with_reducible rfl | exact Sub.of (by assumption) (by decide) | assumption) only [modCan_view, canBegun_view, view_lit, apply_ite (State.view hid), ite_self] | split | with_reducible rfl)

theorem canRelease_view (s : State) (tx : List (ℕ × List Byte)) (hm : Sub 0x80000000 hid) : (State.canRelease s tx).view hid = s.view hid := by
  unfold State.canRelease
  repeat' (first | assumption | intro _ | simp (disch := first | exact hide_on (Sub.of (by assumption) (by decide)) | with_reducible rfl | exact Sub.of (by assumption) (by decide) | assumption) only [canLoad_view, view_lit, apply_ite (State.view hid), ite_self] | with_reducible apply foldl_keep | with_reducible apply foldl_keep2 | split | with_reducible rfl)

theorem canYield_view (s : State) (c : ℕ) (hm : Sub 0x80000200 hid) : (State.canYield s c).view hid = s.view hid := by
  unfold State.canYield
  repeat' (first | assumption | intro _ | refine (canBegun_view' (by assumption)).trans ?_ | simp (disch := first | exact hide_on (Sub.of (by assumption) (by decide)) | with_reducible rfl | exact Sub.of (by assumption) (by decide) | assumption) only [modCan_view, canDrop_view, canBegun_view, view_lit, apply_ite (State.view hid), ite_self] | with_reducible apply foldl_keep | with_reducible apply foldl_keep2 | split | with_reducible rfl)

theorem canRefresh_view (s : State) (hm : Sub 0x80000200 hid) : (State.canRefresh s).view hid = s.view hid := by
  unfold State.canRefresh
  repeat' (first | assumption | intro _ | simp (disch := first | exact hide_on (Sub.of (by assumption) (by decide)) | with_reducible rfl | exact Sub.of (by assumption) (by decide) | assumption) only [raise_view, modCan_view, canYield_view, view_lit, apply_ite (State.view hid), ite_self] | with_reducible apply foldl_keep | with_reducible apply foldl_keep2 | split | with_reducible rfl)

theorem canTake_view (s : State) (hm : Sub 0x80000000 hid) : (State.canTake s).view hid = s.view hid := by
  unfold State.canTake
  repeat' (first | assumption | intro _ | simp (disch := first | exact hide_on (Sub.of (by assumption) (by decide)) | with_reducible rfl | exact Sub.of (by assumption) (by decide) | assumption) only [modCan_view, view_lit, apply_ite (State.view hid), ite_self] | with_reducible apply foldl_keep | with_reducible apply foldl_keep2 | split | with_reducible rfl)

theorem canPublish_view (s : State) (f : ℕ) (data : List Byte) (stamp : ℕ) (hm : Sub 0x80012000 hid) : (State.canPublish s f data stamp).view hid = s.view hid := by
  unfold State.canPublish
  repeat' (first | assumption | intro _ | simp (disch := first | exact hide_on (Sub.of (by assumption) (by decide)) | with_reducible rfl | exact Sub.of (by assumption) (by decide) | assumption) only [produceAp_view, view_lit, apply_ite (State.view hid), ite_self] | with_reducible apply foldl_keep | with_reducible apply foldl_keep2 | split | with_reducible rfl)

theorem canDrain_view (s : State) (hm : Sub 0x80012000 hid) : (State.canDrain s).view hid = s.view hid := by
  unfold State.canDrain
  repeat' (first | assumption | intro _ | simp (disch := first | exact hide_on (Sub.of (by assumption) (by decide)) | with_reducible rfl | exact Sub.of (by assumption) (by decide) | assumption) only [modCan_view, canPublish_view, view_lit, apply_ite (State.view hid), ite_self] | with_reducible apply foldl_keep | with_reducible apply foldl_keep2 | split | with_reducible rfl)

theorem modCore_view (s : State) (p : ℕ) (f : CorePair → CorePair) (hm : Sub 0x800000 hid) : (State.modCore s p f).view hid = s.view hid := by
  unfold State.modCore
  repeat' (first | assumption | intro _ | simp (disch := first | exact hide_on (Sub.of (by assumption) (by decide)) | with_reducible rfl | exact Sub.of (by assumption) (by decide) | assumption) only [view_lit, apply_ite (State.view hid), ite_self] | split | with_reducible rfl)

theorem skipStart_view (s : State) (n : ℕ) (osn : ℕ) (told : Bool) (hm : Sub 0x20000 hid) : (State.skipStart s n osn told).view hid = s.view hid := by
  unfold State.skipStart
  repeat' (first | assumption | intro _ | simp (disch := first | exact hide_on (Sub.of (by assumption) (by decide)) | with_reducible rfl | exact Sub.of (by assumption) (by decide) | assumption) only [raise_view, modTask_view, view_lit, apply_ite (State.view hid), ite_self] | split | with_reducible rfl)

theorem agree_view (s : State) (n : ℕ) (osn : ℕ) (t0 : ℕ) (c : Option Cycle) (results : List ℕ) (harts : List ℕ) (hm : Sub 0x20000 hid) : (State.agree s n osn t0 c results harts).view hid = s.view hid := by
  unfold State.agree
  repeat' (first | assumption | intro _ | simp (disch := first | exact hide_on (Sub.of (by assumption) (by decide)) | with_reducible rfl | exact Sub.of (by assumption) (by decide) | assumption) only [lane_view, modTask_view, view_lit, apply_ite (State.view hid), ite_self] | split | with_reducible rfl)

theorem takeAux_view (s : State) (n : ℕ) (hm : Sub 0x18000000 hid) : (State.takeAux s n).2.2.view hid = s.view hid := by
  unfold State.takeAux
  repeat' (first | assumption | intro _ | refine (readDirect_view' (Sub.of (by assumption) (by decide)) (by assumption)).trans ?_ | refine (readHart_view' (Sub.of (by assumption) (by decide)) (by assumption)).trans ?_ | simp (disch := first | exact hide_on (Sub.of (by assumption) (by decide)) | with_reducible rfl | exact Sub.of (by assumption) (by decide) | assumption) only [readDirect_view, readHart_view, view_lit, apply_ite (State.view hid), ite_self] | with_reducible apply foldl_keep | with_reducible apply foldl_keep2 | split | with_reducible rfl)
theorem takeAux_view' {s : State} {n : ℕ} {aa bb : _} {tt : State} (hm : Sub 0x18000000 hid) (h : (State.takeAux s n) = (aa, bb, tt)) : tt.view hid = s.view hid := by
  have := takeAux_view (hid := hid) s n hm
  rwa [h] at this

theorem noteFault_view (s : State) (n : ℕ) (cause : ℕ) (hm : Sub 0x20000 hid) : (State.noteFault s n cause).view hid = s.view hid := by
  unfold State.noteFault
  repeat' (first | assumption | intro _ | simp (disch := first | exact hide_on (Sub.of (by assumption) (by decide)) | with_reducible rfl | exact Sub.of (by assumption) (by decide) | assumption) only [view_lit, apply_ite (State.view hid), ite_self] | split | with_reducible rfl)

theorem loseCatchUp_view (s : State) (n : ℕ) (osn : ℕ) (hm : Sub 0x3013c208 hid) : (State.loseCatchUp s n osn).view hid = s.view hid := by
  unfold State.loseCatchUp
  repeat' (first | assumption | intro _ | simp (disch := first | exact hide_on (Sub.of (by assumption) (by decide)) | with_reducible rfl | exact Sub.of (by assumption) (by decide) | assumption) only [raise_view, modTask_view, withhold_view, diverge_view, raiseFlag_view, skipStart_view, noteFault_view, view_lit, apply_ite (State.view hid), ite_self] | with_reducible apply foldl_keep | with_reducible apply foldl_keep2 | split | with_reducible rfl)

theorem openCycle_view (s : State) (n : ℕ) (c : Cycle) (hm : Sub 0x3013c208 hid) : (State.openCycle s n c).view hid = s.view hid := by
  unfold State.openCycle
  repeat' (first | assumption | intro _ | simp (disch := first | exact hide_on (Sub.of (by assumption) (by decide)) | with_reducible rfl | exact Sub.of (by assumption) (by decide) | assumption) only [modTask_view, loseCatchUp_view, view_lit, apply_ite (State.view hid), ite_self] | split | with_reducible rfl)

theorem leadStart_view (s : State) (n : ℕ) (t0 : ℕ) (hm : Sub 0x7813e208 hid) : (State.leadStart s n t0).view hid = s.view hid := by
  unfold State.leadStart
  repeat' (first | assumption | intro _ | refine (takeAux_view' (Sub.of (by assumption) (by decide)) (by assumption)).trans ?_ | simp (disch := first | exact hide_on (Sub.of (by assumption) (by decide)) | with_reducible rfl | exact Sub.of (by assumption) (by decide) | assumption) only [complete_view, modTask_view, installForces_view, sendPayload_view, skipStart_view, agree_view, takeAux_view, loseCatchUp_view, openCycle_view, view_lit, apply_ite (State.view hid), ite_self] | with_reducible apply foldl_keep | with_reducible apply foldl_keep2 | split | with_reducible rfl)

theorem lateStart_view (s : State) (n : ℕ) (osn : ℕ) (hm : Sub 0x3013c208 hid) : (State.lateStart s n osn).view hid = s.view hid := by
  unfold State.lateStart
  repeat' (first | assumption | intro _ | simp (disch := first | exact hide_on (Sub.of (by assumption) (by decide)) | with_reducible rfl | exact Sub.of (by assumption) (by decide) | assumption) only [raise_view, modTask_view, withhold_view, diverge_view, view_lit, apply_ite (State.view hid), ite_self] | split | with_reducible rfl)

theorem standbyDue_view (s : State) (n : ℕ) (t0 : ℕ) (hm : Sub 0x3013c208 hid) : (State.standbyDue s n t0).view hid = s.view hid := by
  unfold State.standbyDue
  repeat' (first | assumption | intro _ | simp (disch := first | exact hide_on (Sub.of (by assumption) (by decide)) | with_reducible rfl | exact Sub.of (by assumption) (by decide) | assumption) only [modTask_view, lateStart_view, view_lit, apply_ite (State.view hid), ite_self] | split | with_reducible rfl)

theorem dueStart_view (s : State) (n : ℕ) (hm : Sub 0x7813e208 hid) : (State.dueStart s n).view hid = s.view hid := by
  unfold State.dueStart
  repeat' (first | assumption | intro _ | simp (disch := first | exact hide_on (Sub.of (by assumption) (by decide)) | with_reducible rfl | exact Sub.of (by assumption) (by decide) | assumption) only [modTask_view, leadStart_view, standbyDue_view, view_lit, apply_ite (State.view hid), ite_self] | split | with_reducible rfl)

theorem standbyFrame_view (s : State) (f : AgreedIn) (hm : Sub 0x3013e208 hid) : (State.standbyFrame s f).view hid = s.view hid := by
  unfold State.standbyFrame
  extract_lets n k ahead s1 s2 src s3 c s4 s5
  have h1 : s1.view hid = s.view hid := ite_view rfl (foldl_keep (fun t a => lateStart_view _ _ _ (Sub.of hm (by decide))) rfl)
  have h2 : s2.view hid = s.view hid := (modTask_view _ _ _ (Sub.of hm (by decide))).trans h1
  have h3 : s3.view hid = s.view hid := (show s3.view hid = s2.view hid by simp (disch := first | exact hide_on (Sub.of (by assumption) (by decide)) | with_reducible rfl | exact Sub.of (by assumption) (by decide) | assumption) only [s3, refreshForces_view, view_lit]).trans h2
  have h4 : s4.view hid = s.view hid := (show s4.view hid = s3.view hid by simp (disch := first | exact hide_on (Sub.of (by assumption) (by decide)) | with_reducible rfl | exact Sub.of (by assumption) (by decide) | assumption) only [s4, withhold_view, skipStart_view]).trans h3
  have h5 : s5.view hid = s.view hid := (modTask_view _ _ _ (Sub.of hm (by decide))).trans h4
  have hw : ∀ a b, (s3.withhold n a b).view hid = s.view hid := fun a b => (show _ = s3.view hid by simp (disch := first | exact hide_on (Sub.of (by assumption) (by decide)) | with_reducible rfl | exact Sub.of (by assumption) (by decide) | assumption) only [withhold_view]).trans h3
  refine ite_view rfl (ite_view rfl (ite_view (hw _ _) (ite_view (hw _ _) (ite_view ?_ (ite_view (hw _ _) (ite_view (ite_view ?_ h5) ?_))))))
  · exact (skipStart_view _ _ _ _ (Sub.of hm (by decide))).trans h3
  · exact (show _ = s5.view hid by simp (disch := first | exact hide_on (Sub.of (by assumption) (by decide)) | with_reducible rfl | exact Sub.of (by assumption) (by decide) | assumption) only [diverge_view, modTask_view]).trans h5
  · exact (openCycle_view _ _ _ (Sub.of hm (by decide))).trans h3

theorem writeArea_view (s : State) (n : ℕ) (off : ℕ) (b : List Byte) (hm : Sub 0x60000 hid) : (State.writeArea s n off b).view hid = s.view hid := by
  unfold State.writeArea
  repeat' (first | assumption | intro _ | simp (disch := first | exact hide_on (Sub.of (by assumption) (by decide)) | with_reducible rfl | exact Sub.of (by assumption) (by decide) | assumption) only [modTask_view, view_lit, apply_ite (State.view hid), ite_self] | with_reducible apply foldl_keep | with_reducible apply foldl_keep2 | split | with_reducible rfl)

theorem patchSlot_view (s : State) (f : ProgSlot → ProgSlot) (hm : Sub 0x8000 hid) : (State.patchSlot s f).view hid = s.view hid := by
  unfold State.patchSlot
  repeat' (first | assumption | intro _ | simp (disch := first | exact hide_on (Sub.of (by assumption) (by decide)) | with_reducible rfl | exact Sub.of (by assumption) (by decide) | assumption) only [view_lit, apply_ite (State.view hid), ite_self] | split | with_reducible rfl)

theorem applyValue_view (s : State) (n : ℕ) (sym : ℕ) (len : ℕ) (v : ℕ) (hm : Sub 0x68000 hid) : (State.applyValue s n sym len v).view hid = s.view hid := by
  unfold State.applyValue
  repeat' (first | assumption | intro _ | simp (disch := first | exact hide_on (Sub.of (by assumption) (by decide)) | with_reducible rfl | exact Sub.of (by assumption) (by decide) | assumption) only [writeArea_view, patchSlot_view, view_lit, apply_ite (State.view hid), ite_self] | split | with_reducible rfl)

theorem applyWrites_view (s : State) (n : ℕ) (hm : Sub 0x1068200 hid) : (State.applyWrites s n).view hid = s.view hid := by
  unfold State.applyWrites
  repeat' (first | assumption | intro _ | simp (disch := first | exact hide_on (Sub.of (by assumption) (by decide)) | with_reducible rfl | exact Sub.of (by assumption) (by decide) | assumption) only [archCommand_view, raise_view, completeOpt_view, modTask_view, writeArea_view, applyValue_view, view_lit, apply_ite (State.view hid), ite_self] | with_reducible apply foldl_keep | with_reducible apply foldl_keep2 | split | with_reducible rfl)

theorem firstEdges_view (s : State) (n : ℕ) (c : Cycle) (hm : Sub 0x20000 hid) : (State.firstEdges s n c).view hid = s.view hid := by
  unfold State.firstEdges
  repeat' (first | assumption | intro _ | simp (disch := first | exact hide_on (Sub.of (by assumption) (by decide)) | with_reducible rfl | exact Sub.of (by assumption) (by decide) | assumption) only [modTask_view, view_lit, apply_ite (State.view hid), ite_self] | with_reducible apply foldl_keep | with_reducible apply foldl_keep2 | split | with_reducible rfl)

theorem sliceLoad_view (s : State) (n : ℕ) (hm : Sub 0x107a200 hid) : (State.sliceLoad s n).view hid = s.view hid := by
  unfold State.sliceLoad
  repeat' (first | assumption | intro _ | simp (disch := first | exact hide_on (Sub.of (by assumption) (by decide)) | with_reducible rfl | exact Sub.of (by assumption) (by decide) | assumption) only [modTask_view, installFor_view, applyWrites_view, firstEdges_view, view_lit, apply_ite (State.view hid), ite_self] | split | with_reducible rfl)

theorem nextHeld_view (s : State) (n : ℕ) (hm : Sub 0x20000 hid) : (State.nextHeld s n).view hid = s.view hid := by
  unfold State.nextHeld
  repeat' (first | assumption | intro _ | simp (disch := first | exact hide_on (Sub.of (by assumption) (by decide)) | with_reducible rfl | exact Sub.of (by assumption) (by decide) | assumption) only [modTask_view, view_lit, apply_ite (State.view hid), ite_self] | split | with_reducible rfl)

theorem copyOut_view (s : State) (n : ℕ) (ap : List ℕ) (bp : List ℕ) (hm : Sub 0x4032000 hid) : (State.copyOut s n ap bp).view hid = s.view hid := by
  unfold State.copyOut
  repeat' (first | assumption | intro _ | simp (disch := first | exact hide_on (Sub.of (by assumption) (by decide)) | with_reducible rfl | exact Sub.of (by assumption) (by decide) | assumption) only [raise_view, produceAp_view, produceBp_view, view_lit, apply_ite (State.view hid), ite_self] | with_reducible apply foldl_keep | with_reducible apply foldl_keep2 | split | with_reducible rfl)

theorem storeEdges_view (s : State) (n : ℕ) (c : Cycle) (hm : Sub 0x20000 hid) : (State.storeEdges s n c).view hid = s.view hid := by
  unfold State.storeEdges
  repeat' (first | assumption | intro _ | simp (disch := first | exact hide_on (Sub.of (by assumption) (by decide)) | with_reducible rfl | exact Sub.of (by assumption) (by decide) | assumption) only [modTask_view, view_lit, apply_ite (State.view hid), ite_self] | with_reducible apply foldl_keep | with_reducible apply foldl_keep2 | split | with_reducible rfl)

theorem sendDigest_view (s : State) (n : ℕ) (osn : ℕ) (digest : ℕ) (ao : List (ℕ × ℕ)) (dos : List (ℕ × Bool)) : (State.sendDigest s n osn digest ao dos).view hid = s.view hid := by
  unfold State.sendDigest
  repeat' (first | assumption | intro _ | simp (disch := first | exact hide_on (Sub.of (by assumption) (by decide)) | with_reducible rfl | exact Sub.of (by assumption) (by decide) | assumption) only [lane_view, view_lit, apply_ite (State.view hid), ite_self] | with_reducible apply foldl_keep | with_reducible apply foldl_keep2 | split | with_reducible rfl)

theorem digestDiffers_view (s : State) (n : ℕ) (osn : ℕ) (hm : Sub 0x3013c208 hid) : (State.digestDiffers s n osn).view hid = s.view hid := by
  unfold State.digestDiffers
  repeat' (first | assumption | intro _ | simp (disch := first | exact hide_on (Sub.of (by assumption) (by decide)) | with_reducible rfl | exact Sub.of (by assumption) (by decide) | assumption) only [withhold_view, diverge_view, view_lit, apply_ite (State.view hid), ite_self] | split | with_reducible rfl)

theorem abandon_view (s : State) (n : ℕ) (cause : ℕ) (hm : Sub 0x30024000 hid) : (State.abandon s n cause).view hid = s.view hid := by
  unfold State.abandon
  repeat' (first | assumption | intro _ | simp (disch := first | exact hide_on (Sub.of (by assumption) (by decide)) | with_reducible rfl | exact Sub.of (by assumption) (by decide) | assumption) only [modTask_view, withhold_view, view_lit, apply_ite (State.view hid), ite_self] | split | with_reducible rfl)

theorem taskFault_view (s : State) (n : ℕ) (cause : ℕ) (iaddr : ℕ) (hm : Sub 0x30024000 hid) : (State.taskFault s n cause iaddr).view hid = s.view hid := by
  unfold State.taskFault
  repeat' (first | assumption | intro _ | simp (disch := first | exact hide_on (Sub.of (by assumption) (by decide)) | with_reducible rfl | exact Sub.of (by assumption) (by decide) | assumption) only [raise_view, modTask_view, aoFault_view, noteFault_view, nextHeld_view, abandon_view, view_lit, apply_ite (State.view hid), ite_self] | with_reducible apply foldl_keep | with_reducible apply foldl_keep2 | split | with_reducible rfl)

theorem handOver_view (s : State) (n : ℕ) (c : Cycle) (hm : Sub 0x3013c208 hid) : (State.handOver s n c).view hid = s.view hid := by
  unfold State.handOver
  repeat' (first | assumption | intro _ | simp (disch := first | exact hide_on (Sub.of (by assumption) (by decide)) | with_reducible rfl | exact Sub.of (by assumption) (by decide) | assumption) only [modTask_view, withhold_view, resync_view, sendDigest_view, digestDiffers_view, view_lit, apply_ite (State.view hid), ite_self] | split | with_reducible rfl)

theorem compareSums_view (s : State) (n : ℕ) (hm : Sub 0x3013c208 hid) : (State.compareSums s n).view hid = s.view hid := by
  unfold State.compareSums
  repeat' (first | assumption | intro _ | simp (disch := first | exact hide_on (Sub.of (by assumption) (by decide)) | with_reducible rfl | exact Sub.of (by assumption) (by decide) | assumption) only [raise_view, resync_view, diverge_view, view_lit, apply_ite (State.view hid), ite_self] | split | with_reducible rfl)

theorem sendHash_view (s : State) (n : ℕ) (osn : ℕ) (hm : Sub 0x3013c208 hid) : (State.sendHash s n osn).view hid = s.view hid := by
  unfold State.sendHash
  repeat' (first | assumption | intro _ | simp (disch := first | exact hide_on (Sub.of (by assumption) (by decide)) | with_reducible rfl | exact Sub.of (by assumption) (by decide) | assumption) only [lane_view, modTask_view, compareSums_view, view_lit, apply_ite (State.view hid), ite_self] | split | with_reducible rfl)

theorem forwardLines_view (s : State) (n : ℕ) (ls : List (ℕ × List Byte)) : (State.forwardLines s n ls).view hid = s.view hid := by
  unfold State.forwardLines
  repeat' (first | assumption | intro _ | simp (disch := first | exact hide_on (Sub.of (by assumption) (by decide)) | with_reducible rfl | exact Sub.of (by assumption) (by decide) | assumption) only [lane_view, view_lit, apply_ite (State.view hid), ite_self] | with_reducible apply foldl_keep | with_reducible apply foldl_keep2 | split | with_reducible rfl)

theorem closeCycle_view (s : State) (n : ℕ) (d : CloseData) (hm : Sub 0x3417e208 hid) : (State.closeCycle s n d).view hid = s.view hid := by
  unfold State.closeCycle
  repeat' (first | assumption | intro _ | simp (disch := first | exact hide_on (Sub.of (by assumption) (by decide)) | with_reducible rfl | exact Sub.of (by assumption) (by decide) | assumption) only [modTask_view, installFor_view, refreshForces_view, loopTriggers_view, writeArea_view, nextHeld_view, copyOut_view, storeEdges_view, taskFault_view, handOver_view, sendHash_view, forwardLines_view, view_lit, apply_ite (State.view hid), ite_self] | with_reducible apply foldl_keep | with_reducible apply foldl_keep2 | split | with_reducible rfl)

theorem release_view (s : State) (n : ℕ) (hh : Held) (hm : Sub 0xf0020000 hid) : (State.release s n hh).view hid = s.view hid := by
  unfold State.release
  repeat' (first | assumption | intro _ | simp (disch := first | exact hide_on (Sub.of (by assumption) (by decide)) | with_reducible rfl | exact Sub.of (by assumption) (by decide) | assumption) only [modTask_view, driveOutputs_view, sendPayload_view, canRelease_view, view_lit, apply_ite (State.view hid), ite_self] | split | with_reducible rfl)

theorem tryRelease_view (s : State) (n : ℕ) (osn : ℕ) (hm : Sub 0xf0020000 hid) : (State.tryRelease s n osn).view hid = s.view hid := by
  unfold State.tryRelease
  repeat' (first | assumption | intro _ | simp (disch := first | exact hide_on (Sub.of (by assumption) (by decide)) | with_reducible rfl | exact Sub.of (by assumption) (by decide) | assumption) only [release_view, view_lit, apply_ite (State.view hid), ite_self] | split | with_reducible rfl)

theorem releaseAll_view (s : State) (hm : Sub 0xf0020000 hid) : (State.releaseAll s).view hid = s.view hid := by
  unfold State.releaseAll
  repeat' (first | assumption | intro _ | simp (disch := first | exact hide_on (Sub.of (by assumption) (by decide)) | with_reducible rfl | exact Sub.of (by assumption) (by decide) | assumption) only [release_view, view_lit, apply_ite (State.view hid), ite_self] | with_reducible apply foldl_keep | with_reducible apply foldl_keep2 | split | with_reducible rfl)

theorem repeatFrame_view (s : State) (n : ℕ) (hm : Sub 0x40020000 hid) : (State.repeatFrame s n).view hid = s.view hid := by
  unfold State.repeatFrame
  repeat' (first | assumption | intro _ | simp (disch := first | exact hide_on (Sub.of (by assumption) (by decide)) | with_reducible rfl | exact Sub.of (by assumption) (by decide) | assumption) only [modTask_view, sendPayload_view, view_lit, apply_ite (State.view hid), ite_self] | split | with_reducible rfl)

theorem assemble_view (s : State) (p : Packet) : (State.assemble s p).1.view hid = s.view hid := by
  unfold State.assemble
  repeat' (first | assumption | intro _ | simp (disch := first | exact hide_on (Sub.of (by assumption) (by decide)) | with_reducible rfl | exact Sub.of (by assumption) (by decide) | assumption) only [view_lit, apply_ite (State.view hid), ite_self] | split | with_reducible rfl)
theorem assemble_view' {s : State} {p : Packet} {aa : _} {tt : State}  (h : (State.assemble s p) = (tt, aa)) : tt.view hid = s.view hid := by
  have := assemble_view (hid := hid) s p
  rwa [h] at this

theorem startOp_view (s : State) (r : Req) (hm : Sub 0x200 hid) : (State.startOp s r).2.view hid = s.view hid := by
  unfold State.startOp
  repeat' (first | assumption | intro _ | simp (disch := first | exact hide_on (Sub.of (by assumption) (by decide)) | with_reducible rfl | exact Sub.of (by assumption) (by decide) | assumption) only [view_lit, apply_ite (State.view hid), ite_self] | split | with_reducible rfl)
theorem startOp_view' {s : State} {r : Req} {aa : _} {tt : State} (hm : Sub 0x200 hid) (h : (State.startOp s r) = (aa, tt)) : tt.view hid = s.view hid := by
  have := startOp_view (hid := hid) s r hm
  rwa [h] at this

theorem completing_view (f : List Byte → U32 → State → State × Status × List Byte) (op : Option Nat) (body : List Byte) (sid : U32)
    (s : State) (hf : ∀ b i s, (f b i s).1.view hid = s.view hid) (hm : Sub 0x200 hid) : (completing f op body sid s).view hid = s.view hid := by
  unfold completing
  simp (disch := first | exact hide_on (Sub.of (by assumption) (by decide)) | with_reducible rfl | exact Sub.of (by assumption) (by decide) | assumption) only [completeOpt_view, hf]

theorem journalled_view (s : State) (r : Req) (st : Status) : (State.journalled s r st).view hid = s.view hid := by
  unfold State.journalled
  repeat' (first | assumption | intro _ | simp (disch := first | exact hide_on (Sub.of (by assumption) (by decide)) | with_reducible rfl | exact Sub.of (by assumption) (by decide) | assumption) only [view_lit, apply_ite (State.view hid), ite_self] | split | with_reducible rfl)

theorem reply_view (s : State) (r : Req) (f : List Byte) : (State.reply s r f).view hid = s.view hid := by
  unfold State.reply
  repeat' (first | assumption | intro _ | simp (disch := first | exact hide_on (Sub.of (by assumption) (by decide)) | with_reducible rfl | exact Sub.of (by assumption) (by decide) | assumption) only [emit_view, lane_view, view_lit, apply_ite (State.view hid), ite_self] | split | with_reducible rfl)

theorem respond_view (s : State) (r : Req) (key : Option (List Byte)) (session : U32) (st : Status) (arg : ℕ) (body : List Byte) : (State.respond s r key session st arg body).view hid = s.view hid := by
  unfold State.respond
  repeat' (first | assumption | intro _ | simp (disch := first | exact hide_on (Sub.of (by assumption) (by decide)) | with_reducible rfl | exact Sub.of (by assumption) (by decide) | assumption) only [countStatus_view, reply_view, view_lit, apply_ite (State.view hid), ite_self] | split | with_reducible rfl)

theorem authFail_view (s : State) (r : Req) : (State.authFail s r).view hid = s.view hid := by
  unfold State.authFail
  repeat' (first | assumption | intro _ | simp (disch := first | exact hide_on (Sub.of (by assumption) (by decide)) | with_reducible rfl | exact Sub.of (by assumption) (by decide) | assumption) only [raise_view, view_lit, apply_ite (State.view hid), ite_self] | split | with_reducible rfl)

theorem forward_view (s : State) (q : Req) (d : List Byte) : (State.forward s q d).view hid = s.view hid := by
  unfold State.forward
  repeat' (first | assumption | intro _ | simp (disch := first | exact hide_on (Sub.of (by assumption) (by decide)) | with_reducible rfl | exact Sub.of (by assumption) (by decide) | assumption) only [lane_view, respond_view, view_lit, apply_ite (State.view hid), ite_self] | split | with_reducible rfl)

theorem schedulePair_view (s : State) (r : Req) (op : ℕ) (hm : Sub 0x400 hid) : (State.schedulePair s r op).view hid = s.view hid := by
  unfold State.schedulePair
  repeat' (first | assumption | intro _ | simp (disch := first | exact hide_on (Sub.of (by assumption) (by decide)) | with_reducible rfl | exact Sub.of (by assumption) (by decide) | assumption) only [lane_view, view_lit, apply_ite (State.view hid), ite_self] | split | with_reducible rfl)

theorem relayPair_view (s : State) (r : Req) (hm : Sub 0x600 hid) : (State.relayPair s r).view hid = s.view hid := by
  unfold State.relayPair
  repeat' (first | assumption | intro _ | simp (disch := first | exact hide_on (Sub.of (by assumption) (by decide)) | with_reducible rfl | exact Sub.of (by assumption) (by decide) | assumption) only [lane_view, view_lit, apply_ite (State.view hid), ite_self] | split | with_reducible rfl)

theorem latch_view (s : State) (r : Req) : (State.latch s r).view hid = s.view hid := by
  unfold State.latch
  repeat' (first | assumption | intro _ | simp (disch := first | exact hide_on (Sub.of (by assumption) (by decide)) | with_reducible rfl | exact Sub.of (by assumption) (by decide) | assumption) only [view_lit, apply_ite (State.view hid), ite_self] | split | with_reducible rfl)

theorem alWaits_view (s : State) (code : ℕ) (body : List Byte) (op : Option ℕ) (session : U32) (counter : ℕ) (hm : Sub 0x200400 hid) : (State.alWaits s code body op session counter).view hid = s.view hid := by
  unfold State.alWaits
  repeat' (first | assumption | intro _ | simp (disch := first | exact hide_on (Sub.of (by assumption) (by decide)) | with_reducible rfl | exact Sub.of (by assumption) (by decide) | assumption) only [lane_view, view_lit, apply_ite (State.view hid), ite_self] | split | with_reducible rfl)


/-- A command whose run, effect and acceptance change hidden parts only. -/
structure KeepsCmd (hid : Nat) (c : Cmd) : Prop where
  run : ∀ r s, (c.run r s).st.view hid = s.view hid
  after : ∀ r s t, ((c.run r s).after t).view hid = t.view hid
  apply : ∀ op b sid s, (c.apply op b sid s).view hid = s.view hid
  accept : ∀ f, c.accept = some f → ∀ r op s, (f r op s).2.view hid = s.view hid

theorem carry_st {c : Cmd} (hc : KeepsCmd hid c) (r : Req) (s : State) (hm : Sub 0x600 hid) : (c.carry r s).st.view hid = s.view hid := by
  unfold Cmd.carry
  split
  · split
    rename_i heq
    split
    · exact (hc.accept _ ‹_› _ _ _).trans (startOp_view' (Sub.of hm (by decide)) heq)
    · exact (schedulePair_view _ _ _ (Sub.of hm (by decide))).trans (startOp_view' (Sub.of hm (by decide)) heq)
  · exact hc.run r s

theorem carry_after {c : Cmd} (hc : KeepsCmd hid c) (r : Req) (s t : State) :
    ((c.carry r s).after t).view hid = t.view hid := by
  unfold Cmd.carry
  split
  · split
    split <;> simp only [id]
  · exact hc.after r s t


theorem serveReq_view (s : State) (c : Cmd) (r : Req) (key : Option (List Byte)) (sid : U32) (lvl : ℕ) (unset : Bool) (hc : KeepsCmd hid c) (hm : Sub 0x600 hid) : (State.serveReq s c r key sid lvl unset).view hid = s.view hid := by
  unfold State.serveReq
  repeat' (first | assumption | intro _ | simp only [carry_after hc] | simp (disch := first | exact hide_on (Sub.of (by assumption) (by decide)) | with_reducible rfl | exact Sub.of (by assumption) (by decide) | assumption) only [carry_st hc] | simp (disch := first | exact hide_on (Sub.of (by assumption) (by decide)) | with_reducible rfl | exact Sub.of (by assumption) (by decide) | assumption) only [journalled_view, respond_view, relayPair_view, latch_view, view_lit, apply_ite (State.view hid), ite_self] | split | with_reducible rfl)

theorem sessionReq_view (s : State) (c : Cmd) (r : Req) (hc : KeepsCmd hid c) (hm : Sub 0x600 hid) : (State.sessionReq s c r).view hid = s.view hid := by
  unfold State.sessionReq
  repeat' (first | assumption | intro _ | simp (disch := first | exact hide_on (Sub.of (by assumption) (by decide)) | with_reducible rfl | exact Sub.of (by assumption) (by decide) | assumption) only [modSession_view, reply_view, authFail_view, serveReq_view (hc := hc), view_lit, apply_ite (State.view hid), ite_self] | split | with_reducible rfl)

theorem serveFrame_view (s : State) (c : Cmd) (r : Req) (hc : KeepsCmd hid c) (hm : Sub 0x600 hid) : (State.serveFrame s c r).view hid = s.view hid := by
  unfold State.serveFrame
  repeat' (first | assumption | intro _ | simp (disch := first | exact hide_on (Sub.of (by assumption) (by decide)) | with_reducible rfl | exact Sub.of (by assumption) (by decide) | assumption) only [authFail_view, serveReq_view (hc := hc), sessionReq_view (hc := hc), view_lit, apply_ite (State.view hid), ite_self] | split | with_reducible rfl)

theorem receive_view (s : State) (c : Cmd) (via : Via) (addr : U32) (port : U16) (d : List Byte) (hc : KeepsCmd hid c) (hm : Sub 0x600 hid) : (State.receive s c via addr port d).view hid = s.view hid := by
  unfold State.receive
  repeat' (first | assumption | intro _ | simp (disch := first | exact hide_on (Sub.of (by assumption) (by decide)) | with_reducible rfl | exact Sub.of (by assumption) (by decide) | assumption) only [forward_view, serveFrame_view (hc := hc), view_lit, apply_ite (State.view hid), ite_self] | split | with_reducible rfl)

theorem moveTasks_view (s : State) (p q : Nat) (hm : Sub 0x40 hid) : (s.moveTasks p q).view hid = s.view hid :=
  foldl_keep (fun _ _ => by simp (disch := first | exact hide_on (Sub.of (by assumption) (by decide)) | with_reducible rfl | exact Sub.of (by assumption) (by decide) | assumption) only [view_lit]) rfl

theorem retire_view (s : State) (p : ℕ) (cause : ℕ) (hm : Sub 0x1a804248 hid) : (State.retire s p cause).view hid = s.view hid := by
  unfold State.retire
  repeat' (first | assumption | intro _ | simp (disch := first | exact hide_on (Sub.of (by assumption) (by decide)) | with_reducible rfl | exact Sub.of (by assumption) (by decide) | assumption) only [raiseMand_view, halt_view, setRes_view, exhaust_view, provenFault_view, modCore_view, moveTasks_view, view_lit, apply_ite (State.view hid), ite_self] | split | with_reducible rfl)

theorem abandonForRecovery_view (s : State) (n : ℕ) (hm : Sub 0x30024000 hid) : (State.abandonForRecovery s n).view hid = s.view hid := by
  unfold State.abandonForRecovery
  repeat' (first | assumption | intro _ | simp (disch := first | exact hide_on (Sub.of (by assumption) (by decide)) | with_reducible rfl | exact Sub.of (by assumption) (by decide) | assumption) only [modTask_view, abandon_view, view_lit, apply_ite (State.view hid), ite_self] | split | with_reducible rfl)

theorem mismatch_view (s : State) (p : ℕ) (kind : ℕ) (lane : ℕ) (hit : List ℕ) (hm : Sub 0x3a824248 hid) : (State.mismatch s p kind lane hit).view hid = s.view hid := by
  unfold State.mismatch
  repeat' (first | assumption | intro _ | simp (disch := first | exact hide_on (Sub.of (by assumption) (by decide)) | with_reducible rfl | exact Sub.of (by assumption) (by decide) | assumption) only [lane_view, raiseMand_view, resetSoak_view, modCore_view, retire_view, abandonForRecovery_view, view_lit, apply_ite (State.view hid), ite_self] | with_reducible apply foldl_keep | with_reducible apply foldl_keep2 | split | with_reducible rfl)

theorem injected_view (s : State) (p : ℕ) (passed : U64) (hm : Sub 0x1a804248 hid) : (State.injected s p passed).view hid = s.view hid := by
  unfold State.injected
  repeat' (first | assumption | intro _ | simp (disch := first | exact hide_on (Sub.of (by assumption) (by decide)) | with_reducible rfl | exact Sub.of (by assumption) (by decide) | assumption) only [raise_view, halt_view, setRes_view, spareFails_view, provenFault_view, modCore_view, retire_view, view_lit, apply_ite (State.view hid), ite_self] | split | with_reducible rfl)

theorem voidFrames_view (s : State) (first : ℕ) (count : ℕ) (hm : Sub 0x3013c000 hid) : (State.voidFrames s first count).view hid = s.view hid := by
  unfold State.voidFrames
  repeat' (first | assumption | intro _ | simp (disch := first | exact hide_on (Sub.of (by assumption) (by decide)) | with_reducible rfl | exact Sub.of (by assumption) (by decide) | assumption) only [resync_view, abandon_view, view_lit, apply_ite (State.view hid), ite_self] | with_reducible apply foldl_keep | with_reducible apply foldl_keep2 | split | with_reducible rfl)

theorem drainPair_view (s : State) (p : ℕ) (k : DrainKind) (op : Option ℕ) (hm : Sub 0x800000 hid) : (State.drainPair s p k op).view hid = s.view hid := by
  unfold State.drainPair
  repeat' (first | assumption | intro _ | simp (disch := first | exact hide_on (Sub.of (by assumption) (by decide)) | with_reducible rfl | exact Sub.of (by assumption) (by decide) | assumption) only [modCore_view, view_lit, apply_ite (State.view hid), ite_self] | split | with_reducible rfl)

theorem drained_view (s : State) (p : ℕ) (d : Drain) (hm : Sub 0x2800200 hid) : (State.drained s p d).view hid = s.view hid := by
  unfold State.drained
  repeat' (first | assumption | intro _ | simp (disch := first | exact hide_on (Sub.of (by assumption) (by decide)) | with_reducible rfl | exact Sub.of (by assumption) (by decide) | assumption) only [raise_view, raiseMand_view, completeOpt_view, modCore_view, view_lit, apply_ite (State.view hid), ite_self] | split | with_reducible rfl)

theorem detach_view (s : State) (hm : Sub 0x800000 hid) : (State.detach s).view hid = s.view hid := by
  unfold State.detach
  repeat' (first | assumption | intro _ | simp (disch := first | exact hide_on (Sub.of (by assumption) (by decide)) | with_reducible rfl | exact Sub.of (by assumption) (by decide) | assumption) only [modCore_view, drainPair_view, view_lit, apply_ite (State.view hid), ite_self] | split | with_reducible rfl)

theorem forcedDetach_view (s : State) (hm : Sub 0x800000 hid) : (State.forcedDetach s).view hid = s.view hid := by
  unfold State.forcedDetach
  repeat' (first | assumption | intro _ | simp (disch := first | exact hide_on (Sub.of (by assumption) (by decide)) | with_reducible rfl | exact Sub.of (by assumption) (by decide) | assumption) only [raiseMand_view, detach_view, view_lit, apply_ite (State.view hid), ite_self] | split | with_reducible rfl)

theorem loopWritten_view (s : State) (n : ℕ) (old : ℕ) (new : ℕ) (hm : Sub 0x100000 hid) : (State.loopWritten s n old new).view hid = s.view hid := by
  unfold State.loopWritten
  repeat' (first | assumption | intro _ | simp (disch := first | exact hide_on (Sub.of (by assumption) (by decide)) | with_reducible rfl | exact Sub.of (by assumption) (by decide) | assumption) only [modRec_view, bindLoop_view, view_lit, apply_ite (State.view hid), ite_self] | with_reducible apply foldl_keep | with_reducible apply foldl_keep2 | split | with_reducible rfl)

theorem loopsInit_view (s : State) (hm : Sub 0x100000 hid) : (State.loopsInit s).view hid = s.view hid := by
  unfold State.loopsInit
  repeat' (first | assumption | intro _ | simp (disch := first | exact hide_on (Sub.of (by assumption) (by decide)) | with_reducible rfl | exact Sub.of (by assumption) (by decide) | assumption) only [modRec_view, view_lit, apply_ite (State.view hid), ite_self] | with_reducible apply foldl_keep | with_reducible apply foldl_keep2 | split | with_reducible rfl)

theorem loopsStop_view (s : State) (hm : Sub 0x100000 hid) : (State.loopsStop s).view hid = s.view hid := by
  unfold State.loopsStop
  repeat' (first | assumption | intro _ | simp (disch := first | exact hide_on (Sub.of (by assumption) (by decide)) | with_reducible rfl | exact Sub.of (by assumption) (by decide) | assumption) only [view_lit, apply_ite (State.view hid), ite_self] | split | with_reducible rfl)

theorem modInj_view (s : State) (g : ℕ) (f : Inject → Inject) (hm : Sub 0x100000 hid) : (State.modInj s g f).view hid = s.view hid := by
  unfold State.modInj
  repeat' (first | assumption | intro _ | simp (disch := first | exact hide_on (Sub.of (by assumption) (by decide)) | with_reducible rfl | exact Sub.of (by assumption) (by decide) | assumption) only [view_lit, apply_ite (State.view hid), ite_self] | split | with_reducible rfl)

theorem injStop_view (s : State) (g : ℕ) (hm : Sub 0x100200 hid) : (State.injStop s g).view hid = s.view hid := by
  unfold State.injStop
  repeat' (first | assumption | intro _ | simp (disch := first | exact hide_on (Sub.of (by assumption) (by decide)) | with_reducible rfl | exact Sub.of (by assumption) (by decide) | assumption) only [completeOpt_view, modRec_view, modInj_view, view_lit, apply_ite (State.view hid), ite_self] | split | with_reducible rfl)

theorem injStopAll_view (s : State) (hm : Sub 0x100200 hid) : (State.injStopAll s).view hid = s.view hid := by
  unfold State.injStopAll
  repeat' (first | assumption | intro _ | simp (disch := first | exact hide_on (Sub.of (by assumption) (by decide)) | with_reducible rfl | exact Sub.of (by assumption) (by decide) | assumption) only [injStop_view, view_lit, apply_ite (State.view hid), ite_self] | with_reducible apply foldl_keep | with_reducible apply foldl_keep2 | split | with_reducible rfl)

theorem inject_view (s : State) (r : ℕ) (t : ℕ) (hm : Sub 0x100200 hid) : (State.inject s r t).2.view hid = s.view hid := by
  unfold State.inject
  repeat' (first | assumption | intro _ | simp (disch := first | exact hide_on (Sub.of (by assumption) (by decide)) | with_reducible rfl | exact Sub.of (by assumption) (by decide) | assumption) only [completeOpt_view, modRec_view, modInj_view, injStop_view, view_lit, apply_ite (State.view hid), ite_self] | split | with_reducible rfl)
theorem inject_view' {s : State} {r : ℕ} {t : ℕ} {aa : _} {tt : State} (hm : Sub 0x100200 hid) (h : (State.inject s r t) = (aa, tt)) : tt.view hid = s.view hid := by
  have := inject_view (hid := hid) s r t hm
  rwa [h] at this

theorem gather_view (s : State) (it : LoopItem) (r : ℕ) (hm : Sub 0x8100200 hid) : (State.gather s it r).2.view hid = s.view hid := by
  unfold State.gather
  repeat' (first | assumption | intro _ | refine (readDirect_view' (Sub.of (by assumption) (by decide)) (by assumption)).trans ?_ | refine (inject_view' (Sub.of (by assumption) (by decide)) (by assumption)).trans ?_ | simp (disch := first | exact hide_on (Sub.of (by assumption) (by decide)) | with_reducible rfl | exact Sub.of (by assumption) (by decide) | assumption) only [readDirect_view, inject_view, view_lit, apply_ite (State.view hid), ite_self] | split | with_reducible rfl)
theorem gather_view' {s : State} {it : LoopItem} {r : ℕ} {aa : _} {tt : State} (hm : Sub 0x8100200 hid) (h : (State.gather s it r) = (aa, tt)) : tt.view hid = s.view hid := by
  have := gather_view (hid := hid) s it r hm
  rwa [h] at this

theorem loopMismatch_view (s : State) (hm : Sub 0x2100000 hid) : (State.loopMismatch s).view hid = s.view hid := by
  unfold State.loopMismatch
  repeat' (first | assumption | intro _ | simp (disch := first | exact hide_on (Sub.of (by assumption) (by decide)) | with_reducible rfl | exact Sub.of (by assumption) (by decide) | assumption) only [raiseMand_view, engineLimit_view, view_lit, apply_ite (State.view hid), ite_self] | split | with_reducible rfl)

theorem recFaulted_view (s : State) (r : ℕ) (hm : Sub 0x3013c000 hid) : (State.recFaulted s r).view hid = s.view hid := by
  unfold State.recFaulted
  repeat' (first | assumption | intro _ | simp (disch := first | exact hide_on (Sub.of (by assumption) (by decide)) | with_reducible rfl | exact Sub.of (by assumption) (by decide) | assumption) only [lane_view, raiseFlag_view, modRec_view, view_lit, apply_ite (State.view hid), ite_self] | split | with_reducible rfl)

theorem evalMember_view (s : State) (it : LoopItem) (x : LoopIn) (tries : ℕ) (hm : Sub 0x3213c000 hid) : (State.evalMember s it x tries).2.view hid = s.view hid := by
  unfold State.evalMember
  repeat' (first | assumption | intro _ | simp (disch := first | exact hide_on (Sub.of (by assumption) (by decide)) | with_reducible rfl | exact Sub.of (by assumption) (by decide) | assumption) only [modRec_view, loopMismatch_view, recFaulted_view, view_lit, apply_ite (State.view hid), ite_self] | split | with_reducible rfl)
theorem evalMember_view' {s : State} {it : LoopItem} {x : LoopIn} {tries : ℕ} {aa : _} {tt : State} (hm : Sub 0x3213c000 hid) (h : (State.evalMember s it x tries) = (aa, tt)) : tt.view hid = s.view hid := by
  have := evalMember_view (hid := hid) s it x tries hm
  rwa [h] at this

theorem sendLoops_view (s : State) : (State.sendLoops s).view hid = s.view hid := by
  unfold State.sendLoops
  repeat' (first | assumption | intro _ | simp (disch := first | exact hide_on (Sub.of (by assumption) (by decide)) | with_reducible rfl | exact Sub.of (by assumption) (by decide) | assumption) only [lane_view, view_lit, apply_ite (State.view hid), ite_self] | with_reducible apply foldl_keep | with_reducible apply foldl_keep2 | split | with_reducible rfl)

theorem loopsBehind_view (s : State) (hm : Sub 0x100000 hid) : (State.loopsBehind s).view hid = s.view hid := by
  unfold State.loopsBehind
  repeat' (first | assumption | intro _ | simp (disch := first | exact hide_on (Sub.of (by assumption) (by decide)) | with_reducible rfl | exact Sub.of (by assumption) (by decide) | assumption) only [lane_view, view_lit, apply_ite (State.view hid), ite_self] | split | with_reducible rfl)

theorem loopWrite_view (s : State) (en : ℕ) (v32 : ℕ) (hm : Sub 0x10012000 hid) : (State.loopWrite s en v32).view hid = s.view hid := by
  unfold State.loopWrite
  repeat' (first | assumption | intro _ | simp (disch := first | exact hide_on (Sub.of (by assumption) (by decide)) | with_reducible rfl | exact Sub.of (by assumption) (by decide) | assumption) only [produceAp_view, setAoCmd_view, view_lit, apply_ite (State.view hid), ite_self] | split | with_reducible rfl)

theorem modCap_view (s : State) (c : ℕ) (f : Capture → Capture) (hm : Sub 0x100000 hid) : (State.modCap s c f).view hid = s.view hid := by
  unfold State.modCap
  repeat' (first | assumption | intro _ | simp (disch := first | exact hide_on (Sub.of (by assumption) (by decide)) | with_reducible rfl | exact Sub.of (by assumption) (by decide) | assumption) only [view_lit, apply_ite (State.view hid), ite_self] | split | with_reducible rfl)

theorem capStore_view (s : State) (c : ℕ) (v : LoopEval) (v32 : ℕ) (t : ℕ) (hm : Sub 0x100200 hid) : (State.capStore s c v v32 t).view hid = s.view hid := by
  unfold State.capStore
  repeat' (first | assumption | intro _ | simp (disch := first | exact hide_on (Sub.of (by assumption) (by decide)) | with_reducible rfl | exact Sub.of (by assumption) (by decide) | assumption) only [completeOpt_view, modCap_view, view_lit, apply_ite (State.view hid), ite_self] | split | with_reducible rfl)

theorem releaseItem_view (s : State) (it : LoopItem) (xs : List LoopIn) (vs : List LoopEval) (hm : Sub 0x10112200 hid) : (State.releaseItem s it xs vs).view hid = s.view hid := by
  unfold State.releaseItem
  split
  · rfl
  · extract_lets en group v32 echo s1 base mates s2 s3 s4 s5 src s6 s7 s8
    have hr : ∀ (t : State) r f, (t.modRec r f).view hid = t.view hid := fun t r f => modRec_view _ _ _ (Sub.of hm (by decide))
    have h1 : s1.view hid = s.view hid := ite_view rfl (loopWrite_view _ _ _ (Sub.of hm (by decide)))
    have h2 : s2.view hid = s.view hid := ite_view h1 (foldl_keep (fun t a => hr _ _ _) h1)
    have h3 : s3.view hid = s.view hid := ite_view h2 (foldl_keep (fun t a => ite_view rfl (hr _ _ _)) h2)
    have h4 : s4.view hid = s.view hid := foldl_keep (fun t a => hr _ _ _) h3
    have h5 : s5.view hid = s.view hid := foldl_keep (fun t a => by simp (disch := first | exact hide_on (Sub.of (by assumption) (by decide)) | with_reducible rfl | exact Sub.of (by assumption) (by decide) | assumption) only [view_lit]) h4
    have h6 : s6.view hid = s.view hid := (show s6.view hid = s5.view hid by simp (disch := first | exact hide_on (Sub.of (by assumption) (by decide)) | with_reducible rfl | exact Sub.of (by assumption) (by decide) | assumption) only [s6, view_lit]).trans h5
    have h7 : s7.view hid = s.view hid := foldl_keep (fun t a => foldl_keep (fun t b => capStore_view _ _ _ _ _ (Sub.of hm (by decide))) rfl) h6
    have h8 : s8.view hid = s.view hid := by
      simp only [s8]
      split
      · exact ite_view h7 (foldl_keep (fun t a => lane_view _ _ _ _) h7)
      · exact h7
    exact ite_view (foldl_keep (fun t a => lane_view _ _ _ _) h8) h8

theorem exchangeLoop_view (s : State) (hm : Sub 0x100000 hid) : (State.exchangeLoop s).view hid = s.view hid := by
  unfold State.exchangeLoop
  repeat' (first | assumption | intro _ | simp (disch := first | exact hide_on (Sub.of (by assumption) (by decide)) | with_reducible rfl | exact Sub.of (by assumption) (by decide) | assumption) only [lane_view, view_lit, apply_ite (State.view hid), ite_self] | split | with_reducible rfl)

theorem evalItem_view (s : State) (it : LoopItem) (xs : List LoopIn) (mis : List (ℕ × ℕ)) (hm : Sub 0x3213e200 hid) : (State.evalItem s it xs mis).view hid = s.view hid := by
  unfold State.evalItem
  repeat' (first | assumption | intro _ | refine (evalMember_view' (Sub.of (by assumption) (by decide)) (by assumption)).trans ?_ | simp (disch := first | exact hide_on (Sub.of (by assumption) (by decide)) | with_reducible rfl | exact Sub.of (by assumption) (by decide) | assumption) only [evalMember_view, releaseItem_view, exchangeLoop_view, view_lit, apply_ite (State.view hid), ite_self] | with_reducible apply foldl_keep | with_reducible apply foldl_keep2 | split | with_reducible rfl)

theorem runItem_view (s : State) (it : LoopItem) (mis : List (ℕ × ℕ)) (hm : Sub 0x3a13e200 hid) : (State.runItem s it mis).view hid = s.view hid := by
  unfold State.runItem
  repeat' (first | assumption | intro _ | refine (gather_view' (Sub.of (by assumption) (by decide)) (by assumption)).trans ?_ | simp (disch := first | exact hide_on (Sub.of (by assumption) (by decide)) | with_reducible rfl | exact Sub.of (by assumption) (by decide) | assumption) only [lane_view, gather_view, evalItem_view, view_lit, apply_ite (State.view hid), ite_self] | with_reducible apply foldl_keep | with_reducible apply foldl_keep2 | split | with_reducible rfl)

theorem loopFrame_view (s : State) (lsn : ℕ) (time : ℕ) (members : List LoopIn) (mis : List (ℕ × ℕ)) (hm : Sub 0x3213e200 hid) : (State.loopFrame s lsn time members mis).view hid = s.view hid := by
  unfold State.loopFrame
  repeat' (first | assumption | intro _ | simp (disch := first | exact hide_on (Sub.of (by assumption) (by decide)) | with_reducible rfl | exact Sub.of (by assumption) (by decide) | assumption) only [lane_view, evalItem_view, view_lit, apply_ite (State.view hid), ite_self] | with_reducible apply foldl_keep | with_reducible apply foldl_keep2 | split | with_reducible rfl)

theorem loopAnswer_view (s : State) (lsn : ℕ) (r : ℕ) (v : ℕ) (six : List ℕ) (hm : Sub 0x10112000 hid) : (State.loopAnswer s lsn r v six).view hid = s.view hid := by
  unfold State.loopAnswer
  repeat' (first | assumption | intro _ | simp (disch := first | exact hide_on (Sub.of (by assumption) (by decide)) | with_reducible rfl | exact Sub.of (by assumption) (by decide) | assumption) only [resync_view, modRec_view, loopWrite_view, view_lit, apply_ite (State.view hid), ite_self] | split | with_reducible rfl)

theorem injectRun_view (op : Option ℕ) (b : List Byte) (x2 : U32) (s : State) (hm : Sub 0x100200 hid) : (injectRun op b x2 s).view hid = s.view hid := by
  unfold injectRun
  repeat' (first | assumption | intro _ | simp (disch := first | exact hide_on (Sub.of (by assumption) (by decide)) | with_reducible rfl | exact Sub.of (by assumption) (by decide) | assumption) only [completeOpt_view, modInj_view, injStop_view, view_lit, apply_ite (State.view hid), ite_self] | split | with_reducible rfl)

theorem captureRun_view (op : Option ℕ) (b : List Byte) (x2 : U32) (s : State) (hm : Sub 0x100200 hid) : (captureRun op b x2 s).view hid = s.view hid := by
  unfold captureRun
  repeat' (first | assumption | intro _ | simp (disch := first | exact hide_on (Sub.of (by assumption) (by decide)) | with_reducible rfl | exact Sub.of (by assumption) (by decide) | assumption) only [completeOpt_view, modCap_view, view_lit, apply_ite (State.view hid), ite_self] | split | with_reducible rfl)

theorem modAl_view (s : State) (n : ℕ) (f : AlEnt → AlEnt) (hm : Sub 0x200000 hid) : (State.modAl s n f).view hid = s.view hid := by
  unfold State.modAl
  repeat' (first | assumption | intro _ | simp (disch := first | exact hide_on (Sub.of (by assumption) (by decide)) | with_reducible rfl | exact Sub.of (by assumption) (by decide) | assumption) only [view_lit, apply_ite (State.view hid), ite_self] | split | with_reducible rfl)

theorem modGrp_view (s : State) (g : ℕ) (f : AlGrp → AlGrp) (hm : Sub 0x200000 hid) : (State.modGrp s g f).view hid = s.view hid := by
  unfold State.modGrp
  repeat' (first | assumption | intro _ | simp (disch := first | exact hide_on (Sub.of (by assumption) (by decide)) | with_reducible rfl | exact Sub.of (by assumption) (by decide) | assumption) only [view_lit, apply_ite (State.view hid), ite_self] | split | with_reducible rfl)

theorem modLad_view (s : State) (f : Ladder → Ladder) (hm : Sub 0x200000 hid) : (State.modLad s f).view hid = s.view hid := by
  unfold State.modLad
  repeat' (first | assumption | intro _ | simp (disch := first | exact hide_on (Sub.of (by assumption) (by decide)) | with_reducible rfl | exact Sub.of (by assumption) (by decide) | assumption) only [view_lit, apply_ite (State.view hid), ite_self] | split | with_reducible rfl)

theorem journal_view (s : State) (r : JourRec) (hm : Sub 0x400000 hid) : (State.journal s r).view hid = s.view hid := by
  unfold State.journal
  repeat' (first | assumption | intro _ | simp (disch := first | exact hide_on (Sub.of (by assumption) (by decide)) | with_reducible rfl | exact Sub.of (by assumption) (by decide) | assumption) only [view_lit, apply_ite (State.view hid), ite_self] | split | with_reducible rfl)

theorem jBacklog_view (s : State) (hm : Sub 0x400000 hid) : (State.jBacklog s).view hid = s.view hid := by
  unfold State.jBacklog
  repeat' (first | assumption | intro _ | simp (disch := first | exact hide_on (Sub.of (by assumption) (by decide)) | with_reducible rfl | exact Sub.of (by assumption) (by decide) | assumption) only [raise_view, view_lit, apply_ite (State.view hid), ite_self] | split | with_reducible rfl)

theorem alTellMismatch_view (s : State) (n : ℕ) (bad : Bool) : (State.alTellMismatch s n bad).view hid = s.view hid := by
  unfold State.alTellMismatch
  repeat' (first | assumption | intro _ | simp (disch := first | exact hide_on (Sub.of (by assumption) (by decide)) | with_reducible rfl | exact Sub.of (by assumption) (by decide) | assumption) only [raise_view, view_lit, apply_ite (State.view hid), ite_self] | split | with_reducible rfl)

theorem alMismatch_view (s : State) (mis : List (ℕ × ℕ)) (n : ℕ) (hm : Sub 0x2200000 hid) : (State.alMismatch s mis n).2.view hid = s.view hid := by
  unfold State.alMismatch
  repeat' (first | assumption | intro _ | simp (disch := first | exact hide_on (Sub.of (by assumption) (by decide)) | with_reducible rfl | exact Sub.of (by assumption) (by decide) | assumption) only [engineLimit_view, alTellMismatch_view, view_lit, apply_ite (State.view hid), ite_self] | split | with_reducible rfl)
theorem alMismatch_view' {s : State} {mis : List (ℕ × ℕ)} {n : ℕ} {aa : _} {tt : State} (hm : Sub 0x2200000 hid) (h : (State.alMismatch s mis n) = (aa, tt)) : tt.view hid = s.view hid := by
  have := alMismatch_view (hid := hid) s mis n hm
  rwa [h] at this

theorem alSuppress_view (s : State) (q : AlSnap) (mis : List (ℕ × ℕ)) (hm : Sub 0x3233c000 hid) : (State.alSuppress s q mis).2.view hid = s.view hid := by
  unfold State.alSuppress
  repeat' (first | assumption | intro _ | refine (alMismatch_view' (Sub.of (by assumption) (by decide)) (by assumption)).trans ?_ | simp (disch := first | exact hide_on (Sub.of (by assumption) (by decide)) | with_reducible rfl | exact Sub.of (by assumption) (by decide) | assumption) only [raiseFlag_view, modGrp_view, alMismatch_view, view_lit, apply_ite (State.view hid), ite_self] | with_reducible apply foldl_keep | with_reducible apply foldl_keep2 | split | with_reducible rfl)
theorem alSuppress_view' {s : State} {q : AlSnap} {mis : List (ℕ × ℕ)} {aa : _} {tt : State} (hm : Sub 0x3233c000 hid) (h : (State.alSuppress s q mis) = (aa, tt)) : tt.view hid = s.view hid := by
  have := alSuppress_view (hid := hid) s q mis hm
  rwa [h] at this

theorem alEntry_view (s : State) (mis : List (ℕ × ℕ)) (prev : Tab AlGrp) (p : AlPass) (n : ℕ) (e : ℕ) (hm : Sub 0x2200000 hid) : (State.alEntry s mis prev p n e).2.view hid = s.view hid := by
  unfold State.alEntry
  repeat' (first | assumption | intro _ | refine (alMismatch_view' (Sub.of (by assumption) (by decide)) (by assumption)).trans ?_ | simp (disch := first | exact hide_on (Sub.of (by assumption) (by decide)) | with_reducible rfl | exact Sub.of (by assumption) (by decide) | assumption) only [modAl_view, alMismatch_view, view_lit, apply_ite (State.view hid), ite_self] | split | with_reducible rfl)
theorem alEntry_view' {s : State} {mis : List (ℕ × ℕ)} {prev : Tab AlGrp} {p : AlPass} {n : ℕ} {e : ℕ} {aa : _} {tt : State} (hm : Sub 0x2200000 hid) (h : (State.alEntry s mis prev p n e) = (aa, tt)) : tt.view hid = s.view hid := by
  have := alEntry_view (hid := hid) s mis prev p n e hm
  rwa [h] at this

theorem alPass_view (s : State) (q : AlSnap) (mis : List (ℕ × ℕ)) (hm : Sub 0x3233c000 hid) : (State.alPass s q mis).2.view hid = s.view hid := by
  unfold State.alPass
  repeat' (first | assumption | intro _ | refine (alSuppress_view' (Sub.of (by assumption) (by decide)) (by assumption)).trans ?_ | refine (alEntry_view' (Sub.of (by assumption) (by decide)) (by assumption)).trans ?_ | simp (disch := first | exact hide_on (Sub.of (by assumption) (by decide)) | with_reducible rfl | exact Sub.of (by assumption) (by decide) | assumption) only [raiseFlag_view, alSuppress_view, alEntry_view, view_lit, apply_ite (State.view hid), ite_self] | with_reducible apply foldl_keep | with_reducible apply foldl_keep2 | split | with_reducible rfl)
theorem alPass_view' {s : State} {q : AlSnap} {mis : List (ℕ × ℕ)} {aa : _} {tt : State} (hm : Sub 0x3233c000 hid) (h : (State.alPass s q mis) = (aa, tt)) : tt.view hid = s.view hid := by
  have := alPass_view (hid := hid) s q mis hm
  rwa [h] at this

theorem alAggregate_view (s : State) (mis : List (ℕ × ℕ)) (p : AlPass) (g : ℕ) (hm : Sub 0x3233c000 hid) : (State.alAggregate s mis p g).view hid = s.view hid := by
  unfold State.alAggregate
  repeat' (first | assumption | intro _ | refine (alMismatch_view' (Sub.of (by assumption) (by decide)) (by assumption)).trans ?_ | simp (disch := first | exact hide_on (Sub.of (by assumption) (by decide)) | with_reducible rfl | exact Sub.of (by assumption) (by decide) | assumption) only [raiseFlag_view, modGrp_view, alMismatch_view, view_lit, apply_ite (State.view hid), ite_self] | split | with_reducible rfl)

theorem alClasses_view (s : State) (hm : Sub 0x200000 hid) : (State.alClasses s).view hid = s.view hid := by
  unfold State.alClasses
  repeat' (first | assumption | intro _ | simp (disch := first | exact hide_on (Sub.of (by assumption) (by decide)) | with_reducible rfl | exact Sub.of (by assumption) (by decide) | assumption) only [view_lit, apply_ite (State.view hid), ite_self] | split | with_reducible rfl)

theorem callNet_view (s : State) (r : ℕ) (hm : Sub 0x40200000 hid) : (State.callNet s r).view hid = s.view hid := by
  unfold State.callNet
  repeat' (first | assumption | intro _ | simp (disch := first | exact hide_on (Sub.of (by assumption) (by decide)) | with_reducible rfl | exact Sub.of (by assumption) (by decide) | assumption) only [plantSend_view, modLad_view, view_lit, apply_ite (State.view hid), ite_self] | split | with_reducible rfl)

theorem callCan_view (s : State) (r : ℕ) (hm : Sub 0x80200000 hid) : (State.callCan s r).view hid = s.view hid := by
  unfold State.callCan
  repeat' (first | assumption | intro _ | simp (disch := first | exact hide_on (Sub.of (by assumption) (by decide)) | with_reducible rfl | exact Sub.of (by assumption) (by decide) | assumption) only [canLoad_view, modLad_view, view_lit, apply_ite (State.view hid), ite_self] | split | with_reducible rfl)

theorem callMessages_view (s : State) (r : ℕ) (hm : Sub 0xc0200000 hid) : (State.callMessages s r).view hid = s.view hid := by
  unfold State.callMessages
  repeat' (first | assumption | intro _ | simp (disch := first | exact hide_on (Sub.of (by assumption) (by decide)) | with_reducible rfl | exact Sub.of (by assumption) (by decide) | assumption) only [callNet_view, callCan_view, view_lit, apply_ite (State.view hid), ite_self] | split | with_reducible rfl)

theorem enterRung_view (s : State) (q : AlSnap) (r : ℕ) (hm : Sub 0xc0600000 hid) : (State.enterRung s q r).view hid = s.view hid := by
  unfold State.enterRung
  repeat' (first | assumption | intro _ | simp (disch := first | exact hide_on (Sub.of (by assumption) (by decide)) | with_reducible rfl | exact Sub.of (by assumption) (by decide) | assumption) only [raise_view, modLad_view, journal_view, callMessages_view, view_lit, apply_ite (State.view hid), ite_self] | split | with_reducible rfl)

theorem ladderStop_view (s : State) (q : AlSnap) (cause : ℕ) (num : ℕ) (code : ℕ) (session : ℕ) (hm : Sub 0x600000 hid) : (State.ladderStop s q cause num code session).view hid = s.view hid := by
  unfold State.ladderStop
  repeat' (first | assumption | intro _ | simp (disch := first | exact hide_on (Sub.of (by assumption) (by decide)) | with_reducible rfl | exact Sub.of (by assumption) (by decide) | assumption) only [raise_view, modLad_view, journal_view, view_lit, apply_ite (State.view hid), ite_self] | split | with_reducible rfl)

theorem ladderAckStep_view (s : State) (q : AlSnap) (hm : Sub 0x600000 hid) : (State.ladderAckStep s q).view hid = s.view hid := by
  unfold State.ladderAckStep
  repeat' (first | assumption | intro _ | simp (disch := first | exact hide_on (Sub.of (by assumption) (by decide)) | with_reducible rfl | exact Sub.of (by assumption) (by decide) | assumption) only [modLad_view, ladderStop_view, view_lit, apply_ite (State.view hid), ite_self] | split | with_reducible rfl)

theorem ladderRunStep_view (s : State) (q : AlSnap) (news : List ℕ) (ran : Bool) (hm : Sub 0xc0600000 hid) : (State.ladderRunStep s q news ran).view hid = s.view hid := by
  unfold State.ladderRunStep
  repeat' (first | assumption | intro _ | simp (disch := first | exact hide_on (Sub.of (by assumption) (by decide)) | with_reducible rfl | exact Sub.of (by assumption) (by decide) | assumption) only [raise_view, modLad_view, journal_view, callMessages_view, enterRung_view, view_lit, apply_ite (State.view hid), ite_self] | with_reducible apply foldl_keep | with_reducible apply foldl_keep2 | split | with_reducible rfl)

theorem alPublish_view (s : State) (t : ℕ) (hm : Sub 0x32000 hid) : (State.alPublish s t).view hid = s.view hid := by
  unfold State.alPublish
  repeat' (first | assumption | intro _ | simp (disch := first | exact hide_on (Sub.of (by assumption) (by decide)) | with_reducible rfl | exact Sub.of (by assumption) (by decide) | assumption) only [produceAp_view, produceBp_view, view_lit, apply_ite (State.view hid), ite_self] | with_reducible apply foldl_keep | with_reducible apply foldl_keep2 | split | with_reducible rfl)

theorem ladderDrive_view (s : State) (hm : Sub 0x20000000 hid) : (State.ladderDrive s).view hid = s.view hid := by
  unfold State.ladderDrive
  repeat' (first | assumption | intro _ | simp (disch := first | exact hide_on (Sub.of (by assumption) (by decide)) | with_reducible rfl | exact Sub.of (by assumption) (by decide) | assumption) only [setSw_view, view_lit, apply_ite (State.view hid), ite_self] | with_reducible apply foldl_keep | with_reducible apply foldl_keep2 | split | with_reducible rfl)

theorem alEvents_view (s : State) (p : AlPass) : (State.alEvents s p).view hid = s.view hid := by
  unfold State.alEvents
  repeat' (first | assumption | intro _ | simp (disch := first | exact hide_on (Sub.of (by assumption) (by decide)) | with_reducible rfl | exact Sub.of (by assumption) (by decide) | assumption) only [raise_view, view_lit, apply_ite (State.view hid), ite_self] | with_reducible apply foldl_keep | with_reducible apply foldl_keep2 | split | with_reducible rfl)

theorem alRelease_view (s : State) (p : AlPass) (hm : Sub 0xf273e000 hid) : (State.alRelease s p).view hid = s.view hid := by
  unfold State.alRelease
  repeat' (first | assumption | intro _ | refine (alMismatch_view' (Sub.of (by assumption) (by decide)) (by assumption)).trans ?_ | simp (disch := first | exact hide_on (Sub.of (by assumption) (by decide)) | with_reducible rfl | exact Sub.of (by assumption) (by decide) | assumption) only [lane_view, raiseFlag_view, journal_view, jBacklog_view, alMismatch_view, alAggregate_view, alClasses_view, ladderAckStep_view, ladderRunStep_view, alPublish_view, ladderDrive_view, alEvents_view, view_lit, apply_ite (State.view hid), ite_self] | with_reducible apply foldl_keep | with_reducible apply foldl_keep2 | split | with_reducible rfl)

theorem alScan_view (s : State) (q : AlSnap) (mis : List (ℕ × ℕ)) (follow : ℕ) (hm : Sub 0xf273e000 hid) : (State.alScan s q mis follow).view hid = s.view hid := by
  unfold State.alScan
  repeat' (first | assumption | intro _ | refine (alPass_view' (Sub.of (by assumption) (by decide)) (by assumption)).trans ?_ | simp (disch := first | exact hide_on (Sub.of (by assumption) (by decide)) | with_reducible rfl | exact Sub.of (by assumption) (by decide) | assumption) only [lane_view, alPass_view, alRelease_view, view_lit, apply_ite (State.view hid), ite_self] | with_reducible apply foldl_keep | with_reducible apply foldl_keep2 | split | with_reducible rfl)

theorem alAck1_view (s : State) (session : ℕ) (n : ℕ) (hm : Sub 0x600000 hid) : (State.alAck1 s session n).2.view hid = s.view hid := by
  unfold State.alAck1
  repeat' (first | assumption | intro _ | simp (disch := first | exact hide_on (Sub.of (by assumption) (by decide)) | with_reducible rfl | exact Sub.of (by assumption) (by decide) | assumption) only [modAl_view, journal_view, view_lit, apply_ite (State.view hid), ite_self] | split | with_reducible rfl)
theorem alAck1_view' {s : State} {session : ℕ} {n : ℕ} {aa : _} {tt : State} (hm : Sub 0x600000 hid) (h : (State.alAck1 s session n) = (aa, tt)) : tt.view hid = s.view hid := by
  have := alAck1_view (hid := hid) s session n hm
  rwa [h] at this

theorem alAck_view (s : State) (session : ℕ) (l : List ℕ) (hm : Sub 0x600000 hid) : (State.alAck s session l).2.view hid = s.view hid := by
  unfold State.alAck
  repeat' (first | assumption | intro _ | refine (alAck1_view' (Sub.of (by assumption) (by decide)) (by assumption)).trans ?_ | simp (disch := first | exact hide_on (Sub.of (by assumption) (by decide)) | with_reducible rfl | exact Sub.of (by assumption) (by decide) | assumption) only [alAck1_view, view_lit, apply_ite (State.view hid), ite_self] | with_reducible apply foldl_keep | with_reducible apply foldl_keep2 | split | with_reducible rfl)
theorem alAck_view' {s : State} {session : ℕ} {l : List ℕ} {aa : _} {tt : State} (hm : Sub 0x600000 hid) (h : (State.alAck s session l) = (aa, tt)) : tt.view hid = s.view hid := by
  have := alAck_view (hid := hid) s session l hm
  rwa [h] at this

theorem alShelve_view (s : State) (session : ℕ) (d : ℕ) (n : ℕ) (hm : Sub 0x600000 hid) : (State.alShelve s session d n).view hid = s.view hid := by
  unfold State.alShelve
  repeat' (first | assumption | intro _ | simp (disch := first | exact hide_on (Sub.of (by assumption) (by decide)) | with_reducible rfl | exact Sub.of (by assumption) (by decide) | assumption) only [modAl_view, journal_view, view_lit, apply_ite (State.view hid), ite_self] | split | with_reducible rfl)

theorem alUnshelve_view (s : State) (session : ℕ) (n : ℕ) (hm : Sub 0x600000 hid) : (State.alUnshelve s session n).view hid = s.view hid := by
  unfold State.alUnshelve
  repeat' (first | assumption | intro _ | simp (disch := first | exact hide_on (Sub.of (by assumption) (by decide)) | with_reducible rfl | exact Sub.of (by assumption) (by decide) | assumption) only [modAl_view, journal_view, view_lit, apply_ite (State.view hid), ite_self] | split | with_reducible rfl)

theorem alWritten_view (s : State) (n : ℕ) (old : ℕ) (new : ℕ) (hm : Sub 0x600000 hid) : (State.alWritten s n old new).view hid = s.view hid := by
  unfold State.alWritten
  repeat' (first | assumption | intro _ | simp (disch := first | exact hide_on (Sub.of (by assumption) (by decide)) | with_reducible rfl | exact Sub.of (by assumption) (by decide) | assumption) only [modAl_view, journal_view, view_lit, apply_ite (State.view hid), ite_self] | split | with_reducible rfl)

theorem alReconcile_view (s : State) (old : ℕ → ℕ) (new : ℕ → ℕ) (keys : List ℕ) (hm : Sub 0x600000 hid) : (State.alReconcile s old new keys).view hid = s.view hid := by
  unfold State.alReconcile
  repeat' (first | assumption | intro _ | simp (disch := first | exact hide_on (Sub.of (by assumption) (by decide)) | with_reducible rfl | exact Sub.of (by assumption) (by decide) | assumption) only [alWritten_view, view_lit, apply_ite (State.view hid), ite_self] | with_reducible apply foldl_keep | with_reducible apply foldl_keep2 | split | with_reducible rfl)

theorem ladderAck_view (s : State) (cause : ℕ) (code : ℕ) (session : ℕ) (hm : Sub 0x200000 hid) : (State.ladderAck s cause code session).view hid = s.view hid := by
  unfold State.ladderAck
  repeat' (first | assumption | intro _ | simp (disch := first | exact hide_on (Sub.of (by assumption) (by decide)) | with_reducible rfl | exact Sub.of (by assumption) (by decide) | assumption) only [modLad_view, view_lit, apply_ite (State.view hid), ite_self] | split | with_reducible rfl)

theorem alFrame_view (s : State) (q : AlSnap) : (State.alFrame s q).view hid = s.view hid := by
  unfold State.alFrame
  repeat' (first | assumption | intro _ | simp (disch := first | exact hide_on (Sub.of (by assumption) (by decide)) | with_reducible rfl | exact Sub.of (by assumption) (by decide) | assumption) only [lane_view, view_lit, apply_ite (State.view hid), ite_self] | split | with_reducible rfl)

theorem alarmScan_view (s : State) (mis : List (ℕ × ℕ)) (hm : Sub 0xf273e000 hid) : (State.alarmScan s mis).view hid = s.view hid := by
  unfold State.alarmScan
  repeat' (first | assumption | intro _ | simp (disch := first | exact hide_on (Sub.of (by assumption) (by decide)) | with_reducible rfl | exact Sub.of (by assumption) (by decide) | assumption) only [alScan_view, alFrame_view, view_lit, apply_ite (State.view hid), ite_self] | split | with_reducible rfl)

theorem alBehind_view (s : State) (hm : Sub 0x20200000 hid) : (State.alBehind s).view hid = s.view hid := by
  unfold State.alBehind
  repeat' (first | assumption | intro _ | simp (disch := first | exact hide_on (Sub.of (by assumption) (by decide)) | with_reducible rfl | exact Sub.of (by assumption) (by decide) | assumption) only [ladderDrive_view, view_lit, apply_ite (State.view hid), ite_self] | split | with_reducible rfl)

theorem alCopyOut_view (s : State) : (State.alCopyOut s).view hid = s.view hid := by
  unfold State.alCopyOut
  repeat' (first | assumption | intro _ | simp (disch := first | exact hide_on (Sub.of (by assumption) (by decide)) | with_reducible rfl | exact Sub.of (by assumption) (by decide) | assumption) only [lane_view, view_lit, apply_ite (State.view hid), ite_self] | split | with_reducible rfl)

theorem alAsk_view (s : State) : (State.alAsk s).view hid = s.view hid := by
  unfold State.alAsk
  repeat' (first | assumption | intro _ | simp (disch := first | exact hide_on (Sub.of (by assumption) (by decide)) | with_reducible rfl | exact Sub.of (by assumption) (by decide) | assumption) only [lane_view, view_lit, apply_ite (State.view hid), ite_self] | split | with_reducible rfl)

theorem alarmFollow_view (s : State) (f : AlarmIn) (mis : List (ℕ × ℕ)) (hm : Sub 0xf273e000 hid) : (State.alarmFollow s f mis).view hid = s.view hid := by
  unfold State.alarmFollow
  repeat' (first | assumption | intro _ | simp (disch := first | exact hide_on (Sub.of (by assumption) (by decide)) | with_reducible rfl | exact Sub.of (by assumption) (by decide) | assumption) only [alScan_view, alAsk_view, view_lit, apply_ite (State.view hid), ite_self] | split | with_reducible rfl)

theorem alarmLate_view (s : State) (hm : Sub 0x20200000 hid) : (State.alarmLate s).view hid = s.view hid := by
  unfold State.alarmLate
  repeat' (first | assumption | intro _ | simp (disch := first | exact hide_on (Sub.of (by assumption) (by decide)) | with_reducible rfl | exact Sub.of (by assumption) (by decide) | assumption) only [alBehind_view, view_lit, apply_ite (State.view hid), ite_self] | split | with_reducible rfl)

theorem alSigIn_view (s : State) (scan : ℕ) (sig : U64) (hm : Sub 0x3033c208 hid) : (State.alSigIn s scan sig).view hid = s.view hid := by
  unfold State.alSigIn
  repeat' (first | assumption | intro _ | simp (disch := first | exact hide_on (Sub.of (by assumption) (by decide)) | with_reducible rfl | exact Sub.of (by assumption) (by decide) | assumption) only [raise_view, diverge_view, alBehind_view, alCopyOut_view, view_lit, apply_ite (State.view hid), ite_self] | split | with_reducible rfl)

theorem alAnswer_view (s : State) (n : ℕ) : (State.alAnswer s n).view hid = s.view hid := by
  unfold State.alAnswer
  repeat' (first | assumption | intro _ | simp (disch := first | exact hide_on (Sub.of (by assumption) (by decide)) | with_reducible rfl | exact Sub.of (by assumption) (by decide) | assumption) only [lane_view, view_lit, apply_ite (State.view hid), ite_self] | split | with_reducible rfl)

theorem alBorrowed_view (s : State) (n : ℕ) (t : AlEnt) (hm : Sub 0xf273e000 hid) : (State.alBorrowed s n t).view hid = s.view hid := by
  unfold State.alBorrowed
  repeat' (first | assumption | intro _ | simp (disch := first | exact hide_on (Sub.of (by assumption) (by decide)) | with_reducible rfl | exact Sub.of (by assumption) (by decide) | assumption) only [modAl_view, alRelease_view, view_lit, apply_ite (State.view hid), ite_self] | split | with_reducible rfl)

theorem alBorrowLate_view (s : State) (n : ℕ) (hm : Sub 0xf273e000 hid) : (State.alBorrowLate s n).view hid = s.view hid := by
  unfold State.alBorrowLate
  repeat' (first | assumption | intro _ | simp (disch := first | exact hide_on (Sub.of (by assumption) (by decide)) | with_reducible rfl | exact Sub.of (by assumption) (by decide) | assumption) only [alRelease_view, view_lit, apply_ite (State.view hid), ite_self] | split | with_reducible rfl)

theorem alDue_view (s : State) (hm : Sub 0x200000 hid) : (State.alDue s).2.view hid = s.view hid := by
  unfold State.alDue
  repeat' (first | assumption | intro _ | simp (disch := first | exact hide_on (Sub.of (by assumption) (by decide)) | with_reducible rfl | exact Sub.of (by assumption) (by decide) | assumption) only [view_lit, apply_ite (State.view hid), ite_self] | split | with_reducible rfl)
theorem alDue_view' {s : State} {aa : _} {tt : State} (hm : Sub 0x200000 hid) (h : (State.alDue s) = (aa, tt)) : tt.view hid = s.view hid := by
  have := alDue_view (hid := hid) s hm
  rwa [h] at this

theorem ladderRestore_view (s : State) (hm : Sub 0x200000 hid) : (State.ladderRestore s).view hid = s.view hid := by
  unfold State.ladderRestore
  repeat' (first | assumption | intro _ | simp (disch := first | exact hide_on (Sub.of (by assumption) (by decide)) | with_reducible rfl | exact Sub.of (by assumption) (by decide) | assumption) only [modLad_view, view_lit, apply_ite (State.view hid), ite_self] | with_reducible apply foldl_keep | with_reducible apply foldl_keep2 | split | with_reducible rfl)

theorem journalWrite_view (x0 : State) (x1 : ℕ) (hm : Sub 0x400000 hid) : (State.journalWrite x0 x1).view hid = x0.view hid := by
  induction x1 generalizing x0 with
  | zero => rfl
  | succ n ih =>
    unfold State.journalWrite
    repeat' (first | assumption | intro _ | simp (disch := first | exact hide_on (Sub.of (by assumption) (by decide)) | with_reducible rfl | exact Sub.of (by assumption) (by decide) | assumption) only [ih, raise_view, jBacklog_view, view_lit, apply_ite (State.view hid), ite_self] | split | with_reducible rfl)

theorem alShelveAll_view (s : State) (b : List Byte) (session : ℕ) (hm : Sub 0x600000 hid) : (State.alShelveAll s b session).view hid = s.view hid := by
  unfold State.alShelveAll
  repeat' (first | assumption | intro _ | simp (disch := first | exact hide_on (Sub.of (by assumption) (by decide)) | with_reducible rfl | exact Sub.of (by assumption) (by decide) | assumption) only [alShelve_view, alUnshelve_view, view_lit, apply_ite (State.view hid), ite_self] | with_reducible apply foldl_keep | with_reducible apply foldl_keep2 | split | with_reducible rfl)

theorem ladderAckCmd_view (s : State) (b : List Byte) (session : ℕ) (hm : Sub 0x20200000 hid) : (State.ladderAckCmd s b session).view hid = s.view hid := by
  unfold State.ladderAckCmd
  repeat' (first | assumption | intro _ | simp (disch := first | exact hide_on (Sub.of (by assumption) (by decide)) | with_reducible rfl | exact Sub.of (by assumption) (by decide) | assumption) only [setSw_view, ladderAck_view, view_lit, apply_ite (State.view hid), ite_self] | split | with_reducible rfl)

theorem aiOnset_view (s : State) (n : ℕ) (range : ℕ) (gainCode : ℕ) (value : ℕ) (flags : ℕ) (hm : Sub 0x8000000 hid) : (State.aiOnset s n range gainCode value flags).view hid = s.view hid := by
  unfold State.aiOnset
  repeat' (first | assumption | intro _ | simp (disch := first | exact hide_on (Sub.of (by assumption) (by decide)) | with_reducible rfl | exact Sub.of (by assumption) (by decide) | assumption) only [raise_view, modAi_view, view_lit, apply_ite (State.view hid), ite_self] | split | with_reducible rfl)

theorem dmaRecord_view (s : State) (c : ℕ) (r : AiRec) (hm : Sub 0x8000000 hid) : (State.dmaRecord s c r).view hid = s.view hid := by
  unfold State.dmaRecord
  repeat' (first | assumption | intro _ | simp (disch := first | exact hide_on (Sub.of (by assumption) (by decide)) | with_reducible rfl | exact Sub.of (by assumption) (by decide) | assumption) only [raise_view, modConv_view, view_lit, apply_ite (State.view hid), ite_self] | split | with_reducible rfl)

theorem drainFifos_view (s : State) (hm : Sub 0x8000000 hid) : (State.drainFifos s).view hid = s.view hid := by
  unfold State.drainFifos
  repeat' (first | assumption | intro _ | simp (disch := first | exact hide_on (Sub.of (by assumption) (by decide)) | with_reducible rfl | exact Sub.of (by assumption) (by decide) | assumption) only [modConv_view, view_lit, apply_ite (State.view hid), ite_self] | with_reducible apply foldl_keep | with_reducible apply foldl_keep2 | split | with_reducible rfl)

theorem publishResult_view (s : State) (c : ℕ) (v : Visit) (value : ℕ) (flags : ℕ) (stamp : ℕ) (hm : Sub 0x281b2000 hid) : (State.publishResult s c v value flags stamp).view hid = s.view hid := by
  unfold State.publishResult
  repeat' (first | assumption | intro _ | simp (disch := first | exact hide_on (Sub.of (by assumption) (by decide)) | with_reducible rfl | exact Sub.of (by assumption) (by decide) | assumption) only [raise_view, publishAp_view, publishBp_view, modConv_view, modAi_view, phaseSample_view, aiOnset_view, dmaRecord_view, view_lit, apply_ite (State.view hid), ite_self] | split | with_reducible rfl)

theorem seqComplete_view (s : State) (c : ℕ) (hm : Sub 0x120000 hid) : (State.seqComplete s c).view hid = s.view hid := by
  unfold State.seqComplete
  repeat' (first | assumption | intro _ | simp (disch := first | exact hide_on (Sub.of (by assumption) (by decide)) | with_reducible rfl | exact Sub.of (by assumption) (by decide) | assumption) only [setDue_view, loopTriggers_view, view_lit, apply_ite (State.view hid), ite_self] | with_reducible apply foldl_keep | with_reducible apply foldl_keep2 | split | with_reducible rfl)

theorem calStart_view (s : State) (p : ℕ) (hm : Sub 0x8000000 hid) : (State.calStart s p).view hid = s.view hid := by
  unfold State.calStart
  repeat' (first | assumption | intro _ | simp (disch := first | exact hide_on (Sub.of (by assumption) (by decide)) | with_reducible rfl | exact Sub.of (by assumption) (by decide) | assumption) only [modCal_view, view_lit, apply_ite (State.view hid), ite_self] | split | with_reducible rfl)

theorem rotStart_view (s : State) (n : ℕ) (standin : ℕ) (op : Option ℕ) (hm : Sub 0xa000000 hid) : (State.rotStart s n standin op).view hid = s.view hid := by
  unfold State.rotStart
  repeat' (first | assumption | intro _ | simp (disch := first | exact hide_on (Sub.of (by assumption) (by decide)) | with_reducible rfl | exact Sub.of (by assumption) (by decide) | assumption) only [calStart_view, view_lit, apply_ite (State.view hid), ite_self] | split | with_reducible rfl)

theorem calBegin_view (s : State) (p : ℕ) (hm : Sub 0x8000000 hid) : (State.calBegin s p).view hid = s.view hid := by
  unfold State.calBegin
  repeat' (first | assumption | intro _ | simp (disch := first | exact hide_on (Sub.of (by assumption) (by decide)) | with_reducible rfl | exact Sub.of (by assumption) (by decide) | assumption) only [modConv_view, calStart_view, view_lit, apply_ite (State.view hid), ite_self] | split | with_reducible rfl)

theorem calNext_view (s : State) (hm : Sub 0xa000200 hid) : (State.calNext s).view hid = s.view hid := by
  unfold State.calNext
  repeat' (first | assumption | intro _ | simp (disch := first | exact hide_on (Sub.of (by assumption) (by decide)) | with_reducible rfl | exact Sub.of (by assumption) (by decide) | assumption) only [raise_view, completeOpt_view, modCal_view, rotStart_view, calBegin_view, view_lit, apply_ite (State.view hid), ite_self] | with_reducible apply foldl_keep | with_reducible apply foldl_keep2 | split | with_reducible rfl)

theorem endVisit_view (s : State) (c : ℕ) (entry : ℕ) (wrote : Bool) (hm : Sub 0xa120200 hid) : (State.endVisit s c entry wrote).view hid = s.view hid := by
  unfold State.endVisit
  repeat' (first | assumption | intro _ | simp (disch := first | exact hide_on (Sub.of (by assumption) (by decide)) | with_reducible rfl | exact Sub.of (by assumption) (by decide) | assumption) only [modConv_view, visitBegun_view, beginPass_view, seqComplete_view, calNext_view, view_lit, apply_ite (State.view hid), ite_self] | split | with_reducible rfl)

theorem nextResult_view (s : State) (c : ℕ) (v : Visit) (wrote : Bool) (hm : Sub 0xa120200 hid) : (State.nextResult s c v wrote).view hid = s.view hid := by
  unfold State.nextResult
  repeat' (first | assumption | intro _ | simp (disch := first | exact hide_on (Sub.of (by assumption) (by decide)) | with_reducible rfl | exact Sub.of (by assumption) (by decide) | assumption) only [modConv_view, endVisit_view, view_lit, apply_ite (State.view hid), ite_self] | split | with_reducible rfl)

theorem convResult_view (s : State) (c : ℕ) (x : ConvIn) (hm : Sub 0x2a1b2200 hid) : (State.convResult s c x).view hid = s.view hid := by
  unfold State.convResult
  repeat' (first | assumption | intro _ | simp (disch := first | exact hide_on (Sub.of (by assumption) (by decide)) | with_reducible rfl | exact Sub.of (by assumption) (by decide) | assumption) only [modConv_view, publishResult_view, endVisit_view, nextResult_view, view_lit, apply_ite (State.view hid), ite_self] | split | with_reducible rfl)

theorem excSwap_view (s : State) (n : ℕ) (x : ExcIn) (hm : Sub 0x8000000 hid) : (State.excSwap s n x).view hid = s.view hid := by
  unfold State.excSwap
  repeat' (first | assumption | intro _ | simp (disch := first | exact hide_on (Sub.of (by assumption) (by decide)) | with_reducible rfl | exact Sub.of (by assumption) (by decide) | assumption) only [raise_view, modAi_view, view_lit, apply_ite (State.view hid), ite_self] | split | with_reducible rfl)

theorem agreedResults_view (s : State) (rs : List ℕ) (hm : Sub 0x8000000 hid) : (State.agreedResults s rs).view hid = s.view hid := by
  unfold State.agreedResults
  repeat' (first | assumption | intro _ | simp (disch := first | exact hide_on (Sub.of (by assumption) (by decide)) | with_reducible rfl | exact Sub.of (by assumption) (by decide) | assumption) only [modAi_view, view_lit, apply_ite (State.view hid), ite_self] | with_reducible apply foldl_keep | with_reducible apply foldl_keep2 | split | with_reducible rfl)

theorem calEnd_view (s : State) (p : ℕ) (offsets : List ℕ) (gains : List ℕ) (hm : Sub 0xa000000 hid) : (State.calEnd s p offsets gains).2.view hid = s.view hid := by
  unfold State.calEnd
  repeat' (first | assumption | intro _ | simp (disch := first | exact hide_on (Sub.of (by assumption) (by decide)) | with_reducible rfl | exact Sub.of (by assumption) (by decide) | assumption) only [raise_view, modCal_view, view_lit, apply_ite (State.view hid), ite_self] | with_reducible apply foldl_keep | with_reducible apply foldl_keep2 | split | with_reducible rfl)
theorem calEnd_view' {s : State} {p : ℕ} {offsets : List ℕ} {gains : List ℕ} {aa : _} {tt : State} (hm : Sub 0xa000000 hid) (h : (State.calEnd s p offsets gains) = (aa, tt)) : tt.view hid = s.view hid := by
  have := calEnd_view (hid := hid) s p offsets gains hm
  rwa [h] at this

theorem driftLimit_view (s : State) (p : ℕ) (hm : Sub 0x2000000 hid) : (State.driftLimit s p).view hid = s.view hid := by
  unfold State.driftLimit
  repeat' (first | assumption | intro _ | simp (disch := first | exact hide_on (Sub.of (by assumption) (by decide)) | with_reducible rfl | exact Sub.of (by assumption) (by decide) | assumption) only [limitCrossed_view, view_lit, apply_ite (State.view hid), ite_self] | split | with_reducible rfl)

theorem rotEnd_view (s : State) (o : Rotation) (outcome : ℕ) (hm : Sub 0xa000200 hid) : (State.rotEnd s o outcome).view hid = s.view hid := by
  unfold State.rotEnd
  repeat' (first | assumption | intro _ | simp (disch := first | exact hide_on (Sub.of (by assumption) (by decide)) | with_reducible rfl | exact Sub.of (by assumption) (by decide) | assumption) only [raise_view, completeOpt_view, modRes_view, calNext_view, view_lit, apply_ite (State.view hid), ite_self] | split | with_reducible rfl)

theorem rotKeep_view (s : State) (o : Rotation) (hm : Sub 0xa000200 hid) : (State.rotKeep s o).view hid = s.view hid := by
  unfold State.rotKeep
  repeat' (first | assumption | intro _ | simp (disch := first | exact hide_on (Sub.of (by assumption) (by decide)) | with_reducible rfl | exact Sub.of (by assumption) (by decide) | assumption) only [setRes_view, exhaust_view, rotEnd_view, view_lit, apply_ite (State.view hid), ite_self] | split | with_reducible rfl)

theorem standinFault_view (s : State) (o : Rotation) (hm : Sub 0xa000200 hid) : (State.standinFault s o).view hid = s.view hid := by
  unfold State.standinFault
  repeat' (first | assumption | intro _ | simp (disch := first | exact hide_on (Sub.of (by assumption) (by decide)) | with_reducible rfl | exact Sub.of (by assumption) (by decide) | assumption) only [spareFails_view, modCal_view, modAi_view, rotEnd_view, view_lit, apply_ite (State.view hid), ite_self] | with_reducible apply foldl_keep | with_reducible apply foldl_keep2 | split | with_reducible rfl)

theorem calibrate_view (s : State) (mask : ℕ) (op : Option ℕ) (hm : Sub 0xa000200 hid) : (State.calibrate s mask op).view hid = s.view hid := by
  unfold State.calibrate
  repeat' (first | assumption | intro _ | simp (disch := first | exact hide_on (Sub.of (by assumption) (by decide)) | with_reducible rfl | exact Sub.of (by assumption) (by decide) | assumption) only [modCal_view, calNext_view, view_lit, apply_ite (State.view hid), ite_self] | with_reducible apply foldl_keep | with_reducible apply foldl_keep2 | split | with_reducible rfl)

theorem loadRegions_view (s : State) (hm : Sub 0x4000000 hid) : (State.loadRegions s).view hid = s.view hid := by
  unfold State.loadRegions
  repeat' (first | assumption | intro _ | simp (disch := first | exact hide_on (Sub.of (by assumption) (by decide)) | with_reducible rfl | exact Sub.of (by assumption) (by decide) | assumption) only [view_lit, apply_ite (State.view hid), ite_self] | split | with_reducible rfl)

theorem voidEngines_view (s : State) (first : ℕ) (count : ℕ) (hm : Sub 0x20300000 hid) : (State.voidEngines s first count).view hid = s.view hid := by
  unfold State.voidEngines
  repeat' (first | assumption | intro _ | simp (disch := first | exact hide_on (Sub.of (by assumption) (by decide)) | with_reducible rfl | exact Sub.of (by assumption) (by decide) | assumption) only [loopsBehind_view, alBehind_view, view_lit, apply_ite (State.view hid), ite_self] | split | with_reducible rfl)

theorem sigMismatch_view (s : State) (u : ℕ) (count : ℕ) (first : ℕ) (hm : Sub 0x3833d000 hid) : (State.sigMismatch s u count first).view hid = s.view hid := by
  unfold State.sigMismatch
  repeat' (first | assumption | intro _ | simp (disch := first | exact hide_on (Sub.of (by assumption) (by decide)) | with_reducible rfl | exact Sub.of (by assumption) (by decide) | assumption) only [raiseMand_view, announce_view, modConv_view, voidFrames_view, voidEngines_view, view_lit, apply_ite (State.view hid), ite_self] | with_reducible apply foldl_keep | with_reducible apply foldl_keep2 | split | with_reducible rfl)

theorem refuseAccess_view (s : State) (a : Access) (hm : Sub 0x7a33d000 hid) : (State.refuseAccess s a).view hid = s.view hid := by
  unfold State.refuseAccess
  repeat' (first | assumption | intro _ | refine (alMismatch_view' (Sub.of (by assumption) (by decide)) (by assumption)).trans ?_ | simp (disch := first | exact hide_on (Sub.of (by assumption) (by decide)) | with_reducible rfl | exact Sub.of (by assumption) (by decide) | assumption) only [raiseFlag_view, curatorRestart_view, taskFault_view, loopMismatch_view, recFaulted_view, modAl_view, alMismatch_view, sigMismatch_view, view_lit, apply_ite (State.view hid), ite_self] | split | with_reducible rfl)

theorem regionEvent_view (s : State) (a : Access) (kind : ℕ) : (State.regionEvent s a kind).view hid = s.view hid := by
  unfold State.regionEvent
  repeat' (first | assumption | intro _ | simp (disch := first | exact hide_on (Sub.of (by assumption) (by decide)) | with_reducible rfl | exact Sub.of (by assumption) (by decide) | assumption) only [raise_view, raiseMand_view, view_lit, apply_ite (State.view hid), ite_self] | split | with_reducible rfl)

theorem regionRefused_view (s : State) (a : Access) (hm : Sub 0x7e33d000 hid) : (State.regionRefused s a).view hid = s.view hid := by
  unfold State.regionRefused
  repeat' (first | assumption | intro _ | simp (disch := first | exact hide_on (Sub.of (by assumption) (by decide)) | with_reducible rfl | exact Sub.of (by assumption) (by decide) | assumption) only [raise_view, refuseAccess_view, regionEvent_view, view_lit, apply_ite (State.view hid), ite_self] | split | with_reducible rfl)

theorem moveBeats_view (s : State) (n : ℕ) (hm : Sub 0x4000000 hid) : (State.moveBeats s n).view hid = s.view hid := by
  unfold State.moveBeats
  repeat' (first | assumption | intro _ | simp (disch := first | exact hide_on (Sub.of (by assumption) (by decide)) | with_reducible rfl | exact Sub.of (by assumption) (by decide) | assumption) only [view_lit, apply_ite (State.view hid), ite_self] | split | with_reducible rfl)

theorem debugAnswer_view (s : State) (r : Req) (key : List Byte) (st : Status) (body : List Byte) : (State.debugAnswer s r key st body).view hid = s.view hid := by
  unfold State.debugAnswer
  repeat' (first | assumption | intro _ | simp (disch := first | exact hide_on (Sub.of (by assumption) (by decide)) | with_reducible rfl | exact Sub.of (by assumption) (by decide) | assumption) only [emit_view, view_lit, apply_ite (State.view hid), ite_self] | split | with_reducible rfl)

theorem readingRoom_view (s : State) (g : Debugger) (code : ℕ) (addr : ℕ) (record : Bool) (vals : List Byte) (hm : Sub 0x800000 hid) : (State.readingRoom s g code addr record vals).view hid = s.view hid := by
  unfold State.readingRoom
  repeat' (first | assumption | intro _ | refine (takeFree_view' (by assumption)).trans ?_ | simp (disch := first | exact hide_on (Sub.of (by assumption) (by decide)) | with_reducible rfl | exact Sub.of (by assumption) (by decide) | assumption) only [archMandatory_view, raise_view, takeFree_view, view_lit, apply_ite (State.view hid), ite_self] | split | with_reducible rfl)

theorem freeBytes_view (s : State) (x1 : ℕ) : (State.freeBytes s x1).2.view hid = s.view hid := by
  induction x1 generalizing s with
  | zero => rfl
  | succ n ih =>
    unfold State.freeBytes
    repeat' (first | assumption | intro _ | refine (takeFree_view' (by assumption)).trans ?_ | simp (disch := first | exact hide_on (Sub.of (by assumption) (by decide)) | with_reducible rfl | exact Sub.of (by assumption) (by decide) | assumption) only [ih, takeFree_view, view_lit, apply_ite (State.view hid), ite_self] | split | with_reducible rfl)
theorem freeBytes_view' {s : State} {x1 : ℕ} {aa : _} {tt : State}  (h : (State.freeBytes s x1) = (aa, tt)) : tt.view hid = s.view hid := by
  have := freeBytes_view (hid := hid) s x1
  rwa [h] at this

theorem dramRead_view (s : State) (a : Area) (task : ℕ) (addr : ℕ) (x4 : ℕ) : (State.dramRead s a task addr x4).2.view hid = s.view hid := by
  induction x4 generalizing s addr with
  | zero => rfl
  | succ n ih =>
    unfold State.dramRead
    repeat' (first | assumption | intro _ | refine (takeFree_view' (by assumption)).trans ?_ | simp (disch := first | exact hide_on (Sub.of (by assumption) (by decide)) | with_reducible rfl | exact Sub.of (by assumption) (by decide) | assumption) only [ih, takeFree_view, view_lit, apply_ite (State.view hid), ite_self] | split | with_reducible rfl)
theorem dramRead_view' {s : State} {a : Area} {task : ℕ} {addr : ℕ} {x4 : ℕ} {aa : _} {tt : State}  (h : (State.dramRead s a task addr x4) = (aa, tt)) : tt.view hid = s.view hid := by
  have := dramRead_view (hid := hid) s a task addr x4
  rwa [h] at this

theorem sealedDebug_view (s : State) (g : Debugger) (addr : ℕ) (len : ℕ) : (State.sealedDebug s g addr len).view hid = s.view hid := by
  unfold State.sealedDebug
  repeat' (first | assumption | intro _ | simp (disch := first | exact hide_on (Sub.of (by assumption) (by decide)) | with_reducible rfl | exact Sub.of (by assumption) (by decide) | assumption) only [raiseWith_view, view_lit, apply_ite (State.view hid), ite_self] | split | with_reducible rfl)

theorem debugHalt_view (s : State) (g : Debugger) (on : Bool) (regs : Tab U64) (hm : Sub 0x1800000 hid) : (State.debugHalt s g on regs).view hid = s.view hid := by
  unfold State.debugHalt
  repeat' (first | assumption | intro _ | simp (disch := first | exact hide_on (Sub.of (by assumption) (by decide)) | with_reducible rfl | exact Sub.of (by assumption) (by decide) | assumption) only [view_lit, apply_ite (State.view hid), ite_self] | split | with_reducible rfl)

theorem abandonUpdate_view (s : State) (k : ℕ) (cause : ℕ) (hm : Sub 0x200000000 hid) : (State.abandonUpdate s k cause).view hid = s.view hid := by
  unfold State.abandonUpdate
  repeat' (first | assumption | intro _ | refine (takeFree_view' (by assumption)).trans ?_ | simp (disch := first | exact hide_on (Sub.of (by assumption) (by decide)) | with_reducible rfl | exact Sub.of (by assumption) (by decide) | assumption) only [raise_view, takeFree_view, view_lit, apply_ite (State.view hid), ite_self] | split | with_reducible rfl)

theorem endSession_view (s : State) (id : U32) (hm : Sub 0x200000080 hid) : (State.endSession s id).view hid = s.view hid := by
  unfold State.endSession
  repeat' (first | assumption | intro _ | simp (disch := first | exact hide_on (Sub.of (by assumption) (by decide)) | with_reducible rfl | exact Sub.of (by assumption) (by decide) | assumption) only [abandonUpdate_view, view_lit, apply_ite (State.view hid), ite_self] | with_reducible apply foldl_keep | with_reducible apply foldl_keep2 | split | with_reducible rfl)

theorem endOrClose_view (s : State) (id : U32) (hm : Sub 0x200000080 hid) : (State.endOrClose s id).view hid = s.view hid := by
  unfold State.endOrClose
  repeat' (first | assumption | intro _ | simp (disch := first | exact hide_on (Sub.of (by assumption) (by decide)) | with_reducible rfl | exact Sub.of (by assumption) (by decide) | assumption) only [modSession_view, endSession_view, view_lit, apply_ite (State.view hid), ite_self] | split | with_reducible rfl)

theorem inHealth_view (s : State) (n : ℕ) (hm : Sub 0x32000 hid) : (State.inHealth s n).view hid = s.view hid := by
  unfold State.inHealth
  repeat' (first | assumption | intro _ | simp (disch := first | exact hide_on (Sub.of (by assumption) (by decide)) | with_reducible rfl | exact Sub.of (by assumption) (by decide) | assumption) only [publishBp_view, view_lit, apply_ite (State.view hid), ite_self] | split | with_reducible rfl)

theorem inConfirm_view (s : State) (n : ℕ) (v : Bool) (hm : Sub 0x20232000 hid) : (State.inConfirm s n v).view hid = s.view hid := by
  unfold State.inConfirm
  repeat' (first | assumption | intro _ | simp (disch := first | exact hide_on (Sub.of (by assumption) (by decide)) | with_reducible rfl | exact Sub.of (by assumption) (by decide) | assumption) only [raise_view, publishAp_view, publishBp_view, modIn_view, inHealth_view, view_lit, apply_ite (State.view hid), ite_self] | split | with_reducible rfl)

theorem inSample_view (s : State) (n : ℕ) (raw : Bool) (confirm : Bool) (hm : Sub 0x20232000 hid) : (State.inSample s n raw confirm).view hid = s.view hid := by
  unfold State.inSample
  repeat' (first | assumption | intro _ | simp (disch := first | exact hide_on (Sub.of (by assumption) (by decide)) | with_reducible rfl | exact Sub.of (by assumption) (by decide) | assumption) only [modIn_view, inConfirm_view, view_lit, apply_ite (State.view hid), ite_self] | split | with_reducible rfl)

theorem setSupply_view (s : State) (k : ℕ) (lost : Bool) (volt : ℕ) (hm : Sub 0x20000000 hid) : (State.setSupply s k lost volt).view hid = s.view hid := by
  unfold State.setSupply
  repeat' (first | assumption | intro _ | simp (disch := first | exact hide_on (Sub.of (by assumption) (by decide)) | with_reducible rfl | exact Sub.of (by assumption) (by decide) | assumption) only [view_lit, apply_ite (State.view hid), ite_self] | split | with_reducible rfl)

theorem groupHealth_view (s : State) (g : ℕ) (hm : Sub 0x32000 hid) : (State.groupHealth s g).view hid = s.view hid := by
  unfold State.groupHealth
  repeat' (first | assumption | intro _ | simp (disch := first | exact hide_on (Sub.of (by assumption) (by decide)) | with_reducible rfl | exact Sub.of (by assumption) (by decide) | assumption) only [inHealth_view, view_lit, apply_ite (State.view hid), ite_self] | with_reducible apply foldl_keep | with_reducible apply foldl_keep2 | split | with_reducible rfl)

theorem doTrip_view (s : State) (m : ℕ) (cause : ℕ) (hm : Sub 0x20000000 hid) : (State.doTrip s m cause).view hid = s.view hid := by
  unfold State.doTrip
  repeat' (first | assumption | intro _ | simp (disch := first | exact hide_on (Sub.of (by assumption) (by decide)) | with_reducible rfl | exact Sub.of (by assumption) (by decide) | assumption) only [raise_view, modSw_view, latch_view, view_lit, apply_ite (State.view hid), ite_self] | split | with_reducible rfl)

theorem swRetry_view (s : State) (m : ℕ) (hm : Sub 0x20000000 hid) : (State.swRetry s m).view hid = s.view hid := by
  unfold State.swRetry
  repeat' (first | assumption | intro _ | simp (disch := first | exact hide_on (Sub.of (by assumption) (by decide)) | with_reducible rfl | exact Sub.of (by assumption) (by decide) | assumption) only [modSw_view, view_lit, apply_ite (State.view hid), ite_self] | split | with_reducible rfl)

theorem doFaultClear_view (s : State) (mask : ℕ) (hm : Sub 0x20000000 hid) : (State.doFaultClear s mask).view hid = s.view hid := by
  unfold State.doFaultClear
  repeat' (first | assumption | intro _ | simp (disch := first | exact hide_on (Sub.of (by assumption) (by decide)) | with_reducible rfl | exact Sub.of (by assumption) (by decide) | assumption) only [modSw_view, swRetry_view, view_lit, apply_ite (State.view hid), ite_self] | with_reducible apply foldl_keep | with_reducible apply foldl_keep2 | split | with_reducible rfl)

theorem dioFrame_view (s : State) (rb : ℕ) (t : ℕ) (hm : Sub 0x20032000 hid) : (State.dioFrame s rb t).view hid = s.view hid := by
  unfold State.dioFrame
  repeat' (first | assumption | intro _ | simp (disch := first | exact hide_on (Sub.of (by assumption) (by decide)) | with_reducible rfl | exact Sub.of (by assumption) (by decide) | assumption) only [publishBp_view, modSw_view, view_lit, apply_ite (State.view hid), ite_self] | with_reducible apply foldl_keep | with_reducible apply foldl_keep2 | split | with_reducible rfl)

theorem arpProbe_view (s : State) (p : ℕ) (hm : Sub 0x40000000 hid) : (State.arpProbe s p).view hid = s.view hid := by
  unfold State.arpProbe
  repeat' (first | assumption | intro _ | simp (disch := first | exact hide_on (Sub.of (by assumption) (by decide)) | with_reducible rfl | exact Sub.of (by assumption) (by decide) | assumption) only [emit_view, modPort_view, view_lit, apply_ite (State.view hid), ite_self] | split | with_reducible rfl)

theorem modStation_view (s : State) (k : ℕ) (f : Station → Station) (hm : Sub 0x40000000 hid) : (State.modStation s k f).view hid = s.view hid := by
  unfold State.modStation
  repeat' (first | assumption | intro _ | simp (disch := first | exact hide_on (Sub.of (by assumption) (by decide)) | with_reducible rfl | exact Sub.of (by assumption) (by decide) | assumption) only [view_lit, apply_ite (State.view hid), ite_self] | split | with_reducible rfl)

theorem stSet_view (s : State) (k : ℕ) (st : ℕ) (rev : ℕ) (per : ℕ) (hm : Sub 0x40032000 hid) : (State.stSet s k st rev per).view hid = s.view hid := by
  unfold State.stSet
  repeat' (first | assumption | intro _ | simp (disch := first | exact hide_on (Sub.of (by assumption) (by decide)) | with_reducible rfl | exact Sub.of (by assumption) (by decide) | assumption) only [raise_view, publishBp_view, modStation_view, view_lit, apply_ite (State.view hid), ite_self] | split | with_reducible rfl)

theorem stTell_view (s : State) (k : ℕ) (st : ℕ) (rev : ℕ) (per : ℕ) (hm : Sub 0x40032000 hid) : (State.stTell s k st rev per).view hid = s.view hid := by
  unfold State.stTell
  repeat' (first | assumption | intro _ | simp (disch := first | exact hide_on (Sub.of (by assumption) (by decide)) | with_reducible rfl | exact Sub.of (by assumption) (by decide) | assumption) only [announce_view, stSet_view, view_lit, apply_ite (State.view hid), ite_self] | split | with_reducible rfl)

theorem stAsk_view (s : State) (k : ℕ) (hm : Sub 0x40032000 hid) : (State.stAsk s k).view hid = s.view hid := by
  unfold State.stAsk
  repeat' (first | assumption | intro _ | simp (disch := first | exact hide_on (Sub.of (by assumption) (by decide)) | with_reducible rfl | exact Sub.of (by assumption) (by decide) | assumption) only [plantSend_view, modStation_view, stTell_view, view_lit, apply_ite (State.view hid), ite_self] | split | with_reducible rfl)

theorem stationsRefresh_view (s : State) (old : ℕ → ℕ) (hm : Sub 0x40032000 hid) : (State.stationsRefresh s old).view hid = s.view hid := by
  unfold State.stationsRefresh
  repeat' (first | assumption | intro _ | simp (disch := first | exact hide_on (Sub.of (by assumption) (by decide)) | with_reducible rfl | exact Sub.of (by assumption) (by decide) | assumption) only [publishBp_view, modStation_view, stSet_view, stAsk_view, view_lit, apply_ite (State.view hid), ite_self] | with_reducible apply foldl_keep | with_reducible apply foldl_keep2 | split | with_reducible rfl)

theorem stApply_view (s : State) (hm : Sub 0x40032000 hid) : (State.stApply s).view hid = s.view hid := by
  unfold State.stApply
  repeat' (first | assumption | intro _ | simp (disch := first | exact hide_on (Sub.of (by assumption) (by decide)) | with_reducible rfl | exact Sub.of (by assumption) (by decide) | assumption) only [stSet_view, stAsk_view, view_lit, apply_ite (State.view hid), ite_self] | with_reducible apply foldl_keep | with_reducible apply foldl_keep2 | split | with_reducible rfl)

theorem stPoints_view (s : State) (k : ℕ) (e : ℕ) (b : List Byte) (healthy : Bool) (hm : Sub 0x32000 hid) : (State.stPoints s k e b healthy).view hid = s.view hid := by
  unfold State.stPoints
  repeat' (first | assumption | intro _ | simp (disch := first | exact hide_on (Sub.of (by assumption) (by decide)) | with_reducible rfl | exact Sub.of (by assumption) (by decide) | assumption) only [produceAp_view, produceBp_view, publishBp_view, view_lit, apply_ite (State.view hid), ite_self] | with_reducible apply foldl_keep | with_reducible apply foldl_keep2 | split | with_reducible rfl)

theorem edit_view (s : State) (f : Image → Image) (hm : Sub 0x60 hid) : (State.edit s f).view hid = s.view hid := by
  unfold State.edit
  repeat' (first | assumption | intro _ | simp (disch := first | exact hide_on (Sub.of (by assumption) (by decide)) | with_reducible rfl | exact Sub.of (by assumption) (by decide) | assumption) only [view_lit, apply_ite (State.view hid), ite_self] | split | with_reducible rfl)

theorem freezeTold_view (s : State) (old : ℕ) : (State.freezeTold s old).view hid = s.view hid := by
  unfold State.freezeTold
  repeat' (first | assumption | intro _ | simp (disch := first | exact hide_on (Sub.of (by assumption) (by decide)) | with_reducible rfl | exact Sub.of (by assumption) (by decide) | assumption) only [raise_view, view_lit, apply_ite (State.view hid), ite_self] | split | with_reducible rfl)

theorem strobe_view (s : State) (i : ℕ) (v : ℕ) (hm : Sub 0x2c000000 hid) : (State.strobe s i v).view hid = s.view hid := by
  unfold State.strobe
  repeat' (first | assumption | intro _ | simp (disch := first | exact hide_on (Sub.of (by assumption) (by decide)) | with_reducible rfl | exact Sub.of (by assumption) (by decide) | assumption) only [seqGo_view, goAll_view, seqStop_view, doFaultClear_view, view_lit, apply_ite (State.view hid), ite_self] | split | with_reducible rfl)

theorem setBase_view (s : State) (i : ℕ) (v : ℕ) (hm : Sub 0x40 hid) : (State.setBase s i v).view hid = s.view hid := by
  unfold State.setBase
  repeat' (first | assumption | intro _ | simp (disch := first | exact hide_on (Sub.of (by assumption) (by decide)) | with_reducible rfl | exact Sub.of (by assumption) (by decide) | assumption) only [freezeTold_view, view_lit, apply_ite (State.view hid), ite_self] | split | with_reducible rfl)

theorem writeParam_view (s : State) (i : ℕ) (v : ℕ) (hm : Sub 0x2c000060 hid) : (State.writeParam s i v).view hid = s.view hid := by
  unfold State.writeParam
  repeat' (first | assumption | intro _ | simp (disch := first | exact hide_on (Sub.of (by assumption) (by decide)) | with_reducible rfl | exact Sub.of (by assumption) (by decide) | assumption) only [edit_view, strobe_view, setBase_view, view_lit, apply_ite (State.view hid), ite_self] | split | with_reducible rfl)

theorem setBaseEntry_view (s : State) (t : ℕ) (n : ℕ) (new : ℕ) (hm : Sub 0x780840 hid) : (State.setBaseEntry s t n new).view hid = s.view hid := by
  unfold State.setBaseEntry
  repeat' (first | assumption | intro _ | simp (disch := first | exact hide_on (Sub.of (by assumption) (by decide)) | with_reducible rfl | exact Sub.of (by assumption) (by decide) | assumption) only [catWritten_view, loopWritten_view, alWritten_view, view_lit, apply_ite (State.view hid), ite_self] | split | with_reducible rfl)

theorem applyLive_view (s : State) (hm : Sub 0x780840 hid) : (State.applyLive s).view hid = s.view hid := by
  unfold State.applyLive
  repeat' (first | assumption | intro _ | simp (disch := first | exact hide_on (Sub.of (by assumption) (by decide)) | with_reducible rfl | exact Sub.of (by assumption) (by decide) | assumption) only [setBaseEntry_view, view_lit, apply_ite (State.view hid), ite_self] | with_reducible apply foldl_keep | with_reducible apply foldl_keep2 | split | with_reducible rfl)

theorem tellSkipped_view (s : State) : (State.tellSkipped s).view hid = s.view hid := by
  unfold State.tellSkipped
  repeat' (first | assumption | intro _ | simp (disch := first | exact hide_on (Sub.of (by assumption) (by decide)) | with_reducible rfl | exact Sub.of (by assumption) (by decide) | assumption) only [raise_view, view_lit, apply_ite (State.view hid), ite_self] | with_reducible apply foldl_keep | with_reducible apply foldl_keep2 | split | with_reducible rfl)

theorem loadBase_view (s : State) (img : Image) (hm : Sub 0x607b2840 hid) : (State.loadBase s img).view hid = s.view hid := by
  unfold State.loadBase
  repeat' (first | assumption | intro _ | simp (disch := first | exact hide_on (Sub.of (by assumption) (by decide)) | with_reducible rfl | exact Sub.of (by assumption) (by decide) | assumption) only [catWritten_view, phaseReconfig_view, loopWritten_view, alWritten_view, arpProbe_view, stationsRefresh_view, freezeTold_view, tellSkipped_view, view_lit, apply_ite (State.view hid), ite_self] | with_reducible apply foldl_keep | with_reducible apply foldl_keep2 | split | with_reducible rfl)

theorem applyCommit_view (s : State) (hm : Sub 0x607b2840 hid) : (State.applyCommit s).view hid = s.view hid := by
  unfold State.applyCommit
  repeat' (first | assumption | intro _ | simp (disch := first | exact hide_on (Sub.of (by assumption) (by decide)) | with_reducible rfl | exact Sub.of (by assumption) (by decide) | assumption) only [loadBase_view, view_lit, apply_ite (State.view hid), ite_self] | with_reducible apply foldl_keep | with_reducible apply foldl_keep2 | split | with_reducible rfl)

theorem applyDiscard_view (s : State) (hm : Sub 0x607b2860 hid) : (State.applyDiscard s).view hid = s.view hid := by
  unfold State.applyDiscard
  repeat' (first | assumption | intro _ | simp (disch := first | exact hide_on (Sub.of (by assumption) (by decide)) | with_reducible rfl | exact Sub.of (by assumption) (by decide) | assumption) only [loadBase_view, view_lit, apply_ite (State.view hid), ite_self] | split | with_reducible rfl)

theorem writeParams_view (s : State) (b : List Byte) (hm : Sub 0x2c000060 hid) : (State.writeParams s b).view hid = s.view hid := by
  unfold State.writeParams
  repeat' (first | assumption | intro _ | simp (disch := first | exact hide_on (Sub.of (by assumption) (by decide)) | with_reducible rfl | exact Sub.of (by assumption) (by decide) | assumption) only [writeParam_view, view_lit, apply_ite (State.view hid), ite_self] | with_reducible apply foldl_keep | with_reducible apply foldl_keep2 | split | with_reducible rfl)

theorem paramWriteApply_view (op : Option ℕ) (b : List Byte) (x2 : U32) (s : State) (hm : Sub 0x2c000260 hid) : (paramWriteApply op b x2 s).view hid = s.view hid := by
  unfold paramWriteApply
  repeat' (first | assumption | intro _ | simp (disch := first | exact hide_on (Sub.of (by assumption) (by decide)) | with_reducible rfl | exact Sub.of (by assumption) (by decide) | assumption) only [completeOpt_view, writeParams_view, view_lit, apply_ite (State.view hid), ite_self] | split | with_reducible rfl)

theorem writeTable_view (s : State) (b : List Byte) (now : Bool) (hm : Sub 0x780860 hid) : (State.writeTable s b now).view hid = s.view hid := by
  unfold State.writeTable
  repeat' (first | assumption | intro _ | simp (disch := first | exact hide_on (Sub.of (by assumption) (by decide)) | with_reducible rfl | exact Sub.of (by assumption) (by decide) | assumption) only [edit_view, setBaseEntry_view, view_lit, apply_ite (State.view hid), ite_self] | with_reducible apply foldl_keep | with_reducible apply foldl_keep2 | split | with_reducible rfl)

theorem tableWriteApply_view (op : Option ℕ) (b : List Byte) (x2 : U32) (s : State) (hm : Sub 0x780a60 hid) : (tableWriteApply op b x2 s).view hid = s.view hid := by
  unfold tableWriteApply
  repeat' (first | assumption | intro _ | simp (disch := first | exact hide_on (Sub.of (by assumption) (by decide)) | with_reducible rfl | exact Sub.of (by assumption) (by decide) | assumption) only [completeOpt_view, writeTable_view, view_lit, apply_ite (State.view hid), ite_self] | split | with_reducible rfl)

theorem commitApply_view (op : Option ℕ) (x1 : List Byte) (x2 : U32) (s : State) (hm : Sub 0x40 hid) : (commitApply op x1 x2 s).view hid = s.view hid := by
  unfold commitApply
  repeat' (first | assumption | intro _ | simp (disch := first | exact hide_on (Sub.of (by assumption) (by decide)) | with_reducible rfl | exact Sub.of (by assumption) (by decide) | assumption) only [view_lit, apply_ite (State.view hid), ite_self] | split | with_reducible rfl)

theorem commitDone_view (s : State) (op : Option ℕ) (hm : Sub 0x270 hid) : (State.commitDone s op).view hid = s.view hid := by
  unfold State.commitDone
  repeat' (first | assumption | intro _ | simp (disch := first | exact hide_on (Sub.of (by assumption) (by decide)) | with_reducible rfl | exact Sub.of (by assumption) (by decide) | assumption) only [raise_view, completeOpt_view, view_lit, apply_ite (State.view hid), ite_self] | split | with_reducible rfl)

theorem askDiscard_view (s : State) (hm : Sub 0x40 hid) : (State.askDiscard s).view hid = s.view hid := by
  unfold State.askDiscard
  repeat' (first | assumption | intro _ | simp (disch := first | exact hide_on (Sub.of (by assumption) (by decide)) | with_reducible rfl | exact Sub.of (by assumption) (by decide) | assumption) only [applyDiscard_view, view_lit, apply_ite (State.view hid), ite_self] | split | with_reducible rfl)

theorem discardApply_view (op : Option ℕ) (x1 : List Byte) (x2 : U32) (s : State) (hm : Sub 0x607b2a60 hid) : (discardApply op x1 x2 s).view hid = s.view hid := by
  unfold discardApply
  repeat' (first | assumption | intro _ | simp (disch := first | exact hide_on (Sub.of (by assumption) (by decide)) | with_reducible rfl | exact Sub.of (by assumption) (by decide) | assumption) only [completeOpt_view, applyDiscard_view, view_lit, apply_ite (State.view hid), ite_self] | split | with_reducible rfl)

theorem importDone_view (s : State) (b : List Byte) (hm : Sub 0xe0 hid) : (State.importDone s b).view hid = s.view hid := by
  unfold State.importDone
  repeat' (first | assumption | intro _ | simp (disch := first | exact hide_on (Sub.of (by assumption) (by decide)) | with_reducible rfl | exact Sub.of (by assumption) (by decide) | assumption) only [view_lit, apply_ite (State.view hid), ite_self] | split | with_reducible rfl)

theorem modProg_view (s : State) (k : ℕ) (f : ProgSlot → ProgSlot) (hm : Sub 0x8000 hid) : (State.modProg s k f).view hid = s.view hid := by
  unfold State.modProg
  repeat' (first | assumption | intro _ | simp (disch := first | exact hide_on (Sub.of (by assumption) (by decide)) | with_reducible rfl | exact Sub.of (by assumption) (by decide) | assumption) only [view_lit, apply_ite (State.view hid), ite_self] | split | with_reducible rfl)

theorem startProgram_view (s : State) (slot : ℕ) (p : Program) (hm : Sub 0x12a000 hid) : (State.startProgram s slot p).view hid = s.view hid := by
  unfold State.startProgram
  repeat' (first | assumption | intro _ | simp (disch := first | exact hide_on (Sub.of (by assumption) (by decide)) | with_reducible rfl | exact Sub.of (by assumption) (by decide) | assumption) only [modTask_view, bindLoops_view, view_lit, apply_ite (State.view hid), ite_self] | with_reducible apply foldl_keep | with_reducible apply foldl_keep2 | split | with_reducible rfl)

theorem switchDone_view (s : State) (w : ProgSwitch) (gap : ℕ) (hm : Sub 0x16a200 hid) : (State.switchDone s w gap).view hid = s.view hid := by
  unfold State.switchDone
  repeat' (first | assumption | intro _ | simp (disch := first | exact hide_on (Sub.of (by assumption) (by decide)) | with_reducible rfl | exact Sub.of (by assumption) (by decide) | assumption) only [raise_view, completeOpt_view, writeArea_view, startProgram_view, view_lit, apply_ite (State.view hid), ite_self] | with_reducible apply foldl_keep | with_reducible apply foldl_keep2 | split | with_reducible rfl)

theorem switchFails_view (s : State) (w : ProgSwitch) (st : Status) (k : ℕ) (hm : Sub 0x8200 hid) : (State.switchFails s w st k).view hid = s.view hid := by
  unfold State.switchFails
  repeat' (first | assumption | intro _ | simp (disch := first | exact hide_on (Sub.of (by assumption) (by decide)) | with_reducible rfl | exact Sub.of (by assumption) (by decide) | assumption) only [completeOpt_view, view_lit, apply_ite (State.view hid), ite_self] | split | with_reducible rfl)

theorem switchAtFrame_view (s : State) (hm : Sub 0x16a200 hid) : (State.switchAtFrame s).view hid = s.view hid := by
  unfold State.switchAtFrame
  repeat' (first | assumption | intro _ | simp (disch := first | exact hide_on (Sub.of (by assumption) (by decide)) | with_reducible rfl | exact Sub.of (by assumption) (by decide) | assumption) only [switchDone_view, switchFails_view, view_lit, apply_ite (State.view hid), ite_self] | split | with_reducible rfl)

theorem queueValues_view (s : State) (op : Option ℕ) (b : List Byte) (sid : U32) (at_ : ℕ) (hm : Sub 0x20000 hid) : (State.queueValues s op b sid at_).view hid = s.view hid := by
  unfold State.queueValues
  repeat' (first | assumption | intro _ | simp (disch := first | exact hide_on (Sub.of (by assumption) (by decide)) | with_reducible rfl | exact Sub.of (by assumption) (by decide) | assumption) only [modTask_view, view_lit, apply_ite (State.view hid), ite_self] | split | with_reducible rfl)

theorem valueWriteApply_view (op : Option ℕ) (b : List Byte) (sid : U32) (s : State) (hm : Sub 0x20000 hid) : (valueWriteApply op b sid s).view hid = s.view hid := by
  unfold valueWriteApply
  repeat' (first | assumption | intro _ | simp (disch := first | exact hide_on (Sub.of (by assumption) (by decide)) | with_reducible rfl | exact Sub.of (by assumption) (by decide) | assumption) only [queueValues_view, view_lit, apply_ite (State.view hid), ite_self] | split | with_reducible rfl)

theorem addForce_view (s : State) (kind : ℕ) (point : ℕ) (value : ℕ) (hm : Sub 0x10000 hid) : (State.addForce s kind point value).view hid = s.view hid := by
  unfold State.addForce
  repeat' (first | assumption | intro _ | simp (disch := first | exact hide_on (Sub.of (by assumption) (by decide)) | with_reducible rfl | exact Sub.of (by assumption) (by decide) | assumption) only [modForce_view, view_lit, apply_ite (State.view hid), ite_self] | split | with_reducible rfl)

theorem forceSet_view (s : State) (b : List Byte) (sid : U32) (hm : Sub 0x32000 hid) : (State.forceSet s b sid).view hid = s.view hid := by
  unfold State.forceSet
  repeat' (first | assumption | intro _ | simp (disch := first | exact hide_on (Sub.of (by assumption) (by decide)) | with_reducible rfl | exact Sub.of (by assumption) (by decide) | assumption) only [archCommand_view, refreshForces_view, addForce_view, view_lit, apply_ite (State.view hid), ite_self] | with_reducible apply foldl_keep | with_reducible apply foldl_keep2 | split | with_reducible rfl)

theorem forceSetApply_view (op : Option ℕ) (b : List Byte) (sid : U32) (s : State) (hm : Sub 0x32200 hid) : (forceSetApply op b sid s).view hid = s.view hid := by
  unfold forceSetApply
  repeat' (first | assumption | intro _ | simp (disch := first | exact hide_on (Sub.of (by assumption) (by decide)) | with_reducible rfl | exact Sub.of (by assumption) (by decide) | assumption) only [completeOpt_view, forceSet_view, view_lit, apply_ite (State.view hid), ite_self] | split | with_reducible rfl)

theorem forceClear_view (s : State) (b : List Byte) (sid : U32) (now : Bool) (hm : Sub 0x32000 hid) : (State.forceClear s b sid now).view hid = s.view hid := by
  unfold State.forceClear
  repeat' (first | assumption | intro _ | simp (disch := first | exact hide_on (Sub.of (by assumption) (by decide)) | with_reducible rfl | exact Sub.of (by assumption) (by decide) | assumption) only [archCommand_view, modForce_view, dropForce_view, refreshForces_view, view_lit, apply_ite (State.view hid), ite_self] | with_reducible apply foldl_keep | with_reducible apply foldl_keep2 | split | with_reducible rfl)

theorem forceClearApply_view (op : Option ℕ) (b : List Byte) (sid : U32) (s : State) (hm : Sub 0x32200 hid) : (forceClearApply op b sid s).view hid = s.view hid := by
  unfold forceClearApply
  repeat' (first | assumption | intro _ | simp (disch := first | exact hide_on (Sub.of (by assumption) (by decide)) | with_reducible rfl | exact Sub.of (by assumption) (by decide) | assumption) only [completeOpt_view, forceClear_view, view_lit, apply_ite (State.view hid), ite_self] | split | with_reducible rfl)

theorem trigger_view (s : State) (n : ℕ) (t : ℕ) (op : Option ℕ) (hm : Sub 0x20000 hid) : (State.trigger s n t op).view hid = s.view hid := by
  unfold State.trigger
  repeat' (first | assumption | intro _ | simp (disch := first | exact hide_on (Sub.of (by assumption) (by decide)) | with_reducible rfl | exact Sub.of (by assumption) (by decide) | assumption) only [modTask_view, view_lit, apply_ite (State.view hid), ite_self] | split | with_reducible rfl)

theorem taskTriggerApply_view (op : Option ℕ) (b : List Byte) (x2 : U32) (s : State) (hm : Sub 0x20000 hid) : (taskTriggerApply op b x2 s).view hid = s.view hid := by
  unfold taskTriggerApply
  repeat' (first | assumption | intro _ | simp (disch := first | exact hide_on (Sub.of (by assumption) (by decide)) | with_reducible rfl | exact Sub.of (by assumption) (by decide) | assumption) only [trigger_view, view_lit, apply_ite (State.view hid), ite_self] | split | with_reducible rfl)

theorem answerRelay_view (s : State) (x : Relay) (st : Status) (arg : ℕ) (body : List Byte) (hm : Sub 0x200000480 hid) : (State.answerRelay s x st arg body).view hid = s.view hid := by
  unfold State.answerRelay
  repeat' (first | assumption | intro _ | simp (disch := first | exact hide_on (Sub.of (by assumption) (by decide)) | with_reducible rfl | exact Sub.of (by assumption) (by decide) | assumption) only [journalled_view, respond_view, endSession_view, view_lit, apply_ite (State.view hid), ite_self] | split | with_reducible rfl)

theorem answerTriggers_view (s : State) (id : ℕ) (osn : Option ℕ) (hm : Sub 0x200000480 hid) : (State.answerTriggers s id osn).view hid = s.view hid := by
  unfold State.answerTriggers
  repeat' (first | assumption | intro _ | simp (disch := first | exact hide_on (Sub.of (by assumption) (by decide)) | with_reducible rfl | exact Sub.of (by assumption) (by decide) | assumption) only [answerRelay_view, view_lit, apply_ite (State.view hid), ite_self] | with_reducible apply foldl_keep | with_reducible apply foldl_keep2 | split | with_reducible rfl)

theorem taskDue_view (s : State) (n : ℕ) (hm : Sub 0x27813e688 hid) : (State.taskDue s n).view hid = s.view hid := by
  unfold State.taskDue
  repeat' (first | assumption | intro _ | simp (disch := first | exact hide_on (Sub.of (by assumption) (by decide)) | with_reducible rfl | exact Sub.of (by assumption) (by decide) | assumption) only [dueStart_view, trigger_view, answerTriggers_view, view_lit, apply_ite (State.view hid), ite_self] | with_reducible apply foldl_keep | with_reducible apply foldl_keep2 | split | with_reducible rfl)

theorem modAnnex_view (s : State) (f : Annex → Annex) (hm : Sub 0x2000000 hid) : (State.modAnnex s f).view hid = s.view hid := by
  unfold State.modAnnex
  repeat' (first | assumption | intro _ | simp (disch := first | exact hide_on (Sub.of (by assumption) (by decide)) | with_reducible rfl | exact Sub.of (by assumption) (by decide) | assumption) only [view_lit, apply_ite (State.view hid), ite_self] | split | with_reducible rfl)

theorem retireRes_view (s : State) (r : ℕ) (cause : ℕ) (hm : Sub 0x2000000 hid) : (State.retireRes s r cause).view hid = s.view hid := by
  unfold State.retireRes
  repeat' (first | assumption | intro _ | simp (disch := first | exact hide_on (Sub.of (by assumption) (by decide)) | with_reducible rfl | exact Sub.of (by assumption) (by decide) | assumption) only [modRes_view, setRes_view, view_lit, apply_ite (State.view hid), ite_self] | split | with_reducible rfl)

theorem testCandidates_view (s : State) (tests : List (ℕ × U64)) (x2 : List ℕ) (hm : Sub 0x1a804248 hid) : (State.testCandidates s tests x2).2.view hid = s.view hid := by
  induction x2 generalizing s with
  | nil => rfl
  | cons x t ih =>
    unfold State.testCandidates
    repeat' (first | assumption | intro _ | simp (disch := first | exact hide_on (Sub.of (by assumption) (by decide)) | with_reducible rfl | exact Sub.of (by assumption) (by decide) | assumption) only [ih, injected_view, view_lit, apply_ite (State.view hid), ite_self] | split | with_reducible rfl)
theorem testCandidates_view' {s : State} {tests : List (ℕ × U64)} {x2 : List ℕ} {aa : _} {tt : State} (hm : Sub 0x1a804248 hid) (h : (State.testCandidates s tests x2) = (aa, tt)) : tt.view hid = s.view hid := by
  have := testCandidates_view (hid := hid) s tests x2 hm
  rwa [h] at this

theorem migratePair_view (s : State) (m : Migration) (tests : List (ℕ × U64)) (hm : Sub 0x1a804248 hid) : (State.migratePair s m tests).view hid = s.view hid := by
  unfold State.migratePair
  repeat' (first | assumption | intro _ | refine (testCandidates_view' (Sub.of (by assumption) (by decide)) (by assumption)).trans ?_ | simp (disch := first | exact hide_on (Sub.of (by assumption) (by decide)) | with_reducible rfl | exact Sub.of (by assumption) (by decide) | assumption) only [complete_view, halt_view, setRes_view, exhaust_view, migBegin_view, freezePulse_view, migEnd_view, modCore_view, moveTasks_view, modAnnex_view, retireRes_view, testCandidates_view, view_lit, apply_ite (State.view hid), ite_self] | split | with_reducible rfl)

theorem migrateConv_view (s : State) (m : Migration) (hm : Sub 0x2000200 hid) : (State.migrateConv s m).view hid = s.view hid := by
  unfold State.migrateConv
  repeat' (first | assumption | intro _ | simp (disch := first | exact hide_on (Sub.of (by assumption) (by decide)) | with_reducible rfl | exact Sub.of (by assumption) (by decide) | assumption) only [completeOpt_view, modRes_view, setRes_view, exhaust_view, migBegin_view, migEnd_view, modAnnex_view, retireRes_view, view_lit, apply_ite (State.view hid), ite_self] | split | with_reducible rfl)

theorem migrateStage_view (s : State) (m : Migration) (hm : Sub 0x12000200 hid) : (State.migrateStage s m).view hid = s.view hid := by
  unfold State.migrateStage
  repeat' (first | assumption | intro _ | simp (disch := first | exact hide_on (Sub.of (by assumption) (by decide)) | with_reducible rfl | exact Sub.of (by assumption) (by decide) | assumption) only [completeOpt_view, modAo_view, modRes_view, setRes_view, exhaust_view, migBegin_view, migEnd_view, modAnnex_view, retireRes_view, view_lit, apply_ite (State.view hid), ite_self] | split | with_reducible rfl)

theorem migrateOsc_view (s : State) (m : Migration) (hm : Sub 0x2004208 hid) : (State.migrateOsc s m).view hid = s.view hid := by
  unfold State.migrateOsc
  repeat' (first | assumption | intro _ | simp (disch := first | exact hide_on (Sub.of (by assumption) (by decide)) | with_reducible rfl | exact Sub.of (by assumption) (by decide) | assumption) only [raise_view, halt_view, setRes_view, exhaust_view, migBegin_view, migEnd_view, modAnnex_view, retireRes_view, view_lit, apply_ite (State.view hid), ite_self] | split | with_reducible rfl)

theorem takeBlock_view (s : State) (b : ℕ) (hm : Sub 0x2000800 hid) : (State.takeBlock s b).2.view hid = s.view hid := by
  unfold State.takeBlock
  repeat' (first | assumption | intro _ | simp (disch := first | exact hide_on (Sub.of (by assumption) (by decide)) | with_reducible rfl | exact Sub.of (by assumption) (by decide) | assumption) only [raise_view, modAnnex_view, view_lit, apply_ite (State.view hid), ite_self] | split | with_reducible rfl)
theorem takeBlock_view' {s : State} {b : ℕ} {aa : _} {tt : State} (hm : Sub 0x2000800 hid) (h : (State.takeBlock s b) = (aa, tt)) : tt.view hid = s.view hid := by
  have := takeBlock_view (hid := hid) s b hm
  rwa [h] at this

theorem blockLost_view (s : State) (b : ℕ) (hm : Sub 0x20000d208 hid) : (State.blockLost s b).view hid = s.view hid := by
  unfold State.blockLost
  repeat' (first | assumption | intro _ | simp (disch := first | exact hide_on (Sub.of (by assumption) (by decide)) | with_reducible rfl | exact Sub.of (by assumption) (by decide) | assumption) only [complete_view, halt_view, view_lit, apply_ite (State.view hid), ite_self] | split | with_reducible rfl)

theorem archPut_view (s : State) (r : ArchRec) (hm : Sub 0x1000 hid) : (State.archPut s r).view hid = s.view hid := by
  unfold State.archPut
  repeat' (first | assumption | intro _ | simp (disch := first | exact hide_on (Sub.of (by assumption) (by decide)) | with_reducible rfl | exact Sub.of (by assumption) (by decide) | assumption) only [raise_view, view_lit, apply_ite (State.view hid), ite_self] | split | with_reducible rfl)

theorem saveRetained_view (s : State) (final : Bool) (hm : Sub 0x40000 hid) : (State.saveRetained s final).view hid = s.view hid := by
  unfold State.saveRetained
  repeat' (first | assumption | intro _ | simp (disch := first | exact hide_on (Sub.of (by assumption) (by decide)) | with_reducible rfl | exact Sub.of (by assumption) (by decide) | assumption) only [view_lit, apply_ite (State.view hid), ite_self] | split | with_reducible rfl)

theorem archFinal_view (s : State) (hm : Sub 0x1000 hid) : (State.archFinal s).view hid = s.view hid := by
  unfold State.archFinal
  repeat' (first | assumption | intro _ | simp (disch := first | exact hide_on (Sub.of (by assumption) (by decide)) | with_reducible rfl | exact Sub.of (by assumption) (by decide) | assumption) only [stageRec_view, archPut_view, view_lit, apply_ite (State.view hid), ite_self] | with_reducible apply foldl_keep | with_reducible apply foldl_keep2 | split | with_reducible rfl)

theorem beginSave_view (s : State) (hm : Sub 0x400040000 hid) : (State.beginSave s).view hid = s.view hid := by
  unfold State.beginSave
  repeat' (first | assumption | intro _ | simp (disch := first | exact hide_on (Sub.of (by assumption) (by decide)) | with_reducible rfl | exact Sub.of (by assumption) (by decide) | assumption) only [view_lit, apply_ite (State.view hid), ite_self] | split | with_reducible rfl)

theorem finalSave_view (s : State) (limited : Bool) (hm : Sub 0x441000 hid) : (State.finalSave s limited).view hid = s.view hid := by
  unfold State.finalSave
  repeat' (first | assumption | intro _ | simp (disch := first | exact hide_on (Sub.of (by assumption) (by decide)) | with_reducible rfl | exact Sub.of (by assumption) (by decide) | assumption) only [journalWrite_view, saveRetained_view, archFinal_view, view_lit, apply_ite (State.view hid), ite_self] | split | with_reducible rfl)

theorem enterM0_view (s : State) (hm : Sub 0x7fffffeec hid) : (State.enterM0 s).view hid = s.view hid := by
  unfold State.enterM0
  repeat' (first | assumption | intro _ | simp (disch := first | exact hide_on (Sub.of (by assumption) (by decide)) | with_reducible rfl | exact Sub.of (by assumption) (by decide) | assumption) only [view_lit, apply_ite (State.view hid), ite_self] | with_reducible apply foldl_keep | with_reducible apply foldl_keep2 | split | with_reducible rfl)

theorem restartNow_view (s : State) (hm : Sub 0x7fffffeec hid) : (State.restartNow s).view hid = s.view hid := by
  unfold State.restartNow
  repeat' (first | assumption | intro _ | simp (disch := first | exact hide_on (Sub.of (by assumption) (by decide)) | with_reducible rfl | exact Sub.of (by assumption) (by decide) | assumption) only [endSession_view, finalSave_view, enterM0_view, view_lit, apply_ite (State.view hid), ite_self] | with_reducible apply foldl_keep | with_reducible apply foldl_keep2 | split | with_reducible rfl)

theorem modPnl_view (s : State) (f : Panel → Panel) (hm : Sub 0x100000000 hid) : (State.modPnl s f).view hid = s.view hid := by
  unfold State.modPnl
  repeat' (first | assumption | intro _ | simp (disch := first | exact hide_on (Sub.of (by assumption) (by decide)) | with_reducible rfl | exact Sub.of (by assumption) (by decide) | assumption) only [view_lit, apply_ite (State.view hid), ite_self] | split | with_reducible rfl)

theorem modRegion_view (s : State) (r : ℕ) (f : PnlRegion → PnlRegion) (hm : Sub 0x100000000 hid) : (State.modRegion s r f).view hid = s.view hid := by
  unfold State.modRegion
  repeat' (first | assumption | intro _ | simp (disch := first | exact hide_on (Sub.of (by assumption) (by decide)) | with_reducible rfl | exact Sub.of (by assumption) (by decide) | assumption) only [modPnl_view, view_lit, apply_ite (State.view hid), ite_self] | split | with_reducible rfl)

theorem panelTemp_view (s : State) (hm : Sub 0x100000000 hid) : (State.panelTemp s).view hid = s.view hid := by
  unfold State.panelTemp
  repeat' (first | assumption | intro _ | simp (disch := first | exact hide_on (Sub.of (by assumption) (by decide)) | with_reducible rfl | exact Sub.of (by assumption) (by decide) | assumption) only [raise_view, modPnl_view, view_lit, apply_ite (State.view hid), ite_self] | split | with_reducible rfl)

theorem panelSuperseded_view (s : State) (r : ℕ) (op : ℕ) (hm : Sub 0x100000200 hid) : (State.panelSuperseded s r op).view hid = s.view hid := by
  unfold State.panelSuperseded
  repeat' (first | assumption | intro _ | simp (disch := first | exact hide_on (Sub.of (by assumption) (by decide)) | with_reducible rfl | exact Sub.of (by assumption) (by decide) | assumption) only [raise_view, complete_view, modPnl_view, view_lit, apply_ite (State.view hid), ite_self] | split | with_reducible rfl)

theorem panelRequest_view (s : State) (r : ℕ) (picture : ℕ) (refresh : Bool) (host : List ℕ) (hm : Sub 0x100000200 hid) : (State.panelRequest s r picture refresh host).view hid = s.view hid := by
  unfold State.panelRequest
  repeat' (first | assumption | intro _ | simp (disch := first | exact hide_on (Sub.of (by assumption) (by decide)) | with_reducible rfl | exact Sub.of (by assumption) (by decide) | assumption) only [modRegion_view, panelSuperseded_view, view_lit, apply_ite (State.view hid), ite_self] | with_reducible apply foldl_keep | with_reducible apply foldl_keep2 | split | with_reducible rfl)

theorem panelAuto_view (s : State) (t : ℕ) (r : ℕ) (hm : Sub 0x100000200 hid) : (State.panelAuto s t r).view hid = s.view hid := by
  unfold State.panelAuto
  repeat' (first | assumption | intro _ | simp (disch := first | exact hide_on (Sub.of (by assumption) (by decide)) | with_reducible rfl | exact Sub.of (by assumption) (by decide) | assumption) only [panelRequest_view, view_lit, apply_ite (State.view hid), ite_self] | split | with_reducible rfl)

theorem panelEnd_view (s : State) (t : ℕ) (r : ℕ) (u : PnlRun) (hm : Sub 0x100000200 hid) : (State.panelEnd s t r u).view hid = s.view hid := by
  unfold State.panelEnd
  repeat' (first | assumption | intro _ | simp (disch := first | exact hide_on (Sub.of (by assumption) (by decide)) | with_reducible rfl | exact Sub.of (by assumption) (by decide) | assumption) only [raise_view, complete_view, modPnl_view, modRegion_view, view_lit, apply_ite (State.view hid), ite_self] | with_reducible apply foldl_keep | with_reducible apply foldl_keep2 | split | with_reducible rfl)

theorem panelStart_view (s : State) (t : ℕ) (f : ℕ) (r : ℕ) (band : ℕ) (picture : ℕ) (refresh : Bool) (host : List ℕ) (mine : Bool) (hm : Sub 0x100000200 hid) : (State.panelStart s t f r band picture refresh host mine).view hid = s.view hid := by
  unfold State.panelStart
  repeat' (first | assumption | intro _ | simp (disch := first | exact hide_on (Sub.of (by assumption) (by decide)) | with_reducible rfl | exact Sub.of (by assumption) (by decide) | assumption) only [raise_view, announce_view, modPnl_view, modRegion_view, panelEnd_view, view_lit, apply_ite (State.view hid), ite_self] | with_reducible apply foldl_keep | with_reducible apply foldl_keep2 | split | with_reducible rfl)

theorem panelTryStart_view (s : State) (t : ℕ) (f : ℕ) (r : ℕ) (hm : Sub 0x100000200 hid) : (State.panelTryStart s t f r).view hid = s.view hid := by
  unfold State.panelTryStart
  repeat' (first | assumption | intro _ | simp (disch := first | exact hide_on (Sub.of (by assumption) (by decide)) | with_reducible rfl | exact Sub.of (by assumption) (by decide) | assumption) only [panelStart_view, view_lit, apply_ite (State.view hid), ite_self] | split | with_reducible rfl)

theorem panelRegion_view (s : State) (t : ℕ) (f : ℕ) (r : ℕ) (hm : Sub 0x100000200 hid) : (State.panelRegion s t f r).view hid = s.view hid := by
  unfold State.panelRegion
  repeat' (first | assumption | intro _ | simp (disch := first | exact hide_on (Sub.of (by assumption) (by decide)) | with_reducible rfl | exact Sub.of (by assumption) (by decide) | assumption) only [panelAuto_view, panelEnd_view, panelTryStart_view, view_lit, apply_ite (State.view hid), ite_self] | split | with_reducible rfl)

theorem panelFrame_view (s : State) (hm : Sub 0x100000200 hid) : (State.panelFrame s).view hid = s.view hid := by
  unfold State.panelFrame
  repeat' (first | assumption | intro _ | simp (disch := first | exact hide_on (Sub.of (by assumption) (by decide)) | with_reducible rfl | exact Sub.of (by assumption) (by decide) | assumption) only [modPnl_view, panelTemp_view, panelRegion_view, view_lit, apply_ite (State.view hid), ite_self] | with_reducible apply foldl_keep | with_reducible apply foldl_keep2 | split | with_reducible rfl)

theorem panelAbandon_view (s : State) (hm : Sub 0x100000000 hid) : (State.panelAbandon s).2.view hid = s.view hid := by
  unfold State.panelAbandon
  repeat' (first | assumption | intro _ | simp (disch := first | exact hide_on (Sub.of (by assumption) (by decide)) | with_reducible rfl | exact Sub.of (by assumption) (by decide) | assumption) only [modPnl_view, modRegion_view, view_lit, apply_ite (State.view hid), ite_self] | with_reducible apply foldl_keep | with_reducible apply foldl_keep2 | split | with_reducible rfl)
theorem panelAbandon_view' {s : State} {aa : _} {tt : State} (hm : Sub 0x100000000 hid) (h : (State.panelAbandon s) = (aa, tt)) : tt.view hid = s.view hid := by
  have := panelAbandon_view (hid := hid) s hm
  rwa [h] at this

theorem panelTrack_view (s : State) (r : ℕ) (band : ℕ) (start : ℕ) (picture : ℕ) (refresh : Bool) (hm : Sub 0x100000200 hid) : (State.panelTrack s r band start picture refresh).view hid = s.view hid := by
  unfold State.panelTrack
  repeat' (first | assumption | intro _ | simp (disch := first | exact hide_on (Sub.of (by assumption) (by decide)) | with_reducible rfl | exact Sub.of (by assumption) (by decide) | assumption) only [panelStart_view, view_lit, apply_ite (State.view hid), ite_self] | split | with_reducible rfl)

theorem panelUpdateApply_view (op : Option ℕ) (b : List Byte) (x2 : U32) (s : State) (hm : Sub 0x100000200 hid) : (panelUpdateApply op b x2 s).view hid = s.view hid := by
  unfold panelUpdateApply
  repeat' (first | assumption | intro _ | simp (disch := first | exact hide_on (Sub.of (by assumption) (by decide)) | with_reducible rfl | exact Sub.of (by assumption) (by decide) | assumption) only [modPnl_view, panelRequest_view, view_lit, apply_ite (State.view hid), ite_self] | with_reducible apply foldl_keep | with_reducible apply foldl_keep2 | split | with_reducible rfl)

theorem canReceive_view (s : State) (c : ℕ) (id : ℕ) (data : List Byte) (hm : Sub 0x80000000 hid) : (State.canReceive s c id data).view hid = s.view hid := by
  unfold State.canReceive
  repeat' (first | assumption | intro _ | simp (disch := first | exact hide_on (Sub.of (by assumption) (by decide)) | with_reducible rfl | exact Sub.of (by assumption) (by decide) | assumption) only [raise_view, modCan_view, view_lit, apply_ite (State.view hid), ite_self] | split | with_reducible rfl)

theorem canBusOff_view (s : State) (c : ℕ) (hm : Sub 0x80000200 hid) : (State.canBusOff s c).view hid = s.view hid := by
  unfold State.canBusOff
  repeat' (first | assumption | intro _ | simp (disch := first | exact hide_on (Sub.of (by assumption) (by decide)) | with_reducible rfl | exact Sub.of (by assumption) (by decide) | assumption) only [raise_view, modCan_view, canDrop_view, view_lit, apply_ite (State.view hid), ite_self] | with_reducible apply foldl_keep | with_reducible apply foldl_keep2 | split | with_reducible rfl)

theorem canSendApply_view (op : Option ℕ) (body : List Byte) (sid : U32) (s : State) (hm : Sub 0x80000200 hid) : (canSendApply op body sid s).view hid = s.view hid := by
  unfold canSendApply
  repeat' (first | assumption | intro _ | simp (disch := first | exact hide_on (Sub.of (by assumption) (by decide)) | with_reducible rfl | exact Sub.of (by assumption) (by decide) | assumption) only [completeOpt_view, canLoad_view, view_lit, apply_ite (State.view hid), ite_self] | split | with_reducible rfl)

theorem modClk_view (s : State) (f : Clk → Clk) (hm : Sub 0x4 hid) : (State.modClk s f).view hid = s.view hid := by
  unfold State.modClk
  repeat' (first | assumption | intro _ | simp (disch := first | exact hide_on (Sub.of (by assumption) (by decide)) | with_reducible rfl | exact Sub.of (by assumption) (by decide) | assumption) only [view_lit, apply_ite (State.view hid), ite_self] | split | with_reducible rfl)

theorem servo_view (s : State) (hm : Sub 0x4 hid) : (State.servo s).view hid = s.view hid := by
  unfold State.servo
  repeat' (first | assumption | intro _ | refine (takeFree_view' (by assumption)).trans ?_ | simp (disch := first | exact hide_on (Sub.of (by assumption) (by decide)) | with_reducible rfl | exact Sub.of (by assumption) (by decide) | assumption) only [takeFree_view, modClk_view, view_lit, apply_ite (State.view hid), ite_self] | split | with_reducible rfl)

theorem decideCorrection_view (s : State) (c : ℤ) (cause : ℕ) (op : Option ℕ) (hm : Sub 0x4 hid) : (State.decideCorrection s c cause op).view hid = s.view hid := by
  unfold State.decideCorrection
  repeat' (first | assumption | intro _ | simp (disch := first | exact hide_on (Sub.of (by assumption) (by decide)) | with_reducible rfl | exact Sub.of (by assumption) (by decide) | assumption) only [announce_view, modClk_view, view_lit, apply_ite (State.view hid), ite_self] | split | with_reducible rfl)

theorem askCorrection_view (s : State) (c : ℤ) (hm : Sub 0x4 hid) : (State.askCorrection s c).view hid = s.view hid := by
  unfold State.askCorrection
  repeat' (first | assumption | intro _ | simp (disch := first | exact hide_on (Sub.of (by assumption) (by decide)) | with_reducible rfl | exact Sub.of (by assumption) (by decide) | assumption) only [raise_view, modClk_view, decideCorrection_view, view_lit, apply_ite (State.view hid), ite_self] | split | with_reducible rfl)

theorem ptpLost_view (s : State) (cause : ℕ) (hm : Sub 0x4 hid) : (State.ptpLost s cause).view hid = s.view hid := by
  unfold State.ptpLost
  repeat' (first | assumption | intro _ | simp (disch := first | exact hide_on (Sub.of (by assumption) (by decide)) | with_reducible rfl | exact Sub.of (by assumption) (by decide) | assumption) only [raise_view, modClk_view, view_lit, apply_ite (State.view hid), ite_self] | split | with_reducible rfl)

theorem servoSync_view (s : State) (offset : ℤ) (hm : Sub 0x4 hid) : (State.servoSync s offset).view hid = s.view hid := by
  unfold State.servoSync
  extract_lets a s1 s2 s3 s4 s5
  have hc : ∀ (t : State) f, (t.modClk f).view hid = t.view hid := fun t f => modClk_view _ _ (Sub.of hm (by decide))
  have h1 : s1.view hid = s.view hid := hc _ _
  have h2 : s2.view hid = s.view hid := ite_view ((hc _ _).trans h1) h1
  have h3 : s3.view hid = s.view hid := ite_view ((hc _ _).trans h2) h2
  have h4 : s4.view hid = s.view hid := ite_view ((ptpLost_view _ _ (Sub.of hm (by decide))).trans h3) h3
  have h5 : s5.view hid = s.view hid := (hc _ _).trans h4
  exact ite_view (ite_view ((decideCorrection_view _ _ _ _ (Sub.of hm (by decide))).trans h5) h5)
    (ite_view ((askCorrection_view _ _ (Sub.of hm (by decide))).trans ((hc _ _).trans h4)) ((servo_view _ (Sub.of hm (by decide))).trans h4))

theorem choosePort_view (s : State) (hm : Sub 0x4 hid) : (State.choosePort s).view hid = s.view hid := by
  unfold State.choosePort
  repeat' (first | assumption | intro _ | simp (disch := first | exact hide_on (Sub.of (by assumption) (by decide)) | with_reducible rfl | exact Sub.of (by assumption) (by decide) | assumption) only [raise_view, modClk_view, view_lit, apply_ite (State.view hid), ite_self] | split | with_reducible rfl)

theorem skipSteps_view (s : State) (from_ : ℕ) (w : ℕ) (hm : Sub 0x20000 hid) : (State.skipSteps s from_ w).view hid = s.view hid := by
  unfold State.skipSteps
  repeat' (first | assumption | intro _ | simp (disch := first | exact hide_on (Sub.of (by assumption) (by decide)) | with_reducible rfl | exact Sub.of (by assumption) (by decide) | assumption) only [modTask_view, view_lit, apply_ite (State.view hid), ite_self] | with_reducible apply foldl_keep | with_reducible apply foldl_keep2 | split | with_reducible rfl)

theorem applyCorrection_view (s : State) (c : Correction) (hm : Sub 0x283b2204 hid) : (State.applyCorrection s c).view hid = s.view hid := by
  unfold State.applyCorrection
  repeat' (first | assumption | intro _ | simp (disch := first | exact hide_on (Sub.of (by assumption) (by decide)) | with_reducible rfl | exact Sub.of (by assumption) (by decide) | assumption) only [raise_view, completeOpt_view, modTask_view, phaseUpdate_view, modClk_view, skipSteps_view, view_lit, apply_ite (State.view hid), ite_self] | with_reducible apply foldl_keep | with_reducible apply foldl_keep2 | split | with_reducible rfl)

theorem acceptStep_view (s : State) (op : Option ℕ) (session : ℕ) (body : List Byte) (hm : Sub 0x4 hid) : (State.acceptStep s op session body).view hid = s.view hid := by
  unfold State.acceptStep
  repeat' (first | assumption | intro _ | simp (disch := first | exact hide_on (Sub.of (by assumption) (by decide)) | with_reducible rfl | exact Sub.of (by assumption) (by decide) | assumption) only [archCommand_view, decideCorrection_view, view_lit, apply_ite (State.view hid), ite_self] | split | with_reducible rfl)

theorem supplySetpoint_view (s : State) (n : ℕ) (readback : ℕ) (terminal : ℕ) : (State.supplySetpoint s n readback terminal).2.view hid = s.view hid := by
  unfold State.supplySetpoint
  repeat' (first | assumption | intro _ | refine (takeFree_view' (by assumption)).trans ?_ | simp (disch := first | exact hide_on (Sub.of (by assumption) (by decide)) | with_reducible rfl | exact Sub.of (by assumption) (by decide) | assumption) only [takeFree_view, view_lit, apply_ite (State.view hid), ite_self] | split | with_reducible rfl)
theorem supplySetpoint_view' {s : State} {n : ℕ} {readback : ℕ} {terminal : ℕ} {aa : _} {tt : State}  (h : (State.supplySetpoint s n readback terminal) = (aa, tt)) : tt.view hid = s.view hid := by
  have := supplySetpoint_view (hid := hid) s n readback terminal
  rwa [h] at this

theorem aoWatch_view (s : State) (n : ℕ) (hm : Sub 0x10000000 hid) : (State.aoWatch s n).view hid = s.view hid := by
  unfold State.aoWatch
  repeat' (first | assumption | intro _ | simp (disch := first | exact hide_on (Sub.of (by assumption) (by decide)) | with_reducible rfl | exact Sub.of (by assumption) (by decide) | assumption) only [modAo_view, view_lit, apply_ite (State.view hid), ite_self] | with_reducible apply foldl_keep | with_reducible apply foldl_keep2 | split | with_reducible rfl)

theorem aoChange_view (s : State) (n : ℕ) (k : ℕ) (hm : Sub 0x1a004208 hid) : (State.aoChange s n k).view hid = s.view hid := by
  unfold State.aoChange
  repeat' (first | assumption | intro _ | simp (disch := first | exact hide_on (Sub.of (by assumption) (by decide)) | with_reducible rfl | exact Sub.of (by assumption) (by decide) | assumption) only [raise_view, modAo_view, provenFault_view, view_lit, apply_ite (State.view hid), ite_self] | split | with_reducible rfl)

theorem aoPublish_view (s : State) (t : ℕ) (hm : Sub 0x32000 hid) : (State.aoPublish s t).view hid = s.view hid := by
  unfold State.aoPublish
  repeat' (first | assumption | intro _ | simp (disch := first | exact hide_on (Sub.of (by assumption) (by decide)) | with_reducible rfl | exact Sub.of (by assumption) (by decide) | assumption) only [publishAp_view, publishBp_view, view_lit, apply_ite (State.view hid), ite_self] | with_reducible apply foldl_keep | with_reducible apply foldl_keep2 | split | with_reducible rfl)

theorem trimRelease_view (s : State) (n : ℕ) (hm : Sub 0x10000000 hid) : (State.trimRelease s n).view hid = s.view hid := by
  unfold State.trimRelease
  repeat' (first | assumption | intro _ | simp (disch := first | exact hide_on (Sub.of (by assumption) (by decide)) | with_reducible rfl | exact Sub.of (by assumption) (by decide) | assumption) only [modAo_view, view_lit, apply_ite (State.view hid), ite_self] | split | with_reducible rfl)

theorem trimReleaseAll_view (s : State) (hm : Sub 0x10000000 hid) : (State.trimReleaseAll s).view hid = s.view hid := by
  unfold State.trimReleaseAll
  repeat' (first | assumption | intro _ | simp (disch := first | exact hide_on (Sub.of (by assumption) (by decide)) | with_reducible rfl | exact Sub.of (by assumption) (by decide) | assumption) only [trimRelease_view, view_lit, apply_ite (State.view hid), ite_self] | with_reducible apply foldl_keep | with_reducible apply foldl_keep2 | split | with_reducible rfl)

theorem aoTrim_view (s : State) (session : ℕ) (b : List Byte) (hm : Sub 0x10000000 hid) : (State.aoTrim s session b).view hid = s.view hid := by
  unfold State.aoTrim
  repeat' (first | assumption | intro _ | simp (disch := first | exact hide_on (Sub.of (by assumption) (by decide)) | with_reducible rfl | exact Sub.of (by assumption) (by decide) | assumption) only [archCommand_view, modAo_view, trimRelease_view, view_lit, apply_ite (State.view hid), ite_self] | split | with_reducible rfl)

theorem modModem_view (s : State) (m : ℕ) (f : Modem → Modem) (hm : Sub 0x10000000 hid) : (State.modModem s m f).view hid = s.view hid := by
  unfold State.modModem
  repeat' (first | assumption | intro _ | simp (disch := first | exact hide_on (Sub.of (by assumption) (by decide)) | with_reducible rfl | exact Sub.of (by assumption) (by decide) | assumption) only [view_lit, apply_ite (State.view hid), ite_self] | split | with_reducible rfl)

theorem hartAttempt_view (s : State) (m : ℕ) (x : HartTx) (hm : Sub 0x10000000 hid) : (State.hartAttempt s m x).view hid = s.view hid := by
  unfold State.hartAttempt
  repeat' (first | assumption | intro _ | simp (disch := first | exact hide_on (Sub.of (by assumption) (by decide)) | with_reducible rfl | exact Sub.of (by assumption) (by decide) | assumption) only [emit_view, modModem_view, view_lit, apply_ite (State.view hid), ite_self] | split | with_reducible rfl)

theorem hartNext_view (s : State) (m : ℕ) (hm : Sub 0x10000000 hid) : (State.hartNext s m).view hid = s.view hid := by
  unfold State.hartNext
  repeat' (first | assumption | intro _ | simp (disch := first | exact hide_on (Sub.of (by assumption) (by decide)) | with_reducible rfl | exact Sub.of (by assumption) (by decide) | assumption) only [modModem_view, hartAttempt_view, view_lit, apply_ite (State.view hid), ite_self] | split | with_reducible rfl)

theorem hartIdentify_view (s : State) (m : ℕ) (hm : Sub 0x10000000 hid) : (State.hartIdentify s m).view hid = s.view hid := by
  unfold State.hartIdentify
  repeat' (first | assumption | intro _ | simp (disch := first | exact hide_on (Sub.of (by assumption) (by decide)) | with_reducible rfl | exact Sub.of (by assumption) (by decide) | assumption) only [modModem_view, hartAttempt_view, view_lit, apply_ite (State.view hid), ite_self] | split | with_reducible rfl)

theorem hartRefresh_view (s : State) (hm : Sub 0x10000200 hid) : (State.hartRefresh s).view hid = s.view hid := by
  unfold State.hartRefresh
  repeat' (first | assumption | intro _ | simp (disch := first | exact hide_on (Sub.of (by assumption) (by decide)) | with_reducible rfl | exact Sub.of (by assumption) (by decide) | assumption) only [completeOpt_view, modModem_view, hartIdentify_view, view_lit, apply_ite (State.view hid), ite_self] | with_reducible apply foldl_keep | with_reducible apply foldl_keep2 | split | with_reducible rfl)

theorem modHartRec_view (s : State) (m : ℕ) (k : ℕ) (f : HartRec → HartRec) (hm : Sub 0x10000000 hid) : (State.modHartRec s m k f).view hid = s.view hid := by
  unfold State.modHartRec
  repeat' (first | assumption | intro _ | simp (disch := first | exact hide_on (Sub.of (by assumption) (by decide)) | with_reducible rfl | exact Sub.of (by assumption) (by decide) | assumption) only [modModem_view, view_lit, apply_ite (State.view hid), ite_self] | split | with_reducible rfl)

theorem hartDone_view (s : State) (m : ℕ) (x : HartTx) (data : List Byte) (hm : Sub 0x10000200 hid) : (State.hartDone s m x data).view hid = s.view hid := by
  unfold State.hartDone
  repeat' (first | assumption | intro _ | simp (disch := first | exact hide_on (Sub.of (by assumption) (by decide)) | with_reducible rfl | exact Sub.of (by assumption) (by decide) | assumption) only [completeOpt_view, modModem_view, hartNext_view, view_lit, apply_ite (State.view hid), ite_self] | split | with_reducible rfl)

theorem hartFail_view (s : State) (m : ℕ) (x : HartTx) (hm : Sub 0x10000200 hid) : (State.hartFail s m x).view hid = s.view hid := by
  unfold State.hartFail
  repeat' (first | assumption | intro _ | simp (disch := first | exact hide_on (Sub.of (by assumption) (by decide)) | with_reducible rfl | exact Sub.of (by assumption) (by decide) | assumption) only [raise_view, modModem_view, hartAttempt_view, modHartRec_view, hartDone_view, view_lit, apply_ite (State.view hid), ite_self] | split | with_reducible rfl)

theorem hartIdentified_view (s : State) (m : ℕ) (x : HartIn) (hm : Sub 0x10000000 hid) : (State.hartIdentified s m x).view hid = s.view hid := by
  unfold State.hartIdentified
  repeat' (first | assumption | intro _ | simp (disch := first | exact hide_on (Sub.of (by assumption) (by decide)) | with_reducible rfl | exact Sub.of (by assumption) (by decide) | assumption) only [raise_view, modModem_view, hartNext_view, view_lit, apply_ite (State.view hid), ite_self] | split | with_reducible rfl)

theorem hartStatus_view (s : State) (m : ℕ) (x : HartIn) (hm : Sub 0x10000000 hid) : (State.hartStatus s m x).view hid = s.view hid := by
  unfold State.hartStatus
  repeat' (first | assumption | intro _ | simp (disch := first | exact hide_on (Sub.of (by assumption) (by decide)) | with_reducible rfl | exact Sub.of (by assumption) (by decide) | assumption) only [raise_view, modModem_view, view_lit, apply_ite (State.view hid), ite_self] | split | with_reducible rfl)

theorem hartHandover_view (s : State) (gain : Bool) (hm : Sub 0x10000200 hid) : (State.hartHandover s gain).view hid = s.view hid := by
  unfold State.hartHandover
  repeat' (first | assumption | intro _ | simp (disch := first | exact hide_on (Sub.of (by assumption) (by decide)) | with_reducible rfl | exact Sub.of (by assumption) (by decide) | assumption) only [completeOpt_view, modModem_view, hartAttempt_view, view_lit, apply_ite (State.view hid), ite_self] | with_reducible apply foldl_keep | with_reducible apply foldl_keep2 | split | with_reducible rfl)

theorem hartPassApply_view (op : Option ℕ) (b : List Byte) (x2 : U32) (s : State) (hm : Sub 0x10000200 hid) : (hartPassApply op b x2 s).view hid = s.view hid := by
  unfold hartPassApply
  repeat' (first | assumption | intro _ | simp (disch := first | exact hide_on (Sub.of (by assumption) (by decide)) | with_reducible rfl | exact Sub.of (by assumption) (by decide) | assumption) only [completeOpt_view, modModem_view, hartNext_view, view_lit, apply_ite (State.view hid), ite_self] | split | with_reducible rfl)

theorem modMu_view (s : State) (f : ModeUnit → ModeUnit) (hm : Sub 0x8 hid) : (State.modMu s f).view hid = s.view hid := by
  unfold State.modMu
  repeat' (first | assumption | intro _ | simp (disch := first | exact hide_on (Sub.of (by assumption) (by decide)) | with_reducible rfl | exact Sub.of (by assumption) (by decide) | assumption) only [view_lit, apply_ite (State.view hid), ite_self] | split | with_reducible rfl)

theorem m3Set_view (s : State) (x : ℕ × Bool) (hm : Sub 0x30000000 hid) : (State.m3Set s x).view hid = s.view hid := by
  unfold State.m3Set
  repeat' (first | assumption | intro _ | simp (disch := first | exact hide_on (Sub.of (by assumption) (by decide)) | with_reducible rfl | exact Sub.of (by assumption) (by decide) | assumption) only [view_lit, apply_ite (State.view hid), ite_self] | split | with_reducible rfl)

theorem m3Tell_view (s : State) (f : ℕ) (m : Mode) (share : ℕ) : (State.m3Tell s f m share).view hid = s.view hid := by
  unfold State.m3Tell
  repeat' (first | assumption | intro _ | simp (disch := first | exact hide_on (Sub.of (by assumption) (by decide)) | with_reducible rfl | exact Sub.of (by assumption) (by decide) | assumption) only [announce_view, view_lit, apply_ite (State.view hid), ite_self] | split | with_reducible rfl)

theorem m3Apply_view (s : State) (hm : Sub 0x30004008 hid) : (State.m3Apply s).view hid = s.view hid := by
  unfold State.m3Apply
  repeat' (first | assumption | intro _ | simp (disch := first | exact hide_on (Sub.of (by assumption) (by decide)) | with_reducible rfl | exact Sub.of (by assumption) (by decide) | assumption) only [modPair_view, modMu_view, m3Set_view, view_lit, apply_ite (State.view hid), ite_self] | split | with_reducible rfl)

theorem m3Eval_view (s : State) (hm : Sub 0x30004008 hid) : (State.m3Eval s).view hid = s.view hid := by
  unfold State.m3Eval
  repeat' (first | assumption | intro _ | simp (disch := first | exact hide_on (Sub.of (by assumption) (by decide)) | with_reducible rfl | exact Sub.of (by assumption) (by decide) | assumption) only [modMu_view, m3Set_view, m3Tell_view, m3Apply_view, view_lit, apply_ite (State.view hid), ite_self] | split | with_reducible rfl)

theorem m3Told_view (s : State) (f : ℕ) (m : Mode) (hm : Sub 0x8 hid) : (State.m3Told s f m).view hid = s.view hid := by
  unfold State.m3Told
  repeat' (first | assumption | intro _ | simp (disch := first | exact hide_on (Sub.of (by assumption) (by decide)) | with_reducible rfl | exact Sub.of (by assumption) (by decide) | assumption) only [modMu_view, m3Tell_view, view_lit, apply_ite (State.view hid), ite_self] | split | with_reducible rfl)

theorem stopWork_view (s : State) (o : AsyncOp) (hm : Sub 0x39ab28044 hid) : (State.stopWork s o).view hid = s.view hid := by
  unfold State.stopWork
  repeat' (first | assumption | intro _ | simp (disch := first | exact hide_on (Sub.of (by assumption) (by decide)) | with_reducible rfl | exact Sub.of (by assumption) (by decide) | assumption) only [modTask_view, modCore_view, modCap_view, trigger_view, modPnl_view, modClk_view, modModem_view, view_lit, apply_ite (State.view hid), ite_self] | with_reducible apply foldl_keep | with_reducible apply foldl_keep2 | split | with_reducible rfl)

theorem supersede_view (s : State) (m : Mode) (hm : Sub 0x39ab28644 hid) : (State.supersede s m).view hid = s.view hid := by
  unfold State.supersede
  repeat' (first | assumption | intro _ | simp (disch := first | exact hide_on (Sub.of (by assumption) (by decide)) | with_reducible rfl | exact Sub.of (by assumption) (by decide) | assumption) only [complete_view, stopWork_view, view_lit, apply_ite (State.view hid), ite_self] | with_reducible apply foldl_keep | with_reducible apply foldl_keep2 | split | with_reducible rfl)

theorem stopTasks_view (s : State) (hm : Sub 0x200020480 hid) : (State.stopTasks s).view hid = s.view hid := by
  unfold State.stopTasks
  repeat' (first | assumption | intro _ | simp (disch := first | exact hide_on (Sub.of (by assumption) (by decide)) | with_reducible rfl | exact Sub.of (by assumption) (by decide) | assumption) only [modTask_view, trigger_view, answerTriggers_view, view_lit, apply_ite (State.view hid), ite_self] | with_reducible apply foldl_keep | with_reducible apply foldl_keep2 | split | with_reducible rfl)

theorem startTasks_view (s : State) (streams : List (ℕ × ℕ)) (hm : Sub 0x20000 hid) : (State.startTasks s streams).view hid = s.view hid := by
  unfold State.startTasks
  repeat' (first | assumption | intro _ | simp (disch := first | exact hide_on (Sub.of (by assumption) (by decide)) | with_reducible rfl | exact Sub.of (by assumption) (by decide) | assumption) only [modTask_view, view_lit, apply_ite (State.view hid), ite_self] | with_reducible apply foldl_keep | with_reducible apply foldl_keep2 | split | with_reducible rfl)

theorem joinTasks_view (s : State) (hm : Sub 0x20000 hid) : (State.joinTasks s).view hid = s.view hid := by
  unfold State.joinTasks
  repeat' (first | assumption | intro _ | simp (disch := first | exact hide_on (Sub.of (by assumption) (by decide)) | with_reducible rfl | exact Sub.of (by assumption) (by decide) | assumption) only [modTask_view, view_lit, apply_ite (State.view hid), ite_self] | with_reducible apply foldl_keep | with_reducible apply foldl_keep2 | split | with_reducible rfl)

theorem enterStop_view (s : State) (old : Mode) (led : Bool) (known : Bool) (hm : Sub 0x3e004a08 hid) : (State.enterStop s old led known).view hid = s.view hid := by
  unfold State.enterStop
  repeat' (first | assumption | intro _ | simp (disch := first | exact hide_on (Sub.of (by assumption) (by decide)) | with_reducible rfl | exact Sub.of (by assumption) (by decide) | assumption) only [autoStart_view, calibrate_view, loadRegions_view, doFaultClear_view, m3Set_view, m3Eval_view, view_lit, apply_ite (State.view hid), ite_self] | with_reducible apply foldl_keep | with_reducible apply foldl_keep2 | split | with_reducible rfl)

theorem enterIdle_view (s : State) (hm : Sub 0x28000000 hid) : (s.enterIdle).view hid = s.view hid := by
  unfold State.enterIdle
  extract_lets s1
  have h1 : s1.view hid = s.view hid := by simp (disch := first | exact hide_on (Sub.of (by assumption) (by decide)) | with_reducible rfl | exact Sub.of (by assumption) (by decide) | assumption) only [s1, excOff_view, seqStop_view]
  split
  · exact h1
  · exact foldl_keep (fun t a => modSw_view _ _ _ (Sub.of hm (by decide))) h1
  · exact h1

theorem passLead_view (s : State) (led mastered owned : Bool) (cause : Nat) (hm : Sub 0x118000200 hid) : (State.passLead s led mastered owned cause).view hid = s.view hid := by
  unfold State.passLead
  extract_lets s1 s2
  have h1 : s1.view hid = s.view hid := ite_view (hartHandover_view _ _ (Sub.of hm (by decide))) rfl
  have h2 : s2.view hid = s.view hid := ite_view ((panelAbandon_view _ (Sub.of hm (by decide))).trans h1) h1
  exact ite_view ((excLead_view _ (Sub.of hm (by decide))).trans h2) h2

theorem tellMode_view (s : State) (old : Mode) : (State.tellMode s old).view hid = s.view hid := by
  unfold State.tellMode
  repeat' (first | assumption | intro _ | simp (disch := first | exact hide_on (Sub.of (by assumption) (by decide)) | with_reducible rfl | exact Sub.of (by assumption) (by decide) | assumption) only [raise_view, raiseMand_view, view_lit, apply_ite (State.view hid), ite_self] | split | with_reducible rfl)

theorem giveUp_view (s : State) (st : Status) (hm : Sub 0x200004208 hid) : (State.giveUp s st).view hid = s.view hid := by
  unfold State.giveUp
  repeat' (first | assumption | intro _ | simp (disch := first | exact hide_on (Sub.of (by assumption) (by decide)) | with_reducible rfl | exact Sub.of (by assumption) (by decide) | assumption) only [completeOpt_view, modPair_view, modMu_view, view_lit, apply_ite (State.view hid), ite_self] | split | with_reducible rfl)

theorem judgePending_view (s : State) (hm : Sub 0x200004208 hid) : (State.judgePending s).view hid = s.view hid := by
  unfold State.judgePending
  repeat' (first | assumption | intro _ | simp (disch := first | exact hide_on (Sub.of (by assumption) (by decide)) | with_reducible rfl | exact Sub.of (by assumption) (by decide) | assumption) only [giveUp_view, view_lit, apply_ite (State.view hid), ite_self] | split | with_reducible rfl)

theorem runAfresh_view (s : State) (streams : List (ℕ × ℕ)) (hm : Sub 0x30120000 hid) : (State.runAfresh s streams).view hid = s.view hid := by
  unfold State.runAfresh
  repeat' (first | assumption | intro _ | simp (disch := first | exact hide_on (Sub.of (by assumption) (by decide)) | with_reducible rfl | exact Sub.of (by assumption) (by decide) | assumption) only [outputsToFallback_view, loopsInit_view, startTasks_view, view_lit, apply_ite (State.view hid), ite_self] | split | with_reducible rfl)

theorem shareSettles_view (s : State) (hm : Sub 0x10000000 hid) : (State.shareSettles s).view hid = s.view hid := by
  unfold State.shareSettles
  repeat' (first | assumption | intro _ | simp (disch := first | exact hide_on (Sub.of (by assumption) (by decide)) | with_reducible rfl | exact Sub.of (by assumption) (by decide) | assumption) only [view_lit, apply_ite (State.view hid), ite_self] | split | with_reducible rfl)

theorem enterMode_view (s : State) (m : Mode) (r : Role) (command : Bool) (cause : Nat) (joins : Bool) (streams : List (Nat × Nat)) (hm : Sub 0x3febbeecc hid) :
    (s.enterMode m r command cause joins streams).view hid = s.view hid := by
  unfold State.enterMode
  extract_lets old oldRole led mastered owned frozen was s1 s2 s3 s4 s5 s6 s7 s8 s9 s10 s11 s12 s13 s14 s15 s16 s17 s18 s19 s20
  have hu : ∀ (t : State) f, (t.modMu f).view hid = t.view hid := fun t f => modMu_view _ _ (Sub.of hm (by decide))
  have h1 : s1.view hid = s.view hid := ite_view (injStopAll_view _ (Sub.of hm (by decide))) rfl
  have h2 : s2.view hid = s.view hid := ite_view ((loopsStop_view _ (Sub.of hm (by decide))).trans ((stopTasks_view _ (Sub.of hm (by decide))).trans h1)) h1
  have h3 : s3.view hid = s.view hid := ite_view ((trimReleaseAll_view _ (Sub.of hm (by decide))).trans h2) h2
  have h4 : s4.view hid = s.view hid := (supersede_view _ _ (Sub.of hm (by decide))).trans h3
  have h5 : s5.view hid = s.view hid := (hu _ _).trans h4
  have h6 : s6.view hid = s.view hid := ite_view h5 ((dropJoin_view _ (Sub.of hm (by decide))).trans h5)
  have h7 : s7.view hid = s.view hid := ite_view h6 ((hu _ _).trans h6)
  have h8 : s8.view hid = s.view hid := ite_view h7 ((modPair_view _ _ (Sub.of hm (by decide))).trans h7)
  have h9 : s9.view hid = s.view hid := ite_view ((runAfresh_view _ _ (Sub.of hm (by decide))).trans h8)
    (ite_view ((joinTasks_view _ (Sub.of hm (by decide))).trans h8) h8)
  have h10 : s10.view hid = s.view hid := ite_view h9 ((shareSettles_view _ (Sub.of hm (by decide))).trans h9)
  have h11 : s11.view hid = s.view hid := ite_view (foldl_keep (fun t a => disarmNear_view t a (Sub.of hm (by decide))) h10) h10
  have h12 : s12.view hid = s.view hid := ite_view ((canTake_view _ (Sub.of hm (by decide))).trans h11) h11
  have h13 : s13.view hid = s.view hid :=
    ite_view ((enterStop_view _ _ _ _ (Sub.of hm (by decide))).trans h12) (ite_view ((enterIdle_view _ (Sub.of hm (by decide))).trans h12) h12)
  have h14 : s14.view hid = s.view hid := ite_view (ite_view h13 ((excOff_view _ (Sub.of hm (by decide))).trans h13)) h13
  have h15 : s15.view hid = s.view hid := (freezeTold_view _ _).trans ((phaseReconfig_view _ _ _ (Sub.of hm (by decide))).trans h14)
  have h16 : s16.view hid = s.view hid := (canRefresh_view _ (Sub.of hm (by decide))).trans ((passLead_view _ _ _ _ _ (Sub.of hm (by decide))).trans h15)
  have h17 : s17.view hid = s.view hid := (resetSoak_view _ (Sub.of hm (by decide))).trans ((refreshForces_view _ (Sub.of hm (by decide))).trans h16)
  have h18 : s18.view hid = s.view hid := ite_view ((releaseAll_view _ (Sub.of hm (by decide))).trans h17) h17
  have h19 : s19.view hid = s.view hid := (raise_view _ _ _).trans h18
  have h20 : s20.view hid = s.view hid := ite_view h19 ((raise_view _ _ _).trans h19)
  exact (judgePending_view _ (Sub.of hm (by decide))).trans ((tellMode_view _ _).trans h20)

theorem enterRole_view (s : State) (r : Role) (cause : ℕ) (hm : Sub 0x198104208 hid) : (State.enterRole s r cause).view hid = s.view hid := by
  unfold State.enterRole
  repeat' (first | assumption | intro _ | simp (disch := first | exact hide_on (Sub.of (by assumption) (by decide)) | with_reducible rfl | exact Sub.of (by assumption) (by decide) | assumption) only [raise_view, resetSoak_view, canRefresh_view, injStopAll_view, modMu_view, passLead_view, view_lit, apply_ite (State.view hid), ite_self] | split | with_reducible rfl)

theorem synchronise_view (s : State) (hm : Sub 0x30004000 hid) : (State.synchronise s).view hid = s.view hid := by
  unfold State.synchronise
  repeat' (first | assumption | intro _ | simp (disch := first | exact hide_on (Sub.of (by assumption) (by decide)) | with_reducible rfl | exact Sub.of (by assumption) (by decide) | assumption) only [raise_view, modAo_view, modSw_view, modPair_view, resetSoak_view, view_lit, apply_ite (State.view hid), ite_self] | with_reducible apply foldl_keep | with_reducible apply foldl_keep2 | split | with_reducible rfl)

theorem swapRoles_view (s : State) (c : ModeChange) (hm : Sub 0x3febbeecc hid) : (State.swapRoles s c).view hid = s.view hid := by
  unfold State.swapRoles
  repeat' (first | assumption | intro _ | simp (disch := first | exact hide_on (Sub.of (by assumption) (by decide)) | with_reducible rfl | exact Sub.of (by assumption) (by decide) | assumption) only [raise_view, completeOpt_view, modPair_view, resync_view, enterMode_view, view_lit, apply_ite (State.view hid), ite_self] | split | with_reducible rfl)

theorem partnerEnters_view (s : State) (c : ModeChange) (hm : Sub 0x4000 hid) : (State.partnerEnters s c).view hid = s.view hid := by
  unfold State.partnerEnters
  repeat' (first | assumption | intro _ | simp (disch := first | exact hide_on (Sub.of (by assumption) (by decide)) | with_reducible rfl | exact Sub.of (by assumption) (by decide) | assumption) only [modPair_view, view_lit, apply_ite (State.view hid), ite_self] | split | with_reducible rfl)

theorem switchTo_view (s : State) (c : ModeChange) (hm : Sub 0x3febbeecc hid) : (State.switchTo s c).view hid = s.view hid := by
  unfold State.switchTo
  extract_lets s1 d alone s2 s3 s4 s5 s6 s7
  have hu : ∀ (t : State) f, (t.modMu f).view hid = t.view hid := fun t f => modMu_view _ _ (Sub.of hm (by decide))
  have h1 : s1.view hid = s.view hid := hu _ _
  have h2 : s2.view hid = s.view hid := ite_view ((partnerEnters_view _ _ (Sub.of hm (by decide))).trans h1) h1
  have h3 : s3.view hid = s.view hid := ite_view ((hu _ _).trans h2) h2
  have h4 : s4.view hid = s.view hid := ite_view ((hu _ _).trans h3) h3
  have h5 : s5.view hid = s.view hid := (enterMode_view _ _ _ _ _ _ _ (Sub.of hm (by decide))).trans h4
  have h6 : s6.view hid = s.view hid := ite_view ((synchronise_view _ (Sub.of hm (by decide))).trans h5)
    (ite_view (ite_view ((auto_view _ _ _ _ (Sub.of hm (by decide))).trans h5)
      ((resetSoak_view _ (Sub.of hm (by decide))).trans ((modPair_view _ _ (Sub.of hm (by decide))).trans h5))) h5)
  have h7 : s7.view hid = s.view hid := ite_view ((hu _ _).trans h6) h6
  exact ite_view ((swapRoles_view _ _ (Sub.of hm (by decide))).trans h1)
    (ite_view ((show _ = s7.view hid by simp (disch := first | exact hide_on (Sub.of (by assumption) (by decide)) | with_reducible rfl | exact Sub.of (by assumption) (by decide) | assumption) only [view_lit]).trans h7) ((completeOpt_view _ _ _ _ (Sub.of hm (by decide))).trans h7))

theorem propose_view (s : State) (m : Mode) (scopePair : Bool) (op : Option ℕ) (hm : Sub 0x8 hid) : (State.propose s m scopePair op).view hid = s.view hid := by
  unfold State.propose
  repeat' (first | assumption | intro _ | simp (disch := first | exact hide_on (Sub.of (by assumption) (by decide)) | with_reducible rfl | exact Sub.of (by assumption) (by decide) | assumption) only [announce_view, modMu_view, m3Tell_view, view_lit, apply_ite (State.view hid), ite_self] | split | with_reducible rfl)

theorem sendAccession_view (s : State) (asks : Bool) : (State.sendAccession s asks).view hid = s.view hid := by
  unfold State.sendAccession
  repeat' (first | assumption | intro _ | simp (disch := first | exact hide_on (Sub.of (by assumption) (by decide)) | with_reducible rfl | exact Sub.of (by assumption) (by decide) | assumption) only [lane_view, view_lit, apply_ite (State.view hid), ite_self] | split | with_reducible rfl)

theorem askJoin_view (s : State) (op : Option ℕ) (hm : Sub 0x4008 hid) : (State.askJoin s op).view hid = s.view hid := by
  unfold State.askJoin
  repeat' (first | assumption | intro _ | simp (disch := first | exact hide_on (Sub.of (by assumption) (by decide)) | with_reducible rfl | exact Sub.of (by assumption) (by decide) | assumption) only [modPair_view, modMu_view, sendAccession_view, view_lit, apply_ite (State.view hid), ite_self] | split | with_reducible rfl)

theorem askRun_view (s : State) (scopePair : Bool) (op : Option ℕ) (hm : Sub 0x4008 hid) : (State.askRun s scopePair op).view hid = s.view hid := by
  unfold State.askRun
  repeat' (first | assumption | intro _ | simp (disch := first | exact hide_on (Sub.of (by assumption) (by decide)) | with_reducible rfl | exact Sub.of (by assumption) (by decide) | assumption) only [announce_view, modMu_view, askJoin_view, view_lit, apply_ite (State.view hid), ite_self] | split | with_reducible rfl)

theorem setMode_view (s : State) (m : Mode) (scopePair : Bool) (op : Option ℕ) (hm : Sub 0x4008 hid) : (State.setMode s m scopePair op).view hid = s.view hid := by
  unfold State.setMode
  repeat' (first | assumption | intro _ | simp (disch := first | exact hide_on (Sub.of (by assumption) (by decide)) | with_reducible rfl | exact Sub.of (by assumption) (by decide) | assumption) only [propose_view, askJoin_view, askRun_view, view_lit, apply_ite (State.view hid), ite_self] | split | with_reducible rfl)

theorem askSwap_view (s : State) (cause : ℕ) (op : Option ℕ) (hm : Sub 0x4008 hid) : (State.askSwap s cause op).view hid = s.view hid := by
  unfold State.askSwap
  repeat' (first | assumption | intro _ | simp (disch := first | exact hide_on (Sub.of (by assumption) (by decide)) | with_reducible rfl | exact Sub.of (by assumption) (by decide) | assumption) only [modPair_view, announce_view, modMu_view, view_lit, apply_ite (State.view hid), ite_self] | split | with_reducible rfl)

theorem applyConfig_view (s : State) (hm : Sub 0x607b2860 hid) : (State.applyConfig s).view hid = s.view hid := by
  unfold State.applyConfig
  repeat' (first | assumption | intro _ | simp (disch := first | exact hide_on (Sub.of (by assumption) (by decide)) | with_reducible rfl | exact Sub.of (by assumption) (by decide) | assumption) only [refreshForces_view, applyLive_view, applyCommit_view, applyDiscard_view, view_lit, apply_ite (State.view hid), ite_self] | split | with_reducible rfl)

theorem resumeNow_view (s : State) (hm : Sub 0x24000 hid) : (State.resumeNow s).view hid = s.view hid := by
  unfold State.resumeNow
  repeat' (first | assumption | intro _ | simp (disch := first | exact hide_on (Sub.of (by assumption) (by decide)) | with_reducible rfl | exact Sub.of (by assumption) (by decide) | assumption) only [modTask_view, modPair_view, resetSoak_view, resync_view, view_lit, apply_ite (State.view hid), ite_self] | with_reducible apply foldl_keep | with_reducible apply foldl_keep2 | split | with_reducible rfl)

theorem switchRefuses_view (s : State) (c : ModeChange) (hm : Sub 0x4208 hid) : (State.switchRefuses s c).view hid = s.view hid := by
  unfold State.switchRefuses
  repeat' (first | assumption | intro _ | simp (disch := first | exact hide_on (Sub.of (by assumption) (by decide)) | with_reducible rfl | exact Sub.of (by assumption) (by decide) | assumption) only [completeOpt_view, modPair_view, modMu_view, view_lit, apply_ite (State.view hid), ite_self] | split | with_reducible rfl)

theorem switchInstant_view (s : State) (hm : Sub 0x3fefbeeec hid) : (State.switchInstant s).view hid = s.view hid := by
  unfold State.switchInstant
  repeat' (first | assumption | intro _ | simp (disch := first | exact hide_on (Sub.of (by assumption) (by decide)) | with_reducible rfl | exact Sub.of (by assumption) (by decide) | assumption) only [modMu_view, switchTo_view, applyConfig_view, switchRefuses_view, view_lit, apply_ite (State.view hid), ite_self] | split | with_reducible rfl)

theorem startMode_view (s : State) (hm : Sub 0x4008 hid) : (State.startMode s).view hid = s.view hid := by
  unfold State.startMode
  repeat' (first | assumption | intro _ | simp (disch := first | exact hide_on (Sub.of (by assumption) (by decide)) | with_reducible rfl | exact Sub.of (by assumption) (by decide) | assumption) only [askRun_view, view_lit, apply_ite (State.view hid), ite_self] | split | with_reducible rfl)

theorem autoSwitch_view (s : State) (hm : Sub 0x7fffffeec hid) : (State.autoSwitch s).view hid = s.view hid := by
  unfold State.autoSwitch
  repeat' (first | assumption | intro _ | simp (disch := first | exact hide_on (Sub.of (by assumption) (by decide)) | with_reducible rfl | exact Sub.of (by assumption) (by decide) | assumption) only [auto_view, restartNow_view, modMu_view, enterMode_view, startMode_view, view_lit, apply_ite (State.view hid), ite_self] | split | with_reducible rfl)

theorem flagSwap_view (s : State) (hm : Sub 0x4008 hid) : (State.flagSwap s).view hid = s.view hid := by
  unfold State.flagSwap
  repeat' (first | assumption | intro _ | simp (disch := first | exact hide_on (Sub.of (by assumption) (by decide)) | with_reducible rfl | exact Sub.of (by assumption) (by decide) | assumption) only [askSwap_view, view_lit, apply_ite (State.view hid), ite_self] | split | with_reducible rfl)

theorem pairFrame_view (s : State) (hm : Sub 0x4000 hid) : (State.pairFrame s).view hid = s.view hid := by
  unfold State.pairFrame
  repeat' (first | assumption | intro _ | simp (disch := first | exact hide_on (Sub.of (by assumption) (by decide)) | with_reducible rfl | exact Sub.of (by assumption) (by decide) | assumption) only [modPair_view, view_lit, apply_ite (State.view hid), ite_self] | split | with_reducible rfl)

theorem sendStatus_view (s : State) : (State.sendStatus s).view hid = s.view hid := by
  unfold State.sendStatus
  repeat' (first | assumption | intro _ | simp (disch := first | exact hide_on (Sub.of (by assumption) (by decide)) | with_reducible rfl | exact Sub.of (by assumption) (by decide) | assumption) only [lane_view, view_lit, apply_ite (State.view hid), ite_self] | split | with_reducible rfl)

theorem frameBoundary_view (s : State) (rb : ℕ) (hm : Sub 0x7fffffeec hid) : (State.frameBoundary s rb).view hid = s.view hid := by
  unfold State.frameBoundary
  repeat' (first | assumption | intro _ | simp (disch := first | exact hide_on (Sub.of (by assumption) (by decide)) | with_reducible rfl | exact Sub.of (by assumption) (by decide) | assumption) only [seqKick_view, phasePublish_view, sendSupervision_view, canDrain_view, drainFifos_view, dioFrame_view, stApply_view, switchAtFrame_view, aoPublish_view, hartRefresh_view, applyConfig_view, autoSwitch_view, flagSwap_view, pairFrame_view, sendStatus_view, view_lit, apply_ite (State.view hid), ite_self] | with_reducible apply foldl_keep | with_reducible apply foldl_keep2 | split | with_reducible rfl)

theorem modLane_view (s : State) (l : ℕ) (f : Lane → Lane) (hm : Sub 0x4000 hid) : (State.modLane s l f).view hid = s.view hid := by
  unfold State.modLane
  repeat' (first | assumption | intro _ | simp (disch := first | exact hide_on (Sub.of (by assumption) (by decide)) | with_reducible rfl | exact Sub.of (by assumption) (by decide) | assumption) only [modPair_view, view_lit, apply_ite (State.view hid), ite_self] | split | with_reducible rfl)

theorem laneIn_view (s : State) (hh : LaneHdr) (hm : Sub 0x4000 hid) : (State.laneIn s hh).2.view hid = s.view hid := by
  unfold State.laneIn
  repeat' (first | assumption | intro _ | simp (disch := first | exact hide_on (Sub.of (by assumption) (by decide)) | with_reducible rfl | exact Sub.of (by assumption) (by decide) | assumption) only [lane_view, modPair_view, modLane_view, view_lit, apply_ite (State.view hid), ite_self] | split | with_reducible rfl)
theorem laneIn_view' {s : State} {hh : LaneHdr} {aa : _} {tt : State} (hm : Sub 0x4000 hid) (h : (State.laneIn s hh) = (aa, tt)) : tt.view hid = s.view hid := by
  have := laneIn_view (hid := hid) s hh hm
  rwa [h] at this

theorem runAwaited_view (s : State) (hm : Sub 0x7813e208 hid) : (State.runAwaited s).view hid = s.view hid := by
  unfold State.runAwaited
  repeat' (first | assumption | intro _ | simp (disch := first | exact hide_on (Sub.of (by assumption) (by decide)) | with_reducible rfl | exact Sub.of (by assumption) (by decide) | assumption) only [leadStart_view, view_lit, apply_ite (State.view hid), ite_self] | with_reducible apply foldl_keep | with_reducible apply foldl_keep2 | split | with_reducible rfl)

theorem declareGone_view (s : State) (hm : Sub 0x3f893e208 hid) : (State.declareGone s).view hid = s.view hid := by
  unfold State.declareGone
  repeat' (first | assumption | intro _ | simp (disch := first | exact hide_on (Sub.of (by assumption) (by decide)) | with_reducible rfl | exact Sub.of (by assumption) (by decide) | assumption) only [raise_view, raiseShares_view, modPair_view, auto_view, joinFails_view, resync_view, canRefresh_view, releaseAll_view, forcedDetach_view, modMu_view, passLead_view, giveUp_view, runAwaited_view, view_lit, apply_ite (State.view hid), ite_self] | split | with_reducible rfl)

theorem relaysLost_view (s : State) (hm : Sub 0x200000480 hid) : (State.relaysLost s).view hid = s.view hid := by
  unfold State.relaysLost
  repeat' (first | assumption | intro _ | simp (disch := first | exact hide_on (Sub.of (by assumption) (by decide)) | with_reducible rfl | exact Sub.of (by assumption) (by decide) | assumption) only [answerRelay_view, view_lit, apply_ite (State.view hid), ite_self] | with_reducible apply foldl_keep | with_reducible apply foldl_keep2 | split | with_reducible rfl)

theorem isolationF1_view (s : State) (f1 : ℕ) (hm : Sub 0x3febbeecc hid) : (State.isolationF1 s f1).view hid = s.view hid := by
  unfold State.isolationF1
  repeat' (first | assumption | intro _ | simp (disch := first | exact hide_on (Sub.of (by assumption) (by decide)) | with_reducible rfl | exact Sub.of (by assumption) (by decide) | assumption) only [raise_view, raiseShares_view, modPair_view, resync_view, excOff_view, releaseAll_view, giveUp_view, enterMode_view, enterRole_view, runAwaited_view, view_lit, apply_ite (State.view hid), ite_self] | split | with_reducible rfl)

theorem departureF_view (s : State) (d : Departure) (hm : Sub 0x7fffffeec hid) : (State.departureF s d).view hid = s.view hid := by
  unfold State.departureF
  extract_lets s1 s2 src s3 s4 s5
  have h1 : s1.view hid = s.view hid := modPair_view _ _ (Sub.of hm (by decide))
  have h2 : s2.view hid = s.view hid := (modPair_view _ _ (Sub.of hm (by decide))).trans h1
  have h3 : s3.view hid = s.view hid := (show s3.view hid = s2.view hid by simp (disch := first | exact hide_on (Sub.of (by assumption) (by decide)) | with_reducible rfl | exact Sub.of (by assumption) (by decide) | assumption) only [s3, loopsStop_view, stopTasks_view, view_lit]).trans h2
  have h4 : s4.view hid = s.view hid := (show s4.view hid = s3.view hid by simp (disch := first | exact hide_on (Sub.of (by assumption) (by decide)) | with_reducible rfl | exact Sub.of (by assumption) (by decide) | assumption) only [s4, excOff_view, modPair_view]).trans h3
  have h5 : s5.view hid = s.view hid := ite_view h4 ((enterRole_view _ _ _ (Sub.of hm (by decide))).trans h4)
  refine ite_view (ite_view h2 ?_) ?_
  · split
    · exact (auto_view _ _ _ _ (Sub.of hm (by decide))).trans h5
    · exact (restartNow_view _ (Sub.of hm (by decide))).trans h5
    · exact ite_view ((show _ = s5.view hid by simp (disch := first | exact hide_on (Sub.of (by assumption) (by decide)) | with_reducible rfl | exact Sub.of (by assumption) (by decide) | assumption) only [enterM0_view, finalSave_view]).trans h5)
        ((beginSave_view _ (Sub.of hm (by decide))).trans h5)
  · exact (show _ = s1.view hid by simp (disch := first | exact hide_on (Sub.of (by assumption) (by decide)) | with_reducible rfl | exact Sub.of (by assumption) (by decide) | assumption) only [enterMode_view, modPair_view]).trans h1

theorem digestIn_view (s : State) (f : DigestIn) (hm : Sub 0xf013c208 hid) : (State.digestIn s f).view hid = s.view hid := by
  unfold State.digestIn
  repeat' (first | assumption | intro _ | simp (disch := first | exact hide_on (Sub.of (by assumption) (by decide)) | with_reducible rfl | exact Sub.of (by assumption) (by decide) | assumption) only [modTask_view, modSw_view, mirror_view, digestDiffers_view, tryRelease_view, view_lit, apply_ite (State.view hid), ite_self] | with_reducible apply foldl_keep | with_reducible apply foldl_keep2 | split | with_reducible rfl)

theorem nextWindow_view (s : State) (u : ℕ) (hm : Sub 0x800000 hid) : (State.nextWindow s u).view hid = s.view hid := by
  unfold State.nextWindow
  repeat' (first | assumption | intro _ | simp (disch := first | exact hide_on (Sub.of (by assumption) (by decide)) | with_reducible rfl | exact Sub.of (by assumption) (by decide) | assumption) only [view_lit, apply_ite (State.view hid), ite_self] | split | with_reducible rfl)

theorem confirm_view (s : State) (at_ : ℕ) (l : List (ℕ × ℕ)) : (State.confirm s at_ l).view hid = s.view hid := by
  unfold State.confirm
  repeat' (first | assumption | intro _ | simp (disch := first | exact hide_on (Sub.of (by assumption) (by decide)) | with_reducible rfl | exact Sub.of (by assumption) (by decide) | assumption) only [announce_view, view_lit, apply_ite (State.view hid), ite_self] | split | with_reducible rfl)

theorem refuseSwitch_view (s : State) (at_ : ℕ) : (State.refuseSwitch s at_).view hid = s.view hid := by
  unfold State.refuseSwitch
  repeat' (first | assumption | intro _ | simp (disch := first | exact hide_on (Sub.of (by assumption) (by decide)) | with_reducible rfl | exact Sub.of (by assumption) (by decide) | assumption) only [announce_view, view_lit, apply_ite (State.view hid), ite_self] | split | with_reducible rfl)

theorem grant_view (s : State) (asked : ℕ) (c : ModeChange) (hm : Sub 0x8 hid) : (State.grant s asked c).view hid = s.view hid := by
  unfold State.grant
  repeat' (first | assumption | intro _ | simp (disch := first | exact hide_on (Sub.of (by assumption) (by decide)) | with_reducible rfl | exact Sub.of (by assumption) (by decide) | assumption) only [announce_view, modMu_view, view_lit, apply_ite (State.view hid), ite_self] | split | with_reducible rfl)

theorem switchFrame_view (s : State) (a : SwitchIn) (hm : Sub 0x200004208 hid) : (State.switchFrame s a).view hid = s.view hid := by
  unfold State.switchFrame
  repeat' (first | assumption | intro _ | simp (disch := first | exact hide_on (Sub.of (by assumption) (by decide)) | with_reducible rfl | exact Sub.of (by assumption) (by decide) | assumption) only [completeOpt_view, modPair_view, joinFails_view, resync_view, modMu_view, m3Told_view, switchRefuses_view, confirm_view, refuseSwitch_view, grant_view, view_lit, apply_ite (State.view hid), ite_self] | split | with_reducible rfl)

theorem relayScheduled_view (s : State) (c : RelayIn) (hm : Sub 0x3fc7b2ee4 hid) : (State.relayScheduled s c).view hid = s.view hid := by
  unfold State.relayScheduled
  repeat' (first | assumption | intro _ | refine (startOp_view' (Sub.of (by assumption) (by decide)) (by assumption)).trans ?_ | simp (disch := first | exact hide_on (Sub.of (by assumption) (by decide)) | with_reducible rfl | exact Sub.of (by assumption) (by decide) | assumption) only [complete_view, announce_view, startOp_view, answerRelay_view, view_lit, apply_ite (State.view hid), ite_self] | split | with_reducible rfl)

theorem relayOutcome_view (s : State) (c : RelayIn) (st : Status) (arg : ℕ) : (State.relayOutcome s c st arg).view hid = s.view hid := by
  unfold State.relayOutcome
  repeat' (first | assumption | intro _ | simp (disch := first | exact hide_on (Sub.of (by assumption) (by decide)) | with_reducible rfl | exact Sub.of (by assumption) (by decide) | assumption) only [announce_view, view_lit, apply_ite (State.view hid), ite_self] | split | with_reducible rfl)

theorem alarmAckCmd_keeps  (hm : Sub 0x600600 hid) : KeepsCmd hid alarmAckCmd where
  run := by
    unfold alarmAckCmd
    simp only [Cmd.plain]
    repeat' (first | assumption | intro _ | refine (alAck_view' (Sub.of (by assumption) (by decide)) (by assumption)).trans ?_ | refine (startOp_view' (Sub.of (by assumption) (by decide)) (by assumption)).trans ?_ | simp (disch := first | exact hide_on (Sub.of (by assumption) (by decide)) | with_reducible rfl | exact Sub.of (by assumption) (by decide) | assumption) only [alAck_view, alWaits_view, startOp_view, okRep, refuse, runAsync, id, view_lit, apply_ite (State.view hid), ite_self] | exact Sub.of (by assumption) (by decide) | with_reducible apply completing_view | with_reducible apply foldl_keep | with_reducible apply foldl_keep2 | split | with_reducible rfl)
  after := by
    unfold alarmAckCmd
    simp only [Cmd.plain]
    repeat' (first | assumption | intro _ | refine (alAck_view' (Sub.of (by assumption) (by decide)) (by assumption)).trans ?_ | refine (startOp_view' (Sub.of (by assumption) (by decide)) (by assumption)).trans ?_ | simp (disch := first | exact hide_on (Sub.of (by assumption) (by decide)) | with_reducible rfl | exact Sub.of (by assumption) (by decide) | assumption) only [alAck_view, alWaits_view, startOp_view, okRep, refuse, runAsync, id, view_lit, apply_ite (State.view hid), ite_self] | exact Sub.of (by assumption) (by decide) | with_reducible apply completing_view | with_reducible apply foldl_keep | with_reducible apply foldl_keep2 | split | with_reducible rfl)
  apply := by
    unfold alarmAckCmd
    simp only [Cmd.plain]
    repeat' (first | assumption | intro _ | refine (alAck_view' (Sub.of (by assumption) (by decide)) (by assumption)).trans ?_ | refine (startOp_view' (Sub.of (by assumption) (by decide)) (by assumption)).trans ?_ | simp (disch := first | exact hide_on (Sub.of (by assumption) (by decide)) | with_reducible rfl | exact Sub.of (by assumption) (by decide) | assumption) only [alAck_view, alWaits_view, startOp_view, okRep, refuse, runAsync, id, view_lit, apply_ite (State.view hid), ite_self] | exact Sub.of (by assumption) (by decide) | with_reducible apply completing_view | with_reducible apply foldl_keep | with_reducible apply foldl_keep2 | split | with_reducible rfl)
  accept := by
    intro f hf
    first
    | (simp only [alarmAckCmd, Cmd.plain, reduceCtorEq] at hf; done)
    | (simp only [alarmAckCmd, Cmd.plain, alAccept, Option.some.injEq] at hf
       subst hf
       repeat' (first | assumption | intro _ | refine (alAck_view' (Sub.of (by assumption) (by decide)) (by assumption)).trans ?_ | refine (startOp_view' (Sub.of (by assumption) (by decide)) (by assumption)).trans ?_ | simp (disch := first | exact hide_on (Sub.of (by assumption) (by decide)) | with_reducible rfl | exact Sub.of (by assumption) (by decide) | assumption) only [alAck_view, alWaits_view, startOp_view, okRep, refuse, runAsync, id, view_lit, apply_ite (State.view hid), ite_self] | exact Sub.of (by assumption) (by decide) | with_reducible apply completing_view | with_reducible apply foldl_keep | with_reducible apply foldl_keep2 | split | with_reducible rfl))

theorem alarmShelveCmd_keeps  (hm : Sub 0x600600 hid) : KeepsCmd hid alarmShelveCmd where
  run := by
    unfold alarmShelveCmd
    simp only [Cmd.plain]
    repeat' (first | assumption | intro _ | refine (startOp_view' (Sub.of (by assumption) (by decide)) (by assumption)).trans ?_ | simp (disch := first | exact hide_on (Sub.of (by assumption) (by decide)) | with_reducible rfl | exact Sub.of (by assumption) (by decide) | assumption) only [alShelveAll_view, alWaits_view, startOp_view, okRep, refuse, runAsync, id, view_lit, apply_ite (State.view hid), ite_self] | exact Sub.of (by assumption) (by decide) | with_reducible apply completing_view | with_reducible apply foldl_keep | with_reducible apply foldl_keep2 | split | with_reducible rfl)
  after := by
    unfold alarmShelveCmd
    simp only [Cmd.plain]
    repeat' (first | assumption | intro _ | refine (startOp_view' (Sub.of (by assumption) (by decide)) (by assumption)).trans ?_ | simp (disch := first | exact hide_on (Sub.of (by assumption) (by decide)) | with_reducible rfl | exact Sub.of (by assumption) (by decide) | assumption) only [alShelveAll_view, alWaits_view, startOp_view, okRep, refuse, runAsync, id, view_lit, apply_ite (State.view hid), ite_self] | exact Sub.of (by assumption) (by decide) | with_reducible apply completing_view | with_reducible apply foldl_keep | with_reducible apply foldl_keep2 | split | with_reducible rfl)
  apply := by
    unfold alarmShelveCmd
    simp only [Cmd.plain]
    repeat' (first | assumption | intro _ | refine (startOp_view' (Sub.of (by assumption) (by decide)) (by assumption)).trans ?_ | simp (disch := first | exact hide_on (Sub.of (by assumption) (by decide)) | with_reducible rfl | exact Sub.of (by assumption) (by decide) | assumption) only [alShelveAll_view, alWaits_view, startOp_view, okRep, refuse, runAsync, id, view_lit, apply_ite (State.view hid), ite_self] | exact Sub.of (by assumption) (by decide) | with_reducible apply completing_view | with_reducible apply foldl_keep | with_reducible apply foldl_keep2 | split | with_reducible rfl)
  accept := by
    intro f hf
    first
    | (simp only [alarmShelveCmd, Cmd.plain, reduceCtorEq] at hf; done)
    | (simp only [alarmShelveCmd, Cmd.plain, alAccept, Option.some.injEq] at hf
       subst hf
       repeat' (first | assumption | intro _ | refine (startOp_view' (Sub.of (by assumption) (by decide)) (by assumption)).trans ?_ | simp (disch := first | exact hide_on (Sub.of (by assumption) (by decide)) | with_reducible rfl | exact Sub.of (by assumption) (by decide) | assumption) only [alShelveAll_view, alWaits_view, startOp_view, okRep, refuse, runAsync, id, view_lit, apply_ite (State.view hid), ite_self] | exact Sub.of (by assumption) (by decide) | with_reducible apply completing_view | with_reducible apply foldl_keep | with_reducible apply foldl_keep2 | split | with_reducible rfl))

theorem ladderAckCmd_keeps  (hm : Sub 0x20200600 hid) : KeepsCmd hid ladderAckCmd where
  run := by
    unfold ladderAckCmd
    simp only [Cmd.plain]
    repeat' (first | assumption | intro _ | refine (startOp_view' (Sub.of (by assumption) (by decide)) (by assumption)).trans ?_ | simp (disch := first | exact hide_on (Sub.of (by assumption) (by decide)) | with_reducible rfl | exact Sub.of (by assumption) (by decide) | assumption) only [ladderAckCmd_view, alWaits_view, startOp_view, okRep, refuse, runAsync, id, view_lit, apply_ite (State.view hid), ite_self] | exact Sub.of (by assumption) (by decide) | with_reducible apply completing_view | with_reducible apply foldl_keep | with_reducible apply foldl_keep2 | split | with_reducible rfl)
  after := by
    unfold ladderAckCmd
    simp only [Cmd.plain]
    repeat' (first | assumption | intro _ | refine (startOp_view' (Sub.of (by assumption) (by decide)) (by assumption)).trans ?_ | simp (disch := first | exact hide_on (Sub.of (by assumption) (by decide)) | with_reducible rfl | exact Sub.of (by assumption) (by decide) | assumption) only [ladderAckCmd_view, alWaits_view, startOp_view, okRep, refuse, runAsync, id, view_lit, apply_ite (State.view hid), ite_self] | exact Sub.of (by assumption) (by decide) | with_reducible apply completing_view | with_reducible apply foldl_keep | with_reducible apply foldl_keep2 | split | with_reducible rfl)
  apply := by
    unfold ladderAckCmd
    simp only [Cmd.plain]
    repeat' (first | assumption | intro _ | refine (startOp_view' (Sub.of (by assumption) (by decide)) (by assumption)).trans ?_ | simp (disch := first | exact hide_on (Sub.of (by assumption) (by decide)) | with_reducible rfl | exact Sub.of (by assumption) (by decide) | assumption) only [ladderAckCmd_view, alWaits_view, startOp_view, okRep, refuse, runAsync, id, view_lit, apply_ite (State.view hid), ite_self] | exact Sub.of (by assumption) (by decide) | with_reducible apply completing_view | with_reducible apply foldl_keep | with_reducible apply foldl_keep2 | split | with_reducible rfl)
  accept := by
    intro f hf
    first
    | (simp only [ladderAckCmd, Cmd.plain, reduceCtorEq] at hf; done)
    | (simp only [ladderAckCmd, Cmd.plain, alAccept, Option.some.injEq] at hf
       subst hf
       repeat' (first | assumption | intro _ | refine (startOp_view' (Sub.of (by assumption) (by decide)) (by assumption)).trans ?_ | simp (disch := first | exact hide_on (Sub.of (by assumption) (by decide)) | with_reducible rfl | exact Sub.of (by assumption) (by decide) | assumption) only [ladderAckCmd_view, alWaits_view, startOp_view, okRep, refuse, runAsync, id, view_lit, apply_ite (State.view hid), ite_self] | exact Sub.of (by assumption) (by decide) | with_reducible apply completing_view | with_reducible apply foldl_keep | with_reducible apply foldl_keep2 | split | with_reducible rfl))

theorem paramWriteCmd_keeps  (hm : Sub 0x2c200660 hid) : KeepsCmd hid paramWriteCmd where
  run := by
    unfold paramWriteCmd
    simp only [Cmd.plain]
    repeat' (first | assumption | intro _ | refine (startOp_view' (Sub.of (by assumption) (by decide)) (by assumption)).trans ?_ | simp (disch := first | exact hide_on (Sub.of (by assumption) (by decide)) | with_reducible rfl | exact Sub.of (by assumption) (by decide) | assumption) only [schedulePair_view, writeParams_view, paramWriteApply_view, alWaits_view, startOp_view, okRep, refuse, runAsync, id, view_lit, apply_ite (State.view hid), ite_self] | exact Sub.of (by assumption) (by decide) | with_reducible apply completing_view | with_reducible apply foldl_keep | with_reducible apply foldl_keep2 | split | with_reducible rfl)
  after := by
    unfold paramWriteCmd
    simp only [Cmd.plain]
    repeat' (first | assumption | intro _ | refine (startOp_view' (Sub.of (by assumption) (by decide)) (by assumption)).trans ?_ | simp (disch := first | exact hide_on (Sub.of (by assumption) (by decide)) | with_reducible rfl | exact Sub.of (by assumption) (by decide) | assumption) only [schedulePair_view, writeParams_view, paramWriteApply_view, alWaits_view, startOp_view, okRep, refuse, runAsync, id, view_lit, apply_ite (State.view hid), ite_self] | exact Sub.of (by assumption) (by decide) | with_reducible apply completing_view | with_reducible apply foldl_keep | with_reducible apply foldl_keep2 | split | with_reducible rfl)
  apply := by
    unfold paramWriteCmd
    simp only [Cmd.plain]
    repeat' (first | assumption | intro _ | refine (startOp_view' (Sub.of (by assumption) (by decide)) (by assumption)).trans ?_ | simp (disch := first | exact hide_on (Sub.of (by assumption) (by decide)) | with_reducible rfl | exact Sub.of (by assumption) (by decide) | assumption) only [schedulePair_view, writeParams_view, paramWriteApply_view, alWaits_view, startOp_view, okRep, refuse, runAsync, id, view_lit, apply_ite (State.view hid), ite_self] | exact Sub.of (by assumption) (by decide) | with_reducible apply completing_view | with_reducible apply foldl_keep | with_reducible apply foldl_keep2 | split | with_reducible rfl)
  accept := by
    intro f hf
    first
    | (simp only [paramWriteCmd, Cmd.plain, reduceCtorEq] at hf; done)
    | (simp only [paramWriteCmd, Cmd.plain, alAccept, Option.some.injEq] at hf
       subst hf
       repeat' (first | assumption | intro _ | refine (startOp_view' (Sub.of (by assumption) (by decide)) (by assumption)).trans ?_ | simp (disch := first | exact hide_on (Sub.of (by assumption) (by decide)) | with_reducible rfl | exact Sub.of (by assumption) (by decide) | assumption) only [schedulePair_view, writeParams_view, paramWriteApply_view, alWaits_view, startOp_view, okRep, refuse, runAsync, id, view_lit, apply_ite (State.view hid), ite_self] | exact Sub.of (by assumption) (by decide) | with_reducible apply completing_view | with_reducible apply foldl_keep | with_reducible apply foldl_keep2 | split | with_reducible rfl))

theorem tableWriteCmd_keeps  (hm : Sub 0x780e60 hid) : KeepsCmd hid tableWriteCmd where
  run := by
    unfold tableWriteCmd
    simp only [Cmd.plain]
    repeat' (first | assumption | intro _ | refine (startOp_view' (Sub.of (by assumption) (by decide)) (by assumption)).trans ?_ | simp (disch := first | exact hide_on (Sub.of (by assumption) (by decide)) | with_reducible rfl | exact Sub.of (by assumption) (by decide) | assumption) only [schedulePair_view, tableWriteApply_view, writeTable_view, alWaits_view, startOp_view, okRep, refuse, runAsync, id, view_lit, apply_ite (State.view hid), ite_self] | exact Sub.of (by assumption) (by decide) | with_reducible apply completing_view | with_reducible apply foldl_keep | with_reducible apply foldl_keep2 | split | with_reducible rfl)
  after := by
    unfold tableWriteCmd
    simp only [Cmd.plain]
    repeat' (first | assumption | intro _ | refine (startOp_view' (Sub.of (by assumption) (by decide)) (by assumption)).trans ?_ | simp (disch := first | exact hide_on (Sub.of (by assumption) (by decide)) | with_reducible rfl | exact Sub.of (by assumption) (by decide) | assumption) only [schedulePair_view, tableWriteApply_view, writeTable_view, alWaits_view, startOp_view, okRep, refuse, runAsync, id, view_lit, apply_ite (State.view hid), ite_self] | exact Sub.of (by assumption) (by decide) | with_reducible apply completing_view | with_reducible apply foldl_keep | with_reducible apply foldl_keep2 | split | with_reducible rfl)
  apply := by
    unfold tableWriteCmd
    simp only [Cmd.plain]
    repeat' (first | assumption | intro _ | refine (startOp_view' (Sub.of (by assumption) (by decide)) (by assumption)).trans ?_ | simp (disch := first | exact hide_on (Sub.of (by assumption) (by decide)) | with_reducible rfl | exact Sub.of (by assumption) (by decide) | assumption) only [schedulePair_view, tableWriteApply_view, writeTable_view, alWaits_view, startOp_view, okRep, refuse, runAsync, id, view_lit, apply_ite (State.view hid), ite_self] | exact Sub.of (by assumption) (by decide) | with_reducible apply completing_view | with_reducible apply foldl_keep | with_reducible apply foldl_keep2 | split | with_reducible rfl)
  accept := by
    intro f hf
    first
    | (simp only [tableWriteCmd, Cmd.plain, reduceCtorEq] at hf; done)
    | (simp only [tableWriteCmd, Cmd.plain, alAccept, Option.some.injEq] at hf
       subst hf
       repeat' (first | assumption | intro _ | refine (startOp_view' (Sub.of (by assumption) (by decide)) (by assumption)).trans ?_ | simp (disch := first | exact hide_on (Sub.of (by assumption) (by decide)) | with_reducible rfl | exact Sub.of (by assumption) (by decide) | assumption) only [schedulePair_view, tableWriteApply_view, writeTable_view, alWaits_view, startOp_view, okRep, refuse, runAsync, id, view_lit, apply_ite (State.view hid), ite_self] | exact Sub.of (by assumption) (by decide) | with_reducible apply completing_view | with_reducible apply foldl_keep | with_reducible apply foldl_keep2 | split | with_reducible rfl))

theorem commitConfigCmd_keeps  (hm : Sub 0x240 hid) : KeepsCmd hid commitConfigCmd where
  run := by
    unfold commitConfigCmd
    simp only [Cmd.plain]
    repeat' (first | assumption | intro _ | refine (startOp_view' (Sub.of (by assumption) (by decide)) (by assumption)).trans ?_ | simp (disch := first | exact hide_on (Sub.of (by assumption) (by decide)) | with_reducible rfl | exact Sub.of (by assumption) (by decide) | assumption) only [commitApply_view, startOp_view, okRep, refuse, runAsync, id, view_lit, apply_ite (State.view hid), ite_self] | exact Sub.of (by assumption) (by decide) | with_reducible apply completing_view | with_reducible apply foldl_keep | with_reducible apply foldl_keep2 | split | with_reducible rfl)
  after := by
    unfold commitConfigCmd
    simp only [Cmd.plain]
    repeat' (first | assumption | intro _ | refine (startOp_view' (Sub.of (by assumption) (by decide)) (by assumption)).trans ?_ | simp (disch := first | exact hide_on (Sub.of (by assumption) (by decide)) | with_reducible rfl | exact Sub.of (by assumption) (by decide) | assumption) only [commitApply_view, startOp_view, okRep, refuse, runAsync, id, view_lit, apply_ite (State.view hid), ite_self] | exact Sub.of (by assumption) (by decide) | with_reducible apply completing_view | with_reducible apply foldl_keep | with_reducible apply foldl_keep2 | split | with_reducible rfl)
  apply := by
    unfold commitConfigCmd
    simp only [Cmd.plain]
    repeat' (first | assumption | intro _ | refine (startOp_view' (Sub.of (by assumption) (by decide)) (by assumption)).trans ?_ | simp (disch := first | exact hide_on (Sub.of (by assumption) (by decide)) | with_reducible rfl | exact Sub.of (by assumption) (by decide) | assumption) only [commitApply_view, startOp_view, okRep, refuse, runAsync, id, view_lit, apply_ite (State.view hid), ite_self] | exact Sub.of (by assumption) (by decide) | with_reducible apply completing_view | with_reducible apply foldl_keep | with_reducible apply foldl_keep2 | split | with_reducible rfl)
  accept := by
    intro f hf
    first
    | (simp only [commitConfigCmd, Cmd.plain, reduceCtorEq] at hf; done)
    | (simp only [commitConfigCmd, Cmd.plain, alAccept, Option.some.injEq] at hf
       subst hf
       repeat' (first | assumption | intro _ | refine (startOp_view' (Sub.of (by assumption) (by decide)) (by assumption)).trans ?_ | simp (disch := first | exact hide_on (Sub.of (by assumption) (by decide)) | with_reducible rfl | exact Sub.of (by assumption) (by decide) | assumption) only [commitApply_view, startOp_view, okRep, refuse, runAsync, id, view_lit, apply_ite (State.view hid), ite_self] | exact Sub.of (by assumption) (by decide) | with_reducible apply completing_view | with_reducible apply foldl_keep | with_reducible apply foldl_keep2 | split | with_reducible rfl))

theorem discardEditsCmd_keeps  (hm : Sub 0x607b2a60 hid) : KeepsCmd hid discardEditsCmd where
  run := by
    unfold discardEditsCmd
    simp only [Cmd.plain]
    repeat' (first | assumption | intro _ | refine (startOp_view' (Sub.of (by assumption) (by decide)) (by assumption)).trans ?_ | simp (disch := first | exact hide_on (Sub.of (by assumption) (by decide)) | with_reducible rfl | exact Sub.of (by assumption) (by decide) | assumption) only [askDiscard_view, discardApply_view, startOp_view, okRep, refuse, runAsync, id, view_lit, apply_ite (State.view hid), ite_self] | exact Sub.of (by assumption) (by decide) | with_reducible apply completing_view | with_reducible apply foldl_keep | with_reducible apply foldl_keep2 | split | with_reducible rfl)
  after := by
    unfold discardEditsCmd
    simp only [Cmd.plain]
    repeat' (first | assumption | intro _ | refine (startOp_view' (Sub.of (by assumption) (by decide)) (by assumption)).trans ?_ | simp (disch := first | exact hide_on (Sub.of (by assumption) (by decide)) | with_reducible rfl | exact Sub.of (by assumption) (by decide) | assumption) only [askDiscard_view, discardApply_view, startOp_view, okRep, refuse, runAsync, id, view_lit, apply_ite (State.view hid), ite_self] | exact Sub.of (by assumption) (by decide) | with_reducible apply completing_view | with_reducible apply foldl_keep | with_reducible apply foldl_keep2 | split | with_reducible rfl)
  apply := by
    unfold discardEditsCmd
    simp only [Cmd.plain]
    repeat' (first | assumption | intro _ | refine (startOp_view' (Sub.of (by assumption) (by decide)) (by assumption)).trans ?_ | simp (disch := first | exact hide_on (Sub.of (by assumption) (by decide)) | with_reducible rfl | exact Sub.of (by assumption) (by decide) | assumption) only [askDiscard_view, discardApply_view, startOp_view, okRep, refuse, runAsync, id, view_lit, apply_ite (State.view hid), ite_self] | exact Sub.of (by assumption) (by decide) | with_reducible apply completing_view | with_reducible apply foldl_keep | with_reducible apply foldl_keep2 | split | with_reducible rfl)
  accept := by
    intro f hf
    first
    | (simp only [discardEditsCmd, Cmd.plain, reduceCtorEq] at hf; done)
    | (simp only [discardEditsCmd, Cmd.plain, alAccept, Option.some.injEq] at hf
       subst hf
       repeat' (first | assumption | intro _ | refine (startOp_view' (Sub.of (by assumption) (by decide)) (by assumption)).trans ?_ | simp (disch := first | exact hide_on (Sub.of (by assumption) (by decide)) | with_reducible rfl | exact Sub.of (by assumption) (by decide) | assumption) only [askDiscard_view, discardApply_view, startOp_view, okRep, refuse, runAsync, id, view_lit, apply_ite (State.view hid), ite_self] | exact Sub.of (by assumption) (by decide) | with_reducible apply completing_view | with_reducible apply foldl_keep | with_reducible apply foldl_keep2 | split | with_reducible rfl))

theorem valueWriteCmd_keeps  (hm : Sub 0x20200 hid) : KeepsCmd hid valueWriteCmd where
  run := by
    unfold valueWriteCmd
    simp only [Cmd.plain]
    repeat' (first | assumption | intro _ | refine (startOp_view' (Sub.of (by assumption) (by decide)) (by assumption)).trans ?_ | simp (disch := first | exact hide_on (Sub.of (by assumption) (by decide)) | with_reducible rfl | exact Sub.of (by assumption) (by decide) | assumption) only [queueValues_view, valueWriteApply_view, startOp_view, okRep, refuse, runAsync, id, view_lit, apply_ite (State.view hid), ite_self] | exact Sub.of (by assumption) (by decide) | with_reducible apply completing_view | with_reducible apply foldl_keep | with_reducible apply foldl_keep2 | split | with_reducible rfl)
  after := by
    unfold valueWriteCmd
    simp only [Cmd.plain]
    repeat' (first | assumption | intro _ | refine (startOp_view' (Sub.of (by assumption) (by decide)) (by assumption)).trans ?_ | simp (disch := first | exact hide_on (Sub.of (by assumption) (by decide)) | with_reducible rfl | exact Sub.of (by assumption) (by decide) | assumption) only [queueValues_view, valueWriteApply_view, startOp_view, okRep, refuse, runAsync, id, view_lit, apply_ite (State.view hid), ite_self] | exact Sub.of (by assumption) (by decide) | with_reducible apply completing_view | with_reducible apply foldl_keep | with_reducible apply foldl_keep2 | split | with_reducible rfl)
  apply := by
    unfold valueWriteCmd
    simp only [Cmd.plain]
    repeat' (first | assumption | intro _ | refine (startOp_view' (Sub.of (by assumption) (by decide)) (by assumption)).trans ?_ | simp (disch := first | exact hide_on (Sub.of (by assumption) (by decide)) | with_reducible rfl | exact Sub.of (by assumption) (by decide) | assumption) only [queueValues_view, valueWriteApply_view, startOp_view, okRep, refuse, runAsync, id, view_lit, apply_ite (State.view hid), ite_self] | exact Sub.of (by assumption) (by decide) | with_reducible apply completing_view | with_reducible apply foldl_keep | with_reducible apply foldl_keep2 | split | with_reducible rfl)
  accept := by
    intro f hf
    first
    | (simp only [valueWriteCmd, Cmd.plain, reduceCtorEq] at hf; done)
    | (simp only [valueWriteCmd, Cmd.plain, alAccept, Option.some.injEq] at hf
       subst hf
       repeat' (first | assumption | intro _ | refine (startOp_view' (Sub.of (by assumption) (by decide)) (by assumption)).trans ?_ | simp (disch := first | exact hide_on (Sub.of (by assumption) (by decide)) | with_reducible rfl | exact Sub.of (by assumption) (by decide) | assumption) only [queueValues_view, valueWriteApply_view, startOp_view, okRep, refuse, runAsync, id, view_lit, apply_ite (State.view hid), ite_self] | exact Sub.of (by assumption) (by decide) | with_reducible apply completing_view | with_reducible apply foldl_keep | with_reducible apply foldl_keep2 | split | with_reducible rfl))

theorem forceSetCmd_keeps  (hm : Sub 0x32200 hid) : KeepsCmd hid forceSetCmd where
  run := by
    unfold forceSetCmd
    simp only [Cmd.plain]
    repeat' (first | assumption | intro _ | refine (startOp_view' (Sub.of (by assumption) (by decide)) (by assumption)).trans ?_ | simp (disch := first | exact hide_on (Sub.of (by assumption) (by decide)) | with_reducible rfl | exact Sub.of (by assumption) (by decide) | assumption) only [forceSet_view, forceSetApply_view, startOp_view, okRep, refuse, runAsync, id, view_lit, apply_ite (State.view hid), ite_self] | exact Sub.of (by assumption) (by decide) | with_reducible apply completing_view | with_reducible apply foldl_keep | with_reducible apply foldl_keep2 | split | with_reducible rfl)
  after := by
    unfold forceSetCmd
    simp only [Cmd.plain]
    repeat' (first | assumption | intro _ | refine (startOp_view' (Sub.of (by assumption) (by decide)) (by assumption)).trans ?_ | simp (disch := first | exact hide_on (Sub.of (by assumption) (by decide)) | with_reducible rfl | exact Sub.of (by assumption) (by decide) | assumption) only [forceSet_view, forceSetApply_view, startOp_view, okRep, refuse, runAsync, id, view_lit, apply_ite (State.view hid), ite_self] | exact Sub.of (by assumption) (by decide) | with_reducible apply completing_view | with_reducible apply foldl_keep | with_reducible apply foldl_keep2 | split | with_reducible rfl)
  apply := by
    unfold forceSetCmd
    simp only [Cmd.plain]
    repeat' (first | assumption | intro _ | refine (startOp_view' (Sub.of (by assumption) (by decide)) (by assumption)).trans ?_ | simp (disch := first | exact hide_on (Sub.of (by assumption) (by decide)) | with_reducible rfl | exact Sub.of (by assumption) (by decide) | assumption) only [forceSet_view, forceSetApply_view, startOp_view, okRep, refuse, runAsync, id, view_lit, apply_ite (State.view hid), ite_self] | exact Sub.of (by assumption) (by decide) | with_reducible apply completing_view | with_reducible apply foldl_keep | with_reducible apply foldl_keep2 | split | with_reducible rfl)
  accept := by
    intro f hf
    first
    | (simp only [forceSetCmd, Cmd.plain, reduceCtorEq] at hf; done)
    | (simp only [forceSetCmd, Cmd.plain, alAccept, Option.some.injEq] at hf
       subst hf
       repeat' (first | assumption | intro _ | refine (startOp_view' (Sub.of (by assumption) (by decide)) (by assumption)).trans ?_ | simp (disch := first | exact hide_on (Sub.of (by assumption) (by decide)) | with_reducible rfl | exact Sub.of (by assumption) (by decide) | assumption) only [forceSet_view, forceSetApply_view, startOp_view, okRep, refuse, runAsync, id, view_lit, apply_ite (State.view hid), ite_self] | exact Sub.of (by assumption) (by decide) | with_reducible apply completing_view | with_reducible apply foldl_keep | with_reducible apply foldl_keep2 | split | with_reducible rfl))

theorem forceClearCmd_keeps  (hm : Sub 0x32200 hid) : KeepsCmd hid forceClearCmd where
  run := by
    unfold forceClearCmd
    simp only [Cmd.plain]
    repeat' (first | assumption | intro _ | refine (startOp_view' (Sub.of (by assumption) (by decide)) (by assumption)).trans ?_ | simp (disch := first | exact hide_on (Sub.of (by assumption) (by decide)) | with_reducible rfl | exact Sub.of (by assumption) (by decide) | assumption) only [forceClear_view, forceClearApply_view, startOp_view, okRep, refuse, runAsync, id, view_lit, apply_ite (State.view hid), ite_self] | exact Sub.of (by assumption) (by decide) | with_reducible apply completing_view | with_reducible apply foldl_keep | with_reducible apply foldl_keep2 | split | with_reducible rfl)
  after := by
    unfold forceClearCmd
    simp only [Cmd.plain]
    repeat' (first | assumption | intro _ | refine (startOp_view' (Sub.of (by assumption) (by decide)) (by assumption)).trans ?_ | simp (disch := first | exact hide_on (Sub.of (by assumption) (by decide)) | with_reducible rfl | exact Sub.of (by assumption) (by decide) | assumption) only [forceClear_view, forceClearApply_view, startOp_view, okRep, refuse, runAsync, id, view_lit, apply_ite (State.view hid), ite_self] | exact Sub.of (by assumption) (by decide) | with_reducible apply completing_view | with_reducible apply foldl_keep | with_reducible apply foldl_keep2 | split | with_reducible rfl)
  apply := by
    unfold forceClearCmd
    simp only [Cmd.plain]
    repeat' (first | assumption | intro _ | refine (startOp_view' (Sub.of (by assumption) (by decide)) (by assumption)).trans ?_ | simp (disch := first | exact hide_on (Sub.of (by assumption) (by decide)) | with_reducible rfl | exact Sub.of (by assumption) (by decide) | assumption) only [forceClear_view, forceClearApply_view, startOp_view, okRep, refuse, runAsync, id, view_lit, apply_ite (State.view hid), ite_self] | exact Sub.of (by assumption) (by decide) | with_reducible apply completing_view | with_reducible apply foldl_keep | with_reducible apply foldl_keep2 | split | with_reducible rfl)
  accept := by
    intro f hf
    first
    | (simp only [forceClearCmd, Cmd.plain, reduceCtorEq] at hf; done)
    | (simp only [forceClearCmd, Cmd.plain, alAccept, Option.some.injEq] at hf
       subst hf
       repeat' (first | assumption | intro _ | refine (startOp_view' (Sub.of (by assumption) (by decide)) (by assumption)).trans ?_ | simp (disch := first | exact hide_on (Sub.of (by assumption) (by decide)) | with_reducible rfl | exact Sub.of (by assumption) (by decide) | assumption) only [forceClear_view, forceClearApply_view, startOp_view, okRep, refuse, runAsync, id, view_lit, apply_ite (State.view hid), ite_self] | exact Sub.of (by assumption) (by decide) | with_reducible apply completing_view | with_reducible apply foldl_keep | with_reducible apply foldl_keep2 | split | with_reducible rfl))

theorem taskTriggerCmd_keeps  (hm : Sub 0x20600 hid) : KeepsCmd hid taskTriggerCmd where
  run := by
    unfold taskTriggerCmd
    simp only [Cmd.plain]
    repeat' (first | assumption | intro _ | refine (startOp_view' (Sub.of (by assumption) (by decide)) (by assumption)).trans ?_ | simp (disch := first | exact hide_on (Sub.of (by assumption) (by decide)) | with_reducible rfl | exact Sub.of (by assumption) (by decide) | assumption) only [trigger_view, taskTriggerApply_view, startOp_view, okRep, refuse, runAsync, id, view_lit, apply_ite (State.view hid), ite_self] | exact Sub.of (by assumption) (by decide) | with_reducible apply completing_view | with_reducible apply foldl_keep | with_reducible apply foldl_keep2 | split | with_reducible rfl)
  after := by
    unfold taskTriggerCmd
    simp only [Cmd.plain]
    repeat' (first | assumption | intro _ | refine (startOp_view' (Sub.of (by assumption) (by decide)) (by assumption)).trans ?_ | simp (disch := first | exact hide_on (Sub.of (by assumption) (by decide)) | with_reducible rfl | exact Sub.of (by assumption) (by decide) | assumption) only [trigger_view, taskTriggerApply_view, startOp_view, okRep, refuse, runAsync, id, view_lit, apply_ite (State.view hid), ite_self] | exact Sub.of (by assumption) (by decide) | with_reducible apply completing_view | with_reducible apply foldl_keep | with_reducible apply foldl_keep2 | split | with_reducible rfl)
  apply := by
    unfold taskTriggerCmd
    simp only [Cmd.plain]
    repeat' (first | assumption | intro _ | refine (startOp_view' (Sub.of (by assumption) (by decide)) (by assumption)).trans ?_ | simp (disch := first | exact hide_on (Sub.of (by assumption) (by decide)) | with_reducible rfl | exact Sub.of (by assumption) (by decide) | assumption) only [trigger_view, taskTriggerApply_view, startOp_view, okRep, refuse, runAsync, id, view_lit, apply_ite (State.view hid), ite_self] | exact Sub.of (by assumption) (by decide) | with_reducible apply completing_view | with_reducible apply foldl_keep | with_reducible apply foldl_keep2 | split | with_reducible rfl)
  accept := by
    intro f hf
    first
    | (simp only [taskTriggerCmd, Cmd.plain, reduceCtorEq] at hf; done)
    | (simp only [taskTriggerCmd, Cmd.plain, alAccept, Option.some.injEq] at hf
       subst hf
       repeat' (first | assumption | intro _ | refine (startOp_view' (Sub.of (by assumption) (by decide)) (by assumption)).trans ?_ | simp (disch := first | exact hide_on (Sub.of (by assumption) (by decide)) | with_reducible rfl | exact Sub.of (by assumption) (by decide) | assumption) only [trigger_view, taskTriggerApply_view, startOp_view, okRep, refuse, runAsync, id, view_lit, apply_ite (State.view hid), ite_self] | exact Sub.of (by assumption) (by decide) | with_reducible apply completing_view | with_reducible apply foldl_keep | with_reducible apply foldl_keep2 | split | with_reducible rfl))

theorem panelUpdateCmd_keeps  (hm : Sub 0x100000200 hid) : KeepsCmd hid panelUpdateCmd where
  run := by
    unfold panelUpdateCmd
    simp only [Cmd.plain]
    repeat' (first | assumption | intro _ | refine (startOp_view' (Sub.of (by assumption) (by decide)) (by assumption)).trans ?_ | simp (disch := first | exact hide_on (Sub.of (by assumption) (by decide)) | with_reducible rfl | exact Sub.of (by assumption) (by decide) | assumption) only [panelUpdateApply_view, startOp_view, okRep, refuse, runAsync, id, view_lit, apply_ite (State.view hid), ite_self] | exact Sub.of (by assumption) (by decide) | with_reducible apply completing_view | with_reducible apply foldl_keep | with_reducible apply foldl_keep2 | split | with_reducible rfl)
  after := by
    unfold panelUpdateCmd
    simp only [Cmd.plain]
    repeat' (first | assumption | intro _ | refine (startOp_view' (Sub.of (by assumption) (by decide)) (by assumption)).trans ?_ | simp (disch := first | exact hide_on (Sub.of (by assumption) (by decide)) | with_reducible rfl | exact Sub.of (by assumption) (by decide) | assumption) only [panelUpdateApply_view, startOp_view, okRep, refuse, runAsync, id, view_lit, apply_ite (State.view hid), ite_self] | exact Sub.of (by assumption) (by decide) | with_reducible apply completing_view | with_reducible apply foldl_keep | with_reducible apply foldl_keep2 | split | with_reducible rfl)
  apply := by
    unfold panelUpdateCmd
    simp only [Cmd.plain]
    repeat' (first | assumption | intro _ | refine (startOp_view' (Sub.of (by assumption) (by decide)) (by assumption)).trans ?_ | simp (disch := first | exact hide_on (Sub.of (by assumption) (by decide)) | with_reducible rfl | exact Sub.of (by assumption) (by decide) | assumption) only [panelUpdateApply_view, startOp_view, okRep, refuse, runAsync, id, view_lit, apply_ite (State.view hid), ite_self] | exact Sub.of (by assumption) (by decide) | with_reducible apply completing_view | with_reducible apply foldl_keep | with_reducible apply foldl_keep2 | split | with_reducible rfl)
  accept := by
    intro f hf
    first
    | (simp only [panelUpdateCmd, Cmd.plain, reduceCtorEq] at hf; done)
    | (simp only [panelUpdateCmd, Cmd.plain, alAccept, Option.some.injEq] at hf
       subst hf
       repeat' (first | assumption | intro _ | refine (startOp_view' (Sub.of (by assumption) (by decide)) (by assumption)).trans ?_ | simp (disch := first | exact hide_on (Sub.of (by assumption) (by decide)) | with_reducible rfl | exact Sub.of (by assumption) (by decide) | assumption) only [panelUpdateApply_view, startOp_view, okRep, refuse, runAsync, id, view_lit, apply_ite (State.view hid), ite_self] | exact Sub.of (by assumption) (by decide) | with_reducible apply completing_view | with_reducible apply foldl_keep | with_reducible apply foldl_keep2 | split | with_reducible rfl))

theorem canSendCmd_keeps  (hm : Sub 0x80000600 hid) : KeepsCmd hid canSendCmd where
  run := by
    unfold canSendCmd
    simp only [Cmd.plain]
    repeat' (first | assumption | intro _ | refine (startOp_view' (Sub.of (by assumption) (by decide)) (by assumption)).trans ?_ | simp (disch := first | exact hide_on (Sub.of (by assumption) (by decide)) | with_reducible rfl | exact Sub.of (by assumption) (by decide) | assumption) only [startOp_view, canSendApply_view, lane_view, okRep, refuse, runAsync, id, view_lit, apply_ite (State.view hid), ite_self] | exact Sub.of (by assumption) (by decide) | with_reducible apply completing_view | with_reducible apply foldl_keep | with_reducible apply foldl_keep2 | split | with_reducible rfl)
  after := by
    unfold canSendCmd
    simp only [Cmd.plain]
    repeat' (first | assumption | intro _ | refine (startOp_view' (Sub.of (by assumption) (by decide)) (by assumption)).trans ?_ | simp (disch := first | exact hide_on (Sub.of (by assumption) (by decide)) | with_reducible rfl | exact Sub.of (by assumption) (by decide) | assumption) only [startOp_view, canSendApply_view, lane_view, okRep, refuse, runAsync, id, view_lit, apply_ite (State.view hid), ite_self] | exact Sub.of (by assumption) (by decide) | with_reducible apply completing_view | with_reducible apply foldl_keep | with_reducible apply foldl_keep2 | split | with_reducible rfl)
  apply := by
    unfold canSendCmd
    simp only [Cmd.plain]
    repeat' (first | assumption | intro _ | refine (startOp_view' (Sub.of (by assumption) (by decide)) (by assumption)).trans ?_ | simp (disch := first | exact hide_on (Sub.of (by assumption) (by decide)) | with_reducible rfl | exact Sub.of (by assumption) (by decide) | assumption) only [startOp_view, canSendApply_view, lane_view, okRep, refuse, runAsync, id, view_lit, apply_ite (State.view hid), ite_self] | exact Sub.of (by assumption) (by decide) | with_reducible apply completing_view | with_reducible apply foldl_keep | with_reducible apply foldl_keep2 | split | with_reducible rfl)
  accept := by
    intro f hf
    first
    | (simp only [canSendCmd, Cmd.plain, reduceCtorEq] at hf; done)
    | (simp only [canSendCmd, Cmd.plain, alAccept, Option.some.injEq] at hf
       subst hf
       repeat' (first | assumption | intro _ | refine (startOp_view' (Sub.of (by assumption) (by decide)) (by assumption)).trans ?_ | simp (disch := first | exact hide_on (Sub.of (by assumption) (by decide)) | with_reducible rfl | exact Sub.of (by assumption) (by decide) | assumption) only [startOp_view, canSendApply_view, lane_view, okRep, refuse, runAsync, id, view_lit, apply_ite (State.view hid), ite_self] | exact Sub.of (by assumption) (by decide) | with_reducible apply completing_view | with_reducible apply foldl_keep | with_reducible apply foldl_keep2 | split | with_reducible rfl))

theorem timeAcceptCmd_keeps  (hm : Sub 0x4 hid) : KeepsCmd hid timeAcceptCmd where
  run := by
    unfold timeAcceptCmd
    simp only [Cmd.plain]
    repeat' (first | assumption | intro _ | refine (startOp_view' (Sub.of (by assumption) (by decide)) (by assumption)).trans ?_ | simp (disch := first | exact hide_on (Sub.of (by assumption) (by decide)) | with_reducible rfl | exact Sub.of (by assumption) (by decide) | assumption) only [acceptStep_view, startOp_view, okRep, refuse, runAsync, id, view_lit, apply_ite (State.view hid), ite_self] | exact Sub.of (by assumption) (by decide) | with_reducible apply completing_view | with_reducible apply foldl_keep | with_reducible apply foldl_keep2 | split | with_reducible rfl)
  after := by
    unfold timeAcceptCmd
    simp only [Cmd.plain]
    repeat' (first | assumption | intro _ | refine (startOp_view' (Sub.of (by assumption) (by decide)) (by assumption)).trans ?_ | simp (disch := first | exact hide_on (Sub.of (by assumption) (by decide)) | with_reducible rfl | exact Sub.of (by assumption) (by decide) | assumption) only [acceptStep_view, startOp_view, okRep, refuse, runAsync, id, view_lit, apply_ite (State.view hid), ite_self] | exact Sub.of (by assumption) (by decide) | with_reducible apply completing_view | with_reducible apply foldl_keep | with_reducible apply foldl_keep2 | split | with_reducible rfl)
  apply := by
    unfold timeAcceptCmd
    simp only [Cmd.plain]
    repeat' (first | assumption | intro _ | refine (startOp_view' (Sub.of (by assumption) (by decide)) (by assumption)).trans ?_ | simp (disch := first | exact hide_on (Sub.of (by assumption) (by decide)) | with_reducible rfl | exact Sub.of (by assumption) (by decide) | assumption) only [acceptStep_view, startOp_view, okRep, refuse, runAsync, id, view_lit, apply_ite (State.view hid), ite_self] | exact Sub.of (by assumption) (by decide) | with_reducible apply completing_view | with_reducible apply foldl_keep | with_reducible apply foldl_keep2 | split | with_reducible rfl)
  accept := by
    intro f hf
    first
    | (simp only [timeAcceptCmd, Cmd.plain, reduceCtorEq] at hf; done)
    | (simp only [timeAcceptCmd, Cmd.plain, alAccept, Option.some.injEq] at hf
       subst hf
       repeat' (first | assumption | intro _ | refine (startOp_view' (Sub.of (by assumption) (by decide)) (by assumption)).trans ?_ | simp (disch := first | exact hide_on (Sub.of (by assumption) (by decide)) | with_reducible rfl | exact Sub.of (by assumption) (by decide) | assumption) only [acceptStep_view, startOp_view, okRep, refuse, runAsync, id, view_lit, apply_ite (State.view hid), ite_self] | exact Sub.of (by assumption) (by decide) | with_reducible apply completing_view | with_reducible apply foldl_keep | with_reducible apply foldl_keep2 | split | with_reducible rfl))

theorem hartPassCmd_keeps  (hm : Sub 0x10000200 hid) : KeepsCmd hid hartPassCmd where
  run := by
    unfold hartPassCmd
    simp only [Cmd.plain]
    repeat' (first | assumption | intro _ | refine (startOp_view' (Sub.of (by assumption) (by decide)) (by assumption)).trans ?_ | simp (disch := first | exact hide_on (Sub.of (by assumption) (by decide)) | with_reducible rfl | exact Sub.of (by assumption) (by decide) | assumption) only [hartPassApply_view, startOp_view, okRep, refuse, runAsync, id, view_lit, apply_ite (State.view hid), ite_self] | exact Sub.of (by assumption) (by decide) | with_reducible apply completing_view | with_reducible apply foldl_keep | with_reducible apply foldl_keep2 | split | with_reducible rfl)
  after := by
    unfold hartPassCmd
    simp only [Cmd.plain]
    repeat' (first | assumption | intro _ | refine (startOp_view' (Sub.of (by assumption) (by decide)) (by assumption)).trans ?_ | simp (disch := first | exact hide_on (Sub.of (by assumption) (by decide)) | with_reducible rfl | exact Sub.of (by assumption) (by decide) | assumption) only [hartPassApply_view, startOp_view, okRep, refuse, runAsync, id, view_lit, apply_ite (State.view hid), ite_self] | exact Sub.of (by assumption) (by decide) | with_reducible apply completing_view | with_reducible apply foldl_keep | with_reducible apply foldl_keep2 | split | with_reducible rfl)
  apply := by
    unfold hartPassCmd
    simp only [Cmd.plain]
    repeat' (first | assumption | intro _ | refine (startOp_view' (Sub.of (by assumption) (by decide)) (by assumption)).trans ?_ | simp (disch := first | exact hide_on (Sub.of (by assumption) (by decide)) | with_reducible rfl | exact Sub.of (by assumption) (by decide) | assumption) only [hartPassApply_view, startOp_view, okRep, refuse, runAsync, id, view_lit, apply_ite (State.view hid), ite_self] | exact Sub.of (by assumption) (by decide) | with_reducible apply completing_view | with_reducible apply foldl_keep | with_reducible apply foldl_keep2 | split | with_reducible rfl)
  accept := by
    intro f hf
    first
    | (simp only [hartPassCmd, Cmd.plain, reduceCtorEq] at hf; done)
    | (simp only [hartPassCmd, Cmd.plain, alAccept, Option.some.injEq] at hf
       subst hf
       repeat' (first | assumption | intro _ | refine (startOp_view' (Sub.of (by assumption) (by decide)) (by assumption)).trans ?_ | simp (disch := first | exact hide_on (Sub.of (by assumption) (by decide)) | with_reducible rfl | exact Sub.of (by assumption) (by decide) | assumption) only [hartPassApply_view, startOp_view, okRep, refuse, runAsync, id, view_lit, apply_ite (State.view hid), ite_self] | exact Sub.of (by assumption) (by decide) | with_reducible apply completing_view | with_reducible apply foldl_keep | with_reducible apply foldl_keep2 | split | with_reducible rfl))

theorem pairCmd_keeps {code : Nat} {c : Cmd} (h : pairCmd code = some c) (hm : Sub 0x1fc7b2e64 hid) : KeepsCmd hid c := by
  have hm := List.mem_of_find?_eq_some h
  simp only [List.mem_cons, List.not_mem_nil, or_false] at hm
  rcases hm with rfl | rfl | rfl | rfl | rfl | rfl | rfl | rfl | rfl | rfl | rfl | rfl | rfl | rfl | rfl
  · exact paramWriteCmd_keeps (Sub.of hm (by decide))
  · exact tableWriteCmd_keeps (Sub.of hm (by decide))
  · exact commitConfigCmd_keeps (Sub.of hm (by decide))
  · exact discardEditsCmd_keeps (Sub.of hm (by decide))
  · exact valueWriteCmd_keeps (Sub.of hm (by decide))
  · exact forceSetCmd_keeps (Sub.of hm (by decide))
  · exact forceClearCmd_keeps (Sub.of hm (by decide))
  · exact taskTriggerCmd_keeps (Sub.of hm (by decide))
  · exact alarmAckCmd_keeps (Sub.of hm (by decide))
  · exact alarmShelveCmd_keeps (Sub.of hm (by decide))
  · exact ladderAckCmd_keeps (Sub.of hm (by decide))
  · exact hartPassCmd_keeps (Sub.of hm (by decide))
  · exact canSendCmd_keeps (Sub.of hm (by decide))
  · exact panelUpdateCmd_keeps (Sub.of hm (by decide))
  · exact timeAcceptCmd_keeps (Sub.of hm (by decide))


theorem relayRequest_view (s : State) (c : RelayIn) (hm : Sub 0x1fc7b2e64 hid) : (State.relayRequest s c).view hid = s.view hid := by
  unfold State.relayRequest
  repeat' (first | assumption | intro _ | refine ((pairCmd_keeps (by assumption) (Sub.of (by assumption) (by decide))).accept _ (by assumption) _ _ _).trans ?_ | simp (disch := first | exact hide_on (Sub.of (by assumption) (by decide)) | with_reducible rfl | exact Sub.of (by assumption) (by decide) | assumption) only [lane_view, alWaits_view, relayOutcome_view, view_lit, apply_ite (State.view hid), ite_self] | split | with_reducible rfl)

theorem relayAnswer_view (s : State) (c : RelayIn) (hm : Sub 0x200200684 hid) : (State.relayAnswer s c).view hid = s.view hid := by
  unfold State.relayAnswer
  repeat' (first | assumption | intro _ | refine (startOp_view' (Sub.of (by assumption) (by decide)) (by assumption)).trans ?_ | simp (disch := first | exact hide_on (Sub.of (by assumption) (by decide)) | with_reducible rfl | exact Sub.of (by assumption) (by decide) | assumption) only [startOp_view, answerRelay_view, modClk_view, view_lit, apply_ite (State.view hid), ite_self] | split | with_reducible rfl)

theorem relayRefused_view (s : State) (c : RelayIn) (hm : Sub 0x600 hid) : (State.relayRefused s c).view hid = s.view hid := by
  unfold State.relayRefused
  repeat' (first | assumption | intro _ | simp (disch := first | exact hide_on (Sub.of (by assumption) (by decide)) | with_reducible rfl | exact Sub.of (by assumption) (by decide) | assumption) only [completeOpt_view, view_lit, apply_ite (State.view hid), ite_self] | with_reducible apply foldl_keep | with_reducible apply foldl_keep2 | split | with_reducible rfl)

theorem carryCmd_view (s : State) (c : PairCmd) (hm : Sub 0x20000 hid) : (State.carryCmd s c).view hid = s.view hid := by
  unfold State.carryCmd
  repeat' (first | assumption | intro _ | simp (disch := first | exact hide_on (Sub.of (by assumption) (by decide)) | with_reducible rfl | exact Sub.of (by assumption) (by decide) | assumption) only [modTask_view, view_lit, apply_ite (State.view hid), ite_self] | with_reducible apply foldl_keep | with_reducible apply foldl_keep2 | split | with_reducible rfl)

theorem alApply_view (s : State) (code : ℕ) (op : Option ℕ) (body : List Byte) (session : U32) (hm : Sub 0x1fc7b2e64 hid) : (State.alApply s code op body session).view hid = s.view hid := by
  unfold State.alApply
  repeat' (first | assumption | intro _ | refine ((pairCmd_keeps (by assumption) (Sub.of (by assumption) (by decide))).apply _ _ _ _).trans ?_ | simp (disch := first | exact hide_on (Sub.of (by assumption) (by decide)) | with_reducible rfl | exact Sub.of (by assumption) (by decide) | assumption) only [ladderAck_view, view_lit, apply_ite (State.view hid), ite_self] | split | with_reducible rfl)

theorem applyScheduled_view (s : State) (hm : Sub 0x1fc7b2e64 hid) : (State.applyScheduled s).view hid = s.view hid := by
  unfold State.applyScheduled
  repeat' (first | assumption | intro _ | refine ((pairCmd_keeps (by assumption) (Sub.of (by assumption) (by decide))).apply _ _ _ _).trans ?_ | simp (disch := first | exact hide_on (Sub.of (by assumption) (by decide)) | with_reducible rfl | exact Sub.of (by assumption) (by decide) | assumption) only [carryCmd_view, alApply_view, view_lit, apply_ite (State.view hid), ite_self] | with_reducible apply foldl_keep | with_reducible apply foldl_keep2 | split | with_reducible rfl)

theorem agreeFeatures_view (s : State) (a : AccessIn) (hm : Sub 0x4000 hid) : (State.agreeFeatures s a).view hid = s.view hid := by
  unfold State.agreeFeatures
  repeat' (first | assumption | intro _ | simp (disch := first | exact hide_on (Sub.of (by assumption) (by decide)) | with_reducible rfl | exact Sub.of (by assumption) (by decide) | assumption) only [raise_view, modPair_view, view_lit, apply_ite (State.view hid), ite_self] | with_reducible apply foldl_keep | with_reducible apply foldl_keep2 | split | with_reducible rfl)

theorem sendCopySet_view (s : State) : (State.sendCopySet s).view hid = s.view hid := by
  unfold State.sendCopySet
  repeat' (first | assumption | intro _ | simp (disch := first | exact hide_on (Sub.of (by assumption) (by decide)) | with_reducible rfl | exact Sub.of (by assumption) (by decide) | assumption) only [lane_view, view_lit, apply_ite (State.view hid), ite_self] | with_reducible apply foldl_keep | with_reducible apply foldl_keep2 | split | with_reducible rfl)

theorem sendCopyRest_view (s : State) : (State.sendCopyRest s).view hid = s.view hid := by
  unfold State.sendCopyRest
  repeat' (first | assumption | intro _ | simp (disch := first | exact hide_on (Sub.of (by assumption) (by decide)) | with_reducible rfl | exact Sub.of (by assumption) (by decide) | assumption) only [lane_view, sendLoops_view, alCopyOut_view, view_lit, apply_ite (State.view hid), ite_self] | with_reducible apply foldl_keep | with_reducible apply foldl_keep2 | split | with_reducible rfl)

theorem accession_view (s : State) (a : AccessIn) (hm : Sub 0x607bea4c hid) : (State.accession s a).view hid = s.view hid := by
  unfold State.accession
  extract_lets s1 s2 cause s3 s4 cause2 s5 s6 s7
  have hp : ∀ (t : State) f, (t.modPair f).view hid = t.view hid := fun t f => modPair_view _ _ (Sub.of hm (by decide))
  have h1 : s1.view hid = s.view hid := hp _ _
  have h2 : s2.view hid = s.view hid := (sendAccession_view _ _).trans h1
  have h4 : s4.view hid = s.view hid := (hp _ _).trans ((agreeFeatures_view _ _ (Sub.of hm (by decide))).trans h2)
  have h5 : s5.view hid = s.view hid := (agreeFeatures_view _ _ (Sub.of hm (by decide))).trans h1
  have h6 : s6.view hid = s.view hid := ite_view ((modClk_view _ _ (Sub.of hm (by decide))).trans h5) h5
  have h7 : s7.view hid = s.view hid := by
    simp only [s7]
    split
    · exact ite_view h6 ((loadBase_view _ _ (Sub.of hm (by decide))).trans h6)
    · exact h6
  exact ite_view (ite_view ((hp _ _).trans h2) ((sendCopySet_view _).trans h4))
    (ite_view h1 (ite_view ((joinFails_view _ _ _ _ (Sub.of hm (by decide))).trans h1)
      ((hp _ _).trans ((takeFresh_view _ (Sub.of hm (by decide))).trans h7))))

theorem takeItem_view (s : State) (x : CopyItem) (hm : Sub 0x307fc860 hid) : (State.takeItem s x).view hid = s.view hid := by
  unfold State.takeItem
  repeat' (first | assumption | intro _ | simp (disch := first | exact hide_on (Sub.of (by assumption) (by decide)) | with_reducible rfl | exact Sub.of (by assumption) (by decide) | assumption) only [modTask_view, modAo_view, modSw_view, modPair_view, modRec_view, writeArea_view, patchSlot_view, sendLoops_view, modAl_view, modGrp_view, journal_view, alCopyOut_view, setBase_view, setBaseEntry_view, addForce_view, view_lit, apply_ite (State.view hid), ite_self] | with_reducible apply foldl_keep | with_reducible apply foldl_keep2 | split | with_reducible rfl)

theorem copyComplete_view (s : State) (c : Copy) (hm : Sub 0x4008 hid) : (State.copyComplete s c).view hid = s.view hid := by
  unfold State.copyComplete
  repeat' (first | assumption | intro _ | simp (disch := first | exact hide_on (Sub.of (by assumption) (by decide)) | with_reducible rfl | exact Sub.of (by assumption) (by decide) | assumption) only [raise_view, modPair_view, announce_view, modMu_view, sendCopyRest_view, view_lit, apply_ite (State.view hid), ite_self] | split | with_reducible rfl)

theorem rejoinNow_view (s : State) (hm : Sub 0x4008 hid) : (State.rejoinNow s).view hid = s.view hid := by
  unfold State.rejoinNow
  repeat' (first | assumption | intro _ | simp (disch := first | exact hide_on (Sub.of (by assumption) (by decide)) | with_reducible rfl | exact Sub.of (by assumption) (by decide) | assumption) only [askJoin_view, view_lit, apply_ite (State.view hid), ite_self] | split | with_reducible rfl)

theorem serveResync_view (s : State) (hm : Sub 0x4000 hid) : (State.serveResync s).view hid = s.view hid := by
  unfold State.serveResync
  repeat' (first | assumption | intro _ | simp (disch := first | exact hide_on (Sub.of (by assumption) (by decide)) | with_reducible rfl | exact Sub.of (by assumption) (by decide) | assumption) only [modPair_view, sendCopySet_view, view_lit, apply_ite (State.view hid), ite_self] | split | with_reducible rfl)

theorem statusIn_view (s : State) (x : StatusIn) (hm : Sub 0x8000420c hid) : (State.statusIn s x).view hid = s.view hid := by
  unfold State.statusIn
  repeat' (first | assumption | intro _ | simp (disch := first | exact hide_on (Sub.of (by assumption) (by decide)) | with_reducible rfl | exact Sub.of (by assumption) (by decide) | assumption) only [modPair_view, canRefresh_view, modClk_view, servo_view, rejoinNow_view, serveResync_view, view_lit, apply_ite (State.view hid), ite_self] | split | with_reducible rfl)

theorem takeback_view (s : State) (hm : Sub 0x4008 hid) : (State.takeback s).view hid = s.view hid := by
  unfold State.takeback
  repeat' (first | assumption | intro _ | simp (disch := first | exact hide_on (Sub.of (by assumption) (by decide)) | with_reducible rfl | exact Sub.of (by assumption) (by decide) | assumption) only [modPair_view, askSwap_view, view_lit, apply_ite (State.view hid), ite_self] | split | with_reducible rfl)

theorem modSup_view (s : State) (f : Supply → Supply) (hm : Sub 0x400000000 hid) : (State.modSup s f).view hid = s.view hid := by
  unfold State.modSup
  repeat' (first | assumption | intro _ | simp (disch := first | exact hide_on (Sub.of (by assumption) (by decide)) | with_reducible rfl | exact Sub.of (by assumption) (by decide) | assumption) only [view_lit, apply_ite (State.view hid), ite_self] | split | with_reducible rfl)

theorem runM0_view (s : State) (feeds : ℕ) (ohms : ℕ) (hm : Sub 0x7febbeecd hid) : (State.runM0 s feeds ohms).view hid = s.view hid := by
  unfold State.runM0
  repeat' (first | assumption | intro _ | simp (disch := first | exact hide_on (Sub.of (by assumption) (by decide)) | with_reducible rfl | exact Sub.of (by assumption) (by decide) | assumption) only [raise_view, modPair_view, enterMode_view, view_lit, apply_ite (State.view hid), ite_self] | split | with_reducible rfl)

theorem stepFailed_view (s : State) (step : ℕ) (res : ℕ) : (State.stepFailed s step res).view hid = s.view hid := by
  unfold State.stepFailed
  repeat' (first | assumption | intro _ | refine (takeFree_view' (by assumption)).trans ?_ | simp (disch := first | exact hide_on (Sub.of (by assumption) (by decide)) | with_reducible rfl | exact Sub.of (by assumption) (by decide) | assumption) only [raise_view, takeFree_view, view_lit, apply_ite (State.view hid), ite_self] | split | with_reducible rfl)

theorem testPairs_view (s : State) (tests : List (ℕ × U64)) (hm : Sub 0x1a804248 hid) : (State.testPairs s tests).view hid = s.view hid := by
  unfold State.testPairs
  repeat' (first | assumption | intro _ | simp (disch := first | exact hide_on (Sub.of (by assumption) (by decide)) | with_reducible rfl | exact Sub.of (by assumption) (by decide) | assumption) only [injected_view, migratePair_view, stepFailed_view, view_lit, apply_ite (State.view hid), ite_self] | with_reducible apply foldl_keep | with_reducible apply foldl_keep2 | split | with_reducible rfl)

theorem runFirmware_view (s : State) (k : ℕ) (hm : Sub 0x200000002 hid) : (State.runFirmware s k).view hid = s.view hid := by
  unfold State.runFirmware
  repeat' (first | assumption | intro _ | simp (disch := first | exact hide_on (Sub.of (by assumption) (by decide)) | with_reducible rfl | exact Sub.of (by assumption) (by decide) | assumption) only [view_lit, apply_ite (State.view hid), ite_self] | split | with_reducible rfl)

theorem firmwareCheck_view (s : State) (images : List Bool) (hm : Sub 0x20000420a hid) : (State.firmwareCheck s images).view hid = s.view hid := by
  unfold State.firmwareCheck
  repeat' (first | assumption | intro _ | simp (disch := first | exact hide_on (Sub.of (by assumption) (by decide)) | with_reducible rfl | exact Sub.of (by assumption) (by decide) | assumption) only [halt_view, stepFailed_view, runFirmware_view, view_lit, apply_ite (State.view hid), ite_self] | split | with_reducible rfl)

theorem tellUpdates_view (s : State) (hm : Sub 0x200000000 hid) : (State.tellUpdates s).view hid = s.view hid := by
  unfold State.tellUpdates
  repeat' (first | assumption | intro _ | refine (takeFree_view' (by assumption)).trans ?_ | simp (disch := first | exact hide_on (Sub.of (by assumption) (by decide)) | with_reducible rfl | exact Sub.of (by assumption) (by decide) | assumption) only [raise_view, takeFree_view, view_lit, apply_ite (State.view hid), ite_self] | with_reducible apply foldl_keep | with_reducible apply foldl_keep2 | split | with_reducible rfl)

theorem loadConfig_view (s : State) (img : Image) (st : ℕ) (hm : Sub 0x607b2860 hid) : (State.loadConfig s img st).view hid = s.view hid := by
  unfold State.loadConfig
  repeat' (first | assumption | intro _ | simp (disch := first | exact hide_on (Sub.of (by assumption) (by decide)) | with_reducible rfl | exact Sub.of (by assumption) (by decide) | assumption) only [loadBase_view, view_lit, apply_ite (State.view hid), ite_self] | with_reducible apply foldl_keep | with_reducible apply foldl_keep2 | split | with_reducible rfl)

theorem configCheck_view (s : State) (hm : Sub 0x607b2870 hid) : (State.configCheck s).2.view hid = s.view hid := by
  unfold State.configCheck
  repeat' (first | assumption | intro _ | simp (disch := first | exact hide_on (Sub.of (by assumption) (by decide)) | with_reducible rfl | exact Sub.of (by assumption) (by decide) | assumption) only [raise_view, stepFailed_view, loadConfig_view, view_lit, apply_ite (State.view hid), ite_self] | split | with_reducible rfl)
theorem configCheck_view' {s : State} {aa : _} {tt : State} (hm : Sub 0x607b2870 hid) (h : (State.configCheck s) = (aa, tt)) : tt.view hid = s.view hid := by
  have := configCheck_view (hid := hid) s hm
  rwa [h] at this

theorem restoreRetained_view (s : State) (declared : Bool) (hm : Sub 0x60000 hid) : (State.restoreRetained s declared).view hid = s.view hid := by
  unfold State.restoreRetained
  repeat' (first | assumption | intro _ | simp (disch := first | exact hide_on (Sub.of (by assumption) (by decide)) | with_reducible rfl | exact Sub.of (by assumption) (by decide) | assumption) only [raise_view, modTask_view, writeArea_view, view_lit, apply_ite (State.view hid), ite_self] | with_reducible apply foldl_keep | with_reducible apply foldl_keep2 | split | with_reducible rfl)

theorem programCheck_view (s : State) (hm : Sub 0x16a000 hid) : (State.programCheck s).2.view hid = s.view hid := by
  unfold State.programCheck
  repeat' (first | assumption | intro _ | simp (disch := first | exact hide_on (Sub.of (by assumption) (by decide)) | with_reducible rfl | exact Sub.of (by assumption) (by decide) | assumption) only [startProgram_view, stepFailed_view, restoreRetained_view, view_lit, apply_ite (State.view hid), ite_self] | split | with_reducible rfl)
theorem programCheck_view' {s : State} {aa : _} {tt : State} (hm : Sub 0x16a000 hid) (h : (State.programCheck s) = (aa, tt)) : tt.view hid = s.view hid := by
  have := programCheck_view (hid := hid) s hm
  rwa [h] at this

theorem archPowerUp_view (s : State) : (State.archPowerUp s).view hid = s.view hid := by
  unfold State.archPowerUp
  repeat' (first | assumption | intro _ | simp (disch := first | exact hide_on (Sub.of (by assumption) (by decide)) | with_reducible rfl | exact Sub.of (by assumption) (by decide) | assumption) only [archMandatory_view, view_lit, apply_ite (State.view hid), ite_self] | split | with_reducible rfl)

theorem leaveM1_view (s : State) (hm : Sub 0x607fa878 hid) : (State.leaveM1 s).view hid = s.view hid := by
  unfold State.leaveM1
  repeat' (first | assumption | intro _ | refine (configCheck_view' (Sub.of (by assumption) (by decide)) (by assumption)).trans ?_ | refine (programCheck_view' (Sub.of (by assumption) (by decide)) (by assumption)).trans ?_ | simp (disch := first | exact hide_on (Sub.of (by assumption) (by decide)) | with_reducible rfl | exact Sub.of (by assumption) (by decide) | assumption) only [auto_view, modMu_view, configCheck_view, programCheck_view, view_lit, apply_ite (State.view hid), ite_self] | split | with_reducible rfl)

theorem powerFails_view (s : State) (hm : Sub 0x500044000 hid) : (s.powerFails).view hid = s.view hid := by
  unfold State.powerFails
  extract_lets s1 s2 src s3
  have h1 : s1.view hid = s.view hid := modSup_view _ _ (Sub.of hm (by decide))
  have h2 : s2.view hid = s.view hid := (panelAbandon_view _ (Sub.of hm (by decide))).trans h1
  have h3 : s3.view hid = s.view hid := ite_view ((show _ = s2.view hid by simp (disch := first | exact hide_on (Sub.of (by assumption) (by decide)) | with_reducible rfl | exact Sub.of (by assumption) (by decide) | assumption) only [raise_view, view_lit]).trans h2) h2
  refine ite_view h1 ?_
  split
  · exact ite_view ((modPair_view _ _ (Sub.of hm (by decide))).trans h3) ((beginSave_view _ (Sub.of hm (by decide))).trans h3)
  · exact ite_view ((depart_view _ _ (Sub.of hm (by decide))).trans h3) ((beginSave_view _ (Sub.of hm (by decide))).trans h3)

theorem diagPoints_view (s : State) (base : ℕ) (v : List ℕ) (t : ℕ) (hm : Sub 0x32000 hid) : (State.diagPoints s base v t).view hid = s.view hid := by
  unfold State.diagPoints
  repeat' (first | assumption | intro _ | simp (disch := first | exact hide_on (Sub.of (by assumption) (by decide)) | with_reducible rfl | exact Sub.of (by assumption) (by decide) | assumption) only [publishAp_view, publishBp_view, view_lit, apply_ite (State.view hid), ite_self] | with_reducible apply foldl_keep | with_reducible apply foldl_keep2 | split | with_reducible rfl)

theorem restart_view (s : State) (hm : Sub 0x4008 hid) : (State.restart s).view hid = s.view hid := by
  unfold State.restart
  repeat' (first | assumption | intro _ | simp (disch := first | exact hide_on (Sub.of (by assumption) (by decide)) | with_reducible rfl | exact Sub.of (by assumption) (by decide) | assumption) only [auto_view, depart_view, view_lit, apply_ite (State.view hid), ite_self] | split | with_reducible rfl)

theorem modFw_view (s : State) (k : ℕ) (f : FwSlot → FwSlot) (hm : Sub 0x200000000 hid) : (State.modFw s k f).view hid = s.view hid := by
  unfold State.modFw
  repeat' (first | assumption | intro _ | simp (disch := first | exact hide_on (Sub.of (by assumption) (by decide)) | with_reducible rfl | exact Sub.of (by assumption) (by decide) | assumption) only [view_lit, apply_ite (State.view hid), ite_self] | split | with_reducible rfl)

theorem updateVerifyApply_view (op : Option ℕ) (b : List Byte) (x2 : U32) (s : State) (hm : Sub 0x200000000 hid) : (updateVerifyApply op b x2 s).view hid = s.view hid := by
  unfold updateVerifyApply
  repeat' (first | assumption | intro _ | simp (disch := first | exact hide_on (Sub.of (by assumption) (by decide)) | with_reducible rfl | exact Sub.of (by assumption) (by decide) | assumption) only [modFw_view, view_lit, apply_ite (State.view hid), ite_self] | split | with_reducible rfl)

theorem verifyDone_view (s : State) (k : ℕ) (op : Option ℕ) (hm : Sub 0x200000200 hid) : (State.verifyDone s k op).view hid = s.view hid := by
  unfold State.verifyDone
  repeat' (first | assumption | intro _ | simp (disch := first | exact hide_on (Sub.of (by assumption) (by decide)) | with_reducible rfl | exact Sub.of (by assumption) (by decide) | assumption) only [raise_view, completeOpt_view, modFw_view, view_lit, apply_ite (State.view hid), ite_self] | split | with_reducible rfl)

theorem activateApply_view (op : Option ℕ) (b : List Byte) (x2 : U32) (s : State) (hm : Sub 0x200000008 hid) : (activateApply op b x2 s).view hid = s.view hid := by
  unfold activateApply
  repeat' (first | assumption | intro _ | simp (disch := first | exact hide_on (Sub.of (by assumption) (by decide)) | with_reducible rfl | exact Sub.of (by assumption) (by decide) | assumption) only [propose_view, view_lit, apply_ite (State.view hid), ite_self] | split | with_reducible rfl)

theorem leaveM9_view (s : State) (hm : Sub 0x8 hid) : (State.leaveM9 s).view hid = s.view hid := by
  unfold State.leaveM9
  repeat' (first | assumption | intro _ | simp (disch := first | exact hide_on (Sub.of (by assumption) (by decide)) | with_reducible rfl | exact Sub.of (by assumption) (by decide) | assumption) only [auto_view, modMu_view, view_lit, apply_ite (State.view hid), ite_self] | split | with_reducible rfl)

theorem activateConfig_view {s t : State} {b : Nat} (h : s.activateConfig = some (b, t)) (hm : Sub 0x607b2870 hid) : t.view hid = s.view hid := by
  unfold State.activateConfig at h
  split at h
  · cases h; rfl
  · split at h
    · cases h; simp (disch := first | exact hide_on (Sub.of (by assumption) (by decide)) | with_reducible rfl | exact Sub.of (by assumption) (by decide) | assumption) only [view_lit]
    · split at h
      · cases h; rfl
      · dsimp only at h
        split at h
        · cases h
        · cases h
          simp (disch := first | exact hide_on (Sub.of (by assumption) (by decide)) | with_reducible rfl | exact Sub.of (by assumption) (by decide) | assumption) only [loadBase_view, raise_view, view_lit]

theorem newFirmwareReady_view (s : State) (a : Activation) (hm : Sub 0x2607b2a7a hid) : (s.newFirmwareReady a).view hid = s.view hid := by
  unfold State.newFirmwareReady
  split
  · simp (disch := first | exact hide_on (Sub.of (by assumption) (by decide)) | with_reducible rfl | exact Sub.of (by assumption) (by decide) | assumption) only [view_lit]
  · rename_i h
    have h0 := (activateConfig_view h (Sub.of hm (by decide))).trans (runFirmware_view _ _ (Sub.of hm (by decide)))
    extract_lets hold src s1 s2 s3
    have h3 : s3.view hid = s.view hid := (show s3.view hid = _ by simp (disch := first | exact hide_on (Sub.of (by assumption) (by decide)) | with_reducible rfl | exact Sub.of (by assumption) (by decide) | assumption) only [s3, s2, s1, completeOpt_view, raise_view, view_lit]; exact h0)
    exact ite_view ((auto_view _ _ _ _ (Sub.of hm (by decide))).trans ((modMu_view _ _ (Sub.of hm (by decide))).trans h3))
      ((leaveM9_view _ (Sub.of hm (by decide))).trans h3)

theorem oldFirmwareReady_view (s : State) (a : Activation) (hm : Sub 0x200000208 hid) : (State.oldFirmwareReady s a).view hid = s.view hid := by
  unfold State.oldFirmwareReady
  repeat' (first | assumption | intro _ | simp (disch := first | exact hide_on (Sub.of (by assumption) (by decide)) | with_reducible rfl | exact Sub.of (by assumption) (by decide) | assumption) only [raise_view, completeOpt_view, leaveM9_view, view_lit, apply_ite (State.view hid), ite_self] | split | with_reducible rfl)

theorem activationLate_view (s : State) (a : Activation) (hm : Sub 0x200000208 hid) : (State.activationLate s a).view hid = s.view hid := by
  unfold State.activationLate
  repeat' (first | assumption | intro _ | simp (disch := first | exact hide_on (Sub.of (by assumption) (by decide)) | with_reducible rfl | exact Sub.of (by assumption) (by decide) | assumption) only [completeOpt_view, auto_view, modMu_view, view_lit, apply_ite (State.view hid), ite_self] | split | with_reducible rfl)

theorem rollback_view (s : State) (hm : Sub 0x200004008 hid) : (State.rollback s).view hid = s.view hid := by
  unfold State.rollback
  repeat' (first | assumption | intro _ | simp (disch := first | exact hide_on (Sub.of (by assumption) (by decide)) | with_reducible rfl | exact Sub.of (by assumption) (by decide) | assumption) only [restart_view, view_lit, apply_ite (State.view hid), ite_self] | split | with_reducible rfl)

theorem archUnhold_view (s : State) : (State.archUnhold s).view hid = s.view hid := by
  unfold State.archUnhold
  repeat' (first | assumption | intro _ | simp (disch := first | exact hide_on (Sub.of (by assumption) (by decide)) | with_reducible rfl | exact Sub.of (by assumption) (by decide) | assumption) only [stagePut_view, view_lit, apply_ite (State.view hid), ite_self] | with_reducible apply foldl_keep | with_reducible apply foldl_keep2 | split | with_reducible rfl)

theorem archTellLost_view (s : State) : (State.archTellLost s).view hid = s.view hid := by
  unfold State.archTellLost
  repeat' (first | assumption | intro _ | simp (disch := first | exact hide_on (Sub.of (by assumption) (by decide)) | with_reducible rfl | exact Sub.of (by assumption) (by decide) | assumption) only [archMandatory_view, view_lit, apply_ite (State.view hid), ite_self] | split | with_reducible rfl)

theorem archFlush_view (s : State) (x1 : ℕ) (hm : Sub 0x1000 hid) : (State.archFlush s x1).view hid = s.view hid := by
  induction x1 generalizing s with
  | zero => rfl
  | succ n ih =>
    unfold State.archFlush
    repeat' (first | assumption | intro _ | simp (disch := first | exact hide_on (Sub.of (by assumption) (by decide)) | with_reducible rfl | exact Sub.of (by assumption) (by decide) | assumption) only [ih, archPut_view, view_lit, apply_ite (State.view hid), ite_self] | split | with_reducible rfl)

theorem trendPut_view (s : State) (r : TrendRec) (hm : Sub 0x800 hid) : (State.trendPut s r).view hid = s.view hid := by
  unfold State.trendPut
  repeat' (first | assumption | intro _ | simp (disch := first | exact hide_on (Sub.of (by assumption) (by decide)) | with_reducible rfl | exact Sub.of (by assumption) (by decide) | assumption) only [raise_view, view_lit, apply_ite (State.view hid), ite_self] | split | with_reducible rfl)

theorem trendSample_view (s : State) (c : ℕ) (hm : Sub 0x800 hid) : (State.trendSample s c).view hid = s.view hid := by
  unfold State.trendSample
  repeat' (first | assumption | intro _ | simp (disch := first | exact hide_on (Sub.of (by assumption) (by decide)) | with_reducible rfl | exact Sub.of (by assumption) (by decide) | assumption) only [trendPut_view, view_lit, apply_ite (State.view hid), ite_self] | split | with_reducible rfl)

theorem internalFault_view (s : State) (hm : Sub 0x200000480 hid) : (State.internalFault s).view hid = s.view hid := by
  unfold State.internalFault
  repeat' (first | assumption | intro _ | simp (disch := first | exact hide_on (Sub.of (by assumption) (by decide)) | with_reducible rfl | exact Sub.of (by assumption) (by decide) | assumption) only [archMandatory_view, answerRelay_view, view_lit, apply_ite (State.view hid), ite_self] | with_reducible apply foldl_keep | with_reducible apply foldl_keep2 | split | with_reducible rfl)

theorem lateRecord_view (s : State) (k : ℕ) : (State.lateRecord s k).view hid = s.view hid := by
  unfold State.lateRecord
  repeat' (first | assumption | intro _ | simp (disch := first | exact hide_on (Sub.of (by assumption) (by decide)) | with_reducible rfl | exact Sub.of (by assumption) (by decide) | assumption) only [stageRec_view, archMandatory_view, archRouted_view, view_lit, apply_ite (State.view hid), ite_self] | split | with_reducible rfl)

theorem lateNotify_view (s : State) (k : ℕ) : (State.lateNotify s k).view hid = s.view hid := by
  unfold State.lateNotify
  repeat' (first | assumption | intro _ | simp (disch := first | exact hide_on (Sub.of (by assumption) (by decide)) | with_reducible rfl | exact Sub.of (by assumption) (by decide) | assumption) only [eventNotify_view, view_lit, apply_ite (State.view hid), ite_self] | split | with_reducible rfl)

theorem sendWaiting_view (s : State) (id : U32) : (State.sendWaiting s id).view hid = s.view hid := by
  unfold State.sendWaiting
  repeat' (first | assumption | intro _ | simp (disch := first | exact hide_on (Sub.of (by assumption) (by decide)) | with_reducible rfl | exact Sub.of (by assumption) (by decide) | assumption) only [modSession_view, notify_view, view_lit, apply_ite (State.view hid), ite_self] | with_reducible apply foldl_keep | with_reducible apply foldl_keep2 | split | with_reducible rfl)

theorem countRestart_view (s : State) (hm : Sub 0x208 hid) : (State.countRestart s).view hid = s.view hid := by
  unfold State.countRestart
  repeat' (first | assumption | intro _ | simp (disch := first | exact hide_on (Sub.of (by assumption) (by decide)) | with_reducible rfl | exact Sub.of (by assumption) (by decide) | assumption) only [auto_view, withdraw_view, modMu_view, view_lit, apply_ite (State.view hid), ite_self] | split | with_reducible rfl)

theorem resend_view (s : State) : (State.resend s).view hid = s.view hid := by
  unfold State.resend
  repeat' (first | assumption | intro _ | simp (disch := first | exact hide_on (Sub.of (by assumption) (by decide)) | with_reducible rfl | exact Sub.of (by assumption) (by decide) | assumption) only [emit_view, lane_view, journal_view, view_lit, apply_ite (State.view hid), ite_self] | with_reducible apply foldl_keep | with_reducible apply foldl_keep2 | split | with_reducible rfl)

theorem curatorDone_view (s : State) (cause : ℕ) (since : ℕ) (hm : Sub 0x208 hid) : (State.curatorDone s cause since).view hid = s.view hid := by
  unfold State.curatorDone
  repeat' (first | assumption | intro _ | simp (disch := first | exact hide_on (Sub.of (by assumption) (by decide)) | with_reducible rfl | exact Sub.of (by assumption) (by decide) | assumption) only [raise_view, modMu_view, lateRecord_view, lateNotify_view, sendWaiting_view, countRestart_view, resend_view, view_lit, apply_ite (State.view hid), ite_self] | with_reducible apply foldl_keep | with_reducible apply foldl_keep2 | split | with_reducible rfl)

theorem digestLate_view (s : State) (n : ℕ) (osn : ℕ) (hm : Sub 0xf0024000 hid) : (State.digestLate s n osn).view hid = s.view hid := by
  unfold State.digestLate
  repeat' (first | assumption | intro _ | simp (disch := first | exact hide_on (Sub.of (by assumption) (by decide)) | with_reducible rfl | exact Sub.of (by assumption) (by decide) | assumption) only [raise_view, modPair_view, release_view, view_lit, apply_ite (State.view hid), ite_self] | split | with_reducible rfl)

theorem alApplyDue_view (s : State) (hm : Sub 0x1fc7b2e64 hid) : (State.alApplyDue s).view hid = s.view hid := by
  unfold State.alApplyDue
  repeat' (first | assumption | intro _ | refine (alDue_view' (Sub.of (by assumption) (by decide)) (by assumption)).trans ?_ | simp (disch := first | exact hide_on (Sub.of (by assumption) (by decide)) | with_reducible rfl | exact Sub.of (by assumption) (by decide) | assumption) only [alDue_view, alApply_view, view_lit, apply_ite (State.view hid), ite_self] | with_reducible apply foldl_keep | with_reducible apply foldl_keep2 | split | with_reducible rfl)

theorem alApplyFrame_view (s : State) (cmds : List (ℕ × List Byte × ℕ)) (hm : Sub 0x1fc7b2e64 hid) : (State.alApplyFrame s cmds).view hid = s.view hid := by
  unfold State.alApplyFrame
  repeat' (first | assumption | intro _ | simp (disch := first | exact hide_on (Sub.of (by assumption) (by decide)) | with_reducible rfl | exact Sub.of (by assumption) (by decide) | assumption) only [alApply_view, view_lit, apply_ite (State.view hid), ite_self] | with_reducible apply foldl_keep | with_reducible apply foldl_keep2 | split | with_reducible rfl)

theorem ownScan_view (s : State) (mis : List (ℕ × ℕ)) (hm : Sub 0x1fe7bee64 hid) : (State.ownScan s mis).view hid = s.view hid := by
  unfold State.ownScan
  repeat' (first | assumption | intro _ | simp (disch := first | exact hide_on (Sub.of (by assumption) (by decide)) | with_reducible rfl | exact Sub.of (by assumption) (by decide) | assumption) only [alarmScan_view, alApplyDue_view, view_lit, apply_ite (State.view hid), ite_self] | split | with_reducible rfl)

theorem scanIf_view (s : State) (f : State → State → Bool) (hm : Sub 0x1fe7bee64 hid) : (State.scanIf s f).view hid = s.view hid := by
  unfold State.scanIf
  repeat' (first | assumption | intro _ | simp (disch := first | exact hide_on (Sub.of (by assumption) (by decide)) | with_reducible rfl | exact Sub.of (by assumption) (by decide) | assumption) only [alarmScan_view, alApplyDue_view, view_lit, apply_ite (State.view hid), ite_self] | split | with_reducible rfl)

theorem forwardAnswer_view (s : State) (box : ℕ) (d : List Byte) : (State.forwardAnswer s box d).view hid = s.view hid := by
  unfold State.forwardAnswer
  repeat' (first | assumption | intro _ | simp (disch := first | exact hide_on (Sub.of (by assumption) (by decide)) | with_reducible rfl | exact Sub.of (by assumption) (by decide) | assumption) only [emit_view, view_lit, apply_ite (State.view hid), ite_self] | split | with_reducible rfl)

theorem splitCmd_keeps  (hm : Sub 0x800200 hid) : KeepsCmd hid splitCmd where
  run := by
    unfold splitCmd
    simp only [Cmd.plain]
    repeat' (first | assumption | intro _ | refine (startOp_view' (Sub.of (by assumption) (by decide)) (by assumption)).trans ?_ | simp (disch := first | exact hide_on (Sub.of (by assumption) (by decide)) | with_reducible rfl | exact Sub.of (by assumption) (by decide) | assumption) only [drainPair_view, startOp_view, okRep, refuse, runAsync, id, view_lit, apply_ite (State.view hid), ite_self] | exact Sub.of (by assumption) (by decide) | with_reducible apply completing_view | with_reducible apply foldl_keep | with_reducible apply foldl_keep2 | split | with_reducible rfl)
  after := by
    unfold splitCmd
    simp only [Cmd.plain]
    repeat' (first | assumption | intro _ | refine (startOp_view' (Sub.of (by assumption) (by decide)) (by assumption)).trans ?_ | simp (disch := first | exact hide_on (Sub.of (by assumption) (by decide)) | with_reducible rfl | exact Sub.of (by assumption) (by decide) | assumption) only [drainPair_view, startOp_view, okRep, refuse, runAsync, id, view_lit, apply_ite (State.view hid), ite_self] | exact Sub.of (by assumption) (by decide) | with_reducible apply completing_view | with_reducible apply foldl_keep | with_reducible apply foldl_keep2 | split | with_reducible rfl)
  apply := by
    unfold splitCmd
    simp only [Cmd.plain]
    repeat' (first | assumption | intro _ | refine (startOp_view' (Sub.of (by assumption) (by decide)) (by assumption)).trans ?_ | simp (disch := first | exact hide_on (Sub.of (by assumption) (by decide)) | with_reducible rfl | exact Sub.of (by assumption) (by decide) | assumption) only [drainPair_view, startOp_view, okRep, refuse, runAsync, id, view_lit, apply_ite (State.view hid), ite_self] | exact Sub.of (by assumption) (by decide) | with_reducible apply completing_view | with_reducible apply foldl_keep | with_reducible apply foldl_keep2 | split | with_reducible rfl)
  accept := by
    intro f hf
    first
    | (simp only [splitCmd, Cmd.plain, reduceCtorEq] at hf; done)
    | (simp only [splitCmd, Cmd.plain, alAccept, Option.some.injEq] at hf
       subst hf
       repeat' (first | assumption | intro _ | refine (startOp_view' (Sub.of (by assumption) (by decide)) (by assumption)).trans ?_ | simp (disch := first | exact hide_on (Sub.of (by assumption) (by decide)) | with_reducible rfl | exact Sub.of (by assumption) (by decide) | assumption) only [drainPair_view, startOp_view, okRep, refuse, runAsync, id, view_lit, apply_ite (State.view hid), ite_self] | exact Sub.of (by assumption) (by decide) | with_reducible apply completing_view | with_reducible apply foldl_keep | with_reducible apply foldl_keep2 | split | with_reducible rfl))

theorem joinCmd_keeps  (hm : Sub 0x800200 hid) : KeepsCmd hid joinCmd where
  run := by
    unfold joinCmd
    simp only [Cmd.plain]
    repeat' (first | assumption | intro _ | refine (startOp_view' (Sub.of (by assumption) (by decide)) (by assumption)).trans ?_ | simp (disch := first | exact hide_on (Sub.of (by assumption) (by decide)) | with_reducible rfl | exact Sub.of (by assumption) (by decide) | assumption) only [drainPair_view, startOp_view, okRep, refuse, runAsync, id, view_lit, apply_ite (State.view hid), ite_self] | exact Sub.of (by assumption) (by decide) | with_reducible apply completing_view | with_reducible apply foldl_keep | with_reducible apply foldl_keep2 | split | with_reducible rfl)
  after := by
    unfold joinCmd
    simp only [Cmd.plain]
    repeat' (first | assumption | intro _ | refine (startOp_view' (Sub.of (by assumption) (by decide)) (by assumption)).trans ?_ | simp (disch := first | exact hide_on (Sub.of (by assumption) (by decide)) | with_reducible rfl | exact Sub.of (by assumption) (by decide) | assumption) only [drainPair_view, startOp_view, okRep, refuse, runAsync, id, view_lit, apply_ite (State.view hid), ite_self] | exact Sub.of (by assumption) (by decide) | with_reducible apply completing_view | with_reducible apply foldl_keep | with_reducible apply foldl_keep2 | split | with_reducible rfl)
  apply := by
    unfold joinCmd
    simp only [Cmd.plain]
    repeat' (first | assumption | intro _ | refine (startOp_view' (Sub.of (by assumption) (by decide)) (by assumption)).trans ?_ | simp (disch := first | exact hide_on (Sub.of (by assumption) (by decide)) | with_reducible rfl | exact Sub.of (by assumption) (by decide) | assumption) only [drainPair_view, startOp_view, okRep, refuse, runAsync, id, view_lit, apply_ite (State.view hid), ite_self] | exact Sub.of (by assumption) (by decide) | with_reducible apply completing_view | with_reducible apply foldl_keep | with_reducible apply foldl_keep2 | split | with_reducible rfl)
  accept := by
    intro f hf
    first
    | (simp only [joinCmd, Cmd.plain, reduceCtorEq] at hf; done)
    | (simp only [joinCmd, Cmd.plain, alAccept, Option.some.injEq] at hf
       subst hf
       repeat' (first | assumption | intro _ | refine (startOp_view' (Sub.of (by assumption) (by decide)) (by assumption)).trans ?_ | simp (disch := first | exact hide_on (Sub.of (by assumption) (by decide)) | with_reducible rfl | exact Sub.of (by assumption) (by decide) | assumption) only [drainPair_view, startOp_view, okRep, refuse, runAsync, id, view_lit, apply_ite (State.view hid), ite_self] | exact Sub.of (by assumption) (by decide) | with_reducible apply completing_view | with_reducible apply foldl_keep | with_reducible apply foldl_keep2 | split | with_reducible rfl))

theorem debugAttachCmd_keeps  (hm : Sub 0x800000 hid) : KeepsCmd hid debugAttachCmd where
  run := by
    unfold debugAttachCmd
    simp only [Cmd.plain]
    repeat' (first | assumption | intro _ | refine (startOp_view' (Sub.of (by assumption) (by decide)) (by assumption)).trans ?_ | simp (disch := first | exact hide_on (Sub.of (by assumption) (by decide)) | with_reducible rfl | exact Sub.of (by assumption) (by decide) | assumption) only [drainPair_view, modCore_view, startOp_view, okRep, refuse, runAsync, id, view_lit, apply_ite (State.view hid), ite_self] | exact Sub.of (by assumption) (by decide) | with_reducible apply completing_view | with_reducible apply foldl_keep | with_reducible apply foldl_keep2 | split | with_reducible rfl)
  after := by
    unfold debugAttachCmd
    simp only [Cmd.plain]
    repeat' (first | assumption | intro _ | refine (startOp_view' (Sub.of (by assumption) (by decide)) (by assumption)).trans ?_ | simp (disch := first | exact hide_on (Sub.of (by assumption) (by decide)) | with_reducible rfl | exact Sub.of (by assumption) (by decide) | assumption) only [drainPair_view, modCore_view, startOp_view, okRep, refuse, runAsync, id, view_lit, apply_ite (State.view hid), ite_self] | exact Sub.of (by assumption) (by decide) | with_reducible apply completing_view | with_reducible apply foldl_keep | with_reducible apply foldl_keep2 | split | with_reducible rfl)
  apply := by
    unfold debugAttachCmd
    simp only [Cmd.plain]
    repeat' (first | assumption | intro _ | refine (startOp_view' (Sub.of (by assumption) (by decide)) (by assumption)).trans ?_ | simp (disch := first | exact hide_on (Sub.of (by assumption) (by decide)) | with_reducible rfl | exact Sub.of (by assumption) (by decide) | assumption) only [drainPair_view, modCore_view, startOp_view, okRep, refuse, runAsync, id, view_lit, apply_ite (State.view hid), ite_self] | exact Sub.of (by assumption) (by decide) | with_reducible apply completing_view | with_reducible apply foldl_keep | with_reducible apply foldl_keep2 | split | with_reducible rfl)
  accept := by
    intro f hf
    first
    | (simp only [debugAttachCmd, Cmd.plain, reduceCtorEq] at hf; done)
    | (simp only [debugAttachCmd, Cmd.plain, alAccept, Option.some.injEq] at hf
       subst hf
       repeat' (first | assumption | intro _ | refine (startOp_view' (Sub.of (by assumption) (by decide)) (by assumption)).trans ?_ | simp (disch := first | exact hide_on (Sub.of (by assumption) (by decide)) | with_reducible rfl | exact Sub.of (by assumption) (by decide) | assumption) only [drainPair_view, modCore_view, startOp_view, okRep, refuse, runAsync, id, view_lit, apply_ite (State.view hid), ite_self] | exact Sub.of (by assumption) (by decide) | with_reducible apply completing_view | with_reducible apply foldl_keep | with_reducible apply foldl_keep2 | split | with_reducible rfl))

theorem debugDetachCmd_keeps  (hm : Sub 0x800000 hid) : KeepsCmd hid debugDetachCmd where
  run := by
    unfold debugDetachCmd
    simp only [Cmd.plain]
    repeat' (first | assumption | intro _ | refine (startOp_view' (Sub.of (by assumption) (by decide)) (by assumption)).trans ?_ | simp (disch := first | exact hide_on (Sub.of (by assumption) (by decide)) | with_reducible rfl | exact Sub.of (by assumption) (by decide) | assumption) only [archMandatory_view, detach_view, startOp_view, okRep, refuse, runAsync, id, view_lit, apply_ite (State.view hid), ite_self] | exact Sub.of (by assumption) (by decide) | with_reducible apply completing_view | with_reducible apply foldl_keep | with_reducible apply foldl_keep2 | split | with_reducible rfl)
  after := by
    unfold debugDetachCmd
    simp only [Cmd.plain]
    repeat' (first | assumption | intro _ | refine (startOp_view' (Sub.of (by assumption) (by decide)) (by assumption)).trans ?_ | simp (disch := first | exact hide_on (Sub.of (by assumption) (by decide)) | with_reducible rfl | exact Sub.of (by assumption) (by decide) | assumption) only [archMandatory_view, detach_view, startOp_view, okRep, refuse, runAsync, id, view_lit, apply_ite (State.view hid), ite_self] | exact Sub.of (by assumption) (by decide) | with_reducible apply completing_view | with_reducible apply foldl_keep | with_reducible apply foldl_keep2 | split | with_reducible rfl)
  apply := by
    unfold debugDetachCmd
    simp only [Cmd.plain]
    repeat' (first | assumption | intro _ | refine (startOp_view' (Sub.of (by assumption) (by decide)) (by assumption)).trans ?_ | simp (disch := first | exact hide_on (Sub.of (by assumption) (by decide)) | with_reducible rfl | exact Sub.of (by assumption) (by decide) | assumption) only [archMandatory_view, detach_view, startOp_view, okRep, refuse, runAsync, id, view_lit, apply_ite (State.view hid), ite_self] | exact Sub.of (by assumption) (by decide) | with_reducible apply completing_view | with_reducible apply foldl_keep | with_reducible apply foldl_keep2 | split | with_reducible rfl)
  accept := by
    intro f hf
    first
    | (simp only [debugDetachCmd, Cmd.plain, reduceCtorEq] at hf; done)
    | (simp only [debugDetachCmd, Cmd.plain, alAccept, Option.some.injEq] at hf
       subst hf
       repeat' (first | assumption | intro _ | refine (startOp_view' (Sub.of (by assumption) (by decide)) (by assumption)).trans ?_ | simp (disch := first | exact hide_on (Sub.of (by assumption) (by decide)) | with_reducible rfl | exact Sub.of (by assumption) (by decide) | assumption) only [archMandatory_view, detach_view, startOp_view, okRep, refuse, runAsync, id, view_lit, apply_ite (State.view hid), ite_self] | exact Sub.of (by assumption) (by decide) | with_reducible apply completing_view | with_reducible apply foldl_keep | with_reducible apply foldl_keep2 | split | with_reducible rfl))

theorem loopInjectCmd_keeps  (hm : Sub 0x100200 hid) : KeepsCmd hid loopInjectCmd where
  run := by
    unfold loopInjectCmd
    simp only [Cmd.plain]
    repeat' (first | assumption | intro _ | refine (startOp_view' (Sub.of (by assumption) (by decide)) (by assumption)).trans ?_ | simp (disch := first | exact hide_on (Sub.of (by assumption) (by decide)) | with_reducible rfl | exact Sub.of (by assumption) (by decide) | assumption) only [injectRun_view, startOp_view, okRep, refuse, runAsync, id, view_lit, apply_ite (State.view hid), ite_self] | exact Sub.of (by assumption) (by decide) | with_reducible apply completing_view | with_reducible apply foldl_keep | with_reducible apply foldl_keep2 | split | with_reducible rfl)
  after := by
    unfold loopInjectCmd
    simp only [Cmd.plain]
    repeat' (first | assumption | intro _ | refine (startOp_view' (Sub.of (by assumption) (by decide)) (by assumption)).trans ?_ | simp (disch := first | exact hide_on (Sub.of (by assumption) (by decide)) | with_reducible rfl | exact Sub.of (by assumption) (by decide) | assumption) only [injectRun_view, startOp_view, okRep, refuse, runAsync, id, view_lit, apply_ite (State.view hid), ite_self] | exact Sub.of (by assumption) (by decide) | with_reducible apply completing_view | with_reducible apply foldl_keep | with_reducible apply foldl_keep2 | split | with_reducible rfl)
  apply := by
    unfold loopInjectCmd
    simp only [Cmd.plain]
    repeat' (first | assumption | intro _ | refine (startOp_view' (Sub.of (by assumption) (by decide)) (by assumption)).trans ?_ | simp (disch := first | exact hide_on (Sub.of (by assumption) (by decide)) | with_reducible rfl | exact Sub.of (by assumption) (by decide) | assumption) only [injectRun_view, startOp_view, okRep, refuse, runAsync, id, view_lit, apply_ite (State.view hid), ite_self] | exact Sub.of (by assumption) (by decide) | with_reducible apply completing_view | with_reducible apply foldl_keep | with_reducible apply foldl_keep2 | split | with_reducible rfl)
  accept := by
    intro f hf
    first
    | (simp only [loopInjectCmd, Cmd.plain, reduceCtorEq] at hf; done)
    | (simp only [loopInjectCmd, Cmd.plain, alAccept, Option.some.injEq] at hf
       subst hf
       repeat' (first | assumption | intro _ | refine (startOp_view' (Sub.of (by assumption) (by decide)) (by assumption)).trans ?_ | simp (disch := first | exact hide_on (Sub.of (by assumption) (by decide)) | with_reducible rfl | exact Sub.of (by assumption) (by decide) | assumption) only [injectRun_view, startOp_view, okRep, refuse, runAsync, id, view_lit, apply_ite (State.view hid), ite_self] | exact Sub.of (by assumption) (by decide) | with_reducible apply completing_view | with_reducible apply foldl_keep | with_reducible apply foldl_keep2 | split | with_reducible rfl))

theorem loopCaptureCmd_keeps  (hm : Sub 0x100200 hid) : KeepsCmd hid loopCaptureCmd where
  run := by
    unfold loopCaptureCmd
    simp only [Cmd.plain]
    repeat' (first | assumption | intro _ | refine (startOp_view' (Sub.of (by assumption) (by decide)) (by assumption)).trans ?_ | simp (disch := first | exact hide_on (Sub.of (by assumption) (by decide)) | with_reducible rfl | exact Sub.of (by assumption) (by decide) | assumption) only [captureRun_view, startOp_view, okRep, refuse, runAsync, id, view_lit, apply_ite (State.view hid), ite_self] | exact Sub.of (by assumption) (by decide) | with_reducible apply completing_view | with_reducible apply foldl_keep | with_reducible apply foldl_keep2 | split | with_reducible rfl)
  after := by
    unfold loopCaptureCmd
    simp only [Cmd.plain]
    repeat' (first | assumption | intro _ | refine (startOp_view' (Sub.of (by assumption) (by decide)) (by assumption)).trans ?_ | simp (disch := first | exact hide_on (Sub.of (by assumption) (by decide)) | with_reducible rfl | exact Sub.of (by assumption) (by decide) | assumption) only [captureRun_view, startOp_view, okRep, refuse, runAsync, id, view_lit, apply_ite (State.view hid), ite_self] | exact Sub.of (by assumption) (by decide) | with_reducible apply completing_view | with_reducible apply foldl_keep | with_reducible apply foldl_keep2 | split | with_reducible rfl)
  apply := by
    unfold loopCaptureCmd
    simp only [Cmd.plain]
    repeat' (first | assumption | intro _ | refine (startOp_view' (Sub.of (by assumption) (by decide)) (by assumption)).trans ?_ | simp (disch := first | exact hide_on (Sub.of (by assumption) (by decide)) | with_reducible rfl | exact Sub.of (by assumption) (by decide) | assumption) only [captureRun_view, startOp_view, okRep, refuse, runAsync, id, view_lit, apply_ite (State.view hid), ite_self] | exact Sub.of (by assumption) (by decide) | with_reducible apply completing_view | with_reducible apply foldl_keep | with_reducible apply foldl_keep2 | split | with_reducible rfl)
  accept := by
    intro f hf
    first
    | (simp only [loopCaptureCmd, Cmd.plain, reduceCtorEq] at hf; done)
    | (simp only [loopCaptureCmd, Cmd.plain, alAccept, Option.some.injEq] at hf
       subst hf
       repeat' (first | assumption | intro _ | refine (startOp_view' (Sub.of (by assumption) (by decide)) (by assumption)).trans ?_ | simp (disch := first | exact hide_on (Sub.of (by assumption) (by decide)) | with_reducible rfl | exact Sub.of (by assumption) (by decide) | assumption) only [captureRun_view, startOp_view, okRep, refuse, runAsync, id, view_lit, apply_ite (State.view hid), ite_self] | exact Sub.of (by assumption) (by decide) | with_reducible apply completing_view | with_reducible apply foldl_keep | with_reducible apply foldl_keep2 | split | with_reducible rfl))

theorem journalReadCmd_keeps  : KeepsCmd hid journalReadCmd where
  run := by
    unfold journalReadCmd
    simp only [Cmd.plain]
    repeat' (first | assumption | intro _ | refine (startOp_view' (Sub.of (by assumption) (by decide)) (by assumption)).trans ?_ | simp (disch := first | exact hide_on (Sub.of (by assumption) (by decide)) | with_reducible rfl | exact Sub.of (by assumption) (by decide) | assumption) only [startOp_view, okRep, refuse, runAsync, id, view_lit, apply_ite (State.view hid), ite_self] | exact Sub.of (by assumption) (by decide) | with_reducible apply completing_view | with_reducible apply foldl_keep | with_reducible apply foldl_keep2 | split | with_reducible rfl)
  after := by
    unfold journalReadCmd
    simp only [Cmd.plain]
    repeat' (first | assumption | intro _ | refine (startOp_view' (Sub.of (by assumption) (by decide)) (by assumption)).trans ?_ | simp (disch := first | exact hide_on (Sub.of (by assumption) (by decide)) | with_reducible rfl | exact Sub.of (by assumption) (by decide) | assumption) only [startOp_view, okRep, refuse, runAsync, id, view_lit, apply_ite (State.view hid), ite_self] | exact Sub.of (by assumption) (by decide) | with_reducible apply completing_view | with_reducible apply foldl_keep | with_reducible apply foldl_keep2 | split | with_reducible rfl)
  apply := by
    unfold journalReadCmd
    simp only [Cmd.plain]
    repeat' (first | assumption | intro _ | refine (startOp_view' (Sub.of (by assumption) (by decide)) (by assumption)).trans ?_ | simp (disch := first | exact hide_on (Sub.of (by assumption) (by decide)) | with_reducible rfl | exact Sub.of (by assumption) (by decide) | assumption) only [startOp_view, okRep, refuse, runAsync, id, view_lit, apply_ite (State.view hid), ite_self] | exact Sub.of (by assumption) (by decide) | with_reducible apply completing_view | with_reducible apply foldl_keep | with_reducible apply foldl_keep2 | split | with_reducible rfl)
  accept := by
    intro f hf
    first
    | (simp only [journalReadCmd, Cmd.plain, reduceCtorEq] at hf; done)
    | (simp only [journalReadCmd, Cmd.plain, alAccept, Option.some.injEq] at hf
       subst hf
       repeat' (first | assumption | intro _ | refine (startOp_view' (Sub.of (by assumption) (by decide)) (by assumption)).trans ?_ | simp (disch := first | exact hide_on (Sub.of (by assumption) (by decide)) | with_reducible rfl | exact Sub.of (by assumption) (by decide) | assumption) only [startOp_view, okRep, refuse, runAsync, id, view_lit, apply_ite (State.view hid), ite_self] | exact Sub.of (by assumption) (by decide) | with_reducible apply completing_view | with_reducible apply foldl_keep | with_reducible apply foldl_keep2 | split | with_reducible rfl))

theorem aiCalibrateCmd_keeps  (hm : Sub 0xa000200 hid) : KeepsCmd hid aiCalibrateCmd where
  run := by
    unfold aiCalibrateCmd
    simp only [Cmd.plain]
    repeat' (first | assumption | intro _ | refine (startOp_view' (Sub.of (by assumption) (by decide)) (by assumption)).trans ?_ | simp (disch := first | exact hide_on (Sub.of (by assumption) (by decide)) | with_reducible rfl | exact Sub.of (by assumption) (by decide) | assumption) only [calibrate_view, startOp_view, okRep, refuse, runAsync, id, view_lit, apply_ite (State.view hid), ite_self] | exact Sub.of (by assumption) (by decide) | with_reducible apply completing_view | with_reducible apply foldl_keep | with_reducible apply foldl_keep2 | split | with_reducible rfl)
  after := by
    unfold aiCalibrateCmd
    simp only [Cmd.plain]
    repeat' (first | assumption | intro _ | refine (startOp_view' (Sub.of (by assumption) (by decide)) (by assumption)).trans ?_ | simp (disch := first | exact hide_on (Sub.of (by assumption) (by decide)) | with_reducible rfl | exact Sub.of (by assumption) (by decide) | assumption) only [calibrate_view, startOp_view, okRep, refuse, runAsync, id, view_lit, apply_ite (State.view hid), ite_self] | exact Sub.of (by assumption) (by decide) | with_reducible apply completing_view | with_reducible apply foldl_keep | with_reducible apply foldl_keep2 | split | with_reducible rfl)
  apply := by
    unfold aiCalibrateCmd
    simp only [Cmd.plain]
    repeat' (first | assumption | intro _ | refine (startOp_view' (Sub.of (by assumption) (by decide)) (by assumption)).trans ?_ | simp (disch := first | exact hide_on (Sub.of (by assumption) (by decide)) | with_reducible rfl | exact Sub.of (by assumption) (by decide) | assumption) only [calibrate_view, startOp_view, okRep, refuse, runAsync, id, view_lit, apply_ite (State.view hid), ite_self] | exact Sub.of (by assumption) (by decide) | with_reducible apply completing_view | with_reducible apply foldl_keep | with_reducible apply foldl_keep2 | split | with_reducible rfl)
  accept := by
    intro f hf
    first
    | (simp only [aiCalibrateCmd, Cmd.plain, reduceCtorEq] at hf; done)
    | (simp only [aiCalibrateCmd, Cmd.plain, alAccept, Option.some.injEq] at hf
       subst hf
       repeat' (first | assumption | intro _ | refine (startOp_view' (Sub.of (by assumption) (by decide)) (by assumption)).trans ?_ | simp (disch := first | exact hide_on (Sub.of (by assumption) (by decide)) | with_reducible rfl | exact Sub.of (by assumption) (by decide) | assumption) only [calibrate_view, startOp_view, okRep, refuse, runAsync, id, view_lit, apply_ite (State.view hid), ite_self] | exact Sub.of (by assumption) (by decide) | with_reducible apply completing_view | with_reducible apply foldl_keep | with_reducible apply foldl_keep2 | split | with_reducible rfl))

theorem identifyCmd_keeps  : KeepsCmd hid identifyCmd where
  run := by
    unfold identifyCmd
    simp only [Cmd.plain]
    repeat' (first | assumption | intro _ | refine (startOp_view' (Sub.of (by assumption) (by decide)) (by assumption)).trans ?_ | simp (disch := first | exact hide_on (Sub.of (by assumption) (by decide)) | with_reducible rfl | exact Sub.of (by assumption) (by decide) | assumption) only [startOp_view, okRep, refuse, runAsync, id, view_lit, apply_ite (State.view hid), ite_self] | exact Sub.of (by assumption) (by decide) | with_reducible apply completing_view | with_reducible apply foldl_keep | with_reducible apply foldl_keep2 | split | with_reducible rfl)
  after := by
    unfold identifyCmd
    simp only [Cmd.plain]
    repeat' (first | assumption | intro _ | refine (startOp_view' (Sub.of (by assumption) (by decide)) (by assumption)).trans ?_ | simp (disch := first | exact hide_on (Sub.of (by assumption) (by decide)) | with_reducible rfl | exact Sub.of (by assumption) (by decide) | assumption) only [startOp_view, okRep, refuse, runAsync, id, view_lit, apply_ite (State.view hid), ite_self] | exact Sub.of (by assumption) (by decide) | with_reducible apply completing_view | with_reducible apply foldl_keep | with_reducible apply foldl_keep2 | split | with_reducible rfl)
  apply := by
    unfold identifyCmd
    simp only [Cmd.plain]
    repeat' (first | assumption | intro _ | refine (startOp_view' (Sub.of (by assumption) (by decide)) (by assumption)).trans ?_ | simp (disch := first | exact hide_on (Sub.of (by assumption) (by decide)) | with_reducible rfl | exact Sub.of (by assumption) (by decide) | assumption) only [startOp_view, okRep, refuse, runAsync, id, view_lit, apply_ite (State.view hid), ite_self] | exact Sub.of (by assumption) (by decide) | with_reducible apply completing_view | with_reducible apply foldl_keep | with_reducible apply foldl_keep2 | split | with_reducible rfl)
  accept := by
    intro f hf
    first
    | (simp only [identifyCmd, Cmd.plain, reduceCtorEq] at hf; done)
    | (simp only [identifyCmd, Cmd.plain, alAccept, Option.some.injEq] at hf
       subst hf
       repeat' (first | assumption | intro _ | refine (startOp_view' (Sub.of (by assumption) (by decide)) (by assumption)).trans ?_ | simp (disch := first | exact hide_on (Sub.of (by assumption) (by decide)) | with_reducible rfl | exact Sub.of (by assumption) (by decide) | assumption) only [startOp_view, okRep, refuse, runAsync, id, view_lit, apply_ite (State.view hid), ite_self] | exact Sub.of (by assumption) (by decide) | with_reducible apply completing_view | with_reducible apply foldl_keep | with_reducible apply foldl_keep2 | split | with_reducible rfl))

theorem commandsListCmd_keeps  : KeepsCmd hid commandsListCmd where
  run := by
    unfold commandsListCmd
    simp only [Cmd.plain]
    repeat' (first | assumption | intro _ | refine (startOp_view' (Sub.of (by assumption) (by decide)) (by assumption)).trans ?_ | simp (disch := first | exact hide_on (Sub.of (by assumption) (by decide)) | with_reducible rfl | exact Sub.of (by assumption) (by decide) | assumption) only [startOp_view, okRep, refuse, runAsync, id, view_lit, apply_ite (State.view hid), ite_self] | exact Sub.of (by assumption) (by decide) | with_reducible apply completing_view | with_reducible apply foldl_keep | with_reducible apply foldl_keep2 | split | with_reducible rfl)
  after := by
    unfold commandsListCmd
    simp only [Cmd.plain]
    repeat' (first | assumption | intro _ | refine (startOp_view' (Sub.of (by assumption) (by decide)) (by assumption)).trans ?_ | simp (disch := first | exact hide_on (Sub.of (by assumption) (by decide)) | with_reducible rfl | exact Sub.of (by assumption) (by decide) | assumption) only [startOp_view, okRep, refuse, runAsync, id, view_lit, apply_ite (State.view hid), ite_self] | exact Sub.of (by assumption) (by decide) | with_reducible apply completing_view | with_reducible apply foldl_keep | with_reducible apply foldl_keep2 | split | with_reducible rfl)
  apply := by
    unfold commandsListCmd
    simp only [Cmd.plain]
    repeat' (first | assumption | intro _ | refine (startOp_view' (Sub.of (by assumption) (by decide)) (by assumption)).trans ?_ | simp (disch := first | exact hide_on (Sub.of (by assumption) (by decide)) | with_reducible rfl | exact Sub.of (by assumption) (by decide) | assumption) only [startOp_view, okRep, refuse, runAsync, id, view_lit, apply_ite (State.view hid), ite_self] | exact Sub.of (by assumption) (by decide) | with_reducible apply completing_view | with_reducible apply foldl_keep | with_reducible apply foldl_keep2 | split | with_reducible rfl)
  accept := by
    intro f hf
    first
    | (simp only [commandsListCmd, Cmd.plain, reduceCtorEq] at hf; done)
    | (simp only [commandsListCmd, Cmd.plain, alAccept, Option.some.injEq] at hf
       subst hf
       repeat' (first | assumption | intro _ | refine (startOp_view' (Sub.of (by assumption) (by decide)) (by assumption)).trans ?_ | simp (disch := first | exact hide_on (Sub.of (by assumption) (by decide)) | with_reducible rfl | exact Sub.of (by assumption) (by decide) | assumption) only [startOp_view, okRep, refuse, runAsync, id, view_lit, apply_ite (State.view hid), ite_self] | exact Sub.of (by assumption) (by decide) | with_reducible apply completing_view | with_reducible apply foldl_keep | with_reducible apply foldl_keep2 | split | with_reducible rfl))

theorem openSessionCmd_keeps  (sid : U32) (nonce : List Byte) : KeepsCmd hid (openSessionCmd sid nonce) where
  run := by
    unfold openSessionCmd
    simp only [Cmd.plain]
    repeat' (first | assumption | intro _ | refine (startOp_view' (Sub.of (by assumption) (by decide)) (by assumption)).trans ?_ | simp (disch := first | exact hide_on (Sub.of (by assumption) (by decide)) | with_reducible rfl | exact Sub.of (by assumption) (by decide) | assumption) only [startOp_view, okRep, refuse, runAsync, id, view_lit, apply_ite (State.view hid), ite_self] | exact Sub.of (by assumption) (by decide) | with_reducible apply completing_view | with_reducible apply foldl_keep | with_reducible apply foldl_keep2 | split | with_reducible rfl)
  after := by
    unfold openSessionCmd
    simp only [Cmd.plain]
    repeat' (first | assumption | intro _ | refine (startOp_view' (Sub.of (by assumption) (by decide)) (by assumption)).trans ?_ | simp (disch := first | exact hide_on (Sub.of (by assumption) (by decide)) | with_reducible rfl | exact Sub.of (by assumption) (by decide) | assumption) only [startOp_view, okRep, refuse, runAsync, id, view_lit, apply_ite (State.view hid), ite_self] | exact Sub.of (by assumption) (by decide) | with_reducible apply completing_view | with_reducible apply foldl_keep | with_reducible apply foldl_keep2 | split | with_reducible rfl)
  apply := by
    unfold openSessionCmd
    simp only [Cmd.plain]
    repeat' (first | assumption | intro _ | refine (startOp_view' (Sub.of (by assumption) (by decide)) (by assumption)).trans ?_ | simp (disch := first | exact hide_on (Sub.of (by assumption) (by decide)) | with_reducible rfl | exact Sub.of (by assumption) (by decide) | assumption) only [startOp_view, okRep, refuse, runAsync, id, view_lit, apply_ite (State.view hid), ite_self] | exact Sub.of (by assumption) (by decide) | with_reducible apply completing_view | with_reducible apply foldl_keep | with_reducible apply foldl_keep2 | split | with_reducible rfl)
  accept := by
    intro f hf
    first
    | (simp only [openSessionCmd, Cmd.plain, reduceCtorEq] at hf; done)
    | (simp only [openSessionCmd, Cmd.plain, alAccept, Option.some.injEq] at hf
       subst hf
       repeat' (first | assumption | intro _ | refine (startOp_view' (Sub.of (by assumption) (by decide)) (by assumption)).trans ?_ | simp (disch := first | exact hide_on (Sub.of (by assumption) (by decide)) | with_reducible rfl | exact Sub.of (by assumption) (by decide) | assumption) only [startOp_view, okRep, refuse, runAsync, id, view_lit, apply_ite (State.view hid), ite_self] | exact Sub.of (by assumption) (by decide) | with_reducible apply completing_view | with_reducible apply foldl_keep | with_reducible apply foldl_keep2 | split | with_reducible rfl))

theorem closeSessionCmd_keeps  (hm : Sub 0x200000080 hid) : KeepsCmd hid closeSessionCmd where
  run := by
    unfold closeSessionCmd
    simp only [Cmd.plain]
    repeat' (first | assumption | intro _ | refine (startOp_view' (Sub.of (by assumption) (by decide)) (by assumption)).trans ?_ | simp (disch := first | exact hide_on (Sub.of (by assumption) (by decide)) | with_reducible rfl | exact Sub.of (by assumption) (by decide) | assumption) only [endSession_view, startOp_view, okRep, refuse, runAsync, id, view_lit, apply_ite (State.view hid), ite_self] | exact Sub.of (by assumption) (by decide) | with_reducible apply completing_view | with_reducible apply foldl_keep | with_reducible apply foldl_keep2 | split | with_reducible rfl)
  after := by
    unfold closeSessionCmd
    simp only [Cmd.plain]
    repeat' (first | assumption | intro _ | refine (startOp_view' (Sub.of (by assumption) (by decide)) (by assumption)).trans ?_ | simp (disch := first | exact hide_on (Sub.of (by assumption) (by decide)) | with_reducible rfl | exact Sub.of (by assumption) (by decide) | assumption) only [endSession_view, startOp_view, okRep, refuse, runAsync, id, view_lit, apply_ite (State.view hid), ite_self] | exact Sub.of (by assumption) (by decide) | with_reducible apply completing_view | with_reducible apply foldl_keep | with_reducible apply foldl_keep2 | split | with_reducible rfl)
  apply := by
    unfold closeSessionCmd
    simp only [Cmd.plain]
    repeat' (first | assumption | intro _ | refine (startOp_view' (Sub.of (by assumption) (by decide)) (by assumption)).trans ?_ | simp (disch := first | exact hide_on (Sub.of (by assumption) (by decide)) | with_reducible rfl | exact Sub.of (by assumption) (by decide) | assumption) only [endSession_view, startOp_view, okRep, refuse, runAsync, id, view_lit, apply_ite (State.view hid), ite_self] | exact Sub.of (by assumption) (by decide) | with_reducible apply completing_view | with_reducible apply foldl_keep | with_reducible apply foldl_keep2 | split | with_reducible rfl)
  accept := by
    intro f hf
    first
    | (simp only [closeSessionCmd, Cmd.plain, reduceCtorEq] at hf; done)
    | (simp only [closeSessionCmd, Cmd.plain, alAccept, Option.some.injEq] at hf
       subst hf
       repeat' (first | assumption | intro _ | refine (startOp_view' (Sub.of (by assumption) (by decide)) (by assumption)).trans ?_ | simp (disch := first | exact hide_on (Sub.of (by assumption) (by decide)) | with_reducible rfl | exact Sub.of (by assumption) (by decide) | assumption) only [endSession_view, startOp_view, okRep, refuse, runAsync, id, view_lit, apply_ite (State.view hid), ite_self] | exact Sub.of (by assumption) (by decide) | with_reducible apply completing_view | with_reducible apply foldl_keep | with_reducible apply foldl_keep2 | split | with_reducible rfl))

theorem setKeyCmd_keeps  (hm : Sub 0x200000180 hid) : KeepsCmd hid setKeyCmd where
  run := by
    unfold setKeyCmd
    simp only [Cmd.plain]
    repeat' (first | assumption | intro _ | refine (startOp_view' (Sub.of (by assumption) (by decide)) (by assumption)).trans ?_ | simp (disch := first | exact hide_on (Sub.of (by assumption) (by decide)) | with_reducible rfl | exact Sub.of (by assumption) (by decide) | assumption) only [endOrClose_view, raise_view, startOp_view, okRep, refuse, runAsync, id, view_lit, apply_ite (State.view hid), ite_self] | exact Sub.of (by assumption) (by decide) | with_reducible apply completing_view | with_reducible apply foldl_keep | with_reducible apply foldl_keep2 | split | with_reducible rfl)
  after := by
    unfold setKeyCmd
    simp only [Cmd.plain]
    repeat' (first | assumption | intro _ | refine (startOp_view' (Sub.of (by assumption) (by decide)) (by assumption)).trans ?_ | simp (disch := first | exact hide_on (Sub.of (by assumption) (by decide)) | with_reducible rfl | exact Sub.of (by assumption) (by decide) | assumption) only [endOrClose_view, raise_view, startOp_view, okRep, refuse, runAsync, id, view_lit, apply_ite (State.view hid), ite_self] | exact Sub.of (by assumption) (by decide) | with_reducible apply completing_view | with_reducible apply foldl_keep | with_reducible apply foldl_keep2 | split | with_reducible rfl)
  apply := by
    unfold setKeyCmd
    simp only [Cmd.plain]
    repeat' (first | assumption | intro _ | refine (startOp_view' (Sub.of (by assumption) (by decide)) (by assumption)).trans ?_ | simp (disch := first | exact hide_on (Sub.of (by assumption) (by decide)) | with_reducible rfl | exact Sub.of (by assumption) (by decide) | assumption) only [endOrClose_view, raise_view, startOp_view, okRep, refuse, runAsync, id, view_lit, apply_ite (State.view hid), ite_self] | exact Sub.of (by assumption) (by decide) | with_reducible apply completing_view | with_reducible apply foldl_keep | with_reducible apply foldl_keep2 | split | with_reducible rfl)
  accept := by
    intro f hf
    first
    | (simp only [setKeyCmd, Cmd.plain, reduceCtorEq] at hf; done)
    | (simp only [setKeyCmd, Cmd.plain, alAccept, Option.some.injEq] at hf
       subst hf
       repeat' (first | assumption | intro _ | refine (startOp_view' (Sub.of (by assumption) (by decide)) (by assumption)).trans ?_ | simp (disch := first | exact hide_on (Sub.of (by assumption) (by decide)) | with_reducible rfl | exact Sub.of (by assumption) (by decide) | assumption) only [endOrClose_view, raise_view, startOp_view, okRep, refuse, runAsync, id, view_lit, apply_ite (State.view hid), ite_self] | exact Sub.of (by assumption) (by decide) | with_reducible apply completing_view | with_reducible apply foldl_keep | with_reducible apply foldl_keep2 | split | with_reducible rfl))

theorem keyInfoCmd_keeps  : KeepsCmd hid keyInfoCmd where
  run := by
    unfold keyInfoCmd
    simp only [Cmd.plain]
    repeat' (first | assumption | intro _ | refine (startOp_view' (Sub.of (by assumption) (by decide)) (by assumption)).trans ?_ | simp (disch := first | exact hide_on (Sub.of (by assumption) (by decide)) | with_reducible rfl | exact Sub.of (by assumption) (by decide) | assumption) only [startOp_view, okRep, refuse, runAsync, id, view_lit, apply_ite (State.view hid), ite_self] | exact Sub.of (by assumption) (by decide) | with_reducible apply completing_view | with_reducible apply foldl_keep | with_reducible apply foldl_keep2 | split | with_reducible rfl)
  after := by
    unfold keyInfoCmd
    simp only [Cmd.plain]
    repeat' (first | assumption | intro _ | refine (startOp_view' (Sub.of (by assumption) (by decide)) (by assumption)).trans ?_ | simp (disch := first | exact hide_on (Sub.of (by assumption) (by decide)) | with_reducible rfl | exact Sub.of (by assumption) (by decide) | assumption) only [startOp_view, okRep, refuse, runAsync, id, view_lit, apply_ite (State.view hid), ite_self] | exact Sub.of (by assumption) (by decide) | with_reducible apply completing_view | with_reducible apply foldl_keep | with_reducible apply foldl_keep2 | split | with_reducible rfl)
  apply := by
    unfold keyInfoCmd
    simp only [Cmd.plain]
    repeat' (first | assumption | intro _ | refine (startOp_view' (Sub.of (by assumption) (by decide)) (by assumption)).trans ?_ | simp (disch := first | exact hide_on (Sub.of (by assumption) (by decide)) | with_reducible rfl | exact Sub.of (by assumption) (by decide) | assumption) only [startOp_view, okRep, refuse, runAsync, id, view_lit, apply_ite (State.view hid), ite_self] | exact Sub.of (by assumption) (by decide) | with_reducible apply completing_view | with_reducible apply foldl_keep | with_reducible apply foldl_keep2 | split | with_reducible rfl)
  accept := by
    intro f hf
    first
    | (simp only [keyInfoCmd, Cmd.plain, reduceCtorEq] at hf; done)
    | (simp only [keyInfoCmd, Cmd.plain, alAccept, Option.some.injEq] at hf
       subst hf
       repeat' (first | assumption | intro _ | refine (startOp_view' (Sub.of (by assumption) (by decide)) (by assumption)).trans ?_ | simp (disch := first | exact hide_on (Sub.of (by assumption) (by decide)) | with_reducible rfl | exact Sub.of (by assumption) (by decide) | assumption) only [startOp_view, okRep, refuse, runAsync, id, view_lit, apply_ite (State.view hid), ite_self] | exact Sub.of (by assumption) (by decide) | with_reducible apply completing_view | with_reducible apply foldl_keep | with_reducible apply foldl_keep2 | split | with_reducible rfl))

theorem subscribeCmd_keeps  : KeepsCmd hid subscribeCmd where
  run := by
    unfold subscribeCmd
    simp only [Cmd.plain]
    repeat' (first | assumption | intro _ | refine (startOp_view' (Sub.of (by assumption) (by decide)) (by assumption)).trans ?_ | simp (disch := first | exact hide_on (Sub.of (by assumption) (by decide)) | with_reducible rfl | exact Sub.of (by assumption) (by decide) | assumption) only [modSession_view, startOp_view, okRep, refuse, runAsync, id, view_lit, apply_ite (State.view hid), ite_self] | exact Sub.of (by assumption) (by decide) | with_reducible apply completing_view | with_reducible apply foldl_keep | with_reducible apply foldl_keep2 | split | with_reducible rfl)
  after := by
    unfold subscribeCmd
    simp only [Cmd.plain]
    repeat' (first | assumption | intro _ | refine (startOp_view' (Sub.of (by assumption) (by decide)) (by assumption)).trans ?_ | simp (disch := first | exact hide_on (Sub.of (by assumption) (by decide)) | with_reducible rfl | exact Sub.of (by assumption) (by decide) | assumption) only [modSession_view, startOp_view, okRep, refuse, runAsync, id, view_lit, apply_ite (State.view hid), ite_self] | exact Sub.of (by assumption) (by decide) | with_reducible apply completing_view | with_reducible apply foldl_keep | with_reducible apply foldl_keep2 | split | with_reducible rfl)
  apply := by
    unfold subscribeCmd
    simp only [Cmd.plain]
    repeat' (first | assumption | intro _ | refine (startOp_view' (Sub.of (by assumption) (by decide)) (by assumption)).trans ?_ | simp (disch := first | exact hide_on (Sub.of (by assumption) (by decide)) | with_reducible rfl | exact Sub.of (by assumption) (by decide) | assumption) only [modSession_view, startOp_view, okRep, refuse, runAsync, id, view_lit, apply_ite (State.view hid), ite_self] | exact Sub.of (by assumption) (by decide) | with_reducible apply completing_view | with_reducible apply foldl_keep | with_reducible apply foldl_keep2 | split | with_reducible rfl)
  accept := by
    intro f hf
    first
    | (simp only [subscribeCmd, Cmd.plain, reduceCtorEq] at hf; done)
    | (simp only [subscribeCmd, Cmd.plain, alAccept, Option.some.injEq] at hf
       subst hf
       repeat' (first | assumption | intro _ | refine (startOp_view' (Sub.of (by assumption) (by decide)) (by assumption)).trans ?_ | simp (disch := first | exact hide_on (Sub.of (by assumption) (by decide)) | with_reducible rfl | exact Sub.of (by assumption) (by decide) | assumption) only [modSession_view, startOp_view, okRep, refuse, runAsync, id, view_lit, apply_ite (State.view hid), ite_self] | exact Sub.of (by assumption) (by decide) | with_reducible apply completing_view | with_reducible apply foldl_keep | with_reducible apply foldl_keep2 | split | with_reducible rfl))

theorem completionReadCmd_keeps  : KeepsCmd hid completionReadCmd where
  run := by
    unfold completionReadCmd
    simp only [Cmd.plain]
    repeat' (first | assumption | intro _ | refine (startOp_view' (Sub.of (by assumption) (by decide)) (by assumption)).trans ?_ | simp (disch := first | exact hide_on (Sub.of (by assumption) (by decide)) | with_reducible rfl | exact Sub.of (by assumption) (by decide) | assumption) only [startOp_view, okRep, refuse, runAsync, id, view_lit, apply_ite (State.view hid), ite_self] | exact Sub.of (by assumption) (by decide) | with_reducible apply completing_view | with_reducible apply foldl_keep | with_reducible apply foldl_keep2 | split | with_reducible rfl)
  after := by
    unfold completionReadCmd
    simp only [Cmd.plain]
    repeat' (first | assumption | intro _ | refine (startOp_view' (Sub.of (by assumption) (by decide)) (by assumption)).trans ?_ | simp (disch := first | exact hide_on (Sub.of (by assumption) (by decide)) | with_reducible rfl | exact Sub.of (by assumption) (by decide) | assumption) only [startOp_view, okRep, refuse, runAsync, id, view_lit, apply_ite (State.view hid), ite_self] | exact Sub.of (by assumption) (by decide) | with_reducible apply completing_view | with_reducible apply foldl_keep | with_reducible apply foldl_keep2 | split | with_reducible rfl)
  apply := by
    unfold completionReadCmd
    simp only [Cmd.plain]
    repeat' (first | assumption | intro _ | refine (startOp_view' (Sub.of (by assumption) (by decide)) (by assumption)).trans ?_ | simp (disch := first | exact hide_on (Sub.of (by assumption) (by decide)) | with_reducible rfl | exact Sub.of (by assumption) (by decide) | assumption) only [startOp_view, okRep, refuse, runAsync, id, view_lit, apply_ite (State.view hid), ite_self] | exact Sub.of (by assumption) (by decide) | with_reducible apply completing_view | with_reducible apply foldl_keep | with_reducible apply foldl_keep2 | split | with_reducible rfl)
  accept := by
    intro f hf
    first
    | (simp only [completionReadCmd, Cmd.plain, reduceCtorEq] at hf; done)
    | (simp only [completionReadCmd, Cmd.plain, alAccept, Option.some.injEq] at hf
       subst hf
       repeat' (first | assumption | intro _ | refine (startOp_view' (Sub.of (by assumption) (by decide)) (by assumption)).trans ?_ | simp (disch := first | exact hide_on (Sub.of (by assumption) (by decide)) | with_reducible rfl | exact Sub.of (by assumption) (by decide) | assumption) only [startOp_view, okRep, refuse, runAsync, id, view_lit, apply_ite (State.view hid), ite_self] | exact Sub.of (by assumption) (by decide) | with_reducible apply completing_view | with_reducible apply foldl_keep | with_reducible apply foldl_keep2 | split | with_reducible rfl))

theorem eventReadCmd_keeps  : KeepsCmd hid eventReadCmd where
  run := by
    unfold eventReadCmd
    simp only [Cmd.plain]
    repeat' (first | assumption | intro _ | refine (startOp_view' (Sub.of (by assumption) (by decide)) (by assumption)).trans ?_ | simp (disch := first | exact hide_on (Sub.of (by assumption) (by decide)) | with_reducible rfl | exact Sub.of (by assumption) (by decide) | assumption) only [latch_view, startOp_view, okRep, refuse, runAsync, id, view_lit, apply_ite (State.view hid), ite_self] | exact Sub.of (by assumption) (by decide) | with_reducible apply completing_view | with_reducible apply foldl_keep | with_reducible apply foldl_keep2 | split | with_reducible rfl)
  after := by
    unfold eventReadCmd
    simp only [Cmd.plain]
    repeat' (first | assumption | intro _ | refine (startOp_view' (Sub.of (by assumption) (by decide)) (by assumption)).trans ?_ | simp (disch := first | exact hide_on (Sub.of (by assumption) (by decide)) | with_reducible rfl | exact Sub.of (by assumption) (by decide) | assumption) only [latch_view, startOp_view, okRep, refuse, runAsync, id, view_lit, apply_ite (State.view hid), ite_self] | exact Sub.of (by assumption) (by decide) | with_reducible apply completing_view | with_reducible apply foldl_keep | with_reducible apply foldl_keep2 | split | with_reducible rfl)
  apply := by
    unfold eventReadCmd
    simp only [Cmd.plain]
    repeat' (first | assumption | intro _ | refine (startOp_view' (Sub.of (by assumption) (by decide)) (by assumption)).trans ?_ | simp (disch := first | exact hide_on (Sub.of (by assumption) (by decide)) | with_reducible rfl | exact Sub.of (by assumption) (by decide) | assumption) only [latch_view, startOp_view, okRep, refuse, runAsync, id, view_lit, apply_ite (State.view hid), ite_self] | exact Sub.of (by assumption) (by decide) | with_reducible apply completing_view | with_reducible apply foldl_keep | with_reducible apply foldl_keep2 | split | with_reducible rfl)
  accept := by
    intro f hf
    first
    | (simp only [eventReadCmd, Cmd.plain, reduceCtorEq] at hf; done)
    | (simp only [eventReadCmd, Cmd.plain, alAccept, Option.some.injEq] at hf
       subst hf
       repeat' (first | assumption | intro _ | refine (startOp_view' (Sub.of (by assumption) (by decide)) (by assumption)).trans ?_ | simp (disch := first | exact hide_on (Sub.of (by assumption) (by decide)) | with_reducible rfl | exact Sub.of (by assumption) (by decide) | assumption) only [latch_view, startOp_view, okRep, refuse, runAsync, id, view_lit, apply_ite (State.view hid), ite_self] | exact Sub.of (by assumption) (by decide) | with_reducible apply completing_view | with_reducible apply foldl_keep | with_reducible apply foldl_keep2 | split | with_reducible rfl))

theorem eventClearCmd_keeps  : KeepsCmd hid eventClearCmd where
  run := by
    unfold eventClearCmd
    simp only [Cmd.plain]
    repeat' (first | assumption | intro _ | refine (startOp_view' (Sub.of (by assumption) (by decide)) (by assumption)).trans ?_ | simp (disch := first | exact hide_on (Sub.of (by assumption) (by decide)) | with_reducible rfl | exact Sub.of (by assumption) (by decide) | assumption) only [latch_view, startOp_view, okRep, refuse, runAsync, id, view_lit, apply_ite (State.view hid), ite_self] | exact Sub.of (by assumption) (by decide) | with_reducible apply completing_view | with_reducible apply foldl_keep | with_reducible apply foldl_keep2 | split | with_reducible rfl)
  after := by
    unfold eventClearCmd
    simp only [Cmd.plain]
    repeat' (first | assumption | intro _ | refine (startOp_view' (Sub.of (by assumption) (by decide)) (by assumption)).trans ?_ | simp (disch := first | exact hide_on (Sub.of (by assumption) (by decide)) | with_reducible rfl | exact Sub.of (by assumption) (by decide) | assumption) only [latch_view, startOp_view, okRep, refuse, runAsync, id, view_lit, apply_ite (State.view hid), ite_self] | exact Sub.of (by assumption) (by decide) | with_reducible apply completing_view | with_reducible apply foldl_keep | with_reducible apply foldl_keep2 | split | with_reducible rfl)
  apply := by
    unfold eventClearCmd
    simp only [Cmd.plain]
    repeat' (first | assumption | intro _ | refine (startOp_view' (Sub.of (by assumption) (by decide)) (by assumption)).trans ?_ | simp (disch := first | exact hide_on (Sub.of (by assumption) (by decide)) | with_reducible rfl | exact Sub.of (by assumption) (by decide) | assumption) only [latch_view, startOp_view, okRep, refuse, runAsync, id, view_lit, apply_ite (State.view hid), ite_self] | exact Sub.of (by assumption) (by decide) | with_reducible apply completing_view | with_reducible apply foldl_keep | with_reducible apply foldl_keep2 | split | with_reducible rfl)
  accept := by
    intro f hf
    first
    | (simp only [eventClearCmd, Cmd.plain, reduceCtorEq] at hf; done)
    | (simp only [eventClearCmd, Cmd.plain, alAccept, Option.some.injEq] at hf
       subst hf
       repeat' (first | assumption | intro _ | refine (startOp_view' (Sub.of (by assumption) (by decide)) (by assumption)).trans ?_ | simp (disch := first | exact hide_on (Sub.of (by assumption) (by decide)) | with_reducible rfl | exact Sub.of (by assumption) (by decide) | assumption) only [latch_view, startOp_view, okRep, refuse, runAsync, id, view_lit, apply_ite (State.view hid), ite_self] | exact Sub.of (by assumption) (by decide) | with_reducible apply completing_view | with_reducible apply foldl_keep | with_reducible apply foldl_keep2 | split | with_reducible rfl))

theorem paramReadCmd_keeps  : KeepsCmd hid paramReadCmd where
  run := by
    unfold paramReadCmd
    simp only [Cmd.plain]
    repeat' (first | assumption | intro _ | refine (startOp_view' (Sub.of (by assumption) (by decide)) (by assumption)).trans ?_ | simp (disch := first | exact hide_on (Sub.of (by assumption) (by decide)) | with_reducible rfl | exact Sub.of (by assumption) (by decide) | assumption) only [startOp_view, okRep, refuse, runAsync, id, view_lit, apply_ite (State.view hid), ite_self] | exact Sub.of (by assumption) (by decide) | with_reducible apply completing_view | with_reducible apply foldl_keep | with_reducible apply foldl_keep2 | split | with_reducible rfl)
  after := by
    unfold paramReadCmd
    simp only [Cmd.plain]
    repeat' (first | assumption | intro _ | refine (startOp_view' (Sub.of (by assumption) (by decide)) (by assumption)).trans ?_ | simp (disch := first | exact hide_on (Sub.of (by assumption) (by decide)) | with_reducible rfl | exact Sub.of (by assumption) (by decide) | assumption) only [startOp_view, okRep, refuse, runAsync, id, view_lit, apply_ite (State.view hid), ite_self] | exact Sub.of (by assumption) (by decide) | with_reducible apply completing_view | with_reducible apply foldl_keep | with_reducible apply foldl_keep2 | split | with_reducible rfl)
  apply := by
    unfold paramReadCmd
    simp only [Cmd.plain]
    repeat' (first | assumption | intro _ | refine (startOp_view' (Sub.of (by assumption) (by decide)) (by assumption)).trans ?_ | simp (disch := first | exact hide_on (Sub.of (by assumption) (by decide)) | with_reducible rfl | exact Sub.of (by assumption) (by decide) | assumption) only [startOp_view, okRep, refuse, runAsync, id, view_lit, apply_ite (State.view hid), ite_self] | exact Sub.of (by assumption) (by decide) | with_reducible apply completing_view | with_reducible apply foldl_keep | with_reducible apply foldl_keep2 | split | with_reducible rfl)
  accept := by
    intro f hf
    first
    | (simp only [paramReadCmd, Cmd.plain, reduceCtorEq] at hf; done)
    | (simp only [paramReadCmd, Cmd.plain, alAccept, Option.some.injEq] at hf
       subst hf
       repeat' (first | assumption | intro _ | refine (startOp_view' (Sub.of (by assumption) (by decide)) (by assumption)).trans ?_ | simp (disch := first | exact hide_on (Sub.of (by assumption) (by decide)) | with_reducible rfl | exact Sub.of (by assumption) (by decide) | assumption) only [startOp_view, okRep, refuse, runAsync, id, view_lit, apply_ite (State.view hid), ite_self] | exact Sub.of (by assumption) (by decide) | with_reducible apply completing_view | with_reducible apply foldl_keep | with_reducible apply foldl_keep2 | split | with_reducible rfl))

theorem tableReadCmd_keeps  : KeepsCmd hid tableReadCmd where
  run := by
    unfold tableReadCmd
    simp only [Cmd.plain]
    repeat' (first | assumption | intro _ | refine (startOp_view' (Sub.of (by assumption) (by decide)) (by assumption)).trans ?_ | simp (disch := first | exact hide_on (Sub.of (by assumption) (by decide)) | with_reducible rfl | exact Sub.of (by assumption) (by decide) | assumption) only [startOp_view, okRep, refuse, runAsync, id, view_lit, apply_ite (State.view hid), ite_self] | exact Sub.of (by assumption) (by decide) | with_reducible apply completing_view | with_reducible apply foldl_keep | with_reducible apply foldl_keep2 | split | with_reducible rfl)
  after := by
    unfold tableReadCmd
    simp only [Cmd.plain]
    repeat' (first | assumption | intro _ | refine (startOp_view' (Sub.of (by assumption) (by decide)) (by assumption)).trans ?_ | simp (disch := first | exact hide_on (Sub.of (by assumption) (by decide)) | with_reducible rfl | exact Sub.of (by assumption) (by decide) | assumption) only [startOp_view, okRep, refuse, runAsync, id, view_lit, apply_ite (State.view hid), ite_self] | exact Sub.of (by assumption) (by decide) | with_reducible apply completing_view | with_reducible apply foldl_keep | with_reducible apply foldl_keep2 | split | with_reducible rfl)
  apply := by
    unfold tableReadCmd
    simp only [Cmd.plain]
    repeat' (first | assumption | intro _ | refine (startOp_view' (Sub.of (by assumption) (by decide)) (by assumption)).trans ?_ | simp (disch := first | exact hide_on (Sub.of (by assumption) (by decide)) | with_reducible rfl | exact Sub.of (by assumption) (by decide) | assumption) only [startOp_view, okRep, refuse, runAsync, id, view_lit, apply_ite (State.view hid), ite_self] | exact Sub.of (by assumption) (by decide) | with_reducible apply completing_view | with_reducible apply foldl_keep | with_reducible apply foldl_keep2 | split | with_reducible rfl)
  accept := by
    intro f hf
    first
    | (simp only [tableReadCmd, Cmd.plain, reduceCtorEq] at hf; done)
    | (simp only [tableReadCmd, Cmd.plain, alAccept, Option.some.injEq] at hf
       subst hf
       repeat' (first | assumption | intro _ | refine (startOp_view' (Sub.of (by assumption) (by decide)) (by assumption)).trans ?_ | simp (disch := first | exact hide_on (Sub.of (by assumption) (by decide)) | with_reducible rfl | exact Sub.of (by assumption) (by decide) | assumption) only [startOp_view, okRep, refuse, runAsync, id, view_lit, apply_ite (State.view hid), ite_self] | exact Sub.of (by assumption) (by decide) | with_reducible apply completing_view | with_reducible apply foldl_keep | with_reducible apply foldl_keep2 | split | with_reducible rfl))

theorem configExportCmd_keeps  (hm : Sub 0x80 hid) : KeepsCmd hid configExportCmd where
  run := by
    unfold configExportCmd
    simp only [Cmd.plain]
    repeat' (first | assumption | intro _ | refine (startOp_view' (Sub.of (by assumption) (by decide)) (by assumption)).trans ?_ | simp (disch := first | exact hide_on (Sub.of (by assumption) (by decide)) | with_reducible rfl | exact Sub.of (by assumption) (by decide) | assumption) only [startOp_view, okRep, refuse, runAsync, id, view_lit, apply_ite (State.view hid), ite_self] | exact Sub.of (by assumption) (by decide) | with_reducible apply completing_view | with_reducible apply foldl_keep | with_reducible apply foldl_keep2 | split | with_reducible rfl)
  after := by
    unfold configExportCmd
    simp only [Cmd.plain]
    repeat' (first | assumption | intro _ | refine (startOp_view' (Sub.of (by assumption) (by decide)) (by assumption)).trans ?_ | simp (disch := first | exact hide_on (Sub.of (by assumption) (by decide)) | with_reducible rfl | exact Sub.of (by assumption) (by decide) | assumption) only [startOp_view, okRep, refuse, runAsync, id, view_lit, apply_ite (State.view hid), ite_self] | exact Sub.of (by assumption) (by decide) | with_reducible apply completing_view | with_reducible apply foldl_keep | with_reducible apply foldl_keep2 | split | with_reducible rfl)
  apply := by
    unfold configExportCmd
    simp only [Cmd.plain]
    repeat' (first | assumption | intro _ | refine (startOp_view' (Sub.of (by assumption) (by decide)) (by assumption)).trans ?_ | simp (disch := first | exact hide_on (Sub.of (by assumption) (by decide)) | with_reducible rfl | exact Sub.of (by assumption) (by decide) | assumption) only [startOp_view, okRep, refuse, runAsync, id, view_lit, apply_ite (State.view hid), ite_self] | exact Sub.of (by assumption) (by decide) | with_reducible apply completing_view | with_reducible apply foldl_keep | with_reducible apply foldl_keep2 | split | with_reducible rfl)
  accept := by
    intro f hf
    first
    | (simp only [configExportCmd, Cmd.plain, reduceCtorEq] at hf; done)
    | (simp only [configExportCmd, Cmd.plain, alAccept, Option.some.injEq] at hf
       subst hf
       repeat' (first | assumption | intro _ | refine (startOp_view' (Sub.of (by assumption) (by decide)) (by assumption)).trans ?_ | simp (disch := first | exact hide_on (Sub.of (by assumption) (by decide)) | with_reducible rfl | exact Sub.of (by assumption) (by decide) | assumption) only [startOp_view, okRep, refuse, runAsync, id, view_lit, apply_ite (State.view hid), ite_self] | exact Sub.of (by assumption) (by decide) | with_reducible apply completing_view | with_reducible apply foldl_keep | with_reducible apply foldl_keep2 | split | with_reducible rfl))

theorem configImportCmd_keeps  (hm : Sub 0xe0 hid) : KeepsCmd hid configImportCmd where
  run := by
    unfold configImportCmd
    simp only [Cmd.plain]
    repeat' (first | assumption | intro _ | refine (startOp_view' (Sub.of (by assumption) (by decide)) (by assumption)).trans ?_ | simp (disch := first | exact hide_on (Sub.of (by assumption) (by decide)) | with_reducible rfl | exact Sub.of (by assumption) (by decide) | assumption) only [importDone_view, startOp_view, okRep, refuse, runAsync, id, view_lit, apply_ite (State.view hid), ite_self] | exact Sub.of (by assumption) (by decide) | with_reducible apply completing_view | with_reducible apply foldl_keep | with_reducible apply foldl_keep2 | split | with_reducible rfl)
  after := by
    unfold configImportCmd
    simp only [Cmd.plain]
    repeat' (first | assumption | intro _ | refine (startOp_view' (Sub.of (by assumption) (by decide)) (by assumption)).trans ?_ | simp (disch := first | exact hide_on (Sub.of (by assumption) (by decide)) | with_reducible rfl | exact Sub.of (by assumption) (by decide) | assumption) only [importDone_view, startOp_view, okRep, refuse, runAsync, id, view_lit, apply_ite (State.view hid), ite_self] | exact Sub.of (by assumption) (by decide) | with_reducible apply completing_view | with_reducible apply foldl_keep | with_reducible apply foldl_keep2 | split | with_reducible rfl)
  apply := by
    unfold configImportCmd
    simp only [Cmd.plain]
    repeat' (first | assumption | intro _ | refine (startOp_view' (Sub.of (by assumption) (by decide)) (by assumption)).trans ?_ | simp (disch := first | exact hide_on (Sub.of (by assumption) (by decide)) | with_reducible rfl | exact Sub.of (by assumption) (by decide) | assumption) only [importDone_view, startOp_view, okRep, refuse, runAsync, id, view_lit, apply_ite (State.view hid), ite_self] | exact Sub.of (by assumption) (by decide) | with_reducible apply completing_view | with_reducible apply foldl_keep | with_reducible apply foldl_keep2 | split | with_reducible rfl)
  accept := by
    intro f hf
    first
    | (simp only [configImportCmd, Cmd.plain, reduceCtorEq] at hf; done)
    | (simp only [configImportCmd, Cmd.plain, alAccept, Option.some.injEq] at hf
       subst hf
       repeat' (first | assumption | intro _ | refine (startOp_view' (Sub.of (by assumption) (by decide)) (by assumption)).trans ?_ | simp (disch := first | exact hide_on (Sub.of (by assumption) (by decide)) | with_reducible rfl | exact Sub.of (by assumption) (by decide) | assumption) only [importDone_view, startOp_view, okRep, refuse, runAsync, id, view_lit, apply_ite (State.view hid), ite_self] | exact Sub.of (by assumption) (by decide) | with_reducible apply completing_view | with_reducible apply foldl_keep | with_reducible apply foldl_keep2 | split | with_reducible rfl))

theorem programLoadCmd_keeps  (hm : Sub 0x8000 hid) : KeepsCmd hid programLoadCmd where
  run := by
    unfold programLoadCmd
    simp only [Cmd.plain]
    repeat' (first | assumption | intro _ | refine (startOp_view' (Sub.of (by assumption) (by decide)) (by assumption)).trans ?_ | simp (disch := first | exact hide_on (Sub.of (by assumption) (by decide)) | with_reducible rfl | exact Sub.of (by assumption) (by decide) | assumption) only [complete_view, modProg_view, startOp_view, okRep, refuse, runAsync, id, view_lit, apply_ite (State.view hid), ite_self] | exact Sub.of (by assumption) (by decide) | with_reducible apply completing_view | with_reducible apply foldl_keep | with_reducible apply foldl_keep2 | split | with_reducible rfl)
  after := by
    unfold programLoadCmd
    simp only [Cmd.plain]
    repeat' (first | assumption | intro _ | refine (startOp_view' (Sub.of (by assumption) (by decide)) (by assumption)).trans ?_ | simp (disch := first | exact hide_on (Sub.of (by assumption) (by decide)) | with_reducible rfl | exact Sub.of (by assumption) (by decide) | assumption) only [complete_view, modProg_view, startOp_view, okRep, refuse, runAsync, id, view_lit, apply_ite (State.view hid), ite_self] | exact Sub.of (by assumption) (by decide) | with_reducible apply completing_view | with_reducible apply foldl_keep | with_reducible apply foldl_keep2 | split | with_reducible rfl)
  apply := by
    unfold programLoadCmd
    simp only [Cmd.plain]
    repeat' (first | assumption | intro _ | refine (startOp_view' (Sub.of (by assumption) (by decide)) (by assumption)).trans ?_ | simp (disch := first | exact hide_on (Sub.of (by assumption) (by decide)) | with_reducible rfl | exact Sub.of (by assumption) (by decide) | assumption) only [complete_view, modProg_view, startOp_view, okRep, refuse, runAsync, id, view_lit, apply_ite (State.view hid), ite_self] | exact Sub.of (by assumption) (by decide) | with_reducible apply completing_view | with_reducible apply foldl_keep | with_reducible apply foldl_keep2 | split | with_reducible rfl)
  accept := by
    intro f hf
    first
    | (simp only [programLoadCmd, Cmd.plain, reduceCtorEq] at hf; done)
    | (simp only [programLoadCmd, Cmd.plain, alAccept, Option.some.injEq] at hf
       subst hf
       repeat' (first | assumption | intro _ | refine (startOp_view' (Sub.of (by assumption) (by decide)) (by assumption)).trans ?_ | simp (disch := first | exact hide_on (Sub.of (by assumption) (by decide)) | with_reducible rfl | exact Sub.of (by assumption) (by decide) | assumption) only [complete_view, modProg_view, startOp_view, okRep, refuse, runAsync, id, view_lit, apply_ite (State.view hid), ite_self] | exact Sub.of (by assumption) (by decide) | with_reducible apply completing_view | with_reducible apply foldl_keep | with_reducible apply foldl_keep2 | split | with_reducible rfl))

theorem programSwitchCmd_keeps  (hm : Sub 0x8200 hid) : KeepsCmd hid programSwitchCmd where
  run := by
    unfold programSwitchCmd
    simp only [Cmd.plain]
    repeat' (first | assumption | intro _ | refine (startOp_view' (Sub.of (by assumption) (by decide)) (by assumption)).trans ?_ | simp (disch := first | exact hide_on (Sub.of (by assumption) (by decide)) | with_reducible rfl | exact Sub.of (by assumption) (by decide) | assumption) only [startOp_view, complete_view, okRep, refuse, runAsync, id, view_lit, apply_ite (State.view hid), ite_self] | exact Sub.of (by assumption) (by decide) | with_reducible apply completing_view | with_reducible apply foldl_keep | with_reducible apply foldl_keep2 | split | with_reducible rfl)
  after := by
    unfold programSwitchCmd
    simp only [Cmd.plain]
    repeat' (first | assumption | intro _ | refine (startOp_view' (Sub.of (by assumption) (by decide)) (by assumption)).trans ?_ | simp (disch := first | exact hide_on (Sub.of (by assumption) (by decide)) | with_reducible rfl | exact Sub.of (by assumption) (by decide) | assumption) only [startOp_view, complete_view, okRep, refuse, runAsync, id, view_lit, apply_ite (State.view hid), ite_self] | exact Sub.of (by assumption) (by decide) | with_reducible apply completing_view | with_reducible apply foldl_keep | with_reducible apply foldl_keep2 | split | with_reducible rfl)
  apply := by
    unfold programSwitchCmd
    simp only [Cmd.plain]
    repeat' (first | assumption | intro _ | refine (startOp_view' (Sub.of (by assumption) (by decide)) (by assumption)).trans ?_ | simp (disch := first | exact hide_on (Sub.of (by assumption) (by decide)) | with_reducible rfl | exact Sub.of (by assumption) (by decide) | assumption) only [startOp_view, complete_view, okRep, refuse, runAsync, id, view_lit, apply_ite (State.view hid), ite_self] | exact Sub.of (by assumption) (by decide) | with_reducible apply completing_view | with_reducible apply foldl_keep | with_reducible apply foldl_keep2 | split | with_reducible rfl)
  accept := by
    intro f hf
    first
    | (simp only [programSwitchCmd, Cmd.plain, reduceCtorEq] at hf; done)
    | (simp only [programSwitchCmd, Cmd.plain, alAccept, Option.some.injEq] at hf
       subst hf
       repeat' (first | assumption | intro _ | refine (startOp_view' (Sub.of (by assumption) (by decide)) (by assumption)).trans ?_ | simp (disch := first | exact hide_on (Sub.of (by assumption) (by decide)) | with_reducible rfl | exact Sub.of (by assumption) (by decide) | assumption) only [startOp_view, complete_view, okRep, refuse, runAsync, id, view_lit, apply_ite (State.view hid), ite_self] | exact Sub.of (by assumption) (by decide) | with_reducible apply completing_view | with_reducible apply foldl_keep | with_reducible apply foldl_keep2 | split | with_reducible rfl))

theorem annexCmd_keeps  (hm : Sub 0xa800200 hid) : KeepsCmd hid annexCmd where
  run := by
    unfold annexCmd
    simp only [Cmd.plain]
    repeat' (first | assumption | intro _ | refine (startOp_view' (Sub.of (by assumption) (by decide)) (by assumption)).trans ?_ | simp (disch := first | exact hide_on (Sub.of (by assumption) (by decide)) | with_reducible rfl | exact Sub.of (by assumption) (by decide) | assumption) only [drainPair_view, askMigration_view, rotStart_view, completeOpt_view, startOp_view, okRep, refuse, runAsync, id, view_lit, apply_ite (State.view hid), ite_self] | exact Sub.of (by assumption) (by decide) | with_reducible apply completing_view | with_reducible apply foldl_keep | with_reducible apply foldl_keep2 | split | with_reducible rfl)
  after := by
    unfold annexCmd
    simp only [Cmd.plain]
    repeat' (first | assumption | intro _ | refine (startOp_view' (Sub.of (by assumption) (by decide)) (by assumption)).trans ?_ | simp (disch := first | exact hide_on (Sub.of (by assumption) (by decide)) | with_reducible rfl | exact Sub.of (by assumption) (by decide) | assumption) only [drainPair_view, askMigration_view, rotStart_view, completeOpt_view, startOp_view, okRep, refuse, runAsync, id, view_lit, apply_ite (State.view hid), ite_self] | exact Sub.of (by assumption) (by decide) | with_reducible apply completing_view | with_reducible apply foldl_keep | with_reducible apply foldl_keep2 | split | with_reducible rfl)
  apply := by
    unfold annexCmd
    simp only [Cmd.plain]
    repeat' (first | assumption | intro _ | refine (startOp_view' (Sub.of (by assumption) (by decide)) (by assumption)).trans ?_ | simp (disch := first | exact hide_on (Sub.of (by assumption) (by decide)) | with_reducible rfl | exact Sub.of (by assumption) (by decide) | assumption) only [drainPair_view, askMigration_view, rotStart_view, completeOpt_view, startOp_view, okRep, refuse, runAsync, id, view_lit, apply_ite (State.view hid), ite_self] | exact Sub.of (by assumption) (by decide) | with_reducible apply completing_view | with_reducible apply foldl_keep | with_reducible apply foldl_keep2 | split | with_reducible rfl)
  accept := by
    intro f hf
    first
    | (simp only [annexCmd, Cmd.plain, reduceCtorEq] at hf; done)
    | (simp only [annexCmd, Cmd.plain, alAccept, Option.some.injEq] at hf
       subst hf
       repeat' (first | assumption | intro _ | refine (startOp_view' (Sub.of (by assumption) (by decide)) (by assumption)).trans ?_ | simp (disch := first | exact hide_on (Sub.of (by assumption) (by decide)) | with_reducible rfl | exact Sub.of (by assumption) (by decide) | assumption) only [drainPair_view, askMigration_view, rotStart_view, completeOpt_view, startOp_view, okRep, refuse, runAsync, id, view_lit, apply_ite (State.view hid), ite_self] | exact Sub.of (by assumption) (by decide) | with_reducible apply completing_view | with_reducible apply foldl_keep | with_reducible apply foldl_keep2 | split | with_reducible rfl))

theorem ledgerReadCmd_keeps  : KeepsCmd hid ledgerReadCmd where
  run := by
    unfold ledgerReadCmd
    simp only [Cmd.plain]
    repeat' (first | assumption | intro _ | refine (startOp_view' (Sub.of (by assumption) (by decide)) (by assumption)).trans ?_ | simp (disch := first | exact hide_on (Sub.of (by assumption) (by decide)) | with_reducible rfl | exact Sub.of (by assumption) (by decide) | assumption) only [startOp_view, okRep, refuse, runAsync, id, view_lit, apply_ite (State.view hid), ite_self] | exact Sub.of (by assumption) (by decide) | with_reducible apply completing_view | with_reducible apply foldl_keep | with_reducible apply foldl_keep2 | split | with_reducible rfl)
  after := by
    unfold ledgerReadCmd
    simp only [Cmd.plain]
    repeat' (first | assumption | intro _ | refine (startOp_view' (Sub.of (by assumption) (by decide)) (by assumption)).trans ?_ | simp (disch := first | exact hide_on (Sub.of (by assumption) (by decide)) | with_reducible rfl | exact Sub.of (by assumption) (by decide) | assumption) only [startOp_view, okRep, refuse, runAsync, id, view_lit, apply_ite (State.view hid), ite_self] | exact Sub.of (by assumption) (by decide) | with_reducible apply completing_view | with_reducible apply foldl_keep | with_reducible apply foldl_keep2 | split | with_reducible rfl)
  apply := by
    unfold ledgerReadCmd
    simp only [Cmd.plain]
    repeat' (first | assumption | intro _ | refine (startOp_view' (Sub.of (by assumption) (by decide)) (by assumption)).trans ?_ | simp (disch := first | exact hide_on (Sub.of (by assumption) (by decide)) | with_reducible rfl | exact Sub.of (by assumption) (by decide) | assumption) only [startOp_view, okRep, refuse, runAsync, id, view_lit, apply_ite (State.view hid), ite_self] | exact Sub.of (by assumption) (by decide) | with_reducible apply completing_view | with_reducible apply foldl_keep | with_reducible apply foldl_keep2 | split | with_reducible rfl)
  accept := by
    intro f hf
    first
    | (simp only [ledgerReadCmd, Cmd.plain, reduceCtorEq] at hf; done)
    | (simp only [ledgerReadCmd, Cmd.plain, alAccept, Option.some.injEq] at hf
       subst hf
       repeat' (first | assumption | intro _ | refine (startOp_view' (Sub.of (by assumption) (by decide)) (by assumption)).trans ?_ | simp (disch := first | exact hide_on (Sub.of (by assumption) (by decide)) | with_reducible rfl | exact Sub.of (by assumption) (by decide) | assumption) only [startOp_view, okRep, refuse, runAsync, id, view_lit, apply_ite (State.view hid), ite_self] | exact Sub.of (by assumption) (by decide) | with_reducible apply completing_view | with_reducible apply foldl_keep | with_reducible apply foldl_keep2 | split | with_reducible rfl))

theorem canCancelCmd_keeps  (begun : Bool) (hm : Sub 0x80000200 hid) : KeepsCmd hid (canCancelCmd begun) where
  run := by
    unfold canCancelCmd
    simp only [Cmd.plain]
    repeat' (first | assumption | intro _ | refine (startOp_view' (Sub.of (by assumption) (by decide)) (by assumption)).trans ?_ | simp (disch := first | exact hide_on (Sub.of (by assumption) (by decide)) | with_reducible rfl | exact Sub.of (by assumption) (by decide) | assumption) only [canDrop_view, startOp_view, okRep, refuse, runAsync, id, view_lit, apply_ite (State.view hid), ite_self] | exact Sub.of (by assumption) (by decide) | with_reducible apply completing_view | with_reducible apply foldl_keep | with_reducible apply foldl_keep2 | split | with_reducible rfl)
  after := by
    unfold canCancelCmd
    simp only [Cmd.plain]
    repeat' (first | assumption | intro _ | refine (startOp_view' (Sub.of (by assumption) (by decide)) (by assumption)).trans ?_ | simp (disch := first | exact hide_on (Sub.of (by assumption) (by decide)) | with_reducible rfl | exact Sub.of (by assumption) (by decide) | assumption) only [canDrop_view, startOp_view, okRep, refuse, runAsync, id, view_lit, apply_ite (State.view hid), ite_self] | exact Sub.of (by assumption) (by decide) | with_reducible apply completing_view | with_reducible apply foldl_keep | with_reducible apply foldl_keep2 | split | with_reducible rfl)
  apply := by
    unfold canCancelCmd
    simp only [Cmd.plain]
    repeat' (first | assumption | intro _ | refine (startOp_view' (Sub.of (by assumption) (by decide)) (by assumption)).trans ?_ | simp (disch := first | exact hide_on (Sub.of (by assumption) (by decide)) | with_reducible rfl | exact Sub.of (by assumption) (by decide) | assumption) only [canDrop_view, startOp_view, okRep, refuse, runAsync, id, view_lit, apply_ite (State.view hid), ite_self] | exact Sub.of (by assumption) (by decide) | with_reducible apply completing_view | with_reducible apply foldl_keep | with_reducible apply foldl_keep2 | split | with_reducible rfl)
  accept := by
    intro f hf
    first
    | (simp only [canCancelCmd, Cmd.plain, reduceCtorEq] at hf; done)
    | (simp only [canCancelCmd, Cmd.plain, alAccept, Option.some.injEq] at hf
       subst hf
       repeat' (first | assumption | intro _ | refine (startOp_view' (Sub.of (by assumption) (by decide)) (by assumption)).trans ?_ | simp (disch := first | exact hide_on (Sub.of (by assumption) (by decide)) | with_reducible rfl | exact Sub.of (by assumption) (by decide) | assumption) only [canDrop_view, startOp_view, okRep, refuse, runAsync, id, view_lit, apply_ite (State.view hid), ite_self] | exact Sub.of (by assumption) (by decide) | with_reducible apply completing_view | with_reducible apply foldl_keep | with_reducible apply foldl_keep2 | split | with_reducible rfl))

theorem canRecoverCmd_keeps  (hm : Sub 0x80000000 hid) : KeepsCmd hid canRecoverCmd where
  run := by
    unfold canRecoverCmd
    simp only [Cmd.plain]
    repeat' (first | assumption | intro _ | refine (startOp_view' (Sub.of (by assumption) (by decide)) (by assumption)).trans ?_ | simp (disch := first | exact hide_on (Sub.of (by assumption) (by decide)) | with_reducible rfl | exact Sub.of (by assumption) (by decide) | assumption) only [modCan_view, startOp_view, okRep, refuse, runAsync, id, view_lit, apply_ite (State.view hid), ite_self] | exact Sub.of (by assumption) (by decide) | with_reducible apply completing_view | with_reducible apply foldl_keep | with_reducible apply foldl_keep2 | split | with_reducible rfl)
  after := by
    unfold canRecoverCmd
    simp only [Cmd.plain]
    repeat' (first | assumption | intro _ | refine (startOp_view' (Sub.of (by assumption) (by decide)) (by assumption)).trans ?_ | simp (disch := first | exact hide_on (Sub.of (by assumption) (by decide)) | with_reducible rfl | exact Sub.of (by assumption) (by decide) | assumption) only [modCan_view, startOp_view, okRep, refuse, runAsync, id, view_lit, apply_ite (State.view hid), ite_self] | exact Sub.of (by assumption) (by decide) | with_reducible apply completing_view | with_reducible apply foldl_keep | with_reducible apply foldl_keep2 | split | with_reducible rfl)
  apply := by
    unfold canRecoverCmd
    simp only [Cmd.plain]
    repeat' (first | assumption | intro _ | refine (startOp_view' (Sub.of (by assumption) (by decide)) (by assumption)).trans ?_ | simp (disch := first | exact hide_on (Sub.of (by assumption) (by decide)) | with_reducible rfl | exact Sub.of (by assumption) (by decide) | assumption) only [modCan_view, startOp_view, okRep, refuse, runAsync, id, view_lit, apply_ite (State.view hid), ite_self] | exact Sub.of (by assumption) (by decide) | with_reducible apply completing_view | with_reducible apply foldl_keep | with_reducible apply foldl_keep2 | split | with_reducible rfl)
  accept := by
    intro f hf
    first
    | (simp only [canRecoverCmd, Cmd.plain, reduceCtorEq] at hf; done)
    | (simp only [canRecoverCmd, Cmd.plain, alAccept, Option.some.injEq] at hf
       subst hf
       repeat' (first | assumption | intro _ | refine (startOp_view' (Sub.of (by assumption) (by decide)) (by assumption)).trans ?_ | simp (disch := first | exact hide_on (Sub.of (by assumption) (by decide)) | with_reducible rfl | exact Sub.of (by assumption) (by decide) | assumption) only [modCan_view, startOp_view, okRep, refuse, runAsync, id, view_lit, apply_ite (State.view hid), ite_self] | exact Sub.of (by assumption) (by decide) | with_reducible apply completing_view | with_reducible apply foldl_keep | with_reducible apply foldl_keep2 | split | with_reducible rfl))

theorem aoTrimCmd_keeps  (hm : Sub 0x10000000 hid) : KeepsCmd hid aoTrimCmd where
  run := by
    unfold aoTrimCmd
    simp only [Cmd.plain]
    repeat' (first | assumption | intro _ | refine (startOp_view' (Sub.of (by assumption) (by decide)) (by assumption)).trans ?_ | simp (disch := first | exact hide_on (Sub.of (by assumption) (by decide)) | with_reducible rfl | exact Sub.of (by assumption) (by decide) | assumption) only [aoTrim_view, startOp_view, okRep, refuse, runAsync, id, view_lit, apply_ite (State.view hid), ite_self] | exact Sub.of (by assumption) (by decide) | with_reducible apply completing_view | with_reducible apply foldl_keep | with_reducible apply foldl_keep2 | split | with_reducible rfl)
  after := by
    unfold aoTrimCmd
    simp only [Cmd.plain]
    repeat' (first | assumption | intro _ | refine (startOp_view' (Sub.of (by assumption) (by decide)) (by assumption)).trans ?_ | simp (disch := first | exact hide_on (Sub.of (by assumption) (by decide)) | with_reducible rfl | exact Sub.of (by assumption) (by decide) | assumption) only [aoTrim_view, startOp_view, okRep, refuse, runAsync, id, view_lit, apply_ite (State.view hid), ite_self] | exact Sub.of (by assumption) (by decide) | with_reducible apply completing_view | with_reducible apply foldl_keep | with_reducible apply foldl_keep2 | split | with_reducible rfl)
  apply := by
    unfold aoTrimCmd
    simp only [Cmd.plain]
    repeat' (first | assumption | intro _ | refine (startOp_view' (Sub.of (by assumption) (by decide)) (by assumption)).trans ?_ | simp (disch := first | exact hide_on (Sub.of (by assumption) (by decide)) | with_reducible rfl | exact Sub.of (by assumption) (by decide) | assumption) only [aoTrim_view, startOp_view, okRep, refuse, runAsync, id, view_lit, apply_ite (State.view hid), ite_self] | exact Sub.of (by assumption) (by decide) | with_reducible apply completing_view | with_reducible apply foldl_keep | with_reducible apply foldl_keep2 | split | with_reducible rfl)
  accept := by
    intro f hf
    first
    | (simp only [aoTrimCmd, Cmd.plain, reduceCtorEq] at hf; done)
    | (simp only [aoTrimCmd, Cmd.plain, alAccept, Option.some.injEq] at hf
       subst hf
       repeat' (first | assumption | intro _ | refine (startOp_view' (Sub.of (by assumption) (by decide)) (by assumption)).trans ?_ | simp (disch := first | exact hide_on (Sub.of (by assumption) (by decide)) | with_reducible rfl | exact Sub.of (by assumption) (by decide) | assumption) only [aoTrim_view, startOp_view, okRep, refuse, runAsync, id, view_lit, apply_ite (State.view hid), ite_self] | exact Sub.of (by assumption) (by decide) | with_reducible apply completing_view | with_reducible apply foldl_keep | with_reducible apply foldl_keep2 | split | with_reducible rfl))

theorem setModeCmd_keeps  (hm : Sub 0x4208 hid) : KeepsCmd hid setModeCmd where
  run := by
    unfold setModeCmd
    simp only [Cmd.plain]
    repeat' (first | assumption | intro _ | refine (startOp_view' (Sub.of (by assumption) (by decide)) (by assumption)).trans ?_ | simp (disch := first | exact hide_on (Sub.of (by assumption) (by decide)) | with_reducible rfl | exact Sub.of (by assumption) (by decide) | assumption) only [setMode_view, startOp_view, okRep, refuse, runAsync, id, view_lit, apply_ite (State.view hid), ite_self] | exact Sub.of (by assumption) (by decide) | with_reducible apply completing_view | with_reducible apply foldl_keep | with_reducible apply foldl_keep2 | split | with_reducible rfl)
  after := by
    unfold setModeCmd
    simp only [Cmd.plain]
    repeat' (first | assumption | intro _ | refine (startOp_view' (Sub.of (by assumption) (by decide)) (by assumption)).trans ?_ | simp (disch := first | exact hide_on (Sub.of (by assumption) (by decide)) | with_reducible rfl | exact Sub.of (by assumption) (by decide) | assumption) only [setMode_view, startOp_view, okRep, refuse, runAsync, id, view_lit, apply_ite (State.view hid), ite_self] | exact Sub.of (by assumption) (by decide) | with_reducible apply completing_view | with_reducible apply foldl_keep | with_reducible apply foldl_keep2 | split | with_reducible rfl)
  apply := by
    unfold setModeCmd
    simp only [Cmd.plain]
    repeat' (first | assumption | intro _ | refine (startOp_view' (Sub.of (by assumption) (by decide)) (by assumption)).trans ?_ | simp (disch := first | exact hide_on (Sub.of (by assumption) (by decide)) | with_reducible rfl | exact Sub.of (by assumption) (by decide) | assumption) only [setMode_view, startOp_view, okRep, refuse, runAsync, id, view_lit, apply_ite (State.view hid), ite_self] | exact Sub.of (by assumption) (by decide) | with_reducible apply completing_view | with_reducible apply foldl_keep | with_reducible apply foldl_keep2 | split | with_reducible rfl)
  accept := by
    intro f hf
    first
    | (simp only [setModeCmd, Cmd.plain, reduceCtorEq] at hf; done)
    | (simp only [setModeCmd, Cmd.plain, alAccept, Option.some.injEq] at hf
       subst hf
       repeat' (first | assumption | intro _ | refine (startOp_view' (Sub.of (by assumption) (by decide)) (by assumption)).trans ?_ | simp (disch := first | exact hide_on (Sub.of (by assumption) (by decide)) | with_reducible rfl | exact Sub.of (by assumption) (by decide) | assumption) only [setMode_view, startOp_view, okRep, refuse, runAsync, id, view_lit, apply_ite (State.view hid), ite_self] | exact Sub.of (by assumption) (by decide) | with_reducible apply completing_view | with_reducible apply foldl_keep | with_reducible apply foldl_keep2 | split | with_reducible rfl))

theorem roleSwapCmd_keeps  (hm : Sub 0x4208 hid) : KeepsCmd hid roleSwapCmd where
  run := by
    unfold roleSwapCmd
    simp only [Cmd.plain]
    repeat' (first | assumption | intro _ | refine (startOp_view' (Sub.of (by assumption) (by decide)) (by assumption)).trans ?_ | simp (disch := first | exact hide_on (Sub.of (by assumption) (by decide)) | with_reducible rfl | exact Sub.of (by assumption) (by decide) | assumption) only [askSwap_view, startOp_view, okRep, refuse, runAsync, id, view_lit, apply_ite (State.view hid), ite_self] | exact Sub.of (by assumption) (by decide) | with_reducible apply completing_view | with_reducible apply foldl_keep | with_reducible apply foldl_keep2 | split | with_reducible rfl)
  after := by
    unfold roleSwapCmd
    simp only [Cmd.plain]
    repeat' (first | assumption | intro _ | refine (startOp_view' (Sub.of (by assumption) (by decide)) (by assumption)).trans ?_ | simp (disch := first | exact hide_on (Sub.of (by assumption) (by decide)) | with_reducible rfl | exact Sub.of (by assumption) (by decide) | assumption) only [askSwap_view, startOp_view, okRep, refuse, runAsync, id, view_lit, apply_ite (State.view hid), ite_self] | exact Sub.of (by assumption) (by decide) | with_reducible apply completing_view | with_reducible apply foldl_keep | with_reducible apply foldl_keep2 | split | with_reducible rfl)
  apply := by
    unfold roleSwapCmd
    simp only [Cmd.plain]
    repeat' (first | assumption | intro _ | refine (startOp_view' (Sub.of (by assumption) (by decide)) (by assumption)).trans ?_ | simp (disch := first | exact hide_on (Sub.of (by assumption) (by decide)) | with_reducible rfl | exact Sub.of (by assumption) (by decide) | assumption) only [askSwap_view, startOp_view, okRep, refuse, runAsync, id, view_lit, apply_ite (State.view hid), ite_self] | exact Sub.of (by assumption) (by decide) | with_reducible apply completing_view | with_reducible apply foldl_keep | with_reducible apply foldl_keep2 | split | with_reducible rfl)
  accept := by
    intro f hf
    first
    | (simp only [roleSwapCmd, Cmd.plain, reduceCtorEq] at hf; done)
    | (simp only [roleSwapCmd, Cmd.plain, alAccept, Option.some.injEq] at hf
       subst hf
       repeat' (first | assumption | intro _ | refine (startOp_view' (Sub.of (by assumption) (by decide)) (by assumption)).trans ?_ | simp (disch := first | exact hide_on (Sub.of (by assumption) (by decide)) | with_reducible rfl | exact Sub.of (by assumption) (by decide) | assumption) only [askSwap_view, startOp_view, okRep, refuse, runAsync, id, view_lit, apply_ite (State.view hid), ite_self] | exact Sub.of (by assumption) (by decide) | with_reducible apply completing_view | with_reducible apply foldl_keep | with_reducible apply foldl_keep2 | split | with_reducible rfl))

theorem restartCmd_keeps  (hm : Sub 0x4008 hid) : KeepsCmd hid restartCmd where
  run := by
    unfold restartCmd
    simp only [Cmd.plain]
    repeat' (first | assumption | intro _ | refine (startOp_view' (Sub.of (by assumption) (by decide)) (by assumption)).trans ?_ | simp (disch := first | exact hide_on (Sub.of (by assumption) (by decide)) | with_reducible rfl | exact Sub.of (by assumption) (by decide) | assumption) only [restart_view, startOp_view, okRep, refuse, runAsync, id, view_lit, apply_ite (State.view hid), ite_self] | exact Sub.of (by assumption) (by decide) | with_reducible apply completing_view | with_reducible apply foldl_keep | with_reducible apply foldl_keep2 | split | with_reducible rfl)
  after := by
    unfold restartCmd
    simp only [Cmd.plain]
    repeat' (first | assumption | intro _ | refine (startOp_view' (Sub.of (by assumption) (by decide)) (by assumption)).trans ?_ | simp (disch := first | exact hide_on (Sub.of (by assumption) (by decide)) | with_reducible rfl | exact Sub.of (by assumption) (by decide) | assumption) only [restart_view, startOp_view, okRep, refuse, runAsync, id, view_lit, apply_ite (State.view hid), ite_self] | exact Sub.of (by assumption) (by decide) | with_reducible apply completing_view | with_reducible apply foldl_keep | with_reducible apply foldl_keep2 | split | with_reducible rfl)
  apply := by
    unfold restartCmd
    simp only [Cmd.plain]
    repeat' (first | assumption | intro _ | refine (startOp_view' (Sub.of (by assumption) (by decide)) (by assumption)).trans ?_ | simp (disch := first | exact hide_on (Sub.of (by assumption) (by decide)) | with_reducible rfl | exact Sub.of (by assumption) (by decide) | assumption) only [restart_view, startOp_view, okRep, refuse, runAsync, id, view_lit, apply_ite (State.view hid), ite_self] | exact Sub.of (by assumption) (by decide) | with_reducible apply completing_view | with_reducible apply foldl_keep | with_reducible apply foldl_keep2 | split | with_reducible rfl)
  accept := by
    intro f hf
    first
    | (simp only [restartCmd, Cmd.plain, reduceCtorEq] at hf; done)
    | (simp only [restartCmd, Cmd.plain, alAccept, Option.some.injEq] at hf
       subst hf
       repeat' (first | assumption | intro _ | refine (startOp_view' (Sub.of (by assumption) (by decide)) (by assumption)).trans ?_ | simp (disch := first | exact hide_on (Sub.of (by assumption) (by decide)) | with_reducible rfl | exact Sub.of (by assumption) (by decide) | assumption) only [restart_view, startOp_view, okRep, refuse, runAsync, id, view_lit, apply_ite (State.view hid), ite_self] | exact Sub.of (by assumption) (by decide) | with_reducible apply completing_view | with_reducible apply foldl_keep | with_reducible apply foldl_keep2 | split | with_reducible rfl))

theorem updateBeginCmd_keeps  (hm : Sub 0x200000000 hid) : KeepsCmd hid updateBeginCmd where
  run := by
    unfold updateBeginCmd
    simp only [Cmd.plain]
    repeat' (first | assumption | intro _ | refine (startOp_view' (Sub.of (by assumption) (by decide)) (by assumption)).trans ?_ | simp (disch := first | exact hide_on (Sub.of (by assumption) (by decide)) | with_reducible rfl | exact Sub.of (by assumption) (by decide) | assumption) only [modFw_view, abandonUpdate_view, startOp_view, okRep, refuse, runAsync, id, view_lit, apply_ite (State.view hid), ite_self] | exact Sub.of (by assumption) (by decide) | with_reducible apply completing_view | with_reducible apply foldl_keep | with_reducible apply foldl_keep2 | split | with_reducible rfl)
  after := by
    unfold updateBeginCmd
    simp only [Cmd.plain]
    repeat' (first | assumption | intro _ | refine (startOp_view' (Sub.of (by assumption) (by decide)) (by assumption)).trans ?_ | simp (disch := first | exact hide_on (Sub.of (by assumption) (by decide)) | with_reducible rfl | exact Sub.of (by assumption) (by decide) | assumption) only [modFw_view, abandonUpdate_view, startOp_view, okRep, refuse, runAsync, id, view_lit, apply_ite (State.view hid), ite_self] | exact Sub.of (by assumption) (by decide) | with_reducible apply completing_view | with_reducible apply foldl_keep | with_reducible apply foldl_keep2 | split | with_reducible rfl)
  apply := by
    unfold updateBeginCmd
    simp only [Cmd.plain]
    repeat' (first | assumption | intro _ | refine (startOp_view' (Sub.of (by assumption) (by decide)) (by assumption)).trans ?_ | simp (disch := first | exact hide_on (Sub.of (by assumption) (by decide)) | with_reducible rfl | exact Sub.of (by assumption) (by decide) | assumption) only [modFw_view, abandonUpdate_view, startOp_view, okRep, refuse, runAsync, id, view_lit, apply_ite (State.view hid), ite_self] | exact Sub.of (by assumption) (by decide) | with_reducible apply completing_view | with_reducible apply foldl_keep | with_reducible apply foldl_keep2 | split | with_reducible rfl)
  accept := by
    intro f hf
    first
    | (simp only [updateBeginCmd, Cmd.plain, reduceCtorEq] at hf; done)
    | (simp only [updateBeginCmd, Cmd.plain, alAccept, Option.some.injEq] at hf
       subst hf
       repeat' (first | assumption | intro _ | refine (startOp_view' (Sub.of (by assumption) (by decide)) (by assumption)).trans ?_ | simp (disch := first | exact hide_on (Sub.of (by assumption) (by decide)) | with_reducible rfl | exact Sub.of (by assumption) (by decide) | assumption) only [modFw_view, abandonUpdate_view, startOp_view, okRep, refuse, runAsync, id, view_lit, apply_ite (State.view hid), ite_self] | exact Sub.of (by assumption) (by decide) | with_reducible apply completing_view | with_reducible apply foldl_keep | with_reducible apply foldl_keep2 | split | with_reducible rfl))

theorem updateBlockCmd_keeps  (hm : Sub 0x200000000 hid) : KeepsCmd hid updateBlockCmd where
  run := by
    unfold updateBlockCmd
    simp only [Cmd.plain]
    repeat' (first | assumption | intro _ | refine (startOp_view' (Sub.of (by assumption) (by decide)) (by assumption)).trans ?_ | simp (disch := first | exact hide_on (Sub.of (by assumption) (by decide)) | with_reducible rfl | exact Sub.of (by assumption) (by decide) | assumption) only [modFw_view, raise_view, startOp_view, okRep, refuse, runAsync, id, view_lit, apply_ite (State.view hid), ite_self] | exact Sub.of (by assumption) (by decide) | with_reducible apply completing_view | with_reducible apply foldl_keep | with_reducible apply foldl_keep2 | split | with_reducible rfl)
  after := by
    unfold updateBlockCmd
    simp only [Cmd.plain]
    repeat' (first | assumption | intro _ | refine (startOp_view' (Sub.of (by assumption) (by decide)) (by assumption)).trans ?_ | simp (disch := first | exact hide_on (Sub.of (by assumption) (by decide)) | with_reducible rfl | exact Sub.of (by assumption) (by decide) | assumption) only [modFw_view, raise_view, startOp_view, okRep, refuse, runAsync, id, view_lit, apply_ite (State.view hid), ite_self] | exact Sub.of (by assumption) (by decide) | with_reducible apply completing_view | with_reducible apply foldl_keep | with_reducible apply foldl_keep2 | split | with_reducible rfl)
  apply := by
    unfold updateBlockCmd
    simp only [Cmd.plain]
    repeat' (first | assumption | intro _ | refine (startOp_view' (Sub.of (by assumption) (by decide)) (by assumption)).trans ?_ | simp (disch := first | exact hide_on (Sub.of (by assumption) (by decide)) | with_reducible rfl | exact Sub.of (by assumption) (by decide) | assumption) only [modFw_view, raise_view, startOp_view, okRep, refuse, runAsync, id, view_lit, apply_ite (State.view hid), ite_self] | exact Sub.of (by assumption) (by decide) | with_reducible apply completing_view | with_reducible apply foldl_keep | with_reducible apply foldl_keep2 | split | with_reducible rfl)
  accept := by
    intro f hf
    first
    | (simp only [updateBlockCmd, Cmd.plain, reduceCtorEq] at hf; done)
    | (simp only [updateBlockCmd, Cmd.plain, alAccept, Option.some.injEq] at hf
       subst hf
       repeat' (first | assumption | intro _ | refine (startOp_view' (Sub.of (by assumption) (by decide)) (by assumption)).trans ?_ | simp (disch := first | exact hide_on (Sub.of (by assumption) (by decide)) | with_reducible rfl | exact Sub.of (by assumption) (by decide) | assumption) only [modFw_view, raise_view, startOp_view, okRep, refuse, runAsync, id, view_lit, apply_ite (State.view hid), ite_self] | exact Sub.of (by assumption) (by decide) | with_reducible apply completing_view | with_reducible apply foldl_keep | with_reducible apply foldl_keep2 | split | with_reducible rfl))

theorem updateVerifyCmd_keeps  (hm : Sub 0x200000200 hid) : KeepsCmd hid updateVerifyCmd where
  run := by
    unfold updateVerifyCmd
    simp only [Cmd.plain]
    repeat' (first | assumption | intro _ | refine (startOp_view' (Sub.of (by assumption) (by decide)) (by assumption)).trans ?_ | simp (disch := first | exact hide_on (Sub.of (by assumption) (by decide)) | with_reducible rfl | exact Sub.of (by assumption) (by decide) | assumption) only [updateVerifyApply_view, startOp_view, okRep, refuse, runAsync, id, view_lit, apply_ite (State.view hid), ite_self] | exact Sub.of (by assumption) (by decide) | with_reducible apply completing_view | with_reducible apply foldl_keep | with_reducible apply foldl_keep2 | split | with_reducible rfl)
  after := by
    unfold updateVerifyCmd
    simp only [Cmd.plain]
    repeat' (first | assumption | intro _ | refine (startOp_view' (Sub.of (by assumption) (by decide)) (by assumption)).trans ?_ | simp (disch := first | exact hide_on (Sub.of (by assumption) (by decide)) | with_reducible rfl | exact Sub.of (by assumption) (by decide) | assumption) only [updateVerifyApply_view, startOp_view, okRep, refuse, runAsync, id, view_lit, apply_ite (State.view hid), ite_self] | exact Sub.of (by assumption) (by decide) | with_reducible apply completing_view | with_reducible apply foldl_keep | with_reducible apply foldl_keep2 | split | with_reducible rfl)
  apply := by
    unfold updateVerifyCmd
    simp only [Cmd.plain]
    repeat' (first | assumption | intro _ | refine (startOp_view' (Sub.of (by assumption) (by decide)) (by assumption)).trans ?_ | simp (disch := first | exact hide_on (Sub.of (by assumption) (by decide)) | with_reducible rfl | exact Sub.of (by assumption) (by decide) | assumption) only [updateVerifyApply_view, startOp_view, okRep, refuse, runAsync, id, view_lit, apply_ite (State.view hid), ite_self] | exact Sub.of (by assumption) (by decide) | with_reducible apply completing_view | with_reducible apply foldl_keep | with_reducible apply foldl_keep2 | split | with_reducible rfl)
  accept := by
    intro f hf
    first
    | (simp only [updateVerifyCmd, Cmd.plain, reduceCtorEq] at hf; done)
    | (simp only [updateVerifyCmd, Cmd.plain, alAccept, Option.some.injEq] at hf
       subst hf
       repeat' (first | assumption | intro _ | refine (startOp_view' (Sub.of (by assumption) (by decide)) (by assumption)).trans ?_ | simp (disch := first | exact hide_on (Sub.of (by assumption) (by decide)) | with_reducible rfl | exact Sub.of (by assumption) (by decide) | assumption) only [updateVerifyApply_view, startOp_view, okRep, refuse, runAsync, id, view_lit, apply_ite (State.view hid), ite_self] | exact Sub.of (by assumption) (by decide) | with_reducible apply completing_view | with_reducible apply foldl_keep | with_reducible apply foldl_keep2 | split | with_reducible rfl))

theorem activateCmd_keeps  (hm : Sub 0x200000208 hid) : KeepsCmd hid activateCmd where
  run := by
    unfold activateCmd
    simp only [Cmd.plain]
    repeat' (first | assumption | intro _ | refine (startOp_view' (Sub.of (by assumption) (by decide)) (by assumption)).trans ?_ | simp (disch := first | exact hide_on (Sub.of (by assumption) (by decide)) | with_reducible rfl | exact Sub.of (by assumption) (by decide) | assumption) only [activateApply_view, startOp_view, okRep, refuse, runAsync, id, view_lit, apply_ite (State.view hid), ite_self] | exact Sub.of (by assumption) (by decide) | with_reducible apply completing_view | with_reducible apply foldl_keep | with_reducible apply foldl_keep2 | split | with_reducible rfl)
  after := by
    unfold activateCmd
    simp only [Cmd.plain]
    repeat' (first | assumption | intro _ | refine (startOp_view' (Sub.of (by assumption) (by decide)) (by assumption)).trans ?_ | simp (disch := first | exact hide_on (Sub.of (by assumption) (by decide)) | with_reducible rfl | exact Sub.of (by assumption) (by decide) | assumption) only [activateApply_view, startOp_view, okRep, refuse, runAsync, id, view_lit, apply_ite (State.view hid), ite_self] | exact Sub.of (by assumption) (by decide) | with_reducible apply completing_view | with_reducible apply foldl_keep | with_reducible apply foldl_keep2 | split | with_reducible rfl)
  apply := by
    unfold activateCmd
    simp only [Cmd.plain]
    repeat' (first | assumption | intro _ | refine (startOp_view' (Sub.of (by assumption) (by decide)) (by assumption)).trans ?_ | simp (disch := first | exact hide_on (Sub.of (by assumption) (by decide)) | with_reducible rfl | exact Sub.of (by assumption) (by decide) | assumption) only [activateApply_view, startOp_view, okRep, refuse, runAsync, id, view_lit, apply_ite (State.view hid), ite_self] | exact Sub.of (by assumption) (by decide) | with_reducible apply completing_view | with_reducible apply foldl_keep | with_reducible apply foldl_keep2 | split | with_reducible rfl)
  accept := by
    intro f hf
    first
    | (simp only [activateCmd, Cmd.plain, reduceCtorEq] at hf; done)
    | (simp only [activateCmd, Cmd.plain, alAccept, Option.some.injEq] at hf
       subst hf
       repeat' (first | assumption | intro _ | refine (startOp_view' (Sub.of (by assumption) (by decide)) (by assumption)).trans ?_ | simp (disch := first | exact hide_on (Sub.of (by assumption) (by decide)) | with_reducible rfl | exact Sub.of (by assumption) (by decide) | assumption) only [activateApply_view, startOp_view, okRep, refuse, runAsync, id, view_lit, apply_ite (State.view hid), ite_self] | exact Sub.of (by assumption) (by decide) | with_reducible apply completing_view | with_reducible apply foldl_keep | with_reducible apply foldl_keep2 | split | with_reducible rfl))

theorem rollbackCmd_keeps  (hm : Sub 0x200004008 hid) : KeepsCmd hid rollbackCmd where
  run := by
    unfold rollbackCmd
    simp only [Cmd.plain]
    repeat' (first | assumption | intro _ | refine (startOp_view' (Sub.of (by assumption) (by decide)) (by assumption)).trans ?_ | simp (disch := first | exact hide_on (Sub.of (by assumption) (by decide)) | with_reducible rfl | exact Sub.of (by assumption) (by decide) | assumption) only [rollback_view, startOp_view, okRep, refuse, runAsync, id, view_lit, apply_ite (State.view hid), ite_self] | exact Sub.of (by assumption) (by decide) | with_reducible apply completing_view | with_reducible apply foldl_keep | with_reducible apply foldl_keep2 | split | with_reducible rfl)
  after := by
    unfold rollbackCmd
    simp only [Cmd.plain]
    repeat' (first | assumption | intro _ | refine (startOp_view' (Sub.of (by assumption) (by decide)) (by assumption)).trans ?_ | simp (disch := first | exact hide_on (Sub.of (by assumption) (by decide)) | with_reducible rfl | exact Sub.of (by assumption) (by decide) | assumption) only [rollback_view, startOp_view, okRep, refuse, runAsync, id, view_lit, apply_ite (State.view hid), ite_self] | exact Sub.of (by assumption) (by decide) | with_reducible apply completing_view | with_reducible apply foldl_keep | with_reducible apply foldl_keep2 | split | with_reducible rfl)
  apply := by
    unfold rollbackCmd
    simp only [Cmd.plain]
    repeat' (first | assumption | intro _ | refine (startOp_view' (Sub.of (by assumption) (by decide)) (by assumption)).trans ?_ | simp (disch := first | exact hide_on (Sub.of (by assumption) (by decide)) | with_reducible rfl | exact Sub.of (by assumption) (by decide) | assumption) only [rollback_view, startOp_view, okRep, refuse, runAsync, id, view_lit, apply_ite (State.view hid), ite_self] | exact Sub.of (by assumption) (by decide) | with_reducible apply completing_view | with_reducible apply foldl_keep | with_reducible apply foldl_keep2 | split | with_reducible rfl)
  accept := by
    intro f hf
    first
    | (simp only [rollbackCmd, Cmd.plain, reduceCtorEq] at hf; done)
    | (simp only [rollbackCmd, Cmd.plain, alAccept, Option.some.injEq] at hf
       subst hf
       repeat' (first | assumption | intro _ | refine (startOp_view' (Sub.of (by assumption) (by decide)) (by assumption)).trans ?_ | simp (disch := first | exact hide_on (Sub.of (by assumption) (by decide)) | with_reducible rfl | exact Sub.of (by assumption) (by decide) | assumption) only [rollback_view, startOp_view, okRep, refuse, runAsync, id, view_lit, apply_ite (State.view hid), ite_self] | exact Sub.of (by assumption) (by decide) | with_reducible apply completing_view | with_reducible apply foldl_keep | with_reducible apply foldl_keep2 | split | with_reducible rfl))

theorem archiveReadCmd_keeps  : KeepsCmd hid archiveReadCmd where
  run := by
    unfold archiveReadCmd
    simp only [Cmd.plain]
    repeat' (first | assumption | intro _ | refine (startOp_view' (Sub.of (by assumption) (by decide)) (by assumption)).trans ?_ | simp (disch := first | exact hide_on (Sub.of (by assumption) (by decide)) | with_reducible rfl | exact Sub.of (by assumption) (by decide) | assumption) only [startOp_view, okRep, refuse, runAsync, id, view_lit, apply_ite (State.view hid), ite_self] | exact Sub.of (by assumption) (by decide) | with_reducible apply completing_view | with_reducible apply foldl_keep | with_reducible apply foldl_keep2 | split | with_reducible rfl)
  after := by
    unfold archiveReadCmd
    simp only [Cmd.plain]
    repeat' (first | assumption | intro _ | refine (startOp_view' (Sub.of (by assumption) (by decide)) (by assumption)).trans ?_ | simp (disch := first | exact hide_on (Sub.of (by assumption) (by decide)) | with_reducible rfl | exact Sub.of (by assumption) (by decide) | assumption) only [startOp_view, okRep, refuse, runAsync, id, view_lit, apply_ite (State.view hid), ite_self] | exact Sub.of (by assumption) (by decide) | with_reducible apply completing_view | with_reducible apply foldl_keep | with_reducible apply foldl_keep2 | split | with_reducible rfl)
  apply := by
    unfold archiveReadCmd
    simp only [Cmd.plain]
    repeat' (first | assumption | intro _ | refine (startOp_view' (Sub.of (by assumption) (by decide)) (by assumption)).trans ?_ | simp (disch := first | exact hide_on (Sub.of (by assumption) (by decide)) | with_reducible rfl | exact Sub.of (by assumption) (by decide) | assumption) only [startOp_view, okRep, refuse, runAsync, id, view_lit, apply_ite (State.view hid), ite_self] | exact Sub.of (by assumption) (by decide) | with_reducible apply completing_view | with_reducible apply foldl_keep | with_reducible apply foldl_keep2 | split | with_reducible rfl)
  accept := by
    intro f hf
    first
    | (simp only [archiveReadCmd, Cmd.plain, reduceCtorEq] at hf; done)
    | (simp only [archiveReadCmd, Cmd.plain, alAccept, Option.some.injEq] at hf
       subst hf
       repeat' (first | assumption | intro _ | refine (startOp_view' (Sub.of (by assumption) (by decide)) (by assumption)).trans ?_ | simp (disch := first | exact hide_on (Sub.of (by assumption) (by decide)) | with_reducible rfl | exact Sub.of (by assumption) (by decide) | assumption) only [startOp_view, okRep, refuse, runAsync, id, view_lit, apply_ite (State.view hid), ite_self] | exact Sub.of (by assumption) (by decide) | with_reducible apply completing_view | with_reducible apply foldl_keep | with_reducible apply foldl_keep2 | split | with_reducible rfl))

theorem trendReadCmd_keeps  : KeepsCmd hid trendReadCmd where
  run := by
    unfold trendReadCmd
    simp only [Cmd.plain]
    repeat' (first | assumption | intro _ | refine (startOp_view' (Sub.of (by assumption) (by decide)) (by assumption)).trans ?_ | simp (disch := first | exact hide_on (Sub.of (by assumption) (by decide)) | with_reducible rfl | exact Sub.of (by assumption) (by decide) | assumption) only [startOp_view, okRep, refuse, runAsync, id, view_lit, apply_ite (State.view hid), ite_self] | exact Sub.of (by assumption) (by decide) | with_reducible apply completing_view | with_reducible apply foldl_keep | with_reducible apply foldl_keep2 | split | with_reducible rfl)
  after := by
    unfold trendReadCmd
    simp only [Cmd.plain]
    repeat' (first | assumption | intro _ | refine (startOp_view' (Sub.of (by assumption) (by decide)) (by assumption)).trans ?_ | simp (disch := first | exact hide_on (Sub.of (by assumption) (by decide)) | with_reducible rfl | exact Sub.of (by assumption) (by decide) | assumption) only [startOp_view, okRep, refuse, runAsync, id, view_lit, apply_ite (State.view hid), ite_self] | exact Sub.of (by assumption) (by decide) | with_reducible apply completing_view | with_reducible apply foldl_keep | with_reducible apply foldl_keep2 | split | with_reducible rfl)
  apply := by
    unfold trendReadCmd
    simp only [Cmd.plain]
    repeat' (first | assumption | intro _ | refine (startOp_view' (Sub.of (by assumption) (by decide)) (by assumption)).trans ?_ | simp (disch := first | exact hide_on (Sub.of (by assumption) (by decide)) | with_reducible rfl | exact Sub.of (by assumption) (by decide) | assumption) only [startOp_view, okRep, refuse, runAsync, id, view_lit, apply_ite (State.view hid), ite_self] | exact Sub.of (by assumption) (by decide) | with_reducible apply completing_view | with_reducible apply foldl_keep | with_reducible apply foldl_keep2 | split | with_reducible rfl)
  accept := by
    intro f hf
    first
    | (simp only [trendReadCmd, Cmd.plain, reduceCtorEq] at hf; done)
    | (simp only [trendReadCmd, Cmd.plain, alAccept, Option.some.injEq] at hf
       subst hf
       repeat' (first | assumption | intro _ | refine (startOp_view' (Sub.of (by assumption) (by decide)) (by assumption)).trans ?_ | simp (disch := first | exact hide_on (Sub.of (by assumption) (by decide)) | with_reducible rfl | exact Sub.of (by assumption) (by decide) | assumption) only [startOp_view, okRep, refuse, runAsync, id, view_lit, apply_ite (State.view hid), ite_self] | exact Sub.of (by assumption) (by decide) | with_reducible apply completing_view | with_reducible apply foldl_keep | with_reducible apply foldl_keep2 | split | with_reducible rfl))


/-! ## The rows -/

/-- An outcome leaves a life `L`: where it is a next state, that state has it. -/
def Leaves (hid : Nat) (L : View) : Host.Outcome State Fault Refusal → Prop
  | .next t => t.view hid = L
  | .fault _ => True
  | .refused _ => True

theorem leaves_next {L : View} {t : State} (h : t.view hid = L) : Leaves hid L (.next t) := h
theorem leaves_fault {L : View} {f : Fault} : Leaves hid L (.fault f) := trivial

theorem Leaves.eq {L : View} {o : Host.Outcome State Fault Refusal} {t : State} (h : Leaves hid L o) (ho : o = .next t) :
    t.view hid = L := by
  subst ho
  exact h

theorem atRes_view {L : View} {k n : Nat} {s t : State} (hs : s.view hid = L) (h : t.view hid = L) : Leaves hid L (atRes k n s t) :=
  ite_view h hs

theorem execMail_view {c : Cmd} (hc : KeepsCmd hid c) (f : List Byte → Bool) (dt : Nat) (p : Packet) (s : State) (hm : Sub 0x600 hid) :
    Leaves hid ((s.elapse dt).view hid) (execMail c f dt p s) := by
  unfold execMail
  split
  · rename_i h
    exact assemble_view' h
  · rename_i h
    split
    · exact (receive_view _ _ _ _ _ _ hc (Sub.of hm (by decide))).trans (assemble_view' h)
    · trivial

/-- What a forwarded request can change: all that some command can. -/
theorem anyCmd_keeps (sid : U32) (nonce : List Byte) (begun : Bool) (code : Nat) (hm : Sub 0x3fefbefec hid) :
    KeepsCmd hid ((anyCmd sid nonce begun code).getD identifyCmd) := by
  cases h : anyCmd sid nonce begun code with
  | none => exact identifyCmd_keeps
  | some c =>
    have hx := List.mem_of_find?_eq_some h
    simp only [List.mem_append, List.mem_cons, List.not_mem_nil, or_false] at hx
    rw [Option.getD_some]
    rcases hx with (((rfl | rfl | rfl | rfl | rfl | rfl | rfl | rfl | rfl | rfl | rfl | rfl | rfl | rfl | rfl | rfl) | (rfl | rfl | rfl | rfl | rfl | rfl | rfl | rfl | rfl | rfl | rfl | rfl | rfl | rfl | rfl | rfl | rfl)) | (rfl | rfl | rfl | rfl | rfl | rfl | rfl | rfl | rfl | rfl | rfl | rfl | rfl | rfl | rfl | rfl)) | (rfl | rfl | rfl | rfl | rfl)
    · exact identifyCmd_keeps
    · exact commandsListCmd_keeps
    · exact openSessionCmd_keeps _ _
    · exact closeSessionCmd_keeps (Sub.of hm (by decide))
    · exact setKeyCmd_keeps (Sub.of hm (by decide))
    · exact keyInfoCmd_keeps
    · exact subscribeCmd_keeps
    · exact completionReadCmd_keeps
    · exact paramReadCmd_keeps
    · exact paramWriteCmd_keeps (Sub.of hm (by decide))
    · exact tableReadCmd_keeps
    · exact tableWriteCmd_keeps (Sub.of hm (by decide))
    · exact commitConfigCmd_keeps (Sub.of hm (by decide))
    · exact discardEditsCmd_keeps (Sub.of hm (by decide))
    · exact configExportCmd_keeps (Sub.of hm (by decide))
    · exact configImportCmd_keeps (Sub.of hm (by decide))
    · exact setModeCmd_keeps (Sub.of hm (by decide))
    · exact restartCmd_keeps (Sub.of hm (by decide))
    · exact roleSwapCmd_keeps (Sub.of hm (by decide))
    · exact eventReadCmd_keeps
    · exact eventClearCmd_keeps
    · exact programLoadCmd_keeps (Sub.of hm (by decide))
    · exact programSwitchCmd_keeps (Sub.of hm (by decide))
    · exact valueWriteCmd_keeps (Sub.of hm (by decide))
    · exact forceSetCmd_keeps (Sub.of hm (by decide))
    · exact forceClearCmd_keeps (Sub.of hm (by decide))
    · exact taskTriggerCmd_keeps (Sub.of hm (by decide))
    · exact splitCmd_keeps (Sub.of hm (by decide))
    · exact joinCmd_keeps (Sub.of hm (by decide))
    · exact debugAttachCmd_keeps (Sub.of hm (by decide))
    · exact debugDetachCmd_keeps (Sub.of hm (by decide))
    · exact annexCmd_keeps (Sub.of hm (by decide))
    · exact ledgerReadCmd_keeps
    · exact alarmAckCmd_keeps (Sub.of hm (by decide))
    · exact alarmShelveCmd_keeps (Sub.of hm (by decide))
    · exact ladderAckCmd_keeps (Sub.of hm (by decide))
    · exact journalReadCmd_keeps
    · exact archiveReadCmd_keeps
    · exact trendReadCmd_keeps
    · exact aiCalibrateCmd_keeps (Sub.of hm (by decide))
    · exact aoTrimCmd_keeps (Sub.of hm (by decide))
    · exact hartPassCmd_keeps (Sub.of hm (by decide))
    · exact loopInjectCmd_keeps (Sub.of hm (by decide))
    · exact loopCaptureCmd_keeps (Sub.of hm (by decide))
    · exact canSendCmd_keeps (Sub.of hm (by decide))
    · exact canCancelCmd_keeps _ (Sub.of hm (by decide))
    · exact canRecoverCmd_keeps (Sub.of hm (by decide))
    · exact panelUpdateCmd_keeps (Sub.of hm (by decide))
    · exact timeAcceptCmd_keeps (Sub.of hm (by decide))
    · exact updateBeginCmd_keeps (Sub.of hm (by decide))
    · exact updateBlockCmd_keeps (Sub.of hm (by decide))
    · exact updateVerifyCmd_keeps (Sub.of hm (by decide))
    · exact activateCmd_keeps (Sub.of hm (by decide))
    · exact rollbackCmd_keeps (Sub.of hm (by decide))

theorem forwarded_view (s : State) (via : Via) (addr : U32) (port : U16) (d : List Byte) (sid : U32) (nonce : List Byte)
    (begun : Bool) (hm : Sub 0x3fefbefec hid) : (s.forwarded via addr port d sid nonce begun).view hid = s.view hid := by
  unfold State.forwarded
  split
  · rfl
  · split
    · simp (disch := first | exact hide_on (Sub.of (by assumption) (by decide)) | with_reducible rfl | exact Sub.of (by assumption) (by decide) | assumption) only [view_lit]
    · exact serveFrame_view _ _ _ (anyCmd_keeps _ _ _ _ (Sub.of hm (by decide))) (Sub.of hm (by decide))

theorem execReg_view (i : Nat) (b : Bool) (dt : Nat) (w : RegWrite) (s : State) (hm : Sub 0x2c200660 hid) :
    Leaves hid ((s.elapse dt).view hid) (execReg i b dt w s) := by
  unfold execReg
  split
  · exact execMail_view (paramWriteCmd_keeps (Sub.of hm (by decide))) _ _ _ _ (Sub.of hm (by decide))
  · split
    · exact strobe_view _ _ _ (Sub.of hm (by decide))
    · trivial

theorem execTrim_view (f : Nat → Bool) (dt : Nat) (p : Packet) (s : State) (hm : Sub 0x10000600 hid) :
    Leaves hid ((s.elapse dt).view hid) (execTrim f dt p s) := execMail_view (aoTrimCmd_keeps (Sub.of hm (by decide))) _ _ _ _ (Sub.of hm (by decide))

theorem execLane_view {f : State → State} (hf : ∀ t, (f t).view hid = t.view hid) (dt : Nat) (h : LaneHdr) (s : State) (hm : Sub 0x4000 hid) :
    Leaves hid ((s.elapse dt).view hid) (execLane dt h f s) := by
  unfold execLane
  dsimp only
  split
  · trivial
  · exact leaves_next (ite_view ((hf _).trans (laneIn_view _ _ (Sub.of hm (by decide)))) (laneIn_view _ _ (Sub.of hm (by decide))))

theorem execDebug_view {act : Debugger → State → Status × List Byte × State}
    (ha : ∀ g t, (act g t).2.2.view hid = t.view hid) (code dt : Nat) (p : Packet) (al : Debugger → State → Option Status) (s : State) (hm : Sub 0x0 hid) :
    Leaves hid ((s.elapse dt).view hid) (execDebug code dt p al act s) := by
  unfold execDebug
  split
  · rename_i h
    exact assemble_view' h
  · rename_i h
    have h0 := assemble_view' (hid := hid) h
    dsimp only
    repeat' (first
      | exact leaves_fault
      | exact h0
      | with_reducible refine leaves_next ?_
      | simp (disch := first | exact hide_on (Sub.of (by assumption) (by decide)) | with_reducible rfl | exact Sub.of (by assumption) (by decide) | assumption) only [debugAnswer_view, authFail_view, modSession_view, view_lit, ha]
      | split)


theorem execIdentify_view (dt : ℕ) (p : Packet) (s : State) (hm : Sub 0x600 hid) : Leaves hid ((s.elapse dt).view hid) (execIdentify dt p s) :=
  execMail_view (identifyCmd_keeps ) _ _ _ _ (Sub.of hm (by decide))

theorem execCommandsList_view (dt : ℕ) (p : Packet) (s : State) (hm : Sub 0x600 hid) : Leaves hid ((s.elapse dt).view hid) (execCommandsList dt p s) :=
  execMail_view (commandsListCmd_keeps ) _ _ _ _ (Sub.of hm (by decide))

theorem execOpenSession_view (dt : ℕ) (p : Packet) (sid : U32) (nonce : List Byte) (s : State) (hm : Sub 0x600 hid) : Leaves hid ((s.elapse dt).view hid) (execOpenSession dt p sid nonce s) :=
  execMail_view (openSessionCmd_keeps _ _) _ _ _ _ (Sub.of hm (by decide))

theorem execCloseSession_view (dt : ℕ) (p : Packet) (s : State) (hm : Sub 0x200000680 hid) : Leaves hid ((s.elapse dt).view hid) (execCloseSession dt p s) :=
  execMail_view (closeSessionCmd_keeps  (Sub.of hm (by decide))) _ _ _ _ (Sub.of hm (by decide))

theorem execSetKey_view (dt : ℕ) (p : Packet) (s : State) (hm : Sub 0x200000780 hid) : Leaves hid ((s.elapse dt).view hid) (execSetKey dt p s) :=
  execMail_view (setKeyCmd_keeps  (Sub.of hm (by decide))) _ _ _ _ (Sub.of hm (by decide))

theorem execKeyInfo_view (dt : ℕ) (p : Packet) (s : State) (hm : Sub 0x600 hid) : Leaves hid ((s.elapse dt).view hid) (execKeyInfo dt p s) :=
  execMail_view (keyInfoCmd_keeps ) _ _ _ _ (Sub.of hm (by decide))

theorem execSubscribe_view (dt : ℕ) (p : Packet) (s : State) (hm : Sub 0x600 hid) : Leaves hid ((s.elapse dt).view hid) (execSubscribe dt p s) :=
  execMail_view (subscribeCmd_keeps ) _ _ _ _ (Sub.of hm (by decide))

theorem execCompletionRead_view (dt : ℕ) (p : Packet) (s : State) (hm : Sub 0x600 hid) : Leaves hid ((s.elapse dt).view hid) (execCompletionRead dt p s) :=
  execMail_view (completionReadCmd_keeps ) _ _ _ _ (Sub.of hm (by decide))

theorem execParamRead_view (dt : ℕ) (p : Packet) (s : State) (hm : Sub 0x600 hid) : Leaves hid ((s.elapse dt).view hid) (execParamRead dt p s) :=
  execMail_view (paramReadCmd_keeps ) _ _ _ _ (Sub.of hm (by decide))

theorem execParamWrite_view (dt : ℕ) (p : Packet) (s : State) (hm : Sub 0x2c200660 hid) : Leaves hid ((s.elapse dt).view hid) (execParamWrite dt p s) :=
  execMail_view (paramWriteCmd_keeps  (Sub.of hm (by decide))) _ _ _ _ (Sub.of hm (by decide))

theorem execTableRead_view (dt : ℕ) (p : Packet) (s : State) (hm : Sub 0x600 hid) : Leaves hid ((s.elapse dt).view hid) (execTableRead dt p s) :=
  execMail_view (tableReadCmd_keeps ) _ _ _ _ (Sub.of hm (by decide))

theorem execTableWrite_view (dt : ℕ) (p : Packet) (s : State) (hm : Sub 0x780e60 hid) : Leaves hid ((s.elapse dt).view hid) (execTableWrite dt p s) :=
  execMail_view (tableWriteCmd_keeps  (Sub.of hm (by decide))) _ _ _ _ (Sub.of hm (by decide))

theorem execCommitConfig_view (dt : ℕ) (p : Packet) (s : State) (hm : Sub 0x640 hid) : Leaves hid ((s.elapse dt).view hid) (execCommitConfig dt p s) :=
  execMail_view (commitConfigCmd_keeps  (Sub.of hm (by decide))) _ _ _ _ (Sub.of hm (by decide))

theorem execCommitConfigDone_view (dt : ℕ) (s : State) (hm : Sub 0x270 hid) : Leaves hid ((s.elapse dt).view hid) (execCommitConfigDone dt s) := by
  unfold execCommitConfigDone
  try dsimp only
  repeat' (first | exact leaves_fault | assumption | intro _ | with_reducible apply execLane_view | with_reducible apply execDebug_view | exact Sub.of (by assumption) (by decide) | with_reducible apply atRes_view | with_reducible refine leaves_next ?_ | simp (disch := first | exact hide_on (Sub.of (by assumption) (by decide)) | with_reducible rfl | exact Sub.of (by assumption) (by decide) | assumption) only [commitDone_view, view_lit, apply_ite (State.view hid), ite_self] | with_reducible apply foldl_keep | with_reducible apply foldl_keep2 | split | with_reducible rfl)

theorem execDiscardEdits_view (dt : ℕ) (p : Packet) (s : State) (hm : Sub 0x607b2e60 hid) : Leaves hid ((s.elapse dt).view hid) (execDiscardEdits dt p s) :=
  execMail_view (discardEditsCmd_keeps  (Sub.of hm (by decide))) _ _ _ _ (Sub.of hm (by decide))

theorem execConfigExport_view (dt : ℕ) (p : Packet) (s : State) (hm : Sub 0x680 hid) : Leaves hid ((s.elapse dt).view hid) (execConfigExport dt p s) :=
  execMail_view (configExportCmd_keeps  (Sub.of hm (by decide))) _ _ _ _ (Sub.of hm (by decide))

theorem execConfigImport_view (dt : ℕ) (p : Packet) (s : State) (hm : Sub 0x6e0 hid) : Leaves hid ((s.elapse dt).view hid) (execConfigImport dt p s) :=
  execMail_view (configImportCmd_keeps  (Sub.of hm (by decide))) _ _ _ _ (Sub.of hm (by decide))

theorem execSetMode_view (dt : ℕ) (p : Packet) (s : State) (hm : Sub 0x4608 hid) : Leaves hid ((s.elapse dt).view hid) (execSetMode dt p s) :=
  execMail_view (setModeCmd_keeps  (Sub.of hm (by decide))) _ _ _ _ (Sub.of hm (by decide))

theorem execRestart_view (dt : ℕ) (p : Packet) (s : State) (hm : Sub 0x4608 hid) : Leaves hid ((s.elapse dt).view hid) (execRestart dt p s) :=
  execMail_view (restartCmd_keeps  (Sub.of hm (by decide))) _ _ _ _ (Sub.of hm (by decide))

theorem execRoleSwap_view (dt : ℕ) (p : Packet) (s : State) (hm : Sub 0x4608 hid) : Leaves hid ((s.elapse dt).view hid) (execRoleSwap dt p s) :=
  execMail_view (roleSwapCmd_keeps  (Sub.of hm (by decide))) _ _ _ _ (Sub.of hm (by decide))

theorem execEventRead_view (dt : ℕ) (p : Packet) (s : State) (hm : Sub 0x600 hid) : Leaves hid ((s.elapse dt).view hid) (execEventRead dt p s) :=
  execMail_view (eventReadCmd_keeps ) _ _ _ _ (Sub.of hm (by decide))

theorem execEventClear_view (dt : ℕ) (p : Packet) (s : State) (hm : Sub 0x600 hid) : Leaves hid ((s.elapse dt).view hid) (execEventClear dt p s) :=
  execMail_view (eventClearCmd_keeps ) _ _ _ _ (Sub.of hm (by decide))

theorem execProgramLoad_view (dt : ℕ) (p : Packet) (s : State) (hm : Sub 0x8600 hid) : Leaves hid ((s.elapse dt).view hid) (execProgramLoad dt p s) :=
  execMail_view (programLoadCmd_keeps  (Sub.of hm (by decide))) _ _ _ _ (Sub.of hm (by decide))

theorem execProgramSwitch_view (dt : ℕ) (p : Packet) (s : State) (hm : Sub 0x8600 hid) : Leaves hid ((s.elapse dt).view hid) (execProgramSwitch dt p s) :=
  execMail_view (programSwitchCmd_keeps  (Sub.of hm (by decide))) _ _ _ _ (Sub.of hm (by decide))

theorem execProgramSwitchGap_view (dt : ℕ) (s : State) (hm : Sub 0x16a200 hid) : Leaves hid ((s.elapse dt).view hid) (execProgramSwitchGap dt s) := by
  unfold execProgramSwitchGap
  try dsimp only
  repeat' (first | exact leaves_fault | assumption | intro _ | with_reducible apply execLane_view | with_reducible apply execDebug_view | exact Sub.of (by assumption) (by decide) | with_reducible apply atRes_view | with_reducible refine leaves_next ?_ | simp (disch := first | exact hide_on (Sub.of (by assumption) (by decide)) | with_reducible rfl | exact Sub.of (by assumption) (by decide) | assumption) only [switchDone_view, switchFails_view, view_lit, apply_ite (State.view hid), ite_self] | with_reducible apply foldl_keep | with_reducible apply foldl_keep2 | split | with_reducible rfl)

theorem execValueWrite_view (dt : ℕ) (p : Packet) (s : State) (hm : Sub 0x20600 hid) : Leaves hid ((s.elapse dt).view hid) (execValueWrite dt p s) :=
  execMail_view (valueWriteCmd_keeps  (Sub.of hm (by decide))) _ _ _ _ (Sub.of hm (by decide))

theorem execValueWriteApply_view (dt : ℕ) (n : ℕ) (s : State) (hm : Sub 0x1068200 hid) : Leaves hid ((s.elapse dt).view hid) (execValueWriteApply dt n s) := by
  unfold execValueWriteApply
  try dsimp only
  repeat' (first | exact leaves_fault | assumption | intro _ | with_reducible apply execLane_view | with_reducible apply execDebug_view | exact Sub.of (by assumption) (by decide) | with_reducible apply atRes_view | with_reducible refine leaves_next ?_ | simp (disch := first | exact hide_on (Sub.of (by assumption) (by decide)) | with_reducible rfl | exact Sub.of (by assumption) (by decide) | assumption) only [applyWrites_view, view_lit, apply_ite (State.view hid), ite_self] | with_reducible apply foldl_keep | with_reducible apply foldl_keep2 | split | with_reducible rfl)

theorem execForceSet_view (dt : ℕ) (p : Packet) (s : State) (hm : Sub 0x32600 hid) : Leaves hid ((s.elapse dt).view hid) (execForceSet dt p s) :=
  execMail_view (forceSetCmd_keeps  (Sub.of hm (by decide))) _ _ _ _ (Sub.of hm (by decide))

theorem execForceClear_view (dt : ℕ) (p : Packet) (s : State) (hm : Sub 0x32600 hid) : Leaves hid ((s.elapse dt).view hid) (execForceClear dt p s) :=
  execMail_view (forceClearCmd_keeps  (Sub.of hm (by decide))) _ _ _ _ (Sub.of hm (by decide))

theorem execTaskTrigger_view (dt : ℕ) (p : Packet) (s : State) (hm : Sub 0x20600 hid) : Leaves hid ((s.elapse dt).view hid) (execTaskTrigger dt p s) :=
  execMail_view (taskTriggerCmd_keeps  (Sub.of hm (by decide))) _ _ _ _ (Sub.of hm (by decide))

theorem execSplit_view (dt : ℕ) (p : Packet) (s : State) (hm : Sub 0x800600 hid) : Leaves hid ((s.elapse dt).view hid) (execSplit dt p s) :=
  execMail_view (splitCmd_keeps  (Sub.of hm (by decide))) _ _ _ _ (Sub.of hm (by decide))

theorem execSplitDrainInstant_view (dt : ℕ) (p : ℕ) (s : State) (hm : Sub 0x2800200 hid) : Leaves hid ((s.elapse dt).view hid) (execSplitDrainInstant dt p s) := by
  unfold execSplitDrainInstant
  try dsimp only
  repeat' (first | exact leaves_fault | assumption | intro _ | with_reducible apply execLane_view | with_reducible apply execDebug_view | exact Sub.of (by assumption) (by decide) | with_reducible apply atRes_view | with_reducible refine leaves_next ?_ | simp (disch := first | exact hide_on (Sub.of (by assumption) (by decide)) | with_reducible rfl | exact Sub.of (by assumption) (by decide) | assumption) only [drained_view, view_lit, apply_ite (State.view hid), ite_self] | with_reducible apply foldl_keep | with_reducible apply foldl_keep2 | split | with_reducible rfl)

theorem execSplitDrainTimeout_view (dt : ℕ) (p : ℕ) (s : State) (hm : Sub 0x2800200 hid) : Leaves hid ((s.elapse dt).view hid) (execSplitDrainTimeout dt p s) := by
  unfold execSplitDrainTimeout
  try dsimp only
  repeat' (first | exact leaves_fault | assumption | intro _ | with_reducible apply execLane_view | with_reducible apply execDebug_view | exact Sub.of (by assumption) (by decide) | with_reducible apply atRes_view | with_reducible refine leaves_next ?_ | simp (disch := first | exact hide_on (Sub.of (by assumption) (by decide)) | with_reducible rfl | exact Sub.of (by assumption) (by decide) | assumption) only [completeOpt_view, modCore_view, detach_view, view_lit, apply_ite (State.view hid), ite_self] | with_reducible apply foldl_keep | with_reducible apply foldl_keep2 | split | with_reducible rfl)

theorem execJoin_view (dt : ℕ) (p : Packet) (s : State) (hm : Sub 0x800600 hid) : Leaves hid ((s.elapse dt).view hid) (execJoin dt p s) :=
  execMail_view (joinCmd_keeps  (Sub.of hm (by decide))) _ _ _ _ (Sub.of hm (by decide))

theorem execJoinLoadDone_view (dt : ℕ) (p : ℕ) (s : State) (hm : Sub 0x820200 hid) : Leaves hid ((s.elapse dt).view hid) (execJoinLoadDone dt p s) := by
  unfold execJoinLoadDone
  try dsimp only
  repeat' (first | exact leaves_fault | assumption | intro _ | with_reducible apply execLane_view | with_reducible apply execDebug_view | exact Sub.of (by assumption) (by decide) | with_reducible apply atRes_view | with_reducible refine leaves_next ?_ | simp (disch := first | exact hide_on (Sub.of (by assumption) (by decide)) | with_reducible rfl | exact Sub.of (by assumption) (by decide) | assumption) only [raise_view, completeOpt_view, modCore_view, nextHeld_view, view_lit, apply_ite (State.view hid), ite_self] | with_reducible apply foldl_keep | with_reducible apply foldl_keep2 | split | with_reducible rfl)

theorem execDebugAttach_view (dt : ℕ) (p : Packet) (s : State) (hm : Sub 0x800600 hid) : Leaves hid ((s.elapse dt).view hid) (execDebugAttach dt p s) :=
  execMail_view (debugAttachCmd_keeps  (Sub.of hm (by decide))) _ _ _ _ (Sub.of hm (by decide))

theorem execDebugDetach_view (dt : ℕ) (p : Packet) (s : State) (hm : Sub 0x800600 hid) : Leaves hid ((s.elapse dt).view hid) (execDebugDetach dt p s) :=
  execMail_view (debugDetachCmd_keeps  (Sub.of hm (by decide))) _ _ _ _ (Sub.of hm (by decide))

theorem execDebugReadRegisters_view (dt : ℕ) (p : Packet) (count : ℕ) (s : State) (hm : Sub 0x1800000 hid) : Leaves hid ((s.elapse dt).view hid) (execDebugReadRegisters dt p count s) := by
  unfold execDebugReadRegisters
  try dsimp only
  repeat' (first | exact leaves_fault | assumption | intro _ | with_reducible apply execLane_view | with_reducible apply execDebug_view | exact Sub.of (by assumption) (by decide) | with_reducible apply atRes_view | with_reducible refine leaves_next ?_ | refine (takeFree_view' (by assumption)).trans ?_ | simp (disch := first | exact hide_on (Sub.of (by assumption) (by decide)) | with_reducible rfl | exact Sub.of (by assumption) (by decide) | assumption) only [takeFree_view, readingRoom_view, view_lit, apply_ite (State.view hid), ite_self] | with_reducible apply foldl_keep | with_reducible apply foldl_keep2 | split | with_reducible rfl)

theorem execDebugWriteRegister_view (dt : ℕ) (p : Packet) (reg : ℕ) (v : U64) (s : State) (hm : Sub 0x1800000 hid) : Leaves hid ((s.elapse dt).view hid) (execDebugWriteRegister dt p reg v s) := by
  unfold execDebugWriteRegister
  try dsimp only
  repeat' (first | exact leaves_fault | assumption | intro _ | with_reducible apply execLane_view | with_reducible apply execDebug_view | exact Sub.of (by assumption) (by decide) | with_reducible apply atRes_view | with_reducible refine leaves_next ?_ | simp (disch := first | exact hide_on (Sub.of (by assumption) (by decide)) | with_reducible rfl | exact Sub.of (by assumption) (by decide) | assumption) only [readingRoom_view, view_lit, apply_ite (State.view hid), ite_self] | with_reducible apply foldl_keep | with_reducible apply foldl_keep2 | split | with_reducible rfl)

theorem execDebugReadMemory_view (dt : ℕ) (p : Packet) (a : Area) (task : ℕ) (addr : ℕ) (len : ℕ) (s : State) (hm : Sub 0x800000 hid) : Leaves hid ((s.elapse dt).view hid) (execDebugReadMemory dt p a task addr len s) := by
  unfold execDebugReadMemory
  try dsimp only
  repeat' (first | exact leaves_fault | assumption | intro _ | with_reducible apply execLane_view | with_reducible apply execDebug_view | exact Sub.of (by assumption) (by decide) | with_reducible apply atRes_view | with_reducible refine leaves_next ?_ | refine (dramRead_view' (by assumption)).trans ?_ | simp (disch := first | exact hide_on (Sub.of (by assumption) (by decide)) | with_reducible rfl | exact Sub.of (by assumption) (by decide) | assumption) only [readingRoom_view, dramRead_view, sealedDebug_view, view_lit, apply_ite (State.view hid), ite_self] | with_reducible apply foldl_keep | with_reducible apply foldl_keep2 | split | with_reducible rfl)

theorem execDebugWriteMemory_view (dt : ℕ) (p : Packet) (a : Area) (task : ℕ) (addr : ℕ) (bytes : List Byte) (s : State) (hm : Sub 0x1860000 hid) : Leaves hid ((s.elapse dt).view hid) (execDebugWriteMemory dt p a task addr bytes s) := by
  unfold execDebugWriteMemory
  try dsimp only
  repeat' (first | exact leaves_fault | assumption | intro _ | with_reducible apply execLane_view | with_reducible apply execDebug_view | exact Sub.of (by assumption) (by decide) | with_reducible apply atRes_view | with_reducible refine leaves_next ?_ | simp (disch := first | exact hide_on (Sub.of (by assumption) (by decide)) | with_reducible rfl | exact Sub.of (by assumption) (by decide) | assumption) only [writeArea_view, readingRoom_view, sealedDebug_view, view_lit, apply_ite (State.view hid), ite_self] | with_reducible apply foldl_keep | with_reducible apply foldl_keep2 | split | with_reducible rfl)

theorem execDebugBreakpoint_view (dt : ℕ) (p : Packet) (addr : ℕ) (on : Bool) (s : State) (hm : Sub 0x800000 hid) : Leaves hid ((s.elapse dt).view hid) (execDebugBreakpoint dt p addr on s) := by
  unfold execDebugBreakpoint
  try dsimp only
  repeat' (first | exact leaves_fault | assumption | intro _ | with_reducible apply execLane_view | with_reducible apply execDebug_view | exact Sub.of (by assumption) (by decide) | with_reducible apply atRes_view | with_reducible refine leaves_next ?_ | simp (disch := first | exact hide_on (Sub.of (by assumption) (by decide)) | with_reducible rfl | exact Sub.of (by assumption) (by decide) | assumption) only [readingRoom_view, view_lit, apply_ite (State.view hid), ite_self] | with_reducible apply foldl_keep | with_reducible apply foldl_keep2 | split | with_reducible rfl)

theorem execDebugHalt_view (dt : ℕ) (p : Packet) (s : State) (hm : Sub 0x1800000 hid) : Leaves hid ((s.elapse dt).view hid) (execDebugHalt dt p s) := by
  unfold execDebugHalt
  try dsimp only
  repeat' (first | exact leaves_fault | assumption | intro _ | with_reducible apply execLane_view | with_reducible apply execDebug_view | exact Sub.of (by assumption) (by decide) | with_reducible apply atRes_view | with_reducible refine leaves_next ?_ | simp (disch := first | exact hide_on (Sub.of (by assumption) (by decide)) | with_reducible rfl | exact Sub.of (by assumption) (by decide) | assumption) only [readingRoom_view, debugHalt_view, view_lit, apply_ite (State.view hid), ite_self] | with_reducible apply foldl_keep | with_reducible apply foldl_keep2 | split | with_reducible rfl)

theorem execDebugResume_view (dt : ℕ) (p : Packet) (s : State) (hm : Sub 0x1800000 hid) : Leaves hid ((s.elapse dt).view hid) (execDebugResume dt p s) := by
  unfold execDebugResume
  try dsimp only
  repeat' (first | exact leaves_fault | assumption | intro _ | with_reducible apply execLane_view | with_reducible apply execDebug_view | exact Sub.of (by assumption) (by decide) | with_reducible apply atRes_view | with_reducible refine leaves_next ?_ | simp (disch := first | exact hide_on (Sub.of (by assumption) (by decide)) | with_reducible rfl | exact Sub.of (by assumption) (by decide) | assumption) only [readingRoom_view, debugHalt_view, view_lit, apply_ite (State.view hid), ite_self] | with_reducible apply foldl_keep | with_reducible apply foldl_keep2 | split | with_reducible rfl)

theorem execDebugStep_view (dt : ℕ) (p : Packet) (regs : List (ℕ × U64)) (s : State) (hm : Sub 0x1800000 hid) : Leaves hid ((s.elapse dt).view hid) (execDebugStep dt p regs s) := by
  unfold execDebugStep
  try dsimp only
  repeat' (first | exact leaves_fault | assumption | intro _ | with_reducible apply execLane_view | with_reducible apply execDebug_view | exact Sub.of (by assumption) (by decide) | with_reducible apply atRes_view | with_reducible refine leaves_next ?_ | simp (disch := first | exact hide_on (Sub.of (by assumption) (by decide)) | with_reducible rfl | exact Sub.of (by assumption) (by decide) | assumption) only [readingRoom_view, debugHalt_view, view_lit, apply_ite (State.view hid), ite_self] | with_reducible apply foldl_keep | with_reducible apply foldl_keep2 | split | with_reducible rfl)

theorem execDebugTracepoint_view (dt : ℕ) (p : Packet) (addr : ℕ) (on : Bool) (s : State) (hm : Sub 0x800000 hid) : Leaves hid ((s.elapse dt).view hid) (execDebugTracepoint dt p addr on s) := by
  unfold execDebugTracepoint
  try dsimp only
  repeat' (first | exact leaves_fault | assumption | intro _ | with_reducible apply execLane_view | with_reducible apply execDebug_view | exact Sub.of (by assumption) (by decide) | with_reducible apply atRes_view | with_reducible refine leaves_next ?_ | simp (disch := first | exact hide_on (Sub.of (by assumption) (by decide)) | with_reducible rfl | exact Sub.of (by assumption) (by decide) | assumption) only [readingRoom_view, view_lit, apply_ite (State.view hid), ite_self] | with_reducible apply foldl_keep | with_reducible apply foldl_keep2 | split | with_reducible rfl)

theorem execAnnexMigrate_view (dt : ℕ) (p : Packet) (s : State) (hm : Sub 0xa800600 hid) : Leaves hid ((s.elapse dt).view hid) (execAnnexMigrate dt p s) :=
  execMail_view (annexCmd_keeps  (Sub.of hm (by decide))) _ _ _ _ (Sub.of hm (by decide))

theorem execAnnexRotate_view (dt : ℕ) (p : Packet) (s : State) (hm : Sub 0xa800600 hid) : Leaves hid ((s.elapse dt).view hid) (execAnnexRotate dt p s) :=
  execMail_view (annexCmd_keeps  (Sub.of hm (by decide))) _ _ _ _ (Sub.of hm (by decide))

theorem execLedgerRead_view (dt : ℕ) (p : Packet) (s : State) (hm : Sub 0x600 hid) : Leaves hid ((s.elapse dt).view hid) (execLedgerRead dt p s) :=
  execMail_view (ledgerReadCmd_keeps ) _ _ _ _ (Sub.of hm (by decide))

theorem execAlarmAck_view (dt : ℕ) (p : Packet) (s : State) (hm : Sub 0x600600 hid) : Leaves hid ((s.elapse dt).view hid) (execAlarmAck dt p s) :=
  execMail_view (alarmAckCmd_keeps  (Sub.of hm (by decide))) _ _ _ _ (Sub.of hm (by decide))

theorem execAlarmShelve_view (dt : ℕ) (p : Packet) (s : State) (hm : Sub 0x600600 hid) : Leaves hid ((s.elapse dt).view hid) (execAlarmShelve dt p s) :=
  execMail_view (alarmShelveCmd_keeps  (Sub.of hm (by decide))) _ _ _ _ (Sub.of hm (by decide))

theorem execAlarmUnshelve_view (dt : ℕ) (p : Packet) (s : State) (hm : Sub 0x600600 hid) : Leaves hid ((s.elapse dt).view hid) (execAlarmUnshelve dt p s) :=
  execMail_view (alarmShelveCmd_keeps  (Sub.of hm (by decide))) _ _ _ _ (Sub.of hm (by decide))

theorem execLadderAck_view (dt : ℕ) (p : Packet) (s : State) (hm : Sub 0x20200600 hid) : Leaves hid ((s.elapse dt).view hid) (execLadderAck dt p s) :=
  execMail_view (ladderAckCmd_keeps  (Sub.of hm (by decide))) _ _ _ _ (Sub.of hm (by decide))

theorem execJournalRead_view (dt : ℕ) (p : Packet) (s : State) (hm : Sub 0x600 hid) : Leaves hid ((s.elapse dt).view hid) (execJournalRead dt p s) :=
  execMail_view (journalReadCmd_keeps ) _ _ _ _ (Sub.of hm (by decide))

theorem execArchiveRead_view (dt : ℕ) (p : Packet) (s : State) (hm : Sub 0x600 hid) : Leaves hid ((s.elapse dt).view hid) (execArchiveRead dt p s) :=
  execMail_view (archiveReadCmd_keeps ) _ _ _ _ (Sub.of hm (by decide))

theorem execTrendRead_view (dt : ℕ) (p : Packet) (s : State) (hm : Sub 0x600 hid) : Leaves hid ((s.elapse dt).view hid) (execTrendRead dt p s) :=
  execMail_view (trendReadCmd_keeps ) _ _ _ _ (Sub.of hm (by decide))

theorem execAiCalibrate_view (dt : ℕ) (p : Packet) (s : State) (hm : Sub 0xa000600 hid) : Leaves hid ((s.elapse dt).view hid) (execAiCalibrate dt p s) :=
  execMail_view (aiCalibrateCmd_keeps  (Sub.of hm (by decide))) _ _ _ _ (Sub.of hm (by decide))

theorem execConverterCalibrationDone_view (dt : ℕ) (p : ℕ) (offsets : List ℕ) (gains : List ℕ) (s : State) (hm : Sub 0x1a004208 hid) : Leaves hid ((s.elapse dt).view hid) (execConverterCalibrationDone dt p offsets gains s) := by
  unfold execConverterCalibrationDone
  try dsimp only
  repeat' (first | exact leaves_fault | assumption | intro _ | with_reducible apply execLane_view | with_reducible apply execDebug_view | exact Sub.of (by assumption) (by decide) | with_reducible apply atRes_view | with_reducible refine leaves_next ?_ | refine (calEnd_view' (Sub.of (by assumption) (by decide)) (by assumption)).trans ?_ | simp (disch := first | exact hide_on (Sub.of (by assumption) (by decide)) | with_reducible rfl | exact Sub.of (by assumption) (by decide) | assumption) only [provenFault_view, autoStart_view, calNext_view, calEnd_view, driftLimit_view, rotKeep_view, view_lit, apply_ite (State.view hid), ite_self] | with_reducible apply foldl_keep | with_reducible apply foldl_keep2 | split | with_reducible rfl)

theorem execAoTrimHold4_view (dt : ℕ) (p : Packet) (s : State) (hm : Sub 0x10000600 hid) : Leaves hid ((s.elapse dt).view hid) (execAoTrimHold4 dt p s) :=
  execTrim_view _ _ _ _ (Sub.of hm (by decide))

theorem execAoTrimHold20_view (dt : ℕ) (p : Packet) (s : State) (hm : Sub 0x10000600 hid) : Leaves hid ((s.elapse dt).view hid) (execAoTrimHold20 dt p s) :=
  execTrim_view _ _ _ _ (Sub.of hm (by decide))

theorem execAoTrimRecord4_view (dt : ℕ) (p : Packet) (s : State) (hm : Sub 0x10000600 hid) : Leaves hid ((s.elapse dt).view hid) (execAoTrimRecord4 dt p s) :=
  execTrim_view _ _ _ _ (Sub.of hm (by decide))

theorem execAoTrimRecord20_view (dt : ℕ) (p : Packet) (s : State) (hm : Sub 0x10000600 hid) : Leaves hid ((s.elapse dt).view hid) (execAoTrimRecord20 dt p s) :=
  execTrim_view _ _ _ _ (Sub.of hm (by decide))

theorem execAoTrimStore_view (dt : ℕ) (p : Packet) (s : State) (hm : Sub 0x10000600 hid) : Leaves hid ((s.elapse dt).view hid) (execAoTrimStore dt p s) :=
  execTrim_view _ _ _ _ (Sub.of hm (by decide))

theorem execAoTrimRelease_view (dt : ℕ) (p : Packet) (s : State) (hm : Sub 0x10000600 hid) : Leaves hid ((s.elapse dt).view hid) (execAoTrimRelease dt p s) :=
  execTrim_view _ _ _ _ (Sub.of hm (by decide))

theorem execAoTrimClear_view (dt : ℕ) (p : Packet) (s : State) (hm : Sub 0x10000600 hid) : Leaves hid ((s.elapse dt).view hid) (execAoTrimClear dt p s) :=
  execTrim_view _ _ _ _ (Sub.of hm (by decide))

theorem execHartPass_view (dt : ℕ) (p : Packet) (s : State) (hm : Sub 0x10000600 hid) : Leaves hid ((s.elapse dt).view hid) (execHartPass dt p s) :=
  execMail_view (hartPassCmd_keeps  (Sub.of hm (by decide))) _ _ _ _ (Sub.of hm (by decide))

theorem execLoopInjectStart_view (dt : ℕ) (p : Packet) (s : State) (hm : Sub 0x100600 hid) : Leaves hid ((s.elapse dt).view hid) (execLoopInjectStart dt p s) :=
  execMail_view (loopInjectCmd_keeps  (Sub.of hm (by decide))) _ _ _ _ (Sub.of hm (by decide))

theorem execLoopInjectStop_view (dt : ℕ) (p : Packet) (s : State) (hm : Sub 0x100600 hid) : Leaves hid ((s.elapse dt).view hid) (execLoopInjectStop dt p s) :=
  execMail_view (loopInjectCmd_keeps  (Sub.of hm (by decide))) _ _ _ _ (Sub.of hm (by decide))

theorem execLoopCaptureArm_view (dt : ℕ) (p : Packet) (s : State) (hm : Sub 0x100600 hid) : Leaves hid ((s.elapse dt).view hid) (execLoopCaptureArm dt p s) :=
  execMail_view (loopCaptureCmd_keeps  (Sub.of hm (by decide))) _ _ _ _ (Sub.of hm (by decide))

theorem execLoopCaptureCancel_view (dt : ℕ) (p : Packet) (s : State) (hm : Sub 0x100600 hid) : Leaves hid ((s.elapse dt).view hid) (execLoopCaptureCancel dt p s) :=
  execMail_view (loopCaptureCmd_keeps  (Sub.of hm (by decide))) _ _ _ _ (Sub.of hm (by decide))

theorem execLoopCaptureRead_view (dt : ℕ) (p : Packet) (s : State) (hm : Sub 0x100600 hid) : Leaves hid ((s.elapse dt).view hid) (execLoopCaptureRead dt p s) :=
  execMail_view (loopCaptureCmd_keeps  (Sub.of hm (by decide))) _ _ _ _ (Sub.of hm (by decide))

theorem execCanSend_view (dt : ℕ) (p : Packet) (s : State) (hm : Sub 0x80000600 hid) : Leaves hid ((s.elapse dt).view hid) (execCanSend dt p s) :=
  execMail_view (canSendCmd_keeps  (Sub.of hm (by decide))) _ _ _ _ (Sub.of hm (by decide))

theorem execCanCancel_view (dt : ℕ) (p : Packet) (begun : Bool) (s : State) (hm : Sub 0x80000600 hid) : Leaves hid ((s.elapse dt).view hid) (execCanCancel dt p begun s) :=
  execMail_view (canCancelCmd_keeps _ (Sub.of hm (by decide))) _ _ _ _ (Sub.of hm (by decide))

theorem execCanRecover_view (dt : ℕ) (p : Packet) (s : State) (hm : Sub 0x80000600 hid) : Leaves hid ((s.elapse dt).view hid) (execCanRecover dt p s) :=
  execMail_view (canRecoverCmd_keeps  (Sub.of hm (by decide))) _ _ _ _ (Sub.of hm (by decide))

theorem execPanelUpdate_view (dt : ℕ) (p : Packet) (s : State) (hm : Sub 0x100000600 hid) : Leaves hid ((s.elapse dt).view hid) (execPanelUpdate dt p s) :=
  execMail_view (panelUpdateCmd_keeps  (Sub.of hm (by decide))) _ _ _ _ (Sub.of hm (by decide))

theorem execPanelRefresh_view (dt : ℕ) (p : Packet) (s : State) (hm : Sub 0x100000600 hid) : Leaves hid ((s.elapse dt).view hid) (execPanelRefresh dt p s) :=
  execMail_view (panelUpdateCmd_keeps  (Sub.of hm (by decide))) _ _ _ _ (Sub.of hm (by decide))

theorem execTimeAcceptStep_view (dt : ℕ) (p : Packet) (s : State) (hm : Sub 0x604 hid) : Leaves hid ((s.elapse dt).view hid) (execTimeAcceptStep dt p s) :=
  execMail_view (timeAcceptCmd_keeps  (Sub.of hm (by decide))) _ _ _ _ (Sub.of hm (by decide))

theorem execUpdateBegin_view (dt : ℕ) (p : Packet) (s : State) (hm : Sub 0x200000600 hid) : Leaves hid ((s.elapse dt).view hid) (execUpdateBegin dt p s) :=
  execMail_view (updateBeginCmd_keeps  (Sub.of hm (by decide))) _ _ _ _ (Sub.of hm (by decide))

theorem execUpdateAbandon_view (dt : ℕ) (p : Packet) (s : State) (hm : Sub 0x200000600 hid) : Leaves hid ((s.elapse dt).view hid) (execUpdateAbandon dt p s) :=
  execMail_view (updateBeginCmd_keeps  (Sub.of hm (by decide))) _ _ _ _ (Sub.of hm (by decide))

theorem execUpdateBlock_view (dt : ℕ) (p : Packet) (s : State) (hm : Sub 0x200000600 hid) : Leaves hid ((s.elapse dt).view hid) (execUpdateBlock dt p s) :=
  execMail_view (updateBlockCmd_keeps  (Sub.of hm (by decide))) _ _ _ _ (Sub.of hm (by decide))

theorem execUpdateVerify_view (dt : ℕ) (p : Packet) (s : State) (hm : Sub 0x200000600 hid) : Leaves hid ((s.elapse dt).view hid) (execUpdateVerify dt p s) :=
  execMail_view (updateVerifyCmd_keeps  (Sub.of hm (by decide))) _ _ _ _ (Sub.of hm (by decide))

theorem execUpdateVerifyDone_view (dt : ℕ) (k : ℕ) (s : State) (hm : Sub 0x200000200 hid) : Leaves hid ((s.elapse dt).view hid) (execUpdateVerifyDone dt k s) := by
  unfold execUpdateVerifyDone
  try dsimp only
  repeat' (first | exact leaves_fault | assumption | intro _ | with_reducible apply execLane_view | with_reducible apply execDebug_view | exact Sub.of (by assumption) (by decide) | with_reducible apply atRes_view | with_reducible refine leaves_next ?_ | simp (disch := first | exact hide_on (Sub.of (by assumption) (by decide)) | with_reducible rfl | exact Sub.of (by assumption) (by decide) | assumption) only [verifyDone_view, view_lit, apply_ite (State.view hid), ite_self] | with_reducible apply foldl_keep | with_reducible apply foldl_keep2 | split | with_reducible rfl)

theorem execUpdateIdleTimeout_view (dt : ℕ) (k : ℕ) (s : State) (hm : Sub 0x200000000 hid) : Leaves hid ((s.elapse dt).view hid) (execUpdateIdleTimeout dt k s) := by
  unfold execUpdateIdleTimeout
  try dsimp only
  repeat' (first | exact leaves_fault | assumption | intro _ | with_reducible apply execLane_view | with_reducible apply execDebug_view | exact Sub.of (by assumption) (by decide) | with_reducible apply atRes_view | with_reducible refine leaves_next ?_ | simp (disch := first | exact hide_on (Sub.of (by assumption) (by decide)) | with_reducible rfl | exact Sub.of (by assumption) (by decide) | assumption) only [abandonUpdate_view, view_lit, apply_ite (State.view hid), ite_self] | with_reducible apply foldl_keep | with_reducible apply foldl_keep2 | split | with_reducible rfl)

theorem execActivate_view (dt : ℕ) (p : Packet) (s : State) (hm : Sub 0x200000608 hid) : Leaves hid ((s.elapse dt).view hid) (execActivate dt p s) :=
  execMail_view (activateCmd_keeps  (Sub.of hm (by decide))) _ _ _ _ (Sub.of hm (by decide))

theorem execFirmwareReady_view (dt : ℕ) (s : State) (hm : Sub 0x2607b2a7a hid) : Leaves hid ((s.elapse dt).view hid) (execFirmwareReady dt s) := by
  unfold execFirmwareReady
  try dsimp only
  repeat' (first | exact leaves_fault | assumption | intro _ | with_reducible apply execLane_view | with_reducible apply execDebug_view | exact Sub.of (by assumption) (by decide) | with_reducible apply atRes_view | with_reducible refine leaves_next ?_ | simp (disch := first | exact hide_on (Sub.of (by assumption) (by decide)) | with_reducible rfl | exact Sub.of (by assumption) (by decide) | assumption) only [newFirmwareReady_view, oldFirmwareReady_view, view_lit, apply_ite (State.view hid), ite_self] | with_reducible apply foldl_keep | with_reducible apply foldl_keep2 | split | with_reducible rfl)

theorem execActivationFailure_view (dt : ℕ) (s : State) (hm : Sub 0x200000000 hid) : Leaves hid ((s.elapse dt).view hid) (execActivationFailure dt s) := by
  unfold execActivationFailure
  try dsimp only
  repeat' (first | exact leaves_fault | assumption | intro _ | with_reducible apply execLane_view | with_reducible apply execDebug_view | exact Sub.of (by assumption) (by decide) | with_reducible apply atRes_view | with_reducible refine leaves_next ?_ | simp (disch := first | exact hide_on (Sub.of (by assumption) (by decide)) | with_reducible rfl | exact Sub.of (by assumption) (by decide) | assumption) only [view_lit, apply_ite (State.view hid), ite_self] | with_reducible apply foldl_keep | with_reducible apply foldl_keep2 | split | with_reducible rfl)

theorem execActivationDeadline_view (dt : ℕ) (s : State) (hm : Sub 0x200000208 hid) : Leaves hid ((s.elapse dt).view hid) (execActivationDeadline dt s) := by
  unfold execActivationDeadline
  try dsimp only
  repeat' (first | exact leaves_fault | assumption | intro _ | with_reducible apply execLane_view | with_reducible apply execDebug_view | exact Sub.of (by assumption) (by decide) | with_reducible apply atRes_view | with_reducible refine leaves_next ?_ | simp (disch := first | exact hide_on (Sub.of (by assumption) (by decide)) | with_reducible rfl | exact Sub.of (by assumption) (by decide) | assumption) only [activationLate_view, view_lit, apply_ite (State.view hid), ite_self] | with_reducible apply foldl_keep | with_reducible apply foldl_keep2 | split | with_reducible rfl)

theorem execRollback_view (dt : ℕ) (p : Packet) (s : State) (hm : Sub 0x200004608 hid) : Leaves hid ((s.elapse dt).view hid) (execRollback dt p s) :=
  execMail_view (rollbackCmd_keeps  (Sub.of hm (by decide))) _ _ _ _ (Sub.of hm (by decide))

theorem execSeqGo_view (dt : ℕ) (w : RegWrite) (s : State) (hm : Sub 0x2c200660 hid) : Leaves hid ((s.elapse dt).view hid) (execSeqGo dt w s) :=
  execReg_view _ _ _ _ _ (Sub.of hm (by decide))

theorem execGoAll_view (dt : ℕ) (w : RegWrite) (s : State) (hm : Sub 0x2c200660 hid) : Leaves hid ((s.elapse dt).view hid) (execGoAll dt w s) :=
  execReg_view _ _ _ _ _ (Sub.of hm (by decide))

theorem execSeqStop_view (dt : ℕ) (w : RegWrite) (s : State) (hm : Sub 0x2c200660 hid) : Leaves hid ((s.elapse dt).view hid) (execSeqStop dt w s) :=
  execReg_view _ _ _ _ _ (Sub.of hm (by decide))

theorem execSlotSwap_view (dt : ℕ) (w : RegWrite) (s : State) (hm : Sub 0x2c200660 hid) : Leaves hid ((s.elapse dt).view hid) (execSlotSwap dt w s) :=
  execReg_view _ _ _ _ _ (Sub.of hm (by decide))

theorem execSlotTableSwapApply_view (dt : ℕ) (s : State) (hm : Sub 0x4000060 hid) : Leaves hid ((s.elapse dt).view hid) (execSlotTableSwapApply dt s) := by
  unfold execSlotTableSwapApply
  try dsimp only
  repeat' (first | exact leaves_fault | assumption | intro _ | with_reducible apply execLane_view | with_reducible apply execDebug_view | exact Sub.of (by assumption) (by decide) | with_reducible apply atRes_view | with_reducible refine leaves_next ?_ | simp (disch := first | exact hide_on (Sub.of (by assumption) (by decide)) | with_reducible rfl | exact Sub.of (by assumption) (by decide) | assumption) only [raise_view, view_lit, apply_ite (State.view hid), ite_self] | with_reducible apply foldl_keep | with_reducible apply foldl_keep2 | split | with_reducible rfl)

theorem execDoFaultClear_view (dt : ℕ) (w : RegWrite) (s : State) (hm : Sub 0x2c200660 hid) : Leaves hid ((s.elapse dt).view hid) (execDoFaultClear dt w s) :=
  execReg_view _ _ _ _ _ (Sub.of hm (by decide))

theorem execArbFreeze_view (dt : ℕ) (w : RegWrite) (s : State) (hm : Sub 0x2c200660 hid) : Leaves hid ((s.elapse dt).view hid) (execArbFreeze dt w s) :=
  execReg_view _ _ _ _ _ (Sub.of hm (by decide))

theorem execForwardTimeout_view (dt : ℕ) (box : ℕ) (s : State) : Leaves hid ((s.elapse dt).view hid) (execForwardTimeout dt box s) := by
  unfold execForwardTimeout
  try dsimp only
  repeat' (first | exact leaves_fault | assumption | intro _ | with_reducible apply execLane_view | with_reducible apply execDebug_view | exact Sub.of (by assumption) (by decide) | with_reducible apply atRes_view | with_reducible refine leaves_next ?_ | simp (disch := first | exact hide_on (Sub.of (by assumption) (by decide)) | with_reducible rfl | exact Sub.of (by assumption) (by decide) | assumption) only [respond_view, view_lit, apply_ite (State.view hid), ite_self] | with_reducible apply foldl_keep | with_reducible apply foldl_keep2 | split | with_reducible rfl)

theorem execReassemblyTimeout_view (dt : ℕ) (s : State) : Leaves hid ((s.elapse dt).view hid) (execReassemblyTimeout dt s) := by
  unfold execReassemblyTimeout
  try dsimp only
  repeat' (first | exact leaves_fault | assumption | intro _ | with_reducible apply execLane_view | with_reducible apply execDebug_view | exact Sub.of (by assumption) (by decide) | with_reducible apply atRes_view | with_reducible refine leaves_next ?_ | simp (disch := first | exact hide_on (Sub.of (by assumption) (by decide)) | with_reducible rfl | exact Sub.of (by assumption) (by decide) | assumption) only [view_lit, apply_ite (State.view hid), ite_self] | with_reducible apply foldl_keep | with_reducible apply foldl_keep2 | split | with_reducible rfl)

theorem execSessionIdleExpiry_view (dt : ℕ) (id : U32) (s : State) (hm : Sub 0x200000080 hid) : Leaves hid ((s.elapse dt).view hid) (execSessionIdleExpiry dt id s) := by
  unfold execSessionIdleExpiry
  try dsimp only
  repeat' (first | exact leaves_fault | assumption | intro _ | with_reducible apply execLane_view | with_reducible apply execDebug_view | exact Sub.of (by assumption) (by decide) | with_reducible apply atRes_view | with_reducible refine leaves_next ?_ | simp (disch := first | exact hide_on (Sub.of (by assumption) (by decide)) | with_reducible rfl | exact Sub.of (by assumption) (by decide) | assumption) only [endSession_view, view_lit, apply_ite (State.view hid), ite_self] | with_reducible apply foldl_keep | with_reducible apply foldl_keep2 | split | with_reducible rfl)

theorem execAuthLockoutEnd_view (dt : ℕ) (via : Via) (addr : U32) (s : State) : Leaves hid ((s.elapse dt).view hid) (execAuthLockoutEnd dt via addr s) := by
  unfold execAuthLockoutEnd
  try dsimp only
  repeat' (first | exact leaves_fault | assumption | intro _ | with_reducible apply execLane_view | with_reducible apply execDebug_view | exact Sub.of (by assumption) (by decide) | with_reducible apply atRes_view | with_reducible refine leaves_next ?_ | simp (disch := first | exact hide_on (Sub.of (by assumption) (by decide)) | with_reducible rfl | exact Sub.of (by assumption) (by decide) | assumption) only [view_lit, apply_ite (State.view hid), ite_self] | with_reducible apply foldl_keep | with_reducible apply foldl_keep2 | split | with_reducible rfl)

theorem execNotifyHoldEnd_view (dt : ℕ) (id : U32) (k : ℕ) (s : State) : Leaves hid ((s.elapse dt).view hid) (execNotifyHoldEnd dt id k s) := by
  unfold execNotifyHoldEnd
  try dsimp only
  repeat' (first | exact leaves_fault | assumption | intro _ | with_reducible apply execLane_view | with_reducible apply execDebug_view | exact Sub.of (by assumption) (by decide) | with_reducible apply atRes_view | with_reducible refine leaves_next ?_ | simp (disch := first | exact hide_on (Sub.of (by assumption) (by decide)) | with_reducible rfl | exact Sub.of (by assumption) (by decide) | assumption) only [eventToSession_view, view_lit, apply_ite (State.view hid), ite_self] | with_reducible apply foldl_keep | with_reducible apply foldl_keep2 | split | with_reducible rfl)

theorem execPowerApplied_view (dt : ℕ) (feeds : ℕ) (ohms : U32) (s : State) (hm : Sub 0x7febbeecd hid) : Leaves hid ((s.elapse dt).view hid) (execPowerApplied dt feeds ohms s) := by
  unfold execPowerApplied
  try dsimp only
  repeat' (first | exact leaves_fault | assumption | intro _ | with_reducible apply execLane_view | with_reducible apply execDebug_view | exact Sub.of (by assumption) (by decide) | with_reducible apply atRes_view | with_reducible refine leaves_next ?_ | simp (disch := first | exact hide_on (Sub.of (by assumption) (by decide)) | with_reducible rfl | exact Sub.of (by assumption) (by decide) | assumption) only [runM0_view, view_lit, apply_ite (State.view hid), ite_self] | with_reducible apply foldl_keep | with_reducible apply foldl_keep2 | split | with_reducible rfl)

theorem execSelftestComplete_view (dt : ℕ) (r : SelfTest) (s : State) (hm : Sub 0x67affea7a hid) : Leaves hid ((s.elapse dt).view hid) (execSelftestComplete dt r s) := by
  unfold execSelftestComplete
  try dsimp only
  repeat' (first | exact leaves_fault | assumption | intro _ | with_reducible apply execLane_view | with_reducible apply execDebug_view | exact Sub.of (by assumption) (by decide) | with_reducible apply atRes_view | with_reducible refine leaves_next ?_ | simp (disch := first | exact hide_on (Sub.of (by assumption) (by decide)) | with_reducible rfl | exact Sub.of (by assumption) (by decide) | assumption) only [ladderRestore_view, modMu_view, modSup_view, stepFailed_view, testPairs_view, firmwareCheck_view, tellUpdates_view, archPowerUp_view, leaveM1_view, view_lit, apply_ite (State.view hid), ite_self] | with_reducible apply foldl_keep | with_reducible apply foldl_keep2 | split | with_reducible rfl)

theorem execSwitchInstant_view (dt : ℕ) (s : State) (hm : Sub 0x3fefbeeec hid) : Leaves hid ((s.elapse dt).view hid) (execSwitchInstant dt s) := by
  unfold execSwitchInstant
  try dsimp only
  repeat' (first | exact leaves_fault | assumption | intro _ | with_reducible apply execLane_view | with_reducible apply execDebug_view | exact Sub.of (by assumption) (by decide) | with_reducible apply atRes_view | with_reducible refine leaves_next ?_ | simp (disch := first | exact hide_on (Sub.of (by assumption) (by decide)) | with_reducible rfl | exact Sub.of (by assumption) (by decide) | assumption) only [resumeNow_view, switchInstant_view, view_lit, apply_ite (State.view hid), ite_self] | with_reducible apply foldl_keep | with_reducible apply foldl_keep2 | split | with_reducible rfl)

theorem execM3ShareEvaluation_view (dt : ℕ) (s : State) (hm : Sub 0x30004008 hid) : Leaves hid ((s.elapse dt).view hid) (execM3ShareEvaluation dt s) := by
  unfold execM3ShareEvaluation
  try dsimp only
  repeat' (first | exact leaves_fault | assumption | intro _ | with_reducible apply execLane_view | with_reducible apply execDebug_view | exact Sub.of (by assumption) (by decide) | with_reducible apply atRes_view | with_reducible refine leaves_next ?_ | simp (disch := first | exact hide_on (Sub.of (by assumption) (by decide)) | with_reducible rfl | exact Sub.of (by assumption) (by decide) | assumption) only [m3Eval_view, view_lit, apply_ite (State.view hid), ite_self] | with_reducible apply foldl_keep | with_reducible apply foldl_keep2 | split | with_reducible rfl)

theorem execHoldLimitExpiry_view (dt : ℕ) (s : State) (hm : Sub 0x8 hid) : Leaves hid ((s.elapse dt).view hid) (execHoldLimitExpiry dt s) := by
  unfold execHoldLimitExpiry
  try dsimp only
  repeat' (first | exact leaves_fault | assumption | intro _ | with_reducible apply execLane_view | with_reducible apply execDebug_view | exact Sub.of (by assumption) (by decide) | with_reducible apply atRes_view | with_reducible refine leaves_next ?_ | simp (disch := first | exact hide_on (Sub.of (by assumption) (by decide)) | with_reducible rfl | exact Sub.of (by assumption) (by decide) | assumption) only [raise_view, auto_view, view_lit, apply_ite (State.view hid), ite_self] | with_reducible apply foldl_keep | with_reducible apply foldl_keep2 | split | with_reducible rfl)

theorem execCuratorRestart_view (dt : ℕ) (cause : ℕ) (s : State) (hm : Sub 0x200000480 hid) : Leaves hid ((s.elapse dt).view hid) (execCuratorRestart dt cause s) := by
  unfold execCuratorRestart
  try dsimp only
  repeat' (first | exact leaves_fault | assumption | intro _ | with_reducible apply execLane_view | with_reducible apply execDebug_view | exact Sub.of (by assumption) (by decide) | with_reducible apply atRes_view | with_reducible refine leaves_next ?_ | simp (disch := first | exact hide_on (Sub.of (by assumption) (by decide)) | with_reducible rfl | exact Sub.of (by assumption) (by decide) | assumption) only [curatorRestart_view, internalFault_view, view_lit, apply_ite (State.view hid), ite_self] | with_reducible apply foldl_keep | with_reducible apply foldl_keep2 | split | with_reducible rfl)

theorem execCuratorRestartDone_view (dt : ℕ) (s : State) (hm : Sub 0x208 hid) : Leaves hid ((s.elapse dt).view hid) (execCuratorRestartDone dt s) := by
  unfold execCuratorRestartDone
  try dsimp only
  repeat' (first | exact leaves_fault | assumption | intro _ | with_reducible apply execLane_view | with_reducible apply execDebug_view | exact Sub.of (by assumption) (by decide) | with_reducible apply atRes_view | with_reducible refine leaves_next ?_ | simp (disch := first | exact hide_on (Sub.of (by assumption) (by decide)) | with_reducible rfl | exact Sub.of (by assumption) (by decide) | assumption) only [curatorDone_view, view_lit, apply_ite (State.view hid), ite_self] | with_reducible apply foldl_keep | with_reducible apply foldl_keep2 | split | with_reducible rfl)

theorem execWatchdogExpiry_view (dt : ℕ) (s : State) (hm : Sub 0x7fffffeec hid) : Leaves hid ((s.elapse dt).view hid) (execWatchdogExpiry dt s) := by
  unfold execWatchdogExpiry
  try dsimp only
  repeat' (first | exact leaves_fault | assumption | intro _ | with_reducible apply execLane_view | with_reducible apply execDebug_view | exact Sub.of (by assumption) (by decide) | with_reducible apply atRes_view | with_reducible refine leaves_next ?_ | simp (disch := first | exact hide_on (Sub.of (by assumption) (by decide)) | with_reducible rfl | exact Sub.of (by assumption) (by decide) | assumption) only [enterM0_view, view_lit, apply_ite (State.view hid), ite_self] | with_reducible apply foldl_keep | with_reducible apply foldl_keep2 | split | with_reducible rfl)

theorem execPowerFailDetected_view (dt : ℕ) (s : State) (hm : Sub 0x500044000 hid) : Leaves hid ((s.elapse dt).view hid) (execPowerFailDetected dt s) := by
  unfold execPowerFailDetected
  try dsimp only
  repeat' (first | exact leaves_fault | assumption | intro _ | with_reducible apply execLane_view | with_reducible apply execDebug_view | exact Sub.of (by assumption) (by decide) | with_reducible apply atRes_view | with_reducible refine leaves_next ?_ | simp (disch := first | exact hide_on (Sub.of (by assumption) (by decide)) | with_reducible rfl | exact Sub.of (by assumption) (by decide) | assumption) only [powerFails_view, view_lit, apply_ite (State.view hid), ite_self] | with_reducible apply foldl_keep | with_reducible apply foldl_keep2 | split | with_reducible rfl)

theorem execFeedLoss_view (dt : ℕ) (feed : ℕ) (volt : ℕ) (s : State) (hm : Sub 0x400000000 hid) : Leaves hid ((s.elapse dt).view hid) (execFeedLoss dt feed volt s) := by
  unfold execFeedLoss
  try dsimp only
  repeat' (first | exact leaves_fault | assumption | intro _ | with_reducible apply execLane_view | with_reducible apply execDebug_view | exact Sub.of (by assumption) (by decide) | with_reducible apply atRes_view | with_reducible refine leaves_next ?_ | simp (disch := first | exact hide_on (Sub.of (by assumption) (by decide)) | with_reducible rfl | exact Sub.of (by assumption) (by decide) | assumption) only [modSup_view, view_lit, apply_ite (State.view hid), ite_self] | with_reducible apply foldl_keep | with_reducible apply foldl_keep2 | split | with_reducible rfl)

theorem execFeedReturnDuringSave_view (dt : ℕ) (feed : ℕ) (s : State) (hm : Sub 0x7fffffeec hid) : Leaves hid ((s.elapse dt).view hid) (execFeedReturnDuringSave dt feed s) := by
  unfold execFeedReturnDuringSave
  try dsimp only
  repeat' (first | exact leaves_fault | assumption | intro _ | with_reducible apply execLane_view | with_reducible apply execDebug_view | exact Sub.of (by assumption) (by decide) | with_reducible apply atRes_view | with_reducible refine leaves_next ?_ | simp (disch := first | exact hide_on (Sub.of (by assumption) (by decide)) | with_reducible rfl | exact Sub.of (by assumption) (by decide) | assumption) only [finalSave_view, enterM0_view, modSup_view, view_lit, apply_ite (State.view hid), ite_self] | with_reducible apply foldl_keep | with_reducible apply foldl_keep2 | split | with_reducible rfl)

theorem execHoldupEnd_view (dt : ℕ) (s : State) (hm : Sub 0x7fffffeec hid) : Leaves hid ((s.elapse dt).view hid) (execHoldupEnd dt s) := by
  unfold execHoldupEnd
  try dsimp only
  repeat' (first | exact leaves_fault | assumption | intro _ | with_reducible apply execLane_view | with_reducible apply execDebug_view | exact Sub.of (by assumption) (by decide) | with_reducible apply atRes_view | with_reducible refine leaves_next ?_ | simp (disch := first | exact hide_on (Sub.of (by assumption) (by decide)) | with_reducible rfl | exact Sub.of (by assumption) (by decide) | assumption) only [finalSave_view, enterM0_view, modSup_view, view_lit, apply_ite (State.view hid), ite_self] | with_reducible apply foldl_keep | with_reducible apply foldl_keep2 | split | with_reducible rfl)

theorem execPeriodicRetainSave_view (dt : ℕ) (s : State) (hm : Sub 0x40000 hid) : Leaves hid ((s.elapse dt).view hid) (execPeriodicRetainSave dt s) := by
  unfold execPeriodicRetainSave
  try dsimp only
  repeat' (first | exact leaves_fault | assumption | intro _ | with_reducible apply execLane_view | with_reducible apply execDebug_view | exact Sub.of (by assumption) (by decide) | with_reducible apply atRes_view | with_reducible refine leaves_next ?_ | simp (disch := first | exact hide_on (Sub.of (by assumption) (by decide)) | with_reducible rfl | exact Sub.of (by assumption) (by decide) | assumption) only [saveRetained_view, view_lit, apply_ite (State.view hid), ite_self] | with_reducible apply foldl_keep | with_reducible apply foldl_keep2 | split | with_reducible rfl)

theorem execRetainSaveTimeout_view (dt : ℕ) (s : State) (hm : Sub 0x40000 hid) : Leaves hid ((s.elapse dt).view hid) (execRetainSaveTimeout dt s) := by
  unfold execRetainSaveTimeout
  try dsimp only
  repeat' (first | exact leaves_fault | assumption | intro _ | with_reducible apply execLane_view | with_reducible apply execDebug_view | exact Sub.of (by assumption) (by decide) | with_reducible apply atRes_view | with_reducible refine leaves_next ?_ | simp (disch := first | exact hide_on (Sub.of (by assumption) (by decide)) | with_reducible rfl | exact Sub.of (by assumption) (by decide) | assumption) only [raise_view, view_lit, apply_ite (State.view hid), ite_self] | with_reducible apply foldl_keep | with_reducible apply foldl_keep2 | split | with_reducible rfl)

theorem execTaskDueStart_view (dt : ℕ) (n : ℕ) (s : State) (hm : Sub 0x27813e688 hid) : Leaves hid ((s.elapse dt).view hid) (execTaskDueStart dt n s) := by
  unfold execTaskDueStart
  try dsimp only
  repeat' (first | exact leaves_fault | assumption | intro _ | with_reducible apply execLane_view | with_reducible apply execDebug_view | exact Sub.of (by assumption) (by decide) | with_reducible apply atRes_view | with_reducible refine leaves_next ?_ | simp (disch := first | exact hide_on (Sub.of (by assumption) (by decide)) | with_reducible rfl | exact Sub.of (by assumption) (by decide) | assumption) only [taskDue_view, view_lit, apply_ite (State.view hid), ite_self] | with_reducible apply foldl_keep | with_reducible apply foldl_keep2 | split | with_reducible rfl)

theorem execRepeatFrameSend_view (dt : ℕ) (n : ℕ) (s : State) (hm : Sub 0x40020000 hid) : Leaves hid ((s.elapse dt).view hid) (execRepeatFrameSend dt n s) := by
  unfold execRepeatFrameSend
  try dsimp only
  repeat' (first | exact leaves_fault | assumption | intro _ | with_reducible apply execLane_view | with_reducible apply execDebug_view | exact Sub.of (by assumption) (by decide) | with_reducible apply atRes_view | with_reducible refine leaves_next ?_ | simp (disch := first | exact hide_on (Sub.of (by assumption) (by decide)) | with_reducible rfl | exact Sub.of (by assumption) (by decide) | assumption) only [repeatFrame_view, view_lit, apply_ite (State.view hid), ite_self] | with_reducible apply foldl_keep | with_reducible apply foldl_keep2 | split | with_reducible rfl)

theorem execSliceLoad_view (dt : ℕ) (n : ℕ) (s : State) (hm : Sub 0x107a200 hid) : Leaves hid ((s.elapse dt).view hid) (execSliceLoad dt n s) := by
  unfold execSliceLoad
  try dsimp only
  repeat' (first | exact leaves_fault | assumption | intro _ | with_reducible apply execLane_view | with_reducible apply execDebug_view | exact Sub.of (by assumption) (by decide) | with_reducible apply atRes_view | with_reducible refine leaves_next ?_ | simp (disch := first | exact hide_on (Sub.of (by assumption) (by decide)) | with_reducible rfl | exact Sub.of (by assumption) (by decide) | assumption) only [sliceLoad_view, view_lit, apply_ite (State.view hid), ite_self] | with_reducible apply foldl_keep | with_reducible apply foldl_keep2 | split | with_reducible rfl)

theorem execTaskClose_view (dt : ℕ) (n : ℕ) (d : CloseData) (s : State) (hm : Sub 0x3417e208 hid) : Leaves hid ((s.elapse dt).view hid) (execTaskClose dt n d s) := by
  unfold execTaskClose
  try dsimp only
  repeat' (first | exact leaves_fault | assumption | intro _ | with_reducible apply execLane_view | with_reducible apply execDebug_view | exact Sub.of (by assumption) (by decide) | with_reducible apply atRes_view | with_reducible refine leaves_next ?_ | simp (disch := first | exact hide_on (Sub.of (by assumption) (by decide)) | with_reducible rfl | exact Sub.of (by assumption) (by decide) | assumption) only [closeCycle_view, view_lit, apply_ite (State.view hid), ite_self] | with_reducible apply foldl_keep | with_reducible apply foldl_keep2 | split | with_reducible rfl)

theorem execCycleRelease_view (dt : ℕ) (n : ℕ) (osn : ℕ) (s : State) (hm : Sub 0xf0020000 hid) : Leaves hid ((s.elapse dt).view hid) (execCycleRelease dt n osn s) := by
  unfold execCycleRelease
  try dsimp only
  repeat' (first | exact leaves_fault | assumption | intro _ | with_reducible apply execLane_view | with_reducible apply execDebug_view | exact Sub.of (by assumption) (by decide) | with_reducible apply atRes_view | with_reducible refine leaves_next ?_ | simp (disch := first | exact hide_on (Sub.of (by assumption) (by decide)) | with_reducible rfl | exact Sub.of (by assumption) (by decide) | assumption) only [tryRelease_view, view_lit, apply_ite (State.view hid), ite_self] | with_reducible apply foldl_keep | with_reducible apply foldl_keep2 | split | with_reducible rfl)

theorem execDigestWaitExpiry_view (dt : ℕ) (n : ℕ) (osn : ℕ) (s : State) (hm : Sub 0xf0024000 hid) : Leaves hid ((s.elapse dt).view hid) (execDigestWaitExpiry dt n osn s) := by
  unfold execDigestWaitExpiry
  try dsimp only
  repeat' (first | exact leaves_fault | assumption | intro _ | with_reducible apply execLane_view | with_reducible apply execDebug_view | exact Sub.of (by assumption) (by decide) | with_reducible apply atRes_view | with_reducible refine leaves_next ?_ | simp (disch := first | exact hide_on (Sub.of (by assumption) (by decide)) | with_reducible rfl | exact Sub.of (by assumption) (by decide) | assumption) only [digestLate_view, view_lit, apply_ite (State.view hid), ite_self] | with_reducible apply foldl_keep | with_reducible apply foldl_keep2 | split | with_reducible rfl)

theorem execTaskFault_view (dt : ℕ) (n : ℕ) (cause : ℕ) (addr : U64) (s : State) (hm : Sub 0x30024000 hid) : Leaves hid ((s.elapse dt).view hid) (execTaskFault dt n cause addr s) := by
  unfold execTaskFault
  try dsimp only
  repeat' (first | exact leaves_fault | assumption | intro _ | with_reducible apply execLane_view | with_reducible apply execDebug_view | exact Sub.of (by assumption) (by decide) | with_reducible apply atRes_view | with_reducible refine leaves_next ?_ | simp (disch := first | exact hide_on (Sub.of (by assumption) (by decide)) | with_reducible rfl | exact Sub.of (by assumption) (by decide) | assumption) only [taskFault_view, view_lit, apply_ite (State.view hid), ite_self] | with_reducible apply foldl_keep | with_reducible apply foldl_keep2 | split | with_reducible rfl)

theorem execLockstepMismatch_view (dt : ℕ) (p : ℕ) (kind : ℕ) (lane : ℕ) (running : Option ℕ) (saving : Option ℕ) (committed : Bool) (s : State) (hm : Sub 0x3a824248 hid) : Leaves hid ((s.elapse dt).view hid) (execLockstepMismatch dt p kind lane running saving committed s) := by
  unfold execLockstepMismatch
  try dsimp only
  repeat' (first | exact leaves_fault | assumption | intro _ | with_reducible apply execLane_view | with_reducible apply execDebug_view | exact Sub.of (by assumption) (by decide) | with_reducible apply atRes_view | with_reducible refine leaves_next ?_ | simp (disch := first | exact hide_on (Sub.of (by assumption) (by decide)) | with_reducible rfl | exact Sub.of (by assumption) (by decide) | assumption) only [lane_view, curatorRestart_view, mismatch_view, view_lit, apply_ite (State.view hid), ite_self] | with_reducible apply foldl_keep | with_reducible apply foldl_keep2 | split | with_reducible rfl)

theorem execRecoveryRunStart_view (dt : ℕ) (n : ℕ) (s : State) (hm : Sub 0x20000 hid) : Leaves hid ((s.elapse dt).view hid) (execRecoveryRunStart dt n s) := by
  unfold execRecoveryRunStart
  try dsimp only
  repeat' (first | exact leaves_fault | assumption | intro _ | with_reducible apply execLane_view | with_reducible apply execDebug_view | exact Sub.of (by assumption) (by decide) | with_reducible apply atRes_view | with_reducible refine leaves_next ?_ | simp (disch := first | exact hide_on (Sub.of (by assumption) (by decide)) | with_reducible rfl | exact Sub.of (by assumption) (by decide) | assumption) only [raise_view, modTask_view, view_lit, apply_ite (State.view hid), ite_self] | with_reducible apply foldl_keep | with_reducible apply foldl_keep2 | split | with_reducible rfl)

theorem execInjectionTest_view (dt : ℕ) (p : ℕ) (passed : U64) (s : State) (hm : Sub 0x1a804248 hid) : Leaves hid ((s.elapse dt).view hid) (execInjectionTest dt p passed s) := by
  unfold execInjectionTest
  try dsimp only
  repeat' (first | exact leaves_fault | assumption | intro _ | with_reducible apply execLane_view | with_reducible apply execDebug_view | exact Sub.of (by assumption) (by decide) | with_reducible apply atRes_view | with_reducible refine leaves_next ?_ | simp (disch := first | exact hide_on (Sub.of (by assumption) (by decide)) | with_reducible rfl | exact Sub.of (by assumption) (by decide) | assumption) only [injected_view, view_lit, apply_ite (State.view hid), ite_self] | with_reducible apply foldl_keep | with_reducible apply foldl_keep2 | split | with_reducible rfl)

theorem execInjectionRetest_view (dt : ℕ) (p : ℕ) (passed : U64) (s : State) (hm : Sub 0x1a804248 hid) : Leaves hid ((s.elapse dt).view hid) (execInjectionRetest dt p passed s) := by
  unfold execInjectionRetest
  try dsimp only
  repeat' (first | exact leaves_fault | assumption | intro _ | with_reducible apply execLane_view | with_reducible apply execDebug_view | exact Sub.of (by assumption) (by decide) | with_reducible apply atRes_view | with_reducible refine leaves_next ?_ | simp (disch := first | exact hide_on (Sub.of (by assumption) (by decide)) | with_reducible rfl | exact Sub.of (by assumption) (by decide) | assumption) only [injected_view, view_lit, apply_ite (State.view hid), ite_self] | with_reducible apply foldl_keep | with_reducible apply foldl_keep2 | split | with_reducible rfl)

theorem execSignatureWindowClose_view (dt : ℕ) (u : ℕ) (count : ℕ) (first : ℕ) (a : U64) (b : U64) (s : State) (hm : Sub 0x38b3d000 hid) : Leaves hid ((s.elapse dt).view hid) (execSignatureWindowClose dt u count first a b s) := by
  unfold execSignatureWindowClose
  try dsimp only
  repeat' (first | exact leaves_fault | assumption | intro _ | with_reducible apply execLane_view | with_reducible apply execDebug_view | exact Sub.of (by assumption) (by decide) | with_reducible apply atRes_view | with_reducible refine leaves_next ?_ | simp (disch := first | exact hide_on (Sub.of (by assumption) (by decide)) | with_reducible rfl | exact Sub.of (by assumption) (by decide) | assumption) only [releaseWindow_view, sigMismatch_view, nextWindow_view, view_lit, apply_ite (State.view hid), ite_self] | with_reducible apply foldl_keep | with_reducible apply foldl_keep2 | split | with_reducible rfl)

theorem execAgreedInputFrame_view (dt : ℕ) (hh : LaneHdr) (f : AgreedIn) (s : State) (hm : Sub 0x3813e208 hid) : Leaves hid ((s.elapse dt).view hid) (execAgreedInputFrame dt hh f s) := by
  unfold execAgreedInputFrame
  try dsimp only
  repeat' (first | exact leaves_fault | assumption | intro _ | with_reducible apply execLane_view | with_reducible apply execDebug_view | exact Sub.of (by assumption) (by decide) | with_reducible apply atRes_view | with_reducible refine leaves_next ?_ | simp (disch := first | exact hide_on (Sub.of (by assumption) (by decide)) | with_reducible rfl | exact Sub.of (by assumption) (by decide) | assumption) only [complete_view, modTask_view, standbyFrame_view, agreedResults_view, trigger_view, view_lit, apply_ite (State.view hid), ite_self] | with_reducible apply foldl_keep | with_reducible apply foldl_keep2 | split | with_reducible rfl)

theorem execDigestFrame_view (dt : ℕ) (hh : LaneHdr) (f : DigestIn) (s : State) (hm : Sub 0xf013c208 hid) : Leaves hid ((s.elapse dt).view hid) (execDigestFrame dt hh f s) := by
  unfold execDigestFrame
  try dsimp only
  repeat' (first | exact leaves_fault | assumption | intro _ | with_reducible apply execLane_view | with_reducible apply execDebug_view | exact Sub.of (by assumption) (by decide) | with_reducible apply atRes_view | with_reducible refine leaves_next ?_ | simp (disch := first | exact hide_on (Sub.of (by assumption) (by decide)) | with_reducible rfl | exact Sub.of (by assumption) (by decide) | assumption) only [digestIn_view, view_lit, apply_ite (State.view hid), ite_self] | with_reducible apply foldl_keep | with_reducible apply foldl_keep2 | split | with_reducible rfl)

theorem execWithheldMarker_view (dt : ℕ) (hh : LaneHdr) (task : ℕ) (x3 : ℕ) (osn : ℕ) (s : State) (hm : Sub 0xf0024000 hid) : Leaves hid ((s.elapse dt).view hid) (execWithheldMarker dt hh task x3 osn s) := by
  unfold execWithheldMarker
  try dsimp only
  repeat' (first | exact leaves_fault | assumption | intro _ | with_reducible apply execLane_view | with_reducible apply execDebug_view | exact Sub.of (by assumption) (by decide) | with_reducible apply atRes_view | with_reducible refine leaves_next ?_ | simp (disch := first | exact hide_on (Sub.of (by assumption) (by decide)) | with_reducible rfl | exact Sub.of (by assumption) (by decide) | assumption) only [modTask_view, tryRelease_view, view_lit, apply_ite (State.view hid), ite_self] | with_reducible apply foldl_keep | with_reducible apply foldl_keep2 | split | with_reducible rfl)

theorem execLoopAgreementFrame_view (dt : ℕ) (hh : LaneHdr) (lsn : ℕ) (time : ℕ) (ms : List LoopIn) (mis : List (ℕ × ℕ)) (s : State) (hm : Sub 0x3213e200 hid) : Leaves hid ((s.elapse dt).view hid) (execLoopAgreementFrame dt hh lsn time ms mis s) := by
  unfold execLoopAgreementFrame
  try dsimp only
  repeat' (first | exact leaves_fault | assumption | intro _ | with_reducible apply execLane_view | with_reducible apply execDebug_view | exact Sub.of (by assumption) (by decide) | with_reducible apply atRes_view | with_reducible refine leaves_next ?_ | simp (disch := first | exact hide_on (Sub.of (by assumption) (by decide)) | with_reducible rfl | exact Sub.of (by assumption) (by decide) | assumption) only [loopFrame_view, view_lit, apply_ite (State.view hid), ite_self] | with_reducible apply foldl_keep | with_reducible apply foldl_keep2 | split | with_reducible rfl)

theorem execLoopAnswerFrame_view (dt : ℕ) (hh : LaneHdr) (lsn : ℕ) (r : ℕ) (v : ℕ) (six : List ℕ) (s : State) (hm : Sub 0x10116000 hid) : Leaves hid ((s.elapse dt).view hid) (execLoopAnswerFrame dt hh lsn r v six s) := by
  unfold execLoopAnswerFrame
  try dsimp only
  repeat' (first | exact leaves_fault | assumption | intro _ | with_reducible apply execLane_view | with_reducible apply execDebug_view | exact Sub.of (by assumption) (by decide) | with_reducible apply atRes_view | with_reducible refine leaves_next ?_ | simp (disch := first | exact hide_on (Sub.of (by assumption) (by decide)) | with_reducible rfl | exact Sub.of (by assumption) (by decide) | assumption) only [loopAnswer_view, view_lit, apply_ite (State.view hid), ite_self] | with_reducible apply foldl_keep | with_reducible apply foldl_keep2 | split | with_reducible rfl)

theorem execAlarmAgreementFrame_view (dt : ℕ) (hh : LaneHdr) (f : AlarmIn) (mis : List (ℕ × ℕ)) (s : State) (hm : Sub 0x1fe7bee64 hid) : Leaves hid ((s.elapse dt).view hid) (execAlarmAgreementFrame dt hh f mis s) := by
  unfold execAlarmAgreementFrame
  try dsimp only
  repeat' (first | exact leaves_fault | assumption | intro _ | with_reducible apply execLane_view | with_reducible apply execDebug_view | exact Sub.of (by assumption) (by decide) | with_reducible apply atRes_view | with_reducible refine leaves_next ?_ | simp (disch := first | exact hide_on (Sub.of (by assumption) (by decide)) | with_reducible rfl | exact Sub.of (by assumption) (by decide) | assumption) only [alarmFollow_view, alApplyFrame_view, view_lit, apply_ite (State.view hid), ite_self] | with_reducible apply foldl_keep | with_reducible apply foldl_keep2 | split | with_reducible rfl)

theorem execAlarmExchangeFrame_view (dt : ℕ) (hh : LaneHdr) (x : ExchIn) (s : State) (hm : Sub 0x1fe7bee6c hid) : Leaves hid ((s.elapse dt).view hid) (execAlarmExchangeFrame dt hh x s) := by
  unfold execAlarmExchangeFrame
  try dsimp only
  repeat' (first | exact leaves_fault | assumption | intro _ | with_reducible apply execLane_view | with_reducible apply execDebug_view | exact Sub.of (by assumption) (by decide) | with_reducible apply atRes_view | with_reducible refine leaves_next ?_ | simp (disch := first | exact hide_on (Sub.of (by assumption) (by decide)) | with_reducible rfl | exact Sub.of (by assumption) (by decide) | assumption) only [alSigIn_view, alAnswer_view, alBorrowed_view, alApplyDue_view, view_lit, apply_ite (State.view hid), ite_self] | with_reducible apply foldl_keep | with_reducible apply foldl_keep2 | split | with_reducible rfl)

theorem execRetainedHashFrame_view (dt : ℕ) (hh : LaneHdr) (task : ℕ) (osn : ℕ) (sum : U64) (s : State) (hm : Sub 0x3013c208 hid) : Leaves hid ((s.elapse dt).view hid) (execRetainedHashFrame dt hh task osn sum s) := by
  unfold execRetainedHashFrame
  try dsimp only
  repeat' (first | exact leaves_fault | assumption | intro _ | with_reducible apply execLane_view | with_reducible apply execDebug_view | exact Sub.of (by assumption) (by decide) | with_reducible apply atRes_view | with_reducible refine leaves_next ?_ | simp (disch := first | exact hide_on (Sub.of (by assumption) (by decide)) | with_reducible rfl | exact Sub.of (by assumption) (by decide) | assumption) only [modTask_view, compareSums_view, view_lit, apply_ite (State.view hid), ite_self] | with_reducible apply foldl_keep | with_reducible apply foldl_keep2 | split | with_reducible rfl)

theorem execCopyDataFrame_view (dt : ℕ) (hh : LaneHdr) (l : List CopyItem) (s : State) (hm : Sub 0x307fc860 hid) : Leaves hid ((s.elapse dt).view hid) (execCopyDataFrame dt hh l s) := by
  unfold execCopyDataFrame
  try dsimp only
  repeat' (first | exact leaves_fault | assumption | intro _ | with_reducible apply execLane_view | with_reducible apply execDebug_view | exact Sub.of (by assumption) (by decide) | with_reducible apply atRes_view | with_reducible refine leaves_next ?_ | simp (disch := first | exact hide_on (Sub.of (by assumption) (by decide)) | with_reducible rfl | exact Sub.of (by assumption) (by decide) | assumption) only [modPair_view, takeItem_view, view_lit, apply_ite (State.view hid), ite_self] | with_reducible apply foldl_keep | with_reducible apply foldl_keep2 | split | with_reducible rfl)

theorem execSwitchAnnouncement_view (dt : ℕ) (hh : LaneHdr) (a : SwitchIn) (s : State) (hm : Sub 0x200004208 hid) : Leaves hid ((s.elapse dt).view hid) (execSwitchAnnouncement dt hh a s) := by
  unfold execSwitchAnnouncement
  try dsimp only
  repeat' (first | exact leaves_fault | assumption | intro _ | with_reducible apply execLane_view | with_reducible apply execDebug_view | exact Sub.of (by assumption) (by decide) | with_reducible apply atRes_view | with_reducible refine leaves_next ?_ | simp (disch := first | exact hide_on (Sub.of (by assumption) (by decide)) | with_reducible rfl | exact Sub.of (by assumption) (by decide) | assumption) only [switchFrame_view, view_lit, apply_ite (State.view hid), ite_self] | with_reducible apply foldl_keep | with_reducible apply foldl_keep2 | split | with_reducible rfl)

theorem execDepartureNotice_view (dt : ℕ) (hh : LaneHdr) (f : ℕ) (s : State) (hm : Sub 0x4000 hid) : Leaves hid ((s.elapse dt).view hid) (execDepartureNotice dt hh f s) := by
  unfold execDepartureNotice
  try dsimp only
  repeat' (first | exact leaves_fault | assumption | intro _ | with_reducible apply execLane_view | with_reducible apply execDebug_view | exact Sub.of (by assumption) (by decide) | with_reducible apply atRes_view | with_reducible refine leaves_next ?_ | simp (disch := first | exact hide_on (Sub.of (by assumption) (by decide)) | with_reducible rfl | exact Sub.of (by assumption) (by decide) | assumption) only [modPair_view, view_lit, apply_ite (State.view hid), ite_self] | with_reducible apply foldl_keep | with_reducible apply foldl_keep2 | split | with_reducible rfl)

theorem execCommandRelay_view (dt : ℕ) (hh : LaneHdr) (c : RelayIn) (s : State) (hm : Sub 0x3fc7b6ee4 hid) : Leaves hid ((s.elapse dt).view hid) (execCommandRelay dt hh c s) := by
  unfold execCommandRelay
  try dsimp only
  repeat' (first | exact leaves_fault | assumption | intro _ | with_reducible apply execLane_view | with_reducible apply execDebug_view | exact Sub.of (by assumption) (by decide) | with_reducible apply atRes_view | with_reducible refine leaves_next ?_ | simp (disch := first | exact hide_on (Sub.of (by assumption) (by decide)) | with_reducible rfl | exact Sub.of (by assumption) (by decide) | assumption) only [relayScheduled_view, relayRequest_view, relayAnswer_view, relayRefused_view, view_lit, apply_ite (State.view hid), ite_self] | with_reducible apply foldl_keep | with_reducible apply foldl_keep2 | split | with_reducible rfl)

theorem execPairCommandApply_view (dt : ℕ) (s : State) (hm : Sub 0x1fc7b2e64 hid) : Leaves hid ((s.elapse dt).view hid) (execPairCommandApply dt s) := by
  unfold execPairCommandApply
  try dsimp only
  repeat' (first | exact leaves_fault | assumption | intro _ | with_reducible apply execLane_view | with_reducible apply execDebug_view | exact Sub.of (by assumption) (by decide) | with_reducible apply atRes_view | with_reducible refine leaves_next ?_ | simp (disch := first | exact hide_on (Sub.of (by assumption) (by decide)) | with_reducible rfl | exact Sub.of (by assumption) (by decide) | assumption) only [applyScheduled_view, view_lit, apply_ite (State.view hid), ite_self] | with_reducible apply foldl_keep | with_reducible apply foldl_keep2 | split | with_reducible rfl)

theorem execVoidNotice_view (dt : ℕ) (hh : LaneHdr) (first : ℕ) (count : ℕ) (s : State) (hm : Sub 0x3033c000 hid) : Leaves hid ((s.elapse dt).view hid) (execVoidNotice dt hh first count s) := by
  unfold execVoidNotice
  try dsimp only
  repeat' (first | exact leaves_fault | assumption | intro _ | with_reducible apply execLane_view | with_reducible apply execDebug_view | exact Sub.of (by assumption) (by decide) | with_reducible apply atRes_view | with_reducible refine leaves_next ?_ | simp (disch := first | exact hide_on (Sub.of (by assumption) (by decide)) | with_reducible rfl | exact Sub.of (by assumption) (by decide) | assumption) only [voidFrames_view, voidEngines_view, view_lit, apply_ite (State.view hid), ite_self] | with_reducible apply foldl_keep | with_reducible apply foldl_keep2 | split | with_reducible rfl)

theorem execStationStateAnnouncement_view (dt : ℕ) (hh : LaneHdr) (f : ℕ) (slot : ℕ) (st : ℕ) (rev : ℕ) (per : ℕ) (s : State) (hm : Sub 0x40004000 hid) : Leaves hid ((s.elapse dt).view hid) (execStationStateAnnouncement dt hh f slot st rev per s) := by
  unfold execStationStateAnnouncement
  try dsimp only
  repeat' (first | exact leaves_fault | assumption | intro _ | with_reducible apply execLane_view | with_reducible apply execDebug_view | exact Sub.of (by assumption) (by decide) | with_reducible apply atRes_view | with_reducible refine leaves_next ?_ | simp (disch := first | exact hide_on (Sub.of (by assumption) (by decide)) | with_reducible rfl | exact Sub.of (by assumption) (by decide) | assumption) only [view_lit, apply_ite (State.view hid), ite_self] | with_reducible apply foldl_keep | with_reducible apply foldl_keep2 | split | with_reducible rfl)

theorem execTimeCorrectionAnnouncement_view (dt : ℕ) (hh : LaneHdr) (f : ℕ) (c : ℤ) (cause : ℕ) (s : State) (hm : Sub 0x4004 hid) : Leaves hid ((s.elapse dt).view hid) (execTimeCorrectionAnnouncement dt hh f c cause s) := by
  unfold execTimeCorrectionAnnouncement
  try dsimp only
  repeat' (first | exact leaves_fault | assumption | intro _ | with_reducible apply execLane_view | with_reducible apply execDebug_view | exact Sub.of (by assumption) (by decide) | with_reducible apply atRes_view | with_reducible refine leaves_next ?_ | simp (disch := first | exact hide_on (Sub.of (by assumption) (by decide)) | with_reducible rfl | exact Sub.of (by assumption) (by decide) | assumption) only [modClk_view, view_lit, apply_ite (State.view hid), ite_self] | with_reducible apply foldl_keep | with_reducible apply foldl_keep2 | split | with_reducible rfl)

theorem execPanelStartAnnouncement_view (dt : ℕ) (hh : LaneHdr) (r : ℕ) (band : ℕ) (start : ℕ) (picture : ℕ) (refresh : Bool) (s : State) (hm : Sub 0x100004200 hid) : Leaves hid ((s.elapse dt).view hid) (execPanelStartAnnouncement dt hh r band start picture refresh s) := by
  unfold execPanelStartAnnouncement
  try dsimp only
  repeat' (first | exact leaves_fault | assumption | intro _ | with_reducible apply execLane_view | with_reducible apply execDebug_view | exact Sub.of (by assumption) (by decide) | with_reducible apply atRes_view | with_reducible refine leaves_next ?_ | simp (disch := first | exact hide_on (Sub.of (by assumption) (by decide)) | with_reducible rfl | exact Sub.of (by assumption) (by decide) | assumption) only [panelTrack_view, view_lit, apply_ite (State.view hid), ite_self] | with_reducible apply foldl_keep | with_reducible apply foldl_keep2 | split | with_reducible rfl)

theorem execMailboxForwardFrame_view (dt : ℕ) (hh : LaneHdr) (x : ForwardIn) (s : State) (hm : Sub 0x3fefbefec hid) : Leaves hid ((s.elapse dt).view hid) (execMailboxForwardFrame dt hh x s) :=
  by
  unfold execMailboxForwardFrame
  refine execLane_view (fun t => ?_) _ _ _ (Sub.of hm (by decide))
  cases x with
  | request => exact forwarded_view _ _ _ _ _ _ _ _ (Sub.of hm (by decide))
  | response => exact forwardAnswer_view _ _ _

theorem execAccessionFrame_view (dt : ℕ) (hh : LaneHdr) (a : AccessIn) (s : State) (hm : Sub 0x607bea4c hid) : Leaves hid ((s.elapse dt).view hid) (execAccessionFrame dt hh a s) := by
  unfold execAccessionFrame
  try dsimp only
  repeat' (first | exact leaves_fault | assumption | intro _ | with_reducible apply execLane_view | with_reducible apply execDebug_view | exact Sub.of (by assumption) (by decide) | with_reducible apply atRes_view | with_reducible refine leaves_next ?_ | simp (disch := first | exact hide_on (Sub.of (by assumption) (by decide)) | with_reducible rfl | exact Sub.of (by assumption) (by decide) | assumption) only [accession_view, view_lit, apply_ite (State.view hid), ite_self] | with_reducible apply foldl_keep | with_reducible apply foldl_keep2 | split | with_reducible rfl)

theorem execStatusFrame_view (dt : ℕ) (hh : LaneHdr) (x : StatusIn) (s : State) (hm : Sub 0x8000420c hid) : Leaves hid ((s.elapse dt).view hid) (execStatusFrame dt hh x s) := by
  unfold execStatusFrame
  try dsimp only
  repeat' (first | exact leaves_fault | assumption | intro _ | with_reducible apply execLane_view | with_reducible apply execDebug_view | exact Sub.of (by assumption) (by decide) | with_reducible apply atRes_view | with_reducible refine leaves_next ?_ | simp (disch := first | exact hide_on (Sub.of (by assumption) (by decide)) | with_reducible rfl | exact Sub.of (by assumption) (by decide) | assumption) only [statusIn_view, view_lit, apply_ite (State.view hid), ite_self] | with_reducible apply foldl_keep | with_reducible apply foldl_keep2 | split | with_reducible rfl)

theorem execSyncLaneDown_view (dt : ℕ) (l : ℕ) (cause : ℕ) (s : State) (hm : Sub 0x3f893e688 hid) : Leaves hid ((s.elapse dt).view hid) (execSyncLaneDown dt l cause s) :=
  by
  unfold execSyncLaneDown
  extract_lets s0 s1 s2 s3 s4 s5
  have h1 : s1.view hid = s0.view hid := modLane_view _ _ _ (Sub.of hm (by decide))
  have h2 : s2.view hid = s0.view hid := (raise_view _ _ _).trans h1
  have h3 : s3.view hid = s0.view hid := (raise_view _ _ _).trans h2
  have h5 : s5.view hid = s0.view hid := (relaysLost_view _ (Sub.of hm (by decide))).trans ((canRefresh_view _ (Sub.of hm (by decide))).trans ((modPair_view _ _ (Sub.of hm (by decide))).trans h3))
  split
  · exact leaves_next rfl
  · split
    · exact leaves_next rfl
    · split
      · exact leaves_next h2
      · split
        · exact leaves_next ((declareGone_view _ (Sub.of hm (by decide))).trans h5)
        · split
          · exact leaves_next ((modPair_view _ _ (Sub.of hm (by decide))).trans h5)
          · exact leaves_next h5

theorem execSyncLaneUp_view (dt : ℕ) (l : ℕ) (s : State) (hm : Sub 0x80004200 hid) : Leaves hid ((s.elapse dt).view hid) (execSyncLaneUp dt l s) := by
  unfold execSyncLaneUp
  try dsimp only
  repeat' (first | exact leaves_fault | assumption | intro _ | with_reducible apply execLane_view | with_reducible apply execDebug_view | exact Sub.of (by assumption) (by decide) | with_reducible apply atRes_view | with_reducible refine leaves_next ?_ | simp (disch := first | exact hide_on (Sub.of (by assumption) (by decide)) | with_reducible rfl | exact Sub.of (by assumption) (by decide) | assumption) only [modPair_view, canRefresh_view, modLane_view, view_lit, apply_ite (State.view hid), ite_self] | with_reducible apply foldl_keep | with_reducible apply foldl_keep2 | split | with_reducible rfl)

theorem execPartnerHeartbeatLost_view (dt : ℕ) (s : State) (hm : Sub 0x3f893e208 hid) : Leaves hid ((s.elapse dt).view hid) (execPartnerHeartbeatLost dt s) := by
  unfold execPartnerHeartbeatLost
  try dsimp only
  repeat' (first | exact leaves_fault | assumption | intro _ | with_reducible apply execLane_view | with_reducible apply execDebug_view | exact Sub.of (by assumption) (by decide) | with_reducible apply atRes_view | with_reducible refine leaves_next ?_ | simp (disch := first | exact hide_on (Sub.of (by assumption) (by decide)) | with_reducible rfl | exact Sub.of (by assumption) (by decide) | assumption) only [raise_view, modPair_view, canRefresh_view, declareGone_view, view_lit, apply_ite (State.view hid), ite_self] | with_reducible apply foldl_keep | with_reducible apply foldl_keep2 | split | with_reducible rfl)

theorem execPartnerHeartbeatPresent_view (dt : ℕ) (s : State) (hm : Sub 0x80004200 hid) : Leaves hid ((s.elapse dt).view hid) (execPartnerHeartbeatPresent dt s) := by
  unfold execPartnerHeartbeatPresent
  try dsimp only
  repeat' (first | exact leaves_fault | assumption | intro _ | with_reducible apply execLane_view | with_reducible apply execDebug_view | exact Sub.of (by assumption) (by decide) | with_reducible apply atRes_view | with_reducible refine leaves_next ?_ | simp (disch := first | exact hide_on (Sub.of (by assumption) (by decide)) | with_reducible rfl | exact Sub.of (by assumption) (by decide) | assumption) only [modPair_view, canRefresh_view, view_lit, apply_ite (State.view hid), ite_self] | with_reducible apply foldl_keep | with_reducible apply foldl_keep2 | split | with_reducible rfl)

theorem execIsolatingPatternSeen_view (dt : ℕ) (s : State) (hm : Sub 0x4000 hid) : Leaves hid ((s.elapse dt).view hid) (execIsolatingPatternSeen dt s) := by
  unfold execIsolatingPatternSeen
  try dsimp only
  repeat' (first | exact leaves_fault | assumption | intro _ | with_reducible apply execLane_view | with_reducible apply execDebug_view | exact Sub.of (by assumption) (by decide) | with_reducible apply atRes_view | with_reducible refine leaves_next ?_ | simp (disch := first | exact hide_on (Sub.of (by assumption) (by decide)) | with_reducible rfl | exact Sub.of (by assumption) (by decide) | assumption) only [modPair_view, view_lit, apply_ite (State.view hid), ite_self] | with_reducible apply foldl_keep | with_reducible apply foldl_keep2 | split | with_reducible rfl)

theorem execIsolationF1_view (dt : ℕ) (s : State) (hm : Sub 0x3febbeecc hid) : Leaves hid ((s.elapse dt).view hid) (execIsolationF1 dt s) := by
  unfold execIsolationF1
  try dsimp only
  repeat' (first | exact leaves_fault | assumption | intro _ | with_reducible apply execLane_view | with_reducible apply execDebug_view | exact Sub.of (by assumption) (by decide) | with_reducible apply atRes_view | with_reducible refine leaves_next ?_ | simp (disch := first | exact hide_on (Sub.of (by assumption) (by decide)) | with_reducible rfl | exact Sub.of (by assumption) (by decide) | assumption) only [isolationF1_view, view_lit, apply_ite (State.view hid), ite_self] | with_reducible apply foldl_keep | with_reducible apply foldl_keep2 | split | with_reducible rfl)

theorem execDepartureF_view (dt : ℕ) (s : State) (hm : Sub 0x7fffffeec hid) : Leaves hid ((s.elapse dt).view hid) (execDepartureF dt s) := by
  unfold execDepartureF
  try dsimp only
  repeat' (first | exact leaves_fault | assumption | intro _ | with_reducible apply execLane_view | with_reducible apply execDebug_view | exact Sub.of (by assumption) (by decide) | with_reducible apply atRes_view | with_reducible refine leaves_next ?_ | simp (disch := first | exact hide_on (Sub.of (by assumption) (by decide)) | with_reducible rfl | exact Sub.of (by assumption) (by decide) | assumption) only [departureF_view, view_lit, apply_ite (State.view hid), ite_self] | with_reducible apply foldl_keep | with_reducible apply foldl_keep2 | split | with_reducible rfl)

theorem execCopyComplete_view (dt : ℕ) (s : State) (hm : Sub 0x4008 hid) : Leaves hid ((s.elapse dt).view hid) (execCopyComplete dt s) := by
  unfold execCopyComplete
  try dsimp only
  repeat' (first | exact leaves_fault | assumption | intro _ | with_reducible apply execLane_view | with_reducible apply execDebug_view | exact Sub.of (by assumption) (by decide) | with_reducible apply atRes_view | with_reducible refine leaves_next ?_ | simp (disch := first | exact hide_on (Sub.of (by assumption) (by decide)) | with_reducible rfl | exact Sub.of (by assumption) (by decide) | assumption) only [copyComplete_view, view_lit, apply_ite (State.view hid), ite_self] | with_reducible apply foldl_keep | with_reducible apply foldl_keep2 | split | with_reducible rfl)

theorem execCopyTimeout_view (dt : ℕ) (s : State) (hm : Sub 0x4208 hid) : Leaves hid ((s.elapse dt).view hid) (execCopyTimeout dt s) := by
  unfold execCopyTimeout
  try dsimp only
  repeat' (first | exact leaves_fault | assumption | intro _ | with_reducible apply execLane_view | with_reducible apply execDebug_view | exact Sub.of (by assumption) (by decide) | with_reducible apply atRes_view | with_reducible refine leaves_next ?_ | simp (disch := first | exact hide_on (Sub.of (by assumption) (by decide)) | with_reducible rfl | exact Sub.of (by assumption) (by decide) | assumption) only [modPair_view, joinFails_view, view_lit, apply_ite (State.view hid), ite_self] | with_reducible apply foldl_keep | with_reducible apply foldl_keep2 | split | with_reducible rfl)

theorem execSoakExpiry_view (dt : ℕ) (s : State) (hm : Sub 0x4008 hid) : Leaves hid ((s.elapse dt).view hid) (execSoakExpiry dt s) := by
  unfold execSoakExpiry
  try dsimp only
  repeat' (first | exact leaves_fault | assumption | intro _ | with_reducible apply execLane_view | with_reducible apply execDebug_view | exact Sub.of (by assumption) (by decide) | with_reducible apply atRes_view | with_reducible refine leaves_next ?_ | simp (disch := first | exact hide_on (Sub.of (by assumption) (by decide)) | with_reducible rfl | exact Sub.of (by assumption) (by decide) | assumption) only [takeback_view, view_lit, apply_ite (State.view hid), ite_self] | with_reducible apply foldl_keep | with_reducible apply foldl_keep2 | split | with_reducible rfl)

theorem execAlarmScan_view (dt : ℕ) (mis : List (ℕ × ℕ)) (s : State) (hm : Sub 0x1fe7bee64 hid) : Leaves hid ((s.elapse dt).view hid) (execAlarmScan dt mis s) := by
  unfold execAlarmScan
  try dsimp only
  repeat' (first | exact leaves_fault | assumption | intro _ | with_reducible apply execLane_view | with_reducible apply execDebug_view | exact Sub.of (by assumption) (by decide) | with_reducible apply atRes_view | with_reducible refine leaves_next ?_ | simp (disch := first | exact hide_on (Sub.of (by assumption) (by decide)) | with_reducible rfl | exact Sub.of (by assumption) (by decide) | assumption) only [ownScan_view, view_lit, apply_ite (State.view hid), ite_self] | with_reducible apply foldl_keep | with_reducible apply foldl_keep2 | split | with_reducible rfl)

theorem execOnDelayExpiry_view (dt : ℕ) (n : ℕ) (s : State) (hm : Sub 0x1fe7bee64 hid) : Leaves hid ((s.elapse dt).view hid) (execOnDelayExpiry dt n s) := by
  unfold execOnDelayExpiry
  try dsimp only
  repeat' (first | exact leaves_fault | assumption | intro _ | with_reducible apply execLane_view | with_reducible apply execDebug_view | exact Sub.of (by assumption) (by decide) | with_reducible apply atRes_view | with_reducible refine leaves_next ?_ | simp (disch := first | exact hide_on (Sub.of (by assumption) (by decide)) | with_reducible rfl | exact Sub.of (by assumption) (by decide) | assumption) only [scanIf_view, view_lit, apply_ite (State.view hid), ite_self] | with_reducible apply foldl_keep | with_reducible apply foldl_keep2 | split | with_reducible rfl)

theorem execOffDelayExpiry_view (dt : ℕ) (n : ℕ) (s : State) (hm : Sub 0x1fe7bee64 hid) : Leaves hid ((s.elapse dt).view hid) (execOffDelayExpiry dt n s) := by
  unfold execOffDelayExpiry
  try dsimp only
  repeat' (first | exact leaves_fault | assumption | intro _ | with_reducible apply execLane_view | with_reducible apply execDebug_view | exact Sub.of (by assumption) (by decide) | with_reducible apply atRes_view | with_reducible refine leaves_next ?_ | simp (disch := first | exact hide_on (Sub.of (by assumption) (by decide)) | with_reducible rfl | exact Sub.of (by assumption) (by decide) | assumption) only [scanIf_view, view_lit, apply_ite (State.view hid), ite_self] | with_reducible apply foldl_keep | with_reducible apply foldl_keep2 | split | with_reducible rfl)

theorem execRateWindowEnd_view (dt : ℕ) (n : ℕ) (s : State) (hm : Sub 0x1fe7bee64 hid) : Leaves hid ((s.elapse dt).view hid) (execRateWindowEnd dt n s) := by
  unfold execRateWindowEnd
  try dsimp only
  repeat' (first | exact leaves_fault | assumption | intro _ | with_reducible apply execLane_view | with_reducible apply execDebug_view | exact Sub.of (by assumption) (by decide) | with_reducible apply atRes_view | with_reducible refine leaves_next ?_ | simp (disch := first | exact hide_on (Sub.of (by assumption) (by decide)) | with_reducible rfl | exact Sub.of (by assumption) (by decide) | assumption) only [scanIf_view, view_lit, apply_ite (State.view hid), ite_self] | with_reducible apply foldl_keep | with_reducible apply foldl_keep2 | split | with_reducible rfl)

theorem execShelveExpiry_view (dt : ℕ) (n : ℕ) (s : State) (hm : Sub 0x1fe7bee64 hid) : Leaves hid ((s.elapse dt).view hid) (execShelveExpiry dt n s) := by
  unfold execShelveExpiry
  try dsimp only
  repeat' (first | exact leaves_fault | assumption | intro _ | with_reducible apply execLane_view | with_reducible apply execDebug_view | exact Sub.of (by assumption) (by decide) | with_reducible apply atRes_view | with_reducible refine leaves_next ?_ | simp (disch := first | exact hide_on (Sub.of (by assumption) (by decide)) | with_reducible rfl | exact Sub.of (by assumption) (by decide) | assumption) only [scanIf_view, view_lit, apply_ite (State.view hid), ite_self] | with_reducible apply foldl_keep | with_reducible apply foldl_keep2 | split | with_reducible rfl)

theorem execReleaseDelayExpiry_view (dt : ℕ) (g : ℕ) (s : State) (hm : Sub 0x1fe7bee64 hid) : Leaves hid ((s.elapse dt).view hid) (execReleaseDelayExpiry dt g s) := by
  unfold execReleaseDelayExpiry
  try dsimp only
  repeat' (first | exact leaves_fault | assumption | intro _ | with_reducible apply execLane_view | with_reducible apply execDebug_view | exact Sub.of (by assumption) (by decide) | with_reducible apply atRes_view | with_reducible refine leaves_next ?_ | simp (disch := first | exact hide_on (Sub.of (by assumption) (by decide)) | with_reducible rfl | exact Sub.of (by assumption) (by decide) | assumption) only [scanIf_view, view_lit, apply_ite (State.view hid), ite_self] | with_reducible apply foldl_keep | with_reducible apply foldl_keep2 | split | with_reducible rfl)

theorem execRungTimeExpiry_view (dt : ℕ) (s : State) (hm : Sub 0x1fe7bee64 hid) : Leaves hid ((s.elapse dt).view hid) (execRungTimeExpiry dt s) := by
  unfold execRungTimeExpiry
  try dsimp only
  repeat' (first | exact leaves_fault | assumption | intro _ | with_reducible apply execLane_view | with_reducible apply execDebug_view | exact Sub.of (by assumption) (by decide) | with_reducible apply atRes_view | with_reducible refine leaves_next ?_ | simp (disch := first | exact hide_on (Sub.of (by assumption) (by decide)) | with_reducible rfl | exact Sub.of (by assumption) (by decide) | assumption) only [scanIf_view, view_lit, apply_ite (State.view hid), ite_self] | with_reducible apply foldl_keep | with_reducible apply foldl_keep2 | split | with_reducible rfl)

theorem execRungRepeat_view (dt : ℕ) (s : State) (hm : Sub 0x1fe7bee64 hid) : Leaves hid ((s.elapse dt).view hid) (execRungRepeat dt s) := by
  unfold execRungRepeat
  try dsimp only
  repeat' (first | exact leaves_fault | assumption | intro _ | with_reducible apply execLane_view | with_reducible apply execDebug_view | exact Sub.of (by assumption) (by decide) | with_reducible apply atRes_view | with_reducible refine leaves_next ?_ | simp (disch := first | exact hide_on (Sub.of (by assumption) (by decide)) | with_reducible rfl | exact Sub.of (by assumption) (by decide) | assumption) only [scanIf_view, view_lit, apply_ite (State.view hid), ite_self] | with_reducible apply foldl_keep | with_reducible apply foldl_keep2 | split | with_reducible rfl)

theorem execUnackReminder_view (dt : ℕ) (n : ℕ) (s : State) (hm : Sub 0x1fe7bee64 hid) : Leaves hid ((s.elapse dt).view hid) (execUnackReminder dt n s) := by
  unfold execUnackReminder
  try dsimp only
  repeat' (first | exact leaves_fault | assumption | intro _ | with_reducible apply execLane_view | with_reducible apply execDebug_view | exact Sub.of (by assumption) (by decide) | with_reducible apply atRes_view | with_reducible refine leaves_next ?_ | simp (disch := first | exact hide_on (Sub.of (by assumption) (by decide)) | with_reducible rfl | exact Sub.of (by assumption) (by decide) | assumption) only [scanIf_view, view_lit, apply_ite (State.view hid), ite_self] | with_reducible apply foldl_keep | with_reducible apply foldl_keep2 | split | with_reducible rfl)

theorem execAlarmFrameLate_view (dt : ℕ) (s : State) (hm : Sub 0x20200000 hid) : Leaves hid ((s.elapse dt).view hid) (execAlarmFrameLate dt s) := by
  unfold execAlarmFrameLate
  try dsimp only
  repeat' (first | exact leaves_fault | assumption | intro _ | with_reducible apply execLane_view | with_reducible apply execDebug_view | exact Sub.of (by assumption) (by decide) | with_reducible apply atRes_view | with_reducible refine leaves_next ?_ | simp (disch := first | exact hide_on (Sub.of (by assumption) (by decide)) | with_reducible rfl | exact Sub.of (by assumption) (by decide) | assumption) only [alarmLate_view, view_lit, apply_ite (State.view hid), ite_self] | with_reducible apply foldl_keep | with_reducible apply foldl_keep2 | split | with_reducible rfl)

theorem execAlarmBorrowTimeout_view (dt : ℕ) (n : ℕ) (s : State) (hm : Sub 0x1fe7bee64 hid) : Leaves hid ((s.elapse dt).view hid) (execAlarmBorrowTimeout dt n s) := by
  unfold execAlarmBorrowTimeout
  try dsimp only
  repeat' (first | exact leaves_fault | assumption | intro _ | with_reducible apply execLane_view | with_reducible apply execDebug_view | exact Sub.of (by assumption) (by decide) | with_reducible apply atRes_view | with_reducible refine leaves_next ?_ | simp (disch := first | exact hide_on (Sub.of (by assumption) (by decide)) | with_reducible rfl | exact Sub.of (by assumption) (by decide) | assumption) only [alBorrowLate_view, alApplyDue_view, view_lit, apply_ite (State.view hid), ite_self] | with_reducible apply foldl_keep | with_reducible apply foldl_keep2 | split | with_reducible rfl)

theorem execCallAckMessage_view (dt : ℕ) (p : Packet) (s : State) (hm : Sub 0x200400 hid) : Leaves hid ((s.elapse dt).view hid) (execCallAckMessage dt p s) := by
  unfold execCallAckMessage
  try dsimp only
  repeat' (first | exact leaves_fault | assumption | intro _ | with_reducible apply execLane_view | with_reducible apply execDebug_view | exact Sub.of (by assumption) (by decide) | with_reducible apply atRes_view | with_reducible refine leaves_next ?_ | simp (disch := first | exact hide_on (Sub.of (by assumption) (by decide)) | with_reducible rfl | exact Sub.of (by assumption) (by decide) | assumption) only [lane_view, alWaits_view, ladderAck_view, view_lit, apply_ite (State.view hid), ite_self] | with_reducible apply foldl_keep | with_reducible apply foldl_keep2 | split | with_reducible rfl)

theorem execJournalFlashWrite_view (dt : ℕ) (n : ℕ) (s : State) (hm : Sub 0x400000 hid) : Leaves hid ((s.elapse dt).view hid) (execJournalFlashWrite dt n s) := by
  unfold execJournalFlashWrite
  try dsimp only
  repeat' (first | exact leaves_fault | assumption | intro _ | with_reducible apply execLane_view | with_reducible apply execDebug_view | exact Sub.of (by assumption) (by decide) | with_reducible apply atRes_view | with_reducible refine leaves_next ?_ | simp (disch := first | exact hide_on (Sub.of (by assumption) (by decide)) | with_reducible rfl | exact Sub.of (by assumption) (by decide) | assumption) only [journalWrite_view, view_lit, apply_ite (State.view hid), ite_self] | with_reducible apply foldl_keep | with_reducible apply foldl_keep2 | split | with_reducible rfl)

theorem execLoopTrigger_view (dt : ℕ) (r : ℕ) (s : State) (hm : Sub 0x100000 hid) : Leaves hid ((s.elapse dt).view hid) (execLoopTrigger dt r s) := by
  unfold execLoopTrigger
  try dsimp only
  repeat' (first | exact leaves_fault | assumption | intro _ | with_reducible apply execLane_view | with_reducible apply execDebug_view | exact Sub.of (by assumption) (by decide) | with_reducible apply atRes_view | with_reducible refine leaves_next ?_ | simp (disch := first | exact hide_on (Sub.of (by assumption) (by decide)) | with_reducible rfl | exact Sub.of (by assumption) (by decide) | assumption) only [loopTrigger_view, view_lit, apply_ite (State.view hid), ite_self] | with_reducible apply foldl_keep | with_reducible apply foldl_keep2 | split | with_reducible rfl)

theorem execLoopEvaluation_view (dt : ℕ) (r : ℕ) (mis : List (ℕ × ℕ)) (s : State) (hm : Sub 0x3a13e200 hid) : Leaves hid ((s.elapse dt).view hid) (execLoopEvaluation dt r mis s) := by
  unfold execLoopEvaluation
  try dsimp only
  repeat' (first | exact leaves_fault | assumption | intro _ | with_reducible apply execLane_view | with_reducible apply execDebug_view | exact Sub.of (by assumption) (by decide) | with_reducible apply atRes_view | with_reducible refine leaves_next ?_ | simp (disch := first | exact hide_on (Sub.of (by assumption) (by decide)) | with_reducible rfl | exact Sub.of (by assumption) (by decide) | assumption) only [runItem_view, view_lit, apply_ite (State.view hid), ite_self] | with_reducible apply foldl_keep | with_reducible apply foldl_keep2 | split | with_reducible rfl)

theorem execLoopSignatureExchange_view (dt : ℕ) (sig : U64) (s : State) (hm : Sub 0x3013c208 hid) : Leaves hid ((s.elapse dt).view hid) (execLoopSignatureExchange dt sig s) := by
  unfold execLoopSignatureExchange
  try dsimp only
  repeat' (first | exact leaves_fault | assumption | intro _ | with_reducible apply execLane_view | with_reducible apply execDebug_view | exact Sub.of (by assumption) (by decide) | with_reducible apply atRes_view | with_reducible refine leaves_next ?_ | simp (disch := first | exact hide_on (Sub.of (by assumption) (by decide)) | with_reducible rfl | exact Sub.of (by assumption) (by decide) | assumption) only [resync_view, diverge_view, loopsBehind_view, view_lit, apply_ite (State.view hid), ite_self] | with_reducible apply foldl_keep | with_reducible apply foldl_keep2 | split | with_reducible rfl)

theorem execLoopBorrowTimeout_view (dt : ℕ) (s : State) (hm : Sub 0x100000 hid) : Leaves hid ((s.elapse dt).view hid) (execLoopBorrowTimeout dt s) := by
  unfold execLoopBorrowTimeout
  try dsimp only
  repeat' (first | exact leaves_fault | assumption | intro _ | with_reducible apply execLane_view | with_reducible apply execDebug_view | exact Sub.of (by assumption) (by decide) | with_reducible apply atRes_view | with_reducible refine leaves_next ?_ | simp (disch := first | exact hide_on (Sub.of (by assumption) (by decide)) | with_reducible rfl | exact Sub.of (by assumption) (by decide) | assumption) only [view_lit, apply_ite (State.view hid), ite_self] | with_reducible apply foldl_keep | with_reducible apply foldl_keep2 | split | with_reducible rfl)

theorem execInjectionEnd_view (dt : ℕ) (g : ℕ) (s : State) (hm : Sub 0x100200 hid) : Leaves hid ((s.elapse dt).view hid) (execInjectionEnd dt g s) := by
  unfold execInjectionEnd
  try dsimp only
  repeat' (first | exact leaves_fault | assumption | intro _ | with_reducible apply execLane_view | with_reducible apply execDebug_view | exact Sub.of (by assumption) (by decide) | with_reducible apply atRes_view | with_reducible refine leaves_next ?_ | simp (disch := first | exact hide_on (Sub.of (by assumption) (by decide)) | with_reducible rfl | exact Sub.of (by assumption) (by decide) | assumption) only [injStop_view, view_lit, apply_ite (State.view hid), ite_self] | with_reducible apply foldl_keep | with_reducible apply foldl_keep2 | split | with_reducible rfl)

theorem execMigrationStart_view (dt : ℕ) (k : ℕ) (tests : List (ℕ × U64)) (s : State) (hm : Sub 0x1a804248 hid) : Leaves hid ((s.elapse dt).view hid) (execMigrationStart dt k tests s) := by
  unfold execMigrationStart
  try dsimp only
  repeat' (first | exact leaves_fault | assumption | intro _ | with_reducible apply execLane_view | with_reducible apply execDebug_view | exact Sub.of (by assumption) (by decide) | with_reducible apply atRes_view | with_reducible refine leaves_next ?_ | simp (disch := first | exact hide_on (Sub.of (by assumption) (by decide)) | with_reducible rfl | exact Sub.of (by assumption) (by decide) | assumption) only [migBegin_view, modAnnex_view, migratePair_view, migrateConv_view, migrateStage_view, migrateOsc_view, view_lit, apply_ite (State.view hid), ite_self] | with_reducible apply foldl_keep | with_reducible apply foldl_keep2 | split | with_reducible rfl)

theorem execDramCopyComplete_view (dt : ℕ) (s : State) (hm : Sub 0x2000200 hid) : Leaves hid ((s.elapse dt).view hid) (execDramCopyComplete dt s) := by
  unfold execDramCopyComplete
  try dsimp only
  repeat' (first | exact leaves_fault | assumption | intro _ | with_reducible apply execLane_view | with_reducible apply execDebug_view | exact Sub.of (by assumption) (by decide) | with_reducible apply atRes_view | with_reducible refine leaves_next ?_ | simp (disch := first | exact hide_on (Sub.of (by assumption) (by decide)) | with_reducible rfl | exact Sub.of (by assumption) (by decide) | assumption) only [raise_view, setRes_view, exhaust_view, migBegin_view, freezePulse_view, migEnd_view, modAnnex_view, view_lit, apply_ite (State.view hid), ite_self] | with_reducible apply foldl_keep | with_reducible apply foldl_keep2 | split | with_reducible rfl)

theorem execFlashBlockCopyDone_view (dt : ℕ) (b : ℕ) (target : ℕ) (s : State) (hm : Sub 0x20200da08 hid) : Leaves hid ((s.elapse dt).view hid) (execFlashBlockCopyDone dt b target s) := by
  unfold execFlashBlockCopyDone
  try dsimp only
  repeat' (first | exact leaves_fault | assumption | intro _ | with_reducible apply execLane_view | with_reducible apply execDebug_view | exact Sub.of (by assumption) (by decide) | with_reducible apply atRes_view | with_reducible refine leaves_next ?_ | refine (takeBlock_view' (Sub.of (by assumption) (by decide)) (by assumption)).trans ?_ | simp (disch := first | exact hide_on (Sub.of (by assumption) (by decide)) | with_reducible rfl | exact Sub.of (by assumption) (by decide) | assumption) only [raise_view, migEnd_view, modAnnex_view, takeBlock_view, blockLost_view, view_lit, apply_ite (State.view hid), ite_self] | with_reducible apply foldl_keep | with_reducible apply foldl_keep2 | split | with_reducible rfl)

theorem execSpoilArrival_view (dt : ℕ) (k : ℕ) (r : ℕ) (epoch : ℕ) (s : State) (hm : Sub 0x2000000 hid) : Leaves hid ((s.elapse dt).view hid) (execSpoilArrival dt k r epoch s) := by
  unfold execSpoilArrival
  try dsimp only
  repeat' (first | exact leaves_fault | assumption | intro _ | with_reducible apply execLane_view | with_reducible apply execDebug_view | exact Sub.of (by assumption) (by decide) | with_reducible apply atRes_view | with_reducible refine leaves_next ?_ | simp (disch := first | exact hide_on (Sub.of (by assumption) (by decide)) | with_reducible rfl | exact Sub.of (by assumption) (by decide) | assumption) only [raise_view, modRes_view, modAnnex_view, view_lit, apply_ite (State.view hid), ite_self] | with_reducible apply foldl_keep | with_reducible apply foldl_keep2 | split | with_reducible rfl)

theorem execRecalRotationStart_view (dt : ℕ) (s : State) (hm : Sub 0xa000000 hid) : Leaves hid ((s.elapse dt).view hid) (execRecalRotationStart dt s) := by
  unfold execRecalRotationStart
  try dsimp only
  repeat' (first | exact leaves_fault | assumption | intro _ | with_reducible apply execLane_view | with_reducible apply execDebug_view | exact Sub.of (by assumption) (by decide) | with_reducible apply atRes_view | with_reducible refine leaves_next ?_ | simp (disch := first | exact hide_on (Sub.of (by assumption) (by decide)) | with_reducible rfl | exact Sub.of (by assumption) (by decide) | assumption) only [rotStart_view, modAnnex_view, view_lit, apply_ite (State.view hid), ite_self] | with_reducible apply foldl_keep | with_reducible apply foldl_keep2 | split | with_reducible rfl)

theorem execStandinCalibrationDone_view (dt : ℕ) (offsets : List ℕ) (gains : List ℕ) (s : State) (hm : Sub 0xa000200 hid) : Leaves hid ((s.elapse dt).view hid) (execStandinCalibrationDone dt offsets gains s) := by
  unfold execStandinCalibrationDone
  try dsimp only
  repeat' (first | exact leaves_fault | assumption | intro _ | with_reducible apply execLane_view | with_reducible apply execDebug_view | exact Sub.of (by assumption) (by decide) | with_reducible apply atRes_view | with_reducible refine leaves_next ?_ | refine (calEnd_view' (Sub.of (by assumption) (by decide)) (by assumption)).trans ?_ | simp (disch := first | exact hide_on (Sub.of (by assumption) (by decide)) | with_reducible rfl | exact Sub.of (by assumption) (by decide) | assumption) only [spareFails_view, calEnd_view, rotEnd_view, view_lit, apply_ite (State.view hid), ite_self] | with_reducible apply foldl_keep | with_reducible apply foldl_keep2 | split | with_reducible rfl)

theorem execShadowPassDone_view (dt : ℕ) (s : State) (hm : Sub 0xa000200 hid) : Leaves hid ((s.elapse dt).view hid) (execShadowPassDone dt s) := by
  unfold execShadowPassDone
  try dsimp only
  repeat' (first | exact leaves_fault | assumption | intro _ | with_reducible apply execLane_view | with_reducible apply execDebug_view | exact Sub.of (by assumption) (by decide) | with_reducible apply atRes_view | with_reducible refine leaves_next ?_ | simp (disch := first | exact hide_on (Sub.of (by assumption) (by decide)) | with_reducible rfl | exact Sub.of (by assumption) (by decide) | assumption) only [modRes_view, setRes_view, migBegin_view, migEnd_view, calStart_view, rotEnd_view, rotKeep_view, view_lit, apply_ite (State.view hid), ite_self] | with_reducible apply foldl_keep | with_reducible apply foldl_keep2 | split | with_reducible rfl)

theorem execDramEccError_view (dt : ℕ) (d : ℕ) (corrected : Bool) (named : Bool) (task : Option ℕ) (s : State) (hm : Sub 0x3a13c208 hid) : Leaves hid ((s.elapse dt).view hid) (execDramEccError dt d corrected named task s) := by
  unfold execDramEccError
  try dsimp only
  repeat' (first | exact leaves_fault | assumption | intro _ | with_reducible apply execLane_view | with_reducible apply execDebug_view | exact Sub.of (by assumption) (by decide) | with_reducible apply atRes_view | with_reducible refine leaves_next ?_ | simp (disch := first | exact hide_on (Sub.of (by assumption) (by decide)) | with_reducible rfl | exact Sub.of (by assumption) (by decide) | assumption) only [halt_view, raiseFlag_view, modRes_view, provenFault_view, limitCrossed_view, modAnnex_view, view_lit, apply_ite (State.view hid), ite_self] | with_reducible apply foldl_keep | with_reducible apply foldl_keep2 | split | with_reducible rfl)

theorem execFlashProgramFailure_view (dt : ℕ) (b : ℕ) (erase : Bool) (s : State) (hm : Sub 0x20200d208 hid) : Leaves hid ((s.elapse dt).view hid) (execFlashProgramFailure dt b erase s) := by
  unfold execFlashProgramFailure
  try dsimp only
  repeat' (first | exact leaves_fault | assumption | intro _ | with_reducible apply execLane_view | with_reducible apply execDebug_view | exact Sub.of (by assumption) (by decide) | with_reducible apply atRes_view | with_reducible refine leaves_next ?_ | simp (disch := first | exact hide_on (Sub.of (by assumption) (by decide)) | with_reducible rfl | exact Sub.of (by assumption) (by decide) | assumption) only [raise_view, askMigration_view, limitCrossed_view, modAnnex_view, blockLost_view, view_lit, apply_ite (State.view hid), ite_self] | with_reducible apply foldl_keep | with_reducible apply foldl_keep2 | split | with_reducible rfl)

theorem execOscillatorFault_view (dt : ℕ) (o : ℕ) (stopped : Bool) (err : ℕ) (spareErr : ℕ) (s : State) (hm : Sub 0x2004208 hid) : Leaves hid ((s.elapse dt).view hid) (execOscillatorFault dt o stopped err spareErr s) := by
  unfold execOscillatorFault
  try dsimp only
  repeat' (first | exact leaves_fault | assumption | intro _ | with_reducible apply execLane_view | with_reducible apply execDebug_view | exact Sub.of (by assumption) (by decide) | with_reducible apply atRes_view | with_reducible refine leaves_next ?_ | simp (disch := first | exact hide_on (Sub.of (by assumption) (by decide)) | with_reducible rfl | exact Sub.of (by assumption) (by decide) | assumption) only [halt_view, setRes_view, spareFails_view, limitCrossed_view, modAnnex_view, migrateOsc_view, view_lit, apply_ite (State.view hid), ite_self] | with_reducible apply foldl_keep | with_reducible apply foldl_keep2 | split | with_reducible rfl)

theorem execSpareSelfTest_view (dt : ℕ) (r : ℕ) (pass : Bool) (s : State) (hm : Sub 0xa000200 hid) : Leaves hid ((s.elapse dt).view hid) (execSpareSelfTest dt r pass s) := by
  unfold execSpareSelfTest
  try dsimp only
  repeat' (first | exact leaves_fault | assumption | intro _ | with_reducible apply execLane_view | with_reducible apply execDebug_view | exact Sub.of (by assumption) (by decide) | with_reducible apply atRes_view | with_reducible refine leaves_next ?_ | simp (disch := first | exact hide_on (Sub.of (by assumption) (by decide)) | with_reducible rfl | exact Sub.of (by assumption) (by decide) | assumption) only [spareFails_view, standinFault_view, modAnnex_view, view_lit, apply_ite (State.view hid), ite_self] | with_reducible apply foldl_keep | with_reducible apply foldl_keep2 | split | with_reducible rfl)

theorem execLedgerWrite_view (dt : ℕ) (s : State) (hm : Sub 0x2000000 hid) : Leaves hid ((s.elapse dt).view hid) (execLedgerWrite dt s) := by
  unfold execLedgerWrite
  try dsimp only
  repeat' (first | exact leaves_fault | assumption | intro _ | with_reducible apply execLane_view | with_reducible apply execDebug_view | exact Sub.of (by assumption) (by decide) | with_reducible apply atRes_view | with_reducible refine leaves_next ?_ | simp (disch := first | exact hide_on (Sub.of (by assumption) (by decide)) | with_reducible rfl | exact Sub.of (by assumption) (by decide) | assumption) only [modAnnex_view, view_lit, apply_ite (State.view hid), ite_self] | with_reducible apply foldl_keep | with_reducible apply foldl_keep2 | split | with_reducible rfl)

theorem execRegionFault_view (dt : ℕ) (a : Access) (s : State) (hm : Sub 0x7e33d000 hid) : Leaves hid ((s.elapse dt).view hid) (execRegionFault dt a s) := by
  unfold execRegionFault
  try dsimp only
  repeat' (first | exact leaves_fault | assumption | intro _ | with_reducible apply execLane_view | with_reducible apply execDebug_view | exact Sub.of (by assumption) (by decide) | with_reducible apply atRes_view | with_reducible refine leaves_next ?_ | simp (disch := first | exact hide_on (Sub.of (by assumption) (by decide)) | with_reducible rfl | exact Sub.of (by assumption) (by decide) | assumption) only [regionRefused_view, view_lit, apply_ite (State.view hid), ite_self] | with_reducible apply foldl_keep | with_reducible apply foldl_keep2 | split | with_reducible rfl)

theorem execColourViolation_view (dt : ℕ) (a : Access) (s : State) (hm : Sub 0x7e33d000 hid) : Leaves hid ((s.elapse dt).view hid) (execColourViolation dt a s) := by
  unfold execColourViolation
  try dsimp only
  repeat' (first | exact leaves_fault | assumption | intro _ | with_reducible apply execLane_view | with_reducible apply execDebug_view | exact Sub.of (by assumption) (by decide) | with_reducible apply atRes_view | with_reducible refine leaves_next ?_ | simp (disch := first | exact hide_on (Sub.of (by assumption) (by decide)) | with_reducible rfl | exact Sub.of (by assumption) (by decide) | assumption) only [raise_view, refuseAccess_view, view_lit, apply_ite (State.view hid), ite_self] | with_reducible apply foldl_keep | with_reducible apply foldl_keep2 | split | with_reducible rfl)

theorem execRegionOverlap_view (dt : ℕ) (ctx : ℕ) (regions : List ℕ) (parity : Bool) (a : Access) (s : State) (hm : Sub 0x7e33d000 hid) : Leaves hid ((s.elapse dt).view hid) (execRegionOverlap dt ctx regions parity a s) := by
  unfold execRegionOverlap
  try dsimp only
  repeat' (first | exact leaves_fault | assumption | intro _ | with_reducible apply execLane_view | with_reducible apply execDebug_view | exact Sub.of (by assumption) (by decide) | with_reducible apply atRes_view | with_reducible refine leaves_next ?_ | simp (disch := first | exact hide_on (Sub.of (by assumption) (by decide)) | with_reducible rfl | exact Sub.of (by assumption) (by decide) | assumption) only [raise_view, refuseAccess_view, regionEvent_view, view_lit, apply_ite (State.view hid), ite_self] | with_reducible apply foldl_keep | with_reducible apply foldl_keep2 | split | with_reducible rfl)

theorem execSealedAccess_view (dt : ℕ) (ctx : ℕ) (region : ℕ) (v : ℕ) (s : State) : Leaves hid ((s.elapse dt).view hid) (execSealedAccess dt ctx region v s) := by
  unfold execSealedAccess
  try dsimp only
  repeat' (first | exact leaves_fault | assumption | intro _ | with_reducible apply execLane_view | with_reducible apply execDebug_view | exact Sub.of (by assumption) (by decide) | with_reducible apply atRes_view | with_reducible refine leaves_next ?_ | simp (disch := first | exact hide_on (Sub.of (by assumption) (by decide)) | with_reducible rfl | exact Sub.of (by assumption) (by decide) | assumption) only [raiseMand_view, view_lit, apply_ite (State.view hid), ite_self] | with_reducible apply foldl_keep | with_reducible apply foldl_keep2 | split | with_reducible rfl)

theorem execArbitrationGrant_view (dt : ℕ) (waiting : ℕ) (moved : ℕ) (s : State) (hm : Sub 0x4000000 hid) : Leaves hid ((s.elapse dt).view hid) (execArbitrationGrant dt waiting moved s) := by
  unfold execArbitrationGrant
  try dsimp only
  repeat' (first | exact leaves_fault | assumption | intro _ | with_reducible apply execLane_view | with_reducible apply execDebug_view | exact Sub.of (by assumption) (by decide) | with_reducible apply atRes_view | with_reducible refine leaves_next ?_ | simp (disch := first | exact hide_on (Sub.of (by assumption) (by decide)) | with_reducible rfl | exact Sub.of (by assumption) (by decide) | assumption) only [moveBeats_view, view_lit, apply_ite (State.view hid), ite_self] | with_reducible apply foldl_keep | with_reducible apply foldl_keep2 | split | with_reducible rfl)

theorem execBudgetFrameStart_view (dt : ℕ) (moved : ℕ) (s : State) (hm : Sub 0xc000000 hid) : Leaves hid ((s.elapse dt).view hid) (execBudgetFrameStart dt moved s) := by
  unfold execBudgetFrameStart
  try dsimp only
  repeat' (first | exact leaves_fault | assumption | intro _ | with_reducible apply execLane_view | with_reducible apply execDebug_view | exact Sub.of (by assumption) (by decide) | with_reducible apply atRes_view | with_reducible refine leaves_next ?_ | simp (disch := first | exact hide_on (Sub.of (by assumption) (by decide)) | with_reducible rfl | exact Sub.of (by assumption) (by decide) | assumption) only [drainFifos_view, moveBeats_view, view_lit, apply_ite (State.view hid), ite_self] | with_reducible apply foldl_keep | with_reducible apply foldl_keep2 | split | with_reducible rfl)

theorem execBudgetCutoff_view (dt : ℕ) (q : ℕ) (s : State) (hm : Sub 0x4000000 hid) : Leaves hid ((s.elapse dt).view hid) (execBudgetCutoff dt q s) := by
  unfold execBudgetCutoff
  try dsimp only
  repeat' (first | exact leaves_fault | assumption | intro _ | with_reducible apply execLane_view | with_reducible apply execDebug_view | exact Sub.of (by assumption) (by decide) | with_reducible apply atRes_view | with_reducible refine leaves_next ?_ | simp (disch := first | exact hide_on (Sub.of (by assumption) (by decide)) | with_reducible rfl | exact Sub.of (by assumption) (by decide) | assumption) only [raise_view, view_lit, apply_ite (State.view hid), ite_self] | with_reducible apply foldl_keep | with_reducible apply foldl_keep2 | split | with_reducible rfl)

theorem execConverterResult_view (dt : ℕ) (c : ℕ) (x : ConvIn) (s : State) (hm : Sub 0x2a1b2200 hid) : Leaves hid ((s.elapse dt).view hid) (execConverterResult dt c x s) := by
  unfold execConverterResult
  try dsimp only
  repeat' (first | exact leaves_fault | assumption | intro _ | with_reducible apply execLane_view | with_reducible apply execDebug_view | exact Sub.of (by assumption) (by decide) | with_reducible apply atRes_view | with_reducible refine leaves_next ?_ | simp (disch := first | exact hide_on (Sub.of (by assumption) (by decide)) | with_reducible rfl | exact Sub.of (by assumption) (by decide) | assumption) only [convResult_view, view_lit, apply_ite (State.view hid), ite_self] | with_reducible apply foldl_keep | with_reducible apply foldl_keep2 | split | with_reducible rfl)

theorem execExcitationSwap_view (dt : ℕ) (n : ℕ) (x : ExcIn) (s : State) (hm : Sub 0x8000000 hid) : Leaves hid ((s.elapse dt).view hid) (execExcitationSwap dt n x s) := by
  unfold execExcitationSwap
  try dsimp only
  repeat' (first | exact leaves_fault | assumption | intro _ | with_reducible apply execLane_view | with_reducible apply execDebug_view | exact Sub.of (by assumption) (by decide) | with_reducible apply atRes_view | with_reducible refine leaves_next ?_ | simp (disch := first | exact hide_on (Sub.of (by assumption) (by decide)) | with_reducible rfl | exact Sub.of (by assumption) (by decide) | assumption) only [excSwap_view, view_lit, apply_ite (State.view hid), ite_self] | with_reducible apply foldl_keep | with_reducible apply foldl_keep2 | split | with_reducible rfl)

theorem execCmMeasurement_view (dt : ℕ) (n : ℕ) (mv : ℤ) (s : State) (hm : Sub 0x8000000 hid) : Leaves hid ((s.elapse dt).view hid) (execCmMeasurement dt n mv s) := by
  unfold execCmMeasurement
  try dsimp only
  repeat' (first | exact leaves_fault | assumption | intro _ | with_reducible apply execLane_view | with_reducible apply execDebug_view | exact Sub.of (by assumption) (by decide) | with_reducible apply atRes_view | with_reducible refine leaves_next ?_ | simp (disch := first | exact hide_on (Sub.of (by assumption) (by decide)) | with_reducible rfl | exact Sub.of (by assumption) (by decide) | assumption) only [raise_view, modAi_view, view_lit, apply_ite (State.view hid), ite_self] | with_reducible apply foldl_keep | with_reducible apply foldl_keep2 | split | with_reducible rfl)

theorem execDriftComparison_view (dt : ℕ) (n : ℕ) (s : State) (hm : Sub 0x8000000 hid) : Leaves hid ((s.elapse dt).view hid) (execDriftComparison dt n s) := by
  unfold execDriftComparison
  try dsimp only
  repeat' (first | exact leaves_fault | assumption | intro _ | with_reducible apply execLane_view | with_reducible apply execDebug_view | exact Sub.of (by assumption) (by decide) | with_reducible apply atRes_view | with_reducible refine leaves_next ?_ | simp (disch := first | exact hide_on (Sub.of (by assumption) (by decide)) | with_reducible rfl | exact Sub.of (by assumption) (by decide) | assumption) only [raise_view, modAi_view, view_lit, apply_ite (State.view hid), ite_self] | with_reducible apply foldl_keep | with_reducible apply foldl_keep2 | split | with_reducible rfl)

theorem execStageMeasurement_view (dt : ℕ) (st : ℕ) (m : StageIn) (s : State) (hm : Sub 0x10000000 hid) : Leaves hid ((s.elapse dt).view hid) (execStageMeasurement dt st m s) := by
  unfold execStageMeasurement
  try dsimp only
  repeat' (first | exact leaves_fault | assumption | intro _ | with_reducible apply execLane_view | with_reducible apply execDebug_view | exact Sub.of (by assumption) (by decide) | with_reducible apply atRes_view | with_reducible refine leaves_next ?_ | refine (supplySetpoint_view' (by assumption)).trans ?_ | simp (disch := first | exact hide_on (Sub.of (by assumption) (by decide)) | with_reducible rfl | exact Sub.of (by assumption) (by decide) | assumption) only [modAo_view, supplySetpoint_view, aoWatch_view, view_lit, apply_ite (State.view hid), ite_self] | with_reducible apply foldl_keep | with_reducible apply foldl_keep2 | split | with_reducible rfl)

theorem execAoDebounceExpiry_view (dt : ℕ) (st : ℕ) (s : State) (hm : Sub 0x1a004208 hid) : Leaves hid ((s.elapse dt).view hid) (execAoDebounceExpiry dt st s) := by
  unfold execAoDebounceExpiry
  try dsimp only
  repeat' (first | exact leaves_fault | assumption | intro _ | with_reducible apply execLane_view | with_reducible apply execDebug_view | exact Sub.of (by assumption) (by decide) | with_reducible apply atRes_view | with_reducible refine leaves_next ?_ | simp (disch := first | exact hide_on (Sub.of (by assumption) (by decide)) | with_reducible rfl | exact Sub.of (by assumption) (by decide) | assumption) only [aoChange_view, view_lit, apply_ite (State.view hid), ite_self] | with_reducible apply foldl_keep | with_reducible apply foldl_keep2 | split | with_reducible rfl)

theorem execStageSupplyFault_view (dt : ℕ) (st : ℕ) (s : State) (hm : Sub 0x1a004208 hid) : Leaves hid ((s.elapse dt).view hid) (execStageSupplyFault dt st s) := by
  unfold execStageSupplyFault
  try dsimp only
  repeat' (first | exact leaves_fault | assumption | intro _ | with_reducible apply execLane_view | with_reducible apply execDebug_view | exact Sub.of (by assumption) (by decide) | with_reducible apply atRes_view | with_reducible refine leaves_next ?_ | simp (disch := first | exact hide_on (Sub.of (by assumption) (by decide)) | with_reducible rfl | exact Sub.of (by assumption) (by decide) | assumption) only [raise_view, modAo_view, provenFault_view, view_lit, apply_ite (State.view hid), ite_self] | with_reducible apply foldl_keep | with_reducible apply foldl_keep2 | split | with_reducible rfl)

theorem execStageThermalLimit_view (dt : ℕ) (st : ℕ) (j : ℕ) (s : State) (hm : Sub 0x12000000 hid) : Leaves hid ((s.elapse dt).view hid) (execStageThermalLimit dt st j s) := by
  unfold execStageThermalLimit
  try dsimp only
  repeat' (first | exact leaves_fault | assumption | intro _ | with_reducible apply execLane_view | with_reducible apply execDebug_view | exact Sub.of (by assumption) (by decide) | with_reducible apply atRes_view | with_reducible refine leaves_next ?_ | simp (disch := first | exact hide_on (Sub.of (by assumption) (by decide)) | with_reducible rfl | exact Sub.of (by assumption) (by decide) | assumption) only [raise_view, modAo_view, limitCrossed_view, view_lit, apply_ite (State.view hid), ite_self] | with_reducible apply foldl_keep | with_reducible apply foldl_keep2 | split | with_reducible rfl)

theorem execHartPollDue_view (dt : ℕ) (m : ℕ) (s : State) (hm : Sub 0x10000000 hid) : Leaves hid ((s.elapse dt).view hid) (execHartPollDue dt m s) := by
  unfold execHartPollDue
  try dsimp only
  repeat' (first | exact leaves_fault | assumption | intro _ | with_reducible apply execLane_view | with_reducible apply execDebug_view | exact Sub.of (by assumption) (by decide) | with_reducible apply atRes_view | with_reducible refine leaves_next ?_ | simp (disch := first | exact hide_on (Sub.of (by assumption) (by decide)) | with_reducible rfl | exact Sub.of (by assumption) (by decide) | assumption) only [modModem_view, hartNext_view, view_lit, apply_ite (State.view hid), ite_self] | with_reducible apply foldl_keep | with_reducible apply foldl_keep2 | split | with_reducible rfl)

theorem execHartResponse_view (dt : ℕ) (m : ℕ) (x : HartIn) (s : State) (hm : Sub 0x10000200 hid) : Leaves hid ((s.elapse dt).view hid) (execHartResponse dt m x s) := by
  unfold execHartResponse
  try dsimp only
  repeat' (first | exact leaves_fault | assumption | intro _ | with_reducible apply execLane_view | with_reducible apply execDebug_view | exact Sub.of (by assumption) (by decide) | with_reducible apply atRes_view | with_reducible refine leaves_next ?_ | simp (disch := first | exact hide_on (Sub.of (by assumption) (by decide)) | with_reducible rfl | exact Sub.of (by assumption) (by decide) | assumption) only [modHartRec_view, hartDone_view, hartFail_view, hartIdentified_view, hartStatus_view, view_lit, apply_ite (State.view hid), ite_self] | with_reducible apply foldl_keep | with_reducible apply foldl_keep2 | split | with_reducible rfl)

theorem execHartResponseTimeout_view (dt : ℕ) (m : ℕ) (s : State) (hm : Sub 0x10000200 hid) : Leaves hid ((s.elapse dt).view hid) (execHartResponseTimeout dt m s) := by
  unfold execHartResponseTimeout
  try dsimp only
  repeat' (first | exact leaves_fault | assumption | intro _ | with_reducible apply execLane_view | with_reducible apply execDebug_view | exact Sub.of (by assumption) (by decide) | with_reducible apply atRes_view | with_reducible refine leaves_next ?_ | simp (disch := first | exact hide_on (Sub.of (by assumption) (by decide)) | with_reducible rfl | exact Sub.of (by assumption) (by decide) | assumption) only [hartFail_view, view_lit, apply_ite (State.view hid), ite_self] | with_reducible apply foldl_keep | with_reducible apply foldl_keep2 | split | with_reducible rfl)

theorem execHartBurstFrame_view (dt : ℕ) (m : ℕ) (x : HartIn) (s : State) (hm : Sub 0x10000000 hid) : Leaves hid ((s.elapse dt).view hid) (execHartBurstFrame dt m x s) := by
  unfold execHartBurstFrame
  try dsimp only
  repeat' (first | exact leaves_fault | assumption | intro _ | with_reducible apply execLane_view | with_reducible apply execDebug_view | exact Sub.of (by assumption) (by decide) | with_reducible apply atRes_view | with_reducible refine leaves_next ?_ | simp (disch := first | exact hide_on (Sub.of (by assumption) (by decide)) | with_reducible rfl | exact Sub.of (by assumption) (by decide) | assumption) only [modModem_view, hartAttempt_view, hartNext_view, modHartRec_view, hartStatus_view, view_lit, apply_ite (State.view hid), ite_self] | with_reducible apply foldl_keep | with_reducible apply foldl_keep2 | split | with_reducible rfl)

theorem execHartIdentifyRetry_view (dt : ℕ) (m : ℕ) (s : State) (hm : Sub 0x10000000 hid) : Leaves hid ((s.elapse dt).view hid) (execHartIdentifyRetry dt m s) := by
  unfold execHartIdentifyRetry
  try dsimp only
  repeat' (first | exact leaves_fault | assumption | intro _ | with_reducible apply execLane_view | with_reducible apply execDebug_view | exact Sub.of (by assumption) (by decide) | with_reducible apply atRes_view | with_reducible refine leaves_next ?_ | simp (disch := first | exact hide_on (Sub.of (by assumption) (by decide)) | with_reducible rfl | exact Sub.of (by assumption) (by decide) | assumption) only [hartIdentify_view, view_lit, apply_ite (State.view hid), ite_self] | with_reducible apply foldl_keep | with_reducible apply foldl_keep2 | split | with_reducible rfl)

theorem execDiEdgeConfirmed_view (dt : ℕ) (n : ℕ) (raw : Bool) (s : State) (hm : Sub 0x20232000 hid) : Leaves hid ((s.elapse dt).view hid) (execDiEdgeConfirmed dt n raw s) := by
  unfold execDiEdgeConfirmed
  try dsimp only
  repeat' (first | exact leaves_fault | assumption | intro _ | with_reducible apply execLane_view | with_reducible apply execDebug_view | exact Sub.of (by assumption) (by decide) | with_reducible apply atRes_view | with_reducible refine leaves_next ?_ | simp (disch := first | exact hide_on (Sub.of (by assumption) (by decide)) | with_reducible rfl | exact Sub.of (by assumption) (by decide) | assumption) only [inSample_view, view_lit, apply_ite (State.view hid), ite_self] | with_reducible apply foldl_keep | with_reducible apply foldl_keep2 | split | with_reducible rfl)

theorem execChatterSecondEnd_view (dt : ℕ) (s : State) (hm : Sub 0x20032000 hid) : Leaves hid ((s.elapse dt).view hid) (execChatterSecondEnd dt s) := by
  unfold execChatterSecondEnd
  try dsimp only
  repeat' (first | exact leaves_fault | assumption | intro _ | with_reducible apply execLane_view | with_reducible apply execDebug_view | exact Sub.of (by assumption) (by decide) | with_reducible apply atRes_view | with_reducible refine leaves_next ?_ | simp (disch := first | exact hide_on (Sub.of (by assumption) (by decide)) | with_reducible rfl | exact Sub.of (by assumption) (by decide) | assumption) only [modIn_view, inHealth_view, view_lit, apply_ite (State.view hid), ite_self] | with_reducible apply foldl_keep | with_reducible apply foldl_keep2 | split | with_reducible rfl)

theorem execWireBreakTimeout_view (dt : ℕ) (n : ℕ) (ua : ℕ) (s : State) (hm : Sub 0x20032000 hid) : Leaves hid ((s.elapse dt).view hid) (execWireBreakTimeout dt n ua s) := by
  unfold execWireBreakTimeout
  try dsimp only
  repeat' (first | exact leaves_fault | assumption | intro _ | with_reducible apply execLane_view | with_reducible apply execDebug_view | exact Sub.of (by assumption) (by decide) | with_reducible apply atRes_view | with_reducible refine leaves_next ?_ | simp (disch := first | exact hide_on (Sub.of (by assumption) (by decide)) | with_reducible rfl | exact Sub.of (by assumption) (by decide) | assumption) only [raise_view, modIn_view, inHealth_view, view_lit, apply_ite (State.view hid), ite_self] | with_reducible apply foldl_keep | with_reducible apply foldl_keep2 | split | with_reducible rfl)

theorem execSensorSupplyLost_view (dt : ℕ) (g : ℕ) (volt : ℕ) (s : State) (hm : Sub 0x20032000 hid) : Leaves hid ((s.elapse dt).view hid) (execSensorSupplyLost dt g volt s) := by
  unfold execSensorSupplyLost
  try dsimp only
  repeat' (first | exact leaves_fault | assumption | intro _ | with_reducible apply execLane_view | with_reducible apply execDebug_view | exact Sub.of (by assumption) (by decide) | with_reducible apply atRes_view | with_reducible refine leaves_next ?_ | simp (disch := first | exact hide_on (Sub.of (by assumption) (by decide)) | with_reducible rfl | exact Sub.of (by assumption) (by decide) | assumption) only [raise_view, setSupply_view, groupHealth_view, view_lit, apply_ite (State.view hid), ite_self] | with_reducible apply foldl_keep | with_reducible apply foldl_keep2 | split | with_reducible rfl)

theorem execSensorSupplyRecovered_view (dt : ℕ) (g : ℕ) (volt : ℕ) (s : State) (hm : Sub 0x20032000 hid) : Leaves hid ((s.elapse dt).view hid) (execSensorSupplyRecovered dt g volt s) := by
  unfold execSensorSupplyRecovered
  try dsimp only
  repeat' (first | exact leaves_fault | assumption | intro _ | with_reducible apply execLane_view | with_reducible apply execDebug_view | exact Sub.of (by assumption) (by decide) | with_reducible apply atRes_view | with_reducible refine leaves_next ?_ | simp (disch := first | exact hide_on (Sub.of (by assumption) (by decide)) | with_reducible rfl | exact Sub.of (by assumption) (by decide) | assumption) only [setSupply_view, groupHealth_view, view_lit, apply_ite (State.view hid), ite_self] | with_reducible apply foldl_keep | with_reducible apply foldl_keep2 | split | with_reducible rfl)

theorem execDoOvercurrent_view (dt : ℕ) (m : ℕ) (s : State) (hm : Sub 0x20000000 hid) : Leaves hid ((s.elapse dt).view hid) (execDoOvercurrent dt m s) := by
  unfold execDoOvercurrent
  try dsimp only
  repeat' (first | exact leaves_fault | assumption | intro _ | with_reducible apply execLane_view | with_reducible apply execDebug_view | exact Sub.of (by assumption) (by decide) | with_reducible apply atRes_view | with_reducible refine leaves_next ?_ | simp (disch := first | exact hide_on (Sub.of (by assumption) (by decide)) | with_reducible rfl | exact Sub.of (by assumption) (by decide) | assumption) only [doTrip_view, view_lit, apply_ite (State.view hid), ite_self] | with_reducible apply foldl_keep | with_reducible apply foldl_keep2 | split | with_reducible rfl)

theorem execDoThermalShutdown_view (dt : ℕ) (m : ℕ) (s : State) (hm : Sub 0x20000000 hid) : Leaves hid ((s.elapse dt).view hid) (execDoThermalShutdown dt m s) := by
  unfold execDoThermalShutdown
  try dsimp only
  repeat' (first | exact leaves_fault | assumption | intro _ | with_reducible apply execLane_view | with_reducible apply execDebug_view | exact Sub.of (by assumption) (by decide) | with_reducible apply atRes_view | with_reducible refine leaves_next ?_ | simp (disch := first | exact hide_on (Sub.of (by assumption) (by decide)) | with_reducible rfl | exact Sub.of (by assumption) (by decide) | assumption) only [doTrip_view, view_lit, apply_ite (State.view hid), ite_self] | with_reducible apply foldl_keep | with_reducible apply foldl_keep2 | split | with_reducible rfl)

theorem execDoRetry_view (dt : ℕ) (m : ℕ) (junction : ℕ) (s : State) (hm : Sub 0x20000000 hid) : Leaves hid ((s.elapse dt).view hid) (execDoRetry dt m junction s) := by
  unfold execDoRetry
  try dsimp only
  repeat' (first | exact leaves_fault | assumption | intro _ | with_reducible apply execLane_view | with_reducible apply execDebug_view | exact Sub.of (by assumption) (by decide) | with_reducible apply atRes_view | with_reducible refine leaves_next ?_ | simp (disch := first | exact hide_on (Sub.of (by assumption) (by decide)) | with_reducible rfl | exact Sub.of (by assumption) (by decide) | assumption) only [swRetry_view, view_lit, apply_ite (State.view hid), ite_self] | with_reducible apply foldl_keep | with_reducible apply foldl_keep2 | split | with_reducible rfl)

theorem execDoFaultFreeSecond_view (dt : ℕ) (m : ℕ) (s : State) (hm : Sub 0x20000000 hid) : Leaves hid ((s.elapse dt).view hid) (execDoFaultFreeSecond dt m s) := by
  unfold execDoFaultFreeSecond
  try dsimp only
  repeat' (first | exact leaves_fault | assumption | intro _ | with_reducible apply execLane_view | with_reducible apply execDebug_view | exact Sub.of (by assumption) (by decide) | with_reducible apply atRes_view | with_reducible refine leaves_next ?_ | simp (disch := first | exact hide_on (Sub.of (by assumption) (by decide)) | with_reducible rfl | exact Sub.of (by assumption) (by decide) | assumption) only [modSw_view, view_lit, apply_ite (State.view hid), ite_self] | with_reducible apply foldl_keep | with_reducible apply foldl_keep2 | split | with_reducible rfl)

theorem execDoReadbackMismatch_view (dt : ℕ) (m : ℕ) (level : Bool) (s : State) (hm : Sub 0x20000000 hid) : Leaves hid ((s.elapse dt).view hid) (execDoReadbackMismatch dt m level s) := by
  unfold execDoReadbackMismatch
  try dsimp only
  repeat' (first | exact leaves_fault | assumption | intro _ | with_reducible apply execLane_view | with_reducible apply execDebug_view | exact Sub.of (by assumption) (by decide) | with_reducible apply atRes_view | with_reducible refine leaves_next ?_ | simp (disch := first | exact hide_on (Sub.of (by assumption) (by decide)) | with_reducible rfl | exact Sub.of (by assumption) (by decide) | assumption) only [raise_view, modSw_view, view_lit, apply_ite (State.view hid), ite_self] | with_reducible apply foldl_keep | with_reducible apply foldl_keep2 | split | with_reducible rfl)

theorem execFieldSupplyLost_view (dt : ℕ) (k : ℕ) (volt : ℕ) (s : State) (hm : Sub 0x20000000 hid) : Leaves hid ((s.elapse dt).view hid) (execFieldSupplyLost dt k volt s) := by
  unfold execFieldSupplyLost
  try dsimp only
  repeat' (first | exact leaves_fault | assumption | intro _ | with_reducible apply execLane_view | with_reducible apply execDebug_view | exact Sub.of (by assumption) (by decide) | with_reducible apply atRes_view | with_reducible refine leaves_next ?_ | simp (disch := first | exact hide_on (Sub.of (by assumption) (by decide)) | with_reducible rfl | exact Sub.of (by assumption) (by decide) | assumption) only [raise_view, setSupply_view, view_lit, apply_ite (State.view hid), ite_self] | with_reducible apply foldl_keep | with_reducible apply foldl_keep2 | split | with_reducible rfl)

theorem execFieldSupplyRestored_view (dt : ℕ) (k : ℕ) (volt : ℕ) (s : State) (hm : Sub 0x20000000 hid) : Leaves hid ((s.elapse dt).view hid) (execFieldSupplyRestored dt k volt s) := by
  unfold execFieldSupplyRestored
  try dsimp only
  repeat' (first | exact leaves_fault | assumption | intro _ | with_reducible apply execLane_view | with_reducible apply execDebug_view | exact Sub.of (by assumption) (by decide) | with_reducible apply atRes_view | with_reducible refine leaves_next ?_ | simp (disch := first | exact hide_on (Sub.of (by assumption) (by decide)) | with_reducible rfl | exact Sub.of (by assumption) (by decide) | assumption) only [setSupply_view, view_lit, apply_ite (State.view hid), ite_self] | with_reducible apply foldl_keep | with_reducible apply foldl_keep2 | split | with_reducible rfl)

theorem execCallOutputFault_view (dt : ℕ) (c : ℕ) (cause : ℕ) (level : Bool) (s : State) (hm : Sub 0x20000000 hid) : Leaves hid ((s.elapse dt).view hid) (execCallOutputFault dt c cause level s) := by
  unfold execCallOutputFault
  try dsimp only
  repeat' (first | exact leaves_fault | assumption | intro _ | with_reducible apply execLane_view | with_reducible apply execDebug_view | exact Sub.of (by assumption) (by decide) | with_reducible apply atRes_view | with_reducible refine leaves_next ?_ | simp (disch := first | exact hide_on (Sub.of (by assumption) (by decide)) | with_reducible rfl | exact Sub.of (by assumption) (by decide) | assumption) only [raise_view, modSw_view, view_lit, apply_ite (State.view hid), ite_self] | with_reducible apply foldl_keep | with_reducible apply foldl_keep2 | split | with_reducible rfl)

theorem execCallRetry_view (dt : ℕ) (c : ℕ) (junction : ℕ) (s : State) (hm : Sub 0x20000000 hid) : Leaves hid ((s.elapse dt).view hid) (execCallRetry dt c junction s) := by
  unfold execCallRetry
  try dsimp only
  repeat' (first | exact leaves_fault | assumption | intro _ | with_reducible apply execLane_view | with_reducible apply execDebug_view | exact Sub.of (by assumption) (by decide) | with_reducible apply atRes_view | with_reducible refine leaves_next ?_ | simp (disch := first | exact hide_on (Sub.of (by assumption) (by decide)) | with_reducible rfl | exact Sub.of (by assumption) (by decide) | assumption) only [modSw_view, swRetry_view, view_lit, apply_ite (State.view hid), ite_self] | with_reducible apply foldl_keep | with_reducible apply foldl_keep2 | split | with_reducible rfl)

theorem execAckEdge_view (dt : ℕ) (k : ℕ) (s : State) (hm : Sub 0x20232000 hid) : Leaves hid ((s.elapse dt).view hid) (execAckEdge dt k s) := by
  unfold execAckEdge
  try dsimp only
  repeat' (first | exact leaves_fault | assumption | intro _ | with_reducible apply execLane_view | with_reducible apply execDebug_view | exact Sub.of (by assumption) (by decide) | with_reducible apply atRes_view | with_reducible refine leaves_next ?_ | simp (disch := first | exact hide_on (Sub.of (by assumption) (by decide)) | with_reducible rfl | exact Sub.of (by assumption) (by decide) | assumption) only [inSample_view, view_lit, apply_ite (State.view hid), ite_self] | with_reducible apply foldl_keep | with_reducible apply foldl_keep2 | split | with_reducible rfl)

theorem execPhaseEdge_view (dt : ℕ) (n : ℕ) (e : EdgeIn) (s : State) (hm : Sub 0x281b2000 hid) : Leaves hid ((s.elapse dt).view hid) (execPhaseEdge dt n e s) := by
  unfold execPhaseEdge
  try dsimp only
  repeat' (first | exact leaves_fault | assumption | intro _ | with_reducible apply execLane_view | with_reducible apply execDebug_view | exact Sub.of (by assumption) (by decide) | with_reducible apply atRes_view | with_reducible refine leaves_next ?_ | simp (disch := first | exact hide_on (Sub.of (by assumption) (by decide)) | with_reducible rfl | exact Sub.of (by assumption) (by decide) | assumption) only [modRef_view, phaseLines_view, view_lit, apply_ite (State.view hid), ite_self] | with_reducible apply foldl_keep | with_reducible apply foldl_keep2 | split | with_reducible rfl)

theorem execPhaseUnlockTimeout_view (dt : ℕ) (n : ℕ) (s : State) (hm : Sub 0x200b2000 hid) : Leaves hid ((s.elapse dt).view hid) (execPhaseUnlockTimeout dt n s) := by
  unfold execPhaseUnlockTimeout
  try dsimp only
  repeat' (first | exact leaves_fault | assumption | intro _ | with_reducible apply execLane_view | with_reducible apply execDebug_view | exact Sub.of (by assumption) (by decide) | with_reducible apply atRes_view | with_reducible refine leaves_next ?_ | simp (disch := first | exact hide_on (Sub.of (by assumption) (by decide)) | with_reducible rfl | exact Sub.of (by assumption) (by decide) | assumption) only [phaseUnlock_view, view_lit, apply_ite (State.view hid), ite_self] | with_reducible apply foldl_keep | with_reducible apply foldl_keep2 | split | with_reducible rfl)

theorem execCatalogueEntryFire_view (dt : ℕ) (k : ℕ) (s : State) (hm : Sub 0x281b2000 hid) : Leaves hid ((s.elapse dt).view hid) (execCatalogueEntryFire dt k s) := by
  unfold execCatalogueEntryFire
  try dsimp only
  repeat' (first | exact leaves_fault | assumption | intro _ | with_reducible apply execLane_view | with_reducible apply execDebug_view | exact Sub.of (by assumption) (by decide) | with_reducible apply atRes_view | with_reducible refine leaves_next ?_ | simp (disch := first | exact hide_on (Sub.of (by assumption) (by decide)) | with_reducible rfl | exact Sub.of (by assumption) (by decide) | assumption) only [phaseUpdate_view, view_lit, apply_ite (State.view hid), ite_self] | with_reducible apply foldl_keep | with_reducible apply foldl_keep2 | split | with_reducible rfl)

theorem execCatalogueDeferredFire_view (dt : ℕ) (s : State) (hm : Sub 0x281b2000 hid) : Leaves hid ((s.elapse dt).view hid) (execCatalogueDeferredFire dt s) := by
  unfold execCatalogueDeferredFire
  try dsimp only
  repeat' (first | exact leaves_fault | assumption | intro _ | with_reducible apply execLane_view | with_reducible apply execDebug_view | exact Sub.of (by assumption) (by decide) | with_reducible apply atRes_view | with_reducible refine leaves_next ?_ | simp (disch := first | exact hide_on (Sub.of (by assumption) (by decide)) | with_reducible rfl | exact Sub.of (by assumption) (by decide) | assumption) only [phaseUpdate_view, view_lit, apply_ite (State.view hid), ite_self] | with_reducible apply foldl_keep | with_reducible apply foldl_keep2 | split | with_reducible rfl)

theorem execPnLinkDown_view (dt : ℕ) (p : ℕ) (s : State) (hm : Sub 0x40000000 hid) : Leaves hid ((s.elapse dt).view hid) (execPnLinkDown dt p s) := by
  unfold execPnLinkDown
  try dsimp only
  repeat' (first | exact leaves_fault | assumption | intro _ | with_reducible apply execLane_view | with_reducible apply execDebug_view | exact Sub.of (by assumption) (by decide) | with_reducible apply atRes_view | with_reducible refine leaves_next ?_ | simp (disch := first | exact hide_on (Sub.of (by assumption) (by decide)) | with_reducible rfl | exact Sub.of (by assumption) (by decide) | assumption) only [raise_view, modPort_view, view_lit, apply_ite (State.view hid), ite_self] | with_reducible apply foldl_keep | with_reducible apply foldl_keep2 | split | with_reducible rfl)

theorem execPrpLanDown_view (dt : ℕ) (lan : ℕ) (s : State) (hm : Sub 0x40000000 hid) : Leaves hid ((s.elapse dt).view hid) (execPrpLanDown dt lan s) := by
  unfold execPrpLanDown
  try dsimp only
  repeat' (first | exact leaves_fault | assumption | intro _ | with_reducible apply execLane_view | with_reducible apply execDebug_view | exact Sub.of (by assumption) (by decide) | with_reducible apply atRes_view | with_reducible refine leaves_next ?_ | simp (disch := first | exact hide_on (Sub.of (by assumption) (by decide)) | with_reducible rfl | exact Sub.of (by assumption) (by decide) | assumption) only [raise_view, modPort_view, view_lit, apply_ite (State.view hid), ite_self] | with_reducible apply foldl_keep | with_reducible apply foldl_keep2 | split | with_reducible rfl)

theorem execServicePortLink_view (dt : ℕ) (up : Bool) (s : State) (hm : Sub 0x40000000 hid) : Leaves hid ((s.elapse dt).view hid) (execServicePortLink dt up s) := by
  unfold execServicePortLink
  try dsimp only
  repeat' (first | exact leaves_fault | assumption | intro _ | with_reducible apply execLane_view | with_reducible apply execDebug_view | exact Sub.of (by assumption) (by decide) | with_reducible apply atRes_view | with_reducible refine leaves_next ?_ | simp (disch := first | exact hide_on (Sub.of (by assumption) (by decide)) | with_reducible rfl | exact Sub.of (by assumption) (by decide) | assumption) only [raise_view, modPort_view, arpProbe_view, view_lit, apply_ite (State.view hid), ite_self] | with_reducible apply foldl_keep | with_reducible apply foldl_keep2 | split | with_reducible rfl)

theorem execArpAnnounce_view (dt : ℕ) (ifc : ℕ) (s : State) (hm : Sub 0x40000000 hid) : Leaves hid ((s.elapse dt).view hid) (execArpAnnounce dt ifc s) := by
  unfold execArpAnnounce
  try dsimp only
  repeat' (first | exact leaves_fault | assumption | intro _ | with_reducible apply execLane_view | with_reducible apply execDebug_view | exact Sub.of (by assumption) (by decide) | with_reducible apply atRes_view | with_reducible refine leaves_next ?_ | simp (disch := first | exact hide_on (Sub.of (by assumption) (by decide)) | with_reducible rfl | exact Sub.of (by assumption) (by decide) | assumption) only [emit_view, modPort_view, view_lit, apply_ite (State.view hid), ite_self] | with_reducible apply foldl_keep | with_reducible apply foldl_keep2 | split | with_reducible rfl)

theorem execDuplicateAddress_view (dt : ℕ) (ifc : ℕ) (mac : U64) (s : State) (hm : Sub 0x40000000 hid) : Leaves hid ((s.elapse dt).view hid) (execDuplicateAddress dt ifc mac s) := by
  unfold execDuplicateAddress
  try dsimp only
  repeat' (first | exact leaves_fault | assumption | intro _ | with_reducible apply execLane_view | with_reducible apply execDebug_view | exact Sub.of (by assumption) (by decide) | with_reducible apply atRes_view | with_reducible refine leaves_next ?_ | simp (disch := first | exact hide_on (Sub.of (by assumption) (by decide)) | with_reducible rfl | exact Sub.of (by assumption) (by decide) | assumption) only [raise_view, modPort_view, view_lit, apply_ite (State.view hid), ite_self] | with_reducible apply foldl_keep | with_reducible apply foldl_keep2 | split | with_reducible rfl)

theorem execAddressConflictClear_view (dt : ℕ) (ifc : ℕ) (s : State) (hm : Sub 0x40000000 hid) : Leaves hid ((s.elapse dt).view hid) (execAddressConflictClear dt ifc s) := by
  unfold execAddressConflictClear
  try dsimp only
  repeat' (first | exact leaves_fault | assumption | intro _ | with_reducible apply execLane_view | with_reducible apply execDebug_view | exact Sub.of (by assumption) (by decide) | with_reducible apply atRes_view | with_reducible refine leaves_next ?_ | simp (disch := first | exact hide_on (Sub.of (by assumption) (by decide)) | with_reducible rfl | exact Sub.of (by assumption) (by decide) | assumption) only [modPort_view, view_lit, apply_ite (State.view hid), ite_self] | with_reducible apply foldl_keep | with_reducible apply foldl_keep2 | split | with_reducible rfl)

theorem execInputFrame_view (dt : ℕ) (src : U32) (lan : ℕ) (dup : Bool) (b : List Byte) (s : State) (hm : Sub 0x40032000 hid) : Leaves hid ((s.elapse dt).view hid) (execInputFrame dt src lan dup b s) := by
  unfold execInputFrame
  try dsimp only
  repeat' (first | exact leaves_fault | assumption | intro _ | with_reducible apply execLane_view | with_reducible apply execDebug_view | exact Sub.of (by assumption) (by decide) | with_reducible apply atRes_view | with_reducible refine leaves_next ?_ | simp (disch := first | exact hide_on (Sub.of (by assumption) (by decide)) | with_reducible rfl | exact Sub.of (by assumption) (by decide) | assumption) only [raise_view, modPort_view, modStation_view, stPoints_view, view_lit, apply_ite (State.view hid), ite_self] | with_reducible apply foldl_keep | with_reducible apply foldl_keep2 | split | with_reducible rfl)

theorem execStationAnswer_view (dt : ℕ) (src : U32) (b : List Byte) (s : State) (hm : Sub 0x40032000 hid) : Leaves hid ((s.elapse dt).view hid) (execStationAnswer dt src b s) := by
  unfold execStationAnswer
  try dsimp only
  repeat' (first | exact leaves_fault | assumption | intro _ | with_reducible apply execLane_view | with_reducible apply execDebug_view | exact Sub.of (by assumption) (by decide) | with_reducible apply atRes_view | with_reducible refine leaves_next ?_ | simp (disch := first | exact hide_on (Sub.of (by assumption) (by decide)) | with_reducible rfl | exact Sub.of (by assumption) (by decide) | assumption) only [plantSend_view, modStation_view, stTell_view, view_lit, apply_ite (State.view hid), ite_self] | with_reducible apply foldl_keep | with_reducible apply foldl_keep2 | split | with_reducible rfl)

theorem execAccessionRetry_view (dt : ℕ) (k : ℕ) (s : State) (hm : Sub 0x40032000 hid) : Leaves hid ((s.elapse dt).view hid) (execAccessionRetry dt k s) := by
  unfold execAccessionRetry
  try dsimp only
  repeat' (first | exact leaves_fault | assumption | intro _ | with_reducible apply execLane_view | with_reducible apply execDebug_view | exact Sub.of (by assumption) (by decide) | with_reducible apply atRes_view | with_reducible refine leaves_next ?_ | simp (disch := first | exact hide_on (Sub.of (by assumption) (by decide)) | with_reducible rfl | exact Sub.of (by assumption) (by decide) | assumption) only [stAsk_view, view_lit, apply_ite (State.view hid), ite_self] | with_reducible apply foldl_keep | with_reducible apply foldl_keep2 | split | with_reducible rfl)

theorem execStationTimeout_view (dt : ℕ) (k : ℕ) (s : State) (hm : Sub 0x40032000 hid) : Leaves hid ((s.elapse dt).view hid) (execStationTimeout dt k s) := by
  unfold execStationTimeout
  try dsimp only
  repeat' (first | exact leaves_fault | assumption | intro _ | with_reducible apply execLane_view | with_reducible apply execDebug_view | exact Sub.of (by assumption) (by decide) | with_reducible apply atRes_view | with_reducible refine leaves_next ?_ | simp (disch := first | exact hide_on (Sub.of (by assumption) (by decide)) | with_reducible rfl | exact Sub.of (by assumption) (by decide) | assumption) only [stTell_view, stAsk_view, view_lit, apply_ite (State.view hid), ite_self] | with_reducible apply foldl_keep | with_reducible apply foldl_keep2 | split | with_reducible rfl)

theorem execPtpSync_view (dt : ℕ) (p : ℕ) (offset : ℤ) (s : State) (hm : Sub 0x4 hid) : Leaves hid ((s.elapse dt).view hid) (execPtpSync dt p offset s) := by
  unfold execPtpSync
  try dsimp only
  repeat' (first | exact leaves_fault | assumption | intro _ | with_reducible apply execLane_view | with_reducible apply execDebug_view | exact Sub.of (by assumption) (by decide) | with_reducible apply atRes_view | with_reducible refine leaves_next ?_ | simp (disch := first | exact hide_on (Sub.of (by assumption) (by decide)) | with_reducible rfl | exact Sub.of (by assumption) (by decide) | assumption) only [modClk_view, servoSync_view, view_lit, apply_ite (State.view hid), ite_self] | with_reducible apply foldl_keep | with_reducible apply foldl_keep2 | split | with_reducible rfl)

theorem execPtpAnnounce_view (dt : ℕ) (p : ℕ) (a : AnnIn) (s : State) (hm : Sub 0x4 hid) : Leaves hid ((s.elapse dt).view hid) (execPtpAnnounce dt p a s) := by
  unfold execPtpAnnounce
  try dsimp only
  repeat' (first | exact leaves_fault | assumption | intro _ | with_reducible apply execLane_view | with_reducible apply execDebug_view | exact Sub.of (by assumption) (by decide) | with_reducible apply atRes_view | with_reducible refine leaves_next ?_ | simp (disch := first | exact hide_on (Sub.of (by assumption) (by decide)) | with_reducible rfl | exact Sub.of (by assumption) (by decide) | assumption) only [modClk_view, choosePort_view, view_lit, apply_ite (State.view hid), ite_self] | with_reducible apply foldl_keep | with_reducible apply foldl_keep2 | split | with_reducible rfl)

theorem execPtpTimeout_view (dt : ℕ) (p : ℕ) (s : State) (hm : Sub 0x4 hid) : Leaves hid ((s.elapse dt).view hid) (execPtpTimeout dt p s) := by
  unfold execPtpTimeout
  try dsimp only
  repeat' (first | exact leaves_fault | assumption | intro _ | with_reducible apply execLane_view | with_reducible apply execDebug_view | exact Sub.of (by assumption) (by decide) | with_reducible apply atRes_view | with_reducible refine leaves_next ?_ | simp (disch := first | exact hide_on (Sub.of (by assumption) (by decide)) | with_reducible rfl | exact Sub.of (by assumption) (by decide) | assumption) only [modClk_view, ptpLost_view, choosePort_view, view_lit, apply_ite (State.view hid), ite_self] | with_reducible apply foldl_keep | with_reducible apply foldl_keep2 | split | with_reducible rfl)

theorem execTimeCorrectionApply_view (dt : ℕ) (s : State) (hm : Sub 0x283b2204 hid) : Leaves hid ((s.elapse dt).view hid) (execTimeCorrectionApply dt s) := by
  unfold execTimeCorrectionApply
  try dsimp only
  repeat' (first | exact leaves_fault | assumption | intro _ | with_reducible apply execLane_view | with_reducible apply execDebug_view | exact Sub.of (by assumption) (by decide) | with_reducible apply atRes_view | with_reducible refine leaves_next ?_ | simp (disch := first | exact hide_on (Sub.of (by assumption) (by decide)) | with_reducible rfl | exact Sub.of (by assumption) (by decide) | assumption) only [applyCorrection_view, view_lit, apply_ite (State.view hid), ite_self] | with_reducible apply foldl_keep | with_reducible apply foldl_keep2 | split | with_reducible rfl)

theorem execSlewEnd_view (dt : ℕ) (s : State) (hm : Sub 0x4 hid) : Leaves hid ((s.elapse dt).view hid) (execSlewEnd dt s) := by
  unfold execSlewEnd
  try dsimp only
  repeat' (first | exact leaves_fault | assumption | intro _ | with_reducible apply execLane_view | with_reducible apply execDebug_view | exact Sub.of (by assumption) (by decide) | with_reducible apply atRes_view | with_reducible refine leaves_next ?_ | simp (disch := first | exact hide_on (Sub.of (by assumption) (by decide)) | with_reducible rfl | exact Sub.of (by assumption) (by decide) | assumption) only [modClk_view, view_lit, apply_ite (State.view hid), ite_self] | with_reducible apply foldl_keep | with_reducible apply foldl_keep2 | split | with_reducible rfl)

theorem execCanFrameReceived_view (dt : ℕ) (c : ℕ) (id : ℕ) (data : List Byte) (s : State) (hm : Sub 0x80000000 hid) : Leaves hid ((s.elapse dt).view hid) (execCanFrameReceived dt c id data s) := by
  unfold execCanFrameReceived
  try dsimp only
  repeat' (first | exact leaves_fault | assumption | intro _ | with_reducible apply execLane_view | with_reducible apply execDebug_view | exact Sub.of (by assumption) (by decide) | with_reducible apply atRes_view | with_reducible refine leaves_next ?_ | simp (disch := first | exact hide_on (Sub.of (by assumption) (by decide)) | with_reducible rfl | exact Sub.of (by assumption) (by decide) | assumption) only [canReceive_view, view_lit, apply_ite (State.view hid), ite_self] | with_reducible apply foldl_keep | with_reducible apply foldl_keep2 | split | with_reducible rfl)

theorem execCanFrameSent_view (dt : ℕ) (c : ℕ) (b : ℕ) (sof : ℕ) (s : State) (hm : Sub 0x80000200 hid) : Leaves hid ((s.elapse dt).view hid) (execCanFrameSent dt c b sof s) := by
  unfold execCanFrameSent
  try dsimp only
  repeat' (first | exact leaves_fault | assumption | intro _ | with_reducible apply execLane_view | with_reducible apply execDebug_view | exact Sub.of (by assumption) (by decide) | with_reducible apply atRes_view | with_reducible refine leaves_next ?_ | simp (disch := first | exact hide_on (Sub.of (by assumption) (by decide)) | with_reducible rfl | exact Sub.of (by assumption) (by decide) | assumption) only [emit_view, modCan_view, canDrop_view, view_lit, apply_ite (State.view hid), ite_self] | with_reducible apply foldl_keep | with_reducible apply foldl_keep2 | split | with_reducible rfl)

theorem execCanBusError_view (dt : ℕ) (c : ℕ) (tec : ℕ) (rec_ : ℕ) (code : ℕ) (s : State) (hm : Sub 0x80000200 hid) : Leaves hid ((s.elapse dt).view hid) (execCanBusError dt c tec rec_ code s) := by
  unfold execCanBusError
  try dsimp only
  repeat' (first | exact leaves_fault | assumption | intro _ | with_reducible apply execLane_view | with_reducible apply execDebug_view | exact Sub.of (by assumption) (by decide) | with_reducible apply atRes_view | with_reducible refine leaves_next ?_ | simp (disch := first | exact hide_on (Sub.of (by assumption) (by decide)) | with_reducible rfl | exact Sub.of (by assumption) (by decide) | assumption) only [raise_view, modCan_view, canBusOff_view, view_lit, apply_ite (State.view hid), ite_self] | with_reducible apply foldl_keep | with_reducible apply foldl_keep2 | split | with_reducible rfl)

theorem execCanRecoveryDone_view (dt : ℕ) (c : ℕ) (s : State) (hm : Sub 0x80000000 hid) : Leaves hid ((s.elapse dt).view hid) (execCanRecoveryDone dt c s) := by
  unfold execCanRecoveryDone
  try dsimp only
  repeat' (first | exact leaves_fault | assumption | intro _ | with_reducible apply execLane_view | with_reducible apply execDebug_view | exact Sub.of (by assumption) (by decide) | with_reducible apply atRes_view | with_reducible refine leaves_next ?_ | simp (disch := first | exact hide_on (Sub.of (by assumption) (by decide)) | with_reducible rfl | exact Sub.of (by assumption) (by decide) | assumption) only [raise_view, modCan_view, view_lit, apply_ite (State.view hid), ite_self] | with_reducible apply foldl_keep | with_reducible apply foldl_keep2 | split | with_reducible rfl)

theorem execCanTxTimeout_view (dt : ℕ) (c : ℕ) (b : ℕ) (s : State) (hm : Sub 0x80000200 hid) : Leaves hid ((s.elapse dt).view hid) (execCanTxTimeout dt c b s) := by
  unfold execCanTxTimeout
  try dsimp only
  repeat' (first | exact leaves_fault | assumption | intro _ | with_reducible apply execLane_view | with_reducible apply execDebug_view | exact Sub.of (by assumption) (by decide) | with_reducible apply atRes_view | with_reducible refine leaves_next ?_ | simp (disch := first | exact hide_on (Sub.of (by assumption) (by decide)) | with_reducible rfl | exact Sub.of (by assumption) (by decide) | assumption) only [raise_view, modCan_view, canDrop_view, view_lit, apply_ite (State.view hid), ite_self] | with_reducible apply foldl_keep | with_reducible apply foldl_keep2 | split | with_reducible rfl)

theorem execPanelFrame_view (dt : ℕ) (s : State) (hm : Sub 0x100000200 hid) : Leaves hid ((s.elapse dt).view hid) (execPanelFrame dt s) := by
  unfold execPanelFrame
  try dsimp only
  repeat' (first | exact leaves_fault | assumption | intro _ | with_reducible apply execLane_view | with_reducible apply execDebug_view | exact Sub.of (by assumption) (by decide) | with_reducible apply atRes_view | with_reducible refine leaves_next ?_ | simp (disch := first | exact hide_on (Sub.of (by assumption) (by decide)) | with_reducible rfl | exact Sub.of (by assumption) (by decide) | assumption) only [panelFrame_view, view_lit, apply_ite (State.view hid), ite_self] | with_reducible apply foldl_keep | with_reducible apply foldl_keep2 | split | with_reducible rfl)

theorem execPanelUpdateEnd_view (dt : ℕ) (r : ℕ) (s : State) (hm : Sub 0x100000200 hid) : Leaves hid ((s.elapse dt).view hid) (execPanelUpdateEnd dt r s) := by
  unfold execPanelUpdateEnd
  try dsimp only
  repeat' (first | exact leaves_fault | assumption | intro _ | with_reducible apply execLane_view | with_reducible apply execDebug_view | exact Sub.of (by assumption) (by decide) | with_reducible apply atRes_view | with_reducible refine leaves_next ?_ | simp (disch := first | exact hide_on (Sub.of (by assumption) (by decide)) | with_reducible rfl | exact Sub.of (by assumption) (by decide) | assumption) only [panelFrame_view, view_lit, apply_ite (State.view hid), ite_self] | with_reducible apply foldl_keep | with_reducible apply foldl_keep2 | split | with_reducible rfl)

theorem execPanelTemperatureRead_view (dt : ℕ) (s : State) (hm : Sub 0x100000000 hid) : Leaves hid ((s.elapse dt).view hid) (execPanelTemperatureRead dt s) := by
  unfold execPanelTemperatureRead
  try dsimp only
  repeat' (first | exact leaves_fault | assumption | intro _ | with_reducible apply execLane_view | with_reducible apply execDebug_view | exact Sub.of (by assumption) (by decide) | with_reducible apply atRes_view | with_reducible refine leaves_next ?_ | simp (disch := first | exact hide_on (Sub.of (by assumption) (by decide)) | with_reducible rfl | exact Sub.of (by assumption) (by decide) | assumption) only [panelTemp_view, view_lit, apply_ite (State.view hid), ite_self] | with_reducible apply foldl_keep | with_reducible apply foldl_keep2 | split | with_reducible rfl)

theorem execBlinkHalf_view (dt : ℕ) (s : State) (hm : Sub 0x100000200 hid) : Leaves hid ((s.elapse dt).view hid) (execBlinkHalf dt s) := by
  unfold execBlinkHalf
  try dsimp only
  repeat' (first | exact leaves_fault | assumption | intro _ | with_reducible apply execLane_view | with_reducible apply execDebug_view | exact Sub.of (by assumption) (by decide) | with_reducible apply atRes_view | with_reducible refine leaves_next ?_ | simp (disch := first | exact hide_on (Sub.of (by assumption) (by decide)) | with_reducible rfl | exact Sub.of (by assumption) (by decide) | assumption) only [panelFrame_view, view_lit, apply_ite (State.view hid), ite_self] | with_reducible apply foldl_keep | with_reducible apply foldl_keep2 | split | with_reducible rfl)

theorem execPanelRailFault_view (dt : ℕ) (k : ℕ) (v : ℕ) (s : State) (hm : Sub 0x100000000 hid) : Leaves hid ((s.elapse dt).view hid) (execPanelRailFault dt k v s) :=
  by
  unfold execPanelRailFault
  extract_lets s0 s1
  have h1 : s1.view hid = s0.view hid := modPnl_view _ _ (Sub.of hm (by decide))
  split
  · exact leaves_next rfl
  · split
    · exact leaves_next rfl
    · split
      rename_i heq
      exact leaves_next ((raise_view _ _ _).trans ((panelAbandon_view' (Sub.of hm (by decide)) heq).trans h1))

theorem execPanelRailGood_view (dt : ℕ) (k : ℕ) (v : ℕ) (s : State) (hm : Sub 0x100000000 hid) : Leaves hid ((s.elapse dt).view hid) (execPanelRailGood dt k v s) := by
  unfold execPanelRailGood
  try dsimp only
  repeat' (first | exact leaves_fault | assumption | intro _ | with_reducible apply execLane_view | with_reducible apply execDebug_view | exact Sub.of (by assumption) (by decide) | with_reducible apply atRes_view | with_reducible refine leaves_next ?_ | simp (disch := first | exact hide_on (Sub.of (by assumption) (by decide)) | with_reducible rfl | exact Sub.of (by assumption) (by decide) | assumption) only [modPnl_view, view_lit, apply_ite (State.view hid), ite_self] | with_reducible apply foldl_keep | with_reducible apply foldl_keep2 | split | with_reducible rfl)

theorem execArchiveFlashWrite_view (dt : ℕ) (n : ℕ) (s : State) (hm : Sub 0x1000 hid) : Leaves hid ((s.elapse dt).view hid) (execArchiveFlashWrite dt n s) := by
  unfold execArchiveFlashWrite
  try dsimp only
  repeat' (first | exact leaves_fault | assumption | intro _ | with_reducible apply execLane_view | with_reducible apply execDebug_view | exact Sub.of (by assumption) (by decide) | with_reducible apply atRes_view | with_reducible refine leaves_next ?_ | simp (disch := first | exact hide_on (Sub.of (by assumption) (by decide)) | with_reducible rfl | exact Sub.of (by assumption) (by decide) | assumption) only [archUnhold_view, archTellLost_view, archFlush_view, view_lit, apply_ite (State.view hid), ite_self] | with_reducible apply foldl_keep | with_reducible apply foldl_keep2 | split | with_reducible rfl)

theorem execTrendSample_view (dt : ℕ) (c : ℕ) (s : State) (hm : Sub 0x800 hid) : Leaves hid ((s.elapse dt).view hid) (execTrendSample dt c s) := by
  unfold execTrendSample
  try dsimp only
  repeat' (first | exact leaves_fault | assumption | intro _ | with_reducible apply execLane_view | with_reducible apply execDebug_view | exact Sub.of (by assumption) (by decide) | with_reducible apply atRes_view | with_reducible refine leaves_next ?_ | simp (disch := first | exact hide_on (Sub.of (by assumption) (by decide)) | with_reducible rfl | exact Sub.of (by assumption) (by decide) | assumption) only [trendSample_view, view_lit, apply_ite (State.view hid), ite_self] | with_reducible apply foldl_keep | with_reducible apply foldl_keep2 | split | with_reducible rfl)

theorem execIoBusFrameBoundary_view (dt : ℕ) (rb : ℕ) (s : State) (hm : Sub 0x7fffffeec hid) : Leaves hid ((s.elapse dt).view hid) (execIoBusFrameBoundary dt rb s) := by
  unfold execIoBusFrameBoundary
  try dsimp only
  repeat' (first | exact leaves_fault | assumption | intro _ | with_reducible apply execLane_view | with_reducible apply execDebug_view | exact Sub.of (by assumption) (by decide) | with_reducible apply atRes_view | with_reducible refine leaves_next ?_ | simp (disch := first | exact hide_on (Sub.of (by assumption) (by decide)) | with_reducible rfl | exact Sub.of (by assumption) (by decide) | assumption) only [frameBoundary_view, view_lit, apply_ite (State.view hid), ite_self] | with_reducible apply foldl_keep | with_reducible apply foldl_keep2 | split | with_reducible rfl)

theorem execPnLinkUp_view (dt : ℕ) (p : ℕ) (speed : ℕ) (fibre : Bool) (s : State) (hm : Sub 0x40000000 hid) : Leaves hid ((s.elapse dt).view hid) (execPnLinkUp dt p speed fibre s) := by
  unfold execPnLinkUp
  try dsimp only
  repeat' (first | exact leaves_fault | assumption | intro _ | with_reducible apply execLane_view | with_reducible apply execDebug_view | exact Sub.of (by assumption) (by decide) | with_reducible apply atRes_view | with_reducible refine leaves_next ?_ | simp (disch := first | exact hide_on (Sub.of (by assumption) (by decide)) | with_reducible rfl | exact Sub.of (by assumption) (by decide) | assumption) only [modPort_view, arpProbe_view, view_lit, apply_ite (State.view hid), ite_self] | with_reducible apply foldl_keep | with_reducible apply foldl_keep2 | split | with_reducible rfl)

theorem execFeedRestored_view (dt : ℕ) (feed : ℕ) (s : State) (hm : Sub 0x400000000 hid) : Leaves hid ((s.elapse dt).view hid) (execFeedRestored dt feed s) := by
  unfold execFeedRestored
  try dsimp only
  repeat' (first | exact leaves_fault | assumption | intro _ | with_reducible apply execLane_view | with_reducible apply execDebug_view | exact Sub.of (by assumption) (by decide) | with_reducible apply atRes_view | with_reducible refine leaves_next ?_ | simp (disch := first | exact hide_on (Sub.of (by assumption) (by decide)) | with_reducible rfl | exact Sub.of (by assumption) (by decide) | assumption) only [modSup_view, view_lit, apply_ite (State.view hid), ite_self] | with_reducible apply foldl_keep | with_reducible apply foldl_keep2 | split | with_reducible rfl)

theorem execHoldupBankCharged_view (dt : ℕ) (s : State) (hm : Sub 0x400000000 hid) : Leaves hid ((s.elapse dt).view hid) (execHoldupBankCharged dt s) := by
  unfold execHoldupBankCharged
  try dsimp only
  repeat' (first | exact leaves_fault | assumption | intro _ | with_reducible apply execLane_view | with_reducible apply execDebug_view | exact Sub.of (by assumption) (by decide) | with_reducible apply atRes_view | with_reducible refine leaves_next ?_ | simp (disch := first | exact hide_on (Sub.of (by assumption) (by decide)) | with_reducible rfl | exact Sub.of (by assumption) (by decide) | assumption) only [modSup_view, view_lit, apply_ite (State.view hid), ite_self] | with_reducible apply foldl_keep | with_reducible apply foldl_keep2 | split | with_reducible rfl)

theorem execCuratorDiagnosticUpdate_view (dt : ℕ) (d : DiagIn) (s : State) (hm : Sub 0x400032000 hid) : Leaves hid ((s.elapse dt).view hid) (execCuratorDiagnosticUpdate dt d s) := by
  unfold execCuratorDiagnosticUpdate
  try dsimp only
  repeat' (first | exact leaves_fault | assumption | intro _ | with_reducible apply execLane_view | with_reducible apply execDebug_view | exact Sub.of (by assumption) (by decide) | with_reducible apply atRes_view | with_reducible refine leaves_next ?_ | simp (disch := first | exact hide_on (Sub.of (by assumption) (by decide)) | with_reducible rfl | exact Sub.of (by assumption) (by decide) | assumption) only [modSup_view, diagPoints_view, view_lit, apply_ite (State.view hid), ite_self] | with_reducible apply foldl_keep | with_reducible apply foldl_keep2 | split | with_reducible rfl)

theorem execTakebackRetry_view (dt : ℕ) (s : State) (hm : Sub 0x4008 hid) : Leaves hid ((s.elapse dt).view hid) (execTakebackRetry dt s) := by
  unfold execTakebackRetry
  try dsimp only
  repeat' (first | exact leaves_fault | assumption | intro _ | with_reducible apply execLane_view | with_reducible apply execDebug_view | exact Sub.of (by assumption) (by decide) | with_reducible apply atRes_view | with_reducible refine leaves_next ?_ | simp (disch := first | exact hide_on (Sub.of (by assumption) (by decide)) | with_reducible rfl | exact Sub.of (by assumption) (by decide) | assumption) only [takeback_view, view_lit, apply_ite (State.view hid), ite_self] | with_reducible apply foldl_keep | with_reducible apply foldl_keep2 | split | with_reducible rfl)

theorem execDramCeWindowRestart_view (dt : ℕ) (s : State) (hm : Sub 0x2000000 hid) : Leaves hid ((s.elapse dt).view hid) (execDramCeWindowRestart dt s) := by
  unfold execDramCeWindowRestart
  try dsimp only
  repeat' (first | exact leaves_fault | assumption | intro _ | with_reducible apply execLane_view | with_reducible apply execDebug_view | exact Sub.of (by assumption) (by decide) | with_reducible apply atRes_view | with_reducible refine leaves_next ?_ | simp (disch := first | exact hide_on (Sub.of (by assumption) (by decide)) | with_reducible rfl | exact Sub.of (by assumption) (by decide) | assumption) only [modAnnex_view, view_lit, apply_ite (State.view hid), ite_self] | with_reducible apply foldl_keep | with_reducible apply foldl_keep2 | split | with_reducible rfl)

theorem execStageHotHour_view (dt : ℕ) (st : ℕ) (s : State) (hm : Sub 0x2000000 hid) : Leaves hid ((s.elapse dt).view hid) (execStageHotHour dt st s) := by
  unfold execStageHotHour
  try dsimp only
  repeat' (first | exact leaves_fault | assumption | intro _ | with_reducible apply execLane_view | with_reducible apply execDebug_view | exact Sub.of (by assumption) (by decide) | with_reducible apply atRes_view | with_reducible refine leaves_next ?_ | simp (disch := first | exact hide_on (Sub.of (by assumption) (by decide)) | with_reducible rfl | exact Sub.of (by assumption) (by decide) | assumption) only [limitCrossed_view, modAnnex_view, view_lit, apply_ite (State.view hid), ite_self] | with_reducible apply foldl_keep | with_reducible apply foldl_keep2 | split | with_reducible rfl)

theorem execPhaseExtrapolation_view (dt : ℕ) (n : ℕ) (s : State) (hm : Sub 0x281b2000 hid) : Leaves hid ((s.elapse dt).view hid) (execPhaseExtrapolation dt n s) := by
  unfold execPhaseExtrapolation
  try dsimp only
  repeat' (first | exact leaves_fault | assumption | intro _ | with_reducible apply execLane_view | with_reducible apply execDebug_view | exact Sub.of (by assumption) (by decide) | with_reducible apply atRes_view | with_reducible refine leaves_next ?_ | simp (disch := first | exact hide_on (Sub.of (by assumption) (by decide)) | with_reducible rfl | exact Sub.of (by assumption) (by decide) | assumption) only [phaseUpdate_view, view_lit, apply_ite (State.view hid), ite_self] | with_reducible apply foldl_keep | with_reducible apply foldl_keep2 | split | with_reducible rfl)

theorem execDiFilterSample_view (dt : ℕ) (n : ℕ) (raw : Bool) (s : State) (hm : Sub 0x20232000 hid) : Leaves hid ((s.elapse dt).view hid) (execDiFilterSample dt n raw s) := by
  unfold execDiFilterSample
  try dsimp only
  repeat' (first | exact leaves_fault | assumption | intro _ | with_reducible apply execLane_view | with_reducible apply execDebug_view | exact Sub.of (by assumption) (by decide) | with_reducible apply atRes_view | with_reducible refine leaves_next ?_ | simp (disch := first | exact hide_on (Sub.of (by assumption) (by decide)) | with_reducible rfl | exact Sub.of (by assumption) (by decide) | assumption) only [inSample_view, view_lit, apply_ite (State.view hid), ite_self] | with_reducible apply foldl_keep | with_reducible apply foldl_keep2 | split | with_reducible rfl)

theorem execDiRawTransition_view (dt : ℕ) (n : ℕ) (level : Bool) (s : State) (hm : Sub 0x20000000 hid) : Leaves hid ((s.elapse dt).view hid) (execDiRawTransition dt n level s) := by
  unfold execDiRawTransition
  try dsimp only
  repeat' (first | exact leaves_fault | assumption | intro _ | with_reducible apply execLane_view | with_reducible apply execDebug_view | exact Sub.of (by assumption) (by decide) | with_reducible apply atRes_view | with_reducible refine leaves_next ?_ | simp (disch := first | exact hide_on (Sub.of (by assumption) (by decide)) | with_reducible rfl | exact Sub.of (by assumption) (by decide) | assumption) only [modIn_view, view_lit, apply_ite (State.view hid), ite_self] | with_reducible apply foldl_keep | with_reducible apply foldl_keep2 | split | with_reducible rfl)

theorem execDoReadbackFaultClear_view (dt : ℕ) (m : ℕ) (level : Bool) (s : State) (hm : Sub 0x20000000 hid) : Leaves hid ((s.elapse dt).view hid) (execDoReadbackFaultClear dt m level s) := by
  unfold execDoReadbackFaultClear
  try dsimp only
  repeat' (first | exact leaves_fault | assumption | intro _ | with_reducible apply execLane_view | with_reducible apply execDebug_view | exact Sub.of (by assumption) (by decide) | with_reducible apply atRes_view | with_reducible refine leaves_next ?_ | simp (disch := first | exact hide_on (Sub.of (by assumption) (by decide)) | with_reducible rfl | exact Sub.of (by assumption) (by decide) | assumption) only [modSw_view, view_lit, apply_ite (State.view hid), ite_self] | with_reducible apply foldl_keep | with_reducible apply foldl_keep2 | split | with_reducible rfl)

theorem execPtpDelayResponse_view (dt : ℕ) (p : ℕ) (delay : U32) (s : State) (hm : Sub 0x4 hid) : Leaves hid ((s.elapse dt).view hid) (execPtpDelayResponse dt p delay s) := by
  unfold execPtpDelayResponse
  try dsimp only
  repeat' (first | exact leaves_fault | assumption | intro _ | with_reducible apply execLane_view | with_reducible apply execDebug_view | exact Sub.of (by assumption) (by decide) | with_reducible apply atRes_view | with_reducible refine leaves_next ?_ | simp (disch := first | exact hide_on (Sub.of (by assumption) (by decide)) | with_reducible rfl | exact Sub.of (by assumption) (by decide) | assumption) only [modClk_view, view_lit, apply_ite (State.view hid), ite_self] | with_reducible apply foldl_keep | with_reducible apply foldl_keep2 | split | with_reducible rfl)

set_option Elab.async false

/-! ## The whole table -/

/-- The bit of a part. -/
def Part.bit : Part → Nat
  | .cycles => 0
  | .release => 1
  | .clk => 2
  | .mu => 3
  | .store => 4
  | .working => 5
  | .effect => 6
  | .transfer => 7
  | .keys => 8
  | .ops => 9
  | .agreed => 10
  | .trend => 11
  | .archive => 12
  | .pts => 13
  | .pair => 14
  | .program => 15
  | .forces => 16
  | .tasks => 17
  | .ret => 18
  | .ph => 19
  | .loop => 20
  | .alarm => 21
  | .journal => 22
  | .lockstep => 23
  | .dram => 24
  | .annex => 25
  | .prot => 26
  | .ai => 27
  | .ao => 28
  | .dio => 29
  | .net => 30
  | .can => 31
  | .pnl => 32
  | .fw => 33
  | .sup => 34
/-- Two states with the same view agree on every part that is not hidden, on the identity and on the queue. -/
theorem view_same {hid : Nat} {s t : State} (h : t.view hid = s.view hid) (p : Part) (hp : hid.testBit p.bit = false) : p.same s t := by
  cases p with
  | cycles => exact hide_off hp (congrArg View.cycles h)
  | release => exact hide_off hp (congrArg View.release h)
  | clk => exact hide_off hp (congrArg View.clk h)
  | mu => exact hide_off hp (congrArg View.mu h)
  | store =>
    have := hide_off hp (congrArg View.store h)
    simp only [Prod.mk.injEq] at this
    exact this
  | working => exact hide_off hp (congrArg View.working h)
  | effect =>
    have := hide_off hp (congrArg View.effect h)
    simp only [Prod.mk.injEq] at this
    exact this
  | transfer =>
    have := hide_off hp (congrArg View.transfer h)
    simp only [Prod.mk.injEq] at this
    exact this
  | keys => exact hide_off hp (congrArg View.keys h)
  | ops =>
    have := hide_off hp (congrArg View.ops h)
    simp only [Prod.mk.injEq] at this
    exact this
  | agreed =>
    have := hide_off hp (congrArg View.agreed h)
    simp only [Prod.mk.injEq] at this
    exact this
  | trend => exact hide_off hp (congrArg View.trend h)
  | archive =>
    have := hide_off hp (congrArg View.archive h)
    simp only [Prod.mk.injEq] at this
    exact this
  | pts => exact hide_off hp (congrArg View.pts h)
  | pair =>
    have := hide_off hp (congrArg View.pair h)
    simp only [Prod.mk.injEq] at this
    show t.pair = { s.pair with seqOut := t.pair.seqOut }
    cases ht : t.pair
    cases hs : s.pair
    rw [ht, hs] at this
    simp only at this
    simp only [this]
  | program =>
    have := hide_off hp (congrArg View.program h)
    simp only [Prod.mk.injEq] at this
    exact this
  | forces =>
    have := hide_off hp (congrArg View.forces h)
    simp only [Prod.mk.injEq] at this
    exact this
  | tasks =>
    have := hide_off hp (congrArg View.tasks h)
    simp only [Prod.mk.injEq] at this
    exact this
  | ret => exact hide_off hp (congrArg View.ret h)
  | ph => exact hide_off hp (congrArg View.ph h)
  | loop => exact hide_off hp (congrArg View.loop h)
  | alarm =>
    have := hide_off hp (congrArg View.alarm h)
    simp only [Prod.mk.injEq] at this
    exact this
  | journal =>
    have := hide_off hp (congrArg View.journal h)
    simp only [Prod.mk.injEq] at this
    exact this
  | lockstep =>
    have := hide_off hp (congrArg View.lockstep h)
    simp only [Prod.mk.injEq] at this
    exact this
  | dram =>
    have := hide_off hp (congrArg View.dram h)
    simp only [Prod.mk.injEq] at this
    exact this
  | annex => exact hide_off hp (congrArg View.annex h)
  | prot => exact hide_off hp (congrArg View.prot h)
  | ai => exact hide_off hp (congrArg View.ai h)
  | ao => exact hide_off hp (congrArg View.ao h)
  | dio => exact hide_off hp (congrArg View.dio h)
  | net => exact hide_off hp (congrArg View.net h)
  | can => exact hide_off hp (congrArg View.can h)
  | pnl => exact hide_off hp (congrArg View.pnl h)
  | fw => exact hide_off hp (congrArg View.fw h)
  | sup => exact hide_off hp (congrArg View.sup h)

theorem view_name {hid : Nat} {s t : State} (h : t.view hid = s.view hid) :
    t.ident.variant = s.ident.variant ∧ t.ident.serial = s.ident.serial ∧ t.ident.hwRev = s.ident.hwRev ∧ t.ident.madeAt = s.ident.madeAt ∧ t.ident.baseMac = s.ident.baseMac ∧ t.ident.opSeconds = s.ident.opSeconds ∧ t.ident.opTicks = s.ident.opTicks := by
  have := congrArg View.name h
  simpa only [State.view, Prod.mk.injEq] using this

theorem view_pending {hid : Nat} {s t : State} (h : t.view hid = s.view hid) : t.pending = s.pending := congrArg View.pending h



/-- What a function leaves as it was: every part outside the set it may change. -/
theorem kept {m : Nat} {s t : State} (h : ∀ hid, Sub m hid → t.view hid = s.view hid) (p : Part) (hp : m.testBit p.bit = false) :
    p.same s t :=
  view_same (h m (Nat.and_self m)) p hp

/-- The set of parts of a footprint. -/
def maskOf (l : List Part) : Nat := l.foldl (fun a p => a ||| 1 <<< p.bit) 0

theorem Part.bit_inj {p q : Part} (h : p.bit = q.bit) : p = q := by
  have hp : ∀ r : Part, Part.ofNat r.ctorIdx = r := fun r => by cases r <;> rfl
  have hb : ∀ r : Part, r.bit = r.ctorIdx := fun r => by cases r <;> rfl
  rw [← hp p, ← hp q, ← hb p, ← hb q, h]

theorem maskOf_off {l : List Part} {p : Part} (h : p ∉ l) : (maskOf l).testBit p.bit = false := by
  have hg : ∀ (l : List Part) (a : Nat), p ∉ l → a.testBit p.bit = false →
      (l.foldl (fun a q => a ||| 1 <<< q.bit) a).testBit p.bit = false := by
    intro l
    induction l with
    | nil => intro a _ ha; exact ha
    | cons q l ih =>
      intro a hn ha
      rw [List.mem_cons, not_or] at hn
      refine ih _ hn.2 ?_
      rw [Nat.testBit_or, ha, Bool.false_or, Nat.one_shiftLeft, Nat.testBit_two_pow]
      exact decide_eq_false (fun hq => hn.1 (Part.bit_inj hq.symm))
  exact hg l 0 h (Nat.zero_testBit _)

/-- A command changes hidden parts only, where its footprint is hidden. -/
def InFootprint (c : Instr) (s : State) : Prop :=
  Leaves (maskOf (footprint c)) ((s.elapse (ticksOf c)).view (maskOf (footprint c))) (exec c s)

theorem identify_within (dt : Nat) (a0 : Packet) (s : State) : InFootprint (.identify dt a0) s :=
  execIdentify_view dt a0 s (by unfold Sub; simp only [footprint]; decide)
theorem commandsList_within (dt : Nat) (a0 : Packet) (s : State) : InFootprint (.commandsList dt a0) s :=
  execCommandsList_view dt a0 s (by unfold Sub; simp only [footprint]; decide)
theorem openSession_within (dt : Nat) (a0 : Packet) (a1 : U32) (a2 : List Byte) (s : State) : InFootprint (.openSession dt a0 a1 a2) s :=
  execOpenSession_view dt a0 a1 a2 s (by unfold Sub; simp only [footprint]; decide)
theorem closeSession_within (dt : Nat) (a0 : Packet) (s : State) : InFootprint (.closeSession dt a0) s :=
  execCloseSession_view dt a0 s (by unfold Sub; simp only [footprint]; decide)
theorem setKey_within (dt : Nat) (a0 : Packet) (s : State) : InFootprint (.setKey dt a0) s :=
  execSetKey_view dt a0 s (by unfold Sub; simp only [footprint]; decide)
theorem keyInfo_within (dt : Nat) (a0 : Packet) (s : State) : InFootprint (.keyInfo dt a0) s :=
  execKeyInfo_view dt a0 s (by unfold Sub; simp only [footprint]; decide)
theorem subscribe_within (dt : Nat) (a0 : Packet) (s : State) : InFootprint (.subscribe dt a0) s :=
  execSubscribe_view dt a0 s (by unfold Sub; simp only [footprint]; decide)
theorem completionRead_within (dt : Nat) (a0 : Packet) (s : State) : InFootprint (.completionRead dt a0) s :=
  execCompletionRead_view dt a0 s (by unfold Sub; simp only [footprint]; decide)
theorem paramRead_within (dt : Nat) (a0 : Packet) (s : State) : InFootprint (.paramRead dt a0) s :=
  execParamRead_view dt a0 s (by unfold Sub; simp only [footprint]; decide)
theorem paramWrite_within (dt : Nat) (a0 : Packet) (s : State) : InFootprint (.paramWrite dt a0) s :=
  execParamWrite_view dt a0 s (by unfold Sub; simp only [footprint]; decide)
theorem tableRead_within (dt : Nat) (a0 : Packet) (s : State) : InFootprint (.tableRead dt a0) s :=
  execTableRead_view dt a0 s (by unfold Sub; simp only [footprint]; decide)
theorem tableWrite_within (dt : Nat) (a0 : Packet) (s : State) : InFootprint (.tableWrite dt a0) s :=
  execTableWrite_view dt a0 s (by unfold Sub; simp only [footprint]; decide)
theorem commitConfig_within (dt : Nat) (a0 : Packet) (s : State) : InFootprint (.commitConfig dt a0) s :=
  execCommitConfig_view dt a0 s (by unfold Sub; simp only [footprint]; decide)
theorem commitConfigDone_within (dt : Nat) (s : State) : InFootprint (.commitConfigDone dt) s :=
  execCommitConfigDone_view dt s (by unfold Sub; simp only [footprint]; decide)
theorem discardEdits_within (dt : Nat) (a0 : Packet) (s : State) : InFootprint (.discardEdits dt a0) s :=
  execDiscardEdits_view dt a0 s (by unfold Sub; simp only [footprint]; decide)
theorem configExport_within (dt : Nat) (a0 : Packet) (s : State) : InFootprint (.configExport dt a0) s :=
  execConfigExport_view dt a0 s (by unfold Sub; simp only [footprint]; decide)
theorem configImport_within (dt : Nat) (a0 : Packet) (s : State) : InFootprint (.configImport dt a0) s :=
  execConfigImport_view dt a0 s (by unfold Sub; simp only [footprint]; decide)
theorem setMode_within (dt : Nat) (a0 : Packet) (s : State) : InFootprint (.setMode dt a0) s :=
  execSetMode_view dt a0 s (by unfold Sub; simp only [footprint]; decide)
theorem restart_within (dt : Nat) (a0 : Packet) (s : State) : InFootprint (.restart dt a0) s :=
  execRestart_view dt a0 s (by unfold Sub; simp only [footprint]; decide)
theorem roleSwap_within (dt : Nat) (a0 : Packet) (s : State) : InFootprint (.roleSwap dt a0) s :=
  execRoleSwap_view dt a0 s (by unfold Sub; simp only [footprint]; decide)
theorem eventRead_within (dt : Nat) (a0 : Packet) (s : State) : InFootprint (.eventRead dt a0) s :=
  execEventRead_view dt a0 s (by unfold Sub; simp only [footprint]; decide)
theorem eventClear_within (dt : Nat) (a0 : Packet) (s : State) : InFootprint (.eventClear dt a0) s :=
  execEventClear_view dt a0 s (by unfold Sub; simp only [footprint]; decide)
theorem programLoad_within (dt : Nat) (a0 : Packet) (s : State) : InFootprint (.programLoad dt a0) s :=
  execProgramLoad_view dt a0 s (by unfold Sub; simp only [footprint]; decide)
theorem programSwitch_within (dt : Nat) (a0 : Packet) (s : State) : InFootprint (.programSwitch dt a0) s :=
  execProgramSwitch_view dt a0 s (by unfold Sub; simp only [footprint]; decide)
theorem programSwitchGap_within (dt : Nat) (s : State) : InFootprint (.programSwitchGap dt) s :=
  execProgramSwitchGap_view dt s (by unfold Sub; simp only [footprint]; decide)
theorem valueWrite_within (dt : Nat) (a0 : Packet) (s : State) : InFootprint (.valueWrite dt a0) s :=
  execValueWrite_view dt a0 s (by unfold Sub; simp only [footprint]; decide)
theorem valueWriteApply_within (dt : Nat) (a0 : Nat) (s : State) : InFootprint (.valueWriteApply dt a0) s :=
  execValueWriteApply_view dt a0 s (by unfold Sub; simp only [footprint]; decide)
theorem forceSet_within (dt : Nat) (a0 : Packet) (s : State) : InFootprint (.forceSet dt a0) s :=
  execForceSet_view dt a0 s (by unfold Sub; simp only [footprint]; decide)
theorem forceClear_within (dt : Nat) (a0 : Packet) (s : State) : InFootprint (.forceClear dt a0) s :=
  execForceClear_view dt a0 s (by unfold Sub; simp only [footprint]; decide)
theorem taskTrigger_within (dt : Nat) (a0 : Packet) (s : State) : InFootprint (.taskTrigger dt a0) s :=
  execTaskTrigger_view dt a0 s (by unfold Sub; simp only [footprint]; decide)
theorem split_within (dt : Nat) (a0 : Packet) (s : State) : InFootprint (.split dt a0) s :=
  execSplit_view dt a0 s (by unfold Sub; simp only [footprint]; decide)
theorem splitDrainInstant_within (dt : Nat) (a0 : Nat) (s : State) : InFootprint (.splitDrainInstant dt a0) s :=
  execSplitDrainInstant_view dt a0 s (by unfold Sub; simp only [footprint]; decide)
theorem splitDrainTimeout_within (dt : Nat) (a0 : Nat) (s : State) : InFootprint (.splitDrainTimeout dt a0) s :=
  execSplitDrainTimeout_view dt a0 s (by unfold Sub; simp only [footprint]; decide)
theorem join_within (dt : Nat) (a0 : Packet) (s : State) : InFootprint (.join dt a0) s :=
  execJoin_view dt a0 s (by unfold Sub; simp only [footprint]; decide)
theorem joinLoadDone_within (dt : Nat) (a0 : Nat) (s : State) : InFootprint (.joinLoadDone dt a0) s :=
  execJoinLoadDone_view dt a0 s (by unfold Sub; simp only [footprint]; decide)
theorem debugAttach_within (dt : Nat) (a0 : Packet) (s : State) : InFootprint (.debugAttach dt a0) s :=
  execDebugAttach_view dt a0 s (by unfold Sub; simp only [footprint]; decide)
theorem debugDetach_within (dt : Nat) (a0 : Packet) (s : State) : InFootprint (.debugDetach dt a0) s :=
  execDebugDetach_view dt a0 s (by unfold Sub; simp only [footprint]; decide)
theorem debugReadRegisters_within (dt : Nat) (a0 : Packet) (a1 : Nat) (s : State) : InFootprint (.debugReadRegisters dt a0 a1) s :=
  execDebugReadRegisters_view dt a0 a1 s (by unfold Sub; simp only [footprint]; decide)
theorem debugWriteRegister_within (dt : Nat) (a0 : Packet) (a1 : Nat) (a2 : U64) (s : State) : InFootprint (.debugWriteRegister dt a0 a1 a2) s :=
  execDebugWriteRegister_view dt a0 a1 a2 s (by unfold Sub; simp only [footprint]; decide)
theorem debugReadMemory_within (dt : Nat) (a0 : Packet) (a1 : Area) (a2 : Nat) (a3 : Nat) (a4 : Nat) (s : State) : InFootprint (.debugReadMemory dt a0 a1 a2 a3 a4) s :=
  execDebugReadMemory_view dt a0 a1 a2 a3 a4 s (by unfold Sub; simp only [footprint]; decide)
theorem debugWriteMemory_within (dt : Nat) (a0 : Packet) (a1 : Area) (a2 : Nat) (a3 : Nat) (a4 : List Byte) (s : State) : InFootprint (.debugWriteMemory dt a0 a1 a2 a3 a4) s :=
  execDebugWriteMemory_view dt a0 a1 a2 a3 a4 s (by unfold Sub; simp only [footprint]; decide)
theorem debugBreakpoint_within (dt : Nat) (a0 : Packet) (a1 : Nat) (a2 : Bool) (s : State) : InFootprint (.debugBreakpoint dt a0 a1 a2) s :=
  execDebugBreakpoint_view dt a0 a1 a2 s (by unfold Sub; simp only [footprint]; decide)
theorem debugHalt_within (dt : Nat) (a0 : Packet) (s : State) : InFootprint (.debugHalt dt a0) s :=
  execDebugHalt_view dt a0 s (by unfold Sub; simp only [footprint]; decide)
theorem debugResume_within (dt : Nat) (a0 : Packet) (s : State) : InFootprint (.debugResume dt a0) s :=
  execDebugResume_view dt a0 s (by unfold Sub; simp only [footprint]; decide)
theorem debugStep_within (dt : Nat) (a0 : Packet) (a1 : List (Nat × U64)) (s : State) : InFootprint (.debugStep dt a0 a1) s :=
  execDebugStep_view dt a0 a1 s (by unfold Sub; simp only [footprint]; decide)
theorem debugTracepoint_within (dt : Nat) (a0 : Packet) (a1 : Nat) (a2 : Bool) (s : State) : InFootprint (.debugTracepoint dt a0 a1 a2) s :=
  execDebugTracepoint_view dt a0 a1 a2 s (by unfold Sub; simp only [footprint]; decide)
theorem annexMigrate_within (dt : Nat) (a0 : Packet) (s : State) : InFootprint (.annexMigrate dt a0) s :=
  execAnnexMigrate_view dt a0 s (by unfold Sub; simp only [footprint]; decide)
theorem annexRotate_within (dt : Nat) (a0 : Packet) (s : State) : InFootprint (.annexRotate dt a0) s :=
  execAnnexRotate_view dt a0 s (by unfold Sub; simp only [footprint]; decide)
theorem ledgerRead_within (dt : Nat) (a0 : Packet) (s : State) : InFootprint (.ledgerRead dt a0) s :=
  execLedgerRead_view dt a0 s (by unfold Sub; simp only [footprint]; decide)
theorem alarmAck_within (dt : Nat) (a0 : Packet) (s : State) : InFootprint (.alarmAck dt a0) s :=
  execAlarmAck_view dt a0 s (by unfold Sub; simp only [footprint]; decide)
theorem alarmShelve_within (dt : Nat) (a0 : Packet) (s : State) : InFootprint (.alarmShelve dt a0) s :=
  execAlarmShelve_view dt a0 s (by unfold Sub; simp only [footprint]; decide)
theorem alarmUnshelve_within (dt : Nat) (a0 : Packet) (s : State) : InFootprint (.alarmUnshelve dt a0) s :=
  execAlarmUnshelve_view dt a0 s (by unfold Sub; simp only [footprint]; decide)
theorem ladderAck_within (dt : Nat) (a0 : Packet) (s : State) : InFootprint (.ladderAck dt a0) s :=
  execLadderAck_view dt a0 s (by unfold Sub; simp only [footprint]; decide)
theorem journalRead_within (dt : Nat) (a0 : Packet) (s : State) : InFootprint (.journalRead dt a0) s :=
  execJournalRead_view dt a0 s (by unfold Sub; simp only [footprint]; decide)
theorem archiveRead_within (dt : Nat) (a0 : Packet) (s : State) : InFootprint (.archiveRead dt a0) s :=
  execArchiveRead_view dt a0 s (by unfold Sub; simp only [footprint]; decide)
theorem trendRead_within (dt : Nat) (a0 : Packet) (s : State) : InFootprint (.trendRead dt a0) s :=
  execTrendRead_view dt a0 s (by unfold Sub; simp only [footprint]; decide)
theorem aiCalibrate_within (dt : Nat) (a0 : Packet) (s : State) : InFootprint (.aiCalibrate dt a0) s :=
  execAiCalibrate_view dt a0 s (by unfold Sub; simp only [footprint]; decide)
theorem converterCalibrationDone_within (dt : Nat) (a0 : Nat) (a1 : List Nat) (a2 : List Nat) (s : State) : InFootprint (.converterCalibrationDone dt a0 a1 a2) s :=
  execConverterCalibrationDone_view dt a0 a1 a2 s (by unfold Sub; simp only [footprint]; decide)
theorem aoTrimHold4_within (dt : Nat) (a0 : Packet) (s : State) : InFootprint (.aoTrimHold4 dt a0) s :=
  execAoTrimHold4_view dt a0 s (by unfold Sub; simp only [footprint]; decide)
theorem aoTrimHold20_within (dt : Nat) (a0 : Packet) (s : State) : InFootprint (.aoTrimHold20 dt a0) s :=
  execAoTrimHold20_view dt a0 s (by unfold Sub; simp only [footprint]; decide)
theorem aoTrimRecord4_within (dt : Nat) (a0 : Packet) (s : State) : InFootprint (.aoTrimRecord4 dt a0) s :=
  execAoTrimRecord4_view dt a0 s (by unfold Sub; simp only [footprint]; decide)
theorem aoTrimRecord20_within (dt : Nat) (a0 : Packet) (s : State) : InFootprint (.aoTrimRecord20 dt a0) s :=
  execAoTrimRecord20_view dt a0 s (by unfold Sub; simp only [footprint]; decide)
theorem aoTrimStore_within (dt : Nat) (a0 : Packet) (s : State) : InFootprint (.aoTrimStore dt a0) s :=
  execAoTrimStore_view dt a0 s (by unfold Sub; simp only [footprint]; decide)
theorem aoTrimRelease_within (dt : Nat) (a0 : Packet) (s : State) : InFootprint (.aoTrimRelease dt a0) s :=
  execAoTrimRelease_view dt a0 s (by unfold Sub; simp only [footprint]; decide)
theorem aoTrimClear_within (dt : Nat) (a0 : Packet) (s : State) : InFootprint (.aoTrimClear dt a0) s :=
  execAoTrimClear_view dt a0 s (by unfold Sub; simp only [footprint]; decide)
theorem hartPass_within (dt : Nat) (a0 : Packet) (s : State) : InFootprint (.hartPass dt a0) s :=
  execHartPass_view dt a0 s (by unfold Sub; simp only [footprint]; decide)
theorem loopInjectStart_within (dt : Nat) (a0 : Packet) (s : State) : InFootprint (.loopInjectStart dt a0) s :=
  execLoopInjectStart_view dt a0 s (by unfold Sub; simp only [footprint]; decide)
theorem loopInjectStop_within (dt : Nat) (a0 : Packet) (s : State) : InFootprint (.loopInjectStop dt a0) s :=
  execLoopInjectStop_view dt a0 s (by unfold Sub; simp only [footprint]; decide)
theorem loopCaptureArm_within (dt : Nat) (a0 : Packet) (s : State) : InFootprint (.loopCaptureArm dt a0) s :=
  execLoopCaptureArm_view dt a0 s (by unfold Sub; simp only [footprint]; decide)
theorem loopCaptureCancel_within (dt : Nat) (a0 : Packet) (s : State) : InFootprint (.loopCaptureCancel dt a0) s :=
  execLoopCaptureCancel_view dt a0 s (by unfold Sub; simp only [footprint]; decide)
theorem loopCaptureRead_within (dt : Nat) (a0 : Packet) (s : State) : InFootprint (.loopCaptureRead dt a0) s :=
  execLoopCaptureRead_view dt a0 s (by unfold Sub; simp only [footprint]; decide)
theorem canSend_within (dt : Nat) (a0 : Packet) (s : State) : InFootprint (.canSend dt a0) s :=
  execCanSend_view dt a0 s (by unfold Sub; simp only [footprint]; decide)
theorem canCancel_within (dt : Nat) (a0 : Packet) (a1 : Bool) (s : State) : InFootprint (.canCancel dt a0 a1) s :=
  execCanCancel_view dt a0 a1 s (by unfold Sub; simp only [footprint]; decide)
theorem canRecover_within (dt : Nat) (a0 : Packet) (s : State) : InFootprint (.canRecover dt a0) s :=
  execCanRecover_view dt a0 s (by unfold Sub; simp only [footprint]; decide)
theorem panelUpdate_within (dt : Nat) (a0 : Packet) (s : State) : InFootprint (.panelUpdate dt a0) s :=
  execPanelUpdate_view dt a0 s (by unfold Sub; simp only [footprint]; decide)
theorem panelRefresh_within (dt : Nat) (a0 : Packet) (s : State) : InFootprint (.panelRefresh dt a0) s :=
  execPanelRefresh_view dt a0 s (by unfold Sub; simp only [footprint]; decide)
theorem timeAcceptStep_within (dt : Nat) (a0 : Packet) (s : State) : InFootprint (.timeAcceptStep dt a0) s :=
  execTimeAcceptStep_view dt a0 s (by unfold Sub; simp only [footprint]; decide)
theorem updateBegin_within (dt : Nat) (a0 : Packet) (s : State) : InFootprint (.updateBegin dt a0) s :=
  execUpdateBegin_view dt a0 s (by unfold Sub; simp only [footprint]; decide)
theorem updateAbandon_within (dt : Nat) (a0 : Packet) (s : State) : InFootprint (.updateAbandon dt a0) s :=
  execUpdateAbandon_view dt a0 s (by unfold Sub; simp only [footprint]; decide)
theorem updateBlock_within (dt : Nat) (a0 : Packet) (s : State) : InFootprint (.updateBlock dt a0) s :=
  execUpdateBlock_view dt a0 s (by unfold Sub; simp only [footprint]; decide)
theorem updateVerify_within (dt : Nat) (a0 : Packet) (s : State) : InFootprint (.updateVerify dt a0) s :=
  execUpdateVerify_view dt a0 s (by unfold Sub; simp only [footprint]; decide)
theorem updateVerifyDone_within (dt : Nat) (a0 : Nat) (s : State) : InFootprint (.updateVerifyDone dt a0) s :=
  execUpdateVerifyDone_view dt a0 s (by unfold Sub; simp only [footprint]; decide)
theorem updateIdleTimeout_within (dt : Nat) (a0 : Nat) (s : State) : InFootprint (.updateIdleTimeout dt a0) s :=
  execUpdateIdleTimeout_view dt a0 s (by unfold Sub; simp only [footprint]; decide)
theorem activate_within (dt : Nat) (a0 : Packet) (s : State) : InFootprint (.activate dt a0) s :=
  execActivate_view dt a0 s (by unfold Sub; simp only [footprint]; decide)
theorem firmwareReady_within (dt : Nat) (s : State) : InFootprint (.firmwareReady dt) s :=
  execFirmwareReady_view dt s (by unfold Sub; simp only [footprint]; decide)
theorem activationFailure_within (dt : Nat) (s : State) : InFootprint (.activationFailure dt) s :=
  execActivationFailure_view dt s (by unfold Sub; simp only [footprint]; decide)
theorem activationDeadline_within (dt : Nat) (s : State) : InFootprint (.activationDeadline dt) s :=
  execActivationDeadline_view dt s (by unfold Sub; simp only [footprint]; decide)
theorem rollback_within (dt : Nat) (a0 : Packet) (s : State) : InFootprint (.rollback dt a0) s :=
  execRollback_view dt a0 s (by unfold Sub; simp only [footprint]; decide)
theorem seqGo_within (dt : Nat) (a0 : RegWrite) (s : State) : InFootprint (.seqGo dt a0) s :=
  execSeqGo_view dt a0 s (by unfold Sub; simp only [footprint]; decide)
theorem goAll_within (dt : Nat) (a0 : RegWrite) (s : State) : InFootprint (.goAll dt a0) s :=
  execGoAll_view dt a0 s (by unfold Sub; simp only [footprint]; decide)
theorem seqStop_within (dt : Nat) (a0 : RegWrite) (s : State) : InFootprint (.seqStop dt a0) s :=
  execSeqStop_view dt a0 s (by unfold Sub; simp only [footprint]; decide)
theorem slotSwap_within (dt : Nat) (a0 : RegWrite) (s : State) : InFootprint (.slotSwap dt a0) s :=
  execSlotSwap_view dt a0 s (by unfold Sub; simp only [footprint]; decide)
theorem slotTableSwapApply_within (dt : Nat) (s : State) : InFootprint (.slotTableSwapApply dt) s :=
  execSlotTableSwapApply_view dt s (by unfold Sub; simp only [footprint]; decide)
theorem doFaultClear_within (dt : Nat) (a0 : RegWrite) (s : State) : InFootprint (.doFaultClear dt a0) s :=
  execDoFaultClear_view dt a0 s (by unfold Sub; simp only [footprint]; decide)
theorem arbFreeze_within (dt : Nat) (a0 : RegWrite) (s : State) : InFootprint (.arbFreeze dt a0) s :=
  execArbFreeze_view dt a0 s (by unfold Sub; simp only [footprint]; decide)
theorem forwardTimeout_within (dt : Nat) (a0 : Nat) (s : State) : InFootprint (.forwardTimeout dt a0) s :=
  execForwardTimeout_view dt a0 s
theorem reassemblyTimeout_within (dt : Nat) (s : State) : InFootprint (.reassemblyTimeout dt) s :=
  execReassemblyTimeout_view dt s
theorem sessionIdleExpiry_within (dt : Nat) (a0 : U32) (s : State) : InFootprint (.sessionIdleExpiry dt a0) s :=
  execSessionIdleExpiry_view dt a0 s (by unfold Sub; simp only [footprint]; decide)
theorem authLockoutEnd_within (dt : Nat) (a0 : Via) (a1 : U32) (s : State) : InFootprint (.authLockoutEnd dt a0 a1) s :=
  execAuthLockoutEnd_view dt a0 a1 s
theorem notifyHoldEnd_within (dt : Nat) (a0 : U32) (a1 : Nat) (s : State) : InFootprint (.notifyHoldEnd dt a0 a1) s :=
  execNotifyHoldEnd_view dt a0 a1 s
theorem powerApplied_within (dt : Nat) (a0 : Nat) (a1 : U32) (s : State) : InFootprint (.powerApplied dt a0 a1) s :=
  execPowerApplied_view dt a0 a1 s (by unfold Sub; simp only [footprint]; decide)
theorem selftestComplete_within (dt : Nat) (a0 : SelfTest) (s : State) : InFootprint (.selftestComplete dt a0) s :=
  execSelftestComplete_view dt a0 s (by unfold Sub; simp only [footprint]; decide)
theorem switchInstant_within (dt : Nat) (s : State) : InFootprint (.switchInstant dt) s :=
  execSwitchInstant_view dt s (by unfold Sub; simp only [footprint]; decide)
theorem m3ShareEvaluation_within (dt : Nat) (s : State) : InFootprint (.m3ShareEvaluation dt) s :=
  execM3ShareEvaluation_view dt s (by unfold Sub; simp only [footprint]; decide)
theorem holdLimitExpiry_within (dt : Nat) (s : State) : InFootprint (.holdLimitExpiry dt) s :=
  execHoldLimitExpiry_view dt s (by unfold Sub; simp only [footprint]; decide)
theorem curatorRestart_within (dt : Nat) (a0 : Nat) (s : State) : InFootprint (.curatorRestart dt a0) s :=
  execCuratorRestart_view dt a0 s (by unfold Sub; simp only [footprint]; decide)
theorem curatorRestartDone_within (dt : Nat) (s : State) : InFootprint (.curatorRestartDone dt) s :=
  execCuratorRestartDone_view dt s (by unfold Sub; simp only [footprint]; decide)
theorem watchdogExpiry_within (dt : Nat) (s : State) : InFootprint (.watchdogExpiry dt) s :=
  execWatchdogExpiry_view dt s (by unfold Sub; simp only [footprint]; decide)
theorem powerFailDetected_within (dt : Nat) (s : State) : InFootprint (.powerFailDetected dt) s :=
  execPowerFailDetected_view dt s (by unfold Sub; simp only [footprint]; decide)
theorem feedLoss_within (dt : Nat) (a0 : Nat) (a1 : Nat) (s : State) : InFootprint (.feedLoss dt a0 a1) s :=
  execFeedLoss_view dt a0 a1 s (by unfold Sub; simp only [footprint]; decide)
theorem feedReturnDuringSave_within (dt : Nat) (a0 : Nat) (s : State) : InFootprint (.feedReturnDuringSave dt a0) s :=
  execFeedReturnDuringSave_view dt a0 s (by unfold Sub; simp only [footprint]; decide)
theorem holdupEnd_within (dt : Nat) (s : State) : InFootprint (.holdupEnd dt) s :=
  execHoldupEnd_view dt s (by unfold Sub; simp only [footprint]; decide)
theorem periodicRetainSave_within (dt : Nat) (s : State) : InFootprint (.periodicRetainSave dt) s :=
  execPeriodicRetainSave_view dt s (by unfold Sub; simp only [footprint]; decide)
theorem retainSaveTimeout_within (dt : Nat) (s : State) : InFootprint (.retainSaveTimeout dt) s :=
  execRetainSaveTimeout_view dt s (by unfold Sub; simp only [footprint]; decide)
theorem taskDueStart_within (dt : Nat) (a0 : Nat) (s : State) : InFootprint (.taskDueStart dt a0) s :=
  execTaskDueStart_view dt a0 s (by unfold Sub; simp only [footprint]; decide)
theorem repeatFrameSend_within (dt : Nat) (a0 : Nat) (s : State) : InFootprint (.repeatFrameSend dt a0) s :=
  execRepeatFrameSend_view dt a0 s (by unfold Sub; simp only [footprint]; decide)
theorem sliceLoad_within (dt : Nat) (a0 : Nat) (s : State) : InFootprint (.sliceLoad dt a0) s :=
  execSliceLoad_view dt a0 s (by unfold Sub; simp only [footprint]; decide)
theorem taskClose_within (dt : Nat) (a0 : Nat) (a1 : CloseData) (s : State) : InFootprint (.taskClose dt a0 a1) s :=
  execTaskClose_view dt a0 a1 s (by unfold Sub; simp only [footprint]; decide)
theorem cycleRelease_within (dt : Nat) (a0 : Nat) (a1 : Nat) (s : State) : InFootprint (.cycleRelease dt a0 a1) s :=
  execCycleRelease_view dt a0 a1 s (by unfold Sub; simp only [footprint]; decide)
theorem digestWaitExpiry_within (dt : Nat) (a0 : Nat) (a1 : Nat) (s : State) : InFootprint (.digestWaitExpiry dt a0 a1) s :=
  execDigestWaitExpiry_view dt a0 a1 s (by unfold Sub; simp only [footprint]; decide)
theorem taskFault_within (dt : Nat) (a0 : Nat) (a1 : Nat) (a2 : U64) (s : State) : InFootprint (.taskFault dt a0 a1 a2) s :=
  execTaskFault_view dt a0 a1 a2 s (by unfold Sub; simp only [footprint]; decide)
theorem lockstepMismatch_within (dt : Nat) (a0 : Nat) (a1 : Nat) (a2 : Nat) (a3 : Option Nat) (a4 : Option Nat) (a5 : Bool) (s : State) : InFootprint (.lockstepMismatch dt a0 a1 a2 a3 a4 a5) s :=
  execLockstepMismatch_view dt a0 a1 a2 a3 a4 a5 s (by unfold Sub; simp only [footprint]; decide)
theorem recoveryRunStart_within (dt : Nat) (a0 : Nat) (s : State) : InFootprint (.recoveryRunStart dt a0) s :=
  execRecoveryRunStart_view dt a0 s (by unfold Sub; simp only [footprint]; decide)
theorem injectionTest_within (dt : Nat) (a0 : Nat) (a1 : U64) (s : State) : InFootprint (.injectionTest dt a0 a1) s :=
  execInjectionTest_view dt a0 a1 s (by unfold Sub; simp only [footprint]; decide)
theorem injectionRetest_within (dt : Nat) (a0 : Nat) (a1 : U64) (s : State) : InFootprint (.injectionRetest dt a0 a1) s :=
  execInjectionRetest_view dt a0 a1 s (by unfold Sub; simp only [footprint]; decide)
theorem signatureWindowClose_within (dt : Nat) (a0 : Nat) (a1 : Nat) (a2 : Nat) (a3 : U64) (a4 : U64) (s : State) : InFootprint (.signatureWindowClose dt a0 a1 a2 a3 a4) s :=
  execSignatureWindowClose_view dt a0 a1 a2 a3 a4 s (by unfold Sub; simp only [footprint]; decide)
theorem agreedInputFrame_within (dt : Nat) (a0 : LaneHdr) (a1 : AgreedIn) (s : State) : InFootprint (.agreedInputFrame dt a0 a1) s :=
  execAgreedInputFrame_view dt a0 a1 s (by unfold Sub; simp only [footprint]; decide)
theorem digestFrame_within (dt : Nat) (a0 : LaneHdr) (a1 : DigestIn) (s : State) : InFootprint (.digestFrame dt a0 a1) s :=
  execDigestFrame_view dt a0 a1 s (by unfold Sub; simp only [footprint]; decide)
theorem withheldMarker_within (dt : Nat) (a0 : LaneHdr) (a1 : Nat) (a2 : Nat) (a3 : Nat) (s : State) : InFootprint (.withheldMarker dt a0 a1 a2 a3) s :=
  execWithheldMarker_view dt a0 a1 a2 a3 s (by unfold Sub; simp only [footprint]; decide)
theorem loopAgreementFrame_within (dt : Nat) (a0 : LaneHdr) (a1 : Nat) (a2 : Nat) (a3 : List LoopIn) (a4 : List (Nat × Nat)) (s : State) : InFootprint (.loopAgreementFrame dt a0 a1 a2 a3 a4) s :=
  execLoopAgreementFrame_view dt a0 a1 a2 a3 a4 s (by unfold Sub; simp only [footprint]; decide)
theorem loopAnswerFrame_within (dt : Nat) (a0 : LaneHdr) (a1 : Nat) (a2 : Nat) (a3 : Nat) (a4 : List Nat) (s : State) : InFootprint (.loopAnswerFrame dt a0 a1 a2 a3 a4) s :=
  execLoopAnswerFrame_view dt a0 a1 a2 a3 a4 s (by unfold Sub; simp only [footprint]; decide)
theorem alarmAgreementFrame_within (dt : Nat) (a0 : LaneHdr) (a1 : AlarmIn) (a2 : List (Nat × Nat)) (s : State) : InFootprint (.alarmAgreementFrame dt a0 a1 a2) s :=
  execAlarmAgreementFrame_view dt a0 a1 a2 s (by unfold Sub; simp only [footprint]; decide)
theorem alarmExchangeFrame_within (dt : Nat) (a0 : LaneHdr) (a1 : ExchIn) (s : State) : InFootprint (.alarmExchangeFrame dt a0 a1) s :=
  execAlarmExchangeFrame_view dt a0 a1 s (by unfold Sub; simp only [footprint]; decide)
theorem retainedHashFrame_within (dt : Nat) (a0 : LaneHdr) (a1 : Nat) (a2 : Nat) (a3 : U64) (s : State) : InFootprint (.retainedHashFrame dt a0 a1 a2 a3) s :=
  execRetainedHashFrame_view dt a0 a1 a2 a3 s (by unfold Sub; simp only [footprint]; decide)
theorem copyDataFrame_within (dt : Nat) (a0 : LaneHdr) (a1 : List CopyItem) (s : State) : InFootprint (.copyDataFrame dt a0 a1) s :=
  execCopyDataFrame_view dt a0 a1 s (by unfold Sub; simp only [footprint]; decide)
theorem switchAnnouncement_within (dt : Nat) (a0 : LaneHdr) (a1 : SwitchIn) (s : State) : InFootprint (.switchAnnouncement dt a0 a1) s :=
  execSwitchAnnouncement_view dt a0 a1 s (by unfold Sub; simp only [footprint]; decide)
theorem departureNotice_within (dt : Nat) (a0 : LaneHdr) (a1 : Nat) (s : State) : InFootprint (.departureNotice dt a0 a1) s :=
  execDepartureNotice_view dt a0 a1 s (by unfold Sub; simp only [footprint]; decide)
theorem commandRelay_within (dt : Nat) (a0 : LaneHdr) (a1 : RelayIn) (s : State) : InFootprint (.commandRelay dt a0 a1) s :=
  execCommandRelay_view dt a0 a1 s (by unfold Sub; simp only [footprint]; decide)
theorem pairCommandApply_within (dt : Nat) (s : State) : InFootprint (.pairCommandApply dt) s :=
  execPairCommandApply_view dt s (by unfold Sub; simp only [footprint]; decide)
theorem voidNotice_within (dt : Nat) (a0 : LaneHdr) (a1 : Nat) (a2 : Nat) (s : State) : InFootprint (.voidNotice dt a0 a1 a2) s :=
  execVoidNotice_view dt a0 a1 a2 s (by unfold Sub; simp only [footprint]; decide)
theorem stationStateAnnouncement_within (dt : Nat) (a0 : LaneHdr) (a1 : Nat) (a2 : Nat) (a3 : Nat) (a4 : Nat) (a5 : Nat) (s : State) : InFootprint (.stationStateAnnouncement dt a0 a1 a2 a3 a4 a5) s :=
  execStationStateAnnouncement_view dt a0 a1 a2 a3 a4 a5 s (by unfold Sub; simp only [footprint]; decide)
theorem timeCorrectionAnnouncement_within (dt : Nat) (a0 : LaneHdr) (a1 : Nat) (a2 : Int) (a3 : Nat) (s : State) : InFootprint (.timeCorrectionAnnouncement dt a0 a1 a2 a3) s :=
  execTimeCorrectionAnnouncement_view dt a0 a1 a2 a3 s (by unfold Sub; simp only [footprint]; decide)
theorem panelStartAnnouncement_within (dt : Nat) (a0 : LaneHdr) (a1 : Nat) (a2 : Nat) (a3 : Nat) (a4 : Nat) (a5 : Bool) (s : State) : InFootprint (.panelStartAnnouncement dt a0 a1 a2 a3 a4 a5) s :=
  execPanelStartAnnouncement_view dt a0 a1 a2 a3 a4 a5 s (by unfold Sub; simp only [footprint]; decide)
theorem mailboxForwardFrame_within (dt : Nat) (a0 : LaneHdr) (a1 : ForwardIn) (s : State) : InFootprint (.mailboxForwardFrame dt a0 a1) s :=
  execMailboxForwardFrame_view dt a0 a1 s (by unfold Sub; simp only [footprint]; decide)
theorem accessionFrame_within (dt : Nat) (a0 : LaneHdr) (a1 : AccessIn) (s : State) : InFootprint (.accessionFrame dt a0 a1) s :=
  execAccessionFrame_view dt a0 a1 s (by unfold Sub; simp only [footprint]; decide)
theorem statusFrame_within (dt : Nat) (a0 : LaneHdr) (a1 : StatusIn) (s : State) : InFootprint (.statusFrame dt a0 a1) s :=
  execStatusFrame_view dt a0 a1 s (by unfold Sub; simp only [footprint]; decide)
theorem syncLaneDown_within (dt : Nat) (a0 : Nat) (a1 : Nat) (s : State) : InFootprint (.syncLaneDown dt a0 a1) s :=
  execSyncLaneDown_view dt a0 a1 s (by unfold Sub; simp only [footprint]; decide)
theorem syncLaneUp_within (dt : Nat) (a0 : Nat) (s : State) : InFootprint (.syncLaneUp dt a0) s :=
  execSyncLaneUp_view dt a0 s (by unfold Sub; simp only [footprint]; decide)
theorem partnerHeartbeatLost_within (dt : Nat) (s : State) : InFootprint (.partnerHeartbeatLost dt) s :=
  execPartnerHeartbeatLost_view dt s (by unfold Sub; simp only [footprint]; decide)
theorem partnerHeartbeatPresent_within (dt : Nat) (s : State) : InFootprint (.partnerHeartbeatPresent dt) s :=
  execPartnerHeartbeatPresent_view dt s (by unfold Sub; simp only [footprint]; decide)
theorem isolatingPatternSeen_within (dt : Nat) (s : State) : InFootprint (.isolatingPatternSeen dt) s :=
  execIsolatingPatternSeen_view dt s (by unfold Sub; simp only [footprint]; decide)
theorem isolationF1_within (dt : Nat) (s : State) : InFootprint (.isolationF1 dt) s :=
  execIsolationF1_view dt s (by unfold Sub; simp only [footprint]; decide)
theorem departureF_within (dt : Nat) (s : State) : InFootprint (.departureF dt) s :=
  execDepartureF_view dt s (by unfold Sub; simp only [footprint]; decide)
theorem copyComplete_within (dt : Nat) (s : State) : InFootprint (.copyComplete dt) s :=
  execCopyComplete_view dt s (by unfold Sub; simp only [footprint]; decide)
theorem copyTimeout_within (dt : Nat) (s : State) : InFootprint (.copyTimeout dt) s :=
  execCopyTimeout_view dt s (by unfold Sub; simp only [footprint]; decide)
theorem soakExpiry_within (dt : Nat) (s : State) : InFootprint (.soakExpiry dt) s :=
  execSoakExpiry_view dt s (by unfold Sub; simp only [footprint]; decide)
theorem alarmScan_within (dt : Nat) (a0 : List (Nat × Nat)) (s : State) : InFootprint (.alarmScan dt a0) s :=
  execAlarmScan_view dt a0 s (by unfold Sub; simp only [footprint]; decide)
theorem onDelayExpiry_within (dt : Nat) (a0 : Nat) (s : State) : InFootprint (.onDelayExpiry dt a0) s :=
  execOnDelayExpiry_view dt a0 s (by unfold Sub; simp only [footprint]; decide)
theorem offDelayExpiry_within (dt : Nat) (a0 : Nat) (s : State) : InFootprint (.offDelayExpiry dt a0) s :=
  execOffDelayExpiry_view dt a0 s (by unfold Sub; simp only [footprint]; decide)
theorem rateWindowEnd_within (dt : Nat) (a0 : Nat) (s : State) : InFootprint (.rateWindowEnd dt a0) s :=
  execRateWindowEnd_view dt a0 s (by unfold Sub; simp only [footprint]; decide)
theorem shelveExpiry_within (dt : Nat) (a0 : Nat) (s : State) : InFootprint (.shelveExpiry dt a0) s :=
  execShelveExpiry_view dt a0 s (by unfold Sub; simp only [footprint]; decide)
theorem releaseDelayExpiry_within (dt : Nat) (a0 : Nat) (s : State) : InFootprint (.releaseDelayExpiry dt a0) s :=
  execReleaseDelayExpiry_view dt a0 s (by unfold Sub; simp only [footprint]; decide)
theorem rungTimeExpiry_within (dt : Nat) (s : State) : InFootprint (.rungTimeExpiry dt) s :=
  execRungTimeExpiry_view dt s (by unfold Sub; simp only [footprint]; decide)
theorem rungRepeat_within (dt : Nat) (s : State) : InFootprint (.rungRepeat dt) s :=
  execRungRepeat_view dt s (by unfold Sub; simp only [footprint]; decide)
theorem unackReminder_within (dt : Nat) (a0 : Nat) (s : State) : InFootprint (.unackReminder dt a0) s :=
  execUnackReminder_view dt a0 s (by unfold Sub; simp only [footprint]; decide)
theorem alarmFrameLate_within (dt : Nat) (s : State) : InFootprint (.alarmFrameLate dt) s :=
  execAlarmFrameLate_view dt s (by unfold Sub; simp only [footprint]; decide)
theorem alarmBorrowTimeout_within (dt : Nat) (a0 : Nat) (s : State) : InFootprint (.alarmBorrowTimeout dt a0) s :=
  execAlarmBorrowTimeout_view dt a0 s (by unfold Sub; simp only [footprint]; decide)
theorem callAckMessage_within (dt : Nat) (a0 : Packet) (s : State) : InFootprint (.callAckMessage dt a0) s :=
  execCallAckMessage_view dt a0 s (by unfold Sub; simp only [footprint]; decide)
theorem journalFlashWrite_within (dt : Nat) (a0 : Nat) (s : State) : InFootprint (.journalFlashWrite dt a0) s :=
  execJournalFlashWrite_view dt a0 s (by unfold Sub; simp only [footprint]; decide)
theorem loopTrigger_within (dt : Nat) (a0 : Nat) (s : State) : InFootprint (.loopTrigger dt a0) s :=
  execLoopTrigger_view dt a0 s (by unfold Sub; simp only [footprint]; decide)
theorem loopEvaluation_within (dt : Nat) (a0 : Nat) (a1 : List (Nat × Nat)) (s : State) : InFootprint (.loopEvaluation dt a0 a1) s :=
  execLoopEvaluation_view dt a0 a1 s (by unfold Sub; simp only [footprint]; decide)
theorem loopSignatureExchange_within (dt : Nat) (a0 : U64) (s : State) : InFootprint (.loopSignatureExchange dt a0) s :=
  execLoopSignatureExchange_view dt a0 s (by unfold Sub; simp only [footprint]; decide)
theorem loopBorrowTimeout_within (dt : Nat) (s : State) : InFootprint (.loopBorrowTimeout dt) s :=
  execLoopBorrowTimeout_view dt s (by unfold Sub; simp only [footprint]; decide)
theorem injectionEnd_within (dt : Nat) (a0 : Nat) (s : State) : InFootprint (.injectionEnd dt a0) s :=
  execInjectionEnd_view dt a0 s (by unfold Sub; simp only [footprint]; decide)
theorem migrationStart_within (dt : Nat) (a0 : Nat) (a1 : List (Nat × U64)) (s : State) : InFootprint (.migrationStart dt a0 a1) s :=
  execMigrationStart_view dt a0 a1 s (by unfold Sub; simp only [footprint]; decide)
theorem dramCopyComplete_within (dt : Nat) (s : State) : InFootprint (.dramCopyComplete dt) s :=
  execDramCopyComplete_view dt s (by unfold Sub; simp only [footprint]; decide)
theorem flashBlockCopyDone_within (dt : Nat) (a0 : Nat) (a1 : Nat) (s : State) : InFootprint (.flashBlockCopyDone dt a0 a1) s :=
  execFlashBlockCopyDone_view dt a0 a1 s (by unfold Sub; simp only [footprint]; decide)
theorem spoilArrival_within (dt : Nat) (a0 : Nat) (a1 : Nat) (a2 : Nat) (s : State) : InFootprint (.spoilArrival dt a0 a1 a2) s :=
  execSpoilArrival_view dt a0 a1 a2 s (by unfold Sub; simp only [footprint]; decide)
theorem recalRotationStart_within (dt : Nat) (s : State) : InFootprint (.recalRotationStart dt) s :=
  execRecalRotationStart_view dt s (by unfold Sub; simp only [footprint]; decide)
theorem standinCalibrationDone_within (dt : Nat) (a0 : List Nat) (a1 : List Nat) (s : State) : InFootprint (.standinCalibrationDone dt a0 a1) s :=
  execStandinCalibrationDone_view dt a0 a1 s (by unfold Sub; simp only [footprint]; decide)
theorem shadowPassDone_within (dt : Nat) (s : State) : InFootprint (.shadowPassDone dt) s :=
  execShadowPassDone_view dt s (by unfold Sub; simp only [footprint]; decide)
theorem dramEccError_within (dt : Nat) (a0 : Nat) (a1 : Bool) (a2 : Bool) (a3 : Option Nat) (s : State) : InFootprint (.dramEccError dt a0 a1 a2 a3) s :=
  execDramEccError_view dt a0 a1 a2 a3 s (by unfold Sub; simp only [footprint]; decide)
theorem flashProgramFailure_within (dt : Nat) (a0 : Nat) (a1 : Bool) (s : State) : InFootprint (.flashProgramFailure dt a0 a1) s :=
  execFlashProgramFailure_view dt a0 a1 s (by unfold Sub; simp only [footprint]; decide)
theorem oscillatorFault_within (dt : Nat) (a0 : Nat) (a1 : Bool) (a2 : Nat) (a3 : Nat) (s : State) : InFootprint (.oscillatorFault dt a0 a1 a2 a3) s :=
  execOscillatorFault_view dt a0 a1 a2 a3 s (by unfold Sub; simp only [footprint]; decide)
theorem spareSelfTest_within (dt : Nat) (a0 : Nat) (a1 : Bool) (s : State) : InFootprint (.spareSelfTest dt a0 a1) s :=
  execSpareSelfTest_view dt a0 a1 s (by unfold Sub; simp only [footprint]; decide)
theorem ledgerWrite_within (dt : Nat) (s : State) : InFootprint (.ledgerWrite dt) s :=
  execLedgerWrite_view dt s (by unfold Sub; simp only [footprint]; decide)
theorem regionFault_within (dt : Nat) (a0 : Access) (s : State) : InFootprint (.regionFault dt a0) s :=
  execRegionFault_view dt a0 s (by unfold Sub; simp only [footprint]; decide)
theorem colourViolation_within (dt : Nat) (a0 : Access) (s : State) : InFootprint (.colourViolation dt a0) s :=
  execColourViolation_view dt a0 s (by unfold Sub; simp only [footprint]; decide)
theorem regionOverlap_within (dt : Nat) (a0 : Nat) (a1 : List Nat) (a2 : Bool) (a3 : Access) (s : State) : InFootprint (.regionOverlap dt a0 a1 a2 a3) s :=
  execRegionOverlap_view dt a0 a1 a2 a3 s (by unfold Sub; simp only [footprint]; decide)
theorem sealedAccess_within (dt : Nat) (a0 : Nat) (a1 : Nat) (a2 : Nat) (s : State) : InFootprint (.sealedAccess dt a0 a1 a2) s :=
  execSealedAccess_view dt a0 a1 a2 s
theorem arbitrationGrant_within (dt : Nat) (a0 : Nat) (a1 : Nat) (s : State) : InFootprint (.arbitrationGrant dt a0 a1) s :=
  execArbitrationGrant_view dt a0 a1 s (by unfold Sub; simp only [footprint]; decide)
theorem budgetFrameStart_within (dt : Nat) (a0 : Nat) (s : State) : InFootprint (.budgetFrameStart dt a0) s :=
  execBudgetFrameStart_view dt a0 s (by unfold Sub; simp only [footprint]; decide)
theorem budgetCutoff_within (dt : Nat) (a0 : Nat) (s : State) : InFootprint (.budgetCutoff dt a0) s :=
  execBudgetCutoff_view dt a0 s (by unfold Sub; simp only [footprint]; decide)
theorem converterResult_within (dt : Nat) (a0 : Nat) (a1 : ConvIn) (s : State) : InFootprint (.converterResult dt a0 a1) s :=
  execConverterResult_view dt a0 a1 s (by unfold Sub; simp only [footprint]; decide)
theorem excitationSwap_within (dt : Nat) (a0 : Nat) (a1 : ExcIn) (s : State) : InFootprint (.excitationSwap dt a0 a1) s :=
  execExcitationSwap_view dt a0 a1 s (by unfold Sub; simp only [footprint]; decide)
theorem cmMeasurement_within (dt : Nat) (a0 : Nat) (a1 : Int) (s : State) : InFootprint (.cmMeasurement dt a0 a1) s :=
  execCmMeasurement_view dt a0 a1 s (by unfold Sub; simp only [footprint]; decide)
theorem driftComparison_within (dt : Nat) (a0 : Nat) (s : State) : InFootprint (.driftComparison dt a0) s :=
  execDriftComparison_view dt a0 s (by unfold Sub; simp only [footprint]; decide)
theorem stageMeasurement_within (dt : Nat) (a0 : Nat) (a1 : StageIn) (s : State) : InFootprint (.stageMeasurement dt a0 a1) s :=
  execStageMeasurement_view dt a0 a1 s (by unfold Sub; simp only [footprint]; decide)
theorem aoDebounceExpiry_within (dt : Nat) (a0 : Nat) (s : State) : InFootprint (.aoDebounceExpiry dt a0) s :=
  execAoDebounceExpiry_view dt a0 s (by unfold Sub; simp only [footprint]; decide)
theorem stageSupplyFault_within (dt : Nat) (a0 : Nat) (s : State) : InFootprint (.stageSupplyFault dt a0) s :=
  execStageSupplyFault_view dt a0 s (by unfold Sub; simp only [footprint]; decide)
theorem stageThermalLimit_within (dt : Nat) (a0 : Nat) (a1 : Nat) (s : State) : InFootprint (.stageThermalLimit dt a0 a1) s :=
  execStageThermalLimit_view dt a0 a1 s (by unfold Sub; simp only [footprint]; decide)
theorem hartPollDue_within (dt : Nat) (a0 : Nat) (s : State) : InFootprint (.hartPollDue dt a0) s :=
  execHartPollDue_view dt a0 s (by unfold Sub; simp only [footprint]; decide)
theorem hartResponse_within (dt : Nat) (a0 : Nat) (a1 : HartIn) (s : State) : InFootprint (.hartResponse dt a0 a1) s :=
  execHartResponse_view dt a0 a1 s (by unfold Sub; simp only [footprint]; decide)
theorem hartResponseTimeout_within (dt : Nat) (a0 : Nat) (s : State) : InFootprint (.hartResponseTimeout dt a0) s :=
  execHartResponseTimeout_view dt a0 s (by unfold Sub; simp only [footprint]; decide)
theorem hartBurstFrame_within (dt : Nat) (a0 : Nat) (a1 : HartIn) (s : State) : InFootprint (.hartBurstFrame dt a0 a1) s :=
  execHartBurstFrame_view dt a0 a1 s (by unfold Sub; simp only [footprint]; decide)
theorem hartIdentifyRetry_within (dt : Nat) (a0 : Nat) (s : State) : InFootprint (.hartIdentifyRetry dt a0) s :=
  execHartIdentifyRetry_view dt a0 s (by unfold Sub; simp only [footprint]; decide)
theorem diEdgeConfirmed_within (dt : Nat) (a0 : Nat) (a1 : Bool) (s : State) : InFootprint (.diEdgeConfirmed dt a0 a1) s :=
  execDiEdgeConfirmed_view dt a0 a1 s (by unfold Sub; simp only [footprint]; decide)
theorem chatterSecondEnd_within (dt : Nat) (s : State) : InFootprint (.chatterSecondEnd dt) s :=
  execChatterSecondEnd_view dt s (by unfold Sub; simp only [footprint]; decide)
theorem wireBreakTimeout_within (dt : Nat) (a0 : Nat) (a1 : Nat) (s : State) : InFootprint (.wireBreakTimeout dt a0 a1) s :=
  execWireBreakTimeout_view dt a0 a1 s (by unfold Sub; simp only [footprint]; decide)
theorem sensorSupplyLost_within (dt : Nat) (a0 : Nat) (a1 : Nat) (s : State) : InFootprint (.sensorSupplyLost dt a0 a1) s :=
  execSensorSupplyLost_view dt a0 a1 s (by unfold Sub; simp only [footprint]; decide)
theorem sensorSupplyRecovered_within (dt : Nat) (a0 : Nat) (a1 : Nat) (s : State) : InFootprint (.sensorSupplyRecovered dt a0 a1) s :=
  execSensorSupplyRecovered_view dt a0 a1 s (by unfold Sub; simp only [footprint]; decide)
theorem doOvercurrent_within (dt : Nat) (a0 : Nat) (s : State) : InFootprint (.doOvercurrent dt a0) s :=
  execDoOvercurrent_view dt a0 s (by unfold Sub; simp only [footprint]; decide)
theorem doThermalShutdown_within (dt : Nat) (a0 : Nat) (s : State) : InFootprint (.doThermalShutdown dt a0) s :=
  execDoThermalShutdown_view dt a0 s (by unfold Sub; simp only [footprint]; decide)
theorem doRetry_within (dt : Nat) (a0 : Nat) (a1 : Nat) (s : State) : InFootprint (.doRetry dt a0 a1) s :=
  execDoRetry_view dt a0 a1 s (by unfold Sub; simp only [footprint]; decide)
theorem doFaultFreeSecond_within (dt : Nat) (a0 : Nat) (s : State) : InFootprint (.doFaultFreeSecond dt a0) s :=
  execDoFaultFreeSecond_view dt a0 s (by unfold Sub; simp only [footprint]; decide)
theorem doReadbackMismatch_within (dt : Nat) (a0 : Nat) (a1 : Bool) (s : State) : InFootprint (.doReadbackMismatch dt a0 a1) s :=
  execDoReadbackMismatch_view dt a0 a1 s (by unfold Sub; simp only [footprint]; decide)
theorem fieldSupplyLost_within (dt : Nat) (a0 : Nat) (a1 : Nat) (s : State) : InFootprint (.fieldSupplyLost dt a0 a1) s :=
  execFieldSupplyLost_view dt a0 a1 s (by unfold Sub; simp only [footprint]; decide)
theorem fieldSupplyRestored_within (dt : Nat) (a0 : Nat) (a1 : Nat) (s : State) : InFootprint (.fieldSupplyRestored dt a0 a1) s :=
  execFieldSupplyRestored_view dt a0 a1 s (by unfold Sub; simp only [footprint]; decide)
theorem callOutputFault_within (dt : Nat) (a0 : Nat) (a1 : Nat) (a2 : Bool) (s : State) : InFootprint (.callOutputFault dt a0 a1 a2) s :=
  execCallOutputFault_view dt a0 a1 a2 s (by unfold Sub; simp only [footprint]; decide)
theorem callRetry_within (dt : Nat) (a0 : Nat) (a1 : Nat) (s : State) : InFootprint (.callRetry dt a0 a1) s :=
  execCallRetry_view dt a0 a1 s (by unfold Sub; simp only [footprint]; decide)
theorem ackEdge_within (dt : Nat) (a0 : Nat) (s : State) : InFootprint (.ackEdge dt a0) s :=
  execAckEdge_view dt a0 s (by unfold Sub; simp only [footprint]; decide)
theorem phaseEdge_within (dt : Nat) (a0 : Nat) (a1 : EdgeIn) (s : State) : InFootprint (.phaseEdge dt a0 a1) s :=
  execPhaseEdge_view dt a0 a1 s (by unfold Sub; simp only [footprint]; decide)
theorem phaseUnlockTimeout_within (dt : Nat) (a0 : Nat) (s : State) : InFootprint (.phaseUnlockTimeout dt a0) s :=
  execPhaseUnlockTimeout_view dt a0 s (by unfold Sub; simp only [footprint]; decide)
theorem catalogueEntryFire_within (dt : Nat) (a0 : Nat) (s : State) : InFootprint (.catalogueEntryFire dt a0) s :=
  execCatalogueEntryFire_view dt a0 s (by unfold Sub; simp only [footprint]; decide)
theorem catalogueDeferredFire_within (dt : Nat) (s : State) : InFootprint (.catalogueDeferredFire dt) s :=
  execCatalogueDeferredFire_view dt s (by unfold Sub; simp only [footprint]; decide)
theorem pnLinkDown_within (dt : Nat) (a0 : Nat) (s : State) : InFootprint (.pnLinkDown dt a0) s :=
  execPnLinkDown_view dt a0 s (by unfold Sub; simp only [footprint]; decide)
theorem prpLanDown_within (dt : Nat) (a0 : Nat) (s : State) : InFootprint (.prpLanDown dt a0) s :=
  execPrpLanDown_view dt a0 s (by unfold Sub; simp only [footprint]; decide)
theorem servicePortLink_within (dt : Nat) (a0 : Bool) (s : State) : InFootprint (.servicePortLink dt a0) s :=
  execServicePortLink_view dt a0 s (by unfold Sub; simp only [footprint]; decide)
theorem arpAnnounce_within (dt : Nat) (a0 : Nat) (s : State) : InFootprint (.arpAnnounce dt a0) s :=
  execArpAnnounce_view dt a0 s (by unfold Sub; simp only [footprint]; decide)
theorem duplicateAddress_within (dt : Nat) (a0 : Nat) (a1 : U64) (s : State) : InFootprint (.duplicateAddress dt a0 a1) s :=
  execDuplicateAddress_view dt a0 a1 s (by unfold Sub; simp only [footprint]; decide)
theorem addressConflictClear_within (dt : Nat) (a0 : Nat) (s : State) : InFootprint (.addressConflictClear dt a0) s :=
  execAddressConflictClear_view dt a0 s (by unfold Sub; simp only [footprint]; decide)
theorem inputFrame_within (dt : Nat) (a0 : U32) (a1 : Nat) (a2 : Bool) (a3 : List Byte) (s : State) : InFootprint (.inputFrame dt a0 a1 a2 a3) s :=
  execInputFrame_view dt a0 a1 a2 a3 s (by unfold Sub; simp only [footprint]; decide)
theorem stationAnswer_within (dt : Nat) (a0 : U32) (a1 : List Byte) (s : State) : InFootprint (.stationAnswer dt a0 a1) s :=
  execStationAnswer_view dt a0 a1 s (by unfold Sub; simp only [footprint]; decide)
theorem accessionRetry_within (dt : Nat) (a0 : Nat) (s : State) : InFootprint (.accessionRetry dt a0) s :=
  execAccessionRetry_view dt a0 s (by unfold Sub; simp only [footprint]; decide)
theorem stationTimeout_within (dt : Nat) (a0 : Nat) (s : State) : InFootprint (.stationTimeout dt a0) s :=
  execStationTimeout_view dt a0 s (by unfold Sub; simp only [footprint]; decide)
theorem ptpSync_within (dt : Nat) (a0 : Nat) (a1 : Int) (s : State) : InFootprint (.ptpSync dt a0 a1) s :=
  execPtpSync_view dt a0 a1 s (by unfold Sub; simp only [footprint]; decide)
theorem ptpAnnounce_within (dt : Nat) (a0 : Nat) (a1 : AnnIn) (s : State) : InFootprint (.ptpAnnounce dt a0 a1) s :=
  execPtpAnnounce_view dt a0 a1 s (by unfold Sub; simp only [footprint]; decide)
theorem ptpTimeout_within (dt : Nat) (a0 : Nat) (s : State) : InFootprint (.ptpTimeout dt a0) s :=
  execPtpTimeout_view dt a0 s (by unfold Sub; simp only [footprint]; decide)
theorem timeCorrectionApply_within (dt : Nat) (s : State) : InFootprint (.timeCorrectionApply dt) s :=
  execTimeCorrectionApply_view dt s (by unfold Sub; simp only [footprint]; decide)
theorem slewEnd_within (dt : Nat) (s : State) : InFootprint (.slewEnd dt) s :=
  execSlewEnd_view dt s (by unfold Sub; simp only [footprint]; decide)
theorem canFrameReceived_within (dt : Nat) (a0 : Nat) (a1 : Nat) (a2 : List Byte) (s : State) : InFootprint (.canFrameReceived dt a0 a1 a2) s :=
  execCanFrameReceived_view dt a0 a1 a2 s (by unfold Sub; simp only [footprint]; decide)
theorem canFrameSent_within (dt : Nat) (a0 : Nat) (a1 : Nat) (a2 : Nat) (s : State) : InFootprint (.canFrameSent dt a0 a1 a2) s :=
  execCanFrameSent_view dt a0 a1 a2 s (by unfold Sub; simp only [footprint]; decide)
theorem canBusError_within (dt : Nat) (a0 : Nat) (a1 : Nat) (a2 : Nat) (a3 : Nat) (s : State) : InFootprint (.canBusError dt a0 a1 a2 a3) s :=
  execCanBusError_view dt a0 a1 a2 a3 s (by unfold Sub; simp only [footprint]; decide)
theorem canRecoveryDone_within (dt : Nat) (a0 : Nat) (s : State) : InFootprint (.canRecoveryDone dt a0) s :=
  execCanRecoveryDone_view dt a0 s (by unfold Sub; simp only [footprint]; decide)
theorem canTxTimeout_within (dt : Nat) (a0 : Nat) (a1 : Nat) (s : State) : InFootprint (.canTxTimeout dt a0 a1) s :=
  execCanTxTimeout_view dt a0 a1 s (by unfold Sub; simp only [footprint]; decide)
theorem panelFrame_within (dt : Nat) (s : State) : InFootprint (.panelFrame dt) s :=
  execPanelFrame_view dt s (by unfold Sub; simp only [footprint]; decide)
theorem panelUpdateEnd_within (dt : Nat) (a0 : Nat) (s : State) : InFootprint (.panelUpdateEnd dt a0) s :=
  execPanelUpdateEnd_view dt a0 s (by unfold Sub; simp only [footprint]; decide)
theorem panelTemperatureRead_within (dt : Nat) (s : State) : InFootprint (.panelTemperatureRead dt) s :=
  execPanelTemperatureRead_view dt s (by unfold Sub; simp only [footprint]; decide)
theorem blinkHalf_within (dt : Nat) (s : State) : InFootprint (.blinkHalf dt) s :=
  execBlinkHalf_view dt s (by unfold Sub; simp only [footprint]; decide)
theorem panelRailFault_within (dt : Nat) (a0 : Nat) (a1 : Nat) (s : State) : InFootprint (.panelRailFault dt a0 a1) s :=
  execPanelRailFault_view dt a0 a1 s (by unfold Sub; simp only [footprint]; decide)
theorem panelRailGood_within (dt : Nat) (a0 : Nat) (a1 : Nat) (s : State) : InFootprint (.panelRailGood dt a0 a1) s :=
  execPanelRailGood_view dt a0 a1 s (by unfold Sub; simp only [footprint]; decide)
theorem archiveFlashWrite_within (dt : Nat) (a0 : Nat) (s : State) : InFootprint (.archiveFlashWrite dt a0) s :=
  execArchiveFlashWrite_view dt a0 s (by unfold Sub; simp only [footprint]; decide)
theorem trendSample_within (dt : Nat) (a0 : Nat) (s : State) : InFootprint (.trendSample dt a0) s :=
  execTrendSample_view dt a0 s (by unfold Sub; simp only [footprint]; decide)
theorem ioBusFrameBoundary_within (dt : Nat) (a0 : Nat) (s : State) : InFootprint (.ioBusFrameBoundary dt a0) s :=
  execIoBusFrameBoundary_view dt a0 s (by unfold Sub; simp only [footprint]; decide)
theorem pnLinkUp_within (dt : Nat) (a0 : Nat) (a1 : Nat) (a2 : Bool) (s : State) : InFootprint (.pnLinkUp dt a0 a1 a2) s :=
  execPnLinkUp_view dt a0 a1 a2 s (by unfold Sub; simp only [footprint]; decide)
theorem feedRestored_within (dt : Nat) (a0 : Nat) (s : State) : InFootprint (.feedRestored dt a0) s :=
  execFeedRestored_view dt a0 s (by unfold Sub; simp only [footprint]; decide)
theorem holdupBankCharged_within (dt : Nat) (s : State) : InFootprint (.holdupBankCharged dt) s :=
  execHoldupBankCharged_view dt s (by unfold Sub; simp only [footprint]; decide)
theorem curatorDiagnosticUpdate_within (dt : Nat) (a0 : DiagIn) (s : State) : InFootprint (.curatorDiagnosticUpdate dt a0) s :=
  execCuratorDiagnosticUpdate_view dt a0 s (by unfold Sub; simp only [footprint]; decide)
theorem takebackRetry_within (dt : Nat) (s : State) : InFootprint (.takebackRetry dt) s :=
  execTakebackRetry_view dt s (by unfold Sub; simp only [footprint]; decide)
theorem dramCeWindowRestart_within (dt : Nat) (s : State) : InFootprint (.dramCeWindowRestart dt) s :=
  execDramCeWindowRestart_view dt s (by unfold Sub; simp only [footprint]; decide)
theorem stageHotHour_within (dt : Nat) (a0 : Nat) (s : State) : InFootprint (.stageHotHour dt a0) s :=
  execStageHotHour_view dt a0 s (by unfold Sub; simp only [footprint]; decide)
theorem phaseExtrapolation_within (dt : Nat) (a0 : Nat) (s : State) : InFootprint (.phaseExtrapolation dt a0) s :=
  execPhaseExtrapolation_view dt a0 s (by unfold Sub; simp only [footprint]; decide)
theorem diFilterSample_within (dt : Nat) (a0 : Nat) (a1 : Bool) (s : State) : InFootprint (.diFilterSample dt a0 a1) s :=
  execDiFilterSample_view dt a0 a1 s (by unfold Sub; simp only [footprint]; decide)
theorem diRawTransition_within (dt : Nat) (a0 : Nat) (a1 : Bool) (s : State) : InFootprint (.diRawTransition dt a0 a1) s :=
  execDiRawTransition_view dt a0 a1 s (by unfold Sub; simp only [footprint]; decide)
theorem doReadbackFaultClear_within (dt : Nat) (a0 : Nat) (a1 : Bool) (s : State) : InFootprint (.doReadbackFaultClear dt a0 a1) s :=
  execDoReadbackFaultClear_view dt a0 a1 s (by unfold Sub; simp only [footprint]; decide)
theorem ptpDelayResponse_within (dt : Nat) (a0 : Nat) (a1 : U32) (s : State) : InFootprint (.ptpDelayResponse dt a0 a1) s :=
  execPtpDelayResponse_view dt a0 a1 s (by unfold Sub; simp only [footprint]; decide)

/-- Every command changes only what its footprint names. -/
theorem exec_within (c : Instr) (s : State) : InFootprint c s := by
  cases c with
  | identify => exact identify_within _ _ _
  | commandsList => exact commandsList_within _ _ _
  | openSession => exact openSession_within _ _ _ _ _
  | closeSession => exact closeSession_within _ _ _
  | setKey => exact setKey_within _ _ _
  | keyInfo => exact keyInfo_within _ _ _
  | subscribe => exact subscribe_within _ _ _
  | completionRead => exact completionRead_within _ _ _
  | paramRead => exact paramRead_within _ _ _
  | paramWrite => exact paramWrite_within _ _ _
  | tableRead => exact tableRead_within _ _ _
  | tableWrite => exact tableWrite_within _ _ _
  | commitConfig => exact commitConfig_within _ _ _
  | commitConfigDone => exact commitConfigDone_within _ _
  | discardEdits => exact discardEdits_within _ _ _
  | configExport => exact configExport_within _ _ _
  | configImport => exact configImport_within _ _ _
  | setMode => exact setMode_within _ _ _
  | restart => exact restart_within _ _ _
  | roleSwap => exact roleSwap_within _ _ _
  | eventRead => exact eventRead_within _ _ _
  | eventClear => exact eventClear_within _ _ _
  | programLoad => exact programLoad_within _ _ _
  | programSwitch => exact programSwitch_within _ _ _
  | programSwitchGap => exact programSwitchGap_within _ _
  | valueWrite => exact valueWrite_within _ _ _
  | valueWriteApply => exact valueWriteApply_within _ _ _
  | forceSet => exact forceSet_within _ _ _
  | forceClear => exact forceClear_within _ _ _
  | taskTrigger => exact taskTrigger_within _ _ _
  | split => exact split_within _ _ _
  | splitDrainInstant => exact splitDrainInstant_within _ _ _
  | splitDrainTimeout => exact splitDrainTimeout_within _ _ _
  | join => exact join_within _ _ _
  | joinLoadDone => exact joinLoadDone_within _ _ _
  | debugAttach => exact debugAttach_within _ _ _
  | debugDetach => exact debugDetach_within _ _ _
  | debugReadRegisters => exact debugReadRegisters_within _ _ _ _
  | debugWriteRegister => exact debugWriteRegister_within _ _ _ _ _
  | debugReadMemory => exact debugReadMemory_within _ _ _ _ _ _ _
  | debugWriteMemory => exact debugWriteMemory_within _ _ _ _ _ _ _
  | debugBreakpoint => exact debugBreakpoint_within _ _ _ _ _
  | debugHalt => exact debugHalt_within _ _ _
  | debugResume => exact debugResume_within _ _ _
  | debugStep => exact debugStep_within _ _ _ _
  | debugTracepoint => exact debugTracepoint_within _ _ _ _ _
  | annexMigrate => exact annexMigrate_within _ _ _
  | annexRotate => exact annexRotate_within _ _ _
  | ledgerRead => exact ledgerRead_within _ _ _
  | alarmAck => exact alarmAck_within _ _ _
  | alarmShelve => exact alarmShelve_within _ _ _
  | alarmUnshelve => exact alarmUnshelve_within _ _ _
  | ladderAck => exact ladderAck_within _ _ _
  | journalRead => exact journalRead_within _ _ _
  | archiveRead => exact archiveRead_within _ _ _
  | trendRead => exact trendRead_within _ _ _
  | aiCalibrate => exact aiCalibrate_within _ _ _
  | converterCalibrationDone => exact converterCalibrationDone_within _ _ _ _ _
  | aoTrimHold4 => exact aoTrimHold4_within _ _ _
  | aoTrimHold20 => exact aoTrimHold20_within _ _ _
  | aoTrimRecord4 => exact aoTrimRecord4_within _ _ _
  | aoTrimRecord20 => exact aoTrimRecord20_within _ _ _
  | aoTrimStore => exact aoTrimStore_within _ _ _
  | aoTrimRelease => exact aoTrimRelease_within _ _ _
  | aoTrimClear => exact aoTrimClear_within _ _ _
  | hartPass => exact hartPass_within _ _ _
  | loopInjectStart => exact loopInjectStart_within _ _ _
  | loopInjectStop => exact loopInjectStop_within _ _ _
  | loopCaptureArm => exact loopCaptureArm_within _ _ _
  | loopCaptureCancel => exact loopCaptureCancel_within _ _ _
  | loopCaptureRead => exact loopCaptureRead_within _ _ _
  | canSend => exact canSend_within _ _ _
  | canCancel => exact canCancel_within _ _ _ _
  | canRecover => exact canRecover_within _ _ _
  | panelUpdate => exact panelUpdate_within _ _ _
  | panelRefresh => exact panelRefresh_within _ _ _
  | timeAcceptStep => exact timeAcceptStep_within _ _ _
  | updateBegin => exact updateBegin_within _ _ _
  | updateAbandon => exact updateAbandon_within _ _ _
  | updateBlock => exact updateBlock_within _ _ _
  | updateVerify => exact updateVerify_within _ _ _
  | updateVerifyDone => exact updateVerifyDone_within _ _ _
  | updateIdleTimeout => exact updateIdleTimeout_within _ _ _
  | activate => exact activate_within _ _ _
  | firmwareReady => exact firmwareReady_within _ _
  | activationFailure => exact activationFailure_within _ _
  | activationDeadline => exact activationDeadline_within _ _
  | rollback => exact rollback_within _ _ _
  | seqGo => exact seqGo_within _ _ _
  | goAll => exact goAll_within _ _ _
  | seqStop => exact seqStop_within _ _ _
  | slotSwap => exact slotSwap_within _ _ _
  | slotTableSwapApply => exact slotTableSwapApply_within _ _
  | doFaultClear => exact doFaultClear_within _ _ _
  | arbFreeze => exact arbFreeze_within _ _ _
  | forwardTimeout => exact forwardTimeout_within _ _ _
  | reassemblyTimeout => exact reassemblyTimeout_within _ _
  | sessionIdleExpiry => exact sessionIdleExpiry_within _ _ _
  | authLockoutEnd => exact authLockoutEnd_within _ _ _ _
  | notifyHoldEnd => exact notifyHoldEnd_within _ _ _ _
  | powerApplied => exact powerApplied_within _ _ _ _
  | selftestComplete => exact selftestComplete_within _ _ _
  | switchInstant => exact switchInstant_within _ _
  | m3ShareEvaluation => exact m3ShareEvaluation_within _ _
  | holdLimitExpiry => exact holdLimitExpiry_within _ _
  | curatorRestart => exact curatorRestart_within _ _ _
  | curatorRestartDone => exact curatorRestartDone_within _ _
  | watchdogExpiry => exact watchdogExpiry_within _ _
  | powerFailDetected => exact powerFailDetected_within _ _
  | feedLoss => exact feedLoss_within _ _ _ _
  | feedReturnDuringSave => exact feedReturnDuringSave_within _ _ _
  | holdupEnd => exact holdupEnd_within _ _
  | periodicRetainSave => exact periodicRetainSave_within _ _
  | retainSaveTimeout => exact retainSaveTimeout_within _ _
  | taskDueStart => exact taskDueStart_within _ _ _
  | repeatFrameSend => exact repeatFrameSend_within _ _ _
  | sliceLoad => exact sliceLoad_within _ _ _
  | taskClose => exact taskClose_within _ _ _ _
  | cycleRelease => exact cycleRelease_within _ _ _ _
  | digestWaitExpiry => exact digestWaitExpiry_within _ _ _ _
  | taskFault => exact taskFault_within _ _ _ _ _
  | lockstepMismatch => exact lockstepMismatch_within _ _ _ _ _ _ _ _
  | recoveryRunStart => exact recoveryRunStart_within _ _ _
  | injectionTest => exact injectionTest_within _ _ _ _
  | injectionRetest => exact injectionRetest_within _ _ _ _
  | signatureWindowClose => exact signatureWindowClose_within _ _ _ _ _ _ _
  | agreedInputFrame => exact agreedInputFrame_within _ _ _ _
  | digestFrame => exact digestFrame_within _ _ _ _
  | withheldMarker => exact withheldMarker_within _ _ _ _ _ _
  | loopAgreementFrame => exact loopAgreementFrame_within _ _ _ _ _ _ _
  | loopAnswerFrame => exact loopAnswerFrame_within _ _ _ _ _ _ _
  | alarmAgreementFrame => exact alarmAgreementFrame_within _ _ _ _ _
  | alarmExchangeFrame => exact alarmExchangeFrame_within _ _ _ _
  | retainedHashFrame => exact retainedHashFrame_within _ _ _ _ _ _
  | copyDataFrame => exact copyDataFrame_within _ _ _ _
  | switchAnnouncement => exact switchAnnouncement_within _ _ _ _
  | departureNotice => exact departureNotice_within _ _ _ _
  | commandRelay => exact commandRelay_within _ _ _ _
  | pairCommandApply => exact pairCommandApply_within _ _
  | voidNotice => exact voidNotice_within _ _ _ _ _
  | stationStateAnnouncement => exact stationStateAnnouncement_within _ _ _ _ _ _ _ _
  | timeCorrectionAnnouncement => exact timeCorrectionAnnouncement_within _ _ _ _ _ _
  | panelStartAnnouncement => exact panelStartAnnouncement_within _ _ _ _ _ _ _ _
  | mailboxForwardFrame => exact mailboxForwardFrame_within _ _ _ _
  | accessionFrame => exact accessionFrame_within _ _ _ _
  | statusFrame => exact statusFrame_within _ _ _ _
  | syncLaneDown => exact syncLaneDown_within _ _ _ _
  | syncLaneUp => exact syncLaneUp_within _ _ _
  | partnerHeartbeatLost => exact partnerHeartbeatLost_within _ _
  | partnerHeartbeatPresent => exact partnerHeartbeatPresent_within _ _
  | isolatingPatternSeen => exact isolatingPatternSeen_within _ _
  | isolationF1 => exact isolationF1_within _ _
  | departureF => exact departureF_within _ _
  | copyComplete => exact copyComplete_within _ _
  | copyTimeout => exact copyTimeout_within _ _
  | soakExpiry => exact soakExpiry_within _ _
  | alarmScan => exact alarmScan_within _ _ _
  | onDelayExpiry => exact onDelayExpiry_within _ _ _
  | offDelayExpiry => exact offDelayExpiry_within _ _ _
  | rateWindowEnd => exact rateWindowEnd_within _ _ _
  | shelveExpiry => exact shelveExpiry_within _ _ _
  | releaseDelayExpiry => exact releaseDelayExpiry_within _ _ _
  | rungTimeExpiry => exact rungTimeExpiry_within _ _
  | rungRepeat => exact rungRepeat_within _ _
  | unackReminder => exact unackReminder_within _ _ _
  | alarmFrameLate => exact alarmFrameLate_within _ _
  | alarmBorrowTimeout => exact alarmBorrowTimeout_within _ _ _
  | callAckMessage => exact callAckMessage_within _ _ _
  | journalFlashWrite => exact journalFlashWrite_within _ _ _
  | loopTrigger => exact loopTrigger_within _ _ _
  | loopEvaluation => exact loopEvaluation_within _ _ _ _
  | loopSignatureExchange => exact loopSignatureExchange_within _ _ _
  | loopBorrowTimeout => exact loopBorrowTimeout_within _ _
  | injectionEnd => exact injectionEnd_within _ _ _
  | migrationStart => exact migrationStart_within _ _ _ _
  | dramCopyComplete => exact dramCopyComplete_within _ _
  | flashBlockCopyDone => exact flashBlockCopyDone_within _ _ _ _
  | spoilArrival => exact spoilArrival_within _ _ _ _ _
  | recalRotationStart => exact recalRotationStart_within _ _
  | standinCalibrationDone => exact standinCalibrationDone_within _ _ _ _
  | shadowPassDone => exact shadowPassDone_within _ _
  | dramEccError => exact dramEccError_within _ _ _ _ _ _
  | flashProgramFailure => exact flashProgramFailure_within _ _ _ _
  | oscillatorFault => exact oscillatorFault_within _ _ _ _ _ _
  | spareSelfTest => exact spareSelfTest_within _ _ _ _
  | ledgerWrite => exact ledgerWrite_within _ _
  | regionFault => exact regionFault_within _ _ _
  | colourViolation => exact colourViolation_within _ _ _
  | regionOverlap => exact regionOverlap_within _ _ _ _ _ _
  | sealedAccess => exact sealedAccess_within _ _ _ _ _
  | arbitrationGrant => exact arbitrationGrant_within _ _ _ _
  | budgetFrameStart => exact budgetFrameStart_within _ _ _
  | budgetCutoff => exact budgetCutoff_within _ _ _
  | converterResult => exact converterResult_within _ _ _ _
  | excitationSwap => exact excitationSwap_within _ _ _ _
  | cmMeasurement => exact cmMeasurement_within _ _ _ _
  | driftComparison => exact driftComparison_within _ _ _
  | stageMeasurement => exact stageMeasurement_within _ _ _ _
  | aoDebounceExpiry => exact aoDebounceExpiry_within _ _ _
  | stageSupplyFault => exact stageSupplyFault_within _ _ _
  | stageThermalLimit => exact stageThermalLimit_within _ _ _ _
  | hartPollDue => exact hartPollDue_within _ _ _
  | hartResponse => exact hartResponse_within _ _ _ _
  | hartResponseTimeout => exact hartResponseTimeout_within _ _ _
  | hartBurstFrame => exact hartBurstFrame_within _ _ _ _
  | hartIdentifyRetry => exact hartIdentifyRetry_within _ _ _
  | diEdgeConfirmed => exact diEdgeConfirmed_within _ _ _ _
  | chatterSecondEnd => exact chatterSecondEnd_within _ _
  | wireBreakTimeout => exact wireBreakTimeout_within _ _ _ _
  | sensorSupplyLost => exact sensorSupplyLost_within _ _ _ _
  | sensorSupplyRecovered => exact sensorSupplyRecovered_within _ _ _ _
  | doOvercurrent => exact doOvercurrent_within _ _ _
  | doThermalShutdown => exact doThermalShutdown_within _ _ _
  | doRetry => exact doRetry_within _ _ _ _
  | doFaultFreeSecond => exact doFaultFreeSecond_within _ _ _
  | doReadbackMismatch => exact doReadbackMismatch_within _ _ _ _
  | fieldSupplyLost => exact fieldSupplyLost_within _ _ _ _
  | fieldSupplyRestored => exact fieldSupplyRestored_within _ _ _ _
  | callOutputFault => exact callOutputFault_within _ _ _ _ _
  | callRetry => exact callRetry_within _ _ _ _
  | ackEdge => exact ackEdge_within _ _ _
  | phaseEdge => exact phaseEdge_within _ _ _ _
  | phaseUnlockTimeout => exact phaseUnlockTimeout_within _ _ _
  | catalogueEntryFire => exact catalogueEntryFire_within _ _ _
  | catalogueDeferredFire => exact catalogueDeferredFire_within _ _
  | pnLinkDown => exact pnLinkDown_within _ _ _
  | prpLanDown => exact prpLanDown_within _ _ _
  | servicePortLink => exact servicePortLink_within _ _ _
  | arpAnnounce => exact arpAnnounce_within _ _ _
  | duplicateAddress => exact duplicateAddress_within _ _ _ _
  | addressConflictClear => exact addressConflictClear_within _ _ _
  | inputFrame => exact inputFrame_within _ _ _ _ _ _
  | stationAnswer => exact stationAnswer_within _ _ _ _
  | accessionRetry => exact accessionRetry_within _ _ _
  | stationTimeout => exact stationTimeout_within _ _ _
  | ptpSync => exact ptpSync_within _ _ _ _
  | ptpAnnounce => exact ptpAnnounce_within _ _ _ _
  | ptpTimeout => exact ptpTimeout_within _ _ _
  | timeCorrectionApply => exact timeCorrectionApply_within _ _
  | slewEnd => exact slewEnd_within _ _
  | canFrameReceived => exact canFrameReceived_within _ _ _ _ _
  | canFrameSent => exact canFrameSent_within _ _ _ _ _
  | canBusError => exact canBusError_within _ _ _ _ _ _
  | canRecoveryDone => exact canRecoveryDone_within _ _ _
  | canTxTimeout => exact canTxTimeout_within _ _ _ _
  | panelFrame => exact panelFrame_within _ _
  | panelUpdateEnd => exact panelUpdateEnd_within _ _ _
  | panelTemperatureRead => exact panelTemperatureRead_within _ _
  | blinkHalf => exact blinkHalf_within _ _
  | panelRailFault => exact panelRailFault_within _ _ _ _
  | panelRailGood => exact panelRailGood_within _ _ _ _
  | archiveFlashWrite => exact archiveFlashWrite_within _ _ _
  | trendSample => exact trendSample_within _ _ _
  | ioBusFrameBoundary => exact ioBusFrameBoundary_within _ _ _
  | pnLinkUp => exact pnLinkUp_within _ _ _ _ _
  | feedRestored => exact feedRestored_within _ _ _
  | holdupBankCharged => exact holdupBankCharged_within _ _
  | curatorDiagnosticUpdate => exact curatorDiagnosticUpdate_within _ _ _
  | takebackRetry => exact takebackRetry_within _ _
  | dramCeWindowRestart => exact dramCeWindowRestart_within _ _
  | stageHotHour => exact stageHotHour_within _ _ _
  | phaseExtrapolation => exact phaseExtrapolation_within _ _ _
  | diFilterSample => exact diFilterSample_within _ _ _ _
  | diRawTransition => exact diRawTransition_within _ _ _ _
  | doReadbackFaultClear => exact doReadbackFaultClear_within _ _ _ _
  | ptpDelayResponse => exact ptpDelayResponse_within _ _ _ _

end Sys2Proof.Machine
end

