-- ==== Sys2Proof/Laws/Mailbox.lean ====
section
/-!
SUPPORT. A request that is heard and passes every check is answered: what the mailbox service makes of it, in one equation.
-/
namespace Sys2Proof.Machine

/-- What the service leaves of what a command has run to: its response, the journal entry, and what follows. -/
def answered (r : Req) (key : Option (List Byte)) (sid : U32) (rep : Rep) : State :=
  rep.after ((rep.st.respond r key (rep.session.getD sid) rep.status rep.arg rep.body).journalled r rep.status)

theorem serveReq_passes {c : Cmd} {r : Req} {u : State} {lvl : Nat} {unset : Bool} (key : Option (List Byte)) (sid : U32)
    (h : Passes c r u lvl unset) (hs : (c.run r (u.latch r)).status = .ok ∨ (c.run r (u.latch r)).status = .accepted)
    (hh : (c.run r (u.latch r)).hold = false) :
    u.serveReq c r key sid lvl unset = answered r key sid (c.run r (u.latch r)) := by
  obtain ⟨hf, ⟨row, hrow, hlvl, hchk⟩, hv, hp, hk, hb, ha⟩ := h
  have hk' : (unset && !([0x0002, 0x0013, 0x0012, 0x0011].contains r.code)) = false := by
    cases unset with
    | false => rfl
    | true => rw [hk rfl]; rfl
  unfold State.serveReq
  rw [hf]
  simp only [Bool.false_eq_true, if_false]
  rw [hrow]
  simp only [hv, ne_eq, not_true_eq_false, if_false, hp, hk', hb, Bool.or_false, ha, Bool.false_and, Bool.false_eq_true, hchk]
  unfold Cmd.carry
  simp only [ha, Bool.false_eq_true, if_false, hh, hs, if_true]
  rw [if_neg]
  · rfl
  · cases hl : row.level with
    | none => simp
    | some l =>
      have := hlvl l hl
      simp only [decide_eq_true_eq]
      omega

theorem assemble_whole (s : State) {p : Packet} (h : p.off = 0 ∧ p.data.length = p.total) : s.assemble p = (s, some p.data) := by
  unfold State.assemble
  rw [if_pos h]

/-- A heard datagram is served. -/
theorem receive_heard {c : Cmd} {e : State} {p : Packet} (h : Heard e p) :
    e.receive c p.via p.addr p.port p.data = e.serveFrame c (reqOf p) := by
  obtain ⟨hw, ha, hl, he, hu, hg, ht⟩ := h
  unfold State.receive
  rw [ha, hl, he, hu, hg]
  simp only [Bool.or_self, Bool.false_eq_true, if_false]
  exact if_neg ht

theorem execMail_heard {c : Cmd} {mine : List Byte → Bool} {dt : Nat} {p : Packet} {s : State} (h : Heard (s.elapse dt) p)
    (hm : mine p.data = true) : execMail c mine dt p s = .next ((s.elapse dt).serveFrame c (reqOf p)) := by
  unfold execMail
  rw [assemble_whole _ h.whole]
  simp only [hm, Bool.true_or, if_true]
  rw [receive_heard h]

/-- A fresh request of an open session is served. -/
theorem serveFrame_session {c : Cmd} {e : State} {p : Packet} {x : Session} (h : InSession e p x) :
    e.serveFrame c (reqOf p) = (e.noted p x).serveReq c (reqOf p) (some x.key) x.id x.level x.unsetKey := by
  obtain ⟨hh, hc, ho, hb, hk, hf⟩ := h
  unfold State.serveFrame
  rw [if_neg hc.1, if_neg hc.2]
  unfold State.sessionReq
  rw [ho]
  have h1 : ¬(x.via ≠ (reqOf p).via ∨ x.addr ≠ (reqOf p).addr ∨
      (hmac x.key ((reqOf p).head ++ (reqOf p).body)).take 16 ≠ (reqOf p).mac) := by
    rintro (h | h | h)
    · exact h hb.1
    · exact h hb.2
    · exact h hk
  simp only
  rw [if_neg h1]
  cases hx : x.counter with
  | none =>
    rw [hx] at hf
    simp only at hf
    have h3 : ((none : Option Nat) == some (reqOf p).counter) = false := rfl
    simp only [hf, bne_self_eq_false, Bool.false_eq_true, if_false]
    rw [hf] at h3
    simp only [h3, Bool.and_false]
    unfold State.noted
    rw [hf]
  | some k =>
    rw [hx] at hf
    simp only at hf
    have h2 : decide ((reqOf p).counter < k) = false := by simp; omega
    have h3 : ((reqOf p).counter == k) = false := by simp; omega
    have h4 : (some k == some (reqOf p).counter) = false := by
      simp
      omega
    simp only [h2, h3, h4, Bool.false_and, Bool.or_self, Bool.false_eq_true, if_false, Bool.and_false]
    rfl

/-- The state in which an accepted request runs: its session has taken note of it, and its mailbox holds it. -/
abbrev runsIn (e : State) (p : Packet) (x : Session) : State := (e.noted p x).latch (reqOf p)

/-- An accepted request is answered. -/
theorem execMail_accepted {c : Cmd} {mine : List Byte → Bool} {dt : Nat} {p : Packet} {s : State} {x : Session}
    (h : Accepted c (s.elapse dt) p x) (hm : mine p.data = true)
    (hs : (c.run (reqOf p) (runsIn (s.elapse dt) p x)).status = .ok ∨
      (c.run (reqOf p) (runsIn (s.elapse dt) p x)).status = .accepted)
    (hh : (c.run (reqOf p) (runsIn (s.elapse dt) p x)).hold = false) :
    execMail c mine dt p s = .next (answered (reqOf p) (some x.key) x.id (c.run (reqOf p) (runsIn (s.elapse dt) p x))) := by
  rw [execMail_heard h.toHeard hm, serveFrame_session h.toInSession, serveReq_passes _ _ h.passes hs hh]

theorem codeIs_of {p : Packet} {k : Nat} (h : (reqOf p).code = k) : codeIs k p.data = true := by
  unfold codeIs
  have : beAt p.data 4 2 = k := h
  rw [this]
  simp

/-! ## A response -/

/-- What a response to a request for this module changes while the Curator runs (R68, R79, R94, R96). -/
theorem respond_eq (s : State) {r : Req} (h : r.target ≠ 1) (hc : s.mbx.restarting = none) (k : Option (List Byte)) (sid : U32) (st : Status) (a : Nat)
    (b : List Byte) :
    s.respond r k sid st a b = { s with
      mbx := { s.mbx with
        boxes := (s.respond r k sid st a b).mbx.boxes
        status := tmod s.mbx.status st.code 0 (wrapInc 32)
        lastRefused := if st = .stateRefused then r.code else s.mbx.lastRefused }
      out := s.out ++ [response r k sid st a s.mode s.role b] } := by
  unfold State.respond State.reply
  simp only [if_neg h]
  split <;> split <;> first
    | rfl
    | (rename_i h'
       exact absurd h' (by show ¬(s.mbx.restarting.isSome = true); rw [hc]; exact Bool.false_ne_true))

theorem respond_out (s : State) {r : Req} (h : r.target ≠ 1) (hc : s.mbx.restarting = none) (k : Option (List Byte)) (sid : U32) (st : Status) (a : Nat)
    (b : List Byte) : (s.respond r k sid st a b).out = s.out ++ [response r k sid st a s.mode s.role b] := by
  rw [respond_eq s h hc]

theorem respond_body (s : State) {r : Req} (h : r.target ≠ 1) (hc : s.mbx.restarting = none) (k : Option (List Byte)) (sid : U32) (st : Status) (a : Nat)
    (b : List Byte) : (s.respond r k sid st a b).body = s.body := by
  rw [respond_eq s h hc]
  rfl

theorem respond_session (s : State) {r : Req} (h : r.target ≠ 1) (hc : s.mbx.restarting = none) (k : Option (List Byte)) (sid : U32) (st : Status) (a : Nat)
    (b : List Byte) (i : U32) : (s.respond r k sid st a b).session i = s.session i := by
  rw [respond_eq s h hc]
  rfl

/-- A change of one session that keeps its identifier. -/
theorem modSession_self {s : State} {i : U32} {x : Session} (hx : s.session i = some x) (f : Session → Session)
    (hf : ∀ y, (f y).id = y.id) : (s.modSession i f).session i = some (f x) := by
  unfold State.modSession State.session at *
  simp only
  generalize s.mbx.sessions = l at hx ⊢
  induction l with
  | nil => cases hx
  | cons a l ih =>
    simp only [List.map_cons, List.find?_cons] at hx ⊢
    by_cases ha : a.id = i
    · simp only [ha, beq_self_eq_true, if_true, hf] at hx ⊢
      cases hx
      rfl
    · have hb : (a.id == i) = false := by simpa using ha
      simp only [hb, if_neg ha] at hx ⊢
      exact ih hx

theorem noted_session {e : State} {p : Packet} {x : Session} (h : InSession e p x) :
    (e.noted p x).session x.id = some { x with counter := some (reqOf p).counter, lastTick := e.tick } := by
  have ho := h.open_
  have hx : x.id = (reqOf p).session := by
    have := List.find?_some ho
    simpa using this
  rw [← hx] at ho
  exact modSession_self ho _ (fun _ => rfl)

@[simp] theorem latch_body (s : State) (r : Req) : (s.latch r).body = s.body := rfl
@[simp] theorem latch_session (s : State) (r : Req) (i : U32) : (s.latch r).session i = s.session i := rfl
@[simp] theorem journalled_body (s : State) (r : Req) (st : Status) : (s.journalled r st).body = s.body := rfl
@[simp] theorem journalled_out (s : State) (r : Req) (st : Status) : (s.journalled r st).out = s.out := rfl
@[simp] theorem journalled_session (s : State) (r : Req) (st : Status) (i : U32) :
    (s.journalled r st).session i = s.session i := rfl

/-- A module that hears a request has its Curator running (R95). -/
theorem heard_runs {e : State} {p : Packet} (h : Heard e p) : e.mbx.restarting = none := by
  have ha := h.awake
  unfold State.mailboxSilent at ha
  simp only [Bool.or_eq_false_iff] at ha
  exact Option.not_isSome_iff_eq_none.mp (by rw [ha.1.2]; exact Bool.false_ne_true)

theorem inSession_id {e : State} {p : Packet} {x : Session} (h : InSession e p x) : (reqOf p).session = x.id := by
  have := List.find?_some h.open_
  exact (by simpa using this : x.id = (reqOf p).session).symm

/-- A command that ends with its response. -/
theorem mail_ok {c : Cmd} {mine : List Byte → Bool} {dt : Nat} {p : Packet} {s : State} {x : Session} {rep : Rep}
    (h : Accepted c (s.elapse dt) p x) (hm : mine p.data = true)
    (hr : c.run (reqOf p) (runsIn (s.elapse dt) p x) = rep) (hs : rep.status = .ok ∨ rep.status = .accepted)
    (hh : rep.hold = false) :
    execMail c mine dt p s = .next (answered (reqOf p) (some x.key) x.id rep) := by
  subst hr
  exact execMail_accepted h hm hs hh

/-- A command that reads: it answers, and leaves all but the mailbox as it was. -/
theorem mail_reads {c : Cmd} {mine : List Byte → Bool} {dt : Nat} {p : Packet} {s : State} {x : Session} {body : List Byte}
    {arg : Nat} (h : Accepted c (s.elapse dt) p x) (hm : mine p.data = true)
    (hr : c.run (reqOf p) (runsIn (s.elapse dt) p x) = okRep (runsIn (s.elapse dt) p x) body arg) :
    ∃ t, execMail c mine dt p s = .next t ∧ Answers t p x s.mode s.role .ok arg body := by
  refine ⟨_, mail_ok h hm hr (.inl rfl) rfl, ?_⟩
  have hc : (runsIn (s.elapse dt) p x).mbx.restarting = none := (heard_runs h.toHeard : (s.elapse dt).mbx.restarting = none)
  unfold Answers answered okRep
  simp only [id, journalled_out, respond_out _ h.here hc]
  rfl

end Sys2Proof.Machine
end

