-- ==== Sys2Proof/Laws/Rows.lean ====
section
/-!
SUPPORT. The rows of one shape: a mailbox row is the mailbox service with one command, and a lane row whose frame is not taken only
leaves what the lane has counted.
-/
namespace Sys2Proof.Machine

/-- A row of the mailbox service is one command of the service. -/
theorem exec_mail {i : Instr} {dt : Nat} {p : Packet} (h : mailOf i = some (dt, p)) :
    ∃ c mine, ∀ s, exec i s = execMail c mine dt p s := by
  cases i <;> first
    | (simp only [mailOf, reduceCtorEq] at h; done)
    | (simp only [mailOf, Option.some.injEq, Prod.mk.injEq] at h
       obtain ⟨rfl, rfl⟩ := h
       exact ⟨_, _, fun s => rfl⟩)

/-- A lane frame that is not taken. -/
theorem exec_lane_old {i : Instr} {dt : Nat} {h : LaneHdr} {s u : State} (hi : laneRow i = some (dt, h)) (hw : i.wf = true)
    (hl : (s.elapse dt).laneIn h = (false, u)) : exec i s = .next u := by
  cases i <;> first
    | (simp only [laneRow, reduceCtorEq] at hi; done)
    | (simp only [laneRow, Option.some.injEq, Prod.mk.injEq] at hi
       obtain ⟨rfl, rfl⟩ := hi
       simp only [Instr.wf, LaneHdr.wf, Bool.and_eq_true, decide_eq_true_eq] at hw
       simp only [exec, execAgreedInputFrame, execDigestFrame, execWithheldMarker, execLoopAgreementFrame, execLoopAnswerFrame,
         execAlarmAgreementFrame, execAlarmExchangeFrame, execRetainedHashFrame, execCopyDataFrame, execSwitchAnnouncement,
         execDepartureNotice, execCommandRelay, execVoidNotice, execStationStateAnnouncement, execTimeCorrectionAnnouncement,
         execPanelStartAnnouncement, execMailboxForwardFrame, execAccessionFrame, execStatusFrame, execLane, hl,
         Bool.false_eq_true, if_false]
       repeat rw [if_neg (by omega)])
end Sys2Proof.Machine
end

