-- ==== Sys2Proof/Laws/Session.lean ====
section
/-!
SUPPORT. What the end of a session leaves (R75).
-/
namespace Sys2Proof.Machine

theorem abandonUpdate_opened (s : State) (k c : Nat) : (s.abandonUpdate k c).opened = s.opened := by
  unfold State.abandonUpdate
  simp only
  split
  · rfl
  · exact (raise_opened _ _ _).trans (by split <;> rfl)

theorem endSession_opened (s : State) (i : U32) : (s.endSession i).opened = s.opened.filter (·.id != i) := by
  unfold State.endSession
  refine (foldl_opened (fun t a => ?_)).trans ?_
  · split
    · exact abandonUpdate_opened _ _ _
    · rfl
  · show List.map _ (List.filter _ _) = _
    unfold State.opened
    rw [List.filter_map]
    rfl

theorem endSessions_opened {α : Type} (l : List α) (f : α → U32) (s : State) :
    (l.foldl (fun s x => s.endSession (f x)) s).opened = s.opened.filter (fun y => l.all (fun a => y.id != f a)) := by
  induction l generalizing s with
  | nil => simp
  | cons a l ih =>
    rw [List.foldl_cons, ih, endSession_opened, List.filter_filter]
    congr 1
    funext y
    simp [Bool.and_comm]

theorem endSession_keys (s : State) (i : U32) : (s.endSession i).mbx.keys = s.mbx.keys :=
  kept (fun _ hm => endSession_view s i hm) .keys (by decide)

theorem endSessions_keys {α : Type} (l : List α) (f : α → U32) (s : State) :
    (l.foldl (fun s x => s.endSession (f x)) s).mbx.keys = s.mbx.keys := by
  induction l generalizing s with
  | nil => rfl
  | cons a l ih => rw [List.foldl_cons, ih, endSession_keys]

theorem respond_opened (s : State) {r : Req} (h : r.target ≠ 1) (hc : s.mbx.restarting = none) (k : Option (List Byte)) (sid : U32) (st : Status) (a : Nat)
    (b : List Byte) : (s.respond r k sid st a b).opened = s.opened := by
  rw [respond_eq s h hc]
  rfl

theorem noted_opened_id (e : State) (p : Packet) (x : Session) :
    (e.noted p x).opened.map (fun y => (y.id, y.level)) = e.opened.map (fun y => (y.id, y.level)) := by
  unfold State.noted State.modSession State.opened
  simp only [List.map_map]
  refine List.map_congr_left (fun y _ => ?_)
  simp only [Function.comp]
  split <;> rfl

end Sys2Proof.Machine
end

