-- ==== Sys2Proof/Tests/Cases.lean ====
section
/-!
SUPPORT. The concrete states and requests of the tests: a module of slot A in a mode and role, a session, a request sealed under the
session's key, and checks that evaluate whether a request is accepted.
-/
namespace Sys2Proof.Tests
open Sys2Proof.Machine

/-! ## States -/

/-- The module in a mode and role, in slot A, with a configuration loaded: every parameter at its reset value. -/
def at_ (m : Mode) (r : Role := .none) : State :=
  { State.reset with
    mu := { State.reset.mu with mode := m, role := r, slot := 0 }
    cfg := { State.reset.cfg with loaded := true, state := 1 } }

/-- Parameters in effect set to values. -/
def set (l : List (Nat × Nat)) (s : State) : State :=
  { s with cfg := { s.cfg with base := l.foldl (fun g (i, v) => g.setParam 0 i v) s.cfg.base } }

/-- A table entry in effect set to an image. -/
def put (t n w : Nat) (s : State) : State := { s with cfg := { s.cfg with base := s.cfg.base.setEntry t n w } }

/-- Ticks have passed, with the time base where it was. -/
def after (n : Nat) (s : State) : State := { s with clk := { s.clk with ticks := n } }

/-- The time base reads `n` ns. -/
def now_ (n : Nat) (s : State) : State := { s with clk := { s.clk with tb := n } }

/-! ## Requests -/

/-- A session of a level. -/
def sess (level : Nat) (via : Via := .service) : Session :=
  { id := 7, level := level, via := via, addr := 9, key := [0x5A#8], unsetKey := false, counter := none, lastTick := 0,
    route := none, seq := 0, done := [], waiting := [] }

/-- A datagram whole in one packet. -/
def whole (d : List Byte) (via : Via := .service) : Packet := ⟨via, 9, 50000, 0, 0, d.length, d⟩

/-- A request of code `c` sealed under a key. -/
def frame (key : Option (List Byte)) (c : Nat) (body : List Byte) (session counter : Nat) (arg : Nat := 0) (box : Nat := 3)
    (target : Nat := 0) (flags : Nat := 0) (ver : Nat := 1) : List Byte :=
  sealFrame key (frameHead target box 0x11 c ver flags 0 0 0 body.length session arg counter) body

/-- The first request of the session. -/
def ask (c : Nat) (body : List Byte := []) (arg : Nat := 0) (via : Via := .service) (box : Nat := 3) : Packet :=
  whole (frame (some [0x5A#8]) c body 7 1 arg box) via

/-- The module with that session open. -/
def with_ (x : Session) (s : State) : State := { s with mbx := { s.mbx with sessions := [x] } }

/-- The module in a mode and role with that session of level SERVICE open. -/
def on (m : Mode) (r : Role := .none) : State := with_ (sess 3) (at_ m r)

/-- The partner is there, in a mode and role, with both lanes and its heartbeat. -/
def mate (m : Mode) (r : Role) (s : State) : State :=
  { s with pair := { s.pair with
      heartbeat := true, sync := true
      sl0 := { s.pair.sl0 with up := true, lock := true }
      sl1 := { s.pair.sl1 with up := true, lock := true }
      partner := { s.pair.partner with mode := some m, role := r, loaded := true, schema := 9 } } }

/-- A mode change that falls due at the start of the time base. -/
def change (m : Mode) (r : Role) (confirmed : Bool) : ModeChange :=
  { target := m, role := r, at_ := 0, pair := false, op := none, confirmed := confirmed, cause := 7, command := true,
    withdraws := false, joins := false, streams := [] }

/-- A configuration image with no sections (R53): 256 bytes. -/
def imageFile : List Byte :=
  let a := [0x49#8, 0x53#8, 0x43#8, 0x46#8] ++ leBytes 2 1 ++ leBytes 2 9 ++ leBytes 4 256 ++ leBytes 2 0 ++ leBytes 2 0
  let b := leBytes 4 0 ++ leBytes 2 90 ++ leBytes 2 0 ++ leBytes 4 128 ++ List.replicate 196 0#8
  let z := List.replicate 36 0#8
  a ++ sha256 (a ++ z ++ b.drop 4) ++ b

/-! ## Checks -/

def heardB (e : State) (p : Packet) : Bool :=
  decide (p.off = 0 ∧ p.data.length = p.total) && !e.mailboxSilent && !(p.via == .plant && e.mu.slot == 0xFF) && !(p.via == .plant && e.eff 0x0145 == 0) &&
    !e.lockedOut p.via p.addr && !badFrame p.data && decide ((reqOf p).target ≠ 1)

theorem heard_of {e : State} {p : Packet} (h : heardB e p = true) : Heard e p := by
  simp only [heardB, Bool.and_eq_true, decide_eq_true_eq, Bool.not_eq_true'] at h
  obtain ⟨⟨⟨⟨⟨⟨h1, h2⟩, h0⟩, h3⟩, h4⟩, h5⟩, h6⟩ := h
  exact ⟨h1, h2, h0, h3, h4, h5, h6⟩

def freshB (x : Session) (r : Req) : Bool :=
  match x.counter with
  | none => decide (r.counter = 1)
  | some k => decide (k < r.counter)

def inSessionB (e : State) (p : Packet) (x : Session) : Bool :=
  heardB e p && decide ((reqOf p).code ≠ 0x0001 ∧ (reqOf p).code ≠ 0x0010) && decide (e.session (reqOf p).session = some x) &&
    decide (x.via = p.via ∧ x.addr = p.addr) &&
    decide ((hmac x.key ((reqOf p).head ++ (reqOf p).body)).take 16 = (reqOf p).mac) && freshB x (reqOf p)

theorem fresh_of {x : Session} {r : Req} (h : freshB x r = true) :
    (match x.counter with | none => r.counter = 1 | some k => k < r.counter) := by
  unfold freshB at h
  cases hc : x.counter with
  | none => rw [hc] at h; exact of_decide_eq_true h
  | some k => rw [hc] at h; exact of_decide_eq_true h

theorem inSession_of {e : State} {p : Packet} {x : Session} (h : inSessionB e p x = true) : InSession e p x := by
  simp only [inSessionB, Bool.and_eq_true, decide_eq_true_eq] at h
  obtain ⟨⟨⟨⟨⟨h1, h2⟩, h3⟩, h4⟩, h5⟩, h6⟩ := h
  exact ⟨heard_of h1, h2, h3, h4, h5, fresh_of h6⟩

def levelB (l : Option Nat) (lvl : Nat) : Bool :=
  match l with
  | some l => decide (l ≤ lvl)
  | none => true

def rowB (c : Cmd) (r : Req) (u : State) (lvl : Nat) : Bool :=
  match cmdRow r.code with
  | some row => levelB row.level lvl && decide (c.check r (u.latch r) lvl row.modes = none)
  | none => false

def passesB (c : Cmd) (r : Req) (u : State) (lvl : Nat) (unset : Bool) : Bool :=
  !u.occupied r.box && rowB c r u lvl && decide (r.ver = 1) && !(r.via == .plant && r.box == 15) &&
    (!unset || [0x0002, 0x0013, 0x0012, 0x0011].contains r.code) && !c.barred r (u.latch r) && !c.isPair r (u.latch r)

theorem passes_of {c : Cmd} {r : Req} {u : State} {lvl : Nat} {unset : Bool} (h : passesB c r u lvl unset = true) :
    Passes c r u lvl unset := by
  simp only [passesB, Bool.and_eq_true, decide_eq_true_eq, Bool.not_eq_true', Bool.or_eq_true] at h
  obtain ⟨⟨⟨⟨⟨⟨h1, h3⟩, h4⟩, h5⟩, h6⟩, h7⟩, h8⟩ := h
  refine ⟨h1, ?_, h4, h5, ?_, h7, h8⟩
  · unfold rowB at h3
    cases hr : cmdRow r.code with
    | none => rw [hr] at h3; exact absurd h3 Bool.false_ne_true
    | some row =>
      rw [hr] at h3
      simp only [Bool.and_eq_true, decide_eq_true_eq] at h3
      refine ⟨row, rfl, fun l hl => ?_, h3.2⟩
      have := h3.1
      rw [hl] at this
      exact of_decide_eq_true this
  · intro hu
    cases h6 with
    | inl h => rw [hu] at h; exact absurd h (by decide)
    | inr h => exact h

def acceptedB (c : Cmd) (e : State) (p : Packet) (x : Session) : Bool :=
  inSessionB e p x && decide ((reqOf p).code = c.code) && passesB c (reqOf p) (e.noted p x) x.level x.unsetKey

theorem accepted_of {c : Cmd} {e : State} {p : Packet} {x : Session} (h : acceptedB c e p x = true) : Accepted c e p x := by
  simp only [acceptedB, Bool.and_eq_true, decide_eq_true_eq] at h
  obtain ⟨⟨h1, h2⟩, h3⟩ := h
  exact ⟨inSession_of h1, h2, passes_of h3⟩

/-! ## Sealed requests

What a request sealed under a session's key parses to, without its Hmac being computed. -/

theorem hmac_take_length (key msg : List Byte) : ((hmac key msg).take 16).length = 16 := by
  unfold hmac sha256
  simp [beBytes]

theorem slice_left {l : List Byte} (r : List Byte) {off n : Nat} (h : off + n ≤ l.length) : slice (l ++ r) off n = slice l off n := by
  unfold slice
  rw [List.drop_append_of_le_length (by omega), List.take_append_of_le_length (by rw [List.length_drop]; omega)]

theorem beAt_left {l : List Byte} (r : List Byte) {off n : Nat} (h : off + n ≤ l.length) : beAt (l ++ r) off n = beAt l off n := by
  unfold beAt
  rw [slice_left r h]

/-- The request that a header, an Hmac and a body make. -/
def reqIn (via : Via) (hd mac body : List Byte) : Req :=
  { via := via, addr := 9, port := 50000, target := beAt hd 1 1 / 128, box := beAt hd 1 1 % 16, tag := beAt hd 2 2,
    code := beAt hd 4 2, ver := beAt hd 6 1, retry := beAt hd 7 1 % 2 == 1, session := BitVec.ofNat 32 (beAt hd 0x10 4),
    arg := beAt hd 0x14 4, counter := beAt hd 0x18 4, head := hd, mac := mac, body := body }

/-- The Hmac of a header and a body. -/
def macOf (k hd body : List Byte) : List Byte := (hmac k (hd ++ body)).take 16

theorem reqOf_sealed (k : List Byte) {hd : List Byte} (body : List Byte) (via : Via) (hh : hd.length = 32) :
    reqOf (whole (sealFrame (some k) hd body) via) = reqIn via hd (macOf k hd body) body := by
  have hm := hmac_take_length k (hd ++ body)
  have hl : ∀ off n, off + n ≤ 32 → beAt (hd ++ ((hmac k (hd ++ body)).take 16 ++ body)) off n = beAt hd off n :=
    fun off n h => beAt_left _ (by omega)
  unfold reqOf whole sealFrame parseReq reqIn macOf
  simp only [List.append_assoc]
  rw [hl 1 1 (by omega), hl 2 2 (by omega), hl 4 2 (by omega), hl 6 1 (by omega), hl 7 1 (by omega), hl 0x10 4 (by omega),
    hl 0x14 4 (by omega), hl 0x18 4 (by omega)]
  congr 1
  · rw [← hh, List.take_left']
    rfl
  · unfold slice
    rw [List.drop_left' hh, List.take_left' hm]
  · rw [← List.append_assoc, List.drop_left' (by rw [List.length_append, hh, hm])]

def badHead (hd : List Byte) (n : Nat) : Bool :=
  beAt hd 0x0C 2 != n || beAt hd 0 1 != 1 || beAt hd 1 1 / 16 % 8 != 0 || beAt hd 7 1 / 2 != 0 || beAt hd 0x0B 1 != 0 ||
    beAt hd 0x0E 2 != 0 || beAt hd 0x1C 4 != 0

theorem badFrame_sealed (k : List Byte) {hd : List Byte} (body : List Byte) (hh : hd.length = 32) :
    badFrame (sealFrame (some k) hd body) = badHead hd body.length := by
  have hm := hmac_take_length k (hd ++ body)
  have hl : ∀ off n, off + n ≤ 32 → beAt (hd ++ ((hmac k (hd ++ body)).take 16 ++ body)) off n = beAt hd off n :=
    fun off n h => beAt_left _ (by omega)
  have hn : (hd ++ ((hmac k (hd ++ body)).take 16 ++ body)).length = 48 + body.length := by
    rw [List.length_append, List.length_append, hh, hm]
    omega
  unfold badFrame sealFrame badHead
  simp only [List.append_assoc]
  rw [hn, hl 0x0C 2 (by omega), hl 0 1 (by omega), hl 1 1 (by omega), hl 7 1 (by omega), hl 0x0B 1 (by omega),
    hl 0x0E 2 (by omega), hl 0x1C 4 (by omega)]
  have h1 : decide (48 + body.length < 48) = false := by simp
  have h2 : 48 + body.length - 48 = body.length := by omega
  rw [h1, h2, Bool.false_or]

/-- A sealed request is heard as `hd` and `body` say. -/
def heardIn (e : State) (via : Via) (hd body : List Byte) : Bool :=
  !e.mailboxSilent && !(via == .plant && e.mu.slot == 0xFF) && !(via == .plant && e.eff 0x0145 == 0) && !e.lockedOut via 9 && !badHead hd body.length &&
    decide (beAt hd 1 1 / 128 ≠ 1) && decide (hd.length = 32)

theorem heard_sealed {e : State} {via : Via} {k hd body : List Byte} (h : heardIn e via hd body = true) :
    Heard e (whole (sealFrame (some k) hd body) via) := by
  simp only [heardIn, Bool.and_eq_true, decide_eq_true_eq, Bool.not_eq_true'] at h
  obtain ⟨⟨⟨⟨⟨⟨h2, h0⟩, h3⟩, h4⟩, h5⟩, h6⟩, hh⟩ := h
  refine ⟨⟨rfl, rfl⟩, h2, h0, h3, h4, ?_, ?_⟩
  · exact (badFrame_sealed k body hh).trans h5
  · rw [reqOf_sealed k body via hh]
    exact h6

def inSessionIn (e : State) (via : Via) (k hd body : List Byte) (x : Session) : Bool :=
  heardIn e via hd body && decide (beAt hd 4 2 ≠ 0x0001 ∧ beAt hd 4 2 ≠ 0x0010) &&
    decide (e.session (BitVec.ofNat 32 (beAt hd 0x10 4)) = some x) && decide (x.via = via ∧ x.addr = 9) && decide (x.key = k) &&
    freshB x (reqIn via hd [] body)

theorem inSession_sealed {e : State} {via : Via} {k hd body : List Byte} {x : Session}
    (h : inSessionIn e via k hd body x = true) : InSession e (whole (sealFrame (some k) hd body) via) x := by
  simp only [inSessionIn, Bool.and_eq_true, decide_eq_true_eq] at h
  obtain ⟨⟨⟨⟨⟨h1, h2⟩, h3⟩, h4⟩, rfl⟩, h6⟩ := h
  have hh : hd.length = 32 := by
    simp only [heardIn, Bool.and_eq_true, decide_eq_true_eq] at h1
    exact h1.2
  refine ⟨heard_sealed h1, ?_, ?_, h4, ?_, ?_⟩ <;> rw [reqOf_sealed x.key body via hh]
  · exact h2
  · exact h3
  · rfl
  · exact fresh_of h6

def acceptedIn (c : Cmd) (e : State) (via : Via) (k hd body : List Byte) (x : Session) (r : Req) (u : State) : Bool :=
  inSessionIn e via k hd body x && decide (beAt hd 4 2 = c.code) && passesB c r u x.level x.unsetKey

/-- A sealed request is accepted; its Hmac need not be computed to see so. -/
theorem accepted_sealed {c : Cmd} {e : State} {via : Via} {k hd body : List Byte} {x : Session}
    (h : acceptedIn c e via k hd body x (reqIn via hd (macOf k hd body) body)
      (e.modSession x.id (fun y => { y with counter := some (beAt hd 0x18 4), lastTick := e.tick })) = true) :
    Accepted c e (whole (sealFrame (some k) hd body) via) x := by
  simp only [acceptedIn, Bool.and_eq_true, decide_eq_true_eq] at h
  obtain ⟨⟨h1, h2⟩, h3⟩ := h
  have hh : hd.length = 32 := by
    simp only [inSessionIn, heardIn, Bool.and_eq_true, decide_eq_true_eq] at h1
    exact h1.1.1.1.1.1.2
  have hr := reqOf_sealed k body via hh
  refine ⟨inSession_sealed h1, ?_, ?_⟩
  · rw [hr]
    exact h2
  · unfold State.noted
    simp only [hr]
    exact passes_of h3

def oneWrite (body : List Byte) (i v : Nat) : Bool :=
  match pwEntries body with
  | [(j, _, _, w)] => decide (j = i ∧ w = v)
  | _ => false

theorem oneWrite_of {body : List Byte} {i v : Nat} (h : oneWrite body i v = true) : ∃ a b, pwEntries body = [(i, a, b, v)] := by
  unfold oneWrite at h
  revert h
  cases pwEntries body with
  | nil => intro h; exact absurd h Bool.false_ne_true
  | cons y l =>
    obtain ⟨j, a, b, w⟩ := y
    cases l with
    | nil =>
      intro h
      obtain ⟨rfl, rfl⟩ := of_decide_eq_true h
      exact ⟨a, b, rfl⟩
    | cons z l => intro h; exact absurd h Bool.false_ne_true

theorem writes_sealed {e : State} {via : Via} {k hd body : List Byte} {x : Session} {i v : Nat}
    (h : Accepted paramWriteCmd e (whole (sealFrame (some k) hd body) via) x) (hh : hd.length = 32)
    (hw : oneWrite body i v = true) : Writes e (whole (sealFrame (some k) hd body) via) x i v := by
  refine ⟨h, ?_⟩
  rw [reqOf_sealed k body via hh]
  exact oneWrite_of hw

def debugHeardIn (code : Nat) (e : State) (k hd body : List Byte) (x : Session) (g : Debugger) : Bool :=
  decide (hd.length = 32) && decide (e.mode ≠ .m0 ∧ e.mbx.restarting = none) && !badHead hd body.length &&
    decide (beAt hd 4 2 = code) && decide (e.session (BitVec.ofNat 32 (beAt hd 0x10 4)) = some x) &&
    decide (x.via = .service ∧ x.addr = 9) && decide (x.key = k) && freshB x (reqIn .service hd [] body) &&
    decide (e.lk.debugger = some g) && decide (g.session = x.id) && !e.replayFull g

theorem debugHeard_sealed {code : Nat} {e : State} {k hd body : List Byte} {x : Session} {g : Debugger}
    (h : debugHeardIn code e k hd body x g = true) : DebugHeard code e (whole (sealFrame (some k) hd body)) x g := by
  simp only [debugHeardIn, Bool.and_eq_true, decide_eq_true_eq, Bool.not_eq_true'] at h
  obtain ⟨⟨⟨⟨⟨⟨⟨⟨⟨⟨hh, h3⟩, h4⟩, h5⟩, h6⟩, h7⟩, rfl⟩, h9⟩, h10⟩, h11⟩, h12⟩ := h
  have hr := reqOf_sealed x.key body .service hh
  refine ⟨⟨rfl, rfl⟩, rfl, h3, (badFrame_sealed x.key body hh).trans h4, ?_, ?_, h7, ?_, ?_, h10, h11, h12⟩ <;> rw [hr]
  · exact h5
  · exact h6
  · rfl
  · exact fresh_of h9

def takenB (e : State) (h : LaneHdr) : Bool :=
  decide (h.lane < 2) && decide (e.mode ≠ .m0) && h.good &&
    (match e.pair.seqIn with
      | some q => decide ((BitVec.ofNat 32 h.seq : U32) ≠ q ∧ ((BitVec.ofNat 32 h.seq : U32) - q).toNat < 2 ^ 31)
      | none => true)

theorem taken_of {e : State} {h : LaneHdr} (ht : takenB e h = true) : Taken e h := by
  simp only [takenB, Bool.and_eq_true, decide_eq_true_eq] at ht
  obtain ⟨⟨⟨h1, h2⟩, h3⟩, h4⟩ := ht
  refine ⟨h1, h2, h3, fun q hq => ?_⟩
  rw [hq] at h4
  exact of_decide_eq_true h4

def scanDueB (e : State) : Bool :=
  e.scans && e.onGrid Config.scanNs && e.alOwn && decide (e.al.last ≠ some (e.gridInstant Config.scanNs)) &&
    decide (e.al.half = none) && decide (e.al.waiting = [])

theorem scanDue_of {e : State} (h : scanDueB e = true) : ScanDue e := by
  simp only [scanDueB, Bool.and_eq_true, decide_eq_true_eq] at h
  obtain ⟨⟨⟨⟨⟨h1, h2⟩, h3⟩, h4⟩, h5⟩, h6⟩ := h
  exact ⟨h1, h2, h3, h4, h5, h6⟩

/-- An outcome that is a next state is one of some state. -/
theorem next_ex (o : Host.Outcome State Fault Refusal) (h : (match o with | .next _ => true | _ => false) = true) :
    ∃ t, o = .next t := by
  cases o with
  | next t => exact ⟨t, rfl⟩
  | fault f => exact absurd h Bool.false_ne_true
  | refused r => exact absurd h Bool.false_ne_true

/-- The Hmac of a sealed request is its own. -/
theorem mac_sealed {k hd body : List Byte} {via : Via} (hh : hd.length = 32) :
    (hmac k ((reqOf (whole (sealFrame (some k) hd body) via)).head ++ (reqOf (whole (sealFrame (some k) hd body) via)).body)).take 16 =
      (reqOf (whole (sealFrame (some k) hd body) via)).mac := by
  rw [reqOf_sealed k body via hh]
  rfl

end Sys2Proof.Tests
end

