-- ==== Sys2Proof/Tests/Slice0.lean ====
section
/-!
SUPPORT. The model's own tests: worked examples of the spec and known values of its hashes, each on one function or one command,
and an ill-formed command for each check of WellFormed.
-/
namespace Sys2Proof.Tests
open Sys2Proof Sys2Proof.Machine

/-! ## Worked examples and known values -/

/-- No row of the table gives bits. -/
theorem test_noWordSpellsACommand (n w : Nat) : decodeTableWord n w = none := rfl

theorem test_withFetchWordPlacesNothing (n w : Nat) (s : State) : s.withFetchWord n w = s := rfl

/-- SHA-256 of the empty message (FIPS 180-4). -/
theorem test_sha256_empty : beNat (sha256 []) = 0xe3b0c44298fc1c149afbf4c8996fb92427ae41e4649b934ca495991b7852b855 := by
  decide +kernel

/-- The check value of CRC-32: the digits 1 to 9. -/
theorem test_crc32_check : crc32 [0x31#8, 0x32#8, 0x33#8, 0x34#8, 0x35#8, 0x36#8, 0x37#8, 0x38#8, 0x39#8] = 0xCBF43926 := by
  decide +kernel

/-- The worked exchange: a SET_MODE accepted at 4,600 µs takes effect at the frame boundary at 5,750 µs (R39). -/
theorem test_switchInstant : frameAtOrAfter (4600000 + 1000000) = 5750000 := by decide

/-- After CP8 stands in for CP3, logical pair 3 names CP8 and logical pair 8 names CP3 (R320). -/
theorem test_pairRemap : swapNames 3 8 [0, 1, 2, 3, 4, 5, 6, 7, 8, 9] = [0, 1, 2, 8, 4, 5, 6, 7, 3, 9] := by decide

/-- The whole part of a correction of −1,742.3 µs is −1,500 µs (R451). -/
theorem test_wholePart : wholePart (-1742300) = -1500000 := by decide

/-- Tooth 62 of the crank wheel of 64 positions is at 0xF800_0000 (R165). -/
theorem test_toothPhase : (set [(0x0400, 2 ^ 31 + 2 ^ 28 + 2 ^ 22), (0x0401, 64)] (at_ .m6)).edgePhase 0 62 = 0xF8000000 := by
  decide +kernel

/-- Recorded 4.012 mA and 19.980 mA give b = 1.002004 and a = −0.020040 mA, to the digits shown (R398). -/
theorem test_trim :
    let w := trimOf (ofRatio fmt32 4012 1000) (ofRatio fmt32 19980 1000)
    flt fmt32 (ofRatio fmt32 1002003 1000000) (w / 2 ^ 32) = true ∧ flt fmt32 (w / 2 ^ 32) (ofRatio fmt32 1002005 1000000) = true ∧
    flt fmt32 (ofRatio fmt32 (-20041) 1000000) (w % 2 ^ 32) = true ∧ flt fmt32 (w % 2 ^ 32) (ofRatio fmt32 (-20039) 1000000) = true := by
  decide +kernel

/-- The float switch on DI06: the fourth closed sample, at 1,950 µs, is the confirmation (R412, R413). -/
theorem test_floatSwitch :
    (match execDiEdgeConfirmed 0 6 true
        (now_ 1950000 (set [(0x0B12, 0x6040F)] ((at_ .m6).modIn 6 (fun i => { i with c := 3, level := true, raw := true })))) with
      | .next t => decide ((t.din 6).state = true ∧ (t.din 6).c = 4)
      | _ => false) = true := by
  decide +kernel

/-! ## Ill-formed commands -/

theorem test_illFormed_1 :
    (Instr.valueWriteApply 0 32).wf = false ∧
    (Instr.splitDrainInstant 0 10).wf = false ∧
    (Instr.splitDrainTimeout 0 10).wf = false ∧
    (Instr.joinLoadDone 0 10).wf = false ∧
    (∀ (y2 : List Nat) (y3 : List Nat), (Instr.converterCalibrationDone 0 10 y2 y3).wf = false) ∧
    (Instr.updateVerifyDone 0 2).wf = false ∧
    (Instr.updateIdleTimeout 0 2).wf = false ∧
    (Instr.seqStop 0 (.port 0)).wf = false ∧
    (Instr.slotSwap 0 (.port 0)).wf = false ∧
    (Instr.doFaultClear 0 (.port 0)).wf = false ∧
    (Instr.arbFreeze 0 (.port 0)).wf = false ∧
    (Instr.forwardTimeout 0 16).wf = false :=
  ⟨rfl, rfl, rfl, rfl, fun _ _ => rfl, rfl, rfl, rfl, rfl, rfl, rfl, rfl⟩

theorem test_illFormed_2 :
    (∀ (y2 : Nat), (Instr.feedLoss 0 2 y2).wf = false) ∧
    (Instr.feedReturnDuringSave 0 2).wf = false ∧
    (Instr.taskDueStart 0 32).wf = false ∧
    (Instr.repeatFrameSend 0 32).wf = false ∧
    (Instr.sliceLoad 0 32).wf = false ∧
    (∀ (y2 : CloseData), (Instr.taskClose 0 32 y2).wf = false) ∧
    (∀ (y2 : Nat), (Instr.cycleRelease 0 32 y2).wf = false) ∧
    (∀ (y2 : Nat), (Instr.digestWaitExpiry 0 32 y2).wf = false) ∧
    (∀ (y2 : Nat) (y3 : U64), (Instr.taskFault 0 32 y2 y3).wf = false) ∧
    (∀ (y4 : Option Nat) (y5 : Option Nat) (y6 : Bool), (Instr.lockstepMismatch 0 11 0 0 y4 y5 y6).wf = false) ∧
    (∀ (y4 : Option Nat) (y5 : Option Nat) (y6 : Bool), (Instr.lockstepMismatch 0 0 0 64 y4 y5 y6).wf = false) ∧
    (∀ (y4 : Option Nat) (y5 : Option Nat) (y6 : Bool), (Instr.lockstepMismatch 0 0 3 0 y4 y5 y6).wf = false) :=
  ⟨fun _ => rfl, rfl, rfl, rfl, rfl, fun _ => rfl, fun _ => rfl, fun _ => rfl, fun _ _ => rfl, fun _ _ _ => rfl, fun _ _ _ => rfl, fun _ _ _ => rfl⟩

theorem test_illFormed_3 :
    (Instr.recoveryRunStart 0 32).wf = false ∧
    (∀ (y2 : U64), (Instr.injectionTest 0 11 y2).wf = false) ∧
    (∀ (y2 : U64), (Instr.injectionRetest 0 11 y2).wf = false) ∧
    (∀ (y2 : Nat) (y3 : Nat) (y4 : U64) (y5 : U64), (Instr.signatureWindowClose 0 16 y2 y3 y4 y5).wf = false) ∧
    (∀ (y2 : Nat) (y3 : Nat) (y4 : U64) (y5 : U64), (Instr.signatureWindowClose 0 12 y2 y3 y4 y5).wf = false) ∧
    (∀ (y2 : AgreedIn), (Instr.agreedInputFrame 0 ⟨2, true, 0, 0, 0⟩ y2).wf = false) ∧
    (∀ (y2 : AgreedIn), y2.task = 32 → (Instr.agreedInputFrame 0 ⟨0, true, 0, 0, 0⟩ y2).wf = false) ∧
    (∀ (y2 : DigestIn), (Instr.digestFrame 0 ⟨2, true, 0, 0, 0⟩ y2).wf = false) ∧
    (∀ (y2 : DigestIn), y2.task = 32 → (Instr.digestFrame 0 ⟨0, true, 0, 0, 0⟩ y2).wf = false) ∧
    (∀ (y3 : Nat) (y4 : Nat), (Instr.withheldMarker 0 ⟨2, true, 0, 0, 0⟩ 0 y3 y4).wf = false) ∧
    (∀ (y3 : Nat) (y4 : Nat), (Instr.withheldMarker 0 ⟨0, true, 0, 0, 0⟩ 32 y3 y4).wf = false) ∧
    (∀ (y2 : Nat) (y3 : Nat) (y4 : List LoopIn) (y5 : List (Nat × Nat)), (Instr.loopAgreementFrame 0 ⟨2, true, 0, 0, 0⟩ y2 y3 y4 y5).wf = false) :=
  ⟨rfl, fun _ => rfl, fun _ => rfl, fun _ _ _ _ => rfl, fun _ _ _ _ => rfl, fun _ => rfl, by intros; rename_i h; simp [Instr.wf, h], fun _ => rfl, by intros; rename_i h; simp [Instr.wf, h], fun _ _ => rfl, fun _ _ => rfl, fun _ _ _ _ => rfl⟩

theorem test_illFormed_4 :
    (∀ (y2 : Nat) (y4 : Nat) (y5 : List Nat), (Instr.loopAnswerFrame 0 ⟨2, true, 0, 0, 0⟩ y2 0 y4 y5).wf = false) ∧
    (∀ (y2 : Nat) (y4 : Nat) (y5 : List Nat), (Instr.loopAnswerFrame 0 ⟨0, true, 0, 0, 0⟩ y2 2048 y4 y5).wf = false) ∧
    (∀ (y2 : AlarmIn) (y3 : List (Nat × Nat)), (Instr.alarmAgreementFrame 0 ⟨2, true, 0, 0, 0⟩ y2 y3).wf = false) ∧
    (Instr.alarmExchangeFrame 0 ⟨2, true, 0, 0, 0⟩ (.ask 0)).wf = false ∧
    (Instr.alarmExchangeFrame 0 ⟨0, true, 0, 0, 0⟩ (.ask 16384)).wf = false ∧
    (Instr.alarmExchangeFrame 0 ⟨0, true, 0, 0, 0⟩ (.answer 16384 {})).wf = false ∧
    (∀ (y3 : Nat) (y4 : U64), (Instr.retainedHashFrame 0 ⟨2, true, 0, 0, 0⟩ 0 y3 y4).wf = false) ∧
    (∀ (y3 : Nat) (y4 : U64), (Instr.retainedHashFrame 0 ⟨0, true, 0, 0, 0⟩ 32 y3 y4).wf = false) ∧
    (∀ (y2 : List CopyItem), (Instr.copyDataFrame 0 ⟨2, true, 0, 0, 0⟩ y2).wf = false) ∧
    (∀ (y2 : SwitchIn), (Instr.switchAnnouncement 0 ⟨2, true, 0, 0, 0⟩ y2).wf = false) ∧
    (∀ (y2 : Nat), (Instr.departureNotice 0 ⟨2, true, 0, 0, 0⟩ y2).wf = false) ∧
    (∀ (y2 : RelayIn), (Instr.commandRelay 0 ⟨2, true, 0, 0, 0⟩ y2).wf = false) :=
  ⟨fun _ _ _ => rfl, fun _ _ _ => rfl, fun _ _ => rfl, rfl, rfl, rfl, fun _ _ => rfl, fun _ _ => rfl, fun _ => rfl, fun _ => rfl, fun _ => rfl, fun _ => rfl⟩

theorem test_illFormed_5 :
    (∀ (y2 : Nat) (y3 : Nat), (Instr.voidNotice 0 ⟨2, true, 0, 0, 0⟩ y2 y3).wf = false) ∧
    (∀ (y2 : Nat) (y4 : Nat) (y5 : Nat) (y6 : Nat), (Instr.stationStateAnnouncement 0 ⟨2, true, 0, 0, 0⟩ y2 0 y4 y5 y6).wf = false) ∧
    (∀ (y2 : Nat) (y4 : Nat) (y5 : Nat) (y6 : Nat), (Instr.stationStateAnnouncement 0 ⟨0, true, 0, 0, 0⟩ y2 250 y4 y5 y6).wf = false) ∧
    (∀ (y2 : Nat) (y3 : Int) (y4 : Nat), (Instr.timeCorrectionAnnouncement 0 ⟨2, true, 0, 0, 0⟩ y2 y3 y4).wf = false) ∧
    (∀ (y3 : Nat) (y4 : Nat) (y5 : Nat) (y6 : Bool), (Instr.panelStartAnnouncement 0 ⟨2, true, 0, 0, 0⟩ 0 y3 y4 y5 y6).wf = false) ∧
    (∀ (y3 : Nat) (y4 : Nat) (y5 : Nat) (y6 : Bool), (Instr.panelStartAnnouncement 0 ⟨0, true, 0, 0, 0⟩ 8 y3 y4 y5 y6).wf = false) ∧
    (∀ (y2 : ForwardIn), (Instr.mailboxForwardFrame 0 ⟨2, true, 0, 0, 0⟩ y2).wf = false) ∧
    (∀ (y2 : AccessIn), (Instr.accessionFrame 0 ⟨2, true, 0, 0, 0⟩ y2).wf = false) ∧
    (∀ (y2 : StatusIn), (Instr.statusFrame 0 ⟨2, true, 0, 0, 0⟩ y2).wf = false) ∧
    (∀ (y2 : Nat), (Instr.syncLaneDown 0 2 y2).wf = false) ∧
    (Instr.syncLaneUp 0 2).wf = false ∧
    (Instr.onDelayExpiry 0 16384).wf = false :=
  ⟨fun _ _ => rfl, fun _ _ _ _ => rfl, fun _ _ _ _ => rfl, fun _ _ _ => rfl, fun _ _ _ _ => rfl, fun _ _ _ _ => rfl, fun _ => rfl, fun _ => rfl, fun _ => rfl, fun _ => rfl, rfl, rfl⟩

theorem test_illFormed_6 :
    (Instr.offDelayExpiry 0 16384).wf = false ∧
    (Instr.rateWindowEnd 0 16384).wf = false ∧
    (Instr.shelveExpiry 0 16384).wf = false ∧
    (Instr.releaseDelayExpiry 0 512).wf = false ∧
    (Instr.unackReminder 0 16384).wf = false ∧
    (Instr.alarmBorrowTimeout 0 16384).wf = false ∧
    (Instr.loopTrigger 0 2048).wf = false ∧
    (∀ (y2 : List (Nat × Nat)), (Instr.loopEvaluation 0 2048 y2).wf = false) ∧
    (Instr.injectionEnd 0 4).wf = false ∧
    (∀ (y2 : List (Nat × U64)), (Instr.migrationStart 0 7 y2).wf = false) ∧
    (∀ (y2 : List (Nat × U64)), (Instr.migrationStart 0 0 y2).wf = false) ∧
    (Instr.flashBlockCopyDone 0 12288 0).wf = false :=
  ⟨rfl, rfl, rfl, rfl, rfl, rfl, rfl, fun _ => rfl, rfl, fun _ => rfl, fun _ => rfl, rfl⟩

theorem test_illFormed_7 :
    (Instr.flashBlockCopyDone 0 0 16384).wf = false ∧
    (∀ (y3 : Nat), (Instr.spoilArrival 0 1 52 y3).wf = false) ∧
    (∀ (y3 : Nat), (Instr.spoilArrival 0 7 0 y3).wf = false) ∧
    (∀ (y3 : Nat), (Instr.spoilArrival 0 0 0 y3).wf = false) ∧
    (∀ (y2 : Bool) (y3 : Bool) (y4 : Option Nat), (Instr.dramEccError 0 10 y2 y3 y4).wf = false) ∧
    (∀ (y2 : Bool), (Instr.flashProgramFailure 0 16384 y2).wf = false) ∧
    (∀ (y2 : Bool) (y3 : Nat) (y4 : Nat), (Instr.oscillatorFault 0 3 y2 y3 y4).wf = false) ∧
    (∀ (y2 : Bool), (Instr.spareSelfTest 0 20 y2).wf = false) ∧
    (Instr.regionFault 0 ⟨18, 17, 0, .working, 0, 4, 0, 0, false⟩).wf = false ∧
    (Instr.regionFault 0 ⟨13, 24, 0, .working, 0, 4, 0, 0, false⟩).wf = false ∧
    (Instr.regionFault 0 ⟨13, 17, 0, .working, 0, 4, 3, 0, false⟩).wf = false ∧
    (Instr.regionFault 0 ⟨13, 17, 0, .working, 0, 0, 0, 0, false⟩).wf = false :=
  ⟨rfl, fun _ => rfl, fun _ => rfl, fun _ => rfl, fun _ _ _ => rfl, fun _ => rfl, fun _ _ _ => rfl, fun _ => rfl, rfl, rfl, rfl, rfl⟩

theorem test_illFormed_8 :
    (Instr.regionFault 0 ⟨13, 17, 0, .working, 0, 4097, 0, 0, false⟩).wf = false ∧
    (Instr.regionFault 0 ⟨13, 3, 32, .working, 0, 4, 0, 0, false⟩).wf = false ∧
    (Instr.regionFault 0 ⟨13, 17, 32, .slices, 0, 4, 0, 0, false⟩).wf = false ∧
    (Instr.regionFault 0 ⟨11, 17, 2048, .working, 0, 4, 0, 0, false⟩).wf = false ∧
    (Instr.regionFault 0 ⟨12, 17, 16384, .working, 0, 4, 0, 0, false⟩).wf = false ∧
    (Instr.colourViolation 0 ⟨18, 17, 0, .working, 0, 4, 0, 0, false⟩).wf = false ∧
    (∀ (y3 : Bool), (Instr.regionOverlap 0 17 [0] y3 ⟨18, 17, 0, .working, 0, 4, 0, 0, false⟩).wf = false) ∧
    (∀ (y3 : Bool), (Instr.regionOverlap 0 18 [0] y3 ⟨13, 17, 0, .working, 0, 4, 0, 0, false⟩).wf = false) ∧
    (∀ (y3 : Bool), (Instr.regionOverlap 0 17 [0, 64] y3 ⟨13, 17, 0, .working, 0, 4, 0, 0, false⟩).wf = false) ∧
    (∀ (y3 : Nat), (Instr.sealedAccess 0 24 0 y3).wf = false) ∧
    (∀ (y3 : Nat), (Instr.sealedAccess 0 0 64 y3).wf = false) ∧
    (∀ (y2 : Nat), (Instr.arbitrationGrant 0 (2 ^ 18) y2).wf = false) :=
  ⟨rfl, rfl, rfl, rfl, rfl, rfl, fun _ => rfl, fun _ => rfl, fun _ => rfl, fun _ => rfl, fun _ => rfl, fun _ => rfl⟩

theorem test_illFormed_9 :
    (Instr.budgetCutoff 0 18).wf = false ∧
    (∀ (y2 : ConvIn), (Instr.converterResult 0 8 y2).wf = false) ∧
    (∀ (y2 : ExcIn), (Instr.excitationSwap 0 32 y2).wf = false) ∧
    (∀ (y2 : Int), (Instr.cmMeasurement 0 32 y2).wf = false) ∧
    (Instr.driftComparison 0 32).wf = false ∧
    (∀ (y2 : StageIn), (Instr.stageMeasurement 0 18 y2).wf = false) ∧
    (Instr.aoDebounceExpiry 0 18).wf = false ∧
    (Instr.stageSupplyFault 0 18).wf = false ∧
    (∀ (y2 : Nat), (Instr.stageThermalLimit 0 18 y2).wf = false) ∧
    (Instr.hartPollDue 0 48).wf = false ∧
    (∀ (y2 : HartIn), (Instr.hartResponse 0 48 y2).wf = false) ∧
    (Instr.hartResponseTimeout 0 48).wf = false :=
  ⟨rfl, fun _ => rfl, fun _ => rfl, fun _ => rfl, rfl, fun _ => rfl, rfl, rfl, fun _ => rfl, rfl, fun _ => rfl, rfl⟩

theorem test_illFormed_10 :
    (∀ (y2 : HartIn), (Instr.hartBurstFrame 0 48 y2).wf = false) ∧
    (Instr.hartIdentifyRetry 0 48).wf = false ∧
    (∀ (y2 : Bool), (Instr.diEdgeConfirmed 0 36 y2).wf = false) ∧
    (∀ (y2 : Nat), (Instr.wireBreakTimeout 0 32 y2).wf = false) ∧
    (∀ (y2 : Nat), (Instr.sensorSupplyLost 0 2 y2).wf = false) ∧
    (∀ (y2 : Nat), (Instr.sensorSupplyRecovered 0 2 y2).wf = false) ∧
    (Instr.doOvercurrent 0 32).wf = false ∧
    (Instr.doThermalShutdown 0 32).wf = false ∧
    (∀ (y2 : Nat), (Instr.doRetry 0 32 y2).wf = false) ∧
    (Instr.doFaultFreeSecond 0 32).wf = false ∧
    (∀ (y2 : Bool), (Instr.doReadbackMismatch 0 32 y2).wf = false) ∧
    (∀ (y2 : Nat), (Instr.fieldSupplyLost 0 2 y2).wf = false) :=
  ⟨fun _ => rfl, rfl, fun _ => rfl, fun _ => rfl, fun _ => rfl, fun _ => rfl, rfl, rfl, fun _ => rfl, rfl, fun _ => rfl, fun _ => rfl⟩

theorem test_illFormed_11 :
    (∀ (y2 : Nat), (Instr.fieldSupplyRestored 0 2 y2).wf = false) ∧
    (∀ (y3 : Bool), (Instr.callOutputFault 0 2 1 y3).wf = false) ∧
    (∀ (y3 : Bool), (Instr.callOutputFault 0 0 4 y3).wf = false) ∧
    (∀ (y3 : Bool), (Instr.callOutputFault 0 0 0 y3).wf = false) ∧
    (∀ (y2 : Nat), (Instr.callRetry 0 2 y2).wf = false) ∧
    (Instr.ackEdge 0 4).wf = false ∧
    (∀ (y2 : EdgeIn), (Instr.phaseEdge 0 4 y2).wf = false) ∧
    (Instr.phaseUnlockTimeout 0 4).wf = false ∧
    (Instr.catalogueEntryFire 0 1024).wf = false ∧
    (Instr.pnLinkDown 0 2).wf = false ∧
    (Instr.prpLanDown 0 2).wf = false ∧
    (Instr.arpAnnounce 0 3).wf = false :=
  ⟨fun _ => rfl, fun _ => rfl, fun _ => rfl, fun _ => rfl, fun _ => rfl, rfl, fun _ => rfl, rfl, rfl, rfl, rfl, rfl⟩

theorem test_illFormed_12 :
    (∀ (y2 : U64), (Instr.duplicateAddress 0 3 y2).wf = false) ∧
    (Instr.addressConflictClear 0 3).wf = false ∧
    (∀ (y1 : U32) (y3 : Bool) (y4 : List Byte), (Instr.inputFrame 0 y1 2 y3 y4).wf = false) ∧
    (Instr.accessionRetry 0 250).wf = false ∧
    (Instr.stationTimeout 0 250).wf = false ∧
    (∀ (y2 : Int), (Instr.ptpSync 0 2 y2).wf = false) ∧
    (∀ (y2 : AnnIn), (Instr.ptpAnnounce 0 2 y2).wf = false) ∧
    (Instr.ptpTimeout 0 2).wf = false ∧
    (∀ (y2 : Nat) (y3 : List Byte), (Instr.canFrameReceived 0 4 y2 y3).wf = false) ∧
    (∀ (y3 : Nat), (Instr.canFrameSent 0 4 0 y3).wf = false) ∧
    (∀ (y3 : Nat), (Instr.canFrameSent 0 0 64 y3).wf = false) ∧
    (∀ (y2 : Nat) (y3 : Nat) (y4 : Nat), (Instr.canBusError 0 4 y2 y3 y4).wf = false) :=
  ⟨fun _ => rfl, rfl, fun _ _ _ => rfl, rfl, rfl, fun _ => rfl, fun _ => rfl, rfl, fun _ _ => rfl, fun _ => rfl, fun _ => rfl, fun _ _ _ => rfl⟩

theorem test_illFormed_13 :
    (Instr.canRecoveryDone 0 4).wf = false ∧
    (Instr.canTxTimeout 0 4 0).wf = false ∧
    (Instr.canTxTimeout 0 0 64).wf = false ∧
    (Instr.panelUpdateEnd 0 8).wf = false ∧
    (∀ (y2 : Nat), (Instr.panelRailFault 0 2 y2).wf = false) ∧
    (∀ (y2 : Nat), (Instr.panelRailGood 0 2 y2).wf = false) ∧
    (Instr.trendSample 0 256).wf = false ∧
    (∀ (y3 : Bool), (Instr.pnLinkUp 0 2 1 y3).wf = false) ∧
    (∀ (y3 : Bool), (Instr.pnLinkUp 0 0 3 y3).wf = false) ∧
    (∀ (y3 : Bool), (Instr.pnLinkUp 0 0 0 y3).wf = false) ∧
    (Instr.feedRestored 0 2).wf = false ∧
    (Instr.stageHotHour 0 18).wf = false :=
  ⟨rfl, rfl, rfl, rfl, fun _ => rfl, fun _ => rfl, rfl, fun _ => rfl, fun _ => rfl, fun _ => rfl, rfl, rfl⟩

theorem test_illFormed_14 :
    (Instr.phaseExtrapolation 0 4).wf = false ∧
    (∀ (y2 : Bool), (Instr.diFilterSample 0 36 y2).wf = false) ∧
    (∀ (y2 : Bool), (Instr.diRawTransition 0 36 y2).wf = false) ∧
    (∀ (y2 : Bool), (Instr.doReadbackFaultClear 0 32 y2).wf = false) ∧
    (∀ (y2 : U32), (Instr.ptpDelayResponse 0 2 y2).wf = false) :=
  ⟨rfl, fun _ => rfl, fun _ => rfl, fun _ => rfl, fun _ => rfl⟩

end Sys2Proof.Tests
end

