-- ==== Sys2Proof/Tests/Witness1.lean ====
section
/-!
SUPPORT. For each hypothesis set of these statements a concrete state and operands that meet it: StepTakesTheFrontCommand,
AnEmptyQueueIdles, TimePasses, StepsKeepTheInvariant, CommandsKeepTheirFootprint, IdentityAndOperatingTime,
WellFormedCommandsComplete, SessionRowsComplete, ParameterRowsComplete, ConfigurationRowsComplete, ModeRowsComplete,
PowerRowsComplete.
-/
namespace Sys2Proof.Tests
set_option Elab.async false
set_option linter.unusedVariables false
open Sys2Proof Sys2Proof.Machine

/-! StepTakesTheFrontCommand -/

theorem test_StepTakesTheFrontCommand :
    ∃ (c : Instr) (rest : List Instr) (s : State), s.pending = c :: rest :=
  ⟨.holdupEnd 0, [], { at_ .m6 with pending := [.holdupEnd 0] }, rfl⟩

/-! AnEmptyQueueIdles -/

theorem test_AnEmptyQueueIdles :
    ∃ (s : State), s.pending = [] :=
  ⟨at_ .m6, rfl⟩

/-! TimePasses -/

theorem test_TimePasses_1_1 :
    ∃ (n : Nat) (s : State), s.clk.slewing = false ∧ -(8 * 2 ^ 32 : Int) ≤ s.clk.adj :=
  ⟨5, at_ .m6, by decide +kernel, by decide +kernel⟩

theorem test_TimePasses_2_1 :
    ∃ (n : Nat) (s : State), s.clk.slewing = true ∧ -(8 * 2 ^ 32 : Int) ≤ s.clk.adj ∧ ((n * slewStep : Nat) : Int) ≤
    s.clk.slewRem :=
  ⟨3, { at_ .m6 with clk := { (at_ .m6).clk with slewing := true, slewRem := 3 * slewStep } }, by decide +kernel,
    by decide +kernel, by decide +kernel⟩

theorem test_TimePasses_3_1 :
    ∃ (n : Nat) (s : State), s.clk.slewing = true ∧ -(8 * 2 ^ 32 : Int) + slewStep ≤ s.clk.adj ∧ s.clk.slewRem ≤ -((n *
    slewStep : Nat) : Int) :=
  ⟨3, { at_ .m6 with clk := { (at_ .m6).clk with slewing := true, slewRem := -(3 * slewStep) } }, by decide +kernel,
    by decide +kernel, by decide +kernel⟩

/-! StepsKeepTheInvariant -/

theorem test_StepsKeepTheInvariant :
    ∃ (s t : State), s.Inv ∧ step s = .next t :=
  ⟨State.reset, _, (by unfold State.Inv; decide +kernel), rfl⟩

/-! CommandsKeepTheirFootprint -/

theorem test_CommandsKeepTheirFootprint_1 :
    ∃ (c : Instr) (s t : State), exec c s = .next t :=
  ⟨.reassemblyTimeout 5, at_ .m6, _, rfl⟩

/-! IdentityAndOperatingTime -/

theorem test_IdentityAndOperatingTime_1 :
    ∃ (c : Instr) (s t : State), exec c s = .next t :=
  ⟨.reassemblyTimeout 5, at_ .m6, _, rfl⟩

/-! WellFormedCommandsComplete -/

theorem test_WellFormedCommandsComplete_1 :
    ∃ (c : Instr) (s : State), c.wf = true :=
  ⟨.onDelayExpiry 0 16383, at_ .m6, by decide +kernel⟩

/-! SessionRowsComplete -/

theorem test_SessionRowsComplete_1 :
    ∃ (dt : Nat) (p : Packet) (s : State), Heard (s.elapse dt) p ∧ (reqOf p).code = 0x0001 ∧ Passes identifyCmd (reqOf p)
    (s.elapse dt) 0 false :=
  ⟨0, whole (frame none 0x0001 [] 0 1), at_ .m6, heard_of (by decide +kernel), by decide +kernel, passes_of (by decide +kernel)⟩

theorem test_SessionRowsComplete_2 :
    ∃ (dt : Nat) (p : Packet) (x : Session) (s : State), Accepted commandsListCmd (s.elapse dt) p x :=
  ⟨0, ask 0x0002 ([]) 0, sess 3, on .m6, accepted_sealed (by decide +kernel)⟩

theorem test_SessionRowsComplete_3 :
    ∃ (dt : Nat) (p : Packet) (sid : U32) (nonce key : List Byte) (s : State), Heard (s.elapse dt) p ∧ (reqOf p).code = 0x0010
    ∧ (reqOf p).session = 0 ∧ s.openKey (beAt (reqOf p).body 0 1) p.via = some key ∧ (hmac key ((reqOf p).head ++ (reqOf
    p).body)).take 16 = (reqOf p).mac ∧ Passes (openSessionCmd sid nonce) (reqOf p) (s.elapse dt) 0 false ∧ sid ≠ 0 ∧
    s.session sid = none :=
  ⟨0, whole (frame (some (List.replicate 32 0#8)) 0x0010 (beBytes 1 3 ++ List.replicate 19 0#8) 0 1), 5, [],
    List.replicate 32 0#8, at_ .m6, heard_sealed (by decide +kernel), by decide +kernel, by decide +kernel, by decide +kernel,
    by decide +kernel, passes_of (by decide +kernel), by decide +kernel, by decide +kernel⟩

theorem test_SessionRowsComplete_4 :
    ∃ (dt : Nat) (p : Packet) (x : Session) (s : State), Accepted closeSessionCmd (s.elapse dt) p x :=
  ⟨0, ask 0x0011 ([]) 0, sess 3, on .m6, accepted_sealed (by decide +kernel)⟩

theorem test_SessionRowsComplete_5 :
    ∃ (dt : Nat) (p : Packet) (x : Session) (s : State), Accepted setKeyCmd (s.elapse dt) p x :=
  ⟨0, ask 0x0012 (beBytes 4 (2 ^ 24) ++ List.replicate 32 1#8) 0, sess 3, on .m2, accepted_sealed (by decide +kernel)⟩

theorem test_SessionRowsComplete_6 :
    ∃ (dt : Nat) (p : Packet) (x : Session) (s : State), Accepted keyInfoCmd (s.elapse dt) p x :=
  ⟨0, ask 0x0013 ([]) 0, sess 3, on .m6, accepted_sealed (by decide +kernel)⟩

theorem test_SessionRowsComplete_7 :
    ∃ (dt : Nat) (p : Packet) (x : Session) (s : State), Accepted subscribeCmd (s.elapse dt) p x :=
  ⟨0, ask 0x0014 (List.replicate 36 0#8) 0, sess 3, on .m6, accepted_sealed (by decide +kernel)⟩

theorem test_SessionRowsComplete_8 :
    ∃ (dt : Nat) (p : Packet) (x : Session) (id : Nat) (b : List Byte) (s : State), Accepted completionReadCmd (s.elapse dt) p
    x ∧ x.lastDone (beAt (reqOf p).body 0 2) = some (id, b) ∧ (∀ o ∈ s.mbx.async, o.session = x.id → o.tag = beAt (reqOf
    p).body 0 2 → o.id ≤ id) :=
  ⟨0, ask 0x0015 (beBytes 4 (5 * 2 ^ 16)) 0, { sess 3 with done := [(5, 0, [1#8])] }, 0, [1#8],
    with_ { sess 3 with done := [(5, 0, [1#8])] } (at_ .m6), accepted_sealed (by decide +kernel), by decide +kernel, by decide⟩

/-! ParameterRowsComplete -/

theorem test_ParameterRowsComplete_1 :
    ∃ (dt : Nat) (p : Packet) (x : Session) (s : State), Accepted paramReadCmd (s.elapse dt) p x :=
  ⟨0, ask 0x0020 (beBytes 4 (2 ^ 16) ++ beBytes 2 0x0100) 0, sess 3, on .m6, accepted_sealed (by decide +kernel)⟩

theorem test_ParameterRowsComplete_2 :
    ∃ (dt : Nat) (p : Packet) (x : Session) (s : State), Accepted paramWriteCmd (s.elapse dt) p x ∧ (∀ e ∈ pwEntries (reqOf
    p).body, ∃ d, paramDef e.1 = some d ∧ d.acc = .rw) :=
  ⟨0, ask 0x0021 (beBytes 4 (2 ^ 16) ++ beBytes 4 (0x0107 * 2 ^ 16 + 4 * 2 ^ 8) ++ beBytes 8 5) 0, sess 3, on .m2,
    accepted_sealed (by decide +kernel), (by
    intro e he
    have h : pwEntries (reqOf (ask 0x0021 (beBytes 4 (2 ^ 16) ++ beBytes 4 (0x0107 * 2 ^ 16 + 4 * 2 ^ 8) ++ beBytes 8 5) 0)).body = [(0x0107, 4, 0, 5)] := by decide +kernel
    rw [h] at he
    rw [List.mem_singleton.mp he]
    exact ⟨_, rfl, rfl⟩)⟩

theorem test_ParameterRowsComplete_3 :
    ∃ (dt : Nat) (p : Packet) (x : Session) (d : TableDef) (s : State), Accepted tableReadCmd (s.elapse dt) p x ∧ tableDef
    (tbHead (reqOf p).body).1 = some d :=
  ⟨0, ask 0x0022 (beBytes 8 (4 * 2 ^ 48 + 2 ^ 32)) 0, sess 3, _, on .m6, accepted_sealed (by decide +kernel), rfl⟩

theorem test_ParameterRowsComplete_4 :
    ∃ (dt : Nat) (p : Packet) (x : Session) (d : TableDef) (s : State), Accepted tableWriteCmd (s.elapse dt) p x ∧ tableDef
    (tbHead (reqOf p).body).1 = some d :=
  ⟨0, ask 0x0023 (beBytes 8 (4 * 2 ^ 48 + 2 ^ 32) ++ List.replicate 16 0#8) 0, sess 3, _, on .m2,
    accepted_sealed (by decide +kernel), rfl⟩

theorem test_ParameterRowsComplete_5 :
    ∃ (dt : Nat) (p : Packet) (x : Session) (s : State), Accepted eventReadCmd (s.elapse dt) p x :=
  ⟨0, ask 0x0033 (beBytes 4 1) 0, sess 3, on .m6, accepted_sealed (by decide +kernel)⟩

theorem test_ParameterRowsComplete_6 :
    ∃ (dt : Nat) (p : Packet) (x : Session) (s : State), Accepted eventClearCmd (s.elapse dt) p x :=
  ⟨0, ask 0x0034 (List.replicate 32 0xFF#8) 0, sess 3, on .m6, accepted_sealed (by decide +kernel)⟩

/-! ConfigurationRowsComplete -/

theorem test_ConfigurationRowsComplete_1 :
    ∃ (dt : Nat) (p : Packet) (x : Session) (s : State), Accepted commitConfigCmd (s.elapse dt) p x :=
  ⟨0, ask 0x0024 ([]) 0, sess 3, on .m2, accepted_sealed (by decide +kernel)⟩

theorem test_ConfigurationRowsComplete_2 :
    ∃ (dt k : Nat) (op : Option Nat) (s : State), s.cfg.commit = some (op, k) ∧ s.checkImage s.activeProg s.cfg.working = none :=
  ⟨0, 0, none,
    { at_ .m2 with cfg := { (at_ .m2).cfg with commit := some (none, 0) }, ident := { (at_ .m2).ident with variant := 10 } },
    by decide +kernel, by decide +kernel⟩

theorem test_ConfigurationRowsComplete_3 :
    ∃ (dt k : Nat) (op : Option Nat) (s : State), s.cfg.commit = some (op, k) ∧ s.checkImage s.activeProg s.cfg.working ≠ none :=
  ⟨0, 0, none,
    { at_ .m2 with cfg := { (at_ .m2).cfg with commit := some (none, 0), working := ({} : Image).setParam 0 0x0C41 1 } },
    by decide +kernel, by decide +kernel⟩

theorem test_ConfigurationRowsComplete_4 :
    ∃ (dt : Nat) (p : Packet) (x : Session) (s : State), Accepted discardEditsCmd (s.elapse dt) p x :=
  ⟨0, ask 0x0025 ([]) 0, sess 3, on .m2, accepted_sealed (by decide +kernel)⟩

theorem test_ConfigurationRowsComplete_5 :
    ∃ (dt : Nat) (p : Packet) (x : Session) (b : List Byte) (s : State), Accepted configExportCmd (s.elapse dt) p x ∧ (reqOf
    p).arg = 0 ∧ s.imageBytes (beAt (reqOf p).body 0 1) = some b :=
  ⟨0, ask 0x0026 (beBytes 4 (2 ^ 24)) 0, sess 3, ((on .m2).imageBytes 1).getD [], on .m2, accepted_sealed (by decide +kernel),
    by decide +kernel, by decide +kernel⟩

theorem test_ConfigurationRowsComplete_7 :
    ∃ (dt : Nat) (p : Packet) (x : Session) (s : State), Accepted configImportCmd (s.elapse dt) p x ∧ (reqOf p).arg = 0 ∧
    headerRefused s.fwSchema (reqOf p).body = false ∧ (reqOf p).body.length < leAt (reqOf p).body 8 4 :=
  ⟨0, ask 0x0027 (imageFile.take 128) 0, sess 3, on .m2, accepted_sealed (by decide +kernel), by decide +kernel,
    by decide +kernel, by decide +kernel⟩

theorem test_ConfigurationRowsComplete_8 :
    ∃ (dt : Nat) (p : Packet) (x : Session) (y : Import) (img : Image) (s : State), Accepted configImportCmd (s.elapse dt) p x
    ∧ (reqOf p).arg ≠ 0 ∧ s.cfg.importing = some y ∧ y.next = (reqOf p).arg ∧ y.bytes.length = y.next ∧ y.total = y.next +
    (reqOf p).body.length ∧ imageDigestOk (y.bytes ++ (reqOf p).body) = true ∧ img = parseImage s.mu.slot (y.bytes ++ (reqOf
    p).body) :=
  ⟨0, ask 0x0027 (imageFile.drop 128) 128, sess 3, ⟨128, 256, imageFile.take 128⟩, parseImage 0 imageFile,
    { on .m2 with cfg := { (on .m2).cfg with importing := some ⟨128, 256, imageFile.take 128⟩ } },
    accepted_sealed (by decide +kernel), by decide +kernel, by decide +kernel, by decide +kernel, by decide +kernel,
    by decide +kernel, by decide +kernel, by decide +kernel⟩

/-- An export of the working image has begun; the image is longer than one block. -/
def exporting : State :=
  { on .m6 with cfg := { (on .m6).cfg with exports := [(7, 1, List.replicate 4100 0#8)] } }

/-- The second block of an export. -/
theorem test_ConfigurationRowsComplete_6 :
    ∃ (dt : Nat) (p : Packet) (x : Session) (b : List Byte) (s : State), Accepted configExportCmd (s.elapse dt) p x ∧
      (reqOf p).arg ≠ 0 ∧ s.exportOf x.id (beAt (reqOf p).body 0 1) = some b := by
  refine ⟨0, ask 0x0026 (beBytes 4 (2 ^ 24)) 4096, sess 3, List.replicate 4100 0#8, exporting, accepted_sealed ?_,
    by decide +kernel, rfl⟩
  have hv : ∀ (r : Req) (u : State), beAt r.body 0 1 ≤ 2 → r.arg = 4096 →
      u.exportOf r.session (beAt r.body 0 1) = some (List.replicate 4100 0#8) → configExportCmd.value r u = none := by
    intro r u h1 h2 h3
    show (if 2 < beAt r.body 0 1 then some (Status.range, noPos) else if r.arg % 4096 ≠ 0 then some (.badParameter, noPos)
      else match u.exportOf r.session (beAt r.body 0 1) with
        | some b => if r.arg ≠ 0 ∧ b.length ≤ r.arg then some (.range, noPos) else none
        | none => none) = none
    rw [if_neg (by omega), h2, if_neg (by decide), h3]
    show (if 4096 ≠ 0 ∧ (List.replicate 4100 0#8).length ≤ 4096 then some (Status.range, noPos) else none) = none
    rw [List.length_replicate]
    rfl
  unfold acceptedIn passesB rowB Cmd.check
  rw [hv _ _ (by decide +kernel) (by decide +kernel) rfl]
  decide +kernel

/-! ModeRowsComplete -/

theorem test_ModeRowsComplete_1 :
    ∃ (dt : Nat) (p : Packet) (x : Session) (s : State), Accepted setModeCmd (s.elapse dt) p x ∧ modeTarget (reqOf p).body =
    some s.mode :=
  ⟨0, ask 0x0030 (beBytes 4 (6 * 2 ^ 24)) 0, sess 3, on .m6, accepted_sealed (by decide +kernel), by decide +kernel⟩

theorem test_ModeRowsComplete_2 :
    ∃ (dt : Nat) (p : Packet) (x : Session) (m : Mode) (s : State), Accepted setModeCmd (s.elapse dt) p x ∧ modeTarget (reqOf
    p).body = some m ∧ m ≠ s.mode ∧ ((s.mode = .m3 ∧ (m = .m4 ∨ m = .m5 ∨ m = .m6)) ∨ (s.mode = .m7 ∧ m = .m5)) ∧ s.joinable =
    true ∧ s.partnerAbsent = false :=
  ⟨0, ask 0x0030 (beBytes 4 (5 * 2 ^ 24)) 0, sess 3, .m5, mate .m6 .solo { on .m3 with tk := { (on .m3).tk with active := 0 } },
    accepted_sealed (by decide +kernel), by decide +kernel, by decide +kernel, by decide +kernel, by decide +kernel,
    by decide +kernel⟩

theorem test_ModeRowsComplete_3 :
    ∃ (dt : Nat) (p : Packet) (x : Session) (m : Mode) (s : State), Accepted setModeCmd (s.elapse dt) p x ∧ modeTarget (reqOf
    p).body = some m ∧ m ≠ s.mode ∧ (¬ (s.mode = .m3 ∧ (m = .m4 ∨ m = .m5 ∨ m = .m6))) ∧ (¬ (s.mode = .m7 ∧ m = .m5)) :=
  ⟨0, ask 0x0030 (beBytes 4 (2 * 2 ^ 24)) 0, sess 3, .m2, on .m3, accepted_sealed (by decide +kernel), by decide +kernel,
    by decide +kernel, by decide +kernel, by decide +kernel⟩

theorem test_ModeRowsComplete_4 :
    ∃ (dt : Nat) (p : Packet) (x : Session) (m : Mode) (s : State), Accepted setModeCmd (s.elapse dt) p x ∧ modeTarget (reqOf
    p).body = some m ∧ s.mode = .m3 ∧ (m = .m4 ∨ m = .m5 ∨ m = .m6) ∧ s.partnerAbsent = true :=
  ⟨0, ask 0x0030 (beBytes 4 (4 * 2 ^ 24)) 0, sess 3, .m4, { on .m3 with tk := { (on .m3).tk with active := 0 } },
    accepted_sealed (by decide +kernel), by decide +kernel, by decide +kernel, by decide +kernel, by decide +kernel⟩

theorem test_ModeRowsComplete_5 :
    ∃ (dt : Nat) (p : Packet) (x : Session) (s : State), Accepted roleSwapCmd (s.elapse dt) p x :=
  ⟨0, ask 0x0032 ([]) 0, sess 3, mate .m5 .standby (on .m4 .primary), accepted_sealed (by decide +kernel)⟩

theorem test_ModeRowsComplete_6 :
    ∃ (dt : Nat) (c : ModeChange) (s : State), s.mu.pending = some c ∧ c.at_ ≤ (s.elapse dt).now ∧ c.asked = false ∧ s.copying
    = false ∧ c.confirmed = true :=
  ⟨0, change .m6 .solo true, (at_ .m3).modMu (fun u => { u with pending := some (change .m6 .solo true) }), by decide +kernel,
    by decide +kernel, by decide +kernel, by decide +kernel, by decide +kernel⟩

theorem test_ModeRowsComplete_7 :
    ∃ (dt : Nat) (c : ModeChange) (s : State), s.mu.pending = some c ∧ c.at_ ≤ (s.elapse dt).now ∧ c.asked = false ∧ s.copying
    = false ∧ c.confirmed = false :=
  ⟨0, change .m6 .solo false, (at_ .m3).modMu (fun u => { u with pending := some (change .m6 .solo false) }), by decide +kernel,
    by decide +kernel, by decide +kernel, by decide +kernel, by decide +kernel⟩

theorem test_ModeRowsComplete_8 :
    ∃ (dt : Nat) (c : ModeChange) (s : State), s.mu.pending = some c ∧ c.at_ ≤ (s.elapse dt).now ∧ c.asked = false ∧ s.copying
    = true :=
  ⟨0, change .m6 .solo true,
    (({ at_ .m6 with tk := { (at_ .m6).tk with switch := some ⟨0, false, none, 0, some 0, some 0⟩ } }) : State).modMu
    (fun u => { u with pending := some (change .m6 .solo true) }),
     by decide +kernel, by decide +kernel, by decide +kernel, by decide +kernel⟩

theorem test_ModeRowsComplete_9 :
    ∃ (dt rb : Nat) (a : AutoChange) (s : State), (s.elapse dt).atFrame = true ∧ s.mode ≠ .m0 ∧ s.mu.auto = some a ∧ a.at_ ≤
    (s.elapse dt).now ∧ a.mode ≠ .m0 ∧ s.copying = false ∧ (¬ (s.mode = a.mode ∧ s.role = a.role)) :=
  ⟨0, 5, ⟨.m10, .none, 7, 0⟩, (at_ .m6).modMu (fun u => { u with auto := some ⟨.m10, .none, 7, 0⟩ }), by decide +kernel,
    by decide +kernel, by decide +kernel, by decide +kernel, by decide +kernel, by decide +kernel, by decide +kernel⟩

theorem test_ModeRowsComplete_10 :
    ∃ (dt : Nat) (s : State), (s.elapse dt).atFrame = true ∧ s.mode = .m3 ∧ s.mu.m3next = none ∧ (s.laneUp = false ∨
    s.pair.partner.mode = none) :=
  ⟨0, at_ .m3, by decide +kernel, by decide +kernel, by decide +kernel, by decide +kernel⟩

theorem test_ModeRowsComplete_11 :
    ∃ (dt : Nat) (m : Mode) (s : State), (s.elapse dt).atFrame = true ∧ s.mode = .m3 ∧ s.mu.m3next = none ∧ s.laneUp = true ∧
    s.pair.partner.mode = some m ∧ s.m3Rule ≠ s.m3Now :=
  ⟨0, .m3, mate .m3 .none (at_ .m3) |> fun s => { s with ao := { s.ao with m3share := 77 } }, by decide +kernel,
    by decide +kernel, by decide +kernel, by decide +kernel, by decide +kernel, by decide +kernel⟩

theorem test_ModeRowsComplete_12 :
    ∃ (dt : Nat) (x : M3Next) (s : State), (s.elapse dt).atFrame = true ∧ s.mode = .m3 ∧ s.mu.m3next = some x ∧ x.at_ ≤
    (s.elapse dt).now ∧ s.laneUp = true :=
  ⟨0, ⟨0, 50, true, .m3⟩, (mate .m3 .none (at_ .m3)).modMu (fun u => { u with m3next := some ⟨0, 50, true, .m3⟩ }),
    by decide +kernel, by decide +kernel, by decide +kernel, by decide +kernel, by decide +kernel⟩

theorem test_ModeRowsComplete_13 :
    ∃ (dt : Nat) (s : State), s.mode = .m7 ∧ s.eff 0x0107 ≠ 0 ∧ (s.elapse dt).since s.mu.entryTick (s.eff 0x0107 *
    Config.ticksPerSecond) = true ∧ s.mu.auto = none :=
  ⟨0, after 125000000 (set [(0x0107, 1)] (at_ .m7)), by decide +kernel, by decide +kernel, by decide +kernel, by decide +kernel⟩

/-! PowerRowsComplete -/

theorem test_PowerRowsComplete_1 :
    ∃ (dt feeds : Nat) (ohms : U32) (s : State), s.mode = .m0 ∧ feeds % 4 ≠ 0 :=
  ⟨0, 1, 0, State.reset, by decide +kernel, by decide +kernel⟩

theorem test_PowerRowsComplete_2 :
    ∃ (dt : Nat) (r : SelfTest) (s : State), s.mode = .m1 ∧ s.mu.startDone = false ∧ s.mu.haltCause = 0 ∧ r.tests = [] ∧ (∀ m
    ∈ s.annex.waiting, m.kind ≠ 1) ∧ r.images.getD s.fw.active false = false ∧ r.images.getD (1 - s.fw.active) false = false ∧
    s.mu.auto = none :=
  ⟨0, ⟨[], [], [false, false], 0⟩, at_ .m1, by decide +kernel, by decide +kernel, by decide +kernel, by decide +kernel,
    by decide +kernel, by decide +kernel, by decide +kernel, by decide +kernel⟩

theorem test_PowerRowsComplete_3 :
    ∃ (dt : Nat) (r : SelfTest) (s : State), s.mode = .m1 ∧ s.mu.startDone = false ∧ s.mu.haltCause = 0 ∧ r.tests = [] ∧ (∀ m
    ∈ s.annex.waiting, m.kind ≠ 1) ∧ r.images.getD s.fw.active false = true ∧ s.mu.slot = 0xFF :=
  ⟨0, ⟨[], [], [true, false], 0⟩, (at_ .m1).modMu (fun u => { u with slot := 0xFF }), by decide +kernel, by decide +kernel,
    by decide +kernel, by decide +kernel, by decide +kernel, by decide +kernel, by decide +kernel⟩

theorem test_PowerRowsComplete_4 :
    ∃ (dt : Nat) (r : SelfTest) (i : Image) (s : State), s.mode = .m1 ∧ s.mu.startDone = false ∧ s.mu.haltCause = 0 ∧ r.tests
    = [] ∧ (∀ m ∈ s.annex.waiting, m.kind ≠ 1) ∧ r.images.getD s.fw.active false = true ∧ s.mu.slot ≠ 0xFF ∧ s.cfg.committed =
    some i ∧ s.fwSchema < i.schema ∧ s.mu.auto = none :=
  ⟨0, ⟨[], [], [true, false], 0⟩, { schema := 10 },
    { at_ .m1 with cfg := { (at_ .m1).cfg with committed := some { schema := 10 } } }, by decide +kernel, by decide +kernel,
    by decide +kernel, by decide +kernel, by decide +kernel, by decide +kernel, by decide +kernel, by decide +kernel,
    by decide +kernel, by decide +kernel⟩

theorem test_PowerRowsComplete_5 :
    ∃ (dt : Nat) (r : SelfTest) (s : State), s.mode = .m1 ∧ s.mu.startDone = false ∧ s.mu.haltCause = 0 ∧ r.tests = [] ∧ (∀ m
    ∈ s.annex.waiting, m.kind ≠ 1) ∧ r.images.getD s.fw.active false = true ∧ s.mu.slot ≠ 0xFF ∧ s.cfg.committed = none ∧
    s.tk.active = 0xFF ∧ s.mu.auto = none :=
  ⟨0, ⟨[], [], [true, false], 0⟩, at_ .m1, by decide +kernel, by decide +kernel, by decide +kernel, by decide +kernel,
    by decide +kernel, by decide +kernel, by decide +kernel, by decide +kernel, by decide +kernel, by decide +kernel⟩

theorem test_PowerRowsComplete_6 :
    ∃ (dt : Nat) (p : Packet) (x : Session) (s : State), Accepted restartCmd (s.elapse dt) p x ∧ s.canDepart = false :=
  ⟨0, ask 0x0031 (beBytes 4 State.reset.ident.serial.toNat) 0, sess 3, on .m6, accepted_sealed (by decide +kernel),
    by decide +kernel⟩

theorem test_PowerRowsComplete_7 :
    ∃ (dt : Nat) (p : Packet) (x : Session) (s : State), Accepted restartCmd (s.elapse dt) p x ∧ s.canDepart = true ∧
    s.pair.departure = none :=
  ⟨0, ask 0x0031 (beBytes 4 State.reset.ident.serial.toNat) 0, sess 3, mate .m5 .standby (on .m4 .primary),
    accepted_sealed (by decide +kernel), by decide +kernel, by decide +kernel⟩

theorem test_PowerRowsComplete_8 :
    ∃ (dt cause : Nat) (s : State), s.mbx.restarting = none ∧ s.mode ≠ .m0 :=
  ⟨0, 1, at_ .m6, by decide +kernel, by decide +kernel⟩

theorem test_PowerRowsComplete_9 :
    ∃ (dt cause k : Nat) (s : State), s.mbx.restarting = some (cause, k) :=
  ⟨0, 1, 0, { at_ .m6 with mbx := { (at_ .m6).mbx with restarting := some (1, 0) } }, by decide +kernel⟩

theorem test_PowerRowsComplete_10 :
    ∃ (dt : Nat) (s : State), s.mode ≠ .m0 ∧ (∀ c k, s.mbx.restarting = some (c, k) → (s.elapse dt).since k (1500 *
    Config.ticksPerMs) = true) :=
  ⟨0, at_ .m6, by decide +kernel, (by
    intro c k h
    exact absurd h (by simp [at_, State.reset]))⟩

theorem test_PowerRowsComplete_11 :
    ∃ (dt : Nat) (s : State), s.mode ≠ .m0 ∧ s.sup.powerFail = false :=
  ⟨0, at_ .m6, by decide +kernel, by decide +kernel⟩

theorem test_PowerRowsComplete_12 :
    ∃ (dt feed : Nat) (l : Tab (List Byte)) (s : State), s.sup.powerFail = true ∧ s.sup.saving ≠ none ∧ s.mode ≠ .m0 ∧ s.mode
    ≠ .m1 ∧ s.ret.skip = false ∧ s.ret.begun = some l ∧ feed < 2 :=
  ⟨0, 0, [],
    ((at_ .m6).modSup (fun p => { p with powerFail := true, saving := some (0, 0) })) |> fun s => { s with ret := { s.ret with begun := some [] } },
    by decide +kernel, by decide +kernel, by decide +kernel, by decide +kernel, by decide +kernel, by decide +kernel,
    by decide +kernel⟩

theorem test_PowerRowsComplete_13 :
    ∃ (dt k why : Nat) (l : Tab (List Byte)) (s : State), s.sup.powerFail = true ∧ s.sup.saving = some (k, why) ∧ s.mode ≠ .m0
    ∧ s.mode ≠ .m1 ∧ s.ret.begun = some l :=
  ⟨0, 0, 0, [],
    ((at_ .m6).modSup (fun p => { p with powerFail := true, saving := some (0, 0) })) |> fun s => { s with ret := { s.ret with begun := some [] } },
    by decide +kernel, by decide +kernel, by decide +kernel, by decide +kernel, by decide +kernel⟩

theorem test_PowerRowsComplete_14 :
    ∃ (dt feed volt : Nat) (s : State), feed < 2 :=
  ⟨0, 1, 0, at_ .m6, by decide +kernel⟩

theorem test_PowerRowsComplete_15 :
    ∃ (dt feed : Nat) (s : State), feed < 2 ∧ s.sup.powerFail = false ∧ s.sup.present.getD (1 - feed) false = true :=
  ⟨0, 1, (at_ .m6).modSup (fun p => { p with present := [true, false] }), by decide +kernel, by decide +kernel,
    by decide +kernel⟩

theorem test_PowerRowsComplete_17 :
    ∃ (dt : Nat) (d : DiagIn) (s : State), s.mode ≠ .m0 ∧ (s.elapse dt).onGrid 100000000 = true :=
  ⟨0, ⟨0, 0, 0, 0, 0⟩, at_ .m6, by decide +kernel, by decide +kernel⟩

theorem test_PowerRowsComplete_18 :
    ∃ (dt : Nat) (s : State), s.savesRetained = true ∧ (s.elapse dt).since s.ret.lastTick s.savePeriod = true :=
  ⟨0, after 100000000000 (at_ .m6), by decide +kernel, by decide +kernel⟩

theorem test_PowerRowsComplete_19 :
    ∃ (dt : Nat) (s : State), s.savesRetained = true ∧ (s.elapse dt).since (max (s.ret.lastTick + s.savePeriod)
    (s.ret.saving.getD 0)) s.savePeriod = true :=
  ⟨0, after 100000000000 (at_ .m6), by decide +kernel, by decide +kernel⟩

end Sys2Proof.Tests
end

