-- ==== Sys2Proof/Tests/Witness2.lean ====
section
/-!
SUPPORT. For each hypothesis set of these statements a concrete state and operands that meet it: ProgramRowsComplete,
TaskRowsComplete, CorePairRowsComplete, DebugRowsComplete, TaskFrameRowsComplete, PairFrameRowsComplete.
-/
namespace Sys2Proof.Tests
set_option Elab.async false
set_option linter.unusedVariables false
open Sys2Proof Sys2Proof.Machine

/-! ProgramRowsComplete -/

theorem test_ProgramRowsComplete_1 :
    ∃ (dt : Nat) (p : Packet) (x : Session) (b : List Byte) (s : State), Accepted programLoadCmd (s.elapse dt) p x ∧ (((reqOf
    p).arg = 0 ∧ b = (reqOf p).body) ∨ ((reqOf p).arg ≠ 0 ∧ s.tk.loadNext = some (reqOf p).arg ∧ b = (s.progSlot
    s.loadSlot).bytes ++ (reqOf p).body)) ∧ (¬ (128 ≤ b.length ∧ leAt b 8 4 < b.length)) :=
  ⟨0, ask 0x0040 ([1#8]) 0, sess 3, [1#8], on .m3, accepted_sealed (by decide +kernel), by decide +kernel, by decide +kernel⟩

theorem test_ProgramRowsComplete_2 :
    ∃ (dt : Nat) (p : Packet) (x : Session) (s : State), Accepted programSwitchCmd (s.elapse dt) p x :=
  ⟨0, ask 0x0041 (beBytes 4 0) 0, sess 3, { on .m3 with tk := { (on .m3).tk with slotA := { complete := true } } },
    accepted_sealed (by decide +kernel)⟩

theorem test_ProgramRowsComplete_4 :
    ∃ (dt : Nat) (w : ProgSwitch) (st : Status) (k : Nat) (s : State), s.tk.switch = some w ∧ w.since = none ∧ s.mode = .m8 ∧
    w.at_ ≤ (s.elapse dt).now ∧ s.switchRefused w = some (st, k) :=
  ⟨0, ⟨0, true, none, 0, none, none⟩, .imageRefused, noPos,
    { at_ .m8 with tk := { (at_ .m8).tk with switch := some ⟨0, true, none, 0, none, none⟩ } }, by decide +kernel,
    by decide +kernel, by decide +kernel, by decide +kernel, by decide +kernel⟩

theorem test_ProgramRowsComplete_5 :
    ∃ (dt since : Nat) (w : ProgSwitch) (s : State), s.tk.switch = some w ∧ w.since = some since ∧ s.mode = .m8 ∧ w.at_ ≤
    (s.elapse dt).now ∧ (∀ n < 32, s.cyc n = none) ∧ (s.elapse dt).since (w.copying.getD (s.elapse dt).tick) (s.mappedBytes w
    / 32) = false :=
  ⟨0, 0, ⟨0, false, none, 0, some 0, none⟩,
    { Tests.at_ .m8 with tk := { (Tests.at_ .m8).tk with switch := some ⟨0, false, none, 0, some 0, none⟩, slotA := { bytes := List.replicate 0x48 0#8 ++ leBytes 4 80 ++ leBytes 4 88 ++ List.replicate 8 0#8 }, prog := { syms := [⟨1, 0, 64, 6, 0, 1⟩] } } },
    by decide +kernel, by decide +kernel, by decide +kernel, by decide +kernel, by decide +kernel, by decide +kernel⟩

theorem test_ProgramRowsComplete_6 :
    ∃ (dt since : Nat) (w : ProgSwitch) (s : State), s.tk.switch = some w ∧ w.since = some since ∧ s.mode = .m8 ∧ w.at_ ≤
    (s.elapse dt).now ∧ (∀ n < 32, s.cyc n = none) ∧ (s.elapse dt).since (w.copying.getD (s.elapse dt).tick) (s.mappedBytes w
    / 32) = true :=
  ⟨0, 0, ⟨0, true, none, 0, some 0, some 0⟩,
    Tests.after 1000 ({ at_ .m8 with tk := { (at_ .m8).tk with switch := some ⟨0, true, none, 0, some 0, some 0⟩ } }),
    by decide +kernel, by decide +kernel, by decide +kernel, by decide +kernel, by decide +kernel, by decide +kernel⟩

theorem test_ProgramRowsComplete_7 :
    ∃ (dt : Nat) (p : Packet) (x : Session) (s : State), Accepted valueWriteCmd (s.elapse dt) p x :=
  ⟨0, ask 0x0042 (beBytes 4 0 ++ beBytes 4 (2 ^ 16) ++ beBytes 4 0 ++ beBytes 4 (4 * 2 ^ 24) ++ beBytes 8 5) 0, sess 3,
    { on .m6 with tk := { (on .m6).tk with prog := { syms := [⟨1, 0, 4, 6, 0, 4⟩] } } }, accepted_sealed (by decide +kernel)⟩

theorem test_ProgramRowsComplete_8 :
    ∃ (dt n y len v : Nat) (q : Sym) (w : ValueWrite) (s : State), n < 32 ∧ s.cyc n = none ∧ s.role ≠ .standby ∧ (s.task
    n).abandoned = none ∧ (s.task n).writes = [w] ∧ w.entries = [(y, len, v)] ∧ s.tk.prog.syms[y]? = some q ∧ s.lk.writes = [] :=
  ⟨0, 0, 0, 4, 5, ⟨1, 0, 4, 6, 0, 4⟩, ⟨[(0, 4, 5)], none, 7, [], 0⟩,
    ({ at_ .m6 with tk := { (at_ .m6).tk with prog := { syms := [⟨1, 0, 4, 6, 0, 4⟩] } } } : State).modTask 0 (fun k => { k with writes := [⟨[(0, 4, 5)], none, 7, [], 0⟩] }),
    by decide +kernel, by decide +kernel, by decide +kernel, by decide +kernel, by decide +kernel, by decide +kernel,
    by decide +kernel, by decide +kernel⟩

theorem test_ProgramRowsComplete_9 :
    ∃ (dt kind point v : Nat) (p : Packet) (x : Session) (s : State), Accepted forceSetCmd (s.elapse dt) p x ∧ forceEntries
    (reqOf p).body = [(kind, point, v)] :=
  ⟨0, 1, 5, 9, ask 0x0043 (beBytes 4 (2 ^ 16) ++ beBytes 4 (2 ^ 24 + 5) ++ beBytes 4 9) 0, sess 3,
    { on .m8 with tk := { (on .m8).tk with prog := { points := [⟨false, false, 5, 0, 0⟩] } } },
    accepted_sealed (by decide +kernel), by decide +kernel⟩

theorem test_ProgramRowsComplete_10 :
    ∃ (dt : Nat) (p : Packet) (x : Session) (s : State), Accepted forceClearCmd (s.elapse dt) p x :=
  ⟨0, ask 0x0044 (beBytes 4 0) 0, sess 3, on .m8, accepted_sealed (by decide +kernel)⟩

theorem test_ProgramRowsComplete_11 :
    ∃ (dt : Nat) (p : Packet) (x : Session) (s : State), Accepted taskTriggerCmd (s.elapse dt) p x :=
  ⟨0, ask 0x0045 (beBytes 4 0) 0, sess 3, set [(0x0300, 2 ^ 31 + 2 * 2 ^ 16 + 2 * 2 ^ 10)] (on .m6),
    accepted_sealed (by decide +kernel)⟩

/-- A program image of one task and no points or symbols (R120). -/
def programFile : List Byte :=
  let a := [0x49#8, 0x53#8, 0x50#8, 0x47#8] ++ leBytes 2 1 ++ leBytes 2 0 ++ leBytes 4 256 ++ leBytes 4 1
  let b := List.replicate 208 0#8
  a ++ sha256 (a ++ List.replicate 32 0#8 ++ b) ++ b

/-- The module in M8 with that image in PG-A and a cold switch to it pending. -/
def switching (b : List Byte) : State :=
  { at_ .m8 with tk := { (at_ .m8).tk with slotA := { bytes := b, complete := true }, switch := some ⟨0, true, none, 0, none, none⟩ } }

theorem programFile_bytes : ∃ b, programFile = b ∧ b.length = 256 ∧ (parseProgram b).points = [] ∧
    sha256 (b.take 0x10 ++ List.replicate 32 0#8 ++ b.drop 0x30) = slice b 0x10 32 := ⟨_, rfl, by decide +kernel, by decide +kernel, by decide +kernel⟩

theorem test_ProgramRowsComplete_3 (h1 : Config.taskTable programFile 0 = []) (h2 : Config.codeCheck programFile = none) :
    ∃ (dt : Nat) (w : ProgSwitch) (s : State), s.tk.switch = some w ∧ w.since = none ∧ s.mode = .m8 ∧
      w.at_ ≤ (s.elapse dt).now ∧ s.switchRefused w = none := by
  refine ⟨0, ⟨0, true, none, 0, none, none⟩, switching programFile, by decide +kernel, rfl, by decide +kernel, by decide +kernel, ?_⟩
  have hb : ((switching programFile).progSlot 0).bytes = programFile := rfl
  have ht : (parseProgram programFile).tasks = [(0, taskDecl programFile 0)] := by
    unfold parseProgram
    rw [show leAt programFile 0x0C 1 = 1 by decide +kernel]
    rfl
  have hd : taskDecl programFile 0 = {} := by
    unfold taskDecl
    rw [h1]
    rfl
  have hp : (parseProgram programFile).points = [] := by decide +kernel
  unfold State.switchRefused
  simp only [hb]
  have hr : (switching programFile).progRefused programFile = none := by
    unfold State.progRefused State.placed
    simp only [hp, ht, hd, h2]
    decide +kernel
  simp only [hr]
  rfl

/-! TaskRowsComplete -/

theorem test_TaskRowsComplete_1 :
    ∃ (dt n t0 : Nat) (s : State), n < 32 ∧ (s.elapse dt).dueNow n = some t0 ∧ s.mode.isRun = true ∧ s.decidesStarts = true :=
  ⟨0, 0, 0, set [(0x0300, 2 ^ 31)] (at_ .m6), by decide +kernel, by decide +kernel, by decide +kernel, by decide +kernel⟩

theorem test_TaskRowsComplete_2 :
    ∃ (dt n : Nat) (c : Cycle) (s : State), n < 32 ∧ s.cyc n = some c ∧ (s.elapse dt).loadsNext n = true :=
  ⟨0, 0, ⟨0, 1, 0, [], [], false, false, false, false, 0, 0⟩,
    (at_ .m6).modTask 0 (fun k => { k with cyc := some ⟨0, 1, 0, [], [], false, false, false, false, 0, 0⟩ }), by decide +kernel,
    by decide +kernel, by decide +kernel⟩

theorem test_TaskRowsComplete_3 :
    ∃ (dt n : Nat) (d : CloseData) (c : Cycle) (s : State), n < 32 ∧ s.halted n = false ∧ s.cyc n = some c ∧ (s.elapse
    dt).runsNow n = true ∧ d.lines.length ≤ 4096 :=
  ⟨0, 0, ⟨[], [], [(0, [1#8])], 5⟩, ⟨0, 1, 0, [], [], true, false, false, false, 0, 0⟩,
    (at_ .m6).modTask 0 (fun k => { k with cyc := some ⟨0, 1, 0, [], [], true, false, false, false, 0, 0⟩ }), by decide +kernel,
    by decide +kernel, by decide +kernel, by decide +kernel, by decide +kernel⟩

theorem test_TaskRowsComplete_4 :
    ∃ (dt n osn : Nat) (h : Held) (s : State), n < 32 ∧ (s.task n).waiting.find? (·.osn == osn) = some h ∧ s.releasable n h =
    true :=
  ⟨0, 0, 1, ⟨1, 0, [], [], 9, 0, []⟩, (at_ .m6 .solo).modTask 0 (fun k => { k with waiting := [⟨1, 0, [], [], 9, 0, []⟩] }),
    by decide +kernel, by decide +kernel, by decide +kernel⟩

theorem test_TaskRowsComplete_5 :
    ∃ (dt n osn : Nat) (h : Held) (s : State), n < 32 ∧ (s.task n).waiting.find? (·.osn == osn) = some h ∧ s.role = .primary ∧
    s.awaitsPartner = true ∧ s.releasable n h = false ∧ (s.elapse dt).since h.ready (s.eff 0x0202 * Config.ticksPerUs) = true :=
  ⟨0, 0, 1, ⟨1, 0, [], [], 9, 0, []⟩,
    after 100000000 ((mate .m5 .standby (at_ .m4 .primary)).modTask 0 (fun k => { k with waiting := [⟨1, 0, [], [], 9, 0, []⟩] })),
    by decide +kernel, by decide +kernel, by decide +kernel, by decide +kernel, by decide +kernel, by decide +kernel⟩

theorem test_TaskRowsComplete_6 :
    ∃ (dt n cause : Nat) (addr : U64) (c : Cycle) (s : State), n < 32 ∧ (cause = 1 ∨ cause = 2 ∨ cause = 3) ∧ s.cyc n = some c
    ∧ (s.elapse dt).runsNow n = true ∧ (s.eff 0x03C4 = 0 ∨ (s.task n).faults + 1 < s.eff 0x03C4) :=
  ⟨0, 0, 1, 64, ⟨0, 1, 0, [], [], true, false, false, false, 0, 0⟩,
    set [(0x03C4, 3)] ((at_ .m6).modTask 0 (fun k => { k with cyc := some ⟨0, 1, 0, [], [], true, false, false, false, 0, 0⟩ })),
    by decide +kernel, by decide +kernel, by decide +kernel, by decide +kernel, by decide +kernel⟩

theorem test_TaskRowsComplete_7 :
    ∃ (dt n cause : Nat) (addr : U64) (c : Cycle) (s : State), n < 32 ∧ (cause = 1 ∨ cause = 2 ∨ cause = 3) ∧ s.cyc n = some c
    ∧ (s.elapse dt).runsNow n = true ∧ s.eff 0x03C4 ≠ 0 ∧ s.eff 0x03C4 ≤ (s.task n).faults + 1 ∧ (s.task n).stopped = false :=
  ⟨0, 0, 3, 64, ⟨0, 1, 0, [], [], true, false, false, false, 0, 0⟩,
    set [(0x03C4, 1)] ((at_ .m6).modTask 0 (fun k => { k with cyc := some ⟨0, 1, 0, [], [], true, false, false, false, 0, 0⟩ })),
    by decide +kernel, by decide +kernel, by decide +kernel, by decide +kernel, by decide +kernel, by decide +kernel,
    by decide +kernel⟩

theorem test_TaskRowsComplete_8 :
    ∃ (dt n : Nat) (c : Cycle) (s : State), n < 32 ∧ (s.task n).abandoned = some c ∧ (s.pairTasks (s.taskPair n)).all (fun m
    => m == n || (s.task m).abandoned.isNone) = true ∧ (s.elapse dt).blocked (s.taskPair n) = false :=
  ⟨0, 0, ⟨0, 1, 0, [], [], true, false, true, false, 0, 0⟩,
    (at_ .m6).modTask 0 (fun k => { k with abandoned := some ⟨0, 1, 0, [], [], true, false, true, false, 0, 0⟩ }),
    by decide +kernel, by decide +kernel, by decide +kernel, by decide +kernel⟩

theorem test_TaskRowsComplete_9 :
    ∃ (dt n at_ : Nat) (y : Payload) (s : State), n < 32 ∧ (s.elapse dt).repeatDue n = some at_ ∧ (s.task n).payload = some y
    ∧ s.role = .solo ∧ s.mode = .m7 ∧ s.taskOn n = true ∧ (s.task n).startTick ≠ some (s.elapse dt).tick :=
  ⟨0, 0, 0, ⟨0, [(0, [])]⟩,
    set [(0x0300, 2 ^ 31)] ((Tests.at_ .m7 .solo).modTask 0 (fun k => { k with payload := some ⟨0, [(0, [])]⟩ })),
    by decide +kernel, by decide +kernel, by decide +kernel, by decide +kernel, by decide +kernel, by decide +kernel,
    by decide +kernel⟩

/-! CorePairRowsComplete -/

theorem test_CorePairRowsComplete_1 :
    ∃ (dt : Nat) (p : Packet) (x : Session) (s : State), Accepted splitCmd (s.elapse dt) p x :=
  ⟨0, ask 0x0050 (beBytes 4 0) 0, sess 3, set [(0x0700, 2 ^ 31)] (on .m6), accepted_sealed (by decide +kernel)⟩

theorem test_CorePairRowsComplete_2 :
    ∃ (dt : Nat) (p : Packet) (x : Session) (s : State), Accepted joinCmd (s.elapse dt) p x :=
  ⟨0, ask 0x0051 (beBytes 4 0) 0, sess 3, (on .m6).modCore 0 (fun c => { c with room := 2 }),
    accepted_sealed (by decide +kernel)⟩

theorem test_CorePairRowsComplete_3 :
    ∃ (dt p : Nat) (d : Drain) (s : State), p < 10 ∧ (s.corePair p).drain = some d ∧ d.loading = none ∧ s.pairIdle p = true ∧
    (s.mode ≠ .m3 ∨ (s.elapse dt).atFrame = true) :=
  ⟨0, 9, ⟨.split, 0, none, none⟩, (at_ .m6).modCore 9 (fun c => { c with drain := some ⟨.split, 0, none, none⟩ }),
    by decide +kernel, by decide +kernel, by decide +kernel, by decide +kernel, by decide +kernel⟩

theorem test_CorePairRowsComplete_4 :
    ∃ (dt p : Nat) (d : Drain) (s : State), p < 10 ∧ (s.corePair p).drain = some d ∧ d.loading = none ∧ d.kind ≠ .detach ∧
    (s.elapse dt).since d.since Config.ticksPerSecond = true :=
  ⟨0, 9, ⟨.attach, 0, none, none⟩,
    after 125000000 ((at_ .m6).modCore 9 (fun c => { c with drain := some ⟨.attach, 0, none, none⟩ })), by decide +kernel,
    by decide +kernel, by decide +kernel, by decide +kernel, by decide +kernel⟩

theorem test_CorePairRowsComplete_5 :
    ∃ (dt p since : Nat) (d : Drain) (s : State), p < 10 ∧ (s.corePair p).drain = some d ∧ d.loading = some since ∧ (s.elapse
    dt).since since (40 * Config.ticksPerUs) = true :=
  ⟨0, 9, 0, ⟨.join, 0, none, some 0⟩,
    after 5000 ((at_ .m6).modCore 9 (fun c => { c with room := 2, drain := some ⟨.join, 0, none, some 0⟩ })), by decide +kernel,
    by decide +kernel, by decide +kernel, by decide +kernel⟩

theorem test_CorePairRowsComplete_6 :
    ∃ (dt p kind lane : Nat) (running saving : Option Nat) (committed : Bool) (s : State), p < 10 ∧ lane < 64 ∧ kind < 3 ∧
    s.mode ≠ .m0 ∧ (s.corePair p).room ≠ 2 ∧ (s.corePair p).room ≠ 3 :=
  ⟨0, 9, 2, 63, none, none, false, at_ .m6, by decide +kernel, by decide +kernel, by decide +kernel, by decide +kernel,
    by decide +kernel, by decide +kernel⟩

theorem test_CorePairRowsComplete_7 :
    ∃ (dt kind lane : Nat) (running saving : Option Nat) (committed : Bool) (s : State), lane < 64 ∧ kind < 3 ∧ s.mode ≠ .m0 ∧
    s.mbx.restarting = none :=
  ⟨0, 2, 63, none, none, false, at_ .m6, by decide +kernel, by decide +kernel, by decide +kernel, by decide +kernel⟩

theorem test_CorePairRowsComplete_8 :
    ∃ (dt p : Nat) (passed : U64) (s : State), p < 11 ∧ s.mode ≠ .m0 ∧ s.mode ≠ .m11 ∧ (s.corePair p).failed = false ∧
    (s.corePair p).room ≠ 2 ∧ (p < 10 → s.pairIdle p = true ∧ (s.pairTasks p).any (s.elapse dt).dueSoon = false) ∧ (s.mode =
    .m1 ∨ (s.corePair p).tested + (if p < 10 ∧ s.resState p = 1 then 60 else 86400) ≤ (s.elapse dt).ident.opSeconds) :=
  ⟨0, 10, 0, at_ .m1, by decide +kernel, by decide +kernel, by decide +kernel, by decide +kernel, by decide +kernel,
    by decide +kernel, by decide +kernel⟩

theorem test_CorePairRowsComplete_9 :
    ∃ (dt p k : Nat) (passed : U64) (s : State), p < 11 ∧ (s.corePair p).failedAt = some k ∧ (s.elapse dt).since k
    Config.ticksPerSecond = true ∧ (p < 10 → s.pairIdle p = true) :=
  ⟨0, 10, 0, 0, after 125000000 ((at_ .m6).modCore 10 (fun c => { c with failedAt := some 0 })), by decide +kernel,
    by decide +kernel, by decide +kernel, by decide +kernel⟩

theorem test_CorePairRowsComplete_10 :
    ∃ (dt u count first : Nat) (a b : U64) (s : State), 13 ≤ u ∧ u ≤ 15 ∧ a ≠ b ∧ (count = 1024 ∨ (count < 1024 ∧ ∀ k, (tget
    s.lk.window u {}).closed = some k → (s.elapse dt).since k (100 * Config.ticksPerUs) = true)) :=
  ⟨0, 13, 2, 5, 1, 2, Tests.at_ .m6, by decide +kernel, by decide +kernel, by decide +kernel, by decide +kernel⟩

theorem test_CorePairRowsComplete_11 :
    ∃ (dt count first : Nat) (a : U64) (s : State), (count = 1024 ∨ (count < 1024 ∧ ∀ k, (tget s.lk.window 15 {}).closed =
    some k → (s.elapse dt).since k (100 * Config.ticksPerUs) = true)) :=
  ⟨0, 1024, 5, 1, at_ .m6, by decide +kernel⟩

/-! DebugRowsComplete -/

theorem test_DebugRowsComplete_1 :
    ∃ (dt : Nat) (p : Packet) (x : Session) (s : State), Accepted debugAttachCmd (s.elapse dt) p x :=
  ⟨0, ask 0x0052 (beBytes 4 0) 0, sess 3, on .m8, accepted_sealed (by decide +kernel)⟩

theorem test_DebugRowsComplete_2 :
    ∃ (dt : Nat) (p : Packet) (x : Session) (g : Debugger) (s : State), Accepted debugDetachCmd (s.elapse dt) p x ∧
    s.lk.debugger = some g :=
  ⟨0, ask 0x0053 ([]) 0, sess 3, ⟨0, 7, 2, true, [], [], 0, 0⟩,
    { on .m8 with lk := { (on .m8).lk with debugger := some ⟨0, 7, 2, true, [], [], 0, 0⟩ } },
    accepted_sealed (by decide +kernel), by decide +kernel⟩

theorem test_DebugRowsComplete_3 :
    ∃ (dt count : Nat) (p : Packet) (x : Session) (g : Debugger) (s : State), DebugHeard 0x0001 (s.elapse dt) p x g :=
  ⟨0, 64, ask 0x0001, sess 3, ⟨0, 7, 2, true, [], [], 0, 0⟩,
    { on .m8 with lk := { (on .m8).lk with debugger := some ⟨0, 7, 2, true, [], [], 0, 0⟩ } },
    debugHeard_sealed (by decide +kernel)⟩

theorem test_DebugRowsComplete_4 :
    ∃ (dt reg : Nat) (v : U64) (p : Packet) (x : Session) (g : Debugger) (s : State), DebugHeard 0x0002 (s.elapse dt) p x g ∧
    g.halted = true ∧ reg ≤ 65535 :=
  ⟨0, 65535, 5, ask 0x0002, sess 3, ⟨0, 7, 2, true, [], [], 0, 0⟩,
    { on .m8 with lk := { (on .m8).lk with debugger := some ⟨0, 7, 2, true, [], [], 0, 0⟩ } },
    debugHeard_sealed (by decide +kernel), by decide +kernel, by decide +kernel⟩

theorem test_DebugRowsComplete_5 :
    ∃ (dt task addr len : Nat) (a : Area) (p : Packet) (x : Session) (g : Debugger) (s : State), DebugHeard 0x0003 (s.elapse
    dt) p x g ∧ memRefused a task len 4096 = none ∧ s.touchesSeal a addr len = false :=
  ⟨0, 0, 0, 4096, .ownState, ask 0x0003, sess 3, ⟨0, 7, 2, true, [], [], 0, 0⟩,
    { on .m8 with lk := { (on .m8).lk with debugger := some ⟨0, 7, 2, true, [], [], 0, 0⟩ } },
    debugHeard_sealed (by decide +kernel), by decide +kernel, by decide +kernel⟩

theorem test_DebugRowsComplete_6 :
    ∃ (dt task addr len : Nat) (a : Area) (p : Packet) (x : Session) (g : Debugger) (s : State), DebugHeard 0x0003 (s.elapse
    dt) p x g ∧ memRefused a task len 4096 = none ∧ s.touchesSeal a addr len = true :=
  ⟨0, 0, 0, 1, .working, ask 0x0003, sess 3, ⟨0, 7, 2, true, [], [], 0, 0⟩,
    ({ on .m8 with lk := { (on .m8).lk with debugger := some ⟨0, 7, 2, true, [], [], 0, 0⟩ } } : State) |> fun s => { s with prot := { s.prot with regions := [(0, 3 * 2 ^ 94)] } },
    debugHeard_sealed (by decide +kernel), by decide +kernel, by decide +kernel⟩

theorem test_DebugRowsComplete_7 :
    ∃ (dt task addr : Nat) (bytes : List Byte) (a : Area) (p : Packet) (x : Session) (g : Debugger) (s : State), DebugHeard
    0x0004 (s.elapse dt) p x g ∧ memRefused a task bytes.length 64 = none ∧ s.touchesSeal a addr bytes.length = false :=
  ⟨0, 0, 0, [1#8], .ownState, ask 0x0004, sess 3, ⟨0, 7, 2, true, [], [], 0, 0⟩,
    { on .m8 with lk := { (on .m8).lk with debugger := some ⟨0, 7, 2, true, [], [], 0, 0⟩ } },
    debugHeard_sealed (by decide +kernel), by decide +kernel, by decide +kernel⟩

theorem test_DebugRowsComplete_8 :
    ∃ (dt addr : Nat) (on : Bool) (p : Packet) (x : Session) (g : Debugger) (s : State), DebugHeard 0x0005 (s.elapse dt) p x g
    ∧ s.mode = .m8 :=
  ⟨0, 64, true, ask 0x0005, sess 3, ⟨0, 7, 2, true, [], [], 0, 0⟩,
    { Tests.on .m8 with lk := { (Tests.on .m8).lk with debugger := some ⟨0, 7, 2, true, [], [], 0, 0⟩ } },
    debugHeard_sealed (by decide +kernel), by decide +kernel⟩

theorem test_DebugRowsComplete_9 :
    ∃ (dt : Nat) (p : Packet) (x : Session) (g : Debugger) (s : State), DebugHeard 0x0006 (s.elapse dt) p x g ∧ s.mode = .m8 :=
  ⟨0, ask 0x0006, sess 3, ⟨0, 7, 2, true, [], [], 0, 0⟩,
    { on .m8 with lk := { (on .m8).lk with debugger := some ⟨0, 7, 2, true, [], [], 0, 0⟩ } },
    debugHeard_sealed (by decide +kernel), by decide +kernel⟩

theorem test_DebugRowsComplete_11 :
    ∃ (dt : Nat) (regs : List (Nat × U64)) (p : Packet) (x : Session) (g : Debugger) (s : State), DebugHeard 0x0006 (s.elapse
    dt) p x g ∧ s.mode = .m8 :=
  ⟨0, [(1, 5)], ask 0x0006, sess 3, ⟨0, 7, 2, true, [], [], 0, 0⟩,
    { on .m8 with lk := { (on .m8).lk with debugger := some ⟨0, 7, 2, true, [], [], 0, 0⟩ } },
    debugHeard_sealed (by decide +kernel), by decide +kernel⟩

theorem test_DebugRowsComplete_12 :
    ∃ (dt addr : Nat) (on : Bool) (p : Packet) (x : Session) (g : Debugger) (s : State), DebugHeard 0x0007 (s.elapse dt) p x g :=
  ⟨0, 64, true, ask 0x0007, sess 3, ⟨0, 7, 2, true, [], [], 0, 0⟩,
    { Tests.on .m8 with lk := { (Tests.on .m8).lk with debugger := some ⟨0, 7, 2, true, [], [], 0, 0⟩ } },
    debugHeard_sealed (by decide +kernel)⟩

/-! TaskFrameRowsComplete -/

theorem test_TaskFrameRowsComplete_1 :
    ∃ (dt : Nat) (h : LaneHdr) (f : AgreedIn) (s e : State), s.elapse dt = e ∧ Taken e h ∧ f.task < 32 ∧ e.role = .standby ∧
    e.mode = .m5 ∧ e.mu.entryTime ≤ f.stamp ∧ e.pair.resync = false ∧ ((e.task f.task).lastStamp = 0 ∨ (f.osn + 2 ^ 32 -
    (e.task f.task).osn) % 2 ^ 32 = 1) ∧ f.digest = e.tk.prog.digest.toNat ∧ (e.task f.task).stopped = false ∧ e.cycOpen
    f.task = false ∧ e.holdsStarts f.task = false ∧ e.startsNoMore = false ∧ (e.task f.task).trigger = none :=
  ⟨0, ⟨1, true, 5, 0, 1⟩, ⟨0, false, false, 3, 1, 0, [], [], [], [], 0, 0⟩, mate .m4 .primary (at_ .m5 .standby), _, rfl,
    taken_of (by decide +kernel), by decide +kernel, by decide +kernel, by decide +kernel, by decide +kernel, by decide +kernel,
    by decide +kernel, by decide +kernel, by decide +kernel, by decide +kernel, by decide +kernel, by decide +kernel,
    by decide +kernel⟩

theorem test_TaskFrameRowsComplete_2 :
    ∃ (dt : Nat) (h : LaneHdr) (f : AgreedIn) (s e : State), s.elapse dt = e ∧ Taken e h ∧ f.task < 32 ∧ e.role = .standby ∧
    e.mode = .m5 ∧ e.mu.entryTime ≤ f.stamp ∧ e.pair.resync = false ∧ (e.task f.task).lastStamp ≠ 0 ∧ (f.osn + 2 ^ 32 -
    (e.task f.task).osn) % 2 ^ 32 = 2 ∧ (e.task f.task).lateOsns = [] :=
  ⟨0, ⟨1, true, 5, 0, 1⟩, ⟨0, false, false, 3, 3, 500000, [], [], [], [], 0, 0⟩,
    (mate .m4 .primary (at_ .m5 .standby)).modTask 0 (fun k => { k with lastStamp := 5, osn := 1 }), _, rfl,
    taken_of (by decide +kernel), by decide +kernel, by decide +kernel, by decide +kernel, by decide +kernel, by decide +kernel,
    by decide +kernel, by decide +kernel, by decide +kernel⟩

theorem test_TaskFrameRowsComplete_3 :
    ∃ (dt : Nat) (h : LaneHdr) (f : DigestIn) (w : Held) (s e : State), s.elapse dt = e ∧ Taken e h ∧ f.task < 32 ∧
    e.awaitsPartner = true ∧ f.osn ∉ (e.task f.task).withheld ∧ (e.task f.task).peers.find? (·.osn == f.osn) = none ∧ (e.task
    f.task).waiting.find? (·.osn == f.osn) = some w ∧ (e.role = .primary ∨ w.digest = f.digest) :=
  ⟨0, ⟨1, true, 5, 0, 1⟩, ⟨0, 1, 9, [], []⟩, ⟨1, 0, [], [], 9, 0, []⟩,
    (mate .m4 .primary (at_ .m5 .standby)).modTask 0 (fun k => { k with waiting := [⟨1, 0, [], [], 9, 0, []⟩] }), _, rfl,
    taken_of (by decide +kernel), by decide +kernel, by decide +kernel, by decide +kernel, by decide +kernel, by decide +kernel,
    by decide +kernel⟩

theorem test_TaskFrameRowsComplete_4 :
    ∃ (dt : Nat) (h : LaneHdr) (f : DigestIn) (w : Held) (s e : State), s.elapse dt = e ∧ Taken e h ∧ f.task < 32 ∧
    e.awaitsPartner = true ∧ f.osn ∉ (e.task f.task).withheld ∧ (e.task f.task).peers.find? (·.osn == f.osn) = none ∧ (e.task
    f.task).waiting.find? (·.osn == f.osn) = some w ∧ e.role = .standby ∧ w.digest ≠ f.digest :=
  ⟨0, ⟨1, true, 5, 0, 1⟩, ⟨0, 1, 9, [], []⟩, ⟨1, 0, [], [], 8, 0, []⟩,
    (mate .m4 .primary (at_ .m5 .standby)).modTask 0 (fun k => { k with waiting := [⟨1, 0, [], [], 8, 0, []⟩] }), _, rfl,
    taken_of (by decide +kernel), by decide +kernel, by decide +kernel, by decide +kernel, by decide +kernel, by decide +kernel,
    by decide +kernel, by decide +kernel⟩

theorem test_TaskFrameRowsComplete_5 :
    ∃ (dt n cause osn : Nat) (h : LaneHdr) (w : Held) (s e : State), s.elapse dt = e ∧ Taken e h ∧ n < 32 ∧ e.awaitsPartner =
    true ∧ (e.task n).waiting.find? (·.osn == osn) = some w :=
  ⟨0, 0, 1, 1, ⟨1, true, 5, 0, 1⟩, ⟨1, 0, [], [], 8, 0, []⟩,
    (mate .m5 .standby (at_ .m4 .primary)).modTask 0 (fun k => { k with waiting := [⟨1, 0, [], [], 8, 0, []⟩] }), _, rfl,
    taken_of (by decide +kernel), by decide +kernel, by decide +kernel, by decide +kernel⟩

theorem test_TaskFrameRowsComplete_6 :
    ∃ (dt n osn : Nat) (sum own : U64) (h : LaneHdr) (s e : State), s.elapse dt = e ∧ Taken e h ∧ n < 32 ∧ (e.task n).ownSum =
    some (osn, own) :=
  ⟨0, 31, 64, 1, 2, ⟨1, true, 5, 0, 1⟩,
    (mate .m4 .primary (at_ .m5 .standby)).modTask 31 (fun k => { k with ownSum := some (64, 2) }), _, rfl,
    taken_of (by decide +kernel), by decide +kernel, by decide +kernel⟩

theorem test_TaskFrameRowsComplete_7 :
    ∃ (dt first count n q : Nat) (c : Cycle) (h : LaneHdr) (s e : State), s.elapse dt = e ∧ Taken e h ∧ e.role = .standby ∧ n
    < 32 ∧ e.cyc n = some c ∧ (e.task n).frameSeq = some q ∧ (q + 2 ^ 32 - first % 2 ^ 32) % 2 ^ 32 < count :=
  ⟨0, 2 ^ 32 - 1, 2, 0, 0, ⟨0, 1, 0, [], [], true, false, false, false, 0, 0⟩, ⟨1, true, 5, 0, 1⟩,
    (mate .m4 .primary (at_ .m5 .standby)).modTask 0 (fun k => { k with cyc := some ⟨0, 1, 0, [], [], true, false, false, false, 0, 0⟩, frameSeq := some 0 }),
    _, rfl, taken_of (by decide +kernel), by decide +kernel, by decide +kernel, by decide +kernel, by decide +kernel,
    by decide +kernel⟩

/-! PairFrameRowsComplete -/

theorem test_PairFrameRowsComplete_1_1 :
    ∃ (dt n l ep o : Nat) (b : List Byte) (r : LoopRec) (c : Copy) (h : LaneHdr) (s e : State), s.elapse dt = e ∧ Taken e h ∧
    n < 32 ∧ e.pair.copy = some c ∧ c.taking = true :=
  ⟨0, 31, 2, 3, 4, [1#8], {}, ⟨0, true, 0⟩, ⟨1, true, 5, 0, 1⟩,
    (mate .m4 .primary (at_ .m5 .standby)).modPair (fun p => { p with copy := some ⟨0, true, 0⟩, joining := false }), _, rfl,
    taken_of (by decide +kernel), by decide +kernel, by decide +kernel, by decide +kernel⟩

theorem test_PairFrameRowsComplete_2 :
    ∃ (dt : Nat) (a : SwitchIn) (h : LaneHdr) (s e : State), s.elapse dt = e ∧ Taken e h ∧ e.mu.slot ≠ 0xFF ∧ a.what = 0 ∧
    e.mu.pending = none ∧ e.mu.joinOp = none ∧ e.canFollow (Mode.ofNum a.arg) = true :=
  ⟨0, ⟨0, 0, 3, []⟩, ⟨1, true, 5, 0, 1⟩, mate .m5 .standby (at_ .m4 .primary), _, rfl, taken_of (by decide +kernel),
    by decide +kernel, by decide +kernel, by decide +kernel, by decide +kernel, by decide +kernel⟩

theorem test_PairFrameRowsComplete_3 :
    ∃ (dt : Nat) (a : SwitchIn) (c : ModeChange) (h : LaneHdr) (s e : State), s.elapse dt = e ∧ Taken e h ∧ a.what = 6 ∧
    e.mu.pending = some c ∧ c.at_ = a.at_ :=
  ⟨0, ⟨6, 0, 0, []⟩, change .m4 .primary false, ⟨1, true, 5, 0, 1⟩,
    (mate .m3 .none (at_ .m3)).modMu (fun u => { u with pending := some (change .m4 .primary false) }), _, rfl,
    taken_of (by decide +kernel), by decide +kernel, by decide +kernel, by decide +kernel⟩

theorem test_PairFrameRowsComplete_4 :
    ∃ (dt : Nat) (a : SwitchIn) (h : LaneHdr) (s e : State), s.elapse dt = e ∧ Taken e h ∧ a.what = 4 ∧ e.pair.resync = true :=
  ⟨0, ⟨4, 0, 0, []⟩, ⟨1, true, 5, 0, 1⟩, (mate .m4 .primary (at_ .m5 .standby)).modPair (fun p => { p with resync := true }), _,
    rfl, taken_of (by decide +kernel), by decide +kernel, by decide +kernel⟩

theorem test_PairFrameRowsComplete_5 :
    ∃ (dt f : Nat) (h : LaneHdr) (s e : State), s.elapse dt = e ∧ Taken e h ∧ (e.mode = .m4 ∨ e.mode = .m5) ∧ e.pair.departure
    = none :=
  ⟨0, 1000000, ⟨1, true, 5, 0, 1⟩, mate .m4 .primary (at_ .m5 .standby), _, rfl, taken_of (by decide +kernel),
    by decide +kernel, by decide +kernel⟩

theorem test_PairFrameRowsComplete_6 :
    ∃ (dt : Nat) (c : RelayIn) (h : LaneHdr) (s e : State), s.elapse dt = e ∧ Taken e h ∧ c.stage = 0 ∧ e.mbx.relays = [] :=
  ⟨0, ⟨0, 0x0042, 1000000, 7, 1, 0, 0, []⟩, ⟨1, true, 5, 0, 1⟩, mate .m4 .primary (at_ .m5 .standby), _, rfl,
    taken_of (by decide +kernel), by decide +kernel, by decide +kernel⟩

theorem test_PairFrameRowsComplete_7 :
    ∃ (dt : Nat) (c : RelayIn) (k : Cmd) (h : LaneHdr) (s e : State), s.elapse dt = e ∧ Taken e h ∧ c.stage = 1 ∧ pairCmd
    c.code = some k ∧ e.role ≠ .primary ∧ e.mu.slot ≠ 0xFF :=
  ⟨0, ⟨1, 0x0042, 1000000, 7, 1, 0, 0, []⟩, valueWriteCmd, ⟨1, true, 5, 0, 1⟩, mate .m4 .primary (at_ .m5 .standby), _, rfl,
    taken_of (by decide +kernel), by decide +kernel, rfl, by decide +kernel, by decide +kernel⟩

theorem test_PairFrameRowsComplete_8 :
    ∃ (dt : Nat) (c : RelayIn) (x : Relay) (h : LaneHdr) (s e : State), s.elapse dt = e ∧ Taken e h ∧ c.stage = 2 ∧
    e.mbx.relays.find? (fun x => x.session == c.session && x.counter == c.counter && x.code == c.code) = some x ∧
    Status.ofCode c.status ≠ .accepted ∧ x.req.target = 0 ∧ e.mbx.restarting = none :=
  ⟨0, ⟨2, 0x0042, 1000000, 7, 1, 0, 0, []⟩, ⟨0x0042, .service, 9, 50000, [], 7, 1, 0⟩, ⟨1, true, 5, 0, 1⟩,
    (mate .m4 .primary (at_ .m5 .standby) : State) |> fun s => { s with mbx := { s.mbx with relays := [⟨0x0042, .service, 9, 50000, [], 7, 1, 0⟩] } },
    _, rfl, taken_of (by decide +kernel), by decide +kernel, by decide +kernel, by decide +kernel, by decide +kernel,
    by decide +kernel⟩

theorem test_PairFrameRowsComplete_9 :
    ∃ (dt : Nat) (c : PairCmd) (l : List PairCmd) (s e : State), s.elapse dt = e ∧ e.mbx.scheduled = c :: l ∧ c.at_ ≤ e.now ∧
    (∀ d ∈ l, e.now < d.at_) ∧ c.code = 0x0042 :=
  ⟨0, ⟨0x0042, beBytes 8 0, 0, none, 7, 1⟩, [⟨0x0042, [], 1000000, none, 7, 2⟩],
    (mate .m4 .primary (at_ .m5 .standby) : State) |> fun s => { s with mbx := { s.mbx with scheduled := [⟨0x0042, beBytes 8 0, 0, none, 7, 1⟩, ⟨0x0042, [], 1000000, none, 7, 2⟩] } },
    _, rfl, by decide +kernel, by decide +kernel, by decide +kernel, by decide +kernel⟩

theorem test_PairFrameRowsComplete_10 :
    ∃ (dt f slot st rev per : Nat) (h : LaneHdr) (s e : State), s.elapse dt = e ∧ Taken e h ∧ slot < 250 ∧ e.canLead = false :=
  ⟨0, 0, 249, 1, 1, 1, ⟨1, true, 5, 0, 1⟩, mate .m4 .primary (at_ .m5 .standby), _, rfl, taken_of (by decide +kernel),
    by decide +kernel, by decide +kernel⟩

theorem test_PairFrameRowsComplete_11 :
    ∃ (dt f cause : Nat) (c : Int) (h : LaneHdr) (s e : State), s.elapse dt = e ∧ Taken e h ∧ e.canLead = false :=
  ⟨0, 0, 1, -5, ⟨1, true, 5, 0, 1⟩, mate .m4 .primary (at_ .m5 .standby), _, rfl, taken_of (by decide +kernel),
    by decide +kernel⟩

theorem test_PairFrameRowsComplete_12 :
    ∃ (dt r band start pic : Nat) (refresh : Bool) (h : LaneHdr) (s e : State), s.elapse dt = e ∧ Taken e h ∧ r < 8 ∧ e.has
    .pnl = true ∧ e.panelOwner = false :=
  ⟨0, 7, 0, 0, 1, false, ⟨1, true, 5, 0, 1⟩, mate .m4 .primary (at_ .m5 .standby), _, rfl, taken_of (by decide +kernel),
    by decide +kernel, by decide +kernel, by decide +kernel⟩

theorem test_PairFrameRowsComplete_13 :
    ∃ (dt box : Nat) (f : Forward) (d : List Byte) (h : LaneHdr) (s e : State), s.elapse dt = e ∧ Taken e h ∧ (tget
    e.mbx.boxes box {}).fwd = some f ∧ beAt d 0x18 4 = f.counter ∧ e.mbx.restarting = none :=
  ⟨0, 15, ⟨.service, 9, 50000, 7, 1, [], 0⟩, frame none 0 [] 7 1, ⟨1, true, 5, 0, 1⟩,
    (mate .m4 .primary (at_ .m5 .standby) : State) |> fun s => { s with mbx := { s.mbx with boxes := [(15, { fwd := some ⟨.service, 9, 50000, 7, 1, [], 0⟩ })] } },
    _, rfl, taken_of (by decide +kernel), by decide +kernel, by decide +kernel, by decide +kernel⟩

theorem test_PairFrameRowsComplete_14 :
    ∃ (dt : Nat) (a : AccessIn) (h : LaneHdr) (s e : State), s.elapse dt = e ∧ Taken e h ∧ a.asks = true ∧ e.pair.joining =
    false :=
  ⟨0, ⟨true, 3, 1, 0, 0, 0, 0, 0, 0, 0, 0, 0⟩, ⟨1, true, 5, 0, 1⟩, mate .m3 .none (at_ .m6 .solo), _, rfl,
    taken_of (by decide +kernel), by decide +kernel, by decide +kernel⟩

theorem test_PairFrameRowsComplete_15 :
    ∃ (dt : Nat) (x : StatusIn) (h : LaneHdr) (s e : State), s.elapse dt = e ∧ Taken e h :=
  ⟨0, ⟨4, 1, 0, true, false, [], 5⟩, ⟨1, true, 5, 0, 1⟩, mate .m4 .primary (at_ .m5 .standby), _, rfl,
    taken_of (by decide +kernel)⟩

end Sys2Proof.Tests
end

