-- ==== Sys2Proof/Tests/Witness3.lean ====
section
/-!
SUPPORT. For each hypothesis set of these statements a concrete state and operands that meet it: PairLossRowsComplete,
AlarmCommandRowsComplete, AlarmScanRowsComplete, LoopRowsComplete, LoopCommandRowsComplete, StoreRowsComplete,
AnnexCommandRowsComplete, MigrationRowsComplete, LedgerRowsComplete.
-/
namespace Sys2Proof.Tests
set_option Elab.async false
set_option linter.unusedVariables false
open Sys2Proof Sys2Proof.Machine

/-! PairLossRowsComplete -/

theorem test_PairLossRowsComplete_1 :
    ∃ (dt l cause : Nat) (s e : State), s.elapse dt = e ∧ l < 2 ∧ (e.laneOf l).up = true ∧ ((cause = 1 ∧ e.since (e.laneOf
    l).lastGood (100 * Config.ticksPerUs) = true) ∨ cause = 2) :=
  ⟨0, 1, 1, after 12500 (mate .m4 .primary (at_ .m5 .standby)), _, rfl, by decide +kernel, by decide +kernel, by decide +kernel⟩

theorem test_PairLossRowsComplete_2 :
    ∃ (dt l : Nat) (s e : State), s.elapse dt = e ∧ l < 2 ∧ e.mode ≠ .m0 :=
  ⟨0, 1, at_ .m1, _, rfl, by decide +kernel, by decide +kernel⟩

theorem test_PairLossRowsComplete_3 :
    ∃ (dt : Nat) (s e : State), s.elapse dt = e ∧ e.pair.heartbeat = true :=
  ⟨0, now_ 300000 ((mate .m4 .primary (at_ .m5 .standby)).modPair (fun p => { p with sl0 := {}, sl1 := {} })), _, rfl,
    by decide +kernel⟩

theorem test_PairLossRowsComplete_4 :
    ∃ (dt : Nat) (s e : State), s.elapse dt = e ∧ e.mode ≠ .m0 :=
  ⟨0, at_ .m1, _, rfl, by decide +kernel⟩

theorem test_PairLossRowsComplete_6 :
    ∃ (dt f0 : Nat) (s e : State), s.elapse dt = e ∧ e.pair.isolation = some f0 ∧ f0 + 250000 ≤ e.now :=
  ⟨0, 0, now_ 250000 ((mate .m4 .primary (at_ .m5 .standby)).modPair (fun p => { p with isolation := some 0 })), _, rfl,
    by decide +kernel, by decide +kernel⟩

theorem test_PairLossRowsComplete_7 :
    ∃ (dt : Nat) (d : Departure) (s e : State), s.elapse dt = e ∧ e.pair.departure = some d ∧ d.at_ ≤ e.now :=
  ⟨0, ⟨0, false, 0⟩, (mate .m4 .primary (at_ .m5 .standby)).modPair (fun p => { p with departure := some ⟨0, false, 0⟩ }), _,
    rfl, by decide +kernel, by decide +kernel⟩

theorem test_PairLossRowsComplete_8 :
    ∃ (dt : Nat) (c : Copy) (s e : State), s.elapse dt = e ∧ e.pair.copy = some c :=
  ⟨0, ⟨0, false, 4⟩,
    (mate .m5 .standby (at_ .m4 .primary)).modPair (fun p => { p with copy := some ⟨0, false, 4⟩, joining := true }), _, rfl,
    by decide +kernel⟩

theorem test_PairLossRowsComplete_9 :
    ∃ (dt : Nat) (c : Copy) (s e : State), s.elapse dt = e ∧ e.pair.copy = some c ∧ e.pair.joining = true ∧ e.since c.since
    (60 * Config.ticksPerSecond) = true :=
  ⟨0, ⟨0, true, 4⟩,
    after (60 * 125000000) ((mate .m6 .solo (at_ .m7)).modPair (fun p => { p with copy := some ⟨0, true, 4⟩, joining := true })),
    _, rfl, by decide +kernel, by decide +kernel, by decide +kernel⟩

theorem test_PairLossRowsComplete_10 :
    ∃ (dt k : Nat) (s e : State), s.elapse dt = e ∧ e.pair.soakFrom = some k ∧ e.since k (e.eff 0x0204 *
    Config.ticksPerSecond) = true ∧ e.pair.takebackAfter = none ∧ e.role = .standby ∧ e.eff 0x0201 = e.mu.slot ∧ e.swapReady =
    true ∧ e.broken = false ∧ e.mu.pending = none :=
  ⟨0, 0,
    set [(0x0204, 0), (0x0201, 0)] ((mate .m4 .primary (at_ .m5 .standby)).modPair (fun p => { p with soakFrom := some 0 })), _,
    rfl, by decide +kernel, by decide +kernel, by decide +kernel, by decide +kernel, by decide +kernel, by decide +kernel,
    by decide +kernel, by decide +kernel⟩

theorem test_PairLossRowsComplete_11 :
    ∃ (dt k after : Nat) (s e : State), s.elapse dt = e ∧ e.pair.soakFrom = some k ∧ e.since k (e.eff 0x0204 *
    Config.ticksPerSecond) = true ∧ e.pair.takebackAfter = some after ∧ after ≤ e.tick ∧ e.role = .standby ∧ e.eff 0x0201 =
    e.mu.slot ∧ e.swapReady = true ∧ e.broken = false ∧ e.mu.pending = none :=
  ⟨0, 0, 0,
    set [(0x0204, 0), (0x0201, 0)] ((mate .m4 .primary (at_ .m5 .standby)).modPair (fun p => { p with soakFrom := some 0, takebackAfter := some 0 })),
    _, rfl, by decide +kernel, by decide +kernel, by decide +kernel, by decide +kernel, by decide +kernel, by decide +kernel,
    by decide +kernel, by decide +kernel, by decide +kernel⟩

/-! AlarmCommandRowsComplete -/

theorem test_AlarmCommandRowsComplete_1 :
    ∃ (dt : Nat) (p : Packet) (x : Session) (s e : State), s.elapse dt = e ∧ Accepted alarmAckCmd e p x :=
  ⟨0, ask 0x0060 (beBytes 4 1 ++ beBytes 2 16383) 0, sess 3,
    (put 0x0001 16383 (2 ^ 31 + 2 ^ 30) ((on .m6 .solo : State) |> fun s => { s with tk := { s.tk with prog := { points := [⟨true, false, 0, 0, 0⟩, ⟨false, true, 0, 0, 0⟩] } } })).modAl 16383 (fun a => { a with unacked := true }),
    _, rfl, accepted_sealed (by decide +kernel)⟩

theorem test_AlarmCommandRowsComplete_2 :
    ∃ (dt : Nat) (p : Packet) (x : Session) (s e : State), s.elapse dt = e ∧ Accepted alarmShelveCmd e p x ∧ beAt (reqOf
    p).body 0 1 = 1 :=
  ⟨0, ask 0x0061 (beBytes 4 (2 ^ 24 + 1) ++ beBytes 4 1 ++ beBytes 2 16383) 0, sess 3,
    (put 0x0001 16383 (2 ^ 31 + 2 ^ 30) ((on .m6 .solo : State) |> fun s => { s with tk := { s.tk with prog := { points := [⟨true, false, 0, 0, 0⟩, ⟨false, true, 0, 0, 0⟩] } } })).modAl 16383 (fun a => { a with active := true }),
    _, rfl, accepted_sealed (by decide +kernel), by decide +kernel⟩

theorem test_AlarmCommandRowsComplete_3 :
    ∃ (dt : Nat) (p : Packet) (x : Session) (s e : State), s.elapse dt = e ∧ Accepted alarmShelveCmd e p x ∧ beAt (reqOf
    p).body 0 1 = 0 :=
  ⟨0, ask 0x0061 (beBytes 4 1 ++ beBytes 4 0 ++ beBytes 2 16383) 0, sess 3,
    (put 0x0001 16383 (2 ^ 31 + 2 ^ 30) ((on .m6 .solo : State) |> fun s => { s with tk := { s.tk with prog := { points := [⟨true, false, 0, 0, 0⟩, ⟨false, true, 0, 0, 0⟩] } } })).modAl 16383 (fun a => { a with active := true, shelved := true }),
    _, rfl, accepted_sealed (by decide +kernel), by decide +kernel⟩

theorem test_AlarmCommandRowsComplete_4 :
    ∃ (dt : Nat) (p : Packet) (x : Session) (s e : State), s.elapse dt = e ∧ Accepted ladderAckCmd e p x ∧ e.mode ≠ .m11 :=
  ⟨0, ask 0x0062 (beBytes 8 0) 0, sess 3, (on .m6 .solo).modLad (fun l => { l with state := 1 }), _, rfl,
    accepted_sealed (by decide +kernel), by decide +kernel⟩

theorem test_AlarmCommandRowsComplete_5 :
    ∃ (dt : Nat) (p : Packet) (x : Session) (s e : State), s.elapse dt = e ∧ Accepted journalReadCmd e p x :=
  ⟨0, ask 0x0063 (beBytes 8 0 ++ beBytes 4 (2 ^ 16)) 0, sess 3,
    { on .m6 .solo with al := { (on .m6 .solo).al with ring := [{ seq := 5, time := 0, kind := 1 }] } }, _, rfl,
    accepted_sealed (by decide +kernel)⟩

theorem test_AlarmCommandRowsComplete_6 :
    ∃ (dt : Nat) (p : Packet) (s e : State), s.elapse dt = e ∧ e.mode ≠ .m0 :=
  ⟨0, whole [], at_ .m6 .solo, _, rfl, by decide +kernel⟩

theorem test_AlarmCommandRowsComplete_7 :
    ∃ (dt : Nat) (r : JourRec) (l : List JourRec) (s e : State), s.elapse dt = e ∧ e.al.ring = r :: l :=
  ⟨0, { seq := 5, time := 0, kind := 1 }, [],
    { at_ .m6 .solo with al := { (at_ .m6 .solo).al with ring := [{ seq := 5, time := 0, kind := 1 }] } }, _, rfl,
    by decide +kernel⟩

/-! AlarmScanRowsComplete -/

theorem test_AlarmScanRowsComplete_1 :
    ∃ (dt n w : Nat) (s e : State), s.elapse dt = e ∧ ScanDue e ∧ e.alEntries = [(n, w)] :=
  ⟨0, 16383, (2 ^ 31 + 2 ^ 30),
    (put 0x0001 16383 (2 ^ 31 + 2 ^ 30) ((at_ .m6 .solo : State) |> fun s => { s with tk := { s.tk with prog := { points := [⟨true, false, 0, 0, 0⟩, ⟨false, true, 0, 0, 0⟩] } } })).modAl 16383 (fun a => { a with delay := 0 }),
    _, rfl, scanDue_of (by decide +kernel), by decide +kernel⟩

theorem test_AlarmScanRowsComplete_2 :
    ∃ (dt n w : Nat) (s e : State), s.elapse dt = e ∧ ScanDue e ∧ n < 16384 ∧ e.alEntries = [(n, w)] ∧ (e.alEnt n).active =
    false ∧ (e.scanOut e.scanSnap n w).st.active = true :=
  ⟨0, 16383, (2 ^ 31 + 2 ^ 30),
    (put 0x0001 16383 (2 ^ 31 + 2 ^ 30) ((at_ .m6 .solo : State) |> fun s => { s with tk := { s.tk with prog := { points := [⟨true, false, 0, 0, 0⟩, ⟨false, true, 0, 0, 0⟩] } } })).modAl 16383 (fun a => { a with delay := 0 }),
    _, rfl, scanDue_of (by decide +kernel), by decide +kernel, by decide +kernel, by decide +kernel, by decide +kernel⟩

theorem test_AlarmScanRowsComplete_3 :
    ∃ (dt n w : Nat) (s e : State), s.elapse dt = e ∧ ScanDue e ∧ n < 16384 ∧ e.alEntries = [(n, w)] ∧ (e.alEnt n).active =
    true ∧ (e.scanOut e.scanSnap n w).st.suppressed = false ∧ ((e.scanOut e.scanSnap n w).st.active = false ∨ ((e.alEnt
    n).latched = false ∧ (e.scanOut e.scanSnap n w).st.latched = true)) :=
  ⟨0, 16383, (2 ^ 31 + 2 ^ 30 + 2 ^ 23),
    (put 0x0001 16383 (2 ^ 31 + 2 ^ 30 + 2 ^ 23) ((at_ .m6 .solo : State) |> fun s => { s with tk := { s.tk with prog := { points := [⟨true, false, 0, 0, 0⟩, ⟨false, true, 0, 0, 0⟩] } } })).modAl 16383 (fun a => { a with active := true }),
    _, rfl, scanDue_of (by decide +kernel), by decide +kernel, by decide +kernel, by decide +kernel, by decide +kernel,
    by decide +kernel⟩

theorem test_AlarmScanRowsComplete_4 :
    ∃ (dt n w : Nat) (s e : State), s.elapse dt = e ∧ ScanDue e ∧ n < 16384 ∧ e.alEntries = [(n, w)] ∧ e.entry 0x0001 n = w ∧
    (alType w = 5 ∨ alType w = 6) ∧ (e.alEnt n).based = true ∧ (e.scanOut e.scanSnap n w).st.invalid = false ∧ fld w 0x1C 0 16
    ≤ (e.alEnt n).ratePhase + 1 :=
  ⟨0, 16383, (2 ^ 31 + 5 * 2 ^ 27 + 2 ^ 24 + 2 ^ 224),
    (put 0x0001 16383 (2 ^ 31 + 5 * 2 ^ 27 + 2 ^ 24 + 2 ^ 224) ((at_ .m6 .solo : State) |> fun s => { s with tk := { s.tk with prog := { points := [⟨true, false, 0, 0, 0⟩, ⟨false, true, 0, 0, 0⟩] } } })).modAl 16383 (fun a => { a with based := true }),
    _, rfl, scanDue_of (by decide +kernel), by decide +kernel, by decide +kernel, by decide +kernel, by decide +kernel,
    by decide +kernel, by decide +kernel, by decide +kernel⟩

theorem test_AlarmScanRowsComplete_5 :
    ∃ (dt n w : Nat) (s e : State), s.elapse dt = e ∧ ScanDue e ∧ n < 16384 ∧ e.alEntries = [(n, w)] ∧ (e.alEnt n).shelved =
    true ∧ (e.alEnt n).shelveLeft = 1 :=
  ⟨0, 16383, (2 ^ 31 + 2 ^ 30),
    (put 0x0001 16383 (2 ^ 31 + 2 ^ 30) ((at_ .m6 .solo : State) |> fun s => { s with tk := { s.tk with prog := { points := [⟨true, false, 0, 0, 0⟩, ⟨false, true, 0, 0, 0⟩] } } })).modAl 16383 (fun a => { a with shelved := true, shelveLeft := 1 }),
    _, rfl, scanDue_of (by decide +kernel), by decide +kernel, by decide +kernel, by decide +kernel, by decide +kernel⟩

theorem test_AlarmScanRowsComplete_6 :
    ∃ (dt n w : Nat) (s e : State), s.elapse dt = e ∧ ScanDue e ∧ n < 16384 ∧ e.alEntries = [(n, w)] ∧ (e.scanOut e.scanSnap n
    w).remind = true :=
  ⟨0, 16383, (2 ^ 31 + 2 ^ 30),
    set [(0x06A1, 1)] ((put 0x0001 16383 (2 ^ 31 + 2 ^ 30) ((at_ .m6 .solo : State) |> fun s => { s with tk := { s.tk with prog := { points := [⟨true, false, 0, 0, 0⟩, ⟨false, true, 0, 0, 0⟩] } } })).modAl 16383 (fun a => { a with active := true, unacked := true, unackScans := 99 })),
    _, rfl, scanDue_of (by decide +kernel), by decide +kernel, by decide +kernel, by decide +kernel⟩

theorem test_AlarmScanRowsComplete_7 :
    ∃ (dt g : Nat) (s e : State), s.elapse dt = e ∧ ScanDue e ∧ g < 512 ∧ g ∈ e.alGroups ∧ (tget e.al.grp g {}).suppressed =
    true ∧ (tget e.al.grp g {}).releaseLeft = 0 ∧ alSupp e.scanSnap e.al.grp (fld (e.entry 0x0002 g) 0 30 2) (fld (e.entry
    0x0002 g) 4 0 16) = false :=
  ⟨0, 511, (at_ .m6 .solo).modGrp 511 (fun g => { g with suppressed := true }), _, rfl, scanDue_of (by decide +kernel),
    by decide +kernel, by decide +kernel, by decide +kernel, by decide +kernel, by decide +kernel⟩

theorem test_AlarmScanRowsComplete_8 :
    ∃ (dt n w r : Nat) (s e : State), s.elapse dt = e ∧ ScanDue e ∧ e.alEntries = [(n, w)] ∧ LadderRuns e n w ∧ e.al.lad.state
    = 1 ∧ e.al.lad.left ≤ 1 ∧ e.rungsOn.find? (fun k => decide (e.al.lad.rung < k)) = some r :=
  ⟨0, 16383, (2 ^ 31 + 2 ^ 30), 2,
    set [(0x0680, 2 ^ 31), (0x0600, 2 ^ 31), (0x0610, 2 ^ 31)] (((put 0x0001 16383 (2 ^ 31 + 2 ^ 30) ((at_ .m6 .solo : State) |> fun s => { s with tk := { s.tk with prog := { points := [⟨true, false, 0, 0, 0⟩, ⟨false, true, 0, 0, 0⟩] } } })).modAl 16383 (fun a => { a with active := true, unacked := true })).modLad (fun l => { l with state := 1, rung := 1, left := 1 })),
    _, rfl, scanDue_of (by decide +kernel), by decide +kernel,
    ⟨by decide +kernel, by decide +kernel, by decide +kernel, by decide +kernel⟩, by decide +kernel, by decide +kernel,
    by decide +kernel⟩

theorem test_AlarmScanRowsComplete_9 :
    ∃ (dt n w : Nat) (s e : State), s.elapse dt = e ∧ ScanDue e ∧ e.alEntries = [(n, w)] ∧ LadderRuns e n w ∧ e.al.lad.state =
    2 ∧ e.rung e.al.lad.rung 7 ≠ 0 ∧ (e.al.lad.scans + 1) % (e.rung e.al.lad.rung 7 * 100) = 0 :=
  ⟨0, 16383, (2 ^ 31 + 2 ^ 30),
    set [(0x0680, 2 ^ 31), (0x0600, 2 ^ 31), (0x0610, 2 ^ 31), (0x0607, 1)] (((put 0x0001 16383 (2 ^ 31 + 2 ^ 30) ((at_ .m6 .solo : State) |> fun s => { s with tk := { s.tk with prog := { points := [⟨true, false, 0, 0, 0⟩, ⟨false, true, 0, 0, 0⟩] } } })).modAl 16383 (fun a => { a with active := true, unacked := true })).modLad (fun l => { l with state := 2, rung := 1, scans := 99 })),
    _, rfl, scanDue_of (by decide +kernel), by decide +kernel,
    ⟨by decide +kernel, by decide +kernel, by decide +kernel, by decide +kernel⟩, by decide +kernel, by decide +kernel,
    by decide +kernel⟩

theorem test_AlarmScanRowsComplete_10 :
    ∃ (dt n w : Nat) (h : LaneHdr) (f : AlarmIn) (s e : State), s.elapse dt = e ∧ Taken e h ∧ e.scans = true ∧ e.alOwn = false
    ∧ e.al.last ≠ some f.at_ ∧ f.cmds = [] ∧ e.alEntries = [(n, w)] :=
  ⟨0, 16383, (2 ^ 31 + 2 ^ 30), ⟨1, true, 5, 0, 1⟩, ⟨5, 1000, [], [], 0, 0, []⟩,
    (put 0x0001 16383 (2 ^ 31 + 2 ^ 30) ((mate .m4 .primary (at_ .m5 .standby) : State) |> fun s => { s with tk := { s.tk with prog := { points := [⟨true, false, 0, 0, 0⟩, ⟨false, true, 0, 0, 0⟩] } } })).modAl 16383 (fun a => { a with delay := 0 }),
    _, rfl, taken_of (by decide +kernel), by decide +kernel, by decide +kernel, by decide +kernel, by decide +kernel,
    by decide +kernel⟩

theorem test_AlarmScanRowsComplete_11 :
    ∃ (dt : Nat) (h : LaneHdr) (sig : U64) (s e : State), s.elapse dt = e ∧ Taken e h :=
  ⟨0, ⟨1, true, 5, 0, 1⟩, 1, mate .m4 .primary (at_ .m5 .standby), _, rfl, taken_of (by decide +kernel)⟩

theorem test_AlarmScanRowsComplete_12 :
    ∃ (dt n tk : Nat) (h : LaneHdr) (st : AlEnt) (q : AlPass) (s e : State), s.elapse dt = e ∧ Taken e h ∧ n < 16384 ∧
    e.al.half = some (q, tk) ∧ q.await = [n] ∧ e.al.waiting = [] :=
  ⟨0, 16383, 0, ⟨1, true, 5, 0, 1⟩, { active := true }, ⟨⟨5, 0, [], [], 0⟩, [], [], [], [], [], [16383], []⟩,
    ((mate .m5 .standby (at_ .m4 .primary) : State)) |> fun s => { s with al := { s.al with half := some (⟨⟨5, 0, [], [], 0⟩, [], [], [], [], [], [16383], []⟩, 0) } },
    _, rfl, taken_of (by decide +kernel), by decide +kernel, by decide +kernel, by decide +kernel, by decide +kernel⟩

theorem test_AlarmScanRowsComplete_13 :
    ∃ (dt : Nat) (s e : State), s.elapse dt = e ∧ e.scans = true ∧ e.alOwn = false ∧ e.al.last ≠ some (e.gridInstant
    Config.scanNs) ∧ e.gridInstant Config.scanNs + 400000 ≤ e.now :=
  ⟨0, now_ 400000 (mate .m4 .primary (at_ .m5 .standby)), _, rfl, by decide +kernel, by decide +kernel, by decide +kernel,
    by decide +kernel⟩

theorem test_AlarmScanRowsComplete_14 :
    ∃ (dt n tk : Nat) (q : AlPass) (s e : State), s.elapse dt = e ∧ n < 16384 ∧ e.al.half = some (q, tk) ∧ n ∈ q.await ∧
    e.since tk 368750 = true ∧ e.al.waiting = [] :=
  ⟨0, 16383, 0, ⟨⟨5, 0, [], [], 0⟩, [], [], [], [], [], [16383], []⟩,
    after 368750 (((mate .m5 .standby (at_ .m4 .primary) : State)) |> fun s => { s with al := { s.al with half := some (⟨⟨5, 0, [], [], 0⟩, [], [], [], [], [], [16383], []⟩, 0) } }),
    _, rfl, by decide +kernel, by decide +kernel, by decide +kernel, by decide +kernel, by decide +kernel⟩

/-! LoopRowsComplete -/

theorem test_LoopRowsComplete_1 :
    ∃ (dt r : Nat) (s e : State), s.elapse dt = e ∧ r < 2048 ∧ e.loopsRun = true ∧ bit (e.loopCtl r) 31 = true :=
  ⟨0, 2047, set [(0x0580, 1)] (put 0x0003 2047 (2 ^ 31 + 1 * 2 ^ 28) (at_ .m6 .solo)), _, rfl, by decide +kernel,
    by decide +kernel, by decide +kernel⟩

theorem test_LoopRowsComplete_2 :
    ∃ (dt r : Nat) (it : LoopItem) (l : List LoopItem) (s e : State), s.elapse dt = e ∧ r < 2048 ∧ e.loop.queue = it :: l ∧
    it.record = r ∧ e.role ≠ .standby :=
  ⟨0, 2047, ⟨2047, 0, 0, []⟩, [],
    (set [(0x0580, 1)] (put 0x0003 2047 (2 ^ 31 + 1 * 2 ^ 28) (at_ .m6 .solo)) : State) |> fun s => { s with loop := { s.loop with queue := [⟨2047, 0, 0, []⟩] } },
    _, rfl, by decide +kernel, by decide +kernel, by decide +kernel, by decide +kernel⟩

theorem test_LoopRowsComplete_3 :
    ∃ (dt r : Nat) (it : LoopItem) (l : List LoopItem) (v : LoopEval) (s e : State), s.elapse dt = e ∧ r < 2048 ∧ e.loop.queue
    = it :: l ∧ it.record = r ∧ e.role ≠ .standby ∧ e.loopsRun = true ∧ e.membersOf it = [r] ∧ bit (e.entryFor it r) 19 =
    false ∧ bit (e.entryFor it r) 22 = false ∧ (∀ g < 4, (e.injector g).active = false) ∧ inputsOk (e.gather it r).1 = true ∧
    evalRec (e.entryFor it r) (e.present (e.entryFor it r)) (e.lrec r) (e.gather it r).1 false = some v :=
  ⟨0, 2047, ⟨2047, 0, 0, []⟩, [], _,
    (set [(0x0580, 1)] (put 0x0003 2047 (2 ^ 31 + 1 * 2 ^ 28) (at_ .m6 .solo)) : State) |> fun s => { s with loop := { s.loop with queue := [⟨2047, 0, 0, []⟩] } },
    _, rfl, by decide +kernel, by decide +kernel, by decide +kernel, by decide +kernel, by decide +kernel, by decide +kernel,
    by decide +kernel, by decide +kernel, by decide +kernel, by decide +kernel, (Option.some_get (by decide +kernel)).symm⟩

theorem test_LoopRowsComplete_4 :
    ∃ (dt lsn time : Nat) (x : LoopIn) (l : List LoopIn) (h : LaneHdr) (s e : State), s.elapse dt = e ∧ Taken e h ∧ e.role =
    .standby ∧ e.loopsRun = true ∧ e.mu.slot ≠ 0xFF :=
  ⟨0, 1, 5, ⟨2047, 0, 0, false, none, none, true, false⟩, [], ⟨1, true, 5, 0, 1⟩,
    set [(0x0580, 1)] (put 0x0003 2047 (2 ^ 31 + 1 * 2 ^ 28) (mate .m4 .primary (at_ .m5 .standby))), _, rfl,
    taken_of (by decide +kernel), by decide +kernel, by decide +kernel, by decide +kernel⟩

theorem test_LoopRowsComplete_5 :
    ∃ (dt lsn r v k a b c d f g : Nat) (h : LaneHdr) (s e : State), s.elapse dt = e ∧ Taken e h ∧ r < 2048 ∧ e.role = .primary
    ∧ (lsn, r, k) ∈ e.loop.borrow :=
  ⟨0, 1, 2047, 7, 0, 1, 2, 3, 4, 5, 6, ⟨1, true, 5, 0, 1⟩,
    (mate .m5 .standby (at_ .m4 .primary) : State) |> fun s => { s with loop := { s.loop with borrow := [(1, 2047, 0)] } }, _,
    rfl, taken_of (by decide +kernel), by decide +kernel, by decide +kernel, by decide +kernel⟩

theorem test_LoopRowsComplete_6 :
    ∃ (dt : Nat) (sig : U64) (s e : State), s.elapse dt = e :=
  ⟨0, 1, mate .m4 .primary (at_ .m5 .standby), _, rfl⟩

theorem test_LoopRowsComplete_7 :
    ∃ (dt : Nat) (s e : State), s.elapse dt = e :=
  ⟨0,
    after 2500 ((mate .m5 .standby (at_ .m4 .primary) : State) |> fun s => { s with loop := { s.loop with borrow := [(1, 2047, 0)] } }),
    _, rfl⟩

theorem test_LoopRowsComplete_8 :
    ∃ (dt g : Nat) (s e : State), s.elapse dt = e ∧ g < 4 ∧ (e.injector g).active = true ∧ (e.injector g).begun = true ∧
    (e.injector g).start + e.injPar g 4 * 1000000 ≤ e.now :=
  ⟨0, 3, set [(0x0574, 0)] ((at_ .m6 .solo).modInj 3 (fun i => { i with active := true, begun := true })), _, rfl,
    by decide +kernel, by decide +kernel, by decide +kernel, by decide +kernel⟩

/-! LoopCommandRowsComplete -/

theorem test_LoopCommandRowsComplete_1 :
    ∃ (dt g : Nat) (p : Packet) (x : Session) (s e : State), s.elapse dt = e ∧ Accepted loopInjectCmd e p x ∧ beAt (reqOf
    p).body 0 1 = g ∧ beAt (reqOf p).body 1 1 = 1 ∧ bit (e.loopCtl (e.injRec g)) 31 = true ∧ (∀ k < 4, k ≠ g → (e.injector
    k).active = true → e.injRec k ≠ e.injRec g) :=
  ⟨0, 3, ask 0x0073 (beBytes 4 (3 * 2 ^ 24 + 2 ^ 16)) 0, sess 3,
    set [(0x0580, 1)] (put 0x0003 0 (2 ^ 31 + 0 * 2 ^ 28) (on .m6)), _, rfl, accepted_sealed (by decide +kernel),
    by decide +kernel, by decide +kernel, by decide +kernel, by decide +kernel⟩

theorem test_LoopCommandRowsComplete_2 :
    ∃ (dt g : Nat) (p : Packet) (x : Session) (s e : State), s.elapse dt = e ∧ Accepted loopInjectCmd e p x ∧ beAt (reqOf
    p).body 0 1 = g ∧ beAt (reqOf p).body 1 1 = 0 :=
  ⟨0, 3, ask 0x0073 (beBytes 4 (3 * 2 ^ 24)) 0, sess 3, (on .m6).modInj 3 (fun i => { i with active := true }), _, rfl,
    accepted_sealed (by decide +kernel), by decide +kernel, by decide +kernel⟩

theorem test_LoopCommandRowsComplete_3 :
    ∃ (dt c : Nat) (p : Packet) (x : Session) (s e : State), s.elapse dt = e ∧ Accepted loopCaptureCmd e p x ∧ beAt (reqOf
    p).body 0 1 = c ∧ beAt (reqOf p).body 1 1 = 0 :=
  ⟨0, 3, ask 0x0074 (beBytes 8 (3 * 2 ^ 56)) 0, sess 3, on .m6, _, rfl, accepted_sealed (by decide +kernel), by decide +kernel,
    by decide +kernel⟩

theorem test_LoopCommandRowsComplete_4 :
    ∃ (dt c : Nat) (p : Packet) (x : Session) (s e : State), s.elapse dt = e ∧ Accepted loopCaptureCmd e p x ∧ beAt (reqOf
    p).body 0 1 = c ∧ beAt (reqOf p).body 1 1 = 1 :=
  ⟨0, 3, ask 0x0074 (beBytes 8 (3 * 2 ^ 56 + 2 ^ 48)) 0, sess 3, (on .m6).modCap 3 (fun i => { i with armed := true }), _, rfl,
    accepted_sealed (by decide +kernel), by decide +kernel, by decide +kernel⟩

theorem test_LoopCommandRowsComplete_5 :
    ∃ (dt c : Nat) (p : Packet) (x : Session) (s e : State), s.elapse dt = e ∧ Accepted loopCaptureCmd e p x ∧ beAt (reqOf
    p).body 0 1 = c ∧ beAt (reqOf p).body 1 1 = 2 ∧ beAt (reqOf p).body 4 4 + beAt (reqOf p).body 2 2 ≤ (e.capture c).count ∧
    (e.mbx.async.find? (·.id == e.mbx.nextOp)) = none :=
  ⟨0, 3, ask 0x0074 (beBytes 8 (3 * 2 ^ 56 + 2 * 2 ^ 48 + 2 * 2 ^ 32)) 0, sess 3,
    (on .m6).modCap 3 (fun i => { i with full := true, count := 2 }), _, rfl, accepted_sealed (by decide +kernel),
    by decide +kernel, by decide +kernel, by decide +kernel, by decide +kernel⟩

/-! StoreRowsComplete -/

theorem test_StoreRowsComplete_1 :
    ∃ (dt : Nat) (p : Packet) (x : Session) (s e : State), s.elapse dt = e ∧ Accepted archiveReadCmd e p x :=
  ⟨0, ask 0x0064 (beBytes 8 1 ++ beBytes 4 (7 * 2 ^ 16)) 0, sess 3, on .m6, _, rfl, accepted_sealed (by decide +kernel)⟩

theorem test_StoreRowsComplete_2 :
    ∃ (dt : Nat) (p : Packet) (x : Session) (s e : State), s.elapse dt = e ∧ Accepted trendReadCmd e p x :=
  ⟨0, ask 0x0065 (beBytes 4 0xFFFF0000 ++ beBytes 8 0 ++ beBytes 2 255) 0, sess 3,
    { on .m6 with trend := { (on .m6).trend with recs := [⟨5, 3, true, 9⟩] } }, _, rfl, accepted_sealed (by decide +kernel)⟩

theorem test_StoreRowsComplete_3 :
    ∃ (dt : Nat) (r : ArchRec) (l : List ArchRec) (s e : State), s.elapse dt = e ∧ e.mode ≠ .m0 ∧ e.arch.stage = r :: l ∧
    e.arch.held = [] ∧ e.arch.lostPending = 0 ∧ r.seq < (tget e.lk.window 15 {}).firstSeq ∧ ((r.seq - 1) % 1048576 ≠ 0 ∨ r.seq
    = 1) :=
  ⟨0, { archFactory with seq := 2 }, [],
    (at_ .m6) |> fun s => { s with arch := { s.arch with stage := [{ archFactory with seq := 2 }] }, lk := { s.lk with window := [(15, { firstSeq := 3 })] } },
    _, rfl, by decide +kernel, by decide +kernel, by decide +kernel, by decide +kernel, by decide +kernel, by decide +kernel⟩

theorem test_StoreRowsComplete_4 :
    ∃ (dt c : Nat) (s e : State), s.elapse dt = e ∧ c < 256 ∧ e.trending = true ∧ fld (e.entry 0x000E c) 0 0 8 ≠ 0 ∧ e.onGrid
    (fld (e.entry 0x000E c) 8 0 32 * 1000000) = true :=
  ⟨0, 255, set [(0x0F60, 1)] (put 0x000E 255 (1 + 2 ^ 64) (at_ .m6)), _, rfl, by decide +kernel, by decide +kernel,
    by decide +kernel, by decide +kernel⟩

/-! AnnexCommandRowsComplete -/

theorem test_AnnexCommandRowsComplete_1 :
    ∃ (dt k : Nat) (p : Packet) (x : Session) (s e : State), s.elapse dt = e ∧ Accepted annexCmd e p x ∧ beAt (reqOf p).body 0
    1 = k ∧ beAt (reqOf p).body 1 1 = 1 ∧ (∀ m ∈ e.annex.running ++ e.annex.waiting, m.resource ≠ k) :=
  ⟨0, 0, ask 0x0054 (beBytes 4 (2 ^ 16)) 0, sess 3, on .m6, _, rfl, accepted_sealed (by decide +kernel), by decide +kernel,
    by decide +kernel, by decide +kernel⟩

theorem test_AnnexCommandRowsComplete_2 :
    ∃ (dt k q : Nat) (p : Packet) (x : Session) (s e : State), s.elapse dt = e ∧ Accepted annexCmd e p x ∧ beAt (reqOf p).body
    0 1 = k ∧ beAt (reqOf p).body 1 1 = 2 ∧ e.standinFor (k - 21) = some q :=
  ⟨0, 28, 9, ask 0x0054 (beBytes 4 (28 * 2 ^ 24 + 2 * 2 ^ 16)) 0, sess 3, on .m6, _, rfl, accepted_sealed (by decide +kernel),
    by decide +kernel, by decide +kernel, by decide +kernel⟩

theorem test_AnnexCommandRowsComplete_3 :
    ∃ (dt : Nat) (p : Packet) (x : Session) (s e : State), s.elapse dt = e ∧ Accepted ledgerReadCmd e p x :=
  ⟨0, ask 0x0055 (beBytes 4 52) 0, sess 3, on .m6, _, rfl, accepted_sealed (by decide +kernel)⟩

/-! MigrationRowsComplete -/

theorem test_MigrationRowsComplete_1 :
    ∃ (dt q : Nat) (l : List Nat) (m : Migration) (tests : List (Nat × U64)) (s e : State), s.elapse dt = e ∧
    e.annex.waiting.find? (fun m => m.kind == 1 && m.ready) = some m ∧ resKind m.resource = 1 ∧ e.mode ≠ .m0 ∧ e.mode ≠ .m11 ∧
    e.annex.running.any (·.kind == 1) = false ∧ e.resetting m.resource = false ∧ e.candidates m.resource = q :: l ∧ (tlook
    tests q).getD (BitVec.allOnes 64) = BitVec.allOnes 64 :=
  ⟨0, 8, [9], ⟨1, 7, none, 1, none, 0, true⟩, [],
    (at_ .m6) |> fun s => { s with annex := { s.annex with waiting := [⟨1, 7, none, 1, none, 0, true⟩] } }, _, rfl,
    by decide +kernel, by decide +kernel, by decide +kernel, by decide +kernel, by decide +kernel, by decide +kernel,
    by decide +kernel, by decide +kernel⟩

theorem test_MigrationRowsComplete_2 :
    ∃ (dt k q : Nat) (l : List Nat) (m : Migration) (s e : State), s.elapse dt = e ∧ (k = 4 ∨ k = 5) ∧ e.annex.waiting.find?
    (fun m => m.kind == k && m.ready) = some m ∧ resKind m.resource = k ∧ e.mode ≠ .m0 ∧ e.mode ≠ .m11 ∧ e.annex.running.any
    (·.kind == k) = false ∧ (k = 4 → e.annex.rotation = none) ∧ (k = 5 → e.atFrame = true) ∧ e.candidates m.resource = q :: l :=
  ⟨0, 5, 47, [48], ⟨5, 31, none, 1, none, 0, true⟩,
    (at_ .m6) |> fun s => { s with annex := { s.annex with waiting := [⟨5, 31, none, 1, none, 0, true⟩] } }, _, rfl,
    by decide +kernel, by decide +kernel, by decide +kernel, by decide +kernel, by decide +kernel, by decide +kernel,
    (fun h => absurd h (by decide)), (fun _ => by decide +kernel), by decide +kernel⟩

theorem test_MigrationRowsComplete_3 :
    ∃ (dt k : Nat) (m : Migration) (s e : State), s.elapse dt = e ∧ (k = 2 ∨ k = 3) ∧ e.annex.waiting.find? (fun m => m.kind
    == k && m.ready) = some m ∧ (k = 3 → m.resource = 20) ∧ e.mode ≠ .m0 ∧ e.mode ≠ .m11 ∧ e.annex.running.any (·.kind == k) =
    false :=
  ⟨0, 3, ⟨3, 20, none, 1, none, 0, true⟩,
    (at_ .m6) |> fun s => { s with annex := { s.annex with waiting := [⟨3, 20, none, 1, none, 0, true⟩] } }, _, rfl,
    by decide +kernel, by decide +kernel, (fun _ => rfl), by decide +kernel, by decide +kernel, by decide +kernel⟩

theorem test_MigrationRowsComplete_4 :
    ∃ (dt : Nat) (m : Migration) (s e : State), s.elapse dt = e ∧ e.annex.running.find? (·.kind == 2) = some m ∧ e.since
    m.start (8600 * Config.ticksPerMs) = true :=
  ⟨0, ⟨2, 10, some 19, 1, none, 0, true⟩,
    after (8600 * 125000) ((at_ .m6) |> fun s => { s with annex := { s.annex with running := [⟨2, 10, some 19, 1, none, 0, true⟩] } }),
    _, rfl, by decide +kernel, by decide +kernel⟩

theorem test_MigrationRowsComplete_5 :
    ∃ (dt b target : Nat) (m : Migration) (s e : State), s.elapse dt = e ∧ b < 12288 ∧ target < 16384 ∧ e.annex.running.find?
    (·.kind == 3) = some m ∧ flashPart b ≠ 5 ∧ 0 < e.annex.reserve :=
  ⟨0, 12287, 16383, ⟨3, 20, some 20, 1, none, 0, true⟩,
    (at_ .m6) |> fun s => { s with annex := { s.annex with running := [⟨3, 20, some 20, 1, none, 0, true⟩] } }, _, rfl,
    by decide +kernel, by decide +kernel, by decide +kernel, by decide +kernel, by decide +kernel⟩

theorem test_MigrationRowsComplete_6 :
    ∃ (dt k r epoch : Nat) (l : LastStep) (s e : State), s.elapse dt = e ∧ 1 ≤ k ∧ k ≤ 6 ∧ r < 52 ∧ tget e.annex.last k none =
    some l ∧ l.resource = r ∧ l.oldEpoch = epoch ∧ spoilWindow k ≠ 0 ∧ e.tick ≤ l.tick + spoilWindow k :=
  ⟨0, 5, 47, 3, ⟨47, 3, 0, false⟩,
    after 31250 ((at_ .m6) |> fun s => { s with annex := { s.annex with last := [(5, some ⟨47, 3, 0, false⟩)] } }), _, rfl,
    by decide +kernel, by decide +kernel, by decide +kernel, by decide +kernel, by decide +kernel, by decide +kernel,
    by decide +kernel, by decide +kernel⟩

/-! LedgerRowsComplete -/

theorem test_LedgerRowsComplete_1 :
    ∃ (dt q : Nat) (s e : State), s.elapse dt = e ∧ e.has .ai = true ∧ e.eff 0x0765 ≠ 0 ∧ e.mode ≠ .m0 ∧ e.mode ≠ .m1 ∧ e.mode
    ≠ .m11 ∧ e.annex.rotation = none ∧ e.ai.calOp = none ∧ e.annex.running.any (·.kind == 4) = false ∧ e.annex.recalAt + e.eff
    0x0765 / 8 ≤ e.ident.opSeconds ∧ e.standinFor (e.annex.recalNext % 8) = some q ∧ e.resState (21 + e.annex.recalNext % 8) =
    0 ∧ e.physConv (e.annex.recalNext % 8) = e.annex.recalNext % 8 :=
  ⟨0, 8, (at_ .m6) |> fun s => { s with ident := { s.ident with opSeconds := 75600 } }, _, rfl, by decide +kernel,
    by decide +kernel, by decide +kernel, by decide +kernel, by decide +kernel, by decide +kernel, by decide +kernel,
    by decide +kernel, by decide +kernel, by decide +kernel, by decide +kernel, by decide +kernel⟩

theorem test_LedgerRowsComplete_2 :
    ∃ (dt : Nat) (o : Rotation) (offs gains : List Nat) (s e : State), s.elapse dt = e ∧ e.annex.rotation = some o ∧ o.step =
    .standinCal ∧ e.since o.since (420 * Config.ticksPerMs) = true ∧ calFails offs gains = none :=
  ⟨0, ⟨7, 9, .standinCal, 0, none, false⟩, List.replicate 8 0, List.replicate 8 0x3F800000,
    after (420 * 125000) ((at_ .m6) |> fun s => { s with annex := { s.annex with rotation := some ⟨7, 9, .standinCal, 0, none, false⟩ } }),
    _, rfl, by decide +kernel, by decide +kernel, by decide +kernel, by decide +kernel⟩

theorem test_LedgerRowsComplete_3 :
    ∃ (dt : Nat) (o : Rotation) (s e : State), s.elapse dt = e ∧ e.annex.rotation = some o ∧ o.step = .shadow :=
  ⟨0, ⟨7, 9, .shadow, 0, none, false⟩,
    (at_ .m6) |> fun s => { s with annex := { s.annex with rotation := some ⟨7, 9, .shadow, 0, none, false⟩ } }, _, rfl,
    by decide +kernel, by decide +kernel⟩

theorem test_LedgerRowsComplete_4 :
    ∃ (dt : Nat) (o : Rotation) (s e : State), s.elapse dt = e ∧ e.annex.rotation = some o ∧ o.step = .returning ∧ o.permanent
    = false ∧ e.ai.calOp = none :=
  ⟨0, ⟨7, 9, .returning, 0, none, false⟩,
    (at_ .m6) |> fun s => { s with annex := { s.annex with rotation := some ⟨7, 9, .returning, 0, none, false⟩ } }, _, rfl,
    by decide +kernel, by decide +kernel, by decide +kernel, by decide +kernel⟩

theorem test_LedgerRowsComplete_5_1 :
    ∃ (dt d : Nat) (named : Bool) (task : Option Nat) (s e : State), s.elapse dt = e ∧ d < 10 :=
  ⟨0, 9, true, some 3, at_ .m6, _, rfl, by decide +kernel⟩

theorem test_LedgerRowsComplete_6 :
    ∃ (dt b : Nat) (erase : Bool) (s e : State), s.elapse dt = e ∧ b < 16384 :=
  ⟨0, 16383, true, at_ .m6, _, rfl, by decide +kernel⟩

theorem test_LedgerRowsComplete_7 :
    ∃ (dt o i err spareErr : Nat) (s e : State), s.elapse dt = e ∧ o < 3 ∧ (e.resState (49 + o) = 0 ∨ e.resState (49 + o) = 2)
    ∧ e.nextRef o = some i ∧ e.annex.activeRef = o :=
  ⟨0, 0, 1, 0, 0, at_ .m6, _, rfl, by decide +kernel, by decide +kernel, by decide +kernel, by decide +kernel⟩

theorem test_LedgerRowsComplete_8 :
    ∃ (dt o err spareErr : Nat) (s e : State), s.elapse dt = e ∧ o < 3 ∧ e.resState (49 + o) ≠ 3 :=
  ⟨0, 2, 5, 0, at_ .m6, _, rfl, by decide +kernel, by decide +kernel⟩

theorem test_LedgerRowsComplete_9 :
    ∃ (dt r : Nat) (pass : Bool) (s e : State), s.elapse dt = e ∧ (r = 19 ∨ r = 47 ∨ r = 48 ∨ r = 51) ∧ e.resState r = 1 ∧ (∀
    o, e.annex.rotation = some o → r ≠ 21 + o.standin) ∧ e.mode ≠ .m0 ∧ tget e.annex.sparedAt r 0 + 86400 ≤ e.ident.opSeconds :=
  ⟨0, 51, false, (at_ .m6) |> fun s => { s with ident := { s.ident with opSeconds := 86400 } }, _, rfl, by decide +kernel,
    by decide +kernel, by decide +kernel, by decide +kernel, by decide +kernel⟩

theorem test_LedgerRowsComplete_10 :
    ∃ (dt : Nat) (s e : State), s.elapse dt = e ∧ e.since e.annex.writtenAt (60 * Config.ticksPerSecond) = true :=
  ⟨0, after (60 * 125000000) (at_ .m6), _, rfl, by decide +kernel⟩

theorem test_LedgerRowsComplete_11 :
    ∃ (dt : Nat) (s e : State), s.elapse dt = e ∧ e.annex.ceWindow + e.eff 0x0763 ≤ e.ident.opSeconds :=
  ⟨0, (at_ .m6) |> fun s => { s with ident := { s.ident with opSeconds := 86400 } }, _, rfl, by decide +kernel⟩

theorem test_LedgerRowsComplete_12 :
    ∃ (dt st : Nat) (s e : State), s.elapse dt = e ∧ st < 18 ∧ e.has .ao = true :=
  ⟨0, 17, at_ .m6, _, rfl, by decide +kernel, by decide +kernel⟩

end Sys2Proof.Tests
end

