-- ==== Sys2Proof/Tests/Witness4.lean ====
section
/-!
SUPPORT. For each hypothesis set of these statements a concrete state and operands that meet it: RegisterRowsComplete,
ArbiterRowsComplete, AnalogRowsComplete, DigitalInputRowsComplete, DigitalOutputRowsComplete, LoopOutputRowsComplete,
HartRowsComplete.
-/
namespace Sys2Proof.Tests
set_option Elab.async false
set_option linter.unusedVariables false
open Sys2Proof Sys2Proof.Machine

/-! RegisterRowsComplete -/

theorem test_RegisterRowsComplete_1 :
    ∃ (dt mask : Nat) (w : RegWrite) (s e : State), s.elapse dt = e ∧ e.has .ai = true ∧ e.seqMode = true ∧ (w = .port mask ∨
    (∃ p x, w = .host p ∧ Writes e p x 0x09F8 mask)) :=
  ⟨0, 1, .port 1, set [(0x0980, 2 ^ 24)] (at_ .m6), _, rfl, by decide +kernel, by decide +kernel, (Or.inl rfl)⟩

theorem test_RegisterRowsComplete_2 :
    ∃ (dt mask : Nat) (w : RegWrite) (s e : State), s.elapse dt = e ∧ e.has .ai = true ∧ e.seqMode = true ∧ (w = .port mask ∨
    (∃ p x, w = .host p ∧ Writes e p x 0x09F9 mask)) :=
  ⟨0, 1, .port 1, set [(0x0980, 2 ^ 24)] (at_ .m6), _, rfl, by decide +kernel, by decide +kernel, (Or.inl rfl)⟩

theorem test_RegisterRowsComplete_3 :
    ∃ (dt mask : Nat) (p : Packet) (x : Session) (s e : State), s.elapse dt = e ∧ Writes e p x 0x09FA mask :=
  ⟨0, 255, ask 0x0021 (beBytes 4 (2 ^ 16) ++ beBytes 4 (0x09FA * 2 ^ 16 + 2 * 2 ^ 8) ++ beBytes 8 255), sess 3, on .m6, _, rfl,
    writes_sealed (accepted_sealed (by decide +kernel)) (by decide +kernel) (by decide +kernel)⟩

theorem test_RegisterRowsComplete_4 :
    ∃ (dt v : Nat) (p : Packet) (x : Session) (s e : State), s.elapse dt = e ∧ Writes e p x 0x08B2 v ∧ bit v 0 = true :=
  ⟨0, 1, ask 0x0021 (beBytes 4 (2 ^ 16) ++ beBytes 4 (0x08B2 * 2 ^ 16 + 1 * 2 ^ 8) ++ beBytes 8 1), sess 3, on .m6, _, rfl,
    writes_sealed (accepted_sealed (by decide +kernel)) (by decide +kernel) (by decide +kernel), by decide +kernel⟩

theorem test_RegisterRowsComplete_5 :
    ∃ (dt mask : Nat) (p : Packet) (x : Session) (s e : State), s.elapse dt = e ∧ Writes e p x 0x0BE7 mask :=
  ⟨0, 2 ^ 31, ask 0x0021 (beBytes 4 (2 ^ 16) ++ beBytes 4 (0x0BE7 * 2 ^ 16 + 4 * 2 ^ 8) ++ beBytes 8 (2 ^ 31)), sess 3,
    (on .m6).modSw 31 (fun w => { w with latched := true, retries := 3 }), _, rfl,
    writes_sealed (accepted_sealed (by decide +kernel)) (by decide +kernel) (by decide +kernel)⟩

theorem test_RegisterRowsComplete_6 :
    ∃ (dt v : Nat) (p : Packet) (x : Session) (s e : State), s.elapse dt = e ∧ Writes e p x 0x08B0 v :=
  ⟨0, 1, ask 0x0021 (beBytes 4 (2 ^ 16) ++ beBytes 4 (0x08B0 * 2 ^ 16 + 4 * 2 ^ 8) ++ beBytes 8 1), sess 3, on .m6, _, rfl,
    writes_sealed (accepted_sealed (by decide +kernel)) (by decide +kernel) (by decide +kernel)⟩

theorem test_RegisterRowsComplete_7 :
    ∃ (dt u n m : Nat) (s e : State), s.elapse dt = e ∧ e.prot.swap = true ∧ e.atFrame = true ∧ e.slotFault e.shadowSlots =
    some (u, n, m) :=
  ⟨0, 1, 7, 8, (put 6 128 0 (at_ .m6)) |> fun s => { s with prot := { s.prot with swap := true } }, _, rfl, by decide +kernel,
    by decide +kernel, by decide +kernel⟩

theorem test_RegisterRowsComplete_8 :
    ∃ (dt : Nat) (s e : State), s.elapse dt = e ∧ e.prot.swap = true ∧ e.atFrame = true ∧ e.slotFault e.shadowSlots = none :=
  ⟨0, (at_ .m6) |> fun s => { s with prot := { s.prot with swap := true } }, _, rfl, by decide +kernel, by decide +kernel,
    by decide +kernel⟩

/-! ArbiterRowsComplete -/

theorem test_ArbiterRowsComplete_1 :
    ∃ (dt : Nat) (a : Access) (s e : State), s.elapse dt = e ∧ accBad a = false :=
  ⟨0, ⟨0, 0, 31, .working, 0x200000000 - 16, 16, 1, 64, false⟩, at_ .m6, _, rfl, by decide +kernel⟩

theorem test_ArbiterRowsComplete_2 :
    ∃ (dt : Nat) (a : Access) (s e : State), s.elapse dt = e ∧ accBad a = false ∧ (∀ g ∈ accGranules a, ∃ k, e.regCheck a g =
    .ok k) :=
  ⟨0, ⟨0, 0, 31, .ownState, 0, 16, 1, 64, false⟩, at_ .m6, _, rfl, by decide +kernel, (by
    intro g hg
    have h : accGranules ⟨0, 0, 31, .ownState, 0, 16, 1, 64, false⟩ = [0] := by decide +kernel
    rw [h] at hg
    rw [List.mem_singleton.mp hg]
    exact ⟨none, by decide +kernel⟩)⟩

theorem test_ArbiterRowsComplete_3 :
    ∃ (dt : Nat) (rs : List Nat) (parity : Bool) (a : Access) (s e : State), s.elapse dt = e ∧ accBad a = false ∧ (∀ r ∈ rs, r
    ≤ 63) ∧ (parity = true ∨ 2 ≤ rs.length) :=
  ⟨0, [0, 63], false, ⟨0, 0, 31, .working, 0x200000000 - 16, 16, 1, 64, false⟩, at_ .m6, _, rfl, by decide +kernel,
    by decide +kernel, by decide +kernel⟩

theorem test_ArbiterRowsComplete_4 :
    ∃ (dt ctx region v : Nat) (s e : State), s.elapse dt = e ∧ ctx ≤ 23 ∧ region ≤ 63 :=
  ⟨0, 23, 63, 5, at_ .m6, _, rfl, by decide +kernel, by decide +kernel⟩

theorem test_ArbiterRowsComplete_5 :
    ∃ (dt waiting moved : Nat) (s e : State), s.elapse dt = e ∧ waiting < 2 ^ 18 :=
  ⟨0, 2 ^ 18 - 1, 3, at_ .m6, _, rfl, by decide +kernel⟩

theorem test_ArbiterRowsComplete_6 :
    ∃ (dt q : Nat) (s e : State), s.elapse dt = e ∧ q ≤ 17 ∧ e.prot.holder = some q :=
  ⟨0, 17, (at_ .m6) |> fun s => { s with prot := { s.prot with holder := some 17 } }, _, rfl, by decide +kernel,
    by decide +kernel⟩

theorem test_ArbiterRowsComplete_7 :
    ∃ (dt moved : Nat) (s e : State), s.elapse dt = e ∧ e.onGrid Config.budgetNs = true :=
  ⟨0, 4, (at_ .m6) |> fun s => { s with prot := { s.prot with holder := some 17 } }, _, rfl, by decide +kernel⟩

/-! AnalogRowsComplete -/

theorem test_AnalogRowsComplete_1 :
    ∃ (dt c w n value stamp : Nat) (x : ConvIn) (v : Visit) (q : Int × Nat) (s e : State), s.elapse dt = e ∧ c < 8 ∧ e.has .ai
    = true ∧ (e.conv c).running = true ∧ (e.conv c).dead = false ∧ (e.conv c).visit = some v ∧ (e.conv c).entries.getD v.entry
    0 = w ∧ seqPhase w = 0 ∧ seqChannel c w = some n ∧ e.clk.stepTick = none ∧ q = codeValue (toSigned 24 x.code) (e.factors
    (e.physConv c) (seqGain w)).1 (e.factors (e.physConv c) (seqGain w)).2 (bits v.settings 2 3) (seqGain w) ∧ value = ofRatio
    fmt32 q.1 q.2 ∧ stamp = e.now - 10000 - 2 * osrNs (seqOsr w) :=
  ⟨0, 7, 0, 28, _, _, ⟨1000, 0, false⟩, ⟨0, 0, 0, 0, false, []⟩, _,
    now_ 1000000 ((at_ .m6).modConv 7 (fun k => { k with running := true, visit := some ⟨0, 0, 0, 0, false, []⟩ })), _, rfl,
    by decide +kernel, by decide +kernel, by decide +kernel, by decide +kernel, by decide +kernel, by decide +kernel,
    by decide +kernel, by decide +kernel, by decide +kernel, rfl, rfl, rfl⟩

theorem test_AnalogRowsComplete_2 :
    ∃ (dt n : Nat) (x : ExcIn) (s e : State), s.elapse dt = e ∧ n < 32 ∧ e.has .ai = true ∧ bit (e.aiConfig n) 31 = true ∧
    aiExcited (e.aiConfig n) = true ∧ e.onGrid (e.halfNs n) = true :=
  ⟨0, 31, ⟨0, false, 0⟩, set [(0x097C, 2 ^ 31 + 2 ^ 30 + 4 * 2 ^ 16)] (at_ .m6 .solo), _, rfl, by decide +kernel,
    by decide +kernel, by decide +kernel, by decide +kernel, by decide +kernel⟩

theorem test_AnalogRowsComplete_3 :
    ∃ (dt n w : Nat) (mv : Int) (s e : State), s.elapse dt = e ∧ n < 32 ∧ e.has .ai = true ∧ e.eff (0x0901 + 4 * n) = w :=
  ⟨0, 31, _, 7, at_ .m6, _, rfl, by decide +kernel, by decide +kernel, rfl⟩

theorem test_AnalogRowsComplete_4 :
    ∃ (dt n : Nat) (s e : State), s.elapse dt = e ∧ n < 32 ∧ e.has .ai = true ∧ e.onGrid 1000000000 = true :=
  ⟨0, 31, at_ .m6, _, rfl, by decide +kernel, by decide +kernel, by decide +kernel⟩

theorem test_AnalogRowsComplete_5 :
    ∃ (dt q : Nat) (p : Packet) (x : Session) (s e : State), s.elapse dt = e ∧ Accepted aiCalibrateCmd e p x ∧ e.mode ≠ .m8 ∧
    e.annex.rotation = none ∧ (∀ c < 8, (e.conv c).visit = none) ∧ beAt (reqOf p).body 0 2 ≠ 0 ∧ q < 10 ∧ bit (beAt (reqOf
    p).body 0 2) q = true ∧ e.resState (21 + q) ≠ 3 ∧ e.resState (21 + q) ≠ 4 :=
  ⟨0, 9, ask 0x0070 (beBytes 4 (2 ^ 25)) 0, sess 3, on .m3, _, rfl, accepted_sealed (by decide +kernel), by decide +kernel,
    by decide +kernel, by decide +kernel, by decide +kernel, by decide +kernel, by decide +kernel, by decide +kernel,
    by decide +kernel⟩

theorem test_AnalogRowsComplete_6 :
    ∃ (dt p k : Nat) (offs gains : List Nat) (s e : State), s.elapse dt = e ∧ p < 10 ∧ (e.cal p).running = some k ∧ e.since k
    (420 * Config.ticksPerMs) = true ∧ e.annex.rotation = none ∧ e.ai.calOp = none :=
  ⟨0, 9, 0, [], [], after (420 * 125000) ((at_ .m6).modCal 9 (fun k => { k with running := some 0 })), _, rfl,
    by decide +kernel, by decide +kernel, by decide +kernel, by decide +kernel, by decide +kernel⟩

/-! DigitalInputRowsComplete -/

theorem test_DigitalInputRowsComplete_1 :
    ∃ (dt n : Nat) (level : Bool) (s e : State), s.elapse dt = e ∧ n < 36 ∧ e.inHere n = true ∧ e.mode ≠ .m0 ∧ (e.din n).level
    ≠ level :=
  ⟨0, 35, true, at_ .m6, _, rfl, by decide +kernel, by decide +kernel, by decide +kernel, by decide +kernel⟩

theorem test_DigitalInputRowsComplete_2 :
    ∃ (dt n c : Nat) (raw : Bool) (s e : State), s.elapse dt = e ∧ n < 36 ∧ e.inHere n = true ∧ e.mode ≠ .m0 ∧ e.onGrid
    (inTick (e.inConfig n)) = true ∧ (e.din n).sampled ≠ some e.tick ∧ inStep (e.din n).c (e.inConfig n) (e.din n).state raw =
    (c, (e.din n).state) :=
  ⟨0, 35, 1, true, set [(0x0BD4, (2 * 2 ^ 16 + 2 * 2 ^ 8 + 1))] (at_ .m6), _, rfl, by decide +kernel, by decide +kernel,
    by decide +kernel, by decide +kernel, by decide +kernel, by decide +kernel⟩

theorem test_DigitalInputRowsComplete_3 :
    ∃ (dt n c : Nat) (raw : Bool) (s e : State), s.elapse dt = e ∧ n < 32 ∧ e.inHere n = true ∧ e.mode ≠ .m0 ∧ e.onGrid
    (inTick (e.inConfig n)) = true ∧ (e.din n).sampled ≠ some e.tick ∧ inStep (e.din n).c (e.inConfig n) (e.din n).state raw =
    (c, !(e.din n).state) :=
  ⟨0, 31, 2, true, set [(0x0B5D, (2 * 2 ^ 16 + 2 * 2 ^ 8 + 1))] ((at_ .m6).modIn 31 (fun i => { i with c := 1 })), _, rfl,
    by decide +kernel, by decide +kernel, by decide +kernel, by decide +kernel, by decide +kernel, by decide +kernel⟩

theorem test_DigitalInputRowsComplete_4 :
    ∃ (dt k c : Nat) (s e : State), s.elapse dt = e ∧ k < 4 ∧ e.mode ≠ .m0 ∧ e.onGrid (inTick (e.inConfig (32 + k))) = true ∧
    (e.din (32 + k)).sampled ≠ some e.tick ∧ (e.din (32 + k)).state = false ∧ inStep (e.din (32 + k)).c (e.inConfig (32 + k))
    false true = (c, true) :=
  ⟨0, 3, 2, set [(0x0BD4, (2 * 2 ^ 16 + 2 * 2 ^ 8 + 1))] ((at_ .m6).modIn 35 (fun i => { i with c := 1 })), _, rfl,
    by decide +kernel, by decide +kernel, by decide +kernel, by decide +kernel, by decide +kernel, by decide +kernel⟩

theorem test_DigitalInputRowsComplete_5 :
    ∃ (dt : Nat) (s e : State), s.elapse dt = e ∧ e.onGrid 1000000000 = true :=
  ⟨0, at_ .m6, _, rfl, by decide +kernel⟩

theorem test_DigitalInputRowsComplete_6 :
    ∃ (dt n ua : Nat) (s e : State), s.elapse dt = e ∧ n < 32 ∧ e.has .dio = true ∧ e.mode ≠ .m0 ∧ bit (e.inConfig n) 31 =
    true ∧ (e.din n).state = false ∧ e.supplyLost (if n < 16 then 2 else 3) = false ∧ decide (ua < 300) ≠ (e.din n).wireBreak :=
  ⟨0, 31, 299, set [(0x0B5D, 2 ^ 31)] (at_ .m6), _, rfl, by decide +kernel, by decide +kernel, by decide +kernel,
    by decide +kernel, by decide +kernel, by decide +kernel, by decide +kernel⟩

theorem test_DigitalInputRowsComplete_7 :
    ∃ (dt g v : Nat) (s e : State), s.elapse dt = e ∧ g < 2 ∧ e.mode ≠ .m0 ∧ flt fmt32 v (f32 15 1) = true :=
  ⟨0, 1, 0, at_ .m6, _, rfl, by decide +kernel, by decide +kernel, by decide +kernel⟩

theorem test_DigitalInputRowsComplete_8 :
    ∃ (dt g v : Nat) (s e : State), s.elapse dt = e ∧ g < 2 ∧ e.mode ≠ .m0 ∧ flt fmt32 (f32 16 1) v = true :=
  ⟨0, 1, f32 24 1, at_ .m6, _, rfl, by decide +kernel, by decide +kernel, by decide +kernel⟩

theorem test_DigitalInputRowsComplete_9 :
    ∃ (dt k v : Nat) (s e : State), s.elapse dt = e ∧ k < 2 ∧ e.mode ≠ .m0 ∧ flt fmt32 v (f32 16 1) = true :=
  ⟨0, 1, 0, at_ .m6, _, rfl, by decide +kernel, by decide +kernel, by decide +kernel⟩

theorem test_DigitalInputRowsComplete_10 :
    ∃ (dt k v : Nat) (s e : State), s.elapse dt = e ∧ k < 2 ∧ e.mode ≠ .m0 ∧ flt fmt32 (f32 17 1) v = true :=
  ⟨0, 1, f32 24 1, at_ .m6, _, rfl, by decide +kernel, by decide +kernel, by decide +kernel⟩

/-! DigitalOutputRowsComplete -/

theorem test_DigitalOutputRowsComplete_1_1 :
    ∃ (dt m : Nat) (s e : State), s.elapse dt = e ∧ m < 32 ∧ e.swOn m = true ∧ e.swUnfed m = false ∧ (e.sw m).retrying = false
    ∧ bits (e.doConfig m) 23 4 ≠ 0 :=
  ⟨0, 31, set [(0x0BBE, 2 ^ 31 + 3 * 2 ^ 23)] ((at_ .m6 .solo).modSw 31 (fun w => { w with cmd := true })), _, rfl,
    by decide +kernel, by decide +kernel, by decide +kernel, by decide +kernel, by decide +kernel⟩

theorem test_DigitalOutputRowsComplete_2_1 :
    ∃ (dt m : Nat) (s e : State), s.elapse dt = e ∧ m < 32 ∧ e.swOn m = true ∧ e.swUnfed m = false ∧ (bits (e.doConfig m) 23 4
    = 0 ∨ ((e.sw m).retrying = true ∧ bits (e.doConfig m) 23 4 ≤ min 15 ((e.sw m).retries + 1))) :=
  ⟨0, 31,
    set [(0x0BBE, 2 ^ 31 + 3 * 2 ^ 23)] ((at_ .m6 .solo).modSw 31 (fun w => { w with cmd := true, retrying := true, retries := 2 })),
    _, rfl, by decide +kernel, by decide +kernel, by decide +kernel, by decide +kernel⟩

theorem test_DigitalOutputRowsComplete_3 :
    ∃ (dt m junction : Nat) (s e : State), s.elapse dt = e ∧ m < 32 ∧ e.retryDue m (e.eff 0x0BE3 * Config.ticksPerMs) junction
    = true :=
  ⟨0, 31, 0,
    set [(0x0BE3, 1)] (after 125000 (set [(0x0BBE, 2 ^ 31 + 3 * 2 ^ 23)] ((at_ .m6 .solo).modSw 31 (fun w => { w with cmd := true, retryFrom := some 0 })))),
    _, rfl, by decide +kernel, by decide +kernel⟩

theorem test_DigitalOutputRowsComplete_4 :
    ∃ (dt m : Nat) (s e : State), s.elapse dt = e ∧ m < 32 ∧ e.swOn m = true ∧ e.since (e.sw m).onAt Config.ticksPerSecond =
    true :=
  ⟨0, 31, after 125000000 (set [(0x0BBE, 2 ^ 31 + 3 * 2 ^ 23)] ((at_ .m6 .solo).modSw 31 (fun w => { w with cmd := true }))), _,
    rfl, by decide +kernel, by decide +kernel, by decide +kernel⟩

theorem test_DigitalOutputRowsComplete_5_1 :
    ∃ (dt m : Nat) (level : Bool) (s e : State), s.elapse dt = e ∧ m < 32 ∧ e.has .dio = true ∧ e.mode ≠ .m0 ∧ e.rbSuspended m
    = false ∧ level ≠ e.doExpected m ∧ (e.sw m).readbackFault = false :=
  ⟨0, 31, false, set [(0x0BBE, 2 ^ 31 + 3 * 2 ^ 23)] ((at_ .m6 .solo).modSw 31 (fun w => { w with cmd := true })), _, rfl,
    by decide +kernel, by decide +kernel, by decide +kernel, by decide +kernel, by decide +kernel, by decide +kernel⟩

theorem test_DigitalOutputRowsComplete_5_2 :
    ∃ (dt m : Nat) (level : Bool) (s e : State), s.elapse dt = e ∧ m < 32 ∧ e.has .dio = true ∧ e.mode ≠ .m0 ∧ e.rbSuspended m
    = false ∧ level = e.doExpected m :=
  ⟨0, 31, true,
    set [(0x0BBE, 2 ^ 31 + 3 * 2 ^ 23)] ((at_ .m6 .solo).modSw 31 (fun w => { w with cmd := true, readbackFault := true })), _,
    rfl, by decide +kernel, by decide +kernel, by decide +kernel, by decide +kernel, by decide +kernel⟩

theorem test_DigitalOutputRowsComplete_6 :
    ∃ (dt c cause : Nat) (level : Bool) (s e : State), s.elapse dt = e ∧ c < 2 ∧ e.mode ≠ .m0 ∧ ((cause = 1 ∨ cause = 2) ∧
    e.swOn (32 + c) = true ∨ cause = 3 ∧ e.rbSuspended (32 + c) = false ∧ (e.sw (32 + c)).readbackFault = false ∧ level ≠
    e.doExpected (32 + c)) :=
  ⟨0, 1, 3, true, at_ .m6, _, rfl, by decide +kernel, by decide +kernel, by decide +kernel⟩

theorem test_DigitalOutputRowsComplete_7 :
    ∃ (dt c junction : Nat) (s e : State), s.elapse dt = e ∧ c < 2 ∧ e.retryDue (32 + c) Config.ticksPerSecond junction = true :=
  ⟨0, 1, 0, after 125000000 ((at_ .m6 .solo).modSw 33 (fun w => { w with cmd := true, retryFrom := some 0 })), _, rfl,
    by decide +kernel, by decide +kernel⟩

/-! LoopOutputRowsComplete -/

theorem test_LoopOutputRowsComplete_1 :
    ∃ (dt st n : Nat) (m : StageIn) (s e : State), s.elapse dt = e ∧ st < 18 ∧ e.has .ao = true ∧ e.mode ≠ .m0 ∧ e.stageOutput
    st = some n :=
  ⟨0, 15, 15, ⟨f32 4 1, f32 2 1, f32 24 1, f32 40 1⟩, set [(0x0A7A, 2 ^ 31)] (at_ .m6 .solo), _, rfl, by decide +kernel,
    by decide +kernel, by decide +kernel, by decide +kernel⟩

theorem test_LoopOutputRowsComplete_2 :
    ∃ (dt st n k since : Nat) (s e : State), s.elapse dt = e ∧ st < 18 ∧ e.stageOutput st = some n ∧ k < 3 ∧ tget (e.aoChan
    n).since k none = some since ∧ e.since since (e.eff 0x0AE0 * Config.ticksPerMs) = true ∧ e.aoJudge n k = true ∧ (∀ j < 3,
    j ≠ k → tget (e.aoChan n).since j none = none) :=
  ⟨0, 15, 15, 0, 0,
    after (500 * 125000) (((set [(0x0A7A, 2 ^ 31)] (at_ .m6 .solo)) : State).modAo 15 (fun c => { c with cmd := f32 8 1, supply := f32 28 1, since := [(0, some 0)] })),
    _, rfl, by decide +kernel, by decide +kernel, by decide +kernel, by decide +kernel, by decide +kernel, by decide +kernel,
    by decide +kernel⟩

theorem test_LoopOutputRowsComplete_3 :
    ∃ (dt st n since : Nat) (s e : State), s.elapse dt = e ∧ st < 18 ∧ e.stageOutput st = some n ∧ tget (e.aoChan n).since 3
    none = some since ∧ e.since since (10 * Config.ticksPerMs) = true ∧ e.aoJudge n 3 = true :=
  ⟨0, 15, 15, 0,
    (after (10 * 125000) (((set [(0x0A7A, 2 ^ 31)] (at_ .m6 .solo)) : State).modAo 15 (fun c => { c with cmd := f32 8 1, setpoint := f32 24 1, since := [(3, some 0)] }))) |> fun s => { s with dio := { s.dio with there := [true, true, true, true] } },
    _, rfl, by decide +kernel, by decide +kernel, by decide +kernel, by decide +kernel, by decide +kernel⟩

theorem test_LoopOutputRowsComplete_4_1 :
    ∃ (dt st n j : Nat) (s e : State), s.elapse dt = e ∧ st < 18 ∧ e.stageOutput st = some n ∧ (e.aoChan n).thermal = false ∧
    fle fmt32 (f32 150 1) j = true :=
  ⟨0, 15, 15, f32 150 1, set [(0x0A7A, 2 ^ 31)] (at_ .m6 .solo), _, rfl, by decide +kernel, by decide +kernel,
    by decide +kernel, by decide +kernel⟩

theorem test_LoopOutputRowsComplete_4_2 :
    ∃ (dt st n j : Nat) (s e : State), s.elapse dt = e ∧ st < 18 ∧ e.stageOutput st = some n ∧ (e.aoChan n).thermal = true ∧
    flt fmt32 j (f32 140 1) = true :=
  ⟨0, 15, 15, f32 139 1,
    ((set [(0x0A7A, 2 ^ 31)] (at_ .m6 .solo)) : State).modAo 15 (fun c => { c with cmd := f32 8 1, thermal := true }), _, rfl,
    by decide +kernel, by decide +kernel, by decide +kernel, by decide +kernel⟩

theorem test_LoopOutputRowsComplete_5_1 :
    ∃ (dt n : Nat) (p : Packet) (x : Session) (s e : State), s.elapse dt = e ∧ Accepted aoTrimCmd e p x ∧ beAt (reqOf p).body
    0 1 = n ∧ beAt (reqOf p).body 1 1 = 1 :=
  ⟨0, 15, ask 0x0071 (beBytes 4 (15 * 2 ^ 24 + 1 * 2 ^ 16) ++ beBytes 4 (0)) 0, sess 3,
    set [(0x0A7A, 2 ^ 31), (0x0A78, 100)] (on .m8 .solo), _, rfl, accepted_sealed (by decide +kernel), by decide +kernel,
    by decide +kernel⟩

theorem test_LoopOutputRowsComplete_5_2 :
    ∃ (dt n : Nat) (p : Packet) (x : Session) (s e : State), s.elapse dt = e ∧ Accepted aoTrimCmd e p x ∧ beAt (reqOf p).body
    0 1 = n ∧ beAt (reqOf p).body 1 1 = 2 :=
  ⟨0, 15, ask 0x0071 (beBytes 4 (15 * 2 ^ 24 + 2 * 2 ^ 16) ++ beBytes 4 (0)) 0, sess 3,
    set [(0x0A7A, 2 ^ 31), (0x0A78, 100)] (on .m8 .solo), _, rfl, accepted_sealed (by decide +kernel), by decide +kernel,
    by decide +kernel⟩

theorem test_LoopOutputRowsComplete_5_3 :
    ∃ (dt n : Nat) (p : Packet) (x : Session) (s e : State), s.elapse dt = e ∧ Accepted aoTrimCmd e p x ∧ beAt (reqOf p).body
    0 1 = n ∧ beAt (reqOf p).body 1 1 = 3 :=
  ⟨0, 15, ask 0x0071 (beBytes 4 (15 * 2 ^ 24 + 3 * 2 ^ 16) ++ beBytes 4 (f32 4 1)) 0, sess 3,
    ((set [(0x0A7A, 2 ^ 31), (0x0A78, 100)] (on .m8 .solo)) : State).modAo 15 (fun c => { c with trimOp := some 1 }), _, rfl,
    accepted_sealed (by decide +kernel), by decide +kernel, by decide +kernel⟩

theorem test_LoopOutputRowsComplete_5_4 :
    ∃ (dt n : Nat) (p : Packet) (x : Session) (s e : State), s.elapse dt = e ∧ Accepted aoTrimCmd e p x ∧ beAt (reqOf p).body
    0 1 = n ∧ beAt (reqOf p).body 1 1 = 4 :=
  ⟨0, 15, ask 0x0071 (beBytes 4 (15 * 2 ^ 24 + 4 * 2 ^ 16) ++ beBytes 4 (f32 20 1)) 0, sess 3,
    ((set [(0x0A7A, 2 ^ 31), (0x0A78, 100)] (on .m8 .solo)) : State).modAo 15 (fun c => { c with trimOp := some 2 }), _, rfl,
    accepted_sealed (by decide +kernel), by decide +kernel, by decide +kernel⟩

theorem test_LoopOutputRowsComplete_5_5 :
    ∃ (dt n : Nat) (p : Packet) (x : Session) (s e : State), s.elapse dt = e ∧ Accepted aoTrimCmd e p x ∧ beAt (reqOf p).body
    0 1 = n ∧ beAt (reqOf p).body 1 1 = 5 :=
  ⟨0, 15, ask 0x0071 (beBytes 4 (15 * 2 ^ 24 + 5 * 2 ^ 16) ++ beBytes 4 (0)) 0, sess 3,
    ((set [(0x0A7A, 2 ^ 31), (0x0A78, 100)] (on .m8 .solo)) : State).modAo 15 (fun c => { c with trimOp := some 2, m4 := some (f32 4 1), m20 := some (f32 20 1) }),
    _, rfl, accepted_sealed (by decide +kernel), by decide +kernel, by decide +kernel⟩

theorem test_LoopOutputRowsComplete_5_6 :
    ∃ (dt n : Nat) (p : Packet) (x : Session) (s e : State), s.elapse dt = e ∧ Accepted aoTrimCmd e p x ∧ beAt (reqOf p).body
    0 1 = n ∧ beAt (reqOf p).body 1 1 = 6 :=
  ⟨0, 15, ask 0x0071 (beBytes 4 (15 * 2 ^ 24 + 6 * 2 ^ 16) ++ beBytes 4 (0)) 0, sess 3,
    ((set [(0x0A7A, 2 ^ 31), (0x0A78, 100)] (on .m8 .solo)) : State).modAo 15 (fun c => { c with trim := 5 }), _, rfl,
    accepted_sealed (by decide +kernel), by decide +kernel, by decide +kernel⟩

theorem test_LoopOutputRowsComplete_5_7 :
    ∃ (dt n : Nat) (p : Packet) (x : Session) (s e : State), s.elapse dt = e ∧ Accepted aoTrimCmd e p x ∧ beAt (reqOf p).body
    0 1 = n ∧ beAt (reqOf p).body 1 1 = 0 :=
  ⟨0, 15, ask 0x0071 (beBytes 4 (15 * 2 ^ 24 + 0 * 2 ^ 16) ++ beBytes 4 (0)) 0, sess 3,
    ((set [(0x0A7A, 2 ^ 31), (0x0A78, 100)] (on .m8 .solo)) : State).modAo 15 (fun c => { c with trimOp := some 1 }), _, rfl,
    accepted_sealed (by decide +kernel), by decide +kernel, by decide +kernel⟩

/-! HartRowsComplete -/

theorem test_HartRowsComplete_1 :
    ∃ (dt : Nat) (p : Packet) (x : Session) (s e : State), s.elapse dt = e ∧ Accepted hartPassCmd e p x :=
  ⟨0, ask 0x0072 (beBytes 4 (47 * 2 ^ 24 + 2 ^ 16 + 3) ++ [7#8]) 0, sess 3,
    (on .m6 .solo).modModem 47 (fun m => { m with state := 2 }), _, rfl, accepted_sealed (by decide +kernel)⟩

theorem test_HartRowsComplete_2_1 :
    ∃ (dt m k : Nat) (s e : State), s.elapse dt = e ∧ m < 48 ∧ e.hartOn m = true ∧ (e.modem m).state = 2 ∧ e.hartMaster = true
    ∧ k < 16 ∧ bit (fld (e.entry 0x000C (16 * m + k)) 0 0 8) 7 = true ∧ e.onGrid (fld (e.entry 0x000C (16 * m + k)) 4 0 32 *
    1000000) = true ∧ (e.modem m).tx ≠ none :=
  ⟨0, 47, 15,
    put 0x000C 767 (2 ^ 7 + 3 * 2 ^ 16 + 1000 * 2 ^ 32) (set [(0x0ADE, 2 ^ 31 + 2 ^ 30)] ((at_ .m6 .solo).modModem 47 (fun m => { m with state := 2, tx := some ⟨15, 3, [], 0, 5⟩ }))),
    _, rfl, by decide +kernel, by decide +kernel, by decide +kernel, by decide +kernel, by decide +kernel, by decide +kernel,
    by decide +kernel, by decide +kernel⟩

theorem test_HartRowsComplete_2_2 :
    ∃ (dt m k : Nat) (s e : State), s.elapse dt = e ∧ m < 48 ∧ e.hartOn m = true ∧ (e.modem m).state = 2 ∧ e.hartMaster = true
    ∧ k < 16 ∧ bit (fld (e.entry 0x000C (16 * m + k)) 0 0 8) 7 = true ∧ e.onGrid (fld (e.entry 0x000C (16 * m + k)) 4 0 32 *
    1000000) = true ∧ (e.modem m).tx = none ∧ (e.modem m).pass = none ∧ (e.modem m).due = [] ∧ fld (e.entry 0x000C (16 * m +
    k)) 2 0 16 < 256 ∧ (∀ j < k, (bit (fld (e.entry 0x000C (16 * m + j)) 0 0 8) 7 && e.onGrid (fld (e.entry 0x000C (16 * m +
    j)) 4 0 32 * 1000000)) = false) :=
  ⟨0, 47, 15,
    put 0x000C 767 (2 ^ 7 + 3 * 2 ^ 16 + 1000 * 2 ^ 32) (set [(0x0ADE, 2 ^ 31 + 2 ^ 30)] ((at_ .m6 .solo).modModem 47 (fun m => { m with state := 2 }))),
    _, rfl, by decide +kernel, by decide +kernel, by decide +kernel, by decide +kernel, by decide +kernel, by decide +kernel,
    by decide +kernel, by decide +kernel, by decide +kernel, by decide +kernel, by decide +kernel, by decide +kernel⟩

theorem test_HartRowsComplete_3_1 :
    ∃ (dt m : Nat) (y : HartTx) (r : HartIn) (s e : State), s.elapse dt = e ∧ m < 48 ∧ (e.modem m).tx = some y ∧ y.sent ≠ 0 ∧
    y.sent ≤ e.tick ∧ r.good = true ∧ r.command = y.command ∧ y.entry < 16 :=
  ⟨0, 47, ⟨15, 3, [], 0, 5⟩, ⟨true, 3, 0, 0, [1#8], 5, 0⟩,
    after 10 (set [(0x0ADE, 2 ^ 31 + 2 ^ 30)] ((at_ .m6 .solo).modModem 47 (fun m => { m with state := 2, tx := some ⟨15, 3, [], 0, 5⟩ }))),
    _, rfl, by decide +kernel, by decide +kernel, by decide +kernel, by decide +kernel, by decide +kernel, by decide +kernel,
    by decide +kernel⟩

theorem test_HartRowsComplete_3_2 :
    ∃ (dt m : Nat) (y : HartTx) (r : HartIn) (s e : State), s.elapse dt = e ∧ m < 48 ∧ (e.modem m).tx = some y ∧ y.sent ≠ 0 ∧
    y.sent ≤ e.tick ∧ r.good = true ∧ r.command = y.command ∧ y.entry = 0x100 ∧ 5 ≤ r.rev ∧ r.rev ≤ 7 :=
  ⟨0, 47, ⟨0x100, 0, [], 3, 5⟩, ⟨true, 0, 0, 0, [], 7, 9⟩,
    after 10 (set [(0x0ADE, 2 ^ 31 + 2 ^ 30)] ((at_ .m6 .solo).modModem 47 (fun m => { m with state := 1, tx := some ⟨0x100, 0, [], 3, 5⟩ }))),
    _, rfl, by decide +kernel, by decide +kernel, by decide +kernel, by decide +kernel, by decide +kernel, by decide +kernel,
    by decide +kernel, by decide +kernel, by decide +kernel⟩

theorem test_HartRowsComplete_4_1 :
    ∃ (dt m : Nat) (y : HartTx) (s e : State), s.elapse dt = e ∧ m < 48 ∧ (e.modem m).tx = some y ∧ y.sent ≠ 0 ∧ e.since
    y.sent 37812500 = true ∧ y.attempt < e.eff 0x0AE1 :=
  ⟨0, 47, ⟨15, 3, [], 0, 5⟩,
    after 37812505 (set [(0x0AE1, 3)] (set [(0x0ADE, 2 ^ 31 + 2 ^ 30)] ((at_ .m6 .solo).modModem 47 (fun m => { m with state := 2, tx := some ⟨15, 3, [], 0, 5⟩ })))),
    _, rfl, by decide +kernel, by decide +kernel, by decide +kernel, by decide +kernel, by decide +kernel⟩

theorem test_HartRowsComplete_4_2 :
    ∃ (dt m : Nat) (y : HartTx) (s e : State), s.elapse dt = e ∧ m < 48 ∧ (e.modem m).tx = some y ∧ y.sent ≠ 0 ∧ e.since
    y.sent 37812500 = true ∧ e.eff 0x0AE1 ≤ y.attempt ∧ y.entry = 0x100 :=
  ⟨0, 47, ⟨0x100, 0, [], 3, 5⟩,
    after 37812505 (set [(0x0AE1, 3)] (set [(0x0ADE, 2 ^ 31 + 2 ^ 30)] ((at_ .m6 .solo).modModem 47 (fun m => { m with state := 1, tx := some ⟨0x100, 0, [], 3, 5⟩ })))),
    _, rfl, by decide +kernel, by decide +kernel, by decide +kernel, by decide +kernel, by decide +kernel, by decide +kernel⟩

theorem test_HartRowsComplete_4_3 :
    ∃ (dt m : Nat) (y : HartTx) (s e : State), s.elapse dt = e ∧ m < 48 ∧ (e.modem m).tx = some y ∧ y.sent ≠ 0 ∧ e.since
    y.sent 37812500 = true ∧ e.eff 0x0AE1 ≤ y.attempt ∧ y.entry < 16 :=
  ⟨0, 47, ⟨15, 3, [], 3, 5⟩,
    after 37812505 (set [(0x0AE1, 3)] (set [(0x0ADE, 2 ^ 31 + 2 ^ 30)] ((at_ .m6 .solo).modModem 47 (fun m => { m with state := 2, tx := some ⟨15, 3, [], 3, 5⟩ })))),
    _, rfl, by decide +kernel, by decide +kernel, by decide +kernel, by decide +kernel, by decide +kernel, by decide +kernel⟩

theorem test_HartRowsComplete_5 :
    ∃ (dt m : Nat) (r : HartIn) (s e : State), s.elapse dt = e ∧ m < 48 ∧ e.hartOn m = true ∧ bit (e.hartConfig m) 30 = true ∧
    r.good = true :=
  ⟨0, 47, ⟨true, 3, 0, 0, [1#8], 5, 0⟩,
    set [(0x0ADE, 2 ^ 31 + 2 ^ 30)] ((at_ .m6 .solo).modModem 47 (fun m => { m with state := 2 })), _, rfl, by decide +kernel,
    by decide +kernel, by decide +kernel, by decide +kernel⟩

theorem test_HartRowsComplete_6 :
    ∃ (dt m : Nat) (s e : State), s.elapse dt = e ∧ m < 48 ∧ e.hartOn m = true ∧ (e.modem m).state = 3 ∧ e.hartMaster = true ∧
    e.since (e.modem m).identTick (10 * Config.ticksPerSecond) = true :=
  ⟨0, 47,
    after (10 * 125000000) (set [(0x0ADE, 2 ^ 31 + 2 ^ 30)] ((at_ .m6 .solo).modModem 47 (fun m => { m with state := 3 }))), _,
    rfl, by decide +kernel, by decide +kernel, by decide +kernel, by decide +kernel, by decide +kernel⟩

end Sys2Proof.Tests
end

