-- ==== Sys2Proof/Tests/Witness5.lean ====
section
/-!
SUPPORT. For each hypothesis set of these statements a concrete state and operands that meet it: PhaseEdgeRowsComplete,
PhaseTimeRowsComplete, NetworkRowsComplete, TimeRowsComplete, CanRowsComplete, PanelRowsComplete.
-/
namespace Sys2Proof.Tests
set_option Elab.async false
set_option linter.unusedVariables false
open Sys2Proof Sys2Proof.Machine

/-! PhaseEdgeRowsComplete -/

theorem test_PhaseEdgeRowsComplete_1 :
    ∃ (dt n : Nat) (x : EdgeIn) (s e : State), s.elapse dt = e ∧ n < 4 ∧ x.held < e.refPar n 9 + 2 :=
  ⟨0, 1, ⟨1, 0, 0⟩,
    (after 10000000 (set [(0x0420, 2 ^ 31 + 4194304 + 0 * 2 ^ 28)] (at_ .m6 .solo))).modRef 1 (fun r => { r with state := 3, tePrev := some 9960000, baseT := 9960000, nextD := 67108864, v := 7205759403792, k := 63 }),
    _, rfl, by decide +kernel, by decide +kernel⟩

theorem test_PhaseEdgeRowsComplete_2_1 :
    ∃ (dt n te k d : Nat) (x : EdgeIn) (s e : State), s.elapse dt = e ∧ n < 4 ∧ e.tracks n = true ∧ e.refKind n = 0 ∧ e.refPar
    n 9 + 2 ≤ x.held ∧ te = e.tick - x.held ∧ (bit (e.phRef n).lines 0 != bit x.levels 0) = !(bit (e.phRef n).lines 1 != bit
    x.levels 1) ∧ bit (e.phRef n).lines 2 = bit x.levels 2 ∧ (quadReverse (e.phRef n).lines x.levels != bit (e.refPar n 0) 25)
    = (e.phRef n).reverse ∧ k = e.nextPos n (e.phRef n).k (e.phRef n).reverse ∧ (e.phRef n).state = 3 ∧ d = te - (e.phRef
    n).tePrev.getD (e.phRef n).baseT ∧ d ≠ 0 ∧ fasterThan (e.nextStep n (e.phRef n).k (e.phRef n).reverse) d (e.refPar n 4) =
    false :=
  ⟨0, 1, _, _, _, ⟨1, 40, 0⟩,
    (after 10000000 (set [(0x0420, 2 ^ 31 + 4194304 + 0 * 2 ^ 28)] (at_ .m6 .solo))).modRef 1 (fun r => { r with state := 3, tePrev := some 9960000, baseT := 9960000, nextD := 67108864, v := 7205759403792 }),
    _, rfl, by decide +kernel, by decide +kernel, by decide +kernel, by decide +kernel, rfl, by decide +kernel, by decide +kernel,
    by decide +kernel, rfl, by decide +kernel, rfl, by decide +kernel, by decide +kernel⟩

theorem test_PhaseEdgeRowsComplete_2_2 :
    ∃ (dt n te k d : Nat) (x : EdgeIn) (s e : State), s.elapse dt = e ∧ n < 4 ∧ e.tracks n = true ∧ e.refKind n = 0 ∧ e.refPar
    n 9 + 2 ≤ x.held ∧ te = e.tick - x.held ∧ (bit (e.phRef n).lines 0 != bit x.levels 0) = !(bit (e.phRef n).lines 1 != bit
    x.levels 1) ∧ bit (e.phRef n).lines 2 = bit x.levels 2 ∧ (quadReverse (e.phRef n).lines x.levels != bit (e.refPar n 0) 25)
    = (e.phRef n).reverse ∧ k = e.nextPos n (e.phRef n).k (e.phRef n).reverse ∧ (e.phRef n).state = 1 :=
  ⟨0, 1, _, _, 0, ⟨1, 40, 0⟩,
    (after 10000000 (set [(0x0420, 2 ^ 31 + 4194304 + 0 * 2 ^ 28)] (at_ .m6 .solo))).modRef 1 (fun r => { r with state := 1, tePrev := some 9960000 }),
    _, rfl, by decide +kernel, by decide +kernel, by decide +kernel, by decide +kernel, rfl, by decide +kernel, by decide +kernel,
    by decide +kernel, rfl, by decide +kernel⟩

theorem test_PhaseEdgeRowsComplete_3_1 :
    ∃ (dt n te : Nat) (x : EdgeIn) (s e : State), s.elapse dt = e ∧ n < 4 ∧ e.tracks n = true ∧ e.refKind n = 0 ∧ e.refPar n 9
    + 2 ≤ x.held ∧ te = e.tick - x.held ∧ bit (e.phRef n).lines 0 = bit x.levels 0 ∧ bit (e.phRef n).lines 1 = bit x.levels 1
    ∧ bit (e.phRef n).lines 2 = bit (e.refPar n 0) 20 ∧ bit x.levels 2 = !bit (e.refPar n 0) 20 ∧ (e.phRef n).state = 3 ∧
    ((e.phRef n).k % e.refRes n ≤ 1 ∨ e.refRes n - (e.phRef n).k % e.refRes n ≤ 1) :=
  ⟨0, 1, _, ⟨4, 40, 0⟩,
    (after 10000000 (set [(0x0420, 2 ^ 31 + 4194304 + 0 * 2 ^ 28)] (at_ .m6 .solo))).modRef 1 (fun r => { r with state := 3, tePrev := some 9960000, baseT := 9960000, nextD := 67108864, v := 7205759403792, k := 63 }),
    _, rfl, by decide +kernel, by decide +kernel, by decide +kernel, by decide +kernel, rfl, by decide +kernel, by decide +kernel,
    by decide +kernel, by decide +kernel, by decide +kernel, by decide +kernel⟩

theorem test_PhaseEdgeRowsComplete_3_2 :
    ∃ (dt n te : Nat) (x : EdgeIn) (s e : State), s.elapse dt = e ∧ n < 4 ∧ e.tracks n = true ∧ e.refKind n = 0 ∧ e.refPar n 9
    + 2 ≤ x.held ∧ te = e.tick - x.held ∧ bit (e.phRef n).lines 0 = bit x.levels 0 ∧ bit (e.phRef n).lines 1 = bit x.levels 1
    ∧ bit (e.phRef n).lines 2 = bit (e.refPar n 0) 20 ∧ bit x.levels 2 = !bit (e.refPar n 0) 20 ∧ (e.phRef n).state = 3 ∧ 2 ≤
    (e.phRef n).k % e.refRes n ∧ 2 ≤ e.refRes n - (e.phRef n).k % e.refRes n :=
  ⟨0, 1, _, ⟨4, 40, 0⟩,
    (after 10000000 (set [(0x0420, 2 ^ 31 + 4194304 + 0 * 2 ^ 28)] (at_ .m6 .solo))).modRef 1 (fun r => { r with state := 3, tePrev := some 9960000, baseT := 9960000, nextD := 67108864, v := 7205759403792, k := 20 }),
    _, rfl, by decide +kernel, by decide +kernel, by decide +kernel, by decide +kernel, rfl, by decide +kernel, by decide +kernel,
    by decide +kernel, by decide +kernel, by decide +kernel, by decide +kernel, by decide +kernel⟩

theorem test_PhaseEdgeRowsComplete_3_3 :
    ∃ (dt n te : Nat) (x : EdgeIn) (s e : State), s.elapse dt = e ∧ n < 4 ∧ e.tracks n = true ∧ e.refKind n = 0 ∧ e.refPar n 9
    + 2 ≤ x.held ∧ te = e.tick - x.held ∧ bit (e.phRef n).lines 0 = bit x.levels 0 ∧ bit (e.phRef n).lines 1 = bit x.levels 1
    ∧ bit (e.phRef n).lines 2 = bit (e.refPar n 0) 20 ∧ bit x.levels 2 = !bit (e.refPar n 0) 20 ∧ (e.phRef n).state = 1 ∧
    e.refPar n 6 ≤ 1 ∧ (e.phRef n).prevInt.getD 0 ≠ 0 ∧ e.speedOk n (e.nextStep n 0 (e.phRef n).reverse) ((e.phRef
    n).prevInt.getD 0) = true :=
  ⟨0, 1, _, ⟨4, 40, 0⟩,
    (after 10000000 (set [(0x0420, 2 ^ 31 + 4194304 + 0 * 2 ^ 28), (0x0426, 1)] (at_ .m6 .solo))).modRef 1 (fun r => { r with state := 1, tePrev := some 9960000, prevInt := some 40000 }),
    _, rfl, by decide +kernel, by decide +kernel, by decide +kernel, by decide +kernel, rfl, by decide +kernel, by decide +kernel,
    by decide +kernel, by decide +kernel, by decide +kernel, by decide +kernel, by decide +kernel, by decide +kernel⟩

theorem test_PhaseEdgeRowsComplete_4 :
    ∃ (dt n : Nat) (x : EdgeIn) (s e : State), s.elapse dt = e ∧ n < 4 ∧ e.tracks n = true ∧ e.refKind n = 0 ∧ (e.phRef
    n).state = 3 ∧ e.refPar n 9 + 2 ≤ x.held ∧ (bit (e.phRef n).lines 0 != bit x.levels 0) = true ∧ (bit (e.phRef n).lines 1
    != bit x.levels 1) = true ∧ bit (e.phRef n).lines 2 = bit x.levels 2 :=
  ⟨0, 1, ⟨3, 40, 0⟩,
    (after 10000000 (set [(0x0420, 2 ^ 31 + 4194304 + 0 * 2 ^ 28)] (at_ .m6 .solo))).modRef 1 (fun r => { r with state := 3, tePrev := some 9960000, baseT := 9960000, nextD := 67108864, v := 7205759403792 }),
    _, rfl, by decide +kernel, by decide +kernel, by decide +kernel, by decide +kernel, by decide +kernel, by decide +kernel,
    by decide +kernel, by decide +kernel⟩

theorem test_PhaseEdgeRowsComplete_5 :
    ∃ (dt n d te : Nat) (x : EdgeIn) (s e : State), s.elapse dt = e ∧ n < 4 ∧ e.tracks n = true ∧ e.refKind n = 1 ∧ e.refPar n
    9 + 2 ≤ x.held ∧ te = e.tick - x.held ∧ bit (e.phRef n).lines 0 = bit (e.refPar n 0) 19 ∧ bit x.levels 0 = !bit (e.refPar
    n 0) 19 ∧ d = te - (e.phRef n).tePrev.getD te ∧ (e.phRef n).state = 1 ∧ e.gapTest n d (e.phRef n).prevInt = false :=
  ⟨0, 1, _, _, ⟨1, 40, 0⟩,
    (after 10000000 (set [(0x0420, 2 ^ 31 + 4194304 + 1 * 2 ^ 28)] (at_ .m6 .solo))).modRef 1 (fun r => { r with state := 1, tePrev := some 9960000, prevInt := some 40000 }),
    _, rfl, by decide +kernel, by decide +kernel, by decide +kernel, by decide +kernel, rfl, by decide +kernel, by decide +kernel,
    rfl, by decide +kernel, by decide +kernel⟩

theorem test_PhaseEdgeRowsComplete_6_1 :
    ∃ (dt n te b : Nat) (x : EdgeIn) (s e : State), s.elapse dt = e ∧ n < 4 ∧ e.tracks n = true ∧ e.refKind n = 2 ∧ e.refPar n
    0x0A = 0xFF ∧ e.refPar n 9 + 2 ≤ x.held ∧ te = e.tick - x.held ∧ bit (e.phRef n).lines 3 = false ∧ bit x.levels 3 = true ∧
    flt fmt32 x.low (fneg fmt32 (e.eff 0x0481)) = true ∧ (e.phRef n).state = 1 :=
  ⟨0, 1, _, 0, ⟨8, 40, f32 (-9) 1⟩,
    (after 10000000 (set [(0x0420, 2 ^ 31 + 4194304 + 2 * 2 ^ 28), (0x042A, 0xFF)] (at_ .m6 .solo))).modRef 1 (fun r => { r with state := 1 }),
    _, rfl, by decide +kernel, by decide +kernel, by decide +kernel, by decide +kernel, by decide +kernel, rfl, by decide +kernel,
    by decide +kernel, by decide +kernel, by decide +kernel⟩

theorem test_PhaseEdgeRowsComplete_6_2 :
    ∃ (dt n te b : Nat) (x : EdgeIn) (s e : State), s.elapse dt = e ∧ n < 4 ∧ e.tracks n = true ∧ e.refKind n = 2 ∧ e.refPar n
    0x0A = 0xFF ∧ e.refPar n 9 + 2 ≤ x.held ∧ te = e.tick - x.held ∧ bit (e.phRef n).lines 3 = false ∧ bit x.levels 3 = true ∧
    flt fmt32 x.low (fneg fmt32 (e.eff 0x0481)) = true ∧ (e.phRef n).state = 2 ∧ (e.phRef n).tePrev = some b ∧ te - b ≠ 0 ∧
    e.speedOk n fullTurn (te - b) = true ∧ e.refPar n 6 ≤ (e.phRef n).conf + 1 :=
  ⟨0, 1, _, 5000000, ⟨8, 40, f32 (-9) 1⟩,
    (after 10000000 (set [(0x0420, 2 ^ 31 + 4194304 + 2 * 2 ^ 28), (0x042A, 0xFF)] (at_ .m6 .solo))).modRef 1 (fun r => { r with state := 2, conf := 1, tePrev := some 5000000 }),
    _, rfl, by decide +kernel, by decide +kernel, by decide +kernel, by decide +kernel, by decide +kernel, rfl, by decide +kernel,
    by decide +kernel, by decide +kernel, by decide +kernel, by decide +kernel, by decide +kernel, by decide +kernel,
    by decide +kernel⟩

/-! PhaseTimeRowsComplete -/

theorem test_PhaseTimeRowsComplete_1 :
    ∃ (dt n : Nat) (s e : State), s.elapse dt = e ∧ n < 4 ∧ (e.phRef n).state = 3 ∧ e.refKind n ≠ 3 ∧ fasterThan (e.nextStep n
    (e.phRef n).k (e.phRef n).reverse) (e.tick - (e.phRef n).baseT) (e.refPar n 3) = false :=
  ⟨0, 1,
    (after 1000000000 (set [(0x0420, 2 ^ 31 + 4194304 + 0 * 2 ^ 28)] (at_ .m6 .solo))).modRef 1 (fun r => { r with state := 3, tePrev := some 1000, baseT := 1000, nextD := 1000, v := 7205759403792 }),
    _, rfl, by decide +kernel, by decide +kernel, by decide +kernel, by decide +kernel⟩

theorem test_PhaseTimeRowsComplete_2 :
    ∃ (dt n : Nat) (s e : State), s.elapse dt = e ∧ n < 4 ∧ e.tracks n = true ∧ (e.phRef n).state = 3 :=
  ⟨0, 1,
    (after 10000000 (set [(0x0420, 2 ^ 31 + 4194304 + 0 * 2 ^ 28)] (at_ .m6 .solo))).modRef 1 (fun r => { r with state := 3, tePrev := some 9960000, baseT := 9960000, nextD := 67108864, v := 7205759403792 }),
    _, rfl, by decide +kernel, by decide +kernel, by decide +kernel⟩

theorem test_PhaseTimeRowsComplete_3 :
    ∃ (dt k n m : Nat) (y : Int) (s e : State), s.elapse dt = e ∧ k < 1024 ∧ (k, e.catEntry k) ∈ e.entries 0x0004 ∧ (∀ v, (k,
    v) ∈ e.entries 0x0004 → v = e.catEntry k) ∧ catOn (e.catEntry k) = true ∧ catRef (e.catEntry k) = n ∧ (e.phRef n).state =
    3 ∧ e.tracks n = true ∧ e.catRuns = true ∧ (e.phRef n).lockTick ≠ some e.tick ∧ y = (e.project n (e.phRef n) e.tick).1 ∧ m
    = ((e.phRef n).dir * (y - (e.phRef n).dphi)).toNat ∧ passes (e.phRef n).reverse (e.phRef n).phi m (fld (e.catEntry k) 0 0
    32) = true ∧ tget e.ph.disarmed k false = false ∧ catDir (e.catEntry k) = 2 ∧ e.ph.deferred = [] ∧ e.ph.firedTick ≠ e.tick :=
  ⟨0, 9, 1, _, _,
    put 0x0004 9 (500 + 3 * 2 ^ 32 + 97 * 2 ^ 40 + 2 * 2 ^ 48) ((after 10000000 (set [(0x0420, 2 ^ 31 + 4194304 + 0 * 2 ^ 28), (0x0480, 1)] (at_ .m6 .solo))).modRef 1 (fun r => { r with state := 3, baseT := 9999000, nextD := 67108864, v := 4294967296 })),
    _, rfl, by decide +kernel, by decide +kernel, (by
    intro v hv
    have h : (((put 0x0004 9 (500 + 3 * 2 ^ 32 + 97 * 2 ^ 40 + 2 * 2 ^ 48) ((after 10000000 (set [(0x0420, 2 ^ 31 + 4194304 + 0 * 2 ^ 28), (0x0480, 1)] (at_ .m6 .solo))).modRef 1 (fun r => { r with state := 3, baseT := 9999000, nextD := 67108864, v := 4294967296 }))) : State).elapse 0).entries 0x0004 = [(9, (500 + 3 * 2 ^ 32 + 97 * 2 ^ 40 + 2 * 2 ^ 48))] := by decide +kernel
    rw [h, List.mem_singleton] at hv
    rw [(Prod.mk.inj hv).2]
    decide +kernel),
     by decide +kernel, by decide +kernel, by decide +kernel, by decide +kernel, by decide +kernel, by decide +kernel, rfl, rfl,
    by decide +kernel, by decide +kernel, by decide +kernel, by decide +kernel, by decide +kernel⟩

theorem test_PhaseTimeRowsComplete_4 :
    ∃ (dt : Nat) (s e : State), s.elapse dt = e ∧ e.catRuns = true ∧ e.ph.deferred ≠ [] ∧ e.ph.firedTick ≠ e.tick :=
  ⟨0,
    ((after 10000000 (set [(0x0420, 2 ^ 31 + 4194304 + 0 * 2 ^ 28), (0x0480, 1)] (at_ .m6 .solo))).modRef 1 (fun r => { r with state := 3, baseT := 9999000, nextD := 67108864, v := 4294967296 })) |> fun s => { s with ph := { s.ph with deferred := [⟨9, (500 + 3 * 2 ^ 32 + 97 * 2 ^ 40 + 2 * 2 ^ 48), 9999999, 0⟩] } },
    _, rfl, by decide +kernel, by decide +kernel, by decide +kernel⟩

/-! NetworkRowsComplete -/

theorem test_NetworkRowsComplete_1 :
    ∃ (dt p speed : Nat) (fibre : Bool) (s e : State), s.elapse dt = e ∧ p < 2 ∧ 1 ≤ speed ∧ speed ≤ 2 ∧ e.mode ≠ .m0 ∧
    e.ifcOn p = true ∧ (e.port p).link = false :=
  ⟨0, 1, 2, true, set [(0x0C20, 2 ^ 31)] (at_ .m6), _, rfl, by decide +kernel, by decide +kernel, by decide +kernel,
    by decide +kernel, by decide +kernel, by decide +kernel⟩

theorem test_NetworkRowsComplete_2 :
    ∃ (dt p : Nat) (s e : State), s.elapse dt = e ∧ p < 2 ∧ (e.port p).link = true :=
  ⟨0, 1, (at_ .m6 .solo).modPort 1 (fun q => { q with link := true }), _, rfl, by decide +kernel, by decide +kernel⟩

theorem test_NetworkRowsComplete_3 :
    ∃ (dt : Nat) (up : Bool) (s e : State), s.elapse dt = e ∧ e.mode ≠ .m0 ∧ e.ifcOn 2 = true ∧ (e.port 2).link ≠ up :=
  ⟨0, true, set [(0x0C40, 2 ^ 31)] (at_ .m6), _, rfl, by decide +kernel, by decide +kernel, by decide +kernel⟩

theorem test_NetworkRowsComplete_4 :
    ∃ (dt lan : Nat) (s e : State), s.elapse dt = e ∧ lan < 2 ∧ e.prp = true ∧ (e.port lan).lanUp = true :=
  ⟨0, 1, (set [(0x0C00, 2 ^ 31 + 2 ^ 30)] (at_ .m6)).modPort 1 (fun q => { q with link := true, lanUp := true }), _, rfl,
    by decide +kernel, by decide +kernel, by decide +kernel⟩

theorem test_NetworkRowsComplete_5 :
    ∃ (dt ifc : Nat) (s e : State), s.elapse dt = e ∧ ifc < 3 ∧ e.ifcOn ifc = true ∧ (e.port ifc).link = true ∧ e.ifcAddr ifc
    ≠ 0 ∧ (∀ k, (e.port ifc).checked = some k → e.since k (60 * Config.ticksPerSecond) = true) :=
  ⟨0, 1, (set [(0x0C20, 2 ^ 31), (0x0C01, 0x0A000001)] (at_ .m6)).modPort 1 (fun q => { q with link := true }), _, rfl,
    by decide +kernel, by decide +kernel, by decide +kernel, by decide +kernel,
    (fun k h => nomatch (show (none : Option Nat) = some k from h))⟩

theorem test_NetworkRowsComplete_6 :
    ∃ (dt ifc : Nat) (mac : U64) (s e : State), s.elapse dt = e ∧ ifc < 3 ∧ e.ifcOn ifc = true ∧ (e.port ifc).link = true :=
  ⟨0, 1, 5, (set [(0x0C20, 2 ^ 31), (0x0C01, 0x0A000001)] (at_ .m6)).modPort 1 (fun q => { q with link := true }), _, rfl,
    by decide +kernel, by decide +kernel, by decide +kernel⟩

theorem test_NetworkRowsComplete_7 :
    ∃ (dt ifc : Nat) (s e : State), s.elapse dt = e ∧ ifc < 3 ∧ (e.port ifc).conflict = true ∧ e.since (e.port ifc).conflictAt
    (10 * Config.ticksPerSecond) = true :=
  ⟨0, 1,
    after (10 * 125000000) ((set [(0x0C20, 2 ^ 31), (0x0C01, 0x0A000001)] (at_ .m6)).modPort 1 (fun q => { q with link := true, conflict := true })),
    _, rfl, by decide +kernel, by decide +kernel, by decide +kernel⟩

theorem test_NetworkRowsComplete_8_1 :
    ∃ (dt lan k x : Nat) (src : U32) (b : List Byte) (s e : State), s.elapse dt = e ∧ lan < 2 ∧ e.mode ≠ .m0 ∧ e.ifcOn lan =
    true ∧ (e.port lan).link = true ∧ e.stEnabled.find? (fun (_, y) => fld y 0 0 16 == beAt b 2 2) = some (k, x) ∧ beAt b 0 1
    = 0x11 ∧ fld x 4 0 32 = src.toNat ∧ (e.station k).state = 2 ∧ beAt b 1 1 = (e.station k).revision ∧ beAt b 4 2 =
    stInLength x ∧ b.length = 24 + stInLength x ∧ (e.station k).last = none :=
  ⟨0, 1, 3,
    (7 + 2 ^ 23 + 0x0A000005 * 2 ^ 32 + 100 * 2 ^ 64 + 1 * 2 ^ 80 + 200 * 2 ^ 96 + 9 * 2 ^ 112 + 100 * 2 ^ 192 + 400 * 2 ^ 208),
    0x0A000005, [0x11#8, 1#8] ++ beBytes 2 7 ++ beBytes 2 6 ++ List.replicate 24 0#8,
    (put 0x000B 3 (7 + 2 ^ 23 + 0x0A000005 * 2 ^ 32 + 100 * 2 ^ 64 + 1 * 2 ^ 80 + 200 * 2 ^ 96 + 9 * 2 ^ 112 + 100 * 2 ^ 192 + 400 * 2 ^ 208) ((set [(0x0C20, 2 ^ 31)] (at_ .m6 .solo)).modPort 1 (fun q => { q with link := true }))).modStation 3 (fun x => { x with state := 2, revision := 1 }),
    _, rfl, by decide +kernel, by decide +kernel, by decide +kernel, by decide +kernel, by decide +kernel, by decide +kernel,
    by decide +kernel, by decide +kernel, by decide +kernel, by decide +kernel, by decide +kernel, by decide +kernel⟩

theorem test_NetworkRowsComplete_8_2 :
    ∃ (dt lan k x : Nat) (src : U32) (b : List Byte) (s e : State), s.elapse dt = e ∧ lan < 2 ∧ e.mode ≠ .m0 ∧ e.ifcOn lan =
    true ∧ (e.port lan).link = true ∧ e.stEnabled.find? (fun (_, y) => fld y 0 0 16 == beAt b 2 2) = some (k, x) ∧ beAt b 1 1
    ≠ (e.station k).revision :=
  ⟨0, 1, 3,
    (7 + 2 ^ 23 + 0x0A000005 * 2 ^ 32 + 100 * 2 ^ 64 + 1 * 2 ^ 80 + 200 * 2 ^ 96 + 9 * 2 ^ 112 + 100 * 2 ^ 192 + 400 * 2 ^ 208),
    0x0A000005, [0x11#8, 1#8] ++ beBytes 2 7 ++ beBytes 2 6 ++ List.replicate 24 0#8,
    (put 0x000B 3 (7 + 2 ^ 23 + 0x0A000005 * 2 ^ 32 + 100 * 2 ^ 64 + 1 * 2 ^ 80 + 200 * 2 ^ 96 + 9 * 2 ^ 112 + 100 * 2 ^ 192 + 400 * 2 ^ 208) ((set [(0x0C20, 2 ^ 31)] (at_ .m6 .solo)).modPort 1 (fun q => { q with link := true }))).modStation 3 (fun x => { x with state := 2, revision := 2 }),
    _, rfl, by decide +kernel, by decide +kernel, by decide +kernel, by decide +kernel, by decide +kernel, by decide +kernel⟩

theorem test_NetworkRowsComplete_9 :
    ∃ (dt lan : Nat) (src : U32) (b : List Byte) (s e : State), s.elapse dt = e ∧ lan < 2 ∧ e.mode ≠ .m0 ∧ e.ifcOn lan = true
    ∧ (e.port lan).link = true ∧ e.prp = true :=
  ⟨0, 1, 5, [0x11#8, 1#8] ++ beBytes 2 7 ++ beBytes 2 6 ++ List.replicate 24 0#8,
    (set [(0x0C00, 2 ^ 31 + 2 ^ 30)] (at_ .m6)).modPort 1 (fun q => { q with link := true }), _, rfl, by decide +kernel,
    by decide +kernel, by decide +kernel, by decide +kernel, by decide +kernel⟩

theorem test_NetworkRowsComplete_10_1 :
    ∃ (dt k x ask : Nat) (src : U32) (b : List Byte) (s e : State), s.elapse dt = e ∧ e.stEnabled.find? (fun (_, y) => fld y 0
    0 16 == beAt b 2 2 && fld y 4 0 32 == src.toNat) = some (k, x) ∧ b.length = 28 ∧ beAt b 0 1 = 0x22 ∧ (e.station k).asked =
    some ask ∧ e.tick ≤ ask + 100 * Config.ticksPerMs ∧ (e.station k).answered = false ∧ e.canLead = true ∧ e.mode ≠ .m0 ∧
    e.stPaired = false ∧ bit (beAt b 8 2) 2 = true ∧ slice b 12 8 = stCounts x ∧ max (fld x 0x18 0 16) (beAt b 10 2) * 3 ≤ fld
    x 0x1A 0 16 * 4 :=
  ⟨0, 3,
    (7 + 2 ^ 23 + 0x0A000005 * 2 ^ 32 + 100 * 2 ^ 64 + 1 * 2 ^ 80 + 200 * 2 ^ 96 + 9 * 2 ^ 112 + 100 * 2 ^ 192 + 400 * 2 ^ 208),
    0, 0x0A000005,
    [0x22#8, 0#8] ++ beBytes 2 7 ++ List.replicate 4 0#8 ++ beBytes 2 4 ++ beBytes 2 50 ++ stCounts (7 + 2 ^ 23 + 0x0A000005 * 2 ^ 32 + 100 * 2 ^ 64 + 1 * 2 ^ 80 + 200 * 2 ^ 96 + 9 * 2 ^ 112 + 100 * 2 ^ 192 + 400 * 2 ^ 208) ++ List.replicate 8 0#8,
    (put 0x000B 3 (7 + 2 ^ 23 + 0x0A000005 * 2 ^ 32 + 100 * 2 ^ 64 + 1 * 2 ^ 80 + 200 * 2 ^ 96 + 9 * 2 ^ 112 + 100 * 2 ^ 192 + 400 * 2 ^ 208) ((set [(0x0C20, 2 ^ 31)] (at_ .m6 .solo)).modPort 1 (fun q => { q with link := true }))).modStation 3 (fun x => { x with state := 1, asked := some 0 }),
    _, rfl, by decide +kernel, by decide +kernel, by decide +kernel, by decide +kernel, by decide +kernel, by decide +kernel,
    by decide +kernel, by decide +kernel, by decide +kernel, by decide +kernel, by decide +kernel, by decide +kernel⟩

theorem test_NetworkRowsComplete_10_2 :
    ∃ (dt k x ask : Nat) (src : U32) (b : List Byte) (s e : State), s.elapse dt = e ∧ e.stEnabled.find? (fun (_, y) => fld y 0
    0 16 == beAt b 2 2 && fld y 4 0 32 == src.toNat) = some (k, x) ∧ b.length = 28 ∧ beAt b 0 1 = 0x22 ∧ (e.station k).asked =
    some ask ∧ e.tick ≤ ask + 100 * Config.ticksPerMs ∧ (e.station k).answered = false ∧ e.canLead = true ∧ e.mode ≠ .m0 ∧
    e.stPaired = false ∧ bit (beAt b 8 2) 2 = false ∧ bit (beAt b 8 2) 1 = false :=
  ⟨0, 3,
    (7 + 2 ^ 23 + 0x0A000005 * 2 ^ 32 + 100 * 2 ^ 64 + 1 * 2 ^ 80 + 200 * 2 ^ 96 + 9 * 2 ^ 112 + 100 * 2 ^ 192 + 400 * 2 ^ 208),
    0, 0x0A000005,
    [0x22#8, 0#8] ++ beBytes 2 7 ++ List.replicate 4 0#8 ++ beBytes 2 0 ++ beBytes 2 50 ++ stCounts (7 + 2 ^ 23 + 0x0A000005 * 2 ^ 32 + 100 * 2 ^ 64 + 1 * 2 ^ 80 + 200 * 2 ^ 96 + 9 * 2 ^ 112 + 100 * 2 ^ 192 + 400 * 2 ^ 208) ++ List.replicate 8 0#8,
    (put 0x000B 3 (7 + 2 ^ 23 + 0x0A000005 * 2 ^ 32 + 100 * 2 ^ 64 + 1 * 2 ^ 80 + 200 * 2 ^ 96 + 9 * 2 ^ 112 + 100 * 2 ^ 192 + 400 * 2 ^ 208) ((set [(0x0C20, 2 ^ 31)] (at_ .m6 .solo)).modPort 1 (fun q => { q with link := true }))).modStation 3 (fun x => { x with state := 1, asked := some 0 }),
    _, rfl, by decide +kernel, by decide +kernel, by decide +kernel, by decide +kernel, by decide +kernel, by decide +kernel,
    by decide +kernel, by decide +kernel, by decide +kernel, by decide +kernel, by decide +kernel⟩

theorem test_NetworkRowsComplete_11 :
    ∃ (dt k : Nat) (s e : State), s.elapse dt = e ∧ k < 250 ∧ e.scans = true ∧ e.canLead = true ∧ stOn (e.stEntry k) = true ∧
    ((e.station k).state = 1 ∨ (e.station k).state = 3 ∨ (e.station k).state = 4) ∧ (∀ a, (e.station k).asked = some a →
    e.since a (e.eff 0x0CC1 * Config.ticksPerMs) = true) :=
  ⟨0, 3,
    (put 0x000B 3 (7 + 2 ^ 23 + 0x0A000005 * 2 ^ 32 + 100 * 2 ^ 64 + 1 * 2 ^ 80 + 200 * 2 ^ 96 + 9 * 2 ^ 112 + 100 * 2 ^ 192 + 400 * 2 ^ 208) ((set [(0x0C20, 2 ^ 31)] (at_ .m6 .solo)).modPort 1 (fun q => { q with link := true }))).modStation 3 (fun x => { x with state := 3 }),
    _, rfl, by decide +kernel, by decide +kernel, by decide +kernel, by decide +kernel, by decide +kernel,
    (fun k h => nomatch (show (none : Option Nat) = some k from h))⟩

theorem test_NetworkRowsComplete_12_1 :
    ∃ (dt k : Nat) (s e : State), s.elapse dt = e ∧ k < 250 ∧ e.canLead = true ∧ (e.station k).state = 2 ∧ (∀ a ∈
    e.net.announced, ¬ (a.2.1 = k ∧ a.2.2.1 = 3)) ∧ e.since (e.station k).lastTick (fld (e.stEntry k) 0x1A 0 16 *
    Config.ticksPerMs) = true ∧ e.stPaired = false :=
  ⟨0, 3,
    after 125000000 ((put 0x000B 3 (7 + 2 ^ 23 + 0x0A000005 * 2 ^ 32 + 100 * 2 ^ 64 + 1 * 2 ^ 80 + 200 * 2 ^ 96 + 9 * 2 ^ 112 + 100 * 2 ^ 192 + 400 * 2 ^ 208) ((set [(0x0C20, 2 ^ 31)] (at_ .m6 .solo)).modPort 1 (fun q => { q with link := true }))).modStation 3 (fun x => { x with state := 2 })),
    _, rfl, by decide +kernel, by decide +kernel, by decide +kernel, by decide +kernel, by decide +kernel, by decide +kernel⟩

theorem test_NetworkRowsComplete_12_2 :
    ∃ (dt k : Nat) (s e : State), s.elapse dt = e ∧ k < 250 ∧ e.canLead = true ∧ (e.station k).state = 2 ∧ (∀ a ∈
    e.net.announced, ¬ (a.2.1 = k ∧ a.2.2.1 = 3)) ∧ e.since (e.station k).lastTick (fld (e.stEntry k) 0x1A 0 16 *
    Config.ticksPerMs) = true ∧ e.stPaired = true :=
  ⟨0, 3,
    after 125000000 ((put 0x000B 3 (7 + 2 ^ 23 + 0x0A000005 * 2 ^ 32 + 100 * 2 ^ 64 + 1 * 2 ^ 80 + 200 * 2 ^ 96 + 9 * 2 ^ 112 + 100 * 2 ^ 192 + 400 * 2 ^ 208) ((set [(0x0C20, 2 ^ 31)] (mate .m5 .standby (at_ .m4 .primary))).modPort 1 (fun q => { q with link := true }))).modStation 3 (fun x => { x with state := 2 })),
    _, rfl, by decide +kernel, by decide +kernel, by decide +kernel, by decide +kernel, by decide +kernel, by decide +kernel⟩

/-! TimeRowsComplete -/

theorem test_TimeRowsComplete_1_1 :
    ∃ (dt p : Nat) (offset : Int) (s e : State), s.elapse dt = e ∧ p < 2 ∧ e.ptpOn p = true ∧ e.clk.servoPort = p ∧
    e.timeFollows = true :=
  ⟨0, 1, 5,
    ((set [(0x0C20, 2 ^ 31), (0x0C60, 2 ^ 31)] (mate .m4 .primary (at_ .m5 .standby))).modPort 1 (fun q => { q with link := true })).modClk (fun c => { c with servoPort := 1, state := 2 }),
    _, rfl, by decide +kernel, by decide +kernel, by decide +kernel, by decide +kernel⟩

theorem test_TimeRowsComplete_1_2 :
    ∃ (dt p : Nat) (offset : Int) (s e : State), s.elapse dt = e ∧ p < 2 ∧ e.ptpOn p = true ∧ e.clk.servoPort = p ∧
    e.timeFollows = false ∧ e.clk.state = 2 ∧ e.clk.runLock = 15 ∧ offset.natAbs < 1000 :=
  ⟨0, 1, -999,
    ((set [(0x0C20, 2 ^ 31), (0x0C60, 2 ^ 31)] (at_ .m6 .solo)).modPort 1 (fun q => { q with link := true })).modClk (fun c => { c with servoPort := 1, state := 2, runLock := 15 }),
    _, rfl, by decide +kernel, by decide +kernel, by decide +kernel, by decide +kernel, by decide +kernel, by decide +kernel,
    by decide +kernel⟩

theorem test_TimeRowsComplete_1_3 :
    ∃ (dt p : Nat) (offset : Int) (s e : State), s.elapse dt = e ∧ p < 2 ∧ e.ptpOn p = true ∧ e.clk.servoPort = p ∧
    e.timeFollows = false ∧ e.clk.state = 3 ∧ e.clk.runLoss = 3 ∧ 10000 < offset.natAbs ∧ offset.natAbs ≤ 20000 :=
  ⟨0, 1, 15000,
    ((set [(0x0C20, 2 ^ 31), (0x0C60, 2 ^ 31)] (at_ .m6 .solo)).modPort 1 (fun q => { q with link := true })).modClk (fun c => { c with servoPort := 1, state := 3, runLoss := 3 }),
    _, rfl, by decide +kernel, by decide +kernel, by decide +kernel, by decide +kernel, by decide +kernel, by decide +kernel,
    by decide +kernel, by decide +kernel⟩

theorem test_TimeRowsComplete_1_4 :
    ∃ (dt p : Nat) (offset : Int) (s e : State), s.elapse dt = e ∧ p < 2 ∧ e.ptpOn p = true ∧ e.clk.servoPort = p ∧
    e.timeFollows = false ∧ e.clk.state = 2 ∧ e.clk.runAsk = 3 ∧ 20000 < offset.natAbs ∧ e.clk.corr = none ∧ e.clk.fresh =
    false ∧ offset.natAbs ≤ e.eff 0x0CA0 * 1000 :=
  ⟨0, 1, -30000,
    ((set [(0x0C20, 2 ^ 31), (0x0C60, 2 ^ 31)] (at_ .m6 .solo)).modPort 1 (fun q => { q with link := true })).modClk (fun c => { c with servoPort := 1, state := 2, runAsk := 3, fresh := false }),
    _, rfl, by decide +kernel, by decide +kernel, by decide +kernel, by decide +kernel, by decide +kernel, by decide +kernel,
    by decide +kernel, by decide +kernel, by decide +kernel, by decide +kernel⟩

theorem test_TimeRowsComplete_1_5 :
    ∃ (dt p : Nat) (offset : Int) (s e : State), s.elapse dt = e ∧ p < 2 ∧ e.ptpOn p = true ∧ e.clk.servoPort = p ∧
    e.timeFollows = false ∧ e.clk.state = 2 ∧ e.clk.runAsk = 3 ∧ 20000 < offset.natAbs ∧ e.clk.corr = none ∧ e.clk.fresh =
    false ∧ e.eff 0x0CA0 * 1000 < offset.natAbs :=
  ⟨0, 1, 3000000000,
    ((set [(0x0C20, 2 ^ 31), (0x0C60, 2 ^ 31)] (at_ .m6 .solo)).modPort 1 (fun q => { q with link := true })).modClk (fun c => { c with servoPort := 1, state := 2, runAsk := 3, fresh := false }),
    _, rfl, by decide +kernel, by decide +kernel, by decide +kernel, by decide +kernel, by decide +kernel, by decide +kernel,
    by decide +kernel, by decide +kernel, by decide +kernel, by decide +kernel⟩

theorem test_TimeRowsComplete_2 :
    ∃ (dt p : Nat) (a : AnnIn) (s e : State), s.elapse dt = e ∧ p < 2 ∧ e.ptpOn p = true ∧ a.state ≠ 6 ∧ tlook e.clk.masters
    (1 - p) = none :=
  ⟨0, 1, ⟨5, 77, 1, 37, 9⟩,
    ((set [(0x0C20, 2 ^ 31), (0x0C60, 2 ^ 31)] (at_ .m6 .solo)).modPort 1 (fun q => { q with link := true })).modClk (fun c => { c with servoPort := 1, state := 1 }),
    _, rfl, by decide +kernel, by decide +kernel, by decide +kernel, by decide +kernel⟩

theorem test_TimeRowsComplete_3 :
    ∃ (dt p : Nat) (m : Nat × Nat × Nat) (s e : State), s.elapse dt = e ∧ p < 2 ∧ tlook e.clk.masters p = some m ∧ tlook
    e.clk.masters (1 - p) = none ∧ e.since (tget e.clk.lastPtp p 0) e.annTimeout = true :=
  ⟨0, 1, (5, 77, 1),
    after (2 ^ 34) (((set [(0x0C20, 2 ^ 31), (0x0C60, 2 ^ 31)] (at_ .m6 .solo)).modPort 1 (fun q => { q with link := true })).modClk (fun c => { c with servoPort := 1, state := 2, masters := [(1, (5, 77, 1))] })),
    _, rfl, by decide +kernel, by decide +kernel, by decide +kernel, by decide +kernel⟩

theorem test_TimeRowsComplete_4 :
    ∃ (dt p : Nat) (delay : U32) (s e : State), s.elapse dt = e ∧ p < 2 ∧ e.ptpOn p = true ∧ e.clk.servoPort = p :=
  ⟨0, 1, 5,
    ((set [(0x0C20, 2 ^ 31), (0x0C60, 2 ^ 31)] (at_ .m6 .solo)).modPort 1 (fun q => { q with link := true })).modClk (fun c => { c with servoPort := 1, state := 2 }),
    _, rfl, by decide +kernel, by decide +kernel, by decide +kernel⟩

theorem test_TimeRowsComplete_5 :
    ∃ (dt : Nat) (s e : State), s.elapse dt = e ∧ e.clk.slewing = true ∧ e.clk.slewRem = 0 :=
  ⟨0, (at_ .m6).modClk (fun c => { c with slewing := true }), _, rfl, by decide +kernel, by decide +kernel⟩

theorem test_TimeRowsComplete_6 :
    ∃ (dt : Nat) (c : Correction) (w : Int) (s e : State), s.elapse dt = e ∧ e.clk.corr = some c ∧ e.atFrame = true ∧ c.f ≤
    e.now ∧ w = wholePart c.c :=
  ⟨0, ⟨1200000, 0, 1, none⟩, _, (at_ .m6).modClk (fun c => { c with corr := some ⟨1200000, 0, 1, none⟩ }), _, rfl,
    by decide +kernel, by decide +kernel, by decide +kernel, rfl⟩

theorem test_TimeRowsComplete_7 :
    ∃ (dt : Nat) (p : Packet) (x : Session) (s e : State), s.elapse dt = e ∧ Accepted timeAcceptCmd e p x :=
  ⟨0, ask 0x0080 (beBytes 8 (2 ^ 40)) 0, sess 3, (on .m6 .solo).modClk (fun c => { c with state := 4, pendingStep := 5000000 }),
    _, rfl, accepted_sealed (by decide +kernel)⟩

theorem test_TimeRowsComplete_8 :
    ∃ (dt : Nat) (p : Packet) (x : Session) (row : CmdRow) (s e : State), s.elapse dt = e ∧ InSession e p x ∧ (reqOf p).code =
    0x0080 ∧ e.boxFree (reqOf p).box = true ∧ (reqOf p).ver = 1 ∧ (p.via = .plant → (reqOf p).box ≠ 15) ∧ x.unsetKey = false ∧
    cmdRow 0x0080 = some row ∧ (∀ l, row.level = some l → l ≤ x.level) ∧ (e.mode = .m4 ∨ e.mode = .m5) ∧ e.role = .primary ∧
    timeAcceptCmd.check (reqOf p) ((e.noted p x).latch (reqOf p)) x.level row.modes = none :=
  ⟨0, ask 0x0080 (beBytes 8 (2 ^ 40)) 0, sess 3, (cmdRow 0x0080).get (by decide +kernel),
    (with_ (sess 3) (mate .m5 .standby (at_ .m4 .primary))).modClk (fun c => { c with state := 4, pendingStep := 5000000 }), _,
    rfl, inSession_sealed (by decide +kernel), by decide +kernel, by decide +kernel, by decide +kernel, by decide +kernel,
    by decide +kernel, rfl, (by intro l h; have h : (some 2 : Option Nat) = some l := h; cases h; decide +kernel),
    by decide +kernel, by decide +kernel, by decide +kernel⟩

/-! CanRowsComplete -/

theorem test_CanRowsComplete_1_1 :
    ∃ (dt c id : Nat) (data : List Byte) (s e : State), s.elapse dt = e ∧ c < 4 ∧ e.canOn c = true ∧ e.canFilter c id = none :=
  ⟨0, 2, 0x123, [1#8], (at_ .m6 .solo).modCan 2 (fun h => { h with cfg := some (2 ^ 31, 0, 0, 0, 0) }), _, rfl,
    by decide +kernel, by decide +kernel, by decide +kernel⟩

theorem test_CanRowsComplete_1_2 :
    ∃ (dt c id : Nat) (data : List Byte) (s e : State), s.elapse dt = e ∧ c < 4 ∧ e.canOn c = true :=
  ⟨0, 2, 0x123, [1#8], (at_ .m6 .solo).modCan 2 (fun h => { h with cfg := some (2 ^ 31, 0, 0, 0, 0) }), _, rfl,
    by decide +kernel, by decide +kernel⟩

theorem test_CanRowsComplete_2 :
    ∃ (dt c b sof : Nat) (k : CanBuf) (s e : State), s.elapse dt = e ∧ c < 4 ∧ b < 64 ∧ (e.canCh c).busOff = none ∧ tget
    (e.canCh c).buf b none = some k :=
  ⟨0, 2, 9, 5, ⟨0x123, 0, [1#8], 0, none, none⟩,
    (at_ .m6 .solo).modCan 2 (fun h => { h with cfg := some (2 ^ 31, 0, 0, 0, 0), buf := [(9, some ⟨0x123, 0, [1#8], 0, none, none⟩)] }),
    _, rfl, by decide +kernel, by decide +kernel, by decide +kernel, by decide +kernel⟩

theorem test_CanRowsComplete_3_1 :
    ∃ (dt c tec rec_ code : Nat) (s e : State), s.elapse dt = e ∧ c < 4 ∧ e.canActive c = true ∧ tec ≤ 255 :=
  ⟨0, 2, 200, 3, 1, (at_ .m6 .solo).modCan 2 (fun h => { h with cfg := some (2 ^ 31, 0, 0, 0, 0) }), _, rfl, by decide +kernel,
    by decide +kernel, by decide +kernel⟩

theorem test_CanRowsComplete_3_2 :
    ∃ (dt c tec rec_ code : Nat) (s e : State), s.elapse dt = e ∧ c < 4 ∧ e.canActive c = true ∧ 255 < tec :=
  ⟨0, 2, 256, 3, 1, (at_ .m6 .solo).modCan 2 (fun h => { h with cfg := some (2 ^ 31, 0, 0, 0, 0) }), _, rfl, by decide +kernel,
    by decide +kernel, by decide +kernel⟩

theorem test_CanRowsComplete_4 :
    ∃ (dt c k : Nat) (s e : State), s.elapse dt = e ∧ c < 4 ∧ (e.canCh c).busOff = some k ∧ (e.canCh c).recovering = true :=
  ⟨0, 2, 7,
    (at_ .m6 .solo).modCan 2 (fun h => { h with cfg := some (2 ^ 31, 0, 0, 0, 0), busOff := some 7, recovering := true }), _, rfl,
    by decide +kernel, by decide +kernel, by decide +kernel⟩

theorem test_CanRowsComplete_5 :
    ∃ (dt c b : Nat) (k : CanBuf) (s e : State), s.elapse dt = e ∧ c < 4 ∧ b < 64 ∧ tget (e.canCh c).buf b none = some k ∧
    k.next = none ∧ e.since k.since ((e.canCh c).timeout * Config.ticksPerMs) = true :=
  ⟨0, 2, 9, ⟨0x123, 0, [1#8], 0, none, none⟩,
    after (2 ^ 32) ((at_ .m6 .solo).modCan 2 (fun h => { h with cfg := some (2 ^ 31, 0, 0, 0, 0), buf := [(9, some ⟨0x123, 0, [1#8], 0, none, none⟩)] })),
    _, rfl, by decide +kernel, by decide +kernel, by decide +kernel, by decide +kernel, by decide +kernel⟩

theorem test_CanRowsComplete_6 :
    ∃ (dt c b : Nat) (p : Packet) (x : Session) (s e : State), s.elapse dt = e ∧ Accepted canSendCmd e p x ∧ c = beAt (reqOf
    p).body 0 1 ∧ e.canFreeBuf c = some b :=
  ⟨0, _, 48, ask 0x0075 ([2#8, 0#8, 2#8, 0#8] ++ beBytes 4 0x123 ++ [1#8, 2#8]) 0, sess 3,
    (on .m6 .solo).modCan 2 (fun h => { h with cfg := some (2 ^ 31, 0, 0, 0, 0) }), _, rfl, accepted_sealed (by decide +kernel),
    rfl, by decide +kernel⟩

theorem test_CanRowsComplete_7_1 :
    ∃ (dt : Nat) (p : Packet) (begun : Bool) (x : Session) (s e : State), s.elapse dt = e ∧ Accepted (canCancelCmd begun) e p
    x ∧ (∀ c < 4, ∀ b k i, (b, some k) ∈ (e.canCh c).buf → k.op ≠ some (i, (reqOf p).session, beAt (reqOf p).body 0 2)) :=
  ⟨0, ask 0x0076 (beBytes 2 5 ++ beBytes 2 0) 0, false, sess 3,
    (on .m6 .solo).modCan 2 (fun h => { h with cfg := some (2 ^ 31, 0, 0, 0, 0) }), _, rfl, accepted_sealed (by decide +kernel),
    (by intro c hc b k i h; match c, hc, h with | 0, _, h => exact nomatch h | 1, _, h => exact nomatch h | 2, _, h => exact nomatch h | 3, _, h => exact nomatch h)⟩

theorem test_CanRowsComplete_7_2 :
    ∃ (dt : Nat) (p : Packet) (begun : Bool) (x : Session) (s e : State), s.elapse dt = e ∧ Accepted (canCancelCmd begun) e p
    x :=
  ⟨0, ask 0x0076 (beBytes 2 5 ++ beBytes 2 0) 0, true, sess 3,
    (on .m6 .solo).modCan 2 (fun h => { h with cfg := some (2 ^ 31, 0, 0, 0, 0) }), _, rfl, accepted_sealed (by decide +kernel)⟩

theorem test_CanRowsComplete_8 :
    ∃ (dt c : Nat) (p : Packet) (x : Session) (s e : State), s.elapse dt = e ∧ Accepted canRecoverCmd e p x ∧ c = beAt (reqOf
    p).body 0 1 :=
  ⟨0, _, ask 0x0077 ([2#8, 0#8, 0#8, 0#8]) 0, sess 3,
    (on .m6 .solo).modCan 2 (fun h => { h with cfg := some (2 ^ 31, 0, 0, 0, 0), busOff := some 7 }), _, rfl,
    accepted_sealed (by decide +kernel), rfl⟩

/-! PanelRowsComplete -/

theorem test_PanelRowsComplete_1_1 :
    ∃ (dt f : Nat) (s e : State), s.elapse dt = e ∧ e.has .pnl = true ∧ e.mode ≠ .m0 ∧ e.mode ≠ .m1 ∧ e.mode ≠ .m11 ∧ e.onGrid
    20000000 = true ∧ f = e.now / 20000000 ∧ e.pnl.frame ≠ some f :=
  ⟨0, _, at_ .m6 .solo, _, rfl, by decide +kernel, by decide +kernel, by decide +kernel, by decide +kernel, by decide +kernel,
    rfl, by decide +kernel⟩

theorem test_PanelRowsComplete_1_2 :
    ∃ (dt f : Nat) (s e : State), s.elapse dt = e ∧ e.has .pnl = true ∧ e.mode ≠ .m0 ∧ e.mode ≠ .m1 ∧ e.mode ≠ .m11 ∧ e.onGrid
    20000000 = true ∧ f = e.now / 20000000 ∧ e.pnl.frame ≠ some f ∧ e.eff 0x0EC8 = 1 ∧ e.onGrid (e.eff 0x0EC9 * 1000000) =
    true :=
  ⟨0, _, set [(0x0EC8, 1)] (at_ .m6 .solo), _, rfl, by decide +kernel, by decide +kernel, by decide +kernel, by decide +kernel,
    by decide +kernel, rfl, by decide +kernel, by decide +kernel, by decide +kernel⟩

theorem test_PanelRowsComplete_2_1 :
    ∃ (dt r f : Nat) (s e : State), s.elapse dt = e ∧ r < 8 ∧ e.has .pnl = true ∧ e.mode ≠ .m0 ∧ e.mode ≠ .m1 ∧ e.mode ≠ .m11
    ∧ e.onGrid 20000000 = true ∧ f = e.now / 20000000 ∧ e.pnl.frame ≠ some f ∧ bit (e.eff (0x0E80 + 8 * r)) 31 = false :=
  ⟨0, 3, _, set [(0x0E98, 0)] (at_ .m6 .solo), _, rfl, by decide +kernel, by decide +kernel, by decide +kernel,
    by decide +kernel, by decide +kernel, by decide +kernel, rfl, by decide +kernel, by decide +kernel⟩

theorem test_PanelRowsComplete_3_1 :
    ∃ (dt v lo hi : Nat) (s e : State), s.elapse dt = e ∧ e.has .pnl = true ∧ e.mode ≠ .m0 ∧ e.onGrid 1000000000 = true ∧
    e.pnl.tempAt ≠ some (e.now / 1000000000) ∧ e.panelT = some v ∧ lo = fadd fmt64 (e.effF 0x0EC2) (fmul fmt64 (ofInt fmt64
    e.panelBand) (e.effF 0x0EC3)) ∧ hi = fadd fmt64 lo (e.effF 0x0EC3) ∧ flt fmt64 (f32to64 v) (fsub fmt64 lo (e.effF 0x0EC4))
    = false ∧ flt fmt64 (fadd fmt64 hi (e.effF 0x0EC4)) (f32to64 v) = false :=
  ⟨0, f32 25 1, _, _, (at_ .m6 .solo) |> fun s => { s with ai := { s.ai with cj := f32 25 1 } }, _, rfl, by decide +kernel,
    by decide +kernel, by decide +kernel, by decide +kernel, by decide +kernel, rfl, rfl, by decide +kernel, by decide +kernel⟩

theorem test_PanelRowsComplete_3_2 :
    ∃ (dt v lo hi : Nat) (s e : State), s.elapse dt = e ∧ e.has .pnl = true ∧ e.mode ≠ .m0 ∧ e.onGrid 1000000000 = true ∧
    e.pnl.tempAt ≠ some (e.now / 1000000000) ∧ e.panelT = some v ∧ lo = fadd fmt64 (e.effF 0x0EC2) (fmul fmt64 (ofInt fmt64
    e.panelBand) (e.effF 0x0EC3)) ∧ hi = fadd fmt64 lo (e.effF 0x0EC3) ∧ (flt fmt64 (f32to64 v) (fsub fmt64 lo (e.effF
    0x0EC4)) = true ∨ flt fmt64 (fadd fmt64 hi (e.effF 0x0EC4)) (f32to64 v) = true) :=
  ⟨0, f32 70 1, _, _, (at_ .m6 .solo) |> fun s => { s with ai := { s.ai with cj := f32 70 1 } }, _, rfl, by decide +kernel,
    by decide +kernel, by decide +kernel, by decide +kernel, by decide +kernel, rfl, rfl, by decide +kernel⟩

theorem test_PanelRowsComplete_4 :
    ∃ (dt k v : Nat) (s e : State), s.elapse dt = e ∧ k < 2 ∧ e.has .pnl = true ∧ (v < 108 ∨ 132 < v) ∧ e.pnl.good.getD k
    false = true :=
  ⟨0, 1, 133, (at_ .m6 .solo).modPnl (fun p => { p with good := [true, true] }), _, rfl, by decide +kernel, by decide +kernel,
    by decide +kernel, by decide +kernel⟩

theorem test_PanelRowsComplete_5 :
    ∃ (dt k v : Nat) (s e : State), s.elapse dt = e ∧ k < 2 ∧ e.has .pnl = true ∧ 108 ≤ v ∧ v ≤ 132 :=
  ⟨0, 1, 108, at_ .m6 .solo, _, rfl, by decide +kernel, by decide +kernel, by decide +kernel, by decide +kernel⟩

theorem test_PanelRowsComplete_6_1 :
    ∃ (dt r : Nat) (p : Packet) (x : Session) (s e : State), s.elapse dt = e ∧ Accepted panelUpdateCmd e p x ∧ r < 8 ∧ bit
    (beAt (reqOf p).body 0 1) r = true ∧ (e.region r).queued = none ∧ beAt (reqOf p).body 1 1 = 1 :=
  ⟨0, 3, ask 0x0078 ([8#8, 1#8, 0#8, 0#8]) 0, sess 3,
    set [(0x0E05, 2 ^ 63 + 3 * 2 ^ 60)] ((on .m6 .solo).modPnl (fun p => { p with good := [true, true] })), _, rfl,
    accepted_sealed (by decide +kernel), by decide +kernel, by decide +kernel, by decide +kernel, by decide +kernel⟩

theorem test_PanelRowsComplete_6_2 :
    ∃ (dt r : Nat) (p : Packet) (x : Session) (s e : State), s.elapse dt = e ∧ Accepted panelUpdateCmd e p x ∧ r < 8 ∧ bit
    (beAt (reqOf p).body 0 1) r = true ∧ (e.region r).queued = none ∧ beAt (reqOf p).body 1 1 = 2 :=
  ⟨0, 3, ask 0x0078 ([8#8, 2#8, 0#8, 0#8]) 0, sess 3,
    set [(0x0E05, 2 ^ 63 + 3 * 2 ^ 60)] ((on .m6 .solo).modPnl (fun p => { p with good := [true, true] })), _, rfl,
    accepted_sealed (by decide +kernel), by decide +kernel, by decide +kernel, by decide +kernel, by decide +kernel⟩

end Sys2Proof.Tests
end

