-- ==== Sys2Proof/Tests/Witness6.lean ====
section
/-!
SUPPORT. For each hypothesis set of these statements a concrete state and operands that meet it: FirmwareRowsComplete,
MailboxTimerRowsComplete, FrameBoundaryRowCompletes, BadMailboxFramesAreCounted, UnauthenticatedFramesAreCounted,
KeysOpenSessions, MailboxAddressing, RetransmissionRepeatsTheResponse, RefusedRequestsChangeNothing, ForwardedRequests,
PairEffectiveCommandsAreScheduled, BadAndRepeatedLaneFrames, FirmwareSlotChosenAtSelfTest, EventClear, SetKey,
SetModeOutsideTheTable, NoEntryFiresOutsideRunModes.
-/
namespace Sys2Proof.Tests
set_option Elab.async false
set_option linter.unusedVariables false
open Sys2Proof Sys2Proof.Machine

/-! FirmwareRowsComplete -/

theorem test_FirmwareRowsComplete_1_2 :
    ∃ (dt k : Nat) (p : Packet) (x : Session) (s e : State), s.elapse dt = e ∧ Accepted updateBeginCmd e p x ∧ k = beAt (reqOf
    p).body 0 1 :=
  ⟨0, 1, ask 0x0090 ([1#8, 1#8, 0#8, 0#8] ++ fwDelivered) 0, sess 3, on .m6, _, rfl, accepted_sealed (by decide +kernel),
    by decide +kernel⟩

theorem test_FirmwareRowsComplete_1_3 :
    ∃ (dt k : Nat) (p : Packet) (x : Session) (s e : State), s.elapse dt = e ∧ Accepted updateBeginCmd e p x ∧ k = beAt (reqOf
    p).body 0 1 ∧ beAt (reqOf p).body 1 1 = 0 :=
  ⟨0, 1, ask 0x0090 ([1#8, 0#8, 0#8, 0#8]) 0, sess 3,
    (on .m6 .solo).modFw 1 (fun x => { x with state := 1, header := fwDelivered, owner := some 7 }), _, rfl,
    accepted_sealed (by decide +kernel), by decide +kernel, by decide +kernel⟩

theorem test_FirmwareRowsComplete_2 :
    ∃ (dt k : Nat) (p : Packet) (x : Session) (s e : State), s.elapse dt = e ∧ Accepted updateBlockCmd e p x ∧ e.updateOf
    (reqOf p).session = some k ∧ (reqOf p).arg = 256 + (e.fwSlot k).body.length ∧ (reqOf p).arg + (reqOf p).body.length ≤
    fwLength (e.fwSlot k).header :=
  ⟨0, 1, ask 0x0091 ([9#8]) 256, sess 3,
    (on .m6 .solo).modFw 1 (fun x => { x with state := 1, header := fwDelivered, owner := some 7 }), _, rfl,
    accepted_sealed (by decide +kernel), by decide +kernel, by decide +kernel, by decide +kernel⟩

theorem test_FirmwareRowsComplete_3 :
    ∃ (dt k : Nat) (p : Packet) (x : Session) (s e : State), s.elapse dt = e ∧ Accepted updateVerifyCmd e p x ∧ k = beAt
    (reqOf p).body 0 1 :=
  ⟨0, 1, ask 0x0092 ([1#8, 0#8, 0#8, 0#8]) 0, sess 3,
    (on .m6 .solo).modFw 1 (fun x => { x with state := 2, header := fwDelivered, owner := some 7 }), _, rfl,
    accepted_sealed (by decide +kernel), by decide +kernel⟩

theorem test_FirmwareRowsComplete_4_1 :
    ∃ (dt k b : Nat) (op : Option Nat) (s e : State), s.elapse dt = e ∧ k < 2 ∧ (e.fwSlot k).verify = some (op, b) ∧ sha256
    (e.fwSlot k).body = slice (e.fwSlot k).header 0x20 32 :=
  ⟨0, 1, 0, some 5,
    (on .m6 .solo).modFw 1 (fun x => { x with state := 3, header := fwDelivered.take 32 ++ sha256 [] ++ List.replicate 192 0#8, verify := some (some 5, 0) }),
    _, rfl, by decide +kernel, by decide +kernel, by decide +kernel⟩

theorem test_FirmwareRowsComplete_4_2 :
    ∃ (dt k b : Nat) (op : Option Nat) (s e : State), s.elapse dt = e ∧ k < 2 ∧ (e.fwSlot k).verify = some (op, b) ∧ sha256
    (e.fwSlot k).body ≠ slice (e.fwSlot k).header 0x20 32 :=
  ⟨0, 1, 0, some 5, (on .m6 .solo).modFw 1 (fun x => { x with state := 3, header := fwDelivered, verify := some (some 5, 0) }),
    _, rfl, by decide +kernel, by decide +kernel, by decide +kernel⟩

theorem test_FirmwareRowsComplete_5 :
    ∃ (dt k : Nat) (s e : State), s.elapse dt = e ∧ k < 2 ∧ (e.fwSlot k).owner ≠ none ∧ (e.fwSlot k).verify = none ∧ e.since
    (e.fwSlot k).lastTick (600 * Config.ticksPerSecond) = true :=
  ⟨0, 1,
    after (600 * 125000000) ((on .m6 .solo).modFw 1 (fun x => { x with state := 1, header := fwDelivered, owner := some 7 })), _,
    rfl, by decide +kernel, by decide +kernel, by decide +kernel, by decide +kernel⟩

theorem test_FirmwareRowsComplete_6 :
    ∃ (dt k : Nat) (p : Packet) (x : Session) (s e : State), s.elapse dt = e ∧ Accepted activateCmd e p x ∧ k = beAt (reqOf
    p).body 0 1 ∧ (e.tk.active = 0xFF ∨ (e.progSlot e.tk.active).minFeature ≤ leAt (e.fwSlot k).header 0x14 2) :=
  ⟨0, 1, ask 0x0093 ([1#8, 0#8, 0#8, 0#8]) 0, sess 3,
    (on .m6 .solo).modFw 1 (fun x => { x with state := 4, header := fwDelivered }), _, rfl, accepted_sealed (by decide +kernel),
    by decide +kernel, by decide +kernel⟩

theorem test_FirmwareRowsComplete_7_1 :
    ∃ (dt b : Nat) (a : Activation) (s e : State), s.elapse dt = e ∧ e.mode = .m9 ∧ e.fw.act = some a ∧ a.since = some b ∧
    a.failed = false ∧ (∀ i, e.cfg.committed = some i → (e.runFirmware a.slot).fwSchema ≤ i.schema) :=
  ⟨0, 0, ⟨1, some 5, some 0, false⟩,
    ((at_ .m9).modFw 1 (fun x => { x with state := 4, header := fwDelivered })) |> fun s => { s with fw := { s.fw with act := some ⟨1, some 5, some 0, false⟩ } },
    _, rfl, by decide +kernel, by decide +kernel, by decide +kernel, by decide +kernel, (by intro i h; exact nomatch h)⟩

theorem test_FirmwareRowsComplete_7_2 :
    ∃ (dt b : Nat) (a : Activation) (s e : State), s.elapse dt = e ∧ e.mode = .m9 ∧ e.fw.act = some a ∧ a.since = some b ∧
    a.failed = true :=
  ⟨0, 0, ⟨1, some 5, some 0, true⟩,
    ((at_ .m9).modFw 1 (fun x => { x with state := 4, header := fwDelivered })) |> fun s => { s with fw := { s.fw with act := some ⟨1, some 5, some 0, true⟩ } },
    _, rfl, by decide +kernel, by decide +kernel, by decide +kernel, by decide +kernel⟩

theorem test_FirmwareRowsComplete_7_3 :
    ∃ (dt b : Nat) (a : Activation) (s e : State), s.elapse dt = e ∧ e.mode = .m9 ∧ e.fw.act = some a ∧ a.since = some b :=
  ⟨0, 0, ⟨1, some 5, some 0, false⟩,
    ((at_ .m9).modFw 1 (fun x => { x with state := 4, header := fwDelivered })) |> fun s => { s with fw := { s.fw with act := some ⟨1, some 5, some 0, false⟩ } },
    _, rfl, by decide +kernel, by decide +kernel, by decide +kernel⟩

theorem test_FirmwareRowsComplete_7_4 :
    ∃ (dt b : Nat) (a : Activation) (s e : State), s.elapse dt = e ∧ e.mode = .m9 ∧ e.fw.act = some a ∧ a.since = some b ∧
    e.since b (350 * Config.ticksPerMs) = true :=
  ⟨0, 0, ⟨1, some 5, some 0, true⟩,
    after (350 * 125000) (((at_ .m9).modFw 1 (fun x => { x with state := 4, header := fwDelivered })) |> fun s => { s with fw := { s.fw with act := some ⟨1, some 5, some 0, true⟩ } }),
    _, rfl, by decide +kernel, by decide +kernel, by decide +kernel, by decide +kernel⟩

theorem test_FirmwareRowsComplete_8 :
    ∃ (dt : Nat) (p : Packet) (x : Session) (s e : State), s.elapse dt = e ∧ Accepted rollbackCmd e p x :=
  ⟨0, ask 0x0094 ([]) 0, sess 3, (on .m10).modFw 1 (fun x => { x with state := 4, header := fwDelivered }), _, rfl,
    accepted_sealed (by decide +kernel)⟩

/-- The causes of R508 but for the signature check, whose outcome is given. -/
def headerCause (s : State) (h : List Byte) (signed : Bool) : Option Nat :=
  [(1, slice h 0 4 != [0x49#8, 0x53#8, 0x46#8, 0x57#8] || leAt h 4 2 != 1 || leAt h 6 2 != 256 || leAt h 0x1E 2 != 0 ||
      !allZero (slice h 0x40 64) || !allZero (slice h 0xC0 64)),
    (2, leAt h 8 4 != 7240),
    (3, !bit (leAt h 0x0C 4) (s.ident.hwRev.toNat / 256)),
    (4, decide (fwLength h < 4096 ∨ 268435456 < fwLength h)),
    (5, decide (leAt h 0x12 2 < s.schemaInUse)),
    (6, decide (3 < leAt h 0x1C 2)),
    (7, !signed),
    (8, decide (leAt h 0x14 2 < s.tk.slotA.minFeature ∨ leAt h 0x14 2 < s.tk.slotB.minFeature))].findSome?
    (fun (c, failed) => if failed then some c else none)

/-- An UPDATE_BEGIN of the image the module was delivered with, for FW-B; its signature is a free value of Config. -/
theorem test_FirmwareRowsComplete_1_1
    (hs : Config.fwSigOk (fwDelivered.take 128) (leAt fwDelivered 0x1C 2) (slice fwDelivered 0x80 64) = true) :
    ∃ (dt k : Nat) (p : Packet) (x : Session) (s e : State), s.elapse dt = e ∧ Accepted updateBeginCmd e p x ∧
      k = beAt (reqOf p).body 0 1 ∧ beAt (reqOf p).body 1 1 = 1 ∧ e.fwHeaderCause ((reqOf p).body.drop 4) = none := by
  refine ⟨0, _, ask 0x0090 ([1#8, 1#8, 0#8, 0#8] ++ fwDelivered), sess 3, on .m6 .solo, _, rfl,
    accepted_sealed (by decide +kernel), rfl, by decide +kernel, ?_⟩
  have hb : (reqOf (ask 0x0090 ([1#8, 1#8, 0#8, 0#8] ++ fwDelivered))).body = [1#8, 1#8, 0#8, 0#8] ++ fwDelivered := by
    unfold ask frame
    rw [reqOf_sealed _ _ _ (by decide +kernel)]
    rfl
  have hd : ∀ (s : State) (h : List Byte), s.fwHeaderCause h =
      headerCause s h (Config.fwSigOk (h.take 128) (leAt h 0x1C 2) (slice h 0x80 64)) := fun _ _ => rfl
  rw [hb, hd, show ([1#8, 1#8, 0#8, 0#8] ++ fwDelivered).drop 4 = fwDelivered from rfl, hs]
  decide +kernel

/-! MailboxTimerRowsComplete -/

theorem test_MailboxTimerRowsComplete_1 :
    ∃ (dt box : Nat) (f : Forward) (s e : State), s.elapse dt = e ∧ box < 16 ∧ (tget e.mbx.boxes box {}).fwd = some f ∧
    e.since f.since (10 * Config.ticksPerMs) = true ∧ e.mbx.restarting = none :=
  ⟨0, 3, ⟨.service, 9, 50000, 7, 1, [], 0⟩,
    (after (10 * 125000) (at_ .m6)) |> fun s => { s with mbx := { s.mbx with boxes := [(3, { fwd := some ⟨.service, 9, 50000, 7, 1, [], 0⟩ })] } },
    _, rfl, by decide +kernel, by decide +kernel, by decide +kernel, by decide +kernel⟩

theorem test_MailboxTimerRowsComplete_2 :
    ∃ (dt : Nat) (s e : State), s.elapse dt = e :=
  ⟨0, at_ .m6, _, rfl⟩

theorem test_MailboxTimerRowsComplete_3 :
    ∃ (dt : Nat) (id : U32) (x : Session) (s e : State), s.elapse dt = e ∧ e.session id = some x ∧ e.since x.lastTick (e.eff
    0x0144 * Config.ticksPerSecond) = true :=
  ⟨0, 7, sess 3, after (2 ^ 50) (on .m6), _, rfl, by decide +kernel, by decide +kernel⟩

theorem test_MailboxTimerRowsComplete_4 :
    ∃ (dt : Nat) (via : Via) (addr : U32) (s e : State), s.elapse dt = e :=
  ⟨0, .plant, 9, at_ .m6, _, rfl⟩

theorem test_MailboxTimerRowsComplete_5_1 :
    ∃ (dt k : Nat) (id : U32) (h : Hold) (s e : State), s.elapse dt = e ∧ e.ev.holds.find? (fun h => h.session == id && h.ev
    == k) = some h ∧ h.ends ≤ e.tick ∧ h.again = false :=
  ⟨0, 20, 7, ⟨7, 20, 5, false⟩, (after 10 (on .m6)) |> fun s => { s with ev := { s.ev with holds := [⟨7, 20, 5, false⟩] } }, _,
    rfl, by decide +kernel, by decide +kernel, by decide +kernel⟩

theorem test_MailboxTimerRowsComplete_5_2 :
    ∃ (dt k : Nat) (id : U32) (h : Hold) (s e : State), s.elapse dt = e ∧ e.ev.holds.find? (fun h => h.session == id && h.ev
    == k) = some h ∧ h.ends ≤ e.tick :=
  ⟨0, 20, 7, ⟨7, 20, 5, true⟩, (after 10 (on .m6)) |> fun s => { s with ev := { s.ev with holds := [⟨7, 20, 5, true⟩] } }, _,
    rfl, by decide +kernel, by decide +kernel⟩

/-! FrameBoundaryRowCompletes -/

theorem test_FrameBoundaryRowCompletes_1 :
    ∃ (dt rb : Nat) (s e : State), s.elapse dt = e ∧ e.atFrame = true ∧ e.mode ≠ .m0 ∧ e.mu.auto = none ∧ e.cfg.applyDiscard =
    false ∧ e.cfg.applyCommitted = false ∧ e.tk.switch = none :=
  ⟨0, 5, at_ .m6, _, rfl, by decide +kernel, by decide +kernel, by decide +kernel, by decide +kernel, by decide +kernel,
    by decide +kernel⟩

theorem test_FrameBoundaryRowCompletes_2 :
    ∃ (dt rb cause f : Nat) (m : Mode) (r : Role) (s e : State), s.elapse dt = e ∧ e.atFrame = true ∧ e.mode ≠ .m0 ∧ e.mu.auto
    = some ⟨m, r, cause, f⟩ ∧ f ≤ e.now ∧ e.copying = false ∧ m ≠ .m0 ∧ e.cfg.applyDiscard = false ∧ e.cfg.applyCommitted =
    false :=
  ⟨0, 5, 7, 0, .m10, .none, (at_ .m6).modMu (fun u => { u with auto := some ⟨.m10, .none, 7, 0⟩ }), _, rfl, by decide +kernel,
    by decide +kernel, by decide +kernel, by decide +kernel, by decide +kernel, by decide +kernel, by decide +kernel,
    by decide +kernel⟩

/-! BadMailboxFramesAreCounted -/

theorem test_BadMailboxFramesAreCounted_1 :
    ∃ (i : Instr) (dt : Nat) (p : Packet) (s e t : State), mailOf i = some (dt, p) ∧ s.elapse dt = e ∧ (p.off = 0 ∧
    p.data.length = p.total) ∧ e.mailboxSilent = false ∧ (p.via = .service ∨ e.eff 0x0145 ≠ 0) ∧ (p.via = .plant → e.mu.slot ≠
    0xFF) ∧ e.lockedOut p.via p.addr = false ∧ (p.data.length < 48 ∨ beAt p.data 0x0C 2 ≠ p.data.length - 48 ∨ beAt p.data 0 1
    ≠ 1 ∨ beAt p.data 1 1 / 16 % 8 ≠ 0 ∨ bit (beAt p.data 7 1) 1 = true ∨ bit (beAt p.data 7 1) 2 = true ∨ beAt p.data 7 1 / 8
    ≠ 0 ∨ beAt p.data 0x0B 1 ≠ 0 ∨ beAt p.data 0x0E 2 ≠ 0 ∨ beAt p.data 0x1C 4 ≠ 0) ∧ exec i s = .next t :=
  let ⟨t, ht⟩ := next_ex (exec (.identify 0 (whole [1#8])) (at_ .m6)) (by decide +kernel)
  ⟨.identify 0 (whole [1#8]), 0, whole [1#8], at_ .m6, _, t, by decide +kernel, rfl, by decide +kernel, by decide +kernel,
    by decide +kernel, by decide +kernel, by decide +kernel, by decide +kernel, ht⟩

theorem test_BadMailboxFramesAreCounted_2 :
    ∃ (dt : Nat) (p : Packet) (s e : State), s.elapse dt = e ∧ (p.off = 0 ∧ p.data.length = p.total) ∧ e.mailboxSilent = false
    ∧ (p.via = .service ∨ e.eff 0x0145 ≠ 0) ∧ (p.via = .plant → e.mu.slot ≠ 0xFF) ∧ e.lockedOut p.via p.addr = false ∧
    p.data.length < 48 :=
  ⟨0, whole [1#8], at_ .m6, _, rfl, by decide +kernel, by decide +kernel, by decide +kernel, by decide +kernel,
    by decide +kernel, by decide +kernel⟩

/-! UnauthenticatedFramesAreCounted -/

theorem test_UnauthenticatedFramesAreCounted_1_1 :
    ∃ (i : Instr) (dt : Nat) (p : Packet) (s e t : State), mailOf i = some (dt, p) ∧ s.elapse dt = e ∧ Heard e p ∧ (reqOf
    p).code ≠ 0x0001 ∧ (reqOf p).code ≠ 0x0010 ∧ (e.session (reqOf p).session = none ∨ ∃ x, e.session (reqOf p).session = some
    x ∧ (x.via ≠ p.via ∨ x.addr ≠ p.addr ∨ (hmac x.key ((reqOf p).head ++ (reqOf p).body)).take 16 ≠ (reqOf p).mac ∨ (∃ k,
    x.counter = some k ∧ (reqOf p).counter < k) ∨ (x.counter = some (reqOf p).counter ∧ (reqOf p).retry = false) ∨ (x.counter
    = none ∧ (reqOf p).counter ≠ 1))) ∧ exec i s = .next t :=
  let ⟨t, ht⟩ := next_ex (exec (.closeSession 0 (ask 0x0011 ([]) 0)) (at_ .m6)) (by decide +kernel)
  ⟨.closeSession 0 (ask 0x0011 ([]) 0), 0, ask 0x0011 ([]) 0, at_ .m6, _, t, by decide +kernel, rfl,
    heard_sealed (by decide +kernel), by decide +kernel, by decide +kernel, (.inl (by decide +kernel)), ht⟩

theorem test_UnauthenticatedFramesAreCounted_1_6 :
    ∃ (i : Instr) (dt : Nat) (p : Packet) (s e t : State), mailOf i = some (dt, p) ∧ s.elapse dt = e ∧ Heard e p ∧ (reqOf
    p).code ≠ 0x0001 ∧ (reqOf p).code ≠ 0x0010 ∧ (e.session (reqOf p).session = none ∨ ∃ x, e.session (reqOf p).session = some
    x ∧ (x.via ≠ p.via ∨ x.addr ≠ p.addr ∨ (hmac x.key ((reqOf p).head ++ (reqOf p).body)).take 16 ≠ (reqOf p).mac ∨ (∃ k,
    x.counter = some k ∧ (reqOf p).counter < k) ∨ (x.counter = some (reqOf p).counter ∧ (reqOf p).retry = false) ∨ (x.counter
    = none ∧ (reqOf p).counter ≠ 1))) ∧ exec i s = .next t ∧ (∀ x ∈ e.mbx.sessions, x.route = none) :=
  let ⟨t, ht⟩ := next_ex (exec (.closeSession 0 (ask 0x0011 ([]) 0)) (at_ .m6)) (by decide +kernel)
  ⟨.closeSession 0 (ask 0x0011 ([]) 0), 0, ask 0x0011 ([]) 0, at_ .m6, _, t, by decide +kernel, rfl,
    heard_sealed (by decide +kernel), by decide +kernel, by decide +kernel, (.inl (by decide +kernel)), ht, by decide +kernel⟩

theorem test_UnauthenticatedFramesAreCounted_1_7_1 :
    ∃ (i : Instr) (dt : Nat) (p : Packet) (s e t : State), mailOf i = some (dt, p) ∧ s.elapse dt = e ∧ Heard e p ∧ (reqOf
    p).code ≠ 0x0001 ∧ (reqOf p).code ≠ 0x0010 ∧ (e.session (reqOf p).session = none ∨ ∃ x, e.session (reqOf p).session = some
    x ∧ (x.via ≠ p.via ∨ x.addr ≠ p.addr ∨ (hmac x.key ((reqOf p).head ++ (reqOf p).body)).take 16 ≠ (reqOf p).mac ∨ (∃ k,
    x.counter = some k ∧ (reqOf p).counter < k) ∨ (x.counter = some (reqOf p).counter ∧ (reqOf p).retry = false) ∨ (x.counter
    = none ∧ (reqOf p).counter ≠ 1))) ∧ exec i s = .next t ∧ 15 ≤ (e.mbx.fails.filter (fun f => f.1 == p.via && f.2.1 ==
    p.addr && decide (e.tick < f.2.2 + 10 * Config.ticksPerSecond))).length :=
  let ⟨t, ht⟩ := next_ex (exec (.closeSession 0 (ask 0x0011 ([]) 0)) ((at_ .m6) |> fun s => { s with mbx := { s.mbx with fails := List.replicate 15 (.service, 9, 0) } })) (by decide +kernel)
  ⟨.closeSession 0 (ask 0x0011 ([]) 0), 0, ask 0x0011 ([]) 0,
    (at_ .m6) |> fun s => { s with mbx := { s.mbx with fails := List.replicate 15 (.service, 9, 0) } }, _, t, by decide +kernel,
    rfl, heard_sealed (by decide +kernel), by decide +kernel, by decide +kernel, (.inl (by decide +kernel)), ht,
    by decide +kernel⟩

theorem test_UnauthenticatedFramesAreCounted_1_8_1 :
    ∃ (i : Instr) (dt : Nat) (p : Packet) (s e t : State), mailOf i = some (dt, p) ∧ s.elapse dt = e ∧ Heard e p ∧ (reqOf
    p).code ≠ 0x0001 ∧ (reqOf p).code ≠ 0x0010 ∧ (e.session (reqOf p).session = none ∨ ∃ x, e.session (reqOf p).session = some
    x ∧ (x.via ≠ p.via ∨ x.addr ≠ p.addr ∨ (hmac x.key ((reqOf p).head ++ (reqOf p).body)).take 16 ≠ (reqOf p).mac ∨ (∃ k,
    x.counter = some k ∧ (reqOf p).counter < k) ∨ (x.counter = some (reqOf p).counter ∧ (reqOf p).retry = false) ∨ (x.counter
    = none ∧ (reqOf p).counter ≠ 1))) ∧ exec i s = .next t ∧ (e.mbx.fails.filter (fun f => f.2.1 == p.addr && decide (e.tick <
    f.2.2 + 10 * Config.ticksPerSecond))).length < 15 :=
  let ⟨t, ht⟩ := next_ex (exec (.closeSession 0 (ask 0x0011 ([]) 0)) (at_ .m6)) (by decide +kernel)
  ⟨.closeSession 0 (ask 0x0011 ([]) 0), 0, ask 0x0011 ([]) 0, at_ .m6, _, t, by decide +kernel, rfl,
    heard_sealed (by decide +kernel), by decide +kernel, by decide +kernel, (.inl (by decide +kernel)), ht, by decide +kernel⟩

theorem test_UnauthenticatedFramesAreCounted_2 :
    ∃ (i : Instr) (dt b : Nat) (p : Packet) (s e t : State), mailOf i = some (dt, p) ∧ s.elapse dt = e ∧ (p.off = 0 ∧
    p.data.length = p.total) ∧ (p.via = .service ∨ e.eff 0x0145 ≠ 0) ∧ (p.via, p.addr, b) ∈ e.mbx.locks ∧ e.tick < b ∧ exec i
    s = .next t :=
  let ⟨t, ht⟩ := next_ex (exec (.closeSession 0 (ask 0x0011 ([]) 0)) ((on .m6) |> fun s => { s with mbx := { s.mbx with locks := [(.service, 9, 100)] } })) (by decide +kernel)
  ⟨.closeSession 0 (ask 0x0011 ([]) 0), 0, 100, ask 0x0011 ([]) 0,
    (on .m6) |> fun s => { s with mbx := { s.mbx with locks := [(.service, 9, 100)] } }, _, t, by decide +kernel, rfl,
    by decide +kernel, by decide +kernel, by decide +kernel, by decide +kernel, ht⟩

/-! KeysOpenSessions -/

theorem test_KeysOpenSessions_2 :
    ∃ (dt : Nat) (p : Packet) (sid : U32) (nonce : List Byte) (s e t : State), s.elapse dt = e ∧ Heard e p ∧ (reqOf p).code =
    0x0010 ∧ tlook e.mbx.keys (beAt (reqOf p).body 0 1) = none ∧ (beAt (reqOf p).body 0 1 ≠ 3 ∨ p.via ≠ .service) ∧ exec
    (.openSession dt p sid nonce) s = .next t :=
  let ⟨t, ht⟩ := next_ex (exec (.openSession (0) (whole (frame (some (List.replicate 32 0#8)) 0x0010 (beBytes 1 2 ++ List.replicate 19 0#8) 0 1)) (5) ([])) (at_ .m6)) (by decide +kernel)
  ⟨0, whole (frame (some (List.replicate 32 0#8)) 0x0010 (beBytes 1 2 ++ List.replicate 19 0#8) 0 1), 5, [], at_ .m6, _, t, rfl,
    heard_sealed (by decide +kernel), by decide +kernel, by decide +kernel, by decide +kernel, ht⟩

theorem test_KeysOpenSessions_3 :
    ∃ (dt : Nat) (p : Packet) (sid : U32) (nonce : List Byte) (s e : State), s.elapse dt = e ∧ Heard e p ∧ (reqOf p).code =
    0x0010 ∧ (reqOf p).session = 0 ∧ tlook e.mbx.keys 3 = none ∧ beAt (reqOf p).body 0 1 = 3 ∧ p.via = .service ∧ (hmac
    (List.replicate 32 0#8) ((reqOf p).head ++ (reqOf p).body)).take 16 = (reqOf p).mac ∧ Passes (openSessionCmd sid nonce)
    (reqOf p) e 0 false ∧ sid ≠ 0 ∧ e.session sid = none :=
  ⟨0, whole (frame (some (List.replicate 32 0#8)) 0x0010 (beBytes 1 3 ++ List.replicate 19 0#8) 0 1), 5, [], at_ .m6, _, rfl,
    heard_sealed (by decide +kernel), by decide +kernel, by decide +kernel, by decide +kernel, by decide +kernel,
    by decide +kernel, mac_sealed (by decide +kernel), passes_of (by decide +kernel), by decide +kernel, by decide +kernel⟩

theorem test_KeysOpenSessions_4 :
    ∃ (i : Instr) (dt : Nat) (p : Packet) (x : Session) (s e t : State), mailOf i = some (dt, p) ∧ s.elapse dt = e ∧ InSession
    e p x ∧ x.unsetKey = true ∧ e.boxFree (reqOf p).box = true ∧ (cmdRow (reqOf p).code).isSome = true ∧ (reqOf p).ver = 1 ∧
    (reqOf p).code ∉ [0x0001, 0x0002, 0x0013, 0x0012, 0x0011] ∧ exec i s = .next t :=
  let ⟨t, ht⟩ := next_ex (exec (.paramRead 0 (ask 0x0020 (beBytes 4 (2 ^ 16) ++ beBytes 2 0x0100) 0)) (with_ { sess 3 with unsetKey := true } (at_ .m6))) (by decide +kernel)
  ⟨.paramRead 0 (ask 0x0020 (beBytes 4 (2 ^ 16) ++ beBytes 2 0x0100) 0), 0,
    ask 0x0020 (beBytes 4 (2 ^ 16) ++ beBytes 2 0x0100) 0, { sess 3 with unsetKey := true },
    with_ { sess 3 with unsetKey := true } (at_ .m6), _, t, by decide +kernel, rfl, inSession_sealed (by decide +kernel),
    by decide +kernel, by decide +kernel, by decide +kernel, by decide +kernel, by decide +kernel, ht⟩

/-! MailboxAddressing -/

theorem test_MailboxAddressing_1 :
    ∃ (i : Instr) (dt : Nat) (p : Packet) (x : Session) (s e t : State), mailOf i = some (dt, p) ∧ s.elapse dt = e ∧ InSession
    e p x ∧ p.via = .plant ∧ (reqOf p).box = 15 ∧ e.boxFree 15 = true ∧ (cmdRow (reqOf p).code).isSome = true ∧ (reqOf p).ver
    = 1 ∧ exec i s = .next t :=
  let ⟨t, ht⟩ := next_ex (exec (.closeSession 0 (ask 0x0011 [] 0 .plant 15)) (set [(0x0145, 3)] (with_ (sess 3 .plant) (at_ .m6)))) (by decide +kernel)
  ⟨.closeSession 0 (ask 0x0011 [] 0 .plant 15), 0, ask 0x0011 [] 0 .plant 15, sess 3 .plant,
    set [(0x0145, 3)] (with_ (sess 3 .plant) (at_ .m6)), _, t, by decide +kernel, rfl, inSession_sealed (by decide +kernel),
    by decide +kernel, by decide +kernel, by decide +kernel, by decide +kernel, by decide +kernel, ht⟩

theorem test_MailboxAddressing_2 :
    ∃ (i : Instr) (dt : Nat) (p : Packet) (s e t : State), mailOf i = some (dt, p) ∧ s.elapse dt = e ∧ (p.off = 0 ∧
    p.data.length = p.total) ∧ e.mailboxSilent = false ∧ p.via = .plant ∧ e.mu.slot ≠ 0xFF ∧ e.eff 0x0145 = 0 ∧ exec i s =
    .next t :=
  let ⟨t, ht⟩ := next_ex (exec (.closeSession 0 (ask 0x0011 [] 0 .plant 15)) (set [(0x0145, 0)] (with_ (sess 3 .plant) (at_ .m6)))) (by decide +kernel)
  ⟨.closeSession 0 (ask 0x0011 [] 0 .plant 15), 0, ask 0x0011 [] 0 .plant 15,
    set [(0x0145, 0)] (with_ (sess 3 .plant) (at_ .m6)), _, t, by decide +kernel, rfl, by decide +kernel, by decide +kernel,
    by decide +kernel, by decide +kernel, by decide +kernel, ht⟩

/-! RetransmissionRepeatsTheResponse -/

theorem test_RetransmissionRepeatsTheResponse_1 :
    ∃ (i : Instr) (dt k : Nat) (p : Packet) (x : Session) (s e t : State), mailOf i = some (dt, p) ∧ s.elapse dt = e ∧ Heard e
    p ∧ (reqOf p).code ≠ 0x0001 ∧ (reqOf p).code ≠ 0x0010 ∧ e.session (reqOf p).session = some x ∧ x.via = p.via ∧ x.addr =
    p.addr ∧ (hmac x.key ((reqOf p).head ++ (reqOf p).body)).take 16 = (reqOf p).mac ∧ x.counter = some k ∧ (reqOf p).counter
    = k ∧ (reqOf p).retry = true ∧ exec i s = .next t :=
  let ⟨t, ht⟩ := next_ex (exec (.closeSession 0 (whole (frame (some [0x5A#8]) 0x0011 [] 7 1 0 3 0 1))) (with_ ({ sess 3 with counter := some 1 }) (at_ .m6))) (by decide +kernel)
  ⟨.closeSession 0 (whole (frame (some [0x5A#8]) 0x0011 [] 7 1 0 3 0 1)), 0, 1,
    whole (frame (some [0x5A#8]) 0x0011 [] 7 1 0 3 0 1), { sess 3 with counter := some 1 },
    with_ ({ sess 3 with counter := some 1 }) (at_ .m6), _, t, by decide +kernel, rfl, heard_sealed (by decide +kernel),
    by decide +kernel, by decide +kernel, by decide +kernel, by decide +kernel, by decide +kernel, mac_sealed (by decide +kernel),
    by decide +kernel, by decide +kernel, by decide +kernel, ht⟩

theorem test_RetransmissionRepeatsTheResponse_2 :
    ∃ (i : Instr) (dt k : Nat) (p : Packet) (x : Session) (s e t : State), mailOf i = some (dt, p) ∧ s.elapse dt = e ∧ Heard e
    p ∧ (reqOf p).code ≠ 0x0001 ∧ (reqOf p).code ≠ 0x0010 ∧ e.session (reqOf p).session = some x ∧ x.via = p.via ∧ x.addr =
    p.addr ∧ (hmac x.key ((reqOf p).head ++ (reqOf p).body)).take 16 = (reqOf p).mac ∧ x.counter = some k ∧ (reqOf p).counter
    = k ∧ (reqOf p).retry = true ∧ exec i s = .next t ∧ (∀ q c f, (tget e.mbx.boxes (reqOf p).box {}).last = some (q, c, f) →
    ¬ (q = (reqOf p).session ∧ c = k)) ∧ e.mbx.relays.any (fun y => y.session == (reqOf p).session && y.counter == k) = true :=
  let ⟨t, ht⟩ := next_ex (exec (.closeSession 0 (whole (frame (some [0x5A#8]) 0x0011 [] 7 1 0 3 0 1))) ((with_ ({ sess 3 with counter := some 1 }) (at_ .m6)) |> fun s => { s with mbx := { s.mbx with relays := [⟨0x0011, .service, 9, 50000, [], 7, 1, 0⟩] } })) (by decide +kernel)
  ⟨.closeSession 0 (whole (frame (some [0x5A#8]) 0x0011 [] 7 1 0 3 0 1)), 0, 1,
    whole (frame (some [0x5A#8]) 0x0011 [] 7 1 0 3 0 1), { sess 3 with counter := some 1 },
    (with_ ({ sess 3 with counter := some 1 }) (at_ .m6)) |> fun s => { s with mbx := { s.mbx with relays := [⟨0x0011, .service, 9, 50000, [], 7, 1, 0⟩] } },
    _, t, by decide +kernel, rfl, heard_sealed (by decide +kernel), by decide +kernel, by decide +kernel, by decide +kernel,
    by decide +kernel, by decide +kernel, mac_sealed (by decide +kernel), by decide +kernel, by decide +kernel, by decide +kernel,
    ht, (by intro q c f h; exact nomatch h), by decide +kernel⟩

/-! RefusedRequestsChangeNothing -/

theorem test_RefusedRequestsChangeNothing_1_1 :
    ∃ (i : Instr) (dt : Nat) (p : Packet) (x : Session) (s e t : State), mailOf i = some (dt, p) ∧ s.elapse dt = e ∧ InSession
    e p x ∧ exec i s = .next t ∧ e.boxFree (reqOf p).box = false :=
  let ⟨t, ht⟩ := next_ex (exec (.closeSession 0 (ask 0x0011 ([]) 0)) ((on .m6) |> fun s => { s with mbx := { s.mbx with boxes := [(3, { fwd := some ⟨.service, 9, 50000, 7, 1, [], 0⟩ })] } })) (by decide +kernel)
  ⟨.closeSession 0 (ask 0x0011 ([]) 0), 0, ask 0x0011 ([]) 0, sess 3,
    (on .m6) |> fun s => { s with mbx := { s.mbx with boxes := [(3, { fwd := some ⟨.service, 9, 50000, 7, 1, [], 0⟩ })] } }, _, t,
    by decide +kernel, rfl, inSession_sealed (by decide +kernel), ht, by decide +kernel⟩

theorem test_RefusedRequestsChangeNothing_1_2 :
    ∃ (i : Instr) (dt : Nat) (p : Packet) (x : Session) (s e t : State), mailOf i = some (dt, p) ∧ s.elapse dt = e ∧ InSession
    e p x ∧ exec i s = .next t ∧ e.boxFree (reqOf p).box = true ∧ cmdRow (reqOf p).code = none :=
  let ⟨t, ht⟩ := next_ex (exec (.closeSession 0 (ask 0x7777 ([]) 0)) (on .m6)) (by decide +kernel)
  ⟨.closeSession 0 (ask 0x7777 ([]) 0), 0, ask 0x7777 ([]) 0, sess 3, on .m6, _, t, by decide +kernel, rfl,
    inSession_sealed (by decide +kernel), ht, by decide +kernel, by decide +kernel⟩

theorem test_RefusedRequestsChangeNothing_1_3 :
    ∃ (i : Instr) (dt : Nat) (p : Packet) (x : Session) (s e t : State), mailOf i = some (dt, p) ∧ s.elapse dt = e ∧ InSession
    e p x ∧ exec i s = .next t ∧ e.boxFree (reqOf p).box = true ∧ (reqOf p).ver ≠ 1 :=
  let ⟨t, ht⟩ := next_ex (exec (.closeSession 0 (whole (frame (some [0x5A#8]) 0x0011 [] 7 1 0 3 0 0 2))) (on .m6)) (by decide +kernel)
  ⟨.closeSession 0 (whole (frame (some [0x5A#8]) 0x0011 [] 7 1 0 3 0 0 2)), 0,
    whole (frame (some [0x5A#8]) 0x0011 [] 7 1 0 3 0 0 2), sess 3, on .m6, _, t, by decide +kernel, rfl,
    inSession_sealed (by decide +kernel), ht, by decide +kernel, by decide +kernel⟩

theorem test_RefusedRequestsChangeNothing_1_4 :
    ∃ (i : Instr) (dt : Nat) (p : Packet) (x : Session) (s e t : State), mailOf i = some (dt, p) ∧ s.elapse dt = e ∧ InSession
    e p x ∧ exec i s = .next t :=
  let ⟨t, ht⟩ := next_ex (exec (.paramRead 0 (ask 0x0020 ([]) 0)) (on .m6)) (by decide +kernel)
  ⟨.paramRead 0 (ask 0x0020 ([]) 0), 0, ask 0x0020 ([]) 0, sess 3, on .m6, _, t, by decide +kernel, rfl,
    inSession_sealed (by decide +kernel), ht⟩

theorem test_RefusedRequestsChangeNothing_2 :
    ∃ (dt : Nat) (p : Packet) (x : Session) (s e : State), s.elapse dt = e ∧ InSession e p x ∧ e.boxFree (reqOf p).box = true
    ∧ (reqOf p).code = 0x0032 ∧ (reqOf p).ver = 1 ∧ (p.via = .plant → (reqOf p).box ≠ 15) ∧ 2 ≤ x.level ∧ x.unsetKey = false ∧
    (reqOf p).body = [] ∧ e.mode ≠ .m4 ∧ e.mode ≠ .m5 :=
  ⟨0, ask 0x0032 ([]) 0, sess 3, on .m6, _, rfl, inSession_sealed (by decide +kernel), by decide +kernel, by decide +kernel,
    by decide +kernel, by decide +kernel, by decide +kernel, by decide +kernel, by decide +kernel, by decide +kernel,
    by decide +kernel⟩

/-! ForwardedRequests -/

theorem test_ForwardedRequests_1_1 :
    ∃ (i : Instr) (dt : Nat) (p : Packet) (s e t : State), mailOf i = some (dt, p) ∧ s.elapse dt = e ∧ (p.off = 0 ∧
    p.data.length = p.total) ∧ e.mailboxSilent = false ∧ (p.via = .service ∨ e.eff 0x0145 ≠ 0) ∧ (p.via = .plant → e.mu.slot ≠
    0xFF) ∧ e.lockedOut p.via p.addr = false ∧ badFrame p.data = false ∧ (reqOf p).target = 1 ∧ e.boxFree (reqOf p).box = true
    ∧ exec i s = .next t ∧ e.laneUp = true ∧ e.mu.slot ≠ 0xFF :=
  let ⟨t, ht⟩ := next_ex (exec (.closeSession 0 (whole (frame (some [0x5A#8]) 0x0011 [] 7 1 0 3 1))) (mate .m5 .standby (at_ .m4 .primary))) (by decide +kernel)
  ⟨.closeSession 0 (whole (frame (some [0x5A#8]) 0x0011 [] 7 1 0 3 1)), 0, whole (frame (some [0x5A#8]) 0x0011 [] 7 1 0 3 1),
    mate .m5 .standby (at_ .m4 .primary), _, t, by decide +kernel, rfl, by decide +kernel, by decide +kernel, by decide +kernel,
    by decide +kernel, by decide +kernel, by decide +kernel, by decide +kernel, by decide +kernel, ht, by decide +kernel,
    by decide +kernel⟩

theorem test_ForwardedRequests_2_1 :
    ∃ (i : Instr) (dt : Nat) (p : Packet) (s e t : State), mailOf i = some (dt, p) ∧ s.elapse dt = e ∧ (p.off = 0 ∧
    p.data.length = p.total) ∧ e.mailboxSilent = false ∧ (p.via = .service ∨ e.eff 0x0145 ≠ 0) ∧ (p.via = .plant → e.mu.slot ≠
    0xFF) ∧ e.lockedOut p.via p.addr = false ∧ badFrame p.data = false ∧ (reqOf p).target = 1 ∧ e.boxFree (reqOf p).box = true
    ∧ exec i s = .next t ∧ e.laneUp = false :=
  let ⟨t, ht⟩ := next_ex (exec (.closeSession 0 (whole (frame (some [0x5A#8]) 0x0011 [] 7 1 0 3 1))) (at_ .m6)) (by decide +kernel)
  ⟨.closeSession 0 (whole (frame (some [0x5A#8]) 0x0011 [] 7 1 0 3 1)), 0, whole (frame (some [0x5A#8]) 0x0011 [] 7 1 0 3 1),
    at_ .m6, _, t, by decide +kernel, rfl, by decide +kernel, by decide +kernel, by decide +kernel, by decide +kernel,
    by decide +kernel, by decide +kernel, by decide +kernel, by decide +kernel, ht, by decide +kernel⟩

/-! PairEffectiveCommandsAreScheduled -/

theorem test_PairEffectiveCommandsAreScheduled_1 :
    ∃ (dt b : Nat) (p : Packet) (x : Session) (row : CmdRow) (i : Instr) (c : Cmd) (s e u : State), (i, c) ∈ ([(.hartPass dt
    p, hartPassCmd), (.panelUpdate dt p, panelUpdateCmd), (.commitConfig dt p, commitConfigCmd), (.discardEdits dt p,
    discardEditsCmd), (.forceSet dt p, forceSetCmd), (.forceClear dt p, forceClearCmd), (.taskTrigger dt p, taskTriggerCmd)] :
    List (Instr × Cmd)) ∧ s.elapse dt = e ∧ InSession e p x ∧ (reqOf p).code = c.code ∧ e.boxFree (reqOf p).box = true ∧
    (reqOf p).ver = 1 ∧ (p.via = .plant → (reqOf p).box ≠ 15) ∧ x.unsetKey = false ∧ cmdRow c.code = some row ∧ (∀ l,
    row.level = some l → l ≤ x.level) ∧ (e.mode = .m4 ∨ e.mode = .m5) ∧ e.mu.slot ≠ 0xFF ∧ b = frameAtOrAfter (e.now + 500000)
    ∧ u = (e.noted p x).latch (reqOf p) ∧ e.role = .primary ∧ c.check (reqOf p) u x.level row.modes = none :=
  ⟨0, _, ask 0x0025, sess 3, (cmdRow 0x0025).get (by decide +kernel), .discardEdits 0 (ask 0x0025), discardEditsCmd,
    with_ (sess 3) (mate .m5 .standby (at_ .m4 .primary)), _, _, (.tail _ (.tail _ (.tail _ (.head _)))), rfl,
    inSession_sealed (by decide +kernel), by decide +kernel, by decide +kernel, by decide +kernel, by decide +kernel,
    by decide +kernel, rfl, (by intro l h; have h : (some 2 : Option Nat) = some l := h; cases h; decide +kernel),
    by decide +kernel, by decide +kernel, rfl, rfl, by decide +kernel, by decide +kernel⟩

theorem test_PairEffectiveCommandsAreScheduled_2 :
    ∃ (dt b : Nat) (p : Packet) (x : Session) (row : CmdRow) (i : Instr) (c : Cmd) (s e u : State), (i, c) ∈ ([(.hartPass dt
    p, hartPassCmd), (.panelUpdate dt p, panelUpdateCmd), (.commitConfig dt p, commitConfigCmd), (.discardEdits dt p,
    discardEditsCmd), (.forceSet dt p, forceSetCmd), (.forceClear dt p, forceClearCmd), (.taskTrigger dt p, taskTriggerCmd)] :
    List (Instr × Cmd)) ∧ s.elapse dt = e ∧ InSession e p x ∧ (reqOf p).code = c.code ∧ e.boxFree (reqOf p).box = true ∧
    (reqOf p).ver = 1 ∧ (p.via = .plant → (reqOf p).box ≠ 15) ∧ x.unsetKey = false ∧ cmdRow c.code = some row ∧ (∀ l,
    row.level = some l → l ≤ x.level) ∧ (e.mode = .m4 ∨ e.mode = .m5) ∧ e.mu.slot ≠ 0xFF ∧ b = frameAtOrAfter (e.now + 500000)
    ∧ u = (e.noted p x).latch (reqOf p) ∧ e.role = .standby ∧ c.absent (reqOf p) u = none ∧ c.malformed (reqOf p) u = none ∧
    c.denied (reqOf p) u x.level = none ∧ e.mbx.async.length + e.mbx.relays.length < 8 ∧ e.laneUp = true :=
  ⟨0, _, ask 0x0025, sess 3, (cmdRow 0x0025).get (by decide +kernel), .discardEdits 0 (ask 0x0025), discardEditsCmd,
    with_ (sess 3) (mate .m4 .primary (at_ .m5 .standby)), _, _, (.tail _ (.tail _ (.tail _ (.head _)))), rfl,
    inSession_sealed (by decide +kernel), by decide +kernel, by decide +kernel, by decide +kernel, by decide +kernel,
    by decide +kernel, rfl, (by intro l h; have h : (some 2 : Option Nat) = some l := h; cases h; decide +kernel),
    by decide +kernel, by decide +kernel, rfl, rfl, by decide +kernel, by decide +kernel, by decide +kernel, by decide +kernel,
    by decide +kernel, by decide +kernel⟩

theorem test_PairEffectiveCommandsAreScheduled_3 :
    ∃ (dt b : Nat) (p : Packet) (x : Session) (row : CmdRow) (i : Instr) (c : Cmd) (s e u : State), (i, c) ∈ ([(.hartPass dt
    p, hartPassCmd), (.panelUpdate dt p, panelUpdateCmd), (.commitConfig dt p, commitConfigCmd), (.discardEdits dt p,
    discardEditsCmd), (.forceSet dt p, forceSetCmd), (.forceClear dt p, forceClearCmd), (.taskTrigger dt p, taskTriggerCmd)] :
    List (Instr × Cmd)) ∧ s.elapse dt = e ∧ InSession e p x ∧ (reqOf p).code = c.code ∧ e.boxFree (reqOf p).box = true ∧
    (reqOf p).ver = 1 ∧ (p.via = .plant → (reqOf p).box ≠ 15) ∧ x.unsetKey = false ∧ cmdRow c.code = some row ∧ (∀ l,
    row.level = some l → l ≤ x.level) ∧ (e.mode = .m4 ∨ e.mode = .m5) ∧ e.mu.slot ≠ 0xFF ∧ b = frameAtOrAfter (e.now + 500000)
    ∧ u = (e.noted p x).latch (reqOf p) ∧ e.role = .standby ∧ c.absent (reqOf p) u = none ∧ c.malformed (reqOf p) u = none ∧
    c.denied (reqOf p) u x.level = none ∧ e.laneUp = false :=
  ⟨0, _, ask 0x0025, sess 3, (cmdRow 0x0025).get (by decide +kernel), .discardEdits 0 (ask 0x0025), discardEditsCmd,
    with_ (sess 3) (at_ .m5 .standby), _, _, (.tail _ (.tail _ (.tail _ (.head _)))), rfl, inSession_sealed (by decide +kernel),
    by decide +kernel, by decide +kernel, by decide +kernel, by decide +kernel, by decide +kernel, rfl,
    (by intro l h; have h : (some 2 : Option Nat) = some l := h; cases h; decide +kernel), by decide +kernel, by decide +kernel,
    rfl, rfl, by decide +kernel, by decide +kernel, by decide +kernel, by decide +kernel, by decide +kernel⟩

theorem test_PairEffectiveCommandsAreScheduled_4 :
    ∃ (dt b : Nat) (p : Packet) (x : Session) (row : CmdRow) (i : Instr) (c : Cmd) (s e u : State), (i, c) ∈ ([(.hartPass dt
    p, hartPassCmd), (.panelUpdate dt p, panelUpdateCmd), (.commitConfig dt p, commitConfigCmd), (.discardEdits dt p,
    discardEditsCmd), (.forceSet dt p, forceSetCmd), (.forceClear dt p, forceClearCmd), (.taskTrigger dt p, taskTriggerCmd)] :
    List (Instr × Cmd)) ∧ s.elapse dt = e ∧ InSession e p x ∧ (reqOf p).code = c.code ∧ e.boxFree (reqOf p).box = true ∧
    (reqOf p).ver = 1 ∧ (p.via = .plant → (reqOf p).box ≠ 15) ∧ x.unsetKey = false ∧ cmdRow c.code = some row ∧ (∀ l,
    row.level = some l → l ≤ x.level) ∧ (e.mode = .m4 ∨ e.mode = .m5) ∧ e.mu.slot ≠ 0xFF ∧ b = frameAtOrAfter (e.now + 500000)
    ∧ u = (e.noted p x).latch (reqOf p) ∧ e.role = .isolated ∧ c.absent (reqOf p) u = none ∧ c.malformed (reqOf p) u = none ∧
    c.denied (reqOf p) u x.level = none :=
  ⟨0, _, ask 0x0025, sess 3, (cmdRow 0x0025).get (by decide +kernel), .discardEdits 0 (ask 0x0025), discardEditsCmd,
    with_ (sess 3) (at_ .m5 .isolated), _, _, (.tail _ (.tail _ (.tail _ (.head _)))), rfl, inSession_sealed (by decide +kernel),
    by decide +kernel, by decide +kernel, by decide +kernel, by decide +kernel, by decide +kernel, rfl,
    (by intro l h; have h : (some 2 : Option Nat) = some l := h; cases h; decide +kernel), by decide +kernel, by decide +kernel,
    rfl, rfl, by decide +kernel, by decide +kernel, by decide +kernel, by decide +kernel⟩

/-! BadAndRepeatedLaneFrames -/

theorem test_BadAndRepeatedLaneFrames_1 :
    ∃ (i : Instr) (dt : Nat) (h : LaneHdr) (s e : State), laneRow i = some (dt, h) ∧ s.elapse dt = e ∧ i.wf = true ∧ e.mode ≠
    .m0 ∧ h.good = false :=
  ⟨.departureNotice 0 ⟨1, false, 5, 0, 1⟩ 9, 0, ⟨1, false, 5, 0, 1⟩, mate .m4 .primary (at_ .m5 .standby), _, by decide +kernel,
    rfl, by decide +kernel, by decide +kernel, by decide +kernel⟩

theorem test_BadAndRepeatedLaneFrames_2 :
    ∃ (i : Instr) (dt : Nat) (h : LaneHdr) (s e : State), laneRow i = some (dt, h) ∧ s.elapse dt = e ∧ i.wf = true ∧ e.mode ≠
    .m0 ∧ h.good = true ∧ e.pair.seqIn = some (BitVec.ofNat 32 h.seq) :=
  ⟨.departureNotice 0 ⟨1, true, 5, 0, 1⟩ 9, 0, ⟨1, true, 5, 0, 1⟩,
    (mate .m4 .primary (at_ .m5 .standby)) |> fun s => { s with pair := { s.pair with seqIn := some 5 } }, _, by decide +kernel,
    rfl, by decide +kernel, by decide +kernel, by decide +kernel, by decide +kernel⟩

/-! FirmwareSlotChosenAtSelfTest -/

theorem test_FirmwareSlotChosenAtSelfTest_1 :
    ∃ (dt : Nat) (r : SelfTest) (s e : State), s.elapse dt = e ∧ e.mode = .m1 ∧ e.mu.startDone = false ∧ e.fw.active < 2 ∧
    r.images.getD e.fw.active false = true :=
  ⟨0, ⟨[], [], [true, true], 0⟩, at_ .m1, _, rfl, by decide +kernel, by decide +kernel, by decide +kernel, by decide +kernel⟩

theorem test_FirmwareSlotChosenAtSelfTest_2 :
    ∃ (dt : Nat) (r : SelfTest) (s e : State), s.elapse dt = e ∧ e.mode = .m1 ∧ e.mu.startDone = false ∧ e.fw.active < 2 ∧
    r.images.getD e.fw.active false = false ∧ r.images.getD (1 - e.fw.active) false = true ∧ (e.fwSlot (1 -
    e.fw.active)).state = 4 :=
  ⟨0, ⟨[], [], [false, true], 0⟩, (at_ .m1).modFw 1 (fun x => { x with state := 4, header := fwDelivered }), _, rfl,
    by decide +kernel, by decide +kernel, by decide +kernel, by decide +kernel, by decide +kernel, by decide +kernel⟩

theorem test_FirmwareSlotChosenAtSelfTest_3 :
    ∃ (dt : Nat) (r : SelfTest) (s e : State), s.elapse dt = e ∧ e.mode = .m1 ∧ e.mu.startDone = false ∧ e.fw.active < 2 ∧
    r.images.getD e.fw.active false = false ∧ (r.images.getD (1 - e.fw.active) false = false ∨ (e.fwSlot (1 -
    e.fw.active)).state ≠ 4) :=
  ⟨0, ⟨[], [], [false, true], 0⟩, at_ .m1, _, rfl, by decide +kernel, by decide +kernel, by decide +kernel, by decide +kernel,
    by decide +kernel⟩

/-! EventClear -/

theorem test_EventClear_1 :
    ∃ (dt : Nat) (p : Packet) (x : Session) (s e : State), s.elapse dt = e ∧ Accepted eventClearCmd e p x :=
  ⟨0, ask 0x0034 (List.replicate 32 0xFF#8) 0, sess 3, on .m6, _, rfl, accepted_sealed (by decide +kernel)⟩

theorem test_EventClear_2 :
    ∃ (dt : Nat) (up : Bool) (s e : State), s.elapse dt = e ∧ e.mode ≠ .m0 ∧ e.ifcOn 2 = true ∧ (e.port 2).link = !up ∧
    e.eventBit 0x0160 203 = false :=
  ⟨0, true, set [(0x0C40, 2 ^ 31)] (at_ .m6), _, rfl, by decide +kernel, by decide +kernel, by decide +kernel,
    by decide +kernel⟩

theorem test_EventClear_3 :
    ∃ (k : Nat) (d : List (Nat × Nat)) (u : State), u.eventPresent k = true ∧ u.eventBit 0x0160 k = false :=
  ⟨14, [], at_ .m6, by decide +kernel, by decide +kernel⟩

/-! SetKey -/

theorem test_SetKey_1 :
    ∃ (dt : Nat) (p : Packet) (x : Session) (s e : State), s.elapse dt = e ∧ Accepted setKeyCmd e p x :=
  ⟨0, ask 0x0012 (beBytes 4 (2 ^ 24) ++ List.replicate 32 1#8) 0, sess 3, on .m2, _, rfl, accepted_sealed (by decide +kernel)⟩

theorem test_SetKey_2 :
    ∃ (dt : Nat) (p : Packet) (x : Session) (s e : State), s.elapse dt = e ∧ InSession e p x ∧ (reqOf p).code = 0x0012 ∧
    e.boxFree (reqOf p).box = true ∧ (reqOf p).ver = 1 ∧ p.via = .service ∧ 3 ≤ x.level ∧ (reqOf p).body.length = 36 ∧ beAt
    (reqOf p).body 1 3 = 0 ∧ beAt (reqOf p).body 0 1 ≤ 3 ∧ allZero (slice (reqOf p).body 4 32) = true ∧ bit 0xC0E e.mode.num =
    true :=
  ⟨0, ask 0x0012 (beBytes 4 (2 ^ 24) ++ List.replicate 32 0#8) 0, sess 3, on .m2, _, rfl, inSession_sealed (by decide +kernel),
    by decide +kernel, by decide +kernel, by decide +kernel, by decide +kernel, by decide +kernel, by decide +kernel,
    by decide +kernel, by decide +kernel, by decide +kernel, by decide +kernel⟩

/-! SetModeOutsideTheTable -/

theorem test_SetModeOutsideTheTable_1 :
    ∃ (dt : Nat) (p : Packet) (x : Session) (m : Mode) (s e : State), s.elapse dt = e ∧ InSession e p x ∧ (reqOf p).code =
    0x0030 ∧ e.boxFree (reqOf p).box = true ∧ (reqOf p).ver = 1 ∧ (p.via = .plant → (reqOf p).box ≠ 15) ∧ 1 ≤ x.level ∧
    x.unsetKey = false ∧ (reqOf p).body.length = 4 ∧ beAt (reqOf p).body 2 2 = 0 ∧ modeTarget (reqOf p).body = some m ∧ e.mode
    ∈ [Mode.m2, .m3, .m4, .m5, .m6, .m7, .m8, .m10] ∧ m ≠ e.mode ∧ (e.mode, m) ∉ ([(.m2, .m3), (.m3, .m2), (.m3, .m4), (.m3,
    .m5), (.m3, .m6), (.m3, .m8), (.m6, .m8), (.m8, .m6), (.m4, .m7), (.m5, .m7), (.m6, .m7), (.m8, .m7), (.m7, .m6), (.m7,
    .m8), (.m7, .m5), (.m4, .m3), (.m5, .m3), (.m6, .m3), (.m7, .m3), (.m8, .m3), (.m10, .m2), (.m10, .m3)] : List (Mode ×
    Mode)) ∧ m ≠ .m10 :=
  ⟨0, ask 0x0030 ([4#8, 1#8, 0#8, 0#8]) 0, sess 3, .m4, on .m6, _, rfl, inSession_sealed (by decide +kernel), by decide +kernel,
    by decide +kernel, by decide +kernel, by decide +kernel, by decide +kernel, by decide +kernel, by decide +kernel,
    by decide +kernel, by decide +kernel, by decide +kernel, by decide +kernel, by decide +kernel, by decide +kernel⟩

theorem test_SetModeOutsideTheTable_2 :
    ∃ (dt : Nat) (p : Packet) (x : Session) (m : Mode) (s e : State), s.elapse dt = e ∧ InSession e p x ∧ (reqOf p).code =
    0x0030 ∧ e.boxFree (reqOf p).box = true ∧ (reqOf p).ver = 1 ∧ (p.via = .plant → (reqOf p).box ≠ 15) ∧ 1 ≤ x.level ∧
    x.unsetKey = false ∧ (reqOf p).body.length = 4 ∧ beAt (reqOf p).body 2 2 = 0 ∧ modeTarget (reqOf p).body = some m ∧ e.mode
    ∈ [Mode.m2, .m3, .m4, .m5, .m6, .m7, .m8, .m10] ∧ m = e.mode ∧ e.mu.pending = none ∧ e.mu.joinOp = none :=
  ⟨0, ask 0x0030 ([6#8, 0#8, 0#8, 0#8]) 0, sess 3, .m6, on .m6, _, rfl, inSession_sealed (by decide +kernel), by decide +kernel,
    by decide +kernel, by decide +kernel, by decide +kernel, by decide +kernel, by decide +kernel, by decide +kernel,
    by decide +kernel, by decide +kernel, by decide +kernel, by decide +kernel, by decide +kernel, by decide +kernel⟩

/-! NoEntryFiresOutsideRunModes -/

theorem test_NoEntryFiresOutsideRunModes_1 :
    ∃ (dt n : Nat) (y : EdgeIn) (s e t : State), s.elapse dt = e ∧ e.mode ∉ [Mode.m4, .m5, .m6, .m8] ∧ (exec (.phaseEdge dt n
    y) s = .next t ∨ exec (.phaseUnlockTimeout dt n) s = .next t ∨ exec (.phaseExtrapolation dt n) s = .next t ∨ exec
    (.catalogueEntryFire dt n) s = .next t ∨ exec (.catalogueDeferredFire dt) s = .next t) :=
  ⟨0, 1, ⟨1, 40, 0⟩, at_ .m3, _, _, rfl, by decide +kernel, (.inl rfl)⟩

end Sys2Proof.Tests
end

section
/-!
PROOFS. What the read-only parameters read right after reset.
-/
namespace Sys2Proof.Machine

/-- A read-only parameter reads the value its unit keeps. -/
theorem paramValue_of_ro (s : State) {d : ParamDef} (h : d.acc = .ro) (i : Nat) : s.paramValue d i = s.roParam i := by
  simp only [State.paramValue, h]

/-- The parameter tables define `i` as a read-only parameter, and right after reset it reads `v`. -/
def resetsTo (i v : Nat) : Bool := (paramDef i).any (·.acc == .ro) && State.reset.roParam i == v

/-- Evaluating `resetsTo` along a list shows each of its parameters read-only and at its value. -/
theorem exists_paramDef_of_all {α : Type} {l : List α} {idx val : α → Nat}
    (h : l.all (fun x => resetsTo (idx x) (val x)) = true) :
    ∀ x ∈ l, ∃ d, paramDef (idx x) = some d ∧ d.acc = .ro ∧ State.reset.paramValue d (idx x) = val x := by
  intro x hx
  have hr := List.all_eq_true.mp h x hx
  simp only [resetsTo, Bool.and_eq_true, Option.any_eq_true, beq_iff_eq] at hr
  obtain ⟨⟨d, hd, hro⟩, hv⟩ := hr
  exact ⟨d, hd, hro, (paramValue_of_ro _ hro _).trans hv⟩

end Sys2Proof.Machine

open Sys2Proof Sys2Proof.Machine

/-- Settles O4, by evaluating each read-only parameter in the state after reset. -/
theorem resetValues : Obligations.ResetValues := by
  unfold Obligations.ResetValues
  refine ⟨rfl, rfl, rfl, rfl, rfl, rfl, rfl, ?_, ?_⟩
  · exact exists_paramDef_of_all (idx := id) (val := fun _ => 0) (by decide +kernel)
  · exact exists_paramDef_of_all (idx := Prod.fst) (val := Prod.snd) (by decide +kernel)
end

section
/-!
PROOFS. Every row of the opcode table has an outcome: a next state, or the fault of a datagram that holds a command of another row.
-/
namespace Sys2Proof.Machine

/-- A command completes: it ends in a next state. -/
def Completes (o : Host.Outcome State Fault Refusal) : Prop := ∃ t, o = .next t

/-- A command completes, or its datagram holds a command of another row (the model's choice, log 29). -/
def CompletesOrOther (o : Host.Outcome State Fault Refusal) : Prop := Completes o ∨ o = .fault .otherCommand

/-! ## Outcomes branch by branch -/

theorem Completes.next {t : State} : Completes (.next t) := ⟨t, rfl⟩

theorem Completes.ite {c : Prop} [Decidable c] {a b : Host.Outcome State Fault Refusal} (ha : Completes a)
    (hb : Completes b) : Completes (if c then a else b) := by
  split
  · exact ha
  · exact hb

/-- A row's guard: it ends at once, or goes on. -/
theorem Completes.guard {c : Prop} [Decidable c] {t : State} {o : Host.Outcome State Fault Refusal} (h : Completes o) :
    Completes (if c then .next t else o) := .ite .next h

theorem CompletesOrOther.ne_refused {o : Host.Outcome State Fault Refusal} (h : CompletesOrOther o) (r : Refusal) :
    o ≠ .refused r := by
  rcases h with ⟨t, rfl⟩ | rfl
  · exact nofun
  · exact nofun

/-! ## Rows of one shape -/

theorem atRes_completes (k n : Nat) (s t : State) : Completes (atRes k n s t) := .next

theorem execLane_completes (dt : Nat) (h : LaneHdr) (f : State → State) (s : State) : Completes (execLane dt h f s) :=
  .guard .next

/-- A row of the mailbox service faults only where the whole datagram is another row's (R66). -/
theorem execMail_completesOrOther (c : Cmd) (mine : List Byte → Bool) (dt : Nat) (p : Packet) (s : State) :
    CompletesOrOther (execMail c mine dt p s) := by
  unfold execMail
  split
  · exact .inl .next
  · split
    · exact .inl .next
    · exact .inr rfl

/-- A debug action faults only where the whole datagram is another row's (R306). -/
theorem execDebug_completesOrOther (code dt : Nat) (p : Packet) (allowed : Debugger → State → Option Status)
    (act : Debugger → State → Status × List Byte × State) (s : State) :
    CompletesOrOther (execDebug code dt p allowed act s) := by
  unfold execDebug
  split
  · exact .inl .next
  · split
    · exact .inr rfl
    · refine .inl (.guard (.guard ?_))
      dsimp only
      split
      · exact .next
      · refine .guard ?_
        split
        · exact .next
        · refine .guard (.guard ?_)
          split
          · exact .next
          · exact .next

/-- A register row is PARAM_WRITE's where a host writes it, and completes where the trigger port does (R292, R371). -/
theorem execReg_completesOrOther (i : Nat) (ported : Bool) (dt : Nat) (w : RegWrite) (s : State) :
    CompletesOrOther (execReg i ported dt w s) := by
  cases w with
  | host p => exact execMail_completesOrOther _ _ _ _ _
  | port mask => exact .inl (.ite .next .next)

/-! ## Rows that look up twice

Each ends at once where it finds nothing to act on, and each further branch in one next state. -/

theorem execShadowPassDone_completes (dt : Nat) (s : State) : Completes (execShadowPassDone dt s) := by
  unfold execShadowPassDone
  dsimp only
  split
  · exact .next
  · split
    · exact .next
    · exact .guard .next
    · exact .next

theorem execProgramSwitchGap_completes (dt : Nat) (s : State) : Completes (execProgramSwitchGap dt s) := by
  unfold execProgramSwitchGap
  dsimp only
  split
  · exact .next
  · refine .guard ?_
    split
    · split
      · exact .next
      · exact .next
    · exact .guard (.guard .next)

theorem execFlashBlockCopyDone_completes (dt b target : Nat) (s : State) :
    Completes (execFlashBlockCopyDone dt b target s) := by
  refine .guard ?_
  split
  · exact .next
  · split
    · exact .next
    · exact .next

theorem execStageSupplyFault_completes (dt st : Nat) (s : State) : Completes (execStageSupplyFault dt st s) := by
  refine .guard ?_
  split
  · exact .next
  · split
    · exact .guard .next
    · exact .next

theorem execJoinLoadDone_completes (dt p : Nat) (s : State) : Completes (execJoinLoadDone dt p s) := by
  refine .guard ?_
  split
  · exact .next
  · split
    · exact .next
    · exact .guard .next

theorem execMigrationStart_completes (dt k : Nat) (tests : List (Nat × U64)) (s : State) :
    Completes (execMigrationStart dt k tests s) := by
  refine .guard ?_
  split
  · exact .next
  · refine .guard ?_
    split
    all_goals exact .next

theorem execConverterCalibrationDone_completes (dt p : Nat) (offsets gains : List Nat) (s : State) :
    Completes (execConverterCalibrationDone dt p offsets gains s) := by
  refine .guard ?_
  split
  · exact .next
  · refine .guard ?_
    split
    · exact .guard (.guard .next)
    · exact .next

/-! ## Every row -/

/-- Every command completes, but for a datagram of another row; that a command is ill-formed changes nothing of this (log 30). The
cases are grouped by the shape of the row's meaning. -/
theorem exec_completesOrOther (c : Instr) (s : State) : CompletesOrOther (exec c s) := by
  cases c with
  -- The mailbox service (R66).
  | identify | commandsList | openSession | closeSession | setKey | keyInfo | subscribe | completionRead | paramRead
  | paramWrite | tableRead | tableWrite | commitConfig | discardEdits | configExport | configImport | setMode | restart
  | roleSwap | eventRead | eventClear | programLoad | programSwitch | valueWrite | forceSet | forceClear | taskTrigger
  | split | join | debugAttach | debugDetach | annexMigrate | annexRotate | ledgerRead | alarmAck | alarmShelve
  | alarmUnshelve | ladderAck | journalRead | archiveRead | trendRead | aiCalibrate | aoTrimHold4 | aoTrimHold20
  | aoTrimRecord4 | aoTrimRecord20 | aoTrimStore | aoTrimRelease | aoTrimClear | hartPass | loopInjectStart
  | loopInjectStop | loopCaptureArm | loopCaptureCancel | loopCaptureRead | canSend | canCancel | canRecover
  | panelUpdate | panelRefresh | timeAcceptStep | updateBegin | updateAbandon | updateBlock | updateVerify | activate
  | rollback => exact execMail_completesOrOther _ _ _ _ _
  -- Debug actions (R306).
  | debugReadRegisters | debugWriteRegister | debugReadMemory | debugWriteMemory | debugBreakpoint | debugHalt
  | debugResume | debugStep | debugTracepoint =>
    dsimp only [exec, execDebugReadRegisters, execDebugWriteRegister, execDebugReadMemory, execDebugWriteMemory,
      execDebugBreakpoint, execDebugHalt, execDebugResume, execDebugStep, execDebugTracepoint]
    exact execDebug_completesOrOther _ _ _ _ _ _
  -- Register rows (R371).
  | seqGo | goAll | seqStop | slotSwap | doFaultClear | arbFreeze => exact execReg_completesOrOther _ _ _ _ _
  -- Frames over a sync lane (R260).
  | agreedInputFrame | digestFrame | withheldMarker | loopAgreementFrame | loopAnswerFrame | alarmAgreementFrame
  | alarmExchangeFrame | retainedHashFrame | copyDataFrame | switchAnnouncement | departureNotice | commandRelay
  | voidNotice | stationStateAnnouncement | timeCorrectionAnnouncement | panelStartAnnouncement | mailboxForwardFrame
  | accessionFrame | statusFrame =>
    dsimp only [exec, execAgreedInputFrame, execDigestFrame, execWithheldMarker, execLoopAgreementFrame,
      execLoopAnswerFrame, execAlarmAgreementFrame, execAlarmExchangeFrame, execRetainedHashFrame, execCopyDataFrame,
      execSwitchAnnouncement, execDepartureNotice, execCommandRelay, execVoidNotice, execStationStateAnnouncement,
      execTimeCorrectionAnnouncement, execPanelStartAnnouncement, execMailboxForwardFrame, execAccessionFrame,
      execStatusFrame]
    exact .inl (execLane_completes _ _ _ _)
  -- Rows of one element of a unit.
  | valueWriteApply | taskDueStart | repeatFrameSend | sliceLoad | taskClose | cycleRelease | digestWaitExpiry | taskFault
  | onDelayExpiry | offDelayExpiry | rateWindowEnd | shelveExpiry | releaseDelayExpiry | unackReminder
  | alarmBorrowTimeout | loopTrigger | injectionEnd | canFrameReceived => exact .inl (atRes_completes _ _ _ _)
  -- Rows without a guard.
  | reassemblyTimeout | authLockoutEnd | powerApplied | switchInstant | m3ShareEvaluation | curatorRestart
  | watchdogExpiry | powerFailDetected | pairCommandApply | soakExpiry | alarmScan | rungTimeExpiry | rungRepeat
  | alarmFrameLate | journalFlashWrite | loopBorrowTimeout | arbitrationGrant | catalogueDeferredFire | slewEnd
  | panelFrame | panelTemperatureRead | blinkHalf | archiveFlashWrite | ioBusFrameBoundary | holdupBankCharged =>
    exact .inl .next
  -- Rows with one to five guards.
  | selftestComplete | holdLimitExpiry | feedLoss | holdupEnd | periodicRetainSave | retainSaveTimeout
  | partnerHeartbeatLost | partnerHeartbeatPresent | loopSignatureExchange | flashProgramFailure | ledgerWrite
  | regionFault | budgetFrameStart | diEdgeConfirmed | chatterSecondEnd | ackEdge | phaseEdge | servicePortLink
  | curatorDiagnosticUpdate | dramCeWindowRestart | phaseExtrapolation | diFilterSample => exact .inl (.guard .next)
  | updateIdleTimeout | injectionTest | signatureWindowClose | syncLaneUp | isolatingPatternSeen | dramEccError
  | regionOverlap | sealedAccess | budgetCutoff | converterResult | excitationSwap | cmMeasurement | hartPollDue
  | hartIdentifyRetry | sensorSupplyRecovered | doOvercurrent | doThermalShutdown | doRetry | doFaultFreeSecond
  | fieldSupplyRestored | callOutputFault | callRetry | phaseUnlockTimeout | catalogueEntryFire | pnLinkDown | prpLanDown
  | arpAnnounce | duplicateAddress | addressConflictClear | accessionRetry | stationTimeout | ptpAnnounce | ptpTimeout
  | canBusError | panelRailFault | panelRailGood | trendSample | pnLinkUp | feedRestored | stageHotHour
  | diRawTransition | ptpDelayResponse => exact .inl (.guard (.guard .next))
  | feedReturnDuringSave | driftComparison | wireBreakTimeout | sensorSupplyLost | doReadbackMismatch | fieldSupplyLost
  | ptpSync | doReadbackFaultClear => exact .inl (.guard (.guard (.guard .next)))
  | lockstepMismatch => exact .inl (.guard (.guard (.guard (.guard .next))))
  | syncLaneDown => exact .inl (.guard (.guard (.guard (.guard (.guard .next)))))
  | callAckMessage => exact .inl (.guard (.guard (.ite (.guard .next) .next)))
  | oscillatorFault => exact .inl (.guard (.guard (.ite (.guard (.guard .next)) (.guard .next))))
  -- Rows that look up what they act on, and end at once where there is nothing.
  | firmwareReady | activationFailure | activationDeadline | takebackRetry | sessionIdleExpiry | copyComplete
  | curatorRestartDone | commitConfigDone =>
    dsimp only [exec, execFirmwareReady, execActivationFailure, execActivationDeadline, execTakebackRetry,
      execSessionIdleExpiry, execCopyComplete, execCuratorRestartDone, execCommitConfigDone]
    left
    split
    · exact .next
    · exact .next
  | isolationF1 | dramCopyComplete | notifyHoldEnd | departureF | timeCorrectionApply =>
    dsimp only [exec, execIsolationF1, execDramCopyComplete, execNotifyHoldEnd, execDepartureF, execTimeCorrectionApply]
    left
    split
    · exact .next
    · exact .guard .next
  | copyTimeout | stationAnswer | standinCalibrationDone | spareSelfTest =>
    dsimp only [exec, execCopyTimeout, execStationAnswer, execStandinCalibrationDone, execSpareSelfTest]
    left
    split
    · exact .next
    · exact .guard (.guard .next)
  -- The same behind guards.
  | injectionRetest | aoDebounceExpiry | panelUpdateEnd | slotTableSwapApply | updateVerifyDone =>
    refine .inl (.guard ?_)
    split
    · exact .next
    · exact .next
  | splitDrainInstant | splitDrainTimeout | canFrameSent | canTxTimeout | canRecoveryDone | recoveryRunStart
  | spoilArrival | hartResponseTimeout | forwardTimeout =>
    refine .inl (.guard ?_)
    split
    · exact .next
    · exact .guard .next
  | recalRotationStart =>
    refine .inl (.guard ?_)
    split
    · exact .guard .next
    · exact .next
  | stageThermalLimit | loopEvaluation =>
    refine .inl (.guard ?_)
    split
    · exact .next
    · exact .guard (.guard .next)
  | hartResponse =>
    refine .inl (.guard ?_)
    split
    · exact .next
    · exact .guard (.guard (.guard (.guard .next)))
  | stageMeasurement | hartBurstFrame =>
    refine .inl (.guard (.guard ?_))
    dsimp only
    split
    · exact .next
    · exact .next
  | colourViolation =>
    refine .inl (.guard (.guard ?_))
    split
    · exact .next
    · exact .guard .next
  | inputFrame =>
    refine .inl (.guard (.guard (.guard ?_)))
    dsimp only
    split
    · exact .next
    · exact .guard (.guard .next)
  | shadowPassDone => exact .inl (execShadowPassDone_completes _ _)
  | programSwitchGap => exact .inl (execProgramSwitchGap_completes _ _)
  | flashBlockCopyDone => exact .inl (execFlashBlockCopyDone_completes _ _ _ _)
  | stageSupplyFault => exact .inl (execStageSupplyFault_completes _ _ _)
  | joinLoadDone => exact .inl (execJoinLoadDone_completes _ _ _)
  | migrationStart => exact .inl (execMigrationStart_completes _ _ _ _)
  | converterCalibrationDone => exact .inl (execConverterCalibrationDone_completes _ _ _ _ _)

end Sys2Proof.Machine
end

section
open Sys2Proof.Machine

/-- Settles O9: `exec_completesOrOther` holds of every command, well-formed or not. -/
theorem wellFormedCommandsComplete : Obligations.WellFormedCommandsComplete :=
  ⟨fun c s _ => exec_completesOrOther c s, fun c s r => (exec_completesOrOther c s).ne_refused r⟩
end

section
/-!
PROOFS. Frames over a sync lane that are not taken (R29, R258, R259).
-/
namespace Sys2Proof.Machine

@[simp] theorem modLane_seqIn (s : State) (l : Nat) (f : Lane → Lane) : (s.modLane l f).pair.seqIn = s.pair.seqIn := by
  unfold State.modLane
  rw [modPair_pair]
  split
  · rfl
  · rfl

/-- A frame whose check fails is an error of its lane (R258). -/
theorem laneIn_of_bad {s : State} {h : LaneHdr} (ha : s.mode ≠ .m0) (hb : h.good = false) :
    s.laneIn h = (false, s.modLane h.lane (fun l => { l with errors := l.errors + 1 })) := by
  simp only [State.laneIn, if_neg ha, hb, Bool.not_false, if_true]

/-- The second copy of a frame is a good frame of its lane, and no new one (R29, R259). -/
theorem laneIn_of_repeated {s : State} {h : LaneHdr} (ha : s.mode ≠ .m0) (hg : h.good = true)
    (hq : s.pair.seqIn = some (BitVec.ofNat 32 h.seq)) :
    s.laneIn h = (false, s.modLane h.lane (fun l => { l with good := l.good + 1, lastGood := s.tick })) := by
  simp only [State.laneIn, if_neg ha, hg, Bool.not_true, Bool.false_eq_true, if_false, modLane_seqIn, hq, ne_eq,
    not_true_eq_false, decide_false, Bool.false_and]

end Sys2Proof.Machine

open Sys2Proof.Machine

/-- Settles O54: every row of a lane frame ends with what `laneIn` leaves of a frame that is not taken. -/
theorem badAndRepeatedLaneFrames : Obligations.BadAndRepeatedLaneFrames := by
  rintro i dt h s _ hi rfl hw ha
  exact ⟨fun hb => exec_lane_old hi hw (laneIn_of_bad ha hb), fun hg hq => exec_lane_old hi hw (laneIn_of_repeated ha hg hq)⟩
end

section
/-!
PROOFS. MirrorCount has 32 bits (R265): at its greatest value a mirrored cycle leaves it smaller, not greater.
-/
namespace Sys2Proof.Machine

/-- A synchronised STANDBY in M5 with MirrorCount at its greatest value, on which cycle 1 of task 0 waits for release with digest 8. -/
def mirrorsAtGreatest : State :=
  { State.reset with
    mu := { State.reset.mu with mode := .m5, role := .standby, slot := 0 }
    pair := { State.reset.pair with sync := true, mirrors := BitVec.allOnes 32 }
    tk := { State.reset.tk with task := [(0, { waiting := [⟨1, 0, [], [], 8, 0, []⟩] })] } }

/-- A frame with a good check, the first that arrives. -/
def firstFrame : LaneHdr := ⟨1, true, 5, 0, 1⟩

/-- The PRIMARY's digest 9 of cycle 1 of task 0. -/
def differingDigest : DigestIn := ⟨0, 1, 9, [], []⟩

theorem taken_firstFrame : Taken (mirrorsAtGreatest.elapse 0) firstFrame where
  lane := by decide
  awake := by decide
  good := rfl
  new := nofun

/-- The 2³²-nd mirrored cycle takes MirrorCount back to 0. -/
theorem differingDigest_wraps_mirrors :
    ∃ t, exec (.digestFrame 0 firstFrame differingDigest) mirrorsAtGreatest = .next t ∧ t.pair.mirrors = 0 :=
  ⟨_, rfl, by decide +kernel⟩

end Sys2Proof.Machine

open Sys2Proof Sys2Proof.Machine

/-- Refutes O19: the clause on an unequal digest says that MirrorCount grows, but where it stands at 2³² - 1 the mirrored cycle
takes it back to 0. -/
theorem not_taskFrameRowsComplete : ¬ Obligations.TaskFrameRowsComplete := by
  intro h
  obtain ⟨-, -, -, hdiffers, -⟩ := h
  obtain ⟨t, ht, -, hgrows, -⟩ := hdiffers 0 firstFrame differingDigest _ mirrorsAtGreatest _ rfl taken_firstFrame (by decide)
    rfl (by decide) rfl rfl rfl (by decide)
  obtain ⟨u, hu, hzero⟩ := differingDigest_wraps_mirrors
  obtain rfl : u = t := Host.Outcome.next.inj (hu.symm.trans ht)
  rw [hzero] at hgrows
  exact absurd hgrows (BitVec.not_lt_zero)
end

section
/-!
PROOFS. What the frame lemmas of the rows say of a command that completes.
-/
namespace Sys2Proof.Machine

/-- A completed command leaves the view that its footprint hides as the passing of its ticks leaves it. -/
theorem exec_view {c : Instr} {s t : State} (h : exec c s = .next t) :
    t.view (maskOf (footprint c)) = (s.elapse (ticksOf c)).view (maskOf (footprint c)) :=
  (exec_within c s).eq h

/-- A part outside the footprint reads as the passing of the ticks leaves it. -/
theorem exec_same {c : Instr} {s t : State} {p : Part} (h : exec c s = .next t) (hp : p ∉ footprint c) :
    p.same (s.elapse (ticksOf c)) t :=
  view_same (exec_view h) p (maskOf_off hp)

/-- No command touches the queue of the commands that wait. -/
theorem exec_pending {c : Instr} {s t : State} (h : exec c s = .next t) : t.pending = s.pending :=
  (view_pending (exec_view h)).trans (elapse_pending s _)

end Sys2Proof.Machine

open Sys2Proof.Machine

/-- Settles O7: `exec_within` holds of every row, and outside the footprint nothing is hidden. -/
theorem commandsKeepTheirFootprint : Obligations.CommandsKeepTheirFootprint :=
  fun _ _ _ h => ⟨fun _ hp => exec_same h hp, exec_pending h⟩
end

section
/-!
PROOFS. What a request that has come as far as steps 5 to 9 of R77 is answered, refused or not, and what its answer leaves alone.
-/
namespace Sys2Proof.Machine

/-- Steps 2 to 4 of R77 let a request pass to the checks of its command, on this module alone. -/
structure Reaches (c : Cmd) (row : CmdRow) (r : Req) (u : State) (lvl : Nat) (unset : Bool) : Prop where
  free : u.occupied r.box = false
  found : cmdRow r.code = some row
  level : ∀ l, row.level = some l → l ≤ lvl
  version : r.ver = 1
  place : (r.via == .plant && r.box == 15) = false
  keyed : unset = true → [0x0002, 0x0013, 0x0012, 0x0011].contains r.code = true
  unbarred : c.barred r (u.latch r) = false
  alone : c.isPair r (u.latch r) = false

theorem Reaches.passes {c : Cmd} {row : CmdRow} {r : Req} {u : State} {lvl : Nat} {unset : Bool}
    (h : Reaches c row r u lvl unset) (hc : c.check r (u.latch r) lvl row.modes = none) : Passes c r u lvl unset :=
  ⟨h.free, ⟨row, h.found, h.level, hc⟩, h.version, h.place, h.keyed, h.unbarred, h.alone⟩

/-- A request that fails one of steps 5 to 9 of R77 gets that status in its response, and nothing else happens (R79). -/
theorem Reaches.serveReq_refused {c : Cmd} {row : CmdRow} {r : Req} {u : State} {lvl : Nat} {unset : Bool} {st : Status} {k : Nat}
    (h : Reaches c row r u lvl unset) (hc : c.check r (u.latch r) lvl row.modes = some (st, k)) (key : Option (List Byte))
    (sid : U32) : u.serveReq c r key sid lvl unset = (u.latch r).respond r key sid st k [] := by
  obtain ⟨hf, hrow, hlvl, hv, hp, hk, hb, ha⟩ := h
  have hkey : (unset && !([0x0002, 0x0013, 0x0012, 0x0011].contains r.code)) = false := by
    cases unset with
    | false => rfl
    | true => rw [hk rfl]; rfl
  unfold State.serveReq
  simp only [hf, hrow, hv, hp, hkey, hb, ha, hc, ne_eq, not_true_eq_false, if_false, Bool.or_false, Bool.false_and,
    Bool.false_eq_true]
  refine if_neg ?_
  cases hl : row.level with
  | none => exact Bool.false_ne_true
  | some l => exact fun hlt => absurd (hlvl l hl) (Nat.not_le.mpr (of_decide_eq_true hlt))

/-- A change of one session that keeps its identifier opens and ends no session. -/
theorem modSession_none_iff (s : State) (i k : U32) {f : Session → Session} (hf : ∀ y, (f y).id = y.id) :
    (s.modSession i f).session k = none ↔ s.session k = none := by
  have hid : ∀ y : Session, (if y.id = i then f y else y).id = y.id := fun y => by
    split
    · exact hf y
    · rfl
  simp only [State.session, State.modSession, List.find?_eq_none, List.forall_mem_map, hid]

/-- What changes only sessions, mailboxes and counters of the service, or what is sent, changes no part of the module. -/
theorem same_of_service {e t : State} (h : t = { e with mbx := t.mbx, out := t.out }) (hk : t.mbx.keys = e.mbx.keys)
    (ha : t.mbx.async = e.mbx.async ∧ t.mbx.nextOp = e.mbx.nextOp)
    (hs : t.mbx.scheduled = e.mbx.scheduled ∧ t.mbx.relays = e.mbx.relays) (q : Part) : Part.same e t q := by
  rw [h]
  cases q with
  | keys => exact hk
  | ops => exact ha
  | agreed => exact hs
  | store | effect | transfer | archive | program | forces | tasks | alarm | journal | lockstep | dram =>
    simp only [Part.same, and_self]
  | cycles | release | clk | mu | working | trend | pts | pair | ret | ph | loop | annex | prot | ai | ao | dio | net | can
  | pnl | fw | sup => rfl

/-- A request of an open session that fails one of steps 5 to 9 of R77 is refused, and nothing else of the module changes (R79). -/
theorem refused_of_check {c : Cmd} {row : CmdRow} {e : State} {p : Packet} {x : Session} {st : Status} {k : Nat}
    (h : InSession e p x) (hr : Reaches c row (reqOf p) (e.noted p x) x.level x.unsetKey)
    (hc : c.check (reqOf p) (runsIn e p x) x.level row.modes = some (st, k)) (he : e.out = []) :
    Refused e (e.serveFrame c (reqOf p)) p (some x.key) x.id st k := by
  have hrun : (runsIn e p x).mbx.restarting = none := (heard_runs h.toHeard : e.mbx.restarting = none)
  rw [serveFrame_session h, hr.serveReq_refused hc, respond_eq _ h.here hrun]
  exact {
    answer := by
      show e.out ++ _ = _
      rw [he]
      rfl
    counted := rfl
    named := rfl
    counters := ⟨rfl, rfl, rfl, rfl, rfl⟩
    still := ⟨same_of_service rfl rfl ⟨rfl, rfl⟩ ⟨rfl, rfl⟩, rfl, rfl, rfl, rfl, rfl, rfl, rfl⟩
    sessions := fun j => modSession_none_iff e x.id j (f := fun y => { y with counter := some (reqOf p).counter, lastTick := e.tick })
      (fun _ => rfl) }

/-! ## SET_MODE -/

/-- The row of SET_MODE in the table of R84. -/
def setModeRow : CmdRow := ⟨0x0030, some 1, 0x7FC⟩

theorem setMode_reaches {e : State} {p : Packet} {x : Session} (hcode : (reqOf p).code = 0x0030)
    (hbox : e.boxFree (reqOf p).box = true) (hver : (reqOf p).ver = 1) (hplace : p.via = .plant → (reqOf p).box ≠ 15)
    (hlvl : 1 ≤ x.level) (hkey : x.unsetKey = false) :
    Reaches setModeCmd setModeRow (reqOf p) (e.noted p x) x.level x.unsetKey where
  free := (Bool.not_eq_true' _).mp hbox
  found := by rw [hcode]; decide
  level := by
    rintro l ⟨⟩
    exact hlvl
  version := hver
  place := by
    cases hv : p.via with
    | plant => exact (Bool.and_eq_false_iff).mpr (.inr (beq_false_of_ne (hplace hv)))
    | service => exact (Bool.and_eq_false_iff).mpr (.inl (by show (p.via == Via.plant) = false; rw [hv]; rfl))
  keyed := by
    rw [hkey]
    exact nofun
  unbarred := rfl
  alone := Bool.and_false _

/-- The transitions of R36 that a SET_MODE may name, but for those to M10. -/
def modeTable : List (Mode × Mode) :=
  [(.m2, .m3), (.m3, .m2), (.m3, .m4), (.m3, .m5), (.m3, .m6), (.m3, .m8), (.m6, .m8), (.m8, .m6),
    (.m4, .m7), (.m5, .m7), (.m6, .m7), (.m8, .m7), (.m7, .m6), (.m7, .m8), (.m7, .m5), (.m4, .m3), (.m5, .m3), (.m6, .m3),
    (.m7, .m3), (.m8, .m3), (.m10, .m2), (.m10, .m3)]

/-- R36 names no level for a transition that it does not hold. -/
theorem modeLevel_outside {u : State} {m : Mode} (hm : m ≠ .m10) (h : (u.mode, m) ∉ modeTable) : u.modeLevel m = 0 := by
  revert h hm
  unfold State.modeLevel modeTable
  cases u.mode <;> cases m <;> decide

/-- Outside its table R36 holds no transition. -/
theorem modeRefused_outside {u : State} {m : Mode} (pair : Bool) (hm : m ≠ .m10) (h : (u.mode, m) ∉ modeTable) :
    u.modeRefused m pair = true := by
  unfold State.modeRefused
  rw [if_neg hm]
  cases hu : u.mode with
  | m0 | m1 | m9 | m11 => rfl
  | m2 => cases m with
    | m3 => exact absurd (by rw [hu]; decide) h
    | _ => rfl
  | m3 => cases m with
    | m2 | m4 | m5 | m6 | m8 => exact absurd (by rw [hu]; decide) h
    | _ => rfl
  | m4 | m5 => cases m with
    | m3 | m7 => exact absurd (by rw [hu]; decide) h
    | _ => rfl
  | m6 => cases m with
    | m3 | m7 | m8 => exact absurd (by rw [hu]; decide) h
    | _ => rfl
  | m8 => cases m with
    | m3 | m6 | m7 => exact absurd (by rw [hu]; decide) h
    | _ => rfl
  | m7 => cases m with
    | m3 | m5 | m6 | m8 => exact absurd (by rw [hu]; decide) h
    | _ => rfl
  | m10 => cases m with
    | m2 | m3 => exact absurd (by rw [hu]; decide) h
    | _ => rfl

/-- A SET_MODE that R36 does not hold is refused in step 7 of R77, be it by the table or by the modes in which it is allowed at all. -/
theorem setMode_check_outside {r : Req} {u : State} {lvl : Nat} {m : Mode} (hlen : r.body.length = 4) (hres : beAt r.body 2 2 = 0)
    (ht : modeTarget r.body = some m) (hne : m ≠ u.mode) (hm : m ≠ .m10) (h : (u.mode, m) ∉ modeTable) :
    setModeCmd.check r u lvl setModeRow.modes = some (.stateRefused, noPos) := by
  have hmal : setModeCmd.malformed r u = none := if_neg (not_or.mpr ⟨not_not.mpr hlen, not_not.mpr hres⟩)
  have hden : setModeCmd.denied r u lvl = none := by
    simp only [setModeCmd, ht, modeLevel_outside hm h, Nat.not_lt_zero, and_false, if_false]
  have hun : setModeCmd.unready r u = some noPos := by
    simp only [setModeCmd, ht, modeRefused_outside _ hm h, hne, ne_eq, not_false_eq_true, and_self, if_true]
  unfold Cmd.check
  rw [hmal, hden, hun]
  exact ite_self _

/-- A SET_MODE to the present mode passes while nothing is pending (R37). -/
theorem setMode_check_present {r : Req} {u : State} {lvl : Nat} (hlen : r.body.length = 4) (hres : beAt r.body 2 2 = 0)
    (ht : modeTarget r.body = some u.mode) (hmode : bit setModeRow.modes u.mode.num = true) (hp : u.mu.pending = none)
    (hj : u.mu.joinOp = none) : setModeCmd.check r u lvl setModeRow.modes = none := by
  have hmal : setModeCmd.malformed r u = none := if_neg (not_or.mpr ⟨not_not.mpr hlen, not_not.mpr hres⟩)
  have hden : setModeCmd.denied r u lvl = none := by
    simp only [setModeCmd, ht, ne_eq, not_true_eq_false, false_and, if_false]
  have hun : setModeCmd.unready r u = none := by
    simp only [setModeCmd, ht, ne_eq, not_true_eq_false, false_and, if_false]
  have hval : setModeCmd.value r u = none := by
    simp only [setModeCmd, ht, ne_eq, not_true_eq_false, and_false, if_false]
  have hpair : setModeCmd.isPair r u = false := Bool.and_false _
  have hasync : setModeCmd.async r u = false := by
    simp only [setModeCmd, ht, bne_self_eq_false]
  have hbusy : setModeCmd.busy r u = false := by
    simp only [setModeCmd, hp, hj, Option.isSome_none, Bool.or_self]
  unfold Cmd.check
  simp only [hmal, hden, hun, hval, hpair, hasync, hbusy, hmode, Bool.not_true, Bool.false_and, Bool.or_self, Bool.false_eq_true,
    if_false]
  rfl

/-- An accepted command that only answers OK leaves every part of the module as it was, and its answer is all that is sent. -/
theorem mail_still {c : Cmd} {mine : List Byte → Bool} {dt : Nat} {p : Packet} {s : State} {x : Session}
    (h : Accepted c (s.elapse dt) p x) (hm : mine p.data = true)
    (hr : c.run (reqOf p) (runsIn (s.elapse dt) p x) = okRep (runsIn (s.elapse dt) p x)) :
    ∃ t, execMail c mine dt p s = .next t ∧ Answers t p x s.mode s.role .ok 0 [] ∧ ∀ q, Part.same (s.elapse dt) t q := by
  have hc : (runsIn (s.elapse dt) p x).mbx.restarting = none := (heard_runs h.toHeard : (s.elapse dt).mbx.restarting = none)
  refine ⟨_, mail_ok h hm hr (.inl rfl) rfl, ?_, fun q => ?_⟩
  · unfold Answers answered okRep
    simp only [id, journalled_out, respond_out _ h.here hc]
    rfl
  · unfold answered okRep
    simp only [id]
    rw [respond_eq _ h.here hc]
    exact same_of_service rfl rfl ⟨rfl, rfl⟩ ⟨rfl, rfl⟩ q

/-- SET_MODE to the present mode is no operation (R37). -/
theorem setMode_run_present {r : Req} {u : State} (ht : modeTarget r.body = some u.mode) : setModeCmd.run r u = okRep u := by
  simp only [setModeCmd, Cmd.plain, ht, if_true]

end Sys2Proof.Machine

open Sys2Proof Sys2Proof.Machine

/-- Settles O58: outside the table step 7 of R77 fails, and to the present mode every step passes. -/
theorem setModeOutsideTheTable : Obligations.SetModeOutsideTheTable := by
  rintro dt p x m s e rfl hin hcode hbox hver hplace hlvl hkey hlen hres ht hmode
  have hreach := setMode_reaches (e := s.elapse dt) hcode hbox hver hplace hlvl hkey
  refine ⟨fun hne hout hm => ?_, ?_⟩
  · exact ⟨_, execMail_heard hin.toHeard (codeIs_of hcode),
      refused_of_check hin hreach (setMode_check_outside hlen hres ht hne hm hout) rfl⟩
  · rintro rfl hp hj
    have hbit : ∀ m ∈ [Mode.m2, .m3, .m4, .m5, .m6, .m7, .m8, .m10], bit setModeRow.modes m.num = true := by decide
    have hacc : Accepted setModeCmd (s.elapse dt) p x :=
      ⟨hin, hcode, hreach.passes (setMode_check_present hlen hres ht (hbit _ hmode) hp hj)⟩
    exact mail_still hacc (codeIs_of hcode) (setMode_run_present ht)
end

section
/-!
PROOFS. What an accepted command leaves: one that answers OK, and one that answers ACCEPTED and begins an operation.
-/
namespace Sys2Proof.Machine

/-- An accepted command that answers OK: beside the mailbox service the state it has run to stands, and its answer is all that is
sent. -/
theorem mail_okRep {c : Cmd} {mine : List Byte → Bool} {dt : Nat} {p : Packet} {s u : State} {x : Session} {body : List Byte}
    {arg : Nat} (h : Accepted c (s.elapse dt) p x) (hm : mine p.data = true)
    (hr : c.run (reqOf p) (runsIn (s.elapse dt) p x) = okRep u body arg) (hb : u.mbx.restarting = s.mbx.restarting)
    (ho : u.out = []) :
    ∃ t, execMail c mine dt p s = .next t ∧ t.body = u.body ∧ Answers t p x u.mode u.role .ok arg body := by
  have hu : u.mbx.restarting = none := hb.trans (heard_runs h.toHeard : (s.elapse dt).mbx.restarting = none)
  refine ⟨_, mail_ok h hm hr (.inl rfl) rfl, ?_, ?_⟩
  · exact respond_body u h.here hu _ _ _ _ _
  · refine (respond_out u h.here hu _ _ _ _ _).trans ?_
    rw [ho]
    rfl

/-- An accepted command that completes by notification (R81): its effect takes place after its ACCEPTED, in a state in which its
operation runs and that beside the mailbox service is as the ticks have left it. -/
theorem mail_runAsync {c : Cmd} {mine : List Byte → Bool} {dt : Nat} {p : Packet} {s : State} {x : Session}
    {apply : Option Nat → List Byte → U32 → State → State} (h : Accepted c (s.elapse dt) p x) (hm : mine p.data = true)
    (hr : c.run (reqOf p) (runsIn (s.elapse dt) p x) = runAsync apply (reqOf p) (runsIn (s.elapse dt) p x)) :
    ∃ v, execMail c mine dt p s = .next (apply (some s.mbx.nextOp) (reqOf p).body x.id v) ∧ v.body = (s.elapse dt).body ∧
      v.mbx.async = s.mbx.async ++ [⟨s.mbx.nextOp, x.id, (reqOf p).tag, (reqOf p).code, (reqOf p).counter⟩] ∧
      Answers v p x s.mode s.role .accepted 0 [] := by
  have hc : ((runsIn (s.elapse dt) p x).startOp (reqOf p)).2.mbx.restarting = none :=
    (heard_runs h.toHeard : (s.elapse dt).mbx.restarting = none)
  rw [mail_ok h hm hr (.inr rfl) rfl, ← inSession_id h.toInSession]
  refine ⟨_, rfl, ?_, ?_, ?_⟩
  · exact respond_body _ h.here hc _ _ _ _ _
  · exact congrArg (fun t => t.mbx.async) (respond_eq _ h.here hc _ _ _ _ _)
  · unfold Answers
    rw [← inSession_id h.toInSession]
    exact respond_out _ h.here hc _ _ _ _ _

/-! ## The configuration store -/

/-- The working image is committed whole (R49). -/
def State.commits (u : State) : State :=
  { u with cfg := { u.cfg with
      committed := some { u.cfg.working with schema := u.fwSchema }, working := { u.cfg.working with schema := u.fwSchema },
      generation := u.cfg.generation + 1, older := none, migratedFrom := 0, dropCount := 0, state := 1, applyCommitted := true } }

/-- A commit whose image passes its checks tells its generation and digest in EV006 and in its completion (R49). -/
theorem commitDone_passed {u : State} (op : Option Nat) (hc : u.checkImage u.activeProg u.cfg.working = none) :
    ∃ b, u.commitDone op =
      (u.commits.raise 6 [(4, u.commits.cfg.generation.toNat), (8, u.commits.configDigest)]).completeOpt op .ok b := by
  unfold State.commitDone
  rw [hc]
  exact ⟨_, rfl⟩

theorem commitDone_body {u : State} (op : Option Nat) (hc : u.checkImage u.activeProg u.cfg.working = none) :
    (u.commitDone op).body = u.commits.body := by
  obtain ⟨b, h⟩ := commitDone_passed op hc
  rw [h, completeOpt_body, raise_body]

/-- EV006 carries what the commit leaves. -/
theorem commitDone_occurs {e u : State} (op : Option Nat) (hc : u.checkImage u.activeProg u.cfg.working = none)
    (hi : u.ident = e.ident) (hs : u.ev = e.ev) (hn : u.now = e.now) :
    Occurs e (u.commitDone op) 6 [(4, (u.commitDone op).cfg.generation.toNat), (8, (u.commitDone op).configDigest)] := by
  have hgen : (u.commitDone op).cfg = u.commits.cfg := (congrArg State.cfg (commitDone_body op hc) :)
  have hdig : (u.commitDone op).configDigest = u.commits.configDigest :=
    (congrArg (fun t => State.configDigest t) (commitDone_body op hc) :)
  obtain ⟨b, h⟩ := commitDone_passed op hc
  rw [hgen, hdig, h]
  exact occurs_raise (completeOpt_ev _ _ _ _) (congrArg (fun i => ({ u with ident := i } : State).eventPresent 6) hi)
    (congrArg (fun v => tget v.src 6 {}) hs) hn

/-- A commit whose image fails a check changes neither image (R49). -/
theorem commitDone_failed {u : State} (op : Option Nat) (hc : u.checkImage u.activeProg u.cfg.working ≠ none) :
    (u.commitDone op).cfg = u.cfg := by
  unfold State.commitDone
  split
  · exact completeOpt_cfg _ _ _ _
  · exact absurd ‹_› hc

/-- The running commit has ended. -/
def State.commitOver (e : State) : State := { e with cfg := { e.cfg with commit := none } }

theorem exec_commitConfigDone {dt k : Nat} {op : Option Nat} {s : State} (hk : s.cfg.commit = some (op, k)) :
    exec (.commitConfigDone dt) s = .next ((s.elapse dt).commitOver.commitDone op) := by
  show execCommitConfigDone dt s = _
  simp only [execCommitConfigDone, elapse_cfg, hk]
  rfl

/-- What a session has begun to read by CONFIG_EXPORT replaces what it had begun before. -/
theorem exportOf_begun (u : State) (i : U32) (k : Nat) (b : List Byte) :
    ({ u with cfg := { u.cfg with exports := u.cfg.exports.filter (fun x => x.1 != i) ++ [(i, k, b)] } } : State).exportOf i k =
      some b := by
  have hnone : (u.cfg.exports.filter (fun x => x.1 != i)).find? (fun x => x.1 == i && x.2.1 == k) = none := by
    rw [List.find?_eq_none]
    intro x hx
    have := (List.mem_filter.mp hx).2
    simp_all
  simp only [State.exportOf, List.find?_append, hnone, Option.none_or, List.find?_cons, beq_self_eq_true, Bool.and_self,
    Option.map_some]

theorem configExport_run_first {r : Req} {u : State} {b : List Byte} (ha : r.arg = 0)
    (hb : u.imageBytes (beAt r.body 0 1) = some b) :
    configExportCmd.run r u = okRep { u with cfg := { u.cfg with
      exports := u.cfg.exports.filter (fun x => x.1 != r.session) ++ [(r.session, beAt r.body 0 1, b)] } } (b.take 4096) := by
  show (if r.arg = 0 then _ else _) = _
  rw [if_pos ha, hb]

theorem configExport_run_next {r : Req} {u : State} {b : List Byte} (ha : r.arg ≠ 0)
    (hb : u.exportOf r.session (beAt r.body 0 1) = some b) :
    configExportCmd.run r u = okRep u (slice b r.arg 4096) := by
  show (if r.arg = 0 then _ else _) = _
  rw [if_neg ha, hb]

/-- The first block of an import that needs more (R54). -/
theorem configImport_run_first {r : Req} {u : State} (ha : r.arg = 0) (hh : headerRefused u.fwSchema r.body = false)
    (hl : r.body.length < leAt r.body 8 4) :
    configImportCmd.run r u =
      okRep { u with cfg := { u.cfg with importing := some ⟨r.body.length, leAt r.body 8 4, r.body⟩ } } := by
  have hroom : ¬ leAt r.body 8 4 < r.body.length := Nat.not_lt.mpr hl.le
  simp only [configImportCmd, Cmd.plain, ha, hh, hroom, hl, decide_true, if_true, Bool.not_true, Bool.false_eq_true, and_false,
    false_and, if_false, Nat.zero_add, List.nil_append]

/-- The last block of an import whose digest is right (R54, R547). -/
theorem configImport_run_last {r : Req} {u : State} {y : Import} (ha : r.arg ≠ 0) (hy : u.cfg.importing = some y)
    (hn : y.next = r.arg) (hl : y.bytes.length = y.next) (ht : y.total = y.next + r.body.length)
    (hd : imageDigestOk (y.bytes ++ r.body) = true) :
    configImportCmd.run r u = okRep (u.importDone (y.bytes ++ r.body)) := by
  have hroom : ¬ y.total < r.arg + r.body.length := by omega
  have hwhole : ¬ (y.bytes ++ r.body).length < y.total := by
    rw [List.length_append]
    omega
  simp only [configImportCmd, Cmd.plain, ha, hy, hn, hroom, hwhole, hd, decide_false, if_false, Option.getD_some, ne_eq,
    not_true_eq_false, Option.isNone_some, Bool.false_eq_true, or_self, and_false, false_and, Bool.not_true]

end Sys2Proof.Machine

open Sys2Proof Sys2Proof.Machine

/-- Settles O12: each row answers by `mail_okRep` or `mail_runAsync`, and a commit ends by `commitDone_passed` or
`commitDone_failed`. -/
theorem configurationRowsComplete : Obligations.ConfigurationRowsComplete := by
  refine ⟨fun dt p x s h => ?_, fun dt k op s hk hc => ?_, fun dt k op s hk hc => ?_, fun dt p x s h => ?_,
    fun dt p x b s h ha hb => ?_, fun dt p x b s h ha hb => ?_, fun dt p x s h ha hh hl => ?_,
    fun dt p x y img s h ha hy hn hl ht hd himg => ?_⟩
  · obtain ⟨v, hv, hbody, hasync, hans⟩ := mail_runAsync h (codeIs_of h.code) rfl
    have hcfg : v.cfg = s.cfg := (congrArg State.cfg hbody :)
    have htick : v.tick = (s.elapse dt).tick := (congrArg (fun t => State.tick t) hbody :)
    rw [h.code] at hasync
    exact ⟨_, hv, by rw [← hcfg, ← htick]; rfl, hasync, hans⟩
  · have hpass : (s.elapse dt).commitOver.checkImage s.activeProg s.cfg.working = none := hc
    refine ⟨_, exec_commitConfigDone hk, ?_, commitDone_occurs op hpass rfl rfl rfl⟩
    exact (congrArg State.cfg (commitDone_body op hpass) :)
  · exact ⟨_, exec_commitConfigDone hk, commitDone_failed (u := (s.elapse dt).commitOver) op hc⟩
  · obtain ⟨t, ht, hbody, hans⟩ := mail_okRep h (codeIs_of h.code) rfl rfl rfl
    exact ⟨t, ht, (congrArg State.cfg hbody :), hans⟩
  · have hrun := configExport_run_first (u := runsIn (s.elapse dt) p x) ha hb
    rw [inSession_id h.toInSession] at hrun
    obtain ⟨t, ht, hbody, hans⟩ := mail_okRep h (codeIs_of h.code) hrun rfl rfl
    exact ⟨t, ht, (congrArg (fun u => State.exportOf u x.id _) hbody :).trans (exportOf_begun _ _ _ _), hans⟩
  · rw [← inSession_id h.toInSession] at hb
    obtain ⟨t, ht, hbody, hans⟩ := mail_okRep h (codeIs_of h.code)
      (configExport_run_next (u := runsIn (s.elapse dt) p x) ha hb) rfl rfl
    exact ⟨t, ht, (congrArg State.cfg hbody :), hans⟩
  · obtain ⟨t, ht, hbody, hans⟩ := mail_okRep h (codeIs_of h.code)
      (configImport_run_first (u := runsIn (s.elapse dt) p x) ha hh hl) rfl rfl
    exact ⟨t, ht, (congrArg State.cfg hbody :), hans⟩
  · obtain ⟨t, ht, hbody, hans⟩ := mail_okRep h (codeIs_of h.code)
      (configImport_run_last (u := runsIn (s.elapse dt) p x) ha hy hn hl ht hd) rfl rfl
    subst himg
    exact ⟨t, ht, (congrArg State.cfg hbody :), hans⟩
end

section
/-!
PROOFS. Entering a mode (R39–R44): of the mode unit and the heartbeat line it changes what the transition names, and nothing else.
-/
namespace Sys2Proof.Machine

/-- Mode, role, previous mode, ModeChangeCount, carrier slot and the pending change. -/
def ModeUnit.posted (u : ModeUnit) : Mode × Role × Mode × U32 × Nat × Option ModeChange :=
  (u.mode, u.role, u.prev, u.changes, u.slot, u.pending)

/-- The same of a module, with its heartbeat line. -/
def State.posted (s : State) : (Mode × Role × Mode × U32 × Nat × Option ModeChange) × Heartbeat := (s.mu.posted, s.pair.line)

/-- Every part but the mode unit and the pair, as a set of hidden parts. -/
def others : Nat := 0x7ffffbff7

/-- What touches neither the mode unit nor the pair leaves the mode unit as it is. -/
theorem mu_of_view {s t : State} (h : t.view others = s.view others) : t.mu = s.mu := view_same h .mu (by decide)

theorem line_of_view {s t : State} (h : t.view others = s.view others) : t.pair.line = s.pair.line :=
  (congrArg Pair.line (view_same h .pair (by decide)) :)

theorem posted_of_view {s t : State} (h : t.view others = s.view others) : t.posted = s.posted := by
  unfold State.posted
  rw [mu_of_view h, line_of_view h]

theorem posted_ite {c : Prop} [Decidable c] {a b : State} {V : (Mode × Role × Mode × U32 × Nat × Option ModeChange) × Heartbeat}
    (ha : a.posted = V) (hb : b.posted = V) : (if c then a else b).posted = V := by
  split
  · exact ha
  · exact hb

/-! ## The steps that touch the mode unit or the pair -/

theorem resetSoak_posted (s : State) : s.resetSoak.posted = s.posted := rfl

/-- A join that ends with no cause to leave a mode. -/
theorem joinFails_posted (s : State) (st : Status) (k : Nat) : (s.joinFails st k false).posted = s.posted :=
  (posted_of_view (completeOpt_view _ _ _ _ (by rfl))).trans rfl

theorem dropJoin_posted (s : State) : s.dropJoin.posted = s.posted := posted_ite (joinFails_posted _ _ _) rfl

theorem m3Set_posted (s : State) (x : Nat × Bool) : (s.m3Set x).posted = s.posted := rfl

theorem m3Tell_posted (s : State) (f : Nat) (m : Mode) (k : Nat) : (s.m3Tell f m k).posted = s.posted :=
  posted_of_view (m3Tell_view _ _ _ _)

theorem m3Apply_posted (s : State) : s.m3Apply.posted = s.posted := by
  unfold State.m3Apply
  split
  · rfl
  · exact posted_ite rfl (posted_ite rfl rfl)

theorem m3Eval_posted (s : State) : s.m3Eval.posted = s.posted := by
  unfold State.m3Eval
  refine posted_ite (m3Apply_posted s) ?_
  split
  · exact (m3Tell_posted _ _ _ _).trans (m3Apply_posted s)
  · exact m3Apply_posted s

theorem enterStop_posted (s : State) (old : Mode) (led known : Bool) : (s.enterStop old led known).posted = s.posted := by
  unfold State.enterStop
  extract_lets fromIdle _ _ s1 s2 s3 s4 s5
  have h2 : s2.posted = s.posted := posted_of_view (doFaultClear_view s1 _ (by rfl))
  have h3 : s3.posted = s.posted :=
    posted_ite ((m3Set_posted _ _).trans h2) ((m3Eval_posted _).trans ((m3Set_posted _ _).trans h2))
  have h4 : s4.posted = s.posted := (posted_of_view (loadRegions_view _ (by rfl))).trans h3
  have h5 : s5.posted = s.posted := (posted_of_view (foldl_keep (fun t c => autoStart_view t c (by rfl)) rfl)).trans h4
  exact posted_ite h3 (posted_ite h5 ((posted_of_view (calibrate_view _ _ _ (by rfl))).trans h5))

/-! ## The transition -/

/-- Up to the judgement of a pending change (R36, R41), entering a mode posts that mode and role, the mode left and one more change. -/
theorem enterMode_judged (s : State) (m : Mode) (r : Role) (command : Bool) (cause : Nat) (joins : Bool)
    (streams : List (Nat × Nat)) :
    ∃ t : State, s.enterMode m r command cause joins streams = t.judgePending ∧
      t.posted = ((m, r, s.mode, s.mu.changes + 1, s.mu.slot, s.mu.pending), s.pair.line) := by
  unfold State.enterMode
  extract_lets old oldRole led mastered owned frozen was s1 s2 s3 s4 s5 s6 s7 s8 s9 s10 s11 s12 s13 s14 s15 s16 s17 s18 s19 s20
  have h1 : s1.view others = s.view others := ite_view (injStopAll_view _ (by rfl)) rfl
  have h2 : s2.view others = s.view others := ite_view ((loopsStop_view _ (by rfl)).trans ((stopTasks_view _ (by rfl)).trans h1)) h1
  have h3 : s3.view others = s.view others := ite_view ((trimReleaseAll_view _ (by rfl)).trans h2) h2
  have h4 : s4.view others = s.view others := (supersede_view _ _ (by rfl)).trans h3
  have h5 : s5.posted = ((m, r, s.mode, s.mu.changes + 1, s.mu.slot, s.mu.pending), s.pair.line) := by
    show ((m, r, old, s4.mu.changes + 1, s4.mu.slot, s4.mu.pending), s4.pair.line) = _
    rw [mu_of_view h4, line_of_view h4]
  refine ⟨_, rfl, Eq.trans ?_ h5⟩
  have h6 : s6.posted = s5.posted := posted_ite rfl (dropJoin_posted _)
  have h7 : s7.posted = s5.posted := posted_ite h6 h6
  have h8 : s8.posted = s5.posted := posted_ite h7 h7
  have h9 : s9.posted = s5.posted :=
    posted_ite ((posted_of_view (runAfresh_view _ _ (by rfl))).trans h8)
      (posted_ite ((posted_of_view (joinTasks_view _ (by rfl))).trans h8) h8)
  have h10 : s10.posted = s5.posted := posted_ite h9 h9
  have h11 : s11.posted = s5.posted :=
    posted_ite ((posted_of_view (foldl_keep (fun t a => disarmNear_view t a (by rfl)) rfl)).trans h10) h10
  have h12 : s12.posted = s5.posted := posted_ite ((posted_of_view (canTake_view _ (by rfl))).trans h11) h11
  have h13 : s13.posted = s5.posted :=
    posted_ite ((enterStop_posted _ _ _ _).trans h12) (posted_ite ((posted_of_view (enterIdle_view _ (by rfl))).trans h12) h12)
  have h14 : s14.posted = s5.posted := posted_ite (posted_ite h13 ((posted_of_view (excOff_view _ (by rfl))).trans h13)) h13
  have h15 : s15.posted = s5.posted :=
    (posted_of_view ((freezeTold_view _ _).trans (phaseReconfig_view _ _ _ (by rfl)))).trans h14
  have h16 : s16.posted = s5.posted :=
    (posted_of_view ((canRefresh_view _ (by rfl)).trans (passLead_view _ _ _ _ _ (by rfl)))).trans h15
  have h17 : s17.posted = s5.posted := (resetSoak_posted _).trans ((posted_of_view (refreshForces_view _ (by rfl))).trans h16)
  have h18 : s18.posted = s5.posted := posted_ite ((posted_of_view (releaseAll_view _ (by rfl))).trans h17) h17
  have h19 : s19.posted = s5.posted := (posted_of_view (raise_view _ _ _)).trans h18
  have h20 : s20.posted = s5.posted := posted_ite h19 ((posted_of_view (raise_view _ _ _)).trans h19)
  exact (posted_of_view (tellMode_view _ _)).trans h20

/-- A pending change that is given up leaves mode, role and heartbeat line as they are. -/
theorem giveUp_posted (s : State) (st : Status) :
    (s.giveUp st).posted = ((s.mu.mode, s.mu.role, s.mu.prev, s.mu.changes, s.mu.slot, none), s.pair.line) := by
  unfold State.giveUp
  split
  · rename_i h
    show ((_, _, _, _, _, s.mu.pending), _) = _
    rw [h]
  · rename_i c h
    refine (posted_of_view (completeOpt_view _ _ _ _ (by rfl))).trans ?_
    exact posted_ite rfl rfl

/-- The judgement of a pending change leaves all that is posted but that change, and leaves none where there is none. -/
theorem judgePending_posted (s : State) :
    ∃ c, s.judgePending.posted = ((s.mu.mode, s.mu.role, s.mu.prev, s.mu.changes, s.mu.slot, c), s.pair.line) ∧
      (s.mu.pending = none → c = none) := by
  unfold State.judgePending
  split
  · exact ⟨s.mu.pending, rfl, id⟩
  · rename_i c h
    refine ⟨if c.cause = 7 ∧ c.target = s.mode ∧ c.target ≠ .m9 then none else if s.mayGo c then some c else none, ?_, ?_⟩
    · split
      · exact giveUp_posted _ _
      · split
        · rw [← h]; rfl
        · exact giveUp_posted _ _
    · rw [h]; exact nofun

/-- What entering a mode posts (R39–R44): mode and role, the mode left, one more change; carrier slot and heartbeat line stay, and no
change is pending where none was. -/
theorem enterMode_posted (s : State) (m : Mode) (r : Role) (command : Bool) (cause : Nat) (joins : Bool)
    (streams : List (Nat × Nat)) :
    ∃ c, (s.enterMode m r command cause joins streams).mu.posted = (m, r, s.mode, s.mu.changes + 1, s.mu.slot, c) ∧
      (s.enterMode m r command cause joins streams).pair.line = s.pair.line ∧ (s.mu.pending = none → c = none) := by
  obtain ⟨t, ht, hp⟩ := enterMode_judged s m r command cause joins streams
  obtain ⟨c, hc, hn⟩ := judgePending_posted t
  simp only [State.posted, ModeUnit.posted, Prod.mk.injEq] at hp
  obtain ⟨⟨hmode, hrole, hprev, hchanges, hslot, hpending⟩, hline⟩ := hp
  rw [hmode, hrole, hprev, hchanges, hslot, hline, ← ht] at hc
  rw [hpending] at hn
  exact ⟨c, congrArg Prod.fst hc, congrArg Prod.snd hc, hn⟩

end Sys2Proof.Machine
end

section
/-!
PROOFS. Switch instants and frame boundaries (R39–R42): what they do to the mode unit.
-/
namespace Sys2Proof.Machine

/-! ## What leaves the mode unit alone -/

@[simp] theorem announce_mu (s : State) (k : Nat) (l : List Nat) : (s.announce k l).mu = s.mu :=
  kept (m := 0) (fun _ _ => announce_view _ _ _) .mu (by decide)

@[simp] theorem m3Tell_mu (s : State) (f : Nat) (m : Mode) (k : Nat) : (s.m3Tell f m k).mu = s.mu := announce_mu _ _ _

@[simp] theorem resync_mu (s : State) : s.resync.mu = s.mu := kept (fun _ h => resync_view s h) .mu (by decide)

@[simp] theorem synchronise_mu (s : State) : s.synchronise.mu = s.mu := kept (fun _ h => synchronise_view s h) .mu (by decide)

@[simp] theorem partnerEnters_mu (s : State) (c : ModeChange) : (s.partnerEnters c).mu = s.mu := rfl

@[simp] theorem resumeNow_mu (s : State) : s.resumeNow.mu = s.mu := kept (fun _ h => resumeNow_view s h) .mu (by decide)

@[simp] theorem applyConfig_mu (s : State) : s.applyConfig.mu = s.mu := kept (fun _ h => applyConfig_view s h) .mu (by decide)

@[simp] theorem sendAccession_mu (s : State) (b : Bool) : (s.sendAccession b).mu = s.mu :=
  kept (m := 0) (fun _ _ => sendAccession_view _ _) .mu (by decide)

@[simp] theorem resumeNow_clk (s : State) : s.resumeNow.clk = s.clk := kept (fun _ h => resumeNow_view s h) .clk (by decide)

@[simp] theorem applyConfig_clk (s : State) : s.applyConfig.clk = s.clk := kept (fun _ h => applyConfig_view s h) .clk (by decide)

theorem resumeNow_copying (s : State) : s.resumeNow.copying = s.copying := by
  have h : Part.same s s.resumeNow .program := kept (fun _ h => resumeNow_view s h) .program (by decide)
  obtain ⟨-, -, -, -, -, hswitch, -⟩ := h
  unfold State.copying
  rw [hswitch]

theorem applyConfig_copying (s : State) : s.applyConfig.copying = s.copying := by
  have h : Part.same s s.applyConfig .program := kept (fun _ h => applyConfig_view s h) .program (by decide)
  obtain ⟨-, -, -, -, -, hswitch, -⟩ := h
  unfold State.copying
  rw [hswitch]

/-! ## A switch instant -/

theorem mu_posted_ite {c : Prop} [Decidable c] {a b : State} {V : Mode × Role × Mode × U32 × Nat × Option ModeChange}
    (ha : a.mu.posted = V) (hb : b.mu.posted = V) : (if c then a else b).mu.posted = V := by
  split
  · exact ha
  · exact hb

/-- An automatic transition that is put on wait leaves what is posted. -/
theorem auto_posted (s : State) (m : Mode) (r : Role) (k : Nat) : (s.auto m r k).mu.posted = s.mu.posted := by
  unfold State.auto
  split
  · exact mu_posted_ite rfl rfl
  · rfl

/-- PRIMARY and STANDBY exchange their roles (R280). -/
theorem swapRoles_posted (s : State) (c : ModeChange) (hn : s.mu.pending = none) :
    (s.swapRoles c).mu.posted = (c.target, c.role, s.mode, s.mu.changes + 1, s.mu.slot, none) := by
  obtain ⟨p, hp, -, hnone⟩ := enterMode_posted s c.target c.role c.command c.cause false []
  rw [hnone hn] at hp
  rw [← hp]
  unfold State.swapRoles
  extract_lets s1 s2 s3 s4
  have h4 : s4.mu = s1.mu := by rw [completeOpt_mu, raise_mu]; rfl
  exact mu_posted_ite (by rw [resync_mu, h4]) (by rw [h4])

/-- The role in which a pending change ends: that of a hold or an update is judged at the instant itself (R36, R43). -/
def State.switchRole (s : State) (c : ModeChange) : Role :=
  if 3 < c.cause ∧ (c.target = .m7 ∨ c.target = .m9) then s.roleIn c.target else c.role

theorem switchRole_of_mu {s t : State} (h : t.mu = s.mu) (c : ModeChange) : t.switchRole c = s.switchRole c := by
  unfold State.switchRole State.roleIn State.role
  rw [h]

/-- A pending change takes effect (R39–R42). -/
theorem switchTo_posted (s : State) (c : ModeChange) :
    (s.switchTo c).mu.posted = (c.target, s.switchRole c, s.mode, s.mu.changes + 1, s.mu.slot, none) := by
  unfold State.switchTo State.switchRole
  extract_lets s1 d alone s2 s3 s4 s5 s6 s7
  by_cases hc : c.cause ≤ 3
  · rw [if_pos hc, if_neg (fun h => absurd h.1 (Nat.not_lt.mpr hc))]
    exact swapRoles_posted s1 c rfl
  · rw [if_neg hc]
    have h1 : s1.mu.posted = (s.mode, s.role, s.mu.prev, s.mu.changes, s.mu.slot, none) := rfl
    have h2 : s2.mu.posted = _ := mu_posted_ite ((congrArg _ (partnerEnters_mu _ _)).trans h1) h1
    have h3 : s3.mu.posted = _ := mu_posted_ite h2 h2
    have h4 : s4.mu.posted = (s.mode, s.role, s.mu.prev, s.mu.changes, s.mu.slot, none) := mu_posted_ite h3 h3
    simp only [ModeUnit.posted, Prod.mk.injEq] at h4
    obtain ⟨hmode, -, -, hchanges, hslot, hpending⟩ := h4
    have htarget : d.target = c.target := by
      simp only [d]
      split <;> rfl
    have hrole : d.role = if 3 < c.cause ∧ (c.target = .m7 ∨ c.target = .m9) then s.roleIn c.target else c.role := by
      simp only [d, Nat.lt_of_not_le hc, true_and]
      split <;> rfl
    obtain ⟨p, hp, -, hnone⟩ := enterMode_posted s4 d.target d.role d.command d.cause d.joins d.streams
    have h5 : s5.mu.posted = (d.target, d.role, s.mode, s.mu.changes + 1, s.mu.slot, none) := by
      rw [← hmode, ← hchanges, ← hslot, ← hnone hpending]
      exact hp
    rw [htarget, hrole] at h5
    have h6 : s6.mu.posted = s5.mu.posted := mu_posted_ite (by rw [synchronise_mu])
      (mu_posted_ite (mu_posted_ite (auto_posted _ _ _ _) rfl) rfl)
    have h7 : s7.mu.posted = s5.mu.posted := mu_posted_ite h6 h6
    exact mu_posted_ite (h7.trans h5) (by rw [completeOpt_mu]; exact h7.trans h5)

theorem posted_fields {u : ModeUnit} {m p : Mode} {r : Role} {k : U32} {n : Nat} {c : Option ModeChange}
    (h : u.posted = (m, r, p, k, n, c)) :
    u.mode = m ∧ u.role = r ∧ u.prev = p ∧ u.changes = k ∧ u.slot = n ∧ u.pending = c := by
  simpa only [ModeUnit.posted, Prod.mk.injEq] using h

/-- The switch instant of a change that the module makes itself has come (R39). -/
theorem switchInstant_due {s : State} {c : ModeChange} (hp : s.mu.pending = some c) (hd : c.at_ ≤ s.now) (ha : c.asked = false) :
    s.switchInstant =
      if s.copying then s.modMu (fun u => { u with pending := some { c with at_ := frameAfter s.now } })
      else if c.confirmed then s.applyConfig.switchTo c else s.switchRefuses c := by
  have hdue : (decide (s.now < c.at_) || c.asked) = false := by
    rw [ha, Bool.or_false]
    exact decide_eq_false (Nat.not_lt.mpr hd)
  unfold State.switchInstant
  rw [hp]
  simp only [hdue, Bool.false_eq_true, if_false]
  cases c.confirmed <;> rfl

/-- A change that the partner has not confirmed is dropped (R39). -/
theorem switchRefuses_drops (s : State) (c : ModeChange) :
    (s.switchRefuses c).mu = { s.mu with pending := none } ∧ (s.switchRefuses c).pair.swap = none := by
  unfold State.switchRefuses
  rw [completeOpt_mu, completeOpt_pair]
  exact ⟨rfl, rfl⟩

/-! ## The I/O bus frame boundary -/

/-- A request to run leaves mode and role until its instant (R39). -/
theorem askRun_mode (s : State) (b : Bool) (op : Option Nat) :
    (s.askRun b op).mode = s.mode ∧ (s.askRun b op).role = s.role := by
  unfold State.askRun
  split
  · exact ⟨rfl, rfl⟩
  · split
    · unfold State.askJoin State.mode State.role
      rw [sendAccession_mu]
      exact ⟨rfl, rfl⟩
    · split
      · unfold State.mode State.role
        rw [announce_mu]
        exact ⟨rfl, rfl⟩
      · exact ⟨rfl, rfl⟩

theorem startMode_mode (s : State) : s.startMode.mode = s.mode ∧ s.startMode.role = s.role := by
  unfold State.startMode
  split
  · exact askRun_mode _ _ _
  · exact ⟨rfl, rfl⟩

/-- An automatic transition that is due is made (R40). -/
theorem autoSwitch_due {s : State} {a : AutoChange} (h : s.mu.auto = some a) (hd : a.at_ ≤ s.now) (h0 : a.mode ≠ .m0)
    (hc : s.copying = false) (hn : ¬ (s.mode = a.mode ∧ s.role = a.role)) :
    s.autoSwitch.mode = a.mode ∧ s.autoSwitch.role = a.role := by
  have hn' : ¬ ((s.modMu (fun u => { u with auto := none })).mode = a.mode ∧
      (s.modMu (fun u => { u with auto := none })).role = a.role) := hn
  obtain ⟨c, hp, -, -⟩ := enterMode_posted (s.modMu (fun u => { u with auto := none })) a.mode a.role false a.cause false []
  obtain ⟨hmode, hrole, -⟩ := posted_fields hp
  unfold State.autoSwitch
  rw [h]
  simp only [Nat.not_lt.mpr hd, hc, h0, hn', Bool.false_and, Bool.false_eq_true, if_false]
  split
  · obtain ⟨hm, hr⟩ := startMode_mode
      ((s.modMu (fun u => { u with auto := none })).enterMode a.mode a.role false a.cause false [])
    exact ⟨hm.trans hmode, hr.trans hrole⟩
  · exact ⟨hmode, hrole⟩

theorem flagSwap_mode (s : State) : s.flagSwap.mode = s.mode ∧ s.flagSwap.role = s.role := by
  unfold State.flagSwap
  split
  · unfold State.askSwap State.mode State.role
    rw [announce_mu]
    exact ⟨rfl, rfl⟩
  · exact ⟨rfl, rfl⟩

/-- After the transitions a frame boundary changes neither mode nor role. -/
theorem frameBoundary_mode (s : State) (rb : Nat) : (s.frameBoundary rb).mode = s.applyConfig.autoSwitch.mode ∧
    (s.frameBoundary rb).role = s.applyConfig.autoSwitch.role := by
  unfold State.frameBoundary
  extract_lets s1 s2 s3 s4 s5 s6
  split
  · exact ⟨rfl, rfl⟩
  · have hpair : s1.pairFrame.mu = s1.mu := kept (fun _ h => pairFrame_view s1 h) .mu (by decide)
    have h2 : s2.mu = s1.pairFrame.flagSwap.mu :=
      kept (fun _ h => (sendSupervision_view _ h).trans (sendStatus_view _)) .mu (by decide)
    have h3 : s3.view others = s2.view others := switchAtFrame_view _ (by rfl)
    have h4 : s4.view others = s2.view others := (drainFifos_view _ (by rfl)).trans
      ((seqKick_view _ (by rfl)).trans ((hartRefresh_view _ (by rfl)).trans ((stApply_view _ (by rfl)).trans h3)))
    have h5 : s5.view others = s2.view others :=
      (dioFrame_view _ _ _ (by rfl)).trans ((aoPublish_view _ _ (by rfl)).trans h4)
    have h6 : s6.view others = s2.view others := foldl_keep (fun t n => phasePublish_view t n (by rfl)) h5
    have hmu : s6.canDrain.mu = s1.pairFrame.flagSwap.mu := (mu_of_view ((canDrain_view _ (by rfl)).trans h6)).trans h2
    obtain ⟨hm, hr⟩ := flagSwap_mode s1.pairFrame
    exact ⟨(congrArg ModeUnit.mode hmu).trans (hm.trans (congrArg ModeUnit.mode hpair)),
      (congrArg ModeUnit.role hmu).trans (hr.trans (congrArg ModeUnit.role hpair))⟩

/-! ## What a command asks for -/

/-- The change that SET_MODE proposes for this module (R39): at an instant ModeSwitchLead ahead, confirmed unless the partner
has a say. -/
theorem propose_mu (s : State) (m : Mode) (both : Bool) (op : Option Nat) :
    ∃ c : ModeChange, (s.propose m both op).mu = { s.mu with pending := some c } ∧ c.target = m ∧ c.role = s.roleIn m ∧
      c.at_ = frameAtOrAfter (s.now + s.eff 0x0109 * 1000) ∧ c.op = op ∧ c.command = true ∧ c.confirmed = !c.pair ∧
      c.withdraws = (s.paired && !m.isRun && !both) := by
  unfold State.propose
  extract_lets f withdraws with_ c s1
  refine ⟨c, ?_, rfl, rfl, rfl, rfl, rfl, rfl, rfl⟩
  have h1 : s1.mu = { s.mu with pending := some c } := rfl
  split
  · rw [announce_mu, h1]
  · split
    · rw [announce_mu, h1]
    · split
      · rw [m3Tell_mu, h1]
      · exact h1

/-- Outside the requests to run and to join, SET_MODE proposes the change (R36, R38). -/
theorem setMode_proposes {s : State} {m : Mode} (both : Bool) (op : Option Nat)
    (hrun : ¬ (s.mode = .m3 ∧ (m = .m4 ∨ m = .m5 ∨ m = .m6))) (hjoin : ¬ (s.mode = .m7 ∧ m = .m5)) :
    s.setMode m both op = s.propose m both op := by
  unfold State.setMode
  split
  · exact absurd ⟨‹_›, .inl rfl⟩ hrun
  · exact absurd ⟨‹_›, .inr (.inl rfl)⟩ hrun
  · exact absurd ⟨‹_›, .inr (.inr rfl)⟩ hrun
  · exact absurd ⟨‹_›, rfl⟩ hjoin
  · rfl

/-- A request to run from M3 (R38). -/
theorem setMode_runs {s : State} {m : Mode} (both : Bool) (op : Option Nat) (h3 : s.mode = .m3)
    (hm : m = .m4 ∨ m = .m5 ∨ m = .m6) : s.setMode m both op = s.askRun both op := by
  unfold State.setMode
  rw [h3]
  rcases hm with rfl | rfl | rfl <;> rfl

/-- A request to join from M7 (R36). -/
theorem setMode_joins {s : State} (both : Bool) (op : Option Nat) (h7 : s.mode = .m7) : s.setMode .m5 both op = s.askJoin op := by
  unfold State.setMode
  rw [h7]

/-- A join is asked for (R38, R273). -/
theorem askJoin_asks (s : State) (op : Option Nat) :
    (s.askJoin op).mu = { s.mu with joinOp := op } ∧ (s.askJoin op).pair.joining = true := by
  constructor
  · exact sendAccession_mu _ _
  · have h : Part.same _ (s.askJoin op) .pair := kept (m := 0) (fun _ _ => sendAccession_view _ _) .pair (by decide)
    exact (congrArg Pair.joining h :)

/-- A partner in M4, M5 or M6 makes a request to run a join (R38). -/
theorem askRun_joins {s : State} (both : Bool) (op : Option Nat) (ha : s.partnerAbsent = false) (hj : s.joinable = true) :
    s.askRun both op = s.askJoin op := by
  unfold State.askRun
  rw [ha, hj]
  rfl

/-- Without a partner a request to run leads to M6 (R38), at an instant ModeSwitchLead ahead. -/
theorem askRun_alone {s : State} (both : Bool) (op : Option Nat) (ha : s.partnerAbsent = true) :
    ∃ c : ModeChange, (s.askRun both op).mu = { s.mu with pending := some c } ∧ c.target = .m6 ∧ c.role = .solo ∧
      c.at_ = frameAtOrAfter (s.now + s.eff 0x0109 * 1000) ∧ c.op = op ∧ c.confirmed = true := by
  unfold State.askRun
  rw [ha]
  exact ⟨_, rfl, rfl, rfl, rfl, rfl, rfl⟩

/-- A swap is asked for (R280). -/
theorem askSwap_asks (s : State) (k : Nat) (op : Option Nat) :
    ∃ c : ModeChange, (s.askSwap k op).mu = { s.mu with pending := some c } ∧
      c.target = (if s.role = .standby then .m4 else .m5) ∧ c.role = (if s.role = .standby then .primary else .standby) ∧
      c.at_ = frameAtOrAfter (s.now + s.eff 0x0109 * 1000) ∧ c.cause = k ∧ c.op = op ∧ (s.askSwap k op).pair.swap = some k := by
  unfold State.askSwap
  extract_lets f up c s1
  refine ⟨c, announce_mu _ _ _, ?_, ?_, rfl, rfl, rfl, ?_⟩
  · simp only [c, up, beq_iff_eq]
  · simp only [c, up, beq_iff_eq]
  · have h : Part.same s1 (s1.announce 1 [if up then 8 else 3, f, k]) .pair :=
      kept (m := 0) (fun _ _ => announce_view _ _ _) .pair (by decide)
    exact (congrArg Pair.swap h :)

/-- SET_MODE to another mode runs as an operation (R87). -/
theorem setMode_run_other {r : Req} {u : State} {m : Mode} (ht : modeTarget r.body = some m) (hne : m ≠ u.mode) :
    setModeCmd.run r u = runAsync (fun op b _ s => s.setMode m (beAt b 1 1 == 1) op) r u := by
  simp only [setModeCmd, Cmd.plain, ht, hne, if_false]

/-! ## The shares of M3 (R44) -/

theorem m3Apply_none {s : State} (hn : s.mu.m3next = none) : s.m3Apply = s := by
  unfold State.m3Apply
  rw [hn]

/-- Without a lane, or before the partner has reported, the shares follow its state at once. -/
theorem m3Eval_alone {s : State} (h3 : s.mode = .m3) (hn : s.mu.m3next = none)
    (hl : s.laneUp = false ∨ s.pair.partner.mode = none) :
    s.m3Eval.ao.m3share = s.m3Rule.1 ∧ s.m3Eval.dio.m3drive = s.m3Rule.2 := by
  unfold State.m3Eval
  simp only [m3Apply_none hn, h3, hn, ne_eq, not_true_eq_false, false_or, Option.isSome_none, Bool.false_eq_true, or_false]
  split
  · rename_i h
    exact ⟨(congrArg Prod.fst h).symm, (congrArg Prod.snd h).symm⟩
  · split
    · rename_i hup hm
      rcases hl with hl | hl
      · exact absurd (hl.symm.trans hup) Bool.false_ne_true
      · exact absurd (hl.symm.trans hm) nofun
    · exact ⟨rfl, rfl⟩

/-- Over a lane an evaluation only agrees on a later instant: the shares in use stay as they have been applied. -/
theorem m3Eval_over_lane {s : State} {m : Mode} (hl : s.m3Apply.laneUp = true) (hm : s.m3Apply.pair.partner.mode = some m) :
    s.m3Eval.ao = s.m3Apply.ao ∧ s.m3Eval.dio = s.m3Apply.dio := by
  unfold State.m3Eval
  simp only [hl, hm]
  split
  · exact ⟨rfl, rfl⟩
  · exact ⟨kept (m := 0) (fun _ _ => m3Tell_view _ _ _ _) .ao (by decide),
      kept (m := 0) (fun _ _ => m3Tell_view _ _ _ _) .dio (by decide)⟩

/-- A change of the shares over a lane waits for an instant ModeSwitchLead ahead. -/
theorem m3Eval_agrees {s : State} {m : Mode} (h3 : s.mode = .m3) (hn : s.mu.m3next = none) (hl : s.laneUp = true)
    (hm : s.pair.partner.mode = some m) (hx : s.m3Rule ≠ s.m3Now) :
    s.m3Eval.mu.m3next = some ⟨s.leadInstant, s.m3Rule.1, s.m3Rule.2, m⟩ := by
  unfold State.m3Eval
  simp only [m3Apply_none hn, h3, hn, hx, hl, hm, ne_eq, not_true_eq_false, false_or, Option.isSome_none, Bool.false_eq_true, if_false]
  rw [m3Tell_mu]
  rfl

/-- An agreed change that is due is applied, and the partner is in the mode it has told. -/
theorem m3Apply_due {s : State} {x : M3Next} (h3 : s.mode = .m3) (hn : s.mu.m3next = some x) (hd : x.at_ ≤ s.now) :
    s.m3Apply.ao.m3share = x.share ∧ s.m3Apply.dio.m3drive = x.drive ∧ s.m3Apply.laneUp = s.laneUp ∧
      s.m3Apply.pair.partner.mode = some x.partner := by
  unfold State.m3Apply
  rw [hn]
  simp only [h3, ne_eq, not_true_eq_false, if_false, Nat.not_lt.mpr hd]
  exact ⟨rfl, rfl, rfl, rfl⟩

/-! ## Rows -/

theorem exec_switchInstant (dt : Nat) (s : State) :
    exec (.switchInstant dt) s = .next (s.elapse dt).resumeNow.switchInstant := rfl

/-- The row of a switch instant that has come for a change of the module's own (R39, R41, R160). -/
theorem switch_at_instant {dt : Nat} {c : ModeChange} {s : State} (hp : s.mu.pending = some c) (hd : c.at_ ≤ (s.elapse dt).now)
    (ha : c.asked = false) :
    exec (.switchInstant dt) s = .next
      (if s.copying then
        (s.elapse dt).resumeNow.modMu (fun u => { u with pending := some { c with at_ := frameAfter (s.elapse dt).now } })
      else if c.confirmed then (s.elapse dt).resumeNow.applyConfig.switchTo c else (s.elapse dt).resumeNow.switchRefuses c) := by
  have hnow : (s.elapse dt).resumeNow.now = (s.elapse dt).now := congrArg Clk.tb (resumeNow_clk _)
  have hcopy : (s.elapse dt).resumeNow.copying = s.copying := resumeNow_copying _
  rw [exec_switchInstant, switchInstant_due (by rw [resumeNow_mu]; exact hp) (hnow ▸ hd) ha, hnow, hcopy]

theorem exec_m3ShareEvaluation {dt : Nat} {s : State} (h : (s.elapse dt).atFrame = true) :
    exec (.m3ShareEvaluation dt) s = .next (s.elapse dt).m3Eval :=
  congrArg Host.Outcome.next (if_pos h)

theorem exec_ioBusFrameBoundary {dt rb : Nat} {s : State} (h : (s.elapse dt).atFrame = true) (h0 : s.mode ≠ .m0) :
    exec (.ioBusFrameBoundary dt rb) s = .next ((s.elapse dt).frameBoundary rb) :=
  congrArg Host.Outcome.next (if_pos (by rw [h, Bool.true_and, elapse_mode]; exact bne_iff_ne.mpr h0))

/-- The end of HoldLimit (R36, R45): EV013, and M3 at the next frame boundary. -/
theorem exec_holdLimitExpiry {dt : Nat} {s : State} (h7 : s.mode = .m7) (hl : s.eff 0x0107 ≠ 0)
    (hs : (s.elapse dt).since s.mu.entryTick (s.eff 0x0107 * Config.ticksPerSecond) = true) (ha : s.mu.auto = none) :
    exec (.holdLimitExpiry dt) s = .next (((s.elapse dt).raise 13 [(4, s.eff 0x0107)]).auto .m3 .none 7) := by
  refine if_neg ?_
  simp only [elapse_mode, elapse_eff, elapse_mu, h7, hl, hs, ha, ne_eq, not_true_eq_false, Bool.not_true, Bool.false_eq_true,
    Option.isSome_none, or_self, not_false_eq_true]

/-- An automatic transition is put on wait where none is (R40). -/
theorem auto_put {s : State} (m : Mode) (r : Role) (k : Nat) (h : s.mu.auto = none) :
    s.auto m r k = { s with mu := { s.mu with auto := some ⟨m, r, k, frameAfter s.now⟩ } } := by
  unfold State.auto
  rw [h]

end Sys2Proof.Machine

open Sys2Proof Sys2Proof.Machine

/-- Settles O13: SET_MODE and ROLE_SWAP ask by `propose_mu`, `askJoin_asks` and `askRun`, an instant switches by `switchTo_posted`, a
frame boundary by `autoSwitch_due`, and the shares of M3 follow by the lemmas on `m3Eval`. -/
theorem modeRowsComplete : Obligations.ModeRowsComplete := by
  refine ⟨fun dt p x s h ht => ?_, fun dt p x m s h ht hne hcase hj ha => ?_, fun dt p x m s h ht hne hrun hjoin => ?_,
    fun dt p x m s h ht h3 hm ha => ?_, fun dt p x s h => ?_, fun dt c s hp hd ha hc hconf => ?_,
    fun dt c s hp hd ha hc hconf => ?_, fun dt c s hp hd ha hc => ?_, fun dt rb a s hf h0 ha hd hm0 hc hn => ?_,
    fun dt s hf h3 hn hl => ?_, fun dt m s hf h3 hn hl hm hx => ?_, fun dt x s hf h3 hn hd hl => ?_,
    fun dt s h7 hl hs ha => ?_⟩
  · obtain ⟨t, ht', hbody, hans⟩ :=
      mail_okRep h (codeIs_of h.code) (setMode_run_present (u := runsIn (s.elapse dt) p x) ht) rfl rfl
    exact ⟨t, ht', (congrArg State.mu hbody :), (congrArg State.pair hbody :), (congrArg State.cfg hbody :),
      (congrArg State.tk hbody :), hans⟩
  · obtain ⟨v, hv, hbody, -⟩ :=
      mail_runAsync h (codeIs_of h.code) (setMode_run_other (u := runsIn (s.elapse dt) p x) ht hne)
    have hmu : v.mu = s.mu := (congrArg State.mu hbody :)
    have hasks : v.setMode m (beAt (reqOf p).body 1 1 == 1) (some s.mbx.nextOp) = v.askJoin (some s.mbx.nextOp) := by
      rcases hcase with ⟨h3, hm⟩ | ⟨h7, rfl⟩
      · rw [setMode_runs _ _ ((congrArg ModeUnit.mode hmu).trans h3) hm]
        exact askRun_joins _ _ ((congrArg (fun t => State.partnerAbsent t) hbody :).trans ha)
          ((congrArg (fun t => State.joinable t) hbody :).trans hj)
      · exact setMode_joins _ _ ((congrArg ModeUnit.mode hmu).trans h7)
    obtain ⟨hj, hp⟩ := askJoin_asks v (some s.mbx.nextOp)
    rw [hmu] at hj
    exact ⟨_, hv, hasks ▸ hj, hasks ▸ hp⟩
  · obtain ⟨v, hv, hbody, -⟩ :=
      mail_runAsync h (codeIs_of h.code) (setMode_run_other (u := runsIn (s.elapse dt) p x) ht hne)
    have hmu : v.mu = s.mu := (congrArg State.mu hbody :)
    have hmode : v.mode = s.mode := congrArg ModeUnit.mode hmu
    have hrole : v.roleIn m = s.roleIn m := (congrArg (fun t => State.roleIn t m) hbody :)
    have hnow : v.now = (s.elapse dt).now := (congrArg (fun t => State.now t) hbody :)
    have heff : v.eff 0x0109 = s.eff 0x0109 := (congrArg (fun t => State.eff t 0x0109) hbody :)
    have hpaired : v.paired = s.paired := (congrArg (fun t => State.paired t) hbody :)
    rw [setMode_proposes _ _ (hmode ▸ hrun) (hmode ▸ hjoin)] at hv
    obtain ⟨c, hc, htarget, hcrole, hat, hop, hcmd, hconf, hwith⟩ :=
      propose_mu v m (beAt (reqOf p).body 1 1 == 1) (some s.mbx.nextOp)
    rw [hmu] at hc
    rw [hrole] at hcrole
    rw [hnow, heff] at hat
    rw [hpaired] at hwith
    exact ⟨_, c, hv, hc, htarget, hcrole, hat, hop, hcmd, hconf, hwith⟩
  · have hne : m ≠ s.mode := by
      rw [h3]
      rcases hm with rfl | rfl | rfl <;> decide
    obtain ⟨v, hv, hbody, -⟩ :=
      mail_runAsync h (codeIs_of h.code) (setMode_run_other (u := runsIn (s.elapse dt) p x) ht hne)
    have hmu : v.mu = s.mu := (congrArg State.mu hbody :)
    have hnow : v.now = (s.elapse dt).now := (congrArg (fun t => State.now t) hbody :)
    have heff : v.eff 0x0109 = s.eff 0x0109 := (congrArg (fun t => State.eff t 0x0109) hbody :)
    have habsent : v.partnerAbsent = true := (congrArg (fun t => State.partnerAbsent t) hbody :).trans ha
    rw [setMode_runs _ _ ((congrArg ModeUnit.mode hmu).trans h3) hm] at hv
    obtain ⟨c, hc, htarget, hrole, hat, hop, hconf⟩ := askRun_alone (beAt (reqOf p).body 1 1 == 1) (some s.mbx.nextOp) habsent
    rw [hmu] at hc
    rw [hnow, heff] at hat
    exact ⟨_, c, hv, hc, htarget, hrole, hat, hop, hconf⟩
  · obtain ⟨v, hv, hbody, -⟩ := mail_runAsync (apply := fun op _ _ u => u.askSwap 1 op) h (codeIs_of h.code) rfl
    have hmu : v.mu = s.mu := (congrArg State.mu hbody :)
    have hrole : v.role = s.role := congrArg ModeUnit.role hmu
    have hnow : v.now = (s.elapse dt).now := (congrArg (fun t => State.now t) hbody :)
    have heff : v.eff 0x0109 = s.eff 0x0109 := (congrArg (fun t => State.eff t 0x0109) hbody :)
    obtain ⟨c, hc, htarget, hcrole, hat, hcause, hop, hswap⟩ := askSwap_asks v 1 (some s.mbx.nextOp)
    rw [hmu] at hc
    rw [hrole] at htarget hcrole
    rw [hnow, heff] at hat
    exact ⟨_, c, hv, hc, htarget, hcrole, hat, hcause, hop, hswap⟩
  · have hi := switch_at_instant hp hd ha
    simp only [hc, hconf, Bool.false_eq_true, if_false, if_true] at hi
    have hmu : (s.elapse dt).resumeNow.applyConfig.mu = s.mu := by rw [applyConfig_mu, resumeNow_mu, elapse_mu]
    obtain ⟨hmode, hrole, hprev, hchanges, -, hpending⟩ := posted_fields (switchTo_posted (s.elapse dt).resumeNow.applyConfig c)
    have hin : (s.elapse dt).resumeNow.applyConfig.switchRole c = s.switchRole c := switchRole_of_mu hmu c
    exact ⟨_, hi, hmode, hrole.trans hin, hpending, hprev.trans (congrArg ModeUnit.mode hmu),
      hchanges.trans (congrArg (fun u => u.changes + 1) hmu)⟩
  · have hi := switch_at_instant hp hd ha
    simp only [hc, hconf, Bool.false_eq_true, if_false] at hi
    obtain ⟨hmu, hswap⟩ := switchRefuses_drops (s.elapse dt).resumeNow c
    rw [resumeNow_mu, elapse_mu] at hmu
    exact ⟨_, hi, hmu, hswap⟩
  · have hi := switch_at_instant hp hd ha
    rw [if_pos hc] at hi
    have hmu : (s.elapse dt).resumeNow.mu = s.mu := by rw [resumeNow_mu, elapse_mu]
    exact ⟨_, hi, congrArg (fun u : ModeUnit => { u with pending := some { c with at_ := frameAfter (s.elapse dt).now } }) hmu⟩
  · have hmu : (s.elapse dt).applyConfig.mu = s.mu := by rw [applyConfig_mu, elapse_mu]
    have hauto := autoSwitch_due (s := (s.elapse dt).applyConfig) (hmu ▸ ha) (by rw [State.now, applyConfig_clk]; exact hd) hm0
      ((applyConfig_copying _).trans hc) (by rw [State.mode, State.role, hmu]; exact hn)
    obtain ⟨hm, hr⟩ := frameBoundary_mode (s.elapse dt) rb
    exact ⟨_, exec_ioBusFrameBoundary hf h0, hm.trans hauto.1, hr.trans hauto.2⟩
  · exact ⟨_, exec_m3ShareEvaluation hf, m3Eval_alone h3 hn hl⟩
  · have happly : (s.elapse dt).m3Apply = s.elapse dt := m3Apply_none hn
    obtain ⟨hao, hdio⟩ := m3Eval_over_lane (s := s.elapse dt) (m := m) (by rw [happly]; exact hl) (by rw [happly]; exact hm)
    rw [happly] at hao hdio
    exact ⟨_, exec_m3ShareEvaluation hf, hao, hdio, m3Eval_agrees h3 hn hl hm hx⟩
  · obtain ⟨hshare, hdrive, hlane, hpartner⟩ := m3Apply_due (s := s.elapse dt) h3 hn hd
    obtain ⟨hao, hdio⟩ := m3Eval_over_lane (hlane.trans hl) hpartner
    exact ⟨_, exec_m3ShareEvaluation hf, by rw [hao, hshare], by rw [hdio, hdrive]⟩
  · refine ⟨_, exec_holdLimitExpiry h7 hl hs ha, ?_, ?_⟩
    · rw [auto_put _ _ _ (by rw [raise_mu]; exact ha)]
      simp only [raise_mu, raise_now, elapse_mu]
    · rw [auto_put _ _ _ (by rw [raise_mu]; exact ha)]
      exact occurs_raise rfl rfl rfl rfl
end

section
/-!
PROOFS. Only the Curator's own rows begin and end its restart (R95): what is raised, recorded, answered or completed leaves it.
-/
namespace Sys2Proof.Machine

theorem foldl_restarting {α : Type} {l : List α} {f : State → α → State} {s : State}
    (hf : ∀ t a, (f t a).mbx.restarting = t.mbx.restarting) : (l.foldl f s).mbx.restarting = s.mbx.restarting := by
  induction l generalizing s with
  | nil => rfl
  | cons a t ih => exact (ih (s := f s a)).trans (hf s a)

theorem restarting_ite {c : Prop} [Decidable c] {a b : State} {v : Option (Nat × Nat)} (ha : a.mbx.restarting = v)
    (hb : b.mbx.restarting = v) : (if c then a else b).mbx.restarting = v := by
  split
  · exact ha
  · exact hb

theorem notify_restarting (s : State) (id : U32) (a b : Nat) (l : List Byte) :
    (s.notify id a b l).mbx.restarting = s.mbx.restarting := by
  unfold State.notify
  split
  · rfl
  · split
    · rfl
    · exact restarting_ite rfl (restarting_ite (restarting_ite rfl rfl) rfl)

theorem eventToSession_restarting (s : State) (k : Nat) (id : U32) : (s.eventToSession k id).mbx.restarting = s.mbx.restarting :=
  restarting_ite rfl (notify_restarting _ _ _ _ _)

theorem eventNotify_restarting (s : State) (k : Nat) : (s.eventNotify k).mbx.restarting = s.mbx.restarting := by
  refine foldl_restarting (fun t x => ?_)
  split
  · exact restarting_ite (eventToSession_restarting _ _ _) rfl
  · rfl

theorem archMandatory_restarting (s : State) (a b c d : Nat) (l : List Byte) (f : Nat) :
    (s.archMandatory a b c d l f).mbx.restarting = s.mbx.restarting := by rw [archMandatory_mbx]

theorem archRouted_restarting (s : State) (a b : Nat) (l : List Byte) (f g : Nat) :
    (s.archRouted a b l f g).mbx.restarting = s.mbx.restarting := by rw [archRouted_mbx]

theorem raise_restarting (s : State) (k : Nat) (d : List (Nat × Nat)) : (s.raise k d).mbx.restarting = s.mbx.restarting := by
  unfold State.raise State.raiseWith
  extract_lets src s1 e det masked src' s2 s3
  have h2 : s2.mbx.restarting = s.mbx.restarting := restarting_ite rfl rfl
  have h3 : s3.mbx.restarting = s.mbx.restarting := restarting_ite ((eventNotify_restarting _ _).trans h2) h2
  exact restarting_ite rfl (restarting_ite h2 (restarting_ite ((archMandatory_restarting _ _ _ _ _ _ _).trans h3)
    (restarting_ite ((archRouted_restarting _ _ _ _ _ _).trans h3) h3)))

theorem lane_restarting (s : State) (k : Nat) (l : List Nat) (b : List Byte) : (s.lane k l b).mbx.restarting = s.mbx.restarting :=
  restarting_ite rfl rfl

theorem complete_restarting (s : State) (id : Nat) (st : Status) (l : List Byte) :
    (s.complete id st l).mbx.restarting = s.mbx.restarting := by
  unfold State.complete
  split
  · rfl
  · extract_lets src s1 s2 body s3
    split
    · exact archMandatory_restarting _ _ _ _ _ _ _
    · split
      · exact restarting_ite (notify_restarting _ _ _ _ _) rfl
      · rfl

theorem completeOpt_restarting (s : State) (id : Option Nat) (st : Status) (l : List Byte) :
    (s.completeOpt id st l).mbx.restarting = s.mbx.restarting := by
  unfold State.completeOpt
  split
  · rfl
  · exact complete_restarting _ _ _ _

theorem abandonUpdate_restarting (s : State) (k c : Nat) : (s.abandonUpdate k c).mbx.restarting = s.mbx.restarting :=
  restarting_ite rfl ((raise_restarting _ _ _).trans (restarting_ite rfl rfl))

theorem endSession_restarting (s : State) (id : U32) : (s.endSession id).mbx.restarting = s.mbx.restarting :=
  foldl_restarting (fun _ _ => restarting_ite (abandonUpdate_restarting _ _ _) rfl)

theorem respond_restarting (s : State) (r : Req) (k : Option (List Byte)) (sid : U32) (st : Status) (a : Nat) (b : List Byte) :
    (s.respond r k sid st a b).mbx.restarting = s.mbx.restarting := by
  unfold State.respond State.reply
  extract_lets f s1 src s2 src' s3
  have h3 : s3.mbx.restarting = s.mbx.restarting := by
    show s2.mbx.restarting = s.mbx.restarting
    exact restarting_ite rfl rfl
  exact restarting_ite h3 (restarting_ite ((lane_restarting _ _ _ _).trans h3) h3)

theorem answerRelay_restarting (s : State) (x : Relay) (st : Status) (a : Nat) (b : List Byte) :
    (s.answerRelay x st a b).mbx.restarting = s.mbx.restarting := by
  unfold State.answerRelay
  extract_lets src s1 s2 s3
  have h2 : s2.mbx.restarting = s.mbx.restarting := respond_restarting _ _ _ _ _ _ _
  have h3 : s3.mbx.restarting = s.mbx.restarting := restarting_ite h2 h2
  exact restarting_ite ((endSession_restarting _ _).trans h3) h3

/-- An internal fault answers what is executing (R78); it begins no restart itself. -/
theorem internalFault_restarting (s : State) : s.internalFault.mbx.restarting = s.mbx.restarting :=
  restarting_ite rfl (restarting_ite (archMandatory_restarting _ _ _ _ _ _ _)
    (foldl_restarting (fun _ _ => (answerRelay_restarting _ _ _ _ _).trans (archMandatory_restarting _ _ _ _ _ _ _))))

theorem sendWaiting_restarting (s : State) (id : U32) : (s.sendWaiting id).mbx.restarting = s.mbx.restarting := by
  unfold State.sendWaiting
  split
  · rfl
  · exact foldl_restarting (s := s.modSession id _) (fun _ _ => notify_restarting _ _ _ _ _)

theorem resend_restarting (s : State) : s.resend.mbx.restarting = s.mbx.restarting := by
  refine foldl_restarting (fun t x => ?_)
  dsimp only
  split
  · exact restarting_ite (restarting_ite (lane_restarting _ _ _ _) rfl) rfl
  · rfl

theorem lateNotify_restarting (s : State) (k : Nat) : (s.lateNotify k).mbx.restarting = s.mbx.restarting :=
  restarting_ite (eventNotify_restarting _ _) rfl

theorem lateRecord_restarting (s : State) (k : Nat) : (s.lateRecord k).mbx.restarting = s.mbx.restarting :=
  restarting_ite (restarting_ite rfl (archMandatory_restarting _ _ _ _ _ _ _))
    (restarting_ite (archRouted_restarting _ _ _ _ _ _) rfl)

theorem auto_restarting (s : State) (m : Mode) (r : Role) (k : Nat) : (s.auto m r k).mbx.restarting = s.mbx.restarting := by
  unfold State.auto
  split
  · exact restarting_ite rfl rfl
  · rfl

theorem withdraw_restarting (s : State) (m : Mode) (f : Nat) : (s.withdraw m f).mbx.restarting = s.mbx.restarting :=
  (completeOpt_restarting _ _ _ _).trans (lane_restarting _ _ _ _)

/-- The third restart within 600 s asks for M10 (R36, R42); it ends no restart. -/
theorem countRestart_restarting (s : State) : s.countRestart.mbx.restarting = s.mbx.restarting :=
  restarting_ite rfl (restarting_ite (withdraw_restarting _ _ _) (auto_restarting _ _ _ _))

end Sys2Proof.Machine
end

section
/-!
PROOFS. Power, self-test, saves and restarts: what each does to the parts that its row's statement names.
-/
namespace Sys2Proof.Machine

/-! ## Power (R522, R541) -/

/-- Power begins M1 (R36): a cycle is counted, the strap read, and the heartbeat toggles once the slot is known. -/
theorem runM0_begins (s : State) (feeds ohms : Nat) :
    (s.runM0 feeds ohms).mode = .m1 ∧ (s.runM0 feeds ohms).role = .none ∧ (s.runM0 feeds ohms).mu.slot = slotOf ohms ∧
      (s.runM0 feeds ohms).ident.powerCycles = s.ident.powerCycles + 1 ∧
      (s.runM0 feeds ohms).sup.present = [bit feeds 0, bit feeds 1] ∧ (s.runM0 feeds ohms).sup.powerFail = false ∧
      ((s.runM0 feeds ohms).mu.slot ≠ 0xFF → (s.runM0 feeds ohms).pair.line = .toggling) := by
  unfold State.runM0
  extract_lets _ _ _ _ s1 s2
  have h2 : s2.ident = s1.ident ∧ s2.mu = s1.mu ∧ s2.sup = s1.sup := by
    simp only [s2]
    split
    · rw [raise_ident, raise_mu, raise_sup]
      exact ⟨rfl, rfl, rfl⟩
    · exact ⟨rfl, rfl, rfl⟩
  obtain ⟨hident, hmu, hsup⟩ := h2
  obtain ⟨c, hp, hline, -⟩ := enterMode_posted s2 .m1 .none false 7 false []
  obtain ⟨hmode, hrole, -, -, hslot, -⟩ := posted_fields hp
  have hc : (s2.enterMode .m1 .none false 7 false []).ident.powerCycles = s2.ident.powerCycles :=
    kept (fun _ h => enterMode_view s2 .m1 .none false 7 false [] h) .cycles (by decide)
  have hs : (s2.enterMode .m1 .none false 7 false []).sup = s2.sup :=
    kept (fun _ h => enterMode_view s2 .m1 .none false 7 false [] h) .sup (by decide)
  refine ⟨hmode, hrole, ?_, ?_, ?_, ?_, fun hk => hline.trans ?_⟩
  · rw [hslot, hmu]
  · rw [hc, hident]
  · rw [hs, hsup]
  · rw [hs, hsup]
  · simp only [s2]
    rw [hslot, hmu] at hk
    rw [if_neg hk]
    rfl

theorem exec_powerApplied {dt feeds : Nat} {ohms : U32} {s : State} (h0 : s.mode = .m0) (hf : feeds % 4 ≠ 0) :
    exec (.powerApplied dt feeds ohms) s = .next ((s.elapse dt).runM0 feeds ohms.toNat) :=
  congrArg Host.Outcome.next (if_neg (not_or.mpr ⟨not_not_intro h0, hf⟩))

/-! ## The self-test of M1 (R299, R515) -/

/-- A pair that passes its injection test only has that on record. -/
theorem injected_passed (s : State) (p : Nat) : ∃ f, s.injected p (BitVec.allOnes 64) = s.modCore p f := by
  unfold State.injected
  simp only [beq_self_eq_true, if_true]
  exact ⟨_, rfl⟩

theorem injected_all_passed_view {hid : Nat} (s : State) (hm : Sub 0x800000 hid) :
    ((List.range 11).foldl (fun (t : State) p => t.injected p (BitVec.allOnes 64)) s).view hid = s.view hid := by
  refine foldl_keep (fun t p => ?_) rfl
  obtain ⟨f, hf⟩ := injected_passed t p
  rw [hf]
  exact modCore_view t p f hm

theorem testPairs_passed_view {hid : Nat} {s : State} (hw : ∀ m ∈ s.annex.waiting, m.kind ≠ 1) (hm : Sub 0x800000 hid) :
    (s.testPairs []).view hid = s.view hid := by
  have h1 := fun g hg => injected_all_passed_view (hid := g) s hg
  unfold State.testPairs
  simp only [List.find?_nil, Option.elim_none, if_true]
  generalize (List.range 11).foldl (fun (t : State) p => t.injected p (BitVec.allOnes 64)) s = s1 at h1 ⊢
  have ha : s1.annex = s.annex := kept h1 .annex (by decide)
  have hnone : s1.annex.waiting.filter (fun m => m.kind == 1) = [] := by
    rw [ha, List.filter_eq_nil_iff]
    exact fun m hm => by simpa using hw m hm
  rw [hnone]
  exact h1 hid hm

theorem firmwareCheck_passes {s : State} {images : List Bool} (h : images.getD s.fw.active false = true) :
    s.firmwareCheck images = s.runFirmware s.fw.active := if_pos h

theorem firmwareCheck_fails {s : State} {images : List Bool} (h : images.getD s.fw.active false = false)
    (h' : images.getD (1 - s.fw.active) false = false) :
    s.firmwareCheck images = ((s.runFirmware s.fw.active).stepFailed 4 0xFF).halt 4 0xFF := by
  unfold State.firmwareCheck
  simp only [h, h', Bool.false_eq_true, if_false, Bool.false_and]

theorem dropJoin_ending (s : State) : s.dropJoin.mode = s.mode ∧ s.dropJoin.mu.auto = s.mu.auto ∧
    s.dropJoin.mu.haltCause = s.mu.haltCause ∧ s.dropJoin.now = s.now := by
  unfold State.dropJoin State.joinFails
  split
  · simp only [Bool.false_and, Bool.false_eq_true, if_false, completeOpt_mode, completeOpt_mu, completeOpt_now]
    exact ⟨rfl, rfl, rfl, rfl⟩
  · exact ⟨rfl, rfl, rfl, rfl⟩

/-- A cause for M11 in M1 (R36): the module is in no pair, and waits for the frame boundary. -/
theorem halt_in_m1 {s : State} (h1 : s.mode = .m1) (hc : s.mu.haltCause = 0) (ha : s.mu.auto = none) (cause res : Nat) :
    (s.halt cause res).mode = .m1 ∧ (s.halt cause res).mu.auto = some ⟨.m11, .none, 7, frameAfter s.now⟩ ∧
      (s.halt cause res).mu.haltCause = cause := by
  unfold State.halt
  extract_lets _ s1 _ s2 s3
  have h2 : s2.mode = .m1 ∧ s2.mu.auto = none ∧ s2.mu.haltCause = cause ∧ s2.now = s.now := by
    simp only [s2]
    split
    · rw [completeOpt_mode, completeOpt_mu, completeOpt_now]
      exact ⟨h1, ha, rfl, rfl⟩
    · exact ⟨h1, ha, rfl, rfl⟩
  obtain ⟨hmode, hauto, hcause, hnow⟩ := dropJoin_ending s2
  have hstay : s3.canDepart = false := by
    unfold State.canDepart
    rw [hmode.trans h2.1]
    simp only [Mode.isRun, Bool.and_false, Bool.false_and]
  rw [if_neg (by simp only [h1, hc, reduceCtorEq, ne_eq, not_true_eq_false, or_self, not_false_eq_true]), hstay,
    if_neg Bool.false_ne_true, auto_put _ _ _ (hauto.trans h2.2.1)]
  refine ⟨hmode.trans h2.1, ?_, hcause.trans h2.2.2.1⟩
  show some (AutoChange.mk .m11 .none 7 (frameAfter s3.now)) = _
  rw [hnow.trans h2.2.2.2]

theorem tellUpdates_fwHeader (s : State) : s.tellUpdates.fwHeader = s.fwHeader := by
  unfold State.tellUpdates
  extract_lets s1 _ s2
  have h1 : s1.fw = s.fw := by
    have h : s1.view 0 = s.view 0 := foldl_keep (fun t x => (raise_view _ _ _).trans (takeFree_view t)) rfl
    exact view_same h .fw (by decide)
  have h2 : s2.fwHeader = s.fwHeader := by
    show State.fwHeader { s1 with fw := { s1.fw with lostUpdates := [] } } = _
    rw [h1]
    rfl
  split
  · unfold State.fwHeader State.fwSlot at h2 ⊢
    rw [raise_fw]
    exact h2
  · exact h2

/-- The configuration store by its four parts. -/
theorem cfg_of_parts {s t : State} (h : Part.same s t .store) (hw : Part.same s t .working) (he : Part.same s t .effect)
    (hx : Part.same s t .transfer) : t.cfg = s.cfg := by
  obtain ⟨h1, h2, h3⟩ := h
  obtain ⟨h4, h5, h6, h7, h8, h9, h10, h11, h12, h13⟩ := he
  obtain ⟨h14, h15⟩ := hx
  have hw : t.cfg.working = s.cfg.working := hw
  cases hs : s.cfg
  cases ht : t.cfg
  simp only [hs, ht] at *
  simp only [*]

/-- M1 with its test under way: what SELFTEST_COMPLETE stores at once. -/
def State.tested (s : State) (r : SelfTest) : State :=
  (s.modMu (fun u => { u with startDone := true })).modSup (fun p => { p with holdup := r.holdup, measured := true })

/-- M1 with the pairs tested, before the firmware check. -/
def State.pairsTested (s : State) (r : SelfTest) : State := (s.tested r).archPowerUp.testPairs r.tests

/-- The self-test up to the end of M1. -/
def State.selfTest (s : State) (r : SelfTest) : State :=
  (r.failed.foldl (fun (t : State) x => t.stepFailed x.1 x.2) ((s.pairsTested r).firmwareCheck r.images)).tellUpdates.ladderRestore

theorem exec_selftestComplete {dt : Nat} {r : SelfTest} {s : State} (h1 : s.mode = .m1) (hd : s.mu.startDone = false) :
    exec (.selftestComplete dt r) s = .next ((s.elapse dt).selfTest r).leaveM1 := by
  refine if_neg ?_
  rw [elapse_mode, elapse_mu, h1, hd]
  simp only [ne_eq, not_true_eq_false, Bool.false_eq_true, or_self, not_false_eq_true]

section
variable {s : State} {r : SelfTest}

theorem pairsTested_view {hid : Nat} (hr : r.tests = []) (hw : ∀ m ∈ s.annex.waiting, m.kind ≠ 1) (hm : Sub 0x800000 hid) :
    (s.pairsTested r).view hid = (s.tested r).view hid := by
  unfold State.pairsTested
  have ha : (s.tested r).archPowerUp.annex = s.annex := kept (m := 0) (fun _ _ => archPowerUp_view _) .annex (by decide)
  rw [hr]
  exact (testPairs_passed_view (by rw [ha]; exact hw) hm).trans (archPowerUp_view _)

theorem pairsTested_fw (hr : r.tests = []) (hw : ∀ m ∈ s.annex.waiting, m.kind ≠ 1) : (s.pairsTested r).fw = s.fw :=
  kept (fun _ h => pairsTested_view (s := s) hr hw h) .fw (by decide)

/-- What the end of the self-test leaves of the firmware check's state. -/
theorem selfTest_view {hid : Nat} (hm : Sub 0x200200000 hid) :
    (s.selfTest r).view hid = ((s.pairsTested r).firmwareCheck r.images).view hid :=
  (ladderRestore_view _ (Sub.of hm (by decide))).trans ((tellUpdates_view _ (Sub.of hm (by decide))).trans
    (foldl_keep (fun t x => stepFailed_view t x.1 x.2) rfl))

/-- A self-test whose running image passes changes core pairs, firmware and ladder only. -/
theorem selfTest_passed_view {hid : Nat} (hr : r.tests = []) (hw : ∀ m ∈ s.annex.waiting, m.kind ≠ 1)
    (hi : r.images.getD s.fw.active false = true) (hm : Sub 0x200a00002 hid) :
    (s.selfTest r).view hid = (s.tested r).view hid := by
  have hfw := pairsTested_fw (s := s) hr hw
  have hcheck : ((s.pairsTested r).firmwareCheck r.images).view hid = (s.pairsTested r).view hid := by
    rw [firmwareCheck_passes (by rw [hfw]; exact hi)]
    exact runFirmware_view _ _ (Sub.of hm (by decide))
  exact (selfTest_view (Sub.of hm (by decide))).trans
    (hcheck.trans (pairsTested_view hr hw (Sub.of hm (by decide))))

/-- The header of the firmware that runs stays, and FirmwareRelease follows it (R105, R504). -/
theorem selfTest_passed_header (hr : r.tests = []) (hw : ∀ m ∈ s.annex.waiting, m.kind ≠ 1)
    (hi : r.images.getD s.fw.active false = true) :
    (s.selfTest r).fwHeader = s.fwHeader ∧ (s.selfTest r).ident.fwRelease = BitVec.ofNat 16 (leAt s.fwHeader 0x10 2) := by
  have hfw := pairsTested_fw (s := s) hr hw
  have hcheck := firmwareCheck_passes (s := s.pairsTested r) (images := r.images) (by rw [hfw]; exact hi)
  have hhead : ((s.pairsTested r).firmwareCheck r.images).fwHeader = s.fwHeader := by
    rw [hcheck, hfw]
    show State.fwHeader { s.pairsTested r with fw := { (s.pairsTested r).fw with active := s.fw.active } } = _
    rw [hfw]
    rfl
  constructor
  · let t := r.failed.foldl (fun (t : State) x => t.stepFailed x.1 x.2) ((s.pairsTested r).firmwareCheck r.images)
    have ht : t.fw = ((s.pairsTested r).firmwareCheck r.images).fw :=
      kept (m := 0) (fun _ _ => foldl_keep (fun u x => stepFailed_view u x.1 x.2) rfl) .fw (by decide)
    have hl : (s.selfTest r).fw = t.tellUpdates.fw := kept (fun _ h => ladderRestore_view t.tellUpdates h) .fw (by decide)
    calc (s.selfTest r).fwHeader = t.tellUpdates.fwHeader := by unfold State.fwHeader State.fwSlot; rw [hl]
      _ = t.fwHeader := tellUpdates_fwHeader t
      _ = ((s.pairsTested r).firmwareCheck r.images).fwHeader := by unfold State.fwHeader State.fwSlot; rw [ht]
      _ = s.fwHeader := hhead
  · have hrel : (s.selfTest r).ident.fwRelease = ((s.pairsTested r).firmwareCheck r.images).ident.fwRelease :=
      kept (fun _ h => selfTest_view (s := s) (r := r) h) .release (by decide)
    rw [hrel, ← hhead, hcheck]
    rfl

/-- What such a self-test keeps: modes but for its own end, the clock, the configuration store and the selected program. -/
theorem selfTest_passed_keeps (hr : r.tests = []) (hw : ∀ m ∈ s.annex.waiting, m.kind ≠ 1)
    (hi : r.images.getD s.fw.active false = true) :
    (s.selfTest r).mu = { s.mu with startDone := true } ∧ (s.selfTest r).now = s.now ∧ (s.selfTest r).cfg = s.cfg ∧
      (s.selfTest r).tk.active = s.tk.active ∧ (s.selfTest r).sup.holdup = r.holdup := by
  have hv := fun hid => selfTest_passed_view (s := s) (hid := hid) hr hw hi
  have hclk : Part.same (s.tested r) (s.selfTest r) .clk := kept hv .clk (by decide)
  have hsup : Part.same (s.tested r) (s.selfTest r) .sup := kept hv .sup (by decide)
  have hprog : Part.same (s.tested r) (s.selfTest r) .program := kept hv .program (by decide)
  have hcfg : (s.selfTest r).cfg = (s.tested r).cfg := cfg_of_parts (kept hv .store (by decide)) (kept hv .working (by decide))
    (kept hv .effect (by decide)) (kept hv .transfer (by decide))
  exact ⟨kept hv .mu (by decide), congrArg Clk.tb hclk, hcfg, hprog.2.2.1, congrArg Supply.holdup hsup⟩

/-- A self-test that finds no firmware slot that passes stores HaltCause 4 and waits for M11 (R515). -/
theorem selfTest_halts (h1 : s.mode = .m1) (hc : s.mu.haltCause = 0) (ha : s.mu.auto = none) (hr : r.tests = [])
    (hw : ∀ m ∈ s.annex.waiting, m.kind ≠ 1) (hi : r.images.getD s.fw.active false = false)
    (ho : r.images.getD (1 - s.fw.active) false = false) :
    (s.selfTest r).mode = .m1 ∧ (s.selfTest r).mu.auto = some ⟨.m11, .none, 7, frameAfter s.now⟩ ∧
      (s.selfTest r).mu.haltCause = 4 := by
  have hfw := pairsTested_fw (s := s) hr hw
  let t := ((s.pairsTested r).runFirmware (s.pairsTested r).fw.active).stepFailed 4 0xFF
  have ht : ∀ hid, Sub 0x200800002 hid → t.view hid = (s.tested r).view hid := fun hid hm =>
    (stepFailed_view _ _ _).trans ((runFirmware_view _ _ (Sub.of hm (by decide))).trans
      (pairsTested_view hr hw (Sub.of hm (by decide))))
  have hmu : t.mu = (s.tested r).mu := kept ht .mu (by decide)
  have hclk : t.clk = s.clk := kept ht .clk (by decide)
  obtain ⟨hmode, hauto, hcause⟩ := halt_in_m1 (s := t) ((congrArg ModeUnit.mode hmu).trans h1)
    ((congrArg ModeUnit.haltCause hmu).trans hc) ((congrArg ModeUnit.auto hmu).trans ha) 4 0xFF
  have hmu' : (s.selfTest r).mu = (t.halt 4 0xFF).mu := by
    rw [← firmwareCheck_fails (by rw [hfw]; exact hi) (by rw [hfw]; exact ho)]
    exact kept (fun _ h => selfTest_view (s := s) (r := r) h) .mu (by decide)
  have hnow : t.now = s.now := congrArg Clk.tb hclk
  rw [hnow] at hauto
  exact ⟨(congrArg ModeUnit.mode hmu').trans hmode, (congrArg ModeUnit.auto hmu').trans hauto,
    (congrArg ModeUnit.haltCause hmu').trans hcause⟩

end

/-! ## The end of M1 (R36, R40) -/

/-- A wait for M11 stands. -/
theorem leaveM1_halted {s : State} {a : AutoChange} (hc : s.mu.haltCause ≠ 0) (ha : s.mu.auto = some a) (hm : a.mode = .m11) :
    s.leaveM1 = s := by
  unfold State.leaveM1
  rw [if_pos hc]
  unfold State.auto
  rw [ha]
  simp only [hm, ne_eq, not_true_eq_false, false_and, and_false, if_false]

theorem leaveM1_floating {s : State} (hc : s.mu.haltCause = 0) (hs : s.mu.slot = 0xFF) : s.leaveM1 = s := by
  unfold State.leaveM1
  rw [if_neg (not_not_intro hc), if_pos hs]

/-- A committed configuration of a newer schema is not loaded (R63). -/
theorem configCheck_newer {s : State} {i : Image} (hi : s.cfg.committed = some i) (h : s.fwSchema < i.schema) :
    s.configCheck.1 = 1 := by
  unfold State.configCheck
  rw [hi]
  simp only [h, if_true]

/-- A configuration that is refused leads to M10 with its RecoveryCause. -/
theorem leaveM1_recovers {s : State} (hc : s.mu.haltCause = 0) (hs : s.mu.slot ≠ 0xFF) (h : s.configCheck.1 = 1)
    (ha : s.mu.auto = none) :
    s.leaveM1.mu = { s.mu with recoveryCause := 1, auto := some ⟨.m10, .none, 7, frameAfter s.now⟩ } := by
  let t := s.configCheck.2.programCheck.2
  have ht : ∀ hid, Sub 0x607fa870 hid → t.view hid = s.view hid := fun hid hm =>
    (programCheck_view _ (Sub.of hm (by decide))).trans (configCheck_view s (Sub.of hm (by decide)))
  have hmu : t.mu = s.mu := kept ht .mu (by decide)
  have hclk : t.clk = s.clk := kept ht .clk (by decide)
  have hleave : s.leaveM1 = (t.modMu (fun u => { u with recoveryCause := 1 })).auto .m10 .none 7 := by
    unfold State.leaveM1
    rw [if_neg (not_not_intro hc), if_neg hs]
    simp only [h, Nat.one_ne_zero, if_false, ne_eq, not_false_eq_true, if_true]
    rfl
  have hstored : (t.modMu (fun u => { u with recoveryCause := 1 })).mu = { s.mu with recoveryCause := 1 } :=
    congrArg (fun u : ModeUnit => { u with recoveryCause := 1 }) hmu
  have hnow : (t.modMu (fun u => { u with recoveryCause := 1 })).now = s.now := congrArg Clk.tb hclk
  rw [hleave, auto_put _ _ _ (by rw [hstored]; exact ha), hnow]
  exact congrArg (fun u : ModeUnit => { u with auto := some ⟨.m10, .none, 7, frameAfter s.now⟩ }) hstored

/-- The module where no configuration is committed (R36). -/
def State.unconfigured (s : State) : State := { s with cfg := { s.cfg with state := 0 } }

theorem configCheck_none {s : State} (hi : s.cfg.committed = none) : s.configCheck = (0, s.unconfigured) := by
  unfold State.configCheck
  rw [hi]
  rfl

theorem programCheck_none {s : State} (hp : s.tk.active = 0xFF) : s.programCheck = (0, s.restoreRetained false) := by
  unfold State.programCheck State.selected
  rw [if_pos hp]

/-- The restore of the retained image leaves modes, clock, configuration, supply and identity. -/
theorem restoreRetained_keeps (s : State) (b : Bool) :
    (s.restoreRetained b).mu = s.mu ∧ (s.restoreRetained b).clk = s.clk ∧ (s.restoreRetained b).cfg.state = s.cfg.state ∧
      (s.restoreRetained b).sup = s.sup ∧ (s.restoreRetained b).ident.fwRelease = s.ident.fwRelease := by
  have h := fun hid => restoreRetained_view (hid := hid) s b
  have heffect : Part.same s (s.restoreRetained b) .effect := kept h .effect (by decide)
  exact ⟨kept h .mu (by decide), kept h .clk (by decide), heffect.2.2.1, kept h .sup (by decide), kept h .release (by decide)⟩

/-- Without a committed configuration and a selected program M1 leads to M2 (R36). -/
theorem leaveM1_unconfigured {s : State} (hc : s.mu.haltCause = 0) (hs : s.mu.slot ≠ 0xFF) (hi : s.cfg.committed = none)
    (hp : s.tk.active = 0xFF) : s.leaveM1 = (s.unconfigured.restoreRetained false).auto .m2 .none 7 := by
  have hprogram : s.unconfigured.programCheck = (0, s.unconfigured.restoreRetained false) := programCheck_none hp
  have hstore : Part.same s.unconfigured (s.unconfigured.restoreRetained false) .store :=
    kept (fun _ h => restoreRetained_view s.unconfigured false h) .store (by decide)
  have hnone : (s.unconfigured.restoreRetained false).cfg.committed = none := hstore.1.trans hi
  unfold State.leaveM1
  rw [if_neg (not_not_intro hc), if_neg hs, configCheck_none hi]
  simp only [hprogram, hnone, ne_eq, not_true_eq_false, if_false, if_true, Option.isNone_none]

section
variable {s : State} {r : SelfTest}

/-- A module that does not know its slot stays in M1 (R28). -/
theorem selfTest_stays (hc : s.mu.haltCause = 0) (hr : r.tests = []) (hw : ∀ m ∈ s.annex.waiting, m.kind ≠ 1)
    (hi : r.images.getD s.fw.active false = true) (hs : s.mu.slot = 0xFF) :
    (s.selfTest r).leaveM1.mu = { s.mu with startDone := true } ∧ (s.selfTest r).leaveM1.cfg = s.cfg := by
  obtain ⟨hmu, -, hcfg, -, -⟩ := selfTest_passed_keeps hr hw hi
  rw [leaveM1_floating (by rw [hmu]; exact hc) (by rw [hmu]; exact hs)]
  exact ⟨hmu, hcfg⟩

/-- A configuration of a newer schema ends M1 for M10 (R63). -/
theorem selfTest_recovers {i : Image} (hc : s.mu.haltCause = 0) (hr : r.tests = []) (hw : ∀ m ∈ s.annex.waiting, m.kind ≠ 1)
    (hi : r.images.getD s.fw.active false = true) (hs : s.mu.slot ≠ 0xFF) (hcom : s.cfg.committed = some i)
    (hnew : s.fwSchema < i.schema) (ha : s.mu.auto = none) :
    (s.selfTest r).leaveM1.mu =
      { s.mu with startDone := true, recoveryCause := 1, auto := some ⟨.m10, .none, 7, frameAfter s.now⟩ } := by
  obtain ⟨hmu, hnow, hcfg, -, -⟩ := selfTest_passed_keeps hr hw hi
  have hschema : (s.selfTest r).fwSchema = s.fwSchema := congrArg (fun l => leAt l 0x12 2) (selfTest_passed_header hr hw hi).1
  have hnewer := configCheck_newer (s := s.selfTest r) (i := i) (by rw [hcfg]; exact hcom) (by rw [hschema]; exact hnew)
  rw [leaveM1_recovers (by rw [hmu]; exact hc) (by rw [hmu]; exact hs) hnewer (by rw [hmu]; exact ha), hmu, hnow]

/-- Without a committed configuration M1 ends for M2 (R36). -/
theorem selfTest_unconfigured (hc : s.mu.haltCause = 0) (hr : r.tests = []) (hw : ∀ m ∈ s.annex.waiting, m.kind ≠ 1)
    (hi : r.images.getD s.fw.active false = true) (hs : s.mu.slot ≠ 0xFF) (hcom : s.cfg.committed = none)
    (hp : s.tk.active = 0xFF) (ha : s.mu.auto = none) :
    (s.selfTest r).leaveM1.mu = { s.mu with startDone := true, auto := some ⟨.m2, .none, 7, frameAfter s.now⟩ } ∧
      (s.selfTest r).leaveM1.cfg.state = 0 ∧ (s.selfTest r).leaveM1.sup.holdup = r.holdup ∧
      (s.selfTest r).leaveM1.ident.fwRelease = BitVec.ofNat 16 (leAt s.fwHeader 0x10 2) := by
  obtain ⟨hmu, hnow, hcfg, hactive, hholdup⟩ := selfTest_passed_keeps hr hw hi
  obtain ⟨kmu, kclk, kstate, ksup, krel⟩ := restoreRetained_keeps (s.selfTest r).unconfigured false
  have hmu' : ((s.selfTest r).unconfigured.restoreRetained false).mu = { s.mu with startDone := true } := kmu.trans hmu
  have hnow' : ((s.selfTest r).unconfigured.restoreRetained false).now = s.now := (congrArg Clk.tb kclk).trans hnow
  rw [leaveM1_unconfigured (by rw [hmu]; exact hc) (by rw [hmu]; exact hs) (by rw [hcfg]; exact hcom) (hactive.trans hp),
    auto_put _ _ _ (by rw [hmu']; exact ha), hnow']
  exact ⟨congrArg (fun u : ModeUnit => { u with auto := some ⟨.m2, .none, 7, frameAfter s.now⟩ }) hmu', kstate,
    (congrArg Supply.holdup ksup).trans hholdup, krel.trans (selfTest_passed_header hr hw hi).2⟩

end

/-! ## RESTART (R55) -/

/-- A command whose effect follows its answer. -/
theorem mail_after {c : Cmd} {mine : List Byte → Bool} {dt : Nat} {p : Packet} {s : State} {x : Session} {f : State → State}
    (h : Accepted c (s.elapse dt) p x) (hm : mine p.data = true)
    (hr : c.run (reqOf p) (runsIn (s.elapse dt) p x) =
      { okRep (runsIn (s.elapse dt) p x) with status := .accepted, after := f }) :
    ∃ v, execMail c mine dt p s = .next (f v) ∧ v.body = (s.elapse dt).body ∧ Answers v p x s.mode s.role .accepted 0 [] := by
  have hu : (runsIn (s.elapse dt) p x).mbx.restarting = none := (heard_runs h.toHeard : (s.elapse dt).mbx.restarting = none)
  refine ⟨_, mail_ok h hm hr (.inr rfl) rfl, ?_, ?_⟩
  · exact respond_body _ h.here hu _ _ _ _ _
  · exact respond_out _ h.here hu _ _ _ _ _

/-- A departure's notice goes out (R278). -/
theorem depart_asks (s : State) (a : Nat) :
    (s.depart a).pair.departure = some ⟨frameAtOrAfter (s.now + 100000), true, a⟩ ∧ (s.depart a).mu = s.mu := by
  unfold State.depart
  extract_lets f s1
  have h : Part.same s1 (s1.announce 2 [f]) .pair := kept (m := 0) (fun _ _ => announce_view _ _ _) .pair (by decide)
  exact ⟨(congrArg Pair.departure h :), announce_mu _ _ _⟩

theorem restart_waits {s : State} (h : s.canDepart = false) :
    s.restart = { s with mu := { s.mu with auto := some ⟨.m0, .none, 7, frameAfter s.now⟩ } } := by
  unfold State.restart
  rw [h]
  rfl

theorem restart_departs {s : State} (h : s.canDepart = true) (hd : s.pair.departure = none) : s.restart = s.depart 1 := by
  unfold State.restart
  rw [h, hd]
  rfl

/-! ## The Curator's restart (R95, R97) -/

theorem exec_curatorRestart (dt cause : Nat) (s : State) : exec (.curatorRestart dt cause) s =
    .next ((if cause = 4 then (s.elapse dt).internalFault else s.elapse dt).curatorRestart cause) := rfl

theorem curatorRestart_begins {s : State} (h : s.mbx.restarting = none) (h0 : s.mode ≠ .m0) (cause : Nat) :
    (s.curatorRestart cause).mbx.restarting = some (cause, s.tick) := by
  unfold State.curatorRestart
  rw [h, beq_eq_false_iff_ne.mpr h0]
  rfl

/-- An internal fault leaves mode and clock (R78). -/
theorem internalFault_keeps (s : State) : s.internalFault.mode = s.mode ∧ s.internalFault.tick = s.tick := by
  have hmu : s.internalFault.mu = s.mu := kept (fun _ h => internalFault_view s h) .mu (by decide)
  have hclk : s.internalFault.clk = s.clk := kept (fun _ h => internalFault_view s h) .clk (by decide)
  exact ⟨congrArg ModeUnit.mode hmu, congrArg Clk.ticks hclk⟩

theorem countRestart_curatorRestarts (s : State) : s.countRestart.mu.curatorRestarts = s.mu.curatorRestarts := by
  unfold State.countRestart
  extract_lets recent s1 bad s2
  split
  · rfl
  · split
    · unfold State.withdraw
      rw [completeOpt_mu, announce_mu]
      rfl
    · unfold State.auto
      split
      · split <;> rfl
      · rfl

theorem exec_curatorRestartDone {dt cause k : Nat} {s : State} (h : s.mbx.restarting = some (cause, k)) :
    exec (.curatorRestartDone dt) s = .next ((s.elapse dt).curatorDone cause k) := by
  show execCuratorRestartDone dt s = _
  unfold execCuratorRestartDone
  simp only [elapse_mbx, h]

/-- The Curator serves mailboxes again, and has counted the restart (R95, R97). -/
theorem curatorDone_serves (s : State) (cause k : Nat) :
    (s.curatorDone cause k).mbx.restarting = none ∧ (s.curatorDone cause k).mu.curatorRestarts = s.mu.curatorRestarts + 1 := by
  unfold State.curatorDone
  extract_lets rose _ s1 s2 s3 s4 s5 s6 s7
  have h2 : s2.mbx.restarting = none := resend_restarting s1
  have h4 : s4.mbx.restarting = none := (foldl_restarting sendWaiting_restarting).trans h2
  have h5 : s5.mbx.restarting = none := (foldl_restarting lateNotify_restarting).trans h4
  have h6 : s6.mbx.restarting = none := (foldl_restarting lateRecord_restarting).trans h5
  have hmu2 : s2.mu = s.mu := kept (m := 0) (fun _ _ => resend_view s1) .mu (by decide)
  have hmu6 : s6.mu = s3.mu := kept (m := 0) (s := s3)
    (fun _ _ => foldl_keep lateRecord_view (foldl_keep lateNotify_view (foldl_keep sendWaiting_view rfl))) .mu (by decide)
  constructor
  · rw [countRestart_restarting]
    exact (raise_restarting _ _ _).trans h6
  · rw [countRestart_curatorRestarts]
    show (s6.raise 16 _).mu.curatorRestarts = _
    rw [raise_mu, hmu6]
    exact congrArg (fun u => ModeUnit.curatorRestarts u + 1) hmu2

/-! ## The watchdog (R256) -/

/-- A watchdog that no grace holds resets the module. -/
theorem exec_watchdogExpiry {dt : Nat} {s : State} (h0 : s.mode ≠ .m0)
    (hg : ∀ c k, s.mbx.restarting = some (c, k) → (s.elapse dt).since k (1500 * Config.ticksPerMs) = true) :
    exec (.watchdogExpiry dt) s = .next (s.elapse dt).enterM0 := by
  show execWatchdogExpiry dt s = _
  unfold execWatchdogExpiry
  extract_lets e grace
  have hgrace : grace = false := by
    simp only [grace, e, elapse_mbx]
    split
    · next c k h => rw [hg c k h]; rfl
    · rfl
  exact congrArg Host.Outcome.next (if_neg (not_or.mpr ⟨h0, by rw [hgrace]; exact Bool.false_ne_true⟩))

/-! ## Loss of power (R61, R527, R543, R544) -/

theorem exec_powerFailDetected {dt : Nat} {s : State} (h0 : s.mode ≠ .m0) (hp : s.sup.powerFail = false) :
    exec (.powerFailDetected dt) s = .next (s.elapse dt).powerFails :=
  congrArg Host.Outcome.next (if_neg (not_or.mpr ⟨h0, by rw [elapse_sup, hp]; exact Bool.false_ne_true⟩))

/-- The retained part is read from the program's declarations, the tasks and the last save alone. -/
theorem retainedParts_congr {s t : State} (hr : t.ret.save = s.ret.save) (hp : t.tk.prog = s.tk.prog) (ht : t.tk.task = s.tk.task) :
    t.retainedParts = s.retainedParts := by
  unfold State.retainedParts State.decl State.task
  rw [hr, hp, ht]

/-- The supply without its feeds (R527). -/
def State.unfed (s : State) : State := s.modSup (fun p => { p with present := [false, false], powerFail := true })

/-- Without its feeds the module releases the panel lines (R470). -/
def State.darkened (s : State) : State := s.unfed.panelAbandon.2

/-- The state in which a loss of power looks for a departure: an overlarge save is skipped (R46). -/
def State.failing (s : State) : State :=
  if s.darkened.saveTooBig then
    ({ s.darkened with ret := { s.darkened.ret with skip := true } }).raise 17
      [(1, 3), (4, 4096 * s.darkened.ret.dirty.length), (4, (s.darkened.tick - s.darkened.ret.lastTick) / Config.ticksPerMs)]
  else s.darkened

theorem modRet_view {hid : Nat} (s : State) (r : Retain) (hm : Sub 0x40000 hid) :
    State.view hid { s with ret := r } = s.view hid := by
  unfold State.view
  rw [hide_on (k := 18) (y := s.ret) hm]

theorem darkened_view {hid : Nat} (s : State) (hm : Sub 0x100000000 hid) : s.darkened.view hid = s.unfed.view hid :=
  panelAbandon_view s.unfed hm

theorem failing_view {hid : Nat} (s : State) (hm : Sub 0x100040000 hid) : s.failing.view hid = s.unfed.view hid :=
  have h1 : s.darkened.view hid = s.unfed.view hid := darkened_view s (Sub.of hm (by decide))
  ite_view ((raise_view _ _ _).trans ((modRet_view s.darkened _ (Sub.of hm (by decide))).trans h1)) h1

theorem failing_sup (s : State) : s.failing.sup = { s.sup with present := [false, false], powerFail := true } :=
  have h : Part.same s.unfed s.failing .sup := kept (fun _ h => failing_view s h) .sup (by decide)
  h

theorem failing_tick (s : State) : s.failing.tick = s.tick :=
  have h : Part.same s.unfed s.failing .clk := kept (fun _ h => failing_view s h) .clk (by decide)
  congrArg Clk.ticks h

/-- What begins a final save begins it now (R62). -/
theorem beginSave_sup (s : State) : s.beginSave.sup = { s.sup with saving := some (s.tick, 0) } := rfl

theorem beginSave_begun (s : State) : s.beginSave.ret.begun = if s.ret.skip then none else some s.retainedParts := rfl

theorem powerFails_eq (s : State) :
    s.powerFails =
      if s.mode = .m1 then s.unfed
      else match s.failing.pair.departure with
        | some d =>
          if d.leaving && decide (s.failing.now < d.at_) then
            s.failing.modPair (fun p => { p with departure := some { d with after := 0 } })
          else s.failing.beginSave
        | none => if s.failing.canDepart then s.failing.depart 0 else s.failing.beginSave := by
  unfold State.powerFails
  extract_lets s1 s2 _ s3
  have h2 : s2 = s.darkened := rfl
  have h3 : s3 = s.failing := by
    unfold State.failing
    rw [← h2]
  rw [h3]
  generalize s.failing = u
  rfl

/-- A loss of power shows at the supply at once (R527), and leaves modes and roles. -/
theorem powerFails_shows (s : State) :
    s.powerFails.sup.powerFail = true ∧ s.powerFails.sup.present = [false, false] ∧ s.powerFails.mu = s.mu := by
  have hf := failing_sup s
  have hb : s.failing.beginSave.sup.powerFail = true ∧ s.failing.beginSave.sup.present = [false, false] := by
    rw [beginSave_sup, hf]
    exact ⟨rfl, rfl⟩
  have hmu : s.powerFails.mu = s.mu := kept (fun _ h => powerFails_view s h) .mu (by decide)
  refine and_assoc.mp ⟨?_, hmu⟩
  rw [powerFails_eq]
  split
  · exact ⟨rfl, rfl⟩
  · split
    · split
      · rw [modPair_sup, hf]
        exact ⟨rfl, rfl⟩
      · exact hb
    · split
      · have hd : (s.failing.depart 0).sup = s.failing.sup := kept (fun _ h => depart_view s.failing 0 h) .sup (by decide)
        rw [hd, hf]
        exact ⟨rfl, rfl⟩
      · exact hb

/-- A module that departs from no pair begins its final save at once (R61, R544). -/
theorem powerFails_saves {s : State} (h1 : s.mode ≠ .m1) (hd : s.canDepart = false) (hn : s.pair.departure = none) :
    s.powerFails = s.failing.beginSave := by
  have hmu : Part.same s.unfed s.failing .mu := kept (fun _ h => failing_view s h) .mu (by decide)
  have hmu : s.failing.mu = s.mu := hmu
  have hpair : Part.same s.unfed s.failing .pair := kept (fun _ h => failing_view s h) .pair (by decide)
  have hdep : s.failing.pair.departure = none := (congrArg Pair.departure hpair :).trans hn
  have hstay : s.failing.canDepart = false := by
    rw [← hd]
    unfold State.canDepart State.mode State.role
    have h0 : s.failing.pair.sl0 = s.pair.sl0 := (congrArg Pair.sl0 hpair :)
    have h1 : s.failing.pair.sl1 = s.pair.sl1 := (congrArg Pair.sl1 hpair :)
    have hg : s.failing.pair.gone = s.pair.gone := (congrArg Pair.gone hpair :)
    rw [hmu, h0, h1, hg]
  rw [powerFails_eq, if_neg h1, hdep]
  simp only [hstay, Bool.false_eq_true, if_false]

/-- The final save holds the retained part as it stands at the loss, unless the save is skipped (R46, R62). -/
theorem failing_begun (s : State) :
    s.failing.beginSave.ret.begun = if s.ret.skip || s.saveTooBig then none else some s.retainedParts := by
  have hret : Part.same s.unfed s.darkened .ret := kept (fun _ h => darkened_view s h) .ret (by decide)
  have hret : s.darkened.ret = s.ret := hret
  have hprog : Part.same s.unfed s.darkened .program := kept (fun _ h => darkened_view s h) .program (by decide)
  have htask : Part.same s.unfed s.darkened .tasks := kept (fun _ h => darkened_view s h) .tasks (by decide)
  have hparts : s.darkened.retainedParts = s.retainedParts :=
    retainedParts_congr (congrArg Retain.save hret) hprog.2.2.2.1 htask.1
  have hbig : s.darkened.saveTooBig = s.saveTooBig := by
    unfold State.saveTooBig
    rw [hret]
  rw [beginSave_begun]
  unfold State.failing
  rw [hbig]
  cases hb : s.saveTooBig with
  | true => rw [if_pos rfl, raise_ret, if_pos rfl, Bool.or_true, if_pos rfl]
  | false => rw [if_neg Bool.false_ne_true, Bool.or_false, hret, hparts]

/-! ## The final save (R61, R543, R544) -/

/-- A final save at a loss of power writes what stood at its beginning, unless it is skipped. -/
theorem finalSave_save {s : State} {l : Tab (List Byte)} (h0 : s.mode ≠ .m0) (h1 : s.mode ≠ .m1) (hb : s.ret.begun = some l) :
    (s.finalSave true).ret.save = if s.ret.skip then s.ret.save else some (s.now, true, l) := by
  unfold State.finalSave
  rw [if_neg (not_or.mpr ⟨h0, h1⟩), hb]
  extract_lets _ s1
  have h : ∀ k, (s1.journalWrite k).archFinal.ret = s1.ret := fun k =>
    kept (m := 0x401000) (fun _ h => (archFinal_view _ (Sub.of h (by decide))).trans
      (journalWrite_view _ _ (Sub.of h (by decide)))) .ret (by decide)
  rw [h]
  simp only [s1, Bool.true_and]
  split <;> rfl

/-- Entry into M0 keeps the last save (R35). -/
theorem enterM0_save (s : State) : s.enterM0.ret.save = s.ret.save := rfl

theorem exec_feedReturnDuringSave {dt feed : Nat} {s : State} (hf : feed < 2) (hp : s.sup.powerFail = true)
    (hs : s.sup.saving ≠ none) :
    exec (.feedReturnDuringSave dt feed) s = .next (((s.elapse dt).finalSave true).enterM0.modSup
      (fun p => { p with present := ([false, false] : List Bool).set feed true })) := by
  have hsome : s.sup.saving.isNone = false := Option.isNone_eq_false_iff.mpr (Option.isSome_iff_ne_none.mpr hs)
  show execFeedReturnDuringSave dt feed s = _
  unfold execFeedReturnDuringSave
  simp only [elapse_sup, hp, hsome, Nat.not_le.mpr hf, Bool.not_true, Bool.false_and, Bool.false_eq_true, if_false]

/-- The end of the hold-up finds a save that had 6 ms complete (R527). -/
theorem exec_holdupEnd {dt k why : Nat} {s : State} (hp : s.sup.powerFail = true) (hs : s.sup.saving = some (k, why)) :
    exec (.holdupEnd dt) s = .next
      ((if (s.elapse dt).since k (6 * Config.ticksPerMs) then (s.elapse dt).finalSave true else s.elapse dt).enterM0.modSup
        (fun p => { p with present := [false, false], held := true })) := by
  show execHoldupEnd dt s = _
  unfold execHoldupEnd
  simp only [elapse_sup, hp, hs, Bool.not_true, Bool.false_eq_true, if_false]

/-! ## Feeds, diagnostics and the periodic saves -/

theorem exec_feedRestored {dt feed : Nat} {s : State} (hf : feed < 2) (hp : s.sup.powerFail = false)
    (ho : s.sup.present.getD (1 - feed) false = true) :
    exec (.feedRestored dt feed) s = .next ((s.elapse dt).modSup (fun p => { p with present := p.present.set feed true })) := by
  show execFeedRestored dt feed s = _
  unfold execFeedRestored otherFeed
  simp only [elapse_sup, hp, ho, Nat.not_le.mpr hf, Bool.not_true, Bool.or_false, Bool.false_eq_true, if_false]

theorem exec_holdupBankCharged {dt : Nat} {s : State} (h0 : s.mode ≠ .m0) (hp : s.sup.powerFail = false) :
    exec (.holdupBankCharged dt) s = .next ((s.elapse dt).modSup (fun p => { p with holdupReady := true })) :=
  congrArg Host.Outcome.next (if_neg (not_or.mpr ⟨h0, by rw [elapse_sup, hp]; exact Bool.false_ne_true⟩))

/-- A diagnostic update stores what is measured (R537, R538); the points it publishes leave the supply. -/
theorem exec_curatorDiagnosticUpdate_sup {dt : Nat} {d : DiagIn} {s : State} (h0 : s.mode ≠ .m0)
    (hg : (s.elapse dt).onGrid 100000000 = true) :
    ∃ t, exec (.curatorDiagnosticUpdate dt d) s = .next t ∧ t.sup = { s.sup with
      volts := [d.pwrA, d.pwrB], power := d.power, inlet := d.inlet, die := d.die, peak := fmax fmt32 s.sup.peak d.inlet } := by
  have h : ¬ ((s.elapse dt).mode = .m0 ∨ (!(s.elapse dt).onGrid 100000000) = true) := by
    rw [hg]
    exact not_or.mpr ⟨h0, Bool.false_ne_true⟩
  refine ⟨_, if_neg h, ?_⟩
  exact kept (m := 0x32000) (s := (s.elapse dt).modSup _)
    (fun _ h => (diagPoints_view _ _ _ _ h).trans (diagPoints_view _ _ _ _ h)) .sup (by decide)

theorem exec_periodicRetainSave {dt : Nat} {s : State} (hs : s.savesRetained = true)
    (hd : (s.elapse dt).since s.ret.lastTick s.savePeriod = true) :
    exec (.periodicRetainSave dt) s = .next
      { (s.elapse dt).saveRetained false with ret := { ((s.elapse dt).saveRetained false).ret with saving := none } } := by
  refine if_neg ?_
  show ¬ (!s.savesRetained || !(s.elapse dt).since s.ret.lastTick s.savePeriod) = true
  rw [hs, hd]
  exact Bool.false_ne_true

/-- A periodic save that is overdue by one more period is told (R46). -/
theorem exec_retainSaveTimeout {dt : Nat} {s : State} (hs : s.savesRetained = true)
    (hd : (s.elapse dt).since (max (s.ret.lastTick + s.savePeriod) (s.ret.saving.getD 0)) s.savePeriod = true) :
    ∃ u : State, u = (s.elapse dt).raise 17 [(1, 1), (4, 4096 * s.ret.dirty.length),
        (4, ((s.elapse dt).tick - s.ret.lastTick) / Config.ticksPerMs)] ∧
      exec (.retainSaveTimeout dt) s = .next { u with ret := { u.ret with saving := some u.tick } } := by
  refine ⟨_, rfl, if_neg ?_⟩
  show ¬ (!s.savesRetained || !(s.elapse dt).since (max (s.ret.lastTick + s.savePeriod) (s.ret.saving.getD 0)) s.savePeriod) = true
  rw [hs, hd]
  exact Bool.false_ne_true

end Sys2Proof.Machine

open Sys2Proof Sys2Proof.Machine

/-- Settles O14: power by `runM0_begins`, the self-test by `selfTest_halts`, `selfTest_stays`, `selfTest_recovers` and
`selfTest_unconfigured`, restarts by `restart_waits`, `restart_departs` and `curatorDone_serves`, the loss of power by
`powerFails_saves` and `finalSave_save`. -/
theorem powerRowsComplete : Obligations.PowerRowsComplete := by
  refine ⟨fun dt feeds ohms s h0 hf => ⟨_, exec_powerApplied h0 hf, runM0_begins _ _ _⟩,
    fun dt r s h1 hd hc hr hw hi ho ha => ?_, fun dt r s h1 hd hc hr hw hi hs => ?_,
    fun dt r i s h1 hd hc hr hw hi hs hcom hnew ha => ?_, fun dt r s h1 hd hc hr hw hi hs hcom hp ha => ?_,
    fun dt p x s h hd => ?_, fun dt p x s h hd hn => ?_, fun dt cause s h h0 => ?_, fun dt cause k s h => ?_,
    fun dt s h0 hg => ⟨_, exec_watchdogExpiry h0 hg, rfl, rfl, rfl, rfl, rfl, rfl, rfl, rfl, rfl, rfl⟩,
    fun dt s h0 hp => ?_, fun dt feed l s hp hs h0 h1 hk hb hf => ?_, fun dt k why l s hp hs h0 h1 hb => ?_,
    fun dt feed volt s hf => ⟨_, if_neg (Nat.not_le.mpr hf), rfl⟩, fun dt feed s hf hp ho => ?_,
    fun dt s h0 hp => ?_, fun dt d s h0 hg => ?_, fun dt s hs hd => ⟨_, exec_periodicRetainSave hs hd, rfl⟩,
    fun dt s hs hd => ?_⟩
  · obtain ⟨hmode, hauto, hcause⟩ := selfTest_halts (s := s.elapse dt) h1 hc ha hr hw hi ho
    refine ⟨_, exec_selftestComplete h1 hd, ?_⟩
    rw [leaveM1_halted (by rw [hcause]; decide) hauto rfl]
    exact ⟨hmode, hauto, hcause⟩
  · exact ⟨_, exec_selftestComplete h1 hd, selfTest_stays (s := s.elapse dt) hc hr hw hi hs⟩
  · have hmu := selfTest_recovers (s := s.elapse dt) hc hr hw hi hs hcom hnew ha
    exact ⟨_, exec_selftestComplete h1 hd, (congrArg ModeUnit.mode hmu).trans h1, congrArg ModeUnit.auto hmu,
      congrArg ModeUnit.recoveryCause hmu⟩
  · obtain ⟨hmu, hrest⟩ := selfTest_unconfigured (s := s.elapse dt) hc hr hw hi hs hcom hp ha
    exact ⟨_, exec_selftestComplete h1 hd, (congrArg ModeUnit.mode hmu).trans h1, congrArg ModeUnit.auto hmu, hrest⟩
  · obtain ⟨v, hv, hbody, hans⟩ := mail_after (f := State.restart) h (codeIs_of h.code) rfl
    have hmu : v.mu = s.mu := (congrArg State.mu hbody :)
    have hnow : v.now = (s.elapse dt).now := (congrArg (fun t => State.now t) hbody :)
    have hstay : v.canDepart = false := (congrArg (fun t => State.canDepart t) hbody :).trans hd
    rw [restart_waits hstay, hnow] at hv
    exact ⟨_, hv, congrArg (fun u : ModeUnit => { u with auto := some ⟨.m0, .none, 7, frameAfter (s.elapse dt).now⟩ }) hmu,
      hans⟩
  · obtain ⟨v, hv, hbody, -⟩ := mail_after (f := State.restart) h (codeIs_of h.code) rfl
    have hmu : v.mu = s.mu := (congrArg State.mu hbody :)
    have hnow : v.now = (s.elapse dt).now := (congrArg (fun t => State.now t) hbody :)
    have hgo : v.canDepart = true := (congrArg (fun t => State.canDepart t) hbody :).trans hd
    rw [restart_departs hgo ((congrArg (fun t => t.pair.departure) hbody :).trans hn)] at hv
    obtain ⟨hdep, hkeeps⟩ := depart_asks v 1
    rw [hnow] at hdep
    exact ⟨_, _, hv, hdep, rfl, rfl, rfl, hkeeps.trans hmu⟩
  · obtain ⟨hmode, htick⟩ := internalFault_keeps (s.elapse dt)
    refine ⟨_, exec_curatorRestart _ _ _, ?_⟩
    split
    · rw [curatorRestart_begins (s := (s.elapse dt).internalFault) ((internalFault_restarting _).trans h)
        (by rw [hmode]; exact h0), htick]
    · exact curatorRestart_begins (s := s.elapse dt) h h0 cause
  · exact ⟨_, exec_curatorRestartDone h, curatorDone_serves _ _ _⟩
  · obtain ⟨hfail, hpresent, hmu⟩ := powerFails_shows (s.elapse dt)
    refine ⟨_, exec_powerFailDetected h0 hp, hfail, hpresent, hmu, fun h1 hd hn => ?_⟩
    rw [powerFails_saves (s := s.elapse dt) h1 hd hn]
    exact ⟨by rw [beginSave_sup, failing_tick], failing_begun (s.elapse dt)⟩
  · refine ⟨_, exec_feedReturnDuringSave hf hp hs, rfl, ?_, ?_⟩
    · rw [modSup_ret, enterM0_save, finalSave_save (s := s.elapse dt) h0 h1 hb, elapse_ret, hk]
      rfl
    · interval_cases feed <;> rfl
  · refine ⟨_, exec_holdupEnd hp hs, rfl, rfl, ?_⟩
    rw [modSup_ret, enterM0_save]
    cases (s.elapse dt).since k (6 * Config.ticksPerMs) with
    | true =>
      rw [if_pos rfl, finalSave_save (s := s.elapse dt) h0 h1 hb, elapse_ret]
      cases s.ret.skip <;> rfl
    | false => rfl
  · exact ⟨_, exec_feedRestored hf hp ho, rfl⟩
  · exact ⟨_, exec_holdupBankCharged h0 hp, rfl⟩
  · obtain ⟨t, ht, hsup⟩ := exec_curatorDiagnosticUpdate_sup (d := d) h0 hg
    refine ⟨t, ht, ?_⟩
    rw [hsup]
    exact ⟨rfl, rfl, rfl, rfl, rfl⟩
  · obtain ⟨u, hu, hexec⟩ := exec_retainSaveTimeout hs hd
    refine ⟨_, hexec, ?_, ?_⟩
    · rw [hu, raise_ret, raise_tick]
      rfl
    · exact occurs_raise (congrArg (fun u => u.ev.src) hu) rfl rfl rfl
end

section
/-!
PROOFS. A datagram that the mailbox service takes in whole: discarded, counted, or served.
-/
namespace Sys2Proof.Machine

/-- A row of the mailbox service that completes on a whole datagram has received it (R66). -/
theorem exec_receives {i : Instr} {dt : Nat} {p : Packet} {s t : State} (hi : mailOf i = some (dt, p))
    (hw : p.off = 0 ∧ p.data.length = p.total) (h : exec i s = .next t) :
    ∃ c, t = (s.elapse dt).receive c p.via p.addr p.port p.data := by
  obtain ⟨c, mine, hexec⟩ := exec_mail hi
  refine ⟨c, ?_⟩
  rw [hexec, execMail, assemble_whole _ hw] at h
  dsimp only at h
  split at h
  · exact (Host.Outcome.next.inj h).symm
  · cases h

/-- The datagram has been counted in FrameErrorCount. -/
def State.frameError (e : State) : State := { e with mbx := { e.mbx with frameErr := e.mbx.frameErr + 1 } }

variable {c : Cmd} {e : State} {p : Packet}

/-- MailboxPlantEnable = 0 (R68). -/
theorem receive_disabled (ha : e.mailboxSilent = false) (hs : (p.via == .plant && e.mu.slot == 0xFF) = false)
    (hp : p.via = .plant) (he : e.eff 0x0145 = 0) : e.receive c p.via p.addr p.port p.data = e.frameError := by
  have hoff : (p.via == .plant && e.eff 0x0145 == 0) = true := by rw [hp, he]; rfl
  unfold State.receive
  simp only [ha, hs, hoff, Bool.or_self, Bool.false_eq_true, if_false, if_true]
  rfl

/-- A source that is ignored (R76). -/
theorem receive_lockedOut (he : (p.via == .plant && e.eff 0x0145 == 0) = false) (hl : e.lockedOut p.via p.addr = true) :
    e.receive c p.via p.addr p.port p.data = e := by
  unfold State.receive
  simp only [he, hl, Bool.false_eq_true, if_false, if_true, ite_self]

/-- A frame with a defect of R71. -/
theorem receive_badFrame (ha : e.mailboxSilent = false) (hs : (p.via == .plant && e.mu.slot == 0xFF) = false)
    (he : (p.via == .plant && e.eff 0x0145 == 0) = false) (hl : e.lockedOut p.via p.addr = false)
    (hb : badFrame p.data = true) : e.receive c p.via p.addr p.port p.data = e.frameError := by
  unfold State.receive
  simp only [ha, hs, he, hl, hb, Bool.or_self, Bool.false_eq_true, if_false, if_true]
  rfl

/-- A request for the partner (R69). -/
theorem receive_forwards (ha : e.mailboxSilent = false) (hs : (p.via == .plant && e.mu.slot == 0xFF) = false)
    (he : (p.via == .plant && e.eff 0x0145 == 0) = false) (hl : e.lockedOut p.via p.addr = false)
    (hb : badFrame p.data = false) (ht : (reqOf p).target = 1) :
    e.receive c p.via p.addr p.port p.data = e.forward (reqOf p) p.data := by
  unfold State.receive
  simp only [ha, hs, he, hl, hb, Bool.or_self, Bool.false_eq_true, if_false]
  exact if_pos ht

/-- The plant network is slotted where the module knows its slot (R28). -/
theorem slotted_of (h : p.via = .plant → e.mu.slot ≠ 0xFF) : (p.via == .plant && e.mu.slot == 0xFF) = false := by
  cases hv : p.via with
  | plant => exact Bool.and_eq_false_iff.mpr (.inr (beq_false_of_ne (h hv)))
  | service => rfl

theorem enabled_of (h : p.via = .service ∨ e.eff 0x0145 ≠ 0) : (p.via == .plant && e.eff 0x0145 == 0) = false := by
  rcases h with h | h
  · rw [h]; rfl
  · exact Bool.and_eq_false_iff.mpr (.inr (beq_false_of_ne h))

/-- Flags other than RETRY make a defect (R70, R71). -/
theorem flags_defect {n : Nat} (h : bit n 1 = true ∨ bit n 2 = true ∨ n / 8 ≠ 0) : n / 2 ≠ 0 := by
  intro h0
  have h1 : bit n 1 = false := Nat.testBit_lt_two_pow (by omega)
  have h2 : bit n 2 = false := Nat.testBit_lt_two_pow (by omega)
  rw [h1, h2] at h
  simp only [Bool.false_eq_true, false_or] at h
  omega

/-- Each defect of R71 makes a frame bad. -/
theorem badFrame_of_defect {d : List Byte}
    (h : d.length < 48 ∨ beAt d 0x0C 2 ≠ d.length - 48 ∨ beAt d 0 1 ≠ 1 ∨ beAt d 1 1 / 16 % 8 ≠ 0 ∨
      bit (beAt d 7 1) 1 = true ∨ bit (beAt d 7 1) 2 = true ∨ beAt d 7 1 / 8 ≠ 0 ∨ beAt d 0x0B 1 ≠ 0 ∨
      beAt d 0x0E 2 ≠ 0 ∨ beAt d 0x1C 4 ≠ 0) : badFrame d = true := by
  have hf : bit (beAt d 7 1) 1 = true ∨ bit (beAt d 7 1) 2 = true ∨ beAt d 7 1 / 8 ≠ 0 → beAt d 7 1 / 2 ≠ 0 := flags_defect
  simp only [badFrame, Bool.or_eq_true, decide_eq_true_eq, bne_iff_ne]
  tauto

end Sys2Proof.Machine

open Sys2Proof Sys2Proof.Machine

/-- Settles O46: `receive_badFrame` holds of every row that takes the datagram. -/
theorem badMailboxFramesAreCounted : Obligations.BadMailboxFramesAreCounted := by
  refine ⟨?_, ?_⟩
  · rintro i dt p s _ t hi rfl hw ha he hs hl hd h
    obtain ⟨c, rfl⟩ := exec_receives hi hw h
    exact receive_badFrame ha (slotted_of hs) (enabled_of he) hl (badFrame_of_defect hd)
  · rintro dt p s _ rfl hw ha he hs hl hd
    have hshort : codeIs 0x0001 p.data = true := by simp only [codeIs, hd, decide_true, Bool.true_or]
    show execMail identifyCmd (codeIs 0x0001) dt p s = _
    rw [execMail, assemble_whole _ hw]
    simp only [hshort, Bool.true_or, if_true]
    rw [receive_badFrame ha (slotted_of hs) (enabled_of he) hl (badFrame_of_defect (.inl hd))]
    rfl
end

section
open Sys2Proof Sys2Proof.Machine

/-- Settles O5: no command waits, no second has begun, and nothing is stored yet. -/
theorem resetMeetsTheInvariant : Obligations.ResetMeetsTheInvariant := by
  unfold Obligations.ResetMeetsTheInvariant State.Inv
  refine ⟨nofun, by decide, rfl, rfl⟩
end

section
/-!
PROOFS. A frame that fails authentication (R76): what it counts, and what it leaves as it was.
-/
namespace Sys2Proof.Machine

/-! ## What an event leaves of the mailbox service -/

/-- The mailbox service without what notifications change in it: the sessions and NotifyQueueDrops (R92, R93). -/
def Mbx.quiet (m : Mbx) : Mbx := { m with sessions := [], queueDrops := 0 }

theorem quiet_ite {c : Prop} [Decidable c] {a b : State} {v : Mbx} (ha : a.mbx.quiet = v) (hb : b.mbx.quiet = v) :
    (if c then a else b).mbx.quiet = v := by
  split
  · exact ha
  · exact hb

theorem foldl_quiet {α : Type} {l : List α} {f : State → α → State} {s : State}
    (hf : ∀ t a, (f t a).mbx.quiet = t.mbx.quiet) : (l.foldl f s).mbx.quiet = s.mbx.quiet := by
  induction l generalizing s with
  | nil => rfl
  | cons a l ih => exact (ih (s := f s a)).trans (hf s a)

theorem notify_quiet (s : State) (id : U32) (a b : Nat) (l : List Byte) : (s.notify id a b l).mbx.quiet = s.mbx.quiet := by
  unfold State.notify
  split
  · rfl
  · split
    · rfl
    · exact quiet_ite rfl (quiet_ite (quiet_ite rfl rfl) rfl)

theorem eventToSession_quiet (s : State) (k : Nat) (id : U32) : (s.eventToSession k id).mbx.quiet = s.mbx.quiet :=
  quiet_ite rfl (notify_quiet _ _ _ _ _)

theorem eventNotify_quiet (s : State) (k : Nat) : (s.eventNotify k).mbx.quiet = s.mbx.quiet := by
  refine foldl_quiet (fun t x => ?_)
  split
  · exact quiet_ite (eventToSession_quiet _ _ _) rfl
  · rfl

/-- An occurrence of an event changes nothing in the mailbox service but what its notifications do. -/
theorem raise_quiet (s : State) (k : Nat) (d : List (Nat × Nat)) : (s.raise k d).mbx.quiet = s.mbx.quiet := by
  unfold State.raise State.raiseWith
  extract_lets src s1 e det masked src' s2 s3
  have h2 : s2.mbx.quiet = s.mbx.quiet := quiet_ite rfl rfl
  have h3 : s3.mbx.quiet = s.mbx.quiet := quiet_ite ((eventNotify_quiet _ _).trans h2) h2
  have hrouted : ∀ a b l f g, (s3.archRouted a b l f g).mbx.quiet = s.mbx.quiet := fun a b l f g => by
    rw [archRouted_mbx]
    exact h3
  exact quiet_ite rfl (quiet_ite h2 (quiet_ite ((congrArg Mbx.quiet (archMandatory_mbx _ _ _ _ _ _ _)).trans h3)
    (quiet_ite (hrouted _ _ _ _ _) h3)))

/-- Without a route no session is told of an event (R91, R114). -/
theorem eventNotify_unrouted {s : State} (k : Nat) (h : ∀ x ∈ s.mbx.sessions, x.route = none) : s.eventNotify k = s := by
  unfold State.eventNotify
  generalize s.mbx.sessions = l at h
  induction l with
  | nil => rfl
  | cons x l ih =>
    rw [List.foldl_cons, h x List.mem_cons_self]
    exact ih (fun y hy => h y (List.mem_cons_of_mem _ hy))

theorem out_ite {c : Prop} [Decidable c] {a b : State} {v : List Emission} (ha : a.out = v) (hb : b.out = v) :
    (if c then a else b).out = v := by
  split
  · exact ha
  · exact hb

/-- Without a route nothing is sent at an event. -/
theorem raise_out_unrouted {s : State} (k : Nat) (d : List (Nat × Nat)) (h : ∀ x ∈ s.mbx.sessions, x.route = none) :
    (s.raise k d).out = s.out := by
  unfold State.raise State.raiseWith
  extract_lets src s1 e det masked src' s2 s3
  have hs : s2.mbx = s.mbx := by
    simp only [s2]
    split <;> rfl
  have h2 : s2.out = s.out := out_ite rfl rfl
  have h3 : s3.out = s.out := by
    simp only [s3, eventNotify_unrouted k (hs ▸ h), ite_self]
    exact h2
  exact out_ite rfl (out_ite h2 (out_ite ((archMandatory_out _ _ _ _ _ _ _).trans h3)
    (out_ite ((archRouted_out _ _ _ _ _ _).trans h3) h3)))

/-! ## A frame that fails authentication -/

/-- EV014 has occurred for a request, and AuthFailCount has counted it (R76, R97). -/
def State.authCounted (s : State) (r : Req) : State :=
  ({ s with mbx := { s.mbx with authFail := s.mbx.authFail + 1 } }).raise 14
    [(1, if r.via = Via.plant then 0 else 1), (4, r.addr.toNat), (4, r.session.toNat)]

/-- The frames of one source that have been discarded within the last 10 s. -/
def State.failsOf (s : State) (via : Via) (addr : U32) : List (Via × U32 × Nat) :=
  s.mbx.fails.filter (fun f => f.1 == via && f.2.1 == addr && decide (s.tick < f.2.2 + 10 * Config.ticksPerSecond))

theorem authCounted_quiet (s : State) (r : Req) :
    (s.authCounted r).mbx.quiet = ({ s.mbx with authFail := s.mbx.authFail + 1 } : Mbx).quiet := raise_quiet _ _ _

/-- The sixteenth discarded frame of one source within 10 s begins a lockout of 60 s, and no earlier one does (R76). -/
theorem authFail_eq (s : State) (r : Req) : ∃ l,
    s.authFail r = if 15 ≤ (s.failsOf r.via r.addr).length then
      { s.authCounted r with mbx := { (s.authCounted r).mbx with
        fails := l, lockouts := (s.authCounted r).mbx.lockouts + 1
        locks := (s.authCounted r).mbx.locks ++ [(r.via, r.addr, (s.authCounted r).tick + 60 * Config.ticksPerSecond)] } }
    else { s.authCounted r with mbx := { (s.authCounted r).mbx with fails := l } } := by
  have hq := authCounted_quiet s r
  have htick : (s.authCounted r).tick = s.tick := raise_tick _ _ _
  have hfails : (s.authCounted r).mbx.fails = s.mbx.fails := (congrArg Mbx.fails hq :)
  unfold State.authFail
  extract_lets src s1 s2 recent mine
  have hs : s2 = s.authCounted r := rfl
  have hmine : mine.length = (s.failsOf r.via r.addr).length + 1 := by
    simp only [mine, recent, hs, hfails, htick, List.filter_append, List.filter_filter, List.length_append]
    congr 1
    simp only [List.filter_cons, beq_self_eq_true, Bool.and_self, if_true, List.filter_nil, List.length_singleton]
  rw [hmine]
  by_cases h : 15 ≤ (s.failsOf r.via r.addr).length
  · exact ⟨_, (if_pos (Nat.succ_le_succ h)).trans (if_pos h).symm⟩
  · exact ⟨_, (if_neg (fun h' => h (Nat.le_of_succ_le_succ h'))).trans (if_neg h).symm⟩

/-- Beside sessions and NotifyQueueDrops, and what is kept of discarded frames and lockouts, only AuthFailCount changes in the
mailbox service. -/
theorem authFail_keeps (s : State) (r : Req) :
    (s.authFail r).mbx.authFail = s.mbx.authFail + 1 ∧ (s.authFail r).mbx.boxes = s.mbx.boxes ∧
      (s.authFail r).mbx.status = s.mbx.status ∧ (s.authFail r).out = (s.authCounted r).out ∧
      (s.authFail r).ev = (s.authCounted r).ev ∧ (s.authFail r).opened = s.opened := by
  have hq := authCounted_quiet s r
  have hcount : (s.authCounted r).mbx.authFail = s.mbx.authFail + 1 := (congrArg Mbx.authFail hq :)
  have hboxes : (s.authCounted r).mbx.boxes = s.mbx.boxes := (congrArg Mbx.boxes hq :)
  have hstatus : (s.authCounted r).mbx.status = s.mbx.status := (congrArg Mbx.status hq :)
  have hopened : (s.authCounted r).opened = s.opened := raise_opened _ _ _
  obtain ⟨l, h⟩ := authFail_eq s r
  rw [h]
  split
  · exact ⟨hcount, hboxes, hstatus, rfl, rfl, hopened⟩
  · exact ⟨hcount, hboxes, hstatus, rfl, rfl, hopened⟩

theorem authFail_occurs (s : State) (r : Req) :
    Occurs s (s.authFail r) 14 [(1, if r.via = Via.plant then 0 else 1), (4, r.addr.toNat), (4, r.session.toNat)] := by
  obtain ⟨-, -, -, -, hev, -⟩ := authFail_keeps s r
  exact occurs_raise (congrArg Events.src hev) rfl rfl rfl

theorem authFail_out_unrouted {s : State} (r : Req) (h : ∀ x ∈ s.mbx.sessions, x.route = none) : (s.authFail r).out = s.out := by
  obtain ⟨-, -, -, hout, -⟩ := authFail_keeps s r
  rw [hout]
  exact raise_out_unrouted _ _ h

theorem authFail_locks {s : State} {r : Req} (h : 15 ≤ (s.failsOf r.via r.addr).length) :
    (s.authFail r).mbx.lockouts = s.mbx.lockouts + 1 ∧
      (r.via, r.addr, s.tick + 60 * Config.ticksPerSecond) ∈ (s.authFail r).mbx.locks := by
  have hlockouts : (s.authCounted r).mbx.lockouts = s.mbx.lockouts := (congrArg Mbx.lockouts (authCounted_quiet s r) :)
  have htick : (s.authCounted r).tick = s.tick := raise_tick _ _ _
  obtain ⟨l, hl⟩ := authFail_eq s r
  rw [hl, if_pos h, ← hlockouts, ← htick]
  exact ⟨rfl, List.mem_append_right _ (List.mem_singleton_self _)⟩

theorem authFail_below {s : State} {r : Req} (h : (s.failsOf r.via r.addr).length < 15) :
    (s.authFail r).mbx.lockouts = s.mbx.lockouts ∧ (s.authFail r).mbx.locks = s.mbx.locks := by
  have hq := authCounted_quiet s r
  obtain ⟨l, hl⟩ := authFail_eq s r
  rw [hl, if_neg (Nat.not_le.mpr h)]
  exact ⟨(congrArg Mbx.lockouts hq :), (congrArg Mbx.locks hq :)⟩

/-- No part of the module follows a frame that fails authentication. -/
theorem authFail_same (s : State) (r : Req) (q : Part) : Part.same s (s.authFail r) q :=
  kept (m := 0) (fun _ _ => authFail_view s r) q (Nat.zero_testBit _)

/-! ## When authentication fails -/

/-- The binding, the Hmac or the counter of a request does not fit its session (R75, R76, R94). -/
def Session.rejects (x : Session) (r : Req) : Prop :=
  x.via ≠ r.via ∨ x.addr ≠ r.addr ∨ (hmac x.key (r.head ++ r.body)).take 16 ≠ r.mac ∨
    (∃ k, x.counter = some k ∧ r.counter < k) ∨ (x.counter = some r.counter ∧ r.retry = false) ∨
    (x.counter = none ∧ r.counter ≠ 1)

theorem serveFrame_sessionReq (e : State) (c : Cmd) {r : Req} (h1 : r.code ≠ 0x0001) (h2 : r.code ≠ 0x0010) :
    e.serveFrame c r = e.sessionReq c r := by
  unfold State.serveFrame
  rw [if_neg h1, if_neg h2]

/-- A request of no open session fails authentication (R76). -/
theorem sessionReq_unknown {e : State} {r : Req} (c : Cmd) (h : e.session r.session = none) :
    e.sessionReq c r = e.authFail r := by
  unfold State.sessionReq
  rw [h]

/-- A request that its session rejects fails authentication. -/
theorem sessionReq_rejected {e : State} {r : Req} {x : Session} (c : Cmd) (hx : e.session r.session = some x)
    (h : x.rejects r) : e.sessionReq c r = e.authFail r := by
  unfold State.sessionReq
  rw [hx]
  dsimp only
  split
  · rfl
  · rename_i hbound
    refine if_pos ?_
    rcases h with h | h | h | ⟨k, hk, hlt⟩ | ⟨hk, hretry⟩ | ⟨hk, hne⟩
    · exact absurd (.inl h) hbound
    · exact absurd (.inr (.inl h)) hbound
    · exact absurd (.inr (.inr h)) hbound
    · simp only [hk, hlt, decide_true, Bool.true_or]
    · simp only [hk, hretry, beq_self_eq_true, Bool.not_false, Bool.and_self, Bool.or_true]
    · simp only [hk, bne_iff_ne, ne_eq, hne, not_false_eq_true]

end Sys2Proof.Machine

open Sys2Proof Sys2Proof.Machine

/-- Settles O47: `sessionReq_unknown` and `sessionReq_rejected` lead to `authFail`, and a source that is ignored ends in
`receive_lockedOut`. -/
theorem unauthenticatedFramesAreCounted : Obligations.UnauthenticatedFramesAreCounted := by
  refine ⟨?_, ?_⟩
  · rintro i dt p s _ t hi rfl hp hc1 hc2 hx h
    obtain ⟨c, rfl⟩ := exec_receives hi hp.whole h
    have hfail : (s.elapse dt).receive c p.via p.addr p.port p.data = (s.elapse dt).authFail (reqOf p) := by
      rw [receive_heard hp, serveFrame_sessionReq _ _ hc1 hc2]
      rcases hx with hx | ⟨x, hx, hrej⟩
      · exact sessionReq_unknown c hx
      · exact sessionReq_rejected c hx hrej
    rw [hfail]
    obtain ⟨hcount, hboxes, hstatus, -⟩ := authFail_keeps (s.elapse dt) (reqOf p)
    refine ⟨hcount, authFail_occurs _ _, hboxes, hstatus, authFail_same _ _, authFail_out_unrouted _,
      authFail_locks (r := reqOf p), fun hfew => ?_⟩
    refine authFail_below (Nat.lt_of_le_of_lt (List.Sublist.length_le (List.monotone_filter_right _ (fun f hf => ?_))) hfew)
    simp only [Bool.and_eq_true] at hf ⊢
    exact ⟨hf.1.2, hf.2⟩
  · rintro i dt b p s _ t hi rfl hw he hb hlt h
    obtain ⟨c, rfl⟩ := exec_receives hi hw h
    refine receive_lockedOut (enabled_of he) (List.any_eq_true.mpr ⟨_, hb, ?_⟩)
    simp only [beq_self_eq_true, Bool.true_and, decide_eq_true_eq]
    exact hlt
end

section
/-!
PROOFS. A request sent again (R94), and a request that is refused before its command is judged (R77, R79).
-/
namespace Sys2Proof.Machine

/-! ## A request of an open session -/

/-- A row of the mailbox service that completes on a fresh request of an open session has served it. -/
theorem exec_serves {i : Instr} {dt : Nat} {p : Packet} {s t : State} {x : Session} (hi : mailOf i = some (dt, p))
    (hp : InSession (s.elapse dt) p x) (h : exec i s = .next t) :
    ∃ c, t = ((s.elapse dt).noted p x).serveReq c (reqOf p) (some x.key) x.id x.level x.unsetKey := by
  obtain ⟨c, ht⟩ := exec_receives hi hp.whole h
  exact ⟨c, by rw [ht, receive_heard hp.toHeard, serveFrame_session hp]⟩

/-! ## Retransmissions -/

section
variable {e : State} {p : Packet} {x : Session} {k : Nat} (c : Cmd)

/-- A request is the last one of its session once more, with RETRY set (R94). -/
structure Retried (e : State) (p : Packet) (x : Session) (k : Nat) : Prop where
  open_ : e.session (reqOf p).session = some x
  bound : x.via = p.via ∧ x.addr = p.addr
  mac : (hmac x.key ((reqOf p).head ++ (reqOf p).body)).take 16 = (reqOf p).mac
  last : x.counter = some k
  counter : (reqOf p).counter = k
  retry : (reqOf p).retry = true

theorem Retried.bound_mac (h : Retried e p x k) : ¬ (x.via ≠ (reqOf p).via ∨ x.addr ≠ (reqOf p).addr ∨
    (hmac x.key ((reqOf p).head ++ (reqOf p).body)).take 16 ≠ (reqOf p).mac) := by
  rintro (hv | ha | hm)
  · exact hv h.bound.1
  · exact ha h.bound.2
  · exact hm h.mac

/-- The stored response of the mailbox goes out again. -/
theorem sessionReq_resends (h : Retried e p x k) {f : List Byte}
    (hf : (tget e.mbx.boxes (reqOf p).box {}).last = some ((reqOf p).session, k, f)) :
    e.sessionReq c (reqOf p) = (e.noted p x).reply (reqOf p) f := by
  obtain ⟨hx, -, -, hk, hc, hr⟩ := id h
  subst hc
  unfold State.sessionReq
  simp only [hx, if_neg h.bound_mac, hk, hr, lt_irrefl, decide_false, Bool.not_true, Bool.and_false, Bool.or_self,
    Bool.false_eq_true, if_false, beq_self_eq_true, Bool.and_self, hf, true_and, if_true,
    show ∀ i f, (e.modSession i f).mbx.boxes = e.mbx.boxes from fun _ _ => rfl]
  rfl

/-- While the request is being relayed nothing happens but that the session has taken note of it. -/
theorem sessionReq_relaying (h : Retried e p x k)
    (hf : ∀ q j f, (tget e.mbx.boxes (reqOf p).box {}).last = some (q, j, f) → ¬ (q = (reqOf p).session ∧ j = k))
    (hrel : e.mbx.relays.any (fun y => y.session == (reqOf p).session && y.counter == k) = true) :
    e.sessionReq c (reqOf p) = e.noted p x := by
  obtain ⟨hx, -, -, hk, hc, hr⟩ := id h
  subst hc
  unfold State.sessionReq
  simp only [hx, if_neg h.bound_mac, hk, hr, lt_irrefl, decide_false, Bool.not_true, Bool.and_false, Bool.or_self,
    Bool.false_eq_true, if_false, beq_self_eq_true, Bool.and_self,
    show ∀ i f, (e.modSession i f).mbx.boxes = e.mbx.boxes from fun _ _ => rfl,
    show ∀ i f, (e.modSession i f).mbx.relays = e.mbx.relays from fun _ _ => rfl, hrel, if_true]
  cases hl : (tget e.mbx.boxes (reqOf p).box {}).last with
  | none => rfl
  | some y =>
    obtain ⟨q, j, f⟩ := y
    exact if_neg (hf q j f hl)

end

/-- A response of this module's own leaves for the requester while the Curator runs (R68, R95). -/
theorem reply_emits {s : State} {r : Req} (hc : s.mbx.restarting = none) (ht : r.target ≠ 1) (f : List Byte) :
    s.reply r f = s.emit (.mailbox r.via 47210 r.addr r.port.toNat f) := by
  unfold State.reply
  rw [hc, if_neg ht]
  rfl

/-! ## Refusals before the command is judged -/

section
variable {c : Cmd} {u : State} {r : Req} {lvl : Nat} {unset : Bool} (key : Option (List Byte)) (sid : U32)

/-- Step 2 of R77: the mailbox waits for another request. -/
theorem serveReq_occupied (h : u.occupied r.box = true) :
    u.serveReq c r key sid lvl unset = u.respond r key sid .busy noPos [] := by
  unfold State.serveReq
  rw [h]
  rfl

/-- Step 3 of R77: a code that no row of R84 has. -/
theorem serveReq_unknown (h : u.occupied r.box = false) (hr : cmdRow r.code = none) :
    u.serveReq c r key sid lvl unset = (u.latch r).respond r key sid .badCommand noPos [] := by
  unfold State.serveReq
  rw [h, hr]
  rfl

/-- Step 3 of R77: another CommandVersion. -/
theorem serveReq_otherVersion (h : u.occupied r.box = false) (hv : r.ver ≠ 1) :
    u.serveReq c r key sid lvl unset = (u.latch r).respond r key sid .badCommand noPos [] := by
  unfold State.serveReq
  rw [h]
  cases cmdRow r.code with
  | none => rfl
  | some row => exact if_pos hv

/-- Step 4 of R77: the level of the session, MB15 on the plant network (R68), the limits of a session opened with the all-zero key
(R73), or a transport that the command bars. -/
theorem serveReq_denied {row : CmdRow} (h : u.occupied r.box = false) (hr : cmdRow r.code = some row) (hv : r.ver = 1)
    (hd : (∃ l, row.level = some l ∧ lvl < l) ∨ (r.via == .plant && r.box == 15) = true ∨
      (unset && !([0x0002, 0x0013, 0x0012, 0x0011].contains r.code)) = true ∨ c.barred r (u.latch r) = true) :
    u.serveReq c r key sid lvl unset = (u.latch r).respond r key sid .accessDenied noPos [] := by
  have hany : ((match row.level with | some l => decide (lvl < l) | none => false) || (r.via == .plant && r.box == 15) ||
      (unset && !([0x0002, 0x0013, 0x0012, 0x0011].contains r.code)) || c.barred r (u.latch r)) = true := by
    rcases hd with ⟨l, hl, hlt⟩ | hd | hd | hd
    · rw [hl]
      simp only [hlt, decide_true, Bool.true_or]
    · rw [hd, Bool.or_true, Bool.true_or, Bool.true_or]
    · rw [hd, Bool.or_true, Bool.true_or]
    · rw [hd, Bool.or_true]
  unfold State.serveReq
  simp only [h, hr, hv, Bool.false_eq_true, ne_eq, not_true_eq_false, if_false]
  exact if_pos hany

end

/-- A response is all that a refusal leaves (R79), where before it only the mailboxes and the sessions' notes have changed. -/
theorem refused_of_respond {e u : State} {p : Packet} {x : Session} {l : List Session} {b : Tab Box} (h : InSession e p x)
    (he : e.out = []) (hu : u = { e with mbx := { e.mbx with sessions := l, boxes := b } })
    (hl : ∀ k, u.session k = none ↔ e.session k = none) (st : Status) (k : Nat) :
    Refused e (u.respond (reqOf p) (some x.key) x.id st k []) p (some x.key) x.id st k := by
  have hrun : u.mbx.restarting = none := by
    rw [hu]
    exact (heard_runs h.toHeard : e.mbx.restarting = none)
  rw [respond_eq _ h.here hrun]
  subst hu
  exact {
    answer := congrArg (· ++ [response (reqOf p) (some x.key) x.id st k e.mode e.role []]) he
    counted := rfl
    named := rfl
    counters := ⟨rfl, rfl, rfl, rfl, rfl⟩
    still := ⟨same_of_service rfl rfl ⟨rfl, rfl⟩ ⟨rfl, rfl⟩, rfl, rfl, rfl, rfl, rfl, rfl, rfl⟩
    sessions := hl }

section
variable {e : State} {p : Packet} {x : Session}

theorem noted_none_iff (e : State) (p : Packet) (x : Session) (k : U32) :
    (e.noted p x).session k = none ↔ e.session k = none :=
  modSession_none_iff e x.id k (f := fun y => { y with counter := some (reqOf p).counter, lastTick := e.tick }) (fun _ => rfl)

/-- A refusal before the mailbox has taken the request in. -/
theorem refused_noted (h : InSession e p x) (he : e.out = []) (st : Status) (k : Nat) :
    Refused e ((e.noted p x).respond (reqOf p) (some x.key) x.id st k []) p (some x.key) x.id st k :=
  refused_of_respond h he (l := (e.noted p x).mbx.sessions) (b := e.mbx.boxes) rfl (noted_none_iff e p x) st k

/-- A refusal once the mailbox has taken the request in. -/
theorem refused_runsIn (h : InSession e p x) (he : e.out = []) (st : Status) (k : Nat) :
    Refused e ((runsIn e p x).respond (reqOf p) (some x.key) x.id st k []) p (some x.key) x.id st k :=
  refused_of_respond h he (l := (runsIn e p x).mbx.sessions) (b := (runsIn e p x).mbx.boxes) rfl (noted_none_iff e p x) st k

theorem noted_free (h : e.boxFree (reqOf p).box = true) : (e.noted p x).occupied (reqOf p).box = false :=
  (Bool.not_eq_true' _).mp h

/-- A request that may go no further than the level of its session, its place or the limits of R73 allow is refused (R77). -/
theorem refused_denied {row : CmdRow} (c : Cmd) (h : InSession e p x) (he : e.out = []) (hb : e.boxFree (reqOf p).box = true)
    (hr : cmdRow (reqOf p).code = some row) (hv : (reqOf p).ver = 1)
    (hd : (∃ l, row.level = some l ∧ x.level < l) ∨ (p.via = .plant ∧ (reqOf p).box = 15) ∨
      (x.unsetKey = true ∧ (reqOf p).code ∉ [0x0002, 0x0013, 0x0012, 0x0011])) :
    Refused e ((e.noted p x).serveReq c (reqOf p) (some x.key) x.id x.level x.unsetKey) p (some x.key) x.id .accessDenied
      noPos := by
  rw [serveReq_denied _ _ (noted_free hb) hr hv]
  · exact refused_runsIn h he _ _
  · rcases hd with hl | ⟨hvia, hbox⟩ | ⟨hu, hc⟩
    · exact .inl hl
    · have hplant : (reqOf p).via = .plant := hvia
      exact .inr (.inl (by rw [hplant, hbox]; rfl))
    · refine .inr (.inr (.inl ?_))
      rw [hu, Bool.true_and, Bool.not_eq_true', List.contains_eq_mem]
      exact decide_eq_false hc

/-- Steps 2 to 4 of R77 let a request of a session pass where its mailbox is free, its level is enough and nothing bars it. -/
theorem reaches_of {c : Cmd} {row : CmdRow} (hb : e.boxFree (reqOf p).box = true) (hr : cmdRow (reqOf p).code = some row)
    (hl : ∀ l, row.level = some l → l ≤ x.level) (hv : (reqOf p).ver = 1) (hp : p.via = .plant → (reqOf p).box ≠ 15)
    (hk : x.unsetKey = false) (hbar : c.barred (reqOf p) (runsIn e p x) = false)
    (ha : c.isPair (reqOf p) (runsIn e p x) = false) : Reaches c row (reqOf p) (e.noted p x) x.level x.unsetKey where
  free := noted_free hb
  found := hr
  level := hl
  version := hv
  place := by
    have hvia : (reqOf p).via = p.via := rfl
    rw [hvia]
    cases hv : p.via with
    | plant => exact Bool.and_eq_false_iff.mpr (.inr (beq_false_of_ne (hp hv)))
    | service => rfl
  keyed := by
    rw [hk]
    exact nofun
  unbarred := hbar
  alone := ha

end

/-- ROLE_SWAP is a command of M4 and M5 alone (R84, R280). -/
theorem roleSwap_check_elsewhere {r : Req} {u : State} {lvl : Nat} (hb : r.body = []) (h4 : u.mode ≠ .m4) (h5 : u.mode ≠ .m5) :
    roleSwapCmd.check r u lvl 0x030 = some (.stateRefused, noPos) := by
  have hmal : roleSwapCmd.malformed r u = none := by
    simp only [roleSwapCmd, noBody, hb, List.isEmpty_nil, if_true]
  have hbit : bit 0x030 u.mode.num = false := by
    cases hm : u.mode with
    | m4 => exact absurd hm h4
    | m5 => exact absurd hm h5
    | _ => rfl
  unfold Cmd.check
  rw [hmal]
  exact if_pos (by rw [hbit]; rfl)

end Sys2Proof.Machine

open Sys2Proof Sys2Proof.Machine

/-- Settles O50: `sessionReq_resends` where the stored response is the request's, `sessionReq_relaying` while it is relayed. -/
theorem retransmissionRepeatsTheResponse : Obligations.RetransmissionRepeatsTheResponse := by
  rintro i dt k p x s _ t hi rfl hp h1 h2 hx hvia haddr hmac hk hc hr h
  obtain ⟨c, rfl⟩ := exec_receives hi hp.whole h
  have hagain : Retried (s.elapse dt) p x k := ⟨hx, ⟨hvia, haddr⟩, hmac, hk, hc, hr⟩
  rw [receive_heard hp, serveFrame_sessionReq _ _ h1 h2]
  refine ⟨fun f hf => ?_, fun hf hrel => sessionReq_relaying c hagain hf hrel⟩
  have hrun : ((s.elapse dt).noted p x).mbx.restarting = none :=
    (heard_runs hp : (s.elapse dt).mbx.restarting = none)
  rw [sessionReq_resends c hagain hf, reply_emits hrun hp.here]
  rfl

/-- Settles O51: `serveReq_occupied`, `serveReq_unknown`, `serveReq_otherVersion` and `refused_denied`, each with the response of a
refusal; ROLE_SWAP fails step 7. -/
theorem refusedRequestsChangeNothing : Obligations.RefusedRequestsChangeNothing := by
  refine ⟨?_, ?_⟩
  · rintro i dt p x s _ t hi rfl hp h
    obtain ⟨c, rfl⟩ := exec_serves hi hp h
    refine ⟨fun hb => ?_, fun hb hc => ?_, fun hb hv => ?_, fun r l hb hv hr hl hlt => ?_⟩
    · rw [serveReq_occupied (u := (s.elapse dt).noted p x) _ _ ((Bool.not_eq_false' _).mp hb)]
      exact refused_noted hp rfl _ _
    · rw [serveReq_unknown _ _ (noted_free hb) hc]
      exact refused_runsIn hp rfl _ _
    · rw [serveReq_otherVersion _ _ (noted_free hb) hv]
      exact refused_runsIn hp rfl _ _
    · exact refused_denied c hp rfl hb hr hv (.inl ⟨l, hl, hlt⟩)
  · rintro dt p x s _ rfl hp hb hc hv hplace hl hk hbody h4 h5
    have hrow : cmdRow (reqOf p).code = some ⟨0x0032, some 2, 0x030⟩ := by rw [hc]; decide
    have hreach : Reaches roleSwapCmd _ (reqOf p) ((s.elapse dt).noted p x) x.level x.unsetKey :=
      reaches_of hb hrow (by rintro l ⟨⟩; exact hl) hv hplace hk rfl (Bool.and_false _)
    exact ⟨_, execMail_heard hp.toHeard (codeIs_of hc),
      refused_of_check hp hreach (roleSwap_check_elsewhere hbody h4 h5) rfl⟩

/-- Settles O49: MB15 on the plant network fails step 4, and a port that is not enabled hears nothing. -/
theorem mailboxAddressing : Obligations.MailboxAddressing := by
  refine ⟨?_, ?_⟩
  · rintro i dt p x s _ t hi rfl hp hvia hbox hb hc hv h
    obtain ⟨c, rfl⟩ := exec_serves hi hp h
    obtain ⟨row, hr⟩ := Option.isSome_iff_exists.mp hc
    exact refused_denied c hp rfl (by rw [hbox]; exact hb) hr hv (.inr (.inl ⟨hvia, hbox⟩))
  · rintro i dt p s _ t hi rfl hw ha hvia hs he h
    obtain ⟨c, rfl⟩ := exec_receives hi hw h
    exact receive_disabled ha (slotted_of (fun _ => hs)) hvia he
end

section
/-!
PROOFS. Requests with Target 1 (R69).
-/
namespace Sys2Proof.Machine

section
variable {e : State} {q : Req} (d : List Byte)

/-- A mailbox is free where it waits neither for the partner's answer nor for the PRIMARY's (R66, R69, R83). -/
theorem boxFree_iff {n : Nat} : e.boxFree n = true ↔
    (tget e.mbx.boxes n {}).fwd = none ∧ e.mbx.relays.any (fun x => beAt x.header 1 1 % 16 == n) = false := by
  unfold State.boxFree State.occupied
  rw [Bool.not_eq_true', Bool.or_eq_false_iff, Option.isSome_eq_false_iff, Option.isNone_iff_eq_none]

/-- The mailbox of a forwarded request holds it and waits for its answer, and PartnerForwardCount counts it. -/
def State.forwarding (e : State) (q : Req) : State :=
  { e with mbx := { e.mbx with
      forwards := e.mbx.forwards + 1
      boxes := tset e.mbx.boxes q.box {} { tget e.mbx.boxes q.box {} with
        header := q.head ++ q.mac
        request := q.body
        fwd := some ⟨q.via, q.addr, q.port, q.session, q.counter, q.head, e.tick⟩ } } }

/-- Over a lane the request goes out unchanged. -/
theorem forward_sends (hb : e.boxFree q.box = true) (hl : e.laneUp = true) :
    e.forward q d = (e.forwarding q).lane 0x0B [q.box, 0] d := by
  obtain ⟨hf, hr⟩ := boxFree_iff.mp hb
  unfold State.forward
  simp only [hf, hr, hl, Bool.false_eq_true, if_false, Bool.not_true]
  rfl

/-- Without a lane it is answered NOT_READY, unchecked. -/
theorem forward_unreachable (hb : e.boxFree q.box = true) (hl : e.laneUp = false) :
    e.forward q d = e.respond { q with target := 0 } none 0 .notReady noPos [] := by
  obtain ⟨hf, hr⟩ := boxFree_iff.mp hb
  unfold State.forward
  simp only [hf, hr, hl, Bool.false_eq_true, if_false, Bool.not_false, if_true]

end

/-- A module that knows its slot sends a lane frame (R28, R29, R259). -/
theorem lane_sends {s : State} (h : s.mu.slot ≠ 0xFF) (k : Nat) (l : List Nat) (b : List Byte) :
    s.lane k l b = ({ s with pair := { s.pair with seqOut := s.pair.seqOut + 1 } }).emit (.lane (s.frameOf k l b)) :=
  if_neg h

/-- The service is awake only while the Curator runs (R95). -/
theorem runs_of_awake {e : State} (h : e.mailboxSilent = false) : e.mbx.restarting = none := by
  unfold State.mailboxSilent at h
  simp only [Bool.or_eq_false_iff, Option.isSome_eq_false_iff, Option.isNone_iff_eq_none] at h
  exact h.1.2

theorem respond_forwards (s : State) {r : Req} (h : r.target ≠ 1) (hc : s.mbx.restarting = none) (k : Option (List Byte))
    (sid : U32) (st : Status) (a : Nat) (b : List Byte) : (s.respond r k sid st a b).mbx.forwards = s.mbx.forwards := by
  rw [respond_eq s h hc]

theorem lane_mbx (s : State) (k : Nat) (l : List Nat) (b : List Byte) : (s.lane k l b).mbx = s.mbx := by
  unfold State.lane
  split <;> rfl

theorem reply_mbx (s : State) (r : Req) (f : List Byte) : (s.reply r f).mbx = s.mbx := by
  unfold State.reply
  split
  · rfl
  · split
    · exact lane_mbx _ _ _ _
    · rfl

/-- A response is kept with its mailbox (R94). -/
theorem respond_boxes (s : State) (r : Req) (k : Option (List Byte)) (sid : U32) (st : Status) (a : Nat) (b : List Byte) :
    ∃ f, (s.respond r k sid st a b).mbx.boxes =
      tmod s.mbx.boxes r.box {} (fun x => { x with last := some (r.session, r.counter, f) }) := by
  unfold State.respond
  extract_lets f s1 src s2 src2 s3
  have h2 : s2.mbx.boxes = s.mbx.boxes := by
    simp only [s2]
    split <;> rfl
  refine ⟨f, (congrArg Mbx.boxes (reply_mbx _ _ _)).trans ?_⟩
  rw [← h2]

theorem respond_fwd (s : State) (r : Req) (k : Option (List Byte)) (sid : U32) (st : Status) (a : Nat) (b : List Byte) (n : Nat) :
    (tget (s.respond r k sid st a b).mbx.boxes n {}).fwd = (tget s.mbx.boxes n {}).fwd := by
  obtain ⟨f, hf⟩ := respond_boxes s r k sid st a b
  rw [hf, tget_tmod]
  split
  · rename_i hn
    rw [hn]
  · rfl

end Sys2Proof.Machine

open Sys2Proof Sys2Proof.Machine

/-- Settles O52: `forward_sends` over a lane, `forward_unreachable` without one. -/
theorem forwardedRequests : Obligations.ForwardedRequests := by
  rintro i dt p s _ t hi rfl hw ha he hs hlock hgood htarget hb h
  obtain ⟨c, rfl⟩ := exec_receives hi hw h
  rw [receive_forwards ha (slotted_of hs) (enabled_of he) hlock hgood htarget]
  have hsame : ∀ q, Part.same (s.elapse dt) ((s.elapse dt).forward (reqOf p) p.data) q := fun q =>
    kept (m := 0) (fun _ _ => forward_view _ _ _) q (Nat.zero_testBit _)
  refine ⟨fun hl hslot => ?_, fun hl => ?_⟩
  · have hsend := forward_sends p.data hb hl
    rw [lane_sends (s := (s.elapse dt).forwarding (reqOf p)) hslot] at hsend
    refine ⟨?_, ?_, ?_, ?_, ?_, hsame⟩
    all_goals rw [hsend]
    · rfl
    · exact congrArg Box.fwd (tget_tset_self _ _ _ _)
    · exact congrArg Box.header (tget_tset_self _ _ _ _)
    · exact congrArg Box.request (tget_tset_self _ _ _ _)
    · rfl
  · have hrun := runs_of_awake ha
    have hmine : ({ reqOf p with target := 0 } : Req).target ≠ 1 := Nat.zero_ne_one
    refine ⟨?_, ?_, ?_, hsame⟩
    all_goals rw [forward_unreachable p.data hb hl]
    · rw [respond_out _ hmine hrun]
      rfl
    · exact respond_forwards _ hmine hrun _ _ _ _ _
    · rw [respond_fwd]
      exact (boxFree_iff.mp hb).1
end

section
/-!
PROOFS. What runs out with time in the mailbox service (R67, R69, R75, R76, R114).
-/
namespace Sys2Proof.Machine

/-! ## The 10 ms of a forwarded request (R69) -/

/-- The request that a forwarded frame holds, as its answer names it. -/
def Forward.req (f : Forward) : Req := { parseReq f.via f.addr f.port f.header with session := f.session, target := 0 }

/-- A mailbox no longer waits for the partner. -/
def State.forwardOver (e : State) (box : Nat) : State :=
  { e with mbx := { e.mbx with boxes := tmod e.mbx.boxes box {} (fun b => { b with fwd := none }) } }

theorem exec_forwardTimeout {dt box : Nat} {f : Forward} {s : State} (hb : box < 16)
    (hf : (tget s.mbx.boxes box {}).fwd = some f) (hs : (s.elapse dt).since f.since (10 * Config.ticksPerMs) = true) :
    exec (.forwardTimeout dt box) s =
      .next (((s.elapse dt).forwardOver box).respond f.req none 0 .notReady noPos []) := by
  show execForwardTimeout dt box s = _
  simp only [execForwardTimeout, if_neg (Nat.not_le.mpr hb), elapse_mbx, hf, hs, Bool.not_true, Bool.false_eq_true, if_false]
  rfl

/-! ## The end of a session (R75) -/

theorem endSession_none_iff (s : State) (i k : U32) : (s.endSession i).session k = none ↔ k = i ∨ s.session k = none := by
  simp only [session_none, endSession_opened, List.mem_filter, bne_iff_ne, and_imp]
  constructor
  · intro h
    by_cases hk : k = i
    · exact .inl hk
    · exact .inr (fun y hy hyk => h y hy (hyk ▸ hk) hyk)
  · rintro (rfl | h) y hy hne
    · exact hne
    · exact h y hy

theorem exec_sessionIdleExpiry {dt : Nat} {id : U32} {x : Session} {s : State} (hx : (s.elapse dt).session id = some x)
    (hs : (s.elapse dt).since x.lastTick (s.eff 0x0144 * Config.ticksPerSecond) = true) :
    exec (.sessionIdleExpiry dt id) s = .next ((s.elapse dt).endSession id) := by
  show execSessionIdleExpiry dt id s = _
  simp only [execSessionIdleExpiry, hx, elapse_eff, hs, if_true]

/-! ## The 10 ms of a hold (R114) -/

/-- The notification hold of a session and an event is over. -/
def State.holdOver (e : State) (id : U32) (k : Nat) : State :=
  { e with ev := { e.ev with holds := e.ev.holds.filter (fun h => !(h.session == id && h.ev == k)) } }

/-- A hold in which the event has not occurred again ends; one in which it has begins anew with a notification. -/
theorem exec_notifyHoldEnd {dt k : Nat} {id : U32} {h : Hold} {s : State}
    (hh : s.ev.holds.find? (fun h => h.session == id && h.ev == k) = some h) (he : h.ends ≤ (s.elapse dt).tick) :
    exec (.notifyHoldEnd dt id k) s = .next
      (if h.again && (match ((s.elapse dt).session id).bind (·.route) with | some r => bit r.events k | none => false) then
        ((s.elapse dt).holdOver id k).eventToSession k id else (s.elapse dt).holdOver id k) := by
  show execNotifyHoldEnd dt id k s = _
  simp only [execNotifyHoldEnd, elapse_ev, hh, if_neg (Nat.not_lt.mpr he)]
  rfl

theorem holdOver_unheld (e : State) (id : U32) (k : Nat) :
    (e.holdOver id k).ev.holds.any (fun h => h.session == id && h.ev == k) = false := by
  simp only [State.holdOver, List.any_eq_false, List.mem_filter]
  rintro h ⟨-, hh⟩ held
  rw [held] at hh
  exact absurd hh Bool.false_ne_true

/-- A notification begins a hold of 10 ms. -/
theorem eventToSession_holds {s : State} {k : Nat} {id : U32}
    (h : s.ev.holds.any (fun h => h.session == id && h.ev == k) = false) :
    ⟨id, k, s.tick + 10 * Config.ticksPerMs, false⟩ ∈ (s.eventToSession k id).ev.holds := by
  unfold State.eventToSession
  rw [h]
  simp only [Bool.false_eq_true, if_false, notify_tick]
  exact List.mem_append_right _ (List.mem_singleton_self _)

end Sys2Proof.Machine

open Sys2Proof Sys2Proof.Machine

/-- Settles O44: each row meets its deadline in the equation of its own. -/
theorem mailboxTimerRowsComplete : Obligations.MailboxTimerRowsComplete := by
  refine ⟨?_, ?_, ?_, ?_, ?_⟩
  · rintro dt box f s _ rfl hb hf hs hrun
    refine ⟨_, exec_forwardTimeout hb hf hs, ?_⟩
    exact respond_out ((s.elapse dt).forwardOver box) (r := f.req) Nat.zero_ne_one hrun _ _ _ _ _
  · rintro dt s _ rfl
    refine ⟨_, rfl, fun a => ?_⟩
    rw [← Bool.not_eq_true']
    exact List.mem_filter
  · rintro dt id x s _ rfl hx hs
    refine ⟨_, exec_sessionIdleExpiry hx hs, (endSession_none_iff _ _ _).mpr (.inl rfl), fun k hk => ?_⟩
    rw [endSession_none_iff]
    exact or_iff_right hk
  · rintro dt via addr s _ rfl
    have hmem : ∀ v a k, (v, a, k) ∈ (s.elapse dt).mbx.locks.filter
        (fun y => !(y.1 == via && y.2.1 == addr && decide (y.2.2 ≤ (s.elapse dt).tick))) ↔
          (v, a, k) ∈ (s.elapse dt).mbx.locks ∧ (v = via → a = addr → (s.elapse dt).tick < k) := by
      intro v a k
      simp only [List.mem_filter, Bool.not_eq_true', Bool.and_eq_false_iff, beq_eq_false_iff_ne, decide_eq_false_iff_not, not_le]
      tauto
    refine ⟨_, rfl, fun k hk => ((hmem _ _ _).mp hk).2 rfl rfl, fun v a k hne => (hmem v a k).trans ?_⟩
    exact and_iff_left (fun hv ha => absurd ⟨hv, ha⟩ hne)
  · rintro dt k id h s _ rfl hh he
    refine ⟨fun ha => ?_, fun x r ha hx hr hb => ?_⟩
    · refine ⟨_, exec_notifyHoldEnd hh he, ?_⟩
      rw [ha]
      exact ⟨rfl, rfl⟩
    · refine ⟨_, exec_notifyHoldEnd hh he, ?_⟩
      rw [ha, hx]
      simp only [Option.bind_some, hr, hb, Bool.and_self, if_true]
      exact eventToSession_holds (holdOver_unheld _ _ _)
end

section
/-!
PROOFS. Sessions and keys: opening, closing, keys, subscriptions and stored completions (R72–R75, R85, R88, R91, R93, R95).
-/
namespace Sys2Proof.Machine

/-! ## Commands without a session -/

/-- A request outside a session that is heard and passes its checks is answered under the key given for it. -/
theorem execMail_answers {c : Cmd} {mine : List Byte → Bool} {dt : Nat} {p : Packet} {s : State} {rep : Rep}
    {key : Option (List Byte)} (hp : Heard (s.elapse dt) p) (hm : mine p.data = true)
    (hserve : (s.elapse dt).serveFrame c (reqOf p) = (s.elapse dt).serveReq c (reqOf p) key 0 0 false)
    (hpass : Passes c (reqOf p) (s.elapse dt) 0 false) (hr : c.run (reqOf p) ((s.elapse dt).latch (reqOf p)) = rep)
    (hs : rep.status = .ok) (hh : rep.hold = false) :
    execMail c mine dt p s = .next (answered (reqOf p) key 0 rep) := by
  subst hr
  rw [execMail_heard hp hm, hserve, serveReq_passes key 0 hpass (.inl hs) hh]

theorem serveFrame_identify {c : Cmd} {e : State} {r : Req} (h : r.code = 0x0001) :
    e.serveFrame c r = e.serveReq c r none 0 0 false := if_pos h

section
variable {c : Cmd} {e : State} {r : Req} (hc : r.code = 0x0010)
include hc

/-- A level without a key cannot be opened (R73). -/
theorem serveFrame_unopenable (hk : e.openKey (beAt r.body 0 1) r.via = none) : e.serveFrame c r = e.authFail r := by
  unfold State.serveFrame
  rw [if_neg (by rw [hc]; decide), if_pos hc, hk]

/-- An OPEN_SESSION under the key of its level is served (R74). -/
theorem serveFrame_opens {k : List Byte} (hk : e.openKey (beAt r.body 0 1) r.via = some k) (hs : r.session = 0)
    (hm : (hmac k (r.head ++ r.body)).take 16 = r.mac) : e.serveFrame c r = e.serveReq c r (some k) 0 0 false := by
  unfold State.serveFrame
  rw [if_neg (by rw [hc]; decide), if_pos hc, hk]
  exact if_neg (not_or.mpr ⟨not_not.mpr hs, not_not.mpr hm⟩)

end

/-- What an OK sends. -/
theorem answered_okRep_out {r : Req} {u : State} (ht : r.target ≠ 1) (hc : u.mbx.restarting = none) (ho : u.out = [])
    (key : Option (List Byte)) (sid : U32) (body : List Byte) :
    (answered r key sid (okRep u body)).out = [response r key sid .ok 0 u.mode u.role body] := by
  refine (respond_out u ht hc _ _ _ _ _).trans ?_
  rw [ho]
  rfl

/-! ## OPEN_SESSION -/

/-- The session that OPEN_SESSION opens (R73–R75). -/
def State.newSession (u : State) (r : Req) (sid : U32) (nonce key : List Byte) : Session :=
  { id := sid, level := beAt r.body 0 1, via := r.via, addr := r.addr
    key := sessionKey key (slice r.body 4 16) (padTo 16 nonce) sid
    unsetKey := (tlook u.mbx.keys (beAt r.body 0 1)).isNone, counter := none, lastTick := u.tick, route := none, seq := 0
    done := [], waiting := [] }

/-- One more session is open. -/
def State.addSession (u : State) (x : Session) : State := { u with mbx := { u.mbx with sessions := u.mbx.sessions ++ [x] } }

theorem freshId_self {u : State} {sid : U32} (h0 : sid ≠ 0) (hn : u.session sid = none) (n : Nat) : u.freshId sid n = sid := by
  cases n with
  | zero => rfl
  | succ n =>
    refine if_neg ?_
    rw [hn]
    exact not_or.mpr ⟨h0, Bool.false_ne_true⟩

theorem openSession_run {r : Req} {u : State} {sid : U32} {nonce key : List Byte}
    (hk : u.openKey (beAt r.body 0 1) r.via = some key) (h0 : sid ≠ 0) (hn : u.session sid = none) :
    (openSessionCmd sid nonce).run r u =
      { okRep (u.addSession (u.newSession r sid nonce key)) (padTo 16 nonce ++ beBytes 4 (u.eff 0x0144)) with
        session := some sid } := by
  simp only [openSessionCmd, Cmd.plain, hk, freshId_self h0 hn, Option.getD_some]
  rfl

theorem addSession_session {u : State} {x : Session} (h : u.session x.id = none) (k : U32) :
    (u.addSession x).session k = if k = x.id then some x else u.session k := by
  show (u.mbx.sessions ++ [x]).find? (·.id == k) = _
  rw [List.find?_append]
  split
  · rename_i hk
    subst hk
    rw [show u.mbx.sessions.find? (·.id == x.id) = none from h, List.find?_singleton, beq_self_eq_true]
    rfl
  · rename_i hk
    rw [List.find?_singleton, beq_false_of_ne (Ne.symm hk)]
    exact Option.or_none

/-- An OPEN_SESSION that passes its checks opens the session it asks for, no other session changes, and its answer is all that is
sent. -/
theorem openSession_opens {dt : Nat} {p : Packet} {sid : U32} {nonce key : List Byte} {s : State} (hp : Heard (s.elapse dt) p)
    (hc : (reqOf p).code = 0x0010) (hs : (reqOf p).session = 0) (hk : s.openKey (beAt (reqOf p).body 0 1) p.via = some key)
    (hm : (hmac key ((reqOf p).head ++ (reqOf p).body)).take 16 = (reqOf p).mac)
    (hpass : Passes (openSessionCmd sid nonce) (reqOf p) (s.elapse dt) 0 false) (h0 : sid ≠ 0) (hn : s.session sid = none) :
    ∃ t, exec (.openSession dt p sid nonce) s = .next t ∧
      t.session sid = some ((s.elapse dt).newSession (reqOf p) sid nonce key) ∧ (∀ k, k ≠ sid → t.session k = s.session k) ∧
      t.out = [response (reqOf p) (some key) sid .ok 0 s.mode s.role (padTo 16 nonce ++ beBytes 4 (s.eff 0x0144))] := by
  have hrun := openSession_run (r := reqOf p) (u := (s.elapse dt).latch (reqOf p)) (nonce := nonce) hk h0 hn
  have hadd := addSession_session (u := (s.elapse dt).latch (reqOf p))
    (x := ((s.elapse dt).latch (reqOf p)).newSession (reqOf p) sid nonce key) hn
  have hcur : (((s.elapse dt).latch (reqOf p)).addSession
      (((s.elapse dt).latch (reqOf p)).newSession (reqOf p) sid nonce key)).mbx.restarting = none :=
    (heard_runs hp : (s.elapse dt).mbx.restarting = none)
  refine ⟨_, execMail_answers hp (codeIs_of hc) (serveFrame_opens hc hk hs hm) hpass hrun rfl rfl, ?_, fun k hk => ?_, ?_⟩
  · exact (respond_session _ hp.here hcur _ _ _ _ _ _).trans ((hadd sid).trans (if_pos rfl))
  · exact (respond_session _ hp.here hcur _ _ _ _ _ _).trans ((hadd k).trans (if_neg hk))
  · exact respond_out _ hp.here hcur _ _ _ _ _

/-! ## SET_KEY -/

/-- Session `y` is what is left of session `z`: the same identifier and level, and closing where that was closing. -/
def Session.follows (y z : Session) : Prop := z.id = y.id ∧ z.level = y.level ∧ (z.closing = true → y.closing = true)

/-- A request of a session is executing (R95). -/
def State.executes (s : State) (i : U32) : Bool := s.mbx.relays.any (fun z => z.session == i)

theorem endOrClose_executes (s : State) (i k : U32) : (s.endOrClose i).executes k = s.executes k := by
  have h : Part.same s (s.endOrClose i) .agreed := kept (fun _ hm => endOrClose_view s i hm) .agreed (by decide)
  exact congrArg (fun l : List Relay => l.any (fun z => z.session == k)) h.2

theorem endOrClose_keys (s : State) (i : U32) : (s.endOrClose i).mbx.keys = s.mbx.keys :=
  kept (fun _ hm => endOrClose_view s i hm) .keys (by decide)

/-- A session whose level's key changes ends, or closes with the response of the request that it has executing (R95). -/
theorem endOrClose_opened {s : State} {i : U32} {y : Session} (hy : y ∈ (s.endOrClose i).opened) :
    (∃ z ∈ s.opened, y.follows z) ∧ (y.id = i → y.closing = true ∧ s.executes i = true) := by
  unfold State.endOrClose at hy
  split at hy
  · rename_i hx
    simp only [State.opened, State.modSession, List.map_map, List.mem_map, Function.comp] at hy
    obtain ⟨z, hz, rfl⟩ := hy
    refine ⟨⟨z.base, List.mem_map_of_mem hz, ?_⟩, fun hi => ⟨?_, hx⟩⟩
    · split
      · exact ⟨rfl, rfl, fun _ => rfl⟩
      · exact ⟨rfl, rfl, id⟩
    · split at hi
      · rename_i h
        rw [if_pos h]
        rfl
      · exact absurd hi ‹_›
  · rw [endSession_opened, List.mem_filter, bne_iff_ne] at hy
    exact ⟨⟨y, hy.1, rfl, rfl, id⟩, fun hi => absurd hi hy.2⟩

theorem endOrCloses_keys (l : List Session) (s : State) :
    (l.foldl (fun s x => s.endOrClose x.id) s).mbx.keys = s.mbx.keys := by
  induction l generalizing s with
  | nil => rfl
  | cons a l ih => exact (ih _).trans (endOrClose_keys s a.id)

/-- After a list of sessions has been ended or closed, one of the list that is still open closes with its executing request. -/
theorem endOrCloses_opened (l : List Session) {s : State} {y : Session}
    (hy : y ∈ (l.foldl (fun s x => s.endOrClose x.id) s).opened) :
    (∃ z ∈ s.opened, y.follows z) ∧ ((∃ a ∈ l, a.id = y.id) → y.closing = true ∧ s.executes y.id = true) := by
  induction l generalizing s with
  | nil => exact ⟨⟨y, hy, rfl, rfl, id⟩, nofun⟩
  | cons a l ih =>
    obtain ⟨⟨z, hz, hid, hlvl, hcl⟩, hclosed⟩ := ih hy
    obtain ⟨⟨w, hw, hid', hlvl', hcl'⟩, hfirst⟩ := endOrClose_opened hz
    rw [endOrClose_executes] at hclosed
    refine ⟨⟨w, hw, hid'.trans hid, hlvl'.trans hlvl, hcl ∘ hcl'⟩, ?_⟩
    rintro ⟨b, hb, hby⟩
    rcases List.mem_cons.mp hb with rfl | hb
    · obtain ⟨hc, hx⟩ := hfirst (hid.trans hby.symm)
      exact ⟨hcl hc, hby ▸ hx⟩
    · exact hclosed ⟨b, hb, hby⟩

/-- The other sessions of a level end, or close with their executing requests (R75, R95). -/
def State.rekeyed (s : State) (level : Nat) (mine : U32) : State :=
  (s.mbx.sessions.filter (fun x => x.level == level && x.id != mine)).foldl (fun s x => s.endOrClose x.id) s

theorem rekeyed_session {s : State} {level : Nat} {mine k : U32} {y : Session} (hy : (s.rekeyed level mine).session k = some y)
    (hl : y.level = level) : k = mine ∨ (y.closing = true ∧ s.executes k = true) := by
  have hk : y.id = k := by simpa using List.find?_some hy
  have hopen : y.base ∈ (s.rekeyed level mine).opened := List.mem_map_of_mem (List.mem_of_find?_eq_some hy)
  obtain ⟨⟨z, hz, hid, hlvl, -⟩, hclosed⟩ := endOrCloses_opened _ hopen
  obtain ⟨w, hw, rfl⟩ := List.mem_map.mp hz
  by_cases hm : k = mine
  · exact .inl hm
  · have hwid : w.id = k := hid.trans hk
    have hwlvl : w.level = level := hlvl.trans hl
    have hlisted : ∃ a ∈ s.mbx.sessions.filter (fun x => x.level == level && x.id != mine), a.id = y.base.id := by
      refine ⟨w, List.mem_filter.mpr ⟨hw, ?_⟩, hid⟩
      rw [hwlvl, hwid, beq_self_eq_true, Bool.true_and, bne_iff_ne]
      exact hm
    obtain ⟨hc, hx⟩ := hclosed hlisted
    exact .inr ⟨hc, hk ▸ hx⟩

/-- The key of a level is stored, and EV015 has occurred (R72, R97). -/
def State.keyed (u : State) (level : Nat) (key : List Byte) : State :=
  ({ u with mbx := { u.mbx with keys := tput u.mbx.keys level key } }).raise 15 [(1, level), (4, fingerprint key)]

theorem keyed_quiet (u : State) (level : Nat) (key : List Byte) :
    (u.keyed level key).mbx.quiet = ({ u.mbx with keys := tput u.mbx.keys level key } : Mbx).quiet := raise_quiet _ _ _

theorem setKey_run (r : Req) (u : State) : setKeyCmd.run r u =
    { okRep (u.keyed (beAt r.body 0 1) (slice r.body 4 32)) with after := fun s => s.rekeyed (beAt r.body 0 1) r.session } := rfl

/-- What of the mailbox service an answer leaves as it was, where a session's key or an executing request is looked up. -/
theorem answer_keeps (u : State) (r : Req) (key : Option (List Byte)) (sid : U32) (st : Status) (a : Nat) (b : List Byte) :
    ((u.respond r key sid st a b).journalled r st).mbx.keys = u.mbx.keys ∧
      ∀ k, ((u.respond r key sid st a b).journalled r st).executes k = u.executes k := by
  have hview : ∀ hid, ((u.respond r key sid st a b).journalled r st).view hid = u.view hid := fun hid =>
    (journalled_view _ _ _).trans (respond_view _ _ _ _ _ _ _)
  have hagreed : Part.same u _ .agreed := kept (m := 0) (fun hid _ => hview hid) .agreed (by decide)
  exact ⟨kept (m := 0) (fun hid _ => hview hid) .keys (by decide),
    fun k => congrArg (fun l : List Relay => l.any (fun z => z.session == k)) hagreed.2⟩

/-! ## Subscriptions -/

/-- The notification route that a SUBSCRIBE asks for (R91). -/
def Req.route (r : Req) : Route :=
  ⟨if beAt r.body 0 2 = 0 then 47211 else beAt r.body 0 2, beAt r.body 2 1 == 1, leNat (slice r.body 4 32)⟩

/-- A session has its route, and no hold of it goes on (R91, R114). -/
def State.subscribed (u : State) (r : Req) : State :=
  { u.modSession r.session (fun x => { x with route := some r.route }) with
    ev := { u.ev with holds := u.ev.holds.filter (·.session != r.session) } }

theorem subscribe_run (r : Req) (u : State) : subscribeCmd.run r u = okRep (u.subscribed r) := rfl

theorem subscribed_session {u : State} {r : Req} {x : Session} (hx : u.session r.session = some x) :
    (u.subscribed r).session r.session = some { x with route := some r.route } :=
  modSession_self hx _ (fun _ => rfl)

/-! ## Stored completions -/

theorem foldl_max_le {n : Nat} {l : List AsyncOp} (h : ∀ o ∈ l, o.id + 1 ≤ n) {a : Nat} (ha : a ≤ n) :
    l.foldl (fun a o => max a (o.id + 1)) a ≤ n := by
  induction l generalizing a with
  | nil => exact ha
  | cons o l ih =>
    exact ih (fun y hy => h y (List.mem_cons_of_mem _ hy)) (max_le ha (h o List.mem_cons_self))

/-- The latest completion under a Tag is answered where no later operation under it runs (R93). -/
theorem completionRead_run {r : Req} {u : State} {x : Session} {id : Nat} {b : List Byte} (hx : u.session r.session = some x)
    (hd : x.lastDone (beAt r.body 0 2) = some (id, b))
    (hle : ∀ o ∈ u.mbx.async, o.session = r.session → o.tag = beAt r.body 0 2 → o.id ≤ id) :
    completionReadCmd.run r u = okRep u b := by
  have hrun : (u.mbx.async.filter (fun o => o.session == r.session && o.tag == beAt r.body 0 2)).foldl
      (fun a o => max a (o.id + 1)) 0 ≤ id + 1 := by
    refine foldl_max_le (fun o ho => Nat.succ_le_succ ?_) (Nat.zero_le _)
    obtain ⟨hmem, hof⟩ := List.mem_filter.mp ho
    simp only [Bool.and_eq_true, beq_iff_eq] at hof
    exact hle o hmem hof.1 hof.2
  simp only [completionReadCmd, Cmd.plain, hx, Option.bind_some, hd, if_neg (Nat.not_lt.mpr hrun)]

end Sys2Proof.Machine

open Sys2Proof Sys2Proof.Machine

/-- Settles O48: without a key `openKey` finds none but for the SERVICE exception, and `refused_denied` keeps the limits of R73. -/
theorem keysOpenSessions : Obligations.KeysOpenSessions := by
  refine ⟨rfl, ?_, ?_, ?_⟩
  · rintro dt p sid nonce s _ t rfl hp hc hk hne h k
    obtain ⟨c, rfl⟩ := exec_receives rfl hp.whole h
    have hnone : (s.elapse dt).openKey (beAt (reqOf p).body 0 1) (reqOf p).via = none := by
      unfold State.openKey
      rw [hk]
      exact if_neg (not_and_or.mpr hne)
    rw [receive_heard hp, serveFrame_unopenable hc hnone]
    obtain ⟨-, -, -, -, -, hopened⟩ := authFail_keeps (s.elapse dt) (reqOf p)
    rw [session_none, session_none, hopened]
  · rintro dt p sid nonce s _ rfl hp hc hs hk hl hvia hm hpass h0 hn
    have hopen : s.openKey (beAt (reqOf p).body 0 1) p.via = some (List.replicate 32 0#8) := by
      unfold State.openKey
      rw [hl, show tlook s.mbx.keys 3 = none from hk]
      exact if_pos ⟨rfl, hvia⟩
    obtain ⟨t, ht, hx, -⟩ := openSession_opens hp hc hs hopen hm hpass h0 hn
    refine ⟨t, _, ht, hx, hl, ?_⟩
    show (tlook s.mbx.keys (beAt (reqOf p).body 0 1)).isNone = true
    rw [hl, show tlook s.mbx.keys 3 = none from hk]
    rfl
  · rintro i dt p x s _ t hi rfl hp hu hb hr hv hc h
    obtain ⟨c, rfl⟩ := exec_serves hi hp h
    obtain ⟨row, hrow⟩ := Option.isSome_iff_exists.mp hr
    refine refused_denied c hp rfl hb hrow hv (.inr (.inr ⟨hu, fun hin => hc ?_⟩))
    exact List.mem_cons_of_mem _ hin

/-- Settles O10: each row answers by the run of its command, and what follows its answer is in `endSession_none_iff` and
`rekeyed_session`. -/
theorem sessionRowsComplete : Obligations.SessionRowsComplete := by
  refine ⟨fun dt p s hp hc hpass => ?_, fun dt p x s h => ?_, fun dt p sid nonce key s hp hc hs hk hm hpass h0 hn => ?_,
    fun dt p x s h => ?_, fun dt p x s h => ?_, fun dt p x s h => ?_, fun dt p x s h => ?_, fun dt p x id b s h hd hle => ?_⟩
  · refine ⟨_, execMail_answers hp (codeIs_of hc) (serveFrame_identify hc) hpass rfl rfl rfl, ?_⟩
    exact answered_okRep_out (u := (s.elapse dt).latch (reqOf p)) hp.here (heard_runs hp : (s.elapse dt).mbx.restarting = none) rfl _ _ _
  · exact mail_reads h (codeIs_of h.code) rfl
  · obtain ⟨t, ht, hx, hother, hout⟩ := openSession_opens hp hc hs hk hm hpass h0 hn
    exact ⟨t, _, ht, hx, rfl, rfl, rfl, rfl, rfl, rfl, rfl, rfl, hother, hout⟩
  · refine ⟨_, mail_ok h (codeIs_of h.code) rfl (.inl rfl) rfl, ?_⟩
    exact (endSession_none_iff _ _ _).mpr (.inl (inSession_id h.toInSession).symm)
  · have hrun := setKey_run (reqOf p) (runsIn (s.elapse dt) p x)
    have hq := keyed_quiet (runsIn (s.elapse dt) p x) (beAt (reqOf p).body 0 1) (slice (reqOf p).body 4 32)
    refine ⟨_, mail_ok h (codeIs_of h.code) hrun (.inl rfl) rfl, ?_, fun k y hy hl => ?_⟩
    · obtain ⟨hkeys, -⟩ := answer_keeps _ (reqOf p) (some x.key) x.id .ok 0 []
      exact (endOrCloses_keys _ _).trans (hkeys.trans (congrArg Mbx.keys hq :))
    · obtain ⟨-, hexec⟩ := answer_keeps _ (reqOf p) (some x.key) x.id .ok 0 []
      refine (rekeyed_session hy hl).imp (fun hk => hk.trans (inSession_id h.toInSession)) (And.imp_right fun hx => ?_)
      exact (congrArg (fun m : Mbx => m.relays.any (fun z => z.session == k)) hq).symm.trans ((hexec k).symm.trans hx)
  · exact mail_reads h (codeIs_of h.code) rfl
  · have hsid := inSession_id h.toInSession
    have hcur : ((runsIn (s.elapse dt) p x).subscribed (reqOf p)).mbx.restarting = none :=
      (heard_runs h.toHeard : (s.elapse dt).mbx.restarting = none)
    have hx := subscribed_session (u := runsIn (s.elapse dt) p x) (hsid.symm ▸ noted_session h.toInSession)
    rw [hsid] at hx
    exact ⟨_, _, mail_ok h (codeIs_of h.code) (subscribe_run _ _) (.inl rfl) rfl,
      (respond_session _ h.here hcur _ _ _ _ _ _).trans hx, rfl, answered_okRep_out h.here hcur rfl _ _ _⟩
  · have hsid := inSession_id h.toInSession
    have hx := noted_session h.toInSession
    rw [← hsid] at hx hle
    exact mail_reads h (codeIs_of h.code) (completionRead_run (u := runsIn (s.elapse dt) p x) hx hd hle)
end

section
/-!
PROOFS. A PANEL_UPDATE with Op 2 is the row PANEL_REFRESH: to the row PANEL_UPDATE it is another row's datagram (log 29), so that this
row does not complete on it in whatever role the module is.
-/
namespace Sys2Proof.Machine

/-- A session of level SERVICE over SV, with no request yet. -/
def refreshSession : Session :=
  { id := 7, level := 3, via := .service, addr := 9, key := [0x5A#8], unsetKey := false, counter := none, lastTick := 0,
    route := none, seq := 0, done := [], waiting := [] }

/-- An ISOLATED_STANDBY in M5 with that session open. -/
def isolatedModule : State :=
  { State.reset with
    mu := { State.reset.mu with mode := .m5, role := .isolated, slot := 0 }
    mbx := { State.reset.mbx with sessions := [refreshSession] } }

/-- The frame of a PANEL_UPDATE of region 0 with Op 2, refresh (R482). -/
def refreshFrame : List Byte :=
  sealFrame (some [0x5A#8]) (frameHead 0 3 0 0x0078 1 0 0 0 0 4 7 0 1) [1#8, 2#8, 0#8, 0#8]

/-- That frame, whole in one packet. -/
def refreshPacket : Packet := ⟨.service, 9, 50000, 0, 0, refreshFrame.length, refreshFrame⟩

theorem refreshPacket_inSession : InSession (isolatedModule.elapse 0) refreshPacket refreshSession where
  whole := ⟨rfl, rfl⟩
  awake := by decide +kernel
  slotted := by decide +kernel
  enabled := by decide +kernel
  unlocked := by decide +kernel
  good := by decide +kernel
  here := by decide +kernel
  coded := by decide +kernel
  open_ := by decide +kernel
  bound := by decide +kernel
  mac := by decide +kernel
  fresh := by
    show (reqOf refreshPacket).counter = 1
    decide +kernel

/-- The row PANEL_UPDATE faults on the datagram. -/
theorem panelUpdate_refresh_faults : exec (.panelUpdate 0 refreshPacket) isolatedModule = .fault .otherCommand := by
  have hother : ((codeIs 0x0078 refreshFrame && beAt refreshFrame 49 1 != 2) || (cmdRow (beAt refreshFrame 4 2)).isNone) = false := by
    decide +kernel
  show execPanelUpdate 0 refreshPacket isolatedModule = _
  rw [execPanelUpdate, execMail, assemble_whole _ ⟨rfl, rfl⟩]
  exact if_neg (by rw [show refreshPacket.data = refreshFrame from rfl, hother]; exact Bool.false_ne_true)

end Sys2Proof.Machine

open Sys2Proof Sys2Proof.Machine

/-- Refutes O53: a PANEL_UPDATE with Op 2 on an ISOLATED_STANDBY meets every hypothesis, and the row PANEL_UPDATE does not answer
it STATE_REFUSED but faults, since the datagram is PANEL_REFRESH's. -/
theorem not_pairEffectiveCommandsAreScheduled : ¬ Obligations.PairEffectiveCommandsAreScheduled := by
  intro h
  obtain ⟨-, -, -, hisolated⟩ := h 0 _ refreshPacket refreshSession ⟨0x0078, some 1, 0x1F8⟩ (.panelUpdate 0 refreshPacket)
    panelUpdateCmd isolatedModule _ _ (by simp only [List.mem_cons, true_or, or_true]) rfl refreshPacket_inSession (by decide +kernel)
    (by decide +kernel) (by decide +kernel) nofun rfl (by decide) (by decide) (.inr rfl) (by decide) rfl rfl
  obtain ⟨t, ht, -⟩ := hisolated rfl (by decide +kernel) (by decide +kernel) rfl
  rw [panelUpdate_refresh_faults] at ht
  cases ht
end

section
/-!
PROOFS. What PARAM_READ and TABLE_READ return does not depend on the mailbox that holds the request (R66, R89, R90).
-/
namespace Sys2Proof.Machine

/-- The state with other mailboxes. -/
def State.withBoxes (s : State) (b : Tab Box) : State := { s with mbx := { s.mbx with boxes := b } }

section
variable (s : State) (b : Tab Box)

theorem withBoxes_ro01 (k : Nat) : (s.withBoxes b).ro01 k = s.ro01 k := by
  unfold State.ro01
  rfl

theorem withBoxes_ro08 (k : Nat) : (s.withBoxes b).ro08 k = s.ro08 k := by
  unfold State.ro08
  rfl

theorem withBoxes_ro09 (k : Nat) : (s.withBoxes b).ro09 k = s.ro09 k := by
  unfold State.ro09
  split
  · rfl
  · split
    · split <;> rfl
    · rfl

/-- A read-only register, page by page. -/
theorem withBoxes_roParam (i : Nat) : (s.withBoxes b).roParam i = s.roParam i := by
  unfold State.roParam
  generalize i % 256 = k
  dsimp only
  generalize i / 256 = page
  match page with
  | 0x0 => rfl
  | 0x1 => exact withBoxes_ro01 s b k
  | 0x2 => rfl
  | 0x3 => rfl
  | 0x4 => rfl
  | 0x5 => rfl
  | 0x6 => rfl
  | 0x7 => rfl
  | 0x8 => exact withBoxes_ro08 s b k
  | 0x9 => exact withBoxes_ro09 s b k
  | 0xA => rfl
  | 0xB => rfl
  | 0xC => rfl
  | 0xD => rfl
  | 0xE => rfl
  | _ + 15 => rfl

theorem withBoxes_paramValue (d : ParamDef) (i : Nat) : (s.withBoxes b).paramValue d i = s.paramValue d i := by
  simp only [State.paramValue, withBoxes_roParam]
  rfl

theorem withBoxes_readEntry (t n : Nat) : (s.withBoxes b).readEntry t n = s.readEntry t n := by
  unfold State.readEntry
  rfl

end

theorem latch_paramValue (s : State) (r : Req) (d : ParamDef) (i : Nat) : (s.latch r).paramValue d i = s.paramValue d i :=
  withBoxes_paramValue s _ d i

theorem latch_readEntry (s : State) (r : Req) (t n : Nat) : (s.latch r).readEntry t n = s.readEntry t n :=
  withBoxes_readEntry s _ t n

theorem paramRead_run (r : Req) (u : State) : paramReadCmd.run r (u.latch r) = okRep (u.latch r)
    (beBytes 2 (beAt r.body 0 2) ++ beBytes 2 0 ++ ((nums r.body 4 (beAt r.body 0 2)).map (fun i => match paramDef i with
      | some d => beBytes 2 i ++ beBytes 1 d.ty.size ++ beBytes 1 0 ++ beBytes 8 (u.paramValue d i)
      | none => [])).flatten) := by
  simp only [paramReadCmd, Cmd.plain, latch_paramValue] <;> rfl

theorem tableDef_id {t : Nat} {d : TableDef} (h : tableDef t = some d) : d.id = t := by
  simpa using List.find?_some h

theorem tableRead_run {r : Req} {d : TableDef} (u : State) (h : tableDef (tbHead r.body).1 = some d) :
    tableReadCmd.run r (u.latch r) = okRep (u.latch r)
      (((List.range (tbHead r.body).2.1).map (fun j => leBytes d.size (u.readEntry d.id ((tbHead r.body).2.2 + j)))).flatten) := by
  simp only [tableReadCmd, Cmd.plain, latch_readEntry, h, tableDef_id h]

/-- An accepted PARAM_READ answers the effective values (R89). -/
theorem paramRead_answers {dt : Nat} {p : Packet} {x : Session} {s : State} (h : Accepted paramReadCmd (s.elapse dt) p x) :
    ∃ t, exec (.paramRead dt p) s = .next t ∧
      Answers t p x s.mode s.role .ok 0 (beBytes 2 (beAt (reqOf p).body 0 2) ++ beBytes 2 0 ++
        ((nums (reqOf p).body 4 (beAt (reqOf p).body 0 2)).map (fun i => match paramDef i with
          | some d => beBytes 2 i ++ beBytes 1 d.ty.size ++ beBytes 1 0 ++
              beBytes 8 (((s.elapse dt).noted p x).paramValue d i)
          | none => [])).flatten) :=
  mail_reads h (codeIs_of h.code) (paramRead_run _ _)

/-- An accepted TABLE_READ answers the entries in effect (R90). -/
theorem tableRead_answers {dt : Nat} {p : Packet} {x : Session} {d : TableDef} {s : State}
    (h : Accepted tableReadCmd (s.elapse dt) p x) (hd : tableDef (tbHead (reqOf p).body).1 = some d) :
    ∃ t, exec (.tableRead dt p) s = .next t ∧
      Answers t p x s.mode s.role .ok 0 (((List.range (tbHead (reqOf p).body).2.1).map (fun j =>
        leBytes d.size (((s.elapse dt).noted p x).readEntry d.id ((tbHead (reqOf p).body).2.2 + j)))).flatten) :=
  mail_reads h (codeIs_of h.code) (tableRead_run _ hd)

end Sys2Proof.Machine
end

section
/-!
PROOFS. PARAM_WRITE and TABLE_WRITE: what they make of the working image and of the set in effect (R47, R48, R89, R90, R222).
-/
namespace Sys2Proof.Machine

/-! ## What a write leaves alone -/

/-- Mode, role and slot stand, and the Curator runs as before. -/
structure Undisturbed (s u : State) : Prop where
  mu : u.mu = s.mu
  runs : u.mbx.restarting = s.mbx.restarting

theorem Undisturbed.trans {s t u : State} (h : Undisturbed s t) (h' : Undisturbed t u) : Undisturbed s u :=
  ⟨h'.mu.trans h.mu, h'.runs.trans h.runs⟩

theorem edit_undisturbed (s : State) (f : Image → Image) : Undisturbed s (s.edit f) := ⟨rfl, rfl⟩

theorem freezeTold_undisturbed (s : State) (old : Nat) : Undisturbed s (s.freezeTold old) := by
  unfold State.freezeTold
  dsimp only
  split
  · exact ⟨rfl, rfl⟩
  · exact ⟨raise_mu _ _ _, raise_restarting _ _ _⟩

theorem freezeTold_cfg (s : State) (old : Nat) : (s.freezeTold old).cfg = s.cfg := by
  unfold State.freezeTold
  dsimp only
  split
  · rfl
  · exact raise_cfg _ _ _

/-- An accepted command that answers OK without disturbing the module: beside the mailbox service the state it has run to stands,
and its answer is among what is sent. -/
theorem mail_responds {c : Cmd} {mine : List Byte → Bool} {dt : Nat} {p : Packet} {s u : State} {x : Session} {body : List Byte}
    {arg : Nat} (h : Accepted c (s.elapse dt) p x) (hm : mine p.data = true)
    (hr : c.run (reqOf p) (runsIn (s.elapse dt) p x) = okRep u body arg) (hu : Undisturbed (runsIn (s.elapse dt) p x) u) :
    ∃ t, execMail c mine dt p s = .next t ∧ t.body = u.body ∧ Responds t p x s.mode s.role .ok arg body := by
  have hmu : u.mu = s.mu := hu.mu
  have hcur : u.mbx.restarting = none := hu.runs.trans (heard_runs h.toHeard : (s.elapse dt).mbx.restarting = none)
  refine ⟨_, mail_ok h hm hr (.inl rfl) rfl, respond_body u h.here hcur _ _ _ _ _, ?_⟩
  have hout : (answered (reqOf p) (some x.key) x.id (okRep u body arg)).out =
      u.out ++ [response (reqOf p) (some x.key) x.id .ok arg u.mu.mode u.mu.role body] := respond_out u h.here hcur _ _ _ _ _
  unfold Responds
  rw [hout, hmu]
  exact List.mem_append_right _ (List.mem_singleton_self _)

/-! ## PARAM_WRITE -/

theorem setBase_cfg (s : State) (i v : Nat) : (s.setBase i v).cfg =
    { s.cfg with base := if s.cfg.loaded then s.cfg.base.setParam s.mu.slot i v else s.cfg.base } := by
  unfold State.setBase
  cases s.cfg.loaded with
  | false => rfl
  | true => exact freezeTold_cfg _ _

theorem setBase_undisturbed (s : State) (i v : Nat) : Undisturbed s (s.setBase i v) := by
  unfold State.setBase
  split
  · exact ⟨rfl, rfl⟩
  · exact ⟨(freezeTold_undisturbed _ _).mu, (freezeTold_undisturbed _ _).runs⟩

section
variable {i : Nat} {d : ParamDef} (hd : paramDef i = some d) (ha : d.acc = .rw)
include hd ha

/-- An entry for a configurable parameter edits the working image, and of a live one the base (R47, R48). -/
theorem writeParam_rw (s : State) (v : Nat) : s.writeParam i v =
    if paramLive i then (s.edit (fun g => g.setParam s.mu.slot i v)).setBase i v else s.edit (fun g => g.setParam s.mu.slot i v) := by
  simp only [State.writeParam, paramLive, hd, ha, reduceCtorEq, if_false]

theorem writeParam_cfg (s : State) (v : Nat) : (s.writeParam i v).cfg =
    { s.cfg with
      working := s.cfg.working.setParam s.mu.slot i v
      state := 2
      base := if s.cfg.loaded && paramLive i then s.cfg.base.setParam s.mu.slot i v else s.cfg.base } := by
  rw [writeParam_rw hd ha]
  cases paramLive i with
  | false => rw [Bool.and_false]; rfl
  | true => rw [Bool.and_true]; exact setBase_cfg _ _ _

theorem writeParam_undisturbed (s : State) (v : Nat) : Undisturbed s (s.writeParam i v) := by
  rw [writeParam_rw hd ha]
  split
  · exact (edit_undisturbed _ _).trans (setBase_undisturbed _ _ _)
  · exact edit_undisturbed _ _

theorem pwAfter_cons (s : State) (a b v : Nat) (es : List PwEntry) (g : Image) :
    s.pwAfter ((i, a, b, v) :: es) g = s.pwAfter es (g.setParam s.mu.slot i v) := by
  simp only [State.pwAfter, List.foldl_cons, hd, ha, if_true]

end

theorem pwAfter_mu {s t : State} (h : t.mu = s.mu) (es : List PwEntry) (g : Image) : t.pwAfter es g = s.pwAfter es g := by
  unfold State.pwAfter
  rw [h]

/-- Entries for configurable parameters, applied one after the other: what the store holds afterwards (R47, R48). -/
theorem writeParam_foldl {es : List PwEntry} (h : ∀ e ∈ es, ∃ d, paramDef e.1 = some d ∧ d.acc = .rw) (s : State) :
    Undisturbed s (es.foldl (fun s e => s.writeParam e.1 e.2.2.2) s) ∧
    (es.foldl (fun s e => s.writeParam e.1 e.2.2.2) s).cfg =
      { s.cfg with
        working := s.pwAfter es s.cfg.working
        state := if es.isEmpty then s.cfg.state else 2
        base := if s.cfg.loaded then s.pwAfter (es.filter (fun e => paramLive e.1)) s.cfg.base else s.cfg.base } := by
  induction es generalizing s with
  | nil =>
    refine ⟨⟨rfl, rfl⟩, ?_⟩
    have hbase : (if s.cfg.loaded then s.cfg.base else s.cfg.base) = s.cfg.base := ite_self _
    show s.cfg = { s.cfg with base := if s.cfg.loaded then s.cfg.base else s.cfg.base }
    rw [hbase]
  | cons e es ih =>
    obtain ⟨i, a, b, v⟩ := e
    obtain ⟨d, hd, ha⟩ := h _ (List.mem_cons_self ..)
    have hone := writeParam_undisturbed hd ha s v
    obtain ⟨hrest, hcfg⟩ := ih (fun e he => h e (List.mem_cons_of_mem _ he)) (s.writeParam i v)
    refine ⟨hone.trans hrest, ?_⟩
    rw [List.foldl_cons, hcfg, writeParam_cfg hd ha, pwAfter_mu hone.mu, pwAfter_mu hone.mu, pwAfter_cons hd ha]
    cases s.cfg.loaded <;> cases hv : paramLive i <;> simp [hv, pwAfter_cons hd ha]

/-- A command whose checks pass has passed its value checks (R77 step 8). -/
theorem check_value {c : Cmd} {r : Req} {s : State} {lvl modes : Nat} (h : c.check r s lvl modes = none) : c.value r s = none := by
  unfold Cmd.check at h
  cases hv : c.value r s with
  | none => rfl
  | some k =>
    rw [hv] at h
    simp only at h
    repeat' split at h
    all_goals cases h

/-- A PARAM_WRITE whose checks pass has an entry (R89). -/
theorem pwEntries_nonempty {r : Req} {s : State} (h : paramWriteCmd.value r s = none) : (pwEntries r.body).isEmpty = false := by
  have hn : beAt r.body 0 2 ≠ 0 := by
    intro h0
    have hrange : paramWriteCmd.value r s = some (.range, noPos) := if_pos (.inl h0)
    rw [hrange] at h
    cases h
  have hl : (pwEntries r.body).length = min 346 (beAt r.body 0 2) := by simp [pwEntries]
  rw [List.isEmpty_eq_false_iff, ne_eq, ← List.length_eq_zero_iff]
  omega

/-- An accepted PARAM_WRITE of configurable parameters edits the working image and, where they are live, the base (R47, R48,
R89). -/
theorem paramWrite_edits {dt : Nat} {p : Packet} {x : Session} {s : State} (h : Accepted paramWriteCmd (s.elapse dt) p x)
    (hrw : ∀ e ∈ pwEntries (reqOf p).body, ∃ d, paramDef e.1 = some d ∧ d.acc = .rw) :
    ∃ t, exec (.paramWrite dt p) s = .next t ∧
      t.cfg.working = s.pwAfter (pwEntries (reqOf p).body) s.cfg.working ∧ t.cfg.state = 2 ∧
      t.cfg.base = (if s.cfg.loaded then s.pwAfter ((pwEntries (reqOf p).body).filter (fun e => paramLive e.1)) s.cfg.base
        else s.cfg.base) ∧
      Responds t p x s.mode s.role .ok 0 [] := by
  obtain ⟨hu, hcfg⟩ := writeParam_foldl hrw (runsIn (s.elapse dt) p x)
  obtain ⟨row, -, -, hcheck⟩ := h.passes.row
  obtain ⟨t, ht, hbody, hresp⟩ := mail_responds h (codeIs_of h.code)
    (rfl : paramWriteCmd.run (reqOf p) (runsIn (s.elapse dt) p x) = okRep _) hu
  have htc : t.cfg = _ := (congrArg State.cfg hbody).trans hcfg
  rw [pwEntries_nonempty (check_value hcheck)] at htc
  exact ⟨t, ht, congrArg Cfg.working htc, congrArg Cfg.state htc, congrArg Cfg.base htc, hresp⟩

/-! ## TABLE_WRITE -/

/-- Beside the alarm engine two states agree. -/
def OnlyAlarms (s u : State) : Prop := u = { s with al := u.al }

theorem OnlyAlarms.trans {s t u : State} (h : OnlyAlarms s t) (h' : OnlyAlarms t u) : OnlyAlarms s u := by
  unfold OnlyAlarms at *
  rw [h', h]

theorem OnlyAlarms.modAl {s t : State} (h : OnlyAlarms s t) (n : Nat) (f : AlEnt → AlEnt) : OnlyAlarms s (t.modAl n f) :=
  h.trans rfl

theorem OnlyAlarms.undisturbed {s u : State} (h : OnlyAlarms s u) : Undisturbed s u :=
  ⟨(congrArg State.mu h :), (congrArg (fun v : State => v.mbx.restarting) h :)⟩

theorem journal_alarms (s : State) (r : JourRec) : OnlyAlarms s (s.journal r) := by
  unfold OnlyAlarms State.journal
  split
  · rfl
  · dsimp only
    split <;> rfl

/-- What a written alarm entry does stays within the alarm engine (R227). -/
theorem alWritten_alarms (s : State) (n old new : Nat) : OnlyAlarms s (s.alWritten n old new) := by
  have hs : OnlyAlarms s s := rfl
  unfold State.alWritten
  extract_lets t u v
  have hu : OnlyAlarms s u := by
    show OnlyAlarms s (if _ then _ else _)
    split
    · exact journal_alarms s _
    · exact hs
  have hv : OnlyAlarms s v := by
    show OnlyAlarms s (if _ then _ else if _ then _ else _)
    split
    · exact hu.modAl _ _
    · split
      · exact hs.modAl _ _
      · exact hs
  split
  · exact hv.modAl _ _
  · exact hv

section
variable {t : Nat} (ht : t = 0x0001 ∨ t = 0x0002)
include ht

/-- An entry of an alarm table comes into effect: beside the base only the alarm engine changes (R222). -/
theorem setBaseEntry_alarms (s : State) (n e : Nat) : OnlyAlarms
    { s with cfg := { s.cfg with base := if s.cfg.loaded then s.cfg.base.setEntry t n e else s.cfg.base } }
    (s.setBaseEntry t n e) := by
  unfold State.setBaseEntry
  cases s.cfg.loaded with
  | false => exact (rfl : OnlyAlarms s s)
  | true =>
    obtain rfl | rfl := ht
    · exact alWritten_alarms _ _ _ _
    · rfl

theorem setBaseEntry_cfg (s : State) (n e : Nat) : (s.setBaseEntry t n e).cfg =
    { s.cfg with base := if s.cfg.loaded then s.cfg.base.setEntry t n e else s.cfg.base } :=
  congrArg State.cfg (setBaseEntry_alarms ht s n e)

theorem setBaseEntry_undisturbed (s : State) (n e : Nat) : Undisturbed s (s.setBaseEntry t n e) := by
  obtain ⟨hmu, hruns⟩ := (setBaseEntry_alarms ht s n e).undisturbed
  exact ⟨hmu, hruns⟩

theorem setBaseEntry_foldl_undisturbed (es : List (Nat × Nat)) (s : State) :
    Undisturbed s (es.foldl (fun s e => s.setBaseEntry t e.1 e.2) s) := by
  induction es generalizing s with
  | nil => exact ⟨rfl, rfl⟩
  | cons e es ih => exact (setBaseEntry_undisturbed ht s e.1 e.2).trans (ih _)

/-- Entries of an alarm table come into effect, one after the other. -/
theorem setBaseEntry_foldl_cfg (es : List (Nat × Nat)) (s : State) (hl : s.cfg.loaded = true) :
    (es.foldl (fun s e => s.setBaseEntry t e.1 e.2) s).cfg =
      { s.cfg with base := es.foldl (fun g e => g.setEntry t e.1 e.2) s.cfg.base } := by
  induction es generalizing s with
  | nil => rfl
  | cons e es ih =>
    have hone := setBaseEntry_cfg ht s e.1 e.2
    rw [hl, if_pos rfl] at hone
    rw [List.foldl_cons, ih _ ((congrArg Cfg.loaded hone).trans hl), hone]
    rfl

end

/-! ## What TABLE_WRITE makes of the store -/

/-- The entries of a TABLE_WRITE as the configuration keeps them. -/
def keptEntries (d : TableDef) (b : List Byte) : List (Nat × Nat) := (twEntries b).map (fun e => (e.1, keepEntry d.id e.1 e.2))

/-- The working image with the entries of a TABLE_WRITE. -/
def State.editedTable (s : State) (d : TableDef) (b : List Byte) : State := s.edit (fun g => twAfter g d.id (twEntries b))

theorem twAfter_eq_foldl (g : Image) (d : TableDef) (b : List Byte) :
    twAfter g d.id (twEntries b) = (keptEntries d b).foldl (fun g e => g.setEntry d.id e.1 e.2) g := by
  unfold twAfter keptEntries
  rw [List.foldl_map]

section
variable {b : List Byte} {d : TableDef} (h : tableDef (tbHead b).1 = some d)
include h

/-- A TABLE_WRITE, by what its table asks for. -/
theorem writeTable_eq (s : State) : s.writeTable b false =
    if !d.live || !s.cfg.loaded then s.editedTable d b
    else if d.id = 0x0001 ∨ d.id = 0x0002 then (keptEntries d b).foldl (fun s e => s.setBaseEntry d.id e.1 e.2) (s.editedTable d b)
    else { s.editedTable d b with cfg := { (s.editedTable d b).cfg with
      liveTables := s.cfg.liveTables ++ (keptEntries d b).map (fun e => (tkey d.id e.1, e.2)) } } := by
  have hid : d.id = (tbHead b).1 := tableDef_id h
  have hlive : tableLive d.id = d.live := by rw [hid, tableLive, h]
  have hedit : s.editedTable d b = s.edit (fun g => (keptEntries d b).foldl (fun g e => g.setEntry d.id e.1 e.2) g) :=
    congrArg s.edit (funext fun g => twAfter_eq_foldl g d b)
  rw [hedit, ← hlive]
  unfold State.writeTable keptEntries
  rw [hid]
  simp only [Bool.false_or, Bool.or_eq_true, beq_iff_eq] <;> rfl

theorem writeTable_waits (s : State) (hb : d.live = false ∨ s.cfg.loaded = false) : s.writeTable b false = s.editedTable d b := by
  rw [writeTable_eq h, if_pos (by obtain hb | hb := hb <;> simp [hb])]

theorem writeTable_boundary (s : State) (hl : d.live = true) (hs : s.cfg.loaded = true) (h1 : d.id ≠ 0x0001) (h2 : d.id ≠ 0x0002) :
    s.writeTable b false = { s.editedTable d b with cfg := { (s.editedTable d b).cfg with
      liveTables := s.cfg.liveTables ++ (keptEntries d b).map (fun e => (tkey d.id e.1, e.2)) } } := by
  rw [writeTable_eq h, if_neg (by simp [hl, hs]), if_neg (not_or.mpr ⟨h1, h2⟩)]

theorem writeTable_atOnce (s : State) (hl : d.live = true) (hs : s.cfg.loaded = true) (ht : d.id = 0x0001 ∨ d.id = 0x0002) :
    s.writeTable b false = (keptEntries d b).foldl (fun s e => s.setBaseEntry d.id e.1 e.2) (s.editedTable d b) := by
  rw [writeTable_eq h, if_neg (by simp [hl, hs]), if_pos ht]

theorem writeTable_undisturbed (s : State) : Undisturbed s (s.writeTable b false) := by
  have hedit : Undisturbed s (s.editedTable d b) := edit_undisturbed s _
  rw [writeTable_eq h]
  split
  · exact hedit
  · split
    · rename_i ht
      exact hedit.trans (setBaseEntry_foldl_undisturbed ht _ _)
    · exact hedit.trans ⟨rfl, rfl⟩

/-- A TABLE_WRITE edits the working image, and the store else holds what its table asks for (R48, R90, R222). -/
theorem writeTable_stores (s : State) :
    (s.writeTable b false).cfg.working = twAfter s.cfg.working d.id (twEntries b) ∧ (s.writeTable b false).cfg.state = 2 ∧
    (d.live = false ∨ s.cfg.loaded = false → (s.writeTable b false).cfg.base = s.cfg.base ∧
      (s.writeTable b false).cfg.liveTables = s.cfg.liveTables) ∧
    (d.live = true → s.cfg.loaded = true → d.id ≠ 0x0001 → d.id ≠ 0x0002 → (s.writeTable b false).cfg.base = s.cfg.base ∧
      (s.writeTable b false).cfg.liveTables = s.cfg.liveTables ++
        (twEntries b).map (fun x => (tkey d.id x.1, keepEntry d.id x.1 x.2))) ∧
    (d.live = true → s.cfg.loaded = true → d.id = 0x0001 ∨ d.id = 0x0002 →
      (s.writeTable b false).cfg.base = twAfter s.cfg.base d.id (twEntries b)) := by
  by_cases hw : d.live = false ∨ s.cfg.loaded = false
  · rw [writeTable_waits h s hw]
    have hno (hl : d.live = true) (hs : s.cfg.loaded = true) : False := by
      rw [hl, hs] at hw
      obtain hw | hw := hw <;> cases hw
    exact ⟨rfl, rfl, fun _ => ⟨rfl, rfl⟩, fun hl hs => (hno hl hs).elim, fun hl hs => (hno hl hs).elim⟩
  · have hl : d.live = true := Bool.not_eq_false _ ▸ (not_or.mp hw).1
    have hs : s.cfg.loaded = true := Bool.not_eq_false _ ▸ (not_or.mp hw).2
    by_cases ht : d.id = 0x0001 ∨ d.id = 0x0002
    · have hcfg := setBaseEntry_foldl_cfg ht (keptEntries d b) (s.editedTable d b) hs
      rw [← writeTable_atOnce h s hl hs ht] at hcfg
      rw [hcfg]
      exact ⟨rfl, rfl, fun hn => (hw hn).elim, fun _ _ h1 h2 => (ht.elim h1 h2).elim, fun _ _ _ => (twAfter_eq_foldl _ d b).symm⟩
    · obtain ⟨h1, h2⟩ := not_or.mp ht
      rw [writeTable_boundary h s hl hs h1 h2]
      refine ⟨rfl, rfl, fun hn => (hw hn).elim, fun _ _ _ _ => ⟨rfl, ?_⟩, fun _ _ hy => (ht hy).elim⟩
      show s.cfg.liveTables ++ (keptEntries d b).map _ = _
      rw [keptEntries, List.map_map]
      rfl

end

/-- An accepted TABLE_WRITE edits the working image, and a live table comes into effect at once or at its boundary (R48, R90,
R222). -/
theorem tableWrite_edits {dt : Nat} {p : Packet} {x : Session} {d : TableDef} {s : State}
    (h : Accepted tableWriteCmd (s.elapse dt) p x) (hd : tableDef (tbHead (reqOf p).body).1 = some d) :
    ∃ t, exec (.tableWrite dt p) s = .next t ∧
      t.cfg.working = twAfter s.cfg.working d.id (twEntries (reqOf p).body) ∧ t.cfg.state = 2 ∧
      (d.live = false ∨ s.cfg.loaded = false → t.cfg.base = s.cfg.base ∧ t.cfg.liveTables = s.cfg.liveTables) ∧
      (d.live = true → s.cfg.loaded = true → d.id ≠ 0x0001 → d.id ≠ 0x0002 → t.cfg.base = s.cfg.base ∧
        t.cfg.liveTables = s.cfg.liveTables ++
          (twEntries (reqOf p).body).map (fun x => (tkey d.id x.1, keepEntry d.id x.1 x.2))) ∧
      (d.live = true → s.cfg.loaded = true → d.id = 0x0001 ∨ d.id = 0x0002 →
        t.cfg.base = twAfter s.cfg.base d.id (twEntries (reqOf p).body)) ∧
      Responds t p x s.mode s.role .ok 0 [] := by
  obtain ⟨t, ht, hbody, hresp⟩ := mail_responds h (codeIs_of h.code)
    (rfl : tableWriteCmd.run (reqOf p) (runsIn (s.elapse dt) p x) = okRep _) (writeTable_undisturbed hd _)
  obtain ⟨hwork, hstate, hplain, hboundary, hnow⟩ := writeTable_stores hd (runsIn (s.elapse dt) p x)
  have htc : t.cfg = ((runsIn (s.elapse dt) p x).writeTable (reqOf p).body false).cfg := (congrArg State.cfg hbody :)
  rw [← htc] at hwork hstate hplain hboundary hnow
  exact ⟨t, ht, hwork, hstate, hplain, hboundary, hnow, hresp⟩

end Sys2Proof.Machine
end

section
/-!
PROOFS. EVENT_READ and EVENT_CLEAR (R116, R117), and the rows on parameters, tables and events together.
-/
namespace Sys2Proof.Machine

/-- An event source after a clear that names it at the instant `now`: an event of this very instant is set after the clear (R117). -/
def EventSrc.cleared (now : Nat) (v : EventSrc) : EventSrc := { v with latch := v.latch && v.time == now }

theorem cleared_cleared (now : Nat) (v : EventSrc) : (v.cleared now).cleared now = v.cleared now := by
  simp [EventSrc.cleared]

theorem cleared_default (now : Nat) : ({} : EventSrc).cleared now = {} := rfl

/-- The event sources after a clear of those in the mask `m` among the numbers `ks`. -/
def clearSources (m now : Nat) (ks : List Nat) (src : Tab EventSrc) : Tab EventSrc :=
  ks.foldl (fun t k => if bit m k then tmod t k {} (EventSrc.cleared now) else t) src

theorem tget_clearSources (m now : Nat) (ks : List Nat) (src : Tab EventSrc) (k : Nat) :
    tget (clearSources m now ks src) k {} =
      if k ∈ ks ∧ bit m k then (tget src k {}).cleared now else tget src k {} := by
  induction ks generalizing src with
  | nil => simp [clearSources]
  | cons j ks ih =>
    rw [clearSources, List.foldl_cons, ← clearSources, ih]
    by_cases hj : bit m j
    · rw [if_pos hj, tget_tmod]
      by_cases hk : k = j
      · subst hk
        simp [hj, cleared_cleared]
      · simp [hk]
    · rw [if_neg hj]
      by_cases hk : k = j
      · subst hk
        simp [hj]
      · simp [hk]

/-- A number that a table does not list reads as its default. -/
theorem tget_unlisted {α : Type} {t : Tab α} {k : Nat} (h : k ∉ t.map Prod.fst) (d : α) : tget t k d = d := by
  induction t with
  | nil => rfl
  | cons a t ih =>
    obtain ⟨i, v⟩ := a
    rw [List.map_cons, List.mem_cons, not_or] at h
    rw [tget, if_neg h.1, ih h.2]

/-- A clear over the listed sources reaches every source (R117). -/
theorem tget_clearListed (m now : Nat) (src : Tab EventSrc) (k : Nat) :
    tget (clearSources m now (src.map Prod.fst) src) k {} = if bit m k then (tget src k {}).cleared now else tget src k {} := by
  rw [tget_clearSources]
  by_cases hk : k ∈ src.map Prod.fst
  · simp [hk]
  · simp [hk, tget_unlisted hk, cleared_default]

/-- An accepted EVENT_READ answers the state of its events (R116). -/
theorem eventRead_answers {dt : Nat} {p : Packet} {x : Session} {s : State} (h : Accepted eventReadCmd (s.elapse dt) p x) :
    ∃ t, exec (.eventRead dt p) s = .next t ∧
      Answers t p x s.mode s.role .ok 0 (beBytes 2 (beAt (reqOf p).body 2 2) ++ beBytes 2 0 ++
        ((List.range (beAt (reqOf p).body 2 2)).map (fun j =>
          let k := beAt (reqOf p).body 0 2 + j
          let v := tget s.ev.src k {}
          beBytes 2 k ++ beBytes 1 (b2n v.latch + 2 * b2n (s.eventBit 0x0160 k) + 4 * b2n (s.eventBit 0x0168 k) +
            8 * b2n (s.eventBit 0x0170 k)) ++ beBytes 1 (s.eventClass k) ++ beBytes 4 v.count ++ beBytes 8 v.time)).flatten) :=
  mail_reads h (codeIs_of h.code) rfl

/-- The state with other event sources. -/
def State.withSources (s : State) (src : Tab EventSrc) : State := { s with ev := { s.ev with src := src } }

theorem eventClear_run (r : Req) (u : State) : eventClearCmd.run r u =
    okRep (u.withSources (clearSources (leNat r.body) u.now (u.ev.src.map Prod.fst) u.ev.src)) := rfl

theorem answered_okRep_ev {r : Req} {u : State} (ht : r.target ≠ 1) (hc : u.mbx.restarting = none) (key : Option (List Byte))
    (sid : U32) (body : List Byte) : (answered r key sid (okRep u body)).ev = u.ev :=
  (congrArg State.ev (respond_eq u ht hc key sid .ok 0 body) :)

/-- An accepted EVENT_CLEAR clears the latches it names, but for that of an event of this very instant (R117). -/
theorem eventClear_clears {dt : Nat} {p : Packet} {x : Session} {s : State} (h : Accepted eventClearCmd (s.elapse dt) p x) :
    ∃ t, exec (.eventClear dt p) s = .next t ∧
      (∀ k, tget t.ev.src k {} = if bit (leNat (reqOf p).body) k then (tget s.ev.src k {}).cleared (s.elapse dt).now
        else tget s.ev.src k {}) ∧
      Answers t p x s.mode s.role .ok 0 [] := by
  have hcur : ((runsIn (s.elapse dt) p x).withSources
      (clearSources (leNat (reqOf p).body) (s.elapse dt).now (s.ev.src.map Prod.fst) s.ev.src)).mbx.restarting = none :=
    (heard_runs h.toHeard : (s.elapse dt).mbx.restarting = none)
  refine ⟨_, mail_ok h (codeIs_of h.code) (eventClear_run _ _) (.inl rfl) rfl, fun k => ?_, ?_⟩
  · refine (congrArg (fun v : Events => tget v.src k {}) (answered_okRep_ev h.here hcur _ _ _)).trans ?_
    exact tget_clearListed _ _ _ _
  · exact answered_okRep_out h.here hcur rfl _ _ _

end Sys2Proof.Machine

open Sys2Proof Sys2Proof.Machine

/-- Settles O11, row by row: a read does not depend on the mailbox that holds it, a write is followed entry by entry through its
fold, and a clear over the listed sources reaches every source. -/
theorem parameterRowsComplete : Obligations.ParameterRowsComplete :=
  ⟨fun _ _ _ _ h => paramRead_answers h, fun _ _ _ _ h hrw => paramWrite_edits h hrw,
    fun _ _ _ _ _ h hd => tableRead_answers h hd, fun _ _ _ _ _ h hd => tableWrite_edits h hd,
    fun _ _ _ _ h => eventRead_answers h, fun _ _ _ _ h => eventClear_clears h⟩
end

section
/-!
PROOFS. The identity and the operating time: no command touches them, and the ticks that pass count (R105).
-/
namespace Sys2Proof.Machine

/-- A command that completes leaves the identity and the operating time as the passing of its ticks leaves them. -/
theorem exec_name {c : Instr} {s t : State} (h : exec c s = .next t) :
    t.ident.variant = s.ident.variant ∧ t.ident.serial = s.ident.serial ∧ t.ident.hwRev = s.ident.hwRev ∧
      t.ident.madeAt = s.ident.madeAt ∧ t.ident.baseMac = s.ident.baseMac ∧
      t.ident.opSeconds = (s.elapse (ticksOf c)).ident.opSeconds ∧ t.ident.opTicks = (s.elapse (ticksOf c)).ident.opTicks :=
  view_name (exec_view h)

/-- The operating time counts the ticks that pass (R105). -/
theorem elapse_operatingTime (s : State) (dt : Nat) :
    (s.elapse dt).ident.opSeconds * Config.ticksPerSecond + (s.elapse dt).ident.opTicks =
      s.ident.opSeconds * Config.ticksPerSecond + s.ident.opTicks + dt := by
  have hdiv := Nat.div_add_mod' (s.ident.opTicks + dt) Config.ticksPerSecond
  show (s.ident.opSeconds + _ / _) * _ + _ % _ = _
  rw [Nat.add_mul, Nat.add_assoc, hdiv, Nat.add_assoc]

/-- Less than a second is counted beyond OperatingSeconds after any ticks (R105). -/
theorem elapse_opTicks_lt (s : State) (dt : Nat) : (s.elapse dt).ident.opTicks < Config.ticksPerSecond :=
  Nat.mod_lt _ (by decide)

end Sys2Proof.Machine

open Sys2Proof Sys2Proof.Machine

/-- Settles O8: no row's footprint holds the identity, and the operating time counts whole seconds and their rest. -/
theorem identityAndOperatingTime : Obligations.IdentityAndOperatingTime := by
  intro c s t h
  obtain ⟨hvariant, hserial, hrev, hmade, hmac, hsec, hticks⟩ := exec_name h
  exact ⟨hvariant, hserial, hrev, hmade, hmac, by rw [hsec, hticks, elapse_operatingTime]⟩
end

section
/-!
PROOFS. The key store (R72) and the memory the debugger has written (R306) stay in canonical form.
-/
namespace Sys2Proof.Machine

/-- The key store and the written memory are in canonical form (R72, R306). -/
structure Canonical (s : State) : Prop where
  keys : trising none s.mbx.keys = true
  memory : Memory.wf s.lk.dram = true

/-- Every part but the key store and the written memory. -/
def besideStores : Nat := 0x7fefffeff

theorem Canonical.of_same {s t : State} (hs : Canonical s) (hk : t.mbx.keys = s.mbx.keys) (hd : t.lk.dram = s.lk.dram) :
    Canonical t :=
  ⟨hk ▸ hs.keys, hd ▸ hs.memory⟩

/-- What changes other parts only keeps both stores. -/
theorem Canonical.of_view {s t : State} (hs : Canonical s) (h : t.view besideStores = s.view besideStores) : Canonical t :=
  .of_same hs (view_same h .keys (by decide)) (view_same h .dram (by decide)).1

theorem elapse_canonical {s : State} (hs : Canonical s) (dt : Nat) : Canonical (s.elapse dt) := .of_same hs rfl rfl

theorem Canonical.ite {p : Prop} [Decidable p] {s t : State} (hs : Canonical s) (ht : Canonical t) :
    Canonical (if p then s else t) := by
  split
  · exact hs
  · exact ht

theorem Canonical.foldl {α : Type} {l : List α} {f : State → α → State} (hf : ∀ t a, Canonical t → Canonical (f t a)) {s : State}
    (hs : Canonical s) : Canonical (l.foldl f s) :=
  List.foldlRecOn l f hs (fun t ht a _ => hf t a ht)

/-- A command that completes ends in canonical form. -/
def EndsCanonical (o : Host.Outcome State Fault Refusal) : Prop := ∀ t, o = .next t → Canonical t

theorem EndsCanonical.next {t : State} (h : Canonical t) : EndsCanonical (.next t) := fun _ ht => by cases ht; exact h

theorem EndsCanonical.ite {p : Prop} [Decidable p] {a b : Host.Outcome State Fault Refusal} (ha : EndsCanonical a)
    (hb : EndsCanonical b) : EndsCanonical (if p then a else b) := by
  split
  · exact ha
  · exact hb

theorem EndsCanonical.fault (f : Fault) : EndsCanonical (.fault f) := fun _ ht => nomatch ht

/-! ## Requests -/

/-- A command that keeps both stores in canonical form (R77, R83). -/
structure CanonicalCmd (c : Cmd) : Prop where
  run : ∀ r s, Canonical s → Canonical (c.run r s).st
  after : ∀ r s t, Canonical t → Canonical ((c.run r s).after t)
  accept : ∀ f, c.accept = some f → ∀ r op s, Canonical s → Canonical (f r op s).2

/-- A command that touches neither store. -/
theorem CanonicalCmd.of_keeps {c : Cmd} (h : KeepsCmd besideStores c) : CanonicalCmd c where
  run r s hs := .of_view hs (h.run r s)
  after r s t ht := .of_view ht (h.after r s t)
  accept f hf r op s hs := .of_view hs (h.accept f hf r op s)

variable {c : Cmd}

theorem carry_canonical (hc : CanonicalCmd c) (r : Req) {s : State} (hs : Canonical s) :
    Canonical (c.carry r s).st ∧ ∀ t, Canonical t → Canonical ((c.carry r s).after t) := by
  have hop : Canonical (s.startOp r).2 := .of_same hs rfl rfl
  unfold Cmd.carry
  split
  · dsimp only
    split
    · exact ⟨hc.accept _ ‹_› _ _ _ hop, fun _ ht => ht⟩
    · exact ⟨.of_view hop (schedulePair_view _ _ _ rfl), fun _ ht => ht⟩
  · exact ⟨hc.run r s hs, hc.after r s⟩

theorem respond_canonical {s : State} (hs : Canonical s) (r : Req) (k : Option (List Byte)) (sid : U32) (st : Status) (a : Nat)
    (b : List Byte) : Canonical (s.respond r k sid st a b) :=
  .of_view hs (respond_view ..)

theorem authFail_canonical {s : State} (hs : Canonical s) (r : Req) : Canonical (s.authFail r) := .of_view hs (authFail_view ..)

/-- A request is answered, passed to the PRIMARY or carried out (R77, R83), and each keeps the stores. -/
theorem serveReq_canonical (hc : CanonicalCmd c) {s : State} (hs : Canonical s) (r : Req) (key : Option (List Byte)) (sid : U32)
    (lvl : Nat) (unset : Bool) : Canonical (s.serveReq c r key sid lvl unset) := by
  have hl : Canonical (s.latch r) := .of_same hs rfl rfl
  have hno : ∀ st k, Canonical ((s.latch r).respond r key sid st k []) := fun _ _ => respond_canonical hl ..
  obtain ⟨hst, hafter⟩ := carry_canonical hc r hl
  unfold State.serveReq
  refine .ite (respond_canonical hs ..) ?_
  dsimp only
  split
  · exact hno _ _
  · refine .ite (hno _ _) (.ite (hno _ _) (.ite ?_ ?_))
    · split
      · exact hno _ _
      · split
        · exact hno _ _
        · split
          · exact hno _ _
          · exact .ite (hno _ _) (.ite (hno _ _) (.of_view hl (relayPair_view _ _ rfl)))
    · split
      · exact hno _ _
      · exact .ite hst (.ite (hafter _ (.of_same (respond_canonical hst ..) rfl rfl)) (hafter _ (hno _ _)))

theorem sessionReq_canonical (hc : CanonicalCmd c) {s : State} (hs : Canonical s) (r : Req) : Canonical (s.sessionReq c r) := by
  have hn : ∀ (i : U32) (f : Session → Session), Canonical (s.modSession i f) := fun _ _ => .of_same hs rfl rfl
  have hfail := authFail_canonical hs r
  unfold State.sessionReq
  split
  · exact hfail
  · next x _ =>
    have hserve := serveReq_canonical hc (hn x.id (fun x => { x with counter := some r.counter, lastTick := s.tick })) r
      (some x.key) x.id x.level x.unsetKey
    refine .ite hfail (.ite hfail ?_)
    dsimp only
    split
    · exact .ite (.of_view (hn _ _) (reply_view ..)) (.ite (hn _ _) hserve)
    · exact .ite (hn _ _) hserve
    · exact hserve

theorem serveFrame_canonical (hc : CanonicalCmd c) {s : State} (hs : Canonical s) (r : Req) : Canonical (s.serveFrame c r) := by
  have hfail := authFail_canonical hs r
  unfold State.serveFrame
  refine .ite (serveReq_canonical hc hs ..) (.ite ?_ (sessionReq_canonical hc hs r))
  split
  · exact hfail
  · exact .ite hfail (serveReq_canonical hc hs ..)

theorem receive_canonical (hc : CanonicalCmd c) {s : State} (hs : Canonical s) (via : Via) (addr : U32) (port : U16)
    (d : List Byte) : Canonical (s.receive c via addr port d) := by
  unfold State.receive
  exact .ite hs (.ite (.of_same hs rfl rfl) (.ite hs (.ite (.of_same hs rfl rfl)
    (.ite (.of_view hs (forward_view ..)) (serveFrame_canonical hc hs _)))))

theorem execMail_canonical (hc : CanonicalCmd c) (mine : List Byte → Bool) (dt : Nat) (p : Packet) {s : State} (hs : Canonical s) :
    EndsCanonical (execMail c mine dt p s) := by
  unfold execMail
  split
  · next h => exact .next (.of_view (elapse_canonical hs dt) (assemble_view' h))
  · next h =>
    split
    · exact .next (receive_canonical hc (.of_view (elapse_canonical hs dt) (assemble_view' h)) _ _ _ _)
    · exact .fault _

/-- A stored key takes its level's place, in order (R72). -/
theorem keyed_canonical {s : State} (hs : Canonical s) (level : Nat) (key : List Byte) : Canonical (s.keyed level key) := by
  have hput : Canonical { s with mbx := { s.mbx with keys := tput s.mbx.keys level key } } :=
    ⟨rising_tput _ _ hs.keys, hs.memory⟩
  exact hput.of_view (raise_view _ _ _)

theorem setKeyCmd_canonical : CanonicalCmd setKeyCmd where
  run _ _ hs := keyed_canonical hs _ _
  after _ _ _ ht := .foldl (fun _ _ hu => .of_view hu (endOrClose_view _ _ rfl)) ht
  accept _ hf := nomatch hf

/-- SET_KEY is the one command of the table that touches a store. -/
theorem anyCmd_keepsStores {sid : U32} {nonce : List Byte} {begun : Bool} {code : Nat}
    (h : anyCmd sid nonce begun code = some c) : c = setKeyCmd ∨ KeepsCmd besideStores c := by
  have hc := List.mem_of_find?_eq_some h
  clear h
  revert c
  simp only [List.forall_mem_append, List.forall_mem_cons]
  exact ⟨⟨⟨⟨.inr identifyCmd_keeps, .inr commandsListCmd_keeps, .inr (openSessionCmd_keeps _ _), .inr (closeSessionCmd_keeps rfl),
    .inl trivial, .inr keyInfoCmd_keeps, .inr subscribeCmd_keeps, .inr completionReadCmd_keeps, .inr paramReadCmd_keeps,
    .inr (paramWriteCmd_keeps rfl), .inr tableReadCmd_keeps, .inr (tableWriteCmd_keeps rfl), .inr (commitConfigCmd_keeps rfl),
    .inr (discardEditsCmd_keeps rfl), .inr (configExportCmd_keeps rfl), .inr (configImportCmd_keeps rfl), nofun⟩,
    .inr (setModeCmd_keeps rfl), .inr (restartCmd_keeps rfl), .inr (roleSwapCmd_keeps rfl), .inr eventReadCmd_keeps,
    .inr eventClearCmd_keeps, .inr (programLoadCmd_keeps rfl), .inr (programSwitchCmd_keeps rfl), .inr (valueWriteCmd_keeps rfl),
    .inr (forceSetCmd_keeps rfl), .inr (forceClearCmd_keeps rfl), .inr (taskTriggerCmd_keeps rfl), .inr (splitCmd_keeps rfl),
    .inr (joinCmd_keeps rfl), .inr (debugAttachCmd_keeps rfl), .inr (debugDetachCmd_keeps rfl), .inr (annexCmd_keeps rfl),
    .inr ledgerReadCmd_keeps, nofun⟩,
    .inr (alarmAckCmd_keeps rfl), .inr (alarmShelveCmd_keeps rfl), .inr (ladderAckCmd_keeps rfl), .inr journalReadCmd_keeps,
    .inr archiveReadCmd_keeps, .inr trendReadCmd_keeps, .inr (aiCalibrateCmd_keeps rfl), .inr (aoTrimCmd_keeps rfl),
    .inr (hartPassCmd_keeps rfl), .inr (loopInjectCmd_keeps rfl), .inr (loopCaptureCmd_keeps rfl), .inr (canSendCmd_keeps rfl),
    .inr (canCancelCmd_keeps _ rfl), .inr (canRecoverCmd_keeps rfl), .inr (panelUpdateCmd_keeps rfl),
    .inr (timeAcceptCmd_keeps rfl), nofun⟩,
    .inr (updateBeginCmd_keeps rfl), .inr (updateBlockCmd_keeps rfl), .inr (updateVerifyCmd_keeps rfl),
    .inr (activateCmd_keeps rfl), .inr (rollbackCmd_keeps rfl), nofun⟩

theorem anyCmd_canonical (sid : U32) (nonce : List Byte) (begun : Bool) (code : Nat) :
    CanonicalCmd ((anyCmd sid nonce begun code).getD identifyCmd) := by
  cases h : anyCmd sid nonce begun code with
  | none => exact .of_keeps identifyCmd_keeps
  | some c =>
    rcases anyCmd_keepsStores h with rfl | hc
    · exact setKeyCmd_canonical
    · exact .of_keeps hc

theorem forwarded_canonical {s : State} (hs : Canonical s) (via : Via) (addr : U32) (port : U16) (d : List Byte) (sid : U32)
    (nonce : List Byte) (begun : Bool) : Canonical (s.forwarded via addr port d sid nonce begun) := by
  unfold State.forwarded
  exact .ite hs (.ite (.of_same hs rfl rfl) (serveFrame_canonical (anyCmd_canonical ..) hs _))

theorem execMailboxForwardFrame_canonical (dt : Nat) (h : LaneHdr) (x : ForwardIn) {s : State} (hs : Canonical s) :
    EndsCanonical (execMailboxForwardFrame dt h x s) := by
  have he := elapse_canonical hs dt
  have hin : Canonical ((s.elapse dt).laneIn h).2 := .of_view he (laneIn_view _ _ rfl)
  unfold execMailboxForwardFrame execLane
  dsimp only
  split
  · exact .next he
  · refine .next (.ite ?_ hin)
    cases x with
    | request => exact forwarded_canonical hin ..
    | response => exact .of_view hin (forwardAnswer_view ..)

/-! ## The debugger's actions -/

/-- A debug action's row keeps both stores where its action does (R306). -/
theorem execDebug_canonical {act : Debugger → State → Status × List Byte × State} (ha : ∀ g t, Canonical t → Canonical (act g t).2.2)
    (code dt : Nat) (p : Packet) (al : Debugger → State → Option Status) {s : State} (hs : Canonical s) :
    EndsCanonical (execDebug code dt p al act s) := by
  have he := elapse_canonical hs dt
  unfold execDebug
  split
  · next h => exact .next (.of_view he (assemble_view' h))
  · next u d h =>
    have hu : Canonical u := .of_view he (assemble_view' h)
    have hfail := fun r => authFail_canonical hu r
    split
    · exact .fault _
    · refine .ite (.next hu) (.ite (.next (.of_same hu rfl rfl)) ?_)
      dsimp only
      split
      · exact .next (hfail _)
      · next x _ =>
        refine .ite (.next (hfail _)) ?_
        generalize hw : u.modSession x.id _ = w
        have hn : Canonical w := hw ▸ .of_same hu rfl rfl
        have hanswer := fun st body => hn.of_view (debugAnswer_view w (parseReq p.via p.addr p.port d) x.key st body)
        split
        · exact .next (hanswer _ _)
        · refine .ite (.next (hanswer _ _)) (.ite (.next (hanswer _ _)) ?_)
          split
          · exact .next (hanswer _ _)
          · exact .next ((ha _ _ hn).of_view (debugAnswer_view _ _ _ _ _))

theorem readingRoom_canonical {s : State} (hs : Canonical s) (g : Debugger) (code addr : Nat) (record : Bool) (vals : List Byte) :
    Canonical (s.readingRoom g code addr record vals) :=
  .of_view hs (readingRoom_view _ _ _ _ _ _ rfl)

theorem withRegs_canonical {s : State} (hs : Canonical s) (regs : Tab U64) :
    Canonical { s with lk := { s.lk with regs := regs } } :=
  .of_same hs rfl rfl

theorem execDebugReadRegisters_canonical (dt : Nat) (p : Packet) (count : Nat) {s : State} (hs : Canonical s) :
    EndsCanonical (execDebugReadRegisters dt p count s) := by
  refine execDebug_canonical (fun g t ht => readingRoom_canonical ?_ ..) _ _ _ _ hs
  refine List.foldlRecOn (motive := fun x : List Byte × State => Canonical x.2) _ _ ht (fun x hx k _ => ?_)
  dsimp only
  split
  · exact hx
  · have hfree := hx.of_view (takeFree_view x.2)
    exact .ite (withRegs_canonical hfree _) hfree

theorem execDebugWriteRegister_canonical (dt : Nat) (p : Packet) (reg : Nat) (v : U64) {s : State} (hs : Canonical s) :
    EndsCanonical (execDebugWriteRegister dt p reg v s) :=
  execDebug_canonical (fun g _ ht => readingRoom_canonical (withRegs_canonical ht _) g 2 reg true _) _ _ _ _ hs

theorem debugHalt_canonical {s : State} (hs : Canonical s) (g : Debugger) (on : Bool) (regs : Tab U64) :
    Canonical (s.debugHalt g on regs) :=
  .of_same hs rfl rfl

theorem execDebugHalt_canonical (dt : Nat) (p : Packet) {s : State} (hs : Canonical s) : EndsCanonical (execDebugHalt dt p s) :=
  execDebug_canonical (fun g _ ht => readingRoom_canonical (debugHalt_canonical ht g true _) _ 6 0 true []) _ _ _ _ hs

theorem execDebugResume_canonical (dt : Nat) (p : Packet) {s : State} (hs : Canonical s) : EndsCanonical (execDebugResume dt p s) :=
  execDebug_canonical (fun g _ ht => readingRoom_canonical (debugHalt_canonical ht g false _) _ 6 0 false []) _ _ _ _ hs

theorem execDebugStep_canonical (dt : Nat) (p : Packet) (regs : List (Nat × U64)) {s : State} (hs : Canonical s) :
    EndsCanonical (execDebugStep dt p regs s) :=
  execDebug_canonical (fun g _ ht => readingRoom_canonical (debugHalt_canonical ht g true _) _ 6 0 true []) _ _ _ _ hs

/-- A write of memory lists each of its bytes at its address, in order (R306). -/
theorem memory_written {m : Tab Byte} (hm : Memory.wf m = true) (addr : Nat) (bytes : List Byte) :
    Memory.wf (bytes.zipIdx.foldl (fun t (b, i) => tput t (addr + i) b) m) = true :=
  List.foldlRecOn (motive := fun t => Memory.wf t = true) _ _ hm (fun _ ht _ _ => rising_tput _ _ ht)

theorem execDebugWriteMemory_canonical (dt : Nat) (p : Packet) (a : Area) (task addr : Nat) (bytes : List Byte) {s : State}
    (hs : Canonical s) : EndsCanonical (execDebugWriteMemory dt p a task addr bytes s) := by
  refine execDebug_canonical (fun g t ht => ?_) _ _ _ _ hs
  dsimp only
  split
  · exact .of_view ht (sealedDebug_view ..)
  · have harea := ht.of_view (writeArea_view t task addr bytes rfl)
    refine readingRoom_canonical ?_ g 4 addr true bytes
    split
    · exact .ite (.of_same ht rfl rfl) harea
    · exact ⟨ht.keys, memory_written ht.memory _ _⟩

/-! ## Task cycles -/

theorem withWrites_canonical {s : State} (hs : Canonical s) (l : List DebugWrite) :
    Canonical { s with lk := { s.lk with writes := l } } :=
  .of_same hs rfl rfl

theorem applyWrites_canonical {s : State} (hs : Canonical s) (n : Nat) : Canonical (s.applyWrites n) := by
  unfold State.applyWrites
  refine .ite hs ?_
  dsimp only
  have harea : ∀ (u : State) (w : DebugWrite), Canonical u → Canonical (u.writeArea n w.addr w.bytes) :=
    fun u w hu => hu.of_view (writeArea_view u n w.addr w.bytes rfl)
  refine .foldl harea ?_
  refine withWrites_canonical ?_ _
  refine .foldl (fun u w hu => ?_) ?_
  · have hvalue : ∀ (v : State) (e : Nat × Nat × Nat), Canonical v → Canonical (v.applyValue n e.1 e.2.1 e.2.2) :=
      fun v e hv => hv.of_view (applyValue_view v n e.1 e.2.1 e.2.2 rfl)
    have hv := Canonical.foldl (l := w.entries) hvalue hu
    generalize w.entries.foldl _ u = v at hv ⊢
    have hcount : Canonical { v with tk := { v.tk with changes := v.tk.changes + w.entries.length } } := .of_same hv rfl rfl
    have hev := hcount.of_view (raise_view _ 18 [(1, n), (4, s.nextOsn n), (2, w.entries.length)])
    have harch := hev.of_view (archCommand_view _ 0 0x0042 w.session.toNat w.body)
    exact harch.of_view (completeOpt_view _ w.op .ok (beBytes 4 (s.nextOsn n)) rfl)
  · exact hs.of_view (modTask_view s n _ rfl)

theorem sliceLoad_canonical {s : State} (hs : Canonical s) (n : Nat) : Canonical (s.sliceLoad n) := by
  unfold State.sliceLoad
  split
  · exact hs
  · next c _ =>
    have hload := (applyWrites_canonical hs n).of_view (installFor_view _ c rfl)
    have hedges := hload.of_view (firstEdges_view _ n c rfl)
    exact .ite hs (hedges.of_view (modTask_view _ n _ rfl))

/-! ## Entry into M0 -/

/-- Entry into M0 keeps the keys and loses the written memory (R36, R72). -/
theorem enterM0_canonical {s : State} (hs : Canonical s) : Canonical s.enterM0 := ⟨hs.keys, rfl⟩

theorem restartNow_canonical {s : State} (hs : Canonical s) : Canonical s.restartNow :=
  enterM0_canonical (.of_view (.foldl (fun _ _ hu => .of_view hu (endSession_view _ _ rfl)) hs) (finalSave_view _ _ rfl))

theorem autoSwitch_canonical {s : State} (hs : Canonical s) : Canonical s.autoSwitch := by
  have hu : ∀ f, Canonical (s.modMu f) := fun _ => .of_same hs rfl rfl
  unfold State.autoSwitch
  split
  · exact hs
  · refine .ite hs (.ite hs (.ite (restartNow_canonical (hu _)) (.ite (hu _) ?_)))
    have he := fun f (m : Mode) r c => Canonical.of_view (hu f) (enterMode_view (s.modMu f) m r false c false [] rfl)
    exact .ite (.of_view (he _ _ _ _) (startMode_view _ rfl)) (he _ _ _ _)

theorem frameBoundary_canonical {s : State} (hs : Canonical s) (rb : Nat) : Canonical (s.frameBoundary rb) := by
  have hswitched := autoSwitch_canonical (hs.of_view (applyConfig_view s rfl))
  unfold State.frameBoundary
  have hphase : ∀ t n, (State.phasePublish t n).view besideStores = t.view besideStores := fun t n => phasePublish_view t n rfl
  refine .ite hswitched (hswitched.of_view ?_)
  refine (canDrain_view (hid := besideStores) _ rfl).trans ((foldl_keep hphase rfl).trans ?_)
  have hm : Sub 0x7fefffeff besideStores := rfl
  simp (disch := exact Sub.of hm (by decide)) only [dioFrame_view, aoPublish_view, drainFifos_view, seqKick_view,
    hartRefresh_view, stApply_view, switchAtFrame_view, sendSupervision_view, sendStatus_view, flagSwap_view, pairFrame_view]

/-- At F a departing module drops its outputs and restarts, stops or saves; the other goes on alone (R278). -/
theorem departureF_canonical {s : State} (hs : Canonical s) (d : Departure) : Canonical (s.departureF d) := by
  unfold State.departureF
  extract_lets s1 s2 src s3 s4 s5
  have h1 : Canonical s1 := .of_same hs rfl rfl
  have h2 : Canonical s2 := .of_same h1 rfl rfl
  have h3 : Canonical s3 := by
    have hdropped : Canonical { s2 with ao := { s2.ao with dropped := true } } := .of_same h2 rfl rfl
    exact (hdropped.of_view (stopTasks_view _ rfl)).of_view (loopsStop_view _ rfl)
  have h4 : Canonical s4 := (h3.of_view (modPair_view s3 _ rfl)).of_view (excOff_view _ rfl)
  have h5 : Canonical s5 := .ite h4 (h4.of_view (enterRole_view s4 .none 7 rfl))
  refine .ite (.ite h2 ?_) ?_
  · split
    · exact h5.of_view (auto_view s5 .m11 .none 7 rfl)
    · exact restartNow_canonical h5
    · exact .ite (enterM0_canonical (h5.of_view (finalSave_view s5 true rfl))) (h5.of_view (beginSave_view s5 rfl))
  · exact (h1.of_view (modPair_view s1 _ rfl)).of_view (enterMode_view _ .m6 .solo false 7 false [] rfl)

theorem execWatchdogExpiry_canonical (dt : Nat) {s : State} (hs : Canonical s) : EndsCanonical (execWatchdogExpiry dt s) :=
  .next (.ite (elapse_canonical hs dt) (enterM0_canonical (elapse_canonical hs dt)))

theorem execFeedReturnDuringSave_canonical (dt feed : Nat) {s : State} (hs : Canonical s) :
    EndsCanonical (execFeedReturnDuringSave dt feed s) := by
  have he := elapse_canonical hs dt
  have hm0 := enterM0_canonical (he.of_view (finalSave_view _ true rfl))
  unfold execFeedReturnDuringSave
  exact .ite (.next he) (.ite (.next he) (.ite (.next (he.of_view (modSup_view _ _ rfl))) (.next (hm0.of_view (modSup_view _ _ rfl)))))

theorem execHoldupEnd_canonical (dt : Nat) {s : State} (hs : Canonical s) : EndsCanonical (execHoldupEnd dt s) := by
  have he := elapse_canonical hs dt
  unfold execHoldupEnd
  refine .ite (.next he) (.next (.of_view (enterM0_canonical ?_) (modSup_view _ _ rfl)))
  exact .ite (he.of_view (finalSave_view _ true rfl)) he

theorem execDepartureF_canonical (dt : Nat) {s : State} (hs : Canonical s) : EndsCanonical (execDepartureF dt s) := by
  have he := elapse_canonical hs dt
  unfold execDepartureF
  dsimp only
  split
  · exact .next he
  · exact .ite (.next he) (.next (departureF_canonical he _))

/-! ## Every row -/

/-- A row whose footprint holds neither store keeps both. -/
theorem exec_canonical_of_footprint {c : Instr} {s t : State} (hs : Canonical s) (h : exec c s = .next t)
    (hk : (footprint c).contains .keys = false) (hd : (footprint c).contains .dram = false) : Canonical t := by
  rw [List.contains_eq_mem, decide_eq_false_iff_not] at hk hd
  exact (elapse_canonical hs (ticksOf c)).of_same (exec_same h hk) (exec_same h hd).1

/-- Every command keeps the key store and the written memory in canonical form (R72, R306). -/
theorem exec_canonical {c : Instr} {s t : State} (hs : Canonical s) (h : exec c s = .next t) : Canonical t := by
  have he := fun dt => elapse_canonical hs dt
  cases c with
  | setKey dt p => exact execMail_canonical setKeyCmd_canonical _ dt p hs t h
  | mailboxForwardFrame dt l x => exact execMailboxForwardFrame_canonical dt l x hs t h
  | debugReadRegisters dt p n => exact execDebugReadRegisters_canonical dt p n hs t h
  | debugWriteRegister dt p r v => exact execDebugWriteRegister_canonical dt p r v hs t h
  | debugWriteMemory dt p a n addr l => exact execDebugWriteMemory_canonical dt p a n addr l hs t h
  | debugHalt dt p => exact execDebugHalt_canonical dt p hs t h
  | debugResume dt p => exact execDebugResume_canonical dt p hs t h
  | debugStep dt p l => exact execDebugStep_canonical dt p l hs t h
  | valueWriteApply dt n => exact EndsCanonical.next (.ite (applyWrites_canonical (he dt) n) (he dt)) t h
  | sliceLoad dt n => exact EndsCanonical.next (.ite (.ite (sliceLoad_canonical (he dt) n) (he dt)) (he dt)) t h
  | watchdogExpiry dt => exact execWatchdogExpiry_canonical dt hs t h
  | feedReturnDuringSave dt k => exact execFeedReturnDuringSave_canonical dt k hs t h
  | holdupEnd dt => exact execHoldupEnd_canonical dt hs t h
  | departureF dt => exact execDepartureF_canonical dt hs t h
  | ioBusFrameBoundary dt rb => exact EndsCanonical.next (.ite (frameBoundary_canonical (he dt) rb) (he dt)) t h
  | _ => exact exec_canonical_of_footprint hs h rfl rfl

/-- Every command keeps the invariant: it leaves the queue alone, and its ticks count whole seconds and their rest (R105). -/
theorem exec_inv {c : Instr} {s t : State} (hp : ∀ d ∈ s.pending, d.wf = true) (hs : Canonical s) (h : exec c s = .next t) :
    t.Inv := by
  obtain ⟨hkeys, hmemory⟩ := exec_canonical hs h
  obtain ⟨-, -, -, -, -, -, hticks⟩ := exec_name h
  exact ⟨exec_pending h ▸ hp, hticks ▸ elapse_opTicks_lt s _, hkeys, hmemory⟩

end Sys2Proof.Machine

open Sys2Proof Sys2Proof.Machine

/-- Settles O6: a step idles or is the front command on the queue's rest, and every command keeps the invariant. -/
theorem stepsKeepTheInvariant : Obligations.StepsKeepTheInvariant := by
  intro s t hs h
  obtain ⟨hpending, -, hkeys, hmemory⟩ := hs
  unfold step at h
  split at h
  · next hp =>
    cases h
    exact ⟨hpending, elapse_opTicks_lt s 1, hkeys, hmemory⟩
  · next c rest hp =>
    have hrest : ∀ d ∈ rest, d.wf = true := fun d hd => hpending d (hp ▸ List.mem_cons_of_mem c hd)
    exact exec_inv (s := { s with pending := rest }) hrest ⟨hkeys, hmemory⟩ h
end

section
/-!
PROOFS. EVENT_CLEAR and the occurrences around it (R113, R117).
-/
namespace Sys2Proof.Machine

/-- What EVENT_CLEAR leaves of an event source: its latch where the mask does not name it, or where it occurs at this very instant. -/
theorem tget_eventsCleared (m now : Nat) (src : Tab EventSrc) (k : Nat) :
    tget (clearSources m now (src.map Prod.fst) src) k {} = { tget src k {} with
      latch := (tget src k {}).latch && (!bit m k || (tget src k {}).time == now) } := by
  rw [tget_clearListed]
  cases hm : bit m k with
  | true => rfl
  | false => simp

/-- The state after a clear of the events in a mask (R117). -/
def State.eventsCleared (u : State) (m : Nat) : State := u.withSources (clearSources m u.now (u.ev.src.map Prod.fst) u.ev.src)

theorem eventClear_okRep (r : Req) (u : State) : eventClearCmd.run r u = okRep (u.eventsCleared (leNat r.body)) := eventClear_run r u

/-- An answer OK changes no part of the module. -/
theorem answered_okRep_same {r : Req} {u : State} (ht : r.target ≠ 1) (hc : u.mbx.restarting = none) (key : Option (List Byte))
    (sid : U32) (body : List Byte) (q : Part) : Part.same u (answered r key sid (okRep u body)) q := by
  unfold answered okRep
  simp only [id]
  rw [respond_eq _ ht hc]
  exact same_of_service rfl rfl ⟨rfl, rfl⟩ ⟨rfl, rfl⟩ q

/-- Neither the note a session takes, nor the mailbox's latch, nor the event sources are of a part. -/
theorem same_eventsCleared {e t : State} {p : Packet} {x : Session} {m : Nat} {q : Part}
    (h : Part.same ((runsIn e p x).eventsCleared m) t q) : Part.same e t q := by
  cases q <;> exact h

/-- An accepted EVENT_CLEAR answers OK, clears the latches it names, and changes nothing else (R117). -/
theorem eventClear_changes {dt : Nat} {p : Packet} {x : Session} {s : State} (h : Accepted eventClearCmd (s.elapse dt) p x) :
    ∃ t, exec (.eventClear dt p) s = .next t ∧ Answers t p x s.mode s.role .ok 0 [] ∧
      t.ev = ((s.elapse dt).eventsCleared (leNat (reqOf p).body)).ev ∧ t.arch = s.arch ∧ ∀ q, Part.same (s.elapse dt) t q := by
  have hcur : ((runsIn (s.elapse dt) p x).eventsCleared (leNat (reqOf p).body)).mbx.restarting = none :=
    (heard_runs h.toHeard : (s.elapse dt).mbx.restarting = none)
  refine ⟨_, mail_ok h (codeIs_of h.code) (eventClear_okRep _ _) (.inl rfl) rfl, ?_, ?_, ?_, fun q => ?_⟩
  · exact answered_okRep_out h.here hcur rfl _ _ _
  · exact answered_okRep_ev h.here hcur _ _ _
  · exact (congrArg State.arch (respond_eq _ h.here hcur _ _ _ _ _) :)
  · exact same_eventsCleared (answered_okRep_same h.here hcur _ _ _ q)

/-- An occurrence of an event that is not masked sets its latch (R113). -/
theorem raise_latches {u : State} {k : Nat} (d : List (Nat × Nat)) (hp : u.eventPresent k = true)
    (hm : u.eventBit 0x0160 k = false) : (tget (u.raise k d).ev.src k {}).latch = true := by
  rw [raise_src, if_pos hp, tget_tmod, if_pos rfl, hm]
  exact Bool.or_true _

theorem arpProbe_ev (s : State) (p : Nat) : (s.arpProbe p).ev = s.ev := by
  unfold State.arpProbe
  dsimp only
  split <;> rfl

/-- The service port's link as it changes (R432). -/
def State.serviceLink (e : State) (up : Bool) : State := e.modPort 2 (fun q => { q with link := up, conflict := up && q.conflict })

/-- A change of the service port's link raises EV203, and a probe of its address that follows touches no event. -/
theorem execServicePortLink_raises {dt : Nat} {up : Bool} {s : State} (h0 : s.mode ≠ .m0) (hi : s.ifcOn 2 = true)
    (hl : ((s.elapse dt).port 2).link = !up) :
    ∃ t, exec (.servicePortLink dt up) s = .next t ∧ t.ev = (((s.elapse dt).serviceLink up).raise 203 [(1, b2n up)]).ev := by
  have hgoes : ¬((s.mode == .m0 || !s.ifcOn 2 || ((s.elapse dt).port 2).link == up) = true) := by
    rw [hi, hl]
    cases up <;> simp [h0]
  refine ⟨_, if_neg hgoes, ?_⟩
  split
  · exact arpProbe_ev _ _
  · rfl

end Sys2Proof.Machine

open Sys2Proof Sys2Proof.Machine

/-- Settles O56: a clear reaches every listed source and no part, and an occurrence that is not masked latches. -/
theorem eventClear : Obligations.EventClear := by
  refine ⟨?_, ?_, fun k d u => raise_latches d⟩
  · rintro dt p x s e rfl h
    obtain ⟨t, ht, hans, hev, harch, hsame⟩ := eventClear_changes h
    exact ⟨t, ht, hans, fun k => hev ▸ tget_eventsCleared _ _ _ k, by rw [hev]; rfl, harch, hsame⟩
  · rintro dt up s e rfl h0 hi hl hm
    obtain ⟨t, ht, hev⟩ := execServicePortLink_raises (s := s) (dt := dt) h0 hi hl
    refine ⟨t, ht, ?_⟩
    rw [hev]
    exact raise_latches _ rfl hm
end

section
/-!
PROOFS. The Archive's and the trend store's rows (R109–R111, R498–R500).
-/
namespace Sys2Proof.Machine

section
variable {s t : State} (h : t.arch = s.arch)
include h

theorem archOldest_congr : t.archOldest = s.archOldest := by
  unfold State.archOldest
  rw [h]

theorem archFind_congr (k : Nat) : t.archFind k = s.archFind k := by
  unfold State.archFind State.tailRec
  rw [archOldest_congr h, h]

/-- What an ARCHIVE_READ collects depends on the Archive alone (R499). -/
theorem archScan_congr (want n : Nat) (a : ArchScan) : t.archScan want n a = s.archScan want n a := by
  induction n generalizing a with
  | zero => rfl
  | succ n ih => simp only [State.archScan, ih, archFind_congr h, archOldest_congr h, h]

end

theorem archiveRead_run {r : Req} {u e : State} (h : u.arch = e.arch) : archiveReadCmd.run r u =
    let a := e.archScan (beAt r.body 8 2) (e.arch.flashed + 2 - beAt r.body 0 8) ⟨[], false, false, beAt r.body 0 8⟩
    okRep u (beBytes 2 a.recs.length ++
      beBytes 2 (b2n a.gap + 2 * b2n (decide (e.arch.flashed < a.next)) + 4 * b2n a.skipped) ++ beBytes 4 0 ++
      beBytes 8 e.archOldest ++ (a.recs.map ArchRec.image).flatten) := by
  simp only [archiveReadCmd, Cmd.plain, archScan_congr h, archOldest_congr h, h]

theorem archUnhold_none {s : State} (h : s.arch.held = []) : s.archUnhold = s := by
  unfold State.archUnhold
  rw [h]
  rfl

theorem archTellLost_none {s : State} (h : s.arch.lostPending = 0) : s.archTellLost = s := if_pos (.inl h)

/-- The Archive once its first staged record stands on flash, in its tail slot, and in its head slot while the head lasts (R489). -/
def Archive.written (a : Archive) (r : ArchRec) (l : List ArchRec) : Archive := { a with
  stage := l
  tail := tset a.tail ((r.seq - 1) % 1048576) none (some r)
  head := if r.seq ≤ 65536 then tset a.head (r.seq - 1) none (some r) else a.head
  flashed := r.seq }

theorem Archive.written_tail (a : Archive) (r : ArchRec) (l : List ArchRec) :
    tget (a.written r l).tail ((r.seq - 1) % 1048576) none = some r := by
  unfold Archive.written
  rw [tget_tset_self]

theorem Archive.written_head (a : Archive) {r : ArchRec} (l : List ArchRec) (h : r.seq ≤ 65536) :
    tget (a.written r l).head (r.seq - 1) none = some r := by
  unfold Archive.written
  rw [if_pos h, tget_tset_self]

/-- The writer puts the first staged record on flash once its signature window is released (R297, R498). Where its position does not
return to slot 0 (R489) no event follows, and with no trigger held and none lost (R493) no other record is staged. -/
theorem archFlush_first {u : State} {r : ArchRec} {l : List ArchRec} (hst : u.arch.stage = r :: l) (hheld : u.arch.held = [])
    (hlost : u.arch.lostPending = 0) (hw : r.seq < (tget u.lk.window 15 {}).firstSeq)
    (hseq : (r.seq - 1) % 1048576 ≠ 0 ∨ r.seq = 1) :
    (u.archFlush 1).archUnhold.archTellLost = { u with arch := u.arch.written r l } := by
  have hk : ¬((r.seq - 1) % 1048576 = 0 ∧ r.seq ≠ 1) := by tauto
  have hflush : u.archFlush 1 = { u with arch := u.arch.written r l } := by
    simp only [State.archFlush, hst, if_neg (Nat.not_le.mpr hw), State.archPut, if_neg hk]
    rfl
  rw [hflush]
  have hunheld := archUnhold_none (s := { u with arch := u.arch.written r l }) hheld
  exact (congrArg State.archTellLost hunheld).trans (archTellLost_none hlost)

/-! ## The trend store -/

/-- A record joins the circular store, and EV238 touches nothing of it (R110). -/
theorem trendPut_trend (s : State) (r : TrendRec) : (s.trendPut r).trend = { s.trend with
    recs := (s.trend.recs ++ [r]).drop (s.trend.recs.length + 1 - s.trendCap), written := s.trend.written + 1 } := by
  unfold State.trendPut
  simp only [List.length_append, List.length_singleton]
  split
  · exact raise_trend _ _ _
  · rfl

/-- The record of channel `c`'s sample (R110). -/
def State.trendRec (e : State) (c : Nat) : TrendRec :=
  ⟨e.gridInstant (fld (e.entry 0x000E c) 8 0 32 * 1000000), c, (tget e.trend.last c none).isNone,
    (e.trendValue (e.entry 0x000E c)).1 % 2 ^ 32⟩

/-- The first sample of a channel, and every sample in RecordMode 0, is recorded (R109). -/
theorem trendSample_records {e : State} {c : Nat}
    (h : tget e.trend.last c none = none ∨ fld (e.entry 0x000E c) 1 0 8 = 0) :
    (e.trendSample c).trend = { e.trend with
      recs := (e.trend.recs ++ [e.trendRec c]).drop (e.trend.recs.length + 1 - e.trendCap)
      written := e.trend.written + 1
      last := tset e.trend.last c none (some (e.trendValue (e.entry 0x000E c)).2) } := by
  unfold State.trendSample
  refine (congrArg State.trend (if_neg ?_)).trans ?_
  · rcases h with hn | hm
    · simp only [hn, Bool.not_true, Bool.false_eq_true, not_false_eq_true]
    · cases tget e.trend.last c none <;> simp [hm]
  · simp only [trendPut_trend]
    rfl

/-- In RecordMode 1 a sample within Deadband of the last that was recorded changes nothing (R109). -/
theorem trendSample_inDeadband {e : State} {c y : Nat} (hy : tget e.trend.last c none = some y) (hm : fld (e.entry 0x000E c) 1 0 8 ≠ 0)
    (hd : flt fmt64 (f32to64 (fld (e.entry 0x000E c) 0x0C 0 32))
      (fabs fmt64 (fsub fmt64 (e.trendValue (e.entry 0x000E c)).2 y)) = false) : e.trendSample c = e := by
  have hm' : (fld (e.entry 0x000E c) 1 0 8 == 0) = false := beq_false_of_ne hm
  unfold State.trendSample
  simp only [hy, hm', hd, Bool.or_self, Bool.not_false, if_true]

/-- A sample due is taken (R109). -/
theorem exec_trendSample {dt c : Nat} {s : State} (hc : c < 256) (ht : (s.elapse dt).trending = true)
    (hs : fld ((s.elapse dt).entry 0x000E c) 0 0 8 ≠ 0)
    (hg : (s.elapse dt).onGrid (fld ((s.elapse dt).entry 0x000E c) 8 0 32 * 1000000) = true) :
    exec (.trendSample dt c) s = .next ((s.elapse dt).trendSample c) := by
  have hs' : (fld ((s.elapse dt).entry 0x000E c) 0 0 8 == 0) = false := beq_false_of_ne hs
  have hdue : ¬((!(s.elapse dt).trending || fld ((s.elapse dt).entry 0x000E c) 0 0 8 == 0 ||
      !(s.elapse dt).onGrid (fld ((s.elapse dt).entry 0x000E c) 8 0 32 * 1000000)) = true) := by
    rw [ht, hs', hg]
    exact Bool.false_ne_true
  exact (if_neg (Nat.not_le.mpr hc)).trans (if_neg hdue)

end Sys2Proof.Machine

open Sys2Proof Sys2Proof.Machine

/-- Settles O26: a read depends on its store alone, the writer takes the first staged record, and a sample is recorded or changes
nothing. -/
theorem storeRowsComplete : Obligations.StoreRowsComplete := by
  refine ⟨?_, ?_, ?_, ?_⟩
  · rintro dt p x s e rfl h
    obtain ⟨t, ht, hans⟩ := mail_reads h (codeIs_of h.code) (archiveRead_run (e := s.elapse dt) rfl)
    exact ⟨t, _, ht, rfl, hans⟩
  · rintro dt p x s e rfl h
    obtain ⟨t, ht, hans⟩ := mail_reads h (codeIs_of h.code) rfl
    exact ⟨t, _, ht, rfl, hans⟩
  · rintro dt r l s e rfl h0 hst hheld hlost hw hseq
    refine ⟨_, congrArg Host.Outcome.next ((if_neg h0).trans (archFlush_first hst hheld hlost hw hseq)), rfl, rfl, ?_, fun hhead => ?_⟩
    · exact Archive.written_tail _ r l
    · exact Archive.written_head _ l hhead
  · rintro dt c s e rfl hc ht hs hg
    refine ⟨_, exec_trendSample hc ht hs hg, fun h => ?_, fun y hy hm hd => trendSample_inDeadband hy hm hd⟩
    rw [trendSample_records h]
    exact ⟨rfl, rfl⟩
end

section
/-!
PROOFS. Programs, values and forces (R150–R160, R551): what the rows that load, switch and change them leave.
-/
namespace Sys2Proof.Machine

/-- A fold of steps each of which leaves a reading of the state alone leaves it alone. -/
theorem foldl_reading {α β : Type} {l : List α} {f : State → α → State} (g : State → β) (hf : ∀ t a, g (f t a) = g t)
    (s : State) : g (l.foldl f s) = g s := by
  induction l generalizing s with
  | nil => rfl
  | cons a l ih => exact (ih (f s a)).trans (hf s a)

/-! ## PROGRAM_LOAD (R157) -/

@[simp] theorem progSlot_modProg_self (s : State) (k : Nat) (f : ProgSlot → ProgSlot) :
    (s.modProg k f).progSlot k = f (s.progSlot k) := by
  unfold State.modProg State.progSlot
  split <;> rfl

theorem progSlot_modProg_other {s : State} {k : Nat} (hk : k ≤ 1) (f : ProgSlot → ProgSlot) :
    (s.modProg k f).progSlot (1 - k) = s.progSlot (1 - k) := by
  obtain rfl | rfl : k = 0 ∨ k = 1 := by omega
  · rfl
  · rfl

theorem loadSlot_le (s : State) : s.loadSlot ≤ 1 := by
  unfold State.loadSlot
  split <;> omega

/-- The slot that is not running holds the bytes `b`, of an image that begins afresh or goes on. -/
def State.loadProgram (s : State) (b : List Byte) (afresh : Bool) : State :=
  let t := s.modProg s.loadSlot (fun p => { p with
    bytes := b, complete := decide (128 ≤ b.length) && leAt b 8 4 == b.length, patches := if afresh then [] else p.patches })
  { t with tk := { t.tk with loadNext := some b.length } }

theorem loadProgram_slot (s : State) (b : List Byte) (afresh : Bool) :
    (s.loadProgram b afresh).progSlot s.loadSlot = { s.progSlot s.loadSlot with
      bytes := b, complete := decide (128 ≤ b.length) && leAt b 8 4 == b.length
      patches := if afresh then [] else (s.progSlot s.loadSlot).patches } :=
  progSlot_modProg_self s s.loadSlot _

theorem loadProgram_other (s : State) (b : List Byte) (afresh : Bool) :
    (s.loadProgram b afresh).progSlot (1 - s.loadSlot) = s.progSlot (1 - s.loadSlot) :=
  progSlot_modProg_other (loadSlot_le s) _

theorem loadProgram_mbx (s : State) (b : List Byte) (afresh : Bool) : (s.loadProgram b afresh).mbx = s.mbx := by
  unfold State.loadProgram State.modProg
  dsimp only
  split <;> rfl

theorem loadProgram_mu (s : State) (b : List Byte) (afresh : Bool) : (s.loadProgram b afresh).mu = s.mu := by
  unfold State.loadProgram State.modProg
  dsimp only
  split <;> rfl

theorem loadProgram_out (s : State) (b : List Byte) (afresh : Bool) : (s.loadProgram b afresh).out = s.out := by
  unfold State.loadProgram State.modProg
  dsimp only
  split <;> rfl

/-- A block at offset 0 begins the image, and one at the offset that is next goes on with it, as far as the image's length allows. -/
theorem programLoad_run {r : Req} {u : State} {b : List Byte}
    (hb : (r.arg = 0 ∧ b = r.body) ∨ (r.arg ≠ 0 ∧ u.tk.loadNext = some r.arg ∧ b = (u.progSlot u.loadSlot).bytes ++ r.body))
    (hroom : ¬ (128 ≤ b.length ∧ leAt b 8 4 < b.length)) :
    programLoadCmd.run r u = okRep (u.loadProgram b (decide (r.arg = 0))) := by
  rcases hb with ⟨ha, rfl⟩ | ⟨ha, hn, rfl⟩
  · simp only [programLoadCmd, Cmd.plain, ha, decide_true, Bool.not_true, Bool.false_eq_true, false_and, if_true, if_false,
      List.nil_append, hroom]
    rfl
  · simp only [programLoadCmd, Cmd.plain, ha, hn, decide_false, Bool.not_false, ne_eq, not_true_eq_false, and_false, if_false,
      hroom]
    rfl

theorem programLoad_answers {dt : Nat} {p : Packet} {x : Session} {b : List Byte} {s : State}
    (h : Accepted programLoadCmd (s.elapse dt) p x)
    (hb : ((reqOf p).arg = 0 ∧ b = (reqOf p).body) ∨
      ((reqOf p).arg ≠ 0 ∧ s.tk.loadNext = some (reqOf p).arg ∧ b = (s.progSlot s.loadSlot).bytes ++ (reqOf p).body))
    (hroom : ¬ (128 ≤ b.length ∧ leAt b 8 4 < b.length)) :
    ∃ t, exec (.programLoad dt p) s = .next t ∧ (t.progSlot s.loadSlot).bytes = b ∧ t.tk.loadNext = some b.length ∧
      (t.progSlot s.loadSlot).complete = (decide (128 ≤ b.length) && leAt b 8 4 == b.length) ∧
      t.progSlot (1 - s.loadSlot) = s.progSlot (1 - s.loadSlot) ∧ Answers t p x s.mode s.role .ok 0 [] := by
  obtain ⟨t, ht, hbody, hans⟩ := mail_okRep h (codeIs_of h.code) (programLoad_run (u := runsIn (s.elapse dt) p x) hb hroom)
    (congrArg Mbx.restarting (loadProgram_mbx (runsIn (s.elapse dt) p x) b _) :) (loadProgram_out _ _ _)
  have hslot := (congrArg (fun v => State.progSlot v s.loadSlot) hbody :).trans (loadProgram_slot (runsIn (s.elapse dt) p x) b _)
  refine ⟨t, ht, (congrArg ProgSlot.bytes hslot :), (congrArg (fun v => v.tk.loadNext) hbody :),
    (congrArg ProgSlot.complete hslot :),
    (congrArg (fun v => State.progSlot v (1 - s.loadSlot)) hbody :).trans (loadProgram_other (runsIn (s.elapse dt) p x) b _), ?_⟩
  have hm : ((runsIn (s.elapse dt) p x).loadProgram b (decide ((reqOf p).arg = 0))).mu = s.mu := loadProgram_mu _ _ _
  unfold State.mode State.role at hans ⊢
  rwa [hm] at hans

/-! ## PROGRAM_SWITCH (R158–R160) -/

theorem notify_async (s : State) (id : U32) (a b : Nat) (l : List Byte) : (s.notify id a b l).mbx.async = s.mbx.async :=
  (kept (m := 0) (fun _ _ => notify_view s id a b l) .ops (by decide)).1

theorem archMandatory_async (s : State) (a b c d : Nat) (l : List Byte) (f : Nat) :
    (s.archMandatory a b c d l f).mbx.async = s.mbx.async :=
  (kept (m := 0) (fun _ _ => archMandatory_view s a b c d l f) .ops (by decide)).1

/-- An operation that has completed no longer runs (R81). -/
theorem complete_async (s : State) (id : Nat) (st : Status) (l : List Byte) :
    (s.complete id st l).mbx.async = s.mbx.async.filter (·.id != id) := by
  unfold State.complete
  split
  · next h =>
    refine (List.filter_eq_self.mpr fun o ho => ?_).symm
    simpa using List.find?_eq_none.mp h o ho
  · dsimp only
    split
    · exact archMandatory_async _ _ _ _ _ _ _
    · split
      · split
        · exact notify_async _ _ _ _ _
        · rfl
      · rfl

theorem completeOpt_ends (s : State) {id : Option Nat} {op : Nat} (h : id = some op) (st : Status) (l : List Byte) :
    (s.completeOpt id st l).mbx.async.find? (·.id == op) = none := by
  subst h
  refine (congrArg _ (complete_async s op st l)).trans (List.find?_eq_none.mpr fun o ho => ?_)
  simpa using (List.mem_filter.mp ho).2

theorem programSwitch_answers {dt : Nat} {p : Packet} {x : Session} {s : State} (h : Accepted programSwitchCmd (s.elapse dt) p x) :
    ∃ t, exec (.programSwitch dt p) s = .next t ∧
      t.tk = { s.tk with switch := some ⟨beAt (reqOf p).body 0 1, beAt (reqOf p).body 1 1 == 1, some s.mbx.nextOp,
        if s.mode = .m8 then frameAtOrAfter ((s.elapse dt).now + s.eff 0x0109 * 1000) else frameAfter (s.elapse dt).now, none, none⟩ } ∧
      Answers t p x s.mode s.role .accepted 0 [] := by
  have hc : (runsIn (s.elapse dt) p x).mbx.restarting = none := (heard_runs h.toHeard : (s.elapse dt).mbx.restarting = none)
  let rep := programSwitchCmd.run (reqOf p) (runsIn (s.elapse dt) p x)
  refine ⟨_, mail_ok h (codeIs_of h.code) rfl (.inr rfl) rfl, ?_, ?_⟩
  · exact (congrArg State.tk (respond_body rep.st h.here hc (some x.key) x.id .accepted 0 []) :)
  · exact respond_out rep.st h.here hc (some x.key) x.id .accepted 0 []

section
variable {dt : Nat} {w : ProgSwitch} {s : State} (hw : s.tk.switch = some w) (h8 : s.mode = .m8) (hd : w.at_ ≤ (s.elapse dt).now)
include hw h8 hd

/-- At its boundary a switch that passes its check begins the gap (R160). -/
theorem programSwitchGap_begins (hn : w.since = none) (hp : s.switchRefused w = none) :
    exec (.programSwitchGap dt) s =
      .next { s.elapse dt with tk := { s.tk with switch := some { w with since := some (s.elapse dt).tick } } } := by
  have hpass : (s.elapse dt).switchRefused w = none := hp
  show execProgramSwitchGap dt s = _
  simp only [execProgramSwitchGap, elapse_tk, elapse_mode, hw, h8, not_true_eq_false, ne_eq, false_or, Nat.not_lt.mpr hd, if_false, hn,
    hpass]

/-- At its boundary a switch that fails its check ends (R123, R159). -/
theorem programSwitchGap_fails {st : Status} {k : Nat} (hn : w.since = none) (hf : s.switchRefused w = some (st, k)) :
    exec (.programSwitchGap dt) s = .next ((s.elapse dt).switchFails w st k) := by
  have hfail : (s.elapse dt).switchRefused w = some (st, k) := hf
  show execProgramSwitchGap dt s = _
  simp only [execProgramSwitchGap, elapse_tk, elapse_mode, hw, h8, not_true_eq_false, ne_eq, false_or, Nat.not_lt.mpr hd, if_false, hn,
    hfail]

/-- With no cycle open the mapped bytes are copied, and then the new program runs (R160). -/
theorem programSwitchGap_copies {since : Nat} (hg : w.since = some since) (hc : ∀ n < 32, s.cyc n = none) :
    exec (.programSwitchGap dt) s =
      .next (if (s.elapse dt).since (w.copying.getD (s.elapse dt).tick) (s.mappedBytes w / 32) then
        (s.elapse dt).switchDone w (((s.elapse dt).tick - since) / Config.ticksPerUs)
      else { s.elapse dt with tk := { s.tk with switch := some { w with copying := some (w.copying.getD (s.elapse dt).tick) } } }) := by
  have hidle : (List.range 32).any (fun n => ((s.elapse dt).cyc n).isSome) = false := by
    refine List.any_eq_false.mpr fun n hn => ?_
    rw [show (s.elapse dt).cyc n = none from hc n (List.mem_range.mp hn)]
    exact Bool.false_ne_true
  show execProgramSwitchGap dt s = _
  simp only [execProgramSwitchGap, elapse_tk, elapse_mode, hw, h8, not_true_eq_false, ne_eq, false_or, Nat.not_lt.mpr hd, if_false, hg,
    hidle, Bool.false_eq_true]
  exact (apply_ite Host.Outcome.next _ _ _).symm

end

/-! ## The new program (R159, R160) -/

theorem writeArea_program (s : State) (n off : Nat) (b : List Byte) : Part.same s (s.writeArea n off b) .program :=
  kept (fun _ hm => writeArea_view s n off b hm) .program (by decide)

theorem withPts_view {hid : Nat} (s : State) (l : PImage) (hm : Sub 0x2000 hid) :
    ({ s with pts := l } : State).view hid = s.view hid := by
  simp (disch := first | exact hide_on (hm.of (by decide)) | with_reducible rfl) only [view_lit]

/-- The program `p` in the slot `slot` is the one that runs. -/
def State.runningIn (s : State) (slot : Nat) (p : Program) : State := { s with tk := { s.tk with prog := p, active := slot } }

/-- A program that starts in a slot is the one that runs. -/
theorem startProgram_program (s : State) (slot : Nat) (p : Program) :
    Part.same (s.runningIn slot p) (s.startProgram slot p) .program := by
  refine kept (m := 0x122000) (fun hid hm => ?_) .program (by decide)
  have htask : Sub 0x20000 hid := hm.of (by decide)
  unfold State.startProgram
  dsimp only
  refine foldl_keep (fun t n => (modTask_view _ n _ htask).trans (modTask_view t n _ htask)) ?_
  refine (bindLoops_view _ (hm.of (by decide))).trans ?_
  exact withPts_view (s.runningIn slot p) _ (hm.of (by decide))

/-- When the copy is over the new program runs in its slot, and the switch and a load under way are gone (R157, R160). -/
theorem switchDone_runs {s : State} (w : ProgSwitch) (gap : Nat) (h8 : s.mode = .m8) :
    (s.switchDone w gap).tk.switch = none ∧ (s.switchDone w gap).tk.active = w.slot ∧ (s.switchDone w gap).tk.loadNext = none ∧
      (s.switchDone w gap).tk.prog = parseProgram (s.progSlot w.slot).bytes ∧
      (s.switchDone w gap).tk.switches = s.tk.switches + 1 ∧ (s.switchDone w gap).tk.gap = gap := by
  unfold State.switchDone
  extract_lets b old new m vals dropped u v _ z e
  have hu := startProgram_program s w.slot new
  have hmode : v.mode = .m8 := by
    refine (foldl_reading State.mode (fun t a => ?_) u).trans ?_
    · exact congrArg ModeUnit.mode (kept (fun _ hm => writeArea_view t _ _ _ hm) .mu (by decide) :)
    · exact (congrArg ModeUnit.mode (kept (fun _ hm => startProgram_view s _ _ hm) .mu (by decide) :)).trans h8
  have hv : Part.same u v .program := by
    refine view_same (hid := 0x60000) ?_ .program (by decide)
    exact foldl_keep (fun t a => writeArea_view t _ _ _ rfl) rfl
  obtain ⟨-, -, hactive, hprog, -, -, hswitches, -⟩ := hu
  obtain ⟨-, -, hvactive, hvprog, -, -, hvswitches, -⟩ := hv
  rw [completeOpt_tk, show e.tk = z.tk from raise_tk _ _ _]
  exact ⟨rfl, hvactive.trans hactive, rfl, hvprog.trans hprog, congrArg (· + 1) (hvswitches.trans hswitches), if_pos hmode⟩


/-! ## VALUE_WRITE (R154) -/

theorem valueWrite_queues {dt : Nat} {p : Packet} {x : Session} {s : State} (h : Accepted valueWriteCmd (s.elapse dt) p x) :
    ∃ t, exec (.valueWrite dt p) s = .next t ∧
      t.task (beAt (reqOf p).body 0 1) = { s.task (beAt (reqOf p).body 0 1) with
        writes := (s.task (beAt (reqOf p).body 0 1)).writes ++
          [⟨vwEntries (reqOf p).body, some s.mbx.nextOp, x.id, (reqOf p).body, 0⟩] } ∧
      (∀ n, n ≠ beAt (reqOf p).body 0 1 → t.task n = s.task n) ∧ Answers t p x s.mode s.role .accepted 0 [] := by
  obtain ⟨v, hv, hbody, -, hans⟩ := mail_runAsync (apply := fun op b sid s => s.queueValues op b sid 0) h (codeIs_of h.code) rfl
  have htask : ∀ n, v.task n = s.task n := fun n => (congrArg (fun t => State.task t n) hbody :)
  refine ⟨_, hv, ?_, fun n hn => ?_, hans⟩
  · exact (modTask_task_self v _ _).trans (by rw [htask])
  · exact (modTask_task_ne v _ _ hn).trans (htask n)

/-! ## VALUE_WRITE_APPLY (R155, R156) -/

/-- A write of the state area sets its bytes, and the sum of the retained part follows (R140, R266). -/
theorem writeArea_task (s : State) (n off : Nat) (b : List Byte) :
    ∃ h, (s.writeArea n off b).task n = { s.task n with area := areaPut (s.task n).area off b, hash := h } := by
  unfold State.writeArea
  extract_lets lines kept before t after u gs
  have ht : t.task n = { s.task n with area := areaPut (s.task n).area off b } := modTask_task_self s n _
  have hu : u.task n = { t.task n with hash := (t.task n).hash - before + after } := modTask_task_self t n _
  rw [ht] at hu
  exact ⟨_, hu⟩

theorem archCommand_ev (s : State) (a b c : Nat) (l : List Byte) : (s.archCommand a b c l).ev = s.ev := by
  have hparts : ∀ (n k : Nat) (t : State), (t.archParts a 3 b c l n k).ev = t.ev := by
    intro n
    induction n with
    | zero => exact fun _ _ => rfl
    | succ n ih => exact fun k t => (ih _ _).trans rfl
  unfold State.archCommand
  exact hparts _ _ _

section
variable {s : State} {n y len v : Nat} {q : Sym} (hq : s.tk.prog.syms[y]? = some q)
include hq

/-- The value of a symbol that is no constant goes to its task's state area (R155). -/
theorem applyValue_area (hc : bit q.flags 1 = false) :
    s.applyValue n y len v = s.writeArea n q.offset (if q.type = 12 then beBytes len v else leBytes len v) := by
  unfold State.applyValue
  rw [hq]
  simp only [hc, Bool.false_eq_true, if_false]

/-- The value of a constant goes to the patches of the running slot (R156). -/
theorem applyValue_patch (hc : bit q.flags 1 = true) :
    s.applyValue n y len v =
      s.patchSlot (fun p => { p with patches := (p.patches.filter (fun q => q.1 != y)) ++ [(y, v)] }) := by
  unfold State.applyValue
  rw [hq]
  simp only [hc, if_true]

end

theorem patchSlot_slot {s : State} (ha : s.tk.active ≤ 1) (f : ProgSlot → ProgSlot) :
    (s.patchSlot f).progSlot s.tk.active = f (s.progSlot s.tk.active) := by
  unfold State.patchSlot State.progSlot
  obtain h | h : s.tk.active = 0 ∨ s.tk.active = 1 := by omega
  · simp only [h, if_true]
  · simp only [h, if_true, one_ne_zero, if_false]

theorem patchSlot_task (s : State) (f : ProgSlot → ProgSlot) (n : Nat) : (s.patchSlot f).task n = s.task n := by
  unfold State.patchSlot
  split
  · rfl
  · split <;> rfl

/-- What an applied value leaves alone: program and counters beside the patches, event sources, time and identity, and of its task all
but the state area and its sum. -/
structure ValueApplied (n : Nat) (s t : State) : Prop where
  changes : t.tk.changes = s.tk.changes
  ev : t.ev = s.ev
  lk : t.lk = s.lk
  clk : t.clk = s.clk
  active : t.tk.active = s.tk.active
  task : ∃ a h, t.task n = { s.task n with area := a, hash := h }

theorem writeArea_applied (s : State) (n off : Nat) (b : List Byte) : ValueApplied n s (s.writeArea n off b) := by
  obtain ⟨h, ht⟩ := writeArea_task s n off b
  obtain ⟨-, -, hactive, -, -, -, -, hchanges⟩ := writeArea_program s n off b
  have hclk : (s.writeArea n off b).clk = s.clk := kept (fun _ hm => writeArea_view s n off b hm) .clk (by decide)
  have hrest : (s.writeArea n off b).ev = s.ev ∧ (s.writeArea n off b).lk = s.lk := by
    unfold State.writeArea
    extract_lets lines kept before t after u gs
    have ht : t.ev = s.ev ∧ t.lk = s.lk := ⟨modTask_ev s n _, modTask_lk s n _⟩
    have hu : u.ev = t.ev ∧ u.lk = t.lk := ⟨modTask_ev t n _, modTask_lk t n _⟩
    exact ⟨hu.1.trans ht.1, hu.2.trans ht.2⟩
  exact ⟨hchanges, hrest.1, hrest.2, hclk, hactive, _, h, ht⟩

theorem applyValue_applied (s : State) (n y len v : Nat) : ValueApplied n s (s.applyValue n y len v) := by
  have hsame : ∃ a h, s.task n = { s.task n with area := a, hash := h } := ⟨_, _, rfl⟩
  unfold State.applyValue
  split
  · exact ⟨rfl, rfl, rfl, rfl, rfl, hsame⟩
  · split
    · unfold State.patchSlot
      split
      · exact ⟨rfl, rfl, rfl, rfl, rfl, hsame⟩
      · split <;> exact ⟨rfl, rfl, rfl, rfl, rfl, hsame⟩
    · exact writeArea_applied s n _ _

/-- One VALUE_WRITE applied, effective with the cycle `osn` (R155). -/
def State.applyWrite (s : State) (n osn : Nat) (w : ValueWrite) : State :=
  let t := w.entries.foldl (fun s (y, l, v) => s.applyValue n y l v) s
  let t := { t with tk := { t.tk with changes := t.tk.changes + w.entries.length } }
  let t := t.raise 18 [(1, n), (4, osn), (2, w.entries.length)]
  let t := t.archCommand 0 0x0042 w.session.toNat w.body
  t.completeOpt w.op .ok (beBytes 4 osn)

theorem applyWrite_lk (s : State) (n osn : Nat) (w : ValueWrite) : (s.applyWrite n osn w).lk = s.lk :=
  have hvalues := foldl_reading (l := w.entries) (f := fun s (y, l, v) => s.applyValue n y l v) State.lk
    (fun t e => (applyValue_applied t n e.1 e.2.1 e.2.2).lk) s
  (completeOpt_lk ..).trans ((archCommand_lk ..).trans ((raise_lk ..).trans hvalues))

section
variable {n osn y len v : Nat} {w : ValueWrite} (he : w.entries = [(y, len, v)])
include he

/-- A VALUE_WRITE of one value is its change and one online change more. -/
theorem applyWrite_tk (s : State) : (s.applyWrite n osn w).tk =
    { (s.applyValue n y len v).tk with changes := (s.applyValue n y len v).tk.changes + 1 } := by
  unfold State.applyWrite
  rw [he, completeOpt_tk, archCommand_tk, raise_tk]
  rfl

theorem applyWrite_occurs {e s : State} (hev : s.ev = e.ev) (hnow : s.now = e.now) :
    Occurs e (s.applyWrite n osn w) 18 [(1, n), (4, osn), (2, 1)] := by
  have h := applyValue_applied s n y len v
  unfold State.applyWrite
  rw [he]
  refine occurs_raise ((completeOpt_ev ..).trans (congrArg Events.src (archCommand_ev ..))) rfl ?_ ?_
  · exact congrArg (fun k => tget k.src 18 {}) (h.ev.trans hev)
  · exact (congrArg Clk.tb h.clk).trans hnow

end

/-- The debugger's writes that wait for the task are applied (R309). -/
def State.debugWrites (s : State) (n : Nat) : State :=
  (s.lk.writes.filter (fun w => w.task == n)).foldl (fun s w => s.writeArea n w.addr w.bytes)
    { s with lk := { s.lk with writes := s.lk.writes.filter (fun w => w.task != n) } }

/-- Between two cycles the only VALUE_WRITE of a task is applied (R155). -/
theorem applyWrites_one {s : State} {n : Nat} {w : ValueWrite} (hc : s.cyc n = none) (hr : s.role ≠ .standby)
    (ha : (s.task n).abandoned = none) (hw : (s.task n).writes = [w]) (hl : s.lk.writes = []) :
    ∃ l, s.applyWrites n =
      { (s.modTask n (fun k => { k with writes := [] })).applyWrite n (wrapInc 32 (s.task n).osn) w with lk := l } := by
  have hready : s.writeReady n w = true := by
    unfold State.writeReady
    rw [hc]
    exact bne_iff_ne.mpr hr
  have hosn : s.nextOsn n = wrapInc 32 (s.task n).osn := by
    unfold State.nextOsn
    rw [hc]
  have hopen : ¬ ((match s.cyc n with | some c => c.loaded | none => false) || (s.task n).abandoned.isSome) = true := by
    rw [hc, ha]
    exact Bool.false_ne_true
  have hpart : (s.task n).writes.partition (s.writeReady n) = ([w], []) := by
    rw [hw, List.partition_eq_filter_filter]
    simp [hready]
  let v := (s.modTask n (fun k => { k with writes := [] })).applyWrite n (wrapInc 32 (s.task n).osn) w
  have hlk : v.lk.writes = [] := (congrArg Lockstep.writes (applyWrite_lk ..)).trans hl
  refine ⟨{ v.lk with writes := [] }, (if_neg hopen).trans ?_⟩
  rw [hpart, hosn]
  show v.debugWrites n = _
  unfold State.debugWrites
  rw [hlk]
  rfl

/-- One value that waits for the gap between two cycles is applied there (R155, R156). -/
theorem valueWriteApply_applies {dt n y len v : Nat} {q : Sym} {w : ValueWrite} {s : State} (hn : n < 32) (hc : s.cyc n = none)
    (hr : s.role ≠ .standby) (ha : (s.task n).abandoned = none) (hw : (s.task n).writes = [w]) (he : w.entries = [(y, len, v)])
    (hq : s.tk.prog.syms[y]? = some q) (hl : s.lk.writes = []) :
    ∃ t, exec (.valueWriteApply dt n) s = .next t ∧ (t.task n).writes = [] ∧ t.tk.changes = s.tk.changes + 1 ∧
      (bit q.flags 1 = false →
        (t.task n).area = areaPut (s.task n).area q.offset (if q.type = 12 then beBytes len v else leBytes len v)) ∧
      (bit q.flags 1 = true → s.tk.active ≤ 1 →
        (t.task n).area = (s.task n).area ∧ (y, v) ∈ (t.progSlot s.tk.active).patches) ∧
      Occurs (s.elapse dt) t 18 [(1, n), (4, wrapInc 32 (s.task n).osn), (2, 1)] := by
  let u := (s.elapse dt).modTask n (fun k => { k with writes := [] })
  have hu : u.task n = { s.task n with writes := [] } := modTask_task_self (s.elapse dt) n _
  have hqu : u.tk.prog.syms[y]? = some q := hq
  have h := applyValue_applied u n y len v
  obtain ⟨a, b, htask⟩ := h.task
  obtain ⟨l, ht⟩ := applyWrites_one (s := s.elapse dt) hc hr ha hw hl
  have htk := applyWrite_tk (n := n) (osn := wrapInc 32 (s.task n).osn) he u
  have htk' : ((s.elapse dt).applyWrites n).tk = _ := (congrArg State.tk ht).trans htk
  have hat : ((s.elapse dt).applyWrites n).task n = (u.applyValue n y len v).task n :=
    (congrArg (fun k : Tasks => tget k.task n {}) htk' :)
  refine ⟨(s.elapse dt).applyWrites n, congrArg Host.Outcome.next (if_pos hn), ?_, ?_, fun hv => ?_, fun hp ha' => ⟨?_, ?_⟩, ?_⟩
  · rw [hat, htask, hu]
  · rw [htk']
    exact congrArg (· + 1) h.changes
  · obtain ⟨b, harea⟩ := writeArea_task u n q.offset (if q.type = 12 then beBytes len v else leBytes len v)
    rw [hat, applyValue_area hqu hv, harea, hu]
  · rw [hat, applyValue_patch hqu hp, patchSlot_task, hu]
  · have hslot : ((s.elapse dt).applyWrites n).progSlot s.tk.active = (u.applyValue n y len v).progSlot u.tk.active :=
      (congrArg (fun k : Tasks => if s.tk.active = 0 then k.slotA else k.slotB) htk' :)
    rw [hslot, applyValue_patch hqu hp, patchSlot_slot (s := u) ha']
    exact List.mem_append_right _ (List.mem_singleton_self _)
  · rw [ht]
    exact applyWrite_occurs he rfl rfl

/-! ## Forces (R150–R152) -/

theorem archCommand_restarting (s : State) (a b c : Nat) (l : List Byte) :
    (s.archCommand a b c l).mbx.restarting = s.mbx.restarting := by
  have hparts : ∀ (n k : Nat) (t : State), (t.archParts a 3 b c l n k).mbx = t.mbx := by
    intro n
    induction n with
    | zero => exact fun _ _ => rfl
    | succ n ih => exact fun k t => (ih _ _).trans rfl
  exact congrArg Mbx.restarting (hparts _ _ _)

theorem archCommand_undisturbed (s : State) (a b c : Nat) (l : List Byte) : Undisturbed s (s.archCommand a b c l) :=
  ⟨archCommand_mu .., archCommand_restarting ..⟩

theorem Undisturbed.foldl {α : Type} {l : List α} {f : State → α → State} (hf : ∀ t a, Undisturbed t (f t a)) (s : State) :
    Undisturbed s (l.foldl f s) :=
  ⟨foldl_reading State.mu (fun t a => (hf t a).mu) s, foldl_reading (fun t => t.mbx.restarting) (fun t a => (hf t a).runs) s⟩

theorem edgeStarts_mbx (s : State) (p : Nat) (a b : Bool) (t : Nat) : (s.edgeStarts p a b t).mbx = s.mbx := by
  refine foldl_reading State.mbx (fun u n => ?_) s
  dsimp only
  split
  · unfold State.setDue
    split <;> rfl
  · rfl

theorem putBp_mbx (s : State) (p : Nat) (v : Bool) (t : Nat) : (s.putBp p v t).mbx = s.mbx := by
  unfold State.putBp
  dsimp only
  split
  · rfl
  · exact edgeStarts_mbx _ _ _ _ _

theorem liftForce_mbx (s : State) (k : Nat) : (s.liftForce k).mbx = s.mbx := by
  unfold State.liftForce
  dsimp only
  split
  · rfl
  · split
    · rfl
    · exact putBp_mbx _ _ _ _

theorem dropForce_mbx (s : State) (k : Nat) : (s.dropForce k).mbx = s.mbx := liftForce_mbx s k

theorem endForces_mbx (s : State) : s.endForces.mbx = s.mbx := foldl_reading State.mbx dropForce_mbx s

theorem refreshForces_undisturbed (s : State) : Undisturbed s s.refreshForces := by
  refine ⟨kept (fun _ hm => refreshForces_view s hm) .mu (by decide), ?_⟩
  unfold State.refreshForces
  dsimp only
  split
  · exact raise_restarting _ _ _
  · split
    · refine congrArg Mbx.restarting (?_ : State.mbx _ = _)
      split
      · rfl
      · exact (endForces_mbx _).trans (foldl_reading State.mbx liftForce_mbx s)
    · rfl

/-- Where the mode applies forces, the list stands as it is (R150). -/
theorem refreshForces_forces {s : State} (h : s.forceMode = true) : s.refreshForces.tk.forces = s.tk.forces := by
  unfold State.refreshForces
  simp only [h, if_true]
  split
  · rw [raise_tk]
  · split <;> rfl

/-! ### FORCE_SET -/

theorem modForce_self (s : State) (k : Nat) (f : Force → Force) :
    tget (s.modForce k f).tk.forces k {} = f (tget s.tk.forces k {}) := tget_tmod_self s.tk.forces k {} f

theorem modForce_ne {s : State} {j k : Nat} (h : j ≠ k) (f : Force → Force) :
    tget (s.modForce k f).tk.forces j {} = tget s.tk.forces j {} := tget_tmod_ne s.tk.forces h {} {} f

theorem addForce_self (s : State) (kind point value : Nat) :
    tget (s.addForce kind point value).tk.forces ((s.forceSlot kind point).getD s.freeForce) {} =
      { tget s.tk.forces ((s.forceSlot kind point).getD s.freeForce) {} with
        kind := kind, point := point, value := value, setTime := s.now, ending := false } := by
  unfold State.addForce
  exact modForce_self s _ _

theorem check_mode {c : Cmd} {r : Req} {s : State} {lvl modes : Nat} (h : c.check r s lvl modes = none) :
    bit modes s.mode.num = true := by
  unfold Cmd.check at h
  cases hb : bit modes s.mode.num with
  | true => rfl
  | false =>
    rw [hb] at h
    simp only [Bool.not_false, Bool.true_or, if_true] at h
    repeat' split at h
    all_goals cases h

theorem check_unready {c : Cmd} {r : Req} {s : State} {lvl modes : Nat} (h : c.check r s lvl modes = none) :
    c.unready r s = none := by
  unfold Cmd.check at h
  cases hu : c.unready r s with
  | none => rfl
  | some k =>
    rw [hu] at h
    simp only at h
    repeat' split at h
    all_goals cases h

/-- FORCE_SET is accepted by a module alone in M8, and in M6 where ForceMode allows it (R150, R152). -/
theorem forceSet_mode {dt : Nat} {p : Packet} {x : Session} {s : State} (h : Accepted forceSetCmd (s.elapse dt) p x) :
    s.mode = .m8 ∨ (s.mode = .m6 ∧ s.eff 0x0106 = 1) := by
  obtain ⟨row, hrow, -, hcheck⟩ := h.passes.row
  have halone : ((s.mode == .m4 || s.mode == .m5) && true) = false := h.passes.alone
  rw [h.code] at hrow
  obtain rfl : (⟨0x0043, some 2, 0x170⟩ : CmdRow) = row := Option.some.inj hrow
  have hmode : bit 0x170 (runsIn (s.elapse dt) p x).mode.num = true := check_mode hcheck
  replace hmode : bit 0x170 s.mode.num = true := hmode
  have hready : (if s.mode != .m8 && s.eff 0x0106 != 1 then some noPos else none) = none := check_unready hcheck
  generalize s.mode = m at halone hmode hready ⊢
  cases m with
  | m8 => exact .inl rfl
  | m6 => exact .inr ⟨rfl, by simpa using hready⟩
  | m4 | m5 => cases halone
  | _ => exact absurd hmode (by decide)

theorem forceMode_of {s : State} (h : s.mode = .m8 ∨ (s.mode = .m6 ∧ s.eff 0x0106 = 1)) : s.forceMode = true := by
  unfold State.forceMode
  rcases h with h | ⟨h, he⟩
  · rw [h]
  · rw [h]
    exact beq_iff_eq.mpr he

/-- The force set stands in its slot, and its entry begins now (R150, R152). -/
theorem forceSet_enters {dt kind point v : Nat} {p : Packet} {x : Session} {s : State}
    (h : Accepted forceSetCmd (s.elapse dt) p x) (he : forceEntries (reqOf p).body = [(kind, point, v)]) :
    ∃ t f, exec (.forceSet dt p) s = .next t ∧
      tget t.tk.forces ((s.forceSlot kind point).getD s.freeForce) {} = f ∧ f.kind = kind ∧ f.point = point ∧ f.value = v ∧
      f.setTime = (s.elapse dt).now ∧ f.ending = false ∧ Responds t p x s.mode s.role .ok 0 [] := by
  let u := runsIn (s.elapse dt) p x
  have hset : u.forceSet (reqOf p).body (reqOf p).session =
      ((u.addForce kind point v).refreshForces).archCommand 0 0x0043 (reqOf p).session.toNat (reqOf p).body := by
    unfold State.forceSet
    rw [he]
    rfl
  have hquiet : Undisturbed u (u.forceSet (reqOf p).body (reqOf p).session) := by
    rw [hset]
    have hadd : Undisturbed u (u.addForce kind point v) := ⟨rfl, rfl⟩
    exact (hadd.trans (refreshForces_undisturbed _)).trans (archCommand_undisturbed _ _ _ _ _)
  obtain ⟨t, ht, hbody, hans⟩ := mail_responds h (codeIs_of h.code) rfl hquiet
  have hm := forceSet_mode h
  have hmode : (u.addForce kind point v).forceMode = true := forceMode_of hm
  have hforces : t.tk.forces = (u.addForce kind point v).tk.forces := by
    have htk : t.tk = (u.forceSet (reqOf p).body (reqOf p).session).tk := (congrArg State.tk hbody :)
    rw [htk, hset, archCommand_tk, refreshForces_forces hmode]
  have hself := addForce_self u kind point v
  rw [← hforces] at hself
  exact ⟨t, _, ht, hself, rfl, rfl, rfl, rfl, rfl, hans⟩

/-! ### FORCE_CLEAR -/

/-- Entry `k` of the force list is cleared: it is gone, or ends at the next slice load or close (R150). -/
def Cleared (k : Nat) (s : State) : Prop := (tget s.tk.forces k {}).ending = true ∨ (tget s.tk.forces k {}).kind = 0

/-- What follows on the list itself leaves a cleared entry cleared. -/
theorem Cleared.modForce {j k : Nat} {s : State} (h : Cleared k s) {f : Force → Force}
    (hf : ∀ x, (f x).kind = x.kind ∧ (x.ending = true → (f x).ending = true)) : Cleared k (s.modForce j f) := by
  unfold Cleared at *
  by_cases hk : k = j
  · subst hk
    rw [modForce_self, (hf _).1]
    exact h.imp_left (hf _).2
  · rwa [modForce_ne hk]

theorem putBp_forces (s : State) (p : Nat) (v : Bool) (t : Nat) : (s.putBp p v t).tk.forces = s.tk.forces :=
  (kept (fun _ hm => putBp_view s p v t hm) .forces (by decide)).1

theorem Cleared.of_forces {k : Nat} {s t : State} (h : Cleared k s) (ht : t.tk.forces = s.tk.forces) : Cleared k t := by
  unfold Cleared
  rwa [ht]

theorem Cleared.liftForce {k : Nat} {s : State} (h : Cleared k s) (j : Nat) : Cleared k (s.liftForce j) := by
  unfold State.liftForce
  dsimp only
  split
  · exact h
  · have hm := h.modForce (j := j) (f := fun f => { f with under := none }) fun x => ⟨rfl, id⟩
    split
    · exact hm.of_forces rfl
    · exact hm.of_forces (putBp_forces _ _ _ _)

theorem dropForce_cleared (s : State) (k : Nat) : Cleared k (s.dropForce k) :=
  .inr (congrArg Force.kind (tget_tdel_self (s.liftForce k).tk.forces k {}))

theorem Cleared.dropForce {k : Nat} {s : State} (h : Cleared k s) (j : Nat) : Cleared k (s.dropForce j) := by
  by_cases hk : k = j
  · subst hk
    exact dropForce_cleared s k
  · have hl := h.liftForce j
    unfold Cleared at hl ⊢
    unfold State.dropForce
    rwa [tget_tdel_ne _ hk]

theorem Cleared.foldl {α : Type} {k : Nat} {f : State → α → State} (hf : ∀ t a, Cleared k t → Cleared k (f t a)) {s : State}
    (h : Cleared k s) (l : List α) : Cleared k (l.foldl f s) := by
  induction l generalizing s with
  | nil => exact h
  | cons a l ih => exact ih (hf s a h)

/-- Every entry that a fold clears one by one is cleared after it. -/
theorem foldl_cleared {f : State → Nat → State} (hself : ∀ t k, Cleared k (f t k))
    (hf : ∀ t j k, Cleared k t → Cleared k (f t j)) {l : List Nat} {k : Nat} (hk : k ∈ l) (s : State) : Cleared k (l.foldl f s) := by
  induction l generalizing s with
  | nil => cases hk
  | cons j l ih =>
    rcases List.mem_cons.mp hk with rfl | hk
    · exact Cleared.foldl (fun t a => hf t a k) (hself s k) l
    · exact ih hk (f s j)

theorem Cleared.refreshForces {k : Nat} {s : State} (h : Cleared k s) : Cleared k s.refreshForces := by
  unfold State.refreshForces
  dsimp only
  split
  · exact h.of_forces (by rw [raise_tk])
  · split
    · have hl : Cleared k (if s.forceMode then s else ((s.tk.forces.map Prod.fst).foldl State.liftForce s).endForces) := by
        split
        · exact h
        · exact .foldl (fun _ j ht => ht.dropForce j) (.foldl (fun _ j ht => ht.liftForce j) h _) _
      exact hl
    · exact h

/-- The forces that FORCE_CLEAR names are cleared (R150, R152). -/
theorem forceClear_cleared (s : State) (b : List Byte) (sid : U32) (now : Bool) {k : Nat} (hk : k ∈ s.clearSlots b) :
    Cleared k (s.forceClear b sid now) := by
  unfold State.forceClear
  refine Cleared.of_forces (Cleared.refreshForces ?_) (congrArg Tasks.forces (archCommand_tk ..))
  split
  · exact foldl_cleared dropForce_cleared (fun _ j _ h => h.dropForce j) hk s
  · refine foldl_cleared (fun t j => .inl ?_) (fun t j k h => ?_) hk s
    · rw [modForce_self]
    · exact h.modForce (f := fun f => { f with ending := true }) fun x => ⟨rfl, fun _ => rfl⟩

theorem forceClear_undisturbed (s : State) (b : List Byte) (sid : U32) (now : Bool) : Undisturbed s (s.forceClear b sid now) := by
  have hends : Undisturbed s (if now || !s.tk.applied then (s.clearSlots b).foldl State.dropForce s
      else (s.clearSlots b).foldl (fun s k => s.modForce k (fun f => { f with ending := true })) s) := by
    split
    · refine .foldl (fun t k => ⟨kept (fun _ hm => dropForce_view t k hm) .mu (by decide), ?_⟩) s
      exact congrArg Mbx.restarting (dropForce_mbx t k)
    · refine .foldl (fun t k => ?_) s
      exact ⟨rfl, rfl⟩
  exact (hends.trans (refreshForces_undisturbed _)).trans (archCommand_undisturbed _ _ _ _ _)

theorem forceClear_answers {dt : Nat} {p : Packet} {x : Session} {s : State} (h : Accepted forceClearCmd (s.elapse dt) p x) :
    ∃ t, exec (.forceClear dt p) s = .next t ∧
      (∀ k ∈ s.clearSlots (reqOf p).body, (tget t.tk.forces k {}).ending = true ∨ (tget t.tk.forces k {}).kind = 0) ∧
      Responds t p x s.mode s.role .ok (s.clearSlots (reqOf p).body).length [] := by
  obtain ⟨t, ht, hbody, hans⟩ := mail_responds h (codeIs_of h.code) rfl (forceClear_undisturbed _ _ _ _)
  exact ⟨t, ht, fun k hk => (forceClear_cleared (runsIn (s.elapse dt) p x) _ _ _ hk).of_forces
    (congrArg (fun v => v.tk.forces) hbody :), hans⟩

/-! ## TASK_TRIGGER (R551) -/

/-- A request that passes its checks and whose response is held leaves what its command has run to, and nothing is sent. -/
theorem serveReq_held {c : Cmd} {r : Req} {u : State} {lvl : Nat} {unset : Bool} (key : Option (List Byte)) (sid : U32)
    (h : Passes c r u lvl unset) (hh : (c.run r (u.latch r)).hold = true) :
    u.serveReq c r key sid lvl unset = (c.run r (u.latch r)).st := by
  obtain ⟨hf, ⟨row, hrow, hlvl, hcheck⟩, hv, hp, hk, hb, ha⟩ := h
  have hkey : (unset && !([0x0002, 0x0013, 0x0012, 0x0011].contains r.code)) = false := by
    cases unset with
    | false => rfl
    | true => rw [hk rfl]; rfl
  have hlevel : (match row.level with | some l => decide (lvl < l) | none => false) = false := by
    cases hl : row.level with
    | none => rfl
    | some l => exact decide_eq_false (Nat.not_lt.mpr (hlvl l hl))
  unfold State.serveReq
  simp only [hf, hrow, hv, hp, hkey, hb, ha, hcheck, ne_eq, not_true_eq_false, if_false, Bool.or_false, Bool.false_and,
    Bool.false_eq_true]
  refine (if_neg (by rw [Bool.not_eq_true]; exact hlevel)).trans ?_
  unfold Cmd.carry
  simp only [ha, Bool.false_eq_true, if_false, hh, if_true]

/-- A triggered start falls due at `t` or before, and its operation waits for it (R127, R551). -/
theorem trigger_sets (s : State) (n t id : Nat) :
    ∃ due l, ((s.trigger n t (some id)).task n).trigger = some (due, l) ∧ due ≤ t ∧ id ∈ l := by
  have h : (s.trigger n t (some id)).task n = _ := modTask_task_self s n _
  rw [h]
  cases (s.task n).trigger with
  | none => exact ⟨t, [id], rfl, le_refl t, List.mem_singleton_self id⟩
  | some x => exact ⟨min t x.1, x.2 ++ [id], rfl, min_le_left t x.1, List.mem_append_right _ (List.mem_singleton_self id)⟩

theorem taskTrigger_waits {dt : Nat} {p : Packet} {x : Session} {s : State} (h : Accepted taskTriggerCmd (s.elapse dt) p x) :
    ∃ t l due, exec (.taskTrigger dt p) s = .next t ∧ (t.task (beAt (reqOf p).body 0 1)).trigger = some (due, l) ∧
      due ≤ frameAfter (s.elapse dt).now ∧ s.mbx.nextOp ∈ l ∧ t.out = [] ∧
      (∀ n, n ≠ beAt (reqOf p).body 0 1 → t.task n = s.task n) := by
  let rep := taskTriggerCmd.run (reqOf p) (runsIn (s.elapse dt) p x)
  have ht : exec (.taskTrigger dt p) s = .next rep.st := by
    refine (execMail_heard h.toHeard (codeIs_of h.code)).trans (congrArg Host.Outcome.next ?_)
    rw [serveFrame_session h.toInSession]
    exact serveReq_held _ _ h.passes rfl
  obtain ⟨due, l, htrig, hdue, hop⟩ :=
    trigger_sets _ (beAt (reqOf p).body 0 1) (frameAfter (s.elapse dt).now) s.mbx.nextOp
  exact ⟨rep.st, l, due, ht, htrig, hdue, hop, rfl, fun n hn => modTask_task_ne _ _ _ hn⟩

end Sys2Proof.Machine

open Sys2Proof Sys2Proof.Machine

/-- Settles O15, row by row: a mailbox row leaves what its command has run to, the gap of a switch goes through its boundary, its copy
and its end, and one value that waits is applied between two cycles. -/
theorem programRowsComplete : Obligations.ProgramRowsComplete := by
  refine ⟨fun dt p x b s h hb hroom => programLoad_answers h hb hroom, fun dt p x s h => programSwitch_answers h,
    fun dt w s hw hn h8 hd hp => ⟨_, programSwitchGap_begins hw h8 hd hn hp, rfl⟩,
    fun dt w st k s hw hn h8 hd hf => ⟨_, programSwitchGap_fails hw h8 hd hn hf, ?_, fun op hop => completeOpt_ends _ hop _ _⟩,
    fun dt since w s hw hg h8 hd hc hcopy => ?_, fun dt since w s hw hg h8 hd hc hcopy => ?_,
    fun dt p x s h => valueWrite_queues h,
    fun dt n y len v q w s hn hc hr ha hw he hq hl => valueWriteApply_applies hn hc hr ha hw he hq hl,
    fun dt kind point v p x s h he => forceSet_enters h he, fun dt p x s h => forceClear_answers h,
    fun dt p x s h => taskTrigger_waits h⟩
  · exact completeOpt_tk _ _ _ _
  · exact ⟨_, (programSwitchGap_copies hw h8 hd hg hc).trans (congrArg Host.Outcome.next (if_neg (by rw [hcopy]; decide))), rfl⟩
  · exact ⟨_, (programSwitchGap_copies hw h8 hd hg hc).trans (congrArg Host.Outcome.next (if_pos hcopy)), switchDone_runs w _ h8⟩
end

section
/-!
PROOFS. What happens beside a task's own cycle (R33, R34, R127, R150, R264–R272): edges that set due starts, withheld markers, forces,
outputs and the partner's frames leave its cycle, its counters and its starts as they are.
-/
namespace Sys2Proof.Machine

/-- A task without its due starts, its dealings with the partner, its state area and its edge states. -/
def Task.own (k : Task) : Task :=
  { k with due := [], withheld := [], peers := [], waiting := [], area := [], prev := [], hash := 0, ownSum := none, cmds := [] }

/-- From `s` to `t` task `n` keeps its state area, unless a resynchronisation begins, which no such step ends (R271, R275). -/
structure AreaStands (n : Nat) (s t : State) : Prop where
  resync : s.pair.resync = true → t.pair.resync = true
  area : t.pair.resync = s.pair.resync → (t.task n).area = (s.task n).area

/-- From `s` to `t` task `n` keeps its own part, and its state area unless a resynchronisation begins. -/
structure Aside (n : Nat) (s t : State) : Prop extends AreaStands n s t where
  own : (t.task n).own = (s.task n).own

theorem AreaStands.trans {n : Nat} {s t u : State} (h : AreaStands n s t) (h' : AreaStands n t u) : AreaStands n s u where
  resync := h'.resync ∘ h.resync
  area he := by
    have ht : t.pair.resync = s.pair.resync := by
      cases hs : s.pair.resync with
      | true => exact h.resync hs
      | false =>
        rw [hs] at he
        exact Bool.eq_false_iff.mpr fun htrue => Bool.false_ne_true (he.symm.trans (h'.resync htrue))
    exact (h'.area (he.trans ht.symm)).trans (h.area ht)

theorem AreaStands.modTask {n m : Nat} {f : Task → Task} (hf : ∀ k, (f k).area = k.area) (s : State) :
    AreaStands n s (s.modTask m f) := by
  refine ⟨id, fun _ => ?_⟩
  by_cases h : n = m
  · subst h
    rw [modTask_task_self]
    exact hf _
  · rw [modTask_task_ne _ _ _ h]

namespace Aside

variable {n : Nat} {s t u : State}

theorem refl (s : State) : Aside n s s := ⟨⟨id, fun _ => rfl⟩, rfl⟩

theorem trans (h : Aside n s t) (h' : Aside n t u) : Aside n s u :=
  ⟨h.toAreaStands.trans h'.toAreaStands, h'.own.trans h.own⟩

theorem of_same (ht : t.tk.task = s.tk.task) (hp : t.pair.resync = s.pair.resync) : Aside n s t := by
  have hn : t.task n = s.task n := congrArg (fun k : Tab Task => tget k n {}) ht
  exact ⟨⟨hp.trans, fun _ => congrArg Task.area hn⟩, congrArg Task.own hn⟩

/-- What keeps the parts of the tasks and of the pair. -/
theorem of_view {m : Nat} (h : ∀ hid, Sub m hid → t.view hid = s.view hid) (h17 : m.testBit 17 = false) (h14 : m.testBit 14 = false) :
    Aside n s t := by
  have htasks : Part.same s t .tasks := kept h .tasks h17
  have hpair : Part.same s t .pair := kept h .pair h14
  exact of_same htasks.1 (congrArg Pair.resync hpair :)

theorem modTask {m : Nat} {f : Task → Task} (hf : ∀ k, (f k).own = k.own ∧ (f k).area = k.area) (s : State) :
    Aside n s (s.modTask m f) := by
  refine ⟨.modTask (fun k => (hf k).2) s, ?_⟩
  by_cases h : n = m
  · subst h
    rw [modTask_task_self]
    exact (hf _).1
  · rw [modTask_task_ne _ _ _ h]

theorem foldl {α : Type} {f : State → α → State} (hf : ∀ t a, Aside n t (f t a)) (l : List α) (s : State) :
    Aside n s (l.foldl f s) := by
  induction l generalizing s with
  | nil => exact refl s
  | cons a l ih => exact (hf s a).trans (ih (f s a))

theorem ite {c : Prop} [Decidable c] {a b : State} (ha : Aside n s a) (hb : Aside n s b) : Aside n s (if c then a else b) := by
  split
  · exact ha
  · exact hb

theorem cyc (h : Aside n s t) : t.cyc n = s.cyc n := (congrArg Task.cyc h.own :)

end Aside

/-! ## Edges, points and forces (R127, R150) -/

variable {n : Nat}

theorem lane_aside (s : State) (k : Nat) (l : List Nat) (b : List Byte) : Aside n s (s.lane k l b) :=
  .of_view (m := 0) (fun _ _ => lane_view s k l b) (by decide) (by decide)

theorem raise_aside (s : State) (k : Nat) (d : List (Nat × Nat)) : Aside n s (s.raise k d) :=
  .of_same (congrArg Tasks.task (raise_tk s k d)) (congrArg Pair.resync (raise_pair s k d))

theorem setDue_aside (s : State) (m t : Nat) : Aside n s (s.setDue m t) :=
  .ite (.modTask (fun _ => by exact ⟨rfl, rfl⟩) s) (.refl s)

theorem edgeStarts_aside (s : State) (p : Nat) (a b : Bool) (t : Nat) : Aside n s (s.edgeStarts p a b t) :=
  .foldl (fun u m => .ite (setDue_aside u m t) (.refl u)) _ s

theorem putBp_aside (s : State) (p : Nat) (v : Bool) (t : Nat) : Aside n s (s.putBp p v t) := by
  have hset : Aside n s (s.setBp p v t) := .of_same (by rfl) (by rfl)
  exact .ite hset (hset.trans (edgeStarts_aside _ _ _ _ _))

theorem modForce_aside (s : State) (k : Nat) (f : Force → Force) : Aside n s (s.modForce k f) := .of_same (by rfl) (by rfl)

theorem installForce_aside (s : State) (k : Nat) : Aside n s (s.installForce k) := by
  refine .ite (.refl s) ?_
  have hunder : ∀ (c : Prop) [Decidable c] (f : Force → Force), Aside n s (if c then s else s.modForce k f) :=
    fun _ _ f => .ite (.refl s) (modForce_aside s k f)
  exact .ite (hunder _ _) (.ite ((hunder _ _).trans (.of_same (by rfl) (by rfl))) ((hunder _ _).trans (putBp_aside _ _ _ _)))

theorem liftForce_aside (s : State) (k : Nat) : Aside n s (s.liftForce k) := by
  unfold State.liftForce
  dsimp only
  split
  · exact .refl s
  · have hm := modForce_aside (n := n) s k (fun f => { f with under := none })
    exact .ite (hm.trans (.of_same (by rfl) (by rfl))) (hm.trans (putBp_aside _ _ _ _))

theorem dropForce_aside (s : State) (k : Nat) : Aside n s (s.dropForce k) :=
  (liftForce_aside s k).trans (.of_same (by rfl) (by rfl))

theorem endForces_aside (s : State) : Aside n s s.endForces := .foldl dropForce_aside _ s

theorem installForces_aside (s : State) : Aside n s s.installForces :=
  .ite ((endForces_aside s).trans (.foldl installForce_aside _ _)) (endForces_aside s)

theorem installFor_aside (s : State) (c : Cycle) : Aside n s (s.installFor c) :=
  .ite (endForces_aside s) (installForces_aside s)

theorem refreshForces_aside (s : State) : Aside n s s.refreshForces := by
  have hon : Aside n s { s with tk := { s.tk with applied := true } } := .of_same (by rfl) (by rfl)
  have hoff : Aside n s (if s.forceMode then s else ((s.tk.forces.map Prod.fst).foldl State.liftForce s).endForces) :=
    .ite (.refl s) ((Aside.foldl liftForce_aside _ s).trans (endForces_aside _))
  exact .ite (hon.trans (raise_aside _ _ _)) (.ite (hoff.trans (.of_same (by rfl) (by rfl))) (.refl s))

theorem produceAp_aside (s : State) (p v t : Nat) : Aside n s (s.produceAp p v t) := by
  unfold State.produceAp
  split
  · split <;> exact .of_same (by rfl) (by rfl)
  · exact .of_same (by rfl) (by rfl)

theorem produceBp_aside (s : State) (p : Nat) (v : Bool) (t : Nat) : Aside n s (s.produceBp p v t) := by
  unfold State.produceBp
  split
  · split
    · exact modForce_aside _ _ _
    · exact putBp_aside _ _ _ _
  · exact putBp_aside _ _ _ _

theorem copyOut_aside (s : State) (m : Nat) (ap bp : List Nat) : Aside n s (s.copyOut m ap bp) := by
  refine .ite (.foldl (fun u p => ?_) _ s) ((Aside.foldl (fun u p => produceAp_aside u _ _ _) _ s).trans
    (.foldl (fun u p => produceBp_aside u _ _ _) _ _))
  exact Aside.trans (.of_same (by rfl) (by rfl)) (raise_aside _ _ _)

/-! ## The partner (R34, R264–R272) -/

theorem driveOutputs_aside (s : State) (ao : List (Nat × Nat)) (dos : List (Nat × Bool)) : Aside n s (s.driveOutputs ao dos) :=
  .of_view (fun _ hm => driveOutputs_view s ao dos hm) (by decide) (by decide)

theorem withhold_aside (s : State) (m k osn : Nat) : Aside n s (s.withhold m k osn) := by
  unfold State.withhold
  extract_lets come t u
  have ht : Aside n s t := .modTask (fun _ => by exact ⟨rfl, rfl⟩) s
  have hu : Aside n s u := .ite (ht.trans (lane_aside _ _ _ _)) ht
  clear_value come
  cases come with
  | none => exact hu
  | some d => exact (hu.trans (driveOutputs_aside _ _ _)).trans (.of_same (by rfl) (by rfl))

/-- The state areas and edge states of the tasks go to their reset state (R275). -/
def State.areasFresh (s : State) : State :=
  (List.range 32).foldl (fun s m => State.modTask s m (fun k => { k with area := [], prev := [] })) s

theorem areasFresh_own (s : State) : (s.areasFresh.task n).own = (s.task n).own := by
  refine foldl_reading (fun t => (t.task n).own) (fun t m => ?_) s
  by_cases h : n = m
  · subst h
    rw [modTask_task_self]
    rfl
  · rw [modTask_task_ne _ _ _ h]

theorem areasFresh_pair (s : State) : s.areasFresh.pair = s.pair := foldl_reading State.pair (fun t m => modTask_pair t m _) s

theorem takeFresh_own (s : State) : (s.takeFresh.task n).own = (s.task n).own := by
  have h : s.takeFresh.tk.task = s.areasFresh.tk.task := by
    unfold State.takeFresh State.areasFresh
    dsimp only
  have ht : s.takeFresh.task n = s.areasFresh.task n := congrArg (fun k : Tab Task => tget k n {}) h
  rw [ht, areasFresh_own]

theorem takeFresh_resync (s : State) : s.takeFresh.pair.resync = s.pair.resync := by
  have h : s.takeFresh.pair.resync = s.areasFresh.pair.resync := by
    unfold State.takeFresh State.areasFresh
    dsimp only
  exact h.trans (congrArg Pair.resync (areasFresh_pair s))

theorem resetSoak_aside (s : State) : Aside n s s.resetSoak := .of_same rfl rfl

/-- Every cycle that waits for release is withheld (R271). -/
def State.withholdAll (s : State) : State :=
  (List.range 32).foldl (fun s m => (s.task m).waiting.foldl (fun s h => s.withhold m 3 h.osn) s) s

theorem withholdAll_aside (s : State) : Aside n s s.withholdAll := by
  unfold State.withholdAll
  refine .foldl (fun t m => ?_) _ s
  exact .foldl (fun u (h : Held) => withhold_aside u m 3 h.osn) _ t

/-- A resynchronisation that begins is marked, and takes the state areas only (R271, R275). -/
theorem resync_aside (s : State) : Aside n s s.resync := by
  unfold State.resync
  split
  · exact .refl s
  · next hr =>
    extract_lets t u
    have ht : (t.task n).own = (s.task n).own := rfl
    have hu : Aside n t u := withholdAll_aside t
    have hsoak := resetSoak_aside (n := n) u.takeFresh
    have htrue : u.takeFresh.resetSoak.pair.resync = true := hsoak.resync ((takeFresh_resync u).trans (hu.resync rfl))
    refine ⟨⟨fun _ => htrue, fun he => ?_⟩, (hsoak.own.trans (takeFresh_own u)).trans (hu.own.trans ht)⟩
    exact absurd (he.symm.trans htrue) hr

theorem withdraw_aside (s : State) (m : Mode) (f : Nat) : Aside n s (s.withdraw m f) :=
  .of_view (fun _ hm => withdraw_view s m f hm) (by decide) (by decide)

theorem diverge_aside (s : State) (k m osn : Nat) : Aside n s (s.diverge k m osn) := by
  refine .ite (.refl s) ?_
  have hcount : ∀ (l : List Nat) (d : List (Nat × Nat)),
      Aside n s ((s.modPair (fun p => { p with divTicks := l, divergences := p.divergences + 1 })).raise 40 d).resetSoak :=
    fun l d => (Aside.trans (.of_same (by rfl) (by rfl)) (raise_aside _ 40 d)).trans (resetSoak_aside _)
  exact .ite ((hcount _ _).trans (withdraw_aside _ _ _))
    (.ite ((hcount _ _).trans (resync_aside _)) ((hcount _ _).trans (.of_same (by rfl) (by rfl))))

theorem raiseFlag_aside (s : State) (k : Nat) : Aside n s (s.raiseFlag k) := by
  have hflag : Aside n s ({ s with pair := { s.pair with flag := true, flagCause := s.pair.flagCause ||| 2 ^ k } } : State).resetSoak :=
    .of_same (by rfl) (by rfl)
  exact .ite (hflag.trans (resync_aside _)) hflag

theorem compareSums_aside (s : State) (m : Nat) : Aside n s (s.compareSums m) := by
  unfold State.compareSums
  split
  · exact .ite ((raise_aside _ _ _).trans (diverge_aside _ _ _ _)) (.refl s)
  · exact .refl s

theorem sendHash_aside (s : State) (m osn : Nat) : Aside n s (s.sendHash m osn) :=
  .ite (((Aside.modTask (fun _ => by exact ⟨rfl, rfl⟩) s).trans (lane_aside _ _ _ _)).trans (compareSums_aside _ _)) (.refl s)

theorem sendDigest_aside (s : State) (m osn digest : Nat) (ao : List (Nat × Nat)) (dos : List (Nat × Bool)) :
    Aside n s (s.sendDigest m osn digest ao dos) := .ite (lane_aside _ _ _ _) (.refl s)

theorem handOver_aside (s : State) (m : Nat) (c : Cycle) : Aside n s (s.handOver m c) := by
  refine .ite (withhold_aside _ _ _ _) (.ite (withhold_aside _ _ _ _) ?_)
  extract_lets h t u
  have ht : Aside n s t := .modTask (fun _ => by exact ⟨rfl, rfl⟩) s
  have hu : Aside n s u := ht.trans (sendDigest_aside _ _ _ _ _ _)
  split
  · exact .ite ((hu.trans (withhold_aside _ _ _ _)).trans (diverge_aside _ _ _ _)) hu
  · exact hu

theorem forwardLines_aside (s : State) (m : Nat) (ls : List (Nat × List Byte)) : Aside n s (s.forwardLines m ls) :=
  .of_view (m := 0) (fun _ _ => forwardLines_view s m ls) (by decide) (by decide)

theorem storeEdges_aside (s : State) (m : Nat) (c : Cycle) : Aside n s (s.storeEdges m c) := by
  refine .foldl (fun u p => ?_) _ s
  split
  · exact .modTask (fun _ => by exact ⟨rfl, rfl⟩) u
  · exact .refl u

theorem agree_aside (s : State) (m osn t0 : Nat) (c : Option Cycle) (rs hs : List Nat) :
    Aside n s (s.agree m osn t0 c rs hs) := by
  refine .ite ?_ (.refl s)
  split
  · exact (Aside.modTask (fun _ => by exact ⟨rfl, rfl⟩) s).trans (lane_aside _ _ _ _)
  · exact lane_aside _ _ _ _

theorem takeAux_aside (s : State) (m : Nat) : Aside n s (s.takeAux m).2.2 :=
  .of_view (fun _ hm => takeAux_view s m hm) (by decide) (by decide)

theorem sendPayload_aside (s : State) (rep : Bool) (m osn : Nat) (p : Payload) : Aside n s (s.sendPayload rep m osn p) :=
  .of_view (fun _ hm => sendPayload_view s rep m osn p hm) (by decide) (by decide)

end Sys2Proof.Machine
end

section
/-!
PROOFS. The rows of the task cycles: close, release and fault (R33, R34, R135, R142, R145).
-/
namespace Sys2Proof.Machine

variable {n : Nat}

/-! ## TASK_CLOSE (R135, R140, R146) -/

theorem nextHeld_cyc {s : State} (h : s.cyc n = none) : (s.nextHeld n).cyc n = (s.task n).heldStarts.head? := by
  unfold State.nextHeld
  split
  · next hl =>
    rw [hl]
    exact h
  · next c l hl =>
    rw [hl]
    exact congrArg Task.cyc (modTask_task_self s n _)

/-- The next held start that opens is all that changes of the task. -/
theorem nextHeld_task (s : State) (n : Nat) : ∃ c l, (s.nextHeld n).task n = { s.task n with cyc := c, heldStarts := l } := by
  unfold State.nextHeld
  split
  · exact ⟨_, _, rfl⟩
  · exact ⟨_, _, modTask_task_self s n _⟩

theorem nextHeld_pair (s : State) (n : Nat) : (s.nextHeld n).pair = s.pair := by
  unfold State.nextHeld
  split <;> rfl

theorem nextHeld_ev (s : State) (n : Nat) : (s.nextHeld n).ev = s.ev := by
  unfold State.nextHeld
  split <;> rfl

theorem nextHeld_lastFault (s : State) (n : Nat) : (s.nextHeld n).tk.lastFault = s.tk.lastFault := by
  unfold State.nextHeld
  split <;> rfl

theorem nextHeld_area (s : State) (n : Nat) : AreaStands n s (s.nextHeld n) := by
  obtain ⟨c, l, h⟩ := nextHeld_task s n
  exact ⟨fun hr => by rwa [nextHeld_pair], fun _ => by rw [h]⟩

/-- The lines of a cycle's log are committed to the state area (R140). -/
def State.commitLines (s : State) (n : Nat) (ls : List (Nat × List Byte)) : State :=
  ls.foldl (fun s (l, b) => s.writeArea n (64 * l) (padTo 64 b)) s

theorem writeArea_resync (s : State) (n off : Nat) (b : List Byte) : (s.writeArea n off b).pair.resync = s.pair.resync :=
  (congrArg Pair.resync (kept (fun _ hm => writeArea_view s n off b hm) .pair (by decide) : Part.same s _ .pair) :)

theorem commitLines_own (s : State) (ls : List (Nat × List Byte)) : ((s.commitLines n ls).task n).own = (s.task n).own := by
  refine foldl_reading (fun t => (t.task n).own) (fun t x => ?_) s
  obtain ⟨h, ht⟩ := writeArea_task t n (64 * x.1) (padTo 64 x.2)
  exact (congrArg Task.own ht :)

theorem commitLines_resync (s : State) (ls : List (Nat × List Byte)) : (s.commitLines n ls).pair.resync = s.pair.resync := by
  unfold State.commitLines
  exact foldl_reading (fun t => t.pair.resync) (fun t ⟨l, b⟩ => writeArea_resync t n (64 * l) (padTo 64 b)) s

theorem commitLines_area (s : State) (ls : List (Nat × List Byte)) : ((s.commitLines n ls).task n).area =
    ls.foldl (fun a x => areaPut a (64 * x.1) (padTo 64 x.2)) (s.task n).area := by
  induction ls generalizing s with
  | nil => rfl
  | cons x ls ih =>
    obtain ⟨h, ht⟩ := writeArea_task s n (64 * x.1) (padTo 64 x.2)
    exact (ih (s.writeArea n (64 * x.1) (padTo 64 x.2))).trans (by rw [ht]; rfl)

/-- The log is committed and the cycle counted; its outputs and the next held start are still to come (R135, R140). -/
def State.cycleCloses (s : State) (n : Nat) (d : CloseData) (c : Cycle) : State :=
  (((s.commitLines n d.lines).storeEdges n c).forwardLines n d.lines).modTask n (fun k => { k with
    cyc := none, executed := satInc 32 k.executed, lastRun := d.run, longestRun := max k.longestRun d.run,
    faults := 0, lost := if c.recovery then false else k.lost, recovering := k.recovering && !k.heldStarts.isEmpty })

/-- What a close does beyond that, but for the next held start, happens beside the task. -/
theorem closeCycle_closes {s : State} {d : CloseData} {c : Cycle} (hc : s.cyc n = some c) (hl : c.loaded = true)
    (hlen : d.lines.length ≤ 4096) :
    ∃ v, Aside n (s.cycleCloses n d c) v ∧ Aside n (v.nextHeld n) (s.closeCycle n d) := by
  unfold State.closeCycle
  rw [hc]
  simp only [hl, Bool.not_true, Bool.false_eq_true, if_false, Nat.not_lt.mpr hlen]
  split
  · exact ⟨_, sendHash_aside (s.cycleCloses n d c) n c.osn, .refl _⟩
  · refine ⟨_, ?_, refreshForces_aside _⟩
    have houts := (installFor_aside (n := n) (s.cycleCloses n d c) c).trans (copyOut_aside _ n d.ap d.bp)
    have hsent := (houts.trans (handOver_aside _ n c)).trans (sendHash_aside _ n c.osn)
    exact hsent.trans (.of_view (fun _ hm => loopTriggers_view _ 0 n _ hm) (by decide) (by decide))

theorem loaded_of_runsNow {s : State} {c : Cycle} (hc : s.cyc n = some c) (h : s.runsNow n = true) : c.loaded = true := by
  unfold State.runsNow State.released at h
  rw [hc] at h
  simp only [Bool.and_eq_true] at h
  exact h.1.1

theorem taskClose_commits {dt : Nat} {d : CloseData} {c : Cycle} {s : State} (hn : n < 32) (hh : s.halted n = false)
    (hc : s.cyc n = some c) (hr : (s.elapse dt).runsNow n = true) (hlen : d.lines.length ≤ 4096) :
    ∃ t, exec (.taskClose dt n d) s = .next t ∧ t.cyc n = (s.task n).heldStarts.head? ∧
      (t.task n).executed = satInc 32 (s.task n).executed ∧ (t.task n).lastRun = d.run ∧
      (t.task n).longestRun = max (s.task n).longestRun d.run ∧ (t.task n).faults = 0 ∧
      (t.pair.resync = s.pair.resync →
        (t.task n).area = d.lines.foldl (fun a x => areaPut a (64 * x.1) (padTo 64 x.2)) (s.task n).area) := by
  let e := s.elapse dt
  have hce : e.cyc n = some c := hc
  obtain ⟨v, hv, ht⟩ := closeCycle_closes hce (loaded_of_runsNow hce hr) hlen
  have hexec : exec (.taskClose dt n d) s = .next (e.closeCycle n d) := by
    have hgo : ¬ (e.halted n || !e.runsNow n) = true := by
      rw [show e.halted n = false from hh, hr]
      exact Bool.false_ne_true
    exact congrArg Host.Outcome.next ((if_pos hn).trans (if_neg hgo))
  let w := ((e.commitLines n d.lines).storeEdges n c).forwardLines n d.lines
  have hw : Aside n (e.commitLines n d.lines) w := (storeEdges_aside _ n c).trans (forwardLines_aside _ n d.lines)
  have hwown : (w.task n).own = (s.task n).own := hw.own.trans (commitLines_own e d.lines)
  have hclosed : (e.cycleCloses n d c).task n = _ := modTask_task_self w n _
  have hvown : (v.task n).own = ((e.cycleCloses n d c).task n).own := hv.own
  rw [hclosed] at hvown
  obtain ⟨o, l, hnext⟩ := nextHeld_task v n
  have htown := ht.own
  rw [hnext] at htown
  refine ⟨e.closeCycle n d, hexec, ?_, ?_, ?_, ?_, ?_, fun he => ?_⟩
  · rw [ht.cyc, nextHeld_cyc (congrArg Task.cyc hvown :)]
    exact congrArg List.head? ((congrArg Task.heldStarts hvown :).trans (congrArg Task.heldStarts hwown :))
  · exact ((congrArg Task.executed htown :).trans (congrArg Task.executed hvown :)).trans
      (congrArg (fun k : Task => satInc 32 k.executed) hwown :)
  · exact (congrArg Task.lastRun htown :).trans (congrArg Task.lastRun hvown :)
  · exact ((congrArg Task.longestRun htown :).trans (congrArg Task.longestRun hvown :)).trans
      (congrArg (fun k : Task => max k.longestRun d.run) hwown :)
  · exact (congrArg Task.faults htown :).trans (congrArg Task.faults hvown :)
  · have hclose : AreaStands n w (e.cycleCloses n d c) := .modTask (fun _ => by rfl) w
    have hall := ((hw.toAreaStands.trans hclose).trans hv.toAreaStands).trans ((nextHeld_area v n).trans ht.toAreaStands)
    exact (hall.area (he.trans (commitLines_resync e d.lines).symm)).trans (commitLines_area e d.lines)

end Sys2Proof.Machine
end

section
/-!
PROOFS. Task faults and recovery runs (R142, R145, R146), slice loads (R133, R134) and repeats (R552).
-/
namespace Sys2Proof.Machine

variable {n : Nat}

/-! ## TASK_FAULT (R142, R145) -/

theorem lane_ev (s : State) (k : Nat) (l : List Nat) (b : List Byte) : (s.lane k l b).ev = s.ev := by
  unfold State.lane
  split <;> rfl

theorem driveOutputs_ev (s : State) (ao : List (Nat × Nat)) (dos : List (Nat × Bool)) : (s.driveOutputs ao dos).ev = s.ev := by
  have hao : ∀ (t : State) (k v : Nat), (t.setAoCmd k v).ev = t.ev := fun t k v => by
    unfold State.setAoCmd
    split <;> rfl
  unfold State.driveOutputs
  exact (foldl_reading State.ev (fun t ⟨m, v⟩ => rfl) _).trans (foldl_reading State.ev (fun t ⟨k, v⟩ => hao t k v) s)

theorem driveOutputs_task (s : State) (ao : List (Nat × Nat)) (dos : List (Nat × Bool)) :
    (s.driveOutputs ao dos).tk.task = s.tk.task :=
  (kept (fun _ hm => driveOutputs_view s ao dos hm) .tasks (by decide) : Part.same s _ .tasks).1

/-- A withheld marker touches only what the task has with the partner and what waits for release (R34, R265). -/
theorem withhold_task (s : State) (k osn : Nat) :
    ∃ w p h, (s.withhold n k osn).task n = { s.task n with withheld := w, peers := p, waiting := h } := by
  unfold State.withhold
  extract_lets come t u
  have ht : t.task n = _ := modTask_task_self s n _
  have hu : u.tk.task = t.tk.task := by
    simp only [u]
    split
    · exact (kept (m := 0) (fun _ _ => lane_view t 3 _ _) .tasks (by decide) : Part.same t _ .tasks).1
    · rfl
  have hd : ∀ d, (u.mirror d).tk.task = u.tk.task := fun d => driveOutputs_task u d.ao d.dos
  have hread : ∀ v : State, v.tk.task = u.tk.task → v.task n = t.task n :=
    fun v hv => congrArg (fun k : Tab Task => tget k n {}) (hv.trans hu)
  refine ⟨_, _, _, Eq.trans ?_ ht⟩
  clear_value come
  cases come with
  | none => exact hread u rfl
  | some d => exact hread _ (hd d)

theorem withhold_ev (s : State) (m k osn : Nat) : (s.withhold m k osn).ev = s.ev := by
  unfold State.withhold
  extract_lets come t u
  have hu : u.ev = s.ev := by
    simp only [u]
    split
    · exact lane_ev t 3 _ _
    · rfl
  clear_value come
  cases come with
  | none => exact hu
  | some d => exact (driveOutputs_ev u d.ao d.dos).trans hu

theorem eff_of_same {s t : State} (hc : Part.same s t .effect) (hm : Part.same s t .mu) (i : Nat) : t.eff i = s.eff i := by
  obtain ⟨hbase, hloaded, -⟩ := hc
  have hmu : t.mu = s.mu := hm
  unfold State.eff State.mode
  rw [hbase, hloaded, hmu]

section
variable {s : State} {c : Cycle} (hc : s.cyc n = some c)
include hc

/-- An abandoned cycle is gone (R142). -/
theorem abandon_task (k : Nat) :
    ∃ w p h, (s.abandon n k).task n = { s.task n with cyc := none, withheld := w, peers := p, waiting := h } := by
  unfold State.abandon
  rw [hc]
  dsimp only
  let t := s.modTask n (fun k => { k with cyc := none })
  have ht : t.task n = { s.task n with cyc := none } := modTask_task_self s n _
  split
  · exact ⟨_, _, _, ht⟩
  · obtain ⟨w, p, h, hw⟩ := withhold_task (n := n) t k c.osn
    exact ⟨w, p, h, by rw [hw, ht]⟩

theorem abandon_ev (k : Nat) : (s.abandon n k).ev = s.ev := by
  unfold State.abandon
  rw [hc]
  dsimp only
  let t := s.modTask n (fun k => { k with cyc := none })
  split
  · rfl
  · exact withhold_ev t n k c.osn

end

/-- A fault abandons the cycle, tells EV019 and counts (R142, R145). -/
def State.cycleFaults (s : State) (n cause addr : Nat) (c : Cycle) : State :=
  (((s.abandon n 1).raise 19 [(1, n), (1, cause), (4, c.osn), (8, addr)]).noteFault n cause).modTask n (fun k => { k with
    faults := k.faults + 1, executed := satInc 32 k.executed, lost := if c.recovery then false else k.lost
    recovering := k.recovering && !k.heldStarts.isEmpty })

section
variable {s : State} {c : Cycle} (hc : s.cyc n = some c) (cause addr : Nat)
include hc

theorem cycleFaults_task : ∃ w p h l r, (s.cycleFaults n cause addr c).task n = { s.task n with
    cyc := none, withheld := w, peers := p, waiting := h, faults := (s.task n).faults + 1
    executed := satInc 32 (s.task n).executed, lost := l, recovering := r } := by
  obtain ⟨w, p, h, ha⟩ := abandon_task hc 1
  let t := ((s.abandon n 1).raise 19 [(1, n), (1, cause), (4, c.osn), (8, addr)]).noteFault n cause
  have ht : t.task n = (s.abandon n 1).task n :=
    (congrArg (fun k : Tasks => tget k.task n {}) (raise_tk (s.abandon n 1) 19 [(1, n), (1, cause), (4, c.osn), (8, addr)]) :)
  have hf : (s.cycleFaults n cause addr c).task n = _ := modTask_task_self t n _
  rw [ht, ha] at hf
  exact ⟨w, p, h, _, _, hf⟩

/-- EV019 stands in what has the same events (R145). -/
theorem cycleFaults_occurs {t : State} (ht : t.ev = (s.cycleFaults n cause addr c).ev) :
    Occurs s t 19 [(1, n), (1, cause), (4, c.osn), (8, addr)] := by
  refine occurs_raise (u := s.abandon n 1) (congrArg Events.src ht) rfl (congrArg (fun v => tget v.src 19 {}) (abandon_ev hc 1)) ?_
  have h : (s.abandon n 1).clk = s.clk := kept (fun _ hm => abandon_view s n 1 hm) .clk (by decide)
  exact congrArg Clk.tb h

omit hc in
theorem cycleFaults_eff (i : Nat) : (s.cycleFaults n cause addr c).eff i = s.eff i := by
  have habandon : (s.abandon n 1).eff i = s.eff i :=
    eff_of_same (kept (fun _ hm => abandon_view s n 1 hm) .effect (by decide))
      (kept (fun _ hm => abandon_view s n 1 hm) .mu (by decide)) i
  exact (raise_eff (s.abandon n 1) 19 _ i).trans habandon

/-- Below TaskFaultLimit the next held start opens (R145, R146). -/
theorem taskFault_goesOn (hlim : s.eff 0x03C4 = 0 ∨ (s.task n).faults + 1 < s.eff 0x03C4) :
    s.taskFault n cause addr = (s.cycleFaults n cause addr c).nextHeld n := by
  obtain ⟨_, _, _, _, _, ht⟩ := cycleFaults_task hc cause addr
  have hgo : ¬ ((s.cycleFaults n cause addr c).eff 0x03C4 ≠ 0 ∧
      (s.cycleFaults n cause addr c).eff 0x03C4 ≤ ((s.cycleFaults n cause addr c).task n).faults ∧
      (!((s.cycleFaults n cause addr c).task n).stopped) = true) := by
    rw [cycleFaults_eff, ht]
    rintro ⟨h0, hle, -⟩
    rcases hlim with h | h
    · exact h0 h
    · exact absurd hle (Nat.not_le.mpr h)
  unfold State.taskFault
  rw [hc]
  exact if_neg hgo

/-- At TaskFaultLimit the task is stopped, with no start held (R145). -/
theorem taskFault_stops (h0 : s.eff 0x03C4 ≠ 0) (hlim : s.eff 0x03C4 ≤ (s.task n).faults + 1) (hs : (s.task n).stopped = false) :
    (s.taskFault n cause addr).cyc n = none ∧ ((s.taskFault n cause addr).task n).stopped = true ∧
      ((s.taskFault n cause addr).task n).heldStarts = [] ∧
      (s.taskFault n cause addr).tk.lastFault = n * 16777216 + 5 * 65536 := by
  obtain ⟨_, _, _, _, _, ht⟩ := cycleFaults_task hc cause addr
  have hstop : (s.cycleFaults n cause addr c).eff 0x03C4 ≠ 0 ∧
      (s.cycleFaults n cause addr c).eff 0x03C4 ≤ ((s.cycleFaults n cause addr c).task n).faults ∧
      (!((s.cycleFaults n cause addr c).task n).stopped) = true := by
    rw [cycleFaults_eff, ht]
    exact ⟨h0, hlim, by rw [hs]; rfl⟩
  let u := (s.cycleFaults n cause addr c).modTask n (fun k => { k with stopped := true, heldStarts := [] })
  let v := (u.raise 19 [(1, n), (1, 5), (4, c.osn), (8, 0)]).noteFault n 5
  have hfault : s.taskFault n cause addr = (v.taskAos n).foldl State.aoFault v := by
    unfold State.taskFault
    rw [hc]
    exact if_pos hstop
  have htk : (s.taskFault n cause addr).tk = { u.tk with lastFault := n * 16777216 + 5 * 65536 } := by
    rw [hfault]
    refine (foldl_reading (f := State.aoFault) State.tk (fun t a => by rfl) v).trans ?_
    exact (congrArg (fun k : Tasks => { k with lastFault := n * 16777216 + 5 * 65536 }) (raise_tk u 19 _) :)
  have htask : (s.taskFault n cause addr).task n = u.task n := (congrArg (fun k : Tasks => tget k.task n {}) htk :)
  have hu : u.task n = _ := modTask_task_self (s.cycleFaults n cause addr c) n _
  rw [ht] at hu
  exact ⟨congrArg Task.cyc (htask.trans hu), congrArg Task.stopped (htask.trans hu), congrArg Task.heldStarts (htask.trans hu),
    (congrArg Tasks.lastFault htk :)⟩

end

/-- The row of a fault of cause 1 to 3: only an instruction fault has an address (R145). -/
theorem exec_taskFault {dt cause : Nat} {addr : U64} {s : State} (hn : n < 32) (hcause : cause = 1 ∨ cause = 2 ∨ cause = 3)
    (hr : (s.elapse dt).runsNow n = true) : exec (.taskFault dt n cause addr) s =
      .next ((s.elapse dt).taskFault n cause (if cause = 3 then 0 else addr.toNat)) := by
  have hgo : ¬ (!(s.elapse dt).runsNow n) = true := by simp [hr]
  refine congrArg Host.Outcome.next ((if_pos hn).trans ((if_neg hgo).trans ?_))
  rcases hcause with rfl | rfl | rfl <;> rfl

theorem taskFault_row_goesOn {dt cause : Nat} {addr : U64} {c : Cycle} {s : State} (hn : n < 32)
    (hcause : cause = 1 ∨ cause = 2 ∨ cause = 3) (hc : s.cyc n = some c) (hr : (s.elapse dt).runsNow n = true)
    (hlim : s.eff 0x03C4 = 0 ∨ (s.task n).faults + 1 < s.eff 0x03C4) :
    ∃ t, exec (.taskFault dt n cause addr) s = .next t ∧ t.cyc n = (s.task n).heldStarts.head? ∧
      (t.task n).faults = (s.task n).faults + 1 ∧ (t.task n).executed = satInc 32 (s.task n).executed ∧
      (t.task n).area = (s.task n).area ∧ (t.task n).prev = (s.task n).prev ∧
      t.tk.lastFault = n * 16777216 + cause * 65536 ∧
      Occurs (s.elapse dt) t 19 [(1, n), (1, cause), (4, c.osn), (8, if cause = 3 then 0 else addr.toNat)] := by
  let a := if cause = 3 then 0 else addr.toNat
  have hce : (s.elapse dt).cyc n = some c := hc
  let f := (s.elapse dt).cycleFaults n cause a c
  obtain ⟨w, p, h, l, r, hf⟩ := cycleFaults_task hce cause a
  obtain ⟨o, q, hnext⟩ := nextHeld_task f n
  have htask : (f.nextHeld n).task n = { f.task n with cyc := o, heldStarts := q } := hnext
  rw [hf] at htask
  have hcyc : (f.nextHeld n).cyc n = (f.task n).heldStarts.head? := nextHeld_cyc (congrArg Task.cyc hf :)
  refine ⟨f.nextHeld n, (exec_taskFault hn hcause hr).trans (congrArg Host.Outcome.next (taskFault_goesOn hce cause a hlim)),
    hcyc.trans (congrArg (fun k : Task => k.heldStarts.head?) hf :), (congrArg Task.faults htask :),
    (congrArg Task.executed htask :), (congrArg Task.area htask :), (congrArg Task.prev htask :), nextHeld_lastFault f n,
    cycleFaults_occurs hce cause a (nextHeld_ev f n)⟩

theorem taskFault_row_stops {dt cause : Nat} {addr : U64} {c : Cycle} {s : State} (hn : n < 32)
    (hcause : cause = 1 ∨ cause = 2 ∨ cause = 3) (hc : s.cyc n = some c) (hr : (s.elapse dt).runsNow n = true)
    (h0 : s.eff 0x03C4 ≠ 0) (hlim : s.eff 0x03C4 ≤ (s.task n).faults + 1) (hs : (s.task n).stopped = false) :
    ∃ t, exec (.taskFault dt n cause addr) s = .next t ∧ t.cyc n = none ∧ (t.task n).stopped = true ∧
      (t.task n).heldStarts = [] ∧ t.tk.lastFault = n * 16777216 + 5 * 65536 :=
  ⟨_, exec_taskFault hn hcause hr, taskFault_stops (s := s.elapse dt) hc cause _ h0 hlim hs⟩

/-! ## The recovery run (R146) -/

theorem recoveryRunStart_reopens {dt : Nat} {c : Cycle} {s : State} (hn : n < 32) (hc : (s.task n).abandoned = some c)
    (hfirst : (s.pairTasks (s.taskPair n)).all (fun m => m == n || (s.task m).abandoned.isNone) = true)
    (hb : (s.elapse dt).blocked (s.taskPair n) = false) :
    ∃ t, exec (.recoveryRunStart dt n) s = .next t ∧ t.cyc n = some { c with loaded := true } ∧ (t.task n).abandoned = none ∧
      t.tk.restarts = s.tk.restarts + 1 ∧
      Occurs (s.elapse dt) t 72 [(1, s.taskPair n), (1, n), (4, c.osn), (1, (s.task n).heldStarts.length)] := by
  let e := s.elapse dt
  let u := e.modTask n (fun k => { k with abandoned := none, cyc := some { c with loaded := true } })
  let v : State := { u with tk := { u.tk with restarts := u.tk.restarts + 1 } }
  have hu : u.task n = { e.task n with abandoned := none, cyc := some { c with loaded := true } } := modTask_task_self e n _
  have hexec : exec (.recoveryRunStart dt n) s =
      .next (v.raise 72 [(1, s.taskPair n), (1, n), (4, c.osn), (1, (v.task n).heldStarts.length)]) := by
    have hahead : ∀ q : Nat → Bool,
        (e.pairTasks (e.taskPair n)).any (fun m => m != n && (e.task m).abandoned.isSome && q m) = false := fun q => by
      refine List.any_eq_false.mpr fun m hm => ?_
      have hone : (m == n || (s.task m).abandoned.isNone) = true := List.all_eq_true.mp hfirst m hm
      simp only [Bool.or_eq_true, beq_iff_eq, Option.isNone_iff_eq_none] at hone
      rcases hone with rfl | hnone
      · simp
      · simp [show (e.task m).abandoned = none from hnone]
    change execRecoveryRunStart dt n s = _
    unfold execRecoveryRunStart
    refine (if_neg (Nat.not_le.mpr hn)).trans ?_
    dsimp only
    rw [show ((s.elapse dt).task n).abandoned = some c from hc]
    exact if_neg (by rw [hahead, show (s.elapse dt).blocked ((s.elapse dt).taskPair n) = false from hb]; exact Bool.false_ne_true)
  have htask : ∀ d, ((v.raise 72 d).task n) = u.task n := fun d => (congrArg (fun k : Tasks => tget k.task n {}) (raise_tk v 72 d) :)
  rw [show (v.task n).heldStarts = (s.task n).heldStarts from (congrArg Task.heldStarts hu :)] at hexec
  exact ⟨_, hexec, congrArg Task.cyc ((htask _).trans hu), congrArg Task.abandoned ((htask _).trans hu),
    congrArg Tasks.restarts (raise_tk v 72 _), occurs_raise rfl rfl rfl rfl⟩

/-! ## Loads and repeats (R133, R134, R552) -/

theorem unloaded_of_loadsNext {s : State} {c : Cycle} (hc : s.cyc n = some c) (h : s.loadsNext n = true) : c.loaded = false := by
  unfold State.loadsNext at h
  dsimp only at h
  rw [hc] at h
  cases hl : c.loaded with
  | false => rfl
  | true => simp [hl] at h

theorem sliceLoad_loads {dt : Nat} {c : Cycle} {s : State} (hn : n < 32) (hc : s.cyc n = some c)
    (h : (s.elapse dt).loadsNext n = true) :
    ∃ t, exec (.sliceLoad dt n) s = .next t ∧ t.cyc n = some { c with loaded := true } := by
  let e := s.elapse dt
  have hce : e.cyc n = some c := hc
  have hexec : exec (.sliceLoad dt n) s = .next (e.sliceLoad n) := congrArg Host.Outcome.next ((if_pos hn).trans (if_pos h))
  have hnew : ¬ c.loaded = true := Bool.eq_false_iff.mp (unloaded_of_loadsNext hce h)
  refine ⟨e.sliceLoad n, hexec, ?_⟩
  unfold State.sliceLoad
  rw [hce]
  exact (congrArg (State.cyc · n) (if_neg hnew)).trans (congrArg Task.cyc (modTask_task_self _ n _))

theorem repeatFrameSend_repeats {dt at_ : Nat} {y : Payload} {s : State} (hn : n < 32) (hdue : (s.elapse dt).repeatDue n = some at_)
    (hy : (s.task n).payload = some y) (hrole : s.role = .solo) (hmode : s.mode = .m7) (hon : s.taskOn n = true)
    (hstart : (s.task n).startTick ≠ some (s.elapse dt).tick) :
    ∃ t, exec (.repeatFrameSend dt n) s = .next t ∧ (t.task n).osn = wrapInc 32 (s.task n).osn ∧
      (t.task n).startTick = some (s.elapse dt).tick ∧ (t.task n).payload = some y := by
  let e := s.elapse dt
  let osn := wrapInc 32 (s.task n).osn
  let u := e.modTask n (fun k => { k with osn := osn, startTick := some e.tick })
  have hexec : exec (.repeatFrameSend dt n) s = .next (u.sendPayload true n osn y) := by
    refine congrArg Host.Outcome.next ((if_pos hn).trans ?_)
    unfold State.repeatFrame
    rw [hdue, show ((s.elapse dt).task n).payload = some y from hy]
    refine if_pos ?_
    have hfree : ((e.task n).startTick != some e.tick) = true := bne_iff_ne.mpr hstart
    rw [show (s.elapse dt).role = .solo from hrole, show (s.elapse dt).mode = .m7 from hmode,
      show (s.elapse dt).taskOn n = true from hon, hfree]
    rfl
  have hu : u.task n = { e.task n with osn := osn, startTick := some e.tick } := modTask_task_self e n _
  have hown := (sendPayload_aside (n := n) u true n osn y).own
  rw [hu] at hown
  exact ⟨_, hexec, (congrArg Task.osn hown :), (congrArg Task.startTick hown :), (congrArg Task.payload hown :).trans hy⟩

end Sys2Proof.Machine
end

section
/-!
PROOFS. The releases of a cycle: in time (R33, R420), and with its digest late by DigestWait (R34).
-/
namespace Sys2Proof.Machine

variable {n : Nat}

/-! ## The digital outputs that a release drives (R420) -/

theorem setSw_cmd_self (s : State) (m : Nat) (v : Bool) : ((s.setSw m v).sw m).cmd = v :=
  congrArg Switch.cmd (modSw_sw_self s m _)

theorem setSw_sw_ne (s : State) (v : Bool) {m k : Nat} (h : k ≠ m) : (s.setSw m v).sw k = s.sw k := modSw_sw_ne s m _ h

theorem foldl_setSw_sw_of_notMem {dos : List (Nat × Bool)} {m : Nat} (h : m ∉ dos.map Prod.fst) (s : State) :
    (dos.foldl (fun s (m, v) => s.setSw m v) s).sw m = s.sw m := by
  induction dos generalizing s with
  | nil => rfl
  | cons x dos ih =>
    obtain ⟨hne, hrest⟩ := not_or.mp (mt List.mem_cons.mpr h)
    exact (ih hrest (s.setSw x.1 x.2)).trans (setSw_sw_ne s x.2 hne)

/-- Of outputs that are each driven once, every one has its value. -/
theorem foldl_setSw_cmd {dos : List (Nat × Bool)} (hnd : (dos.map Prod.fst).Nodup) (s : State) :
    ∀ x ∈ dos, ((dos.foldl (fun s (m, v) => s.setSw m v) s).sw x.1).cmd = x.2 := by
  induction dos generalizing s with
  | nil => exact fun _ hx => absurd hx List.not_mem_nil
  | cons y dos ih =>
    obtain ⟨hy, hrest⟩ := List.nodup_cons.mp hnd
    intro x hx
    rcases List.mem_cons.mp hx with rfl | hx
    · exact (congrArg Switch.cmd (foldl_setSw_sw_of_notMem hy (s.setSw x.1 x.2))).trans (setSw_cmd_self s x.1 x.2)
    · exact ih hrest (s.setSw y.1 y.2) x hx

/-- A cycle drives each of its digital outputs once. -/
theorem cycleDos_nodup (s : State) (bp : List (Nat × Nat)) : ((s.cycleDos n bp).map Prod.fst).Nodup := by
  unfold State.cycleDos State.taskDos
  rw [List.map_filterMap]
  refine List.Nodup.filterMap (fun a b c ha hb => ?_) (List.nodup_range.filter _)
  simp only [Option.map_map, Option.mem_def, Option.map_eq_some_iff] at ha hb
  obtain ⟨_, _, rfl⟩ := ha
  obtain ⟨_, _, h⟩ := hb
  exact h.symm

theorem cycleDos_of_same {s t : State} (heff : ∀ i, t.eff i = s.eff i) (htk : t.tk.prog = s.tk.prog) (hid : t.ident = s.ident)
    (bp : List (Nat × Nat)) : t.cycleDos n bp = s.cycleDos n bp := by
  unfold State.cycleDos State.taskDos State.doTask State.doOn State.doSource State.doConfig State.has
  simp only [heff, htk, hid]

/-! ## The release (R33) -/

/-- What a release takes from the cycles that wait (R33). -/
def State.unhold (s : State) (n : Nat) (h : Held) : State :=
  s.modTask n (fun k => { k with
    waiting := k.waiting.filter (fun x => x.osn != h.osn),
    peers := k.peers.filter (fun x => x.osn != h.osn),
    markers := k.markers.filter (· != h.osn) })

theorem unhold_waiting (s : State) (h : Held) :
    ((s.unhold n h).task n).waiting = (s.task n).waiting.filter (fun x => x.osn != h.osn) :=
  congrArg Task.waiting (modTask_task_self s n _)

section
variable {s : State} (h : Held)

/-- A release by a module that is not isolated drives the outputs, sends the payload and keeps it (R33, R420). -/
theorem release_drives (hr : s.role ≠ .isolated) : ∃ (v : State) (p : Payload),
    s.release n h = v.modTask n (fun k => { k with payload := some p }) ∧ v.tk.task = (s.unhold n h).tk.task ∧
      ∀ x ∈ s.cycleDos n h.bp, (v.sw x.1).cmd = x.2 := by
  let u := s.unhold n h
  let w := u.driveOutputs (u.cycleAos n h.ap) (u.cycleDos n h.bp)
  let p : Payload := ⟨h.stamp, (w.stationsOf n).map (fun (k, e) => (k, w.stationPayload e h.ap h.bp))⟩
  let x := w.sendPayload false n h.osn p
  refine ⟨x.canRelease h.tx, p, if_neg hr, ?_, fun y hy => ?_⟩
  · have hcan : Part.same x (x.canRelease h.tx) .tasks := kept (fun _ hm => canRelease_view x h.tx hm) .tasks (by decide)
    have hsent : Part.same w x .tasks := kept (fun _ hm => sendPayload_view w false n h.osn p hm) .tasks (by decide)
    exact hcan.1.trans (hsent.1.trans (driveOutputs_task u _ _))
  · have hcan : (x.canRelease h.tx).dio = x.dio := kept (fun _ hm => canRelease_view x h.tx hm) .dio (by decide)
    have hsent : x.dio = w.dio := kept (fun _ hm => sendPayload_view w false n h.osn p hm) .dio (by decide)
    have hdos : u.cycleDos n h.bp = s.cycleDos n h.bp := cycleDos_of_same (fun _ => rfl) rfl rfl h.bp
    have hw : (w.sw y.1).cmd = y.2 := foldl_setSw_cmd (cycleDos_nodup u h.bp) _ y (hdos ▸ hy)
    exact (congrArg (fun d => (tget d.sw y.1 {}).cmd) (hcan.trans hsent)).trans hw

theorem release_waiting (s : State) :
    ((s.release n h).task n).waiting = (s.task n).waiting.filter (fun x => x.osn != h.osn) := by
  by_cases hr : s.role = .isolated
  · exact (congrArg (fun t : State => (t.task n).waiting) (if_pos hr)).trans (unhold_waiting s h)
  · obtain ⟨v, p, hv, htask, -⟩ := release_drives (n := n) h hr
    rw [hv, modTask_task_self]
    exact (congrArg (fun k : Tab Task => (tget k n {}).waiting) htask).trans (unhold_waiting s h)

theorem release_outputs (hr : s.role ≠ .isolated) :
    (∀ x ∈ s.cycleDos n h.bp, ((s.release n h).sw x.1).cmd = x.2) ∧ ((s.release n h).task n).payload.isSome = true := by
  obtain ⟨v, p, hv, -, hdos⟩ := release_drives (n := n) h hr
  rw [hv]
  exact ⟨hdos, by rw [modTask_task_self]; rfl⟩

end

theorem osn_of_find {l : List Held} {osn : Nat} {h : Held} (hf : l.find? (·.osn == osn) = some h) : h.osn = osn :=
  eq_of_beq (List.find?_some hf :)

theorem cycleRelease_releases {dt osn : Nat} {h : Held} {s : State} (hn : n < 32)
    (hf : (s.task n).waiting.find? (·.osn == osn) = some h) (hr : s.releasable n h = true) :
    ∃ t, exec (.cycleRelease dt n osn) s = .next t ∧
      (t.task n).waiting = (s.task n).waiting.filter (fun y => y.osn != osn) ∧
      (s.role ≠ .isolated → (∀ x ∈ s.cycleDos n h.bp, (t.sw x.1).cmd = x.2) ∧ (t.task n).payload.isSome = true) := by
  let e := s.elapse dt
  have hexec : exec (.cycleRelease dt n osn) s = .next (e.release n h) := by
    refine congrArg Host.Outcome.next ((if_pos hn).trans ?_)
    unfold State.tryRelease
    rw [show ((s.elapse dt).task n).waiting.find? (·.osn == osn) = some h from hf]
    exact if_pos hr
  exact ⟨_, hexec, osn_of_find hf ▸ release_waiting h e, release_outputs (s := e) h⟩

/-! ## A digest late by DigestWait (R34) -/

theorem digestWaitExpiry_releases {dt osn : Nat} {h : Held} {s : State} (hn : n < 32)
    (hf : (s.task n).waiting.find? (·.osn == osn) = some h) (hrole : s.role = .primary) (hawait : s.awaitsPartner = true)
    (hr : s.releasable n h = false) (hlate : (s.elapse dt).since h.ready (s.eff 0x0202 * Config.ticksPerUs) = true) :
    ∃ t, exec (.digestWaitExpiry dt n osn) s = .next t ∧ t.pair.lateDigests = s.pair.lateDigests + 1 ∧
      (t.task n).waiting = (s.task n).waiting.filter (fun y => y.osn != osn) ∧
      (∀ x ∈ s.cycleDos n h.bp, (t.sw x.1).cmd = x.2) := by
  let e := s.elapse dt
  let u := e.modPair (fun p => { p with lateDigests := p.lateDigests + 1 })
  let v := u.raise 44 [(1, n), (4, osn)]
  have hexec : exec (.digestWaitExpiry dt n osn) s = .next (v.release n h) := by
    refine congrArg Host.Outcome.next ((if_pos hn).trans ?_)
    unfold State.digestLate
    rw [show ((s.elapse dt).task n).waiting.find? (·.osn == osn) = some h from hf]
    exact if_pos ⟨hrole, hawait, congrArg not hr, hlate⟩
  have hpair : Part.same v (v.release n h) .pair := kept (fun _ hm => release_view v n h hm) .pair (by decide)
  have hcount : (v.release n h).pair.lateDigests = v.pair.lateDigests := (congrArg Pair.lateDigests hpair :)
  have hwaiting : (v.task n).waiting = (s.task n).waiting :=
    (congrArg (fun k : Tasks => (tget k.task n {}).waiting) (raise_tk u 44 [(1, n), (4, osn)]) :)
  have hprimary : v.role ≠ .isolated := by
    rw [raise_role, show u.role = .primary from hrole]
    exact Role.noConfusion
  have hdos : v.cycleDos n h.bp = s.cycleDos n h.bp :=
    cycleDos_of_same (raise_eff u 44 _) (congrArg Tasks.prog (raise_tk u 44 _)) (raise_ident u 44 _) h.bp
  refine ⟨_, hexec, hcount.trans (congrArg Pair.lateDigests (raise_pair u 44 _)), ?_, hdos ▸ (release_outputs h hprimary).1⟩
  rw [release_waiting, hwaiting, osn_of_find hf]

end Sys2Proof.Machine
end

section
/-!
PROOFS. Due starts (R128, R129, R133, R139, R146): what decides over a start stands until its cycle opens.
-/
namespace Sys2Proof.Machine

variable {n : Nat}

/-! ## What decides over a start -/

/-- What a task itself has to say on whether its starts are held (R146). -/
def Task.holding (k : Task) : Bool × Option Cycle × Option Cycle := (k.lost, k.abandoned, k.cyc)

/-- From `s` to `t` nothing changes of what decides whether a start of task `n` opens, is held or lost. -/
structure GuardsStand (n : Nat) (s t : State) : Prop where
  holding : (t.task n).holding = (s.task n).holding
  eff : ∀ i, t.eff i = s.eff i
  cores : t.lk.pair = s.lk.pair
  annex : t.annex = s.annex
  sup : t.sup = s.sup
  departure : t.pair.departure = s.pair.departure

namespace GuardsStand

variable {s t u : State}

theorem trans (h : GuardsStand n s t) (h' : GuardsStand n t u) : GuardsStand n s u :=
  ⟨h'.holding.trans h.holding, fun i => (h'.eff i).trans (h.eff i), h'.cores.trans h.cores, h'.annex.trans h.annex,
    h'.sup.trans h.sup, h'.departure.trans h.departure⟩

/-- What happens beside the task and keeps the configuration, the core pairs, the supply and the pair. -/
theorem of_aside {m : Nat} (ha : Aside n s t) (h : ∀ hid, Sub m hid → t.view hid = s.view hid)
    (hm : ∀ p ∈ [Part.effect, .mu, .lockstep, .annex, .sup, .pair], m.testBit p.bit = false) : GuardsStand n s t where
  holding := (congrArg Task.holding ha.own :)
  eff := eff_of_same (kept h .effect (hm .effect (by decide))) (kept h .mu (hm .mu (by decide)))
  cores := (kept h .lockstep (hm .lockstep (by decide)) : Part.same s t .lockstep).1
  annex := kept h .annex (hm .annex (by decide))
  sup := kept h .sup (hm .sup (by decide))
  departure := (congrArg Pair.departure (kept h .pair (hm .pair (by decide)) : Part.same s t .pair) :)

theorem holdsStarts (h : GuardsStand n s t) : t.holdsStarts n = s.holdsStarts n := by
  obtain ⟨hlost, habandoned, hcyc⟩ : (t.task n).lost = (s.task n).lost ∧ (t.task n).abandoned = (s.task n).abandoned ∧
    (t.task n).cyc = (s.task n).cyc := ⟨congrArg Prod.fst h.holding, congrArg (·.2.1) h.holding, congrArg (·.2.2) h.holding⟩
  unfold State.holdsStarts State.corePair State.taskPair State.taskCtl
  dsimp only
  rw [hlost, habandoned, hcyc, h.cores, h.annex, h.eff]

theorem startsNoMore (h : GuardsStand n s t) : t.startsNoMore = s.startsNoMore := by
  unfold State.startsNoMore
  rw [h.sup, h.departure]

end GuardsStand

/-! ## The next OSN (R129) -/

/-- The start takes the next OSN and answers its triggers (R129, R551). -/
def State.startTaken (s : State) (n : Nat) : State :=
  let u := s.modTask n (fun k => { k with
    osn := wrapInc 32 (s.task n).osn, startTick := some s.tick, due := k.due.drop 1, trigger := none, awaited := none })
  match (s.task n).trigger with
  | some (_, ids) => ids.foldl (fun (t : State) id => t.complete id .ok (beBytes 4 (wrapInc 32 (s.task n).osn))) u
  | none => u

/-- A reading that no answer to a trigger touches. -/
theorem startTaken_reading {α : Type} (g : State → α) (hg : ∀ t id st b, g (State.complete t id st b) = g t) (s : State) :
    g (s.startTaken n) = g (s.modTask n (fun k => { k with
      osn := wrapInc 32 (s.task n).osn, startTick := some s.tick, due := k.due.drop 1, trigger := none, awaited := none })) := by
  unfold State.startTaken
  extract_lets u
  split
  · exact foldl_reading g (fun t id => hg t id _ _) u
  · rfl

theorem startTaken_task (s : State) : (s.startTaken n).task n = { s.task n with
    osn := wrapInc 32 (s.task n).osn, startTick := some s.tick, due := (s.task n).due.drop 1, trigger := none, awaited := none } :=
  (startTaken_reading (State.task · n) (fun t id st b => congrArg (fun k : Tasks => tget k.task n {}) (complete_tk t id st b)) s).trans
    (modTask_task_self s n _)

theorem startTaken_inGap (s : State) : (s.startTaken n).inGap = s.inGap := by
  have h : (s.startTaken n).tk.switch = s.tk.switch :=
    startTaken_reading (fun t => t.tk.switch) (fun t id st b => congrArg Tasks.switch (complete_tk t id st b)) s
  unfold State.inGap
  rw [h]

theorem startTaken_guards (s : State) : GuardsStand n s (s.startTaken n) where
  holding := (congrArg Task.holding (startTaken_task s) :)
  eff i := startTaken_reading (State.eff · i) (fun t id st b => complete_eff t id st b i) s
  cores := startTaken_reading (fun t => t.lk.pair) (fun t id st b => by rw [complete_lk]) s
  annex := startTaken_reading State.annex complete_annex s
  sup := startTaken_reading State.sup complete_sup s
  departure := startTaken_reading (fun t => t.pair.departure) (fun t id st b => by rw [complete_pair]) s

theorem Aside.osn {s t : State} (h : Aside n s t) : (t.task n).osn = (s.task n).osn := (congrArg Task.osn h.own :)

/-! ## A start that is skipped (R139) or lost (R146) -/

theorem skipStart_task (s : State) (osn : Nat) (told : Bool) :
    (s.skipStart n osn told).task n = { s.task n with skips := satInc 32 (s.task n).skips } := by
  unfold State.skipStart
  extract_lets t
  have ht : t.task n = { s.task n with skips := satInc 32 (s.task n).skips } := modTask_task_self s n _
  split
  · exact (congrArg (fun k : Tasks => tget k.task n {}) (raise_tk t 10 _)).trans ht
  · exact ht

theorem loseCatchUp_osn (s : State) (osn : Nat) : ((s.loseCatchUp n osn).task n).osn = (s.task n).osn := by
  have hskip : ∀ (t : State) (k : Nat), (((t.skipStart n k true).withhold n 5 k).task n).osn = (t.task n).osn := fun t k =>
    (withhold_aside (t.skipStart n k true) n 5 k).osn.trans
      (congrArg Task.osn (skipStart_task t k true) :)
  have hskips : ∀ l : List Cycle,
      ((l.foldl (fun t c => (State.skipStart t n c.osn true).withhold n 5 c.osn) s).task n).osn = (s.task n).osn := fun l =>
    foldl_reading (fun t => (t.task n).osn) (fun t (c : Cycle) => hskip t c.osn) s
  unfold State.loseCatchUp
  extract_lets t u v w x
  have ht : (t.task n).osn = (s.task n).osn := hskips _
  have hu : u.task n = { t.task n with heldStarts := [], lost := (t.task n).recovering } := modTask_task_self t n _
  have hw : (w.task n).osn = (t.task n).osn :=
    (congrArg (fun k : Tasks => (tget k.task n {}).osn) (raise_tk u 19 [(1, n), (1, 4), (4, osn), (8, 0)]) :).trans
      (congrArg Task.osn hu :)
  have hx : (x.task n).osn = (s.task n).osn := (hskip w osn).trans (hw.trans ht)
  have hlost : Aside n x (if x.role = .primary then x.raiseFlag 2 else if x.role = .standby then x.diverge 4 n osn else x) :=
    .ite (raiseFlag_aside x 2) (.ite (diverge_aside x 4 n osn) (.refl x))
  exact hlost.osn.trans hx

theorem openCycle_osn (s : State) (c : Cycle) : ((s.openCycle n c).task n).osn = (s.task n).osn := by
  have hself : ∀ f : Task → Task, (∀ k, (f k).osn = k.osn) → ((s.modTask n f).task n).osn = (s.task n).osn :=
    fun f hf => (congrArg Task.osn (modTask_task_self s n f)).trans (hf _)
  unfold State.openCycle
  split
  · rfl
  · split
    · split
      · exact hself _ (fun _ => rfl)
      · exact loseCatchUp_osn s c.osn
    · exact hself _ (fun _ => rfl)

/-! ## The start of a module that decides its starts -/

theorem leadStart_osn (s : State) (t0 : Nat) : ((s.leadStart n t0).task n).osn = wrapInc 32 (s.task n).osn := by
  unfold State.leadStart
  extract_lets osn op u a
  have ha : (a.task n).osn = osn := congrArg Task.osn (startTaken_task s)
  have hskip : ∀ told, ((a.skipStart n osn told).task n).osn = osn := fun told =>
    (congrArg Task.osn (skipStart_task a osn told)).trans ha
  split
  · split
    · exact (sendPayload_aside _ true n osn _).osn.trans (hskip false)
    · exact hskip false
  split
  · exact (agree_aside _ n osn t0 none [] []).osn.trans (hskip false)
  split
  · exact (agree_aside _ n osn t0 none [] []).osn.trans (hskip true)
  split
  · exact (agree_aside _ n osn t0 none [] []).osn.trans ((loseCatchUp_osn a osn).trans ha)
  · refine (openCycle_osn _ _).trans ((agree_aside _ n osn t0 _ _ _).osn.trans ?_)
    exact (takeAux_aside _ n).osn.trans ((installForces_aside a).osn.trans ha)

section
variable {s : State} (hgap : s.inGap = false) (hstopped : (s.task n).stopped = false) (hholds : s.holdsStarts n = false)
include hgap hstopped hholds

/-- A start that finds no switch gap and its task running has these to decide over it. -/
theorem startTaken_goesOn : (s.startTaken n).inGap = false ∧ ((s.startTaken n).task n).stopped = false ∧
    (s.startTaken n).cycOpen n = s.cycOpen n ∧ (s.startTaken n).holdsStarts n = false :=
  have ha := startTaken_task (n := n) s
  ⟨(startTaken_inGap s).trans hgap, (congrArg Task.stopped ha :).trans hstopped,
    (congrArg (fun k : Task => k.cyc.isSome || k.abandoned.isSome) ha :), (startTaken_guards s).holdsStarts.trans hholds⟩

/-- A start while a cycle is open is skipped and counted (R139). -/
theorem leadStart_skips (t0 : Nat) (hopen : s.cycOpen n = true) :
    ((s.leadStart n t0).task n).skips = satInc 32 (s.task n).skips ∧ (s.leadStart n t0).cyc n = s.cyc n := by
  let a := s.startTaken n
  let osn := wrapInc 32 (s.task n).osn
  have hlead : s.leadStart n t0 = (a.skipStart n osn true).agree n osn t0 none [] [] := by
    obtain ⟨hga, hsa, hoa, hha⟩ := startTaken_goesOn hgap hstopped hholds
    have hskip : (a.cycOpen n && !a.holdsStarts n) = true := by rw [hoa, hha, hopen]; rfl
    exact (if_neg (Bool.eq_false_iff.mp hga)).trans ((if_neg (Bool.eq_false_iff.mp hsa)).trans (if_pos hskip))
  have hown := (agree_aside (n := n) (a.skipStart n osn true) n osn t0 none [] []).own
  rw [← hlead, skipStart_task, startTaken_task s] at hown
  exact ⟨(congrArg Task.skips hown :), (congrArg Task.cyc hown :)⟩

/-- A start opens a cycle on the values frozen at t0 (R133). -/
theorem leadStart_opens (t0 : Nat) (hopen : s.cycOpen n = false) (hmore : s.startsNoMore = false) :
    (s.leadStart n t0).cyc n = some ((s.startTaken n).installForces.freeze n t0 (wrapInc 32 (s.task n).osn)) := by
  let osn := wrapInc 32 (s.task n).osn
  let a := s.startTaken n
  let b := a.installForces
  let c := b.freeze n t0 osn
  let x := (b.takeAux n).2.2
  let z := x.agree n osn t0 (some c) (b.takeAux n).1 (b.takeAux n).2.1
  have hlead : s.leadStart n t0 = z.openCycle n c := by
    obtain ⟨hga, hsa, hoa, hha⟩ := startTaken_goesOn hgap hstopped hholds
    have hfree : (a.cycOpen n && !a.holdsStarts n) = false := by rw [hoa, hopen]; rfl
    have hnone : (a.holdsStarts n && decide (2 ≤ (a.task n).heldStarts.length)) = false := by rw [hha]; rfl
    exact (if_neg (Bool.eq_false_iff.mp hga)).trans ((if_neg (Bool.eq_false_iff.mp hsa)).trans
      ((if_neg (Bool.eq_false_iff.mp hfree)).trans (if_neg (Bool.eq_false_iff.mp hnone))))
  have hb : GuardsStand n a b := .of_aside (installForces_aside a) (fun _ hm => installForces_view a hm) (by decide)
  have hx : GuardsStand n b x := .of_aside (takeAux_aside b n) (fun _ hm => takeAux_view b n hm) (by decide)
  have hz : GuardsStand n x z :=
    .of_aside (agree_aside x n osn t0 _ _ _) (fun _ hm => agree_view x n osn t0 _ _ _ hm) (by decide)
  have hguards : GuardsStand n s z := (((startTaken_guards s).trans hb).trans hx).trans hz
  have hopens : z.openCycle n c = z.modTask n (fun k => { k with cyc := some c }) :=
    (if_neg (Bool.eq_false_iff.mp (hguards.startsNoMore.trans hmore))).trans
      (if_neg (Bool.eq_false_iff.mp (hguards.holdsStarts.trans hholds)))
  rw [hlead, hopens]
  exact congrArg Task.cyc (modTask_task_self z n _)

end

theorem taskDue_task (s : State) : (s.taskDue n).tk.task = (s.dueStart n).tk.task := by
  unfold State.taskDue
  extract_lets before t
  split
  · refine foldl_reading (fun u => u.tk.task) (fun u id => ?_) t
    exact (kept (fun _ hm => answerTriggers_view u id _ hm) .tasks (by decide) : Part.same u _ .tasks).1
  · rfl

theorem taskDueStart_leads {dt t0 : Nat} {s : State} (hn : n < 32) (hdue : (s.elapse dt).dueNow n = some t0)
    (hrun : s.mode.isRun = true) (hlead : s.decidesStarts = true) :
    ∃ t, exec (.taskDueStart dt n) s = .next t ∧ (t.task n).osn = wrapInc 32 (s.task n).osn ∧
      (s.inGap = false → (s.task n).stopped = false → s.cycOpen n = false → s.holdsStarts n = false → s.startsNoMore = false →
        ∃ c, t.cyc n = some c ∧ c.osn = wrapInc 32 (s.task n).osn ∧ c.t0 = t0 ∧ c.stamp = t0 ∧ c.loaded = false ∧
          c.recovery = false) ∧
      (s.inGap = false → (s.task n).stopped = false → s.cycOpen n = true → s.holdsStarts n = false →
        (t.task n).skips = satInc 32 (s.task n).skips ∧ t.cyc n = s.cyc n) := by
  let e := s.elapse dt
  have hstart : e.dueStart n = e.leadStart n t0 := by
    have hrun' : ¬ (!e.mode.isRun) = true := by rw [show e.mode.isRun = true from hrun]; exact Bool.false_ne_true
    unfold State.dueStart
    rw [hdue]
    exact (if_neg hrun').trans (if_pos hlead)
  have htask : (e.taskDue n).task n = (e.leadStart n t0).task n := by
    rw [← hstart]
    exact congrArg (fun k : Tab Task => tget k n {}) (taskDue_task e)
  refine ⟨e.taskDue n, congrArg Host.Outcome.next (if_pos hn), ?_, fun hgap hstopped hopen hholds hmore => ?_,
    fun hgap hstopped hopen hholds => ?_⟩
  · rw [htask]
    exact leadStart_osn e t0
  · have hcyc := leadStart_opens (s := e) (n := n) hgap hstopped hholds t0 hopen hmore
    exact ⟨_, (congrArg Task.cyc htask).trans hcyc, rfl, rfl, rfl, rfl, rfl⟩
  · obtain ⟨hskips, hcyc⟩ := leadStart_skips (s := e) (n := n) hgap hstopped hholds t0 hopen
    exact ⟨(congrArg Task.skips htask).trans hskips, (congrArg Task.cyc htask).trans hcyc⟩

end Sys2Proof.Machine
end

section
open Sys2Proof Sys2Proof.Machine

/-- Settles O16, row by row: due starts, slice loads, closes, releases, late digests, faults, recovery runs and repeats. -/
theorem taskRowsComplete : Obligations.TaskRowsComplete :=
  ⟨fun _ _ _ _ hn hdue hrun hlead => taskDueStart_leads hn hdue hrun hlead,
    fun _ _ _ _ hn hc h => sliceLoad_loads hn hc h,
    fun _ _ _ _ _ hn hh hc hr hlen => taskClose_commits hn hh hc hr hlen,
    fun _ _ _ _ _ hn hf hr => cycleRelease_releases hn hf hr,
    fun _ _ _ _ _ hn hf hrole hawait hr hlate => digestWaitExpiry_releases hn hf hrole hawait hr hlate,
    fun _ _ _ _ _ _ hn hcause hc hr hlim => taskFault_row_goesOn hn hcause hc hr hlim,
    fun _ _ _ _ _ _ hn hcause hc hr h0 hlim hs => taskFault_row_stops hn hcause hc hr h0 hlim hs,
    fun _ _ _ _ hn hc hfirst hb => recoveryRunStart_reopens hn hc hfirst hb,
    fun _ _ _ _ _ hn hdue hy hrole hmode hon hstart => repeatFrameSend_repeats hn hdue hy hrole hmode hon hstart⟩

end

section
/-!
PROOFS. What the phase unit reads beside its own part, and what each of its operations leaves of that part (R162–R191).
-/
namespace Sys2Proof.Machine

/-! ## The surroundings: time, mode, the set in effect -/

/-- From `s` to `t` the time, the mode, the set in effect and the variant stay: what the phase unit reads beside its own part. -/
structure SameAround (s t : State) : Prop where
  clk : t.clk = s.clk
  mu : t.mu = s.mu
  base : t.cfg.base = s.cfg.base
  loaded : t.cfg.loaded = s.cfg.loaded
  variant : t.ident.variant = s.ident.variant

namespace SameAround

variable {s t u : State}

theorem refl (s : State) : SameAround s s := ⟨rfl, rfl, rfl, rfl, rfl⟩

theorem trans (h : SameAround s t) (h' : SameAround t u) : SameAround s u :=
  ⟨h'.clk.trans h.clk, h'.mu.trans h.mu, h'.base.trans h.base, h'.loaded.trans h.loaded, h'.variant.trans h.variant⟩

/-- A function whose footprint holds neither the time base nor the mode unit nor the set in effect keeps the surroundings. -/
theorem of_view {m : Nat} (h : ∀ hid, Sub m hid → t.view hid = s.view hid)
    (hm : ∀ p ∈ [Part.clk, .mu, .effect], m.testBit p.bit = false := by decide) : SameAround s t := by
  have heffect : Part.same s t .effect := kept h .effect (hm _ (by simp))
  exact ⟨kept h .clk (hm _ (by simp)), kept h .mu (hm _ (by simp)), heffect.1, heffect.2.1, (view_name (h m (Nat.and_self m))).1⟩

theorem tick (h : SameAround s t) : t.tick = s.tick := congrArg Clk.ticks h.clk
theorem now (h : SameAround s t) : t.now = s.now := congrArg Clk.tb h.clk
theorem mode (h : SameAround s t) : t.mode = s.mode := congrArg ModeUnit.mode h.mu

theorem eff (h : SameAround s t) (i : Nat) : t.eff i = s.eff i := by
  unfold State.eff
  rw [h.base, h.loaded, h.mode, h.mu]

theorem entries (h : SameAround s t) (i : Nat) : t.entries i = s.entries i := by
  unfold State.entries
  rw [h.base, h.loaded]

theorem has (h : SameAround s t) (u : OptUnit) : t.has u = s.has u := congrArg (hasUnit · u) h.variant

theorem refPar (h : SameAround s t) (n k : Nat) : t.refPar n k = s.refPar n k := h.eff _

theorem tracks (h : SameAround s t) (n : Nat) : t.tracks n = s.tracks n := by
  unfold State.tracks
  rw [h.has, h.loaded, h.refPar, h.mode]

theorem catRuns (h : SameAround s t) : t.catRuns = s.catRuns := by
  unfold State.catRuns
  rw [h.mode, h.eff, h.has]

theorem catOf (h : SameAround s t) (n : Nat) : t.catOf n = s.catOf n := by
  unfold State.catOf
  rw [h.entries]

theorem aiLatency (h : SameAround s t) (ch : Nat) : t.aiLatency ch = s.aiLatency ch := by
  have hentry : ∀ c, t.seqEntry c = s.seqEntry c := fun c => funext fun j => by
    unfold State.seqEntry
    rw [h.eff]
  unfold State.aiLatency
  simp only [hentry, h.eff]

theorem project (h : SameAround s t) (n : Nat) (r : PhRef) (k : Nat) : t.project n r k = s.project n r k := by
  unfold State.project State.clampAt State.refKind
  simp only [h.refPar, h.aiLatency, h.now]

end SameAround

/-! ## What leaves the unit's own part alone -/

/-- Acting on points, tasks, switches, sequences and loops touches nothing of the phase unit (R181). -/
@[simp] theorem catAct_ph (s : State) (k e due : Nat) : (s.catAct k e due).ph = s.ph :=
  kept (fun _ hm => catAct_view s k e due hm) .ph (by decide)

@[simp] theorem catDo_ph (s : State) (m : Nat) (v : Bool) : (s.catDo m v).ph = s.ph :=
  kept (fun _ hm => catDo_view s m v hm) .ph (by decide)

@[simp] theorem publishBp_ph (s : State) (kind p : Nat) (v : Bool) (t : Nat) : (s.publishBp kind p v t).ph = s.ph :=
  kept (fun _ hm => publishBp_view s kind p v t hm) .ph (by decide)

@[simp] theorem phasePublish_ph (s : State) (n : Nat) : (s.phasePublish n).ph = s.ph :=
  kept (fun _ hm => phasePublish_view s n hm) .ph (by decide)

@[simp] theorem setDue_ph (s : State) (n t : Nat) : (s.setDue n t).ph = s.ph :=
  kept (fun _ hm => setDue_view s n t hm) .ph (by decide)

/-! ## Movement (R172–R174, R178) -/

/-- The unit's part without the references and the disarmed entries: what a firing changes. -/
def Phase.ledger (p : Phase) : Phase := { p with ref := [], disarmed := [] }

/-- A reference without what its movement changes. -/
def PhRef.still (r : PhRef) : PhRef :=
  { r with dphi := 0, phi := 0, clamped := false, clampFrom := none, maxClamp := 0, maxJump := 0, revs := 0 }

/-- The words a reference moves through from its phase to distance `y` from its base. -/
def PhRef.span (r : PhRef) (y : Int) : Nat := (r.dir * (y - r.dphi)).toNat

/-- The entries of reference `n` that a movement to distance `y` crosses and fires (R178, R179). -/
def State.crossed (s : State) (n : Nat) (y : Int) : List (Nat × Nat) :=
  let r := s.phRef n
  if r.lockTick == some s.tick || !s.catRuns then [] else
    (s.catOf n).filter (fun (k, e) =>
      passes r.reverse r.phi (r.span y) (fld e 0 0 32) &&
        (!tget s.ph.disarmed k false || rearms r.reverse r.phi (r.span y) (fld e 0 0 32) (s.refPar n 7)) &&
        (catDir e == 2 || (catDir e == 1) == r.reverse))

/-- What the movement makes of one entry's being disarmed (R179), `due` being the entries that fire. -/
def State.rearm (s : State) (n : Nat) (y : Int) (due : List (Nat × Nat)) (d : Tab Bool) (x : Nat × Nat) : Tab Bool :=
  let r := s.phRef n
  let p := fld x.2 0 0 32
  if due.any (·.1 == x.1) then tset d x.1 false true
  else if tget d x.1 false && (rearms r.reverse r.phi (r.span y) p (s.refPar n 7) ||
      decide (s.refPar n 7 ≤ circDist (((r.baseP : Int) + y) % fullTurn).toNat p)) then tset d x.1 false false
  else d

theorem phaseMove_due (s : State) (n : Nat) (y : Int) (c : Bool) (j : Nat) : (s.phaseMove n y c j).1 = s.crossed n y := rfl

/-- Movement changes the reference's place and the disarmed entries, and nothing else of the unit. -/
theorem phaseMove_ph (s : State) (n : Nat) (y : Int) (c : Bool) (j : Nat) : ∃ g : PhRef → PhRef,
    (s.phaseMove n y c j).2.ph = { s.ph with
      disarmed := (s.catOf n).foldl (s.rearm n y (s.crossed n y)) s.ph.disarmed, ref := tmod s.ph.ref n {} g } ∧
    ∀ r, (g r).still = r.still ∧ (g r).dphi = y ∧ (g r).clamped = c ∧
      (g r).phi = ((((s.phRef n).baseP : Int) + y) % fullTurn).toNat := by
  unfold State.phaseMove
  extract_lets r m lockTick zeroOff turn due phi dis src s1 s2 ld starts bound s3
  have hs3 : s3.ph = s2.ph := by
    simp only [s3]
    split
    · rfl
    · exact (foldl_reading State.ph (fun t a => setDue_ph t a _) _).trans (phasePublish_ph s2 n)
  exact ⟨_, hs3, fun r => ⟨rfl, rfl, rfl, rfl⟩⟩

theorem phaseMove_around (s : State) (n : Nat) (y : Int) (c : Bool) (j : Nat) : SameAround s (s.phaseMove n y c j).2 :=
  .of_view fun _ hm => phaseMove_view s n y c j hm

theorem phaseMove_ledger (s : State) (n : Nat) (y : Int) (c : Bool) (j : Nat) :
    (s.phaseMove n y c j).2.ph.ledger = s.ph.ledger := by
  obtain ⟨g, hph, -⟩ := phaseMove_ph s n y c j
  rw [hph]
  rfl

/-- The moved reference. -/
theorem phaseMove_phRef_self (s : State) (n : Nat) (y : Int) (c : Bool) (j : Nat) :
    ((s.phaseMove n y c j).2.phRef n).still = (s.phRef n).still ∧ ((s.phaseMove n y c j).2.phRef n).dphi = y ∧
      ((s.phaseMove n y c j).2.phRef n).clamped = c ∧
      ((s.phaseMove n y c j).2.phRef n).phi = ((((s.phRef n).baseP : Int) + y) % fullTurn).toNat := by
  obtain ⟨g, hph, hg⟩ := phaseMove_ph s n y c j
  have hself : (s.phaseMove n y c j).2.phRef n = g (s.phRef n) := by
    unfold State.phRef
    rw [hph]
    exact tget_tmod_self _ _ _ _
  rw [hself]
  exact hg _

theorem phaseMove_phRef_ne (s : State) {n k : Nat} (h : k ≠ n) (y : Int) (c : Bool) (j : Nat) :
    (s.phaseMove n y c j).2.phRef k = s.phRef k := by
  obtain ⟨g, hph, -⟩ := phaseMove_ph s n y c j
  unfold State.phRef
  rw [hph]
  exact tget_tmod_ne _ h _ _ _

/-- Whatever moves, each reference keeps what no movement changes. -/
theorem phaseMove_still (s : State) (n k : Nat) (y : Int) (c : Bool) (j : Nat) :
    ((s.phaseMove n y c j).2.phRef k).still = (s.phRef k).still := by
  by_cases h : k = n
  · subst h
    exact (phaseMove_phRef_self s k y c j).1
  · rw [phaseMove_phRef_ne s h]

theorem phaseMove_disarmed (s : State) (n : Nat) (y : Int) (c : Bool) (j : Nat) :
    (s.phaseMove n y c j).2.ph.disarmed = (s.catOf n).foldl (s.rearm n y (s.crossed n y)) s.ph.disarmed := by
  obtain ⟨g, hph, -⟩ := phaseMove_ph s n y c j
  rw [hph]

/-! ## Disarmed entries (R179) -/

theorem rearm_ne (s : State) (n : Nat) (y : Int) (due : List (Nat × Nat)) (d : Tab Bool) {k : Nat} {x : Nat × Nat} (h : k ≠ x.1) :
    tget (s.rearm n y due d x) k false = tget d k false := by
  unfold State.rearm
  dsimp only
  split
  · exact tget_tset_ne _ h _ _ _
  · split
    · exact tget_tset_ne _ h _ _ _
    · rfl

theorem rearm_due (s : State) (n : Nat) (y : Int) {due : List (Nat × Nat)} (d : Tab Bool) {x : Nat × Nat}
    (h : due.any (·.1 == x.1) = true) : tget (s.rearm n y due d x) x.1 false = true := by
  unfold State.rearm
  dsimp only
  rw [if_pos h, tget_tset_self]

theorem foldl_rearm_of_notMem (s : State) (n : Nat) (y : Int) (due : List (Nat × Nat)) {k : Nat} {l : List (Nat × Nat)}
    (h : k ∉ l.map Prod.fst) (d : Tab Bool) : tget (l.foldl (s.rearm n y due) d) k false = tget d k false := by
  induction l generalizing d with
  | nil => rfl
  | cons x l ih =>
    rw [List.map_cons, List.mem_cons, not_or] at h
    exact (ih h.2 _).trans (rearm_ne s n y due d h.1)

/-- An entry that fires is disarmed once it has been gone through, and stays so. -/
theorem foldl_rearm_due (s : State) (n : Nat) (y : Int) {due : List (Nat × Nat)} {k : Nat} {l : List (Nat × Nat)}
    (hk : due.any (·.1 == k) = true) (h : k ∈ l.map Prod.fst) (d : Tab Bool) :
    tget (l.foldl (s.rearm n y due) d) k false = true := by
  induction l generalizing d with
  | nil => exact absurd h List.not_mem_nil
  | cons x l ih =>
    by_cases hl : k ∈ l.map Prod.fst
    · exact ih hl _
    · obtain rfl : k = x.1 := (List.mem_cons.mp h).resolve_right hl
      exact (foldl_rearm_of_notMem s n y due hl _).trans (rearm_due s n y d hk)

theorem crossed_subset (s : State) (n : Nat) (y : Int) : s.crossed n y ⊆ s.catOf n := by
  unfold State.crossed
  dsimp only
  split
  · exact List.nil_subset _
  · exact List.filter_sublist.subset

/-- A movement disarms the entries that it fires. -/
theorem phaseMove_disarms (s : State) {n k v : Nat} {y : Int} (c : Bool) (j : Nat) (h : (k, v) ∈ s.crossed n y) :
    tget (s.phaseMove n y c j).2.ph.disarmed k false = true := by
  rw [phaseMove_disarmed]
  exact foldl_rearm_due s n y (List.any_eq_true.mpr ⟨_, h, beq_self_eq_true k⟩)
    (List.mem_map_of_mem (crossed_subset s n y h)) _

/-- A movement leaves the entries of other references as they were. -/
theorem phaseMove_disarmed_other (s : State) {n k : Nat} (h : k ∉ (s.catOf n).map Prod.fst) (y : Int) (c : Bool) (j : Nat) :
    tget (s.phaseMove n y c j).2.ph.disarmed k false = tget s.ph.disarmed k false := by
  rw [phaseMove_disarmed]
  exact foldl_rearm_of_notMem s n y _ h _

/-! ## Firings (R178, R180, R182, R186, R191) -/

/-- One firing counts, and acts outside the unit's own part. -/
theorem catFire_ph (s : State) (d : Deferred) : (s.catFire d).ph = { s.ph with
    fires := tmod s.ph.fires d.entry 0 (satInc 32), fireCount := s.ph.fireCount + 1
    defers := tmod s.ph.defers d.entry 0 (fun x => max x (min (s.tick - d.tick) 65535))
    maxDefer := max s.ph.maxDefer (min (s.tick - d.tick) 65535), firedNow := s.ph.firedNow + 1 } := by
  unfold State.catFire
  exact catAct_ph _ _ _ _

/-- The references, the disarmed entries, those in deferral and CatalogueFireCount. -/
def Phase.queue (p : Phase) : Tab PhRef × Tab Bool × List Deferred × U64 := (p.ref, p.disarmed, p.deferred, p.fireCount)

theorem foldl_catFire_queue (l : List Deferred) (s : State) : (l.foldl State.catFire s).ph.queue =
    (s.ph.ref, s.ph.disarmed, s.ph.deferred, s.ph.fireCount + BitVec.ofNat 64 l.length) := by
  induction l generalizing s with
  | nil => simp [Phase.queue]
  | cons d l ih =>
    rw [List.foldl_cons, ih, catFire_ph, List.length_cons, BitVec.ofNat_add, add_assoc, add_comm (1 : U64)]
    rfl

/-- The queue of this tick: those in deferral, then the entries that fall due now (R182). -/
def State.firing (s : State) (due : List (Nat × Nat)) : List Deferred :=
  s.ph.deferred ++ due.map (fun (k, e) => ⟨k, e, s.tick, s.now⟩)

/-- How many more entries may fire in this tick (R182). -/
def State.room (s : State) : Nat := 8 - (if s.ph.firedTick = s.tick then s.ph.firedNow else 0)

/-- Where entries may fire, the first of the queue fire as far as the tick has room, and the rest are in deferral (R182, R191). -/
theorem catRun_queue {s : State} (h : s.catRuns = true) (due : List (Nat × Nat)) : (s.catRun due).ph.queue =
    (s.ph.ref, s.ph.disarmed, (s.firing due).drop s.room,
      s.ph.fireCount + BitVec.ofNat 64 (min s.room (s.firing due).length)) := by
  unfold State.catRun
  rw [h, Bool.not_true, if_neg Bool.false_ne_true]
  extract_lets src s1 all n rest src1 s2 told src2 s3
  have hs1 : s1.ph.queue = s.ph.queue ∧ all = s.firing due ∧ n = s.room := by
    simp only [all, n, s1, State.firing, State.room]
    split <;> exact ⟨rfl, rfl, rfl⟩
  obtain ⟨hqueue, hall, hn⟩ := hs1
  have hs2 : s2.ph.queue = (s1.ph.ref, s1.ph.disarmed, rest, s1.ph.fireCount + BitVec.ofNat 64 (all.take n).length) :=
    foldl_catFire_queue _ _
  have htold : ∀ d : Deferred, (if told then s3 else s3.raise 51 [(2, all.length), (2, rest.length), (2, d.entry)]).ph.queue =
      s2.ph.queue := fun d => by
    split
    · rfl
    · rw [raise_ph]
      rfl
  have hdone : ∀ u : State, u.ph.queue = s2.ph.queue → u.ph.queue = (s.ph.ref, s.ph.disarmed, (s.firing due).drop s.room,
      s.ph.fireCount + BitVec.ofNat 64 (min s.room (s.firing due).length)) := fun u hu => by
    simp only [Phase.queue, Prod.mk.injEq] at hqueue
    rw [hu, hs2, hqueue.1, hqueue.2.1, hqueue.2.2.2, List.length_take, ← hall, ← hn]
  clear_value s3 told src2 s2 rest
  cases rest with
  | nil => exact hdone _ rfl
  | cons d _ => exact hdone _ (htold d)

/-- Where no entry may fire, those in deferral are dropped, and that is all (R186). -/
theorem catRun_idle {s : State} (h : s.catRuns = false) (due : List (Nat × Nat)) :
    (s.catRun due).ph = { s.ph with deferred := [] } := by
  unfold State.catRun
  rw [h, Bool.not_false, if_pos rfl]

/-- A run of the catalogue leaves the references and the disarmed entries. -/
theorem catRun_refs (s : State) (due : List (Nat × Nat)) :
    (s.catRun due).ph.ref = s.ph.ref ∧ (s.catRun due).ph.disarmed = s.ph.disarmed := by
  cases h : s.catRuns with
  | false =>
    rw [catRun_idle h]
    exact ⟨rfl, rfl⟩
  | true =>
    have hqueue := catRun_queue h due
    simp only [Phase.queue, Prod.mk.injEq] at hqueue
    exact ⟨hqueue.1, hqueue.2.1⟩

/-! ## Every LOCKED reference is brought to this tick (R172) -/

/-- One reference is brought to this tick, behind the entries that have fallen due before it. -/
def bring (done : List Nat) (x : List (Nat × Nat) × State) (n : Nat) : List (Nat × Nat) × State :=
  if (x.2.phRef n).state = 3 && x.2.tracks n && !done.contains n then
    let p := x.2.project n (x.2.phRef n) x.2.tick
    (x.1 ++ (x.2.phaseMove n p.1 p.2 0).1, (x.2.phaseMove n p.1 p.2 0).2)
  else x

/-- The references brought to this tick, and the entries that fall due. -/
def State.brought (s : State) (first : List (Nat × Nat)) (done : List Nat) : List (Nat × Nat) × State :=
  (List.range 4).foldl (bring done) (first, s)

/-- The entries that fall due, by index, each once (R178). -/
def byIndex (due : List (Nat × Nat)) : List (Nat × Nat) :=
  (insSort (due.map Prod.fst)).filterMap (fun k => due.find? (·.1 == k))

theorem phaseUpdate_eq (s : State) (first : List (Nat × Nat)) (done : List Nat) : s.phaseUpdate first done =
    if (byIndex (s.brought first done).1).isEmpty && (s.brought first done).2.ph.deferred.isEmpty then (s.brought first done).2
    else (s.brought first done).2.catRun (byIndex (s.brought first done).1) := by
  unfold State.phaseUpdate State.brought
  generalize List.range 4 = l
  rfl

theorem bring_moves {done : List Nat} {x : List (Nat × Nat) × State} {n : Nat} (hs : (x.2.phRef n).state = 3)
    (ht : x.2.tracks n = true) (hd : n ∉ done) : bring done x n =
      let p := x.2.project n (x.2.phRef n) x.2.tick
      (x.1 ++ x.2.crossed n p.1, (x.2.phaseMove n p.1 p.2 0).2) := by
  have hguard : (decide ((x.2.phRef n).state = 3) && x.2.tracks n && !done.contains n) = true := by
    simp [hs, ht, hd]
  unfold bring
  rw [if_pos hguard]
  dsimp only
  rw [phaseMove_due]

/-- A reference is left as it is, or it moves, and the entries it crosses fall due. -/
theorem bring_cases (done : List Nat) (x : List (Nat × Nat) × State) (n : Nat) : bring done x n = x ∨
    ∃ y c, n ∉ done ∧ bring done x n = (x.1 ++ x.2.crossed n y, (x.2.phaseMove n y c 0).2) := by
  by_cases hguard : (decide ((x.2.phRef n).state = 3) && x.2.tracks n && !done.contains n) = true
  · simp only [Bool.and_eq_true, decide_eq_true_eq, Bool.not_eq_true', List.contains_eq_mem, decide_eq_false_iff_not] at hguard
    obtain ⟨⟨hs, ht⟩, hd⟩ := hguard
    exact .inr ⟨_, _, hd, bring_moves hs ht hd⟩
  · exact .inl (if_neg hguard)

/-- A reading of the state that no movement in the given surroundings changes stays the same while the references are brought to
this tick. -/
theorem foldl_bring_keeps {β : Type} (g : State → β) {done l : List Nat} {x : List (Nat × Nat) × State}
    (hg : ∀ u, SameAround x.2 u → ∀ n ∈ l, n ∉ done → ∀ y c, g (u.phaseMove n y c 0).2 = g u) :
    SameAround x.2 (l.foldl (bring done) x).2 ∧ g (l.foldl (bring done) x).2 = g x.2 := by
  induction l generalizing x with
  | nil => exact ⟨.refl _, rfl⟩
  | cons n l ih =>
    rw [List.foldl_cons]
    have hstep : SameAround x.2 (bring done x n).2 ∧ g (bring done x n).2 = g x.2 := by
      obtain h | ⟨y, c, hd, h⟩ := bring_cases done x n
      · rw [h]
        exact ⟨.refl _, rfl⟩
      · rw [h]
        exact ⟨phaseMove_around _ _ _ _ _, hg _ (.refl _) n List.mem_cons_self hd y c⟩
    obtain ⟨haround, hread⟩ := ih (x := bring done x n)
      (fun u hu m hm => hg u (hstep.1.trans hu) m (List.mem_cons_of_mem _ hm))
    exact ⟨hstep.1.trans haround, hread.trans hstep.2⟩

theorem foldl_bring_around (done l : List Nat) (x : List (Nat × Nat) × State) : SameAround x.2 (l.foldl (bring done) x).2 :=
  (foldl_bring_keeps (fun _ => ()) (fun _ _ _ _ _ _ _ => rfl)).1

theorem foldl_bring_phRef {done l : List Nat} {n : Nat} (h : n ∉ l ∨ n ∈ done) (x : List (Nat × Nat) × State) :
    (l.foldl (bring done) x).2.phRef n = x.2.phRef n := by
  refine (foldl_bring_keeps (fun u => u.phRef n) fun u _ m hm hd y c => phaseMove_phRef_ne u ?_ y c 0).2
  rintro rfl
  exact h.elim (· hm) hd

theorem foldl_bring_disarmed {l : List Nat} {k : Nat} {x : List (Nat × Nat) × State}
    (h : ∀ j ∈ l, k ∉ (x.2.catOf j).map Prod.fst) (done : List Nat) :
    tget (l.foldl (bring done) x).2.ph.disarmed k false = tget x.2.ph.disarmed k false := by
  refine (foldl_bring_keeps (fun u => tget u.ph.disarmed k false) fun u hu m hm _ y c => ?_).2
  exact phaseMove_disarmed_other u (by rw [hu.catOf]; exact h m hm) y c 0

/-- What has fallen due stays due. -/
theorem foldl_bring_due (done l : List Nat) (x : List (Nat × Nat) × State) : x.1 ⊆ (l.foldl (bring done) x).1 := by
  induction l generalizing x with
  | nil => exact List.Subset.refl _
  | cons n l ih =>
    refine List.Subset.trans ?_ (ih (bring done x n))
    obtain h | ⟨y, c, -, h⟩ := bring_cases done x n
    · rw [h]
      exact List.Subset.refl _
    · rw [h]
      exact List.subset_append_left _ _

theorem brought_around (s : State) (first : List (Nat × Nat)) (done : List Nat) : SameAround s (s.brought first done).2 :=
  foldl_bring_around done (List.range 4) (first, s)

theorem brought_ledger (s : State) (first : List (Nat × Nat)) (done : List Nat) :
    (s.brought first done).2.ph.ledger = s.ph.ledger :=
  (foldl_bring_keeps (fun u => u.ph.ledger) fun u _ n _ _ y c => phaseMove_ledger u n y c 0).2

theorem brought_still (s : State) (first : List (Nat × Nat)) (done : List Nat) (k : Nat) :
    ((s.brought first done).2.phRef k).still = (s.phRef k).still :=
  (foldl_bring_keeps (fun u => (u.phRef k).still) fun u _ n _ _ y c => phaseMove_still u n k y c 0).2

theorem range_split {n m : Nat} (h : n < m) : ∃ a b, List.range m = a ++ n :: b ∧ n ∉ a ∧ n ∉ b := by
  obtain ⟨a, b, hab⟩ := List.append_of_mem (List.mem_range.mpr h)
  have hnodup : (n :: (a ++ b)).Nodup := List.nodup_middle.mp (hab ▸ List.nodup_range)
  obtain ⟨ha, hb⟩ := not_or.mp (mt List.mem_append.mpr (List.nodup_cons.mp hnodup).1)
  exact ⟨a, b, hab, ha, hb⟩

/-- A LOCKED reference that is tracked moves to its projected distance, in a state `u` in which it and the entries of its own are as
they were; the references that move after it leave them as its movement does. -/
theorem brought_moves {s : State} {n : Nat} (hn : n < 4) (hs : (s.phRef n).state = 3) (ht : s.tracks n = true)
    (first : List (Nat × Nat)) : ∃ u v : State,
      v = (u.phaseMove n (s.project n (s.phRef n) s.tick).1 (s.project n (s.phRef n) s.tick).2 0).2 ∧
      SameAround s u ∧ u.phRef n = s.phRef n ∧ (s.brought first []).2.phRef n = v.phRef n ∧
      u.crossed n (s.project n (s.phRef n) s.tick).1 ⊆ (s.brought first []).1 ∧
      ∀ k, (∀ j, j ≠ n → k ∉ (s.catOf j).map Prod.fst) → tget u.ph.disarmed k false = tget s.ph.disarmed k false ∧
        tget (s.brought first []).2.ph.disarmed k false = tget v.ph.disarmed k false := by
  obtain ⟨a, b, hab, ha, hb⟩ := range_split hn
  have hx : SameAround s (a.foldl (bring []) (first, s)).2 := foldl_bring_around [] a (first, s)
  have href : (a.foldl (bring []) (first, s)).2.phRef n = s.phRef n := foldl_bring_phRef (.inl ha) _
  have hdis : ∀ k, (∀ j, j ≠ n → k ∉ (s.catOf j).map Prod.fst) →
      tget (a.foldl (bring []) (first, s)).2.ph.disarmed k false = tget s.ph.disarmed k false :=
    fun k hk => foldl_bring_disarmed (fun j hj => hk j (by rintro rfl; exact ha hj)) []
  have hbrought : s.brought first [] = b.foldl (bring []) (bring [] (a.foldl (bring []) (first, s)) n) := by
    rw [State.brought, hab, List.foldl_append, List.foldl_cons]
  generalize a.foldl (bring []) (first, s) = x at hx href hdis hbrought
  have hmoves := bring_moves (done := []) (x := x) (n := n) (by rw [href, hs]) (by rw [hx.tracks, ht]) List.not_mem_nil
  rw [href, hx.project, hx.tick] at hmoves
  rw [hbrought, hmoves]
  refine ⟨x.2, _, rfl, hx, href, foldl_bring_phRef (.inl hb) _, ?_, fun k hk => ⟨hdis k hk, foldl_bring_disarmed ?_ _⟩⟩
  · exact List.Subset.trans (List.subset_append_right _ _) (foldl_bring_due [] b (_, _))
  · intro j hj
    rw [(hx.trans (phaseMove_around _ _ _ _ _)).catOf]
    exact hk j (by rintro rfl; exact hb hj)

/-! ## Entries in the order they fire (R178) -/

theorem mem_insNat {a k : Nat} {l : List Nat} : a ∈ insNat k l ↔ a = k ∨ a ∈ l := by
  induction l with
  | nil => simp [insNat]
  | cons b l ih =>
    unfold insNat
    split
    · exact List.mem_cons
    · split
      · rename_i h
        simp [h]
      · rw [List.mem_cons, ih, List.mem_cons]
        exact or_left_comm

theorem mem_insSort {a : Nat} {l : List Nat} : a ∈ insSort l ↔ a ∈ l := by
  have hfold : ∀ (l acc : List Nat), a ∈ l.foldl (fun b k => insNat k b) acc ↔ a ∈ acc ∨ a ∈ l := fun l => by
    induction l with
    | nil => simp
    | cons k l ih =>
      intro acc
      rw [List.foldl_cons, ih, mem_insNat, List.mem_cons, or_assoc, or_left_comm]
  exact (hfold l []).trans (by simp)

/-- Every entry that falls due has its place in the order. -/
theorem mem_byIndex {k : Nat} {due : List (Nat × Nat)} (h : k ∈ due.map Prod.fst) : k ∈ (byIndex due).map Prod.fst := by
  obtain ⟨x, hx, rfl⟩ := List.mem_map.mp h
  obtain ⟨y, hy⟩ := Option.isSome_iff_exists.mp (List.find?_isSome.mpr ⟨x, hx, beq_self_eq_true x.1⟩ :
    (due.find? (·.1 == x.1)).isSome = true)
  have hkey : y.1 = x.1 := by simpa using List.find?_some hy
  exact List.mem_map.mpr ⟨y, List.mem_filterMap.mpr ⟨x.1, mem_insSort.mpr h, hy⟩, hkey⟩

/-! ## After an update -/

theorem phaseUpdate_refs (s : State) (first : List (Nat × Nat)) (done : List Nat) :
    (s.phaseUpdate first done).ph.ref = (s.brought first done).2.ph.ref ∧
      (s.phaseUpdate first done).ph.disarmed = (s.brought first done).2.ph.disarmed := by
  rw [phaseUpdate_eq]
  split
  · exact ⟨rfl, rfl⟩
  · exact catRun_refs _ _

theorem phaseUpdate_phRef (s : State) (first : List (Nat × Nat)) (done : List Nat) (k : Nat) :
    (s.phaseUpdate first done).phRef k = (s.brought first done).2.phRef k :=
  congrArg (fun r : Tab PhRef => tget r k {}) (phaseUpdate_refs s first done).1

/-- An update changes of a reference only what movement changes. -/
theorem phaseUpdate_still (s : State) (first : List (Nat × Nat)) (done : List Nat) (k : Nat) :
    ((s.phaseUpdate first done).phRef k).still = (s.phRef k).still := by
  rw [phaseUpdate_phRef, brought_still]

/-- Where entries may fire and none has fired in this tick, the queue of an update fires, at most eight of it, those in deferral
first (R178, R182, R191). -/
theorem phaseUpdate_fires {s : State} {first : List (Nat × Nat)} {done : List Nat} (hrun : s.catRuns = true)
    (hfresh : s.ph.firedTick ≠ s.tick) (hqueue : byIndex (s.brought first done).1 ≠ [] ∨ s.ph.deferred ≠ []) :
    ∃ new : List Deferred, new.map Deferred.entry = (byIndex (s.brought first done).1).map Prod.fst ∧
      (∀ d ∈ new, d.tick = s.tick) ∧ (s.phaseUpdate first done).ph.deferred = (s.ph.deferred ++ new).drop 8 ∧
      (s.phaseUpdate first done).ph.fireCount = s.ph.fireCount + BitVec.ofNat 64 (min 8 (s.ph.deferred.length + new.length)) := by
  have haround := brought_around s first done
  have hledger := brought_ledger s first done
  rw [phaseUpdate_eq]
  generalize s.brought first done = x at *
  have hdeferred : x.2.ph.deferred = s.ph.deferred := (congrArg Phase.deferred hledger :)
  have hcount : x.2.ph.fireCount = s.ph.fireCount := (congrArg Phase.fireCount hledger :)
  have hfired : x.2.ph.firedTick = s.ph.firedTick := (congrArg Phase.firedTick hledger :)
  have hroom : x.2.room = 8 := by
    unfold State.room
    rw [hfired, haround.tick, if_neg hfresh]
  have hsome : ¬((byIndex x.1).isEmpty && x.2.ph.deferred.isEmpty) = true := by
    rw [hdeferred, Bool.and_eq_true, List.isEmpty_iff, List.isEmpty_iff]
    tauto
  rw [if_neg hsome]
  have hrunQueue := catRun_queue (haround.catRuns.trans hrun) (byIndex x.1)
  simp only [Phase.queue, Prod.mk.injEq, hroom, hcount, State.firing, hdeferred, List.length_append] at hrunQueue
  obtain ⟨-, -, hrest, hfires⟩ := hrunQueue
  refine ⟨_, ?_, ?_, hrest, hfires⟩
  · rw [List.map_map]
    rfl
  · intro d hd
    obtain ⟨y, -, rfl⟩ := List.mem_map.mp hd
    exact haround.tick

end Sys2Proof.Machine
end

section
/-!
PROOFS. Lock and unlock (R170, R171, R187): what they make of the reference, and what they tell.
-/
namespace Sys2Proof.Machine

theorem PhRef.state_of_still {r r' : PhRef} (h : r.still = r'.still) : r.state = r'.state := (congrArg PhRef.state h :)

/-! ## What publishing leaves of the events -/

theorem setDue_ev (s : State) (n t : Nat) : (s.setDue n t).ev = s.ev := by
  unfold State.setDue
  split <;> rfl

theorem putBp_ev (s : State) (p : Nat) (v : Bool) (t : Nat) : (s.putBp p v t).ev = s.ev := by
  have hedge : ∀ (u : State) (a b : Bool) (t : Nat), (u.edgeStarts p a b t).ev = u.ev := fun u a b t => by
    unfold State.edgeStarts
    refine foldl_reading State.ev (fun w n => ?_) u
    extract_lets c edge
    split
    · exact setDue_ev _ _ _
    · rfl
  unfold State.putBp
  extract_lets a u
  split
  · rfl
  · exact hedge u a v s.now

theorem publishBp_ev (s : State) (kind p : Nat) (v : Bool) (t : Nat) : (s.publishBp kind p v t).ev = s.ev := by
  have hproduce : ∀ q, (s.produceBp q v t).ev = s.ev := fun q => by
    unfold State.produceBp
    split
    · split
      · rfl
      · exact putBp_ev _ _ _ _
    · exact putBp_ev _ _ _ _
  unfold State.publishBp
  split
  · exact hproduce _
  · rfl

theorem catDo_ev (s : State) (m : Nat) (v : Bool) : (s.catDo m v).ev = s.ev := by
  unfold State.catDo
  dsimp only
  split
  · exact publishBp_ev _ _ _ _ _
  · exact publishBp_ev _ _ _ _ _

/-- What leaves the source of an event that has occurred leaves the occurrence. -/
theorem Occurs.of_src {e t u : State} {k : Nat} {d : List (Nat × Nat)} (h : Occurs e t k d)
    (hu : tget u.ev.src k {} = tget t.ev.src k {}) : Occurs e u k d := by
  unfold Occurs
  rw [hu]
  exact h

/-! ## Unlock (R171, R187) -/

/-- A LOCKED reference once it has unlocked at a tick, with a cause, at phase `phi`. -/
def PhRef.unlocked (r : PhRef) (tick cause phi : Nat) : PhRef :=
  { r with
    state := 1, phi := phi, v := 0, a := 0, extrap := false, clamped := false, clampFrom := none
    maxClamp := max r.maxClamp (r.heldFor tick), cause := cause
    conf := 0, ords := 0, unlocks := r.unlocks + 1, unlockTick := tick, lockTick := none }

/-- What an unlock makes of a LOCKED reference, of the entries in deferral and of the events. -/
theorem phaseUnlockAt_unlocks {s : State} {n : Nat} (h : (s.phRef n).state = 3) (cause phi : Nat) :
    (s.phaseUnlockAt n cause phi).ph = { s.ph with
      ref := tmod s.ph.ref n {} (·.unlocked s.tick cause phi)
      deferred := s.ph.deferred.filter (fun d => catRef d.image != n) } ∧
    Occurs s (s.phaseUnlockAt n cause phi) 50 [(1, n), (1, cause), (4, phi), (4, speedOf (s.phRef n).v)] := by
  unfold State.phaseUnlockAt
  extract_lets r v s1 src s2 s3 dos s4 s5 b
  rw [if_neg (not_not_intro h)]
  have hs4 : s4.ph = s2.ph ∧ s4.ev = s3.ev := by
    simp only [s4]
    split
    · exact ⟨raise_ph _ _ _, rfl⟩
    · refine ⟨(foldl_reading State.ph (fun u m => ?_) s3).trans (raise_ph _ _ _), foldl_reading State.ev (fun u m => ?_) s3⟩
      · split
        · exact catDo_ph _ _ _
        · rfl
      · split
        · exact catDo_ev _ _ _
        · rfl
  have hs5 : s5.ph = s2.ph ∧ s5.ev = s3.ev :=
    ⟨(publishBp_ph _ _ _ _ _).trans hs4.1, (publishBp_ev _ _ _ _ _).trans hs4.2⟩
  clear_value b
  split
  · exact ⟨hs5.1, occurs_raise (congrArg Events.src hs5.2) rfl rfl rfl⟩
  · refine ⟨(raise_ph _ _ _).trans hs5.1, ?_⟩
    exact (occurs_raise (congrArg Events.src hs5.2) rfl rfl rfl).of_src (raise_src_ne _ (by decide))

theorem phaseUnlock_phRef {s : State} {n : Nat} (h : (s.phRef n).state = 3) (cause : Nat) :
    (s.phaseUnlock n cause).phRef n = (s.phRef n).unlocked s.tick cause (s.phaseAt n s.tick) := by
  unfold State.phRef
  rw [State.phaseUnlock, (phaseUnlockAt_unlocks h cause _).1]
  exact tget_tmod_self s.ph.ref n {} (·.unlocked s.tick cause (s.phaseAt n s.tick))

theorem phaseUnlock_occurs {s : State} {n : Nat} (h : (s.phRef n).state = 3) (cause : Nat) :
    Occurs s (s.phaseUnlock n cause) 50 [(1, n), (1, cause), (4, s.phaseAt n s.tick), (4, speedOf (s.phRef n).v)] :=
  (phaseUnlockAt_unlocks h cause _).2

/-! ## Lock (R170, R187) -/

/-- A reference once it has locked at a tick, at the edge with raw time `te` and phase `pe`, and has been brought to distance `y`. -/
def PhRef.locked (r : PhRef) (tick te pe : Nat) (nextD y : Int) (clamped : Bool) : PhRef :=
  { r with
    state := 3, baseT := te, baseP := pe, nextD := nextD, dphi := y, phi := (((pe : Int) + y) % fullTurn).toNat
    clamped := clamped, a := 0, extrap := true, same := 1, revs := 0, locks := r.locks + 1, lockTick := some tick
    maxJump := 0, maxClamp := 0, clampFrom := none }

/-- One entry is disarmed where it lies near the phase (R179). -/
def disarmEntry (n : Nat) (s : State) (x : Nat × Nat) : State :=
  if circDist (s.phaseAt n s.tick) (fld x.2 0 0 32) ≤ s.refPar n 7 then
    { s with ph := { s.ph with disarmed := tset s.ph.disarmed x.1 false true } } else s

theorem disarmNear_eq (s : State) (n : Nat) : s.disarmNear n = (s.catOf n).foldl (disarmEntry n) s := rfl

theorem disarmEntry_ph (n : Nat) (s : State) (x : Nat × Nat) :
    ∃ d, (disarmEntry n s x).ph = { s.ph with disarmed := d } := by
  unfold disarmEntry
  split
  · exact ⟨_, rfl⟩
  · exact ⟨_, rfl⟩

theorem disarmEntry_ref (n : Nat) (s : State) (x : Nat × Nat) : (disarmEntry n s x).ph.ref = s.ph.ref := by
  obtain ⟨d, hd⟩ := disarmEntry_ph n s x
  rw [hd]

theorem disarmEntry_ev (n : Nat) (s : State) (x : Nat × Nat) : (disarmEntry n s x).ev = s.ev := by
  unfold disarmEntry
  split
  · rfl
  · rfl

theorem disarmNear_ref (s : State) (n : Nat) : (s.disarmNear n).ph.ref = s.ph.ref := by
  rw [disarmNear_eq]
  exact foldl_reading (fun u => u.ph.ref) (disarmEntry_ref n) s

theorem disarmNear_ev (s : State) (n : Nat) : (s.disarmNear n).ev = s.ev := by
  rw [disarmNear_eq]
  exact foldl_reading State.ev (disarmEntry_ev n) s

theorem disarmNear_around (s : State) (n : Nat) : SameAround s (s.disarmNear n) := .of_view fun _ hm => disarmNear_view s n hm

/-- What a lock makes of the reference, and that EV048 tells it. -/
theorem phaseLock_locks (s : State) (n te pe : Nat) (nextD : Int) : ∃ y c,
    (s.phaseLock n te pe nextD).phRef n = (s.phRef n).locked s.tick te pe nextD y c ∧
    Occurs s (s.phaseLock n te pe nextD) 48
      [(1, n), (1, s.refKind n), (4, speedOf (s.phRef n).v), (4, (((pe : Int) + y) % fullTurn).toNat)] := by
  unfold State.phaseLock
  extract_lets s1
  split
  rename_i y c hp
  extract_lets s2 s3 s4 s5 b
  have hs2 : s2.phRef n = (s.phRef n).locked s.tick te pe nextD y c := by
    have hs1 : s1.phRef n = _ := modRef_phRef_self s n _
    refine (modRef_phRef_self s1 n _).trans ?_
    rw [hs1]
    rfl
  have hread : ∀ u : State, u.ph.ref = s2.ph.ref → u.phRef n = (s.phRef n).locked s.tick te pe nextD y c :=
    fun u hu => (congrArg (fun r : Tab PhRef => tget r n {}) hu).trans hs2
  have hs3 : s3.phRef n = _ := hread s3 (disarmNear_ref s2 n)
  have hs5 : s5.ph.ref = s2.ph.ref :=
    (congrArg Phase.ref (publishBp_ph s4 _ _ _ _)).trans ((congrArg Phase.ref (raise_ph s3 _ _)).trans (disarmNear_ref s2 n))
  have htold : Occurs s s5 48
      [(1, n), (1, s.refKind n), (4, speedOf (s.phRef n).v), (4, (((pe : Int) + y) % fullTurn).toNat)] := by
    have hdetail : s4 = s3.raise 48
        [(1, n), (1, s.refKind n), (4, speedOf (s.phRef n).v), (4, (((pe : Int) + y) % fullTurn).toNat)] := by
      simp only [s4, hs3, State.refKind, (disarmNear_around s2 n).refPar, s3]
      rfl
    have hpresent : s3.eventPresent 48 = s2.eventPresent 48 := (disarmNear_around s2 n).has .phs
    refine occurs_raise (u := s3) ?_ hpresent ?_ (disarmNear_around s2 n).now
    · rw [← hdetail]
      exact congrArg Events.src (publishBp_ev s4 _ _ _ _)
    · exact congrArg (fun v : Events => tget v.src 48 {}) (disarmNear_ev s2 n)
  clear_value b
  refine ⟨y, c, ?_⟩
  split
  · exact ⟨hread s5 hs5, htold⟩
  · exact ⟨hread _ ((congrArg Phase.ref (raise_ph s5 _ _)).trans hs5), htold.of_src (raise_src_ne _ (by decide))⟩

end Sys2Proof.Machine

namespace Sys2Proof.Machine

/-! ## The rows in time (R171, R172, R178, R182) -/

theorem phaseUnlockTimeout_unlocks {dt n : Nat} {s e : State} (he : s.elapse dt = e) (hn : n < 4) (hs : (e.phRef n).state = 3)
    (hkind : e.refKind n ≠ 3)
    (hslow : fasterThan (e.nextStep n (e.phRef n).k (e.phRef n).reverse) (e.tick - (e.phRef n).baseT) (e.refPar n 3) = false) :
    ∃ t, exec (.phaseUnlockTimeout dt n) s = .next t ∧ (t.phRef n).state = 1 ∧ (t.phRef n).cause = 1 ∧ (t.phRef n).v = 0 ∧
      (t.phRef n).phi = e.phaseAt n e.tick ∧ (t.phRef n).unlocks = (e.phRef n).unlocks + 1 ∧
      Occurs e t 50 [(1, n), (1, 1), (4, e.phaseAt n e.tick), (4, speedOf (e.phRef n).v)] := by
  have hexec : exec (.phaseUnlockTimeout dt n) s = .next (e.phaseUnlock n 1) := by
    subst he
    show execPhaseUnlockTimeout dt n s = _
    unfold execPhaseUnlockTimeout
    extract_lets u r
    rw [if_neg (Nat.not_le.mpr hn), if_neg]
    simp only [hs, hslow, hkind, ne_eq, not_true_eq_false, false_or, Bool.false_eq_true, not_false_eq_true, u, r]
  have href := phaseUnlock_phRef hs 1
  refine ⟨_, hexec, ?_, ?_, ?_, ?_, ?_, phaseUnlock_occurs hs 1⟩ <;> rw [href] <;> rfl

theorem phaseExtrapolation_projects {dt n : Nat} {s e : State} (he : s.elapse dt = e) (hn : n < 4) (ht : e.tracks n = true)
    (hs : (e.phRef n).state = 3) : ∃ t, exec (.phaseExtrapolation dt n) s = .next t ∧ (t.phRef n).state = 3 ∧
      (t.phRef n).dphi = (e.project n (e.phRef n) e.tick).1 ∧ (t.phRef n).clamped = (e.project n (e.phRef n) e.tick).2 ∧
      (t.phRef n).phi = ((((e.phRef n).baseP : Int) + (e.project n (e.phRef n) e.tick).1) % fullTurn).toNat := by
  have hexec : exec (.phaseExtrapolation dt n) s = .next (e.phaseUpdate [] []) := by
    subst he
    show execPhaseExtrapolation dt n s = _
    unfold execPhaseExtrapolation
    extract_lets u
    rw [if_neg (Nat.not_le.mpr hn), if_pos]
    rw [ht, hs]
    rfl
  obtain ⟨u, v, hv, -, hu, hself, -⟩ := brought_moves hn hs ht []
  obtain ⟨-, hdphi, hclamped, hphi⟩ := phaseMove_phRef_self u n (e.project n (e.phRef n) e.tick).1 (e.project n (e.phRef n) e.tick).2 0
  have hstate : ((e.phaseUpdate [] []).phRef n).state = (e.phRef n).state := PhRef.state_of_still (phaseUpdate_still e [] [] n)
  have href : (e.phaseUpdate [] []).phRef n = v.phRef n := (phaseUpdate_phRef e [] [] n).trans hself
  subst hv
  exact ⟨_, hexec, hstate.trans hs, (congrArg PhRef.dphi href).trans hdphi, (congrArg PhRef.clamped href).trans hclamped,
    (congrArg PhRef.phi href).trans (hphi.trans (by rw [hu]))⟩

theorem exec_catalogueEntryFire {dt k : Nat} {s e : State} (he : s.elapse dt = e) (hk : k < 1024)
    (hon : catOn (e.catEntry k) = true) (hs : (e.phRef (catRef (e.catEntry k))).state = 3)
    (ht : e.tracks (catRef (e.catEntry k)) = true) (hrun : e.catRuns = true)
    (hpass : passes (e.phRef (catRef (e.catEntry k))).reverse (e.phRef (catRef (e.catEntry k))).phi
      ((e.phRef (catRef (e.catEntry k))).span (e.project (catRef (e.catEntry k)) (e.phRef (catRef (e.catEntry k))) e.tick).1)
      (fld (e.catEntry k) 0 0 32) = true) :
    exec (.catalogueEntryFire dt k) s = .next (e.phaseUpdate [] []) := by
  subst he
  show execCatalogueEntryFire dt k s = _
  unfold execCatalogueEntryFire
  extract_lets u i n r
  rw [if_neg (Nat.not_le.mpr hk), if_neg (by simp only [u, i, n, r, hon, hs, ht, hrun]; decide)]
  exact congrArg Host.Outcome.next (if_pos hpass)

/-- An entry for both directions that a movement passes while it is armed, outside the lock tick, is crossed (R178, R179). -/
theorem mem_crossed {u : State} {n k v : Nat} {y : Int} (hmem : (k, v) ∈ u.catOf n) (hrun : u.catRuns = true)
    (hlock : (u.phRef n).lockTick ≠ some u.tick)
    (hpass : passes (u.phRef n).reverse (u.phRef n).phi ((u.phRef n).span y) (fld v 0 0 32) = true)
    (harmed : tget u.ph.disarmed k false = false) (hdir : catDir v = 2) : (k, v) ∈ u.crossed n y := by
  have hguard : ¬((u.phRef n).lockTick == some u.tick || !u.catRuns) = true := by simp [hlock, hrun]
  unfold State.crossed
  rw [if_neg hguard]
  refine List.mem_filter.mpr ⟨hmem, ?_⟩
  simp only [hpass, harmed, hdir]
  rfl

theorem catalogueEntryFire_fires {dt k n m : Nat} {y : Int} {s e : State} (he : s.elapse dt = e) (hk : k < 1024)
    (hmem : (k, e.catEntry k) ∈ e.entries 0x0004) (hone : ∀ v, (k, v) ∈ e.entries 0x0004 → v = e.catEntry k)
    (hon : catOn (e.catEntry k) = true) (hn : catRef (e.catEntry k) = n) (hs : (e.phRef n).state = 3) (ht : e.tracks n = true)
    (hrun : e.catRuns = true) (hlock : (e.phRef n).lockTick ≠ some e.tick) (hy : y = (e.project n (e.phRef n) e.tick).1)
    (hm : m = ((e.phRef n).dir * (y - (e.phRef n).dphi)).toNat)
    (hpass : passes (e.phRef n).reverse (e.phRef n).phi m (fld (e.catEntry k) 0 0 32) = true)
    (harmed : tget e.ph.disarmed k false = false) (hdir : catDir (e.catEntry k) = 2) (hempty : e.ph.deferred = [])
    (hfresh : e.ph.firedTick ≠ e.tick) :
    ∃ (t : State) (due : List Deferred), exec (.catalogueEntryFire dt k) s = .next t ∧ k ∈ due.map Deferred.entry ∧
      (∀ d ∈ due, d.tick = e.tick) ∧ t.ph.deferred = due.drop 8 ∧
      t.ph.fireCount = e.ph.fireCount + BitVec.ofNat 64 (min 8 due.length) ∧ tget t.ph.disarmed k false = true := by
  have hspan : m = (e.phRef n).span y := hm
  rw [hspan] at hpass
  have hexec : exec (.catalogueEntryFire dt k) s = .next (e.phaseUpdate [] []) := by
    subst hn hy
    exact exec_catalogueEntryFire he hk hon hs ht hrun hpass
  have hlt : n < 4 := by
    rw [← hn]
    exact Nat.mod_lt _ (by decide)
  have hown : ∀ j, j ≠ n → k ∉ (e.catOf j).map Prod.fst := by
    rintro j hj hkj
    obtain ⟨⟨i, v⟩, hv, rfl⟩ := List.mem_map.mp hkj
    obtain ⟨hentry, hof⟩ := List.mem_filter.mp hv
    simp only [Bool.and_eq_true, beq_iff_eq] at hof
    exact hj (hof.2.symm.trans (hone v hentry ▸ hn))
  obtain ⟨u, v, hv, haround, href, -, hdue, hdis⟩ := brought_moves hlt hs ht []
  obtain ⟨hbefore, hafter⟩ := hdis k hown
  rw [← hy] at hv hdue
  have hcrossed : (k, e.catEntry k) ∈ u.crossed n y := by
    have hcatOf : (k, e.catEntry k) ∈ u.catOf n := by
      rw [haround.catOf]
      exact List.mem_filter.mpr ⟨hmem, by simp [hon, hn]⟩
    refine mem_crossed hcatOf (haround.catRuns.trans hrun) ?_ ?_ (hbefore.trans harmed) hdir
    · rw [href, haround.tick]
      exact hlock
    · rw [href]
      exact hpass
  have hkeys : k ∈ (byIndex (e.brought [] []).1).map Prod.fst := mem_byIndex (List.mem_map_of_mem (hdue hcrossed))
  have hsome : byIndex (e.brought [] []).1 ≠ [] := fun hnil => by
    rw [hnil] at hkeys
    exact List.not_mem_nil hkeys
  obtain ⟨due, hdueKeys, htick, hrest, hcount⟩ := phaseUpdate_fires hrun hfresh (.inl hsome)
  rw [hempty, List.nil_append] at hrest
  rw [hempty, List.length_nil, Nat.zero_add] at hcount
  rw [← hdueKeys] at hkeys
  refine ⟨_, due, hexec, hkeys, htick, hrest, hcount, ?_⟩
  rw [(phaseUpdate_refs e [] []).2, hafter, hv]
  exact phaseMove_disarms u _ 0 hcrossed

theorem catalogueDeferredFire_fires {dt : Nat} {s e : State} (he : s.elapse dt = e) (hrun : e.catRuns = true)
    (hqueue : e.ph.deferred ≠ []) (hfresh : e.ph.firedTick ≠ e.tick) :
    ∃ (t : State) (new : List Deferred), exec (.catalogueDeferredFire dt) s = .next t ∧ (∀ d ∈ new, d.tick = e.tick) ∧
      t.ph.deferred = (e.ph.deferred ++ new).drop 8 ∧
      t.ph.fireCount = e.ph.fireCount + BitVec.ofNat 64 (min 8 (e.ph.deferred.length + new.length)) := by
  have hexec : exec (.catalogueDeferredFire dt) s = .next (e.phaseUpdate [] []) := by
    have hwait : ¬(e.ph.deferred.isEmpty || e.ph.firedTick == e.tick) = true := by simp [hqueue, hfresh]
    subst he
    exact congrArg Host.Outcome.next (if_neg hwait)
  obtain ⟨new, -, htick, hrest, hcount⟩ := phaseUpdate_fires (first := []) (done := []) hrun hfresh (.inr hqueue)
  exact ⟨_, new, hexec, htick, hrest, hcount⟩

end Sys2Proof.Machine
end

section
open Sys2Proof Sys2Proof.Machine

/-- Settles O38, row by row: unlock by timeout, extrapolation, an entry that is crossed, and entries in deferral. -/
theorem phaseTimeRowsComplete : Obligations.PhaseTimeRowsComplete :=
  ⟨fun _ _ _ _ he hn hs hkind hslow => phaseUnlockTimeout_unlocks he hn hs hkind hslow,
    fun _ _ _ _ he hn ht hs => phaseExtrapolation_projects he hn ht hs,
    fun _ _ _ _ _ _ _ he hk hmem hone hon hn hs ht hrun hlock hy hm hpass harmed hdir hempty hfresh =>
      catalogueEntryFire_fires he hk hmem hone hon hn hs ht hrun hlock hy hm hpass harmed hdir hempty hfresh,
    fun _ _ _ he hrun hqueue hfresh => catalogueDeferredFire_fires he hrun hqueue hfresh⟩

end

section
/-!
PROOFS. Outside the run modes nothing fires (R186): each operation of the phase unit leaves the firing counts as they were.
-/
namespace Sys2Proof.Machine

/-- The mode and what firings count: in all, and by entry (R180, R191). -/
def State.firings (s : State) : Mode × U64 × Tab Nat := (s.mode, s.ph.fireCount, s.ph.fires)

theorem firings_of_ph {s t : State} (ha : SameAround s t) (hc : t.ph.fireCount = s.ph.fireCount) (hf : t.ph.fires = s.ph.fires) :
    t.firings = s.firings := by
  unfold State.firings
  rw [ha.mode, hc, hf]

theorem firings_ite {c : Prop} [Decidable c] {a b : State} {v : Mode × U64 × Tab Nat} (ha : a.firings = v) (hb : b.firings = v) :
    (if c then a else b).firings = v := by
  split
  · exact ha
  · exact hb

theorem mode_of_firings {s t : State} (h : t.firings = s.firings) : t.mode = s.mode := congrArg Prod.fst h

theorem modRef_firings (s : State) (n : Nat) (f : PhRef → PhRef) : (s.modRef n f).firings = s.firings := rfl

theorem raise_firings (s : State) (k : Nat) (d : List (Nat × Nat)) : (s.raise k d).firings = s.firings := by
  unfold State.firings
  rw [raise_mode, raise_ph]

theorem publishBp_firings (s : State) (kind p : Nat) (v : Bool) (t : Nat) : (s.publishBp kind p v t).firings = s.firings :=
  firings_of_ph (.of_view fun _ hm => publishBp_view s kind p v t hm) (by rw [publishBp_ph]) (by rw [publishBp_ph])

theorem disarmNear_firings (s : State) (n : Nat) : (s.disarmNear n).firings = s.firings := by
  have hentry : ∀ u x, (disarmEntry n u x).firings = u.firings := fun u x => by
    unfold disarmEntry
    exact firings_ite rfl rfl
  rw [disarmNear_eq]
  exact foldl_reading State.firings hentry s

theorem phaseUnlockAt_firings (s : State) (n cause phi : Nat) : (s.phaseUnlockAt n cause phi).firings = s.firings := by
  have haround : SameAround s (s.phaseUnlockAt n cause phi) := .of_view fun _ hm => phaseUnlockAt_view s n cause phi hm
  by_cases h : (s.phRef n).state = 3
  · obtain ⟨hph, -⟩ := phaseUnlockAt_unlocks h cause phi
    exact firings_of_ph haround (by rw [hph]) (by rw [hph])
  · have hback : s.phaseUnlockAt n cause phi = s.modRef n _ := if_pos h
    rw [hback]
    exact modRef_firings _ _ _

theorem phaseUnlock_firings (s : State) (n cause : Nat) : (s.phaseUnlock n cause).firings = s.firings :=
  phaseUnlockAt_firings _ _ _ _

theorem phaseLock_firings (s : State) (n te pe : Nat) (nextD : Int) : (s.phaseLock n te pe nextD).firings = s.firings := by
  unfold State.phaseLock
  extract_lets s1
  split
  extract_lets s2 s3 s4 s5 b
  have hs5 : s5.firings = s.firings := by
    simp only [s5, s4, s3, s2, s1, publishBp_firings, raise_firings, disarmNear_firings, modRef_firings]
  exact firings_ite hs5 ((raise_firings _ _ _).trans hs5)

theorem firings_of_ledger {s t : State} (ha : SameAround s t) (h : t.ph.ledger = s.ph.ledger) : t.firings = s.firings := by
  have hcount : t.ph.fireCount = s.ph.fireCount := (congrArg Phase.fireCount h :)
  have hfires : t.ph.fires = s.ph.fires := (congrArg Phase.fires h :)
  exact firings_of_ph ha hcount hfires

theorem phaseMove_firings (s : State) (n : Nat) (y : Int) (c : Bool) (j : Nat) : (s.phaseMove n y c j).2.firings = s.firings :=
  firings_of_ledger (phaseMove_around _ _ _ _ _) (phaseMove_ledger _ _ _ _ _)

/-- No entry may fire outside the run modes (R186). -/
theorem catRuns_of_mode {s : State} (h : s.mode.isRun = false) : s.catRuns = false := by
  unfold State.catRuns
  rw [h]
  rfl

theorem phaseUpdate_firings {s : State} (h : s.mode.isRun = false) (first : List (Nat × Nat)) (done : List Nat) :
    (s.phaseUpdate first done).firings = s.firings := by
  have hbrought : (s.brought first done).2.firings = s.firings :=
    firings_of_ledger (brought_around s first done) (brought_ledger s first done)
  have hidle : (s.brought first done).2.catRuns = false := catRuns_of_mode (by rw [mode_of_firings hbrought, h])
  rw [phaseUpdate_eq]
  refine firings_ite hbrought (Eq.trans ?_ hbrought)
  exact firings_of_ph (.of_view fun _ hm => catRun_view _ _ hm) (by rw [catRun_idle hidle]) (by rw [catRun_idle hidle])

theorem edgeSearch_firings (s : State) (n te : Nat) (rev : Bool) : (s.edgeSearch n te rev).firings = s.firings := by
  unfold State.edgeSearch
  extract_lets r dt kind gap k dp ok v s1 back lock need s2 s3 s4
  have hlock : ∀ u : State, (lock u).firings = u.firings := fun u => phaseLock_firings _ _ _ _ _
  exact firings_ite
    (firings_ite (firings_ite (firings_ite (hlock s2) rfl) rfl)
      (firings_ite rfl (firings_ite (firings_ite rfl (firings_ite (hlock s3) rfl)) (firings_ite rfl rfl))))
    (firings_ite (firings_ite rfl (firings_ite rfl (firings_ite (hlock s4) rfl))) (firings_ite rfl rfl))

theorem edgeZ_firings (s : State) (n te : Nat) : (s.edgeZ n te).firings = s.firings := by
  unfold State.edgeZ
  extract_lets r res near dt ok need lock s1 s2 s3
  have hlock : ∀ u : State, (lock u).firings = u.firings := fun u => phaseLock_firings _ _ _ _ _
  exact firings_ite (firings_ite rfl (phaseUnlock_firings _ _ _))
    (firings_ite (firings_ite (firings_ite (hlock s2) rfl) rfl) (firings_ite (firings_ite (hlock s3) rfl) rfl))

theorem edgeLocked_firings {s : State} (h : s.mode.isRun = false) (n te : Nat) (rev : Bool) :
    (s.edgeLocked n te rev).firings = s.firings := by
  unfold State.edgeLocked
  extract_lets r dt kind turned k gapHere gap pe dp off vNew same a shift ahead old s1
  have hoff : ∀ c, (off c).firings = s.firings := fun c => phaseUnlock_firings s n c
  refine firings_ite (hoff _) (firings_ite (hoff _) (firings_ite (hoff _) ?_))
  split
  split
  rename_i due s2 hmove
  have hs2 : s2.firings = s.firings :=
    (congrArg (fun x => x.2.firings) hmove).symm.trans (phaseMove_firings s1 n _ _ _)
  extract_lets s3
  have hs3 : s3.firings = s.firings := firings_ite ((publishBp_firings _ _ _ _ _).trans ((raise_firings _ _ _).trans hs2)) hs2
  exact (phaseUpdate_firings (by rw [mode_of_firings hs3, h]) due [n]).trans hs3

theorem phaseEdge_firings {s : State} (h : s.mode.isRun = false) (n te : Nat) (rev : Bool) :
    (s.phaseEdge n te rev).firings = s.firings :=
  firings_ite (edgeLocked_firings (s := s.modRef n _) h n te rev) (edgeSearch_firings _ _ _ _)

theorem phaseLines_firings {s : State} (h : s.mode.isRun = false) (n old : Nat) (x : EdgeIn) (te : Nat) :
    (s.phaseLines n old x te).firings = s.firings := by
  unfold State.phaseLines
  extract_lets ctl turned s1 edge s2
  have hs1 : s1.firings = s.firings :=
    firings_ite (phaseUnlock_firings _ _ _) (firings_ite (phaseEdge_firings h _ _ _) rfl)
  have hs2 : s2.firings = s.firings := firings_ite (phaseEdge_firings h _ _ _) rfl
  split
  · exact firings_ite ((edgeZ_firings _ _ _).trans hs1) hs1
  · exact firings_ite hs2 hs2
  · exact firings_ite (phaseEdge_firings h _ _ _) rfl
  · rfl

/-! ## The rows of the phase unit -/

/-- Where an outcome is a next state, nothing has fired since `e`. -/
def Unfired (e : State) (o : Host.Outcome State Fault Refusal) : Prop := ∀ t, o = .next t → t.firings = e.firings

theorem Unfired.next {e u : State} (h : u.firings = e.firings) : Unfired e (.next u) := by
  rintro t ⟨⟩
  exact h

theorem Unfired.ite {c : Prop} [Decidable c] {e : State} {a b : Host.Outcome State Fault Refusal} (ha : Unfired e a)
    (hb : Unfired e b) : Unfired e (if c then a else b) := by
  split
  · exact ha
  · exact hb

theorem phaseUnlockTimeout_unfired (s : State) (dt n : Nat) : Unfired (s.elapse dt) (exec (.phaseUnlockTimeout dt n) s) :=
  .ite (.next rfl) (.ite (.next rfl) (.next (phaseUnlock_firings _ _ _)))

section
variable {s : State} {dt : Nat} (h : (s.elapse dt).mode.isRun = false)
include h

theorem phaseEdge_unfired (n : Nat) (y : EdgeIn) : Unfired (s.elapse dt) (exec (.phaseEdge dt n y) s) :=
  .ite (.next rfl) (.next (firings_ite (phaseLines_firings (s := (s.elapse dt).modRef n _) h _ _ _ _) rfl))

theorem phaseExtrapolation_unfired (n : Nat) : Unfired (s.elapse dt) (exec (.phaseExtrapolation dt n) s) :=
  .ite (.next rfl) (.next (firings_ite (phaseUpdate_firings h _ _) rfl))

theorem catalogueEntryFire_unfired (k : Nat) : Unfired (s.elapse dt) (exec (.catalogueEntryFire dt k) s) :=
  .ite (.next rfl) (.ite (.next rfl) (.next (firings_ite (phaseUpdate_firings h _ _) rfl)))

theorem catalogueDeferredFire_unfired : Unfired (s.elapse dt) (exec (.catalogueDeferredFire dt) s) :=
  .next (firings_ite rfl (phaseUpdate_firings h _ _))

end

theorem isRun_of_notMem {m : Mode} (h : m ∉ [Mode.m4, .m5, .m6, .m8]) : m.isRun = false := by
  revert h
  cases m <;> decide

end Sys2Proof.Machine
end

section
open Sys2Proof Sys2Proof.Machine

/-- Settles O59: each row of the phase unit leaves what firings count, since no entry may fire outside the run modes. -/
theorem noEntryFiresOutsideRunModes : Obligations.NoEntryFiresOutsideRunModes := by
  rintro dt n y s e t rfl hmode hexec
  have hrun := isRun_of_notMem hmode
  have hfirings : t.firings = (s.elapse dt).firings := by
    rcases hexec with h | h | h | h | h
    · exact phaseEdge_unfired hrun n y t h
    · exact phaseUnlockTimeout_unfired s dt n t h
    · exact phaseExtrapolation_unfired hrun n t h
    · exact catalogueEntryFire_unfired hrun n t h
    · exact catalogueDeferredFire_unfired hrun t h
  exact (Prod.mk.inj (congrArg Prod.snd hfirings) :)

end

section
/-!
PROOFS. PHASE_EDGE (R162–R165, R170–R172): what confirmed levels of a reference's lines make of it.
-/
namespace Sys2Proof.Machine

variable {s e : State} {n : Nat}

/-! ## What movement leaves of a reference -/

theorem PhRef.k_of_still {r r' : PhRef} (h : r.still = r'.still) : r.k = r'.k := (congrArg PhRef.k h :)
theorem PhRef.baseT_of_still {r r' : PhRef} (h : r.still = r'.still) : r.baseT = r'.baseT := (congrArg PhRef.baseT h :)
theorem PhRef.baseP_of_still {r r' : PhRef} (h : r.still = r'.still) : r.baseP = r'.baseP := (congrArg PhRef.baseP h :)
theorem PhRef.tePrev_of_still {r r' : PhRef} (h : r.still = r'.still) : r.tePrev = r'.tePrev := (congrArg PhRef.tePrev h :)
theorem PhRef.v_of_still {r r' : PhRef} (h : r.still = r'.still) : r.v = r'.v := (congrArg PhRef.v h :)
theorem PhRef.lines_of_still {r r' : PhRef} (h : r.still = r'.still) : r.lines = r'.lines := (congrArg PhRef.lines h :)
theorem PhRef.lastEdge_of_still {r r' : PhRef} (h : r.still = r'.still) : r.lastEdge = r'.lastEdge := (congrArg PhRef.lastEdge h :)

/-! ## The row (R163) -/

/-- The state in which a reference's lines have taken confirmed levels. -/
def State.withLines (s : State) (n levels : Nat) : State := s.modRef n (fun r => { r with lines := levels % 16 })

theorem mode_of_tracks (h : s.tracks n = true) : s.mode ≠ .m0 := by
  rintro hm
  unfold State.tracks at h
  rw [hm] at h
  simp at h

/-- Levels that have not held for FilterTicks and 2 ticks change nothing (R163). -/
theorem phaseEdge_rejects {dt : Nat} {x : EdgeIn} (he : s.elapse dt = e) (hheld : x.held < e.refPar n 9 + 2) :
    exec (.phaseEdge dt n x) s = .next e := by
  subst he
  exact if_pos (.inr (.inr hheld))

/-- Confirmed levels of a tracked reference are taken in under their raw time. -/
theorem phaseEdge_takes {dt : Nat} {x : EdgeIn} (he : s.elapse dt = e) (hn : n < 4) (ht : e.tracks n = true)
    (hheld : e.refPar n 9 + 2 ≤ x.held) : exec (.phaseEdge dt n x) s =
      .next ((e.withLines n x.levels).phaseLines n (e.phRef n).lines x (e.tick - x.held)) := by
  have hguard : ¬(4 ≤ n ∨ e.mode = .m0 ∨ x.held < e.refPar n 9 + 2) := by
    rintro (h | h | h)
    · omega
    · exact mode_of_tracks ht h
    · omega
  subst he
  refine (if_neg hguard).trans (congrArg Host.Outcome.next (if_pos ?_))
  exact ht

/-! ## What confirmed levels mean (R162–R164, R171) -/

section
variable {old te : Nat} {x : EdgeIn}

/-- What levels mean to an encoder: transitions of A and B first, then an edge of Z. -/
theorem phaseLines_encoder (hkind : s.refKind n = 0) : s.phaseLines n old x te =
    let u := if (bit old 0 != bit x.levels 0) && (bit old 1 != bit x.levels 1) then s.phaseUnlock n 7
      else if (bit old 0 != bit x.levels 0) || (bit old 1 != bit x.levels 1) then
        s.phaseEdge n te (quadReverse old x.levels != bit (s.refPar n 0) 25)
      else s
    if (bit old 2 != bit x.levels 2) && bit x.levels 2 != bit (s.refPar n 0) 20 then u.edgeZ n te else u := by
  unfold State.phaseLines
  rw [hkind]
  rfl

/-- A transition of one line of an encoder is an edge (R162). -/
theorem phaseLines_step (hkind : s.refKind n = 0) (hone : (bit old 0 != bit x.levels 0) = !(bit old 1 != bit x.levels 1))
    (hz : bit old 2 = bit x.levels 2) :
    s.phaseLines n old x te = s.phaseEdge n te (quadReverse old x.levels != bit (s.refPar n 0) 25) := by
  rw [phaseLines_encoder hkind, hz, hone]
  cases bit old 1 != bit x.levels 1 <;> simp

/-- A transition of both lines of an encoder unlocks it with cause 7 (R171). -/
theorem phaseLines_both (hkind : s.refKind n = 0) (ha : (bit old 0 != bit x.levels 0) = true)
    (hb : (bit old 1 != bit x.levels 1) = true) (hz : bit old 2 = bit x.levels 2) :
    s.phaseLines n old x te = s.phaseUnlock n 7 := by
  rw [phaseLines_encoder hkind, hz, ha, hb]
  simp

/-- An edge of Z as ZPolarity asks (R162). -/
theorem phaseLines_z (hkind : s.refKind n = 0) (ha : bit old 0 = bit x.levels 0) (hb : bit old 1 = bit x.levels 1)
    (hz : bit old 2 = bit (s.refPar n 0) 20) (hz' : bit x.levels 2 = !bit (s.refPar n 0) 20) :
    s.phaseLines n old x te = s.edgeZ n te := by
  rw [phaseLines_encoder hkind, ha, hb, hz, hz']
  simp

/-- What levels mean to a tooth wheel: an edge of PHnA is a tooth, and one of PHnB is kept for the direction of the next. -/
theorem phaseLines_wheel (hkind : s.refKind n = 1) : s.phaseLines n old x te =
    let u := if (bit old 0 != bit x.levels 0) && bit x.levels 0 != bit (s.refPar n 0) 19 then
        s.phaseEdge n te (bit (s.refPar n 0) 24 && (toothReverse (s.phRef n) te != bit (s.refPar n 0) 25))
      else s
    if (bit old 1 != bit x.levels 1) && bit x.levels 1 != bit (s.refPar n 0) 19 then
      u.modRef n (fun r => { r with lastB := some te })
    else u := by
  unfold State.phaseLines
  rw [hkind]
  rfl

/-- A tooth at PHnA; an edge of PHnB only tells the direction of a later one (R162, R176). -/
theorem phaseLines_tooth (hkind : s.refKind n = 1) (ha : bit old 0 = bit (s.refPar n 0) 19)
    (ha' : bit x.levels 0 = !bit (s.refPar n 0) 19) : ∃ rev, s.phaseLines n old x te = s.phaseEdge n te rev ∨
      s.phaseLines n old x te = (s.phaseEdge n te rev).modRef n (fun r => { r with lastB := some te }) := by
  have hedge : (bit old 0 != bit x.levels 0 && bit x.levels 0 != bit (s.refPar n 0) 19) = true := by
    rw [ha, ha']
    cases bit (s.refPar n 0) 19 <;> rfl
  rw [phaseLines_wheel hkind, if_pos hedge]
  refine ⟨bit (s.refPar n 0) 24 && (toothReverse (s.phRef n) te != bit (s.refPar n 0) 25), ?_⟩
  dsimp only
  split
  · exact .inr rfl
  · exact .inl rfl

/-- A rising crossing of a mains reference after a half wave below the hysteresis (R164). -/
theorem phaseLines_crossing (hkind : s.refKind n = 2) (hsense : s.refPar n 0x0A = 0xFF) (hold : bit old 3 = false)
    (hnew : bit x.levels 3 = true) (hlow : flt fmt32 x.low (fneg fmt32 (s.eff 0x0481)) = true) :
    s.phaseLines n old x te = s.phaseEdge n te false := by
  unfold State.phaseLines
  rw [hkind]
  exact if_pos (by simp [hsense, hold, hnew, hlow])

end

/-! ## Edges of a reference that is not LOCKED (R170) -/

/-- The raw interval since the previous edge, 0 where there was none. -/
def PhRef.interval (r : PhRef) (te : Nat) : Nat :=
  match r.tePrev with
  | some p => te - p
  | none => 0

theorem PhRef.interval_getD (r : PhRef) (te : Nat) : r.interval te = te - r.tePrev.getD te := by
  unfold PhRef.interval
  cases r.tePrev with
  | none => exact (Nat.sub_self te).symm
  | some p => rfl

/-- A reference that is not LOCKED once it has taken an edge in, an interval `d` after the last: at position `k`, in a direction, at a
velocity. -/
def PhRef.tookEdge (r : PhRef) (te d k : Nat) (rev : Bool) (v : Int) : PhRef :=
  { r with
    tePrev := some te, prevInt := if d = 0 then none else some d, k := k, reverse := rev, v := v, a := 0, ords := r.ords + 1 }

/-- An edge of a SEARCHING encoder, and one of a SEARCHING tooth wheel that ends no gap, only move the position. -/
theorem edgeSearch_counts {te : Nat} (rev : Bool) (hs : (s.phRef n).state = 1)
    (hkind : s.refKind n = 0 ∨ s.refKind n = 1 ∧ s.gapTest n ((s.phRef n).interval te) (s.phRef n).prevInt = false) : ∃ v,
    s.edgeSearch n te rev =
      s.modRef n (·.tookEdge te ((s.phRef n).interval te) (s.nextPos n (s.phRef n).k rev) rev v) := by
  unfold State.edgeSearch
  extract_lets r dt kind gap k dp ok v s1 back lock need s2 s3 s4
  have hdt : dt = (s.phRef n).interval te := rfl
  have hgap : gap = false := by
    obtain h | ⟨h, hnone⟩ := hkind
    · simp only [gap, kind, h]
      rfl
    · simp only [gap, hdt, r, hnone, Bool.and_false]
  have hnot : kind ≠ 2 := by
    simp only [kind]
    omega
  have hk : k = s.nextPos n (s.phRef n).k rev := by
    simp only [k, hgap, if_neg hnot, Bool.false_eq_true, if_false, r]
  have hs1 : s1 = s.modRef n (·.tookEdge te ((s.phRef n).interval te) (s.nextPos n (s.phRef n).k rev) rev v) := by
    rw [← hdt, ← hk]
    rfl
  have hstate : ¬(r.state = 2 && rev != r.reverse) = true := by simp [r, hs]
  refine ⟨v, Eq.trans ?_ hs1⟩
  obtain h | ⟨h, -⟩ := hkind
  · rw [if_neg (show ¬kind = 1 by simp [kind, h]), if_neg hnot, if_neg hstate]
  · rw [if_pos h, if_pos hs, hgap, Bool.false_and, if_neg Bool.false_ne_true]

/-- The first edge of a SEARCHING mains reference leaves it CONFIRMING, with no confirmation yet. -/
theorem edgeSearch_begins {te : Nat} {rev : Bool} (hs : (s.phRef n).state = 1) (hkind : s.refKind n = 2) :
    ((s.edgeSearch n te rev).phRef n).state = 2 ∧ ((s.edgeSearch n te rev).phRef n).conf = 0 ∧
      ((s.edgeSearch n te rev).phRef n).tePrev = some te := by
  unfold State.edgeSearch
  extract_lets r dt kind gap k dp ok v s1 back lock need s2 s3 s4
  rw [if_neg (show ¬kind = 1 by simp [kind, hkind]), if_pos hkind, if_pos hs, modRef_phRef_self, modRef_phRef_self]
  exact ⟨rfl, rfl, rfl⟩

/-- The last confirmation of a CONFIRMING mains reference locks it, at the velocity of one turn in the interval. -/
theorem edgeSearch_locks {te : Nat} {rev : Bool} (hs : (s.phRef n).state = 2) (hkind : s.refKind n = 2)
    (hd : (s.phRef n).interval te ≠ 0) (hok : s.speedOk n fullTurn ((s.phRef n).interval te) = true)
    (hlast : s.refPar n 6 ≤ (s.phRef n).conf + 1) : ∃ (u : State) (nextD : Int),
    s.edgeSearch n te rev = u.phaseLock n te (s.refPar n 2) nextD ∧ u.ev = s.ev ∧ SameAround s u ∧
      (u.phRef n).v = Int.fdiv (fullTurn * 4294967296) ((s.phRef n).interval te) := by
  unfold State.edgeSearch
  extract_lets r dt kind gap k dp ok v s1 back lock need s2 s3 s4
  have hdt : dt = (s.phRef n).interval te := rfl
  have hdp : dp = fullTurn := if_pos hkind
  have hok' : ok = true := by simp [ok, hdt, hdp, hd, hok]
  have hneed : need ≤ r.conf + 1 := max_le (Nat.le_add_left 1 _) hlast
  have hv : v = Int.fdiv (fullTurn * 4294967296) ((s.phRef n).interval te) := by
    simp only [v, hdt, hdp, if_neg hd]
  have hphase : s4.edgePhase n k = s.refPar n 2 := if_pos hkind
  rw [if_neg (show ¬kind = 1 by simp [kind, hkind]), if_pos hkind, if_neg (show ¬r.state = 1 by simp [r, hs]), hok', Bool.not_true,
    if_neg Bool.false_ne_true, if_pos hneed]
  refine ⟨s4, _, congrArg (fun p => s4.phaseLock n te p (s4.nextStep n k rev)) hphase, rfl, ⟨rfl, rfl, rfl, rfl, rfl⟩, ?_⟩
  rw [← hv]
  simp only [s4, modRef_phRef_self, s1]

/-! ## Edges of Z (R162, R170, R171) -/

/-- Within one count of 0, Z corrects the count of a LOCKED encoder. -/
theorem edgeZ_corrects {te : Nat} (hs : (s.phRef n).state = 3)
    (hnear : (s.phRef n).k % s.refRes n ≤ 1 ∨ s.refRes n - (s.phRef n).k % s.refRes n ≤ 1) :
    (s.edgeZ n te).phRef n = { s.phRef n with
      k := 0, ords := 0
      nextD := if (s.phRef n).k = 0 then (s.phRef n).nextD
        else nearTurn ((s.edgePhase n (s.nextPos n 0 (s.phRef n).reverse) : Int) - (s.phRef n).baseP) } := by
  have hdist : State.edgeZ.circDist' (s.phRef n).k (s.refRes n) ≤ 1 := min_le_iff.mpr hnear
  unfold State.edgeZ
  extract_lets r res near dt ok need lock s1 s2 s3
  rw [if_pos hs, if_pos hdist]
  exact modRef_phRef_self _ _ _

/-- Further from 0, Z unlocks a LOCKED encoder with cause 5. -/
theorem edgeZ_unlocks {te : Nat} (hs : (s.phRef n).state = 3) (hk : 2 ≤ (s.phRef n).k % s.refRes n)
    (hk' : 2 ≤ s.refRes n - (s.phRef n).k % s.refRes n) : s.edgeZ n te = s.phaseUnlock n 5 := by
  have hdist : ¬State.edgeZ.circDist' (s.phRef n).k (s.refRes n) ≤ 1 := Nat.not_le.mpr (lt_min hk hk')
  unfold State.edgeZ
  extract_lets r res near dt ok need lock s1 s2 s3
  rw [if_pos hs, if_neg hdist]

/-- Where one confirmation is enough, Z locks a SEARCHING encoder whose last interval is in the range of speeds. -/
theorem edgeZ_locks {te : Nat} (hs : (s.phRef n).state = 1) (hone : s.refPar n 6 ≤ 1) (hd : (s.phRef n).prevInt.getD 0 ≠ 0)
    (hok : s.speedOk n (s.nextStep n 0 (s.phRef n).reverse) ((s.phRef n).prevInt.getD 0) = true) : ∃ (u : State) (nextD : Int),
    s.edgeZ n te = u.phaseLock n te (s.edgePhase n 0) nextD ∧ u.ev = s.ev ∧ SameAround s u ∧
      u.phRef n = { s.phRef n with k := 0, ords := 0, state := 2, conf := 1 } := by
  unfold State.edgeZ
  extract_lets r res near dt ok need lock s1 s2 s3
  have hok' : ok = true := by simp [ok, dt, r, hd, hok]
  have hneed : need = 1 := max_eq_left hone
  rw [if_neg (show ¬r.state = 3 by simp [r, hs]), if_pos (show r.state = 1 from hs), if_pos hneed, if_pos hok']
  refine ⟨s2, _, rfl, rfl, ⟨rfl, rfl, rfl, rfl, rfl⟩, ?_⟩
  simp only [s2, s1, r, modRef_phRef_self]

/-! ## Edges of a LOCKED reference (R172) -/

/-- An edge of a LOCKED encoder that keeps its direction, at a speed below the limit, is the reference's new base. -/
theorem edgeLocked_moves {te : Nat} (hkind : s.refKind n = 0) (hd : te - (s.phRef n).tePrev.getD (s.phRef n).baseT ≠ 0)
    (hslow : fasterThan (s.nextStep n (s.phRef n).k (s.phRef n).reverse) (te - (s.phRef n).tePrev.getD (s.phRef n).baseT)
      (s.refPar n 4) = false) : ∃ a same nextD dphi,
    ((s.edgeLocked n te (s.phRef n).reverse).phRef n).still = PhRef.still { s.phRef n with
      v := Int.fdiv (s.nextStep n (s.phRef n).k (s.phRef n).reverse * 4294967296)
        (te - (s.phRef n).tePrev.getD (s.phRef n).baseT : Nat)
      a := a, same := same, extrap := true, baseT := te
      baseP := s.edgePhase n (s.nextPos n (s.phRef n).k (s.phRef n).reverse), tePrev := some te
      prevInt := some (te - (s.phRef n).tePrev.getD (s.phRef n).baseT)
      k := s.nextPos n (s.phRef n).k (s.phRef n).reverse, ords := (s.phRef n).ords + 1, nextD := nextD, dphi := dphi } := by
  unfold State.edgeLocked
  extract_lets r dt kind turned k gapHere gap pe dp off vNew same a shift ahead old s1
  have hturned : turned = false := bne_self_eq_false _
  have hgapHere : gapHere = false := by simp [gapHere, kind, hkind]
  have hgap : gap = false := by simp [gap, kind, hkind]
  have hv : vNew = Int.fdiv (dp * 4294967296) dt := if_neg hd
  have hfast : ¬(!turned && dt != 0 && fasterThan dp dt (s.refPar n 4)) = true := by
    have hslow' : fasterThan dp dt (s.refPar n 4) = false := hslow
    simp [hslow']
  rw [if_neg (by simp [hgapHere]), if_neg (by simp [hgap]), if_neg hfast]
  have hs1 : s1.phRef n = _ := modRef_phRef_self s n _
  refine ⟨a, same, s.nextStep n k r.reverse, old, ?_⟩
  split
  split
  rename_i y c hp _ due s2 hmove
  extract_lets s3
  have hs3 : s3.phRef n = s2.phRef n := by
    simp only [s3, hturned, Bool.false_eq_true, if_false]
  have hs2 : (s2.phRef n).still = (s1.phRef n).still :=
    (congrArg (fun x => (x.2.phRef n).still) hmove).symm.trans (phaseMove_still s1 n n _ _ _)
  rw [phaseUpdate_still, hs3, hs2, hs1, hturned, hv]
  rfl

/-! ## Each kind of reference and input -/

theorem modRef_around (s : State) (n : Nat) (f : PhRef → PhRef) : SameAround s (s.modRef n f) := ⟨rfl, rfl, rfl, rfl, rfl⟩

theorem SameAround.eventPresent {s t : State} (h : SameAround s t) (k : Nat) : t.eventPresent k = s.eventPresent k := by
  unfold State.eventPresent
  simp only [h.has]

theorem SameAround.refKind {s t : State} (h : SameAround s t) (n : Nat) : t.refKind n = s.refKind n := by
  unfold State.refKind
  rw [h.refPar]

/-- An occurrence since `u` is one since `e`, where nothing has occurred in between. -/
theorem Occurs.of_before {e u t : State} {k : Nat} {d : List (Nat × Nat)} (h : Occurs u t k d) (hev : u.ev = e.ev)
    (ha : SameAround e u) : Occurs e t k d := by
  unfold Occurs at *
  rw [ha.eventPresent, hev, ha.now] at h
  exact h

/-- The state in which the time of an edge with raw time `te` is LastEdgeTime. -/
def State.edgeAt (s : State) (n te : Nat) : State := s.modRef n (fun r => { r with lastEdge := s.now - (s.tick - te) * 8 })

theorem phaseEdge_locked {te : Nat} (rev : Bool) (hs : (s.phRef n).state = 3) :
    s.phaseEdge n te rev = (s.edgeAt n te).edgeLocked n te rev :=
  if_pos ((congrArg PhRef.state (modRef_phRef_self s n _)).trans hs)

theorem phaseEdge_searching {te : Nat} (rev : Bool) (hs : (s.phRef n).state ≠ 3) :
    s.phaseEdge n te rev = (s.edgeAt n te).edgeSearch n te rev :=
  if_neg (fun h => hs ((congrArg PhRef.state (modRef_phRef_self s n _)).symm.trans h))

theorem withLines_phRef (s : State) (n levels : Nat) : (s.withLines n levels).phRef n = { s.phRef n with lines := levels % 16 } :=
  modRef_phRef_self s n _

/-- The state in which an edge finds its reference. -/
def State.edged (s : State) (n levels te : Nat) : State := (s.withLines n levels).edgeAt n te

theorem edged_phRef (s : State) (n levels te : Nat) : (s.edged n levels te).phRef n =
    { s.phRef n with lines := levels % 16, lastEdge := s.now - (s.tick - te) * 8 } := by
  refine (modRef_phRef_self (s.withLines n levels) n _).trans ?_
  rw [withLines_phRef]
  rfl

theorem withLines_not_locked (levels : Nat) {k : Nat} (hs : (s.phRef n).state = k) (hk : k ≠ 3) :
    ((s.withLines n levels).phRef n).state ≠ 3 :=
  fun h => hk (hs.symm.trans ((congrArg PhRef.state (withLines_phRef s n levels)).symm.trans h))

theorem withLines_phaseAt (s : State) (n levels k : Nat) : (s.withLines n levels).phaseAt n k = s.phaseAt n k := by
  unfold State.phaseAt
  rw [withLines_phRef]
  rfl

/-- A LOCKED reference whose confirmed levels unlock it does so at its present phase. -/
theorem withLines_unlocks (hs : (s.phRef n).state = 3) (levels cause : Nat) :
    ((s.withLines n levels).phaseUnlock n cause).phRef n =
      PhRef.unlocked { s.phRef n with lines := levels % 16 } s.tick cause (s.phaseAt n s.tick) ∧
    Occurs s ((s.withLines n levels).phaseUnlock n cause) 50
      [(1, n), (1, cause), (4, s.phaseAt n s.tick), (4, speedOf (s.phRef n).v)] := by
  have hw := withLines_phRef s n levels
  have hlocked : ((s.withLines n levels).phRef n).state = 3 := (congrArg PhRef.state hw).trans hs
  have href := phaseUnlock_phRef hlocked cause
  have htold := phaseUnlock_occurs hlocked cause
  rw [withLines_phaseAt, hw] at href htold
  exact ⟨href, htold⟩

section
variable {dt te : Nat} {x : EdgeIn} (he : s.elapse dt = e) (hn : n < 4) (ht : e.tracks n = true)
  (hheld : e.refPar n 9 + 2 ≤ x.held) (hte : te = e.tick - x.held)

section
include he hn ht hheld

theorem exec_phaseEdge_eq (hte : te = e.tick - x.held) {t : State}
    (h : (e.withLines n x.levels).phaseLines n (e.phRef n).lines x te = t) : exec (.phaseEdge dt n x) s = .next t := by
  subst hte h
  exact phaseEdge_takes he hn ht hheld

theorem phaseEdge_bothLines (hkind : e.refKind n = 0) (hs : (e.phRef n).state = 3)
    (ha : (bit (e.phRef n).lines 0 != bit x.levels 0) = true) (hb : (bit (e.phRef n).lines 1 != bit x.levels 1) = true)
    (hz : bit (e.phRef n).lines 2 = bit x.levels 2) :
    ∃ t, exec (.phaseEdge dt n x) s = .next t ∧ (t.phRef n).state = 1 ∧ (t.phRef n).cause = 7 ∧ (t.phRef n).v = 0 ∧
      (t.phRef n).phi = e.phaseAt n e.tick ∧ (t.phRef n).unlocks = (e.phRef n).unlocks + 1 ∧
      Occurs e t 50 [(1, n), (1, 7), (4, e.phaseAt n e.tick), (4, speedOf (e.phRef n).v)] := by
  have hexec := exec_phaseEdge_eq he hn ht hheld rfl (phaseLines_both hkind ha hb hz)
  obtain ⟨href, htold⟩ := withLines_unlocks hs x.levels 7
  exact ⟨_, hexec, congrArg PhRef.state href, congrArg PhRef.cause href, congrArg PhRef.v href, congrArg PhRef.phi href,
    congrArg PhRef.unlocks href, htold⟩

end

section
include he hn ht hheld hte

/-! A transition of one line (R162, R172, R173). -/

section
variable (hkind : e.refKind n = 0)
  (hone : (bit (e.phRef n).lines 0 != bit x.levels 0) = !(bit (e.phRef n).lines 1 != bit x.levels 1))
  (hz : bit (e.phRef n).lines 2 = bit x.levels 2)
  (hdir : (quadReverse (e.phRef n).lines x.levels != bit (e.refPar n 0) 25) = (e.phRef n).reverse)
include hkind hone hz hdir

theorem exec_phaseEdge_step : exec (.phaseEdge dt n x) s =
    .next ((e.withLines n x.levels).phaseEdge n te (e.phRef n).reverse) := by
  have hline := phaseLines_step (s := e.withLines n x.levels) (te := te) hkind hone hz
  rw [← hdir]
  exact exec_phaseEdge_eq he hn ht hheld hte hline

theorem phaseEdge_step_locked (hs : (e.phRef n).state = 3) (hd : te - (e.phRef n).tePrev.getD (e.phRef n).baseT ≠ 0)
    (hslow : fasterThan (e.nextStep n (e.phRef n).k (e.phRef n).reverse) (te - (e.phRef n).tePrev.getD (e.phRef n).baseT)
      (e.refPar n 4) = false) :
    ∃ t, exec (.phaseEdge dt n x) s = .next t ∧ (t.phRef n).state = 3 ∧
      (t.phRef n).k = e.nextPos n (e.phRef n).k (e.phRef n).reverse ∧ (t.phRef n).baseT = te ∧
      (t.phRef n).baseP = e.edgePhase n (e.nextPos n (e.phRef n).k (e.phRef n).reverse) ∧ (t.phRef n).tePrev = some te ∧
      (t.phRef n).v = Int.fdiv (e.nextStep n (e.phRef n).k (e.phRef n).reverse * 4294967296)
        (te - (e.phRef n).tePrev.getD (e.phRef n).baseT : Nat) ∧
      (t.phRef n).lines = x.levels % 16 ∧ (t.phRef n).lastEdge = e.now - (e.tick - te) * 8 := by
  have hexec := exec_phaseEdge_step he hn ht hheld hte hkind hone hz hdir
  have hw := withLines_phRef e n x.levels
  rw [phaseEdge_locked _ ((congrArg PhRef.state hw).trans hs)] at hexec
  have hz := edged_phRef e n x.levels te
  obtain ⟨a, same, nextD, dphi, h⟩ := edgeLocked_moves (s := e.edged n x.levels te) (n := n) (te := te) hkind
    (by rw [hz]; exact hd) (by rw [hz]; exact hslow)
  rw [hz] at h
  exact ⟨_, hexec, (PhRef.state_of_still h).trans hs, PhRef.k_of_still h, PhRef.baseT_of_still h, PhRef.baseP_of_still h,
    PhRef.tePrev_of_still h, PhRef.v_of_still h, PhRef.lines_of_still h, PhRef.lastEdge_of_still h⟩

theorem phaseEdge_step_searching (hs : (e.phRef n).state = 1) :
    ∃ t, exec (.phaseEdge dt n x) s = .next t ∧ (t.phRef n).state = 1 ∧
      (t.phRef n).k = e.nextPos n (e.phRef n).k (e.phRef n).reverse ∧ (t.phRef n).tePrev = some te ∧
      (t.phRef n).ords = (e.phRef n).ords + 1 ∧ (t.phRef n).lines = x.levels % 16 ∧ t.ev = e.ev := by
  have hexec := exec_phaseEdge_step he hn ht hheld hte hkind hone hz hdir
  have hfree := withLines_not_locked x.levels hs (by decide)
  rw [phaseEdge_searching _ hfree] at hexec
  have hz := edged_phRef e n x.levels te
  obtain ⟨v, h⟩ := edgeSearch_counts (s := e.edged n x.levels te) (n := n) (te := te) (e.phRef n).reverse
    ((congrArg PhRef.state hz).trans hs) (.inl hkind)
  have href := (congrArg (fun u : State => u.phRef n) h).trans (modRef_phRef_self _ n _)
  rw [hz] at href
  exact ⟨_, hexec, (congrArg PhRef.state href).trans hs, congrArg PhRef.k href, congrArg PhRef.tePrev href,
    congrArg PhRef.ords href, congrArg PhRef.lines href, (congrArg State.ev h).trans rfl⟩

end

/-! An edge of Z (R162, R170, R171). -/

section
variable (hkind : e.refKind n = 0) (ha : bit (e.phRef n).lines 0 = bit x.levels 0)
  (hb : bit (e.phRef n).lines 1 = bit x.levels 1) (hz : bit (e.phRef n).lines 2 = bit (e.refPar n 0) 20)
  (hz' : bit x.levels 2 = !bit (e.refPar n 0) 20)
include hkind ha hb hz hz'

theorem exec_phaseEdge_z : exec (.phaseEdge dt n x) s = .next ((e.withLines n x.levels).edgeZ n te) := by
  have hline := phaseLines_z (s := e.withLines n x.levels) (te := te) hkind ha hb hz hz'
  exact exec_phaseEdge_eq he hn ht hheld hte hline

theorem phaseEdge_z_corrects (hs : (e.phRef n).state = 3)
    (hnear : (e.phRef n).k % e.refRes n ≤ 1 ∨ e.refRes n - (e.phRef n).k % e.refRes n ≤ 1) :
    ∃ t, exec (.phaseEdge dt n x) s = .next t ∧ t.phRef n = { e.phRef n with
      lines := x.levels % 16, k := 0, ords := 0
      nextD := if (e.phRef n).k = 0 then (e.phRef n).nextD
        else nearTurn ((e.edgePhase n (e.nextPos n 0 (e.phRef n).reverse) : Int) - (e.phRef n).baseP) } := by
  have hw := withLines_phRef e n x.levels
  have href := edgeZ_corrects (s := e.withLines n x.levels) (n := n) (te := te) ((congrArg PhRef.state hw).trans hs)
    (by rw [hw]; exact hnear)
  rw [hw] at href
  exact ⟨_, exec_phaseEdge_z he hn ht hheld hte hkind ha hb hz hz', href⟩

theorem phaseEdge_z_unlocks (hs : (e.phRef n).state = 3) (hk : 2 ≤ (e.phRef n).k % e.refRes n)
    (hk' : 2 ≤ e.refRes n - (e.phRef n).k % e.refRes n) :
    ∃ t, exec (.phaseEdge dt n x) s = .next t ∧ (t.phRef n).state = 1 ∧ (t.phRef n).cause = 5 ∧
      Occurs e t 50 [(1, n), (1, 5), (4, e.phaseAt n e.tick), (4, speedOf (e.phRef n).v)] := by
  have hexec := exec_phaseEdge_z he hn ht hheld hte hkind ha hb hz hz'
  have hw := withLines_phRef e n x.levels
  rw [edgeZ_unlocks (s := e.withLines n x.levels) ((congrArg PhRef.state hw).trans hs) (by rw [hw]; exact hk)
    (by rw [hw]; exact hk')] at hexec
  obtain ⟨href, htold⟩ := withLines_unlocks hs x.levels 5
  exact ⟨_, hexec, congrArg PhRef.state href, congrArg PhRef.cause href, htold⟩

theorem phaseEdge_z_locks (hs : (e.phRef n).state = 1) (hone : e.refPar n 6 ≤ 1) (hd : (e.phRef n).prevInt.getD 0 ≠ 0)
    (hok : e.speedOk n (e.nextStep n 0 (e.phRef n).reverse) ((e.phRef n).prevInt.getD 0) = true) :
    ∃ t, exec (.phaseEdge dt n x) s = .next t ∧ (t.phRef n).state = 3 ∧ (t.phRef n).k = 0 ∧ (t.phRef n).baseT = te ∧
      (t.phRef n).baseP = e.edgePhase n 0 ∧ (t.phRef n).locks = (e.phRef n).locks + 1 ∧ (t.phRef n).revs = 0 ∧
      Occurs e t 48 [(1, n), (1, 0), (4, speedOf (e.phRef n).v), (4, (t.phRef n).phi)] := by
  have hexec := exec_phaseEdge_z he hn ht hheld hte hkind ha hb hz hz'
  have hw := withLines_phRef e n x.levels
  obtain ⟨u, nextD, hlock, hev, haround, hu⟩ := edgeZ_locks (s := e.withLines n x.levels) (n := n) (te := te)
    ((congrArg PhRef.state hw).trans hs) hone (by rw [hw]; exact hd) (by rw [hw]; exact hok)
  rw [hlock] at hexec
  rw [hw] at hu
  have hbefore : SameAround e u := (modRef_around e n _).trans haround
  have hlocks : (u.phRef n).locks = (e.phRef n).locks := (congrArg PhRef.locks hu).trans rfl
  obtain ⟨y, c, href, htold⟩ := phaseLock_locks u n te ((e.withLines n x.levels).edgePhase n 0) nextD
  refine ⟨_, hexec, congrArg PhRef.state href, (congrArg PhRef.k href).trans (congrArg PhRef.k hu), congrArg PhRef.baseT href,
    congrArg PhRef.baseP href, (congrArg PhRef.locks href).trans (congrArg (· + 1) hlocks), congrArg PhRef.revs href, ?_⟩
  rw [hbefore.refKind, hkind, hu] at htold
  rw [congrArg PhRef.phi href]
  exact htold.of_before hev hbefore

end

/-! A tooth (R170), and a crossing of a mains reference (R164, R170). -/

theorem phaseEdge_tooth (hkind : e.refKind n = 1) (ha : bit (e.phRef n).lines 0 = bit (e.refPar n 0) 19)
    (ha' : bit x.levels 0 = !bit (e.refPar n 0) 19) (hs : (e.phRef n).state = 1)
    (hgap : e.gapTest n ((e.phRef n).interval te) (e.phRef n).prevInt = false) :
    ∃ t, exec (.phaseEdge dt n x) s = .next t ∧ (t.phRef n).state = 1 ∧ (t.phRef n).tePrev = some te ∧
      (t.phRef n).lastEdge = e.now - (e.tick - te) * 8 ∧ t.ev = e.ev := by
  obtain ⟨rev, hlines⟩ := phaseLines_tooth (s := e.withLines n x.levels) (te := te) hkind ha ha'
  have hz := edged_phRef e n x.levels te
  obtain ⟨v, h⟩ := edgeSearch_counts (s := e.edged n x.levels te) (n := n) (te := te) rev
    ((congrArg PhRef.state hz).trans hs) (.inr ⟨hkind, by rw [hz]; exact hgap⟩)
  have hedge := (phaseEdge_searching (te := te) rev (withLines_not_locked x.levels hs (by decide))).trans h
  have href := (congrArg (fun u : State => u.phRef n) hedge).trans (modRef_phRef_self _ n _)
  rw [hz] at href
  have hev : ((e.withLines n x.levels).phaseEdge n te rev).ev = e.ev := (congrArg State.ev hedge).trans rfl
  generalize (e.withLines n x.levels).phaseEdge n te rev = u at *
  have hstate : (u.phRef n).state = 1 := (congrArg PhRef.state href).trans hs
  obtain hlines | hlines := hlines
  · exact ⟨u, exec_phaseEdge_eq he hn ht hheld hte hlines, hstate, congrArg PhRef.tePrev href, congrArg PhRef.lastEdge href, hev⟩
  · refine ⟨_, exec_phaseEdge_eq he hn ht hheld hte hlines, ?_⟩
    rw [modRef_phRef_self]
    exact ⟨hstate, congrArg PhRef.tePrev href, congrArg PhRef.lastEdge href, hev⟩

section
variable (hkind : e.refKind n = 2) (hsense : e.refPar n 0x0A = 0xFF) (hold : bit (e.phRef n).lines 3 = false)
  (hnew : bit x.levels 3 = true) (hlow : flt fmt32 x.low (fneg fmt32 (e.eff 0x0481)) = true)
include hkind hsense hold hnew hlow

theorem exec_phaseEdge_crossing (hs : (e.phRef n).state ≠ 3) :
    exec (.phaseEdge dt n x) s = .next ((e.edged n x.levels te).edgeSearch n te false) := by
  have hlines := phaseLines_crossing (s := e.withLines n x.levels) (te := te) hkind hsense hold hnew hlow
  rw [phaseEdge_searching _ (withLines_not_locked x.levels rfl hs)] at hlines
  exact exec_phaseEdge_eq he hn ht hheld hte hlines

theorem phaseEdge_crossing_begins (hs : (e.phRef n).state = 1) :
    ∃ t, exec (.phaseEdge dt n x) s = .next t ∧ (t.phRef n).state = 2 ∧ (t.phRef n).conf = 0 ∧ (t.phRef n).tePrev = some te := by
  have hz := edged_phRef e n x.levels te
  exact ⟨_, exec_phaseEdge_crossing he hn ht hheld hte hkind hsense hold hnew hlow (by rw [hs]; decide),
    edgeSearch_begins ((congrArg PhRef.state hz).trans hs) hkind⟩

theorem phaseEdge_crossing_locks {b : Nat} (hs : (e.phRef n).state = 2) (hb : (e.phRef n).tePrev = some b) (hd : te - b ≠ 0)
    (hok : e.speedOk n fullTurn (te - b) = true) (hlast : e.refPar n 6 ≤ (e.phRef n).conf + 1) :
    ∃ t, exec (.phaseEdge dt n x) s = .next t ∧ (t.phRef n).state = 3 ∧ (t.phRef n).baseT = te ∧
      (t.phRef n).baseP = e.refPar n 2 ∧ (t.phRef n).v = Int.fdiv (fullTurn * 4294967296) (te - b : Nat) ∧
      Occurs e t 48 [(1, n), (1, 2), (4, speedOf (t.phRef n).v), (4, (t.phRef n).phi)] := by
  have hz := edged_phRef e n x.levels te
  have hinterval : (e.phRef n).interval te = te - b := by rw [PhRef.interval, hb]
  obtain ⟨u, nextD, hlock, hev, haround, hu⟩ := edgeSearch_locks (s := e.edged n x.levels te) (n := n) (te := te) (rev := false)
    ((congrArg PhRef.state hz).trans hs) hkind (by rw [hz]; exact hinterval ▸ hd) (by rw [hz]; exact hinterval ▸ hok)
    (by rw [hz]; exact hlast)
  have hexec := exec_phaseEdge_crossing he hn ht hheld hte hkind hsense hold hnew hlow (by rw [hs]; decide)
  rw [hlock] at hexec
  have hbefore : SameAround e u := ((modRef_around e n _).trans (modRef_around _ n _)).trans haround
  have hv : (u.phRef n).v = Int.fdiv (fullTurn * 4294967296) (te - b : Nat) := by
    rw [hu, hz]
    exact congrArg (fun d : Nat => Int.fdiv (fullTurn * 4294967296) d) hinterval
  obtain ⟨y, c, href, htold⟩ := phaseLock_locks u n te ((e.edged n x.levels te).refPar n 2) nextD
  refine ⟨_, hexec, congrArg PhRef.state href, congrArg PhRef.baseT href, congrArg PhRef.baseP href,
    (congrArg PhRef.v href).trans hv, ?_⟩
  rw [hbefore.refKind, hkind] at htold
  rw [congrArg PhRef.phi href, congrArg PhRef.v href]
  exact htold.of_before hev hbefore

end

end

end

end Sys2Proof.Machine
end

section
open Sys2Proof Sys2Proof.Machine

/-- Settles O37, by kind of reference and input: levels that have not held, a transition of one line, an edge of Z, transitions of
both lines, a tooth, and a crossing of a mains reference. -/
theorem phaseEdgeRowsComplete : Obligations.PhaseEdgeRowsComplete := by
  refine ⟨?_, ?_, ?_, ?_, ?_, ?_⟩
  · intro dt n x s e he _ hheld
    exact phaseEdge_rejects he hheld
  · rintro dt n te k d x s e he hn ht hkind hheld hte hone hz hdir rfl
    refine ⟨?_, fun hs => phaseEdge_step_searching he hn ht hheld hte hkind hone hz hdir hs⟩
    rintro hs rfl hd hslow
    exact phaseEdge_step_locked he hn ht hheld hte hkind hone hz hdir hs hd hslow
  · intro dt n te x s e he hn ht hkind hheld hte ha hb hz hz'
    exact ⟨fun hs hnear => phaseEdge_z_corrects he hn ht hheld hte hkind ha hb hz hz' hs hnear,
      fun hs hk hk' => phaseEdge_z_unlocks he hn ht hheld hte hkind ha hb hz hz' hs hk hk',
      fun hs hone hd hok => phaseEdge_z_locks he hn ht hheld hte hkind ha hb hz hz' hs hone hd hok⟩
  · intro dt n x s e he hn ht hkind hs hheld ha hb hz
    exact phaseEdge_bothLines he hn ht hheld hkind hs ha hb hz
  · rintro dt n d te x s e he hn ht hkind hheld hte ha ha' rfl hs hgap
    rw [← PhRef.interval_getD] at hgap
    exact phaseEdge_tooth he hn ht hheld hte hkind ha ha' hs hgap
  · intro dt n te b x s e he hn ht hkind hsense hheld hte hold hnew hlow
    exact ⟨fun hs => phaseEdge_crossing_begins he hn ht hheld hte hkind hsense hold hnew hlow hs,
      fun hs hb hd hok hlast => phaseEdge_crossing_locks he hn ht hheld hte hkind hsense hold hnew hlow hs hb hd hok hlast⟩

end

section
/-!
PROOFS. Commands on loops (R213, R214, R216): what LOOP_INJECT and LOOP_CAPTURE leave of generators, captures and sessions.
-/
namespace Sys2Proof.Machine

/-! ## Generators (R213) -/

theorem injStop_of_idle {s : State} {g : Nat} (h : (s.injector g).active = false) : s.injStop g = s := by
  unfold State.injStop
  rw [h]
  rfl

/-- Generator `g` is idle, with nothing left to complete, and its record shows no injection (R212, R213). -/
def State.injEnded (s : State) (g : Nat) : State :=
  (s.modInj g (fun x => { x with active := false, begun := false, op := none })).modRec (s.injRec g)
    (fun r => { r with injecting := false })

theorem injEnded_injector_self (s : State) (g : Nat) : ((s.injEnded g).injector g).active = false :=
  congrArg Inject.active (modInj_injector_self s g (fun x => { x with active := false, begun := false, op := none }))

theorem injEnded_injector_ne (s : State) {g k : Nat} (h : k ≠ g) : (s.injEnded g).injector k = s.injector k :=
  modInj_injector_ne s g (fun x => { x with active := false, begun := false, op := none }) h

theorem injEnded_record (s : State) (g : Nat) : ((s.injEnded g).lrec (s.injRec g)).injecting = false :=
  congrArg LoopRec.injecting (modRec_lrec_self _ (s.injRec g) (fun r => { r with injecting := false }))

theorem injStop_of_active {s : State} {g : Nat} (h : (s.injector g).active = true) :
    s.injStop g = (s.injEnded g).completeOpt (s.injector g).op .superseded := by
  unfold State.injStop
  rw [if_pos h]
  rfl

@[simp] theorem completeOpt_injector (s : State) (op : Option Nat) (st : Status) (b : List Byte) (k : Nat) :
    (s.completeOpt op st b).injector k = s.injector k := congrArg (fun l : Loop => tget l.inj k {}) (completeOpt_loop s op st b)

@[simp] theorem completeOpt_capture (s : State) (op : Option Nat) (st : Status) (b : List Byte) (k : Nat) :
    (s.completeOpt op st b).capture k = s.capture k := congrArg (fun l : Loop => tget l.cap k {}) (completeOpt_loop s op st b)

@[simp] theorem completeOpt_lrec (s : State) (op : Option Nat) (st : Status) (b : List Byte) (k : Nat) :
    (s.completeOpt op st b).lrec k = s.lrec k := congrArg (fun l : Loop => tget l.rec_ k {}) (completeOpt_loop s op st b)

theorem injStop_ends (s : State) (g : Nat) : ((s.injStop g).injector g).active = false := by
  cases h : (s.injector g).active with
  | false => rw [injStop_of_idle h, h]
  | true =>
    rw [injStop_of_active h, completeOpt_injector]
    exact injEnded_injector_self s g

theorem injStop_injector_ne (s : State) {g k : Nat} (hk : k ≠ g) : (s.injStop g).injector k = s.injector k := by
  cases h : (s.injector g).active with
  | false => rw [injStop_of_idle h]
  | true =>
    rw [injStop_of_active h, completeOpt_injector]
    exact injEnded_injector_ne s hk

theorem injStop_record {s : State} {g : Nat} (h : (s.injector g).active = true) :
    ((s.injStop g).lrec (s.injRec g)).injecting = false := by
  rw [injStop_of_active h, completeOpt_lrec]
  exact injEnded_record s g

theorem injStop_out (s : State) (g : Nat) : s.out <+: (s.injStop g).out := by
  cases h : (s.injector g).active with
  | false => rw [injStop_of_idle h]
  | true =>
    rw [injStop_of_active h]
    exact completeOpt_out (s.injEnded g) _ _ _

/-! ## Stored completions (R93) -/

theorem mem_storeDone (l : List (Nat × Nat × List Byte)) (x : Nat × Nat × List Byte) : x ∈ storeDone l x := by
  unfold storeDone
  rw [List.drop_append_of_le_length (by omega)]
  exact List.mem_append_right _ (List.mem_singleton_self x)

/-- A notification leaves a session its stored completions. -/
theorem notify_done {s : State} {i : U32} {x : Session} (hx : s.session i = some x) (a b : Nat) (l : List Byte) :
    ∃ y, (s.notify i a b l).session i = some y ∧ y.done = x.done := by
  unfold State.notify
  rw [hx]
  dsimp only
  cases x.route with
  | none => exact ⟨x, hx, rfl⟩
  | some r =>
    dsimp only
    split
    · exact ⟨x, hx, rfl⟩
    · split
      · split
        · exact ⟨_, modSession_self hx _ (fun _ => rfl), rfl⟩
        · exact ⟨_, modSession_self hx _ (fun _ => rfl), rfl⟩
      · exact ⟨_, modSession_self hx _ (fun _ => rfl), rfl⟩

/-- The body of the completion of a command with its result (R92). -/
def State.completionBody (s : State) (code : Nat) (result : List Byte) : List Byte :=
  beBytes 1 1 ++ beBytes 1 0 ++ beBytes 2 code ++ beBytes 1 s.mode.num ++ beBytes 1 s.role.num ++ beBytes 2 0 ++ result

/-- An operation that completes while its session is open leaves its completion with the session (R92, R93). -/
theorem complete_stores {s : State} {o : AsyncOp} {x : Session} {id : Nat} (ho : s.mbx.async.find? (·.id == id) = some o)
    (hx : s.session o.session = some x) (st : Status) (result : List Byte) :
    ∃ y, (s.complete id st result).session o.session = some y ∧
      (o.tag, o.id, s.completionBody o.code result) ∈ y.done := by
  let u : State := ({ s with mbx := { s.mbx with async := s.mbx.async.filter (·.id != id) } }).countStatus st.code
  have hu : u.session o.session = some x := hx
  unfold State.complete
  rw [ho]
  dsimp only
  rw [show State.session _ o.session = some x from hu]
  dsimp only
  have hdone := modSession_self hu (fun x => { x with done := storeDone x.done (o.tag, o.id, s.completionBody o.code result) })
    (fun _ => rfl)
  split
  · split
    · obtain ⟨y, hy, hd⟩ := notify_done hdone st.code o.tag (s.completionBody o.code result)
      exact ⟨y, hy, hd ▸ mem_storeDone _ _⟩
    · exact ⟨_, hdone, mem_storeDone _ _⟩
  · exact ⟨_, hdone, mem_storeDone _ _⟩

/-! ## LOOP_INJECT (R213) -/

section
variable {op : Option Nat} {b : List Byte} {g : Nat} (hg : beAt b 0 1 = g) (id : U32) (s : State)
include hg

theorem injectRun_starts (h1 : beAt b 1 1 = 1) (hen : bit (s.loopCtl (s.injRec g)) 31 = true)
    (hfree : ∀ k < 4, k ≠ g → (s.injector k).active = true → s.injRec k ≠ s.injRec g) :
    injectRun op b id s = s.modInj g (fun _ => { active := true, op := op }) := by
  subst hg
  have hother : ([0, 1, 2, 3].any fun k => k != beAt b 0 1 && (s.injector k).active && s.injRec k == s.injRec (beAt b 0 1)) = false := by
    refine List.any_eq_false.mpr fun k hk hb => ?_
    simp only [Bool.and_eq_true, bne_iff_ne, beq_iff_eq] at hb
    obtain ⟨⟨hne, hact⟩, hrec⟩ := hb
    have hlt : k < 4 := by
      simp only [List.mem_cons, List.not_mem_nil, or_false] at hk
      omega
    exact hfree k hlt hne hact hrec
  unfold injectRun
  dsimp only
  rw [if_neg (by omega), hen, hother]
  rfl

theorem injectRun_stops (h0 : beAt b 1 1 = 0) : injectRun op b id s = (s.injStop g).completeOpt op .ok := by
  subst hg
  exact if_pos h0

end

/-! ## LOOP_CAPTURE (R214, R216) -/

section
variable {op : Option Nat} {b : List Byte} {c : Nat} (hc : beAt b 0 1 = c) (id : U32) (s : State)
include hc

theorem captureRun_arms (h0 : beAt b 1 1 = 0) : captureRun op b id s = s.modCap c (fun _ => { armed := true, op := op }) := by
  simp only [captureRun, h0, hc]

theorem captureRun_cancels (h1 : beAt b 1 1 = 1) : captureRun op b id s =
    ((s.modCap c (fun k => { k with armed := false, op := none })).completeOpt (s.capture c).op .superseded).completeOpt op .ok := by
  simp only [captureRun, h1, hc]

/-- The samples of a capture as LOOP_CAPTURE answers them: the capture and its flags, and `n` samples from the first asked for. -/
def captureImage (k : Capture) (c n first : Nat) : List Byte :=
  beBytes 1 c ++ beBytes 1 (b2n k.full + 2 * b2n k.armed) ++ beBytes 2 n ++ beBytes 4 first ++
    ((List.range n).map (fun i =>
      leBytes 8 (tget k.samples (first + i) (0, 0)).1 ++ leBytes 8 (tget k.samples (first + i) (0, 0)).2)).flatten

theorem captureRun_reads (h2 : beAt b 1 1 = 2) (hn : beAt b 4 4 + beAt b 2 2 ≤ (s.capture c).count) :
    captureRun op b id s = s.completeOpt op .ok (captureImage (s.capture c) c (beAt b 2 2) (beAt b 4 4)) := by
  unfold captureRun
  rw [h2, hc]
  exact if_neg (Nat.not_lt.mpr hn)

end

/-! ## The rows -/

/-- The Op of a request stands at byte 49 of its datagram. -/
theorem loopOp_of {p : Packet} {code : Nat} {f : Nat → Bool} (h : (reqOf p).code = code) (hf : f (beAt (reqOf p).body 1 1) = true) :
    loopOp code f p.data = true := by
  have hop : beAt (reqOf p).body 1 1 = beAt p.data 49 1 := by
    show beAt (p.data.drop 48) 1 1 = _
    unfold beAt slice
    rw [List.drop_drop]
  unfold loopOp
  rw [codeIs_of h, ← hop, hf]
  rfl

/-- The state in which an accepted command that completes by notification takes effect has its session open still (R81). -/
theorem mail_runAsync_session {c : Cmd} {mine : List Byte → Bool} {dt : Nat} {p : Packet} {s : State} {x : Session}
    {apply : Option Nat → List Byte → U32 → State → State} (h : Accepted c (s.elapse dt) p x) (hm : mine p.data = true)
    (hr : c.run (reqOf p) (runsIn (s.elapse dt) p x) = runAsync apply (reqOf p) (runsIn (s.elapse dt) p x)) :
    ∃ v, execMail c mine dt p s = .next (apply (some s.mbx.nextOp) (reqOf p).body x.id v) ∧ v.body = (s.elapse dt).body ∧
      v.mbx.async = s.mbx.async ++ [⟨s.mbx.nextOp, x.id, (reqOf p).tag, (reqOf p).code, (reqOf p).counter⟩] ∧
      v.session x.id = some { x with counter := some (reqOf p).counter, lastTick := (s.elapse dt).tick } ∧
      Answers v p x s.mode s.role .accepted 0 [] := by
  have hc : ((runsIn (s.elapse dt) p x).startOp (reqOf p)).2.mbx.restarting = none :=
    (heard_runs h.toHeard : (s.elapse dt).mbx.restarting = none)
  let u := ((runsIn (s.elapse dt) p x).startOp (reqOf p)).2
  rw [mail_ok h hm hr (.inr rfl) rfl, ← inSession_id h.toInSession]
  refine ⟨_, rfl, ?_, ?_, ?_, ?_⟩
  · exact respond_body u h.here hc _ _ _ _ _
  · exact congrArg (fun t => t.mbx.async) (respond_eq u h.here hc _ _ _ _ _)
  · rw [inSession_id h.toInSession]
    exact (respond_session u h.here hc _ _ _ _ _ _).trans (noted_session h.toInSession)
  · unfold Answers
    rw [← inSession_id h.toInSession]
    exact respond_out u h.here hc _ _ _ _ _

theorem Answers.responds {t u : State} {p : Packet} {x : Session} {m : Mode} {ro : Role} {st : Status} {arg : Nat} {body : List Byte}
    (h : Answers t p x m ro st arg body) (ho : t.out <+: u.out) : Responds u p x m ro st arg body :=
  ho.subset (h ▸ List.mem_singleton_self _)

section
variable {dt : Nat} {p : Packet} {x : Session} {s e : State} (he : s.elapse dt = e)
include he

section
variable {g : Nat} (h : Accepted loopInjectCmd e p x) (hg : beAt (reqOf p).body 0 1 = g)
include h hg

theorem loopInject_starts (h1 : beAt (reqOf p).body 1 1 = 1) (hen : bit (e.loopCtl (e.injRec g)) 31 = true)
    (hfree : ∀ k < 4, k ≠ g → (e.injector k).active = true → e.injRec k ≠ e.injRec g) :
    ∃ t, exec (.loopInjectStart dt p) s = .next t ∧ t.injector g = { active := true, op := some e.mbx.nextOp } ∧
      (∀ k, k ≠ g → t.injector k = e.injector k) ∧ Answers t p x e.mode e.role .accepted 0 [] := by
  subst he
  have hmine : loopOp 0x0073 (· != 0) p.data = true := loopOp_of h.code (by rw [h1]; rfl)
  obtain ⟨v, ht, hbody, -, hans⟩ := mail_runAsync (apply := injectRun) h hmine rfl
  have hrec : ∀ k, v.injRec k = (s.elapse dt).injRec k := fun k => (congrArg (fun t => State.injRec t k) hbody :)
  have hinj : ∀ k, v.injector k = (s.elapse dt).injector k := fun k => (congrArg (fun t => State.injector t k) hbody :)
  have hctl : ∀ k, v.loopCtl k = (s.elapse dt).loopCtl k := fun k => (congrArg (fun t => State.loopCtl t k) hbody :)
  rw [injectRun_starts hg x.id v h1 (by rw [hctl, hrec]; exact hen)
    (fun k hk hne ha => by rw [hrec, hrec]; exact hfree k hk hne (hinj k ▸ ha))] at ht
  exact ⟨_, ht, modInj_injector_self v g _, fun k hk => (modInj_injector_ne v g _ hk).trans (hinj k), hans⟩

theorem loopInject_stops (h0 : beAt (reqOf p).body 1 1 = 0) :
    ∃ t, exec (.loopInjectStop dt p) s = .next t ∧ (t.injector g).active = false ∧
      (∀ k, k ≠ g → t.injector k = e.injector k) ∧ Responds t p x e.mode e.role .accepted 0 [] := by
  subst he
  have hmine : loopOp 0x0073 (· == 0) p.data = true := loopOp_of h.code (by rw [h0]; rfl)
  obtain ⟨v, ht, hbody, -, hans⟩ := mail_runAsync (apply := injectRun) h hmine rfl
  rw [injectRun_stops hg x.id v h0] at ht
  refine ⟨_, ht, ?_, fun k hk => ?_, hans.responds ((injStop_out v g).trans (completeOpt_out _ _ _ _))⟩
  · rw [completeOpt_injector]
    exact injStop_ends v g
  · rw [completeOpt_injector, injStop_injector_ne v hk]
    exact (congrArg (fun t => State.injector t k) hbody :)

end

section
variable {c : Nat} (h : Accepted loopCaptureCmd e p x) (hc : beAt (reqOf p).body 0 1 = c)
include h hc

theorem loopCapture_arms (h0 : beAt (reqOf p).body 1 1 = 0) :
    ∃ t, exec (.loopCaptureArm dt p) s = .next t ∧ t.capture c = { armed := true, op := some e.mbx.nextOp } ∧
      (∀ k, k ≠ c → t.capture k = e.capture k) ∧ Answers t p x e.mode e.role .accepted 0 [] := by
  subst he
  have hmine : loopOp 0x0074 (· == 0) p.data = true := loopOp_of h.code (by rw [h0]; rfl)
  obtain ⟨v, ht, hbody, -, hans⟩ := mail_runAsync (apply := captureRun) h hmine rfl
  rw [captureRun_arms hc x.id v h0] at ht
  exact ⟨_, ht, modCap_capture_self v c _,
    fun k hk => (modCap_capture_ne v c _ hk).trans (congrArg (fun t => State.capture t k) hbody :), hans⟩

theorem loopCapture_cancels (h1 : beAt (reqOf p).body 1 1 = 1) :
    ∃ t, exec (.loopCaptureCancel dt p) s = .next t ∧ t.capture c = { e.capture c with armed := false, op := none } ∧
      (∀ k, k ≠ c → t.capture k = e.capture k) ∧ Responds t p x e.mode e.role .accepted 0 [] := by
  subst he
  have hmine : loopOp 0x0074 (· == 1) p.data = true := loopOp_of h.code (by rw [h1]; rfl)
  obtain ⟨v, ht, hbody, -, hans⟩ := mail_runAsync (apply := captureRun) h hmine rfl
  have hcap : ∀ k, v.capture k = (s.elapse dt).capture k := fun k => (congrArg (fun t => State.capture t k) hbody :)
  rw [captureRun_cancels hc x.id v h1] at ht
  refine ⟨_, ht, ?_, fun k hk => ?_, ?_⟩
  · rw [completeOpt_capture, completeOpt_capture, modCap_capture_self, hcap]
  · rw [completeOpt_capture, completeOpt_capture, modCap_capture_ne v c _ hk, hcap]
  · exact hans.responds ((completeOpt_out (v.modCap c _) _ _ _).trans (completeOpt_out _ _ _ _))

/-- The samples read are the command's own completion, and no capture changes (R216). -/
theorem loopCapture_reads (h2 : beAt (reqOf p).body 1 1 = 2)
    (hn : beAt (reqOf p).body 4 4 + beAt (reqOf p).body 2 2 ≤ (e.capture c).count)
    (hop : (e.mbx.async.find? (·.id == e.mbx.nextOp)) = none) :
    ∃ t y, exec (.loopCaptureRead dt p) s = .next t ∧ (∀ k, t.capture k = e.capture k) ∧
      Responds t p x e.mode e.role .accepted 0 [] ∧ t.session x.id = some y ∧
      ((reqOf p).tag, e.mbx.nextOp, e.completionBody 0x0074
        (captureImage (e.capture c) c (beAt (reqOf p).body 2 2) (beAt (reqOf p).body 4 4))) ∈ y.done := by
  subst he
  have hmine : loopOp 0x0074 (fun o => decide (2 ≤ o)) p.data = true := loopOp_of h.code (by rw [h2]; rfl)
  obtain ⟨v, ht, hbody, hasync, hz, hans⟩ := mail_runAsync_session (apply := captureRun) h hmine rfl
  have hcap : ∀ k, v.capture k = (s.elapse dt).capture k := fun k => (congrArg (fun t => State.capture t k) hbody :)
  have hmu : v.mu = s.mu := (congrArg State.mu hbody :)
  rw [captureRun_reads hc x.id v h2 (by rw [hcap]; exact hn), hcap] at ht
  have hfind : v.mbx.async.find? (·.id == s.mbx.nextOp) =
      some ⟨s.mbx.nextOp, x.id, (reqOf p).tag, (reqOf p).code, (reqOf p).counter⟩ := by
    have hold : s.mbx.async.find? (·.id == s.mbx.nextOp) = none := hop
    rw [hasync, List.find?_append, hold]
    simp
  obtain ⟨y, hy, hdone⟩ := complete_stores hfind hz .ok
    (captureImage ((s.elapse dt).capture c) c (beAt (reqOf p).body 2 2) (beAt (reqOf p).body 4 4))
  refine ⟨_, y, ht, fun k => (completeOpt_capture v _ _ _ k).trans (hcap k), hans.responds (completeOpt_out v _ _ _), hy, ?_⟩
  have hcode : (reqOf p).code = 0x0074 := h.code
  unfold State.completionBody State.mode State.role at hdone
  rw [hmu, hcode] at hdone
  exact hdone

end

end

end Sys2Proof.Machine
end

section
open Sys2Proof Sys2Proof.Machine

/-- Settles O25: each row answers ACCEPTED, and its effect on generator, capture or session is that of its Op. -/
theorem loopCommandRowsComplete : Obligations.LoopCommandRowsComplete :=
  ⟨fun _ _ _ _ _ _ he h hg h1 hen hfree => loopInject_starts he h hg h1 hen hfree,
    fun _ _ _ _ _ _ he h hg h0 => loopInject_stops he h hg h0,
    fun _ _ _ _ _ _ he h hc h0 => loopCapture_arms he h hc h0,
    fun _ _ _ _ _ _ he h hc h1 => loopCapture_cancels he h hc h1,
    fun _ _ _ _ _ _ he h hc h2 hn hop => loopCapture_reads he h hc h2 hn hop⟩

end

section
/-!
PROOFS. The loop engine's queue, frames, signature and generators (R202, R203, R209, R212, R270, R272): what the rows leave that
evaluate nothing.
-/
namespace Sys2Proof.Machine

/-! ## Lane frames that are taken (R29, R258, R259) -/

/-- The frame has been counted on its lane, and its SyncSeq is the last taken. -/
def State.takesFrame (e : State) (h : LaneHdr) : State :=
  (e.modLane h.lane (fun l => { l with good := l.good + 1, lastGood := e.tick })).modPair
    (fun p => { p with seqIn := some (BitVec.ofNat 32 h.seq) })

theorem laneIn_of_taken {e : State} {h : LaneHdr} (ht : Taken e h) : e.laneIn h = (true, e.takesFrame h) := by
  have hnew : (match (e.modLane h.lane (fun l => { l with good := l.good + 1, lastGood := e.tick })).pair.seqIn with
      | none => true
      | some q => (BitVec.ofNat 32 h.seq : U32) ≠ q && decide (((BitVec.ofNat 32 h.seq : U32) - q).toNat < 2 ^ 31)) = true := by
    rw [modLane_seqIn]
    cases hq : e.pair.seqIn with
    | none => rfl
    | some q =>
      obtain ⟨hne, hlt⟩ := ht.new q hq
      simp only [hne, hlt, ne_eq, not_false_eq_true, decide_true, Bool.and_self]
  unfold State.laneIn
  rw [if_neg ht.awake, ht.good]
  exact if_pos hnew

theorem execLane_of_taken {dt : Nat} {h : LaneHdr} {s : State} (f : State → State) (ht : Taken (s.elapse dt) h) :
    execLane dt h f s = .next (f ((s.elapse dt).takesFrame h)) := by
  unfold execLane
  dsimp only
  rw [if_neg (Nat.not_le.mpr ht.lane), laneIn_of_taken ht]
  rfl

theorem takesFrame_frameOf (e : State) (h : LaneHdr) (k : Nat) (l : List Nat) (b : List Byte) :
    (e.takesFrame h).frameOf k l b = e.frameOf k l b := by
  have hpair : ∃ a c q, (e.takesFrame h).pair = { e.pair with sl0 := a, sl1 := c, seqIn := q } := by
    by_cases hl : h.lane = 0
    · exact ⟨_, e.pair.sl1, _, congrArg (fun p : Pair => { p with seqIn := some (BitVec.ofNat 32 h.seq) }) (if_pos hl)⟩
    · exact ⟨e.pair.sl0, _, _, congrArg (fun p : Pair => { p with seqIn := some (BitVec.ofNat 32 h.seq) }) (if_neg hl)⟩
  obtain ⟨a, c, q, hp⟩ := hpair
  unfold State.frameOf
  rw [hp]
  rfl

/-- The state with another number for its next frame, and with other emissions. -/
def State.afterFrame (s : State) (n : U32) (o : List Emission) : State := { s with pair := { s.pair with seqOut := n }, out := o }

/-- A frame on the lanes changes what is sent and its own number, and nothing else (R29, R259). -/
theorem lane_eq (s : State) (k : Nat) (l : List Nat) (b : List Byte) : ∃ n o, s.lane k l b = s.afterFrame n o := by
  unfold State.lane
  split
  · exact ⟨s.pair.seqOut, s.out, rfl⟩
  · exact ⟨_, _, rfl⟩

@[simp] theorem lane_loop (s : State) (k : Nat) (l : List Nat) (b : List Byte) : (s.lane k l b).loop = s.loop := by
  obtain ⟨n, o, h⟩ := lane_eq s k l b
  rw [h]
  rfl

@[simp] theorem lane_divergences (s : State) (k : Nat) (l : List Nat) (b : List Byte) :
    (s.lane k l b).pair.divergences = s.pair.divergences := by
  obtain ⟨n, o, h⟩ := lane_eq s k l b
  rw [h]
  rfl

/-! ## Triggers (R202, R203) -/

section
variable {s : State} {r path : Nat} (t : Nat) (hrun : s.loopsRun = true) (hen : bit (s.loopCtl r) 31 = true)
include hrun hen

theorem loopTrigger_strays (hp : bits (s.loopCtl r) 28 2 ≠ path) :
    s.loopTrigger r path t = { s with loop := { s.loop with strays := s.loop.strays + 1 } } := by
  unfold State.loopTrigger
  rw [hrun, hen]
  exact if_pos hp

section
variable (hp : bits (s.loopCtl r) 28 2 = path) (hrole : s.role ≠ .standby)
include hp hrole

theorem loopTrigger_queues (hq : s.loop.queue.any (·.record == s.itemOf r) = false) :
    (s.loopTrigger r path t).loop.queue = queueInsert ⟨s.itemOf r, s.tick, t, []⟩ s.loop.queue := by
  have hr : (s.role == .standby) = false := beq_false_of_ne hrole
  unfold State.loopTrigger
  simp only [hrun, hen, hp, hr, hq, Bool.not_true, Bool.or_self, Bool.false_eq_true, ne_eq, not_true_eq_false, if_false,
    Bool.false_and]

theorem loopTrigger_merges (hq : s.loop.queue.any (·.record == s.itemOf r) = true) :
    s.loopTrigger r path t = { s with loop := { s.loop with merged := s.loop.merged + 1 } } := by
  have hr : (s.role == .standby) = false := beq_false_of_ne hrole
  unfold State.loopTrigger
  simp only [hrun, hen, hp, hr, hq, Bool.not_true, Bool.or_self, Bool.false_eq_true, ne_eq, not_true_eq_false, if_false, if_true,
    Bool.false_and]

end

end

theorem exec_loopTrigger {dt r : Nat} {s : State} (hr : r < 2048) :
    exec (.loopTrigger dt r) s = .next ((s.elapse dt).loopTrigger r 1 (s.elapse dt).now) :=
  congrArg Host.Outcome.next (if_pos hr)

/-! ## Answers (R272) -/

@[simp] theorem loopWrite_loop (s : State) (en v : Nat) : (s.loopWrite en v).loop = s.loop :=
  kept (fun _ hm => loopWrite_view s en v hm) .loop (by decide)

/-- The state without the borrow requests for record `r` under an LSN. -/
def State.borrowed (s : State) (lsn r : Nat) : State :=
  { s with loop := { s.loop with borrow := s.loop.borrow.filter (fun y => !(y.1 == lsn && y.2.1 == r)) } }

/-- The answer to a borrow request that is awaited replaces the record's states and output (R272). -/
theorem loopAnswer_installs {s : State} {lsn r k : Nat} (v a b c d f g : Nat) (hp : s.role = .primary)
    (hk : (lsn, r, k) ∈ s.loop.borrow) :
    (s.loopAnswer lsn r v [a, b, c, d, f, g]).loop.borrow = s.loop.borrow.filter (fun y => !(y.1 == lsn && y.2.1 == r)) ∧
      (s.loopAnswer lsn r v [a, b, c, d, f, g]).lrec r = { s.lrec r with
        e1 := a, e2 := b, e3 := c, u1 := d, u2 := f, u3 := g, out := v, outTime := s.now } := by
  have hany : s.loop.borrow.any (fun y => y.1 == lsn && y.2.1 == r) = true :=
    List.any_eq_true.mpr ⟨_, hk, by simp⟩
  have hloop : (s.loopAnswer lsn r v [a, b, c, d, f, g]).loop = ((s.borrowed lsn r).modRec r
      (fun x => { x with e1 := a, e2 := b, e3 := c, u1 := d, u2 := f, u3 := g, out := v, outTime := s.now })).loop := by
    unfold State.loopAnswer
    dsimp only
    rw [if_pos hp, if_neg (by rw [Bool.not_eq_true', hany]; exact Bool.noConfusion)]
    exact loopWrite_loop _ _ _
  exact ⟨congrArg Loop.borrow hloop, (congrArg (fun z : Loop => tget z.rec_ r {}) hloop).trans
    (modRec_lrec_self (s.borrowed lsn r) r
      (fun x => { x with e1 := a, e2 := b, e3 := c, u1 := d, u2 := f, u3 := g, out := v, outTime := s.now }))⟩

/-! ## Signatures (R209, R270) -/

theorem withdraw_divergences (s : State) (m : Mode) (f : Nat) : (s.withdraw m f).pair.divergences = s.pair.divergences := by
  unfold State.withdraw State.announce
  rw [completeOpt_pair, lane_divergences]

theorem withdraw_src (s : State) (m : Mode) (f : Nat) : (s.withdraw m f).ev.src = s.ev.src := by
  unfold State.withdraw State.announce
  rw [completeOpt_ev, lane_ev]

/-- A divergence of the loop or the alarm states is counted and is an occurrence of EV040 (R209, R249, R270). -/
theorem diverge_occurs {s : State} {cause : Nat} (hs : s.role = .standby) (hc : ¬cause ≤ 4) (task osn : Nat) : ∃ last,
    (s.diverge cause task osn).pair.divergences = s.pair.divergences + 1 ∧
      Occurs s (s.diverge cause task osn) 40 [(1, cause), (1, task), (4, osn), (1, last)] := by
  unfold State.diverge
  rw [if_neg (not_not_intro hs)]
  extract_lets w recent lim t u v
  refine ⟨b2n lim, ?_⟩
  have hcount : v.pair.divergences = s.pair.divergences + 1 := congrArg Pair.divergences (raise_pair t 40 _)
  have hoccurs : ∀ z : State, z.ev.src = v.ev.src → Occurs s z 40 [(1, cause), (1, task), (4, osn), (1, b2n lim)] :=
    fun z hz => occurs_raise (u := t) hz rfl rfl rfl
  clear_value v
  generalize b2n lim = last at hoccurs ⊢
  rw [if_neg hc]
  split
  · exact ⟨(withdraw_divergences v _ _).trans hcount, hoccurs _ (withdraw_src v _ _)⟩
  · exact ⟨hcount, hoccurs _ rfl⟩

theorem loopSignatureExchange_diverges {dt : Nat} {sig : U64} {s e : State} (he : s.elapse dt = e) :
    ∃ t, exec (.loopSignatureExchange dt sig) s = .next t ∧ (sig = e.loop.signature → t = e) ∧
      (e.role = .standby → sig ≠ e.loop.signature → e.pair.sync = true → e.pair.resync = false →
        t.pair.divergences = e.pair.divergences + 1 ∧
        ∃ last, Occurs e t 40 [(1, 5), (1, 0xFF), (4, e.loop.exchanged.toNat), (1, last)]) := by
  subst he
  by_cases h : (s.elapse dt).role = .standby ∧ sig ≠ (s.elapse dt).loop.signature ∧ (s.elapse dt).pair.sync = true ∧
      (!(s.elapse dt).pair.resync) = true
  · refine ⟨_, if_pos h, fun hsame => absurd hsame h.2.1, fun hs _ _ _ => ?_⟩
    obtain ⟨last, hcount, hev⟩ := diverge_occurs (cause := 5) hs (by decide) 0xFF (s.elapse dt).loop.exchanged.toNat
    refine ⟨(lane_divergences _ _ _ _).trans hcount, last, fun hp => ?_⟩
    unfold State.loopsBehind
    rw [lane_ev]
    exact hev hp
  · exact ⟨_, if_neg h, fun _ => rfl, fun hs hsig hsync hre => absurd ⟨hs, hsig, hsync, by rw [hre]; rfl⟩ h⟩

/-! ## The end of an injection (R212) -/

theorem injectionEnd_ends {dt g : Nat} {s e : State} (he : s.elapse dt = e) (hg : g < 4) (ha : (e.injector g).active = true)
    (hb : (e.injector g).begun = true) (hend : (e.injector g).start + e.injPar g 4 * 1000000 ≤ e.now) :
    ∃ t, exec (.injectionEnd dt g) s = .next t ∧ (t.injector g).active = false ∧
      (t.lrec (e.injRec g)).injecting = false ∧ ∀ k, k ≠ g → t.injector k = e.injector k := by
  subst he
  have hdue : (((s.elapse dt).injector g).active && ((s.elapse dt).injector g).begun &&
      decide (((s.elapse dt).injector g).start + (s.elapse dt).injPar g 4 * 1000000 ≤ (s.elapse dt).now)) = true := by
    rw [ha, hb, decide_eq_true hend]
    rfl
  have hexec : exec (.injectionEnd dt g) s = .next ((s.elapse dt).injStop g) :=
    congrArg Host.Outcome.next ((if_pos hg).trans (if_pos hdue))
  exact ⟨_, hexec, injStop_ends _ g, injStop_record ha, fun _ hk => injStop_injector_ne _ hk⟩

end Sys2Proof.Machine
end

section
/-!
PROOFS. Evaluation of loop items (R198–R210): what gathering, evaluation and release leave of the queue, the LSN and the records.
-/
namespace Sys2Proof.Machine

/-! ## The queue and the LSN (R203, R208) -/

/-- The queue of items, and the LSN of the last item numbered. -/
def State.numbered (s : State) : List LoopItem × U32 := (s.loop.queue, s.loop.lsn)

theorem numbered_of_loop {s t : State} (h : t.loop = s.loop) : t.numbered = s.numbered :=
  congrArg (fun l : Loop => (l.queue, l.lsn)) h

theorem injStop_numbered (s : State) (g : Nat) : (s.injStop g).numbered = s.numbered := by
  cases h : (s.injector g).active with
  | false => rw [injStop_of_idle h]
  | true =>
    rw [injStop_of_active h]
    exact (numbered_of_loop (completeOpt_loop (s.injEnded g) _ _ _)).trans rfl

theorem inject_numbered (s : State) (r t : Nat) : (s.inject r t).2.numbered = s.numbered := by
  unfold State.inject
  split
  · rfl
  · extract_lets x start tau a kind reg d hold adv u v
    have hv : v.numbered = s.numbered := rfl
    clear_value v
    split
    · exact injStop_numbered s _
    · dsimp only
      split
      · exact hv
      · exact (numbered_of_loop (completeOpt_loop v _ _ _)).trans hv

theorem gather_numbered (s : State) (it : LoopItem) (r : Nat) : (State.gather s it r).2.numbered = s.numbered := by
  unfold State.gather
  extract_lets e
  split
  next m mok old u hread =>
  have hu : u.numbered = s.numbered := by
    refine (congrArg (fun z => z.2.2.2.numbered) hread).symm.trans ?_
    split <;> rfl
  split
  next sp sok _ =>
  split
  next inj v hinj =>
  refine Eq.trans ?_ hu
  refine (congrArg (fun z => z.2.numbered) hinj).symm.trans ?_
  split
  · exact inject_numbered u r it.time
  · split <;> rfl

/-! ## Members (R198, R200) -/

/-- A member whose inputs are not good shows it, and is counted (R200). -/
def State.invalidates (s : State) (r : Nat) : State :=
  let s := s.modRec r (fun x => { x with invalid := true })
  { s with loop := { s.loop with invalids := s.loop.invalids + 1 } }

theorem evalMember_invalid {s : State} {x : LoopIn} (h : inputsOk x = false) (it : LoopItem) (tries : Nat) :
    State.evalMember s it x tries = (none, s.invalidates x.record) := by
  unfold State.evalMember
  rw [h]
  rfl

/-- A member with good inputs and no failing release check is evaluated by the compensator (R198). -/
theorem evalMember_evaluates {s : State} {x : LoopIn} {it : LoopItem} {v : LoopEval} (h : inputsOk x = true)
    (hv : evalRec (s.entryFor it x.record) (s.present (s.entryFor it x.record)) (s.lrec x.record) x (s.injOut x) = some v) :
    State.evalMember s it x 0 = (some v, s) := by
  have h1 : ¬1 ≤ 0 := by decide
  have h2 : ¬2 ≤ 0 := by decide
  simp only [State.evalMember, h, h1, h2, hv, Bool.not_true, Bool.false_eq_true, if_false]

theorem evalMember_numbered (s : State) (it : LoopItem) (x : LoopIn) :
    (State.evalMember s it x 0).2.numbered = s.numbered := by
  unfold State.evalMember
  split
  · rfl
  · rw [if_neg (by decide)]
    dsimp only
    rw [if_neg (by decide)]
    split <;> rfl

/-- An evaluation carries the number of its member's record. -/
theorem evalRec_record {en present : Nat} {r : LoopRec} {x : LoopIn} {atOut : Bool} {v : LoopEval}
    (h : evalRec en present r x atOut = some v) : v.record = x.record := by
  unfold evalRec at h
  extract_lets at h
  split at h
  · cases h
  · cases h
    rfl

/-! ## Release (R198, R204, R206, R207) -/

/-- The queue, the LSN and the records: what the accounts of a release (signature, counters, captures, frames) leave alone. -/
def State.settled (s : State) : List LoopItem × U32 × Tab LoopRec := (s.loop.queue, s.loop.lsn, s.loop.rec_)

theorem settled_of_loop {s t : State} (h : t.loop = s.loop) : t.settled = s.settled :=
  congrArg (fun l : Loop => (l.queue, l.lsn, l.rec_)) h

theorem numbered_of_settled {s t : State} (h : t.settled = s.settled) : t.numbered = s.numbered :=
  congrArg (fun z : List LoopItem × U32 × Tab LoopRec => (z.1, z.2.1)) h

theorem lrec_of_settled {s t : State} (h : t.settled = s.settled) (k : Nat) : t.lrec k = s.lrec k :=
  congrArg (fun z : List LoopItem × U32 × Tab LoopRec => tget z.2.2 k {}) h

theorem capStore_settled (s : State) (c : Nat) (v : LoopEval) (v32 t : Nat) : (s.capStore c v v32 t).settled = s.settled := by
  unfold State.capStore
  extract_lets k ctl begun start out pair len done u
  have hu : u.settled = s.settled := rfl
  clear_value u
  split
  · rfl
  · split
    · rfl
    · split
      · rfl
      · split
        · exact (settled_of_loop (completeOpt_loop u _ _ _)).trans hu
        · exact hu

/-- The outputs and records of a release: `w`, of the evaluated members `vs`, has the lowest output, which is written but by a
STANDBY that resynchronises, and each member holds its states; in a group, SELECTED is `w`'s alone, and members that are held take the
delivered output. -/
def State.writesRecords (s : State) (it : LoopItem) (xs : List LoopIn) (vs : List LoopEval) (w : LoopEval) : State :=
  let en := s.entryFor it w.record
  let group := bit en 19
  let v32 := f64to32 w.out
  let s := if s.role == .standby && s.pair.resync then s else s.loopWrite en v32
  let base := w.track.getD w.out
  let mates := (s.entries 0x0003).filterMap (fun (r, _) =>
    let e := s.entryFor it r
    if bit e 19 && fld e 0x0A 0 8 == fld en 0x0A 0 8 then some r else none)
  let s := if !group then s else mates.foldl (fun s r => s.modRec r (fun x => { x with selected := false })) s
  let s := if !group then s else xs.foldl (fun s x =>
    if inputsOk x then s
    else s.modRec x.record (fun r => { r with u1 := fsub fmt64 base (if s.injOut x then (injD x) else 0) })) s
  vs.foldl (fun s v =>
    let win := v.record == w.record
    s.modRec v.record (fun r =>
      { v.st with
        u1 := if group || v.track.isSome then fsub fmt64 (if group then base else v.track.getD v.out) v.dOut else v.st.u1
        out := if win then v32 else r.out, outTime := if win then s.now else r.outTime
        count := satInc 32 r.count, selected := group && win })) s

theorem releaseItem_settled {vs : List LoopEval} {w : LoopEval} (hw : lowest vs = some w) (s : State) (it : LoopItem)
    (xs : List LoopIn) : (s.releaseItem it xs vs).settled = (s.writesRecords it xs vs w).settled := by
  unfold State.releaseItem
  split
  next hn => cases hw.symm.trans hn
  next z hz =>
  cases hw.symm.trans hz
  extract_lets en group v32 echo s1 base mates s2 s3 s4 s5 src s6 s7 s8
  have h4 : s4 = s.writesRecords it xs vs w := rfl
  have h5 : s5.settled = s4.settled := foldl_reading State.settled (fun _ _ => by rfl) s4
  have h7 : s7.settled = s6.settled :=
    foldl_reading State.settled (fun t v => foldl_reading State.settled (fun u c => capStore_settled u c v v32 it.time) t) s6
  have h8 : s8.settled = s7.settled := by
    simp only [s8]
    split
    · split
      · rfl
      · exact foldl_reading State.settled (fun t v => settled_of_loop (lane_loop t _ _ _)) s7
    · rfl
  rw [← h4]
  refine Eq.trans ?_ (h8.trans (h7.trans h5))
  split
  · exact foldl_reading State.settled (fun t v => settled_of_loop (lane_loop t _ _ _)) s8
  · rfl

theorem writesRecords_numbered (s : State) (it : LoopItem) (xs : List LoopIn) (vs : List LoopEval) (w : LoopEval) :
    (s.writesRecords it xs vs w).numbered = s.numbered := by
  unfold State.writesRecords
  extract_lets en group v32 s1 base mates s2 s3
  have h1 : s1.numbered = s.numbered := by
    simp only [s1]
    split
    · rfl
    · exact numbered_of_loop (loopWrite_loop s en v32)
  have h2 : s2.numbered = s1.numbered := by
    simp only [s2]
    split
    · rfl
    · exact foldl_reading State.numbered (fun _ _ => by rfl) s1
  have h3 : s3.numbered = s2.numbered := by
    simp only [s3]
    split
    · rfl
    · exact foldl_reading State.numbered (fun t x => by split <;> rfl) s2
  exact (foldl_reading State.numbered (fun _ _ => by rfl) s3).trans (h3.trans (h2.trans h1))

theorem releaseItem_numbered (s : State) (it : LoopItem) (xs : List LoopIn) (vs : List LoopEval) :
    (s.releaseItem it xs vs).numbered = s.numbered := by
  cases hw : lowest vs with
  | none =>
    unfold State.releaseItem
    rw [hw]
  | some w => exact (numbered_of_settled (releaseItem_settled hw s it xs)).trans (writesRecords_numbered s it xs vs w)

/-- The record of a member that is evaluated alone, once its output is written (R198). -/
def LoopEval.delivered (v : LoopEval) (r : LoopRec) (now : Nat) : LoopRec :=
  { v.st with
    u1 := if v.track.isSome then fsub fmt64 (v.track.getD v.out) v.dOut else v.st.u1
    out := f64to32 v.out, outTime := now, count := satInc 32 r.count, selected := false }

theorem loopWrite_now (s : State) (en v : Nat) : (s.loopWrite en v).now = s.now :=
  congrArg Clk.tb (kept (fun _ hm => loopWrite_view s en v hm) .clk (by decide) : Part.same s _ .clk)

/-- Outside a group a release writes the output and changes the record of its member alone. -/
theorem writesRecords_alone {s : State} {it : LoopItem} {v : LoopEval} (hg : bit (s.entryFor it v.record) 19 = false)
    (hrole : s.role ≠ .standby) (xs : List LoopIn) : s.writesRecords it xs [v] v =
      (s.loopWrite (s.entryFor it v.record) (f64to32 v.out)).modRec v.record (fun r => v.delivered r s.now) := by
  have hecho : (s.role == .standby && s.pair.resync) = false := by rw [beq_false_of_ne hrole, Bool.false_and]
  unfold State.writesRecords LoopEval.delivered
  simp only [hg, hecho, List.foldl_cons, List.foldl_nil, Bool.not_false, if_true, beq_self_eq_true, Bool.false_or, Bool.false_and,
    Bool.false_eq_true, if_false, loopWrite_now]

/-! ## Items (R203, R208, R209) -/

/-- After every 4,096 items the signature is new, and nothing else of the engine (R209). -/
theorem exchangeLoop_loop (s : State) : ∃ sig fold last,
    s.exchangeLoop.loop = { s.loop with signature := sig, fold := fold, exchanged := last } := by
  unfold State.exchangeLoop
  split
  · dsimp only
    split
    · exact ⟨_, _, _, lane_loop _ _ _ _⟩
    · exact ⟨_, _, _, rfl⟩
  · exact ⟨_, _, _, rfl⟩

theorem exchangeLoop_settled (s : State) : s.exchangeLoop.settled = s.settled := by
  obtain ⟨sig, fold, last, h⟩ := exchangeLoop_loop s
  unfold State.settled
  rw [h]

theorem foldl_snd_reading {α β γ : Type} (g : State → γ) {f : β × State → α → β × State} (hf : ∀ z a, g (f z a).2 = g z.2)
    (l : List α) (z : β × State) : g (l.foldl f z).2 = g z.2 := by
  induction l generalizing z with
  | nil => rfl
  | cons a l ih => exact (ih (f z a)).trans (hf z a)

theorem evalItem_numbered (s : State) (it : LoopItem) (xs : List LoopIn) : (s.evalItem it xs []).numbered = s.numbered := by
  unfold State.evalItem
  split
  next vs u hfold =>
  have hu : u.numbered = s.numbered := by
    refine (congrArg (fun z => z.2.numbered) hfold).symm.trans (foldl_snd_reading State.numbered (fun z x => ?_) xs _)
    obtain ⟨vs, t⟩ := z
    have ht := evalMember_numbered t it x
    dsimp only
    split
    next hm => exact (congrArg (fun z => z.2.numbered) hm).symm.trans ht
    next hm => exact (congrArg (fun z => z.2.numbered) hm).symm.trans ht
  exact (numbered_of_settled (exchangeLoop_settled _)).trans ((releaseItem_numbered u it xs vs).trans hu)

/-- A member alone whose inputs are not good: its record shows it, and it is counted (R200). -/
theorem evalItem_invalid {s : State} {x : LoopIn} (h : inputsOk x = false) (it : LoopItem) :
    (s.evalItem it [x] []).lrec x.record = { s.lrec x.record with invalid := true } ∧
      (s.evalItem it [x] []).loop.invalids = s.loop.invalids + 1 := by
  have hitem : s.evalItem it [x] [] = (s.invalidates x.record).exchangeLoop := by
    unfold State.evalItem
    rw [List.foldl_cons, List.foldl_nil]
    dsimp only
    rw [evalMember_invalid h]
    rfl
  obtain ⟨sig, fold, last, hloop⟩ := exchangeLoop_loop (s.invalidates x.record)
  rw [hitem]
  exact ⟨(lrec_of_settled (exchangeLoop_settled _) x.record).trans (modRec_lrec_self s x.record (fun r => { r with invalid := true })),
    congrArg Loop.invalids hloop⟩

section
variable {s : State} {it : LoopItem} {x : LoopIn} {v : LoopEval} (hin : inputsOk x = true)
  (hv : evalRec (s.entryFor it x.record) (s.present (s.entryFor it x.record)) (s.lrec x.record) x (s.injOut x) = some v)
include hin hv

theorem evalItem_releases : s.evalItem it [x] [] = (s.releaseItem it [x] [v]).exchangeLoop := by
  unfold State.evalItem
  rw [List.foldl_cons, List.foldl_nil]
  dsimp only
  rw [show loopTries [] x.record = 0 from rfl, evalMember_evaluates hin hv]
  rfl

/-- A member evaluated alone: its record is delivered, and no other record changes (R198, R206). -/
theorem evalItem_delivers (hg : bit (s.entryFor it x.record) 19 = false) (hrole : s.role ≠ .standby) :
    (s.evalItem it [x] []).lrec x.record = v.delivered (s.lrec x.record) s.now ∧
      ∀ k, k ≠ x.record → (s.evalItem it [x] []).lrec k = s.lrec k := by
  have hr : v.record = x.record := evalRec_record hv
  have hrec : ∀ k, (s.evalItem it [x] []).lrec k =
      ((s.loopWrite (s.entryFor it v.record) (f64to32 v.out)).modRec v.record (fun r => v.delivered r s.now)).lrec k := fun k => by
    rw [evalItem_releases hin hv, lrec_of_settled (exchangeLoop_settled _), lrec_of_settled (releaseItem_settled rfl s it [x]),
      writesRecords_alone (hr ▸ hg) hrole]
  have hwrite : ∀ k, (s.loopWrite (s.entryFor it v.record) (f64to32 v.out)).lrec k = s.lrec k :=
    fun k => congrArg (fun l : Loop => tget l.rec_ k {}) (loopWrite_loop s _ _)
  refine ⟨?_, fun k hk => ?_⟩
  · rw [hrec, hr, modRec_lrec_self, ← hr, hwrite]
  · rw [hrec, modRec_lrec_ne _ _ _ (hr ▸ hk), hwrite]

end

/-! ## The front item runs (R203, R208) -/

/-- The front item has left the queue and has the next LSN. -/
def State.takesItem (s : State) : State := { s with loop := { s.loop with queue := s.loop.queue.drop 1, lsn := s.loop.lsn + 1 } }

/-- What a member whose source is no direct conversion reads while no generator is active (R198, R200). -/
def State.loopInput (s : State) (it : LoopItem) (r : Nat) : LoopIn :=
  let e := s.entryFor it r
  let m := s.apReal (fld e 4 0 16)
  let sp := if fld e 6 0 16 = 0xFFFF then (f32to64 (fld e 0x0C 0 32), true) else s.apReal (fld e 6 0 16)
  ⟨r, m.1, sp.1, m.2, none, s.tracking e, sp.2, false⟩

section
variable {s : State} {r : Nat} (hidle : ∀ g < 4, (s.injector g).active = false)
include hidle

theorem idle_of_mem {g : Nat} (hg : g ∈ [0, 1, 2, 3]) : (s.injector g).active = false := by
  refine hidle g ?_
  simp only [List.mem_cons, List.not_mem_nil, or_false] at hg
  omega

theorem inject_of_idle (t : Nat) : s.inject r t = (none, s) := by
  have hnone : [0, 1, 2, 3].find? (fun g => (s.injector g).active && s.injRec g == r) = none :=
    List.find?_eq_none.mpr fun g hg => by simp [idle_of_mem hidle hg]
  unfold State.inject
  rw [hnone]

theorem gather_direct {it : LoopItem} (h22 : bit (s.entryFor it r) 22 = false) :
    State.gather s it r = (s.loopInput it r, s) := by
  have hany : ([0, 1, 2, 3].any fun g => (s.injector g).active && (s.injector g).begun && s.injRec g == r) = false :=
    List.any_eq_false.mpr fun g hg => by simp [idle_of_mem hidle hg]
  unfold State.gather State.loopInput
  simp only [h22, inject_of_idle hidle, hany, Bool.false_eq_true, if_false, ite_self]

/-- An item of one member is evaluated on what its member reads; a PRIMARY sends it first, which changes only its lanes. -/
theorem runItem_alone {it : LoopItem} (hm : s.membersOf it = [r]) (h22 : bit (s.entryFor it r) 22 = false) : ∃ n o,
    s.runItem it [] = (s.takesItem.afterFrame n o).evalItem it [s.loopInput it r] [] := by
  have hmem : s.takesItem.membersOf it = [r] := hm
  have hg : State.gather s.takesItem it r = (s.loopInput it r, s.takesItem) := gather_direct (s := s.takesItem) hidle h22
  unfold State.runItem
  extract_lets src u
  have hu : u = s.takesItem := rfl
  rw [hu, hmem, List.foldl_cons, List.foldl_nil]
  dsimp only
  rw [hg]
  dsimp only
  split
  · obtain ⟨n, o, h⟩ := lane_eq s.takesItem 0x04 _ []
    exact ⟨n, o, congrArg (fun t => State.evalItem t it _ []) h⟩
  · exact ⟨s.pair.seqOut, s.out, rfl⟩

end

theorem runItem_numbered (s : State) (it : LoopItem) : (s.runItem it []).numbered = s.takesItem.numbered := by
  unfold State.runItem
  extract_lets src u
  split
  next xs v hfold =>
  have hv : v.numbered = u.numbered := by
    refine (congrArg (fun z => z.2.numbered) hfold).symm.trans (foldl_snd_reading State.numbered (fun z r => ?_) _ _)
    exact gather_numbered z.2 it r
  refine (evalItem_numbered _ it xs).trans (Eq.trans ?_ hv)
  split
  · exact numbered_of_loop (lane_loop _ _ _ _)
  · rfl

theorem exec_loopEvaluation {dt r : Nat} {mis : List (Nat × Nat)} {it : LoopItem} {l : List LoopItem} {s : State} (hr : r < 2048)
    (hq : (s.elapse dt).loop.queue = it :: l) (hit : it.record = r) (hrole : (s.elapse dt).role ≠ .standby) :
    exec (.loopEvaluation dt r mis) s = .next (if (s.elapse dt).loopsRun then (s.elapse dt).runItem it mis
      else { s.elapse dt with loop := { (s.elapse dt).loop with queue := l } }) := by
  show execLoopEvaluation dt r mis s = _
  unfold execLoopEvaluation
  dsimp only
  rw [if_neg (Nat.not_le.mpr hr), hq]
  dsimp only
  rw [if_neg (by rintro (h | h); exacts [h hit, hrole h])]
  cases (s.elapse dt).loopsRun <;> rfl

/-! ## Agreement frames on a STANDBY (R208, R272) -/

/-- The item of record `r` is agreed under an LSN: it waits in the queue no longer. -/
def State.agreesItem (s : State) (lsn r : Nat) (agreed : U32) (early : List Nat) : State :=
  { s with loop := { s.loop with
    agreedItems := agreed, lsn := BitVec.ofNat 32 lsn, queue := s.loop.queue.filter (·.record != s.itemOf r), early := early } }

section
variable {s : State} {lsn : Nat} (time : Nat) (x : LoopIn) (l : List LoopIn) (mis : List (Nat × Nat))
  (hrole : s.role = .standby) (hrun : s.loopsRun = true)
include hrole hrun

theorem standby_serves : ¬(s.role ≠ .standby ∨ (!s.loopsRun) = true) := by
  rw [hrole, hrun]
  decide

/-- A frame of the present LSN asks for its members' results (R272). -/
theorem loopFrame_answers (hlsn : lsn = s.loop.lsn.toNat) (ms : List LoopIn) : s.loopFrame lsn time ms mis =
    ms.foldl (fun s x => s.lane 0x05 ([0, lsn, x.record, (s.lrec x.record).out] ++ recSix (s.lrec x.record))) s :=
  (if_neg (standby_serves hrole hrun)).trans (if_pos hlsn)

/-- A frame of a later LSN has its item evaluated on the values that it carries, under its LSN (R208). -/
theorem loopFrame_evaluates (hlsn : lsn ≠ s.loop.lsn.toNat) (hlater : (lsn + 2 ^ 32 - s.loop.lsn.toNat) % 2 ^ 32 < 2 ^ 31) :
    ∃ it n early, s.loopFrame lsn time (x :: l) mis = (s.agreesItem lsn x.record n early).evalItem it (x :: l) mis :=
  ⟨_, _, _, (if_neg (standby_serves hrole hrun)).trans ((if_neg hlsn).trans (if_neg (Nat.not_le.mpr hlater)))⟩

end

end Sys2Proof.Machine
end

section
/-!
PROOFS. The rows that evaluate loop items (R198, R203, R206, R208, R272).
-/
namespace Sys2Proof.Machine

/-! ## LOOP_EVALUATION (R198, R203, R206) -/

section
variable {dt r : Nat} {it : LoopItem} {l : List LoopItem} {s e : State} (he : s.elapse dt = e) (hr : r < 2048)
  (hq : e.loop.queue = it :: l) (hit : it.record = r) (hrole : e.role ≠ .standby)
include he hr hq hit hrole

/-- The front item leaves the queue, and where the engine runs it takes the next LSN. -/
theorem loopEvaluation_numbers : ∃ t, exec (.loopEvaluation dt r []) s = .next t ∧
    (e.loopsRun = false → t.loop = { e.loop with queue := l }) ∧
    (e.loopsRun = true → t.loop.queue = l ∧ t.loop.lsn = e.loop.lsn + 1) := by
  subst he
  refine ⟨_, exec_loopEvaluation hr hq hit hrole, fun hrun => ?_, fun hrun => ?_⟩
  · rw [hrun]
    rfl
  · rw [if_pos hrun]
    have hnum := runItem_numbered (s.elapse dt) it
    exact ⟨(congrArg Prod.fst hnum).trans (congrArg (List.drop 1) hq), congrArg Prod.snd hnum⟩

/-- An item of one member outside a group: the compensator's result is its record's, and no other record changes. -/
theorem loopEvaluation_delivers {v : LoopEval} (hrun : e.loopsRun = true) (hm : e.membersOf it = [r])
    (h19 : bit (e.entryFor it r) 19 = false) (h22 : bit (e.entryFor it r) 22 = false)
    (hidle : ∀ g < 4, (e.injector g).active = false) (hin : inputsOk (e.gather it r).1 = true)
    (hv : evalRec (e.entryFor it r) (e.present (e.entryFor it r)) (e.lrec r) (e.gather it r).1 false = some v) :
    ∃ t, exec (.loopEvaluation dt r []) s = .next t ∧ t.lrec r = v.delivered (e.lrec r) e.now ∧
      ∀ k, k ≠ r → t.lrec k = e.lrec k := by
  subst he
  rw [gather_direct hidle h22] at hin hv
  obtain ⟨n, o, hitem⟩ := runItem_alone hidle hm h22
  have hdel := evalItem_delivers (s := (s.elapse dt).takesItem.afterFrame n o) hin hv h19 hrole
  rw [← hitem] at hdel
  exact ⟨_, (exec_loopEvaluation hr hq hit hrole).trans (congrArg _ (if_pos hrun)), hdel.1, hdel.2⟩

end

/-! ## LOOP_AGREEMENT_FRAME (R208, R272) -/

section
variable {dt lsn : Nat} (time : Nat) (x : LoopIn) (l : List LoopIn) {h : LaneHdr} {s e : State} (he : s.elapse dt = e)
  (ht : Taken e h)

/-- The engine has noted the SyncSeq of the agreement frame that it takes (R297). -/
def State.takesLoopFrame (e : State) (h : LaneHdr) : State :=
  { e.takesFrame h with loop := { e.loop with frameSeq := some h.seq } }

section
include he ht

theorem exec_loopAgreementFrame (ms : List LoopIn) (mis : List (Nat × Nat)) :
    exec (.loopAgreementFrame dt h lsn time ms mis) s = .next ((e.takesLoopFrame h).loopFrame lsn time ms mis) := by
  subst he
  exact execLane_of_taken (fun u => ({ u with loop := { u.loop with frameSeq := some h.seq } } : State).loopFrame lsn time ms mis) ht

theorem exec_loopAnswerFrame {r : Nat} (hr : r < 2048) (v : Nat) (six : List Nat) :
    exec (.loopAnswerFrame dt h lsn r v six) s = .next ((e.takesFrame h).loopAnswer lsn r v six) := by
  subst he
  exact (execLane_of_taken (fun u => if 2048 ≤ r then u else u.loopAnswer lsn r v six) ht).trans
    (congrArg Host.Outcome.next (if_neg (Nat.not_le.mpr hr)))

end

section
variable (hrole : e.role = .standby) (hrun : e.loopsRun = true)
include hrole hrun

theorem loopFrame_present (hlsn : lsn = e.loop.lsn.toNat) (ms : List LoopIn) :
    ((e.takesLoopFrame h).loopFrame lsn time ms []).loop = { e.loop with frameSeq := some h.seq } := by
  rw [loopFrame_answers (s := e.takesLoopFrame h) time [] hrole hrun hlsn]
  exact foldl_reading State.loop (fun t y => lane_loop t _ _ _) (e.takesLoopFrame h)

theorem loopFrame_present_out (hlsn : lsn = e.loop.lsn.toNat) (hslot : e.mu.slot ≠ 0xFF) (hout : e.out = []) :
    ((e.takesLoopFrame h).loopFrame lsn time [x] []).out =
      [.lane (e.frameOf 0x05 ([0, lsn, x.record, (e.lrec x.record).out] ++ recSix (e.lrec x.record)))] := by
  rw [loopFrame_answers (s := e.takesLoopFrame h) time [] hrole hrun hlsn, List.foldl_cons, List.foldl_nil,
    lane_sends (s := e.takesLoopFrame h) hslot]
  have hf := takesFrame_frameOf e h 0x05 ([0, lsn, x.record, (e.lrec x.record).out] ++ recSix (e.lrec x.record)) []
  exact (congrArg (fun f => e.out ++ [Emission.lane f]) hf).trans (by rw [hout]; rfl)

section
variable (hlsn : lsn ≠ e.loop.lsn.toNat) (hlater : (lsn + 2 ^ 32 - e.loop.lsn.toNat) % 2 ^ 32 < 2 ^ 31)
include hlsn hlater

theorem loopFrame_later :
    ((e.takesLoopFrame h).loopFrame lsn time (x :: l) []).loop.lsn = BitVec.ofNat 32 lsn ∧
      ((e.takesLoopFrame h).loopFrame lsn time (x :: l) []).loop.queue =
        e.loop.queue.filter (·.record != e.itemOf x.record) := by
  obtain ⟨it, n, early, hf⟩ := loopFrame_evaluates (s := e.takesLoopFrame h) time x l [] hrole hrun hlsn hlater
  have hnum := evalItem_numbered ((e.takesLoopFrame h).agreesItem lsn x.record n early) it (x :: l)
  rw [← hf] at hnum
  exact ⟨congrArg Prod.snd hnum, congrArg Prod.fst hnum⟩

theorem loopFrame_later_invalid (hx : x.valid = false) :
    ((e.takesLoopFrame h).loopFrame lsn time [x] []).lrec x.record = { e.lrec x.record with invalid := true } ∧
      ((e.takesLoopFrame h).loopFrame lsn time [x] []).loop.invalids = e.loop.invalids + 1 := by
  obtain ⟨it, n, early, hf⟩ := loopFrame_evaluates (s := e.takesLoopFrame h) time x [] [] hrole hrun hlsn hlater
  have hin : inputsOk x = false := by
    unfold inputsOk
    rw [hx]
    rfl
  obtain ⟨hrec, hcount⟩ := evalItem_invalid (s := (e.takesLoopFrame h).agreesItem lsn x.record n early) hin it
  rw [← hf] at hrec hcount
  have hold : ((e.takesLoopFrame h).agreesItem lsn x.record n early).lrec x.record = e.lrec x.record := rfl
  rw [hold] at hrec
  exact ⟨hrec, hcount⟩

end

end

end

end Sys2Proof.Machine
end

section
open Sys2Proof Sys2Proof.Machine

/-- Settles O24, row by row: a trigger strays, queues or merges; an item is numbered and its record delivered; an agreement frame is
answered or evaluated; an answer is installed; signatures agree or diverge; a borrow and an injection end. -/
theorem loopRowsComplete : Obligations.LoopRowsComplete := by
  refine ⟨?_, ?_, ?_, ?_, ?_, ?_, ?_, ?_⟩
  · rintro dt r s e rfl hr hrun hen
    exact ⟨_, exec_loopTrigger hr, fun hp => congrArg State.loop (loopTrigger_strays _ hrun hen hp),
      fun hp hrole hq => loopTrigger_queues _ hrun hen hp hrole hq,
      fun hp hrole hq => congrArg State.loop (loopTrigger_merges _ hrun hen hp hrole hq)⟩
  · intro dt r it l s e he hr hq hit hrole
    exact loopEvaluation_numbers he hr hq hit hrole
  · intro dt r it l v s e he hr hq hit hrole hrun hm h19 h22 hidle hin hv
    exact loopEvaluation_delivers he hr hq hit hrole hrun hm h19 h22 hidle hin hv
  · intro dt lsn time x l h s e he ht hrole hrun hslot
    refine ⟨_, exec_loopAgreementFrame time he ht (x :: l) [], fun hlsn => ⟨loopFrame_present time hrole hrun hlsn _, ?_⟩,
      fun hlsn hlater => ?_⟩
    · rintro rfl
      exact loopFrame_present_out time x hrole hrun hlsn hslot (he ▸ rfl)
    · obtain ⟨hl, hq⟩ := loopFrame_later (h := h) time x l hrole hrun hlsn hlater
      refine ⟨hl, hq, ?_⟩
      rintro rfl hx
      exact loopFrame_later_invalid time x hrole hrun hlsn hlater hx
  · intro dt lsn r v k a b c d f g h s e he ht hr hp hk
    exact ⟨_, exec_loopAnswerFrame he ht hr v _, loopAnswer_installs (s := e.takesFrame h) v a b c d f g hp hk⟩
  · intro dt sig s e he
    exact loopSignatureExchange_diverges he
  · rintro dt s e rfl
    exact ⟨_, rfl, rfl⟩
  · intro dt g s e he hg ha hb hend
    exact injectionEnd_ends he hg ha hb hend

end

section
/-!
PROOFS. The commands on alarm entries, ladder and journal (R235, R236, R240, R243, R245, R251, R252).
-/
namespace Sys2Proof.Machine

/-! ## One entry changed and journalled -/

theorem journal_alEnt (s : State) (r : JourRec) (n : Nat) : (s.journal r).alEnt n = s.alEnt n := by
  unfold State.journal
  split
  · rfl
  · dsimp only
    split <;> rfl

/-- A command on entry `n` makes of it what `Q` asks: it leaves a state with an entry that meets `Q` as it is, or changes and journals
the entry. -/
def MakesEntry (Q : AlEnt → AlEnt → Prop) (n : Nat) (s u : State) : Prop :=
  (u = s ∧ Q (s.alEnt n) (s.alEnt n)) ∨ ∃ f r, u = (s.modAl n f).journal r ∧ Q (s.alEnt n) (f (s.alEnt n))

section
variable {Q : AlEnt → AlEnt → Prop} {n : Nat} {s u : State} (h : MakesEntry Q n s u)
include h

theorem MakesEntry.alarms : OnlyAlarms s u := by
  rcases h with ⟨rfl, -⟩ | ⟨f, r, rfl, -⟩
  · exact (rfl : OnlyAlarms u u)
  · exact (OnlyAlarms.modAl (rfl : OnlyAlarms s s) n f).trans (journal_alarms _ r)

theorem MakesEntry.alEnt_self : Q (s.alEnt n) (u.alEnt n) := by
  rcases h with ⟨rfl, hq⟩ | ⟨f, r, rfl, hq⟩
  · exact hq
  · rw [journal_alEnt, modAl_alEnt_self]
    exact hq

theorem MakesEntry.alEnt_ne {k : Nat} (hk : k ≠ n) : u.alEnt k = s.alEnt k := by
  rcases h with ⟨rfl, -⟩ | ⟨f, r, rfl, -⟩
  · rfl
  · rw [journal_alEnt, modAl_alEnt_ne s n f hk]

end

/-! ## A list of entries, one by one -/

section
variable {Q : AlEnt → AlEnt → Prop} {f : State → Nat → State} (hf : ∀ t n, MakesEntry Q n t (f t n))
include hf

theorem foldl_entries_alarms (l : List Nat) (s : State) : OnlyAlarms s (l.foldl f s) := by
  induction l generalizing s with
  | nil => exact (rfl : OnlyAlarms s s)
  | cons j l ih => exact (hf s j).alarms.trans (ih (f s j))

theorem foldl_entries_of_notMem {l : List Nat} {n : Nat} (hn : n ∉ l) (s : State) : (l.foldl f s).alEnt n = s.alEnt n := by
  induction l generalizing s with
  | nil => rfl
  | cons j l ih =>
    obtain ⟨hj, hl⟩ := not_or.mp (mt List.mem_cons.mpr hn)
    exact (ih hl (f s j)).trans ((hf s j).alEnt_ne hj)

/-- An entry that a list names twice is made twice what `Q` asks. -/
theorem foldl_entries_of_mem (hQ : ∀ {a b c}, Q a b → Q b c → Q a c) {l : List Nat} {n : Nat} (hn : n ∈ l) (s : State) :
    Q (s.alEnt n) ((l.foldl f s).alEnt n) := by
  induction l generalizing s with
  | nil => cases hn
  | cons j l ih =>
    rw [List.foldl_cons]
    by_cases hj : n = j
    · subst hj
      by_cases hl : n ∈ l
      · exact hQ (hf s n).alEnt_self (ih hl (f s n))
      · rw [foldl_entries_of_notMem hf hl]
        exact (hf s n).alEnt_self
    · rw [← (hf s j).alEnt_ne hj]
      exact ih ((List.mem_cons.mp hn).resolve_left hj) (f s j)

end

/-! ## Acknowledging, shelving and unshelving (R235, R236) -/

theorem alAck1_makes (session : Nat) (s : State) (n : Nat) :
    MakesEntry (fun _ b => b.unacked = false) n s (s.alAck1 session n).2 := by
  unfold State.alAck1
  dsimp only
  split
  next h => exact .inl ⟨rfl, by simpa using h⟩
  next => exact .inr ⟨_, _, rfl, rfl⟩

/-- Beside the count, entries are acknowledged one by one. -/
theorem alAck_snd (s : State) (session : Nat) (l : List Nat) :
    (s.alAck session l).2 = l.foldl (fun t n => (t.alAck1 session n).2) s :=
  (List.foldl_hom Prod.snd (fun _ _ => rfl)).symm

theorem alShelve_makes (session d : Nat) (s : State) (n : Nat) :
    MakesEntry (fun _ b => b.shelved = true ∧ b.unacked = false ∧ b.shelveLeft = d * 100) n s (s.alShelve session d n) :=
  .inr ⟨_, _, rfl, rfl, rfl, rfl⟩

theorem alUnshelve_makes (session : Nat) (s : State) (n : Nat) :
    MakesEntry (fun a b => b.shelved = false ∧ b.active = a.active) n s (s.alUnshelve session n) := by
  unfold State.alUnshelve
  dsimp only
  split
  next h => exact .inl ⟨rfl, by simpa using h, rfl⟩
  next => exact .inr ⟨_, _, rfl, rfl, rfl⟩

theorem alShelveAll_of_one {b : List Byte} (h : beAt b 0 1 = 1) (s : State) (session : Nat) :
    s.alShelveAll b session = (nums b 8 (beAt b 2 2)).foldl (fun t n => t.alShelve session (beAt b 4 4) n) s := by
  unfold State.alShelveAll
  rw [h]
  rfl

theorem alShelveAll_of_zero {b : List Byte} (h : beAt b 0 1 = 0) (s : State) (session : Nat) :
    s.alShelveAll b session = (nums b 8 (beAt b 2 2)).foldl (fun t n => t.alUnshelve session n) s := by
  unfold State.alShelveAll
  rw [h]
  rfl

/-! ## The ladder (R240) -/

theorem ladderAck_running {s : State} (h : s.al.lad.state ≠ 0) (cause code session : Nat) : s.ladderAck cause code session =
    s.modLad (fun l => { l with acked := l.acked.orElse (fun _ => some (cause, code, session)) }) :=
  if_neg h

/-! ## The rows of accepted commands -/

/-- An accepted command that answers OK and acts on the alarm engine alone. -/
theorem mail_alarms {c : Cmd} {mine : List Byte → Bool} {dt : Nat} {p : Packet} {s u : State} {x : Session} {body : List Byte}
    {arg : Nat} (h : Accepted c (s.elapse dt) p x) (hm : mine p.data = true)
    (hr : c.run (reqOf p) (runsIn (s.elapse dt) p x) = okRep u body arg) (hu : OnlyAlarms (runsIn (s.elapse dt) p x) u) :
    ∃ t, execMail c mine dt p s = .next t ∧ t.al = u.al ∧ Answers t p x s.mode s.role .ok arg body := by
  obtain ⟨t, ht, hbody, hans⟩ := mail_okRep h hm hr hu.undisturbed.runs (congrArg State.out hu :)
  have hmu : u.mu = s.mu := hu.undisturbed.mu
  unfold State.mode State.role at hans
  rw [hmu] at hans
  exact ⟨t, ht, (congrArg State.al hbody :), hans⟩

theorem alEnt_congr {t u : State} (h : t.al = u.al) (n : Nat) : t.alEnt n = u.alEnt n := by
  unfold State.alEnt
  rw [h]

/-- An accepted command that answers OK and acts on the entries of a list, one by one. -/
theorem mail_entries {c : Cmd} {mine : List Byte → Bool} {dt : Nat} {p : Packet} {s : State} {x : Session} {body : List Byte}
    {arg : Nat} {l : List Nat} {f : State → Nat → State} {Q : AlEnt → AlEnt → Prop} (h : Accepted c (s.elapse dt) p x)
    (hm : mine p.data = true)
    (hr : c.run (reqOf p) (runsIn (s.elapse dt) p x) = okRep (l.foldl f (runsIn (s.elapse dt) p x)) body arg)
    (hf : ∀ t n, MakesEntry Q n t (f t n)) (hQ : ∀ {a b c}, Q a b → Q b c → Q a c) :
    ∃ t, execMail c mine dt p s = .next t ∧ (∀ n ∈ l, Q (s.alEnt n) (t.alEnt n)) ∧ (∀ n, n ∉ l → t.alEnt n = s.alEnt n) ∧
      Answers t p x s.mode s.role .ok arg body := by
  obtain ⟨t, ht, hal, hans⟩ := mail_alarms h hm hr (foldl_entries_alarms hf _ _)
  refine ⟨t, ht, fun n hn => ?_, fun n hn => ?_, hans⟩
  · rw [alEnt_congr hal]
    exact foldl_entries_of_mem hf hQ hn (runsIn (s.elapse dt) p x)
  · rw [alEnt_congr hal]
    exact foldl_entries_of_notMem hf hn (runsIn (s.elapse dt) p x)

/-- The Op of an ALARM_SHELVE stands at byte 48 of its datagram. -/
theorem codeOp_of {p : Packet} {code : Nat} {f : Nat → Bool} (h : (reqOf p).code = code)
    (hf : f (beAt (reqOf p).body 0 1) = true) : codeOp code f p.data = true := by
  have hop : beAt (reqOf p).body 0 1 = beAt p.data 48 1 := by
    show beAt (p.data.drop 48) 0 1 = _
    unfold beAt slice
    rw [List.drop_drop]
  unfold codeOp
  rw [codeIs_of h, ← hop, hf]
  rfl

section
variable {dt : Nat} {p : Packet} {x : Session} {s e : State} (he : s.elapse dt = e)
include he

theorem alarmAck_acks (h : Accepted alarmAckCmd e p x) :
    ∃ t k, exec (.alarmAck dt p) s = .next t ∧ (∀ n ∈ e.ackEntries (reqOf p).body, (t.alEnt n).unacked = false) ∧
      (∀ n, n ∉ e.ackEntries (reqOf p).body → t.alEnt n = e.alEnt n) ∧ Answers t p x e.mode e.role .ok k (beBytes 4 k) := by
  subst he
  let k := ((runsIn (s.elapse dt) p x).alAck (reqOf p).session.toNat ((s.elapse dt).ackEntries (reqOf p).body)).1
  obtain ⟨t, ht, hrow⟩ := mail_entries h (codeIs_of h.code) (congrArg (okRep · (beBytes 4 k) k) (alAck_snd _ _ _))
    (alAck1_makes _) (fun _ hc => hc)
  exact ⟨t, k, ht, hrow⟩

theorem alarmShelve_shelves (h : Accepted alarmShelveCmd e p x) (h1 : beAt (reqOf p).body 0 1 = 1) :
    ∃ t, exec (.alarmShelve dt p) s = .next t ∧
      (∀ n ∈ nums (reqOf p).body 8 (beAt (reqOf p).body 2 2), (t.alEnt n).shelved = true ∧ (t.alEnt n).unacked = false ∧
        (t.alEnt n).shelveLeft = beAt (reqOf p).body 4 4 * 100) ∧
      (∀ n, n ∉ nums (reqOf p).body 8 (beAt (reqOf p).body 2 2) → t.alEnt n = e.alEnt n) ∧
      Answers t p x e.mode e.role .ok 0 [] := by
  subst he
  exact mail_entries h (codeOp_of h.code (by rw [h1]; rfl)) (congrArg okRep (alShelveAll_of_one h1 _ _)) (alShelve_makes _ _)
    (fun _ hc => hc)

theorem alarmUnshelve_unshelves (h : Accepted alarmShelveCmd e p x) (h0 : beAt (reqOf p).body 0 1 = 0) :
    ∃ t, exec (.alarmUnshelve dt p) s = .next t ∧
      (∀ n ∈ nums (reqOf p).body 8 (beAt (reqOf p).body 2 2), (t.alEnt n).shelved = false ∧
        (t.alEnt n).active = (e.alEnt n).active) ∧
      (∀ n, n ∉ nums (reqOf p).body 8 (beAt (reqOf p).body 2 2) → t.alEnt n = e.alEnt n) ∧
      Answers t p x e.mode e.role .ok 0 [] := by
  subst he
  exact mail_entries h (codeOp_of h.code (by rw [h0]; rfl)) (congrArg okRep (alShelveAll_of_zero h0 _ _)) (alUnshelve_makes _)
    (fun hb hc => ⟨hc.1, hc.2.trans hb.2⟩)

/-- LADDER_ACK is accepted outside M11 while a ladder runs only, and its acknowledgement is left for the next scan (R240, R245). -/
theorem ladderAck_leaves (h : Accepted ladderAckCmd e p x) (h11 : e.mode ≠ .m11) :
    ∃ t, exec (.ladderAck dt p) s = .next t ∧
      t.al.lad = { e.al.lad with acked := e.al.lad.acked.orElse (fun _ => some (1, beAt (reqOf p).body 4 2, (reqOf p).session.toNat)) } ∧
      Answers t p x e.mode e.role .ok 0 [] := by
  subst he
  let u := runsIn (s.elapse dt) p x
  have hruns : u.al.lad.state ≠ 0 := by
    intro h0
    obtain ⟨row, -, -, hcheck⟩ := h.passes.row
    cases (if_pos ⟨h11, .inl h0⟩).symm.trans (check_unready hcheck)
  have hack := (if_neg h11 : u.ladderAckCmd (reqOf p).body (reqOf p).session.toNat = _).trans (ladderAck_running hruns _ _ _)
  obtain ⟨t, ht, hal, hans⟩ := mail_alarms h (codeIs_of h.code) (congrArg okRep hack) rfl
  exact ⟨t, ht, congrArg Alarm.lad hal, hans⟩

end

/-! ## CALL_ACK_MESSAGE (R243, R248) -/

/-- A good acknowledgement message comes while a ladder runs (R243). -/
theorem callAckGood_running {e : State} {p : Packet} (h : e.callAckGood p = true) : e.al.lad.state ≠ 0 := by
  unfold State.callAckGood at h
  exact bne_iff_ne.mp (Bool.and_eq_true_iff.mp h).2

/-- What no release can take any more, or none has begun, waits for the next scan (R248). -/
theorem alWaits_later {s : State} (h : ∀ k, s.al.last = some k → k + 2500000 < s.now) (code : Nat) (body : List Byte)
    (op : Option Nat) (session : U32) (counter : Nat) :
    (s.alWaits code body op session counter).al = { s.al with waiting := s.al.waiting ++ [⟨code, body, op, session, s.now⟩] } := by
  unfold State.alWaits
  cases hl : s.al.last with
  | none => rfl
  | some k => exact congrArg State.al (if_neg (Nat.not_le.mpr (h k hl)))

/-- Where the running scan's release lies 500 µs ahead at least, it is scheduled for that release (R248). -/
theorem alWaits_scheduled {s : State} {k : Nat} (hl : s.al.last = some k) (h : s.now ≤ k + 2500000) (code : Nat) (body : List Byte)
    (op : Option Nat) (session : U32) (counter : Nat) :
    (s.alWaits code body op session counter).mbx.scheduled =
      s.mbx.scheduled ++ [⟨code, body, k + 3000000, op, session, counter⟩] := by
  unfold State.alWaits
  rw [hl]
  dsimp only
  rw [if_pos h, lane_mbx]

section
variable {dt : Nat} {p : Packet} {s e : State} (he : s.elapse dt = e) (h0 : e.mode ≠ .m0)
include he h0

theorem callAckMessage_refused (h : e.callAckGood p = false) :
    exec (.callAckMessage dt p) s = .next { e with al := { e.al with ackRefused := e.al.ackRefused + 1 } } := by
  subst he
  exact (if_neg (by simpa using h0)).trans (if_pos (by rw [h]; rfl))

section
variable (h : e.callAckGood p = true)
include h

theorem callAckMessage_alone (h4 : e.mode ≠ .m4) (h5 : e.mode ≠ .m5) :
    exec (.callAckMessage dt p) s = .next (e.ladderAck 2 (beAt p.data 6 2) 0) := by
  subst he
  exact (if_neg (by simpa using h0)).trans ((if_neg (by rw [h]; exact Bool.false_ne_true)).trans (if_neg (not_or.mpr ⟨h4, h5⟩)))

theorem callAckMessage_leads (hp : e.mode = .m4 ∨ e.mode = .m5) (hl : e.alarmLeader = true) :
    exec (.callAckMessage dt p) s = .next (e.alWaits 0xFFFF (beBytes 2 (beAt p.data 6 2)) none 0 0) := by
  subst he
  exact (if_neg (by simpa using h0)).trans
    ((if_neg (by rw [h]; exact Bool.false_ne_true)).trans ((if_pos hp).trans (if_pos hl)))

end

/-- A refused message is counted, one to a module alone acknowledges the ladder, and one to the leader of a pair waits for a release
(R243, R248). -/
theorem callAckMessage_acts :
    ∃ t, exec (.callAckMessage dt p) s = .next t ∧
      (e.callAckGood p = false → t.al = { e.al with ackRefused := e.al.ackRefused + 1 }) ∧
      (e.callAckGood p = true → e.mode ≠ .m4 → e.mode ≠ .m5 →
        t.al.lad = { e.al.lad with acked := e.al.lad.acked.orElse (fun _ => some (2, beAt p.data 6 2, 0)) }) ∧
      (e.callAckGood p = true → e.mode = .m4 ∨ e.mode = .m5 → e.alarmLeader = true →
        (∀ k, e.al.last = some k → k + 2500000 < e.now) →
        t.al.waiting = e.al.waiting ++ [⟨0xFFFF, beBytes 2 (beAt p.data 6 2), none, 0, e.now⟩]) ∧
      (e.callAckGood p = true → e.mode = .m4 ∨ e.mode = .m5 → e.alarmLeader = true →
        ∀ k, e.al.last = some k → e.now ≤ k + 2500000 →
        t.mbx.scheduled = e.mbx.scheduled ++ [⟨0xFFFF, beBytes 2 (beAt p.data 6 2), k + 3000000, none, 0, 0⟩]) := by
  have hdone : Completes (exec (.callAckMessage dt p) s) := .guard (.guard (.ite (.guard .next) .next))
  obtain ⟨t, ht⟩ := hdone
  have hto : ∀ {u : State}, exec (.callAckMessage dt p) s = .next u → t = u := fun hu => Host.Outcome.next.inj (ht.symm.trans hu)
  refine ⟨t, ht, fun h => ?_, fun h h4 h5 => ?_, fun h hp hl hlast => ?_, fun h hp hl k hk hle => ?_⟩
  · rw [hto (callAckMessage_refused he h0 h)]
  · rw [hto (callAckMessage_alone he h0 h h4 h5), ladderAck_running (callAckGood_running h)]
    rfl
  · rw [hto (callAckMessage_leads he h0 h hp hl), alWaits_later hlast]
  · rw [hto (callAckMessage_leads he h0 h hp hl), alWaits_scheduled hk hle]

end

/-! ## JOURNAL_FLASH_WRITE (R251) -/

theorem jBacklog_al (s : State) : ∃ b, s.jBacklog.al = { s.al with jbehind := b } := by
  unfold State.jBacklog
  dsimp only
  split
  · exact ⟨true, raise_al _ _ _⟩
  · split
    · exact ⟨false, rfl⟩
    · exact ⟨s.al.jbehind, rfl⟩

/-- One write takes the ring's first entry to the write position, and EV233 and EV250 change nothing of it (R251). -/
theorem journalWrite_one {s : State} {r : JourRec} {l : List JourRec} (h : s.al.ring = r :: l) :
    (s.journalWrite 1).al.ring = l ∧ (s.journalWrite 1).al.flashed = s.al.flashed + 1 ∧
      tget (s.journalWrite 1).al.flash (s.al.flashed % 16777216) none = some r := by
  have hal : ∃ b, (s.journalWrite 1).al = { s.al with
      ring := l
      flash := tset s.al.flash (s.al.flashed % 16777216) none (some r)
      flashed := s.al.flashed + 1
      jbehind := b } := by
    rw [State.journalWrite, h]
    dsimp only
    rw [State.journalWrite]
    split
    · obtain ⟨b, hb⟩ := jBacklog_al (State.raise _ 233 _)
      exact ⟨b, by rw [hb, raise_al]⟩
    · exact jBacklog_al _
  obtain ⟨b, hb⟩ := hal
  rw [hb]
  simp only [tget_tset_self, and_self]

end Sys2Proof.Machine
end

section
open Sys2Proof Sys2Proof.Machine

/-- Settles O22, row by row: a command on entries changes those it names alone, a LADDER_ACK or a message leaves its acknowledgement, a
JOURNAL_READ reads the entries as they stand, and the flash engine takes the first entry of the ring. -/
theorem alarmCommandRowsComplete : Obligations.AlarmCommandRowsComplete := by
  refine ⟨fun _ _ _ _ _ he h => alarmAck_acks he h, fun _ _ _ _ _ he h h1 => alarmShelve_shelves he h h1,
    fun _ _ _ _ _ he h h0 => alarmUnshelve_unshelves he h h0, fun _ _ _ _ _ he h h11 => ladderAck_leaves he h h11,
    ?_, fun _ _ _ _ he h0 => callAckMessage_acts he h0, ?_⟩
  · rintro dt p x s e rfl h
    obtain ⟨t, ht, hans⟩ := mail_reads h (codeIs_of h.code) rfl
    exact ⟨t, _, ht, rfl, hans⟩
  · rintro dt r l s e rfl hring
    exact ⟨_, rfl, journalWrite_one hring⟩

end

section
/-!
PROOFS. Frames over the lanes that are taken (R29, R258, R259): what the lane counts is seen by no effect of a frame (R39, R83, R260, R273).
-/
namespace Sys2Proof.Machine

/-- The state with other counts of good frames on its lanes, and another SyncSeq as the last taken. -/
def State.laneCounted (e : State) (a b : Nat × Nat) (q : Option U32) : State :=
  { e with pair := { e.pair with
    sl0 := { e.pair.sl0 with good := a.1, lastGood := a.2 }
    sl1 := { e.pair.sl1 with good := b.1, lastGood := b.2 }
    seqIn := q } }

theorem laneCounted_copy (e : State) (a b : Nat × Nat) (q : Option U32) : (e.laneCounted a b q).pair.copy = e.pair.copy := rfl

theorem takesFrame_counted (e : State) (h : LaneHdr) : ∃ a b q, e.takesFrame h = e.laneCounted a b q := by
  by_cases hl : h.lane = 0
  · exact ⟨(e.pair.sl0.good + 1, e.tick), (e.pair.sl1.good, e.pair.sl1.lastGood), some (BitVec.ofNat 32 h.seq),
      congrArg (fun p : Pair => { e with pair := { p with seqIn := some (BitVec.ofNat 32 h.seq) } }) (if_pos hl)⟩
  · exact ⟨(e.pair.sl0.good, e.pair.sl0.lastGood), (e.pair.sl1.good + 1, e.tick), some (BitVec.ofNat 32 h.seq),
      congrArg (fun p : Pair => { e with pair := { p with seqIn := some (BitVec.ofNat 32 h.seq) } }) (if_neg hl)⟩

/-- The row of a frame that is taken has the frame's effect on a state that differs in what its lanes have counted. -/
theorem execLane_counted {dt : Nat} {h : LaneHdr} {s e : State} (he : s.elapse dt = e) (ht : Taken e h) (f : State → State) :
    ∃ a b q, execLane dt h f s = .next (f (e.laneCounted a b q)) := by
  subst he
  obtain ⟨a, b, q, hc⟩ := takesFrame_counted (s.elapse dt) h
  exact ⟨a, b, q, (execLane_of_taken f ht).trans (by rw [hc])⟩

/-- A frame on the lanes is among what is sent. -/
theorem mem_lane_out {s : State} (h : s.mu.slot ≠ 0xFF) (k : Nat) (l : List Nat) (b : List Byte) :
    (.lane (s.frameOf k l b) : Emission) ∈ (s.lane k l b).out := by
  rw [lane_sends h, emit_out]
  exact List.mem_append_right _ (List.mem_singleton_self _)

/-- What is announced leaves the pair but for its frame's number. -/
theorem announce_pair (s : State) (k : Nat) (l : List Nat) :
    (s.announce k l).pair = { s.pair with seqOut := (s.announce k l).pair.seqOut } :=
  (kept (m := 0) (fun _ _ => announce_view s k l) .pair (by decide) : Part.same s _ .pair)

/-! ## What judges a pair-effective command (R83) -/

/-- The checks by which a module judges whether it can apply a command do not see what its lanes have counted. -/
structure BlindToCounts (k : Cmd) (r : Req) (e : State) (a b : Nat × Nat) (q : Option U32) : Prop where
  absent : k.absent r (e.laneCounted a b q) = k.absent r e
  malformed : k.malformed r (e.laneCounted a b q) = k.malformed r e
  unready : k.unready r (e.laneCounted a b q) = k.unready r e
  value : k.value r (e.laneCounted a b q) = k.value r e

theorem pairCmd_mem {code : Nat} {k : Cmd} (h : pairCmd code = some k) :
    k.code = code ∧ k ∈ [paramWriteCmd, tableWriteCmd, commitConfigCmd, discardEditsCmd, valueWriteCmd, forceSetCmd, forceClearCmd,
      taskTriggerCmd, alarmAckCmd, alarmShelveCmd, ladderAckCmd, hartPassCmd, canSendCmd, panelUpdateCmd, timeAcceptCmd] :=
  ⟨by simpa using List.find?_some h, List.mem_of_find?_eq_some h⟩

theorem pairCmd_blind {code : Nat} {k : Cmd} (h : pairCmd code = some k) (r : Req) (e : State) (a b : Nat × Nat) (q : Option U32) :
    BlindToCounts k r e a b q := by
  obtain ⟨-, hk⟩ := pairCmd_mem h
  simp only [List.mem_cons, List.not_mem_nil, or_false] at hk
  rcases hk with rfl | rfl | rfl | rfl | rfl | rfl | rfl | rfl | rfl | rfl | rfl | rfl | rfl | rfl | rfl <;>
    exact ⟨rfl, rfl, rfl, rfl⟩

/-- Every pair-effective command has its row in the table of R84. -/
theorem pairCmd_row {code : Nat} {k : Cmd} (h : pairCmd code = some k) : ∃ row, cmdRow code = some row := by
  obtain ⟨rfl, hk⟩ := pairCmd_mem h
  simp only [List.mem_cons, List.not_mem_nil, or_false] at hk
  rcases hk with rfl | rfl | rfl | rfl | rfl | rfl | rfl | rfl | rfl | rfl | rfl | rfl | rfl | rfl | rfl <;> exact ⟨_, rfl⟩

theorem laneCounted_canApply (e : State) (a b : Nat × Nat) (q : Option U32) (c : RelayIn) :
    (e.laneCounted a b q).canApply c = e.canApply c := by
  unfold State.canApply
  cases hk : pairCmd c.code with
  | none => rfl
  | some k =>
    cases hr : cmdRow c.code with
    | none => rfl
    | some row =>
      obtain ⟨habsent, hmalformed, hunready, hvalue⟩ := pairCmd_blind hk (relayReq c) e a b q
      dsimp only
      rw [habsent, hmalformed, hunready, hvalue]
      rfl

/-! ## COPY_DATA_FRAME (R275) -/

/-- The copy set is taken item by item, and its bytes are counted. -/
theorem copyDataFrame_takes {dt : Nat} {h : LaneHdr} {s e : State} {c : Copy} (he : s.elapse dt = e) (ht : Taken e h)
    (hc : e.pair.copy = some c) (htake : c.taking = true) (x : CopyItem) : ∃ a b q t,
    exec (.copyDataFrame dt h [x]) s = .next t ∧ t.tk = ((e.laneCounted a b q).takeItem x).tk ∧
      t.loop = ((e.laneCounted a b q).takeItem x).loop ∧ t.pair.copy = ((e.laneCounted a b q).takeItem x).pair.copy.map
        (fun c => { c with bytes := c.bytes + itemBytes x }) := by
  obtain ⟨a, b, q, hrun⟩ := execLane_counted he ht (fun s =>
    if s.takesCopy then
      ([x].foldl State.takeItem s).modPair (fun p => { p with
        copy := p.copy.map (fun c => { c with bytes := [x].foldl (fun a x => a + itemBytes x) c.bytes }) })
    else
      [x].foldl (fun s x => match x with
        | .alarms _ | .alarm _ _ | .group _ _ | .ladder _ => if s.al.behind then s.takeItem x else s
        | .loop _ _ | .lsn _ _ => if s.loop.behind then s.takeItem x else s
        | .ask _ => s.takeItem x
        | _ => s) s)
  have htakes : (e.laneCounted a b q).takesCopy = true := by
    show ((match e.pair.copy with | some c => c.taking | none => false) || _ || _) = true
    rw [hc]
    simp only [htake, Bool.true_or]
  exact ⟨a, b, q, _, hrun.trans (congrArg Host.Outcome.next (if_pos htakes)), rfl, rfl, rfl⟩

/-- A write of a task's state area leaves the other tasks. -/
theorem writeArea_task_ne (s : State) {n m : Nat} (hm : m ≠ n) (off : Nat) (b : List Byte) :
    (s.writeArea n off b).task m = s.task m := by
  unfold State.writeArea
  extract_lets lines kept before t after u gs
  exact (modTask_task_ne t n _ hm).trans (modTask_task_ne s n _ hm)

section
variable {dt n : Nat} {h : LaneHdr} {s e : State} {c : Copy} (he : s.elapse dt = e) (ht : Taken e h) (hc : e.pair.copy = some c)
  (htake : c.taking = true)
include he ht hc htake

theorem copyDataFrame_line (hn : n < 32) (l : Nat) (bytes : List Byte) :
    ∃ t, exec (.copyDataFrame dt h [.line n l bytes]) s = .next t ∧
      (t.task n).area = areaPut (e.task n).area (64 * l) (padTo 64 bytes) ∧ (∀ m, m ≠ n → t.task m = e.task m) ∧
      t.pair.copy = some { c with bytes := c.bytes + bytes.length } := by
  obtain ⟨a, b, q, t, hrun, htk, -, hcopy⟩ := copyDataFrame_takes he ht hc htake (.line n l bytes)
  have hitem : (e.laneCounted a b q).takeItem (.line n l bytes) = (e.laneCounted a b q).writeArea n (64 * l) (padTo 64 bytes) := if_pos hn
  rw [hitem] at htk hcopy
  have htask : ∀ m, t.task m = ((e.laneCounted a b q).writeArea n (64 * l) (padTo 64 bytes)).task m :=
    fun m => congrArg (fun k : Tasks => tget k.task m {}) htk
  obtain ⟨k, hk⟩ := writeArea_task (e.laneCounted a b q) n (64 * l) (padTo 64 bytes)
  have hpair : Part.same _ ((e.laneCounted a b q).writeArea n (64 * l) (padTo 64 bytes)) .pair :=
    kept (fun _ hm => writeArea_view _ n _ _ hm) .pair (by decide)
  refine ⟨t, hrun, ?_, fun m hm => (htask m).trans (writeArea_task_ne _ hm _ _), ?_⟩
  · rw [htask, hk]
    rfl
  · have hsame : ((e.laneCounted a b q).writeArea n (64 * l) (padTo 64 bytes)).pair.copy = _ := (congrArg Pair.copy hpair :)
    rw [hcopy, hsame, laneCounted_copy, hc]
    rfl

theorem copyDataFrame_stream (hn : n < 32) (ep o : Nat) :
    ∃ t, exec (.copyDataFrame dt h [.stream n ep o]) s = .next t ∧ (t.task n).epoch = ep % 256 ∧
      (t.task n).osn = o % 2 ^ 32 ∧ t.pair.copy = some c := by
  obtain ⟨a, b, q, t, hrun, htk, -, hcopy⟩ := copyDataFrame_takes he ht hc htake (.stream n ep o)
  have hitem : (e.laneCounted a b q).takeItem (.stream n ep o) =
    (e.laneCounted a b q).modTask n (fun k => { k with epoch := ep % 256, osn := o % 2 ^ 32 }) := if_pos hn
  rw [hitem] at htk hcopy
  have htask : t.task n = { e.task n with epoch := ep % 256, osn := o % 2 ^ 32 } :=
    (congrArg (fun k : Tasks => tget k.task n {}) htk).trans (modTask_task_self (e.laneCounted a b q) n _)
  refine ⟨t, hrun, congrArg Task.epoch htask, congrArg Task.osn htask, hcopy.trans ?_⟩
  rw [modTask_pair, laneCounted_copy, hc]
  rfl

theorem copyDataFrame_loop (r : LoopRec) :
    ∃ t, exec (.copyDataFrame dt h [.loop n r]) s = .next t ∧ tget t.loop.rec_ n {} = recTake (tget e.loop.rec_ n {}) r ∧
      ∀ m, m ≠ n → tget t.loop.rec_ m {} = tget e.loop.rec_ m {} := by
  obtain ⟨a, b, q, t, hrun, -, hloop, -⟩ := copyDataFrame_takes he ht hc htake (.loop n r)
  have hrec : t.loop.rec_ = tmod e.loop.rec_ n {} (fun y => recTake y r) := congrArg Loop.rec_ hloop
  refine ⟨t, hrun, ?_, fun m hm => ?_⟩
  · rw [hrec, tget_tmod_self]
  · rw [hrec, tget_tmod_ne _ hm]

end

/-! ## SWITCH_ANNOUNCEMENT (R39, R271) and DEPARTURE_NOTICE (R278) -/

section
variable {dt : Nat} {a : SwitchIn} {h : LaneHdr} {s e : State} (he : s.elapse dt = e) (ht : Taken e h)
include he ht

/-- A change of both modules that this module can follow waits for its instant, and is confirmed. -/
theorem switchAnnouncement_confirms (hs : e.mu.slot ≠ 0xFF) (hw : a.what = 0) (hp : e.mu.pending = none) (hj : e.mu.joinOp = none)
    (hf : e.canFollow (Mode.ofNum a.arg) = true) :
    ∃ t c l, exec (.switchAnnouncement dt h a) s = .next t ∧ t.mu.pending = some c ∧ c.target = Mode.ofNum a.arg ∧
      c.at_ = a.at_ ∧ c.pair = true ∧ c.confirmed = true ∧ (.lane (e.frameOf 0x0A ([1, 5, a.at_, 0] ++ l)) : Emission) ∈ t.out := by
  obtain ⟨x, y, q, hrun⟩ := execLane_counted he ht (fun s => s.switchFrame a)
  have hframe : ∃ (c : ModeChange) (l : List (Nat × Nat)), (e.laneCounted x y q).switchFrame a =
      ((e.laneCounted x y q).modMu (fun u => { u with pending := some c })).confirm a.at_ l ∧ c.target = Mode.ofNum a.arg ∧
      c.at_ = a.at_ ∧ c.pair = true ∧ c.confirmed = true := by
    have hp' : (e.laneCounted x y q).mu.pending = none := hp
    have hj' : (e.laneCounted x y q).mu.joinOp = none := hj
    have hf' : (e.laneCounted x y q).canFollow (Mode.ofNum a.arg) = true := hf
    unfold State.switchFrame
    simp only [hw, hp', hj', hf', Bool.false_and, Bool.false_eq_true, if_false, Option.isSome_none, Bool.or_self, Bool.not_true]
    exact ⟨_, _, rfl, rfl, rfl, rfl, rfl⟩
  obtain ⟨c, l, hc, htarget, hat, hpair, hconf⟩ := hframe
  rw [hc] at hrun
  exact ⟨_, c, streamFields l, hrun, congrArg ModeUnit.pending (announce_mu _ _ _), htarget, hat, hpair, hconf,
    mem_lane_out (s := (e.laneCounted x y q).modMu (fun u => { u with pending := some c })) hs 0x0A _ []⟩

/-- A refusal drops the change, and its operation ends. -/
theorem switchAnnouncement_refused {c : ModeChange} (hw : a.what = 6) (hp : e.mu.pending = some c) (hat : c.at_ = a.at_) :
    ∃ t, exec (.switchAnnouncement dt h a) s = .next t ∧ t.mu.pending = none ∧ t.pair.swap = none ∧ t.mu.mode = e.mu.mode ∧
      ∀ op, c.op = some op → t.mbx.async.find? (·.id == op) = none := by
  obtain ⟨x, y, q, hrun⟩ := execLane_counted he ht (fun s => s.switchFrame a)
  have hframe : ∃ u : State, (e.laneCounted x y q).switchFrame a = u.switchRefuses c ∧ u.mu = e.mu := by
    have hp' : (e.laneCounted x y q).mu.pending = some c := hp
    unfold State.switchFrame
    simp only [hw, hp', hat, ne_eq, not_true_eq_false, if_false]
    exact ⟨_, rfl, by split <;> rfl⟩
  obtain ⟨u, hu, hmu⟩ := hframe
  rw [hu] at hrun
  obtain ⟨hdrop, hswap⟩ := switchRefuses_drops u c
  exact ⟨_, hrun, by rw [hdrop], hswap, by rw [hdrop, hmu], fun op hop => completeOpt_ends _ hop _ _⟩

theorem switchAnnouncement_resumes (hw : a.what = 4) (hr : e.pair.resync = true) :
    ∃ t, exec (.switchAnnouncement dt h a) s = .next t ∧ t.pair.resumeAt = some a.at_ := by
  obtain ⟨x, y, q, hrun⟩ := execLane_counted he ht (fun s => s.switchFrame a)
  have hframe : (e.laneCounted x y q).switchFrame a = (e.laneCounted x y q).modPair (fun p => { p with resumeAt := some a.at_ }) := by
    unfold State.switchFrame
    simp only [hw]
    exact if_pos hr
  exact ⟨_, hrun, by rw [hframe]; rfl⟩

theorem departureNotice_names (f : Nat) (hm : e.mode = .m4 ∨ e.mode = .m5) (hd : e.pair.departure = none) :
    ∃ t, exec (.departureNotice dt h f) s = .next t ∧ t.pair.departure = some ⟨f, false, 0⟩ := by
  obtain ⟨x, y, q, hrun⟩ := execLane_counted he ht (fun s =>
    if (s.mode = .m4 ∨ s.mode = .m5) ∧ s.pair.departure.isNone then s.modPair (fun p => { p with departure := some ⟨f, false, 0⟩ }) else s)
  have hd' : (e.laneCounted x y q).pair.departure.isNone = true := congrArg Option.isNone hd
  exact ⟨_, hrun, by rw [if_pos ⟨hm, hd'⟩]; rfl⟩

end

end Sys2Proof.Machine
end

section
/-!
PROOFS. Pair-effective commands between the modules (R83), and the frames of other units (R69, R444, R451, R483).
-/
namespace Sys2Proof.Machine

/-! ## COMMAND_RELAY (R83) -/

section
variable {dt : Nat} {c : RelayIn} {h : LaneHdr} {s e : State} (he : s.elapse dt = e) (ht : Taken e h)
include he ht

/-- The stages of a relayed command. -/
theorem commandRelay_stage : ∃ a b q, exec (.commandRelay dt h c) s = .next (match c.stage with
    | 0 => (e.laneCounted a b q).relayScheduled c
    | 1 => (e.laneCounted a b q).relayRequest c
    | 3 => (e.laneCounted a b q).relayRefused c
    | _ => (e.laneCounted a b q).relayAnswer c) :=
  execLane_counted he ht (fun s => match c.stage with
    | 0 => s.relayScheduled c
    | 1 => s.relayRequest c
    | 3 => s.relayRefused c
    | _ => s.relayAnswer c)

/-- A scheduled command waits for its boundary where this module can apply it, and is refused where it cannot. -/
theorem commandRelay_schedules (hs : c.stage = 0) (hr : e.mbx.relays = []) :
    ∃ t, exec (.commandRelay dt h c) s = .next t ∧
      (e.canApply c = true → t.mbx.scheduled = e.mbx.scheduled ++ [⟨c.code, c.body, c.at_, none, c.session, c.counter⟩]) ∧
      (e.canApply c = false → e.mu.slot ≠ 0xFF → t.mbx = e.mbx ∧ (.lane (e.frameOf 0x0A
        [4, c.code, 3, Status.partnerRefused.code, c.session.toNat, c.counter, noPos]) : Emission) ∈ t.out) := by
  obtain ⟨a, b, q, hrun⟩ := commandRelay_stage (c := c) he ht
  rw [hs] at hrun
  have hcan := laneCounted_canApply e a b q c
  refine ⟨_, hrun, fun h => ?_, fun h hslot => ?_⟩
  · have hfind : ∀ f, (e.laneCounted a b q).mbx.relays.find? f = none := fun f => by
      rw [show (e.laneCounted a b q).mbx.relays = [] from hr]
      rfl
    simp only [State.relayScheduled, hcan, h, hfind, Bool.not_true, Bool.false_eq_true, if_false]
    rfl
  · have hout : (e.laneCounted a b q).relayScheduled c = (e.laneCounted a b q).announce 4
        [c.code, 3, Status.partnerRefused.code, c.session.toNat, c.counter, noPos] := by
      have hfind : ∀ f, ((e.laneCounted a b q).announce 4
          [c.code, 3, Status.partnerRefused.code, c.session.toNat, c.counter, noPos]).mbx.relays.find? f = none := fun f => by
        rw [State.announce, lane_mbx, show (e.laneCounted a b q).mbx.relays = [] from hr]
        rfl
      simp only [State.relayScheduled, hcan, h, hfind, Bool.not_false, if_true]
    rw [hout]
    exact ⟨lane_mbx _ _ _ _, mem_lane_out (s := e.laneCounted a b q) hslot 0x0A _ []⟩

/-- A module that is not PRIMARY refuses a request passed to it. -/
theorem commandRelay_refuses {k : Cmd} (hs : c.stage = 1) (hk : pairCmd c.code = some k) (hp : e.role ≠ .primary)
    (hslot : e.mu.slot ≠ 0xFF) :
    ∃ t, exec (.commandRelay dt h c) s = .next t ∧ t.mbx = e.mbx ∧
      (.lane (e.frameOf 0x0A [4, c.code, 2, Status.partnerRefused.code, c.session.toNat, c.counter, noPos]) : Emission) ∈ t.out := by
  obtain ⟨a, b, q, hrun⟩ := commandRelay_stage (c := c) he ht
  rw [hs] at hrun
  obtain ⟨row, hrow⟩ := pairCmd_row hk
  have hcode : c.code ≠ 0xFFFF := fun h => by
    rw [h] at hk
    cases hk
  have hp' : (e.laneCounted a b q).role ≠ .primary := hp
  have hout : (e.laneCounted a b q).relayRequest c = (e.laneCounted a b q).relayOutcome c .partnerRefused noPos := by
    simp only [State.relayRequest, hcode, hk, hrow, hp', if_false, ne_eq, not_false_eq_true, if_true]
  refine ⟨_, hrun, ?_⟩
  rw [hout]
  exact ⟨lane_mbx _ _ _ _, mem_lane_out (s := e.laneCounted a b q) hslot 0x0A _ []⟩


end

/-- An update that is abandoned only adds to what is sent. -/
theorem abandonUpdate_out (s : State) (k cause : Nat) : s.out <+: (s.abandonUpdate k cause).out := by
  unfold State.abandonUpdate
  extract_lets x
  split
  · exact List.prefix_rfl
  · refine (show s.out <+: _ from ?_).trans (raise_out _ _ _)
    split <;> exact List.prefix_rfl

/-- The end of a session only adds to what is sent. -/
theorem endSession_out (s : State) (id : U32) : s.out <+: (s.endSession id).out := by
  unfold State.endSession
  extract_lets cfg mbx ev u
  refine (show s.out <+: u.out from List.prefix_rfl).trans (foldl_out fun t k => ?_)
  split
  · exact abandonUpdate_out t k 3
  · exact List.prefix_rfl

/-- The relays wait on when their session ends. -/
theorem endSession_relays (s : State) (id : U32) : (s.endSession id).mbx.relays = s.mbx.relays :=
  (kept (fun _ hm => endSession_view s id hm) .agreed (by decide) : Part.same s _ .agreed).2

/-- A relayed request that is answered no longer waits, and its response is among what is sent (R83). -/
theorem answerRelay_answers {s : State} {x : Relay} (htarget : x.req.target ≠ 1) (hc : s.mbx.restarting = none) (st : Status)
    (arg : Nat) (body : List Byte) : (s.answerRelay x st arg body).mbx.relays = s.mbx.relays.filter (fun y => y != x) ∧
      response x.req ((s.session x.session).map (·.key)) x.session st arg s.mode s.role body ∈ (s.answerRelay x st arg body).out := by
  unfold State.answerRelay
  extract_lets mbx s1 s2 s3
  have h2 : s2.mbx.relays = s.mbx.relays.filter (fun y => y != x) ∧
      response x.req ((s.session x.session).map (·.key)) x.session st arg s.mode s.role body ∈ s2.out := by
    have hresp := respond_eq s1 htarget hc ((s1.session x.session).map (·.key)) x.session st arg body
    have hrelays : s2.mbx.relays = s1.mbx.relays := (congrArg (fun v : State => v.mbx.relays) hresp :)
    have hout : s2.out = s1.out ++ [response x.req ((s1.session x.session).map (·.key)) x.session st arg s1.mode s1.role body] :=
      (congrArg State.out hresp :)
    exact ⟨hrelays, hout ▸ List.mem_append_right _ (List.mem_singleton_self _)⟩
  have h3 : s3.mbx.relays = s2.mbx.relays ∧ s3.out = s2.out := by
    simp only [s3]
    split <;> exact ⟨rfl, rfl⟩
  rw [← h3.1, ← h3.2] at h2
  have hend : ∀ c : Bool, (if c then s3.endSession x.session else s3).mbx.relays = s3.mbx.relays ∧
      s3.out <+: (if c then s3.endSession x.session else s3).out
    | true => ⟨endSession_relays s3 x.session, endSession_out s3 x.session⟩
    | false => ⟨rfl, List.prefix_rfl⟩
  exact ⟨(hend _).1.trans h2.1, (hend _).2.subset h2.2⟩

/-- The PRIMARY's outcome goes back to the host of the request. -/
theorem commandRelay_answers {dt : Nat} {c : RelayIn} {x : Relay} {h : LaneHdr} {s e : State} (he : s.elapse dt = e) (ht : Taken e h)
    (hs : c.stage = 2)
    (hx : e.mbx.relays.find? (fun x => x.session == c.session && x.counter == c.counter && x.code == c.code) = some x)
    (hst : Status.ofCode c.status ≠ .accepted) (htarget : x.req.target = 0) (hc : e.mbx.restarting = none) :
    ∃ t, exec (.commandRelay dt h c) s = .next t ∧ t.mbx.relays = e.mbx.relays.filter (fun y => y != x) ∧
      response x.req ((e.session x.session).map (·.key)) x.session (Status.ofCode c.status) c.arg e.mode e.role [] ∈ t.out := by
  obtain ⟨a, b, q, hrun⟩ := commandRelay_stage (c := c) he ht
  rw [hs] at hrun
  have hx' : (e.laneCounted a b q).mbx.relays.find? (fun x => x.session == c.session && x.counter == c.counter && x.code == c.code) =
    some x := hx
  have hans : (e.laneCounted a b q).relayAnswer c = (e.laneCounted a b q).answerRelay x (Status.ofCode c.status) c.arg [] := by
    simp only [State.relayAnswer, hx', hst, if_false]
  refine ⟨_, hrun, ?_⟩
  rw [hans]
  exact answerRelay_answers (s := e.laneCounted a b q) (by rw [htarget]; decide) hc _ _ _

/-! ## PAIR_COMMAND_APPLY (R83) -/

theorem carryCmd_scheduled (s : State) (c : PairCmd) : (s.carryCmd c).mbx = s.mbx := by
  unfold State.carryCmd
  extract_lets add
  split
  · rfl
  · rfl
  · exact foldl_reading (f := add) State.mbx (fun _ _ => rfl) s
  · exact foldl_reading (f := add) State.mbx (fun _ _ => rfl) s
  · rfl

/-- At its boundary the command that is due is applied, and those of later boundaries wait on: a VALUE_WRITE waits for its task's next
cycle, with its boundary (R155). -/
theorem pairCommandApply_queues {dt : Nat} {c : PairCmd} {l : List PairCmd} {s e : State} (he : s.elapse dt = e)
    (hs : e.mbx.scheduled = c :: l) (hc : c.at_ ≤ e.now) (hl : ∀ d ∈ l, e.now < d.at_) (hcode : c.code = 0x0042) :
    ∃ t, exec (.pairCommandApply dt) s = .next t ∧ t.mbx.scheduled = l ∧
      (t.task (beAt c.body 0 1)).writes =
        (e.task (beAt c.body 0 1)).writes ++ [⟨vwEntries c.body, c.op, c.session, c.body, e.now⟩] := by
  have hpart : e.mbx.scheduled.partition (fun c => decide (c.at_ ≤ e.now)) = ([c], l) := by
    have hdue : l.filter (fun d => decide (d.at_ ≤ e.now)) = [] :=
      List.filter_eq_nil_iff.mpr fun d hd => by simpa using hl d hd
    have hrest : l.filter (fun d => !decide (d.at_ ≤ e.now)) = l :=
      List.filter_eq_self.mpr fun d hd => by simpa using hl d hd
    rw [hs, List.partition_eq_filter_filter]
    simp only [List.filter_cons, hc, decide_true, if_true, Bool.not_true, Bool.false_eq_true, if_false, hdue, hrest, Function.comp_def]
  let u : State := { e with mbx := { e.mbx with scheduled := l } }
  have happly : e.applyScheduled = (u.queueValues c.op c.body c.session e.now).carryCmd c := by
    have hal : u.alApply c.code c.op c.body c.session = u.queueValues c.op c.body c.session e.now := by
      rw [hcode]
      rfl
    simp only [State.applyScheduled, hpart, List.foldl_cons, List.foldl_nil]
    rw [← hal]
  refine ⟨_, congrArg Host.Outcome.next (congrArg State.applyScheduled he), ?_, ?_⟩
  · rw [happly, carryCmd_scheduled]
    rfl
  · have hcarry : ∀ v : State, ((v.carryCmd c).task (beAt c.body 0 1)).writes = (v.task (beAt c.body 0 1)).writes := fun v => by
      simp only [State.carryCmd, hcode, modTask_task_self]
    rw [happly, hcarry, State.queueValues, modTask_task_self]
    rfl

/-! ## Announcements of other units (R444, R451, R483) -/

theorem stationStateAnnouncement_waits {dt slot : Nat} {h : LaneHdr} {s e : State} (he : s.elapse dt = e) (ht : Taken e h)
    (hs : slot < 250) (hl : e.canLead = false) (f st rev per : Nat) :
    ∃ t, exec (.stationStateAnnouncement dt h f slot st rev per) s = .next t ∧
      t.net = { e.net with announced := e.net.announced ++ [(f, slot, st, rev, per)] } := by
  obtain ⟨a, b, q, hrun⟩ := execLane_counted he ht (fun s =>
    if 250 ≤ slot || s.canLead then s else { s with net := { s.net with announced := s.net.announced ++ [(f, slot, st, rev, per)] } })
  have hl' : (e.laneCounted a b q).canLead = false := hl
  have hno : ¬ (decide (250 ≤ slot) || (e.laneCounted a b q).canLead) = true := by
    simp only [hl', Bool.or_false, decide_eq_true_eq]
    omega
  exact ⟨_, hrun, by rw [if_neg hno]; rfl⟩

theorem timeCorrectionAnnouncement_waits {dt : Nat} {h : LaneHdr} {s e : State} (he : s.elapse dt = e) (ht : Taken e h)
    (hl : e.canLead = false) (f : Nat) (c : Int) (cause : Nat) :
    ∃ t, exec (.timeCorrectionAnnouncement dt h f c cause) s = .next t ∧ t.clk = { e.clk with corr := some ⟨c, f, cause, none⟩ } := by
  obtain ⟨a, b, q, hrun⟩ := execLane_counted he ht (fun s =>
    if s.canLead then s else s.modClk (fun k => { k with corr := some ⟨c, f, cause, none⟩ }))
  have hl' : ¬ (e.laneCounted a b q).canLead = true := Bool.eq_false_iff.mp hl
  exact ⟨_, hrun, by rw [if_neg hl']; rfl⟩

/-- The end of a picture leaves every region but its own, and that one's next picture. -/
theorem panelEnd_region (s : State) (t r : Nat) (u : PnlRun) : (s.panelEnd t r u).pnl.region =
    tmod s.pnl.region r {} (fun g => { g with run := none, updates := g.updates + 1, lastDone := t }) := by
  unfold State.panelEnd
  extract_lets driven s1 s2 s3
  have h3 : s3.pnl.region = s2.pnl.region := by
    refine foldl_reading (fun v => v.pnl.region) (fun v x => ?_) s2
    obtain ⟨k, -, -, diff⟩ := x
    dsimp only
    split
    · rfl
    · split
      · rw [raise_pnl]
        rfl
      · rfl
  refine (foldl_reading (fun v => v.pnl.region) (fun v op => ?_) s3).trans h3
  dsimp only
  split
  · rfl
  · split
    · rw [raise_pnl, complete_pnl]
      rfl
    · rfl

/-- A state whose region `r` holds no request, and whose other regions are those of another state. -/
def State.StartedIn (t s : State) (r : Nat) : Prop := (t.region r).queued = none ∧ ∀ k, k ≠ r → t.region k = s.region k

/-- A picture that starts takes the region's queue, and touches no other region. -/
theorem panelStart_startedIn (s : State) (t f r band picture : Nat) (refresh : Bool) (host : List Nat) (mine : Bool) :
    (s.panelStart t f r band picture refresh host mine).StartedIn s r := by
  unfold State.panelStart
  split
  next segs pic no hplan =>
  extract_lets frames u s1 s2 s3 s4
  have h2 : s2.pnl.region = s1.pnl.region := by
    exact foldl_reading (f := fun v n => v.modPnl (fun p => { p with uses := tmod p.uses n 0 (satInc 32) }))
      (fun v => v.pnl.region) (fun _ _ => rfl) s1
  have h3 : s3.pnl.region = s1.pnl.region := by
    simp only [s3]
    split
    · have hpnl : (s2.announce 8 [r, band, f, picture, b2n refresh]).pnl = s2.pnl :=
        kept (m := 0) (fun _ _ => announce_view s2 _ _) .pnl (by decide)
      rw [hpnl, h2]
    · exact h2
  have h4 : s4.pnl.region = s1.pnl.region :=
    (foldl_reading (fun v => v.pnl.region) (fun v x => congrArg Panel.region (raise_pnl v _ _)) s3).trans h3
  have hstart : ∀ v : State, v.pnl.region = s1.pnl.region → v.StartedIn s r := fun v hv => by
    have h1 : s1.pnl.region = tmod s.pnl.region r {} (fun g => { g with run := some u, queued := none }) := rfl
    refine ⟨?_, fun k hk => ?_⟩
    · rw [State.region, hv, h1, tget_tmod_self]
    · rw [State.region, hv, h1, tget_tmod_ne _ hk]
      rfl
  obtain ⟨hq, hk⟩ := hstart s4 h4
  split
  · have hend := panelEnd_region s4 t r u
    exact ⟨by rw [State.region, hend, tget_tmod_self]; exact hq,
      fun k hkr => by rw [State.region, hend, tget_tmod_ne _ hkr]; exact hk k hkr⟩
  · exact ⟨hq, hk⟩

theorem panelStartAnnouncement_follows {dt r : Nat} {h : LaneHdr} {s e : State} (he : s.elapse dt = e) (ht : Taken e h) (hr : r < 8)
    (hp : e.has .pnl = true) (ho : e.panelOwner = false) (band start pic : Nat) (refresh : Bool) :
    ∃ t, exec (.panelStartAnnouncement dt h r band start pic refresh) s = .next t ∧ (t.region r).queued = none ∧
      ∀ k, k ≠ r → t.region k = e.region k := by
  obtain ⟨a, b, q, hrun⟩ := execLane_counted he ht (fun s => if 8 ≤ r then s else s.panelTrack r band start pic refresh)
  have htrack : ∃ host, (e.laneCounted a b q).panelTrack r band start pic refresh =
      (e.laneCounted a b q).panelStart (start * 20000000) start r band pic refresh host false := by
    have hp' : (e.laneCounted a b q).has .pnl = true := hp
    have ho' : (e.laneCounted a b q).panelOwner = false := ho
    simp only [State.panelTrack, hp', ho', Nat.not_le.mpr hr, decide_false, Bool.not_true, Bool.or_self, Bool.false_eq_true, if_false]
    exact ⟨_, rfl⟩
  obtain ⟨host, hhost⟩ := htrack
  obtain ⟨hq, hk⟩ := panelStart_startedIn (e.laneCounted a b q) (start * 20000000) start r band pic refresh host false
  refine ⟨_, hrun, ?_⟩
  rw [if_neg (Nat.not_le.mpr hr), hhost]
  exact ⟨hq, hk⟩

/-! ## MAILBOX_FORWARD_FRAME (R69) -/

/-- The partner's response frees the mailbox and goes to the request's host. -/
theorem mailboxForwardFrame_returns {dt box : Nat} {f : Forward} {d : List Byte} {h : LaneHdr} {s e : State} (he : s.elapse dt = e)
    (ht : Taken e h) (hf : (tget e.mbx.boxes box {}).fwd = some f) (hd : beAt d 0x18 4 = f.counter) (hc : e.mbx.restarting = none) :
    ∃ t, exec (.mailboxForwardFrame dt h (.response box d)) s = .next t ∧ (tget t.mbx.boxes box {}).fwd = none ∧
      t.out = [.mailbox f.via 47210 f.addr f.port.toNat d] := by
  obtain ⟨a, b, q, hrun⟩ := execLane_counted he ht (fun s => s.forwardAnswer box d)
  have hout : e.out = [] := by
    rw [← he]
    rfl
  have hf' : (tget (e.laneCounted a b q).mbx.boxes box {}).fwd = some f := hf
  have hc' : (e.laneCounted a b q).mbx.restarting = none := hc
  refine ⟨_, hrun, ?_⟩
  simp only [State.forwardAnswer, hf', hd, hc', ne_eq, not_true_eq_false, if_false, Option.isSome_none, Bool.false_eq_true]
  refine ⟨?_, ?_⟩
  · have hbox := tget_tmod_self e.mbx.boxes box {} (fun b => { b with fwd := none })
    exact congrArg Box.fwd hbox
  · rw [emit_out]
    exact congrArg (· ++ [_]) hout

end Sys2Proof.Machine
end

section
/-!
PROOFS. The frames by which two modules meet and follow each other (R260, R273).
-/
namespace Sys2Proof.Machine

/-! ## ACCESSION_FRAME (R273) -/

/-- What a pair agrees on is written to the pair; the rest of it stays. -/
theorem agreeFeatures_pair (s : State) (a : AccessIn) : (s.agreeFeatures a).pair = { s.pair with
    feature := min s.feature a.feature, revision := min s.syncMax a.revMax, options := optionMask s.ident.variant &&& a.options
    loneAo := bit (optionMask s.ident.variant) 1 && !bit a.options 1 } := by
  unfold State.agreeFeatures
  extract_lets mine mask s1 s2
  have h2 : s2.pair = s1.pair := by
    simp only [s2]
    split
    · exact raise_pair s1 _ _
    · rfl
  refine (foldl_reading State.pair (fun t k => ?_) s2).trans h2
  split
  · exact raise_pair t _ _
  · rfl

theorem agreeFeatures_clk (s : State) (a : AccessIn) : (s.agreeFeatures a).clk = s.clk :=
  kept (fun _ hm => agreeFeatures_view s a hm) .clk (by decide)

theorem agreeFeatures_copyBytes (s : State) (a : AccessIn) : (s.agreeFeatures a).copyBytes = s.copyBytes := by
  obtain ⟨-, -, -, hprog, -⟩ : Part.same s (s.agreeFeatures a) .program :=
    kept (fun _ hm => agreeFeatures_view s a hm) .program (by decide)
  simp only [State.copyBytes, State.decl, hprog]

/-- The copy set only numbers frames. -/
theorem sendCopySet_pair (s : State) : s.sendCopySet.pair = { s.pair with seqOut := s.sendCopySet.pair.seqOut } :=
  (kept (m := 0) (fun _ _ => sendCopySet_view s) .pair (by decide) : Part.same s _ .pair)

/-- The state with the partner's identity, after this module's own items have gone out. -/
def State.introduced (s : State) (a : AccessIn) : State :=
  (s.modPair (fun p => { p with partner := { p.partner with serial := a.serial, release := a.release, schema := a.schema } })).sendAccession false

theorem introduced_after (s : State) (a : AccessIn) : ∃ n o, s.introduced a =
    (s.modPair (fun p => { p with partner := { p.partner with serial := a.serial, release := a.release, schema := a.schema } })).afterFrame
      n o :=
  lane_eq _ _ _ _

section
variable {s : State} {a : AccessIn} (hasks : a.asks = true) (hj : s.pair.joining = false)
include hasks hj

theorem accession_asked : s.accession a = if s.accessionCause a s.mode ≠ 0 then
      (s.introduced a).modPair (fun p => { p with refuseCause := s.accessionCause a s.mode })
    else (((s.introduced a).agreeFeatures a).modPair (fun p => { p with
      joining := true, refuseCause := 0, copy := some ⟨s.tick, false, s.copyBytes⟩ })).sendCopySet := by
  obtain ⟨n, o, hi⟩ := introduced_after s a
  have hcause : (s.introduced a).accessionCause a (s.introduced a).mode = s.accessionCause a s.mode := by
    rw [hi]
    rfl
  have hjoin : (s.introduced a).pair.joining = false := by
    rw [hi]
    exact hj
  have htick : ((s.introduced a).agreeFeatures a).tick = s.tick := by
    rw [State.tick, agreeFeatures_clk, hi]
    rfl
  have hbytes : ((s.introduced a).agreeFeatures a).copyBytes = s.copyBytes := by
    rw [agreeFeatures_copyBytes, hi]
    rfl
  unfold State.accession
  rw [if_pos hasks]
  change (if ((s.introduced a).accessionCause a (s.introduced a).mode ≠ 0 ∨ (s.introduced a).pair.joining = true) then
    (s.introduced a).modPair (fun p =>
      { p with
        refuseCause := if (s.introduced a).accessionCause a (s.introduced a).mode = 0 then p.refuseCause
          else (s.introduced a).accessionCause a (s.introduced a).mode })
    else (((s.introduced a).agreeFeatures a).modPair (fun p =>
      { p with
        joining := true, refuseCause := 0
        copy := some ⟨((s.introduced a).agreeFeatures a).tick, false, ((s.introduced a).agreeFeatures a).copyBytes⟩ })).sendCopySet) = _
  rw [hcause, hjoin, htick, hbytes]
  by_cases hc : s.accessionCause a s.mode = 0
  · rw [hc]
    rfl
  · simp only [hc, ne_eq, not_false_eq_true, true_or, if_true, if_false]

/-- Where every rule is met the copy begins. -/
theorem accession_copies (hc : s.accessionCause a s.mode = 0) :
    (s.accession a).pair.joining = true ∧ (s.accession a).pair.refuseCause = 0 ∧
      (s.accession a).pair.copy = some ⟨s.tick, false, s.copyBytes⟩ ∧ (s.accession a).pair.revision = min s.syncMax a.revMax := by
  obtain ⟨n, o, hi⟩ := introduced_after s a
  have hrev : min (s.introduced a).syncMax a.revMax = min s.syncMax a.revMax := by
    rw [hi]
    rfl
  rw [accession_asked hasks hj, if_neg (not_not.mpr hc), sendCopySet_pair, modPair_pair, agreeFeatures_pair, hrev]
  exact ⟨rfl, rfl, rfl, rfl⟩

/-- Where a rule is not met its cause is kept, and nothing begins. -/
theorem accession_refuses (hc : s.accessionCause a s.mode ≠ 0) :
    (s.accession a).pair.joining = false ∧ (s.accession a).pair.refuseCause = s.accessionCause a s.mode := by
  obtain ⟨n, o, hi⟩ := introduced_after s a
  rw [accession_asked hasks hj, if_pos hc, hi]
  exact ⟨hj, rfl⟩

end

theorem accessionFrame_meets {dt : Nat} {a : AccessIn} {h : LaneHdr} {s e : State} (he : s.elapse dt = e) (ht : Taken e h)
    (hasks : a.asks = true) (hj : e.pair.joining = false) :
    ∃ t, exec (.accessionFrame dt h a) s = .next t ∧
      (e.accessionCause a e.mode = 0 → t.pair.joining = true ∧ t.pair.refuseCause = 0 ∧
        t.pair.copy = some ⟨e.tick, false, e.copyBytes⟩ ∧ t.pair.revision = min e.syncMax a.revMax) ∧
      (e.accessionCause a e.mode ≠ 0 → t.pair.joining = false ∧ t.pair.refuseCause = e.accessionCause a e.mode) := by
  obtain ⟨x, y, q, hrun⟩ := execLane_counted he ht (fun s => s.accession a)
  exact ⟨_, hrun, accession_copies (s := e.laneCounted x y q) hasks hj, accession_refuses (s := e.laneCounted x y q) hasks hj⟩

/-! ## STATUS_FRAME (R260) -/

/-- What a status frame tells of the partner, and of its clock. -/
structure Told (t : State) (x : StatusIn) : Prop where
  gone : t.pair.gone = false
  mode : t.pair.partner.mode = some (Mode.ofNum x.mode)
  role : t.pair.partner.role = Role.ofNum x.role
  loaded : t.pair.partner.loaded = x.loaded
  flag : t.pair.partner.flag = x.flag
  offset : t.clk.lanePeerOffset = x.offset

/-- What keeps the partner's state, its absence and the lane's clock offset keeps what was told. -/
theorem Told.of_same {s t : State} {x : StatusIn} (h : Told s x) (hgone : t.pair.gone = s.pair.gone)
    (hpartner : t.pair.partner = s.pair.partner) (hclk : t.clk.lanePeerOffset = s.clk.lanePeerOffset) : Told t x :=
  ⟨hgone.trans h.gone, hpartner ▸ h.mode, hpartner ▸ h.role, hpartner ▸ h.loaded, hpartner ▸ h.flag, hclk.trans h.offset⟩

theorem servo_lanePeerOffset (s : State) : s.servo.clk.lanePeerOffset = s.clk.lanePeerOffset := by
  unfold State.servo
  rfl

theorem servo_pair (s : State) : s.servo.pair = s.pair := by
  unfold State.servo
  rfl

theorem Told.canRefresh {s : State} {x : StatusIn} (h : Told s x) : Told s.canRefresh x := by
  have hpair : Part.same s s.canRefresh .pair := kept (fun _ hm => canRefresh_view s hm) .pair (by decide)
  have hclk : s.canRefresh.clk = s.clk := kept (fun _ hm => canRefresh_view s hm) .clk (by decide)
  exact h.of_same (congrArg Pair.gone hpair :) (congrArg Pair.partner hpair :) (congrArg Clk.lanePeerOffset hclk)

theorem Told.lane {s : State} {x : StatusIn} (h : Told s x) (k : Nat) (l : List Nat) (b : List Byte) : Told (s.lane k l b) x := by
  obtain ⟨n, o, hl⟩ := lane_eq s k l b
  rw [hl]
  exact h.of_same rfl rfl rfl

theorem Told.rejoinNow {s : State} {x : StatusIn} (h : Told s x) : Told s.rejoinNow x := by
  unfold State.rejoinNow
  split
  · unfold State.askJoin State.sendAccession
    exact Told.lane (s := (s.modMu (fun u => { u with joinOp := none })).modPair (fun p => { p with joining := true })) (h.of_same rfl rfl rfl) _ _ _
  · exact h

theorem Told.serveResync {s : State} {x : StatusIn} (h : Told s x) : Told s.serveResync x := by
  unfold State.serveResync
  split
  · have hclk : ∀ u : State, u.sendCopySet.clk = u.clk := fun u => kept (m := 0) (fun _ _ => sendCopySet_view u) .clk (by decide)
    exact h.of_same (by rw [sendCopySet_pair]; rfl) (by rw [sendCopySet_pair]; rfl) (by rw [hclk]; rfl)
  · exact h

theorem statusIn_told (s : State) (x : StatusIn) : Told (s.statusIn x) x := by
  unfold State.statusIn
  extract_lets s1 s2 s3 s4
  have h2 : Told s2 x := ⟨rfl, rfl, rfl, rfl, rfl, rfl⟩
  have h3 : Told s3 x := by
    simp only [s3]
    split
    · exact h2.of_same (by rw [servo_pair]; rfl) (by rw [servo_pair]; rfl) (servo_lanePeerOffset _)
    · exact h2
  have h4 : Told s4 x := by
    simp only [s4]
    split
    · exact h3.of_same rfl rfl rfl
    · exact h3
  exact h4.canRefresh.rejoinNow.serveResync

theorem statusFrame_tells {dt : Nat} {h : LaneHdr} {s e : State} (he : s.elapse dt = e) (ht : Taken e h) (x : StatusIn) :
    ∃ t, exec (.statusFrame dt h x) s = .next t ∧ Told t x := by
  obtain ⟨a, b, q, hrun⟩ := execLane_counted he ht (fun s => s.statusIn x)
  exact ⟨_, hrun, statusIn_told _ x⟩

end Sys2Proof.Machine
end

section
open Sys2Proof Sys2Proof.Machine

/-- Settles O20, row by row: the state in which a frame is taken differs from the one before it only in what the lanes have counted, which
no effect of a frame sees. -/
theorem pairFrameRowsComplete : Obligations.PairFrameRowsComplete := by
  refine ⟨fun dt n l ep o b r c h s e he ht hn hc htake => ⟨copyDataFrame_line he ht hc htake hn l b,
      copyDataFrame_stream he ht hc htake hn ep o, copyDataFrame_loop he ht hc htake r⟩,
    fun _ _ _ _ _ he ht hs hw hp hj hf => switchAnnouncement_confirms he ht hs hw hp hj hf,
    fun _ _ _ _ _ _ he ht hw hp hat => switchAnnouncement_refused he ht hw hp hat,
    fun _ _ _ _ _ he ht hw hr => switchAnnouncement_resumes he ht hw hr,
    fun _ f _ _ _ he ht hm hd => departureNotice_names he ht f hm hd,
    fun _ _ _ _ _ he ht hs hr => commandRelay_schedules he ht hs hr,
    fun _ _ _ _ _ _ he ht hs hk hp hslot => commandRelay_refuses he ht hs hk hp hslot,
    fun _ _ _ _ _ _ he ht hs hx hst htarget hc => commandRelay_answers he ht hs hx hst htarget hc,
    fun _ _ _ _ _ he hs hc hl hcode => pairCommandApply_queues he hs hc hl hcode,
    fun _ f _ st rev per _ _ _ he ht hs hl => stationStateAnnouncement_waits he ht hs hl f st rev per,
    fun _ f cause c _ _ _ he ht hl => timeCorrectionAnnouncement_waits he ht hl f c cause,
    fun _ _ band start pic refresh _ _ _ he ht hr hp ho => panelStartAnnouncement_follows he ht hr hp ho band start pic refresh,
    fun _ _ _ _ _ _ _ he ht hf hd hc => mailboxForwardFrame_returns he ht hf hd hc,
    fun _ _ _ _ _ he ht hasks hj => accessionFrame_meets he ht hasks hj, fun _ x _ _ _ he ht => ?_⟩
  obtain ⟨t, hrun, hgone, hmode, hrole, hloaded, hflag, hoffset⟩ := statusFrame_tells he ht x
  exact ⟨t, hrun, hgone, hmode, hrole, hloaded, hflag, hoffset⟩

end

section
/-!
PROOFS. What the changes that a lost partner brings leave alone (R257, R258, R277, R279): time, mode and role, lanes and heartbeat, and the
events that tell of a loss.
-/
namespace Sys2Proof.Machine

/-- What the rows on a lost partner say of a state: its time and mode unit, its lanes and heartbeat, and the sources of EV033, EV034, EV035
and EV043. -/
structure Bond where
  now : Nat
  mode : Mode
  role : Role
  slot : Nat
  auto : Option AutoChange
  lanes : Lane × Lane
  seqIn : Option U32
  heartbeat : Bool
  lastToggle : Nat
  gone : Bool
  goneCount : U32
  sync : Bool
  isolation : Option Nat
  lane : EventSrc
  lanesLost : EventSrc
  silent : EventSrc
  isolated : EventSrc

def State.bond (s : State) : Bond where
  now := s.now
  mode := s.mode
  role := s.role
  slot := s.mu.slot
  auto := s.mu.auto
  lanes := (s.pair.sl0, s.pair.sl1)
  seqIn := s.pair.seqIn
  heartbeat := s.pair.heartbeat
  lastToggle := s.pair.lastToggle
  gone := s.pair.gone
  goneCount := s.pair.goneCount
  sync := s.pair.sync
  isolation := s.pair.isolation
  lane := tget s.ev.src 33 {}
  lanesLost := tget s.ev.src 34 {}
  silent := tget s.ev.src 35 {}
  isolated := tget s.ev.src 43 {}

theorem bond_ite {c : Prop} [Decidable c] {a b : State} {V : Bond} (ha : a.bond = V) (hb : b.bond = V) :
    (if c then a else b).bond = V := by
  split
  · exact ha
  · exact hb

theorem foldl_bond {α : Type} {l : List α} {f : State → α → State} {s : State} (hf : ∀ t a, (f t a).bond = t.bond) :
    (l.foldl f s).bond = s.bond := foldl_reading State.bond hf s

/-- Time, mode unit, pair and the sources of four events are all that the bond reads. -/
theorem bond_of_parts {s t : State} (hclk : t.clk = s.clk) (hmu : t.mu = s.mu) (hpair : Part.same s t .pair)
    (hev : ∀ j ∈ [33, 34, 35, 43], tget t.ev.src j {} = tget s.ev.src j {}) : t.bond = s.bond := by
  have hp : t.pair = { s.pair with seqOut := t.pair.seqOut } := hpair
  unfold State.bond State.now State.mode State.role
  rw [hclk, hmu, hp, hev 33 (by decide), hev 34 (by decide), hev 35 (by decide), hev 43 (by decide)]

theorem bond_of_view {m : Nat} {s t : State} (h : ∀ hid, Sub m hid → t.view hid = s.view hid) (hm : m &&& 0x400C = 0)
    (hev : ∀ j ∈ [33, 34, 35, 43], tget t.ev.src j {} = tget s.ev.src j {}) : t.bond = s.bond := by
  have hbit : ∀ i, (0x400C : Nat).testBit i = true → m.testBit i = false := fun i hi => by
    have hand := congrArg (fun k => k.testBit i) hm
    simpa [Nat.testBit_and, hi] using hand
  exact bond_of_parts (kept h .clk (hbit 2 (by decide))) (kept h .mu (hbit 3 (by decide))) (kept h .pair (hbit 14 (by decide))) hev

/-! ## Events, completions, frames -/

theorem raise_bond (s : State) {k : Nat} (d : List (Nat × Nat)) (hk : k ∉ [33, 34, 35, 43]) : (s.raise k d).bond = s.bond :=
  bond_of_view (m := 0) (fun _ _ => raise_view s k d) (by decide) fun _ hj => raise_src_ne d (ne_of_mem_of_not_mem hj hk)

theorem raiseMand_bond (s : State) {k : Nat} (d : List (Nat × Nat)) (hk : k ∉ [33, 34, 35, 43]) : (s.raiseMand k d).bond = s.bond :=
  bond_of_view (m := 0) (fun _ _ => raiseMand_view s k d) (by decide) fun _ hj => raiseMand_src_ne d (ne_of_mem_of_not_mem hj hk)

theorem completeOpt_bond (s : State) (x : Option Nat) (st : Status) (b : List Byte) : (s.completeOpt x st b).bond = s.bond :=
  bond_of_view (fun _ h => completeOpt_view s x st b h) (by decide) fun _ _ => by rw [completeOpt_ev]

theorem complete_bond (s : State) (x : Nat) (st : Status) (b : List Byte) : (s.complete x st b).bond = s.bond :=
  completeOpt_bond s (some x) st b

theorem lane_bond (s : State) (k : Nat) (l : List Nat) (b : List Byte) : (s.lane k l b).bond = s.bond :=
  bond_of_view (m := 0) (fun _ _ => lane_view s k l b) (by decide) fun _ _ => by rw [lane_ev]

end Sys2Proof.Machine
end

section
/-!
PROOFS. What passes the lead on, and what ends the wait for a partner's digests, leaves the bond (R257, R277).
-/
namespace Sys2Proof.Machine

/-! ## Buses and terminals -/

theorem canDrop_bond (s : State) (c b : Nat) (st : Status) (cause sof : Nat) (next : Bool) :
    (s.canDrop c b st cause sof next).bond = s.bond := by
  unfold State.canDrop
  split
  · rfl
  · exact completeOpt_bond _ _ _ _

theorem canYield_bond (s : State) (c : Nat) : (s.canYield c).bond = s.bond := by
  unfold State.canYield State.canBegun State.takeFree
  exact foldl_bond fun t b => bond_ite rfl (canDrop_bond _ _ _ _ _ _ _)

theorem canRefresh_bond (s : State) : s.canRefresh.bond = s.bond := by
  unfold State.canRefresh
  refine foldl_bond fun t c => ?_
  extract_lets was now u v
  refine bond_ite rfl ?_
  clear_value now
  cases now with
  | none => rfl
  | some k => exact (raise_bond v _ (by decide)).trans (bond_ite (canYield_bond u c) rfl)

theorem canLoad_bond (s : State) (c b id flags : Nat) (data : List Byte) (op : Option (Nat × U32 × Nat)) :
    (s.canLoad c b id flags data op).bond = s.bond := by
  unfold State.canLoad State.canBegun State.takeFree
  refine bond_ite rfl ?_
  extract_lets new
  split
  · rfl
  · exact bond_ite rfl rfl

theorem canRelease_bond (s : State) (tx : List (Nat × List Byte)) : (s.canRelease tx).bond = s.bond := by
  unfold State.canRelease
  exact bond_ite (foldl_bond fun t x => canLoad_bond t _ _ _ _ _ _) rfl

theorem canTake_bond (s : State) : s.canTake.bond = s.bond := by
  unfold State.canTake
  exact foldl_bond fun _ _ => rfl

theorem plantSend_bond (s : State) (src addr port : Nat) (b : List Byte) : (s.plantSend src addr port b).bond = s.bond := by
  unfold State.plantSend
  extract_lets ps
  refine bond_ite rfl ?_
  rw [State.emit]
  exact foldl_bond fun _ _ => rfl

theorem sendPayload_bond (s : State) (rep : Bool) (n osn : Nat) (p : Payload) : (s.sendPayload rep n osn p).bond = s.bond := by
  unfold State.sendPayload
  exact foldl_bond fun t x => plantSend_bond t _ _ _ _

theorem driveOutputs_bond (s : State) (ao : List (Nat × Nat)) (dos : List (Nat × Bool)) : (s.driveOutputs ao dos).bond = s.bond :=
  bond_of_view (fun _ h => driveOutputs_view s ao dos h) (by decide) fun _ _ => by rw [driveOutputs_ev]

theorem excLead_bond (s : State) : s.excLead.bond = s.bond := by
  unfold State.excLead
  exact foldl_bond fun _ _ => bond_ite rfl rfl

theorem excOff_bond (s : State) : s.excOff.bond = s.bond := by
  unfold State.excOff
  exact foldl_bond fun _ _ => bond_ite rfl rfl

theorem hartAttempt_bond (s : State) (m : Nat) (x : HartTx) : (s.hartAttempt m x).bond = s.bond := by
  unfold State.hartAttempt
  exact bond_ite rfl (bond_ite rfl rfl)

theorem hartHandover_bond (s : State) (gain : Bool) : (s.hartHandover gain).bond = s.bond := by
  unfold State.hartHandover
  refine foldl_bond fun t m => ?_
  extract_lets h op drop u
  have hu : u.bond = t.bond := bond_ite (completeOpt_bond _ _ _ _) rfl
  split
  · exact bond_ite ((hartAttempt_bond _ _ _).trans hu) hu
  · exact hu

theorem panelAbandon_bond (s : State) : s.panelAbandon.2.bond = s.bond := by
  unfold State.panelAbandon
  refine foldl_snd_reading State.bond (fun z r => ?_) _ _
  dsimp only
  split <;> rfl

theorem passLead_bond (s : State) (led mastered owned : Bool) (cause : Nat) : (s.passLead led mastered owned cause).bond = s.bond := by
  unfold State.passLead
  extract_lets u v
  have hu : u.bond = s.bond := bond_ite (hartHandover_bond s _) rfl
  have hv : v.bond = s.bond := bond_ite ((panelAbandon_bond u).trans hu) hu
  exact bond_ite ((excLead_bond v).trans hv) hv

theorem raiseShares_bond (s : State) (cause : Nat) : (s.raiseShares cause).bond = s.bond := by
  unfold State.raiseShares
  exact bond_ite rfl (raise_bond _ _ (by decide))

theorem trimReleaseAll_bond (s : State) : s.trimReleaseAll.bond = s.bond := by
  unfold State.trimReleaseAll
  exact foldl_bond fun _ _ => rfl

theorem injStop_bond (s : State) (g : Nat) : (s.injStop g).bond = s.bond := by
  unfold State.injStop
  exact bond_ite (completeOpt_bond _ _ _ _) rfl

theorem injStopAll_bond (s : State) : s.injStopAll.bond = s.bond := by
  unfold State.injStopAll
  exact foldl_bond injStop_bond

/-! ## Points and forces -/

theorem putBp_bond (s : State) (p : Nat) (v : Bool) (t : Nat) : (s.putBp p v t).bond = s.bond :=
  bond_of_view (fun _ h => putBp_view s p v t h) (by decide) fun _ _ => by rw [putBp_ev]

theorem publishBp_bond (s : State) (kind p : Nat) (v : Bool) (t : Nat) : (s.publishBp kind p v t).bond = s.bond :=
  bond_of_view (fun _ h => publishBp_view s kind p v t h) (by decide) fun _ _ => by rw [publishBp_ev]

theorem catDo_bond (s : State) (m : Nat) (v : Bool) : (s.catDo m v).bond = s.bond :=
  bond_of_view (fun _ h => catDo_view s m v h) (by decide) fun _ _ => by rw [catDo_ev]

theorem disarmNear_bond (s : State) (n : Nat) : (s.disarmNear n).bond = s.bond :=
  bond_of_view (fun _ h => disarmNear_view s n h) (by decide) fun _ _ => by rw [disarmNear_ev]

theorem liftForce_bond (s : State) (k : Nat) : (s.liftForce k).bond = s.bond := by
  unfold State.liftForce
  extract_lets f
  split
  · rfl
  · exact bond_ite rfl (putBp_bond _ _ _ _)

theorem endForces_bond (s : State) : s.endForces.bond = s.bond := by
  unfold State.endForces
  exact foldl_bond fun t k => liftForce_bond t k

theorem installForce_bond (s : State) (k : Nat) : (s.installForce k).bond = s.bond := by
  unfold State.installForce
  extract_lets f u v
  have hv : v.bond = s.bond := bond_ite rfl rfl
  exact bond_ite rfl (bond_ite hv (bond_ite hv ((putBp_bond v _ _ _).trans hv)))

theorem installForces_bond (s : State) : s.installForces.bond = s.bond := by
  unfold State.installForces
  exact bond_ite ((foldl_bond installForce_bond).trans (endForces_bond s)) (endForces_bond s)

theorem refreshForces_bond (s : State) : s.refreshForces.bond = s.bond := by
  unfold State.refreshForces
  extract_lets on tk u tk'
  have hu : u.bond = s.bond := bond_ite rfl ((endForces_bond _).trans (foldl_bond liftForce_bond))
  exact bond_ite (raise_bond _ _ (by decide)) (bond_ite hu rfl)

/-! ## What waits for the partner, and what divides from it -/

theorem release_bond (s : State) (n : Nat) (h : Held) : (s.release n h).bond = s.bond := by
  unfold State.release
  extract_lets u v p
  refine bond_ite rfl ?_
  calc ((State.canRelease (v.sendPayload false n h.osn p) h.tx).modTask n (fun k => { k with payload := some p })).bond
      = (State.canRelease (v.sendPayload false n h.osn p) h.tx).bond := rfl
    _ = (v.sendPayload false n h.osn p).bond := canRelease_bond _ _
    _ = v.bond := sendPayload_bond _ _ _ _ _
    _ = u.bond := driveOutputs_bond _ _ _
    _ = s.bond := rfl

theorem releaseAll_bond (s : State) : s.releaseAll.bond = s.bond := by
  unfold State.releaseAll
  exact foldl_bond fun t n => foldl_bond fun u h => release_bond u n h

theorem withhold_bond (s : State) (n cause osn : Nat) : (s.withhold n cause osn).bond = s.bond := by
  unfold State.withhold
  extract_lets come u v
  have hv : v.bond = s.bond := bond_ite (lane_bond u _ _ _) rfl
  clear_value come
  cases come with
  | none => exact hv
  | some d => exact (driveOutputs_bond v d.ao d.dos).trans hv

theorem areasFresh_bond (s : State) : s.areasFresh.bond = s.bond := by
  unfold State.areasFresh
  exact foldl_bond fun _ _ => rfl

theorem takeFresh_bond (s : State) : s.takeFresh.bond = s.bond := by
  refine Eq.trans ?_ (areasFresh_bond s)
  unfold State.takeFresh State.areasFresh
  dsimp only [State.bond, State.now, State.mode, State.role]

theorem resetSoak_bond (s : State) : s.resetSoak.bond = s.bond := rfl

theorem resync_bond (s : State) : s.resync.bond = s.bond := by
  unfold State.resync
  refine bond_ite rfl ?_
  extract_lets u v
  have hv : v.bond = u.bond := foldl_bond fun t n => foldl_bond fun w h => withhold_bond w n 3 h.osn
  clear_value v
  exact (resetSoak_bond _).trans ((takeFresh_bond v).trans hv)

theorem withdraw_bond (s : State) (m : Mode) (f : Nat) : (s.withdraw m f).bond = s.bond := by
  unfold State.withdraw State.announce
  exact (completeOpt_bond _ _ _ _).trans (lane_bond _ _ _ _)

theorem diverge_bond (s : State) (cause task osn : Nat) : (s.diverge cause task osn).bond = s.bond := by
  unfold State.diverge
  refine bond_ite rfl ?_
  extract_lets w recent lim t u v
  have hv : v.bond = s.bond := raise_bond t _ (by decide)
  exact bond_ite ((withdraw_bond v _ _).trans hv) (bond_ite ((resync_bond v).trans hv) hv)

theorem raiseFlag_bond (s : State) (cause : Nat) : (s.raiseFlag cause).bond = s.bond := by
  unfold State.raiseFlag
  exact bond_ite (resync_bond _) rfl

/-! ## Starts of tasks -/

theorem agree_bond (s : State) (n osn t0 : Nat) (c : Option Cycle) (rs hs : List Nat) : (s.agree n osn t0 c rs hs).bond = s.bond := by
  unfold State.agree
  refine bond_ite ?_ rfl
  cases c <;> exact lane_bond _ _ _ _

theorem skipStart_bond (s : State) (n osn : Nat) (told : Bool) : (s.skipStart n osn told).bond = s.bond := by
  unfold State.skipStart
  exact bond_ite (raise_bond _ _ (by decide)) rfl

theorem loseCatchUp_bond (s : State) (n osn : Nat) : (s.loseCatchUp n osn).bond = s.bond := by
  have hskip : ∀ (t : State) (o : Nat), ((t.skipStart n o true).withhold n 5 o).bond = t.bond :=
    fun t o => (withhold_bond _ _ _ _).trans (skipStart_bond t n o true)
  unfold State.loseCatchUp
  extract_lets s1 s2 s3 s4 s5
  have h1 : s1.bond = s.bond := foldl_bond fun t c => hskip t c.osn
  have h3 : s3.bond = s.bond := (raise_bond s2 _ (by decide)).trans h1
  have h5 : s5.bond = s.bond := (hskip s4 osn).trans h3
  exact bond_ite ((raiseFlag_bond _ _).trans h5) (bond_ite ((diverge_bond _ _ _ _).trans h5) h5)

theorem openCycle_bond (s : State) (n : Nat) (c : Cycle) : (s.openCycle n c).bond = s.bond := by
  unfold State.openCycle
  exact bond_ite rfl (bond_ite (bond_ite rfl (loseCatchUp_bond s n c.osn)) rfl)

theorem takeAux_bond (s : State) (n : Nat) : (s.takeAux n).2.2.bond = s.bond := by
  unfold State.takeAux
  extract_lets d
  split
  next rs s1 h1 =>
  extract_lets rs'
  split
  next hs s2 h2 =>
  have hs1 : s1.bond = s.bond :=
    (congrArg (fun z => z.2.bond) h1).symm.trans (foldl_snd_reading State.bond (by intros; rfl) _ _)
  have hs2 : s2.bond = s1.bond :=
    (congrArg (fun z => z.2.bond) h2).symm.trans (foldl_snd_reading State.bond (by intros; rfl) _ _)
  exact hs2.trans hs1

theorem leadStart_bond (s : State) (n t0 : Nat) : (s.leadStart n t0).bond = s.bond := by
  unfold State.leadStart
  extract_lets osn op s1 s2 s3 s4 c
  have h2 : s2.bond = s1.bond := by
    clear_value op
    cases op with
    | none => rfl
    | some x => exact foldl_bond fun t id => complete_bond t id _ _
  have hskip : ∀ told, (s2.skipStart n osn told).bond = s.bond := fun told => (skipStart_bond s2 n osn told).trans h2
  refine bond_ite ?_ (bond_ite ((agree_bond _ _ _ _ _ _ _).trans (hskip false)) (bond_ite ((agree_bond _ _ _ _ _ _ _).trans (hskip true))
    (bond_ite ((agree_bond _ _ _ _ _ _ _).trans ((loseCatchUp_bond s2 n osn).trans h2)) ?_)))
  · split
    · exact (sendPayload_bond _ _ _ _ _).trans (hskip false)
    · exact hskip false
  · exact (openCycle_bond _ _ _).trans ((agree_bond _ _ _ _ _ _ _).trans ((takeAux_bond _ _).trans ((installForces_bond s2).trans h2)))

theorem runAwaited_bond (s : State) : s.runAwaited.bond = s.bond := by
  unfold State.runAwaited
  refine foldl_bond fun t n => ?_
  split
  · exact leadStart_bond t n _
  · rfl

end Sys2Proof.Machine
end

section
/-!
PROOFS. What a lost partner, a change of role and a transition between run modes make of the bond (R39, R257, R277).
-/
namespace Sys2Proof.Machine

/-! ## Relayed requests -/

theorem abandonUpdate_bond (s : State) (k cause : Nat) : (s.abandonUpdate k cause).bond = s.bond := by
  unfold State.abandonUpdate State.takeFree
  exact bond_ite rfl ((raise_bond _ _ (by decide)).trans (bond_ite rfl rfl))

theorem endSession_bond (s : State) (id : U32) : (s.endSession id).bond = s.bond := by
  unfold State.endSession
  exact foldl_bond fun t k => bond_ite (abandonUpdate_bond t k 3) rfl

theorem reply_bond (s : State) (r : Req) (f : List Byte) : (s.reply r f).bond = s.bond := by
  unfold State.reply
  exact bond_ite rfl (bond_ite (lane_bond _ _ _ _) rfl)

theorem respond_bond (s : State) (r : Req) (key : Option (List Byte)) (sid : U32) (st : Status) (arg : Nat) (body : List Byte) :
    (s.respond r key sid st arg body).bond = s.bond := by
  unfold State.respond
  exact (reply_bond _ _ _).trans (bond_ite rfl rfl)

theorem answerRelay_bond (s : State) (x : Relay) (st : Status) (arg : Nat) (body : List Byte) :
    (s.answerRelay x st arg body).bond = s.bond := by
  unfold State.answerRelay
  extract_lets mbx s1 s2 s3
  have h3 : s3.bond = s.bond := bond_ite (respond_bond s1 _ _ _ _ _ _) (respond_bond s1 _ _ _ _ _ _)
  exact bond_ite ((endSession_bond s3 _).trans h3) h3

theorem relaysLost_bond (s : State) : s.relaysLost.bond = s.bond := by
  unfold State.relaysLost
  exact foldl_bond fun t x => answerRelay_bond t x _ _ _

theorem answerTriggers_bond (s : State) (id : Nat) (osn : Option Nat) : (s.answerTriggers id osn).bond = s.bond := by
  unfold State.answerTriggers
  refine foldl_bond fun t x => ?_
  cases osn <;> exact answerRelay_bond t x _ _ _

theorem stopTasks_bond (s : State) : s.stopTasks.bond = s.bond := by
  unfold State.stopTasks
  exact foldl_bond fun t n => (foldl_bond fun u id => answerTriggers_bond u id none)

theorem loopsStop_bond (s : State) : s.loopsStop.bond = s.bond := rfl

/-! ## Changes that are given up -/

theorem giveUp_bond (s : State) (st : Status) : (s.giveUp st).bond = s.bond := by
  unfold State.giveUp
  split
  · rfl
  · exact (completeOpt_bond _ _ _ _).trans (bond_ite rfl rfl)

theorem joinFails_bond (s : State) (st : Status) (cause : Nat) : (s.joinFails st cause false).bond = s.bond := by
  unfold State.joinFails
  exact (completeOpt_bond _ _ _ _).trans rfl

theorem dropJoin_bond (s : State) : s.dropJoin.bond = s.bond := by
  unfold State.dropJoin
  exact bond_ite (joinFails_bond s _ _) rfl

theorem judgePending_bond (s : State) : s.judgePending.bond = s.bond := by
  unfold State.judgePending
  split
  · rfl
  · exact bond_ite (giveUp_bond s _) (bond_ite rfl (giveUp_bond s _))

theorem detach_bond (s : State) : s.detach.bond = s.bond := by
  unfold State.detach
  split
  · rfl
  · exact bond_ite rfl rfl

theorem forcedDetach_bond (s : State) : s.forcedDetach.bond = s.bond := by
  unfold State.forcedDetach
  split
  · exact bond_ite ((raiseMand_bond _ _ (by decide)).trans (detach_bond s)) rfl
  · rfl

theorem auto_bond (s : State) (m : Mode) (r : Role) (cause : Nat) :
    (s.auto m r cause).bond = { s.bond with auto := (s.auto m r cause).mu.auto } := by
  unfold State.auto
  extract_lets put
  split
  · split <;> rfl
  · rfl

/-- The bond of a module whose partner is gone (R277). -/
def State.lostBond (s : State) : Bond := { s.bond with gone := true, sync := false, goneCount := s.pair.goneCount + 1 }

/-- A partner that is gone leaves the module to go on alone at the next frame boundary where it runs in a pair (R277). -/
theorem declareGone_ends {s : State} (h : (s.pair.gone || !s.partnerAbsent || s.pair.partner.mode.isNone) = false) :
    ∃ u : State, u.bond = s.lostBond ∧
      s.declareGone = if s.mode = .m4 ∨ s.mode = .m5 then u.auto .m6 .solo 4 else u := by
  unfold State.declareGone
  rw [if_neg (Bool.eq_false_iff.mp h)]
  extract_lets held role led mastered owned s1 s2 s3 s4 s5 s6 s7 s8
  have h2 : s2.bond = s.lostBond := raise_bond s1 _ (by decide)
  have h3 : s3.bond = s.lostBond := bond_ite ((joinFails_bond _ _ _).trans h2) h2
  have h4 : s4.bond = s.lostBond := by
    refine Eq.trans ?_ h3
    simp only [s4]
    split
    · exact bond_ite (giveUp_bond s3 _) rfl
    · rfl
  have h5 : s5.bond = s.lostBond := (forcedDetach_bond s4).trans h4
  have hmode : s5.mode = s.mode := congrArg Bond.mode h5
  have h7 : s7.bond = s.lostBond := (canRefresh_bond _).trans ((passLead_bond s6 _ _ _ _).trans h5)
  have h8 : s8.bond = s.lostBond := (runAwaited_bond _).trans ((releaseAll_bond _).trans ((raiseShares_bond s7 1).trans h7))
  by_cases hm : s.mode = .m4 ∨ s.mode = .m5
  · refine ⟨s8, h8, ?_⟩
    rw [if_pos hm, if_pos (by simpa [hmode] using hm)]
  · refine ⟨s5, h5, ?_⟩
    rw [if_neg hm, if_neg (by simpa [hmode] using hm)]

theorem declareGone_bond (s : State) : ∃ g n y a, s.declareGone.bond = { s.bond with gone := g, goneCount := n, sync := y, auto := a } := by
  cases h : s.pair.gone || !s.partnerAbsent || s.pair.partner.mode.isNone with
  | true =>
    have hs : s.declareGone = s := if_pos h
    rw [hs]
    exact ⟨_, _, _, _, rfl⟩
  | false =>
    obtain ⟨u, hu, hgone⟩ := declareGone_ends h
    rw [hgone]
    split
    · exact ⟨true, s.pair.goneCount + 1, false, _, by rw [auto_bond, hu]; rfl⟩
    · exact ⟨true, s.pair.goneCount + 1, false, s.mu.auto, hu⟩

theorem modMu_role_bond (s : State) (r : Role) : (s.modMu (fun u => { u with role := r })).bond = { s.bond with role := r } := rfl

theorem enterRole_bond (s : State) (r : Role) (cause : Nat) : (s.enterRole r cause).bond = { s.bond with role := r } := by
  unfold State.enterRole
  extract_lets oldRole led mastered owned u v
  have hu : u.bond = { s.bond with role := r } := by
    rw [← injStopAll_bond s]
    exact modMu_role_bond s.injStopAll r
  exact (raise_bond v _ (by decide)).trans ((resetSoak_bond _).trans ((canRefresh_bond _).trans ((passLead_bond u _ _ _ _).trans hu)))

/-! ## Transitions into a run mode -/

theorem stopWork_bond (s : State) (o : AsyncOp) : (s.stopWork o).bond = s.bond := by
  unfold State.stopWork
  extract_lets mine
  split
  · exact bond_ite rfl rfl
  · rfl
  · exact foldl_bond fun _ _ => rfl
  · exact foldl_bond fun _ _ => rfl
  · refine foldl_bond fun t p => ?_
    split
    · exact bond_ite rfl rfl
    · rfl
  · refine foldl_bond fun t p => ?_
    split
    · exact bond_ite rfl rfl
    · rfl
  · rfl
  · rfl
  · exact foldl_bond fun _ _ => bond_ite rfl rfl
  · exact foldl_bond fun _ _ => bond_ite rfl rfl
  · exact foldl_bond fun _ _ => rfl
  · rfl
  · rfl
  · rfl
  · rfl
  · rfl
  · exact foldl_bond fun _ _ => bond_ite (bond_ite rfl rfl) rfl
  · rfl

theorem supersede_bond (s : State) (m : Mode) : (s.supersede m).bond = s.bond := by
  unfold State.supersede
  extract_lets bad ops u mbx
  have hu : u.bond = s.bond := foldl_bond fun t o => (complete_bond _ _ _ _).trans (stopWork_bond t o)
  clear_value u
  exact hu

theorem outputsToFallback_bond (s : State) : s.outputsToFallback.bond = s.bond := by
  unfold State.outputsToFallback
  extract_lets u
  have hu : u.bond = s.bond := foldl_bond fun _ _ => bond_ite rfl rfl
  refine (foldl_bond fun t m => ?_).trans hu
  exact bond_ite rfl rfl

theorem startTasks_bond (s : State) (l : List (Nat × Nat)) : (s.startTasks l).bond = s.bond := by
  unfold State.startTasks
  extract_lets l'
  refine foldl_bond fun t n => ?_
  split
  extract_lets u
  have hu : u.bond = t.bond := rfl
  clear_value u
  exact bond_ite hu hu

theorem joinTasks_bond (s : State) : s.joinTasks.bond = s.bond := by
  unfold State.joinTasks
  exact foldl_bond fun _ _ => bond_ite rfl rfl

theorem loopsInit_bond (s : State) : s.loopsInit.bond = s.bond := by
  unfold State.loopsInit
  exact foldl_bond fun _ _ => bond_ite rfl rfl

theorem runAfresh_bond (s : State) (l : List (Nat × Nat)) : (s.runAfresh l).bond = s.bond := by
  unfold State.runAfresh
  exact (loopsInit_bond _).trans ((outputsToFallback_bond _).trans (startTasks_bond _ l))

theorem phaseLock_bond (s : State) (n te pe : Nat) (nextD : Int) : (s.phaseLock n te pe nextD).bond = s.bond := by
  unfold State.phaseLock
  extract_lets s1
  split
  next y c hp =>
  extract_lets s2 s3 s4 s5 b
  have h3 : s3.bond = s.bond := disarmNear_bond s2 n
  have h5 : s5.bond = s.bond := (publishBp_bond s4 _ _ _ _).trans ((raise_bond s3 _ (by decide)).trans h3)
  exact bond_ite h5 ((raise_bond s5 _ (by decide)).trans h5)

theorem phaseUnlockAt_bond (s : State) (n cause phi : Nat) : (s.phaseUnlockAt n cause phi).bond = s.bond := by
  unfold State.phaseUnlockAt
  extract_lets r v s1 ph s2 s3 dos s4 s5 b
  have h3 : s3.bond = s.bond := raise_bond s2 _ (by decide)
  have h4 : s4.bond = s.bond := bond_ite h3 ((foldl_bond fun t m => bond_ite (catDo_bond t m false) rfl).trans h3)
  have h5 : s5.bond = s.bond := (publishBp_bond s4 _ _ _ _).trans h4
  exact bond_ite rfl (bond_ite h5 ((raise_bond s5 _ (by decide)).trans h5))

theorem phaseRestart_bond (s : State) (n held : Nat) : (s.phaseRestart n held).bond = s.bond := by
  unfold State.phaseRestart
  extract_lets u v
  have hv : v.bond = s.bond := bond_ite (phaseUnlockAt_bond s n 6 held) rfl
  exact bond_ite ((phaseLock_bond _ _ _ _ _).trans hv) hv

theorem phaseReconfig_bond (s was : State) (all : Bool) : (s.phaseReconfig was all).bond = s.bond := by
  unfold State.phaseReconfig
  exact foldl_bond fun t n => bond_ite (phaseRestart_bond t n _) rfl

theorem freezeTold_bond (s : State) (old : Nat) : (s.freezeTold old).bond = s.bond := by
  unfold State.freezeTold
  exact bond_ite rfl (raise_bond s _ (by decide))

theorem tellMode_bond (s : State) (old : Mode) : (s.tellMode old).bond = s.bond := by
  unfold State.tellMode
  split
  · exact raise_bond s _ (by decide)
  · exact raiseMand_bond s _ (by decide)
  · rfl

/-- The bond of a module that has entered a run mode: alone it is in no pair, and no isolation goes on (R39, R41). -/
def State.runBond (s : State) (m : Mode) (r : Role) : Bond :=
  if m = .m4 ∨ m = .m5 then { s.bond with mode := m, role := r }
  else { s.bond with mode := m, role := r, sync := false, isolation := none }

theorem enterMode_bond (s : State) {m : Mode} (hm : m = .m4 ∨ m = .m5 ∨ m = .m6) (r : Role) (command : Bool) (cause : Nat) (joins : Bool)
    (streams : List (Nat × Nat)) : (s.enterMode m r command cause joins streams).bond = s.runBond m r := by
  unfold State.enterMode
  extract_lets old oldRole led mastered owned frozen was s1 s2 s3 s4 s5 s6 s7 s8 s9 s10 s11 s12 s13 s14 s15 s16 s17 s18 s19 s20
  have h1 : s1.bond = s.bond := bond_ite (injStopAll_bond s) rfl
  have h2 : s2.bond = s.bond := bond_ite ((loopsStop_bond _).trans ((stopTasks_bond s1).trans h1)) h1
  have h3 : s3.bond = s.bond := bond_ite ((trimReleaseAll_bond s2).trans h2) h2
  have h4 : s4.bond = s.bond := (supersede_bond s3 m).trans h3
  have h5 : s5.bond = { s.bond with mode := m, role := r } := by
    rw [← h4]
    rfl
  have h6 : s6.bond = s5.bond := bond_ite rfl (dropJoin_bond s5)
  have h7 : s7.bond = s5.bond := bond_ite h6 h6
  have h8 : s8.bond = s.runBond m r := by
    have hleft : s8.bond = if m = .m4 ∨ m = .m5 then s7.bond else { s7.bond with sync := false, isolation := none } := by
      simp only [s8]
      generalize s7 = u
      split <;> rfl
    rw [hleft, h7, h5]
    rfl
  have h9 : s9.bond = s8.bond := bond_ite (runAfresh_bond s8 _) (bond_ite (joinTasks_bond s8) rfl)
  have h10 : s10.bond = s8.bond := bond_ite h9 h9
  have h11 : s11.bond = s8.bond := bond_ite ((foldl_bond disarmNear_bond).trans h10) h10
  have h12 : s12.bond = s8.bond := bond_ite ((canTake_bond s11).trans h11) h11
  have hstop : m ≠ .m3 ∧ ¬(m = .m2 ∨ m = .m10 ∨ m = .m11) := by
    rcases hm with rfl | rfl | rfl <;> decide
  have h13 : s13 = s12 := (if_neg hstop.1).trans (if_neg hstop.2)
  have h14 : s14.bond = s8.bond := bond_ite (bond_ite (h13 ▸ h12) ((excOff_bond s13).trans (h13 ▸ h12))) (h13 ▸ h12)
  have h15 : s15.bond = s8.bond := (freezeTold_bond _ _).trans ((phaseReconfig_bond s14 _ _).trans h14)
  have h16 : s16.bond = s8.bond := (canRefresh_bond _).trans ((passLead_bond s15 _ _ _ _).trans h15)
  have h17 : s17.bond = s8.bond := (resetSoak_bond _).trans ((refreshForces_bond s16).trans h16)
  have h18 : s18.bond = s8.bond := bond_ite ((releaseAll_bond s17).trans h17) h17
  have h19 : s19.bond = s8.bond := (raise_bond s18 _ (by decide)).trans h18
  have h20 : s20.bond = s8.bond := bond_ite h19 ((raise_bond s19 _ (by decide)).trans h19)
  exact (judgePending_bond _).trans ((tellMode_bond s20 old).trans (h20.trans h8))

end Sys2Proof.Machine
end

section
/-!
PROOFS. The rows of losing and gaining the partner (R257, R258, R275–R281).
-/
namespace Sys2Proof.Machine

/-! ## What the bond tells of a lane and of an event -/

/-- A state whose bond is `b`, field by field. -/
structure Shows (t : State) (b : Bond) : Prop where
  now : t.now = b.now
  mode : t.mode = b.mode
  role : t.role = b.role
  slot : t.mu.slot = b.slot
  auto : t.mu.auto = b.auto
  lanes : (t.pair.sl0, t.pair.sl1) = b.lanes
  seqIn : t.pair.seqIn = b.seqIn
  heartbeat : t.pair.heartbeat = b.heartbeat
  lastToggle : t.pair.lastToggle = b.lastToggle
  gone : t.pair.gone = b.gone
  goneCount : t.pair.goneCount = b.goneCount
  sync : t.pair.sync = b.sync
  isolation : t.pair.isolation = b.isolation
  lane : tget t.ev.src 33 {} = b.lane
  lanesLost : tget t.ev.src 34 {} = b.lanesLost
  silent : tget t.ev.src 35 {} = b.silent
  isolated : tget t.ev.src 43 {} = b.isolated

theorem shows_of_bond {t : State} {b : Bond} (h : t.bond = b) : Shows t b := by
  subst h
  exact ⟨rfl, rfl, rfl, rfl, rfl, rfl, rfl, rfl, rfl, rfl, rfl, rfl, rfl, rfl, rfl, rfl, rfl⟩

theorem Shows.laneOf {s t : State} {b : Bond} (h : Shows t b) (hb : b.lanes = (s.pair.sl0, s.pair.sl1)) (l : Nat) :
    t.laneOf l = s.laneOf l := by
  obtain ⟨h0, h1⟩ := Prod.mk.inj (h.lanes.trans hb)
  unfold State.laneOf
  rw [h0, h1]

theorem Shows.laneUp {s t : State} {b : Bond} (h : Shows t b) (hb : b.lanes = (s.pair.sl0, s.pair.sl1)) : t.laneUp = s.laneUp := by
  obtain ⟨h0, h1⟩ := Prod.mk.inj (h.lanes.trans hb)
  unfold State.laneUp
  rw [h0, h1]

/-! ## Lanes (R258, R277) -/

theorem modLane_laneOf_self (s : State) (l : Nat) (f : Lane → Lane) : (s.modLane l f).laneOf l = f (s.laneOf l) := by
  unfold State.modLane State.laneOf
  split <;> rfl

theorem modLane_laneOf_other (s : State) {l : Nat} (hl : l < 2) (f : Lane → Lane) : (s.modLane l f).laneOf (1 - l) = s.laneOf (1 - l) := by
  obtain rfl | rfl : l = 0 ∨ l = 1 := by omega
  · rfl
  · rfl

/-- A lane is up where it or the other one is. -/
theorem laneUp_either (s : State) {l : Nat} (hl : l < 2) : s.laneUp = ((s.laneOf l).up || (s.laneOf (1 - l)).up) := by
  obtain rfl | rfl : l = 0 ∨ l = 1 := by omega
  · rfl
  · exact Bool.or_comm _ _

/-- The state once a lane has fallen, with EV033. -/
def State.laneFallen (e : State) (l cause : Nat) : State :=
  (e.modLane l (fun x => { x with up := false, lock := x.lock && cause != 2, downs := x.downs + 1, downTime := e.now })).raise 33
    [(1, l), (1, cause)]

/-- The state once the last lane has fallen, with EV034: no SyncSeq stands, and no relayed request waits. -/
def State.lanesLost (s : State) : State :=
  ((s.raise 34 [(1, b2n s.pair.heartbeat)]).modPair (fun p => { p with seqIn := none })).canRefresh.relaysLost

theorem laneFallen_laneOf (e : State) (l cause k : Nat) : (e.laneFallen l cause).laneOf k =
    (e.modLane l (fun x => { x with up := false, lock := x.lock && cause != 2, downs := x.downs + 1, downTime := e.now })).laneOf k := by
  unfold State.laneFallen State.laneOf
  rw [raise_pair]

theorem laneFallen_laneUp (e : State) {l : Nat} (hl : l < 2) (cause : Nat) : (e.laneFallen l cause).laneUp = (e.laneOf (1 - l)).up := by
  rw [laneUp_either _ hl, laneFallen_laneOf, laneFallen_laneOf, modLane_laneOf_self, modLane_laneOf_other e hl]
  rfl

theorem laneFallen_bond (e : State) {l : Nat} (hl : l < 2) (cause : Nat) : (e.laneFallen l cause).bond =
    { e.bond with lanes := (e.laneFallen l cause).bond.lanes, lane := (e.laneFallen l cause).bond.lane } := by
  unfold State.laneFallen State.bond State.now State.mode State.role
  rw [raise_clk, raise_mu, raise_pair, raise_src_ne _ (by decide : 34 ≠ 33), raise_src_ne _ (by decide : 35 ≠ 33),
    raise_src_ne _ (by decide : 43 ≠ 33)]
  obtain rfl | rfl : l = 0 ∨ l = 1 := by omega
  · rfl
  · rfl

theorem laneFallen_tells (e : State) (l cause : Nat) : Occurs e (e.laneFallen l cause) 33 [(1, l), (1, cause)] :=
  occurs_raise rfl rfl rfl rfl

theorem lanesLost_bond (s : State) : s.lanesLost.bond =
    { s.bond with seqIn := none, lanesLost := tget (s.raise 34 [(1, b2n s.pair.heartbeat)]).ev.src 34 {} } := by
  have hraise : ((s.raise 34 [(1, b2n s.pair.heartbeat)]).modPair (fun p => { p with seqIn := none })).bond =
      { s.bond with seqIn := none, lanesLost := tget (s.raise 34 [(1, b2n s.pair.heartbeat)]).ev.src 34 {} } := by
    unfold State.bond State.now State.mode State.role
    rw [modPair_clk, modPair_mu, modPair_pair, modPair_ev, raise_clk, raise_mu, raise_pair, raise_src_ne _ (by decide : 33 ≠ 34),
      raise_src_ne _ (by decide : 35 ≠ 34), raise_src_ne _ (by decide : 43 ≠ 34)]
  exact (relaysLost_bond _).trans ((canRefresh_bond _).trans hraise)

section
variable {dt l cause : Nat} {s e : State} (he : s.elapse dt = e) (hl : l < 2) (hup : (e.laneOf l).up = true)
  (hcause : (cause = 1 ∧ e.since (e.laneOf l).lastGood (100 * Config.ticksPerUs) = true) ∨ cause = 2)
include he hl hup hcause

theorem syncLaneDown_run : exec (.syncLaneDown dt l cause) s = .next (if (e.laneOf (1 - l)).up then e.laneFallen l cause else
    if !e.pair.heartbeat then (e.laneFallen l cause).lanesLost.declareGone
    else if e.mu.slot = 1 ∧ (e.mode = .m4 ∨ e.mode = .m5) ∧ (e.role = .primary ∨ e.role = .standby) ∧ e.pair.isolation.isNone then
      (e.laneFallen l cause).lanesLost.modPair (fun p => { p with isolation := some (frameAfter e.now) })
    else (e.laneFallen l cause).lanesLost) := by
  have hbond := lanesLost_bond (e.laneFallen l cause)
  rw [laneFallen_bond e hl cause] at hbond
  have hshows := shows_of_bond hbond
  have hheart : (e.laneFallen l cause).lanesLost.pair.heartbeat = e.pair.heartbeat := hshows.heartbeat
  have hslot : (e.laneFallen l cause).lanesLost.mu.slot = e.mu.slot := hshows.slot
  have hmode : (e.laneFallen l cause).lanesLost.mode = e.mode := hshows.mode
  have hrole : (e.laneFallen l cause).lanesLost.role = e.role := hshows.role
  have hisol : (e.laneFallen l cause).lanesLost.pair.isolation = e.pair.isolation := hshows.isolation
  have hnow : (e.laneFallen l cause).lanesLost.now = e.now := hshows.now
  have hknown : (!(e.laneOf l).up || (cause == 1 && !e.since (e.laneOf l).lastGood (100 * Config.ticksPerUs))) = false := by
    rcases hcause with ⟨rfl, hs⟩ | rfl
    · rw [hup, hs]
      rfl
    · rw [hup]
      rfl
  rw [← laneFallen_laneUp e hl cause, ← hheart, ← hslot, ← hmode, ← hrole, ← hisol, ← hnow]
  show execSyncLaneDown dt l cause s = _
  unfold execSyncLaneDown
  rw [he]
  extract_lets s0 s1 s2 s3 s4 s5
  rw [if_neg (Nat.not_le.mpr hl), if_neg (Bool.eq_false_iff.mp hknown)]
  have h2 : s2 = e.laneFallen l cause := rfl
  have h5 : s5 = (e.laneFallen l cause).lanesLost := rfl
  rw [h5, h2]
  simp only [apply_ite Host.Outcome.next]

/-- Where the other lane is up, nothing but the fallen lane changes. -/
theorem syncLaneDown_one (hother : (e.laneOf (1 - l)).up = true) : exec (.syncLaneDown dt l cause) s = .next (e.laneFallen l cause) := by
  rw [syncLaneDown_run he hl hup hcause, if_pos hother]

/-- Where it was the last lane, what follows touches neither the lanes nor their events, and slot B of a pair that still hears its partner
begins to isolate (R279). -/
theorem syncLaneDown_last (hother : (e.laneOf (1 - l)).up = false) : ∃ t, exec (.syncLaneDown dt l cause) s = .next t ∧
    (∃ g n y a i, t.bond = { (e.laneFallen l cause).lanesLost.bond with gone := g, goneCount := n, sync := y, auto := a, isolation := i }) ∧
    (e.pair.heartbeat = true → e.mu.slot = 1 → e.mode = .m4 ∨ e.mode = .m5 → e.role = .primary ∨ e.role = .standby →
      e.pair.isolation = none → t.pair.isolation = some (frameAfter e.now)) := by
  refine ⟨_, syncLaneDown_run he hl hup hcause, ?_, fun hh hs hm hr hi => ?_⟩
  · rw [if_neg (Bool.eq_false_iff.mp hother)]
    generalize (e.laneFallen l cause).lanesLost = u
    split
    · obtain ⟨g, n, y, a, hgone⟩ := declareGone_bond u
      exact ⟨g, n, y, a, u.pair.isolation, hgone⟩
    · split
      · exact ⟨u.pair.gone, u.pair.goneCount, u.pair.sync, u.mu.auto, some (frameAfter e.now), rfl⟩
      · exact ⟨u.pair.gone, u.pair.goneCount, u.pair.sync, u.mu.auto, u.pair.isolation, rfl⟩
  · have hbegins : e.mu.slot = 1 ∧ (e.mode = .m4 ∨ e.mode = .m5) ∧ (e.role = .primary ∨ e.role = .standby) ∧
        e.pair.isolation.isNone = true := ⟨hs, hm, hr, congrArg Option.isNone hi⟩
    rw [if_neg (Bool.eq_false_iff.mp hother), if_neg (by rw [hh]; decide), if_pos hbegins]
    rfl

theorem syncLaneDown_falls : ∃ t, exec (.syncLaneDown dt l cause) s = .next t ∧ (t.laneOf l).up = false ∧
    (t.laneOf l).downs = (e.laneOf l).downs + 1 ∧ (t.laneOf l).downTime = e.now ∧ t.laneOf (1 - l) = e.laneOf (1 - l) ∧
    Occurs e t 33 [(1, l), (1, cause)] ∧
    ((e.laneOf (1 - l)).up = false → Occurs e t 34 [(1, b2n e.pair.heartbeat)] ∧ t.pair.seqIn = none) ∧
    ((e.laneOf (1 - l)).up = false → e.pair.heartbeat = true → e.mu.slot = 1 → e.mode = .m4 ∨ e.mode = .m5 →
      e.role = .primary ∨ e.role = .standby → e.pair.isolation = none → t.pair.isolation = some (frameAfter e.now)) := by
  have hself := (laneFallen_laneOf e l cause l).trans (modLane_laneOf_self e l _)
  have hrest := (laneFallen_laneOf e l cause (1 - l)).trans (modLane_laneOf_other e hl _)
  have htells := laneFallen_tells e l cause
  cases hother : (e.laneOf (1 - l)).up with
  | true => exact ⟨_, syncLaneDown_one he hl hup hcause hother, by rw [hself], by rw [hself], by rw [hself], hrest, htells, nofun, nofun⟩
  | false =>
    obtain ⟨t, hrun, ⟨g, n, y, a, i, hbond⟩, hisol⟩ := syncLaneDown_last he hl hup hcause hother
    rw [lanesLost_bond] at hbond
    have hshows := shows_of_bond hbond
    have hlanes : ∀ k, t.laneOf k = (e.laneFallen l cause).laneOf k := hshows.laneOf rfl
    have hheart := (shows_of_bond (laneFallen_bond e hl cause)).heartbeat
    have hlost : Occurs e t 34 [(1, b2n e.pair.heartbeat)] := by
      have hraised : Occurs e ((e.laneFallen l cause).raise 34 [(1, b2n e.pair.heartbeat)]) 34 [(1, b2n e.pair.heartbeat)] :=
        occurs_raise rfl rfl (raise_src_ne _ (by decide)) (congrArg Clk.tb (raise_clk _ _ _))
      exact hraised.of_src (hshows.lanesLost.trans (by rw [hheart]; rfl))
    exact ⟨t, hrun, by rw [hlanes, hself], by rw [hlanes, hself], by rw [hlanes, hself], (hlanes _).trans hrest,
      htells.of_src hshows.lane, fun _ => ⟨hlost, hshows.seqIn⟩, fun _ => hisol⟩

end

theorem syncLaneUp_returns {dt l : Nat} {s e : State} (he : s.elapse dt = e) (hl : l < 2) (hm : e.mode ≠ .m0) :
    ∃ t, exec (.syncLaneUp dt l) s = .next t ∧ (t.laneOf l).up = true ∧ (t.laneOf l).lock = true ∧ t.pair.gone = false ∧
      t.laneOf (1 - l) = e.laneOf (1 - l) := by
  let u := (e.modLane l (fun x => { x with up := true, lock := true, lastGood := e.tick })).modPair (fun p => { p with gone := false })
  have hrun : exec (.syncLaneUp dt l) s = .next u.canRefresh := by
    subst he
    exact (if_neg (Nat.not_le.mpr hl)).trans (if_neg hm)
  have hshows := shows_of_bond (canRefresh_bond u)
  have hlanes : ∀ k, u.canRefresh.laneOf k = u.laneOf k := hshows.laneOf rfl
  have hself : u.laneOf l = _ := modLane_laneOf_self e l (fun x => { x with up := true, lock := true, lastGood := e.tick })
  have hrest : u.laneOf (1 - l) = _ := modLane_laneOf_other e hl _
  exact ⟨_, hrun, by rw [hlanes, hself], by rw [hlanes, hself], hshows.gone, (hlanes _).trans hrest⟩

/-! ## The heartbeat (R257, R277) -/

/-- The state once the partner's heartbeat is lost, with EV035. -/
def State.silenced (e : State) : State :=
  ((e.modPair (fun p => { p with heartbeat := false, isolSeen := false, lastToggle := e.now - 300000 })).raise 35
    [(8, e.now - 300000)]).canRefresh

/-- EV035 as it stands once the heartbeat is lost. -/
def State.silence (e : State) : EventSrc :=
  tget ((e.modPair (fun p => { p with heartbeat := false, isolSeen := false, lastToggle := e.now - 300000 })).raise 35
    [(8, e.now - 300000)]).ev.src 35 {}

theorem silenced_bond (e : State) : e.silenced.bond =
    { e.bond with heartbeat := false, lastToggle := e.now - 300000, silent := e.silence } := by
  refine (canRefresh_bond _).trans ?_
  unfold State.bond State.now State.mode State.role
  rw [raise_clk, raise_mu, raise_pair, raise_src_ne _ (by decide : 33 ≠ 35), raise_src_ne _ (by decide : 34 ≠ 35),
    raise_src_ne _ (by decide : 43 ≠ 35)]
  rfl

theorem silenced_partner (e : State) : e.silenced.pair.partner = e.pair.partner := by
  have hkeep : ∀ u : State, u.canRefresh.pair.partner = u.pair.partner := fun u => by
    have hpair : Part.same u u.canRefresh .pair := kept (fun _ hm => canRefresh_view u hm) .pair (by decide)
    exact (congrArg Pair.partner hpair :)
  unfold State.silenced
  rw [hkeep, raise_pair, modPair_pair]

theorem silence_tells (e : State) {t : State} (h : tget t.ev.src 35 {} = e.silence) : Occurs e t 35 [(8, e.now - 300000)] := by
  have hraised : Occurs e ((e.modPair (fun p => { p with heartbeat := false, isolSeen := false, lastToggle := e.now - 300000 })).raise 35
    [(8, e.now - 300000)]) 35 [(8, e.now - 300000)] := occurs_raise rfl rfl rfl rfl
  exact hraised.of_src h

/-- With no lane left, a module of a running pair goes on alone. -/
theorem silenced_alone {e : State} (hlane : e.laneUp = false) (hgone : e.pair.gone = false) (hpartner : e.pair.partner.mode ≠ none)
    (hmode : e.mode = .m4 ∨ e.mode = .m5) (hauto : e.mu.auto = none) :
    e.silenced.declareGone.bond = { e.silenced.lostBond with auto := some ⟨.m6, .solo, 4, frameAfter e.now⟩ } := by
  have hshows := shows_of_bond (silenced_bond e)
  have hguard : (e.silenced.pair.gone || !e.silenced.partnerAbsent || e.silenced.pair.partner.mode.isNone) = false := by
    have hup : e.silenced.laneUp = false := (hshows.laneUp rfl).trans hlane
    have hg : e.silenced.pair.gone = false := hshows.gone.trans hgone
    unfold State.partnerAbsent
    rw [hup, hg, hshows.heartbeat, silenced_partner, Option.isNone_eq_false_iff.mpr (Option.isSome_iff_ne_none.mpr hpartner)]
    rfl
  obtain ⟨u, hu, hends⟩ := declareGone_ends hguard
  have hushows := shows_of_bond hu
  have hua : u.mu.auto = none := hushows.auto.trans (hshows.auto.trans hauto)
  have hunow : u.now = e.now := hushows.now.trans hshows.now
  rw [hends, if_pos (by rw [hshows.mode]; exact hmode), auto_bond, auto_put _ _ _ hua, hunow, hu]

theorem partnerHeartbeatLost_loses {dt : Nat} {s e : State} (he : s.elapse dt = e) (hh : e.pair.heartbeat = true) :
    ∃ t, exec (.partnerHeartbeatLost dt) s = .next t ∧ t.pair.heartbeat = false ∧ t.pair.lastToggle = e.now - 300000 ∧
      Occurs e t 35 [(8, e.now - 300000)] ∧
      (e.laneUp = false → e.pair.gone = false → e.pair.partner.mode ≠ none → e.mode = .m4 ∨ e.mode = .m5 → e.mu.auto = none →
        t.pair.gone = true ∧ t.pair.sync = false ∧ t.pair.goneCount = e.pair.goneCount + 1 ∧
        t.mu.auto = some ⟨.m6, .solo, 4, frameAfter e.now⟩) := by
  have hrun : exec (.partnerHeartbeatLost dt) s = .next e.silenced.declareGone := by
    subst he
    exact if_neg (by rw [hh]; decide)
  have hshows := shows_of_bond (silenced_bond e)
  obtain ⟨g, n, y, a, hbond⟩ := declareGone_bond e.silenced
  rw [silenced_bond] at hbond
  have hend := shows_of_bond hbond
  refine ⟨_, hrun, hend.heartbeat, hend.lastToggle, silence_tells e hend.silent, fun hlane hgone hpartner hmode hauto => ?_⟩
  have halone := shows_of_bond (silenced_alone hlane hgone hpartner hmode hauto)
  exact ⟨halone.gone, halone.sync, halone.goneCount.trans (congrArg (· + 1) hshows.goneCount), halone.auto⟩

theorem partnerHeartbeatPresent_returns {dt : Nat} {s e : State} (he : s.elapse dt = e) (hm : e.mode ≠ .m0) :
    ∃ t, exec (.partnerHeartbeatPresent dt) s = .next t ∧ t.pair.heartbeat = true ∧ t.pair.gone = false ∧ t.pair.lastToggle = e.now := by
  let u := e.modPair (fun p => { p with heartbeat := true, gone := false, lastToggle := e.now })
  have hrun : exec (.partnerHeartbeatPresent dt) s = .next u.canRefresh := by
    subst he
    exact if_neg hm
  have hshows := shows_of_bond (canRefresh_bond u)
  exact ⟨_, hrun, hshows.heartbeat, hshows.gone, hshows.lastToggle⟩

theorem isolatingPatternSeen_notes {dt : Nat} {s e : State} (he : s.elapse dt = e) (hm : e.mode ≠ .m0) :
    ∃ t, exec (.isolatingPatternSeen dt) s = .next t ∧ t.pair.heartbeat = true ∧ t.pair.isolSeen = true ∧
      (e.mu.slot = 0 → e.mode = .m4 ∨ e.mode = .m5 → e.role = .primary ∨ e.role = .standby → e.pair.isolation = none →
        t.pair.isolation = some (e.gridInstant Config.frameNs)) := by
  let u := e.modPair (fun p => { p with heartbeat := true, isolSeen := true })
  have hrun : exec (.isolatingPatternSeen dt) s = .next (if e.mu.slot = 0 ∧ (e.mode = .m4 ∨ e.mode = .m5) ∧
      (e.role = .primary ∨ e.role = .standby) ∧ e.pair.isolation.isNone then
      u.modPair (fun p => { p with isolation := some (e.gridInstant Config.frameNs) }) else u) := by
    subst he
    exact (if_neg hm).trans (apply_ite Host.Outcome.next _ _ _).symm
  refine ⟨_, hrun, ?_, ?_, fun hs hmode hrole hi => ?_⟩
  · split <;> rfl
  · split <;> rfl
  · have hbegins : e.mu.slot = 0 ∧ (e.mode = .m4 ∨ e.mode = .m5) ∧ (e.role = .primary ∨ e.role = .standby) ∧
        e.pair.isolation.isNone = true := ⟨hs, hmode, hrole, congrArg Option.isNone hi⟩
    rw [if_pos hbegins]
    rfl

end Sys2Proof.Machine
end

section
/-!
PROOFS. Isolation, departure, the end of a copy and the takeback (R275–R281).
-/
namespace Sys2Proof.Machine

/-! ## ISOLATION_F1 (R279) -/

/-- The state once a module has left its pair at F1: a change of both modules is given up. -/
def State.pairLeft (s : State) : State :=
  let u := s.modPair (fun p => { p with isolation := none, sync := false, swap := none })
  match u.mu.pending with
  | some c => if c.pair then u.giveUp .partnerRefused else u
  | none => u

theorem pairLeft_bond (s : State) : s.pairLeft.bond = { s.bond with isolation := none, sync := false } := by
  unfold State.pairLeft
  extract_lets u
  split
  · exact bond_ite (giveUp_bond u _) rfl
  · rfl

theorem runBond_pair (s : State) {m : Mode} (hm : m = .m4 ∨ m = .m5) (r : Role) : s.runBond m r = { s.bond with mode := m, role := r } :=
  if_pos hm

/-- Slot B goes on in M5 on its own inputs, with EV043. -/
theorem isolationF1_isolates {s : State} (hs : s.mu.slot = 1) (f1 : Nat) : ∃ u : State,
    s.isolationF1 f1 = u.raise 43 [(8, f1)] ∧
      u.bond = { s.bond with isolation := none, sync := false, mode := .m5, role := .isolated } := by
  have hslot : s.pairLeft.mu.slot = s.mu.slot := (shows_of_bond (pairLeft_bond s)).slot
  unfold State.isolationF1
  change ∃ u : State, (if s.pairLeft.mu.slot = 1 then _ else _) = _ ∧ _
  rw [if_pos (hslot.trans hs)]
  extract_lets s3 s4 s5
  have h3 : s3.bond = { s.bond with isolation := none, sync := false } := Eq.trans rfl (pairLeft_bond s)
  have h4 : s4.bond = { s3.bond with mode := .m5, role := .isolated } := by
    simp only [s4]
    split
    · rename_i hm
      rw [enterRole_bond, show Mode.m5 = s3.bond.mode from hm.symm]
    · rw [enterMode_bond s3 (Or.inr (Or.inl rfl)), runBond_pair s3 (Or.inr rfl)]
  refine ⟨_, rfl, ?_⟩
  refine (excOff_bond _).trans ((runAwaited_bond _).trans ((releaseAll_bond s5).trans ?_))
  have h5 : s5.bond = { s4.bond with sync := false } := rfl
  rw [h5, h4, h3]

/-- Slot A leads: a STANDBY takes over in M4, and a PRIMARY goes on. -/
theorem isolationF1_leads {s : State} (hs : s.mu.slot ≠ 1) (f1 : Nat) : (s.isolationF1 f1).bond =
    if s.role = .standby then { s.bond with isolation := none, sync := false, mode := .m4, role := .primary }
    else { s.bond with isolation := none, sync := false } := by
  have hslot : s.pairLeft.mu.slot = s.mu.slot := (shows_of_bond (pairLeft_bond s)).slot
  unfold State.isolationF1
  change (if s.pairLeft.mu.slot = 1 then _ else _ : State).bond = _
  rw [if_neg (hslot ▸ hs)]
  extract_lets u
  have hu : u.bond = { s.bond with isolation := none, sync := false } :=
    (releaseAll_bond _).trans ((raiseShares_bond _ _).trans (pairLeft_bond s))
  have hrole : u.role = s.role := (shows_of_bond hu).role
  rw [hrole]
  split
  · rw [runAwaited_bond, enterMode_bond u (Or.inl rfl), runBond_pair u (Or.inl rfl), hu]
  · exact hu

theorem isolationF1_ends {dt f0 : Nat} {s e : State} (he : s.elapse dt = e) (hi : e.pair.isolation = some f0) (hf : f0 + 250000 ≤ e.now) :
    ∃ t, exec (.isolationF1 dt) s = .next t ∧ t.pair.isolation = none ∧ t.pair.sync = false ∧
      (e.mu.slot = 1 → t.mode = .m5 ∧ t.role = .isolated ∧ Occurs e t 43 [(8, f0 + 250000)]) ∧
      (e.mu.slot = 0 → e.role = .standby → t.mode = .m4 ∧ t.role = .primary) ∧
      (e.mu.slot = 0 → e.role = .primary → t.mode = e.mode ∧ t.role = .primary) := by
  have hrun : exec (.isolationF1 dt) s = .next (e.isolationF1 (f0 + 250000)) := by
    show execIsolationF1 dt s = _
    unfold execIsolationF1
    simp only [he, hi]
    exact if_neg (Nat.not_lt.mpr hf)
  refine ⟨_, hrun, ?_⟩
  by_cases hs : e.mu.slot = 1
  · obtain ⟨u, hu, hbond⟩ := isolationF1_isolates hs (f0 + 250000)
    have hshows := shows_of_bond hbond
    have htells : Occurs e (u.raise 43 [(8, f0 + 250000)]) 43 [(8, f0 + 250000)] := occurs_raise rfl rfl hshows.isolated hshows.now
    rw [hu]
    unfold State.mode State.role
    rw [raise_pair, raise_mu]
    exact ⟨hshows.isolation, hshows.sync, fun _ => ⟨hshows.mode, hshows.role, htells⟩, fun h0 => absurd (hs.symm.trans h0) (by decide),
      fun h0 => absurd (hs.symm.trans h0) (by decide)⟩
  · have hbond := isolationF1_leads hs (f0 + 250000)
    by_cases hr : e.role = .standby
    · rw [if_pos hr] at hbond
      have hshows := shows_of_bond hbond
      exact ⟨hshows.isolation, hshows.sync, fun h1 => absurd h1 hs, fun _ _ => ⟨hshows.mode, hshows.role⟩,
        fun _ hp => absurd (hr.symm.trans hp) (by decide)⟩
    · rw [if_neg hr] at hbond
      have hshows := shows_of_bond hbond
      exact ⟨hshows.isolation, hshows.sync, fun h1 => absurd h1 hs, fun _ hp => absurd hp hr,
        fun _ hp => ⟨hshows.mode, hshows.role.trans hp⟩⟩

/-! ## DEPARTURE_F (R278) -/

theorem hartAttempt_dropped (s : State) (m : Nat) (x : HartTx) : (s.hartAttempt m x).ao.dropped = s.ao.dropped := by
  unfold State.hartAttempt
  split
  · rfl
  · extract_lets n ident f u
    split <;> rfl

theorem hartHandover_dropped (s : State) (gain : Bool) : (s.hartHandover gain).ao.dropped = s.ao.dropped := by
  unfold State.hartHandover
  refine foldl_reading (fun t => t.ao.dropped) (fun t m => ?_) s
  extract_lets h op drop u
  have hu : u.ao.dropped = t.ao.dropped := by
    simp only [u]
    split
    · rw [completeOpt_ao]
      rfl
    · rfl
  split
  · split
    · exact (hartAttempt_dropped _ _ _).trans hu
    · exact hu
  · exact hu

theorem panelAbandon_ao (s : State) : s.panelAbandon.2.ao = s.ao := kept (fun _ hm => panelAbandon_view s hm) .ao (by decide)
theorem excLead_ao (s : State) : s.excLead.ao = s.ao := kept (fun _ hm => excLead_view s hm) .ao (by decide)
theorem excOff_ao (s : State) : s.excOff.ao = s.ao := kept (fun _ hm => excOff_view s hm) .ao (by decide)
theorem resetSoak_ao (s : State) : s.resetSoak.ao = s.ao := rfl
theorem canRefresh_ao (s : State) : s.canRefresh.ao = s.ao := kept (fun _ hm => canRefresh_view s hm) .ao (by decide)
theorem injStopAll_ao (s : State) : s.injStopAll.ao = s.ao := kept (fun _ hm => injStopAll_view s hm) .ao (by decide)
theorem stopTasks_ao (s : State) : s.stopTasks.ao = s.ao := kept (fun _ hm => stopTasks_view s hm) .ao (by decide)

theorem passLead_dropped (s : State) (led mastered owned : Bool) (cause : Nat) :
    (s.passLead led mastered owned cause).ao.dropped = s.ao.dropped := by
  unfold State.passLead
  extract_lets u v
  have hu : u.ao.dropped = s.ao.dropped := by
    simp only [u]
    split
    · exact hartHandover_dropped s _
    · rfl
  have hv : v.ao.dropped = s.ao.dropped := by
    refine Eq.trans ?_ hu
    simp only [v]
    split
    · exact congrArg (fun a => a.dropped) (panelAbandon_ao u)
    · rfl
  split
  · exact (congrArg (fun a => a.dropped) (excLead_ao v)).trans hv
  · exact hv

/-- A change of role leaves dropped outputs dropped. -/
theorem enterRole_dropped (s : State) (r : Role) (cause : Nat) : (s.enterRole r cause).ao.dropped = s.ao.dropped := by
  unfold State.enterRole
  extract_lets oldRole led mastered owned u v
  have hu : u.ao = s.ao := injStopAll_ao s
  have hv : v.ao = (u.passLead led mastered owned cause).ao :=
    (resetSoak_ao _).trans (canRefresh_ao (u.passLead led mastered owned cause))
  rw [raise_ao, hv, passLead_dropped, hu]

/-- The outputs of a module that departs go off. -/
def State.outputsDropped (s : State) : State := { s with ao := { s.ao with dropped := true } }

theorem outputsDropped_bond (s : State) : s.outputsDropped.bond = s.bond := rfl

theorem modPair_sync_bond (s : State) : (s.modPair (fun p => { p with sync := false })).bond = { s.bond with sync := false } := rfl

theorem loopsStop_ao (s : State) : s.loopsStop.ao = s.ao := rfl

/-- The state of a module that departs, once its outputs are off and it has left its pair. -/
def State.departed (e : State) (d : Departure) : State :=
  let u := e.modPair (fun p => { p with departure := some d })
  let v := u.outputsDropped.stopTasks.loopsStop
  let w := (v.modPair (fun p => { p with sync := false })).excOff
  if w.role = .none then w else w.enterRole .none 7

theorem departed_dropped (e : State) (d : Departure) : (e.departed d).ao.dropped = true := by
  unfold State.departed
  extract_lets u v w
  have hv : v.ao.dropped = true := by
    simp only [v, loopsStop_ao, stopTasks_ao]
    rfl
  have hw : w.ao.dropped = true := by
    simp only [w, excOff_ao, modPair_ao, hv]
  split
  · exact hw
  · exact (enterRole_dropped w .none 7).trans hw

theorem departed_bond (e : State) (d : Departure) : (e.departed d).bond = { e.bond with sync := false, role := .none } := by
  unfold State.departed
  extract_lets u v w
  have hv : v.bond = e.bond := (loopsStop_bond _).trans ((stopTasks_bond _).trans (outputsDropped_bond u))
  have hw : w.bond = { e.bond with sync := false } := by
    rw [← hv]
    exact (excOff_bond _).trans (modPair_sync_bond v)
  split
  · rename_i hr
    rw [hw, show Role.none = e.bond.role from (hr.symm.trans (shows_of_bond hw).role)]
  · rw [enterRole_bond, hw]

theorem departureF_run {dt : Nat} {d : Departure} {s e : State} (he : s.elapse dt = e) (hd : e.pair.departure = some d)
    (hat : d.at_ ≤ e.now) : exec (.departureF dt) s = .next (e.departureF d) := by
  show execDepartureF dt s = _
  unfold execDepartureF
  simp only [he, hd]
  exact if_neg (Nat.not_lt.mpr hat)

/-- The partner of a module that departs goes on alone. -/
theorem departureF_partner {e : State} {d : Departure} (hl : d.leaving = false) :
    (e.departureF d).bond = { e.bond with mode := .m6, role := .solo, sync := false, isolation := none } := by
  unfold State.departureF
  extract_lets u
  rw [if_neg (by rw [hl]; decide), enterMode_bond _ (Or.inr (Or.inr rfl))]
  rfl

/-- A module that departs for a halt drops its outputs and goes on to it. -/
theorem departureF_leaves {e : State} {d : Departure} (hl : d.leaving = true) (hafter : d.after = 2) (hdrop : e.ao.dropped = false) :
    e.departureF d = ((e.modPair (fun p => { p with departure := none })).departed d).auto .m11 .none 7 := by
  unfold State.departureF
  extract_lets u v ao w x y
  have hkept : v.ao.dropped = false := hdrop
  rw [if_pos hl, if_neg (by rw [hkept]; decide), hafter]
  rfl

theorem departureF_departs {dt : Nat} {d : Departure} {s e : State} (he : s.elapse dt = e) (hd : e.pair.departure = some d)
    (hat : d.at_ ≤ e.now) : ∃ t, exec (.departureF dt) s = .next t ∧
      (d.leaving = false → t.mode = .m6 ∧ t.role = .solo ∧ t.pair.sync = false) ∧
      (d.leaving = true → d.after = 2 → e.ao.dropped = false → e.mu.auto = none → t.ao.dropped = true ∧ t.role = .none ∧
        t.mode = e.mode ∧ t.mu.auto = some ⟨.m11, .none, 7, frameAfter e.now⟩) := by
  refine ⟨_, departureF_run he hd hat, fun hl => ?_, fun hl hafter hdrop hauto => ?_⟩
  · have hshows := shows_of_bond (departureF_partner (e := e) hl)
    exact ⟨hshows.mode, hshows.role, hshows.sync⟩
  · have hshows := shows_of_bond (departed_bond (e.modPair (fun p => { p with departure := none })) d)
    have hdropped := departed_dropped (e.modPair (fun p => { p with departure := none })) d
    rw [departureF_leaves hl hafter hdrop]
    generalize (e.modPair (fun p => { p with departure := none })).departed d = u at hshows hdropped
    have hnow : u.now = e.now := hshows.now
    rw [auto_put _ _ _ (hshows.auto.trans hauto), hnow]
    exact ⟨hdropped, hshows.role, hshows.mode, rfl⟩

/-! ## The copy (R275, R276) -/

theorem sendCopyRest_pair (s : State) : s.sendCopyRest.pair = { s.pair with seqOut := s.sendCopyRest.pair.seqOut } :=
  (kept (m := 0) (fun _ _ => sendCopyRest_view s) .pair (by decide) : Part.same s _ .pair)

theorem foldl_ev {α : Type} {l : List α} {f : State → α → State} {s : State} (hf : ∀ t a, (f t a).ev = t.ev) :
    (l.foldl f s).ev = s.ev := foldl_reading State.ev hf s

theorem sendLoops_ev (s : State) : s.sendLoops.ev = s.ev := by
  unfold State.sendLoops
  exact (lane_ev _ _ _ _).trans (foldl_ev fun t x => lane_ev t _ _ _)

theorem sendCopyRest_ev (s : State) : s.sendCopyRest.ev = s.ev := by
  unfold State.sendCopyRest
  extract_lets s1 s2 s3 com s4 s5 s6 s7 s8 s9
  have h1 : s1.ev = s.ev := foldl_ev fun t n => (lane_ev _ _ _ _).trans (lane_ev t _ _ _)
  have h2 : s2.ev = s.ev := (foldl_ev fun t x => lane_ev t _ _ _).trans h1
  have h3 : s3.ev = s.ev := (foldl_ev fun t x => lane_ev t _ _ _).trans h2
  have h4 : s4.ev = s.ev := by
    refine (foldl_ev fun t i => ?_).trans h3
    extract_lets v
    split
    · rfl
    · exact lane_ev t _ _ _
  have h5 : s5.ev = s.ev := by
    refine (foldl_ev fun t k => ?_).trans h4
    extract_lets v
    split
    · rfl
    · exact lane_ev t _ _ _
  have h6 : s6.ev = s.ev := (sendLoops_ev s5).trans h5
  have h7 : s7.ev = s.ev := (foldl_ev fun t x => lane_ev t _ _ _).trans h6
  have h8 : s8.ev = s.ev := (lane_ev s7 _ _ _).trans h7
  have h9 : s9.ev = s.ev := (foldl_ev fun t n => lane_ev t _ _ _).trans h8
  exact (foldl_ev fun t m => lane_ev t _ _ _).trans h9

/-- The state once the end of a copy is told, with EV038. -/
def State.copyTold (e : State) (c : Copy) : State :=
  (e.modPair (fun p => { p with lastCopy := (e.tick - c.since) / Config.ticksPerMs })).raise 38
    [(8, c.bytes), (4, (e.tick - c.since) / Config.ticksPerMs)]

theorem copyTold_pair (e : State) (c : Copy) : (e.copyTold c).pair = { e.pair with lastCopy := (e.tick - c.since) / Config.ticksPerMs } :=
  raise_pair _ _ _

theorem copyTold_tells (e : State) (c : Copy) :
    Occurs e (e.copyTold c) 38 [(8, c.bytes), (4, (e.tick - c.since) / Config.ticksPerMs)] := occurs_raise rfl rfl rfl rfl

/-- The instant that the running module chooses at the end of the copy (R39, R276). -/
theorem copyTold_instant (e : State) (c : Copy) :
    frameAtOrAfter ((e.copyTold c).now + (e.copyTold c).switchLead) = frameAtOrAfter (e.now + e.switchLead) := by
  have hnow : (e.copyTold c).now = e.now := congrArg Clk.tb (raise_clk _ _ _)
  have hlead : (e.copyTold c).switchLead = e.switchLead := congrArg (· * 1000) (raise_eff _ _ _ _)
  rw [hnow, hlead]

/-- The state of the running module once all of the copy has gone out. -/
def State.copySent (e : State) (c : Copy) : State := (e.copyTold c).sendCopyRest.modPair (fun p => { p with copy := none })

theorem copySent_pair (e : State) (c : Copy) : ∃ n, (e.copySent c).pair =
    { e.pair with lastCopy := (e.tick - c.since) / Config.ticksPerMs, copy := none, seqOut := n } := by
  refine ⟨(e.copyTold c).sendCopyRest.pair.seqOut, ?_⟩
  unfold State.copySent
  rw [modPair_pair, sendCopyRest_pair, copyTold_pair]

theorem copySent_ev (e : State) (c : Copy) : (e.copySent c).ev = (e.copyTold c).ev := by
  unfold State.copySent
  rw [modPair_ev, sendCopyRest_ev]

theorem copyComplete_taken (e : State) {c : Copy} (hc : c.taking = true) :
    e.copyComplete c = (e.copyTold c).modPair (fun p => { p with copy := none }) := if_pos hc

theorem copyComplete_joins (e : State) {c : Copy} (hc : c.taking = false) (hj : e.pair.joining = true) : ∃ m : ModeChange,
    e.copyComplete c = ((e.copySent c).modMu (fun u => { u with pending := some m })).announce 1
        [2, frameAtOrAfter (e.now + e.switchLead), 0] ∧
      m.target = .m4 ∧ m.role = .primary ∧ m.at_ = frameAtOrAfter (e.now + e.switchLead) ∧ m.confirmed = false := by
  obtain ⟨n, hpair⟩ := copySent_pair e c
  have hjoin : (e.copySent c).pair.joining = true := by
    rw [hpair]
    exact hj
  rw [← copyTold_instant e c]
  unfold State.copyComplete
  extract_lets ms u0 u f v m
  have hv : v = e.copySent c := rfl
  rw [if_neg (by rw [hc]; decide), if_pos (hv ▸ hjoin), hv]
  exact ⟨m, rfl, rfl, rfl, rfl, rfl⟩

theorem copyComplete_resumes (e : State) {c : Copy} (hc : c.taking = false) (hj : e.pair.joining = false) :
    e.copyComplete c = ((e.copySent c).modPair (fun p => { p with resumeAt := some (frameAtOrAfter (e.now + e.switchLead)) })).announce 1
        [4, frameAtOrAfter (e.now + e.switchLead), 0] := by
  obtain ⟨n, hpair⟩ := copySent_pair e c
  have hjoin : ¬(e.copySent c).pair.joining = true := by
    rw [hpair, hj]
    decide
  rw [← copyTold_instant e c]
  unfold State.copyComplete
  extract_lets ms u0 u f v m
  have hv : v = e.copySent c := rfl
  have hf : f = frameAtOrAfter ((e.copyTold c).now + (e.copyTold c).switchLead) := rfl
  rw [if_neg (by rw [hc]; decide), if_neg (hv ▸ hjoin), hv, hf]

theorem announce_ev (s : State) (k : Nat) (l : List Nat) : (s.announce k l).ev = s.ev := lane_ev s 0x0A _ _

theorem copyComplete_ends {dt : Nat} {c : Copy} {s e : State} (he : s.elapse dt = e) (hc : e.pair.copy = some c) :
    ∃ t, exec (.copyComplete dt) s = .next t ∧ t.pair.copy = none ∧ t.pair.lastCopy = (e.tick - c.since) / Config.ticksPerMs ∧
      Occurs e t 38 [(8, c.bytes), (4, (e.tick - c.since) / Config.ticksPerMs)] ∧
      (c.taking = false → e.pair.joining = true → ∃ m, t.mu.pending = some m ∧ m.target = .m4 ∧ m.role = .primary ∧
        m.at_ = frameAtOrAfter (e.now + e.switchLead) ∧ m.confirmed = false) ∧
      (c.taking = false → e.pair.joining = false → t.pair.resumeAt = some (frameAtOrAfter (e.now + e.switchLead))) := by
  have hrun : exec (.copyComplete dt) s = .next (e.copyComplete c) := by
    show execCopyComplete dt s = _
    unfold execCopyComplete
    simp only [he, hc]
  have htells := copyTold_tells e c
  obtain ⟨n, hpair⟩ := copySent_pair e c
  refine ⟨_, hrun, ?_⟩
  cases htake : c.taking with
  | true =>
    rw [copyComplete_taken e htake, modPair_pair, copyTold_pair]
    exact ⟨rfl, rfl, htells, nofun, nofun⟩
  | false =>
    cases hj : e.pair.joining with
    | true =>
      obtain ⟨m, hm, htarget, hrole, hat, hconf⟩ := copyComplete_joins e htake hj
      rw [hm, announce_pair, announce_mu, modMu_pair, hpair]
      refine ⟨rfl, rfl, htells.of_src ?_, fun _ _ => ⟨m, rfl, htarget, hrole, hat, hconf⟩, nofun⟩
      rw [announce_ev, modMu_ev, copySent_ev]
    | false =>
      rw [copyComplete_resumes e htake hj, announce_pair, modPair_pair, hpair]
      refine ⟨rfl, rfl, htells.of_src ?_, nofun, fun _ _ => rfl⟩
      rw [announce_ev, modPair_ev, copySent_ev]

/-- A join that fails ends its copy, with its cause. -/
theorem joinFails_pair (s : State) (st : Status) {cause : Nat} (hc : cause ≠ 0) (leave : Bool) :
    (s.joinFails st cause leave).pair = { s.pair with joining := false, copy := none, refuseCause := cause } := by
  unfold State.joinFails
  extract_lets op mu s1 s2 s3
  have h3 : s3.pair = s2.pair := by
    simp only [s3]
    split
    · unfold State.auto
      extract_lets put
      split
      · split <;> rfl
      · rfl
    · rfl
  rw [completeOpt_pair, h3]
  simp only [s2, modPair_pair, hc, if_false]
  rfl

/-- A joining module in M7 goes back to M3. -/
theorem joinFails_auto {s : State} (st : Status) (cause : Nat) (hm : s.mode = .m7) (ha : s.mu.auto = none) :
    (s.joinFails st cause true).mu.auto = some ⟨.m3, .none, 7, frameAfter s.now⟩ := by
  unfold State.joinFails
  extract_lets op mu s1 s2 s3
  have h3 : s3 = s2.auto .m3 .none 7 := if_pos (by
    have hmode : s2.mode = .m7 := hm
    rw [hmode]
    rfl)
  have ha2 : s2.mu.auto = none := ha
  rw [completeOpt_mu, h3, auto_put _ _ _ ha2]
  rfl

theorem copyTimeout_gives {dt : Nat} {c : Copy} {s e : State} (he : s.elapse dt = e) (hc : e.pair.copy = some c)
    (hj : e.pair.joining = true) (hlate : e.since c.since (60 * Config.ticksPerSecond) = true) :
    ∃ t, exec (.copyTimeout dt) s = .next t ∧ t.pair.joining = false ∧ t.pair.copy = none ∧
      (c.taking = true → t.pair.refuseCause = 6 ∧ (e.mode = .m7 → e.mu.auto = none → t.mu.auto = some ⟨.m3, .none, 7, frameAfter e.now⟩)) := by
  have hrun : exec (.copyTimeout dt) s = .next (if c.taking then e.joinFails .notReady 6 true
      else e.modPair (fun p => { p with joining := false, copy := none })) := by
    show execCopyTimeout dt s = _
    unfold execCopyTimeout
    simp only [he, hc, hj, hlate, Bool.not_true, Bool.or_self, Bool.false_eq_true, if_false, apply_ite Host.Outcome.next]
  refine ⟨_, hrun, ?_⟩
  cases htake : c.taking with
  | true =>
    rw [if_pos rfl, joinFails_pair e .notReady (by decide) true]
    exact ⟨rfl, rfl, fun _ => ⟨rfl, fun hm ha => joinFails_auto .notReady 6 hm ha⟩⟩
  | false => exact ⟨rfl, rfl, nofun⟩

/-! ## Takeback (R281) -/

/-- Where its soak is complete and a swap can be made, the named module asks for its takeback. -/
theorem takeback_asks {s : State} {k : Nat} (hk : s.pair.soakFrom = some k)
    (hsoak : s.since k (s.eff 0x0204 * Config.ticksPerSecond) = true)
    (hwait : ∀ after, s.pair.takebackAfter = some after → after ≤ s.tick) (hrole : s.role = .standby)
    (hnamed : s.eff 0x0201 = s.mu.slot) (hready : s.swapReady = true) (hwhole : s.broken = false) (hfree : s.mu.pending = none) :
    ∃ c, s.takeback.mu.pending = some c ∧ c.target = .m4 ∧ c.role = .primary ∧ c.cause = 2 ∧ c.asked = true ∧
      s.takeback.pair.swap = some 2 ∧ s.takeback.pair.takebackAfter = none := by
  have htake : s.takeback = (s.modPair (fun p => { p with takebackAfter := none })).askSwap 2 none := by
    unfold State.takeback
    cases hafter : s.pair.takebackAfter with
    | none =>
      simp only [hk, hsoak, hrole, hnamed, hready, hwhole, hfree, beq_self_eq_true, Bool.not_false, Bool.and_self, Option.isNone_none,
        if_true]
    | some after =>
      have hdue : decide (s.tick < after) = false := decide_eq_false (Nat.not_lt.mpr (hwait after hafter))
      simp only [hk, hsoak, hdue, hrole, hnamed, hready, hwhole, hfree, beq_self_eq_true, Bool.not_false, Bool.and_self,
        Option.isNone_none, if_true]
  have hasked : ∃ c : ModeChange, (s.modPair (fun p => { p with takebackAfter := none })).askSwap 2 none =
      ((s.modPair (fun p => { p with takebackAfter := none, swap := some 2 })).modMu (fun u => { u with pending := some c })).announce 1
        [8, c.at_, 2] ∧ c.target = .m4 ∧ c.role = .primary ∧ c.cause = 2 ∧ c.asked = true := by
    have hup : (s.modPair (fun p => { p with takebackAfter := none })).role = .standby := hrole
    unfold State.askSwap
    simp only [hup, beq_self_eq_true, if_true]
    exact ⟨_, rfl, rfl, rfl, rfl, rfl⟩
  obtain ⟨c, hc, htarget, hto, hcause, hask⟩ := hasked
  rw [htake, hc, announce_mu, announce_pair]
  exact ⟨c, rfl, htarget, hto, hcause, hask, rfl, rfl⟩

end Sys2Proof.Machine
end

section
open Sys2Proof Sys2Proof.Machine

/-- Settles O21, row by row: what a lost partner changes besides is shown not to touch what the rows say of lanes, heartbeat, mode and
events, which the bond collects. -/
theorem pairLossRowsComplete : Obligations.PairLossRowsComplete := by
  refine ⟨fun _ _ _ _ _ he hl hup hcause => syncLaneDown_falls he hl hup hcause,
    fun _ _ _ _ he hl hm => syncLaneUp_returns he hl hm,
    fun _ _ _ he hh => partnerHeartbeatLost_loses he hh,
    fun _ _ _ he hm => partnerHeartbeatPresent_returns he hm,
    fun _ _ _ he hm => isolatingPatternSeen_notes he hm,
    fun _ _ _ _ he hi hf => isolationF1_ends he hi hf,
    fun _ _ _ _ he hd hat => departureF_departs he hd hat,
    fun _ _ _ _ he hc => copyComplete_ends he hc,
    fun _ _ _ _ he hc hj hlate => copyTimeout_gives he hc hj hlate,
    fun dt k s e he hk hsoak hafter hrole hnamed hready hwhole hfree => ?_,
    fun dt k after s e he hk hsoak hafter hdue hrole hnamed hready hwhole hfree => ?_⟩
  · obtain ⟨c, hpending, htarget, hto, hcause, hask, hswap, -⟩ :=
      takeback_asks hk hsoak (by rw [hafter]; exact nofun) hrole hnamed hready hwhole hfree
    have hrun : exec (.soakExpiry dt) s = .next e.takeback := by
      subst he
      rfl
    exact ⟨_, c, hrun, hpending, htarget, hto, hcause, hask, hswap⟩
  · obtain ⟨c, hpending, htarget, hto, hcause, hask, hswap, hnone⟩ :=
      takeback_asks hk hsoak (by rw [hafter]; rintro _ ⟨⟩; exact hdue) hrole hnamed hready hwhole hfree
    have hrun : exec (.takebackRetry dt) s = .next e.takeback := by
      show execTakebackRetry dt s = _
      unfold execTakebackRetry
      simp only [he, hafter, hdue, if_true]
    exact ⟨_, c, hrun, hpending, htarget, hto, hcause, hask, hswap, hnone⟩

end

section
/-!
PROOFS. Core pairs: their drains and what a drain instant brings (R302–R304, R307, R320), and the load of the checker (R304).
-/
namespace Sys2Proof.Machine

variable {dt p : Nat} {s : State}

/-! ## SPLIT and JOIN (R302) -/

/-- An accepted command that begins a drain of its pair: no other pair changes, and its operation is under way. -/
theorem mail_drains {c : Cmd} {mine : List Byte → Bool} {q : Packet} {x : Session} {kind : DrainKind}
    (h : Accepted c (s.elapse dt) q x) (hm : mine q.data = true)
    (hr : c.run (reqOf q) (runsIn (s.elapse dt) q x) =
      runAsync (fun op b _ u => u.drainPair (beAt b 0 1) kind op) (reqOf q) (runsIn (s.elapse dt) q x)) :
    ∃ t, execMail c mine dt q s = .next t ∧
      t.corePair (beAt (reqOf q).body 0 1) = { s.corePair (beAt (reqOf q).body 0 1) with
        drain := some ⟨kind, (s.elapse dt).tick, some s.mbx.nextOp, none⟩ } ∧
      (∀ k, k ≠ beAt (reqOf q).body 0 1 → t.corePair k = s.corePair k) ∧ Answers t q x s.mode s.role .accepted 0 [] := by
  obtain ⟨v, hv, hbody, -, hans⟩ := mail_runAsync h hm hr
  have hpair : ∀ k, v.corePair k = s.corePair k := fun k => (congrArg (State.corePair · k) hbody :)
  have htick : v.tick = (s.elapse dt).tick := (congrArg State.tick hbody :)
  refine ⟨_, hv, ?_, fun k hk => (modCore_corePair_ne v _ _ hk).trans (hpair k), hans⟩
  rw [← hpair, ← htick]
  exact modCore_corePair_self v _ _

/-! ## SPLIT_DRAIN_INSTANT (R303, R304, R307, R320) -/

theorem exec_splitDrainInstant {d : Drain} (hp : p < 10) (hd : (s.corePair p).drain = some d) (hload : d.loading = none)
    (hidle : s.pairIdle p = true) (h3 : s.mode ≠ .m3 ∨ (s.elapse dt).atFrame = true) :
    exec (.splitDrainInstant dt p) s = .next ((s.elapse dt).drained p d) := by
  have h3' : ((s.elapse dt).mode == .m3 && !(s.elapse dt).atFrame) = false := by
    rcases h3 with hm | hf
    · rw [show (s.elapse dt).mode = s.mode from rfl, beq_eq_false_iff_ne.mpr hm]
      rfl
    · rw [hf]
      exact Bool.and_false _
  show execSplitDrainInstant dt p s = _
  unfold execSplitDrainInstant
  simp only [if_neg (Nat.not_le.mpr hp), show ((s.elapse dt).corePair p).drain = some d from hd, hload, Option.isSome_none,
    show (s.elapse dt).pairIdle p = true from hidle, h3', Bool.not_true, Bool.or_self, Bool.false_eq_true, if_false]

/-- What only the drained pair and what its event or its completion touch: the pairs as a change of pair `p` leaves them. -/
theorem corePair_of_lk {t : State} (h : t.lk = s.lk) (k : Nat) : t.corePair k = s.corePair k :=
  congrArg (fun l : Lockstep => tget l.pair k {}) h

section
variable {d : Drain}

/-- At its drain instant a pair splits, with EV067 (R303). -/
theorem drained_split (hk : d.kind = .split) :
    (s.drained p d).lk = (s.modCore p (fun c => { c with drain := none, room := 2, reset := some s.tick })).lk ∧
      Occurs s (s.drained p d) 67 [(1, p), (4, s.eff (0x0701 + 8 * p))] := by
  unfold State.drained
  rw [hk]
  exact ⟨(completeOpt_lk _ _ _ _).trans (raise_lk _ _ _), occurs_raise (completeOpt_ev _ _ _ _) rfl rfl rfl⟩

/-- At its drain instant the load of a checker begins (R304). -/
theorem drained_loads (hk : d.kind = .join ∨ d.kind = .detach) :
    s.drained p d = s.modCore p (fun c => { c with drain := some { d with loading := some s.tick } }) := by
  unfold State.drained
  rcases hk with hk | hk <;> rw [hk]

/-- At its drain instant a pair breaks for the debugger, with EV070 (R307). -/
theorem drained_breaks (hk : d.kind = .attach) :
    (s.drained p d).lk = (s.modCore p (fun c => { c with drain := none, room := 3 })).lk ∧
      ∀ g, s.lk.debugger = some g → Occurs s (s.drained p d) 70 [(1, p), (4, g.session.toNat), (1, 1)] := by
  unfold State.drained
  rw [hk]
  refine ⟨raiseMand_lk _ _ _, fun g hg => occurs_raiseMand (u := s.modCore p (fun c => { c with drain := none, room := 3 })) ?_
    rfl rfl rfl⟩
  simp only [show (s.modCore p (fun c => { c with drain := none, room := 3 })).lk.debugger = some g from hg]

/-- At its drain instant a pair is free for its migration (R320). -/
theorem drained_migrates (hk : d.kind = .migrate) :
    (s.drained p d).lk = (s.modCore p (fun c => { c with drain := none })).lk ∧
      (s.drained p d).annex.waiting = s.annex.waiting.map (fun m => if m.resource = p then { m with ready := true } else m) := by
  unfold State.drained
  rw [hk]
  exact ⟨rfl, rfl⟩

end

end Sys2Proof.Machine
end

section
/-!
PROOFS. A drain given up, and the load of a joined pair's checker, after which its held starts open (R303, R304).
-/
namespace Sys2Proof.Machine

variable {dt p : Nat} {s : State} {d : Drain}

/-! ## SPLIT_DRAIN_TIMEOUT (R303, R320) -/

/-- A drain that is given up, but for the completion of its command. -/
def State.drainGivenUp (s : State) (p : Nat) (d : Drain) : State :=
  let s := s.modCore p (fun c => { c with drain := none })
  let s := if d.kind = .attach then { s with lk := { s.lk with debugger := none } } else s
  if d.kind = .migrate then
    { s with annex := { s.annex with waiting := s.annex.waiting.filter (fun m => m.resource != p) } } else s

theorem drainGivenUp_corePair : (s.drainGivenUp p d).corePair p = { s.corePair p with drain := none } := by
  have h : (s.drainGivenUp p d).lk.pair = (s.modCore p (fun c => { c with drain := none })).lk.pair := by
    unfold State.drainGivenUp
    dsimp only
    split <;> split <;> rfl
  exact (congrArg (fun l : Tab CorePair => tget l p {}) h).trans (modCore_corePair_self s p _)

theorem drainGivenUp_attach (hk : d.kind = .attach) : (s.drainGivenUp p d).lk.debugger = none := by
  unfold State.drainGivenUp
  simp [hk]

theorem drainGivenUp_migrate (hk : d.kind = .migrate) :
    (s.drainGivenUp p d).annex.waiting = s.annex.waiting.filter (fun m => m.resource != p) := by
  unfold State.drainGivenUp
  simp [hk]

theorem exec_splitDrainTimeout (hp : p < 10) (hd : (s.corePair p).drain = some d) (hload : d.loading = none)
    (hk : d.kind ≠ .detach) (hlate : (s.elapse dt).since d.since Config.ticksPerSecond = true) :
    exec (.splitDrainTimeout dt p) s = .next (((s.elapse dt).drainGivenUp p d).completeOpt d.op .notReady) := by
  show execSplitDrainTimeout dt p s = _
  unfold execSplitDrainTimeout
  simp only [if_neg (Nat.not_le.mpr hp), show ((s.elapse dt).corePair p).drain = some d from hd, hload, Option.isSome_none, hlate,
    beq_eq_false_iff_ne.mpr hk, Bool.not_true, Bool.or_self, Bool.false_eq_true, if_false]
  rfl

/-! ## Held starts open (R146, R304) -/

/-- Each task of the list that has no open cycle takes up its next held start. -/
def State.startsOpen (s : State) (l : List Nat) : State :=
  l.foldl (fun s n => if (s.cyc n).isNone then s.nextHeld n else s) s

theorem startsOpen_reading {β : Type} (g : State → β) (hg : ∀ (t : State) (n : Nat), g (t.nextHeld n) = g t) (s : State)
    (l : List Nat) : g (s.startsOpen l) = g s :=
  foldl_reading g (fun t n => by
    split
    · exact hg t n
    · rfl) s

theorem nextHeld_lk (s : State) (n : Nat) : (s.nextHeld n).lk = s.lk := by
  unfold State.nextHeld
  split <;> rfl

theorem nextHeld_task_ne (s : State) {m n : Nat} (h : m ≠ n) : (s.nextHeld n).task m = s.task m := by
  unfold State.nextHeld
  split
  · rfl
  · exact modTask_task_ne s n _ h

/-- A task that is not in the list keeps what it has. -/
theorem startsOpen_task_of_notMem {n : Nat} {l : List Nat} (hn : n ∉ l) : (s.startsOpen l).task n = s.task n :=
  List.foldlRecOn (motive := fun t : State => t.task n = s.task n) l _ rfl fun t ht m hm => by
    split
    · exact (nextHeld_task_ne t (ne_of_mem_of_not_mem hm hn).symm).trans ht
    · exact ht

/-- The start of a task opens, whatever other tasks are in the list. -/
theorem startsOpen_cyc {n : Nat} {l : List Nat} (hl : l.Nodup) (hn : n ∈ l) (hc : s.cyc n = none) :
    (s.startsOpen l).cyc n = (s.task n).heldStarts.head? := by
  induction l generalizing s with
  | nil => cases hn
  | cons a l ih =>
    obtain ⟨ha, hl⟩ := List.nodup_cons.mp hl
    by_cases hna : n = a
    · subst hna
      have hfirst : (if (s.cyc n).isNone then s.nextHeld n else s) = s.nextHeld n := if_pos (by rw [hc]; rfl)
      show ((if (s.cyc n).isNone then s.nextHeld n else s).startsOpen l).cyc n = _
      rw [hfirst]
      exact (congrArg Task.cyc (startsOpen_task_of_notMem ha)).trans (nextHeld_cyc hc)
    · have hstep : (if (s.cyc a).isNone then s.nextHeld a else s).task n = s.task n := by
        split
        · exact nextHeld_task_ne s hna
        · rfl
      refine (ih hl ((List.mem_cons.mp hn).resolve_left hna) ((congrArg Task.cyc hstep).trans hc)).trans ?_
      rw [hstep]

/-! ## JOIN_LOAD_DONE (R304) -/

/-- The checker is loaded: the pair is joined, with EV068, and its command completes. -/
def State.pairJoined (s : State) (p since : Nat) (op : Option Nat) : State :=
  ((s.modCore p (fun c => { c with drain := none, room := s.joinedRoom p })).raise 68 [(1, p), (8, (s.tick - since) * 8)]).completeOpt
    op .ok

theorem exec_joinLoadDone {since : Nat} (hp : p < 10) (hd : (s.corePair p).drain = some d) (hload : d.loading = some since)
    (hlong : (s.elapse dt).since since (40 * Config.ticksPerUs) = true) :
    exec (.joinLoadDone dt p) s =
      .next (((s.elapse dt).pairJoined p since d.op).startsOpen (((s.elapse dt).pairJoined p since d.op).pairTasks p)) := by
  show execJoinLoadDone dt p s = _
  unfold execJoinLoadDone
  simp only [if_neg (Nat.not_le.mpr hp), show ((s.elapse dt).corePair p).drain = some d from hd, hload, hlong, Bool.not_true,
    Bool.false_eq_true, if_false]
  rfl

theorem pairJoined_body (s : State) (p since : Nat) (op : Option Nat) :
    (s.pairJoined p since op).body = (s.modCore p (fun c => { c with drain := none, room := s.joinedRoom p })).body :=
  (completeOpt_body _ _ _ _).trans (raise_body _ _ _)

theorem pairTasks_nodup (s : State) (p : Nat) : (s.pairTasks p).Nodup := List.nodup_range.filter _

theorem joinLoadDone_joins {since : Nat} (hp : p < 10) (hd : (s.corePair p).drain = some d) (hload : d.loading = some since)
    (hlong : (s.elapse dt).since since (40 * Config.ticksPerUs) = true) :
    ∃ t, exec (.joinLoadDone dt p) s = .next t ∧ t.corePair p = { s.corePair p with drain := none, room := s.joinedRoom p } ∧
      Occurs (s.elapse dt) t 68 [(1, p), (8, ((s.elapse dt).tick - since) * 8)] ∧
      ∀ n ∈ s.pairTasks p, s.cyc n = none → t.cyc n = (s.task n).heldStarts.head? := by
  refine ⟨_, exec_joinLoadDone hp hd hload hlong, ?_, ?_, fun n hn hc => ?_⟩
  all_goals
    have hbody := pairJoined_body (s.elapse dt) p since d.op
    generalize hu : (s.elapse dt).pairJoined p since d.op = u at hbody ⊢
  · refine (corePair_of_lk (startsOpen_reading State.lk nextHeld_lk u _) p).trans ?_
    exact (congrArg (State.corePair · p) hbody :).trans (modCore_corePair_self (s.elapse dt) p _)
  · refine occurs_raise (u := (s.elapse dt).modCore p (fun c => { c with drain := none, room := (s.elapse dt).joinedRoom p }))
      ((congrArg Events.src (startsOpen_reading State.ev nextHeld_ev u _)).trans ?_) rfl rfl rfl
    rw [← hu]
    exact completeOpt_ev _ _ _ _
  · have htasks : u.pairTasks p = s.pairTasks p := (congrArg (State.pairTasks · p) hbody :)
    have htask : u.task n = s.task n := (congrArg (State.task · n) hbody :)
    rw [htasks, ← htask]
    exact startsOpen_cyc (pairTasks_nodup s p) hn ((congrArg Task.cyc htask).trans hc)

end Sys2Proof.Machine
end

section
/-!
PROOFS. A mismatch of a pair (R294, R295): the cycles it abandons are to be run again, and what a retirement does after it leaves them.
-/
namespace Sys2Proof.Machine

variable {p n : Nat} {s : State}

/-! ## A cycle abandoned for its recovery run (R142, R146) -/

/-- The cycle `c` has been abandoned and awaits its recovery run. -/
structure AwaitsRecovery (k : Task) (c : Cycle) : Prop where
  gone : k.cyc = none
  kept : k.abandoned = some { c with recovery := true, loaded := false }
  recovering : k.recovering = true

theorem withhold_task_ne (s : State) {m : Nat} (h : m ≠ n) (k osn : Nat) : (s.withhold n k osn).task m = s.task m := by
  unfold State.withhold
  extract_lets come t u
  have ht : t.task m = s.task m := modTask_task_ne s n _ h
  have hu : u.tk.task = t.tk.task := by
    simp only [u]
    split
    · exact (kept (m := 0) (fun _ _ => lane_view t 3 _ _) .tasks (by decide) : Part.same t _ .tasks).1
    · rfl
  have hread : ∀ v : State, v.tk.task = u.tk.task → v.task m = s.task m :=
    fun v hv => (congrArg (fun k : Tab Task => tget k m {}) (hv.trans hu)).trans ht
  clear_value come
  cases come with
  | none => exact hread u rfl
  | some d => exact hread _ (driveOutputs_task u d.ao d.dos)

theorem abandon_task_ne (s : State) {m : Nat} (h : m ≠ n) (k : Nat) : (s.abandon n k).task m = s.task m := by
  unfold State.abandon
  split
  · rfl
  · have hcyc := modTask_task_ne s n (fun k => { k with cyc := none }) h
    dsimp only
    split
    · exact hcyc
    · exact (withhold_task_ne _ h k _).trans hcyc

theorem abandonForRecovery_task_ne (s : State) {m : Nat} (h : m ≠ n) : (s.abandonForRecovery n).task m = s.task m := by
  unfold State.abandonForRecovery
  split
  · rfl
  · exact (modTask_task_ne _ n _ h).trans (abandon_task_ne s h 1)

theorem abandonForRecovery_awaits {c : Cycle} (hc : s.cyc n = some c) : AwaitsRecovery ((s.abandonForRecovery n).task n) c := by
  unfold State.abandonForRecovery
  rw [hc]
  obtain ⟨w, q, h, ha⟩ := abandon_task hc 1
  rw [modTask_task_self, ha]
  exact ⟨rfl, rfl, rfl⟩

theorem abandonForRecovery_idle (hc : s.cyc n = none) : s.abandonForRecovery n = s := by
  unfold State.abandonForRecovery
  rw [hc]

/-- What awaits its recovery run goes on doing so when other cycles are abandoned. -/
theorem AwaitsRecovery.foldl {c : Cycle} {l : List Nat} (h : AwaitsRecovery (s.task n) c) :
    AwaitsRecovery ((l.foldl State.abandonForRecovery s).task n) c :=
  List.foldlRecOn (motive := fun t : State => AwaitsRecovery (t.task n) c) l _ h fun t ht m _ => by
    by_cases hm : n = m
    · rw [← hm, abandonForRecovery_idle ht.gone]
      exact ht
    · rw [abandonForRecovery_task_ne t hm]
      exact ht

theorem foldl_abandonForRecovery {c : Cycle} {l : List Nat} (hn : n ∈ l) (hc : s.cyc n = some c) :
    AwaitsRecovery ((l.foldl State.abandonForRecovery s).task n) c := by
  induction l generalizing s with
  | nil => cases hn
  | cons m l ih =>
    by_cases hm : n = m
    · subst hm
      exact (abandonForRecovery_awaits hc).foldl
    · exact ih ((List.mem_cons.mp hn).resolve_left hm) ((congrArg Task.cyc (abandonForRecovery_task_ne s hm)).trans hc)

/-! ## Retirement (R301, R320, R326) -/

/-- What follows the record that a pair is retired: its tasks go elsewhere, or the module halts. -/
theorem retire_corePair (s : State) (p cause k : Nat) :
    (s.retire p cause).corePair k = (s.modCore p (fun c => { c with failed := true })).corePair k := by
  unfold State.retire
  extract_lets u v
  have hv : v.lk = (s.modCore p (fun c => { c with failed := true })).lk := raiseMand_lk _ _ _
  have hread : ∀ w : State, Part.same v w .lockstep →
      w.corePair k = (s.modCore p (fun c => { c with failed := true })).corePair k := fun w hw => by
    unfold State.corePair
    rw [hw.1, hv]
  have hempty : Part.same v (v.exhaust 1) .lockstep := kept (fun _ hm => exhaust_view v 1 hm) .lockstep (by decide)
  split
  · split
    · exact hread _ (kept (fun _ hm => (moveTasks_view _ p _ (.of hm (by decide))).trans (exhaust_view v 1 (.of hm (by decide))))
        .lockstep (by decide : (0x2000040 : Nat).testBit _ = false))
    · exact hread _ (kept (fun _ hm => (halt_view _ 5 p (.of hm (by decide))).trans (exhaust_view v 1 (.of hm (by decide))))
        .lockstep (by decide : (0x2004208 : Nat).testBit _ = false))
  · exact hread _ (kept (fun _ hm => provenFault_view v p hm) .lockstep (by decide))

theorem retire_tasks (s : State) (p cause : Nat) : (s.retire p cause).tk.task = s.tk.task :=
  (kept (fun _ hm => retire_view s p cause hm) .tasks (by decide) : Part.same s _ .tasks).1

/-! ## The mismatch (R294, R295) -/

/-- The mismatch is on record: reset, count, history and detail of the pair, EV064, and SoakElapsed afresh. -/
def State.mismatchNoted (s : State) (p kind lane : Nat) (hit : List Nat) : State :=
  let first := hit.headD 0xFF
  let osn := match s.cyc first with | some c => c.osn | none => 0
  let s := s.modCore p (fun c => { c with
    reset := some s.tick, mismatches := c.mismatches + 1, history := s.recent p ++ [s.ident.opSeconds],
    testAt := none, lastTime := s.now, detail := lane % 64 * 67108864 + kind % 4 * 16777216 + first % 256 * 65536 })
  (s.raiseMand 64 [(1, p), (1, kind), (1, lane), (1, first), (4, osn)]).resetSoak

/-- What a mismatch leaves on record of its pair. -/
structure MismatchSeen (c c' : CorePair) (tick now : Nat) : Prop where
  reset : c'.reset = some tick
  counted : c'.mismatches = c.mismatches + 1
  time : c'.lastTime = now

theorem mismatchNoted_seen (s : State) (p kind lane : Nat) (hit : List Nat) :
    MismatchSeen (s.corePair p) ((s.mismatchNoted p kind lane hit).corePair p) s.tick s.now := by
  have hlk : ∀ (u : State) (d : List (Nat × Nat)), (u.raiseMand 64 d).resetSoak.corePair p = u.corePair p :=
    fun u d => corePair_of_lk (raiseMand_lk u 64 d) p
  unfold State.mismatchNoted
  rw [hlk, modCore_corePair_self]
  exact ⟨rfl, rfl, rfl⟩

theorem mismatchNoted_tk (s : State) (p kind lane : Nat) (hit : List Nat) : (s.mismatchNoted p kind lane hit).tk = s.tk :=
  raiseMand_tk _ _ _

theorem mismatch_retires (s : State) (p kind lane : Nat) (hit : List Nat) :
    s.mismatch p kind lane hit = hit.foldl State.abandonForRecovery (s.mismatchNoted p kind lane hit) ∨
      s.mismatch p kind lane hit = (hit.foldl State.abandonForRecovery (s.mismatchNoted p kind lane hit)).retire p 1 := by
  by_cases h : (p < 10 && decide (3 ≤ ((hit.foldl State.abandonForRecovery (s.mismatchNoted p kind lane hit)).recent p).length) &&
      !((hit.foldl State.abandonForRecovery (s.mismatchNoted p kind lane hit)).corePair p).failed) = true
  · exact .inr (if_pos h)
  · exact .inl (if_neg h)

theorem foldl_abandonForRecovery_corePair (s : State) (hit : List Nat) (k : Nat) :
    (hit.foldl State.abandonForRecovery s).corePair k = s.corePair k := by
  refine foldl_reading (fun t => t.corePair k) (fun t n => ?_) s
  have h : Part.same t (t.abandonForRecovery n) .lockstep := kept (fun _ hm => abandonForRecovery_view t n hm) .lockstep (by decide)
  unfold State.corePair
  rw [h.1]

theorem mismatch_seen (s : State) (p kind lane : Nat) (hit : List Nat) :
    MismatchSeen (s.corePair p) ((s.mismatch p kind lane hit).corePair p) s.tick s.now := by
  have hseen := mismatchNoted_seen s p kind lane hit
  rw [← foldl_abandonForRecovery_corePair (s.mismatchNoted p kind lane hit) hit p] at hseen
  rcases mismatch_retires s p kind lane hit with h | h <;> rw [h]
  · exact hseen
  · rw [retire_corePair, modCore_corePair_self]
    exact ⟨hseen.reset, hseen.counted, hseen.time⟩

theorem mismatch_tasks (s : State) (p kind lane : Nat) (hit : List Nat) :
    (s.mismatch p kind lane hit).tk.task = (hit.foldl State.abandonForRecovery (s.mismatchNoted p kind lane hit)).tk.task := by
  rcases mismatch_retires s p kind lane hit with h | h <;> rw [h]
  exact retire_tasks _ p 1

theorem mismatch_awaits {c : Cycle} {kind lane : Nat} {hit : List Nat} (hn : n ∈ hit) (hc : s.cyc n = some c) :
    AwaitsRecovery ((s.mismatch p kind lane hit).task n) c := by
  have hnoted : (s.mismatchNoted p kind lane hit).cyc n = some c :=
    (congrArg (fun k : Tasks => (tget k.task n {}).cyc) (mismatchNoted_tk s p kind lane hit)).trans hc
  have h := foldl_abandonForRecovery hn hnoted
  unfold State.task at h ⊢
  rwa [mismatch_tasks]

/-! ## LOCKSTEP_MISMATCH (R294, R295) -/

/-- The tasks whose cycles a mismatch of a pair affects. -/
def State.mismatchHits (s : State) (p : Nat) (running saving : Option Nat) (committed : Bool) : List Nat :=
  if committed then [] else (running.toList ++ saving.toList).filter (fun n => s.taskPair n == p && (s.cyc n).isSome)

theorem mem_mismatchHits {running saving : Option Nat} {c : Cycle} (hrun : running = some n ∨ saving = some n)
    (hp : s.taskPair n = p) (hc : s.cyc n = some c) : n ∈ s.mismatchHits p running saving false := by
  refine List.mem_filter.mpr ⟨?_, by rw [hp, hc, beq_self_eq_true]; rfl⟩
  rcases hrun with rfl | rfl
  · exact List.mem_append_left _ (List.mem_singleton_self n)
  · exact List.mem_append_right _ (List.mem_singleton_self n)

section
variable {dt kind lane : Nat} {running saving : Option Nat} {committed : Bool} (hlane : lane < 64) (hkind : kind < 3)
  (h0 : s.mode ≠ .m0)
include hlane hkind h0

theorem exec_lockstepMismatch (hp : p < 10) (h2 : (s.corePair p).room ≠ 2) (h3 : (s.corePair p).room ≠ 3) :
    exec (.lockstepMismatch dt p kind lane running saving committed) s =
      .next ((s.elapse dt).mismatch p kind lane ((s.elapse dt).mismatchHits p running saving committed)) := by
  have hwf : ¬ (11 ≤ p ∨ 64 ≤ lane ∨ 3 ≤ kind) := by omega
  have hawake : ((s.elapse dt).mode == .m0) = false := beq_eq_false_iff_ne.mpr h0
  have hcompares : (((s.elapse dt).corePair p).room == 2 || ((s.elapse dt).corePair p).room == 3) = false :=
    Bool.or_eq_false_iff.mpr ⟨beq_eq_false_iff_ne.mpr h2, beq_eq_false_iff_ne.mpr h3⟩
  show execLockstepMismatch dt p kind lane running saving committed s = _
  unfold execLockstepMismatch
  simp only [if_neg hwf, hawake, if_neg (show ¬ p = 10 by omega), hcompares, Bool.false_eq_true, if_false]
  rfl

theorem exec_lockstepMismatch_curator :
    exec (.lockstepMismatch dt 10 kind lane running saving committed) s =
      .next (((s.elapse dt).mismatch 10 kind lane []).curatorRestart 1) := by
  have hwf : ¬ (11 ≤ 10 ∨ 64 ≤ lane ∨ 3 ≤ kind) := by omega
  have hawake : ((s.elapse dt).mode == .m0) = false := beq_eq_false_iff_ne.mpr h0
  show execLockstepMismatch dt 10 kind lane running saving committed s = _
  unfold execLockstepMismatch
  simp only [if_neg hwf, hawake, Bool.false_eq_true, if_false, if_true]

end

/-! ## The Curator pair (R295) -/

theorem raiseMand_restarting (s : State) (k : Nat) (d : List (Nat × Nat)) :
    (s.raiseMand k d).mbx.restarting = s.mbx.restarting := by
  unfold State.raiseMand State.raiseWith
  extract_lets src s1 e det masked src' s2 s3
  have h2 : s2.mbx.restarting = s.mbx.restarting := restarting_ite rfl rfl
  have h3 : s3.mbx.restarting = s.mbx.restarting := restarting_ite ((eventNotify_restarting _ _).trans h2) h2
  exact restarting_ite rfl (restarting_ite h2 ((archMandatory_restarting _ _ _ _ _ _ _).trans h3))

theorem mismatch_curator (s : State) (kind lane : Nat) : s.mismatch 10 kind lane [] = s.mismatchNoted 10 kind lane [] := rfl

/-- A mismatch of CPS restarts the Curator. -/
theorem mismatch_restarts {kind lane : Nat} (h0 : s.mode ≠ .m0) (hr : s.mbx.restarting = none) :
    ((s.mismatch 10 kind lane []).curatorRestart 1).mbx.restarting = some (1, s.tick) ∧
      ((s.mismatch 10 kind lane []).curatorRestart 1).lk = (s.mismatch 10 kind lane []).lk := by
  rw [mismatch_curator]
  have hrest : (s.mismatchNoted 10 kind lane []).mbx.restarting = none := (raiseMand_restarting _ _ _).trans hr
  have hmode : (s.mismatchNoted 10 kind lane []).mode = s.mode := raiseMand_mode _ _ _
  have htick : (s.mismatchNoted 10 kind lane []).tick = s.tick := raiseMand_tick _ _ _
  unfold State.curatorRestart
  rw [if_neg (by rw [hrest, hmode, beq_eq_false_iff_ne.mpr h0]; exact Bool.false_ne_true), ← htick]
  exact ⟨rfl, rfl⟩

end Sys2Proof.Machine
end

section
/-!
PROOFS. Injection tests (R298–R300): the result and the count stand whatever a third failure in a row brings.
-/
namespace Sys2Proof.Machine

variable {dt p : Nat} {passed : U64} {s : State}

/-! ## The record of a test (R298, R310) -/

/-- What a pair has on record of its injection tests: result, time and failures in a row. -/
def CorePair.testRecord (c : CorePair) : U64 × Nat × Nat := (c.result, c.tested, c.fails)

/-- The pair after a test that ends now. -/
def State.testedPair (s : State) (p : Nat) (passed : U64) : CorePair :=
  let ok := passed == BitVec.allOnes 64
  { s.corePair p with
    testAt := some s.tick, result := passed, tested := s.ident.opSeconds
    fails := if ok then 0 else min 65535 ((s.corePair p).fails + 1), failedAt := if ok then none else some s.tick }

/-- The test is on record. -/
def State.testNoted (s : State) (p : Nat) (passed : U64) : State := s.modCore p (fun _ => s.testedPair p passed)

theorem testNoted_corePair (s : State) (p : Nat) (passed : U64) : (s.testNoted p passed).corePair p = s.testedPair p passed :=
  modCore_corePair_self s p _

/-- A failed test is told (R300). -/
def State.failureTold (s : State) (p : Nat) (passed : U64) : State := (s.testNoted p passed).raise 66 [(1, p), (8, (~~~ passed).toNat)]

theorem failureTold_corePair (s : State) (p : Nat) (passed : U64) : (s.failureTold p passed).corePair p = s.testedPair p passed :=
  (corePair_of_lk (raise_lk _ _ _) p).trans (testNoted_corePair s p passed)

/-- What a third failure in a row brings (R300). -/
def State.thirdFailure (s : State) (p : Nat) : State :=
  let s := s.modCore p (fun c => { c with failedAt := none })
  if p = 10 then s.halt 1 0xFF
  else if (s.corePair p).failed then s
  else if s.resState p = 1 then (s.modCore p (fun c => { c with failed := true })).spareFails p
  else if s.mode = .m1 then ((s.modCore p (fun c => { c with failed := true })).setRes p 3).provenFault p
  else s.retire p 2

theorem injected_passing (s : State) (p : Nat) : s.injected p (BitVec.allOnes 64) = s.testNoted p (BitVec.allOnes 64) := rfl

theorem injected_failing (hf : passed ≠ BitVec.allOnes 64) : s.injected p passed =
    if (s.testedPair p passed).fails < 3 then s.failureTold p passed else (s.failureTold p passed).thirdFailure p := by
  have hok : ¬ (passed == BitVec.allOnes 64) = true := by simpa using hf
  rw [← failureTold_corePair s p passed]
  exact if_neg hok

theorem testedPair_fails (hf : passed ≠ BitVec.allOnes 64) :
    (s.testedPair p passed).fails = min 65535 ((s.corePair p).fails + 1) := if_neg (by simpa using hf)

theorem testedPair_failedAt (hf : passed ≠ BitVec.allOnes 64) : (s.testedPair p passed).failedAt = some s.tick :=
  if_neg (by simpa using hf)

/-! ## The third failure in a row (R300) -/

theorem testRecord_of_lockstep {t : State} (h : Part.same s t .lockstep) : (t.corePair p).testRecord = (s.corePair p).testRecord := by
  unfold State.corePair
  rw [h.1]

theorem testRecord_modCore {f : CorePair → CorePair} (hf : ∀ c, (f c).testRecord = c.testRecord) :
    ((s.modCore p f).corePair p).testRecord = (s.corePair p).testRecord := by
  rw [modCore_corePair_self, hf]

theorem thirdFailure_testRecord (s : State) (p : Nat) : ((s.thirdFailure p).corePair p).testRecord = (s.corePair p).testRecord := by
  unfold State.thirdFailure
  dsimp only
  have hstart : ((s.modCore p (fun c => { c with failedAt := none })).corePair p).testRecord = (s.corePair p).testRecord :=
    testRecord_modCore fun _ => rfl
  generalize s.modCore p (fun c => { c with failedAt := none }) = u at hstart ⊢
  rw [← hstart]
  have hfailed : ((u.modCore p (fun c => { c with failed := true })).corePair p).testRecord = (u.corePair p).testRecord :=
    testRecord_modCore fun _ => rfl
  split
  · exact testRecord_of_lockstep (kept (fun _ hm => halt_view u 1 0xFF hm) .lockstep (by decide))
  · split
    · rfl
    · split
      · exact (testRecord_of_lockstep (kept (fun _ hm => spareFails_view _ p hm) .lockstep (by decide))).trans hfailed
      · split
        · refine (testRecord_of_lockstep (kept (fun _ hm => ?_) .lockstep
            (by decide : (0x1a004208 : Nat).testBit _ = false))).trans hfailed
          exact (provenFault_view _ p hm).trans (setRes_view _ p 3 (.of hm (by decide)))
        · rw [retire_corePair]
          exact hfailed

/-! ## What every test leaves (R298, R300) -/

theorem injected_testRecord (s : State) (p : Nat) (passed : U64) :
    ((s.injected p passed).corePair p).testRecord = (s.testedPair p passed).testRecord := by
  by_cases hf : passed = BitVec.allOnes 64
  · rw [hf, injected_passing, testNoted_corePair]
  · rw [injected_failing hf]
    split
    · rw [failureTold_corePair]
    · rw [thirdFailure_testRecord, failureTold_corePair]

theorem injected_result (s : State) (p : Nat) (passed : U64) : ((s.injected p passed).corePair p).result = passed :=
  congrArg Prod.fst (injected_testRecord s p passed)

theorem injected_tested (s : State) (p : Nat) (passed : U64) :
    ((s.injected p passed).corePair p).tested = s.ident.opSeconds :=
  congrArg (fun r => r.2.1) (injected_testRecord s p passed)

theorem injected_fails (hf : passed ≠ BitVec.allOnes 64) :
    ((s.injected p passed).corePair p).fails = min 65535 ((s.corePair p).fails + 1) :=
  (congrArg (fun r => r.2.2) (injected_testRecord s p passed)).trans (testedPair_fails hf)

theorem injected_passes (hp : passed = BitVec.allOnes 64) :
    ((s.injected p passed).corePair p).fails = 0 ∧ ((s.injected p passed).corePair p).failedAt = none := by
  rw [hp, injected_passing, testNoted_corePair]
  exact ⟨rfl, rfl⟩

/-- A failure that is not the third in a row calls for the retest, with EV066. -/
theorem injected_fails_early (hf : passed ≠ BitVec.allOnes 64) (hn : (s.corePair p).fails < 2) :
    ((s.injected p passed).corePair p).failedAt = some s.tick ∧
      Occurs s (s.injected p passed) 66 [(1, p), (8, (~~~ passed).toNat)] := by
  have hearly : (s.testedPair p passed).fails < 3 := by
    rw [testedPair_fails hf]
    omega
  rw [injected_failing hf, if_pos hearly, failureTold_corePair]
  exact ⟨testedPair_failedAt hf, occurs_raise rfl rfl rfl rfl⟩

/-! ## INJECTION_TEST and INJECTION_RETEST (R299, R300) -/

theorem exec_injectionTest (hp : p < 11) (h0 : s.mode ≠ .m0) (h11 : s.mode ≠ .m11) (hgood : (s.corePair p).failed = false)
    (hroom : (s.corePair p).room ≠ 2) (hidle : p < 10 → s.pairIdle p = true ∧ (s.pairTasks p).any (s.elapse dt).dueSoon = false)
    (hdue : s.mode = .m1 ∨
      (s.corePair p).tested + (if p < 10 ∧ s.resState p = 1 then 60 else 86400) ≤ (s.elapse dt).ident.opSeconds) :
    exec (.injectionTest dt p passed) s = .next ((s.elapse dt).injected p passed) := by
  show execInjectionTest dt p passed s = _
  unfold execInjectionTest
  dsimp only
  rw [if_neg (Nat.not_le.mpr hp)]
  refine if_neg ?_
  rw [Bool.not_eq_true]
  have hmode0 : ((s.elapse dt).mode == .m0) = false := beq_eq_false_iff_ne.mpr h0
  have hmode11 : ((s.elapse dt).mode == .m11) = false := beq_eq_false_iff_ne.mpr h11
  have hwhole : (((s.elapse dt).corePair p).room == 2) = false := beq_eq_false_iff_ne.mpr hroom
  have hfree : (decide (p < 10) && (!(s.elapse dt).pairIdle p || ((s.elapse dt).pairTasks p).any (s.elapse dt).dueSoon)) = false := by
    by_cases h : p < 10
    · obtain ⟨hi, hd⟩ := hidle h
      rw [show (s.elapse dt).pairIdle p = true from hi, show ((s.elapse dt).pairTasks p).any (s.elapse dt).dueSoon = false from hd]
      exact Bool.and_false _
    · rw [decide_eq_false h]
      rfl
  have hnow : ((s.elapse dt).mode == .m1 || decide (((s.elapse dt).corePair p).tested +
      (if (decide (p < 10) && (s.elapse dt).resState p == 1) = true then 60 else 86400) ≤ (s.elapse dt).ident.opSeconds)) = true := by
    rcases hdue with hm | ht
    · rw [show ((s.elapse dt).mode == .m1) = true from beq_iff_eq.mpr hm]
      rfl
    · refine Bool.or_eq_true_iff.mpr (.inr (decide_eq_true ?_))
      simp only [Bool.and_eq_true, decide_eq_true_eq, beq_iff_eq]
      exact ht
  rw [hmode0, hmode11, show ((s.elapse dt).corePair p).failed = false from hgood, hwhole, hnow, hfree]
  rfl

theorem exec_injectionRetest {k : Nat} (hp : p < 11) (hk : (s.corePair p).failedAt = some k)
    (hlate : (s.elapse dt).since k Config.ticksPerSecond = true) (hidle : p < 10 → s.pairIdle p = true) :
    exec (.injectionRetest dt p passed) s = .next ((s.elapse dt).injected p passed) := by
  have hfree : (decide (10 ≤ p) || (s.elapse dt).pairIdle p) = true := by
    by_cases h : p < 10
    · exact Bool.or_eq_true_iff.mpr (.inr (hidle h))
    · exact Bool.or_eq_true_iff.mpr (.inl (decide_eq_true (Nat.not_lt.mp h)))
  show execInjectionRetest dt p passed s = _
  unfold execInjectionRetest
  simp only [if_neg (Nat.not_le.mpr hp), show ((s.elapse dt).corePair p).failedAt = some k from hk, hlate, hfree, Bool.and_self, if_true]

end Sys2Proof.Machine
end

section
/-!
PROOFS. Signature windows of the units that run in duplicate (R297).
-/
namespace Sys2Proof.Machine

variable {dt u count first : Nat} {a b : U64} {s : State}

/-- The window of unit `u` closes, its next one or the same records beginning at `k`. -/
def State.windowClosed (s : State) (u count k : Nat) : State :=
  { s with lk := { s.lk with window := tset s.lk.window u {} { count := count, closed := some s.tick, firstSeq := k } } }

/-- The window ends: at 1,024 transfers, or 100 µs after the last one closed. -/
def State.windowEnds (s : State) (u count : Nat) : Bool :=
  decide (count = 1024) || (decide (count < 1024) &&
    (match (tget s.lk.window u {}).closed with | some t => s.since t (100 * Config.ticksPerUs) | none => true))

theorem windowEnds_of (h : count = 1024 ∨
    (count < 1024 ∧ ∀ k, (tget s.lk.window u {}).closed = some k → s.since k (100 * Config.ticksPerUs) = true)) :
    s.windowEnds u count = true := by
  unfold State.windowEnds
  rcases h with h | ⟨hlt, hlong⟩
  · rw [decide_eq_true h]
    rfl
  · refine Bool.or_eq_true_iff.mpr (.inr ?_)
    rw [decide_eq_true hlt]
    cases hk : (tget s.lk.window u {}).closed with
    | none => rfl
    | some k => exact hlong k hk

section
variable (h13 : 13 ≤ u) (h15 : u ≤ 15) (he : (s.elapse dt).windowEnds u count = true)
include h13 h15 he

theorem exec_signatureWindowClose_differ (hab : a ≠ b) :
    exec (.signatureWindowClose dt u count first a b) s = .next
      ((((s.elapse dt).windowClosed u count (tget s.lk.window u {}).firstSeq).sigMismatch u count first).nextWindow u) := by
  have hon : ¬ (u < 13 ∨ 15 < u ∨ (!(s.elapse dt).windowEnds u count) = true) := by
    rw [he]
    simp only [Bool.not_true, Bool.false_eq_true, or_false]
    omega
  exact (if_neg hon).trans (if_neg hab)

theorem exec_signatureWindowClose_match :
    exec (.signatureWindowClose dt u count first a a) s = .next
      (let t := (s.elapse dt).windowClosed u count ((s.elapse dt).windowStart u)
       if u = 14 then (List.range 8).foldl State.releaseWindow t else t) := by
  have hon : ¬ (u < 13 ∨ 15 < u ∨ (!(s.elapse dt).windowEnds u count) = true) := by
    rw [he]
    simp only [Bool.not_true, Bool.false_eq_true, or_false]
    omega
  exact (if_neg hon).trans (if_pos rfl)

end

/-! ## What a void notice leaves of the events (R209, R249, R271) -/

theorem abandon_event (s : State) (n k : Nat) : (s.abandon n k).ev = s.ev := by
  cases hc : s.cyc n with
  | none =>
    unfold State.abandon
    rw [hc]
  | some c => exact abandon_ev hc k

theorem takeFresh_ev (s : State) : s.takeFresh.ev = s.ev := by
  have hareas : s.areasFresh.ev = s.ev := foldl_reading State.ev (fun t n => modTask_ev t n _) s
  refine Eq.trans ?_ hareas
  unfold State.takeFresh State.areasFresh
  dsimp only

theorem resetSoak_ev (s : State) : s.resetSoak.ev = s.ev := rfl

theorem resync_ev (s : State) : s.resync.ev = s.ev := by
  unfold State.resync
  split
  · rfl
  · extract_lets u v
    have hv : v.ev = u.ev := foldl_ev fun t n => foldl_ev fun w h => withhold_ev w n 3 h.osn
    clear_value v
    exact (resetSoak_ev _).trans ((takeFresh_ev v).trans hv)

theorem voidFrames_ev (s : State) (first count : Nat) : (s.voidFrames first count).ev = s.ev := by
  unfold State.voidFrames
  split
  · rfl
  · dsimp only
    split
    · rfl
    · exact (resync_ev _).trans (foldl_reading State.ev (fun t n => abandon_event t n 1) s)

theorem alBehind_ev (s : State) : s.alBehind.ev = s.ev := by
  unfold State.alBehind State.ladderDrive
  refine foldl_reading State.ev (fun t m => ?_) _
  split <;> rfl

theorem voidEngines_ev (s : State) (first count : Nat) : (s.voidEngines first count).ev = s.ev := by
  unfold State.voidEngines
  split
  · rfl
  · have hloops : (if seqIn first count s.loop.frameSeq then s.loopsBehind else s).ev = s.ev := by
      split
      · exact lane_ev _ _ _ _
      · rfl
    generalize (if seqIn first count s.loop.frameSeq then s.loopsBehind else s) = t at hloops
    show (if seqIn first count t.al.frameSeq then t.alBehind else t).ev = s.ev
    split
    · exact (alBehind_ev t).trans hloops
    · exact hloops

/-! ## SIGNATURE_WINDOW_CLOSE (R297) -/

theorem nextWindow_ev (s : State) (u : Nat) : (s.nextWindow u).ev = s.ev := by
  unfold State.nextWindow
  split <;> rfl

theorem foldl_modConv_ev (s : State) (l : List Nat) (f : Conv → Conv) : (l.foldl (fun (s : State) c => s.modConv c f) s).ev = s.ev :=
  foldl_reading State.ev (fun t c => modConv_ev t c f) s

/-- A mismatch raises EV069 and nothing else. -/
theorem sigMismatch_ev (s : State) (u count first : Nat) :
    (s.sigMismatch u count first).ev = (s.raiseMand 69 [(1, u), (4, count), (8, first)]).ev := by
  unfold State.sigMismatch
  dsimp only
  split
  · exact (voidEngines_ev _ _ _).trans ((voidFrames_ev _ _ _).trans (announce_ev _ _ _))
  · split
    · exact foldl_modConv_ev _ _ _
    · rfl

theorem foldl_dropWindow {c : Nat} (l : List Nat) {t : State} (h : (t.conv c).window = [] ∨ c ∈ l) :
    ((l.foldl (fun (s : State) c => s.modConv c (fun k => { k with window := [] })) t).conv c).window = [] := by
  induction l generalizing t with
  | nil => exact h.resolve_right List.not_mem_nil
  | cons m l ih =>
    refine ih ?_
    by_cases hm : c = m
    · subst hm
      exact .inl (congrArg Conv.window (modConv_conv_self t c _))
    · rw [modConv_conv_ne t m _ hm]
      exact h.imp_right fun h => (List.mem_cons.mp h).resolve_left hm

/-- The window's records are not published (R297). -/
theorem sigMismatch_conv (s : State) {c : Nat} (hc : c < 8) : ((s.sigMismatch 14 count first).conv c).window = [] := by
  unfold State.sigMismatch
  rw [if_neg (by decide), if_pos rfl]
  exact foldl_dropWindow _ (.inr (List.mem_range.mpr hc))

/-- The writer rebuilds the window's records (R297). -/
theorem sigMismatch_rebuilds (s : State) (count first : Nat) :
    (s.sigMismatch 15 count first).arch.rebuilds = wrapInc 32 s.arch.rebuilds := by
  have h : Part.same s (s.raiseMand 69 [(1, 15), (4, count), (8, first)]) .archive :=
    kept (m := 0) (fun _ _ => raiseMand_view s 69 _) .archive (by decide)
  obtain ⟨-, -, -, -, -, -, hrebuilds, -⟩ := h
  unfold State.sigMismatch
  rw [if_neg (by decide), if_neg (by decide)]
  exact congrArg (wrapInc 32) hrebuilds

theorem nextWindow_other (h : u ≠ 13) (s : State) : s.nextWindow u = s := if_neg h

theorem signatureWindowClose_tells (h13 : 13 ≤ u) (h15 : u ≤ 15) (hab : a ≠ b)
    (he : (s.elapse dt).windowEnds u count = true) :
    ∃ t, exec (.signatureWindowClose dt u count first a b) s = .next t ∧
      Occurs (s.elapse dt) t 69 [(1, u), (4, count), (8, first)] ∧
      (u = 14 → ∀ c < 8, (tget t.ai.conv c {}).window = []) ∧ (u = 15 → t.arch.rebuilds = wrapInc 32 s.arch.rebuilds) := by
  refine ⟨_, exec_signatureWindowClose_differ h13 h15 he hab, ?_, fun hu c hc => ?_, fun hu => ?_⟩
  all_goals generalize hw : (s.elapse dt).windowClosed u count (tget s.lk.window u {}).firstSeq = w
  · have hev : ((w.sigMismatch u count first).nextWindow u).ev = (w.raiseMand 69 [(1, u), (4, count), (8, first)]).ev :=
      (nextWindow_ev _ _).trans (sigMismatch_ev _ _ _ _)
    exact occurs_raiseMand (congrArg Events.src hev) (by rw [← hw]; rfl) (by rw [← hw]; rfl) (by rw [← hw]; rfl)
  · rw [nextWindow_other (by omega), hu]
    show ((w.sigMismatch 14 count first).conv c).window = []
    exact sigMismatch_conv w hc
  · have harch : w.arch = s.arch := by
      rw [← hw]
      rfl
    rw [nextWindow_other (by omega), hu, sigMismatch_rebuilds, harch]

/-- A match of the Archive writer's window opens the next at the next record, and leaves the Archive as it is. -/
theorem signatureWindowClose_opens (he : (s.elapse dt).windowEnds 15 count = true) :
    ∃ t, exec (.signatureWindowClose dt 15 count first a a) s = .next t ∧
      (tget t.lk.window 15 {}).firstSeq = s.arch.next ∧ t.arch = s.arch := by
  refine ⟨_, exec_signatureWindowClose_match (by decide) (by decide) he, ?_⟩
  dsimp only
  rw [if_neg (by decide)]
  exact ⟨congrArg SigWindow.firstSeq (tget_tset_self _ _ _ _), rfl⟩

end Sys2Proof.Machine
end

section
/-!
PROOFS. What a drain that comes to its instant, or that is given up, leaves of its pair and of the others.
-/
namespace Sys2Proof.Machine

variable {dt p : Nat} {d : Drain} {s : State}

/-- A drain instant changes no pair but its own. -/
theorem drained_corePair_ne (s : State) (d : Drain) {k : Nat} (hk : k ≠ p) : (s.drained p d).corePair k = s.corePair k := by
  have hread : ∀ {f}, (s.drained p d).lk = (s.modCore p f).lk → (s.drained p d).corePair k = s.corePair k := fun {f} h =>
    (corePair_of_lk h k).trans (modCore_corePair_ne s p f hk)
  cases hkind : d.kind with
  | split => exact hread (drained_split hkind).1
  | join => exact hread (congrArg State.lk (drained_loads (.inl hkind)))
  | detach => exact hread (congrArg State.lk (drained_loads (.inr hkind)))
  | attach => exact hread (drained_breaks hkind).1
  | migrate => exact hread (drained_migrates hkind).1

/-- Its own pair a drain instant leaves as its kind gives. -/
theorem drained_corePair {f : CorePair → CorePair} (h : (s.drained p d).lk = (s.modCore p f).lk) :
    (s.drained p d).corePair p = f (s.corePair p) :=
  (corePair_of_lk h p).trans (modCore_corePair_self s p f)

theorem splitDrainTimeout_gives_up (hp : p < 10) (hd : (s.corePair p).drain = some d) (hload : d.loading = none)
    (hk : d.kind ≠ .detach) (hlate : (s.elapse dt).since d.since Config.ticksPerSecond = true) :
    ∃ t, exec (.splitDrainTimeout dt p) s = .next t ∧ t.corePair p = { s.corePair p with drain := none } ∧
      (d.kind = .attach → t.lk.debugger = none) ∧
      (d.kind = .migrate → t.annex.waiting = s.annex.waiting.filter (fun m => m.resource != p)) ∧
      ∀ op, d.op = some op → t.mbx.async.find? (·.id == op) = none := by
  refine ⟨_, exec_splitDrainTimeout hp hd hload hk hlate, (corePair_of_lk (completeOpt_lk _ _ _ _) p).trans drainGivenUp_corePair,
    fun ha => ?_, fun hm => ?_, fun op hop => completeOpt_ends _ hop _ _⟩
  · rw [completeOpt_lk, drainGivenUp_attach ha]
  · rw [completeOpt_annex, drainGivenUp_migrate hm]
    rfl

/-- A mismatch of a pair that compares its cores (R294, R295). -/
theorem lockstepMismatch_recovers {kind lane : Nat} {running saving : Option Nat} {committed : Bool} (hp : p < 10)
    (hlane : lane < 64) (hkind : kind < 3) (h0 : s.mode ≠ .m0) (h2 : (s.corePair p).room ≠ 2) (h3 : (s.corePair p).room ≠ 3) :
    ∃ t, exec (.lockstepMismatch dt p kind lane running saving committed) s = .next t ∧
      MismatchSeen (s.corePair p) (t.corePair p) (s.elapse dt).tick (s.elapse dt).now ∧
      (∀ n c, committed = false → running = some n ∨ saving = some n → s.taskPair n = p → s.cyc n = some c →
        AwaitsRecovery (t.task n) c) ∧
      (committed = true → t.tk.task = s.tk.task) := by
  refine ⟨_, exec_lockstepMismatch hlane hkind h0 hp h2 h3, mismatch_seen (s.elapse dt) p kind lane _,
    fun n c hc hrun hpair hcyc => ?_, fun hc => ?_⟩
  · subst hc
    exact mismatch_awaits (s := s.elapse dt) (mem_mismatchHits hrun hpair hcyc) hcyc
  · subst hc
    rw [mismatch_tasks]
    exact congrArg Tasks.task (mismatchNoted_tk (s.elapse dt) p kind lane [])

/-- A mismatch of CPS (R295). -/
theorem lockstepMismatch_restarts {kind lane : Nat} (running saving : Option Nat) (committed : Bool) (hlane : lane < 64)
    (hkind : kind < 3) (h0 : s.mode ≠ .m0) (hr : s.mbx.restarting = none) :
    ∃ t, exec (.lockstepMismatch dt 10 kind lane running saving committed) s = .next t ∧
      t.mbx.restarting = some (1, (s.elapse dt).tick) ∧ (t.corePair 10).mismatches = (s.corePair 10).mismatches + 1 := by
  obtain ⟨hrestart, hlk⟩ := mismatch_restarts (s := s.elapse dt) (kind := kind) (lane := lane) h0 hr
  refine ⟨_, exec_lockstepMismatch_curator hlane hkind h0, hrestart, ?_⟩
  rw [corePair_of_lk hlk]
  exact (mismatch_seen (s.elapse dt) 10 kind lane []).counted

end Sys2Proof.Machine
end

section
open Sys2Proof Sys2Proof.Machine

/-- Settles O17, row by row: the pair, the events and the tasks are each read past what the row does besides. -/
theorem corePairRowsComplete : Obligations.CorePairRowsComplete := by
  refine ⟨fun dt p x s h => mail_drains (kind := .split) h (codeIs_of h.code) rfl,
    fun dt p x s h => mail_drains (kind := .join) h (codeIs_of h.code) rfl,
    fun dt p d s hp hd hload hidle h3 => ?drained,
    fun dt p d s hp hd hload hk hlate => splitDrainTimeout_gives_up hp hd hload hk hlate,
    fun dt p since d s hp hd hload hlong => joinLoadDone_joins hp hd hload hlong,
    fun dt p kind lane running saving committed s hp hlane hkind h0 h2 h3 => ?mismatch,
    fun dt kind lane running saving committed s hlane hkind h0 hr =>
      lockstepMismatch_restarts running saving committed hlane hkind h0 hr,
    fun dt p passed s hp h0 h11 hgood hroom hidle hdue => ?test,
    fun dt p k passed s hp hk hlate hidle => ?retest,
    fun dt u count first a b s h13 h15 hab hend =>
      signatureWindowClose_tells h13 h15 hab (windowEnds_of (s := s.elapse dt) hend),
    fun dt count first a s hend => signatureWindowClose_opens (windowEnds_of (s := s.elapse dt) hend)⟩
  case drained =>
    refine ⟨_, exec_splitDrainInstant hp hd hload hidle h3, fun hk => ?_, fun hk => ?_, fun hk => ?_, fun hk => ?_,
      fun k hk => drained_corePair_ne (s.elapse dt) d hk⟩
    · obtain ⟨hlk, hev⟩ := drained_split (s := s.elapse dt) (p := p) hk
      exact ⟨drained_corePair hlk, hev⟩
    · exact (drained_corePair (congrArg State.lk (drained_loads (s := s.elapse dt) hk)))
    · obtain ⟨hlk, hev⟩ := drained_breaks (s := s.elapse dt) (p := p) hk
      exact ⟨drained_corePair hlk, hev⟩
    · obtain ⟨hlk, hwaiting⟩ := drained_migrates (s := s.elapse dt) (p := p) hk
      exact ⟨drained_corePair hlk, hwaiting⟩
  case mismatch =>
    obtain ⟨t, ht, hseen, hawaits, hcommitted⟩ := lockstepMismatch_recovers (dt := dt) (running := running) (saving := saving)
      (committed := committed) hp hlane hkind h0 h2 h3
    exact ⟨t, ht, hseen.reset, hseen.counted, hseen.time, fun n c hc hrun hpair hcyc =>
      let h := hawaits n c hc hrun hpair hcyc
      ⟨h.gone, h.kept, h.recovering⟩, hcommitted⟩
  case test =>
    exact ⟨_, exec_injectionTest hp h0 h11 hgood hroom hidle hdue, injected_result _ p passed, injected_tested _ p passed,
      injected_passes, fun hf => ⟨injected_fails hf, injected_fails_early (s := s.elapse dt) hf⟩⟩
  case retest =>
    exact ⟨_, exec_injectionRetest hp hk hlate hidle, injected_result _ p passed, injected_passes, injected_fails⟩

end

section
/-!
PROOFS. Reading a sparse array that may not list a key, after a write: the bytes and registers the debugger has written (R306).
-/
namespace Sys2Proof.Machine

variable {α : Type}

theorem tlook_tput_self (t : Tab α) (k : Nat) (v : α) : tlook (tput t k v) k = some v := by
  induction t with
  | nil => exact if_pos rfl
  | cons x t ih =>
    obtain ⟨i, a⟩ := x
    simp only [tput]
    split
    · exact if_pos rfl
    · split
      · exact if_pos rfl
      · next hne => exact (if_neg hne).trans ih

theorem tlook_tput_ne (t : Tab α) {j k : Nat} (h : j ≠ k) (v : α) : tlook (tput t k v) j = tlook t j := by
  induction t with
  | nil => exact if_neg h
  | cons x t ih =>
    obtain ⟨i, a⟩ := x
    simp only [tput]
    split
    · exact if_neg h
    · split
      · next heq =>
        subst heq
        simp only [tlook, if_neg h]
      · simp only [tlook, ih]

/-- Bytes written from an address on: each reads at its own address, and every other address as before. -/
theorem tlook_written (addr : Nat) (l : List α) (k j : Nat) (t : Tab α) :
    tlook ((l.zipIdx k).foldl (fun t (b, i) => tput t (addr + i) b) t) j =
      if addr + k ≤ j ∧ j < addr + k + l.length then l[j - (addr + k)]? else tlook t j := by
  induction l generalizing k t with
  | nil =>
    rw [if_neg (by simp only [List.length_nil]; omega)]
    rfl
  | cons b l ih =>
    rw [List.zipIdx_cons, List.foldl_cons, ih]
    by_cases hj : j = addr + k
    · subst hj
      rw [if_neg (by omega), if_pos (by simp only [List.length_cons]; omega), tlook_tput_self, Nat.sub_self]
      rfl
    · rw [tlook_tput_ne t hj]
      by_cases hin : addr + (k + 1) ≤ j ∧ j < addr + (k + 1) + l.length
      · rw [if_pos hin, if_pos (by simp only [List.length_cons]; omega),
          show j - (addr + k) = (j - (addr + (k + 1))) + 1 by omega, List.getElem?_cons_succ]
      · rw [if_neg hin, if_neg (by simp only [List.length_cons]; omega)]

end Sys2Proof.Machine
end

section
/-!
PROOFS. DEBUG_ATTACH and DEBUG_DETACH (R305, R307, R308), and the frame of every debug action (R305, R306).
-/
namespace Sys2Proof.Machine

variable {dt : Nat} {p : Packet} {x : Session} {g : Debugger} {s : State}

/-! ## DEBUG_ATTACH and DEBUG_DETACH (R305, R307, R308) -/

/-- The debugger attaches to pair `k`: to its reading room, or once the pair has drained. -/
def State.attaches (s : State) (k : Nat) (id : U32) : State :=
  let kind := if s.has .dbg then 2 else 1
  let s := { s with lk := { s.lk with debugger := some ⟨k, id, kind, false, [], [], s.tick, 0⟩ } }
  if kind = 2 then s.modCore k (fun c => { c with room := 4 }) else s.drainPair k .attach none

theorem attaches_debugger (s : State) (k : Nat) (id : U32) :
    (s.attaches k id).lk.debugger = some ⟨k, id, if s.has .dbg then 2 else 1, false, [], [], s.tick, 0⟩ := by
  unfold State.attaches
  dsimp only
  split <;> rfl

theorem attaches_room (k : Nat) (id : U32) (h : s.has .dbg = true) : ((s.attaches k id).corePair k).room = 4 := by
  unfold State.attaches
  simp only [h, if_true]
  exact congrArg CorePair.room (modCore_corePair_self _ k _)

theorem attaches_drain (k : Nat) (id : U32) (h : s.has .dbg = false) :
    ((s.attaches k id).corePair k).drain = some ⟨.attach, s.tick, none, none⟩ := by
  unfold State.attaches
  simp only [h, Bool.false_eq_true, if_false, show ¬ (1 = 2) by decide]
  exact congrArg CorePair.drain (modCore_corePair_self _ k _)

theorem attaches_around (s : State) (k : Nat) (id : U32) : (s.attaches k id).mbx = s.mbx ∧ (s.attaches k id).out = s.out ∧
    (s.attaches k id).mu = s.mu := by
  unfold State.attaches
  dsimp only
  split <;> exact ⟨rfl, rfl, rfl⟩

theorem debugAttach_attaches (h : Accepted debugAttachCmd (s.elapse dt) p x) :
    ∃ t, exec (.debugAttach dt p) s = .next t ∧
      t.lk.debugger = some ⟨beAt (reqOf p).body 0 1, x.id, if s.has .dbg then 2 else 1, false, [], [], (s.elapse dt).tick, 0⟩ ∧
      (s.has .dbg = true → (t.corePair (beAt (reqOf p).body 0 1)).room = 4) ∧
      (s.has .dbg = false → (t.corePair (beAt (reqOf p).body 0 1)).drain = some ⟨.attach, (s.elapse dt).tick, none, none⟩) ∧
      Answers t p x s.mode s.role .ok (if s.has .dbg then 2 else 1) [] := by
  let u := runsIn (s.elapse dt) p x
  let k := beAt (reqOf p).body 0 1
  obtain ⟨hmbx, hout, hmu⟩ := attaches_around u k (reqOf p).session
  have hrun : debugAttachCmd.run (reqOf p) u = okRep (u.attaches k (reqOf p).session) [] (if s.has .dbg then 2 else 1) := rfl
  obtain ⟨t, ht, hbody, hans⟩ := mail_okRep h (codeIs_of h.code) hrun (congrArg (·.restarting) hmbx) hout
  have hpair : t.corePair k = (u.attaches k (reqOf p).session).corePair k := (congrArg (State.corePair · k) hbody :)
  refine ⟨t, ht, ?_, fun hd => ?_, fun hd => ?_, ?_⟩
  · rw [← inSession_id h.toInSession]
    exact (congrArg (·.lk.debugger) hbody :).trans (attaches_debugger u k _)
  · exact (congrArg CorePair.room hpair).trans (attaches_room k _ hd)
  · exact (congrArg CorePair.drain hpair).trans (attaches_drain k _ hd)
  · unfold State.mode State.role at hans
    rw [hmu] at hans
    exact hans

/-- The debugger is gone, and its pair is back from the reading room or drains to be joined (R307). -/
theorem detach_leaves (hg : s.lk.debugger = some g) : s.detach.lk.debugger = none ∧
    (g.kind = 2 → (s.detach.corePair g.pair).room = if (s.corePair g.pair).room = 4 then 0 else (s.corePair g.pair).room) ∧
    (g.kind ≠ 2 → (s.detach.corePair g.pair).drain = some ⟨.detach, s.tick, none, none⟩) := by
  unfold State.detach
  rw [hg]
  dsimp only
  split
  · next hk => exact ⟨rfl, fun _ => congrArg CorePair.room (modCore_corePair_self _ g.pair _), fun hn => absurd hk hn⟩
  · next hk => exact ⟨rfl, fun h => absurd h hk, fun _ => congrArg CorePair.drain (modCore_corePair_self _ g.pair _)⟩

theorem detach_around (s : State) : s.detach.mbx = s.mbx ∧ s.detach.out = s.out ∧ s.detach.mu = s.mu := by
  unfold State.detach
  split
  · exact ⟨rfl, rfl, rfl⟩
  · dsimp only
    split <;> exact ⟨rfl, rfl, rfl⟩

theorem debugDetach_detaches (h : Accepted debugDetachCmd (s.elapse dt) p x) (hg : s.lk.debugger = some g) :
    ∃ t, exec (.debugDetach dt p) s = .next t ∧ t.lk.debugger = none ∧
      (g.kind = 2 → (t.corePair g.pair).room = if (s.corePair g.pair).room = 4 then 0 else (s.corePair g.pair).room) ∧
      (g.kind ≠ 2 → (t.corePair g.pair).drain = some ⟨.detach, (s.elapse dt).tick, none, none⟩) ∧
      Answers t p x s.mode s.role .ok 0 [] := by
  let e := runsIn (s.elapse dt) p x
  let u := e.archMandatory 0 3 0x0053 (reqOf p).session.toNat []
  have hlk : u.lk = s.lk := archMandatory_lk e _ _ _ _ _ _
  have htick : u.tick = (s.elapse dt).tick := archMandatory_tick e _ _ _ _ _ _
  have humu : u.mu = s.mu := archMandatory_mu e _ _ _ _ _ _
  obtain ⟨hmbx, hout, hmu⟩ := detach_around u
  have hrun : debugDetachCmd.run (reqOf p) e = okRep u.detach [] 0 := rfl
  have hmbx' : u.detach.mbx = e.mbx := hmbx.trans (archMandatory_mbx e _ _ _ _ _ _)
  have hout' : u.detach.out = e.out := hout.trans (archMandatory_out e _ _ _ _ _ _)
  obtain ⟨t, ht, hbody, hans⟩ := mail_okRep h (codeIs_of h.code) hrun (congrArg (·.restarting) hmbx') hout'
  have hpair : t.corePair g.pair = u.detach.corePair g.pair := (congrArg (State.corePair · g.pair) hbody :)
  have hgone : t.lk.debugger = u.detach.lk.debugger := (congrArg (·.lk.debugger) hbody :)
  obtain ⟨hnone, hroom, hdrain⟩ := detach_leaves (s := u) (g := g) (by rw [hlk, hg])
  rw [corePair_of_lk hlk] at hroom
  rw [htick] at hdrain
  rw [← hpair] at hroom hdrain
  refine ⟨t, ht, hgone.trans hnone, hroom, hdrain, ?_⟩
  unfold State.mode State.role at hans
  rw [hmu, humu] at hans
  exact hans

/-! ## A debug action that is heard (R305, R306) -/

/-- An action of the attached debugger that is allowed is carried out, and its answer is among what is sent. -/
theorem execDebug_heard {code : Nat} {al : Debugger → State → Option Status} {act : Debugger → State → Status × List Byte × State}
    (h : DebugHeard code (s.elapse dt) p x g) (ha : al g ((s.elapse dt).noted p x) = none) :
    execDebug code dt p al act s = .next ((act g ((s.elapse dt).noted p x)).2.2.debugAnswer (reqOf p) x.key
      (act g ((s.elapse dt).noted p x)).1 (act g ((s.elapse dt).noted p x)).2.1) := by
  have hplace : (p.via == .plant || (s.elapse dt).mode == .m0 || (s.elapse dt).mbx.restarting.isSome) = false := by
    rw [h.service, beq_eq_false_iff_ne.mpr h.awake.1, h.awake.2]
    rfl
  have hauthentic : ¬ (x.via ≠ (reqOf p).via ∨ x.addr ≠ (reqOf p).addr ∨
      (hmac x.key ((reqOf p).head ++ (reqOf p).body)).take 16 ≠ (reqOf p).mac ∨
      (match x.counter with | none => (reqOf p).counter != 1 | some k => decide ((reqOf p).counter ≤ k)) = true) := by
    rintro (hv | hv | hv | hv)
    · exact hv h.bound.1
    · exact hv h.bound.2
    · exact hv h.mac
    · have hfresh := h.fresh
      cases hc : x.counter with
      | none =>
        rw [hc] at hv hfresh
        simp only [hfresh, bne_self_eq_false, Bool.false_eq_true] at hv
      | some k =>
        rw [hc] at hv hfresh
        exact absurd (of_decide_eq_true hv) (Nat.not_le.mpr hfresh)
  have hmine : ¬ codeIs code p.data = false := by
    rw [codeIs_of h.code]
    decide
  unfold execDebug
  rw [assemble_whole _ h.whole]
  dsimp only
  rw [if_neg hmine, if_neg (by rw [hplace]; exact Bool.false_ne_true), if_neg (by rw [h.good]; exact Bool.false_ne_true),
    show parseReq p.via p.addr p.port p.data = reqOf p from rfl, h.open_]
  dsimp only
  refine (if_neg hauthentic).trans ?_
  rw [show (s.elapse dt).modSession x.id (fun y => { y with counter := some (reqOf p).counter, lastTick := (s.elapse dt).tick }) =
    (s.elapse dt).noted p x from rfl, show ((s.elapse dt).noted p x).lk.debugger = some g from h.attached]
  dsimp only
  rw [if_neg (not_not_intro h.mine), if_neg (by rw [show ((s.elapse dt).noted p x).replayFull g = false from h.room]; decide), ha]

end Sys2Proof.Machine
end

section
/-!
PROOFS. Debug actions (R306, R308, R309, R345): what an action leaves once its answer is sent, and its record in the reading room.
-/
namespace Sys2Proof.Machine

variable {dt code : Nat} {p : Packet} {x : Session} {g : Debugger} {s : State}
  {al : Debugger → State → Option Status} {act : Debugger → State → Status × List Byte × State}

/-! ## The answer, and the record in the reading room -/

theorem execDebug_answers {st : Status} {b : List Byte} {v : State} {i : Instr}
    (hi : exec i s = execDebug code dt p al act s) (h : DebugHeard code (s.elapse dt) p x g)
    (ha : al g ((s.elapse dt).noted p x) = none) (hact : act g ((s.elapse dt).noted p x) = (st, b, v)) (hmu : v.mu = s.mu) :
    ∃ t, exec i s = .next t ∧ t.body = v.body ∧ t.ev = v.ev ∧ DebugAnswers t p x s.mode s.role st b := by
  refine ⟨_, hi.trans (execDebug_heard h ha), ?_⟩
  rw [hact]
  refine ⟨rfl, rfl, ?_⟩
  have hmode : v.mode = s.mode := congrArg ModeUnit.mode hmu
  have hrole : v.role = s.role := congrArg ModeUnit.role hmu
  rw [← hmode, ← hrole]
  exact List.mem_append_right _ (List.mem_singleton_self _)

/-- The attached debugger is `g`. -/
def State.withDebugger (s : State) (g : Debugger) : State := { s with lk := { s.lk with debugger := some g } }

/-- The record in the reading room changes nothing but the debugger's count of actions. -/
theorem readingRoom_body (c addr : Nat) (record : Bool) (vals : List Byte) (hg : s.lk.debugger = some g) :
    ∃ k n, (s.readingRoom g c addr record vals).body = (s.withDebugger { g with lastTick := k, actions := n }).body := by
  unfold State.readingRoom
  split
  · exact ⟨g.lastTick, g.actions, by rw [State.withDebugger, ← hg]⟩
  · have hv := raise_body { s with free := s.free + 1 } 71
      [(1, g.pair), (2, c), (5, addr), (8, Config.freeValue s.free % 2 ^ 64)]
    dsimp only [State.takeFree]
    generalize State.raise _ 71 _ = v at hv ⊢
    let y : Debugger := { g with lastTick := v.tick, actions := if g.lastTick = v.tick then g.actions + 1 else 1 }
    have hy : (v.withDebugger y).body = (s.withDebugger y).body := congrArg (State.withDebugger · y) hv
    refine ⟨v.tick, y.actions, ?_⟩
    split
    · exact (archMandatory_body _ _ _ _ _ _ _).trans hy
    · exact hy

/-- An action that is carried out and recorded leaves what it did, but for the count of the debugger's actions. -/
theorem execDebug_records {b : List Byte} {w : State} {y : Debugger} {c addr : Nat} {record : Bool} {vals : List Byte}
    {i : Instr} (hi : exec i s = execDebug code dt p al act s) (h : DebugHeard code (s.elapse dt) p x g)
    (ha : al g ((s.elapse dt).noted p x) = none)
    (hact : act g ((s.elapse dt).noted p x) = (.ok, b, w.readingRoom y c addr record vals)) (hy : w.lk.debugger = some y)
    (hmu : w.mu = s.mu) :
    ∃ t k n, exec i s = .next t ∧
      t.lk = { w.lk with debugger := some { y with lastTick := k, actions := n } } ∧ t.tk = w.tk ∧
      DebugAnswers t p x s.mode s.role .ok b := by
  obtain ⟨k, n, hbody⟩ := readingRoom_body c addr record vals hy
  obtain ⟨t, ht, htbody, -, hans⟩ := execDebug_answers hi h ha hact ((congrArg State.mu hbody :).trans hmu)
  exact ⟨t, k, n, ht, (congrArg State.lk (htbody.trans hbody) :), (congrArg State.tk (htbody.trans hbody) :), hans⟩

/-! ## DEBUG_READ_REGISTERS (R306) -/

/-- One register more is read: a free value where none stands (log 8). -/
def readRegister (g : Debugger) : List Byte × State → Nat → List Byte × State := fun (l, s) k =>
  let key := g.pair * 65536 + k
  match tlook s.lk.regs key with
  | some v => (l ++ beBytes 8 v.toNat, s)
  | none =>
    let (v, s) := State.takeFree s
    let v : U64 := BitVec.ofNat 64 v
    let s := if g.halted then { s with lk := { s.lk with regs := tput s.lk.regs key v } } else s
    (l ++ beBytes 8 v.toNat, s)

/-- What reading the first `m` registers from the state `s` gives, and leaves. -/
structure RegistersRead (g : Debugger) (s : State) (m : Nat) (r : List Byte × State) : Prop where
  length : r.1.length = 8 * m
  values : ∀ k < m, ∀ v, tlook s.lk.regs (g.pair * 65536 + k) = some v → slice r.1 (8 * k) 8 = beBytes 8 v.toNat
  ahead : ∀ k ≥ m, tlook r.2.lk.regs (g.pair * 65536 + k) = tlook s.lk.regs (g.pair * 65536 + k)
  debugger : r.2.lk.debugger = s.lk.debugger
  mu : r.2.mu = s.mu

theorem beBytes_length (n v : Nat) : (beBytes n v).length = n := by
  rw [beBytes, List.length_map, List.length_range]

theorem slice_append_self (l r : List Byte) : slice (l ++ r) l.length r.length = r := by
  rw [slice, List.drop_left, List.take_length]

/-- A register that stands reads as it is; one that does not is a free value, kept where the core is halted. -/
theorem readRegister_reads (g : Debugger) (r : List Byte × State) (k : Nat) :
    ∃ v : U64, (readRegister g r k).1 = r.1 ++ beBytes 8 v.toNat ∧
      (∀ w, tlook r.2.lk.regs (g.pair * 65536 + k) = some w → v = w) ∧
      (∀ j ≠ g.pair * 65536 + k, tlook (readRegister g r k).2.lk.regs j = tlook r.2.lk.regs j) ∧
      (readRegister g r k).2.lk.debugger = r.2.lk.debugger ∧ (readRegister g r k).2.mu = r.2.mu := by
  obtain ⟨l, u⟩ := r
  dsimp only [readRegister]
  cases hv : tlook u.lk.regs (g.pair * 65536 + k) with
  | some v => exact ⟨v, rfl, fun w hw => Option.some.inj hw, fun _ _ => rfl, rfl, rfl⟩
  | none =>
    refine ⟨_, rfl, nofun, fun j hj => ?_, ?_, ?_⟩
    · dsimp only
      split
      · exact tlook_tput_ne _ hj _
      · rfl
    all_goals
      dsimp only
      split <;> rfl

theorem RegistersRead.next {m : Nat} {r : List Byte × State} (h : RegistersRead g s m r) :
    RegistersRead g s (m + 1) (readRegister g r m) := by
  obtain ⟨v, hbytes, hv, hother, hdebugger, hmu⟩ := readRegister_reads g r m
  refine ⟨?_, fun k hk w hw => ?_, fun k hk => ?_, hdebugger.trans h.debugger, hmu.trans h.mu⟩
  · rw [hbytes, List.length_append, h.length, beBytes_length, Nat.mul_succ]
  · rw [hbytes]
    rcases Nat.lt_succ_iff_lt_or_eq.mp hk with hlt | rfl
    · rw [Tests.slice_left _ (by rw [h.length]; omega)]
      exact h.values k hlt w hw
    · rw [hv w ((h.ahead k le_rfl).trans hw), ← h.length]
      exact (congrArg (slice _ _) (beBytes_length 8 _).symm).trans (slice_append_self _ _)
  · rw [hother _ (by omega)]
    exact h.ahead k (by omega)

theorem readRegisters (g : Debugger) (s : State) (m : Nat) :
    RegistersRead g s m ((List.range m).foldl (readRegister g) ([], s)) := by
  induction m with
  | zero => exact ⟨rfl, nofun, fun _ _ => rfl, rfl, rfl⟩
  | succ m ih =>
    rw [List.range_succ, List.foldl_concat]
    exact ih.next

theorem exec_debugReadRegisters (dt : Nat) (p : Packet) (count : Nat) (s : State) :
    exec (.debugReadRegisters dt p count) s = execDebug 0x0001 dt p (fun _ _ => none) (fun g s =>
      (.ok, ((List.range (min count 64)).foldl (readRegister g) ([], s)).1,
        ((List.range (min count 64)).foldl (readRegister g) ([], s)).2.readingRoom g 1 0 false [])) s := rfl

theorem debugReadRegisters_reads {count : Nat} (h : DebugHeard 0x0001 (s.elapse dt) p x g) :
    ∃ t b, exec (.debugReadRegisters dt p count) s = .next t ∧ DebugAnswers t p x s.mode s.role .ok b ∧
      b.length = 8 * min count 64 ∧
      ∀ k < min count 64, ∀ v, tlook s.lk.regs (g.pair * 65536 + k) = some v → slice b (8 * k) 8 = beBytes 8 v.toNat := by
  have hread := readRegisters g ((s.elapse dt).noted p x) (min count 64)
  obtain ⟨t, k, n, ht, -, -, hans⟩ := execDebug_records (exec_debugReadRegisters dt p count s) h rfl rfl
    (hread.debugger.trans h.attached) hread.mu
  exact ⟨t, _, ht, hans, hread.length, hread.values⟩

/-! ## DEBUG_READ_MEMORY (R306, R345) -/

/-- One byte as the debug master reads it. -/
def State.readByte (s : State) (a : Area) (task addr : Nat) : Byte × State :=
  if a = .ownState then (tget (s.task task).area addr 0#8, s)
  else match tlook s.lk.dram addr with
    | some b => (b, s)
    | none => (BitVec.ofNat 8 (State.takeFree s).1, (State.takeFree s).2)

theorem dramRead_succ (s : State) (a : Area) (task addr n : Nat) : s.dramRead a task addr (n + 1) =
    ((s.readByte a task addr).1 :: ((s.readByte a task addr).2.dramRead a task (addr + 1) n).1,
      ((s.readByte a task addr).2.dramRead a task (addr + 1) n).2) := rfl

theorem readByte_own (s : State) (task addr : Nat) : (s.readByte .ownState task addr).1 = tget (s.task task).area addr 0 := rfl

theorem readByte_written {a : Area} (ha : a ≠ .ownState) (task : Nat) {addr : Nat} {v : Byte} (hv : tlook s.lk.dram addr = some v) :
    (s.readByte a task addr).1 = v := by
  unfold State.readByte
  rw [if_neg ha, hv]

theorem readByte_body (s : State) (a : Area) (task addr : Nat) : (s.readByte a task addr).2.body = s.body := by
  unfold State.readByte
  split
  · rfl
  · cases tlook s.lk.dram addr <;> rfl

theorem dramRead_body (s : State) (a : Area) (task addr n : Nat) : (s.dramRead a task addr n).2.body = s.body := by
  induction n generalizing s addr with
  | zero => rfl
  | succ n ih =>
    rw [dramRead_succ]
    exact (ih _ _).trans (readByte_body s a task addr)

theorem dramRead_length (s : State) (a : Area) (task addr n : Nat) : (s.dramRead a task addr n).1.length = n := by
  induction n generalizing s addr with
  | zero => rfl
  | succ n ih => rw [dramRead_succ, List.length_cons, ih]

theorem dramRead_own (s : State) (task addr : Nat) {n i : Nat} (hi : i < n) :
    (s.dramRead .ownState task addr n).1.getD i 0 = tget (s.task task).area (addr + i) 0 := by
  induction n generalizing s addr i with
  | zero => cases hi
  | succ n ih =>
    rw [dramRead_succ]
    cases i with
    | zero => exact readByte_own s task addr
    | succ i =>
      rw [List.getD_cons_succ, ih _ _ (Nat.lt_of_succ_lt_succ hi), Nat.add_right_comm]
      rfl

theorem dramRead_written {a : Area} (ha : a ≠ .ownState) (task addr : Nat) {n i : Nat} (hi : i < n) {v : Byte}
    (hv : tlook s.lk.dram (addr + i) = some v) : (s.dramRead a task addr n).1.getD i 0 = v := by
  induction n generalizing s addr i with
  | zero => cases hi
  | succ n ih =>
    rw [dramRead_succ]
    cases i with
    | zero => exact readByte_written ha task hv
    | succ i =>
      rw [List.getD_cons_succ]
      refine ih (addr + 1) (Nat.lt_of_succ_lt_succ hi) ?_
      have hdram : (s.readByte a task addr).2.lk.dram = s.lk.dram := (congrArg (·.lk.dram) (readByte_body s a task addr) :)
      rw [hdram, Nat.add_right_comm]
      exact hv

section
variable {task addr len : Nat} {a : Area}

theorem exec_debugReadMemory (dt : Nat) (p : Packet) (a : Area) (task addr len : Nat) (s : State) :
    exec (.debugReadMemory dt p a task addr len) s = execDebug 0x0003 dt p (fun _ _ => memRefused a task len 4096) (fun g s =>
      if s.touchesSeal a addr len then (.sealed_, List.replicate len 0#8, s.sealedDebug g addr len)
      else (.ok, (s.dramRead a task addr len).1, (s.dramRead a task addr len).2.readingRoom g 3 addr false [])) s := rfl

theorem debugReadMemory_reads (h : DebugHeard 0x0003 (s.elapse dt) p x g) (ha : memRefused a task len 4096 = none)
    (hs : s.touchesSeal a addr len = false) :
    ∃ t b, exec (.debugReadMemory dt p a task addr len) s = .next t ∧ DebugAnswers t p x s.mode s.role .ok b ∧
      b.length = len ∧
      (a = .ownState → ∀ i < len, b.getD i 0 = tget (s.task task).area (addr + i) 0) ∧
      (a ≠ .ownState → ∀ i < len, ∀ v, tlook s.lk.dram (addr + i) = some v → b.getD i 0 = v) := by
  let u := (s.elapse dt).noted p x
  have hbody := dramRead_body u a task addr len
  obtain ⟨t, k, n, ht, -, -, hans⟩ := execDebug_records (exec_debugReadMemory dt p a task addr len s) h ha
    (if_neg (ne_true_of_eq_false hs)) ((congrArg (·.lk.debugger) hbody :).trans h.attached)
    (congrArg State.mu hbody :)
  refine ⟨t, _, ht, hans, dramRead_length u a task addr len, ?_, fun hother i hi v hv => dramRead_written hother task addr hi hv⟩
  rintro rfl i hi
  exact dramRead_own u task addr hi

/-- A sealed granule reads as zeros, with EV101 (R345). -/
theorem debugReadMemory_sealed (h : DebugHeard 0x0003 (s.elapse dt) p x g) (ha : memRefused a task len 4096 = none)
    (hs : s.touchesSeal a addr len = true) :
    ∃ t, exec (.debugReadMemory dt p a task addr len) s = .next t ∧
      DebugAnswers t p x s.mode s.role .sealed_ (List.replicate len 0) ∧
      Occurs (s.elapse dt) t 101 [(1, g.pair), (4, g.session.toNat), (8, addr), (2, len)] := by
  let u := (s.elapse dt).noted p x
  have hbody : (u.sealedDebug g addr len).body = u.body := raiseWith_body u 101 _ true _
  obtain ⟨t, ht, -, hev, hans⟩ := execDebug_answers (exec_debugReadMemory dt p a task addr len s) h ha (if_pos hs)
    (congrArg State.mu hbody :)
  exact ⟨t, ht, hans, occurs_raiseWith (u := u) (congrArg Events.src hev) rfl rfl rfl⟩

end

/-! ## DEBUG_WRITE_REGISTER and DEBUG_WRITE_MEMORY (R306, R309) -/

theorem exec_debugWriteRegister (dt : Nat) (p : Packet) (reg : Nat) (v : U64) (s : State) :
    exec (.debugWriteRegister dt p reg v) s = execDebug 0x0002 dt p
      (fun g _ => if !g.halted then some .stateRefused else if 65535 < reg then some .range else none)
      (fun g s => (.ok, [], ({ s with lk := { s.lk with regs := tput s.lk.regs (g.pair * 65536 + reg) v } } : State).readingRoom
        g 2 reg true (leBytes 8 v.toNat))) s := rfl

theorem debugWriteRegister_writes {reg : Nat} (v : U64) (h : DebugHeard 0x0002 (s.elapse dt) p x g) (hh : g.halted = true)
    (hr : reg ≤ 65535) :
    ∃ t, exec (.debugWriteRegister dt p reg v) s = .next t ∧ t.lk.regs = tput s.lk.regs (g.pair * 65536 + reg) v ∧
      DebugAnswers t p x s.mode s.role .ok [] := by
  have ha : (if (!g.halted) = true then some Status.stateRefused else if 65535 < reg then some .range else none) = none := by
    rw [hh, if_neg (by decide), if_neg (by omega)]
  obtain ⟨t, k, n, ht, hlk, -, hans⟩ := execDebug_records (exec_debugWriteRegister dt p reg v s) h ha rfl h.attached rfl
  exact ⟨t, ht, congrArg Lockstep.regs hlk, hans⟩

/-- The write a debugger makes in an unsealed area: later, in the gap between two cycles, where the task may run. -/
def State.debugStores (s : State) (a : Area) (task addr : Nat) (bytes : List Byte) : State :=
  if a = .ownState then
    if s.mode == .m4 || s.mode == .m5 || s.mode == .m6 then
      { s with lk := { s.lk with writes := s.lk.writes ++ [⟨task, addr, bytes⟩] } }
    else s.writeArea task addr bytes
  else
    { s with lk := { s.lk with dram := (bytes.zipIdx).foldl (fun t (b, i) => tput t (addr + i) b) s.lk.dram } }

section
variable {task addr : Nat} {bytes : List Byte} {a : Area}

theorem debugStores_around (s : State) (a : Area) (task addr : Nat) (bytes : List Byte) :
    (s.debugStores a task addr bytes).lk.debugger = s.lk.debugger ∧ (s.debugStores a task addr bytes).mu = s.mu := by
  unfold State.debugStores
  split
  · split
    · exact ⟨rfl, rfl⟩
    · exact ⟨(kept (fun _ hm => writeArea_view s task addr bytes hm) .lockstep (by decide) : Part.same s _ .lockstep).2.1,
        (kept (fun _ hm => writeArea_view s task addr bytes hm) .mu (by decide) : Part.same s _ .mu)⟩
  · exact ⟨rfl, rfl⟩

theorem debugStores_waits (hm : s.mode = .m4 ∨ s.mode = .m5 ∨ s.mode = .m6) : s.debugStores .ownState task addr bytes =
    { s with lk := { s.lk with writes := s.lk.writes ++ [⟨task, addr, bytes⟩] } } := by
  have hruns : (s.mode == .m4 || s.mode == .m5 || s.mode == .m6) = true := by
    rcases hm with h | h | h <;> rw [h] <;> rfl
  exact (if_pos rfl).trans (if_pos hruns)

theorem debugStores_now (h4 : s.mode ≠ .m4) (h5 : s.mode ≠ .m5) (h6 : s.mode ≠ .m6) :
    s.debugStores .ownState task addr bytes = s.writeArea task addr bytes := by
  have hstands : ¬ (s.mode == .m4 || s.mode == .m5 || s.mode == .m6) = true := by
    rw [beq_eq_false_iff_ne.mpr h4, beq_eq_false_iff_ne.mpr h5, beq_eq_false_iff_ne.mpr h6]
    exact Bool.false_ne_true
  exact (if_pos rfl).trans (if_neg hstands)

theorem debugStores_dram (ha : a ≠ .ownState) (j : Nat) : tlook (s.debugStores a task addr bytes).lk.dram j =
    if addr ≤ j ∧ j < addr + bytes.length then bytes[j - addr]? else tlook s.lk.dram j := by
  unfold State.debugStores
  rw [if_neg ha]
  exact tlook_written addr bytes 0 j s.lk.dram

theorem exec_debugWriteMemory (dt : Nat) (p : Packet) (a : Area) (task addr : Nat) (bytes : List Byte) (s : State) :
    exec (.debugWriteMemory dt p a task addr bytes) s =
      execDebug 0x0004 dt p (fun _ _ => memRefused a task bytes.length 64) (fun g s =>
        if s.touchesSeal a addr bytes.length then (.sealed_, [], s.sealedDebug g addr bytes.length)
        else (.ok, [], (s.debugStores a task addr bytes).readingRoom g 4 addr true bytes)) s := rfl

theorem debugWriteMemory_writes (h : DebugHeard 0x0004 (s.elapse dt) p x g) (ha : memRefused a task bytes.length 64 = none)
    (hs : s.touchesSeal a addr bytes.length = false) :
    ∃ t, exec (.debugWriteMemory dt p a task addr bytes) s = .next t ∧ DebugAnswers t p x s.mode s.role .ok [] ∧
      (a = .ownState → s.mode = .m4 ∨ s.mode = .m5 ∨ s.mode = .m6 →
        t.lk.writes = s.lk.writes ++ [⟨task, addr, bytes⟩] ∧ t.tk = s.tk) ∧
      (a = .ownState → s.mode ≠ .m4 → s.mode ≠ .m5 → s.mode ≠ .m6 →
        (t.task task).area = areaPut (s.task task).area addr bytes) ∧
      (a ≠ .ownState → (∀ i < bytes.length, tlook t.lk.dram (addr + i) = some (bytes.getD i 0)) ∧
        ∀ j, j < addr ∨ addr + bytes.length ≤ j → tlook t.lk.dram j = tlook s.lk.dram j) := by
  let u := (s.elapse dt).noted p x
  obtain ⟨hdebugger, hmu⟩ := debugStores_around u a task addr bytes
  obtain ⟨t, k, n, ht, hlk, htk, hans⟩ := execDebug_records (w := u.debugStores a task addr bytes)
    (exec_debugWriteMemory dt p a task addr bytes s) h ha
    (if_neg (ne_true_of_eq_false hs))
    (hdebugger.trans h.attached) hmu
  refine ⟨t, ht, hans, ?_, ?_, fun hother => ?_⟩
  · rintro rfl hm
    rw [debugStores_waits (s := u) hm] at hlk htk
    exact ⟨congrArg Lockstep.writes hlk, htk⟩
  · rintro rfl h4 h5 h6
    rw [debugStores_now (s := u) h4 h5 h6] at htk
    obtain ⟨hash, hwritten⟩ := writeArea_task u task addr bytes
    exact (congrArg (fun k : Tasks => (tget k.task task {}).area) htk).trans (congrArg Task.area hwritten)
  · have hdram : ∀ j, tlook t.lk.dram j = if addr ≤ j ∧ j < addr + bytes.length then bytes[j - addr]? else tlook s.lk.dram j :=
      fun j => (congrArg (fun l : Lockstep => tlook l.dram j) hlk).trans (debugStores_dram hother j)
    refine ⟨fun i hi => ?_, fun j hj => ?_⟩
    · rw [hdram, if_pos (by omega), Nat.add_sub_cancel_left, List.getElem?_eq_getElem hi, List.getD_eq_getElem _ _ hi]
    · rw [hdram, if_neg (by omega)]

end

/-! ## The debugger's own record: break- and tracepoints, halt, resume and step (R306) -/

theorem inSim_allows (hm : s.mode = .m8) : inSim g s = none := if_pos hm

/-- The attached debugger with other breakpoints. -/
def Debugger.withBreakpoint (g : Debugger) (addr : Nat) (on : Bool) : Debugger :=
  { g with breakpoints := if on then g.breakpoints.filter (· != addr) ++ [addr] else g.breakpoints.filter (· != addr) }

/-- The attached debugger with other tracepoints. -/
def Debugger.withTracepoint (g : Debugger) (addr : Nat) (on : Bool) : Debugger :=
  { g with tracepoints := if on then g.tracepoints.filter (· != addr) ++ [addr] else g.tracepoints.filter (· != addr) }

theorem exec_debugBreakpoint (dt : Nat) (p : Packet) (addr : Nat) (on : Bool) (s : State) :
    exec (.debugBreakpoint dt p addr on) s = execDebug 0x0005 dt p inSim (fun g s =>
      (.ok, [], ({ s with lk := { s.lk with debugger := some (g.withBreakpoint addr on) } } : State).readingRoom
        (g.withBreakpoint addr on) 5 addr false [])) s := rfl

theorem exec_debugTracepoint (dt : Nat) (p : Packet) (addr : Nat) (on : Bool) (s : State) :
    exec (.debugTracepoint dt p addr on) s = execDebug 0x0007 dt p (fun _ _ => none) (fun g s =>
      (.ok, [], ({ s with lk := { s.lk with debugger := some (g.withTracepoint addr on) } } : State).readingRoom
        (g.withTracepoint addr on) 7 addr false [])) s := rfl

theorem debugBreakpoint_sets (addr : Nat) (on : Bool) (h : DebugHeard 0x0005 (s.elapse dt) p x g) (hm : s.mode = .m8) :
    ∃ t y, exec (.debugBreakpoint dt p addr on) s = .next t ∧ t.lk.debugger = some y ∧
      y.breakpoints = g.breakpoints.filter (· != addr) ++ (if on then [addr] else []) ∧
      DebugAnswers t p x s.mode s.role .ok [] := by
  obtain ⟨t, k, n, ht, hlk, -, hans⟩ := execDebug_records (exec_debugBreakpoint dt p addr on s) h (inSim_allows hm) rfl rfl rfl
  refine ⟨t, _, ht, congrArg Lockstep.debugger hlk, ?_, hans⟩
  cases on with
  | true => rfl
  | false => exact (List.append_nil _).symm

theorem debugTracepoint_sets (addr : Nat) (on : Bool) (h : DebugHeard 0x0007 (s.elapse dt) p x g) :
    ∃ t y, exec (.debugTracepoint dt p addr on) s = .next t ∧ t.lk.debugger = some y ∧
      y.tracepoints = g.tracepoints.filter (· != addr) ++ (if on then [addr] else []) ∧
      DebugAnswers t p x s.mode s.role .ok [] := by
  obtain ⟨t, k, n, ht, hlk, -, hans⟩ := execDebug_records (exec_debugTracepoint dt p addr on s) h rfl rfl rfl rfl
  refine ⟨t, _, ht, congrArg Lockstep.debugger hlk, ?_, hans⟩
  cases on with
  | true => rfl
  | false => exact (List.append_nil _).symm

theorem exec_debugHalt (dt : Nat) (p : Packet) (s : State) : exec (.debugHalt dt p) s =
    execDebug 0x0006 dt p inSim (fun g s =>
      (.ok, [], (s.debugHalt g true s.lk.regs).readingRoom { g with halted := true } 6 0 true [])) s := rfl

theorem exec_debugResume (dt : Nat) (p : Packet) (s : State) : exec (.debugResume dt p) s =
    execDebug 0x0006 dt p inSim (fun g s =>
      (.ok, [], (s.debugHalt g false []).readingRoom { g with halted := false } 6 0 false [])) s := rfl

theorem exec_debugStep (dt : Nat) (p : Packet) (regs : List (Nat × U64)) (s : State) : exec (.debugStep dt p regs) s =
    execDebug 0x0006 dt p inSim (fun g s =>
      (.ok, [], (s.debugHalt g true (regs.foldl (fun l r => tput l (g.pair * 65536 + r.1 % 65536) r.2) s.lk.regs)).readingRoom
        { g with halted := true } 6 0 true [])) s := rfl

/-- A debugger that halts or frees its core, the registers being `regs` then. -/
theorem execDebug_halts {on record : Bool} {regs : Tab U64} {i : Instr}
    (hi : exec i s = execDebug 0x0006 dt p inSim act s) (h : DebugHeard 0x0006 (s.elapse dt) p x g) (hm : s.mode = .m8)
    (hact : act g ((s.elapse dt).noted p x) =
      (.ok, [], (((s.elapse dt).noted p x).debugHalt g on regs).readingRoom { g with halted := on } 6 0 record [])) :
    ∃ t y, exec i s = .next t ∧ t.lk.debugger = some y ∧ y.halted = on ∧ t.lk.regs = regs ∧
      DebugAnswers t p x s.mode s.role .ok [] := by
  obtain ⟨t, k, n, ht, hlk, -, hans⟩ := execDebug_records hi h (inSim_allows hm) hact rfl rfl
  exact ⟨t, _, ht, congrArg Lockstep.debugger hlk, rfl, congrArg Lockstep.regs hlk, hans⟩

end Sys2Proof.Machine
end

section
open Sys2Proof Sys2Proof.Machine

/-- Settles O18, row by row: an action's answer and its record in the reading room leave what the action did. -/
theorem debugRowsComplete : Obligations.DebugRowsComplete := by
  refine ⟨fun _ _ _ _ h => debugAttach_attaches h, fun _ _ _ _ _ h hg => debugDetach_detaches h hg,
    fun _ _ _ _ _ _ h => debugReadRegisters_reads h, fun _ _ v _ _ _ _ h hh hr => debugWriteRegister_writes v h hh hr,
    fun _ _ _ _ _ _ _ _ _ h ha hs => debugReadMemory_reads h ha hs,
    fun _ _ _ _ _ _ _ _ _ h ha hs => debugReadMemory_sealed h ha hs,
    fun _ _ _ _ _ _ _ _ _ h ha hs => debugWriteMemory_writes h ha hs,
    fun _ addr on _ _ _ _ h hm => debugBreakpoint_sets addr on h hm,
    fun dt p _ _ s h hm => execDebug_halts (exec_debugHalt dt p s) h hm rfl,
    fun dt p x g s h hm => ?resume,
    fun dt regs p _ _ s h hm => execDebug_halts (exec_debugStep dt p regs s) h hm rfl,
    fun _ addr on _ _ _ _ h => debugTracepoint_sets addr on h⟩
  case resume =>
    obtain ⟨t, y, ht, hy, hfree, -, hans⟩ := execDebug_halts (exec_debugResume dt p s) h hm rfl
    exact ⟨t, y, ht, hy, hfree, hans⟩

end
